-- ==== Sys2Proof/Word.lean ====
section
/-! DEFINITION. Word.lean: bytes, and the plain natural-number arithmetic every other file builds on. -/

namespace Sys2Proof

/-- One byte of buffer memory or of a wire format. -/
abbrev Byte := BitVec 8

/-- The value kept by a field of `w` bits. -/
def trunc (w v : Nat) : Nat := v % 2 ^ w

/-- Ceiling division. -/
def ceilDiv (a b : Nat) : Nat := (a + b - 1) / b

theorem trunc_lt (w v : Nat) : trunc w v < 2 ^ w := Nat.mod_lt _ (by positivity)

theorem trunc_of_lt {w v : Nat} (h : v < 2 ^ w) : trunc w v = v := Nat.mod_eq_of_lt h

@[simp] theorem trunc_trunc (w v : Nat) : trunc w (trunc w v) = trunc w v :=
  trunc_of_lt (trunc_lt w v)

end Sys2Proof
end

