-- ==== Sys2Proof/Syntax.lean ====
section
/-! DEFINITION. Syntax.lean: the commands of the block, one constructor per row of the operation table, with the operands
that come from outside: the unit concerned, the value written, and what a measurement or a partner answers. -/

namespace Sys2Proof

/-- The supply rails of R26. -/
inductive Rail where
  | vaux | vio | vfein | vcn | vphy09 | vana | vphy12 | vrld
  deriving DecidableEq, Repr

/-- Boundary-scan instructions (R35). -/
inductive JtagInstr where
  | extest | idcode | samplePreload | highz | clamp | bypass
  deriving DecidableEq, Repr

/-- How the programming of a fuse generation that an audit entry releases ends (R523): it reads back, it does not, or VAUX is lost while it
is under way. -/
inductive FuseEnd where
  | good | bad | cut
  deriving DecidableEq, Repr

/-- What a pixel collects before its discriminator rises: the charge its sensor delivers, in elementary charges (positive for holes), and
whether a test pulse injects its own as well (R39, R42, R45). -/
structure Charge where
  pix : Nat
  e : Int
  pulse : Bool
  deriving DecidableEq, Repr

/-- An upset of one copy of a pixel's words: copies 0 to 2 of the active word, 3 to 5 of the shadow word (R46). -/
structure PixUpset where
  row : Nat
  col : Nat
  copy : Nat
  mask : Nat
  deriving DecidableEq, Repr

/-- What a wire check of an entry finds (R309): the excitation current below IMIN; the sense pins and the signal pins, in mV, beside the force
pins; or a signal pin that the test current drives outside its window. -/
inductive WireCheck where
  | current
  | senses (forceP forceN senseP senseN pos neg : Int)
  | openPin (pin : Nat)
  deriving DecidableEq, Repr

/-- A PTP master as its Announce describes it, in the order the default best master clock algorithm compares. -/
structure Master where
  prio1 : Nat
  clockClass : Nat
  accuracy : Nat
  variance : Nat
  prio2 : Nat
  identity : Nat
  steps : Nat
  utcOffset : Nat
  utcValid : Bool
  ptpScale : Bool
  l1sync : Bool
  /-- log2 of its Announce interval in s. -/
  annLog : Int := 0
  deriving DecidableEq, Repr

/-- What every PTP message says of itself: whether it came by UDP over IPv4 (else Ethernet), and its domain (R132). -/
structure PtpHdr where
  udp : Bool
  domain : Nat
  deriving DecidableEq, Repr

/-- What the trailer of a received frame says (R385). -/
structure Trailer where
  back : Nat
  pack : Nat
  bnak : Bool
  pnak : Bool
  credit : Nat
  /-- The HCRC and the CRC that came with the frame, and how many idle words stood right before it. -/
  hcrc : Nat
  crc : Nat
  idles : Nat
  deriving DecidableEq, Repr

/-- What a TRAIN request asks of one tap (R382). -/
inductive Tap where
  | hold | inc | dec
  deriving DecidableEq, Repr

/-- What a TRAIN frame carries (R382): a request for c−1 and c+1, a request for the preset, a status, or DONE. -/
inductive TrainMsg where
  | request (m1 p1 : Tap)
  | preset
  | status
  | done
  deriving DecidableEq, Repr

/-- A word of the voted configuration, by kind (R263, R264): a wick's entry, a group input (group * 64 + input), a condition's map
entry, a region-map entry, a topology word, a reload's shadow, or a register field by its number, instance and bank. -/
inductive ScrubKind where
  | wick (w : Nat) | gin (k : Nat) | cond (c : Nat) | rmap (b : Nat) | topo | shadow
  | reg (id i j : Nat)
  deriving DecidableEq, Repr

/-- What stage 5 finds on one channel (R457, R458, R460, R476): whether a device answers, its organisation (two x18) and density
(2.25 Gbit), the highest rate it trains at (1 to 3, 0 none), and its two self-tests. -/
structure ChanTest where
  present : Bool
  x18 : Bool
  dens : Bool
  rate : Nat
  chkOk : Bool
  rtOk : Bool
  deriving DecidableEq, Repr

/-- What the work of a start stage finds (R488): nothing outside; the cores that pass; SRAM arrays with the rows and columns of defects
that no fuse covers; whether the store and a boot record are found, whether the copies of the audit log differ, and what the safety
channels find of their records (0 good, 2 a check failed, 3 they differ); slots whose firmware does not start; the channels; whether VFE is
in regulation, vias that fail by group kind and tile, and recorded units that pass their retest; the skew delays and such units; and an
error of a section as it is read again. -/
inductive StageResult where
  | plain
  | cores (pass : List Bool)
  | sram (arrays : List (Nat × Nat × Nat))
  | store (found logsDiffer : Bool) (saf : Nat)
  | firmware (dead : List Nat)
  | channels (l : List ChanTest)
  | power (vfeOk : Bool) (vias : List (Nat × Nat × Nat)) (passed : List (Nat × Nat))
  | skew (delays : List Nat) (passed : List (Nat × Nat))
  | sections (err : Nat)
  deriving DecidableEq, Repr

/-- The commands. -/
inductive Instr where
  /-- VAUX_RISE (R482): VAUX rising through 3.0 V causes a power-on reset of the whole module, always-on domain included. -/
  | vauxRise
  /-- VAUX_FALL (R483): VAUX falling below 3.0 V loses the always-on domain, so the next rise is a power-on reset. -/
  | vauxFall
  /-- RAIL_RISE (R28): A supply rail rises into its operating range during power-up. -/
  | railRise (r : Rail)
  /-- RAIL_OUT_OF_RANGE (R31): A rail leaves its range while the module runs, which raises fault 0x01. -/
  | railOutOfRange (r : Rail)
  /-- RESET_N_ACCEPT (R484): A low on RESET_N of 10 µs or more is accepted, and the module enters reset within 2 µs with its outputs in the reset state. -/
  | resetNAccept (lowNs : Nat)
  /-- RESET_N_BOUNCE (R485): A low pulse shorter than 5 µs during the settling millisecond restarts that millisecond and counts in BOOT_LAST.BOUNCE. -/
  | resetNBounce (heldMs : Nat)
  /-- RESET_N_RISE (R33): RESET_N rises; BOOT_SEL and TEST_MODE are sampled and the straps are latched. -/
  | resetNRise (bootSel : Nat) (testMode : Bool) (heldMs : Nat)
  /-- START_BEGIN (R485): RESET_N has stayed high for 1 ms without interruption, and the start runs from stage 0. -/
  | startBegin
  /-- JTAG_EXTEST (R36): The EXTEST instruction becomes current; the safe outputs are off, and when RESET_N is high the module enters reset. -/
  | jtagExtest (tdi : List Bool)
  /-- JTAG_CLAMP (R36): The CLAMP instruction becomes current, with the same reset and safe-output effect as EXTEST. -/
  | jtagClamp (tdi : List Bool)
  /-- JTAG_HIGHZ (R36): The HIGHZ instruction becomes current, with the same reset and safe-output effect as EXTEST. -/
  | jtagHighz (tdi : List Bool)
  /-- JTAG_IDCODE (R35): The IDCODE instruction becomes current and selects the IDCODE register, 0x1410_2BB5. -/
  | jtagIdcode (tdi : List Bool)
  /-- JTAG_SAMPLE_PRELOAD (R35): The SAMPLE/PRELOAD instruction becomes current for the boundary cells. -/
  | jtagSamplePreload (tdi : List Bool)
  /-- JTAG_BYPASS (R35): BYPASS, or any undefined opcode, becomes current. -/
  | jtagBypass (opcode : Nat) (tdi : List Bool)
  /-- JTAG_TEST_LOGIC_RESET (R36): A test-logic reset by TRST_N or TMS selects IDCODE. -/
  | jtagTestLogicReset
  /-- START_STAGE_COMPLETE (R488): A start stage completes its work and check, and the next stage begins. -/
  | startStageComplete (len : Nat) (found : StageResult)
  /-- START_STAGE_TIMEOUT (R488): A start stage exceeds its limit, which ends the start with code 0x08. -/
  | startStageTimeout
  /-- FAILED_START_HOLD_END (R491): The 100 ms hold after a failed start ends, and the module makes a module reset. -/
  | failedStartHoldEnd
  /-- FAILCNT_CLEAR_TIMEOUT (R492): 60 s after stage 10 pass without a pin or module reset, and the failed-start count returns to 0. -/
  | failcntClearTimeout
  /-- BOOT_RESTART (R495): A write of BOOT_CTRL.RESTART makes a module reset, and leaves pilot-light mode. -/
  | bootRestart
  /-- BOOT_PILOT (R495): A write of BOOT_CTRL.PILOT enters pilot-light mode through a module reset. -/
  | bootPilot
  /-- CORE_DISAGREE (R496): A voting lamplighter core disagrees with the majority and is resynchronised from the voted state. -/
  | coreDisagree (core hs : Nat)
  /-- LAMPLIGHTER_WATCHDOG (R499): The firmware has not signalled progress for 100 ms, which raises fault 0x04. -/
  | lamplighterWatchdog
  /-- REFCLK_LOSS (R499): REFCLK has no edge for 1 µs or is more than 1 % off frequency, which raises fault 0x02. -/
  | refclkLoss
  /-- JUNCTION_OVERTEMP (R499): A junction rises above 100 °C: fault 0x0A, the discriminators are gated and VFE falls to 0.70 V. -/
  | junctionOvertemp (die : Nat)
  /-- JUNCTION_TEMP_RELEASE (R499): Every junction reads below 90 °C, and the gating and VFE limit of fault 0x0A end. -/
  | junctionTempRelease
  /-- FAULT_HANDLING_END (R501): Handling of a fault ends, and the fault enters the record FIFO. -/
  | faultHandlingEnd
  /-- GEN_FAULT_ACK (R502): A write of GEN_FAULT_ACK.ACK releases FAULT_N once no severity-3 or severity-4 handling remains. -/
  | genFaultAck
  /-- FAULT_RECORD_SNAPSHOT (R510): A read of GEN_FAULT_DT_LO snapshots the head fault record. -/
  | faultRecordSnapshot
  /-- FAULT_RECORD_REMOVE (R510): A read of GEN_FAULT_INFO removes the head fault record. -/
  | faultRecordRemove
  /-- TILE_WAIT_EXPIRE (R504): The tile wait expires, which raises fault 0x07 with the actions of a bundle fault. -/
  | tileWaitExpire (tile : Nat)
  /-- PORT_WAIT_EXPIRE (R504): The port wait expires, which detaches the port and raises fault 0x0D. -/
  | portWaitExpire (port : Nat)
  /-- GEN_CNT_CLR (R510): A write of GEN_CNT_CLR clears the fault counters and LIF_RESYNC in one step. -/
  | genCntClr
  /-- I2C_POINTER_WRITE (R508): An I²C write transaction sets the 16-bit register pointer. -/
  | i2cPointerWrite (slave ptr : Nat)
  /-- I2C_REGISTER_READ (R508): An I²C read returns registers from the pointer onward, advancing it by 4 per register. -/
  | i2cRegisterRead (slave n : Nat)
  /-- KVT_EVALUATION (R536): At each whole millisecond of DT the lamplighter reads VFE and the junction sensors, evaluates k(V,T) and reports it in GEN_KVT. -/
  | kvtEvaluation (meas : Nat) (tj : List Int) (tjc : Int) (pwr : Nat)
  /-- VFE_SET (R548): A write of GEN_VFE.SET starts a ramp of VFE toward the clamped set-point. -/
  | vfeSet (v : Nat)
  /-- VFE_RAMP_END (R536): The VFE ramp reaches its set-point. -/
  | vfeRampEnd
  /-- VFE_PHASE_SWAP (R514): A VFE phase out of share or over temperature is switched off and a spare phase starts in its place. -/
  | vfePhaseSwap (phase : Nat)
  /-- REGISTER_WRITE (R552): A BAR0 write to a register with no row of its own; each field is judged by its access code and class against the state before the write. -/
  | registerWrite (addr val size : Nat)
  /-- EPOCH_BOUNDARY (R121): DT_REF reaches a multiple of 2^21, which begins a new epoch. -/
  | epochBoundary
  /-- DISCRIMINATOR_RISE (R53): A pixel's discriminator leading edge goes through the arbiter tree and starts the active flame of the lowest-numbered free position. -/
  | discriminatorRise (tile sconce : Nat) (pix : List Charge) (sub : Nat)
  /-- FLAME_STOP (R56): A running flame stops at the second following reference edge and converts its count to a corrected interval. -/
  | flameStop (tile sconce flame n : Nat)
  /-- FLAME_HANDOFF (R62): At the sixth edge after its start, or once a word slot frees, a flame hands its leading time to a word slot and becomes free. -/
  | flameHandoff (tile sconce flame : Nat)
  /-- DISCRIMINATOR_FALL (R58): The trailing edge is stamped to 1 ns, which gives ToT. -/
  | discriminatorFall (tile sconce pix sub : Nat)
  /-- TOT_SATURATE (R58): The discriminator is still high 1,023 ns after the leading time, so ToT saturates and the word is formed. -/
  | totSaturate (tile sconce pix : Nat)
  /-- TP_TRAIN_START (R42): A write of TIL_TP_FIRE with non-zero COUNT starts or replaces a test-pulse train. -/
  | tpTrainStart (tile val : Nat)
  /-- TP_TRAIN_STOP (R42): A write of TIL_TP_FIRE with COUNT 0 stops the train. -/
  | tpTrainStop (tile val : Nat)
  /-- TEST_PULSE_INJECT (R42): A scheduled pulse of the train injects charge into TPEN pixels, or is skipped while TP_ARM = 0. -/
  | testPulseInject (tile : Nat)
  /-- PIXEL_SCRUB_VISIT (R46): The tile scrubber visits one pixel's active and shadow words and compares their three copies. -/
  | pixelScrubVisit (tile row col : Nat) (upsets : List PixUpset)
  /-- PCS_WORD_ARRIVE (R48): A configuration-stream word arrives at the stream port from TIL_PCS_DATA or a queue and is checked in its place in the stream. -/
  | pcsWordArrive (src w : Nat)
  /-- RECONFIG_BLANK_END (R51): The 500-ref blank ends, which closes its loss episode of kind 0b100. -/
  | reconfigBlankEnd (tile sconce : Nat)
  /-- PCS_ABORT (R83): A write of TIL_PCS_ABORT discards the stream in progress with ERR 0x6. -/
  | pcsAbort
  /-- PIXEL_WORD_READ (R52): A read of TIL_PCS_RDDATA returns the voted active or shadow pixel word selected by TIL_PCS_RDADDR. -/
  | pixelWordRead
  /-- LOSS_EPISODE_CLOSE (R67): A loss episode reaches its closing reference edge. -/
  | lossEpisodeClose (tile sconce kind : Nat)
  /-- ROTA_STEP_DUE (R69): A rota step falls due every INTERVAL × 1,024 ref in every sconce of the tile. -/
  | rotaStepDue (tile : Nat)
  /-- ROTA_FORCE (R69): A write of TIL_ROTA.FORCE starts a step in every sconce on the next flame of its turn. -/
  | rotaForce (tile val : Nat)
  /-- ROTA_INTERVAL_WRITE (R69): A write of INTERVAL reschedules the next due edge or pauses the rota. -/
  | rotaIntervalWrite (tile val : Nat)
  /-- FLAME_OFFLINE (R69): At the first edge with the flame free and R in standby, the flame goes offline to calibrate and R takes its position. -/
  | flameOffline (tile sconce flame : Nat)
  /-- FLAME_CALIBRATION_END (R70): A flame's 96-ref calibration ends and is checked against the PERIOD, OFFSET and DRIFT limits. -/
  | flameCalibrationEnd (tile sconce flame n1 n2 : Nat)
  /-- FLAME_RETURN (R69): A passed flame takes its position back at the first edge at which R is free, and R returns to standby. -/
  | flameReturn (tile sconce flame : Nat)
  /-- TILE_ENABLE (R75): A write of TIL_CTRL.EN = 1 starts the via test when one is owed, or the first calibration. -/
  | tileEnable (tile val : Nat)
  /-- FIRST_CALIBRATION_START (R75): CAL_VALID falls, and all five flames of every sconce begin to calibrate. -/
  | firstCalibrationStart (tile : Nat)
  /-- FIRST_CALIBRATION_END (R75): The first calibration ends, failures are handled, CAL_VALID rises and the discriminators open. -/
  | firstCalibrationEnd (tile n1 n2 : Nat) (exc : List (Nat × Nat × (Nat × Nat) × (Nat × Nat))) (back : List (Nat × Nat))
  /-- TILE_DISABLE (R78): A write of TIL_CTRL.EN = 0 gates the discriminators at the next reference edge; hits already accepted complete. -/
  | tileDisable (tile val : Nat)
  /-- FE_POWER_WRITE (R78): A write of TIL_CTRL.FE_ON powers the analogue front ends up or down. -/
  | fePowerWrite (tile val : Nat)
  /-- FE_READY (R78): The front ends have settled and FE_READY rises. -/
  | feReady (tile : Nat)
  /-- TIL_CNT_CLR (R82): A write of TIL_CNT_CLR clears the tile's loss counters and TIL_SEU in one step. -/
  | tilCntClr (tile : Nat)
  /-- FAIL_FIFO_READ (R82): A read of TIL_FAIL_FIFO returns and removes the oldest flame-failure event. -/
  | failFifoRead (tile : Nat)
  /-- COLUMN_BUS_HOP (R88): A sender on the column bus offers a word; the receiver latches it, checks parity, and answers ACK or NAK. -/
  | columnBusHop (tile bus recv flips : Nat)
  /-- COLUMN_STALL_TIMEOUT (R109): A stage holds REQ_IN for 16 ref without ACK or NAK, which marks its bus failed. -/
  | columnStallTimeout (tile bus : Nat)
  /-- SPARE_SWITCH_DONE (R109): The spare switch completes and the column's sconces resume on the spare bus. -/
  | spareSwitchDone (tile col : Nat) (flips : List (Nat × Nat))
  /-- SPARE_APPROVE (R109): A write of TIL_XSPARE_CMD.APPROVE switches the oldest requesting column to its spare, or takes it out of service when no spare is left. -/
  | spareApprove (tile val : Nat)
  /-- SPARE_DECLINE (R109): A write of TIL_XSPARE_CMD.DECLINE takes the requesting column out of service. -/
  | spareDecline (tile val : Nat)
  /-- SPARE_REQUEST_TIMEOUT (R109): A request left unanswered for 2^20 ref is declined by the tile. -/
  | spareRequestTimeout (tile : Nat)
  /-- FLIT_FORM (R93): With room in the bundle transmitter, the edge merger takes up to four words in rotating order and forms a flit. -/
  | flitForm (tile : Nat) (flips : List (Nat × Nat))
  /-- FLIT_TRANSFER (R97): A flit crosses the through-silicon bundle and is latched by the receiver. -/
  | flitTransfer (tile : Nat)
  /-- FLIT_CHECK (R98): The receiver checks a flit's CRC and SEQ and returns CHK_OK or CHK_NAK. -/
  | flitCheck (tile flips : Nat)
  /-- CHK_OK (R98): The transmitter receives CHK_OK and releases the oldest unanswered flit. -/
  | chkOk (tile : Nat)
  /-- CHK_NAK (R98): The transmitter receives CHK_NAK and resends the failed flit and every later flit it holds. -/
  | chkNak (tile : Nat)
  /-- VIA_TEST_START (R99): Three failures of a flit, or a digit incomplete for 16 ref, start a via test under link state TEST. -/
  | viaTestStart (tile : Nat) (stuck : Bool)
  /-- VIA_TEST_END (R99): The via test ends: failed vias are replaced by spares, the transmitter resends, and the link returns to RUN. -/
  | viaTestEnd (tile failed : Nat)
  /-- CROSSBAR_TAKE_WORD (R102): The crossbar takes a word from a receiver port once every destination has accepted it. -/
  | crossbarTakeWord (tile : Nat) (bad : Bool) (errs : List Nat)
  /-- RECEIVER_DRAIN_START (R103): A word has waited 2^21 ref at a receiver port, and the receiver starts to drain. -/
  | receiverDrainStart (tile : Nat)
  /-- TIL_XCNT_CLR (R113): A write of TIL_XCNT_CLR clears the transport counters in one step. -/
  | tilXcntClr (tile : Nat)
  /-- TIM_OPEN (R122): A write of TIM_CTRL.OPEN opens a time session, increments SESSION_ID and starts the source. -/
  | timOpen (val : Nat)
  /-- TIM_CLOSE (R123): A write of TIM_CTRL.CLOSE ends the session, with y held and STATE CLOSED. -/
  | timClose (val : Nat)
  /-- TIM_SET (R125): A write of TIM_CTRL.SET steps ET_OFF to TIM_SET in a HOST session and enters FIXED. -/
  | timSet (val : Nat)
  /-- TIME_SAMPLE (R124): A qualified source sample updates the servo and advances the session state. -/
  | timeSample (err : Int)
  /-- TIME_FAULT_RATE (R128): The servo has demanded |y| above 200 ppm continuously for 1 s, which raises the time fault. -/
  | timeFaultRate
  /-- PTP_ANNOUNCE_RX (R133): An Announce message is received and feeds master selection. -/
  | ptpAnnounceRx (hdr : PtpHdr) (m : Master)
  /-- PTP_SYNC_RX (R133): A Sync message from the selected master is received. -/
  | ptpSyncRx (hdr : PtpHdr) (identity : Nat) (twoStep : Bool) (origin corr : Int) (sub : Nat) (syncLog rate : Int)
  /-- PTP_FOLLOW_UP_RX (R133): A Follow_Up completes a PTP sample with the latest delay exchange. -/
  | ptpFollowUpRx (hdr : PtpHdr) (identity : Nat) (origin corr : Int)
  /-- PTP_DELAY_REQ_SEND (R132): At its interval the port sends a Delay_Req. -/
  | ptpDelayReqSend (sub : Nat)
  /-- PTP_DELAY_RESP_RX (R133): A Delay_Resp completes a delay request-response exchange. -/
  | ptpDelayRespRx (hdr : PtpHdr) (identity : Nat) (rx corr : Int)
  /-- PTP_ANNOUNCE_TIMEOUT (R133): No Announce arrives within ANN_TIMEOUT intervals, and the source is lost. -/
  | ptpAnnounceTimeout
  /-- PTP_SYNC_TIMEOUT (R133): No sample arrives within 4 Sync intervals, and the source is lost. -/
  | ptpSyncTimeout
  /-- ARP_REQUEST_RX (R132): The time port answers an ARP request for TIM_PTP_IP. -/
  | arpRequestRx (ip : Nat)
  /-- PPS_EDGE (R134): An edge on TIM_PPS_IN is judged against its window and accepted as a sample. -/
  | ppsEdge (rising : Bool) (sub : Nat) (ten : Option Int)
  /-- PPS_EDGE_MISSING (R134): An expected PPS edge does not come; three missing or rejected in a row lose the source. -/
  | ppsEdgeMissing
  /-- TEN_MHZ_LOSS (R134): The 10 MHz input is absent for 10 µs, and the source is lost. -/
  | tenMhzLoss
  /-- PPS_SECOND_WRITE (R134): A write of TIM_PPS_SEC gives the TAI second of the next edge and clears SEC_WANTED. -/
  | ppsSecondWrite (sec : Nat)
  /-- PPS_OUT_RISE (R135): TIM_PPS_OUT rises at the edge nearest each whole ET second. -/
  | ppsOutRise
  /-- PPS_OUT_FALL (R135): TIM_PPS_OUT falls after OUT_WIDTH µs. -/
  | ppsOutFall
  /-- TIM_SNAP (R143): A write of TIM_SNAP.TAKE captures DT, ET and AT at one reference edge. -/
  | timSnap
  /-- SKEW_RECALIBRATE (R138): Every INTERVAL epochs the per-tile reference delay is measured again and the delay lines move. -/
  | skewRecalibrate (delays : List Nat)
  /-- SKEW_FORCE (R138): A write of TIM_SKEW.FORCE starts a skew recalibration now. -/
  | skewForce (val : Nat) (delays : List Nat)
  /-- TIM_CNT_CLR (R145): A write of TIM_CNT_CLR clears TIM_PPS_REJ, TIM_LATE and TIM_TOOFAR. -/
  | timCntClr
  /-- FRAME_LAUNCH (R141): ET reaches the launch time of the held head frame, and the frame is released. -/
  | frameLaunch (h : Nat)
  /-- RMAP_ENTRY_WRITE (R151): A write to a region-map entry reaches the shadow table, or both tables while EVT is disabled. -/
  | rmapEntryWrite (entry part val : Nat)
  /-- RMAP_COMMIT (R151): A write of EVT_RMAP_CTRL.COMMIT sets PENDING, or is refused while PENDING or BUSY. -/
  | rmapCommit (val : Nat)
  /-- CLUSTER_RELEASE (R155): The reorder buffer releases the hits due at this edge into clustering. -/
  | clusterRelease (engine : Nat) (errs : List Nat)
  /-- CLUSTER_CLOSE (R157): A cluster closes at its close edge, and its record is emitted when the seed lies in the territory. -/
  | clusterClose (engine : Nat) (errs : List Nat)
  /-- PACKET_FLUSH (R168): FLUSH ref after it opened, an open packet closes and passes to the sink. -/
  | packetFlush (stream : Nat)
  /-- RATE_WINDOW_END (R177): A rate-monitor window ends: the count is stored and HIGH may change, with a status word and a primitive event. -/
  | rateWindowEnd (group : Nat)
  /-- EVT_ENABLE (R168): A write of EVT_CTRL.EN = 1 starts the event path and restarts SEQ of enabled streams. -/
  | evtEnable (val : Nat)
  /-- EVT_DISABLE (R178): A write of EVT_CTRL.EN = 0 closes open packets and holds later words at the crossbar. -/
  | evtDisable (val : Nat)
  /-- STREAM_ENABLE (R168): A write of EVT_STRM_CFGn.EN = 1 starts the stream with SEQ 0 and RESTART, or is refused when it has no sink. -/
  | streamEnable (stream val : Nat)
  /-- STREAM_DISABLE (R168): A write of EVT_STRM_CFGn.EN = 0 closes the stream's open packet. -/
  | streamDisable (stream val : Nat)
  /-- EVT_CNT_CLR (R178): A write of EVT_CNT_CLR clears the event counters in one step. -/
  | evtCntClr
  /-- CLU_CNT_CLR (R181): A write of CLU_CNT_CLR clears every engine's counters and PEAK in one step. -/
  | cluCntClr
  /-- RING_ENABLE (R210): A rise of TRG_CTRL.RING_EN resets the horizon, empties the ring and starts ring writes. -/
  | ringEnable (val : Nat)
  /-- RING_WRITE (R182): The ring writes packets from its input buffer into the current segment. -/
  | ringWrite (n : Nat)
  /-- RING_OVERRUN_GAP (R184): Room returns to the ring input buffer, and a gap record of KIND 0x9 covers the items discarded. -/
  | ringOverrunGap
  /-- PRIMITIVE_EVENT (R188): An enabled primitive presents an event as a pulse, with its time plus SKEW. -/
  | primitiveEvent (prim : Nat) (t : Int)
  /-- PRIMITIVE_PULSE_END (R188): A primitive pulse ends after STRETCH ref, once a wave has taken it. -/
  | primitivePulseEnd (prim : Nat)
  /-- TOD_FIRE (R189): ET reaches a time-of-day comparator's target; it fires, then rearms by PERIOD or disables itself. -/
  | todFire (tod : Nat)
  /-- HOST_FIRE (R187): A write of TRG_HOST_FIRE presents an event on primitive 312 + CODE. -/
  | hostFire (code : Nat)
  /-- TRIGGER_SAMPLE (R190): At each reference edge the sampler reads the 64 condition outputs. -/
  | triggerSample
  /-- CONTEXT_OPEN (R195): A template with a pending flare takes the next free context of its range and opens it. -/
  | contextOpen (tmpl : Nat)
  /-- CONTEXT_EXTRACTION_END (R198): Extraction has read every word written before TREF + POST + SETTLE + 1; the context is done and enters TRG_DONE_FIFO. -/
  | contextExtractionEnd (tmpl : Nat)
  /-- CONTEXT_ABORT (R202): A write of TRG_CTX_CMD.ABORT ends an open context at once as aborted. -/
  | contextAbort (val : Nat)
  /-- CONTEXT_RELEASE (R203): A write of TRG_CTX_CMD.RELEASE returns a done or aborted context to free. -/
  | contextRelease (val : Nat)
  /-- TRIGGER_ENABLE (R210): A write of TRG_CTRL.EN = 1 runs conditions and contexts. -/
  | triggerEnable (val : Nat)
  /-- TRIGGER_DISABLE (R202): A write of TRG_CTRL.EN = 0 aborts every open context and empties the pending store into missed firings. -/
  | triggerDisable (val : Nat)
  /-- TEMPLATE_ARM (R193): A write of TRG_ARM, or an arm flare, makes a template ARM_PENDING after its arm checks. -/
  | templateArm (mask : Nat)
  /-- TEMPLATE_ARMED (R193): DT_REF reaches the arm time, and the template becomes ARMED. -/
  | templateArmed (tmpl : Nat)
  /-- TEMPLATE_DISARM (R193): A write of TRG_DISARM makes a template DISARMED at once. -/
  | templateDisarm (mask : Nat)
  /-- DISARM_FLARE_DUE (R204): ET reaches a received disarm flare's time, and the named templates become DISARMED. -/
  | disarmFlareDue
  /-- FLARE_SEND (R204): A write of TRG_FLARE_CTL.SEND sends an arm or disarm flare, unless ET is not valid. -/
  | flareSend (val : Nat)
  /-- DONE_FIFO_READ (R212): A read of TRG_DONE_FIFO returns and removes the oldest ended context. -/
  | doneFifoRead
  /-- MASK_REARM (R208): A write of TRG_MASK_REARM returns a stopped mask unit to its start condition. -/
  | maskRearm
  /-- TRG_CNT_CLR (R213): A write of TRG_CNT_CLR clears every trigger counter, VCOUNT and PEND_PEAK. -/
  | trgCntClr
  /-- FRAME_RUN_START (R216): A rise of TIL_FRM_RUN.RUN starts FRAME 0 at the first grid boundary. -/
  | frameRunStart (val : Nat)
  /-- FRAME_RUN_STOP (R216): A fall of RUN lets the frame under way finish, be read out and delivered, and then stops counting. -/
  | frameRunStop (val : Nat)
  /-- FRAME_BOUNDARY (R216): DT reaches a frame-grid boundary, which ends the frame under way. -/
  | frameBoundary
  /-- FRAME_READOUT_END (R220): A tile's readout of a frame ends and its trailer is formed. -/
  | frameReadoutEnd (tile dur : Nat) (poison : List Nat)
  /-- GATE_OPEN (R225): The frame gate opens at the edge nearest an ON event plus DLY. -/
  | gateOpen
  /-- GATE_CLOSE (R225): The frame gate closes at the edge nearest an OFF event plus DLY. -/
  | gateClose
  /-- GATE_LEN_EXPIRE (R225): The gate closes LEN ref after it opened. -/
  | gateLenExpire
  /-- BURST_DELIVERY_END (R234): A burst context finishes delivering its frames, and recording restarts at the next boundary. -/
  | burstDeliveryEnd
  /-- TIL_FRM_CNT_CLR (R237): A write of TIL_FRM_CNT_CLR clears every frame-mode counter. -/
  | tilFrmCntClr
  /-- FABRIC_WAVE_LAUNCH (R246): At a reference edge after the previous wave completed, a wave takes primitive and status levels, and every wick evaluates. -/
  | fabricWaveLaunch
  /-- WAVE_COMPLETE (R246): Every wick has latched its output, and the wave completes. -/
  | waveComplete
  /-- WICK_WRITE (R260): A write of FAB_WICK_CFG_HI submits the held wick entry, and the fabric check starts. -/
  | wickWrite (val : Nat)
  /-- GROUP_INPUT_WRITE (R260): A write of FAB_GIN_DATA changes a group input, subject to the fabric check. -/
  | groupInputWrite (val : Nat)
  /-- FABRIC_CHECK_DONE (R260): The fabric check ends; the write applies, or is refused with ERR 0x6. -/
  | fabricCheckDone
  /-- RELOAD_ADMIT (R261): A partial-reload directory arrives; the listed groups and conditions are checked and held. -/
  | reloadAdmit
  /-- RELOAD_APPLY (R261): After ICRC and the fabric check pass, the shadows become active together at the next edge. -/
  | reloadApply
  /-- RELOAD_ABORT (R261): A write of FAB_RELOAD_CTRL.ABORT discards the reload. -/
  | reloadAbort (val : Nat)
  /-- IMAGE_PROG_START (R258): A write of FAB_IMG_PROG.START in an Owner session invalidates and erases the named slot. -/
  | imageProgStart (val : Nat)
  /-- IMAGE_PROG_VERIFY_DONE (R258): The programmed slot is read back and checked; it is marked valid or failed. -/
  | imageProgVerifyDone
  /-- IMAGE_PROG_ABORT (R266): A write of FAB_IMG_PROG.ABORT stops programming with ERR 0xB. -/
  | imageProgAbort (val : Nat)
  /-- IMAGE_PREF_SLOT (R266): A write of FAB_IMG_CTRL.PREF_SLOT makes a valid slot preferred. -/
  | imagePrefSlot (val : Nat)
  /-- IMAGE_TRIAL (R266): A write of FAB_IMG_CTRL.TRIAL requests one trial start from the other slot. -/
  | imageTrial (val : Nat)
  /-- IMAGE_CONFIRM (R256): A write of FAB_IMG_CTRL.CONFIRM after a trial start makes the trial slot preferred. -/
  | imageConfirm (val : Nat)
  /-- CONFIG_SCRUB_VISIT (R263): The scrubber visits one voted configuration word per ref and rewrites a single disagreeing copy. -/
  | configScrubVisit (kind : ScrubKind) (bad addr : Nat)
  /-- FAB_CNT_CLR (R265): A write of FAB_CNT_CLR clears FAB_SLOW and FAB_SEU. -/
  | fabCntClr
  /-- TDC_INPUT_EDGE (R272): An edge at a precision input is taken by the armed interpolator armed earliest. -/
  | tdcInputEdge (pin : Nat) (falling : Bool)
  /-- TDC_RESULT (R271): A converted edge result leaves at the edge after the stop edge and is stamped and handled by the channel mode. -/
  | tdcResult (interp n : Nat)
  /-- TDC_CAL_END (R270): An interpolator finishes its one- and two-period calibration and is armed at the next edge. -/
  | tdcCalEnd (interp n1 n2 : Nat)
  /-- TDC_IDLE_RECAL (R270): An interpolator armed for 1,024 ref without an edge calibrates again while the other is armed. -/
  | tdcIdleRecal (interp : Nat)
  /-- TDC_TIMEOUT (R277): No stop is accepted by t_s + WMAX + 3 ref, and a timeout entry ends the measurement. -/
  | tdcTimeout (ch : Nat)
  /-- TDC_ARM (R277): A write of TDC_CH_CMD.ARM arms a DISARMED start/stop channel. -/
  | tdcArm (val : Nat)
  /-- TDC_DISARM (R277): A write of TDC_CH_CMD.DISARM ends a measurement without an entry. -/
  | tdcDisarm (val : Nat)
  /-- TDC_FLUSH (R281): A write of TDC_CH_CMD.FLUSH empties the channel's queue. -/
  | tdcFlush (val : Nat)
  /-- TDC_CHANNEL_ENABLE (R286): A rise of TDC_CH_CFG.EN starts the channel and arms it in start/stop mode. -/
  | tdcChannelEnable (val : Nat)
  /-- TDC_QUEUE_SNAPSHOT (R279): A read of TDC_Qn_W0_LO snapshots the head entry into the port. -/
  | tdcQueueSnapshot (ch : Nat)
  /-- TDC_QUEUE_REMOVE (R279): A read of TDC_Qn_W1_HI removes the snapshotted entry. -/
  | tdcQueueRemove (ch : Nat)
  /-- TDC_GAP_ENTRY (R280): A loss episode closes, and one gap entry is written ahead of other entries. -/
  | tdcGapEntry (ch : Nat)
  /-- TDC_SPARE_APPROVE (R283): A write of TDC_SPARE_CMD.APPROVE switches the requesting channel to a spare core. -/
  | tdcSpareApprove (val : Nat)
  /-- TDC_SPARE_DECLINE (R283): A write of TDC_SPARE_CMD.DECLINE takes the requesting channel out of service. -/
  | tdcSpareDecline (val : Nat)
  /-- TDC_SPARE_TIMEOUT (R283): A spare request unanswered for 2^20 ref takes the channel out of service. -/
  | tdcSpareTimeout
  /-- TDC_CNT_CLR (R285): A write of TDC_CNT_CLR clears every channel's counters. -/
  | tdcCntClr
  /-- AUX_ENABLE (R296): A rise of AUX_CTRL.EN checks the entries and starts entry 0 at the first tick. -/
  | auxEnable (val : Nat)
  /-- AUX_DISABLE (R316): A fall of AUX_CTRL.EN stops the sequence, injections, calibration and excitation. -/
  | auxDisable (val : Nat)
  /-- AUX_TICK (R298): A sequence tick passes: a conversion samples, or a DELAY or NOCONV tick passes. -/
  | auxTick (signal : Int) (imeas : Nat)
  /-- AUX_RESULT (R304): A conversion result is delivered 130 ref after its sample edge to AUX_LASTn, the queue, the mask units and the loops. -/
  | auxResult
  /-- AUX_INJECT_FIRE (R301): A write of AUX_INJ_CMD.FIRE, or a primitive event, requests an injected conversion and aborts the conversion in progress. -/
  | auxInjectFire (val : Nat)
  /-- AUX_INJECTED_SAMPLE (R301): An injected conversion samples DLY ref after its crosspoint switch. -/
  | auxInjectedSample (signal : Int)
  /-- AUX_QUEUE_SNAPSHOT (R305): A read of AUX_Q_W0_LO snapshots the head record. -/
  | auxQueueSnapshot
  /-- AUX_QUEUE_REMOVE (R305): A read of AUX_Q_W1_HI removes the snapshotted record. -/
  | auxQueueRemove
  /-- AUX_GAP_RECORD (R305): A result-loss episode closes, and one gap record is written. -/
  | auxGapRecord
  /-- AX_CLAMP_CONDUCT (R289): A pin clamp conducts; CLAMPED latches and a recovery span begins. -/
  | axClampConduct (volts : List Int)
  /-- WIRE_BREAK_DETECT (R310): A wire check notices a break, and the entry's conversions report the open-circuit value with WIRE. -/
  | wireBreakDetect (entry : Nat) (check : WireCheck)
  /-- WIRE_CLEAR (R310): The checks have passed for a half-period or 300 µs, and WIRE clears. -/
  | wireClear (entry : Nat)
  /-- EXCITATION_LIMIT (R291): The current or voltage limit prevents regulation, which sets XLIM. -/
  | excitationLimit (imeas : Nat)
  /-- AUX_CAL_ZERO (R311): A write of AUX_CAL_CMD with STEP ZERO starts the zero measurement of a calibration. -/
  | auxCalZero (val : Nat)
  /-- AUX_CAL_FULL (R311): A write of AUX_CAL_CMD with STEP FULL starts the full-scale measurement. -/
  | auxCalFull (val : Nat)
  /-- AUX_CAL_ABORT (R312): A write of AUX_CAL_CMD with STEP ABORT ends the calibration with ERR 0x6. -/
  | auxCalAbort (val : Nat)
  /-- AUX_CAL_STEP_END (R311): A calibration measurement ends; Z or F is ready and coefficients may be written. -/
  | auxCalStepEnd (signals : List Int)
  /-- AUX_CAL_TIMEOUT (R312): No FULL arrives within TMO seconds of WAIT_FULL, and the calibration ends with ERR 0x5. -/
  | auxCalTimeout
  /-- AUX_CONVERTER_CHECK (R315): Every 2^20 ref both converters convert one sample, and a mismatch triggers a reference check. -/
  | auxConverterCheck (main spare : Int) (mainRef spareRef : Int)
  /-- AUX_PIN_CFG_WRITE (R290): A write of AUX_PIN_CFGp sets a pin role, or is refused for a duplicate or reserved role. -/
  | auxPinCfgWrite (pin val : Nat)
  /-- AUX_CNT_CLR (R319): A write of AUX_CNT_CLR clears the AUX counters. -/
  | auxCntClr
  /-- CTL_FB_SAMPLE (R322): A feedback input samples at each whole microsecond of AT. -/
  | ctlFbSample (input : Nat) (nV : Int)
  /-- CTL_FB_RESULT (R322): A feedback result is delivered 200 ref after its sample edge. -/
  | ctlFbResult (input : Nat)
  /-- PULSE_COUNT_EDGE (R323): An edge on CTL_STEP or CTL_DIR updates the pulse counter. -/
  | pulseCountEdge (counter : Nat) (step dir : Bool) (ns : Nat)
  /-- LOOP_PERIOD_START (R326): A loop period starts on the AT grid; the slot latches its sources and starts computing. -/
  | loopPeriodStart (slot : Nat)
  /-- LOOP_COMPUTE_DONE (R327): The slot's computation completes on the voted cores. -/
  | loopComputeDone (slot : Nat)
  /-- LOOP_DEADLINE (R326): At the deadline edge the new output goes to CTL_OUTn, or the period is missed. -/
  | loopDeadline (slot : Nat)
  /-- LOOP_ENABLE (R328): A write of CTL_Sn_CTRL.EN = 1 is checked and starts the slot bumplessly, or is refused with ERR. -/
  | loopEnable (slot val : Nat)
  /-- LOOP_DISABLE (R340): A write of EN = 0 makes the slot OFF, driving SAFE_OUT from the next deadline. -/
  | loopDisable (slot val : Nat)
  /-- LOOP_COMMIT (R344): A write of CTL_Sn_CMD.COMMIT commits the staged slot fields at the next period start. -/
  | loopCommit (slot : Nat)
  /-- CTL_QUEUE_SNAPSHOT (R342): A read of CTL_Q_W0_LO snapshots the head loop record. -/
  | ctlQueueSnapshot
  /-- CTL_QUEUE_REMOVE (R342): A read of CTL_Q_W1_HI removes the snapshotted record. -/
  | ctlQueueRemove
  /-- CTL_GAP_RECORD (R342): A record-loss episode closes, and one gap record is written. -/
  | ctlGapRecord
  /-- CTL_CNT_CLR (R343): A write of CTL_CNT_CLR clears the loop counters. -/
  | ctlCntClr
  /-- SAFETY_STROBE (R347): At each 50 µs strobe both safety channels sample, exchange, evaluate and settle their outputs. -/
  | safetyStrobe (a b rb : Nat) (differ : Bool)
  /-- STROBE_LOSS (R347): Channel B finds a strobe period out of range, or none for 100 µs, and switches every output off with fault 0x8. -/
  | strobeLoss
  /-- TEST_PULSE_START (R349): A test-pulse output goes low at the start of its off-pulse. -/
  | testPulseStart (tp : Nat)
  /-- TEST_PULSE_END (R349): A test-pulse off-pulse ends after TPW. -/
  | testPulseEnd (tp : Nat)
  /-- OUTPUT_TEST_PULSE (R356): Once every OPP s each channel of an on output switches its pin off for OPW and reads it back. -/
  | outputTestPulse (out chan : Nat)
  /-- SAF_ACK (R358): A write of SAF_ACK.ACK in an Operator or Safety session takes effect at the next strobe. -/
  | safAck (val : Nat)
  /-- SAF_REQ (R354): A write of SAF_REQ.ON requests or withdraws the outputs. -/
  | safReq (val : Nat)
  /-- SAF_COMMIT (R365): A write of SAF_COMMIT is checked and commits the staged safety set, or is refused with SAF_COMMIT_ERR. -/
  | safCommit (val : Nat) (agree : Bool)
  /-- SNUFFER_PRODUCE (R361): A producer sends a Snuffer frame every ⌈WDT ÷ 4⌉ ms. -/
  | snufferProduce (conn : Nat) (differ : Bool)
  /-- SNUFFER_RECEIVE (R361): A consumer checks a frame and accepts it, or discards it as duplicate or bad. -/
  | snufferReceive (port : Nat) (frame : List Nat)
  /-- SNUFFER_TIMEOUT (R362): No frame is accepted for WDT ms; the consumer leaves VALID and latches fault 0x6. -/
  | snufferTimeout (conn : Nat)
  /-- SNUFFER_RX_SUBMIT (R363): A write of SAF_SNF_RX3 submits a host frame to every PCIe consumer. -/
  | snufferRxSubmit (val : Nat)
  /-- SAF_CNT_CLR (R372): A write of SAF_CNT_CLR clears the safety counters. -/
  | safCntClr
  /-- PORT_ENABLE (R374): A write of LNK_Pp_CFG.EN = 1 is checked and puts the port in BEACON, or is refused with ERR. -/
  | portEnable (port val : Nat)
  /-- PORT_DISABLE (R380): A fall of EN takes the port to OFF, detaching it when it was UP or LOW. -/
  | portDisable (port val : Nat)
  /-- BEACON_SEND (R380): A port in BEACON sends a beacon frame every 1 ms. -/
  | beaconSend (port : Nat)
  /-- BEACON_RECEIVE (R381): A valid beacon is received; the port answers and enters TRAIN, or stays in BEACON with ERR. -/
  | beaconReceive (port w0 w1 : Nat)
  /-- TRAIN_FRAME_RECEIVE (R382): A TRAIN frame carries an FFE request or status for a lane. -/
  | trainFrameReceive (port lane : Nat) (msg : TrainMsg) (eye : Bool) (skew : Nat)
  /-- TRAINING_TIMEOUT (R380): Training has not completed in 500 ms; the port returns to BEACON with ERR 0x6. -/
  | trainingTimeout (port : Nat)
  /-- PARTNER_TRAIN_TIMEOUT (R380): The partner has not entered TRAIN within 2 ms, and the port returns to BEACON. -/
  | partnerTrainTimeout (port : Nat)
  /-- MARKER_RECEIVE (R378): An alignment marker arrives on a lane and is checked for PATTERN, LIDX and BIP. -/
  | markerReceive (lane w bip : Nat) (inv : Bool)
  /-- LANE_LOS (R383): A lane's input amplitude stays below the LOS threshold for 1 µs, and the lane fails. -/
  | laneLos (lane : Nat)
  /-- LANE_LOL (R383): A lane's clock recovery loses lock or alignment, and the lane fails. -/
  | laneLol (lane : Nat)
  /-- LANE_SWITCH_RETRY (R390): SWITCHED has not arrived in time, so SWITCH is sent again, or the port retrains after four attempts. -/
  | laneSwitchRetry (port : Nat)
  /-- PORT_LOS_DETACH (R383): LOS on every active lane for 10 µs detaches the port at once. -/
  | portLosDetach (port : Nat)
  /-- LNK_DATA_RX (R400): A DATA frame is received and delivered, forwarded or discarded by its destination. -/
  | lnkDataRx (port seq tspec : Nat) (body : List Nat) (tr : Trailer)
  /-- LNK_FLARE_RX (R395): A FLARE frame is accepted, presented and forwarded, or discarded as a duplicate. -/
  | lnkFlareRx (port seq : Nat) (body : List Nat) (tr : Trailer)
  /-- LNK_TIME_RX (R397): A TIME frame updates the port's delay measurement, LT and lighthouse values. -/
  | lnkTimeRx (port : Nat) (sub : Int) (body : List Nat) (tr : Trailer)
  /-- LNK_SNUFFER_RX (R398): A SNUFFER frame is handed to the safety consumers. -/
  | lnkSnufferRx (port seq : Nat) (body : List Nat) (tr : Trailer)
  /-- LNK_CTRL_ACK (R388): A CTRL ACK advances acknowledgement of a class. -/
  | lnkCtrlAck (port : Nat) (tr : Trailer)
  /-- LNK_CTRL_SWITCH (R390): A received CTRL SWITCH makes the transmitter move the LIDX to its spare and send SWITCHED. -/
  | lnkCtrlSwitch (port lidx : Nat) (tr : Trailer)
  /-- LNK_CTRL_SWITCHED (R390): A checked CTRL SWITCHED makes the receiver take the new lane mapping. -/
  | lnkCtrlSwitched (port lidx : Nat) (tr : Trailer)
  /-- LNK_CTRL_WAKE (R404): A CTRL WAKE restores every lane of a LOW port. -/
  | lnkCtrlWake (port : Nat) (tr : Trailer)
  /-- LNK_CTRL_SLEEP (R404): A CTRL SLEEP takes the port to LOW. -/
  | lnkCtrlSleep (port : Nat) (tr : Trailer)
  /-- LNK_CTRL_RETRAIN (R386): A CTRL RETRAIN from the partner retrains the port. -/
  | lnkCtrlRetrain (port : Nat) (tr : Trailer)
  /-- LNK_REPLAY_TIMEOUT (R388): No acknowledgement progress within 2 × delay + 40 ref, or a NAK, resends a class's unacknowledged frames. -/
  | lnkReplayTimeout (port : Nat) (pri : Bool)
  /-- LNK_PROGRESS_TIMEOUT (R389): No acknowledgement progress for 100 µs with frames outstanding retrains the port. -/
  | lnkProgressTimeout (port : Nat)
  /-- LNK_RETRAIN_CMD (R389): A write of LNK_Pp_CMD.RETRAIN retrains the port. -/
  | lnkRetrainCmd (port val : Nat)
  /-- TIME_FRAME_SEND (R396): An UP or LOW port sends a TIME frame every 2^TINT ref. -/
  | timeFrameSend (port sub : Nat)
  /-- TIME_FRAME_MISS (R396): No TIME frame within 1.5 intervals counts a miss; four lose a Lantern time source. -/
  | timeFrameMiss (port : Nat)
  /-- DUAL_HOLD_EXPIRE (R402): The next DSEQ has waited HOLD ref, which causes a failover or a skip. -/
  | dualHoldExpire (entry : Nat)
  /-- DUAL_PAIR_EXPIRE (R402): A pair entry without a frame for 10 s is freed. -/
  | dualPairExpire (entry : Nat)
  /-- DUAL_RESTORE (R403): The primary has been clean for 10 s and takes control back. -/
  | dualRestore (entry : Nat)
  /-- PORT_SLEEP (R404): No DATA for 2^16 ref makes the port send SLEEP and enter LOW. -/
  | portSleep (port : Nat)
  /-- PORT_WAKE_COMPLETE (R404): Every lane is restored, and the port returns to UP. -/
  | portWakeComplete (port : Nat)
  /-- LNK_CNT_CLR (R406): A write of LNK_CNT_CLR clears every Lantern counter and PEAK. -/
  | lnkCntClr
  /-- PERST_N_ASSERT (R413): A fundamental reset on PERST_N resets the configuration space and HST and stops every queue. -/
  | perstNAssert
  /-- HOT_RESET (R413): A hot reset resets the configuration space and HST only. -/
  | hotReset
  /-- FUNCTION_LEVEL_RESET (R413): A Function Level Reset resets the configuration space and HST only. -/
  | functionLevelReset
  /-- PCIE_LINK_DOWN (R413): The link goes to DL_Down; a function reset and fault 0x0E follow. -/
  | pcieLinkDown
  /-- D3_ENTRY (R413): A move to D3hot or D3cold resets the configuration space and HST. -/
  | d3Entry
  /-- BAR4_READ (R412): A BAR4 read reaches buffer memory at BASE plus offset, or returns all ones when out of range. -/
  | bar4Read (off n : Nat)
  /-- BAR4_WRITE (R412): A BAR4 write reaches buffer memory, or is discarded when out of range or protected. -/
  | bar4Write (off : Nat) (data : List Nat)
  /-- DOORBELL_TAIL (R416): A write of the TAIL doorbell posts descriptors. -/
  | doorbellTail (h2d : Bool) (q val : Nat)
  /-- DOORBELL_CPL_HEAD (R416): A write of the CPL_HEAD doorbell consumes completions and may arm the queue interrupt. -/
  | doorbellCplHead (h2d : Bool) (q val : Nat) (masked : List Nat)
  /-- QUEUE_ENABLE (R427): A write of HST queue EN = 1 is checked and starts the queue, or is refused. -/
  | queueEnable (h2d : Bool) (q val : Nat)
  /-- QUEUE_DISABLE (R427): A write of EN = 0 stops a queue, completing or flushing its descriptors. -/
  | queueDisable (h2d : Bool) (q val : Nat) (tags : List Nat)
  /-- QUEUE_STOPPED (R427): A STOPPING device-to-host queue finishes its completions and becomes STOPPED. -/
  | queueStopped (q : Nat) (tags : List Nat)
  /-- DESCRIPTOR_FETCH_DONE (R418): A descriptor fetch completes; an invalid descriptor completes with STATUS 0x2, and a failed fetch puts the queue into ERROR. -/
  | descriptorFetchDone (h2d : Bool) (q : Nat) (words : List Nat) (ok : Bool)
  /-- QUEUE_PACKET_WRITE (R419): Stream words are written into the posted buffers. -/
  | queuePacketWrite (q n : Nat) (bad : List Nat)
  /-- BUFFER_CLOSE_TIMEOUT (R419): CLOSE.TIME µs after its first word, a buffer closes. -/
  | bufferCloseTimeout (q : Nat)
  /-- H2D_FRAME_START (R425): A host-to-device frame reaches the queue head and is read and handed to its role's consumer. -/
  | h2dFrameStart (h : Nat) (data bad : List Nat) (ok : Bool)
  /-- H2D_FRAME_DONE (R426): A host-to-device frame finishes and its completion entry is written. -/
  | h2dFrameDone (h : Nat)
  /-- QUEUE_PROGRESS_TIMEOUT (R427): No TLP of a queue with work moves for PROG ms; the queue enters ERROR 0x6. -/
  | queueProgressTimeout (h2d : Bool) (q : Nat)
  /-- STREAM_OVERRUN_GAP (R430): A data packet next fits, and a gap record of KIND 0x9 is emitted ahead of it. -/
  | streamOverrunGap (stream : Nat)
  /-- IRQ_MESSAGE (R433): An armed interrupt source is true; its vector's message is sent and the source disarms. -/
  | irqMessage (src : Nat) (masked : List Nat)
  /-- QUEUE_IRQ_TIMER (R434): The moderation timer of an armed queue source expires with completions pending. -/
  | queueIrqTimer (h2d : Bool) (q : Nat) (masked : List Nat)
  /-- HOST_IRQ_REARM (R433): A write of HST_IRQ_REARM arms sources again, sending at once when they are still true. -/
  | hostIrqRearm (idx val : Nat) (masked : List Nat)
  /-- HST_CNT_CLR (R436): A write of HST_CNT_CLR clears the HST counters and PEAK. -/
  | hstCntClr
  /-- CMP_INPUT_WORD (R438): A compression engine takes a word of a stream into its context's open block. -/
  | cmpInputWord (ctx : Nat) (fault : Bool)
  /-- CMP_FLUSH_TIMEOUT (R439): FLUSH µs after its first word, a block closes. -/
  | cmpFlushTimeout (ctx : Nat) (fault : Bool)
  /-- CMP_SAVE (R452): A write of CMP_CTX_CMD.SAVE writes the context state to the spill area. -/
  | cmpSave (val : Nat)
  /-- CMP_RESTORE (R452): A write of CMP_CTX_CMD.RESTORE loads and checks the context state from the spill area. -/
  | cmpRestore (val : Nat)
  /-- CMP_RESET (R452): A write of CMP_CTX_CMD.RESET sets the pending RST. -/
  | cmpReset (val : Nat)
  /-- DECOMP_BLOCK (R454): The decompressor decodes and checks one block, re-reading it once on error. -/
  | decompBlock (h : Nat) (hit : Bool)
  /-- CMP_CNT_CLR (R455): A write of CMP_CNT_CLR clears every compression counter. -/
  | cmpCntClr
  /-- MEM_READ (R466): A 64-byte buffer-memory read is checked word by word by the SEC-DED code. -/
  | memRead (addr : Nat) (upset stuck : List Nat) (lost : Bool)
  /-- ROW_REMAP_DONE (R474): The row copy into the spare-row store completes, and accesses go to the spare. -/
  | rowRemapDone
  /-- MEM_WRITE (R465): A buffer-memory write stores words with their check bits. -/
  | memWrite (addr : Nat) (data : List Nat) (poison : Bool)
  /-- MEM_PARTITION_WRITE (R462): A write of MEM_RING, MEM_BURST or MEM_SPILL places a partition, or is refused with MEM_ERR. -/
  | memPartitionWrite (which val : Nat)
  /-- SCRUB_START (R471): A write of MEM_SCRUB_CTRL.START starts a range scrub, or is refused. -/
  | scrubStart (val : Nat)
  /-- SCRUB_ABORT (R471): A write of MEM_SCRUB_CTRL.ABORT ends the scrub at its next word. -/
  | scrubAbort (val done words : Nat)
  /-- SCRUB_DONE (R471): The scrub reaches the end of its range and sets SCRUB_DONE. -/
  | scrubDone
  /-- SRAM_FUSE_PROG (R477): A write of MEM_SRAM_FUSE.PROG fuses the selected array's soft repair. -/
  | sramFuseProg (val : Nat)
  /-- MEM_CNT_CLR (R481): A write of MEM_CNT_CLR clears the memory counters and PEAK. -/
  | memCntClr
  /-- SESSION_REQUEST (R520): A write of GEN_SESS_CTRL.REQ draws a challenge for the named role. -/
  | sessionRequest (role : Nat)
  /-- SESSION_RESPONSE (R520): A write of GEN_SESS_RESP_HI submits the response, which opens the session or counts as wrong. -/
  | sessionResponse (hi : Nat)
  /-- SESSION_CLOSE (R521): A write of GEN_SESS_CTRL.CLOSE closes the session and clears key staging and any uncommitted safety set. -/
  | sessionClose
  /-- SESSION_IDLE_TIMEOUT (R521): IDLE seconds pass without a write of the role, and the session closes. -/
  | sessionIdleTimeout
  /-- LOCKOUT_EXPIRE (R522): The lockout period ends, and sessions may be opened again. -/
  | lockoutExpire
  /-- KEY_PROGRAM (R524): A write of GEN_KEY_CMD.PROG programs the staged key of a role into fuses. -/
  | keyProgram (role chk : Nat)
  /-- MODULE_ID_PROGRAM (R523): A write of GEN_IDENT.ID in an Owner session fuses the module ID. -/
  | moduleIdProgram (id : Nat)
  /-- AUDIT_ENTRY_STORED (R528): An audit entry is written to both copies, which lets its waiting guarded write take effect. -/
  | auditEntryStored (stored : Bool) (fuse : FuseEnd)
  /-- WEAR_MINUTE_UPDATE (R516): Each minute of running the equivalent-hour and swing monitors are updated. -/
  | wearMinuteUpdate (tConc tTile tMax : Int)
  /-- DOSIMETER_READ (R516): Every 600 s the dose monitors are read. -/
  | dosimeterRead (dose : List Nat)
  /-- SERVICE_RECORD_SAVE (R516): Once per hour of running the wear totals are saved to the service record. -/
  | serviceRecordSave
  /-- CONTROL_VIA_TEST (R513): Three parity failures of one control via within 1 s run a walking-pattern test on the group and replace failed vias. -/
  | controlViaTest (tile failed : Nat)
  /-- REFCLK_RETURN (R503): After fault 0x02 the module stays in reset until REFCLK is back in range, and then starts. -/
  | refclkReturn
  /-- PCIE_LINK_UP (R413): The PCIe link trains whenever its partner trains, so the function attaches and HST_STATUS reports speed and width. -/
  | pcieLinkUp (speed width : Nat)
  /-- IMAGE_PROG_ERASE_DONE (R258): The erase of the slot being programmed completes, and FAB_IMG_PROG_STATUS moves from erasing to receiving. -/
  | imageProgEraseDone
  /-- EXCITATION_LIMIT_CLEAR (R291): The current or voltage limit no longer prevents regulation, and AUX_EXC_STATUS.XLIM returns to 0. -/
  | excitationLimitClear (imeas : Nat)
  deriving DecidableEq, Repr

end Sys2Proof
end

