-- ==== Sys2Proof/Decode.lean ====
section
/-! DEFINITION. Decode.lean: the commands that a word of the operation table spells. -/

namespace Sys2Proof

/-- The operation table gives none of its rows bits (each command comes from outside with its operands, not as an encoded word), so no
word spells a command. -/
def decodeTableWord (_nbits _w : Nat) : Option Instr := none

end Sys2Proof
end

