-- ==== Sys2Proof/Config.lean ====
section
/-! DEFINITION. Config.lean: the values the manual leaves open, as constants with no body: nothing can be proved of one,
so a claim that holds holds for every value. Each is applied to the operands it depends on, or to the plain counter
`State.drawn`, so that each use draws a fresh value. -/

namespace Sys2Proof.Config

/-- The 64-bit challenge the on-die entropy source draws (R520). -/
opaque challenge : Nat → BitVec 64

/-- BOOT_RAIL's code for VAUX out of its range while the module runs: R509 lists none. -/
opaque vauxRail : Nat

/-- The level a boundary cell captures, by draw and cell: R35 gives which balls have cells, not their order (R35). -/
opaque cellLevel : Nat → Nat → Bool

/-- The servo's proportional gain at a code of TIM_SERVO.BW, in 2^-48 ppm of y for each ps of phase error: R127 gives the loop's form and
limits, not its gains. -/
opaque servoKp : Nat → Nat

/-- The servo's integral gain at a code of TIM_SERVO.BW, in 2^-48 ppm of y for each ps of phase error and sample (R127). -/
opaque servoKi : Nat → Nat

/-- The 32-bit check value of a staged safety set (R365): its algorithm is not given. -/
opaque safCheck : List Nat → BitVec 32

/-- MEM_SRAM_COUNT.ARRAYS, a number of the device (R477). -/
opaque sramArrays : Nat

/-- The feed-forward multiplier of a loop whose feed-forward value is 0, in 2^-16 (R333). -/
opaque ffMultiplier : Nat → BitVec 19

/-- The bulk frames a port's receive buffer holds: R385 gives the unit its free part is reported in, not its size. -/
opaque lnkSlots : Nat → Nat

/-- Whether a module's beacon claims to be a time source (CAPS bit 0, R381). -/
opaque timeSource : Nat → Bool

/-- The payload word of a TRAIN frame: R382 says what it carries, not where. -/
opaque trainWord : Nat → BitVec 64

/-- The phase of a slot's PWM cycles on the reference edges (R325). -/
opaque pwmPhase : Nat → Nat

/-- What the DRAM holds at a word that nothing has written, by draw and word: 64 bits of data and 72 of error pattern. It shows only where the
valid-bit store has failed (R469). -/
opaque dramWord : Nat → Nat → BitVec 136

end Sys2Proof.Config
end

