-- ==== Sys2Proof/Machine/Fld.lean ====
section
/-! DEFINITION. Machine/Fld.lean: what the register tables of the manual say of one field (R4, R5, R6). -/

namespace Sys2Proof.Machine

/-- The access codes of R5. -/
inductive Access where
  | ro | rw | wo | w1c | rwg | fuse
  deriving DecidableEq, Repr

/-- The change classes of R6. -/
inductive Cls where
  | live | staged | locked
  deriving DecidableEq, Repr

/-- The block whose enable decides what a write to a staged or locked field does (R6); the comment on
`blockEnabled` says when each counts as enabled. -/
inductive Blk where
  | gen | boot | lif | tim | til | pcs | frm | evt | strm | clu | trg | fab | tdc | aux | ctl | saf | lnk | lnkPort
  | hst | hstD | hstH | cmp | mem
  deriving DecidableEq, Repr

/-- One field of a register table. The field occupies bits `lsb + width - 1 : lsb` of the little-endian words that
start at `addr`, so that a `_LO`, `_HI` pair is one field; instance `i` lies `stride * i` further on; `sel` is the number
of the selection field that chooses among `bank` instances behind one window (0: none; R557). -/
structure Fld where
  id : Nat
  blk : Blk
  addr : Nat
  stride : Nat
  count : Nat
  lsb : Nat
  width : Nat
  acc : Access
  cls : Cls
  rst : Nat
  sel : Nat := 0
  bank : Nat := 1
  rstIdx : Bool := false
  rstTab : List Nat := []
  deriving DecidableEq, Repr

/-- The Reset column for instance `i`, bank `j`: a number, the index of the instance, or the entry of a
rule's own table (R555). -/
def Fld.reset (f : Fld) (i j : Nat) : Nat :=
  if f.rstIdx then (if f.bank = 1 then i else j) else if f.rstTab = [] then f.rst else f.rstTab.getD j 0

/-- How many 32-bit registers the field spans. -/
def Fld.words (f : Fld) : Nat := (f.lsb + f.width + 31) / 32

end Sys2Proof.Machine
end

