-- ==== Sys2Proof/Machine/Regs.lean ====
section
/-! DEFINITION. Machine/Regs.lean: every field of the register tables of the manual, one definition each, in the manual's
own names (REGISTER_FIELD); the rule of its table is in INVENTORY.md. `regTable` lists them all. -/

namespace Sys2Proof.Machine.Reg

/-! TIL -/
def TIL_CTRL_EN : Fld := { id := 1, blk := .til, addr := 0x60000, stride := 4096, count := 4, lsb := 0, width := 1, acc := .rw, cls := .live, rst := 0 }
def TIL_CTRL_FE_ON : Fld := { id := 2, blk := .til, addr := 0x60000, stride := 4096, count := 4, lsb := 1, width := 1, acc := .rw, cls := .locked, rst := 0 }
def TIL_CTRL_TP_ARM : Fld := { id := 3, blk := .til, addr := 0x60000, stride := 4096, count := 4, lsb := 2, width := 1, acc := .rw, cls := .live, rst := 0 }
def TIL_STATUS_FE_READY : Fld := { id := 4, blk := .til, addr := 0x60004, stride := 4096, count := 4, lsb := 0, width := 1, acc := .ro, cls := .live, rst := 0 }
def TIL_STATUS_CAL_VALID : Fld := { id := 5, blk := .til, addr := 0x60004, stride := 4096, count := 4, lsb := 1, width := 1, acc := .ro, cls := .live, rst := 0 }
def TIL_STATUS_PCS_PENDING : Fld := { id := 6, blk := .til, addr := 0x60004, stride := 4096, count := 4, lsb := 2, width := 1, acc := .ro, cls := .live, rst := 0 }
def TIL_STATUS_IDLE : Fld := { id := 7, blk := .til, addr := 0x60004, stride := 4096, count := 4, lsb := 3, width := 1, acc := .ro, cls := .live, rst := 1 }
def TIL_THR_THR : Fld := { id := 8, blk := .til, addr := 0x60008, stride := 4096, count := 4, lsb := 0, width := 10, acc := .rw, cls := .staged, rst := 0x32 }
def TIL_THR_TRIMSTEP : Fld := { id := 9, blk := .til, addr := 0x60008, stride := 4096, count := 4, lsb := 12, width := 2, acc := .rw, cls := .staged, rst := 1 }
def TIL_THR_PREAMP : Fld := { id := 10, blk := .til, addr := 0x60008, stride := 4096, count := 4, lsb := 16, width := 4, acc := .rw, cls := .staged, rst := 8 }
def TIL_TP_TP_AMP : Fld := { id := 11, blk := .til, addr := 0x6000C, stride := 4096, count := 4, lsb := 0, width := 10, acc := .rw, cls := .live, rst := 0 }
def TIL_TP_TP_FDELAY : Fld := { id := 12, blk := .til, addr := 0x6000C, stride := 4096, count := 4, lsb := 16, width := 9, acc := .rw, cls := .live, rst := 0 }
def TIL_TP_TP_WIN : Fld := { id := 13, blk := .til, addr := 0x6000C, stride := 4096, count := 4, lsb := 28, width := 3, acc := .rw, cls := .live, rst := 4 }
def TIL_TP_FIRE_COUNT : Fld := { id := 14, blk := .til, addr := 0x60010, stride := 4096, count := 4, lsb := 0, width := 16, acc := .wo, cls := .live, rst := 0 }
def TIL_TP_FIRE_PERIOD : Fld := { id := 15, blk := .til, addr := 0x60010, stride := 4096, count := 4, lsb := 16, width := 16, acc := .wo, cls := .live, rst := 0 }
def TIL_ROTA_INTERVAL : Fld := { id := 16, blk := .til, addr := 0x60014, stride := 4096, count := 4, lsb := 0, width := 16, acc := .rw, cls := .live, rst := 0x100 }
def TIL_ROTA_FORCE : Fld := { id := 17, blk := .til, addr := 0x60014, stride := 4096, count := 4, lsb := 16, width := 1, acc := .wo, cls := .live, rst := 0 }
def TIL_ROTA_DRIFT : Fld := { id := 18, blk := .til, addr := 0x60014, stride := 4096, count := 4, lsb := 20, width := 4, acc := .rw, cls := .live, rst := 3 }
def TIL_SCONCE_SEL_SCONCE : Fld := { id := 19, blk := .til, addr := 0x60018, stride := 4096, count := 4, lsb := 0, width := 12, acc := .rw, cls := .live, rst := 0 }
def TIL_FLAME_INFO_STATE : Fld := { id := 20, blk := .til, addr := 0x6001C, stride := 4096, count := 4, lsb := 0, width := 10, acc := .ro, cls := .live, rst := 0 }
def TIL_FLAME_INFO_RPOS : Fld := { id := 21, blk := .til, addr := 0x6001C, stride := 4096, count := 4, lsb := 10, width := 3, acc := .ro, cls := .live, rst := 7 }
def TIL_FLAME_CAL_FLAME : Fld := { id := 22, blk := .til, addr := 0x60020, stride := 4096, count := 4, lsb := 0, width := 3, acc := .rw, cls := .live, rst := 0 }
def TIL_FLAME_CAL_OFFSET : Fld := { id := 23, blk := .til, addr := 0x60020, stride := 4096, count := 4, lsb := 4, width := 10, acc := .ro, cls := .live, rst := 0 }
def TIL_FLAME_CAL_PERIOD : Fld := { id := 24, blk := .til, addr := 0x60020, stride := 4096, count := 4, lsb := 16, width := 14, acc := .ro, cls := .live, rst := 0 }
def TIL_FLAME_SUM_RSV_USED : Fld := { id := 25, blk := .til, addr := 0x60024, stride := 4096, count := 4, lsb := 0, width := 13, acc := .ro, cls := .live, rst := 0 }
def TIL_FLAME_SUM_UNCOVERED : Fld := { id := 26, blk := .til, addr := 0x60024, stride := 4096, count := 4, lsb := 16, width := 13, acc := .ro, cls := .live, rst := 0 }
def TIL_FAIL_FIFO_SCONCE : Fld := { id := 27, blk := .til, addr := 0x60028, stride := 4096, count := 4, lsb := 0, width := 12, acc := .ro, cls := .live, rst := 0 }
def TIL_FAIL_FIFO_FLAME : Fld := { id := 28, blk := .til, addr := 0x60028, stride := 4096, count := 4, lsb := 12, width := 3, acc := .ro, cls := .live, rst := 0 }
def TIL_FAIL_FIFO_EVENT : Fld := { id := 29, blk := .til, addr := 0x60028, stride := 4096, count := 4, lsb := 16, width := 2, acc := .ro, cls := .live, rst := 0 }
def TIL_FAIL_FIFO_OVF : Fld := { id := 30, blk := .til, addr := 0x60028, stride := 4096, count := 4, lsb := 30, width := 1, acc := .ro, cls := .live, rst := 0 }
def TIL_FAIL_FIFO_VALID : Fld := { id := 31, blk := .til, addr := 0x60028, stride := 4096, count := 4, lsb := 31, width := 1, acc := .ro, cls := .live, rst := 0 }
def TIL_LOST_COUNT : Fld := { id := 32, blk := .til, addr := 0x6002C, stride := 4096, count := 4, lsb := 0, width := 32, acc := .ro, cls := .live, rst := 0 }
def TIL_IGNORED_COUNT : Fld := { id := 33, blk := .til, addr := 0x60030, stride := 4096, count := 4, lsb := 0, width := 32, acc := .ro, cls := .live, rst := 0 }
def TIL_CONT_COUNT : Fld := { id := 34, blk := .til, addr := 0x60034, stride := 4096, count := 4, lsb := 0, width := 32, acc := .ro, cls := .live, rst := 0 }
def TIL_BLANKED_COUNT : Fld := { id := 35, blk := .til, addr := 0x60038, stride := 4096, count := 4, lsb := 0, width := 32, acc := .ro, cls := .live, rst := 0 }
def TIL_CNT_CLR_CLEAR : Fld := { id := 36, blk := .til, addr := 0x6003C, stride := 4096, count := 4, lsb := 0, width := 1, acc := .wo, cls := .live, rst := 0 }
def TIL_SEU_CORR : Fld := { id := 37, blk := .til, addr := 0x60040, stride := 4096, count := 4, lsb := 0, width := 16, acc := .ro, cls := .live, rst := 0 }
def TIL_SEU_UNCORR : Fld := { id := 38, blk := .til, addr := 0x60040, stride := 4096, count := 4, lsb := 16, width := 16, acc := .ro, cls := .live, rst := 0 }
def TIL_INT_FLAME_FAIL : Fld := { id := 39, blk := .til, addr := 0x60044, stride := 4096, count := 4, lsb := 0, width := 1, acc := .w1c, cls := .live, rst := 0 }
def TIL_INT_UNCOVERED : Fld := { id := 40, blk := .til, addr := 0x60044, stride := 4096, count := 4, lsb := 1, width := 1, acc := .w1c, cls := .live, rst := 0 }
def TIL_INT_SEU_UNCORR : Fld := { id := 41, blk := .til, addr := 0x60044, stride := 4096, count := 4, lsb := 2, width := 1, acc := .w1c, cls := .live, rst := 0 }
def TIL_INT_REFUSED : Fld := { id := 42, blk := .til, addr := 0x60044, stride := 4096, count := 4, lsb := 3, width := 1, acc := .w1c, cls := .live, rst := 0 }
def TIL_INT_LOSSSAT : Fld := { id := 43, blk := .til, addr := 0x60044, stride := 4096, count := 4, lsb := 4, width := 1, acc := .w1c, cls := .live, rst := 0 }
def TIL_INT_CNT_SAT : Fld := { id := 44, blk := .til, addr := 0x60044, stride := 4096, count := 4, lsb := 5, width := 1, acc := .w1c, cls := .live, rst := 0 }
def TIL_INT_EN_EN : Fld := { id := 45, blk := .til, addr := 0x60048, stride := 4096, count := 4, lsb := 0, width := 6, acc := .rw, cls := .live, rst := 0 }
def TIL_PCS_DATA_WORD : Fld := { id := 46, blk := .pcs, addr := 0x68000, stride := 0, count := 1, lsb := 0, width := 32, acc := .wo, cls := .live, rst := 0 }
def TIL_PCS_STATUS_STATE : Fld := { id := 47, blk := .pcs, addr := 0x68004, stride := 0, count := 1, lsb := 0, width := 3, acc := .ro, cls := .live, rst := 0 }
def TIL_PCS_STATUS_ERR : Fld := { id := 48, blk := .pcs, addr := 0x68004, stride := 0, count := 1, lsb := 4, width := 4, acc := .ro, cls := .live, rst := 0 }
def TIL_PCS_STATUS_OWNER : Fld := { id := 49, blk := .pcs, addr := 0x68004, stride := 0, count := 1, lsb := 8, width := 1, acc := .ro, cls := .live, rst := 0 }
def TIL_PCS_STATUS_ACCEPTED : Fld := { id := 50, blk := .pcs, addr := 0x68004, stride := 0, count := 1, lsb := 16, width := 16, acc := .ro, cls := .live, rst := 0 }
def TIL_PCS_ABORT_ABORT : Fld := { id := 51, blk := .pcs, addr := 0x68008, stride := 0, count := 1, lsb := 0, width := 1, acc := .wo, cls := .live, rst := 0 }
def TIL_PCS_RDADDR_COL : Fld := { id := 52, blk := .pcs, addr := 0x6800C, stride := 0, count := 1, lsb := 0, width := 9, acc := .rw, cls := .live, rst := 0 }
def TIL_PCS_RDADDR_ROW : Fld := { id := 53, blk := .pcs, addr := 0x6800C, stride := 0, count := 1, lsb := 9, width := 9, acc := .rw, cls := .live, rst := 0 }
def TIL_PCS_RDADDR_TILE : Fld := { id := 54, blk := .pcs, addr := 0x6800C, stride := 0, count := 1, lsb := 18, width := 2, acc := .rw, cls := .live, rst := 0 }
def TIL_PCS_RDADDR_SHADOW : Fld := { id := 55, blk := .pcs, addr := 0x6800C, stride := 0, count := 1, lsb := 31, width := 1, acc := .rw, cls := .live, rst := 0 }
def TIL_PCS_RDDATA_WORD : Fld := { id := 56, blk := .pcs, addr := 0x68010, stride := 0, count := 1, lsb := 0, width := 32, acc := .ro, cls := .live, rst := 0 }
def TIL_XCTRL_SPARE_AUTO : Fld := { id := 57, blk := .til, addr := 0x60080, stride := 4096, count := 4, lsb := 0, width := 1, acc := .rw, cls := .live, rst := 1 }
def TIL_XCTRL_NAK_LIMIT : Fld := { id := 58, blk := .til, addr := 0x60080, stride := 4096, count := 4, lsb := 1, width := 4, acc := .rw, cls := .live, rst := 4 }
def TIL_XSPARE_SPA_COL : Fld := { id := 59, blk := .til, addr := 0x60084, stride := 4096, count := 4, lsb := 0, width := 6, acc := .ro, cls := .live, rst := 0 }
def TIL_XSPARE_SPA_USED : Fld := { id := 60, blk := .til, addr := 0x60084, stride := 4096, count := 4, lsb := 6, width := 1, acc := .ro, cls := .live, rst := 0 }
def TIL_XSPARE_SPB_COL : Fld := { id := 61, blk := .til, addr := 0x60084, stride := 4096, count := 4, lsb := 8, width := 6, acc := .ro, cls := .live, rst := 0 }
def TIL_XSPARE_SPB_USED : Fld := { id := 62, blk := .til, addr := 0x60084, stride := 4096, count := 4, lsb := 14, width := 1, acc := .ro, cls := .live, rst := 0 }
def TIL_XSPARE_REQ_PENDING : Fld := { id := 63, blk := .til, addr := 0x60084, stride := 4096, count := 4, lsb := 16, width := 1, acc := .ro, cls := .live, rst := 0 }
def TIL_XSPARE_REQ_COL : Fld := { id := 64, blk := .til, addr := 0x60084, stride := 4096, count := 4, lsb := 17, width := 6, acc := .ro, cls := .live, rst := 0 }
def TIL_XSPARE_CMD_APPROVE : Fld := { id := 65, blk := .til, addr := 0x60088, stride := 4096, count := 4, lsb := 0, width := 1, acc := .wo, cls := .live, rst := 0 }
def TIL_XSPARE_CMD_DECLINE : Fld := { id := 66, blk := .til, addr := 0x60088, stride := 4096, count := 4, lsb := 1, width := 1, acc := .wo, cls := .live, rst := 0 }
def TIL_COL_OFF0_OFF : Fld := { id := 67, blk := .til, addr := 0x6008C, stride := 4096, count := 4, lsb := 0, width := 32, acc := .ro, cls := .live, rst := 0 }
def TIL_COL_OFF1_OFF : Fld := { id := 68, blk := .til, addr := 0x60090, stride := 4096, count := 4, lsb := 0, width := 32, acc := .ro, cls := .live, rst := 0 }
def TIL_COL_SEL_COL : Fld := { id := 69, blk := .til, addr := 0x60094, stride := 4096, count := 4, lsb := 0, width := 6, acc := .rw, cls := .live, rst := 0 }
def TIL_COL_WORDS_COUNT : Fld := { id := 70, blk := .til, addr := 0x60098, stride := 4096, count := 4, lsb := 0, width := 32, acc := .ro, cls := .live, rst := 0, sel := 69, bank := 64 }
def TIL_COL_FULL_COUNT : Fld := { id := 71, blk := .til, addr := 0x6009C, stride := 4096, count := 4, lsb := 0, width := 32, acc := .ro, cls := .live, rst := 0, sel := 69, bank := 64 }
def TIL_COL_STALL_COUNT : Fld := { id := 72, blk := .til, addr := 0x600A0, stride := 4096, count := 4, lsb := 0, width := 32, acc := .ro, cls := .live, rst := 0, sel := 69, bank := 64 }
def TIL_COL_NAK_COUNT : Fld := { id := 73, blk := .til, addr := 0x600A4, stride := 4096, count := 4, lsb := 0, width := 32, acc := .ro, cls := .live, rst := 0, sel := 69, bank := 64 }
def TIL_MRG_STALL_COUNT : Fld := { id := 74, blk := .til, addr := 0x600A8, stride := 4096, count := 4, lsb := 0, width := 32, acc := .ro, cls := .live, rst := 0 }
def TIL_BND_STATUS_STATE : Fld := { id := 75, blk := .til, addr := 0x600AC, stride := 4096, count := 4, lsb := 0, width := 2, acc := .ro, cls := .live, rst := 0 }
def TIL_BND_STATUS_VIA_USED : Fld := { id := 76, blk := .til, addr := 0x600AC, stride := 4096, count := 4, lsb := 8, width := 6, acc := .ro, cls := .live, rst := 0 }
def TIL_BND_STATUS_VIA_LEFT : Fld := { id := 77, blk := .til, addr := 0x600AC, stride := 4096, count := 4, lsb := 16, width := 6, acc := .ro, cls := .live, rst := 0x30 }
def TIL_BND_STATUS_LAST_SEQ : Fld := { id := 78, blk := .til, addr := 0x600AC, stride := 4096, count := 4, lsb := 24, width := 8, acc := .ro, cls := .live, rst := 0 }
def TIL_BND_REPLAY_COUNT : Fld := { id := 79, blk := .til, addr := 0x600B0, stride := 4096, count := 4, lsb := 0, width := 32, acc := .ro, cls := .live, rst := 0 }
def TIL_XPOISON_COUNT : Fld := { id := 80, blk := .til, addr := 0x600B4, stride := 4096, count := 4, lsb := 0, width := 32, acc := .ro, cls := .live, rst := 0 }
def TIL_BND_DRAIN_COUNT : Fld := { id := 81, blk := .til, addr := 0x600B8, stride := 4096, count := 4, lsb := 0, width := 32, acc := .ro, cls := .live, rst := 0 }
def TIL_XDISCARD_COUNT : Fld := { id := 82, blk := .til, addr := 0x600BC, stride := 4096, count := 4, lsb := 0, width := 32, acc := .ro, cls := .live, rst := 0 }
def TIL_XINT_COL_SPARED : Fld := { id := 83, blk := .til, addr := 0x600C0, stride := 4096, count := 4, lsb := 0, width := 1, acc := .w1c, cls := .live, rst := 0 }
def TIL_XINT_COL_OFF : Fld := { id := 84, blk := .til, addr := 0x600C0, stride := 4096, count := 4, lsb := 1, width := 1, acc := .w1c, cls := .live, rst := 0 }
def TIL_XINT_SPARE_REQ : Fld := { id := 85, blk := .til, addr := 0x600C0, stride := 4096, count := 4, lsb := 2, width := 1, acc := .w1c, cls := .live, rst := 0 }
def TIL_XINT_VIA_SPARED : Fld := { id := 86, blk := .til, addr := 0x600C0, stride := 4096, count := 4, lsb := 3, width := 1, acc := .w1c, cls := .live, rst := 0 }
def TIL_XINT_BND_FAULT : Fld := { id := 87, blk := .til, addr := 0x600C0, stride := 4096, count := 4, lsb := 4, width := 1, acc := .w1c, cls := .live, rst := 0 }
def TIL_XINT_STALE_DRAIN : Fld := { id := 88, blk := .til, addr := 0x600C0, stride := 4096, count := 4, lsb := 5, width := 1, acc := .w1c, cls := .live, rst := 0 }
def TIL_XINT_POISON : Fld := { id := 89, blk := .til, addr := 0x600C0, stride := 4096, count := 4, lsb := 6, width := 1, acc := .w1c, cls := .live, rst := 0 }
def TIL_XINT_CNT_SAT : Fld := { id := 90, blk := .til, addr := 0x600C0, stride := 4096, count := 4, lsb := 7, width := 1, acc := .w1c, cls := .live, rst := 0 }
def TIL_XINT_EN_EN : Fld := { id := 91, blk := .til, addr := 0x600C4, stride := 4096, count := 4, lsb := 0, width := 8, acc := .rw, cls := .live, rst := 0 }
def TIL_XCNT_CLR_CLEAR : Fld := { id := 92, blk := .til, addr := 0x600C8, stride := 4096, count := 4, lsb := 0, width := 1, acc := .wo, cls := .live, rst := 0 }
def TIL_FRM_CTRL_MODE : Fld := { id := 334, blk := .til, addr := 0x60100, stride := 4096, count := 4, lsb := 0, width := 1, acc := .rw, cls := .locked, rst := 0 }
def TIL_FRM_ROI_ROW0 : Fld := { id := 335, blk := .til, addr := 0x60104, stride := 4096, count := 4, lsb := 0, width := 6, acc := .rw, cls := .locked, rst := 0 }
def TIL_FRM_ROI_NROWS : Fld := { id := 336, blk := .til, addr := 0x60104, stride := 4096, count := 4, lsb := 8, width := 6, acc := .rw, cls := .locked, rst := 0x3f }
def TIL_FRM_ROI_COL0 : Fld := { id := 337, blk := .til, addr := 0x60104, stride := 4096, count := 4, lsb := 16, width := 5, acc := .rw, cls := .locked, rst := 0 }
def TIL_FRM_ROI_NCOLS : Fld := { id := 338, blk := .til, addr := 0x60104, stride := 4096, count := 4, lsb := 24, width := 5, acc := .rw, cls := .locked, rst := 0x1f }
def TIL_FRM_STATUS_BANK : Fld := { id := 339, blk := .til, addr := 0x60108, stride := 4096, count := 4, lsb := 0, width := 1, acc := .ro, cls := .live, rst := 0 }
def TIL_FRM_STATUS_READING : Fld := { id := 340, blk := .til, addr := 0x60108, stride := 4096, count := 4, lsb := 1, width := 1, acc := .ro, cls := .live, rst := 0 }
def TIL_FRM_RDTIME_REF : Fld := { id := 341, blk := .til, addr := 0x6010C, stride := 4096, count := 4, lsb := 0, width := 16, acc := .ro, cls := .live, rst := 0 }
def TIL_FRM_SAT_COUNT : Fld := { id := 342, blk := .til, addr := 0x60110, stride := 4096, count := 4, lsb := 0, width := 32, acc := .ro, cls := .live, rst := 0 }
def TIL_FRM_WORDS_COUNT : Fld := { id := 343, blk := .til, addr := 0x60114, stride := 4096, count := 4, lsb := 0, width := 32, acc := .ro, cls := .live, rst := 0 }
def TIL_FRM_CFG_DEPTH : Fld := { id := 344, blk := .frm, addr := 0x69000, stride := 0, count := 1, lsb := 0, width := 1, acc := .rw, cls := .locked, rst := 0 }
def TIL_FRM_CFG_LIVE : Fld := { id := 345, blk := .frm, addr := 0x69000, stride := 0, count := 1, lsb := 1, width := 1, acc := .rw, cls := .live, rst := 0 }
def TIL_FRM_CFG_STREAM : Fld := { id := 346, blk := .frm, addr := 0x69000, stride := 0, count := 1, lsb := 8, width := 6, acc := .rw, cls := .locked, rst := 0 }
def TIL_FRM_PERIOD_PERIOD : Fld := { id := 347, blk := .frm, addr := 0x69004, stride := 0, count := 1, lsb := 0, width := 28, acc := .rw, cls := .locked, rst := 0xfa }
def TIL_FRM_PHASE_PHASE : Fld := { id := 348, blk := .frm, addr := 0x69008, stride := 0, count := 1, lsb := 0, width := 28, acc := .rw, cls := .locked, rst := 0 }
def TIL_FRM_RUN_RUN : Fld := { id := 349, blk := .frm, addr := 0x6900C, stride := 0, count := 1, lsb := 0, width := 1, acc := .rw, cls := .live, rst := 0 }
def TIL_FRM_GATE_EN : Fld := { id := 350, blk := .frm, addr := 0x69010, stride := 0, count := 1, lsb := 0, width := 1, acc := .rw, cls := .staged, rst := 0 }
def TIL_FRM_GATE_ON_PRIM : Fld := { id := 351, blk := .frm, addr := 0x69010, stride := 0, count := 1, lsb := 1, width := 9, acc := .rw, cls := .staged, rst := 0x1ff }
def TIL_FRM_GATE_OFF_PRIM : Fld := { id := 352, blk := .frm, addr := 0x69010, stride := 0, count := 1, lsb := 10, width := 9, acc := .rw, cls := .staged, rst := 0x1ff }
def TIL_FRM_GATE_DLY_DLY : Fld := { id := 353, blk := .frm, addr := 0x69014, stride := 0, count := 1, lsb := 0, width := 16, acc := .rw, cls := .staged, rst := 0x10 }
def TIL_FRM_GATE_LEN_LEN : Fld := { id := 354, blk := .frm, addr := 0x69018, stride := 0, count := 1, lsb := 0, width := 28, acc := .rw, cls := .staged, rst := 0 }
def TIL_FRM_FRAME_FRAME : Fld := { id := 355, blk := .frm, addr := 0x6901C, stride := 0, count := 1, lsb := 0, width := 32, acc := .ro, cls := .live, rst := 0 }
def TIL_FRM_MERGED_COUNT : Fld := { id := 356, blk := .frm, addr := 0x69020, stride := 0, count := 1, lsb := 0, width := 32, acc := .ro, cls := .live, rst := 0 }
def TIL_FRM_DISC_COUNT : Fld := { id := 357, blk := .frm, addr := 0x69024, stride := 0, count := 1, lsb := 0, width := 32, acc := .ro, cls := .live, rst := 0 }
def TIL_FRM_INT_MERGED : Fld := { id := 358, blk := .frm, addr := 0x69028, stride := 0, count := 1, lsb := 0, width := 1, acc := .w1c, cls := .live, rst := 0 }
def TIL_FRM_INT_LATE_GATE : Fld := { id := 359, blk := .frm, addr := 0x69028, stride := 0, count := 1, lsb := 1, width := 1, acc := .w1c, cls := .live, rst := 0 }
def TIL_FRM_INT_SAT : Fld := { id := 360, blk := .frm, addr := 0x69028, stride := 0, count := 1, lsb := 2, width := 1, acc := .w1c, cls := .live, rst := 0 }
def TIL_FRM_INT_REFUSED : Fld := { id := 361, blk := .frm, addr := 0x69028, stride := 0, count := 1, lsb := 3, width := 1, acc := .w1c, cls := .live, rst := 0 }
def TIL_FRM_INT_CNT_SAT : Fld := { id := 362, blk := .frm, addr := 0x69028, stride := 0, count := 1, lsb := 4, width := 1, acc := .w1c, cls := .live, rst := 0 }
def TIL_FRM_INT_EN_EN : Fld := { id := 363, blk := .frm, addr := 0x6902C, stride := 0, count := 1, lsb := 0, width := 5, acc := .rw, cls := .live, rst := 0 }
def TIL_FRM_CNT_CLR_CLEAR : Fld := { id := 364, blk := .frm, addr := 0x69030, stride := 0, count := 1, lsb := 0, width := 1, acc := .wo, cls := .live, rst := 0 }
/-- Rows of the TIL tables. -/
def tblTIL0 : List Fld :=
  [TIL_CTRL_EN, TIL_CTRL_FE_ON, TIL_CTRL_TP_ARM, TIL_STATUS_FE_READY,
   TIL_STATUS_CAL_VALID, TIL_STATUS_PCS_PENDING, TIL_STATUS_IDLE, TIL_THR_THR,
   TIL_THR_TRIMSTEP, TIL_THR_PREAMP, TIL_TP_TP_AMP, TIL_TP_TP_FDELAY,
   TIL_TP_TP_WIN, TIL_TP_FIRE_COUNT, TIL_TP_FIRE_PERIOD, TIL_ROTA_INTERVAL,
   TIL_ROTA_FORCE, TIL_ROTA_DRIFT, TIL_SCONCE_SEL_SCONCE, TIL_FLAME_INFO_STATE,
   TIL_FLAME_INFO_RPOS, TIL_FLAME_CAL_FLAME, TIL_FLAME_CAL_OFFSET, TIL_FLAME_CAL_PERIOD]
/-- Rows of the TIL tables. -/
def tblTIL1 : List Fld :=
  [TIL_FLAME_SUM_RSV_USED, TIL_FLAME_SUM_UNCOVERED, TIL_FAIL_FIFO_SCONCE, TIL_FAIL_FIFO_FLAME,
   TIL_FAIL_FIFO_EVENT, TIL_FAIL_FIFO_OVF, TIL_FAIL_FIFO_VALID, TIL_LOST_COUNT,
   TIL_IGNORED_COUNT, TIL_CONT_COUNT, TIL_BLANKED_COUNT, TIL_CNT_CLR_CLEAR,
   TIL_SEU_CORR, TIL_SEU_UNCORR, TIL_INT_FLAME_FAIL, TIL_INT_UNCOVERED,
   TIL_INT_SEU_UNCORR, TIL_INT_REFUSED, TIL_INT_LOSSSAT, TIL_INT_CNT_SAT,
   TIL_INT_EN_EN, TIL_PCS_DATA_WORD, TIL_PCS_STATUS_STATE, TIL_PCS_STATUS_ERR]
/-- Rows of the TIL tables. -/
def tblTIL2 : List Fld :=
  [TIL_PCS_STATUS_OWNER, TIL_PCS_STATUS_ACCEPTED, TIL_PCS_ABORT_ABORT, TIL_PCS_RDADDR_COL,
   TIL_PCS_RDADDR_ROW, TIL_PCS_RDADDR_TILE, TIL_PCS_RDADDR_SHADOW, TIL_PCS_RDDATA_WORD,
   TIL_XCTRL_SPARE_AUTO, TIL_XCTRL_NAK_LIMIT, TIL_XSPARE_SPA_COL, TIL_XSPARE_SPA_USED,
   TIL_XSPARE_SPB_COL, TIL_XSPARE_SPB_USED, TIL_XSPARE_REQ_PENDING, TIL_XSPARE_REQ_COL,
   TIL_XSPARE_CMD_APPROVE, TIL_XSPARE_CMD_DECLINE, TIL_COL_OFF0_OFF, TIL_COL_OFF1_OFF,
   TIL_COL_SEL_COL, TIL_COL_WORDS_COUNT, TIL_COL_FULL_COUNT, TIL_COL_STALL_COUNT]
/-- Rows of the TIL tables. -/
def tblTIL3 : List Fld :=
  [TIL_COL_NAK_COUNT, TIL_MRG_STALL_COUNT, TIL_BND_STATUS_STATE, TIL_BND_STATUS_VIA_USED,
   TIL_BND_STATUS_VIA_LEFT, TIL_BND_STATUS_LAST_SEQ, TIL_BND_REPLAY_COUNT, TIL_XPOISON_COUNT,
   TIL_BND_DRAIN_COUNT, TIL_XDISCARD_COUNT, TIL_XINT_COL_SPARED, TIL_XINT_COL_OFF,
   TIL_XINT_SPARE_REQ, TIL_XINT_VIA_SPARED, TIL_XINT_BND_FAULT, TIL_XINT_STALE_DRAIN,
   TIL_XINT_POISON, TIL_XINT_CNT_SAT, TIL_XINT_EN_EN, TIL_XCNT_CLR_CLEAR,
   TIL_FRM_CTRL_MODE, TIL_FRM_ROI_ROW0, TIL_FRM_ROI_NROWS, TIL_FRM_ROI_COL0]
/-- Rows of the TIL tables. -/
def tblTIL4 : List Fld :=
  [TIL_FRM_ROI_NCOLS, TIL_FRM_STATUS_BANK, TIL_FRM_STATUS_READING, TIL_FRM_RDTIME_REF,
   TIL_FRM_SAT_COUNT, TIL_FRM_WORDS_COUNT, TIL_FRM_CFG_DEPTH, TIL_FRM_CFG_LIVE,
   TIL_FRM_CFG_STREAM, TIL_FRM_PERIOD_PERIOD, TIL_FRM_PHASE_PHASE, TIL_FRM_RUN_RUN,
   TIL_FRM_GATE_EN, TIL_FRM_GATE_ON_PRIM, TIL_FRM_GATE_OFF_PRIM, TIL_FRM_GATE_DLY_DLY,
   TIL_FRM_GATE_LEN_LEN, TIL_FRM_FRAME_FRAME, TIL_FRM_MERGED_COUNT, TIL_FRM_DISC_COUNT,
   TIL_FRM_INT_MERGED, TIL_FRM_INT_LATE_GATE, TIL_FRM_INT_SAT, TIL_FRM_INT_REFUSED]
/-- Rows of the TIL tables. -/
def tblTIL5 : List Fld :=
  [TIL_FRM_INT_CNT_SAT, TIL_FRM_INT_EN_EN, TIL_FRM_CNT_CLR_CLEAR]

/-! TIM -/
def TIM_CTRL_OPEN : Fld := { id := 93, blk := .tim, addr := 0x40000, stride := 0, count := 1, lsb := 0, width := 1, acc := .wo, cls := .live, rst := 0 }
def TIM_CTRL_CLOSE : Fld := { id := 94, blk := .tim, addr := 0x40000, stride := 0, count := 1, lsb := 1, width := 1, acc := .wo, cls := .live, rst := 0 }
def TIM_CTRL_SET : Fld := { id := 95, blk := .tim, addr := 0x40000, stride := 0, count := 1, lsb := 2, width := 1, acc := .wo, cls := .live, rst := 0 }
def TIM_CTRL_SRC : Fld := { id := 96, blk := .tim, addr := 0x40000, stride := 0, count := 1, lsb := 4, width := 3, acc := .rw, cls := .locked, rst := 0 }
def TIM_CTRL_PORT : Fld := { id := 97, blk := .tim, addr := 0x40000, stride := 0, count := 1, lsb := 8, width := 4, acc := .rw, cls := .locked, rst := 0xf }
def TIM_CTRL_PPS_OUT_EN : Fld := { id := 98, blk := .tim, addr := 0x40000, stride := 0, count := 1, lsb := 12, width := 1, acc := .rw, cls := .live, rst := 0 }
def TIM_STATUS_SESSION : Fld := { id := 99, blk := .tim, addr := 0x40004, stride := 0, count := 1, lsb := 0, width := 1, acc := .ro, cls := .live, rst := 0 }
def TIM_STATUS_STATE : Fld := { id := 100, blk := .tim, addr := 0x40004, stride := 0, count := 1, lsb := 1, width := 3, acc := .ro, cls := .live, rst := 0 }
def TIM_STATUS_ET_VALID : Fld := { id := 101, blk := .tim, addr := 0x40004, stride := 0, count := 1, lsb := 4, width := 1, acc := .ro, cls := .live, rst := 0 }
def TIM_STATUS_STEPPED : Fld := { id := 102, blk := .tim, addr := 0x40004, stride := 0, count := 1, lsb := 5, width := 1, acc := .ro, cls := .live, rst := 0 }
def TIM_STATUS_FAULT : Fld := { id := 103, blk := .tim, addr := 0x40004, stride := 0, count := 1, lsb := 6, width := 1, acc := .ro, cls := .live, rst := 0 }
def TIM_STATUS_SEC_WANTED : Fld := { id := 104, blk := .tim, addr := 0x40004, stride := 0, count := 1, lsb := 7, width := 1, acc := .ro, cls := .live, rst := 0 }
def TIM_STATUS_SESSION_ID : Fld := { id := 105, blk := .tim, addr := 0x40004, stride := 0, count := 1, lsb := 16, width := 16, acc := .ro, cls := .live, rst := 0 }
def TIM_SNAP_TAKE : Fld := { id := 106, blk := .tim, addr := 0x40008, stride := 0, count := 1, lsb := 0, width := 1, acc := .wo, cls := .live, rst := 0 }
def TIM_SNAP_DT_DT : Fld := { id := 107, blk := .tim, addr := 0x40010, stride := 0, count := 1, lsb := 0, width := 64, acc := .ro, cls := .live, rst := 0 }
def TIM_SNAP_ET_NS_NS : Fld := { id := 108, blk := .tim, addr := 0x40018, stride := 0, count := 1, lsb := 0, width := 30, acc := .ro, cls := .live, rst := 0 }
def TIM_SNAP_ET_SEC_SEC : Fld := { id := 109, blk := .tim, addr := 0x4001C, stride := 0, count := 1, lsb := 0, width := 48, acc := .ro, cls := .live, rst := 0 }
def TIM_SNAP_AT_AT : Fld := { id := 110, blk := .tim, addr := 0x40024, stride := 0, count := 1, lsb := 0, width := 64, acc := .ro, cls := .live, rst := 0 }
def TIM_ETOFF_NS_NS : Fld := { id := 111, blk := .tim, addr := 0x40030, stride := 0, count := 1, lsb := 0, width := 30, acc := .ro, cls := .live, rst := 0 }
def TIM_ETOFF_SEC_SEC : Fld := { id := 112, blk := .tim, addr := 0x40034, stride := 0, count := 1, lsb := 0, width := 48, acc := .ro, cls := .live, rst := 0 }
def TIM_SET_NS_NS : Fld := { id := 113, blk := .tim, addr := 0x40090, stride := 0, count := 1, lsb := 0, width := 30, acc := .rw, cls := .live, rst := 0 }
def TIM_SET_SEC_SEC : Fld := { id := 114, blk := .tim, addr := 0x40094, stride := 0, count := 1, lsb := 0, width := 48, acc := .rw, cls := .live, rst := 0 }
def TIM_SERVO_BW : Fld := { id := 115, blk := .tim, addr := 0x40040, stride := 0, count := 1, lsb := 0, width := 2, acc := .rw, cls := .staged, rst := 2 }
def TIM_SERVO_SLEW_PPM : Fld := { id := 116, blk := .tim, addr := 0x40040, stride := 0, count := 1, lsb := 4, width := 8, acc := .rw, cls := .staged, rst := 0x64 }
def TIM_SERVO_ACQ_N : Fld := { id := 117, blk := .tim, addr := 0x40040, stride := 0, count := 1, lsb := 12, width := 4, acc := .rw, cls := .staged, rst := 8 }
def TIM_SERVO_LOCK_N : Fld := { id := 118, blk := .tim, addr := 0x40040, stride := 0, count := 1, lsb := 16, width := 4, acc := .rw, cls := .staged, rst := 8 }
def TIM_SERVO_LOCK_THR : Fld := { id := 119, blk := .tim, addr := 0x40040, stride := 0, count := 1, lsb := 20, width := 12, acc := .rw, cls := .staged, rst := 0xa }
def TIM_FAULT_WIN : Fld := { id := 120, blk := .tim, addr := 0x40044, stride := 0, count := 1, lsb := 0, width := 8, acc := .rw, cls := .live, rst := 1 }
def TIM_FREQ_Y : Fld := { id := 121, blk := .tim, addr := 0x40048, stride := 0, count := 1, lsb := 0, width := 32, acc := .ro, cls := .live, rst := 0 }
def TIM_PHASE_ERR_ERR : Fld := { id := 122, blk := .tim, addr := 0x4004C, stride := 0, count := 1, lsb := 0, width := 32, acc := .ro, cls := .live, rst := 0 }
def TIM_FREQ_MAN_Y : Fld := { id := 123, blk := .tim, addr := 0x40050, stride := 0, count := 1, lsb := 0, width := 32, acc := .rw, cls := .staged, rst := 0 }
def TIM_PTP_CFG_DOMAIN : Fld := { id := 124, blk := .tim, addr := 0x40060, stride := 0, count := 1, lsb := 0, width := 7, acc := .rw, cls := .locked, rst := 0 }
def TIM_PTP_CFG_TRANSPORT : Fld := { id := 125, blk := .tim, addr := 0x40060, stride := 0, count := 1, lsb := 8, width := 1, acc := .rw, cls := .locked, rst := 0 }
def TIM_PTP_CFG_L1SYNC_EN : Fld := { id := 126, blk := .tim, addr := 0x40060, stride := 0, count := 1, lsb := 9, width := 1, acc := .rw, cls := .locked, rst := 1 }
def TIM_PTP_CFG_ANN_TIMEOUT : Fld := { id := 127, blk := .tim, addr := 0x40060, stride := 0, count := 1, lsb := 12, width := 3, acc := .rw, cls := .locked, rst := 3 }
def TIM_PTP_CFG_LOG_DREQ : Fld := { id := 128, blk := .tim, addr := 0x40060, stride := 0, count := 1, lsb := 16, width := 4, acc := .rw, cls := .locked, rst := 0xc }
def TIM_PTP_ASYM_ASYM : Fld := { id := 129, blk := .tim, addr := 0x40064, stride := 0, count := 1, lsb := 0, width := 32, acc := .rw, cls := .staged, rst := 0 }
def TIM_PTP_STATUS_UTC_OFFSET : Fld := { id := 130, blk := .tim, addr := 0x40068, stride := 0, count := 1, lsb := 0, width := 16, acc := .ro, cls := .live, rst := 0 }
def TIM_PTP_STATUS_UTC_VALID : Fld := { id := 131, blk := .tim, addr := 0x40068, stride := 0, count := 1, lsb := 16, width := 1, acc := .ro, cls := .live, rst := 0 }
def TIM_PTP_STATUS_L1SYNC_UP : Fld := { id := 132, blk := .tim, addr := 0x40068, stride := 0, count := 1, lsb := 17, width := 1, acc := .ro, cls := .live, rst := 0 }
def TIM_PTP_STATUS_TAI_SCALE : Fld := { id := 133, blk := .tim, addr := 0x40068, stride := 0, count := 1, lsb := 18, width := 1, acc := .ro, cls := .live, rst := 0 }
def TIM_PTP_STATUS_STEPS_REMOVED : Fld := { id := 134, blk := .tim, addr := 0x40068, stride := 0, count := 1, lsb := 20, width := 8, acc := .ro, cls := .live, rst := 0 }
def TIM_PTP_GM_ID : Fld := { id := 135, blk := .tim, addr := 0x4006C, stride := 0, count := 1, lsb := 0, width := 64, acc := .ro, cls := .live, rst := 0 }
def TIM_PTP_IP_ADDR : Fld := { id := 136, blk := .tim, addr := 0x40074, stride := 0, count := 1, lsb := 0, width := 32, acc := .rw, cls := .locked, rst := 0 }
def TIM_PTP_MAC_MAC : Fld := { id := 137, blk := .tim, addr := 0x40078, stride := 0, count := 1, lsb := 0, width := 48, acc := .ro, cls := .live, rst := 0 }
def TIM_PPS_CFG_POL : Fld := { id := 138, blk := .tim, addr := 0x40080, stride := 0, count := 1, lsb := 0, width := 1, acc := .rw, cls := .locked, rst := 0 }
def TIM_PPS_CFG_WIN : Fld := { id := 139, blk := .tim, addr := 0x40080, stride := 0, count := 1, lsb := 2, width := 8, acc := .rw, cls := .live, rst := 0xa }
def TIM_PPS_CFG_OUT_WIDTH : Fld := { id := 140, blk := .tim, addr := 0x40080, stride := 0, count := 1, lsb := 16, width := 8, acc := .rw, cls := .live, rst := 0xa }
def TIM_PPS_SEC_SEC : Fld := { id := 141, blk := .tim, addr := 0x40084, stride := 0, count := 1, lsb := 0, width := 48, acc := .rw, cls := .live, rst := 0 }
def TIM_PPS_REJ_COUNT : Fld := { id := 142, blk := .tim, addr := 0x4008C, stride := 0, count := 1, lsb := 0, width := 32, acc := .ro, cls := .live, rst := 0 }
def TIM_LT_SEL_PORT : Fld := { id := 143, blk := .tim, addr := 0x400A0, stride := 0, count := 1, lsb := 0, width := 3, acc := .rw, cls := .live, rst := 0 }
def TIM_LT_SEL_VALID : Fld := { id := 144, blk := .tim, addr := 0x400A0, stride := 0, count := 1, lsb := 31, width := 1, acc := .ro, cls := .live, rst := 0 }
def TIM_LT_OFF_OFF : Fld := { id := 145, blk := .tim, addr := 0x400A4, stride := 0, count := 1, lsb := 0, width := 32, acc := .ro, cls := .live, rst := 0, sel := 143, bank := 8 }
def TIM_LT_THR_THR : Fld := { id := 146, blk := .tim, addr := 0x400A8, stride := 0, count := 1, lsb := 0, width := 16, acc := .rw, cls := .live, rst := 0x64 }
def TIM_SKEW_INTERVAL : Fld := { id := 147, blk := .tim, addr := 0x400B0, stride := 0, count := 1, lsb := 0, width := 8, acc := .rw, cls := .live, rst := 0x10 }
def TIM_SKEW_FORCE : Fld := { id := 148, blk := .tim, addr := 0x400B0, stride := 0, count := 1, lsb := 8, width := 1, acc := .wo, cls := .live, rst := 0 }
def TIM_TILE_LAT_LAT : Fld := { id := 149, blk := .tim, addr := 0x400B4, stride := 0, count := 1, lsb := 0, width := 13, acc := .rw, cls := .staged, rst := 0x320 }
def TIM_TSKEW_DELAY : Fld := { id := 150, blk := .tim, addr := 0x400C0, stride := 4, count := 4, lsb := 0, width := 13, acc := .ro, cls := .live, rst := 0 }
def TIM_TSKEW_PENDING : Fld := { id := 151, blk := .tim, addr := 0x400C0, stride := 4, count := 4, lsb := 16, width := 1, acc := .ro, cls := .live, rst := 0 }
def TIM_LAUNCH_MAX_AHEAD : Fld := { id := 152, blk := .tim, addr := 0x400D0, stride := 0, count := 1, lsb := 0, width := 16, acc := .rw, cls := .live, rst := 0x3c }
def TIM_LATE_COUNT : Fld := { id := 153, blk := .tim, addr := 0x400D4, stride := 0, count := 1, lsb := 0, width := 32, acc := .ro, cls := .live, rst := 0 }
def TIM_TOOFAR_COUNT : Fld := { id := 154, blk := .tim, addr := 0x400D8, stride := 0, count := 1, lsb := 0, width := 32, acc := .ro, cls := .live, rst := 0 }
def TIM_INT_STEPPED : Fld := { id := 155, blk := .tim, addr := 0x400E0, stride := 0, count := 1, lsb := 0, width := 1, acc := .w1c, cls := .live, rst := 0 }
def TIM_INT_LOCKED : Fld := { id := 156, blk := .tim, addr := 0x400E0, stride := 0, count := 1, lsb := 1, width := 1, acc := .w1c, cls := .live, rst := 0 }
def TIM_INT_HOLDOVER : Fld := { id := 157, blk := .tim, addr := 0x400E0, stride := 0, count := 1, lsb := 2, width := 1, acc := .w1c, cls := .live, rst := 0 }
def TIM_INT_FAULT : Fld := { id := 158, blk := .tim, addr := 0x400E0, stride := 0, count := 1, lsb := 3, width := 1, acc := .w1c, cls := .live, rst := 0 }
def TIM_INT_REFUSED : Fld := { id := 159, blk := .tim, addr := 0x400E0, stride := 0, count := 1, lsb := 4, width := 1, acc := .w1c, cls := .live, rst := 0 }
def TIM_INT_PORT_DISAGREE : Fld := { id := 160, blk := .tim, addr := 0x400E0, stride := 0, count := 1, lsb := 5, width := 1, acc := .w1c, cls := .live, rst := 0 }
def TIM_INT_SKEW_JUMP : Fld := { id := 161, blk := .tim, addr := 0x400E0, stride := 0, count := 1, lsb := 6, width := 1, acc := .w1c, cls := .live, rst := 0 }
def TIM_INT_LATE : Fld := { id := 162, blk := .tim, addr := 0x400E0, stride := 0, count := 1, lsb := 7, width := 1, acc := .w1c, cls := .live, rst := 0 }
def TIM_INT_PPS_REJ : Fld := { id := 163, blk := .tim, addr := 0x400E0, stride := 0, count := 1, lsb := 8, width := 1, acc := .w1c, cls := .live, rst := 0 }
def TIM_INT_SRC_CHANGE : Fld := { id := 164, blk := .tim, addr := 0x400E0, stride := 0, count := 1, lsb := 9, width := 1, acc := .w1c, cls := .live, rst := 0 }
def TIM_INT_CNT_SAT : Fld := { id := 165, blk := .tim, addr := 0x400E0, stride := 0, count := 1, lsb := 10, width := 1, acc := .w1c, cls := .live, rst := 0 }
def TIM_INT_EN_EN : Fld := { id := 166, blk := .tim, addr := 0x400E4, stride := 0, count := 1, lsb := 0, width := 11, acc := .rw, cls := .live, rst := 0 }
def TIM_CNT_CLR_CLEAR : Fld := { id := 167, blk := .tim, addr := 0x400E8, stride := 0, count := 1, lsb := 0, width := 1, acc := .wo, cls := .live, rst := 0 }
/-- Rows of the TIM tables. -/
def tblTIM0 : List Fld :=
  [TIM_CTRL_OPEN, TIM_CTRL_CLOSE, TIM_CTRL_SET, TIM_CTRL_SRC,
   TIM_CTRL_PORT, TIM_CTRL_PPS_OUT_EN, TIM_STATUS_SESSION, TIM_STATUS_STATE,
   TIM_STATUS_ET_VALID, TIM_STATUS_STEPPED, TIM_STATUS_FAULT, TIM_STATUS_SEC_WANTED,
   TIM_STATUS_SESSION_ID, TIM_SNAP_TAKE, TIM_SNAP_DT_DT, TIM_SNAP_ET_NS_NS,
   TIM_SNAP_ET_SEC_SEC, TIM_SNAP_AT_AT, TIM_ETOFF_NS_NS, TIM_ETOFF_SEC_SEC,
   TIM_SET_NS_NS, TIM_SET_SEC_SEC, TIM_SERVO_BW, TIM_SERVO_SLEW_PPM]
/-- Rows of the TIM tables. -/
def tblTIM1 : List Fld :=
  [TIM_SERVO_ACQ_N, TIM_SERVO_LOCK_N, TIM_SERVO_LOCK_THR, TIM_FAULT_WIN,
   TIM_FREQ_Y, TIM_PHASE_ERR_ERR, TIM_FREQ_MAN_Y, TIM_PTP_CFG_DOMAIN,
   TIM_PTP_CFG_TRANSPORT, TIM_PTP_CFG_L1SYNC_EN, TIM_PTP_CFG_ANN_TIMEOUT, TIM_PTP_CFG_LOG_DREQ,
   TIM_PTP_ASYM_ASYM, TIM_PTP_STATUS_UTC_OFFSET, TIM_PTP_STATUS_UTC_VALID, TIM_PTP_STATUS_L1SYNC_UP,
   TIM_PTP_STATUS_TAI_SCALE, TIM_PTP_STATUS_STEPS_REMOVED, TIM_PTP_GM_ID, TIM_PTP_IP_ADDR,
   TIM_PTP_MAC_MAC, TIM_PPS_CFG_POL, TIM_PPS_CFG_WIN, TIM_PPS_CFG_OUT_WIDTH]
/-- Rows of the TIM tables. -/
def tblTIM2 : List Fld :=
  [TIM_PPS_SEC_SEC, TIM_PPS_REJ_COUNT, TIM_LT_SEL_PORT, TIM_LT_SEL_VALID,
   TIM_LT_OFF_OFF, TIM_LT_THR_THR, TIM_SKEW_INTERVAL, TIM_SKEW_FORCE,
   TIM_TILE_LAT_LAT, TIM_TSKEW_DELAY, TIM_TSKEW_PENDING, TIM_LAUNCH_MAX_AHEAD,
   TIM_LATE_COUNT, TIM_TOOFAR_COUNT, TIM_INT_STEPPED, TIM_INT_LOCKED,
   TIM_INT_HOLDOVER, TIM_INT_FAULT, TIM_INT_REFUSED, TIM_INT_PORT_DISAGREE,
   TIM_INT_SKEW_JUMP, TIM_INT_LATE, TIM_INT_PPS_REJ, TIM_INT_SRC_CHANGE]
/-- Rows of the TIM tables. -/
def tblTIM3 : List Fld :=
  [TIM_INT_CNT_SAT, TIM_INT_EN_EN, TIM_CNT_CLR_CLEAR]

/-! EVT -/
def EVT_CTRL_EN : Fld := { id := 168, blk := .evt, addr := 0x80000, stride := 0, count := 1, lsb := 0, width := 1, acc := .rw, cls := .live, rst := 0 }
def EVT_CTRL_POISON_STREAM : Fld := { id := 169, blk := .evt, addr := 0x80000, stride := 0, count := 1, lsb := 8, width := 6, acc := .rw, cls := .locked, rst := 0 }
def EVT_RMAP_CTRL_COMMIT : Fld := { id := 170, blk := .evt, addr := 0x80010, stride := 0, count := 1, lsb := 0, width := 1, acc := .wo, cls := .live, rst := 0 }
def EVT_RMAP_CTRL_READ_ACTIVE : Fld := { id := 171, blk := .evt, addr := 0x80010, stride := 0, count := 1, lsb := 1, width := 1, acc := .rw, cls := .live, rst := 0 }
def EVT_RMAP_STATUS_PENDING : Fld := { id := 172, blk := .evt, addr := 0x80014, stride := 0, count := 1, lsb := 0, width := 1, acc := .ro, cls := .live, rst := 0 }
def EVT_RMAP_STATUS_BUSY : Fld := { id := 173, blk := .evt, addr := 0x80014, stride := 0, count := 1, lsb := 1, width := 1, acc := .ro, cls := .live, rst := 0 }
def EVT_RMAP_STATUS_GEN : Fld := { id := 174, blk := .evt, addr := 0x80014, stride := 0, count := 1, lsb := 16, width := 16, acc := .ro, cls := .live, rst := 0 }
def EVT_RMAP_ERRIDX_INDEX : Fld := { id := 175, blk := .evt, addr := 0x80018, stride := 0, count := 1, lsb := 0, width := 16, acc := .ro, cls := .live, rst := 0 }
def EVT_MASKED_COUNT : Fld := { id := 176, blk := .evt, addr := 0x80020, stride := 0, count := 1, lsb := 0, width := 32, acc := .ro, cls := .live, rst := 0 }
def EVT_GAP_MASKED_COUNT : Fld := { id := 177, blk := .evt, addr := 0x80024, stride := 0, count := 1, lsb := 0, width := 32, acc := .ro, cls := .live, rst := 0 }
def EVT_UNROUTED_COUNT : Fld := { id := 178, blk := .evt, addr := 0x80028, stride := 0, count := 1, lsb := 0, width := 32, acc := .ro, cls := .live, rst := 0 }
def EVT_STALE_COUNT : Fld := { id := 179, blk := .evt, addr := 0x8002C, stride := 0, count := 1, lsb := 0, width := 32, acc := .ro, cls := .live, rst := 0 }
def EVT_POISON_COUNT : Fld := { id := 180, blk := .evt, addr := 0x80030, stride := 0, count := 1, lsb := 0, width := 32, acc := .ro, cls := .live, rst := 0 }
def EVT_CNT_CLR_CLEAR : Fld := { id := 181, blk := .evt, addr := 0x80034, stride := 0, count := 1, lsb := 0, width := 1, acc := .wo, cls := .live, rst := 0 }
def EVT_INT_STALE : Fld := { id := 182, blk := .evt, addr := 0x80038, stride := 0, count := 1, lsb := 0, width := 1, acc := .w1c, cls := .live, rst := 0 }
def EVT_INT_RMAP_COMMITTED : Fld := { id := 183, blk := .evt, addr := 0x80038, stride := 0, count := 1, lsb := 1, width := 1, acc := .w1c, cls := .live, rst := 0 }
def EVT_INT_RMAP_ERR : Fld := { id := 184, blk := .evt, addr := 0x80038, stride := 0, count := 1, lsb := 2, width := 1, acc := .w1c, cls := .live, rst := 0 }
def EVT_INT_REFUSED : Fld := { id := 185, blk := .evt, addr := 0x80038, stride := 0, count := 1, lsb := 3, width := 1, acc := .w1c, cls := .live, rst := 0 }
def EVT_INT_RATE : Fld := { id := 186, blk := .evt, addr := 0x80038, stride := 0, count := 1, lsb := 4, width := 1, acc := .w1c, cls := .live, rst := 0 }
def EVT_INT_POISON : Fld := { id := 187, blk := .evt, addr := 0x80038, stride := 0, count := 1, lsb := 5, width := 1, acc := .w1c, cls := .live, rst := 0 }
def EVT_INT_UNROUTED : Fld := { id := 188, blk := .evt, addr := 0x80038, stride := 0, count := 1, lsb := 6, width := 1, acc := .w1c, cls := .live, rst := 0 }
def EVT_INT_CNT_SAT : Fld := { id := 189, blk := .evt, addr := 0x80038, stride := 0, count := 1, lsb := 7, width := 1, acc := .w1c, cls := .live, rst := 0 }
def EVT_INT_EN_EN : Fld := { id := 190, blk := .evt, addr := 0x8003C, stride := 0, count := 1, lsb := 0, width := 8, acc := .rw, cls := .live, rst := 0 }
def EVT_RATE_SEL_GROUP : Fld := { id := 191, blk := .evt, addr := 0x80040, stride := 0, count := 1, lsb := 0, width := 8, acc := .rw, cls := .live, rst := 0 }
def EVT_RATE_CFG_WLOG : Fld := { id := 192, blk := .evt, addr := 0x80044, stride := 0, count := 1, lsb := 0, width := 5, acc := .rw, cls := .staged, rst := 0x10, sel := 191, bank := 256 }
def EVT_RATE_CFG_EN : Fld := { id := 193, blk := .evt, addr := 0x80044, stride := 0, count := 1, lsb := 8, width := 1, acc := .rw, cls := .staged, rst := 0, sel := 191, bank := 256 }
def EVT_RATE_CFG_STATUS_EN : Fld := { id := 194, blk := .evt, addr := 0x80044, stride := 0, count := 1, lsb := 9, width := 1, acc := .rw, cls := .staged, rst := 0, sel := 191, bank := 256 }
def EVT_RATE_CFG_STREAM : Fld := { id := 195, blk := .evt, addr := 0x80044, stride := 0, count := 1, lsb := 16, width := 6, acc := .rw, cls := .staged, rst := 0, sel := 191, bank := 256 }
def EVT_RATE_HI_HI : Fld := { id := 196, blk := .evt, addr := 0x80048, stride := 0, count := 1, lsb := 0, width := 32, acc := .rw, cls := .staged, rst := 0xffffffff, sel := 191, bank := 256 }
def EVT_RATE_LO_LO : Fld := { id := 197, blk := .evt, addr := 0x8004C, stride := 0, count := 1, lsb := 0, width := 32, acc := .rw, cls := .staged, rst := 0, sel := 191, bank := 256 }
def EVT_RATE_LAST_COUNT : Fld := { id := 198, blk := .evt, addr := 0x80050, stride := 0, count := 1, lsb := 0, width := 32, acc := .ro, cls := .live, rst := 0, sel := 191, bank := 256 }
def EVT_RATE_STATE_HIGH : Fld := { id := 199, blk := .evt, addr := 0x80054, stride := 0, count := 1, lsb := 0, width := 1, acc := .ro, cls := .live, rst := 0, sel := 191, bank := 256 }
def EVT_RATE_FLAG_FLAG : Fld := { id := 200, blk := .evt, addr := 0x80058, stride := 4, count := 8, lsb := 0, width := 32, acc := .w1c, cls := .live, rst := 0 }
def EVT_STRM_CFGn_EN : Fld := { id := 201, blk := .strm, addr := 0x80100, stride := 8, count := 64, lsb := 0, width := 1, acc := .rw, cls := .live, rst := 0 }
def EVT_STRM_CFGn_MAXITEM : Fld := { id := 202, blk := .strm, addr := 0x80100, stride := 8, count := 64, lsb := 1, width := 9, acc := .rw, cls := .live, rst := 0x100 }
def EVT_STRM_CFGn_FLUSH : Fld := { id := 203, blk := .strm, addr := 0x80100, stride := 8, count := 64, lsb := 16, width := 16, acc := .rw, cls := .live, rst := 0x40 }
def EVT_STRM_STATn_NEXT_SEQ : Fld := { id := 204, blk := .strm, addr := 0x80104, stride := 8, count := 64, lsb := 0, width := 16, acc := .ro, cls := .live, rst := 0 }
def EVT_STRM_STATn_OPEN : Fld := { id := 205, blk := .strm, addr := 0x80104, stride := 8, count := 64, lsb := 16, width := 1, acc := .ro, cls := .live, rst := 0 }
/-- Rows of the EVT tables. -/
def tblEVT0 : List Fld :=
  [EVT_CTRL_EN, EVT_CTRL_POISON_STREAM, EVT_RMAP_CTRL_COMMIT, EVT_RMAP_CTRL_READ_ACTIVE,
   EVT_RMAP_STATUS_PENDING, EVT_RMAP_STATUS_BUSY, EVT_RMAP_STATUS_GEN, EVT_RMAP_ERRIDX_INDEX,
   EVT_MASKED_COUNT, EVT_GAP_MASKED_COUNT, EVT_UNROUTED_COUNT, EVT_STALE_COUNT,
   EVT_POISON_COUNT, EVT_CNT_CLR_CLEAR, EVT_INT_STALE, EVT_INT_RMAP_COMMITTED,
   EVT_INT_RMAP_ERR, EVT_INT_REFUSED, EVT_INT_RATE, EVT_INT_POISON,
   EVT_INT_UNROUTED, EVT_INT_CNT_SAT, EVT_INT_EN_EN, EVT_RATE_SEL_GROUP]
/-- Rows of the EVT tables. -/
def tblEVT1 : List Fld :=
  [EVT_RATE_CFG_WLOG, EVT_RATE_CFG_EN, EVT_RATE_CFG_STATUS_EN, EVT_RATE_CFG_STREAM,
   EVT_RATE_HI_HI, EVT_RATE_LO_LO, EVT_RATE_LAST_COUNT, EVT_RATE_STATE_HIGH,
   EVT_RATE_FLAG_FLAG, EVT_STRM_CFGn_EN, EVT_STRM_CFGn_MAXITEM, EVT_STRM_CFGn_FLUSH,
   EVT_STRM_STATn_NEXT_SEQ, EVT_STRM_STATn_OPEN]

/-! CLU -/
def CLU_CTRL_EN : Fld := { id := 206, blk := .clu, addr := 0x81000, stride := 0, count := 1, lsb := 0, width := 8, acc := .rw, cls := .locked, rst := 0 }
def CLU_GEOM_ROW0 : Fld := { id := 207, blk := .clu, addr := 0x81010, stride := 4, count := 8, lsb := 0, width := 5, acc := .ro, cls := .live, rst := 0 }
def CLU_GEOM_NROW : Fld := { id := 208, blk := .clu, addr := 0x81010, stride := 4, count := 8, lsb := 5, width := 6, acc := .ro, cls := .live, rst := 0 }
def CLU_GEOM_COL0 : Fld := { id := 209, blk := .clu, addr := 0x81010, stride := 4, count := 8, lsb := 11, width := 5, acc := .ro, cls := .live, rst := 0 }
def CLU_GEOM_NCOL : Fld := { id := 210, blk := .clu, addr := 0x81010, stride := 4, count := 8, lsb := 16, width := 6, acc := .ro, cls := .live, rst := 0 }
def CLU_GEOM_MARGIN : Fld := { id := 211, blk := .clu, addr := 0x81010, stride := 4, count := 8, lsb := 24, width := 4, acc := .ro, cls := .live, rst := 0 }
def CLU_RULE_WIN : Fld := { id := 212, blk := .clu, addr := 0x81040, stride := 4, count := 8, lsb := 0, width := 12, acc := .rw, cls := .staged, rst := 0x19 }
def CLU_RULE_ADJ : Fld := { id := 213, blk := .clu, addr := 0x81040, stride := 4, count := 8, lsb := 12, width := 2, acc := .rw, cls := .staged, rst := 1 }
def CLU_RULE_WEIGHT : Fld := { id := 214, blk := .clu, addr := 0x81040, stride := 4, count := 8, lsb := 14, width := 1, acc := .rw, cls := .staged, rst := 0 }
def CLU_RULE_SINGLE : Fld := { id := 215, blk := .clu, addr := 0x81040, stride := 4, count := 8, lsb := 15, width := 1, acc := .rw, cls := .staged, rst := 1 }
def CLU_RULE_HOLD : Fld := { id := 216, blk := .clu, addr := 0x81040, stride := 4, count := 8, lsb := 16, width := 16, acc := .rw, cls := .staged, rst := 0xfa }
def CLU_SEL_ENGINE : Fld := { id := 217, blk := .clu, addr := 0x81080, stride := 0, count := 1, lsb := 0, width := 3, acc := .rw, cls := .live, rst := 0 }
def CLU_HITS_COUNT : Fld := { id := 218, blk := .clu, addr := 0x81084, stride := 0, count := 1, lsb := 0, width := 32, acc := .ro, cls := .live, rst := 0, sel := 217, bank := 8 }
def CLU_RECORDS_COUNT : Fld := { id := 219, blk := .clu, addr := 0x81088, stride := 0, count := 1, lsb := 0, width := 32, acc := .ro, cls := .live, rst := 0, sel := 217, bank := 8 }
def CLU_LATE_COUNT : Fld := { id := 220, blk := .clu, addr := 0x8108C, stride := 0, count := 1, lsb := 0, width := 32, acc := .ro, cls := .live, rst := 0, sel := 217, bank := 8 }
def CLU_SPLIT_COUNT : Fld := { id := 221, blk := .clu, addr := 0x81090, stride := 0, count := 1, lsb := 0, width := 32, acc := .ro, cls := .live, rst := 0, sel := 217, bank := 8 }
def CLU_SEAM_COUNT : Fld := { id := 222, blk := .clu, addr := 0x81094, stride := 0, count := 1, lsb := 0, width := 32, acc := .ro, cls := .live, rst := 0, sel := 217, bank := 8 }
def CLU_RECOMP_COUNT : Fld := { id := 223, blk := .clu, addr := 0x81098, stride := 0, count := 1, lsb := 0, width := 32, acc := .ro, cls := .live, rst := 0, sel := 217, bank := 8 }
def CLU_POISON_COUNT : Fld := { id := 224, blk := .clu, addr := 0x8109C, stride := 0, count := 1, lsb := 0, width := 32, acc := .ro, cls := .live, rst := 0, sel := 217, bank := 8 }
def CLU_FULL_COUNT : Fld := { id := 225, blk := .clu, addr := 0x810A0, stride := 0, count := 1, lsb := 0, width := 32, acc := .ro, cls := .live, rst := 0, sel := 217, bank := 8 }
def CLU_BYPASS_COUNT : Fld := { id := 226, blk := .clu, addr := 0x810A4, stride := 0, count := 1, lsb := 0, width := 32, acc := .ro, cls := .live, rst := 0, sel := 217, bank := 8 }
def CLU_OCC_OPEN : Fld := { id := 227, blk := .clu, addr := 0x810A8, stride := 0, count := 1, lsb := 0, width := 13, acc := .ro, cls := .live, rst := 0, sel := 217, bank := 8 }
def CLU_OCC_PEAK : Fld := { id := 228, blk := .clu, addr := 0x810A8, stride := 0, count := 1, lsb := 16, width := 13, acc := .ro, cls := .live, rst := 0, sel := 217, bank := 8 }
def CLU_INT_RECOMP : Fld := { id := 229, blk := .clu, addr := 0x810B0, stride := 0, count := 1, lsb := 0, width := 1, acc := .w1c, cls := .live, rst := 0 }
def CLU_INT_POISON : Fld := { id := 230, blk := .clu, addr := 0x810B0, stride := 0, count := 1, lsb := 1, width := 1, acc := .w1c, cls := .live, rst := 0 }
def CLU_INT_FULL : Fld := { id := 231, blk := .clu, addr := 0x810B0, stride := 0, count := 1, lsb := 2, width := 1, acc := .w1c, cls := .live, rst := 0 }
def CLU_INT_LATE : Fld := { id := 232, blk := .clu, addr := 0x810B0, stride := 0, count := 1, lsb := 3, width := 1, acc := .w1c, cls := .live, rst := 0 }
def CLU_INT_REFUSED : Fld := { id := 233, blk := .clu, addr := 0x810B0, stride := 0, count := 1, lsb := 4, width := 1, acc := .w1c, cls := .live, rst := 0 }
def CLU_INT_CNT_SAT : Fld := { id := 234, blk := .clu, addr := 0x810B0, stride := 0, count := 1, lsb := 5, width := 1, acc := .w1c, cls := .live, rst := 0 }
def CLU_INT_EN_EN : Fld := { id := 235, blk := .clu, addr := 0x810B4, stride := 0, count := 1, lsb := 0, width := 6, acc := .rw, cls := .live, rst := 0 }
def CLU_CNT_CLR_CLEAR : Fld := { id := 236, blk := .clu, addr := 0x810B8, stride := 0, count := 1, lsb := 0, width := 1, acc := .wo, cls := .live, rst := 0 }
/-- Rows of the CLU tables. -/
def tblCLU0 : List Fld :=
  [CLU_CTRL_EN, CLU_GEOM_ROW0, CLU_GEOM_NROW, CLU_GEOM_COL0,
   CLU_GEOM_NCOL, CLU_GEOM_MARGIN, CLU_RULE_WIN, CLU_RULE_ADJ,
   CLU_RULE_WEIGHT, CLU_RULE_SINGLE, CLU_RULE_HOLD, CLU_SEL_ENGINE,
   CLU_HITS_COUNT, CLU_RECORDS_COUNT, CLU_LATE_COUNT, CLU_SPLIT_COUNT,
   CLU_SEAM_COUNT, CLU_RECOMP_COUNT, CLU_POISON_COUNT, CLU_FULL_COUNT,
   CLU_BYPASS_COUNT, CLU_OCC_OPEN, CLU_OCC_PEAK, CLU_INT_RECOMP]
/-- Rows of the CLU tables. -/
def tblCLU1 : List Fld :=
  [CLU_INT_POISON, CLU_INT_FULL, CLU_INT_LATE, CLU_INT_REFUSED,
   CLU_INT_CNT_SAT, CLU_INT_EN_EN, CLU_CNT_CLR_CLEAR]

/-! TRG -/
def TRG_CTRL_EN : Fld := { id := 237, blk := .trg, addr := 0xA0000, stride := 0, count := 1, lsb := 0, width := 1, acc := .rw, cls := .live, rst := 0 }
def TRG_CTRL_RING_EN : Fld := { id := 238, blk := .trg, addr := 0xA0000, stride := 0, count := 1, lsb := 1, width := 1, acc := .rw, cls := .live, rst := 0 }
def TRG_STATUS_OPEN : Fld := { id := 239, blk := .trg, addr := 0xA0004, stride := 0, count := 1, lsb := 0, width := 13, acc := .ro, cls := .live, rst := 0 }
def TRG_STATUS_PEND : Fld := { id := 240, blk := .trg, addr := 0xA0004, stride := 0, count := 1, lsb := 16, width := 7, acc := .ro, cls := .live, rst := 0 }
def TRG_STATUS_PEND_PEAK : Fld := { id := 241, blk := .trg, addr := 0xA0004, stride := 0, count := 1, lsb := 24, width := 7, acc := .ro, cls := .live, rst := 0 }
def TRG_RING_CFG_SETTLE : Fld := { id := 242, blk := .trg, addr := 0xA0010, stride := 0, count := 1, lsb := 0, width := 23, acc := .rw, cls := .staged, rst := 0x4000 }
def TRG_RING_CFG_FULL_POLICY : Fld := { id := 243, blk := .trg, addr := 0xA0010, stride := 0, count := 1, lsb := 24, width := 1, acc := .rw, cls := .locked, rst := 0 }
def TRG_RING_STATUS_WSEG : Fld := { id := 244, blk := .trg, addr := 0xA0014, stride := 0, count := 1, lsb := 0, width := 17, acc := .ro, cls := .live, rst := 0 }
def TRG_RING_STATUS_WRAPPED : Fld := { id := 245, blk := .trg, addr := 0xA0014, stride := 0, count := 1, lsb := 31, width := 1, acc := .ro, cls := .live, rst := 0 }
def TRG_RING_HZN_H : Fld := { id := 246, blk := .trg, addr := 0xA0018, stride := 0, count := 1, lsb := 0, width := 64, acc := .ro, cls := .live, rst := 0 }
def TRG_RING_OVR_COUNT : Fld := { id := 247, blk := .trg, addr := 0xA0020, stride := 0, count := 1, lsb := 0, width := 32, acc := .ro, cls := .live, rst := 0 }
def TRG_LAGGED_COUNT : Fld := { id := 248, blk := .trg, addr := 0xA0024, stride := 0, count := 1, lsb := 0, width := 32, acc := .ro, cls := .live, rst := 0 }
def TRG_PRIM_SEL_PRIM : Fld := { id := 249, blk := .trg, addr := 0xA0040, stride := 0, count := 1, lsb := 0, width := 9, acc := .rw, cls := .live, rst := 0 }
def TRG_PRIM_CFG_EN : Fld := { id := 250, blk := .trg, addr := 0xA0044, stride := 0, count := 1, lsb := 0, width := 1, acc := .rw, cls := .live, rst := 0, sel := 249, bank := 512 }
def TRG_PRIM_CFG_STRETCH : Fld := { id := 251, blk := .trg, addr := 0xA0044, stride := 0, count := 1, lsb := 1, width := 6, acc := .rw, cls := .live, rst := 1, sel := 249, bank := 512 }
def TRG_PRIM_CFG_SKEW : Fld := { id := 252, blk := .trg, addr := 0xA0044, stride := 0, count := 1, lsb := 8, width := 24, acc := .rw, cls := .live, rst := 0, sel := 249, bank := 512 }
def TRG_PRIM_CNT_COUNT : Fld := { id := 253, blk := .trg, addr := 0xA0048, stride := 0, count := 1, lsb := 0, width := 32, acc := .ro, cls := .live, rst := 0, sel := 249, bank := 512 }
def TRG_TOD_SEL_TOD : Fld := { id := 254, blk := .trg, addr := 0xA0050, stride := 0, count := 1, lsb := 0, width := 4, acc := .rw, cls := .live, rst := 0 }
def TRG_TOD_NS_NS : Fld := { id := 255, blk := .trg, addr := 0xA0054, stride := 0, count := 1, lsb := 0, width := 30, acc := .rw, cls := .live, rst := 0, sel := 254, bank := 16 }
def TRG_TOD_SEC_LO_SEC : Fld := { id := 256, blk := .trg, addr := 0xA0058, stride := 0, count := 1, lsb := 0, width := 32, acc := .rw, cls := .live, rst := 0, sel := 254, bank := 16 }
def TRG_TOD_SEC_HI_SEC : Fld := { id := 257, blk := .trg, addr := 0xA005C, stride := 0, count := 1, lsb := 0, width := 16, acc := .rw, cls := .live, rst := 0, sel := 254, bank := 16 }
def TRG_TOD_SEC_HI_EN : Fld := { id := 258, blk := .trg, addr := 0xA005C, stride := 0, count := 1, lsb := 31, width := 1, acc := .rw, cls := .live, rst := 0, sel := 254, bank := 16 }
def TRG_TOD_PERIOD_PERIOD : Fld := { id := 259, blk := .trg, addr := 0xA0060, stride := 0, count := 1, lsb := 0, width := 32, acc := .rw, cls := .live, rst := 0, sel := 254, bank := 16 }
def TRG_HOST_FIRE_CODE : Fld := { id := 260, blk := .trg, addr := 0xA0068, stride := 0, count := 1, lsb := 0, width := 4, acc := .wo, cls := .live, rst := 0 }
def TRG_COND_SEL_COND : Fld := { id := 261, blk := .trg, addr := 0xA0080, stride := 0, count := 1, lsb := 0, width := 6, acc := .rw, cls := .live, rst := 0 }
def TRG_COND_CFG_EN : Fld := { id := 262, blk := .trg, addr := 0xA0084, stride := 0, count := 1, lsb := 0, width := 1, acc := .rw, cls := .staged, rst := 0, sel := 261, bank := 64 }
def TRG_COND_CFG_TMPL : Fld := { id := 263, blk := .trg, addr := 0xA0084, stride := 0, count := 1, lsb := 1, width := 4, acc := .rw, cls := .staged, rst := 0, sel := 261, bank := 64 }
def TRG_COND_CFG_TSRC : Fld := { id := 264, blk := .trg, addr := 0xA0084, stride := 0, count := 1, lsb := 5, width := 9, acc := .rw, cls := .staged, rst := 0x1ff, sel := 261, bank := 64 }
def TRG_COND_CFG_SEND : Fld := { id := 265, blk := .trg, addr := 0xA0084, stride := 0, count := 1, lsb := 14, width := 1, acc := .rw, cls := .staged, rst := 0, sel := 261, bank := 64 }
def TRG_COND_CFG_NOCAP : Fld := { id := 266, blk := .trg, addr := 0xA0084, stride := 0, count := 1, lsb := 15, width := 1, acc := .rw, cls := .staged, rst := 0, sel := 261, bank := 64 }
def TRG_COND_CFG_FCODE : Fld := { id := 267, blk := .trg, addr := 0xA0084, stride := 0, count := 1, lsb := 16, width := 4, acc := .rw, cls := .staged, rst := 0, sel := 261, bank := 64 }
def TRG_COND_CNT_COUNT : Fld := { id := 268, blk := .trg, addr := 0xA0088, stride := 0, count := 1, lsb := 0, width := 32, acc := .ro, cls := .live, rst := 0, sel := 261, bank := 64 }
def TRG_TMPL_SEL_TMPL : Fld := { id := 269, blk := .trg, addr := 0xA00A0, stride := 0, count := 1, lsb := 0, width := 4, acc := .rw, cls := .live, rst := 0 }
def TRG_TMPL_CFG_KIND : Fld := { id := 270, blk := .trg, addr := 0xA00A4, stride := 0, count := 1, lsb := 0, width := 1, acc := .rw, cls := .locked, rst := 0, sel := 269, bank := 16 }
def TRG_TMPL_CFG_STREAM : Fld := { id := 271, blk := .trg, addr := 0xA00A4, stride := 0, count := 1, lsb := 1, width := 6, acc := .rw, cls := .locked, rst := 0, sel := 269, bank := 16 }
def TRG_TMPL_CFG_HOLD_MODE : Fld := { id := 272, blk := .trg, addr := 0xA00A4, stride := 0, count := 1, lsb := 8, width := 2, acc := .rw, cls := .staged, rst := 0, sel := 269, bank := 16 }
def TRG_TMPL_CFG_ONESHOT : Fld := { id := 273, blk := .trg, addr := 0xA00A4, stride := 0, count := 1, lsb := 10, width := 1, acc := .rw, cls := .staged, rst := 0, sel := 269, bank := 16 }
def TRG_TMPL_CFG_AUTOFREE : Fld := { id := 274, blk := .trg, addr := 0xA00A4, stride := 0, count := 1, lsb := 11, width := 1, acc := .rw, cls := .staged, rst := 0, sel := 269, bank := 16 }
def TRG_TMPL_CFG_REMOTE_ARM : Fld := { id := 275, blk := .trg, addr := 0xA00A4, stride := 0, count := 1, lsb := 12, width := 1, acc := .rw, cls := .live, rst := 0, sel := 269, bank := 16 }
def TRG_TMPL_CFG_HOLD_N : Fld := { id := 276, blk := .trg, addr := 0xA00A4, stride := 0, count := 1, lsb := 16, width := 16, acc := .rw, cls := .staged, rst := 0, sel := 269, bank := 16 }
def TRG_TMPL_CTX_FIRST : Fld := { id := 277, blk := .trg, addr := 0xA00A8, stride := 0, count := 1, lsb := 0, width := 12, acc := .rw, cls := .locked, rst := 0, sel := 269, bank := 16 }
def TRG_TMPL_CTX_COUNT : Fld := { id := 278, blk := .trg, addr := 0xA00A8, stride := 0, count := 1, lsb := 12, width := 13, acc := .rw, cls := .locked, rst := 0, sel := 269, bank := 16 }
def TRG_TMPL_PRE_PRE : Fld := { id := 279, blk := .trg, addr := 0xA00AC, stride := 0, count := 1, lsb := 0, width := 32, acc := .rw, cls := .staged, rst := 0, sel := 269, bank := 16 }
def TRG_TMPL_POST_POST : Fld := { id := 280, blk := .trg, addr := 0xA00B0, stride := 0, count := 1, lsb := 0, width := 32, acc := .rw, cls := .staged, rst := 0, sel := 269, bank := 16 }
def TRG_TMPL_HOLD_HOLD_T : Fld := { id := 281, blk := .trg, addr := 0xA00B4, stride := 0, count := 1, lsb := 0, width := 32, acc := .rw, cls := .staged, rst := 0, sel := 269, bank := 16 }
def TRG_TMPL_STATUS_STATE : Fld := { id := 282, blk := .trg, addr := 0xA00B8, stride := 0, count := 1, lsb := 0, width := 2, acc := .ro, cls := .live, rst := 0, sel := 269, bank := 16 }
def TRG_TMPL_STATUS_ERR : Fld := { id := 283, blk := .trg, addr := 0xA00B8, stride := 0, count := 1, lsb := 4, width := 4, acc := .ro, cls := .live, rst := 0, sel := 269, bank := 16 }
def TRG_TMPL_STATUS_LAST_CTX : Fld := { id := 284, blk := .trg, addr := 0xA00B8, stride := 0, count := 1, lsb := 8, width := 12, acc := .ro, cls := .live, rst := 0, sel := 269, bank := 16 }
def TRG_TMPL_OPENED_COUNT : Fld := { id := 285, blk := .trg, addr := 0xA00BC, stride := 0, count := 1, lsb := 0, width := 32, acc := .ro, cls := .live, rst := 0, sel := 269, bank := 16 }
def TRG_TMPL_HELD_COUNT : Fld := { id := 286, blk := .trg, addr := 0xA00C0, stride := 0, count := 1, lsb := 0, width := 32, acc := .ro, cls := .live, rst := 0, sel := 269, bank := 16 }
def TRG_TMPL_MISSED_COUNT : Fld := { id := 287, blk := .trg, addr := 0xA00C4, stride := 0, count := 1, lsb := 0, width := 32, acc := .ro, cls := .live, rst := 0, sel := 269, bank := 16 }
def TRG_ARM_MASK : Fld := { id := 288, blk := .trg, addr := 0xA00D0, stride := 0, count := 1, lsb := 0, width := 16, acc := .wo, cls := .live, rst := 0 }
def TRG_DISARM_MASK : Fld := { id := 289, blk := .trg, addr := 0xA00D4, stride := 0, count := 1, lsb := 0, width := 16, acc := .wo, cls := .live, rst := 0 }
def TRG_FLARE_CTL_SEND : Fld := { id := 290, blk := .trg, addr := 0xA00E0, stride := 0, count := 1, lsb := 0, width := 1, acc := .wo, cls := .live, rst := 0 }
def TRG_FLARE_CTL_TYPE : Fld := { id := 291, blk := .trg, addr := 0xA00E0, stride := 0, count := 1, lsb := 1, width := 2, acc := .rw, cls := .live, rst := 1 }
def TRG_FLARE_CTL_TMPLMASK : Fld := { id := 292, blk := .trg, addr := 0xA00E0, stride := 0, count := 1, lsb := 16, width := 16, acc := .rw, cls := .live, rst := 0 }
def TRG_FLARE_NS_NS : Fld := { id := 293, blk := .trg, addr := 0xA00E4, stride := 0, count := 1, lsb := 0, width := 30, acc := .rw, cls := .live, rst := 0 }
def TRG_FLARE_SEC_SEC : Fld := { id := 294, blk := .trg, addr := 0xA00E8, stride := 0, count := 1, lsb := 0, width := 48, acc := .rw, cls := .live, rst := 0 }
def TRG_FLARE_IN_COUNT : Fld := { id := 295, blk := .trg, addr := 0xA00F0, stride := 0, count := 1, lsb := 0, width := 32, acc := .ro, cls := .live, rst := 0 }
def TRG_FLARE_OUT_COUNT : Fld := { id := 296, blk := .trg, addr := 0xA00F4, stride := 0, count := 1, lsb := 0, width := 32, acc := .ro, cls := .live, rst := 0 }
def TRG_NOTIME_COUNT : Fld := { id := 297, blk := .trg, addr := 0xA00F8, stride := 0, count := 1, lsb := 0, width := 32, acc := .ro, cls := .live, rst := 0 }
def TRG_CTX_CMD_INDEX : Fld := { id := 298, blk := .trg, addr := 0xA0100, stride := 0, count := 1, lsb := 0, width := 12, acc := .wo, cls := .live, rst := 0 }
def TRG_CTX_CMD_RELEASE : Fld := { id := 299, blk := .trg, addr := 0xA0100, stride := 0, count := 1, lsb := 16, width := 1, acc := .wo, cls := .live, rst := 0 }
def TRG_CTX_CMD_ABORT : Fld := { id := 300, blk := .trg, addr := 0xA0100, stride := 0, count := 1, lsb := 17, width := 1, acc := .wo, cls := .live, rst := 0 }
def TRG_DONE_FIFO_INDEX : Fld := { id := 301, blk := .trg, addr := 0xA0104, stride := 0, count := 1, lsb := 0, width := 12, acc := .ro, cls := .live, rst := 0 }
def TRG_DONE_FIFO_VALID : Fld := { id := 302, blk := .trg, addr := 0xA0104, stride := 0, count := 1, lsb := 31, width := 1, acc := .ro, cls := .live, rst := 0 }
def TRG_TRUNC_COUNT : Fld := { id := 303, blk := .trg, addr := 0xA0108, stride := 0, count := 1, lsb := 0, width := 32, acc := .ro, cls := .live, rst := 0 }
def TRG_CLASH_COUNT : Fld := { id := 304, blk := .trg, addr := 0xA010C, stride := 0, count := 1, lsb := 0, width := 32, acc := .ro, cls := .live, rst := 0 }
def TRG_MASK_SEL_POINT : Fld := { id := 305, blk := .trg, addr := 0xA0140, stride := 0, count := 1, lsb := 0, width := 10, acc := .rw, cls := .live, rst := 0 }
def TRG_MASK_SEL_UNIT : Fld := { id := 306, blk := .trg, addr := 0xA0140, stride := 0, count := 1, lsb := 12, width := 3, acc := .rw, cls := .live, rst := 0 }
def TRG_MASK_UP_UP : Fld := { id := 307, blk := .trg, addr := 0xA0144, stride := 0, count := 1, lsb := 0, width := 18, acc := .rw, cls := .staged, rst := 0x1ffff }
def TRG_MASK_LO_LO : Fld := { id := 308, blk := .trg, addr := 0xA0148, stride := 0, count := 1, lsb := 0, width := 18, acc := .rw, cls := .staged, rst := 0x20000 }
def TRG_MASK_CFG_EN : Fld := { id := 309, blk := .trg, addr := 0xA014C, stride := 0, count := 1, lsb := 0, width := 1, acc := .rw, cls := .live, rst := 0, sel := 306, bank := 8 }
def TRG_MASK_CFG_SRC : Fld := { id := 310, blk := .trg, addr := 0xA014C, stride := 0, count := 1, lsb := 1, width := 6, acc := .rw, cls := .staged, rst := 0, sel := 306, bank := 8 }
def TRG_MASK_CFG_AVG : Fld := { id := 311, blk := .trg, addr := 0xA014C, stride := 0, count := 1, lsb := 8, width := 4, acc := .rw, cls := .staged, rst := 0, sel := 306, bank := 8 }
def TRG_MASK_CFG_FREE : Fld := { id := 312, blk := .trg, addr := 0xA014C, stride := 0, count := 1, lsb := 12, width := 1, acc := .rw, cls := .staged, rst := 1, sel := 306, bank := 8 }
def TRG_MASK_CFG_START : Fld := { id := 313, blk := .trg, addr := 0xA014C, stride := 0, count := 1, lsb := 13, width := 6, acc := .rw, cls := .staged, rst := 0, sel := 306, bank := 8 }
def TRG_MASK_CFG_STOP : Fld := { id := 314, blk := .trg, addr := 0xA014C, stride := 0, count := 1, lsb := 19, width := 1, acc := .rw, cls := .staged, rst := 0, sel := 306, bank := 8 }
def TRG_MASK_STATUS_STATE : Fld := { id := 315, blk := .trg, addr := 0xA0150, stride := 0, count := 1, lsb := 0, width := 2, acc := .ro, cls := .live, rst := 0, sel := 306, bank := 8 }
def TRG_MASK_STATUS_VPOINT : Fld := { id := 316, blk := .trg, addr := 0xA0150, stride := 0, count := 1, lsb := 2, width := 10, acc := .ro, cls := .live, rst := 0, sel := 306, bank := 8 }
def TRG_MASK_STATUS_VCOUNT : Fld := { id := 317, blk := .trg, addr := 0xA0150, stride := 0, count := 1, lsb := 16, width := 16, acc := .ro, cls := .live, rst := 0, sel := 306, bank := 8 }
def TRG_MASK_VAL_AVG : Fld := { id := 318, blk := .trg, addr := 0xA0154, stride := 0, count := 1, lsb := 0, width := 18, acc := .ro, cls := .live, rst := 0, sel := 306, bank := 8 }
def TRG_MASK_VAL_FLAGGED : Fld := { id := 319, blk := .trg, addr := 0xA0154, stride := 0, count := 1, lsb := 18, width := 1, acc := .ro, cls := .live, rst := 0, sel := 306, bank := 8 }
def TRG_MASK_REARM_REARM : Fld := { id := 320, blk := .trg, addr := 0xA0158, stride := 0, count := 1, lsb := 0, width := 1, acc := .wo, cls := .live, rst := 0 }
def TRG_CNT_CLR_CLEAR : Fld := { id := 321, blk := .trg, addr := 0xA01F0, stride := 0, count := 1, lsb := 0, width := 1, acc := .wo, cls := .live, rst := 0 }
def TRG_INT_CTX_DONE : Fld := { id := 322, blk := .trg, addr := 0xA01F4, stride := 0, count := 1, lsb := 0, width := 1, acc := .w1c, cls := .live, rst := 0 }
def TRG_INT_MISSED : Fld := { id := 323, blk := .trg, addr := 0xA01F4, stride := 0, count := 1, lsb := 1, width := 1, acc := .w1c, cls := .live, rst := 0 }
def TRG_INT_TRUNC : Fld := { id := 324, blk := .trg, addr := 0xA01F4, stride := 0, count := 1, lsb := 2, width := 1, acc := .w1c, cls := .live, rst := 0 }
def TRG_INT_RING_OVR : Fld := { id := 325, blk := .trg, addr := 0xA01F4, stride := 0, count := 1, lsb := 3, width := 1, acc := .w1c, cls := .live, rst := 0 }
def TRG_INT_LAGGED : Fld := { id := 326, blk := .trg, addr := 0xA01F4, stride := 0, count := 1, lsb := 4, width := 1, acc := .w1c, cls := .live, rst := 0 }
def TRG_INT_MASK : Fld := { id := 327, blk := .trg, addr := 0xA01F4, stride := 0, count := 1, lsb := 5, width := 1, acc := .w1c, cls := .live, rst := 0 }
def TRG_INT_NOTIME : Fld := { id := 328, blk := .trg, addr := 0xA01F4, stride := 0, count := 1, lsb := 6, width := 1, acc := .w1c, cls := .live, rst := 0 }
def TRG_INT_CLASH : Fld := { id := 329, blk := .trg, addr := 0xA01F4, stride := 0, count := 1, lsb := 7, width := 1, acc := .w1c, cls := .live, rst := 0 }
def TRG_INT_ARM_ERR : Fld := { id := 330, blk := .trg, addr := 0xA01F4, stride := 0, count := 1, lsb := 8, width := 1, acc := .w1c, cls := .live, rst := 0 }
def TRG_INT_REFUSED : Fld := { id := 331, blk := .trg, addr := 0xA01F4, stride := 0, count := 1, lsb := 9, width := 1, acc := .w1c, cls := .live, rst := 0 }
def TRG_INT_CNT_SAT : Fld := { id := 332, blk := .trg, addr := 0xA01F4, stride := 0, count := 1, lsb := 10, width := 1, acc := .w1c, cls := .live, rst := 0 }
def TRG_INT_EN_EN : Fld := { id := 333, blk := .trg, addr := 0xA01F8, stride := 0, count := 1, lsb := 0, width := 11, acc := .rw, cls := .live, rst := 0 }
/-- Rows of the TRG tables. -/
def tblTRG0 : List Fld :=
  [TRG_CTRL_EN, TRG_CTRL_RING_EN, TRG_STATUS_OPEN, TRG_STATUS_PEND,
   TRG_STATUS_PEND_PEAK, TRG_RING_CFG_SETTLE, TRG_RING_CFG_FULL_POLICY, TRG_RING_STATUS_WSEG,
   TRG_RING_STATUS_WRAPPED, TRG_RING_HZN_H, TRG_RING_OVR_COUNT, TRG_LAGGED_COUNT,
   TRG_PRIM_SEL_PRIM, TRG_PRIM_CFG_EN, TRG_PRIM_CFG_STRETCH, TRG_PRIM_CFG_SKEW,
   TRG_PRIM_CNT_COUNT, TRG_TOD_SEL_TOD, TRG_TOD_NS_NS, TRG_TOD_SEC_LO_SEC,
   TRG_TOD_SEC_HI_SEC, TRG_TOD_SEC_HI_EN, TRG_TOD_PERIOD_PERIOD, TRG_HOST_FIRE_CODE]
/-- Rows of the TRG tables. -/
def tblTRG1 : List Fld :=
  [TRG_COND_SEL_COND, TRG_COND_CFG_EN, TRG_COND_CFG_TMPL, TRG_COND_CFG_TSRC,
   TRG_COND_CFG_SEND, TRG_COND_CFG_NOCAP, TRG_COND_CFG_FCODE, TRG_COND_CNT_COUNT,
   TRG_TMPL_SEL_TMPL, TRG_TMPL_CFG_KIND, TRG_TMPL_CFG_STREAM, TRG_TMPL_CFG_HOLD_MODE,
   TRG_TMPL_CFG_ONESHOT, TRG_TMPL_CFG_AUTOFREE, TRG_TMPL_CFG_REMOTE_ARM, TRG_TMPL_CFG_HOLD_N,
   TRG_TMPL_CTX_FIRST, TRG_TMPL_CTX_COUNT, TRG_TMPL_PRE_PRE, TRG_TMPL_POST_POST,
   TRG_TMPL_HOLD_HOLD_T, TRG_TMPL_STATUS_STATE, TRG_TMPL_STATUS_ERR, TRG_TMPL_STATUS_LAST_CTX]
/-- Rows of the TRG tables. -/
def tblTRG2 : List Fld :=
  [TRG_TMPL_OPENED_COUNT, TRG_TMPL_HELD_COUNT, TRG_TMPL_MISSED_COUNT, TRG_ARM_MASK,
   TRG_DISARM_MASK, TRG_FLARE_CTL_SEND, TRG_FLARE_CTL_TYPE, TRG_FLARE_CTL_TMPLMASK,
   TRG_FLARE_NS_NS, TRG_FLARE_SEC_SEC, TRG_FLARE_IN_COUNT, TRG_FLARE_OUT_COUNT,
   TRG_NOTIME_COUNT, TRG_CTX_CMD_INDEX, TRG_CTX_CMD_RELEASE, TRG_CTX_CMD_ABORT,
   TRG_DONE_FIFO_INDEX, TRG_DONE_FIFO_VALID, TRG_TRUNC_COUNT, TRG_CLASH_COUNT,
   TRG_MASK_SEL_POINT, TRG_MASK_SEL_UNIT, TRG_MASK_UP_UP, TRG_MASK_LO_LO]
/-- Rows of the TRG tables. -/
def tblTRG3 : List Fld :=
  [TRG_MASK_CFG_EN, TRG_MASK_CFG_SRC, TRG_MASK_CFG_AVG, TRG_MASK_CFG_FREE,
   TRG_MASK_CFG_START, TRG_MASK_CFG_STOP, TRG_MASK_STATUS_STATE, TRG_MASK_STATUS_VPOINT,
   TRG_MASK_STATUS_VCOUNT, TRG_MASK_VAL_AVG, TRG_MASK_VAL_FLAGGED, TRG_MASK_REARM_REARM,
   TRG_CNT_CLR_CLEAR, TRG_INT_CTX_DONE, TRG_INT_MISSED, TRG_INT_TRUNC,
   TRG_INT_RING_OVR, TRG_INT_LAGGED, TRG_INT_MASK, TRG_INT_NOTIME,
   TRG_INT_CLASH, TRG_INT_ARM_ERR, TRG_INT_REFUSED, TRG_INT_CNT_SAT]
/-- Rows of the TRG tables. -/
def tblTRG4 : List Fld :=
  [TRG_INT_EN_EN]

/-! FAB -/
def FAB_STATUS_DEPTH : Fld := { id := 365, blk := .fab, addr := 0x180000, stride := 0, count := 1, lsb := 0, width := 5, acc := .ro, cls := .live, rst := 0 }
def FAB_STATUS_CHECKING : Fld := { id := 366, blk := .fab, addr := 0x180000, stride := 0, count := 1, lsb := 8, width := 1, acc := .ro, cls := .live, rst := 0 }
def FAB_STATUS_RELOAD : Fld := { id := 367, blk := .fab, addr := 0x180000, stride := 0, count := 1, lsb := 9, width := 2, acc := .ro, cls := .live, rst := 0 }
def FAB_STATUS_ERR : Fld := { id := 368, blk := .fab, addr := 0x180000, stride := 0, count := 1, lsb := 16, width := 4, acc := .ro, cls := .live, rst := 0 }
def FAB_HOST_LEVEL_LEVEL : Fld := { id := 369, blk := .fab, addr := 0x180004, stride := 0, count := 1, lsb := 0, width := 8, acc := .rw, cls := .live, rst := 0 }
def FAB_WICK_SEL_WICK : Fld := { id := 370, blk := .fab, addr := 0x180008, stride := 0, count := 1, lsb := 0, width := 14, acc := .rw, cls := .live, rst := 0 }
def FAB_WICK_LUT_LUT : Fld := { id := 371, blk := .fab, addr := 0x18000C, stride := 0, count := 1, lsb := 0, width := 64, acc := .rw, cls := .locked, rst := 0 }
def FAB_WICK_CFG_LO_SEL0_3 : Fld := { id := 372, blk := .fab, addr := 0x180014, stride := 0, count := 1, lsb := 0, width := 32, acc := .rw, cls := .locked, rst := 0xfefefefe }
def FAB_WICK_CFG_HI_SEL4 : Fld := { id := 373, blk := .fab, addr := 0x180018, stride := 0, count := 1, lsb := 0, width := 8, acc := .rw, cls := .locked, rst := 0xfe }
def FAB_WICK_CFG_HI_SEL5 : Fld := { id := 374, blk := .fab, addr := 0x180018, stride := 0, count := 1, lsb := 8, width := 8, acc := .rw, cls := .locked, rst := 0xfe }
def FAB_WICK_CFG_HI_MODE : Fld := { id := 375, blk := .fab, addr := 0x180018, stride := 0, count := 1, lsb := 16, width := 2, acc := .rw, cls := .locked, rst := 0 }
def FAB_WICK_CFG_HI_INIT : Fld := { id := 376, blk := .fab, addr := 0x180018, stride := 0, count := 1, lsb := 18, width := 1, acc := .rw, cls := .locked, rst := 0 }
def FAB_WICK_CFG_HI_OUT : Fld := { id := 377, blk := .fab, addr := 0x180018, stride := 0, count := 1, lsb := 19, width := 1, acc := .ro, cls := .live, rst := 0 }
def FAB_GIN_SEL_INPUT : Fld := { id := 378, blk := .fab, addr := 0x18001C, stride := 0, count := 1, lsb := 0, width := 6, acc := .rw, cls := .live, rst := 0 }
def FAB_GIN_SEL_GROUP : Fld := { id := 379, blk := .fab, addr := 0x18001C, stride := 0, count := 1, lsb := 8, width := 8, acc := .rw, cls := .live, rst := 0 }
def FAB_GIN_DATA_SRC : Fld := { id := 380, blk := .fab, addr := 0x180020, stride := 0, count := 1, lsb := 0, width := 16, acc := .rw, cls := .locked, rst := 0xfffe }
def FAB_IDLE_IDLE : Fld := { id := 381, blk := .fab, addr := 0x180040, stride := 4, count := 8, lsb := 0, width := 32, acc := .ro, cls := .live, rst := 0xffffffff }
def FAB_COND_MAP_WICK : Fld := { id := 382, blk := .fab, addr := 0x180080, stride := 4, count := 64, lsb := 0, width := 14, acc := .rw, cls := .locked, rst := 0 }
def FAB_COND_MAP_VALID : Fld := { id := 383, blk := .fab, addr := 0x180080, stride := 4, count := 64, lsb := 15, width := 1, acc := .rw, cls := .locked, rst := 0 }
def FAB_COND_MAP_DEPTH : Fld := { id := 384, blk := .fab, addr := 0x180080, stride := 4, count := 64, lsb := 16, width := 5, acc := .ro, cls := .live, rst := 0 }
def FAB_RELOAD_CTRL_ABORT : Fld := { id := 385, blk := .fab, addr := 0x180180, stride := 0, count := 1, lsb := 0, width := 1, acc := .wo, cls := .live, rst := 0 }
def FAB_SLOW_COUNT : Fld := { id := 386, blk := .fab, addr := 0x180184, stride := 0, count := 1, lsb := 0, width := 32, acc := .ro, cls := .live, rst := 0 }
def FAB_SEU_CORR : Fld := { id := 387, blk := .fab, addr := 0x180188, stride := 0, count := 1, lsb := 0, width := 16, acc := .ro, cls := .live, rst := 0 }
def FAB_SEU_UNCORR : Fld := { id := 388, blk := .fab, addr := 0x180188, stride := 0, count := 1, lsb := 16, width := 16, acc := .ro, cls := .live, rst := 0 }
def FAB_SEU_LAST_ADDR : Fld := { id := 389, blk := .fab, addr := 0x18018C, stride := 0, count := 1, lsb := 0, width := 32, acc := .ro, cls := .live, rst := 0 }
def FAB_INT_RELOADED : Fld := { id := 390, blk := .fab, addr := 0x180190, stride := 0, count := 1, lsb := 0, width := 1, acc := .w1c, cls := .live, rst := 0 }
def FAB_INT_RELOAD_ERR : Fld := { id := 391, blk := .fab, addr := 0x180190, stride := 0, count := 1, lsb := 1, width := 1, acc := .w1c, cls := .live, rst := 0 }
def FAB_INT_REFUSED : Fld := { id := 392, blk := .fab, addr := 0x180190, stride := 0, count := 1, lsb := 2, width := 1, acc := .w1c, cls := .live, rst := 0 }
def FAB_INT_SLOW : Fld := { id := 393, blk := .fab, addr := 0x180190, stride := 0, count := 1, lsb := 3, width := 1, acc := .w1c, cls := .live, rst := 0 }
def FAB_INT_SEU_UNCORR : Fld := { id := 394, blk := .fab, addr := 0x180190, stride := 0, count := 1, lsb := 4, width := 1, acc := .w1c, cls := .live, rst := 0 }
def FAB_INT_COND_OFF : Fld := { id := 395, blk := .fab, addr := 0x180190, stride := 0, count := 1, lsb := 5, width := 1, acc := .w1c, cls := .live, rst := 0 }
def FAB_INT_PROG_DONE : Fld := { id := 396, blk := .fab, addr := 0x180190, stride := 0, count := 1, lsb := 6, width := 1, acc := .w1c, cls := .live, rst := 0 }
def FAB_INT_PROG_ERR : Fld := { id := 397, blk := .fab, addr := 0x180190, stride := 0, count := 1, lsb := 7, width := 1, acc := .w1c, cls := .live, rst := 0 }
def FAB_INT_CNT_SAT : Fld := { id := 398, blk := .fab, addr := 0x180190, stride := 0, count := 1, lsb := 8, width := 1, acc := .w1c, cls := .live, rst := 0 }
def FAB_INT_EN_EN : Fld := { id := 399, blk := .fab, addr := 0x180194, stride := 0, count := 1, lsb := 0, width := 9, acc := .rw, cls := .live, rst := 0 }
def FAB_CNT_CLR_CLEAR : Fld := { id := 400, blk := .fab, addr := 0x180198, stride := 0, count := 1, lsb := 0, width := 1, acc := .wo, cls := .live, rst := 0 }
def FAB_IMG_ACTIVE_SLOT : Fld := { id := 401, blk := .fab, addr := 0x180200, stride := 0, count := 1, lsb := 0, width := 1, acc := .ro, cls := .live, rst := 0 }
def FAB_IMG_ACTIVE_TRIAL_RUN : Fld := { id := 402, blk := .fab, addr := 0x180200, stride := 0, count := 1, lsb := 8, width := 1, acc := .ro, cls := .live, rst := 0 }
def FAB_IMG_ID_ID : Fld := { id := 403, blk := .fab, addr := 0x180204, stride := 0, count := 1, lsb := 0, width := 64, acc := .ro, cls := .live, rst := 0 }
def FAB_IMG_GEN_GEN : Fld := { id := 404, blk := .fab, addr := 0x18020C, stride := 0, count := 1, lsb := 0, width := 32, acc := .ro, cls := .live, rst := 0 }
def FAB_IMG_INFO_SEL_SLOT : Fld := { id := 405, blk := .fab, addr := 0x180210, stride := 0, count := 1, lsb := 0, width := 1, acc := .rw, cls := .live, rst := 0 }
def FAB_IMG_INFO_VALID : Fld := { id := 406, blk := .fab, addr := 0x180214, stride := 0, count := 1, lsb := 0, width := 1, acc := .ro, cls := .live, rst := 0 }
def FAB_IMG_INFO_PREFERRED : Fld := { id := 407, blk := .fab, addr := 0x180214, stride := 0, count := 1, lsb := 1, width := 1, acc := .ro, cls := .live, rst := 0 }
def FAB_IMG_INFO_COMPRESSED : Fld := { id := 408, blk := .fab, addr := 0x180214, stride := 0, count := 1, lsb := 2, width := 1, acc := .ro, cls := .live, rst := 0 }
def FAB_IMG_INFO_SIZEK : Fld := { id := 409, blk := .fab, addr := 0x180214, stride := 0, count := 1, lsb := 8, width := 24, acc := .ro, cls := .live, rst := 0 }
def FAB_IMG_INFO_ID_ID : Fld := { id := 410, blk := .fab, addr := 0x180218, stride := 0, count := 1, lsb := 0, width := 64, acc := .ro, cls := .live, rst := 0 }
def FAB_IMG_INFO_GEN_GEN : Fld := { id := 411, blk := .fab, addr := 0x180220, stride := 0, count := 1, lsb := 0, width := 32, acc := .ro, cls := .live, rst := 0 }
def FAB_IMG_CTRL_PREF_SLOT : Fld := { id := 412, blk := .fab, addr := 0x180230, stride := 0, count := 1, lsb := 0, width := 1, acc := .rwg, cls := .live, rst := 0 }
def FAB_IMG_CTRL_TRIAL : Fld := { id := 413, blk := .fab, addr := 0x180230, stride := 0, count := 1, lsb := 1, width := 1, acc := .rwg, cls := .live, rst := 0 }
def FAB_IMG_CTRL_CONFIRM : Fld := { id := 414, blk := .fab, addr := 0x180230, stride := 0, count := 1, lsb := 2, width := 1, acc := .rwg, cls := .live, rst := 0 }
def FAB_IMG_PROG_START : Fld := { id := 415, blk := .fab, addr := 0x180234, stride := 0, count := 1, lsb := 0, width := 1, acc := .rwg, cls := .live, rst := 0 }
def FAB_IMG_PROG_SLOT : Fld := { id := 416, blk := .fab, addr := 0x180234, stride := 0, count := 1, lsb := 1, width := 1, acc := .rwg, cls := .live, rst := 0 }
def FAB_IMG_PROG_ABORT : Fld := { id := 417, blk := .fab, addr := 0x180234, stride := 0, count := 1, lsb := 2, width := 1, acc := .rwg, cls := .live, rst := 0 }
def FAB_IMG_PROG_STATUS_STATE : Fld := { id := 418, blk := .fab, addr := 0x180238, stride := 0, count := 1, lsb := 0, width := 3, acc := .ro, cls := .live, rst := 0 }
def FAB_IMG_PROG_STATUS_ERR : Fld := { id := 419, blk := .fab, addr := 0x180238, stride := 0, count := 1, lsb := 8, width := 4, acc := .ro, cls := .live, rst := 0 }
def FAB_IMG_PROG_STATUS_PROGRESS : Fld := { id := 420, blk := .fab, addr := 0x180238, stride := 0, count := 1, lsb := 16, width := 16, acc := .ro, cls := .live, rst := 0 }
def FAB_IMG_LOADERR_ERR_FIRST : Fld := { id := 421, blk := .fab, addr := 0x18023C, stride := 0, count := 1, lsb := 0, width := 4, acc := .ro, cls := .live, rst := 0 }
def FAB_IMG_LOADERR_ERR_OTHER : Fld := { id := 422, blk := .fab, addr := 0x18023C, stride := 0, count := 1, lsb := 4, width := 4, acc := .ro, cls := .live, rst := 0 }
def FAB_IMG_LOADERR_FELLBACK : Fld := { id := 423, blk := .fab, addr := 0x18023C, stride := 0, count := 1, lsb := 8, width := 1, acc := .ro, cls := .live, rst := 0 }
/-- Rows of the FAB tables. -/
def tblFAB0 : List Fld :=
  [FAB_STATUS_DEPTH, FAB_STATUS_CHECKING, FAB_STATUS_RELOAD, FAB_STATUS_ERR,
   FAB_HOST_LEVEL_LEVEL, FAB_WICK_SEL_WICK, FAB_WICK_LUT_LUT, FAB_WICK_CFG_LO_SEL0_3,
   FAB_WICK_CFG_HI_SEL4, FAB_WICK_CFG_HI_SEL5, FAB_WICK_CFG_HI_MODE, FAB_WICK_CFG_HI_INIT,
   FAB_WICK_CFG_HI_OUT, FAB_GIN_SEL_INPUT, FAB_GIN_SEL_GROUP, FAB_GIN_DATA_SRC,
   FAB_IDLE_IDLE, FAB_COND_MAP_WICK, FAB_COND_MAP_VALID, FAB_COND_MAP_DEPTH,
   FAB_RELOAD_CTRL_ABORT, FAB_SLOW_COUNT, FAB_SEU_CORR, FAB_SEU_UNCORR]
/-- Rows of the FAB tables. -/
def tblFAB1 : List Fld :=
  [FAB_SEU_LAST_ADDR, FAB_INT_RELOADED, FAB_INT_RELOAD_ERR, FAB_INT_REFUSED,
   FAB_INT_SLOW, FAB_INT_SEU_UNCORR, FAB_INT_COND_OFF, FAB_INT_PROG_DONE,
   FAB_INT_PROG_ERR, FAB_INT_CNT_SAT, FAB_INT_EN_EN, FAB_CNT_CLR_CLEAR,
   FAB_IMG_ACTIVE_SLOT, FAB_IMG_ACTIVE_TRIAL_RUN, FAB_IMG_ID_ID, FAB_IMG_GEN_GEN,
   FAB_IMG_INFO_SEL_SLOT, FAB_IMG_INFO_VALID, FAB_IMG_INFO_PREFERRED, FAB_IMG_INFO_COMPRESSED,
   FAB_IMG_INFO_SIZEK, FAB_IMG_INFO_ID_ID, FAB_IMG_INFO_GEN_GEN, FAB_IMG_CTRL_PREF_SLOT]
/-- Rows of the FAB tables. -/
def tblFAB2 : List Fld :=
  [FAB_IMG_CTRL_TRIAL, FAB_IMG_CTRL_CONFIRM, FAB_IMG_PROG_START, FAB_IMG_PROG_SLOT,
   FAB_IMG_PROG_ABORT, FAB_IMG_PROG_STATUS_STATE, FAB_IMG_PROG_STATUS_ERR, FAB_IMG_PROG_STATUS_PROGRESS,
   FAB_IMG_LOADERR_ERR_FIRST, FAB_IMG_LOADERR_ERR_OTHER, FAB_IMG_LOADERR_FELLBACK]

/-! TDC -/
def TDC_CTRL_SPARE_AUTO : Fld := { id := 424, blk := .tdc, addr := 0x1A0000, stride := 0, count := 1, lsb := 0, width := 1, acc := .rw, cls := .live, rst := 1 }
def TDC_STATUS_SP32_CH : Fld := { id := 425, blk := .tdc, addr := 0x1A0004, stride := 0, count := 1, lsb := 0, width := 5, acc := .ro, cls := .live, rst := 0 }
def TDC_STATUS_SP32_USED : Fld := { id := 426, blk := .tdc, addr := 0x1A0004, stride := 0, count := 1, lsb := 5, width := 1, acc := .ro, cls := .live, rst := 0 }
def TDC_STATUS_SP33_CH : Fld := { id := 427, blk := .tdc, addr := 0x1A0004, stride := 0, count := 1, lsb := 8, width := 5, acc := .ro, cls := .live, rst := 0 }
def TDC_STATUS_SP33_USED : Fld := { id := 428, blk := .tdc, addr := 0x1A0004, stride := 0, count := 1, lsb := 13, width := 1, acc := .ro, cls := .live, rst := 0 }
def TDC_STATUS_REQ_PENDING : Fld := { id := 429, blk := .tdc, addr := 0x1A0004, stride := 0, count := 1, lsb := 16, width := 1, acc := .ro, cls := .live, rst := 0 }
def TDC_STATUS_REQ_CH : Fld := { id := 430, blk := .tdc, addr := 0x1A0004, stride := 0, count := 1, lsb := 17, width := 5, acc := .ro, cls := .live, rst := 0 }
def TDC_SPARE_CMD_APPROVE : Fld := { id := 431, blk := .tdc, addr := 0x1A0008, stride := 0, count := 1, lsb := 0, width := 1, acc := .wo, cls := .live, rst := 0 }
def TDC_SPARE_CMD_DECLINE : Fld := { id := 432, blk := .tdc, addr := 0x1A0008, stride := 0, count := 1, lsb := 1, width := 1, acc := .wo, cls := .live, rst := 0 }
def TDC_CORE_FAIL0_FAIL : Fld := { id := 433, blk := .tdc, addr := 0x1A000C, stride := 0, count := 1, lsb := 0, width := 32, acc := .ro, cls := .live, rst := 0 }
def TDC_CORE_FAIL1_FAIL : Fld := { id := 434, blk := .tdc, addr := 0x1A0010, stride := 0, count := 1, lsb := 0, width := 2, acc := .ro, cls := .live, rst := 0 }
def TDC_CH_OFF_OFF : Fld := { id := 435, blk := .tdc, addr := 0x1A0014, stride := 0, count := 1, lsb := 0, width := 32, acc := .ro, cls := .live, rst := 0 }
def TDC_INT_CORE_FAIL : Fld := { id := 436, blk := .tdc, addr := 0x1A0020, stride := 0, count := 1, lsb := 0, width := 1, acc := .w1c, cls := .live, rst := 0 }
def TDC_INT_CH_OFF : Fld := { id := 437, blk := .tdc, addr := 0x1A0020, stride := 0, count := 1, lsb := 1, width := 1, acc := .w1c, cls := .live, rst := 0 }
def TDC_INT_SPARE_REQ : Fld := { id := 438, blk := .tdc, addr := 0x1A0020, stride := 0, count := 1, lsb := 2, width := 1, acc := .w1c, cls := .live, rst := 0 }
def TDC_INT_LOSS : Fld := { id := 439, blk := .tdc, addr := 0x1A0020, stride := 0, count := 1, lsb := 3, width := 1, acc := .w1c, cls := .live, rst := 0 }
def TDC_INT_BAD : Fld := { id := 440, blk := .tdc, addr := 0x1A0020, stride := 0, count := 1, lsb := 4, width := 1, acc := .w1c, cls := .live, rst := 0 }
def TDC_INT_REFUSED : Fld := { id := 441, blk := .tdc, addr := 0x1A0020, stride := 0, count := 1, lsb := 5, width := 1, acc := .w1c, cls := .live, rst := 0 }
def TDC_INT_CNT_SAT : Fld := { id := 442, blk := .tdc, addr := 0x1A0020, stride := 0, count := 1, lsb := 6, width := 1, acc := .w1c, cls := .live, rst := 0 }
def TDC_INT_EN_EN : Fld := { id := 443, blk := .tdc, addr := 0x1A0024, stride := 0, count := 1, lsb := 0, width := 7, acc := .rw, cls := .live, rst := 0 }
def TDC_QINT_Q : Fld := { id := 444, blk := .tdc, addr := 0x1A0028, stride := 0, count := 1, lsb := 0, width := 32, acc := .w1c, cls := .live, rst := 0 }
def TDC_QINT_EN_EN : Fld := { id := 445, blk := .tdc, addr := 0x1A002C, stride := 0, count := 1, lsb := 0, width := 32, acc := .rw, cls := .live, rst := 0 }
def TDC_CNT_CLR_CLEAR : Fld := { id := 446, blk := .tdc, addr := 0x1A0030, stride := 0, count := 1, lsb := 0, width := 1, acc := .wo, cls := .live, rst := 0 }
def TDC_CH_SEL_CH : Fld := { id := 447, blk := .tdc, addr := 0x1A0040, stride := 0, count := 1, lsb := 0, width := 5, acc := .rw, cls := .live, rst := 0 }
def TDC_CH_CFG_EN : Fld := { id := 448, blk := .tdc, addr := 0x1A0044, stride := 0, count := 1, lsb := 0, width := 1, acc := .rw, cls := .live, rst := 0, sel := 447, bank := 32 }
def TDC_CH_CFG_MODE : Fld := { id := 449, blk := .tdc, addr := 0x1A0044, stride := 0, count := 1, lsb := 1, width := 1, acc := .rw, cls := .locked, rst := 0, sel := 447, bank := 32 }
def TDC_CH_CFG_STD : Fld := { id := 450, blk := .tdc, addr := 0x1A0044, stride := 0, count := 1, lsb := 2, width := 2, acc := .rw, cls := .locked, rst := 0, sel := 447, bank := 32 }
def TDC_CH_CFG_EDGE : Fld := { id := 451, blk := .tdc, addr := 0x1A0044, stride := 0, count := 1, lsb := 4, width := 2, acc := .rw, cls := .staged, rst := 1, sel := 447, bank := 32 }
def TDC_CH_CFG_REARM : Fld := { id := 452, blk := .tdc, addr := 0x1A0044, stride := 0, count := 1, lsb := 6, width := 1, acc := .rw, cls := .staged, rst := 0, sel := 447, bank := 32 }
def TDC_CH_CFG_PIN : Fld := { id := 453, blk := .tdc, addr := 0x1A0044, stride := 0, count := 1, lsb := 8, width := 6, acc := .rw, cls := .locked, rst := 0, sel := 447, bank := 32, rstIdx := true }
def TDC_CH_CFG_START_SRC : Fld := { id := 454, blk := .tdc, addr := 0x1A0044, stride := 0, count := 1, lsb := 16, width := 6, acc := .rw, cls := .staged, rst := 0x3e, sel := 447, bank := 32 }
def TDC_CH_CFG_THR : Fld := { id := 455, blk := .tdc, addr := 0x1A0044, stride := 0, count := 1, lsb := 24, width := 4, acc := .rw, cls := .live, rst := 7, sel := 447, bank := 32 }
def TDC_CH_OFFSET_OFFSET : Fld := { id := 456, blk := .tdc, addr := 0x1A0048, stride := 0, count := 1, lsb := 0, width := 24, acc := .rw, cls := .live, rst := 0, sel := 447, bank := 32 }
def TDC_CH_WMIN_WMIN : Fld := { id := 457, blk := .tdc, addr := 0x1A004C, stride := 0, count := 1, lsb := 0, width := 28, acc := .rw, cls := .staged, rst := 0, sel := 447, bank := 32 }
def TDC_CH_WMAX_WMAX : Fld := { id := 458, blk := .tdc, addr := 0x1A0050, stride := 0, count := 1, lsb := 0, width := 28, acc := .rw, cls := .staged, rst := 0x190, sel := 447, bank := 32 }
def TDC_CH_CMD_ARM : Fld := { id := 459, blk := .tdc, addr := 0x1A0054, stride := 0, count := 1, lsb := 0, width := 1, acc := .wo, cls := .live, rst := 0, sel := 447, bank := 32 }
def TDC_CH_CMD_DISARM : Fld := { id := 460, blk := .tdc, addr := 0x1A0054, stride := 0, count := 1, lsb := 1, width := 1, acc := .wo, cls := .live, rst := 0, sel := 447, bank := 32 }
def TDC_CH_CMD_FLUSH : Fld := { id := 461, blk := .tdc, addr := 0x1A0054, stride := 0, count := 1, lsb := 2, width := 1, acc := .wo, cls := .live, rst := 0, sel := 447, bank := 32 }
def TDC_CH_STATUS_QLEVEL : Fld := { id := 462, blk := .tdc, addr := 0x1A0058, stride := 0, count := 1, lsb := 0, width := 10, acc := .ro, cls := .live, rst := 0, sel := 447, bank := 32 }
def TDC_CH_STATUS_STATE : Fld := { id := 463, blk := .tdc, addr := 0x1A0058, stride := 0, count := 1, lsb := 12, width := 2, acc := .ro, cls := .live, rst := 0, sel := 447, bank := 32 }
def TDC_CH_STATUS_CORE : Fld := { id := 464, blk := .tdc, addr := 0x1A0058, stride := 0, count := 1, lsb := 16, width := 6, acc := .ro, cls := .live, rst := 0, sel := 447, bank := 32, rstIdx := true }
def TDC_CH_CAL_PERIOD : Fld := { id := 465, blk := .tdc, addr := 0x1A005C, stride := 0, count := 1, lsb := 0, width := 12, acc := .ro, cls := .live, rst := 0, sel := 447, bank := 32 }
def TDC_CH_CAL_OFFSET : Fld := { id := 466, blk := .tdc, addr := 0x1A005C, stride := 0, count := 1, lsb := 16, width := 9, acc := .ro, cls := .live, rst := 0, sel := 447, bank := 32 }
def TDC_CH_ENTRIES_COUNT : Fld := { id := 467, blk := .tdc, addr := 0x1A0060, stride := 0, count := 1, lsb := 0, width := 32, acc := .ro, cls := .live, rst := 0, sel := 447, bank := 32 }
def TDC_CH_LOST_COUNT : Fld := { id := 468, blk := .tdc, addr := 0x1A0064, stride := 0, count := 1, lsb := 0, width := 32, acc := .ro, cls := .live, rst := 0, sel := 447, bank := 32 }
def TDC_CH_IGN_COUNT : Fld := { id := 469, blk := .tdc, addr := 0x1A0068, stride := 0, count := 1, lsb := 0, width := 32, acc := .ro, cls := .live, rst := 0, sel := 447, bank := 32 }
def TDC_CH_TIMEOUT_COUNT : Fld := { id := 470, blk := .tdc, addr := 0x1A006C, stride := 0, count := 1, lsb := 0, width := 32, acc := .ro, cls := .live, rst := 0, sel := 447, bank := 32 }
def TDC_CH_BAD_COUNT : Fld := { id := 471, blk := .tdc, addr := 0x1A0070, stride := 0, count := 1, lsb := 0, width := 32, acc := .ro, cls := .live, rst := 0, sel := 447, bank := 32 }
/-- Rows of the TDC tables. -/
def tblTDC0 : List Fld :=
  [TDC_CTRL_SPARE_AUTO, TDC_STATUS_SP32_CH, TDC_STATUS_SP32_USED, TDC_STATUS_SP33_CH,
   TDC_STATUS_SP33_USED, TDC_STATUS_REQ_PENDING, TDC_STATUS_REQ_CH, TDC_SPARE_CMD_APPROVE,
   TDC_SPARE_CMD_DECLINE, TDC_CORE_FAIL0_FAIL, TDC_CORE_FAIL1_FAIL, TDC_CH_OFF_OFF,
   TDC_INT_CORE_FAIL, TDC_INT_CH_OFF, TDC_INT_SPARE_REQ, TDC_INT_LOSS,
   TDC_INT_BAD, TDC_INT_REFUSED, TDC_INT_CNT_SAT, TDC_INT_EN_EN,
   TDC_QINT_Q, TDC_QINT_EN_EN, TDC_CNT_CLR_CLEAR, TDC_CH_SEL_CH]
/-- Rows of the TDC tables. -/
def tblTDC1 : List Fld :=
  [TDC_CH_CFG_EN, TDC_CH_CFG_MODE, TDC_CH_CFG_STD, TDC_CH_CFG_EDGE,
   TDC_CH_CFG_REARM, TDC_CH_CFG_PIN, TDC_CH_CFG_START_SRC, TDC_CH_CFG_THR,
   TDC_CH_OFFSET_OFFSET, TDC_CH_WMIN_WMIN, TDC_CH_WMAX_WMAX, TDC_CH_CMD_ARM,
   TDC_CH_CMD_DISARM, TDC_CH_CMD_FLUSH, TDC_CH_STATUS_QLEVEL, TDC_CH_STATUS_STATE,
   TDC_CH_STATUS_CORE, TDC_CH_CAL_PERIOD, TDC_CH_CAL_OFFSET, TDC_CH_ENTRIES_COUNT,
   TDC_CH_LOST_COUNT, TDC_CH_IGN_COUNT, TDC_CH_TIMEOUT_COUNT, TDC_CH_BAD_COUNT]

/-! AUX -/
def AUX_CTRL_EN : Fld := { id := 472, blk := .aux, addr := 0x1B0000, stride := 0, count := 1, lsb := 0, width := 1, acc := .rw, cls := .live, rst := 0 }
def AUX_CTRL_QEN : Fld := { id := 473, blk := .aux, addr := 0x1B0000, stride := 0, count := 1, lsb := 1, width := 1, acc := .rw, cls := .live, rst := 1 }
def AUX_STATUS_ENTRY : Fld := { id := 474, blk := .aux, addr := 0x1B0004, stride := 0, count := 1, lsb := 0, width := 6, acc := .ro, cls := .live, rst := 0 }
def AUX_STATUS_CONV : Fld := { id := 475, blk := .aux, addr := 0x1B0004, stride := 0, count := 1, lsb := 6, width := 1, acc := .ro, cls := .live, rst := 0 }
def AUX_STATUS_MAIN_FAIL : Fld := { id := 476, blk := .aux, addr := 0x1B0004, stride := 0, count := 1, lsb := 7, width := 1, acc := .ro, cls := .live, rst := 0 }
def AUX_STATUS_SPARE_FAIL : Fld := { id := 477, blk := .aux, addr := 0x1B0004, stride := 0, count := 1, lsb := 8, width := 1, acc := .ro, cls := .live, rst := 0 }
def AUX_STATUS_PENDING : Fld := { id := 478, blk := .aux, addr := 0x1B0004, stride := 0, count := 1, lsb := 9, width := 1, acc := .ro, cls := .live, rst := 0 }
def AUX_SEQ_CFG_TICK : Fld := { id := 479, blk := .aux, addr := 0x1B0008, stride := 0, count := 1, lsb := 0, width := 20, acc := .rw, cls := .locked, rst := 0x7d }
def AUX_SEQ_CFG_LAST : Fld := { id := 480, blk := .aux, addr := 0x1B0008, stride := 0, count := 1, lsb := 24, width := 6, acc := .rw, cls := .staged, rst := 0 }
def AUX_EXC_CFG_EN : Fld := { id := 481, blk := .aux, addr := 0x1B000C, stride := 0, count := 1, lsb := 0, width := 1, acc := .rw, cls := .staged, rst := 0 }
def AUX_EXC_CFG_LEVEL : Fld := { id := 482, blk := .aux, addr := 0x1B000C, stride := 0, count := 1, lsb := 1, width := 8, acc := .rw, cls := .staged, rst := 0 }
def AUX_EXC_CFG_FLIP_N : Fld := { id := 483, blk := .aux, addr := 0x1B000C, stride := 0, count := 1, lsb := 16, width := 8, acc := .rw, cls := .staged, rst := 0 }
def AUX_EXC_CFG_IMIN : Fld := { id := 484, blk := .aux, addr := 0x1B000C, stride := 0, count := 1, lsb := 24, width := 8, acc := .rw, cls := .staged, rst := 0 }
def AUX_EXC_STATUS_IMEAS : Fld := { id := 485, blk := .aux, addr := 0x1B0010, stride := 0, count := 1, lsb := 0, width := 12, acc := .ro, cls := .live, rst := 0 }
def AUX_EXC_STATUS_POL : Fld := { id := 486, blk := .aux, addr := 0x1B0010, stride := 0, count := 1, lsb := 12, width := 1, acc := .ro, cls := .live, rst := 0 }
def AUX_EXC_STATUS_XLIM : Fld := { id := 487, blk := .aux, addr := 0x1B0010, stride := 0, count := 1, lsb := 13, width := 1, acc := .ro, cls := .live, rst := 0 }
def AUX_INJ_CFG_ENTRY : Fld := { id := 488, blk := .aux, addr := 0x1B0020, stride := 4, count := 4, lsb := 0, width := 6, acc := .rw, cls := .live, rst := 0 }
def AUX_INJ_CFG_PRIM : Fld := { id := 489, blk := .aux, addr := 0x1B0020, stride := 4, count := 4, lsb := 8, width := 9, acc := .rw, cls := .live, rst := 0x1ff }
def AUX_INJ_CFG_DLY : Fld := { id := 490, blk := .aux, addr := 0x1B0020, stride := 4, count := 4, lsb := 24, width := 8, acc := .rw, cls := .live, rst := 0x10 }
def AUX_INJ_CMD_FIRE : Fld := { id := 491, blk := .aux, addr := 0x1B0030, stride := 0, count := 1, lsb := 0, width := 4, acc := .wo, cls := .live, rst := 0 }
def AUX_PIN_CFG_ROLE : Fld := { id := 492, blk := .aux, addr := 0x1B0040, stride := 4, count := 16, lsb := 0, width := 3, acc := .rw, cls := .locked, rst := 0 }
def AUX_PIN_CFG_BIAS : Fld := { id := 493, blk := .aux, addr := 0x1B0040, stride := 4, count := 16, lsb := 16, width := 12, acc := .rw, cls := .live, rst := 0 }
def AUX_PIN_CLAMP_NOW : Fld := { id := 494, blk := .aux, addr := 0x1B0080, stride := 0, count := 1, lsb := 0, width := 16, acc := .ro, cls := .live, rst := 0 }
def AUX_PIN_CLAMPED_SEEN : Fld := { id := 495, blk := .aux, addr := 0x1B0084, stride := 0, count := 1, lsb := 0, width := 16, acc := .w1c, cls := .live, rst := 0 }
def AUX_CAL_CMD_STEP : Fld := { id := 496, blk := .aux, addr := 0x1B0090, stride := 0, count := 1, lsb := 0, width := 2, acc := .wo, cls := .live, rst := 0 }
def AUX_CAL_CMD_ZONLY : Fld := { id := 497, blk := .aux, addr := 0x1B0090, stride := 0, count := 1, lsb := 2, width := 1, acc := .wo, cls := .live, rst := 0 }
def AUX_CAL_CMD_SET : Fld := { id := 498, blk := .aux, addr := 0x1B0090, stride := 0, count := 1, lsb := 8, width := 4, acc := .wo, cls := .live, rst := 0 }
def AUX_CAL_CMD_ENTRY : Fld := { id := 499, blk := .aux, addr := 0x1B0090, stride := 0, count := 1, lsb := 16, width := 6, acc := .wo, cls := .live, rst := 0 }
def AUX_CAL_FS_FS : Fld := { id := 500, blk := .aux, addr := 0x1B0094, stride := 0, count := 1, lsb := 0, width := 18, acc := .rw, cls := .live, rst := 0x10000 }
def AUX_CAL_CFG_CAVG : Fld := { id := 501, blk := .aux, addr := 0x1B0098, stride := 0, count := 1, lsb := 0, width := 4, acc := .rw, cls := .live, rst := 0xa }
def AUX_CAL_CFG_TMO : Fld := { id := 502, blk := .aux, addr := 0x1B0098, stride := 0, count := 1, lsb := 8, width := 8, acc := .rw, cls := .live, rst := 0x3c }
def AUX_CAL_STATUS_STATE : Fld := { id := 503, blk := .aux, addr := 0x1B009C, stride := 0, count := 1, lsb := 0, width := 3, acc := .ro, cls := .live, rst := 0 }
def AUX_CAL_STATUS_ERR : Fld := { id := 504, blk := .aux, addr := 0x1B009C, stride := 0, count := 1, lsb := 8, width := 4, acc := .ro, cls := .live, rst := 0 }
def AUX_CAL_Z_Z : Fld := { id := 505, blk := .aux, addr := 0x1B00A0, stride := 0, count := 1, lsb := 0, width := 24, acc := .ro, cls := .live, rst := 0 }
def AUX_CAL_F_F : Fld := { id := 506, blk := .aux, addr := 0x1B00A4, stride := 0, count := 1, lsb := 0, width := 24, acc := .ro, cls := .live, rst := 0 }
def AUX_COEF_SEL_SET : Fld := { id := 507, blk := .aux, addr := 0x1B00B0, stride := 0, count := 1, lsb := 0, width := 4, acc := .rw, cls := .live, rst := 0 }
def AUX_COEF_OFS_OFFSET : Fld := { id := 508, blk := .aux, addr := 0x1B00B4, stride := 0, count := 1, lsb := 0, width := 24, acc := .rw, cls := .staged, rst := 0, sel := 507, bank := 16 }
def AUX_COEF_GAIN_GAIN : Fld := { id := 509, blk := .aux, addr := 0x1B00B8, stride := 0, count := 1, lsb := 0, width := 24, acc := .rw, cls := .staged, rst := 0x400000, sel := 507, bank := 16 }
def AUX_ERR_CODE : Fld := { id := 510, blk := .aux, addr := 0x1B00C0, stride := 0, count := 1, lsb := 0, width := 4, acc := .ro, cls := .live, rst := 0 }
def AUX_ERR_IDX : Fld := { id := 511, blk := .aux, addr := 0x1B00C0, stride := 0, count := 1, lsb := 8, width := 6, acc := .ro, cls := .live, rst := 0 }
def AUX_WIRE_WIRE : Fld := { id := 512, blk := .aux, addr := 0x1B00D0, stride := 4, count := 2, lsb := 0, width := 32, acc := .w1c, cls := .live, rst := 0 }
def AUX_RESULTS_COUNT : Fld := { id := 513, blk := .aux, addr := 0x1B00E0, stride := 0, count := 1, lsb := 0, width := 32, acc := .ro, cls := .live, rst := 0 }
def AUX_LOST_COUNT : Fld := { id := 514, blk := .aux, addr := 0x1B00E4, stride := 0, count := 1, lsb := 0, width := 32, acc := .ro, cls := .live, rst := 0 }
def AUX_OVR_COUNT : Fld := { id := 515, blk := .aux, addr := 0x1B00E8, stride := 0, count := 1, lsb := 0, width := 32, acc := .ro, cls := .live, rst := 0 }
def AUX_RESTART_COUNT : Fld := { id := 516, blk := .aux, addr := 0x1B00EC, stride := 0, count := 1, lsb := 0, width := 32, acc := .ro, cls := .live, rst := 0 }
def AUX_SLIP_COUNT : Fld := { id := 517, blk := .aux, addr := 0x1B00F0, stride := 0, count := 1, lsb := 0, width := 32, acc := .ro, cls := .live, rst := 0 }
def AUX_INJ_MERGED_COUNT : Fld := { id := 518, blk := .aux, addr := 0x1B00F4, stride := 0, count := 1, lsb := 0, width := 32, acc := .ro, cls := .live, rst := 0 }
def AUX_MISMATCH_COUNT : Fld := { id := 519, blk := .aux, addr := 0x1B00F8, stride := 0, count := 1, lsb := 0, width := 32, acc := .ro, cls := .live, rst := 0 }
def AUX_INT_WIRE : Fld := { id := 520, blk := .aux, addr := 0x1B0100, stride := 0, count := 1, lsb := 0, width := 1, acc := .w1c, cls := .live, rst := 0 }
def AUX_INT_CLAMP : Fld := { id := 521, blk := .aux, addr := 0x1B0100, stride := 0, count := 1, lsb := 1, width := 1, acc := .w1c, cls := .live, rst := 0 }
def AUX_INT_OVR : Fld := { id := 522, blk := .aux, addr := 0x1B0100, stride := 0, count := 1, lsb := 2, width := 1, acc := .w1c, cls := .live, rst := 0 }
def AUX_INT_LOSS : Fld := { id := 523, blk := .aux, addr := 0x1B0100, stride := 0, count := 1, lsb := 3, width := 1, acc := .w1c, cls := .live, rst := 0 }
def AUX_INT_CAL_DONE : Fld := { id := 524, blk := .aux, addr := 0x1B0100, stride := 0, count := 1, lsb := 4, width := 1, acc := .w1c, cls := .live, rst := 0 }
def AUX_INT_CAL_ERR : Fld := { id := 525, blk := .aux, addr := 0x1B0100, stride := 0, count := 1, lsb := 5, width := 1, acc := .w1c, cls := .live, rst := 0 }
def AUX_INT_CONV_FAIL : Fld := { id := 526, blk := .aux, addr := 0x1B0100, stride := 0, count := 1, lsb := 6, width := 1, acc := .w1c, cls := .live, rst := 0 }
def AUX_INT_XLIM : Fld := { id := 527, blk := .aux, addr := 0x1B0100, stride := 0, count := 1, lsb := 7, width := 1, acc := .w1c, cls := .live, rst := 0 }
def AUX_INT_QTHR : Fld := { id := 528, blk := .aux, addr := 0x1B0100, stride := 0, count := 1, lsb := 8, width := 1, acc := .w1c, cls := .live, rst := 0 }
def AUX_INT_REFUSED : Fld := { id := 529, blk := .aux, addr := 0x1B0100, stride := 0, count := 1, lsb := 9, width := 1, acc := .w1c, cls := .live, rst := 0 }
def AUX_INT_CNT_SAT : Fld := { id := 530, blk := .aux, addr := 0x1B0100, stride := 0, count := 1, lsb := 10, width := 1, acc := .w1c, cls := .live, rst := 0 }
def AUX_INT_EN_EN : Fld := { id := 531, blk := .aux, addr := 0x1B0104, stride := 0, count := 1, lsb := 0, width := 11, acc := .rw, cls := .live, rst := 0 }
def AUX_CNT_CLR_CLEAR : Fld := { id := 532, blk := .aux, addr := 0x1B0108, stride := 0, count := 1, lsb := 0, width := 1, acc := .wo, cls := .live, rst := 0 }
def AUX_Q_W0_W0 : Fld := { id := 533, blk := .aux, addr := 0x1B0200, stride := 0, count := 1, lsb := 0, width := 64, acc := .ro, cls := .live, rst := 0 }
def AUX_Q_W1_W1 : Fld := { id := 534, blk := .aux, addr := 0x1B0208, stride := 0, count := 1, lsb := 0, width := 64, acc := .ro, cls := .live, rst := 0 }
def AUX_Q_STATUS_QLEVEL : Fld := { id := 535, blk := .aux, addr := 0x1B0210, stride := 0, count := 1, lsb := 0, width := 11, acc := .ro, cls := .live, rst := 0 }
def AUX_Q_STATUS_THR : Fld := { id := 536, blk := .aux, addr := 0x1B0210, stride := 0, count := 1, lsb := 16, width := 4, acc := .rw, cls := .live, rst := 7 }
def AUX_SEQ_ENTRY : Fld := { id := 537, blk := .aux, addr := 0x1B1000, stride := 8, count := 64, lsb := 0, width := 64, acc := .rw, cls := .staged, rst := 0 }
def AUX_LAST_RECORD : Fld := { id := 538, blk := .aux, addr := 0x1B1400, stride := 16, count := 64, lsb := 0, width := 128, acc := .ro, cls := .live, rst := 0 }
/-- Rows of the AUX tables. -/
def tblAUX0 : List Fld :=
  [AUX_CTRL_EN, AUX_CTRL_QEN, AUX_STATUS_ENTRY, AUX_STATUS_CONV,
   AUX_STATUS_MAIN_FAIL, AUX_STATUS_SPARE_FAIL, AUX_STATUS_PENDING, AUX_SEQ_CFG_TICK,
   AUX_SEQ_CFG_LAST, AUX_EXC_CFG_EN, AUX_EXC_CFG_LEVEL, AUX_EXC_CFG_FLIP_N,
   AUX_EXC_CFG_IMIN, AUX_EXC_STATUS_IMEAS, AUX_EXC_STATUS_POL, AUX_EXC_STATUS_XLIM,
   AUX_INJ_CFG_ENTRY, AUX_INJ_CFG_PRIM, AUX_INJ_CFG_DLY, AUX_INJ_CMD_FIRE,
   AUX_PIN_CFG_ROLE, AUX_PIN_CFG_BIAS, AUX_PIN_CLAMP_NOW, AUX_PIN_CLAMPED_SEEN]
/-- Rows of the AUX tables. -/
def tblAUX1 : List Fld :=
  [AUX_CAL_CMD_STEP, AUX_CAL_CMD_ZONLY, AUX_CAL_CMD_SET, AUX_CAL_CMD_ENTRY,
   AUX_CAL_FS_FS, AUX_CAL_CFG_CAVG, AUX_CAL_CFG_TMO, AUX_CAL_STATUS_STATE,
   AUX_CAL_STATUS_ERR, AUX_CAL_Z_Z, AUX_CAL_F_F, AUX_COEF_SEL_SET,
   AUX_COEF_OFS_OFFSET, AUX_COEF_GAIN_GAIN, AUX_ERR_CODE, AUX_ERR_IDX,
   AUX_WIRE_WIRE, AUX_RESULTS_COUNT, AUX_LOST_COUNT, AUX_OVR_COUNT,
   AUX_RESTART_COUNT, AUX_SLIP_COUNT, AUX_INJ_MERGED_COUNT, AUX_MISMATCH_COUNT]
/-- Rows of the AUX tables. -/
def tblAUX2 : List Fld :=
  [AUX_INT_WIRE, AUX_INT_CLAMP, AUX_INT_OVR, AUX_INT_LOSS,
   AUX_INT_CAL_DONE, AUX_INT_CAL_ERR, AUX_INT_CONV_FAIL, AUX_INT_XLIM,
   AUX_INT_QTHR, AUX_INT_REFUSED, AUX_INT_CNT_SAT, AUX_INT_EN_EN,
   AUX_CNT_CLR_CLEAR, AUX_Q_W0_W0, AUX_Q_W1_W1, AUX_Q_STATUS_QLEVEL,
   AUX_Q_STATUS_THR, AUX_SEQ_ENTRY, AUX_LAST_RECORD]

/-! CTL -/
def CTL_PCNT_CFG_MODE : Fld := { id := 539, blk := .ctl, addr := 0x1C0000, stride := 0, count := 1, lsb := 0, width := 8, acc := .rw, cls := .locked, rst := 0 }
def CTL_PCNT_COUNT : Fld := { id := 540, blk := .ctl, addr := 0x1C0010, stride := 4, count := 4, lsb := 0, width := 32, acc := .ro, cls := .live, rst := 0 }
def CTL_PCNT_ERR_COUNT : Fld := { id := 541, blk := .ctl, addr := 0x1C0020, stride := 0, count := 1, lsb := 0, width := 32, acc := .ro, cls := .live, rst := 0 }
def CTL_LOAD_LOAD : Fld := { id := 542, blk := .ctl, addr := 0x1C0024, stride := 0, count := 1, lsb := 0, width := 10, acc := .ro, cls := .live, rst := 0 }
def CTL_Q_W0_W0 : Fld := { id := 543, blk := .ctl, addr := 0x1C0040, stride := 0, count := 1, lsb := 0, width := 64, acc := .ro, cls := .live, rst := 0 }
def CTL_Q_W1_W1 : Fld := { id := 544, blk := .ctl, addr := 0x1C0048, stride := 0, count := 1, lsb := 0, width := 64, acc := .ro, cls := .live, rst := 0 }
def CTL_Q_STATUS_QLEVEL : Fld := { id := 545, blk := .ctl, addr := 0x1C0050, stride := 0, count := 1, lsb := 0, width := 11, acc := .ro, cls := .live, rst := 0 }
def CTL_Q_STATUS_THR : Fld := { id := 546, blk := .ctl, addr := 0x1C0050, stride := 0, count := 1, lsb := 16, width := 4, acc := .rw, cls := .live, rst := 7 }
def CTL_LOST_COUNT : Fld := { id := 547, blk := .ctl, addr := 0x1C0054, stride := 0, count := 1, lsb := 0, width := 32, acc := .ro, cls := .live, rst := 0 }
def CTL_INT_FAULT : Fld := { id := 548, blk := .ctl, addr := 0x1C0060, stride := 0, count := 1, lsb := 0, width := 4, acc := .w1c, cls := .live, rst := 0 }
def CTL_INT_REFUSED : Fld := { id := 549, blk := .ctl, addr := 0x1C0060, stride := 0, count := 1, lsb := 4, width := 1, acc := .w1c, cls := .live, rst := 0 }
def CTL_INT_OVERRUN : Fld := { id := 550, blk := .ctl, addr := 0x1C0060, stride := 0, count := 1, lsb := 5, width := 1, acc := .w1c, cls := .live, rst := 0 }
def CTL_INT_LOSS : Fld := { id := 551, blk := .ctl, addr := 0x1C0060, stride := 0, count := 1, lsb := 6, width := 1, acc := .w1c, cls := .live, rst := 0 }
def CTL_INT_QTHR : Fld := { id := 552, blk := .ctl, addr := 0x1C0060, stride := 0, count := 1, lsb := 7, width := 1, acc := .w1c, cls := .live, rst := 0 }
def CTL_INT_CNT_SAT : Fld := { id := 553, blk := .ctl, addr := 0x1C0060, stride := 0, count := 1, lsb := 8, width := 1, acc := .w1c, cls := .live, rst := 0 }
def CTL_INT_EN_EN : Fld := { id := 554, blk := .ctl, addr := 0x1C0064, stride := 0, count := 1, lsb := 0, width := 9, acc := .rw, cls := .live, rst := 0 }
def CTL_CNT_CLR_CLEAR : Fld := { id := 555, blk := .ctl, addr := 0x1C0068, stride := 0, count := 1, lsb := 0, width := 1, acc := .wo, cls := .live, rst := 0 }
def CTL_Sn_CTRL_EN : Fld := { id := 556, blk := .ctl, addr := 0x1C0100, stride := 128, count := 4, lsb := 0, width := 1, acc := .rw, cls := .live, rst := 0 }
def CTL_Sn_CTRL_TYPE : Fld := { id := 557, blk := .ctl, addr := 0x1C0100, stride := 128, count := 4, lsb := 1, width := 2, acc := .rw, cls := .locked, rst := 0 }
def CTL_Sn_CTRL_OUT_MODE : Fld := { id := 558, blk := .ctl, addr := 0x1C0100, stride := 128, count := 4, lsb := 4, width := 2, acc := .rw, cls := .locked, rst := 0 }
def CTL_Sn_CTRL_FB_AVG : Fld := { id := 559, blk := .ctl, addr := 0x1C0100, stride := 128, count := 4, lsb := 6, width := 1, acc := .rw, cls := .locked, rst := 0 }
def CTL_Sn_CTRL_FF_MODE : Fld := { id := 560, blk := .ctl, addr := 0x1C0100, stride := 128, count := 4, lsb := 8, width := 2, acc := .rw, cls := .locked, rst := 0 }
def CTL_Sn_CTRL_INHIBIT : Fld := { id := 561, blk := .ctl, addr := 0x1C0100, stride := 128, count := 4, lsb := 10, width := 2, acc := .rw, cls := .locked, rst := 0 }
def CTL_Sn_CTRL_LOG_DIV : Fld := { id := 562, blk := .ctl, addr := 0x1C0100, stride := 128, count := 4, lsb := 16, width := 8, acc := .rw, cls := .staged, rst := 0 }
def CTL_Sn_SRC_FB_SRC : Fld := { id := 563, blk := .ctl, addr := 0x1C0104, stride := 128, count := 4, lsb := 0, width := 8, acc := .rw, cls := .locked, rst := 0 }
def CTL_Sn_SRC_SP_SRC : Fld := { id := 564, blk := .ctl, addr := 0x1C0104, stride := 128, count := 4, lsb := 8, width := 8, acc := .rw, cls := .locked, rst := 0 }
def CTL_Sn_SRC_FF_SRC : Fld := { id := 565, blk := .ctl, addr := 0x1C0104, stride := 128, count := 4, lsb := 16, width := 8, acc := .rw, cls := .locked, rst := 0 }
def CTL_Sn_GATE_GATE_PRIM : Fld := { id := 566, blk := .ctl, addr := 0x1C0108, stride := 128, count := 4, lsb := 0, width := 9, acc := .rw, cls := .locked, rst := 0x1ff }
def CTL_Sn_PERIOD_PERIOD : Fld := { id := 567, blk := .ctl, addr := 0x1C010C, stride := 128, count := 4, lsb := 0, width := 28, acc := .rw, cls := .locked, rst := 0x9c4 }
def CTL_Sn_DEADLINE_DEADLINE : Fld := { id := 568, blk := .ctl, addr := 0x1C0110, stride := 128, count := 4, lsb := 0, width := 28, acc := .rw, cls := .locked, rst := 0x3e8 }
def CTL_Sn_SP_SP : Fld := { id := 569, blk := .ctl, addr := 0x1C0114, stride := 128, count := 4, lsb := 0, width := 32, acc := .rw, cls := .live, rst := 0 }
def CTL_Sn_SP_GAIN_GAIN : Fld := { id := 570, blk := .ctl, addr := 0x1C0118, stride := 128, count := 4, lsb := 0, width := 32, acc := .rw, cls := .staged, rst := 0x10000 }
def CTL_Sn_SP_OFS_OFS : Fld := { id := 571, blk := .ctl, addr := 0x1C011C, stride := 128, count := 4, lsb := 0, width := 32, acc := .rw, cls := .staged, rst := 0 }
def CTL_Sn_VMAX_VMAX : Fld := { id := 572, blk := .ctl, addr := 0x1C0120, stride := 128, count := 4, lsb := 0, width := 32, acc := .rw, cls := .staged, rst := 0 }
def CTL_Sn_AMAX_AMAX : Fld := { id := 573, blk := .ctl, addr := 0x1C0124, stride := 128, count := 4, lsb := 0, width := 32, acc := .rw, cls := .staged, rst := 0 }
def CTL_Sn_KP_K : Fld := { id := 574, blk := .ctl, addr := 0x1C0128, stride := 128, count := 4, lsb := 0, width := 32, acc := .rw, cls := .staged, rst := 0 }
def CTL_Sn_KI_K : Fld := { id := 575, blk := .ctl, addr := 0x1C012C, stride := 128, count := 4, lsb := 0, width := 32, acc := .rw, cls := .staged, rst := 0 }
def CTL_Sn_KD_K : Fld := { id := 576, blk := .ctl, addr := 0x1C0130, stride := 128, count := 4, lsb := 0, width := 32, acc := .rw, cls := .staged, rst := 0 }
def CTL_Sn_KV_K : Fld := { id := 577, blk := .ctl, addr := 0x1C0134, stride := 128, count := 4, lsb := 0, width := 32, acc := .rw, cls := .staged, rst := 0 }
def CTL_Sn_KA_K : Fld := { id := 578, blk := .ctl, addr := 0x1C0138, stride := 128, count := 4, lsb := 0, width := 32, acc := .rw, cls := .staged, rst := 0 }
def CTL_Sn_VNOM_VNOM : Fld := { id := 579, blk := .ctl, addr := 0x1C013C, stride := 128, count := 4, lsb := 0, width := 32, acc := .rw, cls := .staged, rst := 0 }
def CTL_Sn_OUT_LIM_OUT_MIN : Fld := { id := 580, blk := .ctl, addr := 0x1C0140, stride := 128, count := 4, lsb := 0, width := 16, acc := .rw, cls := .staged, rst := 0 }
def CTL_Sn_OUT_LIM_OUT_MAX : Fld := { id := 581, blk := .ctl, addr := 0x1C0140, stride := 128, count := 4, lsb := 16, width := 16, acc := .rw, cls := .staged, rst := 0 }
def CTL_Sn_SAFE_SAFE_OUT : Fld := { id := 582, blk := .ctl, addr := 0x1C0144, stride := 128, count := 4, lsb := 0, width := 16, acc := .rw, cls := .live, rst := 0 }
def CTL_Sn_FE_LIM_FE_LIM : Fld := { id := 583, blk := .ctl, addr := 0x1C0148, stride := 128, count := 4, lsb := 0, width := 32, acc := .rw, cls := .staged, rst := 0 }
def CTL_Sn_FE_TIME_FE_TIME : Fld := { id := 584, blk := .ctl, addr := 0x1C014C, stride := 128, count := 4, lsb := 0, width := 16, acc := .rw, cls := .staged, rst := 0 }
def CTL_Sn_PWM_PWM_PER : Fld := { id := 585, blk := .ctl, addr := 0x1C0150, stride := 128, count := 4, lsb := 0, width := 20, acc := .rw, cls := .locked, rst := 0x1388 }
def CTL_Sn_CMD_COMMIT : Fld := { id := 586, blk := .ctl, addr := 0x1C0154, stride := 128, count := 4, lsb := 0, width := 1, acc := .wo, cls := .live, rst := 0 }
def CTL_Sn_STATUS_STATE : Fld := { id := 587, blk := .ctl, addr := 0x1C0158, stride := 128, count := 4, lsb := 0, width := 2, acc := .ro, cls := .live, rst := 0 }
def CTL_Sn_STATUS_CAUSE : Fld := { id := 588, blk := .ctl, addr := 0x1C0158, stride := 128, count := 4, lsb := 4, width := 2, acc := .ro, cls := .live, rst := 0 }
def CTL_Sn_STATUS_CAUSE_SET : Fld := { id := 589, blk := .ctl, addr := 0x1C0158, stride := 128, count := 4, lsb := 8, width := 3, acc := .ro, cls := .live, rst := 0 }
def CTL_Sn_STATUS_PENDING : Fld := { id := 590, blk := .ctl, addr := 0x1C0158, stride := 128, count := 4, lsb := 12, width := 1, acc := .ro, cls := .live, rst := 0 }
def CTL_Sn_STATUS_ERR : Fld := { id := 591, blk := .ctl, addr := 0x1C0158, stride := 128, count := 4, lsb := 16, width := 4, acc := .ro, cls := .live, rst := 0 }
def CTL_Sn_Y_Y : Fld := { id := 592, blk := .ctl, addr := 0x1C015C, stride := 128, count := 4, lsb := 0, width := 32, acc := .ro, cls := .live, rst := 0 }
def CTL_Sn_P_P : Fld := { id := 593, blk := .ctl, addr := 0x1C0160, stride := 128, count := 4, lsb := 0, width := 32, acc := .ro, cls := .live, rst := 0 }
def CTL_Sn_V_V : Fld := { id := 594, blk := .ctl, addr := 0x1C0164, stride := 128, count := 4, lsb := 0, width := 32, acc := .ro, cls := .live, rst := 0 }
def CTL_Sn_OUT_OUT : Fld := { id := 595, blk := .ctl, addr := 0x1C0168, stride := 128, count := 4, lsb := 0, width := 16, acc := .ro, cls := .live, rst := 0 }
def CTL_Sn_OVR_COUNT : Fld := { id := 596, blk := .ctl, addr := 0x1C016C, stride := 128, count := 4, lsb := 0, width := 32, acc := .ro, cls := .live, rst := 0 }
def CTL_Sn_FEMAX_FEMAX : Fld := { id := 597, blk := .ctl, addr := 0x1C0170, stride := 128, count := 4, lsb := 0, width := 32, acc := .ro, cls := .live, rst := 0 }
def CTL_Sn_PERIODS_COUNT : Fld := { id := 598, blk := .ctl, addr := 0x1C0174, stride := 128, count := 4, lsb := 0, width := 32, acc := .ro, cls := .live, rst := 0 }
/-- Rows of the CTL tables. -/
def tblCTL0 : List Fld :=
  [CTL_PCNT_CFG_MODE, CTL_PCNT_COUNT, CTL_PCNT_ERR_COUNT, CTL_LOAD_LOAD,
   CTL_Q_W0_W0, CTL_Q_W1_W1, CTL_Q_STATUS_QLEVEL, CTL_Q_STATUS_THR,
   CTL_LOST_COUNT, CTL_INT_FAULT, CTL_INT_REFUSED, CTL_INT_OVERRUN,
   CTL_INT_LOSS, CTL_INT_QTHR, CTL_INT_CNT_SAT, CTL_INT_EN_EN,
   CTL_CNT_CLR_CLEAR, CTL_Sn_CTRL_EN, CTL_Sn_CTRL_TYPE, CTL_Sn_CTRL_OUT_MODE,
   CTL_Sn_CTRL_FB_AVG, CTL_Sn_CTRL_FF_MODE, CTL_Sn_CTRL_INHIBIT, CTL_Sn_CTRL_LOG_DIV]
/-- Rows of the CTL tables. -/
def tblCTL1 : List Fld :=
  [CTL_Sn_SRC_FB_SRC, CTL_Sn_SRC_SP_SRC, CTL_Sn_SRC_FF_SRC, CTL_Sn_GATE_GATE_PRIM,
   CTL_Sn_PERIOD_PERIOD, CTL_Sn_DEADLINE_DEADLINE, CTL_Sn_SP_SP, CTL_Sn_SP_GAIN_GAIN,
   CTL_Sn_SP_OFS_OFS, CTL_Sn_VMAX_VMAX, CTL_Sn_AMAX_AMAX, CTL_Sn_KP_K,
   CTL_Sn_KI_K, CTL_Sn_KD_K, CTL_Sn_KV_K, CTL_Sn_KA_K,
   CTL_Sn_VNOM_VNOM, CTL_Sn_OUT_LIM_OUT_MIN, CTL_Sn_OUT_LIM_OUT_MAX, CTL_Sn_SAFE_SAFE_OUT,
   CTL_Sn_FE_LIM_FE_LIM, CTL_Sn_FE_TIME_FE_TIME, CTL_Sn_PWM_PWM_PER, CTL_Sn_CMD_COMMIT]
/-- Rows of the CTL tables. -/
def tblCTL2 : List Fld :=
  [CTL_Sn_STATUS_STATE, CTL_Sn_STATUS_CAUSE, CTL_Sn_STATUS_CAUSE_SET, CTL_Sn_STATUS_PENDING,
   CTL_Sn_STATUS_ERR, CTL_Sn_Y_Y, CTL_Sn_P_P, CTL_Sn_V_V,
   CTL_Sn_OUT_OUT, CTL_Sn_OVR_COUNT, CTL_Sn_FEMAX_FEMAX, CTL_Sn_PERIODS_COUNT]

/-! SAF -/
def SAF_STATUS_STATE : Fld := { id := 599, blk := .saf, addr := 0x1D0000, stride := 0, count := 1, lsb := 0, width := 2, acc := .ro, cls := .live, rst := 0 }
def SAF_STATUS_GEN : Fld := { id := 600, blk := .saf, addr := 0x1D0000, stride := 0, count := 1, lsb := 4, width := 5, acc := .ro, cls := .live, rst := 0 }
def SAF_STATUS_CAUSE : Fld := { id := 601, blk := .saf, addr := 0x1D0000, stride := 0, count := 1, lsb := 12, width := 4, acc := .ro, cls := .live, rst := 0 }
def SAF_GEN_LEFT_LEFT : Fld := { id := 602, blk := .saf, addr := 0x1D0004, stride := 0, count := 1, lsb := 0, width := 5, acc := .ro, cls := .live, rst := 0x10 }
def SAF_FAULT_IN : Fld := { id := 603, blk := .saf, addr := 0x1D0010, stride := 0, count := 1, lsb := 0, width := 4, acc := .ro, cls := .live, rst := 0 }
def SAF_FAULT_OUT : Fld := { id := 604, blk := .saf, addr := 0x1D0010, stride := 0, count := 1, lsb := 4, width := 2, acc := .ro, cls := .live, rst := 0 }
def SAF_FAULT_CONN : Fld := { id := 605, blk := .saf, addr := 0x1D0010, stride := 0, count := 1, lsb := 6, width := 8, acc := .ro, cls := .live, rst := 0 }
def SAF_FAULT_INTERNAL : Fld := { id := 606, blk := .saf, addr := 0x1D0010, stride := 0, count := 1, lsb := 14, width := 1, acc := .ro, cls := .live, rst := 0 }
def SAF_FAULT_INFO_CODE : Fld := { id := 607, blk := .saf, addr := 0x1D0014, stride := 0, count := 1, lsb := 0, width := 4, acc := .ro, cls := .live, rst := 0 }
def SAF_FAULT_INFO_IDX : Fld := { id := 608, blk := .saf, addr := 0x1D0014, stride := 0, count := 1, lsb := 4, width := 3, acc := .ro, cls := .live, rst := 0 }
def SAF_FAULT_INFO_STROBE : Fld := { id := 609, blk := .saf, addr := 0x1D0014, stride := 0, count := 1, lsb := 8, width := 24, acc := .ro, cls := .live, rst := 0 }
def SAF_ACK_ACK : Fld := { id := 610, blk := .saf, addr := 0x1D0018, stride := 0, count := 1, lsb := 0, width := 1, acc := .rwg, cls := .live, rst := 0 }
def SAF_REQ_ON : Fld := { id := 611, blk := .saf, addr := 0x1D001C, stride := 0, count := 1, lsb := 0, width := 2, acc := .rw, cls := .live, rst := 0 }
def SAF_DISC_SHORT_COUNT : Fld := { id := 612, blk := .saf, addr := 0x1D0020, stride := 4, count := 4, lsb := 0, width := 32, acc := .ro, cls := .live, rst := 0 }
def SAF_CONN_SEL_CONN : Fld := { id := 613, blk := .saf, addr := 0x1D0040, stride := 0, count := 1, lsb := 0, width := 3, acc := .rw, cls := .live, rst := 0 }
def SAF_CONN_OK_COUNT : Fld := { id := 614, blk := .saf, addr := 0x1D0044, stride := 4, count := 1, lsb := 0, width := 32, acc := .ro, cls := .live, rst := 0, sel := 613, bank := 8 }
def SAF_CONN_DUP_COUNT : Fld := { id := 615, blk := .saf, addr := 0x1D0048, stride := 4, count := 1, lsb := 0, width := 32, acc := .ro, cls := .live, rst := 0, sel := 613, bank := 8 }
def SAF_CONN_LOST_COUNT : Fld := { id := 616, blk := .saf, addr := 0x1D004C, stride := 4, count := 1, lsb := 0, width := 32, acc := .ro, cls := .live, rst := 0, sel := 613, bank := 8 }
def SAF_CONN_BAD_COUNT : Fld := { id := 617, blk := .saf, addr := 0x1D0050, stride := 4, count := 1, lsb := 0, width := 32, acc := .ro, cls := .live, rst := 0, sel := 613, bank := 8 }
def SAF_CONN_STATE_STATE : Fld := { id := 618, blk := .saf, addr := 0x1D0054, stride := 0, count := 1, lsb := 0, width := 2, acc := .ro, cls := .live, rst := 0, sel := 613, bank := 8 }
def SAF_CONN_STATE_SEQ : Fld := { id := 619, blk := .saf, addr := 0x1D0054, stride := 0, count := 1, lsb := 16, width := 16, acc := .ro, cls := .live, rst := 0, sel := 613, bank := 8 }
def SAF_CFG_IN_TYPE : Fld := { id := 620, blk := .saf, addr := 0x1D0100, stride := 4, count := 4, lsb := 0, width := 2, acc := .rwg, cls := .staged, rst := 0 }
def SAF_CFG_IN_TPA : Fld := { id := 621, blk := .saf, addr := 0x1D0100, stride := 4, count := 4, lsb := 2, width := 2, acc := .rwg, cls := .staged, rst := 1 }
def SAF_CFG_IN_TPB : Fld := { id := 622, blk := .saf, addr := 0x1D0100, stride := 4, count := 4, lsb := 4, width := 2, acc := .rwg, cls := .staged, rst := 2 }
def SAF_CFG_IN_DISC : Fld := { id := 623, blk := .saf, addr := 0x1D0100, stride := 4, count := 4, lsb := 16, width := 13, acc := .rwg, cls := .staged, rst := 0x64 }
def SAF_CFG_OUT_INMASK : Fld := { id := 624, blk := .saf, addr := 0x1D0110, stride := 4, count := 2, lsb := 0, width := 4, acc := .rwg, cls := .staged, rst := 0 }
def SAF_CFG_OUT_CONNMASK : Fld := { id := 625, blk := .saf, addr := 0x1D0110, stride := 4, count := 2, lsb := 4, width := 8, acc := .rwg, cls := .staged, rst := 0 }
def SAF_CFG_OUT_RBIT : Fld := { id := 626, blk := .saf, addr := 0x1D0110, stride := 4, count := 2, lsb := 12, width := 4, acc := .rwg, cls := .staged, rst := 0 }
def SAF_CFG_OUT_RESTART : Fld := { id := 627, blk := .saf, addr := 0x1D0110, stride := 4, count := 2, lsb := 16, width := 1, acc := .rwg, cls := .staged, rst := 0 }
def SAF_CFG_OUT_EN : Fld := { id := 628, blk := .saf, addr := 0x1D0110, stride := 4, count := 2, lsb := 17, width := 1, acc := .rwg, cls := .staged, rst := 0 }
def SAF_CFG_OUT_OPP : Fld := { id := 629, blk := .saf, addr := 0x1D0110, stride := 4, count := 2, lsb := 20, width := 8, acc := .rwg, cls := .staged, rst := 0xa }
def SAF_CFG_OUT_OPW : Fld := { id := 630, blk := .saf, addr := 0x1D0110, stride := 4, count := 2, lsb := 28, width := 4, acc := .rwg, cls := .staged, rst := 4 }
def SAF_CFG_TP_TPP : Fld := { id := 631, blk := .saf, addr := 0x1D0118, stride := 0, count := 1, lsb := 0, width := 10, acc := .rwg, cls := .staged, rst := 0x64 }
def SAF_CFG_TP_TPW : Fld := { id := 632, blk := .saf, addr := 0x1D0118, stride := 0, count := 1, lsb := 12, width := 4, acc := .rwg, cls := .staged, rst := 6 }
def SAF_CFG_TP_EN : Fld := { id := 633, blk := .saf, addr := 0x1D0118, stride := 0, count := 1, lsb := 16, width := 1, acc := .rwg, cls := .staged, rst := 1 }
def SAF_CFG_CONN_ID_ID : Fld := { id := 634, blk := .saf, addr := 0x1D0120, stride := 8, count := 8, lsb := 0, width := 32, acc := .rwg, cls := .staged, rst := 0 }
def SAF_CFG_CONN_EN : Fld := { id := 635, blk := .saf, addr := 0x1D0124, stride := 8, count := 8, lsb := 0, width := 1, acc := .rwg, cls := .staged, rst := 0 }
def SAF_CFG_CONN_DIR : Fld := { id := 636, blk := .saf, addr := 0x1D0124, stride := 8, count := 8, lsb := 1, width := 1, acc := .rwg, cls := .staged, rst := 0 }
def SAF_CFG_CONN_MEDIUM : Fld := { id := 637, blk := .saf, addr := 0x1D0124, stride := 8, count := 8, lsb := 2, width := 1, acc := .rwg, cls := .staged, rst := 0 }
def SAF_CFG_CONN_PORT : Fld := { id := 638, blk := .saf, addr := 0x1D0124, stride := 8, count := 8, lsb := 3, width := 3, acc := .rwg, cls := .staged, rst := 0 }
def SAF_CFG_CONN_DUAL : Fld := { id := 639, blk := .saf, addr := 0x1D0124, stride := 8, count := 8, lsb := 6, width := 1, acc := .rwg, cls := .staged, rst := 0 }
def SAF_CFG_CONN_PORT2 : Fld := { id := 640, blk := .saf, addr := 0x1D0124, stride := 8, count := 8, lsb := 7, width := 3, acc := .rwg, cls := .staged, rst := 0 }
def SAF_CFG_CONN_WDT : Fld := { id := 641, blk := .saf, addr := 0x1D0124, stride := 8, count := 8, lsb := 16, width := 10, acc := .rwg, cls := .staged, rst := 0x64 }
def SAF_CHECK_CHECK : Fld := { id := 642, blk := .saf, addr := 0x1D0160, stride := 0, count := 1, lsb := 0, width := 32, acc := .ro, cls := .live, rst := 0 }
def SAF_CHECK_ST_AGREE : Fld := { id := 643, blk := .saf, addr := 0x1D0164, stride := 0, count := 1, lsb := 0, width := 1, acc := .ro, cls := .live, rst := 0 }
def SAF_COMMIT_CHECK : Fld := { id := 644, blk := .saf, addr := 0x1D0168, stride := 0, count := 1, lsb := 0, width := 32, acc := .fuse, cls := .live, rst := 0 }
def SAF_COMMIT_ERR_ERR : Fld := { id := 645, blk := .saf, addr := 0x1D016C, stride := 0, count := 1, lsb := 0, width := 4, acc := .ro, cls := .live, rst := 0 }
def SAF_SNF_RX_BYTES : Fld := { id := 646, blk := .saf, addr := 0x1D0180, stride := 4, count := 4, lsb := 0, width := 32, acc := .wo, cls := .live, rst := 0 }
def SAF_SNF_TX_SEL_CONN : Fld := { id := 647, blk := .saf, addr := 0x1D0190, stride := 0, count := 1, lsb := 0, width := 3, acc := .rw, cls := .live, rst := 0 }
def SAF_SNF_TX_BYTES : Fld := { id := 648, blk := .saf, addr := 0x1D0194, stride := 4, count := 4, lsb := 0, width := 32, acc := .ro, cls := .live, rst := 0, sel := 647, bank := 8 }
def SAF_INT_FAULT : Fld := { id := 649, blk := .saf, addr := 0x1D01C0, stride := 0, count := 1, lsb := 0, width := 1, acc := .w1c, cls := .live, rst := 0 }
def SAF_INT_ACK_HELD : Fld := { id := 650, blk := .saf, addr := 0x1D01C0, stride := 0, count := 1, lsb := 1, width := 1, acc := .w1c, cls := .live, rst := 0 }
def SAF_INT_DISC_SHORT : Fld := { id := 651, blk := .saf, addr := 0x1D01C0, stride := 0, count := 1, lsb := 2, width := 1, acc := .w1c, cls := .live, rst := 0 }
def SAF_INT_CONN : Fld := { id := 652, blk := .saf, addr := 0x1D01C0, stride := 0, count := 1, lsb := 3, width := 1, acc := .w1c, cls := .live, rst := 0 }
def SAF_INT_COMMITTED : Fld := { id := 653, blk := .saf, addr := 0x1D01C0, stride := 0, count := 1, lsb := 4, width := 1, acc := .w1c, cls := .live, rst := 0 }
def SAF_INT_REFUSED : Fld := { id := 654, blk := .saf, addr := 0x1D01C0, stride := 0, count := 1, lsb := 5, width := 1, acc := .w1c, cls := .live, rst := 0 }
def SAF_INT_CNT_SAT : Fld := { id := 655, blk := .saf, addr := 0x1D01C0, stride := 0, count := 1, lsb := 6, width := 1, acc := .w1c, cls := .live, rst := 0 }
def SAF_INT_EN_EN : Fld := { id := 656, blk := .saf, addr := 0x1D01C4, stride := 0, count := 1, lsb := 0, width := 7, acc := .rw, cls := .live, rst := 0 }
def SAF_CNT_CLR_CLEAR : Fld := { id := 657, blk := .saf, addr := 0x1D01C8, stride := 0, count := 1, lsb := 0, width := 1, acc := .wo, cls := .live, rst := 0 }
def SAF_IN_STATE_STATE0 : Fld := { id := 1014, blk := .saf, addr := 0x1D0008, stride := 0, count := 1, lsb := 0, width := 2, acc := .ro, cls := .live, rst := 0 }
def SAF_IN_STATE_A0 : Fld := { id := 1015, blk := .saf, addr := 0x1D0008, stride := 0, count := 1, lsb := 2, width := 1, acc := .ro, cls := .live, rst := 0 }
def SAF_IN_STATE_B0 : Fld := { id := 1016, blk := .saf, addr := 0x1D0008, stride := 0, count := 1, lsb := 3, width := 1, acc := .ro, cls := .live, rst := 0 }
def SAF_IN_STATE_STATE1 : Fld := { id := 1017, blk := .saf, addr := 0x1D0008, stride := 0, count := 1, lsb := 4, width := 2, acc := .ro, cls := .live, rst := 0 }
def SAF_IN_STATE_A1 : Fld := { id := 1018, blk := .saf, addr := 0x1D0008, stride := 0, count := 1, lsb := 6, width := 1, acc := .ro, cls := .live, rst := 0 }
def SAF_IN_STATE_B1 : Fld := { id := 1019, blk := .saf, addr := 0x1D0008, stride := 0, count := 1, lsb := 7, width := 1, acc := .ro, cls := .live, rst := 0 }
def SAF_IN_STATE_STATE2 : Fld := { id := 1020, blk := .saf, addr := 0x1D0008, stride := 0, count := 1, lsb := 8, width := 2, acc := .ro, cls := .live, rst := 0 }
def SAF_IN_STATE_A2 : Fld := { id := 1021, blk := .saf, addr := 0x1D0008, stride := 0, count := 1, lsb := 10, width := 1, acc := .ro, cls := .live, rst := 0 }
def SAF_IN_STATE_B2 : Fld := { id := 1022, blk := .saf, addr := 0x1D0008, stride := 0, count := 1, lsb := 11, width := 1, acc := .ro, cls := .live, rst := 0 }
def SAF_IN_STATE_STATE3 : Fld := { id := 1023, blk := .saf, addr := 0x1D0008, stride := 0, count := 1, lsb := 12, width := 2, acc := .ro, cls := .live, rst := 0 }
def SAF_IN_STATE_A3 : Fld := { id := 1024, blk := .saf, addr := 0x1D0008, stride := 0, count := 1, lsb := 14, width := 1, acc := .ro, cls := .live, rst := 0 }
def SAF_IN_STATE_B3 : Fld := { id := 1025, blk := .saf, addr := 0x1D0008, stride := 0, count := 1, lsb := 15, width := 1, acc := .ro, cls := .live, rst := 0 }
def SAF_OUT_STATE_A0 : Fld := { id := 1026, blk := .saf, addr := 0x1D000C, stride := 0, count := 1, lsb := 0, width := 1, acc := .ro, cls := .live, rst := 0 }
def SAF_OUT_STATE_B0 : Fld := { id := 1027, blk := .saf, addr := 0x1D000C, stride := 0, count := 1, lsb := 1, width := 1, acc := .ro, cls := .live, rst := 0 }
def SAF_OUT_STATE_PERMIT0 : Fld := { id := 1028, blk := .saf, addr := 0x1D000C, stride := 0, count := 1, lsb := 2, width := 1, acc := .ro, cls := .live, rst := 0 }
def SAF_OUT_STATE_WAIT_ACK0 : Fld := { id := 1029, blk := .saf, addr := 0x1D000C, stride := 0, count := 1, lsb := 3, width := 1, acc := .ro, cls := .live, rst := 0 }
def SAF_OUT_STATE_A1 : Fld := { id := 1030, blk := .saf, addr := 0x1D000C, stride := 0, count := 1, lsb := 4, width := 1, acc := .ro, cls := .live, rst := 0 }
def SAF_OUT_STATE_B1 : Fld := { id := 1031, blk := .saf, addr := 0x1D000C, stride := 0, count := 1, lsb := 5, width := 1, acc := .ro, cls := .live, rst := 0 }
def SAF_OUT_STATE_PERMIT1 : Fld := { id := 1032, blk := .saf, addr := 0x1D000C, stride := 0, count := 1, lsb := 6, width := 1, acc := .ro, cls := .live, rst := 0 }
def SAF_OUT_STATE_WAIT_ACK1 : Fld := { id := 1033, blk := .saf, addr := 0x1D000C, stride := 0, count := 1, lsb := 7, width := 1, acc := .ro, cls := .live, rst := 0 }
/-- Rows of the SAF tables. -/
def tblSAF0 : List Fld :=
  [SAF_STATUS_STATE, SAF_STATUS_GEN, SAF_STATUS_CAUSE, SAF_GEN_LEFT_LEFT,
   SAF_FAULT_IN, SAF_FAULT_OUT, SAF_FAULT_CONN, SAF_FAULT_INTERNAL,
   SAF_FAULT_INFO_CODE, SAF_FAULT_INFO_IDX, SAF_FAULT_INFO_STROBE, SAF_ACK_ACK,
   SAF_REQ_ON, SAF_DISC_SHORT_COUNT, SAF_CONN_SEL_CONN, SAF_CONN_OK_COUNT,
   SAF_CONN_DUP_COUNT, SAF_CONN_LOST_COUNT, SAF_CONN_BAD_COUNT, SAF_CONN_STATE_STATE,
   SAF_CONN_STATE_SEQ, SAF_CFG_IN_TYPE, SAF_CFG_IN_TPA, SAF_CFG_IN_TPB]
/-- Rows of the SAF tables. -/
def tblSAF1 : List Fld :=
  [SAF_CFG_IN_DISC, SAF_CFG_OUT_INMASK, SAF_CFG_OUT_CONNMASK, SAF_CFG_OUT_RBIT,
   SAF_CFG_OUT_RESTART, SAF_CFG_OUT_EN, SAF_CFG_OUT_OPP, SAF_CFG_OUT_OPW,
   SAF_CFG_TP_TPP, SAF_CFG_TP_TPW, SAF_CFG_TP_EN, SAF_CFG_CONN_ID_ID,
   SAF_CFG_CONN_EN, SAF_CFG_CONN_DIR, SAF_CFG_CONN_MEDIUM, SAF_CFG_CONN_PORT,
   SAF_CFG_CONN_DUAL, SAF_CFG_CONN_PORT2, SAF_CFG_CONN_WDT, SAF_CHECK_CHECK,
   SAF_CHECK_ST_AGREE, SAF_COMMIT_CHECK, SAF_COMMIT_ERR_ERR, SAF_SNF_RX_BYTES]
/-- Rows of the SAF tables. -/
def tblSAF2 : List Fld :=
  [SAF_SNF_TX_SEL_CONN, SAF_SNF_TX_BYTES, SAF_INT_FAULT, SAF_INT_ACK_HELD,
   SAF_INT_DISC_SHORT, SAF_INT_CONN, SAF_INT_COMMITTED, SAF_INT_REFUSED,
   SAF_INT_CNT_SAT, SAF_INT_EN_EN, SAF_CNT_CLR_CLEAR, SAF_IN_STATE_STATE0,
   SAF_IN_STATE_A0, SAF_IN_STATE_B0, SAF_IN_STATE_STATE1, SAF_IN_STATE_A1,
   SAF_IN_STATE_B1, SAF_IN_STATE_STATE2, SAF_IN_STATE_A2, SAF_IN_STATE_B2,
   SAF_IN_STATE_STATE3, SAF_IN_STATE_A3, SAF_IN_STATE_B3, SAF_OUT_STATE_A0]
/-- Rows of the SAF tables. -/
def tblSAF3 : List Fld :=
  [SAF_OUT_STATE_B0, SAF_OUT_STATE_PERMIT0, SAF_OUT_STATE_WAIT_ACK0, SAF_OUT_STATE_A1,
   SAF_OUT_STATE_B1, SAF_OUT_STATE_PERMIT1, SAF_OUT_STATE_WAIT_ACK1]

/-! LNK -/
def LNK_CTRL_ROLE : Fld := { id := 658, blk := .lnk, addr := 0x1E0000, stride := 0, count := 1, lsb := 0, width := 1, acc := .rw, cls := .locked, rst := 0 }
def LNK_CTRL_TINT : Fld := { id := 659, blk := .lnk, addr := 0x1E0000, stride := 0, count := 1, lsb := 4, width := 4, acc := .rw, cls := .locked, rst := 0xe }
def LNK_ID_ID : Fld := { id := 660, blk := .lnk, addr := 0x1E0004, stride := 0, count := 1, lsb := 0, width := 12, acc := .ro, cls := .live, rst := 0 }
def LNK_ID_ID_SET : Fld := { id := 661, blk := .lnk, addr := 0x1E0004, stride := 0, count := 1, lsb := 16, width := 1, acc := .ro, cls := .live, rst := 0 }
def LNK_STATUS_HOPS : Fld := { id := 662, blk := .lnk, addr := 0x1E0008, stride := 0, count := 1, lsb := 0, width := 8, acc := .ro, cls := .live, rst := 0xff }
def LNK_STATUS_LH_ID : Fld := { id := 663, blk := .lnk, addr := 0x1E0008, stride := 0, count := 1, lsb := 8, width := 12, acc := .ro, cls := .live, rst := 0 }
def LNK_STATUS_LH_VALID : Fld := { id := 664, blk := .lnk, addr := 0x1E0008, stride := 0, count := 1, lsb := 20, width := 1, acc := .ro, cls := .live, rst := 0 }
def LNK_STATUS_CONFLICT : Fld := { id := 665, blk := .lnk, addr := 0x1E0008, stride := 0, count := 1, lsb := 21, width := 1, acc := .ro, cls := .live, rst := 0 }
def LNK_LANE_SEL_LANE : Fld := { id := 666, blk := .lnk, addr := 0x1E0010, stride := 0, count := 1, lsb := 0, width := 5, acc := .rw, cls := .live, rst := 0 }
def LNK_LANE_STATUS_LOS : Fld := { id := 667, blk := .lnk, addr := 0x1E0014, stride := 0, count := 1, lsb := 0, width := 1, acc := .ro, cls := .live, rst := 0, sel := 666, bank := 18 }
def LNK_LANE_STATUS_LOL : Fld := { id := 668, blk := .lnk, addr := 0x1E0014, stride := 0, count := 1, lsb := 1, width := 1, acc := .ro, cls := .live, rst := 0, sel := 666, bank := 18 }
def LNK_LANE_STATUS_ALIGNED : Fld := { id := 669, blk := .lnk, addr := 0x1E0014, stride := 0, count := 1, lsb := 2, width := 1, acc := .ro, cls := .live, rst := 0, sel := 666, bank := 18 }
def LNK_LANE_STATUS_POL_INV : Fld := { id := 670, blk := .lnk, addr := 0x1E0014, stride := 0, count := 1, lsb := 3, width := 1, acc := .ro, cls := .live, rst := 0, sel := 666, bank := 18 }
def LNK_LANE_STATUS_LIDX : Fld := { id := 671, blk := .lnk, addr := 0x1E0014, stride := 0, count := 1, lsb := 4, width := 4, acc := .ro, cls := .live, rst := 0, sel := 666, bank := 18 }
def LNK_LANE_STATUS_USE : Fld := { id := 672, blk := .lnk, addr := 0x1E0014, stride := 0, count := 1, lsb := 8, width := 2, acc := .ro, cls := .live, rst := 0, sel := 666, bank := 18 }
def LNK_LANE_STATUS_CM1 : Fld := { id := 673, blk := .lnk, addr := 0x1E0014, stride := 0, count := 1, lsb := 16, width := 4, acc := .ro, cls := .live, rst := 0, sel := 666, bank := 18 }
def LNK_LANE_STATUS_CP1 : Fld := { id := 674, blk := .lnk, addr := 0x1E0014, stride := 0, count := 1, lsb := 20, width := 5, acc := .ro, cls := .live, rst := 0, sel := 666, bank := 18 }
def LNK_LANE_BIP_COUNT : Fld := { id := 675, blk := .lnk, addr := 0x1E0018, stride := 0, count := 1, lsb := 0, width := 32, acc := .ro, cls := .live, rst := 0, sel := 666, bank := 18 }
def LNK_FLARE_DUP_COUNT : Fld := { id := 676, blk := .lnk, addr := 0x1E0020, stride := 0, count := 1, lsb := 0, width := 32, acc := .ro, cls := .live, rst := 0 }
def LNK_NOROUTE_COUNT : Fld := { id := 677, blk := .lnk, addr := 0x1E0024, stride := 0, count := 1, lsb := 0, width := 32, acc := .ro, cls := .live, rst := 0 }
def LNK_INGRESS_OFF_COUNT : Fld := { id := 678, blk := .lnk, addr := 0x1E0028, stride := 0, count := 1, lsb := 0, width := 32, acc := .ro, cls := .live, rst := 0 }
def LNK_DUAL_DUP_COUNT : Fld := { id := 679, blk := .lnk, addr := 0x1E002C, stride := 0, count := 1, lsb := 0, width := 32, acc := .ro, cls := .live, rst := 0 }
def LNK_DUAL_SKIP_COUNT : Fld := { id := 680, blk := .lnk, addr := 0x1E0030, stride := 0, count := 1, lsb := 0, width := 32, acc := .ro, cls := .live, rst := 0 }
def LNK_DUAL_NOENT_COUNT : Fld := { id := 681, blk := .lnk, addr := 0x1E0034, stride := 0, count := 1, lsb := 0, width := 32, acc := .ro, cls := .live, rst := 0 }
def LNK_DETACH_DISC_COUNT : Fld := { id := 682, blk := .lnk, addr := 0x1E0038, stride := 0, count := 1, lsb := 0, width := 32, acc := .ro, cls := .live, rst := 0 }
def LNK_DUAL_CFG_HOLD : Fld := { id := 683, blk := .lnk, addr := 0x1E003C, stride := 0, count := 1, lsb := 0, width := 16, acc := .rw, cls := .live, rst := 0x4000 }
def LNK_DUAL_SEL_ENTRY : Fld := { id := 684, blk := .lnk, addr := 0x1E0040, stride := 0, count := 1, lsb := 0, width := 6, acc := .rw, cls := .live, rst := 0 }
def LNK_DUAL_STATUS_ORIGIN : Fld := { id := 685, blk := .lnk, addr := 0x1E0044, stride := 0, count := 1, lsb := 0, width := 12, acc := .ro, cls := .live, rst := 0, sel := 684, bank := 64 }
def LNK_DUAL_STATUS_STREAM : Fld := { id := 686, blk := .lnk, addr := 0x1E0044, stride := 0, count := 1, lsb := 12, width := 6, acc := .ro, cls := .live, rst := 0, sel := 684, bank := 64 }
def LNK_DUAL_STATUS_H : Fld := { id := 687, blk := .lnk, addr := 0x1E0044, stride := 0, count := 1, lsb := 18, width := 1, acc := .ro, cls := .live, rst := 0, sel := 684, bank := 64 }
def LNK_DUAL_STATUS_VALID : Fld := { id := 688, blk := .lnk, addr := 0x1E0044, stride := 0, count := 1, lsb := 19, width := 1, acc := .ro, cls := .live, rst := 0, sel := 684, bank := 64 }
def LNK_DUAL_STATUS_ACTIVE : Fld := { id := 689, blk := .lnk, addr := 0x1E0044, stride := 0, count := 1, lsb := 20, width := 1, acc := .ro, cls := .live, rst := 0, sel := 684, bank := 64 }
def LNK_DUAL_DSEQ_DSEQ : Fld := { id := 690, blk := .lnk, addr := 0x1E0048, stride := 0, count := 1, lsb := 0, width := 16, acc := .ro, cls := .live, rst := 0, sel := 684, bank := 64 }
def LNK_INT_ATTACH : Fld := { id := 691, blk := .lnk, addr := 0x1E0050, stride := 0, count := 1, lsb := 0, width := 1, acc := .w1c, cls := .live, rst := 0 }
def LNK_INT_DETACH : Fld := { id := 692, blk := .lnk, addr := 0x1E0050, stride := 0, count := 1, lsb := 1, width := 1, acc := .w1c, cls := .live, rst := 0 }
def LNK_INT_LANE_SPARED : Fld := { id := 693, blk := .lnk, addr := 0x1E0050, stride := 0, count := 1, lsb := 2, width := 1, acc := .w1c, cls := .live, rst := 0 }
def LNK_INT_RETRAIN : Fld := { id := 694, blk := .lnk, addr := 0x1E0050, stride := 0, count := 1, lsb := 3, width := 1, acc := .w1c, cls := .live, rst := 0 }
def LNK_INT_LH_CONFLICT : Fld := { id := 695, blk := .lnk, addr := 0x1E0050, stride := 0, count := 1, lsb := 4, width := 1, acc := .w1c, cls := .live, rst := 0 }
def LNK_INT_NOROUTE : Fld := { id := 696, blk := .lnk, addr := 0x1E0050, stride := 0, count := 1, lsb := 5, width := 1, acc := .w1c, cls := .live, rst := 0 }
def LNK_INT_FAILOVER : Fld := { id := 697, blk := .lnk, addr := 0x1E0050, stride := 0, count := 1, lsb := 6, width := 1, acc := .w1c, cls := .live, rst := 0 }
def LNK_INT_RESTORED : Fld := { id := 698, blk := .lnk, addr := 0x1E0050, stride := 0, count := 1, lsb := 7, width := 1, acc := .w1c, cls := .live, rst := 0 }
def LNK_INT_DUAL_SKIP : Fld := { id := 699, blk := .lnk, addr := 0x1E0050, stride := 0, count := 1, lsb := 8, width := 1, acc := .w1c, cls := .live, rst := 0 }
def LNK_INT_REFUSED : Fld := { id := 700, blk := .lnk, addr := 0x1E0050, stride := 0, count := 1, lsb := 9, width := 1, acc := .w1c, cls := .live, rst := 0 }
def LNK_INT_CNT_SAT : Fld := { id := 701, blk := .lnk, addr := 0x1E0050, stride := 0, count := 1, lsb := 10, width := 1, acc := .w1c, cls := .live, rst := 0 }
def LNK_INT_EN_EN : Fld := { id := 702, blk := .lnk, addr := 0x1E0054, stride := 0, count := 1, lsb := 0, width := 11, acc := .rw, cls := .live, rst := 0 }
def LNK_PORT_EVT_ATTACHED : Fld := { id := 703, blk := .lnk, addr := 0x1E0058, stride := 0, count := 1, lsb := 0, width := 8, acc := .w1c, cls := .live, rst := 0 }
def LNK_PORT_EVT_DETACHED : Fld := { id := 704, blk := .lnk, addr := 0x1E0058, stride := 0, count := 1, lsb := 8, width := 8, acc := .w1c, cls := .live, rst := 0 }
def LNK_CNT_CLR_CLEAR : Fld := { id := 705, blk := .lnk, addr := 0x1E005C, stride := 0, count := 1, lsb := 0, width := 1, acc := .wo, cls := .live, rst := 0 }
def LNK_ROUTE_PORTS : Fld := { id := 706, blk := .lnk, addr := 0x1E1000, stride := 4, count := 512, lsb := 0, width := 32, acc := .rw, cls := .live, rst := 0xffffffff }
def LNK_Pp_CFG_EN : Fld := { id := 707, blk := .lnkPort, addr := 0x1E0100, stride := 64, count := 8, lsb := 0, width := 1, acc := .rw, cls := .live, rst := 0 }
def LNK_Pp_CFG_LANE0 : Fld := { id := 708, blk := .lnkPort, addr := 0x1E0100, stride := 64, count := 8, lsb := 1, width := 5, acc := .rw, cls := .locked, rst := 0 }
def LNK_Pp_CFG_WIDTH : Fld := { id := 709, blk := .lnkPort, addr := 0x1E0100, stride := 64, count := 8, lsb := 6, width := 2, acc := .rw, cls := .locked, rst := 0 }
def LNK_Pp_CFG_SPARE : Fld := { id := 710, blk := .lnkPort, addr := 0x1E0100, stride := 64, count := 8, lsb := 8, width := 1, acc := .rw, cls := .locked, rst := 0 }
def LNK_Pp_CFG_RATE_MAX : Fld := { id := 711, blk := .lnkPort, addr := 0x1E0100, stride := 64, count := 8, lsb := 9, width := 2, acc := .rw, cls := .locked, rst := 3 }
def LNK_Pp_CFG_LP_EN : Fld := { id := 712, blk := .lnkPort, addr := 0x1E0100, stride := 64, count := 8, lsb := 11, width := 1, acc := .rw, cls := .live, rst := 0 }
def LNK_Pp_STATUS_STATE : Fld := { id := 713, blk := .lnkPort, addr := 0x1E0104, stride := 64, count := 8, lsb := 0, width := 3, acc := .ro, cls := .live, rst := 0 }
def LNK_Pp_STATUS_RATE : Fld := { id := 714, blk := .lnkPort, addr := 0x1E0104, stride := 64, count := 8, lsb := 3, width := 2, acc := .ro, cls := .live, rst := 0 }
def LNK_Pp_STATUS_SPARE_USED : Fld := { id := 715, blk := .lnkPort, addr := 0x1E0104, stride := 64, count := 8, lsb := 5, width := 1, acc := .ro, cls := .live, rst := 0 }
def LNK_Pp_STATUS_ERR : Fld := { id := 716, blk := .lnkPort, addr := 0x1E0104, stride := 64, count := 8, lsb := 8, width := 4, acc := .ro, cls := .live, rst := 0 }
def LNK_Pp_PARTNER_ID : Fld := { id := 717, blk := .lnkPort, addr := 0x1E0108, stride := 64, count := 8, lsb := 0, width := 12, acc := .ro, cls := .live, rst := 0 }
def LNK_Pp_PARTNER_PORT : Fld := { id := 718, blk := .lnkPort, addr := 0x1E0108, stride := 64, count := 8, lsb := 12, width := 3, acc := .ro, cls := .live, rst := 0 }
def LNK_Pp_PARTNER_ROLE : Fld := { id := 719, blk := .lnkPort, addr := 0x1E0108, stride := 64, count := 8, lsb := 15, width := 1, acc := .ro, cls := .live, rst := 0 }
def LNK_Pp_PARTNER_HOPS : Fld := { id := 720, blk := .lnkPort, addr := 0x1E0108, stride := 64, count := 8, lsb := 16, width := 8, acc := .ro, cls := .live, rst := 0xff }
def LNK_Pp_PARTNER_CAPS : Fld := { id := 721, blk := .lnkPort, addr := 0x1E0108, stride := 64, count := 8, lsb := 24, width := 8, acc := .ro, cls := .live, rst := 0 }
def LNK_Pp_DELAY_DELAY : Fld := { id := 722, blk := .lnkPort, addr := 0x1E010C, stride := 64, count := 8, lsb := 0, width := 32, acc := .ro, cls := .live, rst := 0 }
def LNK_Pp_ASYM_ASYM : Fld := { id := 723, blk := .lnkPort, addr := 0x1E0110, stride := 64, count := 8, lsb := 0, width := 24, acc := .rw, cls := .staged, rst := 0 }
def LNK_Pp_DEST_DEST : Fld := { id := 724, blk := .lnkPort, addr := 0x1E0114, stride := 64, count := 8, lsb := 0, width := 12, acc := .rw, cls := .live, rst := 0 }
def LNK_Pp_DEST_LOCAL : Fld := { id := 725, blk := .lnkPort, addr := 0x1E0114, stride := 64, count := 8, lsb := 12, width := 1, acc := .rw, cls := .live, rst := 1 }
def LNK_Pp_REPLAY_COUNT : Fld := { id := 726, blk := .lnkPort, addr := 0x1E0118, stride := 64, count := 8, lsb := 0, width := 32, acc := .ro, cls := .live, rst := 0 }
def LNK_Pp_CRCERR_COUNT : Fld := { id := 727, blk := .lnkPort, addr := 0x1E011C, stride := 64, count := 8, lsb := 0, width := 32, acc := .ro, cls := .live, rst := 0 }
def LNK_Pp_TMISS_COUNT : Fld := { id := 728, blk := .lnkPort, addr := 0x1E0120, stride := 64, count := 8, lsb := 0, width := 32, acc := .ro, cls := .live, rst := 0 }
def LNK_Pp_OUTST_BULK : Fld := { id := 729, blk := .lnkPort, addr := 0x1E0124, stride := 64, count := 8, lsb := 0, width := 10, acc := .ro, cls := .live, rst := 0 }
def LNK_Pp_OUTST_PEAK : Fld := { id := 730, blk := .lnkPort, addr := 0x1E0124, stride := 64, count := 8, lsb := 16, width := 10, acc := .ro, cls := .live, rst := 0 }
def LNK_Pp_CMD_RETRAIN : Fld := { id := 731, blk := .lnkPort, addr := 0x1E0128, stride := 64, count := 8, lsb := 0, width := 1, acc := .wo, cls := .live, rst := 0 }
def LNK_Pp_RETRAINS_COUNT : Fld := { id := 732, blk := .lnkPort, addr := 0x1E012C, stride := 64, count := 8, lsb := 0, width := 32, acc := .ro, cls := .live, rst := 0 }
/-- Rows of the LNK tables. -/
def tblLNK0 : List Fld :=
  [LNK_CTRL_ROLE, LNK_CTRL_TINT, LNK_ID_ID, LNK_ID_ID_SET,
   LNK_STATUS_HOPS, LNK_STATUS_LH_ID, LNK_STATUS_LH_VALID, LNK_STATUS_CONFLICT,
   LNK_LANE_SEL_LANE, LNK_LANE_STATUS_LOS, LNK_LANE_STATUS_LOL, LNK_LANE_STATUS_ALIGNED,
   LNK_LANE_STATUS_POL_INV, LNK_LANE_STATUS_LIDX, LNK_LANE_STATUS_USE, LNK_LANE_STATUS_CM1,
   LNK_LANE_STATUS_CP1, LNK_LANE_BIP_COUNT, LNK_FLARE_DUP_COUNT, LNK_NOROUTE_COUNT,
   LNK_INGRESS_OFF_COUNT, LNK_DUAL_DUP_COUNT, LNK_DUAL_SKIP_COUNT, LNK_DUAL_NOENT_COUNT]
/-- Rows of the LNK tables. -/
def tblLNK1 : List Fld :=
  [LNK_DETACH_DISC_COUNT, LNK_DUAL_CFG_HOLD, LNK_DUAL_SEL_ENTRY, LNK_DUAL_STATUS_ORIGIN,
   LNK_DUAL_STATUS_STREAM, LNK_DUAL_STATUS_H, LNK_DUAL_STATUS_VALID, LNK_DUAL_STATUS_ACTIVE,
   LNK_DUAL_DSEQ_DSEQ, LNK_INT_ATTACH, LNK_INT_DETACH, LNK_INT_LANE_SPARED,
   LNK_INT_RETRAIN, LNK_INT_LH_CONFLICT, LNK_INT_NOROUTE, LNK_INT_FAILOVER,
   LNK_INT_RESTORED, LNK_INT_DUAL_SKIP, LNK_INT_REFUSED, LNK_INT_CNT_SAT,
   LNK_INT_EN_EN, LNK_PORT_EVT_ATTACHED, LNK_PORT_EVT_DETACHED, LNK_CNT_CLR_CLEAR]
/-- Rows of the LNK tables. -/
def tblLNK2 : List Fld :=
  [LNK_ROUTE_PORTS, LNK_Pp_CFG_EN, LNK_Pp_CFG_LANE0, LNK_Pp_CFG_WIDTH,
   LNK_Pp_CFG_SPARE, LNK_Pp_CFG_RATE_MAX, LNK_Pp_CFG_LP_EN, LNK_Pp_STATUS_STATE,
   LNK_Pp_STATUS_RATE, LNK_Pp_STATUS_SPARE_USED, LNK_Pp_STATUS_ERR, LNK_Pp_PARTNER_ID,
   LNK_Pp_PARTNER_PORT, LNK_Pp_PARTNER_ROLE, LNK_Pp_PARTNER_HOPS, LNK_Pp_PARTNER_CAPS,
   LNK_Pp_DELAY_DELAY, LNK_Pp_ASYM_ASYM, LNK_Pp_DEST_DEST, LNK_Pp_DEST_LOCAL,
   LNK_Pp_REPLAY_COUNT, LNK_Pp_CRCERR_COUNT, LNK_Pp_TMISS_COUNT, LNK_Pp_OUTST_BULK]
/-- Rows of the LNK tables. -/
def tblLNK3 : List Fld :=
  [LNK_Pp_OUTST_PEAK, LNK_Pp_CMD_RETRAIN, LNK_Pp_RETRAINS_COUNT]

/-! HST -/
def HST_STATUS_SPEED : Fld := { id := 733, blk := .hst, addr := 0x1F0000, stride := 0, count := 1, lsb := 0, width := 4, acc := .ro, cls := .live, rst := 0 }
def HST_STATUS_WIDTH : Fld := { id := 734, blk := .hst, addr := 0x1F0000, stride := 0, count := 1, lsb := 4, width := 6, acc := .ro, cls := .live, rst := 0 }
def HST_STATUS_PILOT : Fld := { id := 735, blk := .hst, addr := 0x1F0000, stride := 0, count := 1, lsb := 12, width := 1, acc := .ro, cls := .live, rst := 0 }
def HST_STATUS_TMO_CLAMP : Fld := { id := 736, blk := .hst, addr := 0x1F0000, stride := 0, count := 1, lsb := 13, width := 1, acc := .ro, cls := .live, rst := 0 }
def HST_BAR4_BASE_BASE : Fld := { id := 737, blk := .hst, addr := 0x1F0008, stride := 0, count := 1, lsb := 0, width := 9, acc := .rw, cls := .live, rst := 0 }
def HST_BAR4_OOR_COUNT : Fld := { id := 738, blk := .hst, addr := 0x1F000C, stride := 0, count := 1, lsb := 0, width := 32, acc := .ro, cls := .live, rst := 0 }
def HST_BADACC_COUNT : Fld := { id := 739, blk := .hst, addr := 0x1F0010, stride := 0, count := 1, lsb := 0, width := 32, acc := .ro, cls := .live, rst := 0 }
def HST_STRM_POLICY_LOSSLESS : Fld := { id := 740, blk := .hst, addr := 0x1F0020, stride := 4, count := 2, lsb := 0, width := 32, acc := .rw, cls := .live, rst := 0 }
def HST_STRM_FULL_FULL : Fld := { id := 741, blk := .hst, addr := 0x1F0028, stride := 4, count := 2, lsb := 0, width := 32, acc := .ro, cls := .live, rst := 0 }
def HST_STRM_OVR_OVR : Fld := { id := 742, blk := .hst, addr := 0x1F0030, stride := 4, count := 2, lsb := 0, width := 32, acc := .w1c, cls := .live, rst := 0 }
def HST_STRM_SEL_STREAM : Fld := { id := 743, blk := .hst, addr := 0x1F0038, stride := 0, count := 1, lsb := 0, width := 6, acc := .rw, cls := .live, rst := 0 }
def HST_STRM_LEVEL_LEVEL : Fld := { id := 744, blk := .hst, addr := 0x1F003C, stride := 0, count := 1, lsb := 0, width := 11, acc := .ro, cls := .live, rst := 0, sel := 743, bank := 64 }
def HST_STRM_LEVEL_PEAK : Fld := { id := 745, blk := .hst, addr := 0x1F003C, stride := 0, count := 1, lsb := 16, width := 11, acc := .ro, cls := .live, rst := 0, sel := 743, bank := 64 }
def HST_STRM_DISC_COUNT : Fld := { id := 746, blk := .hst, addr := 0x1F0040, stride := 0, count := 1, lsb := 0, width := 32, acc := .ro, cls := .live, rst := 0, sel := 743, bank := 64 }
def HST_STRM_DITEMS_COUNT : Fld := { id := 747, blk := .hst, addr := 0x1F0044, stride := 0, count := 1, lsb := 0, width := 32, acc := .ro, cls := .live, rst := 0, sel := 743, bank := 64 }
def HST_IVEC_SEL_SRC : Fld := { id := 748, blk := .hst, addr := 0x1F0050, stride := 0, count := 1, lsb := 0, width := 7, acc := .rw, cls := .live, rst := 0 }
def HST_IVEC_VEC : Fld := { id := 749, blk := .hst, addr := 0x1F0054, stride := 0, count := 1, lsb := 0, width := 8, acc := .rw, cls := .live, rst := 0, sel := 748, bank := 88, rstIdx := true }
def HST_IRQ_REARM_REARM : Fld := { id := 750, blk := .hst, addr := 0x1F0058, stride := 4, count := 3, lsb := 0, width := 32, acc := .wo, cls := .live, rst := 0 }
def HST_INT_QERR : Fld := { id := 751, blk := .hst, addr := 0x1F0070, stride := 0, count := 1, lsb := 0, width := 1, acc := .w1c, cls := .live, rst := 0 }
def HST_INT_REFUSED : Fld := { id := 752, blk := .hst, addr := 0x1F0070, stride := 0, count := 1, lsb := 1, width := 1, acc := .w1c, cls := .live, rst := 0 }
def HST_INT_OVR : Fld := { id := 753, blk := .hst, addr := 0x1F0070, stride := 0, count := 1, lsb := 2, width := 1, acc := .w1c, cls := .live, rst := 0 }
def HST_INT_BAR4_OOR : Fld := { id := 754, blk := .hst, addr := 0x1F0070, stride := 0, count := 1, lsb := 3, width := 1, acc := .w1c, cls := .live, rst := 0 }
def HST_INT_BADACC : Fld := { id := 755, blk := .hst, addr := 0x1F0070, stride := 0, count := 1, lsb := 4, width := 1, acc := .w1c, cls := .live, rst := 0 }
def HST_INT_TMO_CLAMP : Fld := { id := 756, blk := .hst, addr := 0x1F0070, stride := 0, count := 1, lsb := 5, width := 1, acc := .w1c, cls := .live, rst := 0 }
def HST_INT_CNT_SAT : Fld := { id := 757, blk := .hst, addr := 0x1F0070, stride := 0, count := 1, lsb := 6, width := 1, acc := .w1c, cls := .live, rst := 0 }
def HST_INT_EN_EN : Fld := { id := 758, blk := .hst, addr := 0x1F0074, stride := 0, count := 1, lsb := 0, width := 7, acc := .rw, cls := .live, rst := 0 }
def HST_CNT_CLR_CLEAR : Fld := { id := 759, blk := .hst, addr := 0x1F0078, stride := 0, count := 1, lsb := 0, width := 1, acc := .wo, cls := .live, rst := 0 }
def HST_Dq_CTRL_EN : Fld := { id := 760, blk := .hstD, addr := 0x1F0100, stride := 64, count := 64, lsb := 0, width := 1, acc := .rw, cls := .live, rst := 0 }
def HST_Hh_CTRL_EN : Fld := { id := 761, blk := .hstH, addr := 0x1F1100, stride := 64, count := 8, lsb := 0, width := 1, acc := .rw, cls := .live, rst := 0 }
def HST_Dq_CTRL_FMT : Fld := { id := 762, blk := .hstD, addr := 0x1F0100, stride := 64, count := 64, lsb := 1, width := 1, acc := .rw, cls := .locked, rst := 0 }
def HST_Dq_CTRL_LOG2SZ : Fld := { id := 763, blk := .hstD, addr := 0x1F0100, stride := 64, count := 64, lsb := 4, width := 4, acc := .rw, cls := .locked, rst := 0xc }
def HST_Hh_CTRL_LOG2SZ : Fld := { id := 764, blk := .hstH, addr := 0x1F1100, stride := 64, count := 8, lsb := 4, width := 4, acc := .rw, cls := .locked, rst := 0xc }
def HST_Dq_CTRL_CPLINT_EN : Fld := { id := 765, blk := .hstD, addr := 0x1F0100, stride := 64, count := 64, lsb := 8, width := 1, acc := .rw, cls := .live, rst := 1 }
def HST_Hh_CTRL_CPLINT_EN : Fld := { id := 766, blk := .hstH, addr := 0x1F1100, stride := 64, count := 8, lsb := 8, width := 1, acc := .rw, cls := .live, rst := 1 }
def HST_Hh_CTRL_ROLE : Fld := { id := 767, blk := .hstH, addr := 0x1F1100, stride := 64, count := 8, lsb := 10, width := 2, acc := .ro, cls := .live, rst := 0 }
def HST_Dq_STATUS_STATE : Fld := { id := 768, blk := .hstD, addr := 0x1F0104, stride := 64, count := 64, lsb := 0, width := 2, acc := .ro, cls := .live, rst := 0 }
def HST_Hh_STATUS_STATE : Fld := { id := 769, blk := .hstH, addr := 0x1F1104, stride := 64, count := 8, lsb := 0, width := 2, acc := .ro, cls := .live, rst := 0 }
def HST_Dq_STATUS_ERR : Fld := { id := 770, blk := .hstD, addr := 0x1F0104, stride := 64, count := 64, lsb := 4, width := 4, acc := .ro, cls := .live, rst := 0 }
def HST_Hh_STATUS_ERR : Fld := { id := 771, blk := .hstH, addr := 0x1F1104, stride := 64, count := 8, lsb := 4, width := 4, acc := .ro, cls := .live, rst := 0 }
def HST_Hh_STATUS_HELD : Fld := { id := 772, blk := .hstH, addr := 0x1F1104, stride := 64, count := 8, lsb := 8, width := 1, acc := .ro, cls := .live, rst := 0 }
def HST_Dq_STATUS_HEAD : Fld := { id := 773, blk := .hstD, addr := 0x1F0104, stride := 64, count := 64, lsb := 16, width := 16, acc := .ro, cls := .live, rst := 0 }
def HST_Hh_STATUS_HEAD : Fld := { id := 774, blk := .hstH, addr := 0x1F1104, stride := 64, count := 8, lsb := 16, width := 16, acc := .ro, cls := .live, rst := 0 }
def HST_Dq_DRING_ADDR : Fld := { id := 775, blk := .hstD, addr := 0x1F0108, stride := 64, count := 64, lsb := 0, width := 64, acc := .rw, cls := .locked, rst := 0 }
def HST_Hh_DRING_ADDR : Fld := { id := 776, blk := .hstH, addr := 0x1F1108, stride := 64, count := 8, lsb := 0, width := 64, acc := .rw, cls := .locked, rst := 0 }
def HST_Dq_CRING_ADDR : Fld := { id := 777, blk := .hstD, addr := 0x1F0110, stride := 64, count := 64, lsb := 0, width := 64, acc := .rw, cls := .locked, rst := 0 }
def HST_Hh_CRING_ADDR : Fld := { id := 778, blk := .hstH, addr := 0x1F1110, stride := 64, count := 8, lsb := 0, width := 64, acc := .rw, cls := .locked, rst := 0 }
def HST_Dq_MOD_CNT : Fld := { id := 779, blk := .hstD, addr := 0x1F0118, stride := 64, count := 64, lsb := 0, width := 12, acc := .rw, cls := .live, rst := 1 }
def HST_Hh_MOD_CNT : Fld := { id := 780, blk := .hstH, addr := 0x1F1118, stride := 64, count := 8, lsb := 0, width := 12, acc := .rw, cls := .live, rst := 1 }
def HST_Dq_MOD_TIMER : Fld := { id := 781, blk := .hstD, addr := 0x1F0118, stride := 64, count := 64, lsb := 16, width := 12, acc := .rw, cls := .live, rst := 0 }
def HST_Hh_MOD_TIMER : Fld := { id := 782, blk := .hstH, addr := 0x1F1118, stride := 64, count := 8, lsb := 16, width := 12, acc := .rw, cls := .live, rst := 0 }
def HST_Dq_CLOSE_TIME : Fld := { id := 783, blk := .hstD, addr := 0x1F011C, stride := 64, count := 64, lsb := 0, width := 16, acc := .rw, cls := .live, rst := 0x64 }
def HST_Dq_CLOSE_CTX : Fld := { id := 784, blk := .hstD, addr := 0x1F011C, stride := 64, count := 64, lsb := 16, width := 1, acc := .rw, cls := .live, rst := 1 }
def HST_Dq_PROG_MS : Fld := { id := 785, blk := .hstD, addr := 0x1F0120, stride := 64, count := 64, lsb := 0, width := 16, acc := .rw, cls := .live, rst := 0x64 }
def HST_Hh_PROG_MS : Fld := { id := 786, blk := .hstH, addr := 0x1F1120, stride := 64, count := 8, lsb := 0, width := 16, acc := .rw, cls := .live, rst := 0x64 }
def HST_Dq_BUFS_COUNT : Fld := { id := 787, blk := .hstD, addr := 0x1F0124, stride := 64, count := 64, lsb := 0, width := 32, acc := .ro, cls := .live, rst := 0 }
def HST_Hh_BUFS_COUNT : Fld := { id := 788, blk := .hstH, addr := 0x1F1124, stride := 64, count := 8, lsb := 0, width := 32, acc := .ro, cls := .live, rst := 0 }
def HST_Dq_STARVE_COUNT : Fld := { id := 789, blk := .hstD, addr := 0x1F0128, stride := 64, count := 64, lsb := 0, width := 32, acc := .ro, cls := .live, rst := 0 }
def HST_Dq_DB_TAIL : Fld := { id := 790, blk := .hstD, addr := 0x1F012C, stride := 64, count := 64, lsb := 0, width := 16, acc := .ro, cls := .live, rst := 0 }
def HST_Hh_DB_TAIL : Fld := { id := 791, blk := .hstH, addr := 0x1F112C, stride := 64, count := 8, lsb := 0, width := 16, acc := .ro, cls := .live, rst := 0 }
def HST_Dq_DB_CPL_HEAD : Fld := { id := 792, blk := .hstD, addr := 0x1F012C, stride := 64, count := 64, lsb := 16, width := 16, acc := .ro, cls := .live, rst := 0 }
def HST_Hh_DB_CPL_HEAD : Fld := { id := 793, blk := .hstH, addr := 0x1F112C, stride := 64, count := 8, lsb := 16, width := 16, acc := .ro, cls := .live, rst := 0 }
/-- Rows of the HST tables. -/
def tblHST0 : List Fld :=
  [HST_STATUS_SPEED, HST_STATUS_WIDTH, HST_STATUS_PILOT, HST_STATUS_TMO_CLAMP,
   HST_BAR4_BASE_BASE, HST_BAR4_OOR_COUNT, HST_BADACC_COUNT, HST_STRM_POLICY_LOSSLESS,
   HST_STRM_FULL_FULL, HST_STRM_OVR_OVR, HST_STRM_SEL_STREAM, HST_STRM_LEVEL_LEVEL,
   HST_STRM_LEVEL_PEAK, HST_STRM_DISC_COUNT, HST_STRM_DITEMS_COUNT, HST_IVEC_SEL_SRC,
   HST_IVEC_VEC, HST_IRQ_REARM_REARM, HST_INT_QERR, HST_INT_REFUSED,
   HST_INT_OVR, HST_INT_BAR4_OOR, HST_INT_BADACC, HST_INT_TMO_CLAMP]
/-- Rows of the HST tables. -/
def tblHST1 : List Fld :=
  [HST_INT_CNT_SAT, HST_INT_EN_EN, HST_CNT_CLR_CLEAR, HST_Dq_CTRL_EN,
   HST_Hh_CTRL_EN, HST_Dq_CTRL_FMT, HST_Dq_CTRL_LOG2SZ, HST_Hh_CTRL_LOG2SZ,
   HST_Dq_CTRL_CPLINT_EN, HST_Hh_CTRL_CPLINT_EN, HST_Hh_CTRL_ROLE, HST_Dq_STATUS_STATE,
   HST_Hh_STATUS_STATE, HST_Dq_STATUS_ERR, HST_Hh_STATUS_ERR, HST_Hh_STATUS_HELD,
   HST_Dq_STATUS_HEAD, HST_Hh_STATUS_HEAD, HST_Dq_DRING_ADDR, HST_Hh_DRING_ADDR,
   HST_Dq_CRING_ADDR, HST_Hh_CRING_ADDR, HST_Dq_MOD_CNT, HST_Hh_MOD_CNT]
/-- Rows of the HST tables. -/
def tblHST2 : List Fld :=
  [HST_Dq_MOD_TIMER, HST_Hh_MOD_TIMER, HST_Dq_CLOSE_TIME, HST_Dq_CLOSE_CTX,
   HST_Dq_PROG_MS, HST_Hh_PROG_MS, HST_Dq_BUFS_COUNT, HST_Hh_BUFS_COUNT,
   HST_Dq_STARVE_COUNT, HST_Dq_DB_TAIL, HST_Hh_DB_TAIL, HST_Dq_DB_CPL_HEAD,
   HST_Hh_DB_CPL_HEAD]

/-! CMP -/
def CMP_CTRL_EN : Fld := { id := 794, blk := .cmp, addr := 0x200000, stride := 0, count := 1, lsb := 0, width := 4, acc := .rw, cls := .live, rst := 0 }
def CMP_STATUS_STALLED : Fld := { id := 795, blk := .cmp, addr := 0x200004, stride := 0, count := 1, lsb := 0, width := 4, acc := .ro, cls := .live, rst := 0 }
def CMP_SPILL_BASE : Fld := { id := 796, blk := .cmp, addr := 0x200008, stride := 0, count := 1, lsb := 0, width := 32, acc := .ro, cls := .live, rst := 0 }
def CMP_REDO_COUNT : Fld := { id := 797, blk := .cmp, addr := 0x200010, stride := 0, count := 1, lsb := 0, width := 32, acc := .ro, cls := .live, rst := 0 }
def CMP_SWAP_COUNT : Fld := { id := 798, blk := .cmp, addr := 0x200014, stride := 0, count := 1, lsb := 0, width := 32, acc := .ro, cls := .live, rst := 0 }
def CMP_DEC_RETRY_COUNT : Fld := { id := 799, blk := .cmp, addr := 0x200018, stride := 0, count := 1, lsb := 0, width := 32, acc := .ro, cls := .live, rst := 0 }
def CMP_DEC_ERR_COUNT : Fld := { id := 800, blk := .cmp, addr := 0x20001C, stride := 0, count := 1, lsb := 0, width := 32, acc := .ro, cls := .live, rst := 0 }
def CMP_DEC_STATUS_ERR : Fld := { id := 801, blk := .cmp, addr := 0x200020, stride := 0, count := 1, lsb := 0, width := 4, acc := .ro, cls := .live, rst := 0 }
def CMP_DEC_STATUS_SRC : Fld := { id := 802, blk := .cmp, addr := 0x200020, stride := 0, count := 1, lsb := 4, width := 1, acc := .ro, cls := .live, rst := 0 }
def CMP_DEC_STATUS_QUEUE : Fld := { id := 803, blk := .cmp, addr := 0x200020, stride := 0, count := 1, lsb := 8, width := 3, acc := .ro, cls := .live, rst := 0 }
def CMP_INT_UNC : Fld := { id := 804, blk := .cmp, addr := 0x200030, stride := 0, count := 1, lsb := 0, width := 1, acc := .w1c, cls := .live, rst := 0 }
def CMP_INT_REDO : Fld := { id := 805, blk := .cmp, addr := 0x200030, stride := 0, count := 1, lsb := 1, width := 1, acc := .w1c, cls := .live, rst := 0 }
def CMP_INT_RESTORE_ERR : Fld := { id := 806, blk := .cmp, addr := 0x200030, stride := 0, count := 1, lsb := 2, width := 1, acc := .w1c, cls := .live, rst := 0 }
def CMP_INT_DEC_ERR : Fld := { id := 807, blk := .cmp, addr := 0x200030, stride := 0, count := 1, lsb := 3, width := 1, acc := .w1c, cls := .live, rst := 0 }
def CMP_INT_SAVED : Fld := { id := 808, blk := .cmp, addr := 0x200030, stride := 0, count := 1, lsb := 4, width := 1, acc := .w1c, cls := .live, rst := 0 }
def CMP_INT_REFUSED : Fld := { id := 809, blk := .cmp, addr := 0x200030, stride := 0, count := 1, lsb := 5, width := 1, acc := .w1c, cls := .live, rst := 0 }
def CMP_INT_CNT_SAT : Fld := { id := 810, blk := .cmp, addr := 0x200030, stride := 0, count := 1, lsb := 6, width := 1, acc := .w1c, cls := .live, rst := 0 }
def CMP_INT_EN_EN : Fld := { id := 811, blk := .cmp, addr := 0x200034, stride := 0, count := 1, lsb := 0, width := 7, acc := .rw, cls := .live, rst := 0 }
def CMP_CNT_CLR_CLEAR : Fld := { id := 812, blk := .cmp, addr := 0x200038, stride := 0, count := 1, lsb := 0, width := 1, acc := .wo, cls := .live, rst := 0 }
def CMP_CTX_SEL_CTX : Fld := { id := 813, blk := .cmp, addr := 0x200040, stride := 0, count := 1, lsb := 0, width := 6, acc := .rw, cls := .live, rst := 0 }
def CMP_CTX_CFG_BLKLOG : Fld := { id := 814, blk := .cmp, addr := 0x200044, stride := 0, count := 1, lsb := 0, width := 4, acc := .rw, cls := .staged, rst := 0xd, sel := 813, bank := 64 }
def CMP_CTX_CFG_KEEP : Fld := { id := 815, blk := .cmp, addr := 0x200044, stride := 0, count := 1, lsb := 4, width := 1, acc := .rw, cls := .staged, rst := 0, sel := 813, bank := 64 }
def CMP_CTX_CFG_FLUSH : Fld := { id := 816, blk := .cmp, addr := 0x200044, stride := 0, count := 1, lsb := 16, width := 16, acc := .rw, cls := .staged, rst := 0x64, sel := 813, bank := 64 }
def CMP_CTX_CMD_SAVE : Fld := { id := 817, blk := .cmp, addr := 0x200048, stride := 0, count := 1, lsb := 0, width := 1, acc := .wo, cls := .live, rst := 0, sel := 813, bank := 64 }
def CMP_CTX_CMD_RESTORE : Fld := { id := 818, blk := .cmp, addr := 0x200048, stride := 0, count := 1, lsb := 1, width := 1, acc := .wo, cls := .live, rst := 0, sel := 813, bank := 64 }
def CMP_CTX_CMD_RESET : Fld := { id := 819, blk := .cmp, addr := 0x200048, stride := 0, count := 1, lsb := 2, width := 1, acc := .wo, cls := .live, rst := 0, sel := 813, bank := 64 }
def CMP_CTX_STATUS_ENGINE : Fld := { id := 820, blk := .cmp, addr := 0x20004C, stride := 0, count := 1, lsb := 0, width := 2, acc := .ro, cls := .live, rst := 0, sel := 813, bank := 64 }
def CMP_CTX_STATUS_RESIDENT : Fld := { id := 821, blk := .cmp, addr := 0x20004C, stride := 0, count := 1, lsb := 2, width := 1, acc := .ro, cls := .live, rst := 0, sel := 813, bank := 64 }
def CMP_CTX_STATUS_PENDING : Fld := { id := 822, blk := .cmp, addr := 0x20004C, stride := 0, count := 1, lsb := 3, width := 1, acc := .ro, cls := .live, rst := 0, sel := 813, bank := 64 }
def CMP_CTX_STATUS_SAVED : Fld := { id := 823, blk := .cmp, addr := 0x20004C, stride := 0, count := 1, lsb := 4, width := 1, acc := .ro, cls := .live, rst := 0, sel := 813, bank := 64 }
def CMP_CTX_STATUS_NEXT : Fld := { id := 824, blk := .cmp, addr := 0x20004C, stride := 0, count := 1, lsb := 16, width := 13, acc := .ro, cls := .live, rst := 0x100, sel := 813, bank := 64 }
def CMP_CTX_BSEQ_BSEQ : Fld := { id := 825, blk := .cmp, addr := 0x200050, stride := 0, count := 1, lsb := 0, width := 16, acc := .ro, cls := .live, rst := 0, sel := 813, bank := 64 }
def CMP_CTX_IN_COUNT : Fld := { id := 826, blk := .cmp, addr := 0x200054, stride := 0, count := 1, lsb := 0, width := 32, acc := .ro, cls := .live, rst := 0, sel := 813, bank := 64 }
def CMP_CTX_OUT_COUNT : Fld := { id := 827, blk := .cmp, addr := 0x200058, stride := 0, count := 1, lsb := 0, width := 32, acc := .ro, cls := .live, rst := 0, sel := 813, bank := 64 }
def CMP_CTX_UNC_COUNT : Fld := { id := 828, blk := .cmp, addr := 0x20005C, stride := 0, count := 1, lsb := 0, width := 32, acc := .ro, cls := .live, rst := 0, sel := 813, bank := 64 }
/-- Rows of the CMP tables. -/
def tblCMP0 : List Fld :=
  [CMP_CTRL_EN, CMP_STATUS_STALLED, CMP_SPILL_BASE, CMP_REDO_COUNT,
   CMP_SWAP_COUNT, CMP_DEC_RETRY_COUNT, CMP_DEC_ERR_COUNT, CMP_DEC_STATUS_ERR,
   CMP_DEC_STATUS_SRC, CMP_DEC_STATUS_QUEUE, CMP_INT_UNC, CMP_INT_REDO,
   CMP_INT_RESTORE_ERR, CMP_INT_DEC_ERR, CMP_INT_SAVED, CMP_INT_REFUSED,
   CMP_INT_CNT_SAT, CMP_INT_EN_EN, CMP_CNT_CLR_CLEAR, CMP_CTX_SEL_CTX,
   CMP_CTX_CFG_BLKLOG, CMP_CTX_CFG_KEEP, CMP_CTX_CFG_FLUSH, CMP_CTX_CMD_SAVE]
/-- Rows of the CMP tables. -/
def tblCMP1 : List Fld :=
  [CMP_CTX_CMD_RESTORE, CMP_CTX_CMD_RESET, CMP_CTX_STATUS_ENGINE, CMP_CTX_STATUS_RESIDENT,
   CMP_CTX_STATUS_PENDING, CMP_CTX_STATUS_SAVED, CMP_CTX_STATUS_NEXT, CMP_CTX_BSEQ_BSEQ,
   CMP_CTX_IN_COUNT, CMP_CTX_OUT_COUNT, CMP_CTX_UNC_COUNT]

/-! MEM -/
def MEM_STATUS_CHMASK : Fld := { id := 829, blk := .mem, addr := 0x210000, stride := 0, count := 1, lsb := 0, width := 12, acc := .ro, cls := .live, rst := 0 }
def MEM_STATUS_ORG : Fld := { id := 830, blk := .mem, addr := 0x210000, stride := 0, count := 1, lsb := 12, width := 2, acc := .ro, cls := .live, rst := 0 }
def MEM_STATUS_DENS : Fld := { id := 831, blk := .mem, addr := 0x210000, stride := 0, count := 1, lsb := 14, width := 1, acc := .ro, cls := .live, rst := 0 }
def MEM_STATUS_SIZE : Fld := { id := 832, blk := .mem, addr := 0x210000, stride := 0, count := 1, lsb := 16, width := 5, acc := .ro, cls := .live, rst := 0 }
def MEM_STATUS_RATE : Fld := { id := 833, blk := .mem, addr := 0x210000, stride := 0, count := 1, lsb := 21, width := 3, acc := .ro, cls := .live, rst := 0 }
def MEM_STATUS_DEGRADED : Fld := { id := 834, blk := .mem, addr := 0x210000, stride := 0, count := 1, lsb := 24, width := 1, acc := .ro, cls := .live, rst := 0 }
def MEM_CH_FAIL_FAIL : Fld := { id := 835, blk := .mem, addr := 0x210004, stride := 0, count := 1, lsb := 0, width := 12, acc := .ro, cls := .live, rst := 0 }
def MEM_BIST_CHK : Fld := { id := 836, blk := .mem, addr := 0x210008, stride := 0, count := 1, lsb := 0, width := 12, acc := .ro, cls := .live, rst := 0 }
def MEM_BIST_RT : Fld := { id := 837, blk := .mem, addr := 0x210008, stride := 0, count := 1, lsb := 16, width := 12, acc := .ro, cls := .live, rst := 0 }
def MEM_CFG_RATE_MAX : Fld := { id := 838, blk := .mem, addr := 0x21000C, stride := 0, count := 1, lsb := 0, width := 2, acc := .rw, cls := .staged, rst := 3 }
def MEM_RING_BASE : Fld := { id := 839, blk := .mem, addr := 0x210010, stride := 0, count := 1, lsb := 0, width := 13, acc := .rw, cls := .locked, rst := 0 }
def MEM_RING_SIZE : Fld := { id := 840, blk := .mem, addr := 0x210010, stride := 0, count := 1, lsb := 16, width := 13, acc := .rw, cls := .locked, rst := 0 }
def MEM_BURST_BASE : Fld := { id := 841, blk := .mem, addr := 0x210014, stride := 0, count := 1, lsb := 0, width := 13, acc := .rw, cls := .locked, rst := 0 }
def MEM_BURST_SIZE : Fld := { id := 842, blk := .mem, addr := 0x210014, stride := 0, count := 1, lsb := 16, width := 13, acc := .rw, cls := .locked, rst := 0 }
def MEM_SPILL_BASE : Fld := { id := 843, blk := .mem, addr := 0x210018, stride := 0, count := 1, lsb := 0, width := 13, acc := .rw, cls := .locked, rst := 0 }
def MEM_SPILL_EN : Fld := { id := 844, blk := .mem, addr := 0x210018, stride := 0, count := 1, lsb := 16, width := 1, acc := .rw, cls := .locked, rst := 0 }
def MEM_ERR_CODE : Fld := { id := 845, blk := .mem, addr := 0x21001C, stride := 0, count := 1, lsb := 0, width := 4, acc := .ro, cls := .live, rst := 0 }
def MEM_COVER_MIB : Fld := { id := 846, blk := .mem, addr := 0x210020, stride := 0, count := 1, lsb := 0, width := 13, acc := .ro, cls := .live, rst := 0 }
def MEM_SCRUB_BASE_BLOCK : Fld := { id := 847, blk := .mem, addr := 0x210030, stride := 0, count := 1, lsb := 0, width := 24, acc := .rw, cls := .live, rst := 0 }
def MEM_SCRUB_LEN_BLOCKS : Fld := { id := 848, blk := .mem, addr := 0x210034, stride := 0, count := 1, lsb := 0, width := 24, acc := .rw, cls := .live, rst := 0 }
def MEM_SCRUB_CTRL_START : Fld := { id := 849, blk := .mem, addr := 0x210038, stride := 0, count := 1, lsb := 0, width := 1, acc := .wo, cls := .live, rst := 0 }
def MEM_SCRUB_CTRL_ABORT : Fld := { id := 850, blk := .mem, addr := 0x210038, stride := 0, count := 1, lsb := 1, width := 1, acc := .wo, cls := .live, rst := 0 }
def MEM_SCRUB_CTRL_RATE : Fld := { id := 851, blk := .mem, addr := 0x210038, stride := 0, count := 1, lsb := 8, width := 8, acc := .rw, cls := .live, rst := 0 }
def MEM_SCRUB_STATUS_STATE : Fld := { id := 852, blk := .mem, addr := 0x21003C, stride := 0, count := 1, lsb := 0, width := 2, acc := .ro, cls := .live, rst := 0 }
def MEM_SCRUB_STATUS_NEXT : Fld := { id := 853, blk := .mem, addr := 0x21003C, stride := 0, count := 1, lsb := 8, width := 24, acc := .ro, cls := .live, rst := 0 }
def MEM_SCRUB_READ_COUNT : Fld := { id := 854, blk := .mem, addr := 0x210040, stride := 4, count := 1, lsb := 0, width := 32, acc := .ro, cls := .live, rst := 0 }
def MEM_SCRUB_CORR_COUNT : Fld := { id := 855, blk := .mem, addr := 0x210044, stride := 4, count := 1, lsb := 0, width := 32, acc := .ro, cls := .live, rst := 0 }
def MEM_SCRUB_UE_COUNT : Fld := { id := 856, blk := .mem, addr := 0x210048, stride := 4, count := 1, lsb := 0, width := 32, acc := .ro, cls := .live, rst := 0 }
def MEM_SCRUB_POISON_COUNT : Fld := { id := 857, blk := .mem, addr := 0x21004C, stride := 4, count := 1, lsb := 0, width := 32, acc := .ro, cls := .live, rst := 0 }
def MEM_SCRUB_SKIP_COUNT : Fld := { id := 858, blk := .mem, addr := 0x210050, stride := 4, count := 1, lsb := 0, width := 32, acc := .ro, cls := .live, rst := 0 }
def MEM_SCRUB_FIRST_WORD : Fld := { id := 859, blk := .mem, addr := 0x210054, stride := 0, count := 1, lsb := 0, width := 30, acc := .ro, cls := .live, rst := 0 }
def MEM_SCRUB_FIRST_VALID : Fld := { id := 860, blk := .mem, addr := 0x210054, stride := 0, count := 1, lsb := 31, width := 1, acc := .ro, cls := .live, rst := 0 }
def MEM_CORR_COUNT : Fld := { id := 861, blk := .mem, addr := 0x210060, stride := 0, count := 1, lsb := 0, width := 32, acc := .ro, cls := .live, rst := 0 }
def MEM_UE_COUNT : Fld := { id := 862, blk := .mem, addr := 0x210064, stride := 0, count := 1, lsb := 0, width := 32, acc := .ro, cls := .live, rst := 0 }
def MEM_POISON_RD_COUNT : Fld := { id := 863, blk := .mem, addr := 0x210068, stride := 0, count := 1, lsb := 0, width := 32, acc := .ro, cls := .live, rst := 0 }
def MEM_RMW_COUNT : Fld := { id := 864, blk := .mem, addr := 0x21006C, stride := 0, count := 1, lsb := 0, width := 32, acc := .ro, cls := .live, rst := 0 }
def MEM_ZREAD_COUNT : Fld := { id := 865, blk := .mem, addr := 0x210070, stride := 0, count := 1, lsb := 0, width := 32, acc := .ro, cls := .live, rst := 0 }
def MEM_BAR4_PROT_COUNT : Fld := { id := 866, blk := .mem, addr := 0x210074, stride := 0, count := 1, lsb := 0, width := 32, acc := .ro, cls := .live, rst := 0 }
def MEM_RPT_SEL_ENTRY : Fld := { id := 867, blk := .mem, addr := 0x210080, stride := 0, count := 1, lsb := 0, width := 6, acc := .rw, cls := .live, rst := 0 }
def MEM_RPT_ADDR_WORD : Fld := { id := 868, blk := .mem, addr := 0x210084, stride := 0, count := 1, lsb := 0, width := 30, acc := .ro, cls := .live, rst := 0, sel := 867, bank := 64 }
def MEM_RPT_ADDR_VALID : Fld := { id := 869, blk := .mem, addr := 0x210084, stride := 0, count := 1, lsb := 31, width := 1, acc := .ro, cls := .live, rst := 0, sel := 867, bank := 64 }
def MEM_RPT_INFO_COUNT : Fld := { id := 870, blk := .mem, addr := 0x210088, stride := 0, count := 1, lsb := 0, width := 4, acc := .ro, cls := .live, rst := 0, sel := 867, bank := 64 }
def MEM_RPT_INFO_REWRITTEN : Fld := { id := 871, blk := .mem, addr := 0x210088, stride := 0, count := 1, lsb := 4, width := 1, acc := .ro, cls := .live, rst := 0, sel := 867, bank := 64 }
def MEM_RPT_INFO_BIT : Fld := { id := 872, blk := .mem, addr := 0x210088, stride := 0, count := 1, lsb := 8, width := 7, acc := .ro, cls := .live, rst := 0, sel := 867, bank := 64 }
def MEM_RPT_REWR_COUNT : Fld := { id := 873, blk := .mem, addr := 0x21008C, stride := 0, count := 1, lsb := 0, width := 32, acc := .ro, cls := .live, rst := 0 }
def MEM_REMAP_STATUS_USED : Fld := { id := 874, blk := .mem, addr := 0x210090, stride := 0, count := 1, lsb := 0, width := 9, acc := .ro, cls := .live, rst := 0 }
def MEM_REMAP_SEL_ENTRY : Fld := { id := 875, blk := .mem, addr := 0x210094, stride := 0, count := 1, lsb := 0, width := 8, acc := .rw, cls := .live, rst := 0 }
def MEM_REMAP_ENTRY_ROW : Fld := { id := 876, blk := .mem, addr := 0x210098, stride := 0, count := 1, lsb := 0, width := 18, acc := .ro, cls := .live, rst := 0, sel := 875, bank := 256 }
def MEM_REMAP_ENTRY_CH : Fld := { id := 877, blk := .mem, addr := 0x210098, stride := 0, count := 1, lsb := 20, width := 4, acc := .ro, cls := .live, rst := 0, sel := 875, bank := 256 }
def MEM_REMAP_ENTRY_VALID : Fld := { id := 878, blk := .mem, addr := 0x210098, stride := 0, count := 1, lsb := 31, width := 1, acc := .ro, cls := .live, rst := 0, sel := 875, bank := 256 }
def MEM_SRAM_COUNT_ARRAYS : Fld := { id := 879, blk := .mem, addr := 0x21009C, stride := 0, count := 1, lsb := 0, width := 8, acc := .ro, cls := .live, rst := 0 }
def MEM_SRAM_SEL_ARRAY : Fld := { id := 880, blk := .mem, addr := 0x2100A0, stride := 0, count := 1, lsb := 0, width := 8, acc := .rw, cls := .live, rst := 0 }
def MEM_SRAM_INFO_ROWS : Fld := { id := 881, blk := .mem, addr := 0x2100A4, stride := 0, count := 1, lsb := 0, width := 2, acc := .ro, cls := .live, rst := 2, sel := 880, bank := 256 }
def MEM_SRAM_INFO_COLS : Fld := { id := 882, blk := .mem, addr := 0x2100A4, stride := 0, count := 1, lsb := 4, width := 1, acc := .ro, cls := .live, rst := 1, sel := 880, bank := 256 }
def MEM_SRAM_INFO_PEND : Fld := { id := 883, blk := .mem, addr := 0x2100A4, stride := 0, count := 1, lsb := 8, width := 1, acc := .ro, cls := .live, rst := 0, sel := 880, bank := 256 }
def MEM_SRAM_INFO_SOFT : Fld := { id := 884, blk := .mem, addr := 0x2100A4, stride := 0, count := 1, lsb := 9, width := 1, acc := .ro, cls := .live, rst := 0, sel := 880, bank := 256 }
def MEM_SRAM_INFO_FAILED : Fld := { id := 885, blk := .mem, addr := 0x2100A4, stride := 0, count := 1, lsb := 10, width := 1, acc := .ro, cls := .live, rst := 0, sel := 880, bank := 256 }
def MEM_SRAM_INFO_FUSE_LEFT : Fld := { id := 886, blk := .mem, addr := 0x2100A4, stride := 0, count := 1, lsb := 16, width := 2, acc := .ro, cls := .live, rst := 3, sel := 880, bank := 256 }
def MEM_SRAM_FUSE_PROG : Fld := { id := 887, blk := .mem, addr := 0x2100A8, stride := 0, count := 1, lsb := 0, width := 1, acc := .fuse, cls := .live, rst := 0 }
def MEM_CH_SEL_CH : Fld := { id := 888, blk := .mem, addr := 0x2100B0, stride := 0, count := 1, lsb := 0, width := 4, acc := .rw, cls := .live, rst := 0 }
def MEM_CH_OUTST_OUT : Fld := { id := 889, blk := .mem, addr := 0x2100B4, stride := 0, count := 1, lsb := 0, width := 9, acc := .ro, cls := .live, rst := 0, sel := 888, bank := 12 }
def MEM_CH_OUTST_PEAK : Fld := { id := 890, blk := .mem, addr := 0x2100B4, stride := 0, count := 1, lsb := 16, width := 9, acc := .ro, cls := .live, rst := 0, sel := 888, bank := 12 }
def MEM_CH_STALL_COUNT : Fld := { id := 891, blk := .mem, addr := 0x2100B8, stride := 0, count := 1, lsb := 0, width := 32, acc := .ro, cls := .live, rst := 0, sel := 888, bank := 12 }
def MEM_INT_REFUSED : Fld := { id := 892, blk := .mem, addr := 0x2100C0, stride := 0, count := 1, lsb := 0, width := 1, acc := .w1c, cls := .live, rst := 0 }
def MEM_INT_UE : Fld := { id := 893, blk := .mem, addr := 0x2100C0, stride := 0, count := 1, lsb := 1, width := 1, acc := .w1c, cls := .live, rst := 0 }
def MEM_INT_RPT_REWRITE : Fld := { id := 894, blk := .mem, addr := 0x2100C0, stride := 0, count := 1, lsb := 2, width := 1, acc := .w1c, cls := .live, rst := 0 }
def MEM_INT_REMAP : Fld := { id := 895, blk := .mem, addr := 0x2100C0, stride := 0, count := 1, lsb := 3, width := 1, acc := .w1c, cls := .live, rst := 0 }
def MEM_INT_REMAP_FULL : Fld := { id := 896, blk := .mem, addr := 0x2100C0, stride := 0, count := 1, lsb := 4, width := 1, acc := .w1c, cls := .live, rst := 0 }
def MEM_INT_SCRUB_DONE : Fld := { id := 897, blk := .mem, addr := 0x2100C0, stride := 0, count := 1, lsb := 5, width := 1, acc := .w1c, cls := .live, rst := 0 }
def MEM_INT_PROT : Fld := { id := 898, blk := .mem, addr := 0x2100C0, stride := 0, count := 1, lsb := 6, width := 1, acc := .w1c, cls := .live, rst := 0 }
def MEM_INT_DEGRADED : Fld := { id := 899, blk := .mem, addr := 0x2100C0, stride := 0, count := 1, lsb := 7, width := 1, acc := .w1c, cls := .live, rst := 0 }
def MEM_INT_SRAM_PEND : Fld := { id := 900, blk := .mem, addr := 0x2100C0, stride := 0, count := 1, lsb := 8, width := 1, acc := .w1c, cls := .live, rst := 0 }
def MEM_INT_CNT_SAT : Fld := { id := 901, blk := .mem, addr := 0x2100C0, stride := 0, count := 1, lsb := 9, width := 1, acc := .w1c, cls := .live, rst := 0 }
def MEM_INT_EN_EN : Fld := { id := 902, blk := .mem, addr := 0x2100C4, stride := 0, count := 1, lsb := 0, width := 10, acc := .rw, cls := .live, rst := 0 }
def MEM_CNT_CLR_CLEAR : Fld := { id := 903, blk := .mem, addr := 0x2100C8, stride := 0, count := 1, lsb := 0, width := 1, acc := .wo, cls := .live, rst := 0 }
/-- Rows of the MEM tables. -/
def tblMEM0 : List Fld :=
  [MEM_STATUS_CHMASK, MEM_STATUS_ORG, MEM_STATUS_DENS, MEM_STATUS_SIZE,
   MEM_STATUS_RATE, MEM_STATUS_DEGRADED, MEM_CH_FAIL_FAIL, MEM_BIST_CHK,
   MEM_BIST_RT, MEM_CFG_RATE_MAX, MEM_RING_BASE, MEM_RING_SIZE,
   MEM_BURST_BASE, MEM_BURST_SIZE, MEM_SPILL_BASE, MEM_SPILL_EN,
   MEM_ERR_CODE, MEM_COVER_MIB, MEM_SCRUB_BASE_BLOCK, MEM_SCRUB_LEN_BLOCKS,
   MEM_SCRUB_CTRL_START, MEM_SCRUB_CTRL_ABORT, MEM_SCRUB_CTRL_RATE, MEM_SCRUB_STATUS_STATE]
/-- Rows of the MEM tables. -/
def tblMEM1 : List Fld :=
  [MEM_SCRUB_STATUS_NEXT, MEM_SCRUB_READ_COUNT, MEM_SCRUB_CORR_COUNT, MEM_SCRUB_UE_COUNT,
   MEM_SCRUB_POISON_COUNT, MEM_SCRUB_SKIP_COUNT, MEM_SCRUB_FIRST_WORD, MEM_SCRUB_FIRST_VALID,
   MEM_CORR_COUNT, MEM_UE_COUNT, MEM_POISON_RD_COUNT, MEM_RMW_COUNT,
   MEM_ZREAD_COUNT, MEM_BAR4_PROT_COUNT, MEM_RPT_SEL_ENTRY, MEM_RPT_ADDR_WORD,
   MEM_RPT_ADDR_VALID, MEM_RPT_INFO_COUNT, MEM_RPT_INFO_REWRITTEN, MEM_RPT_INFO_BIT,
   MEM_RPT_REWR_COUNT, MEM_REMAP_STATUS_USED, MEM_REMAP_SEL_ENTRY, MEM_REMAP_ENTRY_ROW]
/-- Rows of the MEM tables. -/
def tblMEM2 : List Fld :=
  [MEM_REMAP_ENTRY_CH, MEM_REMAP_ENTRY_VALID, MEM_SRAM_COUNT_ARRAYS, MEM_SRAM_SEL_ARRAY,
   MEM_SRAM_INFO_ROWS, MEM_SRAM_INFO_COLS, MEM_SRAM_INFO_PEND, MEM_SRAM_INFO_SOFT,
   MEM_SRAM_INFO_FAILED, MEM_SRAM_INFO_FUSE_LEFT, MEM_SRAM_FUSE_PROG, MEM_CH_SEL_CH,
   MEM_CH_OUTST_OUT, MEM_CH_OUTST_PEAK, MEM_CH_STALL_COUNT, MEM_INT_REFUSED,
   MEM_INT_UE, MEM_INT_RPT_REWRITE, MEM_INT_REMAP, MEM_INT_REMAP_FULL,
   MEM_INT_SCRUB_DONE, MEM_INT_PROT, MEM_INT_DEGRADED, MEM_INT_SRAM_PEND]
/-- Rows of the MEM tables. -/
def tblMEM3 : List Fld :=
  [MEM_INT_CNT_SAT, MEM_INT_EN_EN, MEM_CNT_CLR_CLEAR]

/-! BOOT -/
def BOOT_STATUS_STAGE : Fld := { id := 904, blk := .boot, addr := 0x10000, stride := 0, count := 1, lsb := 0, width := 4, acc := .ro, cls := .live, rst := 0 }
def BOOT_STATUS_DONE : Fld := { id := 905, blk := .boot, addr := 0x10000, stride := 0, count := 1, lsb := 4, width := 1, acc := .ro, cls := .live, rst := 0 }
def BOOT_STATUS_PILOT : Fld := { id := 906, blk := .boot, addr := 0x10000, stride := 0, count := 1, lsb := 5, width := 1, acc := .ro, cls := .live, rst := 0 }
def BOOT_STATUS_FAILCNT : Fld := { id := 907, blk := .boot, addr := 0x10000, stride := 0, count := 1, lsb := 8, width := 2, acc := .ro, cls := .live, rst := 0 }
def BOOT_STATUS_STRAP : Fld := { id := 908, blk := .boot, addr := 0x10000, stride := 0, count := 1, lsb := 12, width := 2, acc := .ro, cls := .live, rst := 0 }
def BOOT_LAST_KIND : Fld := { id := 909, blk := .boot, addr := 0x10004, stride := 0, count := 1, lsb := 0, width := 3, acc := .ro, cls := .live, rst := 0 }
def BOOT_LAST_FCODE : Fld := { id := 910, blk := .boot, addr := 0x10004, stride := 0, count := 1, lsb := 8, width := 8, acc := .ro, cls := .live, rst := 0 }
def BOOT_LAST_QDISC : Fld := { id := 911, blk := .boot, addr := 0x10004, stride := 0, count := 1, lsb := 16, width := 8, acc := .ro, cls := .live, rst := 0 }
def BOOT_LAST_BOUNCE : Fld := { id := 912, blk := .boot, addr := 0x10004, stride := 0, count := 1, lsb := 24, width := 8, acc := .ro, cls := .live, rst := 0 }
def BOOT_FAIL_STAGE : Fld := { id := 913, blk := .boot, addr := 0x10008, stride := 0, count := 1, lsb := 0, width := 4, acc := .ro, cls := .live, rst := 0 }
def BOOT_FAIL_CODE : Fld := { id := 914, blk := .boot, addr := 0x10008, stride := 0, count := 1, lsb := 8, width := 8, acc := .ro, cls := .live, rst := 0 }
def BOOT_PILOT_CAUSE : Fld := { id := 915, blk := .boot, addr := 0x1000C, stride := 0, count := 1, lsb := 0, width := 4, acc := .ro, cls := .live, rst := 0 }
def BOOT_HELD_MS : Fld := { id := 916, blk := .boot, addr := 0x10010, stride := 0, count := 1, lsb := 0, width := 32, acc := .ro, cls := .live, rst := 0 }
def BOOT_RAIL_RAIL : Fld := { id := 917, blk := .boot, addr := 0x10014, stride := 0, count := 1, lsb := 0, width := 4, acc := .ro, cls := .live, rst := 0 }
def BOOT_RAIL_RUN : Fld := { id := 918, blk := .boot, addr := 0x10014, stride := 0, count := 1, lsb := 4, width := 1, acc := .ro, cls := .live, rst := 0 }
def BOOT_RAIL_VALID : Fld := { id := 919, blk := .boot, addr := 0x10014, stride := 0, count := 1, lsb := 31, width := 1, acc := .ro, cls := .live, rst := 0 }
def BOOT_TIME_MS : Fld := { id := 920, blk := .boot, addr := 0x10018, stride := 0, count := 1, lsb := 0, width := 16, acc := .ro, cls := .live, rst := 0 }
def BOOT_CTRL_RESTART : Fld := { id := 921, blk := .boot, addr := 0x10020, stride := 0, count := 1, lsb := 0, width := 1, acc := .rwg, cls := .live, rst := 0 }
def BOOT_CTRL_PILOT : Fld := { id := 922, blk := .boot, addr := 0x10020, stride := 0, count := 1, lsb := 1, width := 1, acc := .rwg, cls := .live, rst := 0 }
/-- Rows of the BOOT tables. -/
def tblBOOT0 : List Fld :=
  [BOOT_STATUS_STAGE, BOOT_STATUS_DONE, BOOT_STATUS_PILOT, BOOT_STATUS_FAILCNT,
   BOOT_STATUS_STRAP, BOOT_LAST_KIND, BOOT_LAST_FCODE, BOOT_LAST_QDISC,
   BOOT_LAST_BOUNCE, BOOT_FAIL_STAGE, BOOT_FAIL_CODE, BOOT_PILOT_CAUSE,
   BOOT_HELD_MS, BOOT_RAIL_RAIL, BOOT_RAIL_RUN, BOOT_RAIL_VALID,
   BOOT_TIME_MS, BOOT_CTRL_RESTART, BOOT_CTRL_PILOT]

/-! GEN -/
def GEN_FAULT_STATUS_CODE : Fld := { id := 923, blk := .gen, addr := 0x100, stride := 0, count := 1, lsb := 0, width := 8, acc := .ro, cls := .live, rst := 0 }
def GEN_FAULT_STATUS_SEV : Fld := { id := 924, blk := .gen, addr := 0x100, stride := 0, count := 1, lsb := 8, width := 3, acc := .ro, cls := .live, rst := 0 }
def GEN_FAULT_STATUS_QLEVEL : Fld := { id := 925, blk := .gen, addr := 0x100, stride := 0, count := 1, lsb := 16, width := 5, acc := .ro, cls := .live, rst := 0 }
def GEN_FAULT_STATUS_NEST : Fld := { id := 926, blk := .gen, addr := 0x100, stride := 0, count := 1, lsb := 24, width := 2, acc := .ro, cls := .live, rst := 0 }
def GEN_FAULT_DT_DT : Fld := { id := 927, blk := .gen, addr := 0x104, stride := 0, count := 1, lsb := 0, width := 64, acc := .ro, cls := .live, rst := 0 }
def GEN_FAULT_INFO_CODE : Fld := { id := 928, blk := .gen, addr := 0x10C, stride := 0, count := 1, lsb := 0, width := 8, acc := .ro, cls := .live, rst := 0 }
def GEN_FAULT_INFO_SEV : Fld := { id := 929, blk := .gen, addr := 0x10C, stride := 0, count := 1, lsb := 8, width := 3, acc := .ro, cls := .live, rst := 0 }
def GEN_FAULT_INFO_SRC : Fld := { id := 930, blk := .gen, addr := 0x10C, stride := 0, count := 1, lsb := 12, width := 12, acc := .ro, cls := .live, rst := 0 }
def GEN_FAULT_INFO_REPEAT : Fld := { id := 931, blk := .gen, addr := 0x10C, stride := 0, count := 1, lsb := 24, width := 7, acc := .ro, cls := .live, rst := 0 }
def GEN_FAULT_INFO_VALID : Fld := { id := 932, blk := .gen, addr := 0x10C, stride := 0, count := 1, lsb := 31, width := 1, acc := .ro, cls := .live, rst := 0 }
def GEN_FAULT_RECLOST_COUNT : Fld := { id := 933, blk := .gen, addr := 0x110, stride := 0, count := 1, lsb := 0, width := 32, acc := .ro, cls := .live, rst := 0 }
def GEN_FAULT_BUSY_COUNT : Fld := { id := 934, blk := .gen, addr := 0x114, stride := 0, count := 1, lsb := 0, width := 32, acc := .ro, cls := .live, rst := 0 }
def GEN_FAULT_ACK_ACK : Fld := { id := 935, blk := .gen, addr := 0x118, stride := 0, count := 1, lsb := 0, width := 1, acc := .wo, cls := .live, rst := 0 }
def GEN_FP_TILE_US : Fld := { id := 936, blk := .gen, addr := 0x120, stride := 0, count := 1, lsb := 0, width := 16, acc := .rw, cls := .live, rst := 0x32 }
def GEN_FP_LNK_US : Fld := { id := 937, blk := .gen, addr := 0x124, stride := 0, count := 1, lsb := 0, width := 20, acc := .rw, cls := .live, rst := 0x3e8 }
def GEN_CLAMP_TILE : Fld := { id := 938, blk := .gen, addr := 0x128, stride := 0, count := 1, lsb := 0, width := 4, acc := .ro, cls := .live, rst := 0 }
def GEN_CLAMP_LNK : Fld := { id := 939, blk := .gen, addr := 0x128, stride := 0, count := 1, lsb := 8, width := 8, acc := .ro, cls := .live, rst := 0 }
def GEN_KVT_K : Fld := { id := 940, blk := .gen, addr := 0x12C, stride := 0, count := 1, lsb := 0, width := 16, acc := .ro, cls := .live, rst := 0x1000 }
def GEN_INT_FAULT : Fld := { id := 941, blk := .gen, addr := 0x140, stride := 0, count := 1, lsb := 0, width := 1, acc := .w1c, cls := .live, rst := 0 }
def GEN_INT_SEV34 : Fld := { id := 942, blk := .gen, addr := 0x140, stride := 0, count := 1, lsb := 1, width := 1, acc := .w1c, cls := .live, rst := 0 }
def GEN_INT_BUSY : Fld := { id := 943, blk := .gen, addr := 0x140, stride := 0, count := 1, lsb := 2, width := 1, acc := .w1c, cls := .live, rst := 0 }
def GEN_INT_CLAMP : Fld := { id := 944, blk := .gen, addr := 0x140, stride := 0, count := 1, lsb := 3, width := 1, acc := .w1c, cls := .live, rst := 0 }
def GEN_INT_STARTED : Fld := { id := 945, blk := .gen, addr := 0x140, stride := 0, count := 1, lsb := 4, width := 1, acc := .w1c, cls := .live, rst := 0 }
def GEN_INT_RESYNC : Fld := { id := 946, blk := .gen, addr := 0x140, stride := 0, count := 1, lsb := 5, width := 1, acc := .w1c, cls := .live, rst := 0 }
def GEN_INT_RETIRED : Fld := { id := 947, blk := .gen, addr := 0x140, stride := 0, count := 1, lsb := 6, width := 1, acc := .w1c, cls := .live, rst := 0 }
def GEN_INT_REFUSED : Fld := { id := 948, blk := .gen, addr := 0x140, stride := 0, count := 1, lsb := 7, width := 1, acc := .w1c, cls := .live, rst := 0 }
def GEN_INT_CNT_SAT : Fld := { id := 949, blk := .gen, addr := 0x140, stride := 0, count := 1, lsb := 8, width := 1, acc := .w1c, cls := .live, rst := 0 }
def GEN_INT_EN_EN : Fld := { id := 950, blk := .gen, addr := 0x144, stride := 0, count := 1, lsb := 0, width := 9, acc := .rw, cls := .live, rst := 0 }
def GEN_CNT_CLR_CLEAR : Fld := { id := 951, blk := .gen, addr := 0x148, stride := 0, count := 1, lsb := 0, width := 1, acc := .wo, cls := .live, rst := 0 }
def GEN_SERIAL_LO_SN : Fld := { id := 957, blk := .gen, addr := 0x200, stride := 0, count := 1, lsb := 0, width := 32, acc := .ro, cls := .live, rst := 0 }
def GEN_SERIAL_HI_SN : Fld := { id := 958, blk := .gen, addr := 0x204, stride := 0, count := 1, lsb := 0, width := 32, acc := .ro, cls := .live, rst := 0 }
def GEN_IDENT_ID : Fld := { id := 959, blk := .gen, addr := 0x208, stride := 0, count := 1, lsb := 0, width := 12, acc := .fuse, cls := .live, rst := 0 }
def GEN_IDENT_SET : Fld := { id := 960, blk := .gen, addr := 0x208, stride := 0, count := 1, lsb := 31, width := 1, acc := .ro, cls := .live, rst := 0 }
def GEN_ID_LEFT_LEFT : Fld := { id := 961, blk := .gen, addr := 0x20C, stride := 0, count := 1, lsb := 0, width := 1, acc := .ro, cls := .live, rst := 1 }
def GEN_SESS_CTRL_ROLE : Fld := { id := 962, blk := .gen, addr := 0x210, stride := 0, count := 1, lsb := 0, width := 3, acc := .wo, cls := .live, rst := 0 }
def GEN_SESS_CTRL_REQ : Fld := { id := 963, blk := .gen, addr := 0x210, stride := 0, count := 1, lsb := 4, width := 1, acc := .wo, cls := .live, rst := 0 }
def GEN_SESS_CTRL_CLOSE : Fld := { id := 964, blk := .gen, addr := 0x210, stride := 0, count := 1, lsb := 5, width := 1, acc := .wo, cls := .live, rst := 0 }
def GEN_SESS_STATUS_ROLE : Fld := { id := 965, blk := .gen, addr := 0x214, stride := 0, count := 1, lsb := 0, width := 3, acc := .ro, cls := .live, rst := 0 }
def GEN_SESS_STATUS_STATE : Fld := { id := 966, blk := .gen, addr := 0x214, stride := 0, count := 1, lsb := 4, width := 2, acc := .ro, cls := .live, rst := 0 }
def GEN_SESS_STATUS_ERR : Fld := { id := 967, blk := .gen, addr := 0x214, stride := 0, count := 1, lsb := 8, width := 4, acc := .ro, cls := .live, rst := 0 }
def GEN_SESS_STATUS_FAILS : Fld := { id := 968, blk := .gen, addr := 0x214, stride := 0, count := 1, lsb := 12, width := 4, acc := .ro, cls := .live, rst := 0 }
def GEN_SESS_STATUS_LOCK : Fld := { id := 969, blk := .gen, addr := 0x214, stride := 0, count := 1, lsb := 16, width := 16, acc := .ro, cls := .live, rst := 0 }
def GEN_SESS_CHAL_CHAL : Fld := { id := 970, blk := .gen, addr := 0x218, stride := 0, count := 1, lsb := 0, width := 64, acc := .ro, cls := .live, rst := 0 }
def GEN_SESS_RESP_RESP : Fld := { id := 971, blk := .gen, addr := 0x220, stride := 0, count := 1, lsb := 0, width := 64, acc := .wo, cls := .live, rst := 0 }
def GEN_SESS_CFG_IDLE : Fld := { id := 972, blk := .gen, addr := 0x228, stride := 0, count := 1, lsb := 0, width := 12, acc := .rwg, cls := .live, rst := 0x12c }
def GEN_KEY_STAGE_KEY : Fld := { id := 973, blk := .gen, addr := 0x230, stride := 4, count := 4, lsb := 0, width := 32, acc := .wo, cls := .live, rst := 0 }
def GEN_KEY_CMD_ROLE : Fld := { id := 974, blk := .gen, addr := 0x240, stride := 0, count := 1, lsb := 0, width := 3, acc := .wo, cls := .live, rst := 0 }
def GEN_KEY_CMD_CHK : Fld := { id := 975, blk := .gen, addr := 0x240, stride := 0, count := 1, lsb := 8, width := 16, acc := .wo, cls := .live, rst := 0 }
def GEN_KEY_CMD_PROG : Fld := { id := 976, blk := .gen, addr := 0x240, stride := 0, count := 1, lsb := 31, width := 1, acc := .fuse, cls := .live, rst := 0 }
def GEN_KEY_LEFT_LEFT : Fld := { id := 977, blk := .gen, addr := 0x244, stride := 0, count := 1, lsb := 0, width := 16, acc := .ro, cls := .live, rst := 0x8888 }
def GEN_AUD_STATUS_COUNT : Fld := { id := 978, blk := .gen, addr := 0x250, stride := 0, count := 1, lsb := 0, width := 13, acc := .ro, cls := .live, rst := 0 }
def GEN_AUD_STATUS_PEND : Fld := { id := 979, blk := .gen, addr := 0x250, stride := 0, count := 1, lsb := 16, width := 6, acc := .ro, cls := .live, rst := 0 }
def GEN_AUD_STATUS_SELVALID : Fld := { id := 980, blk := .gen, addr := 0x250, stride := 0, count := 1, lsb := 24, width := 1, acc := .ro, cls := .live, rst := 0 }
def GEN_AUD_NEWEST_SEQ : Fld := { id := 981, blk := .gen, addr := 0x254, stride := 0, count := 1, lsb := 0, width := 32, acc := .ro, cls := .live, rst := 0 }
def GEN_AUD_OLDEST_SEQ : Fld := { id := 982, blk := .gen, addr := 0x258, stride := 0, count := 1, lsb := 0, width := 32, acc := .ro, cls := .live, rst := 0 }
def GEN_AUD_SEL_SEQ : Fld := { id := 983, blk := .gen, addr := 0x25C, stride := 0, count := 1, lsb := 0, width := 32, acc := .rw, cls := .live, rst := 0 }
def GEN_AUD_DATA_BYTES : Fld := { id := 984, blk := .gen, addr := 0x260, stride := 4, count := 16, lsb := 0, width := 32, acc := .ro, cls := .live, rst := 0 }
def GEN_AUD_CHAIN_CHAIN : Fld := { id := 985, blk := .gen, addr := 0x2A0, stride := 4, count := 4, lsb := 0, width := 32, acc := .ro, cls := .live, rst := 0 }
def GEN_AUD_MARK_SEQ : Fld := { id := 986, blk := .gen, addr := 0x2B0, stride := 0, count := 1, lsb := 0, width := 32, acc := .rwg, cls := .live, rst := 0 }
def GEN_AUD_DROP_COUNT : Fld := { id := 987, blk := .gen, addr := 0x2B4, stride := 0, count := 1, lsb := 0, width := 32, acc := .ro, cls := .live, rst := 0 }
def GEN_SPARE_SEL_KIND : Fld := { id := 988, blk := .gen, addr := 0x300, stride := 0, count := 1, lsb := 0, width := 4, acc := .rw, cls := .live, rst := 1 }
def GEN_SPARE_INFO_TOTAL : Fld := { id := 989, blk := .gen, addr := 0x304, stride := 0, count := 1, lsb := 0, width := 16, acc := .ro, cls := .live, rst := 0, sel := 988, bank := 14, rstTab := [0, 16384, 8, 192, 48, 8, 4, 2, 2, 2, 1, 256, 0, 1] }
def GEN_SPARE_INFO_USED : Fld := { id := 990, blk := .gen, addr := 0x304, stride := 0, count := 1, lsb := 16, width := 16, acc := .ro, cls := .live, rst := 0, sel := 988, bank := 14 }
def GEN_SPARE_THR_THR : Fld := { id := 991, blk := .gen, addr := 0x308, stride := 0, count := 1, lsb := 0, width := 16, acc := .rwg, cls := .live, rst := 0, sel := 988, bank := 14 }
def GEN_SPARE_CFG_RETEST : Fld := { id := 992, blk := .gen, addr := 0x30C, stride := 0, count := 1, lsb := 1, width := 13, acc := .rwg, cls := .live, rst := 0x1fff }
def GEN_WEAR_SEL_MON : Fld := { id := 993, blk := .gen, addr := 0x310, stride := 0, count := 1, lsb := 0, width := 4, acc := .rw, cls := .live, rst := 0 }
def GEN_WEAR_VAL_VAL : Fld := { id := 994, blk := .gen, addr := 0x314, stride := 0, count := 1, lsb := 0, width := 32, acc := .ro, cls := .live, rst := 0, sel := 993, bank := 10 }
def GEN_WEAR_THR_THR : Fld := { id := 995, blk := .gen, addr := 0x318, stride := 0, count := 1, lsb := 0, width := 32, acc := .rwg, cls := .live, rst := 0, sel := 993, bank := 10, rstTab := [8000000, 8000000, 8000000, 8000000, 800000, 84000, 84000, 40000, 8000, 80000] }
def GEN_WEAR_RATED_RATED : Fld := { id := 996, blk := .gen, addr := 0x31C, stride := 0, count := 1, lsb := 0, width := 32, acc := .ro, cls := .live, rst := 0, sel := 993, bank := 10, rstTab := [10000000, 10000000, 10000000, 10000000, 1000000, 105192, 105192, 50000, 10000, 100000] }
def GEN_SVC_INT_WEAR : Fld := { id := 997, blk := .gen, addr := 0x320, stride := 0, count := 1, lsb := 0, width := 1, acc := .w1c, cls := .live, rst := 0 }
def GEN_SVC_INT_SPARE_LOW : Fld := { id := 998, blk := .gen, addr := 0x320, stride := 0, count := 1, lsb := 1, width := 1, acc := .w1c, cls := .live, rst := 0 }
def GEN_SVC_INT_AUD_NEAR : Fld := { id := 999, blk := .gen, addr := 0x320, stride := 0, count := 1, lsb := 2, width := 1, acc := .w1c, cls := .live, rst := 0 }
def GEN_SVC_INT_AUD_ERR : Fld := { id := 1000, blk := .gen, addr := 0x320, stride := 0, count := 1, lsb := 3, width := 1, acc := .w1c, cls := .live, rst := 0 }
def GEN_SVC_INT_AUD_DROP : Fld := { id := 1001, blk := .gen, addr := 0x320, stride := 0, count := 1, lsb := 4, width := 1, acc := .w1c, cls := .live, rst := 0 }
def GEN_SVC_INT_SESSION : Fld := { id := 1002, blk := .gen, addr := 0x320, stride := 0, count := 1, lsb := 5, width := 1, acc := .w1c, cls := .live, rst := 0 }
def GEN_SVC_INT_LOCKOUT : Fld := { id := 1003, blk := .gen, addr := 0x320, stride := 0, count := 1, lsb := 6, width := 1, acc := .w1c, cls := .live, rst := 0 }
def GEN_SVC_INT_CNT_SAT : Fld := { id := 1004, blk := .gen, addr := 0x320, stride := 0, count := 1, lsb := 7, width := 1, acc := .w1c, cls := .live, rst := 0 }
def GEN_SVC_INT_EN_EN : Fld := { id := 1005, blk := .gen, addr := 0x324, stride := 0, count := 1, lsb := 0, width := 8, acc := .rw, cls := .live, rst := 0 }
def GEN_VFE_SET : Fld := { id := 1006, blk := .gen, addr := 0x400, stride := 0, count := 1, lsb := 0, width := 8, acc := .rw, cls := .live, rst := 0x64 }
def GEN_VFE_STATUS_MEAS : Fld := { id := 1007, blk := .gen, addr := 0x404, stride := 0, count := 1, lsb := 0, width := 8, acc := .ro, cls := .live, rst := 0 }
def GEN_VFE_STATUS_PHASES : Fld := { id := 1008, blk := .gen, addr := 0x404, stride := 0, count := 1, lsb := 8, width := 4, acc := .ro, cls := .live, rst := 0 }
def GEN_VFE_STATUS_CLAMPED : Fld := { id := 1009, blk := .gen, addr := 0x404, stride := 0, count := 1, lsb := 12, width := 1, acc := .ro, cls := .live, rst := 0 }
def GEN_VFE_STATUS_RAMP : Fld := { id := 1010, blk := .gen, addr := 0x404, stride := 0, count := 1, lsb := 13, width := 1, acc := .ro, cls := .live, rst := 0 }
def GEN_TJ_TEMP : Fld := { id := 1011, blk := .gen, addr := 0x408, stride := 4, count := 4, lsb := 0, width := 16, acc := .ro, cls := .live, rst := 0 }
def GEN_TJ4_TEMP : Fld := { id := 1012, blk := .gen, addr := 0x418, stride := 0, count := 1, lsb := 0, width := 16, acc := .ro, cls := .live, rst := 0 }
def GEN_PWR_MW10 : Fld := { id := 1013, blk := .gen, addr := 0x41C, stride := 0, count := 1, lsb := 0, width := 16, acc := .ro, cls := .live, rst := 0 }
/-- Rows of the GEN tables. -/
def tblGEN0 : List Fld :=
  [GEN_FAULT_STATUS_CODE, GEN_FAULT_STATUS_SEV, GEN_FAULT_STATUS_QLEVEL, GEN_FAULT_STATUS_NEST,
   GEN_FAULT_DT_DT, GEN_FAULT_INFO_CODE, GEN_FAULT_INFO_SEV, GEN_FAULT_INFO_SRC,
   GEN_FAULT_INFO_REPEAT, GEN_FAULT_INFO_VALID, GEN_FAULT_RECLOST_COUNT, GEN_FAULT_BUSY_COUNT,
   GEN_FAULT_ACK_ACK, GEN_FP_TILE_US, GEN_FP_LNK_US, GEN_CLAMP_TILE,
   GEN_CLAMP_LNK, GEN_KVT_K, GEN_INT_FAULT, GEN_INT_SEV34,
   GEN_INT_BUSY, GEN_INT_CLAMP, GEN_INT_STARTED, GEN_INT_RESYNC]
/-- Rows of the GEN tables. -/
def tblGEN1 : List Fld :=
  [GEN_INT_RETIRED, GEN_INT_REFUSED, GEN_INT_CNT_SAT, GEN_INT_EN_EN,
   GEN_CNT_CLR_CLEAR, GEN_SERIAL_LO_SN, GEN_SERIAL_HI_SN, GEN_IDENT_ID,
   GEN_IDENT_SET, GEN_ID_LEFT_LEFT, GEN_SESS_CTRL_ROLE, GEN_SESS_CTRL_REQ,
   GEN_SESS_CTRL_CLOSE, GEN_SESS_STATUS_ROLE, GEN_SESS_STATUS_STATE, GEN_SESS_STATUS_ERR,
   GEN_SESS_STATUS_FAILS, GEN_SESS_STATUS_LOCK, GEN_SESS_CHAL_CHAL, GEN_SESS_RESP_RESP,
   GEN_SESS_CFG_IDLE, GEN_KEY_STAGE_KEY, GEN_KEY_CMD_ROLE, GEN_KEY_CMD_CHK]
/-- Rows of the GEN tables. -/
def tblGEN2 : List Fld :=
  [GEN_KEY_CMD_PROG, GEN_KEY_LEFT_LEFT, GEN_AUD_STATUS_COUNT, GEN_AUD_STATUS_PEND,
   GEN_AUD_STATUS_SELVALID, GEN_AUD_NEWEST_SEQ, GEN_AUD_OLDEST_SEQ, GEN_AUD_SEL_SEQ,
   GEN_AUD_DATA_BYTES, GEN_AUD_CHAIN_CHAIN, GEN_AUD_MARK_SEQ, GEN_AUD_DROP_COUNT,
   GEN_SPARE_SEL_KIND, GEN_SPARE_INFO_TOTAL, GEN_SPARE_INFO_USED, GEN_SPARE_THR_THR,
   GEN_SPARE_CFG_RETEST, GEN_WEAR_SEL_MON, GEN_WEAR_VAL_VAL, GEN_WEAR_THR_THR,
   GEN_WEAR_RATED_RATED, GEN_SVC_INT_WEAR, GEN_SVC_INT_SPARE_LOW, GEN_SVC_INT_AUD_NEAR]
/-- Rows of the GEN tables. -/
def tblGEN3 : List Fld :=
  [GEN_SVC_INT_AUD_ERR, GEN_SVC_INT_AUD_DROP, GEN_SVC_INT_SESSION, GEN_SVC_INT_LOCKOUT,
   GEN_SVC_INT_CNT_SAT, GEN_SVC_INT_EN_EN, GEN_VFE_SET, GEN_VFE_STATUS_MEAS,
   GEN_VFE_STATUS_PHASES, GEN_VFE_STATUS_CLAMPED, GEN_VFE_STATUS_RAMP, GEN_TJ_TEMP,
   GEN_TJ4_TEMP, GEN_PWR_MW10]

/-! LIF -/
def LIF_STATUS_CORE : Fld := { id := 952, blk := .lif, addr := 0x20000, stride := 0, count := 1, lsb := 0, width := 8, acc := .ro, cls := .live, rst := 0 }
def LIF_STATUS_MODE : Fld := { id := 953, blk := .lif, addr := 0x20000, stride := 0, count := 1, lsb := 8, width := 2, acc := .ro, cls := .live, rst := 0 }
def LIF_RESYNC_COUNT : Fld := { id := 954, blk := .lif, addr := 0x20004, stride := 0, count := 1, lsb := 0, width := 32, acc := .ro, cls := .live, rst := 0 }
def LIF_LAST_CORE : Fld := { id := 955, blk := .lif, addr := 0x20008, stride := 0, count := 1, lsb := 0, width := 2, acc := .ro, cls := .live, rst := 0 }
def LIF_LAST_HS : Fld := { id := 956, blk := .lif, addr := 0x20008, stride := 0, count := 1, lsb := 4, width := 2, acc := .ro, cls := .live, rst := 0 }
/-- Rows of the LIF tables. -/
def tblLIF0 : List Fld :=
  [LIF_STATUS_CORE, LIF_STATUS_MODE, LIF_RESYNC_COUNT, LIF_LAST_CORE,
   LIF_LAST_HS]

end Sys2Proof.Machine.Reg

namespace Sys2Proof.Machine

/-- Every field of every register table. -/
def regTable : List Fld :=
  Reg.tblTIL0 ++ Reg.tblTIL1 ++ Reg.tblTIL2 ++ Reg.tblTIL3 ++ Reg.tblTIL4 ++ Reg.tblTIL5 ++
  Reg.tblTIM0 ++ Reg.tblTIM1 ++ Reg.tblTIM2 ++ Reg.tblTIM3 ++ Reg.tblEVT0 ++ Reg.tblEVT1 ++
  Reg.tblCLU0 ++ Reg.tblCLU1 ++ Reg.tblTRG0 ++ Reg.tblTRG1 ++ Reg.tblTRG2 ++ Reg.tblTRG3 ++
  Reg.tblTRG4 ++ Reg.tblFAB0 ++ Reg.tblFAB1 ++ Reg.tblFAB2 ++ Reg.tblTDC0 ++ Reg.tblTDC1 ++
  Reg.tblAUX0 ++ Reg.tblAUX1 ++ Reg.tblAUX2 ++ Reg.tblCTL0 ++ Reg.tblCTL1 ++ Reg.tblCTL2 ++
  Reg.tblSAF0 ++ Reg.tblSAF1 ++ Reg.tblSAF2 ++ Reg.tblSAF3 ++ Reg.tblLNK0 ++ Reg.tblLNK1 ++
  Reg.tblLNK2 ++ Reg.tblLNK3 ++ Reg.tblHST0 ++ Reg.tblHST1 ++ Reg.tblHST2 ++ Reg.tblCMP0 ++
  Reg.tblCMP1 ++ Reg.tblMEM0 ++ Reg.tblMEM1 ++ Reg.tblMEM2 ++ Reg.tblMEM3 ++ Reg.tblBOOT0 ++
  Reg.tblGEN0 ++ Reg.tblGEN1 ++ Reg.tblGEN2 ++ Reg.tblGEN3 ++ Reg.tblLIF0

end Sys2Proof.Machine
end

