-- ==== Sys2Proof/Machine/SMap.lean ====
section
/-! DEFINITION. Machine/SMap.lean: sparse maps as lists of (key, value) in one canonical form: keys strictly rising,
and no entry that holds what an unlisted key reads as. The register file, buffer memory and every table of like units
use it. -/

namespace Sys2Proof.Machine

/-- What the map reads at a key: the listed value, or `d` where none is listed. -/
def SMap.get {κ β : Type} [DecidableEq κ] (d : β) : List (κ × β) → κ → β
  | [], _ => d
  | (k', v) :: m, k => if k = k' then v else SMap.get d m k

/-- The map without the key. -/
def SMap.erase {κ β : Type} [DecidableEq κ] (m : List (κ × β)) (k : κ) : List (κ × β) :=
  m.filter fun e => decide (e.1 ≠ k)

/-- The entry put in its place by the order `lt`, in a map that does not list its key. -/
def SMap.insert {κ β : Type} (lt : κ → κ → Bool) (k : κ) (v : β) : List (κ × β) → List (κ × β)
  | [] => [(k, v)]
  | e :: m => if lt k e.1 then (k, v) :: e :: m else e :: SMap.insert lt k v m

/-- Write a key: an entry that would hold the default is not listed. -/
def SMap.set {κ β : Type} [DecidableEq κ] [DecidableEq β] (lt : κ → κ → Bool) (d : β)
    (m : List (κ × β)) (k : κ) (v : β) : List (κ × β) :=
  if v = d then SMap.erase m k else SMap.insert lt k v (SMap.erase m k)

/-- Keys strictly rise. -/
abbrev SMap.Sorted {κ β : Type} (lt : κ → κ → Bool) (m : List (κ × β)) : Prop :=
  m.Pairwise fun a b => lt a.1 b.1 = true

/-- The order of plain numeric keys. -/
def natLt (a b : Nat) : Bool := Nat.blt a b

/-- Read of a map with numeric keys. -/
abbrev NMap (β : Type) := List (Nat × β)

/-- Write of a map with numeric keys and default `d`. -/
def NMap.set {β : Type} [DecidableEq β] (d : β) (m : NMap β) (k : Nat) (v : β) : NMap β :=
  SMap.set natLt d m k v

/-- Read of a map with numeric keys and default `d`. -/
def NMap.get {β : Type} (d : β) (m : NMap β) (k : Nat) : β := SMap.get d m k

/-- Change one entry of a map with numeric keys. -/
def NMap.modify {β : Type} [DecidableEq β] (d : β) (m : NMap β) (k : Nat) (f : β → β) : NMap β :=
  m.set d k (f (m.get d k))

/-- One key of the register file: a field (its number in the register tables), the instance it belongs to (tile, queue,
slot, port, stream ...) and the bank a selection register reaches it through. -/
structure RKey where
  f : Nat
  i : Nat
  j : Nat
  deriving DecidableEq, Repr

/-- The order of register keys: field, then instance, then bank. -/
def RKey.lt (a b : RKey) : Bool :=
  Nat.blt a.f b.f || (a.f == b.f && (Nat.blt a.i b.i || (a.i == b.i && Nat.blt a.j b.j)))

/-- The register file: the value of every field instance that differs from its reset value. -/
abbrev RegMap := List (RKey × Nat)

end Sys2Proof.Machine
end

