-- ==== Sys2Proof/Machine/State.lean ====
section
/-! DEFINITION. Machine/State.lean: the state of the Limou module as plain data. Register fields live in one register
file (`regs`, with the pending shadow copies of staged fields in `shadow`); what the manual gives the machine beside its
registers stands in one structure per chapter. -/

namespace Sys2Proof.Machine

/-- Why a step stops with a fault: no command of this block does, since no effect the manual states is a stop of the
machine itself (every fault of the module, R499, is an effect on its state). The one constructor names the stop a
reader would expect and is raised by nothing. Safe. -/
inductive Fault where
  /-- Raised by no command. Safe: it only says that no command stops the machine. -/
  | none
  deriving DecidableEq, Repr

/-- Why a command has no meaning. -/
inductive Refusal where
  /-- A command of the table that has no meaning yet, by its mnemonic; raised by an arm of exec alone. Safe. -/
  | notModelled (mnemonic : String)
  /-- An ill-formed command: it names a unit the module does not have (a tile above 3, a queue above 63 ...), or carries a register value
  that is another command's. No such operation exists. Raised by the meanings with such operands, and exactly when an operand is out of
  range. Safe. -/
  | noSuchUnit
  deriving DecidableEq, Repr

/-! ## The module: resets, rails, pins (chapters 1 and 17) -/

/-- Where the module stands between power-on and operation (R482 to R494). -/
inductive Phase where
  /-- VAUX below 3.0 V: the always-on domain is lost (R483). -/
  | dead
  /-- In reset; a start begins when every hold has ended and RESET_N has settled (R485). -/
  | reset
  /-- A start runs; BOOT_STATUS.STAGE gives the stage (R488). -/
  | starting
  /-- Stage 10 reached. -/
  | running
  /-- Pilot-light mode (R493). -/
  | pilot
  /-- The 100 ms hold after a failed start (R491). -/
  | failHold
  deriving DecidableEq, Repr

/-- What holds the module in reset beside RESET_N itself. -/
structure Holds where
  /-- TEST_MODE was high at the rise of RESET_N (R34). -/
  testMode : Bool := false
  /-- EXTEST, CLAMP or HIGHZ is the current instruction and was loaded with RESET_N high (R36). -/
  scan : Bool := false
  /-- A rail is not yet in range (R30, R503). -/
  rail : Bool := false
  /-- Fault 0x02: REFCLK is not back in range (R503). -/
  refclk : Bool := false
  deriving DecidableEq, Repr

/-- The module's phase, pins and always-on domain beside the BOOT registers (R483). -/
structure Sys where
  phase : Phase := .reset
  /-- Rails in their operating range (R26). -/
  rails : List Rail := []
  /-- The level of RESET_N as the always-on filter has accepted it (R484). -/
  rstN : Bool := false
  /-- REFCLK within its tolerance. -/
  refclkOk : Bool := true
  holds : Holds := {}
  /-- The current boundary-scan instruction, and what the boundary cells hold (R35). -/
  jtag : JtagInstr := .idcode
  cells : List Bool := []
  /-- The next start enters pilot-light mode because BOOT_CTRL.PILOT was written (R495). -/
  pilotReq : Bool := false
  /-- The next start was requested through BOOT_CTRL.RESTART (R492). -/
  restartReq : Bool := false
  /-- FAULT_N is held low by a fault of severity 3 or 4 (R502). -/
  faultLow : Bool := false
  /-- DT_REF at which stage 10 was reached, while the 60 s of R491 and R492 run. -/
  since10 : Option Nat := none
  /-- Fault 0x0A is in force: discriminators gated and VFE at 0.70 V (R499). -/
  hot : Bool := false
  /-- The levels the balls I2C_ADDR1 and I2C_ADDR0 are tied to (R32), both low in State.reset (DESIGN CHOICE 0, log entry 190), and the I2C
  register pointer (R508). -/
  i2cStrap : Nat := 0
  i2cPtr : Nat := 0
  /-- The set-point VFE ramps to or holds, coded as GEN_VFE.SET; none while the regulator is off (R27, R536). -/
  vfe : Option Nat := none
  /-- The lowest set-point left behind by the ramp under way, or by one that ended after the last evaluation (R536). -/
  vfeOld : Option Nat := none
  /-- VFE and DT_REF at the start of the latest ramp (R536). -/
  rampFrom : Nat := 0
  rampAt : Nat := 0
  /-- The image's VFE start value, read in stage 4 (R548). -/
  vfeStart : Nat := 0x64
  /-- The slot of a trial request used in this start (R256). -/
  trialSlot : Option Nat := none
  /-- Slots tried in this start (R490). -/
  tried : List Nat := []
  /-- DT_REF at which the stage under way began (R488). -/
  stageAt : Nat := 0
  /-- Units retested in this start, by pool kind (R515). -/
  retested : List (Nat × Nat) := []
  /-- Tiles whose control, reference or guard group has no spare left for a failed via (R513). -/
  viaDead : List Nat := []
  deriving DecidableEq, Repr

/-- One fault, as its record holds it (R501, R510). -/
structure FaultRec where
  dt : Nat
  code : Nat
  sev : Nat
  src : Nat
  rep : Nat := 0
  deriving DecidableEq, Repr

/-- The fault handler (R500, R501). -/
structure Flt where
  under : Option FaultRec := none
  preempted : List FaultRec := []
  queue : List FaultRec := []
  fifo : List FaultRec := []
  deriving DecidableEq, Repr

/-- One lamplighter core (R496, R497). -/
structure Core4 where
  /-- DT_REF of the resynchronisations of the last second. -/
  resyncs : List Nat := []
  deriving DecidableEq, Repr

/-! ## Identity, sessions, audit log, wear (chapter 18) -/

/-- One entry of the audit log (R526). -/
structure AudEntry where
  seq : Nat := 0
  start : Nat := 0
  kind : Nat := 0
  result : Nat := 0
  dt : Nat := 0
  etSec : Nat := 0
  role : Nat := 0
  etValid : Bool := false
  etNs : Nat := 0
  target : Nat := 0
  old : Nat := 0
  new : Nat := 0
  arg : Nat := 0
  chain : Nat := 0
  deriving DecidableEq, Repr

/-- An entry that waits in the always-on queue, with the guarded write that waits for it: its BAR0 offset and value
(R528). -/
structure AudWait where
  entry : AudEntry
  write : Option (Nat × Nat) := none
  deriving DecidableEq, Repr

/-- The always-on audit queue (R528). -/
structure Aud where
  queue : List AudWait := []
  /-- Entries lost since room last returned. -/
  lost : Nat := 0
  deriving DecidableEq, Repr

/-- The role session (R520, R521); its status registers are in the register file. -/
structure Sess where
  /-- The role a challenge was issued to. -/
  chalRole : Nat := 0
  /-- DT_REF at which the challenge was issued. -/
  chalAt : Nat := 0
  /-- DT_REF of the last write to a field of the session's role. -/
  lastWrite : Nat := 0
  /-- DT_REF from which a lockout counts its seconds. -/
  lockAt : Nat := 0
  deriving DecidableEq, Repr

/-- The wear totals of R516: values in the units of its table; the equivalent hours of monitors 5 and 6 in units of
2^-40 h. -/
structure Wear where
  dose : List Nat := [0, 0, 0, 0, 0]
  hours : List Nat := [0, 0]
  powerOns : Nat := 0
  swings : Nat := 0
  erases : Nat := 0
  deriving DecidableEq, Repr

/-- How the junction temperature of the hottest die has moved since its last turning point, in 1/16 degree: the lowest and
highest seen, and whether the last swing of 40 K rose (1) or fell (2) (R516). -/
structure Swing where
  lo : Option Int := none
  hi : Option Int := none
  dir : Nat := 0
  deriving DecidableEq, Repr

/-- The live wear monitors: totals, the swing under way, and the edges from which the next minute, the next 600 s and the next hour of running
count (R516). -/
structure Svc where
  wear : Wear := {}
  swing : Swing := {}
  minuteAt : Nat := 0
  doseAt : Nat := 0
  saveAt : Nat := 0
  deriving DecidableEq, Repr

/-! ## Pixels and sconces (chapter 2) -/

/-- A pixel's configuration: the three copies of its active and of its shadow word (R45, R46), and whether a staged word
waits: 0 none, 1 held by HOLD, 2 committed at the next epoch boundary (R50). -/
structure Pix where
  act : List Nat := [0x80800000, 0x80800000, 0x80800000]
  shd : List Nat := [0x80800000, 0x80800000, 0x80800000]
  staged : Nat := 0
  deriving DecidableEq, Repr

/-- A hit in flight: its pixel in the sconce, the DT_REF of the edge before it, what its configuration word and the
arbiter said at that edge, its leading time in flame bins, and its trailing edge in half picoseconds of the tile's coarse count
(R53 to R60). -/
structure Hit where
  pix : Nat
  start : Nat
  toff : Int := 0
  tp : Bool := false
  cont : Bool := false
  lead : Option Int := none
  poison : Bool := false
  fall : Option Nat := none
  deriving DecidableEq, Repr

/-- A word on the column bus and beyond (R87). -/
structure TWord where
  data : Nat
  loss : Bool := false
  poison : Bool := false
  deriving DecidableEq, Repr

/-- A formed hit word in its slot. -/
structure Ready where
  pix : Nat
  word : TWord
  deriving DecidableEq, Repr

/-- What a flame is doing, as TIL_FLAME_INFO codes it (R81). -/
inductive FlameSt where
  | active | calibrating | standby | failed
  deriving DecidableEq, Repr

/-- A flame. Coefficients (PERIOD, OFFSET) are in 1/8 count; none stands for those the tile's first calibration gave. -/
structure Flame where
  st : FlameSt := .active
  /-- It has passed and waits for its position (R69). -/
  passed : Bool := false
  coef : Option (Nat × Nat) := none
  fails : Nat := 0
  /-- DT_REF at which its calibration began. -/
  cal : Option Nat := none
  /-- A calibration R59 demands is owed. -/
  owed : Bool := false
  run : Option Hit := none
  deriving DecidableEq, Repr

/-- The registers of one loss kind (R68): the open episode (first loss, count), the output register (start, length, count) and
the accumulating register (first loss, last loss, count). -/
structure LossReg where
  open_ : Option (Nat × Nat) := none
  pix : List Nat := []
  out : Option (Nat × Nat × Nat) := none
  acc : Option (Nat × Nat × Nat) := none
  deriving DecidableEq, Repr

/-- A sconce: flames F0 to F3 and R, the flame in each position, the position R has for good, the rota's turn, the arbiter
nodes that grant their upper input next, the word slots, and the loss registers of kinds 1 to 4. -/
structure Sconce where
  fl : List Flame := [{}, {}, {}, {}, { st := .standby }]
  pos : List (Option Nat) := [some 0, some 1, some 2, some 3]
  rHome : Option Nat := none
  turn : Nat := 0
  taken : Nat := 0
  arb : List Nat := []
  /-- When the arbiter's last grant is over, in half picoseconds of DT (R55). -/
  arbFree : Nat := 0
  wait : List Hit := []
  ready : List Ready := []
  loss : List LossReg := [{}, {}, {}, {}]
  /-- Blanks of this sconce's own pixels: the DT_REF of the commit and the pixels (R51). -/
  blanks : List (Nat × List Nat) := []
  /-- Edges each running blank suppressed. -/
  blankCnt : List (Nat × Nat) := []
  /-- Every blank that began before this DT_REF has ended. -/
  blankDone : Nat := 0
  /-- Running blanks that entered the accumulating register of kind 4 when they began (R68). -/
  merged : List Nat := []
  deriving DecidableEq, Repr

/-- A test-pulse train: pulses left, spacing and the next due edge (R42). -/
structure Train where
  left : Nat
  period : Nat
  next : Nat
  deriving DecidableEq, Repr

/-- A test-pulse injection: its reference edge, its delay after it in flame bins, and its charge in electrons (R42). -/
structure Inj where
  edge : Nat
  bins : Nat
  charge : Nat
  deriving DecidableEq, Repr

/-- One tile beside its registers. -/
structure Tile where
  train : Option Train := none
  /-- The newest two injections, newest first. -/
  inj : List Inj := []
  /-- The first edge at which the first calibration that is due may begin, and the edge at which the one under way began (R75). -/
  firstDue : Option Nat := none
  firstCal : Option Nat := none
  /-- Coefficients of the last first calibration, in 1/8 count. -/
  coef : Nat × Nat := (0, 0)
  /-- The rota: last due edge, next due edge, and steps fallen due since the first calibration (R69). -/
  rotaLast : Nat := 0
  rotaNext : Option Nat := none
  rotaDue : Nat := 0
  /-- The edges at which the discriminators last opened and last closed (R51, R78). -/
  openFrom : Nat := 0
  openTill : Nat := 0
  /-- Commits that changed TIL_THR, which blank every pixel of the tile (R51). -/
  blanks : List Nat := []
  fails : List (Nat × Nat × Nat) := []
  ovf : Bool := false
  ovfClear : Bool := false
  deriving DecidableEq, Repr

/-- The configuration-stream port beside its registers (R47 to R49): the words of the stream in progress, newest first. -/
structure Pcs where
  words : List Nat := []
  deriving DecidableEq, Repr

structure Til where
  /-- Pixels by tile * 2^18 + row * 512 + column. -/
  pix : NMap Pix := []
  /-- Sconces by tile * 4096 + index. -/
  sc : NMap Sconce := []
  t : List Tile := [{}, {}, {}, {}]
  pcs : Pcs := {}
  deriving DecidableEq, Repr

/-! ## Transport (chapter 3) -/

/-- Where the sender of a hop has its word: the stage above (or stage 0, for the foot), a loss register of the sconce beside the stage, or
that sconce's oldest hit word (R62, R88). -/
inductive HopSrc where
  | up
  | loss (kind : Nat)
  | hit
  deriving DecidableEq, Repr

/-- One column bus: stage latches, each stage's row set, the foot FIFO, whether it has failed, and by receiver (0 the foot, j + 1 stage j)
the word a NAK has turned away, which runs again, with its run of NAKs (R86 to R92). -/
structure ColBus where
  st : NMap (Option TWord) := []
  rows : NMap (List Nat) := []
  naks : NMap (Option (HopSrc × Nat)) := []
  foot : List TWord := []
  failed : Bool := false
  deriving DecidableEq, Repr

/-- The column side of a tile's transport: buses by number (64 and 65 are spares A and B), the switch under way, spare requests
with the edge of their column's failure, and whether each spare has failed (R108 to R110). -/
structure Cols where
  bus : NMap ColBus := []
  switching : List Nat := []
  reqs : List (Nat × Nat) := []
  spareDead : List Nat := []
  deriving DecidableEq, Repr

/-- A flit latched by the receiver and not yet checked, with the count of resends before it was sent. -/
structure Latched where
  flit : Nat
  gen : Nat
  deriving DecidableEq, Repr

/-- The value of the link-state channel of a bundle, which the concentrator drives (R96). -/
inductive LinkState where
  | run | test | switch | halt
  deriving DecidableEq, Repr

/-- A tile's bundle, both ends (R93 to R103). -/
structure Bundle where
  /-- The link-state channel; TEST until the via test of the start passes (DESIGN CHOICE, log entry 171). -/
  link : LinkState := .test
  /-- The words of the flit that the merger has formed and the bundle has not taken (R106). -/
  formed : List TWord := []
  /-- Flits the transmitter holds without an answer, all sent at least once, and how many of them it has sent since the last resend. -/
  held : List Nat := []
  sent : Nat := 0
  gen : Nat := 0
  seq : Nat := 1
  /-- The foot the merger served last; foot 0 is the first it visits after reset (DESIGN CHOICE, log entry 172). -/
  lastFoot : Nat := 65
  latched : List Latched := []
  tokens : List Bool := []
  /-- Failures of the oldest flit in a row, and the count of resends of the flits that the receiver discards until it comes again. -/
  fails : Nat := 0
  skip : Option Nat := none
  /-- Since when the tile wait has run (R504). -/
  waitFrom : Option Nat := none
  /-- The third failure of a flit calls for a via test (R99). -/
  due : Bool := false
  /-- A via test runs (R99), or is owed at the next write of EN = 1 (R101). -/
  test : Bool := false
  owed : Bool := false
  /-- A bundle gap is open until a flit passes. -/
  gap : Bool := false
  /-- Checked flits: the words of each still to be taken (R102). -/
  words : List (List TWord) := []
  /-- Since when the word at the port has waited, and what a drain has discarded: earliest and latest time, and how many words (R103). -/
  since : Nat := 0
  drain : Bool := false
  drained : Option (Nat × Nat × Nat) := none
  deriving DecidableEq, Repr

structure Xport where
  cols : List Cols := [{}, {}, {}, {}]
  bnd : List Bundle := [{}, {}, {}, {}]
  deriving DecidableEq, Repr

/-! ## Time (chapter 4) -/

/-- The discipline beside the TIM registers. Times in ps are signed. -/
structure Tim where
  /-- Runs of consecutive qualified samples (R124). -/
  qualRun : Nat := 0
  lockRun : Nat := 0
  unlockRun : Nat := 0
  /-- The servo's integral part, in 2^-16 ppm (R127). -/
  integ : Int := 0
  /-- Masters heard on the domain, each with the edge of its last Announce; the clock identity selected, and the one selected last
  (R132, R133). -/
  masters : List (Master × Nat) := []
  selected : Option Nat := none
  lastMaster : Option Nat := none
  /-- The edge of the last sample, and the log2 of the Sync interval in s, once a Sync has told it (R133). -/
  sampleAt : Nat := 0
  syncLog : Option Int := none
  /-- The rate against REFCLK, in 2^-16 ppm, of the recovered layer-1 clock or of the 10 MHz input, as last measured; none with the input
  absent (R133, R134). -/
  synRate : Option Int := none
  /-- Since when the servo has demanded |y| above 200 ppm (R128). -/
  rateSince : Option Nat := none
  /-- A Sync that waits for its Follow_Up: receipt time in ps of ET, and the correction it carried. -/
  syncRx : Option Int := none
  /-- The Delay_Req under way: its send time in ps of ET. -/
  dreqTx : Option Int := none
  /-- The edge at which the last Delay_Req was sent (R133). -/
  dreqAt : Option Nat := none
  /-- The latest completed exchange: Delay_Resp receive stamp minus Delay_Req send stamp, in ps (t4 - t3). -/
  delayExch : Option Int := none
  /-- PPS: the last accepted edge in ps of DT, and the run of missing or rejected edges (R134). -/
  ppsLast : Option Nat := none
  ppsBad : Nat := 0
  /-- TIM_PPS_OUT is high, since this DT_REF (R135). -/
  ppsOut : Option Nat := none
  /-- The ET second at which TIM_PPS_OUT last rose. -/
  ppsOutSec : Option Nat := none
  /-- The port LANTERN follows (R136). -/
  port : Option Nat := none
  /-- Ports whose LT is valid, and the offset O_p of each in ps (R119). -/
  ltValid : List Nat := []
  ltOff : NMap Int := []
  /-- Ports whose offset has been reported above the threshold (R119). -/
  disagree : List Nat := []
  /-- The delay each tile's line is moving to, in 0.5 ps (R138). -/
  skewTarget : List Nat := [0, 0, 0, 0]
  /-- Epoch of the last recalibration (R138). -/
  skewEpoch : Nat := 0
  /-- Delay requests sent, ARP answers given. -/
  sentDelayReq : Nat := 0
  sentArp : Nat := 0
  deriving DecidableEq, Repr

/-! ## Streams and the event path (chapter 5, R428 to R431) -/

/-- An item for a packet: its words with their poison tags, the epoch a hit or record lies in, and its first and last full
time in ref (R166 to R172, R430). -/
structure SItem where
  words : List (Nat × Bool)
  epoch : Option Nat := none
  lo : Nat := 0
  hi : Nat := 0
  deriving DecidableEq, Repr

/-- A closed packet: TYPE, its words with the header first, its items, the times of its items, whether the rest of its
tile-frame must follow it into the FIFO (R429), and whether it is the last of a capture context (R419). A compressed block, a
received DATA frame and a host frame on its way to a port stand in the same form, with a TYPE above 15. `mark`: an epoch marker of
R169, which that of a later boundary replaces while it waits. -/
structure SPkt where
  ty : Nat
  words : List (Nat × Bool)
  items : Nat := 0
  lo : Nat := 0
  hi : Nat := 0
  keep : Bool := false
  ctxEnd : Bool := false
  stream : Nat := 0
  mark : Bool := false
  /-- The edge at which it was formed. -/
  since : Nat := 0
  deriving DecidableEq, Repr

/-- Words on their way to a primary and a secondary sink, in packets: how many words of them each sink has taken, and whether a
capture context has ended after the last word taken by it (R240, R419). -/
structure Fifo where
  pkts : List SPkt := []
  taken : Nat := 0
  taken2 : Nat := 0
  mark : Bool := false
  mark2 : Bool := false
  deriving DecidableEq, Repr

/-- The open packet of a packer (R168); `hold`: an extraction's or a delivery's, which is never discarded (R199, R235). -/
structure OpenPkt where
  ty : Nat
  items : List SItem
  since : Nat
  hold : Bool := false
  deriving DecidableEq, Repr

/-- One stream: its packer, the packets that wait in the packer, and its FIFO. -/
structure Strm where
  opn : Option OpenPkt := none
  restart : Bool := false
  /-- Epoch of the last marker emitted (R170). -/
  marker : Option Nat := none
  /-- Stale words since that marker: earliest and latest time, and count. -/
  stale : Option (Nat × Nat × Nat) := none
  /-- The overrun episode: earliest and latest time of what was discarded, and items (R430). -/
  ovr : Option (Nat × Nat × Nat) := none
  wait : List SPkt := []
  fifo : Fifo := {}
  /-- A tile-frame whose header was discarded, or taken: none, some false, some true (R429). -/
  frame : Option Bool := none
  deriving DecidableEq, Repr

/-- A transport gap that is open: tile, column (none: the whole tile), KIND, and the DT from which it is still to be reported
(R110, R101, R174). -/
structure OpenGap where
  tile : Nat
  col : Option Nat
  kind : Nat
  start : Nat
  /-- Words lost in it (R172). -/
  lost : Nat := 0
  deriving DecidableEq, Repr

/-- A hit inside the event path: the hit word, its resolved epoch, its full time in bins of DT, module row and column, and
ToT. -/
structure EHit where
  word : Nat
  epoch : Nat
  t : Nat
  row : Nat
  col : Nat
  deriving DecidableEq, Repr

/-- A cluster rule in force (R164): WIN, ADJ, WEIGHT, SINGLE, HOLD. -/
structure Rule where
  win : Nat
  adj : Nat
  weight : Bool
  single : Bool
  hold : Nat
  deriving DecidableEq, Repr

/-- A hit in the reorder buffer (R155), with its rule set, its stream, and whether it arrived late. -/
structure RHit where
  hit : EHit
  rule : Nat
  stream : Nat
  due : Nat
  late : Bool
  deriving DecidableEq, Repr

/-- An open cluster (R156, R157), its seed first. -/
structure Cluster where
  hits : List EHit
  rule : Nat
  vals : Rule
  stream : Nat
  late : Bool
  deriving DecidableEq, Repr

structure Engine where
  buf : List RHit := []
  opn : List Cluster := []
  deriving DecidableEq, Repr

structure Evt where
  strm : NMap Strm := []
  /-- Region-map tables by entry: active, shadow, and the one kept for earlier epochs (R150, R151). -/
  act : NMap Nat := []
  shd : NMap Nat := []
  old : NMap Nat := []
  /-- The first epoch the active table is in force for. -/
  since : Nat := 0
  /-- The low half held of an entry written in two halves (R151). -/
  half : Option (Nat × Nat) := none
  gaps : List OpenGap := []
  /-- Counts of the rate windows under way, by group (R177). -/
  rate : NMap Nat := []
  /-- The DT_REF at which each group's latest window ended (R177). -/
  rateAt : NMap Nat := []
  eng : List Engine := [{}, {}, {}, {}, {}, {}, {}, {}]
  /-- Words that reached the fabric's word tap since the last wave, by tile (R245). -/
  tap : List Bool := [false, false, false, false]
  /-- How often each engine has refused the word a port now offers, by tile (R154). -/
  refused : List Nat := [0, 0, 0, 0]
  deriving DecidableEq, Repr

/-- What the image makes of the module's topology (R240, R241). -/
structure Sink where
  pkind : Nat := 0
  pidx : Nat := 0
  cctx : Nat := 0
  skind : Nat := 0
  sidx : Nat := 0
  deriving DecidableEq, Repr

structure Topo where
  sink : List Sink := List.replicate 64 {}
  /-- Compression-context outputs: kind and index. -/
  cmpOut : List (Nat × Nat) := List.replicate 64 (0, 0)
  /-- Lantern ingress routes: the queue, where enabled; and the entries as the image has them. -/
  ingress : List (Option Nat) := List.replicate 8 none
  ingressEntry : List Nat := List.replicate 8 0
  /-- Host-to-device roles: role, port, decompression. -/
  role : List (Nat × Nat × Bool) := List.replicate 8 (3, 0, false)
  /-- Tile-port entries: EVENT, RING, TAP and FRAME in bits 0 to 3 (R239). -/
  port : List Nat := [0, 0, 0, 0]
  deriving DecidableEq, Repr

/-! ## Triggers, contexts and the ring (chapter 6) -/

/-- An item in the ring's input buffer, or an entry of the ring: a hit (1), a marker (3) or a gap record (4), the segment its first
word lies in, counted without wrapping, and the DT_REF at which it was written (R182, R183). -/
structure RingEnt where
  ty : Nat
  item : SItem
  seg : Nat := 0
  num : Nat := 0
  at_ : Nat := 0
  /-- Word address of its first word. -/
  addr : Nat := 0
  deriving DecidableEq, Repr

/-- What the module keeps on die for a segment (R183): the smallest and the largest time of its items, none before the first, the epoch of
the last marker before that item, and the DT_REF at which its last word was written. -/
structure RingSeg where
  num : Nat
  range : Option (Nat × Nat) := none
  epoch : Option Nat
  last : Nat
  deriving DecidableEq, Repr

structure Ring where
  buf : List RingEnt := []
  /-- Items discarded since the buffer filled: earliest and latest time, count (R184). -/
  ovr : Option (Nat × Nat × Nat) := none
  ents : List RingEnt := []
  segs : List RingSeg := []
  /-- Words written since RING_EN rose, entries written, and the ring's own SEQ. -/
  wptr : Nat := 0
  num : Nat := 0
  seq : Nat := 0
  /-- The open ring packet: TYPE, items so far, and the word its header stands in. -/
  opn : Option (Nat × Nat × Nat) := none
  marker : Option Nat := none
  deriving DecidableEq, Repr

/-- A primitive event as the fabric has seen it: its time in bins, and what a context opened for it reports (R190, R197). -/
structure PrimEv where
  t : Int
  remote : Bool := false
  origin : Nat := 0
  late : Bool := false
  deriving DecidableEq, Repr

/-- A primitive pulse: its event, first and last edge, whether a wave has taken it, and whether the event came before TRG_CTRL.EN rose (R188,
R190, R246). -/
structure Pulse where
  prim : Nat
  ev : PrimEv
  from_ : Nat
  stop : Nat
  taken : Bool := false
  old : Bool := false
  deriving DecidableEq, Repr

/-- A pending flare (R195). -/
structure Pending where
  tmpl : Nat
  ev : PrimEv
  cause : Nat
  /-- The edge of the sample in which it fired. -/
  at_ : Nat
  deriving DecidableEq, Repr

/-- A capture context's entry (R197). -/
structure Ctx where
  tref : Nat := 0
  cause : Nat := 0
  pre : Nat := 0
  post : Nat := 0
  st : Nat := 0
  tmpl : Nat := 0
  fine : Nat := 0
  remote : Bool := false
  early : Bool := false
  trunc : Bool := false
  poison : Bool := false
  late : Bool := false
  origin : Nat := 0
  first : Nat := 0
  last : Nat := 0
  deriving DecidableEq, Repr

/-- An open context: its index, and the SETTLE, the horizon and the AUTOFREE in force at its opening (R200, R203, R210). -/
structure OpenCtx where
  idx : Nat
  settle : Nat
  hzn : Nat
  free : Bool := false
  deriving DecidableEq, Repr

/-- A template beside its registers: its arm time, the contexts it has open in order, the extraction of the first of them (the
number of the ring entry it reads next), firings since it last opened a context, and the TREF of that context (R193 to R198). -/
structure Tmpl where
  armAt : Nat := 0
  /-- The edge at which a pending arm becomes ARMED. -/
  due : Nat := 0
  /-- The context index last taken. -/
  lastIdx : Option Nat := none
  open_ : List OpenCtx := []
  reading : Option Nat := none
  lastTref : Option Nat := none
  /-- The first edge at which it may open its next context (R195). -/
  next : Nat := 0
  since : Nat := 0
  /-- Gap records of missed firings that wait for the end of the context under extraction (R196). -/
  gaps : List SItem := []
  deriving DecidableEq, Repr

/-- A mask-test unit beside its registers (R206 to R209): its masks that are not at reset, the sweep's point and the samples of the
interval under way. -/
structure MaskUnit where
  up : NMap Nat := []
  lo : NMap Nat := []
  newUp : NMap (Option Nat) := []
  newLo : NMap (Option Nat) := []
  /-- START has fired since the unit began to wait. -/
  go : Bool := false
  point : Nat := 0
  sum : Int := 0
  n : Nat := 0
  flagged : Bool := false
  deriving DecidableEq, Repr

/-- A flare (R204, R395). -/
structure Flare where
  ftype : Nat
  code : Nat
  origin : Nat
  fseq : Nat := 0
  mask : Nat := 0
  sec : Nat
  ns : Nat
  fine : Nat
  deriving DecidableEq, Repr

structure Trg where
  ring : Ring := {}
  pulses : List Pulse := []
  /-- The latest event of each primitive the fabric has seen since EN rose (R190). -/
  seen : List (Nat × PrimEv) := []
  /-- Condition outputs of the latest completed wave, and of the previous sample. -/
  out : Nat := 0
  prev : Nat := 0
  pend : List Pending := []
  ctx : NMap Ctx := []
  tmpl : List Tmpl := List.replicate 16 {}
  done : List Nat := []
  mask : List MaskUnit := List.replicate 8 {}
  /-- Comparators that a forward step has carried ET past (R126). -/
  todLate : List Nat := []
  /-- Disarm flares that wait for their time: ET in ns and templates (R126, R204). -/
  disarm : List (Nat × Nat) := []
  deriving DecidableEq, Repr

/-! ## Frames (chapter 7) -/

/-- A frame under way (R216 to R219): its number, first counting edge, whether it merged boundaries, and the ref its counting has
run so far in each tile (R225). -/
structure FrameNow where
  num : Nat
  start : Nat
  merged : Bool := false
  openRef : List Nat := [0, 0, 0, 0]
  deriving DecidableEq, Repr

/-- A frame that was counted, as its headers describe it (R227). -/
structure FrameHdr where
  num : Nat
  start : Nat
  len : Nat
  merged : Bool
  gated : Bool
  depth : Nat
  deriving DecidableEq, Repr

/-- A region: first row, rows, first column, columns (R222). -/
structure Roi where
  row0 : Nat
  rows : Nat
  col0 : Nat
  cols : Nat
  deriving DecidableEq, Repr

/-- Where a frame's readout goes: the live stream, nowhere, or the burst partition at a byte address. -/
inductive FrameDest where
  | live | discard
  | burst (addr : Nat)
  deriving DecidableEq, Repr

/-- One tile-frame being read or waiting for delivery: its counts by tile-local pixel, the ref counting ran in it, and, once its readout
has ended, the data words that came poisoned. -/
structure TileFrame where
  hdr : FrameHdr
  tile : Nat
  openRef : Nat
  roi : Roi
  cnt : NMap Nat
  dest : FrameDest
  /-- It is the last tile-frame of its frame. -/
  last : Bool
  done : Bool := false
  poison : List Nat := []
  deriving DecidableEq, Repr

/-- One tile-frame held in the burst partition: its header is kept on die, its counts are in buffer memory (R233). -/
structure BurstTile where
  hdr : FrameHdr
  tile : Nat
  openRef : Nat
  roi : Roi
  nsat : Nat
  addr : Nat
  deriving DecidableEq, Repr

/-- One frame the burst holds, and how many of its tile-frames are still being written. -/
structure BurstSlot where
  hdr : FrameHdr
  tiles : List BurstTile := []
  left : Nat
  deriving DecidableEq, Repr

/-- The burst recorder (R233 to R235): the armed template with the slots and the POST it records with, frames held oldest first, frames
written since it armed or the last burst ended, the trigger time from the firing on, the open context, the start of the trigger frame and
the frames still to record. -/
structure Burst where
  tmpl : Option Nat := none
  slots : Nat := 1
  post : Nat := 0
  held : List BurstSlot := []
  written : Nat := 0
  /-- Frames written before the trigger frame. -/
  before : Nat := 0
  ctx : Option Nat := none
  trig : Option Nat := none
  trigFrame : Option Nat := none
  postLeft : Nat := 0
  /-- Recording has stopped and delivery goes on: whether it has begun, and the tile-frames still to deliver. -/
  frozen : Bool := false
  begun : Bool := false
  todo : List BurstTile := []
  /-- Transport gaps that wait for the delivery to begin (R214). -/
  gaps : List SItem := []
  /-- Recording waits for the next boundary. -/
  restart : Bool := false
  deriving DecidableEq, Repr

/-- The frame grid. -/
structure Frm where
  /-- Counts of both banks by pixel key (R215, R217). -/
  cnt : NMap (Nat × Nat) := []
  cur : Option FrameNow := none
  /-- RUN has risen and frame 0 awaits its boundary. -/
  armed : Bool := false
  /-- Number of the next frame. -/
  next : Nat := 0
  /-- The last boundary, or the edge at which RUN rose; and the edge up to which openRef has been counted. -/
  at_ : Nat := 0
  acc : Nat := 0
  /-- Tile-frames in their order of delivery. -/
  read : List TileFrame := []
  /-- The gate is open, and when LEN closes it (R225). -/
  gate : Bool := false
  gateEnd : Option Nat := none
  /-- Gate events that await their edges (R225). -/
  gateOn : List Nat := []
  gateOff : List Nat := []
  burst : Burst := {}
  deriving DecidableEq, Repr

/-! ## The trigger fabric (chapter 8) -/

/-- A wick's entry: its LUT, and word 1 with selectors, MODE and INIT (R244). -/
structure Wick where
  lut : Nat := 0
  cfg : Nat := 0xFEFEFEFEFEFE
  deriving DecidableEq, Repr

/-- The wave under way (R246): the edge of its launch, the wicks whose output is to be 1, those whose LUT gives 1, the primitive events it
has taken, and whether it has been counted as slow. -/
structure Wave where
  at_ : Nat
  out : List Nat
  lut : List Nat
  seen : List (Nat × PrimEv)
  slow : Bool := false
  deriving DecidableEq, Repr

/-- A fabric write under check (R260). -/
inductive FabWrite where
  | wick (w : Nat) (e : Wick)
  | gin (k code : Nat)
  deriving DecidableEq, Repr

/-- A partial reload (R261): the bytes received, the groups and conditions it holds, and its shadow copies. -/
structure Reload where
  bytes : List Nat
  groups : List Nat
  wicks : NMap Wick
  gin : NMap Nat
  conds : List (Nat × Nat)
  deriving DecidableEq, Repr

structure Fab where
  /-- Wick entries, and group inputs by group * 64 + input. -/
  wicks : NMap Wick := []
  gin : NMap Nat := []
  /-- Wicks whose latched output is 1, and whose LUT gave 1 in the latest completed wave. -/
  out : List Nat := []
  prevLut : List Nat := []
  wave : Option Wave := none
  /-- Words held for the selected wick (R260). -/
  lutLo : Option Nat := none
  lutHi : Option Nat := none
  cfgLo : Option Nat := none
  check : Option FabWrite := none
  reload : Option Reload := none
  /-- Bytes of a partial reload that has not been admitted yet (R261). -/
  relBytes : List Nat := []
  /-- Bytes of a refused reload image that are still to come. -/
  relSkip : Nat := 0
  /-- The slot being programmed, and whether its image failed on its way (R258). -/
  prog : Option Nat := none
  progErr : Nat := 0
  deriving DecidableEq, Repr

/-! ## Precision edge timing (chapter 9) -/

/-- A measurement under way: the input edge came after reference edge `at_`, for channel `ch`, as its stamp or stop (`own`), as its own start
(`start`), or as a start of others; and its count, once the result has left (R270, R275, R276). -/
structure TdcRun where
  at_ : Nat
  falling : Bool
  ch : Nat
  own : Bool
  start : Bool
  count : Option Nat := none
  deriving DecidableEq, Repr

/-- What an interpolator does: calibrates since an edge, is armed since an edge, or measures (R270). -/
inductive InterpSt where
  | cal (since : Nat)
  | armed (since : Nat)
  | run (r : TdcRun)
  deriving DecidableEq, Repr

/-- An interpolator: its state, coefficients, the run of out-of-range results (R273), and the edge at which its latest calibration ended, 0
before the first. -/
structure Interp where
  st : InterpSt := .cal 0
  period : Nat := 2048
  offset : Int := 0
  bad : Nat := 0
  calAt : Nat := 0
  deriving DecidableEq, Repr

/-- An entry of a channel's queue (R278). -/
structure TdcEntry where
  w0 : Nat
  w1 : Nat
  deriving DecidableEq, Repr

/-- One logical channel beside its registers: its start time in bins and polarity, its queue, its loss episode (first edge, last edge, lost
edges), the edge from which its core measures, and its port's snapshot with whether it is still in the queue. -/
structure TdcCh where
  start : Option (Int × Bool) := none
  queue : List TdcEntry := []
  loss : Option (Nat × Nat × Nat) := none
  from_ : Nat := 0
  snap : TdcEntry := { w0 := 0, w1 := 0 }
  snapEt : Nat × Nat × Nat × Bool := (0, 0, 0, false)
  snapIn : Bool := false
  /-- EDGE awaits the edge after this one. -/
  edgeAt : Option Nat := none
  /-- The first edge at which two entries were free again (R280). -/
  roomAt : Nat := 0
  deriving DecidableEq, Repr

structure Tdc where
  /-- Interpolators A and B of each core: 2 * core and 2 * core + 1. -/
  interp : List Interp := List.replicate 68 {}
  ch : List TdcCh := List.replicate 32 {}
  /-- Spare requests: channel, and edge of the failure (R283). -/
  reqs : List (Nat × Nat) := []
  /-- Channels that go out of service at the next edge, with the edge of the failure (R283). -/
  offDue : List (Nat × Nat) := []
  deriving DecidableEq, Repr

/-! ## The auxiliary analogue block (chapter 10) -/

/-- A conversion that has sampled (R295): its entry, sample edge and the AT of it, the code as the converter read it and as it counts, its
flags and range, and whether no converter made it (R305). -/
structure Conv where
  entry : Nat
  at_ : Nat
  stamp : Nat
  raw : Int
  code : Int
  ovr : Bool := false
  clamp : Bool := false
  wire : Bool := false
  rcv : Bool := false
  rsw : Bool := false
  rst : Bool := false
  xlim : Bool := false
  spare : Bool := false
  range : Nat := 0
  virt : Bool := false
  deriving DecidableEq, Repr

/-- A result that awaits delivery (R300): KIND, entry and its word, AVG, OFFSET and GAIN, and its conversions in order. -/
structure AuxRes where
  kind : Nat
  entry : Nat
  word : Nat
  avg : Nat
  ofs : Int
  gain : Nat
  convs : List Conv
  deriving DecidableEq, Repr

/-- Where the sequence stands (R298): the entry running and its word, the ticks it holds without a conversion and those still to pass, the
conversions still to make, those of the group under way, and whether the next repeats an aborted one. -/
structure SeqPos where
  entry : Nat
  word : Nat
  delay : Nat
  ticks : Nat
  left : Nat
  grp : List Conv := []
  redo : Bool := false
  deriving DecidableEq, Repr

/-- Auto-range of an entry (R308): steps below its RANGE, small results in a row, and whether the next result carries RSW. -/
structure Rng where
  steps : Nat := 0
  small : Nat := 0
  rsw : Bool := false
  deriving DecidableEq, Repr

/-- An injection request (R301): its slot, its edge, and whether it waits for the next run. -/
structure InjReq where
  slot : Nat
  edge : Nat
  next : Bool := false
  deriving DecidableEq, Repr

/-- A calibration (R311): entry, set, ZONLY, whether its step is FULL, CAVG, the edge at which the step began, the edge at which
WAIT_FULL began, and Z; whether the sequence has resumed after the injections it waits for (R313), the polarity at the start of the step
and the edges of its reversals since, and whether a clamp or a wire break has struck it (R311, R312). -/
structure AuxCal where
  entry : Nat := 0
  set : Nat := 0
  zonly : Bool := false
  full : Bool := false
  cavg : Nat := 10
  begun : Option Nat := none
  since : Nat := 0
  z : Int := 0
  resumed : Bool := false
  pol : Bool := false
  flips : List Nat := []
  bad : Bool := false
  deriving DecidableEq, Repr

/-- A loss episode of a result or sample queue (R305): AT of the first loss, its edge, the edge of the last one, and the count. -/
structure LossEp where
  start : Nat
  from_ : Nat
  last : Nat
  count : Nat
  deriving DecidableEq, Repr

/-- A queue of two-word records with its read port's snapshot, whether that record is still in the queue, and the edge since which two entries
are free (R279, R305). -/
structure RecQ where
  q : List (Nat × Nat) := []
  roomAt : Nat := 0
  snap : Nat × Nat := (0, 0)
  snapIn : Bool := false
  loss : Option LossEp := none
  deriving DecidableEq, Repr

structure Aux where
  pos : Option SeqPos := none
  /-- The last tick, and ET_OFF at it. -/
  lastTick : Nat := 0
  off : Nat := 0
  /-- The last sequence conversion, the position before it, whether it ended its entry, and the position that follows a repeated one. -/
  cur : Option Conv := none
  before : Option SeqPos := none
  ended : Bool := false
  after : Option SeqPos := none
  due : List AuxRes := []
  pend : List InjReq := []
  /-- The injection run: slots served and the last sample edge. -/
  run : Option (List Nat × Nat) := none
  rng : NMap Rng := []
  /-- The last result's sample edge plus 1, by 2 * entry + KIND (R303). -/
  lastAt : NMap Nat := []
  /-- The last edge at which a clamp conducted, and the switches to the first three entries that have begun since (R307). -/
  rec_ : Option (Nat × List Nat) := none
  /-- The last switch to an entry. -/
  switchAt : Nat := 0
  /-- By entry, the edge after which its checks pass again, plus 1, once its wire break is noticed (R310). -/
  broken : NMap Nat := []
  /-- Wraps and edge of the last reversal, and the half-period it ended (R292, R310). -/
  wraps : Nat := 0
  flipAt : Nat := 0
  half : Nat := 0
  /-- No converter has run the sequence since before its last tick, else the edge since which one does (R305). -/
  paused : Bool := true
  runFrom : Nat := 0
  queue : RecQ := {}
  cal : AuxCal := {}
  checkAt : Nat := 0
  /-- The failed check of the pending shadow set has been reported (R299). -/
  told : Bool := false
  /-- The low half held of AUX_SEQn (R297). -/
  seqLo : Option (Nat × Nat) := none
  deriving DecidableEq, Repr

/-! ## Control loops (chapter 11) -/

/-- A feedback input (R322): its last sample edge, the samples that await delivery, and the latest result. -/
structure FbIn where
  last : Nat := 0
  off : Nat := 0
  pend : List (Nat × Int) := []
  latest : Int := 0
  deriving DecidableEq, Repr

/-- What a loop latched at its period start (R324, R326, R335, R336): feedback, target and feed-forward value, whether the feedback is bad,
and what holds the period: 0 nothing, 1 the gate, 2 the inhibit. -/
structure LoopSrc where
  y : Int := 0
  x : Int := 0
  f : Int := 0
  bad : Bool := false
  hold : Nat := 0
  deriving DecidableEq, Repr

/-- No result of any feedback input. -/
def noResults : List (Int × Nat × Bool) := List.replicate 4 (0, 0, false)

/-- A loop slot beside its registers (R330 to R339). p is in 2^-25, v and a in 2^-24, and I in 2^-41. -/
structure Loop where
  /-- The edge from which the next period start is looked for. -/
  start : Nat := 0
  off : Nat := 0
  /-- A period is under way whose deadline has not come; its computation is complete. -/
  busy : Bool := false
  done : Bool := false
  src : LoopSrc := {}
  /-- The slot is to start bumplessly; a hold has ended. -/
  fresh : Bool := true
  resume : Bool := false
  p : Int := 0
  v : Int := 0
  a : Int := 0
  xPrev : Int := 0
  i : Int := 0
  yPrev : Int := 0
  ovrRun : Nat := 0
  fbbRun : Nat := 0
  feTimer : Nat := 0
  /-- Periods since the last record; none before the first. -/
  log : Option Nat := none
  /-- Sum, count and saturation of each input's results since the last period start, or since EN rose. -/
  acc : List (Int × Nat × Bool) := noResults
  commit : Bool := false
  /-- The edge of the last change of the output code, and the code of the PWM cycle under way then (R325). -/
  outAt : Nat := 0
  outOld : Nat := 0
  /-- EN has fallen, and SAFE_OUT is due at the next deadline. -/
  off_ : Bool := false
  deriving DecidableEq, Repr

structure Ctl where
  fb : List FbIn := List.replicate 4 {}
  /-- Levels of CTL_STEPn and CTL_DIRn as filtered. -/
  pins : List (Bool × Bool) := List.replicate 4 (false, false)
  loop : List Loop := List.replicate 4 {}
  queue : RecQ := {}
  deriving DecidableEq, Repr

/-! ## Safety (chapter 12) -/

/-- A channel of a safe input (R348 to R350): its accepted level and last sample, what its own feed pulse and the other one have shown, and
whether it has passed a check since a fault latched. -/
structure SafCh where
  acc : Bool := false
  last : Bool := false
  prevOwn : Bool := false
  lowOwn : Bool := false
  highOther : Bool := false
  lowOther : Bool := false
  passed : Bool := false
  deriving DecidableEq, Repr

/-- A safe input (R352, R353): its channels, state, whether both have shown demand at one strobe since it last left PERMIT, the strobes of the
disagreement under way, and its latched faults. -/
structure SafIn where
  a : SafCh := {}
  b : SafCh := {}
  st : Nat := 0
  seen : Bool := false
  dis : Nat := 0
  faults : List Nat := []
  deriving DecidableEq, Repr

/-- A pin of a safe output: strobes since its off-pulse began, and its runs of high and of low read-backs (R356). -/
structure SafPin where
  pulse : Option Nat := none
  hi : Nat := 0
  lo : Nat := 0
  deriving DecidableEq, Repr

/-- A safe output (R354 to R357): on, waiting for an acknowledgement, its pins A and B, its latched faults, and whether read-back has
shown both pins off since fault 0x4. -/
structure SafOut where
  on : Bool := false
  wait : Bool := true
  a : SafPin := {}
  b : SafPin := {}
  faults : List Nat := []
  offSeen : Bool := false
  deriving DecidableEq, Repr

/-- A connection (R361, R362): VALID, the last SEQ accepted, the DATA last accepted or sent, the STATUS last sent, the edge of that frame,
the next SEQ to send, and fault 0x6. -/
structure SafConn where
  valid : Bool := false
  seq : Option Nat := none
  data : Nat := 0
  status : Nat := 0
  at_ : Nat := 0
  next : Nat := 0
  fault : Bool := false
  deriving DecidableEq, Repr

structure Saf where
  /-- The channels have loaded their records and run (R367). -/
  runs : Bool := false
  ins : List SafIn := List.replicate 4 {}
  outs : List SafOut := [{}, {}]
  conn : List SafConn := List.replicate 8 {}
  /-- Strobes since the channels started, and the edge of the last one. -/
  n : Nat := 0
  lastStrobe : Nat := 0
  off : Nat := 0
  /-- Strobes since the start of the off-pulse of each test-pulse output, and whether it is still low (R349). -/
  tp : List (Option (Nat × Bool)) := [none, none]
  /-- A SAF_ACK waits for the next strobe (R358). -/
  ack : Bool := false
  /-- Consecutive strobes at which the channels disagreed (R357). -/
  differ : Nat := 0
  /-- Latched internal faults. -/
  internal : List Nat := []
  deriving DecidableEq, Repr

/-! ## Lantern Link (chapter 13) -/

/-- A frame: TYPE, SEQ, TSPEC (header bits 37:8) and payload (R384). -/
structure LFrame where
  ty : Nat
  seq : Nat := 0
  tspec : Nat := 0
  body : List Nat
  deriving DecidableEq, Repr

/-- A frame kept for replay, how often it has been sent, and, for stream data of this module, its stream, the times of its words
and their number (R388, R399). -/
structure LTx where
  frame : LFrame
  sends : Nat := 1
  stream : Option Nat := none
  lo : Nat := 0
  hi : Nat := 0
  words : Nat := 0
  deriving DecidableEq, Repr

/-- One class of a port: frames kept, frames that wait to be sent, the next SEQ to send and to receive, whether the next trailer
asks for replay, and the edge of its last acknowledgement progress (R385, R388). -/
structure LClass where
  kept : List LTx := []
  wait : List LTx := []
  seq : Nat := 0
  rx : Nat := 0
  nak : Bool := false
  since : Nat := 0
  deriving DecidableEq, Repr

/-- The switch of a receive lane that is under way: its LIDX, how often SWITCH was sent, and when last (R390). -/
structure LSwitch where
  lidx : Nat
  sent : Nat
  last : Nat
  deriving DecidableEq, Repr

/-- A lane's transmitter (R376, R377): the scrambler's last 58 bits, payload words since the last marker, MCOUNT, the parity of those words, the
stuffer's last bit and run, and the bits of the last transmission in line order. -/
structure LineTx where
  scr : Nat := 0
  words : Nat := 0
  mcount : Nat := 0
  bip : Nat := 0
  last : Bool := false
  run : Nat := 0
  line : List Bool := []
  deriving DecidableEq, Repr

/-- One port beside its registers. -/
structure LPort where
  bulk : LClass := {}
  pri : LClass := {}
  /-- Free bulk slots of the partner. -/
  credit : Nat := 0
  /-- Frames of the receive buffer that wait for another port, and words that wait for the ingress queue (R400). -/
  rxBuf : List (Nat × LFrame) := []
  ingress : Fifo := {}
  /-- A forwarded frame goes next (R400). -/
  turn : Bool := false
  /-- The words of the last frame sent (R384, R385). -/
  sent : List Nat := []
  /-- A NAK has arrived: two idle words go out before the next frame; and after a failed frame the receiver waits for two (R385). -/
  idleFirst : Bool := false
  deaf : Bool := false
  /-- The beacon that admitted the port to TRAIN, and the port has entered UP with this partner (R380, R392). -/
  beacon : Option (Nat × Nat) := none
  attached : Bool := false
  /-- What the partner advertises: LH_VALID, HOPS, LH_ID (R394). -/
  adv : Option (Bool × Nat × Nat) := none
  /-- Edge of the last own beacon; edge at which the port entered its state. -/
  beaconAt : Nat := 0
  since : Nat := 0
  /-- TRAIN: the partner has sent a TRAIN frame; indices done here and at the partner; the port is deskewed; indices with a
  request that waits for its status (R382). -/
  heard : Bool := false
  rxDone : List Nat := []
  txDone : List Nat := []
  deskewed : Bool := false
  asked : List Nat := []
  /-- TIME frames: next TSEQ and the edge of the last one sent; own stamps by TSEQ, in DT (2^-16 ns); the partner's last TSEQ and its
  arrival in DT; the last 16 measurements of d_in in 2^-17 of 10^-3 ns; the edge misses count from, and misses in a row (R396, R397). -/
  tseq : Nat := 0
  timeAt : Nat := 0
  stamps : List (Nat × Int) := []
  echo : Option (Nat × Int) := none
  delays : List Int := []
  heardAt : Nat := 0
  misses : Nat := 0
  /-- The LIDX each direction has moved to its spare, and the switch under way (R390). -/
  rxMoved : Option Nat := none
  txMoved : Option Nat := none
  switching : Option LSwitch := none
  /-- Edges: acknowledgement progress; restart of the port wait; the last DATA frame either way; since when the port is clean; WAKE
  was sent or received (R389, R403, R404, R504). -/
  progress : Nat := 0
  waitAt : Nat := 0
  dataAt : Nat := 0
  clean : Nat := 0
  waking : Bool := false
  deriving DecidableEq, Repr

/-- A lane's marker checks: runs of good and of bad markers, the last marker's LIDX, PORT and SENDER, and BIP mismatches of the last
16 periods (R378, R383). -/
structure LLane where
  good : Nat := 0
  bad : Nat := 0
  last : Option (Nat × Nat × Nat) := none
  bip : List Bool := []
  /-- The edge at which its signal was lost, and its transmitter. -/
  losAt : Nat := 0
  tx : LineTx := {}
  deriving DecidableEq, Repr

/-- A pair-table entry (R402): origin, H, stream, ingress port, the next DSEQ, the active copy, the frames held as DSEQ, copy and
frame, the port each copy arrives on, the edge of its last frame and since when the next DSEQ is awaited; of the primary, while the
secondary is active, the DSEQ it sends next and since when it has sent every one, and whether it takes control back (R403). -/
structure LPair where
  origin : Nat
  h : Bool
  stream : Nat
  port : Nat
  next : Nat
  active : Nat := 0
  held : List (Nat × Nat × LFrame) := []
  ports : List (Option Nat) := [none, none]
  last : Nat := 0
  waitFrom : Option Nat := none
  whole : Option (Nat × Nat) := none
  restore : Bool := false
  deriving DecidableEq, Repr

structure Lnk where
  port : List LPort := List.replicate 8 {}
  lane : List LLane := List.replicate 18 {}
  pairs : List (Option LPair) := List.replicate 64 none
  /-- This module's flare count, and by origin 1 plus the last FSEQ accepted (R395). -/
  fseq : Nat := 0
  seen : NMap Nat := []
  /-- The next DSEQ by H * 64 + stream (R399). -/
  dseq : NMap Nat := []
  deriving DecidableEq, Repr

/-! ## The host attachment (chapter 14) -/

/-- A descriptor fetched: index, address, length, TAG, whether it keeps the rules of R418, and for host-to-device queues its launch
time (R424). -/
structure QDesc where
  idx : Nat
  addr : Nat
  len : Nat
  tag : Nat
  ok : Bool := true
  launch : Option (Nat × Nat) := none
  deriving DecidableEq, Repr

/-- The buffer a device-to-host queue fills: its descriptor, the words written, those of the entry under way, the SEQ of the first
packet header, its stream, whether it holds an overrun record, and the edge of its first word (R419 to R422). -/
structure QBuf where
  desc : QDesc
  words : Nat := 0
  entry : List (Nat × Bool) := []
  seq : Option Nat := none
  stream : Nat := 0
  ovr : Bool := false
  since : Nat := 0
  deriving DecidableEq, Repr

/-- What is common to the queues of both directions: descriptors fetched and the index of the next to fetch, the index of the next
completion, whether the interrupt source is armed and since when, the edges at which the pending completions were written, the edge of the
last TLP, and the edge from which a descriptor has been posted without a break (R416, R427, R434). -/
structure QRing where
  descs : List QDesc := []
  fetch : Nat := 0
  cpl : Nat := 0
  armed : Bool := true
  armAt : Nat := 0
  pend : List Nat := []
  tlp : Nat := 0
  post : Nat := 0
  deriving DecidableEq, Repr

/-- A host-to-device frame at the head of its queue: its descriptor, its bytes, words of bad parity, whether it has been released
and at which DT_REF, late, and where its words wait for the decompressor: those not decoded, what is decoded, whether a block failed
twice, whether the next block is read for the second time, and the BSEQ and dictionary it needs (R425, R453, R454). -/
structure HFrame where
  desc : QDesc
  data : List Nat
  bad : List Nat := []
  released : Option Nat := none
  late : Bool := false
  /-- The STATUS it completes with when it is not delivered. -/
  status : Option Nat := none
  done : Bool := false
  /-- The edge from which it has waited for nothing but to be moved (R427). -/
  ready : Nat := 0
  deriving DecidableEq, Repr

/-- The PCIe function beside the HST registers. -/
structure Hst where
  /-- The link is up. -/
  link : Bool := false
  dq : List QRing := List.replicate 64 {}
  buf : List (Option QBuf) := List.replicate 64 none
  hq : List QRing := List.replicate 8 {}
  cur : List (Option HFrame) := List.replicate 8 none
  /-- Frames of role 0b10 on their way to their port. -/
  toPort : List Fifo := List.replicate 8 {}
  /-- Block sources 72 to 87 that are disarmed (R433). -/
  disarmed : List Nat := []
  /-- MSI-X vectors that are pending (R433). -/
  pba : List Nat := []
  /-- The last writes to host memory: address, bytes, and the number they spell, least significant byte first; and the last message's
  vector. -/
  out : List (Nat × Nat × Nat) := []
  msg : Option Nat := none
  /-- The last BAR4 completion carried the poisoned bit (R467). -/
  ep : Bool := false
  deriving DecidableEq, Repr

/-! ## Stream compression (chapter 15) -/

/-- A dictionary: the entries from 0x100 up, each a prefix code and a byte (R443). -/
abbrev Dict := List (Nat × Nat)

/-- One compression context (R438 to R452): its dictionary, the next BSEQ, the pending RST, the words of the open block and the
edge of its first one, the times its packets cover, whether an error was detected in it, the pending command (bits SAVE, RESTORE,
RESET), the blocks that wait for its output target, and whether its state stands in the spill area. -/
structure CmpCtx where
  dict : Dict := []
  bseq : Nat := 0
  rst : Bool := false
  opn : List (Nat × Bool) := []
  since : Nat := 0
  lo : Nat := 0
  hi : Nat := 0
  redo : Bool := false
  cmd : Nat := 0
  out : Fifo := {}
  spilled : Bool := false
  deriving DecidableEq, Repr

/-- The decompressor at work (R453, R454): the words not yet decoded, what it has put out with poison tags, the dictionary, the BSEQ
expected, whether the block at hand is read for the second time, and whether a block has failed for good. -/
structure Decomp where
  left : List Nat
  out : List (Nat × Bool) := []
  dict : Dict := []
  bseq : Option Nat := none
  again : Bool := false
  failed : Bool := false
  deriving DecidableEq, Repr

/-- The compression block: contexts by number, the contexts resident in each engine, most recently used first (R450), and the
decompressor's work by consumer: host-to-device queues 0 to 7, and 8 for image sections. -/
structure Cmp where
  ctx : NMap CmpCtx := []
  resident : List (List Nat) := [[], [], [], []]
  dec : NMap (Option Decomp) := []
  deriving DecidableEq, Repr

/-! ## Buffer memory (chapter 16) -/

/-- One entry of the repeat tracker (R473): word address in 8-byte units, count, the bit last corrected, whether it was ever
rewritten, and when it was last corrected, for its replacement. -/
structure Trk where
  word : Nat
  count : Nat
  bit : Nat
  rewritten : Bool := false
  stamp : Nat
  deriving DecidableEq, Repr

/-- Buffer memory beside its bytes. Error patterns are 72 bits: bits 63:0 for D and 71:64 for C (R465). -/
structure Ram where
  /-- By word address, what the stored codeword differs by from that of the word's data. -/
  err : NMap Nat := []
  /-- By word address, cells that take their wrong value again at every write (what R474 remaps a row for). -/
  stuck : NMap Nat := []
  /-- Written blocks of 512 bytes (R469). -/
  valid : NMap Bool := []
  trk : List (Option Trk) := []
  tick : Nat := 0
  /-- The row copies under way: channel and row (R474). -/
  copies : List (Nat × Nat) := []
  /-- The block at which the scrub under way ends (R471). -/
  scrubEnd : Nat := 0
  /-- The poison tags of the eight words last read (R467). -/
  tags : List Bool := []
  deriving DecidableEq, Repr

/-! ## What survives every reset: fuses and the configuration store (R255, R523, R525) -/

/-- One module-image slot of the configuration store: whether the boot record marks it valid, with its IMAGE_ID and GEN, and the
bytes written to it (R255, R258). -/
structure Slot where
  valid : Bool := false
  id : Nat := 0
  gen : Nat := 0
  bytes : List Nat := []
  deriving DecidableEq, Repr

/-- The fuses and the configuration store. -/
structure Store where
  /-- Serial number and module identity (R523); the fused MAC address (R144). -/
  serial : Nat := 0
  mac : Nat := 0
  moduleId : Nat := 0
  idSet : Bool := false
  idLeft : Nat := 1
  /-- Role keys by role code 1 to 4 (R520, R524) and the generations left. -/
  keys : List (Option Nat) := [some 0, none, none, none]
  keyLeft : List Nat := [8, 8, 8, 8]
  /-- The consecutive wrong responses, the seconds of the lockout left and of the next one (R522). -/
  sessFails : Nat := 0
  lockLeft : Nat := 0
  lockNext : Nat := 60
  /-- The audit log: entries held, newest first, and the export mark (R525 to R529). -/
  log : List AudEntry := []
  mark : Nat := 0
  starts : Nat := 0
  /-- The service record: wear totals as last saved, spares used by pool kind, and the units out of service, by pool kind and
  number with their runs of failed retests; a flame's number is (tile * 4096 + sconce) * 8 + flame (R515, R516). -/
  wear : Wear := {}
  /-- The monitors whose warning has been given, with the threshold it was given for (R517). -/
  warned : List (Nat × Nat) := []
  spareUsed : NMap Nat := []
  units : List (Nat × Nat × Nat) := []
  /-- Units marked permanent by three failed retests (R515). -/
  permanent : List (Nat × Nat) := []
  /-- Image slots A and B, and the boot record (R255, R256). -/
  slotA : Slot := {}
  slotB : Slot := {}
  pref : Nat := 0
  trial : Option Nat := none
  /-- The row remap table: entries of channel, device, bank and row (R475). -/
  remap : List (Nat × Nat) := []
  /-- Fused SRAM repairs: elements used by array, and arrays whose soft repair is fused (R477). -/
  sramFused : NMap Nat := []
  /-- The safety record's generations left and its content, one record per channel (R366, R367). -/
  safGen : Nat := 16
  safRecord : Option RegMap := none
  /-- Writes whose fuse generation was cut short by a loss of power, to be reported at the next start: offset, OLD and NEW (R523). -/
  cut : List (Nat × Nat × Nat) := []
  deriving DecidableEq, Repr

/-! ## The state -/

/-- The state of the module. -/
structure State where
  /-- The commands that wait, first in, first out. -/
  pending : List Instr := []
  /-- Register fields that differ from their reset values. -/
  regs : RegMap := []
  /-- Shadow copies of staged fields that await their commit point (R6). -/
  shadow : RegMap := []
  /-- Buffer memory by byte address; an unlisted byte reads 0 (R469). -/
  mem : List Host.Cell := []
  /-- DT_REF (R116). -/
  dtRef : Nat := 0
  /-- The model's own counter of free values drawn (the argument of the Config constants that stand for values the manual
  leaves open). -/
  drawn : Nat := 0
  /-- The model's own: what the last read command returned. -/
  rdata : List Nat := []
  sys : Sys := {}
  flt : Flt := {}
  cores : List Core4 := [{}, {}, {}, {}]
  aud : Aud := {}
  sess : Sess := {}
  svc : Svc := {}
  til : Til := {}
  xp : Xport := {}
  tim : Tim := {}
  evt : Evt := {}
  topo : Topo := {}
  trg : Trg := {}
  frm : Frm := {}
  fab : Fab := {}
  tdc : Tdc := {}
  aux : Aux := {}
  ctl : Ctl := {}
  saf : Saf := {}
  lnk : Lnk := {}
  hst : Hst := {}
  cmp : Cmp := {}
  ram : Ram := {}
  store : Store := {}
  deriving DecidableEq, Repr

/-- The module right after a power-on reset: in reset, RESET_N low, every field at its Reset column value (R482, R556). -/
def State.reset : State := {}

end Sys2Proof.Machine
end

