-- ==== Sys2Proof/Machine/Ops.lean ====
section
/-! DEFINITION. Machine/Ops.lean: the named operations every meaning is written with: register fields, counters, time,
faults, resets, the audit log and role sessions. -/

namespace Sys2Proof.Machine

/-- The outcome of one command. -/
abbrev Out := Host.Outcome State Fault Refusal

/-- A command that names an existing unit takes its next state; one that does not is refused by name. -/
def need (c : Bool) (s : State) : Out := if c then .next s else .refused .noSuchUnit

/-- Apply a change only when a condition holds. -/
def State.cond (s : State) (c : Bool) (f : State → State) : State := if c then f s else s

/-- Apply a change for each member of a list, in order. -/
def State.each {α : Type} (s : State) (l : List α) (f : State → α → State) : State := l.foldl f s

/-! ## Bit fields and signed values -/

/-- Bits `lo + w - 1 : lo` of a word. -/
def bits (v lo w : Nat) : Nat := v / 2 ^ lo % 2 ^ w

/-- One bit of a word. -/
def bit (v i : Nat) : Bool := Nat.testBit v i

/-- A word with bits `lo + w - 1 : lo` replaced. -/
def setBits (v lo w x : Nat) : Nat :=
  v % 2 ^ lo + (x % 2 ^ w) * 2 ^ lo + v / 2 ^ (lo + w) * 2 ^ (lo + w)

/-- A two's-complement field as an integer. -/
def toInt (w v : Nat) : Int := if v % 2 ^ w < 2 ^ (w - 1) then (v % 2 ^ w : Nat) else ((v % 2 ^ w : Nat) : Int) - 2 ^ w

/-- An integer as a two's-complement field of `w` bits. -/
def ofInt (w : Nat) (x : Int) : Nat := (x % (2 ^ w : Nat)).toNat

/-- An integer limited to a symmetric range. -/
def clampInt (lim x : Int) : Int := max (-lim) (min lim x)

/-- A signed field that saturates at its largest values. -/
def satInt (w : Nat) (x : Int) : Nat := ofInt w (max (-(2 ^ (w - 1) : Nat)) (min ((2 ^ (w - 1) : Nat) - 1) x))

def boolNat (b : Bool) : Nat := if b then 1 else 0

/-- A list with one member replaced. -/
def setAt {α : Type} (l : List α) (i : Nat) (x : α) : List α := l.set i x

/-! ## Register fields (R5, R555) -/

/-- The value a field instance holds. -/
def State.get (s : State) (f : Fld) (i : Nat := 0) (j : Nat := 0) : Nat :=
  SMap.get (f.reset i j) s.regs ⟨f.id, i, j⟩

/-- Store a value, cut to the field's width. -/
def State.put (s : State) (f : Fld) (v : Nat) (i : Nat := 0) (j : Nat := 0) : State :=
  { s with regs := SMap.set RKey.lt (f.reset i j) s.regs ⟨f.id, i, j⟩ (trunc f.width v) }

/-- The field is not 0. -/
def State.flag (s : State) (f : Fld) (i : Nat := 0) (j : Nat := 0) : Bool := s.get f i j != 0

/-- Store a flag. -/
def State.putB (s : State) (f : Fld) (b : Bool) (i : Nat := 0) (j : Nat := 0) : State := s.put f (boolNat b) i j

/-- A counter goes up by `n` and saturates at its largest value, which sets the block's CNT_SAT bit `sat` (instance `k`). -/
def State.bump (s : State) (f sat : Fld) (i : Nat := 0) (j : Nat := 0) (n : Nat := 1) (k : Nat := 0) : State :=
  if s.get f i j + n < 2 ^ f.width - 1 then s.put f (s.get f i j + n) i j
  else (s.put f (2 ^ f.width - 1) i j).put sat 1 k

/-- Fields that return to their reset values. -/
def State.clearFields (s : State) (ids : List Nat) : State :=
  { s with regs := s.regs.filter fun e => !ids.contains e.1.f }

/-- The pending shadow value of a staged field. -/
def State.shadowOf (s : State) (f : Fld) (i : Nat := 0) (j : Nat := 0) : Option Nat :=
  SMap.get none (s.shadow.map fun e => (e.1, some e.2)) ⟨f.id, i, j⟩

/-- Leave a write pending in the shadow copy of a staged field (R6). -/
def State.stage (s : State) (f : Fld) (v : Nat) (i : Nat := 0) (j : Nat := 0) : State :=
  { s with shadow := SMap.insert RKey.lt ⟨f.id, i, j⟩ (trunc f.width v) (SMap.erase s.shadow ⟨f.id, i, j⟩) }

/-- Discard a pending shadow copy. -/
def State.unstage (s : State) (f : Fld) (i : Nat := 0) (j : Nat := 0) : State :=
  { s with shadow := SMap.erase s.shadow ⟨f.id, i, j⟩ }

/-- At its commit point a pending shadow copy is applied (R6). -/
def State.commit (s : State) (f : Fld) (i : Nat := 0) (j : Nat := 0) : State :=
  match s.shadowOf f i j with
  | none => s
  | some v => (s.put f v i j).unstage f i j

/-- The reset value of a key of the register file (R555). -/
def regReset (k : RKey) : Nat := ((regTable.find? fun f => f.id == k.f).map fun f => f.reset k.i k.j).getD 0

/-- Store the values of a list of keys. -/
def State.putKeys (s : State) (l : RegMap) : State :=
  { s with regs := l.foldl (fun m e => SMap.set RKey.lt (regReset e.1) m e.1 e.2) s.regs }

/-- Commit every pending shadow copy of the fields listed by number. -/
def State.commitAll (s : State) (ids : List Nat) : State :=
  { s.putKeys (s.shadow.filter fun e => ids.contains e.1.f) with
    shadow := s.shadow.filter fun e => !ids.contains e.1.f }

/-- Draw the argument of a free value. -/
def State.draw (s : State) : State := { s with drawn := s.drawn + 1 }

/-! ## Time (R116 to R118, R121) -/

/-- ET values are held modulo 2^48 s; in ns. -/
def etMod : Nat := 2 ^ 48 * 1000000000

/-- ET_OFF in ns. -/
def State.etOff (s : State) : Nat := s.get Reg.TIM_ETOFF_SEC_SEC * 1000000000 + s.get Reg.TIM_ETOFF_NS_NS

/-- ET in ns of a reference edge (R117). -/
def State.etOf (s : State) (dt : Nat) : Nat := (s.etOff + 4 * dt) % etMod

/-- ET in ns now. -/
def State.et (s : State) : Nat := s.etOf s.dtRef

/-- EXTEST, CLAMP or HIGHZ is current, which stops the safety channels and keeps their outputs off (R36, R367). -/
def State.scanning (s : State) : Bool := s.sys.jtag = .extest || s.sys.jtag = .clamp || s.sys.jtag = .highz

/-- The value of `x` modulo `m` that lies nearest 0. -/
def centred (m : Nat) (x : Int) : Int := let d := x % m; if 2 * d < m then d else d - m

/-- A quotient rounded to the nearest whole number, halves up. -/
def roundDiv (a : Int) (b : Nat) : Int := (2 * a + b) / (2 * (b : Int))

/-- The first edge of a list of edges. -/
def earliest : List Nat → Option Nat
  | [] => none
  | a :: l => some (l.foldl min a)

/-- How far an ET in ns lies ahead of now; ET is held modulo 2^48 s (R117). -/
def State.etAhead (s : State) (ns : Int) : Int := centred etMod (ns - s.et)

/-- DT in ns of an ET in ns (R117). -/
def State.dtNs (s : State) (ns : Int) : Int := 4 * s.dtRef + s.etAhead ns

/-- The first reference edge at which ET equals or passes a value in ns (R126). -/
def State.etEdge (s : State) (ns : Int) : Nat := ((s.dtNs ns + 3) / 4).toNat

/-- AT now: whole ns of ET (R118). -/
def State.at_ (s : State) : Nat := s.et % 2 ^ 64

/-- ET_VALID (R117). -/
def State.etValid (s : State) : Bool := s.flag Reg.TIM_STATUS_ET_VALID

/-- The epoch a reference edge lies in (R121). -/
def epochOf (dt : Nat) : Nat := dt / 2 ^ 21

/-! ## Access to BAR0 (R489, R494) -/

/-- Registers that respond before stage 10 and in pilot-light mode (R494). -/
def pilotAddr (a : Nat) : Bool :=
  decide (a < 0x30000) || a == 0x180190 || a == 0x180194 || (decide (0x180200 ≤ a) && decide (a < 0x180240)) ||
  (decide (0x1F0000 ≤ a) && decide (a < 0x200000))

/-- The PCIe function is up: from the end of stage 1 (R489), or in pilot-light mode, with its link up. -/
def State.pcieUp (s : State) : Bool :=
  (match s.sys.phase with
   | .running | .pilot => true
   | .starting => decide (2 ≤ s.get Reg.BOOT_STATUS_STAGE)
   | _ => false) && s.hst.link

/-- The sizes of BAR0, BAR2 and BAR4 (R410). -/
def barSize : Nat → Nat
  | 0 => 2 ^ 22
  | 2 => 2 ^ 19
  | 4 => 2 ^ 28
  | _ => 0

/-- The IDCODE register: version 1, part 0x4102, manufacturer 0x5DA (R35). -/
def idcode : Nat := 0x14102BB5

/-- A BAR0 access reaches the register at `a`. -/
def State.responds (s : State) (a : Nat) : Bool :=
  s.pcieUp && (s.sys.phase == .running || pilotAddr a)

/-- A BAR0 write: it reaches the register, is discarded and counted (R489), or never arrives. -/
def State.bar (s : State) (a : Nat) (f : State → State) : State :=
  if s.responds a then f s
  else if s.pcieUp then s.bump Reg.HST_BADACC_COUNT Reg.HST_INT_CNT_SAT
  else s

/-! ## Audit log and guarded writes (R519, R526 to R528, R531) -/

/-- The role of the open session, 0 when none is open. -/
def State.role (s : State) : Nat := if s.get Reg.GEN_SESS_STATUS_STATE = 2 then s.get Reg.GEN_SESS_STATUS_ROLE else 0

/-- The entry of an event now. -/
def State.auditEntry (s : State) (kind result target old new arg : Nat) : AudEntry :=
  { start := s.store.starts % 65536, kind := kind, result := result, dt := s.dtRef,
    etSec := if s.etValid then s.et / 1000000000 else 0, role := s.role, etValid := s.etValid,
    etNs := if s.etValid then s.et % 1000000000 else 0, target := target, old := old, new := new, arg := arg }

/-- An entry enters the queue of 32, or is lost and counted (R528). -/
def State.auditPush (s : State) (e : AudEntry) (w : Option (Nat × Nat)) : State :=
  if s.aud.queue.length < 32 then
    let s := { s with aud := { s.aud with queue := s.aud.queue ++ [AudWait.mk e w] } }
    s.put Reg.GEN_AUD_STATUS_PEND s.aud.queue.length
  else
    let s := { s with aud := { s.aud with lost := s.aud.lost + 1 } }
    s.bump Reg.GEN_AUD_DROP_COUNT Reg.GEN_SVC_INT_CNT_SAT

/-- The entry of an automatic event (R528). -/
def State.audit (s : State) (kind result target old new arg : Nat) : State :=
  s.auditPush (s.auditEntry kind result target old new arg) none

/-- The fields of the staged safety set (R364). -/
def safStaged : List Fld :=
  [Reg.SAF_CFG_IN_TYPE, Reg.SAF_CFG_IN_TPA, Reg.SAF_CFG_IN_TPB, Reg.SAF_CFG_IN_DISC, Reg.SAF_CFG_OUT_INMASK, Reg.SAF_CFG_OUT_CONNMASK,
   Reg.SAF_CFG_OUT_RBIT, Reg.SAF_CFG_OUT_RESTART, Reg.SAF_CFG_OUT_EN, Reg.SAF_CFG_OUT_OPP, Reg.SAF_CFG_OUT_OPW, Reg.SAF_CFG_TP_TPP,
   Reg.SAF_CFG_TP_TPW, Reg.SAF_CFG_TP_EN, Reg.SAF_CFG_CONN_ID_ID, Reg.SAF_CFG_CONN_EN, Reg.SAF_CFG_CONN_DIR, Reg.SAF_CFG_CONN_MEDIUM,
   Reg.SAF_CFG_CONN_PORT, Reg.SAF_CFG_CONN_DUAL, Reg.SAF_CFG_CONN_PORT2, Reg.SAF_CFG_CONN_WDT]

/-- A staged safety set not committed when its session closes is discarded (R364). -/
def State.dropSafety (s : State) : State :=
  { s with shadow := s.shadow.filter fun e => !(safStaged.map (·.id)).contains e.1.f }

/-- A session ends (R521): its status, its challenge and the staged key words clear, and an entry of kind 0x04 gives the
reason. -/
def State.closeSession (s : State) (reason : Nat) : State :=
  if s.get Reg.GEN_SESS_STATUS_STATE = 2 then
    let s := s.audit 4 0 0x210 0 0 reason
    let s := s.cond (s.role == 3) (·.dropSafety)
    let s := (s.put Reg.GEN_SESS_STATUS_STATE 0).put Reg.GEN_SESS_STATUS_ROLE 0
    let s := s.each [0, 1, 2, 3] fun s i => s.put Reg.GEN_KEY_STAGE_KEY 0 i
    s.put Reg.GEN_SVC_INT_SESSION 1
  else s

/-- An open session whose idle time is over by this edge is closed (R521). -/
def State.idleClose (s : State) : State :=
  if s.get Reg.GEN_SESS_STATUS_STATE = 2 && decide (s.sess.lastWrite + 250000000 * max 1 (s.get Reg.GEN_SESS_CFG_IDLE) ≤ s.dtRef) then
    s.closeSession 1
  else s

/-- A write to an RWG or FUSE field that has no effect (R531): GEN_INT.REFUSED, and an entry unless the queue is full. -/
def State.refuseGuarded (s : State) (kind result a old v : Nat) : State :=
  (s.put Reg.GEN_INT_REFUSED 1).auditPush (s.auditEntry kind result a old v 0) none

/-- A write to an RWG field (`kind` 0x01) or FUSE field (0x02) at BAR0 offset `a`: refused outside an open session of one
of its roles (RESULT 0x1), for a cause of its own (`cause`, 0 for none), or with the audit queue full (RESULT 0x4); else
its entry enters the queue and the write waits for it as the value `act` (R5, R528, R531). A write at the edge at which its session's idle
time ends finds the session closed (R521). -/
def State.guarded (s : State) (kind a old v act : Nat) (roles : List Nat) (cause : Nat) (arg : Nat := 0) : State :=
  let s := s.idleClose
  let c := if roles.contains s.role then cause else 1
  let s := if roles.contains s.role then { s with sess := { s.sess with lastWrite := s.dtRef } } else s
  if c ≠ 0 then s.refuseGuarded kind c a old v
  else if 32 ≤ s.aud.queue.length then s.refuseGuarded kind 4 a old v
  else s.auditPush (s.auditEntry kind 0 a old v arg) (some (a, act))

/-- A guarded write of a block with a refusal bit of its own, which a refusal sets as well (R531). -/
def State.guardedIn (s : State) (flag : Fld) (kind a old v act : Nat) (roles : List Nat) (cause : Nat) (arg : Nat := 0) : State :=
  let s := s.idleClose
  let ok := roles.contains s.role && cause == 0 && decide (s.aud.queue.length < 32)
  (s.guarded kind a old v act roles cause arg).cond (!ok) (·.put flag 1)

/-! ## Spares (R512, R518) -/

/-- The unit's place in an audit TARGET: pool or monitor in bits 31:24, unit in bits 23:0 (R526). -/
def poolTarget (pool unit : Nat) : Nat := pool * 2 ^ 24 + unit % 2 ^ 24

/-- The spares left in a pool, compared per tile or port where it belongs to several, fall to the threshold (R518). -/
def State.spareCheck (s : State) (kind left : Nat) : State :=
  if left ≤ s.get Reg.GEN_SPARE_THR_THR 0 kind then
    (s.put Reg.GEN_SVC_INT_SPARE_LOW 1).audit 0x15 0 (poolTarget kind 0) 0 left 0
  else s

/-- A spare is brought in: entry 0x10, the pool's USED, and the threshold check (R512, R518). -/
def State.bringSpare (s : State) (kind unit left : Nat) : State :=
  let s := s.audit 0x10 0 (poolTarget kind unit) 0 0 0
  let n := s.get Reg.GEN_SPARE_INFO_USED 0 kind + 1
  let s := { s with store := { s.store with spareUsed := s.store.spareUsed.set 0 kind n } }
  (s.put Reg.GEN_SPARE_INFO_USED n 0 kind).spareCheck kind left

/-- A unit stands in the service record as out of service (R515). -/
def State.recorded (s : State) (kind unit : Nat) : Bool := s.store.units.any fun u => u.1 == kind && u.2.1 == unit

/-- A unit enters the service record; its first retest is at the next start (R515). -/
def State.recordUnit (s : State) (kind unit : Nat) : State :=
  { s with sys := { s.sys with retested := (kind, unit) :: s.sys.retested }
           store := { s.store with units := (s.store.units.filter fun u => u.1 != kind || u.2.1 != unit) ++ [(kind, unit, 0)] } }

/-- A unit is taken out of service: entry 0x11, and its place in the service record (R512, R515). -/
def State.unitOut (s : State) (kind unit : Nat) : State := (s.audit 0x11 0 (poolTarget kind unit) 0 0 0).recordUnit kind unit

/-- The units of a kind in the service record, oldest first. -/
def State.unitsOut (s : State) (kind : Nat) : List Nat := (s.store.units.filter fun u => u.1 == kind).map (·.2.1)

/-- A recorded unit is tested again in this start: its kind's RETEST bit is set, it is not permanent, and it was not tested yet (R515). -/
def State.retests (s : State) (kind unit : Nat) : Bool :=
  s.recorded kind unit && bit (s.get Reg.GEN_SPARE_CFG_RETEST) (kind - 1) && !s.store.permanent.contains (kind, unit) &&
    !s.sys.retested.contains (kind, unit)

/-- A recorded unit stays out without a retest (R515). -/
def State.staysOut (s : State) (kind unit : Nat) : Bool :=
  s.recorded kind unit && (!bit (s.get Reg.GEN_SPARE_CFG_RETEST) (kind - 1) || s.store.permanent.contains (kind, unit))

/-- A recorded unit's retest: a pass returns it to its pool, entry 0x12; a third failure in a row marks it permanent, entry 0x11
(R515, R527). -/
def State.retestUnit (s : State) (kind unit : Nat) (pass : Bool) : State :=
  if !s.retests kind unit then s
  else
    let s : State := { s with sys := { s.sys with retested := (kind, unit) :: s.sys.retested } }
    if pass then
      let n := s.get Reg.GEN_SPARE_INFO_USED 0 kind - 1
      let s := s.audit 0x12 0 (poolTarget kind unit) 0 0 0
      let s : State := { s with store := { s.store with
        units := s.store.units.filter fun u => u.1 != kind || u.2.1 != unit
        spareUsed := s.store.spareUsed.set 0 kind n } }
      s.put Reg.GEN_SPARE_INFO_USED n 0 kind
    else
      let runs := ((s.store.units.find? fun u => u.1 == kind && u.2.1 == unit).map (·.2.2)).getD 0 + 1
      let s : State := { s with store := { s.store with
        units := s.store.units.map fun u => if u.1 == kind && u.2.1 == unit then (kind, unit, runs) else u } }
      if runs < 3 then s
      else
        ({ s with store := { s.store with permanent := (kind, unit) :: s.store.permanent } } : State).audit 0x11 0 (poolTarget kind unit) 0 0 0

/-- Vias of a group that a tile has replaced; the groups are the kinds 3 to 6 (R512). -/
def State.viasUsed (s : State) (kind t : Nat) : Nat := ((s.unitsOut kind).filter fun u => u / 64 == t).length

/-- Spare vias of a group in one tile (R11, R512). -/
def viaSpares (kind : Nat) : Nat := if kind = 3 then 48 else if kind = 4 then 12 else if kind = 5 then 2 else 1

/-- `n` vias of a group fail and take spares (R99, R513); each takes the lowest number that no recorded via of the group has. -/
def State.viaSpare (s : State) (kind t n : Nat) : State :=
  s.each (List.range n) fun s _ =>
    let u := t * 64 + (((List.range 64).find? fun u => !s.recorded kind (t * 64 + u)).getD 63)
    (s.unitOut kind u).bringSpare kind u (viaSpares kind - (s.viasUsed kind t + 1))

/-! ## Resets (R482, R556) -/

/-- The rails of R26. -/
def allRails : List Rail := [.vaux, .vio, .vfein, .vcn, .vphy09, .vana, .vphy12, .vrld]

/-- Every rail is in its operating range. -/
def State.railsOk (s : State) : Bool := allRails.all fun r => s.sys.rails.contains r

/-- The always-on BOOT fields, which keep their values through pin and module resets (R556). -/
def bootKeep : List Nat :=
  [Reg.BOOT_STATUS_FAILCNT, Reg.BOOT_STATUS_STRAP, Reg.BOOT_LAST_KIND, Reg.BOOT_LAST_FCODE, Reg.BOOT_LAST_QDISC,
   Reg.BOOT_LAST_BOUNCE, Reg.BOOT_FAIL_STAGE, Reg.BOOT_FAIL_CODE, Reg.BOOT_PILOT_CAUSE, Reg.BOOT_HELD_MS,
   Reg.BOOT_RAIL_RAIL, Reg.BOOT_RAIL_RUN, Reg.BOOT_RAIL_VALID, Reg.BOOT_TIME_MS].map (·.id)

/-- A pin or module reset: everything but the always-on domain, the configuration store and fuses, and what stands
outside the module returns to its reset value (R482, R556); BOOT_LAST.KIND takes the kind. A module reset saves the wear totals first
(R516). -/
def State.resetAll (s : State) (kind : Nat) : State :=
  let s := s.closeSession 2
  let wear := if 4 ≤ kind then s.svc.wear else s.store.wear
  let t : State :=
    { pending := s.pending
      regs := s.regs.filter fun e => bootKeep.contains e.1.f
      shadow := s.shadow.filter fun e => e.1.f == Reg.MEM_CFG_RATE_MAX.id
      drawn := s.drawn
      sys := { rails := s.sys.rails, rstN := s.sys.rstN, refclkOk := s.sys.refclkOk, holds := s.sys.holds, jtag := s.sys.jtag
               cells := s.sys.cells, i2cStrap := s.sys.i2cStrap, pilotReq := s.sys.pilotReq, restartReq := s.sys.restartReq }
      aud := s.aud
      svc := { wear := wear }
      store := { s.store with wear := wear } }
  t.put Reg.BOOT_LAST_KIND kind

/-- A start fails (R491, R492): its stage, its code and its length are recorded, the count goes up, and every output is held as in reset
until the 100 ms pass. -/
def State.startFails (s : State) (code : Nat) : State :=
  let st := s.get Reg.BOOT_STATUS_STAGE
  let s := ((s.put Reg.BOOT_FAIL_STAGE st).put Reg.BOOT_FAIL_CODE code).put Reg.BOOT_TIME_MS (min 65535 (s.dtRef / 250000))
  let s := s.put Reg.BOOT_STATUS_FAILCNT (min 3 (s.get Reg.BOOT_STATUS_FAILCNT + 1))
  let s := s.resetAll (s.get Reg.BOOT_LAST_KIND)
  { s with sys := { s.sys with phase := .failHold } }

/-! ## Faults (R498 to R503) -/

/-- The severity of a fault code (R499). -/
def severity (code : Nat) : Nat :=
  if code ≤ 5 then 4 else if code ≤ 0xA then 3 else if code ≤ 0xF then 2 else 1

/-- GEN_FAULT_STATUS shows the handler. -/
def State.syncFault (s : State) : State :=
  let s := (s.put Reg.GEN_FAULT_STATUS_CODE ((s.flt.under.map (·.code)).getD 0)).put Reg.GEN_FAULT_STATUS_SEV
    ((s.flt.under.map (·.sev)).getD 0)
  (s.put Reg.GEN_FAULT_STATUS_QLEVEL s.flt.queue.length).put Reg.GEN_FAULT_STATUS_NEST s.flt.preempted.length

/-- Handling of a severity-4 fault (R503): BOOT_LAST takes the code and the number of queued faults discarded, a fault
within 60 s of stage 10 counts as a failed start with code 0x09 (R491), and a module reset follows, held after faults
0x01 and 0x02 until the rail or REFCLK is back; VFE, which is off in reset, holds nothing. -/
def State.fatal (s : State) (code : Nat) : State :=
  let s := (s.put Reg.BOOT_LAST_FCODE code).put Reg.BOOT_LAST_QDISC s.flt.queue.length
  let s := s.cond s.sys.since10.isSome fun s =>
    ((s.put Reg.BOOT_FAIL_STAGE 10).put Reg.BOOT_FAIL_CODE 9).put Reg.BOOT_STATUS_FAILCNT
      (min 3 (s.get Reg.BOOT_STATUS_FAILCNT + 1))
  let s := s.resetAll 5
  { s with sys := { s.sys with holds := { s.sys.holds with rail := s.sys.holds.rail || (code == 1 && !s.railsOk)
                                                           refclk := s.sys.holds.refclk || code == 2 } } }

/-- A fault is detected (R500, R502): FAULT_N goes low at severity 3 or 4, and the fault is handled, pre-empts a lower
one, raises the repeat count of a queued one, enters the queue of 16, or is counted. -/
def State.fault (s : State) (code src : Nat) : State :=
  let sev := severity code
  let rec_ : FaultRec := { dt := s.dtRef, code := code, sev := sev, src := src }
  let s := { s with sys := { s.sys with faultLow := s.sys.faultLow || decide (3 ≤ sev) } }
  if sev = 4 then s.fatal code
  else
    match s.flt.under with
    | none => { s with flt := { s.flt with under := some rec_ } }.syncFault
    | some u =>
      if u.sev < sev then
        { s with flt := { s.flt with under := some rec_, preempted := u :: s.flt.preempted } }.syncFault
      else if s.flt.queue.any fun q => q.code == code && q.src == src then
        { s with flt := { s.flt with queue := s.flt.queue.map fun q =>
            if q.code == code && q.src == src then { q with rep := min 127 (q.rep + 1) } else q } }
      else if s.flt.queue.length < 16 then
        { s with flt := { s.flt with queue := s.flt.queue ++ [rec_] } }.syncFault
      else
        (s.bump Reg.GEN_FAULT_BUSY_COUNT Reg.GEN_INT_CNT_SAT).put Reg.GEN_INT_BUSY 1

end Sys2Proof.Machine
end

