-- ==== Sys2Proof/Machine/Elapse.lean ====
section
/-! DEFINITION. Machine/Elapse.lean: when a tile's discriminators are gated, and the passing of time (R116): DT moves on, and the counters that count reference periods follow what stands still
meanwhile (R106, R112, R113, R162, R436). -/

namespace Sys2Proof.Machine

/-! ## The gate of a tile's discriminators -/

def State.tile (s : State) (t : Nat) : Tile := s.til.t.getD t {}
def State.setTile (s : State) (t : Nat) (x : Tile) : State := { s with til := { s.til with t := s.til.t.set t x } }

/-- The tile's discriminators are gated (R75, R78, R101, R499); after a write of EN = 0 or a
bundle fault they close at the next reference edge (R78, R101). -/
def State.gated (s : State) (t : Nat) : Bool :=
  ((!s.flag Reg.TIL_CTRL_EN t || s.get Reg.TIL_BND_STATUS_STATE t == 3) && decide ((s.tile t).openTill ≤ s.dtRef)) ||
  !s.flag Reg.TIL_STATUS_FE_READY t || !s.flag Reg.TIL_STATUS_CAL_VALID t || s.sys.hot || (s.tile t).firstDue.isSome

/-- A change that may open or gate a tile's discriminators leaves the edge at which it did (R51). -/
def State.regate (s : State) (t : Nat) (f : State → State) : State :=
  let u := f s
  if s.gated t == u.gated t then u
  else if u.gated t then u.setTile t { u.tile t with openTill := u.dtRef }
  else u.setTile t { u.tile t with openFrom := u.dtRef }

/-- The same for a change that concerns every tile. -/
def State.regateAll (s : State) (f : State → State) : State :=
  s.regate 0 (·.regate 1 (·.regate 2 (·.regate 3 f)))

/-- Open discriminators are to close at the next reference edge (R78, R101). -/
def State.closeNext (s : State) (t : Nat) : State :=
  if s.gated t then s else s.setTile t { s.tile t with openTill := s.dtRef + 1 }

/-! ## What counts reference periods -/

/-- The ref that counting has run up to edge `e` enter the frame under way, in every tile with EN = 1 (R225). -/
def State.accrue (s : State) (e : Nat) : State :=
  let f := s.frm
  let on (t : Nat) : Bool := (!s.flag Reg.TIL_FRM_GATE_EN || f.gate) && s.flag Reg.TIL_CTRL_EN t
  let cur := f.cur.map fun c =>
    let l := [0, 1, 2, 3].map fun t => c.openRef.getD t 0 + (if on t then e - max f.acc c.start else 0)
    { c with openRef := l }
  { s with frm := { f with cur := cur, acc := max f.acc e } }

/-- The hits an engine retains in its open clusters (R161, R162). -/
def Engine.members (x : Engine) : Nat := x.opn.foldl (fun n c => n + c.hits.length) 0

/-- A cluster engine's stores are full (R162). -/
def Engine.full (x : Engine) : Bool :=
  decide (16384 ≤ x.buf.length) || decide (4096 ≤ x.opn.length) ||
  decide (65536 ≤ x.members)

/-- Columns of which a sconce has all 8 word slots occupied, as tile * 64 + column. -/
def State.fullColumns (s : State) : List Nat :=
  ((s.til.sc.filter fun (e : Nat × Sconce) => decide (8 ≤ e.2.wait.length + e.2.ready.length)).map fun e =>
    e.1 / 4096 * 64 + e.1 % 64).dedup

/-- Columns whose foot FIFO is full, as tile * 64 + column; a spare's foot is its column's (R106). -/
def State.stalledColumns (s : State) : List Nat :=
  ([0, 1, 2, 3].flatMap fun t => ((s.xp.cols.getD t {}).bus.filter fun (e : Nat × ColBus) => decide (16 ≤ e.2.foot.length)).map fun e =>
    t * 64 + if e.1 = 64 then s.get Reg.TIL_XSPARE_SPA_COL t else if e.1 = 65 then s.get Reg.TIL_XSPARE_SPB_COL t else e.1).dedup

/-- The bundle does not take the flit that a tile's merger has formed: the transmitter holds 16 unanswered flits or sends some again, the
receiver holds 32, or the link does not run (R98, R99, R101, R102, R113). -/
def State.mergerStalls (s : State) (t : Nat) : Bool :=
  let b := s.xp.bnd.getD t {}
  !b.formed.isEmpty && (decide (16 ≤ b.held.length) || decide (b.sent < b.held.length) || decide (32 ≤ b.latched.length + b.words.length) ||
    s.get Reg.TIL_BND_STATUS_STATE t == 3 || b.test)

/-- Engines that accept nothing. -/
def State.fullEngines (s : State) : List Nat :=
  (List.range 8).filter fun e => bit (s.get Reg.CLU_CTRL_EN) e && (s.evt.eng.getD e {}).full

/-- Running device-to-host queues without a posted buffer, of which a stream, a compression context or an ingress has words ready
(R437). -/
def State.starvedQueues (s : State) : List Nat :=
  let words (f : Fifo) : Nat := f.pkts.foldl (fun n p => n + p.words.length) 0
  let ctx (e : Nat × CmpCtx) : List Nat :=
    let k := s.topo.cmpOut.getD e.1 (0, 0)
    if k.1 = 1 ∧ e.2.out.taken < words e.2.out then [k.2] else []
  let port (p : Nat) : List Nat :=
    match s.topo.ingress.getD p none with
    | some q => if (s.lnk.port.getD p {}).ingress.pkts = [] then [] else [q]
    | none => []
  let want (e : Nat × Strm) : List Nat :=
    let k := s.topo.sink.getD e.1 {}
    (if k.pkind = 1 ∧ e.2.fifo.taken < words e.2.fifo then [k.pidx] else []) ++
    (if k.skind = 1 ∧ e.2.fifo.taken2 < words e.2.fifo then [k.sidx] else [])
  ((s.evt.strm.flatMap want ++ s.cmp.ctx.flatMap ctx ++ (List.range 8).flatMap port).dedup).filter fun q => s.get Reg.HST_Dq_STATUS_STATE q == 1 &&
    s.get Reg.HST_Dq_DB_TAIL q == s.get Reg.HST_Dq_STATUS_HEAD q && (s.hst.buf.getD q none).isNone

/-- `n` reference periods pass over a state that does not change: the counters of reference periods go up by `n` where their condition
holds. -/
def State.elapse (s : State) (n : Nat) : State :=
  if n = 0 then s
  else
    let t := s.each s.fullColumns fun t k => t.bump Reg.TIL_COL_FULL_COUNT Reg.TIL_XINT_CNT_SAT (k / 64) (k % 64) n (k / 64)
    let t := t.each s.stalledColumns fun t k => t.bump Reg.TIL_COL_STALL_COUNT Reg.TIL_XINT_CNT_SAT (k / 64) (k % 64) n (k / 64)
    let t := t.each ([0, 1, 2, 3].filter s.mergerStalls) fun t k => t.bump Reg.TIL_MRG_STALL_COUNT Reg.TIL_XINT_CNT_SAT k 0 n k
    let t := t.each s.fullEngines fun t e => (t.bump Reg.CLU_FULL_COUNT Reg.CLU_INT_CNT_SAT 0 e n).put Reg.CLU_INT_FULL 1
    t.each s.starvedQueues fun t q => t.bump Reg.HST_Dq_STARVE_COUNT Reg.HST_INT_CNT_SAT q 0 n

/-- An event of the module's own clock takes place at its due edge: DT moves on to it and never back (R116). -/
def State.advanceTo (s : State) (due : Nat) : State := { s.elapse (due - s.dtRef) with dtRef := max s.dtRef due % 2 ^ 64 }

/-- One reference period passes in which nothing is commanded. -/
def State.idleEdge (s : State) : State :=
  match s.sys.phase with
  | .starting | .running | .pilot => s.advanceTo (s.dtRef + 1)
  | _ => s

end Sys2Proof.Machine
end

