-- ==== Sys2Proof/Machine/AuxBase.lean ====
section
/-! DEFINITION. Machine/AuxBase.lean: the AT grid (R126, R296), queues of two-word records (R279, R305, R341), and what an injection
request does to the sequence (R301). -/

namespace Sys2Proof.Machine

/-- The first reference edge after `a` at which AT reaches a whole multiple of `p` ns; where ET or AT wraps, it reaches 0 (R117, R118, R126,
R296). -/
def State.gridAfter (s : State) (a p : Nat) : Nat :=
  let e := s.etOf a
  let t := e % 2 ^ 64
  a + ceilDiv (min ((t / p + 1) * p - t) (min (2 ^ 64 - t) (etMod - e))) 4

/-- The next edge of a grid after `last`, where ET_OFF was `off`: when a step has come between, the period under way is finished
first (R126). -/
def State.gridNext (s : State) (last p off : Nat) : Nat :=
  if off = s.etOff then s.gridAfter last p else s.gridAfter (last + p / 4 - 1) p

/-- AT of a reference edge (R118). -/
def State.atOf (s : State) (dt : Nat) : Nat := s.etOf dt % 2 ^ 64

/-! ## Record queues -/

/-- A queue of 1,024 records takes one, with two entries free before it. -/
def RecQ.hasRoom (q : RecQ) : Bool := decide (q.q.length + 2 ≤ 1024)

/-- A record is lost. -/
def RecQ.lose (q : RecQ) (stamp edge now : Nat) : RecQ :=
  { q with loss := some (match q.loss with
    | none => { start := stamp, from_ := edge, last := now, count := 1 }
    | some l => { l with last := now, count := l.count + 1 }) }

/-- Word 1 of a gap record (R303, R341); `open_` gives LENGTH all ones. -/
def gapWord1 (len : Option Nat) (count : Nat) : Nat :=
  2 * 2 ^ 62 + 2 ^ 61 + (match len with | none => 2 ^ 37 - 1 | some n => min n (2 ^ 37 - 2)) * 2 ^ 24 + min count (2 ^ 24 - 1)

/-- The first word of the head record is read: the record is held at the port (R279). -/
def RecQ.snapshot (q : RecQ) : RecQ :=
  match q.q with
  | [] => { q with snap := (0, 0), snapIn := false }
  | e :: _ => { q with snap := e, snapIn := true }

/-- The last word is read: the record held leaves the queue (R279); a queue without room has it from the next edge on. -/
def RecQ.remove (q : RecQ) (now : Nat) : RecQ :=
  if q.snapIn then { q with q := q.q.tail, snapIn := false, roomAt := if q.hasRoom then q.roomAt else now + 1 } else q

/-- The four words of the port, from the snapshot. -/
def RecQ.port (q : RecQ) (i : Nat) : Nat :=
  match i with
  | 0 => bits q.snap.1 0 32
  | 1 => bits q.snap.1 32 32
  | 2 => bits q.snap.2 0 32
  | _ => bits q.snap.2 32 32

/-! ## AUX registers -/

def State.setAux (s : State) (a : Aux) : State := { s with aux := a }
def State.acount (s : State) (f : Fld) (n : Nat := 1) : State := s.bump f Reg.AUX_INT_CNT_SAT 0 0 n
def State.auxEn (s : State) : Bool := s.flag Reg.AUX_CTRL_EN
def State.auxRefuse (s : State) (code idx : Nat) : State :=
  ((s.put Reg.AUX_INT_REFUSED 1).put Reg.AUX_ERR_CODE code).put Reg.AUX_ERR_IDX idx

/-- The sequence stands at a position. -/
def State.seqAt (s : State) (p : SeqPos) : State :=
  (s.setAux { s.aux with pos := some p }).put Reg.AUX_STATUS_ENTRY p.entry

/-- A conversion is in progress at an edge for 125 ref after its sample edge (R301). -/
def Conv.busy (c : Conv) (e : Nat) : Bool := decide (c.at_ ≤ e) && decide (e < c.at_ + 125)

/-- An injection takes the converter at edge `e`: the sequence conversion in progress is discarded, and the entry that ran is to
let its DELAY ticks pass again (R301). -/
def State.auxInterrupt (s : State) (e : Nat) : State :=
  let s := match s.aux.cur, s.aux.before with
    | some c, some b =>
      if c.busy e && !c.rst then
        let a := s.aux
        let s := s.setAux { a with
          cur := none, before := none
          rng := if c.rsw then a.rng.modify {} c.entry fun r => { r with rsw := true } else a.rng
          due := a.due.filter fun r => !(r.kind == 0 && (r.convs.getLast?.map Conv.at_) == some c.at_)
          after := if a.ended then a.pos else a.after }
        (s.seqAt { b with redo := true }).acount Reg.AUX_SLIP_COUNT
      else s
    | _, _ => s
  match s.aux.pos with
  | none => s
  | some p => (s.acount Reg.AUX_SLIP_COUNT (p.delay - p.ticks)).seqAt { p with ticks := p.delay }

/-- An injection run is under way at an edge. -/
def State.injRunning (s : State) (e : Nat) : Bool :=
  match s.aux.run with
  | none => false
  | some (_, last) => decide (e < last + 125) || s.aux.pend.any fun r => !r.next && decide (r.edge < last + 125)

/-- Injections keep the converter at a tick. -/
def State.injBusy (s : State) (e : Nat) : Bool :=
  (match s.aux.run with
   | none => false
   | some (_, last) => decide (e < last + 125)) || s.aux.pend.any fun r => !r.next && decide (r.edge + 1 ≤ e)

/-- Injection slot `k` requests a conversion (R301). -/
def State.auxRequest (s : State) (k : Nat) : State :=
  if !s.auxEn then s
  else if s.aux.pend.any fun r => r.slot == k then s.acount Reg.AUX_INJ_MERGED_COUNT
  else
    let add (r : InjReq) : State := s.setAux { s.aux with pend := s.aux.pend ++ [r] }
    if s.injRunning s.dtRef then
      match s.aux.run with
      | some (served, _) => add { slot := k, edge := s.dtRef, next := served.contains k }
      | none => s
    else
      match s.aux.cur with
      | some c =>
        if c.rst && c.busy (s.dtRef + 1) then add { slot := k, edge := c.at_ + 124 }
        else (add { slot := k, edge := s.dtRef }).auxInterrupt (s.dtRef + 1)
      | none => (add { slot := k, edge := s.dtRef }).auxInterrupt (s.dtRef + 1)

/-- A primitive event requests the injections that name it (R301). -/
def State.auxPrim (s : State) (p : Nat) : State :=
  s.each ((List.range 4).filter fun k => s.get Reg.AUX_INJ_CFG_PRIM k == p) fun s k => s.auxRequest k

end Sys2Proof.Machine
end

