-- ==== Sys2Proof/Machine/Crc.lean ====
section
/-! DEFINITION. Machine/Crc.lean: the cyclic redundancy checks of the manual's formats. -/

namespace Sys2Proof.Machine

/-- One step of a reflected CRC with polynomial `p`. -/
def crcStepR (p c : Nat) : Nat := if c % 2 = 1 then Nat.xor (c / 2) p else c / 2

/-- One byte into a reflected CRC. -/
def crcByteR (p c b : Nat) : Nat := (List.range 8).foldl (fun c _ => crcStepR p c) (Nat.xor c b)

/-- CRC-32C over bytes, started from all ones and inverted at the end (R47). -/
def crc32c (l : List Nat) : Nat := Nat.xor (l.foldl (crcByteR 0x82F63B78) 0xFFFFFFFF) 0xFFFFFFFF

/-- The `n` bytes of a word, least significant first. -/
def leBytesN (n w : Nat) : List Nat := (List.range n).map fun i => bits w (8 * i) 8

/-- CRC-32C over words of `n` bytes. -/
def crc32cWords (n : Nat) (l : List Nat) : Nat := crc32c (l.flatMap (leBytesN n))

/-- CRC-16 with x^16 + x^12 + x^5 + 1 over the low `n` bits of `v`, highest first, from 0xFFFF and not inverted (R95). -/
def crc16 (n v : Nat) : Nat :=
  (List.range n).foldl (fun c i =>
    let b := v / 2 ^ (n - 1 - i) % 2
    let t := (c / 2 ^ 15 + b) % 2
    if t = 1 then Nat.xor (c * 2 % 2 ^ 16) 0x1021 else c * 2 % 2 ^ 16) 0xFFFF

/-- The check value of a Snuffer frame over bytes 0 to 11 (R360). -/
def crcSnuffer (l : List Nat) : Nat :=
  l.foldl (fun c b => (List.range 8).foldl (fun c i =>
    let t := (c / 2 ^ 31 + b / 2 ^ (7 - i)) % 2
    if t = 1 then Nat.xor (c * 2 % 2 ^ 32) 0x741B8CD7 else c * 2 % 2 ^ 32) c) 0xFFFFFFFF

end Sys2Proof.Machine
end

