-- ==== Sys2Proof/Machine/Line.lean ====
section
/-! DEFINITION. Machine/Line.lean: the line coding of a Lantern lane: the scrambler, the alignment markers, the stuffer, and what the
receiver does to undo them (R376, R377, R379). -/

namespace Sys2Proof.Machine

/-- The 64 bits of a word in the order they go out: least significant first (R376). -/
def wordBits (w : Nat) : List Bool := (List.range 64).map (bit w)

/-- The word whose bits arrived in this order. -/
def bitsWord (l : List Bool) : Nat := l.foldr (fun b n => boolNat b + 2 * n) 0

/-- Scrambler and descrambler keep the last 58 scrambled bits, the newest in bit 0. -/
def scrShift (scr : Nat) (b : Bool) : Nat := (2 * scr + boolNat b) % 2 ^ 58

/-- What x^58 + x^39 + 1 adds to the next bit (R376). -/
def scrTaps (scr : Nat) : Bool := xor (bit scr 38) (bit scr 57)

/-- Bits through the scrambler (R376). -/
def scramble : Nat → List Bool → Nat × List Bool
  | scr, [] => (scr, [])
  | scr, b :: l =>
    let o := xor b (scrTaps scr)
    let r := scramble (scrShift scr o) l
    (r.1, o :: r.2)

/-- Bits through the descrambler, which feeds on what it receives (R376). -/
def descramble : Nat → List Bool → Nat × List Bool
  | scr, [] => (scr, [])
  | scr, o :: l =>
    let r := descramble (scrShift scr o) l
    (r.1, xor o (scrTaps scr) :: r.2)

/-- The length of the run that ends with bit `b`. -/
def runWith (last : Bool) (run : Nat) (b : Bool) : Nat := if run = 0 ∨ b ≠ last then 1 else run + 1

/-- The stuffer: after 24 identical bits it inserts one of the opposite value, which starts a new run (R376). -/
def stuff : Bool → Nat → List Bool → (Bool × Nat) × List Bool
  | last, run, [] => ((last, run), [])
  | last, run, b :: l =>
    if runWith last run b = 24 then
      let r := stuff (!b) 1 l
      (r.1, b :: (!b) :: r.2)
    else
      let r := stuff b (runWith last run b) l
      (r.1, b :: r.2)

/-- The receiver removes the bit that follows any run of 24 identical bits (R376). -/
def unstuff : Bool → Nat → List Bool → (Bool × Nat) × List Bool
  | last, run, [] => ((last, run), [])
  | last, run, b :: l =>
    if run = 24 then unstuff b 1 l
    else
      let r := unstuff b (runWith last run b) l
      (r.1, b :: r.2)

/-- An alignment marker (R377). -/
def marker (lidx port sender mcount bip : Nat) : Nat :=
  0x5AC396 * 2 ^ 40 + lidx % 16 * 2 ^ 36 + port % 8 * 2 ^ 33 + sender % 4096 * 2 ^ 21 + mcount % 256 * 2 ^ 13 + bip % 256

/-- The parity of a word's bits j with j mod 8 = i, in bit i (R377). -/
def wordBip (w : Nat) : Nat := (leBytesN 8 w).foldl Nat.xor 0

/-- A payload word goes out on a lane: scrambled, with the marker after it that ends 4,096 words, and stuffed (R376, R377); `mk` gives the
marker from MCOUNT and BIP. -/
def LineTx.word (x : LineTx) (mk : Nat → Nat → Nat) (w : Nat) : LineTx :=
  let c := scramble x.scr (wordBits w)
  let bip := Nat.xor x.bip (wordBip w)
  let full := x.words = 4095
  let st := stuff x.last x.run (c.2 ++ if full then wordBits (mk x.mcount bip) else [])
  { scr := c.1, words := if full then 0 else x.words + 1, mcount := if full then (x.mcount + 1) % 256 else x.mcount
    bip := if full then 0 else bip, last := st.1.1, run := st.1.2, line := x.line ++ st.2 }

/-- The words of a transmission on a lane; the line shows its bits. -/
def LineTx.send (x : LineTx) (mk : Nat → Nat → Nat) (l : List Nat) : LineTx := l.foldl (·.word mk ·) { x with line := [] }

/-- Of the port words of a transmission, those on the lane with index `i` of `w`: word k travels on index k mod w, and idle words of 0 fill the
last row (R379). -/
def laneWords (w i : Nat) (l : List Nat) : List Nat := (List.range (ceilDiv l.length (max 1 w))).map fun r => l.getD (r * w + i) 0

end Sys2Proof.Machine
end

