-- ==== Sys2Proof/Machine/LnkBase.lean ====
section
/-! DEFINITION. Machine/LnkBase.lean: Lantern Link's frames and the sending side of its ports: classes, what is kept for replay,
flares, and the stream data that ports take as sinks (R384 to R388, R395, R399 to R401). -/

namespace Sys2Proof.Machine

/-- A trigger counter. -/
def State.gcount (s : State) (f : Fld) (i : Nat := 0) (j : Nat := 0) (n : Nat := 1) : State := s.bump f Reg.TRG_INT_CNT_SAT i j n

def State.lport (s : State) (p : Nat) : LPort := s.lnk.port.getD p {}
def State.setLport (s : State) (p : Nat) (x : LPort) : State := { s with lnk := { s.lnk with port := s.lnk.port.set p x } }

/-- A Lantern counter. -/
def State.lcount (s : State) (f : Fld) (p : Nat := 0) (j : Nat := 0) (n : Nat := 1) : State := s.bump f Reg.LNK_INT_CNT_SAT p j n

/-- LNK_Pp_STATUS.STATE (R380). -/
def State.lstate (s : State) (p : Nat) : Nat := s.get Reg.LNK_Pp_STATUS_STATE p
def State.lup (s : State) (p : Nat) : Bool := s.lstate p == 3
def State.lupLow (s : State) (p : Nat) : Bool := s.lstate p == 3 || s.lstate p == 4

/-- The module's own ID (R523). -/
def State.moduleId (s : State) : Nat := s.store.moduleId

/-- Outstanding bulk frames and their peak (R407). -/
def State.showOutst (s : State) (p : Nat) : State :=
  let n := (s.lport p).bulk.kept.length
  (s.put Reg.LNK_Pp_OUTST_BULK n p).put Reg.LNK_Pp_OUTST_PEAK (max n (s.get Reg.LNK_Pp_OUTST_PEAK p)) p

/-! ## Words in packets on their way to a sink -/

/-- Packets every sink has passed leave. -/
def passed (dual : Bool) : List SPkt → Nat → Nat → List SPkt × Nat × Nat
  | [], _, _ => ([], 0, 0)
  | p :: l, a, b =>
    if p.words.length ≤ a ∧ (!dual ∨ p.words.length ≤ b) then passed dual l (a - p.words.length) (b - p.words.length)
    else (p :: l, a, b)

def Fifo.settle (f : Fifo) (dual : Bool) : Fifo :=
  let r := passed dual f.pkts f.taken f.taken2
  { f with pkts := r.1, taken := r.2.1, taken2 := if dual then r.2.2 else 0 }

/-- The packet word `k` stands in, and its place there. -/
def wordAt : List SPkt → Nat → Option (SPkt × Nat)
  | [], _ => none
  | p :: l, k => if k < p.words.length then some (p, k) else wordAt l (k - p.words.length)

/-- Words in all. -/
def Fifo.words (f : Fifo) : Nat := f.pkts.foldl (fun n p => n + p.words.length) 0

/-- The word a sink takes next. -/
def Fifo.next (f : Fifo) (second : Bool) : Option (SPkt × Nat) := wordAt f.pkts (if second then f.taken2 else f.taken)

/-- A sink has taken `n` words. -/
def Fifo.take (f : Fifo) (second dual : Bool) (n : Nat) : Fifo :=
  (if second then { f with taken2 := f.taken2 + n } else { f with taken := f.taken + n }).settle dual

/-- A capture context ends with the last packet that stands here; a sink that has taken it already learns it by its mark (R419). -/
def Fifo.endMark (f : Fifo) (waiting : Bool) (dual : Bool) : Fifo :=
  if waiting then f
  else
    let n := f.words
    let l := f.pkts.length
    { f with pkts := f.pkts.modify (l - 1) fun p => { p with ctxEnd := true }
             mark := f.mark || f.taken == n, mark2 := f.mark2 || (dual && f.taken2 == n) }

/-! ## The FIFO of a stream (R428 to R431) -/

def State.strm (s : State) (n : Nat) : Strm := s.evt.strm.get {} n
def State.setStrm (s : State) (n : Nat) (x : Strm) : State := { s with evt := { s.evt with strm := s.evt.strm.set {} n x } }

/-- The sink entry of a stream (R240). -/
def State.sink (s : State) (n : Nat) : Sink := s.topo.sink.getD n {}

/-- Data packets are hit, cluster and frame packets; the others are control packets (R428). -/
def isData (ty : Nat) : Bool := ty != 3 && ty != 4 && ty != 5

/-- Bytes in the FIFO. -/
def Strm.bytes (x : Strm) (dual : Bool) : Nat :=
  8 * (x.fifo.words - (if dual then min x.fifo.taken x.fifo.taken2 else x.fifo.taken))

/-- Free space of the 64 KiB. -/
def Strm.free (x : Strm) (dual : Bool) : Nat := 65536 - x.bytes dual

/-- A stream has two sinks. -/
def State.dual (s : State) (n : Nat) : Bool := (s.sink n).skind != 0

def State.strmFree (s : State) (n : Nat) : Nat := (s.strm n).free (s.dual n)

/-- LEVEL and PEAK, in 64 B units (R435). -/
def State.showLevel (s : State) (n : Nat) : State :=
  let l := ceilDiv ((s.strm n).bytes (s.dual n)) 64
  (s.put Reg.HST_STRM_LEVEL_LEVEL l 0 n).put Reg.HST_STRM_LEVEL_PEAK (max l (s.get Reg.HST_STRM_LEVEL_PEAK 0 n)) 0 n

/-- A packet finds room: a control packet in all of the FIFO, a data packet beside the reserve; what must follow a taken
tile-frame header needs no reserve (R429). -/
def Strm.fits (x : Strm) (dual : Bool) (p : SPkt) : Bool :=
  decide (8 * p.words.length + (if isData p.ty && !p.keep then 8192 else 0) ≤ x.free dual)

/-- Packets that wait in the packer enter the FIFO while they find room (R429, R431). -/
def Strm.pump (dual : Bool) : Nat → Strm → Strm
  | 0, x => x
  | k + 1, x =>
    match x.wait with
    | [] => x
    | p :: l =>
      if x.fits dual p then Strm.pump dual k { x with wait := l, fifo := { x.fifo with pkts := x.fifo.pkts ++ [p] } } else x

/-- The FIFO of a stream takes what waits. -/
def State.fill (s : State) (n : Nat) : State :=
  let x := s.strm n
  (s.setStrm n (x.pump (s.dual n) x.wait.length)).showLevel n

/-! ## Frames (R384 to R386) -/

/-- The HCRC of a header: x^8 + x^2 + x + 1 over bits 63:8, highest first, from 0 (R384). -/
def hcrc (h : Nat) : Nat :=
  (List.range 56).foldl (fun c i =>
    let t := (c / 2 ^ 7 + h / 2 ^ (63 - i)) % 2
    if t = 1 then Nat.xor (c * 2 % 2 ^ 8) 0x07 else c * 2 % 2 ^ 8) 0

/-- Bits 63:8 of a frame's header (R384). -/
def LFrame.head (f : LFrame) : Nat := f.ty * 2 ^ 60 + f.seq * 2 ^ 44 + f.body.length * 2 ^ 38 + f.tspec * 2 ^ 8

/-- The header of a frame (R384). -/
def LFrame.header (f : LFrame) : Nat := f.head + hcrc f.head

/-- The CRC of a frame whose trailer's bits 31:0 are `low` (R385). -/
def LFrame.crc (f : LFrame) (low : Nat) : Nat := crc32c ((f.header :: f.body).flatMap (leBytesN 8) ++ leBytesN 4 low)

/-- The words of a frame whose trailer's bits 31:0 are `low` (R385). -/
def LFrame.wordsWith (f : LFrame) (low : Nat) : List Nat := f.header :: f.body ++ [f.crc low * 2 ^ 32 + low]

/-- Bits 31:0 of a received trailer (R385). -/
def trailerBits (t : Trailer) : Nat := t.back * 2 ^ 16 + t.pack * 2 ^ 8 + boolNat t.bnak * 2 ^ 7 + boolNat t.pnak * 2 ^ 6 + t.credit

/-- A received frame passes its checks (R384, R385). -/
def LFrame.good (f : LFrame) (t : Trailer) : Bool := t.hcrc == hcrc f.head && t.crc == f.crc (trailerBits t)

/-- Bits 31:0 of the trailer a port sends (R385). -/
def State.trailerLow (s : State) (p : Nat) : Nat :=
  let x := s.lport p
  (x.bulk.rx + 65535) % 65536 * 2 ^ 16 + (x.pri.rx + 255) % 256 * 2 ^ 8 + boolNat x.bulk.nak * 2 ^ 7 + boolNat x.pri.nak * 2 ^ 6 +
    min 63 ((Config.lnkSlots p - (x.rxBuf.length + x.ingress.pkts.length)) / 8)

/-! ### The lanes of a port (R373, R376, R379) -/

def State.lane0 (s : State) (p : Nat) : Nat := s.get Reg.LNK_Pp_CFG_LANE0 p
def State.lwidth (s : State) (p : Nat) : Nat := 2 ^ s.get Reg.LNK_Pp_CFG_WIDTH p
def State.lspare (s : State) (p : Nat) : Bool := s.flag Reg.LNK_Pp_CFG_SPARE p
def State.llane (s : State) (l : Nat) : LLane := s.lnk.lane.getD l {}
def State.setLlane (s : State) (l : Nat) (x : LLane) : State := { s with lnk := { s.lnk with lane := s.lnk.lane.set l x } }

/-- The lane this module sends a LIDX on. -/
def State.laneOfIdx (s : State) (p lidx : Nat) : Nat := s.lane0 p + (if lidx = 15 then s.lwidth p else lidx)

/-- The lanes that run in a direction of this module's transmitters, with their LIDX: in LOW only index 0 (R379, R390, R404). -/
def State.txLanes (s : State) (p : Nat) : List (Nat × Nat) :=
  let x := s.lport p
  let act := (List.range (if s.lstate p = 4 then 1 else s.lwidth p)).map fun i => (s.laneOfIdx p (if x.txMoved = some i then 15 else i), i)
  if s.lspare p && x.txMoved.isNone && s.lstate p != 4 then act ++ [(s.laneOfIdx p 15, 15)] else act

/-- Words go out on one lane (R376, R377). -/
def State.lineSend (s : State) (p lane lidx : Nat) (l : List Nat) : State :=
  let x := s.llane lane
  s.setLlane lane { x with tx := x.tx.send (marker lidx p s.moduleId) l }

/-- Port words go out over the lanes of a port; the spare that stands by carries idle words (R379). -/
def State.portSend (s : State) (p : Nat) (l : List Nat) : State :=
  let w := if s.lstate p = 4 then 1 else s.lwidth p
  s.each (s.txLanes p) fun s x => s.lineSend p x.1 x.2 (if x.2 = 15 then (laneWords w 0 l).map fun _ => 0 else laneWords w x.2 l)

/-- What a frame leaves behind once its words, with the trailer of the moment, are out: what its trailer asked for has been asked, and the idle
words owed have gone before it (R385). -/
def State.lsent (s : State) (p : Nat) (l : List Nat) : State :=
  let x := s.lport p
  s.setLport p { x with sent := l, idleFirst := false, bulk := { x.bulk with nak := false }, pri := { x.pri with nak := false } }

/-- A frame goes out with the trailer of the moment. -/
def State.lsend (s : State) (p : Nat) (f : LFrame) : State :=
  let l := f.wordsWith (s.trailerLow p)
  (s.portSend p (if (s.lport p).idleFirst then [0, 0] ++ l else l)).lsent p l

/-- A frame goes out on one lane alone (R382). -/
def State.lsendOn (s : State) (p lidx : Nat) (f : LFrame) : State :=
  let l := f.wordsWith (s.trailerLow p)
  (s.lineSend p (s.laneOfIdx p lidx) lidx l).lsent p l

/-- A CTRL frame (R386). -/
def ctrlFrame (op arg : Nat) : LFrame := { ty := 5, body := [op * 2 ^ 56 + arg] }

/-- How many frames a class keeps (R388). -/
def bulkMax : Nat := 512
def priMax : Nat := 64

/-- A class sends the frames that wait while it keeps fewer than `cap` and has `credit`: each takes the next SEQ. -/
def LClass.drain (cap w : Nat) : Nat → LClass → Nat → LClass × Nat
  | 0, c, cr => (c, cr)
  | k + 1, c, cr =>
    match c.wait with
    | [] => (c, cr)
    | t :: l =>
      if c.kept.length < cap ∧ 0 < cr then
        let t' := { t with frame := { t.frame with seq := c.seq }, sends := 1 }
        LClass.drain cap w k { c with kept := c.kept ++ [t'], wait := l, seq := (c.seq + 1) % 2 ^ w } (cr - 1)
      else (c, cr)

/-- The frames of a class that were sent just now go out in order; the first outstanding one starts the timers of R388 and R389. -/
def State.sentNow (s : State) (p : Nat) (old new : LClass) : State :=
  s.each (new.kept.drop old.kept.length) fun s t => s.lsend p t.frame

/-- A port sends what waits: priority frames while it is UP or LOW, DATA frames while it is UP and the partner has slots (R387,
R388, R404). -/
def State.lpump (s : State) (p : Nat) : State :=
  if s.lupLow p then
    let x := s.lport p
    let idle := x.pri.kept.isEmpty && x.bulk.kept.isEmpty
    let pri := (x.pri.drain priMax 8 x.pri.wait.length priMax).1
    let pri := if x.pri.kept.isEmpty then { pri with since := s.dtRef } else pri
    let r := if s.lup p then x.bulk.drain bulkMax 16 x.bulk.wait.length x.credit else (x.bulk, x.credit)
    let bulk := if x.bulk.kept.isEmpty then { r.1 with since := s.dtRef } else r.1
    let y := { x with
      pri := pri, bulk := bulk, credit := r.2
      dataAt := if x.bulk.wait.length = bulk.wait.length then x.dataAt else s.dtRef
      progress := if idle then s.dtRef else x.progress, waitAt := if idle then s.dtRef else x.waitAt }
    (((s.setLport p y).sentNow p x.pri pri).sentNow p x.bulk bulk).showOutst p
  else s

/-- A frame of the priority class is handed to a port; of those that wait, flares go before Snuffer frames (R386, R387). -/
def State.lpri (s : State) (p : Nat) (f : LFrame) : State :=
  let x := s.lport p
  let before (t : LTx) : Bool := t.frame.ty ≤ f.ty
  let l := x.pri.wait
  (s.setLport p { x with pri := { x.pri with wait := l.takeWhile before ++ { frame := f } :: l.dropWhile before } }).lpump p

/-- A port takes one more DATA frame: it is UP or LOW, and replay room and credits allow (R388, R399). -/
def State.canTake (s : State) (p : Nat) : Bool :=
  let c := (s.lport p).bulk
  s.lupLow p && decide (c.kept.length + c.wait.length < bulkMax) && decide (c.wait.length < (s.lport p).credit)

/-- A frame of the bulk class is handed to a port; in LOW the port sends CTRL WAKE first (R404). -/
def State.lbulk (s : State) (p : Nat) (t : LTx) : State :=
  let x := s.lport p
  let s := s.setLport p { x with bulk := { x.bulk with wait := x.bulk.wait ++ [t] } }
  let s := s.cond (s.lstate p == 4 && !x.waking) fun s =>
    let s := s.lsend p (ctrlFrame 4 0)
    s.setLport p { s.lport p with waking := true, since := s.dtRef }
  s.lpump p

/-! ## Stream data (R399 to R401) -/

/-- What a port may be the sink of. -/
inductive LSrc where
  | stream (n : Nat)
  | ctx (c : Nat)
  | h2d (h : Nat)
  deriving DecidableEq, Repr

def State.fifoOf (s : State) : LSrc → Fifo
  | .stream n => (s.strm n).fifo
  | .ctx c => (s.cmp.ctx.get {} c).out
  | .h2d h => s.hst.toPort.getD h {}

/-- The FIFO changes; a stream's then takes what waits. -/
def State.setFifoOf (s : State) (k : LSrc) (f : Fifo) : State :=
  match k with
  | .stream n => (s.setStrm n { s.strm n with fifo := f }).fill n
  | .ctx c => { s with cmp := { s.cmp with ctx := s.cmp.ctx.set {} c { s.cmp.ctx.get {} c with out := f } } }
  | .h2d h => { s with hst := { s.hst with toPort := s.hst.toPort.set h f } }

/-- The stream that names a compression context (R242). -/
def State.streamOfCtx (s : State) (c : Nat) : Option Nat :=
  (List.range 64).find? fun n => (s.sink n).pkind == 2 && (s.sink n).cctx == c

/-- The primary and the secondary sink of a source (R240, R241). -/
def State.sinksOf (s : State) : LSrc → (Nat × Nat) × (Nat × Nat)
  | .stream n => (((s.sink n).pkind, (s.sink n).pidx), ((s.sink n).skind, (s.sink n).sidx))
  | .ctx c => (s.topo.cmpOut.getD c (0, 0), (0, 0))
  | .h2d h => let r := s.topo.role.getD h (3, 0, false); ((if r.1 = 2 then 3 else 0, r.2.1), (0, 0))

/-- H and STREAM of a source's frames (R399). -/
def State.tagOf (s : State) : LSrc → Bool × Nat
  | .stream n => (false, n)
  | .ctx c => (false, (s.streamOfCtx c).getD 0)
  | .h2d h => (true, h)

/-- The longest DATA frame of a port: N_max is 64 ns of its lanes (R387). -/
def State.dataMax (s : State) (p : Nat) : Nat :=
  min 63 (2 ^ s.get Reg.LNK_Pp_CFG_WIDTH p * (8 * (s.get Reg.LNK_Pp_STATUS_RATE p + 1)) - 2)

/-- How many of the words at hand one frame of `n` payload words takes, and whether it carries a poison mask: word 0 and the mask
take their place (R399). -/
def frameSplit (n : Nat) (l : List (Nat × Bool)) : Nat × Bool :=
  if (l.take (n - 2)).any (·.2) then (min l.length (n - 2), true)
  else if (l.take (n - 1)).any (·.2) then (min l.length (n - 2), false)
  else (min l.length (n - 1), false)

/-- One DATA frame with the next words of a packet (R399). -/
def State.dataFrame (s : State) (k : LSrc) (p copy dseq : Nat) (l : List (Nat × Bool)) (pm : Bool) : LFrame :=
  let t := s.tagOf k
  let mask := (List.range l.length).foldl (fun m i => m + boolNat ((l.getD i (0, false)).2) * 2 ^ i) 0
  { ty := 1
    tspec := s.get Reg.LNK_Pp_DEST_DEST p * 2 ^ 18 + s.get Reg.LNK_Pp_DEST_LOCAL p * 2 ^ 17 + copy * 2 ^ 16 + t.2 * 2 ^ 10 +
      boolNat pm * 2 ^ 9 + boolNat t.1 * 2 ^ 8
    body := (s.moduleId * 2 ^ 52 + dseq * 2 ^ 36) :: (if pm then [mask] else []) ++ l.map (·.1) }

/-- The next frame of a source goes out on the ports given with their COPY, and the sinks concerned have taken its words. -/
def State.sendFrom (s : State) (k : LSrc) (ports : List (Nat × Nat)) (first second : Bool) : Option State :=
  let f := s.fifoOf k
  match f.next (!first) with
  | none => none
  | some (pkt, o) =>
    let n := ports.foldl (fun m q => min m (s.dataMax q.1)) 63
    let rest := pkt.words.drop o
    let c := frameSplit n rest
    let l := rest.take c.1
    let t := s.tagOf k
    let key := boolNat t.1 * 64 + t.2
    let dseq := s.lnk.dseq.get 0 key
    let s := { s with lnk := { s.lnk with dseq := s.lnk.dseq.set 0 key ((dseq + 1) % 65536) } }
    let s := s.each ports fun s q => s.lbulk q.1
      { frame := s.dataFrame k q.1 q.2 dseq l c.2, stream := if t.1 then none else some t.2, lo := pkt.lo, hi := pkt.hi, words := l.length }
    let dual := (s.sinksOf k).2.1 != 0
    let f := if first then f.take false dual c.1 else f
    let f := if second then f.take true dual c.1 else f
    some (s.setFifoOf k f)

/-- A source sends one frame through port `p`, if it has one for it: two Lantern sinks take each frame together (R401). -/
def State.feedFrom (s : State) (p : Nat) (k : LSrc) : Option State :=
  let ((pk, pi), (sk, si)) := s.sinksOf k
  if pk = 3 ∧ sk = 3 then
    if pi = p ∨ si = p then s.sendFrom k ([(pi, 0), (si, 1)].filter fun q => s.canTake q.1) true true else none
  else if pk = 3 ∧ pi = p then s.sendFrom k [(p, 0)] true false
  else if sk = 3 ∧ si = p then s.sendFrom k [(p, 1)] false true
  else none

/-- All sources. -/
def lsrcs : List LSrc :=
  (List.range 64).map LSrc.stream ++ (List.range 64).map LSrc.ctx ++ (List.range 8).map LSrc.h2d

/-- The first source with a frame for the port sends it. -/
def State.feedLocal (s : State) (p : Nat) : Option State := lsrcs.findSome? (s.feedFrom p)

/-- The first received frame that waits for the port is forwarded on it (R400). -/
def State.forwardOne (s : State) (p : Nat) : Option State :=
  (List.range 8).findSome? fun q =>
    let x := s.lport q
    match x.rxBuf with
    | (o, f) :: l => if o = p then some ((s.setLport q { x with rxBuf := l }).lbulk p { frame := f }) else none
    | [] => none

/-- A port takes frames while it can, forwarded ones and its own in turn (R400). -/
def State.feedLoop : Nat → State → Nat → State
  | 0, s, _ => s
  | k + 1, s, p =>
    if s.canTake p then
      let turn := (s.lport p).turn
      let r := if turn then (s.forwardOne p).orElse fun _ => s.feedLocal p else (s.feedLocal p).orElse fun _ => s.forwardOne p
      match r with
      | none => s
      | some t => (t.setLport p { t.lport p with turn := !turn }).feedLoop k p
    else s

def State.feedPort (s : State) (p : Nat) : State := s.feedLoop bulkMax p

/-- What has entered a source goes to the ports that are its sinks. -/
def State.feedSink (s : State) (k : LSrc) : State :=
  let r := s.sinksOf k
  let s := s.cond (r.1.1 == 3) (·.feedPort r.1.2)
  s.cond (r.2.1 == 3) (·.feedPort r.2.2)

/-! ## Flares (R395) -/

/-- The payload of a flare (R395). -/
def flareBody (f : Flare) : List Nat :=
  [f.ftype * 2 ^ 62 + f.code * 2 ^ 58 + f.origin * 2 ^ 46 + f.fseq * 2 ^ 30 + f.mask * 2 ^ 14, f.sec * 2 ^ 16, f.ns * 2 ^ 34 + f.fine * 2 ^ 25]

/-- A flare goes out on every UP port but one (R395). -/
def State.spreadFlare (s : State) (f : Flare) (except : Option Nat) : State :=
  s.each ((List.range 8).filter fun p => s.lup p && some p != except) fun s p => s.lpri p { ty := 2, body := flareBody f }

/-- This module sends a flare of its own, with its next FSEQ; without a valid ET it is not sent and counts (R204). -/
def State.sendFlare (s : State) (f : Flare) : State :=
  if s.etValid then
    let f := { f with origin := s.moduleId, fseq := s.lnk.fseq }
    let s := { s with lnk := { s.lnk with fseq := (s.lnk.fseq + 1) % 65536 } }
    (s.gcount Reg.TRG_FLARE_OUT_COUNT).spreadFlare f none
  else (s.gcount Reg.TRG_NOTIME_COUNT).put Reg.TRG_INT_NOTIME 1

end Sys2Proof.Machine
end

