-- ==== Sys2Proof/Machine/Mem.lean ====
section
/-! DEFINITION. Machine/Mem.lean: buffer memory: bytes, the SEC-DED code and its checker, never-written blocks, the repeat
tracker, row remapping, partitions, the scrubber and BAR4 (chapter 16, R412). -/

namespace Sys2Proof.Machine

/-! ## Bytes and words -/

/-- One byte; an unlisted address reads 0 (R469). -/
def memGet (m : List Host.Cell) (a : Nat) : Byte := SMap.get 0 m a

/-- Write one byte in the canonical form: a byte that would read 0 is not listed. -/
def memSet (m : List Host.Cell) (a : Nat) (b : Byte) : List Host.Cell := SMap.set natLt 0 m a b

/-- The canonical form: addresses strictly rising, and no byte that reads as an unlisted one. -/
abbrev Memory.wf (m : List Host.Cell) : Prop := SMap.Sorted natLt m ∧ ∀ c ∈ m, c.2 ≠ 0

/-- The 64-bit word at word address `w`, least significant byte first. -/
def memWord (m : List Host.Cell) (w : Nat) : Nat :=
  (List.range 8).foldl (fun v i => v + (memGet m (8 * w + i)).toNat * 2 ^ (8 * i)) 0

/-- Write a 64-bit word. -/
def memPutWord (m : List Host.Cell) (w v : Nat) : List Host.Cell :=
  (List.range 8).foldl (fun m i => memSet m (8 * w + i) (BitVec.ofNat 8 (v / 2 ^ (8 * i)))) m

/-! ## Sizes and places (R458, R459, R462) -/

def mib : Nat := 1048576

/-- Installed data capacity in bytes. -/
def State.memCap (s : State) : Nat := s.get Reg.MEM_STATUS_SIZE * 256 * mib

def State.ringBase (s : State) : Nat := s.get Reg.MEM_RING_BASE * mib
def State.ringSize (s : State) : Nat := s.get Reg.MEM_RING_SIZE * mib
def State.burstBase (s : State) : Nat := s.get Reg.MEM_BURST_BASE * mib
def State.burstSize (s : State) : Nat := s.get Reg.MEM_BURST_SIZE * mib

/-- An address lies in a span. -/
def within (a base size : Nat) : Bool := decide (base ≤ a) && decide (a < base + size)

/-- The address lies in the covered area: outside the ring and burst partitions (R469). -/
def State.covered (s : State) (a : Nat) : Bool :=
  !within a s.ringBase s.ringSize && !within a s.burstBase s.burstSize

/-- Channel and row of an address (R459). -/
def State.memRow (s : State) (a : Nat) : Nat × Nat :=
  let chs := (List.range 12).filter fun n => bit (s.get Reg.MEM_STATUS_CHMASK) n
  let n := max 1 chs.length
  let b := a / 512
  (chs.getD (b % n) 0, (b / n * 512 + a % 512) / 2048)

/-- Every byte, error, and valid bit in the addresses that `c` selects returns to never written (R470). -/
def State.unwrite (s : State) (c : Nat → Bool) : State :=
  { s with
    mem := s.mem.filter fun e => !c e.1
    ram := { s.ram with valid := s.ram.valid.filter fun e => !c (e.1 * 512), err := s.ram.err.filter fun e => !c (e.1 * 8) } }

/-! ## The code (R465 to R467) -/

/-- The codeword position of data bit `j`: the (j + 1)-th that is not a power of two (R465). -/
def dataPos (j : Nat) : Nat :=
  ((List.range 72).filter fun p => decide (0 < p) && !([1, 2, 4, 8, 16, 32, 64].contains p)).getD j 0

/-- The codeword position of pattern bit `k`: D[k], or C[k - 64]; C[7] has none. -/
def bitPos (k : Nat) : Nat := if k < 64 then dataPos k else if k < 71 then 2 ^ (k - 64) else 0

/-- The bits of an error pattern. -/
def errBits (e : Nat) : List Nat := (List.range 72).filter fun k => bit e k

/-- The syndrome of an error pattern, and its parity (R466). -/
def syndrome (e : Nat) : Nat := (errBits e).foldl (fun s k => Nat.xor s (bitPos k)) 0
def oddParity (e : Nat) : Bool := (errBits e).length % 2 == 1

/-- The mark of a poisoned word: C[6:0] inverted (R467). -/
def poisonMark : Nat := 0x7F * 2 ^ 64

/-- What the checker finds (R466). -/
inductive Check where
  | clean
  | corrected (bit : Nat)
  | poison
  | uncorrectable
  deriving DecidableEq, Repr

def checkErr (e : Nat) : Check :=
  let s := syndrome e
  if oddParity e then
    if s = 0 then .corrected 71
    else if s = 0x7F then .poison
    else if s ≤ 71 then .corrected (((List.range 71).find? fun k => bitPos k == s).getD 0)
    else .uncorrectable
  else if s = 0 then .clean
  else .uncorrectable

/-- A memory counter. -/
def State.mcount (s : State) (f : Fld) (n : Nat := 1) : State := s.bump f Reg.MEM_INT_CNT_SAT 0 0 n

/-- A word's data, and how its stored codeword differs from theirs. -/
def State.setWord (s : State) (w v e : Nat) : State := { s with mem := memPutWord s.mem w v, ram := { s.ram with err := s.ram.err.set 0 w e } }

/-- A word's data as they stand in the store. -/
def State.rawWord (s : State) (w : Nat) : Nat := Nat.xor (memWord s.mem w) (s.ram.err.get 0 w % 2 ^ 64)

/-- Data with the bit that a correction names turned; a check bit leaves them. -/
def corrected (d k : Nat) : Nat := if k < 64 then Nat.xor d (2 ^ k) else d

/-- Store a word as its requester sends it: good check bits, or the poison mark; stuck cells keep their fault. -/
def State.storeWord (s : State) (w v : Nat) (poison : Bool) : State :=
  s.setWord w v (Nat.xor (if poison then poisonMark else 0) (s.ram.stuck.get 0 w))

/-- An uncorrectable word counts, raises fault 0x15 and is marked as poisoned (R467, R499). -/
def State.uncorrectable (s : State) (w : Nat) : State :=
  (((s.mcount Reg.MEM_UE_COUNT).put Reg.MEM_INT_UE 1).storeWord w (s.rawWord w) true).fault 0x15 (s.memRow (8 * w)).1

/-- The repeat tracker's registers. -/
def State.showTrk (s : State) : State :=
  s.each (List.range 64) fun s i =>
    let t := s.ram.trk.getD i none
    let s := (s.put Reg.MEM_RPT_ADDR_WORD ((t.map (·.word)).getD 0) 0 i).putB Reg.MEM_RPT_ADDR_VALID t.isSome 0 i
    let s := (s.put Reg.MEM_RPT_INFO_COUNT ((t.map (·.count)).getD 0) 0 i).put Reg.MEM_RPT_INFO_BIT ((t.map (·.bit)).getD 0) 0 i
    s.putB Reg.MEM_RPT_INFO_REWRITTEN ((t.map (·.rewritten)).getD false) 0 i

def State.setTrk (s : State) (l : List (Option Trk)) : State := { s with ram := { s.ram with trk := l } }.showTrk

/-- Any write to a word frees its tracker entry (R473). -/
def State.freeTrk (s : State) (w : Nat) : State :=
  if s.ram.trk.any fun t => t.map (·.word) == some w then
    s.setTrk (s.ram.trk.map fun t => if t.map (·.word) == some w then none else t)
  else s

/-- Where a word without an entry is put: a free entry, or the one least recently corrected (R473). -/
def trkSlot (l : List (Option Trk)) : Nat :=
  match (List.range 64).find? fun i => (l.getD i none).isNone with
  | some i => i
  | none => (List.range 64).foldl (fun b i =>
      if ((l.getD i none).map (·.stamp)).getD 0 < ((l.getD b none).map (·.stamp)).getD 0 then i else b) 0

/-! ## Row remapping (R474, R475) -/

/-- The remap table's registers (R475, R480). -/
def State.showRemap (s : State) : State :=
  let s := s.put Reg.MEM_REMAP_STATUS_USED s.store.remap.length
  s.each s.store.remap.zipIdx fun s e =>
    ((s.put Reg.MEM_REMAP_ENTRY_CH e.1.1 0 e.2).put Reg.MEM_REMAP_ENTRY_ROW e.1.2 0 e.2).put Reg.MEM_REMAP_ENTRY_VALID 1 0 e.2

/-- A word goes into the spare row: corrected, or with its poison mark (R474). -/
def State.copyWord (s : State) (w : Nat) : State :=
  match checkErr (s.ram.err.get 0 w) with
  | .clean => s
  | .corrected k => s.setWord w (corrected (s.rawWord w) k) 0
  | .poison => s.setWord w (s.rawWord w) poisonMark
  | .uncorrectable => s.uncorrectable w

/-- The copy of a row completes: its words stand in the spare row, which has no failing cells, and the table, the audit log and the spare pool
record it (R474, R475, R512). -/
def State.remapRow (s : State) (r : Nat × Nat) : State :=
  let inRow (w : Nat) : Bool := s.memRow (8 * w) == r
  let ws := (s.ram.err.map (·.1)).filter inRow
  let s := { s with
    ram := { s.ram with copies := s.ram.copies.filter (· != r), stuck := s.ram.stuck.filter fun e => !inRow e.1 }
    store := { s.store with remap := s.store.remap ++ [r] } }
  let s := ((s.each ws State.copyWord).showRemap).put Reg.MEM_INT_REMAP 1
  let u := r.1 * 2 ^ 18 + r.2
  (s.audit 0x13 0 (poolTarget 11 u) 0 0 0).bringSpare 11 u (256 - s.store.remap.length)

/-- An access to a row whose copy is under way waits for it (R474). -/
def State.awaitRow (s : State) (w : Nat) : State :=
  if s.ram.copies = [] then s
  else if s.ram.copies.contains (s.memRow (8 * w)) then s.remapRow (s.memRow (8 * w))
  else s

/-- The first row copy under way completes (R474, R475). -/
def execRowRemapDone (s : State) : Out :=
  .next <| match s.ram.copies with
    | [] => s
    | r :: _ => s.remapRow r

/-! ## The tracker and checked accesses -/

/-- The read-back of word `w`, whose tracker entry is number `i` of `l`, after its rewrite: clean, its count starts again; still to be
corrected, its row is to be copied to a spare, or, without one, the entry stays and the table is full; uncorrectable, the word is marked
(R474, R475, R499). -/
def State.readBack (s : State) (w i : Nat) (t : Trk) (l : List (Option Trk)) : State :=
  match checkErr (s.ram.err.get 0 w) with
  | .clean => s.setTrk (l.set i (some t))
  | .corrected _ =>
    if s.store.remap.length + s.ram.copies.length < 256 then
      { s with ram := { s.ram with copies := s.ram.copies ++ [s.memRow (8 * w)] } }.setTrk (l.set i none)
    else ((s.setTrk (l.set i (some t))).put Reg.MEM_INT_REMAP_FULL 1).fault 0x14 0
  | _ => (s.setTrk (l.set i none)).uncorrectable w

/-- A corrected read reaches the tracker; at a count of 8 the corrected word `v` is rewritten and read back (R473, R474). -/
def State.trackWord (s : State) (w k v : Nat) : State :=
  let l := (List.range 64).map fun i => s.ram.trk.getD i none
  let i := ((List.range 64).find? fun i => (l.getD i none).map (·.word) == some w).getD (trkSlot l)
  let old : Trk := match l.getD i none with
    | some t => if t.word = w then t else { word := w, count := 0, bit := 0, stamp := 0 }
    | none => { word := w, count := 0, bit := 0, stamp := 0 }
  let t : Trk := { old with count := old.count + 1, bit := k, stamp := s.ram.tick + 1 }
  let s := { s with ram := { s.ram with tick := s.ram.tick + 1 } }
  if t.count < 8 then s.setTrk (l.set i (some t))
  else
    let s := ((s.storeWord w v false).mcount Reg.MEM_RPT_REWR_COUNT).put Reg.MEM_INT_RPT_REWRITE 1
    s.readBack w i { t with count := 0, rewritten := true } l

/-- An access to `n` words from `w` on waits for the copies of their rows; one to a never-written block reads no row (R469, R474). -/
def State.awaitRows (s : State) (w n : Nat) : State :=
  s.each ((List.range n).map (w + ·)) fun s w => s.cond (s.ram.valid.get false (w / 64)) (·.awaitRow w)

/-- The checked read of one word whose row is at rest: its data and its poison tag (R466, R467, R469). -/
def State.readWord64 (s : State) (w : Nat) : State × Nat × Bool :=
  if !(s.ram.valid.get false (w / 64)) then (s, 0, false)
  else
    let d := s.rawWord w
    match checkErr (s.ram.err.get 0 w) with
    | .clean => (s, d, false)
    | .corrected k => ((s.mcount Reg.MEM_CORR_COUNT).trackWord w k (corrected d k), corrected d k, false)
    | .poison => (s.mcount Reg.MEM_POISON_RD_COUNT, d, true)
    | .uncorrectable => ((s.freeTrk w).uncorrectable w, d, true)

/-- Checked reads of consecutive words; each never-written block is counted once (R469). -/
def State.readWords (s : State) (w n : Nat) : State × List (Nat × Bool) :=
  let blocks := (List.range n).map (fun i => (w + i) / 64) |>.dedup
  let z := (blocks.filter fun b => !(s.ram.valid.get false b)).length
  let s := (if z = 0 then s else s.mcount Reg.MEM_ZREAD_COUNT z).awaitRows w n
  (List.range n).foldl (fun (a : State × List (Nat × Bool)) i =>
    let r := a.1.readWord64 (w + i)
    (r.1, a.2 ++ [(r.2.1, r.2.2)])) (s, [])

/-- Bytes `a` to `a + n - 1` by checked reads, and whether a word among them is poisoned. -/
def State.readBytes (s : State) (a n : Nat) : State × List Nat × Bool :=
  if n = 0 then (s, [], false)
  else
    let w := a / 8
    let r := s.readWords w ((a + n - 1) / 8 - w + 1)
    (r.1, (List.range n).map fun i => bits ((r.2.getD ((a + i) / 8 - w) (0, false)).1) (8 * ((a + i) % 8)) 8,
      r.2.any (·.2))

/-- The first write to a never-written block fills it with zero words, in which stuck cells show, and sets its valid bit (R470). -/
def State.fillBlock (s : State) (b : Nat) : State :=
  if s.ram.valid.get false b then s
  else
    let l := s.ram.stuck.filter fun e => e.1 / 64 == b
    { s with ram := { s.ram with valid := s.ram.valid.set false b true, err := l.foldl (fun m e => m.set 0 e.1 e.2) s.ram.err } }

/-- A full-word write: its block is filled if nothing has written it, and good check bits, or the poison mark, replace what was stored
(R467, R470). -/
def State.writeWord64 (s : State) (w v : Nat) (poison : Bool) : State :=
  (((s.awaitRow w).fillBlock (w / 64)).freeTrk w).storeWord w v poison

/-- Words written in order. -/
def State.writeWords (s : State) (w : Nat) (l : List (Nat × Bool)) : State :=
  (l.foldl (fun (a : State × Nat) x => (a.1.writeWord64 a.2 x.1 x.2, a.2 + 1)) (s, w)).1

/-- The write of some bytes of one word: a read-modify-write unless it covers the word (R468). -/
def State.writePart (s : State) (w : Nat) (l : List (Nat × Nat)) (poison : Bool) : State :=
  let put (v : Nat) := l.foldl (fun v x => setBits v (8 * x.1) 8 x.2) v
  if (List.range 8).all fun i => l.any fun x => x.1 == i then s.writeWord64 w (put 0) poison
  else
    let r := (s.awaitRows w 1).readWord64 w
    (r.1.mcount Reg.MEM_RMW_COUNT).writeWord64 w (put r.2.1) (r.2.2 || poison)

/-- Bytes written from address `a` on (R465, R468). -/
def State.writeBytes (s : State) (a : Nat) (l : List Nat) (poison : Bool) : State :=
  if l = [] then s
  else
    let w := a / 8
    s.each (List.range ((a + l.length - 1) / 8 - w + 1)) fun s i =>
      s.writePart (w + i) ((List.range 8).filterMap fun j =>
        let x := 8 * (w + i) + j
        if a ≤ x ∧ x < a + l.length then some (j, l.getD (x - a) 0 % 256) else none) poison

/-! ## Commands -/

/-- What has befallen a word of the DRAM since it was last read: bits that flipped, and cells that have failed for good. A word in the
spare-row store takes none of it, and a never-written one shows only the cells, at its first write (R466, R474). -/
def State.befall (s : State) (w upset stuck : Nat) : State :=
  let s := s.awaitRow w
  if s.store.remap.contains (s.memRow (8 * w)) then s
  else
    let e := Nat.xor (Nat.xor (s.ram.err.get 0 w) (upset % 2 ^ 72)) (stuck % 2 ^ 72)
    { s with ram := { s.ram with err := if s.ram.valid.get false (w / 64) then s.ram.err.set 0 w e else s.ram.err
                                 stuck := s.ram.stuck.set 0 w (Nat.xor (s.ram.stuck.get 0 w) (stuck % 2 ^ 72)) } }

/-- An uncorrectable error in the valid-bit store: the 64 blocks of its word count as written, and what the DRAM happens to hold shows in those
that were not (R469). -/
def State.validLost (s : State) (b : Nat) : State :=
  let l := ((List.range 64).map (b / 64 * 64 + ·)).filter fun k =>
    !s.ram.valid.get false k && s.covered (512 * k) && decide (512 * k < s.memCap)
  let n := s.drawn
  let s := s.each l fun s k =>
    let s := { s with ram := { s.ram with valid := s.ram.valid.set false k true } }
    s.each ((List.range 64).map (64 * k + ·)) fun s w =>
      let v := (Config.dramWord n w).toNat
      s.setWord w (v % 2 ^ 64) (v / 2 ^ 64)
  s.draw.put Reg.MEM_INT_UE 1

/-- A read of 64 bytes at `addr`: its words, corrected, with their poison tags. `upset` and `stuck` are what befell its eight words since they
were last read, and `lost` says that the valid bits of its block are in error beyond correction (R466, R467, R469, R474). -/
def execMemRead (addr : Nat) (upset stuck : List Nat) (lost : Bool) (s : State) : Out :=
  let w := addr / 64 * 8
  if addr < s.memCap then
    let s := s.cond (lost && s.covered addr) (·.validLost (w / 64))
    let s := s.each (List.range 8) fun s i => s.befall (w + i) (upset.getD i 0) (stuck.getD i 0)
    let r := s.readWords w 8
    .next { r.1 with rdata := r.2.map (·.1), ram := { r.1.ram with tags := r.2.map (·.2) } }
  else .next s

/-- A write of bytes from `addr` on, with or without the poison tag (R465, R467, R468). -/
def execMemWrite (addr : Nat) (data : List Nat) (poison : Bool) (s : State) : Out :=
  .next (s.cond (decide (addr + data.length ≤ s.memCap)) (·.writeBytes addr data poison))

/-- The three partitions: base, size, in MiB. -/
def State.partitions (s : State) : List (Nat × Nat) :=
  [(s.get Reg.MEM_RING_BASE, s.get Reg.MEM_RING_SIZE), (s.get Reg.MEM_BURST_BASE, s.get Reg.MEM_BURST_SIZE),
   (s.get Reg.MEM_SPILL_BASE, s.get Reg.MEM_SPILL_EN)]

/-- Two spans overlap. -/
def overlap (a b : Nat × Nat) : Bool :=
  decide (0 < a.2) && decide (0 < b.2) && decide (a.1 < b.1 + b.2) && decide (b.1 < a.1 + a.2)

/-- A memory command refused with a code (R462, R471). -/
def State.memRefuse (s : State) (code : Nat) : State := (s.put Reg.MEM_INT_REFUSED 1).put Reg.MEM_ERR_CODE code

/-- The partition is locked by its user (R463). -/
def State.partLocked (s : State) : Nat → Bool
  | 0 => s.flag Reg.TRG_CTRL_RING_EN
  | 1 => s.frm.burst.tmpl.isSome
  | _ => s.flag Reg.CMP_CTRL_EN

/-- MEM_COVER: capacity without the ring and burst partitions (R469). -/
def State.showCover (s : State) : State :=
  s.put Reg.MEM_COVER_MIB (s.get Reg.MEM_STATUS_SIZE * 256 - s.get Reg.MEM_RING_SIZE - s.get Reg.MEM_BURST_SIZE)

/-- A write that places partition `k` (0 ring, 1 burst, 2 spill), or its refusal (R6, R462, R463, R470). -/
def State.memPartition (s : State) (k v : Nat) : State :=
  let new := if k = 2 then (bits v 0 13, bits v 16 1) else (bits v 0 13, bits v 16 13)
  let old := s.partitions
  let l := old.set k new
  let cap := s.get Reg.MEM_STATUS_SIZE * 256
  if old.getD k (0, 0) = new then s
  else if s.partLocked k then s.memRefuse 7
  else if 0 < new.2 ∧ cap < new.1 + new.2 then s.memRefuse 1
  else if overlap (l.getD 0 (0, 0)) (l.getD 1 (0, 0)) || overlap (l.getD 0 (0, 0)) (l.getD 2 (0, 0)) ||
      overlap (l.getD 1 (0, 0)) (l.getD 2 (0, 0)) then s.memRefuse 2
  else if 4096 < cap - (l.getD 0 (0, 0)).2 - (l.getD 1 (0, 0)).2 then s.memRefuse 3
  else
    let t := match k with
      | 0 => (s.put Reg.MEM_RING_BASE new.1).put Reg.MEM_RING_SIZE new.2
      | 1 => (s.put Reg.MEM_BURST_BASE new.1).put Reg.MEM_BURST_SIZE new.2
      | _ => ((s.put Reg.MEM_SPILL_BASE new.1).put Reg.MEM_SPILL_EN new.2).put Reg.CMP_SPILL_BASE new.1
    (t.unwrite fun a => s.covered a != t.covered a).showCover

/-- A write of MEM_RING, MEM_BURST or MEM_SPILL (R462). -/
def execMemPartitionWrite (which val : Nat) (s : State) : Out :=
  need (decide (which < 3)) (s.bar (0x210010 + 4 * which) (·.memPartition which val))

/-! ## The scrubber (R471, R472) -/

/-- A write of MEM_SCRUB_CTRL.START: a scrub begins and its summary is cleared, or it is refused. -/
def execScrubStart (val : Nat) (s : State) : Out :=
  need (bit val 0) <| s.bar 0x210038 fun s =>
    let s := s.put Reg.MEM_SCRUB_CTRL_RATE (bits val 8 8)
    let b := s.get Reg.MEM_SCRUB_BASE_BLOCK
    let n := s.get Reg.MEM_SCRUB_LEN_BLOCKS
    if s.get Reg.MEM_SCRUB_STATUS_STATE = 1 ∨ n = 0 ∨ s.memCap < (b + n) * 512 then s.memRefuse 4
    else
      let s := s.each [Reg.MEM_SCRUB_READ_COUNT, Reg.MEM_SCRUB_CORR_COUNT, Reg.MEM_SCRUB_UE_COUNT, Reg.MEM_SCRUB_POISON_COUNT,
        Reg.MEM_SCRUB_SKIP_COUNT, Reg.MEM_SCRUB_FIRST_WORD, Reg.MEM_SCRUB_FIRST_VALID] fun s f => s.put f 0
      let s := { s with ram := { s.ram with scrubEnd := b + n } }
      (s.put Reg.MEM_SCRUB_STATUS_STATE 1).put Reg.MEM_SCRUB_STATUS_NEXT b

/-- One word of a written block is scrubbed: a corrected word is written back. -/
def State.scrubWord (s : State) (w : Nat) : State :=
  let s := (s.awaitRow w).mcount Reg.MEM_SCRUB_READ_COUNT
  let c := checkErr (s.ram.err.get 0 w)
  let r := s.readWord64 w
  match c with
  | .clean => r.1
  | .corrected _ => (r.1.mcount Reg.MEM_SCRUB_CORR_COUNT).writeWord64 w r.2.1 false
  | .poison => r.1.mcount Reg.MEM_SCRUB_POISON_COUNT
  | .uncorrectable =>
    let s := r.1.mcount Reg.MEM_SCRUB_UE_COUNT
    if s.flag Reg.MEM_SCRUB_FIRST_VALID then s
    else (s.put Reg.MEM_SCRUB_FIRST_WORD w).put Reg.MEM_SCRUB_FIRST_VALID 1

/-- The scrub reads `n` blocks from NEXT on, or to the end of its range. -/
def State.scrubOver (s : State) (n : Nat) : State :=
  let b := s.get Reg.MEM_SCRUB_STATUS_NEXT
  let n := min n (s.ram.scrubEnd - b)
  let blocks := (s.ram.valid.map (·.1)).filter fun k => decide (b ≤ k) && decide (k < b + n)
  let s := s.each blocks fun s k => s.each (List.range 64) fun s i => s.scrubWord (k * 64 + i)
  let s := if blocks.length < n then s.mcount Reg.MEM_SCRUB_SKIP_COUNT (n - blocks.length) else s
  s.put Reg.MEM_SCRUB_STATUS_NEXT (b + n)

/-- A write of MEM_SCRUB_CTRL.ABORT ends the scrub at its next word; `done` blocks and `words` words of the next block had been read by
then. -/
def execScrubAbort (val done words : Nat) (s : State) : Out :=
  need (bit val 1 && !bit val 0) <| s.bar 0x210038 fun s =>
    let s := s.put Reg.MEM_SCRUB_CTRL_RATE (bits val 8 8)
    if s.get Reg.MEM_SCRUB_STATUS_STATE = 1 then
      let s := s.scrubOver done
      let b := s.get Reg.MEM_SCRUB_STATUS_NEXT
      let s := s.cond (s.ram.valid.get false b && decide (b < s.ram.scrubEnd)) fun s =>
        s.each (List.range (min words 63)) fun s i => s.scrubWord (64 * b + i)
      s.put Reg.MEM_SCRUB_STATUS_STATE 3
    else s

/-- The scrub reaches the end of its range. -/
def execScrubDone (s : State) : Out :=
  .next (if s.get Reg.MEM_SCRUB_STATUS_STATE = 1 then
    ((s.scrubOver s.ram.scrubEnd).put Reg.MEM_SCRUB_STATUS_STATE 2).put Reg.MEM_INT_SCRUB_DONE 1 else s)

/-! ## BAR4 (R412, R464) -/

/-- BAR4 is decoded: the function is up and the module is not in pilot-light mode (R414). -/
def State.bar4Up (s : State) : Bool := s.pcieUp && s.sys.phase != .pilot

def State.bar4Base (s : State) : Nat := s.get Reg.HST_BAR4_BASE_BASE * 16 * mib

/-- A BAR4 access beyond the installed memory is counted (R412). -/
def State.bar4Oor (s : State) : State :=
  (s.bump Reg.HST_BAR4_OOR_COUNT Reg.HST_INT_CNT_SAT).put Reg.HST_INT_BAR4_OOR 1

/-- A read of `n` bytes at BAR4 offset `off`: memory's bytes, with the poisoned bit where a word among them is poisoned, or all ones out of
range (R412, R467). -/
def execBar4Read (off n : Nat) (s : State) : Out :=
  need (decide (off + n ≤ barSize 4)) (if s.bar4Up then
    let a := s.bar4Base + off
    if a + n ≤ s.memCap then
      let r := s.readBytes a n
      { r.1 with rdata := r.2.1, hst := { r.1.hst with ep := r.2.2 } }
    else
      let s := s.bar4Oor
      { s with rdata := List.replicate n 255, hst := { s.hst with ep := false } }
  else s)

/-- A write of bytes at BAR4 offset `off`: discarded out of range, and in a partition in use (R412, R464). -/
def execBar4Write (off : Nat) (data : List Nat) (s : State) : Out :=
  need (decide (off + data.length ≤ barSize 4)) (if s.bar4Up then
    let a := s.bar4Base + off
    let hits (b n : Nat) : Bool := decide (0 < n) && decide (a < b + n) && decide (b < a + data.length)
    if s.memCap < a + data.length then s.bar4Oor
    else if (s.flag Reg.TRG_CTRL_RING_EN && hits s.ringBase s.ringSize) ||
        (s.frm.burst.tmpl.isSome && hits s.burstBase s.burstSize) then
      (s.mcount Reg.MEM_BAR4_PROT_COUNT).put Reg.MEM_INT_PROT 1
    else s.writeBytes a data false
  else s)

/-! ## SRAM repair and counters (R477, R481) -/

/-- A write of MEM_SRAM_FUSE.PROG, a FUSE field of the Service role (R5, R519, R531): refused unless the selected array has a soft
repair to fuse. -/
def execSramFuseProg (val : Nat) (s : State) : Out :=
  need (bit val 0) <| s.bar 0x2100A8 fun s =>
    let a := s.get Reg.MEM_SRAM_SEL_ARRAY
    s.guardedIn Reg.MEM_INT_REFUSED 2 0x2100A8 0 val a [4]
      (if s.get Reg.MEM_SRAM_INFO_FUSE_LEFT 0 a = 0 then 2 else if s.flag Reg.MEM_SRAM_INFO_PEND 0 a then 0 else 3)

/-- The soft repair of array `a` is programmed into its fuses, which uses their elements whether or not it reads back (R477, R523). -/
def State.sramFuse (s : State) (a : Nat) (ok : Bool) : State :=
  let r := s.get Reg.MEM_SRAM_INFO_ROWS 0 a
  let c := s.get Reg.MEM_SRAM_INFO_COLS 0 a
  let s := { s with store := { s.store with sramFused := s.store.sramFused.set 0 a ((2 - r) + 4 * (1 - c)) } }
  (s.cond ok (·.put Reg.MEM_SRAM_INFO_PEND 0 0 a)).put Reg.MEM_SRAM_INFO_FUSE_LEFT (r + c) 0 a

/-- A write of MEM_CNT_CLR clears the memory counters and PEAK (R481). -/
def execMemCntClr (s : State) : Out :=
  .next <| s.bar 0x2100C8 fun s => s.clearFields ([Reg.MEM_CORR_COUNT, Reg.MEM_UE_COUNT, Reg.MEM_POISON_RD_COUNT,
    Reg.MEM_RMW_COUNT, Reg.MEM_ZREAD_COUNT, Reg.MEM_BAR4_PROT_COUNT, Reg.MEM_RPT_REWR_COUNT, Reg.MEM_CH_STALL_COUNT,
    Reg.MEM_CH_OUTST_PEAK].map (·.id))

end Sys2Proof.Machine
end

