-- ==== Sys2Proof/Machine/Stream.lean ====
section
/-! DEFINITION. Machine/Stream.lean: stream packets, packers, and the FIFO between each packer and its sink (R166 to R176, R428
to R431). -/

namespace Sys2Proof.Machine

/-- An event-path counter. -/
def State.ecount (s : State) (f : Fld) (n : Nat := 1) : State := s.bump f Reg.EVT_INT_CNT_SAT 0 0 n

/-! ## Formats (R166, R171, R172) -/

/-- A packet header (R166). -/
def pktHeader (ty stream nitem seq : Nat) (restart : Bool) : Nat :=
  0xA5 * 2 ^ 56 + ty * 2 ^ 52 + stream * 2 ^ 46 + nitem * 2 ^ 36 + seq % 65536 * 2 ^ 20 + boolNat restart * 2 ^ 19

/-- Two cluster records in three words, an odd last one in two (R171). A record is bits 95:32, then bits 31:0. -/
def packClusters : List (List (Nat × Bool)) → List (Nat × Bool)
  | [(a0, p), (a1, q)] :: [(b0, r), (b1, t)] :: l =>
    (a0, p) :: (a1 * 2 ^ 32 + b0 / 2 ^ 32, q || r) :: (b0 % 2 ^ 32 * 2 ^ 32 + b1, r || t) :: packClusters l
  | [[(a0, p), (a1, q)]] => [(a0, p), (a1 * 2 ^ 32, q)]
  | _ => []

/-- The body of a packet. -/
def pktBody (ty : Nat) (items : List SItem) : List (Nat × Bool) :=
  if ty = 2 then packClusters (items.map (·.words)) else items.flatMap (·.words)

/-- Word 1 of a gap record (R172). -/
def gapWord (len kind scope : Nat) (cont : Bool) (count place : Nat) : Nat :=
  len * 2 ^ 32 + kind * 2 ^ 28 + scope * 2 ^ 25 + boolNat cont * 2 ^ 24 + min 255 count * 2 ^ 16 + place

/-- The longest interval one record covers. -/
def gapMax : Nat := 2 ^ 32 - 1

/-- The records of a gap from `start` to `stop`: a start before DT_REF 0 is cut, and a long interval takes consecutive records,
of which the last alone carries COUNT and `cont` (R172). -/
def gapItems (start stop : Int) (kind scope : Nat) (cont : Bool) (count place : Nat) : List SItem :=
  let a := start.toNat
  let len := max 1 (stop.toNat - a)
  let n := (len - 1) / gapMax
  (List.range (n + 1)).map fun i =>
    let b := a + i * gapMax
    let l := if i < n then gapMax else len - n * gapMax
    { words := [(b, false), (gapWord l kind scope (i < n || cont) (if i < n then 0 else count) place, false)]
      lo := b, hi := b + l - 1 }

/-! ## The FIFO (R428 to R431) -/

/-- The stream is lossless (R431). -/
def State.lossless (s : State) (n : Nat) : Bool := bit (s.get Reg.HST_STRM_POLICY_LOSSLESS (n / 32)) (n % 32)

/-- The FIFO takes what waits, and a Lantern port that is its sink what it finds there. -/
def State.pumpStrm (s : State) (n : Nat) : State := (s.fill n).feedSink (.stream n)

/-- A packet of items is formed, with the stream's next SEQ (R166, R168). -/
def State.form (s : State) (n ty : Nat) (items : List SItem) (keep : Bool := false) : State × SPkt :=
  let x := s.strm n
  let q := s.get Reg.EVT_STRM_STATn_NEXT_SEQ n
  let lo := items.foldl (fun m i => min m i.lo) ((items.head?.map (·.lo)).getD 0)
  let hi := items.foldl (fun m i => max m i.hi) 0
  let p : SPkt := { ty := ty, words := (pktHeader ty n items.length q x.restart, false) :: pktBody ty items,
                    items := items.length, lo := lo, hi := hi, keep := keep, stream := n, since := s.dtRef }
  ((s.put Reg.EVT_STRM_STATn_NEXT_SEQ (q + 1) n).setStrm n { x with restart := false }, p)

/-- A packet takes its place behind those that wait, or in the FIFO. -/
def State.enqueue (s : State) (n : Nat) (p : SPkt) : State :=
  let x := s.strm n
  (s.setStrm n { x with wait := x.wait ++ [p] }).pumpStrm n

/-- A discarded packet: HST_STRM_OVR, DISC and DITEMS, and the overrun episode (R429, R430). -/
def State.discardPkt (s : State) (n : Nat) (p : SPkt) : State :=
  let s := s.put Reg.HST_STRM_OVR_OVR (Nat.lor (s.get Reg.HST_STRM_OVR_OVR (n / 32)) (2 ^ (n % 32))) (n / 32)
  let s := (s.bump Reg.HST_STRM_DISC_COUNT Reg.HST_INT_CNT_SAT 0 n).bump Reg.HST_STRM_DITEMS_COUNT Reg.HST_INT_CNT_SAT 0 n p.items
  let s := s.put Reg.HST_INT_OVR 1
  let x := s.strm n
  s.setStrm n { x with ovr := some (match x.ovr with
    | none => (p.lo, p.hi, p.items)
    | some (a, b, k) => (min a p.lo, max b p.hi, k + p.items)) }

/-- The gap record of an overrun episode, in a packet of its own (R430). -/
def State.overrunGap (s : State) (n : Nat) : State :=
  let x := s.strm n
  match x.ovr with
  | none => s
  | some (a, b, k) =>
    let s := s.setStrm n { x with ovr := none }
    let r := s.form n 4 (gapItems a (b + 1) 9 3 false k 0)
    r.1.enqueue n r.2

/-- The size in bytes of a packet of these items. -/
def pktSize (ty : Nat) (items : List SItem) : Nat := 8 * (1 + (pktBody ty items).length)

/-- Items of one TYPE leave the packer as one packet: a data packet that finds no room is discarded, or waits in a lossless
stream and in an extraction (`hold`, R199); a control packet waits. The gap record of an overrun that goes ahead of a data packet takes its
space from the reserve, so that the packet still fits (R428 to R431). -/
def State.emit (s : State) (n ty : Nat) (items : List SItem) (hold : Bool := false) : State :=
  let x := s.strm n
  let room := x.wait == [] && decide (pktSize ty items + 8192 ≤ s.strmFree n)
  if isData ty then
    if room || hold || s.lossless n then
      let s := s.overrunGap n
      let r := s.form n ty items room
      r.1.enqueue n r.2
    else
      let r := s.form n ty items
      r.1.discardPkt n r.2
  else
    let r := s.form n ty items
    r.1.enqueue n r.2

/-- The packets of one tile-frame: the decision at its header covers them all (R429). -/
def State.emitFrame (s : State) (n : Nat) (pkts : List (Nat × List SItem)) (hold : Bool := false) : State :=
  match pkts with
  | [] => s
  | (ty, items) :: _ =>
    let x := s.strm n
    if (x.wait == [] && decide (pktSize ty items + 8192 ≤ s.strmFree n)) || hold || s.lossless n then
      let s := s.overrunGap n
      s.each pkts fun s p =>
        let r := s.form n p.1 p.2 true
        r.1.enqueue n r.2
    else s.each pkts fun s p =>
      let r := s.form n p.1 p.2
      r.1.discardPkt n r.2

/-! ## The packer (R168 to R170) -/

/-- The open packet closes; an extraction's is never discarded (R199). -/
def State.closePkt (s : State) (n : Nat) : State :=
  let x := s.strm n
  match x.opn with
  | none => s
  | some p => ((s.setStrm n { x with opn := none }).put Reg.EVT_STRM_STATn_OPEN 0 n).emit n p.ty p.items p.hold

/-- A capture context ends with what has been closed so far (R419). -/
def State.endsWith (s : State) (n : Nat) : State :=
  let x := s.strm n
  s.setStrm n { x with wait := x.wait.modify (x.wait.length - 1) fun p => { p with ctxEnd := true }
                       fifo := x.fifo.endMark (x.wait != []) (s.dual n) }

/-- Items a packet may hold (R180). -/
def State.maxItem (s : State) (n : Nat) : Nat :=
  let m := s.get Reg.EVT_STRM_CFGn_MAXITEM n
  if m = 0 ∨ 256 < m then 256 else m

/-- An item joins the open packet of its TYPE, after the packet of another TYPE has closed; a poisoned cluster record has a
packet to itself (R168, R175). -/
def State.pack (s : State) (n ty : Nat) (i : SItem) (hold : Bool := false) : State :=
  let alone := ty == 2 && i.words.any (·.2)
  let s := s.cond (((s.strm n).opn.map (·.ty)).getD ty != ty || alone) (·.closePkt n)
  let x := s.strm n
  let p : OpenPkt := x.opn.getD { ty := ty, items := [], since := s.dtRef }
  let p := { p with items := p.items ++ [i], hold := p.hold || hold }
  let s := (s.setStrm n { x with opn := some p }).put Reg.EVT_STRM_STATn_OPEN 1 n
  s.cond (alone || decide (s.maxItem n ≤ p.items.length)) (·.closePkt n)

/-- An item routed to a stream: counted and discarded when the stream is off (R149), discarded as stale before the epoch ahead
of the last marker (R170), else packed. -/
def State.toStream (s : State) (n ty : Nat) (i : SItem) : State :=
  if !s.flag Reg.EVT_STRM_CFGn_EN n then (s.ecount Reg.EVT_UNROUTED_COUNT).put Reg.EVT_INT_UNROUTED 1
  else
    let x := s.strm n
    match i.epoch, x.marker with
    | some e, some m =>
      if e + 1 < m then
        let s := (s.ecount Reg.EVT_STALE_COUNT).put Reg.EVT_INT_STALE 1
        s.setStrm n { x with stale := some (match x.stale with
          | none => (i.lo, i.hi, 1)
          | some (a, b, k) => (min a i.lo, max b i.hi, k + 1)) }
      else s.pack n ty i
    | _, _ => s.pack n ty i

/-- A marker word (R169). -/
def State.markerWord (s : State) (epoch skip : Nat) : Nat :=
  epoch * 2 ^ 21 + s.get Reg.TIM_STATUS_SESSION_ID % 65536 * 2 ^ 5 + s.get Reg.TIM_STATUS_FAULT * 2 ^ 4 + min 15 skip

/-- The marker that waits last with no data packet behind it, by its place among the packets that wait: a data packet behind it would be
read by the marker ahead of it (R169). -/
def Strm.waitingMark (x : Strm) : Option Nat :=
  x.wait.zipIdx.foldl (fun m e => if e.1.mark then some e.2 else if isData e.1.ty then none else m) none

/-- The epoch marker of a stream: a marker that still waits is replaced, its SKIP one higher (R169); after it come the stale gap
(R170) and what else the boundary reports. -/
def State.mark (s : State) (n epoch : Nat) : State :=
  let s := s.closePkt n
  let x := s.strm n
  let s := match x.waitingMark with
    | some i =>
      let again (p : SPkt) : SPkt :=
        { p with words := p.words.set 1 (s.markerWord epoch ((p.words.getD 1 (0, false)).1 % 16 + 1), false) }
      s.setStrm n { x with wait := x.wait.modify i again }
    | none =>
      let r := s.form n 3 [{ words := [(s.markerWord epoch 0, false)] }]
      r.1.enqueue n { r.2 with mark := true }
  let x := s.strm n
  let s := s.setStrm n { x with marker := some epoch, stale := none }
  match x.stale with
  | none => s
  | some (a, b, k) => s.each (gapItems a (b + 1) 8 3 false k 0) fun s i => s.pack n 4 i

/-- FLUSH ref after it opened, an open packet closes (R168). -/
def execPacketFlush (stream : Nat) (s : State) : Out :=
  need (decide (stream < 64)) <|
    match (s.strm stream).opn with
    | none => s
    | some p => (s.advanceTo (p.since + max 1 (s.get Reg.EVT_STRM_CFGn_FLUSH stream))).closePkt stream

/-- A data packet next fits: the gap record of the overrun goes ahead of it (R430). -/
def execStreamOverrunGap (stream : Nat) (s : State) : Out :=
  need (decide (stream < 64)) <|
    let x := s.strm stream
    let n := match x.opn with
      | some p => pktSize p.ty p.items
      | none => 16
    if x.wait == [] && decide (n + 8192 ≤ s.strmFree stream) then s.overrunGap stream else s

/-- A stream is started: SEQ is 0 and its first packet carries RESTART (R168). -/
def State.startStream (s : State) (n : Nat) : State :=
  (s.put Reg.EVT_STRM_STATn_NEXT_SEQ 0 n).setStrm n { s.strm n with restart := true, marker := none, stale := none }

end Sys2Proof.Machine
end

