-- ==== Sys2Proof/Machine/Capture.lean ====
section
/-! DEFINITION. Machine/Capture.lean: the history ring, and the extraction and end of capture contexts (R182 to R186, R195 to
R203). -/

namespace Sys2Proof.Machine

def State.ctx (s : State) (i : Nat) : Ctx := s.trg.ctx.get {} i
def State.setCtx (s : State) (i : Nat) (c : Ctx) : State := { s with trg := { s.trg with ctx := s.trg.ctx.set {} i c } }
def State.tmpl (s : State) (k : Nat) : Tmpl := s.trg.tmpl.getD k {}
def State.setTmpl (s : State) (k : Nat) (t : Tmpl) : State := { s with trg := { s.trg with tmpl := s.trg.tmpl.set k t } }
def State.setRing (s : State) (r : Ring) : State := { s with trg := { s.trg with ring := r } }

/-- The stream of a template. -/
def State.tmplStream (s : State) (k : Nat) : Nat := s.get Reg.TRG_TMPL_CFG_STREAM 0 k

/-- TRG_STATUS.OPEN (R210). -/
def State.showOpen (s : State) : State :=
  s.put Reg.TRG_STATUS_OPEN (s.trg.tmpl.foldl (fun n t => n + t.open_.length) 0)

/-- The template's context is under extraction: the packets of its stream belong to it. -/
def State.extracting (s : State) (k : Nat) : Bool :=
  (s.tmpl k).reading.isSome || (s.frm.burst.tmpl == some k && s.frm.burst.ctx.isSome && s.frm.burst.begun)

/-- Gap records of missed firings enter the template's stream outside any context (R196). -/
def State.missedGaps (s : State) (k : Nat) (l : List SItem) : State :=
  let n := s.tmplStream k
  if l = [] || !s.flag Reg.EVT_STRM_CFGn_EN n then s
  else if s.extracting k then s.setTmpl k { s.tmpl k with gaps := (s.tmpl k).gaps ++ l }
  else s.each l fun s g => s.pack n 4 g true

/-! ## The end of a context (R198, R201 to R203) -/

/-- A context leaves its template: its packet closes, LAST_SEQ is recorded, and its index enters TRG_DONE_FIFO. -/
def State.endCtx (s : State) (k i st : Nat) : State :=
  let n := s.tmplStream k
  let s := (s.closePkt n).endsWith n
  let c := s.ctx i
  let free := ((s.tmpl k).open_.find? fun o => o.idx == i).any (·.free)
  let s := s.setCtx i { c with last := (s.get Reg.EVT_STRM_STATn_NEXT_SEQ n + 65535) % 65536, st := if free then 0 else st }
  let t := s.tmpl k
  let s := s.setTmpl k { t with open_ := t.open_.filter (fun o => o.idx != i)
                                reading := if (t.open_.head?.map (·.idx)) = some i then none else t.reading }
  let s := (({ s with trg := { s.trg with done := s.trg.done ++ [i] } }).put Reg.TRG_INT_CTX_DONE 1).showOpen
  if s.extracting k then s
  else
    let l := (s.tmpl k).gaps
    (s.setTmpl k { s.tmpl k with gaps := [] }).missedGaps k l

/-- A segment's time range overlaps a context's window (R198). -/
def RingSeg.overlaps (g : RingSeg) (c : Ctx) : Bool :=
  g.range.any fun r => decide ((r.1 : Int) ≤ (c.tref : Int) + c.post) && decide ((c.tref : Int) - c.pre ≤ r.2)

/-- The segment an entry lies in overlaps a context's window. -/
def Ring.inWindow (r : Ring) (e : RingEnt) (c : Ctx) : Bool := r.segs.any fun g => g.num == e.seg && g.overlaps c

/-- The entry lies in the segment under way, whose time range may still come to overlap the window: its markers are passed with it or not at
all (R198). -/
def Ring.undecided (r : Ring) (e : RingEnt) (c : Ctx) : Bool := e.seg == r.wptr / 8192 && !r.inWindow e c

/-- An extraction begins: the marker of the first segment it reads, which gives FIRST_SEQ, and the front gap of an early window
(R198, R200). -/
def State.beginExtract (s : State) (k : Nat) (o : OpenCtx) : State :=
  let n := s.tmplStream k
  let c := s.ctx o.idx
  let r := s.trg.ring
  let under := r.segs.find? fun g => g.num == r.wptr / 8192 && g.range.isSome
  let g := (r.segs.find? fun g => g.overlaps c).orElse fun _ => under
  let e := ((g.bind (·.epoch)).orElse fun _ => r.marker).getD (epochOf s.dtRef)
  let s := s.closePkt n
  let s := s.setCtx o.idx { c with first := s.get Reg.EVT_STRM_STATn_NEXT_SEQ n }
  let s := s.emit n 3 [{ words := [(s.markerWord e 0, false)] }] true
  let a : Int := (c.tref : Int) - c.pre
  let s := s.cond c.early fun s =>
    s.each (gapItems a (min (o.hzn : Int) (a + c.pre + c.post + 1)) 0xA 4 false 0 o.idx) fun s i => s.pack n 4 i true
  let t := s.tmpl k
  s.setTmpl k { t with reading := some ((r.ents.head?.map (·.num)).getD r.num) }

/-- An open context is cut short: its last item is a gap record from the earliest time not yet read to the end of the window, and
it counts in TRG_TRUNC (R201). -/
def State.cutCtx (s : State) (k i st : Nat) : State :=
  let t := s.tmpl k
  match t.open_.find? fun o => o.idx == i with
  | none => s
  | some o =>
    let n := s.tmplStream k
    let head := (t.open_.head?.map (·.idx)) == some i
    let s := s.cond (!head || t.reading.isNone) (·.beginExtract k o)
    let c := s.ctx i
    let at_ := if head then ((s.tmpl k).reading).getD 0 else 0
    let left := (s.trg.ring.ents.filter fun e => decide (at_ ≤ e.num)).map (·.seg)
    let lo := (s.trg.ring.segs.filter fun g => left.contains g.num && g.overlaps c).foldl
      (fun m g => g.range.map fun r => min (m.getD r.1) r.1) (none : Option Nat)
    let a : Int := max ((c.tref : Int) - c.pre) ((lo.map fun (x : Nat) => (x : Int)).getD ((c.tref : Int) - c.pre))
    let s := s.cond (!head) fun s => s.setTmpl k { s.tmpl k with reading := t.reading }
    let s := s.each (gapItems a ((c.tref : Int) + c.post + 1) 0xA 4 false 0 i) fun s g => s.pack n 4 g true
    let s := s.setCtx i { s.ctx i with trunc := true }
    ((s.gcount Reg.TRG_TRUNC_COUNT).put Reg.TRG_INT_TRUNC 1).endCtx k i st

/-! ## Extraction (R198) -/

/-- The word address of ring word `i`. -/
def State.ringWord (s : State) (i : Nat) : Nat := s.ringBase / 8 + i % max 1 (s.ringSize / 8)

/-- A full time in bins of a hit word in ref `lo`. -/
def hitBins (i : SItem) : Int := (i.lo : Int) * 512 + bits ((i.words.headD (0, false)).1) 14 9

/-- The entry belongs to the window of a context: a hit to the fine bin, a gap by overlap, every marker passed. -/
def RingEnt.wanted (e : RingEnt) (c : Ctx) : Bool :=
  match e.ty with
  | 1 =>
    let t := (c.tref : Int) * 512 + c.fine
    decide (t - c.pre * 512 ≤ hitBins e.item) && decide (hitBins e.item ≤ t + c.post * 512)
  | 4 => decide ((e.item.lo : Int) ≤ (c.tref : Int) + c.post) && decide ((c.tref : Int) - c.pre ≤ e.item.hi)
  | _ => true

/-- A context whose whole window lies before the horizon delivers its gap record alone (R200). -/
def OpenCtx.tooLate (o : OpenCtx) (c : Ctx) : Bool := c.early && decide (c.tref + c.post + 1 ≤ o.hzn)

/-- An extraction reads as far as the ring has written before edge `lim`, while its stream takes what it delivers (R198,
R199). -/
def State.extract : Nat → State → Nat → State
  | 0, s, _ => s
  | fuel + 1, s, k =>
    let t := s.tmpl k
    match t.open_.head? with
    | none => s
    | some o =>
      let n := s.tmplStream k
      if (s.strm n).wait ≠ [] then s
      else match t.reading with
        | none => (s.beginExtract k o).extract fuel k
        | some p =>
          let c := s.ctx o.idx
          let r := s.trg.ring
          match r.ents.find? fun e => decide (p ≤ e.num) with
          | none => s
          | some e =>
            if decide (c.tref + c.post + o.settle + 1 ≤ e.at_) || r.undecided e c then s
            else
              let s := s.setTmpl k { t with reading := some (e.num + 1) }
              if !o.tooLate c && r.inWindow e c && e.wanted c then
                let q := (List.range e.item.words.length).foldl (fun (a : State × List (Nat × Bool)) i =>
                  let w := a.1.ringWord (e.addr + i)
                  let r := (a.1.awaitRows w 1).readWord64 w
                  (r.1, a.2 ++ [r.2])) (s, [])
                let s := q.1
                let s := s.cond (q.2.any (·.2)) fun s => s.setCtx o.idx { s.ctx o.idx with poison := true }
                let i := { e.item with words := q.2, epoch := none }
                (if e.ty = 3 then (s.closePkt n).emit n 3 [i] true else s.pack n e.ty i true).extract fuel k
              else s.extract fuel k

/-- Every event template's extraction follows the ring. -/
def State.follow (s : State) : State :=
  s.each (List.range 16) fun s k =>
    if s.flag Reg.TRG_TMPL_CFG_KIND 0 k then s else s.extract (s.trg.ring.ents.length + 2) k

/-- The first open context has read every word written before the edge TREF + POST + SETTLE + 1: it is done (R198). -/
def execContextExtractionEnd (tmpl : Nat) (s : State) : Out :=
  need (decide (tmpl < 16)) <|
    match (s.tmpl tmpl).open_.head? with
    | none => s
    | some o =>
      if s.flag Reg.TRG_TMPL_CFG_KIND 0 tmpl then s
      else
        let c := s.ctx o.idx
        let due := c.tref + c.post + o.settle + 1
        let s := (s.advanceTo due).extract (s.trg.ring.ents.length + 2) tmpl
        let p := (s.tmpl tmpl).reading
        let r := s.trg.ring
        let left := r.ents.any fun e => decide ((p.getD 0) ≤ e.num) && decide (e.at_ < due) && !r.undecided e c
        if p.isNone || left then s else s.endCtx tmpl o.idx 2

/-! ## The ring (R182 to R186) -/

/-- Bytes of an item in the input buffer. -/
def itemBytes (i : SItem) : Nat := 8 * i.words.length

def Ring.bufBytes (r : Ring) : Nat := r.buf.foldl (fun n e => n + itemBytes e.item) 0

/-- The input buffer has room for an item (R184). -/
def State.ringRoom (s : State) (i : SItem) : Bool := decide (s.trg.ring.bufBytes + itemBytes i ≤ mib)

/-- The ring takes items: RING_EN is set and its partition is there (R182, R463). -/
def State.ringOn (s : State) : Bool := s.flag Reg.TRG_CTRL_RING_EN && decide (0 < s.get Reg.MEM_RING_SIZE)

/-- The ring would hold the crossbar: back-pressure is chosen and the buffer is full (R184). -/
def State.ringHolds (s : State) (i : SItem) : Bool := s.ringOn && s.flag Reg.TRG_RING_CFG_FULL_POLICY && !s.ringRoom i

/-- Room has returned: the gap record of the items discarded enters the buffer (R184). -/
def State.ringGap (s : State) : State :=
  let r := s.trg.ring
  match r.ovr with
  | none => s
  | some (a, b, k) =>
    let g := gapItems a (b + 1) 9 3 false k 0
    if s.ringRoom { words := [(0, false), (0, false)] } then
      s.setRing { r with ovr := none, buf := r.buf ++ g.map fun i => { ty := 4, item := i } }
    else s

/-- An item routed to the ring enters its input buffer; when that is full it is discarded and counted, or under back-pressure waits with the
items ahead of it (R184). -/
def State.ringTake (s : State) (ty : Nat) (i : SItem) : State :=
  if s.ringOn then
    let s := s.ringGap
    let r := s.trg.ring
    if s.flag Reg.TRG_RING_CFG_FULL_POLICY || (s.ringRoom i && r.ovr.isNone) then s.setRing { r with buf := r.buf ++ [{ ty := ty, item := i }] }
    else
      let s := s.setRing { r with ovr := some (match r.ovr with
        | none => (i.lo, i.hi, 1)
        | some (a, b, k) => (min a i.lo, max b i.hi, k + 1)) }
      (s.gcount Reg.TRG_RING_OVR_COUNT).put Reg.TRG_INT_RING_OVR 1
  else s

/-- Segment `k` is begun: the one it overwrites moves the horizon, and every open context that still has to read it is cut short
first (R183, R201). -/
def State.newSegment (s : State) (k : Nat) : State :=
  let total := s.ringSize / 65536
  match s.trg.ring.segs.find? fun g => g.num + total == k with
  | none => s
  | some g =>
    let lastNum := (s.trg.ring.ents.filter fun e => e.seg == g.num).foldl (fun m e => max m (e.num + 1)) 0
    let s := s.each (List.range 16) fun s t =>
      if s.flag Reg.TRG_TMPL_CFG_KIND 0 t then s
      else s.each ((s.tmpl t).open_.map (·.idx)) fun s i =>
        let head := ((s.tmpl t).open_.head?.map (·.idx)) == some i
        let read := head && decide (lastNum ≤ ((s.tmpl t).reading).getD 0)
        if g.overlaps (s.ctx i) && !read then s.cutCtx t i 2 else s
    let r := s.trg.ring
    let s := s.setRing { r with segs := r.segs.filter (fun x => x.num != g.num), ents := r.ents.filter fun e => e.seg != g.num }
    (s.put Reg.TRG_RING_HZN_H (max (s.get Reg.TRG_RING_HZN_H) ((g.range.map fun r => r.2 + 1).getD 0))).put Reg.TRG_RING_STATUS_WRAPPED 1

/-- A segment is begun, and what R183 keeps for it. -/
def State.beginSegment (s : State) (k : Nat) : State :=
  let s := s.newSegment k
  let r := s.trg.ring
  s.setRing { r with segs := r.segs ++ [{ num := k, epoch := r.marker, last := s.dtRef }] }

/-- One word into the ring: at a segment's first word the segment is begun. -/
def State.ringPut (s : State) (w : Nat × Bool) : State :=
  let p := s.trg.ring.wptr
  let s := s.cond (p % 8192 == 0) (·.beginSegment (p / 8192))
  let s := s.writeWord64 (s.ringWord p) w.1 w.2
  let r := s.trg.ring
  let s := s.setRing { r with wptr := p + 1, segs := r.segs.map fun g => if g.num = p / 8192 then { g with last := s.dtRef } else g }
  s.put Reg.TRG_RING_STATUS_WSEG (p / 8192 % max 1 (s.ringSize / 65536))

/-- A segment takes a hit or a gap record, after marker `m` (R183). -/
def RingSeg.takes (g : RingSeg) (i : SItem) (m : Option Nat) : RingSeg :=
  match g.range with
  | none => { g with range := some (i.lo, i.hi), epoch := m }
  | some r => { g with range := some (min r.1 i.lo, max r.2 i.hi) }

/-- The ring writes one item: it opens a packet for another TYPE, or after 256 items, and the open packet's header counts its
items (R168, R182, R183, R186). -/
def State.ringItem (s : State) (e : RingEnt) : State :=
  let fresh := match s.trg.ring.opn with
    | some (ty, n, _) => ty != e.ty || n == 256 || e.ty == 3
    | none => true
  let s := if fresh then
      let r := s.trg.ring
      let h := r.wptr
      let s := (s.setRing { r with opn := some (e.ty, 0, h), seq := (r.seq + 1) % 65536 }).ringPut
        (pktHeader e.ty 0 1 r.seq (h == 0), false)
      s
    else s
  let r := s.trg.ring
  let (n, h) := (r.opn.map fun x => (x.2.1, x.2.2)).getD (0, 0)
  let s := s.each e.item.words fun s w => s.ringPut w
  let r' := s.trg.ring
  let hd := pktHeader e.ty 0 (n + 1) (r'.seq + 65535) (h == 0)
  let s := s.writeWord64 (s.ringWord h) hd false
  let seg := r.wptr / 8192
  let x := { e with seg := seg, num := r'.num, at_ := s.dtRef, addr := r.wptr }
  let r' := s.trg.ring
  let segs := if e.ty = 3 then r'.segs
    else r'.segs.map fun g => if g.num = seg then g.takes e.item r'.marker else g
  let lag := e.ty != 3 && decide (e.item.lo + min 4194304 (s.get Reg.TRG_RING_CFG_SETTLE) < s.dtRef)
  let s := s.setRing { r' with opn := some (e.ty, n + 1, h), ents := r'.ents ++ [x], num := r'.num + 1, segs := segs
                               marker := if e.ty = 3 then e.item.epoch else r'.marker }
  s.cond lag fun s => (s.gcount Reg.TRG_LAGGED_COUNT).put Reg.TRG_INT_LAGGED 1

/-- The ring writes the `n` oldest items of its input buffer (R182); extractions follow it. -/
def execRingWrite (n : Nat) (s : State) : Out :=
  .next (if s.ringOn then
    (s.each (List.range n) fun s _ =>
      match s.trg.ring.buf with
      | [] => s
      | e :: l => (s.setRing { s.trg.ring with buf := l }).ringItem e).follow
  else s)

/-- Room returns to the input buffer, and the gap record is written (R184). -/
def execRingOverrunGap (s : State) : Out := .next s.ringGap

/-- At an epoch boundary the ring writes a marker (R182). -/
def State.ringMark (s : State) (epoch : Nat) : State :=
  if s.ringOn then
    let r := s.trg.ring
    s.setRing { r with buf := r.buf ++
      [{ ty := 3, item := { words := [(s.markerWord epoch 0, false)], epoch := some epoch, lo := s.dtRef, hi := s.dtRef } }] }
  else s

end Sys2Proof.Machine
end

