-- ==== Sys2Proof/Machine/Time.lean ====
section
/-! DEFINITION. Machine/Time.lean: time sessions, the step, the discipline and its sources, PPS, snapshots and skew
(chapter 4). Phase errors and stamps are signed ps. -/

namespace Sys2Proof.Machine

/-- A field in which 0 acts as 1. -/
def atLeastOne (n : Nat) : Nat := max 1 n

/-- ET in ps of an instant `sub` ps after the current edge. -/
def State.etPs (s : State) (sub : Nat) : Int := (s.et : Int) * 1000 + sub

/-- |y| is at most 200 ppm (R114); in 2^-16 ppm. -/
def yMax : Int := 200 * 65536

/-- y in force, which TIM_FREQ reports. -/
def State.putY (s : State) (y : Int) : State := s.put Reg.TIM_FREQ_Y (ofInt 32 (clampInt yMax y))

/-- The slew limit in ppm, 1 to 200 (R144). -/
def State.slewPpm (s : State) : Nat := min 200 (atLeastOne (s.get Reg.TIM_SERVO_SLEW_PPM))

/-- The slew budget B in ps (R128). -/
def State.slewBudget (s : State) : Nat := s.slewPpm * atLeastOne (s.get Reg.TIM_FAULT_WIN) * 1000000

/-- Staged servo fields and TIM_PTP_ASYM commit at a qualified sample, or at the close of the session (R144). -/
def timServoIds : List Nat :=
  [Reg.TIM_SERVO_BW, Reg.TIM_SERVO_SLEW_PPM, Reg.TIM_SERVO_ACQ_N, Reg.TIM_SERVO_LOCK_N, Reg.TIM_SERVO_LOCK_THR,
   Reg.TIM_PTP_ASYM_ASYM].map (·.id)

/-- A new state of the session. -/
def State.timState (s : State) (st : Nat) : State :=
  { s with tim := { s.tim with qualRun := 0, lockRun := 0, unlockRun := 0, rateSince := none } }.put Reg.TIM_STATUS_STATE st

/-- The target of time-of-day comparator `i`, in ns of ET (R189). -/
def State.todTarget (s : State) (i : Nat) : Nat :=
  (s.get Reg.TRG_TOD_SEC_LO_SEC 0 i + s.get Reg.TRG_TOD_SEC_HI_SEC 0 i * 2 ^ 32) * 1000000000 + s.get Reg.TRG_TOD_NS_NS 0 i

/-- A LANTERN session follows port `p` (R136). -/
def State.follows (s : State) (p : Nat) : Bool :=
  s.flag Reg.TIM_STATUS_SESSION && s.get Reg.TIM_CTRL_SRC == 3 && s.tim.port == some p

/-- The offset O_p of a port is `o` ps: TIM_LT_OFF shows it, and one of a port that is not the source, beyond TIM_LT_THR, is reported once
(R119). -/
def State.ltPut (s : State) (p : Nat) (o : Int) : State :=
  let s := s.put Reg.TIM_LT_OFF_OFF (satInt 32 o) 0 p
  let s := { s with tim := { s.tim with ltValid := p :: s.tim.ltValid.filter (· != p), ltOff := s.tim.ltOff.set 0 p o } }
  if s.follows p then s
  else
    let beyond := decide (s.get Reg.TIM_LT_THR_THR * 1000 < o.natAbs)
    let was := s.tim.disagree.contains p
    let s := s.cond (beyond && !was) fun s =>
      { s.put Reg.TIM_INT_PORT_DISAGREE 1 with tim := { s.tim with disagree := p :: s.tim.disagree } }
    s.cond (!beyond && decide (o.natAbs < s.get Reg.TIM_LT_THR_THR * 1000)) fun s =>
      { s with tim := { s.tim with disagree := s.tim.disagree.filter (· != p) } }

/-- What is kept in ET moves with a step of `d` ns: the stamps of PTP messages under way, and every port's offset LT_p - ET (R119, R122,
R133). -/
def State.etMoved (s : State) (d : Int) : State :=
  let s := { s with tim := { s.tim with
    syncRx := s.tim.syncRx.map (· + 1000 * d), dreqTx := s.tim.dreqTx.map (· + 1000 * d), delayExch := s.tim.delayExch.map (· - 1000 * d) } }
  s.each s.tim.ltValid.reverse fun s p => s.ltPut p (s.tim.ltOff.get 0 p - 1000 * d)

/-- The single step of a session: ET_OFF takes the value in ns, which is a multiple of 4, and ET is valid from here on (R117,
R122). Comparators whose target a forward step passes fire late (R126). -/
def State.timeStep (s : State) (off : Nat) (st : Nat) : State :=
  let was (i : Nat) : Int := s.etAhead (s.todTarget i)
  let valid := s.etValid
  let d := centred etMod ((off : Int) - s.etOff)
  let s := (s.put Reg.TIM_ETOFF_SEC_SEC (off / 1000000000)).put Reg.TIM_ETOFF_NS_NS (off % 1000000000)
  let s := ((s.put Reg.TIM_STATUS_STEPPED 1).put Reg.TIM_STATUS_ET_VALID 1).put Reg.TIM_INT_STEPPED 1
  let late := (List.range 16).filter fun i =>
    s.flag Reg.TRG_TOD_SEC_HI_EN 0 i && decide (s.etAhead (s.todTarget i) < 0) && (!valid || decide (0 ≤ was i))
  let s := { s with trg := { s.trg with todLate := s.trg.todLate ++ late.filter fun i => !s.trg.todLate.contains i } }
  (s.etMoved d).timState st

/-- ET_OFF in ns after a step by an error in ps: rounded to the nearest multiple of 4 ns, halves up (DESIGN CHOICE, log entry 163), modulo
2^48 s (R122). -/
def stepOffset (off : Nat) (err : Int) : Nat :=
  ((((off : Int) * 1000 + err + 2000) / 4000 * 4) % (etMod : Int)).toNat

/-- The time fault: y is held, and the flag stays until CLOSE (R129); fault 0x08 (R499). -/
def State.timeFault (s : State) : State :=
  (((s.timState 6).put Reg.TIM_STATUS_FAULT 1).put Reg.TIM_INT_FAULT 1).fault 8 0

/-- The rate that syntonises the reference in place of the servo's integral part: of the recovered clock with L1Sync in operation, or of the
10 MHz input (R133, R134). -/
def State.synRate (s : State) : Option Int :=
  let src := s.get Reg.TIM_CTRL_SRC
  if src = 2 ∨ (src = 1 ∧ s.flag Reg.TIM_PTP_STATUS_L1SYNC_UP) then s.tim.synRate else none

/-- The servo follows a qualified sample's phase error in ps: the proportional part, once ET has stepped, within the slew limit, and the
integral part, or the rate that syntonises; their sum is limited to 200 ppm, and a demand beyond that is timed (R127, R128, R133, R134). The
gains at each bandwidth are not stated. -/
def State.servo (s : State) (slew : Bool) (err : Int) : State :=
  let bw := s.get Reg.TIM_SERVO_BW
  let i := s.synRate.getD (s.tim.integ + Config.servoKi bw * err / 2 ^ 32)
  let p := if slew then clampInt (s.slewPpm * 65536) (Config.servoKp bw * err / 2 ^ 32) else 0
  let beyond := decide (yMax < (i + p).natAbs)
  { s with tim := { s.tim with
      integ := clampInt yMax i, rateSince := if beyond then some (s.tim.rateSince.getD s.dtRef) else none } }.putY (i + p)

/-- Before the step a qualified sample lengthens the run, and the ACQ_N-th takes the step (R122, R124). -/
def State.acquire (s : State) (err : Int) : State :=
  let s := { s with tim := { s.tim with qualRun := s.tim.qualRun + 1 } }.servo false err
  if atLeastOne (s.get Reg.TIM_SERVO_ACQ_N) ≤ s.tim.qualRun then s.timeStep (stepOffset s.etOff err) 3 else s

/-- After the step a qualified sample beyond the budget raises the time fault; else it leaves HOLDOVER, locks or unlocks (R124,
R128). -/
def State.track (s : State) (err : Int) : State :=
  let thr := s.get Reg.TIM_SERVO_LOCK_THR * 10
  let n := atLeastOne (s.get Reg.TIM_SERVO_LOCK_N)
  if s.slewBudget < err.natAbs then s.timeFault
  else
    let s := s.cond (s.get Reg.TIM_STATUS_STATE == 5) (·.timState 3)
    let s := s.servo true err
    if s.get Reg.TIM_STATUS_STATE = 3 then
      let r := if err.natAbs ≤ thr then s.tim.lockRun + 1 else 0
      if n ≤ r then (s.timState 4).put Reg.TIM_INT_LOCKED 1 else { s with tim := { s.tim with lockRun := r } }
    else
      let r := if 2 * thr < err.natAbs then s.tim.unlockRun + 1 else 0
      if n ≤ r then s.timState 3 else { s with tim := { s.tim with unlockRun := r } }

/-- A qualified sample, whose error is source time minus ET (R124, R127): staged servo fields commit, the error is reported, and
the session acquires or tracks. A sample in FAULT, FREE, FIXED or CLOSED has no effect (DESIGN CHOICE, log entry 164). -/
def State.timeSample (s : State) (err : Int) : State :=
  let s := { s with tim := { s.tim with sampleAt := s.dtRef } }
  let st := s.get Reg.TIM_STATUS_STATE
  if st = 2 || st = 3 || st = 4 || st = 5 then
    let s := (s.commitAll timServoIds).put Reg.TIM_PHASE_ERR_ERR (satInt 32 err)
    if st = 2 then s.acquire err else s.track err
  else s

/-- The source is lost: ACQUIRE starts its count again; a stepped session goes to HOLDOVER with y held (R124, R130). -/
def State.sourceLost (s : State) : State :=
  let st := s.get Reg.TIM_STATUS_STATE
  if st = 2 then { s with tim := { s.tim with qualRun := 0 } }
  else if st = 3 || st = 4 then (s.timState 5).put Reg.TIM_INT_HOLDOVER 1
  else s

/-- A port is trained: UP or LOW (R380). -/
def State.portTrained (s : State) (p : Nat) : Bool :=
  s.get Reg.LNK_Pp_STATUS_STATE p == 3 || s.get Reg.LNK_Pp_STATUS_STATE p == 4

/-- The trained port with the fewest hops to the lighthouse, the lower-numbered on a tie; one that has missed four time words in a row is
passed over until the next arrives (R136). -/
def State.nearestPort (s : State) : Option Nat :=
  ((List.range 8).filter fun p => s.portTrained p && decide ((s.lnk.port.getD p {}).misses < 4)).foldl (fun b p => match b with
    | none => some p
    | some q => if s.get Reg.LNK_Pp_PARTNER_HOPS p < s.get Reg.LNK_Pp_PARTNER_HOPS q then some p else b) none

/-- The port LANTERN follows: the one TIM_CTRL.PORT names, or the nearest (R136). -/
def State.choosePort (s : State) : State :=
  let p := s.get Reg.TIM_CTRL_PORT
  { s with tim := { s.tim with port := if p < 8 then some p else if p = 15 then s.nearestPort else none } }

/-- A session ends: y keeps its value, a pending servo shadow is applied, and STATE is CLOSED (R123, R144). -/
def State.timClose (s : State) : State :=
  if s.flag Reg.TIM_STATUS_SESSION then
    let s := ((s.commitAll timServoIds).timState 0).put Reg.TIM_STATUS_SESSION 0
    (s.put Reg.TIM_STATUS_FAULT 0).put Reg.TIM_STATUS_SEC_WANTED 0
  else s

/-- A session opens and its source starts, or the OPEN is refused (R122 to R124, R131). -/
def State.timOpen (s : State) : State :=
  let src := s.get Reg.TIM_CTRL_SRC
  if s.flag Reg.TIM_STATUS_SESSION || decide (4 < src) then s.put Reg.TIM_INT_REFUSED 1
  else
    let s := (s.put Reg.TIM_STATUS_SESSION 1).put Reg.TIM_STATUS_SESSION_ID (s.get Reg.TIM_STATUS_SESSION_ID + 1)
    let s := (s.put Reg.TIM_STATUS_STEPPED 0).timState (if src = 0 || src = 4 then 1 else 2)
    let s := { s with tim := { s.tim with
      integ := toInt 32 (s.get Reg.TIM_FREQ_Y), ppsLast := none, ppsBad := 0, syncRx := none, dreqTx := none, dreqAt := none
      delayExch := none, masters := [], selected := none, lastMaster := none, sampleAt := s.dtRef, syncLog := none, synRate := none } }
    if src = 0 || src = 4 then s.putY (toInt 32 (s.get Reg.TIM_FREQ_MAN_Y))
    else if src = 2 then s.put Reg.TIM_STATUS_SEC_WANTED 1
    else if src = 3 then s.choosePort
    else s

/-- The step of a HOST session: ET_OFF becomes TIM_SET minus 4 ns * DT_REF, rounded to a multiple of 4 ns, halves up (R125; DESIGN CHOICE, log
entry 163). -/
def State.timSet (s : State) : State :=
  if s.get Reg.TIM_STATUS_STATE = 1 && s.get Reg.TIM_CTRL_SRC = 4 && !s.flag Reg.TIM_STATUS_STEPPED then
    let t : Int := (s.get Reg.TIM_SET_SEC_SEC * 1000000000 + s.get Reg.TIM_SET_NS_NS : Nat) - 4 * (s.dtRef : Int)
    s.timeStep (((t + 2) / 4 * 4) % (etMod : Int)).toNat 7
  else s.put Reg.TIM_INT_REFUSED 1

/-- A locked field written: ignored with the block's refused flag in an enabled block, unless it carries the value held (R6). -/
def State.writeLocked (s : State) (f : Fld) (enabled : Bool) (v : Nat) (flag : Fld) (i : Nat := 0) (j : Nat := 0)
    (k : Nat := 0) : State :=
  if s.get f i j = v then s else if enabled then s.put flag 1 k else s.put f v i j

/-- A write of TIM_CTRL: SRC, PORT and PPS_OUT_EN are judged against the state before it; then CLOSE, OPEN and SET act in that
order, each judged after the one before (R123, R552). -/
def State.timCtrl (s : State) (v : Nat) : State :=
  let en := s.flag Reg.TIM_STATUS_SESSION
  let s := (s.writeLocked Reg.TIM_CTRL_SRC en (bits v 4 3) Reg.TIM_INT_REFUSED).writeLocked Reg.TIM_CTRL_PORT en (bits v 8 4)
    Reg.TIM_INT_REFUSED
  let s := s.put Reg.TIM_CTRL_PPS_OUT_EN (bits v 12 1)
  ((s.cond (bit v 1) State.timClose).cond (bit v 0) State.timOpen).cond (bit v 2) State.timSet

/-- A write of TIM_CTRL with OPEN = 1 (R122). -/
def execTimOpen (val : Nat) (s : State) : Out := need (bit val 0) (s.bar 0x40000 (·.timCtrl val))

/-- A write of TIM_CTRL with CLOSE = 1 and OPEN = 0 (R123). -/
def execTimClose (val : Nat) (s : State) : Out := need (bit val 1 && !bit val 0) (s.bar 0x40000 (·.timCtrl val))

/-- A write of TIM_CTRL with SET = 1 alone of the three (R125). -/
def execTimSet (val : Nat) (s : State) : Out :=
  need (bit val 2 && !bit val 0 && !bit val 1) (s.bar 0x40000 (·.timCtrl val))

/-- A qualified sample of the session's source (R124). -/
def execTimeSample (err : Int) (s : State) : Out := .next (s.timeSample err)

/-- The servo has demanded |y| above 200 ppm continuously for 1 s: the time fault (R128). -/
def execTimeFaultRate (s : State) : Out :=
  let st := s.get Reg.TIM_STATUS_STATE
  .next <|
    match s.tim.rateSince with
    | some d => if st = 3 || st = 4 then (s.advanceTo (d + 250000000)).timeFault else s
    | none => s

/-! ## PTP (R132, R133) -/

/-- A session with this source runs. -/
def State.following (s : State) (src : Nat) : Bool := s.flag Reg.TIM_STATUS_SESSION && s.get Reg.TIM_CTRL_SRC == src

/-- The order of the default best master clock algorithm (R132). -/
def masterKey (m : Master) : List Nat :=
  [m.prio1, m.clockClass, m.accuracy, m.variance, m.prio2, m.identity, m.steps]

def listLt : List Nat → List Nat → Bool
  | a :: x, b :: y => Nat.blt a b || (a == b && listLt x y)
  | [], _ :: _ => true
  | _, [] => false

/-- An interval in ref from its log2 in s. -/
def logRefs (l : Int) : Nat := if 0 ≤ l then 250000000 * 2 ^ l.toNat else 250000000 / 2 ^ (-l).toNat

/-- A message of the transport and the domain that TIM_PTP_CFG names (R132). -/
def State.hears (s : State) (hdr : PtpHdr) : Bool :=
  s.following 1 && hdr.udp == s.flag Reg.TIM_PTP_CFG_TRANSPORT && hdr.domain == s.get Reg.TIM_PTP_CFG_DOMAIN

def bestMaster (l : List Master) : Option Master :=
  l.foldl (fun b m => match b with
    | none => some m
    | some x => if listLt (masterKey m) (masterKey x) then some m else b) none

def State.master (s : State) : Option Master := (s.tim.masters.map (·.1)).find? fun m => some m.identity == s.tim.selected

/-- The algorithm selects; a master with another identity than the last one selected sets SRC_CHANGE, and the discipline goes on by rate only
(R133). -/
def State.selectMaster (s : State) : State :=
  match bestMaster (s.tim.masters.map (·.1)) with
  | none => { s with tim := { s.tim with selected := none } }
  | some m =>
    let change := s.tim.lastMaster.isSome && s.tim.lastMaster != some m.identity
    let s := s.cond change (·.put Reg.TIM_INT_SRC_CHANGE 1)
    let s := s.cond (s.tim.selected != some m.identity) fun s =>
      { s with tim := { s.tim with syncRx := none, dreqTx := none, delayExch := none } }
    let s := { s with tim := { s.tim with selected := some m.identity, lastMaster := some m.identity } }
    let s := (s.put Reg.TIM_PTP_STATUS_UTC_OFFSET m.utcOffset).putB Reg.TIM_PTP_STATUS_UTC_VALID m.utcValid
    let s := (s.putB Reg.TIM_PTP_STATUS_L1SYNC_UP (m.l1sync && s.flag Reg.TIM_PTP_CFG_L1SYNC_EN)).putB
      Reg.TIM_PTP_STATUS_TAI_SCALE m.ptpScale
    (s.put Reg.TIM_PTP_STATUS_STEPS_REMOVED m.steps).put Reg.TIM_PTP_GM_ID m.identity

/-- An Announce on the domain feeds master selection (R133). -/
def execPtpAnnounceRx (hdr : PtpHdr) (m : Master) (s : State) : Out :=
  if s.hears hdr then
    .next { s with tim := { s.tim with
      masters := (m, s.dtRef) :: s.tim.masters.filter fun x => x.1.identity != m.identity } }.selectMaster
  else .next s

/-- A Sync received at `rx` completed by its origin time: with the latest delay exchange it is one sample, qualified when its
master announces the PTP timescale (R133): source time minus ET is ((t4 - t3) - (t2 - t1)) / 2 + delayAsymmetry. A TIM_PTP_ASYM that this
sample commits acts from the next one on (DESIGN CHOICE, log entry 165). -/
def State.ptpSample (s : State) (rx origin corr : Int) : State :=
  match s.tim.delayExch, s.master with
  | some ex, some m =>
    if m.ptpScale then
      s.timeSample (centred (etMod * 1000) ((ex - (rx - (origin + corr))) / 2 + toInt 32 (s.get Reg.TIM_PTP_ASYM_ASYM)))
    else s
  | _, _ => s

/-- A Sync from the selected master: one-step completes the sample, two-step waits for its Follow_Up (R132, R133). `syncLog` is the log2 of
its interval in s, and `rate` that of the clock recovered from layer 1. -/
def execPtpSyncRx (hdr : PtpHdr) (identity : Nat) (twoStep : Bool) (origin corr : Int) (sub : Nat) (syncLog rate : Int) (s : State) : Out :=
  if s.hears hdr && s.tim.selected == some identity then
    let s := { s with tim := { s.tim with syncLog := some syncLog, synRate := some rate } }
    if twoStep then .next { s with tim := { s.tim with syncRx := some (s.etPs sub - corr) } }
    else .next (s.ptpSample (s.etPs sub) origin corr)
  else .next s

/-- A Follow_Up completes the sample of the Sync before it (R133). -/
def execPtpFollowUpRx (hdr : PtpHdr) (identity : Nat) (origin corr : Int) (s : State) : Out :=
  match s.tim.syncRx with
  | some rx =>
    if s.hears hdr && s.tim.selected == some identity then
      .next ({ s with tim := { s.tim with syncRx := none } }.ptpSample rx origin corr)
    else .next s
  | none => .next s

/-- The Delay_Req interval in ref: LOG_DREQ of -8, below its range, acts as -7 (R144; DESIGN CHOICE, log entry 169). -/
def State.dreqRefs (s : State) : Nat := logRefs (max (-7) (toInt 4 (s.get Reg.TIM_PTP_CFG_LOG_DREQ)))

/-- At its interval the port sends a Delay_Req, whose send time it keeps (R132, R133, R144). -/
def execPtpDelayReqSend (sub : Nat) (s : State) : Out :=
  if s.following 1 && s.tim.selected.isSome then
    let s := s.advanceTo ((s.tim.dreqAt.map (· + s.dreqRefs)).getD s.dtRef)
    .next { s with tim := { s.tim with dreqTx := some (s.etPs sub), dreqAt := some s.dtRef, sentDelayReq := s.tim.sentDelayReq + 1 } }
  else .next s

/-- A Delay_Resp completes the exchange (R133). -/
def execPtpDelayRespRx (hdr : PtpHdr) (identity : Nat) (rx corr : Int) (s : State) : Out :=
  match s.tim.dreqTx with
  | some t3 =>
    if s.hears hdr && s.tim.selected == some identity then
      .next { s with tim := { s.tim with dreqTx := none, delayExch := some (rx - corr - t3) } }
    else .next s
  | none => .next s

/-- No Announce of the selected master within ANN_TIMEOUT of its announce intervals, of which fewer than 2 act as 2: the source is lost, and
the algorithm selects among the masters left (R133, R144). -/
def execPtpAnnounceTimeout (s : State) : Out :=
  if s.following 1 then
    let due := (s.tim.masters.find? fun m => some m.1.identity == s.tim.selected).map fun m =>
      m.2 + max 2 (s.get Reg.TIM_PTP_CFG_ANN_TIMEOUT) * logRefs m.1.annLog
    let s := s.advanceTo (due.getD s.dtRef)
    let s := { s with tim := { s.tim with masters := s.tim.masters.filter fun m => some m.1.identity != s.tim.selected } }
    .next s.sourceLost.selectMaster
  else .next s

/-- No sample within 4 Sync intervals: the source is lost (R133). -/
def execPtpSyncTimeout (s : State) : Out :=
  .next (if s.following 1 then
    (s.advanceTo ((s.tim.syncLog.map fun l => s.tim.sampleAt + 4 * logRefs l).getD s.dtRef)).sourceLost else s)

/-- The time port answers an ARP request for its address (R132); it is idle in reset and in pilot-light mode. -/
def execArpRequestRx (ip : Nat) (s : State) : Out :=
  .next (if s.sys.phase = .running && ip = s.get Reg.TIM_PTP_IP_ADDR then
    { s with tim := { s.tim with sentArp := s.tim.sentArp + 1 } } else s)

/-! ## PPS and 10 MHz (R134, R135) -/

/-- A PPS edge is missing or rejected; the third in a row loses the source (R134). -/
def State.ppsMiss (s : State) : State :=
  let n := s.tim.ppsBad + 1
  if 3 ≤ n then { s with tim := { s.tim with ppsBad := 0, ppsLast := none } }.sourceLost
  else { s with tim := { s.tim with ppsBad := n } }

/-- A PPS edge outside its window (R134). -/
def State.ppsReject (s : State) : State :=
  ((s.bump Reg.TIM_PPS_REJ_COUNT Reg.TIM_INT_CNT_SAT).put Reg.TIM_INT_PPS_REJ 1).ppsMiss

/-- The error of a PPS edge against the nearest whole ET second, in ps. -/
def ppsError (et : Int) : Int :=
  let r := et % 1000000000000
  if 2 * r < 1000000000000 then -r else 1000000000000 - r

/-- An edge of TIM_PPS_IN, rising or falling, `sub` ps after a reference edge (R134): the polarity of TIM_PPS_CFG.POL marks the second. Before
the step it is accepted 1 s ± 10 us after the accepted edge before it, of which there is none at first (DESIGN CHOICE, log entry 166), and is
qualified once TIM_PPS_SEC has been written; after the step it is accepted within the window of a whole ET second. Each accepted edge
increments TIM_PPS_SEC. `ten` is the rate of the 10 MHz input, none with it absent, when no sample is qualified. -/
def execPpsEdge (rising : Bool) (sub : Nat) (ten : Option Int) (s : State) : Out :=
  if !s.following 2 || rising == s.flag Reg.TIM_PPS_CFG_POL then .next s
  else
    let s := { s with tim := { s.tim with synRate := ten } }
    let et := s.etPs sub
    let stepped := s.flag Reg.TIM_STATUS_STEPPED
    let ok := if stepped then decide ((ppsError et).natAbs ≤ s.get Reg.TIM_PPS_CFG_WIN * 100000)
      else match s.tim.ppsLast with
        | none => true
        | some t => decide (((s.dtRef * 4000 + sub : Nat) - (t : Int) - 1000000000000).natAbs ≤ 10000000)
    if !ok then .next s.ppsReject
    else
      let sec := s.get Reg.TIM_PPS_SEC_SEC
      let err := if stepped then ppsError et else centred (etMod * 1000) ((sec : Int) * 1000000000000 - et)
      let wanted := s.flag Reg.TIM_STATUS_SEC_WANTED
      let s := { s with tim := { s.tim with ppsLast := some (s.dtRef * 4000 + sub), ppsBad := 0 } }.put Reg.TIM_PPS_SEC_SEC (sec + 1)
      .next (if wanted || ten.isNone then s else s.timeSample err)

/-- An expected PPS edge does not come (R134). -/
def execPpsEdgeMissing (s : State) : Out := .next (if s.following 2 then s.ppsMiss else s)

/-- The 10 MHz input is absent for 10 us: the source is lost (R134). -/
def execTenMhzLoss (s : State) : Out :=
  .next (if s.following 2 then { s with tim := { s.tim with synRate := none } }.sourceLost else s)

/-- A write of the TAI second of the next PPS edge (R134). -/
def execPpsSecondWrite (sec : Nat) (s : State) : Out :=
  .next (s.bar 0x40084 fun s => (s.put Reg.TIM_PPS_SEC_SEC sec).put Reg.TIM_STATUS_SEC_WANTED 0)

/-- TIM_PPS_OUT rises at the edge of the next whole ET second (R135). -/
def execPpsOutRise (s : State) : Out :=
  if s.flag Reg.TIM_CTRL_PPS_OUT_EN && s.etValid && s.tim.ppsOut = none then
    let wait := (1000000000 - s.et % 1000000000) % 1000000000
    let wait := if wait = 0 && s.tim.ppsOutSec = some (s.et / 1000000000) then 1000000000 else wait
    let s := s.advanceTo (s.dtRef + wait / 4)
    .next { s with tim := { s.tim with ppsOut := some s.dtRef, ppsOutSec := some (s.et / 1000000000) } }
  else .next s

/-- TIM_PPS_OUT falls OUT_WIDTH us after its rise, also where PPS_OUT_EN was cleared meanwhile (R135; DESIGN CHOICE, log entry 167). -/
def execPpsOutFall (s : State) : Out :=
  match s.tim.ppsOut with
  | none => .next s
  | some t =>
    let s := s.advanceTo (t + 250 * atLeastOne (s.get Reg.TIM_PPS_CFG_OUT_WIDTH))
    .next { s with tim := { s.tim with ppsOut := none } }

/-! ## Snapshot, skew, counters -/

/-- A write of TIM_SNAP.TAKE captures DT, ET and AT at one edge (R143). -/
def execTimSnap (s : State) : Out :=
  .next (s.bar 0x40008 fun s =>
    let t := ((s.put Reg.TIM_SNAP_DT_DT s.dtRef).put Reg.TIM_SNAP_ET_NS_NS (s.et % 1000000000)).put
      Reg.TIM_SNAP_ET_SEC_SEC (s.et / 1000000000)
    t.put Reg.TIM_SNAP_AT_AT s.at_)

/-- TIM_TSKEWn.PENDING: the outstanding change of a delay line is above 50 ps (R138). -/
def State.skewPending (s : State) (n : Nat) : Bool :=
  decide (100 < (((s.tim.skewTarget.getD n 0 : Nat) : Int) - s.get Reg.TIM_TSKEW_DELAY n).natAbs)

/-- A recalibration measures the delay each line is to take (R138); INTERVAL counts from the last one, forced or not (DESIGN CHOICE, log entry
168). -/
def State.skewMeasured (s : State) (delays : List Nat) : State :=
  let s := { s with tim := { s.tim with skewTarget := delays, skewEpoch := epochOf s.dtRef } }
  s.each [0, 1, 2, 3] fun s n =>
    (s.putB Reg.TIM_TSKEW_PENDING (s.skewPending n) n).cond (s.skewPending n) (·.put Reg.TIM_INT_SKEW_JUMP 1)

/-- At an epoch boundary each delay line moves by at most 1 ps toward its target (R138). -/
def State.skewMove (s : State) : State :=
  s.each [0, 1, 2, 3] fun s n =>
    let d : Int := s.get Reg.TIM_TSKEW_DELAY n
    let t : Int := (s.tim.skewTarget.getD n 0 : Nat)
    let s := s.put Reg.TIM_TSKEW_DELAY (d + clampInt 2 (t - d)).toNat n
    s.putB Reg.TIM_TSKEW_PENDING (s.skewPending n) n

/-- Every INTERVAL epochs the delays are measured again (R138). -/
def execSkewRecalibrate (delays : List Nat) (s : State) : Out :=
  need (decide (delays.length = 4)) <|
    let n := s.get Reg.TIM_SKEW_INTERVAL
    if s.sys.phase = .running && n ≠ 0 then
      (s.advanceTo ((s.tim.skewEpoch + n) * 2 ^ 21)).skewMeasured delays
    else s

/-- A write of TIM_SKEW with FORCE = 1 takes INTERVAL and recalibrates now (R138, R145). -/
def execSkewForce (val : Nat) (delays : List Nat) (s : State) : Out :=
  need (bit val 8 && decide (delays.length = 4))
    (s.bar 0x400B0 fun s => (s.put Reg.TIM_SKEW_INTERVAL (bits val 0 8)).skewMeasured delays)

/-- A write of TIM_CNT_CLR (R145). -/
def execTimCntClr (s : State) : Out :=
  .next (s.bar 0x400E8 (·.clearFields
    ([Reg.TIM_PPS_REJ_COUNT, Reg.TIM_LATE_COUNT, Reg.TIM_TOOFAR_COUNT].map (·.id))))

end Sys2Proof.Machine
end

