-- ==== Sys2Proof/Machine/Prim.lean ====
section
/-! DEFINITION. Machine/Prim.lean: trigger primitives, time-of-day comparators and mask-test units (R187 to R189, R206 to
R209), and the frame-gate events primitives give (R225). -/

namespace Sys2Proof.Machine

/-- Bins of 7.8125 ps in one ref. -/
def binsPerRef : Int := 512

/-- The DT in bins of an ET in ns (R117). -/
def State.etToBins (s : State) (ns : Int) : Int := s.dtNs ns * 128

/-- A full DT in ref and its fine part. -/
def binRef (t : Int) : Nat := (t / binsPerRef).toNat
def binFine (t : Int) : Nat := (t % binsPerRef).toNat

/-- A primitive event opens or closes the frame gate at the edge nearest its time plus DLY, at the earliest now, which is late
(R225). -/
def State.gateEvent (s : State) (p : Nat) (t : Int) : State :=
  if s.flag Reg.TIL_FRM_GATE_EN then
    let due := ((t + 256) / 512).toNat + max 16 (s.get Reg.TIL_FRM_GATE_DLY_DLY)
    let hit := p != 0x1FF && (p == s.get Reg.TIL_FRM_GATE_ON_PRIM || p == s.get Reg.TIL_FRM_GATE_OFF_PRIM)
    let s := s.cond (hit && decide (due < s.dtRef)) (·.put Reg.TIL_FRM_INT_LATE_GATE 1)
    let e := max due s.dtRef
    let s := s.cond (p != 0x1FF && p == s.get Reg.TIL_FRM_GATE_ON_PRIM) fun s =>
      { s with frm := { s.frm with gateOn := s.frm.gateOn ++ [e] } }
    s.cond (p != 0x1FF && p == s.get Reg.TIL_FRM_GATE_OFF_PRIM) fun s =>
      { s with frm := { s.frm with gateOff := s.frm.gateOff ++ [e] } }
  else s

/-- Primitive `p` has an event with carried time `ev.t` in bins: when enabled, it is counted and presented as a pulse from the next
edge for STRETCH ref, its time moved by SKEW; one that arrives during a pulse extends it (R188). -/
def State.prim (s : State) (p : Nat) (ev : PrimEv) : State :=
  if s.flag Reg.TRG_PRIM_CFG_EN 0 p && decide (p < 344) then
    let s := s.gcount Reg.TRG_PRIM_CNT_COUNT 0 p
    let ev := { ev with t := ev.t + toInt 24 (s.get Reg.TRG_PRIM_CFG_SKEW 0 p) }
    let stop := s.dtRef + 1 + max 1 (s.get Reg.TRG_PRIM_CFG_STRETCH 0 p)
    let from_ := match s.trg.pulses.find? fun x => x.prim == p && !(x.taken && decide (x.stop ≤ s.dtRef)) with
      | some x => x.from_
      | none => s.dtRef + 1
    let l : List Pulse := (s.trg.pulses.filter fun x => x.prim != p) ++ [{ prim := p, ev := ev, from_ := from_, stop := stop }]
    let s := { s with trg := { s.trg with pulses := l } }
    (s.auxPrim p).gateEvent p ev.t
  else s

/-- An event of primitive `prim` with carried time `t` in bins of DT (R187, R188). -/
def execPrimitiveEvent (prim : Nat) (t : Int) (s : State) : Out := need (decide (prim < 512)) (s.prim prim { t := t })

/-- A pulse ends after STRETCH ref, once a wave has taken it (R188, R246). -/
def execPrimitivePulseEnd (prim : Nat) (s : State) : Out :=
  need (decide (prim < 512)) <|
    match s.trg.pulses.find? fun x => x.prim == prim with
    | none => s
    | some x =>
      if x.taken then
        let s := s.advanceTo x.stop
        { s with trg := { s.trg with pulses := s.trg.pulses.filter fun y => y.prim != prim } }
      else s

/-- ET reaches a comparator's target; after a step past it, the event is at this edge and late. It then rearms by PERIOD, or
disables itself (R126, R189). -/
def execTodFire (tod : Nat) (s : State) : Out :=
  need (decide (tod < 16)) <|
    if s.flag Reg.TRG_TOD_SEC_HI_EN 0 tod && s.etValid then
      let target := s.todTarget tod
      let late := s.trg.todLate.contains tod
      let s := if late then s else s.advanceTo (s.etEdge target)
      let s := { s with trg := { s.trg with todLate := s.trg.todLate.filter (· != tod) } }
      let per := s.get Reg.TRG_TOD_PERIOD_PERIOD 0 tod
      let s := if per = 0 then s.put Reg.TRG_TOD_SEC_HI_EN 0 0 tod
        else
          let n := (target + 4 * per) % etMod
          let sec := n / 1000000000
          ((s.put Reg.TRG_TOD_SEC_LO_SEC sec 0 tod).put Reg.TRG_TOD_SEC_HI_SEC (sec / 2 ^ 32) 0 tod).put Reg.TRG_TOD_NS_NS
            (n % 1000000000) 0 tod
      s.prim (328 + tod) { t := if late then s.dtRef * binsPerRef else s.etToBins target, late := late }
    else s

/-- A write of TRG_HOST_FIRE presents an event on primitive 312 + CODE, at this edge (R187). -/
def execHostFire (code : Nat) (s : State) : Out :=
  need (decide (code < 16)) (s.bar 0xA0068 (·.prim (312 + code) { t := s.dtRef * binsPerRef }))

/-! ## Mask-test units (R206 to R209) -/

def State.maskUnit (s : State) (u : Nat) : MaskUnit := s.trg.mask.getD u {}
def State.setMask (s : State) (u : Nat) (m : MaskUnit) : State := { s with trg := { s.trg with mask := s.trg.mask.set u m } }

/-- The staged fields of a unit (R209). -/
def maskFields : List Fld :=
  [Reg.TRG_MASK_CFG_SRC, Reg.TRG_MASK_CFG_AVG, Reg.TRG_MASK_CFG_FREE, Reg.TRG_MASK_CFG_START, Reg.TRG_MASK_CFG_STOP]

/-- Masks and staged fields commit (R209). -/
def State.maskCommit (s : State) (u : Nat) : State :=
  let s := s.each maskFields fun s f => s.commit f 0 u
  let m := s.maskUnit u
  let merge (d : Nat) (t : NMap Nat) (n : NMap (Option Nat)) : NMap Nat :=
    n.foldl (fun t e => t.set d e.1 (e.2.getD d)) t
  s.setMask u { m with up := merge 0x1FFFF m.up m.newUp, lo := merge 0x20000 m.lo m.newLo, newUp := [], newLo := [] }

/-- The unit sweeps (R209: else its staged fields commit at once). -/
def State.sweeping (s : State) (u : Nat) : Bool := s.get Reg.TRG_MASK_STATUS_STATE 0 u == 1

/-- A write of TRG_MASK_UP or TRG_MASK_LO for the selected point and unit (R209). -/
def State.writeMask (s : State) (upper : Bool) (v : Nat) : State :=
  let u := s.get Reg.TRG_MASK_SEL_UNIT
  let p := s.get Reg.TRG_MASK_SEL_POINT
  let m := s.maskUnit u
  let s := s.setMask u (if upper then { m with newUp := m.newUp.set none p (some (v % 2 ^ 18)) }
    else { m with newLo := m.newLo.set none p (some (v % 2 ^ 18)) })
  if s.sweeping u then s else s.maskCommit u

/-- The unit waits for its start condition (R206, R208). -/
def State.maskWait (s : State) (u : Nat) : State :=
  let m := s.maskUnit u
  let s := s.setMask u { m with point := 0, sum := 0, n := 0, flagged := false, go := false }
  (s.put Reg.TRG_MASK_STATUS_STATE 0 0 u).maskCommit u

/-- The condition that starts a sweep has fired (R206). -/
def State.maskStart (s : State) (c : Nat) : State :=
  s.each (List.range 8) fun s u =>
    if s.flag Reg.TRG_MASK_CFG_EN 0 u && !s.flag Reg.TRG_MASK_CFG_FREE 0 u && s.get Reg.TRG_MASK_CFG_START 0 u == c &&
        s.get Reg.TRG_MASK_STATUS_STATE 0 u == 0 then s.setMask u { s.maskUnit u with go := true }
    else s

/-- The interval of a point is complete: its average, rounded toward minus infinity, is compared, and a violation is recorded and
presented on primitive 32 + unit (R206, R207); STOP stops the unit (R208); point 1,023 ends the sweep. -/
def State.maskInterval (s : State) (u : Nat) (dt : Nat) : State :=
  let m := s.maskUnit u
  let k := min 8 (s.get Reg.TRG_MASK_CFG_AVG 0 u)
  let avg := m.sum / 2 ^ k
  let up := toInt 18 (m.up.get 0x1FFFF m.point)
  let lo := toInt 18 (m.lo.get 0x20000 m.point)
  let bad := decide (up < avg) || decide (avg < lo) || m.flagged
  let s := s.setMask u { m with point := m.point + 1, sum := 0, n := 0, flagged := false }
  let s := s.cond bad fun s =>
    let s := (s.put Reg.TRG_MASK_STATUS_VPOINT m.point 0 u).gcount Reg.TRG_MASK_STATUS_VCOUNT 0 u
    let s := ((s.put Reg.TRG_MASK_VAL_AVG (ofInt 18 avg) 0 u).putB Reg.TRG_MASK_VAL_FLAGGED m.flagged 0 u).put Reg.TRG_INT_MASK 1
    s.prim (32 + u) { t := (dt : Int) * binsPerRef }
  if bad && s.flag Reg.TRG_MASK_CFG_STOP 0 u then (s.put Reg.TRG_MASK_STATUS_STATE 2 0 u).maskCommit u
  else if m.point + 1 = 1024 then
    let s := s.maskWait u
    s
  else s

/-- A result of sequence entry `e` reaches the mask units: code `v`, whether it carries OVR, CLAMP or WIRE, and the edge of its AT stamp (R206). -/
def State.maskSample (s : State) (e : Nat) (v : Int) (bad : Bool) (dt : Nat) : State :=
  s.each (List.range 8) fun s u =>
    let st := s.get Reg.TRG_MASK_STATUS_STATE 0 u
    if s.flag Reg.TRG_MASK_CFG_EN 0 u && s.get Reg.TRG_MASK_CFG_SRC 0 u == e &&
        (st == 1 || (st == 0 && (s.flag Reg.TRG_MASK_CFG_FREE 0 u || (s.maskUnit u).go))) then
      let s := s.put Reg.TRG_MASK_STATUS_STATE 1 0 u
      let m := s.maskUnit u
      let m := { m with sum := m.sum + v, n := m.n + 1, flagged := m.flagged || bad, go := false }
      let s := s.setMask u m
      if 2 ^ min 8 (s.get Reg.TRG_MASK_CFG_AVG 0 u) ≤ m.n then s.maskInterval u dt else s
    else s

/-- A write of TRG_MASK_REARM returns a stopped unit, the one selected, to its start condition (R208). -/
def execMaskRearm (s : State) : Out :=
  .next <| s.bar 0xA0158 fun s =>
    let u := s.get Reg.TRG_MASK_SEL_UNIT
    if s.get Reg.TRG_MASK_STATUS_STATE 0 u = 2 then s.maskWait u else s

end Sys2Proof.Machine
end

