-- ==== Sys2Proof/Machine/Supply.lean ====
section
/-! DEFINITION. Machine/Supply.lean: k(V,T), the VFE regulator and the junction sensors (R27, R499, R514, R535, R536, R547, R548), and the
checks of the wear monitors (R516, R517). -/

namespace Sys2Proof.Machine

/-- The table of R535 in hundredths: one row per 50 mV from 0.70 V, one column per grid temperature. -/
def kTable : List (List Int) :=
  [[140, 146, 150, 156, 163, 167], [114, 118, 121, 125, 130, 133], [95, 98, 100, 103, 107, 109],
   [82, 84, 86, 88, 91, 93], [73, 75, 76, 78, 80, 82]]

/-- The grid temperatures in 1/16 degree. -/
def kTemps : List Int := [-640, 0, 400, 880, 1360, 1600]

/-- k(V,T) in units of 1/4,096 for VFE = 0.70 V + `v` mV and a temperature in 1/16 degree: interpolated linearly in both, then
rounded up; VFE and cold temperatures outside the grid act as its edge, and above 100 degrees a row goes on linearly
(R535). -/
def kOf (v : Nat) (t : Int) : Nat :=
  let v := min v 200
  let r := min (v / 50) 3
  let u : Int := (v - 50 * r : Nat)
  let t := max t (-640)
  let c := if t < 0 then 0 else if t < 400 then 1 else if t < 880 then 2 else if t < 1360 then 3 else 4
  let g := fun i j => ((kTable.getD i []).getD j 0)
  let d := kTemps.getD (c + 1) 0 - kTemps.getD c 0
  let w := t - kTemps.getD c 0
  let num := (50 - u) * ((d - w) * g r c + w * g r (c + 1)) + u * ((d - w) * g (r + 1) c + w * g (r + 1) (c + 1))
  ceilDiv (4096 * num.toNat) (5000 * d.toNat)

/-- The hottest of a list of temperatures. -/
def hottest : List Int → Int
  | [] => 0
  | [t] => t
  | t :: r => max t (hottest r)

/-- The highest set-point the working phases allow (R514, R548). -/
def vfeLimit (phases : Nat) : Nat := if 12 ≤ phases then 200 else if phases = 11 then 100 else 50

/-- The set-point the regulator follows: GEN_VFE.SET limited as R548 states, and 0.70 V under fault 0x0A (R499). -/
def State.vfeTarget (s : State) : Nat :=
  if s.sys.hot then 0 else min (s.get Reg.GEN_VFE_SET) (vfeLimit (s.get Reg.GEN_VFE_STATUS_PHASES))

/-- VFE now: 1 mV for each us since the ramp began, up to its set-point (R536). -/
def State.vfeNow (s : State) : Nat :=
  let v := s.sys.vfe.getD 0
  let d := (s.dtRef - s.sys.rampAt) / 250
  if !s.flag Reg.GEN_VFE_STATUS_RAMP then v
  else if s.sys.rampFrom ≤ v then min v (s.sys.rampFrom + d) else max v (s.sys.rampFrom - d)

/-- The regulator ramps to its set-point (R536); CLAMPED shows whether a limit holds it. -/
def State.vfeRamp (s : State) : State :=
  match s.sys.vfe with
  | none => s
  | some v =>
    let t := s.vfeTarget
    let s := s.putB Reg.GEN_VFE_STATUS_CLAMPED
      (decide (vfeLimit (s.get Reg.GEN_VFE_STATUS_PHASES) < s.get Reg.GEN_VFE_SET))
    if t = v then s
    else
      { s with sys := { s.sys with vfe := some t, vfeOld := some (min v (s.sys.vfeOld.getD v)), rampFrom := s.vfeNow, rampAt := s.dtRef } }.put
        Reg.GEN_VFE_STATUS_RAMP 1

/-- The tile-wait setting is below the bundle's longest replay, 4.0 us times k, and acts as it (R504). -/
def State.tileClamped (s : State) : Bool := decide (s.get Reg.GEN_FP_TILE_US * 4096 < 4 * s.get Reg.GEN_KVT_K)

/-- GEN_CLAMP.TILE for one tile; a new clamp sets GEN_INT.CLAMP (R504). -/
def State.clampTile (s : State) (n : Nat) : State :=
  let old := s.get Reg.GEN_CLAMP_TILE
  let s1 := s.put Reg.GEN_CLAMP_TILE (setBits old n 1 (boolNat s.tileClamped))
  s1.cond (s.tileClamped && !bit old n) (·.put Reg.GEN_INT_CLAMP 1)

/-- GEN_CLAMP.LNK for one port: a port wait below the Lantern replay time of 100 us (R504). -/
def State.clampPort (s : State) (p : Nat) : State :=
  let c := decide (s.get Reg.GEN_FP_LNK_US < 100)
  let old := s.get Reg.GEN_CLAMP_LNK
  (s.put Reg.GEN_CLAMP_LNK (setBits old p 1 (boolNat c))).cond (c && !bit old p) (·.put Reg.GEN_INT_CLAMP 1)

/-! ## Wear (R516, R517) -/

/-- The value GEN_WEAR_VAL reports for a monitor. -/
def Wear.val (w : Wear) (i : Nat) : Nat :=
  if i < 5 then w.dose.getD i 0
  else if i < 7 then w.hours.getD (i - 5) 0 / 2 ^ 40
  else if i = 7 then w.powerOns else if i = 8 then w.swings else w.erases

/-- GEN_WEAR_VAL follows the monitors, and a monitor that reaches its threshold warns once per threshold value (R517). -/
def State.wearCheck (s : State) : State :=
  s.each (List.range 10) fun s i =>
    let v := s.svc.wear.val i
    let s := s.put Reg.GEN_WEAR_VAL_VAL v 0 i
    let thr := s.get Reg.GEN_WEAR_THR_THR 0 i
    if thr ≤ v && !s.store.warned.contains (i, thr) then
      ({ s with store := { s.store with warned := (i, thr) :: s.store.warned.filter (·.1 != i) } }.put Reg.GEN_SVC_INT_WEAR 1).audit 0x15 0
        (poolTarget i 0) 0 v 0
    else s

/-- A swing counts when the junction temperature moves 40 K from a turning point, which is the highest temperature since it
last rose or the lowest since it last fell (R516). -/
def Swing.next (w : Swing) (t : Int) : Swing × Nat :=
  let lo := min (w.lo.getD t) t
  let hi := max (w.hi.getD t) t
  if w.dir ≠ 1 && 640 ≤ t - lo then ({ lo := some t, hi := some t, dir := 1 }, 1)
  else if w.dir ≠ 2 && 640 ≤ hi - t then ({ lo := some t, hi := some t, dir := 2 }, 1)
  else ({ w with lo := some lo, hi := some hi }, 0)

/-- The junction temperature of the hottest die moves to `t` (R516). -/
def State.swingTo (s : State) (t : Int) : State :=
  if s.sys.phase = .running then
    let r := s.svc.swing.next t
    let s : State := { s with svc := { s.svc with swing := r.1, wear := { s.svc.wear with swings := s.svc.wear.swings + r.2 } } }
    s.cond (r.2 != 0) State.wearCheck
  else s

/-! ## The evaluation (R536, R547) -/

/-- At each whole millisecond of DT the lamplighter reads VFE, the five junctions and the power, evaluates k and moves the
tile-wait clamp (R504, R536, R547). While a ramp runs, and until the evaluation after it, k is the larger of the values at
the old and the new set-point. The hottest of the five dies moves the junction swing (R516). In pilot-light mode VFE is off and the tiles are unpowered (R548). -/
def execKvtEvaluation (meas : Nat) (tj : List Int) (tjc : Int) (pwr : Nat) (s : State) : Out :=
  need (decide (tj.length = 4)) <|
    let s := s.advanceTo (ceilDiv (s.dtRef + 1) 250000 * 250000)
    let s := (s.put Reg.GEN_TJ4_TEMP (ofInt 16 tjc)).put Reg.GEN_PWR_MW10 pwr
    let s := s.swingTo (hottest (tjc :: if s.sys.vfe.isSome then tj else []))
    match s.sys.vfe with
    | none => s
    | some v =>
      let s := s.each [0, 1, 2, 3] fun s n => s.put Reg.GEN_TJ_TEMP (ofInt 16 (tj.getD n 0)) n
      let s := s.put Reg.GEN_VFE_STATUS_MEAS meas
      let t := hottest tj
      let k := match s.sys.vfeOld with
        | none => kOf meas t
        | some o => max (kOf o t) (kOf v t)
      let s := s.put Reg.GEN_KVT_K k
      let s := s.cond (!s.flag Reg.GEN_VFE_STATUS_RAMP) fun s => { s with sys := { s.sys with vfeOld := none } }
      s.each [0, 1, 2, 3] (·.clampTile ·)

/-- A write of GEN_VFE.SET starts a ramp toward the limited set-point; in pilot-light mode it is discarded (R548). -/
def execVfeSet (v : Nat) (s : State) : Out :=
  .next (s.bar 0x400 fun s => if s.sys.phase = .pilot then s else (s.put Reg.GEN_VFE_SET v).vfeRamp)

/-- The ramp reaches its set-point, 1 us for each mV after it began (R536). -/
def execVfeRampEnd (s : State) : Out :=
  match s.sys.vfe with
  | none => .next s
  | some v =>
    if s.flag Reg.GEN_VFE_STATUS_RAMP then
      .next ((s.advanceTo (s.sys.rampAt + 250 * (max v s.sys.rampFrom - min v s.sys.rampFrom))).put Reg.GEN_VFE_STATUS_RAMP 0)
    else .next s

/-- A phase out of share or over temperature is switched off: a spare starts in its place, or the working phases limit VFE;
with 9 or fewer the VFE rail fails, fault 0x01 (R514). -/
def execVfePhaseSwap (phase : Nat) (s : State) : Out :=
  need (decide (phase < 14)) <|
    if s.sys.vfe = none || s.get Reg.GEN_VFE_STATUS_PHASES = 0 || s.recorded 8 phase then s
    else
      let n := s.get Reg.GEN_VFE_STATUS_PHASES - 1
      let s := s.put Reg.GEN_VFE_STATUS_PHASES n
      let s := (s.unitOut 8 phase).cond (decide (12 ≤ n)) (·.bringSpare 8 phase (n - 12))
      let s := s.cond (n == 10) (·.put Reg.GEN_SVC_INT_SPARE_LOW 1)
      let s := s.vfeRamp
      if n ≤ 9 then
        let s := ((s.put Reg.BOOT_RAIL_RAIL 8).put Reg.BOOT_RAIL_RUN 1).put Reg.BOOT_RAIL_VALID 1
        if s.sys.phase = .starting then s.startFails 0xA else s.fault 1 8
      else s

/-- A junction rises above 100 degrees: fault 0x0A gates every discriminator and takes VFE to 0.70 V (R499). -/
def execJunctionOvertemp (die : Nat) (s : State) : Out :=
  need (decide (die < 5)) <|
    if s.sys.phase = .running || s.sys.phase = .pilot || (s.sys.phase = .starting && decide (1 ≤ s.get Reg.BOOT_STATUS_STAGE)) then
      (s.regateAll fun s => { s with sys := { s.sys with hot := true } }.vfeRamp).fault 0xA die
    else s

/-- Every junction reads below 90 degrees: the gating ends and VFE returns to its set-point (R499). -/
def execJunctionTempRelease (s : State) : Out :=
  .next (s.regateAll fun s => { s with sys := { s.sys with hot := false } }.vfeRamp)

end Sys2Proof.Machine
end

