-- ==== Sys2Proof/Machine/Service.lean ====
section
/-! DEFINITION. Machine/Service.lean: role sessions, keys, fuses, wear and vias (chapter 18; the storing of audit entries, which
lets guarded writes take effect, is in Machine/Audit.lean). -/

namespace Sys2Proof.Machine

/-- The key of a role code 1 to 4, when it has one (R519, R520). -/
def State.keyOf (s : State) (role : Nat) : Option Nat :=
  if role = 0 then none else (s.store.keys.getD (role - 1) none)

/-- The response a role's key gives to a challenge: bytes 0 to 7 of HMAC-SHA-256 over challenge, role code and serial number
(R520). -/
def sessionResponse (key chal role serial : Nat) : Nat :=
  leNat ((hmacSha256 (leBytes 16 key) (leBytes 8 chal ++ [role % 256] ++ leBytes 8 serial)).take 8)

/-- A write of GEN_SESS_CTRL.REQ draws a challenge for the role named, unless sessions are locked out, one is open or the role
has no key (R520 to R522). -/
def execSessionRequest (role : Nat) (s : State) : Out :=
  .next (s.bar 0x210 fun s =>
    let s := s.idleClose
    let st := s.get Reg.GEN_SESS_STATUS_STATE
    if (s.keyOf role).isNone then s.put Reg.GEN_SESS_STATUS_ERR 1
    else if st = 2 then s.put Reg.GEN_SESS_STATUS_ERR 2
    else if st = 3 then s.put Reg.GEN_SESS_STATUS_ERR 5
    else
      let s := s.put Reg.GEN_SESS_CHAL_CHAL (Config.challenge s.drawn).toNat
      let s := { s.draw with sess := { s.sess with chalRole := role, chalAt := s.dtRef } }
      (s.put Reg.GEN_SESS_STATUS_STATE 1).put Reg.GEN_SESS_STATUS_ERR 0)

/-- A wrong or expired response: entry 0x05 and, from the third consecutive wrong one on, the lockout, 60 s and doubling up to
3,840 s (R522). -/
def State.wrongResponse (s : State) : State :=
  let n := min 15 (s.store.sessFails + 1)
  let s := { s with store := { s.store with sessFails := n } }
  let s := (s.put Reg.GEN_SESS_STATUS_FAILS n).put Reg.GEN_SESS_STATUS_ERR 3
  if n < 3 then (s.put Reg.GEN_SESS_STATUS_STATE 0).audit 5 0 0x224 0 0 0
  else
    let l := s.store.lockNext
    let s := { s with store := { s.store with lockLeft := l, lockNext := min 3840 (2 * l) }, sess := { s.sess with lockAt := s.dtRef } }
    ((s.put Reg.GEN_SESS_STATUS_STATE 3).put Reg.GEN_SESS_STATUS_LOCK l).put Reg.GEN_SVC_INT_LOCKOUT 1 |>.audit 5 0 0x224 0 0 l

/-- A write of GEN_SESS_RESP_HI submits the response: valid for 30 s, it opens the session or counts as wrong (R520, R522). -/
def execSessionResponse (hi : Nat) (s : State) : Out :=
  .next (s.bar 0x224 fun s =>
    let resp := s.get Reg.GEN_SESS_RESP_RESP % 2 ^ 32 + (hi % 2 ^ 32) * 2 ^ 32
    let st := s.get Reg.GEN_SESS_STATUS_STATE
    if st = 3 then s.put Reg.GEN_SESS_STATUS_ERR 5
    else if st ≠ 1 then s.put Reg.GEN_SESS_STATUS_ERR 6
    else if s.sess.chalAt + 7500000000 < s.dtRef then
      ((s.put Reg.GEN_SESS_STATUS_STATE 0).put Reg.GEN_SESS_STATUS_ERR 4).audit 5 0 0x224 0 0 0
    else
      let good := match s.keyOf s.sess.chalRole with
        | none => false
        | some k => sessionResponse k (s.get Reg.GEN_SESS_CHAL_CHAL) s.sess.chalRole s.store.serial == resp
      if good then
        let s := { s with
          store := { s.store with sessFails := 0, lockNext := 60 }
          sess := { s.sess with lastWrite := s.dtRef } }
        let s := ((s.put Reg.GEN_SESS_STATUS_STATE 2).put Reg.GEN_SESS_STATUS_ROLE s.sess.chalRole).put
          Reg.GEN_SESS_STATUS_ERR 0
        ((s.put Reg.GEN_SESS_STATUS_FAILS 0).put Reg.GEN_SVC_INT_SESSION 1).audit 3 0 0x224 0 0 0
      else s.wrongResponse)

/-- A write of GEN_SESS_CTRL.CLOSE closes the session (R521). -/
def execSessionClose (s : State) : Out := .next (s.bar 0x210 (·.idleClose.closeSession 0))

/-- GEN_SESS_CFG.IDLE seconds pass without a write to a field of the session's role (R521). -/
def execSessionIdleTimeout (s : State) : Out :=
  if s.get Reg.GEN_SESS_STATUS_STATE = 2 then
    let s := s.advanceTo (s.sess.lastWrite + 250000000 * max 1 (s.get Reg.GEN_SESS_CFG_IDLE))
    .next (s.closeSession 1)
  else .next s

/-- Seconds of lockout left (R532). -/
def State.lockSeconds (s : State) : Nat :=
  if s.get Reg.GEN_SESS_STATUS_STATE = 3 then s.store.lockLeft - (s.dtRef - s.sess.lockAt) / 250000000 else 0

/-- The lockout ends (R522). -/
def execLockoutExpire (s : State) : Out :=
  if s.get Reg.GEN_SESS_STATUS_STATE = 3 then
    let s := s.advanceTo (s.sess.lockAt + 250000000 * s.store.lockLeft)
    let s := { s with store := { s.store with lockLeft := 0 } }
    .next ((s.put Reg.GEN_SESS_STATUS_STATE 0).put Reg.GEN_SESS_STATUS_LOCK 0)
  else .next s

/-- The staged key, least significant word first (R524). -/
def State.stagedKey (s : State) : Nat :=
  [3, 2, 1, 0].foldl (fun a i => a * 2 ^ 32 + s.get Reg.GEN_KEY_STAGE_KEY i) 0

/-- A write of GEN_KEY_CMD.PROG: guarded for Owner, refused when CHK is not bytes 0 and 1 of SHA-256 over the staged key or the
role is none of the four (RESULT 0x3), or when no generation is left (0x2) (R524, R531). OLD and NEW hold role and
generation; the key itself waits with the write. -/
def execKeyProgram (role chk : Nat) (s : State) : Out :=
  .next (s.bar 0x240 fun s =>
    let left := s.store.keyLeft.getD (role - 1) 0
    let good := leNat ((sha256 (leBytes 16 s.stagedKey)).take 2) == chk % 65536
    let cause := if role = 0 || 4 < role then 3 else if left = 0 then 2 else if good then 0 else 3
    s.guarded 2 0x240 (role * 256 + left) (role * 256 + (left - 1)) (s.stagedKey * 8 + role) [1] cause)

/-- A write of GEN_IDENT.ID: guarded for Owner, with one generation (R523). -/
def execModuleIdProgram (id : Nat) (s : State) : Out :=
  .next (s.bar 0x208 fun s =>
    s.guarded 2 0x208 s.store.moduleId (id % 4096) (id % 4096) [1] (if s.store.idLeft = 0 then 2 else 0))

/-! ## Wear (R516, R517) -/

/-- 2^(2^k/160) in units of 2^-62, for k = 0 to 7. -/
def pow2Parts : List Nat :=
  [4631707963605617100, 4651816835406152798, 4692296870103762374, 4774316774647575192, 4942682692100133016, 5297436143130366554, 6085156183315689749, 8029411722173644933]

/-- 2^(r/160) in units of 2^-62, for r below 160. -/
def pow2Frac (r : Nat) : Nat :=
  (List.range 8).foldl (fun a k => if bit r k then a * pow2Parts.getD k 0 / 2 ^ 62 else a) (2 ^ 62)

/-- What one minute at a temperature in 1/16 degree adds: (1/60) * 2^((T - 85)/10) h, in units of 2^-40 h, dropped to a whole
number of them (R516). -/
def hourStep (t : Int) : Nat :=
  let n := t - 1360
  let q := n / 160
  let r := (n % 160).toNat
  let x := 2 ^ 40 * pow2Frac r / 60
  if 0 ≤ q then x * 2 ^ q.toNat / 2 ^ 62 else x / 2 ^ ((-q).toNat + 62)

/-- What the configuration store and its service record give back: spare usage, wear totals, the audit pointers, and the session failure
count and lockout (R522, R556); a generation that a loss of power cut short is reported (R523). -/
def State.loadRecord (s : State) : State :=
  let s := s.each s.store.spareUsed fun s e => s.put Reg.GEN_SPARE_INFO_USED e.2 0 e.1
  let s : State := { s with svc := { s.svc with wear := s.store.wear } }
  let s := (s.put Reg.GEN_AUD_MARK_SEQ s.store.mark).put Reg.GEN_SESS_STATUS_FAILS s.store.sessFails
  let s := if s.store.lockLeft = 0 then s
    else ({ s with sess := { s.sess with lockAt := s.dtRef } }.put Reg.GEN_SESS_STATUS_STATE 3).put Reg.GEN_SESS_STATUS_LOCK s.store.lockLeft
  let s := s.each s.store.cut fun s c => s.audit 2 5 c.1 c.2.1 c.2.2 0
  ({ s with store := { s.store with cut := [] } } : State).wearCheck

/-- Reference periods in a second. -/
def refSecond : Nat := 250000000

/-- Each minute of running adds to the equivalent hours of the concentrator and the hottest tile, and follows the junction
swings of the hottest die (R516). -/
def execWearMinuteUpdate (tConc tTile tMax : Int) (s : State) : Out :=
  if s.sys.phase = .running then
    let due := s.svc.minuteAt + 60 * refSecond
    let s := s.advanceTo due
    let w := s.svc.wear
    let w := { w with hours := [w.hours.getD 0 0 + hourStep tConc, w.hours.getD 1 0 + hourStep tTile] }
    .next (({ s with svc := { s.svc with wear := w, minuteAt := due } } : State).swingTo tMax).wearCheck
  else .next s

/-- Every 600 s the dosimeters are read (R516). -/
def execDosimeterRead (dose : List Nat) (s : State) : Out :=
  need (decide (dose.length = 5)) <|
    if s.sys.phase = .running then
      let due := s.svc.doseAt + 600 * refSecond
      let s := s.advanceTo due
      { s with svc := { s.svc with wear := { s.svc.wear with dose := dose }, doseAt := due } }.wearCheck
    else s

/-- Once per hour of running every total is saved to the service record (R516). -/
def execServiceRecordSave (s : State) : Out :=
  if s.sys.phase = .running then
    let due := s.svc.saveAt + 3600 * refSecond
    let s := s.advanceTo due
    .next { s with store := { s.store with wear := s.svc.wear }, svc := { s.svc with saveAt := due } }
  else .next s

/-- Three parity failures of one control via within 1 s: the group's walking-pattern test replaces every failed via by a spare
of the group; with none left the tile stays disabled and fault 0x07 is raised (R513). -/
def execControlViaTest (tile failed : Nat) (s : State) : Out :=
  need (decide (tile < 4)) <|
    if s.sys.vfe.isNone then s
    else
    let left := viaSpares 4 - s.viasUsed 4 tile
    let s := s.viaSpare 4 tile (min failed left)
    if left < failed then
      let s := { s with sys := { s.sys with viaDead := tile :: s.sys.viaDead.filter (· != tile) } }
      ((s.accrue s.dtRef).put Reg.TIL_CTRL_EN 0 tile).fault 7 tile
    else s

end Sys2Proof.Machine
end

