-- ==== Sys2Proof/Machine/Analog.lean ====
section
/-! DEFINITION. Machine/Analog.lean: the auxiliary analogue block (chapter 10). -/

namespace Sys2Proof.Machine

/-! ## Entries (R293, R297, R299) -/

def entPos (w : Nat) : Nat := bits w 0 4
def entNeg (w : Nat) : Nat := bits w 4 4
def entMode (w : Nat) : Nat := bits w 8 2
def entRange (w : Nat) : Nat := bits w 10 3
def entArng (w : Nat) : Bool := bit w 13
def entAvg (w : Nat) : Nat := min 6 (bits w 14 3)
def entCset (w : Nat) : Nat := bits w 17 4
def entWchk (w : Nat) : Bool := bit w 21
def entNoconv (w : Nat) : Bool := bit w 22
def entDelay (w : Nat) : Nat := bits w 24 8
/-- Conversions: REPEAT + 1, rounded up to a multiple of 2^AVG. -/
def entConvs (w : Nat) : Nat := if entNoconv w then 0 else ceilDiv (bits w 32 16 + 1) (2 ^ entAvg w) * 2 ^ entAvg w
/-- The MODE uses NEG. -/
def entUsesNeg (w : Nat) : Bool := entMode w == 0 || entMode w == 2
def entBridge (w : Nat) : Bool := entMode w == 2

/-- The feedback resistor of a RANGE, in ohms (R294). -/
def feedbackOhms (range : Nat) : Int := ([1000, 4700, 22000, 100000, 220000, 1000000, 4700000, 10000000] : List Int).getD range 1000

/-- What a converter reads of a signal (R293): `x` is V(POS) - V(NEG) or V(POS) - GND in pV, in bridge mode the ratio to V_exc in pV/V, in
transimpedance mode the current into POS in fA, each with the converter's noise and non-linearity (R295); full scale is 131,072. -/
def reading (mode range : Nat) (x : Int) : Int :=
  match mode with
  | 2 => roundDiv (x * 131072 * (2 ^ range : Nat)) (10 ^ 12)
  | 3 => roundDiv (x * 131072 * feedbackOhms range) (25 * 10 ^ 14)
  | _ => roundDiv (x * 131072 * (2 ^ range : Nat)) (25 * 10 ^ 11)

def State.auxWord (s : State) (e : Nat) : Nat := s.get Reg.AUX_SEQ_ENTRY e
def State.pinRole (s : State) (p : Nat) : Nat := s.get Reg.AUX_PIN_CFG_ROLE p
def State.roleHeld (s : State) (r : Nat) : Bool := (List.range 16).any fun p => s.pinRole p == r

/-- Why an entry fails the check of R299: 0 it passes, 1 a pin not in input role, 2 a bridge without force pins. -/
def State.entryFault (s : State) (w : Nat) : Nat :=
  if s.pinRole (entPos w) ≠ 1 ∨ (entUsesNeg w = true ∧ s.pinRole (entNeg w) ≠ 1) then 1
  else if entBridge w && !(s.roleHeld 2 && s.roleHeld 3) then 2
  else 0

/-- The first of entries 0 to LAST that fails, with its code. -/
def State.tableFault (s : State) : Option (Nat × Nat) :=
  ((List.range (s.get Reg.AUX_SEQ_CFG_LAST + 1)).map fun e => (s.entryFault (s.auxWord e), e)).find? fun x => x.1 != 0

/-! ## The wrap (R292, R298, R299) -/

/-- The fields that commit at the wrap. -/
def auxStaged : List Nat :=
  [Reg.AUX_SEQ_ENTRY, Reg.AUX_SEQ_CFG_LAST, Reg.AUX_EXC_CFG_EN, Reg.AUX_EXC_CFG_LEVEL, Reg.AUX_EXC_CFG_FLIP_N, Reg.AUX_EXC_CFG_IMIN,
   Reg.AUX_COEF_OFS_OFFSET, Reg.AUX_COEF_GAIN_GAIN].map (·.id)

/-- A staged AUX field written: pending until the wrap while EN = 1, else at once, in place of what was pending (R6, R298). -/
def State.auxStage (s : State) (f : Fld) (v : Nat) (i : Nat := 0) (j : Nat := 0) : State :=
  if s.auxEn then
    let s := s.stage f v i j
    (s.put Reg.AUX_STATUS_PENDING 1).setAux { s.aux with told := false }
  else
    let s := (s.put f v i j).unstage f i j
    s.putB Reg.AUX_STATUS_PENDING (s.shadow.any fun e => auxStaged.contains e.1.f)

/-- The generator runs (R291). -/
def State.excRuns (s : State) : Bool := s.auxEn && s.flag Reg.AUX_EXC_CFG_EN

/-- The generator starts or stops: it always starts in positive polarity, no limit prevents regulation yet, and no current is measured yet
(R291, R292). -/
def State.excStart (s : State) (e : Nat) : State :=
  (((s.setAux { s.aux with wraps := 0, flipAt := e, half := 0 }).put Reg.AUX_EXC_STATUS_POL 0).put Reg.AUX_EXC_STATUS_XLIM 0).put
    Reg.AUX_EXC_STATUS_IMEAS 0

/-- The generator's current is measured, at most 30 mA (R291). -/
def State.excMeasure (s : State) (imeas : Nat) : State := s.cond s.excRuns (·.put Reg.AUX_EXC_STATUS_IMEAS (min 3000 imeas))

/-- The polarity reverses, or returns to positive, at edge `e` (R292). -/
def State.excFlip (s : State) (e : Nat) : State :=
  let a := s.aux
  (s.setAux { a with
    wraps := 0, flipAt := e, half := e - a.flipAt
    cal := { a.cal with flips := e :: a.cal.flips } }).put Reg.AUX_EXC_STATUS_POL (1 - s.get Reg.AUX_EXC_STATUS_POL)

/-- The shadow set commits when it passes its check, else waits, reported once (R298, R299, R308). -/
def State.auxCommit (s : State) (e : Nat) : State :=
  if s.flag Reg.AUX_STATUS_PENDING then
    let t := s.commitAll auxStaged
    match t.tableFault with
    | none =>
      let keep := s.aux.rng.filter fun (r : Nat × Rng) => s.auxWord r.1 == t.auxWord r.1
      let t := (t.put Reg.AUX_STATUS_PENDING 0).setAux { t.aux with rng := keep }
      if s.flag Reg.AUX_EXC_CFG_EN == t.flag Reg.AUX_EXC_CFG_EN then t else t.excStart e
    | some (code, i) =>
      if s.aux.told then s else (s.setAux { s.aux with told := true }).auxRefuse code i
  else s

/-- The passage from LAST to 0: the shadow set, then the polarity (R292, R298). -/
def State.auxWrap (s : State) (e : Nat) : State :=
  let s := s.auxCommit e
  if s.excRuns then
    let n := s.get Reg.AUX_EXC_CFG_FLIP_N
    let w := s.aux.wraps + 1
    if n = 0 then s.cond (s.flag Reg.AUX_EXC_STATUS_POL) (·.excFlip e)
    else if n ≤ w ∧ s.aux.flipAt + 75000 ≤ e then s.excFlip e
    else s.setAux { s.aux with wraps := w }
  else s

/-- The position at the start of an entry. -/
def seqStart (e w : Nat) : SeqPos :=
  { entry := e, word := w, delay := entDelay w, ticks := entDelay w, left := entConvs w }

/-- The first entry from `e` to LAST that holds a tick (R298). -/
def State.entryFrom (s : State) (e : Nat) : Option SeqPos :=
  (((List.range (s.get Reg.AUX_SEQ_CFG_LAST + 1)).drop e).map fun i => seqStart i (s.auxWord i)).find? fun p => p.ticks + p.left != 0

/-- An entry begins at edge `e` (R307). -/
def State.entryBegins (s : State) (e : Nat) : State :=
  s.setAux { s.aux with switchAt := e, rec_ := s.aux.rec_.map fun r => (r.1, if r.2.length < 3 then r.2 ++ [e] else r.2) }

/-- The sequence begins at entry 0; a loop of no tick runs as one NOCONV tick (R298). -/
def State.seqBegin (s : State) : State :=
  s.seqAt ((s.entryFrom 0).getD { entry := 0, word := 2 ^ 22, delay := 1, ticks := 1, left := 0 })

/-- The crosspoint switches to the entry after the one that ends, at edge `e` (R298, R307). -/
def State.seqNext (s : State) (e : Nat) : State :=
  let s := s.entryBegins e
  match s.aux.after with
  | some p => (s.setAux { s.aux with after := none }).seqAt p
  | none =>
    let cur := (s.aux.pos.map (·.entry)).getD 0
    match s.entryFrom (cur + 1) with
    | some p => s.seqAt p
    | none => (s.auxWrap e).seqBegin

/-! ## Conversions (R295, R306, R307, R310) -/

/-- The range in force for an entry (R308). -/
def State.auxRange (s : State) (e w : Nat) : Nat :=
  if entArng w then entRange w - (s.aux.rng.get {} e).steps else entRange w

/-- A clamp that conducts saturates a conversion in the direction of V(POS) - V(NEG) (R306). -/
def Conv.clamped (c : Conv) : Conv := { c with clamp := true, ovr := true, code := if 0 ≤ c.raw then 131071 else -131072 }

/-- A pin of the list shows in a mask. -/
def inMask (mask : Nat) (l : List Nat) : Bool := l.any fun p => bit mask p

/-- The pins whose clamps matter to an entry (R306). -/
def State.clampPins (s : State) (w : Nat) : List Nat :=
  [entPos w] ++ (if entUsesNeg w then [entNeg w] else []) ++
  (if entBridge w then (List.range 16).filter fun p => s.pinRole p == 4 || s.pinRole p == 5 else [])

/-- An edge lies in a recovery span: its end is the later of 2,500 ref after the last edge at which a clamp conducted and the end of the
second entry that begins after that edge, where a third takes its place (R307). -/
def State.inRecovery (s : State) (e : Nat) : Bool :=
  s.flag Reg.AUX_PIN_CLAMP_NOW ||
  match s.aux.rec_ with
  | none => false
  | some (last, l) => decide (e < last + 2500) || (match l with
    | [_, _, third] => decide (e < third)
    | _ => true)

/-- A wire break of an entry is noticed (R310). -/
def State.isBroken (s : State) (e : Nat) : Bool := s.aux.broken.get 0 e != 0

/-- A conversion of entry `e` with word `w` samples a signal at edge `at_` (R292, R293, R306). -/
def State.convert (s : State) (e w at_ : Nat) (signal : Int) (range : Nat) (rst spare virt : Bool) : Conv :=
  let raw := reading (entMode w) range signal
  let code := if entBridge w && s.flag Reg.AUX_EXC_STATUS_POL then -raw else raw
  let c : Conv :=
    { entry := e, at_ := at_, stamp := s.atOf at_, raw := raw, code := max (-131072) (min 131071 code)
      ovr := decide (code < -131072) || decide (131071 < code), wire := entWchk w && s.isBroken e
      rcv := s.inRecovery at_, rsw := (s.aux.rng.get {} e).rsw, rst := rst
      xlim := entBridge w && s.flag Reg.AUX_EXC_STATUS_XLIM, spare := spare, range := range, virt := virt }
  if inMask (s.get Reg.AUX_PIN_CLAMP_NOW) (s.clampPins w) then c.clamped else c

/-- The result of a group awaits its delivery, with the coefficients now in force (R300). -/
def State.auxDue (s : State) (kind e w avg : Nat) (l : List Conv) : State :=
  let set := entCset w
  s.setAux { s.aux with
    due := s.aux.due ++ [{ kind := kind, entry := e, word := w, avg := avg, ofs := toInt 24 (s.get Reg.AUX_COEF_OFS_OFFSET 0 set)
                           gain := s.get Reg.AUX_COEF_GAIN_GAIN 0 set, convs := l }] }

/-- The first conversion of a result takes the mark of a range change (R308). -/
def State.takeRsw (s : State) (e : Nat) : State :=
  s.setAux { s.aux with rng := s.aux.rng.modify {} e fun r => { r with rsw := false } }

/-! ## Which converter runs (R313, R315) -/

/-- A calibration measures. -/
def State.calMeasures (s : State) : Bool :=
  (s.get Reg.AUX_CAL_STATUS_STATE == 2 || s.get Reg.AUX_CAL_STATUS_STATE == 4) && s.aux.cal.begun.isSome

/-- The converter that runs the sequence: main (false), spare (true), or none. -/
def State.runner (s : State) : Option Bool :=
  let m := !s.flag Reg.AUX_STATUS_MAIN_FAIL
  let p := !s.flag Reg.AUX_STATUS_SPARE_FAIL
  if s.calMeasures then (if m && p then some true else none)
  else if m then some false else if p then some true else none

/-- A result is lost (R305). -/
def State.auxLose (s : State) (c : Conv) : State :=
  (s.setAux { s.aux with queue := s.aux.queue.lose c.stamp c.at_ s.dtRef }).acount Reg.AUX_LOST_COUNT

/-- A conversion tick of the sequence (R298, R300). -/
def State.auxConvert (s : State) (p : SeqPos) (e : Nat) (signal : Int) : State :=
  let first := p.grp == []
  let range := if first then s.auxRange p.entry p.word else ((p.grp.head?.map (·.range)).getD 0)
  let c := s.convert p.entry p.word e signal range p.redo (s.runner == some true) s.runner.isNone
  let c : Conv := if first then c else { c with rsw := false }
  let s := s.cond first (·.takeRsw p.entry)
  let s := s.cond p.redo (·.acount Reg.AUX_RESTART_COUNT)
  let grp := p.grp ++ [c]
  let full := decide (2 ^ entAvg p.word ≤ grp.length)
  let s := if full then
      if grp.any (·.virt) then s.auxLose c else s.auxDue 0 p.entry p.word (entAvg p.word) grp
    else s
  let q : SeqPos := { p with left := p.left - 1, grp := if full then [] else grp, redo := false }
  let s := s.seqAt q
  let pend := s.aux.pend.map fun r => if r.next then { r with next := false, edge := if c.rst then e + 124 else e } else r
  let s := s.setAux { s.aux with cur := some c, before := some p, ended := decide (q.left = 0), pend := pend }
  if q.left = 0 then s.seqNext (e + 2) else s

/-- A tick that passes without a conversion (R298). -/
def State.auxDelayTick (s : State) (p : SeqPos) (e : Nat) : State :=
  let s := s.seqAt { p with ticks := p.ticks - 1 }
  let s := s.setAux { s.aux with pend := s.aux.pend.map fun r => if r.next then { r with next := false, edge := e } else r }
  if p.ticks - 1 = 0 ∧ p.left = 0 then s.seqNext (e + 2) else s

/-- A calibration that waits for its tick begins at this one; injections come first, and the sequence has then resumed at a tick before
(R311, R313). -/
def State.calBegin (s : State) (e : Nat) : State :=
  let st := s.get Reg.AUX_CAL_STATUS_STATE
  let c := s.aux.cal
  if c.begun.isNone && (st == 1 || st == 2 || st == 4) then
    if s.injBusy e || s.aux.pend != [] then
      (s.setAux { s.aux with cal := { c with resumed := false } }).put Reg.AUX_CAL_STATUS_STATE 1
    else if st == 1 && !c.resumed then s.setAux { s.aux with cal := { c with resumed := true } }
    else
      let s := s.setAux { s.aux with cal := { c with
        begun := some e, cavg := max 4 (min 10 (s.get Reg.AUX_CAL_CFG_CAVG))
        pol := s.flag Reg.AUX_EXC_STATUS_POL, flips := [], bad := false } }
      s.put Reg.AUX_CAL_STATUS_STATE (if c.full then 4 else 2)
  else s

/-- Which converter runs the sequence from this tick on (R305, R313, R315). -/
def State.auxRunner (s : State) (e : Nat) : State :=
  let s := s.putB Reg.AUX_STATUS_CONV (s.runner == some true)
  match s.runner with
  | none => s.setAux { s.aux with paused := true }
  | some _ => if s.aux.paused then s.setAux { s.aux with paused := false, runFrom := e } else s

/-- The grid's period in ns (R296). -/
def State.auxTickNs (s : State) : Nat := 4 * max 125 (s.get Reg.AUX_SEQ_CFG_TICK)

/-- A tick of the grid: the converter reads `signal` if a conversion samples, and the generator's current is `imeas` (R296, R298, R301). -/
def execAuxTick (signal : Int) (imeas : Nat) (s : State) : Out :=
  .next <|
    if s.auxEn then
      let e := s.gridNext s.aux.lastTick s.auxTickNs s.aux.off
      let s := s.advanceTo e
      let s := (s.setAux { s.aux with lastTick := e, off := s.etOff }).excMeasure imeas
      let s := (s.calBegin e).auxRunner e
      match s.aux.pos with
      | none => if s.flag Reg.AUX_STATUS_MAIN_FAIL && s.flag Reg.AUX_STATUS_SPARE_FAIL then s else (s.entryBegins e).seqBegin
      | some p =>
        if s.injBusy e then s.acount Reg.AUX_SLIP_COUNT
        else if p.ticks = 0 then s.auxConvert p e signal
        else s.auxDelayTick p e
    else s

/-! ## Injections (R301) -/

/-- A write of AUX_INJ_CMD (R301). -/
def execAuxInjectFire (val : Nat) (s : State) : Out :=
  .next <| s.bar 0x1B0030 fun s => s.each ((List.range 4).filter fun k => bit val k) fun s k => s.auxRequest k

/-- The next request in order: by its edge, then its slot. -/
def nextReq (l : List InjReq) : Option InjReq :=
  (l.filter fun r => !r.next).foldl (fun m r => match m with
    | none => some r
    | some x => if r.edge < x.edge ∨ (r.edge = x.edge ∧ r.slot < x.slot) then some r else some x) none

/-- The next request is served: its conversion samples DLY after its switch, or 125 ref after the one before it in the run (R301). -/
def execAuxInjectedSample (signal : Int) (s : State) : Out :=
  .next <|
    match nextReq s.aux.pend, s.runner with
    | some r, some _ =>
      let spare := s.flag Reg.AUX_STATUS_CONV || s.flag Reg.AUX_STATUS_MAIN_FAIL
      if s.auxEn then
        let dly := max 2 (s.get Reg.AUX_INJ_CFG_DLY r.slot)
        let (served, at_) := match s.aux.run with
          | some (served, last) =>
            if s.injRunning r.edge then (r.slot :: served, max (last + 125) (max (last + 2) (r.edge + 1) + dly))
            else ([r.slot], r.edge + 1 + dly)
          | none => ([r.slot], r.edge + 1 + dly)
        let s := s.cond (served == [r.slot]) (·.auxInterrupt (r.edge + 1))
        let s := s.advanceTo at_
        let e := s.get Reg.AUX_INJ_CFG_ENTRY r.slot
        let w := s.auxWord e
        let c := s.convert e w at_ signal (s.auxRange e w) false spare false
        let s := s.setAux { s.aux with run := some (served, at_), pend := s.aux.pend.filter fun x => x.slot != r.slot }
        (s.takeRsw e).auxDue 1 e w 0 [c]
      else s
    | _, _ => s

/-! ## Results (R300, R303 to R308) -/

/-- VALUE of a result, with its OVR and WIRE flags (R300, R306, R310). -/
def AuxRes.value (r : AuxRes) : Int × Bool × Bool :=
  let sum := r.convs.foldl (fun a c => a + c.code) 0
  let raw : Int := 64 * sum / (2 ^ r.avg : Nat)
  let v : Int := (2 * ((raw - r.ofs) * r.gain) + 2 ^ 22) / 2 ^ 23
  if r.convs.any (·.wire) then (-(2 ^ 23), false, true)
  else match (r.convs.filter (·.ovr)).getLast? with
    | some c => (if 0 ≤ c.code then 2 ^ 23 - 1 else -(2 ^ 23), true, false)
    | none =>
      if 2 ^ 23 - 1 < v then (2 ^ 23 - 1, true, false)
      else if v < -(2 ^ 23) then (-(2 ^ 23), true, false)
      else (v, false, false)

/-- A record enters the queue, with QLEVEL and the threshold (R305). -/
def State.auxPush (s : State) (e : Nat × Nat) : State :=
  let q := s.aux.queue
  let n := q.q.length + 1
  let thr := min 1023 (64 * (s.get Reg.AUX_Q_STATUS_THR + 1))
  ((s.setAux { s.aux with queue := { q with q := q.q ++ [e] } }).put Reg.AUX_Q_STATUS_QLEVEL n).cond
    (decide (q.q.length < thr) && decide (thr ≤ n)) (·.put Reg.AUX_INT_QTHR 1)

/-- A gap record ends the loss episode (R305). -/
def State.auxGap (s : State) (start : Nat) (len : Option Nat) (count : Nat) : State :=
  let s := s.setAux { s.aux with queue := { s.aux.queue with loss := none } }
  (s.cond (decide (s.aux.queue.q.length < 1024)) (·.auxPush (start, gapWord1 len count))).put Reg.AUX_INT_LOSS 1

/-- The edge at which the loss episode closes, while two entries are free and a converter runs the sequence: no result was lost in the ref
before it (R305). -/
def State.auxLossEnds (s : State) : Option Nat :=
  match s.aux.queue.loss with
  | none => none
  | some l =>
    if s.auxEn && s.aux.queue.hasRoom && !s.aux.paused && s.runner.isSome then
      some (max (l.last + 2) (max s.aux.queue.roomAt s.aux.runFrom))
    else none

/-- An episode whose closing edge has come writes its gap record, ahead of any result at this edge (R305). -/
def State.auxCloseLoss (s : State) : State :=
  match s.auxLossEnds, s.aux.queue.loss with
  | some e, some l => if e ≤ s.dtRef then s.auxGap l.start (some (e - l.from_)) l.count else s
  | _, _ => s

/-- A record enters the queue, or is lost (R305). -/
def State.auxEnqueue (s : State) (w0 w1 : Nat) (c : Conv) : State :=
  let s := s.auxCloseLoss
  if s.aux.queue.hasRoom then s.auxPush (w0, w1) else s.auxLose c

/-- Auto-range steps after a sequence result of the entry as it stands: down after OVR, up after four small results in a row (R308). -/
def State.rangeStep (s : State) (e w : Nat) (ovr : Bool) (code : Int) : State :=
  if entArng w && w == s.auxWord e then
    let r := s.aux.rng.get {} e
    let r' : Rng :=
      if ovr then (if r.steps < entRange w then { steps := r.steps + 1, small := 0, rsw := true } else { r with small := 0 })
      else if -8192 < code ∧ code < 8192 then
        if 3 ≤ r.small then (if 0 < r.steps then { steps := r.steps - 1, small := 0, rsw := true } else { r with small := 4 })
        else { r with small := r.small + 1 }
      else { r with small := 0 }
    s.setAux { s.aux with rng := s.aux.rng.set {} e r' }
  else s

/-- The earliest result is delivered 130 ref after its last sample edge (R295, R304). -/
def execAuxResult (s : State) : Out :=
  .next <|
    match s.aux.due with
    | [] => s
    | r :: l =>
      match r.convs.getLast? with
      | none => s.setAux { s.aux with due := l }
      | some c =>
        let s := s.advanceTo (c.at_ + 130)
        let (v, ovr, wire) := r.value
        let any (f : Conv → Bool) : Bool := r.convs.any f
        let key := 2 * r.entry + r.kind
        let prev := s.aux.lastAt.get 0 key
        let clamp := any (·.clamp)
        let w1 := r.kind * 2 ^ 62 + 2 ^ 61 + r.entry * 2 ^ 55 + c.range * 2 ^ 52 + r.avg * 2 ^ 49 + boolNat ovr * 2 ^ 48 +
          boolNat clamp * 2 ^ 47 + boolNat wire * 2 ^ 46 + boolNat (any (·.rcv) && !clamp) * 2 ^ 45 + boolNat (any (·.rsw)) * 2 ^ 44 +
          boolNat (any (·.rst)) * 2 ^ 43 + boolNat (any (·.xlim)) * 2 ^ 42 + boolNat (any (·.spare)) * 2 ^ 41 +
          (if prev = 0 then 0 else min 65535 (c.at_ + 1 - prev)) * 2 ^ 24 + ofInt 24 v
        let s := s.setAux { s.aux with due := l, lastAt := s.aux.lastAt.set 0 key (c.at_ + 1) }
        let s := (s.acount Reg.AUX_RESULTS_COUNT).put Reg.AUX_LAST_RECORD (c.stamp + w1 * 2 ^ 64) r.entry
        let s := s.cond ovr fun s => (s.acount Reg.AUX_OVR_COUNT).put Reg.AUX_INT_OVR 1
        let s := s.cond (s.flag Reg.AUX_CTRL_QEN) (·.auxEnqueue c.stamp w1 c)
        if r.kind = 0 then (s.rangeStep r.entry r.word ovr (v / 64)).maskSample r.entry (v / 64) (ovr || clamp || wire) c.at_ else s

/-- A read of AUX_Q_W0_LO (R279, R305). -/
def execAuxQueueSnapshot (s : State) : Out :=
  .next <| s.bar 0x1B0200 fun s =>
    let q := s.aux.queue.snapshot
    { s.setAux { s.aux with queue := q } with rdata := [q.port 0] }

/-- A read of AUX_Q_W1_HI (R279, R305). -/
def execAuxQueueRemove (s : State) : Out :=
  .next <| s.bar 0x1B020C fun s =>
    let q := s.aux.queue.remove s.dtRef
    let s := (s.setAux { s.aux with queue := q }).put Reg.AUX_Q_STATUS_QLEVEL q.q.length
    { s with rdata := [q.port 3] }

/-- A loss episode closes (R305). -/
def execAuxGapRecord (s : State) : Out :=
  .next <|
    match s.auxLossEnds with
    | none => s
    | some e => (s.advanceTo e).auxCloseLoss

/-! ## Clamps, wires, excitation (R289, R291, R307, R309, R310) -/

/-- The conversions in progress, changed by `f`. -/
def State.mapBusy (s : State) (f : Conv → Conv) : State :=
  let g (c : Conv) : Conv := if c.busy s.dtRef then f c else c
  let a := s.aux
  s.setAux { a with
    due := a.due.map fun r => { r with convs := r.convs.map g }
    pos := a.pos.map fun p => { p with grp := p.grp.map g } }

/-- A calibration measures entry `e` at this edge, with a conversion in progress (R311). -/
def State.calSamples (s : State) (e : Nat) : Bool :=
  s.calMeasures && s.aux.cal.entry == e && (match s.aux.cal.begun with
    | some b => decide (b + 64 ≤ s.dtRef) && decide (s.dtRef < b + 64 + 125 * 2 ^ s.aux.cal.cavg)
    | none => false)

/-- The measurement under way is struck (R312). -/
def State.calStruck (s : State) (c : Bool) : State :=
  s.cond (c && s.calSamples s.aux.cal.entry) fun s => s.setAux { s.aux with cal := { s.aux.cal with bad := true } }

/-- The pins whose clamps conduct at voltages in mV (R289). -/
def clampMask (volts : List Int) : Nat :=
  (List.range 16).foldl (fun n p => n + boolNat (decide (3000 < (volts.getD p 0).natAbs)) * 2 ^ p) 0

/-- The pins' voltages change, and with them the clamps that conduct (R289, R306, R307). -/
def execAxClampConduct (volts : List Int) (s : State) : Out :=
  .next <|
    let pins := clampMask volts
    let was := s.get Reg.AUX_PIN_CLAMP_NOW
    let cal := s.clampPins (s.auxWord s.aux.cal.entry)
    let s := (s.put Reg.AUX_PIN_CLAMP_NOW pins).calStruck (inMask pins cal || inMask was cal)
    if pins = 0 then
      if was = 0 then s
      else s.setAux { s.aux with rec_ := some (s.dtRef - 1, if s.dtRef ≤ s.aux.switchAt then [s.aux.switchAt] else []) }
    else
      let s := (s.put Reg.AUX_PIN_CLAMPED_SEEN (Nat.lor (s.get Reg.AUX_PIN_CLAMPED_SEEN) pins)).put Reg.AUX_INT_CLAMP 1
      let s := s.setAux { s.aux with rec_ := some (s.dtRef, if s.dtRef < s.aux.switchAt then [s.aux.switchAt] else []) }
      s.mapBusy fun c => if inMask pins (s.clampPins (s.auxWord c.entry)) then c.clamped else c

/-- What a check finds is a break of an entry with word `w` (R309). -/
def State.wireBreaks (s : State) (w : Nat) : WireCheck → Bool
  | .current => entBridge w && decide (s.get Reg.AUX_EXC_STATUS_IMEAS < 10 * s.get Reg.AUX_EXC_CFG_IMIN)
  | .senses fp fn sp sn p n =>
    entBridge w && s.roleHeld 4 && s.roleHeld 5 &&
    (decide (500 < (sp - fp).natAbs) || decide (500 < (sn - fn).natAbs) ||
      [p, n].any fun v => decide (v < min sp sn) || decide (max sp sn < v))
  | .openPin q => q == entPos w || (entUsesNeg w && q == entNeg w)

/-- A wire check of an entry notices a break (R309, R310). -/
def execWireBreakDetect (entry : Nat) (check : WireCheck) (s : State) : Out :=
  need (decide (entry < 64)) <|
    if s.auxEn && entWchk (s.auxWord entry) && s.wireBreaks (s.auxWord entry) check then
      let s := (s.setAux { s.aux with broken := s.aux.broken.set 0 entry (s.dtRef + 1) }).calStruck (entry == s.aux.cal.entry)
      let i := entry / 32
      let s := (s.put Reg.AUX_WIRE_WIRE (Nat.lor (s.get Reg.AUX_WIRE_WIRE i) (2 ^ (entry % 32))) i).put Reg.AUX_INT_WIRE 1
      s.mapBusy fun c => if c.entry = entry then { c with wire := true } else c
    else s

/-- The checks of an entry have passed since the last break noticed, for a half-period of the excitation or 300 us, whichever is longer
(R310). -/
def execWireClear (entry : Nat) (s : State) : Out :=
  need (decide (entry < 64)) <|
    if s.isBroken entry then
      let s := s.advanceTo (s.aux.broken.get 0 entry - 1 + max 75000 s.aux.half)
      let s := s.calStruck (entry == s.aux.cal.entry && entWchk (s.auxWord entry))
      s.setAux { s.aux with broken := s.aux.broken.set 0 entry 0 }
    else s

/-- A limit prevents regulation (R291). -/
def execExcitationLimit (imeas : Nat) (s : State) : Out :=
  .next <|
    if s.excRuns then ((s.excMeasure imeas).put Reg.AUX_EXC_STATUS_XLIM 1).put Reg.AUX_INT_XLIM 1 else s

/-- No limit prevents regulation (R291). -/
def execExcitationLimitClear (imeas : Nat) (s : State) : Out :=
  .next ((s.excMeasure imeas).put Reg.AUX_EXC_STATUS_XLIM 0)

/-! ## What the pins are driven to (R288, R291, R293) -/

/-- A pin as the block drives it: high impedance; a voltage in pV; or a force pin, whose voltage follows from what its sense pin must read or
from the limit that prevents it. -/
inductive PinDrive where
  | highZ
  | level (pV : Int)
  | forced
  deriving DecidableEq, Repr

/-- The generator regulates at the sense pins when both are assigned (R291). -/
def State.senses (s : State) : Bool := s.roleHeld 4 && s.roleHeld 5

/-- The voltage in pV at which the generator holds a pin: LEVEL, at most 2.5 V, by its polarity (R291, R292). -/
def State.excHeld (s : State) (p : Nat) : Option Int :=
  let v : Int := 10 ^ 10 * (min 250 (s.get Reg.AUX_EXC_CFG_LEVEL) : Nat)
  let v := if s.flag Reg.AUX_EXC_STATUS_POL then -v else v
  let r := s.pinRole p
  if !s.excRuns || s.flag Reg.AUX_EXC_STATUS_XLIM then none
  else if r = (if s.senses then 4 else 2) then some v
  else if r = (if s.senses then 5 else 3) then some (-v)
  else none

/-- What the block drives a pin to; in reset, before start and in pilot-light mode every pin is off (R288, R291, R293, R316). -/
def State.pinDrive (s : State) (p : Nat) : PinDrive :=
  if s.sys.phase != .running then .highZ
  else
    match s.pinRole p with
    | 1 => if s.aux.pos.any fun q => entMode q.word == 3 && entPos q.word == p then .level 0 else .highZ
    | 2 | 3 => if s.excRuns then ((s.excHeld p).map PinDrive.level).getD .forced else .highZ
    | 6 => .level (toInt 12 (s.get Reg.AUX_PIN_CFG_BIAS p) * 1220703125)
    | _ => .highZ

/-! ## Calibration (R311 to R314) -/

/-- A calibration ends with an error (R312). -/
def State.calFail (s : State) (err : Nat) : State :=
  let s := ((s.put Reg.AUX_CAL_STATUS_STATE 6).put Reg.AUX_CAL_STATUS_ERR err).put Reg.AUX_INT_CAL_ERR 1
  s.setAux { s.aux with cal := { s.aux.cal with begun := none } }

/-- A calibration is under way. -/
def State.calRuns (s : State) : Bool :=
  let st := s.get Reg.AUX_CAL_STATUS_STATE
  decide (1 ≤ st) && decide (st ≤ 4)

/-- A step is accepted: it waits for a pending or running injection, and begins at the next tick (R311 to R313). -/
def State.calStep (s : State) (c : AuxCal) : State :=
  if s.entryFault (s.auxWord c.entry) ≠ 0 then s.calFail 2
  else if s.flag Reg.AUX_STATUS_MAIN_FAIL && s.flag Reg.AUX_STATUS_SPARE_FAIL then s.calFail 7
  else if !s.auxEn then s.calFail 6
  else
    let s := s.setAux { s.aux with cal := { c with begun := none, resumed := false } }
    let inj := s.injRunning s.dtRef || s.aux.pend != []
    (s.put Reg.AUX_CAL_STATUS_ERR 0).put Reg.AUX_CAL_STATUS_STATE (if inj then 1 else if c.full then 4 else 2)

/-- A write of AUX_CAL_CMD with STEP = ZERO (R311, R312). -/
def execAuxCalZero (val : Nat) (s : State) : Out :=
  need (bits val 0 2 == 1) <| s.bar 0x1B0090 fun s =>
    if s.calRuns then s.calFail 1
    else s.calStep { entry := bits val 16 6, set := bits val 8 4, zonly := bit val 2 }

/-- A write of AUX_CAL_CMD with STEP = FULL (R311, R312). -/
def execAuxCalFull (val : Nat) (s : State) : Out :=
  need (bits val 0 2 == 2) <| s.bar 0x1B0090 fun s =>
    if s.get Reg.AUX_CAL_STATUS_STATE = 3 then s.calStep { s.aux.cal with full := true }
    else if s.calRuns then s.calFail 1
    else s.calFail 8

/-- A write of AUX_CAL_CMD with STEP = ABORT (R312). -/
def execAuxCalAbort (val : Nat) (s : State) : Out :=
  need (bits val 0 2 == 3) (s.bar 0x1B0090 fun s => if s.calRuns then s.calFail 6 else s)

/-- GAIN of R312, when it exists. -/
def calGain (z f fs : Int) : Option Nat :=
  let d := f - z
  if d = 0 ∨ (0 < d ∧ fs < 0) ∨ (d < 0 ∧ 0 < fs) then none
  else
    let n : Int := if d < 0 then -(2 ^ 28 * fs) else 2 ^ 28 * fs
    let d := if d < 0 then -d else d
    let g := (2 * n + d) / (2 * d)
    if 0xFFFFFF < g then none else some g.toNat

/-- A calibration's conversions of the signals, at the entry's RANGE and with the polarity at each sample edge: the sum of their codes, and
whether one carried OVR (R292, R293, R311). -/
def State.calSum (s : State) (b : Nat) (signals : List Int) : Int × Bool :=
  let c := s.aux.cal
  let w := s.auxWord c.entry
  (List.range (2 ^ c.cavg)).foldl (fun r i =>
    let neg := entBridge w && xor c.pol (decide ((c.flips.filter fun e => decide (e ≤ b + 64 + 125 * i)).length % 2 = 1))
    let raw := reading (entMode w) (entRange w) (signals.getD i 0)
    let code := if neg then -raw else raw
    (r.1 + max (-131072) (min 131071 code), r.2 || decide (code < -131072) || decide (131071 < code))) (0, false)

/-- A measurement ends, with the signals its conversions sampled; OVR, CLAMP or WIRE in one of them is an error (R311, R312). -/
def execAuxCalStepEnd (signals : List Int) (s : State) : Out :=
  .next <|
    match s.aux.cal.begun with
    | none => s
    | some e =>
      if s.calMeasures then
        let c := s.aux.cal
        let w := s.auxWord c.entry
        let (sum, ovr) := s.calSum e signals
        let bad := ovr || c.bad || inMask (s.get Reg.AUX_PIN_CLAMP_NOW) (s.clampPins w) || (entWchk w && s.isBroken c.entry)
        let idle := s.runner.isNone
        let s := s.advanceTo (e + 64 + 125 * 2 ^ c.cavg + 5)
        let a := s.aux
        let s := s.setAux { a with
          cal := { c with begun := none }
          pend := if idle then a.pend.map fun r => { r with edge := max r.edge s.dtRef } else a.pend }
        if bad then s.calFail 3
        else
          let m : Int := 64 * sum / (2 ^ c.cavg : Nat)
          let done (s : State) (z : Int) (g : Option Nat) : State :=
            let s := s.auxStage Reg.AUX_COEF_OFS_OFFSET (ofInt 24 z) 0 c.set
            let s := match g with
              | some g => s.auxStage Reg.AUX_COEF_GAIN_GAIN g 0 c.set
              | none => s
            (s.put Reg.AUX_CAL_STATUS_STATE 5).put Reg.AUX_INT_CAL_DONE 1
          if c.full then
            let s := s.put Reg.AUX_CAL_F_F (ofInt 24 m)
            match calGain c.z m (toInt 18 (s.get Reg.AUX_CAL_FS_FS)) with
            | none => s.calFail 4
            | some g => done s c.z (some g)
          else
            let s := s.put Reg.AUX_CAL_Z_Z (ofInt 24 m)
            if c.zonly then done s m none
            else
              (s.setAux { s.aux with cal := { s.aux.cal with z := m, since := s.dtRef } }).put Reg.AUX_CAL_STATUS_STATE 3
      else s

/-- No FULL arrives within TMO seconds of WAIT_FULL (R312). -/
def execAuxCalTimeout (s : State) : Out :=
  .next <|
    if s.get Reg.AUX_CAL_STATUS_STATE = 3 then
      (s.advanceTo (s.aux.cal.since + 250000000 * max 1 (s.get Reg.AUX_CAL_CFG_TMO))).calFail 5
    else s

/-! ## Converter checks (R315) -/

/-- A converter is marked failed: the spare takes over, or the sequence stops (R315, R499, R512). -/
def State.convFails (s : State) (spare : Bool) : State :=
  let f := if spare then Reg.AUX_STATUS_SPARE_FAIL else Reg.AUX_STATUS_MAIN_FAIL
  if s.flag f then s
  else
    let s := ((s.put f 1).put Reg.AUX_INT_CONV_FAIL 1).unitOut 0xA (boolNat spare)
    let s := s.cond (!spare && !s.flag Reg.AUX_STATUS_SPARE_FAIL) (·.bringSpare 0xA 0 0)
    let s := s.fault 0x13 (boolNat spare)
    if s.flag Reg.AUX_STATUS_MAIN_FAIL && s.flag Reg.AUX_STATUS_SPARE_FAIL then
      let s := s.setAux { s.aux with pos := none, cur := none, before := none, after := none }
      let s := s.cond s.calRuns (·.calFail 7)
      let s := s.auxCloseLoss
      match s.aux.queue.loss with
      | none => s.auxGap (s.atOf s.dtRef) none 0
      | some l => s.auxGap l.start none l.count
    else s

/-- A reading of the internal 2.048 V reference, in uV, lies outside 0.05 % (R315). -/
def refBad (uV : Int) : Bool := decide (1024 < (uV - 2048000).natAbs)

/-- Every 2^20 ref, at a tick, both converters convert one sample; codes more than 32 apart make both read the reference at the next
tick, and a reading outside 0.05 % marks a converter (R315). -/
def execAuxConverterCheck (main spare : Int) (mainRef spareRef : Int) (s : State) : Out :=
  .next <|
    if s.auxEn && !s.flag Reg.AUX_STATUS_MAIN_FAIL && !s.flag Reg.AUX_STATUS_SPARE_FAIL && !s.calMeasures then
      let e := s.gridAfter (s.aux.checkAt + 2 ^ 20 - 1) s.auxTickNs
      let s := s.advanceTo e
      let s := s.setAux { s.aux with checkAt := e }
      if 32 < main - spare ∨ 32 < spare - main then
        let s := s.acount Reg.AUX_MISMATCH_COUNT
        let s := s.advanceTo (s.gridAfter e s.auxTickNs)
        let s := s.cond (refBad mainRef) (·.convFails false)
        s.cond (refBad spareRef) (·.convFails true)
      else s
    else s

/-! ## Enable, pins, counters (R288 to R290, R296, R299, R316, R319) -/

/-- EN rises: the active table is checked, and the sequence starts at the first tick (R296, R299). -/
def State.auxStart (s : State) : State :=
  let a := s.aux
  let s := s.setAux { a with
    pos := none, lastTick := s.dtRef, off := s.etOff, cur := none, before := none, after := none, ended := false
    run := none, pend := [], rng := [], checkAt := s.dtRef, told := false, paused := true }
  ((s.excStart s.dtRef).putB Reg.AUX_STATUS_CONV (s.runner == some true)).put Reg.AUX_CTRL_EN 1

/-- EN falls: the sequence, injections, calibration and excitation stop; results already sampled are still delivered (R316). -/
def State.auxStop (s : State) : State :=
  let s := s.cond s.calRuns (·.calFail 6)
  let s := s.setAux { s.aux with pos := none, cur := none, before := none, after := none, pend := [], run := none, broken := [] }
  (s.put Reg.AUX_CTRL_EN 0).excStart s.dtRef

/-- A write of AUX_CTRL. -/
def State.auxCtrl (s : State) (v : Nat) : State :=
  if bit v 0 && !s.auxEn then
    match s.tableFault with
    | some (code, e) => s.auxRefuse code e
    | none => (s.put Reg.AUX_CTRL_QEN (bits v 1 1)).auxStart
  else
    let s := s.put Reg.AUX_CTRL_QEN (bits v 1 1)
    if !bit v 0 && s.auxEn then s.auxStop else s

def execAuxEnable (val : Nat) (s : State) : Out := need (bit val 0) (s.bar 0x1B0000 (·.auxCtrl val))
def execAuxDisable (val : Nat) (s : State) : Out := need (!bit val 0) (s.bar 0x1B0000 (·.auxCtrl val))

/-- A write of AUX_PIN_CFGp: ignored for a reserved role or a second holder of an excitation role; ROLE is locked (R290). -/
def State.pinCfg (s : State) (p v : Nat) : State :=
  let r := bits v 0 3
  let taken := decide (2 ≤ r) && decide (r ≤ 5) && (List.range 16).any fun q => q != p && s.pinRole q == r
  if r = 7 then s.auxRefuse 4 p
  else if taken then s.auxRefuse 3 p
  else
    let s := if s.auxEn && s.pinRole p != r then s.auxRefuse 5 p else s.put Reg.AUX_PIN_CFG_ROLE r p
    s.put Reg.AUX_PIN_CFG_BIAS (bits v 16 12) p

def execAuxPinCfgWrite (pin val : Nat) (s : State) : Out :=
  need (decide (pin < 16)) (s.bar (0x1B0040 + 4 * pin) (·.pinCfg pin val))

/-- A write of AUX_CNT_CLR (R319). -/
def execAuxCntClr (s : State) : Out :=
  .next <| s.bar 0x1B0108 fun s => s.clearFields ([Reg.AUX_RESULTS_COUNT, Reg.AUX_LOST_COUNT, Reg.AUX_OVR_COUNT, Reg.AUX_RESTART_COUNT,
    Reg.AUX_SLIP_COUNT, Reg.AUX_INJ_MERGED_COUNT, Reg.AUX_MISMATCH_COUNT].map (·.id))

end Sys2Proof.Machine
end

