-- ==== Sys2Proof/Machine/Coder.lean ====
section
/-! DEFINITION. Machine/Coder.lean: the dictionary coder, its decoder, and the block format (R440 to R446, R451, R454). -/

namespace Sys2Proof.Machine

/-- NEXT of a dictionary (R443). -/
def Dict.next (d : Dict) : Nat := 0x100 + d.length

/-- The code of the entry (w, c), if there is one. -/
def Dict.find (d : Dict) (w c : Nat) : Option Nat := (d.idxOf? (w, c)).map (0x100 + ·)

/-- The entry (w, c) is added while the dictionary has room. -/
def Dict.add (d : Dict) (w c : Nat) : Dict := if d.next < 0x1000 then d ++ [(w, c)] else d

/-- The coder of R443: the codes of the bytes that remain after the string `w`, and the dictionary afterwards. -/
def encodeFrom : List Nat → Nat → Dict → List Nat × Dict
  | [], w, d => ([w], d)
  | c :: l, w, d =>
    match d.find w c with
    | some k => encodeFrom l k d
    | none => let r := encodeFrom l c (d.add w c); (w :: r.1, r.2)

def encodeBytes (d : Dict) : List Nat → List Nat × Dict
  | [] => ([], d)
  | c :: l => encodeFrom l c d

/-- The bytes a code stands for (R443). -/
def Dict.string (d : Dict) : Nat → Nat → List Nat
  | 0, _ => []
  | f + 1, k =>
    if k < 0x100 then [k]
    else match d[k - 0x100]? with
      | none => []
      | some (p, b) => d.string f p ++ [b]

def Dict.str (d : Dict) (k : Nat) : List Nat := d.string 4097 k

/-- The decoder of R444: the bytes, and the dictionary afterwards, or nothing for a code that is not defined when read. -/
def decodeFrom : List Nat → Option Nat → Dict → Option (List Nat × Dict)
  | [], _, d => some ([], d)
  | k :: l, prev, d =>
    let s := if k < d.next then some (d.str k)
      else match prev with
        | some q => if k = d.next then some (d.str q ++ (d.str q).take 1) else none
        | none => none
    match s with
    | none => none
    | some s =>
      let d := match prev with
        | some q => d.add q (s.headD 0)
        | none => d
      (decodeFrom l (some k) d).map fun r => (s ++ r.1, r.2)

/-- The bytes of words, least significant first (R441). -/
def wordBytes (l : List Nat) : List Nat := l.flatMap (leBytesN 8)

/-- The number that bytes spell, least significant first. -/
def bytesNum (l : List Nat) : Nat := l.foldr (fun b n => b % 256 + 256 * n) 0

/-- Words of `n` bytes. -/
def bytesWords (n : Nat) : Nat → List Nat → List Nat
  | 0, _ => []
  | k + 1, l => if l = [] then [] else bytesNum (l.take n) :: bytesWords n k (l.drop n)

/-- Codes of 12 bits packed into 64-bit words (R441). -/
def packCodes (l : List Nat) : List Nat :=
  let b := l.foldr (fun c n => c + 4096 * n) 0
  (List.range (ceilDiv (12 * l.length) 64)).map fun i => bits b (64 * i) 64

/-- The codes of a payload. -/
def unpackCodes (n : Nat) (l : List Nat) : List Nat :=
  let b := l.foldr (fun w n => w + 2 ^ 64 * n) 0
  (List.range n).map fun j => bits b (12 * j) 12

/-- The header of a block (R440). -/
def blockHeader (ctx : Nat) (unc rst : Bool) (bseq : Nat) (psn : Bool) (pwords uwords : Nat) : Nat :=
  0xC3 * 2 ^ 56 + ctx * 2 ^ 50 + boolNat unc * 2 ^ 49 + boolNat rst * 2 ^ 48 + bseq * 2 ^ 32 + boolNat psn * 2 ^ 31 + pwords * 2 ^ 14 +
    uwords

/-- The trailer of a block (R442). -/
def blockTrailer (content : List Nat) (ncode : Nat) : Nat := crc32c (wordBytes content) * 2 ^ 32 + ncode

/-- A block sent expanded (R446, R447). -/
def expandedBlock (ctx : Nat) (rst : Bool) (bseq : Nat) (l : List (Nat × Bool)) : List (Nat × Bool) :=
  (blockHeader ctx true rst bseq (l.any (·.2)) l.length l.length, false) :: l ++ [(blockTrailer (l.map (·.1)) 0, false)]

/-- A block in codes: its words, or nothing when it would not shrink; and the dictionary afterwards (R443, R446). -/
def codedBlock (ctx : Nat) (rst : Bool) (bseq : Nat) (d : Dict) (l : List Nat) : Option (List Nat × Dict) :=
  let r := encodeBytes d (wordBytes l)
  let p := packCodes r.1
  if l.length ≤ p.length then none
  else some (blockHeader ctx false rst bseq false p.length l.length :: p ++ [blockTrailer l r.1.length], r.2)

/-- What the decompressor finds in the block at the front of `l` (R454): how many words it takes, and the words it stands for with the
dictionary afterwards, or the error. -/
def decodeBlock (bseq : Option Nat) (d : Dict) (l : List Nat) : Nat × Except Nat (List Nat × Dict) :=
  let h := l.headD 0
  let pw := bits h 14 14
  let uw := bits h 0 14
  let unc := bit h 49
  let rst := bit h 48
  let p := (l.drop 1).take pw
  let t := (l.drop (1 + pw)).headD 0
  let nc := bits t 0 17
  let len := pw + 2
  if bits h 56 8 ≠ 0xC3 ∨ uw = 0 ∨ 8192 < uw ∨ bits h 28 3 ≠ 0 ∨ l.length < len ∨ bits t 17 15 ≠ 0 ∨
      pw ≠ (if unc then uw else ceilDiv (12 * nc) 64) then (if l.length < len then l.length else len, .error 1)
  else if (match bseq with
      | none => !rst
      | some b => bits h 32 16 != b % 65536) then (len, .error 5)
  else if unc then
    if crc32c (wordBytes p) = t / 2 ^ 32 then (len, .ok (p, if rst then [] else d)) else (len, .error 4)
  else
    match decodeFrom (unpackCodes nc p) none (if rst then [] else d) with
    | none => (len, .error 2)
    | some r =>
      if r.1.length ≠ 8 * uw then (len, .error 3)
      else
        let ws := bytesWords 8 uw r.1
        if crc32c r.1 = t / 2 ^ 32 then (len, .ok (ws, r.2)) else (len, .error 4)

/-- A context's state as 4,096 words of 32 bits (R451). -/
def stateWords (d : Dict) (bseq : Nat) (rst : Bool) : List Nat :=
  [d.next, bseq, boolNat rst] ++ List.replicate 253 0 ++ d.map (fun e => 2 ^ 31 + e.2 * 2 ^ 12 + e.1) ++
    List.replicate (0xF00 - d.length) 0

/-- The state that 4,096 words give, if they pass the checks of R452. -/
def stateOf (l : List Nat) : Option (Dict × Nat × Bool) :=
  let next := l.getD 0 0
  let es := l.drop 0x100
  let n := next - 0x100
  if next < 0x100 ∨ 0x1000 < next then none
  else if ((es.take n).mapIdx fun i w => bit w 31 && decide (bits w 0 12 < 0x100 + i) && decide (bits w 20 11 = 0)).all id
      && (es.drop n).all (· == 0) && ((l.take 0x100).drop 3).all (· == 0) && decide (l.getD 1 0 < 65536) && decide (l.getD 2 0 < 2) then
    some ((es.take n).map fun w => (bits w 0 12, bits w 12 8), l.getD 1 0, bit (l.getD 2 0) 0)
  else none

end Sys2Proof.Machine
end

