-- ==== Sys2Proof/Machine/Cmp.lean ====
section
/-! DEFINITION. Machine/Cmp.lean: the compression engines and their contexts (R438 to R452), and the enable of a stream, which they
take part in (R168, R180, R240). -/

namespace Sys2Proof.Machine

def State.cctx (s : State) (c : Nat) : CmpCtx := s.cmp.ctx.get {} c

/-- A context changes; its registers show the dictionary and the block number (R456). -/
def State.setCctx (s : State) (c : Nat) (x : CmpCtx) : State :=
  let s := { s with cmp := { s.cmp with ctx := s.cmp.ctx.set {} c x } }
  ((s.put Reg.CMP_CTX_STATUS_NEXT (Dict.next x.dict) 0 c).put Reg.CMP_CTX_BSEQ_BSEQ x.bseq 0 c).putB Reg.CMP_CTX_STATUS_PENDING (x.cmd != 0) 0 c

/-- A compression counter. -/
def State.cmpCount (s : State) (f : Fld) (c : Nat := 0) (n : Nat := 1) : State := s.bump f Reg.CMP_INT_CNT_SAT 0 c n

/-- The engine that serves a context: the one its stream's sink entry names (R240, R438). -/
def State.engineOf (s : State) (c : Nat) : Nat := ((s.streamOfCtx c).map fun n => (s.sink n).pidx).getD 0

/-- Bytes of finished blocks in an engine's store (R449). -/
def State.storeBytes (s : State) (e : Nat) : Nat :=
  (((List.range 64).filter fun c => s.engineOf c == e && (s.streamOfCtx c).isSome).map fun c =>
    8 * ((s.cctx c).out.words - (s.cctx c).out.taken)).foldl (· + ·) 0

/-- The store of 256 KiB has no room for another block of the largest size: the engine takes no input (R449). -/
def State.cmpFull (s : State) (e : Nat) : Bool := decide (262144 < s.storeBytes e + 8 * 8194)

/-! ## Residency and the spill area (R450, R451) -/

/-- The word address of a context's state in the spill area. -/
def State.spillWord (s : State) (c : Nat) : Nat := (s.get Reg.CMP_SPILL_BASE * mib + 16384 * c) / 8

/-- The state goes to the spill area. -/
def State.saveCtx (s : State) (c : Nat) : State :=
  let x := s.cctx c
  let l := stateWords x.dict x.bseq x.rst
  s.writeWords (s.spillWord c) ((List.range 2048).map fun i => (l.getD (2 * i) 0 + l.getD (2 * i + 1) 0 * 2 ^ 32, false))

/-- The state comes from the spill area; one that fails its checks is replaced by a reset state with RST pending (R452). -/
def State.loadCtx (s : State) (c : Nat) : State :=
  let r := s.readWords (s.spillWord c) 2048
  let x := r.1.cctx c
  match (if r.2.any (·.2) then none else stateOf (r.2.flatMap fun w => [w.1 % 2 ^ 32, w.1 / 2 ^ 32])) with
  | some (d, b, t) => r.1.setCctx c { x with dict := d, bseq := b, rst := t }
  | none => (r.1.setCctx c { x with dict := [], bseq := 0, rst := true }).put Reg.CMP_INT_RESTORE_ERR 1

def State.resident (s : State) (e : Nat) : List Nat := s.cmp.resident.getD e []

def State.setResident (s : State) (e : Nat) (l : List Nat) : State :=
  { s with cmp := { s.cmp with resident := s.cmp.resident.set e l } }

/-- The state of a context goes to the spill area and leaves the die (R450). -/
def State.spillCtx (s : State) (c : Nat) : State :=
  let next := Dict.next (s.cctx c).dict
  let s := s.saveCtx c
  ((s.setCctx c { s.cctx c with spilled := true, dict := [] }).put Reg.CMP_CTX_STATUS_RESIDENT 0 0 c).put Reg.CMP_CTX_STATUS_NEXT next 0 c

/-- The state of context `c` becomes resident, and the least recently used of four is spilled; what was spilled is loaded (R450). An RST that
became pending while the state was spilled stays pending (R445), unless a RESTORE replaces the state. -/
def State.makeResident (s : State) (c : Nat) (restore : Bool := false) : State :=
  let e := s.engineOf c
  let l := s.resident e
  let x := s.cctx c
  if l.contains c then s.setResident e (c :: l.filter (· != c))
  else
    let s := match l.drop 3 with
      | [] => s
      | old :: _ => s.spillCtx old
    let s := s.cond (decide (4 ≤ l.length) || x.spilled) (·.cmpCount Reg.CMP_SWAP_COUNT)
    let s := s.setResident e (c :: l.take 3)
    let s := s.cond (x.spilled && !restore) fun s =>
      let s := s.loadCtx c
      s.setCctx c { s.cctx c with rst := (s.cctx c).rst || x.rst }
    (s.setCctx c { s.cctx c with spilled := false }).put Reg.CMP_CTX_STATUS_RESIDENT 1 0 c

/-! ## Blocks (R439, R445 to R448, R452) -/

/-- The fields staged per context (R456). -/
def cmpFields : List Fld := [Reg.CMP_CTX_CFG_BLKLOG, Reg.CMP_CTX_CFG_KEEP, Reg.CMP_CTX_CFG_FLUSH]

/-- SAVE: the state is written to the spill area; of one that stands there already the pending RST is written (R452). -/
def State.saveCmd (s : State) (c : Nat) : State :=
  let s := s.cond (s.cctx c).spilled (·.makeResident c)
  ((s.saveCtx c).put Reg.CMP_CTX_STATUS_SAVED 1 0 c).put Reg.CMP_INT_SAVED 1

/-- The pending command of a context acts: SAVE, then RESTORE, which brings the state on die, then RESET (R452). -/
def State.ctxCommand (s : State) (c : Nat) : State :=
  let v := (s.cctx c).cmd
  let s := s.cond (bit v 0) (·.saveCmd c)
  let s := s.cond (bit v 1) fun s => (s.makeResident c true).loadCtx c
  let s := s.cond (bit v 2) fun s => s.setCctx c { s.cctx c with rst := true }
  s.setCctx c { s.cctx c with cmd := 0 }

/-- A block boundary: staged fields commit, and the pending command acts (R452, R456). -/
def State.blockEnd (s : State) (c : Nat) : State :=
  (s.each cmpFields fun s f => s.commit f 0 c).ctxCommand c

/-- The open block closes, is coded or expanded, and joins the blocks for its output target (R439, R445 to R448). -/
def State.closeBlock (s : State) (c : Nat) (ctxEnd : Bool) : State :=
  let x := s.cctx c
  if x.opn = [] then s
  else
    let rst := x.rst || (!s.flag Reg.CMP_CTX_CFG_KEEP 0 c && decide (Dict.next x.dict = 0x1000))
    let d : Dict := if rst then [] else x.dict
    let plain := !x.redo && !(x.opn.any (·.2))
    let r := if plain then codedBlock c rst x.bseq d (x.opn.map (·.1)) else none
    let ws := match r with
      | some q => q.1.map fun w => (w, false)
      | none => expandedBlock c rst x.bseq x.opn
    let p : SPkt :=
      { ty := 17, words := ws, lo := x.lo, hi := x.hi, ctxEnd := ctxEnd, stream := (s.streamOfCtx c).getD 0, since := s.dtRef }
    let s := s.setCctx c { x with
      dict := (r.map (·.2)).getD d, bseq := (x.bseq + 1) % 65536, rst := r.isNone, opn := [], redo := false
      out := { x.out with pkts := x.out.pkts ++ [p] } }
    let s := s.cmpCount Reg.CMP_CTX_OUT_COUNT c ws.length
    let s := s.cond r.isNone fun s => (s.cmpCount Reg.CMP_CTX_UNC_COUNT c).put Reg.CMP_INT_UNC 1
    let s := s.cond x.redo fun s => (s.cmpCount Reg.CMP_REDO_COUNT).put Reg.CMP_INT_REDO 1
    (s.feedSink (.ctx c)).blockEnd c

/-- The edge at which the open block's flush timer ends, while it runs (R439). -/
def State.flushAt (s : State) (c : Nat) : Option Nat :=
  let x := s.cctx c
  let t := s.get Reg.CMP_CTX_CFG_FLUSH 0 c
  if x.opn ≠ [] ∧ 0 < t then some (x.since + 250 * t) else none

/-- A block whose flush timer has ended closes before another word is taken (R439). -/
def State.flushDue (s : State) (c : Nat) : State :=
  match s.flushAt c with
  | some t => if t ≤ s.dtRef then s.closeBlock c false else s
  | none => s

/-- Words in a full block of a context (R439, R456). -/
def State.blockWords (s : State) (c : Nat) : Nat := 2 ^ min 13 (max 9 (s.get Reg.CMP_CTX_CFG_BLKLOG 0 c))

/-- An engine takes the next word of a context's stream; `fault` says that it detects an error of its own in the block (R438, R439,
R448, R450). A block whose flush timer has ended closes first, and so does one whose capture context ended with the last word taken. -/
def execCmpInputWord (ctx : Nat) (fault : Bool) (s : State) : Out :=
  need (decide (ctx < 64)) <|
    match s.streamOfCtx ctx with
    | none => s
    | some n =>
      let e := s.engineOf ctx
      let s := s.flushDue ctx
      if !bit (s.get Reg.CMP_CTRL_EN) e || s.cmpFull e then s
      else
        let f := (s.strm n).fifo
        match f.next false with
        | none =>
          if f.mark then (s.setStrm n { s.strm n with fifo := { f with mark := false } }).closeBlock ctx true else s
        | some (p, o) =>
          let s := s.cond ((s.cctx ctx).opn == []) (·.makeResident ctx)
          let w := p.words.getD o (0, false)
          let last := decide (o + 1 = p.words.length) && p.ctxEnd
          let x := s.cctx ctx
          let first := x.opn == []
          let s := s.setCctx ctx { x with
            opn := x.opn ++ [w], since := if first then s.dtRef else x.since, redo := x.redo || fault
            lo := if first then p.lo else min x.lo p.lo, hi := if first then p.hi else max x.hi p.hi }
          let s := s.cmpCount Reg.CMP_CTX_IN_COUNT ctx
          let s := (s.setFifoOf (.stream n) (f.take false (s.dual n) 1)).feedSink (.stream n)
          if s.blockWords ctx ≤ (s.cctx ctx).opn.length || last then s.closeBlock ctx last else s

/-- FLUSH µs after its first word a block closes (R439). -/
def execCmpFlushTimeout (ctx : Nat) (fault : Bool) (s : State) : Out :=
  need (decide (ctx < 64)) <|
    match s.flushAt ctx with
    | none => s
    | some t =>
      let s := s.advanceTo t
      (s.setCctx ctx { s.cctx ctx with redo := (s.cctx ctx).redo || fault }).closeBlock ctx false

/-- A write of CMP_CTRL: without a spill partition a bit that would be set stays as it is, and error 0x6 says so (R463). -/
def State.cmpCtrl (s : State) (v : Nat) : State :=
  let old := s.get Reg.CMP_CTRL_EN
  let keep := Nat.land (v % 16) old
  if s.flag Reg.MEM_SPILL_EN || v % 16 == keep then s.put Reg.CMP_CTRL_EN (v % 16)
  else (s.put Reg.CMP_CTRL_EN keep).memRefuse 6

/-- A write of CMP_CTX_CMD for the selected context: it replaces a pending command, and acts at once when no block is open (R452). -/
def State.cmpCmd (s : State) (v : Nat) : State :=
  let c := s.get Reg.CMP_CTX_SEL_CTX
  let s := s.put Reg.CMP_CTX_STATUS_SAVED 0 0 c
  let s := s.setCctx c { s.cctx c with cmd := v % 8 }
  s.cond ((s.cctx c).opn == []) (·.ctxCommand c)

/-- A write of CMP_CTX_CMD with SAVE = 1 (R452). -/
def execCmpSave (val : Nat) (s : State) : Out := need (bit val 0) (s.bar 0x200048 (·.cmpCmd val))

/-- A write of CMP_CTX_CMD with RESTORE = 1 and SAVE = 0 (R452). -/
def execCmpRestore (val : Nat) (s : State) : Out := need (bit val 1 && !bit val 0) (s.bar 0x200048 (·.cmpCmd val))

/-- A write of CMP_CTX_CMD with RESET = 1 alone (R452). -/
def execCmpReset (val : Nat) (s : State) : Out := need (bit val 2 && !bit val 0 && !bit val 1) (s.bar 0x200048 (·.cmpCmd val))

/-- A write of CMP_CNT_CLR (R455). -/
def execCmpCntClr (s : State) : Out :=
  .next <| s.bar 0x200038 fun s =>
    s.clearFields ([Reg.CMP_REDO_COUNT, Reg.CMP_SWAP_COUNT, Reg.CMP_DEC_RETRY_COUNT, Reg.CMP_DEC_ERR_COUNT, Reg.CMP_CTX_IN_COUNT,
      Reg.CMP_CTX_OUT_COUNT, Reg.CMP_CTX_UNC_COUNT].map (·.id))

/-! ## The enable of a stream -/

/-- A write of EVT_STRM_CFGn: MAXITEM, FLUSH, and EN, which starts the stream, or is refused when it has no sink or its compression
context has no output (R240, R438), or closes its open packet and its open block (R168, R180, R439). -/
def State.strmCfg (s : State) (n v : Nat) : State :=
  let old := s.flag Reg.EVT_STRM_CFGn_EN n
  let new := bit v 0
  let k := s.sink n
  let s := (s.put Reg.EVT_STRM_CFGn_MAXITEM (bits v 1 9) n).put Reg.EVT_STRM_CFGn_FLUSH (bits v 16 16) n
  if new && !old then
    if k.pkind = 0 ∨ (k.pkind = 2 ∧ (s.topo.cmpOut.getD k.cctx (0, 0)).1 = 0) then s.put Reg.EVT_INT_REFUSED 1
    else
      let s := (s.put Reg.EVT_STRM_CFGn_EN 1 n).startStream n
      s.cond (k.pkind == 2) fun s => s.setCctx k.cctx { s.cctx k.cctx with rst := true }
  else if old && !new then
    let s := (s.closePkt n).put Reg.EVT_STRM_CFGn_EN 0 n
    s.cond (k.pkind == 2) (·.closeBlock k.cctx false)
  else s

/-- A write of EVT_STRM_CFGn with EN = 1 (R168). -/
def execStreamEnable (stream val : Nat) (s : State) : Out :=
  need (decide (stream < 64) && bit val 0) (s.bar (0x80100 + 8 * stream) (·.strmCfg stream val))

/-- A write of EVT_STRM_CFGn with EN = 0 (R168). -/
def execStreamDisable (stream val : Nat) (s : State) : Out :=
  need (decide (stream < 64) && !bit val 0) (s.bar (0x80100 + 8 * stream) (·.strmCfg stream val))

end Sys2Proof.Machine
end

