-- ==== Sys2Proof/Machine/Event.lean ====
section
/-! DEFINITION. Machine/Event.lean: the event path: the region map, routing, cluster engines, rate monitors and gap records
(R146 to R165, R172 to R178). -/

namespace Sys2Proof.Machine

/-! ## The region map (R147, R150 to R152) -/

/-- The reset value of an entry: the block is masked. -/
def rmapReset : Nat := 0x4000

def rmapAt (m : NMap Nat) (b : Nat) : Nat := m.get rmapReset b

/-- The fields of an entry (R150). -/
def rStream (e : Nat) : Nat := bits e 0 6
def rAlt (e : Nat) : Nat := bits e 6 6
def rMode (e : Nat) : Nat := bits e 12 2
def rMask (e : Nat) : Bool := bit e 14
def rRule (e : Nat) : Nat := bits e 15 3
def rGroup (e : Nat) : Nat := bits e 18 8
def rRing (e : Nat) : Bool := bit e 26

/-- The table in force for an epoch: the active one from its commit on, before it the one still held (R151). -/
def State.rmap (s : State) (epoch : Nat) : NMap Nat :=
  if s.flag Reg.EVT_RMAP_STATUS_BUSY && decide (epoch < s.evt.since) then s.evt.old else s.evt.act

/-- Block of a module pixel (R147). -/
def blockOf (r c : Nat) : Nat := r / 4 * 256 + c / 4

/-- Module row and column of a tile-local pixel (R10). -/
def moduleRow (t row : Nat) : Nat := t / 2 * 512 + row
def moduleCol (t col : Nat) : Nat := t % 2 * 512 + col

/-- An entry takes a value, or the write is refused for MODE 0b11 (R151, R152). -/
def State.rmapPut (s : State) (i v : Nat) : State :=
  let v := v % 2 ^ 27
  if rMode v = 3 then (s.put Reg.EVT_INT_RMAP_ERR 1).put Reg.EVT_RMAP_ERRIDX_INDEX i
  else
    let s := { s with evt := { s.evt with shd := s.evt.shd.set rmapReset i v } }
    if s.flag Reg.EVT_CTRL_EN then s else { s with evt := { s.evt with act := s.evt.act.set rmapReset i v } }

/-- A write to entry `i`: its low half (`part` 0), its high half (1) or both at once (2) (R151). -/
def State.rmapWrite (s : State) (i part v : Nat) : State :=
  match part with
  | 0 => { s with evt := { s.evt with half := some (i, v % 2 ^ 32) } }
  | 1 =>
    let h := s.evt.half
    let s := { s with evt := { s.evt with half := none } }
    match h with
    | some (j, l) => if j = i then s.rmapPut i l else s
    | none => s
  | _ => { s with evt := { s.evt with half := none } }.rmapPut i v

/-- A BAR0 write to the region map (R151). -/
def execRmapEntryWrite (entry part val : Nat) (s : State) : Out :=
  need (decide (entry < 65536) && decide (part < 3)) (s.bar (0x100000 + 8 * entry + 4 * (part % 2)) (·.rmapWrite entry part val))

/-- A write of EVT_RMAP_CTRL with COMMIT = 1 (R151). -/
def execRmapCommit (val : Nat) (s : State) : Out :=
  need (bit val 0) <| s.bar 0x80010 fun s =>
    let s := s.put Reg.EVT_RMAP_CTRL_READ_ACTIVE (bits val 1 1)
    if s.flag Reg.EVT_RMAP_STATUS_PENDING || s.flag Reg.EVT_RMAP_STATUS_BUSY then s.put Reg.EVT_INT_REFUSED 1
    else s.put Reg.EVT_RMAP_STATUS_PENDING 1

/-- At an epoch boundary the table kept for earlier epochs is dropped, and a pending commit takes effect; the answer says whether
one did (R151). -/
def State.rmapEpoch (s : State) (epoch : Nat) : State × Bool :=
  let s := { s.put Reg.EVT_RMAP_STATUS_BUSY 0 with evt := { s.evt with old := [] } }
  if s.flag Reg.EVT_RMAP_STATUS_PENDING then
    let s := { s with evt := { s.evt with old := s.evt.act, act := s.evt.shd, since := epoch } }
    let s := (s.put Reg.EVT_RMAP_STATUS_PENDING 0).put Reg.EVT_RMAP_STATUS_BUSY 1
    ((s.put Reg.EVT_RMAP_STATUS_GEN (s.get Reg.EVT_RMAP_STATUS_GEN + 1)).put Reg.EVT_INT_RMAP_COMMITTED 1, true)
  else (s, false)

/-! ## Streams the map names (R148, R149, R199, R232) -/

/-- A template that is armed owns its stream (R199). -/
def State.owned (s : State) (n : Nat) : Bool :=
  (List.range 16).any fun k => s.get Reg.TRG_TMPL_STATUS_STATE 0 k == 1 && s.tmplStream k == n

/-- The live frame stream while frames run (R232). -/
def State.frameStream (s : State) (n : Nat) : Bool := s.flag Reg.TIL_FRM_RUN_RUN && s.get Reg.TIL_FRM_CFG_STREAM == n

/-- An item the region map routes to a stream: it clashes with a template's or the frame stream (R199, R232), or it goes there. -/
def State.mapTo (s : State) (n ty : Nat) (i : SItem) : State :=
  if s.owned n || s.frameStream n then (s.gcount Reg.TRG_CLASH_COUNT).put Reg.TRG_INT_CLASH 1 else s.toStream n ty i

/-- The stream's packer takes an item now (R102, R431). -/
def State.takes (s : State) (n : Nat) : Bool :=
  !s.flag Reg.EVT_STRM_CFGn_EN n || s.owned n || s.frameStream n || !(s.lossless n && (s.strm n).wait != [])

/-- Distinct streams named by unmasked entries, and whether an entry has RING = 1 (R148). -/
def namedBy (l : List Nat) : List Nat × Bool :=
  (((l.filter fun e => !rMask e).flatMap fun e => if rMode e = 2 then [rStream e, rAlt e] else [rStream e]).dedup, l.any rRing)

/-- One gap to every stream the entries name, and to the ring; a gap without a stream is counted (R148, R149). -/
def State.gapTo (s : State) (port : Nat) (entries : List Nat) (items : List SItem) : State :=
  let (ns, ring) := namedBy entries
  let s := if ns = [] then s.ecount Reg.EVT_GAP_MASKED_COUNT
    else s.each ns fun s n => s.each items fun s i => s.mapTo n 4 i
  s.cond (ring && bit port 1) fun s => s.each items fun s i => s.ringTake 4 i

/-- The block lies in a tile, or in one sconce column of it. -/
def inScope (t : Nat) (col : Option Nat) (b : Nat) : Bool :=
  let r := b / 256
  let c := b % 256
  decide (r / 128 = t / 2) && decide (c / 128 = t % 2) && (match col with
    | none => true
    | some k => decide (c % 128 / 2 = k))

/-- A transport gap of a tile, or of one of its columns, from `start` to `stop`, with the words lost in it (R148, R172 to R174); a frame-mode tile's goes to the
live frame stream, or to the open burst context, after the descriptor that begins it (R214). -/
def State.transportGap (s : State) (t : Nat) (col : Option Nat) (kind : Nat) (start stop : Int) (cont : Bool) (lost : Nat := 0) :
    State :=
  let items := gapItems start stop kind (if col.isSome then 1 else 2) cont (min 255 lost) (t * 2 ^ 14 + col.getD 0)
  if s.flag Reg.TIL_FRM_CTRL_MODE t then
    let b := s.frm.burst
    match b.ctx, b.tmpl with
    | some _, some k =>
      if b.begun then s.each items fun s i => s.pack (s.tmplStream k) 4 i true
      else { s with frm := { s.frm with burst := { b with gaps := b.gaps ++ items } } }
    | _, _ => s.each items fun s i => s.toStream (s.get Reg.TIL_FRM_CFG_STREAM) 4 i
  else
    let m := s.rmap (epochOf start.toNat)
    s.gapTo (s.topo.port.getD t 0) ((m.filter fun e => inScope t col e.1).map (·.2)) items

/-- A transport gap opens: it starts 2^21 ref before now (R101, R110). -/
def State.openGap (s : State) (t : Nat) (col : Option Nat) (kind since : Nat) : State :=
  { s with evt := { s.evt with gaps := s.evt.gaps ++ [{ tile := t, col := col, kind := kind, start := since - 2 ^ 21 }] } }

/-- The bundle gap of a tile ends now (R101, R174). -/
def State.closeGap (s : State) (t kind : Nat) : State :=
  match s.evt.gaps.find? fun g => g.tile == t && g.kind == kind with
  | none => s
  | some g =>
    let s := { s with evt := { s.evt with gaps := s.evt.gaps.filter fun x => !(x.tile == t && x.kind == kind) } }
    s.transportGap t g.col kind g.start s.dtRef false g.lost

/-- At an epoch boundary every open gap is reported up to it, and goes on from there (R174). -/
def State.gapsEpoch (s : State) : State :=
  let l := s.evt.gaps
  let s := s.each l fun s g => s.transportGap g.tile g.col g.kind g.start s.dtRef true
  { s with evt := { s.evt with gaps := l.map fun (g : OpenGap) => { g with start := s.dtRef } } }

/-! ## Hits (R60, R146) -/

/-- A word's epoch, from its parity and the epoch now (R146). -/
def resolveEpoch (now par : Nat) : Nat := if par = now % 2 then now else now - 1

/-- A hit word in the event path. -/
def State.eHit (s : State) (w : Nat) : EHit :=
  let e := resolveEpoch (epochOf s.dtRef) (bits w 3 1)
  { word := w, epoch := e, t := (e * 2 ^ 21 + bits w 23 21) * 512 + bits w 14 9
    row := moduleRow (bits w 62 2) (bits w 53 9), col := moduleCol (bits w 62 2) (bits w 44 9) }

def EHit.ref (h : EHit) : Nat := h.t / 512
def EHit.tot (h : EHit) : Nat := bits h.word 4 10
def EHit.item (h : EHit) (poison : Bool) : SItem := { words := [(h.word, poison)], epoch := some h.epoch, lo := h.ref, hi := h.ref }

/-- The order of full time, then row, then column (R155). -/
def EHit.le (a b : EHit) : Bool :=
  decide (a.t < b.t) || (a.t == b.t && (decide (a.row < b.row) || (a.row == b.row && decide (a.col ≤ b.col))))

/-! ## Cluster engines (R153 to R164) -/

def State.engine (s : State) (e : Nat) : Engine := s.evt.eng.getD e {}

def State.setEngine (s : State) (e : Nat) (x : Engine) : State :=
  let s := { s with evt := { s.evt with eng := s.evt.eng.set e x } }
  let s := s.put Reg.CLU_OCC_OPEN x.opn.length 0 e
  s.put Reg.CLU_OCC_PEAK (max x.opn.length (s.get Reg.CLU_OCC_PEAK 0 e)) 0 e

def State.ccount (s : State) (f : Fld) (e : Nat) : State := s.bump f Reg.CLU_INT_CNT_SAT 0 e

/-- First row, end row, first column, end column of a territory (R153, R181). -/
def State.territory (s : State) (e : Nat) : Nat × Nat × Nat × Nat :=
  let r := s.get Reg.CLU_GEOM_ROW0 e * 32
  let c := s.get Reg.CLU_GEOM_COL0 e * 32
  (r, r + s.get Reg.CLU_GEOM_NROW e * 32, c, c + s.get Reg.CLU_GEOM_NCOL e * 32)

/-- The visible region: the territory widened by the margin and clipped to the module. -/
def State.visible (s : State) (e : Nat) : Nat × Nat × Nat × Nat :=
  let (a, b, c, d) := s.territory e
  let m := s.get Reg.CLU_GEOM_MARGIN e
  (a - m, min 1024 (b + m), c - m, min 1024 (d + m))

def inRect (r : Nat × Nat × Nat × Nat) (row col : Nat) : Bool :=
  decide (r.1 ≤ row) && decide (row < r.2.1) && decide (r.2.2.1 ≤ col) && decide (col < r.2.2.2)

/-- The engines that see a pixel. -/
def State.enginesOf (s : State) (row col : Nat) : List Nat := (List.range 8).filter fun e => inRect (s.visible e) row col

/-- A rule set's values (R181). -/
def State.ruleVals (s : State) (r : Nat) : Rule :=
  { win := s.get Reg.CLU_RULE_WIN r, adj := s.get Reg.CLU_RULE_ADJ r, weight := s.flag Reg.CLU_RULE_WEIGHT r
    single := s.flag Reg.CLU_RULE_SINGLE r, hold := s.get Reg.CLU_RULE_HOLD r }

/-- The adjacency of a rule (R156). -/
def adjacent (adj : Nat) (a b : EHit) : Bool :=
  let dr := max a.row b.row - min a.row b.row
  let dc := max a.col b.col - min a.col b.col
  match adj with
  | 0 => decide (dr + dc ≤ 1)
  | 2 => decide (max dr dc ≤ 2)
  | _ => decide (max dr dc ≤ 1)

def Cluster.seed (c : Cluster) : EHit := c.hits.headD { word := 0, epoch := 0, t := 0, row := 0, col := 0 }

/-- The edge at which a cluster closes (R157). -/
def Cluster.closeAt (c : Cluster) : Nat := c.seed.ref + c.vals.hold + ceilDiv c.vals.win 4 + 1

/-- The centroid in 1/16 pixel, halves upward (R159). -/
def centroid (l : List (Nat × Nat)) : Nat :=
  let d := l.foldl (fun n x => n + x.1) 0
  let n := l.foldl (fun n x => n + x.1 * (16 * x.2 + 8)) 0
  (2 * n + d) / (2 * max 1 d)

/-- The bitmap of the members around the seed, or the size of their box (R159). -/
def clusterShape (c : Cluster) (ext : Bool) : Nat :=
  let s := c.seed
  if ext then
    let mn (f : EHit → Nat) := c.hits.foldl (fun m h => min m (f h)) (f s)
    let mx (f : EHit → Nat) := c.hits.foldl (fun m h => max m (f h)) (f s)
    min 15 (mx (·.row) - mn (·.row)) * 16 + min 15 (mx (·.col) - mn (·.col))
  else
    [(0, 0), (0, 1), (0, 2), (1, 0), (1, 2), (2, 0), (2, 1), (2, 2)].zipIdx.foldl (fun v x =>
      if c.hits.any fun h => h.row + 1 == s.row + x.1.1 && h.col + 1 == s.col + x.1.2 then v + 2 ^ x.2 else v) 0

/-- SEAM: a member lies within reach of an edge of the visible region that is not a module edge (R157). -/
def seamOf (v : Nat × Nat × Nat × Nat) (c : Cluster) : Bool :=
  let p := if c.vals.adj = 2 then 2 else 1
  c.hits.any fun h =>
    (decide (0 < v.1) && decide (h.row < v.1 + p)) || (decide (v.2.1 < 1024) && decide (v.2.1 ≤ h.row + p)) ||
    (decide (0 < v.2.2.1) && decide (h.col < v.2.2.1 + p)) || (decide (v.2.2.2 < 1024) && decide (v.2.2.2 ≤ h.col + p))

/-- The record of a cluster (R158). -/
def clusterRecord (c : Cluster) (seam split : Bool) : Nat :=
  let s := c.seed
  let sum := c.hits.foldl (fun n h => n + h.tot) 0
  let flat := c.vals.weight || sum == 0
  let w (h : EHit) := if flat then 1 else h.tot
  let ext := c.hits.any fun h => !adjacent 1 s h
  centroid (c.hits.map fun h => (w h, h.row)) * 2 ^ 82 + centroid (c.hits.map fun h => (w h, h.col)) * 2 ^ 68 +
  bits s.word 23 21 * 2 ^ 47 + bits s.word 14 9 * 2 ^ 38 + bits s.word 3 1 * 2 ^ 37 + sum % 65536 * 2 ^ 21 +
  (c.hits.length - 1) * 2 ^ 15 + clusterShape c ext * 2 ^ 7 + boolNat ext * 2 ^ 6 + boolNat seam * 2 ^ 5 +
  boolNat split * 2 ^ 4 + boolNat c.late * 2 ^ 3 + boolNat (c.hits.any fun h => bit h.word 1) * 2 ^ 2 +
  boolNat (c.hits.any fun h => bit h.word 2) * 2 + boolNat (c.hits.any fun h => bit h.word 0)

/-- A closed cluster's record goes out of an engine that runs (R163) when its seed lies in the engine's territory (R157), as a plain hit for
a lone member under SINGLE (R160); `err` is 1 for a record recomputed after an error, 2 for one that failed again and is poisoned (R161).
A lone member whose record fails again goes out as the poisoned record (DESIGN CHOICE, log entry 174). -/
def State.emitCluster (s : State) (e : Nat) (c : Cluster) (split : Bool) (err : Nat) : State :=
  if !bit (s.get Reg.CLU_CTRL_EN) e || !inRect (s.territory e) c.seed.row c.seed.col then s
  else
    let s := s.cond (decide (0 < err)) fun s => (s.ccount Reg.CLU_RECOMP_COUNT e).put Reg.CLU_INT_RECOMP 1
    let s := s.cond (err == 2) fun s => (s.ccount Reg.CLU_POISON_COUNT e).put Reg.CLU_INT_POISON 1
    if c.hits.length = 1 ∧ c.vals.single = true ∧ err < 2 then s.mapTo c.stream 1 (c.seed.item false)
    else
      let seam := seamOf (s.visible e) c
      let r := clusterRecord c seam split
      let s := s.ccount Reg.CLU_RECORDS_COUNT e
      let s := s.cond c.late fun s => (s.ccount Reg.CLU_LATE_COUNT e).put Reg.CLU_INT_LATE 1
      let s := (s.cond split (·.ccount Reg.CLU_SPLIT_COUNT e)).cond seam (·.ccount Reg.CLU_SEAM_COUNT e)
      s.mapTo c.stream 2 { words := [(r / 2 ^ 32, err == 2), (r % 2 ^ 32, err == 2)], epoch := some c.seed.epoch
                           lo := c.seed.ref, hi := c.seed.ref }

/-- The open clusters a released hit is a candidate for (R156). -/
def Engine.candidates (x : Engine) (r : RHit) : List Cluster :=
  x.opn.filter fun c => c.rule == r.rule && (c.hits.any fun m => adjacent c.vals.adj m r.hit) &&
    decide (r.hit.t ≤ c.seed.t + c.vals.win * 128)

/-- The engine's stores have a place for a released hit (R162). -/
def Engine.places (x : Engine) (r : RHit) : Bool :=
  decide (x.members < 65536) && (decide (x.opn.length < 4096) || x.candidates r != [])

/-- A released hit is placed: it seeds a cluster, merges every candidate, or joins or splits the earliest when the merge would pass
64 hits (R156); `err` says what becomes of the record of one that it splits, as in `emitCluster`. -/
def State.releaseHit (s : State) (e : Nat) (r : RHit) (err : Nat) : State :=
  let x := s.engine e
  let h := r.hit
  let cand := x.candidates r
  let fresh : Cluster := { hits := [h], rule := r.rule, vals := s.ruleVals r.rule, stream := r.stream, late := r.late }
  let first := cand.foldl (fun b c => match b with
    | none => some c
    | some d => if EHit.le d.seed c.seed then some d else some c) (none : Option Cluster)
  match first with
  | none => s.setEngine e { x with opn := x.opn ++ [fresh] }
  | some f =>
    let join (l : List EHit) : List EHit := (l ++ [h]).mergeSort EHit.le
    let all := cand.flatMap (·.hits)
    if all.length + 1 ≤ 64 then
      let c := { f with hits := join all, late := r.late || cand.any (·.late) }
      s.setEngine e { x with opn := (x.opn.filter fun y => !cand.contains y) ++ [c] }
    else if f.hits.length + 1 ≤ 64 then
      s.setEngine e { x with opn := (x.opn.filter fun y => y != f) ++ [{ f with hits := join f.hits, late := f.late || r.late }] }
    else (s.setEngine e { x with opn := (x.opn.filter fun y => y != f) ++ [fresh] }).emitCluster e f true err

/-- A hit enters an engine's reorder buffer, or is released at once when its release edge has passed (R155); `err` as in `releaseHit`. -/
def State.clusterHit (s : State) (e : Nat) (h : EHit) (rule stream err : Nat) : State :=
  let s := s.ccount Reg.CLU_HITS_COUNT e
  let due := h.ref + s.get Reg.CLU_RULE_HOLD rule + 1
  let r : RHit := { hit := h, rule := rule, stream := stream, due := due, late := decide (due < s.dtRef) }
  if r.late then s.releaseHit e r err
  else
    let x := s.engine e
    s.setEngine e { x with buf := x.buf ++ [r] }

/-- A hit whose release edge has come is placed, or stays in the buffer while the stores have no place for it or a hit before it stays
(R155, R162; DESIGN CHOICE, log entry 175). -/
def State.releaseDue (s : State) (e : Nat) (r : RHit) (err : Nat) : State :=
  let x := s.engine e
  if x.places r && x.buf.all fun y => decide (s.dtRef < y.due) then s.releaseHit e r err
  else s.setEngine e { x with buf := x.buf ++ [r] }

/-- The reorder buffer releases the hits due at its next release edge, in order (R155); `errs` has, hit by hit, what becomes of the record of a
cluster it splits (R161). -/
def execClusterRelease (engine : Nat) (errs : List Nat) (s : State) : Out :=
  need (decide (engine < 8)) <|
    match (s.engine engine).buf with
    | [] => s
    | r :: l =>
      let s := s.advanceTo (l.foldl (fun m x => min m x.due) r.due)
      let x := s.engine engine
      let out := (x.buf.filter fun y => decide (y.due ≤ s.dtRef)).mergeSort fun a b => EHit.le a.hit b.hit
      (s.setEngine engine { x with buf := x.buf.filter fun y => decide (s.dtRef < y.due) }).each out.zipIdx fun s e =>
        s.releaseDue engine e.1 (errs.getD e.2 0)

/-- The clusters due at the engine's next close edge close (R157); `errs` has, cluster by cluster in the order of their seeding, what becomes of
the record, as in `emitCluster`. -/
def execClusterClose (engine : Nat) (errs : List Nat) (s : State) : Out :=
  need (decide (engine < 8)) <|
    match (s.engine engine).opn with
    | [] => s
    | c :: l =>
      let s := s.advanceTo (l.foldl (fun m x => min m x.closeAt) c.closeAt)
      let x := s.engine engine
      let out := x.opn.filter fun y => decide (y.closeAt ≤ s.dtRef)
      (s.setEngine engine { x with opn := x.opn.filter fun y => decide (s.dtRef < y.closeAt) }).each out.zipIdx fun s e =>
        s.emitCluster engine e.1 false (errs.getD e.2 0)

/-! ## Routing (R148) -/

/-- The map entry of a hit. -/
def State.hitEntry (s : State) (h : EHit) : Nat := rmapAt (s.rmap h.epoch) (blockOf h.row h.col)

/-- The gap a loss word stands for, and the entries of its sconce's blocks (R147, R148, R173). -/
def State.lossGap (s : State) (w : Nat) : List Nat × SItem :=
  let e := resolveEpoch (epochOf s.dtRef) (bits w 3 1)
  let start := e * 2 ^ 21 + bits w 23 21
  let t := bits w 62 2
  let row := bits w 53 9
  let col := bits w 44 9
  let b := blockOf (moduleRow t row) (moduleCol t col)
  let m := s.rmap (epochOf start)
  let len := max 1 (bits w 11 8 * 2 ^ bits w 19 4)
  ([b, b + 1, b + 256, b + 257].map (rmapAt m),
   { words := [(start, false), (gapWord len (bits w 0 3) 0 false (bits w 4 7) (t * 2 ^ 14 + row / 8 * 64 + col / 8), false)]
     lo := start, hi := start + len - 1 })

/-- Every destination of a word accepts it now (R102). -/
def State.accepts (s : State) (tile : Nat) (w : TWord) : Bool :=
  let port := s.topo.port.getD tile 0
  if !bit port 0 then true
  else if !s.flag Reg.EVT_CTRL_EN then false
  else if w.loss then
    let (l, i) := s.lossGap w.data
    let (ns, ring) := namedBy l
    ns.all s.takes && !(ring && bit port 1 && s.ringHolds i)
  else
    let h := s.eHit w.data
    let e := s.hitEntry h
    let ringOk := !(rRing e && bit port 1 && s.ringHolds (h.item w.poison))
    if w.poison then s.takes (s.get Reg.EVT_CTRL_POISON_STREAM) && ringOk
    else if rMask e then ringOk
    else if rMode e = 0 then s.takes (rStream e) && ringOk
    else
      let es := s.enginesOf h.row h.col
      let off := es.filter fun k => !bit (s.get Reg.CLU_CTRL_EN) k
      let on := es.filter fun k => bit (s.get Reg.CLU_CTRL_EN) k
      ringOk && on.all (fun k => !(s.engine k).full) && (off == [] || s.takes (rStream e)) &&
      (rMode e != 2 || s.takes (rAlt e))

/-- A cluster engine that would take the word is full (R162). -/
def State.engineFull (s : State) (tile : Nat) (w : TWord) : Bool :=
  let h := s.eHit w.data
  let e := s.hitEntry h
  bit (s.topo.port.getD tile 0) 0 && !w.loss && !w.poison && !rMask e && rMode e != 0 &&
  (s.enginesOf h.row h.col).any fun k => bit (s.get Reg.CLU_CTRL_EN) k && (s.engine k).full

/-- A word that enters the crossbar goes to its destinations (R148, R163, R177, R239); `errs` as in `releaseHit`, engine by engine. -/
def State.route (s : State) (tile : Nat) (w : TWord) (errs : List Nat) : State :=
  let port := s.topo.port.getD tile 0
  let s := s.cond (bit port 2) fun s => { s with evt := { s.evt with tap := s.evt.tap.set tile true } }
  if !bit port 0 then s
  else if w.loss then
    let (l, i) := s.lossGap w.data
    s.gapTo port l [i]
  else
    let h := s.eHit w.data
    let e := s.hitEntry h
    let s := s.cond (rRing e && bit port 1) (·.ringTake 1 (h.item w.poison))
    if w.poison then
      ((s.ecount Reg.EVT_POISON_COUNT).put Reg.EVT_INT_POISON 1).mapTo (s.get Reg.EVT_CTRL_POISON_STREAM) 1 (h.item true)
    else
      let g := rGroup e
      let s := s.cond (s.flag Reg.EVT_RATE_CFG_EN 0 g) fun s =>
        { s with evt := { s.evt with rate := s.evt.rate.modify 0 g (· + 1) } }
      if rMask e then s.ecount Reg.EVT_MASKED_COUNT
      else if rMode e = 0 then s.mapTo (rStream e) 1 (h.item false)
      else
        let es := s.enginesOf h.row h.col
        let off := es.filter fun k => !bit (s.get Reg.CLU_CTRL_EN) k
        let s := s.each off fun s k => s.ccount Reg.CLU_BYPASS_COUNT k
        let s := s.cond (off != []) (·.mapTo (rStream e) 1 (h.item false))
        let s := s.each (es.filter fun k => bit (s.get Reg.CLU_CTRL_EN) k) fun s k => s.clusterHit k h (rRule e) (rStream e) (errs.getD k 0)
        s.cond (rMode e == 2) (·.mapTo (rAlt e) 1 (h.item false))

/-- A word goes to a cluster engine (R154: whose parity check it must pass). -/
def State.clustered (s : State) (tile : Nat) (w : TWord) : Bool :=
  let h := s.eHit w.data
  let e := s.hitEntry h
  bit (s.topo.port.getD tile 0) 0 && s.flag Reg.EVT_CTRL_EN && !w.loss && !w.poison && !rMask e && rMode e != 0 &&
  (s.enginesOf h.row h.col).any fun k => bit (s.get Reg.CLU_CTRL_EN) k

/-! ## Rate monitors (R177) -/

def rateFields : List Fld :=
  [Reg.EVT_RATE_CFG_WLOG, Reg.EVT_RATE_CFG_EN, Reg.EVT_RATE_CFG_STATUS_EN, Reg.EVT_RATE_CFG_STREAM, Reg.EVT_RATE_HI_HI,
   Reg.EVT_RATE_LO_LO]

/-- The end of a group's window under way (R177). -/
def State.rateDue (s : State) (g : Nat) : Nat :=
  let w := 2 ^ max 8 (min 24 (s.get Reg.EVT_RATE_CFG_WLOG 0 g))
  (max (s.evt.rateAt.get 0 g) (s.dtRef - 1) / w + 1) * w

/-- A window of a group ends: LAST takes its count and HIGH may change, with its flag, status word and primitive event; staged
fields commit (R176, R177, R179). -/
def State.rateEnd (s : State) (g : Nat) : State :=
  let s := s.advanceTo (s.rateDue g)
  let n := s.evt.rate.get 0 g
  let on := s.flag Reg.EVT_RATE_CFG_EN 0 g
  let s := { s with evt := { s.evt with rate := s.evt.rate.set 0 g 0, rateAt := s.evt.rateAt.set 0 g s.dtRef } }
  let s := if on then
      let s := s.put Reg.EVT_RATE_LAST_COUNT (min n (2 ^ 32 - 1)) 0 g
      let hi := s.get Reg.EVT_RATE_HI_HI 0 g
      let lo : Int := if hi ≤ s.get Reg.EVT_RATE_LO_LO 0 g then (hi : Int) - 1 else s.get Reg.EVT_RATE_LO_LO 0 g
      let high := s.flag Reg.EVT_RATE_STATE_HIGH 0 g
      let rises := !high && decide (hi ≤ n)
      let falls := high && decide ((n : Int) ≤ lo)
      if rises || falls then
        let s := s.putB Reg.EVT_RATE_STATE_HIGH rises 0 g
        let s := s.put Reg.EVT_RATE_FLAG_FLAG (Nat.lor (s.get Reg.EVT_RATE_FLAG_FLAG (g / 32)) (2 ^ (g % 32))) (g / 32)
        let s := s.put Reg.EVT_INT_RATE 1
        let st := 2 ^ 56 + g * 2 ^ 48 + boolNat rises * 2 ^ 47 + s.dtRef % 2 ^ 21 * 2 ^ 26 + epochOf s.dtRef % 2 * 2 ^ 25 +
          min n (2 ^ 25 - 1)
        let s := s.cond (s.flag Reg.EVT_RATE_CFG_STATUS_EN 0 g) (·.toStream (s.get Reg.EVT_RATE_CFG_STREAM 0 g) 5
          { words := [(st, false)] })
        s.cond rises (·.prim (40 + g) { t := s.dtRef * binsPerRef })
      else s
    else s
  s.each rateFields fun s f => s.commit f 0 g

def execRateWindowEnd (group : Nat) (s : State) : Out := need (decide (group < 256)) (s.rateEnd group)

/-! ## Control (R168, R178, R181) -/

/-- A write of EVT_CTRL: POISON_STREAM is judged by the state before it; EN rising restarts the enabled streams, EN falling closes
every open packet (R6, R168, R178). -/
def State.evtCtrl (s : State) (v : Nat) : State :=
  let en := s.flag Reg.EVT_CTRL_EN
  let s := s.writeLocked Reg.EVT_CTRL_POISON_STREAM en (bits v 8 6) Reg.EVT_INT_REFUSED
  let s := s.put Reg.EVT_CTRL_EN (bits v 0 1)
  if bit v 0 && !en then s.each (List.range 64) fun s n => s.cond (s.flag Reg.EVT_STRM_CFGn_EN n) (·.startStream n)
  else if !bit v 0 && en then s.each (List.range 64) fun s n => s.closePkt n
  else s

/-- A write of EVT_CTRL with EN = 1 (R168). -/
def execEvtEnable (val : Nat) (s : State) : Out := need (bit val 0) (s.bar 0x80000 (·.evtCtrl val))

/-- A write of EVT_CTRL with EN = 0 (R178). -/
def execEvtDisable (val : Nat) (s : State) : Out := need (!bit val 0) (s.bar 0x80000 (·.evtCtrl val))

def execEvtCntClr (s : State) : Out :=
  .next <| s.bar 0x80034 fun s => s.clearFields ([Reg.EVT_MASKED_COUNT, Reg.EVT_GAP_MASKED_COUNT, Reg.EVT_UNROUTED_COUNT,
    Reg.EVT_STALE_COUNT, Reg.EVT_POISON_COUNT].map (·.id))

def execCluCntClr (s : State) : Out :=
  .next <| s.bar 0x810B8 fun s => s.clearFields ([Reg.CLU_HITS_COUNT, Reg.CLU_RECORDS_COUNT, Reg.CLU_LATE_COUNT,
    Reg.CLU_SPLIT_COUNT, Reg.CLU_SEAM_COUNT, Reg.CLU_RECOMP_COUNT, Reg.CLU_POISON_COUNT, Reg.CLU_FULL_COUNT,
    Reg.CLU_BYPASS_COUNT, Reg.CLU_OCC_PEAK].map (·.id))

end Sys2Proof.Machine
end

