-- ==== Sys2Proof/Machine/Sconce.lean ====
section
/-! DEFINITION. Machine/Sconce.lean: pixels, the configuration stream, the arbiter, flames, hit words, loss words and the
calibration rota (chapter 2). -/

namespace Sys2Proof.Machine

/-! ## Places -/

/-- Key of a tile-local pixel. -/
def pixKey (t row col : Nat) : Nat := t * 262144 + row * 512 + col

/-- Row and column of pixel `p` of a sconce (R81). -/
def scRow (c p : Nat) : Nat := c / 64 * 8 + p / 8
def scCol (c p : Nat) : Nat := c % 64 * 8 + p % 8

/-- Key of pixel `p` of sconce `c` of tile `t`. -/
def scPix (t c p : Nat) : Nat := pixKey t (scRow c p) (scCol c p)

/-- The sconce of a tile-local pixel (R81). -/
def sconceOf (row col : Nat) : Nat := row / 8 * 64 + col / 8

def State.pixel (s : State) (k : Nat) : Pix := s.til.pix.get {} k
def State.setPixel (s : State) (k : Nat) (p : Pix) : State := { s with til := { s.til with pix := s.til.pix.set {} k p } }
def State.sconce (s : State) (t c : Nat) : Sconce := s.til.sc.get {} (t * 4096 + c)
def State.setSconce (s : State) (t c : Nat) (x : Sconce) : State :=
  { s with til := { s.til with sc := s.til.sc.set {} (t * 4096 + c) x } }

def Sconce.flame (x : Sconce) (i : Nat) : Flame := x.fl.getD i {}
def Sconce.setFlame (x : Sconce) (i : Nat) (f : Flame) : Sconce := { x with fl := x.fl.set i f }
def Sconce.lossReg (x : Sconce) (k : Nat) : LossReg := x.loss.getD (k - 1) {}
def Sconce.setLoss (x : Sconce) (k : Nat) (r : LossReg) : Sconce := { x with loss := x.loss.set (k - 1) r }

/-- A command on sconce `c` of tile `t`. -/
def onSconce (t c : Nat) (s : State) : Out := need (decide (t < 4) && decide (c < 4096)) s

/-- Bitwise majority of three copies (R46). -/
def vote : List Nat → Nat
  | [a, b, c] => Nat.lor (Nat.lor (Nat.land a b) (Nat.land a c)) (Nat.land b c)
  | _ => 0

/-- The pixel's active word as its circuits read it. -/
def Pix.word (p : Pix) : Nat := vote p.act

/-! ## Failure events and faults of a tile (R82) -/

/-- An event enters TIL_FAIL_FIFO, or is lost behind 16 others; an empty position and a sconce without a working flame are fault 0x11 (R74,
R82, R499). -/
def State.failEvent (s : State) (t c flame ev : Nat) : State :=
  let x := s.tile t
  let s := if x.fails.length < 16 then s.setTile t { x with fails := x.fails ++ [(c, flame, ev)] }
    else s.setTile t { x with ovf := true }
  s.cond (decide (2 ≤ ev)) (·.fault 0x11 t)

/-- A tile counter (R82). -/
def State.tcount (s : State) (f : Fld) (t : Nat) (n : Nat := 1) : State := s.bump f Reg.TIL_INT_CNT_SAT t 0 n t

/-- A sconce column is out of service (R110). -/
def State.colOff (s : State) (t col : Nat) : Bool :=
  if col < 32 then bit (s.get Reg.TIL_COL_OFF0_OFF t) col else bit (s.get Reg.TIL_COL_OFF1_OFF t) (col - 32)

/-! ## Loss words (R65 to R68) -/

/-- The largest length a loss word encodes (R66). -/
def lossMax : Nat := 255 * 2 ^ 15

/-- The length code of R66. -/
def lossLen (n : Nat) : Nat :=
  match (List.range 16).find? fun e => decide (ceilDiv n (2 ^ e) ≤ 255) with
  | some e => e * 256 + ceilDiv n (2 ^ e)
  | none => 15 * 256 + 255

/-- The length a code stands for (R65). -/
def lossSpan (code : Nat) : Nat := code % 256 * 2 ^ (code / 256)

/-- The loss word of sconce `c` (R65). -/
def lossWord (t c start len count kind : Nat) : Nat :=
  (t * 2 ^ 18 + scRow c 0 * 2 ^ 9 + scCol c 0) * 2 ^ 44 + start % 2 ^ 21 * 2 ^ 23 + lossLen len * 2 ^ 11 +
  min 127 count * 2 ^ 4 + epochOf start % 2 * 2 ^ 3 + kind

/-- `n` losses that span the reference periods `a` to `b` enter the accumulating register, which stops at the largest code with LOSSSAT and
an event (R68). -/
def State.accumulate (s : State) (t c k a b n : Nat) : State :=
  let x := s.sconce t c
  let r := x.lossReg k
  let (f, l, m) := r.acc.getD (a, b, 0)
  if r.acc.isSome && decide (lossMax ≤ l + 1 - f) then s
  else
    let f' := min f a
    let l' := max l b
    if lossMax ≤ l' + 1 - f' then
      ((s.setSconce t c (x.setLoss k { r with acc := some (f', f' + lossMax - 1, m + n) })).put Reg.TIL_INT_LOSSSAT 1 t).failEvent
        t c 0 0
    else s.setSconce t c (x.setLoss k { r with acc := some (f', l', m + n) })

/-- `n` losses that span the reference periods `a` to `b`: into the open episode, or, while the output register waits, into the
accumulating register (R67, R68). A sconce without a working flame always has its episode (R67). -/
def State.lossAt (s : State) (t c k a b n : Nat) (pix : List Nat := []) : State :=
  let x := s.sconce t c
  let r := x.lossReg k
  if r.out.isNone || k == 3 then
    let (f, m) := r.open_.getD (a, 0)
    s.setSconce t c (x.setLoss k { r with open_ := some (f, m + n), pix := r.pix ++ pix.filter fun p => !r.pix.contains p })
  else s.accumulate t c k a b n

/-- One edge lost now. -/
def State.lossNow (s : State) (t c k : Nat) (pix : List Nat := []) : State := s.lossAt t c k s.dtRef s.dtRef 1 pix

/-- The open episode closes at edge `e`: it freezes into the empty output register, or joins the accumulating register (R67, R68). -/
def State.closeEpisode (s : State) (t c k e : Nat) : State :=
  let x := s.sconce t c
  let r := x.lossReg k
  match r.open_ with
  | none => s
  | some (f, n) =>
    if r.out.isNone then s.setSconce t c (x.setLoss k { r with open_ := none, pix := [], out := some (f, max 1 (e - f), n) })
    else (s.setSconce t c (x.setLoss k { r with open_ := none, pix := [] })).accumulate t c k f (max f (e - 1)) n

/-- No flame of the sconce works (R74). -/
def Sconce.dead (x : Sconce) : Bool := x.fl.all fun f => f.st == .failed

/-- At an epoch boundary a sconce's episode of kind 0b011 closes; without a working flame it opens the next at the next edge, unless its
tile is gated or in frame mode, when edges are no losses (R51, R67, R214). -/
def State.deadBoundary (s : State) (t c e : Nat) : State :=
  let s := s.closeEpisode t c 3 e
  let x := s.sconce t c
  if x.dead && !s.gated t && !s.flag Reg.TIL_FRM_CTRL_MODE t then s.setSconce t c (x.setLoss 3 { x.lossReg 3 with open_ := some (e + 1, 0) })
  else s

/-- An epoch boundary for every sconce without a working flame, or with an episode of kind 0b011 from when it had none (R67). -/
def State.deadEpoch (s : State) : State :=
  s.each ((s.til.sc.filter fun e => e.2.dead || (e.2.lossReg 3).open_.isSome).map (·.1)) fun s k =>
    s.deadBoundary (k / 4096) (k % 4096) s.dtRef

/-- What a sconce offers to its stage: a waiting loss word, the lowest kind first, or its oldest formed hit (R62). -/
def Sconce.offers (x : Sconce) : Option HopSrc :=
  match [1, 2, 3, 4].find? fun k => (x.lossReg k).out.isSome with
  | some k => some (.loss k)
  | none => if x.ready = [] then none else some .hit

/-- The word of a sconce that stands at `src` (R60, R65). -/
def State.scWord (s : State) (t c : Nat) (src : HopSrc) : Option TWord :=
  let x := s.sconce t c
  match src with
  | .up => none
  | .loss k => (x.lossReg k).out.map fun (a, l, n) => { data := lossWord t c a l n k, loss := true }
  | .hit => x.ready.head?.map (·.word)

/-- The word at `src` has left the sconce: a loss register empties and its accumulating register freezes into it at once, or a slot and its
pixel's hold are released (R62, R64, R68). -/
def State.scTaken (s : State) (t c : Nat) (src : HopSrc) : State :=
  let x := s.sconce t c
  match src with
  | .up => s
  | .loss k =>
    let r := x.lossReg k
    let r := match r.acc with
      | some (f, l, n) => { r with out := some (f, l + 1 - f, n), acc := none }
      | none => { r with out := none }
    s.setSconce t c (x.setLoss k r)
  | .hit => s.setSconce t c { x with ready := x.ready.tail }

/-! ## Leading edges (R53 to R55, R63, R64) -/

/-- The pixel holds a hit: in a flame, a waiting slot or a formed word (R64). -/
def Sconce.holds (x : Sconce) (p : Nat) : Bool :=
  (x.fl.any fun f => (f.run.map (·.pix)) == some p) || (x.wait.any fun h => h.pix == p) || (x.ready.any fun w => w.pix == p)

/-- The lowest-numbered position whose flame is free (R53). -/
def Sconce.freePos (x : Sconce) : Option Nat :=
  [0, 1, 2, 3].find? fun i => match x.pos.getD i none with
    | some f => (x.flame f).run.isNone
    | none => false

/-- The member of `l` the arbiter grants, from node `n` down `d` levels: a node with requests on both inputs grants the one it
did not grant last (R54). -/
def arbPick (arb l : List Nat) : Nat → Nat → Nat → Nat → Nat
  | 0, _, lo, _ => lo
  | d + 1, n, lo, w =>
    let up := l.any fun p => decide (lo + w / 2 ≤ p) && decide (p < lo + w)
    let low := l.any fun p => decide (lo ≤ p) && decide (p < lo + w / 2)
    if up && (!low || arb.contains n) then arbPick arb l d (2 * n + 1) (lo + w / 2) (w / 2)
    else arbPick arb l d (2 * n) lo (w / 2)

/-- The nodes above pixel `p`, each of which grants its other input next (R54). -/
def arbTurn (arb : List Nat) (p : Nat) : List Nat :=
  (List.range 6).foldl (fun a i =>
    let n := (64 + p) / 2 ^ (i + 1)
    if (64 + p) / 2 ^ i % 2 = 1 then a.filter (· != n) else if a.contains n then a else n :: a) arb

/-- Half picoseconds in a reference period (TIM_TILE_LAT's unit). -/
def halfPsPerRef : Nat := 8000

/-- The arbiter path from a discriminator to its flame, 400 ps, in half picoseconds (R53). -/
def arbPath : Nat := 800

/-- The moment of an injection in eighths of half a picosecond of DT; a flame bin is 7.8125 ps (R42). -/
def Inj.time (j : Inj) : Nat := 8 * (j.edge * halfPsPerRef) + 125 * j.bins

/-- The TP flag of a leading edge whose flame, with no wait, starts at `at_` half picoseconds of DT: the pixel has TPEN = 1, and the
edge lies at most 2^(TP_WIN + 2) ref after an injection (R43). -/
def State.tpFlag (s : State) (t w at_ : Nat) : Bool :=
  bit w 30 && (s.tile t).inj.any fun j =>
    decide (j.time + 8 * arbPath ≤ 8 * at_) &&
    decide (8 * at_ ≤ j.time + 8 * arbPath + 8 * (2 ^ (s.get Reg.TIL_TP_TP_WIN t + 2) * halfPsPerRef))

/-- The discriminator threshold in electrons, from THR, TRIMSTEP and the fields of the pixel word (R39). -/
def threshold (thr step w : Nat) : Int := (20 * (thr : Int) + 2 ^ (step + 1) * ((bits w 18 6 : Int) - 32)) * 2 ^ bits w 28 2

/-- The charge of a pixel's polarity that its amplifier collects, in electrons: what the sensor delivers, and the last injection's where
the pixel takes test pulses (R42, R45). -/
def State.collected (s : State) (t w : Nat) (q : Charge) : Int :=
  (if bit w 27 then q.e else -q.e) + if q.pulse && bit w 30 then (((s.tile t).inj.head?.map (·.charge)).getD 0 : Nat) else 0

/-- The discriminator fires: on a charge that reaches its threshold, and on noise with a threshold below 0 (R39). -/
def State.fires (s : State) (t w : Nat) (q : Charge) : Bool :=
  let h := threshold (s.get Reg.TIL_THR_THR t) (s.get Reg.TIL_THR_TRIMSTEP t) w
  decide (h < 0) || decide (h ≤ s.collected t w q)

/-- A moment `sub` half picoseconds into the current reference period, by the tile's own coarse count, which runs LAT behind DT (R137). -/
def State.tileTime (s : State) (sub : Nat) : Nat := s.dtRef * halfPsPerRef + sub - s.get Reg.TIM_TILE_LAT_LAT

/-- The reference edge of DT at or before an edge of the tile's coarse count (R137). -/
def State.tileEdge (s : State) (n : Nat) : Nat := n + s.get Reg.TIM_TILE_LAT_LAT / halfPsPerRef

/-- An edge that asks for a flame at `at_` half picoseconds of DT is granted the free position: the grant takes 80 ps, an edge that finds
another grant under way waits for its end, and the nodes above it turn (R53 to R55); without a free position it is lost (R63, R74). -/
def State.startFlame (s : State) (t c p at_ : Nat) : State :=
  let x := s.sconce t c
  match x.freePos with
  | some i =>
    let f := (x.pos.getD i none).getD 0
    let go := max at_ x.arbFree
    let cont := decide (at_ < go)
    let w := (s.pixel (scPix t c p)).word
    let h : Hit := { pix := p, start := s.tileTime (go - s.dtRef * halfPsPerRef) / halfPsPerRef, toff := toInt 8 (bits w 10 8)
                     tp := s.tpFlag t w at_, cont := cont }
    let x := { x with arb := arbTurn x.arb p, arbFree := go + 160 }
    (s.setSconce t c (x.setFlame f { x.flame f with run := some h })).cond cont (·.tcount Reg.TIL_CONT_COUNT t)
  | none => (s.tcount Reg.TIL_LOST_COUNT t).lossNow t c (if x.dead then 3 else 1)

/-- Edges that contend, granted one after another in the order of the arbiter tree (R54, R55). -/
def State.grantAll (s : State) (t c : Nat) : Nat → List Nat → Nat → State
  | 0, _, _ => s
  | n + 1, l, at_ =>
    if l = [] then s
    else
      let p := arbPick (s.sconce t c).arb l 6 1 0 64
      (s.startFlame t c p at_).grantAll t c n (l.erase p) at_

/-- The blanks that run in a sconce: the DT_REF of each commit, oldest first, and its pixels (none: all of them) (R51). -/
def State.blanksOf (s : State) (t c : Nat) : List (Nat × Option (List Nat)) :=
  let x := s.sconce t c
  let own : List (Nat × Option (List Nat)) := x.blanks.map fun b => (b.1, if (s.tile t).blanks.contains b.1 then none else some b.2)
  let all : List (Nat × Option (List Nat)) := ((s.tile t).blanks.filter fun b => !(x.blanks.any fun y => y.1 == b)).map fun b => (b, none)
  ((own ++ all).filter fun b => decide (x.blankDone ≤ b.1)).mergeSort fun a b => decide (a.1 ≤ b.1)

/-- The running blank that covers a pixel now. -/
def State.blankOf (s : State) (t c p : Nat) : Option Nat :=
  ((s.blanksOf t c).find? fun b => decide (s.dtRef < b.1 + 500) && (b.2.map (·.contains p)).getD true).map (·.1)

/-- A rising edge counts in the active bank of a frame-mode pixel inside the region, or in the one 24-bit counter (R214, R215,
R217, R219, R225). -/
def State.countEdge (s : State) (t row col : Nat) : State :=
  let w := (s.pixel (pixKey t row col)).word
  let r0 := s.get Reg.TIL_FRM_ROI_ROW0 t * 8
  let c0 := s.get Reg.TIL_FRM_ROI_COL0 t * 16
  let inside := decide (r0 ≤ row) && decide (row < r0 + (s.get Reg.TIL_FRM_ROI_NROWS t + 1) * 8) && decide (c0 ≤ col) &&
    decide (col < c0 + (s.get Reg.TIL_FRM_ROI_NCOLS t + 1) * 16)
  let runs := (s.frm.cur.map fun f => decide (f.start ≤ s.dtRef)).getD false && (!s.flag Reg.TIL_FRM_GATE_EN || s.frm.gate)
  if inside && runs && !bit w 31 && !bit w 9 then
    let up (c : Nat × Nat) : Nat × Nat :=
      if s.flag Reg.TIL_FRM_CFG_DEPTH then (min 16777215 (c.1 + 1), 0)
      else if s.flag Reg.TIL_FRM_STATUS_BANK t then (c.1, min 4095 (c.2 + 1)) else (min 4095 (c.1 + 1), c.2)
    { s with frm := { s.frm with cnt := s.frm.cnt.modify (0, 0) (pixKey t row col) up } }
  else s

/-- A blank that began at edge `b` suppresses an edge, which adds to its own count, or to the register the blank entered (R51, R68). -/
def State.suppress (s : State) (t c b : Nat) : State :=
  let s := s.tcount Reg.TIL_BLANKED_COUNT t
  let x := s.sconce t c
  if x.merged.contains b then s.lossNow t c 4
  else
    let n := ((x.blankCnt.find? fun e => e.1 == b).map (·.2)).getD 0
    s.setSconce t c { x with blankCnt := (b, n + 1) :: x.blankCnt.filter fun e => e.1 != b }

/-- What a pixel collects makes a leading edge where its discriminator fires. Before the arbiter the edge is a count in frame mode; masked,
gated and blanked edges go no further, and an edge of a pixel that holds a hit is ignored (R39, R45, R51, R64, R75, R110). The answer says
whether it enters the arbiter. -/
def State.riseEdge (s : State) (t c : Nat) (q : Charge) : State × Bool :=
  let p := q.pix
  let w := (s.pixel (scPix t c p)).word
  if !s.fires t w q || s.gated t || s.colOff t (c % 64) || bit w 31 then (s, false)
  else match s.blankOf t c p with
    | some b => (s.suppress t c b, false)
    | none =>
      if s.flag Reg.TIL_FRM_CTRL_MODE t then (s.countEdge t (scRow c p) (scCol c p), false)
      else if (s.sconce t c).holds p then ((s.tcount Reg.TIL_IGNORED_COUNT t).lossNow t c 2 [p], false)
      else (s, true)

/-- Pixels of one sconce collect charge, and the discriminators it makes fire rise together; an edge that does not wait starts its flame
`sub` half picoseconds into the current reference period (R39, R53, R55). -/
def execDiscriminatorRise (tile sconce : Nat) (pix : List Charge) (sub : Nat) (s : State) : Out :=
  if pix.all (fun q => decide (q.pix < 64)) then
    let (s, l) := pix.foldl (fun (a : State × List Nat) q =>
      if a.2.contains q.pix then a else
        let r := a.1.riseEdge tile sconce q
        (r.1, if r.2 then a.2 ++ [q.pix] else a.2)) (s, [])
    onSconce tile sconce (s.grantAll tile sconce l.length l (s.dtRef * halfPsPerRef + sub))
  else .refused .noSuchUnit

/-! ## Stop, handoff and trailing edge (R56 to R62) -/

/-- The interval in flame bins, from raw count `n` and coefficients in 1/8 count, halves upward (R56). -/
def interval (n : Nat) (coef : Nat × Nat) : Int :=
  let d : Int := max 1 coef.1
  ((8 * (n : Int) - coef.2) * 1024 + d) / (2 * d)

/-- Coefficients in force (R70). -/
def State.coefOf (s : State) (t c f : Nat) : Nat × Nat := ((s.sconce t c).flame f).coef.getD (s.tile t).coef

/-- The hit word of R60, from a leading time in bins and ToT. -/
def hitWord (t c : Nat) (h : Hit) (lead : Int) (tot : Nat) (sat : Bool) : Nat :=
  let coarse := lead / 512
  t * 2 ^ 62 + scRow c h.pix * 2 ^ 53 + scCol c h.pix * 2 ^ 44 + ofInt 21 coarse * 2 ^ 23 + ofInt 9 lead * 2 ^ 14 + tot * 2 ^ 4 +
  ofInt 1 (coarse / 2 ^ 21) * 2 ^ 3 + boolNat h.cont * 2 ^ 2 + boolNat sat * 2 + boolNat h.tp

/-- The moment 1,023 ns after a corrected leading time in flame bins, in half picoseconds of the tile's coarse count, rounded up (R58). -/
def satTime (lead : Int) : Int := (125 * lead + 8 * 1023 * 2000 + 7) / 8

/-- A hit whose leading time and trailing edge are known becomes a hit word: ToT is the trailing stamp in whole ns minus the leading time in
whole ns; a discriminator still high 1,023 ns after the leading time saturates it (R58, R60). A trailing stamp before the leading time, which
TOFF can move past it, gives ToT 0 (DESIGN CHOICE, log entry 162). -/
def Hit.form (t c : Nat) (h : Hit) : Option Ready :=
  match h.lead, h.fall with
  | some l, some e =>
    let sat := decide (satTime l ≤ e)
    let tot := if sat then 1023 else (max 0 (min 1023 ((e / 2000 : Nat) - l / 128 : Int))).toNat
    some { pix := h.pix, word := { data := hitWord t c h l tot sat, poison := h.poison } }
  | _, _ => none

/-- Every waiting slot whose ToT is known forms its word, in the order given (R62). -/
def Sconce.formWords (t c : Nat) (x : Sconce) : Sconce :=
  { x with ready := x.ready ++ x.wait.filterMap (Hit.form t c), wait := x.wait.filter fun h => (h.form t c).isNone }

/-- A running flame stops at the second following edge (R56, R57); an interval outside 496 to 1,040 bins poisons the hit and
owes the flame a calibration (R59). -/
def execFlameStop (tile sconce flame n : Nat) (s : State) : Out :=
  let x := s.sconce tile sconce
  let f := x.flame flame
  match f.run with
  | some h =>
    if h.lead.isSome then onSconce tile sconce s
    else
      let s := s.advanceTo (s.tileEdge (h.start + 2))
      let i := interval n (s.coefOf tile sconce flame)
      let v := 1024 - i + 2 * h.toff
      let fine := if v < 0 then v + 512 else if 512 ≤ v then v - 512 else v
      let coarse := (h.start : Int) + (if v < 0 then -1 else if 512 ≤ v then 1 else 0)
      let bad := decide (i < 496) || decide (1040 < i)
      onSconce tile sconce (s.setSconce tile sconce (x.setFlame flame
        { f with run := some { h with lead := some (coarse * 512 + fine % 512), poison := bad }, owed := f.owed || bad }))
  | none => onSconce tile sconce s

/-- At the sixth edge, or once a slot frees, the flame hands its leading time to a word slot and becomes free (R62); in a column out of
service the hit is discarded and counted (R107, R110). -/
def execFlameHandoff (tile sconce flame : Nat) (s : State) : Out :=
  let x := s.sconce tile sconce
  let f := x.flame flame
  match f.run with
  | some h =>
    if h.lead.isSome && s.colOff tile (sconce % 64) then
      onSconce tile sconce (((s.advanceTo (s.tileEdge (h.start + 6))).setSconce tile sconce (x.setFlame flame { f with run := none })).bump
        Reg.TIL_XDISCARD_COUNT Reg.TIL_XINT_CNT_SAT tile 0 1 tile)
    else if h.lead.isSome && decide (x.wait.length + x.ready.length < 8) then
      onSconce tile sconce ((s.advanceTo (s.tileEdge (h.start + 6))).setSconce tile sconce
        (({ x with wait := x.wait ++ [h] }.setFlame flame { f with run := none }).formWords tile sconce))
    else onSconce tile sconce s
  | none => onSconce tile sconce s

/-- Change the hit in flight of one pixel. -/
def Sconce.onHit (x : Sconce) (p : Nat) (g : Hit → Hit) : Sconce :=
  { x with wait := x.wait.map fun h => if h.pix == p then g h else h
           fl := x.fl.map fun f => { f with run := f.run.map fun h => if h.pix == p then g h else h } }

/-- The trailing edge of a pixel's discriminator, `sub` half picoseconds into the current reference period, is stamped to 1 ns by the
tile's coarse count and its quarter-period code (R58). -/
def execDiscriminatorFall (tile sconce pix sub : Nat) (s : State) : Out :=
  onSconce tile sconce (s.setSconce tile sconce (((s.sconce tile sconce).onHit pix fun h =>
    if h.fall.isSome then h else { h with fall := some (s.tileTime sub) }).formWords tile sconce))

/-- The discriminator is still high 1,023 ns after the leading time: ToT saturates and the word is formed (R58). -/
def execTotSaturate (tile sconce pix : Nat) (s : State) : Out :=
  let x := s.sconce tile sconce
  match (x.wait ++ x.fl.filterMap (·.run)).find? fun h => h.pix == pix && h.fall.isNone with
  | some h =>
    match h.lead with
    | some l =>
      let due := (satTime l).toNat
      let s := s.advanceTo ((due + s.get Reg.TIM_TILE_LAT_LAT) / halfPsPerRef)
      onSconce tile sconce (s.setSconce tile sconce ((x.onHit pix fun h =>
        if h.fall.isSome then h else { h with fall := some due }).formWords tile sconce))
    | none => onSconce tile sconce s
  | none => onSconce tile sconce s

/-- A loss episode reaches its closing edge: kind 1 with an active flame free, kind 2 with every pixel that ignored an edge
released, kind 3 at an epoch boundary (R67). -/
def execLossEpisodeClose (tile sconce kind : Nat) (s : State) : Out :=
  let x := s.sconce tile sconce
  let c := match kind with
    | 1 => x.freePos.isSome
    | 2 => (x.lossReg 2).pix.all fun p => !x.holds p
    | 3 => s.dtRef % 2 ^ 21 == 0 && ((x.lossReg 3).open_.any fun o => decide (o.1 < s.dtRef))
    | _ => false
  onSconce tile sconce (s.cond c fun s =>
    if kind = 3 then s.deadBoundary tile sconce s.dtRef
    else
      let s := s.advanceTo (((x.lossReg kind).open_.map (·.1 + 1)).getD s.dtRef)
      s.closeEpisode tile sconce kind s.dtRef)

/-! ## Test pulses (R42) -/

/-- TIL_TP_FIRE: COUNT pulses, the first at the 64th edge after the write; COUNT 0 stops the train. -/
def State.tpFire (s : State) (t v : Nat) : State :=
  let r : Option Train := if bits v 0 16 = 0 then none
    else some { left := bits v 0 16, period := max 64 (bits v 16 16), next := s.dtRef + 64 }
  s.setTile t { s.tile t with train := r }

/-- A write of TIL_TP_FIRE with non-zero COUNT (R42). -/
def execTpTrainStart (tile val : Nat) (s : State) : Out :=
  need (decide (tile < 4) && bits val 0 16 != 0) (s.bar (0x60010 + 0x1000 * tile) (·.tpFire tile val))

/-- A write of TIL_TP_FIRE with COUNT 0 (R42). -/
def execTpTrainStop (tile val : Nat) (s : State) : Out :=
  need (decide (tile < 4) && bits val 0 16 == 0) (s.bar (0x60010 + 0x1000 * tile) (·.tpFire tile val))

/-- The train's next pulse falls due: it injects TP_AMP * 40 e-, TP_FDELAY bins after its edge, or is skipped while TP_ARM = 0 and still
counts (R42). -/
def execTestPulseInject (tile : Nat) (s : State) : Out :=
  need (decide (tile < 4)) <|
    match (s.tile tile).train with
    | none => s
    | some r =>
      let s := s.advanceTo r.next
      let x := s.tile tile
      s.setTile tile { x with
        train := if r.left ≤ 1 then none else some { r with left := r.left - 1, next := r.next + r.period }
        inj := if s.flag Reg.TIL_CTRL_TP_ARM tile then
            { edge := s.dtRef, bins := s.get Reg.TIL_TP_TP_FDELAY tile, charge := 40 * s.get Reg.TIL_TP_TP_AMP tile } :: x.inj.take 1
          else x.inj }

/-! ## The pixel scrubber (R46) -/

/-- What a visit does to one word: its copies after it, and whether one or all three disagreed. -/
def scrubCopies (l : List Nat) : List Nat × Nat :=
  match l with
  | [a, b, c] =>
    if a = b ∧ b = c then (l, 0)
    else if a = b then ([a, a, a], 1)
    else if a = c then ([a, a, a], 1)
    else if b = c then ([b, b, b], 1)
    else
      let m := Nat.lor (vote l) 0x80000000
      ([m, m, m], 2)
  | _ => (l, 0)

/-- An upset inverts bits of one copy of a pixel's words, which then differs from the others until the pixel's visit (R46). -/
def Pix.upset (p : Pix) (u : PixUpset) : Pix :=
  let flip (l : List Nat) (i : Nat) := l.set i (Nat.xor (l.getD i 0) (u.mask % 2 ^ 32))
  if u.copy < 3 then { p with act := flip p.act u.copy } else { p with shd := flip p.shd (u.copy - 3) }

/-- The scrubber visits one pixel; `upsets` are those the tile's pixels have had since the last visit (R46). -/
def execPixelScrubVisit (tile row col : Nat) (upsets : List PixUpset) (s : State) : Out :=
  need (decide (tile < 4) && decide (row < 512) && decide (col < 512)) <|
    let due := row * 512 + col
    let s := s.advanceTo (s.dtRef + (due + 262144 - s.dtRef % 262144) % 262144)
    let s := s.each upsets fun s u => s.setPixel (pixKey tile u.row u.col) ((s.pixel (pixKey tile u.row u.col)).upset u)
    let k := pixKey tile row col
    let p := s.pixel k
    let a := scrubCopies p.act
    let b := scrubCopies p.shd
    let s := s.setPixel k { p with act := a.1, shd := b.1 }
    s.each [a.2, b.2] fun s r =>
      if r = 1 then s.tcount Reg.TIL_SEU_CORR tile
      else if r = 2 then (s.tcount Reg.TIL_SEU_UNCORR tile).put Reg.TIL_INT_SEU_UNCORR 1 tile
      else s

/-! ## The configuration stream (R47 to R52) -/

/-- The bits of a pixel word whose change blanks the pixel: GAIN, POL, DISCH, TRIM, LCEN and LCLIM (R51). -/
def analogBits (w : Nat) : Nat := Nat.land w 0x3FFC01E0

/-- TIL_STATUS.PCS_PENDING of every tile (R50). -/
def State.pcsPending (s : State) : State :=
  s.each [0, 1, 2, 3] fun s t => s.putB Reg.TIL_STATUS_PCS_PENDING
    (s.til.pix.any fun e => decide (e.1 / 262144 = t) && decide (0 < e.2.staged)) t

/-- A blank begins now in a sconce; one that begins with the discriminators open while the output register of kind 4 waits enters the
accumulating register as a loss that spans it (R68). -/
def State.blankBegins (s : State) (t c : Nat) : State :=
  let x := s.sconce t c
  if (x.lossReg 4).out.isSome && !s.gated t && !s.flag Reg.TIL_FRM_CTRL_MODE t && !x.merged.contains s.dtRef then
    (s.setSconce t c { x with merged := x.merged ++ [s.dtRef] }).lossAt t c 4 s.dtRef (s.dtRef + 499) 0
  else s

/-- A blank of one pixel begins (R51). -/
def State.blankPixel (s : State) (k : Nat) : State :=
  let t := k / 262144
  let row := k % 262144 / 512
  let col := k % 512
  let c := sconceOf row col
  let p := row % 8 * 8 + col % 8
  let x := s.sconce t c
  let old := ((x.blanks.find? fun b => b.1 == s.dtRef).map (·.2)).getD []
  (s.setSconce t c { x with blanks := (x.blanks.filter fun b => b.1 != s.dtRef) ++ [(s.dtRef, old ++ [p])] }).blankBegins t c

/-- A staged word takes effect: the shadow's voted value becomes the active word, with its blank (R50, R51). -/
def State.commitPixel (s : State) (k : Nat) : State :=
  let p := s.pixel k
  let w := vote p.shd
  let s := s.cond (analogBits w != analogBits p.word) (·.blankPixel k)
  s.setPixel k { p with act := [w, w, w], staged := 0 }

/-- Commit the staged pixels that `c` selects. -/
def State.commitPixels (s : State) (c : Nat → Pix → Bool) : State :=
  (s.each ((s.til.pix.filter fun e => decide (0 < e.2.staged) && c e.1 e.2).map (·.1)) State.commitPixel).pcsPending

/-- At an epoch boundary the words staged for it take effect (R50). -/
def State.pcsEpoch (s : State) : State := s.commitPixels fun _ p => p.staged == 2

/-- TIL_THR commits at an epoch boundary; a change blanks every pixel of the tile (R51, R80). -/
def State.thrCommit (s : State) (t : Nat) : State :=
  let fs := [Reg.TIL_THR_THR, Reg.TIL_THR_TRIMSTEP, Reg.TIL_THR_PREAMP]
  let old := fs.map fun f => s.get f t
  let s := s.each fs fun s f => s.commit f t
  s.cond (fs.map (fun f => s.get f t) != old) fun s =>
    (s.setTile t { s.tile t with blanks := (s.tile t).blanks ++ [s.dtRef] }).each
      ((s.til.sc.filter fun e => e.1 / 4096 == t && (e.2.lossReg 4).out.isSome).map (·.1 % 4096)) fun s c => s.blankBegins t c

/-- A write of a TIL_THR field: it is staged while the tile is enabled, else it takes effect at once (R6, R51, R80). -/
def State.writeThr (s : State) (f : Fld) (t v : Nat) : State :=
  let s := s.stage f v t
  if s.flag Reg.TIL_CTRL_EN t then s else s.thrCommit t

/-- An accepted stream goes to the shadow copies of its pixels, and with HOLD = 0 it commits them with those of every held
stream: at once in a disabled tile, else at the next epoch boundary (R47, R48, R50). The reserved bits 4:0 of a pixel word stay 0 (R45). -/
def State.pcsAccept (s : State) (h0 h1 : Nat) (data : List Nat) : State :=
  let tiles := (List.range 4).filter fun t => bit h0 (12 + t)
  let row0 := bits h1 16 9
  let n := bits h1 0 10
  let s := s.each tiles fun s t => s.each (List.range (n * 512)) fun s i =>
    let w := data.getD (if bits h0 10 2 = 1 then 0 else i) 0 / 32 * 32
    let k := pixKey t (row0 + i / 512) (i % 512)
    let p := s.pixel k
    s.setPixel k { p with shd := [w, w, w], staged := max 1 p.staged }
  let s := (s.put Reg.TIL_PCS_STATUS_ERR 0).put Reg.TIL_PCS_STATUS_ACCEPTED (s.get Reg.TIL_PCS_STATUS_ACCEPTED + 1)
  if bit h0 9 then s.pcsPending
  else
    let s := { s with til := { s.til with pix := s.til.pix.map fun (e : Nat × Pix) =>
      (e.1, if 0 < e.2.staged then { e.2 with staged := 2 } else e.2) } }
    s.commitPixels fun k _ => !s.flag Reg.TIL_CTRL_EN (k / 262144)

/-- The stream ends: the port is idle again. -/
def State.pcsIdle (s : State) (err : Nat) : State :=
  let s := { s with til := { s.til with pcs := {} } }
  (s.put Reg.TIL_PCS_STATUS_STATE 0).put Reg.TIL_PCS_STATUS_ERR err

/-- A word `w` arrives at the port from source `src` (0 BAR0, 1 a queue) (R48, R49). -/
def State.pcsWord (s : State) (src w : Nat) : State :=
  let st := s.get Reg.TIL_PCS_STATUS_STATE
  let l := s.til.pcs.words
  let keep (s : State) : State := { s with til := { s.til with pcs := { words := w :: l } } }
  if st = 0 then
    if bits w 16 16 = 0x5043 ∧ bits w 12 4 ≠ 0 then
      if bits w 10 2 ≤ 1 then ((keep s).put Reg.TIL_PCS_STATUS_STATE 1).put Reg.TIL_PCS_STATUS_OWNER src
      else s.pcsIdle 4
    else s.cond (s.get Reg.TIL_PCS_STATUS_ERR == 0) (·.put Reg.TIL_PCS_STATUS_ERR 1)
  else if s.get Reg.TIL_PCS_STATUS_OWNER ≠ src then s.put Reg.TIL_PCS_STATUS_ERR 5
  else if st = 1 then
    if bits w 0 10 = 0 ∨ 512 < bits w 16 9 + bits w 0 10 then s.pcsIdle 2 else (keep s).put Reg.TIL_PCS_STATUS_STATE 2
  else if st = 2 then
    let h0 := l.getD (l.length - 1) 0
    let h1 := l.getD (l.length - 2) 0
    let n := if bits h0 10 2 = 1 then 1 else bits h1 0 10 * 512
    (keep s).cond (l.length + 1 == n + 2) (·.put Reg.TIL_PCS_STATUS_STATE 3)
  else
    let ws := l.reverse
    if w = crc32cWords 4 ws then (s.pcsIdle 0).pcsAccept (ws.getD 0 0) (ws.getD 1 0) (ws.drop 2) else s.pcsIdle 3

/-- A configuration word from TIL_PCS_DATA (`src` 0) or from a host queue (1) (R48). -/
def execPcsWordArrive (src w : Nat) (s : State) : Out :=
  need (decide (src < 2) && decide (w < 2 ^ 32)) (if src = 0 then s.bar 0x68000 (·.pcsWord 0 w) else s.pcsWord 1 w)

/-- A write of TIL_PCS_ABORT discards the stream in progress (R83). -/
def execPcsAbort (s : State) : Out :=
  .next (s.bar 0x68008 fun s => if s.get Reg.TIL_PCS_STATUS_STATE = 0 then s else s.pcsIdle 6)

/-- The word TIL_PCS_RDDATA returns (R52). -/
def State.pcsRead (s : State) : Nat :=
  let p := s.pixel (pixKey (s.get Reg.TIL_PCS_RDADDR_TILE) (s.get Reg.TIL_PCS_RDADDR_ROW) (s.get Reg.TIL_PCS_RDADDR_COL))
  if s.flag Reg.TIL_PCS_RDADDR_SHADOW then vote p.shd else p.word

/-- A read of TIL_PCS_RDDATA returns the voted word (R52). -/
def execPixelWordRead (s : State) : Out := .next (s.bar 0x68010 fun s => { s with rdata := [s.pcsRead] })

/-- A tile's discriminators were open during a blank that began at edge `b` (R51). -/
def State.openIn (s : State) (t b : Nat) : Bool :=
  decide (b < (s.tile t).openTill) || (!s.gated t && decide ((s.tile t).openFrom < b + 500))

/-- The oldest blank of a sconce ends: when the discriminators were open before its end, its loss word of kind 4 covers the whole blank; a
tile in frame mode sends none, and a blank that entered the accumulating register when it began is counted there (R51, R67, R68, R214). -/
def execReconfigBlankEnd (tile sconce : Nat) (s : State) : Out :=
  onSconce tile sconce <|
    match (s.blanksOf tile sconce).head? with
    | none => s
    | some (b, _) =>
      let s := s.advanceTo (b + 500)
      let x := s.sconce tile sconce
      let n := ((x.blankCnt.find? fun e => e.1 == b).map (·.2)).getD 0
      let s := s.setSconce tile sconce { x with
        blankDone := b + 1, blanks := x.blanks.filter fun e => e.1 != b, blankCnt := x.blankCnt.filter fun e => e.1 != b
        merged := x.merged.filter (· != b) }
      if x.merged.contains b then s.closeEpisode tile sconce 4 (b + 500)
      else if !s.openIn tile b || s.flag Reg.TIL_FRM_CTRL_MODE tile then s
      else (s.lossAt tile sconce 4 b (b + 499) n).closeEpisode tile sconce 4 (b + 500)

/-! ## The calibration rota (R69 to R75) -/

/-- The next flame of a turn that has not failed, from `f` on. -/
def Sconce.nextTurn (x : Sconce) (f : Nat) : Nat :=
  (([0, 1, 2, 3, 4].map fun i => (f + i) % 5).find? fun i => (x.flame i).st != .failed).getD f

/-- R's position for good, or the one it covers. -/
def Sconce.rPos (x : Sconce) : Option Nat := [0, 1, 2, 3].find? fun i => x.pos.getD i none == some 4

/-- The home position of a flame: its own, or R's permanent one. -/
def Sconce.home (x : Sconce) (f : Nat) : Option Nat := if f = 4 then x.rHome else some f

def Sconce.setPos (x : Sconce) (i : Nat) (f : Option Nat) : Sconce := { x with pos := x.pos.set i f }

/-- A flame goes offline and begins to calibrate. -/
def Sconce.startCal (x : Sconce) (f e : Nat) : Sconce :=
  x.setFlame f { x.flame f with st := .calibrating, cal := some e, owed := false, passed := false, fails := 0 }

/-- A flame gives up its calibration, keeps its previous coefficients, and takes its position back (R71, R72). -/
def Sconce.abandon (x : Sconce) (f : Nat) : Sconce :=
  let x := x.setFlame f { x.flame f with st := .active, cal := none, passed := false, fails := 0 }
  x.setPos f (some f)

/-- R takes position `i`: from standby, or abandoning its own step (R69, R73). -/
def Sconce.rCover (x : Sconce) (i : Nat) : Sconce :=
  (x.setFlame 4 { x.flame 4 with st := .active, cal := none, passed := false, fails := 0 }).setPos i (some 4)

/-- The record of a failed flame: the audit entry, and its bit in the service record (R74, R515). -/
def State.flameOut (s : State) (t c f : Nat) : State := s.unitOut 1 ((t * 4096 + c) * 8 + f)

/-- Reserve flames left in a tile. -/
def State.reserveLeft (s : State) (t : Nat) : Nat :=
  4096 - (s.til.sc.filter fun e => decide (e.1 / 4096 = t) && (e.2.rHome.isSome || (e.2.flame 4).st == .failed)).length

/-- A flame is marked failed (R71 to R74). -/
def State.markFailed (s : State) (t c f : Nat) : State :=
  let x := (s.sconce t c).setFlame f { (s.sconce t c).flame f with st := .failed, cal := none, passed := false, owed := false }
  let s := s.flameOut t c f
  let fail (s : State) (ev : Nat) : State := s.failEvent t c f ev
  if f = 4 ∧ x.rHome.isNone then
    let x := match x.rPos with
      | some i => x.abandon i
      | none => x
    fail ((s.setSconce t c x).put Reg.TIL_INT_FLAME_FAIL 1 t) 1
  else
    let i := (x.home f).getD f
    let free := f != 4 && x.rHome.isNone && (x.flame 4).st != .failed
    if free then
      let x := match x.rPos with
        | some j => if j = i then x else (x.abandon j)
        | none => x
      let x := { x.rCover i with rHome := some i }
      let s := fail ((s.setSconce t c x).put Reg.TIL_INT_FLAME_FAIL 1 t) 1
      s.bringSpare 1 ((t * 4096 + c) * 8 + 4) (s.reserveLeft t)
    else
      let x := x.setPos i none
      let s := fail ((s.setSconce t c x).put Reg.TIL_INT_UNCOVERED 1 t) 2
      if x.fl.all (fun y => y.st == .failed) then fail s 3 else s

/-- A write of TIL_ROTA: INTERVAL moves the next due edge (R69), DRIFT applies at once, FORCE starts a step now. -/
def State.tilRota (s : State) (t v : Nat) : State :=
  let old := s.get Reg.TIL_ROTA_INTERVAL t
  let new := bits v 0 16
  let s := (s.put Reg.TIL_ROTA_INTERVAL new t).put Reg.TIL_ROTA_DRIFT (bits v 20 4) t
  let x := s.tile t
  let x :=
    if new = old then x
    else if new = 0 then { x with rotaNext := none }
    else if old = 0 then { x with rotaLast := s.dtRef, rotaNext := some (s.dtRef + new * 1024) }
    else { x with rotaNext := some (max (s.dtRef + 1) (x.rotaLast + new * 1024)) }
  s.setTile t { x with rotaDue := x.rotaDue + boolNat (bit v 16) }

/-- A rota step falls due in every sconce of the tile (R69). -/
def execRotaStepDue (tile : Nat) (s : State) : Out :=
  need (decide (tile < 4)) <|
    match (s.tile tile).rotaNext with
    | none => s
    | some d =>
      let s := s.advanceTo d
      s.setTile tile { s.tile tile with
        rotaLast := d, rotaNext := some (d + s.get Reg.TIL_ROTA_INTERVAL tile * 1024), rotaDue := (s.tile tile).rotaDue + 1 }

/-- A write of TIL_ROTA with FORCE = 1 (R69). -/
def execRotaForce (tile val : Nat) (s : State) : Out :=
  need (decide (tile < 4) && bit val 16) (s.bar (0x60014 + 0x1000 * tile) (·.tilRota tile val))

/-- A write of TIL_ROTA with FORCE = 0 (R69). -/
def execRotaIntervalWrite (tile val : Nat) (s : State) : Out :=
  need (decide (tile < 4) && !bit val 16) (s.bar (0x60014 + 0x1000 * tile) (·.tilRota tile val))

/-- Whether, and how, a flame may go offline now: none when it must wait, else the sconce with R in its place, or without cover
when R is in permanent use or has failed (R69, R73, R74); a calibration R59 demands does not wait for the cover of another flame to end
(R59, R72), and when it is R's own while R covers a flame, that flame takes its position back at the edge at which R leaves (R59, R71). -/
def Sconce.goOffline (x : Sconce) (f e : Nat) (demand : Bool) : Option Sconce :=
  let y := x.flame f
  let r := x.flame 4
  if y.run.isSome then none
  else if f = 4 ∧ x.rHome.isNone then
    match y.st, x.rPos with
    | .standby, _ => if demand || (x.fl.take 4).all (fun z => z.st != .calibrating) then some (x.startCal 4 e) else none
    | .active, some i => if demand then some ((x.abandon i).startCal 4 e) else none
    | _, _ => none
  else if y.st != .active then none
  else
    let i := (x.home f).getD f
    if f = 4 || x.rHome.isSome || r.st == .failed then some ((x.startCal f e).setPos i none)
    else if r.st == .standby || (r.st == .calibrating && demand) then some ((x.startCal f e).rCover i)
    else if demand then some ((x.startCal f e).setPos i none)
    else none

/-- A flame goes offline to calibrate: for a calibration that R59 demands, or as the next rota step, which lets such a
calibration go first (R69, R70). -/
def execFlameOffline (tile sconce flame : Nat) (s : State) : Out :=
  onSconce tile sconce <|
    let x := s.sconce tile sconce
    if (x.flame flame).owed then
      match x.goOffline flame s.dtRef true with
      | some y => s.setSconce tile sconce y
      | none => s
    else if decide (x.taken < (s.tile tile).rotaDue) && x.nextTurn x.turn == flame && x.fl.all (fun y => !y.owed) then
      match x.goOffline flame s.dtRef false with
      | some y => s.setSconce tile sconce { y with taken := y.taken + 1, turn := (flame + 1) % 5 }
      | none => s
    else s

/-- A calibration's PERIOD and OFFSET in 1/8 count, and whether they pass (R56, R70). -/
def calPasses (n1 n2 : Nat) (prev : Option Nat) (drift : Nat) : Option (Nat × Nat) :=
  let p : Int := (n2 : Int) - n1
  let o : Int := 2 * (n1 : Int) - n2
  let ok := decide (3200 ≤ p) && decide (p ≤ 5120) && decide (0 ≤ o) && decide (o ≤ 768) &&
    (drift == 0 || match prev with
      | none => true
      | some q => decide ((p - q).natAbs * 100 ≤ drift * q))
  if ok then some (p.toNat, o.toNat) else none

/-- A flame's 96-ref calibration ends with mean counts `n1` and `n2`, in 1/8 count (R70): it passes, it recalibrates at once, or
its second failure marks it failed. -/
def execFlameCalibrationEnd (tile sconce flame n1 n2 : Nat) (s : State) : Out :=
  onSconce tile sconce <|
    let f := (s.sconce tile sconce).flame flame
    match f.cal with
    | none => s
    | some e =>
      let s := s.advanceTo (e + 96)
      let x := s.sconce tile sconce
      match calPasses n1 n2 (some (s.coefOf tile sconce flame).1) (s.get Reg.TIL_ROTA_DRIFT tile) with
      | some k =>
        let g := { f with coef := some k, fails := 0, cal := none }
        s.setSconce tile sconce (x.setFlame flame
          (if flame = 4 ∧ x.rHome.isNone then { g with st := .standby } else { g with passed := true }))
      | none =>
        if f.fails = 0 then s.setSconce tile sconce (x.setFlame flame { f with fails := 1, cal := some s.dtRef })
        else s.markFailed tile sconce flame

/-- A passed flame takes its position back at the first edge at which R is free there, and R returns to standby (R69). -/
def execFlameReturn (tile sconce flame : Nat) (s : State) : Out :=
  onSconce tile sconce <|
    let x := s.sconce tile sconce
    let f := x.flame flame
    match f.passed, x.home flame with
    | true, some i =>
      let back (x : Sconce) := (x.setFlame flame { f with st := .active, passed := false }).setPos i (some flame)
      match x.pos.getD i none with
      | none => s.setSconce tile sconce (back x)
      | some r =>
        if r = 4 ∧ (x.flame 4).run.isNone then
          s.setSconce tile sconce (back (x.setFlame 4 { x.flame 4 with st := .standby }))
        else s
    | _, _ => s

/-- The first calibration begins: CAL_VALID falls and every flame that has not failed calibrates (R75). -/
def execFirstCalibrationStart (tile : Nat) (s : State) : Out :=
  need (decide (tile < 4)) <|
    let x := s.tile tile
    match x.firstDue with
    | some d =>
      if s.flag Reg.TIL_CTRL_EN tile then
        let s := s.advanceTo d
        (s.setTile tile { s.tile tile with firstDue := none, firstCal := some s.dtRef }).put Reg.TIL_STATUS_CAL_VALID 0 tile
      else s
    | none => s

/-- A sconce after the first calibration: its turn is back at F0, and its flames hold the tile's coefficients (R75). -/
def Sconce.afterFirst (x : Sconce) : Sconce :=
  let act (i : Nat) (f : Flame) : Flame :=
    { f with st := if f.st == .failed then .failed else if i = 4 ∧ x.rHome.isNone then .standby else .active
             passed := false, cal := none, owed := false, fails := 0, coef := none }
  { x with turn := 0, taken := 0, fl := x.fl.mapIdx act
           pos := [0, 1, 2, 3].map fun i =>
             if (x.flame i).st != .failed then some i
             else if x.rHome == some i && (x.flame 4).st != .failed then some 4 else none }

/-- The flames of a sconce when the service record lists those that failed: R takes the place of the lowest, and other places stay empty
(R71, R74, R515). -/
def State.recordFlames (s : State) (t c : Nat) : State :=
  let out := [0, 1, 2, 3, 4].filter fun f => s.recorded 1 ((t * 4096 + c) * 8 + f)
  let home := if out.contains 4 then none else out.head?
  let x := s.sconce t c
  let fl := x.fl.mapIdx fun f (y : Flame) =>
    if out.contains f then { y with st := .failed, cal := none, passed := false, owed := false, run := none }
    else if y.st == .failed then { y with st := if f = 4 then .standby else .active } else y
  let x : Sconce := { x with fl := fl, rHome := home }
  let x := if home.isSome then x.setFlame 4 { x.flame 4 with st := .active } else x
  let place (i : Nat) : Option Nat := if out.contains i then (if home == some i then some 4 else none) else some i
  s.setSconce t c { x with pos := [0, 1, 2, 3].map place }

/-- The recorded flames of a tile are retested: those of `back` passed the first calibration and the one after it (R515). -/
def State.retestFlames (s : State) (t : Nat) (back : List (Nat × Nat)) : State :=
  let l := (s.unitsOut 1).filter fun u => u / 32768 == t && s.retests 1 u
  let s := s.each l fun s u => s.retestUnit 1 u (back.contains (u / 8 % 4096, u % 8))
  s.each ((l.map fun u => u / 8 % 4096).dedup) fun s c => s.recordFlames t c

/-- The PERIOD of a flame's previous calibration, where it has one (R70). -/
def State.prevPeriod (s : State) (t c f : Nat) : Option Nat :=
  if s.coefOf t c f = (0, 0) then none else some (s.coefOf t c f).1

/-- The flames of a tile that hold coefficients of their own, as (sconce, flame). -/
def State.ownCoefs (s : State) (t : Nat) : List (Nat × Nat) :=
  (s.til.sc.filter fun e => e.1 / 4096 == t).flatMap fun e =>
    ([0, 1, 2, 3, 4].filter fun f => (e.2.flame f).coef.isSome).map fun f => (e.1 % 4096, f)

/-- The first calibration ends (R75): every flame took mean counts `n1`, `n2`, in 1/8 count, but those listed, which took the two pairs given,
the second where the first failed and they calibrated again (R70); recorded flames that passed their retest, in `back`, return (R515); the
flames that failed twice are handled, R's own first; CAL_VALID rises and the rota starts anew (R69). It ends after 96 ref, or after 192 with
a flame that calibrated again. -/
def execFirstCalibrationEnd (tile n1 n2 : Nat) (exc : List (Nat × Nat × (Nat × Nat) × (Nat × Nat))) (back : List (Nat × Nat)) (s : State) : Out :=
  need (decide (tile < 4)) <|
    let drift := s.get Reg.TIL_ROTA_DRIFT tile
    let old := (s.tile tile).coef
    match (s.tile tile).firstCal, calPasses n1 n2 (if old = (0, 0) then none else some old.1) drift with
    | some e, some k =>
      let exc := exc ++ ((s.ownCoefs tile).filter fun x => !(exc.any fun y => y.1 == x.1 && y.2.1 == x.2)).map fun x =>
        (x.1, x.2, (n1, n2), (n1, n2))
      let pass (c f : Nat) (m : Nat × Nat) := calPasses m.1 m.2 (s.prevPeriod tile c f) drift
      let res := exc.map fun (c, f, a, b) => (c, f, (pass c f a).or (pass c f b))
      let bad := res.filter fun x => x.2.2.isNone
      let again := exc.any fun (c, f, a, _) => ((s.sconce tile c).flame f).st != .failed && (pass c f a).isNone
      let s := (s.advanceTo (e + if again then 192 else 96)).retestFlames tile back
      let s := { s with til := { s.til with sc := s.til.sc.map fun (y : Nat × Sconce) =>
        if y.1 / 4096 = tile then (y.1, y.2.afterFirst) else y } }
      let s := s.setTile tile { s.tile tile with firstCal := none, coef := k, rotaDue := 0, rotaLast := s.dtRef
                                                 rotaNext := if s.get Reg.TIL_ROTA_INTERVAL tile = 0 then none
                                                   else some (s.dtRef + s.get Reg.TIL_ROTA_INTERVAL tile * 1024) }
      let live (s : State) (c f : Nat) : Bool :=
        decide (c < 4096) && decide (f < 5) && ((s.sconce tile c).flame f).st != .failed
      let s := s.each res fun s (c, f, r) => match r with
        | some q => s.cond (live s c f) fun s =>
          s.setSconce tile c ((s.sconce tile c).setFlame f { (s.sconce tile c).flame f with coef := some q })
        | none => s
      let key (x : Nat × Nat × Option (Nat × Nat)) : Nat := x.1 * 8 + (if x.2.1 = 4 then 0 else x.2.1 + 1)
      let s := s.each (bad.mergeSort fun x y => decide (key x ≤ key y)) fun s (c, f, _) =>
        s.cond (live s c f) (·.markFailed tile c f)
      s.regate tile (·.put Reg.TIL_STATUS_CAL_VALID 1 tile)
    | _, _ => s

/-- The front ends have settled (R78). -/
def execFeReady (tile : Nat) (s : State) : Out :=
  need (decide (tile < 4)) (s.cond (s.flag Reg.TIL_CTRL_FE_ON tile) (·.regate tile (·.put Reg.TIL_STATUS_FE_READY 1 tile)))

/-- A write of TIL_CNT_CLR clears the loss counters and TIL_SEU; OVF clears at the next read of the FIFO (R82). -/
def execTilCntClr (tile : Nat) (s : State) : Out :=
  need (decide (tile < 4)) <| s.bar (0x6003C + 0x1000 * tile) fun s =>
    let s := s.each [Reg.TIL_LOST_COUNT, Reg.TIL_IGNORED_COUNT, Reg.TIL_CONT_COUNT, Reg.TIL_BLANKED_COUNT, Reg.TIL_SEU_CORR,
      Reg.TIL_SEU_UNCORR] fun s f => s.put f 0 tile
    s.setTile tile { s.tile tile with ovfClear := true }

/-- What a read of TIL_FAIL_FIFO returns (R82). -/
def State.failWord (s : State) (t : Nat) : Nat :=
  let x := s.tile t
  boolNat x.ovf * 2 ^ 30 + match x.fails with
    | (c, f, e) :: _ => 2 ^ 31 + e * 2 ^ 16 + f * 2 ^ 12 + c
    | [] => 0

/-- A read of TIL_FAIL_FIFO returns and removes the oldest event (R82). -/
def State.failRead (s : State) (t : Nat) : State :=
  let x := s.tile t
  { s with rdata := [s.failWord t] }.setTile t { x with fails := x.fails.tail, ovf := x.ovf && !x.ovfClear, ovfClear := false }

def execFailFifoRead (tile : Nat) (s : State) : Out :=
  need (decide (tile < 4)) (s.bar (0x60028 + 0x1000 * tile) (·.failRead tile))

end Sys2Proof.Machine
end

