-- ==== Sys2Proof/Machine/Column.lean ====
section
/-! DEFINITION. Machine/Column.lean: column buses, the edge merger, the bundle and the receiver ports (chapter 3), and TIL_CTRL. -/

namespace Sys2Proof.Machine

def State.cols (s : State) (t : Nat) : Cols := s.xp.cols.getD t {}
def State.setCols (s : State) (t : Nat) (x : Cols) : State := { s with xp := { s.xp with cols := s.xp.cols.set t x } }
def State.bnd (s : State) (t : Nat) : Bundle := s.xp.bnd.getD t {}
def State.setBnd (s : State) (t : Nat) (x : Bundle) : State := { s with xp := { s.xp with bnd := s.xp.bnd.set t x } }
def Cols.get (x : Cols) (b : Nat) : ColBus := NMap.get {} x.bus b
def Cols.put (x : Cols) (b : Nat) (y : ColBus) : Cols := { x with bus := NMap.set {} x.bus b y }
def State.bus (s : State) (t b : Nat) : ColBus := (s.cols t).get b
def State.setBus (s : State) (t b : Nat) (y : ColBus) : State := s.setCols t ((s.cols t).put b y)

/-- A transport counter (R112, R113). -/
def State.xcount (s : State) (f : Fld) (t : Nat) (j : Nat := 0) (n : Nat := 1) : State := s.bump f Reg.TIL_XINT_CNT_SAT t j n t

/-- Words poisoned on the way (R92, R109). -/
def State.poisoned (s : State) (t n : Nat) : State :=
  s.cond (decide (0 < n)) fun s => (s.xcount Reg.TIL_XPOISON_COUNT t 0 n).put Reg.TIL_XINT_POISON 1 t

/-- The spare of a column's half: bus 64 is spare A, bus 65 spare B (R108). -/
def spareOf (col : Nat) : Nat := if col < 32 then 64 else 65

def State.spareUsed (s : State) (t sp : Nat) : Bool :=
  if sp = 64 then s.flag Reg.TIL_XSPARE_SPA_USED t else s.flag Reg.TIL_XSPARE_SPB_USED t

def State.spareCol (s : State) (t sp : Nat) : Nat :=
  if sp = 64 then s.get Reg.TIL_XSPARE_SPA_COL t else s.get Reg.TIL_XSPARE_SPB_COL t

/-- The column a bus serves: its own, or the one its spare has taken over. -/
def State.busCol (s : State) (t b : Nat) : Option Nat :=
  if b < 64 then some b else if s.spareUsed t b then some (s.spareCol t b) else none

/-- The bus a column's sconces offer words to: none during a switch and out of service (R109, R110). -/
def State.colBus (s : State) (t col : Nat) : Option Nat :=
  if s.colOff t col || (s.cols t).switching.contains col then none
  else if (s.bus t col).failed then
    if s.spareUsed t (spareOf col) && s.spareCol t (spareOf col) == col then some (spareOf col) else none
  else some col

/-! ## A column bus fails (R91, R109, R110) -/

/-- The oldest pending spare request is shown (R109). -/
def State.showReq (s : State) (t : Nat) : State :=
  match (s.cols t).reqs with
  | [] => s.put Reg.TIL_XSPARE_REQ_PENDING 0 t
  | (c, _) :: _ => ((s.put Reg.TIL_XSPARE_REQ_PENDING 1 t).put Reg.TIL_XSPARE_REQ_COL c t).put Reg.TIL_XINT_SPARE_REQ 1 t

/-- Everything a sconce holds for its column bus is discarded: formed words, slots that await their ToT, and the loss words of its
registers; with how many words that is. -/
def Sconce.dropWords (x : Sconce) : Sconce × Nat :=
  let n := x.ready.length + x.wait.length +
    x.loss.foldl (fun n r => n + boolNat r.out.isSome + boolNat r.acc.isSome) 0
  ({ x with ready := [], wait := [], loss := x.loss.map fun r => { r with out := none, acc := none } }, n)

/-- The words the sconces of the columns `c` selects hold are discarded and counted. -/
def State.dropSconces (s : State) (t : Nat) (c : Nat → Bool) : State :=
  let l := s.til.sc.filter fun (e : Nat × Sconce) => e.1 / 4096 == t && c (e.1 % 64)
  s.each l fun s e =>
    let (x, n) := e.2.dropWords
    (s.setSconce t (e.1 % 4096) x).xcount Reg.TIL_XDISCARD_COUNT t 0 n

/-- The words a bus holds in its stages, and in its foot when `foot`, are discarded and counted. -/
def State.dropBus (s : State) (t b : Nat) (foot : Bool) : State :=
  let y := s.bus t b
  (s.setBus t b { y with st := [], naks := [], foot := if foot then [] else y.foot }).xcount Reg.TIL_XDISCARD_COUNT t 0
    (y.st.length + if foot then y.foot.length else 0)

/-- A column whose bus failed at edge `since` is taken out of service (R110): fault 0x10, its record, its bit, its gap, and the words it
holds; a switch under way ends. -/
def State.columnOut (s : State) (t col since : Nat) : State :=
  let s := s.setCols t { s.cols t with switching := (s.cols t).switching.filter (· != col) }
  let s := if col < 32 then s.put Reg.TIL_COL_OFF0_OFF (Nat.lor (s.get Reg.TIL_COL_OFF0_OFF t) (2 ^ col)) t
    else s.put Reg.TIL_COL_OFF1_OFF (Nat.lor (s.get Reg.TIL_COL_OFF1_OFF t) (2 ^ (col - 32))) t
  let s := s.put Reg.TIL_XINT_COL_OFF 1 t
  let s := s.dropBus t col false
  let s := s.cond (s.spareUsed t (spareOf col) && s.spareCol t (spareOf col) == col) (·.dropBus t (spareOf col) false)
  let s := s.dropSconces t (· == col)
  ((s.openGap t (some col) 5 since).unitOut 2 (t * 64 + col)).fault 0x10 (t * 64 + col)

/-- The spare of a half is in use or has failed. -/
def State.spareGone (s : State) (t sp : Nat) : Bool := s.spareUsed t sp || (s.cols t).spareDead.contains sp

/-- The switch of a failed column to its spare begins (R109). -/
def State.beginSwitch (s : State) (t col : Nat) : State :=
  let x := s.cols t
  let s := s.setCols t { x with switching := x.switching ++ [col] }
  if col < 32 then (s.put Reg.TIL_XSPARE_SPA_USED 1 t).put Reg.TIL_XSPARE_SPA_COL col t
  else (s.put Reg.TIL_XSPARE_SPB_USED 1 t).put Reg.TIL_XSPARE_SPB_COL col t

/-- A column bus has failed: its switch begins, it is requested, or the column goes out of service (R109, R110). -/
def State.busFails (s : State) (t b : Nat) : State :=
  let y := s.bus t b
  if y.failed then s
  else
    let s := s.setBus t b { y with failed := true }
    if 64 ≤ b then
      let x := s.cols t
      let s := s.setCols t { x with spareDead := x.spareDead ++ [b] }
      match s.busCol t b with
      | some col => s.columnOut t col s.dtRef
      | none => s
    else if s.spareGone t (spareOf b) then s.columnOut t b s.dtRef
    else if s.flag Reg.TIL_XCTRL_SPARE_AUTO t then s.beginSwitch t b
    else
      let x := s.cols t
      let s := s.setCols t { x with reqs := x.reqs ++ [(b, s.dtRef)] }
      if x.reqs = [] then s.showReq t else s

/-- The oldest request is answered (R109). -/
def State.answerReq (s : State) (t : Nat) (approve : Bool) : State :=
  match (s.cols t).reqs with
  | [] => s
  | (col, since) :: l =>
    let s := s.setCols t { s.cols t with reqs := l }
    let s := if approve && !s.spareGone t (spareOf col) then s.beginSwitch t col else s.columnOut t col since
    s.showReq t

/-! ## Column bus (R86 to R90) -/

/-- The sconce row an upstream word comes from. -/
def wordRow (w : TWord) : Nat := bits w.data 56 6

/-- Even parity over the low `n` bits: whether they hold an odd number of ones (R87). -/
def oddOnes (n v : Nat) : Bool := (List.range n).foldl (fun b i => b != bit v i) false

/-- The 67 wires of a word: DATA, LOSS, POISON and PAR (R87). -/
def TWord.wires (w : TWord) : Nat :=
  let v := w.data % 2 ^ 64 + boolNat w.loss * 2 ^ 64 + boolNat w.poison * 2 ^ 65
  v + boolNat (oddOnes 66 v) * 2 ^ 66

/-- The word that 67 wires carry; what a receiver finds when bits of `flips` were inverted on the way is `wordOn (w.wires ^^^ flips)`. -/
def wordOn (v : Nat) : TWord := { data := v % 2 ^ 64, loss := bit v 64, poison := bit v 65 }

/-- A word read with the bits of `flips` inverted, where no copy is left: with bad parity it goes on poisoned, its parity recomputed, and
is counted (R92, R109). -/
def TWord.readWith (w : TWord) (flips : Nat) : TWord × Bool :=
  let v := Nat.xor w.wires (flips % 2 ^ 67)
  if oddOnes 67 v then ({ wordOn v with poison := true }, true) else (wordOn v, false)

/-- The word at `src` of receiver `recv` of a bus that serves column `col` (R86). -/
def State.srcWord (s : State) (t b recv col : Nat) (src : HopSrc) : Option TWord :=
  match src with
  | .up => NMap.get none (s.bus t b).st recv
  | src => s.scWord t ((recv - 1) * 64 + col) src

/-- What the sender of a hop drives: receiver 0 is the foot, receiver j + 1 stage j, which grants between its own sconce and the stage
above it (R90); a word that was answered NAK runs again (R88). -/
def State.hopSrc (s : State) (t b recv : Nat) : Option HopSrc :=
  let y := s.bus t b
  match NMap.get none y.naks recv with
  | some (src, _) => some src
  | none =>
    let up := NMap.get none y.st recv
    let loc := match s.busCol t b with
      | some col => if 0 < recv ∧ s.colBus t col = some b then (s.sconce t ((recv - 1) * 64 + col)).offers else none
      | none => none
    match loc, up with
    | none, none => none
    | some l, none => some l
    | none, some _ => some .up
    | some l, some u => if (NMap.get [] y.rows (recv - 1)).contains (wordRow u) then some l else some .up

/-- A hop of a column bus, whose wires reach the receiver with the bits of `flips` inverted: the receiver latches the word and answers ACK,
or finds bad parity and answers NAK (R88, R91). -/
def execColumnBusHop (tile bus recv flips : Nat) (s : State) : Out :=
  need (decide (tile < 4) && decide (bus < 66) && decide (recv < 65)) <|
    let y := s.bus tile bus
    let room := if recv = 0 then decide (y.foot.length < 16) else (NMap.get none y.st (recv - 1)).isNone
    match s.busCol tile bus, s.hopSrc tile bus recv with
    | some col, some src =>
      match s.srcWord tile bus recv col src with
      | none => s
      | some w =>
      let v := Nat.xor w.wires (flips % 2 ^ 67)
      if !room || y.failed then s
      else if oddOnes 67 v then
        let n := ((NMap.get none y.naks recv).map (·.2)).getD 0 + 1
        let s := s.setBus tile bus { y with naks := NMap.set none y.naks recv (some (src, n)) }
        let s := s.xcount Reg.TIL_COL_NAK_COUNT tile col
        if atLeastOne (s.get Reg.TIL_XCTRL_NAK_LIMIT tile) ≤ n then s.busFails tile bus else s
      else
        let w := wordOn v
        let y := { y with naks := NMap.set none y.naks recv none }
        if recv = 0 then
          (s.setBus tile bus { y with st := NMap.set none y.st 0 none, foot := y.foot ++ [w] }).xcount Reg.TIL_COL_WORDS_COUNT tile col
        else
          let j := recv - 1
          if src ≠ .up then
            let y := { y with st := NMap.set none y.st j (some w), rows := NMap.set [] y.rows j [] }
            (s.setBus tile bus y).scTaken tile (j * 64 + col) src
          else
            let r := wordRow w
            let old := NMap.get [] y.rows j
            let y := { y with
              st := NMap.set none (NMap.set none y.st (j + 1) none) j (some w)
              rows := NMap.set [] y.rows j (if old.contains r then old else old ++ [r]) }
            s.setBus tile bus y
    | _, _ => s

/-- A stage holds REQ_IN high for 16 ref without an answer: its bus has failed (R109). -/
def execColumnStallTimeout (tile bus : Nat) (s : State) : Out :=
  need (decide (tile < 4) && decide (bus < 66)) (s.busFails tile bus)

/-- The bits inverted at place `i` of a list of places. -/
def flipsAt (l : List (Nat × Nat)) (i : Nat) : Nat := ((l.find? fun e => e.1 == i).map (·.2)).getD 0

/-- The spare switch completes: each stage has passed its word to the spare stage beside it, with the bits of `flips` inverted on the way,
poisoned where the lateral parity fails, and the sconces resume (R109). The spare's stages take over the sets of rows that the failed bus's
stages keep (DESIGN CHOICE, log entry 173). -/
def execSpareSwitchDone (tile col : Nat) (flips : List (Nat × Nat)) (s : State) : Out :=
  need (decide (tile < 4) && decide (col < 64)) <|
    let x := s.cols tile
    if !x.switching.contains col then s
    else
      let y := x.get col
      let sp := spareOf col
      let z := x.get sp
      let lat : NMap (Option TWord) := y.st.map fun (e : Nat × Option TWord) => (e.1, e.2.map fun w => (w.readWith (flipsAt flips e.1)).1)
      let n := (y.st.filter fun (e : Nat × Option TWord) => e.2.any fun w => (w.readWith (flipsAt flips e.1)).2).length
      let x := (x.put col { y with st := [], naks := [], rows := [] }).put sp { z with st := lat, rows := y.rows }
      let s := (s.setCols tile { x with switching := x.switching.filter (· != col) }).poisoned tile n
      ((s.put Reg.TIL_XINT_COL_SPARED 1 tile).unitOut 2 (tile * 64 + col)).bringSpare 2 (tile * 64 + col)
        (boolNat (!s.spareGone tile 64) + boolNat (!s.spareGone tile 65))

/-- A write of TIL_XSPARE_CMD that acts as APPROVE (R109). -/
def execSpareApprove (tile val : Nat) (s : State) : Out :=
  need (decide (tile < 4) && (bit val 0 && !bit val 1)) (s.bar (0x60088 + 0x1000 * tile) (·.answerReq tile true))

/-- A write of TIL_XSPARE_CMD with DECLINE (R109). -/
def execSpareDecline (tile val : Nat) (s : State) : Out :=
  need (decide (tile < 4) && bit val 1) (s.bar (0x60088 + 0x1000 * tile) (·.answerReq tile false))

/-- The oldest request has gone 2^20 ref without an answer since its column failed: the tile declines it (R109). -/
def execSpareRequestTimeout (tile : Nat) (s : State) : Out :=
  need (decide (tile < 4)) <|
    match (s.cols tile).reqs with
    | [] => s
    | (_, since) :: _ => (s.advanceTo (since + 2 ^ 20)).answerReq tile false

/-! ## Edge merger and bundle (R92 to R101) -/

/-- A word in its slot of a flit (R95). -/
def flitSlot (w : TWord) : Nat := w.data % 2 ^ 64 * 16 + 8 + boolNat w.loss * 4 + boolNat w.poison * 2

/-- The valid words of a flit. -/
def flitWords (f : Nat) : List TWord :=
  ((List.range 4).map fun i => bits f (68 * i) 68).filterMap fun v =>
    if bit v 3 then some { data := bits v 4 64, loss := bit v 2, poison := bit v 1 } else none

def flitSeq (f : Nat) : Nat := bits f 272 8

/-- A flit of up to four words with its SEQ and CRC (R95). -/
def flitOf (l : List TWord) (seq : Nat) : Nat :=
  let body := l.zipIdx.foldl (fun v x => v + flitSlot x.1 * 2 ^ (68 * x.2)) 0 + seq % 256 * 2 ^ 272
  body + crc16 280 body * 2 ^ 280

def flitCrcOk (f : Nat) : Bool := crc16 280 (f % 2 ^ 280) == bits f 280 16

/-- The feet the merger may read, in rotating order after the last one it served: a spare's foot waits until the failed bus's own
foot is empty (R93, R109). -/
def State.feet (s : State) (t : Nat) : List Nat :=
  let b := s.bnd t
  ((List.range 66).map fun i => (b.lastFoot + 1 + i) % 66).filter fun f =>
    (s.bus t f).foot != [] &&
    (decide (f < 64) || (match s.busCol t f with | some c => (s.bus t c).foot == [] | none => true))

/-- Once its last flit has left, the merger forms the next of up to four words, at most one from a foot; a word whose bits in `flips`, by
foot, were inverted is passed on poisoned where its parity is bad (R92, R93, R106). -/
def execFlitForm (tile : Nat) (flips : List (Nat × Nat)) (s : State) : Out :=
  need (decide (tile < 4)) <|
    let b := s.bnd tile
    let fs := (s.feet tile).take 4
    if fs = [] ∨ b.formed ≠ [] then s
    else
      let ws := fs.filterMap fun f => (s.bus tile f).foot.head?.map fun w => w.readWith (flipsAt flips f)
      let s := (s.each fs fun s f => s.setBus tile f { s.bus tile f with foot := (s.bus tile f).foot.tail }).poisoned tile
        (ws.filter (·.2)).length
      s.setBnd tile { b with formed := ws.map (·.1), lastFoot := fs.getLastD b.lastFoot }

/-- Flits the receiver holds, checked or not (R102). -/
def Bundle.buffered (b : Bundle) : Nat := b.latched.length + b.words.length

/-- The 592 data vias that carry a flit: digit i of two bits drives one of the vias 4i to 4i + 3 (R96). -/
def flitVias (f : Nat) : Nat := (List.range 148).foldl (fun v i => v + 2 ^ (4 * i + bits f (2 * i) 2)) 0

/-- The digit that a group of four vias carries: the index of the one that is high (R96). -/
def viaDigit (g : Nat) : Nat := if g = 2 then 1 else if g = 4 then 2 else if g = 8 then 3 else 0

/-- The flit on the data vias, once every digit is complete (R96, R97). -/
def viasFlit (v : Nat) : Nat := (List.range 148).foldl (fun f i => f + viaDigit (bits v (4 * i) 4) * 4 ^ i) 0

/-- A flit crosses the bundle on its vias and is latched: the oldest to be sent again, which is counted, or else the merger's, while the
transmitter holds fewer than 16 unanswered ones; the receiver takes it only while it holds fewer than 32 (R96 to R98, R102). -/
def execFlitTransfer (tile : Nat) (s : State) : Out :=
  need (decide (tile < 4)) <|
    let b := s.bnd tile
    let got (f : Nat) : List Latched := b.latched ++ [{ flit := viasFlit (flitVias f), gen := b.gen }]
    if 32 ≤ b.buffered ∨ s.get Reg.TIL_BND_STATUS_STATE tile = 3 ∨ b.test = true then s
    else
      match b.held[b.sent]? with
      | some f => (s.xcount Reg.TIL_BND_REPLAY_COUNT tile).setBnd tile { b with latched := got f, sent := b.sent + 1 }
      | none =>
        if b.formed = [] ∨ 16 ≤ b.held.length then s
        else
          let f := flitOf b.formed b.seq
          s.setBnd tile { b with latched := got f, held := b.held ++ [f], sent := b.sent + 1, seq := (b.seq + 1) % 256, formed := [] }

/-- The bundle faults (R101): link state HALT, the tile gated, a gap open, fault 0x07. -/
def State.bundleFault (s : State) (t : Nat) : State :=
  if s.get Reg.TIL_BND_STATUS_STATE t = 3 then s
  else
    let b := s.bnd t
    let s := (s.closeNext t).setBnd t { b with
      link := .halt, latched := [], tokens := [], due := false, test := false, owed := true, gap := true, waitFrom := none }
    let s := (s.put Reg.TIL_BND_STATUS_STATE 3 t).put Reg.TIL_XINT_BND_FAULT 1 t
    (s.cond (!b.gap) (·.openGap t none 6 s.dtRef)).fault 7 t

/-- The receiver checks the oldest latched flit, which arrived with the bits of `flips` inverted: CHK_OK when its CRC and SEQ are
right, else CHK_NAK; the flits sent after it are discarded until it comes again (R98, R99, R101). A failure starts the tile wait anew, and
a pass ends it (R504). -/
def execFlitCheck (tile flips : Nat) (s : State) : Out :=
  need (decide (tile < 4)) <|
    let b := s.bnd tile
    match b.latched with
    | [] => s
    | l :: rest =>
      let b := { b with latched := rest }
      if b.skip = some l.gen then s.setBnd tile b
      else
        let f := Nat.xor l.flit (flips % 2 ^ 296)
        if flitCrcOk f && flitSeq f == (s.get Reg.TIL_BND_STATUS_LAST_SEQ tile + 1) % 256 then
          let ws := flitWords f
          let words := if ws = [] then b.words else b.words ++ [ws]
          let s := s.setBnd tile { b with tokens := b.tokens ++ [true], fails := 0, skip := none, due := false, words := words, gap := false
                                          waitFrom := none
                                          since := if b.words = [] then s.dtRef else b.since }
          let s := (s.put Reg.TIL_BND_STATUS_LAST_SEQ (flitSeq f) tile).put Reg.TIL_BND_STATUS_STATE 1 tile
          s.cond b.gap (·.closeGap tile 6)
        else
          let n := b.fails + 1
          let s := s.setBnd tile { b with tokens := b.tokens ++ [false], fails := n, skip := some l.gen, due := n % 3 == 0
                                          waitFrom := some s.dtRef }
          let s := s.put Reg.TIL_BND_STATUS_STATE 2 tile
          if 8 ≤ n then s.bundleFault tile else s

/-- CHK_OK reaches the transmitter, which releases the oldest unanswered flit (R98). -/
def Bundle.chkOk (b : Bundle) : Bundle :=
  { b with tokens := b.tokens.tail, held := b.held.tail, sent := b.sent - 1 }

/-- The transmitter is to send every flit it holds again, from the oldest (R98, R99). -/
def Bundle.resend (b : Bundle) : Bundle := { b with sent := 0, gen := b.gen + 1 }

def execChkOk (tile : Nat) (s : State) : Out :=
  need (decide (tile < 4)) <|
    let b := s.bnd tile
    match b.tokens with
    | true :: _ => s.setBnd tile b.chkOk
    | _ => s

/-- CHK_NAK reaches the transmitter (R98). -/
def execChkNak (tile : Nat) (s : State) : Out :=
  need (decide (tile < 4)) <|
    let b := s.bnd tile
    match b.tokens with
    | false :: l => s.setBnd tile ({ b with tokens := l }).resend
    | _ => s

/-- The third failure of a flit in a row, or a digit that stays incomplete for 16 ref (`stuck`), starts a via test (R99): answers
under way arrive, and flits not yet checked will be sent again. -/
def execViaTestStart (tile : Nat) (stuck : Bool) (s : State) : Out :=
  need (decide (tile < 4)) <|
    let b := s.bnd tile
    if b.test = true ∨ s.get Reg.TIL_BND_STATUS_STATE tile = 3 ∨ (b.due = false ∧ stuck = false) then s
    else
      let b := b.tokens.foldl (fun b t => if t then b.chkOk else { b with tokens := b.tokens.tail }) b
      (s.setBnd tile { b with link := .test, latched := [], due := false, test := true, waitFrom := some s.dtRef }).put Reg.TIL_BND_STATUS_STATE 2 tile

/-- Spare vias of the hit bundle in use and left (R99). -/
def State.showVias (s : State) (t : Nat) : State :=
  (s.put Reg.TIL_BND_STATUS_VIA_USED (s.viasUsed 3 t) t).put Reg.TIL_BND_STATUS_VIA_LEFT (viaSpares 3 - s.viasUsed 3 t) t

/-- The via test ends with `failed` vias found: each takes a spare under link state SWITCH, or the bundle faults when one finds none left; the
transmitter resends, and the link runs (R99, R101). A test that a fault's clearing owed lets the first calibration begin at the next reference
edge (R75, R101). -/
def execViaTestEnd (tile failed : Nat) (s : State) : Out :=
  need (decide (tile < 4)) <|
    let b := s.bnd tile
    if !b.test then s
    else
      let n := min failed (viaSpares 3 - s.viasUsed 3 tile)
      let s := (s.viaSpare 3 tile n).showVias tile
      let s := s.cond (decide (0 < n)) (·.put Reg.TIL_XINT_VIA_SPARED 1 tile)
      if n < failed then (s.setBnd tile { b with link := .halt, test := false, owed := true }).bundleFault tile
      else
        let s := s.setBnd tile { b.resend with link := .run, test := false, owed := false }
        let s := s.put Reg.TIL_BND_STATUS_STATE (if b.fails = 0 then 1 else 2) tile
        s.cond (b.owed && s.flag Reg.TIL_CTRL_EN tile) fun s => s.setTile tile { s.tile tile with firstDue := some (s.dtRef + 1) }

/-- The limit of the tile wait in ref: GEN_FP_TILE, or the bundle's maximum retry time of 4.0 us * k(V,T) where that is longer (R100, R504). -/
def State.tileWait (s : State) : Nat := ceilDiv (250 * max (s.get Reg.GEN_FP_TILE_US * 4096) (4 * s.get Reg.GEN_KVT_K)) 4096

/-- The tile wait expires: fault 0x07 with the actions of a bundle fault (R504). -/
def execTileWaitExpire (tile : Nat) (s : State) : Out :=
  need (decide (tile < 4)) <|
    match (s.bnd tile).waitFrom with
    | some d => s.cond (s.get Reg.TIL_BND_STATUS_STATE tile == 2) fun s => (s.advanceTo (d + s.tileWait)).bundleFault tile
    | none => s

/-! ## The receiver port (R102, R103, R154) -/

/-- The word offered at a port. -/
def Bundle.offer (b : Bundle) : Option TWord := (b.words.head?.bind List.head?)

/-- The word at the port has left it. -/
def Bundle.drop (b : Bundle) (now : Nat) : Bundle :=
  let words := match b.words with
    | (_ :: w :: l) :: r => (w :: l) :: r
    | _ :: r => r
    | [] => []
  { b with words := words, since := now }

/-- The leading time of a word, in ref (R103). -/
def State.leadOf (s : State) (w : TWord) : Nat := resolveEpoch (epochOf s.dtRef) (bits w.data 3 1) * 2 ^ 21 + bits w.data 23 21

/-- The drain ends, and its gap is handed on (R103). -/
def State.endDrain (s : State) (t : Nat) : State :=
  let b := s.bnd t
  let s := s.setBnd t { b with drain := false, drained := none }
  match b.drained with
  | none => s
  | some (a, z, n) => s.transportGap t none 7 a (z + 1) false n

/-- The crossbar takes the word at a port once every destination accepts it (R102); a draining port discards a word that is not
accepted at once (R103). `bad`: the word arrives with bad parity, which a cluster engine refuses three times (R154), and for which
the receiver offers it again from its copy; `errs` as in `route`. -/
def execCrossbarTakeWord (tile : Nat) (bad : Bool) (errs : List Nat) (s : State) : Out :=
  need (decide (tile < 4)) <|
    let b := s.bnd tile
    match b.offer with
    | none => s
    | some w =>
      let n := s.evt.refused.getD tile 0
      let tries (s : State) (n : Nat) : State := { s with evt := { s.evt with refused := s.evt.refused.set tile n } }
      if !s.accepts tile w then
        if !b.drain then s
        else
          let l := s.leadOf w
          let d := match b.drained with
            | none => (l, l, 1)
            | some (a, z, n) => (min a l, max z l, n + 1)
          (tries (s.setBnd tile { b.drop s.dtRef with drained := some d }) 0).xcount Reg.TIL_BND_DRAIN_COUNT tile
      else if bad && s.clustered tile w && decide (n < 3) then tries s (n + 1)
      else
        let w := if bad && s.clustered tile w then { w with poison := true } else w
        let s := tries (s.setBnd tile (b.drop s.dtRef)) 0
        (s.cond b.drain (·.endDrain tile)).route tile w errs

/-- A word has waited 2^21 ref at a port, which begins to drain (R103). -/
def execReceiverDrainStart (tile : Nat) (s : State) : Out :=
  need (decide (tile < 4)) <|
    let b := s.bnd tile
    if b.words = [] ∨ b.drain = true then s
    else (((s.advanceTo (b.since + 2 ^ 21)).setBnd tile { b with drain := true }).put Reg.TIL_XINT_STALE_DRAIN 1 tile)

/-- A write of TIL_XCNT_CLR clears the transport counters of the tile (R113). -/
def execTilXcntClr (tile : Nat) (s : State) : Out :=
  need (decide (tile < 4)) <| s.bar (0x600C8 + 0x1000 * tile) fun s =>
    let s := s.each (List.range 64) fun s c => s.each
      [Reg.TIL_COL_WORDS_COUNT, Reg.TIL_COL_FULL_COUNT, Reg.TIL_COL_STALL_COUNT, Reg.TIL_COL_NAK_COUNT] fun s f => s.put f 0 tile c
    s.each [Reg.TIL_MRG_STALL_COUNT, Reg.TIL_BND_REPLAY_COUNT, Reg.TIL_XPOISON_COUNT, Reg.TIL_BND_DRAIN_COUNT,
      Reg.TIL_XDISCARD_COUNT] fun s f => s.put f 0 tile

/-! ## TIL_CTRL (R75, R78, R101, R239) -/

/-- A write of EN = 0 in a bundle fault: the words held in the tile and the flits the transmitter holds are discarded, and their sequence
numbers are used again (R101). -/
def State.clearBundle (s : State) (t : Nat) : State :=
  if s.get Reg.TIL_BND_STATUS_STATE t = 3 then
    let old := s.get Reg.TIL_XDISCARD_COUNT t
    let s := s.dropSconces t fun _ => true
    let s := s.each (List.range 66) fun s b => s.dropBus t b true
    let b := s.bnd t
    let n := b.held.foldl (fun n f => n + (flitWords f).length) b.formed.length
    let s := s.xcount Reg.TIL_XDISCARD_COUNT t 0 n
    let lost := s.get Reg.TIL_XDISCARD_COUNT t - old
    let s := { s with evt := { s.evt with gaps := s.evt.gaps.map fun (g : OpenGap) =>
      if g.tile = t ∧ g.kind = 6 then { g with lost := g.lost + lost } else g } }
    s.setBnd t { b with
      held := [], formed := [], sent := 0, latched := [], tokens := [], fails := 0, skip := none, due := false, test := false
      seq := (s.get Reg.TIL_BND_STATUS_LAST_SEQ t + 1) % 256 }
  else s

/-- EN rises: the via test a fault owes, or else the first calibration, is to begin; refused for a port that does not carry the
tile's mode (R239) and for a tile without a spare via (R513). -/
def State.tileEnable (s : State) (t : Nat) : State :=
  let port := s.topo.port.getD t 0
  if (if s.flag Reg.TIL_FRM_CTRL_MODE t then !bit port 3 else !bit port 0) || s.sys.viaDead.contains t then
    s.put Reg.TIL_INT_REFUSED 1 t
  else
    let s := (s.accrue s.dtRef).put Reg.TIL_CTRL_EN 1 t
    let b := s.bnd t
    if b.owed then s.setBnd t { b with link := .test, test := true }
    else s.setTile t { s.tile t with firstDue := some (s.dtRef + 1) }

/-- A write of TIL_CTRL, whose fields are judged by the state before it (R78, R552). -/
def State.tilCtrl (s : State) (t v : Nat) : State :=
  let en := s.flag Reg.TIL_CTRL_EN t
  let s := s.writeLocked Reg.TIL_CTRL_FE_ON en (bits v 1 1) Reg.TIL_INT_REFUSED t 0 t
  let s := s.cond (!s.flag Reg.TIL_CTRL_FE_ON t) (·.regate t (·.put Reg.TIL_STATUS_FE_READY 0 t))
  let s := s.put Reg.TIL_CTRL_TP_ARM (bits v 2 1) t
  if bit v 0 then (if en then s else s.tileEnable t)
  else
    let s := s.cond en fun s =>
      let s := (s.accrue s.dtRef).closeNext t
      (s.put Reg.TIL_CTRL_EN 0 t).setTile t { s.tile t with firstDue := none }
    s.clearBundle t

/-- A write of TIL_CTRL with EN = 1 (R75). -/
def execTileEnable (tile val : Nat) (s : State) : Out :=
  need (decide (tile < 4) && bit val 0) (s.bar (0x60000 + 0x1000 * tile) (·.tilCtrl tile val))

/-- A write of TIL_CTRL with EN = 0 while EN is 1 (R78, R101). -/
def execTileDisable (tile val : Nat) (s : State) : Out :=
  need (decide (tile < 4) && !bit val 0) (s.bar (0x60000 + 0x1000 * tile) (·.tilCtrl tile val))

/-- A write of TIL_CTRL that powers the front ends up or down (R78). -/
def execFePowerWrite (tile val : Nat) (s : State) : Out :=
  need (decide (tile < 4)) (s.bar (0x60000 + 0x1000 * tile) (·.tilCtrl tile val))

end Sys2Proof.Machine
end

