-- ==== Sys2Proof/Machine/Saf.lean ====
section
/-! DEFINITION. Machine/Saf.lean: the safety block and the Snuffer layer (chapter 12). -/

namespace Sys2Proof.Machine

def State.setSaf (s : State) (x : Saf) : State := { s with saf := x }
def State.safIn (s : State) (n : Nat) : SafIn := s.saf.ins.getD n {}
def State.safOut (s : State) (k : Nat) : SafOut := s.saf.outs.getD k {}
def State.safConn (s : State) (c : Nat) : SafConn := s.saf.conn.getD c {}
def State.setSafIn (s : State) (n : Nat) (x : SafIn) : State := s.setSaf { s.saf with ins := s.saf.ins.set n x }
def State.setSafOut (s : State) (k : Nat) (x : SafOut) : State := s.setSaf { s.saf with outs := s.saf.outs.set k x }
def State.setSafConn (s : State) (c : Nat) (x : SafConn) : State := s.setSaf { s.saf with conn := s.saf.conn.set c x }
def State.scount (s : State) (f : Fld) (i : Nat := 0) (j : Nat := 0) (n : Nat := 1) : State := s.bump f Reg.SAF_INT_CNT_SAT i j n

/-- Both channels run: they have loaded their records, and no boundary-scan instruction stops them (R36, R367). -/
def State.safRuns (s : State) : Bool := s.saf.runs && !s.scanning

/-- A safe output is on (R336, R346). -/
def State.safeOn (s : State) (k : Nat) : Bool := (s.safOut k).on && !s.scanning

/-- The pins of a safe output as they are driven: outside their off-pulses, while it is on (R346, R356, R367). -/
def State.safPin (s : State) (k : Nat) (b : Bool) : Bool :=
  let x := s.safOut k
  s.safeOn k && (if b then x.b else x.a).pulse.isNone

/-! ## What the registers show (R370) -/

def safInShow : List (Fld × Fld × Fld) :=
  [(Reg.SAF_IN_STATE_STATE0, Reg.SAF_IN_STATE_A0, Reg.SAF_IN_STATE_B0), (Reg.SAF_IN_STATE_STATE1, Reg.SAF_IN_STATE_A1, Reg.SAF_IN_STATE_B1),
   (Reg.SAF_IN_STATE_STATE2, Reg.SAF_IN_STATE_A2, Reg.SAF_IN_STATE_B2), (Reg.SAF_IN_STATE_STATE3, Reg.SAF_IN_STATE_A3, Reg.SAF_IN_STATE_B3)]
def safOutShow : List (Fld × Fld × Fld × Fld) :=
  [(Reg.SAF_OUT_STATE_A0, Reg.SAF_OUT_STATE_B0, Reg.SAF_OUT_STATE_PERMIT0, Reg.SAF_OUT_STATE_WAIT_ACK0),
   (Reg.SAF_OUT_STATE_A1, Reg.SAF_OUT_STATE_B1, Reg.SAF_OUT_STATE_PERMIT1, Reg.SAF_OUT_STATE_WAIT_ACK1)]

/-- A mask of the members of a list for which `f` holds. -/
def maskOf (n : Nat) (f : Nat → Bool) : Nat := (List.range n).foldl (fun m i => m + (if f i then 2 ^ i else 0)) 0

/-- Something is latched. -/
def State.safFaulted (s : State) : Bool :=
  s.saf.internal != [] || s.saf.ins.any (fun x => x.faults != []) || s.saf.outs.any (fun x => x.faults != []) ||
  s.saf.conn.any (·.fault)

/-- A connection's state (R370). -/
def State.connState (s : State) (c : Nat) : Nat :=
  if !s.flag Reg.SAF_CFG_CONN_EN c || !s.safRuns then 0
  else if (s.safConn c).fault then 3
  else if s.flag Reg.SAF_CFG_CONN_DIR c || (s.safConn c).valid then 2
  else 1

/-- SAF_CONN_STATE, and SAF_INT.CONN where it changes. -/
def State.showConns (s : State) : State :=
  s.each (List.range 8) fun s c =>
    let v := s.connState c
    if v = s.get Reg.SAF_CONN_STATE_STATE 0 c then s
    else (s.put Reg.SAF_CONN_STATE_STATE v 0 c).put Reg.SAF_INT_CONN 1

/-! ## The function of an output (R354) -/

/-- A consumer's DATA bit as it counts (R362). -/
def State.connBit (s : State) (c b : Nat) : Bool :=
  let x := s.safConn c
  s.flag Reg.SAF_CFG_CONN_EN c && x.valid && !x.fault && bit x.data b

/-- The function of output `k` is permissive (R354). -/
def State.safPermits (s : State) (k : Nat) : Bool :=
  s.get Reg.SAF_STATUS_STATE == 1 && s.safRuns && s.saf.internal == [] && s.flag Reg.SAF_CFG_OUT_EN k && bit (s.get Reg.SAF_REQ_ON) k &&
  ((List.range 4).all fun n => !bit (s.get Reg.SAF_CFG_OUT_INMASK k) n || ((s.safIn n).st == 1 && (s.safIn n).faults == [])) &&
  ((List.range 8).all fun c => !bit (s.get Reg.SAF_CFG_OUT_CONNMASK k) c || s.connBit c (s.get Reg.SAF_CFG_OUT_RBIT k)) &&
  (s.safOut k).faults == []

/-- The status registers show the block. -/
def State.safShow (s : State) : State :=
  let s := s.each (List.range 4) fun s n =>
    match safInShow[n]? with
    | none => s
    | some (f, a, b) => ((s.put f (s.safIn n).st).putB a (s.safIn n).a.acc).putB b (s.safIn n).b.acc
  let s := s.each [0, 1] fun s k =>
    match safOutShow[k]? with
    | none => s
    | some (a, b, p, w) =>
      let x := s.safOut k
      (((s.putB a (s.safPin k false)).putB b (s.safPin k true)).putB p (s.safPermits k)).putB w (x.wait && !x.on)
  let s := s.put Reg.SAF_FAULT_IN (maskOf 4 fun n => (s.safIn n).faults != [])
  let s := s.put Reg.SAF_FAULT_OUT (maskOf 2 fun k => (s.safOut k).faults != [])
  let s := s.put Reg.SAF_FAULT_CONN (maskOf 8 fun c => (s.safConn c).fault)
  let s := s.putB Reg.SAF_FAULT_INTERNAL (s.saf.internal != [])
  let s := if s.safFaulted then s
    else ((s.put Reg.SAF_FAULT_INFO_CODE 0).put Reg.SAF_FAULT_INFO_IDX 0).put Reg.SAF_FAULT_INFO_STROBE 0
  s.showConns

/-- An output switches off: it waits for an acknowledgement unless RESTART is automatic (R354, R355). -/
def State.safOff (s : State) (k : Nat) : State :=
  let x := s.safOut k
  if x.on then
    s.setSafOut k { x with on := false, wait := !s.flag Reg.SAF_CFG_OUT_RESTART k
                           a := {}, b := {} }
  else s

/-- Outputs whose function is not permissive are switched off. -/
def State.safTrip (s : State) : State := s.each [0, 1] fun s k => s.cond (!s.safPermits k) (·.safOff k)

/-- One fault enters the latches of its unit; an input that leaves PERMIT for FAULT owes a common demand (R352). -/
def State.latchOne (s : State) (code idx : Nat) : State :=
  let fresh (x : SafCh) : SafCh := { x with passed := false }
  if code ≤ 3 then
    let x := s.safIn idx
    s.setSafIn idx { x with faults := code :: x.faults.filter (· != code), st := 3, a := fresh x.a, b := fresh x.b, seen := x.seen && x.st != 1 }
  else if code ≤ 5 then
    let x := s.safOut idx
    s.setSafOut idx { x with faults := code :: x.faults.filter (· != code), offSeen := false }
  else if code = 6 then s.setSafConn idx { s.safConn idx with fault := true }
  else
    let s := s.setSaf { s.saf with internal := code :: s.saf.internal.filter (· != code), tp := [none, none] }
    s.put Reg.SAF_STATUS_STATE (if code = 9 then 0 else 2)

/-- The fault is latched already. -/
def State.latched (s : State) (code idx : Nat) : Bool :=
  if code ≤ 3 then (s.safIn idx).faults.contains code
  else if code ≤ 5 then (s.safOut idx).faults.contains code
  else if code = 6 then (s.safConn idx).fault
  else s.saf.internal.contains code

/-- Faults latch: SAF_FAULT_INFO takes the lowest code when none was latched, and each is a fault of the module (R357, R499). At a strobe, or
where channel B acts without one (`now`), they switch off the outputs in their scopes at once, else at the next strobe (R347, R354, R357). -/
def State.safLatch (s : State) (l : List (Nat × Nat)) (now : Bool := true) : State :=
  let l := (l.filter fun f => !s.latched f.1 f.2).mergeSort fun a b => a.1 ≤ b.1
  let s := match l with
    | [] => s
    | f :: _ =>
      if s.safFaulted then s
      else ((s.put Reg.SAF_FAULT_INFO_CODE f.1).put Reg.SAF_FAULT_INFO_IDX f.2).put Reg.SAF_FAULT_INFO_STROBE
        (s.at_ / 50000)
  let s := s.each l fun s f => (s.latchOne f.1 f.2).put Reg.SAF_INT_FAULT 1
  let s := (s.cond now (·.safTrip)).safShow
  s.each l fun s f => if 7 ≤ f.1 then s.fault 9 f.1 else s.fault 0xC (f.1 * 256 + f.2)

/-! ## Inputs (R348 to R353) -/

/-- Strobes of an off-pulse of a test-pulse output. -/
def State.tpw (s : State) : Nat := s.get Reg.SAF_CFG_TP_TPW

/-- The pulse named by a feed code: 0b01 TP0, 0b10 TP1. -/
def State.feed (s : State) (code : Nat) : Option Nat :=
  (if code = 1 then s.saf.tp.getD 0 none else if code = 2 then s.saf.tp.getD 1 none else none).map (·.1)

/-- A channel at a strobe reads `raw`: what it accepts, and what its checks show. `own` and `oth` count the strobes since its own feed pulse and
the other one began (R348 to R350). -/
def SafCh.sample (x : SafCh) (raw : Bool) (own oth : Option Nat) (w : Nat) : SafCh × Bool × Bool :=
  let masked := match own with | some n => decide (1 ≤ n) && decide (n ≤ w + 2) | none => false
  let smp := if masked then x.acc else raw
  let acc := if smp == x.last then smp else x.acc
  let inCheck (o : Option Nat) : Bool := match o with | some n => decide (2 ≤ n) && decide (n + 1 ≤ w) | none => false
  let x : SafCh := { x with acc := acc, last := smp, lowOwn := x.lowOwn || (inCheck own && !raw), lowOther := x.lowOther || (inCheck oth && !raw) }
  let ends := own == some w && x.prevOwn
  let missing := ends && !x.lowOwn
  let x : SafCh := { x with passed := x.passed || (ends && x.lowOwn) }
  let cross := oth == some (w + 1) && x.highOther && x.lowOther && raw
  (x, missing, cross)

/-- A safe input at a strobe: its channels sample `ra` and `rb`, and it moves among its states; the faults it raises (R350 to R353). -/
def State.safSample (s : State) (n : Nat) (ra rb : Bool) : State × List (Nat × Nat) :=
  let ty := s.get Reg.SAF_CFG_IN_TYPE n
  let x := s.safIn n
  let ta := s.get Reg.SAF_CFG_IN_TPA n
  let tb := s.get Reg.SAF_CFG_IN_TPB n
  let (a, missA, crossA) := x.a.sample ra (s.feed ta) (s.feed (3 - ta)) s.tpw
  let (b, missB, crossB) := x.b.sample rb (s.feed tb) (s.feed (3 - tb)) s.tpw
  if ty = 1 ∨ ty = 2 then
    let permB := if ty = 1 then b.acc else !b.acc
    let agree := a.acc == permB
    let demand := !a.acc && !permB
    let disc := s.get Reg.SAF_CFG_IN_DISC n * 20
    let short := agree && decide (0 < x.dis) && decide (x.dis < disc)
    let dis := if agree then 0 else x.dis + 1
    let leaves := x.st == 1 && !(a.acc && permB)
    let seen := if leaves then demand else x.seen || demand
    let st := if x.st = 3 then 3
      else if a.acc && permB then (if x.st = 1 ∨ seen = true then 1 else 2)
      else if x.st = 2 ∧ demand = false then 2
      else 0
    let s := s.setSafIn n { x with a := a, b := b, st := st, seen := seen, dis := dis }
    let s := s.cond short fun s => (s.scount Reg.SAF_DISC_SHORT_COUNT n).put Reg.SAF_INT_DISC_SHORT 1
    (s, (if dis = disc then [(1, n)] else []) ++ (if missA || missB then [(2, n)] else []) ++ (if crossA || crossB then [(3, n)] else []))
  else (s.setSafIn n { x with a := a, b := b, st := 0 }, [])

/-! ## Output read-back (R356) -/

/-- A pin at a strobe: read-back `hi`, its output on, its off-pulse of `w` strobes; the pin and its fault, 0 for none. -/
def SafPin.readBack (p : SafPin) (hi on : Bool) (w : Nat) : SafPin × Nat :=
  if on then
    match p.pulse with
    | some m =>
      if m + 1 < w then ({ p with pulse := some (m + 1), hi := 0, lo := 0 }, if m + 2 = w ∧ hi = true then 4 else 0)
      else ({ pulse := none, hi := 0, lo := 0 }, 0)
    | none => if hi then ({ p with lo := 0, hi := 0 }, 0) else ({ p with lo := p.lo + 1, hi := 0 }, if 1 ≤ p.lo then 5 else 0)
  else if hi then ({ pulse := none, hi := p.hi + 1, lo := 0 }, if 1 ≤ p.hi then 4 else 0)
  else ({ pulse := none, hi := 0, lo := 0 }, 0)

/-- Both pins of an output are read back. -/
def State.safReadBack (s : State) (k : Nat) (ha hb : Bool) : State × List (Nat × Nat) :=
  let x := s.safOut k
  let w := s.get Reg.SAF_CFG_OUT_OPW k
  let (pa, fa) := x.a.readBack ha x.on w
  let (pb, fb) := x.b.readBack hb x.on w
  (s.setSafOut k { x with a := pa, b := pb, offSeen := x.offSeen || (!ha && !hb) },
   ([fa, fb].filter (· != 0)).map fun c => (c, k))

/-! ## Acknowledgement (R355, R358) -/

/-- A channel's check condition: it has passed one since the fault, or nothing feeds it. -/
def State.checkPassed (s : State) (feed : Nat) (x : SafCh) : Bool := x.passed || feed == 0 || !s.flag Reg.SAF_CFG_TP_EN

/-- The clearing condition of an input's fault (R357). -/
def State.inClears (s : State) (n code : Nat) : Bool :=
  let x := s.safIn n
  if code = 1 then
    let permB := if s.get Reg.SAF_CFG_IN_TYPE n = 1 then x.b.acc else !x.b.acc
    x.a.acc == permB
  else s.checkPassed (s.get Reg.SAF_CFG_IN_TPA n) x.a && s.checkPassed (s.get Reg.SAF_CFG_IN_TPB n) x.b

/-- An input whose last fault clears takes the state its channels show. -/
def State.inCleared (s : State) (n : Nat) : State :=
  let x := s.safIn n
  if x.st = 3 ∧ x.faults = [] then
    let permB := if s.get Reg.SAF_CFG_IN_TYPE n = 1 then x.b.acc else !x.b.acc
    s.setSafIn n { x with st := if x.a.acc && permB then (if x.seen then 1 else 2) else 0 }
  else s

/-- An acknowledgement takes effect at a strobe (R358). -/
def State.ackApply (s : State) : State :=
  let s := s.each (List.range 4) fun s n =>
    let x := s.safIn n
    (s.setSafIn n { x with faults := x.faults.filter fun c => !s.inClears n c }).inCleared n
  let s := s.each [0, 1] fun s k =>
    let x := s.safOut k
    s.setSafOut k { x with faults := x.faults.filter fun c => c == 4 && !x.offSeen }
  let s := s.each (List.range 8) fun s c =>
    let x := s.safConn c
    s.setSafConn c { x with fault := x.fault && !x.valid }
  let s := s.cond s.safFaulted (·.put Reg.SAF_INT_ACK_HELD 1)
  let s := s.each [0, 1] fun s k =>
    if s.safPermits k then s.setSafOut k { s.safOut k with on := true, wait := false } else s
  s.setSaf { s.saf with ack := false }

/-- Outputs with automatic restart and no acknowledgement owed come on (R355). -/
def State.safRestart (s : State) : State :=
  s.each [0, 1] fun s k =>
    let x := s.safOut k
    if s.safPermits k && !x.on && !x.wait then s.setSafOut k { x with on := true } else s

/-- The strobe at which the channels sample (R347): read levels of SAF_INnA and SAF_INnB, read-back of SAF_OUT0A, 0B, 1A, 1B, and whether the
channels disagree on an exchanged state or result. -/
def execSafetyStrobe (a b rb : Nat) (differ : Bool) (s : State) : Out :=
  .next <|
    if s.safRuns then
      let e := s.gridNext s.saf.lastStrobe 50000 s.saf.off
      let late := decide (0 < s.saf.n) && (decide (e < s.saf.lastStrobe + 12250) || decide (s.saf.lastStrobe + 12750 < e))
      let s := s.advanceTo e
      let tp := s.saf.tp.map fun o => match o with
        | some (m, low) => if m + 1 ≤ s.tpw + 2 then some (m + 1, low) else none
        | none => none
      let s := s.setSaf { s.saf with n := s.saf.n + 1, lastStrobe := e, off := s.etOff, tp := tp, differ := if differ then s.saf.differ + 1 else 0 }
      let (s, f) := (List.range 4).foldl (fun (x : State × List (Nat × Nat)) n =>
        let y := x.1.safSample n (bit a n) (bit b n)
        (y.1, x.2 ++ y.2)) (s, [])
      let (s, f) := [0, 1].foldl (fun (x : State × List (Nat × Nat)) k =>
        let y := x.1.safReadBack k (bit rb (2 * k)) (bit rb (2 * k + 1))
        (y.1, x.2 ++ y.2)) (s, f)
      let f := f ++ (if 2 ≤ s.saf.differ then [(7, 0)] else []) ++ (if late then [(8, 0)] else [])
      let s := s.safTrip
      let s := s.safLatch f
      let s := s.safTrip
      let s := if s.saf.ack then s.ackApply else s
      s.safRestart.safShow
    else s

/-- Channel B finds the strobe out of range, or none for 100 us (R347). -/
def execStrobeLoss (s : State) : Out :=
  .next (if s.safRuns then (s.advanceTo (s.saf.lastStrobe + 25000)).safLatch [(8, 0)] else s)

/-! ## Test pulses (R349, R356) -/

/-- Strobes of a test period. -/
def State.tppStrobes (s : State) : Nat := max 1 (s.get Reg.SAF_CFG_TP_TPP * 20)

/-- A test-pulse output goes low at the strobe that begins its test period, TP1 half a period after TP0 (R349). -/
def execTestPulseStart (tp : Nat) (s : State) : Out :=
  need (decide (tp < 2)) <|
    if s.safRuns && s.flag Reg.SAF_CFG_TP_EN && s.saf.internal == [] && (s.saf.tp.getD tp none).isNone && decide (0 < s.saf.n) &&
        (s.saf.n - 1) % s.tppStrobes == tp * (s.tppStrobes / 2) then
      let start (feed : Nat) (x : SafCh) : SafCh :=
        if feed = tp + 1 then { x with prevOwn := x.acc, lowOwn := false }
        else if feed = 2 - tp then { x with highOther := x.last, lowOther := false }
        else x
      let ins := (List.range 4).map fun n =>
        let x := s.safIn n
        { x with a := start (s.get Reg.SAF_CFG_IN_TPA n) x.a, b := start (s.get Reg.SAF_CFG_IN_TPB n) x.b }
      s.setSaf { s.saf with tp := s.saf.tp.set tp (some (0, true)), ins := ins }
    else s

/-- An off-pulse ends after TPW: the output is high again, and its mask runs on for 100 us (R349). -/
def execTestPulseEnd (tp : Nat) (s : State) : Out :=
  need (decide (tp < 2)) <|
    match s.saf.tp.getD tp none with
    | some (m, _) => if s.tpw ≤ m then s.setSaf { s.saf with tp := s.saf.tp.set tp (some (m, false)) } else s
    | none => s

/-- A test-pulse output is low (R349). -/
def State.tpLow (s : State) (tp : Nat) : Bool :=
  match s.saf.tp.getD tp none with
  | some (_, low) => low
  | none => !s.safRuns || s.saf.internal != []

/-- Strobes of an output-test period. -/
def State.oppStrobes (s : State) (k : Nat) : Nat := s.get Reg.SAF_CFG_OUT_OPP k * 20000

/-- Once in each output-test period a pin of an output that is on is switched off for OPW: pin B half a period after pin A, output 1 a quarter
after output 0, counted from the start of the channels (log entry 187); read-back follows at the strobes (R356). -/
def execOutputTestPulse (out chan : Nat) (s : State) : Out :=
  need (decide (out < 2) && decide (chan < 2)) <|
    let x := s.safOut out
    let per := s.oppStrobes out
    if s.safeOn out && s.safRuns && decide (0 < s.saf.n) && (s.saf.n - 1) % per == chan * (per / 2) + out * (per / 4) then
      let p : SafPin := { pulse := some 0 }
      (s.setSafOut out (if chan = 0 then { x with a := p } else { x with b := p })).safShow
    else s

/-- A write of SAF_REQ takes effect at the next strobe (R354). -/
def execSafReq (val : Nat) (s : State) : Out := .next (s.bar 0x1D001C (·.put Reg.SAF_REQ_ON (bits val 0 2)))

/-- A write of SAF_ACK.ACK = 1, guarded for Operator and Safety (R358, R519): it waits for the next strobe and not for its entry, which
follows (R528). -/
def State.ackWrite (s : State) : State :=
  let s := s.idleClose
  let ok := [2, 3].contains s.role && decide (s.aud.queue.length < 32)
  (s.guardedIn Reg.SAF_INT_REFUSED 1 0x1D0018 0 1 1 [2, 3] 0).cond ok fun s => s.setSaf { s.saf with ack := true }

def execSafAck (val : Nat) (s : State) : Out := need (bit val 0) (s.bar 0x1D0018 State.ackWrite)

/-! ## The Snuffer layer (R359 to R363) -/

/-- The DATA and STATUS a producer sends now (R359). -/
def State.snufferData (s : State) : Nat :=
  maskOf 4 (fun n => (s.safIn n).st == 1) + 16 * maskOf 2 (fun k => (s.safOut k).on)
def State.snufferStatus (s : State) : Nat := boolNat s.safFaulted + 2 * boolNat (s.get Reg.SAF_STATUS_STATE == 0)

/-- The 16 bytes of a frame (R359, R360). -/
def snufferFrame (id seq wdt data status : Nat) : List Nat :=
  let l := leBytesN 4 id ++ leBytesN 2 seq ++ leBytesN 2 wdt ++ leBytesN 2 data ++ leBytesN 2 status
  l ++ leBytesN 4 (crcSnuffer l)

/-- Bytes as a number, least significant first. -/
def leNum (l : List Nat) : Nat := l.foldr (fun b n => b % 256 + 256 * n) 0

/-- A producer sends a frame: every quarter of WDT, rounded up to whole ms, or after a change of DATA or STATUS; when the channels disagree on
CHECK it does not leave, and fault 0x7 latches (R360, R361, R363, R398). -/
def execSnufferProduce (conn : Nat) (differ : Bool) (s : State) : Out :=
  need (decide (conn < 8)) <|
    if s.safRuns && s.flag Reg.SAF_CFG_CONN_EN conn && s.flag Reg.SAF_CFG_CONN_DIR conn then
      let x := s.safConn conn
      let d := s.snufferData
      let st := s.snufferStatus
      let wdt := s.get Reg.SAF_CFG_CONN_WDT conn
      let s := s.cond (x.seq.isSome && d == x.data && st == x.status) (·.advanceTo (x.at_ + 250000 * ceilDiv wdt 4))
      if differ then s.safLatch [(7, 0)] false
      else
        let f := snufferFrame (s.get Reg.SAF_CFG_CONN_ID_ID conn) x.next wdt d st
        let s := s.setSafConn conn { x with seq := some x.next, data := d, status := st, at_ := s.dtRef, next := (x.next + 1) % 65536 }
        let s := s.put Reg.SAF_CONN_STATE_SEQ x.next 0 conn
        let s := s.each (List.range 4) fun s i => s.put Reg.SAF_SNF_TX_BYTES (leNum ((f.drop (4 * i)).take 4)) i conn
        let s := s.showConns
        if s.flag Reg.SAF_CFG_CONN_MEDIUM conn then s
        else
          let frame : LFrame := { ty := 4, body := [leNum (f.take 8), leNum (f.drop 8)] }
          let s := s.lpri (s.get Reg.SAF_CFG_CONN_PORT conn) frame
          s.cond (s.flag Reg.SAF_CFG_CONN_DUAL conn) (·.lpri (s.get Reg.SAF_CFG_CONN_PORT2 conn) frame)
    else s

/-- Consumer `c` judges a frame that carries its CONN_ID, or one that no consumer expects (R361, R362). -/
def State.consume (s : State) (c : Nat) (f : List Nat) : State :=
  let x := s.safConn c
  let seq := leNum ((f.drop 4).take 2)
  let bad (s : State) : State := s.scount Reg.SAF_CONN_BAD_COUNT 0 c
  let accept (s : State) (lost : Nat) : State :=
    let s := s.scount Reg.SAF_CONN_OK_COUNT 0 c
    let s := s.cond (decide (0 < lost)) (·.scount Reg.SAF_CONN_LOST_COUNT 0 c lost)
    let s := s.setSafConn c { x with valid := true, seq := some seq, data := leNum ((f.drop 8).take 2), at_ := s.dtRef }
    let s := s.put Reg.SAF_CONN_STATE_SEQ seq 0 c
    if bits (leNum ((f.drop 10).take 2)) 0 2 = 0 then s.showConns else s.safLatch [(6, c)] false
  if f.length ≠ 16 ∨ leNum (f.take 4) ≠ s.get Reg.SAF_CFG_CONN_ID_ID c ∨ leNum ((f.drop 6).take 2) ≠ s.get Reg.SAF_CFG_CONN_WDT c ∨
      leNum (f.drop 12) ≠ crcSnuffer (f.take 12) then bad s
  else
    match x.seq with
    | none => accept s 0
    | some q =>
      let d := (seq + 65536 - q) % 65536
      if d = 0 then s.scount Reg.SAF_CONN_DUP_COUNT 0 c
      else if d ≤ 8 then accept s (d - 1)
      else bad s

/-- A frame reaches the consumers that can hear it: those whose CONN_ID it carries judge it, or, where there is none, all of them. -/
def State.hearSnuffer (s : State) (f : List Nat) (hears : Nat → Bool) : State :=
  if s.safRuns then
    let l := (List.range 8).filter fun c => s.flag Reg.SAF_CFG_CONN_EN c && !s.flag Reg.SAF_CFG_CONN_DIR c && hears c
    let own := l.filter fun c => s.get Reg.SAF_CFG_CONN_ID_ID c == leNum (f.take 4)
    s.each (if own = [] then l else own) fun s c => s.consume c f
  else s

/-- A Snuffer frame from Lantern port `port` reaches the consumers that listen there (R359, R398). -/
def State.linkSnuffer (s : State) (port : Nat) (frame : List Nat) : State :=
  s.hearSnuffer frame fun c => !s.flag Reg.SAF_CFG_CONN_MEDIUM c &&
    (s.get Reg.SAF_CFG_CONN_PORT c == port || (s.flag Reg.SAF_CFG_CONN_DUAL c && s.get Reg.SAF_CFG_CONN_PORT2 c == port))

/-- A Snuffer frame arrives at a Lantern port (R361, R363, R398). -/
def execSnufferReceive (port : Nat) (frame : List Nat) (s : State) : Out :=
  need (decide (port < 8)) (s.linkSnuffer port frame)

/-- No frame has been accepted for WDT ms (R362). -/
def execSnufferTimeout (conn : Nat) (s : State) : Out :=
  need (decide (conn < 8)) <|
    let x := s.safConn conn
    if s.safRuns && s.flag Reg.SAF_CFG_CONN_EN conn && !s.flag Reg.SAF_CFG_CONN_DIR conn && x.valid then
      let s := s.advanceTo (x.at_ + 250000 * s.get Reg.SAF_CFG_CONN_WDT conn)
      let s := s.setSafConn conn { x with valid := false, seq := none }
      s.safLatch [(6, conn)] false
    else s

/-- A write of SAF_SNF_RX3 submits the four words to every PCIe consumer (R363). -/
def execSnufferRxSubmit (val : Nat) (s : State) : Out :=
  .next <| s.bar 0x1D018C fun s =>
    let s := s.put Reg.SAF_SNF_RX_BYTES val 3
    let f := (List.range 4).flatMap fun i => leBytesN 4 (s.get Reg.SAF_SNF_RX_BYTES i)
    s.hearSnuffer f fun c => s.flag Reg.SAF_CFG_CONN_MEDIUM c

/-! ## Commissioning and start (R364 to R367) -/

/-- The value of a field of the staged set: its shadow copy, or the value in force (R553). -/
def State.staged (s : State) (f : Fld) (i : Nat := 0) : Nat := (s.shadowOf f i).getD (s.get f i)

/-- The staged set, field by field. -/
def State.safSet (s : State) : List Nat := safStaged.flatMap fun f => (List.range f.count).map fun i => s.staged f i

/-- SAF_CHECK (R365). -/
def State.safCheckValue (s : State) : Nat := (Config.safCheck s.safSet).toNat

/-- The staged set is consistent (ERR 0x4 of R365). -/
def State.safConsistent (s : State) : Bool :=
  let g := fun (f : Fld) (i : Nat) => s.staged f i
  let within (v lo hi : Nat) : Bool := decide (lo ≤ v) && decide (v ≤ hi)
  let consumer (c : Nat) : Bool := g Reg.SAF_CFG_CONN_EN c == 1 && g Reg.SAF_CFG_CONN_DIR c == 0
  ((List.range 4).all fun n => within (g Reg.SAF_CFG_IN_DISC n) 10 5000 && g Reg.SAF_CFG_IN_TYPE n != 3 && g Reg.SAF_CFG_IN_TPA n != 3 &&
    g Reg.SAF_CFG_IN_TPB n != 3) &&
  within (g Reg.SAF_CFG_TP_TPP 0) 10 1000 && within (g Reg.SAF_CFG_TP_TPW 0) 4 8 &&
  ([0, 1].all fun k => within (g Reg.SAF_CFG_OUT_OPP k) 1 60 && within (g Reg.SAF_CFG_OUT_OPW k) 2 8 &&
    ((List.range 4).all fun n => !bit (g Reg.SAF_CFG_OUT_INMASK k) n || g Reg.SAF_CFG_IN_TYPE n != 0) &&
    ((List.range 8).all fun c => !bit (g Reg.SAF_CFG_OUT_CONNMASK k) c || consumer c)) &&
  ((List.range 8).all fun c => g Reg.SAF_CFG_CONN_EN c == 0 || (g Reg.SAF_CFG_CONN_ID_ID c != 0 && within (g Reg.SAF_CFG_CONN_WDT c) 1 1000)) &&
  ((List.range 8).all fun c => (List.range 8).all fun d => c == d || !consumer c || !consumer d ||
    g Reg.SAF_CFG_CONN_ID_ID c != g Reg.SAF_CFG_CONN_ID_ID d || g Reg.SAF_CFG_CONN_MEDIUM c != g Reg.SAF_CFG_CONN_MEDIUM d)

/-- A write of SAF_COMMIT: the first check of R365 that fails is SAF_COMMIT_ERR; else the commit waits for its audit entry. -/
def execSafCommit (val : Nat) (agree : Bool) (s : State) : Out :=
  .next <| s.bar 0x1D0168 fun s =>
    let s := s.idleClose
    let err := if s.role ≠ 3 then 1 else if val ≠ s.safCheckValue then 2 else if !agree then 3 else if !s.safConsistent then 4
      else if s.store.safGen = 0 then 5 else 0
    let s := s.put Reg.SAF_COMMIT_ERR_ERR err
    let cause := if err = 0 then 0 else if err = 5 then 2 else 3
    s.guardedIn Reg.SAF_INT_REFUSED 2 0x1D0168 (s.get Reg.SAF_STATUS_GEN) val val [3] cause val

/-- Both channels restart with the set in force: every output is off and waits, and every fault but the internal ones of `keep`
clears (R366, R367). -/
def State.safReboot (s : State) (keep : List Nat) : State :=
  s.setSaf { runs := true, lastStrobe := s.dtRef, off := s.etOff, internal := s.saf.internal.filter keep.contains }

/-- The commit takes effect once its entry is stored and both records were written and read back (R365, R366). -/
def State.safCommit (s : State) (ok : Bool) : State :=
  if ok then
    let s := s.commitAll (safStaged.map (·.id))
    let left := s.store.safGen - 1
    let rec_ : RegMap := s.regs.filter fun e => (safStaged.map (·.id)).contains e.1.f
    let s : State := { s with store := { s.store with safGen := left, safRecord := some rec_ } }
    let s := (s.put Reg.SAF_GEN_LEFT_LEFT left).put Reg.SAF_STATUS_GEN (16 - left)
    let s := s.safReboot [7, 8]
    let s := if s.saf.internal = [] then (s.put Reg.SAF_STATUS_STATE 1).put Reg.SAF_STATUS_CAUSE 0 else s
    (s.put Reg.SAF_INT_COMMITTED 1).safShow
  else (s.put Reg.SAF_COMMIT_ERR_ERR 6).put Reg.SAF_INT_REFUSED 1

/-- At a start each channel loads its record; `cause` is what it finds: 0 good, 2 a check failed, 3 the records differ (R367). -/
def State.safLoad (s : State) (cause : Nat) : State :=
  let s := (s.put Reg.SAF_GEN_LEFT_LEFT s.store.safGen).put Reg.SAF_STATUS_GEN (16 - s.store.safGen)
  match s.store.safRecord with
  | none => ((s.safReboot []).put Reg.SAF_STATUS_CAUSE 1).safLatch [(9, 0)]
  | some r =>
    if cause = 0 then
      (((s.putKeys r).safReboot []).put Reg.SAF_STATUS_STATE 1).safShow
    else ((s.safReboot []).put Reg.SAF_STATUS_CAUSE cause).safLatch [(9, 0)]

/-- A write of SAF_CNT_CLR (R372). -/
def execSafCntClr (s : State) : Out :=
  .next <| s.bar 0x1D01C8 fun s => s.clearFields ([Reg.SAF_DISC_SHORT_COUNT, Reg.SAF_CONN_OK_COUNT, Reg.SAF_CONN_DUP_COUNT,
    Reg.SAF_CONN_LOST_COUNT, Reg.SAF_CONN_BAD_COUNT].map (·.id))

end Sys2Proof.Machine
end

