-- ==== Sys2Proof/Machine/Ctl.lean ====
section
/-! DEFINITION. Machine/Ctl.lean: feedback inputs, pulse counters and the four control loops (chapter 11). -/

namespace Sys2Proof.Machine

def State.setCtl (s : State) (c : Ctl) : State := { s with ctl := c }
def State.loop (s : State) (n : Nat) : Loop := s.ctl.loop.getD n {}
def State.setLoop (s : State) (n : Nat) (l : Loop) : State := s.setCtl { s.ctl with loop := s.ctl.loop.set n l }
def State.ctlCount (s : State) (f : Fld) (n : Nat := 0) : State := s.bump f Reg.CTL_INT_CNT_SAT n
def State.fbIn (s : State) (n : Nat) : FbIn := s.ctl.fb.getD n {}
def State.setFb (s : State) (n : Nat) (x : FbIn) : State := s.setCtl { s.ctl with fb := s.ctl.fb.set n x }

/-- A start is under way or the module runs: not in reset and not in pilot-light mode (R322). -/
def State.awake (s : State) : Bool := s.sys.phase == .starting || s.sys.phase == .running

/-! ## Inputs (R322, R323) -/

/-- The code of a feedback input's voltage in nV, noise included (R322). -/
def fbCode (nV : Int) : Int := max (-32768) (min 32767 (roundDiv (32768 * nV) 2500000000))

/-- A feedback input samples its voltage at the next whole microsecond of AT (R322). -/
def execCtlFbSample (input : Nat) (nV : Int) (s : State) : Out :=
  need (decide (input < 4)) <|
    if s.awake then
      let x := s.fbIn input
      let e := s.gridNext x.last 1000 x.off
      (s.advanceTo e).setFb input { x with last := e, off := s.etOff, pend := x.pend ++ [(e, fbCode nV)] }
    else s

/-- A code of a feedback input is saturated (R322, R337). -/
def fbSat (c : Int) : Bool := c == 32767 || c == -32768

/-- A result of a feedback input reaches the slots (R324). -/
def State.fbGive (s : State) (input : Nat) (c : Int) : State :=
  let x := s.fbIn input
  (s.setFb input { x with pend := x.pend.tail, latest := c }).each (List.range 4) fun s n =>
    let k := s.loop n
    let a := k.acc.getD input (0, 0, false)
    s.setLoop n { k with acc := k.acc.set input (a.1 + c, a.2.1 + 1, a.2.2 || fbSat c) }

/-- A feedback result is delivered 200 ref after its sample edge (R322, R324). -/
def execCtlFbResult (input : Nat) (s : State) : Out :=
  need (decide (input < 4)) <|
    match (s.fbIn input).pend with
    | [] => s
    | (e, c) :: _ => (s.advanceTo (e + 200)).fbGive input c

/-- The results due before edge `e` are delivered before it (R324). -/
def State.fbBefore (s : State) (e : Nat) : State :=
  s.each (List.range 4) fun s i =>
    s.each ((s.fbIn i).pend.filter fun x => decide (x.1 + 200 < e)) fun s x => s.fbGive i x.2

/-- MODEn of a pulse counter. -/
def State.pcntMode (s : State) (n : Nat) : Nat := bits (s.get Reg.CTL_PCNT_CFG_MODE) (2 * n) 2

/-- The place of two phases in the order A leads B. -/
def quadrature (a b : Bool) : Nat := if a then (if b then 2 else 1) else if b then 3 else 0

/-- A pulse counter changes, modulo 2^32. -/
def State.pcntAdd (s : State) (n : Nat) (up : Bool) : State :=
  s.put Reg.CTL_PCNT_COUNT (s.get Reg.CTL_PCNT_COUNT n + if up then 1 else 2 ^ 32 - 1) n

/-- The pins of a pulse counter become `step` and `dir` for `ns` ns; what lasts less than 8 ns is rejected (R323). -/
def execPulseCountEdge (counter : Nat) (step dir : Bool) (ns : Nat) (s : State) : Out :=
  need (decide (counter < 4)) <|
    if ns < 8 then s else
    let (a, b) := s.ctl.pins.getD counter (false, false)
    let s := s.setCtl { s.ctl with pins := s.ctl.pins.set counter (step, dir) }
    if !s.awake then s
    else
      match s.pcntMode counter with
      | 1 => if step && !a then s.pcntAdd counter dir else s
      | 2 =>
        match (quadrature step dir + 4 - quadrature a b) % 4 with
        | 1 => s.pcntAdd counter true
        | 3 => s.pcntAdd counter false
        | 2 => s.ctlCount Reg.CTL_PCNT_ERR_COUNT
        | _ => s
      | _ => s

/-! ## Sources (R324, R330, R337) -/

/-- A source code is a feedback input, a pulse counter or an AUX entry. -/
def srcValid (c : Nat) : Bool :=
  (decide (1 ≤ c) && decide (c ≤ 4)) || (decide (8 ≤ c) && decide (c ≤ 11)) || (decide (64 ≤ c) && decide (c ≤ 127))
def srcPulse (c : Nat) : Bool := decide (8 ≤ c) && decide (c ≤ 11)
def srcAux (c : Nat) : Bool := decide (64 ≤ c) && decide (c ≤ 127)

/-- The value of a source at a period start edge, and whether it is bad (R324, R337). -/
def State.srcValue (s : State) (n c : Nat) : Int × Bool :=
  if 1 ≤ c ∧ c ≤ 4 then
    let a := (s.loop n).acc.getD (c - 1) (0, 0, false)
    let x := s.fbIn (c - 1)
    if s.flag Reg.CTL_Sn_CTRL_FB_AVG n && decide (0 < a.2.1) then (a.1 / (a.2.1 : Int), a.2.2)
    else (x.latest, fbSat x.latest)
  else if srcPulse c then (toInt 32 (s.get Reg.CTL_PCNT_COUNT (c - 8)), false)
  else if srcAux c then
    let w := s.get Reg.AUX_LAST_RECORD (c - 64) / 2 ^ 64
    (toInt 24 w / 64, bit w 48 || bit w 47 || bit w 46)
  else (0, false)

/-- A slot's feedback or set-point is a pulse count: its differences wrap (R324). -/
def State.wraps (s : State) (n : Nat) : Bool :=
  srcPulse (s.get Reg.CTL_Sn_SRC_FB_SRC n) || srcPulse (s.get Reg.CTL_Sn_SRC_SP_SRC n)

/-- A difference in units of 2^-k, taken modulo 2^32 as signed where it wraps (R324). -/
def wrapDiff (w : Bool) (k : Nat) (d : Int) : Int :=
  if w then (d + 2 ^ (31 + k)) % 2 ^ (32 + k) - 2 ^ (31 + k) else d

/-- The nearest integer of `x / 2^k`, halves upward. -/
def roundShift (x : Int) (k : Nat) : Int := (2 * x + 2 ^ k) / 2 ^ (k + 1)

/-- The target x of a period (R330). -/
def State.target (s : State) (n : Nat) : Int :=
  let c := s.get Reg.CTL_Sn_SRC_SP_SRC n
  let x : Int := if c = 0 then toInt 32 (s.get Reg.CTL_Sn_SP_SP n)
    else roundShift (toInt 32 (s.get Reg.CTL_Sn_SP_GAIN_GAIN n) * (s.srcValue n c).1) 16 + toInt 32 (s.get Reg.CTL_Sn_SP_OFS_OFS n)
  wrapDiff (s.wraps n) 0 x

/-! ## Profile generator (R331) -/

/-- `x` limited to plus and minus `m`. -/
def clampTo (m x : Int) : Int := max (-m) (min m x)

/-- One period of the profile generator: VMAX in 2^-16, AMAX in 2^-24, the target and the one before it. -/
def profile (w : Bool) (vmax amax : Nat) (x xPrev p v : Int) : Int × Int × Int :=
  let vm : Int := vmax * 256
  let am : Int := amax
  let tv := clampTo vm (wrapDiff w 0 (x - xPrev) * 2 ^ 24)
  let e := wrapDiff w 25 (x * 2 ^ 25 - p)
  let r := tv - v
  if vmax = 0 then (x * 2 ^ 25, 0, 0)
  else if amax = 0 then
    let d := clampTo (2 * vm) e
    (wrapDiff w 25 (p + d), d / 2, 0)
  else if |e| ≤ 2 * am ∧ |r| ≤ am then (x * 2 ^ 25, tv, r)
  else
    let sg := e * am + r * |r|
    let a := if 0 < sg then am else if sg < 0 then -am else if 0 < r then am else if r < 0 then -am else 0
    let v1 := clampTo vm (v + a)
    (wrapDiff w 25 (p + (v + v1)), v1, v1 - v)

/-! ## Control law (R333) -/

/-- A limit or code of the output: signed in mode 0b10 (R325). -/
def State.outCode (s : State) (n c : Nat) : Int := if s.get Reg.CTL_Sn_CTRL_OUT_MODE n = 2 then toInt 16 c else c
def State.outMin (s : State) (n : Nat) : Int := s.outCode n (s.get Reg.CTL_Sn_OUT_LIM_OUT_MIN n)
def State.outMax (s : State) (n : Nat) : Int := s.outCode n (s.get Reg.CTL_Sn_OUT_LIM_OUT_MAX n)
def State.gain (s : State) (f : Fld) (n : Nat) : Int := toInt 32 (s.get f n)

/-- What one computation gives: the slot, the output code, e_f, and whether the output and the multiplier were clamped. -/
structure LoopOut where
  l : Loop
  u : Int
  ef : Int
  sat : Bool
  ffsat : Bool
  deriving DecidableEq, Repr

/-- VNOM over f in 2^-16, limited to 0.25 to 4, and whether it was limited (R333); free where f is 0. -/
def State.ffScale (s : State) (n : Nat) (f : Int) : (Int × Int) × Bool :=
  let v := toInt 32 (s.get Reg.CTL_Sn_VNOM_VNOM n)
  if f = 0 then ((max 16384 (min 262144 ((Config.ffMultiplier s.drawn).toNat : Int)), 65536), true)
  else
    let (v, f) := if f < 0 then (-v, -f) else (v, f)
    if 4 * v < f then ((1, 4), true) else if 4 * f < v then ((4, 1), true) else ((v, f), false)

/-- A computed period (R331, R333). -/
def State.compute (s : State) (n : Nat) : LoopOut :=
  let l := s.loop n
  let w := s.wraps n
  let q := l.src
  let lo := s.outMin n
  let hi := s.outMax n
  let safe := s.outCode n (s.get Reg.CTL_Sn_SAFE_SAFE_OUT n)
  let l : Loop := if l.fresh then { l with i := safe * 2 ^ 41, yPrev := q.y, feTimer := 0 } else l
  let l : Loop := if l.fresh || l.resume then { l with p := q.y * 2 ^ 25, v := 0, a := 0, xPrev := q.x } else l
  let (p, v, a) := profile w (s.get Reg.CTL_Sn_VMAX_VMAX n) (s.get Reg.CTL_Sn_AMAX_AMAX n) q.x l.xPrev l.p l.v
  let ef := wrapDiff w 25 (p - q.y * 2 ^ 25)
  let lim (x : Int) : Int := max (lo * 2 ^ 41) (min (hi * 2 ^ 41) x)
  let ki := s.gain Reg.CTL_Sn_KI_K n * ef
  let i1 := lim (l.i + ki)
  let mode := s.get Reg.CTL_Sn_CTRL_FF_MODE n
  let ff : Int := if mode = 2 then (s.gain Reg.CTL_Sn_KV_K n * v + s.gain Reg.CTL_Sn_KA_K n * a) * 2 else 0
  let u := s.gain Reg.CTL_Sn_KP_K n * ef + i1 + s.gain Reg.CTL_Sn_KD_K n * wrapDiff w 0 (l.yPrev - q.y) * 2 ^ 25 + ff
  let ((mn, md), ffsat) := if mode = 1 then s.ffScale n q.f else ((1, 1), false)
  let num := u * mn
  let den := md * 2 ^ 41
  let code := (2 * num + den) / (2 * den)
  let beyond := decide (hi * den < num)
  let under := decide (num < lo * den)
  let out := max lo (min hi code)
  let i := if (beyond && decide (0 < ki)) || (under && decide (ki < 0)) then lim l.i else i1
  { l := { l with p := p, v := v, a := a, xPrev := q.x, i := i, yPrev := q.y, fresh := false, resume := false }
    u := out, ef := ef, sat := code != out, ffsat := ffsat }

/-! ## Records (R341, R342) -/

/-- A gap record's word 1 (R341). -/
def ctlGapWord (len count : Nat) : Nat := 2 * 2 ^ 62 + 2 ^ 59 + min count (2 ^ 24 - 1) * 2 ^ 32 + min len (2 ^ 32 - 1)

/-- A record enters the queue, with QLEVEL and the threshold (R342). -/
def State.ctlPush (s : State) (e : Nat × Nat) : State :=
  let q := s.ctl.queue
  let n := q.q.length + 1
  let thr := min 1023 (64 * (s.get Reg.CTL_Q_STATUS_THR + 1))
  ((s.setCtl { s.ctl with queue := { q with q := q.q ++ [e] } }).put Reg.CTL_Q_STATUS_QLEVEL n).cond
    (decide (q.q.length < thr) && decide (thr ≤ n)) (·.put Reg.CTL_INT_QTHR 1)

/-- The edge at which the loss episode closes, while two entries are free: no record was lost in the ref before it (R305, R342). -/
def State.ctlLossEnds (s : State) : Option Nat :=
  match s.ctl.queue.loss with
  | none => none
  | some l => if s.ctl.queue.hasRoom then some (max (l.last + 2) s.ctl.queue.roomAt) else none

/-- An episode whose closing edge has come writes its gap record, ahead of any record at this edge (R305, R342). -/
def State.ctlCloseLoss (s : State) : State :=
  match s.ctlLossEnds, s.ctl.queue.loss with
  | some e, some l =>
    if e ≤ s.dtRef then
      ((s.setCtl { s.ctl with queue := { s.ctl.queue with loss := none } }).ctlPush (l.start, ctlGapWord (e - l.from_) l.count)).put
        Reg.CTL_INT_LOSS 1
    else s
  | _, _ => s

/-- A record enters the queue, or is lost (R305, R342). -/
def State.ctlEnqueue (s : State) (w0 w1 edge : Nat) : State :=
  let s := s.ctlCloseLoss
  if s.ctl.queue.hasRoom then s.ctlPush (w0, w1)
  else (s.setCtl { s.ctl with queue := s.ctl.queue.lose w0 edge s.dtRef }).ctlCount Reg.CTL_LOST_COUNT

/-- A loss episode closes, and one gap record is written (R305, R342). -/
def execCtlGapRecord (s : State) : Out :=
  .next <|
    match s.ctlLossEnds with
    | none => s
    | some e => (s.advanceTo e).ctlCloseLoss

/-- A read of CTL_Q_W0_LO (R342). -/
def execCtlQueueSnapshot (s : State) : Out :=
  .next <| s.bar 0x1C0040 fun s =>
    let q := s.ctl.queue.snapshot
    { s.setCtl { s.ctl with queue := q } with rdata := [q.port 0] }

/-- A read of CTL_Q_W1_HI (R342). -/
def execCtlQueueRemove (s : State) : Out :=
  .next <| s.bar 0x1C004C fun s =>
    let q := s.ctl.queue.remove s.dtRef
    let s := (s.setCtl { s.ctl with queue := q }).put Reg.CTL_Q_STATUS_QLEVEL q.q.length
    { s with rdata := [q.port 3] }

/-! ## Periods (R326, R335 to R341) -/

/-- The staged fields of a slot. -/
def loopStaged : List Fld :=
  [Reg.CTL_Sn_CTRL_LOG_DIV, Reg.CTL_Sn_SP_GAIN_GAIN, Reg.CTL_Sn_SP_OFS_OFS, Reg.CTL_Sn_VMAX_VMAX, Reg.CTL_Sn_AMAX_AMAX, Reg.CTL_Sn_KP_K,
   Reg.CTL_Sn_KI_K, Reg.CTL_Sn_KD_K, Reg.CTL_Sn_KV_K, Reg.CTL_Sn_KA_K, Reg.CTL_Sn_VNOM_VNOM, Reg.CTL_Sn_OUT_LIM_OUT_MIN,
   Reg.CTL_Sn_OUT_LIM_OUT_MAX, Reg.CTL_Sn_FE_LIM_FE_LIM, Reg.CTL_Sn_FE_TIME_FE_TIME]

def State.slotEn (s : State) (n : Nat) : Bool := s.flag Reg.CTL_Sn_CTRL_EN n
def State.slotState (s : State) (n : Nat) : Nat := s.get Reg.CTL_Sn_STATUS_STATE n

/-! ### The output (R325, R340) -/

/-- PWM_PER in ref; below 64 acts as 64 (R344). -/
def State.pwmPer (s : State) (n : Nat) : Nat := max 64 (s.get Reg.CTL_Sn_PWM_PWM_PER n)

/-- The code of the PWM cycle under way: a new code takes effect at the start of the next cycle (R325; the cycles' phase is free, log entry 186). -/
def State.pwmCode (s : State) (n : Nat) : Nat :=
  let l := s.loop n
  let cycle (e : Nat) : Nat := (e + Config.pwmPhase n) / s.pwmPer n
  if cycle l.outAt < cycle s.dtRef then s.get Reg.CTL_Sn_OUT_OUT n else l.outOld

/-- A new output code is in force (R325). -/
def State.setOut (s : State) (n code : Nat) : State :=
  (s.setLoop n { s.loop n with outAt := s.dtRef, outOld := s.pwmCode n }).put Reg.CTL_Sn_OUT_OUT code n

/-- What CTL_OUTn does (R325): off, with its pull-down; a voltage in units of 3.0 V / 65,536; or high for `high` ref of every `per` ref. -/
inductive OutDrive where
  | off
  | volts (v : Int)
  | pwm (high per : Nat)
  deriving DecidableEq, Repr

/-- The output of a slot; off in reset and in pilot-light mode (R325, R340). -/
def State.outDrive (s : State) (n : Nat) : OutDrive :=
  let c := s.get Reg.CTL_Sn_OUT_OUT n
  if !s.awake then .off
  else
    match s.get Reg.CTL_Sn_CTRL_OUT_MODE n with
    | 0 => .off
    | 1 => .volts c
    | 2 => .volts (32768 + toInt 16 c)
    | _ => .pwm (roundDiv (s.pwmCode n * s.pwmPer n : Nat) 65536).toNat (s.pwmPer n)

/-- PERIOD in ns of AT. -/
def State.loopNs (s : State) (n : Nat) : Nat := 4 * max 1 (s.get Reg.CTL_Sn_PERIOD_PERIOD n)

/-- The pulse of a primitive is high at an edge (R188, R335). -/
def State.pulseHigh (s : State) (p e : Nat) : Bool := s.trg.pulses.any fun x => x.prim == p && decide (x.from_ ≤ e) && decide (e < x.stop)

/-- The next start edge of a slot (R126, R326). -/
def State.loopNext (s : State) (n : Nat) : Nat := s.gridNext (s.loop n).start (s.loopNs n) (s.loop n).off

/-- The record of the period that ends carries LONG when a step has come since its start, as long as the queue holds it (R326). -/
def State.markLong (s : State) (n : Nat) : State :=
  let l := s.loop n
  if l.off = s.etOff then s
  else
    let w0 := (l.off + 4 * l.start) % 2 ^ 64
    s.setCtl { s.ctl with queue := { s.ctl.queue with
      q := s.ctl.queue.q.map fun r => if r.1 = w0 ∧ bits r.2 60 4 = n then (r.1, setBits r.2 53 1 1) else r } }

/-- A period starts at the next edge of its grid: a commit asked for is made, and the sources, the gate and the inhibit are latched
(R324, R326, R335, R336). -/
def execLoopPeriodStart (slot : Nat) (s : State) : Out :=
  need (decide (slot < 4)) <|
    if s.slotState slot = 1 ∨ s.slotState slot = 2 then
      let e := s.loopNext slot
      let s := ((s.fbBefore e).advanceTo e).markLong slot
      let s := if (s.loop slot).commit then
          let s := s.each loopStaged fun s f => s.commit f slot
          (s.put Reg.CTL_Sn_STATUS_PENDING 0 slot).setLoop slot { s.loop slot with commit := false }
        else s
      let l := s.loop slot
      let fb := s.get Reg.CTL_Sn_SRC_FB_SRC slot
      let (y, bad) := s.srcValue slot fb
      let names := [fb, s.get Reg.CTL_Sn_SRC_SP_SRC slot, s.get Reg.CTL_Sn_SRC_FF_SRC slot].any srcAux
      let inh := s.get Reg.CTL_Sn_CTRL_INHIBIT slot
      let prim := s.get Reg.CTL_Sn_GATE_GATE_PRIM slot
      let hold := if (inh = 1 ∧ s.safeOn 0 = false) ∨ (inh = 2 ∧ s.safeOn 1 = false) then 2
        else if s.get Reg.CTL_Sn_CTRL_TYPE slot = 2 ∧ prim ≠ 0x1FF ∧ s.pulseHigh prim e = false then 1
        else 0
      let src : LoopSrc :=
        { y := y, x := s.target slot, f := (s.srcValue slot (s.get Reg.CTL_Sn_SRC_FF_SRC slot)).1
          bad := bad || (names && !s.auxEn), hold := hold }
      let s := s.setLoop slot { l with start := e, off := s.etOff, busy := true, done := false, src := src, acc := noResults }
      (s.put Reg.CTL_Sn_Y_Y (ofInt 32 y) slot).put Reg.CTL_Sn_STATUS_STATE (if hold = 0 then 1 else 2) slot
    else s

/-- The computation of a period, which starts at the edge after its start edge, completes on the voted cores; past the deadline it is
abandoned (R327, R329, R337). -/
def execLoopComputeDone (slot : Nat) (s : State) : Out :=
  need (decide (slot < 4)) <|
    let l := s.loop slot
    if l.busy && decide (s.slotState slot ≠ 3) && decide (s.dtRef ≤ l.start + s.get Reg.CTL_Sn_DEADLINE_DEADLINE slot) then
      (s.advanceTo (l.start + 1)).setLoop slot { l with done := true }
    else s

/-- A slot faults with the causes of `set` (bit c - 1) (R339, R499). -/
def State.loopFault (s : State) (n set : Nat) : State :=
  let s := s.setOut n (s.get Reg.CTL_Sn_SAFE_SAFE_OUT n)
  let s := (s.put Reg.CTL_Sn_STATUS_STATE 3 n).put Reg.CTL_Sn_STATUS_CAUSE_SET set n
  let s := s.put Reg.CTL_Sn_STATUS_CAUSE (if bit set 0 then 1 else if bit set 1 then 2 else 3) n
  let s := s.put Reg.CTL_INT_FAULT (Nat.lor (s.get Reg.CTL_INT_FAULT) (2 ^ n))
  s.fault 0xB n

/-- The record of a period (R341). -/
def State.loopRecord (s : State) (n : Nat) (ovr fbb fex hold sat long ffsat : Bool) : State :=
  let l := s.loop n
  let w1 := n * 2 ^ 60 + 2 ^ 59 + boolNat ovr * 2 ^ 58 + boolNat fbb * 2 ^ 57 + boolNat fex * 2 ^ 56 + boolNat hold * 2 ^ 55 +
    boolNat sat * 2 ^ 54 + boolNat long * 2 ^ 53 + boolNat ffsat * 2 ^ 52 + s.get Reg.CTL_Sn_OUT_OUT n * 2 ^ 32 + ofInt 32 l.src.y
  s.ctlEnqueue ((l.off + 4 * l.start) % 2 ^ 64) w1 l.start

/-- A record is due: the first period after EN rose, and every LOG_DIV-th after it. -/
def Loop.logs (l : Loop) (div : Nat) : Bool :=
  decide (div ≠ 0) && (match l.log with | none => true | some k => decide (div ≤ k + 1))

/-- A slot's position and velocity as the registers show them. -/
def State.showLoop (s : State) (n : Nat) : State :=
  let l := s.loop n
  (s.put Reg.CTL_Sn_P_P (ofInt 32 (l.p / 2 ^ 25)) n).put Reg.CTL_Sn_V_V (ofInt 32 (l.v / 256)) n

/-- What a deadline does to a slot that runs: marks of the record, and the causes that reach their limits. -/
structure LoopEnd where
  s : State
  ovr : Bool := false
  fbb : Bool := false
  fex : Bool := false
  hold : Bool := false
  sat : Bool := false
  ffsat : Bool := false
  causes : Nat := 0

/-- A held period drives SAFE_OUT (R335, R336). -/
def State.loopHold (s : State) (n : Nat) : LoopEnd :=
  let safe := s.get Reg.CTL_Sn_SAFE_SAFE_OUT n
  let s := s.setOut n safe
  let l := s.loop n
  let l : Loop := if l.src.hold = 2 then
      { l with i := s.outCode n safe * 2 ^ 41, feTimer := 0, p := l.src.y * 2 ^ 25, v := 0, a := 0, xPrev := l.src.x, fresh := true }
    else { l with resume := true, xPrev := l.src.x }
  { s := s.setLoop n l, hold := true }

/-- A missed period: the output holds, and three in a row of one kind are a cause (R337). -/
def State.loopMiss (s : State) (n : Nat) (ovr fbb : Bool) : LoopEnd :=
  let l := s.loop n
  let l : Loop := { l with ovrRun := if ovr then l.ovrRun + 1 else 0, fbbRun := if fbb then l.fbbRun + 1 else 0, xPrev := l.src.x }
  let s := s.cond ovr fun s => (s.ctlCount Reg.CTL_Sn_OVR_COUNT n).put Reg.CTL_INT_OVERRUN 1
  { s := s.setLoop n l, ovr := ovr, fbb := fbb
    causes := (if 3 ≤ l.fbbRun then 1 else 0) + (if 3 ≤ l.ovrRun then 4 else 0) }

/-- A computed period: the output and the following error (R333, R338). -/
def State.loopComputed (s : State) (n : Nat) : LoopEnd :=
  let q := s.compute n
  let t := s.get Reg.CTL_Sn_FE_TIME_FE_TIME n
  let ef := |q.ef|
  let beyond := decide ((s.get Reg.CTL_Sn_FE_LIM_FE_LIM n : Int) * 2 ^ 25 < ef)
  let timer := if t = 0 then 0 else if beyond then q.l.feTimer + 1 else 0
  let s := s.cond (s.get Reg.CTL_Sn_CTRL_FF_MODE n == 1 && q.l.src.f == 0) (·.draw)
  let s := s.setLoop n { q.l with ovrRun := 0, fbbRun := 0, feTimer := timer }
  let s := (s.setOut n (ofInt 16 q.u)).ctlCount Reg.CTL_Sn_PERIODS_COUNT n
  let s := s.put Reg.CTL_Sn_FEMAX_FEMAX (max (s.get Reg.CTL_Sn_FEMAX_FEMAX n) (min (2 ^ 32 - 1) (ef / 2 ^ 25).toNat)) n
  { s := s, fex := beyond && decide (t ≠ 0), sat := q.sat, ffsat := q.ffsat, causes := if t ≠ 0 ∧ t ≤ timer then 2 else 0 }

/-- The deadline edge of a period (R326, R335 to R341). -/
def execLoopDeadline (slot : Nat) (s : State) : Out :=
  need (decide (slot < 4)) <|
    let l := s.loop slot
    let due := l.start + s.get Reg.CTL_Sn_DEADLINE_DEADLINE slot
    if l.off_ then
      let due := if l.busy then due else s.loopNext slot + s.get Reg.CTL_Sn_DEADLINE_DEADLINE slot
      let s := (s.advanceTo due).setOut slot (s.get Reg.CTL_Sn_SAFE_SAFE_OUT slot)
      s.setLoop slot { s.loop slot with off_ := false, busy := false }
    else if l.busy && decide (s.slotState slot ≠ 3) && s.slotEn slot then
      let s := s.advanceTo due
      let long := s.etOff != l.off
      let r := if l.src.hold ≠ 0 then s.loopHold slot
        else if !l.done || l.src.bad then s.loopMiss slot (!l.done) l.src.bad
        else s.loopComputed slot
      let s := r.s.showLoop slot
      let l := s.loop slot
      let logs := l.logs (s.get Reg.CTL_Sn_CTRL_LOG_DIV slot)
      let s := s.setLoop slot { l with busy := false, log := if logs then some 0 else some ((l.log.getD 0) + 1) }
      let s := s.cond (r.causes != 0) (·.loopFault slot r.causes)
      s.cond (logs || r.causes != 0) (·.loopRecord slot r.ovr r.fbb r.fex r.hold r.sat long r.ffsat)
    else s

/-! ## Enable and commit (R327, R328, R339, R340, R344) -/

/-- Computation time of a TYPE (R327). -/
def loopTime (ty : Nat) : Nat := [400, 400, 300, 700].getD ty 400

/-- Slots enabled with slot `n` among them. -/
def State.loopsWith (s : State) (n : Nat) : List Nat := (List.range 4).filter fun k => k == n || s.slotEn k

/-- The completion bound of slot `k` among enabled slots (R327). -/
def State.loopBound (s : State) (l : List Nat) (k : Nat) : Nat :=
  l.foldl (fun a j => if j ≤ k then a + loopTime (s.get Reg.CTL_Sn_CTRL_TYPE j) else a) 0

/-- The load of slots, as an exact fraction (R328). -/
def State.load (s : State) (l : List Nat) : Nat × Nat :=
  l.foldl (fun (x : Nat × Nat) k =>
    let t := loopTime (s.get Reg.CTL_Sn_CTRL_TYPE k)
    let p := max 1 (s.get Reg.CTL_Sn_PERIOD_PERIOD k)
    (x.1 * p + t * x.2, x.2 * p)) (0, 1)

/-- CTL_LOAD (R328). -/
def State.showLoad (s : State) : State :=
  let x := s.load ((List.range 4).filter s.slotEn)
  s.put Reg.CTL_LOAD_LOAD (min 1023 (x.1 * 1024 / x.2))

/-- A source may be named: it exists, and a pulse counter it names counts. -/
def State.srcOk (s : State) (c : Nat) : Bool := srcValid c && (!srcPulse c || s.pcntMode (c - 8) != 0)

/-- The first check of R328 that fails, 0 for none. -/
def State.loopErr (s : State) (n : Nat) : Nat :=
  let p := s.get Reg.CTL_Sn_PERIOD_PERIOD n
  let l := s.loopsWith n
  let fb := s.get Reg.CTL_Sn_SRC_FB_SRC n
  let sp := s.get Reg.CTL_Sn_SRC_SP_SRC n
  let ff := s.get Reg.CTL_Sn_SRC_FF_SRC n
  let ty := s.get Reg.CTL_Sn_CTRL_TYPE n
  let mode := s.get Reg.CTL_Sn_CTRL_FF_MODE n
  let x := s.load l
  if p < 2500 ∨ 2 ^ 28 - 250 < p ∨ p % 250 ≠ 0 then 1
  else if p < s.get Reg.CTL_Sn_DEADLINE_DEADLINE n ∨
      (l.any fun k => decide (n ≤ k) && decide (s.get Reg.CTL_Sn_DEADLINE_DEADLINE k < s.loopBound l k)) = true then 2
  else if x.2 < 2 * x.1 then 3
  else if s.srcOk fb = false ∨ (sp ≠ 0 ∧ s.srcOk sp = false) ∨ (ff ≠ 0 ∧ s.srcOk ff = false) then 4
  else if (mode = 2 ∧ ty ≠ 3) ∨ (s.get Reg.CTL_Sn_GATE_GATE_PRIM n ≠ 0x1FF ∧ ty ≠ 2) ∨ mode = 3 then 5
  else if s.get Reg.CTL_Sn_CTRL_OUT_MODE n = 0 then 6
  else 0

/-- While a slot is OFF its output is SAFE_OUT (R340). -/
def State.loopSafe (s : State) (n : Nat) : State :=
  if (!s.slotEn n && !(s.loop n).off_) || s.slotState n == 3 then
    s.setOut n (s.get Reg.CTL_Sn_SAFE_SAFE_OUT n)
  else s

/-- EN falls: the slot is OFF, and SAFE_OUT follows at the next deadline edge (R339, R340). -/
def State.loopOff (s : State) (n : Nat) : State :=
  let faulted := s.slotState n == 3
  let s := (s.put Reg.CTL_Sn_CTRL_EN 0 n).put Reg.CTL_Sn_STATUS_STATE 0 n
  (s.setLoop n { s.loop n with off_ := !faulted }).showLoad

/-- The locked fields of CTL_Sn_CTRL with their places. -/
def ctrlLocked : List (Fld × Nat × Nat) :=
  [(Reg.CTL_Sn_CTRL_TYPE, 1, 2), (Reg.CTL_Sn_CTRL_OUT_MODE, 4, 2), (Reg.CTL_Sn_CTRL_FB_AVG, 6, 1), (Reg.CTL_Sn_CTRL_FF_MODE, 8, 2),
   (Reg.CTL_Sn_CTRL_INHIBIT, 10, 2)]

/-- PENDING: staged fields of a slot await a commit (R344). -/
def State.showPending (s : State) (n : Nat) : State :=
  s.putB Reg.CTL_Sn_STATUS_PENDING (s.shadow.any fun e => e.1.i == n && (loopStaged.any fun f => f.id == e.1.f)) n

/-- A write of CTL_Sn_CTRL, judged by the state before it (R328, R552). -/
def State.loopCtrl (s : State) (n v : Nat) : State :=
  let en := s.slotEn n
  if en then
    let s := s.each ctrlLocked fun s x => if s.get x.1 n = bits v x.2.1 x.2.2 then s else s.put Reg.CTL_INT_REFUSED 1
    let s := (s.stage Reg.CTL_Sn_CTRL_LOG_DIV (bits v 16 8) n).put Reg.CTL_Sn_STATUS_PENDING 1 n
    if bit v 0 then s else s.loopOff n
  else
    let t := s.each ctrlLocked fun s x => s.put x.1 (bits v x.2.1 x.2.2) n
    let t := ((t.put Reg.CTL_Sn_CTRL_LOG_DIV (bits v 16 8) n).unstage Reg.CTL_Sn_CTRL_LOG_DIV n).showPending n
    if bit v 0 then
      let err := t.loopErr n
      if err = 0 then
        let t := ((t.put Reg.CTL_Sn_CTRL_EN 1 n).put Reg.CTL_Sn_STATUS_STATE 1 n).put Reg.CTL_Sn_STATUS_ERR 0 n
        let t := (t.put Reg.CTL_Sn_STATUS_CAUSE 0 n).put Reg.CTL_Sn_STATUS_CAUSE_SET 0 n
        let l := t.loop n
        (t.setLoop n { start := t.dtRef, off := t.etOff, commit := l.commit, outAt := l.outAt, outOld := l.outOld }).showLoad
      else (s.put Reg.CTL_INT_REFUSED 1).put Reg.CTL_Sn_STATUS_ERR err n
    else t.loopSafe n

/-- A write of CTL_Sn_CTRL with EN = 1 (R328, R333). -/
def execLoopEnable (slot val : Nat) (s : State) : Out :=
  need (decide (slot < 4) && bit val 0) (s.bar (0x1C0100 + 0x80 * slot) (·.loopCtrl slot val))

/-- A write of CTL_Sn_CTRL with EN = 0 (R339, R340). -/
def execLoopDisable (slot val : Nat) (s : State) : Out :=
  need (decide (slot < 4) && !bit val 0) (s.bar (0x1C0100 + 0x80 * slot) (·.loopCtrl slot val))

/-- A write of CTL_Sn_CMD.COMMIT = 1: the staged fields commit at the next period start edge (R344). -/
def State.loopCommit (s : State) (n : Nat) : State := s.setLoop n { s.loop n with commit := true }

def execLoopCommit (slot : Nat) (s : State) : Out :=
  need (decide (slot < 4)) (s.bar (0x1C0154 + 0x80 * slot) (·.loopCommit slot))

/-- A write of CTL_CNT_CLR (R343). -/
def execCtlCntClr (s : State) : Out :=
  .next <| s.bar 0x1C0068 fun s => s.clearFields ([Reg.CTL_PCNT_ERR_COUNT, Reg.CTL_LOST_COUNT, Reg.CTL_Sn_OVR_COUNT,
    Reg.CTL_Sn_FEMAX_FEMAX, Reg.CTL_Sn_PERIODS_COUNT].map (·.id))

end Sys2Proof.Machine
end

