-- ==== Sys2Proof/Machine/Handler.lean ====
section
/-! DEFINITION. Machine/Handler.lean: the lamplighter: core voting, the fault handler and its records, and the I2C port
(chapter 17). -/

namespace Sys2Proof.Machine

/-- The lamplighter runs: from stage 1 of a start on. -/
def State.lampRuns (s : State) : Bool :=
  match s.sys.phase with
  | .running | .pilot => true
  | .starting => decide (1 ≤ s.get Reg.BOOT_STATUS_STAGE)
  | _ => false

/-- LIF_STATUS.CORE of one core: 0 voting, 1 standby, 2 resynchronising, 3 retired or failed (R511). -/
def State.coreState (s : State) (c : Nat) : Nat := bits (s.get Reg.LIF_STATUS_CORE) (2 * c) 2

def State.setCore (s : State) (c v : Nat) : State :=
  s.put Reg.LIF_STATUS_CORE (setBits (s.get Reg.LIF_STATUS_CORE) (2 * c) 2 v)

/-- The cores that vote. -/
def State.voters (s : State) : List Nat := [0, 1, 2, 3].filter fun c => s.coreState c == 0

/-- One resynchronisation is counted and reported (R496). -/
def State.resync (s : State) (c hs : Nat) : State :=
  let s := s.bump Reg.LIF_RESYNC_COUNT Reg.GEN_INT_CNT_SAT
  ((s.put Reg.LIF_LAST_CORE c).put Reg.LIF_LAST_HS hs).put Reg.GEN_INT_RESYNC 1

/-- A core is retired: the standby core joins the vote through one resynchronisation, or the vote goes duplex (R497). -/
def State.retireCore (s : State) (c hs : Nat) : State :=
  let s := (((s.setCore c 3).put Reg.GEN_INT_RETIRED 1).audit 0x14 0 (poolTarget 0xD c) 0 0 0).unitOut 0xD c
  match [0, 1, 2, 3].find? fun k => s.coreState k == 1 with
  | some k => (((s.setCore k 0).resync k hs).put Reg.LIF_STATUS_MODE 1).bringSpare 0xD k 0
  | none => s.put Reg.LIF_STATUS_MODE 2

/-- A voting core disagrees: with three voting it is resynchronised from the voted state, and retired in place of its fourth
resynchronisation within 1 s; with two voting the disagreement raises fault 0x03 (R496, R497). -/
def execCoreDisagree (core hs : Nat) (s : State) : Out :=
  need (decide (core < 4) && decide (1 ≤ hs) && decide (hs ≤ 3)) <|
    if !s.lampRuns || s.coreState core != 0 then s
    else if s.voters.length < 3 then s.fault 3 0
    else
      let old := ((s.cores.getD core {}).resyncs).filter fun t => decide (s.dtRef < t + 250000000)
      if 3 ≤ old.length then s.retireCore core hs
      else { s with cores := setAt s.cores core { resyncs := s.dtRef :: old } }.resync core hs

/-- The firmware has not signalled progress for 100 ms: fault 0x04 (R499). -/
def execLamplighterWatchdog (s : State) : Out := .next (if s.lampRuns then s.fault 4 0 else s)

/-- A fault's record enters the FIFO of 64, which keeps its older records (R501). -/
def State.recordFault (s : State) (r : FaultRec) : State :=
  let s := s.cond (decide (3 ≤ r.sev)) (·.put Reg.GEN_INT_SEV34 1)
  if s.flt.fifo.length < 64 then
    { s with flt := { s.flt with fifo := s.flt.fifo ++ [r] } }.put Reg.GEN_INT_FAULT 1
  else s.bump Reg.GEN_FAULT_RECLOST_COUNT Reg.GEN_INT_CNT_SAT

/-- The queued fault served next: highest severity, and within it first come (R500). -/
def nextFault (q : List FaultRec) : Option FaultRec :=
  q.foldl (fun b r => match b with
    | none => some r
    | some x => if x.sev < r.sev then some r else some x) none

/-- Handling of a fault ends: its record is written, and the handler resumes a pre-empted fault or takes the next queued
one, a queued fault first when its severity is the higher (R500, R501). -/
def execFaultHandlingEnd (s : State) : Out :=
  match s.flt.under with
  | none => .next s
  | some u =>
    let s := s.recordFault u
    let q := nextFault s.flt.queue
    let takeQ : FaultRec → State := fun r =>
      { s with flt := { s.flt with under := some r, queue := s.flt.queue.erase r } }
    let s' := match s.flt.preempted, q with
      | [], none => { s with flt := { s.flt with under := none } }
      | [], some r => takeQ r
      | p :: ps, none => { s with flt := { s.flt with under := some p, preempted := ps } }
      | p :: ps, some r =>
        if p.sev < r.sev then takeQ r else { s with flt := { s.flt with under := some p, preempted := ps } }
    .next s'.syncFault

/-- A write of GEN_FAULT_ACK.ACK releases FAULT_N once no fault of severity 3 or 4 is under way, pre-empted or queued
(R502). -/
def execGenFaultAck (s : State) : Out :=
  .next (s.bar 0x118 fun s =>
    if (s.flt.under.toList ++ s.flt.preempted ++ s.flt.queue).any fun r => decide (3 ≤ r.sev) then s
    else { s with sys := { s.sys with faultLow := false } })

/-- FAULT_N is driven low: by a fault, in reset, before stage 10 and in pilot-light mode (R502). BMC_ALERT_N follows. -/
def State.faultN (s : State) : Bool := s.sys.faultLow || s.sys.phase != .running

/-- A read of GEN_FAULT_DT_LO takes a snapshot of the head record (R510). -/
def State.faultSnapshot (s : State) : State :=
  match s.flt.fifo with
  | [] => s.clearFields ([Reg.GEN_FAULT_DT_DT, Reg.GEN_FAULT_INFO_CODE, Reg.GEN_FAULT_INFO_SEV, Reg.GEN_FAULT_INFO_SRC,
      Reg.GEN_FAULT_INFO_REPEAT, Reg.GEN_FAULT_INFO_VALID].map (·.id))
  | r :: _ =>
    let s := ((s.put Reg.GEN_FAULT_DT_DT r.dt).put Reg.GEN_FAULT_INFO_CODE r.code).put Reg.GEN_FAULT_INFO_SEV r.sev
    ((s.put Reg.GEN_FAULT_INFO_SRC r.src).put Reg.GEN_FAULT_INFO_REPEAT r.rep).put Reg.GEN_FAULT_INFO_VALID 1

/-- A read of GEN_FAULT_INFO removes the record of the snapshot (R510). -/
def State.faultRemove (s : State) : State :=
  if s.flag Reg.GEN_FAULT_INFO_VALID then
    { s with flt := { s.flt with fifo := s.flt.fifo.drop 1 } }.put Reg.GEN_FAULT_INFO_VALID 0
  else s

/-- GEN_FAULT_INFO as it reads. -/
def State.faultInfo (s : State) : Nat :=
  s.get Reg.GEN_FAULT_INFO_CODE + s.get Reg.GEN_FAULT_INFO_SEV * 2 ^ 8 + s.get Reg.GEN_FAULT_INFO_SRC * 2 ^ 12 +
    s.get Reg.GEN_FAULT_INFO_REPEAT * 2 ^ 24 + s.get Reg.GEN_FAULT_INFO_VALID * 2 ^ 31

/-- The two reads, which return the low word of DT and GEN_FAULT_INFO (R510). -/
def execFaultRecordSnapshot (s : State) : Out :=
  .next (if s.responds 0x104 then
    let s := s.faultSnapshot
    { s with rdata := [s.get Reg.GEN_FAULT_DT_DT % 2 ^ 32] }
  else s)
def execFaultRecordRemove (s : State) : Out :=
  .next (if s.responds 0x10C then { s with rdata := [s.faultInfo] }.faultRemove else s)

/-- A write of GEN_CNT_CLR clears the fault counters and LIF_RESYNC (R510). -/
def execGenCntClr (s : State) : Out :=
  .next (s.bar 0x148 (·.clearFields
    ([Reg.GEN_FAULT_RECLOST_COUNT, Reg.GEN_FAULT_BUSY_COUNT, Reg.LIF_RESYNC_COUNT].map (·.id))))

/-- The module's I2C address: 0b10010, I2C_ADDR1, I2C_ADDR0 (R32). -/
def State.i2cSlave (s : State) : Nat := 0x48 + s.sys.i2cStrap % 4

/-- The I2C port answers a transaction to `slave`: it is the module's address, and VAUX and VIO are in range (R32, R508). -/
def State.i2cWorks (s : State) (slave : Nat) : Bool :=
  decide (slave = s.i2cSlave) && s.sys.phase != .dead && s.sys.rails.contains .vaux && s.sys.rails.contains .vio

/-- A write transaction sets the 16-bit register pointer (R508). -/
def execI2cPointerWrite (slave ptr : Nat) (s : State) : Out :=
  .next (if s.i2cWorks slave then { s with sys := { s.sys with i2cPtr := ptr % 65536 } } else s)

end Sys2Proof.Machine
end

