-- ==== Sys2Proof/Machine/Fabric.lean ====
section
/-! DEFINITION. Machine/Fabric.lean: wicks, waves, the fabric check, cones and idle groups (R243 to R248, R259, R260). -/

namespace Sys2Proof.Machine

def State.setFab (s : State) (f : Fab) : State := { s with fab := f }

/-- The entry of a wick that has not been loaded (R244), and the code of a group input that has not been. -/
def wickReset : Wick := {}
def ginReset : Nat := 0xFFFE

def Fab.wick (f : Fab) (w : Nat) : Wick := NMap.get wickReset f.wicks w
def Fab.input (f : Fab) (k : Nat) : Nat := NMap.get ginReset f.gin k
def Wick.sel (e : Wick) (i : Nat) : Nat := bits e.cfg (8 * i) 8
def Wick.mode (e : Wick) : Nat := bits e.cfg 48 2
def Wick.init (e : Wick) : Bool := bit e.cfg 50

/-! ## Evaluation (R243, R244, R246) -/

/-- The value of a source code: `lvl` gives primitives and status inputs, `on` the wicks whose output is 1. -/
def srcVal (lvl : Nat → Bool) (on : List Nat) (code : Nat) : Bool :=
  if code < 0x210 then lvl code
  else if 0x400 ≤ code ∧ code < 0x4400 then on.contains (code - 0x400)
  else code == 0xFFFF

/-- The value a selector of a wick in group `g` reads. -/
def Fab.selVal (f : Fab) (lvl : Nat → Bool) (on : List Nat) (g sel : Nat) : Bool :=
  if sel < 0x40 then on.contains (g * 64 + sel)
  else if sel < 0x80 then srcVal lvl on (f.input (g * 64 + sel - 0x40))
  else sel == 0xFF

/-- LUT(a) of a wick. -/
def Fab.lutVal (f : Fab) (lvl : Nat → Bool) (on : List Nat) (w : Nat) (e : Wick) : Bool :=
  bit e.lut ((List.range 6).foldl (fun a i => a + boolNat (f.selVal lvl on (w / 64) (e.sel i)) * 2 ^ i) 0)

/-- One evaluation of every loaded wick from the outputs `on`; an unloaded wick gives 0. -/
def Fab.round (f : Fab) (lvl : Nat → Bool) (on : List Nat) : List Nat :=
  (f.wicks.filter fun (x : Nat × Wick) =>
    let v := f.lutVal lvl on x.1 x.2
    match x.2.mode with
    | 0 => v
    | 1 => (v || f.out.contains x.1) && !f.selVal lvl on (x.1 / 64) (x.2.sel 5)
    | 2 => v && !f.prevLut.contains x.1
    | _ => f.prevLut.contains x.1).map (·.1)

/-- The outputs of a wave: a fabric that passes R247 has settled after as many rounds as its depth. -/
def Fab.settle (f : Fab) (lvl : Nat → Bool) : List Nat := (List.range 26).foldl (fun on _ => f.round lvl on) []

/-- The wicks whose LUT gives 1 with the outputs `on`. -/
def Fab.luts (f : Fab) (lvl : Nat → Bool) (on : List Nat) : List Nat :=
  (f.wicks.filter fun (x : Nat × Wick) => f.lutVal lvl on x.1 x.2).map (·.1)

/-- The level of a primitive or status input at this edge (R188, R245, R246). -/
def State.level (s : State) (code : Nat) : Bool :=
  if code < 0x200 then
    s.trg.pulses.any fun x => x.prim == code && decide (x.from_ ≤ s.dtRef) && (decide (s.dtRef < x.stop) || !x.taken)
  else match code - 0x200 with
    | 0 | 1 | 2 | 3 => s.evt.tap.getD (code - 0x200) false
    | 4 => !s.ringRoom { words := [(0, false)] }
    | 5 => s.trg.pend != []
    | 6 => s.get Reg.TIM_STATUS_STATE == 4
    | 7 => s.etValid
    | i => bit (s.get Reg.FAB_HOST_LEVEL_LEVEL) (i - 8)

/-- The condition outputs (R248). -/
def State.condOutputs (s : State) : Nat :=
  (List.range 64).foldl (fun v c =>
    if s.flag Reg.FAB_COND_MAP_VALID c && s.fab.out.contains (s.get Reg.FAB_COND_MAP_WICK c) then v + 2 ^ c else v) 0

/-- A slow wave is counted (R246). -/
def State.slowWave (s : State) : State := (s.bump Reg.FAB_SLOW_COUNT Reg.FAB_INT_CNT_SAT).put Reg.FAB_INT_SLOW 1

/-- A reference edge at which a wave may be launched: it takes the levels at this edge; a wave still under way is slow (R246). -/
def execFabricWaveLaunch (s : State) : Out :=
  .next <|
    match s.fab.wave with
    | some w => if w.slow then s else (s.setFab { s.fab with wave := some { w with slow := true } }).slowWave
    | none =>
      let on := s.fab.settle s.level
      let live (x : Pulse) : Bool := s.level x.prim
      let w : Wave := { at_ := s.dtRef, out := on, lut := s.fab.luts s.level on
                        seen := (s.trg.pulses.filter fun x => live x && !x.old).map fun x => (x.prim, x.ev) }
      let l : List Pulse := s.trg.pulses.map fun x => if live x then { x with taken := true } else x
      let s := { s with trg := { s.trg with pulses := l }, evt := { s.evt with tap := [false, false, false, false] } }
      s.setFab { s.fab with wave := some w }

/-- Every wick has latched its output: the wave completes (R246). -/
def execWaveComplete (s : State) : Out :=
  .next <|
    match s.fab.wave with
    | none => s
    | some w =>
      let s := s.cond (!w.slow && decide (w.at_ < s.dtRef)) (·.slowWave)
      let s := s.setFab { s.fab with out := w.out, prevLut := w.lut, wave := none }
      let seen := w.seen ++ s.trg.seen.filter fun e => !(w.seen.any fun x => x.1 == e.1)
      { s with trg := { s.trg with out := s.condOutputs, seen := seen } }

/-- Every wick takes its INIT value, at a rise of TRG_CTRL.EN, and an event from before it gives no trigger time (R190, R244). -/
def State.initFabric (s : State) : State :=
  let l := (s.fab.wicks.filter fun (x : Nat × Wick) => x.2.init).map (·.1)
  let s := s.setFab { s.fab with out := l, prevLut := l, wave := none }
  { s with trg := { s.trg with out := s.condOutputs, seen := [], pulses := s.trg.pulses.map fun x => { x with old := true } } }

/-! ## Depth, cones and idle groups (R247, R248, R259) -/

/-- The wicks a wick selects. -/
def Fab.selects (f : Fab) (w : Nat) : List Nat :=
  (List.range 6).filterMap fun i =>
    let sel := (f.wick w).sel i
    if sel < 0x40 then some (w / 64 * 64 + sel)
    else if sel < 0x80 then
      let c := f.input (w / 64 * 64 + sel - 0x40)
      if 0x400 ≤ c ∧ c < 0x4400 then some (c - 0x400) else none
    else none

/-- Depths after one more round; an unloaded wick has depth 1. -/
def Fab.depthRound (f : Fab) (d : NMap Nat) : NMap Nat :=
  f.wicks.map fun (x : Nat × Wick) =>
    (x.1, if x.2.mode = 3 then 0 else 1 + (f.selects x.1).foldl (fun m y => max m (NMap.get 1 d y)) 0)

/-- The depth of each loaded wick; above 24 where R247 fails. -/
def Fab.depths (f : Fab) : NMap Nat := (List.range 27).foldl (fun d _ => f.depthRound d) []

def selOk (v : Nat) : Bool := decide (v < 0x80) || v == 0xFE || v == 0xFF
def codeOk (v : Nat) : Bool :=
  decide (v < 0x210) || (decide (0x400 ≤ v) && decide (v < 0x4400)) || v == 0xFFFE || v == 0xFFFF

/-- The fabric passes its checks: R247, and no reserved selector or code (R254: error 0x6). -/
def Fab.ok (f : Fab) : Bool :=
  (f.depths.all fun (x : Nat × Nat) => decide (x.2 ≤ 24)) &&
  (f.wicks.all fun (x : Nat × Wick) => (List.range 6).all fun i => selOk (x.2.sel i)) &&
  f.gin.all fun (x : Nat × Nat) => codeOk x.2

/-- DEPTH of the fabric and of each condition's wick (R265). -/
def State.showDepth (s : State) : State :=
  let d := s.fab.depths
  let s := s.put Reg.FAB_STATUS_DEPTH (d.foldl (fun m x => max m x.2) 1)
  s.each (List.range 64) fun s c => s.put Reg.FAB_COND_MAP_DEPTH (NMap.get 1 d (s.get Reg.FAB_COND_MAP_WICK c)) c

/-- What `n` more selections reach from a set of wicks. -/
def Fab.reach (f : Fab) : Nat → List Nat → List Nat
  | 0, l => l
  | n + 1, l => f.reach n (l ++ (l.flatMap f.selects).filter fun w => !l.contains w).dedup

/-- The cone of a condition: the groups of the wicks its output depends on (R248). -/
def State.cone (s : State) (c : Nat) : List Nat :=
  if s.flag Reg.FAB_COND_MAP_VALID c then
    ((s.fab.reach (s.fab.wicks.length + 1) [s.get Reg.FAB_COND_MAP_WICK c]).map (· / 64)).dedup
  else []

/-- A condition's active or staged EN is 1. -/
def State.condEn (s : State) (c : Nat) : Bool :=
  s.flag Reg.TRG_COND_CFG_EN 0 c || s.shadowOf Reg.TRG_COND_CFG_EN 0 c == some 1

/-- A reload holds the group. -/
def State.reloadHolds (s : State) (g : Nat) : Bool := (s.fab.reload.map fun r => r.groups.contains g).getD false

/-- A wick group is idle (R259). -/
def State.groupIdle (s : State) (g : Nat) : Bool :=
  !s.reloadHolds g && !((List.range 64).any fun c => s.condEn c && (s.cone c).contains g)

/-! ## Writes to the fabric (R259, R260) -/

/-- A wick takes an entry, and with it its INIT value, which a wave under way does not change (R244). -/
def Fab.setWick (f : Fab) (w : Nat) (e : Wick) : Fab :=
  let l (x : List Nat) : List Nat := if e.init then w :: x.filter (· != w) else x.filter (· != w)
  { f with wicks := NMap.set wickReset f.wicks w e, out := l f.out, prevLut := l f.prevLut
           wave := f.wave.map fun v => { v with out := l v.out, lut := l v.lut } }

def Fab.apply (f : Fab) : FabWrite → Fab
  | .wick w e => f.setWick w e
  | .gin k c => { f with gin := NMap.set ginReset f.gin k c }

/-- The fabric check ends: the write applies, or it is refused with ERR 0x6 (R260). -/
def State.checkDone (s : State) : State :=
  match s.fab.check with
  | none => s
  | some x =>
    let s := (s.setFab { s.fab with check := none }).put Reg.FAB_STATUS_CHECKING 0
    let f := s.fab.apply x
    if f.ok then (s.setFab f).showDepth
    else (s.put Reg.FAB_STATUS_ERR 6).put Reg.FAB_INT_REFUSED 1

def execFabricCheckDone (s : State) : Out := .next s.checkDone

/-- A write to an idle group goes to the check; one that changes nothing has no effect, and one to another group is refused (R259,
R260). -/
def State.fabWrite (s : State) (g : Nat) (same : Bool) (x : FabWrite) : State :=
  if same then s
  else if s.groupIdle g then (s.setFab { s.fab with check := some x }).put Reg.FAB_STATUS_CHECKING 1
  else s.put Reg.FAB_INT_REFUSED 1

/-- The words held for a wick's entry are given up. -/
def State.dropHeld (s : State) : State := s.setFab { s.fab with lutLo := none, lutHi := none, cfgLo := none }

/-- A BAR0 access to the FAB block, which a check under way holds until it ends (R260). -/
def State.fabBar (s : State) (a : Nat) (f : State → State) : State := s.bar a fun s => f s.checkDone

/-- A write of FAB_WICK_CFG_HI submits the entry: the words held, and for a word not written the one in force. During a check the
access completes when the check ends (R260). -/
def execWickWrite (val : Nat) (s : State) : Out :=
  .next <| s.fabBar 0x180018 fun s =>
    let w := s.get Reg.FAB_WICK_SEL_WICK
    let old := s.fab.wick w
    let e : Wick := { lut := s.fab.lutLo.getD (old.lut % 2 ^ 32) + s.fab.lutHi.getD (old.lut / 2 ^ 32) * 2 ^ 32
                      cfg := s.fab.cfgLo.getD (old.cfg % 2 ^ 32) + val % 2 ^ 19 * 2 ^ 32 }
    s.dropHeld.fabWrite (w / 64) (decide (e = old)) (.wick w e)

/-- A write of FAB_GIN_DATA changes the selected group input (R260). -/
def execGroupInputWrite (val : Nat) (s : State) : Out :=
  .next <| s.fabBar 0x180020 fun s =>
    let g := s.get Reg.FAB_GIN_SEL_GROUP
    let k := g * 64 + s.get Reg.FAB_GIN_SEL_INPUT
    s.fabWrite g (s.fab.input k == val % 65536) (.gin k (val % 65536))

/-- A write of FAB_CNT_CLR (R265). -/
def execFabCntClr (s : State) : Out :=
  .next <| s.fabBar 0x180198 fun s =>
    ((s.put Reg.FAB_SLOW_COUNT 0).put Reg.FAB_SEU_CORR 0).put Reg.FAB_SEU_UNCORR 0

end Sys2Proof.Machine
end

