-- ==== Sys2Proof/Machine/Image.lean ====
section
/-! DEFINITION. Machine/Image.lean: image format and checks, slots, programming, partial reloads and the scrubber (R239 to R242,
R249 to R264). -/

namespace Sys2Proof.Machine

/-! ## Format (R249 to R251) -/

/-- A little-endian number of `n` bytes at offset `o`. -/
def leAt (l : List Nat) (o n : Nat) : Nat := bytesNum ((l.drop o).take n)

/-- The largest image (R249). -/
def imgMax : Nat := 50331648

/-- A directory entry (R251). -/
structure ISect where
  ty : Nat
  comp : Bool
  off : Nat
  slen : Nat
  ulen : Nat
  ucrc : Nat
  deriving DecidableEq, Repr

def imgNsect (b : List Nat) : Nat := leAt b 6 2
def imgSize (b : List Nat) : Nat := leAt b 8 4
def imgPartial (b : List Nat) : Bool := bit (leAt b 0x1C 4) 0

def imgDir (b : List Nat) : List ISect :=
  (List.range (imgNsect b)).map fun i =>
    let o := 0x40 + 32 * i
    { ty := leAt b o 2, comp := bit (leAt b (o + 2) 2) 0, off := leAt b (o + 4) 4, slen := leAt b (o + 8) 4, ulen := leAt b (o + 12) 4
      ucrc := leAt b (o + 16) 4 }

/-- The stored bytes of a section. -/
def ISect.stored (x : ISect) (b : List Nat) : List Nat := (b.drop x.off).take x.slen

/-- Decompress whole blocks one after another (R453); the answer is the words, or the error code of R454. -/
def decodeAll : Nat → Option Nat → Dict → List Nat → Except Nat (List Nat)
  | 0, _, _, _ => .ok []
  | n + 1, bs, d, l =>
    if l = [] then .ok []
    else match decodeBlock bs d l with
      | (_, .error e) => .error e
      | (k, .ok (w, d')) =>
        match decodeAll n (some (bits (l.headD 0) 32 16 + 1)) d' (l.drop k) with
        | .error e => .error e
        | .ok r => .ok (w ++ r)

/-- The uncompressed content of a section, or the decompressor's error code. -/
def ISect.content (x : ISect) (b : List Nat) : Except Nat (List Nat) :=
  if x.comp then
    let w := bytesWords 8 (x.slen / 8) (x.stored b)
    match decodeAll (w.length + 1) none [] w with
    | .error e => .error e
    | .ok r => .ok (wordBytes r)
  else .ok (x.stored b)

/-- The content of the section of a type, empty where there is none or it does not decode. -/
def imgContent (b : List Nat) (ty : Nat) : List Nat :=
  match (imgDir b).find? fun x => x.ty == ty with
  | none => []
  | some x => match x.content b with
    | .ok l => l
    | .error _ => []

def imgHas (b : List Nat) (ty : Nat) : Bool := (imgDir b).any fun x => x.ty == ty

/-! ## Checks (R242, R247, R252 to R254) -/

/-- Check 0x1: MAGIC, FORMAT, PART and HCRC. -/
def imgHeaderOk (b : List Nat) : Bool :=
  decide (0x40 ≤ b.length) && leAt b 0 4 == 0x4C4D4934 && leAt b 4 2 == 1 && leAt b 0xC 4 == 0x4102 &&
    leAt b 0x3C 4 == crc32c (b.take 0x3C)

/-- Check 0x2: NSECT, known types in ascending order with the check section last, offsets of whole 4 KiB without overlap, the
sections that the use requires, and the PARTIAL flag. -/
def imgDirOk (isReload : Bool) (b : List Nat) : Bool :=
  let d := imgDir b
  let tys := d.map (·.ty)
  decide (2 ≤ imgNsect b) && decide (imgNsect b ≤ 10) &&
  (tys.all fun t => [1, 2, 3, 4, 5, 6, 7, 8, 0xF].contains t) && (tys.zip (tys.drop 1)).all (fun p => decide (p.1 < p.2)) &&
  tys.getLast? == some 0xF && (d.all fun x => x.off % 4096 == 0 && decide (0x40 + 32 * imgNsect b ≤ x.off) &&
    decide (x.off + x.slen ≤ imgSize b)) &&
  (d.all fun x => d.all fun y => x.ty == y.ty || decide (x.off + x.slen ≤ y.off) || decide (y.off + y.slen ≤ x.off)) &&
  imgPartial b == isReload && (if isReload then tys == [2, 0xF] else [1, 2, 8, 0xF].all fun t => tys.contains t)

/-- The length that a section's content allows (R252): topology, region map and check have one length, a record list whole records. -/
def ISect.lenOk (x : ISect) : Bool :=
  match x.ty with
  | 1 => x.ulen == 768
  | 3 => x.ulen == 65536 * 8
  | 5 | 6 | 7 => x.ulen % 8 == 0
  | 0xF => x.ulen == 12
  | _ => true

/-- Check 0x4: SIZE, and lengths. -/
def imgSizeOk (b : List Nat) : Bool :=
  decide (imgSize b ≤ imgMax) && decide (imgSize b ≤ b.length) && (imgDir b).all fun x => x.lenOk && (x.comp || x.slen == x.ulen)

/-- Check 0x3: ICRC and IMAGE_ID of the check section, and each section's length, UCRC and blocks. -/
def imgCrcOk (b : List Nat) : Bool :=
  (imgDir b).all fun x =>
    match x.content b with
    | .error _ => false
    | .ok l => l.length == x.ulen && crc32c l == x.ucrc &&
        (x.ty != 0xF || (leAt l 0 8 == leAt b 0x10 8 && leAt l 8 4 == crc32c (b.take x.off)))

/-- A word of the topology section. -/
def topoWord (t : List Nat) (o i : Nat) : Nat := leAt t (o + 4 * i) 4

/-- The kinds of a stream's sinks, a context's output and the ingress that name device-to-host queue `q`. -/
def topoQueueSources (t : List Nat) (q : Nat) : Nat :=
  let n (l : List Bool) : Nat := (l.filter id).length
  n ((List.range 64).map fun i => bits (topoWord t 0x100 i) 0 4 == 1 && bits (topoWord t 0x100 i) 4 6 == q) +
  n ((List.range 64).map fun i => bits (topoWord t 0x100 i) 16 4 == 1 && bits (topoWord t 0x100 i) 20 6 == q) +
  n ((List.range 64).map fun i => bits (topoWord t 0x200 i) 0 4 == 1 && bits (topoWord t 0x200 i) 4 6 == q) +
  n ((List.range 8).map fun i => bit (topoWord t 0x60 i) 0 && bits (topoWord t 0x60 i) 1 6 == q)

/-- Check 0x5: R242. -/
def topoOk (t : List Nat) : Bool :=
  let sink := topoWord t 0x100
  let out := topoWord t 0x200
  let geom := topoWord t 0x10
  ((List.range 4).all fun i => decide (topoWord t 0 i < 16)) &&
  ((List.range 8).all fun i => bits (geom i) 22 2 == 0 && bits (geom i) 28 4 == 0 && bits (geom i) 24 4 != 0) &&
  ((List.range 32).all fun r => (List.range 32).all fun c =>
    ((List.range 8).filter fun e => let g := geom e
      decide (bits g 0 5 ≤ r) && decide (r < bits g 0 5 + bits g 5 6) && decide (bits g 11 5 ≤ c) && decide (c < bits g 11 5 + bits g 16 6)).length
      == 1) &&
  ((List.range 8).all fun e => decide (bits (geom e) 0 5 + bits (geom e) 5 6 ≤ 32) && decide (bits (geom e) 11 5 + bits (geom e) 16 6 ≤ 32)) &&
  ((List.range 8).all fun i => decide (topoWord t 0x40 i < 64) && decide (topoWord t 0x60 i < 128)) &&
  ((List.range 64).all fun i => let w := sink i
    [0, 1, 2, 3].contains (bits w 0 4) && [0, 1, 3].contains (bits w 16 4) && bits w 26 6 == 0 &&
    (bits w 0 4 != 2 || decide (bits w 4 6 < 4)) && (bits w 0 4 != 3 || decide (bits w 4 6 < 8)) &&
    (bits w 16 4 != 3 || decide (bits w 20 6 < 8))) &&
  ((List.range 64).all fun i => let w := out i
    [0, 1, 3].contains (bits w 0 4) && bits w 10 22 == 0 && (bits w 0 4 != 3 || decide (bits w 4 6 < 8))) &&
  ((List.range 64).all fun q => decide (topoQueueSources t q ≤ 1)) &&
  ((List.range 64).all fun c =>
    decide (((List.range 64).filter fun i => bits (sink i) 0 4 == 2 && bits (sink i) 10 6 == c).length ≤ 1))

/-- What the topology section says (R239 to R241). -/
def topoOf (t : List Nat) : Topo :=
  { sink := (List.range 64).map fun i => let w := topoWord t 0x100 i
      { pkind := bits w 0 4, pidx := bits w 4 6, cctx := bits w 10 6, skind := bits w 16 4, sidx := bits w 20 6 }
    cmpOut := (List.range 64).map fun i => (bits (topoWord t 0x200 i) 0 4, bits (topoWord t 0x200 i) 4 6)
    ingress := (List.range 8).map fun i =>
      if bit (topoWord t 0x60 i) 0 then some (bits (topoWord t 0x60 i) 1 6) else none
    ingressEntry := (List.range 8).map fun i => topoWord t 0x60 i
    role := (List.range 8).map fun i => let w := topoWord t 0x40 i
      (bits w 0 2, bits w 2 3, bit w 5)
    port := (List.range 4).map fun i => bits (topoWord t 0 i) 0 4 }

/-- The length of a fabric section by its head. -/
def fabLen (f : List Nat) : Nat := 16 + 1160 * leAt f 0 2 + 4 * leAt f 2 2

/-- Groups a fabric section lists, and its condition records as index and map entry. -/
def fabGroups (f : List Nat) : List Nat := (List.range (leAt f 0 2)).map fun i => leAt f (16 + 1160 * i) 2
def fabConds (f : List Nat) : List (Nat × Nat) :=
  (List.range (leAt f 2 2)).map fun i => let o := 16 + 1160 * leAt f 0 2 + 4 * i
    (leAt f o 1, leAt f (o + 2) 2)

/-- The wick entries and group inputs of a fabric section, as writes. -/
def fabWrites (f : List Nat) : List FabWrite :=
  (List.range (leAt f 0 2)).flatMap fun i =>
    let o := 16 + 1160 * i
    let g := leAt f o 2
    ((List.range 64).map fun k => .gin (g * 64 + k) (leAt f (o + 8 + 2 * k) 2)) ++
    (List.range 64).map fun k => .wick (g * 64 + k) { lut := leAt f (o + 136 + 16 * k) 8, cfg := leAt f (o + 144 + 16 * k) 8 % 2 ^ 51 }

/-- Indices in range. -/
def fabIndexOk (f : List Nat) : Bool := (fabGroups f).all (· < 256) && (fabConds f).all fun c => decide (c.1 < 64)

/-- Check 0x6 of an image's own fabric: a listed group in full, every other group unloaded. -/
def fabOf (f : List Nat) : Fab := (fabWrites f).foldl (fun (x : Fab) w => x.apply w) {}
def fabSectOk (f : List Nat) : Bool := f.length == fabLen f && fabIndexOk f && (fabOf f).ok

/-- The error of a fabric section: longer than its head allows, or against its checks (R254). -/
def fabSectError (f : List Nat) : Nat := if fabLen f < f.length then 4 else if fabSectOk f then 0 else 6

/-- The records of a section: offset and value (R253). -/
def imgRecords (l : List Nat) : List (Nat × Nat) :=
  (List.range (l.length / 8)).map fun i => (leAt l (8 * i) 4, leAt l (8 * i + 4) 4)

/-- A register field lies in the word at `a`. -/
def Fld.covers (f : Fld) (a : Nat) : Bool :=
  decide (f.addr ≤ a) &&
    (let d := a - f.addr
     let o := if f.count = 1 then d else d % f.stride
     decide (f.count = 1 ∨ d / f.stride < f.count) && o % 4 == 0 && decide (o / 4 < f.words))

/-- R253: what a record of a section of type `ty` may name. -/
def recordOk (ty a : Nat) : Bool :=
  let fs := regTable.filter fun f => f.covers a
  let inClu := decide (0x81000 ≤ a) && decide (a < 0x82000)
  let inCtx := (decide (0x80000 ≤ a) && decide (a < 0x81000)) || (decide (0xA0000 ≤ a) && decide (a < 0xB0000))
  a % 4 == 0 && (if ty = 5 then inClu else if ty = 6 then inCtx else !inClu && !inCtx) && fs != [] &&
    (fs.all fun f => f.acc != .rwg && f.acc != .fuse && f.acc != .wo) &&
    !(decide (0x1D0000 ≤ a) && decide (a < 0x1E0000)) &&
    !(decide (0x180000 ≤ a) && decide (a < 0x190000))

/-- Check 0x7. -/
def recordsOk (b : List Nat) : Bool := [5, 6, 7].all fun t => (imgRecords (imgContent b t)).all fun r => recordOk t r.1

/-- Check 0x8, the head of the firmware. -/
def fwHeadOk (l : List Nat) : Bool := decide (16 ≤ l.length) && l.length == 16 + leAt l 12 4 && leAt l 12 4 != 0

/-- The error of a firmware section: longer than its LENGTH allows, or a bad head (R254). -/
def fwError (l : List Nat) : Nat := if decide (16 ≤ l.length) && decide (16 + leAt l 12 4 < l.length) then 4 else if fwHeadOk l then 0 else 8

/-- The error of the fabric of a partial reload, before its application. -/
def reloadFabError (f : List Nat) : Nat := if fabLen f < f.length then 4 else if fabIndexOk f && f.length == fabLen f then 0 else 6

/-- The first check of R254 that an image fails, 0 for none; those that apply the image (firmware boot, pixel streams) are made as it is
applied. -/
def imgError (isReload : Bool) (b : List Nat) : Nat :=
  if !imgHeaderOk b then 1
  else if decide (imgMax < imgSize b) then 4
  else if !imgDirOk isReload b then 2
  else if !imgSizeOk b then 4
  else if !imgCrcOk b then 3
  else if isReload then reloadFabError (imgContent b 2)
  else if !topoOk (imgContent b 1) then 5
  else if fabSectError (imgContent b 2) ≠ 0 then fabSectError (imgContent b 2)
  else if !recordsOk b then 7
  else fwError (imgContent b 8)

/-- The error code of the first section whose blocks fail (R454). -/
def imgDecError (b : List Nat) : Nat :=
  ((imgDir b).filterMap fun x => match x.content b with
    | .error e => some e
    | .ok _ => none).headD 0

/-- A block of an image section that fails is read again once, and its second failure is final (R454). -/
def State.decImageError (s : State) (e : Nat) : State :=
  if e = 0 then s
  else
    let s := (s.bump Reg.CMP_DEC_RETRY_COUNT Reg.CMP_INT_CNT_SAT).bump Reg.CMP_DEC_ERR_COUNT Reg.CMP_INT_CNT_SAT
    ((s.put Reg.CMP_DEC_STATUS_ERR e).put Reg.CMP_DEC_STATUS_SRC 0).put Reg.CMP_INT_DEC_ERR 1

/-! ## Slots and programming (R255, R256, R258, R266) -/

def State.slot (s : State) (k : Nat) : Slot := if k = 0 then s.store.slotA else s.store.slotB
def State.setSlot (s : State) (k : Nat) (x : Slot) : State :=
  { s with store := if k = 0 then { s.store with slotA := x } else { s.store with slotB := x } }

/-- Whether a slot is that of the active image. -/
def State.activeSlot (s : State) (k : Nat) : Bool := s.sys.phase == .running && s.get Reg.FAB_IMG_ACTIVE_SLOT == k

/-- Programming ends, with an error or none. -/
def State.progEnd (s : State) (err : Nat) : State :=
  let s := (s.setFab { s.fab with prog := none, progErr := 0 }).put Reg.FAB_IMG_PROG_START 0
  let s := s.put Reg.FAB_IMG_PROG_STATUS_ERR err
  if err = 0 then (s.put Reg.FAB_IMG_PROG_STATUS_STATE 4).put Reg.FAB_INT_PROG_DONE 1
  else (s.put Reg.FAB_IMG_PROG_STATUS_STATE 5).put Reg.FAB_INT_PROG_ERR 1

/-- The effect of FAB_IMG_PROG once its entry is stored: ABORT stops programming; START names a slot, which becomes invalid and is erased
unless it is that of the active image (R258). -/
def State.imgProg (s : State) (v : Nat) : State :=
  let k := bits v 1 1
  if bit v 2 then (if s.fab.prog.isSome then s.progEnd 0xB else s)
  else if !bit v 0 || s.fab.prog.isSome then s
  else
    let s := s.put Reg.FAB_IMG_PROG_SLOT k
    if s.activeSlot k then s.progEnd 0xC
    else
      let s := (s.setSlot k {}).setFab { s.fab with prog := some k, progErr := 0 }
      let s := ((s.put Reg.FAB_IMG_PROG_START 1).put Reg.FAB_IMG_PROG_STATUS_STATE 1).put Reg.FAB_IMG_PROG_STATUS_ERR 0
      s.put Reg.FAB_IMG_PROG_STATUS_PROGRESS 0

/-- The effect of FAB_IMG_CTRL once its entry is stored (R256, R266). -/
def State.imgCtrl (s : State) (v : Nat) : State :=
  let k := bits v 0 1
  let s : State := if (s.slot k).valid then { s with store := { s.store with pref := k } } else s
  let s : State := { s with store := { s.store with trial := if bit v 1 then some (1 - s.store.pref) else none } }
  if bit v 2 && s.flag Reg.FAB_IMG_ACTIVE_TRIAL_RUN then { s with store := { s.store with pref := s.get Reg.FAB_IMG_ACTIVE_SLOT } } else s

/-- FAB_IMG_CTRL and FAB_IMG_PROG as they read. -/
def State.imgCtrlWord (s : State) : Nat := s.store.pref + 2 * boolNat s.store.trial.isSome
def State.imgProgWord (s : State) : Nat := s.get Reg.FAB_IMG_PROG_START + 2 * s.get Reg.FAB_IMG_PROG_SLOT

/-- A write of FAB_IMG_CTRL: Owner's; one that names an invalid slot and does nothing else is refused by the field's own check. -/
def State.imgCtrlWrite (s : State) (v : Nat) : State :=
  let idle := !(s.slot (bits v 0 1)).valid && !bit v 1 && !(bit v 2 && s.flag Reg.FAB_IMG_ACTIVE_TRIAL_RUN)
  s.guarded 1 0x180230 s.imgCtrlWord v v [1] (if idle then 3 else 0) (s.slot (bits v 0 1)).id

/-- A write of FAB_IMG_PROG: Owner's. -/
def State.imgProgWrite (s : State) (v : Nat) : State :=
  s.guarded 1 0x180234 s.imgProgWord v v [1] 0 (s.slot (bits v 1 1)).id

def execImagePrefSlot (val : Nat) (s : State) : Out :=
  need (!bit val 1 && !bit val 2) (s.fabBar 0x180230 (·.imgCtrlWrite val))
def execImageTrial (val : Nat) (s : State) : Out := need (bit val 1 && !bit val 2) (s.fabBar 0x180230 (·.imgCtrlWrite val))
def execImageConfirm (val : Nat) (s : State) : Out := need (bit val 2) (s.fabBar 0x180230 (·.imgCtrlWrite val))
def execImageProgStart (val : Nat) (s : State) : Out := need (bit val 0 && !bit val 2) (s.fabBar 0x180234 (·.imgProgWrite val))
def execImageProgAbort (val : Nat) (s : State) : Out := need (bit val 2) (s.fabBar 0x180234 (·.imgProgWrite val))

/-- The erase completes: the module receives (R258). -/
def execImageProgEraseDone (s : State) : Out :=
  .next (if s.get Reg.FAB_IMG_PROG_STATUS_STATE = 1 then s.put Reg.FAB_IMG_PROG_STATUS_STATE 2 else s)

/-- The slot is read back and checked (R258). -/
def execImageProgVerifyDone (s : State) : Out :=
  .next <|
    match s.fab.prog with
    | none => s
    | some k =>
      if s.get Reg.FAB_IMG_PROG_STATUS_STATE ≠ 3 then s
      else
        let b := (s.slot k).bytes
        let e := if s.fab.progErr ≠ 0 then s.fab.progErr else imgError false b
        let s := s.cond (e == 3) (·.decImageError (imgDecError b))
        let s := s.cond (e == 0) (·.setSlot k { valid := true, id := leAt b 0x10 8, gen := leAt b 0x18 4, bytes := b.take (imgSize b) })
        s.progEnd e

/-- The image consumer can take a frame: not while a slot is erased or read back. -/
def State.imgReady (s : State) : Bool :=
  s.fab.prog.isNone || s.get Reg.FAB_IMG_PROG_STATUS_STATE == 2

/-! ## Partial reloads (R261) -/

/-- A reload is refused: its shadows are discarded, with what is still to come of it. -/
def State.reloadRefuse (s : State) (err : Nat) : State :=
  let b := (s.fab.reload.map (·.bytes)).getD s.fab.relBytes
  let left := if imgHeaderOk b && decide (imgSize b ≤ imgMax) then imgSize b - b.length else 0
  let s := s.setFab { s.fab with reload := none, relBytes := [], relSkip := left }
  ((s.put Reg.FAB_STATUS_RELOAD 0).put Reg.FAB_STATUS_ERR err).put Reg.FAB_INT_RELOAD_ERR 1

/-- What has arrived of the fabric section of a partial reload: of a compressed section nothing before its end. -/
def reloadFab (b : List Nat) : ISect × Bool × List Nat :=
  let x := (imgDir b).headD { ty := 2, comp := false, off := 0, slen := 0, ulen := 0, ucrc := 0 }
  let whole := decide (x.off + x.slen ≤ b.length)
  (x, whole, if x.comp then (if whole then imgContent b 2 else []) else x.stored b)

/-- The groups and conditions of a reload whose indices have arrived (R261). -/
def reloadLists (f : List Nat) : List Nat × List (Nat × Nat) :=
  (((List.range (leAt f 0 2)).filter fun i => decide (18 + 1160 * i ≤ f.length)).map fun i => leAt f (16 + 1160 * i) 2,
   if fabLen f ≤ f.length then fabConds f else [])

/-- An admitted reload holds the groups it lists as it finds them idle, and the conditions it lists must not be enabled (R261; DESIGN CHOICE,
log entry 108). -/
def State.reloadFollow (s : State) : State :=
  match s.fab.reload with
  | none => s
  | some r =>
    let (x, whole, f) := reloadFab r.bytes
    let (gs, cs) := reloadLists f
    let e := if !whole then 0 else match x.content r.bytes with
      | .error _ => 3
      | .ok _ => reloadFabError f
    if e = 3 then (s.decImageError (imgDecError r.bytes)).reloadRefuse 3
    else if e ≠ 0 then s.reloadRefuse e
    else if gs.any (fun g => !r.groups.contains g && !s.groupIdle g) || cs.any (fun c => !r.conds.contains c && s.condEn c.1) then
      s.reloadRefuse 0xA
    else
      let shadow : Fab := if whole then fabOf f else {}
      s.setFab { s.fab with reload := some { r with groups := gs, conds := cs, wicks := shadow.wicks, gin := shadow.gin } }

/-- Bytes of a frame of an image-role queue: to the slot being programmed as they arrive, else to a partial reload (R258, R261). -/
def State.imgBytes (s : State) (l : List Nat) : State :=
  match s.fab.prog with
  | some k =>
    let b := (s.slot k).bytes ++ l
    let s := (s.setSlot k { s.slot k with bytes := b }).put Reg.FAB_IMG_PROG_STATUS_PROGRESS (min 0xFFFF (b.length / 65536))
    let whole := decide (0x40 ≤ b.length) && decide (imgSize b ≤ b.length || imgMax < imgSize b)
    s.cond whole (·.put Reg.FAB_IMG_PROG_STATUS_STATE 3)
  | none =>
    let skip := min s.fab.relSkip l.length
    let l := l.drop skip
    match s.fab.reload with
    | some r => (s.setFab { s.fab with reload := some { r with bytes := r.bytes ++ l } }).reloadFollow
    | none => s.setFab { s.fab with relSkip := s.fab.relSkip - skip, relBytes := s.fab.relBytes ++ l }

/-- A frame for the image consumer failed on its way (R425, R454). -/
def State.imgFails (s : State) (err : Nat) : State :=
  if s.fab.prog.isSome then
    (s.setFab { s.fab with progErr := err }).put Reg.FAB_IMG_PROG_STATUS_STATE 3
  else s.reloadRefuse err

/-- The directory of a partial reload has arrived: it is checked, and from then on the reload holds the groups it lists (R261). -/
def execReloadAdmit (s : State) : Out :=
  .next <|
    let b := s.fab.relBytes
    if s.fab.reload.isSome || s.fab.prog.isSome || decide (b.length < 0x40 + 32 * imgNsect b) then s
    else if !imgHeaderOk b then s.reloadRefuse 1
    else if decide (imgMax < imgSize b) then s.reloadRefuse 4
    else if !imgDirOk true b then s.reloadRefuse 2
    else
      let r : Reload := { bytes := b, groups := [], wicks := [], gin := [], conds := [] }
      ((s.setFab { s.fab with reload := some r, relBytes := [] }).put Reg.FAB_STATUS_RELOAD 1).reloadFollow

/-- The fabric with a reload's groups in place of the active ones; the reloaded wicks take their INIT values. -/
def Fab.reloaded (f : Fab) (r : Reload) : Fab :=
  let kept {β : Type} (m : List (Nat × β)) : List (Nat × β) := m.filter fun e => !r.groups.contains (e.1 / 64)
  let out := f.out.filter fun w => !r.groups.contains (w / 64)
  let lut := f.prevLut.filter fun w => !r.groups.contains (w / 64)
  let f := { f with wicks := kept f.wicks, gin := r.gin.foldl (fun m e => NMap.set ginReset m e.1 e.2) (kept f.gin), out := out, prevLut := lut }
  r.wicks.foldl (fun (x : Fab) (e : Nat × Wick) => x.setWick e.1 e.2) f

/-- The whole reload image is in: with every check passed the shadows become active together at the next reference edge, once no wave is
under way (R261). -/
def execReloadApply (s : State) : Out :=
  .next <|
    match s.fab.reload with
    | none => s
    | some r =>
      if r.bytes.length < imgSize r.bytes || s.fab.wave.isSome then s
      else
        let e := imgError true r.bytes
        let f := s.fab.reloaded r
        if e ≠ 0 then (s.cond (e == 3) (·.decImageError (imgDecError r.bytes))).reloadRefuse e
        else if !f.ok then s.reloadRefuse 6
        else
          let s := (s.advanceTo (s.dtRef + 1)).setFab { f with reload := none, relBytes := r.bytes.drop (imgSize r.bytes) }
          let s := s.each r.conds fun s c =>
            (s.put Reg.FAB_COND_MAP_WICK (bits c.2 0 14) c.1).put Reg.FAB_COND_MAP_VALID (bits c.2 15 1) c.1
          ((s.put Reg.FAB_STATUS_RELOAD 0).put Reg.FAB_INT_RELOADED 1).showDepth

/-- A write of FAB_RELOAD_CTRL with ABORT = 1. -/
def State.reloadAbort (s : State) : State :=
  if s.fab.reload.isSome || s.fab.relBytes != [] then s.reloadRefuse 0xB else s

def execReloadAbort (val : Nat) (s : State) : Out := need (bit val 0) (s.fabBar 0x180180 (·.reloadAbort))

/-! ## Voted scrubbing (R263, R264) -/

/-- Every condition whose cone holds a group loses its active and staged EN. -/
def State.condsOff (s : State) (g : Nat) : State :=
  let l := (List.range 64).filter fun c => (s.cone c).contains g
  let s := s.each l fun s c => (s.put Reg.TRG_COND_CFG_EN 0 0 c).unstage Reg.TRG_COND_CFG_EN 0 c
  s.put Reg.FAB_INT_COND_OFF 1

/-- The word of a visit whose three copies all disagree is handled by its kind. -/
def State.wordLost (s : State) (k : ScrubKind) : State :=
  match k with
  | .wick w =>
    let s := s.condsOff (w / 64)
    (s.setFab (s.fab.setWick w wickReset)).showDepth
  | .gin k =>
    let s := s.condsOff (k / 64)
    (s.setFab { s.fab with gin := NMap.set ginReset s.fab.gin k ginReset }).showDepth
  | .cond c =>
    let s := (s.put Reg.FAB_COND_MAP_VALID 0 c).put Reg.TRG_COND_CFG_EN 0 0 c
    (s.unstage Reg.TRG_COND_CFG_EN 0 c).put Reg.FAB_INT_COND_OFF 1
  | .rmap b =>
    let mask (m : NMap Nat) : NMap Nat := NMap.set rmapReset m b (setBits (rmapAt m b) 14 1 1)
    { s with evt := { s.evt with act := mask s.evt.act, shd := mask s.evt.shd } }
  | .topo => s.fault 5 0
  | .reg id i j =>
    match regTable.find? fun f => f.id == id with
    | none => s
    | some f => ((s.put f (f.reset i j) i j).unstage f i j).fault 6 (bits (f.addr + f.stride * i) 12 12)
  | .shadow => s

/-- A unit the visit names exists. -/
def scrubOk : ScrubKind → Bool
  | .wick w => decide (w < 16384)
  | .gin k => decide (k < 16384)
  | .cond c => decide (c < 64)
  | .rmap b => decide (b < 65536)
  | .topo | .shadow => true
  | .reg id i j => regTable.any fun f => f.id == id && decide (i < f.count) && decide (j < f.bank)

/-- The scrubber visits a word of which `bad` copies disagree with the rest: one is rewritten and counted; when all three disagree (2 or
more) the word at `addr` is counted, recorded and handled by its kind (R263, R264). -/
def execConfigScrubVisit (kind : ScrubKind) (bad addr : Nat) (s : State) : Out :=
  need (scrubOk kind) <|
    if bad = 0 then s
    else if bad = 1 then s.bump Reg.FAB_SEU_CORR Reg.FAB_INT_CNT_SAT
    else
      let s := ((s.bump Reg.FAB_SEU_UNCORR Reg.FAB_INT_CNT_SAT).put Reg.FAB_SEU_LAST_ADDR addr).put Reg.FAB_INT_SEU_UNCORR 1
      s.wordLost kind

end Sys2Proof.Machine
end

