-- ==== Sys2Proof/Machine/Hst.lean ====
section
/-! DEFINITION. Machine/Hst.lean: the host attachment: function resets, queues and their rings, buffers, host-to-device frames and their
launch, the decompressor, and interrupts (R411 to R437, R453, R454). -/

namespace Sys2Proof.Machine

/-! ## The function's identity and its windows (R408 to R412) -/

/-- Vendor and device ID, revision from the Version of IDCODE with the class code, subsystem vendor and subsystem ID, and Interrupt Pin, by
their offsets in the configuration header (R408). -/
def identityWords : List (Nat × Nat) :=
  [(0x00, 0x41021F3C), (0x08, 0x11800000 + bits idcode 28 4), (0x2C, 0x00011F3C), (0x3C, 0)]

/-- A word of the configuration header while the function is up: the identity; nothing is said of the other words (R408). -/
def State.configWord (s : State) (offset : Nat) : Option Nat :=
  if s.pcieUp then (identityWords.find? fun e => e.1 == offset).map (·.2) else none

/-- The link speeds, by HST_STATUS.SPEED, and widths the function trains at (R409, R436). -/
def linkOptions : List Nat × List Nat := ([1, 2, 3, 4, 5], [1, 2, 4, 8, 16])

/-- MSI-X vectors (R409). -/
def vectors : Nat := 256

/-- A word of BAR2 as it reads: 0 from the doorbell pages, the pending bits of 32 vectors from the pending-bit array (R410, R411). The table's
own words are the host's. -/
def State.bar2Word (s : State) (a : Nat) : Option Nat :=
  if a < 0x48000 then some 0
  else if 0x71000 ≤ a ∧ a < 0x71000 + vectors / 8 then
    some ((List.range 32).foldl (fun n i => n + boolNat (s.hst.pba.contains (8 * (a / 4 * 4 - 0x71000) + i)) * 2 ^ i) 0)
  else none

/-! ## Queues: `h2d` chooses the direction -/

def State.ring (s : State) (h2d : Bool) (q : Nat) : QRing := (if h2d then s.hst.hq else s.hst.dq).getD q {}
def State.setQRing (s : State) (h2d : Bool) (q : Nat) (r : QRing) : State :=
  { s with hst := if h2d then { s.hst with hq := s.hst.hq.set q r } else { s.hst with dq := s.hst.dq.set q r } }

/-- The queue exists. -/
def qOk (h2d : Bool) (q : Nat) : Bool := if h2d then decide (q < 8) else decide (q < 64)

/-- A field of a queue, by the definitions for the two directions. -/
def State.qget (s : State) (h2d : Bool) (d h : Fld) (q : Nat) : Nat := s.get (if h2d then h else d) q
def State.qput (s : State) (h2d : Bool) (d h : Fld) (v q : Nat) : State := s.put (if h2d then h else d) v q

/-- STATE: 0 stopped, 1 running, 2 stopping, 3 error. -/
def State.qstate (s : State) (h2d : Bool) (q : Nat) : Nat := s.qget h2d Reg.HST_Dq_STATUS_STATE Reg.HST_Hh_STATUS_STATE q
def State.setQstate (s : State) (h2d : Bool) (q v : Nat) : State := s.qput h2d Reg.HST_Dq_STATUS_STATE Reg.HST_Hh_STATUS_STATE v q
def State.qsize (s : State) (h2d : Bool) (q : Nat) : Nat := 2 ^ s.qget h2d Reg.HST_Dq_CTRL_LOG2SZ Reg.HST_Hh_CTRL_LOG2SZ q
def State.qtail (s : State) (h2d : Bool) (q : Nat) : Nat := s.qget h2d Reg.HST_Dq_DB_TAIL Reg.HST_Hh_DB_TAIL q
def State.qhead (s : State) (h2d : Bool) (q : Nat) : Nat := s.qget h2d Reg.HST_Dq_DB_CPL_HEAD Reg.HST_Hh_DB_CPL_HEAD q

/-- The difference of two free-running indices (R416). -/
def idxDiff (a b : Nat) : Nat := (a + 65536 - b % 65536) % 65536

/-- A host counter. -/
def State.hcount (s : State) (f : Fld) (i : Nat := 0) (j : Nat := 0) : State := s.bump f Reg.HST_INT_CNT_SAT i j

/-- The role of a host-to-device queue: role, port and decompression; in pilot-light mode queue 0 alone works, with the image role
(R414, R241). -/
def State.qrole (s : State) (h : Nat) : Nat × Nat × Bool :=
  if s.sys.phase = .pilot then (if h = 0 then 0 else 3, 0, false) else s.topo.role.getD h (3, 0, false)

/-- A write to host memory: `n` bytes at `a` that spell `v`. -/
def State.hostWrite (s : State) (a n v : Nat) : State := { s with hst := { s.hst with out := s.hst.out ++ [(a, n, v)] } }
def State.hostClear (s : State) : State := { s with hst := { s.hst with out := [] } }

/-- The number a list of 64-bit words spells, the first lowest. -/
def wordsNum (l : List Nat) : Nat := l.foldr (fun w n => w + 2 ^ 64 * n) 0

/-! ## Interrupts (R432 to R434) -/

/-- A register of 32 bits as it is stored. -/
def State.regWord (s : State) (a : Nat) : Nat :=
  ((regTable.filter fun f => f.covers a).map fun f => s.get f ((a - f.addr) / (max 1 f.stride)) * 2 ^ f.lsb).sum

/-- The interrupt registers of a block source with their enables (R432). -/
def irqRegs (src : Nat) : List (Nat × Nat) :=
  if src < 76 then
    let t := 0x60000 + 0x1000 * (src - 72)
    [(t + 0x44, t + 0x48), (t + 0xC0, t + 0xC4)] ++ if src = 72 then [(0x69028, 0x6902C)] else []
  else match src with
    | 76 => [(0x400E0, 0x400E4)]
    | 77 => [(0x80038, 0x8003C), (0x810B0, 0x810B4)]
    | 78 => [(0xA01F4, 0xA01F8), (0x180190, 0x180194)]
    | 79 => [(0x1A0020, 0x1A0024), (0x1A0028, 0x1A002C)]
    | 80 => [(0x1B0100, 0x1B0104)]
    | 81 => [(0x1C0060, 0x1C0064)]
    | 82 => [(0x1D01C0, 0x1D01C4)]
    | 83 => [(0x1E0050, 0x1E0054)]
    | 84 => [(0x1F0070, 0x1F0074)]
    | 85 => [(0x200030, 0x200034)]
    | 86 => [(0x2100C0, 0x2100C4)]
    | 87 => [(0x140, 0x144), (0x320, 0x324)]
    | _ => []

/-- A block source is true (R433). -/
def State.irqTrue (s : State) (src : Nat) : Bool :=
  (irqRegs src).any fun r => Nat.land (s.regWord r.1) (s.regWord r.2) != 0

/-- The vector of a source; in pilot-light mode vector 0 alone is used (R414, R432). -/
def State.vector (s : State) (src : Nat) : Nat := if s.sys.phase = .pilot then 0 else s.get Reg.HST_IVEC_VEC 0 src

/-- A message goes on a source's vector, or sets its pending bit when the vector is masked (R432, R433). -/
def State.sendMsg (s : State) (src : Nat) (masked : List Nat) : State :=
  let v := s.vector src
  if masked.contains v then { s with hst := { s.hst with pba := if s.hst.pba.contains v then s.hst.pba else v :: s.hst.pba } }
  else { s with hst := { s.hst with msg := some v, pba := s.hst.pba.filter (· != v) } }

/-- Completions written and not yet consumed. -/
def State.qpending (s : State) (h2d : Bool) (q : Nat) : Nat := idxDiff (s.ring h2d q).cpl (s.qhead h2d q)

/-- TIMER of a queue is due: since when, if it runs (R434). -/
def State.qtimer (s : State) (h2d : Bool) (q : Nat) : Option Nat :=
  let t := s.qget h2d Reg.HST_Dq_MOD_TIMER Reg.HST_Hh_MOD_TIMER q
  match (s.ring h2d q).pend with
  | [] => none
  | e :: _ => if t = 0 then none else some (max (s.ring h2d q).armAt e + 250 * t)

/-- The condition of a queue source (R434). -/
def State.qtrue (s : State) (h2d : Bool) (q : Nat) : Bool :=
  decide (max 1 (s.qget h2d Reg.HST_Dq_MOD_CNT Reg.HST_Hh_MOD_CNT q) ≤ s.qpending h2d q) ||
    (match s.qtimer h2d q with
     | none => false
     | some t => decide (t ≤ s.dtRef))

def State.qirqOn (s : State) (h2d : Bool) (q : Nat) : Bool :=
  (s.ring h2d q).armed && s.qget h2d Reg.HST_Dq_CTRL_CPLINT_EN Reg.HST_Hh_CTRL_CPLINT_EN q == 1

def qsrc (h2d : Bool) (q : Nat) : Nat := if h2d then 64 + q else q

/-- The queue source sends and disarms (R434). -/
def State.qsend (s : State) (h2d : Bool) (q : Nat) (masked : List Nat) : State :=
  (s.setQRing h2d q { s.ring h2d q with armed := false }).sendMsg (qsrc h2d q) masked

/-- A source that is armed and true sends its message and disarms; without the function it keeps both (R433). -/
def State.irqFire (s : State) (src : Nat) (masked : List Nat) : State :=
  if !s.pcieUp then s
  else if src < 72 then
    let h2d := decide (64 ≤ src)
    let q := if h2d then src - 64 else src
    if s.qirqOn h2d q && s.qtrue h2d q then s.qsend h2d q masked else s
  else if s.irqTrue src && !s.hst.disarmed.contains src then
    ({ s with hst := { s.hst with disarmed := src :: s.hst.disarmed } }).sendMsg src masked
  else s

/-- An armed source is true: its message is sent. A vector that was masked and is unmasked now sends what is pending (R433). `masked` lists
the vectors masked in the MSI-X table. -/
def execIrqMessage (src : Nat) (masked : List Nat) (s : State) : Out :=
  need (decide (src < 88)) <|
    let v := s.vector src
    if s.pcieUp && s.hst.pba.contains v && !masked.contains v then s.sendMsg src masked else s.irqFire src masked

/-- The moderation timer of an armed queue source expires (R434). -/
def execQueueIrqTimer (h2d : Bool) (q : Nat) (masked : List Nat) (s : State) : Out :=
  need (qOk h2d q) <|
    match s.qtimer h2d q with
    | none => s
    | some t => if s.pcieUp && s.qirqOn h2d q then (s.advanceTo t).qsend h2d q masked else s

/-- A write of HST_IRQ_REARM `idx`: the sources named are armed, and those still true send at once (R433). -/
def State.rearm (s : State) (idx val : Nat) (masked : List Nat) : State :=
  s.each ((List.range 32).filter fun i => bit val i && decide (32 * idx + i < 88)) fun s i =>
    let src := 32 * idx + i
    let s : State :=
      if src < 72 then
        let h2d := decide (64 ≤ src)
        let q := if h2d then src - 64 else src
        s.setQRing h2d q { s.ring h2d q with armed := true, armAt := s.dtRef }
      else { s with hst := { s.hst with disarmed := s.hst.disarmed.filter (· != src) } }
    s.irqFire src masked

def execHostIrqRearm (idx val : Nat) (masked : List Nat) (s : State) : Out :=
  need (decide (idx < 3)) (s.bar (0x1F0058 + 4 * idx) (·.rearm idx val masked))

/-! ## Completions and errors (R416, R422, R426, R427) -/

/-- The next completion entry of `n` words is written: `f` gives its words from PHASE; then HEAD, the count and the pending completions
follow (R416, R422, R426). -/
def State.complete (s : State) (h2d : Bool) (q : Nat) (d : QDesc) (f : Nat → List Nat) : State :=
  let r := s.ring h2d q
  let size := s.qsize h2d q
  let l := f (1 - r.cpl / size % 2)
  let n := 8 * l.length
  let s := s.hostWrite (s.qget h2d Reg.HST_Dq_CRING_ADDR Reg.HST_Hh_CRING_ADDR q + r.cpl % size * n) n (wordsNum l)
  let s := s.setQRing h2d q { r with cpl := (r.cpl + 1) % 65536, pend := r.pend ++ [s.dtRef], tlp := s.dtRef }
  let s := s.qput h2d Reg.HST_Dq_STATUS_HEAD Reg.HST_Hh_STATUS_HEAD ((d.idx + 1) % 65536) q
  s.hcount (if h2d then Reg.HST_Hh_BUFS_COUNT else Reg.HST_Dq_BUFS_COUNT) q

/-- Word 0 of a completion entry (R422, R426). -/
def cplWord0 (d : QDesc) (bytes status phase : Nat) (poison ovr ctxEnd : Bool) : Nat :=
  bytes + status * 2 ^ 24 + boolNat poison * 2 ^ 28 + boolNat ovr * 2 ^ 29 + boolNat ctxEnd * 2 ^ 30 + phase * 2 ^ 31 +
    d.idx * 2 ^ 32 + d.tag * 2 ^ 48

/-- The completion of a device-to-host buffer that closed at DT_REF `at_` (R420 to R423). -/
def State.bufDone (s : State) (q : Nat) (d : QDesc) (status words : Nat) (entry : List (Nat × Bool)) (seq : Option Nat) (stream : Nat)
    (ovr ctxEnd : Bool) (at_ : Nat) : State :=
  let fmt := s.flag Reg.HST_Dq_CTRL_FMT q
  let bytes := 8 * words
  let poison := if fmt then (entry.getLast?.map (·.2)).getD false else entry.any (·.2)
  let vb := if bytes % 64 = 0 then 2 ^ 64 - 1 else 2 ^ (bytes % 64) - 1
  let pm := (List.range entry.length).foldl (fun m i => m + boolNat ((entry.getD i (0, false)).2) * 2 ^ i) 0
  let w2 := pm + seq.getD 0 * 2 ^ 16 + boolNat seq.isSome * 2 ^ 32 + stream * 2 ^ 33
  s.complete false q d fun phase =>
    let w0 := cplWord0 d bytes status phase poison ovr ctxEnd
    if fmt then [w0, at_] else [w0, vb, w2, at_]

/-- A running queue fails (R427): it writes nothing more, and fault 0x0F is raised (R499). -/
def State.qerror (s : State) (h2d : Bool) (q err : Nat) : State :=
  let s := (s.setQstate h2d q 3).qput h2d Reg.HST_Dq_STATUS_ERR Reg.HST_Hh_STATUS_ERR err q
  (s.put Reg.HST_INT_QERR 1).fault 0xF (qsrc h2d q)

/-! ## The source of a device-to-host queue (R240 to R242, R400, R419) -/

/-- What a queue takes its words from: a stream or compression context, through its primary or secondary sink, or a port's ingress. -/
inductive QSrc where
  | src (k : LSrc) (second : Bool)
  | port (p : Nat)
  deriving DecidableEq, Repr

/-- The source the image names for queue `q`. -/
def State.qsource (s : State) (q : Nat) : Option QSrc :=
  (lsrcs.findSome? fun k =>
    let r := s.sinksOf k
    if r.1 = (1, q) then some (.src k false) else if r.2 = (1, q) then some (.src k true) else none).orElse fun _ =>
  ((List.range 8).find? fun p => s.topo.ingress.getD p none == some q).map QSrc.port

def State.qfifo (s : State) : QSrc → Fifo
  | .src k _ => s.fifoOf k
  | .port p => (s.lport p).ingress

/-- The next word of the source: its packet and the place in it. -/
def State.qnext (s : State) (x : QSrc) : Option (SPkt × Nat) :=
  match x with
  | .src k b => (s.fifoOf k).next b
  | .port p => (s.lport p).ingress.next false

/-- The word is taken. -/
def State.qtake (s : State) (x : QSrc) : State :=
  match x with
  | .src k b => s.setFifoOf k ((s.fifoOf k).take b ((s.sinksOf k).2.1 != 0) 1)
  | .port p => let y := s.lport p
    s.setLport p { y with ingress := y.ingress.take false false 1 }

/-- The stream a source belongs to. -/
def State.qstream (s : State) (x : QSrc) (p : SPkt) : Nat :=
  match x with
  | .src (.stream n) _ => n
  | .src (.ctx c) _ => (s.streamOfCtx c).getD 0
  | .src (.h2d _) _ => 0
  | .port _ => p.stream

/-- A capture context has ended with the last word taken; the mark is used up. -/
def State.qmark (s : State) (x : QSrc) : Bool :=
  match x with
  | .src _ b => if b then (s.qfifo x).mark2 else (s.qfifo x).mark
  | .port _ => false
def State.qunmark (s : State) (x : QSrc) : State :=
  match x with
  | .src k b => let f := s.fifoOf k
    s.setFifoOf k (if b then { f with mark2 := false } else { f with mark := false })
  | .port _ => s

/-! ## Buffers (R418 to R423) -/

/-- Descriptors that break the rules of R418 complete in their turn. -/
def State.skipInvalid : Nat → State → Nat → State
  | 0, s, _ => s
  | n + 1, s, q =>
    match (s.hst.buf.getD q none), (s.ring false q).descs with
    | none, d :: l =>
      if d.ok then s
      else
        let s := s.setQRing false q { s.ring false q with descs := l }
        let stream := ((s.qsource q).map fun x => s.qstream x { ty := 0, words := [] }).getD 0
        (s.bufDone q d 2 0 [] none stream false false s.dtRef).skipInvalid n q
    | _, _ => s

def State.setBuf (s : State) (q : Nat) (b : Option QBuf) : State := { s with hst := { s.hst with buf := s.hst.buf.set q b } }

/-- The partly filled entry of a buffer goes out padded (R420). -/
def State.writeEntry (s : State) (b : QBuf) : State :=
  s.hostWrite (b.desc.addr + 8 * (b.words - b.entry.length)) 64 (wordsNum (b.entry.map (·.1)))

/-- The open buffer closes, at DT_REF `at_`: its last data write, then its completion (R419, R420, R422). -/
def State.endBuf (s : State) (q : Nat) (ctxEnd : Bool) (at_ : Nat) : State :=
  match s.hst.buf.getD q none with
  | none => s
  | some b =>
    let s := s.cond (!s.flag Reg.HST_Dq_CTRL_FMT q && decide (b.entry.length % 8 ≠ 0)) (·.writeEntry b)
    (s.setBuf q none).bufDone q b.desc 0 b.words b.entry b.seq b.stream b.ovr ctxEnd at_

/-- The open buffer closes while its queue goes on: descriptors that break their rules follow it (R418, R419). -/
def State.closeBuf (s : State) (q : Nat) (ctxEnd : Bool) : State := (s.endBuf q ctxEnd s.dtRef).skipInvalid 65536 q

/-- The edge at which the open buffer's close timer ends, while it runs (R419). -/
def State.closeAt (s : State) (q : Nat) : Option Nat :=
  let t := s.get Reg.HST_Dq_CLOSE_TIME q
  match s.hst.buf.getD q none with
  | some b => if t = 0 then none else some (b.since + 250 * t)
  | none => none

/-- A buffer whose close timer has ended is closed before another word comes, with the DT_REF of the timer's end (R419, R422). -/
def State.closeDue (s : State) (q : Nat) : State :=
  match s.closeAt q with
  | some t => if t ≤ s.dtRef then (s.endBuf q false t).skipInvalid 65536 q else s
  | none => s

/-- The next word goes into the open buffer, or opens the next one; `bad` says that its parity fails (R419 to R423). Nothing happens without
a word or a posted buffer. -/
def State.queueWord (s : State) (q : Nat) (bad : Bool) : State :=
  match s.qsource q with
  | none => s
  | some x =>
    match s.qnext x with
    | none => s
    | some (p, o) =>
      let open_ : Option (QBuf × State) :=
        match s.hst.buf.getD q none with
        | some b => some (b, s)
        | none => match (s.ring false q).descs with
          | d :: l => some ({ desc := d, stream := s.qstream x p, since := s.dtRef }, s.setQRing false q { s.ring false q with descs := l })
          | [] => none
      match open_ with
      | none => s
      | some (b, s) =>
        let fmt := s.flag Reg.HST_Dq_CTRL_FMT q
        let w := p.words.getD o (0, false)
        let w := (w.1, w.2 || bad)
        let last := p.ctxEnd && decide (o + 1 = p.words.length)
        let b := { b with
          words := b.words + 1
          entry := if fmt then [w] else (if b.entry.length = 8 then [] else b.entry) ++ [w]
          seq := if o = 0 ∧ p.ty < 16 ∧ b.seq = none then some (bits w.1 20 16) else b.seq
          ovr := b.ovr || (p.ty == 4 && decide (2 ≤ o) && o % 2 == 0 && bits w.1 28 4 == 9 && bits w.1 25 3 == 3) }
        let s := (s.qtake x).setBuf q (some b)
        let s := s.cond (fmt || b.entry.length == 8) fun s =>
          if fmt then s.hostWrite (b.desc.addr + 8 * (b.words - 1)) 8 w.1 else s.writeEntry b
        let s := s.setQRing false q { s.ring false q with tlp := s.dtRef }
        let whole := fmt || b.entry.length == 8
        let ctx := last && s.flag Reg.HST_Dq_CLOSE_CTX q
        if ctx then s.closeBuf q true
        else if decide (b.desc.len ≤ 8 * b.words) || (whole && b.entry.any (·.2)) then s.closeBuf q false
        else s

/-- A context end that became known after its last word was taken closes the buffer (R419). -/
def State.queueMark (s : State) (q : Nat) : State :=
  match s.qsource q with
  | none => s
  | some x =>
    if s.qmark x then
      let s := s.qunmark x
      if s.flag Reg.HST_Dq_CLOSE_CTX q then s.closeBuf q true else s
    else s

/-- Up to `n` words of the queue's source are written into its buffers, after a buffer whose timer has ended has closed; `bad` lists those,
counted from 0, whose parity fails (R419 to R423). The source's packer then goes on. -/
def execQueuePacketWrite (q n : Nat) (bad : List Nat) (s : State) : Out :=
  need (decide (q < 64)) <|
    if s.qstate false q = 1 then
      let s := ((s.hostClear.closeDue q).queueMark q).each (List.range n) fun s i => s.queueWord q (bad.contains i)
      s.follow
    else s

/-- CLOSE.TIME microseconds after its first word a buffer closes (R419). -/
def execBufferCloseTimeout (q : Nat) (s : State) : Out :=
  need (decide (q < 64)) <|
    match s.closeAt q with
    | none => s
    | some t => if s.qstate false q ≠ 1 then s else (s.hostClear.advanceTo t).closeDue q

/-! ## Doorbells and descriptors (R416 to R418, R424) -/

/-- The rule of R417 on the doorbells as they stand. -/
def State.doorbellOk (s : State) (h2d : Bool) (q : Nat) : Bool :=
  let n := s.qsize h2d q
  decide (idxDiff (s.qtail h2d q) (s.qhead h2d q) ≤ n) && decide (idxDiff (s.ring h2d q).cpl (s.qhead h2d q) ≤ n)

/-- Descriptors posted and not yet fetched. -/
def State.qposted (s : State) (h2d : Bool) (q : Nat) : Nat :=
  let n := idxDiff (s.qtail h2d q) (s.ring h2d q).fetch
  if n ≤ s.qsize h2d q then n else 0

/-- The queue has a posted descriptor whose completion is owed (R427). -/
def State.qholds (s : State) (h2d : Bool) (q : Nat) : Bool :=
  (if h2d then (s.hst.cur.getD q none).isSome else (s.hst.buf.getD q none).isSome) || (s.ring h2d q).descs != [] || decide (0 < s.qposted h2d q)

/-- A BAR2 write reaches the doorbells while the function is up; it is ignored while the queue does not run (R416). -/
def State.doorbell (s : State) (h2d : Bool) (q : Nat) (f : State → State) : State :=
  if s.pcieUp && s.qstate h2d q == 1 then
    let s := f s
    if s.doorbellOk h2d q then s else s.qerror h2d q 4
  else s

def execDoorbellTail (h2d : Bool) (q val : Nat) (s : State) : Out :=
  need (qOk h2d q) <| s.doorbell h2d q fun s =>
    let had := s.qholds h2d q
    let s := s.qput h2d Reg.HST_Dq_DB_TAIL Reg.HST_Hh_DB_TAIL (val % 65536) q
    s.cond (!had) fun s => s.setQRing h2d q { s.ring h2d q with post := s.dtRef }

/-- A write of the CPL_HEAD doorbell; with ARM its source is armed, and sends at once when its condition holds (R416, R434). -/
def execDoorbellCplHead (h2d : Bool) (q val : Nat) (masked : List Nat) (s : State) : Out :=
  need (qOk h2d q) <| s.doorbell h2d q fun s =>
    let s := s.qput h2d Reg.HST_Dq_DB_CPL_HEAD Reg.HST_Hh_DB_CPL_HEAD (val % 65536) q
    let r := s.ring h2d q
    let s := s.setQRing h2d q { r with pend := r.pend.drop (r.pend.length - s.qpending h2d q) }
    if bit val 31 then
      let s := s.setQRing h2d q { s.ring h2d q with armed := true, armAt := s.dtRef }
      if s.doorbellOk h2d q then s.irqFire (qsrc h2d q) masked else s
    else s

/-- Whether a device-to-host descriptor keeps the rules of R418. -/
def descOk (fmt : Bool) (w0 w1 : Nat) : Bool :=
  let len := bits w1 0 24
  let a := if fmt then 8 else 64
  bits w1 24 8 == 0 && bits w1 48 16 == 0 && w0 % a == 0 && len % a == 0 && decide (a ≤ len) &&
    decide (len ≤ if fmt then 16777208 else 16777152)

/-- The fetch of the next descriptor completes with its words, or fails (R418, R424, R427). -/
def execDescriptorFetchDone (h2d : Bool) (q : Nat) (words : List Nat) (ok : Bool) (s : State) : Out :=
  need (qOk h2d q && words.length == (if h2d then 4 else 2)) <|
    if s.qstate h2d q ≠ 1 || s.qposted h2d q = 0 then s
    else if !ok then s.qerror h2d q 5
    else
      let w0 := words.getD 0 0 % 2 ^ 64
      let w1 := words.getD 1 0 % 2 ^ 64
      let r := s.ring h2d q
      let d : QDesc := { idx := r.fetch, addr := w0, len := bits w1 0 24, tag := bits w1 32 16
                         ok := h2d || descOk (s.flag Reg.HST_Dq_CTRL_FMT q) w0 w1
                         launch := if h2d && bit w1 48 then some (bits (words.getD 2 0) 0 48, bits (words.getD 3 0) 0 30) else none }
      let s := s.setQRing h2d q { r with descs := r.descs ++ [d], fetch := (r.fetch + 1) % 65536, tlp := s.dtRef }
      if h2d then s else s.hostClear.skipInvalid 65536 q

/-! ## Host-to-device frames (R141, R142, R424 to R426, R453, R454) -/

def State.hframe (s : State) (h : Nat) : Option HFrame := s.hst.cur.getD h none
def State.setHframe (s : State) (h : Nat) (x : Option HFrame) : State := { s with hst := { s.hst with cur := s.hst.cur.set h x } }
def State.dec (s : State) (h : Nat) : Option Decomp := s.cmp.dec.get none h
def State.setDec (s : State) (h : Nat) (x : Option Decomp) : State :=
  { s with cmp := { s.cmp with dec := s.cmp.dec.set none h x } }

/-- The length rule of a role (R425). -/
def roleLenOk (role len : Nat) : Bool :=
  if role = 0 then decide (1 ≤ len)
  else if role = 1 then len % 4 == 0 && decide (1 ≤ len)
  else len % 8 == 0 && decide (len ≤ 32768) && decide (1 ≤ len)

/-- An image or pixel stream under way from a queue of its role is aborted: programming and reloads with ERR 0xB, a pixel stream as
TIL_PCS_ABORT would (R426, R427). -/
def State.abortConsumer (s : State) (role : Nat) : State :=
  if role = 0 then (if s.fab.prog.isSome then s.progEnd 0xB else s.reloadAbort)
  else if role = 1 then
    (if s.get Reg.TIL_PCS_STATUS_STATE ≠ 0 && s.get Reg.TIL_PCS_STATUS_OWNER = 1 then s.pcsIdle 6 else s)
  else s

/-- Words of 4 bytes go to the stream port up to the first whose parity fails, for which the port refuses its stream with ERR 0x3 (R425). -/
def State.pixelWords (s : State) (l : List (Nat × Bool)) : State :=
  let s := s.each (l.takeWhile fun w => !w.2) fun s w => s.pcsWord 1 w.1
  if l.any (·.2) then s.pcsIdle 3 else s

/-- A released frame whose words are all at hand is handed to its consumer (R425, R454). `w` are its words of 8 bytes with poison tags,
`bytes` its bytes, `failed` says that the decompressor gave it up. -/
def State.deliverFrame (s : State) (h : Nat) (bytes : List Nat) (w : List (Nat × Bool)) (failed : Bool) : State :=
  let r := s.qrole h
  if r.1 = 0 then (if failed || w.any (·.2) then s.imgFails 3 else s.imgBytes bytes)
  else if r.1 = 1 then
    if failed then s.pcsIdle 3
    else s.pixelWords ((List.range (bytes.length / 4)).map fun i => (leAt bytes (4 * i) 4, (w.getD (i / 2) (0, false)).2))
  else
    let f := s.hst.toPort.getD h {}
    let s := { s with hst := { s.hst with toPort := s.hst.toPort.set h { f with pkts := f.pkts ++ [({ ty := 16, words := w } : SPkt)] } } }
    s.feedSink (.h2d h)

/-- The words of a frame's bytes, with the tags of those whose parity failed. -/
def frameWords (data bad : List Nat) : List (Nat × Bool) :=
  (bytesWords 8 (ceilDiv data.length 8) data).mapIdx fun i w => (w, bad.contains i)

/-- The head frame goes to its consumer once it is released and, where it is compressed, decoded. -/
def State.frameTry (s : State) (h : Nat) : State :=
  match s.hframe h with
  | none => s
  | some x =>
    if x.released.isNone || x.done || x.status.isSome then s
    else
      match s.dec h with
      | some d =>
        if d.left ≠ [] then s
        else
          let s := s.setDec h none
          let bytes := wordBytes (d.out.map (·.1))
          if !d.failed && !roleLenOk (s.qrole h).1 bytes.length then s.setHframe h (some { x with status := some 4 })
          else (s.setHframe h (some { x with done := true })).deliverFrame h bytes d.out d.failed
      | none => (s.setHframe h (some { x with done := true })).deliverFrame h x.data (frameWords x.data x.bad) false

/-- The head frame is released now. -/
def State.release (s : State) (h : Nat) (late : Bool) : State :=
  match s.hframe h with
  | none => s
  | some x =>
    let s := (s.put Reg.HST_Hh_STATUS_HELD 0 h).setHframe h (some { x with released := some s.dtRef, late := late, ready := s.dtRef })
    let s := s.cond late fun s => (s.bump Reg.TIM_LATE_COUNT Reg.TIM_INT_CNT_SAT).put Reg.TIM_INT_LATE 1
    s.frameTry h

/-- The launch rule of R142: passed, the frame is released late; too far ahead, it is not sent; else it is held, or with `due` the
edge nearest its time, the later of two equally near (DESIGN CHOICE, log entry 163), is reached and it is released (R141). Nothing happens
while ET is not valid. -/
def State.launchRule (s : State) (h : Nat) (t : Nat × Nat) (due : Bool) : State :=
  if !s.etValid then s.put Reg.HST_Hh_STATUS_HELD 1 h
  else
    let ahead := s.etAhead (t.1 * 1000000000 + t.2 : Nat)
    if ahead < 0 then s.release h true
    else if (s.get Reg.TIM_LAUNCH_MAX_AHEAD * 1000000000 : Nat) < ahead then
      match s.hframe h with
      | none => s
      | some x =>
        let s := (s.put Reg.HST_Hh_STATUS_HELD 0 h).setHframe h (some { x with status := some 2, ready := s.dtRef })
        s.bump Reg.TIM_TOOFAR_COUNT Reg.TIM_INT_CNT_SAT
    else if due then (s.advanceTo (s.dtRef + (ahead.toNat + 2) / 4)).release h false
    else s.put Reg.HST_Hh_STATUS_HELD 1 h

/-- A frame reaches the head of its queue and is read: `data` its bytes, `bad` its words whose parity fails inside the module, `ok` whether the
host answered (R425, R426). -/
def execH2dFrameStart (h : Nat) (data bad : List Nat) (ok : Bool) (s : State) : Out :=
  need (decide (h < 8)) <|
    let r := s.ring true h
    let role := s.qrole h
    match r.descs, s.hframe h with
    | d :: l, none =>
      if s.qstate true h ≠ 1 || (role.1 = 0 && !s.imgReady) then s
      else
        let s := s.setQRing true h { r with descs := l, tlp := s.dtRef }
        let x : HFrame := { desc := d, data := data.take d.len, bad := bad, ready := s.dtRef }
        let lenOk := if role.2.2 then decide (1 ≤ d.len) && d.len % 8 == 0 else roleLenOk role.1 d.len
        if !lenOk then s.setHframe h (some { x with status := some 4 })
        else if !ok || data.length < d.len then (s.setHframe h (some { x with status := some 3 })).abortConsumer role.1
        else
          let s := s.setHframe h (some x)
          let s := s.cond role.2.2 (·.setDec h (some { left := (frameWords x.data []).map (·.1) }))
          match d.launch with
          | none => s.release h false
          | some t => s.launchRule h t false
    | _, _ => s

/-- ET reaches the launch time of the held head frame (R141, R142). -/
def execFrameLaunch (h : Nat) (s : State) : Out :=
  need (decide (h < 8)) <|
    match s.hframe h with
    | none => s
    | some x =>
      match x.desc.launch with
      | none => s
      | some t => if x.released.isSome || x.status.isSome || s.qstate true h ≠ 1 then s else s.launchRule h t true

/-- The decompressor takes the next block of a compressed frame; `hit` says that an error strikes this reading of it. A failing block is read
again once; the second failure is final and counts, as does every later block of the frame (R453, R454). -/
def execDecompBlock (h : Nat) (hit : Bool) (s : State) : Out :=
  need (decide (h < 8)) <|
    match s.dec h with
    | none => s
    | some d =>
      if d.left = [] then s
      else
        let r := decodeBlock d.bseq d.dict d.left
        let uw := bits (d.left.headD 0) 0 14
        let next := some (bits (d.left.headD 0) 32 16 + 1)
        let bad : Option Nat := if d.failed then some 5 else match r.2 with
          | .error e => some e
          | .ok _ => if hit then some 4 else none
        match bad, r.2 with
        | none, .ok (w, dict) =>
          (s.setDec h (some { d with left := d.left.drop r.1, out := d.out ++ w.map fun x => (x, false)
                                     dict := dict, bseq := next, again := false })).frameTry h
        | none, .error _ => s
        | some e, _ =>
          if !d.failed && !d.again then
            (s.setDec h (some { d with again := true })).bump Reg.CMP_DEC_RETRY_COUNT Reg.CMP_INT_CNT_SAT
          else
            let s := s.bump Reg.CMP_DEC_ERR_COUNT Reg.CMP_INT_CNT_SAT
            let s := s.cond (!d.failed) fun s =>
              ((s.put Reg.CMP_DEC_STATUS_ERR e).put Reg.CMP_DEC_STATUS_SRC 1).put Reg.CMP_DEC_STATUS_QUEUE h
            let s := s.put Reg.CMP_INT_DEC_ERR 1
            (s.setDec h (some { d with left := d.left.drop (max 1 r.1), out := d.out ++ List.replicate uw (0, true)
                                       failed := true, again := false, bseq := next })).frameTry h

/-- A frame has nothing left to do: it is delivered and its words have been taken, or it has a status. -/
def State.frameOver (s : State) (h : Nat) (x : HFrame) : Bool :=
  x.status.isSome || (x.done && ((s.qrole h).1 != 2 || (s.hst.toPort.getD h {}).pkts.isEmpty))

/-- The completion of a host-to-device descriptor (R426). -/
def State.frameCpl (s : State) (h : Nat) (d : QDesc) (bytes status released : Nat) : State :=
  s.complete true h d fun phase => [cplWord0 d bytes status phase false false false, released]

/-- The head frame finishes and its completion entry is written (R426). -/
def execH2dFrameDone (h : Nat) (s : State) : Out :=
  need (decide (h < 8)) <|
    match s.hframe h with
    | none => s
    | some x =>
      if s.frameOver h x && s.qstate true h == 1 then
        let st := x.status.getD (if x.late then 1 else 0)
        ((s.hostClear.setHframe h none).setDec h none).frameCpl h x.desc (if x.status.isSome then 0 else x.desc.len) st (x.released.getD 0)
      else s

/-! ## Enable, disable, progress (R413, R414, R427) -/

/-- The refusal code of a write of EN = 1, 0 for none (R427). -/
def State.qrefuse (s : State) (h2d : Bool) (q v : Nat) : Nat :=
  let dring := s.qget h2d Reg.HST_Dq_DRING_ADDR Reg.HST_Hh_DRING_ADDR q
  let cring := s.qget h2d Reg.HST_Dq_CRING_ADDR Reg.HST_Hh_CRING_ADDR q
  if s.qstate h2d q = 2 then 7
  else if bits v 4 4 < 4 || 12 < bits v 4 4 then 1
  else if dring % 64 ≠ 0 || cring % 64 ≠ 0 then 2
  else if (h2d && (s.qrole q).1 == 3) || (s.sys.phase == .pilot && !(h2d && q == 0)) then 3
  else 0

/-- Every posted descriptor that is left completes with STATUS `st`: those fetched, then those not fetched, whose TAGs are `tags` (R427). -/
def State.flushDescs (s : State) (h2d : Bool) (q st : Nat) (tags : List Nat) : State :=
  let r := s.ring h2d q
  let n := s.qposted h2d q
  let l : List QDesc := r.descs ++ (List.range n).map fun i =>
    { idx := (r.fetch + i) % 65536, addr := 0, len := 0, tag := tags.getD i 0 % 65536 }
  let s := s.setQRing h2d q { r with descs := [], fetch := (r.fetch + n) % 65536 }
  let stream := ((s.qsource q).map fun x => s.qstream x { ty := 0, words := [] }).getD 0
  s.each l fun s d => if h2d then s.frameCpl q d 0 st 0 else s.bufDone q d st 0 [] none stream false false s.dtRef

/-- A queue holds nothing. -/
def State.qclear (s : State) (h2d : Bool) (q : Nat) : State :=
  let s := s.setQRing h2d q { s.ring h2d q with descs := [], fetch := 0, cpl := 0, pend := [] }
  if h2d then ((s.setHframe q none).setDec q none).put Reg.HST_Hh_STATUS_HELD 0 q else s.setBuf q none

/-- EN falls: a queue in ERROR stops at once without completions, a running one completes what it owes; what a host-to-device queue feeds is
aborted in both cases (R419, R427). -/
def State.qfall (s : State) (h2d : Bool) (q : Nat) (tags : List Nat) : State :=
  let st := s.qstate h2d q
  let s := s.qput h2d Reg.HST_Dq_CTRL_EN Reg.HST_Hh_CTRL_EN 0 q
  if st ≠ 1 && st ≠ 3 then s
  else if !h2d then (if st = 3 then (s.qclear false q).setQstate false q 0 else (s.hostClear.endBuf q false s.dtRef).setQstate false q 2)
  else
    let s := s.cond (st == 1) fun s =>
      let s := s.hostClear
      let s := match s.hframe q with
        | none => s
        | some x => s.frameCpl q x.desc 0 5 (x.released.getD 0)
      s.flushDescs true q 5 tags
    let s := { s with hst := { s.hst with toPort := s.hst.toPort.set q {} } }
    ((s.abortConsumer (s.qrole q).1).qclear true q).setQstate true q 0

/-- EN rises: every index of the queue is 0 (R416). -/
def State.qrise (s : State) (h2d : Bool) (q : Nat) : State :=
  let r := s.ring h2d q
  let s := s.setQRing h2d q { armed := r.armed, armAt := r.armAt, tlp := s.dtRef }
  let s := (s.qput h2d Reg.HST_Dq_DB_TAIL Reg.HST_Hh_DB_TAIL 0 q).qput h2d Reg.HST_Dq_DB_CPL_HEAD Reg.HST_Hh_DB_CPL_HEAD 0 q
  let s := (s.qput h2d Reg.HST_Dq_STATUS_HEAD Reg.HST_Hh_STATUS_HEAD 0 q).qput h2d Reg.HST_Dq_STATUS_ERR Reg.HST_Hh_STATUS_ERR 0 q
  (s.qput h2d Reg.HST_Dq_CTRL_EN Reg.HST_Hh_CTRL_EN 1 q).setQstate h2d q 1

/-- A locked field of a queue is written (R6, R552). -/
def State.qlocked (s : State) (f : Fld) (en : Bool) (v q : Nat) : State :=
  if s.get f q = v then s else if en then s.put Reg.HST_INT_REFUSED 1 else s.put f v q

/-- A write of HST_Dq_CTRL or HST_Hh_CTRL; `tags` are the TAGs of descriptors posted and not fetched, for a queue it stops (R427, R552). -/
def State.qctrl (s : State) (h2d : Bool) (q v : Nat) (tags : List Nat) : State :=
  let en := s.qget h2d Reg.HST_Dq_CTRL_EN Reg.HST_Hh_CTRL_EN q == 1
  let c := if bit v 0 && !en then s.qrefuse h2d q v else 0
  if c ≠ 0 then (s.put Reg.HST_INT_REFUSED 1).qput h2d Reg.HST_Dq_STATUS_ERR Reg.HST_Hh_STATUS_ERR c q
  else
    let s := s.qlocked (if h2d then Reg.HST_Hh_CTRL_LOG2SZ else Reg.HST_Dq_CTRL_LOG2SZ) en (bits v 4 4) q
    let s := s.cond (!h2d) (·.qlocked Reg.HST_Dq_CTRL_FMT en (bits v 1 1) q)
    let s := s.qput h2d Reg.HST_Dq_CTRL_CPLINT_EN Reg.HST_Hh_CTRL_CPLINT_EN (bits v 8 1) q
    if bit v 0 && !en then s.qrise h2d q else if !bit v 0 && en then s.qfall h2d q tags else s

/-- The address of a queue's control register (R437). -/
def qctrlAddr (h2d : Bool) (q : Nat) : Nat := (if h2d then 0x1F1100 else 0x1F0100) + 0x40 * q

def execQueueEnable (h2d : Bool) (q val : Nat) (s : State) : Out :=
  need (qOk h2d q && bit val 0) (s.bar (qctrlAddr h2d q) (·.qctrl h2d q val []))
def execQueueDisable (h2d : Bool) (q val : Nat) (tags : List Nat) (s : State) : Out :=
  need (qOk h2d q && !bit val 0) (s.bar (qctrlAddr h2d q) (·.qctrl h2d q val tags))

/-- A stopping queue completes what is posted and stops (R427). -/
def execQueueStopped (q : Nat) (tags : List Nat) (s : State) : Out :=
  need (decide (q < 64)) <|
    if s.qstate false q = 2 then ((s.hostClear.flushDescs false q 1 tags).qclear false q).setQstate false q 0 else s

/-- The queue has something to move (R427): a posted descriptor, and for a device-to-host queue words of its source; a frame held for its
launch time is none. -/
def State.qwork (s : State) (h2d : Bool) (q : Nat) : Bool :=
  if h2d then
    (match s.hframe q with
     | some x => x.released.isSome || x.status.isSome
     | none => s.qholds true q)
  else
    s.qholds false q &&
      (match s.qsource q with
       | some x => (s.qnext x).isSome
       | none => false)

/-- The edge from which lack of progress counts: the last TLP, or the edge at which a descriptor was posted, the packet came or the frame had
no launch time to wait for, whichever is last (R427). -/
def State.qsince (s : State) (h2d : Bool) (q : Nat) : Nat :=
  let r := s.ring h2d q
  max (max r.tlp r.post) (if h2d then ((s.hframe q).map (·.ready)).getD 0
    else (((s.qsource q).bind s.qnext).map (·.1.since)).getD 0)

/-- No TLP of a queue with work has gone or come for PROG ms, at least 30 (R415, R427). -/
def execQueueProgressTimeout (h2d : Bool) (q : Nat) (s : State) : Out :=
  need (qOk h2d q) <|
    let ms := s.qget h2d Reg.HST_Dq_PROG_MS Reg.HST_Hh_PROG_MS q
    if ms = 0 || s.qstate h2d q ≠ 1 || !s.qwork h2d q then s
    else (s.advanceTo (s.qsince h2d q + 250000 * max 30 ms)).qerror h2d q 6

/-- TMO_CLAMP after a write of a PROG: set while any queue's setting is clamped; a new clamp sets its interrupt bit (R415). -/
def State.showTmo (s : State) : State :=
  let low (v : Nat) : Bool := decide (0 < v) && decide (v < 30)
  let c := ((List.range 64).any fun q => low (s.get Reg.HST_Dq_PROG_MS q)) || ((List.range 8).any fun q => low (s.get Reg.HST_Hh_PROG_MS q))
  (s.cond (c && !s.flag Reg.HST_STATUS_TMO_CLAMP) (·.put Reg.HST_INT_TMO_CLAMP 1)).putB Reg.HST_STATUS_TMO_CLAMP c

/-- The fields of the HST block. -/
def hstIds : List Nat := (regTable.filter fun f => f.blk == .hst || f.blk == .hstD || f.blk == .hstH).map (·.id)

/-- A function reset: the HST fields and the queues return to their reset values and nothing else of the module does (R413); the link's own
status stays while the link does. -/
def State.hstReset (s : State) (link : Bool) : State :=
  let sp := s.get Reg.HST_STATUS_SPEED
  let w := s.get Reg.HST_STATUS_WIDTH
  let link := link && s.hst.link
  let s := (s.clearFields hstIds).putB Reg.HST_STATUS_PILOT (s.sys.phase == .pilot)
  let s := s.cond link fun s => (s.put Reg.HST_STATUS_SPEED sp).put Reg.HST_STATUS_WIDTH w
  let s := s.each (List.range 64) State.showLevel
  let s := s.each (List.range 8) fun s h => s.setDec h none
  { s with hst := { link := link } }

def execPerstNAssert (s : State) : Out := .next (s.hstReset false)
def execHotReset (s : State) : Out := .next (s.hstReset false)
def execFunctionLevelReset (s : State) : Out := .next (s.hstReset true)
def execD3Entry (s : State) : Out := .next (s.hstReset true)

/-- The link goes down: a function reset, the session closes (R521), and fault 0x0E is handled (R413, R506). -/
def execPcieLinkDown (s : State) : Out :=
  .next (if s.hst.link then ((s.hstReset false).closeSession 3).fault 0xE 0 else s)

/-- A retrain restarts the forward-progress timer of every queue (R415). -/
def State.retrained (s : State) : State :=
  { s with hst := { s.hst with dq := s.hst.dq.map fun r => { r with tlp := s.dtRef }, hq := s.hst.hq.map fun r => { r with tlp := s.dtRef } } }

/-- The link trains, or retrains, at a speed and a width (R409, R413, R415); in pilot-light mode at 2.5 GT/s on one lane (R414). -/
def execPcieLinkUp (speed width : Nat) (s : State) : Out :=
  need (linkOptions.1.contains speed && linkOptions.2.contains width) <|
    let t := { s with hst := { s.hst with link := true } }
    if t.pcieUp then
      let t := t.retrained
      let p := s.sys.phase == .pilot
      (t.put Reg.HST_STATUS_SPEED (if p then 1 else speed)).put Reg.HST_STATUS_WIDTH (if p then 1 else width)
    else s

/-- A write of HST_CNT_CLR (R436). -/
def execHstCntClr (s : State) : Out :=
  .next <| s.bar 0x1F0078 fun s => s.clearFields ([Reg.HST_BAR4_OOR_COUNT, Reg.HST_BADACC_COUNT, Reg.HST_STRM_DISC_COUNT,
    Reg.HST_STRM_DITEMS_COUNT, Reg.HST_STRM_LEVEL_PEAK, Reg.HST_Dq_BUFS_COUNT, Reg.HST_Hh_BUFS_COUNT, Reg.HST_Dq_STARVE_COUNT].map (·.id))

end Sys2Proof.Machine
end

