-- ==== Sys2Proof/Machine/Frames.lean ====
section
/-! DEFINITION. Machine/Frames.lean: the frame grid, counting banks and readout, the frame gate, live frames and bursts
(chapter 7). -/

namespace Sys2Proof.Machine

def State.setFrm (s : State) (f : Frm) : State := { s with frm := f }
def State.setBurst (s : State) (b : Burst) : State := { s with frm := { s.frm with burst := b } }

/-- A frame-mode counter. -/
def State.fcount (s : State) (f : Fld) (t : Nat := 0) (n : Nat := 1) : State := s.bump f Reg.TIL_FRM_INT_CNT_SAT t 0 n

/-- PERIOD in force (R216). -/
def State.framePeriod (s : State) : Nat := max 250 (s.get Reg.TIL_FRM_PERIOD_PERIOD)

/-- The first boundary of the grid after an edge (R216). -/
def State.nextBoundary (s : State) (a : Nat) : Nat :=
  let p := s.framePeriod
  a + 1 + (s.get Reg.TIL_FRM_PHASE_PHASE % p + p - (a + 1) % p) % p

def State.frameMode (s : State) (t : Nat) : Bool := s.flag Reg.TIL_FRM_CTRL_MODE t
def State.frameTiles (s : State) : List Nat := (List.range 4).filter s.frameMode

/-- The region of a tile (R222, R236). -/
def State.roi (s : State) (t : Nat) : Roi :=
  { row0 := s.get Reg.TIL_FRM_ROI_ROW0 t * 8, rows := (s.get Reg.TIL_FRM_ROI_NROWS t + 1) * 8
    col0 := s.get Reg.TIL_FRM_ROI_COL0 t * 16, cols := (s.get Reg.TIL_FRM_ROI_NCOLS t + 1) * 16 }

/-- Bytes of a tile-frame's counts, and the frame size F of R223. -/
def Roi.bytes (r : Roi) (depth : Nat) : Nat := r.rows * r.cols * (if depth = 0 then 12 else 24) / 8
def State.frameSize (s : State) : Nat :=
  s.frameTiles.foldl (fun n t => n + (s.roi t).bytes (s.get Reg.TIL_FRM_CFG_DEPTH)) 0

/-! ## Packets (R226 to R230) -/

/-- The counts of a region in reading order. -/
def Roi.counts (r : Roi) (t : Nat) (cnt : NMap Nat) : List Nat :=
  (List.range (r.rows * r.cols)).map fun i => NMap.get 0 cnt (pixKey t (r.row0 + i / r.cols) (r.col0 + i % r.cols))

/-- A list cut into pieces of `n`. -/
def chunks {α : Type} (n : Nat) (l : List α) : List (List α) :=
  (List.range (ceilDiv l.length (max 1 n))).map fun i => (l.drop (i * max 1 n)).take (max 1 n)

/-- The data words of counts (R228): groups of 16 counts of 12 bits or 8 of 24 bits. -/
def countWords (depth : Nat) (l : List Nat) : List Nat :=
  let w := if depth = 0 then 12 else 24
  (chunks (192 / w) l).flatMap fun g =>
    let v := g.zipIdx.foldl (fun v x => v + x.1 * 2 ^ (w * x.2)) 0
    [bits v 0 64, bits v 64 64, bits v 128 64]

/-- Counts that read at their saturation value (R215). -/
def saturated (depth : Nat) (l : List Nat) : Nat := (l.filter fun c => c == if depth = 0 then 4095 else 16777215).length

/-- A frame-header body (R227). -/
def frameHeader (h : FrameHdr) (tile openRef : Nat) (roi : Roi) (nsat : Nat) (poison : Bool) (burst : Option (Nat × Bool)) :
    List Nat :=
  [h.start,
   h.num % 2 ^ 32 * 2 ^ 32 + tile * 2 ^ 30 + h.depth * 2 ^ 29 + boolNat burst.isSome * 2 ^ 28 + h.len % 2 ^ 28,
   openRef % 2 ^ 28 * 2 ^ 36 + min (2 ^ 20 - 1) nsat * 2 ^ 16 + boolNat h.merged * 2 ^ 15 +
     boolNat h.gated * 2 ^ 14 + boolNat poison * 2 ^ 13 + boolNat ((burst.map (·.2)).getD false) * 2 ^ 12 + (burst.map (·.1)).getD 0,
   roi.row0 * 2 ^ 55 + roi.rows * 2 ^ 45 + roi.col0 * 2 ^ 36 + roi.cols * 2 ^ 26]

/-- The packets of a tile-frame: header, data packets of whole rows in at most 256 groups, trailer (R228, R229, R231). -/
def framePackets (h : FrameHdr) (tile openRef : Nat) (roi : Roi) (nsat : Nat) (words : List (Nat × Bool))
    (burst : Option (Nat × Bool)) : List (Nat × List SItem) :=
  let item (l : List (Nat × Bool)) : SItem := { words := l, lo := h.start, hi := h.start + h.len - 1 }
  let perRow := roi.cols * (if h.depth = 0 then 12 else 24) / 192
  let groups := chunks 3 words
  let rowsPer := 256 / max 1 perRow
  let crc := crc32cWords 8 (words.map (·.1))
  [(8, [item ((frameHeader h tile openRef roi nsat (words.any (·.2)) burst).map (·, false))])] ++
  ((chunks (rowsPer * perRow) groups).map fun g => (9, g.map item)) ++
  [(0xA, [item [(crc * 2 ^ 32 + tile * 2 ^ 30 + words.length, false)]])]

/-- The packets leave on a stream; a stream that is off discards them (R149). -/
def State.sendFrame (s : State) (n : Nat) (p : List (Nat × List SItem)) (hold : Bool) : State :=
  if s.flag Reg.EVT_STRM_CFGn_EN n then (s.closePkt n).emitFrame n p hold
  else (s.ecount Reg.EVT_UNROUTED_COUNT).put Reg.EVT_INT_UNROUTED 1

/-! ## Bursts (R233 to R235) -/

/-- Slots of the burst's circle. -/
def State.burstSlots (s : State) (k : Nat) : Nat := s.get Reg.TRG_TMPL_PRE_PRE 0 k + s.get Reg.TRG_TMPL_POST_POST 0 k + 1

/-- A frame is recorded as the trigger frame, after it, or before any (R233). -/
def Burst.afterFrame (b : Burst) (h : FrameHdr) : Burst :=
  match b.trig, b.trigFrame with
  | none, _ => b
  | some t, none =>
    if t < h.start + h.len then
      { b with trigFrame := some h.start, before := b.written - 1, postLeft := b.post, frozen := b.post == 0 }
    else b
  | some _, some _ => { b with postLeft := b.postLeft - 1, frozen := b.postLeft ≤ 1 }

/-- The burst template fires with trigger time `t`: the trigger frame is looked for among the frames held (R233); frames recorded after it
count towards POST. -/
def Burst.fired (b : Burst) (t : Nat) : Burst :=
  let b := { b with trig := some t }
  let w := b.written - b.held.length
  let r := b.held.zipIdx.foldl (fun (a : Burst) x =>
    let c : Burst := { a with written := w + x.2 + 1 }
    if a.frozen then a else c.afterFrame x.1.hdr) b
  { r with written := b.written }

/-- The frames a burst delivers: from PRE before the trigger frame to POST after it (R234). -/
def Burst.frames (b : Burst) (pre post : Nat) : List BurstSlot :=
  match b.trigFrame with
  | none => []
  | some st =>
    let i := b.held.findIdx fun x => x.hdr.start == st
    (b.held.drop (i - pre)).take (min i pre + 1 + post)

/-- Delivery goes on as far as the stream takes: the descriptor, the gap of an early burst, and the tile-frames, whose counts are read
from buffer memory (R234). -/
def State.burstGo : Nat → State → State
  | 0, s => s
  | fuel + 1, s =>
    let b := s.frm.burst
    match b.ctx, b.tmpl, b.trigFrame with
    | some i, some k, some st =>
      let n := s.tmplStream k
      let pre := (s.ctx i).pre
      let fr := b.frames pre (s.ctx i).post
      if !b.frozen || (s.strm n).wait != [] then s
      else if !b.begun then
        if fr.any fun x => decide (0 < x.left) then s
        else
          let held := fr.findIdx fun x => x.hdr.start == st
          let s := s.closePkt n
          let s := s.setCtx i { s.ctx i with first := s.get Reg.EVT_STRM_STATn_NEXT_SEQ n, early := decide (b.before < pre) }
          let s := s.emit n 0xB [{ words := [(b.trig.getD 0, false), (fr.length * 2 ^ 40 + held * 2 ^ 16 + k * 2 ^ 12 + i, false)] }] true
          let a : Int := (st : Int) - ((pre - held) * s.framePeriod : Nat)
          let s := s.cond (decide (b.before < pre)) fun s =>
            (s.each (gapItems a ((fr.head?.map (·.hdr.start)).getD st) 0xA 4 false 0 i) fun s g => s.pack n 4 g true).closePkt n
          let s := s.cond (b.gaps != []) fun s => (s.each b.gaps fun s g => s.pack n 4 g true).closePkt n
          (s.setBurst { b with begun := true, todo := fr.flatMap (·.tiles), gaps := [] }).burstGo fuel
      else
        match b.todo with
        | [] => s
        | x :: l =>
          let (s, words) := s.readWords (x.addr / 8) (x.roi.bytes x.hdr.depth / 8)
          let s := s.cond (words.any (·.2)) fun s => s.setCtx i { s.ctx i with poison := true }
          let s := s.emitFrame n (framePackets x.hdr x.tile x.openRef x.roi x.nsat words (some (i, x.hdr.start == st))) true
          (s.setBurst { b with todo := l }).burstGo fuel
    | _, _, _ => s

def State.burstPump (s : State) : State :=
  s.burstGo ((s.frm.burst.held.foldl (fun n x => n + x.tiles.length) 0) + 2)

/-- A burst template begins to record with the PRE and POST in force (R233). -/
def State.burstFor (s : State) (k : Nat) : Burst :=
  { tmpl := some k, slots := s.burstSlots k, post := s.get Reg.TRG_TMPL_POST_POST 0 k }

/-- Recording restarts at the next boundary, while the template is armed (R234, R235). -/
def State.burstAgain (s : State) (k : Nat) : State :=
  s.setBurst (if s.get Reg.TRG_TMPL_STATUS_STATE 0 k = 0 then { restart := true } else { s.burstFor k with restart := true })

/-- The burst ends: its context ends with a state, and recording restarts at the next boundary (R234, R235). -/
def State.burstEnd (s : State) (st : Nat) : State :=
  let b := s.frm.burst
  match b.ctx, b.tmpl with
  | some i, some k =>
    (s.burstAgain k).endCtx k i st
  | _, _ => s

/-- A burst's delivery is cut short by an abort: its gap record runs from the first frame not delivered to the end of the burst
(R235). -/
def State.burstCut (s : State) : State :=
  let b := s.frm.burst
  match b.ctx, b.tmpl with
  | some i, some k =>
    let n := s.tmplStream k
    let fr := b.frames (s.ctx i).pre (s.ctx i).post
    let l := if b.begun then b.todo.map (·.hdr) else fr.map (·.hdr)
    let s := s.closePkt n
    let s := s.cond (!b.begun) fun s => s.setCtx i { s.ctx i with first := s.get Reg.EVT_STRM_STATn_NEXT_SEQ n }
    let stop := (fr.getLast?.map fun x => x.hdr.start + x.hdr.len).getD s.dtRef
    let start := (l.head?.map (·.start)).getD (min (b.trig.getD stop) stop)
    let s := s.each b.gaps fun s g => s.pack n 4 g true
    let s := s.cond (l != [] || fr == []) fun s =>
      s.each (gapItems start stop 0xA 4 false 0 i) fun s g => s.pack n 4 g true
    let s := s.setCtx i { s.ctx i with trunc := true }
    ((s.gcount Reg.TRG_TRUNC_COUNT).put Reg.TRG_INT_TRUNC 1).burstEnd 3
  | _, _ => s

/-- A burst context has delivered its last word: it is done (R234). -/
def execBurstDeliveryEnd (s : State) : Out :=
  .next <|
    let s := s.burstPump
    let b := s.frm.burst
    match b.ctx, b.tmpl with
    | some _, some k => s.cond (b.begun && b.todo == [] && (s.strm (s.tmplStream k)).wait == []) (·.burstEnd 2)
    | _, _ => s

/-! ## The grid (R216 to R219) -/

/-- A frame begins to count at edge `e`. -/
def State.frameStart (s : State) (e : Nat) : State :=
  let f := s.frm
  (s.setFrm { f with cur := some { num := f.next, start := e }, next := (f.next + 1) % 2 ^ 32, acc := e, armed := false }).put
    Reg.TIL_FRM_FRAME_FRAME f.next

/-- The counts a tile's readout takes, cleared as they are read: of the bank that was active, or of both as one counter; a masked or
CNTX pixel reads 0 (R215, R217, R219). -/
def State.takeCounts (s : State) (t : Nat) : State × NMap Nat :=
  let own (k : Nat) : Bool := k / 262144 == t
  let deep := s.flag Reg.TIL_FRM_CFG_DEPTH
  let b := s.flag Reg.TIL_FRM_STATUS_BANK t
  let l := s.frm.cnt.filter fun (e : Nat × (Nat × Nat)) => own e.1
  let out : NMap Nat := (l.filter fun (e : Nat × (Nat × Nat)) =>
    !bit (s.pixel e.1).word 31 && !bit (s.pixel e.1).word 9).map fun (e : Nat × (Nat × Nat)) =>
      (e.1, if b && !deep then e.2.2 else e.2.1)
  let keep (c : Nat × Nat) : Nat × Nat := if deep then (0, 0) else if b then (c.1, 0) else (0, c.2)
  let cnt := l.foldl (fun (m : NMap (Nat × Nat)) e => m.modify (0, 0) e.1 keep) s.frm.cnt
  (s.setFrm { s.frm with cnt := cnt }, out)

/-- The frame under way ends at edge `e`: every frame-mode tile reads it out to its destination, and the banks swap (R217, R219, R232,
R233). -/
def State.frameEnd (s : State) (c : FrameNow) (e : Nat) : State :=
  let depth := s.get Reg.TIL_FRM_CFG_DEPTH
  let h : FrameHdr := { num := c.num, start := c.start, len := e - c.start, merged := c.merged
                        gated := s.flag Reg.TIL_FRM_GATE_EN, depth := depth }
  let ts := s.frameTiles
  let b := s.frm.burst
  let rec_ := match b.tmpl with
    | some k => if b.frozen || b.restart then none else some k
    | none => none
  let slots := b.slots
  let base := s.burstBase + b.written % slots * s.frameSize
  let s := match rec_ with
    | none => s
    | some _ =>
      let held := (b.held ++ ([{ hdr := h, left := ts.length }] : List BurstSlot)).drop (b.held.length + 1 - slots)
      let b : Burst := { b with held := held, written := b.written + 1 }
      s.setBurst (b.afterFrame h)
  let dest (a : Nat) : FrameDest :=
    if rec_.isSome then .burst a else if b.tmpl.isNone && s.flag Reg.TIL_FRM_CFG_LIVE then .live else .discard
  let r := ts.foldl (fun (a : State × Nat) t =>
    let (s, cnt) := a.1.takeCounts t
    let roi := s.roi t
    let x : TileFrame := { hdr := h, tile := t, openRef := c.openRef.getD t 0, roi := roi, cnt := cnt, dest := dest a.2
                           last := ts.getLast? == some t }
    let s := s.setFrm { s.frm with read := s.frm.read ++ [x] }
    let s := s.put Reg.TIL_FRM_STATUS_READING 1 t
    (s.cond (depth == 0) fun s => s.put Reg.TIL_FRM_STATUS_BANK (1 - s.get Reg.TIL_FRM_STATUS_BANK t) t,
      a.2 + roi.bytes depth)) (s, base)
  r.1.setFrm { r.1.frm with cur := none }

/-- The gate fields commit at a boundary; the gate is closed when gating begins or ends there (R225, R237). -/
def State.gateCommit (s : State) : State :=
  let old := s.get Reg.TIL_FRM_GATE_EN
  let s := s.each [Reg.TIL_FRM_GATE_EN, Reg.TIL_FRM_GATE_ON_PRIM, Reg.TIL_FRM_GATE_OFF_PRIM, Reg.TIL_FRM_GATE_DLY_DLY,
    Reg.TIL_FRM_GATE_LEN_LEN] fun s f => s.commit f
  s.cond (s.get Reg.TIL_FRM_GATE_EN != old) fun s =>
    s.setFrm { s.frm with gate := false, gateEnd := none, gateOn := [], gateOff := [] }

/-- A boundary of the grid: the frame under way ends, or merges with the next period while a 12-bit readout has not ended; the next
begins, at once at 12 bits and at the first boundary for frame 0; a 24-bit frame that begins at this edge runs to the next (R216 to R219). -/
def State.frameBoundary (s : State) (e : Nat) : State :=
  let s := (s.accrue e).setFrm { (s.accrue e).frm with at_ := e }
  let run := s.flag Reg.TIL_FRM_RUN_RUN
  let deep := s.flag Reg.TIL_FRM_CFG_DEPTH
  let s := match s.frm.cur with
    | none => s.gateCommit.cond s.frm.armed (·.frameStart e)
    | some c =>
      if e ≤ c.start then s.gateCommit
      else if !deep && s.frm.read.any fun x => !x.done then
        let s := s.setFrm { s.frm with cur := some { c with merged := true } }
        ((s.fcount Reg.TIL_FRM_MERGED_COUNT).put Reg.TIL_FRM_INT_MERGED 1).gateCommit
      else
        let s := (s.frameEnd c e).gateCommit
        if s.frm.armed then s.frameStart e
        else if run && !deep then s.frameStart e
        else if run && s.frameTiles == [] then s.frameStart (e + 1)
        else s
  s.setBurst { s.frm.burst with restart := false }

/-- DT reaches the next boundary of the grid. -/
def execFrameBoundary (s : State) : Out :=
  .next <|
    if s.frm.cur.isSome || s.flag Reg.TIL_FRM_RUN_RUN then
      let e := s.nextBoundary s.frm.at_
      ((s.advanceTo e).frameBoundary e).burstPump
    else s

/-- A write of TIL_FRM_RUN: at a rise frame 0 is to start at the first boundary; at a fall the frame under way runs to its end
(R216). -/
def State.frmRun (s : State) (v : Nat) : State :=
  if bit v 0 then
    if s.flag Reg.TIL_FRM_RUN_RUN then s
    else
      let f := s.frm
      let at_ := if f.cur.isSome then f.at_ else s.dtRef
      (s.put Reg.TIL_FRM_RUN_RUN 1).setFrm { f with armed := true, next := 0, at_ := at_ }
  else (s.put Reg.TIL_FRM_RUN_RUN 0).setFrm { s.frm with armed := false }

/-- A write of TIL_FRM_RUN with RUN = 1 (R216). -/
def execFrameRunStart (val : Nat) (s : State) : Out := need (bit val 0) (s.bar 0x6900C (·.frmRun val))

/-- A write of TIL_FRM_RUN with RUN = 0 (R216). -/
def execFrameRunStop (val : Nat) (s : State) : Out := need (!bit val 0) (s.bar 0x6900C (·.frmRun val))

/-! ## Readout (R220, R231 to R233) -/

/-- A tile-frame that has been read goes to its destination. -/
def State.deliver (s : State) (x : TileFrame) : State :=
  let counts := x.roi.counts x.tile x.cnt
  let words := (countWords x.hdr.depth counts).zipIdx.map fun w => (w.1, x.poison.contains w.2)
  let nsat := saturated x.hdr.depth counts
  match x.dest with
  | .live => s.sendFrame (s.get Reg.TIL_FRM_CFG_STREAM) (framePackets x.hdr x.tile x.openRef x.roi nsat words none) false
  | .discard => s.cond x.last (·.fcount Reg.TIL_FRM_DISC_COUNT)
  | .burst a =>
    let s := s.writeWords (a / 8) words
    let y : BurstTile := { hdr := x.hdr, tile := x.tile, openRef := x.openRef, roi := x.roi, nsat := nsat, addr := a }
    let b := s.frm.burst
    s.setBurst { b with held := b.held.map fun h =>
      if h.hdr == x.hdr then { h with tiles := h.tiles ++ [y], left := h.left - 1 } else h }

/-- Finished tile-frames leave in order, T0 to T3 of each frame and frame by frame (R231). -/
def State.deliverAll : Nat → State → State
  | 0, s => s
  | n + 1, s =>
    match s.frm.read with
    | x :: l => if x.done then ((s.setFrm { s.frm with read := l }).deliver x).deliverAll n else s
    | [] => s

/-- A tile's readout of its oldest frame ends, `dur` ref after the boundary (rounded up), with the data words of `poison` poisoned; it cannot end
while its lossless stream does not take words. In 24-bit mode counting resumes at the first edge after the last of them (R218 to R220;
DESIGN CHOICE, log entry 181: the edge that `dur` rounds up to). -/
def execFrameReadoutEnd (tile dur : Nat) (poison : List Nat) (s : State) : Out :=
  need (decide (tile < 4)) <|
    match s.frm.read.find? fun x => x.tile == tile && !x.done with
    | none => s
    | some x =>
      let n := s.get Reg.TIL_FRM_CFG_STREAM
      if x.dest = .live ∧ s.lossless n = true ∧ (s.strm n).wait ≠ [] then s
      else
        let s := s.advanceTo (x.hdr.start + x.hdr.len + dur)
        let counts := x.roi.counts tile x.cnt
        let sat := saturated x.hdr.depth counts
        let y := { x with done := true, poison := poison }
        let s := s.setFrm { s.frm with read := s.frm.read.map fun z => if z == x then y else z }
        let s := (s.put Reg.TIL_FRM_RDTIME_REF (min 65535 dur) tile).fcount Reg.TIL_FRM_WORDS_COUNT tile
          (x.roi.rows * x.roi.cols / 64 * (if x.hdr.depth = 0 then 12 else 24))
        let s := s.cond (decide (0 < sat)) fun s => (s.fcount Reg.TIL_FRM_SAT_COUNT tile sat).put Reg.TIL_FRM_INT_SAT 1
        let s := s.put Reg.TIL_FRM_STATUS_READING (boolNat (s.frm.read.any fun z => z.tile == tile && !z.done)) tile
        let all := !(s.frm.read.any fun z => !z.done)
        let s := s.deliverAll s.frm.read.length
        let s := s.cond (all && x.hdr.depth == 1 && s.frm.cur.isNone && !s.frm.armed && s.flag Reg.TIL_FRM_RUN_RUN)
          fun s => s.frameStart s.dtRef
        s.burstPump

/-! ## The gate (R225) -/

/-- The gate opens: counting runs from here, and LEN starts again. -/
def State.gateOpen (s : State) : State :=
  let s := s.accrue s.dtRef
  let len := s.get Reg.TIL_FRM_GATE_LEN_LEN
  s.setFrm { s.frm with gate := true, gateEnd := if len = 0 then none else some (s.dtRef + len) }

def State.gateClose (s : State) : State :=
  let s := s.accrue s.dtRef
  s.setFrm { s.frm with gate := false, gateEnd := none }

/-- The gate reaches the edge of an ON event; an OFF event on the same edge keeps it closed. -/
def execGateOpen (s : State) : Out :=
  .next <|
    match earliest s.frm.gateOn with
    | none => s
    | some e =>
      let s := s.advanceTo e
      let s := s.setFrm { s.frm with gateOn := s.frm.gateOn.filter (· != e) }
      if s.frm.gateOff.contains e then s else s.gateOpen

/-- The gate reaches the edge of an OFF event. -/
def execGateClose (s : State) : Out :=
  .next <|
    match earliest s.frm.gateOff with
    | none => s
    | some e =>
      let s := s.advanceTo e
      (s.setFrm { s.frm with gateOff := s.frm.gateOff.filter (· != e), gateOn := s.frm.gateOn.filter (· != e) }).gateClose

/-- The gate has been open for LEN ref. -/
def execGateLenExpire (s : State) : Out :=
  .next <|
    match s.frm.gateEnd with
    | none => s
    | some e => (s.advanceTo e).gateClose

/-- A write of TIL_FRM_CNT_CLR (R237). -/
def execTilFrmCntClr (s : State) : Out :=
  .next <| s.bar 0x69030 fun s =>
    (s.each (List.range 4) fun s t => (s.put Reg.TIL_FRM_SAT_COUNT 0 t).put Reg.TIL_FRM_WORDS_COUNT 0 t).put
      Reg.TIL_FRM_MERGED_COUNT 0 |>.put Reg.TIL_FRM_DISC_COUNT 0

end Sys2Proof.Machine
end

