-- ==== Sys2Proof/Machine/Trigger.lean ====
section
/-! DEFINITION. Machine/Trigger.lean: the trigger sample, templates, the pending store, context opening and flares (R189 to R204). -/

namespace Sys2Proof.Machine

/-- TRG_STATUS.PEND and its peak (R195). -/
def State.showPend (s : State) : State :=
  let n := s.trg.pend.length
  (s.put Reg.TRG_STATUS_PEND n).put Reg.TRG_STATUS_PEND_PEAK (max n (s.get Reg.TRG_STATUS_PEND_PEAK))

def State.setPend (s : State) (l : List Pending) : State := { s with trg := { s.trg with pend := l } }.showPend

def State.tmplState (s : State) (k : Nat) : Nat := s.get Reg.TRG_TMPL_STATUS_STATE 0 k

/-- A template is for frame bursts. -/
def State.isBurst (s : State) (k : Nat) : Bool := s.flag Reg.TRG_TMPL_CFG_KIND 0 k

/-! ## Firings (R190 to R196) -/

/-- A missed firing counts, and its gap record goes to the template's stream outside any context (R196); the lengths of a burst
template are frames. -/
def State.missed (s : State) (k : Nat) (ev : PrimEv) : State :=
  let u := if s.isBurst k then s.framePeriod else 1
  let t := ev.t / binsPerRef
  let a : Int := t - (s.get Reg.TRG_TMPL_PRE_PRE 0 k * u : Nat)
  let s := (s.gcount Reg.TRG_TMPL_MISSED_COUNT 0 k).put Reg.TRG_INT_MISSED 1
  s.missedGaps k (gapItems a (t + (s.get Reg.TRG_TMPL_POST_POST 0 k * u : Nat) + 1) 0xA 3 false 0 0)

/-- A firing is ignored by its template's hold-off (R194). -/
def State.heldOff (s : State) (k : Nat) (ev : PrimEv) : Bool :=
  let x := s.tmpl k
  match s.get Reg.TRG_TMPL_CFG_HOLD_MODE 0 k, x.lastTref with
  | 0, _ => false
  | _, none => false
  | 2, some _ => decide (x.since < s.get Reg.TRG_TMPL_CFG_HOLD_N 0 k)
  | _, some o =>
    let t := ev.t / binsPerRef
    decide ((o : Int) ≤ t) && decide (t < (o : Int) + s.get Reg.TRG_TMPL_HOLD_HOLD_T 0 k)

/-- A template fires: it is held, missed, or enters the pending store (R193 to R196, R235). -/
def State.fire (s : State) (k : Nat) (ev : PrimEv) (cause : Nat) : State :=
  let x := s.tmpl k
  if s.tmplState k ≠ 1 ∨ ev.t / binsPerRef < (x.armAt : Int) then s.gcount Reg.TRG_TMPL_HELD_COUNT 0 k
  else
    let held := s.heldOff k ev
    let s := s.setTmpl k { x with since := x.since + 1 }
    if held then s.gcount Reg.TRG_TMPL_HELD_COUNT 0 k
    else if s.isBurst k && (s.frm.burst.trig.isSome || s.frm.burst.restart) then s.missed k ev
    else if 64 ≤ s.trg.pend.length then s.missed k ev
    else
      let s := s.cond (s.isBurst k) fun s => s.setBurst (s.frm.burst.fired (binRef ev.t))
      s.setPend (s.trg.pend ++ [{ tmpl := k, ev := ev, cause := cause, at_ := s.dtRef }])

/-- A time in bins of DT as a flare carries it: ET seconds and nanoseconds of its reference edge, and its fine part (R204). -/
def State.flareTime (s : State) (t : Int) : Nat × Nat × Nat :=
  let ns := ((s.etOff : Int) + 4 * (t / binsPerRef)) % (etMod : Int)
  ((ns / 1000000000).toNat, (ns % 1000000000).toNat, binFine t)

/-- Condition `c` fires: it is counted, may send a flare, and may start mask sweeps (R190, R192, R206). -/
def State.condFires (s : State) (c : Nat) (ev : PrimEv) : State :=
  let s := s.gcount Reg.TRG_COND_CNT_COUNT 0 c
  let p := s.get Reg.TRG_COND_CFG_TSRC 0 c
  let s := s.cond (s.flag Reg.TRG_COND_CFG_SEND 0 c && !(decide (296 ≤ p) && decide (p ≤ 311))) fun s =>
    let (sec, ns, fine) := s.flareTime ev.t
    s.sendFlare { ftype := 0, code := s.get Reg.TRG_COND_CFG_FCODE 0 c, origin := s.moduleId, sec := sec, ns := ns, fine := fine }
  s.maskStart c

/-- The trigger time of a condition: the latest event of TSRC that the fabric has seen, or this edge (R190). -/
def State.trigTime (s : State) (c : Nat) : PrimEv :=
  let p := s.get Reg.TRG_COND_CFG_TSRC 0 c
  match s.trg.seen.find? fun e => e.1 == p with
  | some e => if p = 0x1FF then { t := (s.dtRef : Int) * 512 } else e.2
  | none => { t := (s.dtRef : Int) * 512 }

/-- The trigger sample: every enabled condition whose output is high and was low in the previous sample fires, and the firings of one
template count as one, at the earliest time, with the causes of all (R190, R191). -/
def execTriggerSample (s : State) : Out :=
  .next <|
    let out := s.trg.out
    let l := if s.flag Reg.TRG_CTRL_EN then
        (List.range 64).filter fun c => bit out c && !bit s.trg.prev c && s.flag Reg.TRG_COND_CFG_EN 0 c
      else []
    let evs := l.map fun c => (c, s.trigTime c)
    let s := { s with trg := { s.trg with prev := out } }
    let s := s.each evs fun s e => s.condFires e.1 e.2
    s.each (List.range 16) fun s k =>
      let m := evs.filter fun e => s.get Reg.TRG_COND_CFG_TMPL 0 e.1 == k && !s.flag Reg.TRG_COND_CFG_NOCAP 0 e.1
      match m with
      | [] => s
      | e :: r =>
        let first := r.foldl (fun (b : PrimEv) x => if x.2.t < b.t then x.2 else b) e.2
        s.fire k first (m.foldl (fun v x => v + 2 ^ x.1) 0)

/-! ## Arming (R193, R235) -/

/-- The error an arm finds (R193). -/
def State.armError (s : State) (k : Nat) : Nat :=
  let others := (List.range 16).filter fun j => j != k && s.tmplState j == 1
  let first (j : Nat) := s.get Reg.TRG_TMPL_CTX_FIRST 0 j
  let count (j : Nat) := s.get Reg.TRG_TMPL_CTX_COUNT 0 j
  if !s.flag Reg.EVT_STRM_CFGn_EN (s.tmplStream k) || others.any fun j => s.tmplStream j == s.tmplStream k then 1
  else if 4096 < first k + count k || count k == 0 ||
      others.any fun j => decide (first j < first k + count k) && decide (first k < first j + count j) then 2
  else if s.isBurst k then
    let room := if s.frm.burst.tmpl.isSome && s.frm.burst.tmpl != some k then 0 else s.burstSize
    if room < s.burstSlots k * s.frameSize then 3 else if s.frameTiles = [] then 4 else 0
  else 0

/-- A template becomes DISARMED (R193); a burst that has not fired ends with it. -/
def State.disarm (s : State) (k : Nat) : State :=
  let s := s.put Reg.TRG_TMPL_STATUS_STATE 0 0 k
  s.cond (s.frm.burst.tmpl == some k && s.frm.burst.trig.isNone) (·.setBurst {})

/-- A template is disarmed by a failed check (R193). -/
def State.armFails (s : State) (k e : Nat) : State :=
  ((s.disarm k).put Reg.TRG_TMPL_STATUS_ERR e 0 k).put Reg.TRG_INT_ARM_ERR 1

/-- A template is to be armed at an arm time (R193). -/
def State.arm (s : State) (k at_ : Nat) : State :=
  let e := s.armError k
  if e ≠ 0 then s.armFails k e
  else ((s.setTmpl k { s.tmpl k with armAt := at_, due := max at_ (s.dtRef + 1) }).put Reg.TRG_TMPL_STATUS_STATE 2 0 k).put
    Reg.TRG_TMPL_STATUS_ERR 0 0 k

/-- The templates of a mask. -/
def tmplsOf (mask : Nat) : List Nat := (List.range 16).filter (bit mask)

/-- A write of TRG_ARM (R193). -/
def execTemplateArm (mask : Nat) (s : State) : Out :=
  .next <| s.bar 0xA00D0 fun s => s.each (tmplsOf mask) fun s k => s.arm k s.dtRef

/-- DT_REF reaches the arm time: the checks hold and the template is ARMED (R193). -/
def execTemplateArmed (tmpl : Nat) (s : State) : Out :=
  need (decide (tmpl < 16)) <|
    if s.tmplState tmpl ≠ 2 then s
    else
      let s := s.advanceTo (s.tmpl tmpl).due
      let e := s.armError tmpl
      if e ≠ 0 then s.armFails tmpl e
      else
        let s := s.put Reg.TRG_TMPL_STATUS_STATE 1 0 tmpl
        s.cond (s.isBurst tmpl && s.frm.burst.tmpl != some tmpl) fun s => s.setBurst (s.burstFor tmpl)

/-- A write of TRG_DISARM (R193). -/
def execTemplateDisarm (mask : Nat) (s : State) : Out :=
  .next <| s.bar 0xA00D4 fun s => s.each (tmplsOf mask) fun s k => s.disarm k

/-- ET reaches the time of a disarm flare (R204). -/
def execDisarmFlareDue (s : State) : Out :=
  .next <|
    let edge (x : Nat × Nat) : Nat := s.etEdge x.1
    match earliest (s.trg.disarm.map edge) with
    | none => s
    | some e =>
      let l := s.trg.disarm.filter fun x => edge x == e
      let s := { s.advanceTo e with trg := { s.trg with disarm := s.trg.disarm.filter fun x => edge x != e } }
      s.each l fun s x => s.each (tmplsOf x.2) fun s k => s.disarm k

/-! ## Contexts (R195 to R203) -/

/-- The staged fields of a template, which commit at a context's opening (R211). -/
def tmplFields : List Fld :=
  [Reg.TRG_TMPL_CFG_HOLD_MODE, Reg.TRG_TMPL_CFG_ONESHOT, Reg.TRG_TMPL_CFG_AUTOFREE, Reg.TRG_TMPL_CFG_HOLD_N, Reg.TRG_TMPL_PRE_PRE,
   Reg.TRG_TMPL_POST_POST, Reg.TRG_TMPL_HOLD_HOLD_T]

/-- The next free context of a template's range, after the index it last took (R195). -/
def State.freeCtx (s : State) (k : Nat) : Option Nat :=
  let f := s.get Reg.TRG_TMPL_CTX_FIRST 0 k
  let n := s.get Reg.TRG_TMPL_CTX_COUNT 0 k
  let o := match (s.tmpl k).lastIdx with
    | some i => i + 1 - f
    | none => 0
  ((List.range n).map fun i => f + (o + i) % n).find? fun i => (s.ctx i).st == 0

/-- A template with a pending flare opens the next free context of its range for the oldest (R195, R197, R200, R233). -/
def execContextOpen (tmpl : Nat) (s : State) : Out :=
  need (decide (tmpl < 16)) <|
    match s.trg.pend.find? fun p => p.tmpl == tmpl, s.freeCtx tmpl with
    | some p, some i =>
      let s := s.advanceTo (max (p.at_ + 1) (s.tmpl tmpl).next)
      let s := s.setPend (s.trg.pend.erase p)
      let s := s.each tmplFields fun s f => s.commit f 0 tmpl
      let s := s.commit Reg.TRG_RING_CFG_SETTLE
      let t := binRef p.ev.t
      let pre := s.get Reg.TRG_TMPL_PRE_PRE 0 tmpl
      let post := s.get Reg.TRG_TMPL_POST_POST 0 tmpl
      let h := s.get Reg.TRG_RING_HZN_H
      let burst := s.isBurst tmpl
      let s := s.setCtx i
        { tref := t, cause := p.cause, pre := pre, post := post, st := 1, tmpl := tmpl, fine := binFine p.ev.t, remote := p.ev.remote
          early := !burst && decide ((t : Int) - pre < h), late := p.ev.late
          origin := if p.ev.remote then p.ev.origin else s.moduleId }
      let x := s.tmpl tmpl
      let o : OpenCtx := { idx := i, settle := min 4194304 (s.get Reg.TRG_RING_CFG_SETTLE), hzn := h, free := s.flag Reg.TRG_TMPL_CFG_AUTOFREE 0 tmpl }
      let s := s.setTmpl tmpl { x with open_ := x.open_ ++ [o], lastIdx := some i, lastTref := some t, since := 0, next := s.dtRef + 1 }
      let s := ((s.put Reg.TRG_TMPL_STATUS_LAST_CTX i 0 tmpl).gcount Reg.TRG_TMPL_OPENED_COUNT 0 tmpl).showOpen
      let s := s.cond burst fun s => s.setBurst { (if s.frm.burst.trig.isSome then s.frm.burst else s.frm.burst.fired t) with ctx := some i }
      let s := s.cond (s.flag Reg.TRG_TMPL_CFG_ONESHOT 0 tmpl) (·.disarm tmpl)
      if burst then s.burstPump else s.follow
    | _, _ => s

/-- An open context is aborted (R202, R235). -/
def State.abortCtx (s : State) (i : Nat) : State :=
  let c := s.ctx i
  if c.st = 1 then
    if s.isBurst c.tmpl then (if s.frm.burst.ctx == some i then s.burstCut else s) else s.cutCtx c.tmpl i 3
  else s

/-- A write of TRG_CTX_CMD: ABORT acts first, and RELEASE follows (R202, R203, R212). -/
def State.ctxCmd (s : State) (v : Nat) : State :=
  let i := bits v 0 12
  let s := s.cond (bit v 17) (·.abortCtx i)
  let c := s.ctx i
  s.cond (bit v 16 && (c.st == 2 || c.st == 3)) (·.setCtx i { c with st := 0 })

/-- A write of TRG_CTX_CMD with ABORT = 1 (R202). -/
def execContextAbort (val : Nat) (s : State) : Out := need (bit val 17) (s.bar 0xA0100 (·.ctxCmd val))

/-- A write of TRG_CTX_CMD with RELEASE = 1 and ABORT = 0 (R203). -/
def execContextRelease (val : Nat) (s : State) : Out := need (bit val 16 && !bit val 17) (s.bar 0xA0100 (·.ctxCmd val))

/-! ## TRG_CTRL (R202, R210) -/

/-- RING_EN rises: the horizon is reset and the ring is emptied; an open context that still had to read it ends cut short (R182, R201,
R210). Without a ring partition the ring does not write, and error 0x5 says so (R463). -/
def State.ringStart (s : State) : State :=
  let s := s.each (List.range 16) fun s t =>
    if s.isBurst t then s
    else s.each ((s.tmpl t).open_.map (·.idx)) fun s i =>
      let head := ((s.tmpl t).open_.head?.map (·.idx)) == some i
      let at_ := if head then ((s.tmpl t).reading).getD 0 else 0
      let left := s.trg.ring.ents.any fun e => decide (at_ ≤ e.num) && s.trg.ring.segs.any fun g => g.num == e.seg && g.overlaps (s.ctx i)
      if left then s.cutCtx t i 2 else s
  let s := (s.setRing { buf := [] }).cond (s.get Reg.MEM_RING_SIZE == 0) (·.memRefuse 5)
  ((s.put Reg.TRG_RING_HZN_H 0).put Reg.TRG_RING_STATUS_WSEG 0).put Reg.TRG_RING_STATUS_WRAPPED 0

/-- EN falls: every open context is aborted, and the pending store's entries are missed firings (R202). -/
def State.trgStop (s : State) : State :=
  let s := s.each (List.range 16) fun s k => s.each ((s.tmpl k).open_.map (·.idx)) fun s i => s.abortCtx i
  let l := s.trg.pend
  let b := s.frm.burst
  let s := (s.setPend []).each l fun s p => s.missed p.tmpl p.ev
  match b.tmpl with
  | some k => s.cond (b.trig.isSome && b.ctx.isNone) (·.burstAgain k)
  | none => s

/-- A write of TRG_CTRL (R210). -/
def State.trgCtrl (s : State) (v : Nat) : State :=
  let en := s.flag Reg.TRG_CTRL_EN
  let ring := s.flag Reg.TRG_CTRL_RING_EN
  let s := (s.putB Reg.TRG_CTRL_EN (bit v 0)).putB Reg.TRG_CTRL_RING_EN (bit v 1)
  let s := s.cond (bit v 1 && !ring) (·.ringStart)
  let s := s.cond (bit v 0 && !en) (·.initFabric)
  s.cond (en && !bit v 0) (·.trgStop)

/-- A write of TRG_CTRL with RING_EN = 1 (R210). -/
def execRingEnable (val : Nat) (s : State) : Out := need (bit val 1) (s.bar 0xA0000 (·.trgCtrl val))

/-- A write of TRG_CTRL with EN = 1 (R210). -/
def execTriggerEnable (val : Nat) (s : State) : Out := need (bit val 0) (s.bar 0xA0000 (·.trgCtrl val))

/-- A write of TRG_CTRL with EN = 0 (R202). -/
def execTriggerDisable (val : Nat) (s : State) : Out := need (!bit val 0) (s.bar 0xA0000 (·.trgCtrl val))

/-! ## Flares, the done FIFO and the counters -/

/-- A write of TRG_FLARE_CTL: a reserved TYPE is refused; SEND sends the arm or disarm flare described (R204, R212). -/
def State.flareCtl (s : State) (v : Nat) : State :=
  let ty := bits v 1 2
  if ty = 0 ∨ ty = 3 then s.put Reg.TRG_INT_REFUSED 1
  else
    let s := (s.put Reg.TRG_FLARE_CTL_TYPE ty).put Reg.TRG_FLARE_CTL_TMPLMASK (bits v 16 16)
    s.cond (bit v 0) (·.sendFlare
      { ftype := ty, code := 0, origin := s.moduleId, mask := bits v 16 16, sec := s.get Reg.TRG_FLARE_SEC_SEC
        ns := s.get Reg.TRG_FLARE_NS_NS, fine := 0 })

/-- A write of TRG_FLARE_CTL with SEND = 1 (R204). -/
def execFlareSend (val : Nat) (s : State) : Out := need (bit val 0) (s.bar 0xA00E0 (·.flareCtl val))

/-- What TRG_DONE_FIFO reads as. -/
def State.doneWord (s : State) : Nat :=
  match s.trg.done with
  | [] => 0
  | i :: _ => i + 2 ^ 31

/-- A read of TRG_DONE_FIFO removes the oldest index (R212). -/
def State.doneRead (s : State) : State :=
  { s with rdata := [s.doneWord], trg := { s.trg with done := s.trg.done.tail } }

def execDoneFifoRead (s : State) : Out := .next (s.bar 0xA0104 (·.doneRead))

/-- A write of TRG_CNT_CLR (R213). -/
def execTrgCntClr (s : State) : Out :=
  .next <| s.bar 0xA01F0 fun s =>
    (s.clearFields ([Reg.TRG_RING_OVR_COUNT, Reg.TRG_LAGGED_COUNT, Reg.TRG_PRIM_CNT_COUNT, Reg.TRG_COND_CNT_COUNT,
      Reg.TRG_TMPL_OPENED_COUNT, Reg.TRG_TMPL_HELD_COUNT, Reg.TRG_TMPL_MISSED_COUNT, Reg.TRG_FLARE_IN_COUNT, Reg.TRG_FLARE_OUT_COUNT,
      Reg.TRG_NOTIME_COUNT, Reg.TRG_TRUNC_COUNT, Reg.TRG_CLASH_COUNT, Reg.TRG_MASK_STATUS_VCOUNT].map (·.id))).put
      Reg.TRG_STATUS_PEND_PEAK 0

end Sys2Proof.Machine
end

