-- ==== Sys2Proof/Machine/Lnk.lean ====
section
/-! DEFINITION. Machine/Lnk.lean: the ports of Lantern Link: discovery, training, lanes and their spares, the receiving side, replay,
topology, the lighthouse, time words, routing, dual paths and low power (chapter 13). -/

namespace Sys2Proof.Machine

/-! ## Lanes of a port (R373, R375) -/

/-- The lanes of a port from its configuration, the spare last. -/
def portLanes (lane0 width : Nat) (spare : Bool) : List Nat := (List.range (width + boolNat spare)).map (lane0 + ·)

def State.lanesOf (s : State) (p : Nat) : List Nat := portLanes (s.lane0 p) (s.lwidth p) (s.lspare p)

/-- The enabled port a lane belongs to. -/
def State.portOfLane (s : State) (l : Nat) : Option Nat :=
  (List.range 8).find? fun p => s.flag Reg.LNK_Pp_CFG_EN p && (s.lanesOf p).contains l

/-- The lane of a port whose markers carry a LIDX, or the one it has by configuration (R375). -/
def State.rxLane (s : State) (p lidx : Nat) : Nat :=
  ((s.lanesOf p).find? fun l => s.flag Reg.LNK_LANE_STATUS_ALIGNED 0 l && s.get Reg.LNK_LANE_STATUS_LIDX 0 l == lidx).getD (s.laneOfIdx p lidx)

/-- The LIDX of every lane of a port, 15 for the spare. -/
def State.lidxs (s : State) (p : Nat) : List Nat := List.range (s.lwidth p) ++ if s.lspare p then [15] else []

def State.setUse (s : State) (l u : Nat) : State := s.put Reg.LNK_LANE_STATUS_USE u 0 l

/-- Every lane of a port stands as configured: active, the spare standing by, or none in use. -/
def State.showLanes (s : State) (p : Nat) (on : Bool) : State :=
  s.each (s.lanesOf p) fun s l => s.setUse l (if !on then 0 else if l = s.lane0 p + s.lwidth p then 2 else 1)

/-- SPARE_USED: a spare of either direction is in use (R407). -/
def State.showSpare (s : State) (p : Nat) : State :=
  let x := s.lport p
  s.putB Reg.LNK_Pp_STATUS_SPARE_USED (x.rxMoved.isSome || x.txMoved.isSome) p

def State.lerr (s : State) (p e : Nat) : State := s.put Reg.LNK_Pp_STATUS_ERR e p

/-! ## The lighthouse (R393, R394) -/

/-- HOPS, LH_ID and LH_VALID from what the partners of the UP ports advertise. -/
def State.lighthouse (s : State) : State :=
  let l := (List.range 8).filterMap fun p => if s.lup p then (s.lport p).adv else none
  let l := l.filter (·.1)
  let id := (l.map fun a => a.2.2).min?
  let own := s.flag Reg.LNK_CTRL_ROLE
  let lower := own && (id.map fun i => decide (i < s.moduleId)).getD false
  let s := s.cond (lower && !s.flag Reg.LNK_STATUS_CONFLICT) (·.put Reg.LNK_INT_LH_CONFLICT 1)
  let s := s.putB Reg.LNK_STATUS_CONFLICT lower
  if own && !lower then ((s.put Reg.LNK_STATUS_HOPS 0).put Reg.LNK_STATUS_LH_ID s.moduleId).put Reg.LNK_STATUS_LH_VALID 1
  else match id with
    | none => ((s.put Reg.LNK_STATUS_HOPS 255).put Reg.LNK_STATUS_LH_ID 0).put Reg.LNK_STATUS_LH_VALID 0
    | some i =>
      let h := ((l.filter fun a => a.2.2 == i).map fun a => a.2.1).foldl min 255
      ((s.put Reg.LNK_STATUS_HOPS (min 255 (h + 1))).put Reg.LNK_STATUS_LH_ID i).put Reg.LNK_STATUS_LH_VALID 1

/-! ## The time source (R119, R136) -/

/-- With PORT = 0xF a LANTERN session follows the nearest trained port; a change sets SRC_CHANGE (R136). -/
def State.reselect (s : State) : State :=
  if s.flag Reg.TIM_STATUS_SESSION && s.get Reg.TIM_CTRL_SRC == 3 && s.get Reg.TIM_CTRL_PORT == 15 then
    let t := s.choosePort
    t.cond (t.tim.port != s.tim.port) (·.put Reg.TIM_INT_SRC_CHANGE 1)
  else s

/-! ## Pair table (R402) -/

def State.pair (s : State) (i : Nat) : Option LPair := s.lnk.pairs.getD i none

/-- LNK_DUAL_STATUS and LNK_DUAL_DSEQ of an entry (R405). -/
def State.setPair (s : State) (i : Nat) (e : Option LPair) : State :=
  let s := { s with lnk := { s.lnk with pairs := s.lnk.pairs.set i e } }
  match e with
  | none => s.put Reg.LNK_DUAL_STATUS_VALID 0 0 i
  | some e =>
    let s := ((s.put Reg.LNK_DUAL_STATUS_ORIGIN e.origin 0 i).put Reg.LNK_DUAL_STATUS_STREAM e.stream 0 i).putB Reg.LNK_DUAL_STATUS_H e.h 0 i
    let s := (s.put Reg.LNK_DUAL_STATUS_VALID 1 0 i).put Reg.LNK_DUAL_STATUS_ACTIVE e.active 0 i
    s.put Reg.LNK_DUAL_DSEQ_DSEQ ((e.next + 65535) % 65536) 0 i

/-- STREAM, H, COPY and PM of a DATA frame, and its ORIGIN and DSEQ (R399). -/
def LFrame.stream (f : LFrame) : Nat := bits f.tspec 10 6
def LFrame.h (f : LFrame) : Bool := bit f.tspec 8
def LFrame.copy (f : LFrame) : Nat := bits f.tspec 16 1
def LFrame.origin (f : LFrame) : Nat := bits (f.body.headD 0) 52 12
def LFrame.dseq (f : LFrame) : Nat := bits (f.body.headD 0) 36 16

/-- The stream words of a DATA frame with their poison tags (R399). -/
def LFrame.payload (f : LFrame) : List (Nat × Bool) :=
  if bit f.tspec 9 then
    let m := f.body.getD 1 0
    (f.body.drop 2).mapIdx fun i w => (w, bit m i)
  else (f.body.drop 1).map fun w => (w, false)

/-- A frame's words wait for the ingress queue of a port (R400). -/
def State.toIngress (s : State) (p : Nat) (f : LFrame) : State :=
  let x := s.lport p
  let k : SPkt := { ty := 16, words := f.payload, stream := f.stream, since := s.dtRef }
  if k.words = [] then s else s.setLport p { x with ingress := { x.ingress with pkts := x.ingress.pkts ++ [k] } }

/-- How far a DSEQ lies ahead of the next one; 32,768 and more is behind. -/
def LPair.ahead (e : LPair) (d : Nat) : Nat := (d + 65536 - e.next) % 65536

/-- Held frames that have been passed go; while frames are held, the wait for the next DSEQ runs (R402). -/
def LPair.tidy (e : LPair) (now : Nat) (moved : Bool) : LPair :=
  let h := e.held.filter fun x => decide (e.ahead x.1 < 32768)
  { e with held := h, waitFrom := if h = [] then none else if moved then some now else (e.waitFrom.orElse fun _ => some now) }

/-- A frame of the pair is delivered. -/
def State.pairOut (s : State) (e : LPair) (f : LFrame) : State × LPair :=
  (s.toIngress e.port f, { e with next := (f.dseq + 1) % 65536 })

/-- What is held of the active copy is delivered while it is the next DSEQ; the primary takes control back at the first DSEQ held
from it (R402, R403). -/
def State.pairRun : Nat → State → LPair → State × LPair
  | 0, s, e => (s, e)
  | k + 1, s, e =>
    let r := s.cond (e.restore && e.held.any fun x => x.1 == e.next && x.2.1 == 0) (·.put Reg.LNK_INT_RESTORED 1)
    let e := if e.restore && e.held.any (fun x => x.1 == e.next && x.2.1 == 0) then { e with restore := false, active := 0, whole := none } else e
    match e.held.find? fun x => x.1 == e.next && x.2.1 == e.active with
    | some x =>
      let q := r.pairOut e x.2.2
      State.pairRun k q.1 (q.2.tidy r.dtRef true)
    | none => (r, e)

/-- The entry settles after a change. -/
def State.pairSettle (s : State) (i : Nat) (e : LPair) (moved : Bool) : State :=
  let r := s.pairRun 130 (e.tidy s.dtRef moved)
  r.1.setPair i (some r.2)

/-- The active copy becomes the other one (R402). -/
def State.failover (s : State) (i : Nat) (e : LPair) : State :=
  (s.put Reg.LNK_INT_FAILOVER 1).pairSettle i { e with active := 1 - e.active, whole := none, restore := false, waitFrom := some s.dtRef } false

/-- A paired frame: delivered, held, or already delivered (R402, R403). -/
def State.pairIn (s : State) (i : Nat) (e : LPair) (p : Nat) (f : LFrame) : State :=
  let c := f.copy
  let e := { e with last := s.dtRef, ports := e.ports.set c (some p) }
  let e := if c = 0 ∧ e.active = 1 then
      { e with whole := match e.whole with
        | some (d, t) => some ((f.dseq + 1) % 65536, if d = f.dseq then t else s.dtRef)
        | none => some ((f.dseq + 1) % 65536, s.dtRef) }
    else e
  if 32768 ≤ e.ahead f.dseq || e.held.any (fun x => x.1 == f.dseq && x.2.1 == c) then
    (s.setPair i (some e)).lcount Reg.LNK_DUAL_DUP_COUNT
  else if c = e.active ∧ f.dseq = e.next then
    let q := s.pairOut e f
    q.1.pairSettle i q.2 true
  else
    let held := e.held ++ [(f.dseq, c, f)]
    let full := c != e.active && decide (64 ≤ (e.held.filter fun x => x.2.1 == c).length)
    if full then s.failover i { e with held := held } else s.pairSettle i { e with held := held } false

/-- A DATA frame for this module goes to the pair of its origin, or is discarded where the ingress entry is off (R400, R402). -/
def State.deliverData (s : State) (p : Nat) (f : LFrame) : State :=
  if (s.topo.ingress.getD p none).isNone then s.lcount Reg.LNK_INGRESS_OFF_COUNT
  else
    let same (e : LPair) : Bool := e.origin == f.origin && e.h == f.h && e.stream == f.stream
    match (List.range 64).find? fun i => ((s.pair i).map same).getD false with
    | some i => match s.pair i with
      | some e => s.pairIn i e p f
      | none => s
    | none =>
      match (List.range 64).find? fun i => (s.pair i).isNone with
      | some i => s.pairIn i { origin := f.origin, h := f.h, stream := f.stream, port := p, next := f.dseq } p f
      | none => if f.copy = 0 then s.toIngress p f else s.lcount Reg.LNK_DUAL_NOENT_COUNT

/-! ## Detach (R392) -/

/-- Stream words lost with a discarded frame join the overrun episode of their stream (R399, R430). -/
def State.lostFrame (s : State) (t : LTx) : State :=
  match t.stream with
  | none => s
  | some n =>
    let s := (s.put Reg.HST_STRM_OVR_OVR (Nat.lor (s.get Reg.HST_STRM_OVR_OVR (n / 32)) (2 ^ (n % 32))) (n / 32)).put Reg.HST_INT_OVR 1
    let x := s.strm n
    s.setStrm n { x with ovr := some (match x.ovr with
      | none => (t.lo, t.hi, t.words)
      | some (a, b, k) => (min a t.lo, max b t.hi, k + t.words)) }

/-- A port detaches and goes to the state given (R392, R507). -/
def State.detach (s : State) (p st : Nat) : State :=
  let x := s.lport p
  let lost := x.bulk.kept ++ x.bulk.wait ++ x.pri.kept ++ x.pri.wait
  let s := (s.lcount Reg.LNK_DETACH_DISC_COUNT 0 0 lost.length).each lost State.lostFrame
  let s := s.setLport p { rxBuf := x.rxBuf, ingress := x.ingress, turn := x.turn, since := s.dtRef, beaconAt := s.dtRef }
  let s := ((s.put Reg.LNK_Pp_PARTNER_ID 0 p).put Reg.LNK_Pp_PARTNER_PORT 0 p).put Reg.LNK_Pp_PARTNER_ROLE 0 p
  let s := ((s.put Reg.LNK_Pp_PARTNER_HOPS 255 p).put Reg.LNK_Pp_PARTNER_CAPS 0 p).put Reg.LNK_Pp_DELAY_DELAY 0 p
  let s := (s.put Reg.LNK_PORT_EVT_DETACHED (Nat.lor (s.get Reg.LNK_PORT_EVT_DETACHED) (2 ^ p))).put Reg.LNK_INT_DETACH 1
  let s := { s with tim := { s.tim with ltValid := s.tim.ltValid.filter (· != p), disagree := s.tim.disagree.filter (· != p) } }
  let s := (((s.put Reg.LNK_Pp_STATUS_STATE st p).put Reg.LNK_Pp_STATUS_RATE 0 p).showSpare p).showOutst p
  let s := s.showLanes p (st != 0)
  let s := s.each (List.range 64) fun s i => match s.pair i with
    | some e => if e.ports.getD e.active none = some p then s.failover i e else s
    | none => s
  let s := s.lighthouse
  let s := (s.cond (s.follows p) (·.sourceLost)).reselect
  s.fault 0xD p

/-! ## Ports (R374, R380, R381) -/

/-- Active lanes of the enabled ports but `p`. -/
def State.otherLanes (s : State) (p : Nat) : List Nat × Nat :=
  let l := (List.range 8).filter fun q => q != p && s.flag Reg.LNK_Pp_CFG_EN q
  (l.flatMap s.lanesOf, l.foldl (fun n q => n + s.lwidth q) 0)

/-- What refuses EN = 1 with the configuration written, 0 for nothing (R374). -/
def State.portCheck (s : State) (p v : Nat) : Nat :=
  let w := 2 ^ bits v 6 2
  let l := portLanes (bits v 1 5) w (bit v 8)
  let o := s.otherLanes p
  if l.any fun x => decide (17 < x) then 1
  else if (l.any fun x => o.1.contains x) || decide (16 < w + o.2) then 2
  else if !s.store.idSet then 3 else 0

/-- A write of LNK_Pp_CFG (R374, R380, R407). -/
def State.portCfg (s : State) (p v : Nat) : State :=
  let on := s.flag Reg.LNK_Pp_CFG_EN p
  let fields (s : State) (on : Bool) : State :=
    let s := (s.writeLocked Reg.LNK_Pp_CFG_LANE0 on (bits v 1 5) Reg.LNK_INT_REFUSED p).writeLocked Reg.LNK_Pp_CFG_WIDTH on (bits v 6 2)
      Reg.LNK_INT_REFUSED p
    let s := (s.writeLocked Reg.LNK_Pp_CFG_SPARE on (bits v 8 1) Reg.LNK_INT_REFUSED p).writeLocked Reg.LNK_Pp_CFG_RATE_MAX on (bits v 9 2)
      Reg.LNK_INT_REFUSED p
    s.put Reg.LNK_Pp_CFG_LP_EN (bits v 11 1) p
  if bit v 0 then
    if on then fields s true
    else
      let c := s.portCheck p v
      if c ≠ 0 then (s.put Reg.LNK_INT_REFUSED 1).lerr p c
      else
        let first := (List.range 8).all fun q => !s.flag Reg.LNK_Pp_CFG_EN q
        let s := s.cond first fun s => { s with lnk := { s.lnk with seen := [] } }
        let s := (((fields s false).put Reg.LNK_Pp_CFG_EN 1 p).put Reg.LNK_Pp_STATUS_STATE 1 p).lerr p 0
        let s := s.each (s.lanesOf p) fun s l => s.setLlane l { s.llane l with tx := {} }
        (s.setLport p { s.lport p with since := s.dtRef, beaconAt := s.dtRef }).showLanes p true
  else if on then
    let was := s.lupLow p || (s.lport p).attached
    let s := if was then s.detach p 0 else (s.setLport p { rxBuf := (s.lport p).rxBuf, ingress := (s.lport p).ingress }).showLanes p false
    fields ((s.put Reg.LNK_Pp_STATUS_STATE 0 p).put Reg.LNK_Pp_CFG_EN 0 p) true
  else fields s false

/-- A write of LNK_Pp_CFG with EN = 1 (R374). -/
def execPortEnable (port val : Nat) (s : State) : Out :=
  need (decide (port < 8) && bit val 0) (s.bar (0x1E0100 + 0x40 * port) (·.portCfg port val))

/-- A write of LNK_Pp_CFG with EN = 0 (R380). -/
def execPortDisable (port val : Nat) (s : State) : Out :=
  need (decide (port < 8) && !bit val 0) (s.bar (0x1E0100 + 0x40 * port) (·.portCfg port val))

/-- TINT in force (R405). -/
def State.tint (s : State) : Nat := min 20 (max 12 (s.get Reg.LNK_CTRL_TINT))

/-- The beacon of a port (R381). -/
def State.beacon (s : State) (p : Nat) : LFrame :=
  { ty := 6
    body := [s.moduleId * 2 ^ 52 + p * 2 ^ 49 + s.get Reg.LNK_CTRL_ROLE * 2 ^ 48 + s.get Reg.LNK_Pp_CFG_WIDTH p * 2 ^ 46 +
        s.get Reg.LNK_Pp_CFG_SPARE p * 2 ^ 45 + s.get Reg.LNK_Pp_CFG_RATE_MAX p * 2 ^ 43 + s.get Reg.LNK_STATUS_HOPS * 2 ^ 35 +
        s.get Reg.LNK_STATUS_LH_ID * 2 ^ 23 + s.tint * 2 ^ 19 + s.get Reg.LNK_STATUS_LH_VALID * 2 ^ 18,
      2 ^ 56 + s.get Reg.LNK_Pp_CFG_LP_EN p * 8 + 6 + boolNat (Config.timeSource s.drawn)] }

/-- The beacon goes out. -/
def State.sendBeacon (s : State) (p : Nat) : State :=
  let s := s.lsend p (s.beacon p)
  s.setLport p { s.lport p with beaconAt := s.dtRef }

/-- 1 ms after its last beacon a port in BEACON sends the next (R380). -/
def execBeaconSend (port : Nat) (s : State) : Out :=
  need (decide (port < 8)) <|
    if s.lstate port = 1 then (s.advanceTo ((s.lport port).beaconAt + 250000)).sendBeacon port else s

/-- A port enters TRAIN: FFE at preset, nothing done (R380, R382). -/
def State.enterTrain (s : State) (p : Nat) : State :=
  let x := s.lport p
  let s := s.setLport p { x with since := s.dtRef, heard := false, rxDone := [], txDone := [], deskewed := false, asked := [],
                                 rxMoved := none, txMoved := none, switching := none, waking := false, clean := s.dtRef }
  let s := s.each (s.lanesOf p) fun s l => (s.put Reg.LNK_LANE_STATUS_CM1 0 0 l).put Reg.LNK_LANE_STATUS_CP1 0 0 l
  (s.put Reg.LNK_Pp_STATUS_STATE 2 p).showSpare p

/-- A beacon arrives on a port in BEACON: one of another format is not valid; a partner that does not fit
leaves its code; else the port answers and trains at the highest rate both allow (R373, R374, R380, R381, R394). -/
def execBeaconReceive (port w0 w1 : Nat) (s : State) : Out :=
  need (decide (port < 8) && decide (w0 < 2 ^ 64) && decide (w1 < 2 ^ 64)) <|
    if s.lstate port = 1 ∧ bits w1 56 8 = 1 then
      if bits w0 46 2 ≠ s.get Reg.LNK_Pp_CFG_WIDTH port ∨ bits w0 45 1 ≠ s.get Reg.LNK_Pp_CFG_SPARE port ∨ bits w0 19 4 ≠ s.tint % 16 then
        s.lerr port 4
      else if bits w0 52 12 = s.moduleId then s.lerr port 5
      else
        let s := (s.sendBeacon port).put Reg.LNK_Pp_STATUS_RATE (min (s.get Reg.LNK_Pp_CFG_RATE_MAX port) (bits w0 43 2)) port
        let s := s.setLport port { s.lport port with beacon := some (w0, w1), adv := some (bit w0 18, bits w0 35 8, bits w0 23 12) }
        (s.enterTrain port).lighthouse
    else s

/-! ## Training (R382) -/

/-- The topology entry from the beacon (R392). -/
def State.fillEntry (s : State) (p : Nat) : State :=
  let (w0, w1) := ((s.lport p).beacon).getD (0, 0)
  let s := ((s.put Reg.LNK_Pp_PARTNER_ID (bits w0 52 12) p).put Reg.LNK_Pp_PARTNER_PORT (bits w0 49 3) p).put Reg.LNK_Pp_PARTNER_ROLE
    (bits w0 48 1) p
  let s := (s.put Reg.LNK_Pp_PARTNER_HOPS (bits w0 35 8) p).put Reg.LNK_Pp_PARTNER_CAPS (bits w1 0 8) p
  (s.put Reg.LNK_PORT_EVT_ATTACHED (Nat.lor (s.get Reg.LNK_PORT_EVT_ATTACHED) (2 ^ p))).put Reg.LNK_INT_ATTACH 1

/-- Frames of a class are sent again (R388). -/
def LClass.resend (c : LClass) (now : Nat) (fresh : Bool) : LClass :=
  { c with kept := c.kept.map fun t => { t with sends := if fresh then 1 else t.sends + 1 }, since := now }

/-- Every unacknowledged frame of a class is resent in order (R388). -/
def State.resend (s : State) (p : Nat) (pri fresh : Bool) : State :=
  let x := s.lport p
  let c := if pri then x.pri else x.bulk
  let c' := c.resend s.dtRef fresh
  let x := { x with clean := s.dtRef, waitAt := s.dtRef }
  let s := (s.setLport p (if pri then { x with pri := c' } else { x with bulk := c' })).lcount Reg.LNK_Pp_REPLAY_COUNT p 0 c.kept.length
  s.each c.kept fun s t => s.lsend p t.frame

/-- Lanes not done in both directions (R382). -/
def State.undone (s : State) (p : Nat) : List Nat :=
  let x := s.lport p
  (s.lidxs p).filter fun i => !(x.rxDone.contains i && x.txDone.contains i)

/-- A port enters UP: after a retrain it resumes with replay; else it attaches with its partner (R389, R392). -/
def State.portUp (s : State) (p : Nat) : State :=
  let s := s.each (s.lidxs p) fun s i => s.retestUnit 7 (s.rxLane p i) (!(s.undone p).contains i)
  let x := s.lport p
  let s := s.put Reg.LNK_Pp_STATUS_STATE 3 p
  let y := { x with since := s.dtRef, clean := s.dtRef, progress := s.dtRef, waitAt := s.dtRef, dataAt := s.dtRef }
  let s := if x.attached then
      ((s.setLport p y).put Reg.LNK_INT_RETRAIN 1 |>.resend p true true).resend p false true
    else
      (s.setLport p { y with attached := true, bulk := {}, pri := {}, timeAt := s.dtRef, heardAt := s.dtRef }).fillEntry p
  let s := s.each (s.lanesOf p) fun s l =>
    if s.get Reg.LNK_LANE_STATUS_USE 0 l = 3 ∧ (s.lport p).rxMoved.isNone then
      s.setUse l (if s.lspare p && l == s.rxLane p 15 then 2 else 1)
    else s
  ((s.lighthouse.reselect).lpump p).feedPort p

/-- Training fails: an attached port detaches, another returns to BEACON (R380, R389). -/
def State.trainFails (s : State) (p e : Nat) : State :=
  if (s.lport p).attached then (s.detach p 1).lerr p e
  else
    let s := (s.put Reg.LNK_Pp_STATUS_STATE 1 p).put Reg.LNK_Pp_STATUS_RATE 0 p
    (s.setLport p { s.lport p with since := s.dtRef, beaconAt := s.dtRef, beacon := none, adv := none }).lerr p e |>.lighthouse

/-- A TRAIN frame goes out on the transmit lane of a LIDX (R382). -/
def State.sendTrain (s : State) (p lidx : Nat) : State :=
  (s.lsendOn p lidx { ty := 7, body := [(Config.trainWord s.drawn).toNat] }).draw

/-- One tap moves by one step within its range (R382). -/
def tapMove (t : Tap) (v top : Nat) : Nat :=
  match t with
  | .hold => v
  | .inc => min top (v + 1)
  | .dec => v - 1

/-- A TRAIN frame arrives on the receive lane of LIDX `lane`: a request moves the taps of this module's transmitter and is answered,
a status frees the next request, DONE ends the lane's other direction; `eye` says that this receiver's eye meets its margins, which
makes the lane done, and `skew` is the lane-to-lane skew in ns. The port is UP when every lane is done and it is deskewed (R374, R380,
R382). -/
def execTrainFrameReceive (port lane : Nat) (msg : TrainMsg) (eye : Bool) (skew : Nat) (s : State) : Out :=
  need (decide (port < 8)) <|
    if s.lstate port = 2 ∧ (s.lidxs port).contains lane ∧ !s.staysOut 7 (s.rxLane port lane) then
      let l := s.laneOfIdx port lane
      let s := s.setLport port { s.lport port with heard := true }
      let s := match msg with
        | .request m p =>
          ((s.put Reg.LNK_LANE_STATUS_CM1 (tapMove m (s.get Reg.LNK_LANE_STATUS_CM1 0 l) 15) 0 l).put Reg.LNK_LANE_STATUS_CP1
            (tapMove p (s.get Reg.LNK_LANE_STATUS_CP1 0 l) 31) 0 l).sendTrain port lane
        | .preset => ((s.put Reg.LNK_LANE_STATUS_CM1 0 0 l).put Reg.LNK_LANE_STATUS_CP1 0 0 l).sendTrain port lane
        | .status => s.setLport port { s.lport port with asked := (s.lport port).asked.filter (· != lane) }
        | .done => s.setLport port { s.lport port with txDone := lane :: (s.lport port).txDone.filter (· != lane) }
      let x := s.lport port
      let s := if x.rxDone.contains lane then s
        else if eye then (s.setLport port { x with rxDone := lane :: x.rxDone }).sendTrain port lane
        else if x.asked.contains lane then s
        else (s.setLport port { x with asked := lane :: x.asked }).sendTrain port lane
      let s := s.setLport port { s.lport port with deskewed := decide (skew ≤ 60) }
      let s := s.cond (decide (60 < skew)) (·.lerr port 7)
      if (s.lport port).deskewed ∧ s.undone port = [] then s.portUp port else s
    else s

/-- A lane's place is taken by the spare of its port (R382, R390, R512). -/
def State.spareTakes (s : State) (p lidx : Nat) : State :=
  let s := s.setLport p { s.lport p with rxMoved := some lidx, switching := none, clean := s.dtRef }
  let out := s.rxLane p lidx
  let sp := s.rxLane p 15
  let s := (s.setUse out 3).setUse sp 1
  let s := ((s.showSpare p).put Reg.LNK_INT_LANE_SPARED 1).unitOut 7 out
  s.bringSpare 7 sp 0

/-- 500 ms after it entered TRAIN a port completes with its spare when exactly one lane is not done, or fails with ERR 0x6 (R374, R380,
R382). -/
def execTrainingTimeout (port : Nat) (s : State) : Out :=
  need (decide (port < 8)) <|
    if s.lstate port = 2 then
      let s := s.advanceTo ((s.lport port).since + 125000000)
      match s.undone port with
      | [i] =>
        if s.lspare port ∧ (s.lport port).deskewed then
          if i = 15 then (s.setUse (s.rxLane port 15) 3).portUp port
          else
            let s := s.spareTakes port i
            ((s.setLport port { s.lport port with txMoved := some i }).showSpare port).portUp port
        else s.trainFails port 6
      | _ => s.trainFails port 6
    else s

/-- 2 ms after it entered TRAIN, without a TRAIN frame of the partner, a port returns to BEACON (R380). -/
def execPartnerTrainTimeout (port : Nat) (s : State) : Out :=
  need (decide (port < 8)) <|
    if s.lstate port = 2 ∧ !(s.lport port).heard then
      (s.advanceTo ((s.lport port).since + 500000)).trainFails port (s.get Reg.LNK_Pp_STATUS_ERR port)
    else s

/-! ## Retraining and lane failures (R383, R389, R390) -/

/-- An UP or LOW port retrains: both replay buffers stay (R389). -/
def State.retrain (s : State) (p : Nat) : State :=
  if s.lupLow p then
    ((s.lsend p (ctrlFrame 6 0)).lcount Reg.LNK_Pp_RETRAINS_COUNT p).enterTrain p
  else s

/-- CTRL SWITCH goes out for a LIDX (R390). -/
def State.sendSwitch (s : State) (p lidx n : Nat) : State :=
  (s.lsend p (ctrlFrame 2 lidx)).setLport p
    { (s.lsend p (ctrlFrame 2 lidx)).lport p with switching := some { lidx := lidx, sent := n, last := s.dtRef }, clean := s.dtRef }

/-- A receive lane has failed: in UP an active lane is switched to the spare that stands by, or the port retrains; in LOW the failure
of the running lane wakes the port first (R383, R389, R390, R404). -/
def State.laneFails (s : State) (l : Nat) : State :=
  match s.portOfLane l with
  | none => s
  | some p =>
    let x := s.lport p
    let low := s.lstate p == 4
    let run := s.get Reg.LNK_LANE_STATUS_LIDX 0 l == 0
    let u := s.get Reg.LNK_LANE_STATUS_USE 0 l
    if s.lstate p = 3 ∨ (low ∧ run) then
      let s := s.cond (low && !x.waking) fun s =>
        (s.lsend p (ctrlFrame 4 0)).setLport p { (s.lsend p (ctrlFrame 4 0)).lport p with waking := true, since := s.dtRef }
      if u = 2 then s.setUse l 3
      else if u = 1 then
        let sp := s.rxLane p 15
        let stands := s.lspare p && s.get Reg.LNK_LANE_STATUS_USE 0 sp == 2 && x.switching.isNone && x.rxMoved.isNone
        let s := s.setUse l 3
        if stands then s.sendSwitch p (s.get Reg.LNK_LANE_STATUS_LIDX 0 l) 1 else s.retrain p
      else s
    else s

/-- The index in a lane's markers places it: the spare stands by, another is active (R375, R405). -/
def State.placeLane (s : State) (lane lidx : Nat) : State :=
  match s.portOfLane lane with
  | none => s
  | some p =>
    if (s.lport p).rxMoved.isNone ∧ (s.get Reg.LNK_LANE_STATUS_USE 0 lane = 1 ∨ s.get Reg.LNK_LANE_STATUS_USE 0 lane = 2) then
      s.setUse lane (if lidx = 15 then 2 else 1)
    else s

/-- How many bits of a byte are 1. -/
def ones8 (v : Nat) : Nat := ((List.range 8).filter (bit v)).length

/-- The word at an expected marker place: `w`, the parity `bip` of the words before it, and whether the receiver had to invert the pair
(R375, R377, R378, R383). A port in TRAIN with a partner it was attached to that hears another module detaches (R389). -/
def execMarkerReceive (lane w bip : Nat) (inv : Bool) (s : State) : Out :=
  need (decide (lane < 18) && decide (w < 2 ^ 64)) <|
    let x := s.llane lane
    if bits w 40 24 = 0x5AC396 then
      let id := (bits w 36 4, bits w 33 3, bits w 21 12)
      let good := if x.last = some id then x.good + 1 else 1
      let diff := Nat.xor (bits w 0 8) (bip % 256)
      let hist := (decide (diff ≠ 0) :: x.bip).take 16
      let bad := decide (4 ≤ (hist.filter (· == true)).length)
      let s := s.setLlane lane { x with good := good, bad := 0, last := some id, bip := if bad then [] else hist }
      let s := (s.put Reg.LNK_LANE_STATUS_LOS 0 0 lane).putB Reg.LNK_LANE_STATUS_POL_INV inv 0 lane
      let s := s.cond (decide (3 ≤ good)) fun s =>
        (((s.put Reg.LNK_LANE_STATUS_ALIGNED 1 0 lane).put Reg.LNK_LANE_STATUS_LOL 0 0 lane).put Reg.LNK_LANE_STATUS_LIDX id.1 0 lane).placeLane
          lane id.1
      let s := s.cond (decide (diff ≠ 0)) fun s => s.lcount Reg.LNK_LANE_BIP_COUNT 0 lane (ones8 diff)
      let s := s.cond bad (·.laneFails lane)
      match s.portOfLane lane with
      | some p =>
        if s.lstate p = 2 ∧ (s.lport p).attached ∧ 3 ≤ good ∧ id.2.2 ≠ s.get Reg.LNK_Pp_PARTNER_ID p then s.detach p 1 else s
      | none => s
    else
      let s := s.setLlane lane { x with good := 0, bad := x.bad + 1 }
      if x.bad + 1 = 4 ∧ s.flag Reg.LNK_LANE_STATUS_ALIGNED 0 lane then
        ((s.put Reg.LNK_LANE_STATUS_ALIGNED 0 0 lane).put Reg.LNK_LANE_STATUS_LOL 1 0 lane).laneFails lane
      else s

/-- A lane's amplitude has stayed below the LOS threshold for 1 µs (R383). -/
def execLaneLos (lane : Nat) (s : State) : Out :=
  need (decide (lane < 18)) <|
    let s := s.setLlane lane { s.llane lane with losAt := if s.flag Reg.LNK_LANE_STATUS_LOS 0 lane then (s.llane lane).losAt else s.dtRef }
    (s.put Reg.LNK_LANE_STATUS_LOS 1 0 lane).laneFails lane

/-- A lane's clock recovery loses lock, and with it the lane its alignment (R383). -/
def execLaneLol (lane : Nat) (s : State) : Out :=
  need (decide (lane < 18)) <|
    let x := s.llane lane
    (((s.put Reg.LNK_LANE_STATUS_LOL 1 0 lane).put Reg.LNK_LANE_STATUS_ALIGNED 0 0 lane).setLlane lane
      { x with good := 0, bad := 0, last := none, bip := [] }).laneFails lane

/-- The measured one-way delay in whole ref, rounded up. -/
def State.delayRef (s : State) (p : Nat) : Nat := ceilDiv (s.get Reg.LNK_Pp_DELAY_DELAY p) 4000

/-- SWITCHED has not arrived in 64 ref plus twice the delay: SWITCH again, or a retrain after four attempts (R390). -/
def execLaneSwitchRetry (port : Nat) (s : State) : Out :=
  need (decide (port < 8)) <|
    match (s.lport port).switching with
    | none => s
    | some w =>
      if s.lupLow port then
        let s := s.advanceTo (w.last + 64 + 2 * s.delayRef port)
        if w.sent < 4 then s.sendSwitch port w.lidx (w.sent + 1) else s.retrain port
      else s

/-- LOS has stood on every active lane of an UP or LOW port for 10 µs (R383). -/
def execPortLosDetach (port : Nat) (s : State) : Out :=
  need (decide (port < 8)) <|
    let l := (s.lanesOf port).filter fun l => s.get Reg.LNK_LANE_STATUS_USE 0 l == 1 || (s.get Reg.LNK_LANE_STATUS_USE 0 l == 3 &&
      (s.lport port).rxMoved.isNone)
    if s.lupLow port ∧ l ≠ [] ∧ l.all fun l => s.flag Reg.LNK_LANE_STATUS_LOS 0 l then
      (s.advanceTo ((l.map fun l => (s.llane l).losAt).foldl max 0 + 2500)).detach port 1
    else s

/-! ## The receiving side (R385, R386, R388) -/

/-- An acknowledgement of `seq` releases the frames up to it. -/
def LClass.ack (c : LClass) (seq now : Nat) : LClass × Bool :=
  if c.kept.any fun t => t.frame.seq == seq then
    ({ c with kept := (c.kept.dropWhile fun t => t.frame.seq != seq).drop 1, since := now }, true)
  else (c, false)

/-- A class is asked for replay, or its timer has run out: its frames are resent; a frame that has been sent 8 times makes the port
retrain (R388, R389). -/
def State.replay (s : State) (p : Nat) (pri : Bool) : State :=
  let c := if pri then (s.lport p).pri else (s.lport p).bulk
  if c.kept = [] then s
  else if c.kept.any fun t => decide (8 ≤ t.sends) then s.retrain p
  else s.resend p pri false

/-- The trailer of a good frame: acknowledgements, the partner's free slots, and requests for replay (R385, R388). -/
def State.heedTrailer (s : State) (p : Nat) (t : Trailer) : State :=
  let x := s.lport p
  let b := x.bulk.ack t.back s.dtRef
  let r := x.pri.ack t.pack s.dtRef
  let moved := b.2 || r.2
  let x := { x with bulk := b.1, pri := r.1, credit := t.credit * 8 - b.1.kept.length
                    progress := if moved then s.dtRef else x.progress, waitAt := if moved then s.dtRef else x.waitAt }
  let s := (s.setLport p { x with idleFirst := x.idleFirst || t.bnak || t.pnak }).showOutst p
  let s := (s.cond t.pnak (·.replay p true)).cond t.bnak (·.replay p false)
  (s.lpump p).feedPort p

/-- A frame that fails its checks is discarded, and both classes ask for replay (R383, R385). -/
def State.frameError (s : State) (p : Nat) : State :=
  let x := s.lport p
  (s.lcount Reg.LNK_Pp_CRCERR_COUNT p).setLport p
    { x with deaf := true, bulk := { x.bulk with nak := true }, pri := { x.pri with nak := true } }

/-- A frame arrives on an UP or LOW port: after a failed frame its words are discarded until two idle words have come; one that fails its
checks is discarded (R384, R385). -/
def State.lrecv (s : State) (p : Nat) (f : LFrame) (t : Trailer) (act : State → State) : State :=
  if s.lupLow p then
    if (s.lport p).deaf && decide (t.idles < 2) then s
    else
      let s := s.setLport p { s.lport p with deaf := false }
      if f.good t then act (s.heedTrailer p t) else s.frameError p
  else s

/-- A class takes a frame: the next SEQ is accepted, a duplicate is dropped in silence, a gap asks for replay (R388). -/
def LClass.accept (c : LClass) (seq w : Nat) : LClass × Bool :=
  if seq = c.rx then ({ c with rx := (c.rx + 1) % 2 ^ w, nak := false }, true)
  else if (c.rx + 2 ^ w - seq) % 2 ^ w ≤ 2 ^ (w - 1) then (c, false)
  else ({ c with nak := true }, false)

/-- A sequenced frame arrives: an accepted one is acknowledged (R388). -/
def State.lseq (s : State) (p : Nat) (pri : Bool) (seq : Nat) (f : State → State) : State :=
  let x := s.lport p
  let r := if pri then x.pri.accept seq 8 else x.bulk.accept seq 16
  let s := s.setLport p (if pri then { x with pri := r.1 } else { x with bulk := r.1 })
  if r.2 then f (s.lsend p (ctrlFrame 1 0)) else s

/-! ## Received frames -/

/-- The port LNK_ROUTE names for a module ID (R406). -/
def State.lnkRoute (s : State) (id : Nat) : Option Nat :=
  let v := bits (s.get Reg.LNK_ROUTE_PORTS (id / 8)) (4 * (id % 8)) 4
  if v < 8 then some v else none

/-- A DATA frame is delivered, forwarded or discarded (R400). -/
def State.routeData (s : State) (p : Nat) (f : LFrame) : State :=
  let dest := bits f.tspec 18 12
  if bit f.tspec 17 || dest == s.moduleId then s.deliverData p f
  else
    match s.lnkRoute dest with
    | some o =>
      if s.lupLow o then
        (s.setLport p { s.lport p with rxBuf := (s.lport p).rxBuf ++ [(o, f)] }).feedPort o
      else (s.lcount Reg.LNK_NOROUTE_COUNT).put Reg.LNK_INT_NOROUTE 1
    | none => (s.lcount Reg.LNK_NOROUTE_COUNT).put Reg.LNK_INT_NOROUTE 1

/-- A DATA frame arrives (R388, R400). -/
def execLnkDataRx (port seq tspec : Nat) (body : List Nat) (tr : Trailer) (s : State) : Out :=
  need (decide (port < 8)) <| s.lrecv port { ty := 1, seq := seq, tspec := tspec, body := body } tr fun s =>
    let s := s.setLport port { s.lport port with dataAt := s.dtRef }
    s.lseq port false seq fun s => s.routeData port { ty := 1, tspec := tspec, body := body }

/-- A received flare by its payload (R395). -/
def flareOf (b : List Nat) : Flare :=
  let w0 := b.getD 0 0
  { ftype := bits w0 62 2, code := bits w0 58 4, origin := bits w0 46 12, fseq := bits w0 30 16, mask := bits w0 14 16
    sec := bits (b.getD 1 0) 16 48, ns := bits (b.getD 2 0) 34 30, fine := bits (b.getD 2 0) 25 9 }

/-- The ET of a flare in ns. -/
def Flare.ns64 (f : Flare) : Nat := f.sec * 1000000000 + f.ns

/-- An accepted flare is presented: it fires primitive 296 + code, or arms or disarms the templates of its mask that allow it; without
a valid ET it has no effect here and counts (R204). -/
def State.present (s : State) (f : Flare) : State :=
  let s := s.gcount Reg.TRG_FLARE_IN_COUNT
  if s.etValid then
    let at_ := s.etEdge f.ns64
    let l := (tmplsOf f.mask).filter fun k => s.flag Reg.TRG_TMPL_CFG_REMOTE_ARM 0 k
    match f.ftype with
    | 0 => s.prim (296 + f.code) { t := s.etToBins f.ns64 + f.fine, remote := true, origin := f.origin }
    | 1 => s.each l fun s k => s.arm k at_
    | _ => { s with trg := { s.trg with disarm := s.trg.disarm ++ [(f.ns64, l.foldl (fun m k => m + 2 ^ k) 0)] } }
  else (s.gcount Reg.TRG_NOTIME_COUNT).put Reg.TRG_INT_NOTIME 1

/-- A flare: this module's own and those of a reserved type are discarded, a duplicate counts, a new one is presented and forwarded
(R395). -/
def State.takeFlare (s : State) (p : Nat) (f : Flare) : State :=
  if f.ftype = 3 ∨ f.origin = s.moduleId then s
  else
    let last := s.lnk.seen.get 0 f.origin
    let d := (f.fseq + 65536 - (last - 1)) % 65536
    if last = 0 ∨ (1 ≤ d ∧ d ≤ 32768) then
      let s := { s with lnk := { s.lnk with seen := s.lnk.seen.set 0 f.origin (f.fseq + 1) } }
      (s.present f).spreadFlare f (some p)
    else s.lcount Reg.LNK_FLARE_DUP_COUNT

/-- A FLARE frame arrives (R388, R395). -/
def execLnkFlareRx (port seq : Nat) (body : List Nat) (tr : Trailer) (s : State) : Out :=
  need (decide (port < 8)) <| s.lrecv port { ty := 2, seq := seq, body := body } tr fun s => s.lseq port true seq fun s => s.takeFlare port (flareOf body)

/-- A SNUFFER frame arrives and goes to the safety consumers of its port (R388, R398). -/
def execLnkSnufferRx (port seq : Nat) (body : List Nat) (tr : Trailer) (s : State) : Out :=
  need (decide (port < 8)) <| s.lrecv port { ty := 4, seq := seq, body := body } tr fun s =>
    s.lseq port true seq fun s => s.linkSnuffer port (body.flatMap (leBytesN 8))

/-- A CTRL ACK arrives: its trailer is what it says (R386, R388). -/
def execLnkCtrlAck (port : Nat) (tr : Trailer) (s : State) : Out :=
  need (decide (port < 8)) (s.lrecv port (ctrlFrame 1 0) tr id)

/-- A CTRL SWITCH arrives: the transmitter moves the LIDX to its spare and sends SWITCHED first (R390). -/
def execLnkCtrlSwitch (port lidx : Nat) (tr : Trailer) (s : State) : Out :=
  need (decide (port < 8) && decide (lidx < 16)) <| s.lrecv port (ctrlFrame 2 lidx) tr fun s =>
    if s.lspare port ∧ lidx < s.lwidth port then
      let s := s.setLport port { s.lport port with txMoved := some lidx, clean := s.dtRef }
      (s.showSpare port).lsend port (ctrlFrame 3 lidx)
    else s

/-- A checked CTRL SWITCHED arrives: the receiver takes the new mapping (R390). -/
def execLnkCtrlSwitched (port lidx : Nat) (tr : Trailer) (s : State) : Out :=
  need (decide (port < 8) && decide (lidx < 16)) <| s.lrecv port (ctrlFrame 3 lidx) tr fun s =>
    match (s.lport port).switching with
    | some w => if w.lidx = lidx then s.spareTakes port lidx else s
    | none => s

/-- A CTRL WAKE arrives at a LOW port (R404). -/
def execLnkCtrlWake (port : Nat) (tr : Trailer) (s : State) : Out :=
  need (decide (port < 8)) <| s.lrecv port (ctrlFrame 4 0) tr fun s =>
    if s.lstate port = 4 ∧ !(s.lport port).waking then s.setLport port { s.lport port with waking := true, since := s.dtRef } else s

/-- A CTRL SLEEP arrives at an UP port (R404). -/
def execLnkCtrlSleep (port : Nat) (tr : Trailer) (s : State) : Out :=
  need (decide (port < 8)) <| s.lrecv port (ctrlFrame 5 0) tr fun s =>
    if s.lup port ∧ s.flag Reg.LNK_Pp_CFG_LP_EN port then
      (s.put Reg.LNK_Pp_STATUS_STATE 4 port).setLport port { s.lport port with since := s.dtRef, waking := false }
    else s

/-- A CTRL RETRAIN arrives (R386). -/
def execLnkCtrlRetrain (port : Nat) (tr : Trailer) (s : State) : Out :=
  need (decide (port < 8)) <| s.lrecv port (ctrlFrame 6 0) tr (·.retrain port)

/-- Without acknowledgement progress for 2 × delay + 40 ref a class is resent (R388). -/
def execLnkReplayTimeout (port : Nat) (pri : Bool) (s : State) : Out :=
  need (decide (port < 8)) <|
    let c := if pri then (s.lport port).pri else (s.lport port).bulk
    if s.lupLow port ∧ c.kept ≠ [] then (s.advanceTo (c.since + 2 * s.delayRef port + 40)).replay port pri else s

/-- A port has frames that wait for an acknowledgement. -/
def State.outstanding (s : State) (p : Nat) : Bool := (s.lport p).bulk.kept != [] || (s.lport p).pri.kept != []

/-- 25,000 ref without acknowledgement progress (R389). -/
def execLnkProgressTimeout (port : Nat) (s : State) : Out :=
  need (decide (port < 8)) <|
    if s.lupLow port ∧ s.outstanding port then (s.advanceTo ((s.lport port).progress + 25000)).retrain port else s

/-- A write of LNK_Pp_CMD (R389). -/
def execLnkRetrainCmd (port val : Nat) (s : State) : Out :=
  need (decide (port < 8) && bit val 0) (s.bar (0x1E0128 + 0x40 * port) (·.retrain port))

/-- The port wait runs out: the port detaches (R504). -/
def execPortWaitExpire (port : Nat) (s : State) : Out :=
  need (decide (port < 8)) <|
    if s.lupLow port ∧ s.outstanding port then
      (s.advanceTo ((s.lport port).waitAt + 250 * max 100 (s.get Reg.GEN_FP_LNK_US))).detach port 1
    else s

/-! ## Time words (R396, R397) -/

/-- DT in 2^-16 ns, `sub` of those after the current edge. -/
def State.dt16 (s : State) (sub : Int) : Int := 4 * s.dtRef * 65536 + sub

/-- Local ET in 2^-16 ns; before ET_VALID with ET_OFF = 0 (R396). -/
def State.et16 (s : State) (sub : Int) : Int := if s.etValid then (s.et : Int) * 65536 + sub else s.dt16 sub

/-- A TIME frame goes out, its first bit `sub` × 2^-16 ns after an edge (R396). -/
def execTimeFrameSend (port sub : Nat) (s : State) : Out :=
  need (decide (port < 8)) <|
    if s.lupLow port then
      let s := s.advanceTo ((s.lport port).timeAt + 2 ^ s.tint)
      let x := s.lport port
      let t := s.et16 sub
      let d := s.dt16 sub
      let e := x.echo.getD (0, d)
      let ns := t.toNat / 65536
      let f : LFrame := { ty := 3, body := [
        ns / 1000000000 % 2 ^ 48 * 2 ^ 16 + x.tseq,
        ns % 1000000000 * 2 ^ 34 + t.toNat % 65536 * 2 ^ 18 + s.get Reg.LNK_STATUS_LH_ID * 2 ^ 6 + boolNat s.etValid * 2 ^ 5 +
          s.get Reg.LNK_STATUS_LH_VALID * 2 ^ 4,
        e.1 * 2 ^ 48 + ofInt 48 (d - e.2),
        s.get Reg.LNK_STATUS_HOPS * 2 ^ 56 + s.get Reg.TIM_STATUS_SESSION_ID * 2 ^ 40 + s.get Reg.TIM_STATUS_FAULT * 2 ^ 39] }
      let s := s.lsend port f
      s.setLport port { s.lport port with timeAt := s.dtRef, tseq := (x.tseq + 1) % 65536, stamps := ((x.tseq, d) :: x.stamps).take 16 }
    else s

/-- d_in of a port in ps: the mean of the last 16 measurements, 0 before the first (R397; DESIGN CHOICE, log entry 170). -/
def State.dIn (s : State) (p : Nat) : Int :=
  let l := (s.lport p).delays
  if l = [] then 0 else roundDiv (l.foldl (· + ·) 0) (l.length * 131072)

/-- A measurement of the delay: the echoed frame's stamp T1 and the arrival T4, both in DT, which no step moves, and RES, in 2^-16 ns; a write of
ASYM commits here (R397). -/
def State.measure (s : State) (p : Nat) (t1 t4 res : Int) : State :=
  let s := s.commit Reg.LNK_Pp_ASYM_ASYM p
  let x := s.lport p
  let d := (t4 - t1 - res) * 1000 + toInt 24 (s.get Reg.LNK_Pp_ASYM_ASYM p) * 65536
  let s := s.setLport p { x with delays := (d :: x.delays).take 16 }
  s.put Reg.LNK_Pp_DELAY_DELAY (s.dIn p).toNat p

/-- LT of a port at an arrival, less ET: the port's offset in ps (R119); of the source port it is a sample (R136). -/
def State.ltSample (s : State) (p : Nat) (o : Int) : State :=
  (s.ltPut p o).cond (s.follows p) (·.timeSample o)

/-- A TIME frame arrives, its first bit `sub` × 2^-16 ns after the current edge (R394, R396, R397). -/
def execLnkTimeRx (port : Nat) (sub : Int) (body : List Nat) (tr : Trailer) (s : State) : Out :=
  need (decide (port < 8)) <| s.lrecv port { ty := 3, body := body } tr fun s =>
    let w0 := body.getD 0 0
    let w1 := body.getD 1 0
    let w2 := body.getD 2 0
    let w3 := body.getD 3 0
    let t4 := s.et16 sub
    let tx : Int := ((bits w0 16 48 * 1000000000 + bits w1 34 30) * 65536 + bits w1 18 16 : Nat)
    let x := s.lport port
    let s := s.setLport port { x with echo := some (bits w0 0 16, s.dt16 sub), heardAt := s.dtRef, misses := 0
                                      adv := some (bit w1 4, bits w3 56 8, bits w1 6 12) }
    let s := s.put Reg.LNK_Pp_PARTNER_HOPS (bits w3 56 8) port
    let s := match x.stamps.find? fun e => e.1 == bits w2 48 16 with
      | some e => s.measure port e.2 (s.dt16 sub) (bits w2 0 48 : Nat)
      | none => s
    let s := s.lighthouse.reselect
    if bit w1 5 then s.ltSample port (roundDiv (centred (etMod * 65536) (tx - t4) * 1000) 65536 + s.dIn port) else s

/-- 1.5 intervals after the last TIME frame, and then every interval, a TIME frame is missed; the source is lost at the fourth in a row
(R136, R396); a port in a retrain misses them as well. -/
def execTimeFrameMiss (port : Nat) (s : State) : Out :=
  need (decide (port < 8)) <|
    if s.lupLow port || s.tim.ltValid.contains port then
      let i := 2 ^ s.tint
      let x := s.lport port
      let s := (s.advanceTo (x.heardAt + i + i / 2)).lcount Reg.LNK_Pp_TMISS_COUNT port
      let s := s.setLport port { s.lport port with heardAt := x.heardAt + i, misses := x.misses + 1 }
      if x.misses + 1 = 4 ∧ s.follows port then s.sourceLost.reselect else s
    else s

/-! ## Dual paths (R402, R403) -/

/-- The next DSEQ has been awaited for HOLD ref: the other copy takes over where it holds it, else the DSEQs that are missing are
skipped (R402). -/
def execDualHoldExpire (entry : Nat) (s : State) : Out :=
  need (decide (entry < 64)) <|
    match s.pair entry with
    | none => s
    | some e => match e.waitFrom with
      | none => s
      | some w =>
        let s := s.advanceTo (w + s.get Reg.LNK_DUAL_CFG_HOLD)
        if e.held.any fun x => x.1 == e.next then s.failover entry e
        else
          let n := (e.held.map fun x => e.ahead x.1).foldl min 65535
          let e := { e with next := (e.next + n) % 65536 }
          let own := e.held.any fun x => x.1 == e.next && x.2.1 == e.active
          let s := (s.lcount Reg.LNK_DUAL_SKIP_COUNT 0 0 n).put Reg.LNK_INT_DUAL_SKIP 1
          if own then s.pairSettle entry e true
          else
            match e.held.find? fun x => x.1 == e.next with
            | some x => let q := s.pairOut e x.2.2; q.1.pairSettle entry q.2 true
            | none => s.setPair entry (some e)

/-- 10 s without a frame free an entry (R402). -/
def execDualPairExpire (entry : Nat) (s : State) : Out :=
  need (decide (entry < 64)) <|
    match s.pair entry with
    | none => s
    | some e => (s.advanceTo (e.last + 2500000000)).setPair entry none

/-- The primary has been clean for 10 s and has sent every DSEQ: it takes control back at the first DSEQ the hold buffer holds from it
(R403). -/
def execDualRestore (entry : Nat) (s : State) : Out :=
  need (decide (entry < 64)) <|
    match s.pair entry with
    | none => s
    | some e =>
      match e.ports.getD 0 none, e.whole with
      | some p, some (_, t) =>
        if e.active = 1 ∧ s.lupLow p then
          (s.advanceTo (max t (s.lport p).clean + 2500000000)).pairSettle entry { e with restore := true } false
        else s
      | _, _ => s

/-! ## Low power (R404) and counters -/

/-- 2^16 ref without a DATA frame either way: with low power at both ends the port sends SLEEP and enters LOW. -/
def execPortSleep (port : Nat) (s : State) : Out :=
  need (decide (port < 8)) <|
    if s.lup port ∧ s.flag Reg.LNK_Pp_CFG_LP_EN port ∧ bit (s.get Reg.LNK_Pp_PARTNER_CAPS port) 3 then
      let s := (s.advanceTo ((s.lport port).dataAt + 65536)).lsend port (ctrlFrame 5 0)
      (s.put Reg.LNK_Pp_STATUS_STATE 4 port).setLport port { s.lport port with since := s.dtRef, waking := false }
    else s

/-- Every lane is restored: the port is UP again, and what waited goes out (R404). -/
def execPortWakeComplete (port : Nat) (s : State) : Out :=
  need (decide (port < 8)) <|
    if s.lstate port = 4 ∧ (s.lport port).waking then
      let s := (s.put Reg.LNK_Pp_STATUS_STATE 3 port).setLport port { s.lport port with waking := false, dataAt := s.dtRef }
      ((s.lighthouse.lpump port).feedPort port)
    else s

/-- A write of LNK_CNT_CLR (R406). -/
def execLnkCntClr (s : State) : Out :=
  .next <| s.bar 0x1E005C fun s =>
    s.clearFields ([Reg.LNK_LANE_BIP_COUNT, Reg.LNK_FLARE_DUP_COUNT, Reg.LNK_NOROUTE_COUNT, Reg.LNK_INGRESS_OFF_COUNT,
      Reg.LNK_DUAL_DUP_COUNT, Reg.LNK_DUAL_SKIP_COUNT, Reg.LNK_DUAL_NOENT_COUNT, Reg.LNK_DETACH_DISC_COUNT, Reg.LNK_Pp_REPLAY_COUNT,
      Reg.LNK_Pp_CRCERR_COUNT, Reg.LNK_Pp_TMISS_COUNT, Reg.LNK_Pp_OUTST_PEAK, Reg.LNK_Pp_RETRAINS_COUNT].map (·.id))

end Sys2Proof.Machine
end

