-- ==== Sys2Proof/Machine/Reset.lean ====
section
/-! DEFINITION. Machine/Reset.lean: power, rails, RESET_N, boundary scan, and how a start begins and ends (chapters 1 and 17;
the stages of a start are in Machine/Start.lean). -/

namespace Sys2Proof.Machine

/-- The group each rail rises in (R28). -/
def railGroup : Rail → Nat
  | .vaux => 1
  | .vio | .vfein => 2
  | .vcn | .vphy09 => 3
  | .vana | .vphy12 | .vrld => 4

/-- BOOT_RAIL codes (R509); VAUX has none, so its code is a free value. -/
def railCode : Rail → Nat
  | .vaux => Config.vauxRail % 16
  | .vio => 1 | .vfein => 2 | .vcn => 3 | .vphy09 => 4 | .vana => 5 | .vphy12 => 6 | .vrld => 7

/-- BOOT_RAIL records a rail. -/
def State.recordRail (s : State) (code run : Nat) : State :=
  ((s.put Reg.BOOT_RAIL_RAIL code).put Reg.BOOT_RAIL_RUN run).put Reg.BOOT_RAIL_VALID 1

/-- Change the module's phase. -/
def State.setPhase (s : State) (p : Phase) : State := { s with sys := { s.sys with phase := p } }

/-- Change what holds the module in reset. -/
def State.setHolds (s : State) (h : Holds) : State := { s with sys := { s.sys with holds := h } }

/-- VAUX rises through 3.0 V: a power-on reset, in which everything but the store and the fuses takes its reset value, and
the power-on monitor counts (R482, R516). VAUX is below its operating range still (R26). -/
def execVauxRise (s : State) : Out :=
  let w := { s.store.wear with powerOns := s.store.wear.powerOns + 1 }
  .next { State.reset with
    pending := s.pending, drawn := s.drawn, store := { s.store with wear := w }, svc := { wear := w }
    sys := { rails := s.sys.rails.filter (· != .vaux), refclkOk := s.sys.refclkOk, i2cStrap := s.sys.i2cStrap } }

/-- VAUX falls below 3.0 V: the always-on domain is lost, and with it everything but the store and the fuses (R483). -/
def State.vauxLost (s : State) : State :=
  { State.reset with
    pending := s.pending, drawn := s.drawn, store := s.store, svc := { wear := s.store.wear }
    sys := { phase := .dead, rails := s.sys.rails.filter (· != .vaux), refclkOk := s.sys.refclkOk, i2cStrap := s.sys.i2cStrap } }

def execVauxFall (s : State) : Out := .next s.vauxLost

/-- A rail rises into range; the first rail found before an earlier group is recorded, and the module is held in reset
until every rail is in range (R28, R30). Nothing is recorded when VAUX is the late rail. -/
def execRailRise (r : Rail) (s : State) : Out :=
  let late := allRails.filter fun q => decide (railGroup q < railGroup r) && !s.sys.rails.contains q
  let s1 := { s with sys := { s.sys with rails := if s.sys.rails.contains r then s.sys.rails else r :: s.sys.rails } }
  let early := decide (late ≠ []) && s.sys.phase != .dead
  let first := !s1.flag Reg.BOOT_RAIL_VALID || s1.flag Reg.BOOT_RAIL_RUN
  let s2 := s1.cond (early && !late.contains .vaux && first) (·.recordRail (railCode r) 0)
  .next (s2.setHolds { s2.sys.holds with rail := (s2.sys.holds.rail || early) && !s2.railsOk })

/-- A rail leaves its range: fault 0x01 while the module runs (R31, R499), a failed start with code 0x0A during one (R488);
in reset it only is out of range. -/
def execRailOutOfRange (r : Rail) (s : State) : Out :=
  let s1 := { s with sys := { s.sys with rails := s.sys.rails.filter (· != r) } }
  match s.sys.phase with
  | .running | .pilot => .next ((s1.recordRail (railCode r) 1).fault 1 (railCode r))
  | .starting => .next ((s1.recordRail (railCode r) 1).startFails 0xA)
  | _ => .next s1

/-- RESET_N is low for `lowNs` ns: below 5 us it is ignored, else it is accepted, which between 5 and 10 us it may be: a pin reset (R484).
The hold of TEST_MODE is over, and its cause stands for the next start (R34). -/
def execResetNAccept (lowNs : Nat) (s : State) : Out :=
  if s.sys.phase = .dead || !s.sys.rstN || lowNs < 5000 then .next s
  else
    let s := s.resetAll (if s.sys.holds.testMode then 2 else 1)
    .next { s with sys := { s.sys with rstN := false } }

/-- A bounce in the settling millisecond counts, saturating, and the millisecond starts again; the held time of a pin reset then runs to the
bounce's rise (R485, R486). -/
def execResetNBounce (heldMs : Nat) (s : State) : Out :=
  if s.sys.phase = .reset && s.sys.rstN then
    .next ((s.put Reg.BOOT_LAST_BOUNCE (min 255 (s.get Reg.BOOT_LAST_BOUNCE + 1))).cond (decide (s.get Reg.BOOT_LAST_KIND ≤ 2))
      (·.put Reg.BOOT_HELD_MS (min heldMs 0xFFFFFFFF)))
  else .next s

/-- RESET_N rises: the straps are latched and the held time is measured (R33, R486); TEST_MODE high keeps the module in
reset, and BOOT_LAST.KIND gives the cause until the next start reports it (R34). -/
def execResetNRise (bootSel : Nat) (testMode : Bool) (heldMs : Nat) (s : State) : Out :=
  if s.sys.phase = .dead || s.sys.rstN then .next s
  else
    let s := (s.put Reg.BOOT_STATUS_STRAP bootSel).put Reg.BOOT_HELD_MS (min heldMs 0xFFFFFFFF)
    let s := s.cond testMode (·.put Reg.BOOT_LAST_KIND 2)
    .next { s with sys := { s.sys with rstN := true, holds := { s.sys.holds with testMode := testMode } } }

/-- Pilot-light mode is entered (R493); sessions and the audit log work in it, so the service record is read as at stage 3 (R494, R522). -/
def State.enterPilot (s : State) (cause : Nat) : State :=
  let s := s.loadRecord
  let s := { s with sys := { s.sys with phase := .pilot, pilotReq := false, restartReq := false } }
  let s := ((s.put Reg.BOOT_STATUS_PILOT 1).put Reg.HST_STATUS_PILOT 1).put Reg.BOOT_PILOT_CAUSE cause
  s.audit 0x21 0 0 0 0 cause

/-- The cause for which this start enters pilot-light mode, 0 for none (R487, R492, R495). -/
def State.pilotCause (s : State) : Nat :=
  if s.get Reg.BOOT_STATUS_STRAP = 3 then 1
  else if s.sys.pilotReq then 2
  else if s.get Reg.BOOT_STATUS_FAILCNT = 3 && !s.sys.restartReq then 3
  else 0

/-- The start begins once RESET_N has stayed high for 1 ms and nothing holds the module in reset: DT counts from 0 (R116),
and the start runs from stage 0 or enters pilot-light mode (R485, R493). -/
def execStartBegin (s : State) : Out :=
  if s.sys.phase = .reset && s.sys.rstN && s.sys.holds = {} then
    let s := { s with dtRef := 0, store := { s.store with starts := s.store.starts + 1 } }
    let s := (s.setPhase .starting).put Reg.BOOT_STATUS_STAGE 0
    let c := s.pilotCause
    .next (if c = 0 then { s with sys := { s.sys with restartReq := false } } else s.enterPilot c)
  else .next s

/-- The balls that have boundary cells, one cell each, and how many of a kind (R35); the SAF cells only observe (R36). -/
def cellBalls : List (String × Nat) :=
  [("RLD", 1008), ("OSPI", 12), ("I2C", 4), ("BOOT_SEL", 2), ("FAULT_N", 1), ("BMC_ALERT_N", 1), ("PERST_N", 1), ("WAKE_N", 1),
   ("CLKREQ_N", 1), ("TIM_PPS_IN", 1), ("TIM_PPS_OUT", 1), ("TDC_IN", 34), ("CTL_OUT", 4), ("CTL_STEP", 4), ("CTL_DIR", 4), ("SAF", 14)]

/-- How many boundary cells there are. -/
def cellCount : Nat := (cellBalls.map (·.2)).sum

/-- What the test data register of the current instruction captures, first bit first: the IDCODE register, the boundary cells, or the bypass
bit (R35). -/
def State.scanCapture (s : State) : List Bool :=
  match s.sys.jtag with
  | .idcode => (List.range 32).map (bit idcode)
  | .extest | .samplePreload => (List.range cellCount).map (Config.cellLevel s.drawn)
  | .highz | .clamp | .bypass => [false]

/-- A data scan of the selected register: what it captured comes out ahead of what goes in, and the boundary cells keep the last bits (R35).
Without bits there is no scan. -/
def State.dataScan (s : State) (tdi : List Bool) : State :=
  if tdi = [] || !s.railsOk || s.sys.phase = .dead then s
  else
    let r := s.scanCapture ++ tdi
    let s : State := { s with rdata := (r.take tdi.length).map boolNat }
    if s.sys.jtag = .extest ∨ s.sys.jtag = .samplePreload then
      { s.draw with sys := { s.sys with cells := r.drop tdi.length } }
    else s

/-- EXTEST, CLAMP or HIGHZ becomes current (R36): loaded with RESET_N high, the module enters reset and is held there. -/
def State.scanLoad (s : State) (j : JtagInstr) : State :=
  if !s.railsOk || s.sys.phase = .dead then s
  else if s.sys.rstN && !s.sys.holds.scan then
    let s := s.resetAll 3
    { s with sys := { s.sys with jtag := j, holds := { s.sys.holds with scan := true } } }
  else { s with sys := { s.sys with jtag := j } }

/-- Another instruction becomes current, which ends a boundary-scan reset (R36), and a stop of the two safety channels (R367). -/
def State.scanEnd (s : State) (j : JtagInstr) : State :=
  if !s.railsOk || s.sys.phase = .dead then s
  else
    let t : State := { s with sys := { s.sys with jtag := j, holds := { s.sys.holds with scan := false } } }
    if s.scanning && t.saf.runs then (t.safReboot [7, 8, 9]).safShow else t

/-- Each instruction, with the data scan that follows its load, if any. -/
def execJtagExtest (tdi : List Bool) (s : State) : Out := .next ((s.scanLoad .extest).dataScan tdi)
def execJtagClamp (tdi : List Bool) (s : State) : Out := .next ((s.scanLoad .clamp).dataScan tdi)
def execJtagHighz (tdi : List Bool) (s : State) : Out := .next ((s.scanLoad .highz).dataScan tdi)
def execJtagIdcode (tdi : List Bool) (s : State) : Out := .next ((s.scanEnd .idcode).dataScan tdi)
def execJtagSamplePreload (tdi : List Bool) (s : State) : Out := .next ((s.scanEnd .samplePreload).dataScan tdi)

/-- BYPASS 0xFF, or an opcode R35 does not list; the opcodes it lists have commands of their own. -/
def execJtagBypass (opcode : Nat) (tdi : List Bool) (s : State) : Out :=
  need (!([0x00, 0x01, 0x02, 0x08, 0x09].contains opcode) && decide (opcode < 256)) ((s.scanEnd .bypass).dataScan tdi)

/-- A test-logic reset by TRST_N or TMS selects IDCODE (R36). -/
def execJtagTestLogicReset (s : State) : Out := .next (s.scanEnd .idcode)

/-- The 100 ms hold after a failed start ends in a module reset (R491). -/
def execFailedStartHoldEnd (s : State) : Out :=
  if s.sys.phase = .failHold then .next (s.resetAll 6) else .next s

/-- 60 s after stage 10 without a pin or module reset the failed-start count returns to 0 (R492). -/
def execFailcntClearTimeout (s : State) : Out :=
  match s.sys.since10 with
  | none => .next s
  | some t =>
    let s := s.advanceTo (t + 15000000000)
    .next ({ s with sys := { s.sys with since10 := none } }.put Reg.BOOT_STATUS_FAILCNT 0)

/-- A write of BOOT_CTRL.RESTART = 1, guarded for Owner and Service (R495, R519); its effect waits for its entry. -/
def execBootRestart (s : State) : Out := .next (s.bar 0x10020 fun s => s.guarded 1 0x10020 0 1 1 [1, 4] 0)

/-- A write of BOOT_CTRL.PILOT = 1, guarded for Service (R495, R519). -/
def execBootPilot (s : State) : Out := .next (s.bar 0x10020 fun s => s.guarded 1 0x10020 0 2 2 [4] 0)

/-- A write of BOOT_CTRL, whatever its value (R5): its RESTART bit, its PILOT bit, or zeros, which only enter the log. -/
def State.bootCtrlWrite (s : State) (v : Nat) : State :=
  if bit v 0 then s.guarded 1 0x10020 0 v 1 [1, 4] 0
  else if bit v 1 then s.guarded 1 0x10020 0 v 2 [4] 0
  else s.guarded 1 0x10020 0 v 0 [1, 4] 0

/-- The effect of BOOT_CTRL once its entry is stored: a module reset by request (R495). -/
def State.bootCtrl (s : State) (v : Nat) : State :=
  if v = 0 then s
  else if v = 1 then
    let s := s.cond (s.get Reg.BOOT_PILOT_CAUSE == 3 && s.sys.phase == .pilot) (·.put Reg.BOOT_STATUS_FAILCNT 2)
    { s with sys := { s.sys with restartReq := true } }.resetAll 4
  else { s with sys := { s.sys with pilotReq := true } }.resetAll 4

/-- REFCLK is lost: fault 0x02 (R499); in reset, or in stage 0 whose check it fails, it only is absent. -/
def execRefclkLoss (s : State) : Out :=
  let s := { s with sys := { s.sys with refclkOk := false } }
  match s.sys.phase with
  | .running | .pilot => .next (s.fault 2 0)
  | .starting => .next (if s.get Reg.BOOT_STATUS_STAGE = 0 then s else s.fault 2 0)
  | _ => .next s

/-- REFCLK is back within range, which ends the reset of fault 0x02 (R503). -/
def execRefclkReturn (s : State) : Out :=
  .next { s with sys := { s.sys with refclkOk := true, holds := { s.sys.holds with refclk := false } } }

end Sys2Proof.Machine
end

