-- ==== Sys2Proof/Machine/Tdc.lean ====
section
/-! DEFINITION. Machine/Tdc.lean: the precision edge channels (chapter 9). -/

namespace Sys2Proof.Machine

def State.setTdc (s : State) (t : Tdc) : State := { s with tdc := t }
def State.interp (s : State) (i : Nat) : Interp := s.tdc.interp.getD i {}
def State.setInterp (s : State) (i : Nat) (x : Interp) : State := s.setTdc { s.tdc with interp := s.tdc.interp.set i x }
def State.tch (s : State) (n : Nat) : TdcCh := s.tdc.ch.getD n {}
def State.setTch (s : State) (n : Nat) (x : TdcCh) : State := s.setTdc { s.tdc with ch := s.tdc.ch.set n x }

/-- A channel counter. -/
def State.tdcount (s : State) (f : Fld) (n : Nat) : State := s.bump f Reg.TDC_INT_CNT_SAT 0 n

/-- Bins of 1.953125 ps in one ref (R271). -/
def tdcBins : Int := 2048

def State.chEn (s : State) (n : Nat) : Bool := s.flag Reg.TDC_CH_CFG_EN 0 n
def State.chMode (s : State) (n : Nat) : Bool := s.flag Reg.TDC_CH_CFG_MODE 0 n
def State.chState (s : State) (n : Nat) : Nat := s.get Reg.TDC_CH_STATUS_STATE 0 n
def State.chCore (s : State) (n : Nat) : Nat := s.get Reg.TDC_CH_STATUS_CORE 0 n
def State.chOff (s : State) (n : Nat) : Bool := bit (s.get Reg.TDC_CH_OFF_OFF) n
def State.coreFailed (s : State) (c : Nat) : Bool :=
  if c < 32 then bit (s.get Reg.TDC_CORE_FAIL0_FAIL) c else bit (s.get Reg.TDC_CORE_FAIL1_FAIL) (c - 32)

/-- The channel waits for the answer to its request. -/
def State.chWaits (s : State) (n : Nat) : Bool := s.tdc.reqs.any fun r => r.1 == n

/-- EDGE commits at the edge after its write (R286). -/
def State.edgeCommit (s : State) (n : Nat) : State :=
  match (s.tch n).edgeAt with
  | some e => s.cond (decide (e < s.dtRef)) fun s =>
      (s.commit Reg.TDC_CH_CFG_EDGE 0 n).setTch n { s.tch n with edgeAt := none }
  | none => s

/-- The polarity of a start/stop channel's stops: falling for EDGE = 0b10 (R276). -/
def State.stopFalling (s : State) (n : Nat) : Bool := s.get Reg.TDC_CH_CFG_EDGE 0 n == 2

/-- The channel's stops are selected at all. -/
def State.hasStops (s : State) (n : Nat) : Bool := s.get Reg.TDC_CH_CFG_EDGE 0 n != 0

/-- START_SRC names the channel's own pin (R276). -/
def State.ownStart (s : State) (n : Nat) : Bool :=
  s.get Reg.TDC_CH_CFG_START_SRC 0 n == 0x3E || s.get Reg.TDC_CH_CFG_START_SRC 0 n == n

/-- The channel measures edges of a polarity (R275, R276). -/
def State.measures (s : State) (n : Nat) (falling : Bool) : Bool :=
  if s.chMode n then (s.hasStops n && s.stopFalling n == falling) || (s.ownStart n && s.stopFalling n != falling)
  else bit (s.get Reg.TDC_CH_CFG_EDGE 0 n) (boolNat falling)

/-! ## The queue (R278 to R281) -/

/-- Word 1 of an entry (R278). -/
def tdcWord1 (kind ch : Nat) (falling spare bad lsat : Bool) (fine2 value : Nat) : Nat :=
  kind * 2 ^ 62 + ch * 2 ^ 57 + boolNat falling * 2 ^ 56 + boolNat spare * 2 ^ 55 + boolNat bad * 2 ^ 54 + boolNat lsat * 2 ^ 53 +
  fine2 % 2048 * 2 ^ 42 + 2 ^ 41 + value % 2 ^ 36

/-- QLEVEL, and TDC_QINT when the queue reaches its threshold (R281). -/
def State.showQueue (s : State) (n old : Nat) : State :=
  let l := (s.tch n).queue.length
  let thr := min 511 (32 * (s.get Reg.TDC_CH_CFG_THR 0 n + 1))
  (s.put Reg.TDC_CH_STATUS_QLEVEL l 0 n).cond (decide (old < thr) && decide (thr ≤ l)) fun s =>
    s.put Reg.TDC_QINT_Q (Nat.lor (s.get Reg.TDC_QINT_Q) (2 ^ n))

/-- An entry enters a queue with at least `free` entries free. -/
def State.tdcPush (s : State) (n free : Nat) (e : TdcEntry) : State :=
  let x := s.tch n
  if x.queue.length + free ≤ 512 then
    ((s.setTch n { x with queue := x.queue ++ [e] }).tdcount Reg.TDC_CH_ENTRIES_COUNT n).showQueue n x.queue.length
  else s

/-- The queue has room for an entry other than a gap. -/
def State.tdcRoom (s : State) (n : Nat) : Bool := decide ((s.tch n).queue.length + 2 ≤ 512)

/-- An edge is lost (R280). -/
def State.tdcLose (s : State) (n : Nat) : State :=
  let x := s.tch n
  (s.setTch n { x with loss := some (match x.loss with
    | none => (s.dtRef, s.dtRef, 1)
    | some (a, _, k) => (a, s.dtRef, k + 1)) }).tdcount Reg.TDC_CH_LOST_COUNT n

/-- A gap entry (R280, R284). -/
def State.tdcGap (s : State) (n start len lost : Nat) : State :=
  let e : TdcEntry := { w0 := start
                        w1 := tdcWord1 3 n false (decide (32 ≤ s.chCore n)) false (decide (2 ^ 36 - 1 < len)) (min 2047 lost)
                          (min (2 ^ 36 - 1) len) }
  (s.tdcPush n 1 e).put Reg.TDC_INT_LOSS 1

/-- The edge an armed interpolator has been armed from. -/
def Interp.armedFrom (x : Interp) : Option Nat :=
  match x.st with
  | .armed e => some e
  | _ => none

/-- The edge at which a channel's loss episode closes, while two entries are free and an interpolator is or will be armed: no edge was lost in
the ref before it (R280). -/
def State.lossEnds (s : State) (n : Nat) : Option Nat :=
  match (s.tch n).loss with
  | none => none
  | some (_, z, _) =>
    let c := 2 * s.chCore n
    if s.tdcRoom n && !s.chWaits n then
      (earliest ([c, c + 1].filterMap fun i => (s.interp i).armedFrom)).map fun e =>
        max (max e (z + 2)) (max (s.tch n).roomAt (s.tch n).from_)
    else none

/-- An episode whose closing edge has come writes its gap entry, ahead of what follows at this edge (R280). -/
def State.closeLoss (s : State) (n : Nat) : State :=
  match s.lossEnds n, (s.tch n).loss with
  | some e, some (a, _, k) =>
    if e ≤ s.dtRef then (s.setTch n { s.tch n with loss := none }).tdcGap n a (e - a) k else s
  | _, _ => s

/-! ## Spare cores (R283, R284) -/

/-- The oldest request shows. -/
def State.showTdcReq (s : State) : State :=
  match s.tdc.reqs with
  | [] => s.put Reg.TDC_STATUS_REQ_PENDING 0
  | (n, _) :: _ => (s.put Reg.TDC_STATUS_REQ_PENDING 1).put Reg.TDC_STATUS_REQ_CH n

/-- The free spare core a channel would get: 32, then 33. -/
def State.freeCore (s : State) : Option Nat :=
  [32, 33].find? fun c => !s.coreFailed c && !s.flag (if c = 32 then Reg.TDC_STATUS_SP32_USED else Reg.TDC_STATUS_SP33_USED)

/-- A channel goes out of service (R284). -/
def State.tdcChOff (s : State) (n at_ : Nat) : State :=
  let lost := ((s.tch n).loss.map (·.2.2)).getD 0
  let s := s.setTch n { s.tch n with loss := none, start := none }
  let s := (s.put Reg.TDC_CH_OFF_OFF (Nat.lor (s.get Reg.TDC_CH_OFF_OFF) (2 ^ n))).put Reg.TDC_INT_CH_OFF 1
  let s := s.put Reg.TDC_CH_STATUS_STATE 0 0 n
  (s.tdcGap n at_ (2 ^ 36) lost).fault 0x12 n

/-- TDC_CH_CAL shows the latest calibration of the channel's core (R286). -/
def State.showCal (s : State) (n : Nat) : State :=
  let a := s.interp (2 * s.chCore n)
  let b := s.interp (2 * s.chCore n + 1)
  let x := if a.calAt < b.calAt then b else a
  if x.calAt = 0 then (s.put Reg.TDC_CH_CAL_PERIOD 0 0 n).put Reg.TDC_CH_CAL_OFFSET 0 0 n
  else (s.put Reg.TDC_CH_CAL_PERIOD x.period 0 n).put Reg.TDC_CH_CAL_OFFSET (ofInt 9 x.offset) 0 n

/-- A channel moves to a spare core (R283, R512). -/
def State.tdcSwitch (s : State) (n c : Nat) : State :=
  let s := if c = 32 then (s.put Reg.TDC_STATUS_SP32_USED 1).put Reg.TDC_STATUS_SP32_CH n
    else (s.put Reg.TDC_STATUS_SP33_USED 1).put Reg.TDC_STATUS_SP33_CH n
  let s := ((s.put Reg.TDC_CH_STATUS_CORE c 0 n).setTch n { s.tch n with from_ := s.dtRef + 1 }).showCal n
  let left := ([32, 33].filter fun k => !s.coreFailed k && !s.flag (if k = 32 then Reg.TDC_STATUS_SP32_USED else Reg.TDC_STATUS_SP33_USED)).length
  s.bringSpare 9 c left

/-- A spare core that has failed serves no channel (R285). -/
def State.spareLeaves (s : State) (c : Nat) : State :=
  if c = 32 then (s.put Reg.TDC_STATUS_SP32_USED 0).put Reg.TDC_STATUS_SP32_CH 0
  else if c = 33 then (s.put Reg.TDC_STATUS_SP33_USED 0).put Reg.TDC_STATUS_SP33_CH 0
  else s

/-- The channels that a failure takes out of service go at the edge after it (R283). -/
def State.tdcOffs (s : State) : State :=
  if s.tdc.offDue = [] then s
  else
    let l := s.tdc.offDue
    let s := s.advanceTo (s.dtRef + 1)
    (s.setTdc { s.tdc with offDue := [] }).each l fun s x => s.tdcChOff x.1 x.2

/-- A core fails (R273, R283). -/
def State.coreFails (s : State) (c : Nat) : State :=
  if s.coreFailed c then s
  else
    let s := if c < 32 then s.put Reg.TDC_CORE_FAIL0_FAIL (Nat.lor (s.get Reg.TDC_CORE_FAIL0_FAIL) (2 ^ c))
      else s.put Reg.TDC_CORE_FAIL1_FAIL (Nat.lor (s.get Reg.TDC_CORE_FAIL1_FAIL) (2 ^ (c - 32)))
    let s := ((s.put Reg.TDC_INT_CORE_FAIL 1).unitOut 9 c).spareLeaves c
    match (List.range 32).find? fun n => s.chCore n == c && !s.chOff n with
    | none => s
    | some n =>
      match s.freeCore with
      | none => s.setTdc { s.tdc with offDue := s.tdc.offDue ++ [(n, s.dtRef)] }
      | some k =>
        if s.flag Reg.TDC_CTRL_SPARE_AUTO then s.tdcSwitch n k
        else ((s.setTdc { s.tdc with reqs := s.tdc.reqs ++ [(n, s.dtRef)] }).put Reg.TDC_INT_SPARE_REQ 1).showTdcReq

/-- The oldest request is answered (R283). -/
def State.tdcAnswer (s : State) (approve : Bool) : State :=
  match s.tdc.reqs with
  | [] => s
  | (n, at_) :: l =>
    let s := s.setTdc { s.tdc with reqs := l }
    let s := match s.freeCore with
      | some k => if approve then s.tdcSwitch n k else s.tdcChOff n at_
      | none => s.tdcChOff n at_
    s.showTdcReq

/-- A write of TDC_SPARE_CMD that acts as APPROVE (R283). -/
def execTdcSpareApprove (val : Nat) (s : State) : Out := need (bit val 0 && !bit val 1) (s.bar 0x1A0008 (·.tdcAnswer true))

/-- A write of TDC_SPARE_CMD with DECLINE (R283). -/
def execTdcSpareDecline (val : Nat) (s : State) : Out := need (bit val 1) (s.bar 0x1A0008 (·.tdcAnswer false))

/-- The oldest request has gone 2^20 ref without an answer (R283). -/
def execTdcSpareTimeout (s : State) : Out :=
  .next <|
    match s.tdc.reqs with
    | [] => s
    | (_, at_) :: _ => (s.advanceTo (at_ + 2 ^ 20)).tdcAnswer false

/-! ## Interpolators (R270 to R273) -/

/-- An edge at a pin reaches a channel: its core's interpolator armed earliest takes it, or it is lost (R272, R280). -/
def State.tdcEdge (s : State) (n : Nat) (falling : Bool) : State :=
  let s := (s.edgeCommit n).closeLoss n
  if !s.chEn n || s.chOff n || !s.measures n falling then s
  else if s.chWaits n || decide (s.dtRef < (s.tch n).from_) then s.tdcLose n
  else
    let a := 2 * s.chCore n
    let since (i : Nat) : Option Nat := (s.interp i).armedFrom.filter fun e => decide (e ≤ s.dtRef)
    let own := if s.chMode n then s.hasStops n && s.stopFalling n == falling else true
    let r : TdcRun := { at_ := s.dtRef, falling := falling, ch := n, own := own, start := s.chMode n && s.ownStart n && !own }
    let take (i : Nat) : State := s.setInterp i { s.interp i with st := .run r }
    match since a, since (a + 1) with
    | none, none => s.tdcLose n
    | some _, none => take a
    | none, some _ => take (a + 1)
    | some x, some y => if x ≤ y then take a else take (a + 1)

/-- An edge at a precision input. -/
def execTdcInputEdge (pin : Nat) (falling : Bool) (s : State) : Out :=
  need (decide (pin < 34)) <|
    s.each ((List.range 32).filter fun n => s.get Reg.TDC_CH_CFG_PIN 0 n == pin) fun s n => s.tdcEdge n falling

/-- An out-of-range result of an interpolator; the second in a row marks its core failed (R273). -/
def State.interpBad (s : State) (i : Nat) : State :=
  let x := s.interp i
  let s := s.setInterp i { x with bad := x.bad + 1 }
  s.cond (decide (2 ≤ x.bad + 1)) (·.coreFails (i / 2))

/-- A calibration ends with counts N1 and N2 (R270, R273). -/
def execTdcCalEnd (interp n1 n2 : Nat) (s : State) : Out :=
  need (decide (interp < 68)) <|
    let x := s.interp interp
    match x.st with
    | .cal since =>
      let s := s.advanceTo (since + 3)
      let per : Int := (n2 : Int) - n1
      let off : Int := 2 * (n1 : Int) - n2
      let ok := decide (1600 ≤ per) && decide (per ≤ 2560) && decide (0 ≤ off) && decide (off ≤ 384)
      let s := s.each ((List.range 32).filter fun n => s.chCore n == interp / 2) fun s n =>
        (s.put Reg.TDC_CH_CAL_PERIOD (ofInt 12 per) 0 n).put Reg.TDC_CH_CAL_OFFSET (ofInt 9 off) 0 n
      if ok then
        s.setInterp interp { x with st := .armed (s.dtRef + 1), period := per.toNat, offset := off, bad := 0, calAt := s.dtRef }
      else ((s.setInterp interp { x with st := .cal s.dtRef }).interpBad interp).tdcOffs
    | _ => s

/-- An interpolator armed for 1,024 ref without an edge calibrates again, once the other is armed too (R270). -/
def execTdcIdleRecal (interp : Nat) (s : State) : Out :=
  need (decide (interp < 68)) <|
    let o := if interp % 2 = 0 then interp + 1 else interp - 1
    match (s.interp interp).st, (s.interp o).st with
    | .armed e, .armed f =>
      let s := s.advanceTo (max (e + 1024) f)
      s.setInterp interp { s.interp interp with st := .cal s.dtRef }
    | _, _ => s

/-! ## Results (R271, R275 to R277, R282) -/

/-- A measurement begins to wait for its start: START_SRC, WMIN and WMAX commit (R276, R286). -/
def State.tdcArm (s : State) (n : Nat) : State :=
  let s := s.each [Reg.TDC_CH_CFG_START_SRC, Reg.TDC_CH_WMIN_WMIN, Reg.TDC_CH_WMAX_WMAX] fun s f => s.commit f 0 n
  (s.setTch n { s.tch n with start := none }).put Reg.TDC_CH_STATUS_STATE 1 0 n

/-- A measurement ends: REARM commits, and the channel is armed again or DISARMED (R277). -/
def State.tdcEnd (s : State) (n : Nat) : State :=
  let s := s.commit Reg.TDC_CH_CFG_REARM 0 n
  if s.flag Reg.TDC_CH_CFG_REARM 0 n then s.tdcArm n
  else (s.setTch n { s.tch n with start := none }).put Reg.TDC_CH_STATUS_STATE 0 0 n

/-- A start reaches a start/stop channel (R276). -/
def State.tdcStart (s : State) (n : Nat) (t : Int) (falling : Bool) : State :=
  match s.chState n with
  | 1 => (s.setTch n { s.tch n with start := some (t, falling) }).put Reg.TDC_CH_STATUS_STATE 2 0 n
  | 2 => s.tdcount Reg.TDC_CH_IGN_COUNT n
  | _ => s

/-- A time in bins as DT_REF and FINE2. -/
def tdcStamp (t : Int) : Nat × Nat := ((t / tdcBins).toNat, (t % tdcBins).toNat)

/-- The entry of an edge, or its loss for want of room (R280). -/
def State.tdcEntry (s : State) (n kind : Nat) (t : Int) (falling bad : Bool) (value : Nat) : State :=
  let s := s.closeLoss n
  if s.tdcRoom n then
    let (d, f) := tdcStamp t
    s.tdcPush n 2 { w0 := d, w1 := tdcWord1 kind n falling (decide (32 ≤ s.chCore n)) bad false f value }
  else s.tdcLose n

/-- A stop reaches a start/stop channel: the first inside the window ends the measurement with an interval entry and a primitive event
(R276, R277, R282). -/
def State.tdcStop (s : State) (n : Nat) (t : Int) (falling bad : Bool) : State :=
  match s.chState n, (s.tch n).start with
  | 2, some (ts, _) =>
    if ts + s.get Reg.TDC_CH_WMIN_WMIN 0 n * 128 ≤ t ∧ t ≤ ts + s.get Reg.TDC_CH_WMAX_WMAX 0 n * 128 then
      let s := s.tdcEntry n 1 t falling bad (t - ts).toNat
      (s.prim n { t := t / 4 }).tdcEnd n
    else s.tdcount Reg.TDC_CH_IGN_COUNT n
  | 1, _ | 2, none => s.tdcount Reg.TDC_CH_IGN_COUNT n
  | _, _ => s

/-- A result that leaves: its interpolator, the measurement, its edge time in bins, and whether it is out of range. -/
structure TdcRes where
  interp : Nat
  run : TdcRun
  t : Int
  bad : Bool
  deriving DecidableEq, Repr

/-- The corrected interval of a raw count, rounded to the nearest bin, halves up (R271; DESIGN CHOICE, log entry 184). -/
def Interp.interval (x : Interp) (n : Nat) : Int :=
  (2 * ((n : Int) - x.offset) * 2048 + x.period) / (2 * max 1 (x.period : Int))

/-- The result of a measurement (R271, R273). -/
def State.tdcRes (s : State) (i : Nat) (r : TdcRun) : TdcRes :=
  let v := (s.interp i).interval (r.count.getD 0)
  { interp := i, run := r, t := (r.at_ + 2 : Nat) * 2048 - v + toInt 24 (s.get Reg.TDC_CH_OFFSET_OFFSET 0 r.ch)
    bad := decide (v < 1984) || decide (4160 < v) }

/-- The measurements under way. -/
def State.tdcRuns (s : State) : List (Nat × TdcRun) :=
  (List.range 68).filterMap fun i => match (s.interp i).st with
    | .run r => some (i, r)
    | _ => none

/-- The results of the earliest edge for which one is due, once all of them have left. -/
def State.tdcDue (s : State) : List TdcRes :=
  let l := s.tdcRuns
  let d := l.filter fun x => some x.2.at_ == earliest (l.map (·.2.at_))
  if d.all fun x => x.2.count.isSome then d.map fun x => s.tdcRes x.1 x.2 else []

/-- A result reaches its channel: the channel measures, with the core that took the edge. -/
def State.tdcHears (s : State) (r : TdcRes) : Bool :=
  s.chEn r.run.ch && !s.chOff r.run.ch && !s.chWaits r.run.ch && s.chCore r.run.ch == r.interp / 2

/-- A result as a start: for its own channel, and for every channel that names it (R276). -/
def State.resultStarts (s : State) (r : TdcRes) : State :=
  let m := r.run.ch
  if s.tdcHears r then
    let l := (List.range 32).filter fun k => k != m && s.chEn k && s.chMode k && s.get Reg.TDC_CH_CFG_START_SRC 0 k == m
    (s.each l fun s k => s.tdcStart k r.t r.run.falling).cond r.run.start (·.tdcStart m r.t r.run.falling)
  else s

/-- A result as a stamp, with its primitive, or as a stop (R275, R276, R282). -/
def State.resultEnds (s : State) (r : TdcRes) : State :=
  let m := r.run.ch
  if s.tdcHears r then
    let s := s.cond r.bad fun s => (s.tdcount Reg.TDC_CH_BAD_COUNT m).put Reg.TDC_INT_BAD 1
    if !r.run.own then s
    else if s.chMode m then s.tdcStop m r.t r.run.falling r.bad
    else (s.tdcEntry m 0 r.t r.run.falling r.bad 0).prim m { t := r.t / 4 }
  else if s.chEn m && !s.chOff m then s.tdcLose m
  else s

/-- The interpolator of a result calibrates again from the stop edge (R270, R273). -/
def State.resultCal (s : State) (r : TdcRes) : State :=
  let x := s.interp r.interp
  s.setInterp r.interp { x with st := .cal (r.run.at_ + 2), bad := if r.bad then x.bad else 0 }

/-- The results due at one edge, which follows their stop edge: starts first, then stamps and stops, each in the order of their edge times; then
what the failed cores among them bring (R270, R273, R275, R276). -/
def State.tdcResults (s : State) (l : List TdcRes) : State :=
  let l := l.mergeSort fun a b => decide (a.t ≤ b.t)
  let s := s.advanceTo (((l.head?.map (·.run.at_)).getD 0) + 3)
  let s := ((s.each l State.resultCal).each l State.resultStarts).each l State.resultEnds
  (s.each (l.filter (·.bad)) fun s r => s.interpBad r.interp).tdcOffs

/-- Every edge whose results have all left is dealt with, in order. -/
def State.tdcFlow : Nat → State → State
  | 0, s => s
  | n + 1, s => if s.tdcDue = [] then s else (s.tdcResults s.tdcDue).tdcFlow n

/-- An interpolator's result with raw count `n` leaves at the edge after its stop edge (R270). -/
def execTdcResult (interp n : Nat) (s : State) : Out :=
  need (decide (interp < 68)) <|
    match (s.interp interp).st with
    | .run r => (s.setInterp interp { s.interp interp with st := .run { r with count := some n } }).tdcFlow 68
    | _ => s

/-- The edge at which a measurement started at `ts` times out (R277). -/
def State.timeoutEdge (s : State) (n : Nat) (ts : Int) : Nat := ((ts + s.get Reg.TDC_CH_WMAX_WMAX 0 n * 128) / 2048 + 4).toNat

/-- No stop has been accepted in the window: a timeout entry ends the measurement (R277), once no result of the channel is due up to that
edge. -/
def execTdcTimeout (ch : Nat) (s : State) : Out :=
  need (decide (ch < 32)) <|
    match s.chState ch, (s.tch ch).start with
    | 2, some (ts, falling) =>
      let e := s.timeoutEdge ch ts
      if s.tdcRuns.any fun x => x.2.ch == ch && decide (x.2.at_ + 3 ≤ e) then s
      else
        let s := (s.advanceTo e).closeLoss ch
        let (d, f) := tdcStamp ts
        let s := s.tdcPush ch 2 { w0 := d, w1 := tdcWord1 2 ch falling (decide (32 ≤ s.chCore ch)) false false f 0 }
        (s.tdcount Reg.TDC_CH_TIMEOUT_COUNT ch).tdcEnd ch
    | _, _ => s

/-- A loss episode closes (R280). -/
def execTdcGapEntry (ch : Nat) (s : State) : Out :=
  need (decide (ch < 32)) <|
    match s.lossEnds ch with
    | none => s
    | some e => (s.advanceTo e).closeLoss ch

/-! ## Channel registers (R276, R277, R286) -/

/-- The selected channel. -/
def State.tdcSel (s : State) : Nat := s.get Reg.TDC_CH_SEL_CH

/-- The channel stops: a measurement under way ends without an entry (R277). -/
def State.tdcDisarm (s : State) (n : Nat) : State :=
  (s.setTch n { s.tch n with start := none }).put Reg.TDC_CH_STATUS_STATE 0 0 n

/-- Entries of a queue without room are taken: two are free from the next edge on (R280). -/
def State.roomFrom (s : State) (n : Nat) : State :=
  if s.tdcRoom n then s else s.setTch n { s.tch n with roomAt := s.dtRef + 1 }

/-- A write of TDC_CH_CMD: ARM, DISARM and FLUSH, in that order. -/
def State.tdcCmd (s : State) (v : Nat) : State :=
  let n := s.tdcSel
  let s := s.cond (bit v 0 && s.chMode n && s.chState n == 0 && !s.chOff n) (·.tdcArm n)
  let s := s.cond (bit v 1) (·.tdcDisarm n)
  s.cond (bit v 2) fun s =>
    ((s.roomFrom n).setTch n { (s.roomFrom n).tch n with queue := [], snapIn := false }).put Reg.TDC_CH_STATUS_QLEVEL 0 0 n

def execTdcArm (val : Nat) (s : State) : Out := need (bit val 0) (s.bar 0x1A0054 (·.tdcCmd val))
def execTdcDisarm (val : Nat) (s : State) : Out := need (bit val 1) (s.bar 0x1A0054 (·.tdcCmd val))
def execTdcFlush (val : Nat) (s : State) : Out := need (bit val 2) (s.bar 0x1A0054 (·.tdcCmd val))

/-- A staged channel field written: pending while the channel is enabled, else at once, in place of what was pending. -/
def State.tdcStage (s : State) (f : Fld) (en : Bool) (v n : Nat) : State := if en then s.stage f v 0 n else (s.put f v 0 n).unstage f 0 n

/-- A write of TDC_CH_CFG for the selected channel, judged by the state before it; then EN rises or falls (R268, R269, R286). -/
def State.tdcCfg (s : State) (v : Nat) : State :=
  let n := s.tdcSel
  let en := s.chEn n
  let s := s.writeLocked Reg.TDC_CH_CFG_MODE en (bits v 1 1) Reg.TDC_INT_REFUSED 0 n
  let s := if bits v 2 2 = 3 then s.put Reg.TDC_INT_REFUSED 1
    else s.writeLocked Reg.TDC_CH_CFG_STD en (bits v 2 2) Reg.TDC_INT_REFUSED 0 n
  let s := if 33 < bits v 8 6 then s.put Reg.TDC_INT_REFUSED 1
    else s.writeLocked Reg.TDC_CH_CFG_PIN en (bits v 8 6) Reg.TDC_INT_REFUSED 0 n
  let s := s.tdcStage Reg.TDC_CH_CFG_EDGE en (bits v 4 2) n
  let s := s.setTch n { s.tch n with edgeAt := if en then some s.dtRef else none }
  let s := s.tdcStage Reg.TDC_CH_CFG_REARM en (bits v 6 1) n
  let s := s.tdcStage Reg.TDC_CH_CFG_START_SRC en (bits v 16 6) n
  let s := (s.put Reg.TDC_CH_CFG_THR (bits v 24 4) 0 n).put Reg.TDC_CH_CFG_EN (bits v 0 1) 0 n
  if bit v 0 && !en then s.cond (s.chMode n && !s.chOff n) (·.tdcArm n)
  else if !bit v 0 && en then s.tdcDisarm n
  else s

/-- A write of TDC_CH_CFG with EN = 1 (R286). -/
def execTdcChannelEnable (val : Nat) (s : State) : Out := need (bit val 0) (s.bar 0x1A0044 (·.tdcCfg val))

/-! ## The queue ports (R279, R287) -/

/-- A read of TDC_Qn_W0_LO snapshots the head entry and its ET. -/
def State.tdcSnap (s : State) (n : Nat) : State :=
  let x := s.tch n
  match x.queue with
  | [] => s.setTch n { x with snap := { w0 := 0, w1 := 0 }, snapEt := (0, 0, 0, s.etValid), snapIn := false }
  | e :: _ =>
    let fine := bits e.w1 42 11
    let ns := (s.etOff + 4 * e.w0 + fine / 512) % etMod
    s.setTch n { x with snap := e, snapEt := (ns / 1000000000, ns % 1000000000, fine % 512, s.etValid), snapIn := true }

/-- The eight registers of a port (R287). -/
def State.tdcPort (s : State) (n i : Nat) : Nat :=
  let x := s.tch n
  let (sec, ns, sub, ok) := x.snapEt
  match i with
  | 0 => bits x.snap.w0 0 32
  | 1 => bits x.snap.w0 32 32
  | 2 => bits x.snap.w1 0 32
  | 3 => bits x.snap.w1 32 32
  | 4 => ns
  | 5 => bits sec 0 32
  | 6 => bits sec 32 16 + boolNat ok * 2 ^ 31
  | _ => sub

/-- A read of TDC_Qn_W1_HI removes the entry of the snapshot. -/
def State.tdcRemove (s : State) (n : Nat) : State :=
  let x := s.tch n
  if x.snapIn then
    let s := if x.queue.length = 511 then s.roomFrom n else s
    (s.setTch n { s.tch n with queue := x.queue.tail, snapIn := false }).put Reg.TDC_CH_STATUS_QLEVEL (x.queue.length - 1) 0 n
  else s

def execTdcQueueSnapshot (ch : Nat) (s : State) : Out :=
  need (decide (ch < 32)) <| s.bar (0x1A1000 + 0x20 * ch) fun s =>
    let s := s.tdcSnap ch
    { s with rdata := [s.tdcPort ch 0] }

def execTdcQueueRemove (ch : Nat) (s : State) : Out :=
  need (decide (ch < 32)) <| s.bar (0x1A100C + 0x20 * ch) fun s =>
    let s := { s with rdata := [s.tdcPort ch 3] }
    s.tdcRemove ch

/-- A write of TDC_CNT_CLR (R285). -/
def execTdcCntClr (s : State) : Out :=
  .next <| s.bar 0x1A0030 fun s => s.clearFields ([Reg.TDC_CH_ENTRIES_COUNT, Reg.TDC_CH_LOST_COUNT, Reg.TDC_CH_IGN_COUNT,
    Reg.TDC_CH_TIMEOUT_COUNT, Reg.TDC_CH_BAD_COUNT].map (·.id))

end Sys2Proof.Machine
end

