-- ==== Sys2Proof/Machine/RegAccess.lean ====
section
/-! DEFINITION. Machine/RegAccess.lean: BAR0 writes field by field, reads, and the I2C port (R5 to R7, R411, R508, R549 to R557). -/

namespace Sys2Proof.Machine

/-! ## Which fields a word reaches (R549, R557) -/

/-- A field reached through a word of BAR0: its instance, the bank its selection register chooses, and which of its words it is. -/
structure RegRef where
  f : Fld
  i : Nat
  j : Nat
  k : Nat
  deriving DecidableEq, Repr

/-- The bank a window reaches: the selection register's value, modulo the number of instances (R557). -/
def State.selected (s : State) (f : Fld) (i : Nat) : Nat :=
  if f.bank = 1 then 0
  else match regTable.find? fun g => g.id == f.sel with
    | none => 0
    | some g => s.get g (if g.count = 1 then 0 else i) % f.bank

/-- The fields in the 32-bit word at `a`; a reserved offset has none. -/
def State.refs (s : State) (a : Nat) : List RegRef :=
  (regTable.filter fun f => f.covers a).map fun f =>
    let d := a - f.addr
    let i := if f.count = 1 then 0 else d / f.stride
    let o := if f.count = 1 then d else d % f.stride
    { f := f, i := i, j := s.selected f i, k := o / 4 }

/-- The part of a field that lies in its word `k`: first bit in the field, first bit in the word, and width. -/
def RegRef.part (r : RegRef) : Nat × Nat × Nat :=
  let lo := max r.f.lsb (32 * r.k)
  let hi := min (r.f.lsb + r.f.width) (32 * r.k + 32)
  (lo - r.f.lsb, lo - 32 * r.k, hi - lo)

/-! ## Classes (R6, R552) -/

/-- The block of a field counts as enabled (R6): its chapter states the condition, and without one it always is, but while an image's records
are applied (R253). -/
def State.blockEnabled (s : State) (r : RegRef) : Bool :=
  match r.f.blk with
  | .tim => s.flag Reg.TIM_STATUS_SESSION ||
    ((r.f.id == Reg.TIM_FREQ_MAN_Y.id || r.f.id == Reg.TIM_TILE_LAT_LAT.id) && s.sys.phase != .starting)
  | .til => s.flag Reg.TIL_CTRL_EN r.i
  | .frm => s.flag Reg.TIL_FRM_RUN_RUN
  | .evt | .strm | .clu => s.flag Reg.EVT_CTRL_EN
  | .trg => if (maskFields.map (·.id)).contains r.f.id then s.sweeping r.j else s.flag Reg.TRG_CTRL_EN
  | .fab =>
    if r.f.id == Reg.FAB_COND_MAP_WICK.id || r.f.id == Reg.FAB_COND_MAP_VALID.id then s.condEn r.i else s.flag Reg.TRG_CTRL_EN
  | .tdc => s.chEn r.j
  | .aux => s.auxEn
  | .ctl => s.slotEn r.i
  | .lnk => (List.range 8).any fun p => s.flag Reg.LNK_Pp_CFG_EN p
  | .lnkPort => s.flag Reg.LNK_Pp_CFG_EN r.i
  | .hstD => s.flag Reg.HST_Dq_CTRL_EN r.i
  | .hstH => s.flag Reg.HST_Hh_CTRL_EN r.i
  | .cmp => match s.streamOfCtx r.j with
    | some n => s.flag Reg.EVT_STRM_CFGn_EN n
    | none => false
  | .gen | .boot | .lif | .pcs | .saf | .hst | .mem => s.sys.phase != .starting

/-- The block's flag for a refused write is set (R6). -/
def State.refusedFlag (s : State) (r : RegRef) : State :=
  match r.f.blk with
  | .tim => s.put Reg.TIM_INT_REFUSED 1
  | .til => s.put Reg.TIL_INT_REFUSED 1 r.i
  | .frm => s.put Reg.TIL_FRM_INT_REFUSED 1
  | .evt | .strm => s.put Reg.EVT_INT_REFUSED 1
  | .clu => s.put Reg.CLU_INT_REFUSED 1
  | .trg => s.put Reg.TRG_INT_REFUSED 1
  | .fab => s.put Reg.FAB_INT_REFUSED 1
  | .tdc => s.put Reg.TDC_INT_REFUSED 1
  | .aux => s.auxRefuse 5 0
  | .ctl => s.put Reg.CTL_INT_REFUSED 1
  | .saf => s.put Reg.SAF_INT_REFUSED 1
  | .lnk | .lnkPort => s.put Reg.LNK_INT_REFUSED 1
  | .hst | .hstD | .hstH => s.put Reg.HST_INT_REFUSED 1
  | .cmp => s.put Reg.CMP_INT_REFUSED 1
  | .mem => (s.put Reg.MEM_ERR_CODE 7).put Reg.MEM_INT_REFUSED 1
  | .gen | .boot | .lif | .pcs => s.put Reg.GEN_INT_REFUSED 1

/-- A staged field is written: to its shadow copy while the block is enabled, else at once, in place of what was pending (R6). -/
def State.stagePut (s : State) (r : RegRef) (en : Bool) (v : Nat) : State :=
  if r.f.blk = .aux then s.auxStage r.f v r.i r.j
  else if en then
    let s := s.stage r.f v r.i r.j
    s.cond (r.f.blk == .ctl) (·.put Reg.CTL_Sn_STATUS_PENDING 1 r.i)
  else ((s.put r.f v r.i r.j).unstage r.f r.i r.j).cond (r.f.blk == .ctl) (·.showPending r.i)

/-- What a field reads as: its shadow copy where it is staged (R553). -/
def State.seen (s : State) (r : RegRef) : Nat :=
  if r.f.cls = .staged then (s.shadowOf r.f r.i r.j).getD (s.get r.f r.i r.j) else s.get r.f r.i r.j

/-- The value of a field after a write of the word it lies in. -/
def State.written (s : State) (r : RegRef) (v : Nat) : Nat :=
  let p := r.part
  setBits (s.seen r) p.1 p.2.2 (bits v p.2.1 p.2.2)

/-- A write reaches one field, judged by its access code and class against the state `s0` before the write (R5, R6, R552, R554). -/
def State.fieldWrite (s0 s : State) (r : RegRef) (v : Nat) : State :=
  let new := s0.written r v
  match r.f.acc with
  | .ro | .rwg | .fuse => s
  | .w1c =>
    let p := r.part
    let old := s.get r.f r.i r.j
    s.put r.f (old - Nat.land old (bits v p.2.1 p.2.2 * 2 ^ p.1)) r.i r.j
  | .wo => s.put r.f new r.i r.j
  | .rw =>
    match r.f.cls with
    | .live => s.put r.f new r.i r.j
    | .staged => s.stagePut r (s0.blockEnabled r) new
    | .locked =>
      if new = s0.get r.f r.i r.j then s
      else if s0.blockEnabled r then s.refusedFlag r
      else s.put r.f new r.i r.j

/-- A word as it reads (R5, R553): write-only fields read 0, and so does what is reserved. -/
def State.plainWord (s : State) (a : Nat) : Nat :=
  ((s.refs a).map fun r =>
    let p := r.part
    if r.f.acc = .wo then 0 else bits (s.seen r) p.1 p.2.2 * 2 ^ p.2.1).sum

/-! ## Guarded registers without a row of their own (R519, R531) -/

/-- The roles whose sessions may write a guarded register. -/
def guardRoles (a : Nat) : List Nat :=
  if 0x1D0100 ≤ a ∧ a < 0x1D0160 then [3]
  else if a = 0x1D0018 then [2, 3]
  else if a = 0x308 ∨ a = 0x30C ∨ a = 0x318 then [4]
  else [1]

/-- A write to a register with a guarded field: it waits for its entry with the selected bank (R528, R531). -/
def State.guardedWord (s : State) (a v : Nat) : State :=
  let j := ((s.refs a).map (·.j)).foldl max 0
  if 0x1D0000 ≤ a ∧ a < 0x1E0000 then
    s.guardedIn Reg.SAF_INT_REFUSED 1 a (s.plainWord a) v (v + 2 ^ 32 * j) (guardRoles a) 0
  else s.guarded 1 a (s.plainWord a) v (v + 2 ^ 32 * j) (guardRoles a) 0

/-- The stored effect of a guarded write of the plain registers: each guarded field takes its value, the safety set its shadow copy. -/
def State.guardedPut (s : State) (a act : Nat) : State :=
  let v := act % 2 ^ 32
  (s.refs a).foldl (fun s r =>
    let r := { r with j := act / 2 ^ 32 }
    if r.f.acc = .rwg then
      if r.f.cls = .staged then s.stage r.f (s.written r v) r.i r.j else s.put r.f (s.written r v) r.i r.j
    else s) s

/-! ## Registers whose writes act beyond their fields -/

/-- The state an outcome leads to. -/
def outState (s : State) : Out → State
  | .next t => t
  | _ => s

/-- A write of TIL_THR: all three fields are staged, and commit at once in a disabled tile (R80). -/
def State.thrWord (s : State) (t v : Nat) : State :=
  let s := ((s.stage Reg.TIL_THR_THR (bits v 0 10) t).stage Reg.TIL_THR_TRIMSTEP (bits v 12 2) t).stage Reg.TIL_THR_PREAMP (bits v 16 4) t
  if s.flag Reg.TIL_CTRL_EN t then s else s.thrCommit t

/-- Registers of a tile at offset `o` of its window; a region that crosses the tile's edge is refused (R236). -/
def State.tileWord (s : State) (t o v : Nat) : Option State :=
  match o with
  | 0x00 => some (s.tilCtrl t v)
  | 0x08 => some (s.thrWord t v)
  | 0x10 => some (s.tpFire t v)
  | 0x14 => some (s.tilRota t v)
  | 0x3C => some (if bit v 0 then outState s (execTilCntClr t s) else s)
  | 0x88 => some (if bit v 1 then s.answerReq t false else if bit v 0 then s.answerReq t true else s)
  | 0xC8 => some (if bit v 0 then outState s (execTilXcntClr t s) else s)
  | 0x104 => if bits v 0 6 + bits v 8 6 < 64 ∧ bits v 16 5 + bits v 24 5 < 32 then none else some (s.put Reg.TIL_INT_REFUSED 1 t)
  | _ => none

/-- A write of CTL_PCNT_CFG: a counter's mode is locked while an enabled slot names it, the reserved mode is refused, and mode 0 clears the
count (R325, R341). -/
def State.pcntCfg (s : State) (v : Nat) : State :=
  s.each (List.range 4) fun s n =>
    let old := bits (s.get Reg.CTL_PCNT_CFG_MODE) (2 * n) 2
    let m := bits v (2 * n) 2
    let used := (List.range 4).any fun k => s.slotEn k &&
      [Reg.CTL_Sn_SRC_FB_SRC, Reg.CTL_Sn_SRC_SP_SRC, Reg.CTL_Sn_SRC_FF_SRC].any fun f => s.get f k == 8 + n
    if m = old then s
    else if m = 3 || used then s.put Reg.CTL_INT_REFUSED 1
    else
      let s := s.put Reg.CTL_PCNT_CFG_MODE (setBits (s.get Reg.CTL_PCNT_CFG_MODE) (2 * n) 2 m)
      s.cond (m == 0) (·.put Reg.CTL_PCNT_COUNT 0 n)

/-- A 32-bit half of AUX_SEQn: the entry changes when its high half is written, with the low half held for it (R297). -/
def State.auxSeqWord (s : State) (o v : Nat) : State :=
  let n := o / 8
  if o % 8 = 0 then s.setAux { s.aux with seqLo := some (n, v) }
  else
    let old := (s.shadowOf Reg.AUX_SEQ_ENTRY n).getD (s.get Reg.AUX_SEQ_ENTRY n) % 2 ^ 32
    let lo := match s.aux.seqLo with
      | some (k, l) => if k = n then l else old
      | none => old
    (s.setAux { s.aux with seqLo := none }).auxStage Reg.AUX_SEQ_ENTRY (lo + 2 ^ 32 * v) n

/-- A write of TRG_MASK_CFG for the selected unit: EN at 0 ends its sweep (R206, R209). -/
def State.maskCfg (s : State) (v : Nat) : State :=
  let u := s.get Reg.TRG_MASK_SEL_UNIT
  let was := s.flag Reg.TRG_MASK_CFG_EN 0 u
  let t := (s.refs 0xA014C).foldl (fun t r => s.fieldWrite t r v) s
  if was && !bit v 0 then t.maskWait u else t

/-- GEN_FP_TILE and GEN_FP_LNK move their clamps (R504). -/
def State.showClamps (s : State) : State :=
  (s.each [0, 1, 2, 3] State.clampTile).each (List.range 8) State.clampPort

/-- Writes that act beyond the fields of their register; none for a register that only holds its fields. -/
def State.special (s : State) (a v : Nat) : Option State :=
  let go (o : Out) : Option State := some (outState s o)
  let on (c : Bool) (o : Out) : Option State := if c then some (outState s o) else some s
  if 0x60000 ≤ a ∧ a < 0x64000 then s.tileWord ((a - 0x60000) / 0x1000) (a % 0x1000) v
  else if 0x100000 ≤ a ∧ a < 0x180000 then some (s.rmapWrite ((a - 0x100000) / 8) (a / 4 % 2) v)
  else if 0x80100 ≤ a ∧ a < 0x80300 then (if a % 8 = 0 then some (s.strmCfg ((a - 0x80100) / 8) v) else none)
  else if 0x1B0040 ≤ a ∧ a < 0x1B0080 then some (s.pinCfg ((a - 0x1B0040) / 4) v)
  else if 0x1B1000 ≤ a ∧ a < 0x1B1200 then some (s.auxSeqWord (a - 0x1B1000) v)
  else if 0x1C0100 ≤ a ∧ a < 0x1C0300 ∧ a % 0x80 = 0 then some (s.loopCtrl ((a - 0x1C0100) / 0x80) v)
  else if 0x1C0100 ≤ a ∧ a < 0x1C0300 ∧ a % 0x80 = 0x54 then some (if bit v 0 then s.loopCommit ((a - 0x1C0100) / 0x80) else s)
  else if 0x1E0100 ≤ a ∧ a < 0x1E0300 ∧ a % 0x40 = 0 then some (s.portCfg ((a - 0x1E0100) / 0x40) v)
  else if 0x1E0100 ≤ a ∧ a < 0x1E0300 ∧ a % 0x40 = 0x28 then some (if bit v 0 then s.retrain ((a - 0x1E0100) / 0x40) else s)
  else if 0x1F0100 ≤ a ∧ a < 0x1F1100 ∧ a % 0x40 = 0 then some (s.qctrl false ((a - 0x1F0100) / 0x40) v [])
  else if 0x1F1100 ≤ a ∧ a < 0x1F1300 ∧ a % 0x40 = 0 then some (s.qctrl true ((a - 0x1F1100) / 0x40) v [])
  else match a with
    | 0x00118 => on (bit v 0) (execGenFaultAck s)
    | 0x00148 => on (bit v 0) (execGenCntClr s)
    | 0x00208 => go (execModuleIdProgram (v % 4096) s)
    | 0x00230 | 0x00234 | 0x00238 | 0x0023C => if s.idleClose.role = 1 then none else some s.idleClose
    | 0x00210 => some (if bit v 5 then s.idleClose.closeSession 0 else if bit v 4 then outState s (execSessionRequest (bits v 0 3) s) else s)
    | 0x00224 => go (execSessionResponse v s)
    | 0x00240 => on (bit v 31) (execKeyProgram (bits v 0 3) (bits v 8 16) s)
    | 0x00400 => go (execVfeSet (bits v 0 8) s)
    | 0x10020 => some (s.bootCtrlWrite v)
    | 0x40000 => some (s.timCtrl v)
    | 0x40008 => on (bit v 0) (execTimSnap s)
    | 0x400E8 => on (bit v 0) (execTimCntClr s)
    | 0x68000 => some (s.pcsWord 0 v)
    | 0x68008 => on (bit v 0) (execPcsAbort s)
    | 0x6900C => some (s.frmRun v)
    | 0x69030 => on (bit v 0) (execTilFrmCntClr s)
    | 0x80000 => some (s.evtCtrl v)
    | 0x80010 => if bit v 0 then go (execRmapCommit v s) else some (s.put Reg.EVT_RMAP_CTRL_READ_ACTIVE (bits v 1 1))
    | 0x80034 => on (bit v 0) (execEvtCntClr s)
    | 0x810B8 => on (bit v 0) (execCluCntClr s)
    | 0xA0000 => some (s.trgCtrl v)
    | 0xA0068 => go (execHostFire (bits v 0 4) s)
    | 0xA00D0 => go (execTemplateArm (v % 65536) s)
    | 0xA00D4 => go (execTemplateDisarm (v % 65536) s)
    | 0xA00E0 => some (s.flareCtl v)
    | 0xA0100 => some (s.ctxCmd v)
    | 0xA0144 => some (s.writeMask true v)
    | 0xA0148 => some (s.writeMask false v)
    | 0xA014C => some (s.maskCfg v)
    | 0xA0158 => on (bit v 0) (execMaskRearm s)
    | 0xA01F0 => on (bit v 0) (execTrgCntClr s)
    | 0x18000C => some (s.checkDone.setFab { s.checkDone.fab with lutLo := some v })
    | 0x180010 => some (s.checkDone.setFab { s.checkDone.fab with lutHi := some v })
    | 0x180014 => some (s.checkDone.setFab { s.checkDone.fab with cfgLo := some v })
    | 0x180018 => go (execWickWrite v s)
    | 0x180020 => go (execGroupInputWrite v s)
    | 0x180180 => some (if bit v 0 then s.reloadAbort else s)
    | 0x180198 => on (bit v 0) (execFabCntClr s)
    | 0x180230 => some (s.imgCtrlWrite v)
    | 0x180234 => some (s.imgProgWrite v)
    | 0x1A0008 => some (if bit v 1 then s.tdcAnswer false else if bit v 0 then s.tdcAnswer true else s)
    | 0x1A0030 => on (bit v 0) (execTdcCntClr s)
    | 0x1A0044 => some (s.tdcCfg v)
    | 0x1A0054 => some (s.tdcCmd v)
    | 0x1B0000 => some (s.auxCtrl v)
    | 0x1B0030 => go (execAuxInjectFire (bits v 0 4) s)
    | 0x1B0090 => match bits v 0 2 with
      | 1 => go (execAuxCalZero v s)
      | 2 => go (execAuxCalFull v s)
      | 3 => go (execAuxCalAbort v s)
      | _ => some s
    | 0x1B0108 => on (bit v 0) (execAuxCntClr s)
    | 0x1C0000 => some (s.pcntCfg v)
    | 0x1C0068 => on (bit v 0) (execCtlCntClr s)
    | 0x1D0018 => some (if bit v 0 then s.ackWrite else s.guardedIn Reg.SAF_INT_REFUSED 1 0x1D0018 0 v 0 [2, 3] 0)
    | 0x1D018C => go (execSnufferRxSubmit v s)
    | 0x1D01C8 => on (bit v 0) (execSafCntClr s)
    | 0x1E005C => on (bit v 0) (execLnkCntClr s)
    | 0x1F0078 => on (bit v 0) (execHstCntClr s)
    | 0x200000 => some (s.cmpCtrl v)
    | 0x200038 => on (bit v 0) (execCmpCntClr s)
    | 0x200048 => some (s.cmpCmd v)
    | 0x210010 => some (s.memPartition 0 v)
    | 0x210014 => some (s.memPartition 1 v)
    | 0x210018 => some (s.memPartition 2 v)
    | 0x210038 => if bit v 0 then go (execScrubStart v s) else some (s.put Reg.MEM_SCRUB_CTRL_RATE (bits v 8 8))
    | 0x2100A8 => on (bit v 0) (execSramFuseProg v s)
    | 0x2100C8 => on (bit v 0) (execMemCntClr s)
    | _ => none

/-- What follows a plain write of a register. -/
def State.after (s0 s : State) (a v : Nat) : State :=
  if a = 0x120 ∨ a = 0x124 then s.showClamps
  else if a = 0x40050 then
    let lim : Int := 200 * 65536
    let y := ofInt 32 (clampInt lim (toInt 32 v))
    if (s.shadowOf Reg.TIM_FREQ_MAN_Y).isSome then s.stage Reg.TIM_FREQ_MAN_Y y else s.put Reg.TIM_FREQ_MAN_Y y
  else if a = 0x1E0000 then s.lighthouse
  else if a = 0x40084 ∨ a = 0x40088 then s.put Reg.TIM_STATUS_SEC_WANTED 0
  else if a = 0x180008 then (if s0.get Reg.FAB_WICK_SEL_WICK = v % 16384 then s else s.dropHeld)
  else if 0x180080 ≤ a ∧ a < 0x180180 then s.showDepth
  else if 0x1C0100 ≤ a ∧ a < 0x1C0300 ∧ a % 0x80 = 0x44 then s.loopSafe ((a - 0x1C0100) / 0x80)
  else if 0x1F0100 ≤ a ∧ a < 0x1F1300 ∧ a % 0x40 = 0x20 then s.showTmo
  else s

/-- A 32-bit write of BAR0 that reaches its register: each field by its access code and class against the state before it; a reserved
offset discards it (R5 to R7, R550, R552). An access to the FAB block during a check completes when the check ends (R260). -/
def State.write32 (s : State) (a v : Nat) : State :=
  let s := if 0x180000 ≤ a ∧ a < 0x190000 then s.checkDone else s
  match s.special a v with
  | some t => t
  | none =>
    let rs := s.refs a
    if rs.any fun r => r.f.acc == .rwg || r.f.acc == .fuse then s.guardedWord a v
    else s.after (rs.foldl (fun t r => s.fieldWrite t r v) s) a v

/-- A register whose write has an outcome that only its own command carries as an operand (a measurement, the answer of the two safety
channels, the masked vectors, TAGs in host memory). -/
def ownOutcome (a v : Nat) : Bool :=
  (a == 0x400B0 && bit v 8) || a == 0x1D0168 || a == 0x1F0058 || a == 0x1F005C || a == 0x1F0060 || (a == 0x210038 && bit v 1 && !bit v 0) ||
    (decide (0x1F1100 ≤ a) && decide (a < 0x1F1300) && a % 0x40 == 0 && !bit v 0)

/-- A write of BAR0 of `size` bytes at `addr` (R411, R489, R552): 4 or 8 bytes on their natural alignment, 8 bytes as the lower register and
then the upper one; any other is discarded and counted. -/
def execRegisterWrite (addr val size : Nat) (s : State) : Out :=
  need (decide (addr < barSize 0) && !(ownOutcome addr (val % 2 ^ 32)) && !(size == 8 && ownOutcome (addr + 4) (val / 2 ^ 32 % 2 ^ 32))) <|
    if (size = 4 ∨ size = 8) ∧ addr % size = 0 then
      let s := s.bar addr fun s => s.write32 addr (val % 2 ^ 32)
      if size = 8 then s.bar (addr + 4) fun s => s.write32 (addr + 4) (val / 2 ^ 32 % 2 ^ 32) else s
    else if s.pcieUp then (s.bump Reg.HST_BADACC_COUNT Reg.HST_INT_CNT_SAT).put Reg.HST_INT_BADACC 1
    else s

/-! ## Reads -/

/-- The 64 bytes of an audit entry (R526). -/
def audBytes (e : AudEntry) : List Nat :=
  leBytesN 4 e.seq ++ leBytesN 2 e.start ++ leBytesN 1 e.kind ++ leBytesN 1 e.result ++ leBytesN 8 e.dt ++ leBytesN 6 e.etSec ++
  leBytesN 1 e.role ++ leBytesN 1 (boolNat e.etValid) ++ leBytesN 4 e.etNs ++ leBytesN 4 e.target ++ leBytesN 4 e.old ++
  leBytesN 4 e.new ++ leBytesN 8 e.arg ++ leBytesN 16 e.chain

/-- The 256 bits of a context entry (R197). -/
def Ctx.number (c : Ctx) : Nat :=
  let w3 := c.st + c.tmpl * 2 ^ 2 + c.fine * 2 ^ 6 + boolNat c.remote * 2 ^ 15 + boolNat c.early * 2 ^ 16 + boolNat c.trunc * 2 ^ 17 +
    boolNat c.poison * 2 ^ 18 + boolNat c.late * 2 ^ 19 + c.origin * 2 ^ 20 + c.first * 2 ^ 32 + c.last * 2 ^ 48
  c.tref + c.cause * 2 ^ 64 + (c.pre + c.post * 2 ^ 32) * 2 ^ 128 + w3 * 2 ^ 192

/-- GEN_AUD_DATA: word `i` of the entry GEN_AUD_SEL names, 0 when it is not held (R530). -/
def State.audDataWord (s : State) (i : Nat) : Nat :=
  match s.store.log.find? fun e => e.seq == s.get Reg.GEN_AUD_SEL_SEQ with
  | none => 0
  | some e => leAt (audBytes e) (4 * i) 4

/-! ## Tile registers that show the sconces (R79, R81, R82) -/

/-- The sconce TIL_SCONCE_SEL names, as it stands outside a first calibration. -/
def State.selSconce (s : State) (t : Nat) : Sconce := s.sconce t (s.get Reg.TIL_SCONCE_SEL_SCONCE t)

/-- TIL_FLAME_INFO: the state of each flame of the selected sconce and the position R serves (R81). -/
def State.flameInfo (s : State) (t : Nat) : Nat :=
  let x := s.selSconce t
  let first := (s.tile t).firstCal.isSome
  let fresh := decide ((s.tile t).coef = (0, 0))
  let code (f : Flame) : Nat := match f.st with
    | .failed => 3
    | .standby => if first then 1 else if fresh then 0 else 2
    | .calibrating => 1
    | .active => if first || f.passed then 1 else 0
  ((x.fl.map code).zipIdx.foldl (fun n e => n + e.1 * 4 ^ e.2) 0) +
    (if first then 7 else ([0, 1, 2, 3].find? fun i => x.pos.getD i none == some 4).getD 7) * 2 ^ 10

/-- TIL_FLAME_CAL: the coefficients in force of one flame of the selected sconce (R81). -/
def State.flameCalWord (s : State) (t : Nat) : Nat :=
  let f := s.get Reg.TIL_FLAME_CAL_FLAME t
  let k := s.coefOf t (s.get Reg.TIL_SCONCE_SEL_SCONCE t) f
  if 4 < f then f else f + k.2 % 2 ^ 10 * 2 ^ 4 + k.1 % 2 ^ 14 * 2 ^ 16

/-- A flame position is empty: its flame has failed, or calibrates without cover (R74, R558). -/
def Sconce.uncovered (x : Sconce) : Bool := [0, 1, 2, 3].any fun i => (x.pos.getD i none).isNone

/-- TIL_FLAME_SUM: the sconces R serves for good, and those with an empty position (R82). -/
def State.flameSum (s : State) (t : Nat) : Nat :=
  let l := s.til.sc.filter fun e => e.1 / 4096 == t
  (l.filter fun e => e.2.rHome.isSome && (e.2.flame 4).st != .failed).length +
    (l.filter fun e => e.2.uncovered).length * 2 ^ 16

/-- TIL_STATUS.IDLE: no hit and no loss word is in flight in the tile's sconces (R79). -/
def State.sconcesIdle (s : State) (t : Nat) : Bool :=
  s.til.sc.all fun e => e.1 / 4096 != t || (e.2.wait == [] && e.2.ready == [] && e.2.fl.all (·.run.isNone) &&
    e.2.loss.all fun r => r.out.isNone && r.acc.isNone)

/-- The module is in reset. -/
def State.inReset (s : State) : Bool := s.sys.phase == .reset || s.sys.phase == .dead || s.sys.phase == .failHold

/-- HST_STRM_FULL: a packet waits, or not even the smallest data packet fits beside the reserve (R428). -/
def State.streamFull (s : State) (n : Nat) : Bool := (s.strm n).wait != [] || decide (s.strmFree n < 8192 + 16)

/-- The topology view at an offset from FAB_SINK0: the active image's entries as R239 to R241 lay them out (R267). -/
def State.topoView (s : State) (o : Nat) : Nat :=
  if o % 4 ≠ 0 then 0
  else if o < 0x100 then
    let k := s.topo.sink.getD (o / 4) {}
    k.pkind + k.pidx * 2 ^ 4 + k.cctx * 2 ^ 10 + k.skind * 2 ^ 16 + k.sidx * 2 ^ 20
  else if o < 0x110 then s.topo.port.getD ((o - 0x100) / 4) 0
  else if o < 0x200 then 0
  else if o < 0x300 then
    let k := s.topo.cmpOut.getD ((o - 0x200) / 4) (0, 0)
    k.1 + k.2 * 2 ^ 4
  else if o < 0x320 then s.topo.ingressEntry.getD ((o - 0x300) / 4) 0
  else if o < 0x340 then
    let k := s.topo.role.getD ((o - 0x320) / 4) (3, 0, false)
    k.1 + k.2.1 * 2 ^ 2 + boolNat k.2.2 * 2 ^ 5
  else 0

/-- One flag for each number of a range, as a word. -/
def flagsWord (lo n : Nat) (p : Nat → Bool) : Nat := (List.range n).foldl (fun v i => v + boolNat (p (lo + i)) * 2 ^ i) 0

/-- TRG_MASK_UP or TRG_MASK_LO of the selected point and unit, its staged value where one waits (R212, R553). -/
def State.maskWord (s : State) (upper : Bool) : Nat :=
  let m := s.maskUnit (s.get Reg.TRG_MASK_SEL_UNIT)
  let p := s.get Reg.TRG_MASK_SEL_POINT
  if upper then (m.newUp.get none p).getD (m.up.get 0x1FFFF p) else (m.newLo.get none p).getD (m.lo.get 0x20000 p)

/-- A word of BAR0 as it reads: registers whose content stands elsewhere in the state, then the plain ones (R52, R151, R265 to R267, R523,
R530). -/
def State.readWord (s : State) (a : Nat) : Nat :=
  if 0xC0000 ≤ a ∧ a < 0xE0000 then bits (s.ctx ((a - 0xC0000) / 32)).number (8 * (a % 32)) 32
  else if 0x100000 ≤ a ∧ a < 0x180000 then
    let i := (a - 0x100000) / 8
    bits (rmapAt (if s.flag Reg.EVT_CTRL_EN && !s.flag Reg.EVT_RMAP_CTRL_READ_ACTIVE then s.evt.shd else s.evt.act) i) (32 * (a / 4 % 2)) 32
  else if 0x180040 ≤ a ∧ a < 0x180060 then
    (List.range 32).foldl (fun n i => n + boolNat (s.groupIdle ((a - 0x180040) / 4 * 32 + i)) * 2 ^ i) 0
  else if 0x180400 ≤ a ∧ a < 0x180800 then s.topoView (a - 0x180400)
  else if 0x1A1000 ≤ a ∧ a < 0x1A1400 ∧ a % 4 = 0 then
    let n := (a - 0x1A1000) / 0x20
    (if a % 0x20 = 0 then s.tdcSnap n else s).tdcPort n (a % 0x20 / 4)
  else if 0x1B0200 ≤ a ∧ a < 0x1B0210 ∧ a % 4 = 0 then
    (if a = 0x1B0200 then s.aux.queue.snapshot else s.aux.queue).port ((a - 0x1B0200) / 4)
  else if 0x1C0040 ≤ a ∧ a < 0x1C0050 ∧ a % 4 = 0 then
    (if a = 0x1C0040 then s.ctl.queue.snapshot else s.ctl.queue).port ((a - 0x1C0040) / 4)
  else if 0x1F1100 ≤ a ∧ a < 0x1F1300 ∧ a % 0x40 = 0 then
    s.plainWord a + (s.topo.role.getD ((a - 0x1F1100) / 0x40) (3, 0, false)).1 * 2 ^ 10
  else if 0x260 ≤ a ∧ a < 0x2A0 then s.audDataWord ((a - 0x260) / 4)
  else if 0x2A0 ≤ a ∧ a < 0x2B0 then bits ((s.store.log.head?.map (·.chain)).getD 0) (32 * ((a - 0x2A0) / 4)) 32
  else
    let w := s.fab.wick (s.get Reg.FAB_WICK_SEL_WICK)
    let img := s.slot (s.get Reg.FAB_IMG_INFO_SEL_SLOT)
    match a with
    | 0x60004 | 0x61004 | 0x62004 | 0x63004 =>
      let t := (a - 0x60004) / 0x1000
      s.plainWord a / 16 * 16 + s.plainWord a % 8 + boolNat (s.sconcesIdle t) * 8
    | 0x6001C | 0x6101C | 0x6201C | 0x6301C => s.flameInfo ((a - 0x6001C) / 0x1000)
    | 0x60020 | 0x61020 | 0x62020 | 0x63020 => s.flameCalWord ((a - 0x60020) / 0x1000)
    | 0x60024 | 0x61024 | 0x62024 | 0x63024 => s.flameSum ((a - 0x60024) / 0x1000)
    | 0x200 => bits s.store.serial 0 32
    | 0x204 => bits s.store.serial 32 32
    | 0x208 => s.store.moduleId + boolNat s.store.idSet * 2 ^ 31
    | 0x20C => s.store.idLeft
    | 0x214 => setBits (s.plainWord a) 16 16 s.lockSeconds
    | 0x244 => (List.range 4).foldl (fun n i => n + s.store.keyLeft.getD i 0 * 2 ^ (4 * i)) 0
    | 0x250 => s.store.log.length + s.aud.queue.length * 2 ^ 16 +
        boolNat (s.store.log.any fun e => e.seq == s.get Reg.GEN_AUD_SEL_SEQ) * 2 ^ 24
    | 0x254 => (s.store.log.head?.map (·.seq)).getD 0
    | 0x258 => (s.store.log.getLast?.map (·.seq)).getD 0
    | 0x60028 | 0x61028 | 0x62028 | 0x63028 => s.failWord ((a - 0x60028) / 0x1000)
    | 0x68010 => s.pcsRead
    | 0x40078 => bits s.store.mac 0 32
    | 0x4007C => bits s.store.mac 32 16
    | 0xA0104 => s.doneWord
    | 0xA0144 => s.maskWord true
    | 0xA0148 => s.maskWord false
    | 0x400A0 => s.plainWord a + boolNat (s.tim.ltValid.contains (s.get Reg.TIM_LT_SEL_PORT)) * 2 ^ 31
    | 0x18000C => bits w.lut 0 32
    | 0x180010 => bits w.lut 32 32
    | 0x180014 => bits w.cfg 0 32
    | 0x180018 => bits w.cfg 32 19 + boolNat (s.fab.out.contains (s.get Reg.FAB_WICK_SEL_WICK)) * 2 ^ 19
    | 0x180020 => s.fab.input (s.get Reg.FAB_GIN_SEL_GROUP * 64 + s.get Reg.FAB_GIN_SEL_INPUT)
    | 0x180214 => boolNat img.valid + boolNat (s.store.pref == s.get Reg.FAB_IMG_INFO_SEL_SLOT) * 2 +
        boolNat ((imgDir img.bytes).any (·.comp)) * 4 + ceilDiv (imgSize img.bytes) 1024 % 2 ^ 24 * 2 ^ 8
    | 0x180218 => bits img.id 0 32
    | 0x18021C => bits img.id 32 32
    | 0x180220 => img.gen
    | 0x180230 => s.imgCtrlWord
    | 0x180234 => s.imgProgWord
    | 0x1D0160 => s.safCheckValue
    | 0x1D0164 => boolNat !s.inReset
    | 0x1E0004 => s.store.moduleId + boolNat s.store.idSet * 2 ^ 16
    | 0x1F0028 => flagsWord 0 32 s.streamFull
    | 0x1F002C => flagsWord 32 32 s.streamFull
    | 0x200004 => flagsWord 0 4 s.cmpFull
    | 0x20004C => s.plainWord a + s.engineOf (s.get Reg.CMP_CTX_SEL_CTX)
    | _ => s.plainWord a

/-- A read of the I2C port at its pointer: BOOT, GEN 0x100 to 0x1FF, then LIF; GEN and LIF read 0 in reset (R508). -/
def i2cAddr (p : Nat) : Option Nat :=
  if p < 0x100 then some (0x10000 + p) else if p < 0x200 then some p else if p < 0x300 then some (0x20000 + (p - 0x200)) else none

/-- One register is returned and the pointer moves on by 4; a read of GEN_FAULT_DT_LO takes the snapshot and one of GEN_FAULT_INFO removes its
record, as over BAR0 (R508, R510). -/
def State.i2cRead (s : State) : State :=
  let p := s.sys.i2cPtr
  let s1 : State := { s with sys := { s.sys with i2cPtr := (p + 4) % 65536 } }
  match i2cAddr (p / 4 * 4) with
  | none => { s1 with rdata := s1.rdata ++ [0] }
  | some a =>
    if a < 0x10000 || 0x20000 ≤ a then
      if s.inReset then { s1 with rdata := s1.rdata ++ [0] }
      else
        let t := if a = 0x104 then s1.faultSnapshot else s1
        let t : State := { t with rdata := t.rdata ++ [t.readWord a] }
        if a = 0x10C then t.faultRemove else t
    else { s1 with rdata := s1.rdata ++ [s1.readWord a] }

/-- An I2C read of `n` registers from the pointer on (R508). -/
def execI2cRegisterRead (slave n : Nat) (s : State) : Out :=
  .next (if s.i2cWorks slave then (List.range n).foldl (fun s _ => s.i2cRead) { s with rdata := [] } else s)

end Sys2Proof.Machine
end

