-- ==== Sys2Proof/Machine/Audit.lean ====
section
/-! DEFINITION. Machine/Audit.lean: entries are stored, and the guarded writes that wait for them take effect (R523 to R531). -/

namespace Sys2Proof.Machine

/-- A key generation of a role is programmed (R523, R524). -/
def State.keyFuse (s : State) (role key : Nat) (ok : Bool) : State :=
  let n := s.store.keyLeft.getD (role - 1) 0
  if n = 0 then s
  else
  let keys := if ok then s.store.keys.set (role - 1) (some key) else s.store.keys
  { s with store := { s.store with keys := keys, keyLeft := s.store.keyLeft.set (role - 1) (n - 1) } }

/-- The module ID is programmed; LNK_ID follows at once (R523, R532). -/
def State.idFuse (s : State) (id : Nat) (ok : Bool) : State :=
  if s.store.idLeft = 0 then s
  else if ok then
    ({ s with store := { s.store with moduleId := id % 4096, idSet := true, idLeft := 0 } } : State).cond (s.flag Reg.LNK_CTRL_ROLE)
      (·.lighthouse)
  else { s with store := { s.store with idLeft := 0 } }

/-- NEWEST - MARK reaches 3,584 (R529). -/
def State.audNear (s : State) (was now : Int) : State :=
  s.cond (decide (was < 3584) && decide (3584 ≤ now)) (·.put Reg.GEN_SVC_INT_AUD_NEAR 1)

/-- SEQ of the newest entry stored, 0 with none. -/
def State.audNewest (s : State) : Nat := (s.store.log.head?.map (·.seq)).getD 0

/-- The export mark moves (R529). -/
def State.audMark (s : State) (v : Nat) : State :=
  let was := (s.audNewest : Int) - s.get Reg.GEN_AUD_MARK_SEQ
  let s := s.put Reg.GEN_AUD_MARK_SEQ v
  ({ s with store := { s.store with mark := v % 2 ^ 32 } } : State).audNear was ((s.audNewest : Int) - s.get Reg.GEN_AUD_MARK_SEQ)

/-- A new threshold of a wear monitor arms its warning again (R517). -/
def State.wearThr (s : State) (act : Nat) : State :=
  let s := s.guardedPut 0x318 act
  ({ s with store := { s.store with warned := s.store.warned.filter (·.1 != act / 2 ^ 32) } } : State).wearCheck

/-- A guarded write takes effect: its entry is stored (R528). `ok` says whether a generation programmed into fuses, or the two records of a
safety commit, read back (R365, R523). SAF_ACK took effect before its entry. -/
def State.applyGuarded (s : State) (a act : Nat) (ok : Bool) : State :=
  match a with
  | 0x208 => s.idFuse act ok
  | 0x240 => s.keyFuse (act % 8) (act / 8) ok
  | 0x2B0 => s.audMark act
  | 0x318 => s.wearThr act
  | 0x10020 => s.bootCtrl act
  | 0x180230 => s.imgCtrl act
  | 0x180234 => s.imgProg act
  | 0x1D0018 => s
  | 0x1D0168 => s.safCommit ok
  | 0x2100A8 => s.sramFuse act ok
  | _ => s.guardedPut a act

/-- The entry as it stands in both copies: its number, and the chain over the previous one (R526). -/
def State.chained (s : State) (e : AudEntry) : AudEntry :=
  let e : AudEntry := { e with seq := (s.store.log.head?.map fun h => h.seq + 1).getD 0 }
  let prev := (s.store.log.head?.map (·.chain)).getD 0
  { e with chain := leNat ((sha256 (leBytes 16 prev ++ (audBytes e).take 48)).take 16) }

/-- An entry is stored: the log holds 4,096, the next sector of each copy is erased when half of the current one is full (the most erased
sector's count rises once in each pass), and the newest is compared with the mark (R516, R525, R529). -/
def State.logEntry (s : State) (e : AudEntry) : State :=
  let was := (s.audNewest : Int) - s.get Reg.GEN_AUD_MARK_SEQ
  let e := s.chained e
  let s : State := { s with store := { s.store with log := (e :: s.store.log).take 4096 } }
  let s := s.audNear was ((e.seq : Int) - s.get Reg.GEN_AUD_MARK_SEQ)
  if e.seq % 4096 = 31 then
    ({ s with svc := { s.svc with wear := { s.svc.wear with erases := s.svc.wear.erases + 1 } } } : State).wearCheck
  else s

/-- Writes that program a fuse generation (R523). -/
def fuseWrite (a : Nat) : Bool := [0x208, 0x240, 0x1D0168, 0x2100A8].contains a

/-- The entry at the head of the queue is written to both copies, and the write that waits for it takes effect; a store write that failed
three times keeps it there (R528). A generation whose programming a loss of VAUX cuts short is used up and reported at the next start (R523). -/
def execAuditEntryStored (stored : Bool) (fuse : FuseEnd) (s : State) : Out :=
  .next <|
    match s.aud.queue with
    | [] => s
    | w :: q =>
      if !stored then s.put Reg.GEN_SVC_INT_AUD_ERR 1
      else
        let s : State := { s with aud := { s.aud with queue := q } }
        let s := (s.put Reg.GEN_AUD_STATUS_PEND q.length).logEntry w.entry
        let s :=
          if s.aud.lost = 0 then s
          else
            let e := s.auditEntry 0x30 0 0 0 0 s.aud.lost
            let s : State := { s with aud := { queue := { entry := e } :: s.aud.queue, lost := 0 } }
            (s.put Reg.GEN_AUD_STATUS_PEND s.aud.queue.length).put Reg.GEN_SVC_INT_AUD_DROP 1
        match w.write with
        | none => s
        | some (a, act) =>
          let t := s.applyGuarded a act (decide (fuse = .good))
          if !fuseWrite a || fuse = .good then t
          else if fuse = .cut then
            let left := if a = 0x1D0168 then t.store.safGen - 1 else t.store.safGen
            ({ t with store := { t.store with safGen := left, cut := t.store.cut ++ [(a, w.entry.old, w.entry.new)] } } : State).vauxLost
          else t.audit 2 6 a w.entry.old w.entry.new w.entry.arg

end Sys2Proof.Machine
end

