-- ==== Sys2Proof/Machine/Epoch.lean ====
section
/-! DEFINITION. Machine/Epoch.lean: an epoch begins (R121): staged fields commit, the region map takes its shadow table, the enabled streams
carry their markers, and open gaps are reported up to the boundary. -/

namespace Sys2Proof.Machine

/-- TIM_FREQ_MAN commits whether or not a session is open, clipped to 200 ppm; in a free or fixed session it is the y in force (R144). -/
def State.freqManEpoch (s : State) : State :=
  let s := s.commit Reg.TIM_FREQ_MAN_Y
  let s := s.put Reg.TIM_FREQ_MAN_Y (ofInt 32 (clampInt yMax (toInt 32 (s.get Reg.TIM_FREQ_MAN_Y))))
  let src := s.get Reg.TIM_CTRL_SRC
  s.cond (s.flag Reg.TIM_STATUS_SESSION && (src == 0 || src == 4) && !s.flag Reg.TIM_STATUS_FAULT) fun s =>
    s.putY (toInt 32 (s.get Reg.TIM_FREQ_MAN_Y))

/-- A condition's staged fields commit; EN = 1 waits while a reload holds a group of its cone (R191, R262). -/
def State.condEpoch (s : State) (c : Nat) : State :=
  let s := s.each [Reg.TRG_COND_CFG_TMPL, Reg.TRG_COND_CFG_TSRC, Reg.TRG_COND_CFG_SEND, Reg.TRG_COND_CFG_NOCAP, Reg.TRG_COND_CFG_FCODE]
    fun s f => s.commit f 0 c
  if s.shadowOf Reg.TRG_COND_CFG_EN 0 c = some 1 ∧ (s.cone c).any s.reloadHolds then s else s.commit Reg.TRG_COND_CFG_EN 0 c

/-- The cluster rules' staged fields (R164). -/
def cluStaged : List Nat :=
  [Reg.CLU_RULE_WIN, Reg.CLU_RULE_ADJ, Reg.CLU_RULE_WEIGHT, Reg.CLU_RULE_SINGLE, Reg.CLU_RULE_HOLD].map (·.id)

/-- What commits at every epoch boundary (R6, R50, R80, R138, R144, R164). -/
def State.epochCommits (s : State) : State :=
  let s := s.pcsEpoch.each [0, 1, 2, 3] State.thrCommit
  let s := (s.commit Reg.TIM_TILE_LAT_LAT).freqManEpoch.skewMove
  (s.commitAll cluStaged).each (List.range 64) State.condEpoch

/-- An enabled stream carries its marker and, after a map commit, the status word of code 0x02 (R151, R169, R176). -/
def State.streamEpoch (s : State) (epoch : Nat) (committed : Bool) (n : Nat) : State :=
  if s.flag Reg.EVT_CTRL_EN && s.flag Reg.EVT_STRM_CFGn_EN n then
    (s.mark n epoch).cond committed fun s =>
      s.toStream n 5 { words := [(2 * 2 ^ 56 + s.get Reg.EVT_RMAP_STATUS_GEN * 2 ^ 40, false)] }
  else s

/-- DT_REF reaches the next whole multiple of 2^21 (R121). -/
def execEpochBoundary (s : State) : Out :=
  .next <|
    match s.sys.phase with
    | .starting | .running | .pilot =>
      let e := epochOf s.dtRef + 1
      let s := (s.advanceTo (e * 2 ^ 21)).epochCommits.deadEpoch
      let r := s.rmapEpoch e
      (((r.1.each (List.range 64) fun s n => s.streamEpoch e r.2 n).ringMark e).gapsEpoch)
    | _ => s

end Sys2Proof.Machine
end

