-- ==== Sys2Proof/Machine/Start.lean ====
section
/-! DEFINITION. Machine/Start.lean: the stages of a start (R488 to R492), with the image's load (R256, R257), the retests (R515) and what the
configuration store gives back (R556). -/

namespace Sys2Proof.Machine

/-- The limit of each stage in ms (R488). -/
def stageLimits : List Nat := [12, 5, 10, 10, 420, 40, 10, 5, 10, 5, 1]

def State.stageNow (s : State) : Nat := s.get Reg.BOOT_STATUS_STAGE

/-- The next stage begins. -/
def State.toStage (s : State) (n : Nat) : State :=
  { s.put Reg.BOOT_STATUS_STAGE n with sys := { s.sys with stageAt := s.dtRef } }

/-! ## Stages 0 to 3 -/

/-- Stage 0: rails and REFCLK (R488, R491). -/
def State.stage0 (s : State) : State :=
  if !s.railsOk then s.startFails 0xA else if !s.sys.refclkOk then s.startFails 1 else s.toStage 1

/-- Stage 1: of the cores that pass, three vote and a fourth stands by, or two compare (R496); a core that passes again leaves the service
record (R515). -/
def State.stage1 (s : State) (pass : List Bool) : State :=
  let ok := [0, 1, 2, 3].filter fun c => pass.getD c false
  let s := s.each [0, 1, 2, 3] fun s c =>
    if s.recorded 0xD c then s.retestUnit 0xD c (ok.contains c) else if ok.contains c then s else s.unitOut 0xD c
  if ok.length < 2 then s.startFails 2
  else
    let vote := ok.take (if ok.length = 2 then 2 else 3)
    let s := s.each [0, 1, 2, 3] fun s c => s.setCore c (if vote.contains c then 0 else if ok.contains c then 1 else 3)
    let s := s.put Reg.LIF_STATUS_MODE (4 - ok.length)
    (s.put Reg.GEN_SPARE_INFO_TOTAL (boolNat (ok.length == 4)) 0 0xD).toStage 2

/-- One array: its fused elements, and the soft repair of what they do not cover; the answer says whether its spares suffice (R477). -/
def State.sramRepair (s : State) (a rows cols : Nat) : State × Bool :=
  let used := s.store.sramFused.get 0 a
  let r := 2 - used % 4
  let c := 1 - used / 4
  let s := s.put Reg.MEM_SRAM_INFO_FUSE_LEFT (r + c) 0 a
  if r < rows ∨ c < cols then (((s.put Reg.MEM_SRAM_INFO_ROWS r 0 a).put Reg.MEM_SRAM_INFO_COLS c 0 a).put Reg.MEM_SRAM_INFO_FAILED 1 0 a, false)
  else
    let s := (s.put Reg.MEM_SRAM_INFO_ROWS (r - rows) 0 a).put Reg.MEM_SRAM_INFO_COLS (c - cols) 0 a
    if rows + cols = 0 then (s, true)
    else (((s.put Reg.MEM_SRAM_INFO_PEND 1 0 a).put Reg.MEM_SRAM_INFO_SOFT 1 0 a).audit 0x10 0 (poolTarget 0xC a) 0 0 0, true)

/-- Stage 2: SRAM self-test and repair (R477, R512). -/
def State.stage2 (s : State) (l : List (Nat × Nat × Nat)) : State :=
  let n := Config.sramArrays % 256
  let s := (s.put Reg.MEM_SRAM_COUNT_ARRAYS n).put Reg.GEN_SPARE_INFO_TOTAL (3 * n) 0 0xC
  let l := (l.filter fun x => decide (x.1 < n)) ++
    ((s.store.sramFused.map (·.1)).filter fun a => l.all fun x => x.1 != a).map fun a => (a, 0, 0)
  let (s, ok) := l.foldl (fun (p : State × Bool) x => let q := p.1.sramRepair x.1 x.2.1 x.2.2; (q.1, p.2 && q.2)) (s, true)
  let used := l.foldl (fun m x => m + 3 - s.get Reg.MEM_SRAM_INFO_ROWS 0 x.1 - s.get Reg.MEM_SRAM_INFO_COLS 0 x.1) 0
  let s : State := { s with store := { s.store with spareUsed := s.store.spareUsed.set 0 0xC used } }
  if ok then s.toStage 3 else s.startFails 5

/-- Stage 3: the store, its boot record and service record, the safety records and the row remap table (R367, R475, R488, R528). -/
def State.stage3 (s : State) (found differ : Bool) (saf : Nat) : State :=
  if !found then s.startFails 3
  else (((s.loadRecord.cond differ (·.put Reg.GEN_SVC_INT_AUD_ERR 1)).safLoad saf).showRemap).toStage 4

/-! ## Stages 4, 8 and 9: the image (R254, R256, R257, R487, R490) -/

/-- A section's content has its length and UCRC. -/
def sectOk (b : List Nat) (ty : Nat) : Bool :=
  (imgDir b).all fun x => x.ty != ty || (match x.content b with
    | .error _ => false
    | .ok l => l.length == x.ulen && crc32c l == x.ucrc)

/-- ICRC and IMAGE_ID of the check section (R254). -/
def icrcOk (b : List Nat) : Bool :=
  (imgDir b).all fun x => x.ty != 0xF ||
    (let l := imgContent b 0xF
     leAt l 0 8 == leAt b 0x10 8 && leAt l 8 4 == crc32c (b.take x.off))

/-- The first check that fails of steps 1 and 2, 0 for none. -/
def imgError4 (b : List Nat) : Nat :=
  if !imgHeaderOk b then 1
  else if imgMax < imgSize b then 4
  else if !imgDirOk false b then 2
  else if !imgSizeOk b then 4
  else if !sectOk b 0xF || !icrcOk b || !sectOk b 8 then 3
  else fwError (imgContent b 8)

/-- The records of a section pass R253. -/
def sectRecordsOk (b : List Nat) (ty : Nat) : Bool := (imgRecords (imgContent b ty)).all fun r => recordOk ty r.1

/-- The first check that fails of steps 3 to 5, 0 for none. -/
def imgError8 (b : List Nat) : Nat :=
  if !sectOk b 1 then 3
  else if !topoOk (imgContent b 1) then 5
  else if !sectOk b 2 then 3
  else if fabSectError (imgContent b 2) ≠ 0 then fabSectError (imgContent b 2)
  else if !sectOk b 3 then 3
  else if !sectOk b 5 then 3 else if !sectRecordsOk b 5 then 7
  else if !sectOk b 6 then 3 else if !sectRecordsOk b 6 then 7
  else if !sectOk b 7 then 3 else if !sectRecordsOk b 7 then 7
  else 0

/-- The image's VFE start value: its last register preset for GEN_VFE, else 0.80 V (R548). -/
def imgVfe (b : List Nat) : Nat :=
  if sectOk b 7 then
    (((imgRecords (imgContent b 7)).filter fun r => r.1 == 0x400).getLast?.map fun r => r.2 % 256).getD 0x64
  else 0x64

/-- The code of a slot that failed: the first slot's, or the other's (R266). -/
def State.loadErr (s : State) (e : Nat) : State :=
  if s.sys.tried.length ≤ 1 then s.put Reg.FAB_IMG_LOADERR_ERR_FIRST e else s.put Reg.FAB_IMG_LOADERR_ERR_OTHER e

/-- The slots that pass steps 1 and 2 are tried in order; none left is a failed start. -/
def State.loadFrom (s : State) (dead : List Nat) : List Nat → State
  | [] => s.startFails 4
  | k :: l =>
    let b := (s.slot k).bytes
    let again := s.sys.tried != []
    let s : State := { s with sys := { s.sys with tried := s.sys.tried ++ [k] } }
    let s := s.cond again (·.put Reg.FAB_IMG_LOADERR_FELLBACK 1)
    let e0 := imgError4 b
    let e := if e0 = 0 ∧ dead.contains k then 8 else e0
    let s := (s.cond (e == 3) (·.decImageError (imgDecError b))).loadErr e
    if e = 0 then
      let s := (s.put Reg.FAB_IMG_ACTIVE_SLOT k).putB Reg.FAB_IMG_ACTIVE_TRIAL_RUN (s.sys.trialSlot == some k)
      let s := (s.put Reg.FAB_IMG_ID_ID (leAt b 0x10 8)).put Reg.FAB_IMG_GEN_GEN (leAt b 0x18 4)
      ({ s with sys := { s.sys with vfeStart := imgVfe b } } : State).toStage 5
    else s.loadFrom dead l

/-- The other slot may be tried: the straps allow it and it is valid (R256, R487). -/
def State.otherSlot (s : State) (k : Nat) : List Nat :=
  if s.get Reg.BOOT_STATUS_STRAP = 0 ∧ (s.slot (1 - k)).valid ∧ !s.sys.tried.contains (1 - k) then [1 - k] else []

/-- Stage 4: the slot choice of R256 and R487; a trial request is used once. -/
def State.stage4 (s : State) (dead : List Nat) : State :=
  match s.sys.tried.getLast? with
  | some k => s.loadFrom dead (s.otherSlot k)
  | none =>
    match s.get Reg.BOOT_STATUS_STRAP with
    | 1 => s.loadFrom dead [0]
    | 2 => s.loadFrom dead [1]
    | _ =>
      let k := s.store.trial.getD s.store.pref
      let s : State := { s with sys := { s.sys with trialSlot := s.store.trial }, store := { s.store with trial := none } }
      s.loadFrom dead (k :: s.otherSlot k)

/-- The registers that a section's records name. -/
def recordFields (b : List Nat) : List Nat :=
  [5, 6, 7].flatMap fun t => (imgRecords (imgContent b t)).flatMap fun r => (regTable.filter fun f => f.covers r.1).map (·.id)

/-- Blocks that stay in reset until an image is applied. -/
def imgBlocks : List Blk := [.evt, .strm, .clu, .trg, .frm, .fab, .tdc, .aux, .ctl, .lnk, .lnkPort, .hstD, .hstH, .cmp, .pcs]

/-- Registers of these blocks that earlier stages of the start set, or that an image does not: the spares of stage 7, and the image
registers. -/
def startShown : List Nat :=
  [Reg.TDC_CORE_FAIL0_FAIL, Reg.TDC_CORE_FAIL1_FAIL, Reg.TDC_CH_OFF_OFF, Reg.TDC_STATUS_SP32_USED, Reg.TDC_STATUS_SP32_CH,
   Reg.TDC_STATUS_SP33_USED, Reg.TDC_STATUS_SP33_CH, Reg.TDC_CH_STATUS_CORE, Reg.AUX_STATUS_MAIN_FAIL, Reg.AUX_STATUS_SPARE_FAIL].map
    (·.id) ++ (regTable.filter fun f => decide (0x180200 ≤ f.addr) && decide (f.addr < 0x190000)).map (·.id)

/-- Registers that an image sets, by its records or by what they start. -/
def imgFields (b : List Nat) : List Nat :=
  let l := (regTable.filter fun f => imgBlocks.contains f.blk && !startShown.contains f.id).map (·.id)
  (recordFields b ++ [Reg.TIL_STATUS_FE_READY.id, Reg.TIL_STATUS_CAL_VALID.id] ++ l).filter (· != Reg.GEN_VFE_SET.id)

/-- Everything applied from an image returns to its reset state, with what its records have started (R257); VFE keeps its set-point until
stage 6 of the next slot (R548). -/
def State.revertImage (s : State) (b : List Nat) : State :=
  let ids := imgFields b
  let s : State := { s.clearFields ids with
    topo := {}, evt := {}, trg := {}, frm := {}, aux := {}, ctl := {}, cmp := {}, lnk := {}, hst := { link := s.hst.link }
    shadow := s.shadow.filter fun e => !ids.contains e.1.f
    tdc := { s.tdc with ch := List.replicate 32 {} }
    til := { s.til with pix := [], pcs := {}, t := s.til.t.map fun x => { x with firstDue := none } } }
  (s.setFab { prog := s.fab.prog, progErr := s.fab.progErr }).showCover

/-- A stage that applies the image fails: the other slot is loaded in its place, or the start fails (R490). -/
def State.imageFails (s : State) (e : Nat) : State :=
  let k := s.get Reg.FAB_IMG_ACTIVE_SLOT
  let b := (s.slot k).bytes
  let s := ((s.cond (e == 3) (·.decImageError (imgDecError b))).loadErr e).revertImage b
  if s.otherSlot k = [] then s.startFails 4 else s.toStage 4

/-- Records in order (R253); GEN_VFE takes its value while VFE stays as it is (R548). -/
def State.applyRecords (s : State) (b : List Nat) (ty : Nat) : State :=
  s.each (imgRecords (imgContent b ty)) fun s r =>
    if r.1 = 0x400 then s.put Reg.GEN_VFE_SET r.2 else s.write32 r.1 r.2

/-- Topology, fabric, region map into both tables, cluster defaults, context defaults and register presets, in that order (R257). -/
def State.applyImage (s : State) (b : List Nat) : State :=
  let t := imgContent b 1
  let f := imgContent b 2
  let s : State := { s with topo := topoOf t }
  let s := s.each (List.range 8) fun s e =>
    let g := topoWord t 0x10 e
    let s := (s.put Reg.CLU_GEOM_ROW0 (bits g 0 5) e).put Reg.CLU_GEOM_NROW (bits g 5 6) e
    let s := (s.put Reg.CLU_GEOM_COL0 (bits g 11 5) e).put Reg.CLU_GEOM_NCOL (bits g 16 6) e
    s.put Reg.CLU_GEOM_MARGIN (bits g 24 4) e
  let s := s.setFab { fabOf f with prog := s.fab.prog, progErr := s.fab.progErr }
  let s := s.each (fabConds f) fun s c =>
    (s.put Reg.FAB_COND_MAP_WICK (bits c.2 0 14) c.1).put Reg.FAB_COND_MAP_VALID (bits c.2 15 1) c.1
  let s := s.showDepth
  let m := imgContent b 3
  let s := if m = [] then s else s.each (List.range 65536) fun s i => s.rmapPut i (leAt m (8 * i) 8)
  ((s.applyRecords b 5).applyRecords b 6).applyRecords b 7

/-- Stage 8 (R257, R488). -/
def State.stage8 (s : State) (err : Nat) : State :=
  let b := (s.slot (s.get Reg.FAB_IMG_ACTIVE_SLOT)).bytes
  let e := if err ≠ 0 then err else imgError8 b
  if e ≠ 0 then s.imageFails e else (s.applyImage b).toStage 9

/-- The words of the pixel section reach the stream port; a stream that is not accepted is error 0x9 (R254, R257). -/
def State.sendPixels (s : State) (l : List Nat) : State × Bool :=
  let r := l.foldl (fun (p : State × Bool) w =>
    let t := p.1.pcsWord 1 w
    (t, p.2 && t.get Reg.TIL_PCS_STATUS_ERR == 0)) (s, true)
  (r.1, r.2 && r.1.get Reg.TIL_PCS_STATUS_STATE == 0)

/-- Stage 9 (R257, R488). -/
def State.stage9 (s : State) (err : Nat) : State :=
  let b := (s.slot (s.get Reg.FAB_IMG_ACTIVE_SLOT)).bytes
  let e := if err ≠ 0 then err else if sectOk b 4 then 0 else 3
  if e ≠ 0 then s.imageFails e
  else
    let l := imgContent b 4
    let (s, ok) := s.sendPixels (bytesWords 4 (l.length / 4) l)
    if ok then s.toStage 10 else s.imageFails 9

/-! ## Stage 5: buffer memory (R457, R458, R460, R476) -/

/-- A channel that trained and passed both self-tests. -/
def chanGood (c : ChanTest) : Bool := c.present && decide (1 ≤ c.rate) && c.chkOk && c.rtOk

/-- The organisation and density of the most good channels. -/
def majority (l : List ChanTest) : Bool × Bool :=
  let n (k : Bool × Bool) : Nat := (l.filter fun c => chanGood c && (c.x18, c.dens) == k).length
  [(true, false), (false, true), (true, true)].foldl (fun m k => if n m < n k then k else m) (false, false)

def State.stage5 (s : State) (l : List ChanTest) : State :=
  let s := s.commit Reg.MEM_CFG_RATE_MAX
  let top := max 1 (s.get Reg.MEM_CFG_RATE_MAX)
  let ch (n : Nat) : ChanTest := l.getD n ⟨false, false, false, 0, false, false⟩
  let k := majority l
  let ok (n : Nat) : Bool := chanGood (ch n) && ((ch n).x18, (ch n).dens) == k
  let pos := [0, 1, 2].filter fun p => [0, 1, 2, 3].all fun i => ok (3 * i + p)
  let used := (List.range 12).filter fun n => pos.contains (n % 3)
  let mask (f : Nat → Bool) : Nat := (List.range 12).foldl (fun m n => m + boolNat (f n) * 2 ^ n) 0
  let out := mask fun n => (ch n).present && !used.contains n
  let s := (s.put Reg.MEM_BIST_CHK (mask fun n => (ch n).present && !(ch n).chkOk)).put Reg.MEM_BIST_RT
    (mask fun n => (ch n).present && !(ch n).rtOk)
  let s := (s.put Reg.MEM_CH_FAIL_FAIL out).put Reg.MEM_STATUS_CHMASK (mask used.contains)
  if pos = [] then s.startFails 6
  else
    let s := (s.put Reg.MEM_STATUS_ORG (if k.1 then 2 else 1)).put Reg.MEM_STATUS_DENS (boolNat k.2)
    let mib := 128 * (if k.1 then 2 else 1) * (if k.2 then 2 else 1)
    let s := s.put Reg.MEM_STATUS_SIZE (used.length * mib / 256)
    let s := s.put Reg.MEM_STATUS_RATE (used.foldl (fun m n => min m (ch n).rate) top)
    let s := if out = 0 then s else (s.put Reg.MEM_STATUS_DEGRADED 1).put Reg.MEM_INT_DEGRADED 1
    s.showCover.toStage 6

/-! ## Stages 6 and 7 (R99, R138, R513, R515, R548) -/

/-- The failed vias of one group of a tile are replaced; without a spare left, the bundle faults or the tile stays off (R99, R101, R513). -/
def State.startVias (s : State) (kind t n : Nat) : State :=
  let left := viaSpares kind - s.viasUsed kind t
  let s := s.viaSpare kind t (min n left)
  if n ≤ left then s
  else if kind = 3 then s.bundleFault t
  else ({ s with sys := { s.sys with viaDead := t :: s.sys.viaDead.filter (· != t) } } : State).fault 7 t

/-- A recorded column's bus stays failed: the spare of its half serves it while one is free, else it stays out of service (R110, R515). -/
def State.recordColumn (s : State) (t col : Nat) : State :=
  let s := s.setBus t col { s.bus t col with failed := true }
  if !s.spareGone t (spareOf col) then
    if col < 32 then (s.put Reg.TIL_XSPARE_SPA_USED 1 t).put Reg.TIL_XSPARE_SPA_COL col t
    else (s.put Reg.TIL_XSPARE_SPB_USED 1 t).put Reg.TIL_XSPARE_SPB_COL col t
  else if col < 32 then s.put Reg.TIL_COL_OFF0_OFF (Nat.lor (s.get Reg.TIL_COL_OFF0_OFF t) (2 ^ col)) t
  else s.put Reg.TIL_COL_OFF1_OFF (Nat.lor (s.get Reg.TIL_COL_OFF1_OFF t) (2 ^ (col - 32))) t

/-- The retest of every recorded unit of some kinds; `passed` lists those that pass. -/
def State.retestKinds (s : State) (kinds : List Nat) (passed : List (Nat × Nat)) : State :=
  s.each kinds fun s k => s.each (s.unitsOut k) fun s u => s.retestUnit k u (passed.contains (k, u))

/-- The regulator starts, or ramps to the other slot's start value (R548). -/
def State.startVfe (s : State) : State :=
  let lost := (s.unitsOut 8).length
  let s := (s.put Reg.GEN_VFE_STATUS_PHASES (14 - lost)).put Reg.GEN_VFE_SET s.sys.vfeStart
  match s.sys.vfe with
  | some _ => s.vfeRamp
  | none =>
    let s := s.putB Reg.GEN_VFE_STATUS_CLAMPED (decide (vfeLimit (14 - lost) < s.sys.vfeStart))
    { s with sys := { s.sys with vfe := some s.vfeTarget } }

/-- Stage 6: VFE, the tiles' cores and the via tests, with the retests of columns and vias. -/
def State.stage6 (s : State) (vfeOk : Bool) (vias : List (Nat × Nat × Nat)) (passed : List (Nat × Nat)) : State :=
  if !vfeOk then s.startFails 7
  else
    let s := s.startVfe.retestKinds [2, 3, 4, 5, 6] passed
    let s := s.each [0, 1, 2, 3] fun s t => if s.get Reg.TIL_BND_STATUS_STATE t = 3 then s else 
      { s with xp := { s.xp with bnd := s.xp.bnd.modify t fun b => { b with link := .run } } }.put Reg.TIL_BND_STATUS_STATE 1 t
    let s := s.each (vias.filter fun v => [3, 5, 6].contains v.1 && decide (v.2.1 < 4)) fun s v => s.startVias v.1 v.2.1 v.2.2
    let s := s.each [0, 1, 2, 3] State.showVias
    let s := s.each (s.unitsOut 2) fun s u => s.recordColumn (u / 64) (u % 64)
    let s := s.each (((s.unitsOut 1).map fun u => u / 8).dedup) fun s k => s.recordFlames (k / 4096) (k % 4096)
    s.toStage 7

/-- A recorded edge-timing core stays failed, and its channel moves to a spare or stays out of service (R283, R284). -/
def State.recordCore (s : State) (c : Nat) : State :=
  match (List.range 32).find? fun n => s.chCore n == c with
  | none => s
  | some n =>
    match s.freeCore with
    | none => s.put Reg.TDC_CH_OFF_OFF (Nat.lor (s.get Reg.TDC_CH_OFF_OFF) (2 ^ n))
    | some k =>
      let s := if k = 32 then (s.put Reg.TDC_STATUS_SP32_USED 1).put Reg.TDC_STATUS_SP32_CH n
        else (s.put Reg.TDC_STATUS_SP33_USED 1).put Reg.TDC_STATUS_SP33_CH n
      s.put Reg.TDC_CH_STATUS_CORE k 0 n

/-- Stage 7: the skew calibration, applied at once (R138), with the retests of cores and converters (R515). -/
def State.stage7 (s : State) (delays : List Nat) (passed : List (Nat × Nat)) : State :=
  let s : State := { s with tim := { s.tim with skewTarget := delays, skewEpoch := epochOf s.dtRef } }
  let s := s.each [0, 1, 2, 3] fun s n => s.put Reg.TIM_TSKEW_DELAY (delays.getD n 0) n
  let s := s.retestKinds [9, 0xA] passed
  let cores := s.unitsOut 9
  let s := (s.put Reg.TDC_CORE_FAIL0_FAIL (((cores.filter (· < 32)).map (2 ^ ·)).sum)).put Reg.TDC_CORE_FAIL1_FAIL
    (((cores.filter (32 ≤ ·)).map fun c => 2 ^ (c - 32)).sum)
  let s := s.each cores State.recordCore
  let conv := s.unitsOut 0xA
  let s := (s.putB Reg.AUX_STATUS_MAIN_FAIL (conv.contains 0)).putB Reg.AUX_STATUS_SPARE_FAIL (conv.contains 1)
  s.toStage 8

/-! ## Stage 10, and the commands -/

/-- BOOT_LAST as it reads. -/
def State.bootLast (s : State) : Nat :=
  s.get Reg.BOOT_LAST_KIND + s.get Reg.BOOT_LAST_FCODE * 2 ^ 8 + s.get Reg.BOOT_LAST_QDISC * 2 ^ 16 + s.get Reg.BOOT_LAST_BOUNCE * 2 ^ 24

/-- Stage 10: BAR0 opens, and the 60 s of R491 and R492 begin. -/
def State.stage10 (s : State) : State :=
  let s := (s.put Reg.BOOT_STATUS_DONE 1).put Reg.GEN_INT_STARTED 1
  let s := s.put Reg.BOOT_TIME_MS (min 65535 (s.dtRef / 250000))
  let s : State := { s with sys := { s.sys with phase := .running, since10 := some s.dtRef }
                            svc := { s.svc with minuteAt := s.dtRef, doseAt := s.dtRef, saveAt := s.dtRef } }
  s.audit 0x20 0 0 0 0 (s.bootLast + s.get Reg.FAB_IMG_ACTIVE_SLOT * 2 ^ 32 + s.get Reg.BOOT_STATUS_FAILCNT * 2 ^ 40)

/-- A stage completes `len` ref after it began, with what its work found; a result of another stage changes nothing (R488). -/
def execStartStageComplete (len : Nat) (found : StageResult) (s : State) : Out :=
  .next <|
    if s.sys.phase ≠ .starting then s
    else
      let t := s.advanceTo (s.sys.stageAt + min len (stageLimits.getD s.stageNow 0 * 250000))
      match s.stageNow, found with
      | 0, .plain => t.stage0
      | 1, .cores pass => t.stage1 pass
      | 2, .sram l => t.stage2 l
      | 3, .store found differ saf => t.stage3 found differ saf
      | 4, .firmware dead => t.stage4 dead
      | 5, .channels l => t.stage5 l
      | 6, .power vfeOk vias passed => t.stage6 vfeOk vias passed
      | 7, .skew delays passed => t.stage7 delays passed
      | 8, .sections err => t.stage8 err
      | 9, .sections err => t.stage9 err
      | 10, .plain => t.stage10
      | _, _ => s

/-- A stage exceeds its limit, which ends the start with code 0x08 (R488, R491). -/
def execStartStageTimeout (s : State) : Out :=
  .next <|
    if s.sys.phase ≠ .starting then s
    else (s.advanceTo (s.sys.stageAt + stageLimits.getD s.stageNow 0 * 250000)).startFails 8

end Sys2Proof.Machine
end

