-- ==== Sys2Proof/Machine/Dispatch.lean ====
section
/-! DEFINITION. Machine/Dispatch.lean: the meaning of each command of the operation table, one arm a command. -/

namespace Sys2Proof.Machine

/-- The effect of a command on everything but the queue. -/
def exec (i : Instr) (s : State) : Host.Outcome State Fault Refusal :=
  match i with
  | .vauxRise => Sys2Proof.Machine.execVauxRise s
  | .vauxFall => Sys2Proof.Machine.execVauxFall s
  | .railRise r => Sys2Proof.Machine.execRailRise r s
  | .railOutOfRange r => Sys2Proof.Machine.execRailOutOfRange r s
  | .resetNAccept lowNs => Sys2Proof.Machine.execResetNAccept lowNs s
  | .resetNBounce heldMs => Sys2Proof.Machine.execResetNBounce heldMs s
  | .resetNRise bootSel testMode heldMs => Sys2Proof.Machine.execResetNRise bootSel testMode heldMs s
  | .startBegin => Sys2Proof.Machine.execStartBegin s
  | .jtagExtest tdi => Sys2Proof.Machine.execJtagExtest tdi s
  | .jtagClamp tdi => Sys2Proof.Machine.execJtagClamp tdi s
  | .jtagHighz tdi => Sys2Proof.Machine.execJtagHighz tdi s
  | .jtagIdcode tdi => Sys2Proof.Machine.execJtagIdcode tdi s
  | .jtagSamplePreload tdi => Sys2Proof.Machine.execJtagSamplePreload tdi s
  | .jtagBypass opcode tdi => Sys2Proof.Machine.execJtagBypass opcode tdi s
  | .jtagTestLogicReset => Sys2Proof.Machine.execJtagTestLogicReset s
  | .startStageComplete len found => Sys2Proof.Machine.execStartStageComplete len found s
  | .startStageTimeout => Sys2Proof.Machine.execStartStageTimeout s
  | .failedStartHoldEnd => Sys2Proof.Machine.execFailedStartHoldEnd s
  | .failcntClearTimeout => Sys2Proof.Machine.execFailcntClearTimeout s
  | .bootRestart => Sys2Proof.Machine.execBootRestart s
  | .bootPilot => Sys2Proof.Machine.execBootPilot s
  | .coreDisagree core hs => Sys2Proof.Machine.execCoreDisagree core hs s
  | .lamplighterWatchdog => Sys2Proof.Machine.execLamplighterWatchdog s
  | .refclkLoss => Sys2Proof.Machine.execRefclkLoss s
  | .junctionOvertemp die => Sys2Proof.Machine.execJunctionOvertemp die s
  | .junctionTempRelease => Sys2Proof.Machine.execJunctionTempRelease s
  | .faultHandlingEnd => Sys2Proof.Machine.execFaultHandlingEnd s
  | .genFaultAck => Sys2Proof.Machine.execGenFaultAck s
  | .faultRecordSnapshot => Sys2Proof.Machine.execFaultRecordSnapshot s
  | .faultRecordRemove => Sys2Proof.Machine.execFaultRecordRemove s
  | .tileWaitExpire tile => Sys2Proof.Machine.execTileWaitExpire tile s
  | .portWaitExpire port => Sys2Proof.Machine.execPortWaitExpire port s
  | .genCntClr => Sys2Proof.Machine.execGenCntClr s
  | .i2cPointerWrite slave ptr => Sys2Proof.Machine.execI2cPointerWrite slave ptr s
  | .i2cRegisterRead slave n => Sys2Proof.Machine.execI2cRegisterRead slave n s
  | .kvtEvaluation meas tj tjc pwr => Sys2Proof.Machine.execKvtEvaluation meas tj tjc pwr s
  | .vfeSet v => Sys2Proof.Machine.execVfeSet v s
  | .vfeRampEnd => Sys2Proof.Machine.execVfeRampEnd s
  | .vfePhaseSwap phase => Sys2Proof.Machine.execVfePhaseSwap phase s
  | .registerWrite addr val size => Sys2Proof.Machine.execRegisterWrite addr val size s
  | .epochBoundary => Sys2Proof.Machine.execEpochBoundary s
  | .discriminatorRise tile sconce pix sub => Sys2Proof.Machine.execDiscriminatorRise tile sconce pix sub s
  | .flameStop tile sconce flame n => Sys2Proof.Machine.execFlameStop tile sconce flame n s
  | .flameHandoff tile sconce flame => Sys2Proof.Machine.execFlameHandoff tile sconce flame s
  | .discriminatorFall tile sconce pix sub => Sys2Proof.Machine.execDiscriminatorFall tile sconce pix sub s
  | .totSaturate tile sconce pix => Sys2Proof.Machine.execTotSaturate tile sconce pix s
  | .tpTrainStart tile val => Sys2Proof.Machine.execTpTrainStart tile val s
  | .tpTrainStop tile val => Sys2Proof.Machine.execTpTrainStop tile val s
  | .testPulseInject tile => Sys2Proof.Machine.execTestPulseInject tile s
  | .pixelScrubVisit tile row col upsets => Sys2Proof.Machine.execPixelScrubVisit tile row col upsets s
  | .pcsWordArrive src w => Sys2Proof.Machine.execPcsWordArrive src w s
  | .reconfigBlankEnd tile sconce => Sys2Proof.Machine.execReconfigBlankEnd tile sconce s
  | .pcsAbort => Sys2Proof.Machine.execPcsAbort s
  | .pixelWordRead => Sys2Proof.Machine.execPixelWordRead s
  | .lossEpisodeClose tile sconce kind => Sys2Proof.Machine.execLossEpisodeClose tile sconce kind s
  | .rotaStepDue tile => Sys2Proof.Machine.execRotaStepDue tile s
  | .rotaForce tile val => Sys2Proof.Machine.execRotaForce tile val s
  | .rotaIntervalWrite tile val => Sys2Proof.Machine.execRotaIntervalWrite tile val s
  | .flameOffline tile sconce flame => Sys2Proof.Machine.execFlameOffline tile sconce flame s
  | .flameCalibrationEnd tile sconce flame n1 n2 => Sys2Proof.Machine.execFlameCalibrationEnd tile sconce flame n1 n2 s
  | .flameReturn tile sconce flame => Sys2Proof.Machine.execFlameReturn tile sconce flame s
  | .tileEnable tile val => Sys2Proof.Machine.execTileEnable tile val s
  | .firstCalibrationStart tile => Sys2Proof.Machine.execFirstCalibrationStart tile s
  | .firstCalibrationEnd tile n1 n2 exc back => Sys2Proof.Machine.execFirstCalibrationEnd tile n1 n2 exc back s
  | .tileDisable tile val => Sys2Proof.Machine.execTileDisable tile val s
  | .fePowerWrite tile val => Sys2Proof.Machine.execFePowerWrite tile val s
  | .feReady tile => Sys2Proof.Machine.execFeReady tile s
  | .tilCntClr tile => Sys2Proof.Machine.execTilCntClr tile s
  | .failFifoRead tile => Sys2Proof.Machine.execFailFifoRead tile s
  | .columnBusHop tile bus recv flips => Sys2Proof.Machine.execColumnBusHop tile bus recv flips s
  | .columnStallTimeout tile bus => Sys2Proof.Machine.execColumnStallTimeout tile bus s
  | .spareSwitchDone tile col flips => Sys2Proof.Machine.execSpareSwitchDone tile col flips s
  | .spareApprove tile val => Sys2Proof.Machine.execSpareApprove tile val s
  | .spareDecline tile val => Sys2Proof.Machine.execSpareDecline tile val s
  | .spareRequestTimeout tile => Sys2Proof.Machine.execSpareRequestTimeout tile s
  | .flitForm tile flips => Sys2Proof.Machine.execFlitForm tile flips s
  | .flitTransfer tile => Sys2Proof.Machine.execFlitTransfer tile s
  | .flitCheck tile flips => Sys2Proof.Machine.execFlitCheck tile flips s
  | .chkOk tile => Sys2Proof.Machine.execChkOk tile s
  | .chkNak tile => Sys2Proof.Machine.execChkNak tile s
  | .viaTestStart tile stuck => Sys2Proof.Machine.execViaTestStart tile stuck s
  | .viaTestEnd tile failed => Sys2Proof.Machine.execViaTestEnd tile failed s
  | .crossbarTakeWord tile bad errs => Sys2Proof.Machine.execCrossbarTakeWord tile bad errs s
  | .receiverDrainStart tile => Sys2Proof.Machine.execReceiverDrainStart tile s
  | .tilXcntClr tile => Sys2Proof.Machine.execTilXcntClr tile s
  | .timOpen val => Sys2Proof.Machine.execTimOpen val s
  | .timClose val => Sys2Proof.Machine.execTimClose val s
  | .timSet val => Sys2Proof.Machine.execTimSet val s
  | .timeSample err => Sys2Proof.Machine.execTimeSample err s
  | .timeFaultRate => Sys2Proof.Machine.execTimeFaultRate s
  | .ptpAnnounceRx hdr m => Sys2Proof.Machine.execPtpAnnounceRx hdr m s
  | .ptpSyncRx hdr identity twoStep origin corr sub syncLog rate => Sys2Proof.Machine.execPtpSyncRx hdr identity twoStep origin corr sub syncLog rate s
  | .ptpFollowUpRx hdr identity origin corr => Sys2Proof.Machine.execPtpFollowUpRx hdr identity origin corr s
  | .ptpDelayReqSend sub => Sys2Proof.Machine.execPtpDelayReqSend sub s
  | .ptpDelayRespRx hdr identity rx corr => Sys2Proof.Machine.execPtpDelayRespRx hdr identity rx corr s
  | .ptpAnnounceTimeout => Sys2Proof.Machine.execPtpAnnounceTimeout s
  | .ptpSyncTimeout => Sys2Proof.Machine.execPtpSyncTimeout s
  | .arpRequestRx ip => Sys2Proof.Machine.execArpRequestRx ip s
  | .ppsEdge rising sub ten => Sys2Proof.Machine.execPpsEdge rising sub ten s
  | .ppsEdgeMissing => Sys2Proof.Machine.execPpsEdgeMissing s
  | .tenMhzLoss => Sys2Proof.Machine.execTenMhzLoss s
  | .ppsSecondWrite sec => Sys2Proof.Machine.execPpsSecondWrite sec s
  | .ppsOutRise => Sys2Proof.Machine.execPpsOutRise s
  | .ppsOutFall => Sys2Proof.Machine.execPpsOutFall s
  | .timSnap => Sys2Proof.Machine.execTimSnap s
  | .skewRecalibrate delays => Sys2Proof.Machine.execSkewRecalibrate delays s
  | .skewForce val delays => Sys2Proof.Machine.execSkewForce val delays s
  | .timCntClr => Sys2Proof.Machine.execTimCntClr s
  | .frameLaunch h => Sys2Proof.Machine.execFrameLaunch h s
  | .rmapEntryWrite entry part val => Sys2Proof.Machine.execRmapEntryWrite entry part val s
  | .rmapCommit val => Sys2Proof.Machine.execRmapCommit val s
  | .clusterRelease engine errs => Sys2Proof.Machine.execClusterRelease engine errs s
  | .clusterClose engine errs => Sys2Proof.Machine.execClusterClose engine errs s
  | .packetFlush stream => Sys2Proof.Machine.execPacketFlush stream s
  | .rateWindowEnd group => Sys2Proof.Machine.execRateWindowEnd group s
  | .evtEnable val => Sys2Proof.Machine.execEvtEnable val s
  | .evtDisable val => Sys2Proof.Machine.execEvtDisable val s
  | .streamEnable stream val => Sys2Proof.Machine.execStreamEnable stream val s
  | .streamDisable stream val => Sys2Proof.Machine.execStreamDisable stream val s
  | .evtCntClr => Sys2Proof.Machine.execEvtCntClr s
  | .cluCntClr => Sys2Proof.Machine.execCluCntClr s
  | .ringEnable val => Sys2Proof.Machine.execRingEnable val s
  | .ringWrite n => Sys2Proof.Machine.execRingWrite n s
  | .ringOverrunGap => Sys2Proof.Machine.execRingOverrunGap s
  | .primitiveEvent prim t => Sys2Proof.Machine.execPrimitiveEvent prim t s
  | .primitivePulseEnd prim => Sys2Proof.Machine.execPrimitivePulseEnd prim s
  | .todFire tod => Sys2Proof.Machine.execTodFire tod s
  | .hostFire code => Sys2Proof.Machine.execHostFire code s
  | .triggerSample => Sys2Proof.Machine.execTriggerSample s
  | .contextOpen tmpl => Sys2Proof.Machine.execContextOpen tmpl s
  | .contextExtractionEnd tmpl => Sys2Proof.Machine.execContextExtractionEnd tmpl s
  | .contextAbort val => Sys2Proof.Machine.execContextAbort val s
  | .contextRelease val => Sys2Proof.Machine.execContextRelease val s
  | .triggerEnable val => Sys2Proof.Machine.execTriggerEnable val s
  | .triggerDisable val => Sys2Proof.Machine.execTriggerDisable val s
  | .templateArm mask => Sys2Proof.Machine.execTemplateArm mask s
  | .templateArmed tmpl => Sys2Proof.Machine.execTemplateArmed tmpl s
  | .templateDisarm mask => Sys2Proof.Machine.execTemplateDisarm mask s
  | .disarmFlareDue => Sys2Proof.Machine.execDisarmFlareDue s
  | .flareSend val => Sys2Proof.Machine.execFlareSend val s
  | .doneFifoRead => Sys2Proof.Machine.execDoneFifoRead s
  | .maskRearm => Sys2Proof.Machine.execMaskRearm s
  | .trgCntClr => Sys2Proof.Machine.execTrgCntClr s
  | .frameRunStart val => Sys2Proof.Machine.execFrameRunStart val s
  | .frameRunStop val => Sys2Proof.Machine.execFrameRunStop val s
  | .frameBoundary => Sys2Proof.Machine.execFrameBoundary s
  | .frameReadoutEnd tile dur poison => Sys2Proof.Machine.execFrameReadoutEnd tile dur poison s
  | .gateOpen => Sys2Proof.Machine.execGateOpen s
  | .gateClose => Sys2Proof.Machine.execGateClose s
  | .gateLenExpire => Sys2Proof.Machine.execGateLenExpire s
  | .burstDeliveryEnd => Sys2Proof.Machine.execBurstDeliveryEnd s
  | .tilFrmCntClr => Sys2Proof.Machine.execTilFrmCntClr s
  | .fabricWaveLaunch => Sys2Proof.Machine.execFabricWaveLaunch s
  | .waveComplete => Sys2Proof.Machine.execWaveComplete s
  | .wickWrite val => Sys2Proof.Machine.execWickWrite val s
  | .groupInputWrite val => Sys2Proof.Machine.execGroupInputWrite val s
  | .fabricCheckDone => Sys2Proof.Machine.execFabricCheckDone s
  | .reloadAdmit => Sys2Proof.Machine.execReloadAdmit s
  | .reloadApply => Sys2Proof.Machine.execReloadApply s
  | .reloadAbort val => Sys2Proof.Machine.execReloadAbort val s
  | .imageProgStart val => Sys2Proof.Machine.execImageProgStart val s
  | .imageProgVerifyDone => Sys2Proof.Machine.execImageProgVerifyDone s
  | .imageProgAbort val => Sys2Proof.Machine.execImageProgAbort val s
  | .imagePrefSlot val => Sys2Proof.Machine.execImagePrefSlot val s
  | .imageTrial val => Sys2Proof.Machine.execImageTrial val s
  | .imageConfirm val => Sys2Proof.Machine.execImageConfirm val s
  | .configScrubVisit kind bad addr => Sys2Proof.Machine.execConfigScrubVisit kind bad addr s
  | .fabCntClr => Sys2Proof.Machine.execFabCntClr s
  | .tdcInputEdge pin falling => Sys2Proof.Machine.execTdcInputEdge pin falling s
  | .tdcResult interp n => Sys2Proof.Machine.execTdcResult interp n s
  | .tdcCalEnd interp n1 n2 => Sys2Proof.Machine.execTdcCalEnd interp n1 n2 s
  | .tdcIdleRecal interp => Sys2Proof.Machine.execTdcIdleRecal interp s
  | .tdcTimeout ch => Sys2Proof.Machine.execTdcTimeout ch s
  | .tdcArm val => Sys2Proof.Machine.execTdcArm val s
  | .tdcDisarm val => Sys2Proof.Machine.execTdcDisarm val s
  | .tdcFlush val => Sys2Proof.Machine.execTdcFlush val s
  | .tdcChannelEnable val => Sys2Proof.Machine.execTdcChannelEnable val s
  | .tdcQueueSnapshot ch => Sys2Proof.Machine.execTdcQueueSnapshot ch s
  | .tdcQueueRemove ch => Sys2Proof.Machine.execTdcQueueRemove ch s
  | .tdcGapEntry ch => Sys2Proof.Machine.execTdcGapEntry ch s
  | .tdcSpareApprove val => Sys2Proof.Machine.execTdcSpareApprove val s
  | .tdcSpareDecline val => Sys2Proof.Machine.execTdcSpareDecline val s
  | .tdcSpareTimeout => Sys2Proof.Machine.execTdcSpareTimeout s
  | .tdcCntClr => Sys2Proof.Machine.execTdcCntClr s
  | .auxEnable val => Sys2Proof.Machine.execAuxEnable val s
  | .auxDisable val => Sys2Proof.Machine.execAuxDisable val s
  | .auxTick signal imeas => Sys2Proof.Machine.execAuxTick signal imeas s
  | .auxResult => Sys2Proof.Machine.execAuxResult s
  | .auxInjectFire val => Sys2Proof.Machine.execAuxInjectFire val s
  | .auxInjectedSample signal => Sys2Proof.Machine.execAuxInjectedSample signal s
  | .auxQueueSnapshot => Sys2Proof.Machine.execAuxQueueSnapshot s
  | .auxQueueRemove => Sys2Proof.Machine.execAuxQueueRemove s
  | .auxGapRecord => Sys2Proof.Machine.execAuxGapRecord s
  | .axClampConduct volts => Sys2Proof.Machine.execAxClampConduct volts s
  | .wireBreakDetect entry check => Sys2Proof.Machine.execWireBreakDetect entry check s
  | .wireClear entry => Sys2Proof.Machine.execWireClear entry s
  | .excitationLimit imeas => Sys2Proof.Machine.execExcitationLimit imeas s
  | .auxCalZero val => Sys2Proof.Machine.execAuxCalZero val s
  | .auxCalFull val => Sys2Proof.Machine.execAuxCalFull val s
  | .auxCalAbort val => Sys2Proof.Machine.execAuxCalAbort val s
  | .auxCalStepEnd signals => Sys2Proof.Machine.execAuxCalStepEnd signals s
  | .auxCalTimeout => Sys2Proof.Machine.execAuxCalTimeout s
  | .auxConverterCheck main spare mainRef spareRef => Sys2Proof.Machine.execAuxConverterCheck main spare mainRef spareRef s
  | .auxPinCfgWrite pin val => Sys2Proof.Machine.execAuxPinCfgWrite pin val s
  | .auxCntClr => Sys2Proof.Machine.execAuxCntClr s
  | .ctlFbSample input nV => Sys2Proof.Machine.execCtlFbSample input nV s
  | .ctlFbResult input => Sys2Proof.Machine.execCtlFbResult input s
  | .pulseCountEdge counter step dir ns => Sys2Proof.Machine.execPulseCountEdge counter step dir ns s
  | .loopPeriodStart slot => Sys2Proof.Machine.execLoopPeriodStart slot s
  | .loopComputeDone slot => Sys2Proof.Machine.execLoopComputeDone slot s
  | .loopDeadline slot => Sys2Proof.Machine.execLoopDeadline slot s
  | .loopEnable slot val => Sys2Proof.Machine.execLoopEnable slot val s
  | .loopDisable slot val => Sys2Proof.Machine.execLoopDisable slot val s
  | .loopCommit slot => Sys2Proof.Machine.execLoopCommit slot s
  | .ctlQueueSnapshot => Sys2Proof.Machine.execCtlQueueSnapshot s
  | .ctlQueueRemove => Sys2Proof.Machine.execCtlQueueRemove s
  | .ctlGapRecord => Sys2Proof.Machine.execCtlGapRecord s
  | .ctlCntClr => Sys2Proof.Machine.execCtlCntClr s
  | .safetyStrobe a b rb differ => Sys2Proof.Machine.execSafetyStrobe a b rb differ s
  | .strobeLoss => Sys2Proof.Machine.execStrobeLoss s
  | .testPulseStart tp => Sys2Proof.Machine.execTestPulseStart tp s
  | .testPulseEnd tp => Sys2Proof.Machine.execTestPulseEnd tp s
  | .outputTestPulse out chan => Sys2Proof.Machine.execOutputTestPulse out chan s
  | .safAck val => Sys2Proof.Machine.execSafAck val s
  | .safReq val => Sys2Proof.Machine.execSafReq val s
  | .safCommit val agree => Sys2Proof.Machine.execSafCommit val agree s
  | .snufferProduce conn differ => Sys2Proof.Machine.execSnufferProduce conn differ s
  | .snufferReceive port frame => Sys2Proof.Machine.execSnufferReceive port frame s
  | .snufferTimeout conn => Sys2Proof.Machine.execSnufferTimeout conn s
  | .snufferRxSubmit val => Sys2Proof.Machine.execSnufferRxSubmit val s
  | .safCntClr => Sys2Proof.Machine.execSafCntClr s
  | .portEnable port val => Sys2Proof.Machine.execPortEnable port val s
  | .portDisable port val => Sys2Proof.Machine.execPortDisable port val s
  | .beaconSend port => Sys2Proof.Machine.execBeaconSend port s
  | .beaconReceive port w0 w1 => Sys2Proof.Machine.execBeaconReceive port w0 w1 s
  | .trainFrameReceive port lane msg eye skew => Sys2Proof.Machine.execTrainFrameReceive port lane msg eye skew s
  | .trainingTimeout port => Sys2Proof.Machine.execTrainingTimeout port s
  | .partnerTrainTimeout port => Sys2Proof.Machine.execPartnerTrainTimeout port s
  | .markerReceive lane w bip inv => Sys2Proof.Machine.execMarkerReceive lane w bip inv s
  | .laneLos lane => Sys2Proof.Machine.execLaneLos lane s
  | .laneLol lane => Sys2Proof.Machine.execLaneLol lane s
  | .laneSwitchRetry port => Sys2Proof.Machine.execLaneSwitchRetry port s
  | .portLosDetach port => Sys2Proof.Machine.execPortLosDetach port s
  | .lnkDataRx port seq tspec body tr => Sys2Proof.Machine.execLnkDataRx port seq tspec body tr s
  | .lnkFlareRx port seq body tr => Sys2Proof.Machine.execLnkFlareRx port seq body tr s
  | .lnkTimeRx port sub body tr => Sys2Proof.Machine.execLnkTimeRx port sub body tr s
  | .lnkSnufferRx port seq body tr => Sys2Proof.Machine.execLnkSnufferRx port seq body tr s
  | .lnkCtrlAck port tr => Sys2Proof.Machine.execLnkCtrlAck port tr s
  | .lnkCtrlSwitch port lidx tr => Sys2Proof.Machine.execLnkCtrlSwitch port lidx tr s
  | .lnkCtrlSwitched port lidx tr => Sys2Proof.Machine.execLnkCtrlSwitched port lidx tr s
  | .lnkCtrlWake port tr => Sys2Proof.Machine.execLnkCtrlWake port tr s
  | .lnkCtrlSleep port tr => Sys2Proof.Machine.execLnkCtrlSleep port tr s
  | .lnkCtrlRetrain port tr => Sys2Proof.Machine.execLnkCtrlRetrain port tr s
  | .lnkReplayTimeout port pri => Sys2Proof.Machine.execLnkReplayTimeout port pri s
  | .lnkProgressTimeout port => Sys2Proof.Machine.execLnkProgressTimeout port s
  | .lnkRetrainCmd port val => Sys2Proof.Machine.execLnkRetrainCmd port val s
  | .timeFrameSend port sub => Sys2Proof.Machine.execTimeFrameSend port sub s
  | .timeFrameMiss port => Sys2Proof.Machine.execTimeFrameMiss port s
  | .dualHoldExpire entry => Sys2Proof.Machine.execDualHoldExpire entry s
  | .dualPairExpire entry => Sys2Proof.Machine.execDualPairExpire entry s
  | .dualRestore entry => Sys2Proof.Machine.execDualRestore entry s
  | .portSleep port => Sys2Proof.Machine.execPortSleep port s
  | .portWakeComplete port => Sys2Proof.Machine.execPortWakeComplete port s
  | .lnkCntClr => Sys2Proof.Machine.execLnkCntClr s
  | .perstNAssert => Sys2Proof.Machine.execPerstNAssert s
  | .hotReset => Sys2Proof.Machine.execHotReset s
  | .functionLevelReset => Sys2Proof.Machine.execFunctionLevelReset s
  | .pcieLinkDown => Sys2Proof.Machine.execPcieLinkDown s
  | .d3Entry => Sys2Proof.Machine.execD3Entry s
  | .bar4Read off n => Sys2Proof.Machine.execBar4Read off n s
  | .bar4Write off data => Sys2Proof.Machine.execBar4Write off data s
  | .doorbellTail h2d q val => Sys2Proof.Machine.execDoorbellTail h2d q val s
  | .doorbellCplHead h2d q val masked => Sys2Proof.Machine.execDoorbellCplHead h2d q val masked s
  | .queueEnable h2d q val => Sys2Proof.Machine.execQueueEnable h2d q val s
  | .queueDisable h2d q val tags => Sys2Proof.Machine.execQueueDisable h2d q val tags s
  | .queueStopped q tags => Sys2Proof.Machine.execQueueStopped q tags s
  | .descriptorFetchDone h2d q words ok => Sys2Proof.Machine.execDescriptorFetchDone h2d q words ok s
  | .queuePacketWrite q n bad => Sys2Proof.Machine.execQueuePacketWrite q n bad s
  | .bufferCloseTimeout q => Sys2Proof.Machine.execBufferCloseTimeout q s
  | .h2dFrameStart h data bad ok => Sys2Proof.Machine.execH2dFrameStart h data bad ok s
  | .h2dFrameDone h => Sys2Proof.Machine.execH2dFrameDone h s
  | .queueProgressTimeout h2d q => Sys2Proof.Machine.execQueueProgressTimeout h2d q s
  | .streamOverrunGap stream => Sys2Proof.Machine.execStreamOverrunGap stream s
  | .irqMessage src masked => Sys2Proof.Machine.execIrqMessage src masked s
  | .queueIrqTimer h2d q masked => Sys2Proof.Machine.execQueueIrqTimer h2d q masked s
  | .hostIrqRearm idx val masked => Sys2Proof.Machine.execHostIrqRearm idx val masked s
  | .hstCntClr => Sys2Proof.Machine.execHstCntClr s
  | .cmpInputWord ctx fault => Sys2Proof.Machine.execCmpInputWord ctx fault s
  | .cmpFlushTimeout ctx fault => Sys2Proof.Machine.execCmpFlushTimeout ctx fault s
  | .cmpSave val => Sys2Proof.Machine.execCmpSave val s
  | .cmpRestore val => Sys2Proof.Machine.execCmpRestore val s
  | .cmpReset val => Sys2Proof.Machine.execCmpReset val s
  | .decompBlock h hit => Sys2Proof.Machine.execDecompBlock h hit s
  | .cmpCntClr => Sys2Proof.Machine.execCmpCntClr s
  | .memRead addr upset stuck lost => Sys2Proof.Machine.execMemRead addr upset stuck lost s
  | .rowRemapDone => Sys2Proof.Machine.execRowRemapDone s
  | .memWrite addr data poison => Sys2Proof.Machine.execMemWrite addr data poison s
  | .memPartitionWrite which val => Sys2Proof.Machine.execMemPartitionWrite which val s
  | .scrubStart val => Sys2Proof.Machine.execScrubStart val s
  | .scrubAbort val done words => Sys2Proof.Machine.execScrubAbort val done words s
  | .scrubDone => Sys2Proof.Machine.execScrubDone s
  | .sramFuseProg val => Sys2Proof.Machine.execSramFuseProg val s
  | .memCntClr => Sys2Proof.Machine.execMemCntClr s
  | .sessionRequest role => Sys2Proof.Machine.execSessionRequest role s
  | .sessionResponse hi => Sys2Proof.Machine.execSessionResponse hi s
  | .sessionClose => Sys2Proof.Machine.execSessionClose s
  | .sessionIdleTimeout => Sys2Proof.Machine.execSessionIdleTimeout s
  | .lockoutExpire => Sys2Proof.Machine.execLockoutExpire s
  | .keyProgram role chk => Sys2Proof.Machine.execKeyProgram role chk s
  | .moduleIdProgram id => Sys2Proof.Machine.execModuleIdProgram id s
  | .auditEntryStored stored fuse => Sys2Proof.Machine.execAuditEntryStored stored fuse s
  | .wearMinuteUpdate tConc tTile tMax => Sys2Proof.Machine.execWearMinuteUpdate tConc tTile tMax s
  | .dosimeterRead dose => Sys2Proof.Machine.execDosimeterRead dose s
  | .serviceRecordSave => Sys2Proof.Machine.execServiceRecordSave s
  | .controlViaTest tile failed => Sys2Proof.Machine.execControlViaTest tile failed s
  | .refclkReturn => Sys2Proof.Machine.execRefclkReturn s
  | .pcieLinkUp speed width => Sys2Proof.Machine.execPcieLinkUp speed width s
  | .imageProgEraseDone => Sys2Proof.Machine.execImageProgEraseDone s
  | .excitationLimitClear imeas => Sys2Proof.Machine.execExcitationLimitClear imeas s

end Sys2Proof.Machine
end

