-- ==== Sys2Proof/Machine/Step.lean ====
section
/-! DEFINITION. Machine/Step.lean: one step takes the command at the front of the queue; on an empty queue one reference period
passes. -/

namespace Sys2Proof.Machine

/-- One step: the first waiting command has its effect, with the rest still waiting. With none waiting, one period of the reference clock
passes in which nothing happens but the counting of time (DESIGN CHOICE, log entry 2). -/
def step (s : State) : Host.Outcome State Fault Refusal :=
  match s.pending with
  | [] => .next s.idleEdge
  | c :: rest => exec c { s with pending := rest }

/-- The command that a table word spells, put in front of the queue; no word spells one. -/
def State.withFetchWord (s : State) (nbits w : Nat) : State :=
  match decodeTableWord nbits w with
  | some c => { s with pending := c :: s.pending }
  | none => s

end Sys2Proof.Machine
end

