-- ==== Sys2Proof/WellFormed.lean ====
section
/-! DEFINITION. WellFormed.lean: which operands a command may carry: unit numbers within what the manual says the module has, values
within the register written, and the bit of a command register that tells one command of it from another. -/

namespace Sys2Proof

/-- A 32-bit register's value. -/
def word32 (v : Nat) : Bool := decide (v < 2 ^ 32)

/-- A 64-bit word. -/
def word64 (v : Nat) : Bool := decide (v < 2 ^ 64)

/-- Four tiles (R38). -/
def tileOk (t : Nat) : Bool := decide (t < 4)

/-- 4,096 sconces in a tile (R38). -/
def sconceOk (c : Nat) : Bool := decide (c < 4096)

/-- 64 pixels in a sconce (R38). -/
def pixOk (l : List Nat) : Bool := l.all fun p => decide (p < 64)
def upsetsOk (l : List PixUpset) : Bool :=
  l.all fun u => decide (u.row < 512) && decide (u.col < 512) && decide (u.copy < 6) && word32 u.mask

/-- Half picoseconds within a reference period of 4 ns. -/
def subOk (n : Nat) : Bool := decide (n < 8000)

/-- 64 column buses and two spares in a tile (R87, R109). -/
def busOk (b : Nat) : Bool := decide (b < 66)

/-- 64 sconce columns in a tile (R38). -/
def colOk (c : Nat) : Bool := decide (c < 64)

/-- Eight of a kind: Lantern ports, Snuffer connections, host-to-device queues. -/
def portOk (p : Nat) : Bool := decide (p < 8)

/-- 64 of a kind: streams, compression contexts, device-to-host queues. -/
def streamOk (n : Nat) : Bool := decide (n < 64)

/-- 64 entries of a table: dual-homing pairs, scan entries. -/
def dualOk (n : Nat) : Bool := decide (n < 64)

/-- 65,536 region-map entries (R151). -/
def rmapOk (n : Nat) : Bool := decide (n < 65536)

/-- 32 precision channels (R268). -/
def chanOk (n : Nat) : Bool := decide (n < 32)

/-- Four of a kind: loop slots, pulse counters, feedback inputs. -/
def quadOk (n : Nat) : Bool := decide (n < 4)

/-- Two of a kind. -/
def pairOk (n : Nat) : Bool := decide (n < 2)

/-- 18 lanes (R373). -/
def laneOk (n : Nat) : Bool := decide (n < 18)

/-- 64 device-to-host queues or 8 host-to-device queues (R414). -/
def queueOk (h2d : Bool) (q : Nat) : Bool := if h2d then portOk q else streamOk q

/-- One measurement for each tile. -/
def fourOf {α : Type} (l : List α) : Bool := decide (l.length = 4)

/-- An opcode of eight bits that names no other instruction (R35). -/
def bypassOk (opcode : Nat) : Bool := decide (opcode < 256) && !([0x00, 0x01, 0x02, 0x08, 0x09].contains opcode)

/-- A PCIe speed and width (R413). -/
def linkOk (speed width : Nat) : Bool :=
  decide (1 ≤ speed) && decide (speed ≤ 5) && [1, 2, 4, 8, 16].contains width

/-- A register whose write has an outcome that only its own command carries as an operand: a measurement, the answer of the two safety
channels, the masked vectors, TAGs in host memory. -/
def ownCommand (a v : Nat) : Bool :=
  (a == 0x400B0 && v.testBit 8) || a == 0x1D0168 || a == 0x1F0058 || a == 0x1F005C || a == 0x1F0060 ||
    (a == 0x210038 && v.testBit 1 && !v.testBit 0) ||
    (decide (0x1F1100 ≤ a) && decide (a < 0x1F1300) && a % 0x40 == 0 && !v.testBit 0)

/-- A plain register write lies in BAR0 (R8) and does not write a register that has a command of its own with further operands. -/
def writeOk (addr val size : Nat) : Bool :=
  decide (addr < 0x400000) && word64 val && !ownCommand addr (val % 2 ^ 32) &&
    !(size == 8 && ownCommand (addr + 4) (val / 2 ^ 32 % 2 ^ 32))

/-- A scrubbed word other than a register field names a wick, a group input, a condition or a region-map entry that exists; a register
field stands in the register tables. -/
def scrubWord : ScrubKind → Bool
  | .wick n => decide (n < 16384)
  | .gin n => decide (n < 16384)
  | .cond n => decide (n < 64)
  | .rmap n => decide (n < 65536)
  | .topo => true
  | .shadow => true
  | .reg id i j => Machine.regTable.any fun f => f.id == id && decide (i < f.count) && decide (j < f.bank)

/-- The command is well formed. -/
def Instr.wf (c : Instr) : Bool :=
  match c with
  | .vauxRise => true
  | .vauxFall => true
  | .railRise _ => true
  | .railOutOfRange _ => true
  | .resetNAccept _ => true
  | .resetNBounce _ => true
  | .resetNRise bootSel _ _ => decide (bootSel < 4)
  | .startBegin => true
  | .jtagExtest _ => true
  | .jtagClamp _ => true
  | .jtagHighz _ => true
  | .jtagIdcode _ => true
  | .jtagSamplePreload _ => true
  | .jtagBypass opcode _ => bypassOk opcode
  | .jtagTestLogicReset => true
  | .startStageComplete _ _ => true
  | .startStageTimeout => true
  | .failedStartHoldEnd => true
  | .failcntClearTimeout => true
  | .bootRestart => true
  | .bootPilot => true
  | .coreDisagree core hs => decide (core < 4) && decide (1 ≤ hs) && decide (hs ≤ 3)
  | .lamplighterWatchdog => true
  | .refclkLoss => true
  | .junctionOvertemp die => decide (die < 5)
  | .junctionTempRelease => true
  | .faultHandlingEnd => true
  | .genFaultAck => true
  | .faultRecordSnapshot => true
  | .faultRecordRemove => true
  | .tileWaitExpire tile => tileOk tile
  | .portWaitExpire port => portOk port
  | .genCntClr => true
  | .i2cPointerWrite slave ptr => decide (slave < 128) && decide (ptr < 65536)
  | .i2cRegisterRead slave _ => decide (slave < 128)
  | .kvtEvaluation _ tj _ _ => fourOf tj
  | .vfeSet v => decide (v < 256)
  | .vfeRampEnd => true
  | .vfePhaseSwap phase => decide (phase < 14)
  | .registerWrite addr val size => writeOk addr val size
  | .epochBoundary => true
  | .discriminatorRise tile sconce pix sub => tileOk tile && sconceOk sconce && pixOk (pix.map (·.pix)) && subOk sub
  | .flameStop tile sconce flame _ => tileOk tile && sconceOk sconce && decide (flame < 5)
  | .flameHandoff tile sconce flame => tileOk tile && sconceOk sconce && decide (flame < 5)
  | .discriminatorFall tile sconce pix sub => tileOk tile && sconceOk sconce && pixOk [pix] && subOk sub
  | .totSaturate tile sconce pix => tileOk tile && sconceOk sconce && pixOk [pix]
  | .tpTrainStart tile val => tileOk tile && word32 val && val % 65536 != 0
  | .tpTrainStop tile val => tileOk tile && word32 val && val % 65536 == 0
  | .testPulseInject tile => tileOk tile
  | .pixelScrubVisit tile row col upsets => tileOk tile && decide (row < 512) && decide (col < 512) && upsetsOk upsets
  | .pcsWordArrive src w => pairOk src && word32 w
  | .reconfigBlankEnd tile sconce => tileOk tile && sconceOk sconce
  | .pcsAbort => true
  | .pixelWordRead => true
  | .lossEpisodeClose tile sconce kind => tileOk tile && sconceOk sconce && decide (kind < 8)
  | .rotaStepDue tile => tileOk tile
  | .rotaForce tile val => tileOk tile && word32 val && val.testBit 16
  | .rotaIntervalWrite tile val => tileOk tile && word32 val && !val.testBit 16
  | .flameOffline tile sconce flame => tileOk tile && sconceOk sconce && decide (flame < 5)
  | .flameCalibrationEnd tile sconce flame _ _ => tileOk tile && sconceOk sconce && decide (flame < 5)
  | .flameReturn tile sconce flame => tileOk tile && sconceOk sconce && decide (flame < 5)
  | .tileEnable tile val => tileOk tile && word32 val && val.testBit 0
  | .firstCalibrationStart tile => tileOk tile
  | .firstCalibrationEnd tile _ _ _ _ => tileOk tile
  | .tileDisable tile val => tileOk tile && word32 val && !val.testBit 0
  | .fePowerWrite tile val => tileOk tile && word32 val
  | .feReady tile => tileOk tile
  | .tilCntClr tile => tileOk tile
  | .failFifoRead tile => tileOk tile
  | .columnBusHop tile bus recv _ => tileOk tile && busOk bus && decide (recv < 65)
  | .columnStallTimeout tile bus => tileOk tile && busOk bus
  | .spareSwitchDone tile col _ => tileOk tile && colOk col
  | .spareApprove tile val => tileOk tile && word32 val && val.testBit 0 && !val.testBit 1
  | .spareDecline tile val => tileOk tile && word32 val && val.testBit 1
  | .spareRequestTimeout tile => tileOk tile
  | .flitForm tile _ => tileOk tile
  | .flitTransfer tile => tileOk tile
  | .flitCheck tile _ => tileOk tile
  | .chkOk tile => tileOk tile
  | .chkNak tile => tileOk tile
  | .viaTestStart tile _ => tileOk tile
  | .viaTestEnd tile _ => tileOk tile
  | .crossbarTakeWord tile _ _ => tileOk tile
  | .receiverDrainStart tile => tileOk tile
  | .tilXcntClr tile => tileOk tile
  | .timOpen val => word32 val && val.testBit 0
  | .timClose val => word32 val && val.testBit 1 && !val.testBit 0
  | .timSet val => word32 val && val.testBit 2 && !val.testBit 0 && !val.testBit 1
  | .timeSample _ => true
  | .timeFaultRate => true
  | .ptpAnnounceRx _ _ => true
  | .ptpSyncRx _ _ _ _ _ _ _ _ => true
  | .ptpFollowUpRx _ _ _ _ => true
  | .ptpDelayReqSend _ => true
  | .ptpDelayRespRx _ _ _ _ => true
  | .ptpAnnounceTimeout => true
  | .ptpSyncTimeout => true
  | .arpRequestRx _ => true
  | .ppsEdge _ _ _ => true
  | .ppsEdgeMissing => true
  | .tenMhzLoss => true
  | .ppsSecondWrite _ => true
  | .ppsOutRise => true
  | .ppsOutFall => true
  | .timSnap => true
  | .skewRecalibrate delays => fourOf delays
  | .skewForce val delays => word32 val && val.testBit 8 && fourOf delays
  | .timCntClr => true
  | .frameLaunch h => portOk h
  | .rmapEntryWrite entry part _ => rmapOk entry && decide (part < 3)
  | .rmapCommit val => word32 val && val.testBit 0
  | .clusterRelease engine _ => decide (engine < 8)
  | .clusterClose engine _ => decide (engine < 8)
  | .packetFlush stream => streamOk stream
  | .rateWindowEnd group => decide (group < 256)
  | .evtEnable val => word32 val && val.testBit 0
  | .evtDisable val => word32 val && !val.testBit 0
  | .streamEnable stream val => streamOk stream && word32 val && val.testBit 0
  | .streamDisable stream val => streamOk stream && word32 val && !val.testBit 0
  | .evtCntClr => true
  | .cluCntClr => true
  | .ringEnable val => word32 val && val.testBit 1
  | .ringWrite _ => true
  | .ringOverrunGap => true
  | .primitiveEvent prim _ => decide (prim < 512)
  | .primitivePulseEnd prim => decide (prim < 512)
  | .todFire tod => decide (tod < 16)
  | .hostFire code => decide (code < 16)
  | .triggerSample => true
  | .contextOpen tmpl => decide (tmpl < 16)
  | .contextExtractionEnd tmpl => decide (tmpl < 16)
  | .contextAbort val => word32 val && val.testBit 17
  | .contextRelease val => word32 val && val.testBit 16 && !val.testBit 17
  | .triggerEnable val => word32 val && val.testBit 0
  | .triggerDisable val => word32 val && !val.testBit 0
  | .templateArm mask => decide (mask < 65536)
  | .templateArmed tmpl => decide (tmpl < 16)
  | .templateDisarm mask => decide (mask < 65536)
  | .disarmFlareDue => true
  | .flareSend val => word32 val && val.testBit 0
  | .doneFifoRead => true
  | .maskRearm => true
  | .trgCntClr => true
  | .frameRunStart val => word32 val && val.testBit 0
  | .frameRunStop val => word32 val && !val.testBit 0
  | .frameBoundary => true
  | .frameReadoutEnd tile _ _ => tileOk tile
  | .gateOpen => true
  | .gateClose => true
  | .gateLenExpire => true
  | .burstDeliveryEnd => true
  | .tilFrmCntClr => true
  | .fabricWaveLaunch => true
  | .waveComplete => true
  | .wickWrite val => word32 val
  | .groupInputWrite val => word32 val
  | .fabricCheckDone => true
  | .reloadAdmit => true
  | .reloadApply => true
  | .reloadAbort val => word32 val && val.testBit 0
  | .imageProgStart val => word32 val && val.testBit 0 && !val.testBit 2
  | .imageProgVerifyDone => true
  | .imageProgAbort val => word32 val && val.testBit 2
  | .imagePrefSlot val => word32 val && !val.testBit 1 && !val.testBit 2
  | .imageTrial val => word32 val && val.testBit 1 && !val.testBit 2
  | .imageConfirm val => word32 val && val.testBit 2
  | .configScrubVisit kind _ _ => scrubWord kind
  | .fabCntClr => true
  | .tdcInputEdge pin _ => decide (pin < 34)
  | .tdcResult interp _ => decide (interp < 68)
  | .tdcCalEnd interp _ _ => decide (interp < 68)
  | .tdcIdleRecal interp => decide (interp < 68)
  | .tdcTimeout ch => chanOk ch
  | .tdcArm val => word32 val && val.testBit 0
  | .tdcDisarm val => word32 val && val.testBit 1
  | .tdcFlush val => word32 val && val.testBit 2
  | .tdcChannelEnable val => word32 val && val.testBit 0
  | .tdcQueueSnapshot ch => chanOk ch
  | .tdcQueueRemove ch => chanOk ch
  | .tdcGapEntry ch => chanOk ch
  | .tdcSpareApprove val => word32 val && val.testBit 0 && !val.testBit 1
  | .tdcSpareDecline val => word32 val && val.testBit 1
  | .tdcSpareTimeout => true
  | .tdcCntClr => true
  | .auxEnable val => word32 val && val.testBit 0
  | .auxDisable val => word32 val && !val.testBit 0
  | .auxTick _ _ => true
  | .auxResult => true
  | .auxInjectFire val => word32 val
  | .auxInjectedSample _ => true
  | .auxQueueSnapshot => true
  | .auxQueueRemove => true
  | .auxGapRecord => true
  | .axClampConduct _ => true
  | .wireBreakDetect entry _ => dualOk entry
  | .wireClear entry => dualOk entry
  | .excitationLimit _ => true
  | .auxCalZero val => word32 val && val % 4 == 1
  | .auxCalFull val => word32 val && val % 4 == 2
  | .auxCalAbort val => word32 val && val % 4 == 3
  | .auxCalStepEnd _ => true
  | .auxCalTimeout => true
  | .auxConverterCheck _ _ _ _ => true
  | .auxPinCfgWrite pin val => decide (pin < 16) && word32 val
  | .auxCntClr => true
  | .ctlFbSample input _ => quadOk input
  | .ctlFbResult input => quadOk input
  | .pulseCountEdge counter _ _ _ => quadOk counter
  | .loopPeriodStart slot => quadOk slot
  | .loopComputeDone slot => quadOk slot
  | .loopDeadline slot => quadOk slot
  | .loopEnable slot val => quadOk slot && word32 val && val.testBit 0
  | .loopDisable slot val => quadOk slot && word32 val && !val.testBit 0
  | .loopCommit slot => quadOk slot
  | .ctlQueueSnapshot => true
  | .ctlQueueRemove => true
  | .ctlGapRecord => true
  | .ctlCntClr => true
  | .safetyStrobe a b rb _ => word32 a && word32 b && word32 rb
  | .strobeLoss => true
  | .testPulseStart tp => pairOk tp
  | .testPulseEnd tp => pairOk tp
  | .outputTestPulse out chan => pairOk out && pairOk chan
  | .safAck val => word32 val && val.testBit 0
  | .safReq val => word32 val
  | .safCommit val _ => word32 val
  | .snufferProduce conn _ => portOk conn
  | .snufferReceive port _ => portOk port
  | .snufferTimeout conn => portOk conn
  | .snufferRxSubmit val => word32 val
  | .safCntClr => true
  | .portEnable port val => portOk port && word32 val && val.testBit 0
  | .portDisable port val => portOk port && word32 val && !val.testBit 0
  | .beaconSend port => portOk port
  | .beaconReceive port w0 w1 => portOk port && word64 w0 && word64 w1
  | .trainFrameReceive port lane _ _ _ => portOk port && laneOk lane
  | .trainingTimeout port => portOk port
  | .partnerTrainTimeout port => portOk port
  | .markerReceive lane w _ _ => laneOk lane && word64 w
  | .laneLos lane => laneOk lane
  | .laneLol lane => laneOk lane
  | .laneSwitchRetry port => portOk port
  | .portLosDetach port => portOk port
  | .lnkDataRx port _ _ _ _ => portOk port
  | .lnkFlareRx port _ _ _ => portOk port
  | .lnkTimeRx port _ _ _ => portOk port
  | .lnkSnufferRx port _ _ _ => portOk port
  | .lnkCtrlAck port _ => portOk port
  | .lnkCtrlSwitch port lidx _ => portOk port && decide (lidx < 16)
  | .lnkCtrlSwitched port lidx _ => portOk port && decide (lidx < 16)
  | .lnkCtrlWake port _ => portOk port
  | .lnkCtrlSleep port _ => portOk port
  | .lnkCtrlRetrain port _ => portOk port
  | .lnkReplayTimeout port _ => portOk port
  | .lnkProgressTimeout port => portOk port
  | .lnkRetrainCmd port val => portOk port && word32 val && val.testBit 0
  | .timeFrameSend port _ => portOk port
  | .timeFrameMiss port => portOk port
  | .dualHoldExpire entry => dualOk entry
  | .dualPairExpire entry => dualOk entry
  | .dualRestore entry => dualOk entry
  | .portSleep port => portOk port
  | .portWakeComplete port => portOk port
  | .lnkCntClr => true
  | .perstNAssert => true
  | .hotReset => true
  | .functionLevelReset => true
  | .pcieLinkDown => true
  | .d3Entry => true
  | .bar4Read off n => decide (off + n ≤ 2 ^ 28)
  | .bar4Write off data => decide (off + data.length ≤ 2 ^ 28)
  | .doorbellTail h2d q val => queueOk h2d q && word32 val
  | .doorbellCplHead h2d q val _ => queueOk h2d q && word32 val
  | .queueEnable h2d q val => queueOk h2d q && word32 val && val.testBit 0
  | .queueDisable h2d q val _ => queueOk h2d q && word32 val && !val.testBit 0
  | .queueStopped q _ => streamOk q
  | .descriptorFetchDone h2d q words _ => queueOk h2d q && words.all word64 && words.length == (if h2d then 4 else 2)
  | .queuePacketWrite q _ _ => streamOk q
  | .bufferCloseTimeout q => streamOk q
  | .h2dFrameStart h _ _ _ => portOk h
  | .h2dFrameDone h => portOk h
  | .queueProgressTimeout h2d q => queueOk h2d q
  | .streamOverrunGap stream => streamOk stream
  | .irqMessage src _ => decide (src < 88)
  | .queueIrqTimer h2d q _ => queueOk h2d q
  | .hostIrqRearm idx val _ => decide (idx < 3) && word32 val
  | .hstCntClr => true
  | .cmpInputWord ctx _ => streamOk ctx
  | .cmpFlushTimeout ctx _ => streamOk ctx
  | .cmpSave val => word32 val && val.testBit 0
  | .cmpRestore val => word32 val && val.testBit 1 && !val.testBit 0
  | .cmpReset val => word32 val && val.testBit 2 && !val.testBit 0 && !val.testBit 1
  | .decompBlock h _ => portOk h
  | .cmpCntClr => true
  | .memRead _ _ _ _ => true
  | .rowRemapDone => true
  | .memWrite _ _ _ => true
  | .memPartitionWrite which val => decide (which < 3) && word32 val
  | .scrubStart val => word32 val && val.testBit 0
  | .scrubAbort val _ words => word32 val && val.testBit 1 && !val.testBit 0 && decide (words < 64)
  | .scrubDone => true
  | .sramFuseProg val => word32 val && val.testBit 0
  | .memCntClr => true
  | .sessionRequest role => decide (role < 8)
  | .sessionResponse hi => word32 hi
  | .sessionClose => true
  | .sessionIdleTimeout => true
  | .lockoutExpire => true
  | .keyProgram _ _ => true
  | .moduleIdProgram _ => true
  | .auditEntryStored _ _ => true
  | .wearMinuteUpdate _ _ _ => true
  | .dosimeterRead dose => decide (dose.length = 5)
  | .serviceRecordSave => true
  | .controlViaTest tile _ => tileOk tile
  | .refclkReturn => true
  | .pcieLinkUp speed width => linkOk speed width
  | .imageProgEraseDone => true
  | .excitationLimitClear _ => true

end Sys2Proof
end

