-- ==== Sys2Proof/Safety.lean ====
section
/-! DEFINITION. Safety.lean: the terms claims are stated in: a state in canonical form, a command that completes, and what it leaves as
it was. -/

namespace Sys2Proof.Machine

/-- The sparse tables of a state are in their one canonical form: the keys of the register file and of the shadow copies strictly rise,
and buffer memory lists its bytes by rising address and none that reads as an unlisted one. -/
def State.Canon (s : State) : Prop :=
  SMap.Sorted RKey.lt s.regs ∧ SMap.Sorted RKey.lt s.shadow ∧ Memory.wf s.mem

/-- The command completes with a next state of which `P` holds. -/
def Does (c : Instr) (s : State) (P : State → Prop) : Prop := ∃ t, exec c s = .next t ∧ P t

/-- The register fields outside `l` read in every instance as before. -/
def OnlyFields (l : List Fld) (s t : State) : Prop := ∀ f i j, f.id ∉ l.map (·.id) → t.get f i j = s.get f i j

/-- Only register fields of `l` differ: the rest of the state is equal. -/
def RegsOnly (l : List Fld) (s t : State) : Prop := t = { s with regs := t.regs } ∧ OnlyFields l s t

/-- `t` is `u`, and its register file differs from that of `s` in the fields of `l` alone. -/
def Only (l : List Fld) (s t u : State) : Prop := t = u ∧ OnlyFields l s t

/-- What stands still fills or stalls, and these fields count it while time passes (R106, R112, R113, R162, R436). -/
def timeFields : List Fld :=
  [Reg.TIL_COL_FULL_COUNT, Reg.TIL_COL_STALL_COUNT, Reg.TIL_XINT_CNT_SAT, Reg.TIL_MRG_STALL_COUNT, Reg.CLU_FULL_COUNT,
   Reg.CLU_INT_CNT_SAT, Reg.CLU_INT_FULL, Reg.HST_Dq_STARVE_COUNT, Reg.HST_INT_CNT_SAT]

/-- What an entry of the audit log changes as it enters the queue, or is lost and counted (R528). -/
def auditFields : List Fld := [Reg.GEN_AUD_STATUS_PEND, Reg.GEN_AUD_DROP_COUNT, Reg.GEN_SVC_INT_CNT_SAT]

/-- A pin or module reset has taken place between the two states: every register outside the always-on domain, buffer memory and DT are
as after reset; the queue and what the store and fuses hold are as before, but for the wear totals, which a module reset (`saved`) saves first
(R482, R516, R556). -/
def WasReset (saved : Bool) (s t : State) : Prop :=
  (∀ f i j, f.id ∉ bootKeep → t.get f i j = f.reset i j) ∧ t.mem = [] ∧ t.dtRef = 0 ∧ t.pending = s.pending ∧
  t.store = { s.store with wear := if saved then s.svc.wear else s.store.wear }

/-- Every register field reads as after reset. -/
def AtReset (t : State) : Prop := ∀ f i j, t.get f i j = f.reset i j

/-- The always-on BOOT fields read as before, but for the kind of reset (R556). -/
def KeepsBoot (s t : State) : Prop := ∀ f i j, f.id ∈ bootKeep → f.id ≠ Reg.BOOT_LAST_KIND.id → t.get f i j = s.get f i j

/-- The idle time of the open session is not over yet (R521). -/
abbrev State.sessionLive (s : State) : Prop := s.dtRef < s.sess.lastWrite + 250000000 * max 1 (s.get Reg.GEN_SESS_CFG_IDLE)

/-- A guarded write waits: its entry is the last of the audit queue with the write beside it, and nothing but that queue's length shows
it yet (R528). -/
def Waits (kind addr old new act arg : Nat) (s t : State) : Prop :=
  t.aud = { s.aud with queue := s.aud.queue ++ [{ entry := s.auditEntry kind 0 addr old new arg, write := some (addr, act) }] } ∧
  Only [Reg.GEN_AUD_STATUS_PEND] s t { s with regs := t.regs, aud := t.aud, sess := { s.sess with lastWrite := s.dtRef } } ∧
  t.get Reg.GEN_AUD_STATUS_PEND = s.aud.queue.length + 1

/-- A guarded write is refused with a result and has no other effect: GEN_INT.REFUSED, and an entry if the queue has room (R531). -/
def RefusedWrite (kind result addr old new : Nat) (s t : State) : Prop :=
  t.get Reg.GEN_INT_REFUSED = 1 ∧ Only (Reg.GEN_INT_REFUSED :: auditFields) s t { s with regs := t.regs, aud := t.aud } ∧
  (s.aud.queue.length < 32 →
    t.aud = { s.aud with queue := s.aud.queue ++ [{ entry := s.auditEntry kind result addr old new 0, write := none }] })

/-- Every command that waits is well formed. -/
def State.wellQueued (s : State) : Prop := ∀ c ∈ s.pending, c.wf = true

end Sys2Proof.Machine
end

