-- ==== Sys2Proof/Certificates/Slice0/Obligations.lean ====
section
/-! DEFINITION. Certificates/Slice0/Obligations.lean: the statements made of the model. -/

namespace Sys2Proof

open Machine

/-- A port holds no frame that waits or awaits an acknowledgement. -/
abbrev PortIdle (s : State) (p : Nat) : Prop :=
  (s.lport p).bulk.kept = [] ∧ (s.lport p).bulk.wait = [] ∧ (s.lport p).pri.kept = [] ∧ (s.lport p).pri.wait = []

/-- The sink of stream 5 is queue 5, and no other stream has one. -/
def hstSinks : List Sink := (List.replicate 64 ({} : Sink)).set 5 { pkind := 1, pidx := 5 }

/-- A dictionary that a coder or R452 admits: at most 0xF00 pairs, each of a code below its own and a byte. -/
abbrev dictLegal (d : Dict) : Prop := d.length ≤ 0xF00 ∧ ∀ x ∈ d.zipIdx, x.1.1 < 0x100 + x.2 ∧ x.1.2 < 256

end Sys2Proof

section

open Sys2Proof Sys2Proof.Machine

/-- Power, rails, RESET_N and boundary scan: A rise of VAUX takes every register to its reset value and counts a power-on; its fall
loses the always-on domain; a rail that rises is in range and is recorded when it is early; one that leaves its range is recorded and
is fault 0x01, a module reset, while the module runs, a failed start during one, and only out of range in reset; RESET_N low for 5 us
or more resets everything but the always-on BOOT fields, a shorter pulse is ignored; a bounce counts and measures a pin reset again; a
rise of RESET_N latches the straps and the held time; and a start begins with DT at 0, from stage 0 or into pilot-light mode; EXTEST,
CLAMP or HIGHZ loaded with RESET_N high resets the module and holds it, loaded under such a hold or with RESET_N low it only becomes
current; any other instruction, and a test-logic reset, ends the hold; and a data scan shifts the register of the instruction, IDCODE,
the boundary cells or the bypass bit. -/
def Obligations.PowerAndPinReset : Prop :=
  (∀ s, Does .vauxRise s fun t => AtReset t ∧ t.shadow = [] ∧ t.mem = [] ∧ t.sys.phase = .reset ∧ t.dtRef = 0 ∧
    (∀ r, r ∈ t.sys.rails ↔ r ∈ s.sys.rails ∧ r ≠ .vaux) ∧
    t.pending = s.pending ∧ t.store = { s.store with wear := { s.store.wear with powerOns := s.store.wear.powerOns + 1 } }) ∧
  (∀ s, Does .vauxFall s fun t => AtReset t ∧ t.shadow = [] ∧ t.mem = [] ∧ t.sys.phase = .dead ∧ t.dtRef = 0 ∧
    (∀ r, r ∈ t.sys.rails ↔ r ∈ s.sys.rails ∧ r ≠ .vaux) ∧ t.pending = s.pending ∧ t.store = s.store) ∧
  (∀ r s, Does (.railRise r) s fun t => r ∈ t.sys.rails ∧ (∀ q, q ∈ t.sys.rails ↔ q = r ∨ q ∈ s.sys.rails) ∧
    Only [Reg.BOOT_RAIL_RAIL, Reg.BOOT_RAIL_RUN, Reg.BOOT_RAIL_VALID] s t { s with regs := t.regs, sys := t.sys } ∧
    (s.sys.phase ≠ .dead → (∃ q, railGroup q < railGroup r ∧ q ∉ s.sys.rails) → t.railsOk = false → t.sys.holds.rail = true) ∧
    (s.sys.phase ≠ .dead → (s.get Reg.BOOT_RAIL_VALID = 0 ∨ s.get Reg.BOOT_RAIL_RUN = 1) → Rail.vaux ∈ s.sys.rails → (∃ q, railGroup q < railGroup r ∧ q ∉ s.sys.rails) →
      t.get Reg.BOOT_RAIL_RAIL = railCode r ∧ t.get Reg.BOOT_RAIL_RUN = 0 ∧ t.get Reg.BOOT_RAIL_VALID = 1) ∧
    ((s.get Reg.BOOT_RAIL_VALID = 1 ∧ s.get Reg.BOOT_RAIL_RUN = 0) ∨ (∀ q, railGroup q < railGroup r → q ∈ s.sys.rails) → t.regs = s.regs)) ∧
  (∀ r s, s.sys.phase = .running → Does (.railOutOfRange r) s fun t => t.get Reg.BOOT_RAIL_RAIL = railCode r ∧
    t.get Reg.BOOT_RAIL_RUN = 1 ∧ t.get Reg.BOOT_RAIL_VALID = 1 ∧ t.get Reg.BOOT_LAST_FCODE = 1 ∧ t.get Reg.BOOT_LAST_KIND = 5 ∧
    t.get Reg.BOOT_LAST_QDISC = s.flt.queue.length % 256 ∧ t.sys.phase = .reset ∧ t.sys.holds.rail = true ∧ r ∉ t.sys.rails ∧ WasReset true s t) ∧
  (∀ r s, s.sys.phase = .starting → Does (.railOutOfRange r) s fun t => t.get Reg.BOOT_RAIL_RAIL = railCode r ∧
    t.get Reg.BOOT_RAIL_RUN = 1 ∧ t.get Reg.BOOT_RAIL_VALID = 1 ∧ t.get Reg.BOOT_FAIL_CODE = 0xA ∧ t.get Reg.BOOT_FAIL_STAGE = s.get Reg.BOOT_STATUS_STAGE % 16 ∧
    t.sys.phase = .failHold ∧ r ∉ t.sys.rails) ∧
  (∀ r s, s.sys.phase = .reset → Does (.railOutOfRange r) s fun t => t = { s with sys := { s.sys with rails := t.sys.rails } } ∧
    (∀ q, q ∈ t.sys.rails ↔ q ∈ s.sys.rails ∧ q ≠ r)) ∧
  (∀ lowNs s, s.sys.phase ≠ .dead → s.sys.rstN = true →
    (5000 ≤ lowNs → Does (.resetNAccept lowNs) s fun t => t.get Reg.BOOT_LAST_KIND = (if s.sys.holds.testMode then 2 else 1) ∧
      t.sys.phase = .reset ∧ t.sys.rstN = false ∧ WasReset false s t ∧ KeepsBoot s t) ∧
    (lowNs < 5000 → Does (.resetNAccept lowNs) s fun t => t = s)) ∧
  (∀ heldMs s, s.sys.phase = .reset → s.sys.rstN = true → Does (.resetNBounce heldMs) s fun t =>
    t.get Reg.BOOT_LAST_BOUNCE = min 255 (s.get Reg.BOOT_LAST_BOUNCE + 1) ∧
    (s.get Reg.BOOT_LAST_KIND ≤ 2 → t.get Reg.BOOT_HELD_MS = min heldMs 0xFFFFFFFF) ∧
    (2 < s.get Reg.BOOT_LAST_KIND → t.get Reg.BOOT_HELD_MS = s.get Reg.BOOT_HELD_MS) ∧ RegsOnly [Reg.BOOT_LAST_BOUNCE, Reg.BOOT_HELD_MS] s t) ∧
  (∀ bootSel testMode heldMs s, s.sys.phase ≠ .dead → s.sys.rstN = false →
    Does (.resetNRise bootSel testMode heldMs) s fun t => t.get Reg.BOOT_STATUS_STRAP = bootSel % 4 ∧
      t.get Reg.BOOT_HELD_MS = min heldMs 0xFFFFFFFF ∧ (testMode = true → t.get Reg.BOOT_LAST_KIND = 2) ∧
      (testMode = false → t.get Reg.BOOT_LAST_KIND = s.get Reg.BOOT_LAST_KIND) ∧ t.sys.rstN = true ∧
      t.sys.holds = { s.sys.holds with testMode := testMode } ∧
      Only [Reg.BOOT_STATUS_STRAP, Reg.BOOT_HELD_MS, Reg.BOOT_LAST_KIND] s t { s with regs := t.regs, sys := t.sys }) ∧
  (∀ s, s.sys.phase = .reset → s.sys.rstN = true → s.sys.holds = {} →
    (s.pilotCause = 0 → Does .startBegin s fun t =>
      t.sys.phase = .starting ∧ t.dtRef = 0 ∧ t.get Reg.BOOT_STATUS_STAGE = 0 ∧ t.store = { s.store with starts := s.store.starts + 1 } ∧
      Only [Reg.BOOT_STATUS_STAGE] s t { s with regs := t.regs, dtRef := 0, sys := t.sys, store := t.store }) ∧
    (s.pilotCause ≠ 0 → Does .startBegin s fun t =>
      t.sys.phase = .pilot ∧ t.dtRef = 0 ∧ t.get Reg.BOOT_STATUS_PILOT = 1 ∧ t.get Reg.HST_STATUS_PILOT = 1 ∧
      t.get Reg.BOOT_PILOT_CAUSE = s.pilotCause ∧ t.store.starts = s.store.starts + 1 ∧ t.pending = s.pending ∧ t.mem = s.mem)) ∧
  (∀ (tdi : List Bool) (s : State), s.railsOk = true → s.sys.phase ≠ .dead →
    (s.sys.rstN = true → s.sys.holds.scan = false → Does (.jtagExtest tdi) s fun t => t.sys.jtag = .extest ∧ t.sys.holds = { s.sys.holds with scan := true } ∧ t.sys.phase = .reset ∧ t.get Reg.BOOT_LAST_KIND = 3 ∧ WasReset false s t ∧ KeepsBoot s t ∧
      (tdi ≠ [] → t.rdata = (((List.range cellCount).map (Config.cellLevel s.drawn) ++ tdi).take tdi.length).map boolNat ∧ t.sys.cells = ((List.range cellCount).map (Config.cellLevel s.drawn) ++ tdi).drop tdi.length)) ∧
    (s.sys.rstN = false ∨ s.sys.holds.scan = true → Does (.jtagExtest tdi) s fun t => t.sys.jtag = .extest ∧ t = { s with sys := { s.sys with jtag := .extest, cells := t.sys.cells }, rdata := t.rdata, drawn := t.drawn } ∧
      (tdi ≠ [] → t.rdata = (((List.range cellCount).map (Config.cellLevel s.drawn) ++ tdi).take tdi.length).map boolNat ∧ t.sys.cells = ((List.range cellCount).map (Config.cellLevel s.drawn) ++ tdi).drop tdi.length) ∧ (tdi = [] → t.rdata = s.rdata ∧ t.sys.cells = s.sys.cells ∧ t.drawn = s.drawn))) ∧
  (∀ (tdi : List Bool) (s : State), s.railsOk = true → s.sys.phase ≠ .dead →
    (s.sys.rstN = true → s.sys.holds.scan = false → Does (.jtagClamp tdi) s fun t => t.sys.jtag = .clamp ∧ t.sys.holds = { s.sys.holds with scan := true } ∧ t.sys.phase = .reset ∧ t.get Reg.BOOT_LAST_KIND = 3 ∧ WasReset false s t ∧ KeepsBoot s t ∧
      (tdi ≠ [] → t.rdata = ((false :: tdi).take tdi.length).map boolNat)) ∧
    (s.sys.rstN = false ∨ s.sys.holds.scan = true → Does (.jtagClamp tdi) s fun t => t.sys.jtag = .clamp ∧ t = { s with sys := { s.sys with jtag := .clamp, cells := t.sys.cells }, rdata := t.rdata, drawn := t.drawn } ∧
      (tdi ≠ [] → t.rdata = ((false :: tdi).take tdi.length).map boolNat) ∧ (tdi = [] → t.rdata = s.rdata ∧ t.sys.cells = s.sys.cells ∧ t.drawn = s.drawn))) ∧
  (∀ (tdi : List Bool) (s : State), s.railsOk = true → s.sys.phase ≠ .dead →
    (s.sys.rstN = true → s.sys.holds.scan = false → Does (.jtagHighz tdi) s fun t => t.sys.jtag = .highz ∧ t.sys.holds = { s.sys.holds with scan := true } ∧ t.sys.phase = .reset ∧ t.get Reg.BOOT_LAST_KIND = 3 ∧ WasReset false s t ∧ KeepsBoot s t ∧
      (tdi ≠ [] → t.rdata = ((false :: tdi).take tdi.length).map boolNat)) ∧
    (s.sys.rstN = false ∨ s.sys.holds.scan = true → Does (.jtagHighz tdi) s fun t => t.sys.jtag = .highz ∧ t = { s with sys := { s.sys with jtag := .highz, cells := t.sys.cells }, rdata := t.rdata, drawn := t.drawn } ∧
      (tdi ≠ [] → t.rdata = ((false :: tdi).take tdi.length).map boolNat) ∧ (tdi = [] → t.rdata = s.rdata ∧ t.sys.cells = s.sys.cells ∧ t.drawn = s.drawn))) ∧
  (∀ (opcode : Nat) (tdi : List Bool) (s : State), s.railsOk = true → s.sys.phase ≠ .dead → (s.saf.runs = false ∨ (s.sys.jtag ≠ .extest ∧ s.sys.jtag ≠ .clamp ∧ s.sys.jtag ≠ .highz)) → opcode ∉ [0x00, 0x01, 0x02, 0x08, 0x09] → opcode < 256 →
    (Does (.jtagIdcode tdi) s fun t => t = { s with sys := { s.sys with jtag := .idcode, holds := { s.sys.holds with scan := false }, cells := t.sys.cells }, rdata := t.rdata, drawn := t.drawn } ∧
      (tdi ≠ [] → t.rdata = (((List.range 32).map (Nat.testBit 0x14102BB5) ++ tdi).take tdi.length).map boolNat) ∧ (tdi = [] → t.rdata = s.rdata ∧ t.sys.cells = s.sys.cells ∧ t.drawn = s.drawn)) ∧
    (Does (.jtagSamplePreload tdi) s fun t => t = { s with sys := { s.sys with jtag := .samplePreload, holds := { s.sys.holds with scan := false }, cells := t.sys.cells }, rdata := t.rdata, drawn := t.drawn } ∧
      (tdi ≠ [] → t.rdata = (((List.range cellCount).map (Config.cellLevel s.drawn) ++ tdi).take tdi.length).map boolNat ∧ t.sys.cells = ((List.range cellCount).map (Config.cellLevel s.drawn) ++ tdi).drop tdi.length) ∧ (tdi = [] → t.rdata = s.rdata ∧ t.sys.cells = s.sys.cells ∧ t.drawn = s.drawn)) ∧
    (Does (.jtagBypass opcode tdi) s fun t => t = { s with sys := { s.sys with jtag := .bypass, holds := { s.sys.holds with scan := false }, cells := t.sys.cells }, rdata := t.rdata, drawn := t.drawn } ∧
      (tdi ≠ [] → t.rdata = ((false :: tdi).take tdi.length).map boolNat) ∧ (tdi = [] → t.rdata = s.rdata ∧ t.sys.cells = s.sys.cells ∧ t.drawn = s.drawn)) ∧
    (Does .jtagTestLogicReset s fun t => t = { s with sys := { s.sys with jtag := .idcode, holds := { s.sys.holds with scan := false } } })) ∧
  (∀ (opcode : Nat) (tdi : List Bool) (s : State), s.railsOk = true → s.sys.phase ≠ .dead → s.saf.runs = true → (s.sys.jtag = .extest ∨ s.sys.jtag = .clamp ∨ s.sys.jtag = .highz) → opcode ∉ [0x00, 0x01, 0x02, 0x08, 0x09] → opcode < 256 →
    (Does (.jtagIdcode tdi) s fun t => t.sys.jtag = .idcode ∧ t.sys.holds = { s.sys.holds with scan := false } ∧ t.saf.runs = true ∧ t.saf.lastStrobe = s.dtRef ∧ t.mem = s.mem ∧ t.store = s.store ∧ t.dtRef = s.dtRef) ∧ (Does (.jtagSamplePreload tdi) s fun t => t.sys.jtag = .samplePreload ∧ t.sys.holds = { s.sys.holds with scan := false } ∧ t.saf.runs = true ∧ t.saf.lastStrobe = s.dtRef ∧ t.mem = s.mem ∧ t.store = s.store ∧ t.dtRef = s.dtRef) ∧
    (Does (.jtagBypass opcode tdi) s fun t => t.sys.jtag = .bypass ∧ t.sys.holds = { s.sys.holds with scan := false } ∧ t.saf.runs = true ∧ t.saf.lastStrobe = s.dtRef ∧ t.mem = s.mem ∧ t.store = s.store ∧ t.dtRef = s.dtRef) ∧ (Does .jtagTestLogicReset s fun t => t.sys.jtag = .idcode ∧ t.sys.holds = { s.sys.holds with scan := false } ∧ t.saf.runs = true ∧ t.saf.lastStrobe = s.dtRef ∧ t.mem = s.mem ∧ t.store = s.store ∧ t.dtRef = s.dtRef))

/-- The stages of a start: Stage 0 passes with every rail and REFCLK in range; stage 1 with two cores or more, which vote or compare;
stage 2 when the spares of every SRAM array suffice; stage 3 when the store is found; stage 4 with a slot whose image passes its first
checks; stage 5 with one good channel position; stage 6 with VFE in regulation; stage 7 applies the skew delays; stages 8 and 9 pass
when the image's sections do; stage 10 opens BAR0; a stage that finds otherwise ends the start with its code and one past its limit
with code 0x08; the hold after a failed start ends in a module reset; and 60 s after stage 10 the failed-start count returns to 0. -/
def Obligations.StartStages : Prop :=
  (∀ len s, s.sys.phase = .starting → s.get Reg.BOOT_STATUS_STAGE = 0 →
    (s.railsOk = true → s.sys.refclkOk = true → Does (.startStageComplete len .plain) s fun t => t.get Reg.BOOT_STATUS_STAGE = 1 ∧ t.sys.stageAt = t.dtRef ∧
      t.dtRef = max s.dtRef (s.sys.stageAt + min len 3000000) % 2 ^ 64 ∧ Only (Reg.BOOT_STATUS_STAGE :: timeFields) s t { s with regs := t.regs, sys := t.sys, dtRef := t.dtRef }) ∧
    (s.railsOk = false → Does (.startStageComplete len .plain) s fun t => t.sys.phase = .failHold ∧ t.get Reg.BOOT_FAIL_STAGE = 0 ∧ t.get Reg.BOOT_FAIL_CODE = 0xA ∧ t.get Reg.BOOT_STATUS_FAILCNT = min 3 (s.get Reg.BOOT_STATUS_FAILCNT + 1)) ∧
    (s.railsOk = true → s.sys.refclkOk = false → Does (.startStageComplete len .plain) s fun t => t.sys.phase = .failHold ∧ t.get Reg.BOOT_FAIL_STAGE = 0 ∧ t.get Reg.BOOT_FAIL_CODE = 1 ∧ t.get Reg.BOOT_STATUS_FAILCNT = min 3 (s.get Reg.BOOT_STATUS_FAILCNT + 1))) ∧
  (∀ (len : Nat) (pass : List Bool) (s : State), s.sys.phase = .starting → s.get Reg.BOOT_STATUS_STAGE = 1 → let n := (([0, 1, 2, 3].filter fun c => pass.getD c false)).length
    (2 ≤ n → Does (.startStageComplete len (.cores pass)) s fun t => t.get Reg.BOOT_STATUS_STAGE = 2 ∧ t.sys.phase = .starting ∧ t.get Reg.LIF_STATUS_MODE = 4 - n) ∧
    (n < 2 → Does (.startStageComplete len (.cores pass)) s fun t => t.sys.phase = .failHold ∧ t.get Reg.BOOT_FAIL_STAGE = 1 ∧ t.get Reg.BOOT_FAIL_CODE = 2 ∧ t.get Reg.BOOT_STATUS_FAILCNT = min 3 (s.get Reg.BOOT_STATUS_FAILCNT + 1))) ∧
  (∀ (len : Nat) (s : State), s.sys.phase = .starting → s.get Reg.BOOT_STATUS_STAGE = 2 → s.store.sramFused = [] → Does (.startStageComplete len (.sram [])) s fun t => t.get Reg.BOOT_STATUS_STAGE = 3 ∧
    t.get Reg.MEM_SRAM_COUNT_ARRAYS = Config.sramArrays % 256 ∧ t.get Reg.GEN_SPARE_INFO_TOTAL 0 0xC = 3 * (Config.sramArrays % 256)) ∧
  (∀ (len saf : Nat) (found differ : Bool) (s : State), s.sys.phase = .starting → s.get Reg.BOOT_STATUS_STAGE = 3 →
    (found = true → Does (.startStageComplete len (.store found differ saf)) s fun t => t.get Reg.BOOT_STATUS_STAGE = 4 ∧ t.sys.phase = .starting ∧ (differ = true → t.get Reg.GEN_SVC_INT_AUD_ERR = 1)) ∧
    (found = false → Does (.startStageComplete len (.store found differ saf)) s fun t => t.sys.phase = .failHold ∧ t.get Reg.BOOT_FAIL_STAGE = 3 ∧ t.get Reg.BOOT_FAIL_CODE = 3 ∧ t.get Reg.BOOT_STATUS_FAILCNT = min 3 (s.get Reg.BOOT_STATUS_FAILCNT + 1))) ∧
  (∀ (len k : Nat) (dead : List Nat) (s : State), k < 2 → s.sys.phase = .starting → s.get Reg.BOOT_STATUS_STAGE = 4 → s.sys.tried = [] → s.get Reg.BOOT_STATUS_STRAP = k + 1 →
    Does (.startStageComplete len (.firmware dead)) s fun t => let b := (s.slot k).bytes
      if imgError4 b = 0 ∧ k ∉ dead then t.get Reg.BOOT_STATUS_STAGE = 5 ∧ t.get Reg.FAB_IMG_ACTIVE_SLOT = k ∧ t.get Reg.FAB_IMG_ID_ID = leAt b 0x10 8 % 2 ^ 64 ∧
        t.get Reg.FAB_IMG_GEN_GEN = leAt b 0x18 4 % 2 ^ 32 ∧ t.sys.vfeStart = imgVfe b ∧ t.store = s.store
      else t.sys.phase = .failHold ∧ t.get Reg.BOOT_FAIL_STAGE = 4 ∧ t.get Reg.BOOT_FAIL_CODE = 4 ∧ t.get Reg.BOOT_STATUS_FAILCNT = min 3 (s.get Reg.BOOT_STATUS_FAILCNT + 1)) ∧
  (∀ (len : Nat) (dead : List Nat) (s : State), s.sys.phase = .starting → s.get Reg.BOOT_STATUS_STAGE = 4 → s.sys.tried = [] → s.get Reg.BOOT_STATUS_STRAP = 0 → s.store.trial.getD s.store.pref < 2 →
    Does (.startStageComplete len (.firmware dead)) s fun t => let k := s.store.trial.getD s.store.pref
      let good (k : Nat) : Prop := imgError4 (s.slot k).bytes = 0 ∧ k ∉ dead
      (good k → t.get Reg.BOOT_STATUS_STAGE = 5 ∧ t.get Reg.FAB_IMG_ACTIVE_SLOT = k ∧ t.get Reg.FAB_IMG_ACTIVE_TRIAL_RUN = boolNat s.store.trial.isSome ∧ t.store = { s.store with trial := none }) ∧
      (¬ good k → (s.slot (1 - k)).valid = true → good (1 - k) → t.get Reg.BOOT_STATUS_STAGE = 5 ∧ t.get Reg.FAB_IMG_ACTIVE_SLOT = 1 - k ∧ t.get Reg.FAB_IMG_LOADERR_FELLBACK = 1 ∧
        t.get Reg.FAB_IMG_LOADERR_ERR_FIRST = (if imgError4 (s.slot k).bytes = 0 then 8 else imgError4 (s.slot k).bytes) % 16) ∧
      (¬ good k → ((s.slot (1 - k)).valid = false ∨ ¬ good (1 - k)) → t.sys.phase = .failHold ∧ t.get Reg.BOOT_FAIL_STAGE = 4 ∧ t.get Reg.BOOT_FAIL_CODE = 4 ∧ t.get Reg.BOOT_STATUS_FAILCNT = min 3 (s.get Reg.BOOT_STATUS_FAILCNT + 1))) ∧
  (∀ (len r : Nat) (x d : Bool) (s : State), s.sys.phase = .starting → s.get Reg.BOOT_STATUS_STAGE = 5 → 1 ≤ r → Does (.startStageComplete len (.channels (List.replicate 12 ⟨true, x, d, r, true, true⟩))) s fun t => t.get Reg.BOOT_STATUS_STAGE = 6 ∧
    t.get Reg.MEM_STATUS_CHMASK = 0xFFF ∧ t.get Reg.MEM_CH_FAIL_FAIL = 0 ∧ t.get Reg.MEM_STATUS_ORG = (if x then 2 else 1) ∧ t.get Reg.MEM_STATUS_DENS = boolNat d ∧
    t.get Reg.MEM_STATUS_SIZE = 6 * (if x then 2 else 1) * (if d then 2 else 1) ∧ t.get Reg.MEM_INT_DEGRADED = s.get Reg.MEM_INT_DEGRADED) ∧
  (∀ (len : Nat) (l : List ChanTest) (s : State), s.sys.phase = .starting → s.get Reg.BOOT_STATUS_STAGE = 5 → (∀ c ∈ l, c.present = false) → Does (.startStageComplete len (.channels l)) s fun t => t.sys.phase = .failHold ∧ t.get Reg.BOOT_FAIL_STAGE = 5 ∧ t.get Reg.BOOT_FAIL_CODE = 6 ∧ t.get Reg.BOOT_STATUS_FAILCNT = min 3 (s.get Reg.BOOT_STATUS_FAILCNT + 1)) ∧
  (∀ (len n : Nat) (vias : List (Nat × Nat × Nat)) (passed : List (Nat × Nat)) (s : State), n < 4 → s.sys.phase = .starting → s.get Reg.BOOT_STATUS_STAGE = 6 →
    (s.store.units = [] → s.sys.vfe = none → s.sys.hot = false → Does (.startStageComplete len (.power true [] [])) s fun t => t.get Reg.BOOT_STATUS_STAGE = 7 ∧ t.get Reg.GEN_VFE_STATUS_PHASES = 14 ∧
      t.get Reg.GEN_VFE_SET = s.sys.vfeStart % 256 ∧ t.sys.vfe = some (min (s.sys.vfeStart % 256) 200) ∧ (s.get Reg.TIL_BND_STATUS_STATE n ≠ 3 → t.get Reg.TIL_BND_STATUS_STATE n = 1)) ∧
    (Does (.startStageComplete len (.power false vias passed)) s fun t => t.sys.phase = .failHold ∧ t.get Reg.BOOT_FAIL_STAGE = 6 ∧ t.get Reg.BOOT_FAIL_CODE = 7 ∧ t.get Reg.BOOT_STATUS_FAILCNT = min 3 (s.get Reg.BOOT_STATUS_FAILCNT + 1))) ∧
  (∀ (len n : Nat) (delays : List Nat) (s : State), n < 4 → s.sys.phase = .starting → s.get Reg.BOOT_STATUS_STAGE = 7 → s.store.units = [] → Does (.startStageComplete len (.skew delays [])) s fun t => t.get Reg.BOOT_STATUS_STAGE = 8 ∧
    t.get Reg.TIM_TSKEW_DELAY n = delays.getD n 0 % 2 ^ 13 ∧ t.get Reg.TDC_CORE_FAIL0_FAIL = 0 ∧ t.get Reg.TDC_CORE_FAIL1_FAIL = 0 ∧ t.get Reg.AUX_STATUS_MAIN_FAIL = 0 ∧ t.get Reg.AUX_STATUS_SPARE_FAIL = 0) ∧
  (∀ (len err : Nat) (s : State), s.sys.phase = .starting → s.get Reg.BOOT_STATUS_STAGE = 8 → let b := (s.slot (s.get Reg.FAB_IMG_ACTIVE_SLOT)).bytes
    (err = 0 → imgError8 b = 0 → Does (.startStageComplete len (.sections err)) s fun t => t.get Reg.BOOT_STATUS_STAGE = 9 ∧ t.topo = topoOf (imgContent b 1)) ∧
    (err ≠ 0 ∨ imgError8 b ≠ 0 → s.otherSlot (s.get Reg.FAB_IMG_ACTIVE_SLOT) = [] → Does (.startStageComplete len (.sections err)) s fun t => t.sys.phase = .failHold ∧ t.get Reg.BOOT_FAIL_STAGE = 8 ∧ t.get Reg.BOOT_FAIL_CODE = 4 ∧ t.get Reg.BOOT_STATUS_FAILCNT = min 3 (s.get Reg.BOOT_STATUS_FAILCNT + 1)) ∧
    (err ≠ 0 ∨ imgError8 b ≠ 0 → s.otherSlot (s.get Reg.FAB_IMG_ACTIVE_SLOT) ≠ [] → Does (.startStageComplete len (.sections err)) s fun t => t.get Reg.BOOT_STATUS_STAGE = 4 ∧ t.topo = {} ∧ t.sys.phase = .starting)) ∧
  (∀ (len err : Nat) (s : State), s.sys.phase = .starting → s.get Reg.BOOT_STATUS_STAGE = 9 → let b := (s.slot (s.get Reg.FAB_IMG_ACTIVE_SLOT)).bytes
    (err = 0 → imgHas b 4 = false → s.get Reg.TIL_PCS_STATUS_STATE = 0 → Does (.startStageComplete len (.sections err)) s fun t => t.get Reg.BOOT_STATUS_STAGE = 10 ∧ Only (Reg.BOOT_STATUS_STAGE :: timeFields) s t { s with regs := t.regs, sys := t.sys, dtRef := t.dtRef }) ∧
    (err ≠ 0 → s.otherSlot (s.get Reg.FAB_IMG_ACTIVE_SLOT) = [] → Does (.startStageComplete len (.sections err)) s fun t => t.sys.phase = .failHold ∧ t.get Reg.BOOT_FAIL_STAGE = 9 ∧ t.get Reg.BOOT_FAIL_CODE = 4 ∧ t.get Reg.BOOT_STATUS_FAILCNT = min 3 (s.get Reg.BOOT_STATUS_FAILCNT + 1))) ∧
  (∀ len s, s.sys.phase = .starting → s.get Reg.BOOT_STATUS_STAGE = 10 → Does (.startStageComplete len .plain) s fun t =>
    t.sys.phase = .running ∧ t.get Reg.BOOT_STATUS_DONE = 1 ∧ t.get Reg.GEN_INT_STARTED = 1 ∧ t.sys.since10 = some t.dtRef ∧
    t.get Reg.BOOT_TIME_MS = min 65535 (t.dtRef / 250000) ∧ t.dtRef = max s.dtRef (s.sys.stageAt + min len 250000) % 2 ^ 64 ∧
    Only ([Reg.BOOT_STATUS_DONE, Reg.GEN_INT_STARTED, Reg.BOOT_TIME_MS] ++ auditFields ++ timeFields) s t { s with regs := t.regs, sys := t.sys, svc := t.svc, aud := t.aud, dtRef := t.dtRef }) ∧
  (∀ s, s.sys.phase = .starting → Does .startStageTimeout s fun t => t.sys.phase = .failHold ∧ t.get Reg.BOOT_FAIL_STAGE = s.get Reg.BOOT_STATUS_STAGE % 16 ∧ t.get Reg.BOOT_FAIL_CODE = 8 ∧ t.get Reg.BOOT_STATUS_FAILCNT = min 3 (s.get Reg.BOOT_STATUS_FAILCNT + 1) ∧ t.mem = [] ∧ t.pending = s.pending) ∧
  (∀ s, s.sys.phase = .failHold → Does .failedStartHoldEnd s fun t => t.sys.phase = .reset ∧ t.get Reg.BOOT_LAST_KIND = 6 ∧
    WasReset true s t ∧ KeepsBoot s t) ∧
  (∀ n s, s.sys.since10 = some n → Does .failcntClearTimeout s fun t => t.get Reg.BOOT_STATUS_FAILCNT = 0 ∧
    t.dtRef = max s.dtRef (n + 15000000000) % 2 ^ 64 ∧
    Only (Reg.BOOT_STATUS_FAILCNT :: timeFields) s t
      { s with regs := t.regs, dtRef := t.dtRef, sys := { s.sys with since10 := none } })

/-- The fault handler and the I2C port: A core that disagrees is resynchronised from the voted state, or retired at its fourth time
within a second, and with two voting it is fault 0x03; the watchdog and a lost REFCLK are severity 4, a module reset that BOOT_LAST
records; a fault found with the handler idle is under way at once; the end of its handling writes its record; FAULT_N is released by
an acknowledgement only once no fault of severity 3 or 4 is left; the head record is read and removed through its window; and a
transaction to the module's I2C address sets the register pointer, or reads registers from it, BOOT always and GEN and LIF as 0 in
reset. -/
def Obligations.FaultHandler : Prop :=
  (∀ core hs s, core < 4 → 1 ≤ hs → hs ≤ 3 → s.lampRuns = true → s.coreState core = 0 → 3 ≤ s.voters.length →
    ((s.cores.getD core {}).resyncs.filter fun t => decide (s.dtRef < t + 250000000)).length < 3 →
    Does (.coreDisagree core hs) s fun t => t.get Reg.LIF_LAST_CORE = core ∧ t.get Reg.LIF_LAST_HS = hs ∧ t.get Reg.GEN_INT_RESYNC = 1 ∧
      Only [Reg.LIF_LAST_CORE, Reg.LIF_LAST_HS, Reg.GEN_INT_RESYNC, Reg.LIF_RESYNC_COUNT, Reg.GEN_INT_CNT_SAT] s t
        { s with regs := t.regs, cores := t.cores }) ∧
  (∀ s, s.lampRuns = true → Does .lamplighterWatchdog s fun t => t.get Reg.BOOT_LAST_FCODE = 4 ∧ t.get Reg.BOOT_LAST_KIND = 5 ∧
    t.get Reg.BOOT_LAST_QDISC = s.flt.queue.length % 256 ∧ t.sys.phase = .reset ∧ WasReset true s t) ∧
  (∀ s, s.sys.phase = .running → Does .refclkLoss s fun t => t.get Reg.BOOT_LAST_FCODE = 2 ∧ t.get Reg.BOOT_LAST_KIND = 5 ∧
    t.sys.phase = .reset ∧ t.sys.refclkOk = false ∧ t.sys.holds.refclk = true ∧ WasReset true s t) ∧
  (∀ s, Does .refclkReturn s fun t =>
    t = { s with sys := { s.sys with refclkOk := true, holds := { s.sys.holds with refclk := false } } }) ∧
  (∀ die s, die < 5 → s.sys.phase = .running → s.flt.under = none → Does (.junctionOvertemp die) s fun t =>
    t.flt.under = some { dt := s.dtRef, code := 0xA, sev := 3, src := die } ∧ t.sys.hot = true ∧ t.faultN = true ∧
    (s.sys.vfe.isSome → t.sys.vfe = some 0) ∧ t.get Reg.GEN_FAULT_STATUS_CODE = 0xA ∧ t.get Reg.GEN_FAULT_STATUS_SEV = 3 ∧
    Only [Reg.GEN_VFE_STATUS_CLAMPED, Reg.GEN_VFE_STATUS_RAMP, Reg.GEN_FAULT_STATUS_CODE, Reg.GEN_FAULT_STATUS_SEV,
      Reg.GEN_FAULT_STATUS_QLEVEL, Reg.GEN_FAULT_STATUS_NEST] s t { s with regs := t.regs, sys := t.sys, flt := t.flt }) ∧
  (∀ s, Does .junctionTempRelease s fun t => t.sys.hot = false ∧
    (∀ v ∈ s.sys.vfe, t.sys.vfe = some (min (s.get Reg.GEN_VFE_SET) (vfeLimit (s.get Reg.GEN_VFE_STATUS_PHASES)))) ∧
    Only [Reg.GEN_VFE_STATUS_CLAMPED, Reg.GEN_VFE_STATUS_RAMP] s t { s with regs := t.regs, sys := t.sys }) ∧
  (∀ u s, s.flt.under = some u → s.flt.preempted = [] → s.flt.queue = [] → s.flt.fifo.length < 64 →
    Does .faultHandlingEnd s fun t => t.flt.under = none ∧ t.flt.fifo = s.flt.fifo ++ [u] ∧ t.get Reg.GEN_INT_FAULT = 1 ∧
      t.get Reg.GEN_FAULT_STATUS_SEV = 0 ∧ (3 ≤ u.sev → t.get Reg.GEN_INT_SEV34 = 1) ∧
      Only [Reg.GEN_INT_FAULT, Reg.GEN_INT_SEV34, Reg.GEN_FAULT_STATUS_CODE, Reg.GEN_FAULT_STATUS_SEV,
        Reg.GEN_FAULT_STATUS_QLEVEL, Reg.GEN_FAULT_STATUS_NEST] s t { s with regs := t.regs, flt := t.flt }) ∧
  (∀ s, s.responds 0x118 = true →
    Does .genFaultAck s fun t => t = { s with sys := { s.sys with faultLow := t.sys.faultLow } } ∧
      (t.sys.faultLow = true ↔ s.sys.faultLow = true ∧
        ∃ r ∈ s.flt.under.toList ++ s.flt.preempted ++ s.flt.queue, 3 ≤ r.sev)) ∧
  (∀ s, s.responds 0x104 = true → Does .faultRecordSnapshot s fun t =>
    (∀ r ∈ s.flt.fifo.head?, t.get Reg.GEN_FAULT_DT_DT = r.dt % 2 ^ 64 ∧ t.get Reg.GEN_FAULT_INFO_CODE = r.code % 256 ∧
      t.get Reg.GEN_FAULT_INFO_SEV = r.sev % 8 ∧ t.get Reg.GEN_FAULT_INFO_SRC = r.src % 4096 ∧ t.get Reg.GEN_FAULT_INFO_VALID = 1) ∧
    (s.flt.fifo = [] → t.get Reg.GEN_FAULT_INFO_VALID = 0) ∧ t.rdata = [((s.flt.fifo.head?.map (·.dt)).getD 0) % 2 ^ 32] ∧
    Only [Reg.GEN_FAULT_DT_DT, Reg.GEN_FAULT_INFO_CODE, Reg.GEN_FAULT_INFO_SEV, Reg.GEN_FAULT_INFO_SRC,
      Reg.GEN_FAULT_INFO_REPEAT, Reg.GEN_FAULT_INFO_VALID] s t { s with regs := t.regs, rdata := t.rdata }) ∧
  (∀ s, s.responds 0x10C = true → let v := s.get Reg.GEN_FAULT_INFO_CODE + s.get Reg.GEN_FAULT_INFO_SEV * 2 ^ 8 + s.get Reg.GEN_FAULT_INFO_SRC * 2 ^ 12 + s.get Reg.GEN_FAULT_INFO_REPEAT * 2 ^ 24 + s.get Reg.GEN_FAULT_INFO_VALID * 2 ^ 31
    (s.get Reg.GEN_FAULT_INFO_VALID = 1 → Does .faultRecordRemove s fun t =>
      t.rdata = [v] ∧ t.flt = { s.flt with fifo := s.flt.fifo.tail } ∧ t.get Reg.GEN_FAULT_INFO_VALID = 0 ∧
      Only [Reg.GEN_FAULT_INFO_VALID] s t { s with regs := t.regs, flt := t.flt, rdata := t.rdata }) ∧
    (s.get Reg.GEN_FAULT_INFO_VALID = 0 → Does .faultRecordRemove s fun t => t = { s with rdata := [v] })) ∧
  (∀ (core hs : Nat) (s : State), core < 4 → 1 ≤ hs → hs ≤ 3 → s.lampRuns = true → s.coreState core = 0 → 3 ≤ s.voters.length →
    3 ≤ ((s.cores.getD core {}).resyncs.filter fun t => decide (s.dtRef < t + 250000000)).length →
    Does (.coreDisagree core hs) s fun t => t.coreState core = 3 ∧ t.get Reg.GEN_INT_RETIRED = 1 ∧ t.recorded 0xD core = true ∧
      (([0, 1, 2, 3].any fun k => s.coreState k == 1) = true → t.get Reg.LIF_STATUS_MODE = 1 ∧ t.get Reg.GEN_INT_RESYNC = 1) ∧
      (([0, 1, 2, 3].any fun k => s.coreState k == 1) = false → t.get Reg.LIF_STATUS_MODE = 2)) ∧
  (∀ (core hs : Nat) (s : State), core < 4 → 1 ≤ hs → hs ≤ 3 → s.lampRuns = true → s.coreState core = 0 → s.voters.length < 3 →
    Does (.coreDisagree core hs) s fun t => t.get Reg.BOOT_LAST_FCODE = 3 ∧ t.get Reg.BOOT_LAST_KIND = 5 ∧ t.sys.phase = .reset ∧ WasReset true s t) ∧
  (∀ (slave ptr : Nat) (s : State), let a := 0x48 + s.sys.i2cStrap % 4
    (slave = a → s.sys.phase ≠ .dead → Rail.vaux ∈ s.sys.rails → Rail.vio ∈ s.sys.rails → Does (.i2cPointerWrite slave ptr) s fun t => t = { s with sys := { s.sys with i2cPtr := ptr % 65536 } }) ∧
    (slave ≠ a → Does (.i2cPointerWrite slave ptr) s fun t => t = s)) ∧
  (∀ (slave n : Nat) (s : State), let p := s.sys.i2cPtr
    slave = 0x48 + s.sys.i2cStrap % 4 → s.sys.phase ≠ .dead → Rail.vaux ∈ s.sys.rails → Rail.vio ∈ s.sys.rails →
    (Does (.i2cRegisterRead slave n) s fun t => t.rdata.length = n ∧ (p < 65536 → t.sys.i2cPtr = (p + 4 * n) % 65536) ∧ t.mem = s.mem ∧ t.store = s.store ∧ t.dtRef = s.dtRef) ∧
    (Does (.i2cRegisterRead slave 1) s fun t =>
      (p < 0x100 → t.rdata = [s.readWord (0x10000 + p / 4 * 4)]) ∧
      (0x100 ≤ p → p < 0x200 → p / 4 ≠ 0x41 → s.inReset = false → t.rdata = [s.readWord (p / 4 * 4)]) ∧
      (p / 4 = 0x41 → s.inReset = false → t.rdata = [((s.flt.fifo.head?.map (·.dt)).getD 0) % 2 ^ 32]) ∧
      (0x200 ≤ p → p < 0x300 → s.inReset = false → t.rdata = [s.readWord (0x20000 + (p / 4 * 4 - 0x200))]) ∧
      (0x100 ≤ p → p < 0x300 → s.inReset = true → t.rdata = [0]) ∧ (0x300 ≤ p → t.rdata = [0]) ∧
      Only [Reg.GEN_FAULT_DT_DT, Reg.GEN_FAULT_INFO_CODE, Reg.GEN_FAULT_INFO_SEV, Reg.GEN_FAULT_INFO_SRC, Reg.GEN_FAULT_INFO_REPEAT, Reg.GEN_FAULT_INFO_VALID] s t
        { s with regs := t.regs, rdata := t.rdata, sys := { s.sys with i2cPtr := (p + 4) % 65536 }, flt := t.flt } ∧
      (p / 4 ≠ 0x41 → p / 4 ≠ 0x43 → t.regs = s.regs ∧ t.flt = s.flt)))

/-- k(V,T), the VFE regulator and restart by command: Each evaluation runs at a whole millisecond of DT and stores what was measured
and the k of R535; a write of GEN_VFE moves the regulator to the limited set-point; the ramp ends; a phase that fails lowers the phase
count and the limit, and with 9 left is a failed rail; the fault counters clear; and RESTART and PILOT are guarded writes that wait
for their entries, PILOT for Service alone. -/
def Obligations.SupplyAndTemperature : Prop :=
  (∀ meas tj tjc pwr v s, tj.length = 4 → s.sys.vfe = some v → Does (.kvtEvaluation meas tj tjc pwr) s fun t =>
    t.dtRef = max s.dtRef (ceilDiv (s.dtRef + 1) 250000 * 250000) % 2 ^ 64 ∧ t.get Reg.GEN_PWR_MW10 = trunc Reg.GEN_PWR_MW10.width pwr ∧
    t.get Reg.GEN_VFE_STATUS_MEAS = trunc Reg.GEN_VFE_STATUS_MEAS.width meas ∧
    (s.sys.vfeOld = none → t.get Reg.GEN_KVT_K = trunc Reg.GEN_KVT_K.width (kOf meas (hottest tj))) ∧
    (∀ o ∈ s.sys.vfeOld, t.get Reg.GEN_KVT_K = trunc Reg.GEN_KVT_K.width (max (kOf o (hottest tj)) (kOf v (hottest tj)))) ∧
    t.get Reg.GEN_TJ_TEMP 1 = ofInt 16 (tj.getD 1 0) ∧ t.get Reg.GEN_TJ4_TEMP = ofInt 16 tjc ∧
    (s.sys.phase = .running → t.svc.swing = (s.svc.swing.next (hottest (tjc :: tj))).1 ∧ t.svc.wear.swings = s.svc.wear.swings + (s.svc.swing.next (hottest (tjc :: tj))).2) ∧
    Only ([Reg.GEN_TJ_TEMP, Reg.GEN_TJ4_TEMP, Reg.GEN_PWR_MW10, Reg.GEN_VFE_STATUS_MEAS, Reg.GEN_KVT_K, Reg.GEN_CLAMP_TILE,
      Reg.GEN_INT_CLAMP, Reg.GEN_WEAR_VAL_VAL, Reg.GEN_SVC_INT_WEAR] ++ auditFields ++ timeFields) s t
      { s with regs := t.regs, dtRef := t.dtRef, sys := t.sys, svc := t.svc, aud := t.aud, store := t.store }) ∧
  (∀ v s, s.responds 0x400 = true → s.sys.phase = .running → Does (.vfeSet v) s fun t => t.get Reg.GEN_VFE_SET = v % 256 ∧
    (s.sys.hot = false → s.sys.vfe.isSome → t.sys.vfe = some (min (v % 256) (vfeLimit (s.get Reg.GEN_VFE_STATUS_PHASES)))) ∧
    Only [Reg.GEN_VFE_SET, Reg.GEN_VFE_STATUS_CLAMPED, Reg.GEN_VFE_STATUS_RAMP] s t { s with regs := t.regs, sys := t.sys }) ∧
  (∀ v s, s.sys.vfe = some v → (s.get Reg.GEN_VFE_STATUS_RAMP = 1 → Does .vfeRampEnd s fun t => t.get Reg.GEN_VFE_STATUS_RAMP = 0 ∧
      t.dtRef = max s.dtRef (s.sys.rampAt + 250 * (max v s.sys.rampFrom - min v s.sys.rampFrom)) % 2 ^ 64 ∧
      Only (Reg.GEN_VFE_STATUS_RAMP :: timeFields) s t { s with regs := t.regs, dtRef := t.dtRef }) ∧
    (s.get Reg.GEN_VFE_STATUS_RAMP = 0 → Does .vfeRampEnd s fun t => t = s)) ∧
  (∀ phase v s, phase < 14 → s.sys.vfe = some v → s.get Reg.GEN_VFE_STATUS_PHASES = 11 → s.sys.hot = false →
    Does (.vfePhaseSwap phase) s fun t => t.get Reg.GEN_VFE_STATUS_PHASES = 10 ∧ t.sys.vfe = some (min (s.get Reg.GEN_VFE_SET) 50) ∧
      t.get Reg.GEN_SVC_INT_SPARE_LOW = 1 ∧ t.recorded 8 phase = true ∧
      Only ([Reg.GEN_VFE_STATUS_PHASES, Reg.GEN_VFE_STATUS_CLAMPED, Reg.GEN_VFE_STATUS_RAMP, Reg.GEN_SVC_INT_SPARE_LOW] ++ auditFields)
        s t { s with regs := t.regs, sys := t.sys, aud := t.aud, store := t.store }) ∧
  (∀ phase v s, phase < 14 → s.sys.vfe = some v → s.get Reg.GEN_VFE_STATUS_PHASES = 10 → s.sys.phase = .running →
    Does (.vfePhaseSwap phase) s fun t => t.get Reg.BOOT_RAIL_RAIL = 8 ∧ t.get Reg.BOOT_RAIL_RUN = 1 ∧
      t.get Reg.BOOT_LAST_FCODE = 1 ∧ t.get Reg.BOOT_LAST_KIND = 5 ∧ t.sys.phase = .reset) ∧
  (∀ s, s.responds 0x148 = true → Does .genCntClr s fun t => t.get Reg.GEN_FAULT_RECLOST_COUNT = 0 ∧ t.get Reg.GEN_FAULT_BUSY_COUNT = 0 ∧
    t.get Reg.LIF_RESYNC_COUNT = 0 ∧ RegsOnly [Reg.GEN_FAULT_RECLOST_COUNT, Reg.GEN_FAULT_BUSY_COUNT, Reg.LIF_RESYNC_COUNT] s t) ∧
  (∀ s, s.responds 0x10020 = true → s.role = 4 → s.sessionLive → s.aud.queue.length < 32 →
    (Does .bootRestart s (Waits 1 0x10020 0 1 1 0 s)) ∧ (Does .bootPilot s (Waits 1 0x10020 0 2 2 0 s))) ∧
  (∀ s, s.responds 0x10020 = true → s.role = 1 → s.sessionLive → s.aud.queue.length < 32 →
    (Does .bootRestart s (Waits 1 0x10020 0 1 1 0 s)) ∧ (Does .bootPilot s (RefusedWrite 1 1 0x10020 0 2 s)))

/-- From a leading edge to a timed hit: A discriminator fires where the charge reaches its threshold or the threshold lies below 0; an
edge that the arbiter grants at once starts the flame of the lowest free position, and without one is counted lost; the flame stops at
the second following edge, and its count gives the leading time, or a poisoned hit and an owed calibration outside 496 to 1,040 bins;
at the sixth edge the hit moves to a word slot; the trailing edge and the saturated ToT are stamped into the hit. -/
def Obligations.HitTiming : Prop :=
  (∀ (tile sconce sub i f : Nat) (q : Charge) (s : State), let p := q.pix
    let w := (s.pixel (scPix tile sconce p)).word
    let h : Int := (20 * (s.get Reg.TIL_THR_THR tile : Int) + 2 ^ (s.get Reg.TIL_THR_TRIMSTEP tile + 1) * ((bits w 18 6 : Int) - 32)) * 2 ^ bits w 28 2
    tile < 4 → sconce < 4096 → p < 64 → sub < 8000 → s.gated tile = false → s.colOff tile (sconce % 64) = false →
    w.testBit 31 = false → s.blankOf tile sconce p = none → s.flag Reg.TIL_FRM_CTRL_MODE tile = false → q.pulse = false →
    ((h < 0 ∨ h ≤ (if w.testBit 27 then q.e else -q.e)) → (s.sconce tile sconce).holds p = false → (s.sconce tile sconce).arbFree ≤ 8000 * s.dtRef + sub →
      (s.sconce tile sconce).freePos = some i → (s.sconce tile sconce).pos.getD i none = some f →
      Does (.discriminatorRise tile sconce [q] sub) s fun t =>
        let x := s.sconce tile sconce
        t = s.setSconce tile sconce ({ x with arb := arbTurn x.arb p, arbFree := 8000 * s.dtRef + sub + 160 }.setFlame f
          { x.flame f with run := some { pix := p, start := s.tileTime sub / 8000, toff := toInt 8 (bits w 10 8),
                                         tp := s.tpFlag tile w (8000 * s.dtRef + sub), cont := false } })) ∧
    ((h < 0 ∨ h ≤ (if w.testBit 27 then q.e else -q.e)) → (s.sconce tile sconce).holds p = false → (s.sconce tile sconce).arbFree ≤ 8000 * s.dtRef + sub →
      (s.sconce tile sconce).freePos = none → Does (.discriminatorRise tile sconce [q] sub) s fun t =>
        t.get Reg.TIL_LOST_COUNT tile = min (2 ^ 32 - 1) (s.get Reg.TIL_LOST_COUNT tile + 1) ∧ (t.sconce tile sconce).arb = (s.sconce tile sconce).arb ∧
        (t.sconce tile sconce).arbFree = (s.sconce tile sconce).arbFree ∧ (t.sconce tile sconce).fl = (s.sconce tile sconce).fl) ∧
    (0 ≤ h → (if w.testBit 27 then q.e else -q.e) < h → Does (.discriminatorRise tile sconce [q] sub) s fun t => t = s)) ∧
  (∀ tile sconce flame n h s, tile < 4 → sconce < 4096 → ((s.sconce tile sconce).flame flame).run = some h → h.lead = none →
    Does (.flameStop tile sconce flame n) s fun t =>
      let f := (s.sconce tile sconce).flame flame
      let i := interval n (s.coefOf tile sconce flame)
      let v := 1024 - i + 2 * h.toff
      t = (s.advanceTo (s.tileEdge (h.start + 2))).setSconce tile sconce ((s.sconce tile sconce).setFlame flame
        { f with
          run := some { h with
            lead := some (512 * (h.start + (if v < 0 then -1 else if 512 ≤ v then 1 else 0)) + v % 512), poison := decide (i < 496 ∨ 1040 < i) }
          owed := f.owed || decide (i < 496 ∨ 1040 < i) })) ∧
  (∀ tile sconce flame h s, tile < 4 → sconce < 4096 → ((s.sconce tile sconce).flame flame).run = some h → h.lead.isSome →
    (s.sconce tile sconce).wait.length + (s.sconce tile sconce).ready.length < 8 → h.fall = none →
    (∀ w ∈ (s.sconce tile sconce).wait, w.lead = none ∨ w.fall = none) →
    Does (.flameHandoff tile sconce flame) s fun t =>
      let x := s.sconce tile sconce
      t = (s.advanceTo (s.tileEdge (h.start + 6))).setSconce tile sconce
        ({ x with wait := x.wait ++ [h] }.setFlame flame { x.flame flame with run := none })) ∧
  (∀ tile sconce pix sub h l s, tile < 4 → sconce < 4096 → (s.sconce tile sconce).wait = [h] → h.pix = pix → h.lead = some l → h.fall = none →
    (∀ f ∈ (s.sconce tile sconce).fl, f.run = none) → (s.sconce tile sconce).fl = (s.sconce tile sconce).fl.map (fun f => { f with run := none }) →
    Does (.discriminatorFall tile sconce pix sub) s fun t =>
      let x := s.sconce tile sconce
      t = s.setSconce tile sconce { x with wait := [], ready := x.ready ++
        (({ h with fall := some (s.tileTime sub) } : Hit).form tile sconce).toList }) ∧
  (∀ tile sconce pix h l s, tile < 4 → sconce < 4096 →
    ((s.sconce tile sconce).wait ++ (s.sconce tile sconce).fl.filterMap (·.run)).find? (fun h => h.pix == pix && h.fall.isNone) = some h →
    h.lead = some l → Does (.totSaturate tile sconce pix) s fun t =>
      let due := ((125 * l + 8 * 1023 * 2000 + 7) / 8).toNat
      t = (s.advanceTo ((due + s.get Reg.TIM_TILE_LAT_LAT) / 8000)).setSconce tile sconce
        (((s.sconce tile sconce).onHit pix fun h =>
          if h.fall.isSome then h else { h with fall := some due }).formWords tile sconce))

/-- The hit word: A hit with its leading time and trailing stamp known becomes one word with the fields of R60: its place, the coarse
count and fine bin of its leading time, ToT as the whole ns between the two (0 where the trailing stamp lies before the leading time:
the model's own choice, log entry 162), or 1,023 with SAT where the discriminator was still high 1,023 ns after the leading time, the
epoch bit, CONT and TP. -/
def Obligations.HitWordFields : Prop :=
  ∀ (tile sconce : Nat) (h : Hit) (l e : Nat), tile < 4 → sconce < 4096 → h.pix < 64 → h.lead = some (l : Int) → h.fall = some e →
    ∃ r, h.form tile sconce = some r ∧ r.pix = h.pix ∧ r.word.poison = h.poison ∧ r.word.loss = false ∧ r.word.data < 2 ^ 64 ∧
      bits r.word.data 62 2 = tile ∧ bits r.word.data 53 9 = scRow sconce h.pix ∧ bits r.word.data 44 9 = scCol sconce h.pix ∧
      bits r.word.data 23 21 = l / 512 % 2 ^ 21 ∧ bits r.word.data 14 9 = l % 512 ∧ bits r.word.data 4 10 = (if 125 * l + 8 * 1023 * 2000 ≤ 8 * e then 1023 else min 1023 (e / 2000 - l / 128)) ∧
      bits r.word.data 3 1 = l / 512 / 2 ^ 21 % 2 ∧ r.word.data.testBit 2 = h.cont ∧ r.word.data.testBit 1 = decide (125 * l + 8 * 1023 * 2000 ≤ 8 * e) ∧
      r.word.data.testBit 0 = h.tp

/-- Loss episodes and reconfiguration blanks: An open episode closes into its output register with its length and count: kind 1 with a
flame free, kind 2 with every pixel of it released, kind 3 at an epoch boundary, where a sconce without a working flame opens the
next; a blank that ends with the discriminators open leaves a loss word of kind 4 over its 500 ref; and the length code of a loss word
never falls short of the length it stands for. -/
def Obligations.LossWords : Prop :=
  (∀ tile sconce i f n s, tile < 4 → sconce < 4096 → (s.sconce tile sconce).freePos = some i → ((s.sconce tile sconce).lossReg 1).open_ = some (f, n) →
    ((s.sconce tile sconce).lossReg 1).out = none → Does (.lossEpisodeClose tile sconce 1) s fun t => let u := s.advanceTo (f + 1)
      t = u.setSconce tile sconce ((s.sconce tile sconce).setLoss 1
        { (s.sconce tile sconce).lossReg 1 with open_ := none, pix := [], out := some (f, max 1 (u.dtRef - f), n) })) ∧
  (∀ tile sconce f n s, tile < 4 → sconce < 4096 → ((s.sconce tile sconce).lossReg 2).open_ = some (f, n) → ((s.sconce tile sconce).lossReg 2).out = none →
    ((((s.sconce tile sconce).lossReg 2).pix.all fun p => !(s.sconce tile sconce).holds p) = true → Does (.lossEpisodeClose tile sconce 2) s fun t => let u := s.advanceTo (f + 1)
      t = u.setSconce tile sconce ((s.sconce tile sconce).setLoss 2
        { (s.sconce tile sconce).lossReg 2 with open_ := none, pix := [], out := some (f, max 1 (u.dtRef - f), n) })) ∧
    ((((s.sconce tile sconce).lossReg 2).pix.all fun p => !(s.sconce tile sconce).holds p) = false → Does (.lossEpisodeClose tile sconce 2) s fun t => t = s)) ∧
  (∀ tile sconce f n s, tile < 4 → sconce < 4096 → ((s.sconce tile sconce).lossReg 3).open_ = some (f, n) → ((s.sconce tile sconce).lossReg 3).out = none → f < s.dtRef → s.dtRef % 2 ^ 21 = 0 →
    (s.sconce tile sconce).loss.length = 4 →
    ((s.sconce tile sconce).dead = false → Does (.lossEpisodeClose tile sconce 3) s fun t => t = s.setSconce tile sconce ((s.sconce tile sconce).setLoss 3
        { (s.sconce tile sconce).lossReg 3 with open_ := none, pix := [], out := some (f, max 1 (s.dtRef - f), n) })) ∧
    ((s.sconce tile sconce).dead = true → s.gated tile = false → s.flag Reg.TIL_FRM_CTRL_MODE tile = false → Does (.lossEpisodeClose tile sconce 3) s fun t =>
      t = s.setSconce tile sconce ((s.sconce tile sconce).setLoss 3
        { (s.sconce tile sconce).lossReg 3 with open_ := some (s.dtRef + 1, 0), pix := [], out := some (f, max 1 (s.dtRef - f), n) }))) ∧
  (∀ tile sconce b l s, tile < 4 → sconce < 4096 → (s.blanksOf tile sconce).head? = some (b, l) → s.gated tile = false →
    (s.sconce tile sconce).loss.length = 4 → (s.sconce tile sconce).lossReg 4 = {} →
    Does (.reconfigBlankEnd tile sconce) s fun t => t.dtRef = max s.dtRef (b + 500) % 2 ^ 64 ∧
      ((t.sconce tile sconce).lossReg 4).out = some (b, 500, (((s.sconce tile sconce).blankCnt.find? fun e => e.1 == b).map (·.2)).getD 0) ∧
      (t.sconce tile sconce).blankDone = b + 1 ∧
      Only timeFields s t { s with regs := t.regs, dtRef := t.dtRef, til := { s.til with sc := t.til.sc } }) ∧
  (∀ n, n ≤ lossMax → n ≤ lossSpan (lossLen n) ∧ lossLen n < 4096 ∧ lossSpan (lossLen n) < n + 2 ^ 15)

/-- The calibration rota and the first calibration: A due step is counted and the next set an interval on; TIL_ROTA sets INTERVAL and
DRIFT, and FORCE adds a step; a flame owed a calibration goes offline with R in its place; a calibration within the limits stores
PERIOD and OFFSET, and the flame takes its empty position back; the first calibration starts after EN and its end makes CAL_VALID
rise. -/
def Obligations.CalibrationRota : Prop :=
  (∀ tile d s, tile < 4 → (s.tile tile).rotaNext = some d → Does (.rotaStepDue tile) s fun t =>
    t = (s.advanceTo d).setTile tile { s.tile tile with
      rotaLast := d, rotaNext := some (d + (s.advanceTo d).get Reg.TIL_ROTA_INTERVAL tile * 1024), rotaDue := (s.tile tile).rotaDue + 1 }) ∧
  (∀ tile val s, tile < 4 → val.testBit 16 = true → s.responds (0x60014 + 0x1000 * tile) = true → Does (.rotaForce tile val) s fun t =>
    t.get Reg.TIL_ROTA_INTERVAL tile = val % 65536 ∧ t.get Reg.TIL_ROTA_DRIFT tile = val / 2 ^ 20 % 16 ∧
    (tile < s.til.t.length → (t.tile tile).rotaDue = (s.tile tile).rotaDue + 1) ∧
    Only [Reg.TIL_ROTA_INTERVAL, Reg.TIL_ROTA_DRIFT] s t { s with regs := t.regs, til := { s.til with t := t.til.t } }) ∧
  (∀ tile val s, tile < 4 → val.testBit 16 = false → s.responds (0x60014 + 0x1000 * tile) = true → Does (.rotaIntervalWrite tile val) s fun t =>
    t.get Reg.TIL_ROTA_INTERVAL tile = val % 65536 ∧ t.get Reg.TIL_ROTA_DRIFT tile = val / 2 ^ 20 % 16 ∧
    (t.tile tile).rotaDue = (s.tile tile).rotaDue ∧
    (tile < s.til.t.length → val % 65536 = 0 → s.get Reg.TIL_ROTA_INTERVAL tile ≠ 0 → (t.tile tile).rotaNext = none) ∧
    Only [Reg.TIL_ROTA_INTERVAL, Reg.TIL_ROTA_DRIFT] s t { s with regs := t.regs, til := { s.til with t := t.til.t } }) ∧
  (∀ tile sconce flame s, tile < 4 → sconce < 4096 → flame < 4 → ((s.sconce tile sconce).flame flame).owed = true →
    ((s.sconce tile sconce).flame flame).run = none → ((s.sconce tile sconce).flame flame).st = .active →
    (s.sconce tile sconce).rHome = none → ((s.sconce tile sconce).flame 4).st = .standby →
    Does (.flameOffline tile sconce flame) s fun t =>
      t = s.setSconce tile sconce (((s.sconce tile sconce).startCal flame s.dtRef).rCover flame)) ∧
  (∀ tile sconce flame n1 n2 e s, tile < 4 → sconce < 4096 → flame < 4 → ((s.sconce tile sconce).flame flame).cal = some e →
    n1 + 3200 ≤ n2 → n2 ≤ n1 + 5120 → n2 ≤ 2 * n1 → 2 * n1 ≤ n2 + 768 → s.get Reg.TIL_ROTA_DRIFT tile = 0 →
    Does (.flameCalibrationEnd tile sconce flame n1 n2) s fun t =>
      t = (s.advanceTo (e + 96)).setSconce tile sconce ((s.sconce tile sconce).setFlame flame
        { (s.sconce tile sconce).flame flame with coef := some (n2 - n1, 2 * n1 - n2), fails := 0, cal := none, passed := true })) ∧
  (∀ tile sconce flame n1 n2 e s, tile < 4 → sconce < 4096 → ((s.sconce tile sconce).flame flame).cal = some e →
    n2 < n1 + 3200 → ((s.sconce tile sconce).flame flame).fails = 0 →
    Does (.flameCalibrationEnd tile sconce flame n1 n2) s fun t =>
      t = (s.advanceTo (e + 96)).setSconce tile sconce ((s.sconce tile sconce).setFlame flame
        { (s.sconce tile sconce).flame flame with fails := 1, cal := some (s.advanceTo (e + 96)).dtRef })) ∧
  (∀ tile sconce flame s, tile < 4 → sconce < 4096 → flame < 4 → ((s.sconce tile sconce).flame flame).passed = true →
    (s.sconce tile sconce).pos.getD flame none = none → Does (.flameReturn tile sconce flame) s fun t =>
      t = s.setSconce tile sconce (((s.sconce tile sconce).setFlame flame
        { (s.sconce tile sconce).flame flame with st := .active, passed := false }).setPos flame (some flame))) ∧
  (∀ tile d s, tile < 4 → (s.tile tile).firstDue = some d → s.flag Reg.TIL_CTRL_EN tile = true → Does (.firstCalibrationStart tile) s fun t => let u := s.advanceTo d
    t = (u.setTile tile { s.tile tile with firstDue := none, firstCal := some u.dtRef }).put Reg.TIL_STATUS_CAL_VALID 0 tile) ∧
  (∀ tile n1 n2 e s, tile < 4 → (s.tile tile).firstCal = some e → n1 + 3200 ≤ n2 → n2 ≤ n1 + 5120 → n2 ≤ 2 * n1 → 2 * n1 ≤ n2 + 768 →
    s.unitsOut 1 = [] → s.get Reg.TIL_ROTA_DRIFT tile = 0 → s.ownCoefs tile = [] → Does (.firstCalibrationEnd tile n1 n2 [] []) s fun t => t.get Reg.TIL_STATUS_CAL_VALID tile = 1 ∧
      t.dtRef = max s.dtRef (e + 96) % 2 ^ 64 ∧
      (tile < s.til.t.length → (t.tile tile).coef = (n2 - n1, 2 * n1 - n2) ∧ (t.tile tile).firstCal = none ∧ (t.tile tile).rotaDue = 0) ∧
      Only (Reg.TIL_STATUS_CAL_VALID :: timeFields) s t { s with regs := t.regs, dtRef := t.dtRef, til := { s.til with t := t.til.t, sc := t.til.sc } }) ∧
  (∀ tile n1 n2 c f m1 m2 e s, tile < 4 → c < 4096 → f < 5 → (s.tile tile).firstCal = some e → n1 + 3200 ≤ n2 → n2 ≤ n1 + 5120 → n2 ≤ 2 * n1 → 2 * n1 ≤ n2 + 768 →
    m2 < m1 + 3200 → s.unitsOut 1 = [] → s.get Reg.TIL_ROTA_DRIFT tile = 0 → s.ownCoefs tile = [] → ((s.sconce tile c).flame f).st ≠ .failed →
    Does (.firstCalibrationEnd tile n1 n2 [(c, f, (m1, m2), (n1, n2))] []) s fun t => t.get Reg.TIL_STATUS_CAL_VALID tile = 1 ∧
      t.dtRef = max s.dtRef (e + 192) % 2 ^ 64 ∧ (tile < s.til.t.length → (t.tile tile).firstCal = none) ∧ t.coefOf tile c f = (n2 - n1, 2 * n1 - n2) ∧ ((t.sconce tile c).flame f).st ≠ .failed)

/-- TIL_CTRL, test pulses, the scrubber and the failure FIFO: EN rises and falls and the front ends power up by TIL_CTRL; a pulse
train starts 64 ref after the write, injects 40 electrons for each step of TP_AMP at each due edge while armed, and stops; the
scrubber repairs one copy of three and masks a pixel whose three copies differ; TIL_CNT_CLR clears the tile counters; a read of
TIL_FAIL_FIFO removes its oldest event. -/
def Obligations.TileControl : Prop :=
  (∀ tile val s, tile < 4 → val.testBit 0 = true → s.responds (0x60000 + 0x1000 * tile) = true → s.flag Reg.TIL_CTRL_EN tile = false →
    s.flag Reg.TIL_FRM_CTRL_MODE tile = false → (s.topo.port.getD tile 0).testBit 0 = true → tile ∉ s.sys.viaDead → (s.bnd tile).owed = false →
    Does (.tileEnable tile val) s fun t => t.get Reg.TIL_CTRL_EN tile = 1 ∧ t.get Reg.TIL_CTRL_FE_ON tile = bits val 1 1 ∧
      t.get Reg.TIL_CTRL_TP_ARM tile = bits val 2 1 ∧
      (tile < s.til.t.length → t.tile tile = { s.tile tile with firstDue := some (s.dtRef + 1), openTill := (t.tile tile).openTill, openFrom := (t.tile tile).openFrom }) ∧
      Only [Reg.TIL_CTRL_EN, Reg.TIL_CTRL_FE_ON, Reg.TIL_STATUS_FE_READY, Reg.TIL_CTRL_TP_ARM] s t { s with regs := t.regs, til := { s.til with t := t.til.t }, frm := (s.accrue s.dtRef).frm }) ∧
  (∀ tile val s, tile < 4 → val.testBit 0 = false → s.responds (0x60000 + 0x1000 * tile) = true → s.flag Reg.TIL_CTRL_EN tile = true →
    s.get Reg.TIL_BND_STATUS_STATE tile ≠ 3 → Does (.tileDisable tile val) s fun t => t.get Reg.TIL_CTRL_EN tile = 0 ∧
      t.get Reg.TIL_CTRL_FE_ON tile = s.get Reg.TIL_CTRL_FE_ON tile ∧ t.get Reg.TIL_CTRL_TP_ARM tile = bits val 2 1 ∧
      (tile < s.til.t.length → t.tile tile = { s.tile tile with firstDue := none, openTill := (t.tile tile).openTill, openFrom := (t.tile tile).openFrom }) ∧
      (tile < s.til.t.length → s.gated tile = false → s.get Reg.TIL_CTRL_FE_ON tile = 1 → (t.tile tile).openTill = s.dtRef + 1) ∧
      Only [Reg.TIL_CTRL_EN, Reg.TIL_INT_REFUSED, Reg.TIL_STATUS_FE_READY, Reg.TIL_CTRL_TP_ARM] s t { s with regs := t.regs, til := { s.til with t := t.til.t }, frm := (s.accrue s.dtRef).frm }) ∧
  (∀ tile val s, tile < 4 → val.testBit 0 = false → s.responds (0x60000 + 0x1000 * tile) = true → s.flag Reg.TIL_CTRL_EN tile = false →
    s.get Reg.TIL_BND_STATUS_STATE tile ≠ 3 → Does (.fePowerWrite tile val) s fun t => t.get Reg.TIL_CTRL_FE_ON tile = bits val 1 1 ∧
      (val.testBit 1 = false → t.get Reg.TIL_STATUS_FE_READY tile = 0) ∧
      t.get Reg.TIL_CTRL_TP_ARM tile = bits val 2 1 ∧ t.xp = s.xp ∧
      Only [Reg.TIL_CTRL_FE_ON, Reg.TIL_STATUS_FE_READY, Reg.TIL_CTRL_TP_ARM] s t { s with regs := t.regs, til := { s.til with t := t.til.t } }) ∧
  (∀ tile s, tile < 4 → s.flag Reg.TIL_CTRL_FE_ON tile = true → Does (.feReady tile) s fun t =>
    t.get Reg.TIL_STATUS_FE_READY tile = 1 ∧ Only [Reg.TIL_STATUS_FE_READY] s t { s with regs := t.regs, til := { s.til with t := t.til.t } }) ∧
  (∀ tile val s, tile < 4 → val % 65536 ≠ 0 → s.responds (0x60010 + 0x1000 * tile) = true → Does (.tpTrainStart tile val) s fun t =>
    t = s.setTile tile { s.tile tile with train := some { left := val % 65536, period := max 64 (val / 65536 % 65536), next := s.dtRef + 64 } }) ∧
  (∀ tile val s, tile < 4 → val % 65536 = 0 → s.responds (0x60010 + 0x1000 * tile) = true → Does (.tpTrainStop tile val) s fun t =>
    t = s.setTile tile { s.tile tile with train := none }) ∧
  (∀ tile r s, tile < 4 → (s.tile tile).train = some r → s.get Reg.TIL_CTRL_TP_ARM tile < 2 → Does (.testPulseInject tile) s fun t =>
    t = (s.advanceTo r.next).setTile tile { s.tile tile with
      train := if r.left ≤ 1 then none else some { r with left := r.left - 1, next := r.next + r.period }
      inj := if s.get Reg.TIL_CTRL_TP_ARM tile = 1 then
          { edge := max s.dtRef r.next % 2 ^ 64, bins := s.get Reg.TIL_TP_TP_FDELAY tile, charge := 40 * s.get Reg.TIL_TP_TP_AMP tile } :: (s.tile tile).inj.take 1
        else (s.tile tile).inj }) ∧
  (∀ (tile row col a copy v : Nat) (s : State), tile < 4 → row < 512 → col < 512 → copy < 6 → v < 2 ^ 32 → v ≠ 0 → (s.pixel (pixKey tile row col)).act = [a, a, a] →
    (∃ x ∈ (s.pixel (pixKey tile row col)).shd, (s.pixel (pixKey tile row col)).shd = [x, x, x]) →
    Does (.pixelScrubVisit tile row col [⟨row, col, copy, v⟩]) s fun t => t.dtRef = (s.dtRef + (row * 512 + col + 262144 - s.dtRef % 262144) % 262144) % 2 ^ 64 ∧ t.pixel (pixKey tile row col) = s.pixel (pixKey tile row col) ∧
      (s.get Reg.TIL_SEU_CORR tile + 1 < 2 ^ Reg.TIL_SEU_CORR.width - 1 → t.get Reg.TIL_SEU_CORR tile = s.get Reg.TIL_SEU_CORR tile + 1) ∧
      Only (Reg.TIL_SEU_CORR :: Reg.TIL_INT_CNT_SAT :: timeFields) s t { s with regs := t.regs, dtRef := t.dtRef, til := { s.til with pix := t.til.pix } }) ∧
  (∀ tile row col a b c s, tile < 4 → row < 512 → col < 512 → (s.pixel (pixKey tile row col)).act = [a, b, c] → a ≠ b → a ≠ c → b ≠ c →
    (∃ x ∈ (s.pixel (pixKey tile row col)).shd, (s.pixel (pixKey tile row col)).shd = [x, x, x]) →
    Does (.pixelScrubVisit tile row col []) s fun t =>
      (t.pixel (pixKey tile row col)).act = List.replicate 3 (Nat.lor (vote [a, b, c]) 0x80000000) ∧
      t.get Reg.TIL_INT_SEU_UNCORR tile = 1) ∧
  (∀ tile s, tile < 4 → s.responds (0x6003C + 0x1000 * tile) = true → Does (.tilCntClr tile) s fun t =>
    (∀ f ∈ [Reg.TIL_LOST_COUNT, Reg.TIL_IGNORED_COUNT, Reg.TIL_CONT_COUNT, Reg.TIL_BLANKED_COUNT, Reg.TIL_SEU_CORR, Reg.TIL_SEU_UNCORR],
      t.get f tile = 0) ∧ t.til = (s.setTile tile { s.tile tile with ovfClear := true }).til ∧
    Only [Reg.TIL_LOST_COUNT, Reg.TIL_IGNORED_COUNT, Reg.TIL_CONT_COUNT, Reg.TIL_BLANKED_COUNT, Reg.TIL_SEU_CORR, Reg.TIL_SEU_UNCORR] s t
      { s with regs := t.regs, til := t.til }) ∧
  (∀ tile c f e l s, tile < 4 → s.responds (0x60028 + 0x1000 * tile) = true → (s.tile tile).fails = (c, f, e) :: l → (s.tile tile).ovf = false →
    Does (.failFifoRead tile) s fun t => t.rdata = [2 ^ 31 + e * 2 ^ 16 + f * 2 ^ 12 + c] ∧
      t = { s.setTile tile { s.tile tile with fails := l, ovfClear := false } with rdata := t.rdata })

/-- The pixel configuration stream: A valid first header word claims the port for its source; another source, and a word that is no
header, leave the stream as it is and set ERR; a stream whose check word agrees is accepted, and one whose check word differs is
dropped with ERR 3; the shadow words of the pixels it names are then its words, which with HOLD = 0 are active at once in a disabled
tile and wait for the next epoch in an enabled one; an abort drops it with ERR 6; and a readback returns the voted word of the pixel
addressed. -/
def Obligations.PixelStream : Prop :=
  (∀ src w s, (src = 1 ∨ (src = 0 ∧ s.responds 0x68000 = true)) → w < 2 ^ 32 → s.get Reg.TIL_PCS_STATUS_STATE = 0 → bits w 16 16 = 0x5043 → bits w 12 4 ≠ 0 → bits w 10 2 ≤ 1 →
    Does (.pcsWordArrive src w) s fun t => t.get Reg.TIL_PCS_STATUS_STATE = 1 ∧ t.get Reg.TIL_PCS_STATUS_OWNER = src ∧
      Only [Reg.TIL_PCS_STATUS_STATE, Reg.TIL_PCS_STATUS_OWNER] s t { s with regs := t.regs, til := t.til } ∧
      t.til = { s.til with pcs := { words := w :: s.til.pcs.words } }) ∧
  (∀ src w s, (src = 1 ∨ (src = 0 ∧ s.responds 0x68000 = true)) → w < 2 ^ 32 → s.get Reg.TIL_PCS_STATUS_STATE = 0 → (bits w 16 16 ≠ 0x5043 ∨ bits w 12 4 = 0) →
    Does (.pcsWordArrive src w) s fun t => t = (if s.get Reg.TIL_PCS_STATUS_ERR = 0 then s.put Reg.TIL_PCS_STATUS_ERR 1 else s)) ∧
  (∀ w s, w < 2 ^ 32 → s.responds 0x68000 = true → s.get Reg.TIL_PCS_STATUS_STATE ≠ 0 → s.get Reg.TIL_PCS_STATUS_OWNER = 1 →
    Does (.pcsWordArrive 0 w) s fun t => t.get Reg.TIL_PCS_STATUS_ERR = 5 ∧ RegsOnly [Reg.TIL_PCS_STATUS_ERR] s t) ∧
  (∀ w s, w < 2 ^ 32 → s.get Reg.TIL_PCS_STATUS_STATE = 3 → s.get Reg.TIL_PCS_STATUS_OWNER = 1 → w ≠ crc32cWords 4 s.til.pcs.words.reverse →
    Does (.pcsWordArrive 1 w) s fun t => t.get Reg.TIL_PCS_STATUS_STATE = 0 ∧ t.get Reg.TIL_PCS_STATUS_ERR = 3 ∧
      Only [Reg.TIL_PCS_STATUS_STATE, Reg.TIL_PCS_STATUS_ERR] s t { s with regs := t.regs, til := { s.til with pcs := {} } }) ∧
  (∀ (w h0 h1 v tile row col : Nat) (s : State), w < 2 ^ 32 → s.get Reg.TIL_PCS_STATUS_STATE = 3 → s.get Reg.TIL_PCS_STATUS_OWNER = 1 → s.til.pcs.words = [v, h1, h0] →
    w = crc32cWords 4 [h0, h1, v] → bits h0 10 2 = 1 → tile < 4 → row < 512 → col < 512 → bits h1 16 9 + bits h1 0 10 ≤ 512 →
    let q := s.pixel (pixKey tile row col)
    let p (t : State) : Pix := t.pixel (pixKey tile row col)
    let named : Prop := h0.testBit (12 + tile) = true ∧ bits h1 16 9 ≤ row ∧ row < bits h1 16 9 + bits h1 0 10
    let x := v / 32 * 32
    (h0.testBit 9 = true → Does (.pcsWordArrive 1 w) s fun t => t.get Reg.TIL_PCS_STATUS_STATE = 0 ∧ t.get Reg.TIL_PCS_STATUS_ERR = 0 ∧
      t.get Reg.TIL_PCS_STATUS_ACCEPTED = (s.get Reg.TIL_PCS_STATUS_ACCEPTED + 1) % 2 ^ Reg.TIL_PCS_STATUS_ACCEPTED.width ∧ t.til = { s.til with pcs := {}, pix := t.til.pix } ∧
      (named → p t = { q with shd := [x, x, x], staged := max 1 q.staged }) ∧ (¬ named → p t = q) ∧
      Only [Reg.TIL_PCS_STATUS_STATE, Reg.TIL_PCS_STATUS_ERR, Reg.TIL_PCS_STATUS_ACCEPTED, Reg.TIL_STATUS_PCS_PENDING] s t { s with regs := t.regs, til := t.til }) ∧
    (h0.testBit 9 = false → s.get Reg.TIL_CTRL_EN tile = 0 → Does (.pcsWordArrive 1 w) s fun t => t.get Reg.TIL_PCS_STATUS_STATE = 0 ∧ t.get Reg.TIL_PCS_STATUS_ERR = 0 ∧
      (named → p t = { q with act := [x, x, x], shd := [x, x, x], staged := 0 })) ∧
    (h0.testBit 9 = false → s.get Reg.TIL_CTRL_EN tile = 1 → Does (.pcsWordArrive 1 w) s fun t => t.get Reg.TIL_PCS_STATUS_STATE = 0 ∧ t.get Reg.TIL_PCS_STATUS_ERR = 0 ∧
      (named → p t = { q with shd := [x, x, x], staged := 2 }))) ∧
  (∀ s, s.responds 0x68008 = true → s.get Reg.TIL_PCS_STATUS_STATE ≠ 0 → Does .pcsAbort s fun t =>
    t.get Reg.TIL_PCS_STATUS_STATE = 0 ∧ t.get Reg.TIL_PCS_STATUS_ERR = 6 ∧
    Only [Reg.TIL_PCS_STATUS_STATE, Reg.TIL_PCS_STATUS_ERR] s t { s with regs := t.regs, til := { s.til with pcs := {} } }) ∧
  (∀ s, s.responds 0x68010 = true → Does .pixelWordRead s fun t =>
    let p := s.pixel (pixKey (s.get Reg.TIL_PCS_RDADDR_TILE) (s.get Reg.TIL_PCS_RDADDR_ROW) (s.get Reg.TIL_PCS_RDADDR_COL))
    t = { s with rdata := [vote (if s.flag Reg.TIL_PCS_RDADDR_SHADOW then p.shd else p.act)] })

/-- Column buses and their spares: The 67 wires of a word have even parity and carry the word; a hop with good parity moves the word
of the sconce or of the stage above into the stage, or that of stage 0 into the foot, where it is counted; one with bad parity is
answered NAK, counted, and the same word runs again, or the bus fails at the limit of such NAKs; a bus that fails with SPARE_AUTO set
begins its switch at once, without it the switch is requested, and with the spare gone its column goes out of service, fault 0x10; the
switch brings the spare into service with the words of the stages; an approved request begins the switch; a declined or expired one
takes the column out of service, its gap open from before the failure. -/
def Obligations.ColumnBus : Prop :=
  (∀ w : TWord, w.data < 2 ^ 64 → wordOn w.wires = w ∧ oddOnes 67 w.wires = false ∧ w.readWith 0 = (w, false) ∧
    ∀ i < 67, w.readWith (2 ^ i) = ({ wordOn (Nat.xor w.wires (2 ^ i)) with poison := true }, true)) ∧
  (∀ tile bus recv flips col src w s, tile < 4 → bus < 66 → 1 ≤ recv → recv < 65 → (s.bus tile bus).failed = false →
    NMap.get none (s.bus tile bus).st (recv - 1) = none → s.busCol tile bus = some col → s.hopSrc tile bus recv = some src → src ≠ .up →
    s.srcWord tile bus recv col src = some w → oddOnes 67 (Nat.xor w.wires (flips % 2 ^ 67)) = false → Does (.columnBusHop tile bus recv flips) s fun t =>
      let y := s.bus tile bus
      t = (s.setBus tile bus { y with naks := NMap.set none y.naks recv none, st := NMap.set none y.st (recv - 1) (some (wordOn (Nat.xor w.wires (flips % 2 ^ 67)))), rows := NMap.set [] y.rows (recv - 1) [] }).scTaken
        tile ((recv - 1) * 64 + col) src) ∧
  (∀ tile bus recv flips col w s, tile < 4 → bus < 66 → 1 ≤ recv → recv < 65 → (s.bus tile bus).failed = false →
    NMap.get none (s.bus tile bus).st (recv - 1) = none → s.busCol tile bus = some col → s.hopSrc tile bus recv = some .up →
    s.srcWord tile bus recv col .up = some w → oddOnes 67 (Nat.xor w.wires (flips % 2 ^ 67)) = false → Does (.columnBusHop tile bus recv flips) s fun t =>
      let y := s.bus tile bus; let v := wordOn (Nat.xor w.wires (flips % 2 ^ 67)); let old := NMap.get [] y.rows (recv - 1)
      t = s.setBus tile bus { y with naks := NMap.set none y.naks recv none, st := NMap.set none (NMap.set none y.st recv none) (recv - 1) (some v), rows := NMap.set [] y.rows (recv - 1) (if old.contains (wordRow v) then old else old ++ [wordRow v]) }) ∧
  (∀ tile bus flips col w s, tile < 4 → bus < 66 → (s.bus tile bus).failed = false → (s.bus tile bus).foot.length < 16 →
    s.busCol tile bus = some col → s.hopSrc tile bus 0 = some .up → s.srcWord tile bus 0 col .up = some w → oddOnes 67 (Nat.xor w.wires (flips % 2 ^ 67)) = false → Does (.columnBusHop tile bus 0 flips) s fun t =>
      let y := s.bus tile bus
      t.xp = (s.setBus tile bus { y with naks := NMap.set none y.naks 0 none, st := NMap.set none y.st 0 none, foot := y.foot ++ [wordOn (Nat.xor w.wires (flips % 2 ^ 67))] }).xp ∧
      (s.get Reg.TIL_COL_WORDS_COUNT tile col + 1 < 2 ^ Reg.TIL_COL_WORDS_COUNT.width - 1 → col < 64 →
        t.get Reg.TIL_COL_WORDS_COUNT tile col = s.get Reg.TIL_COL_WORDS_COUNT tile col + 1) ∧
      Only [Reg.TIL_COL_WORDS_COUNT, Reg.TIL_XINT_CNT_SAT] s t { s with regs := t.regs, xp := t.xp }) ∧
  (∀ tile bus recv flips col src w s, tile < 4 → bus < 66 → recv < 65 → (s.bus tile bus).failed = false →
    (recv = 0 → (s.bus tile bus).foot.length < 16) → (1 ≤ recv → NMap.get none (s.bus tile bus).st (recv - 1) = none) →
    s.busCol tile bus = some col → s.hopSrc tile bus recv = some src → s.srcWord tile bus recv col src = some w →
    oddOnes 67 (Nat.xor w.wires (flips % 2 ^ 67)) = true → Does (.columnBusHop tile bus recv flips) s fun t =>
      let y := s.bus tile bus; let n := ((NMap.get none y.naks recv).map (·.2)).getD 0 + 1
      let u := (s.setBus tile bus { y with naks := NMap.set none y.naks recv (some (src, n)) }).xcount Reg.TIL_COL_NAK_COUNT tile col
      u.hopSrc tile bus recv = some src ∧
      (n < max 1 (s.get Reg.TIL_XCTRL_NAK_LIMIT tile) → t = u) ∧ (max 1 (s.get Reg.TIL_XCTRL_NAK_LIMIT tile) ≤ n → t = u.busFails tile bus)) ∧
  (∀ tile bus s, tile < 4 → bus < 32 → (s.bus tile bus).failed = false → s.spareGone tile 64 = false →
    s.flag Reg.TIL_XCTRL_SPARE_AUTO tile = true → Does (.columnStallTimeout tile bus) s fun t =>
      t.get Reg.TIL_XSPARE_SPA_USED tile = 1 ∧ t.get Reg.TIL_XSPARE_SPA_COL tile = bus ∧
      (tile < s.xp.cols.length → bus ∈ (t.cols tile).switching ∧ (t.bus tile bus).failed = true) ∧
      Only [Reg.TIL_XSPARE_SPA_USED, Reg.TIL_XSPARE_SPA_COL] s t { s with regs := t.regs, xp := { s.xp with cols := t.xp.cols } }) ∧
  (∀ tile bus s, tile < 4 → 32 ≤ bus → bus < 64 → (s.bus tile bus).failed = false → s.spareGone tile 65 = false →
    s.flag Reg.TIL_XCTRL_SPARE_AUTO tile = false → (s.cols tile).reqs = [] → tile < s.xp.cols.length → Does (.columnStallTimeout tile bus) s fun t =>
      (t.cols tile).reqs = [(bus, s.dtRef)] ∧ t.get Reg.TIL_XSPARE_REQ_PENDING tile = 1 ∧ t.get Reg.TIL_XSPARE_REQ_COL tile = bus ∧
      t.get Reg.TIL_XINT_SPARE_REQ tile = 1 ∧
      Only [Reg.TIL_XSPARE_REQ_PENDING, Reg.TIL_XSPARE_REQ_COL, Reg.TIL_XINT_SPARE_REQ] s t
        { s with regs := t.regs, xp := { s.xp with cols := t.xp.cols } }) ∧
  (∀ (tile bus col : Nat) (s : State), tile < 4 → bus < 66 → (s.bus tile bus).failed = false → s.busCol tile bus = some col → col < 64 →
    (bus < 64 → s.spareGone tile (spareOf bus) = true) → s.flt.under = none → s.sys.phase = .running → Does (.columnStallTimeout tile bus) s fun t =>
      t.colOff tile col = true ∧ col ∉ (t.cols tile).switching ∧ t.get Reg.TIL_XINT_COL_OFF tile = 1 ∧ t.recorded 2 (tile * 64 + col) = true ∧
      t.flt.under = some { dt := s.dtRef, code := 0x10, sev := 1, src := tile * 64 + col } ∧
      t.evt.gaps = s.evt.gaps ++ [{ tile := tile, col := some col, kind := 5, start := s.dtRef - 2 ^ 21 }] ∧ t.dtRef = s.dtRef ∧ t.mem = s.mem) ∧
  (∀ (tile col : Nat) (flips : List (Nat × Nat)) (s : State), tile < 4 → col < 64 → col ∈ (s.cols tile).switching → tile < s.xp.cols.length → Does (.spareSwitchDone tile col flips) s fun t =>
    col ∉ (t.cols tile).switching ∧ (t.bus tile col).st = [] ∧
    (t.bus tile (spareOf col)).st = (s.bus tile col).st.map (fun (e : Nat × Option TWord) => (e.1, e.2.map fun w => (w.readWith (flipsAt flips e.1)).1)) ∧
    t.get Reg.TIL_XINT_COL_SPARED tile = 1 ∧ t.recorded 2 (tile * 64 + col) = true ∧
    Only ([Reg.TIL_XINT_COL_SPARED, Reg.GEN_SPARE_INFO_USED, Reg.GEN_SVC_INT_SPARE_LOW, Reg.TIL_XPOISON_COUNT, Reg.TIL_XINT_POISON, Reg.TIL_XINT_CNT_SAT] ++ auditFields) s t
      { s with regs := t.regs, xp := { s.xp with cols := t.xp.cols }, aud := t.aud, store := t.store, sys := t.sys }) ∧
  (∀ tile col d l val s, tile < 4 → val.testBit 0 = true → val.testBit 1 = false → s.responds (0x60088 + 0x1000 * tile) = true → col < 32 →
    (s.cols tile).reqs = (col, d) :: l → s.spareGone tile 64 = false → tile < s.xp.cols.length → Does (.spareApprove tile val) s fun t =>
      t.get Reg.TIL_XSPARE_SPA_USED tile = 1 ∧ t.get Reg.TIL_XSPARE_SPA_COL tile = col ∧ (t.cols tile).reqs = l ∧
      col ∈ (t.cols tile).switching ∧ (l = [] → t.get Reg.TIL_XSPARE_REQ_PENDING tile = 0) ∧
      Only [Reg.TIL_XSPARE_SPA_USED, Reg.TIL_XSPARE_SPA_COL, Reg.TIL_XSPARE_REQ_PENDING, Reg.TIL_XSPARE_REQ_COL, Reg.TIL_XINT_SPARE_REQ] s t
        { s with regs := t.regs, xp := { s.xp with cols := t.xp.cols } }) ∧
  (∀ tile col d l val s, tile < 4 → val.testBit 1 = true → s.responds (0x60088 + 0x1000 * tile) = true → col < 64 →
    (s.cols tile).reqs = (col, d) :: l → Does (.spareDecline tile val) s fun t =>
      t.colOff tile col = true ∧ t.get Reg.TIL_XINT_COL_OFF tile = 1 ∧ t.recorded 2 (tile * 64 + col) = true ∧
      t.evt.gaps = s.evt.gaps ++ [{ tile := tile, col := some col, kind := 5, start := d - 2 ^ 21 }] ∧ t.dtRef = s.dtRef ∧ (s.flt.under = none → s.sys.phase = .running → t.flt.under = some { dt := s.dtRef, code := 0x10, sev := 1, src := tile * 64 + col })) ∧
  (∀ tile col d l s, tile < 4 → col < 64 → (s.cols tile).reqs = (col, d) :: l → Does (.spareRequestTimeout tile) s fun t =>
      t.colOff tile col = true ∧ t.get Reg.TIL_XINT_COL_OFF tile = 1 ∧ t.recorded 2 (tile * 64 + col) = true ∧
      t.dtRef = max s.dtRef (d + 2 ^ 20) % 2 ^ 64 ∧ { tile := tile, col := some col, kind := 5, start := d - 2 ^ 21 } ∈ t.evt.gaps)

/-- Flits across the bundle: A flit takes the head words of up to four feet, with one that has bad parity poisoned; it crosses with
the next SEQ while the receiver holds fewer than 32 and the transmitter fewer than 16 without an answer, and one sent again is
counted; a good check answers CHK_OK and moves LAST_SEQ, a bad one answers CHK_NAK and discards what was sent after it; the answers
release or resend flits; a via test starts at the third failure or a stuck digit, and its end uses spares and lets the link run, or
faults the bundle when they do not suffice; the 1-of-4 code of the vias carries every flit. -/
def Obligations.BundleTransfer : Prop :=
  (∀ f : Nat, f < 2 ^ 296 → viasFlit (flitVias f) = f) ∧
  (∀ (tile n : Nat) (flips : List (Nat × Nat)) (s : State), tile < 4 → n < 66 → s.feet tile ≠ [] → (s.bnd tile).formed = [] → tile < s.xp.bnd.length → Does (.flitForm tile flips) s fun t =>
      let ws : List (TWord × Bool) := ((s.feet tile).take 4).filterMap fun f => (s.bus tile f).foot.head?.map fun (w : TWord) => w.readWith (flipsAt flips f)
      (t.bnd tile).formed = ws.map (·.1) ∧ (t.bnd tile).lastFoot = ((s.feet tile).take 4).getLastD (s.bnd tile).lastFoot ∧
      (tile < s.xp.cols.length → (t.bus tile n).foot = if n ∈ (s.feet tile).take 4 then (s.bus tile n).foot.tail else (s.bus tile n).foot) ∧
      (ws.any (·.2) = true → t.get Reg.TIL_XINT_POISON tile = 1) ∧
      (ws.any (·.2) = false → t = { s with xp := t.xp }) ∧
      Only [Reg.TIL_XPOISON_COUNT, Reg.TIL_XINT_POISON, Reg.TIL_XINT_CNT_SAT] s t { s with regs := t.regs, xp := t.xp }) ∧
  (∀ (tile f : Nat) (s : State), tile < 4 → (s.bnd tile).held[(s.bnd tile).sent]? = some f → f < 2 ^ 296 → (s.bnd tile).latched.length + (s.bnd tile).words.length < 32 →
    s.get Reg.TIL_BND_STATUS_STATE tile ≠ 3 → (s.bnd tile).test = false →
    Does (.flitTransfer tile) s fun t =>
      let b := s.bnd tile
      t = (s.xcount Reg.TIL_BND_REPLAY_COUNT tile).setBnd tile { b with latched := b.latched ++ [{ flit := f, gen := b.gen }], sent := b.sent + 1 }) ∧
  (∀ (tile : Nat) (s : State), tile < 4 → (s.bnd tile).held[(s.bnd tile).sent]? = none → (s.bnd tile).held.length < 16 → (s.bnd tile).latched.length + (s.bnd tile).words.length < 32 →
    (s.bnd tile).formed ≠ [] → (s.bnd tile).formed.length ≤ 4 → s.get Reg.TIL_BND_STATUS_STATE tile ≠ 3 → (s.bnd tile).test = false →
    Does (.flitTransfer tile) s fun t =>
      let b := s.bnd tile; let f := flitOf b.formed b.seq
      t = s.setBnd tile { b with latched := b.latched ++ [{ flit := f, gen := b.gen }], held := b.held ++ [f], sent := b.sent + 1, seq := (b.seq + 1) % 256, formed := [] }) ∧
  (∀ (tile flips : Nat) (x : Latched) (rest : List Latched) (s : State), tile < 4 → (s.bnd tile).latched = x :: rest → (s.bnd tile).skip ≠ some x.gen → (s.bnd tile).gap = false →
    let f := Nat.xor x.flit (flips % 2 ^ 296)
    flitCrcOk f = true → flitSeq f = (s.get Reg.TIL_BND_STATUS_LAST_SEQ tile + 1) % 256 → Does (.flitCheck tile flips) s fun t =>
      let b := s.bnd tile
      t.get Reg.TIL_BND_STATUS_LAST_SEQ tile = flitSeq f ∧ t.get Reg.TIL_BND_STATUS_STATE tile = 1 ∧
      t.xp = (s.setBnd tile { b with latched := rest, tokens := b.tokens ++ [true], fails := 0, skip := none, due := false, waitFrom := none
                                     words := if flitWords f = [] then b.words else b.words ++ [flitWords f]
                                     since := if b.words = [] then s.dtRef else b.since }).xp ∧
      Only [Reg.TIL_BND_STATUS_LAST_SEQ, Reg.TIL_BND_STATUS_STATE] s t { s with regs := t.regs, xp := t.xp }) ∧
  (∀ (tile flips : Nat) (x : Latched) (rest : List Latched) (s : State), tile < 4 → (s.bnd tile).latched = x :: rest → (s.bnd tile).skip ≠ some x.gen → (s.bnd tile).fails < 7 →
    let f := Nat.xor x.flit (flips % 2 ^ 296)
    (flitCrcOk f = false ∨ flitSeq f ≠ (s.get Reg.TIL_BND_STATUS_LAST_SEQ tile + 1) % 256) → Does (.flitCheck tile flips) s fun t =>
      let b := s.bnd tile
      t = (s.setBnd tile { b with latched := rest, tokens := b.tokens ++ [false], fails := b.fails + 1, skip := some x.gen
                                  due := (b.fails + 1) % 3 == 0, waitFrom := some s.dtRef }).put Reg.TIL_BND_STATUS_STATE 2 tile) ∧
  (∀ (tile flips : Nat) (x : Latched) (rest : List Latched) (s : State), tile < 4 → (s.bnd tile).latched = x :: rest → (s.bnd tile).skip = some x.gen →
    Does (.flitCheck tile flips) s fun t => t = s.setBnd tile { s.bnd tile with latched := rest }) ∧
  (∀ (tile : Nat) (l : List Bool) (s : State), tile < 4 → (s.bnd tile).tokens = true :: l → Does (.chkOk tile) s fun t =>
    let b := s.bnd tile
    t = s.setBnd tile { b with tokens := l, held := b.held.tail, sent := b.sent - 1 }) ∧
  (∀ (tile : Nat) (l : List Bool) (s : State), tile < 4 → (s.bnd tile).tokens = false :: l → Does (.chkNak tile) s fun t =>
    let b := s.bnd tile
    t = s.setBnd tile { b with tokens := l, sent := 0, gen := b.gen + 1 }) ∧
  (∀ (tile : Nat) (stuck : Bool) (s : State), tile < 4 → (s.bnd tile).test = false → s.get Reg.TIL_BND_STATUS_STATE tile ≠ 3 → ((s.bnd tile).due = true ∨ stuck = true) →
    (s.bnd tile).tokens = [] → Does (.viaTestStart tile stuck) s fun t =>
      t = (s.setBnd tile { s.bnd tile with link := .test, latched := [], due := false, test := true, waitFrom := some s.dtRef }).put Reg.TIL_BND_STATUS_STATE 2 tile) ∧
  (∀ (tile failed : Nat) (s : State), tile < 4 → (s.bnd tile).test = true → s.viasUsed 3 tile + failed ≤ 48 → tile < s.xp.bnd.length →
    Does (.viaTestEnd tile failed) s fun t => t.get Reg.TIL_BND_STATUS_STATE tile = (if (s.bnd tile).fails = 0 then 1 else 2) ∧
      t.get Reg.TIL_BND_STATUS_VIA_USED tile = s.viasUsed 3 tile + failed ∧ t.get Reg.TIL_BND_STATUS_VIA_LEFT tile = 48 - (s.viasUsed 3 tile + failed) ∧
      (1 ≤ failed → t.get Reg.TIL_XINT_VIA_SPARED tile = 1) ∧
      t.xp = (s.setBnd tile { (s.bnd tile).resend with link := .run, test := false, owed := false }).xp ∧
      ((s.bnd tile).owed = false → t.til = s.til) ∧
      ((s.bnd tile).owed = true → s.flag Reg.TIL_CTRL_EN tile = true → tile < s.til.t.length → (t.tile tile).firstDue = some (s.dtRef + 1)) ∧ t.dtRef = s.dtRef ∧ t.mem = s.mem) ∧
  (∀ (tile failed : Nat) (s : State), tile < 4 → (s.bnd tile).test = true → s.viasUsed 3 tile ≤ 48 → 48 < s.viasUsed 3 tile + failed → s.get Reg.TIL_BND_STATUS_STATE tile ≠ 3 →
    tile < s.xp.bnd.length → Does (.viaTestEnd tile failed) s fun t => t.get Reg.TIL_BND_STATUS_STATE tile = 3 ∧ (t.bnd tile).link = .halt ∧
      t.get Reg.TIL_BND_STATUS_VIA_USED tile = 48 ∧ t.get Reg.TIL_BND_STATUS_VIA_LEFT tile = 0 ∧ t.get Reg.TIL_XINT_BND_FAULT tile = 1 ∧ ({ t with dtRef := t.dtRef + 1 } : State).gated tile = true ∧
      (s.flt.under = none → s.sys.phase = .running → t.flt.under = some { dt := s.dtRef, code := 7, sev := 3, src := tile }))

/-- Receiver ports and bundle faults: A word that every destination accepts leaves its port and is routed; one that waits 2^21 ref
makes the port drain; the tile wait that expires is a bundle fault, fault 0x07, with the tile gated from the next edge and a gap open;
TIL_XCNT_CLR clears the transport counters of its tile. -/
def Obligations.ReceiverPort : Prop :=
  (∀ (tile : Nat) (w : TWord) (errs : List Nat) (s : State), tile < 4 → (s.bnd tile).offer = some w → s.accepts tile w = true → (s.bnd tile).drain = false →
    Does (.crossbarTakeWord tile false errs) s fun t =>
      t = ({ s.setBnd tile ((s.bnd tile).drop s.dtRef) with evt := { s.evt with refused := s.evt.refused.set tile 0 } } : State).route tile w errs) ∧
  (∀ (tile : Nat) (w : TWord) (errs : List Nat) (s : State), tile < 4 → (s.bnd tile).offer = some w → s.accepts tile w = false → (s.bnd tile).drain = false →
    Does (.crossbarTakeWord tile false errs) s fun t => t = s) ∧
  (∀ tile s, tile < 4 → (s.bnd tile).words ≠ [] → (s.bnd tile).drain = false → Does (.receiverDrainStart tile) s fun t =>
    t = ((s.advanceTo ((s.bnd tile).since + 2 ^ 21)).setBnd tile { s.bnd tile with drain := true }).put Reg.TIL_XINT_STALE_DRAIN 1 tile) ∧
  (∀ (tile d : Nat) (s : State), tile < 4 → s.get Reg.TIL_BND_STATUS_STATE tile = 2 → (s.bnd tile).waitFrom = some d → s.flt.under = none → s.sys.phase = .running → (s.bnd tile).gap = false → Does (.tileWaitExpire tile) s fun t => let u := s.advanceTo (d + s.tileWait)
    t.get Reg.TIL_BND_STATUS_STATE tile = 3 ∧ ({ t with dtRef := t.dtRef + 1 } : State).gated tile = true ∧ t.get Reg.TIL_XINT_BND_FAULT tile = 1 ∧
    u.dtRef = max s.dtRef (d + s.tileWait) % 2 ^ 64 ∧ t.dtRef = u.dtRef ∧ (t.bnd tile).waitFrom = none ∧
    t.flt.under = some { dt := u.dtRef, code := 7, sev := 3, src := tile } ∧ t.faultN = true ∧
    t.evt.gaps = u.evt.gaps ++ [{ tile := tile, col := none, kind := 6, start := u.dtRef - 2 ^ 21 }] ∧
    Only [Reg.TIL_BND_STATUS_STATE, Reg.TIL_XINT_BND_FAULT, Reg.GEN_FAULT_STATUS_CODE, Reg.GEN_FAULT_STATUS_SEV, Reg.GEN_FAULT_STATUS_QLEVEL,
      Reg.GEN_FAULT_STATUS_NEST] u t { u with regs := t.regs, til := { u.til with t := t.til.t }, xp := t.xp, evt := t.evt, flt := t.flt, sys := t.sys }) ∧
  (∀ tile s, tile < 4 → s.responds (0x600C8 + 0x1000 * tile) = true → Does (.tilXcntClr tile) s fun t =>
    (∀ f ∈ [Reg.TIL_COL_WORDS_COUNT, Reg.TIL_COL_FULL_COUNT, Reg.TIL_COL_STALL_COUNT, Reg.TIL_COL_NAK_COUNT], ∀ c ∈ List.range 64, t.get f tile c = 0) ∧
    (∀ f ∈ [Reg.TIL_MRG_STALL_COUNT, Reg.TIL_BND_REPLAY_COUNT, Reg.TIL_XPOISON_COUNT, Reg.TIL_BND_DRAIN_COUNT, Reg.TIL_XDISCARD_COUNT],
      t.get f tile = 0) ∧
    RegsOnly [Reg.TIL_COL_WORDS_COUNT, Reg.TIL_COL_FULL_COUNT, Reg.TIL_COL_STALL_COUNT, Reg.TIL_COL_NAK_COUNT, Reg.TIL_MRG_STALL_COUNT,
      Reg.TIL_BND_REPLAY_COUNT, Reg.TIL_XPOISON_COUNT, Reg.TIL_BND_DRAIN_COUNT, Reg.TIL_XDISCARD_COUNT] s t)

/-- Time sessions: OPEN starts a session with a new SESSION_ID, in FREE for the sources without a reference and in ACQUIRE for the
others; a second OPEN is refused; CLOSE ends it with y held; SET steps ET of a HOST session once to the nearest multiple of 4 ns; a
fault of the servo's rate holds y and is fault 0x08. -/
def Obligations.TimeSession : Prop :=
  (∀ val s, val.testBit 0 = true → val.testBit 1 = false → val.testBit 2 = false → s.responds 0x40000 = true →
    s.flag Reg.TIM_STATUS_SESSION = false → bits val 4 3 ≤ 4 → Does (.timOpen val) s fun t =>
      t.get Reg.TIM_STATUS_SESSION = 1 ∧ t.get Reg.TIM_STATUS_SESSION_ID = trunc 16 (s.get Reg.TIM_STATUS_SESSION_ID + 1) ∧
      t.get Reg.TIM_CTRL_SRC = bits val 4 3 ∧ t.get Reg.TIM_STATUS_STEPPED = 0 ∧
      t.get Reg.TIM_STATUS_STATE = (if bits val 4 3 = 0 ∨ bits val 4 3 = 4 then 1 else 2) ∧
      (bits val 4 3 = 2 → t.get Reg.TIM_STATUS_SEC_WANTED = 1) ∧
      Only [Reg.TIM_STATUS_SESSION, Reg.TIM_STATUS_SESSION_ID, Reg.TIM_CTRL_SRC, Reg.TIM_CTRL_PORT, Reg.TIM_CTRL_PPS_OUT_EN, Reg.TIM_STATUS_STEPPED,
        Reg.TIM_STATUS_STATE, Reg.TIM_STATUS_SEC_WANTED, Reg.TIM_FREQ_Y] s t { s with regs := t.regs, tim := t.tim }) ∧
  (∀ val s, val.testBit 0 = true → val.testBit 1 = false → val.testBit 2 = false → s.responds 0x40000 = true →
    s.flag Reg.TIM_STATUS_SESSION = true → Does (.timOpen val) s fun t => t.get Reg.TIM_INT_REFUSED = 1 ∧
      RegsOnly [Reg.TIM_CTRL_PPS_OUT_EN, Reg.TIM_INT_REFUSED] s t) ∧
  (∀ val s, val.testBit 1 = true → val.testBit 0 = false → val.testBit 2 = false → s.responds 0x40000 = true →
    s.flag Reg.TIM_STATUS_SESSION = true → Does (.timClose val) s fun t => t.get Reg.TIM_STATUS_SESSION = 0 ∧ t.get Reg.TIM_STATUS_STATE = 0 ∧
      t.get Reg.TIM_STATUS_FAULT = 0 ∧ t.get Reg.TIM_STATUS_SEC_WANTED = 0 ∧ t.get Reg.TIM_FREQ_Y = s.get Reg.TIM_FREQ_Y ∧
      Only ([Reg.TIM_SERVO_BW, Reg.TIM_SERVO_SLEW_PPM, Reg.TIM_SERVO_ACQ_N, Reg.TIM_SERVO_LOCK_N, Reg.TIM_SERVO_LOCK_THR, Reg.TIM_PTP_ASYM_ASYM] ++ [Reg.TIM_STATUS_SESSION, Reg.TIM_STATUS_STATE, Reg.TIM_STATUS_FAULT, Reg.TIM_STATUS_SEC_WANTED,
        Reg.TIM_CTRL_PPS_OUT_EN, Reg.TIM_INT_REFUSED]) s t { s with regs := t.regs, shadow := t.shadow, tim := t.tim }) ∧
  (∀ val s, val.testBit 2 = true → val.testBit 0 = false → val.testBit 1 = false → s.responds 0x40000 = true → s.get Reg.TIM_STATUS_STATE = 1 →
    s.get Reg.TIM_CTRL_SRC = 4 → s.flag Reg.TIM_STATUS_SESSION = true → s.flag Reg.TIM_STATUS_STEPPED = false → Does (.timSet val) s fun t =>
      t.get Reg.TIM_STATUS_STATE = 7 ∧ t.get Reg.TIM_STATUS_STEPPED = 1 ∧ t.get Reg.TIM_STATUS_ET_VALID = 1 ∧ t.get Reg.TIM_INT_STEPPED = 1 ∧
      (t.etOff : Int) = ((s.get Reg.TIM_SET_SEC_SEC * 1000000000 + s.get Reg.TIM_SET_NS_NS : Nat) - 4 * (s.dtRef : Int) + 2) / 4 * 4 % (etMod : Int) ∧
      Only [Reg.TIM_STATUS_STATE, Reg.TIM_STATUS_STEPPED, Reg.TIM_STATUS_ET_VALID, Reg.TIM_INT_STEPPED, Reg.TIM_ETOFF_SEC_SEC, Reg.TIM_ETOFF_NS_NS,
        Reg.TIM_CTRL_PPS_OUT_EN, Reg.TIM_INT_REFUSED, Reg.TIM_LT_OFF_OFF, Reg.TIM_INT_PORT_DISAGREE] s t { s with regs := t.regs, tim := t.tim, trg := t.trg }) ∧
  (∀ (d : Nat) (s : State), (s.get Reg.TIM_STATUS_STATE = 3 ∨ s.get Reg.TIM_STATUS_STATE = 4) → s.tim.rateSince = some d → s.flt.under = none → s.sys.phase = .running →
    Does .timeFaultRate s fun t => t.get Reg.TIM_STATUS_STATE = 6 ∧ t.dtRef = max s.dtRef (d + 250000000) % 2 ^ 64 ∧
    t.get Reg.TIM_STATUS_FAULT = 1 ∧ t.get Reg.TIM_INT_FAULT = 1 ∧ t.get Reg.TIM_FREQ_Y = s.get Reg.TIM_FREQ_Y ∧
    t.flt.under = some { dt := t.dtRef, code := 8, sev := 3, src := 0 })

/-- The discipline and its PTP source: A locked sample within the slew budget reports its error and moves y by a value within 200 ppm;
one beyond the budget is a time fault that holds y; an Announce selects the only master; a two-step Sync waits for its Follow_Up; a
completed Sync and delay exchange give the sample of R133; a Delay_Resp closes the exchange; and the timeouts lose the source, which
leaves y alone. -/
def Obligations.TimeDiscipline : Prop :=
  (∀ (err : Int) (s : State), s.get Reg.TIM_STATUS_STATE = 4 → s.shadow = [] → err.natAbs ≤ s.slewBudget → Does (.timeSample err) s fun t =>
    t.get Reg.TIM_PHASE_ERR_ERR = satInt 32 err ∧ (toInt 32 (t.get Reg.TIM_FREQ_Y)).natAbs ≤ 200 * 65536 ∧
    (toInt 32 (t.get Reg.TIM_FREQ_Y) - t.tim.integ).natAbs ≤ s.slewPpm * 65536 ∧ t.tim.integ.natAbs ≤ 200 * 65536 ∧
    (t.get Reg.TIM_STATUS_STATE = 4 ∨ t.get Reg.TIM_STATUS_STATE = 3) ∧ t.tim.sampleAt = s.dtRef ∧
    Only [Reg.TIM_PHASE_ERR_ERR, Reg.TIM_FREQ_Y, Reg.TIM_STATUS_STATE] s t { s with regs := t.regs, tim := t.tim }) ∧
  (∀ err s, s.get Reg.TIM_STATUS_STATE = 4 → s.shadow = [] → s.slewBudget < err.natAbs → s.flt.under = none → Does (.timeSample err) s fun t =>
    t.get Reg.TIM_STATUS_STATE = 6 ∧ t.get Reg.TIM_STATUS_FAULT = 1 ∧ t.get Reg.TIM_FREQ_Y = s.get Reg.TIM_FREQ_Y ∧
    t.flt.under = some { dt := s.dtRef, code := 8, sev := 3, src := 0 }) ∧
  (∀ (hdr : PtpHdr) (m : Master) (s : State), (s.hears hdr = true ↔ s.flag Reg.TIM_STATUS_SESSION = true ∧ s.get Reg.TIM_CTRL_SRC = 1 ∧
      hdr.udp = s.flag Reg.TIM_PTP_CFG_TRANSPORT ∧ hdr.domain = s.get Reg.TIM_PTP_CFG_DOMAIN) ∧
    (s.hears hdr = false → Does (.ptpAnnounceRx hdr m) s fun t => t = s) ∧
    (s.hears hdr = true → s.tim.masters = [] → s.tim.selected = none → Does (.ptpAnnounceRx hdr m) s fun t =>
      t.tim.masters = [(m, s.dtRef)] ∧ t.tim.selected = some m.identity ∧
      (t.get Reg.TIM_INT_SRC_CHANGE = if s.tim.lastMaster = none ∨ s.tim.lastMaster = some m.identity then s.get Reg.TIM_INT_SRC_CHANGE else 1) ∧
      t.get Reg.TIM_PTP_GM_ID = m.identity % 2 ^ 64 ∧ t.get Reg.TIM_PTP_STATUS_TAI_SCALE = boolNat m.ptpScale ∧
      t.get Reg.TIM_PTP_STATUS_STEPS_REMOVED = m.steps % 256 ∧
      t.get Reg.TIM_PTP_STATUS_L1SYNC_UP = boolNat (m.l1sync && s.flag Reg.TIM_PTP_CFG_L1SYNC_EN) ∧
      Only [Reg.TIM_PTP_STATUS_UTC_OFFSET, Reg.TIM_PTP_STATUS_UTC_VALID, Reg.TIM_PTP_STATUS_L1SYNC_UP, Reg.TIM_PTP_STATUS_TAI_SCALE,
        Reg.TIM_PTP_STATUS_STEPS_REMOVED, Reg.TIM_PTP_GM_ID, Reg.TIM_INT_SRC_CHANGE] s t { s with regs := t.regs, tim := t.tim })) ∧
  (∀ (hdr : PtpHdr) (identity : Nat) (origin corr : Int) (sub : Nat) (syncLog rate ex : Int) (m : Master) (s : State), s.hears hdr = true → s.tim.selected = some identity →
    (Does (.ptpSyncRx hdr identity true origin corr sub syncLog rate) s fun t =>
      t = { s with tim := { s.tim with syncRx := some (s.etPs sub - corr), syncLog := some syncLog, synRate := some rate } }) ∧
    (s.tim.delayExch = some ex → s.master = some m → m.ptpScale = true → Does (.ptpSyncRx hdr identity false origin corr sub syncLog rate) s fun t =>
      t = ({ s with tim := { s.tim with syncLog := some syncLog, synRate := some rate } } : State).timeSample
        (centred (etMod * 1000) ((ex - (s.etPs sub - (origin + corr))) / 2 + toInt 32 (s.get Reg.TIM_PTP_ASYM_ASYM))))) ∧
  (∀ (hdr : PtpHdr) (identity : Nat) (origin corr rx ex : Int) (m : Master) (s : State), s.hears hdr = true → s.tim.selected = some identity → s.tim.syncRx = some rx → s.tim.delayExch = some ex →
    s.master = some m → m.ptpScale = true → Does (.ptpFollowUpRx hdr identity origin corr) s fun t =>
      t = ({ s with tim := { s.tim with syncRx := none } } : State).timeSample
        (centred (etMod * 1000) ((ex - (rx - (origin + corr))) / 2 + toInt 32 (s.get Reg.TIM_PTP_ASYM_ASYM)))) ∧
  (∀ (sub identity : Nat) (s : State), s.following 1 = true → s.tim.selected = some identity → Does (.ptpDelayReqSend sub) s fun t =>
    let u := s.advanceTo ((s.tim.dreqAt.map (· + s.dreqRefs)).getD s.dtRef)
    (∀ d ∈ s.tim.dreqAt, u.dtRef = max s.dtRef (d + s.dreqRefs) % 2 ^ 64) ∧
    t = { u with tim := { u.tim with dreqTx := some (u.etPs sub), dreqAt := some u.dtRef, sentDelayReq := u.tim.sentDelayReq + 1 } }) ∧
  (∀ (hdr : PtpHdr) (identity : Nat) (rx corr t3 : Int) (s : State), s.hears hdr = true → s.tim.selected = some identity → s.tim.dreqTx = some t3 →
    Does (.ptpDelayRespRx hdr identity rx corr) s fun t => t = { s with tim := { s.tim with dreqTx := none, delayExch := some (rx - corr - t3) } }) ∧
  (∀ (m : Master) (d : Nat) (s : State), s.following 1 = true → s.get Reg.TIM_STATUS_STATE = 4 → s.tim.masters = [(m, d)] → s.tim.selected = some m.identity →
    Does .ptpAnnounceTimeout s fun t => t.get Reg.TIM_STATUS_STATE = 5 ∧ t.get Reg.TIM_INT_HOLDOVER = 1 ∧ t.tim.masters = [] ∧ t.tim.selected = none ∧
      t.dtRef = max s.dtRef (d + max 2 (s.get Reg.TIM_PTP_CFG_ANN_TIMEOUT) * logRefs m.annLog) % 2 ^ 64 ∧ t.get Reg.TIM_FREQ_Y = s.get Reg.TIM_FREQ_Y ∧
      Only (Reg.TIM_STATUS_STATE :: Reg.TIM_INT_HOLDOVER :: timeFields) s t { s with regs := t.regs, dtRef := t.dtRef, tim := t.tim }) ∧
  (∀ (l : Int) (s : State), s.following 1 = true → s.get Reg.TIM_STATUS_STATE = 3 → s.tim.syncLog = some l → Does .ptpSyncTimeout s fun t => t.get Reg.TIM_STATUS_STATE = 5 ∧
    t.get Reg.TIM_INT_HOLDOVER = 1 ∧ t.dtRef = max s.dtRef (s.tim.sampleAt + 4 * logRefs l) % 2 ^ 64 ∧
    Only (Reg.TIM_STATUS_STATE :: Reg.TIM_INT_HOLDOVER :: timeFields) s t { s with regs := t.regs, dtRef := t.dtRef, tim := t.tim }) ∧
  (∀ ip s, s.sys.phase = .running → ip = s.get Reg.TIM_PTP_IP_ADDR → Does (.arpRequestRx ip) s fun t =>
    t = { s with tim := { s.tim with sentArp := s.tim.sentArp + 1 } })

/-- PPS, 10 MHz, epochs, snapshots and tile skew: A PPS edge of the chosen polarity 1 s after the accepted one before it, and the
first of a session (the model's choice, log entry 166), counts TIM_PPS_SEC; once its second is written each accepted edge with the 10
MHz input present is a sample, before the step and after it, and any other edge has no effect; an edge outside its window is rejected
and counted; the third missing or rejected edge, and the loss of the 10 MHz input, lose the source; TIM_PPS_OUT rises at a whole ET
second and falls OUT_WIDTH us later; the next epoch begins at the next whole multiple of 2^21 ref; TIM_SNAP holds DT, ET and AT of one
edge; a recalibration takes the measured delays as targets and marks a change above 50 ps; TIM_CNT_CLR clears its counters. -/
def Obligations.TimeOutputs : Prop :=
  (∀ (rising : Bool) (sub : Nat) (ten : Option Int) (s : State), s.following 2 = true → rising = !s.flag Reg.TIM_PPS_CFG_POL → s.flag Reg.TIM_STATUS_STEPPED = false →
    s.flag Reg.TIM_STATUS_SEC_WANTED = true → (s.tim.ppsLast = none ∨ s.tim.ppsLast = some (s.dtRef * 4000 + sub - 10 ^ 12)) → 250000000 ≤ s.dtRef →
    Does (.ppsEdge rising sub ten) s fun t => t.get Reg.TIM_PPS_SEC_SEC = trunc 48 (s.get Reg.TIM_PPS_SEC_SEC + 1) ∧
      Only [Reg.TIM_PPS_SEC_SEC] s t { s with regs := t.regs, tim := { s.tim with ppsLast := some (s.dtRef * 4000 + sub), ppsBad := 0, synRate := ten } }) ∧
  (∀ (rising : Bool) (sub : Nat) (ten : Int) (s : State), s.following 2 = true → rising = !s.flag Reg.TIM_PPS_CFG_POL → s.flag Reg.TIM_STATUS_STEPPED = false →
    s.tim.ppsLast = some (s.dtRef * 4000 + sub - 10 ^ 12) → 250000000 ≤ s.dtRef → s.flag Reg.TIM_STATUS_SEC_WANTED = false →
    Does (.ppsEdge rising sub (some ten)) s fun t =>
      t = (({ s with tim := { s.tim with ppsLast := some (s.dtRef * 4000 + sub), ppsBad := 0, synRate := some ten } } : State).put Reg.TIM_PPS_SEC_SEC
        (s.get Reg.TIM_PPS_SEC_SEC + 1)).timeSample (centred (etMod * 1000) ((s.get Reg.TIM_PPS_SEC_SEC : Int) * 10 ^ 12 - ((s.et : Int) * 1000 + sub)))) ∧
  (∀ (rising : Bool) (sub : Nat) (ten : Option Int) (s : State), (s.following 2 = false ∨ rising = s.flag Reg.TIM_PPS_CFG_POL) → Does (.ppsEdge rising sub ten) s fun t => t = s) ∧
  (∀ (rising : Bool) (sub : Nat) (ten : Option Int) (s : State), s.following 2 = true → rising = !s.flag Reg.TIM_PPS_CFG_POL → s.flag Reg.TIM_STATUS_STEPPED = true →
    s.get Reg.TIM_PPS_CFG_WIN * 100000 < (ppsError (s.etPs sub)).natAbs → s.tim.ppsBad < 2 →
    s.get Reg.TIM_PPS_REJ_COUNT + 1 < 2 ^ 32 - 1 → Does (.ppsEdge rising sub ten) s fun t =>
      t.get Reg.TIM_PPS_REJ_COUNT = s.get Reg.TIM_PPS_REJ_COUNT + 1 ∧ t.get Reg.TIM_INT_PPS_REJ = 1 ∧
      Only [Reg.TIM_PPS_REJ_COUNT, Reg.TIM_INT_PPS_REJ] s t { s with regs := t.regs, tim := { s.tim with ppsBad := s.tim.ppsBad + 1, synRate := ten } }) ∧
  (∀ (rising : Bool) (sub : Nat) (ten : Int) (s : State), s.following 2 = true → rising = !s.flag Reg.TIM_PPS_CFG_POL → s.flag Reg.TIM_STATUS_STEPPED = true →
    s.flag Reg.TIM_STATUS_SEC_WANTED = false → (ppsError (s.etPs sub)).natAbs ≤ s.get Reg.TIM_PPS_CFG_WIN * 100000 → Does (.ppsEdge rising sub (some ten)) s fun t =>
      t = (({ s with tim := { s.tim with ppsLast := some (s.dtRef * 4000 + sub), ppsBad := 0, synRate := some ten } } : State).put Reg.TIM_PPS_SEC_SEC
        (s.get Reg.TIM_PPS_SEC_SEC + 1)).timeSample (ppsError (s.etPs sub))) ∧
  (∀ s, s.following 2 = true → s.tim.ppsBad = 2 → s.get Reg.TIM_STATUS_STATE = 4 → Does .ppsEdgeMissing s fun t =>
    t.get Reg.TIM_STATUS_STATE = 5 ∧ t.get Reg.TIM_INT_HOLDOVER = 1 ∧ t.tim.ppsBad = 0 ∧
    Only [Reg.TIM_STATUS_STATE, Reg.TIM_INT_HOLDOVER] s t { s with regs := t.regs, tim := t.tim }) ∧
  (∀ s, s.following 2 = true → s.get Reg.TIM_STATUS_STATE = 4 → Does .tenMhzLoss s fun t =>
    t.get Reg.TIM_STATUS_STATE = 5 ∧ t.get Reg.TIM_INT_HOLDOVER = 1 ∧ t.tim.synRate = none ∧
    Only [Reg.TIM_STATUS_STATE, Reg.TIM_INT_HOLDOVER] s t { s with regs := t.regs, tim := t.tim }) ∧
  (∀ sec s, s.responds 0x40084 = true → Does (.ppsSecondWrite sec) s fun t => t.get Reg.TIM_PPS_SEC_SEC = trunc 48 sec ∧
    t.get Reg.TIM_STATUS_SEC_WANTED = 0 ∧ RegsOnly [Reg.TIM_PPS_SEC_SEC, Reg.TIM_STATUS_SEC_WANTED] s t) ∧
  (∀ s, s.flag Reg.TIM_CTRL_PPS_OUT_EN = true → s.etValid = true → s.tim.ppsOut = none → s.et % 1000000000 ≠ 0 → Does .ppsOutRise s fun t =>
    t.dtRef = max s.dtRef (s.dtRef + (1000000000 - s.et % 1000000000) / 4) % 2 ^ 64 ∧ t.tim.ppsOut = some t.dtRef ∧
    Only timeFields s t { s with regs := t.regs, dtRef := t.dtRef, tim := { s.tim with ppsOut := t.tim.ppsOut, ppsOutSec := t.tim.ppsOutSec } }) ∧
  (∀ d s, s.tim.ppsOut = some d → Does .ppsOutFall s fun t => t.tim.ppsOut = none ∧
    t.dtRef = max s.dtRef (d + 250 * max 1 (s.get Reg.TIM_PPS_CFG_OUT_WIDTH)) % 2 ^ 64 ∧
    Only timeFields s t { s with regs := t.regs, dtRef := t.dtRef, tim := { s.tim with ppsOut := none } }) ∧
  (∀ (n : Nat) (s : State), n < 4 → s.sys.phase = .running → Does .epochBoundary s fun t => t.dtRef = (epochOf s.dtRef + 1) * 2 ^ 21 % 2 ^ 64 ∧
    ((t.get Reg.TIM_TSKEW_DELAY n : Int) - s.get Reg.TIM_TSKEW_DELAY n).natAbs ≤ 2) ∧
  (∀ s, s.responds 0x40008 = true → Does .timSnap s fun t => t.get Reg.TIM_SNAP_DT_DT = s.dtRef % 2 ^ 64 ∧
    t.get Reg.TIM_SNAP_ET_SEC_SEC = s.et / 1000000000 % 2 ^ 48 ∧ t.get Reg.TIM_SNAP_ET_NS_NS = s.et % 1000000000 ∧
    t.get Reg.TIM_SNAP_AT_AT = s.et % 2 ^ 64 ∧ s.et = (s.etOff + 4 * s.dtRef) % (2 ^ 48 * 1000000000) ∧
    RegsOnly [Reg.TIM_SNAP_DT_DT, Reg.TIM_SNAP_ET_SEC_SEC, Reg.TIM_SNAP_ET_NS_NS, Reg.TIM_SNAP_AT_AT] s t) ∧
  (∀ (val n : Nat) (delays : List Nat) (s : State), n < 4 → delays.length = 4 → val.testBit 8 = true → s.responds 0x400B0 = true → Does (.skewForce val delays) s fun t => t.get Reg.TIM_SKEW_INTERVAL = val % 256 ∧
    t.tim = { s.tim with skewTarget := delays, skewEpoch := epochOf s.dtRef } ∧
    (t.flag Reg.TIM_TSKEW_PENDING n = decide (100 < ((delays.getD n 0 : Int) - s.get Reg.TIM_TSKEW_DELAY n).natAbs) ∧
      (t.flag Reg.TIM_TSKEW_PENDING n = true → t.get Reg.TIM_INT_SKEW_JUMP = 1)) ∧
    Only [Reg.TIM_TSKEW_PENDING, Reg.TIM_INT_SKEW_JUMP, Reg.TIM_SKEW_INTERVAL] s t { s with regs := t.regs, tim := t.tim }) ∧
  (∀ delays s, delays.length = 4 → s.sys.phase = .running → s.get Reg.TIM_SKEW_INTERVAL ≠ 0 → Does (.skewRecalibrate delays) s fun t =>
    t.dtRef = max s.dtRef ((s.tim.skewEpoch + s.get Reg.TIM_SKEW_INTERVAL) * 2 ^ 21) % 2 ^ 64 ∧
    t.tim = { s.tim with skewTarget := delays, skewEpoch := epochOf t.dtRef } ∧
    Only (Reg.TIM_TSKEW_PENDING :: Reg.TIM_INT_SKEW_JUMP :: timeFields) s t { s with regs := t.regs, dtRef := t.dtRef, tim := t.tim }) ∧
  (∀ s, s.responds 0x400E8 = true → Does .timCntClr s fun t => t.get Reg.TIM_PPS_REJ_COUNT = 0 ∧ t.get Reg.TIM_LATE_COUNT = 0 ∧
    t.get Reg.TIM_TOOFAR_COUNT = 0 ∧ RegsOnly [Reg.TIM_PPS_REJ_COUNT, Reg.TIM_LATE_COUNT, Reg.TIM_TOOFAR_COUNT] s t)

/-- The region map, the cluster engines and the rate monitors: A whole entry enters the shadow table, and with the event path off the
active one too, and no other entry moves; a commit waits for the next epoch boundary, which makes the shadow table active and keeps
the old one, and a second commit before that is refused; a hit released at its edge seeds a cluster when none is near; a cluster that
closes with its seed in the territory sends its record, and one whose seed lies outside sends none; a rate window reports its count
and the rise of HIGH; and the counters of both blocks clear. -/
def Obligations.RegionMapAndClusters : Prop :=
  (∀ entry v k s, entry < 65536 → s.responds (0x100000 + 8 * entry) = true → bits v 12 2 ≠ 3 → s.flag Reg.EVT_CTRL_EN = true →
    Does (.rmapEntryWrite entry 2 v) s fun t =>
      t = { s with evt := { s.evt with half := none, shd := s.evt.shd.set rmapReset entry (v % 2 ^ 27) } } ∧ rmapAt t.evt.shd entry = v % 2 ^ 27 ∧
      (k = entry ∨ rmapAt t.evt.shd k = rmapAt s.evt.shd k)) ∧
  (∀ entry v s, entry < 65536 → s.responds (0x100000 + 8 * entry) = true → bits v 12 2 ≠ 3 → s.flag Reg.EVT_CTRL_EN = false →
    Does (.rmapEntryWrite entry 2 v) s fun t => rmapAt t.evt.act entry = v % 2 ^ 27 ∧ rmapAt t.evt.shd entry = v % 2 ^ 27 ∧
      t = { s with evt := { s.evt with half := none, shd := t.evt.shd, act := t.evt.act } }) ∧
  (∀ entry v s, entry < 65536 → s.responds (0x100000 + 8 * entry) = true → bits v 12 2 = 3 → Does (.rmapEntryWrite entry 2 v) s fun t =>
    t.get Reg.EVT_INT_RMAP_ERR = 1 ∧ t.get Reg.EVT_RMAP_ERRIDX_INDEX = entry ∧
    Only [Reg.EVT_INT_RMAP_ERR, Reg.EVT_RMAP_ERRIDX_INDEX] s t { s with regs := t.regs, evt := { s.evt with half := none } }) ∧
  (∀ (entry v : Nat) (s : State), entry < 65536 → s.responds (0x100000 + 8 * entry) = true → Does (.rmapEntryWrite entry 0 v) s fun t =>
    t = { s with evt := { s.evt with half := some (entry, v % 2 ^ 32) } }) ∧
  (∀ entry w v s, entry < 65536 → s.responds (0x100000 + 8 * entry) = true → s.responds (0x100004 + 8 * entry) = true → bits w 12 2 ≠ 3 →
    s.flag Reg.EVT_CTRL_EN = true → s.evt.half = some (entry, w) → Does (.rmapEntryWrite entry 1 v) s fun t =>
      t = { s with evt := { s.evt with half := none, shd := s.evt.shd.set rmapReset entry (w % 2 ^ 27) } }) ∧
  (∀ val s, val.testBit 0 = true → s.responds 0x80010 = true → s.flag Reg.EVT_RMAP_STATUS_PENDING = false → s.flag Reg.EVT_RMAP_STATUS_BUSY = false →
    Does (.rmapCommit val) s fun t => t.get Reg.EVT_RMAP_STATUS_PENDING = 1 ∧ t.get Reg.EVT_RMAP_CTRL_READ_ACTIVE = bits val 1 1 ∧
      RegsOnly [Reg.EVT_RMAP_STATUS_PENDING, Reg.EVT_RMAP_CTRL_READ_ACTIVE] s t) ∧
  (∀ val s, val.testBit 0 = true → s.responds 0x80010 = true → (s.flag Reg.EVT_RMAP_STATUS_PENDING = true ∨ s.flag Reg.EVT_RMAP_STATUS_BUSY = true) →
    Does (.rmapCommit val) s fun t => t.get Reg.EVT_INT_REFUSED = 1 ∧ RegsOnly [Reg.EVT_INT_REFUSED, Reg.EVT_RMAP_CTRL_READ_ACTIVE] s t) ∧
  (∀ (epoch : Nat) (s : State), s.flag Reg.EVT_RMAP_STATUS_PENDING = true → (s.rmapEpoch epoch).2 = true ∧ (s.rmapEpoch epoch).1.evt =
      { s.evt with old := s.evt.act, act := s.evt.shd, since := epoch } ∧ (s.rmapEpoch epoch).1.get Reg.EVT_RMAP_STATUS_PENDING = 0 ∧
    (s.rmapEpoch epoch).1.get Reg.EVT_RMAP_STATUS_BUSY = 1 ∧ (s.rmapEpoch epoch).1.get Reg.EVT_INT_RMAP_COMMITTED = 1 ∧
    (s.rmapEpoch epoch).1.get Reg.EVT_RMAP_STATUS_GEN = trunc Reg.EVT_RMAP_STATUS_GEN.width (s.get Reg.EVT_RMAP_STATUS_GEN + 1)) ∧
  (∀ (engine : Nat) (errs : List Nat) (r : RHit) (s : State), engine < 8 → (s.engine engine).buf = [r] → (s.engine engine).opn = [] → s.dtRef < 2 ^ 64 → r.due < 2 ^ 64 →
    engine < s.evt.eng.length → Does (.clusterRelease engine errs) s fun t => t.dtRef = max s.dtRef r.due ∧ (t.engine engine).buf = [] ∧
      (t.engine engine).opn = [{ hits := [r.hit], rule := r.rule, vals := (s.advanceTo r.due).ruleVals r.rule, stream := r.stream, late := r.late }] ∧
      t.get Reg.CLU_OCC_OPEN 0 engine = 1 ∧
      Only ([Reg.CLU_OCC_OPEN, Reg.CLU_OCC_PEAK] ++ timeFields) s t { s with regs := t.regs, dtRef := t.dtRef, evt := { s.evt with eng := t.evt.eng } }) ∧
  (∀ (engine : Nat) (errs : List Nat) (c : Cluster) (s : State), engine < 8 → (s.engine engine).opn = [c] → s.dtRef < 2 ^ 64 → c.closeAt < 2 ^ 64 → errs.headD 0 = 0 → bit ((s.advanceTo c.closeAt).get Reg.CLU_CTRL_EN) engine = true →
    inRect ((s.advanceTo c.closeAt).territory engine) c.seed.row c.seed.col = true → c.vals.single = false → c.late = false →
    seamOf ((s.advanceTo c.closeAt).visible engine) c = false → Does (.clusterClose engine errs) s fun t =>
      t = (((s.advanceTo c.closeAt).setEngine engine { s.engine engine with opn := [] }).ccount Reg.CLU_RECORDS_COUNT engine).mapTo c.stream 2
        { words := [(clusterRecord c false false / 2 ^ 32, false), (clusterRecord c false false % 2 ^ 32, false)], epoch := some c.seed.epoch
          lo := c.seed.ref, hi := c.seed.ref }) ∧
  (∀ (engine : Nat) (errs : List Nat) (c : Cluster) (s : State), engine < 8 → (s.engine engine).opn = [c] → s.dtRef < 2 ^ 64 → c.closeAt < 2 ^ 64 →
    (bit ((s.advanceTo c.closeAt).get Reg.CLU_CTRL_EN) engine = false ∨ inRect ((s.advanceTo c.closeAt).territory engine) c.seed.row c.seed.col = false) → Does (.clusterClose engine errs) s fun t =>
      t = (s.advanceTo c.closeAt).setEngine engine { s.engine engine with opn := [] }) ∧
  (∀ (engine : Nat) (errs : List Nat) (c : Cluster) (s : State), engine < 8 → (s.engine engine).opn = [c] → s.dtRef < 2 ^ 64 → c.closeAt < 2 ^ 64 → 1 ≤ errs.headD 0 →
    bit ((s.advanceTo c.closeAt).get Reg.CLU_CTRL_EN) engine = true → inRect ((s.advanceTo c.closeAt).territory engine) c.seed.row c.seed.col = true →
    Does (.clusterClose engine errs) s fun t => t.get Reg.CLU_INT_RECOMP = 1 ∧ (errs.headD 0 = 2 → t.get Reg.CLU_INT_POISON = 1) ∧ (t.engine engine).opn = []) ∧
  (∀ (group : Nat) (s : State), group < 256 → s.flag Reg.EVT_RATE_CFG_EN 0 group = true → s.flag Reg.EVT_RATE_STATE_HIGH 0 group = false → s.shadow = [] →
    s.get Reg.EVT_RATE_HI_HI 0 group ≤ s.evt.rate.get 0 group → s.flag Reg.EVT_RATE_CFG_STATUS_EN 0 group = false →
    s.flag Reg.TRG_PRIM_CFG_EN 0 (40 + group) = false → Does (.rateWindowEnd group) s fun t =>
      t.get Reg.EVT_RATE_LAST_COUNT 0 group = min (s.evt.rate.get 0 group) (2 ^ 32 - 1) ∧ t.get Reg.EVT_RATE_STATE_HIGH 0 group = 1 ∧
      (t.get Reg.EVT_RATE_FLAG_FLAG (group / 32)).testBit (group % 32) = true ∧ t.get Reg.EVT_INT_RATE = 1 ∧ t.evt.rate.get 0 group = 0 ∧
      t.dtRef = max s.dtRef (s.rateDue group) % 2 ^ 64 ∧ t.evt.rateAt.get 0 group = t.dtRef ∧
      Only ([Reg.EVT_RATE_LAST_COUNT, Reg.EVT_RATE_STATE_HIGH, Reg.EVT_RATE_FLAG_FLAG, Reg.EVT_INT_RATE] ++ timeFields) s t
        { s with regs := t.regs, dtRef := t.dtRef, evt := { s.evt with rate := t.evt.rate, rateAt := t.evt.rateAt } }) ∧
  (∀ (group : Nat) (s : State), group < 256 → s.dtRef < 2 ^ 63 → s.evt.rateAt.get 0 group ≤ s.dtRef → s.rateDue group % 2 ^ max 8 (min 24 (s.get Reg.EVT_RATE_CFG_WLOG 0 group)) = 0 ∧
    s.evt.rateAt.get 0 group < s.rateDue group ∧ s.rateDue group ≤ s.dtRef + 2 ^ max 8 (min 24 (s.get Reg.EVT_RATE_CFG_WLOG 0 group))) ∧
  (∀ s, s.responds 0x80034 = true → Does .evtCntClr s fun t =>
    (∀ f ∈ [Reg.EVT_MASKED_COUNT, Reg.EVT_GAP_MASKED_COUNT, Reg.EVT_UNROUTED_COUNT, Reg.EVT_STALE_COUNT, Reg.EVT_POISON_COUNT], t.get f = 0) ∧
    RegsOnly [Reg.EVT_MASKED_COUNT, Reg.EVT_GAP_MASKED_COUNT, Reg.EVT_UNROUTED_COUNT, Reg.EVT_STALE_COUNT, Reg.EVT_POISON_COUNT] s t) ∧
  (∀ s, s.responds 0x810B8 = true → Does .cluCntClr s fun t =>
    (∀ e ∈ List.range 8, ∀ f ∈ [Reg.CLU_HITS_COUNT, Reg.CLU_RECORDS_COUNT, Reg.CLU_LATE_COUNT, Reg.CLU_SPLIT_COUNT, Reg.CLU_SEAM_COUNT, Reg.CLU_RECOMP_COUNT,
      Reg.CLU_POISON_COUNT, Reg.CLU_FULL_COUNT, Reg.CLU_BYPASS_COUNT, Reg.CLU_OCC_PEAK], t.get f 0 e = 0) ∧
    RegsOnly [Reg.CLU_HITS_COUNT, Reg.CLU_RECORDS_COUNT, Reg.CLU_LATE_COUNT, Reg.CLU_SPLIT_COUNT, Reg.CLU_SEAM_COUNT, Reg.CLU_RECOMP_COUNT,
      Reg.CLU_POISON_COUNT, Reg.CLU_FULL_COUNT, Reg.CLU_BYPASS_COUNT, Reg.CLU_OCC_PEAK] s t)

/-- Streams and packets: A packet carries the header of R166 with the next SEQ of its stream; an enabled stream restarts with SEQ 0
and RESTART, one without a sink is refused; an open packet closes FLUSH ref after it opened; EVT_CTRL.EN that rises restarts every
enabled stream, and EN that falls stops the path. -/
def Obligations.Streams : Prop :=
  (∀ (n ty : Nat) (items : List SItem) (keep : Bool) (s : State), n < 64 → ty < 16 → List.length items < 1024 → (s.form n ty items keep).1.get Reg.EVT_STRM_STATn_NEXT_SEQ n =
      (s.get Reg.EVT_STRM_STATn_NEXT_SEQ n + 1) % 65536 ∧ ((s.form n ty items keep).1.strm n).restart = false ∧
    (s.form n ty items keep).2.words = (pktHeader ty n items.length (s.get Reg.EVT_STRM_STATn_NEXT_SEQ n) (s.strm n).restart, false) :: pktBody ty items ∧
    bits (pktHeader ty n items.length (s.get Reg.EVT_STRM_STATn_NEXT_SEQ n) (s.strm n).restart) 56 8 = 0xA5 ∧
    bits (pktHeader ty n items.length (s.get Reg.EVT_STRM_STATn_NEXT_SEQ n) (s.strm n).restart) 52 4 = ty ∧
    bits (pktHeader ty n items.length (s.get Reg.EVT_STRM_STATn_NEXT_SEQ n) (s.strm n).restart) 46 6 = n ∧
    bits (pktHeader ty n items.length (s.get Reg.EVT_STRM_STATn_NEXT_SEQ n) (s.strm n).restart) 36 10 = items.length ∧
    bits (pktHeader ty n items.length (s.get Reg.EVT_STRM_STATn_NEXT_SEQ n) (s.strm n).restart) 20 16 = s.get Reg.EVT_STRM_STATn_NEXT_SEQ n % 65536 ∧
    (pktHeader ty n items.length (s.get Reg.EVT_STRM_STATn_NEXT_SEQ n) (s.strm n).restart).testBit 19 = (s.strm n).restart) ∧
  (∀ stream val s, stream < 64 → val.testBit 0 = true → s.responds (0x80100 + 8 * stream) = true → s.flag Reg.EVT_STRM_CFGn_EN stream = false →
    (s.sink stream).pkind ≠ 0 → (s.sink stream).pkind ≠ 2 → Does (.streamEnable stream val) s fun t => t.get Reg.EVT_STRM_CFGn_EN stream = 1 ∧
      t.get Reg.EVT_STRM_CFGn_MAXITEM stream = bits val 1 9 ∧ t.get Reg.EVT_STRM_CFGn_FLUSH stream = bits val 16 16 ∧
      t.get Reg.EVT_STRM_STATn_NEXT_SEQ stream = 0 ∧ t.strm stream = { s.strm stream with restart := true, marker := none, stale := none } ∧
      Only [Reg.EVT_STRM_CFGn_EN, Reg.EVT_STRM_CFGn_MAXITEM, Reg.EVT_STRM_CFGn_FLUSH, Reg.EVT_STRM_STATn_NEXT_SEQ] s t
        { s with regs := t.regs, evt := { s.evt with strm := t.evt.strm } }) ∧
  (∀ stream val s, stream < 64 → val.testBit 0 = true → s.responds (0x80100 + 8 * stream) = true → s.flag Reg.EVT_STRM_CFGn_EN stream = false →
    (s.sink stream).pkind = 0 → Does (.streamEnable stream val) s fun t => t.get Reg.EVT_STRM_CFGn_EN stream = s.get Reg.EVT_STRM_CFGn_EN stream ∧
      t.get Reg.EVT_INT_REFUSED = 1 ∧ RegsOnly [Reg.EVT_STRM_CFGn_MAXITEM, Reg.EVT_STRM_CFGn_FLUSH, Reg.EVT_INT_REFUSED] s t) ∧
  (∀ stream val s, stream < 64 → val.testBit 0 = false → s.responds (0x80100 + 8 * stream) = true → s.flag Reg.EVT_STRM_CFGn_EN stream = true →
    (s.strm stream).opn = none → (s.sink stream).pkind ≠ 2 → Does (.streamDisable stream val) s fun t => t.get Reg.EVT_STRM_CFGn_EN stream = 0 ∧
      RegsOnly [Reg.EVT_STRM_CFGn_EN, Reg.EVT_STRM_CFGn_MAXITEM, Reg.EVT_STRM_CFGn_FLUSH] s t) ∧
  (∀ stream p s, stream < 64 → (s.strm stream).opn = some p → Does (.packetFlush stream) s fun t =>
    t = (s.advanceTo (p.since + max 1 (s.get Reg.EVT_STRM_CFGn_FLUSH stream))).closePkt stream ∧ (t.strm stream).opn = none) ∧
  (∀ val s, val.testBit 0 = true → s.responds 0x80000 = true → s.flag Reg.EVT_CTRL_EN = false → Does (.evtEnable val) s fun t =>
    t.get Reg.EVT_CTRL_EN = 1 ∧ t.get Reg.EVT_CTRL_POISON_STREAM = bits val 8 6 ∧
    (∀ n ∈ List.range 64, s.flag Reg.EVT_STRM_CFGn_EN n = true → t.get Reg.EVT_STRM_STATn_NEXT_SEQ n = 0 ∧ (t.strm n).restart = true) ∧
    Only [Reg.EVT_CTRL_EN, Reg.EVT_CTRL_POISON_STREAM, Reg.EVT_STRM_STATn_NEXT_SEQ] s t { s with regs := t.regs, evt := { s.evt with strm := t.evt.strm } }) ∧
  (∀ (val n : Nat) (s : State), n < 64 → val.testBit 0 = false → s.responds 0x80000 = true → s.flag Reg.EVT_CTRL_EN = true → Does (.evtDisable val) s fun t =>
    t.get Reg.EVT_CTRL_EN = 0 ∧ (t.strm n).opn = none ∧ t.mem = s.mem ∧ t.dtRef = s.dtRef) ∧
  (∀ val s, val.testBit 0 = false → s.responds 0x80000 = true → s.flag Reg.EVT_CTRL_EN = true → (∀ n ∈ List.range 64, (s.strm n).opn = none) →
    Does (.evtDisable val) s fun t => t.get Reg.EVT_CTRL_EN = 0 ∧ t.get Reg.EVT_CTRL_POISON_STREAM = s.get Reg.EVT_CTRL_POISON_STREAM ∧
      RegsOnly [Reg.EVT_CTRL_EN, Reg.EVT_INT_REFUSED] s t)

/-- Trigger primitives and the sample: An enabled primitive is counted and presents a pulse of STRETCH ref whose time is moved by
SKEW, and one that arrives during a pulse extends it; a disabled one presents nothing; a pulse that a wave has taken ends at its edge;
a time-of-day comparator fires at its target, disables itself or moves on by PERIOD; a host fire is an event of this edge; one
condition whose output rises fires its armed template into the pending store; a stopped mask unit rearms; and the counters clear. -/
def Obligations.TriggerPrimitives : Prop :=
  (∀ (prim : Nat) (b : Int) (s : State), prim < 344 → s.flag Reg.TRG_PRIM_CFG_EN 0 prim = true → Does (.primitiveEvent prim b) s fun t =>
    let ev : PrimEv := { t := b + toInt 24 (s.get Reg.TRG_PRIM_CFG_SKEW 0 prim) }
    let from_ := ((s.trg.pulses.find? fun x => x.prim == prim && !(x.taken && decide (x.stop ≤ s.dtRef))).map (·.from_)).getD (s.dtRef + 1)
    t.trg.pulses = (s.trg.pulses.filter fun x => x.prim != prim) ++
      [{ prim := prim, ev := ev, from_ := from_, stop := s.dtRef + 1 + max 1 (s.get Reg.TRG_PRIM_CFG_STRETCH 0 prim) }] ∧
    t = (({ s.gcount Reg.TRG_PRIM_CNT_COUNT 0 prim with trg := { s.trg with pulses := t.trg.pulses } } : State).auxPrim prim).gateEvent prim ev.t) ∧
  (∀ (prim : Nat) (b : Int) (s : State), prim < 512 → s.flag Reg.TRG_PRIM_CFG_EN 0 prim = false → Does (.primitiveEvent prim b) s fun t => t = s) ∧
  (∀ (prim : Nat) (x : Pulse) (s : State), prim < 512 → (s.trg.pulses.find? fun x => x.prim == prim) = some x → x.taken = true →
    Does (.primitivePulseEnd prim) s fun t => t = { s.advanceTo x.stop with trg := { (s.advanceTo x.stop).trg with
      pulses := (s.advanceTo x.stop).trg.pulses.filter fun y => y.prim != prim } }) ∧
  (∀ (tod : Nat) (s : State), tod < 16 → s.flag Reg.TRG_TOD_SEC_HI_EN 0 tod = true → s.etValid = true → s.trg.todLate = [] → let g := s.todTarget tod
    (s.get Reg.TRG_TOD_PERIOD_PERIOD 0 tod = 0 → Does (.todFire tod) s fun t => let u := s.advanceTo (s.etEdge g)
      t = (u.put Reg.TRG_TOD_SEC_HI_EN 0 0 tod).prim (328 + tod) { t := u.dtNs g * 128 }) ∧
    (0 < s.get Reg.TRG_TOD_PERIOD_PERIOD 0 tod → Does (.todFire tod) s fun t => t.get Reg.TRG_TOD_SEC_HI_EN 0 tod = 1 ∧
      t.todTarget tod = (g + 4 * s.get Reg.TRG_TOD_PERIOD_PERIOD 0 tod) % (2 ^ 48 * 1000000000) ∧ t.dtRef = max s.dtRef (s.etEdge g) % 2 ^ 64)) ∧
  (∀ (tod : Nat) (s : State), tod < 16 → s.flag Reg.TRG_TOD_SEC_HI_EN 0 tod = true → s.etValid = true → s.trg.todLate = [tod] →
    s.get Reg.TRG_TOD_PERIOD_PERIOD 0 tod = 0 → Does (.todFire tod) s fun t =>
      t = (({ s with trg := { s.trg with todLate := [] } } : State).put Reg.TRG_TOD_SEC_HI_EN 0 0 tod).prim (328 + tod)
        { t := s.dtRef * 512, late := true }) ∧
  (∀ (n : Nat) (s : State), n < 2 ^ 62 → (s.etOff + (s.dtNs n).toNat) % (2 ^ 48 * 1000000000) = n % (2 ^ 48 * 1000000000) ∨ s.dtNs n < 0) ∧
  (∀ (code : Nat) (s : State), code < 16 → s.responds 0xA0068 = true → Does (.hostFire code) s fun t =>
    t = s.prim (312 + code) { t := s.dtRef * 512 }) ∧
  (∀ (c k : Nat) (s : State), c < 64 → k < 16 → s.flag Reg.TRG_CTRL_EN = true → s.trg.out = 2 ^ c → s.trg.prev = 0 →
    s.flag Reg.TRG_COND_CFG_EN 0 c = true → s.get Reg.TRG_COND_CFG_TMPL 0 c = k → s.flag Reg.TRG_COND_CFG_NOCAP 0 c = false →
    s.flag Reg.TRG_COND_CFG_SEND 0 c = false → s.get Reg.TRG_COND_CFG_TSRC 0 c = 0x1FF → (∀ u ∈ List.range 8, s.flag Reg.TRG_MASK_CFG_EN 0 u = false) →
    s.get Reg.TRG_TMPL_STATUS_STATE 0 k = 1 → s.get Reg.TRG_TMPL_CFG_HOLD_MODE 0 k = 0 → s.isBurst k = false →
    (s.tmpl k).armAt ≤ s.dtRef → s.trg.pend.length < 64 → Does .triggerSample s fun t =>
      t.trg.pend = s.trg.pend ++ [{ tmpl := k, ev := { t := s.dtRef * 512 }, cause := 2 ^ c, at_ := s.dtRef }] ∧ t.trg.prev = s.trg.out ∧
      t.get Reg.TRG_STATUS_PEND = s.trg.pend.length + 1 ∧ t.get Reg.TRG_COND_CNT_COUNT 0 c = min (2 ^ 32 - 1) (s.get Reg.TRG_COND_CNT_COUNT 0 c + 1) ∧
      Only [Reg.TRG_COND_CNT_COUNT, Reg.TRG_INT_CNT_SAT, Reg.TRG_STATUS_PEND, Reg.TRG_STATUS_PEND_PEAK] s t
        { s with regs := t.regs, trg := { s.trg with prev := 2 ^ c, pend := t.trg.pend, tmpl := t.trg.tmpl } }) ∧
  (∀ (s : State), s.trg.out = s.trg.prev → Does .triggerSample s fun t => t = s) ∧
  (∀ (s : State), s.responds 0xA0158 = true → s.get Reg.TRG_MASK_STATUS_STATE 0 (s.get Reg.TRG_MASK_SEL_UNIT) = 2 → s.shadow = [] →
    Does .maskRearm s fun t => t.get Reg.TRG_MASK_STATUS_STATE 0 (s.get Reg.TRG_MASK_SEL_UNIT) = 0 ∧
      Only [Reg.TRG_MASK_STATUS_STATE] s t { s with regs := t.regs, trg := { s.trg with mask := t.trg.mask } }) ∧
  (∀ (i j : Nat) (s : State), s.responds 0xA01F0 = true → Does .trgCntClr s fun t =>
    (t.get Reg.TRG_RING_OVR_COUNT i j = 0 ∧ t.get Reg.TRG_PRIM_CNT_COUNT i j = 0 ∧ t.get Reg.TRG_COND_CNT_COUNT i j = 0 ∧
      t.get Reg.TRG_TMPL_MISSED_COUNT i j = 0 ∧ t.get Reg.TRG_MASK_STATUS_VCOUNT i j = 0) ∧ t.get Reg.TRG_STATUS_PEND_PEAK = 0 ∧
    RegsOnly [Reg.TRG_RING_OVR_COUNT, Reg.TRG_LAGGED_COUNT, Reg.TRG_PRIM_CNT_COUNT, Reg.TRG_COND_CNT_COUNT, Reg.TRG_TMPL_OPENED_COUNT,
      Reg.TRG_TMPL_HELD_COUNT, Reg.TRG_TMPL_MISSED_COUNT, Reg.TRG_FLARE_IN_COUNT, Reg.TRG_FLARE_OUT_COUNT, Reg.TRG_NOTIME_COUNT,
      Reg.TRG_TRUNC_COUNT, Reg.TRG_CLASH_COUNT, Reg.TRG_MASK_STATUS_VCOUNT, Reg.TRG_STATUS_PEND_PEAK] s t)

/-- Templates, arming and flares: Arming runs the checks and a template that passes is ARM_PENDING until its arm time, then ARMED; one
that fails stays DISARMED with its error; a disarm acts at once, or at the time of a disarm flare; EN rises and falls as R202 and R210
say; and a flare is sent, or counted in TRG_NOTIME without a valid ET. -/
def Obligations.TemplatesAndFlares : Prop :=
  (∀ (mask k : Nat) (s : State), k < 16 → mask = 2 ^ k → s.responds 0xA00D0 = true → s.armError k = 0 → k < s.trg.tmpl.length → Does (.templateArm mask) s fun t =>
    t.get Reg.TRG_TMPL_STATUS_STATE 0 k = 2 ∧ t.get Reg.TRG_TMPL_STATUS_ERR 0 k = 0 ∧ (t.tmpl k).armAt = s.dtRef ∧ (t.tmpl k).due = s.dtRef + 1 ∧
    Only [Reg.TRG_TMPL_STATUS_STATE, Reg.TRG_TMPL_STATUS_ERR] s t { s with regs := t.regs, trg := { s.trg with tmpl := t.trg.tmpl } }) ∧
  (∀ (mask k : Nat) (s : State), k < 16 → mask.testBit k = true → s.responds 0xA00D0 = true → (∀ j ∈ List.range 16, mask.testBit j = true → s.armError j = 0) → k < s.trg.tmpl.length →
    Does (.templateArm mask) s fun t => t.get Reg.TRG_TMPL_STATUS_STATE 0 k = 2 ∧ t.get Reg.TRG_TMPL_STATUS_ERR 0 k = 0 ∧ (t.tmpl k).armAt = s.dtRef ∧
      Only [Reg.TRG_TMPL_STATUS_STATE, Reg.TRG_TMPL_STATUS_ERR] s t { s with regs := t.regs, trg := { s.trg with tmpl := t.trg.tmpl } }) ∧
  (∀ (mask k : Nat) (s : State), k < 16 → mask = 2 ^ k → s.responds 0xA00D0 = true → s.armError k ≠ 0 → Does (.templateArm mask) s fun t =>
    t.get Reg.TRG_TMPL_STATUS_STATE 0 k = 0 ∧ t.get Reg.TRG_TMPL_STATUS_ERR 0 k = s.armError k ∧ t.get Reg.TRG_INT_ARM_ERR = 1 ∧
    Only [Reg.TRG_TMPL_STATUS_STATE, Reg.TRG_TMPL_STATUS_ERR, Reg.TRG_INT_ARM_ERR] s t
      { s with regs := t.regs, frm := { s.frm with burst := t.frm.burst } }) ∧
  (∀ (k : Nat) (s : State), k < 16 → s.flag Reg.EVT_STRM_CFGn_EN (s.get Reg.TRG_TMPL_CFG_STREAM 0 k) = false → s.armError k = 1) ∧
  (∀ (tmpl : Nat) (s : State), tmpl < 16 → s.get Reg.TRG_TMPL_STATUS_STATE 0 tmpl = 2 → (s.advanceTo (s.tmpl tmpl).due).armError tmpl = 0 →
    s.isBurst tmpl = false → Does (.templateArmed tmpl) s fun t =>
      t.get Reg.TRG_TMPL_STATUS_STATE 0 tmpl = 1 ∧ t = (s.advanceTo (s.tmpl tmpl).due).put Reg.TRG_TMPL_STATUS_STATE 1 0 tmpl) ∧
  (∀ (mask : Nat) (s : State), mask < 65536 → s.responds 0xA00D4 = true → Does (.templateDisarm mask) s fun t =>
    (∀ k ∈ List.range 16, mask.testBit k = true → t.get Reg.TRG_TMPL_STATUS_STATE 0 k = 0) ∧
    (∀ k ∈ List.range 16, mask.testBit k = false → t.get Reg.TRG_TMPL_STATUS_STATE 0 k = s.get Reg.TRG_TMPL_STATUS_STATE 0 k) ∧
    Only [Reg.TRG_TMPL_STATUS_STATE] s t { s with regs := t.regs, frm := { s.frm with burst := t.frm.burst } }) ∧
  (∀ (e m : Nat) (s : State), s.trg.disarm = [(e, m)] → Does .disarmFlareDue s fun t => let u := s.advanceTo (s.etEdge e)
    t.dtRef = max s.dtRef (s.etEdge e) % 2 ^ 64 ∧ t.trg.disarm = [] ∧
    (∀ k ∈ List.range 16, m.testBit k = true → t.get Reg.TRG_TMPL_STATUS_STATE 0 k = 0) ∧
    Only (Reg.TRG_TMPL_STATUS_STATE :: timeFields) s t
      { u with regs := t.regs, trg := { u.trg with disarm := [] }, frm := { u.frm with burst := t.frm.burst } }) ∧
  (∀ (val : Nat) (s : State), val.testBit 0 = true → val.testBit 1 = s.flag Reg.TRG_CTRL_RING_EN → s.responds 0xA0000 = true → s.flag Reg.TRG_CTRL_EN = false →
    Does (.triggerEnable val) s fun t => t.get Reg.TRG_CTRL_EN = 1 ∧ t.trg.seen = [] ∧
      t.fab.out = (s.fab.wicks.filter fun (x : Nat × Wick) => x.2.init).map (·.1) ∧
      Only [Reg.TRG_CTRL_EN, Reg.TRG_CTRL_RING_EN] s t
        { s with regs := t.regs, fab := { s.fab with out := t.fab.out, prevLut := t.fab.prevLut, wave := none }, trg := { s.trg with out := t.trg.out, seen := [] } }) ∧
  (∀ (val : Nat) (s : State), val.testBit 0 = true → val.testBit 1 = true → s.flag Reg.TRG_CTRL_EN = false → s.flag Reg.TRG_CTRL_RING_EN = false → s.responds 0xA0000 = true →
    Does (.triggerEnable val) s fun t => t.get Reg.TRG_CTRL_EN = 1 ∧ t.get Reg.TRG_CTRL_RING_EN = 1 ∧ t.trg.ring = {} ∧ t.trg.seen = [] ∧ t.get Reg.TRG_RING_HZN_H = 0 ∧
      t.fab.out = (s.fab.wicks.filter fun (x : Nat × Wick) => x.2.init).map (·.1)) ∧
  (∀ (val k : Nat) (o : OpenCtx) (s : State), k < 16 → k < s.trg.tmpl.length → val.testBit 0 = false → val.testBit 1 = s.flag Reg.TRG_CTRL_RING_EN → s.responds 0xA0000 = true → s.flag Reg.TRG_CTRL_EN = true →
    (s.tmpl k).open_ = [o] → s.isBurst k = false → (s.ctx o.idx).st = 1 → (s.ctx o.idx).tmpl = k → (∀ j ∈ List.range 16, j ≠ k → (s.tmpl j).open_ = []) → s.trg.pend = [] →
    Does (.triggerDisable val) s fun t => t.get Reg.TRG_CTRL_EN = 0 ∧ (t.tmpl k).open_ = [] ∧ (t.ctx o.idx).st = (if o.free then 0 else 3) ∧ (t.ctx o.idx).trunc = true ∧
      t.trg.done = s.trg.done ++ [o.idx] ∧ t.get Reg.TRG_INT_TRUNC = 1) ∧
  (∀ (val : Nat) (s : State), val.testBit 0 = false → val.testBit 1 = s.flag Reg.TRG_CTRL_RING_EN → s.responds 0xA0000 = true → s.flag Reg.TRG_CTRL_EN = true →
    (∀ k ∈ List.range 16, (s.tmpl k).open_ = []) → s.trg.pend = [] →
    Does (.triggerDisable val) s fun t => t.get Reg.TRG_CTRL_EN = 0 ∧
      RegsOnly [Reg.TRG_CTRL_EN, Reg.TRG_CTRL_RING_EN, Reg.TRG_STATUS_PEND, Reg.TRG_STATUS_PEND_PEAK] s t) ∧
  (∀ (k i : Nat) (p : Pending) (s : State), k < 16 → s.trg.pend = [p] → p.tmpl = k → s.isBurst k = false → s.flag Reg.TRG_CTRL_EN = true →
    s.flag Reg.EVT_STRM_CFGn_EN (s.tmplStream k) = false → (∀ k ∈ List.range 16, (s.tmpl k).open_ = []) → s.responds 0xA0000 = true → s.flag Reg.TRG_CTRL_RING_EN = false →
    Does (.triggerDisable (4 * i)) s fun t => t.trg.pend = [] ∧
      t.get Reg.TRG_TMPL_MISSED_COUNT 0 k = min (2 ^ 32 - 1) (s.get Reg.TRG_TMPL_MISSED_COUNT 0 k + 1) ∧ t.get Reg.TRG_INT_MISSED = 1) ∧
  (∀ (val : Nat) (s : State), val.testBit 0 = true → bits val 1 2 = 1 ∨ bits val 1 2 = 2 → s.responds 0xA00E0 = true → s.etValid = true →
    (∀ p ∈ List.range 8, s.lup p = false) → Does (.flareSend val) s fun t => t.lnk.fseq = (s.lnk.fseq + 1) % 65536 ∧
      t.get Reg.TRG_FLARE_CTL_TYPE = bits val 1 2 ∧ t.get Reg.TRG_FLARE_CTL_TMPLMASK = bits val 16 16 ∧
      t.get Reg.TRG_FLARE_OUT_COUNT = min (2 ^ 32 - 1) (s.get Reg.TRG_FLARE_OUT_COUNT + 1) ∧
      Only [Reg.TRG_FLARE_CTL_TYPE, Reg.TRG_FLARE_CTL_TMPLMASK, Reg.TRG_FLARE_OUT_COUNT, Reg.TRG_INT_CNT_SAT] s t
        { s with regs := t.regs, lnk := { s.lnk with fseq := t.lnk.fseq } }) ∧
  (∀ (val n : Nat) (s : State), n < 8 → n < s.lnk.port.length → val.testBit 0 = true → bits val 1 2 = 1 ∨ bits val 1 2 = 2 → s.responds 0xA00E0 = true → s.etValid = true → s.lup n = true →
    Does (.flareSend val) s fun t => t = ((({ (s.put Reg.TRG_FLARE_CTL_TYPE (bits val 1 2)).put Reg.TRG_FLARE_CTL_TMPLMASK (bits val 16 16) with lnk := { s.lnk with fseq := (s.lnk.fseq + 1) % 65536 } } : State).gcount Reg.TRG_FLARE_OUT_COUNT).spreadFlare
        { ftype := bits val 1 2, code := 0, origin := s.moduleId, fseq := s.lnk.fseq, mask := bits val 16 16, sec := s.get Reg.TRG_FLARE_SEC_SEC, ns := s.get Reg.TRG_FLARE_NS_NS, fine := 0 } none) ∧
      (t.lport n).pri.kept ++ (t.lport n).pri.wait ≠ []) ∧
  (∀ (val : Nat) (s : State), val.testBit 0 = true → bits val 1 2 = 1 ∨ bits val 1 2 = 2 → s.responds 0xA00E0 = true → s.etValid = false →
    Does (.flareSend val) s fun t => t.get Reg.TRG_NOTIME_COUNT = min (2 ^ 32 - 1) (s.get Reg.TRG_NOTIME_COUNT + 1) ∧ t.get Reg.TRG_INT_NOTIME = 1 ∧
      RegsOnly [Reg.TRG_FLARE_CTL_TYPE, Reg.TRG_FLARE_CTL_TMPLMASK, Reg.TRG_NOTIME_COUNT, Reg.TRG_INT_NOTIME, Reg.TRG_INT_CNT_SAT] s t) ∧
  (∀ (val : Nat) (s : State), val.testBit 0 = true → bits val 1 2 = 0 ∨ bits val 1 2 = 3 → s.responds 0xA00E0 = true →
    Does (.flareSend val) s fun t => t.get Reg.TRG_INT_REFUSED = 1 ∧ RegsOnly [Reg.TRG_INT_REFUSED] s t)

/-- The history ring and capture contexts: RING_EN starts an empty ring; an item of the input buffer is written in its order, moves
the ring entries on and counts as lagged only beyond SETTLE; a gap record stands for the items discarded; a template opens the next
free context of its range for its oldest pending flare and copies its window; the extraction ends at TREF + POST + SETTLE + 1; a done
or aborted context is released; and the done FIFO gives its indices in order. -/
def Obligations.RingAndContexts : Prop :=
  (∀ (val : Nat) (s : State), val.testBit 1 = true → val.testBit 0 = s.flag Reg.TRG_CTRL_EN → s.flag Reg.TRG_CTRL_RING_EN = false → s.responds 0xA0000 = true →
    s.get Reg.MEM_RING_SIZE ≠ 0 → (∀ k ∈ List.range 16, (s.tmpl k).open_ = []) → Does (.ringEnable val) s fun t =>
      t.get Reg.TRG_CTRL_RING_EN = 1 ∧ t.get Reg.TRG_RING_HZN_H = 0 ∧ t.get Reg.TRG_RING_STATUS_WSEG = 0 ∧ t.get Reg.TRG_RING_STATUS_WRAPPED = 0 ∧
      t.trg.ring.ents = [] ∧ t.trg.ring.segs = [] ∧ t.trg.ring.wptr = 0 ∧
      Only [Reg.TRG_CTRL_EN, Reg.TRG_CTRL_RING_EN, Reg.TRG_RING_HZN_H, Reg.TRG_RING_STATUS_WSEG, Reg.TRG_RING_STATUS_WRAPPED] s t
        { s with regs := t.regs, trg := { s.trg with ring := {} } }) ∧
  (∀ (val : Nat) (s : State), val.testBit 1 = true → s.flag Reg.TRG_CTRL_RING_EN = false → s.responds 0xA0000 = true →
    s.get Reg.MEM_RING_SIZE = 0 → val.testBit 0 = s.flag Reg.TRG_CTRL_EN → Does (.ringEnable val) s fun t =>
      t.get Reg.TRG_CTRL_RING_EN = 1 ∧ t.get Reg.MEM_ERR_CODE = 5 ∧ t.get Reg.MEM_INT_REFUSED = 1 ∧ t.ringOn = false) ∧
  (∀ (n : Nat) (s : State), s.ringOn = false ∨ n = 0 ∧ (∀ k ∈ List.range 16, (s.tmpl k).open_ = []) → Does (.ringWrite n) s fun t => t = s) ∧
  (∀ (e : RingEnt) (s : State), s.ringOn = true → s.trg.ring.buf = [e] → (∀ k ∈ List.range 16, (s.tmpl k).open_ = []) → Does (.ringWrite 1) s fun t =>
    t = (s.setRing { s.trg.ring with buf := [] }).ringItem e ∧ t.trg.ring.buf = [] ∧ t.trg.ring.num = s.trg.ring.num + 1 ∧
    t.trg.ring.ents.getLast?.map (fun x => (x.ty, x.item, x.num, x.at_)) = some (e.ty, e.item, s.trg.ring.num, s.dtRef) ∧
    (e.ty ≠ 3 → e.item.lo + min 4194304 (s.get Reg.TRG_RING_CFG_SETTLE) < s.dtRef → t.get Reg.TRG_INT_LAGGED = 1)) ∧
  (∀ (a b k : Nat) (s : State), s.trg.ring.ovr = some (a, b, k) → a ≤ b → b < 2 ^ 64 → k < 256 → b - a < 2 ^ 32 → s.ringRoom { words := [(0, false), (0, false)] } = true →
    Does .ringOverrunGap s fun t => t.trg.ring.ovr = none ∧ t = s.setRing { s.trg.ring with ovr := none, buf := t.trg.ring.buf } ∧
      t.trg.ring.buf = s.trg.ring.buf ++ (gapItems a (b + 1) 9 3 false k 0).map fun i => { ty := 4, item := i }) ∧
  (∀ (tmpl i : Nat) (p : Pending) (s : State), tmpl < 16 → tmpl < s.trg.tmpl.length → s.trg.pend = [p] → p.tmpl = tmpl → s.freeCtx tmpl = some i → s.isBurst tmpl = false →
    s.flag Reg.TRG_TMPL_CFG_ONESHOT 0 tmpl = false → s.shadow = [] → s.trg.ring.ents = [] → (s.strm (s.tmplStream tmpl)).wait ≠ [] → (∀ k ∈ List.range 16, (s.tmpl k).open_ = []) →
    p.at_ < s.dtRef → (s.tmpl tmpl).next ≤ s.dtRef → s.dtRef < 2 ^ 64 → 0 ≤ p.ev.t → Does (.contextOpen tmpl) s fun t =>
      t.trg.pend = [] ∧ (t.ctx i).tref = (p.ev.t / 512).toNat ∧ (t.ctx i).fine = (p.ev.t % 512).toNat ∧ (t.ctx i).cause = p.cause ∧
      (t.ctx i).pre = s.get Reg.TRG_TMPL_PRE_PRE 0 tmpl ∧ (t.ctx i).post = s.get Reg.TRG_TMPL_POST_POST 0 tmpl ∧ (t.ctx i).st = 1 ∧ (t.ctx i).tmpl = tmpl ∧
      (t.ctx i).remote = p.ev.remote ∧ (t.ctx i).late = p.ev.late ∧ (t.ctx i).trunc = false ∧ (t.ctx i).poison = false ∧
      ((t.ctx i).early = true ↔ (p.ev.t / 512) - s.get Reg.TRG_TMPL_PRE_PRE 0 tmpl < s.get Reg.TRG_RING_HZN_H) ∧
      (t.tmpl tmpl).open_ = [{ idx := i, settle := min 4194304 (s.get Reg.TRG_RING_CFG_SETTLE), hzn := s.get Reg.TRG_RING_HZN_H, free := s.flag Reg.TRG_TMPL_CFG_AUTOFREE 0 tmpl }] ∧ (t.tmpl tmpl).next = s.dtRef + 1 ∧ t.get Reg.TRG_TMPL_STATUS_LAST_CTX 0 tmpl = trunc Reg.TRG_TMPL_STATUS_LAST_CTX.width i ∧
      Only [Reg.TRG_STATUS_PEND, Reg.TRG_STATUS_PEND_PEAK, Reg.TRG_STATUS_OPEN, Reg.TRG_TMPL_STATUS_LAST_CTX, Reg.TRG_TMPL_OPENED_COUNT,
        Reg.TRG_INT_CNT_SAT] s t { s with regs := t.regs, trg := { s.trg with pend := [], ctx := t.trg.ctx, tmpl := t.trg.tmpl } }) ∧
  (∀ (tmpl : Nat) (s : State), tmpl < 16 → (s.trg.pend.find? fun p => p.tmpl == tmpl) = none ∨ s.freeCtx tmpl = none → Does (.contextOpen tmpl) s fun t => t = s) ∧
  (∀ (tmpl p : Nat) (o : OpenCtx) (s : State), tmpl < 16 → (s.tmpl tmpl).open_.head? = some o → s.flag Reg.TRG_TMPL_CFG_KIND 0 tmpl = false →
    (s.strm (s.tmplStream tmpl)).wait = [] → (s.tmpl tmpl).reading = some p → s.trg.ring.ents = [] → Does (.contextExtractionEnd tmpl) s fun t =>
      t = (s.advanceTo ((s.ctx o.idx).tref + (s.ctx o.idx).post + o.settle + 1)).endCtx tmpl o.idx 2 ∧
      t.get Reg.TRG_INT_CTX_DONE = 1 ∧ t.trg.done.getLast? = some o.idx) ∧
  (∀ (val : Nat) (s : State), val.testBit 17 = true → val.testBit 16 = false → s.responds 0xA0100 = true → (s.ctx (bits val 0 12)).st ≠ 1 → Does (.contextAbort val) s fun t => t = s) ∧
  (∀ (val : Nat) (s : State), val.testBit 17 = true → val.testBit 16 = false → s.responds 0xA0100 = true → (s.ctx (bits val 0 12)).st = 1 →
    s.isBurst (s.ctx (bits val 0 12)).tmpl = false → Does (.contextAbort val) s fun t => t = s.cutCtx (s.ctx (bits val 0 12)).tmpl (bits val 0 12) 3) ∧
  (∀ (val k : Nat) (o : OpenCtx) (s : State), val.testBit 17 = true → val.testBit 16 = true → s.responds 0xA0100 = true →
    (s.ctx (bits val 0 12)).st = 1 → (s.ctx (bits val 0 12)).tmpl = k → k < 16 → k < s.trg.tmpl.length → s.isBurst k = false → (s.tmpl k).open_ = [o] → o.idx = bits val 0 12 → Does (.contextAbort val) s fun t => (t.ctx o.idx).st = 0 ∧ (t.ctx o.idx).trunc = true ∧ t.trg.done = s.trg.done ++ [o.idx]) ∧
  (∀ (val : Nat) (s : State), val.testBit 17 = true → s.responds 0xA0100 = true → let c := s.ctx (bits val 0 12)
    c.st = 1 → s.isBurst c.tmpl = true → s.frm.burst.ctx = some (bits val 0 12) → val.testBit 16 = false → Does (.contextAbort val) s fun t => t = s.burstCut) ∧
  (∀ (val : Nat) (s : State), val.testBit 16 = true → val.testBit 17 = false → s.responds 0xA0100 = true → Does (.contextRelease val) s fun t =>
    ((s.ctx (bits val 0 12)).st = 2 ∨ (s.ctx (bits val 0 12)).st = 3 → t.ctx (bits val 0 12) = { s.ctx (bits val 0 12) with st := 0 } ∧
      t = { s with trg := { s.trg with ctx := t.trg.ctx } }) ∧
    ((s.ctx (bits val 0 12)).st ≠ 2 → (s.ctx (bits val 0 12)).st ≠ 3 → t = s)) ∧
  (∀ (i : Nat) (l : List Nat) (s : State), s.responds 0xA0104 = true → s.trg.done = i :: l → Does .doneFifoRead s fun t =>
    t = { s with rdata := [i + 2 ^ 31], trg := { s.trg with done := l } }) ∧
  (∀ (s : State), s.responds 0xA0104 = true → s.trg.done = [] → Does .doneFifoRead s fun t => t = { s with rdata := [0] })

/-- The frame grid and its readout: Boundaries are the edges of the grid; RUN starts frame 0 at the next one and stops after the frame
under way; a 12-bit boundary reads every frame-mode tile out with the frame's header, swaps the banks and clears the one that was
active, or merges while a readout has not ended; frame 0 begins at the first boundary; a readout that ends is delivered in its order
and waits for a stream that takes no words; and the counters clear. -/
def Obligations.FrameGrid : Prop :=
  (∀ (a : Nat) (s : State), a < s.nextBoundary a ∧ s.nextBoundary a ≤ a + s.framePeriod ∧
    (s.nextBoundary a + s.framePeriod - s.get Reg.TIL_FRM_PHASE_PHASE % s.framePeriod) % s.framePeriod = 0) ∧
  (∀ (val : Nat) (s : State), val.testBit 0 = true → s.responds 0x6900C = true → s.flag Reg.TIL_FRM_RUN_RUN = false → Does (.frameRunStart val) s fun t =>
    t = { s.put Reg.TIL_FRM_RUN_RUN 1 with frm := { s.frm with armed := true, next := 0, at_ := if s.frm.cur.isSome then s.frm.at_ else s.dtRef } } ∧
    t.get Reg.TIL_FRM_RUN_RUN = 1) ∧
  (∀ (val : Nat) (s : State), val.testBit 0 = true → s.responds 0x6900C = true → s.flag Reg.TIL_FRM_RUN_RUN = true → Does (.frameRunStart val) s fun t => t = s) ∧
  (∀ (val : Nat) (s : State), val.testBit 0 = false → s.responds 0x6900C = true → Does (.frameRunStop val) s fun t =>
    t = { s.put Reg.TIL_FRM_RUN_RUN 0 with frm := { s.frm with armed := false } } ∧ t.get Reg.TIL_FRM_RUN_RUN = 0 ∧ t.frm.cur = s.frm.cur) ∧
  (∀ (s : State), s.frm.cur = none → s.flag Reg.TIL_FRM_RUN_RUN = false → Does .frameBoundary s fun t => t = s) ∧
  (∀ (s : State), s.frm.cur = none → s.frm.armed = true → s.flag Reg.TIL_FRM_RUN_RUN = true → s.shadow = [] → s.frm.burst.ctx = none → Does .frameBoundary s fun t =>
    t.frm.cur = some { num := s.frm.next, start := s.nextBoundary s.frm.at_ } ∧ t.frm.next = (s.frm.next + 1) % 2 ^ 32 ∧ t.frm.armed = false ∧
    t.get Reg.TIL_FRM_FRAME_FRAME = s.frm.next % 2 ^ 32 ∧ t.dtRef = (s.advanceTo (s.nextBoundary s.frm.at_)).dtRef ∧
    Only (Reg.TIL_FRM_FRAME_FRAME :: timeFields) s t { s.advanceTo (s.nextBoundary s.frm.at_) with regs := t.regs, frm := t.frm }) ∧
  (∀ (k : Nat) (c : FrameNow) (s : State), s.frm.cur = some c → c.start ≤ s.frm.at_ → s.flag Reg.TIL_FRM_RUN_RUN = true → s.flag Reg.TIL_FRM_CFG_DEPTH = false →
    (∀ x ∈ s.frm.read, x.done = true) → s.frm.burst.tmpl = none → s.shadow = [] → Does .frameBoundary s fun t =>
      let e := s.nextBoundary s.frm.at_
      t.frm.cur = some { num := s.frm.next, start := e } ∧ (t.frm.read.map (·.tile)) = s.frm.read.map (·.tile) ++ s.frameTiles ∧
      (∀ x ∈ t.frm.read.drop s.frm.read.length, x.hdr.num = c.num ∧ x.hdr.start = c.start ∧ x.hdr.len = e - c.start ∧ x.hdr.merged = c.merged ∧
        x.hdr.depth = 0 ∧ x.roi = s.roi x.tile ∧ x.openRef = ((((s.advanceTo e).accrue e).frm.cur.map (·.openRef)).getD []).getD x.tile 0 ∧ x.done = false ∧
        x.dest = (if s.flag Reg.TIL_FRM_CFG_LIVE then .live else .discard)) ∧
      (∀ x ∈ s.frameTiles, t.get Reg.TIL_FRM_STATUS_READING x = 1 ∧ t.get Reg.TIL_FRM_STATUS_BANK x = 1 - s.get Reg.TIL_FRM_STATUS_BANK x) ∧
      NMap.get (0, 0) t.frm.cnt k = (if s.frameTiles.contains (k / 262144) then
        (if s.flag Reg.TIL_FRM_STATUS_BANK (k / 262144) then ((NMap.get (0, 0) s.frm.cnt k).1, 0) else (0, (NMap.get (0, 0) s.frm.cnt k).2))
        else NMap.get (0, 0) s.frm.cnt k) ∧
      Only ([Reg.TIL_FRM_FRAME_FRAME, Reg.TIL_FRM_STATUS_READING, Reg.TIL_FRM_STATUS_BANK] ++ timeFields) s t
        { s.advanceTo e with regs := t.regs, frm := t.frm }) ∧
  (∀ (c : FrameNow) (s : State), s.frm.cur = some c → c.start < s.nextBoundary s.frm.at_ → s.flag Reg.TIL_FRM_RUN_RUN = true → s.flag Reg.TIL_FRM_CFG_DEPTH = true → s.frameTiles ≠ [] → s.frm.armed = false →
    s.frm.burst.tmpl = none → s.shadow = [] → Does .frameBoundary s fun t => t.frm.cur = none ∧ (t.frm.read.map (·.tile)) = s.frm.read.map (·.tile) ++ s.frameTiles ∧
      (t.frm.read.drop s.frm.read.length).all (fun x => x.hdr.num == c.num && x.hdr.depth == s.get Reg.TIL_FRM_CFG_DEPTH && x.hdr.len == s.nextBoundary s.frm.at_ - c.start) = true ∧
      (s.frameTiles.all fun x => t.get Reg.TIL_FRM_STATUS_READING x == 1) = true ∧ t.dtRef = max s.dtRef (s.nextBoundary s.frm.at_) % 2 ^ 64) ∧
  (∀ (n k : Nat) (c : FrameNow) (s : State), s.frm.cur = some c → c.start < s.nextBoundary s.frm.at_ → s.flag Reg.TIL_FRM_RUN_RUN = true → s.flag Reg.TIL_FRM_CFG_DEPTH = false → (s.frm.read.any fun x => !x.done) = false →
    s.frm.burst.tmpl = some k → s.frm.burst.frozen = false → s.frm.burst.restart = false → s.frm.burst.ctx = none → s.frm.burst.slots = n → 1 ≤ n → s.shadow = [] → Does .frameBoundary s fun t =>
      t.frm.burst.written = s.frm.burst.written + 1 ∧ t.frm.burst.held.length = min n (s.frm.burst.held.length + 1) ∧
      (t.frm.burst.held.getLast?.map fun x => (x.hdr.num, x.hdr.start, x.left)) = some (c.num, c.start, s.frameTiles.length) ∧
      ((t.frm.read.drop s.frm.read.length).head?.map (·.dest) = (s.frameTiles.head?.map fun _ => FrameDest.burst (s.burstBase + s.frm.burst.written % n * s.frameSize)))) ∧
  (∀ (c : FrameNow) (s : State), s.frm.cur = some c → s.flag Reg.TIL_FRM_CFG_DEPTH = false → (s.frm.read.any fun x => !x.done) = true → s.shadow = [] →
    s.frm.burst.ctx = none → Does .frameBoundary s fun t =>
      t.frm.cur.map (fun x => (x.num, x.start, x.merged)) = some (c.num, c.start, true) ∧ t.frm.read = s.frm.read ∧ t.frm.cnt = s.frm.cnt ∧
      t.get Reg.TIL_FRM_INT_MERGED = 1 ∧ t.get Reg.TIL_FRM_MERGED_COUNT = min (2 ^ 32 - 1) (s.get Reg.TIL_FRM_MERGED_COUNT + 1) ∧
      Only ([Reg.TIL_FRM_INT_MERGED, Reg.TIL_FRM_MERGED_COUNT, Reg.TIL_FRM_INT_CNT_SAT] ++ timeFields) s t
        { s.advanceTo (s.nextBoundary s.frm.at_) with regs := t.regs, frm := t.frm }) ∧
  (∀ (tile dur : Nat) (poison : List Nat) (x : TileFrame) (s : State), tile < 4 → s.frm.read = [x] → x.tile = tile → x.done = false → x.dest = .discard → x.last = true →
    x.hdr.depth = 0 → saturated 0 (x.roi.counts tile x.cnt) = 0 → s.frm.burst.ctx = none → Does (.frameReadoutEnd tile dur poison) s fun t =>
      t.frm.read = [] ∧ t.get Reg.TIL_FRM_STATUS_READING tile = 0 ∧ t.get Reg.TIL_FRM_RDTIME_REF tile = min 65535 dur ∧
      t.get Reg.TIL_FRM_DISC_COUNT = min (2 ^ 32 - 1) (s.get Reg.TIL_FRM_DISC_COUNT + 1) ∧
      t.get Reg.TIL_FRM_WORDS_COUNT tile = min (2 ^ 32 - 1) (s.get Reg.TIL_FRM_WORDS_COUNT tile + x.roi.rows * x.roi.cols / 64 * 12) ∧
      Only ([Reg.TIL_FRM_STATUS_READING, Reg.TIL_FRM_RDTIME_REF, Reg.TIL_FRM_DISC_COUNT, Reg.TIL_FRM_WORDS_COUNT, Reg.TIL_FRM_INT_CNT_SAT] ++ timeFields) s t
        { s.advanceTo (x.hdr.start + x.hdr.len + dur) with regs := t.regs, frm := t.frm }) ∧
  (∀ (tile dur : Nat) (poison : List Nat) (x : TileFrame) (s : State), tile < 4 → s.frm.read = [x] → x.tile = tile → x.done = false → x.dest = .live →
    s.lossless (s.get Reg.TIL_FRM_CFG_STREAM) = true → (s.strm (s.get Reg.TIL_FRM_CFG_STREAM)).wait ≠ [] → Does (.frameReadoutEnd tile dur poison) s fun t => t = s) ∧
  (∀ (tile dur : Nat) (poison : List Nat) (x : TileFrame) (s : State), tile < 4 → s.frm.read = [x] → x.tile = tile → x.done = false → x.dest = .live → s.frm.burst.ctx = none → x.hdr.depth = 0 →
    (s.lossless (s.get Reg.TIL_FRM_CFG_STREAM) = false ∨ (s.strm (s.get Reg.TIL_FRM_CFG_STREAM)).wait = []) → Does (.frameReadoutEnd tile dur poison) s fun t =>
      t.frm.read = [] ∧ t.get Reg.TIL_FRM_STATUS_READING tile = 0 ∧ t.get Reg.TIL_FRM_RDTIME_REF tile = min 65535 dur ∧ t.dtRef = max s.dtRef (x.hdr.start + x.hdr.len + dur) % 2 ^ 64 ∧
      (s.flag Reg.EVT_STRM_CFGn_EN (s.get Reg.TIL_FRM_CFG_STREAM) = false → t.get Reg.EVT_INT_UNROUTED = 1)) ∧
  (∀ (tile dur : Nat) (poison : List Nat) (x : TileFrame) (s : State), tile < 4 → s.frm.read = [x] → x.tile = tile → x.done = false → x.dest = .discard → s.frm.burst.ctx = none → x.hdr.depth = 1 →
    s.frm.cur = none → s.frm.armed = false → s.flag Reg.TIL_FRM_RUN_RUN = true → Does (.frameReadoutEnd tile dur poison) s fun t =>
      t.frm.read = [] ∧ t.frm.cur = some { num := s.frm.next, start := t.dtRef } ∧ t.dtRef = max s.dtRef (x.hdr.start + x.hdr.len + dur) % 2 ^ 64 ∧
      t.get Reg.TIL_FRM_FRAME_FRAME = s.frm.next % 2 ^ 32) ∧
  (∀ (i : Nat) (s : State), s.responds 0x69030 = true → Does .tilFrmCntClr s fun t => t.get Reg.TIL_FRM_MERGED_COUNT = 0 ∧ t.get Reg.TIL_FRM_DISC_COUNT = 0 ∧
    (i < 4 → t.get Reg.TIL_FRM_SAT_COUNT i = 0 ∧ t.get Reg.TIL_FRM_WORDS_COUNT i = 0) ∧
    RegsOnly [Reg.TIL_FRM_SAT_COUNT, Reg.TIL_FRM_WORDS_COUNT, Reg.TIL_FRM_MERGED_COUNT, Reg.TIL_FRM_DISC_COUNT] s t)

/-- The frame gate, bursts and frame words: The gate opens at the edge of an ON event and restarts LEN, closes at the edge of an OFF
event or after LEN, and an OFF event on the same edge wins; a burst context that has delivered its last word is done and recording
restarts at the next boundary; and the words of a frame header stand where R227 places them. -/
def Obligations.GateAndBurst : Prop :=
  (∀ (e : Nat) (l : List Nat) (s : State), s.frm.gateOn = [e] → s.frm.gateOff = l → l.contains e = false → Does .gateOpen s fun t => t.frm.gate = true ∧ t.frm.gateOn = [] ∧
    t.frm.gateEnd = (if s.get Reg.TIL_FRM_GATE_LEN_LEN = 0 then none else some ((s.advanceTo e).dtRef + s.get Reg.TIL_FRM_GATE_LEN_LEN)) ∧
    Only timeFields s t { s.advanceTo e with regs := t.regs, frm := { (s.advanceTo e).frm with gate := true, gateOn := [], gateEnd := t.frm.gateEnd, cur := t.frm.cur, acc := t.frm.acc } }) ∧
  (∀ (e : Nat) (s : State), s.frm.gateOn = [e] → s.frm.gateOff = [e] → Does .gateOpen s fun t => t.frm.gate = s.frm.gate ∧ t.frm.gateOn = [] ∧ t.frm.gateOff = [e]) ∧
  (∀ (e : Nat) (s : State), s.frm.gateOff = [e] → Does .gateClose s fun t => t.frm.gate = false ∧ t.frm.gateEnd = none ∧ t.frm.gateOff = [] ∧
    t.frm.gateOn = s.frm.gateOn.filter (· != e) ∧
    Only timeFields s t { s.advanceTo e with regs := t.regs, frm := { (s.advanceTo e).frm with gate := false, gateOn := t.frm.gateOn, gateOff := [], gateEnd := none, cur := t.frm.cur, acc := t.frm.acc } }) ∧
  (∀ (e : Nat) (s : State), s.frm.gateEnd = some e → Does .gateLenExpire s fun t => t.frm.gate = false ∧ t.frm.gateEnd = none ∧
    Only timeFields s t { s.advanceTo e with regs := t.regs, frm := { (s.advanceTo e).frm with gate := false, gateEnd := none, cur := t.frm.cur, acc := t.frm.acc } }) ∧
  (∀ (c : FrameNow) (e n : Nat) (s : State), n < 4 → s.frm.cur = some c → (((s.accrue e).frm.cur.getD c).openRef.getD n 0) = c.openRef.getD n 0 +
      (if s.flag Reg.TIL_CTRL_EN n ∧ (s.flag Reg.TIL_FRM_GATE_EN ∧ s.frm.gate = false → False) then e - max s.frm.acc c.start else 0)) ∧
  (∀ (s : State), s.frm.burst.ctx = none → Does .burstDeliveryEnd s fun t => t = s) ∧
  (∀ (i k st : Nat) (s : State), s.frm.burst.ctx = some i → s.frm.burst.tmpl = some k → s.frm.burst.trigFrame = some st → s.frm.burst.begun = true →
    s.frm.burst.todo = [] → (s.strm (s.tmplStream k)).wait = [] → Does .burstDeliveryEnd s fun t => t = s.burstEnd 2 ∧
      t.trg.done.getLast? = some i ∧ t.get Reg.TRG_INT_CTX_DONE = 1 ∧
      t.frm.burst = { tmpl := if s.get Reg.TRG_TMPL_STATUS_STATE 0 k = 0 then none else some k, restart := true }) ∧
  (∀ (h : FrameHdr) (tile openRef nsat ctx : Nat) (poison trig : Bool) (r : Roi), tile < 4 → h.num < 2 ^ 32 → h.depth < 2 → h.len < 2 ^ 28 → openRef < 2 ^ 28 → ctx < 4096 →
    r.row0 < 512 → r.rows ≤ 512 → r.col0 < 512 → r.cols ≤ 512 →
    ∃ a b c d, frameHeader h tile openRef r nsat poison (some (ctx, trig)) = [a, b, c, d] ∧ a = h.start ∧ bits b 32 32 = h.num ∧ bits b 30 2 = tile ∧ bits b 29 1 = h.depth ∧
      bits b 28 1 = 1 ∧ bits b 0 28 = h.len ∧ bits c 36 28 = openRef ∧ bits c 16 20 = min (2 ^ 20 - 1) nsat ∧ c.testBit 15 = h.merged ∧
      c.testBit 14 = h.gated ∧ c.testBit 13 = poison ∧ c.testBit 12 = trig ∧ bits c 0 12 = ctx ∧ bits d 55 9 = r.row0 ∧ bits d 45 10 = r.rows ∧
      bits d 36 9 = r.col0 ∧ bits d 26 10 = r.cols ∧ bits d 0 26 = 0)

/-- Waves and fabric writes: A wave takes the levels at its edge and every pulse that is up, a wave that has not completed is slow and
counted once, and its outputs and events show when it completes; a write to an idle group goes to the check with the words held, one
to a group that is not idle is refused, one that changes nothing has no effect, and the check applies it only when the fabric passes;
and the counters clear. -/
def Obligations.FabricWaves : Prop :=
  (∀ (s : State), s.fab.wave = none → Does .fabricWaveLaunch s fun t =>
    (∃ w, t.fab.wave = some w ∧ w.at_ = s.dtRef ∧ w.slow = false ∧ w.out = s.fab.settle s.level ∧
      w.seen = (s.trg.pulses.filter fun x => s.level x.prim && !x.old).map fun x => (x.prim, x.ev)) ∧
    t.trg.pulses = s.trg.pulses.map (fun x => if s.level x.prim then { x with taken := true } else x) ∧ t.evt.tap = [false, false, false, false] ∧
    t = { s with fab := { s.fab with wave := t.fab.wave }, trg := { s.trg with pulses := t.trg.pulses }, evt := { s.evt with tap := t.evt.tap } }) ∧
  (∀ (w : Wave) (s : State), s.fab.wave = some w → w.slow = true → Does .fabricWaveLaunch s fun t => t = s) ∧
  (∀ (w : Wave) (s : State), s.fab.wave = some w → w.slow = false → w.at_ < s.dtRef → Does .waveComplete s fun t =>
    t.get Reg.FAB_SLOW_COUNT = min (2 ^ 32 - 1) (s.get Reg.FAB_SLOW_COUNT + 1) ∧ t.get Reg.FAB_INT_SLOW = 1 ∧
    t.fab = { s.fab with out := w.out, prevLut := w.lut, wave := none } ∧ t.trg.out = (s.setFab t.fab).condOutputs ∧
    Only [Reg.FAB_SLOW_COUNT, Reg.FAB_INT_SLOW, Reg.FAB_INT_CNT_SAT] s t { s with regs := t.regs, fab := t.fab, trg := { s.trg with out := t.trg.out, seen := t.trg.seen } }) ∧
  (∀ (w : Wave) (s : State), s.fab.wave = some w → w.slow = false → Does .fabricWaveLaunch s fun t => t.fab.wave = some { w with slow := true } ∧
    t.get Reg.FAB_SLOW_COUNT = min (2 ^ 32 - 1) (s.get Reg.FAB_SLOW_COUNT + 1) ∧ t.get Reg.FAB_INT_SLOW = 1 ∧
    Only [Reg.FAB_SLOW_COUNT, Reg.FAB_INT_SLOW, Reg.FAB_INT_CNT_SAT] s t { s with regs := t.regs, fab := { s.fab with wave := t.fab.wave } }) ∧
  (∀ (w : Wave) (s : State), s.fab.wave = some w → s.dtRef ≤ w.at_ → Does .waveComplete s fun t =>
    t.fab = { s.fab with out := w.out, prevLut := w.lut, wave := none } ∧ t.trg.out = (s.setFab t.fab).condOutputs ∧
    (∀ e ∈ w.seen, e ∈ t.trg.seen) ∧ t = { s with fab := t.fab, trg := { s.trg with out := t.trg.out, seen := t.trg.seen } }) ∧
  (∀ (w val : Nat) (s : State), s.responds 0x180018 = true → s.fab.check = none → s.get Reg.FAB_WICK_SEL_WICK = w → s.groupIdle (w / 64) = true →
    let e : Wick := { lut := s.fab.lutLo.getD ((s.fab.wick w).lut % 2 ^ 32) + s.fab.lutHi.getD ((s.fab.wick w).lut / 2 ^ 32) * 2 ^ 32,
                       cfg := s.fab.cfgLo.getD ((s.fab.wick w).cfg % 2 ^ 32) + val % 2 ^ 19 * 2 ^ 32 }
    (e ≠ s.fab.wick w → Does (.wickWrite val) s fun t => t.fab = { s.fab with lutLo := none, lutHi := none, cfgLo := none, check := some (.wick w e) } ∧
      t.get Reg.FAB_STATUS_CHECKING = 1 ∧ Only [Reg.FAB_STATUS_CHECKING] s t { s with regs := t.regs, fab := t.fab }) ∧
    (e = s.fab.wick w → Does (.wickWrite val) s fun t => t = { s with fab := { s.fab with lutLo := none, lutHi := none, cfgLo := none } })) ∧
  (∀ (val : Nat) (s : State), s.responds 0x180018 = true → s.fab.check = none → s.groupIdle (s.get Reg.FAB_WICK_SEL_WICK / 64) = false →
    s.fab.lutLo = some ((s.fab.wick (s.get Reg.FAB_WICK_SEL_WICK)).lut % 2 ^ 32 + 1) → Does (.wickWrite val) s fun t =>
      t.fab = { s.fab with lutLo := none, lutHi := none, cfgLo := none } ∧ t.get Reg.FAB_INT_REFUSED = 1 ∧
      Only [Reg.FAB_INT_REFUSED] s t { s with regs := t.regs, fab := t.fab }) ∧
  (∀ (val g k : Nat) (s : State), s.responds 0x180020 = true → s.fab.check = none → s.get Reg.FAB_GIN_SEL_GROUP = g → g * 64 + s.get Reg.FAB_GIN_SEL_INPUT = k →
    (s.fab.input k = val % 65536 → Does (.groupInputWrite val) s fun t => t = s) ∧
    (s.fab.input k ≠ val % 65536 → s.groupIdle g = true → Does (.groupInputWrite val) s fun t =>
      t = ({ s with fab := { s.fab with check := some (.gin k (val % 65536)) } } : State).put Reg.FAB_STATUS_CHECKING 1) ∧
    (s.fab.input k ≠ val % 65536 → s.groupIdle g = false → Does (.groupInputWrite val) s fun t => t = s.put Reg.FAB_INT_REFUSED 1)) ∧
  (∀ (x : FabWrite) (s : State), s.fab.check = some x → Does .fabricCheckDone s fun t =>
    let f := ({ s.fab with check := none } : Fab).apply x
    t.get Reg.FAB_STATUS_CHECKING = 0 ∧
    (f.ok = true → t.fab = f ∧ Only [Reg.FAB_STATUS_CHECKING, Reg.FAB_STATUS_DEPTH, Reg.FAB_COND_MAP_DEPTH] s t { s with regs := t.regs, fab := f }) ∧
    (f.ok = false → t.get Reg.FAB_STATUS_ERR = 6 ∧ t.get Reg.FAB_INT_REFUSED = 1 ∧
      Only [Reg.FAB_STATUS_CHECKING, Reg.FAB_STATUS_ERR, Reg.FAB_INT_REFUSED] s t { s with regs := t.regs, fab := { s.fab with check := none } })) ∧
  (∀ (val : Nat) (s : State), s.responds 0x180018 = true → s.responds 0x180020 = true → s.responds 0x180198 = true → s.responds 0x180180 = true → s.responds 0x180230 = true → s.responds 0x180234 = true →
    ∀ c ∈ ([.wickWrite val, .groupInputWrite val, .fabCntClr, .reloadAbort val, .imagePrefSlot val, .imageTrial val, .imageConfirm val, .imageProgStart val, .imageProgAbort val] : List Instr), exec c s = exec c s.checkDone) ∧
  (∀ (s : State), s.responds 0x180198 = true → s.fab.check = none → Does .fabCntClr s fun t => t.get Reg.FAB_SLOW_COUNT = 0 ∧ t.get Reg.FAB_SEU_CORR = 0 ∧
    t.get Reg.FAB_SEU_UNCORR = 0 ∧ RegsOnly [Reg.FAB_SLOW_COUNT, Reg.FAB_SEU_CORR, Reg.FAB_SEU_UNCORR] s t)

/-- A fabric that passes its check settles: With each wick loaded once and the checks of R247 passed, every wick has its final output
after the evaluations the model makes of a wave: one more evaluation of all wicks changes nothing, and the output of each COMB wick is
its LUT of the outputs and levels it selects. -/
def Obligations.FabricSettles : Prop :=
  ∀ (f : Fab) (lvl : Nat → Bool), f.ok = true → (f.wicks.map (·.1)).Nodup →
    f.round lvl (f.settle lvl) = f.settle lvl ∧
    ∀ (w : Nat) (e : Wick), (w, e) ∈ f.wicks → e.mode = 0 → (w ∈ f.settle lvl ↔ f.lutVal lvl (f.settle lvl) w e = true)

/-- Image slots, reloads and the scrubber: The image registers are guarded writes of the Owner role that wait for their audit entry;
once an erase has ended the slot receives, and a slot that was read back is valid or the programming ends with its error; a partial
reload is admitted when its groups and conditions are free, applies together, and is refused or aborted with its error; and a word of
which all three copies disagree is counted, recorded and takes its safe value. -/
def Obligations.ImagesAndReload : Prop :=
  (∀ (val : Nat) (s : State), val.testBit 1 = false → val.testBit 2 = false → s.responds 0x180230 = true → s.sessionLive → s.fab.check = none →
    (s.role = 1 → s.aud.queue.length < 32 → (s.slot (bits val 0 1)).valid = true →
      Does (.imagePrefSlot val) s (Waits 1 0x180230 s.imgCtrlWord val val (s.slot (bits val 0 1)).id s)) ∧
    (s.role ≠ 1 → Does (.imagePrefSlot val) s (RefusedWrite 1 1 0x180230 s.imgCtrlWord val s))) ∧
  (∀ (val : Nat) (s : State), s.responds 0x180230 = true → s.responds 0x180234 = true → s.role = 1 → s.sessionLive → s.fab.check = none → s.aud.queue.length < 32 →
    (val.testBit 1 = true → val.testBit 2 = false → Does (.imageTrial val) s (Waits 1 0x180230 s.imgCtrlWord val val (s.slot (bits val 0 1)).id s)) ∧
    (val.testBit 2 = true → s.flag Reg.FAB_IMG_ACTIVE_TRIAL_RUN = true →
      Does (.imageConfirm val) s (Waits 1 0x180230 s.imgCtrlWord val val (s.slot (bits val 0 1)).id s)) ∧
    (val.testBit 0 = true → val.testBit 2 = false → Does (.imageProgStart val) s (Waits 1 0x180234 s.imgProgWord val val (s.slot (bits val 1 1)).id s)) ∧
    (val.testBit 2 = true → Does (.imageProgAbort val) s (Waits 1 0x180234 s.imgProgWord val val (s.slot (bits val 1 1)).id s))) ∧
  (∀ (val : Nat) (s : State), val.testBit 2 = false → val.testBit 0 = true → s.fab.prog = none →
    (s.activeSlot (bits val 1 1) = true → (s.imgProg val).get Reg.FAB_IMG_PROG_STATUS_ERR = 0xC ∧ (s.imgProg val).store = s.store) ∧
    (s.activeSlot (bits val 1 1) = false → (s.imgProg val).fab.prog = some (bits val 1 1) ∧ ((s.imgProg val).slot (bits val 1 1)).valid = false ∧
      (s.imgProg val).get Reg.FAB_IMG_PROG_STATUS_STATE = 1 ∧ (s.imgProg val).get Reg.FAB_IMG_PROG_START = 1)) ∧
  (∀ (s : State), s.get Reg.FAB_IMG_PROG_STATUS_STATE = 1 → Does .imageProgEraseDone s fun t => t = s.put Reg.FAB_IMG_PROG_STATUS_STATE 2 ∧ t.get Reg.FAB_IMG_PROG_STATUS_STATE = 2) ∧
  (∀ (k e : Nat) (s : State), k < 2 → s.fab.prog = some k → s.get Reg.FAB_IMG_PROG_STATUS_STATE = 3 →
    (if s.fab.progErr ≠ 0 then s.fab.progErr else imgError false (s.slot k).bytes) = e → e < 16 → Does .imageProgVerifyDone s fun t =>
      t.get Reg.FAB_IMG_PROG_STATUS_ERR = e ∧ t.get Reg.FAB_IMG_PROG_START = 0 ∧ t.fab = { s.fab with prog := none, progErr := 0 } ∧
      (e = 0 → (t.slot k).valid = true ∧ (t.slot k).id = leAt (s.slot k).bytes 0x10 8 ∧ (t.slot k).gen = leAt (s.slot k).bytes 0x18 4 ∧
        t.slot (1 - k) = s.slot (1 - k) ∧ t.get Reg.FAB_IMG_PROG_STATUS_STATE = 4 ∧ t.get Reg.FAB_INT_PROG_DONE = 1 ∧
        Only [Reg.FAB_IMG_PROG_STATUS_STATE, Reg.FAB_IMG_PROG_STATUS_ERR, Reg.FAB_INT_PROG_DONE, Reg.FAB_IMG_PROG_START] s t
          { s.setSlot k (t.slot k) with regs := t.regs, fab := t.fab }) ∧
      (e ≠ 0 → t.store = s.store ∧ t.get Reg.FAB_IMG_PROG_STATUS_STATE = 5 ∧ t.get Reg.FAB_INT_PROG_ERR = 1) ∧
      (e ≠ 0 → e ≠ 3 → Only [Reg.FAB_IMG_PROG_STATUS_STATE, Reg.FAB_IMG_PROG_STATUS_ERR, Reg.FAB_INT_PROG_ERR, Reg.FAB_IMG_PROG_START] s t
        { s with regs := t.regs, fab := t.fab })) ∧
  (∀ (s : State), s.fab.reload = none → s.fab.relBytes.length < 0x40 + 32 * imgNsect s.fab.relBytes → Does .reloadAdmit s fun t => t = s) ∧
  (∀ (b : List Nat) (s : State), s.fab.relBytes = b → s.fab.reload = none → s.fab.prog = none → imgHeaderOk b = true → imgSize b ≤ imgMax →
    imgDirOk true b = true → 0x40 + 32 * imgNsect b ≤ b.length → let z := reloadFab b; let l := reloadLists z.2.2
    (z.2.1 = true → (z.1.content b).toOption.isSome = true ∧ reloadFabError z.2.2 = 0) → (l.1.all s.groupIdle && !l.2.any fun c => s.condEn c.1) = true →
    Does .reloadAdmit s fun t => t.get Reg.FAB_STATUS_RELOAD = 1 ∧ t.fab.relBytes = [] ∧ t.fab.reload.map (fun r => (r.bytes, r.groups, r.conds)) =
        some (b, l.1, l.2) ∧ l.1.all (fun g => !t.groupIdle g) = true ∧
      Only [Reg.FAB_STATUS_RELOAD] s t { s with regs := t.regs, fab := { s.fab with reload := t.fab.reload, relBytes := [] } }) ∧
  (∀ (b : List Nat) (s : State), s.fab.relBytes = b → s.fab.reload = none → s.fab.prog = none → 0x40 + 32 * imgNsect b ≤ b.length → imgHeaderOk b = false →
    Does .reloadAdmit s fun t => t = s.reloadRefuse 1 ∧ t.get Reg.FAB_STATUS_ERR = 1 ∧ t.get Reg.FAB_INT_RELOAD_ERR = 1 ∧ t.get Reg.FAB_STATUS_RELOAD = 0) ∧
  (∀ (s : State), s.fab.reload = none → Does .reloadApply s fun t => t = s) ∧
  (∀ (r : Reload) (s : State), s.fab.reload = some r → imgSize r.bytes ≤ r.bytes.length → s.fab.wave = none → Does .reloadApply s fun t =>
    t.fab.reload = none ∧ t.get Reg.FAB_STATUS_RELOAD = 0 ∧
    (imgError true r.bytes = 0 → (s.fab.reloaded r).ok = true → let u := s.advanceTo (s.dtRef + 1)
      t.fab = { s.fab.reloaded r with reload := none, relBytes := r.bytes.drop (imgSize r.bytes) } ∧ t.get Reg.FAB_INT_RELOADED = 1 ∧
      Only ([Reg.FAB_STATUS_RELOAD, Reg.FAB_INT_RELOADED, Reg.FAB_COND_MAP_WICK, Reg.FAB_COND_MAP_VALID, Reg.FAB_STATUS_DEPTH, Reg.FAB_COND_MAP_DEPTH] ++ timeFields) s t
        { u with regs := t.regs, fab := t.fab }) ∧
    (imgError true r.bytes = 0 → (s.fab.reloaded r).ok = false → t = s.reloadRefuse 6) ∧
    (imgError true r.bytes ≠ 0 → t.fab.wicks = s.fab.wicks ∧ t.fab.gin = s.fab.gin ∧ t.get Reg.FAB_INT_RELOAD_ERR = 1) ∧
    (imgError true r.bytes ≠ 0 → imgError true r.bytes ≠ 3 → t = s.reloadRefuse (imgError true r.bytes))) ∧
  (∀ (r : Reload) (s : State), s.fab.reload = some r → (r.bytes.length < imgSize r.bytes ∨ s.fab.wave.isSome = true) → Does .reloadApply s fun t => t = s) ∧
  (∀ (val : Nat) (s : State), val.testBit 0 = true → s.responds 0x180180 = true → s.fab.check = none → s.fab.reload.isSome = true ∨ s.fab.relBytes ≠ [] → Does (.reloadAbort val) s fun t =>
    t.fab.reload = none ∧ t.fab.relBytes = [] ∧ t.get Reg.FAB_STATUS_RELOAD = 0 ∧ t.get Reg.FAB_STATUS_ERR = 0xB ∧ t.get Reg.FAB_INT_RELOAD_ERR = 1 ∧
    Only [Reg.FAB_STATUS_RELOAD, Reg.FAB_STATUS_ERR, Reg.FAB_INT_RELOAD_ERR] s t
      { s with regs := t.regs, fab := { s.fab with reload := none, relBytes := [], relSkip := t.fab.relSkip } }) ∧
  (∀ (kind : ScrubKind) (bad addr : Nat) (s : State), scrubOk kind = true → (bad = 0 → Does (.configScrubVisit kind bad addr) s fun t => t = s) ∧
    (bad = 1 → Does (.configScrubVisit kind bad addr) s fun t => t.get Reg.FAB_SEU_CORR = min (2 ^ 16 - 1) (s.get Reg.FAB_SEU_CORR + 1) ∧
      RegsOnly [Reg.FAB_SEU_CORR, Reg.FAB_INT_CNT_SAT] s t)) ∧
  (∀ (w addr : Nat) (s : State), w < 16384 → addr < 2 ^ 32 → Does (.configScrubVisit (.wick w) 2 addr) s fun t => t.fab.wick w = {} ∧ t.get Reg.FAB_INT_COND_OFF = 1 ∧
    t.get Reg.FAB_SEU_UNCORR = min (2 ^ 16 - 1) (s.get Reg.FAB_SEU_UNCORR + 1) ∧ t.get Reg.FAB_SEU_LAST_ADDR = addr ∧ t.get Reg.FAB_INT_SEU_UNCORR = 1 ∧
    Only [Reg.FAB_SEU_UNCORR, Reg.FAB_SEU_LAST_ADDR, Reg.FAB_INT_SEU_UNCORR, Reg.FAB_INT_CNT_SAT, Reg.FAB_INT_COND_OFF, Reg.TRG_COND_CFG_EN,
      Reg.FAB_STATUS_DEPTH, Reg.FAB_COND_MAP_DEPTH] s t { s with regs := t.regs, shadow := t.shadow, fab := t.fab }) ∧
  (∀ (b addr : Nat) (s : State), b < 65536 → addr < 2 ^ 32 → Does (.configScrubVisit (.rmap b) 2 addr) s fun t =>
    (rmapAt t.evt.act b).testBit 14 = true ∧ (rmapAt t.evt.shd b).testBit 14 = true ∧
    Only [Reg.FAB_SEU_UNCORR, Reg.FAB_SEU_LAST_ADDR, Reg.FAB_INT_SEU_UNCORR, Reg.FAB_INT_CNT_SAT] s t
      { s with regs := t.regs, evt := { s.evt with act := t.evt.act, shd := t.evt.shd } }) ∧
  (∀ (k addr : Nat) (s : State), k < 16384 → addr < 2 ^ 32 → Does (.configScrubVisit (.gin k) 2 addr) s fun t => t.fab.input k = ginReset ∧ t.get Reg.FAB_INT_COND_OFF = 1 ∧
    t.get Reg.FAB_SEU_UNCORR = min (2 ^ 16 - 1) (s.get Reg.FAB_SEU_UNCORR + 1) ∧ t.get Reg.FAB_SEU_LAST_ADDR = addr ∧ t.get Reg.FAB_INT_SEU_UNCORR = 1) ∧
  (∀ (addr : Nat) (s : State), addr < 2 ^ 32 → (Does (.configScrubVisit .shadow 2 addr) s fun t =>
      RegsOnly [Reg.FAB_SEU_UNCORR, Reg.FAB_SEU_LAST_ADDR, Reg.FAB_INT_SEU_UNCORR, Reg.FAB_INT_CNT_SAT] s t) ∧
    (s.flt.under = none → s.sys.phase = .running → Does (.configScrubVisit .topo 2 addr) s fun t => t.get Reg.BOOT_LAST_FCODE = 5 ∧ t.sys.phase = .reset ∧ WasReset true s t)) ∧
  (∀ (i j addr : Nat) (s : State), i < 4 → j = 0 → addr < 2 ^ 32 → s.flt.under = none → s.sys.phase = .running →
    Does (.configScrubVisit (.reg Reg.TIL_ROTA_INTERVAL.id i j) 2 addr) s fun t => t.get Reg.TIL_ROTA_INTERVAL i = Reg.TIL_ROTA_INTERVAL.reset i j ∧
      t.flt.under = some { dt := s.dtRef, code := 6, sev := 3, src := bits (0x60014 + 0x1000 * i) 12 12 }) ∧
  (∀ (c addr : Nat) (s : State), c < 64 → addr < 2 ^ 32 → Does (.configScrubVisit (.cond c) 2 addr) s fun t =>
    t.get Reg.FAB_COND_MAP_VALID c = 0 ∧ t.get Reg.TRG_COND_CFG_EN 0 c = 0 ∧ t.shadowOf Reg.TRG_COND_CFG_EN 0 c = none ∧ t.get Reg.FAB_INT_COND_OFF = 1)

/-- Precision edges and results: An edge of a pin is taken by the earlier armed interpolator of the core of a channel that measures
it, and is lost when none is armed; a calibration gives PERIOD and OFFSET and arms at the next edge only in range; the interpolator
calibrates again after 1,024 ref; a stream result is queued with the time of R271 (its rounding halves up by the model's choice, log
entry 184); a result waits for the others of its edge; an accepted stop ends a measurement with its interval, a stop outside the
window is ignored; and a timeout ends it with the start's time. -/
def Obligations.EdgeMeasurement : Prop :=
  (∀ (pin n x y : Nat) (falling : Bool) (s : State), pin < 34 → n < 32 → (∀ m ∈ List.range 32, s.get Reg.TDC_CH_CFG_PIN 0 m = pin ↔ m = n) → s.chEn n = true →
    s.chOff n = false → s.chWaits n = false → (s.tch n).from_ ≤ s.dtRef → (s.tch n).edgeAt = none → (s.tch n).loss = none → s.measures n falling = true → 2 * s.chCore n + 1 < s.tdc.interp.length →
    (s.interp (2 * s.chCore n)).armedFrom = some x → (s.interp (2 * s.chCore n + 1)).armedFrom = some y → x ≤ s.dtRef → y ≤ s.dtRef → Does (.tdcInputEdge pin falling) s fun t =>
      let own := if s.chMode n then s.hasStops n && s.stopFalling n == falling else true
      let r : TdcRun := { at_ := s.dtRef, falling := falling, ch := n, own := own, start := s.chMode n && s.ownStart n && !own }
      (x ≤ y → t = s.setInterp (2 * s.chCore n) { s.interp (2 * s.chCore n) with st := .run r }) ∧
      (y < x → t = s.setInterp (2 * s.chCore n + 1) { s.interp (2 * s.chCore n + 1) with st := .run r })) ∧
  (∀ (pin n : Nat) (falling : Bool) (s : State), pin < 34 → n < 32 → n < s.tdc.ch.length → (∀ m ∈ List.range 32, s.get Reg.TDC_CH_CFG_PIN 0 m = pin ↔ m = n) → s.chEn n = true →
    s.chOff n = false → (s.tch n).edgeAt = none → s.measures n falling = true → (s.interp (2 * s.chCore n)).armedFrom = none → (s.interp (2 * s.chCore n + 1)).armedFrom = none → (s.tch n).loss = none → Does (.tdcInputEdge pin falling) s fun t =>
      (t.tch n).loss = some (s.dtRef, s.dtRef, 1) ∧ t.get Reg.TDC_CH_LOST_COUNT 0 n = min (2 ^ 32 - 1) (s.get Reg.TDC_CH_LOST_COUNT 0 n + 1) ∧
      Only [Reg.TDC_CH_LOST_COUNT, Reg.TDC_INT_CNT_SAT] s t { s with regs := t.regs, tdc := { s.tdc with ch := t.tdc.ch } }) ∧
  (∀ (pin n : Nat) (falling : Bool) (s : State), pin < 34 → n < 32 → n < s.tdc.ch.length → (∀ m ∈ List.range 32, s.get Reg.TDC_CH_CFG_PIN 0 m = pin ↔ m = n) → s.chEn n = true →
    s.chOff n = false → (s.tch n).edgeAt = none → s.measures n falling = true → s.chWaits n = true → (s.tch n).loss = none → Does (.tdcInputEdge pin falling) s fun t =>
      (t.tch n).loss = some (s.dtRef, s.dtRef, 1) ∧ t.get Reg.TDC_CH_LOST_COUNT 0 n = min (2 ^ 32 - 1) (s.get Reg.TDC_CH_LOST_COUNT 0 n + 1) ∧
      Only [Reg.TDC_CH_LOST_COUNT, Reg.TDC_INT_CNT_SAT] s t { s with regs := t.regs, tdc := { s.tdc with ch := t.tdc.ch } }) ∧
  (∀ (interp n1 n2 since : Nat) (s : State), interp < 68 → interp < s.tdc.interp.length → (s.interp interp).st = .cal since → n1 + 1600 ≤ n2 → n2 ≤ n1 + 2560 → n2 ≤ 2 * n1 → 2 * n1 ≤ n2 + 384 →
    Does (.tdcCalEnd interp n1 n2) s fun t => t.interp interp = { st := .armed ((s.advanceTo (since + 3)).dtRef + 1), period := n2 - n1, offset := (2 * n1 : Nat) - (n2 : Int), bad := 0, calAt := (s.advanceTo (since + 3)).dtRef } ∧
      (∀ n ∈ List.range 32, s.chCore n = interp / 2 → t.get Reg.TDC_CH_CAL_PERIOD 0 n = n2 - n1 ∧ t.get Reg.TDC_CH_CAL_OFFSET 0 n = 2 * n1 - n2) ∧
      Only ([Reg.TDC_CH_CAL_PERIOD, Reg.TDC_CH_CAL_OFFSET] ++ timeFields) s t { s.advanceTo (since + 3) with regs := t.regs, tdc := { s.tdc with interp := t.tdc.interp } }) ∧
  (∀ (interp n1 n2 since : Nat) (s : State), interp < 68 → interp < s.tdc.interp.length → (s.interp interp).st = .cal since → n2 < n1 + 1600 → (s.interp interp).bad = 0 →
    Does (.tdcCalEnd interp n1 n2) s fun t => t.interp interp = { s.interp interp with st := .cal (s.advanceTo (since + 3)).dtRef, bad := 1 } ∧
      Only ([Reg.TDC_CH_CAL_PERIOD, Reg.TDC_CH_CAL_OFFSET] ++ timeFields) s t { s.advanceTo (since + 3) with regs := t.regs, tdc := { s.tdc with interp := t.tdc.interp } }) ∧
  (∀ (interp n1 n2 since : Nat) (s : State), interp < 68 → (s.interp interp).st = .cal since → n2 < n1 + 1600 → (s.interp interp).bad = 1 →
    Does (.tdcCalEnd interp n1 n2) s fun t => t.coreFailed (interp / 2) = true ∧ (s.coreFailed (interp / 2) = false → t.get Reg.TDC_INT_CORE_FAIL = 1)) ∧
  (∀ (interp e f : Nat) (s : State), interp < 68 → (s.interp interp).st = .armed e → (s.interp (if interp % 2 = 0 then interp + 1 else interp - 1)).st = .armed f → Does (.tdcIdleRecal interp) s fun t =>
    t = (s.advanceTo (max (e + 1024) f)).setInterp interp { s.interp interp with st := .cal (s.advanceTo (max (e + 1024) f)).dtRef }) ∧
  (∀ (interp n m : Nat) (r : TdcRun) (i : Int) (s : State), interp < 68 → interp < s.tdc.interp.length → m < 32 → m < s.tdc.ch.length → s.tdcRuns = [(interp, r)] → r.ch = m → r.own = true → r.start = false →
    (s.interp interp).interval n = i → 1984 ≤ i → i ≤ 4160 → s.chCore m = interp / 2 → s.chEn m = true → s.chOff m = false → s.chWaits m = false → (s.tch m).loss = none → s.chMode m = false →
    (∀ k ∈ List.range 32, s.chMode k = false) → s.flag Reg.TRG_PRIM_CFG_EN 0 m = false → s.tdcRoom m = true → s.dtRef < 2 ^ 64 → r.at_ < 2 ^ 40 →
    Does (.tdcResult interp n) s fun t =>
      let b : Int := ((r.at_ + 2 : Nat) : Int) * 2048 - i + toInt 24 (s.get Reg.TDC_CH_OFFSET_OFFSET 0 m)
      (t.tch m).queue = (s.tch m).queue ++ [{ w0 := (b / 2048).toNat, w1 := tdcWord1 0 m r.falling (decide (32 ≤ s.chCore m)) false false (b % 2048).toNat 0 }] ∧
      t.interp interp = { s.interp interp with st := .cal (r.at_ + 2), bad := 0 } ∧ t.dtRef = max s.dtRef (r.at_ + 3) ∧
      t.get Reg.TDC_CH_ENTRIES_COUNT 0 m = min (2 ^ 32 - 1) (s.get Reg.TDC_CH_ENTRIES_COUNT 0 m + 1) ∧
      t.get Reg.TDC_CH_STATUS_QLEVEL 0 m = (s.tch m).queue.length + 1 ∧
      Only ([Reg.TDC_CH_ENTRIES_COUNT, Reg.TDC_CH_STATUS_QLEVEL, Reg.TDC_QINT_Q, Reg.TDC_INT_CNT_SAT] ++ timeFields) s t { s.advanceTo (r.at_ + 3) with regs := t.regs, tdc := t.tdc }) ∧
  (∀ (interp n : Nat) (r : TdcRun) (s : State), interp < 68 → (s.interp interp).st = .run r → (s.tdcRuns.any fun x => x.1 != interp && x.2.at_ == r.at_ && x.2.count.isNone) = true → (s.tdcRuns.all fun x => decide (r.at_ ≤ x.2.at_)) = true →
    Does (.tdcResult interp n) s fun t => t = s.setInterp interp { s.interp interp with st := .run { r with count := some n } }) ∧
  (∀ (n : Nat) (t ts : Int) (falling bad f : Bool) (s : State), s.chState n = 2 → (s.tch n).start = some (ts, f) →
    (ts + s.get Reg.TDC_CH_WMIN_WMIN 0 n * 128 ≤ t → t ≤ ts + s.get Reg.TDC_CH_WMAX_WMAX 0 n * 128 →
      s.tdcStop n t falling bad = (((s.tdcEntry n 1 t falling bad (t - ts).toNat).prim n { t := t / 4 }).tdcEnd n)) ∧
    (t < ts + s.get Reg.TDC_CH_WMIN_WMIN 0 n * 128 ∨ ts + s.get Reg.TDC_CH_WMAX_WMAX 0 n * 128 < t → s.tdcStop n t falling bad = s.tdcount Reg.TDC_CH_IGN_COUNT n)) ∧
  (∀ (ch : Nat) (ts : Int) (f : Bool) (s : State), ch < 32 → ch < s.tdc.ch.length → s.chState ch = 2 → (s.tch ch).start = some (ts, f) → s.tdcRoom ch = true → s.flag Reg.TDC_CH_CFG_REARM 0 ch = false → (s.tch ch).loss = none → (s.tdcRuns.any fun x => x.2.ch == ch) = false →
    s.shadow = [] → Does (.tdcTimeout ch) s fun t =>
      t.dtRef = (s.advanceTo ((ts + s.get Reg.TDC_CH_WMAX_WMAX 0 ch * 128) / 2048 + 4).toNat).dtRef ∧ t.chState ch = 0 ∧ (t.tch ch).start = none ∧
      (t.tch ch).queue = (s.tch ch).queue ++ [{ w0 := (ts / 2048).toNat, w1 := tdcWord1 2 ch f (decide (32 ≤ s.chCore ch)) false false (ts % 2048).toNat 0 }] ∧
      t.get Reg.TDC_CH_TIMEOUT_COUNT 0 ch = min (2 ^ 32 - 1) (s.get Reg.TDC_CH_TIMEOUT_COUNT 0 ch + 1) ∧
      Only ([Reg.TDC_CH_ENTRIES_COUNT, Reg.TDC_CH_STATUS_QLEVEL, Reg.TDC_QINT_Q, Reg.TDC_INT_CNT_SAT] ++ [Reg.TDC_CH_TIMEOUT_COUNT, Reg.TDC_CH_STATUS_STATE] ++ timeFields) s t
        { s.advanceTo ((ts + s.get Reg.TDC_CH_WMAX_WMAX 0 ch * 128) / 2048 + 4).toNat with regs := t.regs, tdc := { s.tdc with ch := t.tdc.ch } })

/-- Edge channels, their queues and spare cores: ARM, DISARM and FLUSH act on the selected channel; enabling a start/stop channel arms
it; a read of the port snapshots the head entry with its ET and the read of its last word removes it; a loss episode closes with one
gap entry; a spare request is approved, declined or times out; and the counters clear. -/
def Obligations.EdgeChannels : Prop :=
  (∀ (val n : Nat) (s : State), val % 8 = 1 → s.responds 0x1A0054 = true → s.tdcSel = n → s.shadow = [] →
    (s.chMode n = true → s.chState n = 0 → s.chOff n = false → Does (.tdcArm val) s fun t => t.chState n = 1 ∧
      Only [Reg.TDC_CH_STATUS_STATE] s t { s with regs := t.regs, tdc := (s.setTch n { s.tch n with start := none }).tdc }) ∧
    ((s.chState n ≠ 0 ∨ s.chMode n = false) → Does (.tdcArm val) s fun t => t = s)) ∧
  (∀ (val n : Nat) (s : State), val % 8 = 7 → n < s.tdc.ch.length → s.responds 0x1A0054 = true → s.tdcSel = n → Does (.tdcArm val) s fun t => Does (.tdcDisarm val) s fun u => Does (.tdcFlush val) s fun v =>
    u = t ∧ v = t ∧ t.chState n = 0 ∧ (t.tch n).queue = [] ∧ (t.tch n).start = none ∧ t.get Reg.TDC_CH_STATUS_QLEVEL 0 n = 0) ∧
  (∀ (val n : Nat) (s : State), val % 8 = 2 → s.responds 0x1A0054 = true → s.tdcSel = n → Does (.tdcDisarm val) s fun t => t.chState n = 0 ∧
    Only [Reg.TDC_CH_STATUS_STATE] s t { s with regs := t.regs, tdc := (s.setTch n { s.tch n with start := none }).tdc }) ∧
  (∀ (val n : Nat) (s : State), val % 8 = 4 → s.responds 0x1A0054 = true → s.tdcSel = n → Does (.tdcFlush val) s fun t => t.get Reg.TDC_CH_STATUS_QLEVEL 0 n = 0 ∧
    Only [Reg.TDC_CH_STATUS_QLEVEL] s t { s with regs := t.regs, tdc := ((s.roomFrom n).setTch n { (s.roomFrom n).tch n with queue := [], snapIn := false }).tdc }) ∧
  (∀ (val n : Nat) (s : State), val.testBit 0 = true → s.responds 0x1A0044 = true → s.tdcSel = n → s.chEn n = false → s.chOff n = false → s.shadow = [] →
    bits val 2 2 ≠ 3 → bits val 8 6 ≤ 33 → Does (.tdcChannelEnable val) s fun t =>
      t.chEn n = true ∧ t.get Reg.TDC_CH_CFG_MODE 0 n = bits val 1 1 ∧ t.get Reg.TDC_CH_CFG_STD 0 n = bits val 2 2 ∧ t.get Reg.TDC_CH_CFG_EDGE 0 n = bits val 4 2 ∧
      t.get Reg.TDC_CH_CFG_REARM 0 n = bits val 6 1 ∧ t.get Reg.TDC_CH_CFG_PIN 0 n = bits val 8 6 ∧ t.get Reg.TDC_CH_CFG_START_SRC 0 n = bits val 16 6 ∧
      t.get Reg.TDC_CH_CFG_THR 0 n = bits val 24 4 ∧ t.chState n = (if val.testBit 1 then 1 else s.chState n) ∧
      Only [Reg.TDC_CH_CFG_EN, Reg.TDC_CH_CFG_MODE, Reg.TDC_CH_CFG_STD, Reg.TDC_CH_CFG_EDGE, Reg.TDC_CH_CFG_REARM, Reg.TDC_CH_CFG_PIN, Reg.TDC_CH_CFG_START_SRC,
        Reg.TDC_CH_CFG_THR, Reg.TDC_CH_STATUS_STATE] s t { s with regs := t.regs, tdc := { s.tdc with ch := t.tdc.ch } }) ∧
  (∀ (val n : Nat) (s : State), val.testBit 0 = true → s.responds 0x1A0044 = true → s.tdcSel = n → n < 32 → n < s.tdc.ch.length → s.chEn n = true → s.chMode n = val.testBit 1 → s.get Reg.TDC_CH_CFG_STD 0 n = bits val 2 2 → bits val 2 2 ≠ 3 →
    s.get Reg.TDC_CH_CFG_PIN 0 n = bits val 8 6 → bits val 8 6 ≤ 33 → Does (.tdcChannelEnable val) s fun t => t.shadowOf Reg.TDC_CH_CFG_EDGE 0 n = some (bits val 4 2) ∧ t.shadowOf Reg.TDC_CH_CFG_REARM 0 n = some (bits val 6 1) ∧
      t.shadowOf Reg.TDC_CH_CFG_START_SRC 0 n = some (bits val 16 6) ∧ t.get Reg.TDC_CH_CFG_THR 0 n = bits val 24 4 ∧ (t.tch n).edgeAt = some s.dtRef ∧
      Only [Reg.TDC_CH_CFG_THR, Reg.TDC_CH_CFG_EN] s t { s with regs := t.regs, shadow := t.shadow, tdc := { s.tdc with ch := t.tdc.ch } }) ∧
  (∀ (val n : Nat) (s : State), val.testBit 0 = true → s.responds 0x1A0044 = true → s.tdcSel = n → Does (.tdcChannelEnable val) s fun t =>
    (bits val 2 2 = 3 → t.get Reg.TDC_INT_REFUSED = 1 ∧ t.get Reg.TDC_CH_CFG_STD 0 n = s.get Reg.TDC_CH_CFG_STD 0 n) ∧
    (33 < bits val 8 6 → t.get Reg.TDC_INT_REFUSED = 1 ∧ t.get Reg.TDC_CH_CFG_PIN 0 n = s.get Reg.TDC_CH_CFG_PIN 0 n)) ∧
  (∀ (val n : Nat) (s : State), val.testBit 0 = true → s.responds 0x1A0044 = true → s.tdcSel = n → s.chEn n = true → s.chMode n ≠ val.testBit 1 → Does (.tdcChannelEnable val) s fun t =>
    t.chMode n = s.chMode n ∧ t.get Reg.TDC_INT_REFUSED = 1 ∧ t.get Reg.TDC_CH_CFG_THR 0 n = bits val 24 4 ∧ t.chState n = s.chState n) ∧
  (∀ (ch : Nat) (x : TdcEntry) (l : List TdcEntry) (s : State), ch < 32 → ch < s.tdc.ch.length → s.responds (0x1A1000 + 0x20 * ch) = true → (s.tch ch).queue = x :: l → Does (.tdcQueueSnapshot ch) s fun t =>
    let ns := (s.etOff + 4 * x.w0 + bits x.w1 42 11 / 512) % etMod
    t.rdata = [x.w0 % 2 ^ 32] ∧ (t.tch ch).snap = x ∧ (t.tch ch).snapEt = (ns / 1000000000, ns % 1000000000, bits x.w1 42 11 % 512, s.etValid) ∧ (t.tch ch).queue = x :: l ∧
    t = { s with rdata := t.rdata, tdc := { s.tdc with ch := t.tdc.ch } }) ∧
  (∀ (ch : Nat) (s : State), ch < 32 → ch < s.tdc.ch.length → s.responds (0x1A100C + 0x20 * ch) = true → Does (.tdcQueueRemove ch) s fun t => t.rdata = [bits (s.tch ch).snap.w1 32 32] ∧
    ((s.tch ch).snapIn = true → (t.tch ch).queue = (s.tch ch).queue.tail ∧
      ((s.tch ch).queue.length ≤ 512 → t.get Reg.TDC_CH_STATUS_QLEVEL 0 ch = (s.tch ch).queue.length - 1)) ∧
    ((s.tch ch).snapIn = false → t.tdc = s.tdc) ∧ Only [Reg.TDC_CH_STATUS_QLEVEL] s t { s with regs := t.regs, rdata := t.rdata, tdc := { s.tdc with ch := t.tdc.ch } }) ∧
  (∀ (ch : Nat) (s : State), ch < 32 → ch < s.tdc.ch.length → s.responds (0x1A1000 + 0x20 * ch) = true → (s.tch ch).queue = [] → Does (.tdcQueueSnapshot ch) s fun t =>
    t.rdata = [0] ∧ (t.tch ch).snapIn = false ∧ (t.tch ch).snap = { w0 := 0, w1 := 0 } ∧ t = { s with rdata := [0], tdc := { s.tdc with ch := t.tdc.ch } }) ∧
  (∀ (ch a z k e : Nat) (s : State), ch < 32 → ch < s.tdc.ch.length → (s.tch ch).loss = some (a, z, k) → s.lossEnds ch = some e → a ≤ e → e < a + 2 ^ 36 → s.dtRef ≤ e → e < 2 ^ 64 →
    Does (.tdcGapEntry ch) s fun t => (t.tch ch).loss = none ∧ t.dtRef = e ∧ z + 2 ≤ e ∧ t.get Reg.TDC_INT_LOSS = 1 ∧
      (t.tch ch).queue = (s.tch ch).queue ++ [{ w0 := a, w1 := tdcWord1 3 ch false (decide (32 ≤ s.chCore ch)) false false (min 2047 k) (e - a) }] ∧
      Only ([Reg.TDC_CH_ENTRIES_COUNT, Reg.TDC_CH_STATUS_QLEVEL, Reg.TDC_QINT_Q, Reg.TDC_INT_CNT_SAT] ++ [Reg.TDC_INT_LOSS] ++ timeFields) s t { s.advanceTo e with regs := t.regs, tdc := { s.tdc with ch := t.tdc.ch } }) ∧
  (∀ (ch a z k x y : Nat) (s : State), (s.tch ch).loss = some (a, z, k) → s.tdcRoom ch = true → s.chWaits ch = false → (s.interp (2 * s.chCore ch)).armedFrom = some x → (s.interp (2 * s.chCore ch + 1)).armedFrom = some y →
    s.lossEnds ch = some (max (max (min x y) (z + 2)) (max (s.tch ch).roomAt (s.tch ch).from_))) ∧
  (∀ (ch : Nat) (s : State), ch < 32 → (s.tch ch).loss = none → Does (.tdcGapEntry ch) s fun t => t = s) ∧
  (∀ (val n e k : Nat) (s : State), val % 4 = 1 → n < 32 → s.responds 0x1A0008 = true → s.tdc.reqs = [(n, e)] → s.freeCore = some k →
    Does (.tdcSpareApprove val) s fun t => (k = 32 ∨ k = 33) ∧ (k = 32 → t.get Reg.TDC_STATUS_SP32_USED = 1 ∧ t.get Reg.TDC_STATUS_SP32_CH = n) ∧
      (k = 33 → t.get Reg.TDC_STATUS_SP33_USED = 1 ∧ t.get Reg.TDC_STATUS_SP33_CH = n) ∧ t.get Reg.TDC_CH_STATUS_CORE 0 n = k ∧
      (n < s.tdc.ch.length → (t.tch n).from_ = s.dtRef + 1) ∧ t.get Reg.TDC_STATUS_REQ_PENDING = 0 ∧ t.tdc.reqs = [] ∧ t.get Reg.TDC_CH_OFF_OFF = s.get Reg.TDC_CH_OFF_OFF) ∧
  (∀ (val n e : Nat) (s : State), val % 4 = 1 → n < 32 → s.responds 0x1A0008 = true → s.tdc.reqs = [(n, e)] → s.freeCore = none →
    Does (.tdcSpareApprove val) s fun t => t.chOff n = true ∧ t.get Reg.TDC_INT_CH_OFF = 1 ∧ t.tdc.reqs = [] ∧ t.get Reg.TDC_STATUS_REQ_PENDING = 0) ∧
  (∀ (val n e : Nat) (s : State), val.testBit 1 = true → n < 32 → s.responds 0x1A0008 = true → s.tdc.reqs = [(n, e)] → (s.tch n).queue.length < 512 → n < s.tdc.ch.length →
    Does (.tdcSpareDecline val) s fun t => t.chOff n = true ∧ t.get Reg.TDC_INT_CH_OFF = 1 ∧ t.chState n = 0 ∧ t.get Reg.TDC_STATUS_REQ_PENDING = 0 ∧ t.tdc.reqs = [] ∧
      t.get Reg.TDC_INT_LOSS = 1 ∧ (t.tch n).queue.getLast?.map (fun x => (x.w0, bits x.w1 62 2, bits x.w1 53 1, bits x.w1 0 36)) = some (e, 3, 1, 2 ^ 36 - 1)) ∧
  (∀ (n e : Nat) (s : State), s.tdc.reqs = [(n, e)] → Does .tdcSpareTimeout s fun t => t = (s.advanceTo (e + 2 ^ 20)).tdcAnswer false ∧ t.tdc.reqs = [] ∧
    t.get Reg.TDC_STATUS_REQ_PENDING = 0 ∧ t.get Reg.TDC_INT_CH_OFF = 1) ∧
  (∀ (i j : Nat) (s : State), s.responds 0x1A0030 = true → Does .tdcCntClr s fun t => t.get Reg.TDC_CH_ENTRIES_COUNT i j = 0 ∧ t.get Reg.TDC_CH_LOST_COUNT i j = 0 ∧
    t.get Reg.TDC_CH_IGN_COUNT i j = 0 ∧ t.get Reg.TDC_CH_TIMEOUT_COUNT i j = 0 ∧ t.get Reg.TDC_CH_BAD_COUNT i j = 0 ∧
    RegsOnly [Reg.TDC_CH_ENTRIES_COUNT, Reg.TDC_CH_LOST_COUNT, Reg.TDC_CH_IGN_COUNT, Reg.TDC_CH_TIMEOUT_COUNT, Reg.TDC_CH_BAD_COUNT] s t)

/-- The analogue sequence, injections and results: EN rises when the table passes and starts the sequence, a failing table refuses the
write, and EN falls with everything pending discarded; a conversion tick samples on the grid and its group of one awaits delivery, a
delay tick passes; a fired slot requests once and later requests merge; the injected conversion samples DLY after its switch; and a
result is delivered 130 ref after its sample with its record. -/
def Obligations.AuxSequence : Prop :=
  (∀ (val : Nat) (s : State), val.testBit 0 = true → s.responds 0x1B0000 = true → s.auxEn = false → s.tableFault = none → Does (.auxEnable val) s fun t =>
    t.auxEn = true ∧ t.get Reg.AUX_CTRL_QEN = bits val 1 1 ∧ t.get Reg.AUX_EXC_STATUS_POL = 0 ∧ t.get Reg.AUX_EXC_STATUS_XLIM = 0 ∧ t.get Reg.AUX_EXC_STATUS_IMEAS = 0 ∧
    t.get Reg.AUX_STATUS_CONV = boolNat (s.runner == some true) ∧
    t.aux = { s.aux with pos := none, lastTick := s.dtRef, off := s.etOff, cur := none, before := none, after := none, ended := false, run := none, pend := [], rng := [], checkAt := s.dtRef, told := false, paused := true, wraps := 0, flipAt := s.dtRef, half := 0 } ∧
    Only [Reg.AUX_CTRL_EN, Reg.AUX_CTRL_QEN, Reg.AUX_EXC_STATUS_POL, Reg.AUX_EXC_STATUS_XLIM, Reg.AUX_EXC_STATUS_IMEAS, Reg.AUX_STATUS_CONV] s t { s with regs := t.regs, aux := t.aux }) ∧
  (∀ (val code e : Nat) (s : State), val.testBit 0 = true → s.responds 0x1B0000 = true → s.auxEn = false → s.tableFault = some (code, e) → Does (.auxEnable val) s fun t =>
    t = s.auxRefuse code e ∧ t.get Reg.AUX_INT_REFUSED = 1 ∧ t.auxEn = false) ∧
  (∀ (val : Nat) (s : State), val.testBit 0 = false → s.responds 0x1B0000 = true → s.auxEn = true → s.calRuns = false → Does (.auxDisable val) s fun t =>
    t.auxEn = false ∧ t.get Reg.AUX_CTRL_QEN = bits val 1 1 ∧
    t.aux = { s.aux with pos := none, cur := none, before := none, after := none, pend := [], run := none, broken := [], wraps := 0, flipAt := s.dtRef, half := 0 } ∧
    t.get Reg.AUX_EXC_STATUS_POL = 0 ∧ t.get Reg.AUX_EXC_STATUS_XLIM = 0 ∧ t.get Reg.AUX_EXC_STATUS_IMEAS = 0 ∧
    Only [Reg.AUX_CTRL_EN, Reg.AUX_CTRL_QEN, Reg.AUX_EXC_STATUS_POL, Reg.AUX_EXC_STATUS_XLIM, Reg.AUX_EXC_STATUS_IMEAS] s t { s with regs := t.regs, aux := t.aux }) ∧
  (∀ (val : Nat) (s : State), val.testBit 0 = false → s.responds 0x1B0000 = true → s.auxEn = true → s.calRuns = true → Does (.auxDisable val) s fun t =>
    t.auxEn = false ∧ t.get Reg.AUX_CAL_STATUS_STATE = 6 ∧ t.get Reg.AUX_CAL_STATUS_ERR = 6 ∧ t.get Reg.AUX_INT_CAL_ERR = 1 ∧ t.aux.pos = none ∧ t.aux.due = s.aux.due ∧ t.aux.queue = s.aux.queue) ∧
  (∀ (signal : Int) (imeas : Nat) (s : State), s.auxEn = false → Does (.auxTick signal imeas) s fun t => t = s) ∧
  (∀ (signal : Int) (imeas : Nat) (p : SeqPos) (s : State), s.auxEn = true → s.get Reg.AUX_CAL_STATUS_STATE = 0 → s.flag Reg.AUX_STATUS_MAIN_FAIL = false → s.aux.pos = some p → s.aux.pend = [] →
    s.aux.run = none → 2 ≤ p.ticks → p.entry < 64 → Does (.auxTick signal imeas) s fun t =>
      let e := s.gridNext s.aux.lastTick s.auxTickNs s.aux.off
      t.aux = { s.aux with pos := some { p with ticks := p.ticks - 1 }, lastTick := e, off := s.etOff, paused := false, runFrom := if s.aux.paused then e else s.aux.runFrom } ∧
      t.get Reg.AUX_STATUS_ENTRY = p.entry ∧ t.get Reg.AUX_STATUS_CONV = 0 ∧
      t.get Reg.AUX_EXC_STATUS_IMEAS = (if s.excRuns then min 3000 imeas else s.get Reg.AUX_EXC_STATUS_IMEAS) ∧
      Only ([Reg.AUX_STATUS_ENTRY, Reg.AUX_STATUS_CONV, Reg.AUX_EXC_STATUS_IMEAS] ++ timeFields) s t { s.advanceTo e with regs := t.regs, aux := t.aux }) ∧
  (∀ (signal : Int) (imeas : Nat) (s : State), s.auxEn = true → s.get Reg.AUX_CAL_STATUS_STATE = 0 → s.flag Reg.AUX_STATUS_MAIN_FAIL = false → s.aux.pos = none → s.aux.after = none → s.aux.pend = [] →
    s.aux.run = none → s.get Reg.AUX_SEQ_CFG_LAST = 0 → Does (.auxTick signal imeas) s fun t =>
      let w := s.auxWord 0
      t.aux.pos = some (if entDelay w + entConvs w = 0 then { entry := 0, word := 2 ^ 22, delay := 1, ticks := 1, left := 0 }
        else { entry := 0, word := w, delay := entDelay w, ticks := entDelay w, left := entConvs w }) ∧ t.get Reg.AUX_STATUS_ENTRY = 0 ∧ t.aux.due = s.aux.due) ∧
  (∀ (signal : Int) (imeas : Nat) (p : SeqPos) (s : State), s.auxEn = true → s.get Reg.AUX_CAL_STATUS_STATE = 0 → s.flag Reg.AUX_STATUS_MAIN_FAIL = false → s.aux.pos = some p → s.aux.pend = [] →
    s.aux.run = none → p.ticks = 0 → p.entry < 64 → p.grp = [] → p.redo = false → 2 ≤ p.left → entAvg p.word = 0 → entBridge p.word = false → entArng p.word = false → s.get Reg.AUX_PIN_CLAMP_NOW = 0 →
    s.aux.rec_ = none → s.aux.broken = [] → s.aux.rng = [] → Does (.auxTick signal imeas) s fun t =>
      let e := s.gridNext s.aux.lastTick s.auxTickNs s.aux.off
      let raw := reading (entMode p.word) (entRange p.word) signal
      let c : Conv := { entry := p.entry, at_ := e, stamp := s.atOf e, raw := raw, code := max (-131072) (min 131071 raw), ovr := decide (raw < -131072 ∨ 131071 < raw), range := entRange p.word }
      t.aux = { s.aux with due := s.aux.due ++ [{ kind := 0, entry := p.entry, word := p.word, avg := 0, ofs := toInt 24 (s.get Reg.AUX_COEF_OFS_OFFSET 0 (entCset p.word)), gain := s.get Reg.AUX_COEF_GAIN_GAIN 0 (entCset p.word), convs := [c] }], pos := some { p with left := p.left - 1 }, lastTick := e, off := s.etOff, cur := some c, before := some p, ended := false, paused := false, runFrom := if s.aux.paused then e else s.aux.runFrom } ∧
      Only ([Reg.AUX_STATUS_ENTRY, Reg.AUX_STATUS_CONV, Reg.AUX_EXC_STATUS_IMEAS] ++ timeFields) s t { s.advanceTo e with regs := t.regs, aux := t.aux }) ∧
  (∀ (k : Nat) (s : State), k < 4 → s.responds 0x1B0030 = true → (s.auxEn = false → Does (.auxInjectFire (2 ^ k)) s fun t => t = s) ∧
    (s.auxEn = true → s.aux.pend = [] → s.aux.run = none → s.aux.cur = none → s.aux.pos = none → Does (.auxInjectFire (2 ^ k)) s fun t =>
      t = s.setAux { s.aux with pend := [{ slot := k, edge := s.dtRef }] }) ∧
    (s.auxEn = true → (s.aux.pend.any fun r => r.slot == k) = true → Does (.auxInjectFire (2 ^ k)) s fun t =>
      t = s.acount Reg.AUX_INJ_MERGED_COUNT ∧ t.get Reg.AUX_INJ_MERGED_COUNT = min (2 ^ 32 - 1) (s.get Reg.AUX_INJ_MERGED_COUNT + 1))) ∧
  (∀ (k : Nat) (p : SeqPos) (s : State), k < 4 → s.responds 0x1B0030 = true → s.auxEn = true → s.aux.pend = [] → s.aux.run = none → s.aux.cur = none → s.aux.pos = some p → p.entry < 64 →
    Does (.auxInjectFire (2 ^ k)) s fun t => t.aux = { s.aux with pend := [{ slot := k, edge := s.dtRef }], pos := some { p with ticks := p.delay } } ∧
      t.get Reg.AUX_SLIP_COUNT = min (2 ^ 32 - 1) (s.get Reg.AUX_SLIP_COUNT + (p.delay - p.ticks)) ∧ t.get Reg.AUX_STATUS_ENTRY = p.entry ∧
      Only [Reg.AUX_SLIP_COUNT, Reg.AUX_INT_CNT_SAT, Reg.AUX_STATUS_ENTRY] s t { s with regs := t.regs, aux := t.aux }) ∧
  (∀ (signal : Int) (r : InjReq) (spare : Bool) (s : State), s.aux.pend = [r] → r.next = false → r.slot < 4 → s.runner = some spare → s.auxEn = true → s.aux.run = none → s.aux.cur = none → s.aux.pos = none →
    Does (.auxInjectedSample signal) s fun t =>
      let b := r.edge + 1 + max 2 (s.get Reg.AUX_INJ_CFG_DLY r.slot)
      let e := s.get Reg.AUX_INJ_CFG_ENTRY r.slot
      let w := s.auxWord e
      let c := (s.advanceTo b).convert e w b signal (s.auxRange e w) false (s.flag Reg.AUX_STATUS_CONV || s.flag Reg.AUX_STATUS_MAIN_FAIL) false
      t.aux = { s.aux with pend := [], run := some ([r.slot], b), rng := t.aux.rng, due := s.aux.due ++ [{ kind := 1, entry := e, word := w, avg := 0, ofs := toInt 24 (s.get Reg.AUX_COEF_OFS_OFFSET 0 (entCset w)), gain := s.get Reg.AUX_COEF_GAIN_GAIN 0 (entCset w), convs := [c] }] } ∧
      c.at_ = b ∧ c.raw = reading (entMode w) (s.auxRange e w) signal ∧
      Only timeFields s t { s.advanceTo b with regs := t.regs, aux := t.aux }) ∧
  (∀ (signal : Int) (s : State), (s.runner = none ∨ s.aux.pend = []) → Does (.auxInjectedSample signal) s fun t => t = s) ∧
  (∀ (r : AuxRes) (l : List AuxRes) (c : Conv) (s : State), s.aux.due = r :: l → r.convs = [c] → r.kind = 1 → r.entry < 64 → r.avg < 8 → c.range < 8 → c.stamp < 2 ^ 64 → s.flag Reg.AUX_CTRL_QEN = false →
    c.ovr = false → c.wire = false → r.value = ((2 * ((64 * c.code / (2 ^ r.avg : Nat) - r.ofs) * r.gain) + 2 ^ 22) / 2 ^ 23, false, false) → Does .auxResult s fun t =>
      let w := t.get Reg.AUX_LAST_RECORD r.entry
      t.aux.due = l ∧ t.dtRef = (s.advanceTo (c.at_ + 130)).dtRef ∧ bits w 0 64 = c.stamp ∧ bits w 126 2 = 1 ∧ bits w 125 1 = 1 ∧ bits w 119 6 = r.entry ∧ bits w 116 3 = c.range ∧
      bits w 113 3 = r.avg ∧ bits w 112 1 = 0 ∧ bits w 64 24 = ofInt 24 r.value.1 ∧
      t.get Reg.AUX_RESULTS_COUNT = min (2 ^ 32 - 1) (s.get Reg.AUX_RESULTS_COUNT + 1) ∧
      Only ([Reg.AUX_LAST_RECORD, Reg.AUX_RESULTS_COUNT, Reg.AUX_INT_CNT_SAT] ++ timeFields) s t
        { s.advanceTo (c.at_ + 130) with regs := t.regs, aux := { s.aux with due := l, lastAt := t.aux.lastAt } }) ∧
  (∀ (r : AuxRes) (l : List AuxRes) (c : Conv) (s : State), s.aux.due = r :: l → r.convs = [c] → r.kind = 1 → r.entry < 64 → c.stamp < 2 ^ 64 → s.flag Reg.AUX_CTRL_QEN = true → s.aux.queue.loss = none →
    s.aux.queue.q.length + 2 ≤ 1024 → Does .auxResult s fun t =>
      t.aux.queue = { s.aux.queue with q := s.aux.queue.q ++ [(c.stamp, t.get Reg.AUX_LAST_RECORD r.entry / 2 ^ 64)] } ∧ t.get Reg.AUX_Q_STATUS_QLEVEL = s.aux.queue.q.length + 1 ∧
      (s.aux.queue.q.length + 1 = min 1023 (64 * (s.get Reg.AUX_Q_STATUS_THR + 1)) → t.get Reg.AUX_INT_QTHR = 1)) ∧
  (∀ (s : State), s.aux.due = [] → Does .auxResult s fun t => t = s)

/-- Analogue records, pins and checks: The queue port snapshots and removes the head record; a loss episode closes with one gap
record; clamps that conduct show and latch and mark the conversions in progress; a wire break marks its entry until it clears; a limit
of the generator shows in XLIM, and its force pins stand at LEVEL by the polarity or float; a pin write takes its role, or is refused
with its code; and the counters clear. -/
def Obligations.AuxRecords : Prop :=
  (∀ (x : Nat × Nat) (l : List (Nat × Nat)) (s : State), s.responds 0x1B0200 = true → s.aux.queue.q = x :: l → Does .auxQueueSnapshot s fun t =>
    t = { s with rdata := [x.1 % 2 ^ 32], aux := { s.aux with queue := { s.aux.queue with snap := x, snapIn := true } } }) ∧
  (∀ (s : State), s.responds 0x1B020C = true → s.aux.queue.snapIn = true → s.aux.queue.q.length ≤ 1024 → Does .auxQueueRemove s fun t => t.rdata = [bits s.aux.queue.snap.2 32 32] ∧
    t.aux.queue = { s.aux.queue with q := s.aux.queue.q.tail, snapIn := false } ∧ t.get Reg.AUX_Q_STATUS_QLEVEL = s.aux.queue.q.tail.length ∧
    Only [Reg.AUX_Q_STATUS_QLEVEL] s t { s with regs := t.regs, rdata := t.rdata, aux := { s.aux with queue := t.aux.queue } }) ∧
  (∀ (l : LossEp) (s : State), s.aux.queue.loss = some l → s.aux.queue.hasRoom = true → s.auxEn = true → s.aux.paused = false → s.runner.isSome = true →
    s.dtRef ≤ max (l.last + 2) (max s.aux.queue.roomAt s.aux.runFrom) → max (l.last + 2) (max s.aux.queue.roomAt s.aux.runFrom) < 2 ^ 64 →
    max (l.last + 2) (max s.aux.queue.roomAt s.aux.runFrom) < l.from_ + 2 ^ 37 - 1 → l.from_ ≤ l.last → l.count < 2 ^ 24 → Does .auxGapRecord s fun t =>
      let e := max (l.last + 2) (max s.aux.queue.roomAt s.aux.runFrom)
      t.aux.queue = { s.aux.queue with loss := none, q := s.aux.queue.q ++ [(l.start, 2 * 2 ^ 62 + 2 ^ 61 + (e - l.from_) * 2 ^ 24 + l.count)] } ∧ t.get Reg.AUX_INT_LOSS = 1 ∧
      t.get Reg.AUX_Q_STATUS_QLEVEL = s.aux.queue.q.length + 1 ∧
      Only ([Reg.AUX_INT_LOSS, Reg.AUX_Q_STATUS_QLEVEL, Reg.AUX_INT_QTHR] ++ timeFields) s t { s.advanceTo e with regs := t.regs, aux := { s.aux with queue := t.aux.queue } }) ∧
  (∀ (s : State), s.aux.queue.loss = none → Does .auxGapRecord s fun t => t = s) ∧
  (∀ (volts : List Int) (s : State), clampMask volts ≠ 0 → Does (.axClampConduct volts) s fun t =>
    let pins := clampMask volts
    let f (c : Conv) : Conv := if c.busy s.dtRef && inMask pins (s.clampPins (s.auxWord c.entry)) then { c with clamp := true, ovr := true, code := if 0 ≤ c.raw then 131071 else -131072 } else c
    t.get Reg.AUX_PIN_CLAMP_NOW = pins ∧ t.get Reg.AUX_PIN_CLAMPED_SEEN = Nat.lor (s.get Reg.AUX_PIN_CLAMPED_SEEN) pins % 65536 ∧ t.get Reg.AUX_INT_CLAMP = 1 ∧
    t.aux.rec_ = some (s.dtRef, if s.dtRef < s.aux.switchAt then [s.aux.switchAt] else []) ∧
    t.aux.due = s.aux.due.map (fun r => { r with convs := r.convs.map f }) ∧ t.aux.pos = s.aux.pos.map (fun p => { p with grp := p.grp.map f }) ∧
    Only [Reg.AUX_PIN_CLAMP_NOW, Reg.AUX_PIN_CLAMPED_SEEN, Reg.AUX_INT_CLAMP] s t
      { s with regs := t.regs, aux := { s.aux with rec_ := t.aux.rec_, due := t.aux.due, pos := t.aux.pos, cal := { s.aux.cal with bad := t.aux.cal.bad } } }) ∧
  (∀ (volts : List Int) (s : State), clampMask volts = 0 → Does (.axClampConduct volts) s fun t => t.get Reg.AUX_PIN_CLAMP_NOW = 0 ∧
    (s.get Reg.AUX_PIN_CLAMP_NOW = 0 → t.aux = s.aux) ∧
    (s.get Reg.AUX_PIN_CLAMP_NOW ≠ 0 → t.aux.rec_ = some (s.dtRef - 1, if s.dtRef ≤ s.aux.switchAt then [s.aux.switchAt] else [])) ∧
    Only [Reg.AUX_PIN_CLAMP_NOW] s t { s with regs := t.regs, aux := { s.aux with rec_ := t.aux.rec_, cal := { s.aux.cal with bad := t.aux.cal.bad } } }) ∧
  (∀ (entry : Nat) (check : WireCheck) (s : State), entry < 64 → s.auxEn = true → entWchk (s.auxWord entry) = true → s.wireBreaks (s.auxWord entry) check = true → Does (.wireBreakDetect entry check) s fun t =>
    t.isBroken entry = true ∧ t.aux.broken = s.aux.broken.set 0 entry (s.dtRef + 1) ∧ (t.get Reg.AUX_WIRE_WIRE (entry / 32)).testBit (entry % 32) = true ∧ t.get Reg.AUX_INT_WIRE = 1 ∧
    t.aux.due = s.aux.due.map (fun r => { r with convs := r.convs.map fun c => if c.busy s.dtRef && c.entry == entry then { c with wire := true } else c }) ∧
    Only [Reg.AUX_WIRE_WIRE, Reg.AUX_INT_WIRE] s t
      { s with regs := t.regs, aux := { s.aux with broken := t.aux.broken, due := t.aux.due, pos := t.aux.pos, cal := { s.aux.cal with bad := t.aux.cal.bad } } }) ∧
  (∀ (entry : Nat) (check : WireCheck) (s : State), entry < 64 → (s.auxEn = false ∨ entWchk (s.auxWord entry) = false ∨ s.wireBreaks (s.auxWord entry) check = false) → Does (.wireBreakDetect entry check) s fun t => t = s) ∧
  (∀ (imin imeas : Nat) (fp fn sp sn p n : Int) (w : Nat) (s : State), s.get Reg.AUX_EXC_CFG_IMIN = imin → s.get Reg.AUX_EXC_STATUS_IMEAS = imeas →
    (s.wireBreaks w .current = true ↔ entMode w = 2 ∧ imeas < 10 * imin) ∧
    (s.wireBreaks w (.senses fp fn sp sn p n) = true ↔ entMode w = 2 ∧ s.roleHeld 4 = true ∧ s.roleHeld 5 = true ∧
      (500 < (sp - fp).natAbs ∨ 500 < (sn - fn).natAbs ∨ p < min sp sn ∨ max sp sn < p ∨ n < min sp sn ∨ max sp sn < n))) ∧
  (∀ (entry : Nat) (s : State), entry < 64 → s.isBroken entry = true → Does (.wireClear entry) s fun t =>
    let e := s.aux.broken.get 0 entry - 1 + max 75000 s.aux.half
    t.aux.broken = s.aux.broken.set 0 entry 0 ∧
    Only timeFields s t { s.advanceTo e with regs := t.regs, aux := { s.aux with broken := t.aux.broken, cal := { s.aux.cal with bad := t.aux.cal.bad } } }) ∧
  (∀ (entry : Nat) (s : State), entry < 64 → s.isBroken entry = false → Does (.wireClear entry) s fun t => t = s) ∧
  (∀ (imeas : Nat) (s : State),
    (s.excRuns = true → Does (.excitationLimit imeas) s fun t => t.get Reg.AUX_EXC_STATUS_IMEAS = min 3000 imeas ∧ t.get Reg.AUX_EXC_STATUS_XLIM = 1 ∧ t.get Reg.AUX_INT_XLIM = 1 ∧
      RegsOnly [Reg.AUX_EXC_STATUS_IMEAS, Reg.AUX_EXC_STATUS_XLIM, Reg.AUX_INT_XLIM] s t) ∧
    (s.excRuns = false → Does (.excitationLimit imeas) s fun t => t = s)) ∧
  (∀ (imeas : Nat) (s : State), Does (.excitationLimitClear imeas) s fun t => t.get Reg.AUX_EXC_STATUS_XLIM = 0 ∧
    t.get Reg.AUX_EXC_STATUS_IMEAS = (if s.excRuns then min 3000 imeas else s.get Reg.AUX_EXC_STATUS_IMEAS) ∧ RegsOnly [Reg.AUX_EXC_STATUS_IMEAS, Reg.AUX_EXC_STATUS_XLIM] s t) ∧
  (∀ (p : Nat) (s : State), p < 16 → s.sys.phase = .running → s.excRuns = true → s.get Reg.AUX_EXC_STATUS_XLIM = 0 →
    (s.pinRole p = 2 → s.senses = false → s.pinDrive p = .level ((if s.flag Reg.AUX_EXC_STATUS_POL then -1 else 1) * (10 ^ 10 * (min 250 (s.get Reg.AUX_EXC_CFG_LEVEL) : Nat)))) ∧
    (s.pinRole p = 3 → s.senses = false → s.pinDrive p = .level ((if s.flag Reg.AUX_EXC_STATUS_POL then 1 else -1) * (10 ^ 10 * (min 250 (s.get Reg.AUX_EXC_CFG_LEVEL) : Nat)))) ∧
    (s.pinRole p = 2 ∨ s.pinRole p = 3 → s.senses = true → s.pinDrive p = .forced)) ∧
  (∀ (p : Nat) (s : State), p < 16 → (s.sys.phase ≠ .running ∨ s.pinRole p = 0 ∨ s.excRuns = false ∧ (s.pinRole p = 2 ∨ s.pinRole p = 3) ∨ s.pinRole p = 4 ∨ s.pinRole p = 5) → s.pinDrive p = .highZ) ∧
  (∀ (pin val : Nat) (s : State), pin < 16 → s.responds (0x1B0040 + 4 * pin) = true → bits val 0 3 ≠ 7 → s.auxEn = false →
    (bits val 0 3 < 2 ∨ bits val 0 3 = 6 ∨ ∀ q ∈ List.range 16, q ≠ pin → s.pinRole q ≠ bits val 0 3) → Does (.auxPinCfgWrite pin val) s fun t =>
      t.pinRole pin = bits val 0 3 ∧ t.get Reg.AUX_PIN_CFG_BIAS pin = bits val 16 12 ∧ (∀ q ∈ List.range 16, q ≠ pin → t.pinRole q = s.pinRole q) ∧
      RegsOnly [Reg.AUX_PIN_CFG_ROLE, Reg.AUX_PIN_CFG_BIAS] s t) ∧
  (∀ (pin val : Nat) (s : State), pin < 16 → s.responds (0x1B0040 + 4 * pin) = true →
    (bits val 0 3 = 7 → Does (.auxPinCfgWrite pin val) s fun t => t = s.auxRefuse 4 pin ∧ t.get Reg.AUX_ERR_CODE = 4 ∧ t.get Reg.AUX_ERR_IDX = pin) ∧
    (2 ≤ bits val 0 3 → bits val 0 3 ≤ 5 → s.pinRole ((pin + 1) % 16) = bits val 0 3 → Does (.auxPinCfgWrite pin val) s fun t => t = s.auxRefuse 3 pin ∧ t.get Reg.AUX_ERR_CODE = 3) ∧
    (bits val 0 3 < 2 → s.pinRole pin ≠ bits val 0 3 → s.auxEn = true → Does (.auxPinCfgWrite pin val) s fun t => t.pinRole pin = s.pinRole pin ∧ t.get Reg.AUX_ERR_CODE = 5 ∧ t.get Reg.AUX_ERR_IDX = pin ∧
      t.get Reg.AUX_INT_REFUSED = 1 ∧ t.get Reg.AUX_PIN_CFG_BIAS pin = bits val 16 12 ∧ RegsOnly [Reg.AUX_INT_REFUSED, Reg.AUX_ERR_CODE, Reg.AUX_ERR_IDX, Reg.AUX_PIN_CFG_BIAS] s t)) ∧
  (∀ (i j : Nat) (s : State), s.responds 0x1B0108 = true → Does .auxCntClr s fun t => t.get Reg.AUX_RESULTS_COUNT i j = 0 ∧ t.get Reg.AUX_LOST_COUNT i j = 0 ∧ t.get Reg.AUX_OVR_COUNT i j = 0 ∧
    t.get Reg.AUX_RESTART_COUNT i j = 0 ∧ t.get Reg.AUX_SLIP_COUNT i j = 0 ∧ t.get Reg.AUX_INJ_MERGED_COUNT i j = 0 ∧ t.get Reg.AUX_MISMATCH_COUNT i j = 0 ∧
    RegsOnly [Reg.AUX_RESULTS_COUNT, Reg.AUX_LOST_COUNT, Reg.AUX_OVR_COUNT, Reg.AUX_RESTART_COUNT, Reg.AUX_SLIP_COUNT, Reg.AUX_INJ_MERGED_COUNT, Reg.AUX_MISMATCH_COUNT] s t)

/-- System calibration and the converter check: ZERO and FULL begin their steps or end with the errors of R312; the zero step measures
Z and waits for FULL, the full step gives OFFSET and GAIN to the shadow of its set, a conversion that carried a flag ends it; TMO and
ABORT end it; and converters more than 32 apart are counted, and one that misses the reference is marked failed. -/
def Obligations.AuxCalibration : Prop :=
  (∀ (val : Nat) (s : State), bits val 0 2 = 1 → s.responds 0x1B0090 = true →
    (s.calRuns = true → Does (.auxCalZero val) s fun t => t = s.calFail 1 ∧ t.get Reg.AUX_CAL_STATUS_ERR = 1 ∧ t.get Reg.AUX_CAL_STATUS_STATE = 6) ∧
    (s.calRuns = false → s.entryFault (s.auxWord (bits val 16 6)) = 0 → s.auxEn = true → s.flag Reg.AUX_STATUS_MAIN_FAIL = false → s.aux.pend = [] → s.aux.run = none →
      Does (.auxCalZero val) s fun t => t.get Reg.AUX_CAL_STATUS_STATE = 2 ∧ t.get Reg.AUX_CAL_STATUS_ERR = 0 ∧
        t.aux = { s.aux with cal := { entry := bits val 16 6, set := bits val 8 4, zonly := val.testBit 2 } } ∧
        Only [Reg.AUX_CAL_STATUS_STATE, Reg.AUX_CAL_STATUS_ERR] s t { s with regs := t.regs, aux := t.aux }) ∧
    (s.calRuns = false → s.entryFault (s.auxWord (bits val 16 6)) = 0 → s.auxEn = true → s.flag Reg.AUX_STATUS_MAIN_FAIL = false → s.aux.pend ≠ [] →
      Does (.auxCalZero val) s fun t => t.get Reg.AUX_CAL_STATUS_STATE = 1 ∧ t.aux.cal = { entry := bits val 16 6, set := bits val 8 4, zonly := val.testBit 2 }) ∧
    (s.calRuns = false → s.entryFault (s.auxWord (bits val 16 6)) ≠ 0 → Does (.auxCalZero val) s fun t => t = s.calFail 2) ∧
    (s.calRuns = false → s.entryFault (s.auxWord (bits val 16 6)) = 0 → s.flag Reg.AUX_STATUS_MAIN_FAIL = true → s.flag Reg.AUX_STATUS_SPARE_FAIL = true → Does (.auxCalZero val) s fun t => t = s.calFail 7)) ∧
  (∀ (val : Nat) (s : State), bits val 0 2 = 2 → s.responds 0x1B0090 = true →
    (s.get Reg.AUX_CAL_STATUS_STATE = 3 → s.entryFault (s.auxWord s.aux.cal.entry) = 0 → s.auxEn = true → s.flag Reg.AUX_STATUS_MAIN_FAIL = false → s.aux.pend = [] → s.aux.run = none →
      Does (.auxCalFull val) s fun t => t.get Reg.AUX_CAL_STATUS_STATE = 4 ∧ t.aux = { s.aux with cal := { s.aux.cal with full := true, begun := none, resumed := false } }) ∧
    (s.get Reg.AUX_CAL_STATUS_STATE = 0 → Does (.auxCalFull val) s fun t => t = s.calFail 8) ∧
    (s.get Reg.AUX_CAL_STATUS_STATE = 2 → Does (.auxCalFull val) s fun t => t = s.calFail 1)) ∧
  (∀ (val : Nat) (s : State), bits val 0 2 = 3 → s.responds 0x1B0090 = true → (s.calRuns = true → Does (.auxCalAbort val) s fun t => t = s.calFail 6) ∧ (s.calRuns = false → Does (.auxCalAbort val) s fun t => t = s)) ∧
  (∀ (signals : List Int) (e : Nat) (s : State), s.aux.cal.begun = some e → s.get Reg.AUX_CAL_STATUS_STATE = 2 → s.aux.cal.full = false → s.aux.cal.zonly = false → s.aux.cal.cavg ≤ 10 →
    s.aux.cal.bad = false → (s.calSum e signals).2 = false → inMask (s.get Reg.AUX_PIN_CLAMP_NOW) (s.clampPins (s.auxWord s.aux.cal.entry)) = false →
    (entWchk (s.auxWord s.aux.cal.entry) && s.isBroken s.aux.cal.entry) = false → Does (.auxCalStepEnd signals) s fun t =>
      let z : Int := 64 * (s.calSum e signals).1 / (2 ^ s.aux.cal.cavg : Nat)
      let d := (s.advanceTo (e + 64 + 125 * 2 ^ s.aux.cal.cavg + 5)).dtRef
      t.get Reg.AUX_CAL_STATUS_STATE = 3 ∧ t.get Reg.AUX_CAL_Z_Z = ofInt 24 z ∧
      t.aux = { s.aux with cal := { s.aux.cal with begun := none, z := z, since := d }, pend := if s.runner.isNone then s.aux.pend.map (fun r => { r with edge := max r.edge d }) else s.aux.pend } ∧
      Only ([Reg.AUX_CAL_STATUS_STATE, Reg.AUX_CAL_Z_Z] ++ timeFields) s t { s.advanceTo (e + 64 + 125 * 2 ^ s.aux.cal.cavg + 5) with regs := t.regs, aux := t.aux }) ∧
  (∀ (signals : List Int) (e : Nat) (s : State), s.aux.cal.begun = some e → s.get Reg.AUX_CAL_STATUS_STATE = 2 → s.aux.cal.full = false → s.aux.cal.zonly = true → s.aux.cal.cavg ≤ 10 → s.auxEn = true → s.aux.cal.set < 16 →
    s.aux.cal.bad = false → (s.calSum e signals).2 = false → inMask (s.get Reg.AUX_PIN_CLAMP_NOW) (s.clampPins (s.auxWord s.aux.cal.entry)) = false →
    (entWchk (s.auxWord s.aux.cal.entry) && s.isBroken s.aux.cal.entry) = false → Does (.auxCalStepEnd signals) s fun t =>
      let z : Int := 64 * (s.calSum e signals).1 / (2 ^ s.aux.cal.cavg : Nat)
      t.get Reg.AUX_CAL_STATUS_STATE = 5 ∧ t.get Reg.AUX_INT_CAL_DONE = 1 ∧ t.get Reg.AUX_CAL_Z_Z = ofInt 24 z ∧ t.get Reg.AUX_STATUS_PENDING = 1 ∧
      t.shadowOf Reg.AUX_COEF_OFS_OFFSET 0 s.aux.cal.set = some (ofInt 24 z) ∧ t.shadowOf Reg.AUX_COEF_GAIN_GAIN 0 s.aux.cal.set = s.shadowOf Reg.AUX_COEF_GAIN_GAIN 0 s.aux.cal.set) ∧
  (∀ (signals : List Int) (e g : Nat) (s : State), s.aux.cal.begun = some e → s.get Reg.AUX_CAL_STATUS_STATE = 4 → s.aux.cal.full = true → s.aux.cal.cavg ≤ 10 → s.auxEn = true → s.aux.cal.set < 16 →
    s.aux.cal.bad = false → (s.calSum e signals).2 = false → inMask (s.get Reg.AUX_PIN_CLAMP_NOW) (s.clampPins (s.auxWord s.aux.cal.entry)) = false →
    (entWchk (s.auxWord s.aux.cal.entry) && s.isBroken s.aux.cal.entry) = false →
    calGain s.aux.cal.z (64 * (s.calSum e signals).1 / (2 ^ s.aux.cal.cavg : Nat)) (toInt 18 (s.get Reg.AUX_CAL_FS_FS)) = some g → Does (.auxCalStepEnd signals) s fun t =>
      t.get Reg.AUX_CAL_STATUS_STATE = 5 ∧ t.get Reg.AUX_INT_CAL_DONE = 1 ∧ t.get Reg.AUX_STATUS_PENDING = 1 ∧
      t.shadowOf Reg.AUX_COEF_OFS_OFFSET 0 s.aux.cal.set = some (ofInt 24 s.aux.cal.z) ∧ t.shadowOf Reg.AUX_COEF_GAIN_GAIN 0 s.aux.cal.set = some g ∧
      t.get Reg.AUX_COEF_GAIN_GAIN 0 s.aux.cal.set = s.get Reg.AUX_COEF_GAIN_GAIN 0 s.aux.cal.set) ∧
  (∀ (signals : List Int) (e : Nat) (s : State), s.aux.cal.begun = some e → s.get Reg.AUX_CAL_STATUS_STATE = 4 → s.aux.cal.full = true → s.aux.cal.cavg ≤ 10 →
    s.aux.cal.bad = false → (s.calSum e signals).2 = false → inMask (s.get Reg.AUX_PIN_CLAMP_NOW) (s.clampPins (s.auxWord s.aux.cal.entry)) = false →
    (entWchk (s.auxWord s.aux.cal.entry) && s.isBroken s.aux.cal.entry) = false →
    calGain s.aux.cal.z (64 * (s.calSum e signals).1 / (2 ^ s.aux.cal.cavg : Nat)) (toInt 18 (s.get Reg.AUX_CAL_FS_FS)) = none → Does (.auxCalStepEnd signals) s fun t =>
      t.get Reg.AUX_CAL_STATUS_STATE = 6 ∧ t.get Reg.AUX_CAL_STATUS_ERR = 4 ∧ t.get Reg.AUX_INT_CAL_ERR = 1 ∧ t.shadow = s.shadow) ∧
  (∀ (signals : List Int) (e : Nat) (s : State), s.aux.cal.begun = some e → s.calMeasures = true →
    (s.aux.cal.bad = true ∨ (s.calSum e signals).2 = true ∨ inMask (s.get Reg.AUX_PIN_CLAMP_NOW) (s.clampPins (s.auxWord s.aux.cal.entry)) = true ∨
      entWchk (s.auxWord s.aux.cal.entry) = true ∧ s.isBroken s.aux.cal.entry = true) → Does (.auxCalStepEnd signals) s fun t =>
    t.get Reg.AUX_CAL_STATUS_STATE = 6 ∧ t.get Reg.AUX_CAL_STATUS_ERR = 3 ∧ t.get Reg.AUX_INT_CAL_ERR = 1 ∧ t.shadow = s.shadow) ∧
  (∀ (signals : List Int) (s : State), s.calMeasures = false → Does (.auxCalStepEnd signals) s fun t => t = s) ∧
  (∀ (s : State), s.get Reg.AUX_CAL_STATUS_STATE = 3 → Does .auxCalTimeout s fun t =>
    t = (s.advanceTo (s.aux.cal.since + 250000000 * max 1 (s.get Reg.AUX_CAL_CFG_TMO))).calFail 5 ∧ t.get Reg.AUX_CAL_STATUS_ERR = 5) ∧
  (∀ (main spare mainRef spareRef : Int) (s : State), s.auxEn = true → s.flag Reg.AUX_STATUS_MAIN_FAIL = false → s.flag Reg.AUX_STATUS_SPARE_FAIL = false → s.calMeasures = false →
    (main - spare).natAbs ≤ 32 → Does (.auxConverterCheck main spare mainRef spareRef) s fun t =>
      let e := s.gridAfter (s.aux.checkAt + 2 ^ 20 - 1) s.auxTickNs
      t.aux = { s.aux with checkAt := e } ∧ Only timeFields s t { s.advanceTo e with regs := t.regs, aux := t.aux }) ∧
  (∀ (main spare mainRef spareRef : Int) (s : State), s.auxEn = true → s.flag Reg.AUX_STATUS_MAIN_FAIL = false → s.flag Reg.AUX_STATUS_SPARE_FAIL = false → s.calMeasures = false →
    32 < (main - spare).natAbs → (mainRef - 2048000).natAbs ≤ 1024 → (spareRef - 2048000).natAbs ≤ 1024 → Does (.auxConverterCheck main spare mainRef spareRef) s fun t =>
      let e := s.gridAfter (s.aux.checkAt + 2 ^ 20 - 1) s.auxTickNs
      t.aux = { s.aux with checkAt := e } ∧ t.get Reg.AUX_MISMATCH_COUNT = min (2 ^ 32 - 1) (s.get Reg.AUX_MISMATCH_COUNT + 1) ∧
      t.dtRef = ((s.advanceTo e).advanceTo (s.gridAfter e s.auxTickNs)).dtRef ∧ t.get Reg.AUX_STATUS_MAIN_FAIL = 0 ∧ t.get Reg.AUX_STATUS_SPARE_FAIL = 0) ∧
  (∀ (main spare mainRef spareRef : Int) (s : State), s.auxEn = true → s.flag Reg.AUX_STATUS_MAIN_FAIL = false → s.flag Reg.AUX_STATUS_SPARE_FAIL = false → s.calMeasures = false → 32 < (main - spare).natAbs →
    1024 < (mainRef - 2048000).natAbs → (spareRef - 2048000).natAbs ≤ 1024 →
    Does (.auxConverterCheck main spare mainRef spareRef) s fun t => t.get Reg.AUX_STATUS_MAIN_FAIL = 1 ∧ t.get Reg.AUX_STATUS_SPARE_FAIL = 0 ∧ t.get Reg.AUX_INT_CONV_FAIL = 1 ∧ t.runner = some true) ∧
  (∀ (main spare mainRef spareRef : Int) (s : State), (s.auxEn = false ∨ s.get Reg.AUX_STATUS_MAIN_FAIL ≠ 0 ∨ s.get Reg.AUX_STATUS_SPARE_FAIL ≠ 0 ∨ s.calMeasures = true) →
    Does (.auxConverterCheck main spare mainRef spareRef) s fun t => t = s)

/-- Feedback inputs and pulse counters: An awake module samples on the 1,000 ns grid with saturated codes and delivers them 200 ref
later into every slot; a counter counts steps by direction, or quadrature edges with A leading B upward, modulo 2^32, an illegal
transition counts as an error, and a level shorter than 8 ns is rejected. -/
def Obligations.ControlInputs : Prop :=
  (∀ (input : Nat) (nV : Int) (s : State), input < 4 → (s.awake = false → Does (.ctlFbSample input nV) s fun t => t = s) ∧
    (s.awake = true → Does (.ctlFbSample input nV) s fun t =>
      let x := s.fbIn input
      let e := s.gridNext x.last 1000 x.off
      t = (s.advanceTo e).setCtl { (s.advanceTo e).ctl with fb := (s.advanceTo e).ctl.fb.set input { x with last := e, off := s.etOff, pend := x.pend ++ [(e, max (-32768) (min 32767 (roundDiv (32768 * nV) 2500000000)))] } })) ∧
  (∀ (input e : Nat) (c : Int) (s : State), input < 4 → (s.fbIn input).pend.head? = some (e, c) → Does (.ctlFbResult input) s fun t =>
    let u := s.advanceTo (e + 200)
    t.ctl.fb = u.ctl.fb.set input { s.fbIn input with pend := (s.fbIn input).pend.tail, latest := c } ∧ t.ctl.pins = u.ctl.pins ∧ t.ctl.queue = u.ctl.queue ∧
    t = { u with ctl := t.ctl } ∧
    t.ctl.loop.map (fun k => k.acc) = (u.ctl.loop.map fun k => k.acc).mapIdx fun n acc => if n < 4 then acc.set input
      ((acc.getD input (0, 0, false)).1 + c, (acc.getD input (0, 0, false)).2.1 + 1, (acc.getD input (0, 0, false)).2.2 || (c == 32767 || c == -32768)) else acc) ∧
  (∀ (k m ns : Nat) (step dir : Bool) (s : State), k < 4 → 8 ≤ ns → s.awake = true → bits (s.get Reg.CTL_PCNT_CFG_MODE) (2 * k) 2 = 1 →
    Does (.pulseCountEdge k step dir ns) s fun t =>
      let up := step && !(s.ctl.pins.getD k (false, false)).1
      let c := s.get Reg.CTL_PCNT_COUNT k
      t.ctl = { s.ctl with pins := s.ctl.pins.set k (step, dir) } ∧
      t.get Reg.CTL_PCNT_COUNT k = (if up then if dir then (c + 1) % 2 ^ 32 else (c + 2 ^ 32 - 1) % 2 ^ 32 else c) ∧
      (m ≠ k → t.get Reg.CTL_PCNT_COUNT m = s.get Reg.CTL_PCNT_COUNT m) ∧ Only [Reg.CTL_PCNT_COUNT] s t { s with ctl := t.ctl, regs := t.regs }) ∧
  (∀ (k ns : Nat) (step dir : Bool) (s : State), k < 4 → 8 ≤ ns → s.awake = true → bits (s.get Reg.CTL_PCNT_CFG_MODE) (2 * k) 2 = 2 →
    Does (.pulseCountEdge k step dir ns) s fun t =>
      let a := s.ctl.pins.getD k (false, false)
      let c := s.get Reg.CTL_PCNT_COUNT k
      let lead := (a = (false, false) ∧ step = true ∧ dir = false) ∨ (a = (true, false) ∧ step = true ∧ dir = true) ∨
        (a = (true, true) ∧ step = false ∧ dir = true) ∨ (a = (false, true) ∧ step = false ∧ dir = false)
      t.ctl = { s.ctl with pins := s.ctl.pins.set k (step, dir) } ∧
      (a.1 ≠ step → a.2 ≠ dir → t.get Reg.CTL_PCNT_COUNT k = c ∧ t.get Reg.CTL_PCNT_ERR_COUNT = min (2 ^ 32 - 1) (s.get Reg.CTL_PCNT_ERR_COUNT + 1)) ∧
      (a = (step, dir) → t.regs = s.regs) ∧
      ((a.1 = step ∨ a.2 = dir) → a ≠ (step, dir) → t.get Reg.CTL_PCNT_COUNT k = (if lead then (c + 1) % 2 ^ 32 else (c + 2 ^ 32 - 1) % 2 ^ 32) ∧ t.get Reg.CTL_PCNT_ERR_COUNT = s.get Reg.CTL_PCNT_ERR_COUNT) ∧
      Only [Reg.CTL_PCNT_COUNT, Reg.CTL_PCNT_ERR_COUNT, Reg.CTL_INT_CNT_SAT] s t { s with ctl := t.ctl, regs := t.regs }) ∧
  (∀ (k ns : Nat) (step dir : Bool) (s : State), k < 4 → 8 ≤ ns → (s.awake = false ∨ bits (s.get Reg.CTL_PCNT_CFG_MODE) (2 * k) 2 = 0) → Does (.pulseCountEdge k step dir ns) s fun t =>
    t = s.setCtl { s.ctl with pins := s.ctl.pins.set k (step, dir) }) ∧
  (∀ (k ns : Nat) (step dir : Bool) (s : State), k < 4 → ns < 8 → Does (.pulseCountEdge k step dir ns) s fun t => t = s)

/-- Loop periods latch their sources: A slot that runs starts its period at the next edge of its AT grid, commits what waits for a
commit and latches feedback, target and hold; a slot that is off or faulted starts none; a computation completes on a period under
way; COMMIT waits for a start edge while the slot is enabled. -/
def Obligations.ControlPeriods : Prop :=
  (∀ (n : Nat) (s : State), n < 4 → s.get Reg.CTL_Sn_STATUS_STATE n ≠ 1 → s.get Reg.CTL_Sn_STATUS_STATE n ≠ 2 → Does (.loopPeriodStart n) s fun t => t = s) ∧
  (∀ (n m : Nat) (s : State), n < 4 → m < 4 → s.ctl.loop.length = 4 → (s.get Reg.CTL_Sn_STATUS_STATE n = 1 ∨ s.get Reg.CTL_Sn_STATUS_STATE n = 2) → (s.loop n).commit = false →
    (∀ i ∈ List.range 4, (s.fbIn i).pend = []) → (s.loop n).off = s.etOff →
    s.get Reg.CTL_Sn_SRC_FB_SRC n = 8 + m → s.get Reg.CTL_Sn_SRC_SP_SRC n = 0 → s.get Reg.CTL_Sn_SRC_FF_SRC n = 0 → s.get Reg.CTL_Sn_CTRL_INHIBIT n = 0 → s.get Reg.CTL_Sn_CTRL_TYPE n ≠ 2 →
    Does (.loopPeriodStart n) s fun t =>
      let e := s.gridNext (s.loop n).start (4 * max 1 (s.get Reg.CTL_Sn_PERIOD_PERIOD n)) (s.loop n).off
      let u := s.advanceTo e
      t.loop n = { s.loop n with start := e, off := s.etOff, busy := true, done := false, acc := noResults, src := { y := toInt 32 (s.get Reg.CTL_PCNT_COUNT m), x := toInt 32 (s.get Reg.CTL_Sn_SP_SP n), f := 0, bad := false, hold := 0 } } ∧
      t.get Reg.CTL_Sn_Y_Y n = trunc 32 (s.get Reg.CTL_PCNT_COUNT m) ∧ t.get Reg.CTL_Sn_STATUS_STATE n = 1 ∧
      t.ctl = { u.ctl with loop := u.ctl.loop.set n (t.loop n) } ∧
      Only ([Reg.CTL_Sn_Y_Y, Reg.CTL_Sn_STATUS_STATE] ++ timeFields) s t { u with regs := t.regs, ctl := t.ctl }) ∧
  (∀ (n w0 : Nat) (s : State), n < 4 → s.ctl.loop.length = 4 → s.get Reg.CTL_Sn_STATUS_STATE n = 1 → (s.loop n).off ≠ s.etOff → w0 = ((s.loop n).off + 4 * (s.loop n).start) % 2 ^ 64 → Does (.loopPeriodStart n) s fun t =>
    (t.loop n).off = s.etOff ∧ t.ctl.queue = { s.ctl.queue with q := s.ctl.queue.q.map fun r => if r.1 = w0 ∧ bits r.2 60 4 = n then (r.1, setBits r.2 53 1 1) else r }) ∧
  (∀ (n m : Nat) (s : State), n < 4 → m < 4 → s.ctl.loop.length = 4 → (s.get Reg.CTL_Sn_STATUS_STATE n = 1 ∨ s.get Reg.CTL_Sn_STATUS_STATE n = 2) → (s.loop n).commit = false →
    (∀ i ∈ List.range 4, (s.fbIn i).pend = []) → s.get Reg.CTL_Sn_SRC_FB_SRC n = 1 + m → s.get Reg.CTL_Sn_SRC_SP_SRC n = 0 → s.get Reg.CTL_Sn_SRC_FF_SRC n = 0 → Does (.loopPeriodStart n) s fun t =>
      let a := (s.loop n).acc.getD m (0, 0, false)
      let y := (t.loop n).src.y
      (s.get Reg.CTL_Sn_CTRL_FB_AVG n = 0 → y = (s.fbIn m).latest ∧ ((t.loop n).src.bad = true ↔ y = 32767 ∨ y = -32768)) ∧
      (s.get Reg.CTL_Sn_CTRL_FB_AVG n = 1 → a.2.1 = 0 → y = (s.fbIn m).latest) ∧
      (s.get Reg.CTL_Sn_CTRL_FB_AVG n = 1 → a.2.1 ≠ 0 → y = a.1 / (a.2.1 : Int) ∧ (t.loop n).src.bad = a.2.2)) ∧
  (∀ (n k : Nat) (s : State), n < 4 → 64 ≤ k → k ≤ 127 → s.ctl.loop.length = 4 → s.get Reg.CTL_Sn_STATUS_STATE n = 1 → (s.loop n).commit = false → s.get Reg.CTL_Sn_SRC_FB_SRC n = k →
    Does (.loopPeriodStart n) s fun t =>
      let w := s.get Reg.AUX_LAST_RECORD (k - 64)
      (t.loop n).src.y = toInt 24 (bits w 64 24) / 64 ∧
      ((t.loop n).src.bad = true ↔ bit w 112 = true ∨ bit w 111 = true ∨ bit w 110 = true ∨ s.flag Reg.AUX_CTRL_EN = false)) ∧
  (∀ (n : Nat) (s : State), n < 4 → s.ctl.loop.length = 4 → (s.get Reg.CTL_Sn_STATUS_STATE n = 1 ∨ s.get Reg.CTL_Sn_STATUS_STATE n = 2) → (s.loop n).commit = false → Does (.loopPeriodStart n) s fun t =>
    let inh := s.get Reg.CTL_Sn_CTRL_INHIBIT n
    let g := s.get Reg.CTL_Sn_GATE_GATE_PRIM n
    let off := (inh = 1 ∧ s.safeOn 0 = false) ∨ (inh = 2 ∧ s.safeOn 1 = false)
    let shut := s.get Reg.CTL_Sn_CTRL_TYPE n = 2 ∧ g ≠ 0x1FF ∧ (s.advanceTo (t.loop n).start).pulseHigh g (t.loop n).start = false
    (off → (t.loop n).src.hold = 2 ∧ t.get Reg.CTL_Sn_STATUS_STATE n = 2) ∧
    (¬ off → shut → (t.loop n).src.hold = 1 ∧ t.get Reg.CTL_Sn_STATUS_STATE n = 2) ∧
    (¬ off → ¬ shut → (t.loop n).src.hold = 0 ∧ t.get Reg.CTL_Sn_STATUS_STATE n = 1)) ∧
  (∀ (n v : Nat) (s : State), n < 4 → s.ctl.loop.length = 4 → s.get Reg.CTL_Sn_STATUS_STATE n = 1 → (s.loop n).commit = true → s.shadowOf Reg.CTL_Sn_KP_K n 0 = some v →
    Does (.loopPeriodStart n) s fun t => t.get Reg.CTL_Sn_KP_K n = trunc 32 v ∧ t.shadowOf Reg.CTL_Sn_KP_K n 0 = none ∧ t.get Reg.CTL_Sn_STATUS_PENDING n = 0 ∧ (t.loop n).commit = false) ∧
  (∀ (n : Nat) (s : State), n < 4 →
    ((s.loop n).busy = true → s.get Reg.CTL_Sn_STATUS_STATE n ≠ 3 → s.dtRef ≤ (s.loop n).start + s.get Reg.CTL_Sn_DEADLINE_DEADLINE n → Does (.loopComputeDone n) s fun t =>
      t = (s.advanceTo ((s.loop n).start + 1)).setLoop n { s.loop n with done := true }) ∧
    (((s.loop n).busy = false ∨ s.get Reg.CTL_Sn_STATUS_STATE n = 3 ∨ (s.loop n).start + s.get Reg.CTL_Sn_DEADLINE_DEADLINE n < s.dtRef) → Does (.loopComputeDone n) s fun t => t = s)) ∧
  (∀ (n v : Nat) (s : State), n < 4 → s.responds (0x1C0154 + 0x80 * n) = true →
    (s.flag Reg.CTL_Sn_CTRL_EN n = true → Does (.loopCommit n) s fun t => t = s.setLoop n { s.loop n with commit := true }) ∧
    (s.flag Reg.CTL_Sn_CTRL_EN n = false → s.shadowOf Reg.CTL_Sn_KP_K n 0 = some v → Does (.loopCommit n) s fun t =>
      t.get Reg.CTL_Sn_KP_K n = trunc 32 v ∧ t.get Reg.CTL_Sn_STATUS_PENDING n = 0 ∧ t.ctl = s.ctl))

/-- The deadline drives the output: At the deadline of a computed period the output is the clamped, rounded control law with its
integrator, periods count and the peak error is kept; a gated or inhibited period drives SAFE_OUT; a missed period holds the output
and the third of a kind faults the slot with SAFE_OUT, as does a following error that lasts FE_TIME; SAFE_OUT follows EN falling at
the next deadline; and a voltage output stands at its code. -/
def Obligations.ControlLaw : Prop :=
  (∀ (n : Nat) (s : State), n < 4 → s.ctl.loop.length = 4 → (s.loop n).off_ = false → (s.loop n).busy = true → (s.loop n).done = true → (s.loop n).src.hold = 0 → (s.loop n).src.bad = false → (s.loop n).fresh = false →
    (s.loop n).resume = false → s.get Reg.CTL_Sn_STATUS_STATE n ≠ 3 → s.flag Reg.CTL_Sn_CTRL_EN n = true → s.get Reg.CTL_Sn_VMAX_VMAX n = 0 → s.get Reg.CTL_Sn_CTRL_FF_MODE n = 0 → s.wraps n = false →
    s.get Reg.CTL_Sn_FE_TIME_FE_TIME n = 0 → s.get Reg.CTL_Sn_CTRL_LOG_DIV n = 0 → s.outMin n ≤ s.outMax n → s.outMin n * 2 ^ 41 ≤ (s.loop n).i → (s.loop n).i ≤ s.outMax n * 2 ^ 41 → Does (.loopDeadline n) s fun t =>
      let l := s.loop n
      let ef := l.src.x - l.src.y
      let ki := toInt 32 (s.get Reg.CTL_Sn_KI_K n) * ef * 2 ^ 25
      let i1 := max (s.outMin n * 2 ^ 41) (min (s.outMax n * 2 ^ 41) (l.i + ki))
      let num := toInt 32 (s.get Reg.CTL_Sn_KP_K n) * ef * 2 ^ 25 + i1 + toInt 32 (s.get Reg.CTL_Sn_KD_K n) * (l.yPrev - l.src.y) * 2 ^ 25
      t.get Reg.CTL_Sn_OUT_OUT n = ofInt 16 (max (s.outMin n) (min (s.outMax n) ((2 * num + 2 ^ 41) / 2 ^ 42))) ∧
      (t.loop n).i = (if (s.outMax n * 2 ^ 41 < num ∧ 0 < ki) ∨ (num < s.outMin n * 2 ^ 41 ∧ ki < 0) then l.i else i1) ∧
      (t.loop n).p = l.src.x * 2 ^ 25 ∧ (t.loop n).v = 0 ∧ (t.loop n).yPrev = l.src.y ∧ (t.loop n).busy = false ∧ (t.loop n).ovrRun = 0 ∧ (t.loop n).fbbRun = 0 ∧
      t.get Reg.CTL_Sn_PERIODS_COUNT n = min (2 ^ 32 - 1) (s.get Reg.CTL_Sn_PERIODS_COUNT n + 1) ∧
      t.get Reg.CTL_Sn_FEMAX_FEMAX n = trunc 32 (max (s.get Reg.CTL_Sn_FEMAX_FEMAX n) (min (2 ^ 32 - 1) ef.natAbs)) ∧
      t.get Reg.CTL_Sn_P_P n = ofInt 32 l.src.x ∧ t.get Reg.CTL_Sn_V_V n = 0 ∧ t.dtRef = (s.advanceTo (l.start + s.get Reg.CTL_Sn_DEADLINE_DEADLINE n)).dtRef ∧
      Only ([Reg.CTL_Sn_OUT_OUT, Reg.CTL_Sn_PERIODS_COUNT, Reg.CTL_INT_CNT_SAT, Reg.CTL_Sn_FEMAX_FEMAX, Reg.CTL_Sn_P_P, Reg.CTL_Sn_V_V] ++ timeFields) s t
        { s.advanceTo (l.start + s.get Reg.CTL_Sn_DEADLINE_DEADLINE n) with regs := t.regs, ctl := { s.ctl with loop := s.ctl.loop.set n (t.loop n) } }) ∧
  (∀ (n : Nat) (s : State), n < 4 → s.ctl.loop.length = 4 → (s.loop n).off_ = false → (s.loop n).busy = true → (s.loop n).src.hold ≠ 0 → s.get Reg.CTL_Sn_STATUS_STATE n ≠ 3 →
    s.flag Reg.CTL_Sn_CTRL_EN n = true → s.get Reg.CTL_Sn_CTRL_LOG_DIV n = 0 → Does (.loopDeadline n) s fun t =>
      let l := s.loop n
      t.get Reg.CTL_Sn_OUT_OUT n = s.get Reg.CTL_Sn_SAFE_SAFE_OUT n ∧ (t.loop n).busy = false ∧ t.get Reg.CTL_Sn_PERIODS_COUNT n = s.get Reg.CTL_Sn_PERIODS_COUNT n ∧
      (l.src.hold = 2 → (t.loop n).i = s.outCode n (s.get Reg.CTL_Sn_SAFE_SAFE_OUT n) * 2 ^ 41 ∧ (t.loop n).feTimer = 0 ∧ (t.loop n).p = l.src.y * 2 ^ 25 ∧ (t.loop n).v = 0 ∧ (t.loop n).a = 0 ∧ (t.loop n).fresh = true) ∧
      (l.src.hold = 1 → (t.loop n).i = l.i ∧ (t.loop n).yPrev = l.yPrev ∧ (t.loop n).feTimer = l.feTimer ∧ (t.loop n).resume = true) ∧
      Only ([Reg.CTL_Sn_OUT_OUT, Reg.CTL_Sn_P_P, Reg.CTL_Sn_V_V] ++ timeFields) s t
        { s.advanceTo (l.start + s.get Reg.CTL_Sn_DEADLINE_DEADLINE n) with regs := t.regs, ctl := { s.ctl with loop := s.ctl.loop.set n (t.loop n) } }) ∧
  (∀ (n : Nat) (s : State), n < 4 → s.ctl.loop.length = 4 → (s.loop n).off_ = false → (s.loop n).busy = true → (s.loop n).src.hold = 0 → ((s.loop n).done = false ∨ (s.loop n).src.bad = true) →
    s.get Reg.CTL_Sn_STATUS_STATE n ≠ 3 → s.flag Reg.CTL_Sn_CTRL_EN n = true → s.get Reg.CTL_Sn_CTRL_LOG_DIV n = 0 → (s.loop n).ovrRun < 2 → (s.loop n).fbbRun < 2 → Does (.loopDeadline n) s fun t =>
      let l := s.loop n
      t.get Reg.CTL_Sn_OUT_OUT n = s.get Reg.CTL_Sn_OUT_OUT n ∧ (t.loop n).busy = false ∧ (t.loop n).p = l.p ∧ (t.loop n).v = l.v ∧ (t.loop n).i = l.i ∧ (t.loop n).yPrev = l.yPrev ∧
      (t.loop n).ovrRun = (if l.done then 0 else l.ovrRun + 1) ∧ (t.loop n).fbbRun = (if l.src.bad then l.fbbRun + 1 else 0) ∧
      t.get Reg.CTL_Sn_OVR_COUNT n = (if l.done then s.get Reg.CTL_Sn_OVR_COUNT n else min (2 ^ 32 - 1) (s.get Reg.CTL_Sn_OVR_COUNT n + 1)) ∧ (l.done = false → t.get Reg.CTL_INT_OVERRUN = 1) ∧
      t.get Reg.CTL_Sn_STATUS_STATE n = s.get Reg.CTL_Sn_STATUS_STATE n ∧
      Only ([Reg.CTL_Sn_OVR_COUNT, Reg.CTL_INT_OVERRUN, Reg.CTL_INT_CNT_SAT, Reg.CTL_Sn_P_P, Reg.CTL_Sn_V_V] ++ timeFields) s t
        { s.advanceTo (l.start + s.get Reg.CTL_Sn_DEADLINE_DEADLINE n) with regs := t.regs, ctl := { s.ctl with loop := s.ctl.loop.set n (t.loop n) } }) ∧
  (∀ (n : Nat) (s : State), n < 4 → s.ctl.loop.length = 4 → (s.loop n).off_ = false → (s.loop n).busy = true → (s.loop n).src.hold = 0 → ((s.loop n).done = false ∧ 2 ≤ (s.loop n).ovrRun ∨ (s.loop n).src.bad = true ∧ 2 ≤ (s.loop n).fbbRun) →
    s.get Reg.CTL_Sn_STATUS_STATE n ≠ 3 → s.flag Reg.CTL_Sn_CTRL_EN n = true → Does (.loopDeadline n) s fun t =>
      let l := s.loop n
      let bad := l.src.bad = true ∧ 2 ≤ l.fbbRun
      t.get Reg.CTL_Sn_STATUS_STATE n = 3 ∧ t.get Reg.CTL_Sn_OUT_OUT n = s.get Reg.CTL_Sn_SAFE_SAFE_OUT n ∧ t.get Reg.CTL_Sn_STATUS_CAUSE n = (if bad then 1 else 3) ∧
      t.get Reg.CTL_Sn_STATUS_CAUSE_SET n = (if bad then 1 else 0) + (if l.done = false ∧ 2 ≤ l.ovrRun then 4 else 0) ∧ bit (t.get Reg.CTL_INT_FAULT) n = true ∧
      (s.ctl.queue.loss = none → s.ctl.queue.hasRoom = true → t.ctl.queue.q.length = s.ctl.queue.q.length + 1)) ∧
  (∀ (n : Nat) (s : State), n < 4 → s.ctl.loop.length = 4 → (s.loop n).off_ = false → (s.loop n).busy = true → (s.loop n).done = true → (s.loop n).src.hold = 0 → (s.loop n).src.bad = false → (s.loop n).fresh = false → (s.loop n).resume = false →
    s.get Reg.CTL_Sn_STATUS_STATE n ≠ 3 → s.flag Reg.CTL_Sn_CTRL_EN n = true → s.get Reg.CTL_Sn_VMAX_VMAX n = 0 → s.wraps n = false → s.get Reg.CTL_Sn_CTRL_FF_MODE n ≠ 1 → s.get Reg.CTL_Sn_FE_TIME_FE_TIME n ≠ 0 → Does (.loopDeadline n) s fun t =>
      let l := s.loop n
      let beyond := s.get Reg.CTL_Sn_FE_LIM_FE_LIM n < (l.src.x - l.src.y).natAbs
      (t.loop n).feTimer = (if beyond then l.feTimer + 1 else 0) ∧
      (beyond → s.get Reg.CTL_Sn_FE_TIME_FE_TIME n ≤ l.feTimer + 1 → t.get Reg.CTL_Sn_STATUS_STATE n = 3 ∧ t.get Reg.CTL_Sn_STATUS_CAUSE n = 2 ∧ t.get Reg.CTL_Sn_STATUS_CAUSE_SET n = 2 ∧
        t.get Reg.CTL_Sn_OUT_OUT n = s.get Reg.CTL_Sn_SAFE_SAFE_OUT n ∧ bit (t.get Reg.CTL_INT_FAULT) n = true) ∧
      ((¬ beyond ∨ l.feTimer + 1 < s.get Reg.CTL_Sn_FE_TIME_FE_TIME n) → t.get Reg.CTL_Sn_STATUS_STATE n = s.get Reg.CTL_Sn_STATUS_STATE n ∧ t.get Reg.CTL_INT_FAULT = s.get Reg.CTL_INT_FAULT)) ∧
  (∀ (n : Nat) (s : State), n < 4 → s.ctl.loop.length = 4 → (s.loop n).off_ = true → (s.loop n).busy = true → Does (.loopDeadline n) s fun t =>
    let d := (s.loop n).start + s.get Reg.CTL_Sn_DEADLINE_DEADLINE n
    t = ((s.advanceTo d).put Reg.CTL_Sn_OUT_OUT (s.get Reg.CTL_Sn_SAFE_SAFE_OUT n) n).setLoop n
      { s.loop n with off_ := false, busy := false, outAt := (s.advanceTo d).dtRef, outOld := (s.advanceTo d).pwmCode n }) ∧
  (∀ (n : Nat) (s : State), n < 4 → (s.loop n).off_ = false → ((s.loop n).busy = false ∨ s.get Reg.CTL_Sn_STATUS_STATE n = 3) → Does (.loopDeadline n) s fun t => t = s) ∧
  (∀ (n : Nat) (s : State), n < 4 → (s.awake = false ∨ s.get Reg.CTL_Sn_CTRL_OUT_MODE n = 0 → s.outDrive n = .off) ∧
    (s.awake = true → s.get Reg.CTL_Sn_CTRL_OUT_MODE n = 1 → s.outDrive n = .volts (s.get Reg.CTL_Sn_OUT_OUT n)) ∧
    (s.awake = true → s.get Reg.CTL_Sn_CTRL_OUT_MODE n = 2 → s.outDrive n = .volts (32768 + toInt 16 (s.get Reg.CTL_Sn_OUT_OUT n))))

/-- The profile generator keeps its limits: With VMAX and AMAX set, a command that moves within VMAX moves by at most VMAX and AMAX in
its next period, whatever the target does, and advances by the mean of its velocities unless it lands; a stationary command at a
stationary target stays; and a command that moves away from its target brakes at AMAX. -/
def Obligations.ProfileLimits : Prop :=
  (∀ (w : Bool) (vmax amax : Nat) (x xp p v : Int), 0 < vmax → 0 < amax → |v| ≤ (vmax : Int) * 256 →
    let r := profile w vmax amax x xp p v
    |r.2.1| ≤ (vmax : Int) * 256 ∧ |r.2.2| ≤ (amax : Int) ∧ r.2.1 = v + r.2.2 ∧ (r.1 = wrapDiff w 25 (p + v + r.2.1) ∨ r.1 = x * 2 ^ 25)) ∧
  (∀ (w : Bool) (vmax amax : Nat) (x : Int), 0 < vmax → 0 < amax → profile w vmax amax x x (x * 2 ^ 25) 0 = (x * 2 ^ 25, 0, 0)) ∧
  (∀ (vmax amax : Nat) (x xp p v : Int), 0 < vmax → 0 < amax → 0 < v → x * 2 ^ 25 < p → x = xp → (amax : Int) < v →
    let r := profile false vmax amax x xp p v
    v ≤ (vmax : Int) * 256 → r.2.1 = v - amax ∧ r.1 = p + v + (v - amax))

/-- Enabling, disabling and recording a loop slot: EN rises when the checks pass and starts the slot bumplessly; a failing check
refuses the write with its code; locked fields of an enabled slot are refused; EN falls to OFF with SAFE_OUT due at the next deadline,
a slot that leaves FAULT is OFF, and a slot that is OFF stands at SAFE_OUT; the first period and every LOG_DIV-th enter the record
queue, or are lost when it is full; its read port holds the head and removes it with its last word; a gap record closes a loss; and
CTL_CNT_CLR clears the counters of the block. -/
def Obligations.ControlEnable : Prop :=
  (∀ (n val : Nat) (s : State), n < 4 → val.testBit 0 = true → s.responds (0x1C0100 + 0x80 * n) = true → (∀ k, k < 4 → s.flag Reg.CTL_Sn_CTRL_EN k = false) →
    2500 ≤ s.get Reg.CTL_Sn_PERIOD_PERIOD n → s.get Reg.CTL_Sn_PERIOD_PERIOD n ≤ 2 ^ 28 - 250 → s.get Reg.CTL_Sn_PERIOD_PERIOD n % 250 = 0 →
    [400, 400, 300, 700].getD (bits val 1 2) 0 ≤ s.get Reg.CTL_Sn_DEADLINE_DEADLINE n → s.get Reg.CTL_Sn_DEADLINE_DEADLINE n ≤ s.get Reg.CTL_Sn_PERIOD_PERIOD n →
    s.srcOk (s.get Reg.CTL_Sn_SRC_FB_SRC n) = true → s.get Reg.CTL_Sn_SRC_SP_SRC n = 0 → s.get Reg.CTL_Sn_SRC_FF_SRC n = 0 → (bits val 8 2 = 2 → bits val 1 2 = 3) → bits val 8 2 ≠ 3 →
    (s.get Reg.CTL_Sn_GATE_GATE_PRIM n = 0x1FF ∨ bits val 1 2 = 2) → bits val 4 2 ≠ 0 → s.ctl.loop.length = 4 → Does (.loopEnable n val) s fun t =>
      t.flag Reg.CTL_Sn_CTRL_EN n = true ∧ t.get Reg.CTL_Sn_STATUS_STATE n = 1 ∧ t.get Reg.CTL_Sn_STATUS_ERR n = 0 ∧ t.get Reg.CTL_Sn_STATUS_CAUSE n = 0 ∧ t.get Reg.CTL_Sn_STATUS_CAUSE_SET n = 0 ∧
      t.loop n = { start := s.dtRef, off := s.etOff, commit := (s.loop n).commit, outAt := (s.loop n).outAt, outOld := (s.loop n).outOld } ∧ (t.loop n).fresh = true ∧
      t.shadowOf Reg.CTL_Sn_CTRL_LOG_DIV n 0 = none ∧
      t.get Reg.CTL_LOAD_LOAD = min 1023 ([400, 400, 300, 700].getD (bits val 1 2) 0 * 1024 / s.get Reg.CTL_Sn_PERIOD_PERIOD n) ∧
      t.get Reg.CTL_Sn_CTRL_TYPE n = bits val 1 2 ∧ t.get Reg.CTL_Sn_CTRL_OUT_MODE n = bits val 4 2 ∧ t.get Reg.CTL_Sn_CTRL_FB_AVG n = bits val 6 1 ∧ t.get Reg.CTL_Sn_CTRL_FF_MODE n = bits val 8 2 ∧
      t.get Reg.CTL_Sn_CTRL_INHIBIT n = bits val 10 2 ∧ t.get Reg.CTL_Sn_CTRL_LOG_DIV n = bits val 16 8 ∧
      Only [Reg.CTL_Sn_CTRL_EN, Reg.CTL_Sn_STATUS_STATE, Reg.CTL_Sn_STATUS_ERR, Reg.CTL_Sn_STATUS_CAUSE, Reg.CTL_Sn_STATUS_CAUSE_SET, Reg.CTL_LOAD_LOAD, Reg.CTL_Sn_CTRL_TYPE, Reg.CTL_Sn_CTRL_OUT_MODE,
        Reg.CTL_Sn_CTRL_FB_AVG, Reg.CTL_Sn_CTRL_FF_MODE, Reg.CTL_Sn_CTRL_INHIBIT, Reg.CTL_Sn_CTRL_LOG_DIV, Reg.CTL_Sn_STATUS_PENDING] s t { s with regs := t.regs, shadow := t.shadow, ctl := { s.ctl with loop := s.ctl.loop.set n (t.loop n) } }) ∧
  (∀ (n val : Nat) (s : State), n < 4 → val.testBit 0 = true → s.responds (0x1C0100 + 0x80 * n) = true → s.flag Reg.CTL_Sn_CTRL_EN n = false →
    let p := s.get Reg.CTL_Sn_PERIOD_PERIOD n
    ((p < 2500 ∨ 2 ^ 28 - 250 < p ∨ p % 250 ≠ 0) → Does (.loopEnable n val) s fun t => t = (s.put Reg.CTL_INT_REFUSED 1).put Reg.CTL_Sn_STATUS_ERR 1 n) ∧
    (¬ (p < 2500 ∨ 2 ^ 28 - 250 < p ∨ p % 250 ≠ 0) → p < s.get Reg.CTL_Sn_DEADLINE_DEADLINE n → Does (.loopEnable n val) s fun t => t = (s.put Reg.CTL_INT_REFUSED 1).put Reg.CTL_Sn_STATUS_ERR 2 n) ∧
    (bits val 4 2 = 0 → Does (.loopEnable n val) s fun t => t.get Reg.CTL_INT_REFUSED = 1 ∧ 1 ≤ t.get Reg.CTL_Sn_STATUS_ERR n ∧ t.get Reg.CTL_Sn_STATUS_ERR n ≤ 6 ∧ RegsOnly [Reg.CTL_INT_REFUSED, Reg.CTL_Sn_STATUS_ERR] s t)) ∧
  (∀ (n val : Nat) (s : State), n < 4 → val.testBit 0 = true → s.responds (0x1C0100 + 0x80 * n) = true → s.flag Reg.CTL_Sn_CTRL_EN n = true → Does (.loopEnable n val) s fun t =>
    let same := s.get Reg.CTL_Sn_CTRL_TYPE n = bits val 1 2 ∧ s.get Reg.CTL_Sn_CTRL_OUT_MODE n = bits val 4 2 ∧ s.get Reg.CTL_Sn_CTRL_FB_AVG n = bits val 6 1 ∧ s.get Reg.CTL_Sn_CTRL_FF_MODE n = bits val 8 2 ∧
      s.get Reg.CTL_Sn_CTRL_INHIBIT n = bits val 10 2
    t.get Reg.CTL_INT_REFUSED = (if same then s.get Reg.CTL_INT_REFUSED else 1) ∧ t.shadowOf Reg.CTL_Sn_CTRL_LOG_DIV n 0 = some (bits val 16 8) ∧ t.get Reg.CTL_Sn_STATUS_PENDING n = 1 ∧
    Only [Reg.CTL_INT_REFUSED, Reg.CTL_Sn_STATUS_PENDING] s t { s with regs := t.regs, shadow := t.shadow }) ∧
  (∀ (n val : Nat) (s : State), n < 4 → val.testBit 0 = false → s.responds (0x1C0100 + 0x80 * n) = true → s.flag Reg.CTL_Sn_CTRL_EN n = true → s.ctl.loop.length = 4 → Does (.loopDisable n val) s fun t =>
    t.flag Reg.CTL_Sn_CTRL_EN n = false ∧ t.get Reg.CTL_Sn_STATUS_STATE n = 0 ∧ t.get Reg.CTL_Sn_STATUS_PENDING n = 1 ∧ t.shadowOf Reg.CTL_Sn_CTRL_LOG_DIV n 0 = some (bits val 16 8) ∧
    t.get Reg.CTL_Sn_OUT_OUT n = s.get Reg.CTL_Sn_OUT_OUT n ∧ t.ctl = { s.ctl with loop := s.ctl.loop.set n { s.loop n with off_ := decide (s.get Reg.CTL_Sn_STATUS_STATE n ≠ 3) } } ∧
    Only [Reg.CTL_Sn_CTRL_EN, Reg.CTL_Sn_STATUS_STATE, Reg.CTL_Sn_STATUS_PENDING, Reg.CTL_INT_REFUSED, Reg.CTL_LOAD_LOAD] s t { s with regs := t.regs, shadow := t.shadow, ctl := t.ctl }) ∧
  (∀ (n val : Nat) (s : State), n < 4 → val.testBit 0 = false → s.responds (0x1C0100 + 0x80 * n) = true → s.flag Reg.CTL_Sn_CTRL_EN n = false → (s.loop n).off_ = false → s.ctl.loop.length = 4 → Does (.loopDisable n val) s fun t =>
    t.flag Reg.CTL_Sn_CTRL_EN n = false ∧ t.get Reg.CTL_Sn_OUT_OUT n = s.get Reg.CTL_Sn_SAFE_SAFE_OUT n ∧ t.get Reg.CTL_Sn_CTRL_TYPE n = bits val 1 2 ∧ t.get Reg.CTL_Sn_CTRL_OUT_MODE n = bits val 4 2 ∧
    t.get Reg.CTL_Sn_CTRL_LOG_DIV n = bits val 16 8 ∧ t.shadowOf Reg.CTL_Sn_CTRL_LOG_DIV n 0 = none ∧
    Only [Reg.CTL_Sn_CTRL_TYPE, Reg.CTL_Sn_CTRL_OUT_MODE, Reg.CTL_Sn_CTRL_FB_AVG, Reg.CTL_Sn_CTRL_FF_MODE, Reg.CTL_Sn_CTRL_INHIBIT, Reg.CTL_Sn_CTRL_LOG_DIV, Reg.CTL_Sn_STATUS_PENDING, Reg.CTL_Sn_OUT_OUT] s t
      { s with regs := t.regs, shadow := t.shadow, ctl := { s.ctl with loop := s.ctl.loop.set n (t.loop n) } }) ∧
  (∀ (n w0 : Nat) (s : State), n < 4 → s.ctl.loop.length = 4 → s.ctl.queue.loss = none → (s.loop n).off_ = false → (s.loop n).busy = true → (s.loop n).src.hold = 1 → s.get Reg.CTL_Sn_STATUS_STATE n ≠ 3 →
    s.flag Reg.CTL_Sn_CTRL_EN n = true → s.get Reg.CTL_Sn_CTRL_LOG_DIV n ≠ 0 → w0 = ((s.loop n).off + 4 * (s.loop n).start) % 2 ^ 64 → Does (.loopDeadline n) s fun t =>
      let due := (s.loop n).log = none ∨ s.get Reg.CTL_Sn_CTRL_LOG_DIV n ≤ (s.loop n).log.getD 0 + 1
      let long := s.etOff ≠ (s.loop n).off
      (t.loop n).log = some (if due then 0 else (s.loop n).log.getD 0 + 1) ∧
      (¬ due → t.ctl.queue = s.ctl.queue) ∧
      (due → s.ctl.queue.q.length + 2 ≤ 1024 → t.ctl.queue = { s.ctl.queue with q := s.ctl.queue.q ++
        [(w0, n * 2 ^ 60 + 2 ^ 59 + 2 ^ 55 + (if long then 2 ^ 53 else 0) + s.get Reg.CTL_Sn_SAFE_SAFE_OUT n * 2 ^ 32 + ofInt 32 (s.loop n).src.y)] } ∧
        t.get Reg.CTL_Q_STATUS_QLEVEL = s.ctl.queue.q.length + 1) ∧
      (due → 1024 < s.ctl.queue.q.length + 2 → t.ctl.queue.q = s.ctl.queue.q ∧ t.ctl.queue.loss.isSome = true ∧ t.get Reg.CTL_LOST_COUNT = min (2 ^ 32 - 1) (s.get Reg.CTL_LOST_COUNT + 1))) ∧
  (∀ (s : State), s.responds 0x1C0040 = true → Does .ctlQueueSnapshot s fun t =>
    let e := s.ctl.queue.q.headD (0, 0)
    t = { s.setCtl { s.ctl with queue := { s.ctl.queue with snap := e, snapIn := !s.ctl.queue.q.isEmpty } } with rdata := [e.1 % 2 ^ 32] }) ∧
  (∀ (s : State), s.responds 0x1C004C = true → Does .ctlQueueRemove s fun t =>
    t.ctl.queue = { s.ctl.queue with q := if s.ctl.queue.snapIn then s.ctl.queue.q.tail else s.ctl.queue.q, snapIn := false } ∧ t.rdata = [bits s.ctl.queue.snap.2 32 32] ∧
    t.get Reg.CTL_Q_STATUS_QLEVEL = trunc 11 t.ctl.queue.q.length ∧ Only [Reg.CTL_Q_STATUS_QLEVEL] s t { s with regs := t.regs, rdata := t.rdata, ctl := { s.ctl with queue := t.ctl.queue } }) ∧
  (∀ (l : LossEp) (s : State), s.ctl.queue.loss = some l → s.ctl.queue.q.length + 2 ≤ 1024 → s.dtRef ≤ max (l.last + 2) s.ctl.queue.roomAt → max (l.last + 2) s.ctl.queue.roomAt < 2 ^ 64 → Does .ctlGapRecord s fun t =>
    let e := max (l.last + 2) s.ctl.queue.roomAt
    t.ctl.queue = { s.ctl.queue with loss := none, q := s.ctl.queue.q ++
      [(l.start, 2 ^ 63 + 2 ^ 59 + min l.count (2 ^ 24 - 1) * 2 ^ 32 + min (e - l.from_) (2 ^ 32 - 1))] } ∧
    t.get Reg.CTL_INT_LOSS = 1 ∧ t.get Reg.CTL_Q_STATUS_QLEVEL = s.ctl.queue.q.length + 1 ∧
    Only ([Reg.CTL_Q_STATUS_QLEVEL, Reg.CTL_INT_LOSS, Reg.CTL_INT_QTHR] ++ timeFields) s t { s.advanceTo e with regs := t.regs, ctl := { s.ctl with queue := t.ctl.queue } }) ∧
  (∀ (s : State), (s.ctl.queue.loss = none ∨ 1024 < s.ctl.queue.q.length + 2) → Does .ctlGapRecord s fun t => t = s) ∧
  (∀ (n : Nat) (s : State), n < 4 → s.responds 0x1C0068 = true → Does .ctlCntClr s fun t =>
    t.get Reg.CTL_PCNT_ERR_COUNT = 0 ∧ t.get Reg.CTL_LOST_COUNT = 0 ∧ t.get Reg.CTL_Sn_OVR_COUNT n = 0 ∧ t.get Reg.CTL_Sn_FEMAX_FEMAX n = 0 ∧ t.get Reg.CTL_Sn_PERIODS_COUNT n = 0 ∧
    RegsOnly [Reg.CTL_PCNT_ERR_COUNT, Reg.CTL_LOST_COUNT, Reg.CTL_Sn_OVR_COUNT, Reg.CTL_Sn_FEMAX_FEMAX, Reg.CTL_Sn_PERIODS_COUNT] s t)

/-- Safe inputs at a strobe: At a strobe of a running block a channel accepts a level that two consecutive samples show, a masked
sample repeats the accepted level, and an input moves among DEMAND, PERMIT and INCOMPLETE by what its channels have accepted; a
disagreement that ends early is counted, one that reaches DISC latches fault 0x1, and a pulse whose check samples never read low
latches fault 0x2. -/
def Obligations.SafetyInputs : Prop :=
  (∀ (a b rb : Nat) (d : Bool) (s : State), s.safRuns = false → Does (.safetyStrobe a b rb d) s fun t => t = s) ∧
  (∀ (a b rb n : Nat) (d : Bool) (s : State), n < 4 → s.safRuns = true → s.saf.ins.length = 4 → s.saf.tp = [none, none] → Does (.safetyStrobe a b rb d) s fun t =>
    let x := s.safIn n
    (t.safIn n).a.last = a.testBit n ∧ (t.safIn n).a.acc = (if a.testBit n = x.a.last then a.testBit n else x.a.acc) ∧
    (t.safIn n).b.last = b.testBit n ∧ (t.safIn n).b.acc = (if b.testBit n = x.b.last then b.testBit n else x.b.acc) ∧
    t.saf.n = s.saf.n + 1 ∧ t.saf.lastStrobe = s.gridNext s.saf.lastStrobe 50000 s.saf.off ∧ t.dtRef = (s.advanceTo t.saf.lastStrobe).dtRef) ∧
  (∀ (a b rb n m : Nat) (d low : Bool) (s : State), n < 4 → s.safRuns = true → s.saf.ins.length = 4 → s.get Reg.SAF_CFG_IN_TPA n = 1 → s.saf.tp.head? = some (some (m, low)) →
    m + 1 ≤ s.get Reg.SAF_CFG_TP_TPW + 2 → Does (.safetyStrobe a b rb d) s fun t => (t.safIn n).a.acc = (s.safIn n).a.acc ∧ (t.safIn n).a.last = (s.safIn n).a.acc) ∧
  (∀ (a b rb n : Nat) (d : Bool) (s : State), n < 4 → s.safRuns = true → s.saf.ins.length = 4 → s.saf.tp = [none, none] → (s.get Reg.SAF_CFG_IN_TYPE n = 1 ∨ s.get Reg.SAF_CFG_IN_TYPE n = 2) →
    (s.safIn n).st ≠ 3 → (s.safIn n).faults = [] → s.saf.ack = false → Does (.safetyStrobe a b rb d) s fun t =>
      let x := s.safIn n
      let y := t.safIn n
      let pa := y.a.acc
      let pb := if s.get Reg.SAF_CFG_IN_TYPE n = 1 then y.b.acc else !y.b.acc
      let disc := 20 * s.get Reg.SAF_CFG_IN_DISC n
      let seen := if x.st = 1 ∧ (pa && pb) = false then !pa && !pb else x.seen || (!pa && !pb)
      y.seen = seen ∧ y.dis = (if pa = pb then 0 else x.dis + 1) ∧
      (y.dis ≠ disc → y.st = (if pa && pb then if x.st = 1 ∨ seen = true then 1 else 2 else if x.st = 2 ∧ (pa || pb) then 2 else 0) ∧ y.faults = []) ∧
      (y.dis = disc → y.st = 3 ∧ y.faults = [1] ∧ t.get Reg.SAF_INT_FAULT = 1 ∧ (t.get Reg.SAF_FAULT_IN).testBit n = true) ∧
      (y.dis = disc → s.safFaulted = false → t.get Reg.SAF_FAULT_INFO_CODE = 1 ∧ t.get Reg.SAF_FAULT_INFO_STROBE = trunc 24 (t.at_ / 50000)) ∧
      (pa = pb → 0 < x.dis → x.dis < disc → t.get Reg.SAF_DISC_SHORT_COUNT n = min (2 ^ 32 - 1) (s.get Reg.SAF_DISC_SHORT_COUNT n + 1) ∧ t.get Reg.SAF_INT_DISC_SHORT = 1) ∧
      (¬ (pa = pb ∧ 0 < x.dis ∧ x.dis < disc) → t.get Reg.SAF_DISC_SHORT_COUNT n = s.get Reg.SAF_DISC_SHORT_COUNT n)) ∧
  (∀ (a b rb n m : Nat) (d low : Bool) (s : State), n < 4 → s.safRuns = true → s.saf.ins.length = 4 → s.saf.ack = false → (s.get Reg.SAF_CFG_IN_TYPE n = 1 ∨ s.get Reg.SAF_CFG_IN_TYPE n = 2) → s.get Reg.SAF_CFG_IN_TPA n = 1 →
    s.saf.tp.head? = some (some (m, low)) → m + 1 = s.get Reg.SAF_CFG_TP_TPW → (s.safIn n).a.prevOwn = true → (s.safIn n).a.lowOwn = false → Does (.safetyStrobe a b rb d) s fun t =>
      2 ∈ (t.safIn n).faults ∧ (t.safIn n).st = 3 ∧ (t.get Reg.SAF_FAULT_IN).testBit n = true) ∧
  (∀ (tp : Nat) (s : State), tp < 2 → s.safRuns = true → s.get Reg.SAF_CFG_TP_EN = 1 → s.saf.internal = [] → s.saf.tp = [none, none] → 0 < s.saf.n →
    (s.saf.n - 1) % (20 * s.get Reg.SAF_CFG_TP_TPP) = tp * (10 * s.get Reg.SAF_CFG_TP_TPP) → Does (.testPulseStart tp) s fun t =>
      t.tpLow tp = true ∧ t.saf.tp = [none, none].set tp (some (0, true)) ∧ t = s.setSaf { s.saf with tp := t.saf.tp, ins := t.saf.ins } ∧ t.saf.ins.length = 4 ∧
      t.saf.ins.map (fun x => (x.a.acc, x.b.acc, x.st, x.dis, x.faults)) = (List.range 4).map (fun n => ((s.safIn n).a.acc, (s.safIn n).b.acc, (s.safIn n).st, (s.safIn n).dis, (s.safIn n).faults)) ∧
      (s.get Reg.SAF_CFG_IN_TPA 0 = tp + 1 → (t.safIn 0).a.prevOwn = (s.safIn 0).a.acc ∧ (t.safIn 0).a.lowOwn = false)) ∧
  (∀ (tp m : Nat) (low : Bool) (s : State), tp < 2 → s.saf.tp.length = 2 → (s.saf.tp.getD tp none) = some (m, low) →
    (s.get Reg.SAF_CFG_TP_TPW ≤ m → Does (.testPulseEnd tp) s fun t => t.tpLow tp = false ∧ t = s.setSaf { s.saf with tp := s.saf.tp.set tp (some (m, false)) }) ∧
    (m < s.get Reg.SAF_CFG_TP_TPW → Does (.testPulseEnd tp) s fun t => t = s))

/-- Safe outputs and acknowledgement: After a strobe an output is on only if its function is permissive, an output that waits stays
off without a SAF_ACK, and an output that has gone off waits unless its restart is automatic; a SAF_ACK turns on every permissive
output; read-back latches faults 0x4 and 0x5; strobe loss and channels that disagree twice switch everything off; a test pulse drives
one pin off; and SAF_REQ and SAF_ACK are taken from the bus. -/
def Obligations.SafetyOutputs : Prop :=
  (∀ (a b rb k : Nat) (d : Bool) (s : State), k < 2 → s.safRuns = true → Does (.safetyStrobe a b rb d) s fun t =>
    (t.safeOn k = true → t.safPermits k = true) ∧ t.saf.ack = false ∧
    (s.safeOn k = false → (s.safOut k).wait = true → s.saf.ack = false → t.safeOn k = false) ∧
    (s.safeOn k = true → t.safeOn k = false → (t.safOut k).wait = !s.flag Reg.SAF_CFG_OUT_RESTART k)) ∧
  (∀ (a b rb k : Nat) (d : Bool) (s : State), k < 2 → s.safRuns = true → s.saf.outs.length = 2 → Does (.safetyStrobe a b rb d) s fun t =>
    (s.saf.ack = true → t.safPermits k = true → t.safeOn k = true ∧ (t.safOut k).wait = false) ∧
    ((s.safOut k).wait = false → s.safeOn k = false → t.safPermits k = true → t.safeOn k = true)) ∧
  (∀ (a b rb k : Nat) (d : Bool) (s : State), k < 2 → s.safRuns = true → s.saf.outs.length = 2 → s.saf.ack = false → rb.testBit (2 * k) = false → s.safeOn k = true → (s.safOut k).a.pulse = none → 1 ≤ (s.safOut k).a.lo →
    Does (.safetyStrobe a b rb d) s fun t => 5 ∈ (t.safOut k).faults ∧ t.safeOn k = false ∧ (t.get Reg.SAF_FAULT_OUT).testBit k = true) ∧
  (∀ (a b rb k : Nat) (d : Bool) (s : State), k < 2 → s.safRuns = true → s.saf.outs.length = 2 → s.saf.ack = false → rb.testBit (2 * k + 1) = true → s.safeOn k = false → 1 ≤ (s.safOut k).b.hi →
    Does (.safetyStrobe a b rb d) s fun t => 4 ∈ (t.safOut k).faults ∧ t.safeOn k = false) ∧
  (∀ (a b rb k w : Nat) (d : Bool) (s : State), k < 2 → s.safRuns = true → s.saf.outs.length = 2 → s.saf.ack = false → rb.testBit (2 * k) = true → s.safeOn k = true → s.get Reg.SAF_CFG_OUT_OPW k = w + 2 → (s.safOut k).a.pulse = some w →
    Does (.safetyStrobe a b rb d) s fun t => 4 ∈ (t.safOut k).faults ∧ t.safeOn k = false) ∧
  (∀ (out chan per : Nat) (s : State), out < 2 → chan < 2 → s.saf.outs.length = 2 → 0 < s.saf.n → s.safRuns = true → per = s.oppStrobes out →
    (s.safeOn out = true → (s.saf.n - 1) % per = chan * (per / 2) + out * (per / 4) → Does (.outputTestPulse out chan) s fun t =>
      t.saf = (s.setSafOut out (if chan = 0 then { s.safOut out with a := { pulse := some 0 } } else { s.safOut out with b := { pulse := some 0 } })).saf ∧ t.safPin out (chan == 1) = false ∧
      t.get (if out = 0 then if chan = 0 then Reg.SAF_OUT_STATE_A0 else Reg.SAF_OUT_STATE_B0 else if chan = 0 then Reg.SAF_OUT_STATE_A1 else Reg.SAF_OUT_STATE_B1) = 0 ∧ t = { s with regs := t.regs, saf := t.saf }) ∧
    ((s.safeOn out = false ∨ (s.saf.n - 1) % per ≠ chan * (per / 2) + out * (per / 4)) → Does (.outputTestPulse out chan) s fun t => t = s)) ∧
  (∀ (k : Nat) (s : State), k < 2 → s.safRuns = true → Does .strobeLoss s fun t =>
    t.safeOn k = false ∧ 8 ∈ t.saf.internal ∧ t.get Reg.SAF_FAULT_INTERNAL = 1 ∧ t.dtRef = (s.advanceTo (s.saf.lastStrobe + 25000)).dtRef ∧ t.mem = s.mem ∧
    (8 ∉ s.saf.internal → t.get Reg.SAF_STATUS_STATE = 2 ∧ t.tpLow 0 = true ∧ t.tpLow 1 = true ∧ t.sys.faultLow = true)) ∧
  (∀ (a b rb k : Nat) (s : State), k < 2 → s.safRuns = true → 1 ≤ s.saf.differ → Does (.safetyStrobe a b rb true) s fun t =>
    t.safeOn k = false ∧ 7 ∈ t.saf.internal ∧ t.get Reg.SAF_FAULT_INTERNAL = 1) ∧
  (∀ (val : Nat) (s : State), s.responds 0x1D001C = true → Does (.safReq val) s fun t => t.get Reg.SAF_REQ_ON = bits val 0 2 ∧ RegsOnly [Reg.SAF_REQ_ON] s t) ∧
  (∀ (val : Nat) (s : State), val.testBit 0 = true → s.responds 0x1D0018 = true →
    ((s.role = 2 ∨ s.role = 3) → s.sessionLive → s.aud.queue.length < 32 → Does (.safAck val) s fun t => t.saf = { s.saf with ack := true } ∧ t.aud.queue.length = s.aud.queue.length + 1 ∧
      Only [Reg.GEN_AUD_STATUS_PEND] s t { s with regs := t.regs, aud := t.aud, saf := t.saf, sess := { s.sess with lastWrite := s.dtRef } }) ∧
    (s.role ≠ 2 → s.role ≠ 3 → s.sessionLive → Does (.safAck val) s fun t => t.saf = s.saf ∧ t.get Reg.SAF_INT_REFUSED = 1 ∧ t.get Reg.GEN_INT_REFUSED = 1 ∧
      Only ([Reg.SAF_INT_REFUSED, Reg.GEN_INT_REFUSED] ++ auditFields) s t { s with regs := t.regs, aud := t.aud })) ∧
  (∀ (s : State), s.responds 0x1D01C8 = true → Does .safCntClr s fun t => t.get Reg.SAF_DISC_SHORT_COUNT 2 = 0 ∧ t.get Reg.SAF_CONN_OK_COUNT 0 3 = 0 ∧
    RegsOnly [Reg.SAF_DISC_SHORT_COUNT, Reg.SAF_CONN_OK_COUNT, Reg.SAF_CONN_DUP_COUNT, Reg.SAF_CONN_LOST_COUNT, Reg.SAF_CONN_BAD_COUNT] s t)

/-- The Snuffer layer: A producer builds a 16-byte frame with the next SEQ, shows it in its mailbox and, when its channels differ,
latches fault 0x7 and sends nothing; a consumer accepts a frame with its CONN_ID and WDT and a good CHECK whose SEQ is 1 to 8 ahead or
that is the first, discards and counts duplicates and every other frame; a producer that reports a fault and a timeout latch fault
0x6; and the PCIe mailbox submits its four words. -/
def Obligations.SnufferFrames : Prop :=
  (∀ (c i : Nat) (s : State), c < 8 → i < 4 → s.safRuns = true → s.saf.conn.length = 8 → s.get Reg.SAF_CFG_CONN_EN c = 1 → s.get Reg.SAF_CFG_CONN_DIR c = 1 → s.get Reg.SAF_CFG_CONN_MEDIUM c = 1 →
    Does (.snufferProduce c false) s fun t =>
      let x := s.safConn c
      let f := snufferFrame (s.get Reg.SAF_CFG_CONN_ID_ID c) x.next (s.get Reg.SAF_CFG_CONN_WDT c) s.snufferData s.snufferStatus
      let due := x.seq.isSome = true ∧ s.snufferData = x.data ∧ s.snufferStatus = x.status
      t.safConn c = { x with seq := some x.next, data := s.snufferData, status := s.snufferStatus, at_ := t.dtRef, next := (x.next + 1) % 65536 } ∧
      t.get Reg.SAF_SNF_TX_BYTES i c = leNum ((f.drop (4 * i)).take 4) ∧ t.get Reg.SAF_CONN_STATE_SEQ 0 c = trunc 16 x.next ∧
      t.dtRef = (if due then (s.advanceTo (x.at_ + 250000 * ((s.get Reg.SAF_CFG_CONN_WDT c + 3) / 4))).dtRef else s.dtRef) ∧ t.lnk = s.lnk) ∧
  (∀ (c k : Nat) (s : State), c < 8 → k < 2 → s.safRuns = true → s.get Reg.SAF_CFG_CONN_EN c = 1 → s.get Reg.SAF_CFG_CONN_DIR c = 1 → Does (.snufferProduce c true) s fun t =>
    7 ∈ t.saf.internal ∧ t.get Reg.SAF_FAULT_INTERNAL = 1 ∧ t.safPermits k = false ∧ t.saf.outs = s.saf.outs ∧ t.saf.conn = s.saf.conn ∧ t.lnk.port = s.lnk.port) ∧
  (∀ (id seq wdt data status : Nat), id < 2 ^ 32 → seq < 2 ^ 16 → wdt < 2 ^ 16 → data < 2 ^ 16 → status < 2 ^ 16 → let f := snufferFrame id seq wdt data status
    f.length = 16 ∧ (∀ b ∈ f, b < 256) ∧ leNum (f.take 4) = id ∧ leNum ((f.drop 4).take 2) = seq ∧ leNum ((f.drop 6).take 2) = wdt ∧ leNum ((f.drop 8).take 2) = data ∧
    leNum ((f.drop 10).take 2) = status ∧ leNum (f.drop 12) = crcSnuffer (f.take 12)) ∧
  (∀ (c port seq data : Nat) (s : State), c < 8 → port < 8 → s.safRuns = true → s.saf.conn.length = 8 → s.get Reg.SAF_CFG_CONN_EN c = 1 → s.get Reg.SAF_CFG_CONN_DIR c = 0 → s.get Reg.SAF_CFG_CONN_MEDIUM c = 0 → s.get Reg.SAF_CFG_CONN_PORT c = port →
    ((List.range 8).all fun e => e == c || s.get Reg.SAF_CFG_CONN_EN e == 0) = true → seq < 2 ^ 16 → data < 2 ^ 16 →
    Does (.snufferReceive port (snufferFrame (s.get Reg.SAF_CFG_CONN_ID_ID c) seq (s.get Reg.SAF_CFG_CONN_WDT c) data 0)) s fun t =>
      let x := s.safConn c
      let d := match x.seq with | none => 1 | some q => (seq + 65536 - q) % 65536
      let takes := 1 ≤ d ∧ d ≤ 8
      (takes → t.safConn c = { x with valid := true, seq := some seq, data := data, at_ := s.dtRef } ∧ t.get Reg.SAF_CONN_STATE_SEQ 0 c = seq ∧
        t.get Reg.SAF_CONN_LOST_COUNT 0 c = min (2 ^ 32 - 1) (s.get Reg.SAF_CONN_LOST_COUNT 0 c + (d - 1))) ∧
      t.get Reg.SAF_CONN_OK_COUNT 0 c = (if takes then min (2 ^ 32 - 1) (s.get Reg.SAF_CONN_OK_COUNT 0 c + 1) else s.get Reg.SAF_CONN_OK_COUNT 0 c) ∧
      t.get Reg.SAF_CONN_DUP_COUNT 0 c = (if d = 0 then min (2 ^ 32 - 1) (s.get Reg.SAF_CONN_DUP_COUNT 0 c + 1) else s.get Reg.SAF_CONN_DUP_COUNT 0 c) ∧
      t.get Reg.SAF_CONN_BAD_COUNT 0 c = (if 8 < d then min (2 ^ 32 - 1) (s.get Reg.SAF_CONN_BAD_COUNT 0 c + 1) else s.get Reg.SAF_CONN_BAD_COUNT 0 c) ∧
      (¬ takes → t.saf = s.saf) ∧ t = { s with regs := t.regs, saf := { s.saf with conn := t.saf.conn } }) ∧
  (∀ (c port seq data : Nat) (f : List Nat) (s : State), c < 8 → port < 8 → s.safRuns = true → s.saf.conn.length = 8 → s.get Reg.SAF_CFG_CONN_EN c = 1 → s.get Reg.SAF_CFG_CONN_DIR c = 0 → s.get Reg.SAF_CFG_CONN_MEDIUM c = 0 → s.get Reg.SAF_CFG_CONN_PORT c = port →
    ((List.range 8).all fun e => e == c || s.get Reg.SAF_CFG_CONN_EN e == 0) = true → seq < 2 ^ 16 → data < 2 ^ 16 → (f.length ≠ 16 ∨ leNum (f.drop 12) ≠ crcSnuffer (f.take 12) ∨ leNum ((f.drop 6).take 2) ≠ s.get Reg.SAF_CFG_CONN_WDT c ∨ leNum (f.take 4) ≠ s.get Reg.SAF_CFG_CONN_ID_ID c) →
    Does (.snufferReceive port f) s fun t => t.saf = s.saf ∧ t.get Reg.SAF_CONN_BAD_COUNT 0 c = min (2 ^ 32 - 1) (s.get Reg.SAF_CONN_BAD_COUNT 0 c + 1) ∧ RegsOnly [Reg.SAF_CONN_BAD_COUNT, Reg.SAF_INT_CNT_SAT] s t) ∧
  (∀ (c port seq data status : Nat) (s : State), c < 8 → port < 8 → s.safRuns = true → s.saf.conn.length = 8 → s.get Reg.SAF_CFG_CONN_EN c = 1 → s.get Reg.SAF_CFG_CONN_DIR c = 0 → s.get Reg.SAF_CFG_CONN_MEDIUM c = 0 → s.get Reg.SAF_CFG_CONN_PORT c = port →
    ((List.range 8).all fun e => e == c || s.get Reg.SAF_CFG_CONN_EN e == 0) = true → seq < 2 ^ 16 → data < 2 ^ 16 → (status = 1 ∨ status = 2 ∨ status = 3) → (s.safConn c).seq = none →
    Does (.snufferReceive port (snufferFrame (s.get Reg.SAF_CFG_CONN_ID_ID c) seq (s.get Reg.SAF_CFG_CONN_WDT c) data status)) s fun t =>
      (t.safConn c).fault = true ∧ (t.safConn c).valid = true ∧ t.get Reg.SAF_CONN_STATE_STATE 0 c = 3 ∧ (t.get Reg.SAF_FAULT_CONN).testBit c = true) ∧
  (∀ (c k : Nat) (s : State), c < 8 → k < 2 → s.safRuns = true → s.saf.conn.length = 8 → s.get Reg.SAF_CFG_CONN_EN c = 1 → s.get Reg.SAF_CFG_CONN_DIR c = 0 → (s.safConn c).valid = true →
    Does (.snufferTimeout c) s fun t => (t.safConn c).valid = false ∧ (t.safConn c).fault = true ∧ t.dtRef = (s.advanceTo ((s.safConn c).at_ + 250000 * s.get Reg.SAF_CFG_CONN_WDT c)).dtRef ∧
      (t.safConn c).seq = none ∧ t.saf.outs = s.saf.outs ∧
      ((s.get Reg.SAF_CFG_OUT_CONNMASK k).testBit c = true → t.safPermits k = false) ∧ t.get Reg.SAF_CONN_STATE_STATE 0 c = 3) ∧
  (∀ (val : Nat) (s : State), s.responds 0x1D018C = true → ((List.range 8).all fun e => s.get Reg.SAF_CFG_CONN_EN e == 0 || s.get Reg.SAF_CFG_CONN_MEDIUM e == 0) = true →
    Does (.snufferRxSubmit val) s fun t => t.get Reg.SAF_SNF_RX_BYTES 3 = trunc 32 val ∧ t = s.put Reg.SAF_SNF_RX_BYTES val 3) ∧
  (∀ (val c seq data : Nat) (f : List Nat) (s : State), s.responds 0x1D018C = true → c < 8 → s.safRuns = true → s.saf.conn.length = 8 → s.get Reg.SAF_CFG_CONN_EN c = 1 → s.get Reg.SAF_CFG_CONN_DIR c = 0 → s.get Reg.SAF_CFG_CONN_MEDIUM c = 1 →
    ((List.range 8).all fun e => e == c || s.get Reg.SAF_CFG_CONN_EN e == 0) = true → seq < 2 ^ 16 → data < 2 ^ 16 → (s.safConn c).seq = none →
    f = snufferFrame (s.get Reg.SAF_CFG_CONN_ID_ID c) seq (s.get Reg.SAF_CFG_CONN_WDT c) data 0 → s.get Reg.SAF_SNF_RX_BYTES 0 = leNum (f.take 4) → s.get Reg.SAF_SNF_RX_BYTES 1 = leNum ((f.drop 4).take 4) →
    s.get Reg.SAF_SNF_RX_BYTES 2 = leNum ((f.drop 8).take 4) → val = leNum (f.drop 12) → Does (.snufferRxSubmit val) s fun t =>
      (t.safConn c).valid = true ∧ (t.safConn c).seq = some seq ∧ (t.safConn c).data = data ∧ t.get Reg.SAF_CONN_OK_COUNT 0 c = min (2 ^ 32 - 1) (s.get Reg.SAF_CONN_OK_COUNT 0 c + 1))

/-- Commissioning the safety block: SAF_COMMIT is refused with the code of the first check that fails and changes nothing else; one
that passes waits for its audit entry; a commit puts the staged set in force, takes one generation, switches every output off to wait
for a SAF_ACK and clears every fault but 0x7 and 0x8. -/
def Obligations.SafetyCommissioning : Prop :=
  (∀ (val e : Nat) (agree : Bool) (s : State), s.responds 0x1D0168 = true → s.sessionLive → e = (if s.role ≠ 3 then 1 else if val ≠ s.safCheckValue then 2 else if agree = false then 3 else if s.safConsistent = false then 4 else if s.store.safGen = 0 then 5 else 0) → e ≠ 0 →
    Does (.safCommit val agree) s fun t => t.get Reg.SAF_COMMIT_ERR_ERR = e ∧ t.get Reg.SAF_INT_REFUSED = 1 ∧ t.get Reg.GEN_INT_REFUSED = 1 ∧
      Only ([Reg.SAF_COMMIT_ERR_ERR, Reg.SAF_INT_REFUSED, Reg.GEN_INT_REFUSED] ++ auditFields) s t { s with regs := t.regs, aud := t.aud }) ∧
  (∀ (val : Nat) (s : State), s.responds 0x1D0168 = true → s.role = 3 → s.sessionLive → val = s.safCheckValue → s.safConsistent = true → s.store.safGen ≠ 0 → s.aud.queue.length < 32 →
    Does (.safCommit val true) s fun t => t.get Reg.SAF_COMMIT_ERR_ERR = 0 ∧ t.aud.queue.length = s.aud.queue.length + 1 ∧ t.saf = s.saf ∧
      Only [Reg.SAF_COMMIT_ERR_ERR, Reg.GEN_AUD_STATUS_PEND] s t { s with regs := t.regs, aud := t.aud, sess := { s.sess with lastWrite := s.dtRef } }) ∧
  (∀ (k n : Nat) (s : State), k < 2 → n < 4 → let t := s.safCommit true
    t.safeOn k = false ∧ (t.safOut k).wait = true ∧ (t.safOut k).faults = [] ∧ (t.safIn n).faults = [] ∧ t.store.safGen = s.store.safGen - 1 ∧ t.get Reg.SAF_GEN_LEFT_LEFT = trunc 5 (s.store.safGen - 1) ∧
    t.get Reg.SAF_INT_COMMITTED = 1 ∧ t.saf.internal = s.saf.internal.filter (fun c => c == 7 || c == 8) ∧ t.shadowOf Reg.SAF_CFG_IN_DISC n 0 = none ∧
    (t.get Reg.SAF_CFG_IN_DISC n = match s.shadowOf Reg.SAF_CFG_IN_DISC n 0 with | some v => trunc 13 v | none => s.get Reg.SAF_CFG_IN_DISC n))

/-- Ports from OFF to UP: A port that passes the checks of its configuration enters BEACON, and one that does not is refused with its
code; EN = 0 turns it OFF and detaches it; a port in BEACON repeats its beacon every 250,000 ref, answers a fitting beacon and trains
at the lower rate, and stays with its code on one that does not fit; requests move the taps within their ranges; the port is UP with
its topology entry filled when its last lane is done; and training that takes too long fails. -/
def Obligations.PortTraining : Prop :=
  (∀ (p val : Nat) (s : State), p < 8 → s.responds (0x1E0100 + 0x40 * p) = true → val.testBit 0 = true → s.lnk.port.length = 8 → s.lnk.lane.length = 18 → ((List.range 8).all fun q => !s.flag Reg.LNK_Pp_CFG_EN q) = true →
    let top := bits val 1 5 + 2 ^ bits val 6 2 + bits val 8 1
    (18 < top → Does (.portEnable p val) s fun t => t = (s.put Reg.LNK_INT_REFUSED 1).put Reg.LNK_Pp_STATUS_ERR 1 p) ∧
    (top ≤ 18 → s.store.idSet = false → Does (.portEnable p val) s fun t => t = (s.put Reg.LNK_INT_REFUSED 1).put Reg.LNK_Pp_STATUS_ERR 3 p) ∧
    (top ≤ 18 → s.store.idSet = true → Does (.portEnable p val) s fun t =>
      t.flag Reg.LNK_Pp_CFG_EN p = true ∧ t.lstate p = 1 ∧ t.get Reg.LNK_Pp_STATUS_ERR p = 0 ∧ t.get Reg.LNK_Pp_CFG_LANE0 p = bits val 1 5 ∧ t.get Reg.LNK_Pp_CFG_WIDTH p = bits val 6 2 ∧
      t.get Reg.LNK_Pp_CFG_SPARE p = bits val 8 1 ∧ t.get Reg.LNK_Pp_CFG_RATE_MAX p = bits val 9 2 ∧ t.get Reg.LNK_Pp_CFG_LP_EN p = bits val 11 1 ∧
      t.get Reg.LNK_LANE_STATUS_USE 0 (bits val 1 5) = 1 ∧ (t.llane (bits val 1 5)).tx = {} ∧ t.lport p = { s.lport p with since := s.dtRef, beaconAt := s.dtRef } ∧
      Only [Reg.LNK_Pp_CFG_EN, Reg.LNK_Pp_STATUS_STATE, Reg.LNK_Pp_STATUS_ERR, Reg.LNK_Pp_CFG_LANE0, Reg.LNK_Pp_CFG_WIDTH, Reg.LNK_Pp_CFG_SPARE, Reg.LNK_Pp_CFG_RATE_MAX, Reg.LNK_Pp_CFG_LP_EN, Reg.LNK_LANE_STATUS_USE] s t
        { s with regs := t.regs, lnk := { s.lnk with seen := [], port := s.lnk.port.set p (t.lport p), lane := t.lnk.lane } })) ∧
  (∀ (p q val : Nat) (s : State), p < 8 → s.responds (0x1E0100 + 0x40 * p) = true → q < 8 → q ≠ p → val.testBit 0 = true → bits val 1 5 + 2 ^ bits val 6 2 + bits val 8 1 ≤ 18 → s.flag Reg.LNK_Pp_CFG_EN p = false → s.flag Reg.LNK_Pp_CFG_EN q = true →
    s.get Reg.LNK_Pp_CFG_LANE0 q = bits val 1 5 → Does (.portEnable p val) s fun t => t = (s.put Reg.LNK_INT_REFUSED 1).put Reg.LNK_Pp_STATUS_ERR 2 p) ∧
  (∀ (p val : Nat) (s : State), p < 8 → s.responds (0x1E0100 + 0x40 * p) = true → val.testBit 0 = false → s.lnk.port.length = 8 → s.flag Reg.LNK_Pp_CFG_EN p = true → Does (.portDisable p val) s fun t =>
    t.flag Reg.LNK_Pp_CFG_EN p = false ∧ t.lstate p = 0 ∧ (t.lport p).bulk.kept = [] ∧ (t.lport p).pri.kept = [] ∧
    (s.lupLow p = true → t.get Reg.LNK_Pp_PARTNER_ID p = 0 ∧ (t.get Reg.LNK_PORT_EVT_DETACHED).testBit p = true ∧ t.get Reg.LNK_INT_DETACH = 1 ∧
      t.get Reg.LNK_DETACH_DISC_COUNT = min (2 ^ 32 - 1) (s.get Reg.LNK_DETACH_DISC_COUNT + ((s.lport p).bulk.kept ++ (s.lport p).bulk.wait ++ (s.lport p).pri.kept ++ (s.lport p).pri.wait).length)) ∧
    (s.lupLow p = false → (s.lport p).attached = false → t.get Reg.LNK_INT_DETACH = s.get Reg.LNK_INT_DETACH)) ∧
  (∀ (p : Nat) (s : State), p < 8 → s.lnk.port.length = 8 → (s.lstate p ≠ 1 → Does (.beaconSend p) s fun t => t = s) ∧
    (s.lstate p = 1 → s.moduleId < 2 ^ 12 → s.get Reg.LNK_CTRL_ROLE < 2 → s.get Reg.LNK_Pp_CFG_WIDTH p < 4 → s.get Reg.LNK_Pp_CFG_SPARE p < 2 → s.get Reg.LNK_Pp_CFG_RATE_MAX p < 4 → s.get Reg.LNK_STATUS_HOPS < 2 ^ 8 →
     s.get Reg.LNK_STATUS_LH_ID < 2 ^ 12 → s.get Reg.LNK_STATUS_LH_VALID < 2 → Does (.beaconSend p) s fun t =>
      let u := s.advanceTo ((s.lport p).beaconAt + 250000)
      let w := (t.lport p).sent
      let w0 := w.getD 1 0
      t.dtRef = u.dtRef ∧ (t.lport p).beaconAt = t.dtRef ∧ w.length = 4 ∧ bits (w.headD 0) 60 4 = 6 ∧ bits (w.headD 0) 38 6 = 2 ∧ bits w0 52 12 = s.moduleId ∧ bits w0 49 3 = p ∧ bits w0 48 1 = s.get Reg.LNK_CTRL_ROLE ∧
      bits w0 46 2 = s.get Reg.LNK_Pp_CFG_WIDTH p ∧ bits w0 45 1 = s.get Reg.LNK_Pp_CFG_SPARE p ∧ bits w0 43 2 = s.get Reg.LNK_Pp_CFG_RATE_MAX p ∧ bits w0 35 8 = s.get Reg.LNK_STATUS_HOPS ∧
      bits w0 23 12 = s.get Reg.LNK_STATUS_LH_ID ∧ bits w0 19 4 = (min 20 (max 12 (s.get Reg.LNK_CTRL_TINT))) % 16 ∧ bits w0 18 1 = s.get Reg.LNK_STATUS_LH_VALID ∧ bits w0 0 18 = 0 ∧ bits (w.getD 2 0) 56 8 = 1 ∧
      t = { u with lnk := { u.lnk with port := u.lnk.port.set p (t.lport p), lane := t.lnk.lane } })) ∧
  (∀ (p w0 w1 : Nat) (s : State), p < 8 → w0 < 2 ^ 64 → w1 < 2 ^ 64 → s.lnk.port.length = 8 →
    let fits := bits w0 46 2 = s.get Reg.LNK_Pp_CFG_WIDTH p ∧ bits w0 45 1 = s.get Reg.LNK_Pp_CFG_SPARE p ∧ bits w0 19 4 = min 20 (max 12 (s.get Reg.LNK_CTRL_TINT)) % 16
    ((s.lstate p ≠ 1 ∨ bits w1 56 8 ≠ 1) → Does (.beaconReceive p w0 w1) s fun t => t = s) ∧
    (s.lstate p = 1 → bits w1 56 8 = 1 → ¬ fits → Does (.beaconReceive p w0 w1) s fun t => t = s.put Reg.LNK_Pp_STATUS_ERR 4 p) ∧
    (s.lstate p = 1 → bits w1 56 8 = 1 → fits → bits w0 52 12 = s.moduleId → Does (.beaconReceive p w0 w1) s fun t => t = s.put Reg.LNK_Pp_STATUS_ERR 5 p) ∧
    (s.lstate p = 1 → bits w1 56 8 = 1 → fits → bits w0 52 12 ≠ s.moduleId → Does (.beaconReceive p w0 w1) s fun t =>
      t.lstate p = 2 ∧ t.get Reg.LNK_Pp_STATUS_RATE p = min (s.get Reg.LNK_Pp_CFG_RATE_MAX p) (bits w0 43 2) ∧ (t.lport p).adv = some (bit w0 18, bits w0 35 8, bits w0 23 12) ∧ (t.lport p).beacon = some (w0, w1) ∧
      (t.lport p).rxDone = [] ∧ (t.lport p).txDone = [] ∧ t.dtRef = s.dtRef ∧ bits ((t.lport p).sent.headD 0) 60 4 = 6 ∧ t.get Reg.LNK_LANE_STATUS_CM1 0 (s.lane0 p) = 0 ∧ t.get Reg.LNK_LANE_STATUS_CP1 0 (s.lane0 p) = 0)) ∧
  (∀ (p lane : Nat) (msg : TrainMsg) (eye : Bool) (skew : Nat) (s : State), p < 8 → (s.lstate p ≠ 2 ∨ lane ∉ s.lidxs p) → Does (.trainFrameReceive p lane msg eye skew) s fun t => t = s) ∧
  (∀ (p lane : Nat) (m1 p1 : Tap) (s : State), p < 8 → s.lnk.port.length = 8 → s.lstate p = 2 → lane ∈ s.lidxs p → s.staysOut 7 (s.rxLane p lane) = false → (s.lport p).deskewed = false → s.get Reg.LNK_LANE_STATUS_CM1 0 (s.laneOfIdx p lane) ≤ 15 →
    s.get Reg.LNK_LANE_STATUS_CP1 0 (s.laneOfIdx p lane) ≤ 31 → Does (.trainFrameReceive p lane (.request m1 p1) false 61) s fun t =>
      let l := s.laneOfIdx p lane
      let c := s.get Reg.LNK_LANE_STATUS_CM1 0 l
      let d := s.get Reg.LNK_LANE_STATUS_CP1 0 l
      t.get Reg.LNK_LANE_STATUS_CM1 0 l = (match m1 with | .hold => c | .inc => min 15 (c + 1) | .dec => c - 1) ∧ t.get Reg.LNK_LANE_STATUS_CP1 0 l = (match p1 with | .hold => d | .inc => min 31 (d + 1) | .dec => d - 1) ∧
      t.get Reg.LNK_Pp_STATUS_ERR p = 7 ∧ t.lstate p = 2 ∧ (t.lport p).heard = true ∧
      Only [Reg.LNK_LANE_STATUS_CM1, Reg.LNK_LANE_STATUS_CP1, Reg.LNK_Pp_STATUS_ERR] s t { s with regs := t.regs, drawn := t.drawn, lnk := t.lnk }) ∧
  (∀ (p skew : Nat) (s : State), p < 8 → s.lnk.port.length = 8 → s.lstate p = 2 → 0 ∈ s.lidxs p → s.staysOut 7 (s.rxLane p 0) = false → skew ≤ 60 → (s.lport p).attached = false → ((s.lidxs p).all fun i => i == 0 || ((s.lport p).rxDone.contains i && (s.lport p).txDone.contains i)) = true →
    Does (.trainFrameReceive p 0 .done true skew) s fun t =>
      let b := ((s.lport p).beacon).getD (0, 0)
      t.lstate p = 3 ∧ (t.lport p).attached = true ∧ t.get Reg.LNK_Pp_PARTNER_ID p = bits b.1 52 12 ∧ t.get Reg.LNK_Pp_PARTNER_PORT p = bits b.1 49 3 ∧ t.get Reg.LNK_Pp_PARTNER_ROLE p = bits b.1 48 1 ∧
      t.get Reg.LNK_Pp_PARTNER_HOPS p = bits b.1 35 8 ∧ t.get Reg.LNK_Pp_PARTNER_CAPS p = bits b.2 0 8 ∧ (t.get Reg.LNK_PORT_EVT_ATTACHED).testBit p = true ∧ t.get Reg.LNK_INT_ATTACH = 1) ∧
  (∀ (p : Nat) (s : State), p < 8 → s.lnk.port.length = 8 → (s.lstate p ≠ 2 → Does (.trainingTimeout p) s fun t => t = s) ∧
    (s.lstate p = 2 → (s.lport p).attached = false → 2 ≤ (s.undone p).length → Does (.trainingTimeout p) s fun t =>
      t.lstate p = 1 ∧ t.get Reg.LNK_Pp_STATUS_ERR p = 6 ∧ t.dtRef = (s.advanceTo ((s.lport p).since + 125000000)).dtRef ∧ (t.lport p).beacon = none ∧ t.mem = s.mem)) ∧
  (∀ (p : Nat) (s : State), p < 8 → s.lnk.port.length = 8 → ((s.lstate p ≠ 2 ∨ (s.lport p).heard = true) → Does (.partnerTrainTimeout p) s fun t => t = s) ∧
    (s.lstate p = 2 → (s.lport p).attached = false → (s.lport p).heard = false → Does (.partnerTrainTimeout p) s fun t =>
      t.lstate p = 1 ∧ t.dtRef = (s.advanceTo ((s.lport p).since + 500000)).dtRef ∧ (t.lport p).beacon = none))

/-- Markers, lane failures, spares and the line: A good marker aligns a lane at the third in a row and counts mismatched parity bits,
a wrong one at the fourth loses alignment; a receive lane that fails in UP asks for the spare that stands by, and without one the port
retrains; the switch is repeated at its timeout and ends in a retrain; the partner's SWITCH is answered, and SWITCHED puts the spare
in the lane's place; and loss of signal on every running lane detaches. On the line, a word comes back from its bits, the descrambler
and the unstuffer undo the scrambler and the stuffer, and port word k travels on the lane with index k mod W. -/
def Obligations.LaneHealth : Prop :=
  (∀ (lane w bip : Nat) (inv : Bool) (s : State), lane < 18 → w < 2 ^ 64 → s.lnk.lane.length = 18 → bits w 40 24 = 0x5AC396 → s.portOfLane lane = none → Does (.markerReceive lane w bip inv) s fun t =>
    let x := s.llane lane
    let good := if x.last = some (bits w 36 4, bits w 33 3, bits w 21 12) then x.good + 1 else 1
    let diff := Nat.xor (bits w 0 8) (bip % 256)
    (t.llane lane).good = good ∧ (t.llane lane).bad = 0 ∧ (t.llane lane).last = some (bits w 36 4, bits w 33 3, bits w 21 12) ∧ t.get Reg.LNK_LANE_STATUS_LOS 0 lane = 0 ∧
    t.get Reg.LNK_LANE_STATUS_POL_INV 0 lane = boolNat inv ∧
    (3 ≤ good → t.get Reg.LNK_LANE_STATUS_ALIGNED 0 lane = 1 ∧ t.get Reg.LNK_LANE_STATUS_LOL 0 lane = 0 ∧ t.get Reg.LNK_LANE_STATUS_LIDX 0 lane = bits w 36 4) ∧
    (good < 3 → t.get Reg.LNK_LANE_STATUS_ALIGNED 0 lane = s.get Reg.LNK_LANE_STATUS_ALIGNED 0 lane ∧ t.get Reg.LNK_LANE_STATUS_LIDX 0 lane = s.get Reg.LNK_LANE_STATUS_LIDX 0 lane) ∧
    t.get Reg.LNK_LANE_BIP_COUNT 0 lane = (if diff = 0 then s.get Reg.LNK_LANE_BIP_COUNT 0 lane else min (2 ^ 32 - 1) (s.get Reg.LNK_LANE_BIP_COUNT 0 lane + ((List.range 8).filter fun i => diff.testBit i).length)) ∧
    Only [Reg.LNK_LANE_STATUS_LOS, Reg.LNK_LANE_STATUS_POL_INV, Reg.LNK_LANE_STATUS_ALIGNED, Reg.LNK_LANE_STATUS_LOL, Reg.LNK_LANE_STATUS_LIDX, Reg.LNK_LANE_BIP_COUNT, Reg.LNK_INT_CNT_SAT] s t
      { s with regs := t.regs, lnk := { s.lnk with lane := s.lnk.lane.set lane (t.llane lane) } }) ∧
  (∀ (lane w bip : Nat) (inv : Bool) (s : State), lane < 18 → w < 2 ^ 64 → s.lnk.lane.length = 18 → bits w 40 24 ≠ 0x5AC396 → s.portOfLane lane = none → Does (.markerReceive lane w bip inv) s fun t =>
    let lost := (s.llane lane).bad = 3 ∧ s.flag Reg.LNK_LANE_STATUS_ALIGNED 0 lane = true
    (t.llane lane).good = 0 ∧ (t.llane lane).bad = (s.llane lane).bad + 1 ∧ (lost → t.get Reg.LNK_LANE_STATUS_ALIGNED 0 lane = 0 ∧ t.get Reg.LNK_LANE_STATUS_LOL 0 lane = 1) ∧ (¬ lost → t.regs = s.regs)) ∧
  (∀ (lane p : Nat) (s : State), lane < 18 → s.lnk.port.length = 8 → s.lnk.lane.length = 18 → s.portOfLane lane = some p → s.lstate p = 3 → s.get Reg.LNK_LANE_STATUS_USE 0 lane = 1 →
    let stands := s.lspare p = true ∧ s.get Reg.LNK_LANE_STATUS_USE 0 (s.rxLane p 15) = 2 ∧ (s.lport p).switching = none ∧ (s.lport p).rxMoved = none
    let l := s.get Reg.LNK_LANE_STATUS_LIDX 0 lane
    (stands → Does (.laneLos lane) s fun t => t.get Reg.LNK_LANE_STATUS_LOS 0 lane = 1 ∧ t.get Reg.LNK_LANE_STATUS_USE 0 lane = 3 ∧ (t.lport p).switching = some { lidx := l, sent := 1, last := s.dtRef } ∧
      t.lstate p = 3 ∧ (l < 16 → (t.lport p).sent.getD 1 0 = 2 * 2 ^ 56 + l) ∧ Only [Reg.LNK_LANE_STATUS_LOS, Reg.LNK_LANE_STATUS_USE] s t { s with regs := t.regs, lnk := t.lnk }) ∧
    (stands → Does (.laneLol lane) s fun t => t.get Reg.LNK_LANE_STATUS_LOL 0 lane = 1 ∧ t.get Reg.LNK_LANE_STATUS_ALIGNED 0 lane = 0 ∧ t.get Reg.LNK_LANE_STATUS_USE 0 lane = 3 ∧
      (t.lport p).switching = some { lidx := l, sent := 1, last := s.dtRef } ∧ Only [Reg.LNK_LANE_STATUS_LOL, Reg.LNK_LANE_STATUS_ALIGNED, Reg.LNK_LANE_STATUS_USE] s t { s with regs := t.regs, lnk := t.lnk }) ∧
    (¬ stands → Does (.laneLos lane) s fun t => t.lstate p = 2 ∧ t.get Reg.LNK_LANE_STATUS_USE 0 lane = 3 ∧ t.get Reg.LNK_Pp_RETRAINS_COUNT p = min (2 ^ 32 - 1) (s.get Reg.LNK_Pp_RETRAINS_COUNT p + 1) ∧
      (t.lport p).bulk = (s.lport p).bulk ∧ (t.lport p).pri = (s.lport p).pri)) ∧
  (∀ (p : Nat) (w : LSwitch) (s : State), p < 8 → s.lnk.port.length = 8 → (s.lport p).switching = some w → s.lupLow p = true →
    let u := s.advanceTo (w.last + 64 + 2 * ((s.get Reg.LNK_Pp_DELAY_DELAY p + 3999) / 4000))
    (w.sent < 4 → Does (.laneSwitchRetry p) s fun t => (t.lport p).switching = some { lidx := w.lidx, sent := w.sent + 1, last := t.dtRef } ∧ t.dtRef = u.dtRef ∧ t = { u with lnk := { u.lnk with port := u.lnk.port.set p (t.lport p), lane := t.lnk.lane } }) ∧
    (4 ≤ w.sent → Does (.laneSwitchRetry p) s fun t => t.lstate p = 2 ∧ (t.lport p).switching = none ∧ t.dtRef = u.dtRef)) ∧
  (∀ (p : Nat) (s : State), p < 8 → (s.lport p).switching = none → Does (.laneSwitchRetry p) s fun t => t = s) ∧
  (∀ (p lidx : Nat) (tr : Trailer) (s : State), p < 8 → lidx < s.lwidth p → lidx < 16 → s.lspare p = true → s.lnk.port.length = 8 → s.lupLow p = true → (s.lport p).deaf = false → PortIdle s p → tr.bnak = false → tr.pnak = false → tr.credit = 0 → (ctrlFrame 2 lidx : LFrame).good tr = true →
    Does (.lnkCtrlSwitch p lidx tr) s fun t => (t.lport p).txMoved = some lidx ∧ (t.lport p).sent.getD 1 0 = 3 * 2 ^ 56 + lidx ∧ t.get Reg.LNK_Pp_STATUS_SPARE_USED p = 1 ∧ t.lstate p = s.lstate p) ∧
  (∀ (p lidx : Nat) (tr : Trailer) (w : LSwitch) (s : State), p < 8 → lidx < 15 → s.lnk.port.length = 8 → s.lup p = true → (s.lport p).deaf = false → PortIdle s p → tr.bnak = false → tr.pnak = false → tr.credit = 0 → (ctrlFrame 3 lidx : LFrame).good tr = true → (s.lport p).switching = some w →
    (w.lidx = lidx → lidx < s.lwidth p → Does (.lnkCtrlSwitched p lidx tr) s fun t => (t.lport p).rxMoved = some lidx ∧ (t.lport p).switching = none ∧ (s.rxLane p lidx ≠ s.rxLane p 15 → t.get Reg.LNK_LANE_STATUS_USE 0 (s.rxLane p lidx) = 3) ∧ t.get Reg.LNK_LANE_STATUS_USE 0 (s.rxLane p 15) = 1 ∧
      t.get Reg.LNK_INT_LANE_SPARED = 1 ∧ t.get Reg.LNK_Pp_STATUS_SPARE_USED p = 1) ∧
    (w.lidx ≠ lidx → Does (.lnkCtrlSwitched p lidx tr) s fun t => (t.lport p).switching = some w ∧ t.get Reg.LNK_INT_LANE_SPARED = s.get Reg.LNK_INT_LANE_SPARED)) ∧
  (∀ (p : Nat) (s : State), p < 8 → s.lnk.port.length = 8 →
    let run := (s.lanesOf p).filter fun l => s.get Reg.LNK_LANE_STATUS_USE 0 l == 1 || (s.get Reg.LNK_LANE_STATUS_USE 0 l == 3 && (s.lport p).rxMoved.isNone)
    let all := run.all fun l => s.flag Reg.LNK_LANE_STATUS_LOS 0 l
    ((s.lupLow p = false ∨ run = [] ∨ all = false) → Does (.portLosDetach p) s fun t => t = s) ∧
    (s.lupLow p = true → run ≠ [] → all = true → Does (.portLosDetach p) s fun t => t.lstate p = 1 ∧ t.get Reg.LNK_Pp_PARTNER_ID p = 0 ∧ t.get Reg.LNK_Pp_PARTNER_HOPS p = 255 ∧ t.get Reg.LNK_Pp_DELAY_DELAY p = 0 ∧
      t.dtRef = (s.advanceTo ((run.map fun l => (s.llane l).losAt).foldl max 0 + 2500)).dtRef ∧
      (t.get Reg.LNK_PORT_EVT_DETACHED).testBit p = true ∧ t.get Reg.LNK_INT_DETACH = 1 ∧ (t.lport p).bulk.kept = [] ∧ (t.lport p).pri.kept = [] ∧ p ∉ t.tim.ltValid)) ∧
  (∀ (w : Nat), w < 2 ^ 64 → bitsWord (wordBits w) = w) ∧
  (∀ (scr : Nat) (l : List Bool), descramble scr (scramble scr l).2 = ((scramble scr l).1, l) ∧ (scramble scr l).2.length = l.length) ∧
  (∀ (last : Bool) (run : Nat) (l : List Bool), run < 24 → unstuff last run (stuff last run l).2 = ((stuff last run l).1, l) ∧ (stuff last run l).1.2 < 24) ∧
  (∀ (w k : Nat) (l : List Nat), 0 < w → k < l.length → (laneWords w (k % w) l).getD (k / w) 0 = l.getD k 0 ∧ (laneWords w (k % w) l).length = (l.length + w - 1) / w)

/-- Frames, acknowledgement and replay: A port that is not UP or LOW takes no frame; a frame that fails its checks counts and makes
both classes ask for replay; a good trailer releases what it acknowledges and a NAK resends the rest; a sequenced frame is taken in
order, a duplicate dropped and a gap asks for replay; timers resend, retrain or detach; and RETRAIN retrains with both replay buffers
kept. -/
def Obligations.LinkFrames : Prop :=
  (∀ (p seq tspec : Nat) (body : List Nat) (tr : Trailer) (sub : Int) (s : State), p < 8 → (s.lupLow p = false ∨ (s.lport p).deaf = true ∧ tr.idles < 2) →
    Does (.lnkDataRx p seq tspec body tr) s (fun t => t = s) ∧
    Does (.lnkFlareRx p seq body tr) s (fun t => t = s) ∧
    Does (.lnkSnufferRx p seq body tr) s (fun t => t = s) ∧
    Does (.lnkTimeRx p sub body tr) s (fun t => t = s) ∧
    Does (.lnkCtrlAck p tr) s (fun t => t = s) ∧
    Does (.lnkCtrlSwitch p 0 tr) s (fun t => t = s) ∧
    Does (.lnkCtrlSwitched p 0 tr) s (fun t => t = s) ∧
    Does (.lnkCtrlWake p tr) s (fun t => t = s) ∧
    Does (.lnkCtrlSleep p tr) s (fun t => t = s) ∧
    Does (.lnkCtrlRetrain p tr) s (fun t => t = s)) ∧
  (∀ (p seq tspec : Nat) (body : List Nat) (tr : Trailer) (sub : Int) (s : State), p < 8 → s.lnk.port.length = 8 → s.lupLow p = true → ((s.lport p).deaf = false ∨ 2 ≤ tr.idles) →
    let e := (s.bump Reg.LNK_Pp_CRCERR_COUNT Reg.LNK_INT_CNT_SAT p).setLport p { (s.lport p) with deaf := true, bulk := { (s.lport p).bulk with nak := true }, pri := { (s.lport p).pri with nak := true } }
    ((({ ty := 1, seq := seq, tspec := tspec, body := body } : LFrame) : LFrame).good tr = false → Does (.lnkDataRx p seq tspec body tr) s (fun t => t = e)) ∧
    ((({ ty := 2, seq := seq, body := body } : LFrame) : LFrame).good tr = false → Does (.lnkFlareRx p seq body tr) s (fun t => t = e)) ∧
    ((({ ty := 4, seq := seq, body := body } : LFrame) : LFrame).good tr = false → Does (.lnkSnufferRx p seq body tr) s (fun t => t = e)) ∧
    ((({ ty := 3, body := body } : LFrame) : LFrame).good tr = false → Does (.lnkTimeRx p sub body tr) s (fun t => t = e)) ∧
    ((ctrlFrame 1 0 : LFrame).good tr = false → Does (.lnkCtrlAck p tr) s (fun t => t = e)) ∧
    ((ctrlFrame 2 0 : LFrame).good tr = false → Does (.lnkCtrlSwitch p 0 tr) s (fun t => t = e)) ∧
    ((ctrlFrame 3 0 : LFrame).good tr = false → Does (.lnkCtrlSwitched p 0 tr) s (fun t => t = e)) ∧
    ((ctrlFrame 4 0 : LFrame).good tr = false → Does (.lnkCtrlWake p tr) s (fun t => t = e)) ∧
    ((ctrlFrame 5 0 : LFrame).good tr = false → Does (.lnkCtrlSleep p tr) s (fun t => t = e)) ∧
    ((ctrlFrame 6 0 : LFrame).good tr = false → Does (.lnkCtrlRetrain p tr) s (fun t => t = e))) ∧
  (∀ (p : Nat) (tr : Trailer) (s : State), p < 8 → s.lnk.port.length = 8 → s.lupLow p = true → (s.lport p).deaf = false → (ctrlFrame 1 0).good tr = true → (s.lport p).bulk.wait = [] → (s.lport p).pri.wait = [] → tr.credit = 0 → tr.bnak = false → tr.pnak = false →
    Does (.lnkCtrlAck p tr) s fun t =>
      let x := s.lport p
      let hit := (x.bulk.kept.any fun f => f.frame.seq == tr.back) = true
      (t.lport p).bulk.kept = (if hit then (x.bulk.kept.dropWhile fun f => f.frame.seq != tr.back).drop 1 else x.bulk.kept) ∧
      (hit → (t.lport p).progress = s.dtRef ∧ (t.lport p).waitAt = s.dtRef ∧ (t.lport p).bulk.since = s.dtRef) ∧
      t.get Reg.LNK_Pp_OUTST_BULK p = trunc 10 (t.lport p).bulk.kept.length ∧ Only [Reg.LNK_Pp_OUTST_BULK, Reg.LNK_Pp_OUTST_PEAK] s t { s with regs := t.regs, lnk := { s.lnk with port := t.lnk.port } }) ∧
  (∀ (p : Nat) (tr : Trailer) (s : State), p < 8 → s.lnk.port.length = 8 → s.lupLow p = true → (s.lport p).deaf = false → (ctrlFrame 1 0).good tr = true → (s.lport p).bulk.wait = [] → (s.lport p).pri.wait = [] → tr.credit = 0 → tr.bnak = true → tr.pnak = false →
    (s.lport p).bulk.kept ≠ [] → ((s.lport p).bulk.kept.any fun f => f.frame.seq == tr.back) = false → ((s.lport p).pri.kept.any fun f => f.frame.seq == tr.pack) = false →
    (((s.lport p).bulk.kept.all fun f => decide (f.sends < 8)) = true → Does (.lnkCtrlAck p tr) s fun t =>
      (t.lport p).bulk.kept = (s.lport p).bulk.kept.map (fun f => { f with sends := f.sends + 1 }) ∧ t.lstate p = s.lstate p ∧
      t.get Reg.LNK_Pp_REPLAY_COUNT p = min (2 ^ 32 - 1) (s.get Reg.LNK_Pp_REPLAY_COUNT p + (s.lport p).bulk.kept.length)) ∧
    (((s.lport p).bulk.kept.all fun f => decide (f.sends < 8)) = false → Does (.lnkCtrlAck p tr) s fun t =>
      t.lstate p = 2 ∧ (t.lport p).bulk.kept = (s.lport p).bulk.kept ∧ t.get Reg.LNK_Pp_RETRAINS_COUNT p = min (2 ^ 32 - 1) (s.get Reg.LNK_Pp_RETRAINS_COUNT p + 1))) ∧
  (∀ (p seq tspec : Nat) (body : List Nat) (tr : Trailer) (s : State), p < 8 → s.lnk.port.length = 8 → s.lupLow p = true → (s.lport p).deaf = false → PortIdle s p → tr.bnak = false → tr.pnak = false → tr.credit = 0 → ({ ty := 1, seq := seq, tspec := tspec, body := body } : LFrame).good tr = true → (s.lport p).bulk.rx < 2 ^ 16 → seq < 2 ^ 16 → tspec.testBit 17 = true → s.topo.ingress.getD p none = none → Does (.lnkDataRx p seq tspec body tr) s fun t =>
    let x := (s.lport p).bulk
    let next := seq = x.rx
    let dup := (x.rx + 65536 - seq) % 65536 ≤ 32768
    (t.lport p).dataAt = s.dtRef ∧
    (next → (t.lport p).bulk.rx = (x.rx + 1) % 65536 ∧ (t.lport p).bulk.nak = false ∧ (t.lport p).sent.getD 1 0 = 2 ^ 56 ∧ t.get Reg.LNK_INGRESS_OFF_COUNT = min (2 ^ 32 - 1) (s.get Reg.LNK_INGRESS_OFF_COUNT + 1)) ∧
    (¬ next → dup → (t.lport p).bulk.rx = x.rx ∧ (t.lport p).bulk.nak = x.nak ∧ t.get Reg.LNK_INGRESS_OFF_COUNT = s.get Reg.LNK_INGRESS_OFF_COUNT) ∧
    (¬ next → ¬ dup → (t.lport p).bulk.rx = x.rx ∧ (t.lport p).bulk.nak = true ∧ t.get Reg.LNK_INGRESS_OFF_COUNT = s.get Reg.LNK_INGRESS_OFF_COUNT) ∧
    Only [Reg.LNK_Pp_OUTST_BULK, Reg.LNK_Pp_OUTST_PEAK, Reg.LNK_INGRESS_OFF_COUNT, Reg.LNK_INT_CNT_SAT] s t { s with regs := t.regs, lnk := t.lnk }) ∧
  (∀ (p seq : Nat) (body : List Nat) (tr : Trailer) (s : State), p < 8 → s.lnk.port.length = 8 → s.lupLow p = true → (s.lport p).deaf = false → PortIdle s p → tr.bnak = false → tr.pnak = false → tr.credit = 0 → ({ ty := 4, seq := seq, body := body } : LFrame).good tr = true → seq = (s.lport p).pri.rx → Does (.lnkSnufferRx p seq body tr) s fun t =>
    t.saf = (s.linkSnuffer p (body.flatMap (leBytesN 8))).saf ∧ (t.lport p).pri.rx = (seq + 1) % 256 ∧ (t.lport p).pri.nak = false) ∧
  (∀ (p : Nat) (pri : Bool) (s : State), p < 8 → s.lnk.port.length = 8 →
    let c := if pri then (s.lport p).pri else (s.lport p).bulk
    let d := 2 * ((s.get Reg.LNK_Pp_DELAY_DELAY p + 3999) / 4000) + 40
    ((s.lupLow p = false ∨ c.kept = []) → Does (.lnkReplayTimeout p pri) s fun t => t = s) ∧
    (s.lupLow p = true → c.kept ≠ [] → (c.kept.all fun f => decide (f.sends < 8)) = true → Does (.lnkReplayTimeout p pri) s fun t =>
      t.dtRef = (s.advanceTo (c.since + d)).dtRef ∧ (if pri then (t.lport p).pri else (t.lport p).bulk).kept = c.kept.map (fun f => { f with sends := f.sends + 1 }) ∧
      (if pri then (t.lport p).pri else (t.lport p).bulk).since = t.dtRef ∧ t.get Reg.LNK_Pp_REPLAY_COUNT p = min (2 ^ 32 - 1) (s.get Reg.LNK_Pp_REPLAY_COUNT p + c.kept.length) ∧
      Only ([Reg.LNK_Pp_REPLAY_COUNT, Reg.LNK_INT_CNT_SAT] ++ timeFields) s t { s.advanceTo (c.since + d) with regs := t.regs, lnk := { s.lnk with port := t.lnk.port, lane := t.lnk.lane } })) ∧
  (∀ (p : Nat) (s : State), p < 8 → s.lnk.port.length = 8 →
    ((s.lupLow p = false ∨ s.outstanding p = false) → (Does (.lnkProgressTimeout p) s fun t => t = s) ∧ (Does (.portWaitExpire p) s fun t => t = s)) ∧
    (s.lupLow p = true → s.outstanding p = true → Does (.lnkProgressTimeout p) s fun t => t.lstate p = 2 ∧ t.dtRef = (s.advanceTo ((s.lport p).progress + 25000)).dtRef ∧ (t.lport p).bulk = (s.lport p).bulk ∧
      (t.lport p).pri = (s.lport p).pri ∧ t.get Reg.LNK_Pp_RETRAINS_COUNT p = min (2 ^ 32 - 1) (s.get Reg.LNK_Pp_RETRAINS_COUNT p + 1)) ∧
    (s.lupLow p = true → s.outstanding p = true → Does (.portWaitExpire p) s fun t => t.lstate p = 1 ∧ t.dtRef = (s.advanceTo ((s.lport p).waitAt + 250 * max 100 (s.get Reg.GEN_FP_LNK_US))).dtRef ∧
      (t.lport p).bulk.kept = [] ∧ (t.get Reg.LNK_PORT_EVT_DETACHED).testBit p = true)) ∧
  (∀ (p val : Nat) (s : State), p < 8 → s.lnk.port.length = 8 → val.testBit 0 = true → s.responds (0x1E0128 + 0x40 * p) = true → (s.lupLow p = false → Does (.lnkRetrainCmd p val) s fun t => t = s) ∧
    (s.lupLow p = true → Does (.lnkRetrainCmd p val) s fun t => t.lstate p = 2 ∧ (t.lport p).bulk = (s.lport p).bulk ∧ (t.lport p).pri = (s.lport p).pri ∧ (t.lport p).sent.getD 1 0 = 6 * 2 ^ 56 ∧
      t.get Reg.LNK_Pp_RETRAINS_COUNT p = min (2 ^ 32 - 1) (s.get Reg.LNK_Pp_RETRAINS_COUNT p + 1) ∧
      Only [Reg.LNK_Pp_RETRAINS_COUNT, Reg.LNK_INT_CNT_SAT, Reg.LNK_Pp_STATUS_STATE, Reg.LNK_Pp_STATUS_SPARE_USED, Reg.LNK_LANE_STATUS_CM1, Reg.LNK_LANE_STATUS_CP1] s t { s with regs := t.regs, lnk := { s.lnk with port := t.lnk.port, lane := t.lnk.lane } })) ∧
  (∀ (p : Nat) (tr : Trailer) (s : State), p < 8 → s.lnk.port.length = 8 → s.lupLow p = true → (s.lport p).deaf = false → PortIdle s p → tr.bnak = false → tr.pnak = false → tr.credit = 0 → (ctrlFrame 6 0 : LFrame).good tr = true → Does (.lnkCtrlRetrain p tr) s fun t => t.lstate p = 2 ∧ t.get Reg.LNK_Pp_RETRAINS_COUNT p = min (2 ^ 32 - 1) (s.get Reg.LNK_Pp_RETRAINS_COUNT p + 1)) ∧
  (∀ (s : State), s.responds 0x1E005C = true → Does .lnkCntClr s fun t => t.get Reg.LNK_NOROUTE_COUNT = 0 ∧ t.get Reg.LNK_Pp_RETRAINS_COUNT 3 = 0 ∧
    RegsOnly [Reg.LNK_LANE_BIP_COUNT, Reg.LNK_FLARE_DUP_COUNT, Reg.LNK_NOROUTE_COUNT, Reg.LNK_INGRESS_OFF_COUNT, Reg.LNK_DUAL_DUP_COUNT, Reg.LNK_DUAL_SKIP_COUNT, Reg.LNK_DUAL_NOENT_COUNT, Reg.LNK_DETACH_DISC_COUNT,
      Reg.LNK_Pp_REPLAY_COUNT, Reg.LNK_Pp_CRCERR_COUNT, Reg.LNK_Pp_TMISS_COUNT, Reg.LNK_Pp_OUTST_PEAK, Reg.LNK_Pp_RETRAINS_COUNT] s t)

/-- Routing, dual paths, flares, time words and low power: A DATA frame for this module opens or continues the pair of its origin and
its words wait for the ingress queue in DSEQ order, one for another module waits for the port its route names, and one without a route
is counted; a held DSEQ takes over at HOLD, missing ones are skipped, and idle entries are freed; the primary takes control back; a
new flare is counted, forwarded on the other ports and a repeated one is a duplicate; a TIME frame goes out every 2^TINT ref with the
local time, the echo and the lighthouse values; a received one measures the delay from the stamp it echoes and, with ET valid at the
partner, gives the port its offset; a missed one counts; and a port with low power at both ends sleeps, in answer to SLEEP, and wakes.
-/
def Obligations.LinkRoutingAndTime : Prop :=
  (∀ (p seq tspec w0 : Nat) (l : List Nat) (tr : Trailer) (s : State), p < 8 → s.lnk.port.length = 8 → s.lupLow p = true → (s.lport p).deaf = false → PortIdle s p → tr.bnak = false → tr.pnak = false → tr.credit = 0 → ({ ty := 1, seq := seq, tspec := tspec, body := (w0 :: l) } : LFrame).good tr = true → seq = (s.lport p).bulk.rx → (tspec.testBit 17 = true ∨ bits tspec 18 12 = s.moduleId) → tspec.testBit 9 = false → tspec.testBit 16 = false →
    (s.topo.ingress.getD p none).isSome = true → l ≠ [] → ((List.range 64).all fun i => (s.pair i).isNone) = true → s.lnk.pairs.length = 64 → Does (.lnkDataRx p seq tspec (w0 :: l) tr) s fun t =>
      (t.lport p).ingress.pkts = (s.lport p).ingress.pkts ++ [{ ty := 16, words := l.map fun w => (w, false), stream := bits tspec 10 6, since := s.dtRef }] ∧
      t.get Reg.LNK_DUAL_STATUS_VALID 0 0 = 1 ∧ t.get Reg.LNK_DUAL_STATUS_ORIGIN 0 0 = bits w0 52 12 ∧ t.get Reg.LNK_DUAL_STATUS_STREAM 0 0 = bits tspec 10 6 ∧ t.get Reg.LNK_DUAL_STATUS_H 0 0 = bits tspec 8 1 ∧
      t.get Reg.LNK_DUAL_STATUS_ACTIVE 0 0 = 0 ∧ t.get Reg.LNK_DUAL_DSEQ_DSEQ 0 0 = bits w0 36 16) ∧
  (∀ (p q seq tspec : Nat) (body : List Nat) (tr : Trailer) (s : State), p < 8 → s.lnk.port.length = 8 → s.lupLow p = true → (s.lport p).deaf = false → PortIdle s p → tr.bnak = false → tr.pnak = false → tr.credit = 0 → ({ ty := 1, seq := seq, tspec := tspec, body := body } : LFrame).good tr = true → seq = (s.lport p).bulk.rx → tspec.testBit 17 = false → bits tspec 18 12 ≠ s.moduleId →
    let r := bits (s.get Reg.LNK_ROUTE_PORTS (bits tspec 18 12 / 8)) (4 * (bits tspec 18 12 % 8)) 4
    ((7 < r ∨ s.lupLow r = false) → Does (.lnkDataRx p seq tspec body tr) s fun t => t.get Reg.LNK_NOROUTE_COUNT = min (2 ^ 32 - 1) (s.get Reg.LNK_NOROUTE_COUNT + 1) ∧ t.get Reg.LNK_INT_NOROUTE = 1 ∧ (t.lport p).rxBuf = (s.lport p).rxBuf) ∧
    (r = q → q < 8 → s.lupLow q = true → (s.lport q).credit = 0 → Does (.lnkDataRx p seq tspec body tr) s fun t =>
      (t.lport p).rxBuf = (s.lport p).rxBuf ++ [(q, { ty := 1, tspec := tspec, body := body })] ∧ t.get Reg.LNK_NOROUTE_COUNT = s.get Reg.LNK_NOROUTE_COUNT)) ∧
  (∀ (i w : Nat) (f : LFrame) (e : LPair) (s : State), i < 64 → s.lnk.pairs.length = 64 → s.lnk.port.length = 8 → s.pair i = some e → e.waitFrom = some w → e.held = [(e.next, 1 - e.active, f)] → e.active < 2 → e.restore = false → e.port < 8 → e.next < 2 ^ 16 → f.dseq = e.next → f.payload ≠ [] → Does (.dualHoldExpire i) s fun t =>
    t.dtRef = (s.advanceTo (w + s.get Reg.LNK_DUAL_CFG_HOLD)).dtRef ∧ t.get Reg.LNK_INT_FAILOVER = 1 ∧ t.get Reg.LNK_DUAL_STATUS_ACTIVE 0 i = 1 - e.active ∧ t.get Reg.LNK_DUAL_DSEQ_DSEQ 0 i = e.next ∧
    (t.lport e.port).ingress.pkts = (s.lport e.port).ingress.pkts ++ [{ ty := 16, words := f.payload, stream := f.stream, since := t.dtRef }] ∧ t.get Reg.LNK_DUAL_SKIP_COUNT = s.get Reg.LNK_DUAL_SKIP_COUNT) ∧
  (∀ (i w d : Nat) (f : LFrame) (e : LPair) (s : State), i < 64 → s.lnk.pairs.length = 64 → s.lnk.port.length = 8 → s.pair i = some e → e.waitFrom = some w → e.held = [(d, e.active, f)] → e.active < 2 → e.restore = false → e.port < 8 → e.next < 2 ^ 16 → d < 2 ^ 16 → f.dseq = d → d ≠ e.next →
    (d + 65536 - e.next) % 65536 < 32768 → Does (.dualHoldExpire i) s fun t =>
      t.get Reg.LNK_DUAL_SKIP_COUNT = min (2 ^ 32 - 1) (s.get Reg.LNK_DUAL_SKIP_COUNT + (d + 65536 - e.next) % 65536) ∧ t.get Reg.LNK_INT_DUAL_SKIP = 1 ∧ t.get Reg.LNK_DUAL_STATUS_ACTIVE 0 i = e.active ∧ t.get Reg.LNK_DUAL_DSEQ_DSEQ 0 i = d) ∧
  (∀ (i : Nat) (s : State), i < 64 → s.pair i = none → (Does (.dualHoldExpire i) s fun t => t = s) ∧ (Does (.dualPairExpire i) s fun t => t = s) ∧ (Does (.dualRestore i) s fun t => t = s)) ∧
  (∀ (i : Nat) (e : LPair) (s : State), i < 64 → s.lnk.pairs.length = 64 → s.pair i = some e → Does (.dualPairExpire i) s fun t =>
    t.pair i = none ∧ t.get Reg.LNK_DUAL_STATUS_VALID 0 i = 0 ∧ t.dtRef = (s.advanceTo (e.last + 2500000000)).dtRef ∧
    Only (Reg.LNK_DUAL_STATUS_VALID :: timeFields) s t { s.advanceTo (e.last + 2500000000) with regs := t.regs, lnk := { s.lnk with pairs := s.lnk.pairs.set i none } }) ∧
  (∀ (i p d w : Nat) (f : LFrame) (e : LPair) (s : State), i < 64 → s.lnk.pairs.length = 64 → s.lnk.port.length = 8 → s.pair i = some e → e.ports.getD 0 none = some p → e.whole = some (d, w) → e.active = 1 → s.lupLow p = true → e.next < 2 ^ 16 → e.port < 8 →
    (e.held = [] → Does (.dualRestore i) s fun t => t.dtRef = (s.advanceTo (max w (s.lport p).clean + 2500000000)).dtRef ∧ (t.pair i).map (fun x => (x.restore, x.active, x.next)) = some (true, 1, e.next)) ∧
    (e.held = [(e.next, 0, f)] → f.dseq = e.next → Does (.dualRestore i) s fun t => t.get Reg.LNK_INT_RESTORED = 1 ∧ t.get Reg.LNK_DUAL_STATUS_ACTIVE 0 i = 0 ∧ t.get Reg.LNK_DUAL_DSEQ_DSEQ 0 i = e.next)) ∧
  (∀ (p seq w0 w1 w2 : Nat) (tr : Trailer) (s : State), p < 8 → s.lnk.port.length = 8 → s.lupLow p = true → (s.lport p).deaf = false → PortIdle s p → tr.bnak = false → tr.pnak = false → tr.credit = 0 → ({ ty := 2, seq := seq, body := [w0, w1, w2] } : LFrame).good tr = true → seq = (s.lport p).pri.rx → (bits w0 62 2 = 3 ∨ bits w0 46 12 = s.moduleId) → Does (.lnkFlareRx p seq [w0, w1, w2] tr) s fun t =>
    t.trg = s.trg ∧ t.lnk.seen = s.lnk.seen ∧ t.get Reg.LNK_FLARE_DUP_COUNT = s.get Reg.LNK_FLARE_DUP_COUNT ∧ (t.lport p).pri.rx = (seq + 1) % 256) ∧
  (∀ (p seq w0 w1 w2 l : Nat) (tr : Trailer) (s : State), p < 8 → s.lnk.port.length = 8 → s.lupLow p = true → (s.lport p).deaf = false → PortIdle s p → tr.bnak = false → tr.pnak = false → tr.credit = 0 → ({ ty := 2, seq := seq, body := [w0, w1, w2] } : LFrame).good tr = true → seq = (s.lport p).pri.rx → bits w0 62 2 ≠ 3 → bits w0 46 12 ≠ s.moduleId → s.lnk.seen.get 0 (bits w0 46 12) = l + 1 → ¬ (1 ≤ (bits w0 30 16 + 65536 - l) % 65536 ∧ (bits w0 30 16 + 65536 - l) % 65536 ≤ 32768) →
    Does (.lnkFlareRx p seq [w0, w1, w2] tr) s fun t => t.trg = s.trg ∧ t.lnk.seen = s.lnk.seen ∧ t.get Reg.LNK_FLARE_DUP_COUNT = min (2 ^ 32 - 1) (s.get Reg.LNK_FLARE_DUP_COUNT + 1)) ∧
  (∀ (p q seq w0 w1 w2 : Nat) (tr : Trailer) (s : State), p < 8 → s.lnk.port.length = 8 → s.lupLow p = true → (s.lport p).deaf = false → PortIdle s p → tr.bnak = false → tr.pnak = false → tr.credit = 0 → ({ ty := 2, seq := seq, body := [w0, w1, w2] } : LFrame).good tr = true → seq = (s.lport p).pri.rx → bits w0 62 2 ≠ 3 → bits w0 46 12 ≠ s.moduleId → (s.lnk.seen.get 0 (bits w0 46 12) = 0 ∨ s.lnk.seen.get 0 (bits w0 46 12) = bits w0 30 16) →
    s.etValid = false → q < 8 → q ≠ p → s.lup q = true → PortIdle s q → Does (.lnkFlareRx p seq [w0, w1, w2] tr) s fun t =>
      t.trg = s.trg ∧ t.lnk.seen.get 0 (bits w0 46 12) = bits w0 30 16 + 1 ∧ t.get Reg.TRG_FLARE_IN_COUNT = min (2 ^ 32 - 1) (s.get Reg.TRG_FLARE_IN_COUNT + 1) ∧ t.get Reg.TRG_NOTIME_COUNT = min (2 ^ 32 - 1) (s.get Reg.TRG_NOTIME_COUNT + 1) ∧
      t.get Reg.TRG_INT_NOTIME = 1 ∧ (t.lport q).pri.kept.map (fun x => x.frame.ty) = [2]) ∧
  (∀ (p seq w0 w1 w2 : Nat) (tr : Trailer) (s : State), p < 8 → s.lnk.port.length = 8 → s.lupLow p = true → (s.lport p).deaf = false → PortIdle s p → tr.bnak = false → tr.pnak = false → tr.credit = 0 → ({ ty := 2, seq := seq, body := [w0, w1, w2] } : LFrame).good tr = true → seq = (s.lport p).pri.rx → bits w0 62 2 = 1 → bits w0 46 12 ≠ s.moduleId → s.lnk.seen.get 0 (bits w0 46 12) = 0 → s.etValid = true → Does (.lnkFlareRx p seq [w0, w1, w2] tr) s fun t =>
      t.lnk.seen.get 0 (bits w0 46 12) = bits w0 30 16 + 1 ∧ t.get Reg.TRG_FLARE_IN_COUNT = min (2 ^ 32 - 1) (s.get Reg.TRG_FLARE_IN_COUNT + 1) ∧ t.get Reg.TRG_NOTIME_COUNT = s.get Reg.TRG_NOTIME_COUNT) ∧
  (∀ (p sub : Nat) (s : State), p < 8 → s.lnk.port.length = 8 → (s.lupLow p = false → (Does (.timeFrameSend p sub) s fun t => t = s) ∧ (p ∉ s.tim.ltValid → Does (.timeFrameMiss p) s fun t => t = s)) ∧
    (s.lupLow p = true → sub < 4 * 2 ^ 16 → (s.lport p).tseq < 2 ^ 16 → s.get Reg.LNK_STATUS_LH_ID < 2 ^ 12 → s.get Reg.LNK_STATUS_LH_VALID < 2 → s.get Reg.LNK_STATUS_HOPS < 2 ^ 8 → s.get Reg.TIM_STATUS_SESSION_ID < 2 ^ 16 → s.get Reg.TIM_STATUS_FAULT < 2 → Does (.timeFrameSend p sub) s fun t =>
      let u := s.advanceTo ((s.lport p).timeAt + 2 ^ (min 20 (max 12 (s.get Reg.LNK_CTRL_TINT))))
      let w := (t.lport p).sent
      let dt := 4 * u.dtRef * 65536 + sub
      let at_ := if u.etValid then u.et * 65536 + sub else dt
      let ns := at_ / 65536
      t.dtRef = u.dtRef ∧ w.length = 6 ∧ bits (w.headD 0) 60 4 = 3 ∧ bits (w.getD 1 0) 16 48 = ns / 10 ^ 9 % 2 ^ 48 ∧ bits (w.getD 1 0) 0 16 = (s.lport p).tseq ∧ bits (w.getD 2 0) 34 30 = ns % 10 ^ 9 ∧
      bits (w.getD 2 0) 18 16 = at_ % 65536 ∧ bits (w.getD 2 0) 6 12 = s.get Reg.LNK_STATUS_LH_ID ∧ bits (w.getD 2 0) 5 1 = boolNat s.etValid ∧ bits (w.getD 2 0) 4 1 = s.get Reg.LNK_STATUS_LH_VALID ∧
      bits (w.getD 4 0) 56 8 = s.get Reg.LNK_STATUS_HOPS ∧ bits (w.getD 4 0) 40 16 = s.get Reg.TIM_STATUS_SESSION_ID ∧ bits (w.getD 4 0) 39 1 = s.get Reg.TIM_STATUS_FAULT ∧
      (t.lport p).tseq = ((s.lport p).tseq + 1) % 65536 ∧ (t.lport p).timeAt = t.dtRef ∧ (t.lport p).stamps.head? = some ((s.lport p).tseq, (dt : Int)) ∧ t = { u with lnk := { u.lnk with port := u.lnk.port.set p (t.lport p), lane := t.lnk.lane } })) ∧
  (∀ (p w0 w1 w2 w3 : Nat) (sub : Int) (tr : Trailer) (s : State), p < 8 → s.lnk.port.length = 8 → s.lupLow p = true → (s.lport p).deaf = false → PortIdle s p → tr.bnak = false → tr.pnak = false → tr.credit = 0 → ({ ty := 3, body := [w0, w1, w2, w3] } : LFrame).good tr = true → w1.testBit 5 = false → Does (.lnkTimeRx p sub [w0, w1, w2, w3] tr) s fun t =>
    let t4 : Int := 4 * s.dtRef * 65536 + sub
    let m := (s.lport p).stamps.find? fun e => e.1 == bits w2 48 16
    (t.lport p).echo = some (bits w0 0 16, t4) ∧ (t.lport p).heardAt = s.dtRef ∧ (t.lport p).misses = 0 ∧ (t.lport p).adv = some (w1.testBit 4, bits w3 56 8, bits w1 6 12) ∧ t.get Reg.LNK_Pp_PARTNER_HOPS p = bits w3 56 8 ∧
    (m = none → (t.lport p).delays = (s.lport p).delays ∧ t.get Reg.LNK_Pp_DELAY_DELAY p = s.get Reg.LNK_Pp_DELAY_DELAY p) ∧
    (m.isSome = true → (s.lport p).delays = [] →
      let d := (t4 - (m.getD (0, 0)).2 - (bits w2 0 48 : Nat)) * 1000 + toInt 24 (t.get Reg.LNK_Pp_ASYM_ASYM p) * 65536
      (t.lport p).delays = [d] ∧ t.get Reg.LNK_Pp_DELAY_DELAY p = trunc 32 ((2 * d + 131072) / 262144).toNat ∧ t.get Reg.LNK_Pp_ASYM_ASYM p = (match s.shadowOf Reg.LNK_Pp_ASYM_ASYM p 0 with | some v => trunc 24 v | none => s.get Reg.LNK_Pp_ASYM_ASYM p))) ∧
  (∀ (p w0 w1 w2 w3 : Nat) (sub : Int) (tr : Trailer) (s : State), p < 8 → s.lnk.port.length = 8 → s.lupLow p = true → (s.lport p).deaf = false → PortIdle s p → tr.bnak = false → tr.pnak = false → tr.credit = 0 → ({ ty := 3, body := [w0, w1, w2, w3] } : LFrame).good tr = true → w1.testBit 5 = true → ((s.lport p).stamps.find? fun e => e.1 == bits w2 48 16) = none → s.get Reg.TIM_STATUS_SESSION = 0 →
    Does (.lnkTimeRx p sub [w0, w1, w2, w3] tr) s fun t =>
      let tx : Int := ((bits w0 16 48 * 1000000000 + bits w1 34 30) * 65536 + bits w1 18 16 : Nat)
      let o := roundDiv (centred (etMod * 65536) (tx - (if s.etValid then (s.et : Int) * 65536 + sub else 4 * s.dtRef * 65536 + sub)) * 1000) 65536 + s.dIn p
      t.get Reg.TIM_LT_OFF_OFF 0 p = satInt 32 o ∧ p ∈ t.tim.ltValid) ∧
  (∀ (p : Nat) (s : State), p < 8 → s.lnk.port.length = 8 → (s.lupLow p = true ∨ p ∈ s.tim.ltValid) → s.get Reg.TIM_STATUS_SESSION = 0 → Does (.timeFrameMiss p) s fun t =>
    let i := 2 ^ (min 20 (max 12 (s.get Reg.LNK_CTRL_TINT)))
    t.get Reg.LNK_Pp_TMISS_COUNT p = min (2 ^ 32 - 1) (s.get Reg.LNK_Pp_TMISS_COUNT p + 1) ∧ (t.lport p).misses = (s.lport p).misses + 1 ∧ (t.lport p).heardAt = (s.lport p).heardAt + i ∧ t.dtRef = (s.advanceTo ((s.lport p).heardAt + i + i / 2)).dtRef ∧
    Only ([Reg.LNK_Pp_TMISS_COUNT, Reg.LNK_INT_CNT_SAT] ++ timeFields) s t { s.advanceTo ((s.lport p).heardAt + i + i / 2) with regs := t.regs, lnk := { s.lnk with port := t.lnk.port } }) ∧
  (∀ (p : Nat) (s : State), p < 8 → s.lnk.port.length = 8 →
    let both := s.lup p = true ∧ s.flag Reg.LNK_Pp_CFG_LP_EN p = true ∧ (s.get Reg.LNK_Pp_PARTNER_CAPS p).testBit 3 = true
    (¬ both → Does (.portSleep p) s fun t => t = s) ∧
    (both → Does (.portSleep p) s fun t => t.lstate p = 4 ∧ t.dtRef = (s.advanceTo ((s.lport p).dataAt + 65536)).dtRef ∧ (t.lport p).sent.getD 1 0 = 5 * 2 ^ 56 ∧ (t.lport p).waking = false ∧
      Only (Reg.LNK_Pp_STATUS_STATE :: timeFields) s t { s.advanceTo ((s.lport p).dataAt + 65536) with regs := t.regs, lnk := { s.lnk with port := s.lnk.port.set p (t.lport p), lane := t.lnk.lane } })) ∧
  (∀ (p : Nat) (tr : Trailer) (s : State), p < 8 → s.lnk.port.length = 8 → s.lupLow p = true → (s.lport p).deaf = false → PortIdle s p → tr.bnak = false → tr.pnak = false → tr.credit = 0 → (ctrlFrame 5 0).good tr = true →
    (s.lup p = true → s.flag Reg.LNK_Pp_CFG_LP_EN p = true → Does (.lnkCtrlSleep p tr) s fun t => t.lstate p = 4 ∧ (t.lport p).waking = false) ∧
    ((s.lup p = false ∨ s.flag Reg.LNK_Pp_CFG_LP_EN p = false) → Does (.lnkCtrlSleep p tr) s fun t => t.lstate p = s.lstate p)) ∧
  (∀ (p : Nat) (tr : Trailer) (s : State), p < 8 → s.lnk.port.length = 8 → s.lupLow p = true → (s.lport p).deaf = false → PortIdle s p → tr.bnak = false → tr.pnak = false → tr.credit = 0 → (ctrlFrame 4 0).good tr = true →
    (s.lstate p = 4 → Does (.lnkCtrlWake p tr) s fun t => (t.lport p).waking = true ∧ t.lstate p = 4) ∧
    (s.lup p = true → Does (.lnkCtrlWake p tr) s fun t => (t.lport p).waking = (s.lport p).waking ∧ t.lstate p = 3)) ∧
  (∀ (p : Nat) (s : State), p < 8 → s.lnk.port.length = 8 → ((s.lstate p ≠ 4 ∨ (s.lport p).waking = false) → Does (.portWakeComplete p) s fun t => t = s) ∧
    (s.lstate p = 4 → (s.lport p).waking = true → Does (.portWakeComplete p) s fun t => t.lstate p = 3 ∧ (t.lport p).waking = false))

/-- Function resets, the link and BAR4: The function shows its identity; PERST_N, hot reset, FLR, D3 and a lost link reset the
function and the HST block and nothing else of the module, a lost link as a fault that closes the session; the link trains again by
itself; BAR4 reaches buffer memory, answers all ones beyond it, discards writes there and counts both; and HST_CNT_CLR clears the
counters. -/
def Obligations.HostFunction : Prop :=
  (∀ (q h : Nat) (s : State), q < 64 → h < 8 → (Does .perstNAssert s fun t => t.hst = { link := false } ∧ t.get Reg.HST_Dq_STATUS_STATE q = 0 ∧ t.get Reg.HST_Dq_CTRL_EN q = 0 ∧ t.get Reg.HST_Hh_STATUS_STATE h = 0 ∧ t.get Reg.HST_STRM_POLICY_LOSSLESS 0 = 0 ∧ Only (regTable.filter fun f => hstIds.contains f.id) s t { s with regs := t.regs, hst := t.hst, cmp := { s.cmp with dec := t.cmp.dec } }) ∧
    (Does .hotReset s fun t => t.hst = { link := false } ∧ t.get Reg.HST_Dq_STATUS_STATE q = 0 ∧ t.get Reg.HST_Dq_CTRL_EN q = 0 ∧ t.get Reg.HST_Hh_STATUS_STATE h = 0 ∧ t.get Reg.HST_STRM_POLICY_LOSSLESS 0 = 0 ∧ Only (regTable.filter fun f => hstIds.contains f.id) s t { s with regs := t.regs, hst := t.hst, cmp := { s.cmp with dec := t.cmp.dec } }) ∧ (Does .functionLevelReset s fun t => t.hst = { link := s.hst.link } ∧ t.get Reg.HST_Dq_STATUS_STATE q = 0 ∧ t.get Reg.HST_Dq_CTRL_EN q = 0 ∧ t.get Reg.HST_Hh_STATUS_STATE h = 0 ∧ t.get Reg.HST_STRM_POLICY_LOSSLESS 0 = 0 ∧ Only (regTable.filter fun f => hstIds.contains f.id) s t { s with regs := t.regs, hst := t.hst, cmp := { s.cmp with dec := t.cmp.dec } }) ∧ (Does .d3Entry s fun t => t.hst = { link := s.hst.link } ∧ t.get Reg.HST_Dq_STATUS_STATE q = 0 ∧ t.get Reg.HST_Dq_CTRL_EN q = 0 ∧ t.get Reg.HST_Hh_STATUS_STATE h = 0 ∧ t.get Reg.HST_STRM_POLICY_LOSSLESS 0 = 0 ∧ Only (regTable.filter fun f => hstIds.contains f.id) s t { s with regs := t.regs, hst := t.hst, cmp := { s.cmp with dec := t.cmp.dec } })) ∧
  (∀ (s : State), s.pcieUp = true → s.configWord 0 = some (0x4102 * 2 ^ 16 + 0x1F3C) ∧ s.configWord 8 = some (0x118000 * 2 ^ 8 + bits idcode 28 4) ∧ s.configWord 0x2C = some (1 * 2 ^ 16 + 0x1F3C) ∧ (s.configWord 0x3C).map (fun w => bits w 8 8) = some 0) ∧
  (∀ (q : Nat) (s : State), q < 64 → (s.hst.link = false → Does .pcieLinkDown s fun t => t = s) ∧
    (s.hst.link = true → Does .pcieLinkDown s fun t => t.hst = {} ∧ t.get Reg.HST_Dq_STATUS_STATE q = 0 ∧ t.get Reg.GEN_SESS_STATUS_STATE = (if s.get Reg.GEN_SESS_STATUS_STATE = 2 then 0 else s.get Reg.GEN_SESS_STATUS_STATE) ∧
      (s.flt.under = none → t.flt.under = some { dt := s.dtRef, code := 0xE, sev := 2, src := 0 }) ∧ t.mem = s.mem ∧ t.dtRef = s.dtRef ∧ t.evt = s.evt)) ∧
  (∀ (speed width : Nat) (s : State), 1 ≤ speed → speed ≤ 5 → (width = 1 ∨ width = 2 ∨ width = 4 ∨ width = 8 ∨ width = 16) → ({ s with hst := { s.hst with link := true } } : State).pcieUp = true → Does (.pcieLinkUp speed width) s fun t =>
    t.get Reg.HST_STATUS_SPEED = (if s.sys.phase = .pilot then 1 else speed) ∧ t.get Reg.HST_STATUS_WIDTH = (if s.sys.phase = .pilot then 1 else width) ∧ Only [Reg.HST_STATUS_SPEED, Reg.HST_STATUS_WIDTH] s t
      { s with regs := t.regs, hst := { s.hst with link := true, dq := s.hst.dq.map fun r => { r with tlp := s.dtRef }, hq := s.hst.hq.map fun r => { r with tlp := s.dtRef } } }) ∧
  (∀ (off n : Nat) (s : State), off + n ≤ barSize 4 → let a := s.get Reg.HST_BAR4_BASE_BASE * 16777216 + off
    (s.bar4Up = false → Does (.bar4Read off n) s fun t => t = s) ∧
    (s.bar4Up = true → s.memCap < a + n → Does (.bar4Read off n) s fun t => t.rdata = List.replicate n 255 ∧ t.get Reg.HST_BAR4_OOR_COUNT = min (2 ^ 32 - 1) (s.get Reg.HST_BAR4_OOR_COUNT + 1) ∧ t.get Reg.HST_INT_BAR4_OOR = 1 ∧
      Only [Reg.HST_BAR4_OOR_COUNT, Reg.HST_INT_BAR4_OOR, Reg.HST_INT_CNT_SAT] s t { s with regs := t.regs, rdata := t.rdata }) ∧
    (s.bar4Up = true → a + n ≤ s.memCap → s.ram.err = [] → Does (.bar4Read off n) s fun t => t.mem = s.mem ∧ t.ram = s.ram ∧
      t.rdata = (List.range n).map (fun i => if s.ram.valid.get false ((a + i) / 512) then (memGet s.mem (a + i)).toNat else 0) ∧ Only [Reg.MEM_ZREAD_COUNT, Reg.MEM_INT_CNT_SAT] s t { s with regs := t.regs, rdata := t.rdata })) ∧
  (∀ (off v b : Nat) (s : State), off + 8 ≤ barSize 4 → let a := s.get Reg.HST_BAR4_BASE_BASE * 16777216 + off
    (s.bar4Up = true → s.memCap < a + 8 → Does (.bar4Write off (leBytesN 8 v)) s fun t => t.get Reg.HST_BAR4_OOR_COUNT = min (2 ^ 32 - 1) (s.get Reg.HST_BAR4_OOR_COUNT + 1) ∧ t.get Reg.HST_INT_BAR4_OOR = 1 ∧
      RegsOnly [Reg.HST_BAR4_OOR_COUNT, Reg.HST_INT_BAR4_OOR, Reg.HST_INT_CNT_SAT] s t) ∧
    (s.bar4Up = true → a % 8 = 0 → a + 8 ≤ s.memCap → s.get Reg.TRG_CTRL_RING_EN = 0 → s.frm.burst.tmpl = none → Memory.wf s.mem → (s.ram.trk.all fun x => x.isNone) = true → Does (.bar4Write off (leBytesN 8 v)) s fun t =>
      memWord t.mem (a / 8) = v % 2 ^ 64 ∧ (b < a ∨ a + 8 ≤ b → memGet t.mem b = memGet s.mem b) ∧ t.ram.valid.get false (a / 512) = true ∧ t = { s with mem := t.mem, ram := t.ram })) ∧
  (∀ (q : Nat) (s : State), q < 64 → s.responds 0x1F0078 = true → Does .hstCntClr s fun t => t.get Reg.HST_BADACC_COUNT = 0 ∧ t.get Reg.HST_Dq_BUFS_COUNT q = 0 ∧
    RegsOnly [Reg.HST_BAR4_OOR_COUNT, Reg.HST_BADACC_COUNT, Reg.HST_STRM_DISC_COUNT, Reg.HST_STRM_DITEMS_COUNT, Reg.HST_STRM_LEVEL_PEAK, Reg.HST_Dq_BUFS_COUNT, Reg.HST_Hh_BUFS_COUNT, Reg.HST_Dq_STARVE_COUNT] s t)

/-- Queues, doorbells and descriptors: EN rises with every index 0 or is refused with its code; EN falls to STOPPING, which flushes
what is posted; a doorbell that breaks the index rules, a failed descriptor fetch and a lack of progress put a running queue into
ERROR, and other doorbells and fetches are taken; the moderation conditions send messages once per arming. -/
def Obligations.HostQueues : Prop :=
  (∀ (q val : Nat) (s : State), q < 64 → val.testBit 0 = true → s.hst.dq.length = 64 → s.responds (0x1F0100 + 0x40 * q) = true → s.get Reg.HST_Dq_CTRL_EN q = 0 → s.sys.phase = .running →
    let sz := bits val 4 4
    let e := if s.get Reg.HST_Dq_STATUS_STATE q = 2 then 7 else if sz < 4 ∨ 12 < sz then 1 else if s.get Reg.HST_Dq_DRING_ADDR q % 64 ≠ 0 ∨ s.get Reg.HST_Dq_CRING_ADDR q % 64 ≠ 0 then 2 else 0
    (e ≠ 0 → Does (.queueEnable false q val) s fun t => t = (s.put Reg.HST_INT_REFUSED 1).put Reg.HST_Dq_STATUS_ERR e q) ∧
    (e = 0 → Does (.queueEnable false q val) s fun t => t.get Reg.HST_Dq_STATUS_STATE q = 1 ∧ t.get Reg.HST_Dq_CTRL_EN q = 1 ∧ t.get Reg.HST_Dq_STATUS_ERR q = 0 ∧ t.get Reg.HST_Dq_STATUS_HEAD q = 0 ∧ t.get Reg.HST_Dq_DB_TAIL q = 0 ∧ t.get Reg.HST_Dq_DB_CPL_HEAD q = 0 ∧
      (t.ring false q).cpl = 0 ∧ (t.ring false q).fetch = 0 ∧ (t.ring false q).descs = [] ∧ t.get Reg.HST_Dq_CTRL_LOG2SZ q = sz ∧ t.get Reg.HST_Dq_CTRL_FMT q = bits val 1 1 ∧ t.get Reg.HST_Dq_CTRL_CPLINT_EN q = bits val 8 1 ∧
      Only [Reg.HST_Dq_STATUS_STATE, Reg.HST_Dq_CTRL_EN, Reg.HST_Dq_STATUS_ERR, Reg.HST_Dq_STATUS_HEAD, Reg.HST_Dq_DB_TAIL, Reg.HST_Dq_DB_CPL_HEAD, Reg.HST_Dq_CTRL_LOG2SZ, Reg.HST_Dq_CTRL_FMT, Reg.HST_Dq_CTRL_CPLINT_EN] s t
        { s with regs := t.regs, hst := { s.hst with dq := s.hst.dq.set q (t.ring false q) } })) ∧
  (∀ (h val : Nat) (s : State), h < 8 → val.testBit 0 = true → s.responds (0x1F1100 + 0x40 * h) = true → s.get Reg.HST_Hh_CTRL_EN h = 0 → s.sys.phase = .running → s.get Reg.HST_Hh_STATUS_STATE h = 0 → 4 ≤ bits val 4 4 → bits val 4 4 ≤ 12 →
    s.get Reg.HST_Hh_DRING_ADDR h % 64 = 0 → s.get Reg.HST_Hh_CRING_ADDR h % 64 = 0 →
    ((s.topo.role.getD h (3, 0, false)).1 = 3 → Does (.queueEnable true h val) s fun t => t = (s.put Reg.HST_INT_REFUSED 1).put Reg.HST_Hh_STATUS_ERR 3 h) ∧
    ((s.topo.role.getD h (3, 0, false)).1 ≠ 3 → Does (.queueEnable true h val) s fun t => t.get Reg.HST_Hh_STATUS_STATE h = 1 ∧ t.get Reg.HST_Hh_CTRL_EN h = 1 ∧ t.get Reg.HST_Hh_STATUS_ERR h = 0)) ∧
  (∀ (q val : Nat) (tags : List Nat) (s : State), q < 64 → val.testBit 0 = false → s.responds (0x1F0100 + 0x40 * q) = true → s.hst.dq.length = 64 → s.hst.buf.length = 64 → s.get Reg.HST_Dq_CTRL_EN q = 1 →
    (s.get Reg.HST_Dq_STATUS_STATE q = 3 → Does (.queueDisable false q val tags) s fun t => t.get Reg.HST_Dq_STATUS_STATE q = 0 ∧ t.get Reg.HST_Dq_CTRL_EN q = 0 ∧ t.hst.out = s.hst.out) ∧
    (s.get Reg.HST_Dq_STATUS_STATE q = 1 → s.hst.buf.getD q none = none → Does (.queueDisable false q val tags) s fun t => t.get Reg.HST_Dq_STATUS_STATE q = 2 ∧ t.get Reg.HST_Dq_CTRL_EN q = 0 ∧ t.hst.out = [] ∧ t.evt = s.evt)) ∧
  (∀ (q : Nat) (tags : List Nat) (s : State), q < 64 → s.hst.dq.length = 64 → (s.get Reg.HST_Dq_STATUS_STATE q ≠ 2 → Does (.queueStopped q tags) s fun t => t = s) ∧
    (s.get Reg.HST_Dq_STATUS_STATE q = 2 → Does (.queueStopped q tags) s fun t => t.get Reg.HST_Dq_STATUS_STATE q = 0 ∧ (t.ring false q).descs = [] ∧ t.evt = s.evt ∧
      t.hst.out.length = (s.ring false q).descs.length + s.qposted false q)) ∧
  (∀ (q val : Nat) (masked : List Nat) (s : State), q < 64 → s.hst.dq.length = 64 → s.pcieUp = true →
    let n := 2 ^ s.get Reg.HST_Dq_CTRL_LOG2SZ q
    let ok := (val % 65536 + 65536 - s.get Reg.HST_Dq_DB_CPL_HEAD q % 65536) % 65536 ≤ n
    (s.get Reg.HST_Dq_STATUS_STATE q ≠ 1 → (Does (.doorbellTail false q val) s fun t => t = s) ∧ (Does (.doorbellCplHead false q val masked) s fun t => t = s)) ∧
    (s.get Reg.HST_Dq_STATUS_STATE q = 1 → idxDiff (s.ring false q).cpl (s.get Reg.HST_Dq_DB_CPL_HEAD q) ≤ n → ok → Does (.doorbellTail false q val) s fun t =>
      t = (s.put Reg.HST_Dq_DB_TAIL (val % 65536) q).setQRing false q { s.ring false q with post := if s.qholds false q then (s.ring false q).post else s.dtRef }) ∧
    (s.get Reg.HST_Dq_STATUS_STATE q = 1 → ¬ ok → Does (.doorbellTail false q val) s fun t => t.get Reg.HST_Dq_STATUS_STATE q = 3 ∧ t.get Reg.HST_Dq_STATUS_ERR q = 4 ∧ t.get Reg.HST_INT_QERR = 1)) ∧
  (∀ (q val : Nat) (masked : List Nat) (s : State), q < 64 → s.hst.dq.length = 64 → s.pcieUp = true → s.get Reg.HST_Dq_STATUS_STATE q = 1 → val < 2 ^ 16 → s.get Reg.HST_Dq_DB_TAIL q < 2 ^ 16 → (s.ring false q).cpl < 2 ^ 16 →
    let n := 2 ^ s.get Reg.HST_Dq_CTRL_LOG2SZ q
    let room := (s.get Reg.HST_Dq_DB_TAIL q + 65536 - val) % 65536 ≤ n ∧ ((s.ring false q).cpl + 65536 - val) % 65536 ≤ n
    (room → Does (.doorbellCplHead false q val masked) s fun t => t.get Reg.HST_Dq_DB_CPL_HEAD q = val ∧ t.get Reg.HST_Dq_STATUS_STATE q = 1 ∧ (t.ring false q).armed = (s.ring false q).armed ∧ t.hst.msg = s.hst.msg) ∧
    (¬ room → Does (.doorbellCplHead false q val masked) s fun t => t.get Reg.HST_Dq_STATUS_STATE q = 3 ∧ t.get Reg.HST_Dq_STATUS_ERR q = 4 ∧ t.get Reg.HST_INT_QERR = 1)) ∧
  (∀ (q : Nat) (w0 w1 : Nat) (s : State), q < 64 → s.hst.dq.length = 64 → w0 < 2 ^ 64 → w1 < 2 ^ 64 → (s.get Reg.HST_Dq_STATUS_STATE q ≠ 1 ∨ s.qposted false q = 0 → Does (.descriptorFetchDone false q [w0, w1] true) s fun t => t = s) ∧
    (s.get Reg.HST_Dq_STATUS_STATE q = 1 → 0 < s.qposted false q → Does (.descriptorFetchDone false q [w0, w1] false) s fun t => t.get Reg.HST_Dq_STATUS_STATE q = 3 ∧ t.get Reg.HST_Dq_STATUS_ERR q = 5 ∧ t.get Reg.HST_INT_QERR = 1) ∧
    (s.get Reg.HST_Dq_STATUS_STATE q = 1 → 0 < s.qposted false q → s.get Reg.HST_Dq_CTRL_FMT q = 0 → w0 % 64 = 0 → 64 ≤ w1 % 2 ^ 24 → w1 % 64 = 0 → bits w1 24 8 = 0 → bits w1 48 16 = 0 → (s.ring false q).descs = [] → Does (.descriptorFetchDone false q [w0, w1] true) s fun t =>
      (t.ring false q).descs = [{ idx := (s.ring false q).fetch, addr := w0, len := w1 % 2 ^ 24, tag := bits w1 32 16 }] ∧ (t.ring false q).fetch = ((s.ring false q).fetch + 1) % 65536 ∧ (t.ring false q).tlp = s.dtRef) ∧
    (s.get Reg.HST_Dq_STATUS_STATE q = 1 → 0 < s.qposted false q → w0 % 8 ≠ 0 → (s.ring false q).descs = [] → s.hst.buf.getD q none = none → (s.ring false q).cpl < 2 ^ 16 → Does (.descriptorFetchDone false q [w0, w1] true) s fun t =>
      (t.ring false q).descs = [] ∧ t.hst.out.length = 1 ∧ (t.ring false q).cpl = ((s.ring false q).cpl + 1) % 65536 ∧ t.get Reg.HST_Dq_STATUS_HEAD q = ((s.ring false q).fetch + 1) % 65536 ∧
      (∀ e ∈ t.hst.out, bits e.2.2 24 4 = 2 ∧ bits e.2.2 0 24 = 0))) ∧
  (∀ (q : Nat) (s : State), q < 64 → s.hst.dq.length = 64 → let ms := s.get Reg.HST_Dq_PROG_MS q
    ((ms = 0 ∨ s.get Reg.HST_Dq_STATUS_STATE q ≠ 1 ∨ s.qwork false q = false) → Does (.queueProgressTimeout false q) s fun t => t = s) ∧
    (ms ≠ 0 → s.get Reg.HST_Dq_STATUS_STATE q = 1 → s.qwork false q = true → Does (.queueProgressTimeout false q) s fun t => t.get Reg.HST_Dq_STATUS_STATE q = 3 ∧ t.get Reg.HST_Dq_STATUS_ERR q = 6 ∧ t.get Reg.HST_INT_QERR = 1 ∧
      t.dtRef = (s.advanceTo ((s.ring false q).tlp + 250000 * max 30 ms)).dtRef)) ∧
  (∀ (q : Nat) (masked : List Nat) (s : State), q < 64 → s.hst.dq.length = 64 → s.sys.phase ≠ .pilot → s.hst.pba = [] →
    let n := idxDiff (s.ring false q).cpl (s.get Reg.HST_Dq_DB_CPL_HEAD q)
    let on := (s.ring false q).armed = true ∧ s.get Reg.HST_Dq_CTRL_CPLINT_EN q = 1
    let v := s.get Reg.HST_IVEC_VEC 0 q
    (on → max 1 (s.get Reg.HST_Dq_MOD_CNT q) ≤ n → v ∉ masked → Does (.irqMessage q masked) s fun t => t.hst.msg = some v ∧ (t.ring false q).armed = false ∧ t.regs = s.regs) ∧
    (on → max 1 (s.get Reg.HST_Dq_MOD_CNT q) ≤ n → v ∈ masked → Does (.irqMessage q masked) s fun t => t.hst.msg = s.hst.msg ∧ t.hst.pba = [v] ∧ (t.ring false q).armed = false) ∧
    (¬ on → Does (.irqMessage q masked) s fun t => t = s) ∧
    (on → s.get Reg.HST_Dq_MOD_TIMER q ≠ 0 → (s.ring false q).pend ≠ [] → v ∉ masked → Does (.queueIrqTimer false q masked) s fun t => t.hst.msg = some v ∧ (t.ring false q).armed = false ∧
      t.dtRef = (s.advanceTo (max (s.ring false q).armAt ((s.ring false q).pend.headD 0) + 250 * s.get Reg.HST_Dq_MOD_TIMER q)).dtRef)) ∧
  (∀ (masked : List Nat) (s : State), s.responds 0x1F0060 = true → s.sys.phase ≠ .pilot →
    (s.irqTrue 84 = true → s.get Reg.HST_IVEC_VEC 0 84 ∉ masked → Does (.hostIrqRearm 2 (2 ^ 20) masked) s fun t => t.hst.msg = some (s.get Reg.HST_IVEC_VEC 0 84) ∧ 84 ∈ t.hst.disarmed) ∧
    (s.irqTrue 84 = false → Does (.hostIrqRearm 2 (2 ^ 20) masked) s fun t => t.hst.msg = s.hst.msg ∧ t.hst.disarmed = s.hst.disarmed.filter (· != 84)))

/-- Buffers and host-to-device frames: The words of a stream fill the buffers of its queue as 64-byte entries and a buffer that is
full or times out completes with its layout; a host-to-device frame is released at once, held for its launch time, late after it or
refused too far ahead; one of a bad length or whose read failed is not delivered; its completion carries its status; a held frame goes
at its time; and a block of a compressed frame that fails is read again once. -/
def Obligations.HostTransfers : Prop :=
  (∀ (q n : Nat) (bad : List Nat) (s : State), q < 64 → s.get Reg.HST_Dq_STATUS_STATE q ≠ 1 → Does (.queuePacketWrite q n bad) s fun t => t = s) ∧
  (∀ (p : SPkt) (d : QDesc) (w : Nat) (s : State), s.hst.dq.length = 64 → s.hst.buf.length = 64 → s.get Reg.HST_Dq_STATUS_STATE 5 = 1 → s.get Reg.HST_Dq_CTRL_FMT 5 = 0 → s.topo.sink = hstSinks → s.topo.cmpOut = [] → s.topo.role = [] → s.topo.ingress = [] →
    (s.strm 5).fifo = { pkts := [p] } → (s.strm 5).wait = [] → p.words = [(w, false)] → p.ty < 4 → p.ctxEnd = false → s.hst.buf.getD 5 none = none → (s.ring false 5).descs = [d] → 64 ≤ d.len → Does (.queuePacketWrite 5 1 []) s fun t =>
      t.hst.buf.getD 5 none = some { desc := d, words := 1, entry := [(w, false)], seq := some (bits w 20 16), stream := 5, since := s.dtRef } ∧ (t.ring false 5).descs = [] ∧ (t.ring false 5).tlp = s.dtRef ∧ t.hst.out = [] ∧ (t.strm 5).fifo.pkts = []) ∧
  (∀ (q : Nat) (b : QBuf) (s : State), q < 64 → s.hst.dq.length = 64 → s.hst.buf.length = 64 → s.hst.buf.getD q none = some b → s.get Reg.HST_Dq_STATUS_STATE q = 1 → s.get Reg.HST_Dq_CLOSE_TIME q ≠ 0 → s.get Reg.HST_Dq_CTRL_FMT q = 0 → (s.ring false q).descs = [] →
    1 ≤ b.words → b.words < 2 ^ 20 → b.entry.length % 8 ≠ 0 → b.entry.length = b.words % 8 → (b.entry.all fun x => !x.2) = true → b.stream < 64 → b.desc.idx < 2 ^ 16 → b.desc.tag < 2 ^ 16 → b.seq = none → Does (.bufferCloseTimeout q) s fun t =>
      let u := s.advanceTo (b.since + 250 * s.get Reg.HST_Dq_CLOSE_TIME q)
      let n := 2 ^ s.get Reg.HST_Dq_CTRL_LOG2SZ q
      let c := (s.ring false q).cpl
      let e := (t.hst.out.getD 1 (0, 0, 0)).2.2
      t.dtRef = u.dtRef ∧ t.hst.buf.getD q none = none ∧ t.hst.out.length = 2 ∧ (t.hst.out.getD 0 (0, 0, 0)).1 = b.desc.addr + 8 * (b.words - b.entry.length) ∧ (t.hst.out.getD 0 (0, 0, 0)).2.1 = 64 ∧
      (t.hst.out.getD 1 (0, 0, 0)).1 = s.get Reg.HST_Dq_CRING_ADDR q + c % n * 32 ∧ (t.hst.out.getD 1 (0, 0, 0)).2.1 = 32 ∧
      bits e 0 24 = 8 * b.words ∧ bits e 24 4 = 0 ∧ bits e 28 1 = 0 ∧ bits e 31 1 = 1 - c / n % 2 ∧ bits e 32 16 = b.desc.idx ∧ bits e 48 16 = b.desc.tag ∧ bits e 64 64 = 2 ^ (8 * b.words % 64) - 1 ∧ bits e 160 1 = 0 ∧ bits e 161 6 = b.stream ∧ bits e 192 64 = (b.since + 250 * s.get Reg.HST_Dq_CLOSE_TIME q) % 2 ^ 64 ∧
      (t.ring false q).cpl = (c + 1) % 65536 ∧ t.get Reg.HST_Dq_STATUS_HEAD q = (b.desc.idx + 1) % 65536 ∧ t.get Reg.HST_Dq_BUFS_COUNT q = min (2 ^ 32 - 1) (s.get Reg.HST_Dq_BUFS_COUNT q + 1)) ∧
  (∀ (h : Nat) (data bad : List Nat) (d : QDesc) (s : State), h < 8 → s.hst.hq.length = 8 → s.hst.cur.length = 8 → s.sys.phase = .running → s.get Reg.HST_Hh_STATUS_STATE h = 1 → s.hframe h = none → (s.ring true h).descs = [d] → s.topo.role.getD h (3, 0, false) = (2, 1, false) →
    ((d.len = 0 ∨ d.len % 8 ≠ 0 ∨ 32768 < d.len) → Does (.h2dFrameStart h data bad true) s fun t => (t.hframe h).map (fun x => (x.status, x.released)) = some (some 4, none) ∧ t.hst.toPort = s.hst.toPort) ∧
    (0 < d.len → d.len % 8 = 0 → d.len ≤ 32768 → Does (.h2dFrameStart h data bad false) s fun t => (t.hframe h).map (fun x => (x.status, x.released)) = some (some 3, none) ∧ t.hst.toPort = s.hst.toPort) ∧
    (0 < d.len → d.len % 8 = 0 → d.len ≤ 32768 → d.len ≤ data.length → d.launch = none → (s.dec h) = none → Does (.h2dFrameStart h data bad true) s fun t =>
      (t.hframe h).map (fun x => (x.status, x.released, x.late, x.done)) = some (none, some s.dtRef, false, true) ∧ t.get Reg.HST_Hh_STATUS_HELD h = 0 ∧ (t.ring true h).descs = [])) ∧
  (∀ (h sec ns : Nat) (x : HFrame) (s : State), h < 8 → s.hst.cur.length = 8 → s.sys.phase = .running → s.get Reg.HST_Hh_STATUS_STATE h = 1 → s.hframe h = some x → x.desc.launch = some (sec, ns) → x.released = none → x.status = none → x.done = false → s.dec h = none → s.topo.role.getD h (3, 0, false) = (2, 1, false) →
    let at_ := sec * 10 ^ 9 + ns
    let far := (s.et / 10 ^ 9 + s.get Reg.TIM_LAUNCH_MAX_AHEAD) * 10 ^ 9 + s.et % 10 ^ 9
    (s.etValid = false → Does (.frameLaunch h) s fun t => t = s.put Reg.HST_Hh_STATUS_HELD 1 h) ∧
    (s.etValid = true → at_ < s.et → Does (.frameLaunch h) s fun t => (t.hframe h).map (fun x => (x.late, x.released, x.done)) = some (true, some s.dtRef, true) ∧ t.get Reg.TIM_LATE_COUNT = min (2 ^ 32 - 1) (s.get Reg.TIM_LATE_COUNT + 1) ∧ t.get Reg.TIM_INT_LATE = 1 ∧ t.get Reg.HST_Hh_STATUS_HELD h = 0) ∧
    (s.etValid = true → s.et ≤ at_ → far < at_ → Does (.frameLaunch h) s fun t => (t.hframe h).map (fun x => (x.status, x.released)) = some (some 2, none) ∧ t.get Reg.TIM_TOOFAR_COUNT = min (2 ^ 32 - 1) (s.get Reg.TIM_TOOFAR_COUNT + 1)) ∧
    (s.etValid = true → s.et ≤ at_ → at_ ≤ far → Does (.frameLaunch h) s fun t => (t.hframe h).map (fun x => (x.late, x.released, x.done)) = some (false, some t.dtRef, true) ∧ t.dtRef = (s.advanceTo (s.dtRef + (at_ - s.et + 2) / 4)).dtRef ∧ t.get Reg.HST_Hh_STATUS_HELD h = 0)) ∧
  (∀ (h : Nat) (x : HFrame) (s : State), h < 8 → s.hst.hq.length = 8 → s.hst.cur.length = 8 → s.get Reg.HST_Hh_STATUS_STATE h = 1 → s.hframe h = some x → x.desc.len < 2 ^ 24 → x.desc.idx < 2 ^ 16 → x.desc.tag < 2 ^ 16 → (x.status.getD 0) < 16 → x.status ≠ none → Does (.h2dFrameDone h) s fun t =>
    let n := 2 ^ s.get Reg.HST_Hh_CTRL_LOG2SZ h
    let c := (s.ring true h).cpl
    let e := t.hst.out.getD 0 (0, 0, 0)
    t.hframe h = none ∧ t.hst.out.length = 1 ∧ e.1 = s.get Reg.HST_Hh_CRING_ADDR h + c % n * 16 ∧ e.2.1 = 16 ∧ bits e.2.2 0 24 = 0 ∧ some (bits e.2.2 24 4) = x.status ∧ bits e.2.2 28 3 = 0 ∧ bits e.2.2 31 1 = 1 - c / n % 2 ∧ bits e.2.2 32 16 = x.desc.idx ∧ bits e.2.2 48 16 = x.desc.tag ∧
    (t.ring true h).cpl = (c + 1) % 65536 ∧ t.get Reg.HST_Hh_STATUS_HEAD h = (x.desc.idx + 1) % 65536 ∧ t.get Reg.HST_Hh_BUFS_COUNT h = min (2 ^ 32 - 1) (s.get Reg.HST_Hh_BUFS_COUNT h + 1)) ∧
  (∀ (h : Nat) (hit : Bool) (s : State), h < 8 → (s.dec h = none → Does (.decompBlock h hit) s fun t => t = s)) ∧
  (∀ (h : Nat) (d : Decomp) (s : State), h < 8 → s.dec h = some d → d.left ≠ [] → d.failed = false → d.again = false → Does (.decompBlock h true) s fun t =>
    (t.dec h).map (fun x => (x.again, x.failed, x.left, x.out)) = some (true, false, d.left, d.out) ∧ t.get Reg.CMP_DEC_RETRY_COUNT = min (2 ^ 32 - 1) (s.get Reg.CMP_DEC_RETRY_COUNT + 1) ∧ t.get Reg.CMP_DEC_ERR_COUNT = s.get Reg.CMP_DEC_ERR_COUNT) ∧
  (∀ (h ctx b : Nat) (rst psn : Bool) (l : List Nat) (dict : Dict) (ws rest : List Nat) (d : Decomp) (x : HFrame) (s : State), h < 8 → s.hframe h = some x → x.released = none ∨ rest ≠ [] → s.dec h = some d → d.failed = false → d.bseq = some b → b < 65536 → ctx < 64 →
    l ≠ [] → l.length ≤ 8192 → (∀ w ∈ l, w < 2 ^ 64) → dictLegal d.dict →
    (d.left = (expandedBlock ctx rst b (l.map fun w => (w, psn))).map (·.1) ++ rest → Does (.decompBlock h false) s fun t => t = s.setDec h (some { d with left := rest, out := d.out ++ l.map (fun w => (w, false)), dict := if rst then [] else d.dict, bseq := some (b + 1), again := false })) ∧
    (codedBlock ctx rst b (if rst then [] else d.dict) l = some (ws, dict) → d.left = ws ++ rest → Does (.decompBlock h false) s fun t => t = s.setDec h (some { d with left := rest, out := d.out ++ l.map (fun w => (w, false)), dict := dict, bseq := some (b + 1), again := false }))) ∧
  (∀ (a b k : Nat) (s : State), s.topo.sink = hstSinks → s.topo.cmpOut = [] → s.topo.role = [] → s.topo.ingress = [] → (s.strm 5).fifo = {} → (s.strm 5).wait = [] → (s.strm 5).opn = none → (s.strm 5).ovr = some (a, b, k) → a ≤ b → b < a + 2 ^ 32 - 1 → Does (.streamOverrunGap 5) s fun t =>
    (t.strm 5).fifo.pkts.map (fun p => (p.ty, p.words)) = [(4, [(pktHeader 4 5 1 (s.get Reg.EVT_STRM_STATn_NEXT_SEQ 5) (s.strm 5).restart, false), (a, false), ((b - a + 1) * 2 ^ 32 + 9 * 2 ^ 28 + 3 * 2 ^ 25 + min 255 k * 2 ^ 16, false)])] ∧
    (t.strm 5).ovr = none ∧ (t.strm 5).wait = [] ∧ t.mem = s.mem ∧ t.dtRef = s.dtRef ∧ t.get Reg.HST_STRM_DISC_COUNT 0 5 = s.get Reg.HST_STRM_DISC_COUNT 0 5)

/-- What an engine sends decodes to what it took: A block in codes decodes, with the dictionary the engine held, to its words, its
length and the dictionary the engine holds afterwards; an expanded block decodes to its words, leaves the dictionary and empties it
with RST; the dictionary stays one that R452 admits; and a state in the spill layout is read back as the same state. -/
def Obligations.CompressionRoundTrip : Prop :=
  (∀ (ctx bseq : Nat) (rst : Bool) (d d' : Dict) (l ws : List Nat), ctx < 64 → bseq < 65536 → dictLegal d → l ≠ [] → l.length ≤ 8192 → (∀ w ∈ l, w < 2 ^ 64) → codedBlock ctx rst bseq (if rst then [] else d) l = some (ws, d') →
    (ws.length < l.length + 2 ∧ decodeBlock (some bseq) d ws = (ws.length, .ok (l, d')) ∧ dictLegal d' ∧ (rst = true → decodeBlock none d ws = (ws.length, .ok (l, d'))))) ∧
  (∀ (ctx bseq : Nat) (rst : Bool) (d : Dict) (l : List (Nat × Bool)), ctx < 64 → bseq < 65536 → l ≠ [] → l.length ≤ 8192 → (∀ w ∈ l, w.1 < 2 ^ 64) →
    (decodeBlock (some bseq) d ((expandedBlock ctx rst bseq l).map (·.1)) = (l.length + 2, .ok (l.map (·.1), if rst then [] else d)) ∧ ((expandedBlock ctx rst bseq l).drop 1).take l.length = l ∧ bit (((expandedBlock ctx rst bseq l).headD (0, false)).1) 31 = l.any (·.2))) ∧
  (∀ (bseq : Nat) (rst : Bool) (d : Dict), bseq < 65536 → dictLegal d → ((stateWords d bseq rst).length = 4096 ∧ stateOf (stateWords d bseq rst) = some (d, bseq, rst)))

/-- What an engine does with a word, a block and a command: An engine that is off, full or has no stream takes nothing; else it takes
a word and counts it; a new block makes its context resident and spills the least recently used of four; a block that is full or times
out is sent in codes or expanded, with RST as R445 states; SAVE, RESTORE and RESET wait for the open block or act at once. -/
def Obligations.CompressionBlocks : Prop :=
  (∀ (ctx : Nat) (fault : Bool) (s : State), ctx < 64 → (s.streamOfCtx ctx = none ∨ bit (s.get Reg.CMP_CTRL_EN) (s.engineOf ctx) = false ∨ s.cmpFull (s.engineOf ctx) = true → (s.get Reg.CMP_CTX_CFG_FLUSH 0 ctx = 0 ∨ s.dtRef < (s.cctx ctx).since + 250 * s.get Reg.CMP_CTX_CFG_FLUSH 0 ctx) → Does (.cmpInputWord ctx fault) s fun t => t = s) ∧
    ((s.cctx ctx).opn = [] ∨ s.get Reg.CMP_CTX_CFG_FLUSH 0 ctx = 0 → Does (.cmpFlushTimeout ctx fault) s fun t => t = s)) ∧
  (∀ (ctx n : Nat) (fault : Bool) (p : SPkt) (w w2 : Nat × Bool) (s : State), ctx < 64 → s.streamOfCtx ctx = some n → bit (s.get Reg.CMP_CTRL_EN) (s.engineOf ctx) = true → s.cmpFull (s.engineOf ctx) = false → s.dual n = false → (s.strm n).wait = [] →
    (s.strm n).fifo = { pkts := [p] } → p.words = [w, w2] → (s.cctx ctx).opn ≠ [] → (s.cctx ctx).opn.length + 1 < s.blockWords ctx → (s.get Reg.CMP_CTX_CFG_FLUSH 0 ctx = 0 ∨ s.dtRef < (s.cctx ctx).since + 250 * s.get Reg.CMP_CTX_CFG_FLUSH 0 ctx) → Does (.cmpInputWord ctx fault) s fun t =>
      (t.cctx ctx).opn = (s.cctx ctx).opn ++ [w] ∧ (t.cctx ctx).since = (s.cctx ctx).since ∧ (t.cctx ctx).redo = ((s.cctx ctx).redo || fault) ∧ (t.cctx ctx).dict = (s.cctx ctx).dict ∧ (t.cctx ctx).out = (s.cctx ctx).out ∧
      t.get Reg.CMP_CTX_IN_COUNT 0 ctx = min (2 ^ 32 - 1) (s.get Reg.CMP_CTX_IN_COUNT 0 ctx + 1) ∧ (t.strm n).fifo = { pkts := [p], taken := 1 } ∧ t.mem = s.mem ∧ t.cmp.resident = s.cmp.resident ∧ t.dtRef = s.dtRef) ∧
  (∀ (ctx n i : Nat) (a b c d : Nat) (p : SPkt) (w w2 : Nat × Bool) (s : State), ctx < 64 → s.streamOfCtx ctx = some n → bit (s.get Reg.CMP_CTRL_EN) (s.engineOf ctx) = true → s.cmpFull (s.engineOf ctx) = false → s.dual n = false → (s.strm n).wait = [] →
    (s.strm n).fifo = { pkts := [p] } → p.words = [w, w2] → (s.cctx ctx).opn = [] → i < 2048 → s.cmp.resident.length = 4 → s.engineOf ctx < 4 →
    (s.resident (s.engineOf ctx) = [a, ctx, b] → a ≠ ctx → b ≠ ctx → Does (.cmpInputWord ctx false) s fun t => (t.cctx ctx).opn = [w] ∧ (t.cctx ctx).since = s.dtRef ∧ t.resident (s.engineOf ctx) = [ctx, a, b] ∧ t.mem = s.mem ∧ t.get Reg.CMP_SWAP_COUNT = s.get Reg.CMP_SWAP_COUNT) ∧
    (s.resident (s.engineOf ctx) = [a, b, c, d] → a ≠ ctx → b ≠ ctx → c ≠ ctx → d ≠ ctx → d < 64 → (s.cctx ctx).spilled = false → dictLegal (s.cctx d).dict → (s.cctx d).bseq < 65536 → Does (.cmpInputWord ctx false) s fun t =>
      let l := stateWords (s.cctx d).dict (s.cctx d).bseq (s.cctx d).rst
      (t.cctx ctx).opn = [w] ∧ t.resident (s.engineOf ctx) = [ctx, a, b, c] ∧ t.get Reg.CMP_SWAP_COUNT = min (2 ^ 32 - 1) (s.get Reg.CMP_SWAP_COUNT + 1) ∧ t.get Reg.CMP_CTX_STATUS_RESIDENT 0 ctx = 1 ∧ t.get Reg.CMP_CTX_STATUS_RESIDENT 0 d = 0 ∧ (t.cctx d).spilled = true ∧
      memWord t.mem (s.get Reg.CMP_SPILL_BASE * 131072 + 2048 * d + i) = l.getD (2 * i) 0 + l.getD (2 * i + 1) 0 * 2 ^ 32)) ∧
  (∀ (ctx : Nat) (fault : Bool) (s : State), ctx < 64 → (s.topo.cmpOut.getD ctx (0, 0)).1 ≠ 3 → (s.cctx ctx).cmd = 0 → (s.cctx ctx).opn ≠ [] → (s.cctx ctx).opn.length ≤ 8192 → (s.cctx ctx).bseq < 65536 → s.get Reg.CMP_CTX_CFG_FLUSH 0 ctx ≠ 0 → Does (.cmpFlushTimeout ctx fault) s fun t =>
      let x := s.cctx ctx
      let u := s.advanceTo (x.since + 250 * s.get Reg.CMP_CTX_CFG_FLUSH 0 ctx)
      let rst := x.rst || (s.get Reg.CMP_CTX_CFG_KEEP 0 ctx == 0 && decide (x.dict.length = 0xF00))
      let c := x.opn.map (·.1)
      let r := encodeBytes (if rst then [] else x.dict) (wordBytes c)
      let n := (12 * r.1.length + 63) / 64
      let ws := ((t.cctx ctx).out.pkts.getLast?.map (·.words)).getD []
      let h := (ws.headD (0, false)).1
      let coded := x.redo = false ∧ fault = false ∧ x.opn.all (fun w => !w.2) ∧ n < c.length
      t.dtRef = u.dtRef ∧ (t.cctx ctx).opn = [] ∧ (t.cctx ctx).out.pkts.length = x.out.pkts.length + 1 ∧ (t.cctx ctx).bseq = (x.bseq + 1) % 65536 ∧ t.get Reg.CMP_CTX_OUT_COUNT 0 ctx = min (2 ^ 32 - 1) (s.get Reg.CMP_CTX_OUT_COUNT 0 ctx + ws.length) ∧
      bits h 56 8 = 0xC3 ∧ bits h 50 6 = ctx ∧ bit h 48 = rst ∧ bits h 32 16 = x.bseq ∧ bits h 28 3 = 0 ∧ bits h 0 14 = c.length ∧ bits h 14 14 + 2 = ws.length ∧ ((ws.getLast?.map (·.1)).getD 0) / 2 ^ 32 = crc32c (wordBytes c) ∧
      (coded → bit h 49 = false ∧ bit h 31 = false ∧ ws.length = n + 2 ∧ unpackCodes r.1.length ((ws.map (·.1)).drop 1) = r.1 ∧ bits ((ws.getLast?.map (·.1)).getD 0) 0 32 = r.1.length ∧ (t.cctx ctx).dict = r.2 ∧ (t.cctx ctx).rst = false ∧ t.get Reg.CMP_CTX_UNC_COUNT 0 ctx = s.get Reg.CMP_CTX_UNC_COUNT 0 ctx) ∧
      (¬ coded → bit h 49 = true ∧ bit h 31 = x.opn.any (·.2) ∧ (ws.drop 1).take c.length = x.opn ∧ bits ((ws.getLast?.map (·.1)).getD 0) 0 32 = 0 ∧ (t.cctx ctx).rst = true ∧ t.get Reg.CMP_INT_UNC = 1 ∧ t.get Reg.CMP_CTX_UNC_COUNT 0 ctx = min (2 ^ 32 - 1) (s.get Reg.CMP_CTX_UNC_COUNT 0 ctx + 1)) ∧
      (x.redo = false → fault = true → t.get Reg.CMP_INT_REDO = 1 ∧ t.get Reg.CMP_REDO_COUNT = min (2 ^ 32 - 1) (s.get Reg.CMP_REDO_COUNT + 1))) ∧
  (∀ (p : SPkt) (w : Nat × Bool) (s : State), let n := 30
    s.streamOfCtx 7 = some n → bit (s.get Reg.CMP_CTRL_EN) (s.engineOf 7) = true → s.cmpFull (s.engineOf 7) = false → s.dual n = false → (s.strm n).wait = [] → (s.topo.cmpOut.getD 7 (0, 0)).1 ≠ 3 → (s.cctx 7).cmd = 0 →
    (s.strm n).fifo = { pkts := [p] } → p.words = [w] → (s.cctx 7).opn ≠ [] → (s.get Reg.CMP_CTX_CFG_FLUSH 0 7 = 0 ∨ s.dtRef < (s.cctx 7).since + 250 * s.get Reg.CMP_CTX_CFG_FLUSH 0 7) → (p.ctxEnd = true ∨ (s.cctx 7).opn.length + 1 = s.blockWords 7) → Does (.cmpInputWord 7 false) s fun t =>
      (t.cctx 7).opn = [] ∧ (t.cctx 7).bseq = ((s.cctx 7).bseq + 1) % 65536 ∧ (t.cctx 7).out.pkts.length = (s.cctx 7).out.pkts.length + 1 ∧ (((t.cctx 7).out.pkts.getLast?).map (·.ctxEnd)) = some p.ctxEnd ∧ (t.strm n).fifo.pkts = []) ∧
  (∀ (val : Nat) (s : State), s.responds 0x200048 = true → let c := s.get Reg.CMP_CTX_SEL_CTX
    ((s.cctx c).opn ≠ [] → val.testBit 0 = true → Does (.cmpSave val) s fun t => (t.cctx c).cmd = val % 8 ∧ t.get Reg.CMP_CTX_STATUS_PENDING 0 c = 1 ∧ t.get Reg.CMP_CTX_STATUS_SAVED 0 c = 0 ∧ t.mem = s.mem ∧ (t.cctx c).dict = (s.cctx c).dict ∧ (t.cctx c).opn = (s.cctx c).opn) ∧
    ((s.cctx c).opn = [] → val % 8 = 4 → (s.cctx c).spilled = false → Does (.cmpReset val) s fun t => (t.cctx c).rst = true ∧ (t.cctx c).dict = (s.cctx c).dict ∧ (t.cctx c).bseq = (s.cctx c).bseq ∧ t.get Reg.CMP_CTX_STATUS_PENDING 0 c = 0 ∧ t.mem = s.mem)) ∧
  (∀ (val i a : Nat) (s : State), s.responds 0x200048 = true → val % 8 = 1 → i < 2048 → let c := s.get Reg.CMP_CTX_SEL_CTX
    let w := s.get Reg.CMP_SPILL_BASE * 131072 + 2048 * c
    (s.cctx c).opn = [] → (s.cctx c).spilled = false → dictLegal (s.cctx c).dict → (s.cctx c).bseq < 65536 → (a < 8 * w ∨ 8 * (w + 2048) ≤ a) → Memory.wf s.mem → Does (.cmpSave val) s fun t =>
      let l := stateWords (s.cctx c).dict (s.cctx c).bseq (s.cctx c).rst
      memWord t.mem (w + i) = l.getD (2 * i) 0 + l.getD (2 * i + 1) 0 * 2 ^ 32 ∧ memGet t.mem a = memGet s.mem a ∧ t.get Reg.CMP_CTX_STATUS_SAVED 0 c = 1 ∧ t.get Reg.CMP_INT_SAVED = 1 ∧ (t.cctx c).dict = (s.cctx c).dict ∧ (t.cctx c).rst = (s.cctx c).rst) ∧
  (∀ (val : Nat) (s : State), s.responds 0x200048 = true → val % 8 = 2 → let c := s.get Reg.CMP_CTX_SEL_CTX
    let b := s.get Reg.CMP_SPILL_BASE * 2048 + 32 * c
    (s.cctx c).opn = [] → (s.cctx c).spilled = false → s.ram.err = [] → ((List.range 32).all fun k => s.ram.valid.get false (b + k)) = true → Does (.cmpRestore val) s fun t =>
      let l := (List.range 4096).map fun i => memWord s.mem (64 * b + i / 2) / 2 ^ (32 * (i % 2)) % 2 ^ 32
      ((t.cctx c).dict, (t.cctx c).bseq, (t.cctx c).rst) = (stateOf l).getD ([], (t.cctx c).bseq, true) ∧ t.get Reg.CMP_INT_RESTORE_ERR = (if (stateOf l).isSome then s.get Reg.CMP_INT_RESTORE_ERR else 1) ∧ t.mem = s.mem) ∧
  (∀ (c : Nat) (s : State), s.responds 0x200038 = true → Does .cmpCntClr s fun t => t.get Reg.CMP_REDO_COUNT = 0 ∧ t.get Reg.CMP_SWAP_COUNT = 0 ∧ t.get Reg.CMP_CTX_IN_COUNT 0 c = 0 ∧ t.get Reg.CMP_CTX_UNC_COUNT 0 c = 0 ∧
    RegsOnly [Reg.CMP_REDO_COUNT, Reg.CMP_SWAP_COUNT, Reg.CMP_DEC_RETRY_COUNT, Reg.CMP_DEC_ERR_COUNT, Reg.CMP_CTX_IN_COUNT, Reg.CMP_CTX_OUT_COUNT, Reg.CMP_CTX_UNC_COUNT] s t)

/-- Reads, writes and the code of buffer memory: The checker corrects every single error and detects every double one and the poison
mark; a read of a block never written gives zeros and counts; a clean read gives what is stored; a correction is counted and tracked,
and the eighth rewrites the word and starts the copy of its row if the cell has failed; a row in the spare store takes no error; an
uncorrectable word is stored again as poison; valid bits lost beyond correction make their block written; an access to a row under
copy completes the copy; a write stores its bytes and no others, as a read-modify-write where it covers no whole word. -/
def Obligations.BufferMemory : Prop :=
  (∀ (i j : Nat), i < j → j < 72 → checkErr 0 = .clean ∧ checkErr (2 ^ i) = .corrected i ∧ checkErr (2 ^ j) = .corrected j ∧ checkErr (2 ^ i + 2 ^ j) = .uncorrectable ∧ checkErr poisonMark = .poison) ∧
  (∀ (addr : Nat) (upset stuck : List Nat) (lost : Bool) (s : State), let w := addr / 64 * 8
    (s.memCap ≤ addr → Does (.memRead addr upset stuck lost) s fun t => t = s) ∧
    (addr < s.memCap → s.ram.valid.get false (addr / 512) = false → s.ram.copies = [] → Does (.memRead addr upset stuck false) s fun t => t.rdata = List.replicate 8 0 ∧ t.ram.tags = List.replicate 8 false ∧ t.ram.valid = s.ram.valid ∧ t.ram.err = s.ram.err ∧
      t.get Reg.MEM_ZREAD_COUNT = min (2 ^ 32 - 1) (s.get Reg.MEM_ZREAD_COUNT + 1) ∧ Only [Reg.MEM_ZREAD_COUNT, Reg.MEM_INT_CNT_SAT] s t { s with regs := t.regs, rdata := t.rdata, ram := t.ram }) ∧
    (addr < s.memCap → s.ram.valid.get false (addr / 512) = true → s.ram.err = [] → s.ram.stuck = [] → s.ram.copies = [] → Does (.memRead addr [] [] false) s fun t => t = { s with rdata := (List.range 8).map (fun i => memWord s.mem (w + i)), ram := { s.ram with tags := List.replicate 8 false } })) ∧
  (∀ (addr k : Nat) (s : State), let w := addr / 64 * 8
    addr < s.memCap → s.ram.valid.get false (addr / 512) = true → s.ram.err = [] → s.ram.stuck = [] → k < 72 → (s.ram.trk.all fun x => x.isNone) = true → s.ram.copies = [] → s.store.remap.contains (s.memRow (8 * w)) = false → Does (.memRead addr [2 ^ k] [] false) s fun t =>
      t.rdata = (List.range 8).map (fun i => memWord s.mem (w + i)) ∧ t.ram.tags = List.replicate 8 false ∧ t.mem = s.mem ∧ t.ram.err.get 0 w = 2 ^ k ∧ t.get Reg.MEM_CORR_COUNT = min (2 ^ 32 - 1) (s.get Reg.MEM_CORR_COUNT + 1) ∧
      t.get Reg.MEM_RPT_ADDR_VALID = 1 ∧ t.get Reg.MEM_RPT_ADDR_WORD = w % 2 ^ 30 ∧ t.get Reg.MEM_RPT_INFO_COUNT = 1 ∧ t.get Reg.MEM_RPT_INFO_BIT = k ∧ t.get Reg.MEM_RPT_INFO_REWRITTEN = 0 ∧
      Only [Reg.MEM_CORR_COUNT, Reg.MEM_INT_CNT_SAT, Reg.MEM_RPT_ADDR_VALID, Reg.MEM_RPT_ADDR_WORD, Reg.MEM_RPT_INFO_COUNT, Reg.MEM_RPT_INFO_BIT, Reg.MEM_RPT_INFO_REWRITTEN] s t { s with regs := t.regs, rdata := t.rdata, ram := t.ram }) ∧
  (∀ (addr k : Nat) (x : Trk) (s : State), let w := addr / 64 * 8
    addr < s.memCap → s.ram.valid.get false (addr / 512) = true → s.ram.err = [] → s.ram.stuck = [] → k < 72 → s.ram.trk = some x :: List.replicate 63 none → x.word = w → x.count = 7 → s.ram.copies = [] → s.store.remap.contains (s.memRow (8 * w)) = false → 
    (Does (.memRead addr [2 ^ k] [] false) s fun t => t.rdata = (List.range 8).map (fun i => memWord s.mem (w + i)) ∧ t.ram.err = [] ∧ t.get Reg.MEM_RPT_REWR_COUNT = min (2 ^ 32 - 1) (s.get Reg.MEM_RPT_REWR_COUNT + 1) ∧ t.get Reg.MEM_INT_RPT_REWRITE = 1 ∧ t.get Reg.MEM_RPT_INFO_COUNT = 0 ∧ t.get Reg.MEM_RPT_INFO_REWRITTEN = 1 ∧ t.get Reg.MEM_RPT_ADDR_VALID = 1 ∧ t.ram.copies = []) ∧
    (s.store.remap.length < 256 → Does (.memRead addr [] [2 ^ k] false) s fun t => t.rdata = (List.range 8).map (fun i => memWord s.mem (w + i)) ∧ t.ram.copies = [s.memRow (8 * w)] ∧ t.get Reg.MEM_RPT_ADDR_VALID = 0 ∧ t.get Reg.MEM_INT_RPT_REWRITE = 1 ∧ t.get Reg.MEM_INT_REMAP_FULL = s.get Reg.MEM_INT_REMAP_FULL) ∧
    (256 ≤ s.store.remap.length → Does (.memRead addr [] [2 ^ k] false) s fun t => t.rdata = (List.range 8).map (fun i => memWord s.mem (w + i)) ∧ t.ram.copies = [] ∧ t.get Reg.MEM_INT_REMAP_FULL = 1 ∧ t.get Reg.MEM_RPT_ADDR_VALID = 1 ∧ t.get Reg.MEM_RPT_INFO_COUNT = 0)) ∧
  (∀ (addr i j : Nat) (s : State), let w := addr / 64 * 8
    addr < s.memCap → s.ram.valid.get false (addr / 512) = true → s.ram.err = [] → s.ram.stuck = [] → i < j → j < 72 → (s.ram.trk.all fun x => x.isNone) = true → s.ram.copies = [] → s.store.remap.contains (s.memRow (8 * w)) = false → 
    (Does (.memRead addr [2 ^ i + 2 ^ j] [] false) s fun t => t.ram.tags = true :: List.replicate 7 false ∧ t.get Reg.MEM_UE_COUNT = min (2 ^ 32 - 1) (s.get Reg.MEM_UE_COUNT + 1) ∧ t.get Reg.MEM_INT_UE = 1 ∧ t.ram.err.get 0 w = poisonMark ∧ t.rdata.drop 1 = ((List.range 8).map (fun i => memWord s.mem (w + i))).drop 1 ∧ memWord t.mem w = t.rdata.headD 0 ∧ t.get Reg.MEM_POISON_RD_COUNT = s.get Reg.MEM_POISON_RD_COUNT) ∧
    (Does (.memRead addr [poisonMark] [] false) s fun t => t.ram.tags = true :: List.replicate 7 false ∧ t.rdata = (List.range 8).map (fun i => memWord s.mem (w + i)) ∧ t.mem = s.mem ∧ t.get Reg.MEM_POISON_RD_COUNT = min (2 ^ 32 - 1) (s.get Reg.MEM_POISON_RD_COUNT + 1) ∧ t.get Reg.MEM_UE_COUNT = s.get Reg.MEM_UE_COUNT)) ∧
  (∀ (addr k : Nat) (s : State), let w := addr / 64 * 8
    addr < s.memCap → s.ram.copies = [] → (s.ram.valid.get false (addr / 512) = true → s.ram.err = [] → s.ram.stuck = [] → s.store.remap.contains (s.memRow (8 * w)) = true → Does (.memRead addr [2 ^ k] [2 ^ k] false) s fun t => t = { s with rdata := (List.range 8).map (fun i => memWord s.mem (w + i)), ram := { s.ram with tags := List.replicate 8 false } }) ∧
    (s.ram.valid = [] → s.covered addr = true → Does (.memRead addr [] [] true) s fun t => t.ram.valid.get false (addr / 512) = true ∧ t.get Reg.MEM_INT_UE = 1 ∧ t.rdata.length = 8 ∧ t.dtRef = s.dtRef ∧ t.pending = s.pending)) ∧
  (∀ (addr : Nat) (r : Nat × Nat) (s : State), let w := addr / 64 * 8
    addr < s.memCap → s.ram.valid.get false (addr / 512) = true → s.ram.err = [] → s.ram.stuck = [] → s.ram.copies = [r] → s.memRow (8 * w) = r → s.store.remap.length < 256 → Does (.memRead addr [] [] false) s fun t => t.rdata = (List.range 8).map (fun i => memWord s.mem (w + i)) ∧ t.ram.copies = [] ∧ t.store.remap = s.store.remap ++ [r] ∧ t.get Reg.MEM_INT_REMAP = 1 ∧ t.mem = s.mem) ∧
  (∀ (s : State), s.ram.copies = [] → Does .rowRemapDone s fun t => t = s) ∧
  (∀ (ch row w k : Nat) (s : State), s.ram.copies = [(ch, row)] → s.memRow (8 * w) = (ch, row) → s.ram.err.get 0 w = 2 ^ k → k < 72 → ch < 12 → row < 2 ^ 18 → s.store.remap.length < 256 → SMap.Sorted natLt s.ram.err → Does .rowRemapDone s fun t =>
    let n := s.store.remap.length
    t.ram.copies = [] ∧ t.store.remap = s.store.remap ++ [(ch, row)] ∧ t.get Reg.MEM_REMAP_STATUS_USED = n + 1 ∧ t.get Reg.MEM_REMAP_ENTRY_CH 0 n = ch ∧ t.get Reg.MEM_REMAP_ENTRY_ROW 0 n = row ∧ t.get Reg.MEM_REMAP_ENTRY_VALID 0 n = 1 ∧ t.get Reg.MEM_INT_REMAP = 1 ∧
    t.ram.err.get 0 w = 0 ∧ t.ram.stuck.get 0 w = 0 ∧ t.mem = s.mem ∧ t.ram.valid = s.ram.valid) ∧
  (∀ (addr v b : Nat) (poison : Bool) (s : State), Memory.wf s.mem → s.ram.stuck = [] → s.ram.copies = [] →
    (s.memCap < addr + 8 → Does (.memWrite addr (leBytesN 8 v) poison) s fun t => t = s) ∧
    (addr % 8 = 0 → addr + 8 ≤ s.memCap → (s.ram.trk.all fun x => x.isNone) = true → Does (.memWrite addr (leBytesN 8 v) poison) s fun t => memWord t.mem (addr / 8) = v % 2 ^ 64 ∧ (b < addr ∨ addr + 8 ≤ b → memGet t.mem b = memGet s.mem b) ∧
      t.ram.err.get 0 (addr / 8) = (if poison then poisonMark else 0) ∧ t.ram.valid.get false (addr / 512) = true ∧ t = { s with mem := t.mem, ram := t.ram })) ∧
  (∀ (addr x b : Nat) (s : State), Memory.wf s.mem → s.ram.stuck = [] → s.ram.err = [] → s.ram.copies = [] → (s.ram.trk.all fun x => x.isNone) = true → addr < s.memCap → s.ram.valid.get false (addr / 512) = true → Does (.memWrite addr [x] false) s fun t =>
    (memGet t.mem addr).toNat = x % 256 ∧ (b ≠ addr → memGet t.mem b = memGet s.mem b) ∧ t.get Reg.MEM_RMW_COUNT = min (2 ^ 32 - 1) (s.get Reg.MEM_RMW_COUNT + 1) ∧ t.ram.err = [] ∧
    Only [Reg.MEM_RMW_COUNT, Reg.MEM_INT_CNT_SAT] s t { s with regs := t.regs, mem := t.mem, ram := t.ram })

/-- Partitions, the scrubber and fuses: A write that places a partition is refused with its code when locked, too far, overlapping or
uncovering too much, and else places it and returns the memory that changes sides to never written; a scrub is refused or started, and
its end or abort leaves its summary; fusing is a guarded write of the Service role; the counters clear. -/
def Obligations.MemoryControl : Prop :=
  (∀ (val : Nat) (s : State), s.responds 0x210010 = true → let base := bits val 0 13; let size := bits val 16 13; let cap := s.get Reg.MEM_STATUS_SIZE * 256
    let lap (b n : Nat) : Prop := 0 < size ∧ 0 < n ∧ base < b + n ∧ b < base + size
    let code := if s.get Reg.TRG_CTRL_RING_EN ≠ 0 then 7 else if 0 < size ∧ cap < base + size then 1 else
      if lap (s.get Reg.MEM_BURST_BASE) (s.get Reg.MEM_BURST_SIZE) ∨ lap (s.get Reg.MEM_SPILL_BASE) (s.get Reg.MEM_SPILL_EN) then 2 else if 4096 < cap - size - s.get Reg.MEM_BURST_SIZE then 3 else 0
    (base = s.get Reg.MEM_RING_BASE → size = s.get Reg.MEM_RING_SIZE → Does (.memPartitionWrite 0 val) s fun t => t = s) ∧
    ((base ≠ s.get Reg.MEM_RING_BASE ∨ size ≠ s.get Reg.MEM_RING_SIZE) → code ≠ 0 → overlap (s.get Reg.MEM_BURST_BASE, s.get Reg.MEM_BURST_SIZE) (s.get Reg.MEM_SPILL_BASE, s.get Reg.MEM_SPILL_EN) = false → Does (.memPartitionWrite 0 val) s fun t => t = (s.put Reg.MEM_INT_REFUSED 1).put Reg.MEM_ERR_CODE code)) ∧
  (∀ (val a : Nat) (s : State), s.responds 0x210010 = true → let base := bits val 0 13; let size := bits val 16 13; let cap := s.get Reg.MEM_STATUS_SIZE * 256
    base + size ≤ cap → cap ≤ 4096 → (base ≠ s.get Reg.MEM_RING_BASE ∨ size ≠ s.get Reg.MEM_RING_SIZE) → s.get Reg.TRG_CTRL_RING_EN = 0 → s.get Reg.MEM_BURST_SIZE = 0 → s.get Reg.MEM_SPILL_EN = 0 → Memory.wf s.mem → Does (.memPartitionWrite 0 val) s fun t =>
      let old := s.get Reg.MEM_RING_BASE * 1048576 ≤ a ∧ a < (s.get Reg.MEM_RING_BASE + s.get Reg.MEM_RING_SIZE) * 1048576
      let new := base * 1048576 ≤ a ∧ a < (base + size) * 1048576
      t.get Reg.MEM_RING_BASE = base ∧ t.get Reg.MEM_RING_SIZE = size ∧ t.get Reg.MEM_COVER_MIB = cap - size ∧ ((old ↔ new) → memGet t.mem a = memGet s.mem a) ∧ (¬ (old ↔ new) → memGet t.mem a = 0) ∧
      Only [Reg.MEM_RING_BASE, Reg.MEM_RING_SIZE, Reg.MEM_COVER_MIB] s t { s with regs := t.regs, mem := t.mem, ram := t.ram }) ∧
  (∀ (val : Nat) (s : State), (s.responds 0x210014 = true → s.frm.burst.tmpl.isSome = true → (bits val 0 13 ≠ s.get Reg.MEM_BURST_BASE ∨ bits val 16 13 ≠ s.get Reg.MEM_BURST_SIZE) → Does (.memPartitionWrite 1 val) s fun t => t = (s.put Reg.MEM_INT_REFUSED 1).put Reg.MEM_ERR_CODE 7) ∧
    (s.responds 0x210018 = true → s.get Reg.CMP_CTRL_EN ≠ 0 → (bits val 0 13 ≠ s.get Reg.MEM_SPILL_BASE ∨ bits val 16 1 ≠ s.get Reg.MEM_SPILL_EN) → Does (.memPartitionWrite 2 val) s fun t => t = (s.put Reg.MEM_INT_REFUSED 1).put Reg.MEM_ERR_CODE 7) ∧
    (s.responds 0x210018 = true → s.get Reg.CMP_CTRL_EN = 0 → s.get Reg.MEM_RING_SIZE = 0 → s.get Reg.MEM_BURST_SIZE = 0 → s.get Reg.MEM_STATUS_SIZE * 256 ≤ 4096 → bits val 16 1 = 1 → bits val 0 13 < s.get Reg.MEM_STATUS_SIZE * 256 → (bits val 0 13 ≠ s.get Reg.MEM_SPILL_BASE ∨ s.get Reg.MEM_SPILL_EN = 0) → Does (.memPartitionWrite 2 val) s fun t =>
      t.get Reg.MEM_SPILL_BASE = bits val 0 13 ∧ t.get Reg.MEM_SPILL_EN = 1 ∧ t.get Reg.CMP_SPILL_BASE = bits val 0 13 ∧ t.mem = s.mem ∧ t.get Reg.MEM_INT_REFUSED = s.get Reg.MEM_INT_REFUSED)) ∧
  (∀ (val : Nat) (s : State), s.responds 0x210038 = true → val.testBit 0 = true →
    let b := s.get Reg.MEM_SCRUB_BASE_BLOCK
    let n := s.get Reg.MEM_SCRUB_LEN_BLOCKS
    let no := s.get Reg.MEM_SCRUB_STATUS_STATE = 1 ∨ n = 0 ∨ s.memCap < (b + n) * 512
    (no → Does (.scrubStart val) s fun t => t = ((s.put Reg.MEM_SCRUB_CTRL_RATE (bits val 8 8)).put Reg.MEM_INT_REFUSED 1).put Reg.MEM_ERR_CODE 4) ∧
    (¬ no → Does (.scrubStart val) s fun t => t.get Reg.MEM_SCRUB_STATUS_STATE = 1 ∧ t.get Reg.MEM_SCRUB_STATUS_NEXT = b % 2 ^ 24 ∧ t.get Reg.MEM_SCRUB_READ_COUNT = 0 ∧ t.get Reg.MEM_SCRUB_CORR_COUNT = 0 ∧ t.get Reg.MEM_SCRUB_UE_COUNT = 0 ∧ t.get Reg.MEM_SCRUB_POISON_COUNT = 0 ∧ t.get Reg.MEM_SCRUB_SKIP_COUNT = 0 ∧ t.get Reg.MEM_SCRUB_FIRST_VALID = 0 ∧
      t.get Reg.MEM_SCRUB_CTRL_RATE = bits val 8 8 ∧
      RegsOnly [Reg.MEM_SCRUB_STATUS_STATE, Reg.MEM_SCRUB_STATUS_NEXT, Reg.MEM_SCRUB_READ_COUNT, Reg.MEM_SCRUB_CORR_COUNT, Reg.MEM_SCRUB_UE_COUNT, Reg.MEM_SCRUB_POISON_COUNT, Reg.MEM_SCRUB_SKIP_COUNT, Reg.MEM_SCRUB_FIRST_VALID, Reg.MEM_SCRUB_FIRST_WORD, Reg.MEM_SCRUB_CTRL_RATE] { s with ram := { s.ram with scrubEnd := b + n } } t)) ∧
  (∀ (n : Nat) (s : State), (s.get Reg.MEM_SCRUB_STATUS_STATE ≠ 1 → Does .scrubDone s fun t => t = s) ∧
    (s.get Reg.MEM_SCRUB_STATUS_STATE = 1 → s.ram.scrubEnd = s.get Reg.MEM_SCRUB_STATUS_NEXT + n → s.ram.scrubEnd < 2 ^ 24 → s.ram.valid = [] → Does .scrubDone s fun t => t.get Reg.MEM_SCRUB_STATUS_STATE = 2 ∧ t.get Reg.MEM_INT_SCRUB_DONE = 1 ∧
      t.get Reg.MEM_SCRUB_STATUS_NEXT = s.ram.scrubEnd ∧ t.get Reg.MEM_SCRUB_SKIP_COUNT = min (2 ^ 32 - 1) (s.get Reg.MEM_SCRUB_SKIP_COUNT + n) ∧
      RegsOnly [Reg.MEM_SCRUB_STATUS_STATE, Reg.MEM_INT_SCRUB_DONE, Reg.MEM_SCRUB_STATUS_NEXT, Reg.MEM_SCRUB_SKIP_COUNT, Reg.MEM_INT_CNT_SAT] s t)) ∧
  (∀ (b w k : Nat) (s : State), s.get Reg.MEM_SCRUB_STATUS_STATE = 1 → s.get Reg.MEM_SCRUB_STATUS_NEXT = b → s.ram.scrubEnd = b + 1 → s.ram.copies = [] → s.ram.valid = [(b, true)] → w / 64 = b → k < 72 → s.ram.stuck = [] → (s.ram.trk.all fun x => x.isNone) = true →
    (s.ram.err = [(w, 2 ^ k)] → Does .scrubDone s fun t => t.get Reg.MEM_SCRUB_STATUS_STATE = 2 ∧ t.get Reg.MEM_INT_SCRUB_DONE = 1 ∧ t.get Reg.MEM_SCRUB_READ_COUNT = min (2 ^ 32 - 1) (s.get Reg.MEM_SCRUB_READ_COUNT + 64) ∧ t.get Reg.MEM_SCRUB_CORR_COUNT = min (2 ^ 32 - 1) (s.get Reg.MEM_SCRUB_CORR_COUNT + 1) ∧ t.ram.err = [] ∧ memWord t.mem w = memWord s.mem w ∧ t.get Reg.MEM_SCRUB_FIRST_VALID = s.get Reg.MEM_SCRUB_FIRST_VALID) ∧
    (s.ram.err = [(w, 3)] → s.get Reg.MEM_SCRUB_FIRST_VALID = 0 → Does .scrubDone s fun t => t.get Reg.MEM_SCRUB_UE_COUNT = min (2 ^ 32 - 1) (s.get Reg.MEM_SCRUB_UE_COUNT + 1) ∧ t.get Reg.MEM_SCRUB_FIRST_VALID = 1 ∧ t.get Reg.MEM_SCRUB_FIRST_WORD = w % 2 ^ 30 ∧ t.ram.err = [(w, poisonMark)] ∧ t.get Reg.MEM_INT_UE = 1) ∧
    (s.ram.err = [(w, poisonMark)] → Does .scrubDone s fun t => t.get Reg.MEM_SCRUB_POISON_COUNT = min (2 ^ 32 - 1) (s.get Reg.MEM_SCRUB_POISON_COUNT + 1) ∧ t.ram.err = s.ram.err ∧ t.mem = s.mem)) ∧
  (∀ (val done words w : Nat) (s : State), s.responds 0x210038 = true → val.testBit 1 = true → val.testBit 0 = false →
    (s.get Reg.MEM_SCRUB_STATUS_STATE ≠ 1 → Does (.scrubAbort val done words) s fun t => t = s.put Reg.MEM_SCRUB_CTRL_RATE (bits val 8 8)) ∧
    (s.get Reg.MEM_SCRUB_STATUS_STATE = 1 → s.get Reg.MEM_SCRUB_STATUS_NEXT + done < s.ram.scrubEnd → s.ram.scrubEnd < 2 ^ 24 → s.ram.valid = [] → Does (.scrubAbort val done words) s fun t =>
      t.get Reg.MEM_SCRUB_STATUS_STATE = 3 ∧ t.get Reg.MEM_SCRUB_STATUS_NEXT = s.get Reg.MEM_SCRUB_STATUS_NEXT + done ∧ t.get Reg.MEM_SCRUB_SKIP_COUNT = min (2 ^ 32 - 1) (s.get Reg.MEM_SCRUB_SKIP_COUNT + done) ∧ t.get Reg.MEM_INT_SCRUB_DONE = s.get Reg.MEM_INT_SCRUB_DONE ∧ t.mem = s.mem) ∧
    (s.get Reg.MEM_SCRUB_STATUS_STATE = 1 → s.get Reg.MEM_SCRUB_STATUS_NEXT < s.ram.scrubEnd → s.ram.scrubEnd < 2 ^ 24 → s.ram.valid = [(s.get Reg.MEM_SCRUB_STATUS_NEXT, true)] → s.ram.copies = [] → s.ram.err = [(w, poisonMark)] → w / 64 = s.get Reg.MEM_SCRUB_STATUS_NEXT → words < 64 → Does (.scrubAbort val 0 words) s fun t =>
      t.get Reg.MEM_SCRUB_STATUS_STATE = 3 ∧ t.get Reg.MEM_SCRUB_STATUS_NEXT = s.get Reg.MEM_SCRUB_STATUS_NEXT ∧ t.get Reg.MEM_SCRUB_READ_COUNT = min (2 ^ 32 - 1) (s.get Reg.MEM_SCRUB_READ_COUNT + words) ∧ t.get Reg.MEM_SCRUB_POISON_COUNT = min (2 ^ 32 - 1) (s.get Reg.MEM_SCRUB_POISON_COUNT + if w % 64 < words then 1 else 0) ∧ t.mem = s.mem)) ∧
  (∀ (val : Nat) (s : State), s.responds 0x2100A8 = true → val.testBit 0 = true → let a := s.get Reg.MEM_SRAM_SEL_ARRAY
    (s.role = 4 → s.sessionLive → s.aud.queue.length < 32 → s.get Reg.MEM_SRAM_INFO_FUSE_LEFT 0 a ≠ 0 → s.get Reg.MEM_SRAM_INFO_PEND 0 a = 1 → Does (.sramFuseProg val) s (Waits 2 0x2100A8 0 val a 0 s)) ∧
    (s.sessionLive → (s.role ≠ 4 ∨ s.get Reg.MEM_SRAM_INFO_FUSE_LEFT 0 a = 0 ∨ s.get Reg.MEM_SRAM_INFO_PEND 0 a = 0) → Does (.sramFuseProg val) s fun t => t.get Reg.GEN_INT_REFUSED = 1 ∧ t.get Reg.MEM_INT_REFUSED = 1 ∧ t.store = s.store ∧
      Only (Reg.GEN_INT_REFUSED :: Reg.MEM_INT_REFUSED :: auditFields) s t { s with regs := t.regs, aud := t.aud, sess := t.sess }) ∧
    ((s.sramFuse a true).store.sramFused.get 0 a = (2 - s.get Reg.MEM_SRAM_INFO_ROWS 0 a) + 4 * (1 - s.get Reg.MEM_SRAM_INFO_COLS 0 a) ∧ (s.sramFuse a true).get Reg.MEM_SRAM_INFO_PEND 0 a = 0)) ∧
  (∀ (c : Nat) (s : State), s.responds 0x2100C8 = true → Does .memCntClr s fun t => t.get Reg.MEM_CORR_COUNT = 0 ∧ t.get Reg.MEM_BAR4_PROT_COUNT = 0 ∧ t.get Reg.MEM_CH_STALL_COUNT 0 c = 0 ∧ t.get Reg.MEM_RPT_REWR_COUNT = 0 ∧
    RegsOnly [Reg.MEM_CORR_COUNT, Reg.MEM_UE_COUNT, Reg.MEM_POISON_RD_COUNT, Reg.MEM_RMW_COUNT, Reg.MEM_ZREAD_COUNT, Reg.MEM_BAR4_PROT_COUNT, Reg.MEM_RPT_REWR_COUNT, Reg.MEM_CH_STALL_COUNT, Reg.MEM_CH_OUTST_PEAK] s t)

/-- Sessions, keys and fuse-limited settings: A request draws a challenge, or is refused with its code; the response of the role key
within 30 s opens the session, a late one expires, and a wrong one counts and from the third on locks out for a time that doubles to
3,840 s; a session closes by command or after the idle time with its entry, and takes the staged key with it; a key and the module ID
are guarded Owner writes that use a generation whether or not they read back. -/
def Obligations.RoleSessions : Prop :=
  (∀ (role : Nat) (s : State), s.responds 0x210 = true → (s.get Reg.GEN_SESS_STATUS_STATE ≠ 2 ∨ s.sessionLive) →
    (s.keyOf role = none → Does (.sessionRequest role) s fun t => t = s.put Reg.GEN_SESS_STATUS_ERR 1) ∧
    (s.keyOf role ≠ none → s.get Reg.GEN_SESS_STATUS_STATE = 2 → Does (.sessionRequest role) s fun t => t = s.put Reg.GEN_SESS_STATUS_ERR 2) ∧
    (s.keyOf role ≠ none → s.get Reg.GEN_SESS_STATUS_STATE = 3 → Does (.sessionRequest role) s fun t => t = s.put Reg.GEN_SESS_STATUS_ERR 5) ∧
    (s.keyOf role ≠ none → s.get Reg.GEN_SESS_STATUS_STATE < 2 → Does (.sessionRequest role) s fun t => t.get Reg.GEN_SESS_STATUS_STATE = 1 ∧ t.get Reg.GEN_SESS_STATUS_ERR = 0 ∧ t.sess.chalRole = role ∧ t.sess.chalAt = s.dtRef ∧
      t.get Reg.GEN_SESS_CHAL_CHAL = (Config.challenge s.drawn).toNat ∧ Only [Reg.GEN_SESS_STATUS_STATE, Reg.GEN_SESS_STATUS_ERR, Reg.GEN_SESS_CHAL_CHAL] s t { s with regs := t.regs, drawn := s.drawn + 1, sess := { s.sess with chalRole := role, chalAt := s.dtRef } })) ∧
  (∀ (role : Nat) (s : State), s.responds 0x210 = true → s.get Reg.GEN_SESS_STATUS_STATE = 2 → ¬ s.sessionLive → s.keyOf role ≠ none → s.aud.queue.length < 32 → Does (.sessionRequest role) s fun t =>
    t.get Reg.GEN_SESS_STATUS_STATE = 1 ∧ t.get Reg.GEN_SESS_STATUS_ROLE = 0 ∧ t.get Reg.GEN_SESS_STATUS_ERR = 0 ∧ t.sess.chalRole = role ∧ (t.aud.queue.getLast?.map fun w => (w.entry.kind, w.entry.arg, w.write)) = some (4, 1, none)) ∧
  (∀ (hi : Nat) (s : State), s.responds 0x224 = true → let resp := s.get Reg.GEN_SESS_RESP_RESP % 2 ^ 32 + hi % 2 ^ 32 * 2 ^ 32; let r := s.sess.chalRole
    (s.get Reg.GEN_SESS_STATUS_STATE = 3 → Does (.sessionResponse hi) s fun t => t = s.put Reg.GEN_SESS_STATUS_ERR 5) ∧
    (s.get Reg.GEN_SESS_STATUS_STATE = 0 ∨ s.get Reg.GEN_SESS_STATUS_STATE = 2 → Does (.sessionResponse hi) s fun t => t = s.put Reg.GEN_SESS_STATUS_ERR 6) ∧
    (s.get Reg.GEN_SESS_STATUS_STATE = 1 → s.sess.chalAt + 30 * 250000000 < s.dtRef → Does (.sessionResponse hi) s fun t => t.get Reg.GEN_SESS_STATUS_STATE = 0 ∧ t.get Reg.GEN_SESS_STATUS_ERR = 4 ∧ t.store = s.store ∧
      Only (Reg.GEN_SESS_STATUS_STATE :: Reg.GEN_SESS_STATUS_ERR :: auditFields) s t { s with regs := t.regs, aud := t.aud }) ∧
    (s.get Reg.GEN_SESS_STATUS_STATE = 1 → s.dtRef ≤ s.sess.chalAt + 30 * 250000000 → (s.keyOf r).map (fun k => sessionResponse k (s.get Reg.GEN_SESS_CHAL_CHAL) r s.store.serial) = some resp → r < 8 → s.aud.queue.length < 32 → Does (.sessionResponse hi) s fun t =>
      t.get Reg.GEN_SESS_STATUS_STATE = 2 ∧ t.get Reg.GEN_SESS_STATUS_ROLE = r ∧ t.get Reg.GEN_SESS_STATUS_ERR = 0 ∧ t.get Reg.GEN_SESS_STATUS_FAILS = 0 ∧ t.get Reg.GEN_SVC_INT_SESSION = 1 ∧ t.store = { s.store with sessFails := 0, lockNext := 60 } ∧ t.sess.lastWrite = s.dtRef ∧
      (t.aud.queue.getLast?.map fun w => (w.entry.kind, w.entry.role, w.write)) = some (3, r, none) ∧ t.mem = s.mem)) ∧
  (∀ (hi : Nat) (s : State), s.responds 0x224 = true → let resp := s.get Reg.GEN_SESS_RESP_RESP % 2 ^ 32 + hi % 2 ^ 32 * 2 ^ 32; let r := s.sess.chalRole; let n := min 15 (s.store.sessFails + 1)
    s.get Reg.GEN_SESS_STATUS_STATE = 1 → s.dtRef ≤ s.sess.chalAt + 30 * 250000000 → (s.keyOf r).map (fun k => sessionResponse k (s.get Reg.GEN_SESS_CHAL_CHAL) r s.store.serial) ≠ some resp → s.aud.queue.length < 32 → Does (.sessionResponse hi) s fun t =>
      t.get Reg.GEN_SESS_STATUS_FAILS = n ∧ t.store.sessFails = n ∧ t.get Reg.GEN_SESS_STATUS_ERR = 3 ∧ (t.aud.queue.getLast?.map fun w => (w.entry.kind, w.write)) = some (5, none) ∧
      (n < 3 → t.get Reg.GEN_SESS_STATUS_STATE = 0 ∧ t.get Reg.GEN_SVC_INT_LOCKOUT = s.get Reg.GEN_SVC_INT_LOCKOUT) ∧
      (3 ≤ n → t.get Reg.GEN_SESS_STATUS_STATE = 3 ∧ t.get Reg.GEN_SESS_STATUS_LOCK = s.store.lockNext % 2 ^ 16 ∧ t.store.lockLeft = s.store.lockNext ∧ t.store.lockNext = min 3840 (2 * s.store.lockNext) ∧ t.get Reg.GEN_SVC_INT_LOCKOUT = 1 ∧ t.sess.lockAt = s.dtRef)) ∧
  (∀ (s : State), s.responds 0x210 = true → (s.get Reg.GEN_SESS_STATUS_STATE ≠ 2 → Does .sessionClose s fun t => t = s) ∧
    (s.get Reg.GEN_SESS_STATUS_STATE = 2 → s.sessionLive → Does .sessionClose s fun t => t.get Reg.GEN_SESS_STATUS_STATE = 0 ∧ t.get Reg.GEN_SESS_STATUS_ROLE = 0 ∧ t.get Reg.GEN_KEY_STAGE_KEY 0 = 0 ∧ t.get Reg.GEN_KEY_STAGE_KEY 3 = 0 ∧ t.get Reg.GEN_SVC_INT_SESSION = 1 ∧
      (s.aud.queue.length < 32 → t.aud = { s.aud with queue := s.aud.queue ++ [{ entry := s.auditEntry 4 0 0x210 0 0 0, write := none }] }) ∧
      Only (Reg.GEN_SESS_STATUS_STATE :: Reg.GEN_SESS_STATUS_ROLE :: Reg.GEN_KEY_STAGE_KEY :: Reg.GEN_SVC_INT_SESSION :: auditFields) s t { s with regs := t.regs, aud := t.aud, shadow := t.shadow })) ∧
  (∀ (s : State), (s.get Reg.GEN_SESS_STATUS_STATE ≠ 2 → Does .sessionIdleTimeout s fun t => t = s) ∧
    (s.get Reg.GEN_SESS_STATUS_STATE = 2 → s.aud.queue.length < 32 → Does .sessionIdleTimeout s fun t => t.get Reg.GEN_SESS_STATUS_STATE = 0 ∧ t.get Reg.GEN_SVC_INT_SESSION = 1 ∧
      t.dtRef = (s.advanceTo (s.sess.lastWrite + 250000000 * max 1 (s.get Reg.GEN_SESS_CFG_IDLE))).dtRef ∧ (t.aud.queue.getLast?.map fun w => (w.entry.kind, w.entry.arg, w.write)) = some (4, 1, none))) ∧
  (∀ (s : State), (s.get Reg.GEN_SESS_STATUS_STATE ≠ 3 → Does .lockoutExpire s fun t => t = s) ∧
    (s.get Reg.GEN_SESS_STATUS_STATE = 3 → Does .lockoutExpire s fun t => t.get Reg.GEN_SESS_STATUS_STATE = 0 ∧ t.get Reg.GEN_SESS_STATUS_LOCK = 0 ∧ t.store = { s.store with lockLeft := 0 } ∧ t.dtRef = (s.advanceTo (s.sess.lockAt + 250000000 * s.store.lockLeft)).dtRef)) ∧
  (∀ (role chk : Nat) (s : State), s.responds 0x240 = true → s.sessionLive → 1 ≤ role → role ≤ 4 → let left := s.store.keyLeft.getD (role - 1) 0
    let good := leNat ((sha256 (leBytes 16 s.stagedKey)).take 2) = chk % 65536
    (s.role ≠ 1 → Does (.keyProgram role chk) s (RefusedWrite 2 1 0x240 (role * 256 + left) (role * 256 + (left - 1)) s)) ∧
    (s.role = 1 → (left = 0 ∨ ¬ good) → Does (.keyProgram role chk) s fun t => t.get Reg.GEN_INT_REFUSED = 1 ∧ t.store = s.store ∧ (s.aud.queue.length < 32 → (t.aud.queue.getLast?.map fun w => (w.entry.kind, w.entry.result, w.write)) = some (2, if left = 0 then 2 else 3, none))) ∧
    (s.role = 1 → left ≠ 0 → good → s.aud.queue.length < 32 → Does (.keyProgram role chk) s (Waits 2 0x240 (role * 256 + left) (role * 256 + (left - 1)) (s.stagedKey * 8 + role) 0 s))) ∧
  (∀ (role key : Nat) (s : State), 1 ≤ role → role ≤ 4 → s.store.keyLeft.length = 4 → s.store.keys.length = 4 → s.store.keyLeft.getD (role - 1) 0 ≠ 0 → s.store.idLeft ≠ 0 →
    let n := s.store.keyLeft.getD (role - 1) 0
    (s.keyFuse role key true).keyOf role = some key ∧ (s.keyFuse role key true).store.keyLeft.getD (role - 1) 0 = n - 1 ∧ (s.keyFuse role key false).keyOf role = s.keyOf role ∧ (s.keyFuse role key false).store.keyLeft.getD (role - 1) 0 = n - 1 ∧
    (s.idFuse key true).store.moduleId = key % 4096 ∧ (s.idFuse key true).store.idLeft = 0 ∧ (s.idFuse key false).store.moduleId = s.store.moduleId ∧ (s.idFuse key false).store.idLeft = 0) ∧
  (∀ (id : Nat) (s : State), s.responds 0x208 = true → s.sessionLive →
    (s.role ≠ 1 → Does (.moduleIdProgram id) s (RefusedWrite 2 1 0x208 s.store.moduleId (id % 4096) s)) ∧
    (s.role = 1 → s.store.idLeft ≠ 0 → s.aud.queue.length < 32 → Does (.moduleIdProgram id) s (Waits 2 0x208 s.store.moduleId (id % 4096) (id % 4096) 0 s)) ∧
    (s.role = 1 → s.store.idLeft ≠ 0 → 32 ≤ s.aud.queue.length → Does (.moduleIdProgram id) s fun t => t.get Reg.GEN_INT_REFUSED = 1 ∧ t.aud.queue = s.aud.queue ∧ t.aud.lost = s.aud.lost + 1 ∧ t.store = s.store ∧ t.get Reg.GEN_AUD_DROP_COUNT = min (2 ^ 32 - 1) (s.get Reg.GEN_AUD_DROP_COUNT + 1))) ∧
  (∀ (i val : Nat) (s : State), i < 4 → s.responds (0x230 + 4 * i) = true → s.sessionLive →
    (s.role ≠ 1 → Does (.registerWrite (0x230 + 4 * i) val 4) s fun t => t = s) ∧
    (s.role = 1 → Does (.registerWrite (0x230 + 4 * i) val 4) s fun t => t = s.put Reg.GEN_KEY_STAGE_KEY (val % 2 ^ 32) i))

/-- The audit log, wear and the control vias: An entry that is stored takes the next SEQ and the chain over the one before it, the
oldest leaves a full log, a guarded write then takes effect, a count of lost entries goes first when room returns, and a failed store
keeps the entry; wear adds up every minute and every dosimeter reading and warns once at its threshold; the totals are saved; and
failed control vias of a powered tile take spares or disable the tile. -/
def Obligations.AuditAndWear : Prop :=
  (∀ (fuse : FuseEnd) (w : AudWait) (q : List AudWait) (s : State), (s.aud.queue = [] → Does (.auditEntryStored true fuse) s fun t => t = s) ∧
    (s.aud.queue = w :: q → Does (.auditEntryStored false fuse) s fun t => t = s.put Reg.GEN_SVC_INT_AUD_ERR 1)) ∧
  (∀ (fuse : FuseEnd) (w : AudWait) (q : List AudWait) (s : State), s.aud.queue = w :: q → q.length < 2 ^ 6 → w.write = none → s.aud.lost = 0 → let n := (s.store.log.head?.map fun h => h.seq + 1).getD 0
    n % 4096 ≠ 31 → Does (.auditEntryStored true fuse) s fun t =>
      let e := t.store.log.headD {}
      let prev := (s.store.log.head?.map (·.chain)).getD 0
      t.store.log = (e :: s.store.log).take 4096 ∧ e.seq = n ∧ e = { w.entry with seq := n, chain := e.chain } ∧ e.chain = leNat ((sha256 (leBytes 16 prev ++ (audBytes e).take 48)).take 16) ∧ t.aud = { s.aud with queue := q } ∧ t.get Reg.GEN_AUD_STATUS_PEND = q.length ∧
      ((s.audNewest : Int) - s.get Reg.GEN_AUD_MARK_SEQ < 3584 → 3584 ≤ (n : Int) - s.get Reg.GEN_AUD_MARK_SEQ → t.get Reg.GEN_SVC_INT_AUD_NEAR = 1) ∧ ((n : Int) - s.get Reg.GEN_AUD_MARK_SEQ < 3584 → t.get Reg.GEN_SVC_INT_AUD_NEAR = s.get Reg.GEN_SVC_INT_AUD_NEAR) ∧
      Only [Reg.GEN_AUD_STATUS_PEND, Reg.GEN_SVC_INT_AUD_NEAR] s t { s with regs := t.regs, aud := t.aud, store := { s.store with log := t.store.log } }) ∧
  (∀ (w : AudWait) (q : List AudWait) (s : State), s.aud.queue = w :: q → q.length < 32 → w.write = none → s.aud.lost ≠ 0 → Does (.auditEntryStored true .good) s fun t =>
      t.aud.lost = 0 ∧ t.get Reg.GEN_SVC_INT_AUD_DROP = 1 ∧ (t.aud.queue.head?.map fun x => (x.entry.kind, x.entry.arg, x.write)) = some (0x30, s.aud.lost, none) ∧ t.store.log.length = min 4096 (s.store.log.length + 1) ∧ (t.store.log.head?.map (·.kind)) = some w.entry.kind) ∧
  (∀ (w : AudWait) (q : List AudWait) (v j : Nat) (s : State), s.aud.queue = w :: q → s.aud.lost = 0 → j < 16 → v < 2 ^ 32 →
    (w.write = some (0x308, v + 2 ^ 32 * j) → Does (.auditEntryStored true .good) s fun t => t.get Reg.GEN_SPARE_THR_THR 0 j = v % 2 ^ 16) ∧
    (w.write = some (0x2B0, v) → Does (.auditEntryStored true .good) s fun t => t.get Reg.GEN_AUD_MARK_SEQ = v ∧ t.store.mark = v) ∧
    (w.write = some (0x208, v) → w.entry.kind = 2 → s.store.idLeft ≠ 0 → (Does (.auditEntryStored true .good) s fun t => t.store.moduleId = v % 4096 ∧ t.store.idSet = true ∧ t.store.idLeft = 0) ∧
      (q.length < 32 → s.store.idLeft ≠ 0 → Does (.auditEntryStored true .bad) s fun t => t.store.moduleId = s.store.moduleId ∧ t.store.idLeft = 0 ∧ (t.aud.queue.getLast?.map fun x => (x.entry.kind, x.entry.result, x.entry.target)) = some (2, 6, 0x208)))) ∧
  (∀ (tConc tTile tMax : Int) (s : State), (s.sys.phase ≠ .running → Does (.wearMinuteUpdate tConc tTile tMax) s fun t => t = s) ∧
    (s.sys.phase = .running → s.svc.swing = {} → Does (.wearMinuteUpdate tConc tTile tMax) s fun t => t.svc.wear = { s.svc.wear with hours := [s.svc.wear.hours.getD 0 0 + hourStep tConc, s.svc.wear.hours.getD 1 0 + hourStep tTile] } ∧ t.svc.swing = { lo := some tMax, hi := some tMax } ∧
      t.svc.minuteAt = s.svc.minuteAt + 60 * refSecond ∧ t.dtRef = (s.advanceTo (s.svc.minuteAt + 60 * refSecond)).dtRef ∧
      t.get Reg.GEN_WEAR_VAL_VAL 0 5 = (s.svc.wear.hours.getD 0 0 + hourStep tConc) / 2 ^ 40 % 2 ^ 32 ∧ t.get Reg.GEN_WEAR_VAL_VAL 0 6 = (s.svc.wear.hours.getD 1 0 + hourStep tTile) / 2 ^ 40 % 2 ^ 32 ∧ t.store = { s.store with warned := t.store.warned })) ∧
  (∀ (a b : Int) (s : State), s.sys.phase = .running → s.svc.swing = { lo := some a, hi := some b, dir := 0 } → a ≤ b → b < a + 640 →
    (Does (.wearMinuteUpdate 0 0 (a + 640)) s fun t => t.svc.wear.swings = s.svc.wear.swings + 1 ∧ t.svc.swing = { lo := some (a + 640), hi := some (a + 640), dir := 1 }) ∧
    (Does (.wearMinuteUpdate 0 0 (b - 640)) s fun t => t.svc.wear.swings = s.svc.wear.swings + 1 ∧ t.svc.swing = { lo := some (b - 640), hi := some (b - 640), dir := 2 }) ∧
    (b < a + 639 → Does (.wearMinuteUpdate 0 0 (a + 639)) s fun t => t.svc.wear.swings = s.svc.wear.swings)) ∧
  (∀ (k : Nat), k ≤ 8 → hourStep 1360 = 2 ^ 40 / 60 ∧ hourStep (1360 + 160 * (k : Int)) = 2 ^ (40 + k) / 60 ∧ hourStep (1360 - 160 * (k : Int)) = 2 ^ 40 / (60 * 2 ^ k)) ∧
  (∀ (a b c d e : Nat) (s : State), s.sys.phase = .running → s.store.warned = [] → (List.range 10).all (fun i => s.svc.wear.val i < s.get Reg.GEN_WEAR_THR_THR 0 i || i < 5) = true →
    b < s.get Reg.GEN_WEAR_THR_THR 0 1 → c < s.get Reg.GEN_WEAR_THR_THR 0 2 → d < s.get Reg.GEN_WEAR_THR_THR 0 3 → e < s.get Reg.GEN_WEAR_THR_THR 0 4 →
    (a < s.get Reg.GEN_WEAR_THR_THR 0 0 → Does (.dosimeterRead [a, b, c, d, e]) s fun t => t.svc.wear.dose = [a, b, c, d, e] ∧ t.svc.doseAt = s.svc.doseAt + 600 * refSecond ∧ t.get Reg.GEN_WEAR_VAL_VAL 0 3 = d % 2 ^ 32 ∧ t.store = s.store ∧ t.get Reg.GEN_SVC_INT_WEAR = s.get Reg.GEN_SVC_INT_WEAR) ∧
    (s.get Reg.GEN_WEAR_THR_THR 0 0 ≤ a → s.aud.queue.length < 32 → (s.advanceTo (s.svc.doseAt + 600 * refSecond)).aud.queue.length < 32 → Does (.dosimeterRead [a, b, c, d, e]) s fun t => t.svc.wear.dose = [a, b, c, d, e] ∧ t.get Reg.GEN_SVC_INT_WEAR = 1 ∧ t.store.warned = [(0, s.get Reg.GEN_WEAR_THR_THR 0 0)] ∧
      (t.aud.queue.getLast?.map fun w => (w.entry.kind, w.entry.target, w.entry.new)) = some (0x15, 0, a)) ∧
    (Does .serviceRecordSave s fun t => t.store = { s.store with wear := s.svc.wear } ∧ t.svc.saveAt = s.svc.saveAt + 3600 * refSecond ∧ t.svc.wear = s.svc.wear)) ∧
  (∀ (tile failed : Nat) (s : State), tile < 4 → let left := 12 - s.viasUsed 4 tile
    (failed = 0 ∨ s.sys.vfe = none → Does (.controlViaTest tile failed) s fun t => t = s) ∧
    (s.sys.vfe.isSome → failed = 1 → 1 ≤ left → s.aud.queue.length < 29 → s.get Reg.GEN_SPARE_THR_THR 0 4 < left - 1 → Does (.controlViaTest tile failed) s fun t => t.get Reg.GEN_SPARE_INFO_USED 0 4 = (s.get Reg.GEN_SPARE_INFO_USED 0 4 + 1) % 2 ^ 16 ∧ t.flt = s.flt ∧ t.get Reg.TIL_CTRL_EN tile = s.get Reg.TIL_CTRL_EN tile ∧ t.get Reg.GEN_SVC_INT_SPARE_LOW = s.get Reg.GEN_SVC_INT_SPARE_LOW ∧
      (t.aud.queue.drop s.aud.queue.length).map (fun w => w.entry.kind) = [0x11, 0x10]) ∧
    (s.sys.vfe.isSome → left < failed → s.flt.under = none → Does (.controlViaTest tile failed) s fun t => t.get Reg.TIL_CTRL_EN tile = 0 ∧ tile ∈ t.sys.viaDead ∧ t.flt.under = some { dt := s.dtRef, code := 7, sev := 3, src := tile } ∧ t.mem = s.mem))

/-- MODE 0b11 in the region map: A write that would set MODE = 0b11, whole or by its high half, leaves the entry unchanged, sets
EVT_INT.RMAP_ERR and records the index of the entry. -/
def Obligations.RegionMapMode3 : Prop :=
  (∀ (entry v k : Nat) (s : State), entry < 65536 → s.responds (0x100000 + 8 * entry) = true → bits v 12 2 = 3 → Does (.rmapEntryWrite entry 2 v) s fun t =>
    rmapAt t.evt.act k = rmapAt s.evt.act k ∧ rmapAt t.evt.shd k = rmapAt s.evt.shd k ∧ t.get Reg.EVT_INT_RMAP_ERR = 1 ∧ t.get Reg.EVT_RMAP_ERRIDX_INDEX = entry ∧
    Only [Reg.EVT_INT_RMAP_ERR, Reg.EVT_RMAP_ERRIDX_INDEX] s t { s with regs := t.regs, evt := { s.evt with half := none } }) ∧
  (∀ (entry v w k : Nat) (s : State), entry < 65536 → s.responds (0x100004 + 8 * entry) = true → s.evt.half = some (entry, w) → bits w 12 2 = 3 → Does (.rmapEntryWrite entry 1 v) s fun t =>
    rmapAt t.evt.act k = rmapAt s.evt.act k ∧ rmapAt t.evt.shd k = rmapAt s.evt.shd k ∧ t.get Reg.EVT_INT_RMAP_ERR = 1 ∧ t.get Reg.EVT_RMAP_ERRIDX_INDEX = entry ∧
    Only [Reg.EVT_INT_RMAP_ERR, Reg.EVT_RMAP_ERRIDX_INDEX] s t { s with regs := t.regs, evt := { s.evt with half := none } })

/-- BAR4 writes into a partition in use: A BAR4 write into the ring partition while RING_EN = 1, or into the burst partition while a
burst template is armed, is discarded, counts in MEM_BAR4_PROT and sets MEM_INT.PROT; a BAR4 read of any partition returns what stands
there. -/
def Obligations.Bar4Protection : Prop :=
  (∀ (off : Nat) (data : List Nat) (s : State), let a := s.get Reg.HST_BAR4_BASE_BASE * 16777216 + off
    let meets (base size : Nat) : Prop := a < (base + size) * 1048576 ∧ base * 1048576 < a + data.length
    off + data.length ≤ barSize 4 → s.bar4Up = true → a + data.length ≤ s.memCap →
    ((s.get Reg.TRG_CTRL_RING_EN = 1 ∧ 0 < s.get Reg.MEM_RING_SIZE ∧ meets (s.get Reg.MEM_RING_BASE) (s.get Reg.MEM_RING_SIZE)) ∨
      (s.frm.burst.tmpl.isSome = true ∧ 0 < s.get Reg.MEM_BURST_SIZE ∧ meets (s.get Reg.MEM_BURST_BASE) (s.get Reg.MEM_BURST_SIZE))) →
    Does (.bar4Write off data) s fun t => t.mem = s.mem ∧ t.ram = s.ram ∧ t.get Reg.MEM_BAR4_PROT_COUNT = min (2 ^ 32 - 1) (s.get Reg.MEM_BAR4_PROT_COUNT + 1) ∧ t.get Reg.MEM_INT_PROT = 1 ∧
      RegsOnly [Reg.MEM_BAR4_PROT_COUNT, Reg.MEM_INT_CNT_SAT, Reg.MEM_INT_PROT] s t) ∧
  (∀ (off n : Nat) (s : State), let a := s.get Reg.HST_BAR4_BASE_BASE * 16777216 + off
    off + n ≤ barSize 4 → s.bar4Up = true → a + n ≤ s.memCap → s.ram.err = [] → s.ram.copies = [] → Does (.bar4Read off n) s fun t => t.mem = s.mem ∧ t.get Reg.MEM_BAR4_PROT_COUNT = s.get Reg.MEM_BAR4_PROT_COUNT ∧ t.get Reg.MEM_INT_PROT = s.get Reg.MEM_INT_PROT ∧
      t.rdata = (List.range n).map (fun i => if s.ram.valid.get false ((a + i) / 512) then (memGet s.mem (a + i)).toNat else 0))

/-- Writes of BAR0 by access code and change class: A write of a wrong size or alignment, or one to a module that does not answer, is
discarded and counted; a reserved offset and a read-only field take nothing; a live field takes its value, a W1C bit that is written 1
clears, a locked field of an enabled block is refused unless it keeps its value, and a staged one waits in its shadow copy; eight
bytes write two registers; and no engine is enabled without a spill partition. -/
def Obligations.RegisterWrites : Prop :=
  (∀ (addr val size : Nat) (s : State), (Instr.registerWrite addr val size).wf = true → ((size ≠ 4 ∧ size ≠ 8) ∨ addr % size ≠ 0) →
    (s.pcieUp = true → Does (.registerWrite addr val size) s fun t => t.get Reg.HST_BADACC_COUNT = min (2 ^ 32 - 1) (s.get Reg.HST_BADACC_COUNT + 1) ∧ t.get Reg.HST_INT_BADACC = 1 ∧ RegsOnly [Reg.HST_BADACC_COUNT, Reg.HST_INT_CNT_SAT, Reg.HST_INT_BADACC] s t) ∧
    (s.pcieUp = false → Does (.registerWrite addr val size) s fun t => t = s)) ∧
  (∀ (addr val : Nat) (s : State), (Instr.registerWrite addr val 4).wf = true → addr % 4 = 0 → 0x30000 ≤ addr → addr < 0x180000 → s.pcieUp = true → s.sys.phase ≠ .running → Does (.registerWrite addr val 4) s fun t =>
    t.get Reg.HST_BADACC_COUNT = min (2 ^ 32 - 1) (s.get Reg.HST_BADACC_COUNT + 1) ∧ RegsOnly [Reg.HST_BADACC_COUNT, Reg.HST_INT_CNT_SAT] s t) ∧
  (∀ (addr val : Nat) (s : State), 0x220000 ≤ addr → addr < 0x400000 → addr % 4 = 0 → s.responds addr = true → Does (.registerWrite addr val 4) s fun t => t = s) ∧
  (∀ (val : Nat) (s : State), s.responds 0x210000 = true → Does (.registerWrite 0x210000 val 4) s fun t => t = s) ∧
  (∀ (val : Nat) (s : State), s.responds 0x210030 = true → s.responds 0x210034 = true → (Does (.registerWrite 0x210030 val 4) s fun t => t = s.put Reg.MEM_SCRUB_BASE_BLOCK (val % 2 ^ 24)) ∧
    (Does (.registerWrite 0x210030 val 8) s fun t => t = (s.put Reg.MEM_SCRUB_BASE_BLOCK (val % 2 ^ 24)).put Reg.MEM_SCRUB_LEN_BLOCKS (val / 2 ^ 32 % 2 ^ 24))) ∧
  (∀ (val : Nat) (s : State), s.responds 0x200030 = true → (s.get Reg.CMP_INT_UNC < 2 ∧ s.get Reg.CMP_INT_REDO < 2 ∧ s.get Reg.CMP_INT_SAVED < 2) → Does (.registerWrite 0x200030 val 4) s fun t =>
    t.get Reg.CMP_INT_UNC = (if val.testBit 0 then 0 else s.get Reg.CMP_INT_UNC) ∧ t.get Reg.CMP_INT_REDO = (if val.testBit 1 then 0 else s.get Reg.CMP_INT_REDO) ∧ t.get Reg.CMP_INT_SAVED = (if val.testBit 4 then 0 else s.get Reg.CMP_INT_SAVED) ∧
    RegsOnly [Reg.CMP_INT_UNC, Reg.CMP_INT_REDO, Reg.CMP_INT_RESTORE_ERR, Reg.CMP_INT_DEC_ERR, Reg.CMP_INT_SAVED, Reg.CMP_INT_REFUSED, Reg.CMP_INT_CNT_SAT] s t) ∧
  (∀ (val : Nat) (s : State), s.responds 0x69004 = true → (s.get Reg.TIL_FRM_RUN_RUN = 0 → Does (.registerWrite 0x69004 val 4) s fun t => t.get Reg.TIL_FRM_PERIOD_PERIOD = val % 2 ^ 28 ∧ RegsOnly [Reg.TIL_FRM_PERIOD_PERIOD] s t) ∧
    (s.get Reg.TIL_FRM_RUN_RUN = 1 → val % 2 ^ 28 ≠ s.get Reg.TIL_FRM_PERIOD_PERIOD → Does (.registerWrite 0x69004 val 4) s fun t => t = s.put Reg.TIL_FRM_INT_REFUSED 1) ∧
    (s.get Reg.TIL_FRM_RUN_RUN = 1 → val % 2 ^ 28 = s.get Reg.TIL_FRM_PERIOD_PERIOD → Does (.registerWrite 0x69004 val 4) s fun t => t = s)) ∧
  (∀ (val n : Nat) (s : State), s.responds 0x200044 = true → let c := s.get Reg.CMP_CTX_SEL_CTX
    c < 64 → some n = s.streamOfCtx c →
    (s.get Reg.EVT_STRM_CFGn_EN n = 1 → Does (.registerWrite 0x200044 val 4) s fun t => t.get Reg.CMP_CTX_CFG_BLKLOG 0 c = s.get Reg.CMP_CTX_CFG_BLKLOG 0 c ∧ t.get Reg.CMP_CTX_CFG_FLUSH 0 c = s.get Reg.CMP_CTX_CFG_FLUSH 0 c ∧
      t.shadowOf Reg.CMP_CTX_CFG_BLKLOG 0 c = some (val % 16) ∧ t.shadowOf Reg.CMP_CTX_CFG_KEEP 0 c = some (val / 16 % 2) ∧ t.shadowOf Reg.CMP_CTX_CFG_FLUSH 0 c = some (val / 65536 % 65536) ∧ t = { s with regs := t.regs, shadow := t.shadow } ∧ OnlyFields [] s t) ∧
    (s.get Reg.EVT_STRM_CFGn_EN n = 0 → Does (.registerWrite 0x200044 val 4) s fun t => t.get Reg.CMP_CTX_CFG_BLKLOG 0 c = val % 16 ∧ t.get Reg.CMP_CTX_CFG_KEEP 0 c = val / 16 % 2 ∧ t.get Reg.CMP_CTX_CFG_FLUSH 0 c = val / 65536 % 65536 ∧ t.shadowOf Reg.CMP_CTX_CFG_BLKLOG 0 c = none ∧
      Only [Reg.CMP_CTX_CFG_BLKLOG, Reg.CMP_CTX_CFG_KEEP, Reg.CMP_CTX_CFG_FLUSH] s t { s with regs := t.regs, shadow := t.shadow })) ∧
  (∀ (val : Nat) (s : State), s.responds 0x200000 = true → (s.get Reg.MEM_SPILL_EN = 1 → Does (.registerWrite 0x200000 val 4) s fun t => t = s.put Reg.CMP_CTRL_EN (val % 16)) ∧
    (s.get Reg.MEM_SPILL_EN = 0 → s.get Reg.CMP_CTRL_EN = 0 → val % 16 ≠ 0 → Does (.registerWrite 0x200000 val 4) s fun t => t = ((s.put Reg.CMP_CTRL_EN 0).put Reg.MEM_INT_REFUSED 1).put Reg.MEM_ERR_CODE 6))

/-- A step is the command at the front of the queue: A step is exec of the command at the front of the queue, at the state with the
rest of the queue; with the queue empty a step is next, and in reset or without power changes nothing (the model's own choice, log
entry 2). -/
def Obligations.StepTakesFront : Prop :=
  (∀ (c : Instr) (rest : List Instr) (s : State), s.pending = c :: rest → step s = exec c { s with pending := rest }) ∧
  (∀ (s : State), s.pending = [] → ∃ t, step s = .next t ∧ t.pending = [] ∧ t.sys = s.sys ∧ t.mem = s.mem ∧ ((s.sys.phase = .reset ∨ s.sys.phase = .dead) → t = s))

/-- The state after reset: After reset nothing is listed in buffer memory, no command waits, every register field reads its reset
value, and the state has the canonical form that every step keeps. -/
def Obligations.ResetState : Prop :=
  AtReset State.reset ∧ State.reset.Canon ∧ State.reset.wellQueued ∧ State.reset.mem = [] ∧ State.reset.shadow = [] ∧ State.reset.pending = [] ∧ State.reset.role = 0 ∧ State.reset.aud.queue = []

/-- Every well-formed command completes: In every state each command whose operands are in range answers a next state, with the queue
of waiting commands as it was; a command that does not is refused by name, and its operands are out of range. -/
def Obligations.CommandsComplete : Prop :=
  (∀ (c : Instr) (s : State), (Does c s fun t => t.pending = s.pending) ∨ (c.wf = false ∧ exec c s = .refused .noSuchUnit)) ∧
  (∀ (c : Instr) (s : State), c.wf = true → Does c s fun t => t.pending = s.pending)

/-- Every step keeps the canonical form: From every state whose register file, shadow copies and buffer memory are in canonical form,
and whose waiting commands are well formed, a step leads to such a state. -/
def Obligations.StepKeepsCanonical : Prop :=
  ∀ (s t : State), s.Canon → s.wellQueued → step s = .next t → (t.Canon ∧ t.wellQueued)

end
end

