-- ==== Sys2Proof/Laws/Map.lean ====
section
/-! SUPPORT. Laws/Map.lean: reading a sparse map after a write, and the canonical form that every write keeps. -/

namespace Sys2Proof.Machine

section maps

variable {κ β : Type} {lt : κ → κ → Bool}

@[simp] theorem SMap.get_nil [DecidableEq κ] (d : β) (k : κ) : SMap.get d ([] : List (κ × β)) k = d := rfl

@[simp] theorem SMap.erase_nil [DecidableEq κ] (k : κ) : SMap.erase ([] : List (κ × β)) k = [] := rfl

theorem SMap.erase_cons [DecidableEq κ] (a : κ) (v : β) (m : List (κ × β)) (k : κ) :
    SMap.erase ((a, v) :: m) k = if a = k then SMap.erase m k else (a, v) :: SMap.erase m k := by
  by_cases h : a = k <;> simp [SMap.erase, h]

theorem SMap.get_cons [DecidableEq κ] (d : β) (a : κ) (v : β) (m : List (κ × β)) (k : κ) :
    SMap.get d ((a, v) :: m) k = if k = a then v else SMap.get d m k := rfl

theorem SMap.get_erase_self [DecidableEq κ] (d : β) (m : List (κ × β)) (k : κ) : SMap.get d (SMap.erase m k) k = d := by
  induction m with
  | nil => rfl
  | cons e m ih =>
    rw [SMap.erase_cons]
    split
    · exact ih
    · next h => rw [SMap.get_cons, if_neg fun x => h x.symm, ih]

theorem SMap.get_erase_of_ne [DecidableEq κ] (d : β) (m : List (κ × β)) {k k' : κ} (h : k' ≠ k) :
    SMap.get d (SMap.erase m k) k' = SMap.get d m k' := by
  induction m with
  | nil => rfl
  | cons e m ih =>
    rw [SMap.erase_cons, SMap.get_cons]
    split
    · next ha => rw [if_neg (ha ▸ h), ih]
    · rw [SMap.get_cons, ih]

theorem SMap.get_insert_of_ne [DecidableEq κ] (d : β) (m : List (κ × β)) {k k' : κ} (v : β) (h : k' ≠ k) :
    SMap.get d (SMap.insert lt k v m) k' = SMap.get d m k' := by
  induction m with
  | nil => simp [SMap.insert, SMap.get, h]
  | cons e m ih =>
    obtain ⟨a, w⟩ := e
    simp only [SMap.insert]
    split
    · simp [SMap.get, h]
    · by_cases hk : k' = a <;> simp [SMap.get, hk, ih]

theorem SMap.get_insert_self [DecidableEq κ] (d : β) (m : List (κ × β)) (k : κ) (v : β) (h : ∀ e ∈ m, e.1 ≠ k) :
    SMap.get d (SMap.insert lt k v m) k = v := by
  induction m with
  | nil => simp [SMap.insert, SMap.get]
  | cons e m ih =>
    obtain ⟨a, w⟩ := e
    simp only [SMap.insert]
    split
    · simp [SMap.get]
    · have ha : k ≠ a := fun x => h (a, w) (by simp) x.symm
      simp [SMap.get, ha, ih fun e he => h e (by simp [he])]

theorem SMap.erase_ne [DecidableEq κ] (m : List (κ × β)) (k : κ) : ∀ e ∈ SMap.erase m k, e.1 ≠ k := by
  intro e he; simp only [SMap.erase, List.mem_filter, decide_eq_true_eq] at he; exact he.2

/-- The value just written is read. -/
@[simp] theorem SMap.get_set_self [DecidableEq κ] [DecidableEq β] (d : β) (m : List (κ × β)) (k : κ) (v : β) : SMap.get d (SMap.set lt d m k v) k = v := by
  unfold SMap.set
  split
  · next h => rw [h, SMap.get_erase_self]
  · exact SMap.get_insert_self d _ k v (SMap.erase_ne m k)

/-- A write leaves every other key alone, whatever default it is read with. -/
theorem SMap.get_set_of_ne [DecidableEq κ] [DecidableEq β] (d d' : β) (m : List (κ × β)) {k k' : κ} (v : β) (h : k' ≠ k) :
    SMap.get d' (SMap.set lt d m k v) k' = SMap.get d' m k' := by
  unfold SMap.set
  split
  · exact SMap.get_erase_of_ne d' m h
  · rw [SMap.get_insert_of_ne d' _ v h, SMap.get_erase_of_ne d' m h]

theorem SMap.mem_insert {m : List (κ × β)} {k : κ} {v : β} {e : κ × β} :
    e ∈ SMap.insert lt k v m ↔ e = (k, v) ∨ e ∈ m := by
  induction m with
  | nil => simp [SMap.insert]
  | cons x m ih =>
    simp only [SMap.insert]
    split
    · simp
    · simp [ih]; tauto

theorem SMap.sorted_erase [DecidableEq κ] {m : List (κ × β)} (h : SMap.Sorted lt m) (k : κ) : SMap.Sorted lt (SMap.erase m k) :=
  List.Pairwise.filter _ h

theorem SMap.sorted_insert (tr : ∀ a b c, lt a b = true → lt b c = true → lt a c = true)
    (tot : ∀ a b, a ≠ b → lt a b = false → lt b a = true) {m : List (κ × β)} (h : SMap.Sorted lt m) {k : κ}
    (hk : ∀ e ∈ m, e.1 ≠ k) (v : β) : SMap.Sorted lt (SMap.insert lt k v m) := by
  induction m with
  | nil => simp [SMap.insert]
  | cons e m ih =>
    simp only [SMap.insert]
    have h2 := List.pairwise_cons.1 h
    split
    · next hlt =>
      refine List.pairwise_cons.2 ⟨fun x hx => ?_, h⟩
      rcases List.mem_cons.1 hx with rfl | hx
      · exact hlt
      · exact tr _ _ _ hlt (h2.1 x hx)
    · next hlt =>
      have hlt' : lt k e.1 = false := by simpa using hlt
      refine List.pairwise_cons.2 ⟨fun x hx => ?_, ih h2.2 fun x hx => hk x (by simp [hx])⟩
      rcases SMap.mem_insert.1 hx with rfl | hx
      · exact tot _ _ (fun x => hk e (by simp) x.symm) hlt'
      · exact h2.1 x hx

/-- A write keeps the keys in order. -/
theorem SMap.sorted_set [DecidableEq κ] [DecidableEq β] (tr : ∀ a b c, lt a b = true → lt b c = true → lt a c = true)
    (tot : ∀ a b, a ≠ b → lt a b = false → lt b a = true) {m : List (κ × β)} (h : SMap.Sorted lt m) (d : β) (k : κ) (v : β) :
    SMap.Sorted lt (SMap.set lt d m k v) := by
  unfold SMap.set
  split
  · exact SMap.sorted_erase h k
  · exact SMap.sorted_insert tr tot (SMap.sorted_erase h k) (SMap.erase_ne m k) v

/-- A write of a map with no entry at its default leaves none. -/
theorem SMap.noDefault_set [DecidableEq κ] [DecidableEq β] {d : β} {m : List (κ × β)} (h : ∀ e ∈ m, e.2 ≠ d) (k : κ) (v : β) :
    ∀ e ∈ SMap.set lt d m k v, e.2 ≠ d := by
  intro e he
  unfold SMap.set at he
  split at he
  · exact h e (List.mem_of_mem_filter he)
  · next hv =>
    rcases SMap.mem_insert.1 he with rfl | he
    · exact hv
    · exact h e (List.mem_of_mem_filter he)

end maps

theorem natLt_trans (a b c : Nat) (h : natLt a b = true) (h' : natLt b c = true) : natLt a c = true := by
  simp only [natLt, Nat.blt_eq] at *; omega

theorem natLt_total (a b : Nat) (h : a ≠ b) (h' : natLt a b = false) : natLt b a = true := by
  have h2 : ¬ a < b := fun x => by rw [show natLt a b = true from by simpa [natLt] using x] at h'; exact absurd h' (by simp)
  simp only [natLt, Nat.blt_eq]; omega

theorem RKey.lt_iff (a b : RKey) :
    RKey.lt a b = true ↔ a.f < b.f ∨ (a.f = b.f ∧ (a.i < b.i ∨ (a.i = b.i ∧ a.j < b.j))) := by
  simp [RKey.lt]

theorem RKey.lt_trans (a b c : RKey) (h : RKey.lt a b = true) (h' : RKey.lt b c = true) : RKey.lt a c = true := by
  rw [RKey.lt_iff] at *; omega

theorem RKey.lt_total (a b : RKey) (h : a ≠ b) (h' : RKey.lt a b = false) : RKey.lt b a = true := by
  have h2 : ¬ RKey.lt a b = true := by simp [h']
  rw [RKey.lt_iff] at *
  obtain ⟨f, i, j⟩ := a; obtain ⟨f', i', j'⟩ := b
  simp only [ne_eq, RKey.mk.injEq] at h
  simp only at *
  omega

end Sys2Proof.Machine
end

