-- ==== Sys2Proof/Laws/State.lean ====
section
/-! SUPPORT. Laws/State.lean: what each update of the state leaves in each of its fields, one lemma per field per update. -/

namespace Sys2Proof.Machine

/-! ### `State.put` -/

@[simp] theorem State.put_pending (s : State) (f : Fld) (v i j : Nat) : (s.put f v i j).pending = s.pending := rfl
@[simp] theorem State.put_regs (s : State) (f : Fld) (v i j : Nat) : (s.put f v i j).regs = SMap.set RKey.lt (f.reset i j) s.regs ⟨f.id, i, j⟩ (trunc f.width v) := rfl
@[simp] theorem State.put_shadow (s : State) (f : Fld) (v i j : Nat) : (s.put f v i j).shadow = s.shadow := rfl
@[simp] theorem State.put_mem (s : State) (f : Fld) (v i j : Nat) : (s.put f v i j).mem = s.mem := rfl
@[simp] theorem State.put_dtRef (s : State) (f : Fld) (v i j : Nat) : (s.put f v i j).dtRef = s.dtRef := rfl
@[simp] theorem State.put_drawn (s : State) (f : Fld) (v i j : Nat) : (s.put f v i j).drawn = s.drawn := rfl
@[simp] theorem State.put_rdata (s : State) (f : Fld) (v i j : Nat) : (s.put f v i j).rdata = s.rdata := rfl
@[simp] theorem State.put_sys (s : State) (f : Fld) (v i j : Nat) : (s.put f v i j).sys = s.sys := rfl
@[simp] theorem State.put_flt (s : State) (f : Fld) (v i j : Nat) : (s.put f v i j).flt = s.flt := rfl
@[simp] theorem State.put_cores (s : State) (f : Fld) (v i j : Nat) : (s.put f v i j).cores = s.cores := rfl
@[simp] theorem State.put_aud (s : State) (f : Fld) (v i j : Nat) : (s.put f v i j).aud = s.aud := rfl
@[simp] theorem State.put_sess (s : State) (f : Fld) (v i j : Nat) : (s.put f v i j).sess = s.sess := rfl
@[simp] theorem State.put_svc (s : State) (f : Fld) (v i j : Nat) : (s.put f v i j).svc = s.svc := rfl
@[simp] theorem State.put_til (s : State) (f : Fld) (v i j : Nat) : (s.put f v i j).til = s.til := rfl
@[simp] theorem State.put_xp (s : State) (f : Fld) (v i j : Nat) : (s.put f v i j).xp = s.xp := rfl
@[simp] theorem State.put_tim (s : State) (f : Fld) (v i j : Nat) : (s.put f v i j).tim = s.tim := rfl
@[simp] theorem State.put_evt (s : State) (f : Fld) (v i j : Nat) : (s.put f v i j).evt = s.evt := rfl
@[simp] theorem State.put_topo (s : State) (f : Fld) (v i j : Nat) : (s.put f v i j).topo = s.topo := rfl
@[simp] theorem State.put_trg (s : State) (f : Fld) (v i j : Nat) : (s.put f v i j).trg = s.trg := rfl
@[simp] theorem State.put_frm (s : State) (f : Fld) (v i j : Nat) : (s.put f v i j).frm = s.frm := rfl
@[simp] theorem State.put_fab (s : State) (f : Fld) (v i j : Nat) : (s.put f v i j).fab = s.fab := rfl
@[simp] theorem State.put_tdc (s : State) (f : Fld) (v i j : Nat) : (s.put f v i j).tdc = s.tdc := rfl
@[simp] theorem State.put_aux (s : State) (f : Fld) (v i j : Nat) : (s.put f v i j).aux = s.aux := rfl
@[simp] theorem State.put_ctl (s : State) (f : Fld) (v i j : Nat) : (s.put f v i j).ctl = s.ctl := rfl
@[simp] theorem State.put_saf (s : State) (f : Fld) (v i j : Nat) : (s.put f v i j).saf = s.saf := rfl
@[simp] theorem State.put_lnk (s : State) (f : Fld) (v i j : Nat) : (s.put f v i j).lnk = s.lnk := rfl
@[simp] theorem State.put_hst (s : State) (f : Fld) (v i j : Nat) : (s.put f v i j).hst = s.hst := rfl
@[simp] theorem State.put_cmp (s : State) (f : Fld) (v i j : Nat) : (s.put f v i j).cmp = s.cmp := rfl
@[simp] theorem State.put_ram (s : State) (f : Fld) (v i j : Nat) : (s.put f v i j).ram = s.ram := rfl
@[simp] theorem State.put_store (s : State) (f : Fld) (v i j : Nat) : (s.put f v i j).store = s.store := rfl

/-! ### `State.putB` -/

@[simp] theorem State.putB_pending (s : State) (f : Fld) (b : Bool) (i j : Nat) : (s.putB f b i j).pending = s.pending := rfl
@[simp] theorem State.putB_regs (s : State) (f : Fld) (b : Bool) (i j : Nat) : (s.putB f b i j).regs = SMap.set RKey.lt (f.reset i j) s.regs ⟨f.id, i, j⟩ (trunc f.width (boolNat b)) := rfl
@[simp] theorem State.putB_shadow (s : State) (f : Fld) (b : Bool) (i j : Nat) : (s.putB f b i j).shadow = s.shadow := rfl
@[simp] theorem State.putB_mem (s : State) (f : Fld) (b : Bool) (i j : Nat) : (s.putB f b i j).mem = s.mem := rfl
@[simp] theorem State.putB_dtRef (s : State) (f : Fld) (b : Bool) (i j : Nat) : (s.putB f b i j).dtRef = s.dtRef := rfl
@[simp] theorem State.putB_drawn (s : State) (f : Fld) (b : Bool) (i j : Nat) : (s.putB f b i j).drawn = s.drawn := rfl
@[simp] theorem State.putB_rdata (s : State) (f : Fld) (b : Bool) (i j : Nat) : (s.putB f b i j).rdata = s.rdata := rfl
@[simp] theorem State.putB_sys (s : State) (f : Fld) (b : Bool) (i j : Nat) : (s.putB f b i j).sys = s.sys := rfl
@[simp] theorem State.putB_flt (s : State) (f : Fld) (b : Bool) (i j : Nat) : (s.putB f b i j).flt = s.flt := rfl
@[simp] theorem State.putB_cores (s : State) (f : Fld) (b : Bool) (i j : Nat) : (s.putB f b i j).cores = s.cores := rfl
@[simp] theorem State.putB_aud (s : State) (f : Fld) (b : Bool) (i j : Nat) : (s.putB f b i j).aud = s.aud := rfl
@[simp] theorem State.putB_sess (s : State) (f : Fld) (b : Bool) (i j : Nat) : (s.putB f b i j).sess = s.sess := rfl
@[simp] theorem State.putB_svc (s : State) (f : Fld) (b : Bool) (i j : Nat) : (s.putB f b i j).svc = s.svc := rfl
@[simp] theorem State.putB_til (s : State) (f : Fld) (b : Bool) (i j : Nat) : (s.putB f b i j).til = s.til := rfl
@[simp] theorem State.putB_xp (s : State) (f : Fld) (b : Bool) (i j : Nat) : (s.putB f b i j).xp = s.xp := rfl
@[simp] theorem State.putB_tim (s : State) (f : Fld) (b : Bool) (i j : Nat) : (s.putB f b i j).tim = s.tim := rfl
@[simp] theorem State.putB_evt (s : State) (f : Fld) (b : Bool) (i j : Nat) : (s.putB f b i j).evt = s.evt := rfl
@[simp] theorem State.putB_topo (s : State) (f : Fld) (b : Bool) (i j : Nat) : (s.putB f b i j).topo = s.topo := rfl
@[simp] theorem State.putB_trg (s : State) (f : Fld) (b : Bool) (i j : Nat) : (s.putB f b i j).trg = s.trg := rfl
@[simp] theorem State.putB_frm (s : State) (f : Fld) (b : Bool) (i j : Nat) : (s.putB f b i j).frm = s.frm := rfl
@[simp] theorem State.putB_fab (s : State) (f : Fld) (b : Bool) (i j : Nat) : (s.putB f b i j).fab = s.fab := rfl
@[simp] theorem State.putB_tdc (s : State) (f : Fld) (b : Bool) (i j : Nat) : (s.putB f b i j).tdc = s.tdc := rfl
@[simp] theorem State.putB_aux (s : State) (f : Fld) (b : Bool) (i j : Nat) : (s.putB f b i j).aux = s.aux := rfl
@[simp] theorem State.putB_ctl (s : State) (f : Fld) (b : Bool) (i j : Nat) : (s.putB f b i j).ctl = s.ctl := rfl
@[simp] theorem State.putB_saf (s : State) (f : Fld) (b : Bool) (i j : Nat) : (s.putB f b i j).saf = s.saf := rfl
@[simp] theorem State.putB_lnk (s : State) (f : Fld) (b : Bool) (i j : Nat) : (s.putB f b i j).lnk = s.lnk := rfl
@[simp] theorem State.putB_hst (s : State) (f : Fld) (b : Bool) (i j : Nat) : (s.putB f b i j).hst = s.hst := rfl
@[simp] theorem State.putB_cmp (s : State) (f : Fld) (b : Bool) (i j : Nat) : (s.putB f b i j).cmp = s.cmp := rfl
@[simp] theorem State.putB_ram (s : State) (f : Fld) (b : Bool) (i j : Nat) : (s.putB f b i j).ram = s.ram := rfl
@[simp] theorem State.putB_store (s : State) (f : Fld) (b : Bool) (i j : Nat) : (s.putB f b i j).store = s.store := rfl

/-! ### `State.clearFields` -/

@[simp] theorem State.clearFields_pending (s : State) (ids : List Nat) : (s.clearFields ids).pending = s.pending := rfl
@[simp] theorem State.clearFields_regs (s : State) (ids : List Nat) : (s.clearFields ids).regs = s.regs.filter fun e => !ids.contains e.1.f := rfl
@[simp] theorem State.clearFields_shadow (s : State) (ids : List Nat) : (s.clearFields ids).shadow = s.shadow := rfl
@[simp] theorem State.clearFields_mem (s : State) (ids : List Nat) : (s.clearFields ids).mem = s.mem := rfl
@[simp] theorem State.clearFields_dtRef (s : State) (ids : List Nat) : (s.clearFields ids).dtRef = s.dtRef := rfl
@[simp] theorem State.clearFields_drawn (s : State) (ids : List Nat) : (s.clearFields ids).drawn = s.drawn := rfl
@[simp] theorem State.clearFields_rdata (s : State) (ids : List Nat) : (s.clearFields ids).rdata = s.rdata := rfl
@[simp] theorem State.clearFields_sys (s : State) (ids : List Nat) : (s.clearFields ids).sys = s.sys := rfl
@[simp] theorem State.clearFields_flt (s : State) (ids : List Nat) : (s.clearFields ids).flt = s.flt := rfl
@[simp] theorem State.clearFields_cores (s : State) (ids : List Nat) : (s.clearFields ids).cores = s.cores := rfl
@[simp] theorem State.clearFields_aud (s : State) (ids : List Nat) : (s.clearFields ids).aud = s.aud := rfl
@[simp] theorem State.clearFields_sess (s : State) (ids : List Nat) : (s.clearFields ids).sess = s.sess := rfl
@[simp] theorem State.clearFields_svc (s : State) (ids : List Nat) : (s.clearFields ids).svc = s.svc := rfl
@[simp] theorem State.clearFields_til (s : State) (ids : List Nat) : (s.clearFields ids).til = s.til := rfl
@[simp] theorem State.clearFields_xp (s : State) (ids : List Nat) : (s.clearFields ids).xp = s.xp := rfl
@[simp] theorem State.clearFields_tim (s : State) (ids : List Nat) : (s.clearFields ids).tim = s.tim := rfl
@[simp] theorem State.clearFields_evt (s : State) (ids : List Nat) : (s.clearFields ids).evt = s.evt := rfl
@[simp] theorem State.clearFields_topo (s : State) (ids : List Nat) : (s.clearFields ids).topo = s.topo := rfl
@[simp] theorem State.clearFields_trg (s : State) (ids : List Nat) : (s.clearFields ids).trg = s.trg := rfl
@[simp] theorem State.clearFields_frm (s : State) (ids : List Nat) : (s.clearFields ids).frm = s.frm := rfl
@[simp] theorem State.clearFields_fab (s : State) (ids : List Nat) : (s.clearFields ids).fab = s.fab := rfl
@[simp] theorem State.clearFields_tdc (s : State) (ids : List Nat) : (s.clearFields ids).tdc = s.tdc := rfl
@[simp] theorem State.clearFields_aux (s : State) (ids : List Nat) : (s.clearFields ids).aux = s.aux := rfl
@[simp] theorem State.clearFields_ctl (s : State) (ids : List Nat) : (s.clearFields ids).ctl = s.ctl := rfl
@[simp] theorem State.clearFields_saf (s : State) (ids : List Nat) : (s.clearFields ids).saf = s.saf := rfl
@[simp] theorem State.clearFields_lnk (s : State) (ids : List Nat) : (s.clearFields ids).lnk = s.lnk := rfl
@[simp] theorem State.clearFields_hst (s : State) (ids : List Nat) : (s.clearFields ids).hst = s.hst := rfl
@[simp] theorem State.clearFields_cmp (s : State) (ids : List Nat) : (s.clearFields ids).cmp = s.cmp := rfl
@[simp] theorem State.clearFields_ram (s : State) (ids : List Nat) : (s.clearFields ids).ram = s.ram := rfl
@[simp] theorem State.clearFields_store (s : State) (ids : List Nat) : (s.clearFields ids).store = s.store := rfl

/-! ### `State.stage` -/

@[simp] theorem State.stage_pending (s : State) (f : Fld) (v i j : Nat) : (s.stage f v i j).pending = s.pending := rfl
@[simp] theorem State.stage_regs (s : State) (f : Fld) (v i j : Nat) : (s.stage f v i j).regs = s.regs := rfl
@[simp] theorem State.stage_shadow (s : State) (f : Fld) (v i j : Nat) : (s.stage f v i j).shadow = SMap.insert RKey.lt ⟨f.id, i, j⟩ (trunc f.width v) (SMap.erase s.shadow ⟨f.id, i, j⟩) := rfl
@[simp] theorem State.stage_mem (s : State) (f : Fld) (v i j : Nat) : (s.stage f v i j).mem = s.mem := rfl
@[simp] theorem State.stage_dtRef (s : State) (f : Fld) (v i j : Nat) : (s.stage f v i j).dtRef = s.dtRef := rfl
@[simp] theorem State.stage_drawn (s : State) (f : Fld) (v i j : Nat) : (s.stage f v i j).drawn = s.drawn := rfl
@[simp] theorem State.stage_rdata (s : State) (f : Fld) (v i j : Nat) : (s.stage f v i j).rdata = s.rdata := rfl
@[simp] theorem State.stage_sys (s : State) (f : Fld) (v i j : Nat) : (s.stage f v i j).sys = s.sys := rfl
@[simp] theorem State.stage_flt (s : State) (f : Fld) (v i j : Nat) : (s.stage f v i j).flt = s.flt := rfl
@[simp] theorem State.stage_cores (s : State) (f : Fld) (v i j : Nat) : (s.stage f v i j).cores = s.cores := rfl
@[simp] theorem State.stage_aud (s : State) (f : Fld) (v i j : Nat) : (s.stage f v i j).aud = s.aud := rfl
@[simp] theorem State.stage_sess (s : State) (f : Fld) (v i j : Nat) : (s.stage f v i j).sess = s.sess := rfl
@[simp] theorem State.stage_svc (s : State) (f : Fld) (v i j : Nat) : (s.stage f v i j).svc = s.svc := rfl
@[simp] theorem State.stage_til (s : State) (f : Fld) (v i j : Nat) : (s.stage f v i j).til = s.til := rfl
@[simp] theorem State.stage_xp (s : State) (f : Fld) (v i j : Nat) : (s.stage f v i j).xp = s.xp := rfl
@[simp] theorem State.stage_tim (s : State) (f : Fld) (v i j : Nat) : (s.stage f v i j).tim = s.tim := rfl
@[simp] theorem State.stage_evt (s : State) (f : Fld) (v i j : Nat) : (s.stage f v i j).evt = s.evt := rfl
@[simp] theorem State.stage_topo (s : State) (f : Fld) (v i j : Nat) : (s.stage f v i j).topo = s.topo := rfl
@[simp] theorem State.stage_trg (s : State) (f : Fld) (v i j : Nat) : (s.stage f v i j).trg = s.trg := rfl
@[simp] theorem State.stage_frm (s : State) (f : Fld) (v i j : Nat) : (s.stage f v i j).frm = s.frm := rfl
@[simp] theorem State.stage_fab (s : State) (f : Fld) (v i j : Nat) : (s.stage f v i j).fab = s.fab := rfl
@[simp] theorem State.stage_tdc (s : State) (f : Fld) (v i j : Nat) : (s.stage f v i j).tdc = s.tdc := rfl
@[simp] theorem State.stage_aux (s : State) (f : Fld) (v i j : Nat) : (s.stage f v i j).aux = s.aux := rfl
@[simp] theorem State.stage_ctl (s : State) (f : Fld) (v i j : Nat) : (s.stage f v i j).ctl = s.ctl := rfl
@[simp] theorem State.stage_saf (s : State) (f : Fld) (v i j : Nat) : (s.stage f v i j).saf = s.saf := rfl
@[simp] theorem State.stage_lnk (s : State) (f : Fld) (v i j : Nat) : (s.stage f v i j).lnk = s.lnk := rfl
@[simp] theorem State.stage_hst (s : State) (f : Fld) (v i j : Nat) : (s.stage f v i j).hst = s.hst := rfl
@[simp] theorem State.stage_cmp (s : State) (f : Fld) (v i j : Nat) : (s.stage f v i j).cmp = s.cmp := rfl
@[simp] theorem State.stage_ram (s : State) (f : Fld) (v i j : Nat) : (s.stage f v i j).ram = s.ram := rfl
@[simp] theorem State.stage_store (s : State) (f : Fld) (v i j : Nat) : (s.stage f v i j).store = s.store := rfl

/-! ### `State.unstage` -/

@[simp] theorem State.unstage_pending (s : State) (f : Fld) (i j : Nat) : (s.unstage f i j).pending = s.pending := rfl
@[simp] theorem State.unstage_regs (s : State) (f : Fld) (i j : Nat) : (s.unstage f i j).regs = s.regs := rfl
@[simp] theorem State.unstage_shadow (s : State) (f : Fld) (i j : Nat) : (s.unstage f i j).shadow = SMap.erase s.shadow ⟨f.id, i, j⟩ := rfl
@[simp] theorem State.unstage_mem (s : State) (f : Fld) (i j : Nat) : (s.unstage f i j).mem = s.mem := rfl
@[simp] theorem State.unstage_dtRef (s : State) (f : Fld) (i j : Nat) : (s.unstage f i j).dtRef = s.dtRef := rfl
@[simp] theorem State.unstage_drawn (s : State) (f : Fld) (i j : Nat) : (s.unstage f i j).drawn = s.drawn := rfl
@[simp] theorem State.unstage_rdata (s : State) (f : Fld) (i j : Nat) : (s.unstage f i j).rdata = s.rdata := rfl
@[simp] theorem State.unstage_sys (s : State) (f : Fld) (i j : Nat) : (s.unstage f i j).sys = s.sys := rfl
@[simp] theorem State.unstage_flt (s : State) (f : Fld) (i j : Nat) : (s.unstage f i j).flt = s.flt := rfl
@[simp] theorem State.unstage_cores (s : State) (f : Fld) (i j : Nat) : (s.unstage f i j).cores = s.cores := rfl
@[simp] theorem State.unstage_aud (s : State) (f : Fld) (i j : Nat) : (s.unstage f i j).aud = s.aud := rfl
@[simp] theorem State.unstage_sess (s : State) (f : Fld) (i j : Nat) : (s.unstage f i j).sess = s.sess := rfl
@[simp] theorem State.unstage_svc (s : State) (f : Fld) (i j : Nat) : (s.unstage f i j).svc = s.svc := rfl
@[simp] theorem State.unstage_til (s : State) (f : Fld) (i j : Nat) : (s.unstage f i j).til = s.til := rfl
@[simp] theorem State.unstage_xp (s : State) (f : Fld) (i j : Nat) : (s.unstage f i j).xp = s.xp := rfl
@[simp] theorem State.unstage_tim (s : State) (f : Fld) (i j : Nat) : (s.unstage f i j).tim = s.tim := rfl
@[simp] theorem State.unstage_evt (s : State) (f : Fld) (i j : Nat) : (s.unstage f i j).evt = s.evt := rfl
@[simp] theorem State.unstage_topo (s : State) (f : Fld) (i j : Nat) : (s.unstage f i j).topo = s.topo := rfl
@[simp] theorem State.unstage_trg (s : State) (f : Fld) (i j : Nat) : (s.unstage f i j).trg = s.trg := rfl
@[simp] theorem State.unstage_frm (s : State) (f : Fld) (i j : Nat) : (s.unstage f i j).frm = s.frm := rfl
@[simp] theorem State.unstage_fab (s : State) (f : Fld) (i j : Nat) : (s.unstage f i j).fab = s.fab := rfl
@[simp] theorem State.unstage_tdc (s : State) (f : Fld) (i j : Nat) : (s.unstage f i j).tdc = s.tdc := rfl
@[simp] theorem State.unstage_aux (s : State) (f : Fld) (i j : Nat) : (s.unstage f i j).aux = s.aux := rfl
@[simp] theorem State.unstage_ctl (s : State) (f : Fld) (i j : Nat) : (s.unstage f i j).ctl = s.ctl := rfl
@[simp] theorem State.unstage_saf (s : State) (f : Fld) (i j : Nat) : (s.unstage f i j).saf = s.saf := rfl
@[simp] theorem State.unstage_lnk (s : State) (f : Fld) (i j : Nat) : (s.unstage f i j).lnk = s.lnk := rfl
@[simp] theorem State.unstage_hst (s : State) (f : Fld) (i j : Nat) : (s.unstage f i j).hst = s.hst := rfl
@[simp] theorem State.unstage_cmp (s : State) (f : Fld) (i j : Nat) : (s.unstage f i j).cmp = s.cmp := rfl
@[simp] theorem State.unstage_ram (s : State) (f : Fld) (i j : Nat) : (s.unstage f i j).ram = s.ram := rfl
@[simp] theorem State.unstage_store (s : State) (f : Fld) (i j : Nat) : (s.unstage f i j).store = s.store := rfl

/-! ### `State.draw` -/

@[simp] theorem State.draw_pending (s : State) : s.draw.pending = s.pending := rfl
@[simp] theorem State.draw_regs (s : State) : s.draw.regs = s.regs := rfl
@[simp] theorem State.draw_shadow (s : State) : s.draw.shadow = s.shadow := rfl
@[simp] theorem State.draw_mem (s : State) : s.draw.mem = s.mem := rfl
@[simp] theorem State.draw_dtRef (s : State) : s.draw.dtRef = s.dtRef := rfl
@[simp] theorem State.draw_drawn (s : State) : s.draw.drawn = s.drawn + 1 := rfl
@[simp] theorem State.draw_rdata (s : State) : s.draw.rdata = s.rdata := rfl
@[simp] theorem State.draw_sys (s : State) : s.draw.sys = s.sys := rfl
@[simp] theorem State.draw_flt (s : State) : s.draw.flt = s.flt := rfl
@[simp] theorem State.draw_cores (s : State) : s.draw.cores = s.cores := rfl
@[simp] theorem State.draw_aud (s : State) : s.draw.aud = s.aud := rfl
@[simp] theorem State.draw_sess (s : State) : s.draw.sess = s.sess := rfl
@[simp] theorem State.draw_svc (s : State) : s.draw.svc = s.svc := rfl
@[simp] theorem State.draw_til (s : State) : s.draw.til = s.til := rfl
@[simp] theorem State.draw_xp (s : State) : s.draw.xp = s.xp := rfl
@[simp] theorem State.draw_tim (s : State) : s.draw.tim = s.tim := rfl
@[simp] theorem State.draw_evt (s : State) : s.draw.evt = s.evt := rfl
@[simp] theorem State.draw_topo (s : State) : s.draw.topo = s.topo := rfl
@[simp] theorem State.draw_trg (s : State) : s.draw.trg = s.trg := rfl
@[simp] theorem State.draw_frm (s : State) : s.draw.frm = s.frm := rfl
@[simp] theorem State.draw_fab (s : State) : s.draw.fab = s.fab := rfl
@[simp] theorem State.draw_tdc (s : State) : s.draw.tdc = s.tdc := rfl
@[simp] theorem State.draw_aux (s : State) : s.draw.aux = s.aux := rfl
@[simp] theorem State.draw_ctl (s : State) : s.draw.ctl = s.ctl := rfl
@[simp] theorem State.draw_saf (s : State) : s.draw.saf = s.saf := rfl
@[simp] theorem State.draw_lnk (s : State) : s.draw.lnk = s.lnk := rfl
@[simp] theorem State.draw_hst (s : State) : s.draw.hst = s.hst := rfl
@[simp] theorem State.draw_cmp (s : State) : s.draw.cmp = s.cmp := rfl
@[simp] theorem State.draw_ram (s : State) : s.draw.ram = s.ram := rfl
@[simp] theorem State.draw_store (s : State) : s.draw.store = s.store := rfl

/-! ### `State.dropSafety` -/

@[simp] theorem State.dropSafety_pending (s : State) : s.dropSafety.pending = s.pending := rfl
@[simp] theorem State.dropSafety_regs (s : State) : s.dropSafety.regs = s.regs := rfl
@[simp] theorem State.dropSafety_shadow (s : State) : s.dropSafety.shadow = s.shadow.filter fun e => !(safStaged.map (·.id)).contains e.1.f := rfl
@[simp] theorem State.dropSafety_mem (s : State) : s.dropSafety.mem = s.mem := rfl
@[simp] theorem State.dropSafety_dtRef (s : State) : s.dropSafety.dtRef = s.dtRef := rfl
@[simp] theorem State.dropSafety_drawn (s : State) : s.dropSafety.drawn = s.drawn := rfl
@[simp] theorem State.dropSafety_rdata (s : State) : s.dropSafety.rdata = s.rdata := rfl
@[simp] theorem State.dropSafety_sys (s : State) : s.dropSafety.sys = s.sys := rfl
@[simp] theorem State.dropSafety_flt (s : State) : s.dropSafety.flt = s.flt := rfl
@[simp] theorem State.dropSafety_cores (s : State) : s.dropSafety.cores = s.cores := rfl
@[simp] theorem State.dropSafety_aud (s : State) : s.dropSafety.aud = s.aud := rfl
@[simp] theorem State.dropSafety_sess (s : State) : s.dropSafety.sess = s.sess := rfl
@[simp] theorem State.dropSafety_svc (s : State) : s.dropSafety.svc = s.svc := rfl
@[simp] theorem State.dropSafety_til (s : State) : s.dropSafety.til = s.til := rfl
@[simp] theorem State.dropSafety_xp (s : State) : s.dropSafety.xp = s.xp := rfl
@[simp] theorem State.dropSafety_tim (s : State) : s.dropSafety.tim = s.tim := rfl
@[simp] theorem State.dropSafety_evt (s : State) : s.dropSafety.evt = s.evt := rfl
@[simp] theorem State.dropSafety_topo (s : State) : s.dropSafety.topo = s.topo := rfl
@[simp] theorem State.dropSafety_trg (s : State) : s.dropSafety.trg = s.trg := rfl
@[simp] theorem State.dropSafety_frm (s : State) : s.dropSafety.frm = s.frm := rfl
@[simp] theorem State.dropSafety_fab (s : State) : s.dropSafety.fab = s.fab := rfl
@[simp] theorem State.dropSafety_tdc (s : State) : s.dropSafety.tdc = s.tdc := rfl
@[simp] theorem State.dropSafety_aux (s : State) : s.dropSafety.aux = s.aux := rfl
@[simp] theorem State.dropSafety_ctl (s : State) : s.dropSafety.ctl = s.ctl := rfl
@[simp] theorem State.dropSafety_saf (s : State) : s.dropSafety.saf = s.saf := rfl
@[simp] theorem State.dropSafety_lnk (s : State) : s.dropSafety.lnk = s.lnk := rfl
@[simp] theorem State.dropSafety_hst (s : State) : s.dropSafety.hst = s.hst := rfl
@[simp] theorem State.dropSafety_cmp (s : State) : s.dropSafety.cmp = s.cmp := rfl
@[simp] theorem State.dropSafety_ram (s : State) : s.dropSafety.ram = s.ram := rfl
@[simp] theorem State.dropSafety_store (s : State) : s.dropSafety.store = s.store := rfl

/-! ### `State.setPhase` -/

@[simp] theorem State.setPhase_pending (s : State) (p : Phase) : (s.setPhase p).pending = s.pending := rfl
@[simp] theorem State.setPhase_regs (s : State) (p : Phase) : (s.setPhase p).regs = s.regs := rfl
@[simp] theorem State.setPhase_shadow (s : State) (p : Phase) : (s.setPhase p).shadow = s.shadow := rfl
@[simp] theorem State.setPhase_mem (s : State) (p : Phase) : (s.setPhase p).mem = s.mem := rfl
@[simp] theorem State.setPhase_dtRef (s : State) (p : Phase) : (s.setPhase p).dtRef = s.dtRef := rfl
@[simp] theorem State.setPhase_drawn (s : State) (p : Phase) : (s.setPhase p).drawn = s.drawn := rfl
@[simp] theorem State.setPhase_rdata (s : State) (p : Phase) : (s.setPhase p).rdata = s.rdata := rfl
@[simp] theorem State.setPhase_sys (s : State) (p : Phase) : (s.setPhase p).sys = { s.sys with phase := p } := rfl
@[simp] theorem State.setPhase_flt (s : State) (p : Phase) : (s.setPhase p).flt = s.flt := rfl
@[simp] theorem State.setPhase_cores (s : State) (p : Phase) : (s.setPhase p).cores = s.cores := rfl
@[simp] theorem State.setPhase_aud (s : State) (p : Phase) : (s.setPhase p).aud = s.aud := rfl
@[simp] theorem State.setPhase_sess (s : State) (p : Phase) : (s.setPhase p).sess = s.sess := rfl
@[simp] theorem State.setPhase_svc (s : State) (p : Phase) : (s.setPhase p).svc = s.svc := rfl
@[simp] theorem State.setPhase_til (s : State) (p : Phase) : (s.setPhase p).til = s.til := rfl
@[simp] theorem State.setPhase_xp (s : State) (p : Phase) : (s.setPhase p).xp = s.xp := rfl
@[simp] theorem State.setPhase_tim (s : State) (p : Phase) : (s.setPhase p).tim = s.tim := rfl
@[simp] theorem State.setPhase_evt (s : State) (p : Phase) : (s.setPhase p).evt = s.evt := rfl
@[simp] theorem State.setPhase_topo (s : State) (p : Phase) : (s.setPhase p).topo = s.topo := rfl
@[simp] theorem State.setPhase_trg (s : State) (p : Phase) : (s.setPhase p).trg = s.trg := rfl
@[simp] theorem State.setPhase_frm (s : State) (p : Phase) : (s.setPhase p).frm = s.frm := rfl
@[simp] theorem State.setPhase_fab (s : State) (p : Phase) : (s.setPhase p).fab = s.fab := rfl
@[simp] theorem State.setPhase_tdc (s : State) (p : Phase) : (s.setPhase p).tdc = s.tdc := rfl
@[simp] theorem State.setPhase_aux (s : State) (p : Phase) : (s.setPhase p).aux = s.aux := rfl
@[simp] theorem State.setPhase_ctl (s : State) (p : Phase) : (s.setPhase p).ctl = s.ctl := rfl
@[simp] theorem State.setPhase_saf (s : State) (p : Phase) : (s.setPhase p).saf = s.saf := rfl
@[simp] theorem State.setPhase_lnk (s : State) (p : Phase) : (s.setPhase p).lnk = s.lnk := rfl
@[simp] theorem State.setPhase_hst (s : State) (p : Phase) : (s.setPhase p).hst = s.hst := rfl
@[simp] theorem State.setPhase_cmp (s : State) (p : Phase) : (s.setPhase p).cmp = s.cmp := rfl
@[simp] theorem State.setPhase_ram (s : State) (p : Phase) : (s.setPhase p).ram = s.ram := rfl
@[simp] theorem State.setPhase_store (s : State) (p : Phase) : (s.setPhase p).store = s.store := rfl

/-! ### `State.setHolds` -/

@[simp] theorem State.setHolds_pending (s : State) (h : Holds) : (s.setHolds h).pending = s.pending := rfl
@[simp] theorem State.setHolds_regs (s : State) (h : Holds) : (s.setHolds h).regs = s.regs := rfl
@[simp] theorem State.setHolds_shadow (s : State) (h : Holds) : (s.setHolds h).shadow = s.shadow := rfl
@[simp] theorem State.setHolds_mem (s : State) (h : Holds) : (s.setHolds h).mem = s.mem := rfl
@[simp] theorem State.setHolds_dtRef (s : State) (h : Holds) : (s.setHolds h).dtRef = s.dtRef := rfl
@[simp] theorem State.setHolds_drawn (s : State) (h : Holds) : (s.setHolds h).drawn = s.drawn := rfl
@[simp] theorem State.setHolds_rdata (s : State) (h : Holds) : (s.setHolds h).rdata = s.rdata := rfl
@[simp] theorem State.setHolds_sys (s : State) (h : Holds) : (s.setHolds h).sys = { s.sys with holds := h } := rfl
@[simp] theorem State.setHolds_flt (s : State) (h : Holds) : (s.setHolds h).flt = s.flt := rfl
@[simp] theorem State.setHolds_cores (s : State) (h : Holds) : (s.setHolds h).cores = s.cores := rfl
@[simp] theorem State.setHolds_aud (s : State) (h : Holds) : (s.setHolds h).aud = s.aud := rfl
@[simp] theorem State.setHolds_sess (s : State) (h : Holds) : (s.setHolds h).sess = s.sess := rfl
@[simp] theorem State.setHolds_svc (s : State) (h : Holds) : (s.setHolds h).svc = s.svc := rfl
@[simp] theorem State.setHolds_til (s : State) (h : Holds) : (s.setHolds h).til = s.til := rfl
@[simp] theorem State.setHolds_xp (s : State) (h : Holds) : (s.setHolds h).xp = s.xp := rfl
@[simp] theorem State.setHolds_tim (s : State) (h : Holds) : (s.setHolds h).tim = s.tim := rfl
@[simp] theorem State.setHolds_evt (s : State) (h : Holds) : (s.setHolds h).evt = s.evt := rfl
@[simp] theorem State.setHolds_topo (s : State) (h : Holds) : (s.setHolds h).topo = s.topo := rfl
@[simp] theorem State.setHolds_trg (s : State) (h : Holds) : (s.setHolds h).trg = s.trg := rfl
@[simp] theorem State.setHolds_frm (s : State) (h : Holds) : (s.setHolds h).frm = s.frm := rfl
@[simp] theorem State.setHolds_fab (s : State) (h : Holds) : (s.setHolds h).fab = s.fab := rfl
@[simp] theorem State.setHolds_tdc (s : State) (h : Holds) : (s.setHolds h).tdc = s.tdc := rfl
@[simp] theorem State.setHolds_aux (s : State) (h : Holds) : (s.setHolds h).aux = s.aux := rfl
@[simp] theorem State.setHolds_ctl (s : State) (h : Holds) : (s.setHolds h).ctl = s.ctl := rfl
@[simp] theorem State.setHolds_saf (s : State) (h : Holds) : (s.setHolds h).saf = s.saf := rfl
@[simp] theorem State.setHolds_lnk (s : State) (h : Holds) : (s.setHolds h).lnk = s.lnk := rfl
@[simp] theorem State.setHolds_hst (s : State) (h : Holds) : (s.setHolds h).hst = s.hst := rfl
@[simp] theorem State.setHolds_cmp (s : State) (h : Holds) : (s.setHolds h).cmp = s.cmp := rfl
@[simp] theorem State.setHolds_ram (s : State) (h : Holds) : (s.setHolds h).ram = s.ram := rfl
@[simp] theorem State.setHolds_store (s : State) (h : Holds) : (s.setHolds h).store = s.store := rfl

/-! ### `State.setPixel` -/

@[simp] theorem State.setPixel_pending (s : State) (k : Nat) (p : Pix) : (s.setPixel k p).pending = s.pending := rfl
@[simp] theorem State.setPixel_regs (s : State) (k : Nat) (p : Pix) : (s.setPixel k p).regs = s.regs := rfl
@[simp] theorem State.setPixel_shadow (s : State) (k : Nat) (p : Pix) : (s.setPixel k p).shadow = s.shadow := rfl
@[simp] theorem State.setPixel_mem (s : State) (k : Nat) (p : Pix) : (s.setPixel k p).mem = s.mem := rfl
@[simp] theorem State.setPixel_dtRef (s : State) (k : Nat) (p : Pix) : (s.setPixel k p).dtRef = s.dtRef := rfl
@[simp] theorem State.setPixel_drawn (s : State) (k : Nat) (p : Pix) : (s.setPixel k p).drawn = s.drawn := rfl
@[simp] theorem State.setPixel_rdata (s : State) (k : Nat) (p : Pix) : (s.setPixel k p).rdata = s.rdata := rfl
@[simp] theorem State.setPixel_sys (s : State) (k : Nat) (p : Pix) : (s.setPixel k p).sys = s.sys := rfl
@[simp] theorem State.setPixel_flt (s : State) (k : Nat) (p : Pix) : (s.setPixel k p).flt = s.flt := rfl
@[simp] theorem State.setPixel_cores (s : State) (k : Nat) (p : Pix) : (s.setPixel k p).cores = s.cores := rfl
@[simp] theorem State.setPixel_aud (s : State) (k : Nat) (p : Pix) : (s.setPixel k p).aud = s.aud := rfl
@[simp] theorem State.setPixel_sess (s : State) (k : Nat) (p : Pix) : (s.setPixel k p).sess = s.sess := rfl
@[simp] theorem State.setPixel_svc (s : State) (k : Nat) (p : Pix) : (s.setPixel k p).svc = s.svc := rfl
@[simp] theorem State.setPixel_til (s : State) (k : Nat) (p : Pix) : (s.setPixel k p).til = { s.til with pix := s.til.pix.set {} k p } := rfl
@[simp] theorem State.setPixel_xp (s : State) (k : Nat) (p : Pix) : (s.setPixel k p).xp = s.xp := rfl
@[simp] theorem State.setPixel_tim (s : State) (k : Nat) (p : Pix) : (s.setPixel k p).tim = s.tim := rfl
@[simp] theorem State.setPixel_evt (s : State) (k : Nat) (p : Pix) : (s.setPixel k p).evt = s.evt := rfl
@[simp] theorem State.setPixel_topo (s : State) (k : Nat) (p : Pix) : (s.setPixel k p).topo = s.topo := rfl
@[simp] theorem State.setPixel_trg (s : State) (k : Nat) (p : Pix) : (s.setPixel k p).trg = s.trg := rfl
@[simp] theorem State.setPixel_frm (s : State) (k : Nat) (p : Pix) : (s.setPixel k p).frm = s.frm := rfl
@[simp] theorem State.setPixel_fab (s : State) (k : Nat) (p : Pix) : (s.setPixel k p).fab = s.fab := rfl
@[simp] theorem State.setPixel_tdc (s : State) (k : Nat) (p : Pix) : (s.setPixel k p).tdc = s.tdc := rfl
@[simp] theorem State.setPixel_aux (s : State) (k : Nat) (p : Pix) : (s.setPixel k p).aux = s.aux := rfl
@[simp] theorem State.setPixel_ctl (s : State) (k : Nat) (p : Pix) : (s.setPixel k p).ctl = s.ctl := rfl
@[simp] theorem State.setPixel_saf (s : State) (k : Nat) (p : Pix) : (s.setPixel k p).saf = s.saf := rfl
@[simp] theorem State.setPixel_lnk (s : State) (k : Nat) (p : Pix) : (s.setPixel k p).lnk = s.lnk := rfl
@[simp] theorem State.setPixel_hst (s : State) (k : Nat) (p : Pix) : (s.setPixel k p).hst = s.hst := rfl
@[simp] theorem State.setPixel_cmp (s : State) (k : Nat) (p : Pix) : (s.setPixel k p).cmp = s.cmp := rfl
@[simp] theorem State.setPixel_ram (s : State) (k : Nat) (p : Pix) : (s.setPixel k p).ram = s.ram := rfl
@[simp] theorem State.setPixel_store (s : State) (k : Nat) (p : Pix) : (s.setPixel k p).store = s.store := rfl

/-! ### `State.setSconce` -/

@[simp] theorem State.setSconce_pending (s : State) (t c : Nat) (x : Sconce) : (s.setSconce t c x).pending = s.pending := rfl
@[simp] theorem State.setSconce_regs (s : State) (t c : Nat) (x : Sconce) : (s.setSconce t c x).regs = s.regs := rfl
@[simp] theorem State.setSconce_shadow (s : State) (t c : Nat) (x : Sconce) : (s.setSconce t c x).shadow = s.shadow := rfl
@[simp] theorem State.setSconce_mem (s : State) (t c : Nat) (x : Sconce) : (s.setSconce t c x).mem = s.mem := rfl
@[simp] theorem State.setSconce_dtRef (s : State) (t c : Nat) (x : Sconce) : (s.setSconce t c x).dtRef = s.dtRef := rfl
@[simp] theorem State.setSconce_drawn (s : State) (t c : Nat) (x : Sconce) : (s.setSconce t c x).drawn = s.drawn := rfl
@[simp] theorem State.setSconce_rdata (s : State) (t c : Nat) (x : Sconce) : (s.setSconce t c x).rdata = s.rdata := rfl
@[simp] theorem State.setSconce_sys (s : State) (t c : Nat) (x : Sconce) : (s.setSconce t c x).sys = s.sys := rfl
@[simp] theorem State.setSconce_flt (s : State) (t c : Nat) (x : Sconce) : (s.setSconce t c x).flt = s.flt := rfl
@[simp] theorem State.setSconce_cores (s : State) (t c : Nat) (x : Sconce) : (s.setSconce t c x).cores = s.cores := rfl
@[simp] theorem State.setSconce_aud (s : State) (t c : Nat) (x : Sconce) : (s.setSconce t c x).aud = s.aud := rfl
@[simp] theorem State.setSconce_sess (s : State) (t c : Nat) (x : Sconce) : (s.setSconce t c x).sess = s.sess := rfl
@[simp] theorem State.setSconce_svc (s : State) (t c : Nat) (x : Sconce) : (s.setSconce t c x).svc = s.svc := rfl
@[simp] theorem State.setSconce_til (s : State) (t c : Nat) (x : Sconce) : (s.setSconce t c x).til = { s.til with sc := s.til.sc.set {} (t * 4096 + c) x } := rfl
@[simp] theorem State.setSconce_xp (s : State) (t c : Nat) (x : Sconce) : (s.setSconce t c x).xp = s.xp := rfl
@[simp] theorem State.setSconce_tim (s : State) (t c : Nat) (x : Sconce) : (s.setSconce t c x).tim = s.tim := rfl
@[simp] theorem State.setSconce_evt (s : State) (t c : Nat) (x : Sconce) : (s.setSconce t c x).evt = s.evt := rfl
@[simp] theorem State.setSconce_topo (s : State) (t c : Nat) (x : Sconce) : (s.setSconce t c x).topo = s.topo := rfl
@[simp] theorem State.setSconce_trg (s : State) (t c : Nat) (x : Sconce) : (s.setSconce t c x).trg = s.trg := rfl
@[simp] theorem State.setSconce_frm (s : State) (t c : Nat) (x : Sconce) : (s.setSconce t c x).frm = s.frm := rfl
@[simp] theorem State.setSconce_fab (s : State) (t c : Nat) (x : Sconce) : (s.setSconce t c x).fab = s.fab := rfl
@[simp] theorem State.setSconce_tdc (s : State) (t c : Nat) (x : Sconce) : (s.setSconce t c x).tdc = s.tdc := rfl
@[simp] theorem State.setSconce_aux (s : State) (t c : Nat) (x : Sconce) : (s.setSconce t c x).aux = s.aux := rfl
@[simp] theorem State.setSconce_ctl (s : State) (t c : Nat) (x : Sconce) : (s.setSconce t c x).ctl = s.ctl := rfl
@[simp] theorem State.setSconce_saf (s : State) (t c : Nat) (x : Sconce) : (s.setSconce t c x).saf = s.saf := rfl
@[simp] theorem State.setSconce_lnk (s : State) (t c : Nat) (x : Sconce) : (s.setSconce t c x).lnk = s.lnk := rfl
@[simp] theorem State.setSconce_hst (s : State) (t c : Nat) (x : Sconce) : (s.setSconce t c x).hst = s.hst := rfl
@[simp] theorem State.setSconce_cmp (s : State) (t c : Nat) (x : Sconce) : (s.setSconce t c x).cmp = s.cmp := rfl
@[simp] theorem State.setSconce_ram (s : State) (t c : Nat) (x : Sconce) : (s.setSconce t c x).ram = s.ram := rfl
@[simp] theorem State.setSconce_store (s : State) (t c : Nat) (x : Sconce) : (s.setSconce t c x).store = s.store := rfl

/-! ### `State.setTile` -/

@[simp] theorem State.setTile_pending (s : State) (t : Nat) (x : Tile) : (s.setTile t x).pending = s.pending := rfl
@[simp] theorem State.setTile_regs (s : State) (t : Nat) (x : Tile) : (s.setTile t x).regs = s.regs := rfl
@[simp] theorem State.setTile_shadow (s : State) (t : Nat) (x : Tile) : (s.setTile t x).shadow = s.shadow := rfl
@[simp] theorem State.setTile_mem (s : State) (t : Nat) (x : Tile) : (s.setTile t x).mem = s.mem := rfl
@[simp] theorem State.setTile_dtRef (s : State) (t : Nat) (x : Tile) : (s.setTile t x).dtRef = s.dtRef := rfl
@[simp] theorem State.setTile_drawn (s : State) (t : Nat) (x : Tile) : (s.setTile t x).drawn = s.drawn := rfl
@[simp] theorem State.setTile_rdata (s : State) (t : Nat) (x : Tile) : (s.setTile t x).rdata = s.rdata := rfl
@[simp] theorem State.setTile_sys (s : State) (t : Nat) (x : Tile) : (s.setTile t x).sys = s.sys := rfl
@[simp] theorem State.setTile_flt (s : State) (t : Nat) (x : Tile) : (s.setTile t x).flt = s.flt := rfl
@[simp] theorem State.setTile_cores (s : State) (t : Nat) (x : Tile) : (s.setTile t x).cores = s.cores := rfl
@[simp] theorem State.setTile_aud (s : State) (t : Nat) (x : Tile) : (s.setTile t x).aud = s.aud := rfl
@[simp] theorem State.setTile_sess (s : State) (t : Nat) (x : Tile) : (s.setTile t x).sess = s.sess := rfl
@[simp] theorem State.setTile_svc (s : State) (t : Nat) (x : Tile) : (s.setTile t x).svc = s.svc := rfl
@[simp] theorem State.setTile_til (s : State) (t : Nat) (x : Tile) : (s.setTile t x).til = { s.til with t := s.til.t.set t x } := rfl
@[simp] theorem State.setTile_xp (s : State) (t : Nat) (x : Tile) : (s.setTile t x).xp = s.xp := rfl
@[simp] theorem State.setTile_tim (s : State) (t : Nat) (x : Tile) : (s.setTile t x).tim = s.tim := rfl
@[simp] theorem State.setTile_evt (s : State) (t : Nat) (x : Tile) : (s.setTile t x).evt = s.evt := rfl
@[simp] theorem State.setTile_topo (s : State) (t : Nat) (x : Tile) : (s.setTile t x).topo = s.topo := rfl
@[simp] theorem State.setTile_trg (s : State) (t : Nat) (x : Tile) : (s.setTile t x).trg = s.trg := rfl
@[simp] theorem State.setTile_frm (s : State) (t : Nat) (x : Tile) : (s.setTile t x).frm = s.frm := rfl
@[simp] theorem State.setTile_fab (s : State) (t : Nat) (x : Tile) : (s.setTile t x).fab = s.fab := rfl
@[simp] theorem State.setTile_tdc (s : State) (t : Nat) (x : Tile) : (s.setTile t x).tdc = s.tdc := rfl
@[simp] theorem State.setTile_aux (s : State) (t : Nat) (x : Tile) : (s.setTile t x).aux = s.aux := rfl
@[simp] theorem State.setTile_ctl (s : State) (t : Nat) (x : Tile) : (s.setTile t x).ctl = s.ctl := rfl
@[simp] theorem State.setTile_saf (s : State) (t : Nat) (x : Tile) : (s.setTile t x).saf = s.saf := rfl
@[simp] theorem State.setTile_lnk (s : State) (t : Nat) (x : Tile) : (s.setTile t x).lnk = s.lnk := rfl
@[simp] theorem State.setTile_hst (s : State) (t : Nat) (x : Tile) : (s.setTile t x).hst = s.hst := rfl
@[simp] theorem State.setTile_cmp (s : State) (t : Nat) (x : Tile) : (s.setTile t x).cmp = s.cmp := rfl
@[simp] theorem State.setTile_ram (s : State) (t : Nat) (x : Tile) : (s.setTile t x).ram = s.ram := rfl
@[simp] theorem State.setTile_store (s : State) (t : Nat) (x : Tile) : (s.setTile t x).store = s.store := rfl

/-! ### `State.setCols` -/

@[simp] theorem State.setCols_pending (s : State) (t : Nat) (x : Cols) : (s.setCols t x).pending = s.pending := rfl
@[simp] theorem State.setCols_regs (s : State) (t : Nat) (x : Cols) : (s.setCols t x).regs = s.regs := rfl
@[simp] theorem State.setCols_shadow (s : State) (t : Nat) (x : Cols) : (s.setCols t x).shadow = s.shadow := rfl
@[simp] theorem State.setCols_mem (s : State) (t : Nat) (x : Cols) : (s.setCols t x).mem = s.mem := rfl
@[simp] theorem State.setCols_dtRef (s : State) (t : Nat) (x : Cols) : (s.setCols t x).dtRef = s.dtRef := rfl
@[simp] theorem State.setCols_drawn (s : State) (t : Nat) (x : Cols) : (s.setCols t x).drawn = s.drawn := rfl
@[simp] theorem State.setCols_rdata (s : State) (t : Nat) (x : Cols) : (s.setCols t x).rdata = s.rdata := rfl
@[simp] theorem State.setCols_sys (s : State) (t : Nat) (x : Cols) : (s.setCols t x).sys = s.sys := rfl
@[simp] theorem State.setCols_flt (s : State) (t : Nat) (x : Cols) : (s.setCols t x).flt = s.flt := rfl
@[simp] theorem State.setCols_cores (s : State) (t : Nat) (x : Cols) : (s.setCols t x).cores = s.cores := rfl
@[simp] theorem State.setCols_aud (s : State) (t : Nat) (x : Cols) : (s.setCols t x).aud = s.aud := rfl
@[simp] theorem State.setCols_sess (s : State) (t : Nat) (x : Cols) : (s.setCols t x).sess = s.sess := rfl
@[simp] theorem State.setCols_svc (s : State) (t : Nat) (x : Cols) : (s.setCols t x).svc = s.svc := rfl
@[simp] theorem State.setCols_til (s : State) (t : Nat) (x : Cols) : (s.setCols t x).til = s.til := rfl
@[simp] theorem State.setCols_xp (s : State) (t : Nat) (x : Cols) : (s.setCols t x).xp = { s.xp with cols := s.xp.cols.set t x } := rfl
@[simp] theorem State.setCols_tim (s : State) (t : Nat) (x : Cols) : (s.setCols t x).tim = s.tim := rfl
@[simp] theorem State.setCols_evt (s : State) (t : Nat) (x : Cols) : (s.setCols t x).evt = s.evt := rfl
@[simp] theorem State.setCols_topo (s : State) (t : Nat) (x : Cols) : (s.setCols t x).topo = s.topo := rfl
@[simp] theorem State.setCols_trg (s : State) (t : Nat) (x : Cols) : (s.setCols t x).trg = s.trg := rfl
@[simp] theorem State.setCols_frm (s : State) (t : Nat) (x : Cols) : (s.setCols t x).frm = s.frm := rfl
@[simp] theorem State.setCols_fab (s : State) (t : Nat) (x : Cols) : (s.setCols t x).fab = s.fab := rfl
@[simp] theorem State.setCols_tdc (s : State) (t : Nat) (x : Cols) : (s.setCols t x).tdc = s.tdc := rfl
@[simp] theorem State.setCols_aux (s : State) (t : Nat) (x : Cols) : (s.setCols t x).aux = s.aux := rfl
@[simp] theorem State.setCols_ctl (s : State) (t : Nat) (x : Cols) : (s.setCols t x).ctl = s.ctl := rfl
@[simp] theorem State.setCols_saf (s : State) (t : Nat) (x : Cols) : (s.setCols t x).saf = s.saf := rfl
@[simp] theorem State.setCols_lnk (s : State) (t : Nat) (x : Cols) : (s.setCols t x).lnk = s.lnk := rfl
@[simp] theorem State.setCols_hst (s : State) (t : Nat) (x : Cols) : (s.setCols t x).hst = s.hst := rfl
@[simp] theorem State.setCols_cmp (s : State) (t : Nat) (x : Cols) : (s.setCols t x).cmp = s.cmp := rfl
@[simp] theorem State.setCols_ram (s : State) (t : Nat) (x : Cols) : (s.setCols t x).ram = s.ram := rfl
@[simp] theorem State.setCols_store (s : State) (t : Nat) (x : Cols) : (s.setCols t x).store = s.store := rfl

/-! ### `State.setBnd` -/

@[simp] theorem State.setBnd_pending (s : State) (t : Nat) (x : Bundle) : (s.setBnd t x).pending = s.pending := rfl
@[simp] theorem State.setBnd_regs (s : State) (t : Nat) (x : Bundle) : (s.setBnd t x).regs = s.regs := rfl
@[simp] theorem State.setBnd_shadow (s : State) (t : Nat) (x : Bundle) : (s.setBnd t x).shadow = s.shadow := rfl
@[simp] theorem State.setBnd_mem (s : State) (t : Nat) (x : Bundle) : (s.setBnd t x).mem = s.mem := rfl
@[simp] theorem State.setBnd_dtRef (s : State) (t : Nat) (x : Bundle) : (s.setBnd t x).dtRef = s.dtRef := rfl
@[simp] theorem State.setBnd_drawn (s : State) (t : Nat) (x : Bundle) : (s.setBnd t x).drawn = s.drawn := rfl
@[simp] theorem State.setBnd_rdata (s : State) (t : Nat) (x : Bundle) : (s.setBnd t x).rdata = s.rdata := rfl
@[simp] theorem State.setBnd_sys (s : State) (t : Nat) (x : Bundle) : (s.setBnd t x).sys = s.sys := rfl
@[simp] theorem State.setBnd_flt (s : State) (t : Nat) (x : Bundle) : (s.setBnd t x).flt = s.flt := rfl
@[simp] theorem State.setBnd_cores (s : State) (t : Nat) (x : Bundle) : (s.setBnd t x).cores = s.cores := rfl
@[simp] theorem State.setBnd_aud (s : State) (t : Nat) (x : Bundle) : (s.setBnd t x).aud = s.aud := rfl
@[simp] theorem State.setBnd_sess (s : State) (t : Nat) (x : Bundle) : (s.setBnd t x).sess = s.sess := rfl
@[simp] theorem State.setBnd_svc (s : State) (t : Nat) (x : Bundle) : (s.setBnd t x).svc = s.svc := rfl
@[simp] theorem State.setBnd_til (s : State) (t : Nat) (x : Bundle) : (s.setBnd t x).til = s.til := rfl
@[simp] theorem State.setBnd_xp (s : State) (t : Nat) (x : Bundle) : (s.setBnd t x).xp = { s.xp with bnd := s.xp.bnd.set t x } := rfl
@[simp] theorem State.setBnd_tim (s : State) (t : Nat) (x : Bundle) : (s.setBnd t x).tim = s.tim := rfl
@[simp] theorem State.setBnd_evt (s : State) (t : Nat) (x : Bundle) : (s.setBnd t x).evt = s.evt := rfl
@[simp] theorem State.setBnd_topo (s : State) (t : Nat) (x : Bundle) : (s.setBnd t x).topo = s.topo := rfl
@[simp] theorem State.setBnd_trg (s : State) (t : Nat) (x : Bundle) : (s.setBnd t x).trg = s.trg := rfl
@[simp] theorem State.setBnd_frm (s : State) (t : Nat) (x : Bundle) : (s.setBnd t x).frm = s.frm := rfl
@[simp] theorem State.setBnd_fab (s : State) (t : Nat) (x : Bundle) : (s.setBnd t x).fab = s.fab := rfl
@[simp] theorem State.setBnd_tdc (s : State) (t : Nat) (x : Bundle) : (s.setBnd t x).tdc = s.tdc := rfl
@[simp] theorem State.setBnd_aux (s : State) (t : Nat) (x : Bundle) : (s.setBnd t x).aux = s.aux := rfl
@[simp] theorem State.setBnd_ctl (s : State) (t : Nat) (x : Bundle) : (s.setBnd t x).ctl = s.ctl := rfl
@[simp] theorem State.setBnd_saf (s : State) (t : Nat) (x : Bundle) : (s.setBnd t x).saf = s.saf := rfl
@[simp] theorem State.setBnd_lnk (s : State) (t : Nat) (x : Bundle) : (s.setBnd t x).lnk = s.lnk := rfl
@[simp] theorem State.setBnd_hst (s : State) (t : Nat) (x : Bundle) : (s.setBnd t x).hst = s.hst := rfl
@[simp] theorem State.setBnd_cmp (s : State) (t : Nat) (x : Bundle) : (s.setBnd t x).cmp = s.cmp := rfl
@[simp] theorem State.setBnd_ram (s : State) (t : Nat) (x : Bundle) : (s.setBnd t x).ram = s.ram := rfl
@[simp] theorem State.setBnd_store (s : State) (t : Nat) (x : Bundle) : (s.setBnd t x).store = s.store := rfl

/-! ### `State.setStrm` -/

@[simp] theorem State.setStrm_pending (s : State) (n : Nat) (x : Strm) : (s.setStrm n x).pending = s.pending := rfl
@[simp] theorem State.setStrm_regs (s : State) (n : Nat) (x : Strm) : (s.setStrm n x).regs = s.regs := rfl
@[simp] theorem State.setStrm_shadow (s : State) (n : Nat) (x : Strm) : (s.setStrm n x).shadow = s.shadow := rfl
@[simp] theorem State.setStrm_mem (s : State) (n : Nat) (x : Strm) : (s.setStrm n x).mem = s.mem := rfl
@[simp] theorem State.setStrm_dtRef (s : State) (n : Nat) (x : Strm) : (s.setStrm n x).dtRef = s.dtRef := rfl
@[simp] theorem State.setStrm_drawn (s : State) (n : Nat) (x : Strm) : (s.setStrm n x).drawn = s.drawn := rfl
@[simp] theorem State.setStrm_rdata (s : State) (n : Nat) (x : Strm) : (s.setStrm n x).rdata = s.rdata := rfl
@[simp] theorem State.setStrm_sys (s : State) (n : Nat) (x : Strm) : (s.setStrm n x).sys = s.sys := rfl
@[simp] theorem State.setStrm_flt (s : State) (n : Nat) (x : Strm) : (s.setStrm n x).flt = s.flt := rfl
@[simp] theorem State.setStrm_cores (s : State) (n : Nat) (x : Strm) : (s.setStrm n x).cores = s.cores := rfl
@[simp] theorem State.setStrm_aud (s : State) (n : Nat) (x : Strm) : (s.setStrm n x).aud = s.aud := rfl
@[simp] theorem State.setStrm_sess (s : State) (n : Nat) (x : Strm) : (s.setStrm n x).sess = s.sess := rfl
@[simp] theorem State.setStrm_svc (s : State) (n : Nat) (x : Strm) : (s.setStrm n x).svc = s.svc := rfl
@[simp] theorem State.setStrm_til (s : State) (n : Nat) (x : Strm) : (s.setStrm n x).til = s.til := rfl
@[simp] theorem State.setStrm_xp (s : State) (n : Nat) (x : Strm) : (s.setStrm n x).xp = s.xp := rfl
@[simp] theorem State.setStrm_tim (s : State) (n : Nat) (x : Strm) : (s.setStrm n x).tim = s.tim := rfl
@[simp] theorem State.setStrm_evt (s : State) (n : Nat) (x : Strm) : (s.setStrm n x).evt = { s.evt with strm := s.evt.strm.set {} n x } := rfl
@[simp] theorem State.setStrm_topo (s : State) (n : Nat) (x : Strm) : (s.setStrm n x).topo = s.topo := rfl
@[simp] theorem State.setStrm_trg (s : State) (n : Nat) (x : Strm) : (s.setStrm n x).trg = s.trg := rfl
@[simp] theorem State.setStrm_frm (s : State) (n : Nat) (x : Strm) : (s.setStrm n x).frm = s.frm := rfl
@[simp] theorem State.setStrm_fab (s : State) (n : Nat) (x : Strm) : (s.setStrm n x).fab = s.fab := rfl
@[simp] theorem State.setStrm_tdc (s : State) (n : Nat) (x : Strm) : (s.setStrm n x).tdc = s.tdc := rfl
@[simp] theorem State.setStrm_aux (s : State) (n : Nat) (x : Strm) : (s.setStrm n x).aux = s.aux := rfl
@[simp] theorem State.setStrm_ctl (s : State) (n : Nat) (x : Strm) : (s.setStrm n x).ctl = s.ctl := rfl
@[simp] theorem State.setStrm_saf (s : State) (n : Nat) (x : Strm) : (s.setStrm n x).saf = s.saf := rfl
@[simp] theorem State.setStrm_lnk (s : State) (n : Nat) (x : Strm) : (s.setStrm n x).lnk = s.lnk := rfl
@[simp] theorem State.setStrm_hst (s : State) (n : Nat) (x : Strm) : (s.setStrm n x).hst = s.hst := rfl
@[simp] theorem State.setStrm_cmp (s : State) (n : Nat) (x : Strm) : (s.setStrm n x).cmp = s.cmp := rfl
@[simp] theorem State.setStrm_ram (s : State) (n : Nat) (x : Strm) : (s.setStrm n x).ram = s.ram := rfl
@[simp] theorem State.setStrm_store (s : State) (n : Nat) (x : Strm) : (s.setStrm n x).store = s.store := rfl

/-! ### `State.setCtx` -/

@[simp] theorem State.setCtx_pending (s : State) (i : Nat) (c : Ctx) : (s.setCtx i c).pending = s.pending := rfl
@[simp] theorem State.setCtx_regs (s : State) (i : Nat) (c : Ctx) : (s.setCtx i c).regs = s.regs := rfl
@[simp] theorem State.setCtx_shadow (s : State) (i : Nat) (c : Ctx) : (s.setCtx i c).shadow = s.shadow := rfl
@[simp] theorem State.setCtx_mem (s : State) (i : Nat) (c : Ctx) : (s.setCtx i c).mem = s.mem := rfl
@[simp] theorem State.setCtx_dtRef (s : State) (i : Nat) (c : Ctx) : (s.setCtx i c).dtRef = s.dtRef := rfl
@[simp] theorem State.setCtx_drawn (s : State) (i : Nat) (c : Ctx) : (s.setCtx i c).drawn = s.drawn := rfl
@[simp] theorem State.setCtx_rdata (s : State) (i : Nat) (c : Ctx) : (s.setCtx i c).rdata = s.rdata := rfl
@[simp] theorem State.setCtx_sys (s : State) (i : Nat) (c : Ctx) : (s.setCtx i c).sys = s.sys := rfl
@[simp] theorem State.setCtx_flt (s : State) (i : Nat) (c : Ctx) : (s.setCtx i c).flt = s.flt := rfl
@[simp] theorem State.setCtx_cores (s : State) (i : Nat) (c : Ctx) : (s.setCtx i c).cores = s.cores := rfl
@[simp] theorem State.setCtx_aud (s : State) (i : Nat) (c : Ctx) : (s.setCtx i c).aud = s.aud := rfl
@[simp] theorem State.setCtx_sess (s : State) (i : Nat) (c : Ctx) : (s.setCtx i c).sess = s.sess := rfl
@[simp] theorem State.setCtx_svc (s : State) (i : Nat) (c : Ctx) : (s.setCtx i c).svc = s.svc := rfl
@[simp] theorem State.setCtx_til (s : State) (i : Nat) (c : Ctx) : (s.setCtx i c).til = s.til := rfl
@[simp] theorem State.setCtx_xp (s : State) (i : Nat) (c : Ctx) : (s.setCtx i c).xp = s.xp := rfl
@[simp] theorem State.setCtx_tim (s : State) (i : Nat) (c : Ctx) : (s.setCtx i c).tim = s.tim := rfl
@[simp] theorem State.setCtx_evt (s : State) (i : Nat) (c : Ctx) : (s.setCtx i c).evt = s.evt := rfl
@[simp] theorem State.setCtx_topo (s : State) (i : Nat) (c : Ctx) : (s.setCtx i c).topo = s.topo := rfl
@[simp] theorem State.setCtx_trg (s : State) (i : Nat) (c : Ctx) : (s.setCtx i c).trg = { s.trg with ctx := s.trg.ctx.set {} i c } := rfl
@[simp] theorem State.setCtx_frm (s : State) (i : Nat) (c : Ctx) : (s.setCtx i c).frm = s.frm := rfl
@[simp] theorem State.setCtx_fab (s : State) (i : Nat) (c : Ctx) : (s.setCtx i c).fab = s.fab := rfl
@[simp] theorem State.setCtx_tdc (s : State) (i : Nat) (c : Ctx) : (s.setCtx i c).tdc = s.tdc := rfl
@[simp] theorem State.setCtx_aux (s : State) (i : Nat) (c : Ctx) : (s.setCtx i c).aux = s.aux := rfl
@[simp] theorem State.setCtx_ctl (s : State) (i : Nat) (c : Ctx) : (s.setCtx i c).ctl = s.ctl := rfl
@[simp] theorem State.setCtx_saf (s : State) (i : Nat) (c : Ctx) : (s.setCtx i c).saf = s.saf := rfl
@[simp] theorem State.setCtx_lnk (s : State) (i : Nat) (c : Ctx) : (s.setCtx i c).lnk = s.lnk := rfl
@[simp] theorem State.setCtx_hst (s : State) (i : Nat) (c : Ctx) : (s.setCtx i c).hst = s.hst := rfl
@[simp] theorem State.setCtx_cmp (s : State) (i : Nat) (c : Ctx) : (s.setCtx i c).cmp = s.cmp := rfl
@[simp] theorem State.setCtx_ram (s : State) (i : Nat) (c : Ctx) : (s.setCtx i c).ram = s.ram := rfl
@[simp] theorem State.setCtx_store (s : State) (i : Nat) (c : Ctx) : (s.setCtx i c).store = s.store := rfl

/-! ### `State.setTmpl` -/

@[simp] theorem State.setTmpl_pending (s : State) (k : Nat) (t : Tmpl) : (s.setTmpl k t).pending = s.pending := rfl
@[simp] theorem State.setTmpl_regs (s : State) (k : Nat) (t : Tmpl) : (s.setTmpl k t).regs = s.regs := rfl
@[simp] theorem State.setTmpl_shadow (s : State) (k : Nat) (t : Tmpl) : (s.setTmpl k t).shadow = s.shadow := rfl
@[simp] theorem State.setTmpl_mem (s : State) (k : Nat) (t : Tmpl) : (s.setTmpl k t).mem = s.mem := rfl
@[simp] theorem State.setTmpl_dtRef (s : State) (k : Nat) (t : Tmpl) : (s.setTmpl k t).dtRef = s.dtRef := rfl
@[simp] theorem State.setTmpl_drawn (s : State) (k : Nat) (t : Tmpl) : (s.setTmpl k t).drawn = s.drawn := rfl
@[simp] theorem State.setTmpl_rdata (s : State) (k : Nat) (t : Tmpl) : (s.setTmpl k t).rdata = s.rdata := rfl
@[simp] theorem State.setTmpl_sys (s : State) (k : Nat) (t : Tmpl) : (s.setTmpl k t).sys = s.sys := rfl
@[simp] theorem State.setTmpl_flt (s : State) (k : Nat) (t : Tmpl) : (s.setTmpl k t).flt = s.flt := rfl
@[simp] theorem State.setTmpl_cores (s : State) (k : Nat) (t : Tmpl) : (s.setTmpl k t).cores = s.cores := rfl
@[simp] theorem State.setTmpl_aud (s : State) (k : Nat) (t : Tmpl) : (s.setTmpl k t).aud = s.aud := rfl
@[simp] theorem State.setTmpl_sess (s : State) (k : Nat) (t : Tmpl) : (s.setTmpl k t).sess = s.sess := rfl
@[simp] theorem State.setTmpl_svc (s : State) (k : Nat) (t : Tmpl) : (s.setTmpl k t).svc = s.svc := rfl
@[simp] theorem State.setTmpl_til (s : State) (k : Nat) (t : Tmpl) : (s.setTmpl k t).til = s.til := rfl
@[simp] theorem State.setTmpl_xp (s : State) (k : Nat) (t : Tmpl) : (s.setTmpl k t).xp = s.xp := rfl
@[simp] theorem State.setTmpl_tim (s : State) (k : Nat) (t : Tmpl) : (s.setTmpl k t).tim = s.tim := rfl
@[simp] theorem State.setTmpl_evt (s : State) (k : Nat) (t : Tmpl) : (s.setTmpl k t).evt = s.evt := rfl
@[simp] theorem State.setTmpl_topo (s : State) (k : Nat) (t : Tmpl) : (s.setTmpl k t).topo = s.topo := rfl
@[simp] theorem State.setTmpl_trg (s : State) (k : Nat) (t : Tmpl) : (s.setTmpl k t).trg = { s.trg with tmpl := s.trg.tmpl.set k t } := rfl
@[simp] theorem State.setTmpl_frm (s : State) (k : Nat) (t : Tmpl) : (s.setTmpl k t).frm = s.frm := rfl
@[simp] theorem State.setTmpl_fab (s : State) (k : Nat) (t : Tmpl) : (s.setTmpl k t).fab = s.fab := rfl
@[simp] theorem State.setTmpl_tdc (s : State) (k : Nat) (t : Tmpl) : (s.setTmpl k t).tdc = s.tdc := rfl
@[simp] theorem State.setTmpl_aux (s : State) (k : Nat) (t : Tmpl) : (s.setTmpl k t).aux = s.aux := rfl
@[simp] theorem State.setTmpl_ctl (s : State) (k : Nat) (t : Tmpl) : (s.setTmpl k t).ctl = s.ctl := rfl
@[simp] theorem State.setTmpl_saf (s : State) (k : Nat) (t : Tmpl) : (s.setTmpl k t).saf = s.saf := rfl
@[simp] theorem State.setTmpl_lnk (s : State) (k : Nat) (t : Tmpl) : (s.setTmpl k t).lnk = s.lnk := rfl
@[simp] theorem State.setTmpl_hst (s : State) (k : Nat) (t : Tmpl) : (s.setTmpl k t).hst = s.hst := rfl
@[simp] theorem State.setTmpl_cmp (s : State) (k : Nat) (t : Tmpl) : (s.setTmpl k t).cmp = s.cmp := rfl
@[simp] theorem State.setTmpl_ram (s : State) (k : Nat) (t : Tmpl) : (s.setTmpl k t).ram = s.ram := rfl
@[simp] theorem State.setTmpl_store (s : State) (k : Nat) (t : Tmpl) : (s.setTmpl k t).store = s.store := rfl

/-! ### `State.setRing` -/

@[simp] theorem State.setRing_pending (s : State) (r : Ring) : (s.setRing r).pending = s.pending := rfl
@[simp] theorem State.setRing_regs (s : State) (r : Ring) : (s.setRing r).regs = s.regs := rfl
@[simp] theorem State.setRing_shadow (s : State) (r : Ring) : (s.setRing r).shadow = s.shadow := rfl
@[simp] theorem State.setRing_mem (s : State) (r : Ring) : (s.setRing r).mem = s.mem := rfl
@[simp] theorem State.setRing_dtRef (s : State) (r : Ring) : (s.setRing r).dtRef = s.dtRef := rfl
@[simp] theorem State.setRing_drawn (s : State) (r : Ring) : (s.setRing r).drawn = s.drawn := rfl
@[simp] theorem State.setRing_rdata (s : State) (r : Ring) : (s.setRing r).rdata = s.rdata := rfl
@[simp] theorem State.setRing_sys (s : State) (r : Ring) : (s.setRing r).sys = s.sys := rfl
@[simp] theorem State.setRing_flt (s : State) (r : Ring) : (s.setRing r).flt = s.flt := rfl
@[simp] theorem State.setRing_cores (s : State) (r : Ring) : (s.setRing r).cores = s.cores := rfl
@[simp] theorem State.setRing_aud (s : State) (r : Ring) : (s.setRing r).aud = s.aud := rfl
@[simp] theorem State.setRing_sess (s : State) (r : Ring) : (s.setRing r).sess = s.sess := rfl
@[simp] theorem State.setRing_svc (s : State) (r : Ring) : (s.setRing r).svc = s.svc := rfl
@[simp] theorem State.setRing_til (s : State) (r : Ring) : (s.setRing r).til = s.til := rfl
@[simp] theorem State.setRing_xp (s : State) (r : Ring) : (s.setRing r).xp = s.xp := rfl
@[simp] theorem State.setRing_tim (s : State) (r : Ring) : (s.setRing r).tim = s.tim := rfl
@[simp] theorem State.setRing_evt (s : State) (r : Ring) : (s.setRing r).evt = s.evt := rfl
@[simp] theorem State.setRing_topo (s : State) (r : Ring) : (s.setRing r).topo = s.topo := rfl
@[simp] theorem State.setRing_trg (s : State) (r : Ring) : (s.setRing r).trg = { s.trg with ring := r } := rfl
@[simp] theorem State.setRing_frm (s : State) (r : Ring) : (s.setRing r).frm = s.frm := rfl
@[simp] theorem State.setRing_fab (s : State) (r : Ring) : (s.setRing r).fab = s.fab := rfl
@[simp] theorem State.setRing_tdc (s : State) (r : Ring) : (s.setRing r).tdc = s.tdc := rfl
@[simp] theorem State.setRing_aux (s : State) (r : Ring) : (s.setRing r).aux = s.aux := rfl
@[simp] theorem State.setRing_ctl (s : State) (r : Ring) : (s.setRing r).ctl = s.ctl := rfl
@[simp] theorem State.setRing_saf (s : State) (r : Ring) : (s.setRing r).saf = s.saf := rfl
@[simp] theorem State.setRing_lnk (s : State) (r : Ring) : (s.setRing r).lnk = s.lnk := rfl
@[simp] theorem State.setRing_hst (s : State) (r : Ring) : (s.setRing r).hst = s.hst := rfl
@[simp] theorem State.setRing_cmp (s : State) (r : Ring) : (s.setRing r).cmp = s.cmp := rfl
@[simp] theorem State.setRing_ram (s : State) (r : Ring) : (s.setRing r).ram = s.ram := rfl
@[simp] theorem State.setRing_store (s : State) (r : Ring) : (s.setRing r).store = s.store := rfl

/-! ### `State.setMask` -/

@[simp] theorem State.setMask_pending (s : State) (k : Nat) (m : MaskUnit) : (s.setMask k m).pending = s.pending := rfl
@[simp] theorem State.setMask_regs (s : State) (k : Nat) (m : MaskUnit) : (s.setMask k m).regs = s.regs := rfl
@[simp] theorem State.setMask_shadow (s : State) (k : Nat) (m : MaskUnit) : (s.setMask k m).shadow = s.shadow := rfl
@[simp] theorem State.setMask_mem (s : State) (k : Nat) (m : MaskUnit) : (s.setMask k m).mem = s.mem := rfl
@[simp] theorem State.setMask_dtRef (s : State) (k : Nat) (m : MaskUnit) : (s.setMask k m).dtRef = s.dtRef := rfl
@[simp] theorem State.setMask_drawn (s : State) (k : Nat) (m : MaskUnit) : (s.setMask k m).drawn = s.drawn := rfl
@[simp] theorem State.setMask_rdata (s : State) (k : Nat) (m : MaskUnit) : (s.setMask k m).rdata = s.rdata := rfl
@[simp] theorem State.setMask_sys (s : State) (k : Nat) (m : MaskUnit) : (s.setMask k m).sys = s.sys := rfl
@[simp] theorem State.setMask_flt (s : State) (k : Nat) (m : MaskUnit) : (s.setMask k m).flt = s.flt := rfl
@[simp] theorem State.setMask_cores (s : State) (k : Nat) (m : MaskUnit) : (s.setMask k m).cores = s.cores := rfl
@[simp] theorem State.setMask_aud (s : State) (k : Nat) (m : MaskUnit) : (s.setMask k m).aud = s.aud := rfl
@[simp] theorem State.setMask_sess (s : State) (k : Nat) (m : MaskUnit) : (s.setMask k m).sess = s.sess := rfl
@[simp] theorem State.setMask_svc (s : State) (k : Nat) (m : MaskUnit) : (s.setMask k m).svc = s.svc := rfl
@[simp] theorem State.setMask_til (s : State) (k : Nat) (m : MaskUnit) : (s.setMask k m).til = s.til := rfl
@[simp] theorem State.setMask_xp (s : State) (k : Nat) (m : MaskUnit) : (s.setMask k m).xp = s.xp := rfl
@[simp] theorem State.setMask_tim (s : State) (k : Nat) (m : MaskUnit) : (s.setMask k m).tim = s.tim := rfl
@[simp] theorem State.setMask_evt (s : State) (k : Nat) (m : MaskUnit) : (s.setMask k m).evt = s.evt := rfl
@[simp] theorem State.setMask_topo (s : State) (k : Nat) (m : MaskUnit) : (s.setMask k m).topo = s.topo := rfl
@[simp] theorem State.setMask_trg (s : State) (k : Nat) (m : MaskUnit) : (s.setMask k m).trg = { s.trg with mask := s.trg.mask.set k m } := rfl
@[simp] theorem State.setMask_frm (s : State) (k : Nat) (m : MaskUnit) : (s.setMask k m).frm = s.frm := rfl
@[simp] theorem State.setMask_fab (s : State) (k : Nat) (m : MaskUnit) : (s.setMask k m).fab = s.fab := rfl
@[simp] theorem State.setMask_tdc (s : State) (k : Nat) (m : MaskUnit) : (s.setMask k m).tdc = s.tdc := rfl
@[simp] theorem State.setMask_aux (s : State) (k : Nat) (m : MaskUnit) : (s.setMask k m).aux = s.aux := rfl
@[simp] theorem State.setMask_ctl (s : State) (k : Nat) (m : MaskUnit) : (s.setMask k m).ctl = s.ctl := rfl
@[simp] theorem State.setMask_saf (s : State) (k : Nat) (m : MaskUnit) : (s.setMask k m).saf = s.saf := rfl
@[simp] theorem State.setMask_lnk (s : State) (k : Nat) (m : MaskUnit) : (s.setMask k m).lnk = s.lnk := rfl
@[simp] theorem State.setMask_hst (s : State) (k : Nat) (m : MaskUnit) : (s.setMask k m).hst = s.hst := rfl
@[simp] theorem State.setMask_cmp (s : State) (k : Nat) (m : MaskUnit) : (s.setMask k m).cmp = s.cmp := rfl
@[simp] theorem State.setMask_ram (s : State) (k : Nat) (m : MaskUnit) : (s.setMask k m).ram = s.ram := rfl
@[simp] theorem State.setMask_store (s : State) (k : Nat) (m : MaskUnit) : (s.setMask k m).store = s.store := rfl

/-! ### `State.setFrm` -/

@[simp] theorem State.setFrm_pending (s : State) (f : Frm) : (s.setFrm f).pending = s.pending := rfl
@[simp] theorem State.setFrm_regs (s : State) (f : Frm) : (s.setFrm f).regs = s.regs := rfl
@[simp] theorem State.setFrm_shadow (s : State) (f : Frm) : (s.setFrm f).shadow = s.shadow := rfl
@[simp] theorem State.setFrm_mem (s : State) (f : Frm) : (s.setFrm f).mem = s.mem := rfl
@[simp] theorem State.setFrm_dtRef (s : State) (f : Frm) : (s.setFrm f).dtRef = s.dtRef := rfl
@[simp] theorem State.setFrm_drawn (s : State) (f : Frm) : (s.setFrm f).drawn = s.drawn := rfl
@[simp] theorem State.setFrm_rdata (s : State) (f : Frm) : (s.setFrm f).rdata = s.rdata := rfl
@[simp] theorem State.setFrm_sys (s : State) (f : Frm) : (s.setFrm f).sys = s.sys := rfl
@[simp] theorem State.setFrm_flt (s : State) (f : Frm) : (s.setFrm f).flt = s.flt := rfl
@[simp] theorem State.setFrm_cores (s : State) (f : Frm) : (s.setFrm f).cores = s.cores := rfl
@[simp] theorem State.setFrm_aud (s : State) (f : Frm) : (s.setFrm f).aud = s.aud := rfl
@[simp] theorem State.setFrm_sess (s : State) (f : Frm) : (s.setFrm f).sess = s.sess := rfl
@[simp] theorem State.setFrm_svc (s : State) (f : Frm) : (s.setFrm f).svc = s.svc := rfl
@[simp] theorem State.setFrm_til (s : State) (f : Frm) : (s.setFrm f).til = s.til := rfl
@[simp] theorem State.setFrm_xp (s : State) (f : Frm) : (s.setFrm f).xp = s.xp := rfl
@[simp] theorem State.setFrm_tim (s : State) (f : Frm) : (s.setFrm f).tim = s.tim := rfl
@[simp] theorem State.setFrm_evt (s : State) (f : Frm) : (s.setFrm f).evt = s.evt := rfl
@[simp] theorem State.setFrm_topo (s : State) (f : Frm) : (s.setFrm f).topo = s.topo := rfl
@[simp] theorem State.setFrm_trg (s : State) (f : Frm) : (s.setFrm f).trg = s.trg := rfl
@[simp] theorem State.setFrm_frm (s : State) (f : Frm) : (s.setFrm f).frm = f := rfl
@[simp] theorem State.setFrm_fab (s : State) (f : Frm) : (s.setFrm f).fab = s.fab := rfl
@[simp] theorem State.setFrm_tdc (s : State) (f : Frm) : (s.setFrm f).tdc = s.tdc := rfl
@[simp] theorem State.setFrm_aux (s : State) (f : Frm) : (s.setFrm f).aux = s.aux := rfl
@[simp] theorem State.setFrm_ctl (s : State) (f : Frm) : (s.setFrm f).ctl = s.ctl := rfl
@[simp] theorem State.setFrm_saf (s : State) (f : Frm) : (s.setFrm f).saf = s.saf := rfl
@[simp] theorem State.setFrm_lnk (s : State) (f : Frm) : (s.setFrm f).lnk = s.lnk := rfl
@[simp] theorem State.setFrm_hst (s : State) (f : Frm) : (s.setFrm f).hst = s.hst := rfl
@[simp] theorem State.setFrm_cmp (s : State) (f : Frm) : (s.setFrm f).cmp = s.cmp := rfl
@[simp] theorem State.setFrm_ram (s : State) (f : Frm) : (s.setFrm f).ram = s.ram := rfl
@[simp] theorem State.setFrm_store (s : State) (f : Frm) : (s.setFrm f).store = s.store := rfl

/-! ### `State.setBurst` -/

@[simp] theorem State.setBurst_pending (s : State) (b : Burst) : (s.setBurst b).pending = s.pending := rfl
@[simp] theorem State.setBurst_regs (s : State) (b : Burst) : (s.setBurst b).regs = s.regs := rfl
@[simp] theorem State.setBurst_shadow (s : State) (b : Burst) : (s.setBurst b).shadow = s.shadow := rfl
@[simp] theorem State.setBurst_mem (s : State) (b : Burst) : (s.setBurst b).mem = s.mem := rfl
@[simp] theorem State.setBurst_dtRef (s : State) (b : Burst) : (s.setBurst b).dtRef = s.dtRef := rfl
@[simp] theorem State.setBurst_drawn (s : State) (b : Burst) : (s.setBurst b).drawn = s.drawn := rfl
@[simp] theorem State.setBurst_rdata (s : State) (b : Burst) : (s.setBurst b).rdata = s.rdata := rfl
@[simp] theorem State.setBurst_sys (s : State) (b : Burst) : (s.setBurst b).sys = s.sys := rfl
@[simp] theorem State.setBurst_flt (s : State) (b : Burst) : (s.setBurst b).flt = s.flt := rfl
@[simp] theorem State.setBurst_cores (s : State) (b : Burst) : (s.setBurst b).cores = s.cores := rfl
@[simp] theorem State.setBurst_aud (s : State) (b : Burst) : (s.setBurst b).aud = s.aud := rfl
@[simp] theorem State.setBurst_sess (s : State) (b : Burst) : (s.setBurst b).sess = s.sess := rfl
@[simp] theorem State.setBurst_svc (s : State) (b : Burst) : (s.setBurst b).svc = s.svc := rfl
@[simp] theorem State.setBurst_til (s : State) (b : Burst) : (s.setBurst b).til = s.til := rfl
@[simp] theorem State.setBurst_xp (s : State) (b : Burst) : (s.setBurst b).xp = s.xp := rfl
@[simp] theorem State.setBurst_tim (s : State) (b : Burst) : (s.setBurst b).tim = s.tim := rfl
@[simp] theorem State.setBurst_evt (s : State) (b : Burst) : (s.setBurst b).evt = s.evt := rfl
@[simp] theorem State.setBurst_topo (s : State) (b : Burst) : (s.setBurst b).topo = s.topo := rfl
@[simp] theorem State.setBurst_trg (s : State) (b : Burst) : (s.setBurst b).trg = s.trg := rfl
@[simp] theorem State.setBurst_frm (s : State) (b : Burst) : (s.setBurst b).frm = { s.frm with burst := b } := rfl
@[simp] theorem State.setBurst_fab (s : State) (b : Burst) : (s.setBurst b).fab = s.fab := rfl
@[simp] theorem State.setBurst_tdc (s : State) (b : Burst) : (s.setBurst b).tdc = s.tdc := rfl
@[simp] theorem State.setBurst_aux (s : State) (b : Burst) : (s.setBurst b).aux = s.aux := rfl
@[simp] theorem State.setBurst_ctl (s : State) (b : Burst) : (s.setBurst b).ctl = s.ctl := rfl
@[simp] theorem State.setBurst_saf (s : State) (b : Burst) : (s.setBurst b).saf = s.saf := rfl
@[simp] theorem State.setBurst_lnk (s : State) (b : Burst) : (s.setBurst b).lnk = s.lnk := rfl
@[simp] theorem State.setBurst_hst (s : State) (b : Burst) : (s.setBurst b).hst = s.hst := rfl
@[simp] theorem State.setBurst_cmp (s : State) (b : Burst) : (s.setBurst b).cmp = s.cmp := rfl
@[simp] theorem State.setBurst_ram (s : State) (b : Burst) : (s.setBurst b).ram = s.ram := rfl
@[simp] theorem State.setBurst_store (s : State) (b : Burst) : (s.setBurst b).store = s.store := rfl

/-! ### `State.setFab` -/

@[simp] theorem State.setFab_pending (s : State) (f : Fab) : (s.setFab f).pending = s.pending := rfl
@[simp] theorem State.setFab_regs (s : State) (f : Fab) : (s.setFab f).regs = s.regs := rfl
@[simp] theorem State.setFab_shadow (s : State) (f : Fab) : (s.setFab f).shadow = s.shadow := rfl
@[simp] theorem State.setFab_mem (s : State) (f : Fab) : (s.setFab f).mem = s.mem := rfl
@[simp] theorem State.setFab_dtRef (s : State) (f : Fab) : (s.setFab f).dtRef = s.dtRef := rfl
@[simp] theorem State.setFab_drawn (s : State) (f : Fab) : (s.setFab f).drawn = s.drawn := rfl
@[simp] theorem State.setFab_rdata (s : State) (f : Fab) : (s.setFab f).rdata = s.rdata := rfl
@[simp] theorem State.setFab_sys (s : State) (f : Fab) : (s.setFab f).sys = s.sys := rfl
@[simp] theorem State.setFab_flt (s : State) (f : Fab) : (s.setFab f).flt = s.flt := rfl
@[simp] theorem State.setFab_cores (s : State) (f : Fab) : (s.setFab f).cores = s.cores := rfl
@[simp] theorem State.setFab_aud (s : State) (f : Fab) : (s.setFab f).aud = s.aud := rfl
@[simp] theorem State.setFab_sess (s : State) (f : Fab) : (s.setFab f).sess = s.sess := rfl
@[simp] theorem State.setFab_svc (s : State) (f : Fab) : (s.setFab f).svc = s.svc := rfl
@[simp] theorem State.setFab_til (s : State) (f : Fab) : (s.setFab f).til = s.til := rfl
@[simp] theorem State.setFab_xp (s : State) (f : Fab) : (s.setFab f).xp = s.xp := rfl
@[simp] theorem State.setFab_tim (s : State) (f : Fab) : (s.setFab f).tim = s.tim := rfl
@[simp] theorem State.setFab_evt (s : State) (f : Fab) : (s.setFab f).evt = s.evt := rfl
@[simp] theorem State.setFab_topo (s : State) (f : Fab) : (s.setFab f).topo = s.topo := rfl
@[simp] theorem State.setFab_trg (s : State) (f : Fab) : (s.setFab f).trg = s.trg := rfl
@[simp] theorem State.setFab_frm (s : State) (f : Fab) : (s.setFab f).frm = s.frm := rfl
@[simp] theorem State.setFab_fab (s : State) (f : Fab) : (s.setFab f).fab = f := rfl
@[simp] theorem State.setFab_tdc (s : State) (f : Fab) : (s.setFab f).tdc = s.tdc := rfl
@[simp] theorem State.setFab_aux (s : State) (f : Fab) : (s.setFab f).aux = s.aux := rfl
@[simp] theorem State.setFab_ctl (s : State) (f : Fab) : (s.setFab f).ctl = s.ctl := rfl
@[simp] theorem State.setFab_saf (s : State) (f : Fab) : (s.setFab f).saf = s.saf := rfl
@[simp] theorem State.setFab_lnk (s : State) (f : Fab) : (s.setFab f).lnk = s.lnk := rfl
@[simp] theorem State.setFab_hst (s : State) (f : Fab) : (s.setFab f).hst = s.hst := rfl
@[simp] theorem State.setFab_cmp (s : State) (f : Fab) : (s.setFab f).cmp = s.cmp := rfl
@[simp] theorem State.setFab_ram (s : State) (f : Fab) : (s.setFab f).ram = s.ram := rfl
@[simp] theorem State.setFab_store (s : State) (f : Fab) : (s.setFab f).store = s.store := rfl

/-! ### `State.setTdc` -/

@[simp] theorem State.setTdc_pending (s : State) (t : Tdc) : (s.setTdc t).pending = s.pending := rfl
@[simp] theorem State.setTdc_regs (s : State) (t : Tdc) : (s.setTdc t).regs = s.regs := rfl
@[simp] theorem State.setTdc_shadow (s : State) (t : Tdc) : (s.setTdc t).shadow = s.shadow := rfl
@[simp] theorem State.setTdc_mem (s : State) (t : Tdc) : (s.setTdc t).mem = s.mem := rfl
@[simp] theorem State.setTdc_dtRef (s : State) (t : Tdc) : (s.setTdc t).dtRef = s.dtRef := rfl
@[simp] theorem State.setTdc_drawn (s : State) (t : Tdc) : (s.setTdc t).drawn = s.drawn := rfl
@[simp] theorem State.setTdc_rdata (s : State) (t : Tdc) : (s.setTdc t).rdata = s.rdata := rfl
@[simp] theorem State.setTdc_sys (s : State) (t : Tdc) : (s.setTdc t).sys = s.sys := rfl
@[simp] theorem State.setTdc_flt (s : State) (t : Tdc) : (s.setTdc t).flt = s.flt := rfl
@[simp] theorem State.setTdc_cores (s : State) (t : Tdc) : (s.setTdc t).cores = s.cores := rfl
@[simp] theorem State.setTdc_aud (s : State) (t : Tdc) : (s.setTdc t).aud = s.aud := rfl
@[simp] theorem State.setTdc_sess (s : State) (t : Tdc) : (s.setTdc t).sess = s.sess := rfl
@[simp] theorem State.setTdc_svc (s : State) (t : Tdc) : (s.setTdc t).svc = s.svc := rfl
@[simp] theorem State.setTdc_til (s : State) (t : Tdc) : (s.setTdc t).til = s.til := rfl
@[simp] theorem State.setTdc_xp (s : State) (t : Tdc) : (s.setTdc t).xp = s.xp := rfl
@[simp] theorem State.setTdc_tim (s : State) (t : Tdc) : (s.setTdc t).tim = s.tim := rfl
@[simp] theorem State.setTdc_evt (s : State) (t : Tdc) : (s.setTdc t).evt = s.evt := rfl
@[simp] theorem State.setTdc_topo (s : State) (t : Tdc) : (s.setTdc t).topo = s.topo := rfl
@[simp] theorem State.setTdc_trg (s : State) (t : Tdc) : (s.setTdc t).trg = s.trg := rfl
@[simp] theorem State.setTdc_frm (s : State) (t : Tdc) : (s.setTdc t).frm = s.frm := rfl
@[simp] theorem State.setTdc_fab (s : State) (t : Tdc) : (s.setTdc t).fab = s.fab := rfl
@[simp] theorem State.setTdc_tdc (s : State) (t : Tdc) : (s.setTdc t).tdc = t := rfl
@[simp] theorem State.setTdc_aux (s : State) (t : Tdc) : (s.setTdc t).aux = s.aux := rfl
@[simp] theorem State.setTdc_ctl (s : State) (t : Tdc) : (s.setTdc t).ctl = s.ctl := rfl
@[simp] theorem State.setTdc_saf (s : State) (t : Tdc) : (s.setTdc t).saf = s.saf := rfl
@[simp] theorem State.setTdc_lnk (s : State) (t : Tdc) : (s.setTdc t).lnk = s.lnk := rfl
@[simp] theorem State.setTdc_hst (s : State) (t : Tdc) : (s.setTdc t).hst = s.hst := rfl
@[simp] theorem State.setTdc_cmp (s : State) (t : Tdc) : (s.setTdc t).cmp = s.cmp := rfl
@[simp] theorem State.setTdc_ram (s : State) (t : Tdc) : (s.setTdc t).ram = s.ram := rfl
@[simp] theorem State.setTdc_store (s : State) (t : Tdc) : (s.setTdc t).store = s.store := rfl

/-! ### `State.setInterp` -/

@[simp] theorem State.setInterp_pending (s : State) (i : Nat) (x : Interp) : (s.setInterp i x).pending = s.pending := rfl
@[simp] theorem State.setInterp_regs (s : State) (i : Nat) (x : Interp) : (s.setInterp i x).regs = s.regs := rfl
@[simp] theorem State.setInterp_shadow (s : State) (i : Nat) (x : Interp) : (s.setInterp i x).shadow = s.shadow := rfl
@[simp] theorem State.setInterp_mem (s : State) (i : Nat) (x : Interp) : (s.setInterp i x).mem = s.mem := rfl
@[simp] theorem State.setInterp_dtRef (s : State) (i : Nat) (x : Interp) : (s.setInterp i x).dtRef = s.dtRef := rfl
@[simp] theorem State.setInterp_drawn (s : State) (i : Nat) (x : Interp) : (s.setInterp i x).drawn = s.drawn := rfl
@[simp] theorem State.setInterp_rdata (s : State) (i : Nat) (x : Interp) : (s.setInterp i x).rdata = s.rdata := rfl
@[simp] theorem State.setInterp_sys (s : State) (i : Nat) (x : Interp) : (s.setInterp i x).sys = s.sys := rfl
@[simp] theorem State.setInterp_flt (s : State) (i : Nat) (x : Interp) : (s.setInterp i x).flt = s.flt := rfl
@[simp] theorem State.setInterp_cores (s : State) (i : Nat) (x : Interp) : (s.setInterp i x).cores = s.cores := rfl
@[simp] theorem State.setInterp_aud (s : State) (i : Nat) (x : Interp) : (s.setInterp i x).aud = s.aud := rfl
@[simp] theorem State.setInterp_sess (s : State) (i : Nat) (x : Interp) : (s.setInterp i x).sess = s.sess := rfl
@[simp] theorem State.setInterp_svc (s : State) (i : Nat) (x : Interp) : (s.setInterp i x).svc = s.svc := rfl
@[simp] theorem State.setInterp_til (s : State) (i : Nat) (x : Interp) : (s.setInterp i x).til = s.til := rfl
@[simp] theorem State.setInterp_xp (s : State) (i : Nat) (x : Interp) : (s.setInterp i x).xp = s.xp := rfl
@[simp] theorem State.setInterp_tim (s : State) (i : Nat) (x : Interp) : (s.setInterp i x).tim = s.tim := rfl
@[simp] theorem State.setInterp_evt (s : State) (i : Nat) (x : Interp) : (s.setInterp i x).evt = s.evt := rfl
@[simp] theorem State.setInterp_topo (s : State) (i : Nat) (x : Interp) : (s.setInterp i x).topo = s.topo := rfl
@[simp] theorem State.setInterp_trg (s : State) (i : Nat) (x : Interp) : (s.setInterp i x).trg = s.trg := rfl
@[simp] theorem State.setInterp_frm (s : State) (i : Nat) (x : Interp) : (s.setInterp i x).frm = s.frm := rfl
@[simp] theorem State.setInterp_fab (s : State) (i : Nat) (x : Interp) : (s.setInterp i x).fab = s.fab := rfl
@[simp] theorem State.setInterp_tdc (s : State) (i : Nat) (x : Interp) : (s.setInterp i x).tdc = { s.tdc with interp := s.tdc.interp.set i x } := rfl
@[simp] theorem State.setInterp_aux (s : State) (i : Nat) (x : Interp) : (s.setInterp i x).aux = s.aux := rfl
@[simp] theorem State.setInterp_ctl (s : State) (i : Nat) (x : Interp) : (s.setInterp i x).ctl = s.ctl := rfl
@[simp] theorem State.setInterp_saf (s : State) (i : Nat) (x : Interp) : (s.setInterp i x).saf = s.saf := rfl
@[simp] theorem State.setInterp_lnk (s : State) (i : Nat) (x : Interp) : (s.setInterp i x).lnk = s.lnk := rfl
@[simp] theorem State.setInterp_hst (s : State) (i : Nat) (x : Interp) : (s.setInterp i x).hst = s.hst := rfl
@[simp] theorem State.setInterp_cmp (s : State) (i : Nat) (x : Interp) : (s.setInterp i x).cmp = s.cmp := rfl
@[simp] theorem State.setInterp_ram (s : State) (i : Nat) (x : Interp) : (s.setInterp i x).ram = s.ram := rfl
@[simp] theorem State.setInterp_store (s : State) (i : Nat) (x : Interp) : (s.setInterp i x).store = s.store := rfl

/-! ### `State.setTch` -/

@[simp] theorem State.setTch_pending (s : State) (n : Nat) (x : TdcCh) : (s.setTch n x).pending = s.pending := rfl
@[simp] theorem State.setTch_regs (s : State) (n : Nat) (x : TdcCh) : (s.setTch n x).regs = s.regs := rfl
@[simp] theorem State.setTch_shadow (s : State) (n : Nat) (x : TdcCh) : (s.setTch n x).shadow = s.shadow := rfl
@[simp] theorem State.setTch_mem (s : State) (n : Nat) (x : TdcCh) : (s.setTch n x).mem = s.mem := rfl
@[simp] theorem State.setTch_dtRef (s : State) (n : Nat) (x : TdcCh) : (s.setTch n x).dtRef = s.dtRef := rfl
@[simp] theorem State.setTch_drawn (s : State) (n : Nat) (x : TdcCh) : (s.setTch n x).drawn = s.drawn := rfl
@[simp] theorem State.setTch_rdata (s : State) (n : Nat) (x : TdcCh) : (s.setTch n x).rdata = s.rdata := rfl
@[simp] theorem State.setTch_sys (s : State) (n : Nat) (x : TdcCh) : (s.setTch n x).sys = s.sys := rfl
@[simp] theorem State.setTch_flt (s : State) (n : Nat) (x : TdcCh) : (s.setTch n x).flt = s.flt := rfl
@[simp] theorem State.setTch_cores (s : State) (n : Nat) (x : TdcCh) : (s.setTch n x).cores = s.cores := rfl
@[simp] theorem State.setTch_aud (s : State) (n : Nat) (x : TdcCh) : (s.setTch n x).aud = s.aud := rfl
@[simp] theorem State.setTch_sess (s : State) (n : Nat) (x : TdcCh) : (s.setTch n x).sess = s.sess := rfl
@[simp] theorem State.setTch_svc (s : State) (n : Nat) (x : TdcCh) : (s.setTch n x).svc = s.svc := rfl
@[simp] theorem State.setTch_til (s : State) (n : Nat) (x : TdcCh) : (s.setTch n x).til = s.til := rfl
@[simp] theorem State.setTch_xp (s : State) (n : Nat) (x : TdcCh) : (s.setTch n x).xp = s.xp := rfl
@[simp] theorem State.setTch_tim (s : State) (n : Nat) (x : TdcCh) : (s.setTch n x).tim = s.tim := rfl
@[simp] theorem State.setTch_evt (s : State) (n : Nat) (x : TdcCh) : (s.setTch n x).evt = s.evt := rfl
@[simp] theorem State.setTch_topo (s : State) (n : Nat) (x : TdcCh) : (s.setTch n x).topo = s.topo := rfl
@[simp] theorem State.setTch_trg (s : State) (n : Nat) (x : TdcCh) : (s.setTch n x).trg = s.trg := rfl
@[simp] theorem State.setTch_frm (s : State) (n : Nat) (x : TdcCh) : (s.setTch n x).frm = s.frm := rfl
@[simp] theorem State.setTch_fab (s : State) (n : Nat) (x : TdcCh) : (s.setTch n x).fab = s.fab := rfl
@[simp] theorem State.setTch_tdc (s : State) (n : Nat) (x : TdcCh) : (s.setTch n x).tdc = { s.tdc with ch := s.tdc.ch.set n x } := rfl
@[simp] theorem State.setTch_aux (s : State) (n : Nat) (x : TdcCh) : (s.setTch n x).aux = s.aux := rfl
@[simp] theorem State.setTch_ctl (s : State) (n : Nat) (x : TdcCh) : (s.setTch n x).ctl = s.ctl := rfl
@[simp] theorem State.setTch_saf (s : State) (n : Nat) (x : TdcCh) : (s.setTch n x).saf = s.saf := rfl
@[simp] theorem State.setTch_lnk (s : State) (n : Nat) (x : TdcCh) : (s.setTch n x).lnk = s.lnk := rfl
@[simp] theorem State.setTch_hst (s : State) (n : Nat) (x : TdcCh) : (s.setTch n x).hst = s.hst := rfl
@[simp] theorem State.setTch_cmp (s : State) (n : Nat) (x : TdcCh) : (s.setTch n x).cmp = s.cmp := rfl
@[simp] theorem State.setTch_ram (s : State) (n : Nat) (x : TdcCh) : (s.setTch n x).ram = s.ram := rfl
@[simp] theorem State.setTch_store (s : State) (n : Nat) (x : TdcCh) : (s.setTch n x).store = s.store := rfl

/-! ### `State.setAux` -/

@[simp] theorem State.setAux_pending (s : State) (a : Aux) : (s.setAux a).pending = s.pending := rfl
@[simp] theorem State.setAux_regs (s : State) (a : Aux) : (s.setAux a).regs = s.regs := rfl
@[simp] theorem State.setAux_shadow (s : State) (a : Aux) : (s.setAux a).shadow = s.shadow := rfl
@[simp] theorem State.setAux_mem (s : State) (a : Aux) : (s.setAux a).mem = s.mem := rfl
@[simp] theorem State.setAux_dtRef (s : State) (a : Aux) : (s.setAux a).dtRef = s.dtRef := rfl
@[simp] theorem State.setAux_drawn (s : State) (a : Aux) : (s.setAux a).drawn = s.drawn := rfl
@[simp] theorem State.setAux_rdata (s : State) (a : Aux) : (s.setAux a).rdata = s.rdata := rfl
@[simp] theorem State.setAux_sys (s : State) (a : Aux) : (s.setAux a).sys = s.sys := rfl
@[simp] theorem State.setAux_flt (s : State) (a : Aux) : (s.setAux a).flt = s.flt := rfl
@[simp] theorem State.setAux_cores (s : State) (a : Aux) : (s.setAux a).cores = s.cores := rfl
@[simp] theorem State.setAux_aud (s : State) (a : Aux) : (s.setAux a).aud = s.aud := rfl
@[simp] theorem State.setAux_sess (s : State) (a : Aux) : (s.setAux a).sess = s.sess := rfl
@[simp] theorem State.setAux_svc (s : State) (a : Aux) : (s.setAux a).svc = s.svc := rfl
@[simp] theorem State.setAux_til (s : State) (a : Aux) : (s.setAux a).til = s.til := rfl
@[simp] theorem State.setAux_xp (s : State) (a : Aux) : (s.setAux a).xp = s.xp := rfl
@[simp] theorem State.setAux_tim (s : State) (a : Aux) : (s.setAux a).tim = s.tim := rfl
@[simp] theorem State.setAux_evt (s : State) (a : Aux) : (s.setAux a).evt = s.evt := rfl
@[simp] theorem State.setAux_topo (s : State) (a : Aux) : (s.setAux a).topo = s.topo := rfl
@[simp] theorem State.setAux_trg (s : State) (a : Aux) : (s.setAux a).trg = s.trg := rfl
@[simp] theorem State.setAux_frm (s : State) (a : Aux) : (s.setAux a).frm = s.frm := rfl
@[simp] theorem State.setAux_fab (s : State) (a : Aux) : (s.setAux a).fab = s.fab := rfl
@[simp] theorem State.setAux_tdc (s : State) (a : Aux) : (s.setAux a).tdc = s.tdc := rfl
@[simp] theorem State.setAux_aux (s : State) (a : Aux) : (s.setAux a).aux = a := rfl
@[simp] theorem State.setAux_ctl (s : State) (a : Aux) : (s.setAux a).ctl = s.ctl := rfl
@[simp] theorem State.setAux_saf (s : State) (a : Aux) : (s.setAux a).saf = s.saf := rfl
@[simp] theorem State.setAux_lnk (s : State) (a : Aux) : (s.setAux a).lnk = s.lnk := rfl
@[simp] theorem State.setAux_hst (s : State) (a : Aux) : (s.setAux a).hst = s.hst := rfl
@[simp] theorem State.setAux_cmp (s : State) (a : Aux) : (s.setAux a).cmp = s.cmp := rfl
@[simp] theorem State.setAux_ram (s : State) (a : Aux) : (s.setAux a).ram = s.ram := rfl
@[simp] theorem State.setAux_store (s : State) (a : Aux) : (s.setAux a).store = s.store := rfl

/-! ### `State.setCtl` -/

@[simp] theorem State.setCtl_pending (s : State) (c : Ctl) : (s.setCtl c).pending = s.pending := rfl
@[simp] theorem State.setCtl_regs (s : State) (c : Ctl) : (s.setCtl c).regs = s.regs := rfl
@[simp] theorem State.setCtl_shadow (s : State) (c : Ctl) : (s.setCtl c).shadow = s.shadow := rfl
@[simp] theorem State.setCtl_mem (s : State) (c : Ctl) : (s.setCtl c).mem = s.mem := rfl
@[simp] theorem State.setCtl_dtRef (s : State) (c : Ctl) : (s.setCtl c).dtRef = s.dtRef := rfl
@[simp] theorem State.setCtl_drawn (s : State) (c : Ctl) : (s.setCtl c).drawn = s.drawn := rfl
@[simp] theorem State.setCtl_rdata (s : State) (c : Ctl) : (s.setCtl c).rdata = s.rdata := rfl
@[simp] theorem State.setCtl_sys (s : State) (c : Ctl) : (s.setCtl c).sys = s.sys := rfl
@[simp] theorem State.setCtl_flt (s : State) (c : Ctl) : (s.setCtl c).flt = s.flt := rfl
@[simp] theorem State.setCtl_cores (s : State) (c : Ctl) : (s.setCtl c).cores = s.cores := rfl
@[simp] theorem State.setCtl_aud (s : State) (c : Ctl) : (s.setCtl c).aud = s.aud := rfl
@[simp] theorem State.setCtl_sess (s : State) (c : Ctl) : (s.setCtl c).sess = s.sess := rfl
@[simp] theorem State.setCtl_svc (s : State) (c : Ctl) : (s.setCtl c).svc = s.svc := rfl
@[simp] theorem State.setCtl_til (s : State) (c : Ctl) : (s.setCtl c).til = s.til := rfl
@[simp] theorem State.setCtl_xp (s : State) (c : Ctl) : (s.setCtl c).xp = s.xp := rfl
@[simp] theorem State.setCtl_tim (s : State) (c : Ctl) : (s.setCtl c).tim = s.tim := rfl
@[simp] theorem State.setCtl_evt (s : State) (c : Ctl) : (s.setCtl c).evt = s.evt := rfl
@[simp] theorem State.setCtl_topo (s : State) (c : Ctl) : (s.setCtl c).topo = s.topo := rfl
@[simp] theorem State.setCtl_trg (s : State) (c : Ctl) : (s.setCtl c).trg = s.trg := rfl
@[simp] theorem State.setCtl_frm (s : State) (c : Ctl) : (s.setCtl c).frm = s.frm := rfl
@[simp] theorem State.setCtl_fab (s : State) (c : Ctl) : (s.setCtl c).fab = s.fab := rfl
@[simp] theorem State.setCtl_tdc (s : State) (c : Ctl) : (s.setCtl c).tdc = s.tdc := rfl
@[simp] theorem State.setCtl_aux (s : State) (c : Ctl) : (s.setCtl c).aux = s.aux := rfl
@[simp] theorem State.setCtl_ctl (s : State) (c : Ctl) : (s.setCtl c).ctl = c := rfl
@[simp] theorem State.setCtl_saf (s : State) (c : Ctl) : (s.setCtl c).saf = s.saf := rfl
@[simp] theorem State.setCtl_lnk (s : State) (c : Ctl) : (s.setCtl c).lnk = s.lnk := rfl
@[simp] theorem State.setCtl_hst (s : State) (c : Ctl) : (s.setCtl c).hst = s.hst := rfl
@[simp] theorem State.setCtl_cmp (s : State) (c : Ctl) : (s.setCtl c).cmp = s.cmp := rfl
@[simp] theorem State.setCtl_ram (s : State) (c : Ctl) : (s.setCtl c).ram = s.ram := rfl
@[simp] theorem State.setCtl_store (s : State) (c : Ctl) : (s.setCtl c).store = s.store := rfl

/-! ### `State.setLoop` -/

@[simp] theorem State.setLoop_pending (s : State) (n : Nat) (l : Loop) : (s.setLoop n l).pending = s.pending := rfl
@[simp] theorem State.setLoop_regs (s : State) (n : Nat) (l : Loop) : (s.setLoop n l).regs = s.regs := rfl
@[simp] theorem State.setLoop_shadow (s : State) (n : Nat) (l : Loop) : (s.setLoop n l).shadow = s.shadow := rfl
@[simp] theorem State.setLoop_mem (s : State) (n : Nat) (l : Loop) : (s.setLoop n l).mem = s.mem := rfl
@[simp] theorem State.setLoop_dtRef (s : State) (n : Nat) (l : Loop) : (s.setLoop n l).dtRef = s.dtRef := rfl
@[simp] theorem State.setLoop_drawn (s : State) (n : Nat) (l : Loop) : (s.setLoop n l).drawn = s.drawn := rfl
@[simp] theorem State.setLoop_rdata (s : State) (n : Nat) (l : Loop) : (s.setLoop n l).rdata = s.rdata := rfl
@[simp] theorem State.setLoop_sys (s : State) (n : Nat) (l : Loop) : (s.setLoop n l).sys = s.sys := rfl
@[simp] theorem State.setLoop_flt (s : State) (n : Nat) (l : Loop) : (s.setLoop n l).flt = s.flt := rfl
@[simp] theorem State.setLoop_cores (s : State) (n : Nat) (l : Loop) : (s.setLoop n l).cores = s.cores := rfl
@[simp] theorem State.setLoop_aud (s : State) (n : Nat) (l : Loop) : (s.setLoop n l).aud = s.aud := rfl
@[simp] theorem State.setLoop_sess (s : State) (n : Nat) (l : Loop) : (s.setLoop n l).sess = s.sess := rfl
@[simp] theorem State.setLoop_svc (s : State) (n : Nat) (l : Loop) : (s.setLoop n l).svc = s.svc := rfl
@[simp] theorem State.setLoop_til (s : State) (n : Nat) (l : Loop) : (s.setLoop n l).til = s.til := rfl
@[simp] theorem State.setLoop_xp (s : State) (n : Nat) (l : Loop) : (s.setLoop n l).xp = s.xp := rfl
@[simp] theorem State.setLoop_tim (s : State) (n : Nat) (l : Loop) : (s.setLoop n l).tim = s.tim := rfl
@[simp] theorem State.setLoop_evt (s : State) (n : Nat) (l : Loop) : (s.setLoop n l).evt = s.evt := rfl
@[simp] theorem State.setLoop_topo (s : State) (n : Nat) (l : Loop) : (s.setLoop n l).topo = s.topo := rfl
@[simp] theorem State.setLoop_trg (s : State) (n : Nat) (l : Loop) : (s.setLoop n l).trg = s.trg := rfl
@[simp] theorem State.setLoop_frm (s : State) (n : Nat) (l : Loop) : (s.setLoop n l).frm = s.frm := rfl
@[simp] theorem State.setLoop_fab (s : State) (n : Nat) (l : Loop) : (s.setLoop n l).fab = s.fab := rfl
@[simp] theorem State.setLoop_tdc (s : State) (n : Nat) (l : Loop) : (s.setLoop n l).tdc = s.tdc := rfl
@[simp] theorem State.setLoop_aux (s : State) (n : Nat) (l : Loop) : (s.setLoop n l).aux = s.aux := rfl
@[simp] theorem State.setLoop_ctl (s : State) (n : Nat) (l : Loop) : (s.setLoop n l).ctl = { s.ctl with loop := s.ctl.loop.set n l } := rfl
@[simp] theorem State.setLoop_saf (s : State) (n : Nat) (l : Loop) : (s.setLoop n l).saf = s.saf := rfl
@[simp] theorem State.setLoop_lnk (s : State) (n : Nat) (l : Loop) : (s.setLoop n l).lnk = s.lnk := rfl
@[simp] theorem State.setLoop_hst (s : State) (n : Nat) (l : Loop) : (s.setLoop n l).hst = s.hst := rfl
@[simp] theorem State.setLoop_cmp (s : State) (n : Nat) (l : Loop) : (s.setLoop n l).cmp = s.cmp := rfl
@[simp] theorem State.setLoop_ram (s : State) (n : Nat) (l : Loop) : (s.setLoop n l).ram = s.ram := rfl
@[simp] theorem State.setLoop_store (s : State) (n : Nat) (l : Loop) : (s.setLoop n l).store = s.store := rfl

/-! ### `State.setFb` -/

@[simp] theorem State.setFb_pending (s : State) (n : Nat) (x : FbIn) : (s.setFb n x).pending = s.pending := rfl
@[simp] theorem State.setFb_regs (s : State) (n : Nat) (x : FbIn) : (s.setFb n x).regs = s.regs := rfl
@[simp] theorem State.setFb_shadow (s : State) (n : Nat) (x : FbIn) : (s.setFb n x).shadow = s.shadow := rfl
@[simp] theorem State.setFb_mem (s : State) (n : Nat) (x : FbIn) : (s.setFb n x).mem = s.mem := rfl
@[simp] theorem State.setFb_dtRef (s : State) (n : Nat) (x : FbIn) : (s.setFb n x).dtRef = s.dtRef := rfl
@[simp] theorem State.setFb_drawn (s : State) (n : Nat) (x : FbIn) : (s.setFb n x).drawn = s.drawn := rfl
@[simp] theorem State.setFb_rdata (s : State) (n : Nat) (x : FbIn) : (s.setFb n x).rdata = s.rdata := rfl
@[simp] theorem State.setFb_sys (s : State) (n : Nat) (x : FbIn) : (s.setFb n x).sys = s.sys := rfl
@[simp] theorem State.setFb_flt (s : State) (n : Nat) (x : FbIn) : (s.setFb n x).flt = s.flt := rfl
@[simp] theorem State.setFb_cores (s : State) (n : Nat) (x : FbIn) : (s.setFb n x).cores = s.cores := rfl
@[simp] theorem State.setFb_aud (s : State) (n : Nat) (x : FbIn) : (s.setFb n x).aud = s.aud := rfl
@[simp] theorem State.setFb_sess (s : State) (n : Nat) (x : FbIn) : (s.setFb n x).sess = s.sess := rfl
@[simp] theorem State.setFb_svc (s : State) (n : Nat) (x : FbIn) : (s.setFb n x).svc = s.svc := rfl
@[simp] theorem State.setFb_til (s : State) (n : Nat) (x : FbIn) : (s.setFb n x).til = s.til := rfl
@[simp] theorem State.setFb_xp (s : State) (n : Nat) (x : FbIn) : (s.setFb n x).xp = s.xp := rfl
@[simp] theorem State.setFb_tim (s : State) (n : Nat) (x : FbIn) : (s.setFb n x).tim = s.tim := rfl
@[simp] theorem State.setFb_evt (s : State) (n : Nat) (x : FbIn) : (s.setFb n x).evt = s.evt := rfl
@[simp] theorem State.setFb_topo (s : State) (n : Nat) (x : FbIn) : (s.setFb n x).topo = s.topo := rfl
@[simp] theorem State.setFb_trg (s : State) (n : Nat) (x : FbIn) : (s.setFb n x).trg = s.trg := rfl
@[simp] theorem State.setFb_frm (s : State) (n : Nat) (x : FbIn) : (s.setFb n x).frm = s.frm := rfl
@[simp] theorem State.setFb_fab (s : State) (n : Nat) (x : FbIn) : (s.setFb n x).fab = s.fab := rfl
@[simp] theorem State.setFb_tdc (s : State) (n : Nat) (x : FbIn) : (s.setFb n x).tdc = s.tdc := rfl
@[simp] theorem State.setFb_aux (s : State) (n : Nat) (x : FbIn) : (s.setFb n x).aux = s.aux := rfl
@[simp] theorem State.setFb_ctl (s : State) (n : Nat) (x : FbIn) : (s.setFb n x).ctl = { s.ctl with fb := s.ctl.fb.set n x } := rfl
@[simp] theorem State.setFb_saf (s : State) (n : Nat) (x : FbIn) : (s.setFb n x).saf = s.saf := rfl
@[simp] theorem State.setFb_lnk (s : State) (n : Nat) (x : FbIn) : (s.setFb n x).lnk = s.lnk := rfl
@[simp] theorem State.setFb_hst (s : State) (n : Nat) (x : FbIn) : (s.setFb n x).hst = s.hst := rfl
@[simp] theorem State.setFb_cmp (s : State) (n : Nat) (x : FbIn) : (s.setFb n x).cmp = s.cmp := rfl
@[simp] theorem State.setFb_ram (s : State) (n : Nat) (x : FbIn) : (s.setFb n x).ram = s.ram := rfl
@[simp] theorem State.setFb_store (s : State) (n : Nat) (x : FbIn) : (s.setFb n x).store = s.store := rfl

/-! ### `State.setSaf` -/

@[simp] theorem State.setSaf_pending (s : State) (x : Saf) : (s.setSaf x).pending = s.pending := rfl
@[simp] theorem State.setSaf_regs (s : State) (x : Saf) : (s.setSaf x).regs = s.regs := rfl
@[simp] theorem State.setSaf_shadow (s : State) (x : Saf) : (s.setSaf x).shadow = s.shadow := rfl
@[simp] theorem State.setSaf_mem (s : State) (x : Saf) : (s.setSaf x).mem = s.mem := rfl
@[simp] theorem State.setSaf_dtRef (s : State) (x : Saf) : (s.setSaf x).dtRef = s.dtRef := rfl
@[simp] theorem State.setSaf_drawn (s : State) (x : Saf) : (s.setSaf x).drawn = s.drawn := rfl
@[simp] theorem State.setSaf_rdata (s : State) (x : Saf) : (s.setSaf x).rdata = s.rdata := rfl
@[simp] theorem State.setSaf_sys (s : State) (x : Saf) : (s.setSaf x).sys = s.sys := rfl
@[simp] theorem State.setSaf_flt (s : State) (x : Saf) : (s.setSaf x).flt = s.flt := rfl
@[simp] theorem State.setSaf_cores (s : State) (x : Saf) : (s.setSaf x).cores = s.cores := rfl
@[simp] theorem State.setSaf_aud (s : State) (x : Saf) : (s.setSaf x).aud = s.aud := rfl
@[simp] theorem State.setSaf_sess (s : State) (x : Saf) : (s.setSaf x).sess = s.sess := rfl
@[simp] theorem State.setSaf_svc (s : State) (x : Saf) : (s.setSaf x).svc = s.svc := rfl
@[simp] theorem State.setSaf_til (s : State) (x : Saf) : (s.setSaf x).til = s.til := rfl
@[simp] theorem State.setSaf_xp (s : State) (x : Saf) : (s.setSaf x).xp = s.xp := rfl
@[simp] theorem State.setSaf_tim (s : State) (x : Saf) : (s.setSaf x).tim = s.tim := rfl
@[simp] theorem State.setSaf_evt (s : State) (x : Saf) : (s.setSaf x).evt = s.evt := rfl
@[simp] theorem State.setSaf_topo (s : State) (x : Saf) : (s.setSaf x).topo = s.topo := rfl
@[simp] theorem State.setSaf_trg (s : State) (x : Saf) : (s.setSaf x).trg = s.trg := rfl
@[simp] theorem State.setSaf_frm (s : State) (x : Saf) : (s.setSaf x).frm = s.frm := rfl
@[simp] theorem State.setSaf_fab (s : State) (x : Saf) : (s.setSaf x).fab = s.fab := rfl
@[simp] theorem State.setSaf_tdc (s : State) (x : Saf) : (s.setSaf x).tdc = s.tdc := rfl
@[simp] theorem State.setSaf_aux (s : State) (x : Saf) : (s.setSaf x).aux = s.aux := rfl
@[simp] theorem State.setSaf_ctl (s : State) (x : Saf) : (s.setSaf x).ctl = s.ctl := rfl
@[simp] theorem State.setSaf_saf (s : State) (x : Saf) : (s.setSaf x).saf = x := rfl
@[simp] theorem State.setSaf_lnk (s : State) (x : Saf) : (s.setSaf x).lnk = s.lnk := rfl
@[simp] theorem State.setSaf_hst (s : State) (x : Saf) : (s.setSaf x).hst = s.hst := rfl
@[simp] theorem State.setSaf_cmp (s : State) (x : Saf) : (s.setSaf x).cmp = s.cmp := rfl
@[simp] theorem State.setSaf_ram (s : State) (x : Saf) : (s.setSaf x).ram = s.ram := rfl
@[simp] theorem State.setSaf_store (s : State) (x : Saf) : (s.setSaf x).store = s.store := rfl

/-! ### `State.setSafIn` -/

@[simp] theorem State.setSafIn_pending (s : State) (n : Nat) (x : SafIn) : (s.setSafIn n x).pending = s.pending := rfl
@[simp] theorem State.setSafIn_regs (s : State) (n : Nat) (x : SafIn) : (s.setSafIn n x).regs = s.regs := rfl
@[simp] theorem State.setSafIn_shadow (s : State) (n : Nat) (x : SafIn) : (s.setSafIn n x).shadow = s.shadow := rfl
@[simp] theorem State.setSafIn_mem (s : State) (n : Nat) (x : SafIn) : (s.setSafIn n x).mem = s.mem := rfl
@[simp] theorem State.setSafIn_dtRef (s : State) (n : Nat) (x : SafIn) : (s.setSafIn n x).dtRef = s.dtRef := rfl
@[simp] theorem State.setSafIn_drawn (s : State) (n : Nat) (x : SafIn) : (s.setSafIn n x).drawn = s.drawn := rfl
@[simp] theorem State.setSafIn_rdata (s : State) (n : Nat) (x : SafIn) : (s.setSafIn n x).rdata = s.rdata := rfl
@[simp] theorem State.setSafIn_sys (s : State) (n : Nat) (x : SafIn) : (s.setSafIn n x).sys = s.sys := rfl
@[simp] theorem State.setSafIn_flt (s : State) (n : Nat) (x : SafIn) : (s.setSafIn n x).flt = s.flt := rfl
@[simp] theorem State.setSafIn_cores (s : State) (n : Nat) (x : SafIn) : (s.setSafIn n x).cores = s.cores := rfl
@[simp] theorem State.setSafIn_aud (s : State) (n : Nat) (x : SafIn) : (s.setSafIn n x).aud = s.aud := rfl
@[simp] theorem State.setSafIn_sess (s : State) (n : Nat) (x : SafIn) : (s.setSafIn n x).sess = s.sess := rfl
@[simp] theorem State.setSafIn_svc (s : State) (n : Nat) (x : SafIn) : (s.setSafIn n x).svc = s.svc := rfl
@[simp] theorem State.setSafIn_til (s : State) (n : Nat) (x : SafIn) : (s.setSafIn n x).til = s.til := rfl
@[simp] theorem State.setSafIn_xp (s : State) (n : Nat) (x : SafIn) : (s.setSafIn n x).xp = s.xp := rfl
@[simp] theorem State.setSafIn_tim (s : State) (n : Nat) (x : SafIn) : (s.setSafIn n x).tim = s.tim := rfl
@[simp] theorem State.setSafIn_evt (s : State) (n : Nat) (x : SafIn) : (s.setSafIn n x).evt = s.evt := rfl
@[simp] theorem State.setSafIn_topo (s : State) (n : Nat) (x : SafIn) : (s.setSafIn n x).topo = s.topo := rfl
@[simp] theorem State.setSafIn_trg (s : State) (n : Nat) (x : SafIn) : (s.setSafIn n x).trg = s.trg := rfl
@[simp] theorem State.setSafIn_frm (s : State) (n : Nat) (x : SafIn) : (s.setSafIn n x).frm = s.frm := rfl
@[simp] theorem State.setSafIn_fab (s : State) (n : Nat) (x : SafIn) : (s.setSafIn n x).fab = s.fab := rfl
@[simp] theorem State.setSafIn_tdc (s : State) (n : Nat) (x : SafIn) : (s.setSafIn n x).tdc = s.tdc := rfl
@[simp] theorem State.setSafIn_aux (s : State) (n : Nat) (x : SafIn) : (s.setSafIn n x).aux = s.aux := rfl
@[simp] theorem State.setSafIn_ctl (s : State) (n : Nat) (x : SafIn) : (s.setSafIn n x).ctl = s.ctl := rfl
@[simp] theorem State.setSafIn_saf (s : State) (n : Nat) (x : SafIn) : (s.setSafIn n x).saf = { s.saf with ins := s.saf.ins.set n x } := rfl
@[simp] theorem State.setSafIn_lnk (s : State) (n : Nat) (x : SafIn) : (s.setSafIn n x).lnk = s.lnk := rfl
@[simp] theorem State.setSafIn_hst (s : State) (n : Nat) (x : SafIn) : (s.setSafIn n x).hst = s.hst := rfl
@[simp] theorem State.setSafIn_cmp (s : State) (n : Nat) (x : SafIn) : (s.setSafIn n x).cmp = s.cmp := rfl
@[simp] theorem State.setSafIn_ram (s : State) (n : Nat) (x : SafIn) : (s.setSafIn n x).ram = s.ram := rfl
@[simp] theorem State.setSafIn_store (s : State) (n : Nat) (x : SafIn) : (s.setSafIn n x).store = s.store := rfl

/-! ### `State.setSafOut` -/

@[simp] theorem State.setSafOut_pending (s : State) (k : Nat) (x : SafOut) : (s.setSafOut k x).pending = s.pending := rfl
@[simp] theorem State.setSafOut_regs (s : State) (k : Nat) (x : SafOut) : (s.setSafOut k x).regs = s.regs := rfl
@[simp] theorem State.setSafOut_shadow (s : State) (k : Nat) (x : SafOut) : (s.setSafOut k x).shadow = s.shadow := rfl
@[simp] theorem State.setSafOut_mem (s : State) (k : Nat) (x : SafOut) : (s.setSafOut k x).mem = s.mem := rfl
@[simp] theorem State.setSafOut_dtRef (s : State) (k : Nat) (x : SafOut) : (s.setSafOut k x).dtRef = s.dtRef := rfl
@[simp] theorem State.setSafOut_drawn (s : State) (k : Nat) (x : SafOut) : (s.setSafOut k x).drawn = s.drawn := rfl
@[simp] theorem State.setSafOut_rdata (s : State) (k : Nat) (x : SafOut) : (s.setSafOut k x).rdata = s.rdata := rfl
@[simp] theorem State.setSafOut_sys (s : State) (k : Nat) (x : SafOut) : (s.setSafOut k x).sys = s.sys := rfl
@[simp] theorem State.setSafOut_flt (s : State) (k : Nat) (x : SafOut) : (s.setSafOut k x).flt = s.flt := rfl
@[simp] theorem State.setSafOut_cores (s : State) (k : Nat) (x : SafOut) : (s.setSafOut k x).cores = s.cores := rfl
@[simp] theorem State.setSafOut_aud (s : State) (k : Nat) (x : SafOut) : (s.setSafOut k x).aud = s.aud := rfl
@[simp] theorem State.setSafOut_sess (s : State) (k : Nat) (x : SafOut) : (s.setSafOut k x).sess = s.sess := rfl
@[simp] theorem State.setSafOut_svc (s : State) (k : Nat) (x : SafOut) : (s.setSafOut k x).svc = s.svc := rfl
@[simp] theorem State.setSafOut_til (s : State) (k : Nat) (x : SafOut) : (s.setSafOut k x).til = s.til := rfl
@[simp] theorem State.setSafOut_xp (s : State) (k : Nat) (x : SafOut) : (s.setSafOut k x).xp = s.xp := rfl
@[simp] theorem State.setSafOut_tim (s : State) (k : Nat) (x : SafOut) : (s.setSafOut k x).tim = s.tim := rfl
@[simp] theorem State.setSafOut_evt (s : State) (k : Nat) (x : SafOut) : (s.setSafOut k x).evt = s.evt := rfl
@[simp] theorem State.setSafOut_topo (s : State) (k : Nat) (x : SafOut) : (s.setSafOut k x).topo = s.topo := rfl
@[simp] theorem State.setSafOut_trg (s : State) (k : Nat) (x : SafOut) : (s.setSafOut k x).trg = s.trg := rfl
@[simp] theorem State.setSafOut_frm (s : State) (k : Nat) (x : SafOut) : (s.setSafOut k x).frm = s.frm := rfl
@[simp] theorem State.setSafOut_fab (s : State) (k : Nat) (x : SafOut) : (s.setSafOut k x).fab = s.fab := rfl
@[simp] theorem State.setSafOut_tdc (s : State) (k : Nat) (x : SafOut) : (s.setSafOut k x).tdc = s.tdc := rfl
@[simp] theorem State.setSafOut_aux (s : State) (k : Nat) (x : SafOut) : (s.setSafOut k x).aux = s.aux := rfl
@[simp] theorem State.setSafOut_ctl (s : State) (k : Nat) (x : SafOut) : (s.setSafOut k x).ctl = s.ctl := rfl
@[simp] theorem State.setSafOut_saf (s : State) (k : Nat) (x : SafOut) : (s.setSafOut k x).saf = { s.saf with outs := s.saf.outs.set k x } := rfl
@[simp] theorem State.setSafOut_lnk (s : State) (k : Nat) (x : SafOut) : (s.setSafOut k x).lnk = s.lnk := rfl
@[simp] theorem State.setSafOut_hst (s : State) (k : Nat) (x : SafOut) : (s.setSafOut k x).hst = s.hst := rfl
@[simp] theorem State.setSafOut_cmp (s : State) (k : Nat) (x : SafOut) : (s.setSafOut k x).cmp = s.cmp := rfl
@[simp] theorem State.setSafOut_ram (s : State) (k : Nat) (x : SafOut) : (s.setSafOut k x).ram = s.ram := rfl
@[simp] theorem State.setSafOut_store (s : State) (k : Nat) (x : SafOut) : (s.setSafOut k x).store = s.store := rfl

/-! ### `State.setSafConn` -/

@[simp] theorem State.setSafConn_pending (s : State) (c : Nat) (x : SafConn) : (s.setSafConn c x).pending = s.pending := rfl
@[simp] theorem State.setSafConn_regs (s : State) (c : Nat) (x : SafConn) : (s.setSafConn c x).regs = s.regs := rfl
@[simp] theorem State.setSafConn_shadow (s : State) (c : Nat) (x : SafConn) : (s.setSafConn c x).shadow = s.shadow := rfl
@[simp] theorem State.setSafConn_mem (s : State) (c : Nat) (x : SafConn) : (s.setSafConn c x).mem = s.mem := rfl
@[simp] theorem State.setSafConn_dtRef (s : State) (c : Nat) (x : SafConn) : (s.setSafConn c x).dtRef = s.dtRef := rfl
@[simp] theorem State.setSafConn_drawn (s : State) (c : Nat) (x : SafConn) : (s.setSafConn c x).drawn = s.drawn := rfl
@[simp] theorem State.setSafConn_rdata (s : State) (c : Nat) (x : SafConn) : (s.setSafConn c x).rdata = s.rdata := rfl
@[simp] theorem State.setSafConn_sys (s : State) (c : Nat) (x : SafConn) : (s.setSafConn c x).sys = s.sys := rfl
@[simp] theorem State.setSafConn_flt (s : State) (c : Nat) (x : SafConn) : (s.setSafConn c x).flt = s.flt := rfl
@[simp] theorem State.setSafConn_cores (s : State) (c : Nat) (x : SafConn) : (s.setSafConn c x).cores = s.cores := rfl
@[simp] theorem State.setSafConn_aud (s : State) (c : Nat) (x : SafConn) : (s.setSafConn c x).aud = s.aud := rfl
@[simp] theorem State.setSafConn_sess (s : State) (c : Nat) (x : SafConn) : (s.setSafConn c x).sess = s.sess := rfl
@[simp] theorem State.setSafConn_svc (s : State) (c : Nat) (x : SafConn) : (s.setSafConn c x).svc = s.svc := rfl
@[simp] theorem State.setSafConn_til (s : State) (c : Nat) (x : SafConn) : (s.setSafConn c x).til = s.til := rfl
@[simp] theorem State.setSafConn_xp (s : State) (c : Nat) (x : SafConn) : (s.setSafConn c x).xp = s.xp := rfl
@[simp] theorem State.setSafConn_tim (s : State) (c : Nat) (x : SafConn) : (s.setSafConn c x).tim = s.tim := rfl
@[simp] theorem State.setSafConn_evt (s : State) (c : Nat) (x : SafConn) : (s.setSafConn c x).evt = s.evt := rfl
@[simp] theorem State.setSafConn_topo (s : State) (c : Nat) (x : SafConn) : (s.setSafConn c x).topo = s.topo := rfl
@[simp] theorem State.setSafConn_trg (s : State) (c : Nat) (x : SafConn) : (s.setSafConn c x).trg = s.trg := rfl
@[simp] theorem State.setSafConn_frm (s : State) (c : Nat) (x : SafConn) : (s.setSafConn c x).frm = s.frm := rfl
@[simp] theorem State.setSafConn_fab (s : State) (c : Nat) (x : SafConn) : (s.setSafConn c x).fab = s.fab := rfl
@[simp] theorem State.setSafConn_tdc (s : State) (c : Nat) (x : SafConn) : (s.setSafConn c x).tdc = s.tdc := rfl
@[simp] theorem State.setSafConn_aux (s : State) (c : Nat) (x : SafConn) : (s.setSafConn c x).aux = s.aux := rfl
@[simp] theorem State.setSafConn_ctl (s : State) (c : Nat) (x : SafConn) : (s.setSafConn c x).ctl = s.ctl := rfl
@[simp] theorem State.setSafConn_saf (s : State) (c : Nat) (x : SafConn) : (s.setSafConn c x).saf = { s.saf with conn := s.saf.conn.set c x } := rfl
@[simp] theorem State.setSafConn_lnk (s : State) (c : Nat) (x : SafConn) : (s.setSafConn c x).lnk = s.lnk := rfl
@[simp] theorem State.setSafConn_hst (s : State) (c : Nat) (x : SafConn) : (s.setSafConn c x).hst = s.hst := rfl
@[simp] theorem State.setSafConn_cmp (s : State) (c : Nat) (x : SafConn) : (s.setSafConn c x).cmp = s.cmp := rfl
@[simp] theorem State.setSafConn_ram (s : State) (c : Nat) (x : SafConn) : (s.setSafConn c x).ram = s.ram := rfl
@[simp] theorem State.setSafConn_store (s : State) (c : Nat) (x : SafConn) : (s.setSafConn c x).store = s.store := rfl

/-! ### `State.setLport` -/

@[simp] theorem State.setLport_pending (s : State) (p : Nat) (x : LPort) : (s.setLport p x).pending = s.pending := rfl
@[simp] theorem State.setLport_regs (s : State) (p : Nat) (x : LPort) : (s.setLport p x).regs = s.regs := rfl
@[simp] theorem State.setLport_shadow (s : State) (p : Nat) (x : LPort) : (s.setLport p x).shadow = s.shadow := rfl
@[simp] theorem State.setLport_mem (s : State) (p : Nat) (x : LPort) : (s.setLport p x).mem = s.mem := rfl
@[simp] theorem State.setLport_dtRef (s : State) (p : Nat) (x : LPort) : (s.setLport p x).dtRef = s.dtRef := rfl
@[simp] theorem State.setLport_drawn (s : State) (p : Nat) (x : LPort) : (s.setLport p x).drawn = s.drawn := rfl
@[simp] theorem State.setLport_rdata (s : State) (p : Nat) (x : LPort) : (s.setLport p x).rdata = s.rdata := rfl
@[simp] theorem State.setLport_sys (s : State) (p : Nat) (x : LPort) : (s.setLport p x).sys = s.sys := rfl
@[simp] theorem State.setLport_flt (s : State) (p : Nat) (x : LPort) : (s.setLport p x).flt = s.flt := rfl
@[simp] theorem State.setLport_cores (s : State) (p : Nat) (x : LPort) : (s.setLport p x).cores = s.cores := rfl
@[simp] theorem State.setLport_aud (s : State) (p : Nat) (x : LPort) : (s.setLport p x).aud = s.aud := rfl
@[simp] theorem State.setLport_sess (s : State) (p : Nat) (x : LPort) : (s.setLport p x).sess = s.sess := rfl
@[simp] theorem State.setLport_svc (s : State) (p : Nat) (x : LPort) : (s.setLport p x).svc = s.svc := rfl
@[simp] theorem State.setLport_til (s : State) (p : Nat) (x : LPort) : (s.setLport p x).til = s.til := rfl
@[simp] theorem State.setLport_xp (s : State) (p : Nat) (x : LPort) : (s.setLport p x).xp = s.xp := rfl
@[simp] theorem State.setLport_tim (s : State) (p : Nat) (x : LPort) : (s.setLport p x).tim = s.tim := rfl
@[simp] theorem State.setLport_evt (s : State) (p : Nat) (x : LPort) : (s.setLport p x).evt = s.evt := rfl
@[simp] theorem State.setLport_topo (s : State) (p : Nat) (x : LPort) : (s.setLport p x).topo = s.topo := rfl
@[simp] theorem State.setLport_trg (s : State) (p : Nat) (x : LPort) : (s.setLport p x).trg = s.trg := rfl
@[simp] theorem State.setLport_frm (s : State) (p : Nat) (x : LPort) : (s.setLport p x).frm = s.frm := rfl
@[simp] theorem State.setLport_fab (s : State) (p : Nat) (x : LPort) : (s.setLport p x).fab = s.fab := rfl
@[simp] theorem State.setLport_tdc (s : State) (p : Nat) (x : LPort) : (s.setLport p x).tdc = s.tdc := rfl
@[simp] theorem State.setLport_aux (s : State) (p : Nat) (x : LPort) : (s.setLport p x).aux = s.aux := rfl
@[simp] theorem State.setLport_ctl (s : State) (p : Nat) (x : LPort) : (s.setLport p x).ctl = s.ctl := rfl
@[simp] theorem State.setLport_saf (s : State) (p : Nat) (x : LPort) : (s.setLport p x).saf = s.saf := rfl
@[simp] theorem State.setLport_lnk (s : State) (p : Nat) (x : LPort) : (s.setLport p x).lnk = { s.lnk with port := s.lnk.port.set p x } := rfl
@[simp] theorem State.setLport_hst (s : State) (p : Nat) (x : LPort) : (s.setLport p x).hst = s.hst := rfl
@[simp] theorem State.setLport_cmp (s : State) (p : Nat) (x : LPort) : (s.setLport p x).cmp = s.cmp := rfl
@[simp] theorem State.setLport_ram (s : State) (p : Nat) (x : LPort) : (s.setLport p x).ram = s.ram := rfl
@[simp] theorem State.setLport_store (s : State) (p : Nat) (x : LPort) : (s.setLport p x).store = s.store := rfl

/-! ### `State.setLlane` -/

@[simp] theorem State.setLlane_pending (s : State) (l : Nat) (x : LLane) : (s.setLlane l x).pending = s.pending := rfl
@[simp] theorem State.setLlane_regs (s : State) (l : Nat) (x : LLane) : (s.setLlane l x).regs = s.regs := rfl
@[simp] theorem State.setLlane_shadow (s : State) (l : Nat) (x : LLane) : (s.setLlane l x).shadow = s.shadow := rfl
@[simp] theorem State.setLlane_mem (s : State) (l : Nat) (x : LLane) : (s.setLlane l x).mem = s.mem := rfl
@[simp] theorem State.setLlane_dtRef (s : State) (l : Nat) (x : LLane) : (s.setLlane l x).dtRef = s.dtRef := rfl
@[simp] theorem State.setLlane_drawn (s : State) (l : Nat) (x : LLane) : (s.setLlane l x).drawn = s.drawn := rfl
@[simp] theorem State.setLlane_rdata (s : State) (l : Nat) (x : LLane) : (s.setLlane l x).rdata = s.rdata := rfl
@[simp] theorem State.setLlane_sys (s : State) (l : Nat) (x : LLane) : (s.setLlane l x).sys = s.sys := rfl
@[simp] theorem State.setLlane_flt (s : State) (l : Nat) (x : LLane) : (s.setLlane l x).flt = s.flt := rfl
@[simp] theorem State.setLlane_cores (s : State) (l : Nat) (x : LLane) : (s.setLlane l x).cores = s.cores := rfl
@[simp] theorem State.setLlane_aud (s : State) (l : Nat) (x : LLane) : (s.setLlane l x).aud = s.aud := rfl
@[simp] theorem State.setLlane_sess (s : State) (l : Nat) (x : LLane) : (s.setLlane l x).sess = s.sess := rfl
@[simp] theorem State.setLlane_svc (s : State) (l : Nat) (x : LLane) : (s.setLlane l x).svc = s.svc := rfl
@[simp] theorem State.setLlane_til (s : State) (l : Nat) (x : LLane) : (s.setLlane l x).til = s.til := rfl
@[simp] theorem State.setLlane_xp (s : State) (l : Nat) (x : LLane) : (s.setLlane l x).xp = s.xp := rfl
@[simp] theorem State.setLlane_tim (s : State) (l : Nat) (x : LLane) : (s.setLlane l x).tim = s.tim := rfl
@[simp] theorem State.setLlane_evt (s : State) (l : Nat) (x : LLane) : (s.setLlane l x).evt = s.evt := rfl
@[simp] theorem State.setLlane_topo (s : State) (l : Nat) (x : LLane) : (s.setLlane l x).topo = s.topo := rfl
@[simp] theorem State.setLlane_trg (s : State) (l : Nat) (x : LLane) : (s.setLlane l x).trg = s.trg := rfl
@[simp] theorem State.setLlane_frm (s : State) (l : Nat) (x : LLane) : (s.setLlane l x).frm = s.frm := rfl
@[simp] theorem State.setLlane_fab (s : State) (l : Nat) (x : LLane) : (s.setLlane l x).fab = s.fab := rfl
@[simp] theorem State.setLlane_tdc (s : State) (l : Nat) (x : LLane) : (s.setLlane l x).tdc = s.tdc := rfl
@[simp] theorem State.setLlane_aux (s : State) (l : Nat) (x : LLane) : (s.setLlane l x).aux = s.aux := rfl
@[simp] theorem State.setLlane_ctl (s : State) (l : Nat) (x : LLane) : (s.setLlane l x).ctl = s.ctl := rfl
@[simp] theorem State.setLlane_saf (s : State) (l : Nat) (x : LLane) : (s.setLlane l x).saf = s.saf := rfl
@[simp] theorem State.setLlane_lnk (s : State) (l : Nat) (x : LLane) : (s.setLlane l x).lnk = { s.lnk with lane := s.lnk.lane.set l x } := rfl
@[simp] theorem State.setLlane_hst (s : State) (l : Nat) (x : LLane) : (s.setLlane l x).hst = s.hst := rfl
@[simp] theorem State.setLlane_cmp (s : State) (l : Nat) (x : LLane) : (s.setLlane l x).cmp = s.cmp := rfl
@[simp] theorem State.setLlane_ram (s : State) (l : Nat) (x : LLane) : (s.setLlane l x).ram = s.ram := rfl
@[simp] theorem State.setLlane_store (s : State) (l : Nat) (x : LLane) : (s.setLlane l x).store = s.store := rfl

/-! ### `State.setBuf` -/

@[simp] theorem State.setBuf_pending (s : State) (q : Nat) (b : Option QBuf) : (s.setBuf q b).pending = s.pending := rfl
@[simp] theorem State.setBuf_regs (s : State) (q : Nat) (b : Option QBuf) : (s.setBuf q b).regs = s.regs := rfl
@[simp] theorem State.setBuf_shadow (s : State) (q : Nat) (b : Option QBuf) : (s.setBuf q b).shadow = s.shadow := rfl
@[simp] theorem State.setBuf_mem (s : State) (q : Nat) (b : Option QBuf) : (s.setBuf q b).mem = s.mem := rfl
@[simp] theorem State.setBuf_dtRef (s : State) (q : Nat) (b : Option QBuf) : (s.setBuf q b).dtRef = s.dtRef := rfl
@[simp] theorem State.setBuf_drawn (s : State) (q : Nat) (b : Option QBuf) : (s.setBuf q b).drawn = s.drawn := rfl
@[simp] theorem State.setBuf_rdata (s : State) (q : Nat) (b : Option QBuf) : (s.setBuf q b).rdata = s.rdata := rfl
@[simp] theorem State.setBuf_sys (s : State) (q : Nat) (b : Option QBuf) : (s.setBuf q b).sys = s.sys := rfl
@[simp] theorem State.setBuf_flt (s : State) (q : Nat) (b : Option QBuf) : (s.setBuf q b).flt = s.flt := rfl
@[simp] theorem State.setBuf_cores (s : State) (q : Nat) (b : Option QBuf) : (s.setBuf q b).cores = s.cores := rfl
@[simp] theorem State.setBuf_aud (s : State) (q : Nat) (b : Option QBuf) : (s.setBuf q b).aud = s.aud := rfl
@[simp] theorem State.setBuf_sess (s : State) (q : Nat) (b : Option QBuf) : (s.setBuf q b).sess = s.sess := rfl
@[simp] theorem State.setBuf_svc (s : State) (q : Nat) (b : Option QBuf) : (s.setBuf q b).svc = s.svc := rfl
@[simp] theorem State.setBuf_til (s : State) (q : Nat) (b : Option QBuf) : (s.setBuf q b).til = s.til := rfl
@[simp] theorem State.setBuf_xp (s : State) (q : Nat) (b : Option QBuf) : (s.setBuf q b).xp = s.xp := rfl
@[simp] theorem State.setBuf_tim (s : State) (q : Nat) (b : Option QBuf) : (s.setBuf q b).tim = s.tim := rfl
@[simp] theorem State.setBuf_evt (s : State) (q : Nat) (b : Option QBuf) : (s.setBuf q b).evt = s.evt := rfl
@[simp] theorem State.setBuf_topo (s : State) (q : Nat) (b : Option QBuf) : (s.setBuf q b).topo = s.topo := rfl
@[simp] theorem State.setBuf_trg (s : State) (q : Nat) (b : Option QBuf) : (s.setBuf q b).trg = s.trg := rfl
@[simp] theorem State.setBuf_frm (s : State) (q : Nat) (b : Option QBuf) : (s.setBuf q b).frm = s.frm := rfl
@[simp] theorem State.setBuf_fab (s : State) (q : Nat) (b : Option QBuf) : (s.setBuf q b).fab = s.fab := rfl
@[simp] theorem State.setBuf_tdc (s : State) (q : Nat) (b : Option QBuf) : (s.setBuf q b).tdc = s.tdc := rfl
@[simp] theorem State.setBuf_aux (s : State) (q : Nat) (b : Option QBuf) : (s.setBuf q b).aux = s.aux := rfl
@[simp] theorem State.setBuf_ctl (s : State) (q : Nat) (b : Option QBuf) : (s.setBuf q b).ctl = s.ctl := rfl
@[simp] theorem State.setBuf_saf (s : State) (q : Nat) (b : Option QBuf) : (s.setBuf q b).saf = s.saf := rfl
@[simp] theorem State.setBuf_lnk (s : State) (q : Nat) (b : Option QBuf) : (s.setBuf q b).lnk = s.lnk := rfl
@[simp] theorem State.setBuf_hst (s : State) (q : Nat) (b : Option QBuf) : (s.setBuf q b).hst = { s.hst with buf := s.hst.buf.set q b } := rfl
@[simp] theorem State.setBuf_cmp (s : State) (q : Nat) (b : Option QBuf) : (s.setBuf q b).cmp = s.cmp := rfl
@[simp] theorem State.setBuf_ram (s : State) (q : Nat) (b : Option QBuf) : (s.setBuf q b).ram = s.ram := rfl
@[simp] theorem State.setBuf_store (s : State) (q : Nat) (b : Option QBuf) : (s.setBuf q b).store = s.store := rfl

/-! ### `State.setHframe` -/

@[simp] theorem State.setHframe_pending (s : State) (h : Nat) (x : Option HFrame) : (s.setHframe h x).pending = s.pending := rfl
@[simp] theorem State.setHframe_regs (s : State) (h : Nat) (x : Option HFrame) : (s.setHframe h x).regs = s.regs := rfl
@[simp] theorem State.setHframe_shadow (s : State) (h : Nat) (x : Option HFrame) : (s.setHframe h x).shadow = s.shadow := rfl
@[simp] theorem State.setHframe_mem (s : State) (h : Nat) (x : Option HFrame) : (s.setHframe h x).mem = s.mem := rfl
@[simp] theorem State.setHframe_dtRef (s : State) (h : Nat) (x : Option HFrame) : (s.setHframe h x).dtRef = s.dtRef := rfl
@[simp] theorem State.setHframe_drawn (s : State) (h : Nat) (x : Option HFrame) : (s.setHframe h x).drawn = s.drawn := rfl
@[simp] theorem State.setHframe_rdata (s : State) (h : Nat) (x : Option HFrame) : (s.setHframe h x).rdata = s.rdata := rfl
@[simp] theorem State.setHframe_sys (s : State) (h : Nat) (x : Option HFrame) : (s.setHframe h x).sys = s.sys := rfl
@[simp] theorem State.setHframe_flt (s : State) (h : Nat) (x : Option HFrame) : (s.setHframe h x).flt = s.flt := rfl
@[simp] theorem State.setHframe_cores (s : State) (h : Nat) (x : Option HFrame) : (s.setHframe h x).cores = s.cores := rfl
@[simp] theorem State.setHframe_aud (s : State) (h : Nat) (x : Option HFrame) : (s.setHframe h x).aud = s.aud := rfl
@[simp] theorem State.setHframe_sess (s : State) (h : Nat) (x : Option HFrame) : (s.setHframe h x).sess = s.sess := rfl
@[simp] theorem State.setHframe_svc (s : State) (h : Nat) (x : Option HFrame) : (s.setHframe h x).svc = s.svc := rfl
@[simp] theorem State.setHframe_til (s : State) (h : Nat) (x : Option HFrame) : (s.setHframe h x).til = s.til := rfl
@[simp] theorem State.setHframe_xp (s : State) (h : Nat) (x : Option HFrame) : (s.setHframe h x).xp = s.xp := rfl
@[simp] theorem State.setHframe_tim (s : State) (h : Nat) (x : Option HFrame) : (s.setHframe h x).tim = s.tim := rfl
@[simp] theorem State.setHframe_evt (s : State) (h : Nat) (x : Option HFrame) : (s.setHframe h x).evt = s.evt := rfl
@[simp] theorem State.setHframe_topo (s : State) (h : Nat) (x : Option HFrame) : (s.setHframe h x).topo = s.topo := rfl
@[simp] theorem State.setHframe_trg (s : State) (h : Nat) (x : Option HFrame) : (s.setHframe h x).trg = s.trg := rfl
@[simp] theorem State.setHframe_frm (s : State) (h : Nat) (x : Option HFrame) : (s.setHframe h x).frm = s.frm := rfl
@[simp] theorem State.setHframe_fab (s : State) (h : Nat) (x : Option HFrame) : (s.setHframe h x).fab = s.fab := rfl
@[simp] theorem State.setHframe_tdc (s : State) (h : Nat) (x : Option HFrame) : (s.setHframe h x).tdc = s.tdc := rfl
@[simp] theorem State.setHframe_aux (s : State) (h : Nat) (x : Option HFrame) : (s.setHframe h x).aux = s.aux := rfl
@[simp] theorem State.setHframe_ctl (s : State) (h : Nat) (x : Option HFrame) : (s.setHframe h x).ctl = s.ctl := rfl
@[simp] theorem State.setHframe_saf (s : State) (h : Nat) (x : Option HFrame) : (s.setHframe h x).saf = s.saf := rfl
@[simp] theorem State.setHframe_lnk (s : State) (h : Nat) (x : Option HFrame) : (s.setHframe h x).lnk = s.lnk := rfl
@[simp] theorem State.setHframe_hst (s : State) (h : Nat) (x : Option HFrame) : (s.setHframe h x).hst = { s.hst with cur := s.hst.cur.set h x } := rfl
@[simp] theorem State.setHframe_cmp (s : State) (h : Nat) (x : Option HFrame) : (s.setHframe h x).cmp = s.cmp := rfl
@[simp] theorem State.setHframe_ram (s : State) (h : Nat) (x : Option HFrame) : (s.setHframe h x).ram = s.ram := rfl
@[simp] theorem State.setHframe_store (s : State) (h : Nat) (x : Option HFrame) : (s.setHframe h x).store = s.store := rfl

end Sys2Proof.Machine
end

