-- ==== Sys2Proof/Laws/Ops.lean ====
section
/-! SUPPORT. Laws/Ops.lean: what each named operation over registers can do, said once: reads after writes, the access gate,
counters, commits, and the canonical form that each of them keeps. -/

namespace Sys2Proof.Machine

/-! ## Outcomes -/

@[simp] theorem need_true (s : State) : need true s = .next s := rfl
@[simp] theorem need_false (s : State) : need false s = .refused .noSuchUnit := rfl

theorem need_next {c : Bool} {s t : State} : need c s = .next t ↔ c = true ∧ s = t := by
  cases c <;> simp [need]

@[simp] theorem State.cond_true (s : State) (f : State → State) : s.cond true f = f s := rfl
@[simp] theorem State.cond_false (s : State) (f : State → State) : s.cond false f = s := rfl
@[simp] theorem State.each_nil {α : Type} (s : State) (f : State → α → State) : s.each [] f = s := rfl
@[simp] theorem State.each_cons {α : Type} (s : State) (a : α) (l : List α) (f : State → α → State) :
    s.each (a :: l) f = (f s a).each l f := rfl

/-- An access that reaches its register has the register's effect. -/
@[simp] theorem State.bar_of_responds {s : State} {a : Nat} (h : s.responds a = true) (f : State → State) : s.bar a f = f s := by
  simp [State.bar, h]

/-- An access can reach its register, be discarded and counted, or never arrive; nothing else. -/
theorem State.bar_cases (s : State) (a : Nat) (f : State → State) :
    s.bar a f = f s ∨ s.bar a f = s.bump Reg.HST_BADACC_COUNT Reg.HST_INT_CNT_SAT ∨ s.bar a f = s := by
  unfold State.bar; split
  · exact .inl rfl
  · split
    · exact .inr (.inl rfl)
    · exact .inr (.inr rfl)

/-! ## Register reads after writes -/

@[simp] theorem State.get_put_self (s : State) (f : Fld) (v i j : Nat) : (s.put f v i j).get f i j = trunc f.width v := by
  simp [State.get, State.put]

/-- A write of one instance leaves every other one alone. -/
theorem State.get_put_of_ne (s : State) (f g : Fld) (v i j i' j' : Nat) (h : (⟨g.id, i', j'⟩ : RKey) ≠ ⟨f.id, i, j⟩) :
    (s.put f v i j).get g i' j' = s.get g i' j' := by
  simp only [State.get, State.put]
  exact SMap.get_set_of_ne _ _ _ _ h

/-- A write of one field leaves every other field alone. -/
theorem State.get_put_of_id (s : State) (f g : Fld) (v i j i' j' : Nat) (h : g.id ≠ f.id) :
    (s.put f v i j).get g i' j' = s.get g i' j' := s.get_put_of_ne f g v i j i' j' fun e => h (congrArg RKey.f e)

/-- A write of one instance of a field leaves its other instances alone. -/
theorem State.get_put_of_inst (s : State) (f : Fld) (v i j i' j' : Nat) (h : i' ≠ i ∨ j' ≠ j) :
    (s.put f v i j).get f i' j' = s.get f i' j' :=
  s.get_put_of_ne f f v i j i' j' fun e => by
    injection e with _ hi hj
    rcases h with h | h
    · exact h hi
    · exact h hj

@[simp] theorem State.flag_put_self (s : State) (f : Fld) (v i j : Nat) : (s.put f v i j).flag f i j = (trunc f.width v != 0) := by
  simp [State.flag]

@[simp] theorem State.get_stage (s : State) (f g : Fld) (v i j i' j' : Nat) : (s.stage f v i j).get g i' j' = s.get g i' j' := rfl
@[simp] theorem State.get_unstage (s : State) (f g : Fld) (i j i' j' : Nat) : (s.unstage f i j).get g i' j' = s.get g i' j' := rfl

/-- A field the register table lists at its reset value reads so in a state whose register file is empty. -/
theorem State.get_of_regs_nil {s : State} (h : s.regs = []) (f : Fld) (i j : Nat) : s.get f i j = f.reset i j := by
  simp [State.get, h]

/-- Reads depend on the register file alone. -/
theorem State.get_congr {s t : State} (h : s.regs = t.regs) (f : Fld) (i j : Nat) : s.get f i j = t.get f i j := by
  simp [State.get, h]

/-! ## Shadow copies -/

theorem SMap.get_map_some {κ β : Type} [DecidableEq κ] (m : List (κ × β)) (k : κ) :
    SMap.get none (m.map fun e => (e.1, some e.2)) k = (m.find? fun e => decide (k = e.1)).map (·.2) := by
  induction m with
  | nil => rfl
  | cons e m ih =>
    obtain ⟨a, v⟩ := e
    by_cases h : k = a <;> simp [SMap.get_cons, h, ih]

theorem SMap.map_insert {κ β γ : Type} {lt : κ → κ → Bool} (m : List (κ × β)) (k : κ) (v : β) (g : β → γ) :
    (SMap.insert lt k v m).map (fun e => (e.1, g e.2)) = SMap.insert lt k (g v) (m.map fun e => (e.1, g e.2)) := by
  induction m with
  | nil => rfl
  | cons e m ih =>
    simp only [SMap.insert, List.map_cons]
    split <;> simp [ih]

/-- The value left pending is the pending one. -/
@[simp] theorem State.shadowOf_stage_self (s : State) (f : Fld) (v i j : Nat) :
    (s.stage f v i j).shadowOf f i j = some (trunc f.width v) := by
  simp only [State.shadowOf, State.stage_shadow, SMap.map_insert]
  refine SMap.get_insert_self _ _ _ _ fun e he => ?_
  obtain ⟨x, hx, rfl⟩ := List.mem_map.1 he
  exact SMap.erase_ne _ _ x hx

/-- A commit with nothing pending does nothing; else the pending value is in force and nothing else of the state moves but the register
file and the shadow copies. -/
theorem State.commit_cases (s : State) (f : Fld) (i j : Nat) :
    (s.shadowOf f i j = none ∧ s.commit f i j = s) ∨
    ∃ v, s.shadowOf f i j = some v ∧ s.commit f i j = (s.put f v i j).unstage f i j := by
  unfold State.commit
  split
  · next h => exact .inl ⟨h, rfl⟩
  · next v h => exact .inr ⟨v, h, rfl⟩

/-! ## Counters -/

/-- A counter goes up by the amount, or stops at its largest value and sets its block's CNT_SAT bit. -/
theorem State.bump_cases (s : State) (f sat : Fld) (i j n k : Nat) :
    (s.get f i j + n < 2 ^ f.width - 1 ∧ s.bump f sat i j n k = s.put f (s.get f i j + n) i j) ∨
    (2 ^ f.width - 1 ≤ s.get f i j + n ∧ s.bump f sat i j n k = (s.put f (2 ^ f.width - 1) i j).put sat 1 k) := by
  unfold State.bump; split
  · next h => exact .inl ⟨h, rfl⟩
  · next h => exact .inr ⟨by omega, rfl⟩

/-- Only the counter and its CNT_SAT bit differ after a count. -/
theorem State.bump_eq (s : State) (f sat : Fld) (i j n k : Nat) :
    s.bump f sat i j n k = { s with regs := (s.bump f sat i j n k).regs } := by
  rcases s.bump_cases f sat i j n k with ⟨_, h⟩ | ⟨_, h⟩ <;> rw [h] <;> rfl

/-- A counter never falls by counting. -/
theorem State.bump_get (s : State) (f sat : Fld) (i j n k : Nat) (hf : f.id ≠ sat.id) :
    (s.bump f sat i j n k).get f i j = min (s.get f i j + n) (2 ^ f.width - 1) := by
  have hp : 0 < 2 ^ f.width := Nat.two_pow_pos _
  rcases s.bump_cases f sat i j n k with ⟨h, e⟩ | ⟨h, e⟩ <;> rw [e]
  · rw [State.get_put_self, trunc_of_lt (by omega)]; omega
  · rw [State.get_put_of_id _ _ _ _ _ _ _ _ hf, State.get_put_self, trunc_of_lt (by omega)]; omega

/-! ## The canonical form -/

theorem State.Canon.mk' {s : State} (a : SMap.Sorted RKey.lt s.regs) (b : SMap.Sorted RKey.lt s.shadow) (c : Memory.wf s.mem) :
    s.Canon := ⟨a, b, c⟩

/-- A change outside the register file, the shadow copies and buffer memory keeps the form. -/
theorem State.Canon.of_eq {s t : State} (h : s.Canon) (a : t.regs = s.regs) (b : t.shadow = s.shadow) (c : t.mem = s.mem) : t.Canon := by
  unfold State.Canon; rw [a, b, c]; exact h

theorem State.Canon.put {s : State} (h : s.Canon) (f : Fld) (v i j : Nat) : (s.put f v i j).Canon :=
  ⟨SMap.sorted_set RKey.lt_trans RKey.lt_total h.1 _ _ _, h.2⟩

theorem State.Canon.putB {s : State} (h : s.Canon) (f : Fld) (b : Bool) (i j : Nat) : (s.putB f b i j).Canon := h.put f _ i j

theorem State.Canon.stage {s : State} (h : s.Canon) (f : Fld) (v i j : Nat) : (s.stage f v i j).Canon :=
  ⟨h.1, SMap.sorted_insert RKey.lt_trans RKey.lt_total (SMap.sorted_erase h.2.1 _) (SMap.erase_ne _ _) _, h.2.2⟩

theorem State.Canon.unstage {s : State} (h : s.Canon) (f : Fld) (i j : Nat) : (s.unstage f i j).Canon :=
  ⟨h.1, SMap.sorted_erase h.2.1 _, h.2.2⟩

theorem State.Canon.commit {s : State} (h : s.Canon) (f : Fld) (i j : Nat) : (s.commit f i j).Canon := by
  rcases s.commit_cases f i j with ⟨_, e⟩ | ⟨v, _, e⟩ <;> rw [e]
  · exact h
  · exact (h.put f v i j).unstage f i j

theorem State.Canon.clearFields {s : State} (h : s.Canon) (ids : List Nat) : (s.clearFields ids).Canon :=
  ⟨List.Pairwise.filter _ h.1, h.2⟩

theorem State.Canon.putKeys {s : State} (h : s.Canon) (l : RegMap) : (s.putKeys l).Canon := by
  refine ⟨?_, h.2⟩
  have key : ∀ (l m : RegMap), SMap.Sorted RKey.lt m →
      SMap.Sorted RKey.lt (l.foldl (fun m e => SMap.set RKey.lt (regReset e.1) m e.1 e.2) m) := by
    intro l
    induction l with
    | nil => exact fun m hm => hm
    | cons e l ih => exact fun m hm => ih _ (SMap.sorted_set RKey.lt_trans RKey.lt_total hm _ _ _)
  exact key l s.regs h.1

theorem State.Canon.commitAll {s : State} (h : s.Canon) (ids : List Nat) : (s.commitAll ids).Canon :=
  ⟨(h.putKeys _).1, List.Pairwise.filter _ h.2.1, h.2.2⟩

theorem State.Canon.bump {s : State} (h : s.Canon) (f sat : Fld) (i j n k : Nat) : (s.bump f sat i j n k).Canon := by
  rcases s.bump_cases f sat i j n k with ⟨_, e⟩ | ⟨_, e⟩ <;> rw [e]
  · exact h.put ..
  · exact (h.put ..).put ..

theorem State.Canon.ite {c : Prop} [Decidable c] {a b : State} (ha : a.Canon) (hb : b.Canon) : (if c then a else b).Canon := by
  split
  · exact ha
  · exact hb

theorem State.Canon.cond {s : State} (h : s.Canon) (c : Bool) {f : State → State} (hf : s.Canon → (f s).Canon) : (s.cond c f).Canon := by
  cases c
  · exact h
  · exact hf h

theorem State.Canon.each {α : Type} (l : List α) (f : State → α → State) (hf : ∀ s a, s.Canon → (f s a).Canon) :
    ∀ {s : State}, s.Canon → (s.each l f).Canon := by
  induction l with
  | nil => exact fun h => h
  | cons a l ih => exact fun h => ih (hf _ a h)

theorem State.Canon.bar {s : State} (h : s.Canon) (a : Nat) {f : State → State} (hf : s.Canon → (f s).Canon) : (s.bar a f).Canon := by
  rcases s.bar_cases a f with e | e | e <;> rw [e]
  · exact hf h
  · exact h.bump ..
  · exact h

/-! ## Frames -/

theorem RegsOnly.refl (l : List Fld) (s : State) : RegsOnly l s s := ⟨rfl, fun _ _ _ _ => rfl⟩

theorem RegsOnly.mono {l l' : List Fld} {s t : State} (h : RegsOnly l s t) (hl : ∀ f ∈ l, f ∈ l') : RegsOnly l' s t :=
  ⟨h.1, fun f i j hf => h.2 f i j fun hm => hf <| by
    obtain ⟨g, hg, e⟩ := List.mem_map.1 hm
    exact List.mem_map.2 ⟨g, hl g hg, e⟩⟩

/-- Two changes in a row change the registers of either. -/
theorem RegsOnly.trans {l : List Fld} {s t u : State} (h : RegsOnly l s t) (h' : RegsOnly l t u) : RegsOnly l s u :=
  ⟨by rw [h'.1, h.1], fun f i j hf => (h'.2 f i j hf).trans (h.2 f i j hf)⟩

theorem RegsOnly.put {l : List Fld} (s : State) (f : Fld) (v i j : Nat) (hf : f ∈ l) : RegsOnly l s (s.put f v i j) :=
  ⟨rfl, fun _ _ _ hg => State.get_put_of_id _ _ _ _ _ _ _ _ fun e => hg (List.mem_map.2 ⟨f, hf, e.symm⟩)⟩

theorem RegsOnly.bump {l : List Fld} (s : State) (f sat : Fld) (i j n k : Nat) (hf : f ∈ l) (hs : sat ∈ l) :
    RegsOnly l s (s.bump f sat i j n k) := by
  rcases s.bump_cases f sat i j n k with ⟨_, e⟩ | ⟨_, e⟩ <;> rw [e]
  · exact RegsOnly.put _ _ _ _ _ hf
  · exact (RegsOnly.put _ _ _ _ _ hf).trans (RegsOnly.put _ _ _ _ _ hs)

end Sys2Proof.Machine
end

