-- ==== Sys2Proof/Laws/Frame.lean ====
section
/-! SUPPORT. Laws/Frame.lean: which register fields each shared operation can change. -/

namespace Sys2Proof.Machine

variable {l : List Fld} {s u : State}

theorem OnlyFields.refl (l : List Fld) (s : State) : OnlyFields l s s := fun _ _ _ _ => rfl

theorem OnlyFields.of_regs {t : State} (h : t.regs = s.regs) : OnlyFields l s t := fun f i j _ => State.get_congr h f i j

theorem OnlyFields.trans {t : State} (h : OnlyFields l s t) (h' : OnlyFields l t u) : OnlyFields l s u :=
  fun f i j hf => (h' f i j hf).trans (h f i j hf)

theorem OnlyFields.mono {l' : List Fld} (h : OnlyFields l s u) (hl : ∀ f ∈ l, f ∈ l') : OnlyFields l' s u := fun f i j hf =>
  h f i j fun hm => hf (by
    obtain ⟨g, hg, e⟩ := List.mem_map.1 hm
    exact List.mem_map.2 ⟨g, hl g hg, e⟩)

/-- Storing to a listed field changes no other field. -/
theorem OnlyFields.put (f : Fld) (v i j : Nat) (hf : f ∈ l) (h : OnlyFields l s u) : OnlyFields l s (u.put f v i j) := by
  intro g i' j' hg
  rw [State.get_put_of_id _ _ _ _ _ _ _ _ (fun e => hg (List.mem_map.2 ⟨f, hf, e.symm⟩))]
  exact h g i' j' hg

theorem OnlyFields.putB (f : Fld) (b : Bool) (i j : Nat) (hf : f ∈ l) (h : OnlyFields l s u) : OnlyFields l s (u.putB f b i j) :=
  h.put f _ i j hf

/-- A count changes its counter and the CNT_SAT bit alone. -/
theorem OnlyFields.bump (f sat : Fld) (i j n k : Nat) (hf : f ∈ l) (hs : sat ∈ l) (h : OnlyFields l s u) :
    OnlyFields l s (u.bump f sat i j n k) := by
  unfold State.bump; split
  · exact h.put f _ i j hf
  · exact (h.put f _ i j hf).put sat _ k 0 hs

theorem OnlyFields.cond {c : Bool} {f : State → State} (h : OnlyFields l s u) (hf : OnlyFields l s u → OnlyFields l s (f u)) :
    OnlyFields l s (u.cond c f) := by
  unfold State.cond; split
  · exact hf h
  · exact h

theorem OnlyFields.ite {c : Prop} [Decidable c] {a b : State} (ha : OnlyFields l s a) (hb : OnlyFields l s b) :
    OnlyFields l s (if c then a else b) := by
  split
  · exact ha
  · exact hb

theorem OnlyFields.each {α : Type} (m : List α) (f : State → α → State) (hf : ∀ u a, OnlyFields l s u → OnlyFields l s (f u a)) :
    ∀ u, OnlyFields l s u → OnlyFields l s (u.each m f) := by
  induction m with
  | nil => exact fun _ h => h
  | cons a m ih => exact fun u h => ih _ (hf u a h)

theorem SMap.get_filter {β : Type} (d : β) (p : RKey → Bool) (k : RKey) (m : List (RKey × β)) :
    SMap.get d (m.filter fun e => p e.1) k = if p k then SMap.get d m k else d := by
  induction m with
  | nil => simp [SMap.get]
  | cons e m ih =>
    obtain ⟨a, v⟩ := e
    by_cases h : k = a
    · subst h; by_cases hp : p k <;> simp [SMap.get_cons, hp, ih]
    · by_cases hp : p a <;> simp [SMap.get_cons, hp, ih, h]

/-- Fields that return to their reset values leave the others alone. -/
theorem State.get_clearFields_of_not (s : State) (ids : List Nat) (f : Fld) (i j : Nat) (h : f.id ∉ ids) :
    (s.clearFields ids).get f i j = s.get f i j :=
  (SMap.get_filter (f.reset i j) (fun k => !ids.contains k.f) ⟨f.id, i, j⟩ s.regs).trans (by simp [h, State.get])

/-- A field that returns to its reset value reads so. -/
theorem State.get_clearFields_self (s : State) (ids : List Nat) (f : Fld) (i j : Nat) (h : f.id ∈ ids) :
    (s.clearFields ids).get f i j = f.reset i j :=
  (SMap.get_filter (f.reset i j) (fun k => !ids.contains k.f) ⟨f.id, i, j⟩ s.regs).trans (by simp [h])

theorem OnlyFields.clearFields (ids : List Nat) (hl : ∀ n ∈ ids, n ∈ l.map (·.id)) (h : OnlyFields l s u) :
    OnlyFields l s (u.clearFields ids) := fun f i j hf =>
  (u.get_clearFields_of_not ids f i j fun hm => hf (hl _ hm)).trans (h f i j hf)

theorem Only.mk {l : List Fld} {s t u : State} (h : t = u) (h' : OnlyFields l s t) : Only l s t u := ⟨h, h'⟩

/-! ## Audit entries -/

/-- An entry enters the queue or is lost and counted; either way three register fields can change. -/
theorem OnlyFields.auditPush (e : AudEntry) (w : Option (Nat × Nat)) (h1 : Reg.GEN_AUD_STATUS_PEND ∈ l)
    (h2 : Reg.GEN_AUD_DROP_COUNT ∈ l) (h3 : Reg.GEN_SVC_INT_CNT_SAT ∈ l) (h : OnlyFields l s u) : OnlyFields l s (u.auditPush e w) := by
  unfold State.auditPush; split
  · exact OnlyFields.put _ _ _ _ h1 h
  · exact OnlyFields.bump _ _ _ _ _ _ h2 h3 h

theorem OnlyFields.audit (a b c d e f : Nat) (h1 : Reg.GEN_AUD_STATUS_PEND ∈ l) (h2 : Reg.GEN_AUD_DROP_COUNT ∈ l)
    (h3 : Reg.GEN_SVC_INT_CNT_SAT ∈ l) (h : OnlyFields l s u) : OnlyFields l s (u.audit a b c d e f) :=
  h.auditPush _ _ h1 h2 h3

/-- A count leaves the audit queue alone. -/
theorem State.bump_aud (s : State) (f sat : Fld) (i j n k : Nat) : (s.bump f sat i j n k).aud = s.aud := by
  rw [s.bump_eq f sat i j n k]

/-- An entry changes the register file and the always-on queue alone. -/
theorem State.auditPush_eq (s : State) (e : AudEntry) (w : Option (Nat × Nat)) :
    s.auditPush e w = { s with regs := (s.auditPush e w).regs, aud := (s.auditPush e w).aud } := by
  by_cases h : s.aud.queue.length < 32
  · simp only [State.auditPush, if_pos h]; rfl
  · simp only [State.auditPush, if_neg h]
    rw [State.bump_aud]
    exact State.bump_eq _ _ _ _ _ _ _

/-! ## Sessions and resets -/

theorem State.audit_eq (s : State) (a b c d e f : Nat) :
    s.audit a b c d e f = { s with regs := (s.audit a b c d e f).regs, aud := (s.audit a b c d e f).aud } := s.auditPush_eq _ _

/-- Closing a session changes registers, the audit queue and the staged safety set alone. -/
theorem State.closeSession_eq (s : State) (r : Nat) :
    s.closeSession r = { s with regs := (s.closeSession r).regs, aud := (s.closeSession r).aud, shadow := (s.closeSession r).shadow } := by
  unfold State.closeSession
  generalize s.audit 4 0 0x210 0 0 r = u, s.audit_eq 4 0 0x210 0 0 r = hu
  by_cases h : s.get Reg.GEN_SESS_STATUS_STATE = 2
  · simp only [if_pos h]
    cases hc : u.role == 3
    · simp only [State.cond_false, State.each, List.foldl, State.put]; rw [hu]
    · simp only [State.cond_true, State.dropSafety, State.each, List.foldl, State.put]; rw [hu]
  · simp only [if_neg h]

/-- The fields a closing session changes. -/
def sessionFields : List Fld :=
  [Reg.GEN_SESS_STATUS_STATE, Reg.GEN_SESS_STATUS_ROLE, Reg.GEN_KEY_STAGE_KEY, Reg.GEN_SVC_INT_SESSION] ++ auditFields

theorem State.closeSession_only (s : State) (r : Nat) : OnlyFields sessionFields s (s.closeSession r) := by
  unfold State.closeSession
  split
  · refine OnlyFields.put _ _ _ _ (by decide) (OnlyFields.each _ _ (fun v a hv => hv.put _ _ _ _ (by decide)) _ ?_)
    refine OnlyFields.put _ _ _ _ (by decide) (OnlyFields.put _ _ _ _ (by decide) (OnlyFields.cond ?_ ?_))
    · exact OnlyFields.audit _ _ _ _ _ _ (by decide) (by decide) (by decide) (OnlyFields.refl _ _)
    · exact fun h => h.trans (OnlyFields.of_regs rfl)
  · exact OnlyFields.refl _ _

/-- A pin or module reset leaves everything outside the always-on domain as after reset. -/
theorem State.resetAll_wasReset (s : State) (k : Nat) : WasReset (decide (4 ≤ k)) s (s.resetAll k) := by
  have h := s.closeSession_eq 2
  refine ⟨fun f i j hf => ?_, rfl, rfl, ?_, ?_⟩
  · unfold State.resetAll
    rw [State.get_put_of_id _ _ _ _ _ _ _ _ (fun e => hf (by rw [e]; decide))]
    exact (SMap.get_filter (f.reset i j) (fun k => bootKeep.contains k.f) ⟨f.id, i, j⟩ _).trans (by simp [hf])
  · simp only [State.resetAll, State.put]; rw [h]
  · have hv : (s.closeSession 2).svc = s.svc := by rw [h]
    have ht : (s.closeSession 2).store = s.store := by rw [h]
    simp only [State.resetAll, State.put, hv, ht, decide_eq_true_eq]

/-- The always-on BOOT fields keep their values through a reset, but for the kind of reset. -/
theorem State.resetAll_keep (s : State) (k : Nat) (f : Fld) (i j : Nat) (hf : f.id ∈ bootKeep) (hk : f.id ≠ Reg.BOOT_LAST_KIND.id) :
    (s.resetAll k).get f i j = s.get f i j := by
  unfold State.resetAll
  rw [State.get_put_of_id _ _ _ _ _ _ _ _ hk]
  refine (SMap.get_filter (f.reset i j) (fun k => bootKeep.contains k.f) ⟨f.id, i, j⟩ _).trans ?_
  simp only [List.contains_eq_mem, hf, decide_true, if_true]
  exact s.closeSession_only 2 f i j fun h => by revert hf; revert h; generalize f.id = n; intro h; fin_cases h <;> decide

theorem State.resetAll_kind (s : State) (k : Nat) : (s.resetAll k).get Reg.BOOT_LAST_KIND = trunc 3 k := State.get_put_self ..

/-! ## Time -/

theorem OnlyFields.elapse (n : Nat) (hl : ∀ f ∈ timeFields, f ∈ l) (h : OnlyFields l s u) : OnlyFields l s (u.elapse n) := by
  unfold State.elapse; split
  · exact h
  · refine OnlyFields.each _ _ (fun v a hv => hv.bump _ _ _ _ _ _ (hl _ (by simp [timeFields])) (hl _ (by simp [timeFields]))) _ ?_
    refine OnlyFields.each _ _ (fun v a hv => OnlyFields.put _ _ _ _ (hl _ (by simp [timeFields]))
      (hv.bump _ _ _ _ _ _ (hl _ (by simp [timeFields])) (hl _ (by simp [timeFields])))) _ ?_
    refine OnlyFields.each _ _ (fun v a hv => hv.bump _ _ _ _ _ _ (hl _ (by simp [timeFields])) (hl _ (by simp [timeFields]))) _ ?_
    refine OnlyFields.each _ _ (fun v a hv => hv.bump _ _ _ _ _ _ (hl _ (by simp [timeFields])) (hl _ (by simp [timeFields]))) _ ?_
    exact OnlyFields.each _ _ (fun v a hv => hv.bump _ _ _ _ _ _ (hl _ (by simp [timeFields])) (hl _ (by simp [timeFields]))) _ h

/-- Time that passes moves DT and the counters of reference periods alone. -/
theorem OnlyFields.advanceTo (d : Nat) (hl : ∀ f ∈ timeFields, f ∈ l) (h : OnlyFields l s u) : OnlyFields l s (u.advanceTo d) :=
  h.elapse _ hl

/-- `t` is `s` but for the register file. -/
def SameButRegs (s t : State) : Prop := t = { s with regs := t.regs }

theorem SameButRegs.refl (s : State) : SameButRegs s s := rfl
theorem SameButRegs.trans {s t u : State} (h : SameButRegs s t) (h' : SameButRegs t u) : SameButRegs s u := by
  rw [SameButRegs] at *; rw [h', h]
theorem SameButRegs.put (s : State) (f : Fld) (v i j : Nat) : SameButRegs s (s.put f v i j) := rfl
theorem SameButRegs.bump (s : State) (f sat : Fld) (i j n k : Nat) : SameButRegs s (s.bump f sat i j n k) := by
  unfold State.bump; split <;> rfl
theorem SameButRegs.each {α : Type} (s : State) (m : List α) (f : State → α → State) (hf : ∀ u a, SameButRegs u (f u a)) :
    ∀ u, SameButRegs s u → SameButRegs s (u.each m f) := by
  induction m with
  | nil => exact fun _ h => h
  | cons a m ih => exact fun u h => ih _ (h.trans (hf u a))

/-- Time that passes changes the register file and DT alone. -/
theorem State.advanceTo_eq (s : State) (d : Nat) :
    s.advanceTo d = { s with regs := (s.advanceTo d).regs, dtRef := max s.dtRef d % 2 ^ 64 } := by
  have : SameButRegs s (s.elapse (d - s.dtRef)) := by
    unfold State.elapse; split
    · rfl
    · refine .each _ _ _ (fun v a => .bump ..) _ (.each _ _ _ (fun v a => (SameButRegs.bump ..).trans (.put ..)) _
        (.each _ _ _ (fun v a => .bump ..) _ (.each _ _ _ (fun v a => .bump ..) _ (.each _ _ _ (fun v a => .bump ..) _ (.refl s)))))
  simp only [State.advanceTo]
  generalize s.elapse (d - s.dtRef) = u at this
  rw [SameButRegs] at this
  generalize u.regs = r at this ⊢
  subst this; rfl

end Sys2Proof.Machine
end

