-- ==== Sys2Proof/Laws/Memory.lean ====
section
/-! SUPPORT. Laws/Memory.lean: buffer memory after a write, and the canonical form that every memory operation keeps. -/

namespace Sys2Proof.Machine

/-! ## Bytes and words -/

@[simp] theorem memGet_memSet_self (m : List Host.Cell) (a : Nat) (b : Byte) : memGet (memSet m a b) a = b :=
  SMap.get_set_self _ _ _ _

/-- A byte write leaves every other byte alone. -/
theorem memGet_memSet_of_ne (m : List Host.Cell) {a a' : Nat} (b : Byte) (h : a' ≠ a) : memGet (memSet m a b) a' = memGet m a' :=
  SMap.get_set_of_ne _ _ _ _ h

/-- A byte write keeps the canonical form. -/
theorem Memory.wf_set {m : List Host.Cell} (h : Memory.wf m) (a : Nat) (b : Byte) : Memory.wf (memSet m a b) :=
  ⟨SMap.sorted_set natLt_trans natLt_total h.1 _ _ _, SMap.noDefault_set h.2 a b⟩

theorem Memory.wf_filter {m : List Host.Cell} (h : Memory.wf m) (p : Host.Cell → Bool) : Memory.wf (m.filter p) :=
  ⟨List.Pairwise.filter _ h.1, fun c hc => h.2 c (List.mem_of_mem_filter hc)⟩

/-- A word write keeps the canonical form. -/
theorem Memory.wf_putWord {m : List Host.Cell} (h : Memory.wf m) (w v : Nat) : Memory.wf (memPutWord m w v) := by
  unfold memPutWord
  have key : ∀ (l : List Nat) (m : List Host.Cell), Memory.wf m →
      Memory.wf (l.foldl (fun m i => memSet m (8 * w + i) (BitVec.ofNat 8 (v / 2 ^ (8 * i)))) m) := by
    intro l
    induction l with
    | nil => exact fun m hm => hm
    | cons i l ih => exact fun m hm => ih _ (Memory.wf_set hm _ _)
  exact key _ _ h

/-- A word write leaves every byte outside the word alone. -/
theorem memGet_putWord_of_ne (m : List Host.Cell) (w v a : Nat) (h : a < 8 * w ∨ 8 * w + 8 ≤ a) :
    memGet (memPutWord m w v) a = memGet m a := by
  unfold memPutWord
  have key : ∀ (l : List Nat) (m : List Host.Cell), (∀ i ∈ l, i < 8) →
      memGet (l.foldl (fun m i => memSet m (8 * w + i) (BitVec.ofNat 8 (v / 2 ^ (8 * i)))) m) a = memGet m a := by
    intro l
    induction l with
    | nil => exact fun m _ => rfl
    | cons i l ih =>
      intro m hl
      rw [List.foldl_cons, ih _ fun j hj => hl j (by simp [hj])]
      exact memGet_memSet_of_ne _ _ (by have := hl i (by simp); omega)
  exact key _ _ fun i hi => List.mem_range.1 hi

/-! ## Operations on the state keep the canonical form -/

theorem State.Canon.setWord {s : State} (h : s.Canon) (w v e : Nat) : (s.setWord w v e).Canon :=
  ⟨h.1, h.2.1, Memory.wf_putWord h.2.2 w v⟩

theorem State.Canon.storeWord {s : State} (h : s.Canon) (w v : Nat) (p : Bool) : (s.storeWord w v p).Canon := h.setWord ..

theorem State.Canon.unwrite {s : State} (h : s.Canon) (c : Nat → Bool) : (s.unwrite c).Canon :=
  ⟨h.1, h.2.1, Memory.wf_filter h.2.2 _⟩

theorem State.Canon.mcount {s : State} (h : s.Canon) (f : Fld) (n : Nat) : (s.mcount f n).Canon := h.bump ..

theorem State.Canon.setTrk {s : State} (h : s.Canon) (l : List (Option Trk)) : (s.setTrk l).Canon := by
  unfold State.setTrk State.showTrk
  refine State.Canon.each _ _ (fun s i hs => ?_) (h.of_eq rfl rfl rfl)
  exact ((((hs.put ..).putB ..).put ..).put ..).putB ..

theorem State.Canon.freeTrk {s : State} (h : s.Canon) (w : Nat) : (s.freeTrk w).Canon := by
  unfold State.freeTrk
  split
  · exact h.setTrk _
  · exact h

/-! ### Entries, spares and faults -/

theorem State.Canon.auditPush {s : State} (h : s.Canon) (e : AudEntry) (w : Option (Nat × Nat)) : (s.auditPush e w).Canon := by
  unfold State.auditPush
  split
  · extract_lets; exact State.Canon.put (h.of_eq rfl rfl rfl) ..
  · extract_lets _ s1; exact State.Canon.bump (s := s1) (h.of_eq rfl rfl rfl) ..

theorem State.Canon.audit {s : State} (h : s.Canon) (a b c d e f : Nat) : (s.audit a b c d e f).Canon := h.auditPush ..

theorem State.Canon.spareCheck {s : State} (h : s.Canon) (k l : Nat) : (s.spareCheck k l).Canon :=
  State.Canon.ite ((h.put ..).audit ..) h

theorem State.Canon.bringSpare {s : State} (h : s.Canon) (k u l : Nat) : (s.bringSpare k u l).Canon := by
  unfold State.bringSpare
  extract_lets s1 n _ s2
  have h2 : s2.Canon := (h.audit ..).of_eq rfl rfl rfl
  exact (h2.put ..).spareCheck ..

theorem State.Canon.syncFault {s : State} (h : s.Canon) : s.syncFault.Canon := (((h.put ..).put ..).put ..).put ..

/-- A fault that is not fatal keeps the form. -/
theorem State.Canon.fault {s : State} (h : s.Canon) (c src : Nat) (hc : severity c ≠ 4) : (s.fault c src).Canon := by
  unfold State.fault
  extract_lets sev r _ s1
  have h1 : s1.Canon := h.of_eq rfl rfl rfl
  have hs : ∀ x : Flt, ({ s1 with flt := x } : State).Canon := fun _ => h1.of_eq rfl rfl rfl
  rw [if_neg hc]
  split
  · exact State.Canon.syncFault (hs _)
  · split
    · exact State.Canon.syncFault (hs _)
    · split
      · exact hs _
      · split
        · exact State.Canon.syncFault (hs _)
        · exact (h1.bump ..).put ..

/-! ### The repeat tracker and row copies -/

theorem State.Canon.uncorrectable {s : State} (h : s.Canon) (w : Nat) : (s.uncorrectable w).Canon :=
  ((((h.mcount ..).put ..).storeWord ..).fault _ _ (by decide))

theorem State.Canon.showRemap {s : State} (h : s.Canon) : s.showRemap.Canon :=
  State.Canon.each _ _ (fun _ _ hs => ((hs.put ..).put ..).put ..) (h.put ..)

theorem State.Canon.copyWord {s : State} (h : s.Canon) (w : Nat) : (s.copyWord w).Canon := by
  unfold State.copyWord
  split
  · exact h
  · exact h.setWord ..
  · exact h.setWord ..
  · exact h.uncorrectable _

theorem State.Canon.remapRow {s : State} (h : s.Canon) (r : Nat × Nat) : (s.remapRow r).Canon := by
  unfold State.remapRow
  extract_lets inRow ws _ _ s1 s2 u
  have h1 : s1.Canon := h.of_eq rfl rfl rfl
  have h2 : s2.Canon := (State.Canon.showRemap (State.Canon.each _ _ (fun _ _ hs => hs.copyWord _) h1)).put ..
  exact (h2.audit ..).bringSpare ..

theorem State.Canon.awaitRow {s : State} (h : s.Canon) (w : Nat) : (s.awaitRow w).Canon :=
  State.Canon.ite h (State.Canon.ite (h.remapRow _) h)

theorem State.Canon.readBack {s : State} (h : s.Canon) (w i : Nat) (t : Trk) (l : List (Option Trk)) : (s.readBack w i t l).Canon := by
  unfold State.readBack
  split
  · exact h.setTrk _
  · split
    · refine State.Canon.setTrk ?_ _
      exact h.of_eq rfl rfl rfl
    · exact ((h.setTrk _).put ..).fault _ _ (by decide)
  · exact (h.setTrk _).uncorrectable _

theorem State.Canon.trackWord {s : State} (h : s.Canon) (w k v : Nat) : (s.trackWord w k v).Canon := by
  unfold State.trackWord
  extract_lets l i old t _ s1 s2
  have h1 : s1.Canon := h.of_eq rfl rfl rfl
  exact State.Canon.ite (h1.setTrk _) (State.Canon.readBack (((h1.storeWord ..).mcount ..).put ..) ..)

theorem State.Canon.awaitRows {s : State} (h : s.Canon) (w n : Nat) : (s.awaitRows w n).Canon :=
  State.Canon.each _ _ (fun _ _ hs => hs.cond _ fun h => h.awaitRow _) h

/-- A checked read of one word: its next state keeps the form. -/
theorem State.Canon.readWord64 {s : State} (h : s.Canon) (w : Nat) : (s.readWord64 w).1.Canon := by
  unfold State.readWord64
  split
  · exact h
  · extract_lets d
    split
    · exact h
    · exact (h.mcount ..).trackWord ..
    · exact h.mcount ..
    · exact (h.freeTrk _).uncorrectable _

theorem State.Canon.readWords {s : State} (h : s.Canon) (w n : Nat) : (s.readWords w n).1.Canon := by
  unfold State.readWords
  extract_lets blocks z s'
  have hs : s'.Canon := by
    refine State.Canon.awaitRows ?_ w n
    exact State.Canon.ite h (h.mcount ..)
  have key : ∀ (l : List Nat) (a : State × List (Nat × Bool)), a.1.Canon →
      (l.foldl (fun (a : State × List (Nat × Bool)) i =>
        let r := a.1.readWord64 (w + i); (r.1, a.2 ++ [(r.2.1, r.2.2)])) a).1.Canon := by
    intro l
    induction l with
    | nil => exact fun a h => h
    | cons i l ih => exact fun a h => ih _ (h.readWord64 _)
  exact key _ _ hs

theorem State.Canon.fillBlock {s : State} (h : s.Canon) (b : Nat) : (s.fillBlock b).Canon :=
  State.Canon.ite h (h.of_eq rfl rfl rfl)

theorem State.Canon.writeWord64 {s : State} (h : s.Canon) (w v : Nat) (p : Bool) : (s.writeWord64 w v p).Canon :=
  (((h.awaitRow w).fillBlock _).freeTrk w).storeWord w v p

theorem State.Canon.writeWords {s : State} (h : s.Canon) (w : Nat) (l : List (Nat × Bool)) : (s.writeWords w l).Canon := by
  unfold State.writeWords
  have key : ∀ (l : List (Nat × Bool)) (a : State × Nat), a.1.Canon →
      (l.foldl (fun (a : State × Nat) x => (a.1.writeWord64 a.2 x.1 x.2, a.2 + 1)) a).1.Canon := by
    intro l
    induction l with
    | nil => exact fun a h => h
    | cons x l ih => exact fun a h => ih _ (h.writeWord64 ..)
  exact key _ _ h

theorem State.Canon.writePart {s : State} (h : s.Canon) (w : Nat) (l : List (Nat × Nat)) (p : Bool) : (s.writePart w l p).Canon := by
  unfold State.writePart
  extract_lets
  split
  · exact h.writeWord64 ..
  · exact (((h.awaitRows w 1).readWord64 w).mcount ..).writeWord64 ..

theorem State.Canon.writeBytes {s : State} (h : s.Canon) (a : Nat) (l : List Nat) (p : Bool) : (s.writeBytes a l p).Canon := by
  unfold State.writeBytes
  split
  · exact h
  · extract_lets
    exact State.Canon.each _ _ (fun s i hs => hs.writePart ..) h

/-- Reset memory is in its canonical form. -/
theorem Memory.wf_reset : Memory.wf State.reset.mem := ⟨List.Pairwise.nil, fun _ h => nomatch h⟩

end Sys2Proof.Machine
end

