-- ==== Sys2Proof/Tests/Slice0.lean ====
section
/-! SUPPORT. Tests/Slice0.lean: the model's own tests: ill-formed commands the checks refuse, worked examples of the manual, and for each
statement states that meet its hypotheses. -/

namespace Sys2Proof.Machine

set_option Elab.async false

/-- The conclusion of a completion statement, evaluated. -/
def ok (o : Out) (p : State → Bool) : Bool :=
  match o with
  | .next t => p t
  | _ => false

/-- The state a command leaves. -/
def ok' (o : Out) : State :=
  match o with
  | .next t => t
  | _ => State.reset

/-- A module that runs, its PCIe link up. -/
def up : State :=
  (({ State.reset with sys := { State.reset.sys with phase := .running, rstN := true }, hst := { State.reset.hst with link := true } } :
    State).put Reg.BOOT_STATUS_STAGE 10).put Reg.BOOT_STATUS_DONE 1


/-- Tile 1 runs, with pixel 9 of its sconce 5 unmasked and calibrated flames. -/
def tileUp : State :=
  let s := (((up.put Reg.TIL_CTRL_EN 1 1).put Reg.TIL_STATUS_FE_READY 1 1).put Reg.TIL_STATUS_CAL_VALID 1 1).put Reg.TIL_BND_STATUS_STATE 1 1
  (s.setPixel (scPix 1 5 9) { act := [0x00800000, 0x00800000, 0x00800000] }).setTile 1 { s.tile 1 with coef := (4096, 100) }

/-- The same with flame F0 of sconce 5 running for pixel 9. -/
def flameUp : State := ok' (exec (.discriminatorRise 1 5 [⟨9, -10000, false⟩] 4000) tileUp)

/-- A word stands in stage 0 of bus 5 of tile 1, whose sconce 69 offers a hit; two words are in its foot. -/
def busUp : State :=
  let s := tileUp.setBus 1 5 { tileUp.bus 1 5 with st := [(0, some { data := 77 })], foot := [{ data := 3 }, { data := 4 }] }
  s.setSconce 1 69 { s.sconce 1 69 with ready := [{ pix := 3, word := { data := 2 ^ 62 + 2 ^ 56 } }] }

/-- A bundle with one flit formed, sent and latched. -/
def bndUp : State :=
  let f := flitOf [{ data := 77 }] 1
  tileUp.setBnd 1 { tileUp.bnd 1 with held := [f], sent := 1, seq := 2, latched := [{ flit := f, gen := 0 }] }

/-- A session with source `src` runs, in STATE `st`, from reset on. -/
def timUp (src st : Nat) : State :=
  ((up.put Reg.TIM_STATUS_SESSION 1).put Reg.TIM_CTRL_SRC src).put Reg.TIM_STATUS_STATE st

/-- A hit of the middle of territory 0, with its rule values. -/
def hitAt (t row col : Nat) : EHit := { word := 2 ^ 20 + 100 * 16, epoch := 0, t := t, row := row, col := col }
def cluAt (t row col : Nat) : Cluster :=
  { hits := [hitAt t row col, hitAt (t + 3) row (col + 1)], rule := 1, vals := { win := 25, adj := 1, weight := false, single := false, hold := 250 }, stream := 3, late := false }
/-- Engine 0 covers the module. -/
def cluUp : State :=
  (((up.put Reg.CLU_GEOM_NROW 32 0).put Reg.CLU_GEOM_NCOL 32 0).put Reg.CLU_CTRL_EN 1).put Reg.EVT_CTRL_EN 1

/-- Template 0 delivers to stream 3 with contexts 0 to 9, and the trigger runs. -/
def trgUp : State :=
  (((((up.put Reg.TRG_CTRL_EN 1).put Reg.EVT_STRM_CFGn_EN 1 3).put Reg.TRG_TMPL_CFG_STREAM 3 0 0).put Reg.TRG_TMPL_CTX_COUNT 10 0 0).put
    Reg.TRG_TMPL_PRE_PRE 100 0 0).put Reg.TRG_TMPL_POST_POST 50 0 0
/-- Template 0 has opened context 4. -/
def trgOpen : State :=
  let s := (trgUp.put Reg.TRG_TMPL_STATUS_STATE 1 0 0).setCtx 4 { tref := 1000, pre := 100, post := 50, st := 1 }
  (s.setTmpl 0 { s.tmpl 0 with open_ := [{ idx := 4, settle := 64, hzn := 0 }], lastIdx := some 4, lastTref := some 1000 }).showOpen

/-- Tile 2 counts frames over 16 pixels in 8 rows, the grid runs and frame 5 counts from edge 1000. -/
def frmUp : State :=
  let s := ((((up.put Reg.TIL_FRM_CTRL_MODE 1 2).put Reg.TIL_FRM_ROI_NROWS 0 2).put Reg.TIL_FRM_ROI_NCOLS 0 2).put Reg.TIL_FRM_RUN_RUN 1)
  s.setFrm { s.frm with cur := some { num := 5, start := 1000 }, next := 6, at_ := 1000, acc := 1000 }
/-- The readout of frame 4 of tile 2 is under way. -/
def frmTile (d : FrameDest) : TileFrame :=
  { hdr := { num := 4, start := 750, len := 250, merged := false, gated := false, depth := 0 }, tile := 2, openRef := 250
    roi := { row0 := 0, rows := 8, col0 := 0, cols := 16 }, cnt := [], dest := d, last := true }
def frmRead : State := frmUp.setFrm { frmUp.frm with read := [frmTile .discard] }

/-- Wick 0 of group 0 copies group input 0, which is primitive 5. -/
def fabUp : State :=
  up.setFab { up.fab with wicks := [(0, { lut := 0xAAAAAAAAAAAAAAAA, cfg := 0xFEFEFEFEFE40 })], gin := [(0, 5)] }
/-- What has first arrived of a partial reload: the header and the directory, of a fabric section at 0x1000 and a check section at 0x2000. -/
def relImage : List Nat :=
  let le (n v : Nat) : List Nat := leBytesN n v
  let head := le 4 0x4C4D4934 ++ le 2 1 ++ le 2 2 ++ le 4 8204 ++ le 4 0x4102 ++ le 8 7 ++ le 4 1 ++ le 4 1 ++ le 8 0 ++ le 20 0
  let dir := le 2 2 ++ le 2 0 ++ le 4 4096 ++ le 4 16 ++ le 4 16 ++ le 4 (crc32c (le 16 0)) ++ le 12 0
  let fore := head ++ le 4 (crc32c head) ++ dir
  let dir2 (c : Nat) : List Nat := le 2 0xF ++ le 2 0 ++ le 4 8192 ++ le 4 12 ++ le 4 12 ++ le 4 c ++ le 12 0
  fore ++ dir2 0

/-- Channel 9 is enabled on its own pin, and both interpolators of its core are armed. -/
def tdcUp : State :=
  let s := ((((up.put Reg.TDC_CH_CFG_PIN 9 0 9).put Reg.TDC_CH_CFG_EN 1 0 9).put Reg.TDC_CH_CFG_EDGE 1 0 9).put Reg.TDC_CH_STATUS_CORE 9 0 9).put Reg.TDC_CH_SEL_CH 9
  ((s.setInterp 18 { st := .armed 10, period := 2040, offset := 10 }).setInterp 19 { st := .armed 5, period := 2040, offset := 10 }).setFrm s.frm
/-- Channel 9 has started at bin 984 with a window of 2 to 60 ns. -/
def tdcStarted : State :=
  let s := ((((tdcUp.put Reg.TDC_CH_CFG_MODE 1 0 9).put Reg.TDC_CH_STATUS_STATE 2 0 9).put Reg.TDC_CH_WMIN_WMIN 8 0 9).put Reg.TDC_CH_WMAX_WMAX 240 0 9)
  s.setTch 9 { s.tch 9 with start := some (984, false) }

/-- The sequence runs on its one entry, a single-ended input of pin 3 in set 0. -/
def auxUp : State :=
  let s := (((up.put Reg.AUX_CTRL_EN 1).put Reg.AUX_PIN_CFG_ROLE 1 3).put Reg.AUX_PIN_CFG_ROLE 1 4).put Reg.AUX_SEQ_ENTRY 0x500000103 0
  s.setAux { s.aux with pos := some { entry := 0, word := 0x500000103, delay := 0, ticks := 0, left := 6 }, lastTick := 125 }
/-- A conversion of entry 0 at edge 250 that read 1,000. -/
def auxConv : Conv := { entry := 0, at_ := 250, stamp := 1000, raw := 1000, code := 1000 }
/-- Its result awaits delivery. -/
def auxDue1 : State :=
  (auxUp.put Reg.AUX_CTRL_QEN 0).setAux { auxUp.aux with due := [{ kind := 1, entry := 0, word := 0x500000103, avg := 0, ofs := 0, gain := 0x400000, convs := [auxConv] }] }

/-- Slot 0 is set for a motion axis on quadrature counter 0 at 100 kHz with a bipolar output. -/
def ctlSet : State := ((((up.put Reg.CTL_PCNT_CFG_MODE 2).put Reg.CTL_Sn_SRC_FB_SRC 8 0).put Reg.CTL_Sn_OUT_LIM_OUT_MIN 0x8AD0 0).put Reg.CTL_Sn_OUT_LIM_OUT_MAX 0x7530 0).put Reg.CTL_Sn_KP_K 0x30000 0
/-- It runs, with no period under way. -/
def ctlUp : State := ((((ctlSet.put Reg.CTL_Sn_CTRL_EN 1 0).put Reg.CTL_Sn_STATUS_STATE 1 0).put Reg.CTL_Sn_CTRL_TYPE 3 0).put Reg.CTL_Sn_CTRL_OUT_MODE 2 0).setLoop 0 { fresh := false }
/-- A period is under way and its computation is complete: feedback 100, target 300. -/
def ctlRun : State := ctlUp.setLoop 0 { start := 2500, busy := true, done := true, src := { y := 100, x := 300 }, fresh := false, i := 7 * 2 ^ 41, yPrev := 90 }

/-- The safety block runs: input 0 is equivalent and permits, and output 0 needs it and is on. -/
def safUp : State :=
  let s := (((((up.put Reg.SAF_STATUS_STATE 1).put Reg.SAF_CFG_IN_TYPE 1 0).put Reg.SAF_CFG_OUT_INMASK 1 0).put Reg.SAF_CFG_OUT_EN 1 0).put Reg.SAF_REQ_ON 1).setSaf { runs := true, n := 3, lastStrobe := 12500 }
  let c : SafCh := { acc := true, last := true }
  (s.setSafIn 0 { a := c, b := c, st := 1 }).setSafOut 0 { on := true, wait := false }
/-- Connection 2 is a consumer on Lantern port 1. -/
def snufUp : State := (((safUp.put Reg.SAF_CFG_CONN_EN 1 2).put Reg.SAF_CFG_CONN_ID_ID 0x1234 2).put Reg.SAF_CFG_CONN_PORT 1 2).setSafConn 2 { valid := true, seq := some 65535 }
/-- It is a producer. -/
def snufProd : State := snufUp.put Reg.SAF_CFG_CONN_DIR 1 2
/-- A Safety session is open. -/
def safSession : State := (safUp.put Reg.GEN_SESS_STATUS_STATE 2).put Reg.GEN_SESS_STATUS_ROLE 3

/-- A trailer with the checks of its frame. -/
def mkTr (f : LFrame) (back pack : Nat) (bnak pnak : Bool) (credit : Nat) : Trailer :=
  let t : Trailer := { back := back, pack := pack, bnak := bnak, pnak := pnak, credit := credit, hcrc := hcrc f.head, crc := 0, idles := 0 }
  { t with crc := f.crc (trailerBits t) }
/-- The module has ID 5, and port 1 of two lanes and a spare is in BEACON. -/
def lnkSet : State :=
  ({ up with store := { up.store with idSet := true, moduleId := 5 } }.put Reg.LNK_Pp_CFG_WIDTH 1 1).put Reg.LNK_Pp_CFG_SPARE 1 1
/-- Its port 1 is in BEACON. -/
def lnkBeacon : State := (lnkSet.put Reg.LNK_Pp_CFG_EN 1 1).put Reg.LNK_Pp_STATUS_STATE 1 1
/-- Its port 1 trains. -/
def lnkTrain : State := (lnkBeacon.put Reg.LNK_Pp_STATUS_STATE 2 1).setLport 1 { deskewed := true, rxDone := [15, 1, 0], txDone := [15, 1] }
/-- Its port 1 is UP with module 9. -/
def lnkUp : State := ((((((lnkBeacon.put Reg.LNK_Pp_STATUS_STATE 3 1).put Reg.LNK_Pp_PARTNER_ID 9 1).put Reg.LNK_LANE_STATUS_USE 1 0 0).put Reg.LNK_LANE_STATUS_USE 1 0 1).put Reg.LNK_LANE_STATUS_USE 2 0 2).put Reg.LNK_LANE_STATUS_LIDX 1 0 1).setLport 1 { attached := true, credit := 8 }
/-- One bulk frame awaits its acknowledgement there. -/
def lnkOut : State := lnkUp.setLport 1 { attached := true, credit := 8, bulk := { kept := [{ frame := { ty := 1, seq := 3, body := [7] } }], seq := 4 } }

/-- Device-to-host queue 5 runs, 16 entries long, and is the sink of stream 5, whose FIFO holds a hit packet of two words. -/
def hstUp : State :=
  let s := ((((up.put Reg.HST_Dq_CTRL_EN 1 5).put Reg.HST_Dq_STATUS_STATE 1 5).put Reg.HST_Dq_CTRL_LOG2SZ 4 5).put Reg.HST_Hh_CTRL_LOG2SZ 4 2).put Reg.HST_Dq_CRING_ADDR 0x10000 5
  let s : State := { s with topo := { s.topo with sink := (List.replicate 64 ({} : Sink)).set 5 { pkind := 1, pidx := 5 } } }
  s.setStrm 5 { fifo := { pkts := [{ ty := 1, words := [(pktHeader 1 5 1 0x150 false, false), (77, false)], items := 1, stream := 5 }] } }
/-- A descriptor of it is fetched and another is posted. -/
def hstDesc : State := (hstUp.put Reg.HST_Dq_DB_TAIL 2 5).setQRing false 5 { descs := [{ idx := 0, addr := 0x4000, len := 128, tag := 0x42 }], fetch := 1 }
/-- A buffer of it is open. -/
def hstBuf : State := (hstUp.setQRing false 5 { fetch := 1 }).setBuf 5 (some { desc := { idx := 0, addr := 0x4000, len := 128, tag := 0x42 }, words := 1, entry := [(7, false)], stream := 5, since := 40 })
/-- Host-to-device queue 2 runs in the Lantern role with a frame of 16 bytes posted. -/
def h2dUp : State :=
  let s := ((up.put Reg.HST_Hh_CTRL_EN 1 2).put Reg.HST_Hh_STATUS_STATE 1 2).put Reg.HST_Hh_CTRL_LOG2SZ 4 2
  let s : State := { s with topo := { s.topo with role := (List.replicate 8 (3, 0, false)).set 2 (2, 1, false) } }
  s.setQRing true 2 { descs := [{ idx := 3, addr := 0x8000, len := 16, tag := 9 }], fetch := 4 }

/-- Stream 30 feeds engine 1 under context 7, whose state is resident and which outputs to queue 12. -/
def cmpUp : State :=
  let s := (((((up.put Reg.CMP_CTRL_EN 2).put Reg.EVT_STRM_CFGn_EN 1 30).put Reg.MEM_STATUS_SIZE 1).put Reg.MEM_SPILL_EN 1).put Reg.MEM_SPILL_BASE 5).put Reg.CMP_SPILL_BASE 5
  { s with topo := { s.topo with sink := (List.replicate 64 ({} : Sink)).set 30 { pkind := 2, pidx := 1, cctx := 7 }, cmpOut := (List.replicate 64 (0, 0)).set 7 (1, 12) }, cmp := { s.cmp with resident := [[], [7], [], []] } }
/-- A packet of two words waits in the FIFO of stream 30. -/
def cmpIn : State := cmpUp.setStrm 30 { fifo := { pkts := [{ ty := 1, words := [(5, false), (6, true)] }] } }
/-- A block of 24 equal words is open. -/
def cmpOpen : State := cmpUp.setCctx 7 { opn := List.replicate 24 (0x0101010101010101, false), since := 3, bseq := 9 }
/-- A block of two words is open, one of them poisoned. -/
def cmpBad : State := cmpUp.setCctx 7 { opn := [(5, false), (6, true)], dict := [(1, 2), (256, 3)], bseq := 65535 }
/-- Four other contexts are resident at engine 1. -/
def cmpSwap : State :=
  let s := cmpIn.setCctx 40 { dict := [(4, 5), (256, 6)], bseq := 77, rst := true }
  { s with cmp := { s.cmp with resident := [[], [10, 20, 30, 40], [], []] } }
/-- What is written in the spill area of context 7 fails the checks. -/
def cmpMem : State := { cmpUp with ram := { cmpUp.ram with valid := (List.range 32).map fun k => (5 * 2048 + 32 * 7 + k, true) } }

/-- A module with 512 MiB of buffer memory over four channels and its spill partition at 5 MiB. -/
def memUp : State := (((up.put Reg.MEM_STATUS_SIZE 2).put Reg.MEM_STATUS_CHMASK 0b1001001001).put Reg.MEM_SPILL_EN 1).put Reg.MEM_SPILL_BASE 5
/-- The word at 4096 holds 258 and the other words of its block 0. -/
def memOne : State := memUp.writeBytes 4096 [2, 1, 0, 0, 0, 0, 0, 0] false
/-- That word has been corrected seven times. -/
def memSeven : State := { memOne with ram := { memOne.ram with trk := some { word := 512, count := 7, bit := 3, stamp := 6 } :: List.replicate 63 none } }

/-- An Owner session is open. -/
def ownerUp : State := (up.put Reg.GEN_SESS_STATUS_STATE 2).put Reg.GEN_SESS_STATUS_ROLE 1
/-- A challenge for the Owner role stands, and the low half of the right response is written. -/
def chalUp : State :=
  let s := ((up.put Reg.GEN_SESS_STATUS_STATE 1).put Reg.GEN_SESS_CHAL_CHAL 0x1122334455667788).put Reg.GEN_SESS_STATUS_FAILS 1
  let s : State := { s with sess := { s.sess with chalRole := 1 }, store := { s.store with sessFails := 1 } }
  s.put Reg.GEN_SESS_RESP_RESP (sessionResponse 0 0x1122334455667788 1 0 % 2 ^ 32)
/-- Two entries wait, the first without a write. -/
def audUp : State := (up.audit 3 0 0x224 0 0 0).audit 0x10 0 5 0 0 0

/-- A state and operands that meet the hypotheses of each clause of `Obligations.PowerAndPinReset`, and what the command does there. -/
theorem test_meets_PowerAndPinReset :
    (let s : State := { State.reset with sys := { State.reset.sys with rails := [.vaux] } };
      s.sys.phase ≠ .dead ∧ s.get Reg.BOOT_RAIL_VALID = 0 ∧ Rail.vaux ∈ s.sys.rails ∧ Rail.vio ∉ s.sys.rails ∧
      ok (exec (.railRise .vrld) s) (fun t => t.get Reg.BOOT_RAIL_RAIL == 7 && t.sys.holds.rail) = true ∧
      ok (exec (.railRise .vio) s) (fun t => t.regs == []) = true) ∧
    (up.sys.phase = .running ∧ ok (exec (.railOutOfRange .vio) up) (fun t => t.get Reg.BOOT_LAST_FCODE == 1) = true) ∧
    (({ State.reset with sys := { State.reset.sys with phase := .starting } } : State).sys.phase = .starting) ∧
    (State.reset.sys.phase = .reset) ∧
    (up.sys.phase ≠ .dead ∧ up.sys.rstN = true ∧ ok (exec (.resetNAccept 5000) (up.put Reg.BOOT_FAIL_CODE 4)) (fun t => t.get Reg.BOOT_FAIL_CODE == 4 &&
        t.get Reg.BOOT_STATUS_STAGE == 0 && t.get Reg.BOOT_LAST_KIND == 1) = true) ∧
    (let s : State := { State.reset with sys := { State.reset.sys with rstN := true } };
      s.sys.phase = .reset ∧ s.sys.rstN = true ∧ s.get Reg.BOOT_LAST_KIND ≤ 2 ∧ 2 < (s.put Reg.BOOT_LAST_KIND 5).get Reg.BOOT_LAST_KIND) ∧
    (State.reset.sys.phase ≠ .dead ∧ State.reset.sys.rstN = false ∧
      ok (exec (.resetNRise 6 true 4294967296) State.reset) (fun t => t.get Reg.BOOT_STATUS_STRAP == 2 && t.get Reg.BOOT_LAST_KIND == 2) = true) ∧
    (let s : State := { State.reset with sys := { State.reset.sys with rstN := true } };
      s.sys.phase = .reset ∧ s.sys.rstN = true ∧ s.sys.holds = {} ∧ s.pilotCause = 0 ∧ (s.put Reg.BOOT_STATUS_STRAP 3).pilotCause ≠ 0) ∧
    (let s : State := { up with sys := { up.sys with rails := allRails } };
      s.railsOk = true ∧ s.sys.phase ≠ .dead ∧ s.sys.rstN = true ∧ s.sys.holds.scan = false ∧
      s.sys.holds.scan = false ∧ ({ s with sys := { s.sys with rstN := false } } : State).railsOk = true) ∧
    (let s : State := { up with sys := { up.sys with rails := allRails } };
      s.railsOk = true ∧ s.sys.phase ≠ .dead ∧ s.sys.rstN = true ∧ s.sys.holds.scan = false ∧
      s.sys.holds.scan = false ∧ ({ s with sys := { s.sys with rstN := false } } : State).railsOk = true) ∧
    (let s : State := { up with sys := { up.sys with rails := allRails } };
      s.railsOk = true ∧ s.sys.phase ≠ .dead ∧ s.sys.rstN = true ∧ s.sys.holds.scan = false ∧
      s.sys.holds.scan = false ∧ ({ s with sys := { s.sys with rstN := false } } : State).railsOk = true) ∧
    (let s : State := { up with sys := { up.sys with rails := allRails } };
      s.railsOk = true ∧ s.sys.phase ≠ .dead ∧ s.sys.rstN = true ∧ s.sys.holds.scan = false ∧ s.saf.runs = false ∧ 0xFF ∉ [0x00, 0x01, 0x02, 0x08, 0x09] ∧ 0x03 < 256) ∧
    (let s : State := { up with sys := { up.sys with rails := allRails, jtag := .clamp }, saf := { up.saf with runs := true } };
      s.railsOk = true ∧ s.sys.phase ≠ .dead ∧ s.saf.runs = true ∧ s.sys.jtag = .clamp) := by
  refine ⟨?_, ?_, ?_, ?_, ?_, ?_, ?_, ?_, ?_, ?_, ?_, ?_, ?_⟩ <;> decide +kernel

/-- A state and operands that meet the hypotheses of each clause of `Obligations.StartStages`, and what the command does there. -/
theorem test_meets_StartStages :
    (let s : State := { State.reset with sys := { State.reset.sys with phase := .starting, rails := allRails, refclkOk := true } }.put Reg.BOOT_STATUS_STAGE 0;
      s.sys.phase = .starting ∧ s.get Reg.BOOT_STATUS_STAGE = 0 ∧ s.railsOk = true ∧ s.sys.refclkOk = true ∧
      ok (exec (.startStageComplete 9 .plain) s) (fun t => t.get Reg.BOOT_STATUS_STAGE == 1 && t.dtRef == 9) = true ∧
      (State.reset).railsOk = false ∧ ({ s with sys := { s.sys with refclkOk := false } } : State).railsOk = true) ∧
    (let s : State := { State.reset with sys := { State.reset.sys with phase := .starting, rails := allRails, refclkOk := true } }.put Reg.BOOT_STATUS_STAGE 1;
      s.sys.phase = .starting ∧ s.get Reg.BOOT_STATUS_STAGE = 1 ∧ (([0, 1, 2, 3].filter fun c => [true, false, true, true].getD c false)).length = 3 ∧ (([0, 1, 2, 3].filter fun c => [true].getD c false)).length < 2) ∧
    (let s : State := { State.reset with sys := { State.reset.sys with phase := .starting, rails := allRails, refclkOk := true } }.put Reg.BOOT_STATUS_STAGE 2;
      s.sys.phase = .starting ∧ s.get Reg.BOOT_STATUS_STAGE = 2 ∧ s.store.sramFused = []) ∧
    (let s : State := { State.reset with sys := { State.reset.sys with phase := .starting, rails := allRails, refclkOk := true } }.put Reg.BOOT_STATUS_STAGE 3;
      s.sys.phase = .starting ∧ s.get Reg.BOOT_STATUS_STAGE = 3) ∧
    (let s : State := { State.reset with sys := { State.reset.sys with phase := .starting, rails := allRails, refclkOk := true } }.put Reg.BOOT_STATUS_STAGE 4;
      s.sys.phase = .starting ∧ s.get Reg.BOOT_STATUS_STAGE = 4 ∧ s.sys.tried = [] ∧ (s.put Reg.BOOT_STATUS_STRAP 2).get Reg.BOOT_STATUS_STRAP = 1 + 1) ∧
    (let s : State := { State.reset with sys := { State.reset.sys with phase := .starting, rails := allRails, refclkOk := true } }.put Reg.BOOT_STATUS_STAGE 4;
      s.sys.phase = .starting ∧ s.get Reg.BOOT_STATUS_STAGE = 4 ∧ s.sys.tried = [] ∧ s.get Reg.BOOT_STATUS_STRAP = 0 ∧ s.store.trial.getD s.store.pref < 2) ∧
    (let s : State := { State.reset with sys := { State.reset.sys with phase := .starting, rails := allRails, refclkOk := true } }.put Reg.BOOT_STATUS_STAGE 5;
      s.sys.phase = .starting ∧ s.get Reg.BOOT_STATUS_STAGE = 5) ∧
    (let s : State := { State.reset with sys := { State.reset.sys with phase := .starting, rails := allRails, refclkOk := true } }.put Reg.BOOT_STATUS_STAGE 5;
      s.sys.phase = .starting ∧ s.get Reg.BOOT_STATUS_STAGE = 5) ∧
    (let s : State := { State.reset with sys := { State.reset.sys with phase := .starting, rails := allRails, refclkOk := true } }.put Reg.BOOT_STATUS_STAGE 6;
      s.sys.phase = .starting ∧ s.get Reg.BOOT_STATUS_STAGE = 6 ∧ s.store.units = [] ∧ s.sys.vfe = none ∧ s.sys.hot = false) ∧
    (let s : State := { State.reset with sys := { State.reset.sys with phase := .starting, rails := allRails, refclkOk := true } }.put Reg.BOOT_STATUS_STAGE 7;
      s.sys.phase = .starting ∧ s.get Reg.BOOT_STATUS_STAGE = 7 ∧ s.store.units = []) ∧
    (let s : State := { State.reset with sys := { State.reset.sys with phase := .starting, rails := allRails, refclkOk := true } }.put Reg.BOOT_STATUS_STAGE 8;
      s.sys.phase = .starting ∧ s.get Reg.BOOT_STATUS_STAGE = 8 ∧ imgError8 (s.slot (s.get Reg.FAB_IMG_ACTIVE_SLOT)).bytes ≠ 0 ∧ s.otherSlot (s.get Reg.FAB_IMG_ACTIVE_SLOT) = [] ∧
      let u : State := { s with store := { s.store with slotB := { s.store.slotB with valid := true } } };
      u.otherSlot (u.get Reg.FAB_IMG_ACTIVE_SLOT) ≠ []) ∧
    (let s : State := { State.reset with sys := { State.reset.sys with phase := .starting, rails := allRails, refclkOk := true } }.put Reg.BOOT_STATUS_STAGE 9;
      s.sys.phase = .starting ∧ s.get Reg.BOOT_STATUS_STAGE = 9 ∧ imgHas (s.slot (s.get Reg.FAB_IMG_ACTIVE_SLOT)).bytes 4 = false ∧ s.get Reg.TIL_PCS_STATUS_STATE = 0 ∧ s.otherSlot (s.get Reg.FAB_IMG_ACTIVE_SLOT) = []) ∧
    (let s : State := { State.reset with sys := { State.reset.sys with phase := .starting, rails := allRails, refclkOk := true } }.put Reg.BOOT_STATUS_STAGE 10;
      s.sys.phase = .starting ∧ s.get Reg.BOOT_STATUS_STAGE = 10) ∧
    (({ State.reset with sys := { State.reset.sys with phase := .starting } } : State).sys.phase = .starting) ∧
    (({ State.reset with sys := { State.reset.sys with phase := .failHold } } : State).sys.phase = .failHold) ∧
    (({ State.reset with sys := { State.reset.sys with since10 := some 5 } } : State).sys.since10 = some 5) := by
  refine ⟨?_, ?_, ?_, ?_, ?_, ?_, ?_, ?_, ?_, ?_, ?_, ?_, ?_, ?_, ?_, ?_⟩ <;> decide +kernel

/-- A state and operands that meet the hypotheses of each clause of `Obligations.FaultHandler`, and what the command does there. -/
theorem test_meets_FaultHandler :
    (let s : State := { up with cores := List.replicate 4 {} };
      s.lampRuns = true ∧ s.coreState 2 = 0 ∧ 3 ≤ s.voters.length ∧
      ok (exec (.coreDisagree 2 3) s) (fun t => t.get Reg.LIF_RESYNC_COUNT == 1) = true) ∧
    (up.lampRuns = true) ∧
    (up.sys.phase = .running) ∧
    (let s : State := { up with sys := { up.sys with vfe := some 100 } };
      s.sys.phase = .running ∧ s.flt.under = none ∧ s.sys.vfe.isSome) ∧
    (let s : State := { up with flt := { up.flt with under := some { dt := 9, code := 7, sev := 3, src := 2 } } };
      s.flt.under = some { dt := 9, code := 7, sev := 3, src := 2 } ∧ s.flt.preempted = [] ∧ s.flt.queue = [] ∧ s.flt.fifo.length < 64) ∧
    (up.responds 0x118 = true) ∧
    (let s : State := { up with flt := { up.flt with fifo := [{ dt := 9, code := 7, sev := 3, src := 2 }] } };
      s.responds 0x104 = true) ∧
    (let s : State := { up with flt := { up.flt with fifo := [{ dt := 9, code := 7, sev := 3, src := 2 }] } }.put Reg.GEN_FAULT_INFO_VALID 1;
      s.responds 0x10C = true ∧ s.get Reg.GEN_FAULT_INFO_VALID = 1 ∧ up.get Reg.GEN_FAULT_INFO_VALID = 0) ∧
    (let s : State := { up with cores := List.replicate 4 { resyncs := [0, 0, 0] } };
      s.lampRuns = true ∧ s.coreState 2 = 0 ∧ 3 ≤ s.voters.length ∧ 3 ≤ ((s.cores.getD 2 {}).resyncs.filter fun t => decide (s.dtRef < t + 250000000)).length) ∧
    (let s : State := up.put Reg.LIF_STATUS_CORE 0b11110000;
      s.lampRuns = true ∧ s.coreState 1 = 0 ∧ s.voters.length < 3) ∧
    (let s : State := { up with sys := { up.sys with rails := allRails } };
      s.sys.phase ≠ .dead ∧ Rail.vio ∈ s.sys.rails ∧ Rail.vaux ∈ s.sys.rails ∧ 0x48 = 0x48 + s.sys.i2cStrap % 4) ∧
    (let s : State := { up with sys := { up.sys with rails := allRails, i2cPtr := 0x104 } };
      s.sys.phase ≠ .dead ∧ Rail.vio ∈ s.sys.rails ∧ Rail.vaux ∈ s.sys.rails ∧ 0x48 = 0x48 + s.sys.i2cStrap % 4 ∧ s.sys.i2cPtr / 4 = 0x41 ∧ s.inReset = false) := by
  refine ⟨?_, ?_, ?_, ?_, ?_, ?_, ?_, ?_, ?_, ?_, ?_, ?_⟩ <;> decide +kernel

/-- A state and operands that meet the hypotheses of each clause of `Obligations.SupplyAndTemperature`, and what the command does there. -/
theorem test_meets_SupplyAndTemperature :
    (let s : State := { up with sys := { up.sys with vfe := some 100 } };
      [0, 1, 2, 3].length = 4 ∧ s.sys.vfe = some 100 ∧ s.sys.vfeOld = none ∧
      ok (exec (.kvtEvaluation 100 [880, 600, 500, 880] 900 12) s) (fun t => t.get Reg.GEN_KVT_K == 4219) = true) ∧
    (let s : State := { up with sys := { up.sys with vfe := some 100 } };
      s.responds 0x400 = true ∧ s.sys.phase = .running ∧ s.sys.hot = false ∧ s.sys.vfe.isSome ∧
      ok (exec (.vfeSet 120) s) (fun t => t.get Reg.GEN_VFE_SET == 120 && t.sys.vfe == some 50) = true) ∧
    (let s : State := { up with sys := { up.sys with vfe := some 100, rampFrom := 50 } };
      s.sys.vfe = some 100 ∧ s.get Reg.GEN_VFE_STATUS_RAMP = 0 ∧ (s.put Reg.GEN_VFE_STATUS_RAMP 1).get Reg.GEN_VFE_STATUS_RAMP = 1) ∧
    (let s : State := { up with sys := { up.sys with vfe := some 100 } }.put Reg.GEN_VFE_STATUS_PHASES 11;
      s.sys.vfe = some 100 ∧ s.get Reg.GEN_VFE_STATUS_PHASES = 11 ∧ s.sys.hot = false) ∧
    (let s : State := { up with sys := { up.sys with vfe := some 100 } }.put Reg.GEN_VFE_STATUS_PHASES 10;
      s.sys.vfe = some 100 ∧ s.get Reg.GEN_VFE_STATUS_PHASES = 10 ∧ s.sys.phase = .running) ∧
    (up.responds 0x148 = true) ∧
    (let s : State := (up.put Reg.GEN_SESS_STATUS_STATE 2).put Reg.GEN_SESS_STATUS_ROLE 4;
      s.responds 0x10020 = true ∧ s.role = 4 ∧ s.sessionLive ∧ s.aud.queue.length < 32) ∧
    (let s : State := (up.put Reg.GEN_SESS_STATUS_STATE 2).put Reg.GEN_SESS_STATUS_ROLE 1;
      s.responds 0x10020 = true ∧ s.role = 1 ∧ s.sessionLive ∧ s.aud.queue.length < 32) := by
  refine ⟨?_, ?_, ?_, ?_, ?_, ?_, ?_, ?_⟩ <;> decide +kernel

/-- A state and operands that meet the hypotheses of each clause of `Obligations.HitTiming`, and what the command does there. -/
theorem test_meets_HitTiming :
    (let s : State := tileUp;
      s.gated 1 = false ∧ s.colOff 1 5 = false ∧ (s.pixel (scPix 1 5 9)).word.testBit 31 = false ∧ s.blankOf 1 5 9 = none ∧
      s.flag Reg.TIL_FRM_CTRL_MODE 1 = false ∧ (s.sconce 1 5).holds 9 = false ∧ (s.sconce 1 5).arbFree ≤ 8000 * s.dtRef + 4000 ∧
      (s.sconce 1 5).freePos = some 0 ∧ (s.sconce 1 5).pos.getD 0 none = some 0 ∧ s.fires 1 (s.pixel (scPix 1 5 9)).word ⟨9, -10000, false⟩ = true ∧
      s.fires 1 (s.pixel (scPix 1 5 9)).word ⟨9, 0, false⟩ = false ∧ ((s.setSconce 1 5 { s.sconce 1 5 with pos := [none, none, none, none] }).sconce 1 5).freePos = none) ∧
    (let s : State := flameUp;
      ((s.sconce 1 5).flame 0).run.isSome ∧ 496 ≤ interval 768 (s.coefOf 1 5 0) ∧ interval 768 (s.coefOf 1 5 0) ≤ 1040 ∧
      1040 < interval 2000 (s.coefOf 1 5 0)) ∧
    (let s : State := ok' (exec (.flameStop 1 5 0 768) flameUp);
      ((s.sconce 1 5).flame 0).run.isSome ∧ (((s.sconce 1 5).flame 0).run.bind (·.lead)).isSome ∧ (s.sconce 1 5).wait = [] ∧
      (s.sconce 1 5).ready = []) ∧
    (let s : State := ok' (exec (.flameHandoff 1 5 0) (ok' (exec (.flameStop 1 5 0 768) flameUp)));
      (s.sconce 1 5).wait.length = 1 ∧ ((s.sconce 1 5).wait.all fun h => h.pix == 9 && h.lead.isSome && h.fall.isNone) = true ∧
      ((s.sconce 1 5).fl.all fun f => f.run.isNone) = true ∧
      ok (exec (.discriminatorFall 1 5 9 100) s) (fun t => (t.sconce 1 5).ready.length == 1) = true) ∧
    (let s : State := ok' (exec (.flameHandoff 1 5 0) (ok' (exec (.flameStop 1 5 0 768) flameUp)));
      (((s.sconce 1 5).wait ++ (s.sconce 1 5).fl.filterMap (·.run)).find? (fun h => h.pix == 9 && h.fall.isNone)).isSome ∧
      ok (exec (.totSaturate 1 5 9) s) (fun t => ((t.sconce 1 5).ready.all fun w => w.word.data.testBit 1) && (t.sconce 1 5).ready.length == 1) = true) := by
  refine ⟨?_, ?_, ?_, ?_, ?_⟩ <;> decide +kernel

/-- A state and operands that meet the hypotheses of each clause of `Obligations.HitWordFields`, and what the command does there. -/
theorem test_meets_HitWordFields :
    (let h : Hit := { pix := 9, start := 7, lead := some 3853, fall := some 120000 };
      h.pix < 64 ∧ h.lead = some ((3853 : Nat) : Int) ∧ h.fall = some 120000 ∧
      ((h.form 1 5).map fun r => bits r.word.data 4 10) = some 30) := by decide +kernel

/-- A state and operands that meet the hypotheses of each clause of `Obligations.LossWords`, and what the command does there. -/
theorem test_meets_LossWords :
    (let s : State := tileUp.setSconce 1 5 ((tileUp.sconce 1 5).setLoss 1 { open_ := some (3, 2) });
      (s.sconce 1 5).freePos = some 0 ∧ ((s.sconce 1 5).lossReg 1).open_ = some (3, 2) ∧ ((s.sconce 1 5).lossReg 1).out = none) ∧
    (let s : State := tileUp.setSconce 1 5 ((tileUp.sconce 1 5).setLoss 2 { open_ := some (3, 2), pix := [9] });
      ((s.sconce 1 5).lossReg 2).open_ = some (3, 2) ∧ ((s.sconce 1 5).lossReg 2).out = none ∧ (((s.sconce 1 5).lossReg 2).pix.all fun p => !(s.sconce 1 5).holds p) = true ∧
      (flameUp.sconce 1 5).holds 9 = true) ∧
    (let u : State := tileUp.setSconce 1 5 ((tileUp.sconce 1 5).setLoss 3 { open_ := some (3, 2) });
      let s : State := { u with dtRef := 2097152 };
      ((s.sconce 1 5).lossReg 3).open_ = some (3, 2) ∧ ((s.sconce 1 5).lossReg 3).out = none ∧ s.dtRef % 2 ^ 21 = 0 ∧ (s.sconce 1 5).dead = false ∧ s.gated 1 = false ∧
      ({ s.sconce 1 5 with fl := List.replicate 5 { st := .failed } } : Sconce).dead = true) ∧
    (let s : State := tileUp.setSconce 1 5 { tileUp.sconce 1 5 with blanks := [(0, [9])], blankCnt := [(0, 3)] };
      (s.blanksOf 1 5).head? = some (0, some [9]) ∧ s.gated 1 = false ∧ (s.sconce 1 5).loss.length = 4 ∧ (s.sconce 1 5).lossReg 4 = {}) ∧
    (40000 ≤ lossMax ∧ lossSpan (lossLen 40000) = 40192) := by
  refine ⟨?_, ?_, ?_, ?_, ?_⟩ <;> decide +kernel

/-- A state and operands that meet the hypotheses of each clause of `Obligations.CalibrationRota`, and what the command does there. -/
theorem test_meets_CalibrationRota :
    (let s : State := tileUp.setTile 1 { tileUp.tile 1 with rotaNext := some 77 };
      (s.tile 1).rotaNext = some 77) ∧
    (tileUp.responds 0x61014 = true ∧ 1 < tileUp.til.t.length) ∧
    (tileUp.responds 0x61014 = true ∧ 1 < tileUp.til.t.length ∧ tileUp.get Reg.TIL_ROTA_INTERVAL 1 ≠ 0) ∧
    (let s : State := tileUp.setSconce 1 5 ((tileUp.sconce 1 5).setFlame 0 { owed := true });
      ((s.sconce 1 5).flame 0).owed = true ∧ ((s.sconce 1 5).flame 0).run = none ∧ ((s.sconce 1 5).flame 0).st = .active ∧
      (s.sconce 1 5).rHome = none ∧ ((s.sconce 1 5).flame 4).st = .standby) ∧
    (let s : State := (tileUp.setSconce 1 5 ((tileUp.sconce 1 5).setFlame 0 { cal := some 7 })).put Reg.TIL_ROTA_DRIFT 0 1;
      ((s.sconce 1 5).flame 0).cal = some 7 ∧ s.get Reg.TIL_ROTA_DRIFT 1 = 0 ∧ 4200 + 3200 ≤ 8200 ∧ 8200 ≤ 4200 + 5120 ∧ 8200 ≤ 2 * 4200 ∧ 2 * 4200 ≤ 8200 + 768) ∧
    (let s : State := tileUp.setSconce 1 5 ((tileUp.sconce 1 5).setFlame 0 { cal := some 7 });
      ((s.sconce 1 5).flame 0).cal = some 7 ∧ ((s.sconce 1 5).flame 0).fails = 0 ∧ 4300 < 4200 + 3200) ∧
    (let s : State := tileUp.setSconce 1 5 { (tileUp.sconce 1 5).setFlame 0 { passed := true } with pos := [none, some 1, some 2, some 3] };
      ((s.sconce 1 5).flame 0).passed = true ∧ (s.sconce 1 5).pos.getD 0 none = none) ∧
    (let s : State := tileUp.setTile 1 { tileUp.tile 1 with firstDue := some 7 };
      (s.tile 1).firstDue = some 7 ∧ s.flag Reg.TIL_CTRL_EN 1 = true) ∧
    (let s : State := (tileUp.setTile 1 { tileUp.tile 1 with firstCal := some 7 }).put Reg.TIL_ROTA_DRIFT 0 1;
      (s.tile 1).firstCal = some 7 ∧ s.unitsOut 1 = [] ∧ s.get Reg.TIL_ROTA_DRIFT 1 = 0 ∧ s.ownCoefs 1 = [] ∧ 4200 + 3200 ≤ 8200 ∧ 8200 ≤ 4200 + 5120 ∧ 8200 ≤ 2 * 4200 ∧ 2 * 4200 ≤ 8200 + 768 ∧
      1 < s.til.t.length) ∧
    (let s : State := (tileUp.setTile 1 { tileUp.tile 1 with firstCal := some 7 }).put Reg.TIL_ROTA_DRIFT 0 1;
      (s.tile 1).firstCal = some 7 ∧ s.unitsOut 1 = [] ∧ s.get Reg.TIL_ROTA_DRIFT 1 = 0 ∧ s.ownCoefs 1 = [] ∧ 4300 < 4200 + 3200 ∧ ((s.sconce 1 5).flame 2).st ≠ .failed) := by
  refine ⟨?_, ?_, ?_, ?_, ?_, ?_, ?_, ?_, ?_, ?_⟩ <;> decide +kernel

/-- A state and operands that meet the hypotheses of each clause of `Obligations.TileControl`, and what the command does there. -/
theorem test_meets_TileControl :
    (let s : State := { up with topo := { up.topo with port := [1, 1, 1, 1] } };
      s.responds 0x61000 = true ∧ s.flag Reg.TIL_CTRL_EN 1 = false ∧ s.flag Reg.TIL_FRM_CTRL_MODE 1 = false ∧
      (s.topo.port.getD 1 0).testBit 0 = true ∧ 1 ∉ s.sys.viaDead ∧ (s.bnd 1).owed = false) ∧
    (let s : State := tileUp;
      s.responds 0x61000 = true ∧ s.flag Reg.TIL_CTRL_EN 1 = true ∧ s.get Reg.TIL_BND_STATUS_STATE 1 ≠ 3) ∧
    (let s : State := up;
      s.responds 0x61000 = true ∧ s.flag Reg.TIL_CTRL_EN 1 = false ∧ s.get Reg.TIL_BND_STATUS_STATE 1 ≠ 3) ∧
    (let s : State := up.put Reg.TIL_CTRL_FE_ON 1 1;
      s.flag Reg.TIL_CTRL_FE_ON 1 = true) ∧
    (let s : State := tileUp;
      s.responds 0x61010 = true ∧ 0x10003 % 65536 ≠ 0) ∧
    (let s : State := tileUp;
      s.responds 0x61010 = true ∧ 0x40000 % 65536 = 0) ∧
    (let s : State := tileUp.setTile 1 { tileUp.tile 1 with train := some { left := 3, period := 100, next := 64 } };
      (s.tile 1).train = some { left := 3, period := 100, next := 64 } ∧ s.get Reg.TIL_CTRL_TP_ARM 1 < 2 ∧ (s.put Reg.TIL_CTRL_TP_ARM 1 1).get Reg.TIL_CTRL_TP_ARM 1 = 1) ∧
    (let s : State := tileUp;
      (s.pixel (pixKey 1 7 9)).act = [0x80800000, 0x80800000, 0x80800000] ∧ (s.pixel (pixKey 1 7 9)).shd = [0x80800000, 0x80800000, 0x80800000]) ∧
    (let s : State := tileUp.setPixel (pixKey 1 7 9) { act := [1, 2, 4] };
      (s.pixel (pixKey 1 7 9)).act = [1, 2, 4] ∧ (s.pixel (pixKey 1 7 9)).shd = [0x80800000, 0x80800000, 0x80800000]) ∧
    (tileUp.responds 0x6103C = true) ∧
    (let s : State := tileUp.setTile 1 { tileUp.tile 1 with fails := [(5, 2, 1), (6, 0, 1)] };
      s.responds 0x61028 = true ∧ (s.tile 1).fails = [(5, 2, 1), (6, 0, 1)] ∧ (s.tile 1).ovf = false) := by
  refine ⟨?_, ?_, ?_, ?_, ?_, ?_, ?_, ?_, ?_, ?_, ?_⟩ <;> decide +kernel

/-- A state and operands that meet the hypotheses of each clause of `Obligations.PixelStream`, and what the command does there. -/
theorem test_meets_PixelStream :
    (up.get Reg.TIL_PCS_STATUS_STATE = 0 ∧ bits 0x50432000 16 16 = 0x5043 ∧ bits 0x50432000 12 4 ≠ 0 ∧ bits 0x50432000 10 2 ≤ 1 ∧ up.responds 0x68000 = true) ∧
    (up.get Reg.TIL_PCS_STATUS_STATE = 0 ∧ bits 0x50430000 12 4 = 0 ∧ up.responds 0x68000 = true) ∧
    (let s : State := (up.put Reg.TIL_PCS_STATUS_STATE 2).put Reg.TIL_PCS_STATUS_OWNER 1;
      s.responds 0x68000 = true ∧ s.get Reg.TIL_PCS_STATUS_STATE ≠ 0 ∧ s.get Reg.TIL_PCS_STATUS_OWNER = 1) ∧
    (let s : State := (up.put Reg.TIL_PCS_STATUS_STATE 3).put Reg.TIL_PCS_STATUS_OWNER 1;
      s.get Reg.TIL_PCS_STATUS_STATE = 3 ∧ s.get Reg.TIL_PCS_STATUS_OWNER = 1 ∧ 9 ≠ crc32cWords 4 s.til.pcs.words.reverse) ∧
    (let s : State := { (up.put Reg.TIL_PCS_STATUS_STATE 3).put Reg.TIL_PCS_STATUS_OWNER 1 with til := { up.til with pcs := { words := [0x00800000, 0x00070001, 0x50432600] } } };
      s.get Reg.TIL_PCS_STATUS_STATE = 3 ∧ s.get Reg.TIL_PCS_STATUS_OWNER = 1 ∧ s.til.pcs.words = [0x00800000, 0x00070001, 0x50432600] ∧
      bits 0x50432600 10 2 = 1 ∧ (0x50432600 : Nat).testBit 9 = true ∧ (0x50432400 : Nat).testBit 9 = false ∧ (0x50432600 : Nat).testBit (12 + 1) = true ∧ bits 0x00070001 16 9 ≤ 7 ∧
      7 < bits 0x00070001 16 9 + bits 0x00070001 0 10 ∧ s.get Reg.TIL_CTRL_EN 1 = 0 ∧ (tileUp.get Reg.TIL_CTRL_EN 1 = 1)) ∧
    (let s : State := up.put Reg.TIL_PCS_STATUS_STATE 2;
      s.responds 0x68008 = true ∧ s.get Reg.TIL_PCS_STATUS_STATE ≠ 0) ∧
    (up.responds 0x68010 = true) := by
  refine ⟨?_, ?_, ?_, ?_, ?_, ?_, ?_⟩ <;> decide +kernel

/-- A state and operands that meet the hypotheses of each clause of `Obligations.ColumnBus`, and what the command does there. -/
theorem test_meets_ColumnBus :
    ((2 ^ 63 + 5 : Nat) < 2 ^ 64) ∧
    (let s : State := busUp;
      (s.bus 1 5).failed = false ∧ NMap.get none (s.bus 1 5).st 1 = none ∧ s.busCol 1 5 = some 5 ∧ s.hopSrc 1 5 2 = some .hit ∧
      s.srcWord 1 5 2 5 .hit = some { data := 2 ^ 62 + 2 ^ 56 } ∧ oddOnes 67 (Nat.xor ({ data := 2 ^ 62 + 2 ^ 56 } : TWord).wires (0 % 2 ^ 67)) = false) ∧
    (let s : State := tileUp.setBus 1 5 { tileUp.bus 1 5 with st := [(3, some { data := 77 })] };
      (s.bus 1 5).failed = false ∧ NMap.get none (s.bus 1 5).st 2 = none ∧ s.busCol 1 5 = some 5 ∧ s.hopSrc 1 5 3 = some .up ∧
      s.srcWord 1 5 3 5 .up = some { data := 77 } ∧ oddOnes 67 (Nat.xor ({ data := 77 } : TWord).wires (0 % 2 ^ 67)) = false) ∧
    (let s : State := busUp;
      (s.bus 1 5).failed = false ∧ (s.bus 1 5).foot.length < 16 ∧ s.busCol 1 5 = some 5 ∧ s.hopSrc 1 5 0 = some .up ∧
      s.srcWord 1 5 0 5 .up = some { data := 77 } ∧ oddOnes 67 (Nat.xor ({ data := 77 } : TWord).wires (0 % 2 ^ 67)) = false) ∧
    (let s : State := busUp;
      (s.bus 1 5).failed = false ∧ NMap.get none (s.bus 1 5).st 1 = none ∧ s.busCol 1 5 = some 5 ∧ s.hopSrc 1 5 2 = some .hit ∧
      s.srcWord 1 5 2 5 .hit = some { data := 2 ^ 62 + 2 ^ 56 } ∧ oddOnes 67 (Nat.xor ({ data := 2 ^ 62 + 2 ^ 56 } : TWord).wires (1 % 2 ^ 67)) = true) ∧
    (let s : State := busUp.put Reg.TIL_XCTRL_SPARE_AUTO 1 1;
      (s.bus 1 5).failed = false ∧ s.spareGone 1 64 = false ∧ s.flag Reg.TIL_XCTRL_SPARE_AUTO 1 = true ∧ 1 < s.xp.cols.length) ∧
    (let s : State := busUp.put Reg.TIL_XCTRL_SPARE_AUTO 0 1;
      (s.bus 1 40).failed = false ∧ s.spareGone 1 65 = false ∧ s.flag Reg.TIL_XCTRL_SPARE_AUTO 1 = false ∧ (s.cols 1).reqs = [] ∧
      1 < s.xp.cols.length) ∧
    (let s : State := busUp.setCols 1 { busUp.cols 1 with spareDead := [64] };
      (s.bus 1 5).failed = false ∧ s.busCol 1 5 = some 5 ∧ s.spareGone 1 (spareOf 5) = true ∧ s.flt.under = none ∧ s.sys.phase = .running) ∧
    (let s : State := busUp.setCols 1 { busUp.cols 1 with switching := [5] };
      5 ∈ (s.cols 1).switching ∧ 1 < s.xp.cols.length) ∧
    (let s : State := busUp.setCols 1 { busUp.cols 1 with reqs := [(5, 9)] };
      s.responds 0x61088 = true ∧ (s.cols 1).reqs = [(5, 9)] ∧ s.spareGone 1 64 = false ∧ 1 < s.xp.cols.length) ∧
    (let s : State := busUp.setCols 1 { busUp.cols 1 with reqs := [(5, 9)] };
      s.responds 0x61088 = true ∧ (s.cols 1).reqs = [(5, 9)]) ∧
    (let s : State := busUp.setCols 1 { busUp.cols 1 with reqs := [(5, 9)] };
      (s.cols 1).reqs = [(5, 9)]) := by
  refine ⟨?_, ?_, ?_, ?_, ?_, ?_, ?_, ?_, ?_, ?_, ?_, ?_⟩ <;> decide +kernel

/-- A state and operands that meet the hypotheses of each clause of `Obligations.BundleTransfer`, and what the command does there. -/
theorem test_meets_BundleTransfer :
    (let s : State := busUp;
      s.feet 1 ≠ [] ∧ (s.bnd 1).formed = [] ∧ 1 < s.xp.bnd.length ∧ 1 < s.xp.cols.length) ∧
    (let s : State := bndUp.setBnd 1 { bndUp.bnd 1 with sent := 0, latched := [] };
      (s.bnd 1).held[(s.bnd 1).sent]?.isSome ∧ s.get Reg.TIL_BND_STATUS_STATE 1 ≠ 3 ∧ (s.bnd 1).test = false ∧ flitOf [{ data := 77 }] 1 < 2 ^ 296) ∧
    (let s : State := bndUp.setBnd 1 { bndUp.bnd 1 with formed := [{ data := 9 }] };
      (s.bnd 1).held[(s.bnd 1).sent]? = none ∧ (s.bnd 1).held.length < 16 ∧ (s.bnd 1).latched.length + (s.bnd 1).words.length < 32 ∧
      (s.bnd 1).formed ≠ [] ∧ (s.bnd 1).formed.length ≤ 4 ∧ s.get Reg.TIL_BND_STATUS_STATE 1 ≠ 3 ∧ (s.bnd 1).test = false) ∧
    (let s : State := bndUp;
      (s.bnd 1).latched.length = 1 ∧ (s.bnd 1).skip ≠ some 0 ∧ (s.bnd 1).gap = false ∧ flitCrcOk (flitOf [{ data := 77 }] 1) = true ∧
      flitSeq (flitOf [{ data := 77 }] 1) = (s.get Reg.TIL_BND_STATUS_LAST_SEQ 1 + 1) % 256) ∧
    (let s : State := bndUp;
      (s.bnd 1).latched.length = 1 ∧ (s.bnd 1).skip ≠ some 0 ∧ (s.bnd 1).fails < 7 ∧
      flitCrcOk (Nat.xor (flitOf [{ data := 77 }] 1) (4 % 2 ^ 296)) = false) ∧
    (let s : State := bndUp.setBnd 1 { bndUp.bnd 1 with skip := some 0 };
      (s.bnd 1).latched.length = 1 ∧ (s.bnd 1).skip = some 0) ∧
    (let s : State := bndUp.setBnd 1 { bndUp.bnd 1 with tokens := [true] };
      (s.bnd 1).tokens = [true]) ∧
    (let s : State := bndUp.setBnd 1 { bndUp.bnd 1 with tokens := [false] };
      (s.bnd 1).tokens = [false]) ∧
    (let s : State := bndUp;
      (s.bnd 1).test = false ∧ s.get Reg.TIL_BND_STATUS_STATE 1 ≠ 3 ∧ (s.bnd 1).tokens = []) ∧
    (let s : State := bndUp.setBnd 1 { bndUp.bnd 1 with test := true };
      (s.bnd 1).test = true ∧ (s.bnd 1).owed = false ∧ s.viasUsed 3 1 + 2 ≤ 48 ∧ 1 < s.xp.bnd.length ∧ 1 < s.til.t.length) ∧
    (let s : State := bndUp.setBnd 1 { bndUp.bnd 1 with test := true };
      (s.bnd 1).test = true ∧ s.viasUsed 3 1 ≤ 48 ∧ 48 < s.viasUsed 3 1 + 49 ∧ s.get Reg.TIL_BND_STATUS_STATE 1 ≠ 3 ∧ 1 < s.xp.bnd.length ∧ s.flt.under = none ∧ s.sys.phase = .running) := by
  refine ⟨?_, ?_, ?_, ?_, ?_, ?_, ?_, ?_, ?_, ?_, ?_⟩ <;> decide +kernel

/-- A state and operands that meet the hypotheses of each clause of `Obligations.ReceiverPort`, and what the command does there. -/
theorem test_meets_ReceiverPort :
    (let s : State := bndUp.setBnd 1 { bndUp.bnd 1 with words := [[{ data := 77 }]] };
      (s.bnd 1).offer = some { data := 77 } ∧ s.accepts 1 { data := 77 } = true ∧ (s.bnd 1).drain = false) ∧
    (let s : State := { bndUp.setBnd 1 { bndUp.bnd 1 with words := [[{ data := 77 }]] } with topo := { bndUp.topo with port := [1, 1, 1, 1] } };
      (s.bnd 1).offer = some { data := 77 } ∧ s.accepts 1 { data := 77 } = false ∧ (s.bnd 1).drain = false) ∧
    (let s : State := bndUp.setBnd 1 { bndUp.bnd 1 with words := [[{ data := 77 }]] };
      (s.bnd 1).words ≠ [] ∧ (s.bnd 1).drain = false) ∧
    (let s : State := (tileUp.setBnd 1 { tileUp.bnd 1 with waitFrom := some 9 }).put Reg.TIL_BND_STATUS_STATE 2 1;
      s.get Reg.TIL_BND_STATUS_STATE 1 = 2 ∧ (s.bnd 1).waitFrom = some 9 ∧ s.sys.phase = .running ∧ s.flt.under = none ∧ (s.bnd 1).gap = false) ∧
    (tileUp.responds 0x610C8 = true) := by
  refine ⟨?_, ?_, ?_, ?_, ?_⟩ <;> decide +kernel

/-- A state and operands that meet the hypotheses of each clause of `Obligations.TimeSession`, and what the command does there. -/
theorem test_meets_TimeSession :
    (let s : State := up;
      s.responds 0x40000 = true ∧ s.flag Reg.TIM_STATUS_SESSION = false ∧ (0x21 : Nat).testBit 0 = true ∧ (0x21 : Nat).testBit 1 = false ∧
      (0x21 : Nat).testBit 2 = false ∧ bits 0x21 4 3 = 2) ∧
    (let s : State := timUp 1 4;
      s.responds 0x40000 = true ∧ s.flag Reg.TIM_STATUS_SESSION = true) ∧
    (let s : State := timUp 1 4;
      s.responds 0x40000 = true ∧ s.flag Reg.TIM_STATUS_SESSION = true) ∧
    (let s : State := (timUp 4 1).put Reg.TIM_SET_SEC_SEC 5;
      s.responds 0x40000 = true ∧ s.get Reg.TIM_STATUS_STATE = 1 ∧ s.get Reg.TIM_CTRL_SRC = 4 ∧ s.flag Reg.TIM_STATUS_SESSION = true ∧
      s.flag Reg.TIM_STATUS_STEPPED = false ∧ ok (exec (.timSet 0x44) s) (fun t => t.etOff == 5000000000) = true) ∧
    (let s : State := { timUp 1 4 with tim := { (timUp 1 4).tim with rateSince := some 5 } };
      s.get Reg.TIM_STATUS_STATE = 4 ∧ s.tim.rateSince = some 5 ∧ s.flt.under = none ∧ s.sys.phase = .running) := by
  refine ⟨?_, ?_, ?_, ?_, ?_⟩ <;> decide +kernel

/-- A state and operands that meet the hypotheses of each clause of `Obligations.TimeDiscipline`, and what the command does there. -/
theorem test_meets_TimeDiscipline :
    (let s : State := timUp 1 4;
      s.get Reg.TIM_STATUS_STATE = 4 ∧ s.shadow = [] ∧ (-5000 : Int).natAbs ≤ s.slewBudget) ∧
    (let s : State := timUp 1 4;
      s.get Reg.TIM_STATUS_STATE = 4 ∧ s.shadow = [] ∧ s.slewBudget < (10 ^ 12 : Int).natAbs ∧ s.flt.under = none) ∧
    (let s : State := timUp 1 4;
      s.hears ⟨false, 0⟩ = true ∧ s.hears ⟨true, 0⟩ = false ∧ s.tim.masters = [] ∧ s.tim.selected = none) ∧
    (let m : Master := { prio1 := 1, clockClass := 2, accuracy := 3, variance := 4, prio2 := 5, identity := 7, steps := 1, utcOffset := 37, utcValid := true, ptpScale := true, l1sync := false };
      let s : State := { timUp 1 4 with tim := { (timUp 1 4).tim with selected := some 7, masters := [(m, 3)], delayExch := some 40 } };
      s.hears ⟨false, 0⟩ = true ∧ s.tim.selected = some 7 ∧ s.tim.delayExch = some 40 ∧ s.master = some m ∧ m.ptpScale = true) ∧
    (let m : Master := { prio1 := 1, clockClass := 2, accuracy := 3, variance := 4, prio2 := 5, identity := 7, steps := 1, utcOffset := 37, utcValid := true, ptpScale := true, l1sync := false };
      let s : State := { timUp 1 4 with tim := { (timUp 1 4).tim with selected := some 7, masters := [(m, 3)], syncRx := some 90, delayExch := some 40 } };
      s.hears ⟨false, 0⟩ = true ∧ s.tim.selected = some 7 ∧ s.tim.syncRx = some 90 ∧ s.tim.delayExch = some 40 ∧ s.master.isSome ∧ m.ptpScale = true) ∧
    (let s : State := { timUp 1 4 with tim := { (timUp 1 4).tim with selected := some 7, dreqAt := some 5 } };
      s.following 1 = true ∧ s.tim.selected = some 7 ∧ s.tim.dreqAt = some 5) ∧
    (let s : State := { timUp 1 4 with tim := { (timUp 1 4).tim with selected := some 7, dreqTx := some 3 } };
      s.hears ⟨false, 0⟩ = true ∧ s.tim.selected = some 7 ∧ s.tim.dreqTx = some 3) ∧
    (let m : Master := { prio1 := 1, clockClass := 2, accuracy := 3, variance := 4, prio2 := 5, identity := 7, steps := 1, utcOffset := 37, utcValid := true, ptpScale := true, l1sync := false };
      let s : State := { timUp 1 4 with tim := { (timUp 1 4).tim with selected := some 7, masters := [(m, 3)] } };
      s.following 1 = true ∧ s.get Reg.TIM_STATUS_STATE = 4 ∧ s.tim.masters = [(m, 3)] ∧ s.tim.selected = some m.identity) ∧
    (let s : State := { timUp 1 3 with tim := { (timUp 1 3).tim with syncLog := some (-3) } };
      s.following 1 = true ∧ s.get Reg.TIM_STATUS_STATE = 3 ∧ s.tim.syncLog = some (-3)) ∧
    (let s : State := up.put Reg.TIM_PTP_IP_ADDR 9;
      s.sys.phase = .running ∧ 9 = s.get Reg.TIM_PTP_IP_ADDR) := by
  refine ⟨?_, ?_, ?_, ?_, ?_, ?_, ?_, ?_, ?_, ?_⟩ <;> decide +kernel

/-- A state and operands that meet the hypotheses of each clause of `Obligations.TimeOutputs`, and what the command does there. -/
theorem test_meets_TimeOutputs :
    (let s : State := { (timUp 2 2).put Reg.TIM_STATUS_SEC_WANTED 1 with dtRef := 250000007 };
      s.following 2 = true ∧ (true = !s.flag Reg.TIM_PPS_CFG_POL) ∧ s.flag Reg.TIM_STATUS_STEPPED = false ∧ s.tim.ppsLast = none ∧ s.flag Reg.TIM_STATUS_SEC_WANTED = true) ∧
    (let s : State := { timUp 2 2 with dtRef := 250000007, tim := { (timUp 2 2).tim with ppsLast := some 28009 } };
      s.following 2 = true ∧ (true = !s.flag Reg.TIM_PPS_CFG_POL) ∧ s.flag Reg.TIM_STATUS_STEPPED = false ∧ s.tim.ppsLast = some (s.dtRef * 4000 + 9 - 10 ^ 12) ∧
      s.flag Reg.TIM_STATUS_SEC_WANTED = false) ∧
    ((timUp 2 2).following 2 = true ∧ (timUp 1 2).following 2 = false) ∧
    (let s : State := { (timUp 2 4).put Reg.TIM_STATUS_STEPPED 1 with dtRef := 125000000 };
      s.following 2 = true ∧ s.flag Reg.TIM_STATUS_STEPPED = true ∧ s.get Reg.TIM_PPS_CFG_WIN * 100000 < (ppsError (s.etPs 0)).natAbs ∧
      s.tim.ppsBad < 2 ∧ s.get Reg.TIM_PPS_REJ_COUNT + 1 < 2 ^ 32 - 1) ∧
    (let s : State := (timUp 2 4).put Reg.TIM_STATUS_STEPPED 1;
      s.following 2 = true ∧ s.flag Reg.TIM_STATUS_STEPPED = true ∧ s.flag Reg.TIM_STATUS_SEC_WANTED = false ∧ (ppsError (s.etPs 5)).natAbs ≤ s.get Reg.TIM_PPS_CFG_WIN * 100000) ∧
    (let s : State := { timUp 2 4 with tim := { (timUp 2 4).tim with ppsBad := 2 } };
      s.following 2 = true ∧ s.tim.ppsBad = 2 ∧ s.get Reg.TIM_STATUS_STATE = 4) ∧
    (let s : State := timUp 2 4;
      s.following 2 = true ∧ s.get Reg.TIM_STATUS_STATE = 4) ∧
    (up.responds 0x40084 = true) ∧
    (let s : State := { (up.put Reg.TIM_CTRL_PPS_OUT_EN 1).put Reg.TIM_STATUS_ET_VALID 1 with dtRef := 7 };
      s.flag Reg.TIM_CTRL_PPS_OUT_EN = true ∧ s.etValid = true ∧ s.tim.ppsOut = none ∧ s.et % 1000000000 ≠ 0 ∧
      ok (exec .ppsOutRise s) (fun t => t.et % 1000000000 == 0) = true) ∧
    (let s : State := { up with tim := { up.tim with ppsOut := some 7 } };
      s.tim.ppsOut = some 7) ∧
    (up.sys.phase = .running) ∧
    (up.responds 0x40008 = true) ∧
    (up.responds 0x400B0 = true ∧ [0, 300, 50, 101].length = 4) ∧
    (let s : State := up.put Reg.TIM_SKEW_INTERVAL 4;
      s.sys.phase = .running ∧ s.get Reg.TIM_SKEW_INTERVAL ≠ 0 ∧ [0, 300, 50, 101].length = 4) ∧
    (up.responds 0x400E8 = true) := by
  refine ⟨?_, ?_, ?_, ?_, ?_, ?_, ?_, ?_, ?_, ?_, ?_, ?_, ?_, ?_, ?_⟩ <;> decide +kernel

/-- A state and operands that meet the hypotheses of each clause of `Obligations.RegionMapAndClusters`, and what the command does there. -/
theorem test_meets_RegionMapAndClusters :
    (cluUp.responds (0x100000 + 8 * 7) = true ∧ bits 0x5 12 2 ≠ 3 ∧ cluUp.flag Reg.EVT_CTRL_EN = true) ∧
    (up.responds (0x100000 + 8 * 7) = true ∧ bits 0x5 12 2 ≠ 3 ∧ up.flag Reg.EVT_CTRL_EN = false) ∧
    (up.responds (0x100000 + 8 * 7) = true ∧ bits 0x3005 12 2 = 3) ∧
    (cluUp.responds (0x100000 + 8 * 7) = true) ∧
    (let s : State := { cluUp with evt := { cluUp.evt with half := some (7, 5) } };
      s.responds (0x100000 + 8 * 7) = true ∧ s.responds (0x100004 + 8 * 7) = true ∧ bits 5 12 2 ≠ 3 ∧ s.flag Reg.EVT_CTRL_EN = true ∧ s.evt.half = some (7, 5)) ∧
    (up.responds 0x80010 = true ∧ up.flag Reg.EVT_RMAP_STATUS_PENDING = false ∧ up.flag Reg.EVT_RMAP_STATUS_BUSY = false) ∧
    (let s : State := up.put Reg.EVT_RMAP_STATUS_PENDING 1;
      s.responds 0x80010 = true ∧ s.flag Reg.EVT_RMAP_STATUS_PENDING = true) ∧
    ((up.put Reg.EVT_RMAP_STATUS_PENDING 1).flag Reg.EVT_RMAP_STATUS_PENDING = true) ∧
    (let s : State := cluUp.setEngine 0 { buf := [{ hit := hitAt 600 100 100, rule := 1, stream := 3, due := 300, late := false }] };
      (s.engine 0).buf.length = 1 ∧ (s.engine 0).opn = [] ∧ s.dtRef < 2 ^ 64 ∧ ((s.engine 0).buf.all fun r => decide (r.due < 2 ^ 64)) = true ∧ 0 < s.evt.eng.length) ∧
    (let s : State := cluUp.setEngine 0 { opn := [cluAt 600 100 100] };
      (s.engine 0).opn = [cluAt 600 100 100] ∧ s.dtRef < 2 ^ 64 ∧ (cluAt 600 100 100).closeAt < 2 ^ 64 ∧
      inRect ((s.advanceTo (cluAt 600 100 100).closeAt).territory 0) 100 100 = true ∧ (cluAt 600 100 100).vals.single = false ∧
      seamOf ((s.advanceTo (cluAt 600 100 100).closeAt).visible 0) (cluAt 600 100 100) = false) ∧
    (let s : State := up.setEngine 0 { opn := [cluAt 600 900 100] };
      (s.engine 0).opn = [cluAt 600 900 100] ∧ s.dtRef < 2 ^ 64 ∧ (cluAt 600 900 100).closeAt < 2 ^ 64 ∧
      inRect ((s.advanceTo (cluAt 600 900 100).closeAt).territory 0) 900 100 = false) ∧
    (let s : State := cluUp.setEngine 0 { opn := [cluAt 600 100 100] };
      (s.engine 0).opn = [cluAt 600 100 100] ∧ s.dtRef < 2 ^ 64 ∧ (cluAt 600 100 100).closeAt < 2 ^ 64 ∧ 1 ≤ [2].headD 0 ∧
      bit ((s.advanceTo (cluAt 600 100 100).closeAt).get Reg.CLU_CTRL_EN) 0 = true ∧
      inRect ((s.advanceTo (cluAt 600 100 100).closeAt).territory 0) 100 100 = true) ∧
    (let s : State := ({ up with evt := { up.evt with rate := [(7, 99)] } }.put Reg.EVT_RATE_CFG_EN 1 0 7).put Reg.EVT_RATE_HI_HI 50 0 7;
      s.flag Reg.EVT_RATE_CFG_EN 0 7 = true ∧ s.flag Reg.EVT_RATE_STATE_HIGH 0 7 = false ∧ s.shadow = [] ∧
      s.get Reg.EVT_RATE_HI_HI 0 7 ≤ s.evt.rate.get 0 7 ∧ s.flag Reg.EVT_RATE_CFG_STATUS_EN 0 7 = false ∧ s.flag Reg.TRG_PRIM_CFG_EN 0 47 = false) ∧
    (up.dtRef < 2 ^ 63 ∧ up.evt.rateAt.get 0 7 ≤ up.dtRef) ∧
    (up.responds 0x80034 = true) ∧
    (up.responds 0x810B8 = true) := by
  refine ⟨?_, ?_, ?_, ?_, ?_, ?_, ?_, ?_, ?_, ?_, ?_, ?_, ?_, ?_, ?_, ?_⟩ <;> decide +kernel

/-- A state and operands that meet the hypotheses of each clause of `Obligations.Streams`, and what the command does there. -/
theorem test_meets_Streams :
    (let s : State := { up with topo := { up.topo with sink := List.replicate 64 { pkind := 1, pidx := 3 } } };
      s.responds (0x80100 + 8 * 3) = true ∧ s.flag Reg.EVT_STRM_CFGn_EN 3 = false ∧ (s.sink 3).pkind ≠ 0 ∧ (s.sink 3).pkind ≠ 2) ∧
    (up.responds (0x80100 + 8 * 3) = true ∧ up.flag Reg.EVT_STRM_CFGn_EN 3 = false ∧ (up.sink 3).pkind = 0) ∧
    (let s : State := up.put Reg.EVT_STRM_CFGn_EN 1 3;
      s.responds (0x80100 + 8 * 3) = true ∧ s.flag Reg.EVT_STRM_CFGn_EN 3 = true ∧ (s.strm 3).opn = none ∧ (s.sink 3).pkind ≠ 2) ∧
    (let s : State := up.setStrm 3 { opn := some { ty := 1, items := [{ words := [(7, false)] }], since := 5 } };
      (s.strm 3).opn.isSome) ∧
    (up.responds 0x80000 = true ∧ up.flag Reg.EVT_CTRL_EN = false) ∧
    (let s : State := (up.put Reg.EVT_CTRL_EN 1).setStrm 3 { opn := some { ty := 1, items := [{ words := [(7, false)] }], since := 5 } };
      s.responds 0x80000 = true ∧ s.flag Reg.EVT_CTRL_EN = true ∧ (s.strm 3).opn.isSome) ∧
    (let s : State := up.put Reg.EVT_CTRL_EN 1;
      s.responds 0x80000 = true ∧ s.flag Reg.EVT_CTRL_EN = true ∧ (∀ n ∈ List.range 64, (s.strm n).opn = none)) := by
  refine ⟨?_, ?_, ?_, ?_, ?_, ?_, ?_⟩ <;> decide +kernel

/-- A state and operands that meet the hypotheses of each clause of `Obligations.TriggerPrimitives`, and what the command does there. -/
theorem test_meets_TriggerPrimitives :
    (let s : State := { up.put Reg.TRG_PRIM_CFG_EN 1 0 300 with trg := { up.trg with pulses := [{ prim := 300, ev := { t := 5 }, from_ := 1, stop := 9, taken := false }] } };
      s.flag Reg.TRG_PRIM_CFG_EN 0 300 = true) ∧
    (up.flag Reg.TRG_PRIM_CFG_EN 0 300 = false) ∧
    (let s : State := { up with trg := { up.trg with pulses := [{ prim := 7, ev := { t := 5 }, from_ := 1, stop := 9, taken := true }] } };
      (s.trg.pulses.find? fun x => x.prim == 7).isSome) ∧
    (let s : State := ((up.put Reg.TRG_TOD_SEC_HI_EN 1 0 5).put Reg.TIM_STATUS_ET_VALID 1).put Reg.TRG_TOD_NS_NS 4000 0 5;
      s.flag Reg.TRG_TOD_SEC_HI_EN 0 5 = true ∧ s.etValid = true ∧ s.trg.todLate = [] ∧ s.get Reg.TRG_TOD_PERIOD_PERIOD 0 5 = 0 ∧
      0 < (s.put Reg.TRG_TOD_PERIOD_PERIOD 9 0 5).get Reg.TRG_TOD_PERIOD_PERIOD 0 5) ∧
    (let s : State := { ((up.put Reg.TRG_TOD_SEC_HI_EN 1 0 5).put Reg.TIM_STATUS_ET_VALID 1) with trg := { up.trg with todLate := [5] } };
      s.flag Reg.TRG_TOD_SEC_HI_EN 0 5 = true ∧ s.etValid = true ∧ s.trg.todLate = [5] ∧ s.get Reg.TRG_TOD_PERIOD_PERIOD 0 5 = 0) ∧
    ((5 : Nat) < 2 ^ 62) ∧
    (up.responds 0xA0068 = true) ∧
    (let s : State := { (((trgUp.put Reg.TRG_COND_CFG_EN 1 0 9).put Reg.TRG_TMPL_STATUS_STATE 1 0 0)) with trg := { up.trg with out := 2 ^ 9 } };
      s.flag Reg.TRG_CTRL_EN = true ∧ s.trg.out = 2 ^ 9 ∧ s.trg.prev = 0 ∧ s.flag Reg.TRG_COND_CFG_EN 0 9 = true ∧ s.get Reg.TRG_COND_CFG_TMPL 0 9 = 0 ∧
      s.flag Reg.TRG_COND_CFG_NOCAP 0 9 = false ∧ s.flag Reg.TRG_COND_CFG_SEND 0 9 = false ∧ s.get Reg.TRG_COND_CFG_TSRC 0 9 = 0x1FF ∧
      (∀ u ∈ List.range 8, s.flag Reg.TRG_MASK_CFG_EN 0 u = false) ∧ s.get Reg.TRG_TMPL_STATUS_STATE 0 0 = 1 ∧
      s.get Reg.TRG_TMPL_CFG_HOLD_MODE 0 0 = 0 ∧ s.isBurst 0 = false ∧ (s.tmpl 0).armAt ≤ s.dtRef ∧ s.trg.pend.length < 64) ∧
    (up.trg.out = up.trg.prev) ∧
    (let s : State := up.put Reg.TRG_MASK_STATUS_STATE 2 0 0;
      s.responds 0xA0158 = true ∧ s.get Reg.TRG_MASK_STATUS_STATE 0 (s.get Reg.TRG_MASK_SEL_UNIT) = 2) ∧
    (up.responds 0xA01F0 = true) := by
  refine ⟨?_, ?_, ?_, ?_, ?_, ?_, ?_, ?_, ?_, ?_, ?_⟩ <;> decide +kernel

/-- A state and operands that meet the hypotheses of each clause of `Obligations.TemplatesAndFlares`, and what the command does there. -/
theorem test_meets_TemplatesAndFlares :
    (trgUp.responds 0xA00D0 = true ∧ trgUp.armError 0 = 0 ∧ 0 < trgUp.trg.tmpl.length) ∧
    (let s : State := (((trgUp.put Reg.EVT_STRM_CFGn_EN 1 5).put Reg.TRG_TMPL_CFG_STREAM 5 0 1).put Reg.TRG_TMPL_CTX_COUNT 9 0 1).put Reg.TRG_TMPL_CTX_FIRST 20 0 1;
      s.responds 0xA00D0 = true ∧ (∀ j ∈ List.range 16, (3 : Nat).testBit j = true → s.armError j = 0) ∧ 1 < s.trg.tmpl.length) ∧
    (up.responds 0xA00D0 = true ∧ up.armError 0 = 1) ∧
    (up.flag Reg.EVT_STRM_CFGn_EN (up.get Reg.TRG_TMPL_CFG_STREAM 0 0) = false) ∧
    (let s : State := trgUp.put Reg.TRG_TMPL_STATUS_STATE 2 0 0;
      s.get Reg.TRG_TMPL_STATUS_STATE 0 0 = 2 ∧ (s.advanceTo (s.tmpl 0).due).armError 0 = 0 ∧ s.isBurst 0 = false) ∧
    (trgOpen.responds 0xA00D4 = true ∧ trgOpen.get Reg.TRG_TMPL_STATUS_STATE 0 0 = 1) ∧
    (let s : State := { trgOpen with trg := { trgOpen.trg with disarm := [(900, 3)] } };
      s.trg.disarm.length = 1) ∧
    (up.responds 0xA0000 = true ∧ up.flag Reg.TRG_CTRL_EN = false ∧ up.flag Reg.TRG_CTRL_RING_EN = false) ∧
    (up.responds 0xA0000 = true ∧ up.flag Reg.TRG_CTRL_EN = false ∧ up.flag Reg.TRG_CTRL_RING_EN = false) ∧
    (trgOpen.responds 0xA0000 = true ∧ trgOpen.flag Reg.TRG_CTRL_EN = true ∧ (trgOpen.tmpl 0).open_ = [{ idx := 4, settle := 64, hzn := 0 }] ∧ trgOpen.isBurst 0 = false ∧
      (trgOpen.ctx 4).st = 1 ∧ (trgOpen.ctx 4).tmpl = 0 ∧ (∀ j ∈ List.range 16, j ≠ 0 → (trgOpen.tmpl j).open_ = []) ∧ trgOpen.trg.pend = [] ∧ 0 < trgOpen.trg.tmpl.length) ∧
    (trgUp.responds 0xA0000 = true ∧ trgUp.flag Reg.TRG_CTRL_EN = true ∧ (∀ k ∈ List.range 16, (trgUp.tmpl k).open_ = []) ∧ trgUp.trg.pend = []) ∧
    (let s : State := { (trgUp.put Reg.EVT_STRM_CFGn_EN 0 3) with trg := { up.trg with pend := [{ tmpl := 0, ev := { t := 5 }, cause := 1, at_ := 3 }] } };
      s.trg.pend.length = 1 ∧ (s.trg.pend.all fun p => p.tmpl == 0) = true ∧ s.isBurst 0 = false ∧ s.flag Reg.TRG_CTRL_EN = true ∧
      s.flag Reg.EVT_STRM_CFGn_EN (s.tmplStream 0) = false ∧ (∀ k ∈ List.range 16, (s.tmpl k).open_ = []) ∧ s.responds 0xA0000 = true ∧
      s.flag Reg.TRG_CTRL_RING_EN = false) ∧
    (let s : State := up.put Reg.TIM_STATUS_ET_VALID 1;
      s.responds 0xA00E0 = true ∧ s.etValid = true ∧ (∀ p ∈ List.range 8, s.lup p = false) ∧ bits 0x70003 1 2 = 1) ∧
    (let s : State := (up.put Reg.TIM_STATUS_ET_VALID 1).put Reg.LNK_Pp_STATUS_STATE 3 2;
      s.responds 0xA00E0 = true ∧ s.etValid = true ∧ s.lup 2 = true ∧ bits 0x70003 1 2 = 1 ∧ 2 < s.lnk.port.length) ∧
    (up.responds 0xA00E0 = true ∧ up.etValid = false) ∧
    (up.responds 0xA00E0 = true ∧ bits 0x70007 1 2 = 3) := by
  refine ⟨?_, ?_, ?_, ?_, ?_, ?_, ?_, ?_, ?_, ?_, ?_, ?_, ?_, ?_, ?_, ?_⟩ <;> decide +kernel

/-- A state and operands that meet the hypotheses of each clause of `Obligations.RingAndContexts`, and what the command does there. -/
theorem test_meets_RingAndContexts :
    (let s : State := up.put Reg.MEM_RING_SIZE 16;
      s.flag Reg.TRG_CTRL_RING_EN = false ∧ s.responds 0xA0000 = true ∧ s.get Reg.MEM_RING_SIZE ≠ 0 ∧ s.flag Reg.TRG_CTRL_EN = false ∧
      (∀ k ∈ List.range 16, (s.tmpl k).open_ = [])) ∧
    (up.flag Reg.TRG_CTRL_RING_EN = false ∧ up.responds 0xA0000 = true ∧ up.get Reg.MEM_RING_SIZE = 0 ∧ up.flag Reg.TRG_CTRL_EN = false) ∧
    (up.ringOn = false) ∧
    (let s : State := { ((up.put Reg.MEM_RING_SIZE 16).put Reg.TRG_CTRL_RING_EN 1) with trg := { up.trg with ring := { buf := [{ ty := 1, item := { words := [(5, false)] } }] } } };
      s.ringOn = true ∧ s.trg.ring.buf.length = 1 ∧ (∀ k ∈ List.range 16, (s.tmpl k).open_ = [])) ∧
    (let s : State := { up with trg := { up.trg with ring := { ovr := some (10, 20, 3) } } };
      s.trg.ring.ovr = some (10, 20, 3) ∧ s.ringRoom { words := [(0, false), (0, false)] } = true) ∧
    (let s0 : State := { trgUp with trg := { trgUp.trg with pend := [{ tmpl := 0, ev := { t := 51200 }, cause := 1, at_ := 3 }] }, dtRef := 500 };
      let s : State := s0.setStrm 3 { wait := [{ ty := 1, words := [] }] };
      s.trg.pend.length = 1 ∧ s.freeCtx 0 = some 0 ∧ s.isBurst 0 = false ∧ s.flag Reg.TRG_TMPL_CFG_ONESHOT 0 0 = false ∧ s.shadow.length = 0 ∧
      s.trg.ring.ents = [] ∧ (s.strm (s.tmplStream 0)).wait ≠ [] ∧ (∀ k ∈ List.range 16, (s.tmpl k).open_ = [])) ∧
    ((up.trg.pend.find? fun p => p.tmpl == 0) = none) ∧
    (let s : State := trgOpen.setTmpl 0 { trgOpen.tmpl 0 with reading := some 0 };
      (s.tmpl 0).open_.head?.isSome ∧ s.flag Reg.TRG_TMPL_CFG_KIND 0 0 = false ∧ (s.strm (s.tmplStream 0)).wait = [] ∧
      (s.tmpl 0).reading = some 0 ∧ s.trg.ring.ents = []) ∧
    (up.responds 0xA0100 = true ∧ (up.ctx 4).st ≠ 1) ∧
    (trgOpen.responds 0xA0100 = true ∧ (trgOpen.ctx 4).st = 1 ∧ trgOpen.isBurst (trgOpen.ctx 4).tmpl = false ∧
      ((ok' (exec (.contextAbort 0x20004) trgOpen)).ctx 4).st = 3 ∧ (ok' (exec (.contextAbort 0x20004) trgOpen)).trg.done = [4]) ∧
    (trgOpen.responds 0xA0100 = true ∧ (trgOpen.ctx 4).st = 1 ∧ (trgOpen.ctx 4).tmpl = 0 ∧ 0 < trgOpen.trg.tmpl.length ∧ trgOpen.isBurst 0 = false ∧
      (trgOpen.tmpl 0).open_ = [{ idx := 4, settle := 64, hzn := 0 }] ∧ bits 0x30004 0 12 = 4) ∧
    (let s0 : State := (trgUp.put Reg.TRG_TMPL_CFG_KIND 1 0 0).setCtx 4 { st := 1 };
      let s : State := { s0 with frm := { s0.frm with burst := { s0.frm.burst with ctx := some 4 } } };
      s.responds 0xA0100 = true ∧ (s.ctx 4).st = 1 ∧ s.isBurst (s.ctx 4).tmpl = true ∧ s.frm.burst.ctx = some 4) ∧
    (let s : State := up.setCtx 4 { st := 2 };
      s.responds 0xA0100 = true ∧ (s.ctx 4).st = 2) ∧
    (let s : State := { up with trg := { up.trg with done := [4, 9] } };
      s.responds 0xA0104 = true ∧ s.trg.done = 4 :: [9]) ∧
    (up.responds 0xA0104 = true ∧ up.trg.done = []) := by
  refine ⟨?_, ?_, ?_, ?_, ?_, ?_, ?_, ?_, ?_, ?_, ?_, ?_, ?_, ?_, ?_⟩ <;> decide +kernel

/-- A state and operands that meet the hypotheses of each clause of `Obligations.FrameGrid`, and what the command does there. -/
theorem test_meets_FrameGrid :
    (up.responds 0x6900C = true ∧ up.flag Reg.TIL_FRM_RUN_RUN = false) ∧
    (frmUp.responds 0x6900C = true ∧ frmUp.flag Reg.TIL_FRM_RUN_RUN = true) ∧
    (frmUp.responds 0x6900C = true) ∧
    (up.frm.cur = none ∧ up.flag Reg.TIL_FRM_RUN_RUN = false) ∧
    (let s : State := up.put Reg.TIL_FRM_RUN_RUN 1 |>.setFrm { up.frm with armed := true };
      s.frm.cur = none ∧ s.frm.armed = true ∧ s.flag Reg.TIL_FRM_RUN_RUN = true ∧ s.shadow.length = 0 ∧ s.frm.burst.ctx = none) ∧
    (frmUp.frm.cur = some { num := 5, start := 1000 } ∧ 1000 ≤ frmUp.frm.at_ ∧ frmUp.flag Reg.TIL_FRM_RUN_RUN = true ∧ frmUp.flag Reg.TIL_FRM_CFG_DEPTH = false ∧
      (∀ x ∈ frmUp.frm.read, x.done = true) ∧ frmUp.frm.burst.tmpl = none ∧ frmUp.shadow.length = 0) ∧
    (let s : State := frmUp.put Reg.TIL_FRM_CFG_DEPTH 1;
      s.frm.cur.isSome ∧ 1000 < s.nextBoundary s.frm.at_ ∧ s.flag Reg.TIL_FRM_RUN_RUN = true ∧ s.flag Reg.TIL_FRM_CFG_DEPTH = true ∧ s.frameTiles ≠ [] ∧ s.frm.armed = false ∧
      s.frm.burst.tmpl = none ∧ s.shadow.length = 0) ∧
    (let s : State := frmUp.setBurst { tmpl := some 3, slots := 4, post := 2 };
      s.frm.cur.isSome ∧ 1000 < s.nextBoundary s.frm.at_ ∧ s.flag Reg.TIL_FRM_RUN_RUN = true ∧ s.flag Reg.TIL_FRM_CFG_DEPTH = false ∧ (s.frm.read.any fun x => !x.done) = false ∧
      s.frm.burst.tmpl = some 3 ∧ s.frm.burst.frozen = false ∧ s.frm.burst.restart = false ∧ s.frm.burst.ctx = none ∧ s.frm.burst.slots = 4 ∧ s.shadow.length = 0) ∧
    (frmRead.frm.cur = some { num := 5, start := 1000 } ∧ frmRead.flag Reg.TIL_FRM_CFG_DEPTH = false ∧ (frmRead.frm.read.any fun x => !x.done) = true ∧
      frmRead.shadow.length = 0 ∧ frmRead.frm.burst.ctx = none) ∧
    (frmRead.frm.read = [frmTile .discard] ∧ saturated 0 ((frmTile .discard).roi.counts 2 (frmTile .discard).cnt) = 0 ∧ frmRead.frm.burst.ctx = none) ∧
    (let s : State := ((frmUp.put Reg.HST_STRM_POLICY_LOSSLESS 1 0).setFrm { frmUp.frm with read := [frmTile .live] }).setStrm 0 { wait := [{ ty := 1, words := [] }] };
      s.lossless 0 = true ∧ s.frm.read = [frmTile .live] ∧ (s.strm (s.get Reg.TIL_FRM_CFG_STREAM)).wait.length = 1) ∧
    (let s : State := frmUp.setFrm { frmUp.frm with read := [frmTile .live] };
      s.frm.read = [frmTile .live] ∧ s.lossless (s.get Reg.TIL_FRM_CFG_STREAM) = false ∧ s.frm.burst.ctx = none) ∧
    (let x : TileFrame := { frmTile .discard with hdr := { (frmTile .discard).hdr with depth := 1 } };
      let s : State := frmUp.setFrm { frmUp.frm with read := [x], cur := none };
      s.frm.read = [x] ∧ s.frm.burst.ctx = none ∧ s.frm.cur = none ∧ s.frm.armed = false ∧ s.flag Reg.TIL_FRM_RUN_RUN = true) ∧
    (up.responds 0x69030 = true) := by
  refine ⟨?_, ?_, ?_, ?_, ?_, ?_, ?_, ?_, ?_, ?_, ?_, ?_, ?_, ?_⟩ <;> decide +kernel

/-- A state and operands that meet the hypotheses of each clause of `Obligations.GateAndBurst`, and what the command does there. -/
theorem test_meets_GateAndBurst :
    (let s : State := (frmUp.put Reg.TIL_FRM_GATE_LEN_LEN 40).setFrm { frmUp.frm with gateOn := [1100], gateOff := [1200] };
      s.frm.gateOn = [1100] ∧ s.frm.gateOff = [1200] ∧ ([1200] : List Nat).contains 1100 = false) ∧
    (let s : State := frmUp.setFrm { frmUp.frm with gateOn := [1100], gateOff := [1100] };
      s.frm.gateOn = [1100] ∧ s.frm.gateOff = [1100]) ∧
    (let s : State := frmUp.setFrm { frmUp.frm with gateOff := [1100], gate := true };
      s.frm.gateOff = [1100]) ∧
    (let s : State := frmUp.setFrm { frmUp.frm with gateEnd := some 1100, gate := true };
      s.frm.gateEnd = some 1100) ∧
    (frmUp.frm.cur = some { num := 5, start := 1000 }) ∧
    (up.frm.burst.ctx = none) ∧
    (let s : State := frmUp.setBurst { tmpl := some 0, ctx := some 4, trigFrame := some 750, begun := true, frozen := true };
      s.frm.burst.ctx = some 4 ∧ s.frm.burst.tmpl = some 0 ∧ s.frm.burst.trigFrame = some 750 ∧ s.frm.burst.begun = true ∧ s.frm.burst.todo.length = 0 ∧
      (s.strm (s.tmplStream 0)).wait = []) ∧
    (frameHeader { num := 40000, start := 2000000000, len := 250, merged := false, gated := false, depth := 0 } 0 250
        { row0 := 384, rows := 128, col0 := 384, cols := 128 } 0 false (some (200, true)) =
        [0x0000000077359400, 0x00009C40100000FA, 0x00000FA0000010C8, 0xC010180200000000]) := by
  refine ⟨?_, ?_, ?_, ?_, ?_, ?_, ?_, ?_⟩ <;> decide +kernel

/-- A state and operands that meet the hypotheses of each clause of `Obligations.FabricWaves`, and what the command does there. -/
theorem test_meets_FabricWaves :
    (fabUp.fab.wave = none) ∧
    (let s : State := fabUp.setFab { fabUp.fab with wave := some { at_ := 3, out := [0], lut := [0], seen := [], slow := true } };
      s.fab.wave.isSome) ∧
    (let s : State := { fabUp.setFab { fabUp.fab with wave := some { at_ := 3, out := [0], lut := [0], seen := [(5, { t := 9 })] } } with dtRef := 9 };
      s.fab.wave.isSome) ∧
    (let s : State := fabUp.setFab { fabUp.fab with wave := some { at_ := 3, out := [0], lut := [0], seen := [] } };
      s.fab.wave.isSome) ∧
    (let s : State := fabUp.setFab { fabUp.fab with wave := some { at_ := 3, out := [0], lut := [0], seen := [(5, { t := 9 })] } };
      s.fab.wave.isSome) ∧
    (fabUp.responds 0x180018 = true ∧ fabUp.fab.check = none ∧ fabUp.get Reg.FAB_WICK_SEL_WICK = 0 ∧ fabUp.groupIdle 0 = true ∧
      ((ok' (exec (.wickWrite 0x1FEFE) fabUp)).fab.check).isSome) ∧
    (let s : State := (((fabUp.put Reg.FAB_COND_MAP_VALID 1 9).put Reg.TRG_COND_CFG_EN 1 0 9)).setFab { fabUp.fab with lutLo := some 0xAAAAAAAB };
      s.responds 0x180018 = true ∧ s.fab.check = none ∧ s.groupIdle (s.get Reg.FAB_WICK_SEL_WICK / 64) = false ∧
      s.fab.lutLo = some ((s.fab.wick (s.get Reg.FAB_WICK_SEL_WICK)).lut % 2 ^ 32 + 1)) ∧
    (fabUp.responds 0x180020 = true ∧ fabUp.fab.check = none ∧ fabUp.get Reg.FAB_GIN_SEL_GROUP = 0 ∧ fabUp.fab.input 0 = 5 ∧ fabUp.groupIdle 0 = true ∧
      (let s : State := (fabUp.put Reg.FAB_COND_MAP_VALID 1 9).put Reg.TRG_COND_CFG_EN 1 0 9; s.groupIdle 0 = false)) ∧
    (let s : State := fabUp.setFab { fabUp.fab with check := some (.gin 3 0x300) };
      s.fab.check.isSome ∧ (({ s.fab with check := none } : Fab).apply (.gin 3 0x300)).ok = false ∧
      (({ s.fab with check := none } : Fab).apply (.gin 3 0x203)).ok = true) ∧
    (let s : State := fabUp.setFab { fabUp.fab with check := some (.gin 3 0x203) };
      s.responds 0x180018 = true ∧ s.responds 0x180020 = true ∧ s.responds 0x180198 = true ∧ s.responds 0x180180 = true ∧ s.responds 0x180230 = true ∧ s.responds 0x180234 = true) ∧
    (up.responds 0x180198 = true ∧ up.fab.check = none) := by
  refine ⟨?_, ?_, ?_, ?_, ?_, ?_, ?_, ?_, ?_, ?_, ?_⟩ <;> decide +kernel

/-- A state and operands that meet the hypotheses of each clause of `Obligations.FabricSettles`, and what the command does there. -/
theorem test_meets_FabricSettles :
    (fabUp.fab.ok = true ∧ (fabUp.fab.wicks.map (·.1)).Nodup ∧ fabUp.fab.settle (fun c => c == 5) = [0]) := by decide +kernel

/-- A state and operands that meet the hypotheses of each clause of `Obligations.ImagesAndReload`, and what the command does there. -/
theorem test_meets_ImagesAndReload :
    (let s : State := { ((up.put Reg.GEN_SESS_STATUS_STATE 2).put Reg.GEN_SESS_STATUS_ROLE 1) with store := { up.store with slotB := { up.store.slotB with valid := true } } };
      s.responds 0x180230 = true ∧ s.role = 1 ∧ s.aud.queue.length < 32 ∧ (s.slot (bits 1 0 1)).valid = true ∧ up.role ≠ 1 ∧ s.sessionLive ∧ s.fab.check = none) ∧
    (let s : State := (up.put Reg.GEN_SESS_STATUS_STATE 2).put Reg.GEN_SESS_STATUS_ROLE 1;
      s.responds 0x180230 = true ∧ s.responds 0x180234 = true ∧ s.role = 1 ∧ s.sessionLive ∧ s.fab.check = none ∧ s.aud.queue.length < 32 ∧ (s.put Reg.FAB_IMG_ACTIVE_TRIAL_RUN 1).flag Reg.FAB_IMG_ACTIVE_TRIAL_RUN = true) ∧
    (up.fab.prog = none ∧ up.activeSlot 0 = true ∧ up.activeSlot 1 = false) ∧
    ((up.put Reg.FAB_IMG_PROG_STATUS_STATE 1).get Reg.FAB_IMG_PROG_STATUS_STATE = 1) ∧
    (let s : State := (up.put Reg.FAB_IMG_PROG_STATUS_STATE 3).setFab { up.fab with prog := some 1 };
      s.fab.prog = some 1 ∧ s.get Reg.FAB_IMG_PROG_STATUS_STATE = 3 ∧ s.fab.progErr = 0 ∧ imgError false (s.slot 1).bytes = 1) ∧
    (up.fab.reload = none ∧ up.fab.relBytes.length < 0x40 + 32 * imgNsect up.fab.relBytes) ∧
    (let b := relImage;
      let s : State := up.setFab { up.fab with relBytes := b };
      s.fab.relBytes = b ∧ imgHeaderOk b = true ∧ imgSize b ≤ imgMax ∧ imgDirOk true b = true ∧ 0x40 + 32 * imgNsect b ≤ b.length ∧ (reloadFab b).2.1 = false ∧ (reloadLists (reloadFab b).2.2).1 = []) ∧
    (let s : State := up.setFab { up.fab with relBytes := List.replicate 64 0 };
      s.fab.relBytes = List.replicate 64 0 ∧ s.fab.reload = none ∧ s.fab.prog = none ∧ imgHeaderOk (List.replicate 64 0) = false) ∧
    (up.fab.reload = none) ∧
    (let s : State := up.setFab { up.fab with reload := some { bytes := [], groups := [], wicks := [], gin := [], conds := [] } };
      s.fab.reload.isSome ∧ s.fab.wave = none ∧ imgSize ([] : List Nat) = 0 ∧ imgError true [] = 1) ∧
    (let s : State := up.setFab { up.fab with wave := some { at_ := 3, out := [0], lut := [0], seen := [] }, reload := some { bytes := [], groups := [], wicks := [], gin := [], conds := [] } };
      s.fab.reload.isSome ∧ s.fab.wave.isSome) ∧
    (let s : State := up.setFab { up.fab with relBytes := [1, 2] };
      s.responds 0x180180 = true ∧ s.fab.check = none ∧ s.fab.relBytes = [1, 2]) ∧
    (scrubOk (.wick 7) = true) ∧
    ((7 : Nat) < 16384) ∧
    ((7 : Nat) < 65536) ∧
    ((7 : Nat) < 16384) ∧
    ((7 : Nat) < 2 ^ 32 ∧ up.flt.under = none ∧ up.sys.phase = .running) ∧
    (up.flt.under = none ∧ up.sys.phase = .running) ∧
    ((7 : Nat) < 64) := by
  refine ⟨?_, ?_, ?_, ?_, ?_, ?_, ?_, ?_, ?_, ?_, ?_, ?_, ?_, ?_, ?_, ?_, ?_, ?_, ?_⟩ <;> decide +kernel

/-- A state and operands that meet the hypotheses of each clause of `Obligations.EdgeMeasurement`, and what the command does there. -/
theorem test_meets_EdgeMeasurement :
    (let s : State := { tdcUp with dtRef := 20 };
      (∀ m ∈ List.range 32, s.get Reg.TDC_CH_CFG_PIN 0 m = 9 ↔ m = 9) ∧ s.chEn 9 = true ∧ s.chOff 9 = false ∧ s.chWaits 9 = false ∧ (s.tch 9).from_ ≤ s.dtRef ∧
      (s.tch 9).edgeAt = none ∧ (s.tch 9).loss = none ∧ s.measures 9 false = true ∧ (s.interp (2 * s.chCore 9)).armedFrom = some 10 ∧ (s.interp (2 * s.chCore 9 + 1)).armedFrom = some 5) ∧
    (let s : State := (tdcUp.setInterp 18 { st := .cal 10 }).setInterp 19 { st := .cal 10 };
      s.measures 9 false = true ∧ (s.tch 9).loss = none ∧ s.chOff 9 = false ∧ (s.interp 18).armedFrom = none ∧ (s.interp 19).armedFrom = none ∧ s.chCore 9 = 9) ∧
    (let s : State := tdcUp.setTdc { tdcUp.tdc with reqs := [(9, 4)] };
      s.chWaits 9 = true ∧ s.measures 9 false = true ∧ (s.tch 9).loss = none) ∧
    (let s : State := tdcUp.setInterp 18 { st := .cal 10 };
      (s.interp 18).st = .cal 10) ∧
    (let s : State := tdcUp.setInterp 18 { st := .cal 10 };
      (s.interp 18).st = .cal 10 ∧ (s.interp 18).bad = 0) ∧
    (let s : State := tdcUp.setInterp 18 { st := .cal 10, bad := 1 };
      (s.interp 18).st = .cal 10 ∧ (s.interp 18).bad = 1) ∧
    ((tdcUp.interp 18).st = .armed 10 ∧ (tdcUp.interp 19).st = .armed 5) ∧
    (let s : State := tdcUp.setInterp 18 { st := .run { at_ := 100, falling := false, ch := 9, own := true, start := false }, period := 2040, offset := 10 };
      s.tdcRuns = [(18, { at_ := 100, falling := false, ch := 9, own := true, start := false })] ∧ (s.interp 18).interval 2560 = 2560 ∧ s.chCore 9 = 9 ∧
      s.chEn 9 = true ∧ s.chMode 9 = false ∧ (∀ k ∈ List.range 32, s.chMode k = false) ∧ s.tdcRoom 9 = true ∧ (s.tch 9).loss = none ∧ s.chWaits 9 = false) ∧
    (let a : TdcRun := { at_ := 100, falling := false, ch := 9, own := true, start := false };
      let s : State := (tdcUp.setInterp 18 { st := .run a, period := 2040, offset := 10 }).setInterp 4 { st := .run { a with ch := 2 } };
      (s.interp 18).st = .run a ∧ (s.tdcRuns.any fun x => x.1 != 18 && x.2.at_ == 100 && x.2.count.isNone) = true ∧ (s.tdcRuns.all fun x => decide (100 ≤ x.2.at_)) = true) ∧
    (tdcStarted.chState 9 = 2 ∧ (tdcStarted.tch 9).start = some (984, false) ∧
      ((tdcStarted.tdcStop 9 19968 false false).tch 9).queue = [{ w0 := 9, w1 := 0x5218020000004A28 }]) ∧
    (tdcStarted.chState 9 = 2 ∧ (tdcStarted.tch 9).start = some (984, false) ∧ tdcStarted.tdcRoom 9 = true ∧ tdcStarted.flag Reg.TDC_CH_CFG_REARM 0 9 = false ∧ (tdcStarted.tch 9).loss = none ∧ (tdcStarted.tdcRuns.any fun x => x.2.ch == 9) = false ∧ tdcStarted.shadow.length = 0) := by
  refine ⟨?_, ?_, ?_, ?_, ?_, ?_, ?_, ?_, ?_, ?_, ?_⟩ <;> decide +kernel

/-- A state and operands that meet the hypotheses of each clause of `Obligations.EdgeChannels`, and what the command does there. -/
theorem test_meets_EdgeChannels :
    (let s : State := tdcUp.put Reg.TDC_CH_CFG_MODE 1 0 9;
      s.responds 0x1A0054 = true ∧ s.tdcSel = 9 ∧ s.shadow.length = 0 ∧ s.chMode 9 = true ∧ s.chState 9 = 0 ∧ s.chOff 9 = false ∧ tdcUp.chMode 9 = false) ∧
    (tdcStarted.responds 0x1A0054 = true ∧ tdcStarted.tdcSel = 9 ∧ 9 < tdcStarted.tdc.ch.length) ∧
    (tdcStarted.responds 0x1A0054 = true ∧ tdcStarted.tdcSel = 9 ∧ tdcStarted.chState 9 = 2) ∧
    (tdcUp.responds 0x1A0054 = true ∧ tdcUp.tdcSel = 9) ∧
    (let s : State := tdcUp.put Reg.TDC_CH_CFG_EN 0 0 9;
      s.responds 0x1A0044 = true ∧ s.tdcSel = 9 ∧ s.chEn 9 = false ∧ s.chOff 9 = false ∧ s.shadow.length = 0) ∧
    (tdcUp.responds 0x1A0044 = true ∧ tdcUp.tdcSel = 9 ∧ tdcUp.chEn 9 = true ∧ tdcUp.chMode 9 = (0x921 : Nat).testBit 1 ∧ tdcUp.get Reg.TDC_CH_CFG_STD 0 9 = bits 0x921 2 2 ∧ bits 0x921 2 2 ≠ 3 ∧
      tdcUp.get Reg.TDC_CH_CFG_PIN 0 9 = bits 0x921 8 6 ∧ 9 < tdcUp.tdc.ch.length) ∧
    (tdcUp.responds 0x1A0044 = true ∧ tdcUp.tdcSel = 9 ∧ bits 0xD 2 2 = 3 ∧ 33 < bits 0x2201 8 6) ∧
    (tdcUp.responds 0x1A0044 = true ∧ tdcUp.tdcSel = 9 ∧ tdcUp.chEn 9 = true ∧ tdcUp.chMode 9 ≠ (3 : Nat).testBit 1) ∧
    (let s : State := tdcUp.setTch 9 { tdcUp.tch 9 with queue := [{ w0 := 7, w1 := 8 }] };
      s.responds (0x1A1000 + 0x20 * 9) = true ∧ (s.tch 9).queue = [{ w0 := 7, w1 := 8 }]) ∧
    (let s : State := tdcUp.setTch 9 { tdcUp.tch 9 with queue := [{ w0 := 7, w1 := 8 }], snapIn := true };
      s.responds (0x1A100C + 0x20 * 9) = true ∧ (s.tch 9).snapIn = true) ∧
    (tdcUp.responds (0x1A1000 + 0x20 * 9) = true ∧ (tdcUp.tch 9).queue = []) ∧
    (let s : State := tdcUp.setTch 9 { tdcUp.tch 9 with loss := some (8, 10, 2) };
      (s.tch 9).loss = some (8, 10, 2) ∧ s.lossEnds 9 = some 12) ∧
    (let s : State := tdcUp.setTch 9 { tdcUp.tch 9 with loss := some (8, 10, 2) };
      (s.tch 9).loss = some (8, 10, 2) ∧ s.tdcRoom 9 = true ∧ s.chWaits 9 = false ∧ (s.interp (2 * s.chCore 9)).armedFrom = some 10 ∧ (s.interp (2 * s.chCore 9 + 1)).armedFrom = some 5) ∧
    ((tdcUp.tch 9).loss = none) ∧
    (let s : State := (tdcUp.put Reg.TDC_STATUS_SP32_USED 1).setTdc { tdcUp.tdc with reqs := [(9, 4)] };
      s.responds 0x1A0008 = true ∧ s.tdc.reqs = [(9, 4)] ∧ s.freeCore = some 33) ∧
    (let s : State := ((tdcUp.put Reg.TDC_STATUS_SP32_USED 1).put Reg.TDC_STATUS_SP33_USED 1).setTdc { tdcUp.tdc with reqs := [(9, 4)] };
      s.responds 0x1A0008 = true ∧ s.tdc.reqs = [(9, 4)] ∧ s.freeCore = none) ∧
    (let s : State := tdcUp.setTdc { tdcUp.tdc with reqs := [(9, 4)] };
      s.responds 0x1A0008 = true ∧ s.tdc.reqs = [(9, 4)] ∧ (s.tch 9).queue.length < 512) ∧
    (let s : State := tdcUp.setTdc { tdcUp.tdc with reqs := [(9, 4)] };
      s.tdc.reqs = [(9, 4)]) ∧
    (up.responds 0x1A0030 = true) := by
  refine ⟨?_, ?_, ?_, ?_, ?_, ?_, ?_, ?_, ?_, ?_, ?_, ?_, ?_, ?_, ?_, ?_, ?_, ?_, ?_⟩ <;> decide +kernel

/-- A state and operands that meet the hypotheses of each clause of `Obligations.AuxSequence`, and what the command does there. -/
theorem test_meets_AuxSequence :
    (let s : State := (up.put Reg.AUX_PIN_CFG_ROLE 1 0);
      s.responds 0x1B0000 = true ∧ s.auxEn = false ∧ s.tableFault = none) ∧
    (up.responds 0x1B0000 = true ∧ up.auxEn = false ∧ up.tableFault = some (1, 0)) ∧
    (auxUp.responds 0x1B0000 = true ∧ auxUp.auxEn = true ∧ auxUp.calRuns = false) ∧
    (let s : State := auxUp.put Reg.AUX_CAL_STATUS_STATE 3;
      s.responds 0x1B0000 = true ∧ s.auxEn = true ∧ s.calRuns = true) ∧
    (up.auxEn = false) ∧
    (let s : State := auxUp.setAux { auxUp.aux with pos := some { entry := 0, word := 0x500000103, delay := 4, ticks := 4, left := 6 } };
      s.auxEn = true ∧ s.get Reg.AUX_CAL_STATUS_STATE = 0 ∧ s.flag Reg.AUX_STATUS_MAIN_FAIL = false ∧ s.aux.pend = [] ∧ s.aux.run = none ∧ s.aux.pos.isSome) ∧
    (let s : State := auxUp.setAux { auxUp.aux with pos := none };
      s.auxEn = true ∧ s.get Reg.AUX_CAL_STATUS_STATE = 0 ∧ s.flag Reg.AUX_STATUS_MAIN_FAIL = false ∧ s.aux.pend = [] ∧ s.aux.run = none ∧ s.aux.pos = none ∧ s.get Reg.AUX_SEQ_CFG_LAST = 0) ∧
    (let p : SeqPos := { entry := 0, word := 0x500000103, delay := 0, ticks := 0, left := 6 };
      auxUp.auxEn = true ∧ auxUp.get Reg.AUX_CAL_STATUS_STATE = 0 ∧ auxUp.aux.pos = some p ∧ auxUp.aux.pend = [] ∧ auxUp.aux.run = none ∧ entAvg p.word = 0 ∧ entBridge p.word = false ∧
      entArng p.word = false ∧ auxUp.get Reg.AUX_PIN_CLAMP_NOW = 0 ∧ auxUp.aux.rec_ = none ∧ auxUp.aux.broken = [] ∧ auxUp.aux.rng = []) ∧
    (let s : State := auxUp.setAux { auxUp.aux with pos := none };
      s.responds 0x1B0030 = true ∧ s.auxEn = true ∧ s.aux.pend = [] ∧ s.aux.run = none ∧ s.aux.cur = none ∧ s.aux.pos = none ∧
      (({ s with aux := { s.aux with pend := [{ slot := 2, edge := 3 }] } } : State).aux.pend.any fun r => r.slot == 2) = true) ∧
    (let s : State := auxUp.setAux { auxUp.aux with pos := some { entry := 0, word := 0x500000103, delay := 4, ticks := 1, left := 6 } };
      s.responds 0x1B0030 = true ∧ s.auxEn = true ∧ s.aux.pend = [] ∧ s.aux.run = none ∧ s.aux.cur = none ∧ s.aux.pos.isSome) ∧
    (let s : State := auxUp.setAux { auxUp.aux with pos := none, pend := [{ slot := 2, edge := 300 }] };
      s.runner = some false ∧ s.auxEn = true ∧ s.aux.run = none ∧ s.aux.cur = none ∧ s.aux.pos = none ∧ s.aux.pend = [{ slot := 2, edge := 300 }]) ∧
    (up.aux.pend = []) ∧
    (auxDue1.aux.due.length = 1 ∧ auxDue1.flag Reg.AUX_CTRL_QEN = false ∧ (auxDue1.aux.due.all fun r => r.value == (64000, false, false)) = true) ∧
    (let s : State := auxDue1.put Reg.AUX_CTRL_QEN 1;
      s.aux.due.length = 1 ∧ s.flag Reg.AUX_CTRL_QEN = true ∧ s.aux.queue.loss = none ∧ s.aux.queue.q.length + 2 ≤ 1024) ∧
    (up.aux.due = []) := by
  refine ⟨?_, ?_, ?_, ?_, ?_, ?_, ?_, ?_, ?_, ?_, ?_, ?_, ?_, ?_, ?_⟩ <;> decide +kernel

/-- A state and operands that meet the hypotheses of each clause of `Obligations.AuxRecords`, and what the command does there. -/
theorem test_meets_AuxRecords :
    (let s : State := auxUp.setAux { auxUp.aux with queue := { q := [(5, 6)] } };
      s.responds 0x1B0200 = true ∧ s.aux.queue.q = [(5, 6)]) ∧
    (let s : State := auxUp.setAux { auxUp.aux with queue := { q := [(5, 6)], snapIn := true } };
      s.responds 0x1B020C = true ∧ s.aux.queue.snapIn = true ∧ s.aux.queue.q.length ≤ 1024) ∧
    (let s : State := auxUp.setAux { auxUp.aux with paused := false, queue := { loss := some { start := 5, from_ := 7, last := 900, count := 2 } } };
      s.aux.queue.loss.isSome ∧ s.aux.queue.hasRoom = true ∧ s.auxEn = true ∧ s.aux.paused = false ∧ s.runner.isSome = true ∧ s.dtRef ≤ 902) ∧
    (up.aux.queue.loss = none) ∧
    (clampMask [0, 3001, -3000, -3001] = 10 ∧ ((10 : Nat) ≠ 0)) ∧
    (clampMask [0, 3000, -3000] = 0) ∧
    (let s : State := auxUp.put Reg.AUX_SEQ_ENTRY 0x200003 40;
      s.auxEn = true ∧ entWchk (s.auxWord 40) = true ∧ s.wireBreaks (s.auxWord 40) (.openPin 3) = true) ∧
    (up.auxEn = false) ∧
    (let s : State := auxUp.setAux { auxUp.aux with broken := [(40, 301)] };
      s.isBroken 40 = true) ∧
    (up.isBroken 40 = false) ∧
    ((auxUp.put Reg.AUX_EXC_CFG_EN 1).excRuns = true ∧ up.excRuns = false) ∧
    (let s : State := (auxUp.put Reg.AUX_EXC_CFG_EN 1).put Reg.AUX_PIN_CFG_ROLE 2 9;
      s.sys.phase = .running ∧ s.excRuns = true ∧ s.get Reg.AUX_EXC_STATUS_XLIM = 0 ∧ s.pinRole 9 = 2 ∧ s.senses = false) ∧
    (up.pinRole 9 = 0) ∧
    (up.responds (0x1B0040 + 4 * 3) = true ∧ up.auxEn = false) ∧
    (let s : State := up.put Reg.AUX_PIN_CFG_ROLE 2 4;
      s.responds (0x1B0040 + 4 * 3) = true ∧ s.pinRole ((3 + 1) % 16) = 2 ∧ auxUp.auxEn = true ∧ auxUp.pinRole 3 ≠ 0) ∧
    (up.responds 0x1B0108 = true) := by
  refine ⟨?_, ?_, ?_, ?_, ?_, ?_, ?_, ?_, ?_, ?_, ?_, ?_, ?_, ?_, ?_, ?_⟩ <;> decide +kernel

/-- A state and operands that meet the hypotheses of each clause of `Obligations.AuxCalibration`, and what the command does there. -/
theorem test_meets_AuxCalibration :
    (auxUp.responds 0x1B0090 = true ∧ auxUp.calRuns = false ∧ auxUp.entryFault (auxUp.auxWord (bits 0x501 16 6)) = 0 ∧ auxUp.auxEn = true ∧ auxUp.flag Reg.AUX_STATUS_MAIN_FAIL = false ∧
      auxUp.aux.pend = [] ∧ auxUp.aux.run = none ∧ (auxUp.put Reg.AUX_CAL_STATUS_STATE 3).calRuns = true) ∧
    (let s : State := auxUp.put Reg.AUX_CAL_STATUS_STATE 3;
      s.responds 0x1B0090 = true ∧ s.get Reg.AUX_CAL_STATUS_STATE = 3 ∧ s.entryFault (s.auxWord s.aux.cal.entry) = 0 ∧ s.auxEn = true ∧ auxUp.get Reg.AUX_CAL_STATUS_STATE = 0) ∧
    ((auxUp.put Reg.AUX_CAL_STATUS_STATE 3).calRuns = true ∧ auxUp.calRuns = false ∧ auxUp.responds 0x1B0090 = true) ∧
    (let s : State := (auxUp.put Reg.AUX_CAL_STATUS_STATE 2).setAux { auxUp.aux with cal := { begun := some 500, cavg := 4 } };
      s.aux.cal.begun = some 500 ∧ s.get Reg.AUX_CAL_STATUS_STATE = 2 ∧ s.aux.cal.full = false ∧ s.aux.cal.zonly = false ∧ s.aux.cal.bad = false ∧ (s.calSum 500 []).2 = false ∧ inMask (s.get Reg.AUX_PIN_CLAMP_NOW) (s.clampPins (s.auxWord s.aux.cal.entry)) = false ∧ s.isBroken s.aux.cal.entry = false) ∧
    (let s : State := (auxUp.put Reg.AUX_CAL_STATUS_STATE 2).setAux { auxUp.aux with cal := { begun := some 500, cavg := 4, zonly := true } };
      s.aux.cal.begun = some 500 ∧ s.get Reg.AUX_CAL_STATUS_STATE = 2 ∧ s.auxEn = true ∧ s.aux.cal.bad = false ∧ (s.calSum 500 []).2 = false ∧ inMask (s.get Reg.AUX_PIN_CLAMP_NOW) (s.clampPins (s.auxWord s.aux.cal.entry)) = false ∧ s.isBroken s.aux.cal.entry = false) ∧
    (let s : State := (((auxUp.put Reg.AUX_CAL_STATUS_STATE 4).put Reg.AUX_CAL_FS_FS 65536).put Reg.AUX_SEQ_ENTRY 0x103 0).setAux { auxUp.aux with cal := { begun := some 500, full := true, cavg := 4 } };
      s.aux.cal.begun = some 500 ∧ s.get Reg.AUX_CAL_STATUS_STATE = 4 ∧ s.auxEn = true ∧ s.aux.cal.bad = false ∧ (s.calSum 500 (List.replicate 16 1000000000000)).2 = false ∧ inMask (s.get Reg.AUX_PIN_CLAMP_NOW) (s.clampPins (s.auxWord s.aux.cal.entry)) = false ∧ s.isBroken s.aux.cal.entry = false ∧
      (calGain s.aux.cal.z (64 * (s.calSum 500 (List.replicate 16 1000000000000)).1 / (2 ^ s.aux.cal.cavg : Nat)) (toInt 18 (s.get Reg.AUX_CAL_FS_FS))).isSome = true) ∧
    (let s : State := ((auxUp.put Reg.AUX_CAL_STATUS_STATE 4).put Reg.AUX_SEQ_ENTRY 0x103 0).setAux { auxUp.aux with cal := { begun := some 500, full := true, cavg := 4 } };
      s.aux.cal.begun = some 500 ∧ s.get Reg.AUX_CAL_STATUS_STATE = 4 ∧ s.aux.cal.bad = false ∧ (s.calSum 500 []).2 = false ∧ inMask (s.get Reg.AUX_PIN_CLAMP_NOW) (s.clampPins (s.auxWord s.aux.cal.entry)) = false ∧ s.isBroken s.aux.cal.entry = false ∧
      calGain s.aux.cal.z (64 * (s.calSum 500 []).1 / (2 ^ s.aux.cal.cavg : Nat)) (toInt 18 (s.get Reg.AUX_CAL_FS_FS)) = none) ∧
    (let s : State := (auxUp.put Reg.AUX_CAL_STATUS_STATE 2).setAux { auxUp.aux with cal := { begun := some 500, cavg := 4, bad := true } };
      s.aux.cal.begun = some 500 ∧ s.calMeasures = true ∧ s.aux.cal.bad = true) ∧
    (up.calMeasures = false) ∧
    ((auxUp.put Reg.AUX_CAL_STATUS_STATE 3).get Reg.AUX_CAL_STATUS_STATE = 3) ∧
    (auxUp.auxEn = true ∧ auxUp.flag Reg.AUX_STATUS_MAIN_FAIL = false ∧ auxUp.flag Reg.AUX_STATUS_SPARE_FAIL = false ∧ auxUp.calMeasures = false) ∧
    (auxUp.auxEn = true ∧ auxUp.flag Reg.AUX_STATUS_MAIN_FAIL = false ∧ auxUp.flag Reg.AUX_STATUS_SPARE_FAIL = false ∧ auxUp.calMeasures = false) ∧
    (auxUp.auxEn = true ∧ auxUp.flag Reg.AUX_STATUS_MAIN_FAIL = false ∧ auxUp.flag Reg.AUX_STATUS_SPARE_FAIL = false ∧ auxUp.calMeasures = false) ∧
    (up.auxEn = false) := by
  refine ⟨?_, ?_, ?_, ?_, ?_, ?_, ?_, ?_, ?_, ?_, ?_, ?_, ?_, ?_⟩ <;> decide +kernel

/-- A state and operands that meet the hypotheses of each clause of `Obligations.ControlInputs`, and what the command does there. -/
theorem test_meets_ControlInputs :
    (up.awake = true ∧ State.reset.awake = false) ∧
    (let s : State := up.setFb 2 { pend := [(250, 1000), (500, 3)] };
      (s.fbIn 2).pend.head? = some (250, 1000)) ∧
    (let s : State := up.put Reg.CTL_PCNT_CFG_MODE 0x55;
      s.awake = true ∧ bits (s.get Reg.CTL_PCNT_CFG_MODE) (2 * 3) 2 = 1) ∧
    (let s : State := (up.put Reg.CTL_PCNT_CFG_MODE 0xAA).setCtl { up.ctl with pins := [(false, false), (true, false), (true, true), (false, true)] };
      s.awake = true ∧ bits (s.get Reg.CTL_PCNT_CFG_MODE) (2 * 2) 2 = 2) ∧
    (bits (up.get Reg.CTL_PCNT_CFG_MODE) (2 * 3) 2 = 0) ∧
    ((7 : Nat) < 8) := by
  refine ⟨?_, ?_, ?_, ?_, ?_, ?_⟩ <;> decide +kernel

/-- A state and operands that meet the hypotheses of each clause of `Obligations.ControlPeriods`, and what the command does there. -/
theorem test_meets_ControlPeriods :
    (up.get Reg.CTL_Sn_STATUS_STATE 2 ≠ 1 ∧ up.get Reg.CTL_Sn_STATUS_STATE 2 ≠ 2) ∧
    (ctlUp.ctl.loop.length = 4 ∧ ctlUp.get Reg.CTL_Sn_STATUS_STATE 0 = 1 ∧ (ctlUp.loop 0).commit = false ∧ ctlUp.get Reg.CTL_Sn_SRC_FB_SRC 0 = 8 + 0 ∧ ctlUp.get Reg.CTL_Sn_SRC_SP_SRC 0 = 0 ∧
      ctlUp.get Reg.CTL_Sn_SRC_FF_SRC 0 = 0 ∧ ctlUp.get Reg.CTL_Sn_CTRL_INHIBIT 0 = 0 ∧ ctlUp.get Reg.CTL_Sn_CTRL_TYPE 0 ≠ 2) ∧
    (let s : State := ctlUp.setLoop 0 { off := 4 };
      s.ctl.loop.length = 4 ∧ s.get Reg.CTL_Sn_STATUS_STATE 0 = 1 ∧ (s.loop 0).off ≠ s.etOff) ∧
    (let s : State := ctlUp.put Reg.CTL_Sn_SRC_FB_SRC 3 0;
      s.ctl.loop.length = 4 ∧ s.get Reg.CTL_Sn_STATUS_STATE 0 = 1 ∧ (s.loop 0).commit = false ∧ s.get Reg.CTL_Sn_SRC_FB_SRC 0 = 1 + 2 ∧ s.get Reg.CTL_Sn_SRC_SP_SRC 0 = 0 ∧ s.get Reg.CTL_Sn_SRC_FF_SRC 0 = 0) ∧
    (let s : State := ctlUp.put Reg.CTL_Sn_SRC_FB_SRC 70 0;
      s.ctl.loop.length = 4 ∧ s.get Reg.CTL_Sn_STATUS_STATE 0 = 1 ∧ (s.loop 0).commit = false ∧ s.get Reg.CTL_Sn_SRC_FB_SRC 0 = 70) ∧
    (let s : State := (ctlUp.put Reg.CTL_Sn_CTRL_TYPE 2 0).put Reg.CTL_Sn_GATE_GATE_PRIM 5 0;
      s.ctl.loop.length = 4 ∧ s.get Reg.CTL_Sn_STATUS_STATE 0 = 1 ∧ (s.loop 0).commit = false ∧ s.safeOn 0 = false) ∧
    (let s : State := (ctlUp.stage Reg.CTL_Sn_KP_K 5 0).setLoop 0 { commit := true };
      s.ctl.loop.length = 4 ∧ s.get Reg.CTL_Sn_STATUS_STATE 0 = 1 ∧ (s.loop 0).commit = true ∧ s.shadowOf Reg.CTL_Sn_KP_K 0 0 = some 5) ∧
    ((ctlRun.loop 0).busy = true ∧ ctlRun.get Reg.CTL_Sn_STATUS_STATE 0 ≠ 3 ∧ ctlRun.dtRef ≤ (ctlRun.loop 0).start ∧ (ctlUp.loop 0).busy = false) ∧
    (ctlUp.responds 0x1C0154 = true ∧ ctlUp.flag Reg.CTL_Sn_CTRL_EN 0 = true ∧ (up.stage Reg.CTL_Sn_KP_K 5 0).shadowOf Reg.CTL_Sn_KP_K 0 0 = some 5) := by
  refine ⟨?_, ?_, ?_, ?_, ?_, ?_, ?_, ?_, ?_⟩ <;> decide +kernel

/-- A state and operands that meet the hypotheses of each clause of `Obligations.ControlLaw`, and what the command does there. -/
theorem test_meets_ControlLaw :
    (let s : State := ctlRun.put Reg.CTL_Sn_SRC_FB_SRC 1 0;
      s.ctl.loop.length = 4 ∧ (s.loop 0).off_ = false ∧ s.get Reg.CTL_Sn_STATUS_STATE 0 ≠ 3 ∧ s.flag Reg.CTL_Sn_CTRL_EN 0 = true ∧ s.wraps 0 = false ∧ s.get Reg.CTL_Sn_CTRL_LOG_DIV 0 = 0 ∧
      s.outMin 0 ≤ s.outMax 0 ∧ s.outMin 0 * 2 ^ 41 ≤ (s.loop 0).i ∧ (s.loop 0).i ≤ s.outMax 0 * 2 ^ 41) ∧
    (let s : State := ctlRun.setLoop 0 { ctlRun.loop 0 with src := { y := 100, hold := 2 } };
      s.ctl.loop.length = 4 ∧ (s.loop 0).off_ = false ∧ (s.loop 0).src.hold ≠ 0 ∧ s.get Reg.CTL_Sn_STATUS_STATE 0 ≠ 3) ∧
    (let s : State := ctlRun.setLoop 0 { ctlRun.loop 0 with done := false };
      s.ctl.loop.length = 4 ∧ (s.loop 0).off_ = false ∧ (s.loop 0).done = false ∧ s.get Reg.CTL_Sn_STATUS_STATE 0 ≠ 3 ∧ (s.loop 0).ovrRun < 2) ∧
    (let s : State := ctlRun.setLoop 0 { ctlRun.loop 0 with done := false, ovrRun := 2 };
      s.ctl.loop.length = 4 ∧ (s.loop 0).off_ = false ∧ (s.loop 0).done = false ∧ s.get Reg.CTL_Sn_STATUS_STATE 0 ≠ 3 ∧ 2 ≤ (s.loop 0).ovrRun) ∧
    (let s : State := (ctlRun.put Reg.CTL_Sn_SRC_FB_SRC 1 0).put Reg.CTL_Sn_FE_TIME_FE_TIME 1 0;
      s.ctl.loop.length = 4 ∧ (s.loop 0).off_ = false ∧ s.get Reg.CTL_Sn_STATUS_STATE 0 ≠ 3 ∧ s.wraps 0 = false ∧ s.get Reg.CTL_Sn_FE_TIME_FE_TIME 0 ≠ 0) ∧
    (let s : State := ctlRun.setLoop 0 { ctlRun.loop 0 with off_ := true };
      s.ctl.loop.length = 4 ∧ (s.loop 0).off_ = true ∧ (s.loop 0).busy = true) ∧
    ((ctlUp.loop 0).off_ = false ∧ (ctlUp.loop 0).busy = false) ∧
    (ctlUp.awake = true ∧ ctlUp.get Reg.CTL_Sn_CTRL_OUT_MODE 0 = 2) := by
  refine ⟨?_, ?_, ?_, ?_, ?_, ?_, ?_, ?_⟩ <;> decide +kernel

/-- A state and operands that meet the hypotheses of each clause of `Obligations.ProfileLimits`, and what the command does there. -/
theorem test_meets_ProfileLimits :
    (|(5 : Int)| ≤ ((3 : Nat) : Int) * 256) ∧
    ((0 : Int) < 500 ∧ (0 : Int) * 2 ^ 25 < 25000 ∧ ((5 : Nat) : Int) < 500 ∧ (500 : Int) ≤ ((1000 : Nat) : Int) * 256) := by
  refine ⟨?_, ?_⟩ <;> decide +kernel

/-- A state and operands that meet the hypotheses of each clause of `Obligations.ControlEnable`, and what the command does there. -/
theorem test_meets_ControlEnable :
    (ctlSet.responds (0x1C0100 + 0x80 * 0) = true ∧ (∀ k, k < 4 → ctlSet.flag Reg.CTL_Sn_CTRL_EN k = false) ∧ ctlSet.get Reg.CTL_Sn_PERIOD_PERIOD 0 = 2500 ∧ ctlSet.get Reg.CTL_Sn_DEADLINE_DEADLINE 0 = 1000 ∧
      ctlSet.srcOk (ctlSet.get Reg.CTL_Sn_SRC_FB_SRC 0) = true ∧ ctlSet.get Reg.CTL_Sn_SRC_SP_SRC 0 = 0 ∧ ctlSet.get Reg.CTL_Sn_SRC_FF_SRC 0 = 0 ∧ bits 0x140227 8 2 = 2 ∧ bits 0x140227 1 2 = 3 ∧ bits 0x140227 4 2 ≠ 0 ∧
      ctlSet.get Reg.CTL_Sn_GATE_GATE_PRIM 0 = 0x1FF ∧ ctlSet.ctl.loop.length = 4) ∧
    (let s : State := up.put Reg.CTL_Sn_PERIOD_PERIOD 2501 3;
      s.responds (0x1C0100 + 0x80 * 3) = true ∧ s.flag Reg.CTL_Sn_CTRL_EN 3 = false ∧ s.get Reg.CTL_Sn_PERIOD_PERIOD 3 % 250 ≠ 0 ∧ bits 1 4 2 = 0 ∧
      ((up.put Reg.CTL_Sn_DEADLINE_DEADLINE 2501 3).get Reg.CTL_Sn_PERIOD_PERIOD 3 < (up.put Reg.CTL_Sn_DEADLINE_DEADLINE 2501 3).get Reg.CTL_Sn_DEADLINE_DEADLINE 3)) ∧
    (ctlUp.responds 0x1C0100 = true ∧ ctlUp.flag Reg.CTL_Sn_CTRL_EN 0 = true) ∧
    (ctlUp.responds 0x1C0100 = true ∧ ctlUp.flag Reg.CTL_Sn_CTRL_EN 0 = true ∧ ctlUp.ctl.loop.length = 4) ∧
    (ctlSet.responds 0x1C0100 = true ∧ ctlSet.flag Reg.CTL_Sn_CTRL_EN 0 = false ∧ (ctlSet.loop 0).off_ = false ∧ ctlSet.ctl.loop.length = 4) ∧
    (let s : State := (ctlRun.put Reg.CTL_Sn_CTRL_LOG_DIV 3 0).setLoop 0 { ctlRun.loop 0 with src := { y := 100, hold := 1 } };
      s.ctl.loop.length = 4 ∧ (s.loop 0).off_ = false ∧ (s.loop 0).src.hold = 1 ∧ s.get Reg.CTL_Sn_STATUS_STATE 0 ≠ 3 ∧ s.get Reg.CTL_Sn_CTRL_LOG_DIV 0 ≠ 0) ∧
    (up.responds 0x1C0040 = true ∧ up.ctl.queue.q = []) ∧
    (up.responds 0x1C004C = true) ∧
    (let s : State := up.setCtl { up.ctl with queue := { up.ctl.queue with loss := some { start := 8, from_ := 2, last := 500, count := 3 } } };
      s.ctl.queue.loss.isSome = true ∧ s.ctl.queue.q.length + 2 ≤ 1024 ∧ s.dtRef ≤ 502) ∧
    (up.ctl.queue.loss = none) ∧
    (up.responds 0x1C0068 = true) := by
  refine ⟨?_, ?_, ?_, ?_, ?_, ?_, ?_, ?_, ?_, ?_, ?_⟩ <;> decide +kernel

/-- A state and operands that meet the hypotheses of each clause of `Obligations.SafetyInputs`, and what the command does there. -/
theorem test_meets_SafetyInputs :
    (up.safRuns = false) ∧
    (safUp.safRuns = true ∧ safUp.saf.ins.length = 4 ∧ safUp.saf.tp = [none, none] ∧ safUp.get Reg.SAF_CFG_IN_TYPE 0 = 1 ∧ (safUp.safIn 0).st = 1 ∧ (safUp.safIn 0).faults = [] ∧ safUp.saf.ack = false) ∧
    (let s : State := safUp.setSaf { safUp.saf with tp := [some (3, true), none] };
      s.safRuns = true ∧ s.saf.ins.length = 4 ∧ s.get Reg.SAF_CFG_IN_TPA 0 = 1 ∧ s.saf.tp.head? = some (some (3, true)) ∧ 3 + 1 ≤ s.get Reg.SAF_CFG_TP_TPW + 2) ∧
    (safUp.safRuns = true ∧ safUp.saf.ins.length = 4 ∧ safUp.saf.tp = [none, none] ∧ safUp.get Reg.SAF_CFG_IN_TYPE 0 = 1 ∧ (safUp.safIn 0).st = 1 ∧ (safUp.safIn 0).faults = [] ∧ safUp.saf.ack = false) ∧
    (let s : State := (safUp.setSaf { safUp.saf with tp := [some (5, true), none] }).setSafIn 0 { a := { acc := true, last := true, prevOwn := true }, st := 1 };
      s.safRuns = true ∧ s.saf.ins.length = 4 ∧ s.saf.ack = false ∧ s.get Reg.SAF_CFG_IN_TYPE 0 = 1 ∧ s.get Reg.SAF_CFG_IN_TPA 0 = 1 ∧ s.saf.tp.head? = some (some (5, true)) ∧ 5 + 1 = s.get Reg.SAF_CFG_TP_TPW) ∧
    (let s : State := safUp.setSaf { safUp.saf with n := 1001 };
      s.get Reg.SAF_CFG_TP_EN = 1 ∧ s.saf.tp = [none, none] ∧ s.saf.internal = [] ∧ s.safRuns = true ∧ (s.saf.n - 1) % (20 * s.get Reg.SAF_CFG_TP_TPP) = 1 * (10 * s.get Reg.SAF_CFG_TP_TPP)) ∧
    (let s : State := safUp.setSaf { safUp.saf with tp := [none, some (6, true)] };
      s.saf.tp.length = 2 ∧ s.saf.tp.getD 1 none = some (6, true) ∧ s.get Reg.SAF_CFG_TP_TPW ≤ 6) := by
  refine ⟨?_, ?_, ?_, ?_, ?_, ?_, ?_⟩ <;> decide +kernel

/-- A state and operands that meet the hypotheses of each clause of `Obligations.SafetyOutputs`, and what the command does there. -/
theorem test_meets_SafetyOutputs :
    (safUp.safRuns = true ∧ safUp.safeOn 0 = true) ∧
    (let s : State := (safUp.setSafOut 0 {}).setSaf { (safUp.setSafOut 0 {}).saf with ack := true };
      s.safRuns = true ∧ s.saf.outs.length = 2 ∧ s.saf.ack = true ∧ s.safPermits 0 = true ∧ s.safeOn 0 = false) ∧
    (let s : State := safUp.setSafOut 0 { on := true, wait := false, a := { lo := 1 } };
      s.safRuns = true ∧ s.saf.outs.length = 2 ∧ s.saf.ack = false ∧ s.safeOn 0 = true ∧ (s.safOut 0).a.pulse = none ∧ 1 ≤ (s.safOut 0).a.lo) ∧
    (let s : State := safUp.setSafOut 0 { b := { hi := 1 } };
      s.safRuns = true ∧ s.saf.outs.length = 2 ∧ s.saf.ack = false ∧ s.safeOn 0 = false ∧ 1 ≤ (s.safOut 0).b.hi) ∧
    (let s : State := safUp.setSafOut 0 { on := true, wait := false, a := { pulse := some 2 } };
      s.safRuns = true ∧ s.saf.outs.length = 2 ∧ s.saf.ack = false ∧ s.safeOn 0 = true ∧ s.get Reg.SAF_CFG_OUT_OPW 0 = 2 + 2 ∧ (s.safOut 0).a.pulse = some 2) ∧
    (let s : State := safUp.setSaf { safUp.saf with n := 10 * safUp.oppStrobes 0 / 20 + 1 };
      s.saf.outs.length = 2 ∧ 0 < s.saf.n ∧ s.safeOn 0 = true ∧ s.safeOn 1 = false ∧ s.safRuns = true ∧ (s.saf.n - 1) % s.oppStrobes 0 = 1 * (s.oppStrobes 0 / 2) + 0 * (s.oppStrobes 0 / 4)) ∧
    (safUp.safRuns = true ∧ 8 ∉ safUp.saf.internal) ∧
    (let s : State := safUp.setSaf { safUp.saf with differ := 1 };
      s.safRuns = true ∧ 1 ≤ s.saf.differ ∧ s.safeOn 0 = true) ∧
    (safUp.responds 0x1D001C = true) ∧
    (safSession.responds 0x1D0018 = true ∧ safSession.role = 3 ∧ safSession.sessionLive ∧ safSession.aud.queue.length < 32 ∧ safUp.role ≠ 2 ∧ safUp.role ≠ 3 ∧ safUp.sessionLive) ∧
    (safUp.responds 0x1D01C8 = true) := by
  refine ⟨?_, ?_, ?_, ?_, ?_, ?_, ?_, ?_, ?_, ?_, ?_⟩ <;> decide +kernel

/-- A state and operands that meet the hypotheses of each clause of `Obligations.SnufferFrames`, and what the command does there. -/
theorem test_meets_SnufferFrames :
    (let s : State := snufProd.put Reg.SAF_CFG_CONN_MEDIUM 1 2;
      s.safRuns = true ∧ s.saf.conn.length = 8 ∧ s.get Reg.SAF_CFG_CONN_EN 2 = 1 ∧ s.get Reg.SAF_CFG_CONN_DIR 2 = 1 ∧ s.get Reg.SAF_CFG_CONN_MEDIUM 2 = 1) ∧
    (snufProd.safRuns = true ∧ snufProd.get Reg.SAF_CFG_CONN_EN 2 = 1 ∧ snufProd.get Reg.SAF_CFG_CONN_DIR 2 = 1) ∧
    (snufUp.safRuns = true ∧ snufUp.saf.conn.length = 8 ∧ snufUp.get Reg.SAF_CFG_CONN_EN 2 = 1 ∧ snufUp.get Reg.SAF_CFG_CONN_PORT 2 = 1 ∧ ((List.range 8).all fun e => e == 2 || snufUp.get Reg.SAF_CFG_CONN_EN e == 0) = true ∧ (snufUp.safConn 2).seq = some 65535) ∧
    (snufUp.safRuns = true ∧ snufUp.saf.conn.length = 8 ∧ snufUp.get Reg.SAF_CFG_CONN_EN 2 = 1 ∧ snufUp.get Reg.SAF_CFG_CONN_PORT 2 = 1 ∧ ((List.range 8).all fun e => e == 2 || snufUp.get Reg.SAF_CFG_CONN_EN e == 0) = true ∧ (snufUp.safConn 2).seq = some 65535) ∧
    (let s : State := snufUp.setSafConn 2 {};
      s.safRuns = true ∧ s.saf.conn.length = 8 ∧ ((List.range 8).all fun e => e == 2 || s.get Reg.SAF_CFG_CONN_EN e == 0) = true ∧ (s.safConn 2).seq = none ∧ s.get Reg.SAF_CFG_CONN_PORT 2 = 1) ∧
    (snufUp.safRuns = true ∧ snufUp.saf.conn.length = 8 ∧ snufUp.get Reg.SAF_CFG_CONN_EN 2 = 1 ∧ snufUp.get Reg.SAF_CFG_CONN_DIR 2 = 0 ∧ (snufUp.safConn 2).valid = true) ∧
    (snufUp.responds 0x1D018C = true ∧ ((List.range 8).all fun e => snufUp.get Reg.SAF_CFG_CONN_EN e == 0 || snufUp.get Reg.SAF_CFG_CONN_MEDIUM e == 0) = true) ∧
    (let f := snufferFrame 0x1234 7 100 3 0;
      let s : State := ((((snufUp.put Reg.SAF_CFG_CONN_MEDIUM 1 2).setSafConn 2 {}).put Reg.SAF_SNF_RX_BYTES (leNum (f.take 4)) 0).put Reg.SAF_SNF_RX_BYTES (leNum ((f.drop 4).take 4)) 1).put Reg.SAF_SNF_RX_BYTES (leNum ((f.drop 8).take 4)) 2;
      f = snufferFrame (s.get Reg.SAF_CFG_CONN_ID_ID 2) 7 (s.get Reg.SAF_CFG_CONN_WDT 2) 3 0 ∧ (s.safConn 2).seq = none ∧ s.responds 0x1D018C = true ∧ s.get Reg.SAF_SNF_RX_BYTES 2 = leNum ((f.drop 8).take 4)) := by
  refine ⟨?_, ?_, ?_, ?_, ?_, ?_, ?_, ?_⟩ <;> decide +kernel

/-- A state and operands that meet the hypotheses of each clause of `Obligations.SafetyCommissioning`, and what the command does there. -/
theorem test_meets_SafetyCommissioning :
    (safUp.responds 0x1D0168 = true ∧ safUp.sessionLive ∧ safUp.role ≠ 3) ∧
    (safSession.responds 0x1D0168 = true ∧ safSession.role = 3 ∧ safSession.sessionLive ∧ safSession.safConsistent = true ∧ safSession.store.safGen ≠ 0 ∧ safSession.aud.queue.length < 32) := by
  refine ⟨?_, ?_⟩ <;> decide +kernel

/-- A state and operands that meet the hypotheses of each clause of `Obligations.PortTraining`, and what the command does there. -/
theorem test_meets_PortTraining :
    (lnkSet.responds (0x1E0100 + 0x40 * 1) = true ∧ (0x741 : Nat).testBit 0 = true ∧ lnkSet.lnk.port.length = 8 ∧ ((List.range 8).all fun q => !lnkSet.flag Reg.LNK_Pp_CFG_EN q) = true ∧ lnkSet.store.idSet = true ∧
      bits 0x741 1 5 + 2 ^ bits 0x741 6 2 + bits 0x741 8 1 ≤ 18 ∧ 18 < bits 0x7E1 1 5 + 2 ^ bits 0x7E1 6 2 + bits 0x7E1 8 1) ∧
    (lnkBeacon.responds (0x1E0100 + 0x40 * 3) = true ∧ bits 1 1 5 + 2 ^ bits 1 6 2 + bits 1 8 1 ≤ 18 ∧ lnkBeacon.flag Reg.LNK_Pp_CFG_EN 3 = false ∧ lnkBeacon.flag Reg.LNK_Pp_CFG_EN 1 = true ∧
      lnkBeacon.get Reg.LNK_Pp_CFG_LANE0 1 = bits 1 1 5) ∧
    (lnkUp.responds (0x1E0100 + 0x40 * 1) = true ∧ lnkUp.flag Reg.LNK_Pp_CFG_EN 1 = true ∧ lnkUp.lupLow 1 = true ∧ lnkBeacon.lupLow 1 = false) ∧
    (lnkBeacon.lnk.port.length = 8 ∧ lnkBeacon.lstate 1 = 1 ∧ lnkBeacon.moduleId < 2 ^ 12 ∧ lnkUp.lstate 1 ≠ 1) ∧
    (lnkBeacon.lstate 1 = 1 ∧ bits (2 ^ 56) 56 8 = 1 ∧ bits (9 * 2 ^ 52 + 2 ^ 46 + 2 ^ 45 + 14 * 2 ^ 19) 46 2 = lnkBeacon.get Reg.LNK_Pp_CFG_WIDTH 1 ∧ bits (9 * 2 ^ 52 + 2 ^ 46 + 2 ^ 45 + 14 * 2 ^ 19) 19 4 = min 20 (max 12 (lnkBeacon.get Reg.LNK_CTRL_TINT)) % 16 ∧ lnkBeacon.moduleId = 5) ∧
    (lnkUp.lstate 1 ≠ 2) ∧
    (let s : State := lnkTrain.setLport 1 {};
      s.lstate 1 = 2 ∧ 0 ∈ s.lidxs 1 ∧ s.staysOut 7 (s.rxLane 1 0) = false ∧ (s.lport 1).deskewed = false) ∧
    (lnkTrain.lstate 1 = 2 ∧ 0 ∈ lnkTrain.lidxs 1 ∧ lnkTrain.staysOut 7 (lnkTrain.rxLane 1 0) = false ∧ ((lnkTrain.lidxs 1).all fun i => i == 0 || ((lnkTrain.lport 1).rxDone.contains i && (lnkTrain.lport 1).txDone.contains i)) = true) ∧
    ((lnkTrain.setLport 1 {}).lstate 1 = 2 ∧ 2 ≤ ((lnkTrain.setLport 1 {}).undone 1).length) ∧
    (lnkTrain.lstate 1 = 2 ∧ (lnkTrain.lport 1).heard = false) := by
  refine ⟨?_, ?_, ?_, ?_, ?_, ?_, ?_, ?_, ?_, ?_⟩ <;> decide +kernel

/-- A state and operands that meet the hypotheses of each clause of `Obligations.LaneHealth`, and what the command does there. -/
theorem test_meets_LaneHealth :
    (bits (0x5AC396 * 2 ^ 40 + 0xFF) 40 24 = 0x5AC396 ∧ lnkUp.portOfLane 7 = none ∧ lnkUp.lnk.lane.length = 18) ∧
    (let s : State := (lnkUp.put Reg.LNK_LANE_STATUS_ALIGNED 1 0 7).setLlane 7 { bad := 3 };
      bits 5 40 24 ≠ 0x5AC396 ∧ s.portOfLane 7 = none ∧ s.flag Reg.LNK_LANE_STATUS_ALIGNED 0 7 = true) ∧
    (lnkUp.portOfLane 1 = some 1 ∧ lnkUp.lstate 1 = 3 ∧ lnkUp.get Reg.LNK_LANE_STATUS_USE 0 1 = 1 ∧ lnkUp.lspare 1 = true ∧ lnkUp.get Reg.LNK_LANE_STATUS_USE 0 (lnkUp.rxLane 1 15) = 2) ∧
    (let s : State := lnkUp.setLport 1 { switching := some { lidx := 1, sent := 2, last := 100 } };
      (s.lport 1).switching.isSome = true ∧ s.lupLow 1 = true) ∧
    ((lnkUp.lport 1).switching = none) ∧
    (lnkUp.lspare 1 = true ∧ 1 < lnkUp.lwidth 1 ∧ lnkUp.lupLow 1 = true ∧ (lnkUp.lport 1).deaf = false ∧ PortIdle lnkUp 1 ∧ (ctrlFrame 2 1).good (mkTr (ctrlFrame 2 1) 0 0 false false 0) = true) ∧
    (let s : State := lnkUp.setLport 1 { attached := true, switching := some { lidx := 1, sent := 2, last := 100 } };
      s.lup 1 = true ∧ 1 < s.lwidth 1 ∧ (s.lport 1).switching.isSome = true ∧ (s.lport 1).deaf = false ∧ PortIdle s 1 ∧ (ctrlFrame 3 1).good (mkTr (ctrlFrame 3 1) 0 0 false false 0) = true) ∧
    (let s : State := (lnkUp.put Reg.LNK_LANE_STATUS_LOS 1 0 0).put Reg.LNK_LANE_STATUS_LOS 1 0 1;
      s.lnk.port.length = 8 ∧ s.lupLow 1 = true ∧ ((s.lanesOf 1).filter fun l => s.get Reg.LNK_LANE_STATUS_USE 0 l == 1 || (s.get Reg.LNK_LANE_STATUS_USE 0 l == 3 && (s.lport 1).rxMoved.isNone)) = [0, 1] ∧
      s.flag Reg.LNK_LANE_STATUS_LOS 0 0 = true ∧ s.flag Reg.LNK_LANE_STATUS_LOS 0 1 = true) ∧
    (bitsWord (wordBits 0x8000000000000001) = 0x8000000000000001) ∧
    ((stuff true 23 [true, false]).2 = [true, false, false]) ∧
    ((0 : Nat) < 2 ∧ (2 : Nat) < [5, 6, 7].length) := by
  refine ⟨?_, ?_, ?_, ?_, ?_, ?_, ?_, ?_, ?_, ?_, ?_⟩ <;> decide +kernel

/-- A state and operands that meet the hypotheses of each clause of `Obligations.LinkFrames`, and what the command does there. -/
theorem test_meets_LinkFrames :
    (lnkBeacon.lupLow 1 = false ∧ (lnkUp.setLport 1 { deaf := true }).lupLow 1 = true) ∧
    (lnkUp.lupLow 1 = true ∧ lnkUp.lnk.port.length = 8 ∧ (lnkUp.lport 1).deaf = false ∧ (ctrlFrame 1 0).good ⟨0, 0, false, false, 0, 0, 0, 0⟩ = false ∧ ({ ty := 1, seq := 0, tspec := 0, body := [1] } : LFrame).good ⟨0, 0, false, false, 0, 0, 0, 0⟩ = false) ∧
    (lnkOut.lupLow 1 = true ∧ (lnkOut.lport 1).bulk.wait = [] ∧ ((lnkOut.lport 1).bulk.kept.any fun f => f.frame.seq == 3) = true ∧ (ctrlFrame 1 0).good (mkTr (ctrlFrame 1 0) 3 0 false false 0) = true ∧ (ctrlFrame 1 0).good (mkTr (ctrlFrame 1 0) 9 0 true false 0) = true) ∧
    (lnkOut.lupLow 1 = true ∧ (lnkOut.lport 1).bulk.kept ≠ [] ∧ ((lnkOut.lport 1).bulk.kept.any fun f => f.frame.seq == 9) = false ∧ ((lnkOut.lport 1).bulk.kept.all fun f => decide (f.sends < 8)) = true) ∧
    (lnkUp.lupLow 1 = true ∧ (lnkUp.lport 1).deaf = false ∧ PortIdle lnkUp 1 ∧ lnkUp.lnk.port.length = 8 ∧ lnkUp.topo.ingress.getD 1 none = none ∧ (let seq : Nat := 0; let tspec : Nat := 2 ^ 17; let body : List Nat := [7]; ({ ty := 1, seq := seq, tspec := tspec, body := body } : LFrame).good (mkTr ({ ty := 1, seq := seq, tspec := tspec, body := body } : LFrame) 0 0 false false 0) = true)) ∧
    (lnkUp.lupLow 1 = true ∧ (lnkUp.lport 1).deaf = false ∧ PortIdle lnkUp 1 ∧ lnkUp.lnk.port.length = 8 ∧ (let seq : Nat := 0; let body : List Nat := [7]; ({ ty := 4, seq := seq, body := body } : LFrame).good (mkTr ({ ty := 4, seq := seq, body := body } : LFrame) 0 0 false false 0) = true)) ∧
    (lnkOut.lupLow 1 = true ∧ (lnkOut.lport 1).bulk.kept ≠ [] ∧ (lnkUp.lport 1).pri.kept = []) ∧
    (lnkOut.lupLow 1 = true ∧ lnkOut.outstanding 1 = true ∧ lnkUp.outstanding 1 = false) ∧
    (lnkOut.responds (0x1E0128 + 0x40 * 1) = true ∧ lnkOut.lupLow 1 = true ∧ lnkBeacon.lupLow 1 = false) ∧
    (lnkUp.lupLow 1 = true ∧ (lnkUp.lport 1).deaf = false ∧ PortIdle lnkUp 1 ∧ lnkUp.lnk.port.length = 8 ∧ ((ctrlFrame 6 0 : LFrame).good (mkTr (ctrlFrame 6 0 : LFrame) 0 0 false false 0) = true)) ∧
    (lnkUp.responds 0x1E005C = true) := by
  refine ⟨?_, ?_, ?_, ?_, ?_, ?_, ?_, ?_, ?_, ?_, ?_⟩ <;> decide +kernel

/-- A state and operands that meet the hypotheses of each clause of `Obligations.LinkRoutingAndTime`, and what the command does there. -/
theorem test_meets_LinkRoutingAndTime :
    (let s : State := { lnkUp with topo := { lnkUp.topo with ingress := List.replicate 8 (some 0) } };
      s.lupLow 1 = true ∧ PortIdle s 1 ∧ (s.topo.ingress.getD 1 none).isSome = true ∧ ((List.range 64).all fun i => (s.pair i).isNone) = true ∧ s.lnk.pairs.length = 64 ∧ (let seq : Nat := 0; let tspec : Nat := 2 ^ 17; let w0 : Nat := 9 * 2 ^ 46; let l : List Nat := [8]; ({ ty := 1, seq := seq, tspec := tspec, body := (w0 :: l) } : LFrame).good (mkTr ({ ty := 1, seq := seq, tspec := tspec, body := (w0 :: l) } : LFrame) 0 0 false false 0) = true)) ∧
    (let s : State := (lnkUp.put Reg.LNK_ROUTE_PORTS 0xFFFFFFF2 1).put Reg.LNK_Pp_STATUS_STATE 3 2;
      s.lupLow 1 = true ∧ PortIdle s 1 ∧ bits (8 * 2 ^ 18) 18 12 ≠ s.moduleId ∧ s.lupLow 2 = true ∧ bits (s.get Reg.LNK_ROUTE_PORTS (8 / 8)) (4 * (8 % 8)) 4 = 2 ∧ (s.lport 2).credit = 0 ∧ (let seq : Nat := 0; let tspec : Nat := 2 ^ 17; let body : List Nat := [7]; ({ ty := 1, seq := seq, tspec := tspec, body := body } : LFrame).good (mkTr ({ ty := 1, seq := seq, tspec := tspec, body := body } : LFrame) 0 0 false false 0) = true)) ∧
    (let f : LFrame := { ty := 1, body := [4 * 2 ^ 36, 77] };
      let s : State := lnkUp.setPair 3 (some { origin := 9, h := false, stream := 0, port := 1, next := 4, held := [(4, 1, f)], waitFrom := some 50 });
      s.lnk.pairs.length = 64 ∧ (s.pair 3).isSome = true ∧ f.dseq = 4 ∧ f.payload ≠ []) ∧
    (let f : LFrame := { ty := 1, body := [6 * 2 ^ 36, 77] };
      let s : State := lnkUp.setPair 3 (some { origin := 9, h := false, stream := 0, port := 1, next := 4, held := [(6, 0, f)], waitFrom := some 50 });
      (s.pair 3).isSome = true ∧ f.dseq = 6 ∧ (6 + 65536 - 4) % 65536 < 32768) ∧
    (lnkUp.pair 3 = none) ∧
    (let s : State := lnkUp.setPair 3 (some { origin := 9, h := false, stream := 0, port := 1, next := 4 });
      (s.pair 3).isSome = true ∧ s.lnk.pairs.length = 64) ∧
    (let f : LFrame := { ty := 1, body := [4 * 2 ^ 36, 77] };
      let s : State := lnkUp.setPair 3 (some { origin := 9, h := false, stream := 0, port := 1, next := 4, active := 1, ports := [some 1, some 2], whole := some (5, 100), held := [(4, 0, f)] });
      (s.pair 3).isSome = true ∧ s.lupLow 1 = true ∧ f.dseq = 4) ∧
    (lnkUp.lupLow 1 = true ∧ (lnkUp.lport 1).deaf = false ∧ PortIdle lnkUp 1 ∧ lnkUp.lnk.port.length = 8 ∧ (let seq : Nat := 0; let w0 : Nat := 9 * 2 ^ 46; let w1 : Nat := 32; let w2 : Nat := 1; ({ ty := 2, seq := seq, body := [w0, w1, w2] } : LFrame).good (mkTr ({ ty := 2, seq := seq, body := [w0, w1, w2] } : LFrame) 0 0 false false 0) = true)) ∧
    (let s : State := { lnkUp with lnk := { lnkUp.lnk with seen := [(9, 8)] } };
      s.lupLow 1 = true ∧ PortIdle s 1 ∧ s.moduleId = 5 ∧ s.lnk.seen.get 0 9 = 7 + 1 ∧ (7 + 65536 - 7) % 65536 = 0 ∧ (let seq : Nat := 0; let w0 : Nat := 9 * 2 ^ 46; let w1 : Nat := 32; let w2 : Nat := 1; ({ ty := 2, seq := seq, body := [w0, w1, w2] } : LFrame).good (mkTr ({ ty := 2, seq := seq, body := [w0, w1, w2] } : LFrame) 0 0 false false 0) = true)) ∧
    (let s : State := lnkUp.put Reg.LNK_Pp_STATUS_STATE 3 4;
      s.lupLow 1 = true ∧ PortIdle s 1 ∧ PortIdle s 4 ∧ s.lup 4 = true ∧ s.etValid = false ∧ s.moduleId = 5 ∧ bits (9 * 2 ^ 46) 46 12 = 9 ∧ s.lnk.seen.get 0 9 = 0 ∧ (let seq : Nat := 0; let w0 : Nat := 9 * 2 ^ 46; let w1 : Nat := 32; let w2 : Nat := 1; ({ ty := 2, seq := seq, body := [w0, w1, w2] } : LFrame).good (mkTr ({ ty := 2, seq := seq, body := [w0, w1, w2] } : LFrame) 0 0 false false 0) = true)) ∧
    (let s : State := lnkUp.put Reg.TIM_STATUS_ET_VALID 1;
      s.lupLow 1 = true ∧ PortIdle s 1 ∧ s.etValid = true ∧ s.moduleId = 5 ∧ bits (2 ^ 62 + 9 * 2 ^ 46) 46 12 = 9 ∧ s.lnk.seen.get 0 9 = 0 ∧ (let seq : Nat := 0; let w0 : Nat := 9 * 2 ^ 46; let w1 : Nat := 32; let w2 : Nat := 1; ({ ty := 2, seq := seq, body := [w0, w1, w2] } : LFrame).good (mkTr ({ ty := 2, seq := seq, body := [w0, w1, w2] } : LFrame) 0 0 false false 0) = true)) ∧
    (lnkUp.lupLow 1 = true ∧ (lnkUp.lport 1).tseq < 2 ^ 16 ∧ lnkBeacon.lupLow 1 = false) ∧
    (let s : State := lnkUp.setLport 1 { attached := true, stamps := [(100, 65536 * 1000)] };
      s.lupLow 1 = true ∧ PortIdle s 1 ∧ (s.lport 1).delays = [] ∧ ((s.lport 1).stamps.find? fun e => e.1 == bits (100 * 2 ^ 48) 48 16).isSome = true ∧ (let w0 : Nat := 9 * 2 ^ 46; let w1 : Nat := 32; let w2 : Nat := 1; let w3 : Nat := 2; ({ ty := 3, body := [w0, w1, w2, w3] } : LFrame).good (mkTr ({ ty := 3, body := [w0, w1, w2, w3] } : LFrame) 0 0 false false 0) = true)) ∧
    (let s : State := lnkUp.setLport 1 { attached := true, delays := [5] };
      s.lupLow 1 = true ∧ PortIdle s 1 ∧ (s.lport 1).delays ≠ [] ∧ s.get Reg.TIM_STATUS_SESSION = 0 ∧ Nat.testBit 32 5 = true ∧ (let w0 : Nat := 9 * 2 ^ 46; let w1 : Nat := 32; let w2 : Nat := 1; let w3 : Nat := 2; ({ ty := 3, body := [w0, w1, w2, w3] } : LFrame).good (mkTr ({ ty := 3, body := [w0, w1, w2, w3] } : LFrame) 0 0 false false 0) = true)) ∧
    (lnkUp.lupLow 1 = true ∧ lnkUp.get Reg.TIM_STATUS_SESSION = 0) ∧
    (let s : State := (lnkUp.put Reg.LNK_Pp_CFG_LP_EN 1 1).put Reg.LNK_Pp_PARTNER_CAPS 8 1;
      s.lup 1 = true ∧ s.flag Reg.LNK_Pp_CFG_LP_EN 1 = true ∧ (s.get Reg.LNK_Pp_PARTNER_CAPS 1).testBit 3 = true ∧ lnkUp.flag Reg.LNK_Pp_CFG_LP_EN 1 = false) ∧
    (lnkUp.lupLow 1 = true ∧ (lnkUp.lport 1).deaf = false ∧ PortIdle lnkUp 1 ∧ lnkUp.lnk.port.length = 8 ∧ lnkUp.lup 1 = true ∧ (lnkUp.put Reg.LNK_Pp_CFG_LP_EN 1 1).flag Reg.LNK_Pp_CFG_LP_EN 1 = true ∧ (ctrlFrame 5 0).good (mkTr (ctrlFrame 5 0) 0 0 false false 0) = true) ∧
    (lnkUp.lupLow 1 = true ∧ (lnkUp.lport 1).deaf = false ∧ PortIdle lnkUp 1 ∧ lnkUp.lnk.port.length = 8 ∧ lnkUp.lup 1 = true ∧ (lnkUp.put Reg.LNK_Pp_STATUS_STATE 4 1).lstate 1 = 4 ∧ (ctrlFrame 4 0).good (mkTr (ctrlFrame 4 0) 0 0 false false 0) = true) ∧
    (let s : State := (lnkUp.put Reg.LNK_Pp_STATUS_STATE 4 1).setLport 1 { waking := true };
      s.lstate 1 = 4 ∧ (s.lport 1).waking = true ∧ lnkUp.lstate 1 ≠ 4) := by
  refine ⟨?_, ?_, ?_, ?_, ?_, ?_, ?_, ?_, ?_, ?_, ?_, ?_, ?_, ?_, ?_, ?_, ?_, ?_, ?_⟩ <;> decide +kernel

/-- A state and operands that meet the hypotheses of each clause of `Obligations.HostFunction`, and what the command does there. -/
theorem test_meets_HostFunction :
    (hstUp.hst.link = true ∧ hstUp.get Reg.HST_Dq_STATUS_STATE 5 = 1) ∧
    (up.pcieUp = true) ∧
    (hstUp.hst.link = true ∧ hstUp.flt.under = none ∧ State.reset.hst.link = false) ∧
    (let s : State := { up with hst := {} };
      s.sys.phase = .running ∧ ({ s with hst := { s.hst with link := true } } : State).pcieUp = true ∧ s.hst.link = false) ∧
    (let s : State := (hstUp.put Reg.MEM_STATUS_SIZE 1).writeBytes 64 [1, 2, 3, 4, 5, 6, 7, 8] false;
      s.bar4Up = true ∧ s.get Reg.HST_BAR4_BASE_BASE * 16777216 + 64 + 8 ≤ s.memCap ∧ s.ram.err = [] ∧ memGet s.mem 65 = 2) ∧
    (let s : State := hstUp.put Reg.MEM_STATUS_SIZE 1;
      s.bar4Up = true ∧ s.get Reg.HST_BAR4_BASE_BASE * 16777216 + 64 + 8 ≤ s.memCap ∧ s.frm.burst.tmpl = none ∧ s.get Reg.TRG_CTRL_RING_EN = 0) ∧
    (hstUp.responds 0x1F0078 = true) := by
  refine ⟨?_, ?_, ?_, ?_, ?_, ?_, ?_⟩ <;> decide +kernel

/-- A state and operands that meet the hypotheses of each clause of `Obligations.HostQueues`, and what the command does there. -/
theorem test_meets_HostQueues :
    (up.responds (0x1F0100 + 0x40 * 5) = true ∧ up.get Reg.HST_Dq_CTRL_EN 5 = 0 ∧ up.hst.dq.length = 64 ∧ bits 0x141 4 4 = 4 ∧ bits 0xD1 4 4 = 13 ∧ up.get Reg.HST_Dq_DRING_ADDR 5 % 64 = 0) ∧
    (let s : State := (h2dUp.put Reg.HST_Hh_CTRL_EN 0 2).put Reg.HST_Hh_STATUS_STATE 0 2;
      s.responds (0x1F1100 + 0x40 * 2) = true ∧ s.sys.phase = .running ∧ 4 ≤ bits 0x141 4 4 ∧ s.get Reg.HST_Hh_DRING_ADDR 2 % 64 = 0 ∧ (s.topo.role.getD 2 (3, 0, false)).1 = 2 ∧ (s.topo.role.getD 3 (3, 0, false)).1 = 3) ∧
    (hstUp.responds (0x1F0100 + 0x40 * 5) = true ∧ hstUp.hst.buf.length = 64 ∧ hstUp.get Reg.HST_Dq_CTRL_EN 5 = 1 ∧ hstUp.get Reg.HST_Dq_STATUS_STATE 5 = 1 ∧ hstUp.hst.buf.getD 5 none = none) ∧
    (let s : State := hstDesc.put Reg.HST_Dq_STATUS_STATE 2 5;
      s.get Reg.HST_Dq_STATUS_STATE 5 = 2 ∧ s.qposted false 5 = 1) ∧
    (hstUp.pcieUp = true ∧ hstUp.get Reg.HST_Dq_STATUS_STATE 5 = 1 ∧ idxDiff (hstUp.ring false 5).cpl (hstUp.get Reg.HST_Dq_DB_CPL_HEAD 5) ≤ 2 ^ hstUp.get Reg.HST_Dq_CTRL_LOG2SZ 5) ∧
    ((hstUp.ring false 5).cpl < 2 ^ 16 ∧ hstUp.pcieUp = true ∧ hstUp.get Reg.HST_Dq_STATUS_STATE 5 = 1) ∧
    (let s : State := hstDesc.setQRing false 5 { fetch := 1 };
      s.qposted false 5 = 1 ∧ s.get Reg.HST_Dq_STATUS_STATE 5 = 1 ∧ s.get Reg.HST_Dq_CTRL_FMT 5 = 0 ∧ (s.ring false 5).descs = []) ∧
    (hstDesc.get Reg.HST_Dq_PROG_MS 5 ≠ 0 ∧ hstDesc.qwork false 5 = true ∧ hstUp.qwork false 5 = false) ∧
    (let s : State := (hstUp.setQRing false 5 { cpl := 3, pend := [4, 5, 6] }).put Reg.HST_Dq_MOD_TIMER 7 5;
      (s.ring false 5).armed = true ∧ s.get Reg.HST_Dq_CTRL_CPLINT_EN 5 = 1 ∧ max 1 (s.get Reg.HST_Dq_MOD_CNT 5) ≤ idxDiff (s.ring false 5).cpl (s.get Reg.HST_Dq_DB_CPL_HEAD 5) ∧ s.hst.pba = [] ∧ (s.ring false 5).pend ≠ []) ∧
    (let s : State := (up.put Reg.HST_INT_QERR 1).put Reg.HST_INT_EN_EN 1;
      s.responds 0x1F0060 = true ∧ s.irqTrue 84 = true ∧ up.irqTrue 84 = false) := by
  refine ⟨?_, ?_, ?_, ?_, ?_, ?_, ?_, ?_, ?_, ?_⟩ <;> decide +kernel

/-- A state and operands that meet the hypotheses of each clause of `Obligations.HostTransfers`, and what the command does there. -/
theorem test_meets_HostTransfers :
    (up.get Reg.HST_Dq_STATUS_STATE 5 ≠ 1) ∧
    (let s : State := { hstDesc with topo := { hstDesc.topo with sink := hstSinks, cmpOut := [], role := [], ingress := [] } }.setStrm 5 { fifo := { pkts := [{ ty := 1, words := [(9, false)] }] } };
      s.hst.dq.length = 64 ∧ s.hst.buf.length = 64 ∧ s.get Reg.HST_Dq_STATUS_STATE 5 = 1 ∧ s.hst.buf.getD 5 none = none ∧ (s.ring false 5).descs.length = 1) ∧
    (hstBuf.hst.buf.getD 5 none ≠ none ∧ hstBuf.get Reg.HST_Dq_STATUS_STATE 5 = 1 ∧ hstBuf.get Reg.HST_Dq_CLOSE_TIME 5 ≠ 0 ∧ (hstBuf.ring false 5).descs = []) ∧
    (h2dUp.hst.hq.length = 8 ∧ h2dUp.hst.cur.length = 8 ∧ h2dUp.get Reg.HST_Hh_STATUS_STATE 2 = 1 ∧ h2dUp.hframe 2 = none ∧ (h2dUp.ring true 2).descs.length = 1 ∧ h2dUp.topo.role.getD 2 (3, 0, false) = (2, 1, false)) ∧
    (let s : State := (h2dUp.put Reg.TIM_STATUS_ET_VALID 1).setHframe 2 (some { desc := { idx := 3, addr := 0, len := 8, tag := 0, launch := some (0, 4000) }, data := [1, 2, 3, 4, 5, 6, 7, 8] });
      s.etValid = true ∧ s.et ≤ 4000 ∧ (s.hframe 2).isSome = true ∧ s.dec 2 = none ∧ s.hst.cur.length = 8 ∧ s.topo.role.getD 2 (3, 0, false) = (2, 1, false)) ∧
    (let s : State := h2dUp.setHframe 2 (some { desc := { idx := 3, addr := 0, len := 12, tag := 9 }, data := [], status := some 4 });
      s.hst.hq.length = 8 ∧ s.hst.cur.length = 8 ∧ s.get Reg.HST_Hh_STATUS_STATE 2 = 1 ∧ (s.hframe 2).isSome = true) ∧
    (h2dUp.dec 2 = none) ∧
    (let s : State := h2dUp.setDec 2 (some { left := [5, 6] });
      (s.dec 2).isSome = true) ∧
    (let s : State := (h2dUp.setHframe 2 (some { desc := { idx := 3, addr := 0, len := 12, tag := 9 }, data := [] })).setDec 2 (some { left := (expandedBlock 7 false 3 [(5, true)]).map (·.1) ++ [9], bseq := some 3 });
      (s.hframe 2).isSome = true ∧ (s.dec 2).isSome = true ∧ (codedBlock 7 false 3 [(1, 1)] (List.replicate 24 0x0101010101010101)).isSome = true) ∧
    (let s : State := ({ hstUp with topo := { hstUp.topo with sink := hstSinks, cmpOut := [], role := [], ingress := [] } } : State).setStrm 5 { ovr := some (40, 90, 300) };
      s.topo.sink = hstSinks ∧ (s.strm 5).fifo.pkts = [] ∧ (s.strm 5).ovr = some (40, 90, 300)) := by
  refine ⟨?_, ?_, ?_, ?_, ?_, ?_, ?_, ?_, ?_, ?_⟩ <;> decide +kernel

/-- A state and operands that meet the hypotheses of each clause of `Obligations.CompressionRoundTrip`, and what the command does there. -/
theorem test_meets_CompressionRoundTrip :
    ((codedBlock 7 false 3 [(1, 1)] (List.replicate 24 0x0101010101010101)).isSome = true ∧ dictLegal [(1, 1)]) ∧
    (([(3, true)] : List (Nat × Bool)) ≠ []) ∧
    (dictLegal [(1, 1), (256, 7)]) := by
  refine ⟨?_, ?_, ?_⟩ <;> decide +kernel

/-- A state and operands that meet the hypotheses of each clause of `Obligations.CompressionBlocks`, and what the command does there. -/
theorem test_meets_CompressionBlocks :
    (cmpUp.streamOfCtx 8 = none ∧ (cmpUp.cctx 7).opn = [] ∧ cmpUp.get Reg.CMP_CTX_CFG_FLUSH 0 7 = 100 ∧ cmpUp.dtRef < (cmpUp.cctx 7).since + 25000) ∧
    (let s : State := cmpIn.setCctx 7 { opn := [(1, false)] };
      s.streamOfCtx 7 = some 30 ∧ s.cmpFull 1 = false ∧ s.engineOf 7 = 1 ∧ s.blockWords 7 = 8192 ∧ s.dtRef < (s.cctx 7).since + 250 * s.get Reg.CMP_CTX_CFG_FLUSH 0 7) ∧
    (cmpSwap.streamOfCtx 7 = some 30 ∧ cmpSwap.resident 1 = [10, 20, 30, 40] ∧ (cmpSwap.cctx 40).dict = [(4, 5), (256, 6)] ∧ (cmpSwap.cctx 7).opn = []) ∧
    ((cmpOpen.cctx 7).opn.length = 24 ∧ (cmpBad.cctx 7).opn.length = 2 ∧ (cmpOpen.cctx 7).cmd = 0 ∧ cmpOpen.get Reg.CMP_CTX_CFG_FLUSH 0 7 = 100 ∧ (cmpOpen.topo.cmpOut.getD 7 (0, 0)).1 = 1) ∧
    (let s : State := (cmpUp.setCctx 7 { opn := [(1, false), (2, false)] }).setStrm 30 { fifo := { pkts := [{ ty := 1, words := [(5, false)], ctxEnd := true }] } };
      s.streamOfCtx 7 = some 30 ∧ (s.cctx 7).cmd = 0 ∧ s.cmpFull 1 = false ∧ s.dtRef < (s.cctx 7).since + 250 * s.get Reg.CMP_CTX_CFG_FLUSH 0 7) ∧
    (cmpOpen.responds 0x200048 = true ∧ ((cmpOpen.put Reg.CMP_CTX_SEL_CTX 7).cctx 7).opn ≠ [] ∧ (cmpOpen.cctx 0).opn = []) ∧
    (cmpUp.responds 0x200048 = true ∧ (cmpUp.cctx 0).opn = [] ∧ (cmpUp.cctx 0).spilled = false) ∧
    (let s : State := cmpMem.put Reg.CMP_CTX_SEL_CTX 7;
      s.responds 0x200048 = true ∧ s.ram.err = [] ∧ (s.cctx 7).opn = [] ∧ s.ram.valid.get false (5 * 2048 + 32 * 7 + 31) = true) ∧
    (up.responds 0x200038 = true) := by
  refine ⟨?_, ?_, ?_, ?_, ?_, ?_, ?_, ?_, ?_⟩ <;> decide +kernel

/-- A state and operands that meet the hypotheses of each clause of `Obligations.BufferMemory`, and what the command does there. -/
theorem test_meets_BufferMemory :
    ((3 : Nat) < 71) ∧
    (memOne.memCap = 536870912 ∧ memOne.ram.valid.get false (4096 / 512) = true ∧ memOne.ram.valid.get false 0 = false ∧ memOne.ram.err = [] ∧ memOne.ram.stuck = [] ∧ memOne.ram.copies = []) ∧
    (memOne.ram.valid.get false (4096 / 512) = true ∧ memOne.ram.stuck = [] ∧ (memOne.ram.trk.all fun x => x.isNone) = true ∧ memOne.ram.copies = [] ∧ memOne.store.remap = []) ∧
    (memSeven.ram.valid.get false (4096 / 512) = true ∧ memSeven.ram.stuck = [] ∧ memSeven.memCap = 536870912 ∧ memSeven.store.remap.length < 256 ∧ memSeven.ram.copies = [] ∧ memSeven.store.remap = []) ∧
    (memOne.ram.valid.get false (4096 / 512) = true ∧ memOne.ram.err = [] ∧ memOne.memCap = 536870912 ∧ memOne.ram.copies = [] ∧ memOne.store.remap = []) ∧
    (let s : State := { memOne with store := { memOne.store with remap := [(0, 0)] } };
      s.ram.valid.get false (4096 / 512) = true ∧ s.memRow 4096 = (0, 0) ∧ s.ram.copies = [] ∧ s.ram.err = [] ∧ memUp.ram.valid = [] ∧ memUp.covered 4096 = true ∧ 4096 < memUp.memCap) ∧
    (let s : State := { memOne with ram := { memOne.ram with copies := [(0, 0)] } };
      s.memRow (8 * 512) = (0, 0) ∧ s.ram.err = [] ∧ s.ram.stuck = [] ∧ s.ram.valid.get false (4096 / 512) = true) ∧
    (memOne.ram.copies = []) ∧
    (let s : State := { memOne with ram := { memOne.ram with copies := [(0, 0)], err := [(512, 8)] } };
      s.memRow 4096 = (0, 0) ∧ s.ram.err.get 0 512 = 2 ^ 3 ∧ s.store.remap.length < 256) ∧
    (memOne.ram.stuck = [] ∧ memOne.ram.copies = [] ∧ Memory.wf memOne.mem ∧ 4096 + 8 ≤ memOne.memCap) ∧
    (memOne.ram.valid.get false (4097 / 512) = true ∧ memOne.ram.err = [] ∧ memOne.ram.copies = [] ∧ Memory.wf memOne.mem) := by
  refine ⟨?_, ?_, ?_, ?_, ?_, ?_, ?_, ?_, ?_, ?_, ?_⟩ <;> decide +kernel

/-- A state and operands that meet the hypotheses of each clause of `Obligations.MemoryControl`, and what the command does there. -/
theorem test_meets_MemoryControl :
    (memUp.responds 0x210010 = true ∧ bits 0x20000 16 13 = 2 ∧ bits (2 ^ 16 * 600) 16 13 = 600) ∧
    (let s : State := memOne.put Reg.MEM_SPILL_EN 0;
      s.responds 0x210010 = true ∧ bits 0x20000 0 13 + bits 0x20000 16 13 ≤ s.get Reg.MEM_STATUS_SIZE * 256 ∧ s.get Reg.MEM_BURST_SIZE = 0 ∧ Memory.wf s.mem ∧ memGet s.mem 4096 = 2) ∧
    (memUp.responds 0x210018 = true ∧ memUp.get Reg.CMP_CTRL_EN = 0 ∧ bits 0x10007 16 1 = 1 ∧ bits 0x10007 0 13 < memUp.get Reg.MEM_STATUS_SIZE * 256 ∧ memUp.get Reg.MEM_RING_SIZE = 0) ∧
    (let s : State := memUp.put Reg.MEM_SCRUB_LEN_BLOCKS 3;
      s.responds 0x210038 = true ∧ s.get Reg.MEM_SCRUB_STATUS_STATE = 0 ∧ s.get Reg.MEM_SCRUB_LEN_BLOCKS = 3 ∧ memUp.get Reg.MEM_SCRUB_LEN_BLOCKS = 0) ∧
    (let s : State := { (memUp.put Reg.MEM_SCRUB_LEN_BLOCKS 3).put Reg.MEM_SCRUB_STATUS_STATE 1 with ram := { memUp.ram with scrubEnd := 3 } };
      s.get Reg.MEM_SCRUB_STATUS_STATE = 1 ∧ s.ram.valid = [] ∧ s.ram.scrubEnd = s.get Reg.MEM_SCRUB_STATUS_NEXT + 3) ∧
    (let s : State := { (memOne.put Reg.MEM_SCRUB_STATUS_NEXT 8).put Reg.MEM_SCRUB_STATUS_STATE 1 with ram := { memOne.ram with scrubEnd := 9 } };
      s.ram.valid = [(8, true)] ∧ s.ram.stuck = [] ∧ (s.ram.trk.all fun x => x.isNone) = true ∧ s.get Reg.MEM_SCRUB_STATUS_STATE = 1 ∧ s.ram.scrubEnd = 9 ∧ s.ram.copies = []) ∧
    (let s : State := { (memUp.put Reg.MEM_SCRUB_LEN_BLOCKS 3).put Reg.MEM_SCRUB_STATUS_STATE 1 with ram := { memUp.ram with scrubEnd := 3 } };
      let u : State := { (memOne.put Reg.MEM_SCRUB_STATUS_NEXT 8).put Reg.MEM_SCRUB_STATUS_STATE 1 with ram := { memOne.ram with scrubEnd := 9, err := [(512, poisonMark)] } };
      s.responds 0x210038 = true ∧ s.get Reg.MEM_SCRUB_STATUS_STATE = 1 ∧ s.ram.valid = [] ∧ s.ram.scrubEnd = 3 ∧ u.ram.valid = [(8, true)] ∧ u.ram.copies = [] ∧ u.get Reg.MEM_SCRUB_STATUS_NEXT = 8 ∧ u.responds 0x210038 = true) ∧
    (let s : State := ((memUp.put Reg.GEN_SESS_STATUS_STATE 2).put Reg.GEN_SESS_STATUS_ROLE 4).put Reg.MEM_SRAM_INFO_PEND 1;
      s.responds 0x2100A8 = true ∧ s.role = 4 ∧ s.sessionLive ∧ s.aud.queue.length < 32 ∧ s.get Reg.MEM_SRAM_INFO_FUSE_LEFT = 3 ∧ s.get Reg.MEM_SRAM_INFO_PEND = 1 ∧ memUp.role ≠ 4) ∧
    (up.responds 0x2100C8 = true) := by
  refine ⟨?_, ?_, ?_, ?_, ?_, ?_, ?_, ?_, ?_⟩ <;> decide +kernel

/-- A state and operands that meet the hypotheses of each clause of `Obligations.RoleSessions`, and what the command does there. -/
theorem test_meets_RoleSessions :
    (up.responds 0x210 = true ∧ up.keyOf 1 = some 0 ∧ up.keyOf 2 = none ∧ up.get Reg.GEN_SESS_STATUS_STATE = 0 ∧ ownerUp.get Reg.GEN_SESS_STATUS_STATE = 2 ∧ ownerUp.sessionLive) ∧
    (let s : State := { ownerUp with dtRef := 900 * 250000000 };
      s.responds 0x210 = true ∧ s.keyOf 1 = some 0 ∧ s.get Reg.GEN_SESS_STATUS_STATE = 2 ∧ ¬ s.sessionLive ∧ s.aud.queue.length < 32) ∧
    (chalUp.responds 0x224 = true ∧ chalUp.get Reg.GEN_SESS_STATUS_STATE = 1 ∧ chalUp.keyOf 1 = some 0 ∧ chalUp.aud.queue.length < 32 ∧ chalUp.sess.chalRole = 1) ∧
    (let s : State := { chalUp with store := { chalUp.store with sessFails := 2 } };
      s.responds 0x224 = true ∧ s.keyOf 1 = some 0 ∧ s.aud.queue.length < 32 ∧ s.store.lockNext = 60) ∧
    (ownerUp.responds 0x210 = true ∧ ownerUp.get Reg.GEN_SESS_STATUS_STATE = 2 ∧ ownerUp.sessionLive ∧ ownerUp.aud.queue.length < 32) ∧
    (ownerUp.get Reg.GEN_SESS_STATUS_STATE = 2 ∧ ownerUp.aud.queue.length < 32 ∧ up.get Reg.GEN_SESS_STATUS_STATE = 0) ∧
    ((up.put Reg.GEN_SESS_STATUS_STATE 3).get Reg.GEN_SESS_STATUS_STATE = 3 ∧ up.get Reg.GEN_SESS_STATUS_STATE = 0) ∧
    (ownerUp.responds 0x240 = true ∧ ownerUp.sessionLive ∧ ownerUp.role = 1 ∧ ownerUp.store.keyLeft.getD 1 0 = 8 ∧ ownerUp.aud.queue.length < 32 ∧ up.role = 0) ∧
    (up.store.keyLeft.length = 4 ∧ up.store.keys.length = 4 ∧ up.store.keyLeft.getD 1 0 = 8 ∧ up.store.idLeft = 1) ∧
    (let s : State := { ownerUp with aud := { ownerUp.aud with queue := List.replicate 32 { entry := {} } } };
      s.responds 0x208 = true ∧ s.sessionLive ∧ s.role = 1 ∧ s.store.idLeft = 1 ∧ s.aud.queue.length = 32 ∧ ownerUp.aud.queue.length < 32) ∧
    (ownerUp.responds 0x234 = true ∧ ownerUp.sessionLive ∧ ownerUp.role = 1 ∧ up.role ≠ 1) := by
  refine ⟨?_, ?_, ?_, ?_, ?_, ?_, ?_, ?_, ?_, ?_, ?_⟩ <;> decide +kernel

/-- A state and operands that meet the hypotheses of each clause of `Obligations.AuditAndWear`, and what the command does there. -/
theorem test_meets_AuditAndWear :
    (audUp.aud.queue.length = 2 ∧ up.aud.queue = []) ∧
    (audUp.aud.queue.length = 2 ∧ audUp.aud.lost = 0 ∧ audUp.store.log = [] ∧ (audUp.aud.queue.headD {entry := {}}).write = none) ∧
    (let s : State := { audUp with aud := { audUp.aud with lost := 3 } };
      s.aud.queue.length = 2 ∧ s.aud.lost = 3) ∧
    (let s : State := { up with aud := { up.aud with queue := [{ entry := { kind := 2 }, write := some (0x208, 77) }] } };
      s.aud.queue.length = 1 ∧ s.aud.lost = 0 ∧ s.store.idLeft = 1) ∧
    (up.sys.phase = .running ∧ up.svc.swing = {}) ∧
    (let s : State := { up with svc := { up.svc with swing := { lo := some 300, hi := some 400, dir := 0 } } };
      s.sys.phase = .running ∧ s.svc.swing.lo = some 300) ∧
    ((3 : Nat) ≤ 8) ∧
    (up.sys.phase = .running ∧ up.store.warned = [] ∧ up.get Reg.GEN_WEAR_THR_THR 0 0 = 8000000 ∧ (List.range 10).all (fun i => up.svc.wear.val i < up.get Reg.GEN_WEAR_THR_THR 0 i || i < 5) = true) ∧
    (({ up with sys := { up.sys with vfe := some 100 } } : State).sys.vfe.isSome ∧ up.viasUsed 4 1 = 0 ∧ up.aud.queue.length < 29 ∧ up.flt.under = none ∧ up.get Reg.GEN_SPARE_THR_THR 0 4 < 12 - 1) := by
  refine ⟨?_, ?_, ?_, ?_, ?_, ?_, ?_, ?_, ?_⟩ <;> decide +kernel

/-- A state and operands that meet the hypotheses of each clause of `Obligations.RegionMapMode3`, and what the command does there. -/
theorem test_meets_RegionMapMode3 :
    (up.responds (0x100000 + 8 * 7) = true ∧ bits 0x3005 12 2 = 3) ∧
    (let s : State := { up with evt := { up.evt with half := some (7, 0x3005) } };
      s.responds (0x100004 + 8 * 7) = true ∧ bits 0x3005 12 2 = 3 ∧ s.evt.half = some (7, 0x3005)) := by
  refine ⟨?_, ?_⟩ <;> decide +kernel

/-- A state and operands that meet the hypotheses of each clause of `Obligations.Bar4Protection`, and what the command does there. -/
theorem test_meets_Bar4Protection :
    (let s : State := ((memUp.put Reg.MEM_RING_BASE 8).put Reg.MEM_RING_SIZE 2).put Reg.TRG_CTRL_RING_EN 1;
      s.bar4Up = true ∧ s.get Reg.HST_BAR4_BASE_BASE * 16777216 + 9437184 + 1 ≤ s.memCap ∧ 9437184 + 1 ≤ barSize 4 ∧ 0 < s.get Reg.MEM_RING_SIZE) ∧
    (let s : State := ((memOne.put Reg.MEM_RING_BASE 0).put Reg.MEM_RING_SIZE 2).put Reg.TRG_CTRL_RING_EN 1;
      s.bar4Up = true ∧ s.ram.err = [] ∧ s.ram.copies = [] ∧ 4096 + 8 ≤ barSize 4 ∧ s.ram.valid.get false (4096 / 512) = true ∧ s.get Reg.HST_BAR4_BASE_BASE * 16777216 + 4096 + 8 ≤ s.memCap) := by
  refine ⟨?_, ?_⟩ <;> decide +kernel

/-- A state and operands that meet the hypotheses of each clause of `Obligations.RegisterWrites`, and what the command does there. -/
theorem test_meets_RegisterWrites :
    ((Instr.registerWrite 0x210032 5 4).wf = true ∧ 0x210032 % 4 ≠ 0 ∧ up.pcieUp = true ∧ State.reset.pcieUp = false) ∧
    (let s : State := { up with sys := { up.sys with phase := .pilot } };
      (Instr.registerWrite 0x69004 5 4).wf = true ∧ s.pcieUp = true ∧ s.sys.phase ≠ .running) ∧
    (up.responds 0x220000 = true) ∧
    (up.responds 0x210000 = true) ∧
    (up.responds 0x210030 = true ∧ up.responds 0x210034 = true) ∧
    (up.responds 0x200030 = true ∧ up.get Reg.CMP_INT_UNC < 2 ∧ up.get Reg.CMP_INT_REDO < 2 ∧ up.get Reg.CMP_INT_SAVED < 2) ∧
    (let s : State := up.put Reg.TIL_FRM_RUN_RUN 1;
      s.responds 0x69004 = true ∧ s.get Reg.TIL_FRM_RUN_RUN = 1 ∧ s.get Reg.TIL_FRM_PERIOD_PERIOD = 0xFA ∧ up.get Reg.TIL_FRM_RUN_RUN = 0) ∧
    ((cmpUp.put Reg.CMP_CTX_SEL_CTX 7).streamOfCtx ((cmpUp.put Reg.CMP_CTX_SEL_CTX 7).get Reg.CMP_CTX_SEL_CTX) = some 30 ∧ cmpUp.get Reg.EVT_STRM_CFGn_EN 30 = 1 ∧ cmpUp.responds 0x200044 = true) ∧
    (memUp.responds 0x200000 = true ∧ memUp.get Reg.MEM_SPILL_EN = 1 ∧ up.get Reg.MEM_SPILL_EN = 0 ∧ up.get Reg.CMP_CTRL_EN = 0) := by
  refine ⟨?_, ?_, ?_, ?_, ?_, ?_, ?_, ?_, ?_⟩ <;> decide +kernel

/-- A state and operands that meet the hypotheses of each clause of `Obligations.StepTakesFront`, and what the command does there. -/
theorem test_meets_StepTakesFront :
    (({ up with pending := [.vauxRise, .vauxFall] } : State).pending = .vauxRise :: [.vauxFall]) ∧
    (State.reset.pending = [] ∧ (State.reset.sys.phase = .reset ∨ State.reset.sys.phase = .dead)) := by
  refine ⟨?_, ?_⟩ <;> decide +kernel

/-- A state and operands that meet the hypotheses of each clause of `Obligations.CommandsComplete`, and what the command does there. -/
theorem test_meets_CommandsComplete :
    ((Instr.streamOverrunGap 5).wf = true ∧ (Instr.streamOverrunGap 64).wf = false) := by decide +kernel

/-- A state and operands that meet the hypotheses of each clause of `Obligations.StepKeepsCanonical`, and what the command does there. -/
theorem test_meets_StepKeepsCanonical :
    (let s : State := { up with pending := [.streamOverrunGap 5] };
      SMap.Sorted RKey.lt s.regs ∧ s.mem = [] ∧ s.shadow = [] ∧ (s.pending.all fun c => c.wf) = true) := by decide +kernel

/-- Ill-formed commands, one for each check that `Instr.wf` makes of these: none passes. -/
theorem test_ill_formed_1 : (([
    .resetNRise 4 false 0, .jtagBypass 256 [], .jtagBypass 0x08 [], .coreDisagree 4 1, .coreDisagree 0 0, .coreDisagree 0 4,
    .junctionOvertemp 5, .tileWaitExpire 4, .portWaitExpire 8, .i2cPointerWrite 128 0, .i2cPointerWrite 0 65536,
    .i2cRegisterRead 128 0, .kvtEvaluation 0 [] 0 0, .vfeSet 256, .vfePhaseSwap 14, .registerWrite 0x400000 0 4,
    .registerWrite 0 (2 ^ 64) 8, .registerWrite 0x1D0168 1 4, .registerWrite 0x1F005C 0 4, .registerWrite 0x1F0058 (2 ^ 32) 8,
    .discriminatorRise 4 0 [] 0, .discriminatorRise 0 4096 [] 0, .discriminatorRise 0 0 [⟨64, 0, false⟩] 0,
    .discriminatorRise 0 0 [] 8000, .flameStop 4 0 0 0, .flameStop 0 4096 0 0, .flameStop 0 0 5 0, .flameHandoff 4 0 0,
    .flameHandoff 0 4096 0, .flameHandoff 0 0 5, .discriminatorFall 4 0 0 0, .discriminatorFall 0 4096 0 0,
    .discriminatorFall 0 0 64 0, .discriminatorFall 0 0 0 8000, .totSaturate 4 0 0, .totSaturate 0 4096 0, .totSaturate 0 0 64,
    .tpTrainStart 4 1, .tpTrainStart 0 4294967297, .tpTrainStart 0 65536, .tpTrainStop 4 0, .tpTrainStop 0 4294967296,
    .tpTrainStop 0 1, .testPulseInject 4, .pixelScrubVisit 4 0 0 [], .pixelScrubVisit 0 512 0 [], .pixelScrubVisit 0 0 512 [],
    .pixelScrubVisit 0 0 0 [⟨0, 0, 6, 1⟩]] : List Instr).any (·.wf)) = false := by decide +kernel

/-- Ill-formed commands, one for each check that `Instr.wf` makes of these: none passes. -/
theorem test_ill_formed_2 : (([
    .pcsWordArrive 2 0, .pcsWordArrive 0 4294967296, .reconfigBlankEnd 4 0, .reconfigBlankEnd 0 4096, .lossEpisodeClose 4 0 0,
    .lossEpisodeClose 0 4096 0, .lossEpisodeClose 0 0 8, .rotaStepDue 4, .rotaForce 4 65536, .rotaForce 0 4295032832,
    .rotaForce 0 0, .rotaIntervalWrite 4 0, .rotaIntervalWrite 0 4294967296, .rotaIntervalWrite 0 65536, .flameOffline 4 0 0,
    .flameOffline 0 4096 0, .flameOffline 0 0 5, .flameCalibrationEnd 4 0 0 0 0, .flameCalibrationEnd 0 4096 0 0 0,
    .flameCalibrationEnd 0 0 5 0 0, .flameReturn 4 0 0, .flameReturn 0 4096 0, .flameReturn 0 0 5, .tileEnable 4 1,
    .tileEnable 0 4294967297, .tileEnable 0 0, .firstCalibrationStart 4, .firstCalibrationEnd 4 0 0 [] [], .tileDisable 4 0,
    .tileDisable 0 4294967296, .tileDisable 0 1, .fePowerWrite 4 0, .fePowerWrite 0 4294967296, .feReady 4, .tilCntClr 4,
    .failFifoRead 4, .columnBusHop 4 0 0 0, .columnBusHop 0 66 0 0, .columnBusHop 0 0 65 0, .columnStallTimeout 4 0,
    .columnStallTimeout 0 66, .spareSwitchDone 4 0 [], .spareSwitchDone 0 64 [], .spareApprove 4 1, .spareApprove 0 4294967297,
    .spareApprove 0 0, .spareApprove 0 3, .spareDecline 4 2] : List Instr).any (·.wf)) = false := by decide +kernel

/-- Ill-formed commands, one for each check that `Instr.wf` makes of these: none passes. -/
theorem test_ill_formed_3 : (([
    .spareDecline 0 4294967298, .spareDecline 0 0, .spareRequestTimeout 4, .flitForm 4 [], .flitTransfer 4, .flitCheck 4 0,
    .chkOk 4, .chkNak 4, .viaTestStart 4 false, .viaTestEnd 4 0, .crossbarTakeWord 4 false [], .receiverDrainStart 4,
    .tilXcntClr 4, .timOpen 4294967297, .timOpen 0, .timClose 4294967298, .timClose 0, .timClose 3, .timSet 4294967300, .timSet 0,
    .timSet 5, .timSet 6, .skewRecalibrate [0], .skewForce 4294967552 [0, 0, 0, 0], .skewForce 0 [0, 0, 0, 0], .skewForce 256 [0],
    .frameLaunch 8, .rmapEntryWrite 65536 0 0, .rmapEntryWrite 0 3 0, .rmapCommit 4294967297, .rmapCommit 0, .clusterRelease 8 [],
    .clusterClose 8 [], .packetFlush 64, .rateWindowEnd 256, .evtEnable 4294967297, .evtEnable 0, .evtDisable 4294967296,
    .evtDisable 1, .streamEnable 64 1, .streamEnable 0 4294967297, .streamEnable 0 0, .streamDisable 64 0,
    .streamDisable 0 4294967296, .streamDisable 0 1, .ringEnable 4294967298, .ringEnable 0, .primitiveEvent 512 0] : List Instr).any (·.wf)) = false := by decide +kernel

/-- Ill-formed commands, one for each check that `Instr.wf` makes of these: none passes. -/
theorem test_ill_formed_4 : (([
    .primitivePulseEnd 512, .todFire 16, .hostFire 16, .contextOpen 16, .contextExtractionEnd 16, .contextAbort 4295098368,
    .contextAbort 0, .contextRelease 4295032832, .contextRelease 0, .contextRelease 196608, .triggerEnable 4294967297,
    .triggerEnable 0, .triggerDisable 4294967296, .triggerDisable 1, .templateArm 65536, .templateArmed 16, .templateDisarm 65536,
    .flareSend 4294967297, .flareSend 0, .frameRunStart 4294967297, .frameRunStart 0, .frameRunStop 4294967296, .frameRunStop 1,
    .frameReadoutEnd 4 0 [], .wickWrite 4294967296, .groupInputWrite 4294967296, .reloadAbort 4294967297, .reloadAbort 0,
    .imageProgStart 4294967297, .imageProgStart 0, .imageProgStart 5, .imageProgAbort 4294967300, .imageProgAbort 0,
    .imagePrefSlot 4294967296, .imagePrefSlot 2, .imagePrefSlot 4, .imageTrial 4294967298, .imageTrial 0, .imageTrial 6,
    .imageConfirm 4294967300, .imageConfirm 0, .configScrubVisit (.wick 16384) 0 0, .configScrubVisit (.gin 16384) 0 0,
    .configScrubVisit (.cond 64) 0 0, .configScrubVisit (.rmap 65536) 0 0, .configScrubVisit (.reg 0 999 0) 0 0,
    .configScrubVisit (.reg 99999 0 0) 0 0, .tdcInputEdge 34 false] : List Instr).any (·.wf)) = false := by decide +kernel

/-- Ill-formed commands, one for each check that `Instr.wf` makes of these: none passes. -/
theorem test_ill_formed_5 : (([
    .tdcResult 68 0, .tdcCalEnd 68 0 0, .tdcIdleRecal 68, .tdcTimeout 32, .tdcArm 4294967297, .tdcArm 0, .tdcDisarm 4294967298,
    .tdcDisarm 0, .tdcFlush 4294967300, .tdcFlush 0, .tdcChannelEnable 4294967297, .tdcChannelEnable 0, .tdcQueueSnapshot 32,
    .tdcQueueRemove 32, .tdcGapEntry 32, .tdcSpareApprove 4294967297, .tdcSpareApprove 0, .tdcSpareApprove 3,
    .tdcSpareDecline 4294967298, .tdcSpareDecline 0, .auxEnable 4294967297, .auxEnable 0, .auxDisable 4294967296, .auxDisable 1,
    .auxInjectFire 4294967296, .wireBreakDetect 64 .current, .wireClear 64, .auxCalZero 4294967297, .auxCalZero 0,
    .auxCalFull 4294967298, .auxCalFull 0, .auxCalAbort 4294967299, .auxCalAbort 0, .auxPinCfgWrite 16 0,
    .auxPinCfgWrite 0 4294967296, .ctlFbSample 4 0, .ctlFbResult 4, .pulseCountEdge 4 false false 0, .loopPeriodStart 4,
    .loopComputeDone 4, .loopDeadline 4, .loopEnable 4 1, .loopEnable 0 4294967297, .loopEnable 0 0, .loopDisable 4 0,
    .loopDisable 0 4294967296, .loopDisable 0 1, .loopCommit 4] : List Instr).any (·.wf)) = false := by decide +kernel

/-- Ill-formed commands, one for each check that `Instr.wf` makes of these: none passes. -/
theorem test_ill_formed_6 : (([
    .safetyStrobe 4294967296 0 0 false, .safetyStrobe 0 4294967296 0 false, .safetyStrobe 0 0 4294967296 false, .testPulseStart 2,
    .testPulseEnd 2, .outputTestPulse 2 0, .outputTestPulse 0 2, .safAck 4294967297, .safAck 0, .safReq 4294967296,
    .safCommit 4294967296 false, .snufferProduce 8 false, .snufferReceive 8 [], .snufferTimeout 8, .snufferRxSubmit 4294967296,
    .portEnable 8 1, .portEnable 0 4294967297, .portEnable 0 0, .portDisable 8 0, .portDisable 0 4294967296, .portDisable 0 1,
    .beaconSend 8, .beaconReceive 8 0 0, .beaconReceive 0 18446744073709551616 0, .beaconReceive 0 0 18446744073709551616,
    .trainFrameReceive 8 0 .status false 0, .trainFrameReceive 0 18 .status false 0, .trainingTimeout 8, .partnerTrainTimeout 8,
    .markerReceive 18 0 0 false, .markerReceive 0 18446744073709551616 0 false, .laneLos 18, .laneLol 18, .laneSwitchRetry 8,
    .portLosDetach 8, .lnkDataRx 8 0 0 [] ⟨0, 0, false, false, 0, 0, 0, 0⟩, .lnkFlareRx 8 0 [] ⟨0, 0, false, false, 0, 0, 0, 0⟩,
    .lnkTimeRx 8 0 [] ⟨0, 0, false, false, 0, 0, 0, 0⟩, .lnkSnufferRx 8 0 [] ⟨0, 0, false, false, 0, 0, 0, 0⟩,
    .lnkCtrlAck 8 ⟨0, 0, false, false, 0, 0, 0, 0⟩, .lnkCtrlSwitch 8 0 ⟨0, 0, false, false, 0, 0, 0, 0⟩,
    .lnkCtrlSwitch 0 16 ⟨0, 0, false, false, 0, 0, 0, 0⟩, .lnkCtrlSwitched 8 0 ⟨0, 0, false, false, 0, 0, 0, 0⟩,
    .lnkCtrlSwitched 0 16 ⟨0, 0, false, false, 0, 0, 0, 0⟩, .lnkCtrlWake 8 ⟨0, 0, false, false, 0, 0, 0, 0⟩,
    .lnkCtrlSleep 8 ⟨0, 0, false, false, 0, 0, 0, 0⟩, .lnkCtrlRetrain 8 ⟨0, 0, false, false, 0, 0, 0, 0⟩,
    .lnkReplayTimeout 8 false] : List Instr).any (·.wf)) = false := by decide +kernel

/-- Ill-formed commands, one for each check that `Instr.wf` makes of these: none passes. -/
theorem test_ill_formed_7 : (([
    .lnkProgressTimeout 8, .lnkRetrainCmd 8 1, .lnkRetrainCmd 0 4294967297, .lnkRetrainCmd 0 0, .timeFrameSend 8 0,
    .timeFrameMiss 8, .dualHoldExpire 64, .dualPairExpire 64, .dualRestore 64, .portSleep 8, .portWakeComplete 8,
    .bar4Read (2 ^ 28 + 1) 0, .bar4Write (2 ^ 28 + 1) [], .doorbellTail false 64 0, .doorbellTail true 8 0,
    .doorbellTail false 0 4294967296, .doorbellCplHead false 64 0 [], .doorbellCplHead true 8 0 [],
    .doorbellCplHead false 0 4294967296 [], .queueEnable false 64 1, .queueEnable true 8 1, .queueEnable false 0 4294967297,
    .queueEnable false 0 0, .queueDisable false 64 0 [], .queueDisable true 8 0 [], .queueDisable false 0 4294967296 [],
    .queueDisable false 0 1 [], .queueStopped 64 [], .descriptorFetchDone false 64 [0, 0] false,
    .descriptorFetchDone true 8 [0, 0] false, .descriptorFetchDone false 0 [0, 18446744073709551616] false,
    .descriptorFetchDone false 0 [0] false, .queuePacketWrite 64 0 [], .bufferCloseTimeout 64, .h2dFrameStart 8 [] [] false,
    .h2dFrameDone 8, .queueProgressTimeout false 64, .queueProgressTimeout true 8, .streamOverrunGap 64, .irqMessage 88 [],
    .queueIrqTimer false 64 [], .queueIrqTimer true 8 [], .hostIrqRearm 3 0 [], .hostIrqRearm 0 4294967296 [],
    .cmpInputWord 64 false, .cmpFlushTimeout 64 false, .cmpSave 4294967297, .cmpSave 0] : List Instr).any (·.wf)) = false := by decide +kernel

/-- Ill-formed commands, one for each check that `Instr.wf` makes of these: none passes. -/
theorem test_ill_formed_8 : (([
    .cmpRestore 4294967298, .cmpRestore 0, .cmpRestore 3, .cmpReset 4294967300, .cmpReset 0, .cmpReset 5, .cmpReset 6,
    .decompBlock 8 false, .memPartitionWrite 3 0, .memPartitionWrite 0 4294967296, .scrubStart 4294967297, .scrubStart 0,
    .scrubAbort 4294967298 0 0, .scrubAbort 0 0 0, .scrubAbort 3 0 0, .scrubAbort 2 0 64, .sramFuseProg 4294967297,
    .sramFuseProg 0, .sessionRequest 8, .sessionResponse 4294967296, .dosimeterRead [0], .controlViaTest 4 0, .pcieLinkUp 0 16,
    .pcieLinkUp 6 16, .pcieLinkUp 5 3] : List Instr).any (·.wf)) = false := by decide +kernel

/-! ## Worked examples of the manual -/

/-- R61: the hit word of the example (row 17, column 300 of T2). -/
theorem test_hit_word_example : hitWord 2 165 { pix := 12, start := 0 } (1000 * 512 + 153) 87 false = 0x8232_C001_F426_4570 := by decide

/-- R76: the loss word of the example (T1, row 256, column 128, an odd epoch). -/
theorem test_loss_word_example : lossWord 1 2064 (2 ^ 21 + 1000003) 3 2 1 = 0x6008_07A1_2180_1829 := by decide

/-- Chapter 10: the gain of the strain-gauge bridge, and its word 1. -/
theorem test_gain_example : calGain 13600 2110752 120000 = some 0xEA6000 := by decide

/-- Chapter 14: word 0 of the completion, and the gap record after the overrun. -/
theorem test_completion_example : cplWord0 { idx := 0x123, addr := 0, len := 8192, tag := 0x42 } 600 0 1 false false false = 0x0042_0123_8000_0258 ∧
    pktHeader 4 5 1 0x154 false = 0xA541_4010_1540_0000 ∧ (gapItems 1501568900 1501569401 9 3 false 768 0).map (fun i => i.words.map (·.1)) = [[0x5980_1F84, 0x1F5_96FF_0000]] := by decide

/-- Chapter 15: the codes of two zero words, which are sent expanded, and the header of the live frame stream. -/
theorem test_codes_example : (encodeBytes [] (wordBytes [0, 0])).1 = [0x000, 0x100, 0x101, 0x102, 0x103, 0x000] ∧ codedBlock 7 true 0 [] [0, 0] = none ∧
    blockHeader 7 false false 0x123 false 2340 8192 = 0xC31C_0123_0249_2000 := by decide +kernel

/-- R465 and R475: D[17] lies at position 23, and the word of the example in row 174,762 of channel 1. -/
theorem test_memory_example : dataPos 17 = 23 ∧ checkErr (2 ^ 17) = .corrected 17 ∧ (up.put Reg.MEM_STATUS_CHMASK 0xFFF).memRow 0x1_0000_0A48 = (1, 0x2AAAA) := by decide +kernel

/-- R549: three registers of the address table. -/
theorem test_address_example : (up.refs 0x630C0).map (fun r => r.i) = List.replicate (up.refs 0x630C0).length 3 ∧ (up.refs 0x630C0).any (fun r => r.f.id == Reg.TIL_XINT_CNT_SAT.id) ∧
    (up.refs 0x1F0258).any (fun r => r.f.id == Reg.HST_Dq_MOD_CNT.id && r.i == 5) ∧ (up.refs 0x1C024C).any (fun r => r.i == 2) := by decide +kernel

/-- The queue is served first in, first out, and on an empty queue a reference period passes. -/
theorem test_step_front : (match step { up with pending := [.todFire 3, .hostFire 3] } with | .next t => t.pending.length | _ => 9) = 1 ∧
    (match step up with | .next t => t.dtRef | _ => 9) = 1 := by decide +kernel

end Sys2Proof.Machine
end

section
/-! ## What a step keeps

`Keeps r s`: the state `s` has the canonical form if `r` has it, and the queue of waiting commands of `r`. Each named
operation of the model leads from such a state to such a state; the lemmas stand in the order of the definitions they
speak of, one for each, and each is used by the ones after it. -/

namespace Sys2Proof.Machine

/-- Sparse tables without an entry are in canonical form. -/
theorem State.Canon.of_nil {s : State} (hr : s.regs = []) (hs : s.shadow = []) (hm : s.mem = []) : s.Canon := by
  unfold State.Canon
  rw [hr, hs, hm]
  exact ⟨.nil, .nil, Memory.wf_reset⟩

/-- Dropping entries of the register file and of the shadow copies, and all of buffer memory or none of it, keeps the form. -/
theorem State.Canon.of_filter {s t : State} (h : s.Canon) {p q : RKey × Nat → Bool} (hr : t.regs = s.regs.filter p)
    (hs : t.shadow = s.shadow.filter q) (hm : t.mem = s.mem ∨ t.mem = []) : t.Canon := by
  obtain ⟨hregs, hshadow, hmem⟩ := h
  refine ⟨hr ▸ hregs.filter p, hs ▸ hshadow.filter q, ?_⟩
  rcases hm with e | e <;> rw [e]
  · exact hmem
  · exact Memory.wf_reset

/-- `s` has the canonical form if `r` has it, and the same commands wait. -/
structure Keeps (r s : State) : Prop where
  canon : r.Canon → s.Canon
  pending : s.pending = r.pending

theorem Keeps.wellQueued {r s : State} (h : Keeps r s) (hq : r.wellQueued) : s.wellQueued :=
  fun c hm => hq c (h.pending ▸ hm)

/-- Every next state of the outcome keeps what `r` has. -/
def KeepsOut (r : State) (o : Out) : Prop := ∀ s, o = .next s → Keeps r s

/-- The state the option holds, if any, keeps what `r` has. -/
def KeepsOpt (r : State) (o : Option State) : Prop := ∀ s, o = some s → Keeps r s

section
variable {r s t : State}

theorem Keeps.refl : Keeps s s := ⟨id, rfl⟩

/-- A change outside the queue, the register file, the shadow copies and buffer memory: the other fields take any values. -/
theorem Keeps.upd (h : Keeps r s) {dtRef drawn rdata sys flt cores aud sess svc til xp tim evt topo trg frm fab tdc aux ctl saf lnk
    hst cmp ram store} : Keeps r ⟨s.pending, s.regs, s.shadow, s.mem, dtRef, drawn, rdata, sys, flt, cores, aud, sess, svc, til,
      xp, tim, evt, topo, trg, frm, fab, tdc, aux, ctl, saf, lnk, hst, cmp, ram, store⟩ :=
  ⟨h.canon, h.pending⟩

theorem Keeps.ite {c : Prop} [Decidable c] (hs : Keeps r s) (ht : Keeps r t) : Keeps r (if c then s else t) := by
  split <;> assumption

theorem Keeps.iteFst {α : Type} {c : Prop} [Decidable c] {p q : State × α} (hp : Keeps r p.1) (hq : Keeps r q.1) :
    Keeps r (if c then p else q).1 := by
  split <;> assumption

/-- The state of a pair taken apart. -/
theorem Keeps.ofEq {α : Type} {p : State × α} {a : α} (e : p = (s, a)) (h : Keeps r p.1) : Keeps r s := by
  rw [e] at h
  exact h

/-- A change made for each member of a list, by a change that keeps. -/
theorem Keeps.foldl {α : Type} {l : List α} {f : State → α → State} (h : Keeps r s)
    (hf : ∀ {s a}, Keeps r s → Keeps r (f s a)) : Keeps r (l.foldl f s) := by
  induction l generalizing s with
  | nil => exact h
  | cons a l ih => exact ih (hf h)

/-- The same for a change that gathers a result beside the state. -/
theorem Keeps.foldlFst {α β : Type} {l : List α} {f : State × β → α → State × β} {b : β} (h : Keeps r s)
    (hf : ∀ {p a}, Keeps r p.1 → Keeps r (f p a).1) : Keeps r (l.foldl f (s, b)).1 := by
  suffices H : ∀ p : State × β, Keeps r p.1 → Keeps r (l.foldl f p).1 from H _ h
  induction l with
  | nil => exact fun _ hp => hp
  | cons a l ih => exact fun p hp => ih _ (hf hp)

theorem KeepsOut.next (h : Keeps r s) : KeepsOut r (.next s) := by
  rintro t ⟨⟩
  exact h

theorem KeepsOut.refused {e : Refusal} : KeepsOut r (.refused e) := by rintro t ⟨⟩

theorem KeepsOut.need {c : Bool} (h : Keeps r s) : KeepsOut r (need c s) := fun _ e => (need_next.1 e).2 ▸ h

theorem KeepsOut.onSconce {t' c : Nat} (h : Keeps r s) : KeepsOut r (onSconce t' c s) := .need h

theorem KeepsOut.ite {c : Prop} [Decidable c] {o p : Out} (ho : KeepsOut r o) (hp : KeepsOut r p) :
    KeepsOut r (if c then o else p) := by
  split <;> assumption

theorem KeepsOpt.some (h : Keeps r s) : KeepsOpt r (some s) := by
  rintro t ⟨⟩
  exact h

theorem KeepsOpt.none : KeepsOpt r none := by rintro t ⟨⟩

theorem KeepsOpt.ite {c : Prop} [Decidable c] {o p : Option State} (ho : KeepsOpt r o) (hp : KeepsOpt r p) :
    KeepsOpt r (if c then o else p) := by
  split <;> assumption

theorem KeepsOpt.orElse {o p : Option State} (ho : KeepsOpt r o) (hp : KeepsOpt r p) : KeepsOpt r (o.orElse fun _ => p) := by
  cases o with
  | none => exact hp
  | some s => exact ho

theorem KeepsOpt.findSome? {α : Type} {l : List α} {f : α → Option State} (hf : ∀ {a}, KeepsOpt r (f a)) :
    KeepsOpt r (l.findSome? f) := fun t e => by
  obtain ⟨a, -, ha⟩ := List.exists_of_findSome?_eq_some e
  exact hf t ha

/-! ### Register fields, faults and the audit queue -/

theorem Keeps.cond (h : Keeps r s) {c : Bool} {f : State → State} (hf : Keeps r s → Keeps r (f s)) :
    Keeps r (s.cond c f) := by
  cases c
  · exact h
  · exact hf h

theorem Keeps.each (h : Keeps r s) {α : Type} {l : List α} {f : State → α → State}
    (hf : ∀ {s a}, Keeps r s → Keeps r (f s a)) : Keeps r (s.each l f) := h.foldl hf

theorem Keeps.put (h : Keeps r s) {f : Fld} {v i j : Nat} : Keeps r (s.put f v i j) :=
  ⟨fun c => (h.canon c).put .., h.pending⟩

theorem Keeps.putB (h : Keeps r s) {f : Fld} {b : Bool} {i j : Nat} : Keeps r (s.putB f b i j) := h.put

theorem Keeps.bump (h : Keeps r s) {f sat : Fld} {i j n k : Nat} : Keeps r (s.bump f sat i j n k) :=
  .ite h.put h.put.put

theorem Keeps.clearFields (h : Keeps r s) {ids : List Nat} : Keeps r (s.clearFields ids) :=
  ⟨fun c => (h.canon c).clearFields .., h.pending⟩

theorem Keeps.stage (h : Keeps r s) {f : Fld} {v i j : Nat} : Keeps r (s.stage f v i j) :=
  ⟨fun c => (h.canon c).stage .., h.pending⟩

theorem Keeps.unstage (h : Keeps r s) {f : Fld} {i j : Nat} : Keeps r (s.unstage f i j) :=
  ⟨fun c => (h.canon c).unstage .., h.pending⟩

theorem Keeps.commit (h : Keeps r s) {f : Fld} {i j : Nat} : Keeps r (s.commit f i j) := by
  unfold State.commit
  split
  · exact h
  · exact h.put.unstage

theorem Keeps.putKeys (h : Keeps r s) {l : RegMap} : Keeps r (s.putKeys l) :=
  ⟨fun c => (h.canon c).putKeys .., h.pending⟩

theorem Keeps.commitAll (h : Keeps r s) {ids : List Nat} : Keeps r (s.commitAll ids) :=
  ⟨fun c => (h.canon c).commitAll .., h.pending⟩

theorem Keeps.draw (h : Keeps r s) : Keeps r s.draw := h.upd

/-- A write of BAR0 keeps what the register it reaches keeps. -/
theorem Keeps.bar (h : Keeps r s) {a : Nat} {f : State → State} (hf : Keeps r s → Keeps r (f s)) :
    Keeps r (s.bar a f) :=
  .ite (hf h) (.ite h.bump h)

theorem Keeps.auditPush (h : Keeps r s) {e : AudEntry} {w : Option (Nat × Nat)} : Keeps r (s.auditPush e w) :=
  .ite h.upd.put h.upd.bump

theorem Keeps.audit (h : Keeps r s) {kind result target old new arg : Nat} :
    Keeps r (s.audit kind result target old new arg) :=
  h.auditPush

theorem Keeps.dropSafety (h : Keeps r s) : Keeps r s.dropSafety := by
  refine ⟨fun c => ?_, h.pending⟩
  obtain ⟨hregs, hshadow, hmem⟩ := h.canon c
  exact ⟨hregs, hshadow.filter _, hmem⟩

theorem Keeps.closeSession (h : Keeps r s) {reason : Nat} : Keeps r (s.closeSession reason) :=
  .ite ((h.audit.cond fun h => h.dropSafety).put.put.each fun h => h.put).put h

theorem Keeps.idleClose (h : Keeps r s) : Keeps r s.idleClose := .ite h.closeSession h

theorem Keeps.refuseGuarded (h : Keeps r s) {kind result a old v : Nat} :
    Keeps r (s.refuseGuarded kind result a old v) :=
  h.put.auditPush

theorem Keeps.guarded (h : Keeps r s) {kind a old v act : Nat} {roles : List Nat} {cause arg : Nat} :
    Keeps r (s.guarded kind a old v act roles cause arg) :=
  .ite (Keeps.ite h.idleClose.upd h.idleClose).refuseGuarded (.ite (Keeps.ite h.idleClose.upd h.idleClose).refuseGuarded
      (Keeps.ite h.idleClose.upd h.idleClose).auditPush)

theorem Keeps.guardedIn (h : Keeps r s) {flag : Fld} {kind a old v act : Nat} {roles : List Nat} {cause arg : Nat} :
    Keeps r (s.guardedIn flag kind a old v act roles cause arg) := by
  unfold State.guardedIn
  exact h.idleClose.guarded.cond fun h => h.put

theorem Keeps.spareCheck (h : Keeps r s) {kind left : Nat} : Keeps r (s.spareCheck kind left) := .ite h.put.audit h

theorem Keeps.bringSpare (h : Keeps r s) {kind unit left : Nat} : Keeps r (s.bringSpare kind unit left) :=
  h.audit.upd.put.spareCheck

theorem Keeps.recordUnit (h : Keeps r s) {kind unit : Nat} : Keeps r (s.recordUnit kind unit) := h.upd

theorem Keeps.unitOut (h : Keeps r s) {kind unit : Nat} : Keeps r (s.unitOut kind unit) := h.audit.recordUnit

theorem Keeps.retestUnit (h : Keeps r s) {kind unit : Nat} {pass : Bool} : Keeps r (s.retestUnit kind unit pass) :=
  .ite h (.ite h.upd.audit.upd.put (.ite h.upd h.upd.audit))

theorem Keeps.viaSpare (h : Keeps r s) {kind t' n : Nat} : Keeps r (s.viaSpare kind t' n) :=
  h.each fun h => h.unitOut.bringSpare

theorem Keeps.resetAll (h : Keeps r s) {kind : Nat} : Keeps r (s.resetAll kind) := by
  have hc : Keeps r (s.closeSession 2) := h.closeSession
  unfold State.resetAll
  extract_lets _ _ _ u
  have hu : Keeps r u := ⟨fun c => (hc.canon c).of_filter rfl rfl (.inr rfl), hc.pending⟩
  exact hu.put

theorem Keeps.startFails (h : Keeps r s) {code : Nat} : Keeps r (s.startFails code) := h.put.put.put.put.resetAll.upd

theorem Keeps.syncFault (h : Keeps r s) : Keeps r s.syncFault := h.put.put.put.put

theorem Keeps.fatal (h : Keeps r s) {code : Nat} : Keeps r (s.fatal code) :=
  (h.put.put.cond fun h => h.put.put.put).resetAll.upd

theorem Keeps.fault (h : Keeps r s) {code src : Nat} : Keeps r (s.fault code src) := by
  unfold State.fault
  extract_lets
  refine .ite h.upd.fatal ?_
  split
  · exact h.upd.syncFault
  · exact .ite h.upd.syncFault (.ite h.upd (.ite h.upd.syncFault h.upd.bump.put))

/-! ### The passing of time -/

theorem Keeps.setTile (h : Keeps r s) {t' : Nat} {x : Tile} : Keeps r (s.setTile t' x) := h.upd

theorem Keeps.regate (h : Keeps r s) {t : Nat} {f : State → State} (hf : Keeps r s → Keeps r (f s)) :
    Keeps r (s.regate t f) :=
  .ite (hf h) (.ite (hf h).setTile (hf h).setTile)

theorem Keeps.regateAll (h : Keeps r s) {f : State → State} (hf : ∀ {s}, Keeps r s → Keeps r (f s)) :
    Keeps r (s.regateAll f) :=
  h.regate fun h => h.regate fun h => h.regate fun h => h.regate hf

theorem Keeps.closeNext (h : Keeps r s) {t' : Nat} : Keeps r (s.closeNext t') := .ite h h.setTile

theorem Keeps.accrue (h : Keeps r s) {e : Nat} : Keeps r (s.accrue e) := h.upd

theorem Keeps.elapse (h : Keeps r s) {n : Nat} : Keeps r (s.elapse n) :=
  .ite h (((((h.each fun h => h.bump).each fun h => h.bump).each fun h => h.bump).each fun h => h.bump.put).each fun h
      => h.bump)

theorem Keeps.advanceTo (h : Keeps r s) {due : Nat} : Keeps r (s.advanceTo due) := h.elapse.upd

theorem Keeps.idleEdge (h : Keeps r s) : Keeps r s.idleEdge := by
  unfold State.idleEdge
  split
  · exact h.advanceTo
  · exact h.advanceTo
  · exact h.advanceTo
  · exact h

/-! ### Auxiliary converters: shared operations -/

theorem Keeps.setAux (h : Keeps r s) {a : Aux} : Keeps r (s.setAux a) := h.upd

theorem Keeps.acount (h : Keeps r s) {f : Fld} {n : Nat} : Keeps r (s.acount f n) := h.bump

theorem Keeps.auxRefuse (h : Keeps r s) {code idx : Nat} : Keeps r (s.auxRefuse code idx) := h.put.put.put

theorem Keeps.seqAt (h : Keeps r s) {p : SeqPos} : Keeps r (s.seqAt p) := h.setAux.put

theorem Keeps.auxInterrupt (h : Keeps r s) {e : Nat} : Keeps r (s.auxInterrupt e) := by
  unfold State.auxInterrupt
  extract_lets _ s1
  have h1 : Keeps r s1 := by
    simp only [s1]
    split
    · exact .ite h.setAux.seqAt.acount h
    · exact h
  split
  · exact h1
  · exact h1.acount.seqAt

theorem Keeps.auxRequest (h : Keeps r s) {k : Nat} : Keeps r (s.auxRequest k) := by
  unfold State.auxRequest
  extract_lets
  refine .ite h ?_
  refine .ite h.acount ?_
  refine .ite ?_ ?_
  · split
    · exact h.setAux
    · exact h
  · split
    · exact .ite h.setAux h.setAux.auxInterrupt
    · exact h.setAux.auxInterrupt

theorem Keeps.auxPrim (h : Keeps r s) {p : Nat} : Keeps r (s.auxPrim p) := h.each fun h => h.auxRequest

/-! ### Links: shared operations -/

theorem Keeps.gcount (h : Keeps r s) {f : Fld} {i j n : Nat} : Keeps r (s.gcount f i j n) := h.bump

theorem Keeps.setLport (h : Keeps r s) {p : Nat} {x : LPort} : Keeps r (s.setLport p x) := h.upd

theorem Keeps.lcount (h : Keeps r s) {f : Fld} {p j n : Nat} : Keeps r (s.lcount f p j n) := h.bump

theorem Keeps.showOutst (h : Keeps r s) {p : Nat} : Keeps r (s.showOutst p) := h.put.put

theorem Keeps.setStrm (h : Keeps r s) {n : Nat} {x : Strm} : Keeps r (s.setStrm n x) := h.upd

theorem Keeps.showLevel (h : Keeps r s) {n : Nat} : Keeps r (s.showLevel n) := h.put.put

theorem Keeps.fill (h : Keeps r s) {n : Nat} : Keeps r (s.fill n) := h.setStrm.showLevel

theorem Keeps.setLlane (h : Keeps r s) {l : Nat} {x : LLane} : Keeps r (s.setLlane l x) := h.upd

theorem Keeps.lineSend (h : Keeps r s) {p lane lidx : Nat} {l : List Nat} : Keeps r (s.lineSend p lane lidx l) :=
  h.setLlane

theorem Keeps.portSend (h : Keeps r s) {p : Nat} {l : List Nat} : Keeps r (s.portSend p l) :=
  h.each fun h => h.lineSend

theorem Keeps.lsent (h : Keeps r s) {p : Nat} {l : List Nat} : Keeps r (s.lsent p l) := h.setLport

theorem Keeps.lsend (h : Keeps r s) {p : Nat} {f : LFrame} : Keeps r (s.lsend p f) := h.portSend.lsent

theorem Keeps.lsendOn (h : Keeps r s) {p lidx : Nat} {f : LFrame} : Keeps r (s.lsendOn p lidx f) := h.lineSend.lsent

theorem Keeps.sentNow (h : Keeps r s) {p : Nat} {old new : LClass} : Keeps r (s.sentNow p old new) :=
  h.each fun h => h.lsend

theorem Keeps.lpump (h : Keeps r s) {p : Nat} : Keeps r (s.lpump p) := .ite h.setLport.sentNow.sentNow.showOutst h

theorem Keeps.lpri (h : Keeps r s) {p : Nat} {f : LFrame} : Keeps r (s.lpri p f) := h.setLport.lpump

theorem Keeps.lbulk (h : Keeps r s) {p : Nat} {t' : LTx} : Keeps r (s.lbulk p t') :=
  (h.setLport.cond fun h => h.lsend.setLport).lpump

theorem Keeps.setFifoOf (h : Keeps r s) {k : LSrc} {f : Fifo} : Keeps r (s.setFifoOf k f) := by
  unfold State.setFifoOf
  extract_lets
  split
  · exact h.setStrm.fill
  · exact h.upd
  · exact h.upd

theorem Keeps.sendFrom (h : Keeps r s) {k : LSrc} {ports : List (Nat × Nat)} {first second : Bool} :
    KeepsOpt r (s.sendFrom k ports first second) := by
  unfold State.sendFrom
  extract_lets
  split
  · exact .none
  · exact .some (h.upd.each fun h => h.lbulk).setFifoOf

theorem Keeps.feedFrom (h : Keeps r s) {p : Nat} {k : LSrc} : KeepsOpt r (s.feedFrom p k) := by
  unfold State.feedFrom
  split
  exact .ite (.ite h.sendFrom .none) (.ite h.sendFrom (.ite h.sendFrom .none))

theorem Keeps.feedLocal (h : Keeps r s) {p : Nat} : KeepsOpt r (s.feedLocal p) := .findSome? h.feedFrom

theorem Keeps.forwardOne (h : Keeps r s) {p : Nat} : KeepsOpt r (s.forwardOne p) := by
  refine .findSome? fun {q} => ?_
  extract_lets
  split
  · exact .ite (.some h.setLport.lbulk) .none
  · exact .none

theorem Keeps.feedLoop (h : Keeps r s) {n p : Nat} : Keeps r (s.feedLoop n p) := by
  induction n generalizing s with
  | zero => exact h
  | succ n ih =>
    unfold State.feedLoop
    refine .ite ?_ h
    extract_lets _ q
    have hq : KeepsOpt r q := .ite (.orElse h.forwardOne h.feedLocal) (.orElse h.feedLocal h.forwardOne)
    clear_value q
    split
    · exact h
    · exact ih (hq _ rfl).setLport

theorem Keeps.feedPort (h : Keeps r s) {p : Nat} : Keeps r (s.feedPort p) := h.feedLoop

theorem Keeps.feedSink (h : Keeps r s) {k : LSrc} : Keeps r (s.feedSink k) :=
  (h.cond fun h => h.feedPort).cond fun h => h.feedPort

theorem Keeps.spreadFlare (h : Keeps r s) {f : Flare} {except : Option Nat} : Keeps r (s.spreadFlare f except) :=
  h.each fun h => h.lpri

theorem Keeps.sendFlare (h : Keeps r s) {f : Flare} : Keeps r (s.sendFlare f) :=
  .ite h.upd.gcount.spreadFlare h.gcount.put

/-! ### Buffer memory -/

theorem Keeps.unwrite (h : Keeps r s) {c : Nat → Bool} : Keeps r (s.unwrite c) :=
  ⟨fun k => (h.canon k).unwrite .., h.pending⟩

theorem Keeps.mcount (h : Keeps r s) {f : Fld} {n : Nat} : Keeps r (s.mcount f n) := h.bump

theorem Keeps.setWord (h : Keeps r s) {w v e : Nat} : Keeps r (s.setWord w v e) :=
  ⟨fun c => (h.canon c).setWord .., h.pending⟩

theorem Keeps.storeWord (h : Keeps r s) {w v : Nat} {poison : Bool} : Keeps r (s.storeWord w v poison) := h.setWord

theorem Keeps.uncorrectable (h : Keeps r s) {w : Nat} : Keeps r (s.uncorrectable w) := h.mcount.put.storeWord.fault

theorem Keeps.showTrk (h : Keeps r s) : Keeps r s.showTrk := h.each fun h => h.put.putB.put.put.putB

theorem Keeps.setTrk (h : Keeps r s) {l : List (Option Trk)} : Keeps r (s.setTrk l) := h.upd.showTrk

theorem Keeps.freeTrk (h : Keeps r s) {w : Nat} : Keeps r (s.freeTrk w) := .ite h.setTrk h

theorem Keeps.showRemap (h : Keeps r s) : Keeps r s.showRemap := h.put.each fun h => h.put.put.put

theorem Keeps.copyWord (h : Keeps r s) {w : Nat} : Keeps r (s.copyWord w) := by
  unfold State.copyWord
  split
  · exact h
  · exact h.setWord
  · exact h.setWord
  · exact h.uncorrectable

theorem Keeps.remapRow (h : Keeps r s) {r' : Nat × Nat} : Keeps r (s.remapRow r') := by
  unfold State.remapRow
  exact (h.upd.each fun h => h.copyWord).showRemap.put.audit.bringSpare

theorem Keeps.awaitRow (h : Keeps r s) {w : Nat} : Keeps r (s.awaitRow w) := .ite h (.ite h.remapRow h)

theorem execRowRemapDone_keeps (h : Keeps r s) : KeepsOut r (execRowRemapDone s) := by
  unfold execRowRemapDone
  refine .next ?_
  split
  · exact h
  · exact h.remapRow

theorem Keeps.readBack (h : Keeps r s) {w i : Nat} {t' : Trk} {l : List (Option Trk)} :
    Keeps r (s.readBack w i t' l) := by
  unfold State.readBack
  extract_lets
  split
  · exact h.setTrk
  · exact .ite h.upd.setTrk h.setTrk.put.fault
  · exact h.setTrk.uncorrectable

theorem Keeps.trackWord (h : Keeps r s) {w k v : Nat} : Keeps r (s.trackWord w k v) :=
  .ite h.upd.setTrk h.upd.storeWord.mcount.put.readBack

theorem Keeps.awaitRows (h : Keeps r s) {w n : Nat} : Keeps r (s.awaitRows w n) :=
  h.each fun h => h.cond fun h => h.awaitRow

theorem Keeps.readWord64 (h : Keeps r s) {w : Nat} : Keeps r (s.readWord64 w).1 := by
  unfold State.readWord64
  extract_lets
  refine .iteFst h ?_
  split
  · exact h
  · exact h.mcount.trackWord
  · exact h.mcount
  · exact h.freeTrk.uncorrectable

theorem Keeps.readWords (h : Keeps r s) {w n : Nat} : Keeps r (s.readWords w n).1 :=
  (Keeps.ite h h.mcount).awaitRows.foldlFst fun h => h.readWord64

theorem Keeps.readBytes (h : Keeps r s) {a n : Nat} : Keeps r (s.readBytes a n).1 := .iteFst h h.readWords

theorem Keeps.fillBlock (h : Keeps r s) {b : Nat} : Keeps r (s.fillBlock b) := .ite h h.upd

theorem Keeps.writeWord64 (h : Keeps r s) {w v : Nat} {poison : Bool} : Keeps r (s.writeWord64 w v poison) :=
  h.awaitRow.fillBlock.freeTrk.storeWord

theorem Keeps.writeWords (h : Keeps r s) {w : Nat} {l : List (Nat × Bool)} : Keeps r (s.writeWords w l) :=
  h.foldlFst fun h => h.writeWord64

theorem Keeps.writePart (h : Keeps r s) {w : Nat} {l : List (Nat × Nat)} {poison : Bool} :
    Keeps r (s.writePart w l poison) :=
  .ite h.writeWord64 h.awaitRows.readWord64.mcount.writeWord64

theorem Keeps.writeBytes (h : Keeps r s) {a : Nat} {l : List Nat} {poison : Bool} : Keeps r (s.writeBytes a l poison) :=
  .ite h (h.each fun h => h.writePart)

theorem Keeps.befall (h : Keeps r s) {w upset stuck : Nat} : Keeps r (s.befall w upset stuck) :=
  .ite h.awaitRow h.awaitRow.upd

theorem Keeps.validLost (h : Keeps r s) {b : Nat} : Keeps r (s.validLost b) :=
  (h.each fun h => h.upd.each fun h => h.setWord).draw.put

theorem execMemRead_keeps (h : Keeps r s) {addr : Nat} {upset stuck : List Nat} {lost : Bool} :
    KeepsOut r (execMemRead addr upset stuck lost s) :=
  .ite (.next ((h.cond fun h => h.validLost).each fun h => h.befall).readWords.upd) (.next h)

theorem execMemWrite_keeps (h : Keeps r s) {addr : Nat} {data : List Nat} {poison : Bool} :
    KeepsOut r (execMemWrite addr data poison s) :=
  .next (h.cond fun h => h.writeBytes)

theorem Keeps.memRefuse (h : Keeps r s) {code : Nat} : Keeps r (s.memRefuse code) := h.put.put

theorem Keeps.showCover (h : Keeps r s) : Keeps r s.showCover := h.put

theorem Keeps.memPartition (h : Keeps r s) {k v : Nat} : Keeps r (s.memPartition k v) := by
  unfold State.memPartition
  refine .ite h ?_
  refine .ite h.memRefuse ?_
  refine .ite h.memRefuse ?_
  refine .ite h.memRefuse ?_
  refine .ite h.memRefuse ?_
  refine (?_ : Keeps r _).unwrite.showCover
  split
  · exact h.put.put
  · exact h.put.put
  · exact h.put.put.put

theorem execMemPartitionWrite_keeps (h : Keeps r s) {which val : Nat} :
    KeepsOut r (execMemPartitionWrite which val s) :=
  .need (h.bar fun h => h.memPartition)

theorem execScrubStart_keeps (h : Keeps r s) {val : Nat} : KeepsOut r (execScrubStart val s) :=
  .need (h.bar fun h => .ite h.put.memRefuse (h.put.each fun h => h.put).upd.put.put)

theorem Keeps.scrubWord (h : Keeps r s) {w : Nat} : Keeps r (s.scrubWord w) := by
  unfold State.scrubWord
  extract_lets _ c q _
  have hq : Keeps r q.1 := h.awaitRow.mcount.readWord64
  clear_value c
  split
  · exact hq
  · exact hq.mcount.writeWord64
  · exact hq.mcount
  · exact .ite hq.mcount hq.mcount.put.put

theorem Keeps.scrubOver (h : Keeps r s) {n : Nat} : Keeps r (s.scrubOver n) :=
  (Keeps.ite (h.each fun h => h.each fun h => h.scrubWord).mcount (h.each fun h => h.each fun h => h.scrubWord)).put

theorem execScrubAbort_keeps (h : Keeps r s) {val done words : Nat} : KeepsOut r (execScrubAbort val done words s) :=
  .need (h.bar fun h => .ite (h.put.scrubOver.cond fun h => h.each fun h => h.scrubWord).put h.put)

theorem execScrubDone_keeps (h : Keeps r s) : KeepsOut r (execScrubDone s) := .next (.ite h.scrubOver.put.put h)

theorem Keeps.bar4Oor (h : Keeps r s) : Keeps r s.bar4Oor := h.bump.put

theorem execBar4Read_keeps (h : Keeps r s) {off n : Nat} : KeepsOut r (execBar4Read off n s) :=
  .need (.ite (.ite h.readBytes.upd h.bar4Oor.upd) h)

theorem execBar4Write_keeps (h : Keeps r s) {off : Nat} {data : List Nat} : KeepsOut r (execBar4Write off data s) :=
  .need (.ite (.ite h.bar4Oor (.ite h.mcount.put h.writeBytes)) h)

theorem execSramFuseProg_keeps (h : Keeps r s) {val : Nat} : KeepsOut r (execSramFuseProg val s) :=
  .need (h.bar fun h => h.guardedIn)

theorem Keeps.sramFuse (h : Keeps r s) {a : Nat} {ok : Bool} : Keeps r (s.sramFuse a ok) :=
  (h.upd.cond fun h => h.put).put

theorem execMemCntClr_keeps (h : Keeps r s) : KeepsOut r (execMemCntClr s) := .next (h.bar fun h => h.clearFields)

/-! ### Streams and packets -/

theorem Keeps.ecount (h : Keeps r s) {f : Fld} {n : Nat} : Keeps r (s.ecount f n) := h.bump

theorem Keeps.pumpStrm (h : Keeps r s) {n : Nat} : Keeps r (s.pumpStrm n) := h.fill.feedSink

theorem Keeps.form (h : Keeps r s) {n ty : Nat} {items : List SItem} {keep : Bool} :
    Keeps r (s.form n ty items keep).1 :=
  h.put.setStrm

theorem Keeps.enqueue (h : Keeps r s) {n : Nat} {p : SPkt} : Keeps r (s.enqueue n p) := h.setStrm.pumpStrm

theorem Keeps.discardPkt (h : Keeps r s) {n : Nat} {p : SPkt} : Keeps r (s.discardPkt n p) :=
  h.put.bump.bump.put.setStrm

theorem Keeps.overrunGap (h : Keeps r s) {n : Nat} : Keeps r (s.overrunGap n) := by
  unfold State.overrunGap
  extract_lets
  split
  · exact h
  · exact h.setStrm.form.enqueue

theorem Keeps.emit (h : Keeps r s) {n ty : Nat} {items : List SItem} {hold : Bool} : Keeps r (s.emit n ty items hold) :=
  .ite (.ite h.overrunGap.form.enqueue h.form.discardPkt) h.form.enqueue

theorem Keeps.emitFrame (h : Keeps r s) {n : Nat} {pkts : List (Nat × List SItem)} {hold : Bool} :
    Keeps r (s.emitFrame n pkts hold) := by
  unfold State.emitFrame
  extract_lets
  split
  · exact h
  · exact .ite (h.overrunGap.each fun h => h.form.enqueue) (h.each fun h => h.form.discardPkt)

theorem Keeps.closePkt (h : Keeps r s) {n : Nat} : Keeps r (s.closePkt n) := by
  unfold State.closePkt
  extract_lets
  split
  · exact h
  · exact h.setStrm.put.emit

theorem Keeps.endsWith (h : Keeps r s) {n : Nat} : Keeps r (s.endsWith n) := h.setStrm

theorem Keeps.pack (h : Keeps r s) {n ty : Nat} {i : SItem} {hold : Bool} : Keeps r (s.pack n ty i hold) := by
  unfold State.pack
  exact (h.cond fun h => h.closePkt).setStrm.put.cond fun h => h.closePkt

theorem Keeps.toStream (h : Keeps r s) {n ty : Nat} {i : SItem} : Keeps r (s.toStream n ty i) := by
  unfold State.toStream
  extract_lets
  refine .ite h.ecount.put ?_
  split
  · exact .ite h.ecount.put.setStrm h.pack
  · exact h.pack

theorem Keeps.mark (h : Keeps r s) {n e : Nat} : Keeps r (s.mark n e) := by
  unfold State.mark
  extract_lets _ _ _ _ _ s2
  have h2 : Keeps r s2 := by
    simp only [s2]
    split
    · exact h.closePkt.setStrm
    · exact h.closePkt.form.enqueue
  split
  · exact h2.setStrm
  · exact h2.setStrm.each fun h => h.pack

theorem execPacketFlush_keeps (h : Keeps r s) {stream : Nat} : KeepsOut r (execPacketFlush stream s) := by
  unfold execPacketFlush
  refine .need ?_
  split
  · exact h
  · exact h.advanceTo.closePkt

theorem execStreamOverrunGap_keeps (h : Keeps r s) {stream : Nat} : KeepsOut r (execStreamOverrunGap stream s) :=
  .need (.ite h.overrunGap h)

theorem Keeps.startStream (h : Keeps r s) {n : Nat} : Keeps r (s.startStream n) := h.put.setStrm

/-! ### Capture ring -/

theorem Keeps.setCtx (h : Keeps r s) {i : Nat} {c : Ctx} : Keeps r (s.setCtx i c) := h.upd

theorem Keeps.setTmpl (h : Keeps r s) {k : Nat} {t' : Tmpl} : Keeps r (s.setTmpl k t') := h.upd

theorem Keeps.setRing (h : Keeps r s) {r' : Ring} : Keeps r (s.setRing r') := h.upd

theorem Keeps.showOpen (h : Keeps r s) : Keeps r s.showOpen := h.put

theorem Keeps.missedGaps (h : Keeps r s) {k : Nat} {l : List SItem} : Keeps r (s.missedGaps k l) :=
  .ite h (.ite h.setTmpl (h.each fun h => h.pack))

theorem Keeps.endCtx (h : Keeps r s) {k i st : Nat} : Keeps r (s.endCtx k i st) :=
  .ite h.closePkt.endsWith.setCtx.setTmpl.upd.put.showOpen
      h.closePkt.endsWith.setCtx.setTmpl.upd.put.showOpen.setTmpl.missedGaps

theorem Keeps.beginExtract (h : Keeps r s) {k : Nat} {o : OpenCtx} : Keeps r (s.beginExtract k o) :=
  (h.closePkt.setCtx.emit.cond fun h => h.each fun h => h.pack).setTmpl

theorem Keeps.cutCtx (h : Keeps r s) {k i st : Nat} : Keeps r (s.cutCtx k i st) := by
  unfold State.cutCtx
  extract_lets
  split
  · exact h
  · exact (((h.cond fun h => h.beginExtract).cond fun h => h.setTmpl).each fun h => h.pack).setCtx.gcount.put.endCtx

theorem Keeps.extract (h : Keeps r s) {fuel k : Nat} : Keeps r (s.extract fuel k) := by
  induction fuel generalizing s with
  | zero => exact h
  | succ fuel ih =>
    unfold State.extract
    extract_lets
    split
    · exact h
    · refine .ite h ?_
      split
      · exact ih h.beginExtract
      · extract_lets
        split
        · exact h
        · refine .ite h ?_
          extract_lets s1 _ s2 s3
          have h1 : Keeps r s1 := h.setTmpl
          have h2 : Keeps r s2 := h1.foldlFst fun h => h.awaitRows.readWord64
          have h3 : Keeps r s3 := h2.cond fun h => h.setCtx
          exact .ite (ih (.ite h3.closePkt.emit h3.pack)) (ih h1)

theorem Keeps.follow (h : Keeps r s) : Keeps r s.follow := h.each fun h => .ite h h.extract

theorem execContextExtractionEnd_keeps (h : Keeps r s) {tmpl : Nat} : KeepsOut r (execContextExtractionEnd tmpl s) := by
  unfold execContextExtractionEnd
  refine .need ?_
  split
  · exact h
  · exact .ite h (.ite h.advanceTo.extract h.advanceTo.extract.endCtx)

theorem Keeps.ringGap (h : Keeps r s) : Keeps r s.ringGap := by
  unfold State.ringGap
  extract_lets
  split
  · exact h
  · exact .ite h.setRing h

theorem Keeps.ringTake (h : Keeps r s) {ty : Nat} {i : SItem} : Keeps r (s.ringTake ty i) :=
  .ite (.ite h.ringGap.setRing h.ringGap.setRing.gcount.put) h

theorem Keeps.newSegment (h : Keeps r s) {k : Nat} : Keeps r (s.newSegment k) := by
  unfold State.newSegment
  extract_lets
  split
  · exact h
  · exact (h.each fun h => .ite h (h.each fun h => .ite h.cutCtx h)).setRing.put.put

theorem Keeps.beginSegment (h : Keeps r s) {k : Nat} : Keeps r (s.beginSegment k) := h.newSegment.setRing

theorem Keeps.ringPut (h : Keeps r s) {w : Nat × Bool} : Keeps r (s.ringPut w) :=
  (h.cond fun h => h.beginSegment).writeWord64.setRing.put

theorem Keeps.ringItem (h : Keeps r s) {e : RingEnt} : Keeps r (s.ringItem e) := by
  unfold State.ringItem
  extract_lets
  split
  exact ((Keeps.ite h.setRing.ringPut h).each fun h => h.ringPut).writeWord64.setRing.cond fun h => h.gcount.put

theorem execRingWrite_keeps (h : Keeps r s) {n : Nat} : KeepsOut r (execRingWrite n s) :=
  .next (.ite (h.each fun h => by
    extract_lets
    split
    · exact h
    · exact h.setRing.ringItem).follow h)

theorem execRingOverrunGap_keeps (h : Keeps r s) : KeepsOut r (execRingOverrunGap s) := .next h.ringGap

theorem Keeps.ringMark (h : Keeps r s) {epoch : Nat} : Keeps r (s.ringMark epoch) := .ite h.setRing h

/-! ### Time base -/

theorem Keeps.putY (h : Keeps r s) {y : Int} : Keeps r (s.putY y) := h.put

theorem Keeps.timState (h : Keeps r s) {st : Nat} : Keeps r (s.timState st) := h.upd.put

theorem Keeps.ltPut (h : Keeps r s) {p : Nat} {o : Int} : Keeps r (s.ltPut p o) :=
  .ite h.put.upd ((h.put.upd.cond fun h => h.put.upd).cond fun h => h.upd)

theorem Keeps.etMoved (h : Keeps r s) {d : Int} : Keeps r (s.etMoved d) := h.upd.each fun h => h.ltPut

theorem Keeps.timeStep (h : Keeps r s) {off st : Nat} : Keeps r (s.timeStep off st) :=
  h.put.put.put.put.put.upd.etMoved.timState

theorem Keeps.timeFault (h : Keeps r s) : Keeps r s.timeFault := h.timState.put.put.fault

theorem Keeps.servo (h : Keeps r s) {slew : Bool} {err : Int} : Keeps r (s.servo slew err) := h.upd.putY

theorem Keeps.acquire (h : Keeps r s) {err : Int} : Keeps r (s.acquire err) := .ite h.upd.servo.timeStep h.upd.servo

theorem Keeps.track (h : Keeps r s) {err : Int} : Keeps r (s.track err) :=
  .ite h.timeFault (.ite (.ite (h.cond fun h => h.timState).servo.timState.put (h.cond fun h => h.timState).servo.upd)
      (.ite (h.cond fun h => h.timState).servo.timState (h.cond fun h => h.timState).servo.upd))

theorem Keeps.timeSample (h : Keeps r s) {err : Int} : Keeps r (s.timeSample err) :=
  .ite (.ite h.upd.commitAll.put.acquire h.upd.commitAll.put.track) h.upd

theorem Keeps.sourceLost (h : Keeps r s) : Keeps r s.sourceLost := .ite h.upd (.ite h.timState.put h)

theorem Keeps.choosePort (h : Keeps r s) : Keeps r s.choosePort := h.upd

theorem Keeps.timClose (h : Keeps r s) : Keeps r s.timClose := .ite h.commitAll.timState.put.put.put h

theorem Keeps.timOpen (h : Keeps r s) : Keeps r s.timOpen :=
  .ite h.put (.ite h.put.put.put.timState.upd.putY (.ite h.put.put.put.timState.upd.put (.ite
      h.put.put.put.timState.upd.choosePort h.put.put.put.timState.upd)))

theorem Keeps.timSet (h : Keeps r s) : Keeps r s.timSet := .ite h.timeStep h.put

theorem Keeps.writeLocked (h : Keeps r s) {f : Fld} {enabled : Bool} {v : Nat} {flag : Fld} {i j k : Nat} :
    Keeps r (s.writeLocked f enabled v flag i j k) :=
  .ite h (.ite h.put h.put)

theorem Keeps.timCtrl (h : Keeps r s) {v : Nat} : Keeps r (s.timCtrl v) :=
  ((h.writeLocked.writeLocked.put.cond fun h => h.timClose).cond fun h => h.timOpen).cond fun h => h.timSet

theorem execTimOpen_keeps (h : Keeps r s) {val : Nat} : KeepsOut r (execTimOpen val s) :=
  .need (h.bar fun h => h.timCtrl)

theorem execTimClose_keeps (h : Keeps r s) {val : Nat} : KeepsOut r (execTimClose val s) :=
  .need (h.bar fun h => h.timCtrl)

theorem execTimSet_keeps (h : Keeps r s) {val : Nat} : KeepsOut r (execTimSet val s) :=
  .need (h.bar fun h => h.timCtrl)

theorem execTimeSample_keeps (h : Keeps r s) {err : Int} : KeepsOut r (execTimeSample err s) := .next h.timeSample

theorem execTimeFaultRate_keeps (h : Keeps r s) : KeepsOut r (execTimeFaultRate s) := by
  unfold execTimeFaultRate
  extract_lets
  refine .next ?_
  split
  · exact .ite h.advanceTo.timeFault h
  · exact h

theorem Keeps.selectMaster (h : Keeps r s) : Keeps r s.selectMaster := by
  unfold State.selectMaster
  split
  · exact h.upd
  · extract_lets _ _ s2 _ s3
    have h2 : Keeps r s2 := Keeps.cond (h.cond fun h => h.put) fun h => h.upd
    have h3 : Keeps r s3 := h2.upd
    exact h3.put.putB.putB.putB.put.put

theorem execPtpAnnounceRx_keeps (h : Keeps r s) {hdr : PtpHdr} {m : Master} : KeepsOut r (execPtpAnnounceRx hdr m s) :=
  .ite (.next h.upd.selectMaster) (.next h)

theorem Keeps.ptpSample (h : Keeps r s) {rx origin corr : Int} : Keeps r (s.ptpSample rx origin corr) := by
  unfold State.ptpSample
  split
  · exact .ite h.timeSample h
  · exact h

theorem execPtpSyncRx_keeps (h : Keeps r s) {hdr : PtpHdr} {identity : Nat} {twoStep : Bool} {origin corr : Int}
    {sub : Nat} {syncLog rate : Int} :
    KeepsOut r (execPtpSyncRx hdr identity twoStep origin corr sub syncLog rate s) :=
  .ite (.ite (.next h.upd) (.next h.upd.ptpSample)) (.next h)

theorem execPtpFollowUpRx_keeps (h : Keeps r s) {hdr : PtpHdr} {identity : Nat} {origin corr : Int} :
    KeepsOut r (execPtpFollowUpRx hdr identity origin corr s) := by
  unfold execPtpFollowUpRx
  extract_lets
  split
  · exact .ite (.next h.upd.ptpSample) (.next h)
  · exact .next h

theorem execPtpDelayReqSend_keeps (h : Keeps r s) {sub : Nat} : KeepsOut r (execPtpDelayReqSend sub s) :=
  .ite (.next h.advanceTo.upd) (.next h)

theorem execPtpDelayRespRx_keeps (h : Keeps r s) {hdr : PtpHdr} {identity : Nat} {rx corr : Int} :
    KeepsOut r (execPtpDelayRespRx hdr identity rx corr s) := by
  unfold execPtpDelayRespRx
  extract_lets
  split
  · exact .ite (.next h.upd) (.next h)
  · exact .next h

theorem execPtpAnnounceTimeout_keeps (h : Keeps r s) : KeepsOut r (execPtpAnnounceTimeout s) :=
  .ite (.next h.advanceTo.upd.sourceLost.selectMaster) (.next h)

theorem execPtpSyncTimeout_keeps (h : Keeps r s) : KeepsOut r (execPtpSyncTimeout s) :=
  .next (.ite h.advanceTo.sourceLost h)

theorem execArpRequestRx_keeps (h : Keeps r s) {ip : Nat} : KeepsOut r (execArpRequestRx ip s) := .next (.ite h.upd h)

theorem Keeps.ppsMiss (h : Keeps r s) : Keeps r s.ppsMiss := .ite h.upd.sourceLost h.upd

theorem Keeps.ppsReject (h : Keeps r s) : Keeps r s.ppsReject := h.bump.put.ppsMiss

theorem execPpsEdge_keeps (h : Keeps r s) {rising : Bool} {sub : Nat} {ten : Option Int} :
    KeepsOut r (execPpsEdge rising sub ten s) :=
  .ite (.next h) (.ite (.next h.upd.ppsReject) (.next (.ite h.upd.put h.upd.put.timeSample)))

theorem execPpsEdgeMissing_keeps (h : Keeps r s) : KeepsOut r (execPpsEdgeMissing s) := .next (.ite h.ppsMiss h)

theorem execTenMhzLoss_keeps (h : Keeps r s) : KeepsOut r (execTenMhzLoss s) := .next (.ite h.upd.sourceLost h)

theorem execPpsSecondWrite_keeps (h : Keeps r s) {sec : Nat} : KeepsOut r (execPpsSecondWrite sec s) :=
  .next (h.bar fun h => h.put.put)

theorem execPpsOutRise_keeps (h : Keeps r s) : KeepsOut r (execPpsOutRise s) := .ite (.next h.advanceTo.upd) (.next h)

theorem execPpsOutFall_keeps (h : Keeps r s) : KeepsOut r (execPpsOutFall s) := by
  unfold execPpsOutFall
  split
  · exact .next h
  · exact .next h.advanceTo.upd

theorem execTimSnap_keeps (h : Keeps r s) : KeepsOut r (execTimSnap s) := .next (h.bar fun h => h.put.put.put.put)

theorem Keeps.skewMeasured (h : Keeps r s) {delays : List Nat} : Keeps r (s.skewMeasured delays) :=
  h.upd.each fun h => h.putB.cond fun h => h.put

theorem Keeps.skewMove (h : Keeps r s) : Keeps r s.skewMove := h.each fun h => h.put.putB

theorem execSkewRecalibrate_keeps (h : Keeps r s) {delays : List Nat} : KeepsOut r (execSkewRecalibrate delays s) :=
  .need (.ite h.advanceTo.skewMeasured h)

theorem execSkewForce_keeps (h : Keeps r s) {val : Nat} {delays : List Nat} : KeepsOut r (execSkewForce val delays s) :=
  .need (h.bar fun h => h.put.skewMeasured)

theorem execTimCntClr_keeps (h : Keeps r s) : KeepsOut r (execTimCntClr s) := .next (h.bar fun h => h.clearFields)

/-! ### Trigger primitives -/

theorem Keeps.gateEvent (h : Keeps r s) {p : Nat} {t' : Int} : Keeps r (s.gateEvent p t') :=
  .ite (((h.cond fun h => h.put).cond fun h => h.upd).cond fun h => h.upd) h

theorem Keeps.prim (h : Keeps r s) {p : Nat} {ev : PrimEv} : Keeps r (s.prim p ev) :=
  .ite h.gcount.upd.auxPrim.gateEvent h

theorem execPrimitiveEvent_keeps (h : Keeps r s) {prim : Nat} {t' : Int} : KeepsOut r (execPrimitiveEvent prim t' s) :=
  .need h.prim

theorem execPrimitivePulseEnd_keeps (h : Keeps r s) {prim : Nat} : KeepsOut r (execPrimitivePulseEnd prim s) := by
  unfold execPrimitivePulseEnd
  refine .need ?_
  split
  · exact h
  · exact .ite h.advanceTo.upd h

theorem execTodFire_keeps (h : Keeps r s) {tod : Nat} : KeepsOut r (execTodFire tod s) :=
  .need (.ite (Keeps.ite (Keeps.ite h h.advanceTo).upd.put (Keeps.ite h h.advanceTo).upd.put.put.put).prim h)

theorem execHostFire_keeps (h : Keeps r s) {code : Nat} : KeepsOut r (execHostFire code s) :=
  .need (h.bar fun h => h.prim)

theorem Keeps.setMask (h : Keeps r s) {u : Nat} {m : MaskUnit} : Keeps r (s.setMask u m) := h.upd

theorem Keeps.maskCommit (h : Keeps r s) {u : Nat} : Keeps r (s.maskCommit u) := (h.each fun h => h.commit).setMask

theorem Keeps.writeMask (h : Keeps r s) {upper : Bool} {v : Nat} : Keeps r (s.writeMask upper v) :=
  .ite h.setMask h.setMask.maskCommit

theorem Keeps.maskWait (h : Keeps r s) {u : Nat} : Keeps r (s.maskWait u) := h.setMask.put.maskCommit

theorem Keeps.maskStart (h : Keeps r s) {c : Nat} : Keeps r (s.maskStart c) := h.each fun h => .ite h.setMask h

theorem Keeps.maskInterval (h : Keeps r s) {u dt : Nat} : Keeps r (s.maskInterval u dt) :=
  .ite (h.setMask.cond fun h => h.put.gcount.put.putB.put.prim).put.maskCommit (.ite (h.setMask.cond fun h =>
      h.put.gcount.put.putB.put.prim).maskWait (h.setMask.cond fun h => h.put.gcount.put.putB.put.prim))

theorem Keeps.maskSample (h : Keeps r s) {e : Nat} {v : Int} {bad : Bool} {dt : Nat} :
    Keeps r (s.maskSample e v bad dt) :=
  h.each fun h => .ite (.ite h.put.setMask.maskInterval h.put.setMask) h

theorem execMaskRearm_keeps (h : Keeps r s) : KeepsOut r (execMaskRearm s) := .next (h.bar fun h => .ite h.maskWait h)

/-! ### Supply and temperature -/

theorem Keeps.vfeRamp (h : Keeps r s) : Keeps r s.vfeRamp := by
  unfold State.vfeRamp
  extract_lets
  split
  · exact h
  · exact .ite h.putB h.putB.upd.put

theorem Keeps.clampTile (h : Keeps r s) {n : Nat} : Keeps r (s.clampTile n) := by
  unfold State.clampTile
  exact h.put.cond fun h => h.put

theorem Keeps.clampPort (h : Keeps r s) {p : Nat} : Keeps r (s.clampPort p) := by
  unfold State.clampPort
  exact h.put.cond fun h => h.put

theorem Keeps.wearCheck (h : Keeps r s) : Keeps r s.wearCheck := h.each fun h => .ite h.put.upd.put.audit h.put

theorem Keeps.swingTo (h : Keeps r s) {t' : Int} : Keeps r (s.swingTo t') := .ite (h.upd.cond fun h => h.wearCheck) h

theorem execKvtEvaluation_keeps (h : Keeps r s) {meas : Nat} {tj : List Int} {tjc : Int} {pwr : Nat} :
    KeepsOut r (execKvtEvaluation meas tj tjc pwr s) := by
  refine .need ?_
  extract_lets +onlyGivenNames _ _ s3
  have h3 : Keeps r s3 := h.advanceTo.put.put.swingTo
  clear_value s3
  split
  · exact h3
  · extract_lets _ _ _ _ s6 s7
    have h6 : Keeps r s6 := (h3.each fun h => h.put).put.put
    exact (h6.cond fun h => h.upd).each fun h => h.clampTile

theorem execVfeSet_keeps (h : Keeps r s) {v : Nat} : KeepsOut r (execVfeSet v s) :=
  .next (h.bar fun h => .ite h h.put.vfeRamp)

theorem execVfeRampEnd_keeps (h : Keeps r s) : KeepsOut r (execVfeRampEnd s) := by
  unfold execVfeRampEnd
  split
  · exact .next h
  · exact .ite (.next h.advanceTo.put) (.next h)

theorem execVfePhaseSwap_keeps (h : Keeps r s) {phase : Nat} : KeepsOut r (execVfePhaseSwap phase s) :=
  .need (.ite h (.ite (.ite ((h.put.unitOut.cond fun h => h.bringSpare).cond fun h =>
      h.put).vfeRamp.put.put.put.startFails ((h.put.unitOut.cond fun h => h.bringSpare).cond fun h =>
      h.put).vfeRamp.put.put.put.fault) ((h.put.unitOut.cond fun h => h.bringSpare).cond fun h => h.put).vfeRamp))

theorem execJunctionOvertemp_keeps (h : Keeps r s) {die : Nat} : KeepsOut r (execJunctionOvertemp die s) :=
  .need (.ite (h.regateAll fun h => h.upd.vfeRamp).fault h)

theorem execJunctionTempRelease_keeps (h : Keeps r s) : KeepsOut r (execJunctionTempRelease s) :=
  .next (h.regateAll fun h => h.upd.vfeRamp)

/-! ### Service records -/

theorem execSessionRequest_keeps (h : Keeps r s) {role : Nat} : KeepsOut r (execSessionRequest role s) :=
  .next (h.bar fun h => .ite h.idleClose.put (.ite h.idleClose.put (.ite h.idleClose.put
      h.idleClose.put.draw.upd.put.put)))

theorem Keeps.wrongResponse (h : Keeps r s) : Keeps r s.wrongResponse :=
  .ite h.upd.put.put.put.audit h.upd.put.put.upd.put.put.put.audit

theorem execSessionResponse_keeps (h : Keeps r s) {hi : Nat} : KeepsOut r (execSessionResponse hi s) :=
  .next (h.bar fun h => .ite h.put (.ite h.put (.ite h.put.put.audit (.ite h.upd.put.put.put.put.put.audit
      h.wrongResponse))))

theorem execSessionClose_keeps (h : Keeps r s) : KeepsOut r (execSessionClose s) :=
  .next (h.bar fun h => h.idleClose.closeSession)

theorem execSessionIdleTimeout_keeps (h : Keeps r s) : KeepsOut r (execSessionIdleTimeout s) :=
  .ite (.next h.advanceTo.closeSession) (.next h)

theorem execLockoutExpire_keeps (h : Keeps r s) : KeepsOut r (execLockoutExpire s) :=
  .ite (.next h.advanceTo.upd.put.put) (.next h)

theorem execKeyProgram_keeps (h : Keeps r s) {role chk : Nat} : KeepsOut r (execKeyProgram role chk s) :=
  .next (h.bar fun h => h.guarded)

theorem execModuleIdProgram_keeps (h : Keeps r s) {id : Nat} : KeepsOut r (execModuleIdProgram id s) :=
  .next (h.bar fun h => h.guarded)

theorem Keeps.loadRecord (h : Keeps r s) : Keeps r s.loadRecord :=
  ((Keeps.ite (h.each fun h => h.put).upd.put.put (h.each fun h => h.put).upd.put.put.upd.put.put).each fun h =>
      h.audit).upd.wearCheck

theorem execWearMinuteUpdate_keeps (h : Keeps r s) {tConc tTile tMax : Int} :
    KeepsOut r (execWearMinuteUpdate tConc tTile tMax s) :=
  .ite (.next h.advanceTo.upd.swingTo.wearCheck) (.next h)

theorem execDosimeterRead_keeps (h : Keeps r s) {dose : List Nat} : KeepsOut r (execDosimeterRead dose s) :=
  .need (.ite h.advanceTo.upd.wearCheck h)

theorem execServiceRecordSave_keeps (h : Keeps r s) : KeepsOut r (execServiceRecordSave s) :=
  .ite (.next h.advanceTo.upd) (.next h)

theorem execControlViaTest_keeps (h : Keeps r s) {tile failed : Nat} : KeepsOut r (execControlViaTest tile failed s) :=
  .need (.ite h (.ite h.viaSpare.upd.accrue.put.fault h.viaSpare))

/-! ### Auxiliary signals and calibration -/

theorem Keeps.auxStage (h : Keeps r s) {f : Fld} {v i j : Nat} : Keeps r (s.auxStage f v i j) :=
  .ite h.stage.put.setAux h.put.unstage.putB

theorem Keeps.excStart (h : Keeps r s) {e : Nat} : Keeps r (s.excStart e) := h.setAux.put.put.put

theorem Keeps.excMeasure (h : Keeps r s) {imeas : Nat} : Keeps r (s.excMeasure imeas) := h.cond fun h => h.put

theorem Keeps.excFlip (h : Keeps r s) {e : Nat} : Keeps r (s.excFlip e) := h.setAux.put

theorem Keeps.auxCommit (h : Keeps r s) {e : Nat} : Keeps r (s.auxCommit e) := by
  unfold State.auxCommit
  extract_lets
  refine .ite ?_ h
  split
  · exact .ite h.commitAll.put.setAux h.commitAll.put.setAux.excStart
  · exact .ite h h.setAux.auxRefuse

theorem Keeps.auxWrap (h : Keeps r s) {e : Nat} : Keeps r (s.auxWrap e) :=
  .ite (.ite (h.auxCommit.cond fun h => h.excFlip) (.ite h.auxCommit.excFlip h.auxCommit.setAux)) h.auxCommit

theorem Keeps.entryBegins (h : Keeps r s) {e : Nat} : Keeps r (s.entryBegins e) := h.setAux

theorem Keeps.seqBegin (h : Keeps r s) : Keeps r s.seqBegin := h.seqAt

theorem Keeps.seqNext (h : Keeps r s) {e : Nat} : Keeps r (s.seqNext e) := by
  unfold State.seqNext
  extract_lets
  split
  · exact h.entryBegins.setAux.seqAt
  · split
    · exact h.entryBegins.seqAt
    · exact h.entryBegins.auxWrap.seqBegin

theorem Keeps.auxDue (h : Keeps r s) {kind e w avg : Nat} {l : List Conv} : Keeps r (s.auxDue kind e w avg l) :=
  h.setAux

theorem Keeps.takeRsw (h : Keeps r s) {e : Nat} : Keeps r (s.takeRsw e) := h.setAux

theorem Keeps.auxLose (h : Keeps r s) {c : Conv} : Keeps r (s.auxLose c) := h.setAux.acount

theorem Keeps.auxConvert (h : Keeps r s) {p : SeqPos} {e : Nat} {signal : Int} : Keeps r (s.auxConvert p e signal) :=
  .ite (Keeps.ite (.ite ((h.cond fun h => h.takeRsw).cond fun h => h.acount).auxLose ((h.cond fun h => h.takeRsw).cond
      fun h => h.acount).auxDue) ((h.cond fun h => h.takeRsw).cond fun h => h.acount)).seqAt.setAux.seqNext (Keeps.ite
      (.ite ((h.cond fun h => h.takeRsw).cond fun h => h.acount).auxLose ((h.cond fun h => h.takeRsw).cond fun h =>
      h.acount).auxDue) ((h.cond fun h => h.takeRsw).cond fun h => h.acount)).seqAt.setAux

theorem Keeps.auxDelayTick (h : Keeps r s) {p : SeqPos} {e : Nat} : Keeps r (s.auxDelayTick p e) :=
  .ite h.seqAt.setAux.seqNext h.seqAt.setAux

theorem Keeps.calBegin (h : Keeps r s) {e : Nat} : Keeps r (s.calBegin e) :=
  .ite (.ite h.setAux.put (.ite h.setAux h.setAux.put)) h

theorem Keeps.auxRunner (h : Keeps r s) {e : Nat} : Keeps r (s.auxRunner e) := by
  unfold State.auxRunner
  extract_lets
  split
  · exact h.putB.setAux
  · exact .ite h.putB.setAux h.putB

theorem execAuxTick_keeps (h : Keeps r s) {signal : Int} {imeas : Nat} : KeepsOut r (execAuxTick signal imeas s) := by
  unfold execAuxTick
  extract_lets
  refine .next ?_
  refine .ite ?_ h
  split
  · exact .ite h.advanceTo.setAux.excMeasure.calBegin.auxRunner
      h.advanceTo.setAux.excMeasure.calBegin.auxRunner.entryBegins.seqBegin
  · exact .ite h.advanceTo.setAux.excMeasure.calBegin.auxRunner.acount (.ite
      h.advanceTo.setAux.excMeasure.calBegin.auxRunner.auxConvert
      h.advanceTo.setAux.excMeasure.calBegin.auxRunner.auxDelayTick)

theorem execAuxInjectFire_keeps (h : Keeps r s) {val : Nat} : KeepsOut r (execAuxInjectFire val s) :=
  .next (h.bar fun h => h.each fun h => h.auxRequest)

theorem execAuxInjectedSample_keeps (h : Keeps r s) {signal : Int} : KeepsOut r (execAuxInjectedSample signal s) := by
  unfold execAuxInjectedSample
  refine .next ?_
  split
  · refine .ite ?_ h
    extract_lets
    split
    exact (h.cond fun h => h.auxInterrupt).advanceTo.setAux.takeRsw.auxDue
  · exact h

theorem Keeps.auxPush (h : Keeps r s) {e : Nat × Nat} : Keeps r (s.auxPush e) := by
  unfold State.auxPush
  exact h.setAux.put.cond fun h => h.put

theorem Keeps.auxGap (h : Keeps r s) {start : Nat} {len : Option Nat} {count : Nat} :
    Keeps r (s.auxGap start len count) :=
  (h.setAux.cond fun h => h.auxPush).put

theorem Keeps.auxCloseLoss (h : Keeps r s) : Keeps r s.auxCloseLoss := by
  unfold State.auxCloseLoss
  split
  · exact .ite h.auxGap h
  · exact h

theorem Keeps.auxEnqueue (h : Keeps r s) {w0 w1 : Nat} {c : Conv} : Keeps r (s.auxEnqueue w0 w1 c) :=
  .ite h.auxCloseLoss.auxPush h.auxCloseLoss.auxLose

theorem Keeps.rangeStep (h : Keeps r s) {e w : Nat} {ovr : Bool} {code : Int} : Keeps r (s.rangeStep e w ovr code) :=
  .ite h.setAux h

theorem execAuxResult_keeps (h : Keeps r s) : KeepsOut r (execAuxResult s) := by
  unfold execAuxResult
  extract_lets
  refine .next ?_
  split
  · exact h
  · split
    · exact h.setAux
    · split
      exact .ite ((h.advanceTo.setAux.acount.put.cond fun h => h.acount.put).cond fun h =>
          h.auxEnqueue).rangeStep.maskSample ((h.advanceTo.setAux.acount.put.cond fun h => h.acount.put).cond fun h =>
          h.auxEnqueue)

theorem execAuxQueueSnapshot_keeps (h : Keeps r s) : KeepsOut r (execAuxQueueSnapshot s) :=
  .next (h.bar fun h => h.setAux.upd)

theorem execAuxQueueRemove_keeps (h : Keeps r s) : KeepsOut r (execAuxQueueRemove s) :=
  .next (h.bar fun h => h.setAux.put.upd)

theorem execAuxGapRecord_keeps (h : Keeps r s) : KeepsOut r (execAuxGapRecord s) := by
  unfold execAuxGapRecord
  refine .next ?_
  split
  · exact h
  · exact h.advanceTo.auxCloseLoss

theorem Keeps.mapBusy (h : Keeps r s) {f : Conv → Conv} : Keeps r (s.mapBusy f) := h.setAux

theorem Keeps.calStruck (h : Keeps r s) {c : Bool} : Keeps r (s.calStruck c) := h.cond fun h => h.setAux

theorem execAxClampConduct_keeps (h : Keeps r s) {volts : List Int} : KeepsOut r (execAxClampConduct volts s) :=
  .next (.ite (.ite h.put.calStruck h.put.calStruck.setAux) h.put.calStruck.put.put.setAux.mapBusy)

theorem execWireBreakDetect_keeps (h : Keeps r s) {entry : Nat} {check : WireCheck} :
    KeepsOut r (execWireBreakDetect entry check s) :=
  .need (.ite h.setAux.calStruck.put.put.mapBusy h)

theorem execWireClear_keeps (h : Keeps r s) {entry : Nat} : KeepsOut r (execWireClear entry s) :=
  .need (.ite h.advanceTo.calStruck.setAux h)

theorem execExcitationLimit_keeps (h : Keeps r s) {imeas : Nat} : KeepsOut r (execExcitationLimit imeas s) :=
  .next (.ite h.excMeasure.put.put h)

theorem execExcitationLimitClear_keeps (h : Keeps r s) {imeas : Nat} : KeepsOut r (execExcitationLimitClear imeas s) :=
  .next h.excMeasure.put

theorem Keeps.calFail (h : Keeps r s) {err : Nat} : Keeps r (s.calFail err) := h.put.put.put.setAux

theorem Keeps.calStep (h : Keeps r s) {c : AuxCal} : Keeps r (s.calStep c) :=
  .ite h.calFail (.ite h.calFail (.ite h.calFail h.setAux.put.put))

theorem execAuxCalZero_keeps (h : Keeps r s) {val : Nat} : KeepsOut r (execAuxCalZero val s) :=
  .need (h.bar fun h => .ite h.calFail h.calStep)

theorem execAuxCalFull_keeps (h : Keeps r s) {val : Nat} : KeepsOut r (execAuxCalFull val s) :=
  .need (h.bar fun h => .ite h.calStep (.ite h.calFail h.calFail))

theorem execAuxCalAbort_keeps (h : Keeps r s) {val : Nat} : KeepsOut r (execAuxCalAbort val s) :=
  .need (h.bar fun h => .ite h.calFail h)

theorem execAuxCalStepEnd_keeps (h : Keeps r s) {signals : List Int} : KeepsOut r (execAuxCalStepEnd signals s) := by
  unfold execAuxCalStepEnd
  refine .next ?_
  split
  · exact h
  · refine .ite ?_ h
    split
    refine .ite h.advanceTo.setAux.calFail ?_
    refine .ite ?_ ?_
    · extract_lets
      split
      · exact h.advanceTo.setAux.put.calFail
      · refine (?_ : Keeps r _).put.put
        split
        · exact h.advanceTo.setAux.put.auxStage.auxStage
        · exact h.advanceTo.setAux.put.auxStage
    · refine .ite ?_ h.advanceTo.setAux.put.setAux.put
      refine (?_ : Keeps r _).put.put
      split
      · exact h.advanceTo.setAux.put.auxStage.auxStage
      · exact h.advanceTo.setAux.put.auxStage

theorem execAuxCalTimeout_keeps (h : Keeps r s) : KeepsOut r (execAuxCalTimeout s) :=
  .next (.ite h.advanceTo.calFail h)

theorem Keeps.convFails (h : Keeps r s) {spare : Bool} : Keeps r (s.convFails spare) := by
  unfold State.convFails
  extract_lets
  refine .ite h ?_
  refine .ite ?_ (h.put.put.unitOut.cond fun h => h.bringSpare).fault
  split
  · exact ((h.put.put.unitOut.cond fun h => h.bringSpare).fault.setAux.cond fun h => h.calFail).auxCloseLoss.auxGap
  · exact ((h.put.put.unitOut.cond fun h => h.bringSpare).fault.setAux.cond fun h => h.calFail).auxCloseLoss.auxGap

theorem execAuxConverterCheck_keeps (h : Keeps r s) {main spare mainRef spareRef : Int} :
    KeepsOut r (execAuxConverterCheck main spare mainRef spareRef s) :=
  .next (.ite (.ite ((h.advanceTo.setAux.acount.advanceTo.cond fun h => h.convFails).cond fun h => h.convFails)
      h.advanceTo.setAux) h)

theorem Keeps.auxStart (h : Keeps r s) : Keeps r s.auxStart := h.setAux.excStart.putB.put

theorem Keeps.auxStop (h : Keeps r s) : Keeps r s.auxStop := (h.cond fun h => h.calFail).setAux.put.excStart

theorem Keeps.auxCtrl (h : Keeps r s) {v : Nat} : Keeps r (s.auxCtrl v) := by
  unfold State.auxCtrl
  extract_lets
  refine .ite ?_ (.ite h.put.auxStop h.put)
  split
  · exact h.auxRefuse
  · exact h.put.auxStart

theorem execAuxEnable_keeps (h : Keeps r s) {val : Nat} : KeepsOut r (execAuxEnable val s) :=
  .need (h.bar fun h => h.auxCtrl)

theorem execAuxDisable_keeps (h : Keeps r s) {val : Nat} : KeepsOut r (execAuxDisable val s) :=
  .need (h.bar fun h => h.auxCtrl)

theorem Keeps.pinCfg (h : Keeps r s) {p v : Nat} : Keeps r (s.pinCfg p v) :=
  .ite h.auxRefuse (.ite h.auxRefuse (Keeps.ite h.auxRefuse h.put).put)

theorem execAuxPinCfgWrite_keeps (h : Keeps r s) {pin val : Nat} : KeepsOut r (execAuxPinCfgWrite pin val s) :=
  .need (h.bar fun h => h.pinCfg)

theorem execAuxCntClr_keeps (h : Keeps r s) : KeepsOut r (execAuxCntClr s) := .next (h.bar fun h => h.clearFields)

/-! ### Compression blocks -/

theorem Keeps.setCctx (h : Keeps r s) {c : Nat} {x : CmpCtx} : Keeps r (s.setCctx c x) := h.upd.put.put.putB

theorem Keeps.cmpCount (h : Keeps r s) {f : Fld} {c n : Nat} : Keeps r (s.cmpCount f c n) := h.bump

theorem Keeps.saveCtx (h : Keeps r s) {c : Nat} : Keeps r (s.saveCtx c) := h.writeWords

/-- A function of the state that keeps. Stated of the function itself, so that its body is compared as it stands:
    applied to its
arguments, the kernel would run the read of 2,048 words to find which case its match takes. -/
structure KeepsFn {α : Type} (f : State → α → State) : Prop where
  keeps : ∀ {r s : State} {a : α}, Keeps r s → Keeps r (f s a)

theorem loadCtx_keepsFn : KeepsFn State.loadCtx := by
  delta State.loadCtx
  refine ⟨fun {r s c} h => ?_⟩
  have hq : Keeps r (s.readWords (s.spillWord c) 2048).1 := h.readWords
  generalize s.readWords (s.spillWord c) 2048 = q at hq
  extract_lets _ x
  split
  · exact hq.setCctx
  · exact hq.setCctx.put

theorem Keeps.loadCtx (h : Keeps r s) {c : Nat} : Keeps r (s.loadCtx c) := loadCtx_keepsFn.keeps h

theorem Keeps.setResident (h : Keeps r s) {e : Nat} {l : List Nat} : Keeps r (s.setResident e l) := h.upd

theorem Keeps.spillCtx (h : Keeps r s) {c : Nat} : Keeps r (s.spillCtx c) := h.saveCtx.setCctx.put.put

theorem Keeps.makeResident (h : Keeps r s) {c : Nat} {restore : Bool} : Keeps r (s.makeResident c restore) := by
  unfold State.makeResident
  refine .ite h.setResident ?_
  refine (?_ : Keeps r _).setCctx.put
  refine (?_ : Keeps r _).setResident.cond fun h => h.loadCtx.setCctx
  refine (?_ : Keeps r _).cond fun h => h.cmpCount
  split
  · exact h
  · exact h.spillCtx

theorem Keeps.saveCmd (h : Keeps r s) {c : Nat} : Keeps r (s.saveCmd c) :=
  (h.cond fun h => h.makeResident).saveCtx.put.put

theorem Keeps.ctxCommand (h : Keeps r s) {c : Nat} : Keeps r (s.ctxCommand c) := by
  unfold State.ctxCommand
  extract_lets _ s1 s2 s3
  have h1 : Keeps r s1 := h.cond fun h => h.saveCmd
  have h2 : Keeps r s2 := h1.cond fun h => h.makeResident.loadCtx
  have h3 : Keeps r s3 := h2.cond fun h => h.setCctx
  exact h3.setCctx

theorem Keeps.blockEnd (h : Keeps r s) {c : Nat} : Keeps r (s.blockEnd c) := (h.each fun h => h.commit).ctxCommand

theorem Keeps.closeBlock (h : Keeps r s) {c : Nat} {ctxEnd : Bool} : Keeps r (s.closeBlock c ctxEnd) :=
  .ite h ((h.setCctx.cmpCount.cond fun h => h.cmpCount.put).cond fun h => h.cmpCount.put).feedSink.blockEnd

theorem Keeps.flushDue (h : Keeps r s) {c : Nat} : Keeps r (s.flushDue c) := by
  unfold State.flushDue
  split
  · exact .ite h.closeBlock h
  · exact h

theorem execCmpInputWord_keeps (h : Keeps r s) {ctx : Nat} {fault : Bool} :
    KeepsOut r (execCmpInputWord ctx fault s) := by
  unfold execCmpInputWord
  refine .need ?_
  split
  · exact h
  · refine .ite h.flushDue ?_
    extract_lets
    split
    · exact .ite h.flushDue.setStrm.closeBlock h.flushDue
    · exact .ite (h.flushDue.cond fun h => h.makeResident).setCctx.cmpCount.setFifoOf.feedSink.closeBlock
        (h.flushDue.cond fun h => h.makeResident).setCctx.cmpCount.setFifoOf.feedSink

theorem execCmpFlushTimeout_keeps (h : Keeps r s) {ctx : Nat} {fault : Bool} :
    KeepsOut r (execCmpFlushTimeout ctx fault s) := by
  unfold execCmpFlushTimeout
  refine .need ?_
  split
  · exact h
  · exact h.advanceTo.setCctx.closeBlock

theorem Keeps.cmpCtrl (h : Keeps r s) {v : Nat} : Keeps r (s.cmpCtrl v) := .ite h.put h.put.memRefuse

theorem Keeps.cmpCmd (h : Keeps r s) {v : Nat} : Keeps r (s.cmpCmd v) := by
  unfold State.cmpCmd
  exact h.put.setCctx.cond fun h => h.ctxCommand

theorem execCmpSave_keeps (h : Keeps r s) {val : Nat} : KeepsOut r (execCmpSave val s) :=
  .need (h.bar fun h => h.cmpCmd)

theorem execCmpRestore_keeps (h : Keeps r s) {val : Nat} : KeepsOut r (execCmpRestore val s) :=
  .need (h.bar fun h => h.cmpCmd)

theorem execCmpReset_keeps (h : Keeps r s) {val : Nat} : KeepsOut r (execCmpReset val s) :=
  .need (h.bar fun h => h.cmpCmd)

theorem execCmpCntClr_keeps (h : Keeps r s) : KeepsOut r (execCmpCntClr s) := .next (h.bar fun h => h.clearFields)

theorem Keeps.strmCfg (h : Keeps r s) {n v : Nat} : Keeps r (s.strmCfg n v) :=
  .ite (.ite h.put.put.put (h.put.put.put.startStream.cond fun h => h.setCctx)) (.ite (h.put.put.closePkt.put.cond fun h
      => h.closeBlock) h.put.put)

theorem execStreamEnable_keeps (h : Keeps r s) {stream val : Nat} : KeepsOut r (execStreamEnable stream val s) :=
  .need (h.bar fun h => h.strmCfg)

theorem execStreamDisable_keeps (h : Keeps r s) {stream val : Nat} : KeepsOut r (execStreamDisable stream val s) :=
  .need (h.bar fun h => h.strmCfg)

/-! ### Event engines and rate groups -/

theorem Keeps.rmapPut (h : Keeps r s) {i v : Nat} : Keeps r (s.rmapPut i v) := .ite h.put.put (.ite h.upd h.upd)

theorem Keeps.rmapWrite (h : Keeps r s) {i part v : Nat} : Keeps r (s.rmapWrite i part v) := by
  unfold State.rmapWrite
  split
  · exact h.upd
  · dsimp only
    split
    · exact .ite h.upd.rmapPut h.upd
    · exact h.upd
  · exact h.upd.rmapPut

theorem execRmapEntryWrite_keeps (h : Keeps r s) {entry part val : Nat} :
    KeepsOut r (execRmapEntryWrite entry part val s) :=
  .need (h.bar fun h => h.rmapWrite)

theorem execRmapCommit_keeps (h : Keeps r s) {val : Nat} : KeepsOut r (execRmapCommit val s) :=
  .need (h.bar fun h => .ite h.put.put h.put.put)

theorem Keeps.rmapEpoch (h : Keeps r s) {e : Nat} : Keeps r (s.rmapEpoch e).1 := by
  unfold State.rmapEpoch
  extract_lets s0 _ s1
  have h0 : Keeps r s0 := h.put
  have h1 : Keeps r s1 := h0.upd
  exact .iteFst h1.upd.put.put.put.put h1

theorem Keeps.mapTo (h : Keeps r s) {n ty : Nat} {i : SItem} : Keeps r (s.mapTo n ty i) :=
  .ite h.gcount.put h.toStream

theorem Keeps.gapTo (h : Keeps r s) {port : Nat} {entries : List Nat} {items : List SItem} :
    Keeps r (s.gapTo port entries items) := by
  unfold State.gapTo
  split
  exact (Keeps.ite h.ecount (h.each fun h => h.each fun h => h.mapTo)).cond fun h => h.each fun h => h.ringTake

theorem Keeps.transportGap (h : Keeps r s) {t' : Nat} {col : Option Nat} {kind : Nat} {start stop : Int} {cont : Bool}
    {lost : Nat} :
    Keeps r (s.transportGap t' col kind start stop cont lost) := by
  unfold State.transportGap
  extract_lets
  refine .ite ?_ h.gapTo
  split
  · exact .ite (h.each fun h => h.pack) h.upd
  · exact h.each fun h => h.toStream

theorem Keeps.openGap (h : Keeps r s) {t' : Nat} {col : Option Nat} {kind since : Nat} :
    Keeps r (s.openGap t' col kind since) :=
  h.upd

theorem Keeps.closeGap (h : Keeps r s) {t' kind : Nat} : Keeps r (s.closeGap t' kind) := by
  unfold State.closeGap
  extract_lets
  split
  · exact h
  · exact h.upd.transportGap

theorem Keeps.gapsEpoch (h : Keeps r s) : Keeps r s.gapsEpoch := (h.each fun h => h.transportGap).upd

theorem Keeps.setEngine (h : Keeps r s) {e : Nat} {x : Engine} : Keeps r (s.setEngine e x) := h.upd.put.put

theorem Keeps.ccount (h : Keeps r s) {f : Fld} {e : Nat} : Keeps r (s.ccount f e) := h.bump

theorem Keeps.emitCluster (h : Keeps r s) {e : Nat} {c : Cluster} {split : Bool} {err : Nat} :
    Keeps r (s.emitCluster e c split err) :=
  .ite h (.ite ((h.cond fun h => h.ccount.put).cond fun h => h.ccount.put).mapTo (((((h.cond fun h => h.ccount.put).cond
      fun h => h.ccount.put).ccount.cond fun h => h.ccount.put).cond fun h => h.ccount).cond fun h => h.ccount).mapTo)

theorem Keeps.releaseHit (h : Keeps r s) {e err : Nat} {g : RHit} : Keeps r (s.releaseHit e g err) := by
  unfold State.releaseHit
  extract_lets _ _ _ _ first
  clear_value first
  split
  · exact h.setEngine
  · exact .ite h.setEngine (.ite h.setEngine h.setEngine.emitCluster)

theorem Keeps.clusterHit (h : Keeps r s) {e : Nat} {h' : EHit} {rule stream err : Nat} :
    Keeps r (s.clusterHit e h' rule stream err) :=
  .ite h.ccount.releaseHit h.ccount.setEngine

theorem Keeps.releaseDue (h : Keeps r s) {e : Nat} {r' : RHit} {err : Nat} : Keeps r (s.releaseDue e r' err) :=
  .ite h.releaseHit h.setEngine

theorem execClusterRelease_keeps (h : Keeps r s) {engine : Nat} {errs : List Nat} :
    KeepsOut r (execClusterRelease engine errs s) := by
  unfold execClusterRelease
  refine .need ?_
  split
  · exact h
  · exact h.advanceTo.setEngine.each fun h => h.releaseDue

theorem execClusterClose_keeps (h : Keeps r s) {engine : Nat} {errs : List Nat} :
    KeepsOut r (execClusterClose engine errs s) := by
  unfold execClusterClose
  refine .need ?_
  split
  · exact h
  · exact h.advanceTo.setEngine.each fun h => h.emitCluster

theorem Keeps.route (h : Keeps r s) {tile : Nat} {w : TWord} {errs : List Nat} : Keeps r (s.route tile w errs) := by
  unfold State.route
  extract_lets
  refine .ite (h.cond fun h => h.upd) ?_
  refine .ite ?_ (.ite ((h.cond fun h => h.upd).cond fun h => h.ringTake).ecount.put.mapTo (.ite (((h.cond fun h =>
      h.upd).cond fun h => h.ringTake).cond fun h => h.upd).ecount (.ite (((h.cond fun h => h.upd).cond fun h =>
      h.ringTake).cond fun h => h.upd).mapTo (((((((h.cond fun h => h.upd).cond fun h => h.ringTake).cond fun h =>
      h.upd).each fun h => h.ccount).cond fun h => h.mapTo).each fun h => h.clusterHit).cond fun h => h.mapTo))))
  split
  exact (h.cond fun h => h.upd).gapTo

theorem Keeps.rateEnd (h : Keeps r s) {g : Nat} : Keeps r (s.rateEnd g) := by
  unfold State.rateEnd
  extract_lets _ _ _ _ u w _ _ _ _ _ _ _ x _ y z
  have hu : Keeps r u := h.advanceTo.upd
  have hw : Keeps r w := hu.put
  have hx : Keeps r x := hw.putB.put.put
  have hy : Keeps r y := hx.cond fun h => h.toStream
  have hz : Keeps r z := .ite (.ite (hy.cond fun h => h.prim) hw) hu
  exact hz.each fun h => h.commit

theorem execRateWindowEnd_keeps (h : Keeps r s) {group : Nat} : KeepsOut r (execRateWindowEnd group s) :=
  .need h.rateEnd

theorem Keeps.evtCtrl (h : Keeps r s) {v : Nat} : Keeps r (s.evtCtrl v) :=
  .ite (h.writeLocked.put.each fun h => h.cond fun h => h.startStream) (.ite (h.writeLocked.put.each fun h =>
      h.closePkt) h.writeLocked.put)

theorem execEvtEnable_keeps (h : Keeps r s) {val : Nat} : KeepsOut r (execEvtEnable val s) :=
  .need (h.bar fun h => h.evtCtrl)

theorem execEvtDisable_keeps (h : Keeps r s) {val : Nat} : KeepsOut r (execEvtDisable val s) :=
  .need (h.bar fun h => h.evtCtrl)

theorem execEvtCntClr_keeps (h : Keeps r s) : KeepsOut r (execEvtCntClr s) := .next (h.bar fun h => h.clearFields)

theorem execCluCntClr_keeps (h : Keeps r s) : KeepsOut r (execCluCntClr s) := .next (h.bar fun h => h.clearFields)

/-! ### Sconces and flames -/

theorem Keeps.setPixel (h : Keeps r s) {k : Nat} {p : Pix} : Keeps r (s.setPixel k p) := h.upd

theorem Keeps.setSconce (h : Keeps r s) {t' c : Nat} {x : Sconce} : Keeps r (s.setSconce t' c x) := h.upd

theorem Keeps.failEvent (h : Keeps r s) {t' c flame ev : Nat} : Keeps r (s.failEvent t' c flame ev) := by
  unfold State.failEvent
  exact (Keeps.ite h.setTile h.setTile).cond fun h => h.fault

theorem Keeps.tcount (h : Keeps r s) {f : Fld} {t' n : Nat} : Keeps r (s.tcount f t' n) := h.bump

theorem Keeps.accumulate (h : Keeps r s) {t' c k a b n : Nat} : Keeps r (s.accumulate t' c k a b n) := by
  unfold State.accumulate
  extract_lets
  split
  exact .ite h (.ite h.setSconce.put.failEvent h.setSconce)

theorem Keeps.lossAt (h : Keeps r s) {t' c k a b n : Nat} {pix : List Nat} : Keeps r (s.lossAt t' c k a b n pix) := by
  unfold State.lossAt
  extract_lets
  refine .ite ?_ h.accumulate
  split
  exact h.setSconce

theorem Keeps.lossNow (h : Keeps r s) {t' c k : Nat} {pix : List Nat} : Keeps r (s.lossNow t' c k pix) := h.lossAt

theorem Keeps.closeEpisode (h : Keeps r s) {t' c k e : Nat} : Keeps r (s.closeEpisode t' c k e) := by
  unfold State.closeEpisode
  extract_lets
  split
  · exact h
  · exact .ite h.setSconce h.setSconce.accumulate

theorem Keeps.deadBoundary (h : Keeps r s) {t' c e : Nat} : Keeps r (s.deadBoundary t' c e) :=
  .ite h.closeEpisode.setSconce h.closeEpisode

theorem Keeps.deadEpoch (h : Keeps r s) : Keeps r s.deadEpoch := h.each fun h => h.deadBoundary

theorem Keeps.scTaken (h : Keeps r s) {t' c : Nat} {src : HopSrc} : Keeps r (s.scTaken t' c src) := by
  unfold State.scTaken
  extract_lets
  split
  · exact h
  · exact h.setSconce
  · exact h.setSconce

theorem Keeps.startFlame (h : Keeps r s) {t' c p at_ : Nat} : Keeps r (s.startFlame t' c p at_) := by
  unfold State.startFlame
  extract_lets
  split
  · exact h.setSconce.cond fun h => h.tcount
  · exact h.tcount.lossNow

theorem Keeps.grantAll (h : Keeps r s) {t' c n at_ : Nat} {l : List Nat} : Keeps r (s.grantAll t' c n l at_) := by
  induction n generalizing s l with
  | zero => exact h
  | succ n ih => exact .ite h (ih h.startFlame)

theorem Keeps.countEdge (h : Keeps r s) {t' row col : Nat} : Keeps r (s.countEdge t' row col) := .ite h.upd h

theorem Keeps.suppress (h : Keeps r s) {t' c b : Nat} : Keeps r (s.suppress t' c b) :=
  .ite h.tcount.lossNow h.tcount.setSconce

theorem Keeps.riseEdge (h : Keeps r s) {t' c : Nat} {q : Charge} : Keeps r (s.riseEdge t' c q).1 := by
  unfold State.riseEdge
  extract_lets
  refine .iteFst h ?_
  split
  · exact h.suppress
  · exact .iteFst h.countEdge (.iteFst h.tcount.lossNow h)

theorem execDiscriminatorRise_keeps (h : Keeps r s) {tile sconce : Nat} {pix : List Charge} {sub : Nat} :
    KeepsOut r (execDiscriminatorRise tile sconce pix sub s) := by
  unfold execDiscriminatorRise
  refine .ite ?_ (.refused)
  split
  next e =>
    have h := Keeps.ofEq e ((h.foldlFst fun h => .iteFst h h.riseEdge))
    exact .onSconce h.grantAll

theorem execFlameStop_keeps (h : Keeps r s) {tile sconce flame n : Nat} :
    KeepsOut r (execFlameStop tile sconce flame n s) := by
  unfold execFlameStop
  extract_lets
  split
  · exact .ite (.onSconce h) (.onSconce h.advanceTo.setSconce)
  · exact .onSconce h

theorem execFlameHandoff_keeps (h : Keeps r s) {tile sconce flame : Nat} :
    KeepsOut r (execFlameHandoff tile sconce flame s) := by
  unfold execFlameHandoff
  extract_lets
  split
  · exact .ite (.onSconce h.advanceTo.setSconce.bump) (.ite (.onSconce h.advanceTo.setSconce) (.onSconce h))
  · exact .onSconce h

theorem execDiscriminatorFall_keeps (h : Keeps r s) {tile sconce pix sub : Nat} :
    KeepsOut r (execDiscriminatorFall tile sconce pix sub s) :=
  .onSconce h.setSconce

theorem execTotSaturate_keeps (h : Keeps r s) {tile sconce pix : Nat} :
    KeepsOut r (execTotSaturate tile sconce pix s) := by
  unfold execTotSaturate
  extract_lets
  split
  · split
    · exact .onSconce h.advanceTo.setSconce
    · exact .onSconce h
  · exact .onSconce h

theorem execLossEpisodeClose_keeps (h : Keeps r s) {tile sconce kind : Nat} :
    KeepsOut r (execLossEpisodeClose tile sconce kind s) :=
  .onSconce (h.cond fun h => .ite h.deadBoundary h.advanceTo.closeEpisode)

theorem Keeps.tpFire (h : Keeps r s) {t' v : Nat} : Keeps r (s.tpFire t' v) := h.setTile

theorem execTpTrainStart_keeps (h : Keeps r s) {tile val : Nat} : KeepsOut r (execTpTrainStart tile val s) :=
  .need (h.bar fun h => h.tpFire)

theorem execTpTrainStop_keeps (h : Keeps r s) {tile val : Nat} : KeepsOut r (execTpTrainStop tile val s) :=
  .need (h.bar fun h => h.tpFire)

theorem execTestPulseInject_keeps (h : Keeps r s) {tile : Nat} : KeepsOut r (execTestPulseInject tile s) := by
  unfold execTestPulseInject
  refine .need ?_
  split
  · exact h
  · exact h.advanceTo.setTile

theorem execPixelScrubVisit_keeps (h : Keeps r s) {tile row col : Nat} {upsets : List PixUpset} :
    KeepsOut r (execPixelScrubVisit tile row col upsets s) :=
  .need ((h.advanceTo.each fun h => h.setPixel).setPixel.each fun h => .ite h.tcount (.ite h.tcount.put h))

theorem Keeps.pcsPending (h : Keeps r s) : Keeps r s.pcsPending := h.each fun h => h.putB

theorem Keeps.blankBegins (h : Keeps r s) {t' c : Nat} : Keeps r (s.blankBegins t' c) := .ite h.setSconce.lossAt h

theorem Keeps.blankPixel (h : Keeps r s) {k : Nat} : Keeps r (s.blankPixel k) := h.setSconce.blankBegins

theorem Keeps.commitPixel (h : Keeps r s) {k : Nat} : Keeps r (s.commitPixel k) :=
  (h.cond fun h => h.blankPixel).setPixel

theorem Keeps.commitPixels (h : Keeps r s) {c : Nat → Pix → Bool} : Keeps r (s.commitPixels c) :=
  (h.each fun h => h.commitPixel).pcsPending

theorem Keeps.pcsEpoch (h : Keeps r s) : Keeps r s.pcsEpoch := h.commitPixels

theorem Keeps.thrCommit (h : Keeps r s) {t' : Nat} : Keeps r (s.thrCommit t') := by
  unfold State.thrCommit
  exact (h.each fun h => h.commit).cond fun h => h.setTile.each fun h => h.blankBegins

theorem Keeps.pcsAccept (h : Keeps r s) {h0 h1 : Nat} {data : List Nat} : Keeps r (s.pcsAccept h0 h1 data) :=
  .ite (h.each fun h => h.each fun h => h.setPixel).put.put.pcsPending (h.each fun h => h.each fun h =>
      h.setPixel).put.put.upd.commitPixels

theorem Keeps.pcsIdle (h : Keeps r s) {err : Nat} : Keeps r (s.pcsIdle err) := h.upd.put.put

theorem Keeps.pcsWord (h : Keeps r s) {src w : Nat} : Keeps r (s.pcsWord src w) :=
  .ite (.ite (.ite h.upd.put.put h.pcsIdle) (h.cond fun h => h.put)) (.ite h.put (.ite (.ite h.pcsIdle h.upd.put) (.ite
      (h.upd.cond fun h => h.put) (.ite h.pcsIdle.pcsAccept h.pcsIdle))))

theorem execPcsWordArrive_keeps (h : Keeps r s) {src w : Nat} : KeepsOut r (execPcsWordArrive src w s) :=
  .need (.ite (h.bar fun h => h.pcsWord) h.pcsWord)

theorem execPcsAbort_keeps (h : Keeps r s) : KeepsOut r (execPcsAbort s) := .next (h.bar fun h => .ite h h.pcsIdle)

theorem execPixelWordRead_keeps (h : Keeps r s) : KeepsOut r (execPixelWordRead s) := .next (h.bar fun h => h.upd)

theorem execReconfigBlankEnd_keeps (h : Keeps r s) {tile sconce : Nat} :
    KeepsOut r (execReconfigBlankEnd tile sconce s) := by
  unfold execReconfigBlankEnd
  refine .onSconce ?_
  split
  · exact h
  · exact .ite h.advanceTo.setSconce.closeEpisode (.ite h.advanceTo.setSconce h.advanceTo.setSconce.lossAt.closeEpisode)

theorem Keeps.flameOut (h : Keeps r s) {t' c f : Nat} : Keeps r (s.flameOut t' c f) := h.unitOut

theorem Keeps.markFailed (h : Keeps r s) {t' c f : Nat} : Keeps r (s.markFailed t' c f) :=
  .ite h.flameOut.setSconce.put.failEvent (.ite h.flameOut.setSconce.put.failEvent.bringSpare (.ite
      h.flameOut.setSconce.put.failEvent.failEvent h.flameOut.setSconce.put.failEvent))

theorem Keeps.tilRota (h : Keeps r s) {t' v : Nat} : Keeps r (s.tilRota t' v) := h.put.put.setTile

theorem execRotaStepDue_keeps (h : Keeps r s) {tile : Nat} : KeepsOut r (execRotaStepDue tile s) := by
  unfold execRotaStepDue
  refine .need ?_
  split
  · exact h
  · exact h.advanceTo.setTile

theorem execRotaForce_keeps (h : Keeps r s) {tile val : Nat} : KeepsOut r (execRotaForce tile val s) :=
  .need (h.bar fun h => h.tilRota)

theorem execRotaIntervalWrite_keeps (h : Keeps r s) {tile val : Nat} : KeepsOut r (execRotaIntervalWrite tile val s) :=
  .need (h.bar fun h => h.tilRota)

theorem execFlameOffline_keeps (h : Keeps r s) {tile sconce flame : Nat} :
    KeepsOut r (execFlameOffline tile sconce flame s) := by
  unfold execFlameOffline
  extract_lets
  refine .onSconce ?_
  refine .ite ?_ ?_
  · split
    · exact h.setSconce
    · exact h
  · refine .ite ?_ h
    split
    · exact h.setSconce
    · exact h

theorem execFlameCalibrationEnd_keeps (h : Keeps r s) {tile sconce flame n1 n2 : Nat} :
    KeepsOut r (execFlameCalibrationEnd tile sconce flame n1 n2 s) := by
  unfold execFlameCalibrationEnd
  extract_lets
  refine .onSconce ?_
  split
  · exact h
  · extract_lets
    split
    · exact h.advanceTo.setSconce
    · exact .ite h.advanceTo.setSconce h.advanceTo.markFailed

theorem execFlameReturn_keeps (h : Keeps r s) {tile sconce flame : Nat} :
    KeepsOut r (execFlameReturn tile sconce flame s) := by
  unfold execFlameReturn
  extract_lets
  refine .onSconce ?_
  split
  · split
    · exact h.setSconce
    · exact .ite h.setSconce h
  · exact h

theorem execFirstCalibrationStart_keeps (h : Keeps r s) {tile : Nat} :
    KeepsOut r (execFirstCalibrationStart tile s) := by
  unfold execFirstCalibrationStart
  extract_lets
  refine .need ?_
  split
  · exact .ite h.advanceTo.setTile.put h
  · exact h

theorem Keeps.recordFlames (h : Keeps r s) {t' c : Nat} : Keeps r (s.recordFlames t' c) := h.setSconce

theorem Keeps.retestFlames (h : Keeps r s) {t' : Nat} {back : List (Nat × Nat)} : Keeps r (s.retestFlames t' back) :=
  (h.each fun h => h.retestUnit).each fun h => h.recordFlames

theorem execFirstCalibrationEnd_keeps (h : Keeps r s) {tile n1 n2 : Nat}
    {exc : List (Nat × Nat × (Nat × Nat) × (Nat × Nat))}
    {back : List (Nat × Nat)} : KeepsOut r (execFirstCalibrationEnd tile n1 n2 exc back s) := by
  refine .need ?_
  extract_lets +onlyGivenNames _ _
  split
  · refine Keeps.regate (Keeps.each (h.advanceTo.retestFlames.upd.setTile.each ?_) ?_) fun h => h.put
    · intro s x h
      split
      split
      · exact h.cond fun h => h.setSconce
      · exact h
    · intro s x h
      exact h.cond fun h => h.markFailed
  · exact h

theorem execFeReady_keeps (h : Keeps r s) {tile : Nat} : KeepsOut r (execFeReady tile s) :=
  .need (h.cond fun h => h.regate fun h => h.put)

theorem execTilCntClr_keeps (h : Keeps r s) {tile : Nat} : KeepsOut r (execTilCntClr tile s) :=
  .need (h.bar fun h => (h.each fun h => h.put).setTile)

theorem Keeps.failRead (h : Keeps r s) {t' : Nat} : Keeps r (s.failRead t') := h.upd.setTile

theorem execFailFifoRead_keeps (h : Keeps r s) {tile : Nat} : KeepsOut r (execFailFifoRead tile s) :=
  .need (h.bar fun h => h.failRead)

/-! ### Column buses and the tile's port -/

theorem Keeps.setCols (h : Keeps r s) {t' : Nat} {x : Cols} : Keeps r (s.setCols t' x) := h.upd

theorem Keeps.setBnd (h : Keeps r s) {t' : Nat} {x : Bundle} : Keeps r (s.setBnd t' x) := h.upd

theorem Keeps.setBus (h : Keeps r s) {t' b : Nat} {y : ColBus} : Keeps r (s.setBus t' b y) := h.setCols

theorem Keeps.xcount (h : Keeps r s) {f : Fld} {t' j n : Nat} : Keeps r (s.xcount f t' j n) := h.bump

theorem Keeps.poisoned (h : Keeps r s) {t' n : Nat} : Keeps r (s.poisoned t' n) := h.cond fun h => h.xcount.put

theorem Keeps.showReq (h : Keeps r s) {t' : Nat} : Keeps r (s.showReq t') := by
  unfold State.showReq
  split
  · exact h.put
  · exact h.put.put.put

theorem Keeps.dropSconces (h : Keeps r s) {t' : Nat} {c : Nat → Bool} : Keeps r (s.dropSconces t' c) :=
  h.each fun h => by
    split
    exact h.setSconce.xcount

theorem Keeps.dropBus (h : Keeps r s) {t' b : Nat} {foot : Bool} : Keeps r (s.dropBus t' b foot) := h.setBus.xcount

theorem Keeps.columnOut (h : Keeps r s) {t' col since : Nat} : Keeps r (s.columnOut t' col since) := by
  unfold State.columnOut
  exact ((Keeps.ite h.setCols.put h.setCols.put).put.dropBus.cond fun h => h.dropBus).dropSconces.openGap.unitOut.fault

theorem Keeps.beginSwitch (h : Keeps r s) {t' col : Nat} : Keeps r (s.beginSwitch t' col) :=
  .ite h.setCols.put.put h.setCols.put.put

theorem Keeps.busFails (h : Keeps r s) {t' b : Nat} : Keeps r (s.busFails t' b) := by
  unfold State.busFails
  extract_lets
  refine .ite h ?_
  refine .ite ?_ (.ite h.setBus.columnOut (.ite h.setBus.beginSwitch (.ite h.setBus.setCols.showReq h.setBus.setCols)))
  split
  · exact h.setBus.setCols.columnOut
  · exact h.setBus.setCols

theorem Keeps.answerReq (h : Keeps r s) {t' : Nat} {approve : Bool} : Keeps r (s.answerReq t' approve) := by
  unfold State.answerReq
  extract_lets
  split
  · exact h
  · exact (Keeps.ite h.setCols.beginSwitch h.setCols.columnOut).showReq

theorem execColumnBusHop_keeps (h : Keeps r s) {tile bus recv flips : Nat} :
    KeepsOut r (execColumnBusHop tile bus recv flips s) := by
  unfold execColumnBusHop
  extract_lets
  refine .need ?_
  split
  · split
    · exact h
    · exact .ite h (.ite (.ite h.setBus.xcount.busFails h.setBus.xcount) (.ite h.setBus.xcount (.ite h.setBus.scTaken
        h.setBus)))
  · exact h

theorem execColumnStallTimeout_keeps (h : Keeps r s) {tile bus : Nat} :
    KeepsOut r (execColumnStallTimeout tile bus s) :=
  .need h.busFails

theorem execSpareSwitchDone_keeps (h : Keeps r s) {tile col : Nat} {flips : List (Nat × Nat)} :
    KeepsOut r (execSpareSwitchDone tile col flips s) :=
  .need (.ite h h.setCols.poisoned.put.unitOut.bringSpare)

theorem execSpareApprove_keeps (h : Keeps r s) {tile val : Nat} : KeepsOut r (execSpareApprove tile val s) :=
  .need (h.bar fun h => h.answerReq)

theorem execSpareDecline_keeps (h : Keeps r s) {tile val : Nat} : KeepsOut r (execSpareDecline tile val s) :=
  .need (h.bar fun h => h.answerReq)

theorem execSpareRequestTimeout_keeps (h : Keeps r s) {tile : Nat} : KeepsOut r (execSpareRequestTimeout tile s) := by
  unfold execSpareRequestTimeout
  refine .need ?_
  split
  · exact h
  · exact h.advanceTo.answerReq

theorem execFlitForm_keeps (h : Keeps r s) {tile : Nat} {flips : List (Nat × Nat)} :
    KeepsOut r (execFlitForm tile flips s) :=
  .need (.ite h (h.each fun h => h.setBus).poisoned.setBnd)

theorem execFlitTransfer_keeps (h : Keeps r s) {tile : Nat} : KeepsOut r (execFlitTransfer tile s) := by
  unfold execFlitTransfer
  extract_lets
  refine .need ?_
  refine .ite h ?_
  split
  · exact h.xcount.setBnd
  · exact .ite h h.setBnd

theorem Keeps.bundleFault (h : Keeps r s) {t' : Nat} : Keeps r (s.bundleFault t') :=
  .ite h (h.closeNext.setBnd.put.put.cond fun h => h.openGap).fault

theorem execFlitCheck_keeps (h : Keeps r s) {tile flips : Nat} : KeepsOut r (execFlitCheck tile flips s) := by
  unfold execFlitCheck
  extract_lets
  refine .need ?_
  split
  · exact h
  · exact .ite h.setBnd (.ite (h.setBnd.put.put.cond fun h => h.closeGap) (.ite h.setBnd.put.bundleFault h.setBnd.put))

theorem execChkOk_keeps (h : Keeps r s) {tile : Nat} : KeepsOut r (execChkOk tile s) := by
  unfold execChkOk
  extract_lets
  refine .need ?_
  split
  · exact h.setBnd
  · exact h

theorem execChkNak_keeps (h : Keeps r s) {tile : Nat} : KeepsOut r (execChkNak tile s) := by
  unfold execChkNak
  extract_lets
  refine .need ?_
  split
  · exact h.setBnd
  · exact h

theorem execViaTestStart_keeps (h : Keeps r s) {tile : Nat} {stuck : Bool} :
    KeepsOut r (execViaTestStart tile stuck s) :=
  .need (.ite h h.setBnd.put)

theorem Keeps.showVias (h : Keeps r s) {t' : Nat} : Keeps r (s.showVias t') := h.put.put

theorem execViaTestEnd_keeps (h : Keeps r s) {tile failed : Nat} : KeepsOut r (execViaTestEnd tile failed s) :=
  .need (.ite h (.ite (h.viaSpare.showVias.cond fun h => h.put).setBnd.bundleFault ((h.viaSpare.showVias.cond fun h =>
      h.put).setBnd.put.cond fun h => h.setTile)))

theorem execTileWaitExpire_keeps (h : Keeps r s) {tile : Nat} : KeepsOut r (execTileWaitExpire tile s) := by
  unfold execTileWaitExpire
  refine .need ?_
  split
  · exact h.cond fun h => h.advanceTo.bundleFault
  · exact h

theorem Keeps.endDrain (h : Keeps r s) {t' : Nat} : Keeps r (s.endDrain t') := by
  unfold State.endDrain
  extract_lets
  split
  · exact h.setBnd
  · exact h.setBnd.transportGap

theorem execCrossbarTakeWord_keeps (h : Keeps r s) {tile : Nat} {bad : Bool} {errs : List Nat} :
    KeepsOut r (execCrossbarTakeWord tile bad errs s) := by
  unfold execCrossbarTakeWord
  extract_lets
  refine .need ?_
  split
  · exact h
  · exact .ite (.ite h h.setBnd.upd.xcount) (.ite h.upd (h.setBnd.upd.cond fun h => h.endDrain).route)

theorem execReceiverDrainStart_keeps (h : Keeps r s) {tile : Nat} : KeepsOut r (execReceiverDrainStart tile s) :=
  .need (.ite h h.advanceTo.setBnd.put)

theorem execTilXcntClr_keeps (h : Keeps r s) {tile : Nat} : KeepsOut r (execTilXcntClr tile s) :=
  .need (h.bar fun h => (h.each fun h => h.each fun h => h.put).each fun h => h.put)

theorem Keeps.clearBundle (h : Keeps r s) {t' : Nat} : Keeps r (s.clearBundle t') :=
  .ite (h.dropSconces.each fun h => h.dropBus).xcount.upd.setBnd h

theorem Keeps.tileEnable (h : Keeps r s) {t' : Nat} : Keeps r (s.tileEnable t') :=
  .ite h.put (.ite h.accrue.put.setBnd h.accrue.put.setTile)

theorem Keeps.tilCtrl (h : Keeps r s) {t' v : Nat} : Keeps r (s.tilCtrl t' v) :=
  .ite (.ite (h.writeLocked.cond fun h => h.regate fun h => h.put).put (h.writeLocked.cond fun h => h.regate fun h =>
      h.put).put.tileEnable) ((h.writeLocked.cond fun h => h.regate fun h => h.put).put.cond fun h =>
      h.accrue.closeNext.put.setTile).clearBundle

theorem execTileEnable_keeps (h : Keeps r s) {tile val : Nat} : KeepsOut r (execTileEnable tile val s) :=
  .need (h.bar fun h => h.tilCtrl)

theorem execTileDisable_keeps (h : Keeps r s) {tile val : Nat} : KeepsOut r (execTileDisable tile val s) :=
  .need (h.bar fun h => h.tilCtrl)

theorem execFePowerWrite_keeps (h : Keeps r s) {tile val : Nat} : KeepsOut r (execFePowerWrite tile val s) :=
  .need (h.bar fun h => h.tilCtrl)

/-! ### Safety function -/

theorem Keeps.setSaf (h : Keeps r s) {x : Saf} : Keeps r (s.setSaf x) := h.upd

theorem Keeps.setSafIn (h : Keeps r s) {n : Nat} {x : SafIn} : Keeps r (s.setSafIn n x) := h.setSaf

theorem Keeps.setSafOut (h : Keeps r s) {k : Nat} {x : SafOut} : Keeps r (s.setSafOut k x) := h.setSaf

theorem Keeps.setSafConn (h : Keeps r s) {c : Nat} {x : SafConn} : Keeps r (s.setSafConn c x) := h.setSaf

theorem Keeps.scount (h : Keeps r s) {f : Fld} {i j n : Nat} : Keeps r (s.scount f i j n) := h.bump

theorem Keeps.showConns (h : Keeps r s) : Keeps r s.showConns := h.each fun h => .ite h h.put.put

theorem Keeps.safShow (h : Keeps r s) : Keeps r s.safShow := by
  unfold State.safShow
  extract_lets s1 s2 _ _ _ s6 s7
  have h1 : Keeps r s1 := h.each fun h => by
    split
    · exact h
    · exact h.put.putB.putB
  have h2 : Keeps r s2 := h1.each fun h => by
    extract_lets
    split
    · exact h
    · exact h.putB.putB.putB.putB
  have h6 : Keeps r s6 := h2.put.put.put.putB
  have h7 : Keeps r s7 := .ite h6 h6.put.put.put
  exact h7.showConns

theorem Keeps.safOff (h : Keeps r s) {k : Nat} : Keeps r (s.safOff k) := .ite h.setSafOut h

theorem Keeps.safTrip (h : Keeps r s) : Keeps r s.safTrip := h.each fun h => h.cond fun h => h.safOff

theorem Keeps.latchOne (h : Keeps r s) {code idx : Nat} : Keeps r (s.latchOne code idx) :=
  .ite h.setSafIn (.ite h.setSafOut (.ite h.setSafConn h.setSaf.put))

theorem Keeps.safLatch (h : Keeps r s) {l : List (Nat × Nat)} {now : Bool} : Keeps r (s.safLatch l now) := by
  unfold State.safLatch
  refine (?_ : Keeps r _).safShow.each fun h => .ite h.fault h.fault
  refine (?_ : Keeps r _).cond fun h => h.safTrip
  refine (?_ : Keeps r _).each fun h => h.latchOne.put
  split
  · exact h
  · exact .ite h h.put.put.put

theorem Keeps.safSample (h : Keeps r s) {n : Nat} {ra rb : Bool} : Keeps r (s.safSample n ra rb).1 := by
  unfold State.safSample
  extract_lets
  split
  split
  refine .iteFst ?_ h.setSafIn
  extract_lets _ _ _ _ _ _ _ _ s1 s2
  have h1 : Keeps r s1 := h.setSafIn
  have h2 : Keeps r s2 := h1.cond fun h => h.scount.put
  exact h2

theorem Keeps.safReadBack (h : Keeps r s) {k : Nat} {ha hb : Bool} : Keeps r (s.safReadBack k ha hb).1 := by
  unfold State.safReadBack
  extract_lets
  split
  split
  exact h.setSafOut

theorem Keeps.inCleared (h : Keeps r s) {n : Nat} : Keeps r (s.inCleared n) := .ite h.setSafIn h

theorem Keeps.ackApply (h : Keeps r s) : Keeps r s.ackApply :=
  (((((h.each fun h => h.setSafIn.inCleared).each fun h => h.setSafOut).each fun h => h.setSafConn).cond fun h =>
      h.put).each fun h => .ite h.setSafOut h).setSaf

theorem Keeps.safRestart (h : Keeps r s) : Keeps r s.safRestart := h.each fun h => .ite h.setSafOut h

theorem execSafetyStrobe_keeps (h : Keeps r s) {a b rb : Nat} {differ : Bool} :
    KeepsOut r (execSafetyStrobe a b rb differ s) := by
  unfold execSafetyStrobe
  extract_lets
  refine .next ?_
  refine .ite ?_ h
  split
  next e =>
    have h := Keeps.ofEq e ((h.advanceTo.setSaf.foldlFst fun h => h.safSample))
    split
    next e =>
      have h := Keeps.ofEq e ((h.foldlFst fun h => h.safReadBack))
      exact (Keeps.ite h.safTrip.safLatch.safTrip.ackApply h.safTrip.safLatch.safTrip).safRestart.safShow

theorem execStrobeLoss_keeps (h : Keeps r s) : KeepsOut r (execStrobeLoss s) := .next (.ite h.advanceTo.safLatch h)

theorem execTestPulseStart_keeps (h : Keeps r s) {tp : Nat} : KeepsOut r (execTestPulseStart tp s) :=
  .need (.ite h.setSaf h)

theorem execTestPulseEnd_keeps (h : Keeps r s) {tp : Nat} : KeepsOut r (execTestPulseEnd tp s) := by
  unfold execTestPulseEnd
  extract_lets
  refine .need ?_
  split
  · exact .ite h.setSaf h
  · exact h

theorem execOutputTestPulse_keeps (h : Keeps r s) {out chan : Nat} : KeepsOut r (execOutputTestPulse out chan s) :=
  .need (.ite h.setSafOut.safShow h)

theorem execSafReq_keeps (h : Keeps r s) {val : Nat} : KeepsOut r (execSafReq val s) := .next (h.bar fun h => h.put)

theorem Keeps.ackWrite (h : Keeps r s) : Keeps r s.ackWrite := by
  unfold State.ackWrite
  exact h.idleClose.guardedIn.cond fun h => h.setSaf

theorem execSafAck_keeps (h : Keeps r s) {val : Nat} : KeepsOut r (execSafAck val s) :=
  .need (h.bar fun h => h.ackWrite)

theorem execSnufferProduce_keeps (h : Keeps r s) {conn : Nat} {differ : Bool} :
    KeepsOut r (execSnufferProduce conn differ s) :=
  .need (.ite (.ite (h.cond fun h => h.advanceTo).safLatch (.ite ((h.cond fun h => h.advanceTo).setSafConn.put.each fun
      h => h.put).showConns (((h.cond fun h => h.advanceTo).setSafConn.put.each fun h => h.put).showConns.lpri.cond fun
      h => h.lpri))) h)

theorem Keeps.consume (h : Keeps r s) {c : Nat} {f : List Nat} : Keeps r (s.consume c f) := by
  unfold State.consume
  extract_lets
  refine .ite h.scount ?_
  split
  · exact .ite (h.scount.cond fun h => h.scount).setSafConn.put.showConns (h.scount.cond fun h =>
      h.scount).setSafConn.put.safLatch
  · exact .ite h.scount (.ite (.ite (h.scount.cond fun h => h.scount).setSafConn.put.showConns (h.scount.cond fun h =>
      h.scount).setSafConn.put.safLatch) h.scount)

theorem Keeps.hearSnuffer (h : Keeps r s) {f : List Nat} {hears : Nat → Bool} : Keeps r (s.hearSnuffer f hears) :=
  .ite (h.each fun h => h.consume) h

theorem Keeps.linkSnuffer (h : Keeps r s) {port : Nat} {frame : List Nat} : Keeps r (s.linkSnuffer port frame) :=
  h.hearSnuffer

theorem execSnufferReceive_keeps (h : Keeps r s) {port : Nat} {frame : List Nat} :
    KeepsOut r (execSnufferReceive port frame s) :=
  .need h.linkSnuffer

theorem execSnufferTimeout_keeps (h : Keeps r s) {conn : Nat} : KeepsOut r (execSnufferTimeout conn s) :=
  .need (.ite h.advanceTo.setSafConn.safLatch h)

theorem execSnufferRxSubmit_keeps (h : Keeps r s) {val : Nat} : KeepsOut r (execSnufferRxSubmit val s) :=
  .next (h.bar fun h => h.put.hearSnuffer)

theorem execSafCommit_keeps (h : Keeps r s) {val : Nat} {agree : Bool} : KeepsOut r (execSafCommit val agree s) :=
  .next (h.bar fun h => h.idleClose.put.guardedIn)

theorem Keeps.safReboot (h : Keeps r s) {keep : List Nat} : Keeps r (s.safReboot keep) := h.setSaf

theorem Keeps.safCommit (h : Keeps r s) {ok : Bool} : Keeps r (s.safCommit ok) :=
  .ite (Keeps.ite h.commitAll.upd.put.put.safReboot.put.put h.commitAll.upd.put.put.safReboot).put.safShow h.put.put

theorem Keeps.safLoad (h : Keeps r s) {cause : Nat} : Keeps r (s.safLoad cause) := by
  unfold State.safLoad
  extract_lets
  split
  · exact h.put.put.safReboot.put.safLatch
  · exact .ite h.put.put.putKeys.safReboot.put.safShow h.put.put.safReboot.put.safLatch

theorem execSafCntClr_keeps (h : Keeps r s) : KeepsOut r (execSafCntClr s) := .next (h.bar fun h => h.clearFields)

/-! ### Control loops -/

theorem Keeps.setCtl (h : Keeps r s) {c : Ctl} : Keeps r (s.setCtl c) := h.upd

theorem Keeps.setLoop (h : Keeps r s) {n : Nat} {l : Loop} : Keeps r (s.setLoop n l) := h.setCtl

theorem Keeps.ctlCount (h : Keeps r s) {f : Fld} {n : Nat} : Keeps r (s.ctlCount f n) := h.bump

theorem Keeps.setFb (h : Keeps r s) {n : Nat} {x : FbIn} : Keeps r (s.setFb n x) := h.setCtl

theorem execCtlFbSample_keeps (h : Keeps r s) {input : Nat} {nV : Int} : KeepsOut r (execCtlFbSample input nV s) :=
  .need (.ite h.advanceTo.setFb h)

theorem Keeps.fbGive (h : Keeps r s) {input : Nat} {c : Int} : Keeps r (s.fbGive input c) :=
  h.setFb.each fun h => h.setLoop

theorem execCtlFbResult_keeps (h : Keeps r s) {input : Nat} : KeepsOut r (execCtlFbResult input s) := by
  unfold execCtlFbResult
  refine .need ?_
  split
  · exact h
  · exact h.advanceTo.fbGive

theorem Keeps.fbBefore (h : Keeps r s) {e : Nat} : Keeps r (s.fbBefore e) := h.each fun h => h.each fun h => h.fbGive

theorem Keeps.pcntAdd (h : Keeps r s) {n : Nat} {up : Bool} : Keeps r (s.pcntAdd n up) := h.put

theorem execPulseCountEdge_keeps (h : Keeps r s) {counter : Nat} {step dir : Bool} {ns : Nat} :
    KeepsOut r (execPulseCountEdge counter step dir ns s) := by
  unfold execPulseCountEdge
  extract_lets
  refine .need ?_
  refine .ite h ?_
  split
  refine .ite h.setCtl ?_
  split
  · exact .ite h.setCtl.pcntAdd h.setCtl
  · split
    · exact h.setCtl.pcntAdd
    · exact h.setCtl.pcntAdd
    · exact h.setCtl.ctlCount
    · exact h.setCtl
  · exact h.setCtl

theorem Keeps.ctlPush (h : Keeps r s) {e : Nat × Nat} : Keeps r (s.ctlPush e) := by
  unfold State.ctlPush
  exact h.setCtl.put.cond fun h => h.put

theorem Keeps.ctlCloseLoss (h : Keeps r s) : Keeps r s.ctlCloseLoss := by
  unfold State.ctlCloseLoss
  extract_lets
  split
  · exact .ite h.setCtl.ctlPush.put h
  · exact h

theorem Keeps.ctlEnqueue (h : Keeps r s) {w0 w1 edge : Nat} : Keeps r (s.ctlEnqueue w0 w1 edge) :=
  .ite h.ctlCloseLoss.ctlPush h.ctlCloseLoss.setCtl.ctlCount

theorem execCtlGapRecord_keeps (h : Keeps r s) : KeepsOut r (execCtlGapRecord s) := by
  unfold execCtlGapRecord
  refine .next ?_
  split
  · exact h
  · exact h.advanceTo.ctlCloseLoss

theorem execCtlQueueSnapshot_keeps (h : Keeps r s) : KeepsOut r (execCtlQueueSnapshot s) :=
  .next (h.bar fun h => h.setCtl.upd)

theorem execCtlQueueRemove_keeps (h : Keeps r s) : KeepsOut r (execCtlQueueRemove s) :=
  .next (h.bar fun h => h.setCtl.put.upd)

theorem Keeps.setOut (h : Keeps r s) {n code : Nat} : Keeps r (s.setOut n code) := h.setLoop.put

theorem Keeps.markLong (h : Keeps r s) {n : Nat} : Keeps r (s.markLong n) := .ite h h.setCtl

theorem execLoopPeriodStart_keeps (h : Keeps r s) {slot : Nat} : KeepsOut r (execLoopPeriodStart slot s) := by
  unfold execLoopPeriodStart
  extract_lets
  refine .need ?_
  refine .ite ?_ h
  split
  exact (Keeps.ite (h.fbBefore.advanceTo.markLong.each fun h => h.commit).put.setLoop
      h.fbBefore.advanceTo.markLong).setLoop.put.put

theorem execLoopComputeDone_keeps (h : Keeps r s) {slot : Nat} : KeepsOut r (execLoopComputeDone slot s) :=
  .need (.ite h.advanceTo.setLoop h)

theorem Keeps.loopFault (h : Keeps r s) {n set : Nat} : Keeps r (s.loopFault n set) := by
  unfold State.loopFault
  exact h.setOut.put.put.put.put.fault

theorem Keeps.loopRecord (h : Keeps r s) {n : Nat} {ovr fbb fex hold sat long ffsat : Bool} :
    Keeps r (s.loopRecord n ovr fbb fex hold sat long ffsat) :=
  h.ctlEnqueue

theorem Keeps.showLoop (h : Keeps r s) {n : Nat} : Keeps r (s.showLoop n) := h.put.put

/-- What a period's end leaves, held, missed or computed. -/
theorem Keeps.loopHold (h : Keeps r s) {n : Nat} : Keeps r (s.loopHold n).s := h.setOut.setLoop

theorem Keeps.loopMiss (h : Keeps r s) {n : Nat} {ovr fbb : Bool} : Keeps r (s.loopMiss n ovr fbb).s :=
  (h.cond fun h => h.ctlCount.put).setLoop

theorem Keeps.loopComputed (h : Keeps r s) {n : Nat} : Keeps r (s.loopComputed n).s :=
  (h.cond fun h => h.draw).setLoop.setOut.ctlCount.put

theorem execLoopDeadline_keeps (h : Keeps r s) {n : Nat} : KeepsOut r (execLoopDeadline n s) := by
  refine .need (.ite h.advanceTo.setOut.setLoop (.ite ?_ h))
  extract_lets _ _ q
  have hq : Keeps r q.s := by
    simp only [q]
    split
    · exact h.advanceTo.loopHold
    · split
      · exact h.advanceTo.loopMiss
      · exact h.advanceTo.loopComputed
  exact (hq.showLoop.setLoop.cond fun h => h.loopFault).cond fun h => h.loopRecord

theorem Keeps.showLoad (h : Keeps r s) : Keeps r s.showLoad := h.put

theorem Keeps.loopSafe (h : Keeps r s) {n : Nat} : Keeps r (s.loopSafe n) := .ite h.setOut h

theorem Keeps.loopOff (h : Keeps r s) {n : Nat} : Keeps r (s.loopOff n) := h.put.put.setLoop.showLoad

theorem Keeps.showPending (h : Keeps r s) {n : Nat} : Keeps r (s.showPending n) := h.putB

theorem Keeps.loopCtrl (h : Keeps r s) {n v : Nat} : Keeps r (s.loopCtrl n v) :=
  .ite (.ite (h.each fun h => .ite h h.put).stage.put (h.each fun h => .ite h h.put).stage.put.loopOff) (.ite (.ite
      (h.each fun h => h.put).put.unstage.showPending.put.put.put.put.put.setLoop.showLoad h.put.put) (h.each fun h =>
      h.put).put.unstage.showPending.loopSafe)

theorem execLoopEnable_keeps (h : Keeps r s) {slot val : Nat} : KeepsOut r (execLoopEnable slot val s) :=
  .need (h.bar fun h => h.loopCtrl)

theorem execLoopDisable_keeps (h : Keeps r s) {slot val : Nat} : KeepsOut r (execLoopDisable slot val s) :=
  .need (h.bar fun h => h.loopCtrl)

theorem Keeps.loopCommit (h : Keeps r s) {n : Nat} : Keeps r (s.loopCommit n) := h.setLoop

theorem execLoopCommit_keeps (h : Keeps r s) {slot : Nat} : KeepsOut r (execLoopCommit slot s) :=
  .need (h.bar fun h => h.loopCommit)

theorem execCtlCntClr_keeps (h : Keeps r s) : KeepsOut r (execCtlCntClr s) := .next (h.bar fun h => h.clearFields)

/-! ### Fault handling -/

theorem Keeps.setCore (h : Keeps r s) {c v : Nat} : Keeps r (s.setCore c v) := h.put

theorem Keeps.resync (h : Keeps r s) {c hs : Nat} : Keeps r (s.resync c hs) := h.bump.put.put.put

theorem Keeps.retireCore (h : Keeps r s) {c hs : Nat} : Keeps r (s.retireCore c hs) := by
  unfold State.retireCore
  extract_lets
  split
  · exact h.setCore.put.audit.unitOut.setCore.resync.put.bringSpare
  · exact h.setCore.put.audit.unitOut.put

theorem execCoreDisagree_keeps (h : Keeps r s) {core hs : Nat} : KeepsOut r (execCoreDisagree core hs s) :=
  .need (.ite h (.ite h.fault (.ite h.retireCore h.upd.resync)))

theorem execLamplighterWatchdog_keeps (h : Keeps r s) : KeepsOut r (execLamplighterWatchdog s) :=
  .next (.ite h.fault h)

theorem Keeps.recordFault (h : Keeps r s) {r' : FaultRec} : Keeps r (s.recordFault r') :=
  .ite (h.cond fun h => h.put).upd.put (h.cond fun h => h.put).bump

theorem execFaultHandlingEnd_keeps (h : Keeps r s) : KeepsOut r (execFaultHandlingEnd s) := by
  unfold execFaultHandlingEnd
  split
  · exact .next h
  · refine .next ?_
    refine (?_ : Keeps r _).syncFault
    split
    · exact h.recordFault.upd
    · exact h.recordFault.upd
    · exact h.recordFault.upd
    · exact .ite h.recordFault.upd h.recordFault.upd

theorem execGenFaultAck_keeps (h : Keeps r s) : KeepsOut r (execGenFaultAck s) := .next (h.bar fun h => .ite h h.upd)

theorem Keeps.faultSnapshot (h : Keeps r s) : Keeps r s.faultSnapshot := by
  unfold State.faultSnapshot
  split
  · exact h.clearFields
  · exact h.put.put.put.put.put.put

theorem Keeps.faultRemove (h : Keeps r s) : Keeps r s.faultRemove := .ite h.upd.put h

theorem execFaultRecordSnapshot_keeps (h : Keeps r s) : KeepsOut r (execFaultRecordSnapshot s) :=
  .next (.ite h.faultSnapshot.upd h)

theorem execFaultRecordRemove_keeps (h : Keeps r s) : KeepsOut r (execFaultRecordRemove s) :=
  .next (.ite h.upd.faultRemove h)

theorem execGenCntClr_keeps (h : Keeps r s) : KeepsOut r (execGenCntClr s) := .next (h.bar fun h => h.clearFields)

theorem execI2cPointerWrite_keeps (h : Keeps r s) {slave ptr : Nat} : KeepsOut r (execI2cPointerWrite slave ptr s) :=
  .next (.ite h.upd h)

/-! ### Trigger fabric -/

theorem Keeps.setFab (h : Keeps r s) {f : Fab} : Keeps r (s.setFab f) := h.upd

theorem Keeps.slowWave (h : Keeps r s) : Keeps r s.slowWave := h.bump.put

theorem execFabricWaveLaunch_keeps (h : Keeps r s) : KeepsOut r (execFabricWaveLaunch s) := by
  unfold execFabricWaveLaunch
  extract_lets
  refine .next ?_
  split
  · exact .ite h h.setFab.slowWave
  · exact h.upd.setFab

theorem execWaveComplete_keeps (h : Keeps r s) : KeepsOut r (execWaveComplete s) := by
  unfold execWaveComplete
  refine .next ?_
  split
  · exact h
  · exact (h.cond fun h => h.slowWave).setFab.upd

theorem Keeps.initFabric (h : Keeps r s) : Keeps r s.initFabric := h.setFab.upd

theorem Keeps.showDepth (h : Keeps r s) : Keeps r s.showDepth := h.put.each fun h => h.put

theorem Keeps.checkDone (h : Keeps r s) : Keeps r s.checkDone := by
  unfold State.checkDone
  extract_lets
  split
  · exact h
  · exact .ite h.setFab.put.setFab.showDepth h.setFab.put.put.put

theorem execFabricCheckDone_keeps (h : Keeps r s) : KeepsOut r (execFabricCheckDone s) := .next h.checkDone

theorem Keeps.fabWrite (h : Keeps r s) {g : Nat} {same : Bool} {x : FabWrite} : Keeps r (s.fabWrite g same x) :=
  .ite h (.ite h.setFab.put h.put)

theorem Keeps.dropHeld (h : Keeps r s) : Keeps r s.dropHeld := h.setFab

theorem Keeps.fabBar (h : Keeps r s) {a : Nat} {f : State → State} (hf : ∀ {s}, Keeps r s → Keeps r (f s)) :
    Keeps r (s.fabBar a f) :=
  h.bar fun h => hf h.checkDone

theorem execWickWrite_keeps (h : Keeps r s) {val : Nat} : KeepsOut r (execWickWrite val s) :=
  .next (h.fabBar fun h => h.dropHeld.fabWrite)

theorem execGroupInputWrite_keeps (h : Keeps r s) {val : Nat} : KeepsOut r (execGroupInputWrite val s) :=
  .next (h.fabBar fun h => h.fabWrite)

theorem execFabCntClr_keeps (h : Keeps r s) : KeepsOut r (execFabCntClr s) := .next (h.fabBar fun h => h.put.put.put)

/-! ### Fabric images -/

theorem Keeps.decImageError (h : Keeps r s) {e : Nat} : Keeps r (s.decImageError e) := .ite h h.bump.bump.put.put.put

theorem Keeps.setSlot (h : Keeps r s) {k : Nat} {x : Slot} : Keeps r (s.setSlot k x) := h.upd

theorem Keeps.progEnd (h : Keeps r s) {err : Nat} : Keeps r (s.progEnd err) :=
  .ite h.setFab.put.put.put.put h.setFab.put.put.put.put

theorem Keeps.imgProg (h : Keeps r s) {v : Nat} : Keeps r (s.imgProg v) :=
  .ite (.ite h.progEnd h) (.ite h (.ite h.put.progEnd h.put.setSlot.setFab.put.put.put.put))

theorem Keeps.imgCtrl (h : Keeps r s) {v : Nat} : Keeps r (s.imgCtrl v) :=
  .ite (Keeps.ite h.upd h).upd (Keeps.ite h.upd h).upd

theorem Keeps.imgCtrlWrite (h : Keeps r s) {v : Nat} : Keeps r (s.imgCtrlWrite v) := h.guarded

theorem Keeps.imgProgWrite (h : Keeps r s) {v : Nat} : Keeps r (s.imgProgWrite v) := h.guarded

theorem execImagePrefSlot_keeps (h : Keeps r s) {val : Nat} : KeepsOut r (execImagePrefSlot val s) :=
  .need (h.fabBar fun h => h.imgCtrlWrite)

theorem execImageTrial_keeps (h : Keeps r s) {val : Nat} : KeepsOut r (execImageTrial val s) :=
  .need (h.fabBar fun h => h.imgCtrlWrite)

theorem execImageConfirm_keeps (h : Keeps r s) {val : Nat} : KeepsOut r (execImageConfirm val s) :=
  .need (h.fabBar fun h => h.imgCtrlWrite)

theorem execImageProgStart_keeps (h : Keeps r s) {val : Nat} : KeepsOut r (execImageProgStart val s) :=
  .need (h.fabBar fun h => h.imgProgWrite)

theorem execImageProgAbort_keeps (h : Keeps r s) {val : Nat} : KeepsOut r (execImageProgAbort val s) :=
  .need (h.fabBar fun h => h.imgProgWrite)

theorem execImageProgEraseDone_keeps (h : Keeps r s) : KeepsOut r (execImageProgEraseDone s) := .next (.ite h.put h)

theorem execImageProgVerifyDone_keeps (h : Keeps r s) : KeepsOut r (execImageProgVerifyDone s) := by
  unfold execImageProgVerifyDone
  refine .next ?_
  split
  · exact h
  · exact .ite h ((h.cond fun h => h.decImageError).cond fun h => h.setSlot).progEnd

theorem Keeps.reloadRefuse (h : Keeps r s) {err : Nat} : Keeps r (s.reloadRefuse err) := h.setFab.put.put.put

theorem Keeps.reloadFollow (h : Keeps r s) : Keeps r s.reloadFollow := by
  unfold State.reloadFollow
  extract_lets
  split
  · exact h
  · split
    split
    exact .ite h.decImageError.reloadRefuse (.ite h.reloadRefuse (.ite h.reloadRefuse h.setFab))

theorem Keeps.imgBytes (h : Keeps r s) {l : List Nat} : Keeps r (s.imgBytes l) := by
  unfold State.imgBytes
  extract_lets
  split
  · exact h.setSlot.put.cond fun h => h.put
  · split
    · exact h.setFab.reloadFollow
    · exact h.setFab

theorem Keeps.imgFails (h : Keeps r s) {err : Nat} : Keeps r (s.imgFails err) := .ite h.setFab.put h.reloadRefuse

theorem execReloadAdmit_keeps (h : Keeps r s) : KeepsOut r (execReloadAdmit s) :=
  .next (.ite h (.ite h.reloadRefuse (.ite h.reloadRefuse (.ite h.reloadRefuse h.setFab.put.reloadFollow))))

theorem execReloadApply_keeps (h : Keeps r s) : KeepsOut r (execReloadApply s) := by
  unfold execReloadApply
  refine .next ?_
  split
  · exact h
  · exact .ite h (.ite (h.cond fun h => h.decImageError).reloadRefuse (.ite h.reloadRefuse (h.advanceTo.setFab.each fun
      h => h.put.put).put.put.showDepth))

theorem Keeps.reloadAbort (h : Keeps r s) : Keeps r s.reloadAbort := .ite h.reloadRefuse h

theorem execReloadAbort_keeps (h : Keeps r s) {val : Nat} : KeepsOut r (execReloadAbort val s) :=
  .need (h.fabBar fun h => h.reloadAbort)

theorem Keeps.condsOff (h : Keeps r s) {g : Nat} : Keeps r (s.condsOff g) := (h.each fun h => h.put.unstage).put

theorem Keeps.wordLost (h : Keeps r s) {k : ScrubKind} : Keeps r (s.wordLost k) := by
  unfold State.wordLost
  extract_lets
  split
  · exact h.condsOff.setFab.showDepth
  · exact h.condsOff.setFab.showDepth
  · exact h.put.put.unstage.put
  · exact h.upd
  · exact h.fault
  · split
    · exact h
    · exact h.put.unstage.fault
  · exact h

theorem execConfigScrubVisit_keeps (h : Keeps r s) {kind : ScrubKind} {bad addr : Nat} :
    KeepsOut r (execConfigScrubVisit kind bad addr s) :=
  .need (.ite h (.ite h.bump h.bump.put.put.wordLost))

/-! ### Host queues -/

theorem Keeps.setQRing (h : Keeps r s) {h2d : Bool} {q : Nat} {r' : QRing} : Keeps r (s.setQRing h2d q r') := h.upd

theorem Keeps.qput (h : Keeps r s) {h2d : Bool} {d h' : Fld} {v q : Nat} : Keeps r (s.qput h2d d h' v q) := h.put

theorem Keeps.setQstate (h : Keeps r s) {h2d : Bool} {q v : Nat} : Keeps r (s.setQstate h2d q v) := h.qput

theorem Keeps.hcount (h : Keeps r s) {f : Fld} {i j : Nat} : Keeps r (s.hcount f i j) := h.bump

theorem Keeps.hostWrite (h : Keeps r s) {a n v : Nat} : Keeps r (s.hostWrite a n v) := h.upd

theorem Keeps.hostClear (h : Keeps r s) : Keeps r s.hostClear := h.upd

theorem Keeps.sendMsg (h : Keeps r s) {src : Nat} {masked : List Nat} : Keeps r (s.sendMsg src masked) :=
  .ite h.upd h.upd

theorem Keeps.qsend (h : Keeps r s) {h2d : Bool} {q : Nat} {masked : List Nat} : Keeps r (s.qsend h2d q masked) :=
  h.setQRing.sendMsg

theorem Keeps.irqFire (h : Keeps r s) {src : Nat} {masked : List Nat} : Keeps r (s.irqFire src masked) :=
  .ite h (.ite (.ite h.qsend h) (.ite h.upd.sendMsg h))

theorem execIrqMessage_keeps (h : Keeps r s) {src : Nat} {masked : List Nat} :
    KeepsOut r (execIrqMessage src masked s) :=
  .need (.ite h.sendMsg h.irqFire)

theorem execQueueIrqTimer_keeps (h : Keeps r s) {h2d : Bool} {q : Nat} {masked : List Nat} :
    KeepsOut r (execQueueIrqTimer h2d q masked s) := by
  unfold execQueueIrqTimer
  refine .need ?_
  split
  · exact h
  · exact .ite h.advanceTo.qsend h

theorem Keeps.rearm (h : Keeps r s) {idx val : Nat} {masked : List Nat} : Keeps r (s.rearm idx val masked) :=
  h.each fun h => (Keeps.ite h.setQRing h.upd).irqFire

theorem execHostIrqRearm_keeps (h : Keeps r s) {idx val : Nat} {masked : List Nat} :
    KeepsOut r (execHostIrqRearm idx val masked s) :=
  .need (h.bar fun h => h.rearm)

theorem Keeps.complete (h : Keeps r s) {h2d : Bool} {q : Nat} {d : QDesc} {f : Nat → List Nat} :
    Keeps r (s.complete h2d q d f) :=
  h.hostWrite.setQRing.qput.hcount

theorem Keeps.bufDone (h : Keeps r s) {q : Nat} {d : QDesc} {status words : Nat} {entry : List (Nat × Bool)}
    {seq : Option Nat} {stream : Nat} {ovr ctxEnd : Bool} {at_ : Nat} :
    Keeps r (s.bufDone q d status words entry seq stream ovr ctxEnd at_) := by
  unfold State.bufDone
  exact h.complete

theorem Keeps.qerror (h : Keeps r s) {h2d : Bool} {q err : Nat} : Keeps r (s.qerror h2d q err) := by
  unfold State.qerror
  exact h.setQstate.qput.put.fault

theorem Keeps.qtake (h : Keeps r s) {x : QSrc} : Keeps r (s.qtake x) := by
  unfold State.qtake
  split
  · exact h.setFifoOf
  · exact h.setLport

theorem Keeps.qunmark (h : Keeps r s) {x : QSrc} : Keeps r (s.qunmark x) := by
  unfold State.qunmark
  split
  · exact h.setFifoOf
  · exact h

theorem Keeps.skipInvalid (h : Keeps r s) {n q : Nat} : Keeps r (s.skipInvalid n q) := by
  induction n generalizing s with
  | zero => exact h
  | succ n ih =>
    unfold State.skipInvalid
    extract_lets
    split
    · exact .ite h (ih h.setQRing.bufDone)
    · exact h

theorem Keeps.setBuf (h : Keeps r s) {q : Nat} {b : Option QBuf} : Keeps r (s.setBuf q b) := h.upd

theorem Keeps.writeEntry (h : Keeps r s) {b : QBuf} : Keeps r (s.writeEntry b) := h.hostWrite

theorem Keeps.endBuf (h : Keeps r s) {q : Nat} {ctxEnd : Bool} {at_ : Nat} : Keeps r (s.endBuf q ctxEnd at_) := by
  unfold State.endBuf
  split
  · exact h
  · exact (h.cond fun h => h.writeEntry).setBuf.bufDone

theorem Keeps.closeBuf (h : Keeps r s) {q : Nat} {ctxEnd : Bool} : Keeps r (s.closeBuf q ctxEnd) :=
  h.endBuf.skipInvalid

theorem Keeps.closeDue (h : Keeps r s) {q : Nat} : Keeps r (s.closeDue q) := by
  unfold State.closeDue
  split
  · exact .ite h.endBuf.skipInvalid h
  · exact h

theorem Keeps.queueWord (h : Keeps r s) {q : Nat} {bad : Bool} : Keeps r (s.queueWord q bad) := by
  unfold State.queueWord
  split
  · exact h
  · split
    · exact h
    · extract_lets +onlyGivenNames _ o
      have ho : ∀ {b u}, o = some (b, u) → Keeps r u := by
        simp only [o]
        split
        · rintro b u ⟨⟩
          exact h
        · split
          · rintro b u ⟨⟩
            exact h.setQRing
          · rintro b u ⟨⟩
      clear_value o
      split
      · exact h
      · have h := ho rfl
        extract_lets _ _ _ _ _ s1 s2 _ s3
        have h1 : Keeps r s1 := h.qtake.setBuf
        have h2 : Keeps r s2 := h1.cond fun h => .ite h.hostWrite h.writeEntry
        have h3 : Keeps r s3 := h2.setQRing
        exact .ite h3.closeBuf (.ite h3.closeBuf h3)

theorem Keeps.queueMark (h : Keeps r s) {q : Nat} : Keeps r (s.queueMark q) := by
  unfold State.queueMark
  split
  · exact h
  · exact .ite (.ite h.qunmark.closeBuf h.qunmark) h

theorem execQueuePacketWrite_keeps (h : Keeps r s) {q n : Nat} {bad : List Nat} :
    KeepsOut r (execQueuePacketWrite q n bad s) :=
  .need (.ite (h.hostClear.closeDue.queueMark.each fun h => h.queueWord).follow h)

theorem execBufferCloseTimeout_keeps (h : Keeps r s) {q : Nat} : KeepsOut r (execBufferCloseTimeout q s) := by
  unfold execBufferCloseTimeout
  refine .need ?_
  split
  · exact h
  · exact .ite h h.hostClear.advanceTo.closeDue

theorem Keeps.doorbell (h : Keeps r s) {h2d : Bool} {q : Nat} {f : State → State} (hf : Keeps r s → Keeps r (f s)) :
    Keeps r (s.doorbell h2d q f) :=
  .ite (.ite (hf h) (hf h).qerror) h

theorem execDoorbellTail_keeps (h : Keeps r s) {h2d : Bool} {q val : Nat} : KeepsOut r (execDoorbellTail h2d q val s) :=
  .need (h.doorbell fun h => h.qput.cond fun h => h.setQRing)

theorem execDoorbellCplHead_keeps (h : Keeps r s) {h2d : Bool} {q val : Nat} {masked : List Nat} :
    KeepsOut r (execDoorbellCplHead h2d q val masked s) :=
  .need (h.doorbell fun h => .ite (.ite h.qput.setQRing.setQRing.irqFire h.qput.setQRing.setQRing) h.qput.setQRing)

theorem execDescriptorFetchDone_keeps (h : Keeps r s) {h2d : Bool} {q : Nat} {words : List Nat} {ok : Bool} :
    KeepsOut r (execDescriptorFetchDone h2d q words ok s) :=
  .need (.ite h (.ite h.qerror (.ite h.setQRing h.setQRing.hostClear.skipInvalid)))

theorem Keeps.setHframe (h : Keeps r s) {h' : Nat} {x : Option HFrame} : Keeps r (s.setHframe h' x) := h.upd

theorem Keeps.setDec (h : Keeps r s) {h' : Nat} {x : Option Decomp} : Keeps r (s.setDec h' x) := h.upd

theorem Keeps.abortConsumer (h : Keeps r s) {role : Nat} : Keeps r (s.abortConsumer role) :=
  .ite (.ite h.progEnd h.reloadAbort) (.ite (.ite h.pcsIdle h) h)

theorem Keeps.pixelWords (h : Keeps r s) {l : List (Nat × Bool)} : Keeps r (s.pixelWords l) :=
  .ite (h.each fun h => h.pcsWord).pcsIdle (h.each fun h => h.pcsWord)

theorem Keeps.deliverFrame (h : Keeps r s) {h' : Nat} {bytes : List Nat} {w : List (Nat × Bool)} {failed : Bool} :
    Keeps r (s.deliverFrame h' bytes w failed) :=
  .ite (.ite h.imgFails h.imgBytes) (.ite (.ite h.pcsIdle h.pixelWords) h.upd.feedSink)

theorem Keeps.frameTry (h : Keeps r s) {h' : Nat} : Keeps r (s.frameTry h') := by
  unfold State.frameTry
  extract_lets
  split
  · exact h
  · refine .ite h ?_
    split
    · exact .ite h (.ite h.setDec.setHframe h.setDec.setHframe.deliverFrame)
    · exact h.setHframe.deliverFrame

theorem Keeps.release (h : Keeps r s) {h' : Nat} {late : Bool} : Keeps r (s.release h' late) := by
  unfold State.release
  split
  · exact h
  · exact (h.put.setHframe.cond fun h => h.bump.put).frameTry

theorem Keeps.launchRule (h : Keeps r s) {h' : Nat} {t' : Nat × Nat} {due : Bool} :
    Keeps r (s.launchRule h' t' due) := by
  unfold State.launchRule
  extract_lets
  refine .ite h.put ?_
  refine .ite h.release ?_
  refine .ite ?_ (.ite h.advanceTo.release h.put)
  split
  · exact h
  · exact h.put.setHframe.bump

theorem execH2dFrameStart_keeps (h : Keeps r s) {h' : Nat} {data bad : List Nat} {ok : Bool} :
    KeepsOut r (execH2dFrameStart h' data bad ok s) := by
  unfold execH2dFrameStart
  extract_lets
  refine .need ?_
  split
  · refine .ite h ?_
    refine .ite h.setQRing.setHframe ?_
    refine .ite h.setQRing.setHframe.abortConsumer ?_
    split
    · exact (h.setQRing.setHframe.cond fun h => h.setDec).release
    · exact (h.setQRing.setHframe.cond fun h => h.setDec).launchRule
  · exact h

theorem execFrameLaunch_keeps (h : Keeps r s) {h' : Nat} : KeepsOut r (execFrameLaunch h' s) := by
  unfold execFrameLaunch
  refine .need ?_
  split
  · exact h
  · split
    · exact h
    · exact .ite h h.launchRule

theorem execDecompBlock_keeps (h : Keeps r s) {h' : Nat} {hit : Bool} : KeepsOut r (execDecompBlock h' hit s) := by
  unfold execDecompBlock
  refine .need ?_
  split
  · exact h
  · refine .ite h ?_
    extract_lets
    split
    · exact h.setDec.frameTry
    · exact h
    · exact .ite h.setDec.bump (h.bump.cond fun h => h.put.put.put).put.setDec.frameTry

theorem Keeps.frameCpl (h : Keeps r s) {h' : Nat} {d : QDesc} {bytes status released : Nat} :
    Keeps r (s.frameCpl h' d bytes status released) :=
  h.complete

theorem execH2dFrameDone_keeps (h : Keeps r s) {h' : Nat} : KeepsOut r (execH2dFrameDone h' s) := by
  unfold execH2dFrameDone
  refine .need ?_
  split
  · exact h
  · exact .ite h.hostClear.setHframe.setDec.frameCpl h

theorem Keeps.flushDescs (h : Keeps r s) {h2d : Bool} {q st : Nat} {tags : List Nat} :
    Keeps r (s.flushDescs h2d q st tags) :=
  h.setQRing.each fun h => .ite h.frameCpl h.bufDone

theorem Keeps.qclear (h : Keeps r s) {h2d : Bool} {q : Nat} : Keeps r (s.qclear h2d q) :=
  .ite h.setQRing.setHframe.setDec.put h.setQRing.setBuf

theorem Keeps.qfall (h : Keeps r s) {h2d : Bool} {q : Nat} {tags : List Nat} : Keeps r (s.qfall h2d q tags) := by
  unfold State.qfall
  extract_lets _ s1
  have h1 : Keeps r s1 := h.qput
  refine .ite h1 (.ite (.ite h1.qclear.setQstate h1.hostClear.endBuf.setQstate) ?_)
  refine (Keeps.upd (h1.cond fun h => Keeps.flushDescs ?_)).abortConsumer.qclear.setQstate
  split
  · exact h.hostClear
  · exact h.hostClear.frameCpl

theorem Keeps.qrise (h : Keeps r s) {h2d : Bool} {q : Nat} : Keeps r (s.qrise h2d q) :=
  h.setQRing.qput.qput.qput.qput.qput.setQstate

theorem Keeps.qlocked (h : Keeps r s) {f : Fld} {en : Bool} {v q : Nat} : Keeps r (s.qlocked f en v q) :=
  .ite h (.ite h.put h.put)

theorem Keeps.qctrl (h : Keeps r s) {h2d : Bool} {q v : Nat} {tags : List Nat} : Keeps r (s.qctrl h2d q v tags) :=
  .ite h.put.qput (.ite (h.qlocked.cond fun h => h.qlocked).qput.qrise (.ite (h.qlocked.cond fun h =>
      h.qlocked).qput.qfall (h.qlocked.cond fun h => h.qlocked).qput))

theorem execQueueEnable_keeps (h : Keeps r s) {h2d : Bool} {q val : Nat} : KeepsOut r (execQueueEnable h2d q val s) :=
  .need (h.bar fun h => h.qctrl)

theorem execQueueDisable_keeps (h : Keeps r s) {h2d : Bool} {q val : Nat} {tags : List Nat} :
    KeepsOut r (execQueueDisable h2d q val tags s) :=
  .need (h.bar fun h => h.qctrl)

theorem execQueueStopped_keeps (h : Keeps r s) {q : Nat} {tags : List Nat} : KeepsOut r (execQueueStopped q tags s) :=
  .need (.ite h.hostClear.flushDescs.qclear.setQstate h)

theorem execQueueProgressTimeout_keeps (h : Keeps r s) {h2d : Bool} {q : Nat} :
    KeepsOut r (execQueueProgressTimeout h2d q s) :=
  .need (.ite h h.advanceTo.qerror)

theorem Keeps.showTmo (h : Keeps r s) : Keeps r s.showTmo := (h.cond fun h => h.put).putB

theorem Keeps.hstReset (h : Keeps r s) {link : Bool} : Keeps r (s.hstReset link) :=
  (((h.clearFields.putB.cond fun h => h.put.put).each fun h => h.showLevel).each fun h => h.setDec).upd

theorem execPerstNAssert_keeps (h : Keeps r s) : KeepsOut r (execPerstNAssert s) := .next h.hstReset

theorem execHotReset_keeps (h : Keeps r s) : KeepsOut r (execHotReset s) := .next h.hstReset

theorem execFunctionLevelReset_keeps (h : Keeps r s) : KeepsOut r (execFunctionLevelReset s) := .next h.hstReset

theorem execD3Entry_keeps (h : Keeps r s) : KeepsOut r (execD3Entry s) := .next h.hstReset

theorem execPcieLinkDown_keeps (h : Keeps r s) : KeepsOut r (execPcieLinkDown s) :=
  .next (.ite h.hstReset.closeSession.fault h)

theorem Keeps.retrained (h : Keeps r s) : Keeps r s.retrained := h.upd

theorem execPcieLinkUp_keeps (h : Keeps r s) {speed width : Nat} : KeepsOut r (execPcieLinkUp speed width s) :=
  .need (.ite h.upd.retrained.put.put h)

theorem execHstCntClr_keeps (h : Keeps r s) : KeepsOut r (execHstCntClr s) := .next (h.bar fun h => h.clearFields)

/-! ### Frames and bursts -/

theorem Keeps.setFrm (h : Keeps r s) {f : Frm} : Keeps r (s.setFrm f) := h.upd

theorem Keeps.setBurst (h : Keeps r s) {b : Burst} : Keeps r (s.setBurst b) := h.upd

theorem Keeps.fcount (h : Keeps r s) {f : Fld} {t' n : Nat} : Keeps r (s.fcount f t' n) := h.bump

theorem Keeps.sendFrame (h : Keeps r s) {n : Nat} {p : List (Nat × List SItem)} {hold : Bool} :
    Keeps r (s.sendFrame n p hold) :=
  .ite h.closePkt.emitFrame h.ecount.put

theorem Keeps.burstGo (h : Keeps r s) {fuel : Nat} : Keeps r (s.burstGo fuel) := by
  induction fuel generalizing s with
  | zero => exact h
  | succ fuel ih =>
    unfold State.burstGo
    extract_lets
    split
    · refine .ite h (.ite (.ite h (ih ?_)) ?_)
      · exact (((h.closePkt.setCtx.emit.cond fun h => (h.each fun h => h.pack).closePkt).cond
          fun h => (h.each fun h => h.pack).closePkt)).setBurst
      · split
        · exact h
        · split
          next e =>
            have h := Keeps.ofEq e h.readWords
            exact ih (h.cond fun h => h.setCtx).emitFrame.setBurst
    · exact h

theorem Keeps.burstPump (h : Keeps r s) : Keeps r s.burstPump := h.burstGo

theorem Keeps.burstAgain (h : Keeps r s) {k : Nat} : Keeps r (s.burstAgain k) := h.setBurst

theorem Keeps.burstEnd (h : Keeps r s) {st : Nat} : Keeps r (s.burstEnd st) := by
  unfold State.burstEnd
  extract_lets
  split
  · exact h.burstAgain.endCtx
  · exact h

theorem Keeps.burstCut (h : Keeps r s) : Keeps r s.burstCut := by
  unfold State.burstCut
  extract_lets
  split
  · exact (((h.closePkt.cond fun h => h.setCtx).each fun h => h.pack).cond fun h => h.each fun h =>
      h.pack).setCtx.gcount.put.burstEnd
  · exact h

theorem execBurstDeliveryEnd_keeps (h : Keeps r s) : KeepsOut r (execBurstDeliveryEnd s) := by
  unfold execBurstDeliveryEnd
  extract_lets
  refine .next ?_
  split
  · exact h.burstPump.cond fun h => h.burstEnd
  · exact h.burstPump

theorem Keeps.frameStart (h : Keeps r s) {e : Nat} : Keeps r (s.frameStart e) := h.setFrm.put

theorem Keeps.takeCounts (h : Keeps r s) {t' : Nat} : Keeps r (s.takeCounts t').1 := h.setFrm

theorem Keeps.frameEnd (h : Keeps r s) {c : FrameNow} {e : Nat} : Keeps r (s.frameEnd c e) := by
  unfold State.frameEnd
  extract_lets _ _ _ _ rec_ _ _ _ _ s1 _ q
  clear_value rec_
  have h1 : Keeps r s1 := by
    simp only [s1]
    split
    · exact h
    · exact h.setBurst
  have hq : Keeps r q.1 := h1.foldlFst fun h => by
    split
    next e =>
      have h := Keeps.ofEq e h.takeCounts
      extract_lets _ _ _ _ s3
      have h3 : Keeps r s3 := h.setFrm.put
      dsimp only
      exact h3.cond fun h => h.put
  exact hq.setFrm

theorem Keeps.gateCommit (h : Keeps r s) : Keeps r s.gateCommit := by
  unfold State.gateCommit
  exact (h.each fun h => h.commit).cond fun h => h.setFrm

theorem Keeps.frameBoundary (h : Keeps r s) {e : Nat} : Keeps r (s.frameBoundary e) := by
  unfold State.frameBoundary
  refine (?_ : Keeps r _).setBurst
  split
  · exact h.accrue.setFrm.gateCommit.cond fun h => h.frameStart
  · exact .ite h.accrue.setFrm.gateCommit (.ite h.accrue.setFrm.setFrm.fcount.put.gateCommit (.ite
      h.accrue.setFrm.frameEnd.gateCommit.frameStart (.ite h.accrue.setFrm.frameEnd.gateCommit.frameStart (.ite
      h.accrue.setFrm.frameEnd.gateCommit.frameStart h.accrue.setFrm.frameEnd.gateCommit))))

theorem execFrameBoundary_keeps (h : Keeps r s) : KeepsOut r (execFrameBoundary s) :=
  .next (.ite h.advanceTo.frameBoundary.burstPump h)

theorem Keeps.frmRun (h : Keeps r s) {v : Nat} : Keeps r (s.frmRun v) := .ite (.ite h h.put.setFrm) h.put.setFrm

theorem execFrameRunStart_keeps (h : Keeps r s) {val : Nat} : KeepsOut r (execFrameRunStart val s) :=
  .need (h.bar fun h => h.frmRun)

theorem execFrameRunStop_keeps (h : Keeps r s) {val : Nat} : KeepsOut r (execFrameRunStop val s) :=
  .need (h.bar fun h => h.frmRun)

theorem Keeps.deliver (h : Keeps r s) {x : TileFrame} : Keeps r (s.deliver x) := by
  unfold State.deliver
  extract_lets
  split
  · exact h.sendFrame
  · exact h.cond fun h => h.fcount
  · exact h.writeWords.setBurst

theorem Keeps.deliverAll (h : Keeps r s) {n : Nat} : Keeps r (s.deliverAll n) := by
  induction n generalizing s with
  | zero => exact h
  | succ n ih =>
    unfold State.deliverAll
    split
    · exact .ite (ih h.setFrm.deliver) h
    · exact h

theorem execFrameReadoutEnd_keeps (h : Keeps r s) {tile dur : Nat} {poison : List Nat} :
    KeepsOut r (execFrameReadoutEnd tile dur poison s) := by
  unfold execFrameReadoutEnd
  extract_lets
  refine .need ?_
  split
  · exact h
  · exact .ite h ((h.advanceTo.setFrm.put.fcount.cond fun h => h.fcount.put).put.deliverAll.cond fun h =>
      h.frameStart).burstPump

theorem Keeps.gateOpen (h : Keeps r s) : Keeps r s.gateOpen := h.accrue.setFrm

theorem Keeps.gateClose (h : Keeps r s) : Keeps r s.gateClose := h.accrue.setFrm

theorem execGateOpen_keeps (h : Keeps r s) : KeepsOut r (execGateOpen s) := by
  unfold execGateOpen
  refine .next ?_
  split
  · exact h
  · exact .ite h.advanceTo.setFrm h.advanceTo.setFrm.gateOpen

theorem execGateClose_keeps (h : Keeps r s) : KeepsOut r (execGateClose s) := by
  unfold execGateClose
  refine .next ?_
  split
  · exact h
  · exact h.advanceTo.setFrm.gateClose

theorem execGateLenExpire_keeps (h : Keeps r s) : KeepsOut r (execGateLenExpire s) := by
  unfold execGateLenExpire
  refine .next ?_
  split
  · exact h
  · exact h.advanceTo.gateClose

theorem execTilFrmCntClr_keeps (h : Keeps r s) : KeepsOut r (execTilFrmCntClr s) :=
  .next (h.bar fun h => (h.each fun h => h.put.put).put.put)

/-! ### Trigger conditions and contexts -/

theorem Keeps.showPend (h : Keeps r s) : Keeps r s.showPend := h.put.put

theorem Keeps.setPend (h : Keeps r s) {l : List Pending} : Keeps r (s.setPend l) := h.upd.showPend

theorem Keeps.missed (h : Keeps r s) {k : Nat} {ev : PrimEv} : Keeps r (s.missed k ev) := h.gcount.put.missedGaps

theorem Keeps.fire (h : Keeps r s) {k : Nat} {ev : PrimEv} {cause : Nat} : Keeps r (s.fire k ev cause) :=
  .ite h.gcount (.ite h.setTmpl.gcount (.ite h.setTmpl.missed (.ite h.setTmpl.missed (h.setTmpl.cond fun h =>
      h.setBurst).setPend)))

theorem Keeps.condFires (h : Keeps r s) {c : Nat} {ev : PrimEv} : Keeps r (s.condFires c ev) :=
  (h.gcount.cond fun h => by
    split
    exact h.sendFlare).maskStart

theorem execTriggerSample_keeps (h : Keeps r s) : KeepsOut r (execTriggerSample s) := by
  refine .next ((h.upd.each fun h => h.condFires).each fun h => ?_)
  extract_lets m
  clear_value m
  split
  · exact h
  · exact h.fire

theorem Keeps.disarm (h : Keeps r s) {k : Nat} : Keeps r (s.disarm k) := by
  unfold State.disarm
  exact h.put.cond fun h => h.setBurst

theorem Keeps.armFails (h : Keeps r s) {k e : Nat} : Keeps r (s.armFails k e) := h.disarm.put.put

theorem Keeps.arm (h : Keeps r s) {k at_ : Nat} : Keeps r (s.arm k at_) := .ite h.armFails h.setTmpl.put.put

theorem execTemplateArm_keeps (h : Keeps r s) {mask : Nat} : KeepsOut r (execTemplateArm mask s) :=
  .next (h.bar fun h => h.each fun h => h.arm)

theorem execTemplateArmed_keeps (h : Keeps r s) {tmpl : Nat} : KeepsOut r (execTemplateArmed tmpl s) :=
  .need (.ite h (.ite h.advanceTo.armFails (h.advanceTo.put.cond fun h => h.setBurst)))

theorem execTemplateDisarm_keeps (h : Keeps r s) {mask : Nat} : KeepsOut r (execTemplateDisarm mask s) :=
  .next (h.bar fun h => h.each fun h => h.disarm)

theorem execDisarmFlareDue_keeps (h : Keeps r s) : KeepsOut r (execDisarmFlareDue s) := by
  unfold execDisarmFlareDue
  extract_lets
  refine .next ?_
  split
  · exact h
  · exact h.advanceTo.upd.each fun h => h.each fun h => h.disarm

theorem execContextOpen_keeps (h : Keeps r s) {tmpl : Nat} : KeepsOut r (execContextOpen tmpl s) := by
  unfold execContextOpen
  refine .need ?_
  split
  · exact .ite (((h.advanceTo.setPend.each fun h => h.commit).commit.setCtx.setTmpl.put.gcount.showOpen.cond fun h =>
      h.setBurst).cond fun h => h.disarm).burstPump (((h.advanceTo.setPend.each fun h =>
      h.commit).commit.setCtx.setTmpl.put.gcount.showOpen.cond fun h => h.setBurst).cond fun h => h.disarm).follow
  · exact h

theorem Keeps.abortCtx (h : Keeps r s) {i : Nat} : Keeps r (s.abortCtx i) :=
  .ite (.ite (.ite h.burstCut h) h.cutCtx) h

theorem Keeps.ctxCmd (h : Keeps r s) {v : Nat} : Keeps r (s.ctxCmd v) := by
  unfold State.ctxCmd
  exact (h.cond fun h => h.abortCtx).cond fun h => h.setCtx

theorem execContextAbort_keeps (h : Keeps r s) {val : Nat} : KeepsOut r (execContextAbort val s) :=
  .need (h.bar fun h => h.ctxCmd)

theorem execContextRelease_keeps (h : Keeps r s) {val : Nat} : KeepsOut r (execContextRelease val s) :=
  .need (h.bar fun h => h.ctxCmd)

theorem Keeps.ringStart (h : Keeps r s) : Keeps r s.ringStart :=
  ((h.each fun h => .ite h (h.each fun h => .ite h.cutCtx h)).setRing.cond fun h => h.memRefuse).put.put.put

theorem Keeps.trgStop (h : Keeps r s) : Keeps r s.trgStop := by
  unfold State.trgStop
  extract_lets
  split
  · exact ((h.each fun h => h.each fun h => h.abortCtx).setPend.each fun h => h.missed).cond fun h => h.burstAgain
  · exact (h.each fun h => h.each fun h => h.abortCtx).setPend.each fun h => h.missed

theorem Keeps.trgCtrl (h : Keeps r s) {v : Nat} : Keeps r (s.trgCtrl v) :=
  ((h.putB.putB.cond fun h => h.ringStart).cond fun h => h.initFabric).cond fun h => h.trgStop

theorem execRingEnable_keeps (h : Keeps r s) {val : Nat} : KeepsOut r (execRingEnable val s) :=
  .need (h.bar fun h => h.trgCtrl)

theorem execTriggerEnable_keeps (h : Keeps r s) {val : Nat} : KeepsOut r (execTriggerEnable val s) :=
  .need (h.bar fun h => h.trgCtrl)

theorem execTriggerDisable_keeps (h : Keeps r s) {val : Nat} : KeepsOut r (execTriggerDisable val s) :=
  .need (h.bar fun h => h.trgCtrl)

theorem Keeps.flareCtl (h : Keeps r s) {v : Nat} : Keeps r (s.flareCtl v) :=
  .ite h.put (h.put.put.cond fun h => h.sendFlare)

theorem execFlareSend_keeps (h : Keeps r s) {val : Nat} : KeepsOut r (execFlareSend val s) :=
  .need (h.bar fun h => h.flareCtl)

theorem Keeps.doneRead (h : Keeps r s) : Keeps r s.doneRead := h.upd

theorem execDoneFifoRead_keeps (h : Keeps r s) : KeepsOut r (execDoneFifoRead s) := .next (h.bar fun h => h.doneRead)

theorem execTrgCntClr_keeps (h : Keeps r s) : KeepsOut r (execTrgCntClr s) := .next (h.bar fun h => h.clearFields.put)

/-! ### Links -/

theorem Keeps.setUse (h : Keeps r s) {l u : Nat} : Keeps r (s.setUse l u) := h.put

theorem Keeps.showLanes (h : Keeps r s) {p : Nat} {on : Bool} : Keeps r (s.showLanes p on) := h.each fun h => h.setUse

theorem Keeps.showSpare (h : Keeps r s) {p : Nat} : Keeps r (s.showSpare p) := h.putB

theorem Keeps.lerr (h : Keeps r s) {p e : Nat} : Keeps r (s.lerr p e) := h.put

theorem Keeps.lighthouse (h : Keeps r s) : Keeps r s.lighthouse := by
  unfold State.lighthouse
  refine .ite (h.cond fun h => h.put).putB.put.put.put ?_
  split
  · exact (h.cond fun h => h.put).putB.put.put.put
  · exact (h.cond fun h => h.put).putB.put.put.put

theorem Keeps.reselect (h : Keeps r s) : Keeps r s.reselect := .ite (h.choosePort.cond fun h => h.put) h

theorem Keeps.setPair (h : Keeps r s) {i : Nat} {e : Option LPair} : Keeps r (s.setPair i e) := by
  unfold State.setPair
  extract_lets
  split
  · exact h.upd.put
  · exact h.upd.put.put.putB.put.put.put

theorem Keeps.toIngress (h : Keeps r s) {p : Nat} {f : LFrame} : Keeps r (s.toIngress p f) := .ite h h.setLport

theorem Keeps.pairOut (h : Keeps r s) {e : LPair} {f : LFrame} : Keeps r (s.pairOut e f).1 := h.toIngress

theorem Keeps.pairRun (h : Keeps r s) {n : Nat} {e : LPair} : Keeps r (State.pairRun n s e).1 := by
  induction n generalizing s e with
  | zero => exact h
  | succ n ih =>
    unfold State.pairRun
    extract_lets u
    have hu : Keeps r u := h.cond fun h => h.put
    split
    · exact ih hu.pairOut
    · exact hu

theorem Keeps.pairSettle (h : Keeps r s) {i : Nat} {e : LPair} {moved : Bool} : Keeps r (s.pairSettle i e moved) := by
  unfold State.pairSettle
  exact h.pairRun.setPair

theorem Keeps.failover (h : Keeps r s) {i : Nat} {e : LPair} : Keeps r (s.failover i e) := h.put.pairSettle

theorem Keeps.pairIn (h : Keeps r s) {i : Nat} {e : LPair} {p : Nat} {f : LFrame} : Keeps r (s.pairIn i e p f) :=
  .ite h.setPair.lcount (.ite h.pairOut.pairSettle (.ite h.failover h.pairSettle))

theorem Keeps.deliverData (h : Keeps r s) {p : Nat} {f : LFrame} : Keeps r (s.deliverData p f) := by
  unfold State.deliverData
  extract_lets
  refine .ite h.lcount ?_
  split
  · split
    · exact h.pairIn
    · exact h
  · split
    · exact h.pairIn
    · exact .ite h.toIngress h.lcount

theorem Keeps.lostFrame (h : Keeps r s) {t' : LTx} : Keeps r (s.lostFrame t') := by
  unfold State.lostFrame
  split
  · exact h
  · exact h.put.put.setStrm

theorem Keeps.detach (h : Keeps r s) {p st : Nat} : Keeps r (s.detach p st) := by
  unfold State.detach
  exact (((h.lcount.each fun h =>
      h.lostFrame).setLport.put.put.put.put.put.put.put.put.upd.put.put.showSpare.showOutst.showLanes.each fun h => by
    split
    · exact .ite h.failover h
    · exact h).lighthouse.cond fun h => h.sourceLost).reselect.fault

theorem Keeps.portCfg (h : Keeps r s) {p v : Nat} : Keeps r (s.portCfg p v) :=
  .ite (.ite h.writeLocked.writeLocked.writeLocked.writeLocked.put (.ite h.put.lerr ((h.cond fun h =>
      h.upd).writeLocked.writeLocked.writeLocked.writeLocked.put.put.put.lerr.each fun h =>
      h.setLlane).setLport.showLanes)) (.ite (Keeps.ite h.detach
      h.setLport.showLanes).put.put.writeLocked.writeLocked.writeLocked.writeLocked.put
      h.writeLocked.writeLocked.writeLocked.writeLocked.put)

theorem execPortEnable_keeps (h : Keeps r s) {port val : Nat} : KeepsOut r (execPortEnable port val s) :=
  .need (h.bar fun h => h.portCfg)

theorem execPortDisable_keeps (h : Keeps r s) {port val : Nat} : KeepsOut r (execPortDisable port val s) :=
  .need (h.bar fun h => h.portCfg)

theorem Keeps.sendBeacon (h : Keeps r s) {p : Nat} : Keeps r (s.sendBeacon p) := h.lsend.setLport

theorem execBeaconSend_keeps (h : Keeps r s) {port : Nat} : KeepsOut r (execBeaconSend port s) :=
  .need (.ite h.advanceTo.sendBeacon h)

theorem Keeps.enterTrain (h : Keeps r s) {p : Nat} : Keeps r (s.enterTrain p) :=
  (h.setLport.each fun h => h.put.put).put.showSpare

theorem execBeaconReceive_keeps (h : Keeps r s) {port w0 w1 : Nat} : KeepsOut r (execBeaconReceive port w0 w1 s) :=
  .need (.ite (.ite h.lerr (.ite h.lerr h.sendBeacon.put.setLport.enterTrain.lighthouse)) h)

theorem Keeps.fillEntry (h : Keeps r s) {p : Nat} : Keeps r (s.fillEntry p) := by
  unfold State.fillEntry
  split
  exact h.put.put.put.put.put.put.put

theorem Keeps.resend (h : Keeps r s) {p : Nat} {pri fresh : Bool} : Keeps r (s.resend p pri fresh) :=
  h.setLport.lcount.each fun h => h.lsend

theorem Keeps.portUp (h : Keeps r s) {p : Nat} : Keeps r (s.portUp p) :=
  ((Keeps.ite (h.each fun h => h.retestUnit).put.setLport.put.resend.resend (h.each fun h =>
      h.retestUnit).put.setLport.fillEntry).each fun h => .ite h.setUse h).lighthouse.reselect.lpump.feedPort

theorem Keeps.trainFails (h : Keeps r s) {p e : Nat} : Keeps r (s.trainFails p e) :=
  .ite h.detach.lerr h.put.put.setLport.lerr.lighthouse

theorem Keeps.sendTrain (h : Keeps r s) {p lidx : Nat} : Keeps r (s.sendTrain p lidx) := h.lsendOn.draw

theorem execTrainFrameReceive_keeps (h : Keeps r s) {port lane : Nat} {msg : TrainMsg} {eye : Bool} {skew : Nat} :
    KeepsOut r (execTrainFrameReceive port lane msg eye skew s) := by
  unfold execTrainFrameReceive
  refine .need (.ite ?_ h)
  extract_lets _ _ s1 _ s2 _ s3 _ s4 s5
  have h1 : Keeps r s1 := h.setLport
  have h2 : Keeps r s2 := by
    simp only [s2]
    split
    · exact h1.put.put.sendTrain
    · exact h1.put.put.sendTrain
    · exact h1.setLport
    · exact h1.setLport
  have h3 : Keeps r s3 := .ite h2 (.ite h2.setLport.sendTrain (.ite h2 h2.setLport.sendTrain))
  have h4 : Keeps r s4 := h3.setLport
  have h5 : Keeps r s5 := h4.cond fun h => h.lerr
  exact .ite h5.portUp h5

theorem Keeps.spareTakes (h : Keeps r s) {p lidx : Nat} : Keeps r (s.spareTakes p lidx) :=
  h.setLport.setUse.setUse.showSpare.put.unitOut.bringSpare

theorem execTrainingTimeout_keeps (h : Keeps r s) {port : Nat} : KeepsOut r (execTrainingTimeout port s) := by
  unfold execTrainingTimeout
  extract_lets
  refine .need ?_
  refine .ite ?_ h
  split
  · exact .ite (.ite h.advanceTo.setUse.portUp h.advanceTo.spareTakes.setLport.showSpare.portUp) h.advanceTo.trainFails
  · exact h.advanceTo.trainFails

theorem execPartnerTrainTimeout_keeps (h : Keeps r s) {port : Nat} : KeepsOut r (execPartnerTrainTimeout port s) :=
  .need (.ite h.advanceTo.trainFails h)

theorem Keeps.retrain (h : Keeps r s) {p : Nat} : Keeps r (s.retrain p) := .ite h.lsend.lcount.enterTrain h

theorem Keeps.sendSwitch (h : Keeps r s) {p lidx n : Nat} : Keeps r (s.sendSwitch p lidx n) := h.lsend.setLport

theorem Keeps.laneFails (h : Keeps r s) {l : Nat} : Keeps r (s.laneFails l) := by
  unfold State.laneFails
  extract_lets
  split
  · exact h
  · exact .ite (.ite (h.cond fun h => h.lsend.setLport).setUse (.ite (.ite (h.cond fun h =>
      h.lsend.setLport).setUse.sendSwitch (h.cond fun h => h.lsend.setLport).setUse.retrain) (h.cond fun h =>
      h.lsend.setLport))) h

theorem Keeps.placeLane (h : Keeps r s) {lane lidx : Nat} : Keeps r (s.placeLane lane lidx) := by
  unfold State.placeLane
  split
  · exact h
  · exact .ite h.setUse h

theorem execMarkerReceive_keeps (h : Keeps r s) {lane w bip : Nat} {inv : Bool} :
    KeepsOut r (execMarkerReceive lane w bip inv s) := by
  unfold execMarkerReceive
  extract_lets
  refine .need ?_
  refine .ite ?_ (.ite h.setLlane.put.put.laneFails h.setLlane)
  split
  · exact .ite (((h.setLlane.put.putB.cond fun h => h.put.put.put.placeLane).cond fun h => h.lcount).cond fun h =>
      h.laneFails).detach (((h.setLlane.put.putB.cond fun h => h.put.put.put.placeLane).cond fun h => h.lcount).cond fun
      h => h.laneFails)
  · exact ((h.setLlane.put.putB.cond fun h => h.put.put.put.placeLane).cond fun h => h.lcount).cond fun h => h.laneFails

theorem execLaneLos_keeps (h : Keeps r s) {lane : Nat} : KeepsOut r (execLaneLos lane s) :=
  .need h.setLlane.put.laneFails

theorem execLaneLol_keeps (h : Keeps r s) {lane : Nat} : KeepsOut r (execLaneLol lane s) :=
  .need h.put.put.setLlane.laneFails

theorem execLaneSwitchRetry_keeps (h : Keeps r s) {port : Nat} : KeepsOut r (execLaneSwitchRetry port s) := by
  unfold execLaneSwitchRetry
  refine .need ?_
  split
  · exact h
  · exact .ite (.ite h.advanceTo.sendSwitch h.advanceTo.retrain) h

theorem execPortLosDetach_keeps (h : Keeps r s) {port : Nat} : KeepsOut r (execPortLosDetach port s) :=
  .need (.ite h.advanceTo.detach h)

theorem Keeps.replay (h : Keeps r s) {p : Nat} {pri : Bool} : Keeps r (s.replay p pri) :=
  .ite h (.ite h.retrain h.resend)

theorem Keeps.heedTrailer (h : Keeps r s) {p : Nat} {t' : Trailer} : Keeps r (s.heedTrailer p t') :=
  ((h.setLport.showOutst.cond fun h => h.replay).cond fun h => h.replay).lpump.feedPort

theorem Keeps.frameError (h : Keeps r s) {p : Nat} : Keeps r (s.frameError p) := h.lcount.setLport

theorem Keeps.lrecv (h : Keeps r s) {p : Nat} {f : LFrame} {tr : Trailer} {act : State → State}
    (hf : ∀ {s}, Keeps r s → Keeps r (act s)) : Keeps r (s.lrecv p f tr act) :=
  .ite (.ite h (.ite (hf h.setLport.heedTrailer) h.setLport.frameError)) h

theorem Keeps.lseq (h : Keeps r s) {p seq : Nat} {pri : Bool} {f : State → State}
    (hf : ∀ {s}, Keeps r s → Keeps r (f s)) : Keeps r (s.lseq p pri seq f) :=
  .ite (hf h.setLport.lsend) h.setLport

theorem Keeps.routeData (h : Keeps r s) {p : Nat} {f : LFrame} : Keeps r (s.routeData p f) := by
  unfold State.routeData
  extract_lets
  refine .ite h.deliverData ?_
  split
  · exact .ite h.setLport.feedPort h.lcount.put
  · exact h.lcount.put

theorem execLnkDataRx_keeps (h : Keeps r s) {port seq tspec : Nat} {body : List Nat} {tr : Trailer} :
    KeepsOut r (execLnkDataRx port seq tspec body tr s) :=
  .need (h.lrecv fun h => h.setLport.lseq fun h => h.routeData)

theorem Keeps.present (h : Keeps r s) {f : Flare} : Keeps r (s.present f) := by
  unfold State.present
  extract_lets
  refine .ite ?_ h.gcount.gcount.put
  split
  · exact h.gcount.prim
  · exact h.gcount.each fun h => h.arm
  · exact h.gcount.upd

theorem Keeps.takeFlare (h : Keeps r s) {p : Nat} {f : Flare} : Keeps r (s.takeFlare p f) :=
  .ite h (.ite h.upd.present.spreadFlare h.lcount)

theorem execLnkFlareRx_keeps (h : Keeps r s) {port seq : Nat} {body : List Nat} {tr : Trailer} :
    KeepsOut r (execLnkFlareRx port seq body tr s) :=
  .need (h.lrecv fun h => h.lseq fun h => h.takeFlare)

theorem execLnkSnufferRx_keeps (h : Keeps r s) {port seq : Nat} {body : List Nat} {tr : Trailer} :
    KeepsOut r (execLnkSnufferRx port seq body tr s) :=
  .need (h.lrecv fun h => h.lseq fun h => h.linkSnuffer)

theorem execLnkCtrlAck_keeps (h : Keeps r s) {port : Nat} {tr : Trailer} : KeepsOut r (execLnkCtrlAck port tr s) :=
  .need (h.lrecv fun h => h)

theorem execLnkCtrlSwitch_keeps (h : Keeps r s) {port lidx : Nat} {tr : Trailer} :
    KeepsOut r (execLnkCtrlSwitch port lidx tr s) :=
  .need (h.lrecv fun h => .ite h.setLport.showSpare.lsend h)

theorem execLnkCtrlSwitched_keeps (h : Keeps r s) {port lidx : Nat} {tr : Trailer} :
    KeepsOut r (execLnkCtrlSwitched port lidx tr s) :=
  .need (h.lrecv fun h => by
    split
    · exact .ite h.spareTakes h
    · exact h)

theorem execLnkCtrlWake_keeps (h : Keeps r s) {port : Nat} {tr : Trailer} : KeepsOut r (execLnkCtrlWake port tr s) :=
  .need (h.lrecv fun h => .ite h.setLport h)

theorem execLnkCtrlSleep_keeps (h : Keeps r s) {port : Nat} {tr : Trailer} : KeepsOut r (execLnkCtrlSleep port tr s) :=
  .need (h.lrecv fun h => .ite h.put.setLport h)

theorem execLnkCtrlRetrain_keeps (h : Keeps r s) {port : Nat} {tr : Trailer} :
    KeepsOut r (execLnkCtrlRetrain port tr s) :=
  .need (h.lrecv fun h => h.retrain)

theorem execLnkReplayTimeout_keeps (h : Keeps r s) {port : Nat} {pri : Bool} :
    KeepsOut r (execLnkReplayTimeout port pri s) :=
  .need (.ite h.advanceTo.replay h)

theorem execLnkProgressTimeout_keeps (h : Keeps r s) {port : Nat} : KeepsOut r (execLnkProgressTimeout port s) :=
  .need (.ite h.advanceTo.retrain h)

theorem execLnkRetrainCmd_keeps (h : Keeps r s) {port val : Nat} : KeepsOut r (execLnkRetrainCmd port val s) :=
  .need (h.bar fun h => h.retrain)

theorem execPortWaitExpire_keeps (h : Keeps r s) {port : Nat} : KeepsOut r (execPortWaitExpire port s) :=
  .need (.ite h.advanceTo.detach h)

theorem execTimeFrameSend_keeps (h : Keeps r s) {port sub : Nat} : KeepsOut r (execTimeFrameSend port sub s) :=
  .need (.ite h.advanceTo.lsend.setLport h)

theorem Keeps.measure (h : Keeps r s) {p : Nat} {t1 t4 res : Int} : Keeps r (s.measure p t1 t4 res) :=
  h.commit.setLport.put

theorem Keeps.ltSample (h : Keeps r s) {p : Nat} {o : Int} : Keeps r (s.ltSample p o) :=
  h.ltPut.cond fun h => h.timeSample

theorem execLnkTimeRx_keeps (h : Keeps r s) {port : Nat} {sub : Int} {body : List Nat} {tr : Trailer} :
    KeepsOut r (execLnkTimeRx port sub body tr s) := by
  refine .need (h.lrecv fun {s} h => ?_)
  extract_lets _ _ _ _ _ _ _ _ s2 s3 s4
  have h2 : Keeps r s2 := h.setLport.put
  have h3 : Keeps r s3 := by
    simp only [s3]
    split
    · exact h2.measure
    · exact h2
  have h4 : Keeps r s4 := h3.lighthouse.reselect
  exact .ite h4.ltSample h4

theorem execTimeFrameMiss_keeps (h : Keeps r s) {port : Nat} : KeepsOut r (execTimeFrameMiss port s) :=
  .need (.ite (.ite h.advanceTo.lcount.setLport.sourceLost.reselect h.advanceTo.lcount.setLport) h)

theorem execDualHoldExpire_keeps (h : Keeps r s) {entry : Nat} : KeepsOut r (execDualHoldExpire entry s) := by
  unfold execDualHoldExpire
  refine .need ?_
  split
  · exact h
  · split
    · exact h
    · refine .ite h.advanceTo.failover ?_
      refine .ite h.advanceTo.lcount.put.pairSettle ?_
      split
      · exact h.advanceTo.lcount.put.pairOut.pairSettle
      · exact h.advanceTo.lcount.put.setPair

theorem execDualPairExpire_keeps (h : Keeps r s) {entry : Nat} : KeepsOut r (execDualPairExpire entry s) := by
  unfold execDualPairExpire
  refine .need ?_
  split
  · exact h
  · exact h.advanceTo.setPair

theorem execDualRestore_keeps (h : Keeps r s) {entry : Nat} : KeepsOut r (execDualRestore entry s) := by
  unfold execDualRestore
  refine .need ?_
  split
  · exact h
  · split
    · exact .ite h.advanceTo.pairSettle h
    · exact h

theorem execPortSleep_keeps (h : Keeps r s) {port : Nat} : KeepsOut r (execPortSleep port s) :=
  .need (.ite h.advanceTo.lsend.put.setLport h)

theorem execPortWakeComplete_keeps (h : Keeps r s) {port : Nat} : KeepsOut r (execPortWakeComplete port s) :=
  .need (.ite h.put.setLport.lighthouse.lpump.feedPort h)

theorem execLnkCntClr_keeps (h : Keeps r s) : KeepsOut r (execLnkCntClr s) := .next (h.bar fun h => h.clearFields)

/-! ### Reset and boot -/

theorem Keeps.recordRail (h : Keeps r s) {code run : Nat} : Keeps r (s.recordRail code run) := h.put.put.put

theorem Keeps.setPhase (h : Keeps r s) {p : Phase} : Keeps r (s.setPhase p) := h.upd

theorem Keeps.setHolds (h : Keeps r s) {h' : Holds} : Keeps r (s.setHolds h') := h.upd

theorem execVauxRise_keeps (h : Keeps r s) : KeepsOut r (execVauxRise s) :=
  .next ⟨fun _ => .of_nil rfl rfl rfl, h.pending⟩

theorem Keeps.vauxLost (h : Keeps r s) : Keeps r s.vauxLost := ⟨fun _ => .of_nil rfl rfl rfl, h.pending⟩

theorem execVauxFall_keeps (h : Keeps r s) : KeepsOut r (execVauxFall s) := .next h.vauxLost

theorem execRailRise_keeps (h : Keeps r s) {r' : Rail} : KeepsOut r (execRailRise r' s) :=
  .next (h.upd.cond fun h => h.recordRail).setHolds

theorem execRailOutOfRange_keeps (h : Keeps r s) {r' : Rail} : KeepsOut r (execRailOutOfRange r' s) := by
  unfold execRailOutOfRange
  extract_lets
  split
  · exact .next h.upd.recordRail.fault
  · exact .next h.upd.recordRail.fault
  · exact .next h.upd.recordRail.startFails
  · exact .next h.upd

theorem execResetNAccept_keeps (h : Keeps r s) {lowNs : Nat} : KeepsOut r (execResetNAccept lowNs s) :=
  .ite (.next h) (.next h.resetAll.upd)

theorem execResetNBounce_keeps (h : Keeps r s) {heldMs : Nat} : KeepsOut r (execResetNBounce heldMs s) :=
  .ite (.next (h.put.cond fun h => h.put)) (.next h)

theorem execResetNRise_keeps (h : Keeps r s) {bootSel : Nat} {testMode : Bool} {heldMs : Nat} :
    KeepsOut r (execResetNRise bootSel testMode heldMs s) :=
  .ite (.next h) (.next (h.put.put.cond fun h => h.put).upd)

theorem Keeps.enterPilot (h : Keeps r s) {cause : Nat} : Keeps r (s.enterPilot cause) :=
  h.loadRecord.upd.put.put.put.audit

theorem execStartBegin_keeps (h : Keeps r s) : KeepsOut r (execStartBegin s) :=
  .ite (.next (.ite h.upd.setPhase.put.upd h.upd.setPhase.put.enterPilot)) (.next h)

theorem Keeps.dataScan (h : Keeps r s) {tdi : List Bool} : Keeps r (s.dataScan tdi) :=
  .ite h (.ite h.upd.draw.upd h.upd)

theorem Keeps.scanLoad (h : Keeps r s) {j : JtagInstr} : Keeps r (s.scanLoad j) := .ite h (.ite h.resetAll.upd h.upd)

theorem Keeps.scanEnd (h : Keeps r s) {j : JtagInstr} : Keeps r (s.scanEnd j) :=
  .ite h (.ite h.upd.safReboot.safShow h.upd)

theorem execJtagExtest_keeps (h : Keeps r s) {tdi : List Bool} : KeepsOut r (execJtagExtest tdi s) :=
  .next h.scanLoad.dataScan

theorem execJtagClamp_keeps (h : Keeps r s) {tdi : List Bool} : KeepsOut r (execJtagClamp tdi s) :=
  .next h.scanLoad.dataScan

theorem execJtagHighz_keeps (h : Keeps r s) {tdi : List Bool} : KeepsOut r (execJtagHighz tdi s) :=
  .next h.scanLoad.dataScan

theorem execJtagIdcode_keeps (h : Keeps r s) {tdi : List Bool} : KeepsOut r (execJtagIdcode tdi s) :=
  .next h.scanEnd.dataScan

theorem execJtagSamplePreload_keeps (h : Keeps r s) {tdi : List Bool} : KeepsOut r (execJtagSamplePreload tdi s) :=
  .next h.scanEnd.dataScan

theorem execJtagBypass_keeps (h : Keeps r s) {opcode : Nat} {tdi : List Bool} :
    KeepsOut r (execJtagBypass opcode tdi s) :=
  .need h.scanEnd.dataScan

theorem execJtagTestLogicReset_keeps (h : Keeps r s) : KeepsOut r (execJtagTestLogicReset s) := .next h.scanEnd

theorem execFailedStartHoldEnd_keeps (h : Keeps r s) : KeepsOut r (execFailedStartHoldEnd s) :=
  .ite (.next h.resetAll) (.next h)

theorem execFailcntClearTimeout_keeps (h : Keeps r s) : KeepsOut r (execFailcntClearTimeout s) := by
  unfold execFailcntClearTimeout
  split
  · exact .next h
  · exact .next h.advanceTo.upd.put

theorem execBootRestart_keeps (h : Keeps r s) : KeepsOut r (execBootRestart s) := .next (h.bar fun h => h.guarded)

theorem execBootPilot_keeps (h : Keeps r s) : KeepsOut r (execBootPilot s) := .next (h.bar fun h => h.guarded)

theorem Keeps.bootCtrlWrite (h : Keeps r s) {v : Nat} : Keeps r (s.bootCtrlWrite v) :=
  .ite h.guarded (.ite h.guarded h.guarded)

theorem Keeps.bootCtrl (h : Keeps r s) {v : Nat} : Keeps r (s.bootCtrl v) :=
  .ite h (.ite (h.cond fun h => h.put).upd.resetAll h.upd.resetAll)

theorem execRefclkLoss_keeps (h : Keeps r s) : KeepsOut r (execRefclkLoss s) := by
  unfold execRefclkLoss
  extract_lets
  split
  · exact .next h.upd.fault
  · exact .next h.upd.fault
  · exact .next (.ite h.upd h.upd.fault)
  · exact .next h.upd

theorem execRefclkReturn_keeps (h : Keeps r s) : KeepsOut r (execRefclkReturn s) := .next h.upd

/-! ### Edge measurement -/

theorem Keeps.setTdc (h : Keeps r s) {t' : Tdc} : Keeps r (s.setTdc t') := h.upd

theorem Keeps.setInterp (h : Keeps r s) {i : Nat} {x : Interp} : Keeps r (s.setInterp i x) := h.setTdc

theorem Keeps.setTch (h : Keeps r s) {n : Nat} {x : TdcCh} : Keeps r (s.setTch n x) := h.setTdc

theorem Keeps.tdcount (h : Keeps r s) {f : Fld} {n : Nat} : Keeps r (s.tdcount f n) := h.bump

theorem Keeps.edgeCommit (h : Keeps r s) {n : Nat} : Keeps r (s.edgeCommit n) := by
  unfold State.edgeCommit
  split
  · exact h.cond fun h => h.commit.setTch
  · exact h

theorem Keeps.showQueue (h : Keeps r s) {n old : Nat} : Keeps r (s.showQueue n old) := by
  unfold State.showQueue
  exact h.put.cond fun h => h.put

theorem Keeps.tdcPush (h : Keeps r s) {n free : Nat} {e : TdcEntry} : Keeps r (s.tdcPush n free e) :=
  .ite h.setTch.tdcount.showQueue h

theorem Keeps.tdcLose (h : Keeps r s) {n : Nat} : Keeps r (s.tdcLose n) := h.setTch.tdcount

theorem Keeps.tdcGap (h : Keeps r s) {n start len lost : Nat} : Keeps r (s.tdcGap n start len lost) := h.tdcPush.put

theorem Keeps.closeLoss (h : Keeps r s) {n : Nat} : Keeps r (s.closeLoss n) := by
  unfold State.closeLoss
  extract_lets
  split
  · exact .ite h.setTch.tdcGap h
  · exact h

theorem Keeps.showTdcReq (h : Keeps r s) : Keeps r s.showTdcReq := by
  unfold State.showTdcReq
  split
  · exact h.put
  · exact h.put.put

theorem Keeps.tdcChOff (h : Keeps r s) {n at_ : Nat} : Keeps r (s.tdcChOff n at_) := by
  unfold State.tdcChOff
  exact h.setTch.put.put.put.tdcGap.fault

theorem Keeps.showCal (h : Keeps r s) {n : Nat} : Keeps r (s.showCal n) := .ite h.put.put h.put.put

theorem Keeps.tdcSwitch (h : Keeps r s) {n c : Nat} : Keeps r (s.tdcSwitch n c) :=
  (Keeps.ite h.put.put h.put.put).put.setTch.showCal.bringSpare

theorem Keeps.spareLeaves (h : Keeps r s) {c : Nat} : Keeps r (s.spareLeaves c) := .ite h.put.put (.ite h.put.put h)

theorem Keeps.tdcOffs (h : Keeps r s) : Keeps r s.tdcOffs := .ite h (h.advanceTo.setTdc.each fun h => h.tdcChOff)

theorem Keeps.coreFails (h : Keeps r s) {c : Nat} : Keeps r (s.coreFails c) := by
  unfold State.coreFails
  extract_lets
  refine .ite h ?_
  split
  · exact (Keeps.ite h.put h.put).put.unitOut.spareLeaves
  · split
    · exact (Keeps.ite h.put h.put).put.unitOut.spareLeaves.setTdc
    · exact .ite (Keeps.ite h.put h.put).put.unitOut.spareLeaves.tdcSwitch (Keeps.ite h.put
        h.put).put.unitOut.spareLeaves.setTdc.put.showTdcReq

theorem Keeps.tdcAnswer (h : Keeps r s) {approve : Bool} : Keeps r (s.tdcAnswer approve) := by
  unfold State.tdcAnswer
  extract_lets
  split
  · exact h
  · refine (?_ : Keeps r _).showTdcReq
    split
    · exact .ite h.setTdc.tdcSwitch h.setTdc.tdcChOff
    · exact h.setTdc.tdcChOff

theorem execTdcSpareApprove_keeps (h : Keeps r s) {val : Nat} : KeepsOut r (execTdcSpareApprove val s) :=
  .need (h.bar fun h => h.tdcAnswer)

theorem execTdcSpareDecline_keeps (h : Keeps r s) {val : Nat} : KeepsOut r (execTdcSpareDecline val s) :=
  .need (h.bar fun h => h.tdcAnswer)

theorem execTdcSpareTimeout_keeps (h : Keeps r s) : KeepsOut r (execTdcSpareTimeout s) := by
  unfold execTdcSpareTimeout
  refine .next ?_
  split
  · exact h
  · exact h.advanceTo.tdcAnswer

theorem Keeps.tdcEdge (h : Keeps r s) {n : Nat} {falling : Bool} : Keeps r (s.tdcEdge n falling) := by
  unfold State.tdcEdge
  extract_lets
  refine .ite h.edgeCommit.closeLoss ?_
  refine .ite h.edgeCommit.closeLoss.tdcLose ?_
  split
  · exact h.edgeCommit.closeLoss.tdcLose
  · exact h.edgeCommit.closeLoss.setInterp
  · exact h.edgeCommit.closeLoss.setInterp
  · exact .ite h.edgeCommit.closeLoss.setInterp h.edgeCommit.closeLoss.setInterp

theorem execTdcInputEdge_keeps (h : Keeps r s) {pin : Nat} {falling : Bool} :
    KeepsOut r (execTdcInputEdge pin falling s) :=
  .need (h.each fun h => h.tdcEdge)

theorem Keeps.interpBad (h : Keeps r s) {i : Nat} : Keeps r (s.interpBad i) := by
  unfold State.interpBad
  exact h.setInterp.cond fun h => h.coreFails

theorem execTdcCalEnd_keeps (h : Keeps r s) {interp n1 n2 : Nat} : KeepsOut r (execTdcCalEnd interp n1 n2 s) := by
  unfold execTdcCalEnd
  extract_lets
  refine .need ?_
  split
  · exact .ite (h.advanceTo.each fun h => h.put.put).setInterp (h.advanceTo.each fun h =>
      h.put.put).setInterp.interpBad.tdcOffs
  · exact h

theorem execTdcIdleRecal_keeps (h : Keeps r s) {interp : Nat} : KeepsOut r (execTdcIdleRecal interp s) := by
  unfold execTdcIdleRecal
  extract_lets
  refine .need ?_
  split
  · exact h.advanceTo.setInterp
  · exact h

theorem Keeps.tdcArm (h : Keeps r s) {n : Nat} : Keeps r (s.tdcArm n) := (h.each fun h => h.commit).setTch.put

theorem Keeps.tdcEnd (h : Keeps r s) {n : Nat} : Keeps r (s.tdcEnd n) := .ite h.commit.tdcArm h.commit.setTch.put

theorem Keeps.tdcStart (h : Keeps r s) {n : Nat} {t' : Int} {falling : Bool} : Keeps r (s.tdcStart n t' falling) := by
  unfold State.tdcStart
  extract_lets
  split
  · exact h.setTch.put
  · exact h.tdcount
  · exact h

theorem Keeps.tdcEntry (h : Keeps r s) {n kind : Nat} {t' : Int} {falling bad : Bool} {value : Nat} :
    Keeps r (s.tdcEntry n kind t' falling bad value) := by
  unfold State.tdcEntry
  extract_lets
  refine .ite ?_ h.closeLoss.tdcLose
  split
  exact h.closeLoss.tdcPush

theorem Keeps.tdcStop (h : Keeps r s) {n : Nat} {t' : Int} {falling bad : Bool} :
    Keeps r (s.tdcStop n t' falling bad) := by
  unfold State.tdcStop
  split
  · exact .ite h.tdcEntry.prim.tdcEnd h.tdcount
  · exact h.tdcount
  · exact h.tdcount
  · exact h

theorem Keeps.resultStarts (h : Keeps r s) {r' : TdcRes} : Keeps r (s.resultStarts r') :=
  .ite ((h.each fun h => h.tdcStart).cond fun h => h.tdcStart) h

theorem Keeps.resultEnds (h : Keeps r s) {r' : TdcRes} : Keeps r (s.resultEnds r') :=
  .ite (.ite (h.cond fun h => h.tdcount.put) (.ite (h.cond fun h => h.tdcount.put).tdcStop (h.cond fun h =>
      h.tdcount.put).tdcEntry.prim)) (.ite h.tdcLose h)

theorem Keeps.resultCal (h : Keeps r s) {r' : TdcRes} : Keeps r (s.resultCal r') := h.setInterp

theorem Keeps.tdcResults (h : Keeps r s) {l : List TdcRes} : Keeps r (s.tdcResults l) :=
  ((((h.advanceTo.each fun h => h.resultCal).each fun h => h.resultStarts).each fun h => h.resultEnds).each fun h =>
      h.interpBad).tdcOffs

theorem Keeps.tdcFlow (h : Keeps r s) {n : Nat} : Keeps r (s.tdcFlow n) := by
  induction n generalizing s with
  | zero => exact h
  | succ n ih => exact .ite h (ih h.tdcResults)

theorem execTdcResult_keeps (h : Keeps r s) {interp n : Nat} : KeepsOut r (execTdcResult interp n s) := by
  unfold execTdcResult
  extract_lets
  refine .need ?_
  split
  · exact h.setInterp.tdcFlow
  · exact h

theorem execTdcTimeout_keeps (h : Keeps r s) {ch : Nat} : KeepsOut r (execTdcTimeout ch s) := by
  unfold execTdcTimeout
  refine .need ?_
  split
  · refine .ite h ?_
    split
    exact h.advanceTo.closeLoss.tdcPush.tdcount.tdcEnd
  · exact h

theorem execTdcGapEntry_keeps (h : Keeps r s) {ch : Nat} : KeepsOut r (execTdcGapEntry ch s) := by
  unfold execTdcGapEntry
  refine .need ?_
  split
  · exact h
  · exact h.advanceTo.closeLoss

theorem Keeps.tdcDisarm (h : Keeps r s) {n : Nat} : Keeps r (s.tdcDisarm n) := h.setTch.put

theorem Keeps.roomFrom (h : Keeps r s) {n : Nat} : Keeps r (s.roomFrom n) := .ite h h.setTch

theorem Keeps.tdcCmd (h : Keeps r s) {v : Nat} : Keeps r (s.tdcCmd v) := by
  unfold State.tdcCmd
  exact ((h.cond fun h => h.tdcArm).cond fun h => h.tdcDisarm).cond fun h => h.roomFrom.setTch.put

theorem execTdcArm_keeps (h : Keeps r s) {val : Nat} : KeepsOut r (execTdcArm val s) :=
  .need (h.bar fun h => h.tdcCmd)

theorem execTdcDisarm_keeps (h : Keeps r s) {val : Nat} : KeepsOut r (execTdcDisarm val s) :=
  .need (h.bar fun h => h.tdcCmd)

theorem execTdcFlush_keeps (h : Keeps r s) {val : Nat} : KeepsOut r (execTdcFlush val s) :=
  .need (h.bar fun h => h.tdcCmd)

theorem Keeps.tdcStage (h : Keeps r s) {f : Fld} {en : Bool} {v n : Nat} : Keeps r (s.tdcStage f en v n) :=
  .ite h.stage h.put.unstage

theorem Keeps.tdcCfg (h : Keeps r s) {v : Nat} : Keeps r (s.tdcCfg v) :=
  .ite ((Keeps.ite (Keeps.ite h.writeLocked.put h.writeLocked.writeLocked).put (Keeps.ite h.writeLocked.put
      h.writeLocked.writeLocked).writeLocked).tdcStage.setTch.tdcStage.tdcStage.put.put.cond fun h => h.tdcArm) (.ite
      (Keeps.ite (Keeps.ite h.writeLocked.put h.writeLocked.writeLocked).put (Keeps.ite h.writeLocked.put
      h.writeLocked.writeLocked).writeLocked).tdcStage.setTch.tdcStage.tdcStage.put.put.tdcDisarm (Keeps.ite (Keeps.ite
      h.writeLocked.put h.writeLocked.writeLocked).put (Keeps.ite h.writeLocked.put
      h.writeLocked.writeLocked).writeLocked).tdcStage.setTch.tdcStage.tdcStage.put.put)

theorem execTdcChannelEnable_keeps (h : Keeps r s) {val : Nat} : KeepsOut r (execTdcChannelEnable val s) :=
  .need (h.bar fun h => h.tdcCfg)

theorem Keeps.tdcSnap (h : Keeps r s) {n : Nat} : Keeps r (s.tdcSnap n) := by
  unfold State.tdcSnap
  extract_lets
  split
  · exact h.setTch
  · exact h.setTch

theorem Keeps.tdcRemove (h : Keeps r s) {n : Nat} : Keeps r (s.tdcRemove n) :=
  .ite (Keeps.ite h.roomFrom h).setTch.put h

theorem execTdcQueueSnapshot_keeps (h : Keeps r s) {ch : Nat} : KeepsOut r (execTdcQueueSnapshot ch s) :=
  .need (h.bar fun h => h.tdcSnap.upd)

theorem execTdcQueueRemove_keeps (h : Keeps r s) {ch : Nat} : KeepsOut r (execTdcQueueRemove ch s) :=
  .need (h.bar fun h => h.upd.tdcRemove)

theorem execTdcCntClr_keeps (h : Keeps r s) : KeepsOut r (execTdcCntClr s) := .next (h.bar fun h => h.clearFields)

/-! ### Register writes -/

theorem Keeps.refusedFlag (h : Keeps r s) {r' : RegRef} : Keeps r (s.refusedFlag r') := by
  unfold State.refusedFlag
  split
  case h_10 => exact h.auxRefuse
  case h_19 => exact h.put.put
  all_goals exact h.put

theorem Keeps.stagePut (h : Keeps r s) {r' : RegRef} {en : Bool} {v : Nat} : Keeps r (s.stagePut r' en v) :=
  .ite h.auxStage (.ite (h.stage.cond fun h => h.put) (h.put.unstage.cond fun h => h.showPending))

theorem Keeps.fieldWrite (h : Keeps r s) {s0 : State} {g : RegRef} {v : Nat} : Keeps r (State.fieldWrite s0 s g v) := by
  unfold State.fieldWrite
  extract_lets
  split
  · exact h
  · exact h
  · exact h
  · exact h.put
  · exact h.put
  · split
    · exact h.put
    · exact h.stagePut
    · exact .ite h (.ite h.refusedFlag h.put)

theorem Keeps.guardedWord (h : Keeps r s) {a v : Nat} : Keeps r (s.guardedWord a v) := .ite h.guardedIn h.guarded

theorem Keeps.guardedPut (h : Keeps r s) {a act : Nat} : Keeps r (s.guardedPut a act) :=
  h.foldl fun h => .ite (.ite h.stage h.put) h

/-- The state after a command that a register write stands for. -/
theorem outState_keeps (h : Keeps r s) {o : Out} (ho : KeepsOut r o) : Keeps r (outState s o) := by
  cases o with
  | next t => exact ho t rfl
  | _ => exact h

theorem KeepsOpt.go (h : Keeps r s) {o : Out} (ho : KeepsOut r o) : KeepsOpt r (Option.some (outState s o)) :=
     .some (outState_keeps h ho)

theorem KeepsOpt.on (h : Keeps r s) {c : Bool} {o : Out} (ho : KeepsOut r o) :
    KeepsOpt r (if c then Option.some (outState s o) else Option.some s) := .ite (.go h ho) (.some h)

theorem Keeps.thrWord (h : Keeps r s) {t' v : Nat} : Keeps r (s.thrWord t' v) :=
  .ite h.stage.stage.stage h.stage.stage.stage.thrCommit

theorem Keeps.tileWord (h : Keeps r s) {t' o v : Nat} : KeepsOpt r (s.tileWord t' o v) := by
  unfold State.tileWord
  split
  · exact .some h.tilCtrl
  · exact .some h.thrWord
  · exact .some h.tpFire
  · exact .some h.tilRota
  · exact .some (.ite (outState_keeps h (execTilCntClr_keeps h)) h)
  · exact .some (.ite h.answerReq (.ite h.answerReq h))
  · exact .some (.ite (outState_keeps h (execTilXcntClr_keeps h)) h)
  · exact .ite .none (.some h.put)
  · exact .none

theorem Keeps.pcntCfg (h : Keeps r s) {v : Nat} : Keeps r (s.pcntCfg v) :=
  h.each fun h => .ite h (.ite h.put (h.put.cond fun h => h.put))

theorem Keeps.auxSeqWord (h : Keeps r s) {o v : Nat} : Keeps r (s.auxSeqWord o v) := .ite h.setAux h.setAux.auxStage

theorem Keeps.maskCfg (h : Keeps r s) {v : Nat} : Keeps r (s.maskCfg v) := by
  have ht : Keeps r ((s.refs 0xA014C).foldl (fun t g => s.fieldWrite t g v) s) := h.foldl fun h => h.fieldWrite
  exact .ite ht.maskWait ht

theorem Keeps.showClamps (h : Keeps r s) : Keeps r s.showClamps :=
  (h.each fun h => h.clampTile).each fun h => h.clampPort

/-- The registers whose writes act beyond their fields, address by address. -/
theorem Keeps.special (h : Keeps r s) {a v : Nat} : KeepsOpt r (s.special a v) := by
  unfold State.special
  extract_lets
  refine .ite h.tileWord <| .ite (.some h.rmapWrite) <| .ite (.ite (.some h.strmCfg) .none) <|
    .ite (.some h.pinCfg) <| .ite (.some h.auxSeqWord) <| .ite (.some h.loopCtrl) <| .ite (.some (.ite h.loopCommit h)) <|
    .ite (.some h.portCfg) <| .ite (.some (.ite h.retrain h)) <| .ite (.some h.qctrl) <| .ite (.some h.qctrl) ?_
  split
  · exact .on h (execGenFaultAck_keeps h)
  · exact .on h (execGenCntClr_keeps h)
  · exact .go h (execModuleIdProgram_keeps h)
  · exact .ite .none (.some h.idleClose)
  · exact .ite .none (.some h.idleClose)
  · exact .ite .none (.some h.idleClose)
  · exact .ite .none (.some h.idleClose)
  · exact .some (.ite h.idleClose.closeSession (.ite (outState_keeps h (execSessionRequest_keeps h)) h))
  · exact .go h (execSessionResponse_keeps h)
  · exact .on h (execKeyProgram_keeps h)
  · exact .go h (execVfeSet_keeps h)
  · exact .some h.bootCtrlWrite
  · exact .some h.timCtrl
  · exact .on h (execTimSnap_keeps h)
  · exact .on h (execTimCntClr_keeps h)
  · exact .some h.pcsWord
  · exact .on h (execPcsAbort_keeps h)
  · exact .some h.frmRun
  · exact .on h (execTilFrmCntClr_keeps h)
  · exact .some h.evtCtrl
  · exact .ite (.go h (execRmapCommit_keeps h)) (.some h.put)
  · exact .on h (execEvtCntClr_keeps h)
  · exact .on h (execCluCntClr_keeps h)
  · exact .some h.trgCtrl
  · exact .go h (execHostFire_keeps h)
  · exact .go h (execTemplateArm_keeps h)
  · exact .go h (execTemplateDisarm_keeps h)
  · exact .some h.flareCtl
  · exact .some h.ctxCmd
  · exact .some h.writeMask
  · exact .some h.writeMask
  · exact .some h.maskCfg
  · exact .on h (execMaskRearm_keeps h)
  · exact .on h (execTrgCntClr_keeps h)
  · exact .some h.checkDone.setFab
  · exact .some h.checkDone.setFab
  · exact .some h.checkDone.setFab
  · exact .go h (execWickWrite_keeps h)
  · exact .go h (execGroupInputWrite_keeps h)
  · exact .some (.ite h.reloadAbort h)
  · exact .on h (execFabCntClr_keeps h)
  · exact .some h.imgCtrlWrite
  · exact .some h.imgProgWrite
  · exact .some (.ite h.tdcAnswer (.ite h.tdcAnswer h))
  · exact .on h (execTdcCntClr_keeps h)
  · exact .some h.tdcCfg
  · exact .some h.tdcCmd
  · exact .some h.auxCtrl
  · exact .go h (execAuxInjectFire_keeps h)
  · split
    · exact .go h (execAuxCalZero_keeps h)
    · exact .go h (execAuxCalFull_keeps h)
    · exact .go h (execAuxCalAbort_keeps h)
    · exact .some h
  · exact .on h (execAuxCntClr_keeps h)
  · exact .some h.pcntCfg
  · exact .on h (execCtlCntClr_keeps h)
  · exact .some (.ite h.ackWrite h.guardedIn)
  · exact .go h (execSnufferRxSubmit_keeps h)
  · exact .on h (execSafCntClr_keeps h)
  · exact .on h (execLnkCntClr_keeps h)
  · exact .on h (execHstCntClr_keeps h)
  · exact .some h.cmpCtrl
  · exact .on h (execCmpCntClr_keeps h)
  · exact .some h.cmpCmd
  · exact .some h.memPartition
  · exact .some h.memPartition
  · exact .some h.memPartition
  · exact .ite (.go h (execScrubStart_keeps h)) (.some h.put)
  · exact .on h (execSramFuseProg_keeps h)
  · exact .on h (execMemCntClr_keeps h)
  · exact .none

theorem Keeps.after (h : Keeps r s) {s0 : State} {a v : Nat} : Keeps r (State.after s0 s a v) :=
  .ite h.showClamps <| .ite (.ite h.stage h.put) <| .ite h.lighthouse <| .ite h.put <| .ite (.ite h h.dropHeld) <|
    .ite h.showDepth <| .ite h.loopSafe <| .ite h.showTmo h

theorem Keeps.write32 (h : Keeps r s) {a v : Nat} : Keeps r (s.write32 a v) := by
  unfold State.write32
  extract_lets u _
  have hu : Keeps r u := .ite h.checkDone h
  clear_value u
  split
  · next e => exact hu.special _ e
  · exact .ite hu.guardedWord (hu.foldl fun h => h.fieldWrite).after

theorem execRegisterWrite_keeps (h : Keeps r s) {addr val size : Nat} :
    KeepsOut r (execRegisterWrite addr val size s) :=
  .need (.ite (.ite ((h.bar fun h => h.write32).bar fun h => h.write32) (h.bar fun h => h.write32)) (.ite h.bump.put h))

theorem Keeps.i2cRead (h : Keeps r s) : Keeps r s.i2cRead := by
  unfold State.i2cRead
  extract_lets _ _ s1
  have h1 : Keeps r s1 := h.upd
  split
  · exact h1.upd
  · refine .ite (.ite h1.upd ?_) h1.upd
    exact .ite (Keeps.ite h1.faultSnapshot h1).upd.faultRemove (Keeps.ite h1.faultSnapshot h1).upd

theorem execI2cRegisterRead_keeps (h : Keeps r s) {slave n : Nat} : KeepsOut r (execI2cRegisterRead slave n s) :=
  .next (.ite (h.upd.foldl fun h => h.i2cRead) h)

/-! ### Sessions, keys and stored audit entries -/

theorem Keeps.keyFuse (h : Keeps r s) {role key : Nat} {ok : Bool} : Keeps r (s.keyFuse role key ok) := .ite h h.upd

theorem Keeps.idFuse (h : Keeps r s) {id : Nat} {ok : Bool} : Keeps r (s.idFuse id ok) :=
  .ite h (.ite (h.upd.cond fun h => h.lighthouse) h.upd)

theorem Keeps.audNear (h : Keeps r s) {was now : Int} : Keeps r (s.audNear was now) := h.cond fun h => h.put

theorem Keeps.audMark (h : Keeps r s) {v : Nat} : Keeps r (s.audMark v) := h.put.upd.audNear

theorem Keeps.wearThr (h : Keeps r s) {act : Nat} : Keeps r (s.wearThr act) := h.guardedPut.upd.wearCheck

theorem Keeps.applyGuarded (h : Keeps r s) {a act : Nat} {ok : Bool} : Keeps r (s.applyGuarded a act ok) := by
  unfold State.applyGuarded
  split
  · exact h.idFuse
  · exact h.keyFuse
  · exact h.audMark
  · exact h.wearThr
  · exact h.bootCtrl
  · exact h.imgCtrl
  · exact h.imgProg
  · exact h
  · exact h.safCommit
  · exact h.sramFuse
  · exact h.guardedPut

theorem Keeps.logEntry (h : Keeps r s) {e : AudEntry} : Keeps r (s.logEntry e) :=
  .ite h.upd.audNear.upd.wearCheck h.upd.audNear

theorem execAuditEntryStored_keeps (h : Keeps r s) {stored : Bool} {fuse : FuseEnd} :
    KeepsOut r (execAuditEntryStored stored fuse s) := by
  unfold execAuditEntryStored
  extract_lets
  refine .next ?_
  split
  · exact h
  · refine .ite h.put ?_
    split
    · exact .ite h.upd.put.logEntry h.upd.put.logEntry.upd.put.put
    · exact .ite (Keeps.ite h.upd.put.logEntry h.upd.put.logEntry.upd.put.put).applyGuarded (.ite (Keeps.ite
        h.upd.put.logEntry h.upd.put.logEntry.upd.put.put).applyGuarded.upd.vauxLost (Keeps.ite h.upd.put.logEntry
        h.upd.put.logEntry.upd.put.put).applyGuarded.audit)

/-! ### Epoch boundaries -/

theorem Keeps.freqManEpoch (h : Keeps r s) : Keeps r s.freqManEpoch := by
  unfold State.freqManEpoch
  exact h.commit.put.cond fun h => h.putY

theorem Keeps.condEpoch (h : Keeps r s) {c : Nat} : Keeps r (s.condEpoch c) := by
  unfold State.condEpoch
  exact .ite (h.each fun h => h.commit) (h.each fun h => h.commit).commit

theorem Keeps.epochCommits (h : Keeps r s) : Keeps r s.epochCommits :=
  (h.pcsEpoch.each fun h => h.thrCommit).commit.freqManEpoch.skewMove.commitAll.each fun h => h.condEpoch

theorem Keeps.streamEpoch (h : Keeps r s) {epoch : Nat} {committed : Bool} {n : Nat} :
    Keeps r (s.streamEpoch epoch committed n) :=
  .ite (h.mark.cond fun h => h.toStream) h

theorem execEpochBoundary_keeps (h : Keeps r s) : KeepsOut r (execEpochBoundary s) := by
  unfold execEpochBoundary
  refine .next ?_
  split
  · exact (h.advanceTo.epochCommits.deadEpoch.rmapEpoch.each fun h => h.streamEpoch).ringMark.gapsEpoch
  · exact (h.advanceTo.epochCommits.deadEpoch.rmapEpoch.each fun h => h.streamEpoch).ringMark.gapsEpoch
  · exact (h.advanceTo.epochCommits.deadEpoch.rmapEpoch.each fun h => h.streamEpoch).ringMark.gapsEpoch
  · exact h

/-! ### Start stages -/

theorem Keeps.toStage (h : Keeps r s) {n : Nat} : Keeps r (s.toStage n) := h.put.upd

theorem Keeps.stage0 (h : Keeps r s) : Keeps r s.stage0 := .ite h.startFails (.ite h.startFails h.toStage)

theorem Keeps.stage1 (h : Keeps r s) {pass : List Bool} : Keeps r (s.stage1 pass) :=
  .ite (h.each fun h => .ite h.retestUnit (.ite h h.unitOut)).startFails ((h.each fun h => .ite h.retestUnit (.ite h
      h.unitOut)).each fun h => h.setCore).put.put.toStage

theorem Keeps.sramRepair (h : Keeps r s) {a rows cols : Nat} : Keeps r (s.sramRepair a rows cols).1 :=
  .iteFst h.put.put.put.put (.iteFst h.put.put.put h.put.put.put.put.put.audit)

theorem Keeps.stage2 (h : Keeps r s) {l : List (Nat × Nat × Nat)} : Keeps r (s.stage2 l) := by
  unfold State.stage2
  extract_lets
  split
  next e =>
    have h := Keeps.ofEq e ((h.put.put.foldlFst fun h => h.sramRepair))
    exact .ite h.upd.toStage h.upd.startFails

theorem Keeps.stage3 (h : Keeps r s) {found differ : Bool} {saf : Nat} : Keeps r (s.stage3 found differ saf) := by
  have h1 : Keeps r (s.loadRecord.cond differ (·.put Reg.GEN_SVC_INT_AUD_ERR 1)) := h.loadRecord.cond fun h => h.put
  exact .ite h.startFails h1.safLoad.showRemap.toStage

theorem Keeps.loadErr (h : Keeps r s) {e : Nat} : Keeps r (s.loadErr e) := .ite h.put h.put

theorem Keeps.loadFrom (h : Keeps r s) {dead l : List Nat} : Keeps r (s.loadFrom dead l) := by
  induction l generalizing s with
  | nil => exact h.startFails
  | cons k l ih =>
    unfold State.loadFrom
    extract_lets
    exact .ite ((((h.upd.cond fun h => h.put).cond fun h => h.decImageError).loadErr.put.putB.put.put).upd.toStage)
      (ih ((h.upd.cond fun h => h.put).cond fun h => h.decImageError).loadErr)

theorem Keeps.stage4 (h : Keeps r s) {dead : List Nat} : Keeps r (s.stage4 dead) := by
  unfold State.stage4
  extract_lets
  split
  · exact h.loadFrom
  · split
    · exact h.loadFrom
    · exact h.loadFrom
    · exact h.upd.loadFrom

theorem Keeps.revertImage (h : Keeps r s) {b : List Nat} : Keeps r (s.revertImage b) := by
  unfold State.revertImage
  extract_lets _ _ _ _ u
  have hu : Keeps r u := ⟨fun c => (h.canon c).of_filter rfl rfl (.inl rfl), h.pending⟩
  exact hu.setFab.showCover

theorem Keeps.imageFails (h : Keeps r s) {e : Nat} : Keeps r (s.imageFails e) :=
  .ite (h.cond fun h => h.decImageError).loadErr.revertImage.startFails (h.cond fun h =>
      h.decImageError).loadErr.revertImage.toStage

theorem Keeps.applyRecords (h : Keeps r s) {b : List Nat} {ty : Nat} : Keeps r (s.applyRecords b ty) :=
  h.each fun h => .ite h.put h.write32

theorem Keeps.applyImage (h : Keeps r s) {b : List Nat} : Keeps r (s.applyImage b) :=
  (Keeps.ite ((h.upd.each fun h => h.put.put.put.put.put).setFab.each fun h => h.put.put).showDepth (((h.upd.each fun h
      => h.put.put.put.put.put).setFab.each fun h => h.put.put).showDepth.each fun h =>
      h.rmapPut)).applyRecords.applyRecords.applyRecords

theorem Keeps.stage8 (h : Keeps r s) {err : Nat} : Keeps r (s.stage8 err) := .ite h.imageFails h.applyImage.toStage

theorem Keeps.sendPixels (h : Keeps r s) {l : List Nat} : Keeps r (s.sendPixels l).1 := h.foldlFst fun h => h.pcsWord

theorem Keeps.stage9 (h : Keeps r s) {err : Nat} : Keeps r (s.stage9 err) := by
  unfold State.stage9
  extract_lets
  refine .ite h.imageFails ?_
  split
  next e =>
    have h := Keeps.ofEq e h.sendPixels
    exact .ite h.toStage h.imageFails

theorem Keeps.stage5 (h : Keeps r s) {l : List ChanTest} : Keeps r (s.stage5 l) :=
  .ite h.commit.put.put.put.put.startFails (Keeps.ite h.commit.put.put.put.put.put.put.put.put
      h.commit.put.put.put.put.put.put.put.put.put.put).showCover.toStage

theorem Keeps.startVias (h : Keeps r s) {kind t' n : Nat} : Keeps r (s.startVias kind t' n) :=
  .ite h.viaSpare (.ite h.viaSpare.bundleFault h.viaSpare.upd.fault)

theorem Keeps.recordColumn (h : Keeps r s) {t' col : Nat} : Keeps r (s.recordColumn t' col) :=
  .ite (.ite h.setBus.put.put h.setBus.put.put) (.ite h.setBus.put h.setBus.put)

theorem Keeps.retestKinds (h : Keeps r s) {kinds : List Nat} {passed : List (Nat × Nat)} :
    Keeps r (s.retestKinds kinds passed) :=
  h.each fun h => h.each fun h => h.retestUnit

theorem Keeps.startVfe (h : Keeps r s) : Keeps r s.startVfe := by
  unfold State.startVfe
  extract_lets
  split
  · exact h.put.put.vfeRamp
  · exact h.put.put.putB.upd

theorem Keeps.stage6 (h : Keeps r s) {vfeOk : Bool} {vias : List (Nat × Nat × Nat)} {passed : List (Nat × Nat)} :
    Keeps r (s.stage6 vfeOk vias passed) :=
  .ite h.startFails (((((h.startVfe.retestKinds.each fun h => .ite h h.upd.put).each fun h => h.startVias).each fun h =>
      h.showVias).each fun h => h.recordColumn).each fun h => h.recordFlames).toStage

theorem Keeps.recordCore (h : Keeps r s) {c : Nat} : Keeps r (s.recordCore c) := by
  unfold State.recordCore
  split
  · exact h
  · split
    · exact h.put
    · exact (Keeps.ite h.put.put h.put.put).put

theorem Keeps.stage7 (h : Keeps r s) {delays : List Nat} {passed : List (Nat × Nat)} :
    Keeps r (s.stage7 delays passed) := by
  unfold State.stage7
  exact ((h.upd.each fun h => h.put).retestKinds.put.put.each fun h => h.recordCore).putB.putB.toStage

theorem Keeps.stage10 (h : Keeps r s) : Keeps r s.stage10 := h.put.put.put.upd.audit

theorem execStartStageComplete_keeps (h : Keeps r s) {len : Nat} {found : StageResult} :
    KeepsOut r (execStartStageComplete len found s) := by
  unfold execStartStageComplete
  refine .next ?_
  refine .ite h ?_
  split
  · exact h.advanceTo.stage0
  · exact h.advanceTo.stage1
  · exact h.advanceTo.stage2
  · exact h.advanceTo.stage3
  · exact h.advanceTo.stage4
  · exact h.advanceTo.stage5
  · exact h.advanceTo.stage6
  · exact h.advanceTo.stage7
  · exact h.advanceTo.stage8
  · exact h.advanceTo.stage9
  · exact h.advanceTo.stage10
  · exact h

theorem execStartStageTimeout_keeps (h : Keeps r s) : KeepsOut r (execStartStageTimeout s) :=
  .next (.ite h h.advanceTo.startFails)

/-- Every command keeps the form and the rest of the queue. -/
theorem exec_keeps (h : Keeps r s) : (i : Instr) → KeepsOut r (exec i s)
  | .vauxRise => execVauxRise_keeps h
  | .vauxFall => execVauxFall_keeps h
  | .railRise _ => execRailRise_keeps h
  | .railOutOfRange _ => execRailOutOfRange_keeps h
  | .resetNAccept _ => execResetNAccept_keeps h
  | .resetNBounce _ => execResetNBounce_keeps h
  | .resetNRise _ _ _ => execResetNRise_keeps h
  | .startBegin => execStartBegin_keeps h
  | .jtagExtest _ => execJtagExtest_keeps h
  | .jtagClamp _ => execJtagClamp_keeps h
  | .jtagHighz _ => execJtagHighz_keeps h
  | .jtagIdcode _ => execJtagIdcode_keeps h
  | .jtagSamplePreload _ => execJtagSamplePreload_keeps h
  | .jtagBypass _ _ => execJtagBypass_keeps h
  | .jtagTestLogicReset => execJtagTestLogicReset_keeps h
  | .startStageComplete _ _ => execStartStageComplete_keeps h
  | .startStageTimeout => execStartStageTimeout_keeps h
  | .failedStartHoldEnd => execFailedStartHoldEnd_keeps h
  | .failcntClearTimeout => execFailcntClearTimeout_keeps h
  | .bootRestart => execBootRestart_keeps h
  | .bootPilot => execBootPilot_keeps h
  | .coreDisagree _ _ => execCoreDisagree_keeps h
  | .lamplighterWatchdog => execLamplighterWatchdog_keeps h
  | .refclkLoss => execRefclkLoss_keeps h
  | .junctionOvertemp _ => execJunctionOvertemp_keeps h
  | .junctionTempRelease => execJunctionTempRelease_keeps h
  | .faultHandlingEnd => execFaultHandlingEnd_keeps h
  | .genFaultAck => execGenFaultAck_keeps h
  | .faultRecordSnapshot => execFaultRecordSnapshot_keeps h
  | .faultRecordRemove => execFaultRecordRemove_keeps h
  | .tileWaitExpire _ => execTileWaitExpire_keeps h
  | .portWaitExpire _ => execPortWaitExpire_keeps h
  | .genCntClr => execGenCntClr_keeps h
  | .i2cPointerWrite _ _ => execI2cPointerWrite_keeps h
  | .i2cRegisterRead _ _ => execI2cRegisterRead_keeps h
  | .kvtEvaluation _ _ _ _ => execKvtEvaluation_keeps h
  | .vfeSet _ => execVfeSet_keeps h
  | .vfeRampEnd => execVfeRampEnd_keeps h
  | .vfePhaseSwap _ => execVfePhaseSwap_keeps h
  | .registerWrite _ _ _ => execRegisterWrite_keeps h
  | .epochBoundary => execEpochBoundary_keeps h
  | .discriminatorRise _ _ _ _ => execDiscriminatorRise_keeps h
  | .flameStop _ _ _ _ => execFlameStop_keeps h
  | .flameHandoff _ _ _ => execFlameHandoff_keeps h
  | .discriminatorFall _ _ _ _ => execDiscriminatorFall_keeps h
  | .totSaturate _ _ _ => execTotSaturate_keeps h
  | .tpTrainStart _ _ => execTpTrainStart_keeps h
  | .tpTrainStop _ _ => execTpTrainStop_keeps h
  | .testPulseInject _ => execTestPulseInject_keeps h
  | .pixelScrubVisit _ _ _ _ => execPixelScrubVisit_keeps h
  | .pcsWordArrive _ _ => execPcsWordArrive_keeps h
  | .reconfigBlankEnd _ _ => execReconfigBlankEnd_keeps h
  | .pcsAbort => execPcsAbort_keeps h
  | .pixelWordRead => execPixelWordRead_keeps h
  | .lossEpisodeClose _ _ _ => execLossEpisodeClose_keeps h
  | .rotaStepDue _ => execRotaStepDue_keeps h
  | .rotaForce _ _ => execRotaForce_keeps h
  | .rotaIntervalWrite _ _ => execRotaIntervalWrite_keeps h
  | .flameOffline _ _ _ => execFlameOffline_keeps h
  | .flameCalibrationEnd _ _ _ _ _ => execFlameCalibrationEnd_keeps h
  | .flameReturn _ _ _ => execFlameReturn_keeps h
  | .tileEnable _ _ => execTileEnable_keeps h
  | .firstCalibrationStart _ => execFirstCalibrationStart_keeps h
  | .firstCalibrationEnd _ _ _ _ _ => execFirstCalibrationEnd_keeps h
  | .tileDisable _ _ => execTileDisable_keeps h
  | .fePowerWrite _ _ => execFePowerWrite_keeps h
  | .feReady _ => execFeReady_keeps h
  | .tilCntClr _ => execTilCntClr_keeps h
  | .failFifoRead _ => execFailFifoRead_keeps h
  | .columnBusHop _ _ _ _ => execColumnBusHop_keeps h
  | .columnStallTimeout _ _ => execColumnStallTimeout_keeps h
  | .spareSwitchDone _ _ _ => execSpareSwitchDone_keeps h
  | .spareApprove _ _ => execSpareApprove_keeps h
  | .spareDecline _ _ => execSpareDecline_keeps h
  | .spareRequestTimeout _ => execSpareRequestTimeout_keeps h
  | .flitForm _ _ => execFlitForm_keeps h
  | .flitTransfer _ => execFlitTransfer_keeps h
  | .flitCheck _ _ => execFlitCheck_keeps h
  | .chkOk _ => execChkOk_keeps h
  | .chkNak _ => execChkNak_keeps h
  | .viaTestStart _ _ => execViaTestStart_keeps h
  | .viaTestEnd _ _ => execViaTestEnd_keeps h
  | .crossbarTakeWord _ _ _ => execCrossbarTakeWord_keeps h
  | .receiverDrainStart _ => execReceiverDrainStart_keeps h
  | .tilXcntClr _ => execTilXcntClr_keeps h
  | .timOpen _ => execTimOpen_keeps h
  | .timClose _ => execTimClose_keeps h
  | .timSet _ => execTimSet_keeps h
  | .timeSample _ => execTimeSample_keeps h
  | .timeFaultRate => execTimeFaultRate_keeps h
  | .ptpAnnounceRx _ _ => execPtpAnnounceRx_keeps h
  | .ptpSyncRx _ _ _ _ _ _ _ _ => execPtpSyncRx_keeps h
  | .ptpFollowUpRx _ _ _ _ => execPtpFollowUpRx_keeps h
  | .ptpDelayReqSend _ => execPtpDelayReqSend_keeps h
  | .ptpDelayRespRx _ _ _ _ => execPtpDelayRespRx_keeps h
  | .ptpAnnounceTimeout => execPtpAnnounceTimeout_keeps h
  | .ptpSyncTimeout => execPtpSyncTimeout_keeps h
  | .arpRequestRx _ => execArpRequestRx_keeps h
  | .ppsEdge _ _ _ => execPpsEdge_keeps h
  | .ppsEdgeMissing => execPpsEdgeMissing_keeps h
  | .tenMhzLoss => execTenMhzLoss_keeps h
  | .ppsSecondWrite _ => execPpsSecondWrite_keeps h
  | .ppsOutRise => execPpsOutRise_keeps h
  | .ppsOutFall => execPpsOutFall_keeps h
  | .timSnap => execTimSnap_keeps h
  | .skewRecalibrate _ => execSkewRecalibrate_keeps h
  | .skewForce _ _ => execSkewForce_keeps h
  | .timCntClr => execTimCntClr_keeps h
  | .frameLaunch _ => execFrameLaunch_keeps h
  | .rmapEntryWrite _ _ _ => execRmapEntryWrite_keeps h
  | .rmapCommit _ => execRmapCommit_keeps h
  | .clusterRelease _ _ => execClusterRelease_keeps h
  | .clusterClose _ _ => execClusterClose_keeps h
  | .packetFlush _ => execPacketFlush_keeps h
  | .rateWindowEnd _ => execRateWindowEnd_keeps h
  | .evtEnable _ => execEvtEnable_keeps h
  | .evtDisable _ => execEvtDisable_keeps h
  | .streamEnable _ _ => execStreamEnable_keeps h
  | .streamDisable _ _ => execStreamDisable_keeps h
  | .evtCntClr => execEvtCntClr_keeps h
  | .cluCntClr => execCluCntClr_keeps h
  | .ringEnable _ => execRingEnable_keeps h
  | .ringWrite _ => execRingWrite_keeps h
  | .ringOverrunGap => execRingOverrunGap_keeps h
  | .primitiveEvent _ _ => execPrimitiveEvent_keeps h
  | .primitivePulseEnd _ => execPrimitivePulseEnd_keeps h
  | .todFire _ => execTodFire_keeps h
  | .hostFire _ => execHostFire_keeps h
  | .triggerSample => execTriggerSample_keeps h
  | .contextOpen _ => execContextOpen_keeps h
  | .contextExtractionEnd _ => execContextExtractionEnd_keeps h
  | .contextAbort _ => execContextAbort_keeps h
  | .contextRelease _ => execContextRelease_keeps h
  | .triggerEnable _ => execTriggerEnable_keeps h
  | .triggerDisable _ => execTriggerDisable_keeps h
  | .templateArm _ => execTemplateArm_keeps h
  | .templateArmed _ => execTemplateArmed_keeps h
  | .templateDisarm _ => execTemplateDisarm_keeps h
  | .disarmFlareDue => execDisarmFlareDue_keeps h
  | .flareSend _ => execFlareSend_keeps h
  | .doneFifoRead => execDoneFifoRead_keeps h
  | .maskRearm => execMaskRearm_keeps h
  | .trgCntClr => execTrgCntClr_keeps h
  | .frameRunStart _ => execFrameRunStart_keeps h
  | .frameRunStop _ => execFrameRunStop_keeps h
  | .frameBoundary => execFrameBoundary_keeps h
  | .frameReadoutEnd _ _ _ => execFrameReadoutEnd_keeps h
  | .gateOpen => execGateOpen_keeps h
  | .gateClose => execGateClose_keeps h
  | .gateLenExpire => execGateLenExpire_keeps h
  | .burstDeliveryEnd => execBurstDeliveryEnd_keeps h
  | .tilFrmCntClr => execTilFrmCntClr_keeps h
  | .fabricWaveLaunch => execFabricWaveLaunch_keeps h
  | .waveComplete => execWaveComplete_keeps h
  | .wickWrite _ => execWickWrite_keeps h
  | .groupInputWrite _ => execGroupInputWrite_keeps h
  | .fabricCheckDone => execFabricCheckDone_keeps h
  | .reloadAdmit => execReloadAdmit_keeps h
  | .reloadApply => execReloadApply_keeps h
  | .reloadAbort _ => execReloadAbort_keeps h
  | .imageProgStart _ => execImageProgStart_keeps h
  | .imageProgVerifyDone => execImageProgVerifyDone_keeps h
  | .imageProgAbort _ => execImageProgAbort_keeps h
  | .imagePrefSlot _ => execImagePrefSlot_keeps h
  | .imageTrial _ => execImageTrial_keeps h
  | .imageConfirm _ => execImageConfirm_keeps h
  | .configScrubVisit _ _ _ => execConfigScrubVisit_keeps h
  | .fabCntClr => execFabCntClr_keeps h
  | .tdcInputEdge _ _ => execTdcInputEdge_keeps h
  | .tdcResult _ _ => execTdcResult_keeps h
  | .tdcCalEnd _ _ _ => execTdcCalEnd_keeps h
  | .tdcIdleRecal _ => execTdcIdleRecal_keeps h
  | .tdcTimeout _ => execTdcTimeout_keeps h
  | .tdcArm _ => execTdcArm_keeps h
  | .tdcDisarm _ => execTdcDisarm_keeps h
  | .tdcFlush _ => execTdcFlush_keeps h
  | .tdcChannelEnable _ => execTdcChannelEnable_keeps h
  | .tdcQueueSnapshot _ => execTdcQueueSnapshot_keeps h
  | .tdcQueueRemove _ => execTdcQueueRemove_keeps h
  | .tdcGapEntry _ => execTdcGapEntry_keeps h
  | .tdcSpareApprove _ => execTdcSpareApprove_keeps h
  | .tdcSpareDecline _ => execTdcSpareDecline_keeps h
  | .tdcSpareTimeout => execTdcSpareTimeout_keeps h
  | .tdcCntClr => execTdcCntClr_keeps h
  | .auxEnable _ => execAuxEnable_keeps h
  | .auxDisable _ => execAuxDisable_keeps h
  | .auxTick _ _ => execAuxTick_keeps h
  | .auxResult => execAuxResult_keeps h
  | .auxInjectFire _ => execAuxInjectFire_keeps h
  | .auxInjectedSample _ => execAuxInjectedSample_keeps h
  | .auxQueueSnapshot => execAuxQueueSnapshot_keeps h
  | .auxQueueRemove => execAuxQueueRemove_keeps h
  | .auxGapRecord => execAuxGapRecord_keeps h
  | .axClampConduct _ => execAxClampConduct_keeps h
  | .wireBreakDetect _ _ => execWireBreakDetect_keeps h
  | .wireClear _ => execWireClear_keeps h
  | .excitationLimit _ => execExcitationLimit_keeps h
  | .auxCalZero _ => execAuxCalZero_keeps h
  | .auxCalFull _ => execAuxCalFull_keeps h
  | .auxCalAbort _ => execAuxCalAbort_keeps h
  | .auxCalStepEnd _ => execAuxCalStepEnd_keeps h
  | .auxCalTimeout => execAuxCalTimeout_keeps h
  | .auxConverterCheck _ _ _ _ => execAuxConverterCheck_keeps h
  | .auxPinCfgWrite _ _ => execAuxPinCfgWrite_keeps h
  | .auxCntClr => execAuxCntClr_keeps h
  | .ctlFbSample _ _ => execCtlFbSample_keeps h
  | .ctlFbResult _ => execCtlFbResult_keeps h
  | .pulseCountEdge _ _ _ _ => execPulseCountEdge_keeps h
  | .loopPeriodStart _ => execLoopPeriodStart_keeps h
  | .loopComputeDone _ => execLoopComputeDone_keeps h
  | .loopDeadline _ => execLoopDeadline_keeps h
  | .loopEnable _ _ => execLoopEnable_keeps h
  | .loopDisable _ _ => execLoopDisable_keeps h
  | .loopCommit _ => execLoopCommit_keeps h
  | .ctlQueueSnapshot => execCtlQueueSnapshot_keeps h
  | .ctlQueueRemove => execCtlQueueRemove_keeps h
  | .ctlGapRecord => execCtlGapRecord_keeps h
  | .ctlCntClr => execCtlCntClr_keeps h
  | .safetyStrobe _ _ _ _ => execSafetyStrobe_keeps h
  | .strobeLoss => execStrobeLoss_keeps h
  | .testPulseStart _ => execTestPulseStart_keeps h
  | .testPulseEnd _ => execTestPulseEnd_keeps h
  | .outputTestPulse _ _ => execOutputTestPulse_keeps h
  | .safAck _ => execSafAck_keeps h
  | .safReq _ => execSafReq_keeps h
  | .safCommit _ _ => execSafCommit_keeps h
  | .snufferProduce _ _ => execSnufferProduce_keeps h
  | .snufferReceive _ _ => execSnufferReceive_keeps h
  | .snufferTimeout _ => execSnufferTimeout_keeps h
  | .snufferRxSubmit _ => execSnufferRxSubmit_keeps h
  | .safCntClr => execSafCntClr_keeps h
  | .portEnable _ _ => execPortEnable_keeps h
  | .portDisable _ _ => execPortDisable_keeps h
  | .beaconSend _ => execBeaconSend_keeps h
  | .beaconReceive _ _ _ => execBeaconReceive_keeps h
  | .trainFrameReceive _ _ _ _ _ => execTrainFrameReceive_keeps h
  | .trainingTimeout _ => execTrainingTimeout_keeps h
  | .partnerTrainTimeout _ => execPartnerTrainTimeout_keeps h
  | .markerReceive _ _ _ _ => execMarkerReceive_keeps h
  | .laneLos _ => execLaneLos_keeps h
  | .laneLol _ => execLaneLol_keeps h
  | .laneSwitchRetry _ => execLaneSwitchRetry_keeps h
  | .portLosDetach _ => execPortLosDetach_keeps h
  | .lnkDataRx _ _ _ _ _ => execLnkDataRx_keeps h
  | .lnkFlareRx _ _ _ _ => execLnkFlareRx_keeps h
  | .lnkTimeRx _ _ _ _ => execLnkTimeRx_keeps h
  | .lnkSnufferRx _ _ _ _ => execLnkSnufferRx_keeps h
  | .lnkCtrlAck _ _ => execLnkCtrlAck_keeps h
  | .lnkCtrlSwitch _ _ _ => execLnkCtrlSwitch_keeps h
  | .lnkCtrlSwitched _ _ _ => execLnkCtrlSwitched_keeps h
  | .lnkCtrlWake _ _ => execLnkCtrlWake_keeps h
  | .lnkCtrlSleep _ _ => execLnkCtrlSleep_keeps h
  | .lnkCtrlRetrain _ _ => execLnkCtrlRetrain_keeps h
  | .lnkReplayTimeout _ _ => execLnkReplayTimeout_keeps h
  | .lnkProgressTimeout _ => execLnkProgressTimeout_keeps h
  | .lnkRetrainCmd _ _ => execLnkRetrainCmd_keeps h
  | .timeFrameSend _ _ => execTimeFrameSend_keeps h
  | .timeFrameMiss _ => execTimeFrameMiss_keeps h
  | .dualHoldExpire _ => execDualHoldExpire_keeps h
  | .dualPairExpire _ => execDualPairExpire_keeps h
  | .dualRestore _ => execDualRestore_keeps h
  | .portSleep _ => execPortSleep_keeps h
  | .portWakeComplete _ => execPortWakeComplete_keeps h
  | .lnkCntClr => execLnkCntClr_keeps h
  | .perstNAssert => execPerstNAssert_keeps h
  | .hotReset => execHotReset_keeps h
  | .functionLevelReset => execFunctionLevelReset_keeps h
  | .pcieLinkDown => execPcieLinkDown_keeps h
  | .d3Entry => execD3Entry_keeps h
  | .bar4Read _ _ => execBar4Read_keeps h
  | .bar4Write _ _ => execBar4Write_keeps h
  | .doorbellTail _ _ _ => execDoorbellTail_keeps h
  | .doorbellCplHead _ _ _ _ => execDoorbellCplHead_keeps h
  | .queueEnable _ _ _ => execQueueEnable_keeps h
  | .queueDisable _ _ _ _ => execQueueDisable_keeps h
  | .queueStopped _ _ => execQueueStopped_keeps h
  | .descriptorFetchDone _ _ _ _ => execDescriptorFetchDone_keeps h
  | .queuePacketWrite _ _ _ => execQueuePacketWrite_keeps h
  | .bufferCloseTimeout _ => execBufferCloseTimeout_keeps h
  | .h2dFrameStart _ _ _ _ => execH2dFrameStart_keeps h
  | .h2dFrameDone _ => execH2dFrameDone_keeps h
  | .queueProgressTimeout _ _ => execQueueProgressTimeout_keeps h
  | .streamOverrunGap _ => execStreamOverrunGap_keeps h
  | .irqMessage _ _ => execIrqMessage_keeps h
  | .queueIrqTimer _ _ _ => execQueueIrqTimer_keeps h
  | .hostIrqRearm _ _ _ => execHostIrqRearm_keeps h
  | .hstCntClr => execHstCntClr_keeps h
  | .cmpInputWord _ _ => execCmpInputWord_keeps h
  | .cmpFlushTimeout _ _ => execCmpFlushTimeout_keeps h
  | .cmpSave _ => execCmpSave_keeps h
  | .cmpRestore _ => execCmpRestore_keeps h
  | .cmpReset _ => execCmpReset_keeps h
  | .decompBlock _ _ => execDecompBlock_keeps h
  | .cmpCntClr => execCmpCntClr_keeps h
  | .memRead _ _ _ _ => execMemRead_keeps h
  | .rowRemapDone => execRowRemapDone_keeps h
  | .memWrite _ _ _ => execMemWrite_keeps h
  | .memPartitionWrite _ _ => execMemPartitionWrite_keeps h
  | .scrubStart _ => execScrubStart_keeps h
  | .scrubAbort _ _ _ => execScrubAbort_keeps h
  | .scrubDone => execScrubDone_keeps h
  | .sramFuseProg _ => execSramFuseProg_keeps h
  | .memCntClr => execMemCntClr_keeps h
  | .sessionRequest _ => execSessionRequest_keeps h
  | .sessionResponse _ => execSessionResponse_keeps h
  | .sessionClose => execSessionClose_keeps h
  | .sessionIdleTimeout => execSessionIdleTimeout_keeps h
  | .lockoutExpire => execLockoutExpire_keeps h
  | .keyProgram _ _ => execKeyProgram_keeps h
  | .moduleIdProgram _ => execModuleIdProgram_keeps h
  | .auditEntryStored _ _ => execAuditEntryStored_keeps h
  | .wearMinuteUpdate _ _ _ => execWearMinuteUpdate_keeps h
  | .dosimeterRead _ => execDosimeterRead_keeps h
  | .serviceRecordSave => execServiceRecordSave_keeps h
  | .controlViaTest _ _ => execControlViaTest_keeps h
  | .refclkReturn => execRefclkReturn_keeps h
  | .pcieLinkUp _ _ => execPcieLinkUp_keeps h
  | .imageProgEraseDone => execImageProgEraseDone_keeps h
  | .excitationLimitClear _ => execExcitationLimitClear_keeps h
end

/-- Settles O60: every named operation of the model keeps the form, from the write of one field up to the commands
(`exec_keeps`); with no command waiting a step is one edge of the reference clock. -/
theorem stepKeepsCanonical : Obligations.StepKeepsCanonical := by
  unfold Obligations.StepKeepsCanonical
  intro s t hc hq e
  unfold step at e
  split at e
  next hp =>
    cases e
    have h : Keeps s s.idleEdge := Keeps.refl.idleEdge
    exact ⟨h.canon hc, h.wellQueued hq⟩
  next c rest hp =>
    have h : Keeps { s with pending := rest } t := exec_keeps .refl c t e
    exact ⟨h.canon hc, h.wellQueued fun d hm => hq d (hp ▸ .tail c hm)⟩

end Sys2Proof.Machine
end

/-! ## The reset state -/

section
namespace Sys2Proof.Machine

theorem State.canon_reset : State.reset.Canon := .of_nil rfl rfl rfl

/-- Settles O58: the sparse tables of the reset state are empty, so every field reads its reset value. -/
theorem resetState : Obligations.ResetState := by
  unfold Obligations.ResetState
  refine ⟨fun f i j => ?_, State.canon_reset, ?_, rfl, rfl, rfl, ?_, rfl⟩
  · exact State.get_of_regs_nil rfl f i j
  · exact fun c hm => nomatch hm
  · decide

end Sys2Proof.Machine
end

/-! ## A write of a locked register -/

section
namespace Sys2Proof.Machine

/-- TIL_FRM_PERIOD as a word of BAR0 reaches it. -/
def periodRef : RegRef := { f := Reg.TIL_FRM_PERIOD_PERIOD, i := 0, j := 0, k := 0 }

theorem State.refs_period (s : State) : s.refs 0x69004 = [periodRef] := by
  have h : (regTable.filter fun f => f.covers 0x69004) = [Reg.TIL_FRM_PERIOD_PERIOD] := by decide +kernel
  unfold State.refs
  rw [h]
  rfl

theorem State.special_period (s : State) (v : Nat) : s.special 0x69004 v = none := by
  simp [State.special]

/-- A write outside FAB of a register with no effect of its own and no guarded or fuse field: each field, then what follows. -/
theorem State.write32_of_plain {s : State} {a v : Nat} (hfab : ¬(0x180000 ≤ a ∧ a < 0x190000)) (hspecial : s.special a v = none)
    (hguard : ((s.refs a).any fun r => r.f.acc == .rwg || r.f.acc == .fuse) = false) :
    s.write32 a v = s.after ((s.refs a).foldl (fun t r => s.fieldWrite t r v) s) a v := by
  unfold State.write32
  simp only [if_neg hfab, hspecial, hguard]
  rfl

theorem State.after_period (s0 s : State) (v : Nat) : s0.after s 0x69004 v = s := by
  simp [State.after]

/-- A write of TIL_FRM_PERIOD is that of its one field. -/
theorem State.write32_period (s : State) (v : Nat) : s.write32 0x69004 v = s.fieldWrite s periodRef v := by
  have hguard : ((s.refs 0x69004).any fun r => r.f.acc == .rwg || r.f.acc == .fuse) = false := by
    rw [s.refs_period]
    rfl
  rw [State.write32_of_plain (by decide) (s.special_period v) hguard, State.after_period, s.refs_period, List.foldl_cons,
    List.foldl_nil]

theorem exec_registerWrite_period {s : State} (val : Nat) (h : s.responds 0x69004 = true) :
    exec (.registerWrite 0x69004 val 4) s = .next (s.fieldWrite s periodRef (val % 2 ^ 32)) := by
  rw [← State.write32_period, ← State.bar_of_responds (f := fun s => s.write32 0x69004 (val % 2 ^ 32)) h]
  rfl

/-- A running module with no frame run, in canonical form, whose register file holds 2^28 for the 28-bit TIL_FRM_PERIOD. -/
def widePeriod : State :=
  { State.reset with
    sys := { State.reset.sys with phase := .running }
    hst := { State.reset.hst with link := true }
    regs := [(⟨Reg.TIL_FRM_PERIOD_PERIOD.id, 0, 0⟩, 2 ^ 28)] }

/-- The write of 0 keeps the bits above the field, so it does not change the value and leaves the field as it is. -/
theorem fieldWrite_widePeriod : widePeriod.fieldWrite widePeriod periodRef 0 = widePeriod := by
  have h : widePeriod.written periodRef 0 = widePeriod.get Reg.TIL_FRM_PERIOD_PERIOD := by decide
  simp only [State.fieldWrite]
  exact if_pos h

/-- Refutes O56: a locked field takes no write that keeps its value, and the value compared is the whole stored number; where the
register file holds more than the field's width, which the statement does not exclude, TIL_FRM_PERIOD stays at 2^28 after a write
of 0 with no frame run. -/
theorem not_registerWrites : ¬ Obligations.RegisterWrites := by
  unfold Obligations.RegisterWrites
  rintro ⟨-, -, -, -, -, -, hlocked, -, -⟩
  have hresp : widePeriod.responds 0x69004 = true := by decide
  have hstopped : widePeriod.get Reg.TIL_FRM_RUN_RUN = 0 := by decide
  obtain ⟨t, e, hperiod, -⟩ := (hlocked 0 widePeriod hresp).1 hstopped
  rw [exec_registerWrite_period 0 hresp] at e
  cases e
  rw [show 0 % 2 ^ 32 = 0 from rfl, fieldWrite_widePeriod] at hperiod
  exact absurd hperiod (by decide)

end Sys2Proof.Machine
end

/-! ## What the operations of chapter 2 read and leave -/

section
namespace Sys2Proof.Machine

/-! ### A write on a write -/

theorem SMap.erase_insert_self {κ β : Type} [DecidableEq κ] {lt : κ → κ → Bool} (m : List (κ × β)) (k : κ) (v : β) :
    SMap.erase (SMap.insert lt k v m) k = SMap.erase m k := by
  induction m with
  | nil => simp [SMap.insert, SMap.erase]
  | cons e m ih =>
    obtain ⟨a, w⟩ := e
    simp only [SMap.insert]
    split
    · simp [SMap.erase_cons]
    · simp only [SMap.erase_cons, ih]

theorem SMap.erase_erase_self {κ β : Type} [DecidableEq κ] (m : List (κ × β)) (k : κ) : SMap.erase (SMap.erase m k) k = SMap.erase m k := by
  simp [SMap.erase]

/-- Of two writes of one key the first leaves no trace. -/
theorem SMap.set_set_self {κ β : Type} [DecidableEq κ] [DecidableEq β] {lt : κ → κ → Bool} (d : β) (m : List (κ × β)) (k : κ) (v w : β) :
    SMap.set lt d (SMap.set lt d m k v) k w = SMap.set lt d m k w := by
  have h : SMap.erase (SMap.set lt d m k v) k = SMap.erase m k := by
    unfold SMap.set
    split
    · exact SMap.erase_erase_self m k
    · rw [SMap.erase_insert_self, SMap.erase_erase_self]
  have hw (m' : List (κ × β)) : SMap.set lt d m' k w = if w = d then SMap.erase m' k else SMap.insert lt k w (SMap.erase m' k) := rfl
  rw [hw, hw, h]

/-! ### Tiles, sconces and pixels after a write -/

section
variable (s : State) (t c k : Nat)

@[simp] theorem State.get_setTile (x : Tile) (f : Fld) (i j : Nat) : (s.setTile t x).get f i j = s.get f i j := rfl
@[simp] theorem State.get_setSconce (x : Sconce) (f : Fld) (i j : Nat) : (s.setSconce t c x).get f i j = s.get f i j := rfl
@[simp] theorem State.get_setPixel (p : Pix) (f : Fld) (i j : Nat) : (s.setPixel k p).get f i j = s.get f i j := rfl

theorem State.tile_setTile_self (x : Tile) (h : t < s.til.t.length) : (s.setTile t x).tile t = x := by
  simp [State.tile, State.setTile, h]

/-- A tile that is not one of the list takes no write. -/
theorem State.setTile_of_ge (x : Tile) (h : s.til.t.length ≤ t) : s.setTile t x = s := by
  simp [State.setTile, List.set_eq_of_length_le h]

theorem State.setTile_setTile (x y : Tile) : (s.setTile t x).setTile t y = s.setTile t y := by
  simp [State.setTile]

@[simp] theorem State.tile_setSconce (x : Sconce) (i : Nat) : (s.setSconce t c x).tile i = s.tile i := rfl
@[simp] theorem State.tile_setPixel (p : Pix) (i : Nat) : (s.setPixel k p).tile i = s.tile i := rfl
@[simp] theorem State.tile_put (f : Fld) (v i j n : Nat) : (s.put f v i j).tile n = s.tile n := rfl
@[simp] theorem State.sconce_put (f : Fld) (v i j : Nat) : (s.put f v i j).sconce t c = s.sconce t c := rfl
@[simp] theorem State.pixel_put (f : Fld) (v i j : Nat) : (s.put f v i j).pixel k = s.pixel k := rfl
@[simp] theorem State.sconce_setTile (x : Tile) (i : Nat) : (s.setTile i x).sconce t c = s.sconce t c := rfl
@[simp] theorem State.pixel_setTile (x : Tile) (i : Nat) : (s.setTile i x).pixel k = s.pixel k := rfl
@[simp] theorem State.pixel_setSconce (x : Sconce) : (s.setSconce t c x).pixel k = s.pixel k := rfl

@[simp] theorem State.sconce_setSconce_self (x : Sconce) : (s.setSconce t c x).sconce t c = x := by
  simp [State.sconce, State.setSconce, NMap.get, NMap.set]

@[simp] theorem State.setSconce_setSconce (x y : Sconce) : (s.setSconce t c x).setSconce t c y = s.setSconce t c y := by
  simp [State.setSconce, NMap.set, SMap.set_set_self]

@[simp] theorem State.pixel_setPixel_self (p : Pix) : (s.setPixel k p).pixel k = p := by
  simp [State.pixel, State.setPixel, NMap.get, NMap.set]

@[simp] theorem State.setPixel_setPixel (p q : Pix) : (s.setPixel k p).setPixel k q = s.setPixel k q := by
  simp [State.setPixel, NMap.set, SMap.set_set_self]

theorem State.pixel_setPixel_of_ne (p : Pix) {k k' : Nat} (h : k' ≠ k) : (s.setPixel k p).pixel k' = s.pixel k' :=
  SMap.get_set_of_ne _ _ _ _ h

end

/-! ### What the passing of time leaves -/

section
variable (s : State) (d : Nat)

@[simp] theorem State.advanceTo_dtRef : (s.advanceTo d).dtRef = max s.dtRef d % 2 ^ 64 := rfl
/-- The state after a time is the state before it with other registers and another DT. -/
theorem State.advanceTo_regs_dtRef : ∃ r, s.advanceTo d = { s with regs := r, dtRef := max s.dtRef d % 2 ^ 64 } := ⟨_, s.advanceTo_eq d⟩

@[simp] theorem State.advanceTo_til : (s.advanceTo d).til = s.til := by rw [State.advanceTo_eq]
@[simp] theorem State.advanceTo_store : (s.advanceTo d).store = s.store := by rw [State.advanceTo_eq]
@[simp] theorem State.advanceTo_sys : (s.advanceTo d).sys = s.sys := by rw [State.advanceTo_eq]
@[simp] theorem State.tile_advanceTo (t : Nat) : (s.advanceTo d).tile t = s.tile t := by simp [State.tile]
@[simp] theorem State.sconce_advanceTo (t c : Nat) : (s.advanceTo d).sconce t c = s.sconce t c := by simp [State.sconce]
@[simp] theorem State.pixel_advanceTo (k : Nat) : (s.advanceTo d).pixel k = s.pixel k := by simp [State.pixel]

/-- Only the counters of reference periods move with time. -/
theorem State.get_advanceTo (f : Fld) (i j : Nat) (h : f.id ∉ timeFields.map (·.id)) : (s.advanceTo d).get f i j = s.get f i j :=
  OnlyFields.advanceTo d (fun _ hf => hf) (.refl _ s) f i j h

end

/-! ### What a count leaves -/

section
variable (s : State) (f sat : Fld) (i j n k : Nat)

theorem State.tcount_regs (t : Nat) : ∃ r, s.tcount f t n = { s with regs := r } := ⟨_, State.bump_eq ..⟩

@[simp] theorem State.til_bump : (s.bump f sat i j n k).til = s.til := by rw [State.bump_eq]
@[simp] theorem State.til_tcount (t : Nat) : (s.tcount f t n).til = s.til := s.til_bump ..
@[simp] theorem State.dtRef_bump : (s.bump f sat i j n k).dtRef = s.dtRef := by rw [State.bump_eq]
@[simp] theorem State.dtRef_tcount (t : Nat) : (s.tcount f t n).dtRef = s.dtRef := s.dtRef_bump ..
@[simp] theorem State.pixel_tcount (t k : Nat) : (s.tcount f t n).pixel k = s.pixel k := by simp [State.pixel]
@[simp] theorem State.sconce_bump (t c : Nat) : (s.bump f sat i j n k).sconce t c = s.sconce t c := by simp [State.sconce]
@[simp] theorem State.sconce_tcount (t t' c : Nat) : (s.tcount f t n).sconce t' c = s.sconce t' c := s.sconce_bump ..

end

/-! ### Bits -/

theorem bits_one (v i : Nat) : bits v i 1 = boolNat (v.testBit i) := by
  rw [Nat.testBit_eq_decide_div_mod_eq, bits]
  rcases Nat.mod_two_eq_zero_or_one (v / 2 ^ i) with h | h <;> simp [h, boolNat]

/-! ### Commands that complete -/

section
variable {c : Instr} {s t : State} {P : State → Prop}

theorem Does.of_next (e : exec c s = .next t) (h : P t) : Does c s P := ⟨t, e, h⟩

theorem Does.of_need {b : Bool} (e : exec c s = need b t) (hb : b = true) (h : P t) : Does c s P :=
  ⟨t, by rw [e, hb, need_true], h⟩

/-- A register access that reaches its register has the register's effect. -/
theorem Does.of_bar {b : Bool} {a : Nat} {f : State → State} (e : exec c s = need b (s.bar a f)) (hb : b = true)
    (ha : s.responds a = true) (h : P (f s)) : Does c s P :=
  .of_need e hb (by rwa [State.bar_of_responds ha])

/-- A command on a sconce that the module has completes. -/
theorem Does.of_onSconce {tile sconce : Nat} (ht : tile < 4) (hc : sconce < 4096) (e : exec c s = onSconce tile sconce t) (h : P t) :
    Does c s P :=
  .of_need e (by simp [ht, hc]) h

end

end Sys2Proof.Machine
end

/-! ## The hit word -/

section
namespace Sys2Proof.Machine

/-! ### Unsigned values as fields -/

theorem ofInt_natCast (w n : Nat) : ofInt w n = n % 2 ^ w := by
  simp only [ofInt, ← Int.natCast_emod, Int.toNat_natCast]

/-- The word that the fields of R60 make, before what each of them holds is known. -/
def packHit (tile row col coarse fine tot epoch cont sat tp : Nat) : Nat :=
  tile * 2 ^ 62 + row * 2 ^ 53 + col * 2 ^ 44 + coarse * 2 ^ 23 + fine * 2 ^ 14 + tot * 2 ^ 4 + epoch * 2 ^ 3 + cont * 2 ^ 2 + sat * 2 + tp

theorem hitWord_eq_packHit (t c : Nat) (h : Hit) (l tot : Nat) (sat : Bool) :
    hitWord t c h (l : Int) tot sat =
      packHit t (scRow c h.pix) (scCol c h.pix) (l / 512 % 2 ^ 21) (l % 512) tot (l / 512 / 2 ^ 21 % 2) (boolNat h.cont) (boolNat sat)
        (boolNat h.tp) := by
  have hcoarse : ((l : Int) / 512) = ((l / 512 : Nat) : Int) := by simp
  have hepoch : (((l / 512 : Nat) : Int) / 2 ^ 21) = ((l / 512 / 2 ^ 21 : Nat) : Int) := by simp
  simp only [hitWord, packHit, hcoarse, hepoch, ofInt_natCast]
  rfl

section
variable {tile row col coarse fine tot epoch cont sat tp : Nat}

/-- Fields that keep to their widths do not reach into each other. -/
theorem bits_packHit (ht : tile < 2 ^ 2) (hr : row < 2 ^ 9) (hc : col < 2 ^ 9) (hg : coarse < 2 ^ 21) (hf : fine < 2 ^ 9)
    (hw : tot < 2 ^ 10) (he : epoch < 2) (hk : cont < 2) (hs : sat < 2) (hp : tp < 2) :
    let d := packHit tile row col coarse fine tot epoch cont sat tp
    d < 2 ^ 64 ∧ bits d 62 2 = tile ∧ bits d 53 9 = row ∧ bits d 44 9 = col ∧ bits d 23 21 = coarse ∧ bits d 14 9 = fine ∧
      bits d 4 10 = tot ∧ bits d 3 1 = epoch ∧ bits d 2 1 = cont ∧ bits d 1 1 = sat ∧ bits d 0 1 = tp := by
  simp only [packHit, bits]
  refine ⟨?_, ?_, ?_, ?_, ?_, ?_, ?_, ?_, ?_, ?_, ?_⟩ <;> omega

end

theorem boolNat_lt (b : Bool) : boolNat b < 2 := by cases b <;> decide

/-- A one-bit field that holds a flag. -/
theorem testBit_of_bits {d i : Nat} {b : Bool} (h : bits d i 1 = boolNat b) : d.testBit i = b := by
  rw [Nat.testBit_eq_decide_div_mod_eq, show d / 2 ^ i % 2 = boolNat b from h]
  cases b <;> rfl

theorem scRow_lt {c p : Nat} (hc : c < 4096) (hp : p < 64) : scRow c p < 512 := by unfold scRow; omega

theorem scCol_lt (c p : Nat) : scCol c p < 512 := by unfold scCol; omega

theorem satTime_le_iff (l e : Nat) : satTime l ≤ e ↔ 125 * l + 8 * 1023 * 2000 ≤ 8 * e := by unfold satTime; omega

/-- ToT in whole ns, 0 for a trailing stamp before the leading time. -/
theorem tot_natCast (l e : Nat) : (max 0 (min 1023 ((e / 2000 : Nat) - (l : Int) / 128 : Int))).toNat = min 1023 (e / 2000 - l / 128) := by
  omega

/-- A hit with both stamps forms its word, saturated from 1,023 ns after the leading time on. -/
theorem Hit.form_of_stamps (tile sconce : Nat) {h : Hit} {l e : Nat} (hl : h.lead = some (l : Int)) (he : h.fall = some e) :
    h.form tile sconce = some
      { pix := h.pix
        word := { data := hitWord tile sconce h l (if 125 * l + 8 * 1023 * 2000 ≤ 8 * e then 1023 else min 1023 (e / 2000 - l / 128))
                    (decide (125 * l + 8 * 1023 * 2000 ≤ 8 * e))
                  poison := h.poison } } := by
  simp only [Hit.form, hl, he, satTime_le_iff, tot_natCast, decide_eq_true_eq]

/-- Settles O6: the word is `packHit` of values that keep to their widths. -/
theorem hitWordFields : Obligations.HitWordFields := by
  unfold Obligations.HitWordFields
  intro tile sconce h l e ht hc hp hl he
  refine ⟨_, Hit.form_of_stamps tile sconce hl he, rfl, rfl, rfl, ?_⟩
  simp only [hitWord_eq_packHit]
  obtain ⟨hd, htile, hrow, hcol, hcoarse, hfine, htot, hepoch, hcont, hsat, htp⟩ :=
    bits_packHit (tile := tile) (row := scRow sconce h.pix) (col := scCol sconce h.pix) (coarse := l / 512 % 2 ^ 21) (fine := l % 512)
      (tot := if 125 * l + 8 * 1023 * 2000 ≤ 8 * e then 1023 else min 1023 (e / 2000 - l / 128)) (epoch := l / 512 / 2 ^ 21 % 2)
      ht (scRow_lt hc hp) (scCol_lt sconce h.pix) (by omega) (by omega) (by split <;> omega) (by omega) (boolNat_lt h.cont)
      (boolNat_lt (decide (125 * l + 8 * 1023 * 2000 ≤ 8 * e))) (boolNat_lt h.tp)
  exact ⟨hd, htile, hrow, hcol, hcoarse, hfine, htot, hepoch, testBit_of_bits hcont, testBit_of_bits hsat, testBit_of_bits htp⟩

end Sys2Proof.Machine
end

/-! ## A hit in a column out of service -/

section
namespace Sys2Proof.Machine

/-- The handoff of a timed hit in a column out of service leaves the word slots as they were: the hit is discarded (R107, R110). -/
theorem flameHandoff_of_colOff {s : State} {tile sconce flame : Nat} {h : Hit} (ht : tile < 4) (hc : sconce < 4096)
    (hrun : ((s.sconce tile sconce).flame flame).run = some h) (hlead : h.lead.isSome = true)
    (hoff : s.colOff tile (sconce % 64) = true) :
    Does (.flameHandoff tile sconce flame) s fun t => (t.sconce tile sconce).wait = (s.sconce tile sconce).wait := by
  have e : execFlameHandoff tile sconce flame s = onSconce tile sconce
      (((s.advanceTo (s.tileEdge (h.start + 6))).setSconce tile sconce
        ((s.sconce tile sconce).setFlame flame { (s.sconce tile sconce).flame flame with run := none })).bump
        Reg.TIL_XDISCARD_COUNT Reg.TIL_XINT_CNT_SAT tile 0 1 tile) := by
    simp only [execFlameHandoff, hrun, hlead, hoff, Bool.and_self, if_true]
  refine .of_onSconce ht hc e ?_
  rw [State.sconce_bump, State.sconce_setSconce_self]
  rfl

/-- The timed hit of pixel 9 that flame F0 of sconce 5 holds in `offColumn`. -/
def offHit : Hit := { pix := 9, start := 7, lead := some 3853 }

/-- Tile 1 runs, and its column 5, whose sconce 5 has a timed hit, is out of service. -/
def offColumn : State :=
  (tileUp.setSconce 1 5 ((tileUp.sconce 1 5).setFlame 0 { run := some offHit })).put Reg.TIL_COL_OFF0_OFF 32 1

/-- Refutes O5: the handoff's clause says nothing of the column, and in one out of service the hit does not move to a word slot but is
discarded and counted; in `offColumn` the slots stay empty. -/
theorem not_hitTiming : ¬ Obligations.HitTiming := by
  unfold Obligations.HitTiming
  rintro ⟨-, -, hhandoff, -, -⟩
  have hrun : ((offColumn.sconce 1 5).flame 0).run = some offHit := by decide +kernel
  have hwait : (offColumn.sconce 1 5).wait = [] := by decide +kernel
  have hoff : offColumn.colOff 1 (5 % 64) = true := by decide +kernel
  have hfree : (offColumn.sconce 1 5).wait.length + (offColumn.sconce 1 5).ready.length < 8 := by decide +kernel
  obtain ⟨t, e, rfl⟩ := hhandoff 1 5 0 offHit offColumn (by decide) (by decide) hrun rfl hfree rfl (by simp [hwait])
  obtain ⟨t', e', hw⟩ := flameHandoff_of_colOff (by decide) (by decide) hrun rfl hoff
  cases e.symm.trans e'
  rw [State.sconce_setSconce_self, hwait] at hw
  exact absurd hw (List.cons_ne_nil _ _)

end Sys2Proof.Machine
end

/-! ## A blank in frame mode -/

section
namespace Sys2Proof.Machine

/-- A tile in frame mode sends no loss word for a blank: its end leaves the registers of every loss kind as they were (R51, R214). -/
theorem reconfigBlankEnd_of_frameMode {s : State} {tile sconce b : Nat} {l : Option (List Nat)} (ht : tile < 4) (hc : sconce < 4096)
    (hblank : (s.blanksOf tile sconce).head? = some (b, l)) (hmerged : b ∉ (s.sconce tile sconce).merged)
    (hmode : s.flag Reg.TIL_FRM_CTRL_MODE tile = true) :
    Does (.reconfigBlankEnd tile sconce) s fun t => (t.sconce tile sconce).loss = (s.sconce tile sconce).loss := by
  refine .of_onSconce ht hc (t := _) rfl ?_
  have hmode' (x : Sconce) : ((s.advanceTo (b + 500)).setSconce tile sconce x).flag Reg.TIL_FRM_CTRL_MODE tile = true := by
    rw [State.flag, State.get_setSconce, State.get_advanceTo _ _ _ _ _ (by decide)]
    exact hmode
  simp [hblank, hmerged, hmode']

/-- Tile 1 runs in frame mode, and pixel 9 of its sconce 5 is blanked from edge 0 on. -/
def frameBlank : State :=
  (tileUp.setSconce 1 5 { tileUp.sconce 1 5 with blanks := [(0, [9])], blankCnt := [(0, 3)] }).put Reg.TIL_FRM_CTRL_MODE 1 1

/-- Refutes O7: the blank's clause asks that the discriminators are open but not that the tile counts events; in frame mode, as in
`frameBlank`, the blank ends without a loss word. -/
theorem not_lossWords : ¬ Obligations.LossWords := by
  unfold Obligations.LossWords
  rintro ⟨-, -, -, hblank, -⟩
  have hhead : (frameBlank.blanksOf 1 5).head? = some (0, some [9]) := by decide +kernel
  have hregs : (frameBlank.sconce 1 5).loss = [{}, {}, {}, {}] := by decide +kernel
  have hmerged : 0 ∉ (frameBlank.sconce 1 5).merged := by decide +kernel
  obtain ⟨t, e, -, hout, -⟩ := hblank 1 5 0 (some [9]) frameBlank (by decide) (by decide) hhead (by decide +kernel)
    (by rw [hregs]; rfl) (by rw [Sconce.lossReg, hregs]; rfl)
  obtain ⟨t', e', hloss⟩ := reconfigBlankEnd_of_frameMode (by decide) (by decide) hhead hmerged (by decide +kernel)
  cases e.symm.trans e'
  rw [Sconce.lossReg, hloss, hregs] at hout
  exact absurd hout (Option.some_ne_none _).symm

end Sys2Proof.Machine
end

/-! ## The control of a tile -/

section
namespace Sys2Proof.Machine

/-! ### The gate of a tile's discriminators -/

section
variable {l : List Fld} {s u : State} {t : Nat}

theorem State.setTile_tile (s : State) (t : Nat) : s.setTile t (s.tile t) = s := by
  rcases Nat.lt_or_ge t s.til.t.length with h | h
  · simp [State.setTile, State.tile, h]
  · exact s.setTile_of_ge t _ h

/-- A change of a tile just written changes what was written. -/
theorem State.setTile_modify (s : State) (t : Nat) (x : Tile) (g : Tile → Tile) :
    (s.setTile t x).setTile t (g ((s.setTile t x).tile t)) = s.setTile t (g x) := by
  rw [State.setTile_setTile]
  rcases Nat.lt_or_ge t s.til.t.length with h | h
  · rw [State.tile_setTile_self _ _ _ h]
  · rw [State.setTile_of_ge _ _ _ h, State.setTile_of_ge _ _ _ h]

/-- A change that may move the gate leaves, beside its own effect, at most the edges at which the discriminators opened and closed. -/
theorem State.regate_eq (s : State) (t : Nat) (f : State → State) :
    ∃ till from_, s.regate t f = (f s).setTile t { (f s).tile t with openTill := till, openFrom := from_ } := by
  have hself : f s = (f s).setTile t { (f s).tile t with openTill := ((f s).tile t).openTill, openFrom := ((f s).tile t).openFrom } :=
    ((f s).setTile_tile t).symm
  unfold State.regate
  extract_lets u
  split
  · exact ⟨_, _, hself⟩
  · split
    · exact ⟨u.dtRef, _, rfl⟩
    · exact ⟨_, u.dtRef, rfl⟩

theorem State.closeNext_eq (s : State) (t : Nat) :
    ∃ till, s.closeNext t = s.setTile t { s.tile t with openTill := till } ∧ (s.gated t = false → till = s.dtRef + 1) := by
  unfold State.closeNext
  split
  next h => exact ⟨(s.tile t).openTill, (s.setTile_tile t).symm, fun h' => absurd (h.symm.trans h') (by simp)⟩
  · exact ⟨_, rfl, fun _ => rfl⟩

/-- The fields the gate is read from. -/
def gateFields : List Fld := [Reg.TIL_CTRL_EN, Reg.TIL_BND_STATUS_STATE, Reg.TIL_STATUS_FE_READY, Reg.TIL_STATUS_CAL_VALID]

/-- The gate depends on its fields, on the tile and on the time alone. -/
theorem State.gated_of_only (h : OnlyFields l s u) (hl : ∀ f ∈ gateFields, f.id ∉ l.map (·.id)) (htile : u.tile t = s.tile t)
    (hsys : u.sys = s.sys) (hdt : u.dtRef = s.dtRef) : u.gated t = s.gated t := by
  have hget (f : Fld) (hf : f ∈ gateFields) : u.get f t = s.get f t := h f t 0 (hl f hf)
  simp only [State.gated, State.flag, htile, hsys, hdt, hget _ (by simp [gateFields] : Reg.TIL_CTRL_EN ∈ gateFields),
    hget _ (by simp [gateFields] : Reg.TIL_BND_STATUS_STATE ∈ gateFields), hget _ (by simp [gateFields] : Reg.TIL_STATUS_FE_READY ∈ gateFields),
    hget _ (by simp [gateFields] : Reg.TIL_STATUS_CAL_VALID ∈ gateFields)]

/-- The counting that has run depends on the frames and on two fields alone. -/
theorem State.accrue_frm_of_only (h : OnlyFields l s u) (hgate : Reg.TIL_FRM_GATE_EN.id ∉ l.map (·.id))
    (hen : Reg.TIL_CTRL_EN.id ∉ l.map (·.id)) (hfrm : u.frm = s.frm) (e : Nat) : (u.accrue e).frm = (s.accrue e).frm := by
  have hgate' : u.flag Reg.TIL_FRM_GATE_EN = s.flag Reg.TIL_FRM_GATE_EN := congrArg (· != 0) (h _ _ _ hgate)
  have hen' (t : Nat) : u.flag Reg.TIL_CTRL_EN t = s.flag Reg.TIL_CTRL_EN t := congrArg (· != 0) (h _ _ _ hen)
  simp only [State.accrue, hfrm, hgate', hen']

@[simp] theorem State.get_accrue (s : State) (e : Nat) (f : Fld) (i j : Nat) : (s.accrue e).get f i j = s.get f i j := rfl
@[simp] theorem State.accrue_dtRef (s : State) (e : Nat) : (s.accrue e).dtRef = s.dtRef := rfl
@[simp] theorem State.tile_accrue (s : State) (e t : Nat) : (s.accrue e).tile t = s.tile t := rfl
@[simp] theorem State.bnd_accrue (s : State) (e t : Nat) : (s.accrue e).bnd t = s.bnd t := rfl
@[simp] theorem State.gated_accrue (s : State) (e t : Nat) : (s.accrue e).gated t = s.gated t := rfl
@[simp] theorem State.bnd_put (s : State) (f : Fld) (v i j t : Nat) : (s.put f v i j).bnd t = s.bnd t := rfl

end

/-! ### A change of registers and of the tiles -/

/-- `u` is `s` but for the register file and the tiles beside it. -/
def SameButTiles (s u : State) : Prop := u = { s with regs := u.regs, til := { s.til with t := u.til.t } }

section
variable {s u w : State}

theorem SameButTiles.refl (s : State) : SameButTiles s s := rfl

/-- What else is put into both states, they differ in the same places. -/
theorem SameButTiles.upd (h : SameButTiles s u) (r : RegMap) (l : List Tile) (f : Frm) :
    ({ u with regs := r, til := { u.til with t := l }, frm := f } : State) = { s with regs := r, til := { s.til with t := l }, frm := f } := by
  rw [h]

theorem SameButTiles.trans (h : SameButTiles s u) (h' : SameButTiles u w) : SameButTiles s w := by
  unfold SameButTiles at *
  generalize w.regs = r, w.til.t = l at *
  subst h'
  rw [h]

theorem SameButTiles.put (h : SameButTiles s u) (f : Fld) (v i j : Nat) : SameButTiles s (u.put f v i j) := h.trans rfl

theorem SameButTiles.setTile (h : SameButTiles s u) (t : Nat) (x : Tile) : SameButTiles s (u.setTile t x) := h.trans rfl

theorem SameButTiles.regate_put (h : SameButTiles s u) (t : Nat) (f : Fld) (v i j : Nat) : SameButTiles s (u.regate t (·.put f v i j)) := by
  obtain ⟨_, _, e⟩ := u.regate_eq t (·.put f v i j)
  rw [e]
  exact (h.put f v i j).setTile t _

end

/-! ### A write of TIL_CTRL -/

/-- A write of TIL_CTRL up to EN: FE_ON, the front ends it powers down, and TP_ARM. -/
def State.ctrlFields (s : State) (t v : Nat) : State :=
  let s := s.writeLocked Reg.TIL_CTRL_FE_ON (s.flag Reg.TIL_CTRL_EN t) (bits v 1 1) Reg.TIL_INT_REFUSED t 0 t
  (s.cond (!s.flag Reg.TIL_CTRL_FE_ON t) (·.regate t (·.put Reg.TIL_STATUS_FE_READY 0 t))).put Reg.TIL_CTRL_TP_ARM (bits v 2 1) t

theorem State.tilCtrl_eq (s : State) (t v : Nat) :
    s.tilCtrl t v =
      if bit v 0 then if s.flag Reg.TIL_CTRL_EN t then s.ctrlFields t v else (s.ctrlFields t v).tileEnable t
      else ((s.ctrlFields t v).cond (s.flag Reg.TIL_CTRL_EN t) fun s =>
        let s := (s.accrue s.dtRef).closeNext t
        (s.put Reg.TIL_CTRL_EN 0 t).setTile t { s.tile t with firstDue := none }).clearBundle t := rfl

/-- What a write of TIL_CTRL changes before EN. -/
def ctrlWriteFields : List Fld := [Reg.TIL_CTRL_FE_ON, Reg.TIL_INT_REFUSED, Reg.TIL_STATUS_FE_READY, Reg.TIL_CTRL_TP_ARM]

section
variable {l : List Fld} {s u : State}

theorem OnlyFields.regate_put (t : Nat) (f : Fld) (v i j : Nat) (hf : f ∈ l) (h : OnlyFields l s u) :
    OnlyFields l s (u.regate t (·.put f v i j)) := by
  obtain ⟨till, from_, e⟩ := u.regate_eq t (·.put f v i j)
  rw [e]
  exact (h.put f v i j hf).trans (.of_regs rfl)

theorem OnlyFields.writeLocked (f : Fld) (en : Bool) (v : Nat) (flag : Fld) (i j k : Nat) (hf : en = false → f ∈ l)
    (hflag : en = true → flag ∈ l) (h : OnlyFields l s u) : OnlyFields l s (u.writeLocked f en v flag i j k) := by
  unfold State.writeLocked
  refine .ite h ?_
  cases en
  · exact h.put _ _ _ _ (hf rfl)
  · exact h.put _ _ _ _ (hflag rfl)

end

section
variable (s : State) (t v : Nat)

theorem State.ctrlFields_only : OnlyFields ctrlWriteFields s (s.ctrlFields t v) := by
  refine .put _ _ _ _ (by decide) (.cond (.writeLocked _ _ _ _ _ _ _ (fun _ => by decide) (fun _ => by decide) (.refl _ s)) fun h => ?_)
  exact h.regate_put t _ _ _ _ (by decide)

/-- While the tile is off no write of TIL_CTRL is refused. -/
theorem State.ctrlFields_only_of_off (hen : s.flag Reg.TIL_CTRL_EN t = false) :
    OnlyFields [Reg.TIL_CTRL_FE_ON, Reg.TIL_STATUS_FE_READY, Reg.TIL_CTRL_TP_ARM] s (s.ctrlFields t v) := by
  refine .put _ _ _ _ (by decide) (.cond (.writeLocked _ _ _ _ _ _ _ (fun _ => by decide) (fun h => absurd h (by simp [hen])) (.refl _ s)) fun h => ?_)
  exact h.regate_put t _ _ _ _ (by decide)

/-- While the tile is on its front ends keep their power. -/
theorem State.ctrlFields_only_of_on (hen : s.flag Reg.TIL_CTRL_EN t = true) :
    OnlyFields [Reg.TIL_INT_REFUSED, Reg.TIL_STATUS_FE_READY, Reg.TIL_CTRL_TP_ARM] s (s.ctrlFields t v) := by
  refine .put _ _ _ _ (by decide) (.cond (.writeLocked _ _ _ _ _ _ _ (fun h => absurd h (by simp [hen])) (fun _ => by decide) (.refl _ s)) fun h => ?_)
  exact h.regate_put t _ _ _ _ (by decide)

theorem State.writeLocked_eq (f : Fld) (en : Bool) (flag : Fld) (i j k : Nat) :
    s.writeLocked f en v flag i j k = { s with regs := (s.writeLocked f en v flag i j k).regs } := by
  unfold State.writeLocked
  split
  · rfl
  · split <;> rfl

/-- Beside register fields only the edges of the tile's gate move. -/
theorem State.ctrlFields_eq : ∃ till from_, s.ctrlFields t v =
    { s with
      regs := (s.ctrlFields t v).regs
      til := (s.setTile t { s.tile t with openTill := till, openFrom := from_ }).til } := by
  unfold State.ctrlFields
  generalize hw : s.writeLocked Reg.TIL_CTRL_FE_ON (s.flag Reg.TIL_CTRL_EN t) (bits v 1 1) Reg.TIL_INT_REFUSED t 0 t = w
  have e := s.writeLocked_eq (bits v 1 1) Reg.TIL_CTRL_FE_ON (s.flag Reg.TIL_CTRL_EN t) Reg.TIL_INT_REFUSED t 0 t
  rw [hw] at e
  dsimp only
  cases w.flag Reg.TIL_CTRL_FE_ON t
  · obtain ⟨till, from_, e'⟩ := w.regate_eq t (·.put Reg.TIL_STATUS_FE_READY 0 t)
    refine ⟨till, from_, ?_⟩
    rw [Bool.not_false, State.cond_true, e', e]
    rfl
  · refine ⟨(s.tile t).openTill, (s.tile t).openFrom, ?_⟩
    rw [Bool.not_true, State.cond_false, show s.setTile t { s.tile t with } = s from s.setTile_tile t, e]
    rfl

@[simp] theorem State.ctrlFields_sys : (s.ctrlFields t v).sys = s.sys := by
  obtain ⟨_, _, e⟩ := s.ctrlFields_eq t v
  rw [e]

@[simp] theorem State.ctrlFields_topo : (s.ctrlFields t v).topo = s.topo := by
  obtain ⟨_, _, e⟩ := s.ctrlFields_eq t v
  rw [e]

@[simp] theorem State.ctrlFields_xp : (s.ctrlFields t v).xp = s.xp := by
  obtain ⟨_, _, e⟩ := s.ctrlFields_eq t v
  rw [e]

@[simp] theorem State.ctrlFields_frm : (s.ctrlFields t v).frm = s.frm := by
  obtain ⟨_, _, e⟩ := s.ctrlFields_eq t v
  rw [e]

@[simp] theorem State.ctrlFields_dtRef : (s.ctrlFields t v).dtRef = s.dtRef := by
  obtain ⟨_, _, e⟩ := s.ctrlFields_eq t v
  rw [e]

@[simp] theorem State.ctrlFields_til_length : (s.ctrlFields t v).til.t.length = s.til.t.length := by
  obtain ⟨_, _, e⟩ := s.ctrlFields_eq t v
  rw [e]
  exact List.length_set

/-- The tile keeps everything but the edges of its gate. -/
theorem State.ctrlFields_tile (h : t < s.til.t.length) :
    ∃ till from_, (s.ctrlFields t v).tile t = { s.tile t with openTill := till, openFrom := from_ } := by
  obtain ⟨till, from_, e⟩ := s.ctrlFields_eq t v
  refine ⟨till, from_, ?_⟩
  rw [e]
  exact s.tile_setTile_self t _ h

theorem State.ctrlFields_sameButTiles : SameButTiles s (s.ctrlFields t v) := by
  obtain ⟨till, from_, e⟩ := s.ctrlFields_eq t v
  generalize s.ctrlFields t v = u at e ⊢
  unfold SameButTiles
  generalize u.regs = r at e ⊢
  subst e
  rfl

@[simp] theorem State.ctrlFields_tpArm : (s.ctrlFields t v).get Reg.TIL_CTRL_TP_ARM t = bits v 2 1 := by
  unfold State.ctrlFields
  rw [State.get_put_self]
  exact trunc_of_lt (Nat.mod_lt _ (by decide))

theorem State.get_writeLocked_of_open (f flag : Fld) (i j k : Nat) (hv : v < 2 ^ f.width) :
    (s.writeLocked f false v flag i j k).get f i j = v := by
  unfold State.writeLocked
  split
  next h => exact h
  · rw [if_neg Bool.false_ne_true, State.get_put_self, trunc_of_lt hv]

theorem State.get_writeLocked_of_locked (f flag : Fld) (i j k : Nat) (hf : f.id ≠ flag.id) :
    (s.writeLocked f true v flag i j k).get f i j = s.get f i j := by
  unfold State.writeLocked
  split
  · rfl
  · rw [if_pos rfl, State.get_put_of_id _ _ _ _ _ _ _ _ hf]

theorem State.get_regate_put (f g : Fld) (i j i' j' : Nat) :
    (s.regate t (·.put f v i j)).get g i' j' = (s.put f v i j).get g i' j' := by
  obtain ⟨_, _, e⟩ := s.regate_eq t (·.put f v i j)
  rw [e]
  rfl

/-- The front ends' power after the write is what the lock leaves. -/
theorem State.ctrlFields_feOn : (s.ctrlFields t v).get Reg.TIL_CTRL_FE_ON t =
    (s.writeLocked Reg.TIL_CTRL_FE_ON (s.flag Reg.TIL_CTRL_EN t) (bits v 1 1) Reg.TIL_INT_REFUSED t 0 t).get Reg.TIL_CTRL_FE_ON t := by
  unfold State.ctrlFields
  rw [State.get_put_of_id _ _ _ _ _ _ _ _ (by decide)]
  unfold State.cond
  split
  · rw [State.get_regate_put, State.get_put_of_id _ _ _ _ _ _ _ _ (by decide)]
  · rfl

theorem State.ctrlFields_feOn_of_off (hen : s.flag Reg.TIL_CTRL_EN t = false) :
    (s.ctrlFields t v).get Reg.TIL_CTRL_FE_ON t = bits v 1 1 := by
  rw [State.ctrlFields_feOn, hen]
  exact s.get_writeLocked_of_open _ _ _ _ _ _ (Nat.mod_lt _ (by decide))

theorem State.ctrlFields_feOn_of_on (hen : s.flag Reg.TIL_CTRL_EN t = true) :
    (s.ctrlFields t v).get Reg.TIL_CTRL_FE_ON t = s.get Reg.TIL_CTRL_FE_ON t := by
  rw [State.ctrlFields_feOn, hen, State.get_writeLocked_of_locked _ _ _ _ _ _ _ (by decide)]

/-- Front ends without power are not ready. -/
theorem State.ctrlFields_feReady (h : (s.ctrlFields t v).get Reg.TIL_CTRL_FE_ON t = 0) :
    (s.ctrlFields t v).get Reg.TIL_STATUS_FE_READY t = 0 := by
  rw [State.ctrlFields_feOn] at h
  have hoff : (s.writeLocked Reg.TIL_CTRL_FE_ON (s.flag Reg.TIL_CTRL_EN t) (bits v 1 1) Reg.TIL_INT_REFUSED t 0 t).flag
      Reg.TIL_CTRL_FE_ON t = false := by rw [State.flag, h]; rfl
  unfold State.ctrlFields
  rw [State.get_put_of_id _ _ _ _ _ _ _ _ (by decide)]
  simp only [hoff, Bool.not_false, State.cond_true, State.get_regate_put, State.get_put_self]
  rfl

/-- With the front ends powered the gate stays as it was. -/
theorem State.ctrlFields_gated (h : (s.ctrlFields t v).flag Reg.TIL_CTRL_FE_ON t = true) : (s.ctrlFields t v).gated t = s.gated t := by
  have hw := s.writeLocked_eq (bits v 1 1) Reg.TIL_CTRL_FE_ON (s.flag Reg.TIL_CTRL_EN t) Reg.TIL_INT_REFUSED t 0 t
  have honly : OnlyFields [Reg.TIL_CTRL_FE_ON, Reg.TIL_INT_REFUSED, Reg.TIL_CTRL_TP_ARM] s
      (s.writeLocked Reg.TIL_CTRL_FE_ON (s.flag Reg.TIL_CTRL_EN t) (bits v 1 1) Reg.TIL_INT_REFUSED t 0 t) :=
    .writeLocked _ _ _ _ _ _ _ (fun _ => by decide) (fun _ => by decide) (.refl _ s)
  rw [State.flag, State.ctrlFields_feOn] at h
  unfold State.ctrlFields
  generalize s.writeLocked Reg.TIL_CTRL_FE_ON (s.flag Reg.TIL_CTRL_EN t) (bits v 1 1) Reg.TIL_INT_REFUSED t 0 t = w at *
  have hcond : w.cond (!w.flag Reg.TIL_CTRL_FE_ON t) (·.regate t (·.put Reg.TIL_STATUS_FE_READY 0 t)) = w := by
    rw [State.flag, h]
    rfl
  dsimp only
  rw [hcond]
  refine State.gated_of_only (honly.put _ _ _ _ (by decide)) (by decide) ?_ ?_ ?_ <;> rw [hw] <;> rfl

end

/-! ### EN rises and falls -/

/-- A write of TIL_CTRL that moves EN to `x`: the counting up to now enters the frame under way, and the tile becomes `y`. -/
def State.enMoves (s : State) (t v x : Nat) (y : Tile) : State :=
  (((s.ctrlFields t v).accrue s.dtRef).put Reg.TIL_CTRL_EN x t).setTile t y

section
variable (s : State) (t v x : Nat) (y : Tile)

theorem State.enMoves_en : (s.enMoves t v x y).get Reg.TIL_CTRL_EN t = x % 2 := State.get_put_self ..

theorem State.get_enMoves (f : Fld) (i j : Nat) (h : f.id ≠ Reg.TIL_CTRL_EN.id) :
    (s.enMoves t v x y).get f i j = (s.ctrlFields t v).get f i j := State.get_put_of_id _ _ _ _ _ _ _ _ h

theorem State.tile_enMoves (h : t < s.til.t.length) : (s.enMoves t v x y).tile t = y :=
  State.tile_setTile_self _ t y (by rw [← s.ctrlFields_til_length t v] at h; exact h)

theorem State.enMoves_eq : s.enMoves t v x y =
    { s with
      regs := (s.enMoves t v x y).regs, til := { s.til with t := (s.enMoves t v x y).til.t }, frm := (s.accrue s.dtRef).frm } := by
  have hfrm := State.accrue_frm_of_only (s.ctrlFields_only t v) (by decide) (by decide) (s.ctrlFields_frm t v) s.dtRef
  rw [← hfrm]
  exact (s.ctrlFields_sameButTiles t v).upd _ _ _

theorem State.enMoves_only {l : List Fld} (h : OnlyFields l s (s.ctrlFields t v)) :
    OnlyFields (Reg.TIL_CTRL_EN :: l) s (s.enMoves t v x y) := by
  have h' : OnlyFields (Reg.TIL_CTRL_EN :: l) s ((s.ctrlFields t v).accrue s.dtRef) :=
    (h.mono fun _ hf => .tail _ hf).trans (.of_regs rfl)
  exact (h'.put Reg.TIL_CTRL_EN x t 0 (.head _)).trans (.of_regs rfl)

end

section
variable {s : State} {tile val : Nat}

/-- A tile that is off, with a port of its mode and its vias sound, is to begin its first calibration when EN rises (R75, R239). -/
theorem State.tilCtrl_of_rise (hval : val.testBit 0 = true) (hen : s.flag Reg.TIL_CTRL_EN tile = false)
    (hmode : s.flag Reg.TIL_FRM_CTRL_MODE tile = false) (hport : (s.topo.port.getD tile 0).testBit 0 = true)
    (hvia : tile ∉ s.sys.viaDead) (howed : (s.bnd tile).owed = false) :
    s.tilCtrl tile val = s.enMoves tile val 1 { (s.ctrlFields tile val).tile tile with firstDue := some (s.dtRef + 1) } := by
  have hmode' : (s.ctrlFields tile val).flag Reg.TIL_FRM_CTRL_MODE tile = false := by
    rw [State.flag, s.ctrlFields_only tile val _ _ _ (by decide)]
    exact hmode
  have howed' : ((s.ctrlFields tile val).bnd tile).owed = false := by rwa [State.bnd, State.ctrlFields_xp]
  rw [State.tilCtrl_eq, bit, hval, if_pos rfl, hen, if_neg Bool.false_ne_true]
  simp [State.enMoves, State.tileEnable, hmode', bit, hport, hvia, howed', -Nat.testBit_zero, -List.getD_eq_getElem?_getD]

/-- When EN falls no first calibration is due, and open discriminators close at the next edge (R78). -/
theorem State.tilCtrl_of_fall (hval : val.testBit 0 = false) (hen : s.flag Reg.TIL_CTRL_EN tile = true)
    (hstate : s.get Reg.TIL_BND_STATUS_STATE tile ≠ 3) :
    ∃ till, s.tilCtrl tile val = s.enMoves tile val 0 { (s.ctrlFields tile val).tile tile with firstDue := none, openTill := till } ∧
      ((s.ctrlFields tile val).gated tile = false → till = s.dtRef + 1) := by
  obtain ⟨till, e, htill⟩ := ((s.ctrlFields tile val).accrue s.dtRef).closeNext_eq tile
  refine ⟨till, ?_, by simpa using htill⟩
  have hstate' (y : Tile) : (s.enMoves tile val 0 y).get Reg.TIL_BND_STATUS_STATE tile ≠ 3 := by
    rwa [State.get_enMoves _ _ _ _ _ _ _ _ (by decide), s.ctrlFields_only tile val _ _ _ (by decide)]
  rw [State.tilCtrl_eq, bit, hval, if_neg Bool.false_ne_true, hen, State.cond_true, State.ctrlFields_dtRef, e]
  have hmove := State.setTile_modify (((s.ctrlFields tile val).accrue s.dtRef).put Reg.TIL_CTRL_EN 0 tile) tile
    { (s.ctrlFields tile val).tile tile with openTill := till } fun y => { y with firstDue := none }
  refine Eq.trans (congrArg (·.clearBundle tile) hmove) (if_neg (hstate' _))

/-- While the tile is off a write of EN = 0 writes the other fields alone (R78). -/
theorem State.tilCtrl_of_off (hval : val.testBit 0 = false) (hen : s.flag Reg.TIL_CTRL_EN tile = false)
    (hstate : s.get Reg.TIL_BND_STATUS_STATE tile ≠ 3) : s.tilCtrl tile val = s.ctrlFields tile val := by
  have hstate' : (s.ctrlFields tile val).get Reg.TIL_BND_STATUS_STATE tile ≠ 3 := by
    rwa [s.ctrlFields_only tile val _ _ _ (by decide)]
  rw [State.tilCtrl_eq, bit, hval, if_neg Bool.false_ne_true, hen, State.cond_false, State.clearBundle, if_neg hstate']

/-- A write of EN = 1 to a tile that is off owes the first calibration (R75). -/
theorem tileEnable_of_off (ht : tile < 4) (hval : val.testBit 0 = true) (hr : s.responds (0x60000 + 0x1000 * tile) = true)
    (hen : s.flag Reg.TIL_CTRL_EN tile = false) (hmode : s.flag Reg.TIL_FRM_CTRL_MODE tile = false)
    (hport : (s.topo.port.getD tile 0).testBit 0 = true) (hvia : tile ∉ s.sys.viaDead) (howed : (s.bnd tile).owed = false) :
    Does (.tileEnable tile val) s fun t => t.get Reg.TIL_CTRL_EN tile = 1 ∧ t.get Reg.TIL_CTRL_FE_ON tile = bits val 1 1 ∧
      t.get Reg.TIL_CTRL_TP_ARM tile = bits val 2 1 ∧
      (tile < s.til.t.length → t.tile tile =
        { s.tile tile with firstDue := some (s.dtRef + 1), openTill := (t.tile tile).openTill, openFrom := (t.tile tile).openFrom }) ∧
      Only [Reg.TIL_CTRL_EN, Reg.TIL_CTRL_FE_ON, Reg.TIL_STATUS_FE_READY, Reg.TIL_CTRL_TP_ARM] s t
        { s with regs := t.regs, til := { s.til with t := t.til.t }, frm := (s.accrue s.dtRef).frm } := by
  refine .of_bar rfl (by simp [bit, ht, hval, -Nat.testBit_zero]) hr ?_
  rw [State.tilCtrl_of_rise hval hen hmode hport hvia howed]
  refine ⟨State.enMoves_en .., ?_, ?_, fun hlt => ?_, State.enMoves_eq .., State.enMoves_only _ _ _ _ _ (s.ctrlFields_only_of_off _ _ hen)⟩
  · rw [State.get_enMoves _ _ _ _ _ _ _ _ (by decide), s.ctrlFields_feOn_of_off _ _ hen]
  · rw [State.get_enMoves _ _ _ _ _ _ _ _ (by decide), s.ctrlFields_tpArm]
  · obtain ⟨till, from_, e⟩ := s.ctrlFields_tile tile val hlt
    rw [State.tile_enMoves _ _ _ _ _ hlt, e]

/-- A write of EN = 0 to a tile that runs ends a first calibration that is due, and closes open discriminators at the next edge (R78). -/
theorem tileDisable_of_on (ht : tile < 4) (hval : val.testBit 0 = false) (hr : s.responds (0x60000 + 0x1000 * tile) = true)
    (hen : s.flag Reg.TIL_CTRL_EN tile = true) (hstate : s.get Reg.TIL_BND_STATUS_STATE tile ≠ 3) :
    Does (.tileDisable tile val) s fun t => t.get Reg.TIL_CTRL_EN tile = 0 ∧
      t.get Reg.TIL_CTRL_FE_ON tile = s.get Reg.TIL_CTRL_FE_ON tile ∧ t.get Reg.TIL_CTRL_TP_ARM tile = bits val 2 1 ∧
      (tile < s.til.t.length → t.tile tile =
        { s.tile tile with firstDue := none, openTill := (t.tile tile).openTill, openFrom := (t.tile tile).openFrom }) ∧
      (tile < s.til.t.length → s.gated tile = false → s.get Reg.TIL_CTRL_FE_ON tile = 1 → (t.tile tile).openTill = s.dtRef + 1) ∧
      Only [Reg.TIL_CTRL_EN, Reg.TIL_INT_REFUSED, Reg.TIL_STATUS_FE_READY, Reg.TIL_CTRL_TP_ARM] s t
        { s with regs := t.regs, til := { s.til with t := t.til.t }, frm := (s.accrue s.dtRef).frm } := by
  refine .of_bar rfl (by simp [bit, ht, hval, -Nat.testBit_zero]) hr ?_
  obtain ⟨till, e, htill⟩ := State.tilCtrl_of_fall hval hen hstate
  have hfe := s.ctrlFields_feOn_of_on tile val hen
  rw [e]
  refine ⟨State.enMoves_en .., ?_, ?_, fun hlt => ?_, fun hlt hg hon => ?_, State.enMoves_eq ..,
    State.enMoves_only _ _ _ _ _ (s.ctrlFields_only_of_on _ _ hen)⟩
  · rw [State.get_enMoves _ _ _ _ _ _ _ _ (by decide), hfe]
  · rw [State.get_enMoves _ _ _ _ _ _ _ _ (by decide), s.ctrlFields_tpArm]
  · obtain ⟨till', from_, e'⟩ := s.ctrlFields_tile tile val hlt
    rw [State.tile_enMoves _ _ _ _ _ hlt, e']
  · rw [State.tile_enMoves _ _ _ _ _ hlt]
    refine htill ((s.ctrlFields_gated tile val ?_).trans hg)
    rw [State.flag, hfe, hon]
    rfl

/-- A write of TIL_CTRL while the tile is off powers its front ends up or down (R78). -/
theorem fePowerWrite_of_off (ht : tile < 4) (hval : val.testBit 0 = false) (hr : s.responds (0x60000 + 0x1000 * tile) = true)
    (hen : s.flag Reg.TIL_CTRL_EN tile = false) (hstate : s.get Reg.TIL_BND_STATUS_STATE tile ≠ 3) :
    Does (.fePowerWrite tile val) s fun t => t.get Reg.TIL_CTRL_FE_ON tile = bits val 1 1 ∧
      (val.testBit 1 = false → t.get Reg.TIL_STATUS_FE_READY tile = 0) ∧
      t.get Reg.TIL_CTRL_TP_ARM tile = bits val 2 1 ∧ t.xp = s.xp ∧
      Only [Reg.TIL_CTRL_FE_ON, Reg.TIL_STATUS_FE_READY, Reg.TIL_CTRL_TP_ARM] s t
        { s with regs := t.regs, til := { s.til with t := t.til.t } } := by
  refine .of_bar rfl (by simp [ht]) hr ?_
  have hfe := s.ctrlFields_feOn_of_off tile val hen
  rw [State.tilCtrl_of_off hval hen hstate]
  refine ⟨hfe, fun h => s.ctrlFields_feReady _ _ ?_, s.ctrlFields_tpArm .., s.ctrlFields_xp .., s.ctrlFields_sameButTiles ..,
    s.ctrlFields_only_of_off _ _ hen⟩
  rw [hfe, bits_one, h]
  rfl

end

/-! ### Settled front ends and test pulses (R42, R78) -/

section
variable {s : State} {tile : Nat}

theorem feReady_of_on (ht : tile < 4) (hon : s.flag Reg.TIL_CTRL_FE_ON tile = true) :
    Does (.feReady tile) s fun t => t.get Reg.TIL_STATUS_FE_READY tile = 1 ∧
      Only [Reg.TIL_STATUS_FE_READY] s t { s with regs := t.regs, til := { s.til with t := t.til.t } } := by
  have e : execFeReady tile s = need (decide (tile < 4)) (s.regate tile (·.put Reg.TIL_STATUS_FE_READY 1 tile)) := by
    rw [execFeReady, hon, State.cond_true]
  refine .of_need e (decide_eq_true ht) ⟨?_, ?_, ?_⟩
  · rw [State.get_regate_put, State.get_put_self]
    rfl
  · exact (SameButTiles.refl s).regate_put ..
  · exact (OnlyFields.refl _ s).regate_put _ _ _ _ _ (by decide)

/-- The train's next pulse takes its registers from before the time that passes up to it. -/
theorem testPulseInject_of_train {r : Train} (ht : tile < 4) (htrain : (s.tile tile).train = some r)
    (harm : s.get Reg.TIL_CTRL_TP_ARM tile < 2) :
    Does (.testPulseInject tile) s fun t =>
      t = (s.advanceTo r.next).setTile tile { s.tile tile with
        train := if r.left ≤ 1 then none else some { r with left := r.left - 1, next := r.next + r.period }
        inj := if s.get Reg.TIL_CTRL_TP_ARM tile = 1 then
            { edge := max s.dtRef r.next % 2 ^ 64, bins := s.get Reg.TIL_TP_TP_FDELAY tile, charge := 40 * s.get Reg.TIL_TP_TP_AMP tile } :: (s.tile tile).inj.take 1
          else (s.tile tile).inj } := by
  have harmed : (s.get Reg.TIL_CTRL_TP_ARM tile != 0) = true ↔ s.get Reg.TIL_CTRL_TP_ARM tile = 1 := by
    rw [bne_iff_ne]
    omega
  refine .of_need rfl (by simp [ht]) ?_
  simp only [htrain, State.tile_advanceTo, State.advanceTo_dtRef, State.flag, harmed,
    State.get_advanceTo _ _ Reg.TIL_CTRL_TP_ARM _ _ (by decide), State.get_advanceTo _ _ Reg.TIL_TP_TP_FDELAY _ _ (by decide),
    State.get_advanceTo _ _ Reg.TIL_TP_TP_AMP _ _ (by decide)]

theorem tpTrainStart_of_count {val : Nat} (ht : tile < 4) (hval : val % 65536 ≠ 0) (hr : s.responds (0x60010 + 0x1000 * tile) = true) :
    Does (.tpTrainStart tile val) s fun t =>
      t = s.setTile tile { s.tile tile with train := some { left := val % 65536, period := max 64 (val / 65536 % 65536), next := s.dtRef + 64 } } := by
  have hcount : bits val 0 16 ≠ 0 := by simpa [bits] using hval
  refine .of_bar rfl (by simp [ht, hcount]) hr ?_
  simp only [State.tpFire, if_neg hcount]
  simp [bits]

theorem tpTrainStop_of_count {val : Nat} (ht : tile < 4) (hval : val % 65536 = 0) (hr : s.responds (0x60010 + 0x1000 * tile) = true) :
    Does (.tpTrainStop tile val) s fun t => t = s.setTile tile { s.tile tile with train := none } := by
  have hcount : bits val 0 16 = 0 := by simpa [bits] using hval
  refine .of_bar rfl (by simp [ht, hcount]) hr ?_
  simp only [State.tpFire, if_pos hcount]

end

/-! ### The pixel scrubber (R46) -/

theorem scrubCopies_same (a : Nat) : scrubCopies [a, a, a] = ([a, a, a], 0) := by simp [scrubCopies]

/-- Two copies that agree repair the third. -/
theorem scrubCopies_set {a b i : Nat} (hi : i < 3) (hb : b ≠ a) : scrubCopies ([a, a, a].set i b) = ([a, a, a], 1) := by
  obtain rfl | rfl | rfl : i = 0 ∨ i = 1 ∨ i = 2 := by omega
  all_goals simp [scrubCopies, hb, hb.symm]

/-- Three copies that differ are voted bit by bit, and the word's MASK bit is set. -/
theorem scrubCopies_of_ne {a b c : Nat} (hab : a ≠ b) (hac : a ≠ c) (hbc : b ≠ c) :
    scrubCopies [a, b, c] = (List.replicate 3 (Nat.lor (vote [a, b, c]) 0x80000000), 2) := by
  simp [scrubCopies, hab, hac, hbc, List.replicate]

/-- An upset of one copy of a pixel's words is undone by a visit, and one word counts as repaired. -/
theorem scrubCopies_upset {p : Pix} {u : PixUpset} {a x : Nat} (ha : p.act = [a, a, a]) (hx : p.shd = [x, x, x]) (hc : u.copy < 6)
    (hm : u.mask % 2 ^ 32 ≠ 0) :
    (scrubCopies (p.upset u).act = (p.act, 1) ∧ scrubCopies (p.upset u).shd = (p.shd, 0)) ∨
      (scrubCopies (p.upset u).act = (p.act, 0) ∧ scrubCopies (p.upset u).shd = (p.shd, 1)) := by
  have hne (a : Nat) : Nat.xor a (u.mask % 2 ^ 32) ≠ a := fun e => hm (Nat.xor_right_injective (x := a) (e.trans (Nat.xor_zero a).symm))
  have hget {a i : Nat} (hi : i < 3) : [a, a, a].getD i 0 = a := by
    obtain rfl | rfl | rfl : i = 0 ∨ i = 1 ∨ i = 2 := by omega
    all_goals rfl
  by_cases h : u.copy < 3
  · left
    simp only [Pix.upset, if_pos h, ha, hx, hget h, scrubCopies_set h (hne a), scrubCopies_same, and_self]
  · right
    have h' : u.copy - 3 < 3 := by omega
    simp only [Pix.upset, if_neg h, ha, hx, hget h', scrubCopies_set h' (hne x), scrubCopies_same, and_self]

section
variable {s : State} {tile row col : Nat}

/-- When the scrubber visits a pixel next: it visits one per reference period, in the order of their numbers. -/
def State.visitEdge (s : State) (row col : Nat) : Nat := s.dtRef + (row * 512 + col + 262144 - s.dtRef % 262144) % 262144

theorem State.visitEdge_eq (s : State) (row col : Nat) :
    s.visitEdge row col = s.dtRef + (row * 512 + col + 262144 - s.dtRef % 262144) % 262144 := rfl

theorem State.dtRef_le_visitEdge (s : State) (row col : Nat) : s.dtRef ≤ s.visitEdge row col := Nat.le_add_right ..

theorem Pix.upset_restored (p : Pix) (u : PixUpset) : ({ p.upset u with act := p.act, shd := p.shd } : Pix) = p := by
  unfold Pix.upset
  split <;> rfl

/-- A visit that finds one copy of a word upset writes the pixel as it was and counts one repair. -/
theorem execPixelScrubVisit_of_upset {a x : Nat} {d : PixUpset} (hd : d.row = row ∧ d.col = col) (hcopy : d.copy < 6)
    (hmask : d.mask % 2 ^ 32 ≠ 0) (hact : (s.pixel (pixKey tile row col)).act = [a, a, a])
    (hshd : (s.pixel (pixKey tile row col)).shd = [x, x, x]) :
    execPixelScrubVisit tile row col [d] s = need (decide (tile < 4) && decide (row < 512) && decide (col < 512))
      (((s.advanceTo (s.visitEdge row col)).setPixel (pixKey tile row col) (s.pixel (pixKey tile row col))).tcount Reg.TIL_SEU_CORR tile) := by
  obtain ⟨rfl, rfl⟩ := hd
  unfold execPixelScrubVisit
  dsimp only
  rw [← State.visitEdge_eq]
  simp only [State.each_cons, State.each_nil, State.pixel_setPixel_self, State.pixel_advanceTo, State.setPixel_setPixel]
  rcases scrubCopies_upset hact hshd hcopy hmask with ⟨h, h'⟩ | ⟨h, h'⟩ <;>
    simp [h, h', Pix.upset_restored]

/-- A visit finds one copy of three upset and repairs it. -/
theorem pixelScrubVisit_of_upset {a copy v : Nat} (ht : tile < 4) (hrow : row < 512) (hcol : col < 512) (hcopy : copy < 6)
    (hv : v < 2 ^ 32) (hv0 : v ≠ 0) (hact : (s.pixel (pixKey tile row col)).act = [a, a, a])
    (hshd : ∃ x ∈ (s.pixel (pixKey tile row col)).shd, (s.pixel (pixKey tile row col)).shd = [x, x, x]) :
    Does (.pixelScrubVisit tile row col [⟨row, col, copy, v⟩]) s fun t =>
      t.dtRef = s.visitEdge row col % 2 ^ 64 ∧ t.pixel (pixKey tile row col) = s.pixel (pixKey tile row col) ∧
      (s.get Reg.TIL_SEU_CORR tile + 1 < 2 ^ Reg.TIL_SEU_CORR.width - 1 → t.get Reg.TIL_SEU_CORR tile = s.get Reg.TIL_SEU_CORR tile + 1) ∧
      Only (Reg.TIL_SEU_CORR :: Reg.TIL_INT_CNT_SAT :: timeFields) s t
        { s with regs := t.regs, dtRef := t.dtRef, til := { s.til with pix := t.til.pix } } := by
  obtain ⟨x, -, hx⟩ := hshd
  have hmask : v % 2 ^ 32 ≠ 0 := by rwa [Nat.mod_eq_of_lt hv]
  refine .of_need (execPixelScrubVisit_of_upset ⟨rfl, rfl⟩ hcopy hmask hact hx) (by simp [ht, hrow, hcol]) ?_
  have hle := s.dtRef_le_visitEdge row col
  generalize s.visitEdge row col = d at *
  refine ⟨?_, by simp, fun hlt => ?_, ?_, ?_⟩
  · rw [State.dtRef_tcount, State.setPixel_dtRef, State.advanceTo_dtRef, Nat.max_eq_right hle]
  · have hget := State.get_advanceTo s d Reg.TIL_SEU_CORR tile 0 (by decide)
    rw [State.tcount, State.bump_get _ _ _ _ _ _ _ (by decide), State.get_setPixel, hget]
    exact Nat.min_eq_left hlt.le
  · obtain ⟨r, e⟩ := s.advanceTo_regs_dtRef d
    obtain ⟨r', e'⟩ := State.tcount_regs ((s.advanceTo d).setPixel (pixKey tile row col) (s.pixel (pixKey tile row col)))
      Reg.TIL_SEU_CORR 1 tile
    rw [e', e]
    rfl
  · have h : OnlyFields (Reg.TIL_SEU_CORR :: Reg.TIL_INT_CNT_SAT :: timeFields) s (s.advanceTo d) :=
      .advanceTo _ (fun _ hf => .tail _ (.tail _ hf)) (.refl _ s)
    exact (h.trans (.of_regs (State.setPixel_regs ..))).bump _ _ _ _ _ _ (.head _) (.tail _ (.head _))

/-- A visit that finds three copies of the active word that differ writes their vote, masked, and counts it as beyond repair. -/
theorem execPixelScrubVisit_of_ne {a b c x : Nat} (hact : (s.pixel (pixKey tile row col)).act = [a, b, c]) (hab : a ≠ b) (hac : a ≠ c)
    (hbc : b ≠ c) (hshd : (s.pixel (pixKey tile row col)).shd = [x, x, x]) :
    execPixelScrubVisit tile row col [] s = need (decide (tile < 4) && decide (row < 512) && decide (col < 512))
      ((((s.advanceTo (s.visitEdge row col)).setPixel (pixKey tile row col)
        { s.pixel (pixKey tile row col) with act := List.replicate 3 (Nat.lor (vote [a, b, c]) 0x80000000), shd := [x, x, x] }).tcount
          Reg.TIL_SEU_UNCORR tile).put Reg.TIL_INT_SEU_UNCORR 1 tile) := by
  unfold execPixelScrubVisit
  dsimp only
  rw [← State.visitEdge_eq]
  simp [hact, hshd, scrubCopies_of_ne hab hac hbc, scrubCopies_same]

/-- A visit that finds three copies that differ masks the pixel and reports it. -/
theorem pixelScrubVisit_of_ne {a b c : Nat} (ht : tile < 4) (hrow : row < 512) (hcol : col < 512)
    (hact : (s.pixel (pixKey tile row col)).act = [a, b, c]) (hab : a ≠ b) (hac : a ≠ c) (hbc : b ≠ c)
    (hshd : ∃ x ∈ (s.pixel (pixKey tile row col)).shd, (s.pixel (pixKey tile row col)).shd = [x, x, x]) :
    Does (.pixelScrubVisit tile row col []) s fun t =>
      (t.pixel (pixKey tile row col)).act = List.replicate 3 (Nat.lor (vote [a, b, c]) 0x80000000) ∧
      t.get Reg.TIL_INT_SEU_UNCORR tile = 1 := by
  obtain ⟨x, -, hx⟩ := hshd
  refine .of_need (execPixelScrubVisit_of_ne hact hab hac hbc hx) (by simp [ht, hrow, hcol]) ⟨?_, ?_⟩
  · rw [State.pixel_put, State.pixel_tcount, State.pixel_setPixel_self]
  · rw [State.get_put_self]
    rfl

end

/-! ### The tile's counters and its failure FIFO (R82) -/

/-- The counters that TIL_CNT_CLR clears. -/
def clearedCounters : List Fld :=
  [Reg.TIL_LOST_COUNT, Reg.TIL_IGNORED_COUNT, Reg.TIL_CONT_COUNT, Reg.TIL_BLANKED_COUNT, Reg.TIL_SEU_CORR, Reg.TIL_SEU_UNCORR]

theorem State.get_each_put_of_not (i v : Nat) (g : Fld) (i' j' : Nat) {l : List Fld} (h : g.id ∉ l.map (·.id)) (s : State) :
    (s.each l fun s f => s.put f v i).get g i' j' = s.get g i' j' := by
  induction l generalizing s with
  | nil => rfl
  | cons f l ih =>
    rw [List.map_cons, List.mem_cons, not_or] at h
    rw [State.each_cons, ih h.2, State.get_put_of_id _ _ _ _ _ _ _ _ h.1]

/-- Of different fields that take a value one after another each reads it. -/
theorem State.get_each_put_of_mem (i v : Nat) {g : Fld} {l : List Fld} (hl : (l.map (·.id)).Nodup) (hg : g ∈ l) (s : State) :
    (s.each l fun s f => s.put f v i).get g i = trunc g.width v := by
  induction l generalizing s with
  | nil => cases hg
  | cons f l ih =>
    rw [List.map_cons, List.nodup_cons] at hl
    rw [State.each_cons]
    rcases List.mem_cons.1 hg with e | hg
    · rw [e, State.get_each_put_of_not _ _ _ _ _ hl.1, State.get_put_self]
    · exact ih hl.2 hg _

section
variable {s : State} {tile : Nat}

theorem tilCntClr_of_responds (ht : tile < 4) (hr : s.responds (0x6003C + 0x1000 * tile) = true) :
    Does (.tilCntClr tile) s fun t => (∀ f ∈ clearedCounters, t.get f tile = 0) ∧
      t.til = (s.setTile tile { s.tile tile with ovfClear := true }).til ∧
      Only clearedCounters s t { s with regs := t.regs, til := t.til } := by
  have hsame : SameButRegs s (s.each clearedCounters fun s f => s.put f 0 tile) :=
    .each s _ _ (fun u f => .put u f 0 tile 0) s (.refl s)
  have hzero (f : Fld) (hf : f ∈ clearedCounters) : (s.each clearedCounters fun s f => s.put f 0 tile).get f tile = 0 :=
    (State.get_each_put_of_mem tile 0 (by decide) hf s).trans (Nat.zero_mod _)
  have hother := fun f i j hf => State.get_each_put_of_not (l := clearedCounters) tile 0 f i j hf s
  have e : execTilCntClr tile s = need (decide (tile < 4)) (s.bar (0x6003C + 0x1000 * tile) fun s =>
      let u := s.each clearedCounters fun s f => s.put f 0 tile
      u.setTile tile { u.tile tile with ovfClear := true }) := rfl
  refine .of_bar e (decide_eq_true ht) hr ?_
  generalize s.each clearedCounters (fun s f => s.put f 0 tile) = u at *
  unfold SameButRegs at hsame
  generalize u.regs = r at hsame
  subst hsame
  exact ⟨hzero, rfl, rfl, hother⟩

theorem failFifoRead_of_cons {c f e : Nat} {l : List (Nat × Nat × Nat)} (ht : tile < 4)
    (hr : s.responds (0x60028 + 0x1000 * tile) = true) (hfails : (s.tile tile).fails = (c, f, e) :: l) (hovf : (s.tile tile).ovf = false) :
    Does (.failFifoRead tile) s fun t => t.rdata = [2 ^ 31 + e * 2 ^ 16 + f * 2 ^ 12 + c] ∧
      t = { s.setTile tile { s.tile tile with fails := l, ovfClear := false } with rdata := t.rdata } := by
  refine .of_bar rfl (by simp [ht]) hr ⟨?_, ?_⟩
  · simp [State.failRead, State.failWord, hfails, hovf, boolNat, State.setTile]
  · simp [State.failRead, hfails, hovf]
    rfl

end

/-- Settles O9, clause by clause: TIL_CTRL, settled front ends, test pulses, the scrubber, the counters and the failure FIFO. -/
theorem tileControl : Obligations.TileControl := by
  unfold Obligations.TileControl
  exact ⟨fun _ _ _ ht hval hr hen hmode hport hvia howed => tileEnable_of_off ht hval hr hen hmode hport hvia howed,
    fun _ _ _ ht hval hr hen hstate => tileDisable_of_on ht hval hr hen hstate,
    fun _ _ _ ht hval hr hen hstate => fePowerWrite_of_off ht hval hr hen hstate,
    fun _ _ ht hon => feReady_of_on ht hon,
    fun _ _ _ ht hval hr => tpTrainStart_of_count ht hval hr,
    fun _ _ _ ht hval hr => tpTrainStop_of_count ht hval hr,
    fun _ _ _ ht htrain harm => testPulseInject_of_train ht htrain harm,
    fun _ _ _ _ _ _ _ ht hrow hcol hcopy hv hv0 hact hshd => pixelScrubVisit_of_upset ht hrow hcol hcopy hv hv0 hact hshd,
    fun _ _ _ _ _ _ _ ht hrow hcol hact hab hac hbc hshd => pixelScrubVisit_of_ne ht hrow hcol hact hab hac hbc hshd,
    fun _ _ ht hr => tilCntClr_of_responds ht hr,
    fun _ _ _ _ _ _ ht hr hfails hovf => failFifoRead_of_cons ht hr hfails hovf⟩

end Sys2Proof.Machine
end

/-! ## The pixel configuration stream -/

section
namespace Sys2Proof.Machine

/-! ### Sparse maps: all values changed, and what a listed key reads -/

/-- A change of every listed value that leaves the unlisted one alone changes what every key reads. -/
theorem SMap.get_map {κ β : Type} [DecidableEq κ] {d : β} {g : β → β} (hg : g d = d) (m : List (κ × β)) (k : κ) :
    SMap.get d (m.map fun e => (e.1, g e.2)) k = g (SMap.get d m k) := by
  induction m with
  | nil => exact hg.symm
  | cons e m ih =>
    rw [List.map_cons, SMap.get_cons, SMap.get_cons, ih]
    split <;> rfl

theorem SMap.mem_of_get_ne {κ β : Type} [DecidableEq κ] {d : β} {m : List (κ × β)} {k : κ} (h : SMap.get d m k ≠ d) :
    (k, SMap.get d m k) ∈ m := by
  induction m with
  | nil => exact absurd rfl h
  | cons e m ih =>
    rw [SMap.get_cons] at h ⊢
    split at h
    next hk =>
      subst hk
      rw [if_pos rfl]
      exact .head _
    next hk =>
      rw [if_neg hk]
      exact .tail _ (ih h)

/-! ### Words that claim the port, and words it does not take -/

section
variable {s : State} {src w : Nat}

/-- A word reaches the port from a queue, or by a write that reaches TIL_PCS_DATA. -/
theorem Does.of_pcsWord {P : State → Prop} (hsrc : src = 1 ∨ (src = 0 ∧ s.responds 0x68000 = true)) (hw : w < 2 ^ 32)
    (h : P (s.pcsWord src w)) : Does (.pcsWordArrive src w) s P := by
  rcases hsrc with rfl | ⟨rfl, hr⟩
  · have e : execPcsWordArrive 1 w s = need (decide (w < 2 ^ 32)) (s.pcsWord 1 w) := by simp [execPcsWordArrive]
    exact .of_need e (decide_eq_true hw) h
  · have e : execPcsWordArrive 0 w s = need (decide (w < 2 ^ 32)) (s.bar 0x68000 (·.pcsWord 0 w)) := by simp [execPcsWordArrive]
    exact .of_bar e (decide_eq_true hw) hr h

/-- A first header word claims an idle port for its source (R48). -/
theorem State.pcsWord_of_header (hst : s.get Reg.TIL_PCS_STATUS_STATE = 0) (hmagic : bits w 16 16 = 0x5043) (htiles : bits w 12 4 ≠ 0)
    (hmode : bits w 10 2 ≤ 1) :
    s.pcsWord src w = (({ s with til := { s.til with pcs := { words := w :: s.til.pcs.words } } } : State).put
      Reg.TIL_PCS_STATUS_STATE 1).put Reg.TIL_PCS_STATUS_OWNER src := by
  simp only [State.pcsWord, if_pos hst, if_pos (And.intro hmagic htiles), if_pos hmode]

/-- An idle port takes no word that is not a header and shows the first of them (R49). -/
theorem State.pcsWord_of_no_header (hst : s.get Reg.TIL_PCS_STATUS_STATE = 0) (h : bits w 16 16 ≠ 0x5043 ∨ bits w 12 4 = 0) :
    s.pcsWord src w = if s.get Reg.TIL_PCS_STATUS_ERR = 0 then s.put Reg.TIL_PCS_STATUS_ERR 1 else s := by
  have h' : ¬(bits w 16 16 = 0x5043 ∧ bits w 12 4 ≠ 0) := by tauto
  simp only [State.pcsWord, if_pos hst, if_neg h', State.cond, beq_iff_eq]

/-- A stream under way is left as it is by a word from the other source (R48, R49). -/
theorem State.pcsWord_of_other (hst : s.get Reg.TIL_PCS_STATUS_STATE ≠ 0) (how : s.get Reg.TIL_PCS_STATUS_OWNER ≠ src) :
    s.pcsWord src w = s.put Reg.TIL_PCS_STATUS_ERR 5 := by
  simp only [State.pcsWord, if_neg hst, if_pos how]

/-- The word after the last one of a stream is its check word (R47). -/
theorem State.pcsWord_of_check (hst : s.get Reg.TIL_PCS_STATUS_STATE = 3) (how : s.get Reg.TIL_PCS_STATUS_OWNER = src) :
    s.pcsWord src w = if w = crc32cWords 4 s.til.pcs.words.reverse then
      (s.pcsIdle 0).pcsAccept (s.til.pcs.words.reverse.getD 0 0) (s.til.pcs.words.reverse.getD 1 0) (s.til.pcs.words.reverse.drop 2)
      else s.pcsIdle 3 := by
  simp [State.pcsWord, hst, how]

theorem pcsWordArrive_of_header (hsrc : src = 1 ∨ (src = 0 ∧ s.responds 0x68000 = true)) (hw : w < 2 ^ 32)
    (hst : s.get Reg.TIL_PCS_STATUS_STATE = 0) (hmagic : bits w 16 16 = 0x5043) (htiles : bits w 12 4 ≠ 0) (hmode : bits w 10 2 ≤ 1) :
    Does (.pcsWordArrive src w) s fun t => t.get Reg.TIL_PCS_STATUS_STATE = 1 ∧ t.get Reg.TIL_PCS_STATUS_OWNER = src ∧
      Only [Reg.TIL_PCS_STATUS_STATE, Reg.TIL_PCS_STATUS_OWNER] s t { s with regs := t.regs, til := t.til } ∧
      t.til = { s.til with pcs := { words := w :: s.til.pcs.words } } := by
  refine .of_pcsWord hsrc hw ?_
  rw [State.pcsWord_of_header hst hmagic htiles hmode]
  refine ⟨?_, ?_, ⟨rfl, ?_⟩, rfl⟩
  · rw [State.get_put_of_id _ _ _ _ _ _ _ _ (by decide), State.get_put_self]
    rfl
  · rw [State.get_put_self]
    exact trunc_of_lt (by rcases hsrc with rfl | ⟨rfl, -⟩ <;> decide)
  · exact .put _ _ _ _ (by decide) (.put _ _ _ _ (by decide) (.of_regs rfl))

end

/-! ### The stream ends -/

section
variable (s : State) (err : Nat)

theorem State.pcsIdle_state : (s.pcsIdle err).get Reg.TIL_PCS_STATUS_STATE = 0 := by
  rw [State.pcsIdle, State.get_put_of_id _ _ _ _ _ _ _ _ (by decide), State.get_put_self]
  rfl

theorem State.pcsIdle_err (h : err < 16) : (s.pcsIdle err).get Reg.TIL_PCS_STATUS_ERR = err := by
  rw [State.pcsIdle, State.get_put_self]
  exact trunc_of_lt h

theorem State.pcsIdle_only :
    Only [Reg.TIL_PCS_STATUS_STATE, Reg.TIL_PCS_STATUS_ERR] s (s.pcsIdle err)
      { s with regs := (s.pcsIdle err).regs, til := { s.til with pcs := {} } } :=
  ⟨rfl, .put _ _ _ _ (by decide) (.put _ _ _ _ (by decide) (.of_regs rfl))⟩

end

/-! ### Changes of pixels -/

section
variable {g : Pix → Pix} {f : State → Nat → State}

/-- A change of single pixels made for each of a list of them changes those of the list. -/
theorem State.pixel_each (hf : ∀ s k' k, (f s k').pixel k = if k = k' then g (s.pixel k) else s.pixel k) (hg : ∀ p, g (g p) = g p)
    (l : List Nat) (s : State) (k : Nat) : (s.each l f).pixel k = if k ∈ l then g (s.pixel k) else s.pixel k := by
  induction l generalizing s with
  | nil => simp
  | cons a l ih =>
    rw [State.each_cons, ih, hf]
    by_cases ha : k = a <;> by_cases hl : k ∈ l <;> simp [ha, hl, hg]

end

/-- The pixel of a key takes a new value. -/
def State.modPixel (s : State) (g : Pix → Pix) (k : Nat) : State := s.setPixel k (g (s.pixel k))

theorem State.pixel_modPixel (g : Pix → Pix) (s : State) (k' k : Nat) :
    (s.modPixel g k').pixel k = if k = k' then g (s.pixel k) else s.pixel k := by
  unfold State.modPixel
  split
  next h => rw [h, State.pixel_setPixel_self]
  next h => rw [State.pixel_setPixel_of_ne _ _ h]

/-- Changes of pixels change nothing else. -/
theorem State.each_modPixel_eq (s : State) (g : Pix → Pix) (l : List Nat) :
    s.each l (fun s k => s.modPixel g k) = { s with til := { s.til with pix := (s.each l fun s k => s.modPixel g k).til.pix } } := by
  induction l generalizing s with
  | nil => rfl
  | cons a l ih => rw [State.each_cons, ih]; rfl

/-! ### The shadow words of a stream -/

/-- A word of a stream goes to the shadow copies of a pixel and waits there. -/
def Pix.stage (x : Nat) (p : Pix) : Pix := { p with shd := [x, x, x], staged := max 1 p.staged }

theorem Pix.stage_eq (x : Nat) (p : Pix) : p.stage x = { p with shd := [x, x, x], staged := max 1 p.staged } := rfl

theorem Pix.stage_stage (x : Nat) (p : Pix) : (p.stage x).stage x = p.stage x := by
  simp [Pix.stage]

/-- The pixels that a stream with headers `h0` and `h1` names, in the order of its words. -/
def namedPixels (h0 h1 : Nat) : List Nat :=
  ((List.range 4).filter fun t => bit h0 (12 + t)).flatMap fun t =>
    (List.range (bits h1 0 10 * 512)).map fun i => pixKey t (bits h1 16 9 + i / 512) (i % 512)

theorem mem_namedPixels {h0 h1 tile row col : Nat} (ht : tile < 4) (hrow : row < 512) (hcol : col < 512)
    (hrows : bits h1 16 9 + bits h1 0 10 ≤ 512) :
    pixKey tile row col ∈ namedPixels h0 h1 ↔
      h0.testBit (12 + tile) = true ∧ bits h1 16 9 ≤ row ∧ row < bits h1 16 9 + bits h1 0 10 := by
  simp only [namedPixels, List.mem_flatMap, List.mem_filter, List.mem_range, List.mem_map, pixKey, bit]
  generalize bits h1 16 9 = r at *
  generalize bits h1 0 10 = n at *
  constructor
  · rintro ⟨t, ⟨ht', hbit⟩, i, hi, e⟩
    have htile : t = tile := by omega
    subst htile
    exact ⟨hbit, by omega, by omega⟩
  · rintro ⟨hbit, hle, hlt⟩
    exact ⟨tile, ⟨ht, hbit⟩, (row - r) * 512 + col, by omega, by omega⟩

/-- The stream's one word stands in the shadow copies of the pixels it names, and the stream is counted (R47, R50). -/
def State.pcsStaged (s : State) (h0 h1 x : Nat) : State :=
  let u := s.each (namedPixels h0 h1) fun s k => s.modPixel (Pix.stage x) k
  (u.put Reg.TIL_PCS_STATUS_ERR 0).put Reg.TIL_PCS_STATUS_ACCEPTED (s.get Reg.TIL_PCS_STATUS_ACCEPTED + 1)

/-- With HOLD = 0 every word that waits in the shadow copies waits for no more than its commit point. -/
def Pix.release (p : Pix) : Pix := if 0 < p.staged then { p with staged := 2 } else p

def State.pcsRelease (s : State) : State :=
  { s with til := { s.til with pix := s.til.pix.map fun (e : Nat × Pix) => (e.1, e.2.release) } }

@[simp] theorem State.get_pcsRelease (s : State) (f : Fld) (i j : Nat) : s.pcsRelease.get f i j = s.get f i j := rfl

theorem State.pixel_pcsRelease (s : State) (k : Nat) : s.pcsRelease.pixel k = (s.pixel k).release := SMap.get_map rfl s.til.pix k

theorem State.pcsAccept_of_fill (s : State) {h0 h1 v : Nat} (hfill : bits h0 10 2 = 1) :
    s.pcsAccept h0 h1 [v] =
      let u := s.pcsStaged h0 h1 (v / 32 * 32)
      if bit h0 9 then u.pcsPending else u.pcsRelease.commitPixels fun k _ => !u.flag Reg.TIL_CTRL_EN (k / 262144) := by
  have hloop (w : Nat) : (s.each ((List.range 4).filter fun t => bit h0 (12 + t)) fun s t =>
      s.each (List.range (bits h1 0 10 * 512)) fun s i =>
        s.setPixel (pixKey t (bits h1 16 9 + i / 512) (i % 512)) ((s.pixel (pixKey t (bits h1 16 9 + i / 512) (i % 512))).stage w)) =
      s.each (namedPixels h0 h1) fun s k => s.modPixel (Pix.stage w) k := by
    simp only [State.each, namedPixels, List.foldl_flatMap, List.foldl_map, State.modPixel]
  have hget (w : Nat) : (s.each (namedPixels h0 h1) fun s k => s.modPixel (Pix.stage w) k).get Reg.TIL_PCS_STATUS_ACCEPTED =
      s.get Reg.TIL_PCS_STATUS_ACCEPTED := by
    rw [State.each_modPixel_eq]
    rfl
  unfold State.pcsAccept State.pcsStaged
  simp only [hfill, if_true, List.getD_cons_zero, ← Pix.stage_eq, hloop, hget]
  rfl

section
variable (s : State) (h0 h1 x : Nat)

theorem State.pcsStaged_pixel (k : Nat) :
    (s.pcsStaged h0 h1 x).pixel k = if k ∈ namedPixels h0 h1 then (s.pixel k).stage x else s.pixel k := by
  unfold State.pcsStaged
  rw [State.pixel_put, State.pixel_put]
  exact State.pixel_each (State.pixel_modPixel _) (Pix.stage_stage x) _ s k

theorem State.pcsStaged_til : (s.pcsStaged h0 h1 x).til = { s.til with pix := (s.pcsStaged h0 h1 x).til.pix } := by
  unfold State.pcsStaged
  rw [State.each_modPixel_eq]
  rfl

theorem State.pcsStaged_eq : s.pcsStaged h0 h1 x = { s with regs := (s.pcsStaged h0 h1 x).regs, til := (s.pcsStaged h0 h1 x).til } := by
  unfold State.pcsStaged
  rw [State.each_modPixel_eq]
  rfl

theorem State.pcsStaged_only : OnlyFields [Reg.TIL_PCS_STATUS_ERR, Reg.TIL_PCS_STATUS_ACCEPTED] s (s.pcsStaged h0 h1 x) := by
  refine .put _ _ _ _ (by decide) (.put _ _ _ _ (by decide) (.of_regs ?_))
  rw [State.each_modPixel_eq]

theorem State.pcsStaged_err : (s.pcsStaged h0 h1 x).get Reg.TIL_PCS_STATUS_ERR = 0 := by
  unfold State.pcsStaged
  rw [State.get_put_of_id _ _ _ _ _ _ _ _ (by decide), State.get_put_self]
  rfl

theorem State.pcsStaged_accepted : (s.pcsStaged h0 h1 x).get Reg.TIL_PCS_STATUS_ACCEPTED =
    (s.get Reg.TIL_PCS_STATUS_ACCEPTED + 1) % 2 ^ Reg.TIL_PCS_STATUS_ACCEPTED.width := State.get_put_self ..

end

/-! ### PCS_PENDING -/

theorem State.pcsPending_eq (s : State) : s.pcsPending = { s with regs := s.pcsPending.regs } :=
  SameButRegs.each s _ _ (fun u _ => .put u ..) s (.refl s)

theorem State.pcsPending_only (s : State) : OnlyFields [Reg.TIL_STATUS_PCS_PENDING] s s.pcsPending :=
  .each _ _ (fun _ _ h => h.putB _ _ _ _ (.head _)) _ (.refl _ s)

@[simp] theorem State.pixel_pcsPending (s : State) (k : Nat) : s.pcsPending.pixel k = s.pixel k := by
  rw [State.pcsPending_eq]
  rfl

/-! ### Staged words take effect -/

/-- A change of sconces and tiles that touches no pixel and, of the registers, LOSSSAT alone. -/
structure KeepsPixels (s u : State) : Prop where
  pix : u.til.pix = s.til.pix
  only : OnlyFields [Reg.TIL_INT_LOSSSAT] s u

section
variable {s u : State}

theorem KeepsPixels.refl (s : State) : KeepsPixels s s := ⟨rfl, .refl _ s⟩

theorem KeepsPixels.setSconce (h : KeepsPixels s u) (t c : Nat) (x : Sconce) : KeepsPixels s (u.setSconce t c x) :=
  ⟨h.pix, h.only.trans (.of_regs rfl)⟩

theorem KeepsPixels.setTile (h : KeepsPixels s u) (t : Nat) (x : Tile) : KeepsPixels s (u.setTile t x) :=
  ⟨h.pix, h.only.trans (.of_regs rfl)⟩

theorem KeepsPixels.putLossSat (h : KeepsPixels s u) (v t : Nat) : KeepsPixels s (u.put Reg.TIL_INT_LOSSSAT v t) :=
  ⟨h.pix, h.only.put _ _ _ _ (.head _)⟩

/-- An event that is no fault only enters the tile's FIFO. -/
theorem KeepsPixels.failEvent (h : KeepsPixels s u) (t c flame : Nat) : KeepsPixels s (u.failEvent t c flame 0) := by
  unfold State.failEvent
  rw [show decide (2 ≤ 0) = false from rfl, State.cond_false]
  split
  · exact h.setTile _ _
  · exact h.setTile _ _

theorem KeepsPixels.accumulate (h : KeepsPixels s u) (t c k a b n : Nat) : KeepsPixels s (u.accumulate t c k a b n) := by
  unfold State.accumulate
  extract_lets
  split
  split
  · exact h
  · dsimp only
    split
    · exact ((h.setSconce ..).putLossSat ..).failEvent ..
    · exact h.setSconce ..

theorem KeepsPixels.lossAt (h : KeepsPixels s u) (t c k a b n : Nat) (pix : List Nat) : KeepsPixels s (u.lossAt t c k a b n pix) := by
  unfold State.lossAt
  extract_lets
  split
  · split
    exact h.setSconce ..
  · exact h.accumulate ..

theorem KeepsPixels.blankPixel (h : KeepsPixels s u) (k : Nat) : KeepsPixels s (u.blankPixel k) := by
  unfold State.blankPixel State.blankBegins
  extract_lets
  split
  · exact ((h.setSconce ..).setSconce ..).lossAt ..
  · exact h.setSconce ..

end

/-- What the commit of a staged word leaves of a pixel. -/
def Pix.commit (p : Pix) : Pix := { p with act := [vote p.shd, vote p.shd, vote p.shd], staged := 0 }

theorem Pix.commit_commit (p : Pix) : p.commit.commit = p.commit := rfl

section
variable (s : State)

theorem State.commitPixel_blank (k : Nat) :
    KeepsPixels s (s.cond (analogBits (vote (s.pixel k).shd) != analogBits (s.pixel k).word) (·.blankPixel k)) := by
  unfold State.cond
  split
  · exact (KeepsPixels.refl s).blankPixel k
  · exact .refl s

theorem State.pixel_commitPixel (k' k : Nat) : (s.commitPixel k').pixel k = if k = k' then (s.pixel k).commit else s.pixel k := by
  have h := (s.commitPixel_blank k').pix
  unfold State.commitPixel
  dsimp only
  generalize s.cond _ _ = u at *
  split
  next e => rw [e, State.pixel_setPixel_self]; rfl
  next e => rw [State.pixel_setPixel_of_ne _ _ e, State.pixel, h]; rfl

theorem State.commitPixel_only (k : Nat) : OnlyFields [Reg.TIL_INT_LOSSSAT] s (s.commitPixel k) :=
  (s.commitPixel_blank k).only.trans (.of_regs rfl)

/-- The staged words that a condition selects take effect, and no other pixel changes (R50). -/
theorem State.pixel_commitPixels (c : Nat → Pix → Bool) (k : Nat) :
    (s.commitPixels c).pixel k =
      if k ∈ (s.til.pix.filter fun e => decide (0 < e.2.staged) && c e.1 e.2).map (·.1) then (s.pixel k).commit else s.pixel k := by
  unfold State.commitPixels
  rw [State.pixel_pcsPending]
  exact State.pixel_each State.pixel_commitPixel Pix.commit_commit _ s k

theorem State.commitPixels_only (c : Nat → Pix → Bool) :
    OnlyFields [Reg.TIL_INT_LOSSSAT, Reg.TIL_STATUS_PCS_PENDING] s (s.commitPixels c) := by
  refine .trans (.each _ _ (fun u k h => h.trans ((u.commitPixel_only k).mono ?_)) _ (.refl _ s)) ((State.pcsPending_only _).mono ?_) <;>
    decide

end

/-! ### An accepted stream (R47, R48, R50) -/

/-- A staged word that the condition selects takes effect. -/
theorem State.pixel_commitPixels_of_staged {s : State} {c : Nat → Pix → Bool} {k : Nat} (hstaged : 0 < (s.pixel k).staged)
    (hc : c k (s.pixel k) = true) : (s.commitPixels c).pixel k = (s.pixel k).commit := by
  have hne : s.pixel k ≠ {} := fun e => by simp [e] at hstaged
  rw [State.pixel_commitPixels]
  exact if_pos (List.mem_map.2 ⟨(k, s.pixel k), List.mem_filter.2 ⟨SMap.mem_of_get_ne hne, by simp [hstaged, hc]⟩, rfl⟩)

/-- A pixel that the condition never selects keeps its words. -/
theorem State.pixel_commitPixels_of_not {s : State} {c : Nat → Pix → Bool} {k : Nat} (hc : ∀ p, c k p = false) :
    (s.commitPixels c).pixel k = s.pixel k := by
  rw [State.pixel_commitPixels]
  refine if_neg fun h => ?_
  obtain ⟨⟨k', p⟩, he, rfl⟩ := List.mem_map.1 h
  simp [hc] at he

theorem Pix.release_stage (x : Nat) (p : Pix) : (p.stage x).release = { p with shd := [x, x, x], staged := 2 } := by
  have h : 0 < (p.stage x).staged := by
    rw [Pix.stage_eq]
    exact Nat.lt_of_lt_of_le Nat.one_pos (Nat.le_max_left ..)
  rw [Pix.release, if_pos h]
  rfl

theorem vote_same (x : Nat) : vote [x, x, x] = x := by
  show ((x &&& x) ||| (x &&& x)) ||| (x &&& x) = x
  simp

theorem pixKey_div {tile row col : Nat} (hrow : row < 512) (hcol : col < 512) : pixKey tile row col / 262144 = tile := by
  unfold pixKey
  omega

section
variable {s : State} {w h0 h1 v : Nat}

/-- The last word of a filled stream agrees with what came before it. -/
theorem State.pcsWord_of_fill (hst : s.get Reg.TIL_PCS_STATUS_STATE = 3) (how : s.get Reg.TIL_PCS_STATUS_OWNER = 1)
    (hwords : s.til.pcs.words = [v, h1, h0]) (hw : w = crc32cWords 4 [h0, h1, v]) (hfill : bits h0 10 2 = 1) :
    s.pcsWord 1 w =
      let u := (s.pcsIdle 0).pcsStaged h0 h1 (v / 32 * 32)
      if bit h0 9 then u.pcsPending else u.pcsRelease.commitPixels fun k _ => !u.flag Reg.TIL_CTRL_EN (k / 262144) := by
  rw [State.pcsWord_of_check hst how, hwords]
  exact (if_pos hw).trans (State.pcsAccept_of_fill _ hfill)

/-- What an accepted stream changes of the registers before its words are held or released. -/
theorem State.pcsStaged_idle_only :
    OnlyFields [Reg.TIL_PCS_STATUS_STATE, Reg.TIL_PCS_STATUS_ERR, Reg.TIL_PCS_STATUS_ACCEPTED] s ((s.pcsIdle 0).pcsStaged h0 h1 v) :=
  ((s.pcsIdle_only 0).2.mono (by decide)).trans ((State.pcsStaged_only _ _ _ _).mono (by decide))

theorem State.pcsStaged_idle_state : ((s.pcsIdle 0).pcsStaged h0 h1 v).get Reg.TIL_PCS_STATUS_STATE = 0 := by
  rw [State.pcsStaged_only _ _ _ _ _ _ _ (by decide), State.pcsIdle_state]

end

section
variable {s : State} {w h0 h1 v tile row col : Nat}

/-- A held stream stands in the shadow copies of the pixels it names. -/
theorem pcsWordArrive_of_hold (hw : w < 2 ^ 32) (hst : s.get Reg.TIL_PCS_STATUS_STATE = 3) (how : s.get Reg.TIL_PCS_STATUS_OWNER = 1)
    (hwords : s.til.pcs.words = [v, h1, h0]) (hcrc : w = crc32cWords 4 [h0, h1, v]) (hfill : bits h0 10 2 = 1)
    (ht : tile < 4) (hrow : row < 512) (hcol : col < 512) (hrows : bits h1 16 9 + bits h1 0 10 ≤ 512) (hhold : h0.testBit 9 = true) :
    Does (.pcsWordArrive 1 w) s fun t => t.get Reg.TIL_PCS_STATUS_STATE = 0 ∧ t.get Reg.TIL_PCS_STATUS_ERR = 0 ∧
      t.get Reg.TIL_PCS_STATUS_ACCEPTED = (s.get Reg.TIL_PCS_STATUS_ACCEPTED + 1) % 2 ^ Reg.TIL_PCS_STATUS_ACCEPTED.width ∧
      t.til = { s.til with pcs := {}, pix := t.til.pix } ∧
      t.pixel (pixKey tile row col) = (if h0.testBit (12 + tile) = true ∧ bits h1 16 9 ≤ row ∧ row < bits h1 16 9 + bits h1 0 10
        then (s.pixel (pixKey tile row col)).stage (v / 32 * 32) else s.pixel (pixKey tile row col)) ∧
      Only [Reg.TIL_PCS_STATUS_STATE, Reg.TIL_PCS_STATUS_ERR, Reg.TIL_PCS_STATUS_ACCEPTED, Reg.TIL_STATUS_PCS_PENDING] s t
        { s with regs := t.regs, til := t.til } := by
  refine .of_pcsWord (.inl rfl) hw ?_
  rw [State.pcsWord_of_fill hst how hwords hcrc hfill, bit, hhold, if_pos rfl]
  have hpix := (s.pcsIdle 0).pcsStaged_pixel h0 h1 (v / 32 * 32) (pixKey tile row col)
  have htil := (s.pcsIdle 0).pcsStaged_til h0 h1 (v / 32 * 32)
  have heq := (s.pcsIdle 0).pcsStaged_eq h0 h1 (v / 32 * 32)
  have honly := s.pcsStaged_idle_only (h0 := h0) (h1 := h1) (v := v / 32 * 32)
  have hstate := s.pcsStaged_idle_state (h0 := h0) (h1 := h1) (v := v / 32 * 32)
  have herr := (s.pcsIdle 0).pcsStaged_err h0 h1 (v / 32 * 32)
  have hacc := (s.pcsIdle 0).pcsStaged_accepted h0 h1 (v / 32 * 32)
  generalize (s.pcsIdle 0).pcsStaged h0 h1 (v / 32 * 32) = u at *
  have hp := u.pcsPending_only
  refine ⟨?_, ?_, ?_, ?_, ?_, ?_, ?_⟩
  · rw [hp _ _ _ (by decide), hstate]
  · rw [hp _ _ _ (by decide), herr]
  · rw [hp _ _ _ (by decide), hacc, (s.pcsIdle_only 0).2 _ _ _ (by decide)]
  · rw [State.pcsPending_eq]
    exact htil
  · rw [State.pixel_pcsPending, hpix]
    exact if_congr (mem_namedPixels ht hrow hcol hrows) rfl rfl
  · rw [State.pcsPending_eq]
    generalize u.pcsPending.regs = r
    generalize u.regs = a, u.til = b at heq
    rw [heq]
    rfl
  · exact (honly.mono (by decide)).trans (hp.mono (by decide))

/-- A stream with HOLD = 0 takes effect at once in a disabled tile, and waits for the next epoch boundary in an enabled one. -/
theorem pcsWordArrive_of_release (hw : w < 2 ^ 32) (hst : s.get Reg.TIL_PCS_STATUS_STATE = 3) (how : s.get Reg.TIL_PCS_STATUS_OWNER = 1)
    (hwords : s.til.pcs.words = [v, h1, h0]) (hcrc : w = crc32cWords 4 [h0, h1, v]) (hfill : bits h0 10 2 = 1)
    (ht : tile < 4) (hrow : row < 512) (hcol : col < 512) (hrows : bits h1 16 9 + bits h1 0 10 ≤ 512) (hhold : h0.testBit 9 = false) :
    Does (.pcsWordArrive 1 w) s fun t => t.get Reg.TIL_PCS_STATUS_STATE = 0 ∧ t.get Reg.TIL_PCS_STATUS_ERR = 0 ∧
      (h0.testBit (12 + tile) = true ∧ bits h1 16 9 ≤ row ∧ row < bits h1 16 9 + bits h1 0 10 →
        t.pixel (pixKey tile row col) =
          if s.flag Reg.TIL_CTRL_EN tile then { s.pixel (pixKey tile row col) with shd := [v / 32 * 32, v / 32 * 32, v / 32 * 32], staged := 2 }
          else { s.pixel (pixKey tile row col) with
            act := [v / 32 * 32, v / 32 * 32, v / 32 * 32], shd := [v / 32 * 32, v / 32 * 32, v / 32 * 32], staged := 0 }) := by
  refine .of_pcsWord (.inl rfl) hw ?_
  rw [State.pcsWord_of_fill hst how hwords hcrc hfill, bit, hhold, if_neg Bool.false_ne_true]
  have hpix := (s.pcsIdle 0).pcsStaged_pixel h0 h1 (v / 32 * 32) (pixKey tile row col)
  have honly := s.pcsStaged_idle_only (h0 := h0) (h1 := h1) (v := v / 32 * 32)
  have hstate := s.pcsStaged_idle_state (h0 := h0) (h1 := h1) (v := v / 32 * 32)
  have herr := (s.pcsIdle 0).pcsStaged_err h0 h1 (v / 32 * 32)
  generalize (s.pcsIdle 0).pcsStaged h0 h1 (v / 32 * 32) = u at *
  have hen : u.flag Reg.TIL_CTRL_EN tile = s.flag Reg.TIL_CTRL_EN tile := congrArg (· != 0) (honly _ _ _ (by decide))
  have hc := u.pcsRelease.commitPixels_only fun k _ => !u.flag Reg.TIL_CTRL_EN (k / 262144)
  refine ⟨?_, ?_, fun hnamed => ?_⟩
  · rw [hc _ _ _ (by decide), State.get_pcsRelease, hstate]
  · rw [hc _ _ _ (by decide), State.get_pcsRelease, herr]
  · have hrel : u.pcsRelease.pixel (pixKey tile row col) =
        { s.pixel (pixKey tile row col) with shd := [v / 32 * 32, v / 32 * 32, v / 32 * 32], staged := 2 } := by
      rw [State.pixel_pcsRelease, hpix, if_pos ((mem_namedPixels ht hrow hcol hrows).2 hnamed), Pix.release_stage]
      rfl
    cases h : s.flag Reg.TIL_CTRL_EN tile
    · refine (State.pixel_commitPixels_of_staged (by rw [hrel]; exact Nat.two_pos) ?_).trans ?_
      · rw [pixKey_div hrow hcol, hen, h]
        rfl
      · rw [hrel, if_neg Bool.false_ne_true, Pix.commit, vote_same]
    · refine (State.pixel_commitPixels_of_not fun _ => ?_).trans (hrel.trans (if_pos rfl).symm)
      rw [pixKey_div hrow hcol, hen, h]
      rfl

end

/-! ### The statement -/

/-- Settles O10: the port's words by what they are (header, none, another source's, check word), an abort and a read-back. -/
theorem pixelStream : Obligations.PixelStream := by
  unfold Obligations.PixelStream
  refine ⟨fun src w s hsrc hw hst hmagic htiles hmode => pcsWordArrive_of_header hsrc hw hst hmagic htiles hmode,
    fun src w s hsrc hw hst h => .of_pcsWord hsrc hw (State.pcsWord_of_no_header hst h), fun w s hw hr hst how => ?_,
    fun w s hw hst how hcrc => ?_, fun w h0 h1 v tile row col s hw hst how hwords hcrc hfill ht hrow hcol hrows => ⟨?_, ?_, ?_⟩,
    fun s hr hst => ?_, fun s hr => ?_⟩
  · refine .of_pcsWord (.inr ⟨rfl, hr⟩) hw ?_
    rw [State.pcsWord_of_other hst (by rw [how]; decide)]
    exact ⟨State.get_put_self .., .put _ _ _ _ _ (.head _)⟩
  · refine .of_pcsWord (.inl rfl) hw ?_
    rw [State.pcsWord_of_check hst how, if_neg hcrc]
    exact ⟨s.pcsIdle_state 3, s.pcsIdle_err 3 (by decide), s.pcsIdle_only 3⟩
  · intro hhold
    obtain ⟨t, e, hstate, herr, hacc, htil, hpix, honly⟩ :=
      pcsWordArrive_of_hold hw hst how hwords hcrc hfill ht hrow hcol hrows hhold
    exact ⟨t, e, hstate, herr, hacc, htil, fun hn => hpix.trans (if_pos hn), fun hn => hpix.trans (if_neg hn), honly⟩
  · intro hhold hen
    obtain ⟨t, e, hstate, herr, hpix⟩ := pcsWordArrive_of_release hw hst how hwords hcrc hfill ht hrow hcol hrows hhold
    exact ⟨t, e, hstate, herr, fun hn => (hpix hn).trans (if_neg (by simp [State.flag, hen]))⟩
  · intro hhold hen
    obtain ⟨t, e, hstate, herr, hpix⟩ := pcsWordArrive_of_release hw hst how hwords hcrc hfill ht hrow hcol hrows hhold
    exact ⟨t, e, hstate, herr, fun hn => (hpix hn).trans (if_pos (by simp [State.flag, hen]))⟩
  · have e : execPcsAbort s = .next (s.pcsIdle 6) := by
      rw [execPcsAbort, State.bar_of_responds hr, if_neg hst]
    exact .of_next e ⟨s.pcsIdle_state 6, s.pcsIdle_err 6 (by decide), s.pcsIdle_only 6⟩
  · have e : execPixelWordRead s = .next { s with rdata := [s.pcsRead] } := by rw [execPixelWordRead, State.bar_of_responds hr]
    refine .of_next e ?_
    simp only [State.pcsRead, Pix.word, apply_ite vote]

end Sys2Proof.Machine
end

/-! ## The calibration rota -/

section
namespace Sys2Proof.Machine

/-! ### Calibrations (R56, R70) -/

section
variable {n1 n2 : Nat} {prev : Option Nat}

/-- Counts within the limits give PERIOD and OFFSET, where no drift is looked at (R70). -/
theorem calPasses_of_limits (hlo : n1 + 3200 ≤ n2) (hhi : n2 ≤ n1 + 5120) (ho : n2 ≤ 2 * n1) (ho' : 2 * n1 ≤ n2 + 768) :
    calPasses n1 n2 prev 0 = some (n2 - n1, 2 * n1 - n2) := by
  have hp : ((n2 : Int) - n1).toNat = n2 - n1 := by omega
  have hq : (2 * (n1 : Int) - n2).toNat = 2 * n1 - n2 := by omega
  have h1 : (3200 : Int) ≤ n2 - n1 := by omega
  have h2 : (n2 : Int) - n1 ≤ 5120 := by omega
  have h3 : (0 : Int) ≤ 2 * n1 - n2 := by omega
  have h4 : 2 * (n1 : Int) - n2 ≤ 768 := by omega
  simp only [calPasses, h1, h2, h3, h4, hp, hq, decide_true, Bool.and_self, BEq.rfl, Bool.true_or, if_true]

/-- A PERIOD below its limit does not pass, whatever it was before. -/
theorem calPasses_of_short (drift : Nat) (h : n2 < n1 + 3200) : calPasses n1 n2 prev drift = none := by
  have h1 : ¬(3200 : Int) ≤ n2 - n1 := by omega
  simp only [calPasses, h1, decide_false, Bool.false_and, Bool.false_eq_true, if_false]

end

/-! ### The rota (R69) -/

section
variable {s : State} {tile val : Nat}

theorem rotaStepDue_of_next {d : Nat} (ht : tile < 4) (hnext : (s.tile tile).rotaNext = some d) :
    Does (.rotaStepDue tile) s fun t => t = (s.advanceTo d).setTile tile { s.tile tile with
      rotaLast := d, rotaNext := some (d + (s.advanceTo d).get Reg.TIL_ROTA_INTERVAL tile * 1024), rotaDue := (s.tile tile).rotaDue + 1 } := by
  refine .of_need rfl (decide_eq_true ht) ?_
  simp only [hnext, State.tile_advanceTo]

/-- What a write of TIL_ROTA leaves of the rota, from INTERVAL before and after it. -/
def Tile.rotaWritten (x : Tile) (dt old new : Nat) (force : Bool) : Tile :=
  let y :=
    if new = old then x
    else if new = 0 then { x with rotaNext := none }
    else if old = 0 then { x with rotaLast := dt, rotaNext := some (dt + new * 1024) }
    else { x with rotaNext := some (max (dt + 1) (x.rotaLast + new * 1024)) }
  { y with rotaDue := y.rotaDue + boolNat force }

theorem Tile.rotaWritten_rotaDue (x : Tile) (dt old new : Nat) (force : Bool) :
    (x.rotaWritten dt old new force).rotaDue = x.rotaDue + boolNat force := by
  unfold Tile.rotaWritten
  split
  · rfl
  · split
    · rfl
    · split <;> rfl

theorem Tile.rotaWritten_rotaNext (x : Tile) (dt old : Nat) (force : Bool) (h : old ≠ 0) :
    (x.rotaWritten dt old 0 force).rotaNext = none := by
  simp only [Tile.rotaWritten, if_neg h.symm, if_true]

theorem State.tilRota_eq (s : State) (t v : Nat) :
    s.tilRota t v = ((s.put Reg.TIL_ROTA_INTERVAL (bits v 0 16) t).put Reg.TIL_ROTA_DRIFT (bits v 20 4) t).setTile t
      ((s.tile t).rotaWritten s.dtRef (s.get Reg.TIL_ROTA_INTERVAL t) (bits v 0 16) (bit v 16)) := rfl

theorem State.tilRota_interval (s : State) (t v : Nat) : (s.tilRota t v).get Reg.TIL_ROTA_INTERVAL t = v % 65536 := by
  rw [State.tilRota_eq, State.get_setTile, State.get_put_of_id _ _ _ _ _ _ _ _ (by decide), State.get_put_self]
  simp [trunc, bits, Reg.TIL_ROTA_INTERVAL]

theorem State.tilRota_drift (s : State) (t v : Nat) : (s.tilRota t v).get Reg.TIL_ROTA_DRIFT t = v / 2 ^ 20 % 16 := by
  rw [State.tilRota_eq, State.get_setTile, State.get_put_self]
  exact trunc_of_lt (Nat.mod_lt _ (by decide))

theorem State.tilRota_only (s : State) (t v : Nat) : Only [Reg.TIL_ROTA_INTERVAL, Reg.TIL_ROTA_DRIFT] s (s.tilRota t v)
    { s with regs := (s.tilRota t v).regs, til := { s.til with t := (s.tilRota t v).til.t } } :=
  ⟨rfl, .trans (.put _ _ _ _ (by decide) (.put _ _ _ _ (by decide) (.refl _ s))) (.of_regs rfl)⟩

theorem State.tilRota_tile (s : State) (t v : Nat) (h : t < s.til.t.length) :
    (s.tilRota t v).tile t = (s.tile t).rotaWritten s.dtRef (s.get Reg.TIL_ROTA_INTERVAL t) (bits v 0 16) (bit v 16) :=
  State.tile_setTile_self _ _ _ h

theorem rotaForce_of_force (ht : tile < 4) (hval : val.testBit 16 = true) (hr : s.responds (0x60014 + 0x1000 * tile) = true) :
    Does (.rotaForce tile val) s fun t =>
      t.get Reg.TIL_ROTA_INTERVAL tile = val % 65536 ∧ t.get Reg.TIL_ROTA_DRIFT tile = val / 2 ^ 20 % 16 ∧
      (tile < s.til.t.length → (t.tile tile).rotaDue = (s.tile tile).rotaDue + 1) ∧
      Only [Reg.TIL_ROTA_INTERVAL, Reg.TIL_ROTA_DRIFT] s t { s with regs := t.regs, til := { s.til with t := t.til.t } } := by
  refine .of_bar rfl (by simp [bit, ht, hval]) hr ⟨s.tilRota_interval .., s.tilRota_drift .., fun hlt => ?_, s.tilRota_only ..⟩
  rw [s.tilRota_tile _ _ hlt, Tile.rotaWritten_rotaDue, bit, hval]
  rfl

theorem rotaIntervalWrite_of_not_force (ht : tile < 4) (hval : val.testBit 16 = false)
    (hr : s.responds (0x60014 + 0x1000 * tile) = true) :
    Does (.rotaIntervalWrite tile val) s fun t =>
      t.get Reg.TIL_ROTA_INTERVAL tile = val % 65536 ∧ t.get Reg.TIL_ROTA_DRIFT tile = val / 2 ^ 20 % 16 ∧
      (t.tile tile).rotaDue = (s.tile tile).rotaDue ∧
      (tile < s.til.t.length → val % 65536 = 0 → s.get Reg.TIL_ROTA_INTERVAL tile ≠ 0 → (t.tile tile).rotaNext = none) ∧
      Only [Reg.TIL_ROTA_INTERVAL, Reg.TIL_ROTA_DRIFT] s t { s with regs := t.regs, til := { s.til with t := t.til.t } } := by
  refine .of_bar rfl (by simp [bit, ht, hval]) hr ⟨s.tilRota_interval .., s.tilRota_drift .., ?_, fun hlt h0 hold => ?_, s.tilRota_only ..⟩
  · rcases Nat.lt_or_ge tile s.til.t.length with hlt | hge
    · rw [s.tilRota_tile _ _ hlt, Tile.rotaWritten_rotaDue, bit, hval]
      rfl
    · rw [State.tilRota_eq]
      exact congrArg (·.tile tile |>.rotaDue) (State.setTile_of_ge ((s.put _ _ _).put _ _ _) _ _ hge)
  · have hnew : bits val 0 16 = 0 := by simpa [bits] using h0
    rw [s.tilRota_tile _ _ hlt, hnew, Tile.rotaWritten_rotaNext _ _ _ _ hold]

end

/-! ### A flame's own calibration (R59, R69 to R71) -/

section
variable {s : State} {tile sconce flame : Nat}

/-- A flame that owes a calibration leaves its position to R, which stands by (R69). -/
theorem Sconce.goOffline_of_standby {x : Sconce} (hf : flame < 4) (hrun : (x.flame flame).run = none)
    (hst : (x.flame flame).st = .active) (hhome : x.rHome = none) (hr : (x.flame 4).st = .standby) (e : Nat) :
    x.goOffline flame e true = some ((x.startCal flame e).rCover flame) := by
  have hne : flame ≠ 4 := hf.ne
  simp [Sconce.goOffline, hrun, hst, hhome, hr, hne, Sconce.home]

theorem flameOffline_of_owed (ht : tile < 4) (hc : sconce < 4096) (hf : flame < 4) (howed : ((s.sconce tile sconce).flame flame).owed = true)
    (hrun : ((s.sconce tile sconce).flame flame).run = none) (hst : ((s.sconce tile sconce).flame flame).st = .active)
    (hhome : (s.sconce tile sconce).rHome = none) (hr : ((s.sconce tile sconce).flame 4).st = .standby) :
    Does (.flameOffline tile sconce flame) s fun t =>
      t = s.setSconce tile sconce (((s.sconce tile sconce).startCal flame s.dtRef).rCover flame) := by
  refine .of_onSconce ht hc rfl ?_
  simp only [howed, if_true, Sconce.goOffline_of_standby hf hrun hst hhome hr]

theorem flameCalibrationEnd_of_pass {n1 n2 e : Nat} (ht : tile < 4) (hc : sconce < 4096) (hf : flame < 4)
    (hcal : ((s.sconce tile sconce).flame flame).cal = some e) (hlo : n1 + 3200 ≤ n2) (hhi : n2 ≤ n1 + 5120) (ho : n2 ≤ 2 * n1)
    (ho' : 2 * n1 ≤ n2 + 768) (hdrift : s.get Reg.TIL_ROTA_DRIFT tile = 0) :
    Does (.flameCalibrationEnd tile sconce flame n1 n2) s fun t =>
      t = (s.advanceTo (e + 96)).setSconce tile sconce ((s.sconce tile sconce).setFlame flame
        { (s.sconce tile sconce).flame flame with coef := some (n2 - n1, 2 * n1 - n2), fails := 0, cal := none, passed := true }) := by
  have hdrift' : (s.advanceTo (e + 96)).get Reg.TIL_ROTA_DRIFT tile = 0 := (State.get_advanceTo _ _ _ _ _ (by decide)).trans hdrift
  have hne : ¬(flame = 4 ∧ (s.sconce tile sconce).rHome.isNone = true) := fun h => absurd h.1 hf.ne
  refine .of_onSconce ht hc rfl ?_
  simp only [hcal, hdrift', calPasses_of_limits hlo hhi ho ho', State.sconce_advanceTo, if_neg hne]

theorem flameCalibrationEnd_of_short {n1 n2 e : Nat} (ht : tile < 4) (hc : sconce < 4096)
    (hcal : ((s.sconce tile sconce).flame flame).cal = some e) (hshort : n2 < n1 + 3200)
    (hfails : ((s.sconce tile sconce).flame flame).fails = 0) :
    Does (.flameCalibrationEnd tile sconce flame n1 n2) s fun t =>
      t = (s.advanceTo (e + 96)).setSconce tile sconce ((s.sconce tile sconce).setFlame flame
        { (s.sconce tile sconce).flame flame with fails := 1, cal := some (s.advanceTo (e + 96)).dtRef }) := by
  refine .of_onSconce ht hc rfl ?_
  simp only [hcal, calPasses_of_short _ hshort, State.sconce_advanceTo, hfails, if_true]

theorem flameReturn_of_empty (ht : tile < 4) (hc : sconce < 4096) (hf : flame < 4)
    (hpassed : ((s.sconce tile sconce).flame flame).passed = true) (hpos : (s.sconce tile sconce).pos.getD flame none = none) :
    Does (.flameReturn tile sconce flame) s fun t =>
      t = s.setSconce tile sconce (((s.sconce tile sconce).setFlame flame
        { (s.sconce tile sconce).flame flame with st := .active, passed := false }).setPos flame (some flame)) := by
  have hhome : (s.sconce tile sconce).home flame = some flame := if_neg hf.ne
  refine .of_onSconce ht hc rfl ?_
  simp only [hpassed, hhome, hpos]

end

/-! ### The first calibration (R75) -/

theorem firstCalibrationStart_of_due {s : State} {tile d : Nat} (ht : tile < 4) (hdue : (s.tile tile).firstDue = some d)
    (hen : s.flag Reg.TIL_CTRL_EN tile = true) :
    Does (.firstCalibrationStart tile) s fun t => let u := s.advanceTo d
      t = (u.setTile tile { s.tile tile with firstDue := none, firstCal := some u.dtRef }).put Reg.TIL_STATUS_CAL_VALID 0 tile := by
  refine .of_need rfl (decide_eq_true ht) ?_
  simp only [hdue, hen, if_true, State.tile_advanceTo]

section
variable (s : State) (tile c f : Nat) (k : Nat × Nat)

/-- Where no flame has failed for good there is none to retest (R515). -/
theorem State.retestFlames_of_none (back : List (Nat × Nat)) (h : s.unitsOut 1 = []) : s.retestFlames tile back = s := by
  simp [State.retestFlames, h]

/-- What the first calibration leaves before exceptions count: every sconce of the tile starts anew, and the tile holds `k` (R75). -/
def State.firstCalDone (s : State) (tile : Nat) (k : Nat × Nat) : State :=
  let u := { s with til := { s.til with sc := s.til.sc.map fun (y : Nat × Sconce) => if y.1 / 4096 = tile then (y.1, y.2.afterFirst) else y } }
  u.setTile tile { u.tile tile with
    firstCal := none, coef := k, rotaDue := 0, rotaLast := u.dtRef
    rotaNext := if u.get Reg.TIL_ROTA_INTERVAL tile = 0 then none else some (u.dtRef + u.get Reg.TIL_ROTA_INTERVAL tile * 1024) }

/-- A map whose values change under some keys reads a changed value there, or its default as before. -/
theorem SMap.get_map_value {β : Type} (d : β) (g : β → β) (p : Nat → Prop) [DecidablePred p] (m : List (Nat × β)) {n : Nat} (hn : p n) :
    SMap.get d (m.map fun y => if p y.1 then (y.1, g y.2) else y) n = g (SMap.get d m n) ∨
      SMap.get d (m.map fun y => if p y.1 then (y.1, g y.2) else y) n = d := by
  induction m with
  | nil => exact .inr rfl
  | cons y m ih =>
    obtain ⟨a, v⟩ := y
    by_cases ha : n = a
    · subst ha
      simp [SMap.get_cons, hn]
    · have hkey : (if p a then (a, g v) else (a, v)).1 = a := by split <;> rfl
      simpa [SMap.get_cons, ha, hkey, SMap.get] using ih

/-- A sconce of the tile has started anew, or was never touched. -/
theorem State.sconce_firstCalDone (hc : c < 4096) :
    (s.firstCalDone tile k).sconce tile c = (s.sconce tile c).afterFirst ∨ (s.firstCalDone tile k).sconce tile c = {} :=
  SMap.get_map_value ({} : Sconce) Sconce.afterFirst (fun n => n / 4096 = tile) s.til.sc (n := tile * 4096 + c) (by omega)

theorem Sconce.flame_afterFirst (x : Sconce) : (x.afterFirst.flame f).coef = none ∧ ((x.flame f).st ≠ .failed → (x.afterFirst.flame f).st ≠ .failed) := by
  rcases Nat.lt_or_ge f x.fl.length with hf | hf
  · simp only [Sconce.flame, Sconce.afterFirst, List.getD_eq_getElem?_getD, List.getElem?_mapIdx, List.getElem?_eq_getElem hf, Option.map_some,
      Option.getD_some, true_and]
    intro h
    rw [if_neg (by simpa using h)]
    split <;> simp
  · simp [Sconce.flame, Sconce.afterFirst, hf]

theorem Sconce.flame_default : (({} : Sconce).flame f).coef = none ∧ (({} : Sconce).flame f).st ≠ .failed :=
  match f with
  | 0 | 1 | 2 | 3 | 4 => by decide
  | _ + 5 => ⟨rfl, by simp [Sconce.flame]⟩

/-- After the first calibration a flame uses the tile's coefficients, and none has failed by it. -/
theorem State.flame_firstCalDone (hc : c < 4096) (h : ((s.sconce tile c).flame f).st ≠ .failed) :
    (((s.firstCalDone tile k).sconce tile c).flame f).coef = none ∧ (((s.firstCalDone tile k).sconce tile c).flame f).st ≠ .failed := by
  rcases s.sconce_firstCalDone tile c k hc with e | e
  · rw [e]
    exact ⟨(Sconce.flame_afterFirst f _).1, (Sconce.flame_afterFirst f _).2 h⟩
  · rw [e]
    exact Sconce.flame_default f

end

section
variable {s : State} {tile c f n1 n2 m1 m2 e : Nat}

/-- A first calibration under way is that of a tile of the list. -/
theorem State.lt_of_firstCal (h : (s.tile tile).firstCal = some e) : tile < s.til.t.length := by
  by_contra hge
  have hd : s.tile tile = {} := by simp [State.tile, List.getElem?_eq_none (Nat.le_of_not_lt hge)]
  rw [hd] at h
  exact absurd h (by simp)

theorem execFirstCalibrationEnd_of_none (hcal : (s.tile tile).firstCal = some e) (hlo : n1 + 3200 ≤ n2) (hhi : n2 ≤ n1 + 5120)
    (ho : n2 ≤ 2 * n1) (ho' : 2 * n1 ≤ n2 + 768) (hunits : s.unitsOut 1 = []) (hdrift : s.get Reg.TIL_ROTA_DRIFT tile = 0)
    (hown : s.ownCoefs tile = []) :
    exec (.firstCalibrationEnd tile n1 n2 [] []) s = need (decide (tile < 4))
      (((s.advanceTo (e + 96)).firstCalDone tile (n2 - n1, 2 * n1 - n2)).regate tile (·.put Reg.TIL_STATUS_CAL_VALID 1 tile)) := by
  have hunits' : (s.advanceTo (e + 96)).unitsOut 1 = [] := by rwa [State.unitsOut, State.advanceTo_store]
  show execFirstCalibrationEnd tile n1 n2 [] [] s = _
  simp [execFirstCalibrationEnd, hcal, hdrift, calPasses_of_limits hlo hhi ho ho', hown, State.retestFlames_of_none _ _ _ hunits', State.firstCalDone]

/-- The coefficients of a flame that calibrated again, where it is there and has not failed (R70). -/
def State.storeCoef (s : State) (tile c f : Nat) (k : Nat × Nat) : State :=
  s.cond (decide (c < 4096) && decide (f < 5) && ((s.sconce tile c).flame f).st != .failed) fun s =>
    s.setSconce tile c ((s.sconce tile c).setFlame f { (s.sconce tile c).flame f with coef := some k })

theorem execFirstCalibrationEnd_of_again (hcal : (s.tile tile).firstCal = some e) (hlo : n1 + 3200 ≤ n2) (hhi : n2 ≤ n1 + 5120)
    (ho : n2 ≤ 2 * n1) (ho' : 2 * n1 ≤ n2 + 768) (hshort : m2 < m1 + 3200) (hunits : s.unitsOut 1 = [])
    (hdrift : s.get Reg.TIL_ROTA_DRIFT tile = 0) (hown : s.ownCoefs tile = []) (hst : ((s.sconce tile c).flame f).st ≠ .failed) :
    exec (.firstCalibrationEnd tile n1 n2 [(c, f, (m1, m2), (n1, n2))] []) s = need (decide (tile < 4))
      ((((s.advanceTo (e + 192)).firstCalDone tile (n2 - n1, 2 * n1 - n2)).storeCoef tile c f (n2 - n1, 2 * n1 - n2)).regate tile
        (·.put Reg.TIL_STATUS_CAL_VALID 1 tile)) := by
  have hunits' : (s.advanceTo (e + 192)).unitsOut 1 = [] := by rwa [State.unitsOut, State.advanceTo_store]
  show execFirstCalibrationEnd tile n1 n2 [(c, f, (m1, m2), (n1, n2))] [] s = _
  simp [execFirstCalibrationEnd, hcal, hdrift, calPasses_of_limits hlo hhi ho ho', calPasses_of_short _ hshort, hown, hst,
    State.retestFlames_of_none _ _ _ hunits', State.firstCalDone, State.storeCoef, State.each]

end

section
variable (s : State) (tile c f v : Nat) (k : Nat × Nat) (g : Fld)

theorem State.dtRef_regate_put : (s.regate tile (·.put g v tile)).dtRef = s.dtRef := by
  obtain ⟨_, _, e⟩ := s.regate_eq tile (·.put g v tile)
  rw [e]
  rfl

theorem State.sconce_regate_put : (s.regate tile (·.put g v tile)).sconce tile c = s.sconce tile c := by
  obtain ⟨_, _, e⟩ := s.regate_eq tile (·.put g v tile)
  rw [e]
  rfl

theorem State.tile_regate_put (h : tile < s.til.t.length) :
    ∃ till from_, (s.regate tile (·.put g v tile)).tile tile = { s.tile tile with openTill := till, openFrom := from_ } := by
  obtain ⟨till, from_, e⟩ := s.regate_eq tile (·.put g v tile)
  refine ⟨till, from_, ?_⟩
  rw [e]
  exact (s.put g v tile).tile_setTile_self tile _ h

theorem State.tile_firstCalDone (h : tile < s.til.t.length) :
    ((s.firstCalDone tile k).tile tile).coef = k ∧ ((s.firstCalDone tile k).tile tile).firstCal = none ∧
      ((s.firstCalDone tile k).tile tile).rotaDue = 0 := by
  have e := State.tile_setTile_self { s with til := { s.til with sc := s.til.sc.map fun (y : Nat × Sconce) =>
    if y.1 / 4096 = tile then (y.1, y.2.afterFirst) else y } } tile
  refine ⟨?_, ?_, ?_⟩ <;> (rw [State.firstCalDone, e _ h])

theorem State.length_firstCalDone : (s.firstCalDone tile k).til.t.length = s.til.t.length := List.length_set

/-- The end of a first calibration without exceptions is in the registers, the tiles and the sconces. -/
theorem State.regate_firstCalDone_eq : ∃ r l m, (s.firstCalDone tile k).regate tile (·.put g v tile) =
    { s with regs := r, til := { s.til with t := l, sc := m } } := by
  obtain ⟨_, _, e⟩ := (s.firstCalDone tile k).regate_eq tile (·.put g v tile)
  exact ⟨_, _, _, e⟩

end

section
variable (s : State) (tile c f : Nat) (k : Nat × Nat)

theorem State.storeCoef_eq_or : s.storeCoef tile c f k = s ∨ s.storeCoef tile c f k =
    s.setSconce tile c ((s.sconce tile c).setFlame f { (s.sconce tile c).flame f with coef := some k }) := by
  unfold State.storeCoef State.cond
  split
  · exact .inr rfl
  · exact .inl rfl

@[simp] theorem State.tile_storeCoef (t : Nat) : (s.storeCoef tile c f k).tile t = s.tile t := by
  rcases s.storeCoef_eq_or tile c f k with e | e <;> rw [e]
  rfl

@[simp] theorem State.dtRef_storeCoef : (s.storeCoef tile c f k).dtRef = s.dtRef := by
  rcases s.storeCoef_eq_or tile c f k with e | e <;> rw [e]
  rfl

theorem State.length_storeCoef : (s.storeCoef tile c f k).til.t.length = s.til.t.length := by
  rcases s.storeCoef_eq_or tile c f k with e | e <;> rw [e]
  rfl

/-- A flame written is as written, or no flame of the sconce and as before. -/
theorem Sconce.flame_setFlame (x : Sconce) (y : Flame) : (x.setFlame f y).flame f = y ∨ (x.setFlame f y).flame f = x.flame f := by
  rcases Nat.lt_or_ge f x.fl.length with hf | hf
  · exact .inl (by simp [Sconce.flame, Sconce.setFlame, hf])
  · exact .inr (by simp [Sconce.flame, Sconce.setFlame, List.set_eq_of_length_le hf])

/-- The flame holds the coefficients, or what it held, and its state is as before. -/
theorem State.flame_storeCoef : ((((s.storeCoef tile c f k).sconce tile c).flame f).coef = some k ∨
      (((s.storeCoef tile c f k).sconce tile c).flame f).coef = ((s.sconce tile c).flame f).coef) ∧
    (((s.storeCoef tile c f k).sconce tile c).flame f).st = ((s.sconce tile c).flame f).st := by
  rcases s.storeCoef_eq_or tile c f k with e | e
  · rw [e]
    exact ⟨.inr rfl, rfl⟩
  · rw [e, State.sconce_setSconce_self]
    rcases Sconce.flame_setFlame f (s.sconce tile c) { (s.sconce tile c).flame f with coef := some k } with e' | e' <;> rw [e']
    · exact ⟨.inl rfl, rfl⟩
    · exact ⟨.inr rfl, rfl⟩

end

section
variable {s : State} {tile n1 n2 e : Nat}

theorem firstCalibrationEnd_of_none (ht : tile < 4) (hcal : (s.tile tile).firstCal = some e) (hlo : n1 + 3200 ≤ n2) (hhi : n2 ≤ n1 + 5120)
    (ho : n2 ≤ 2 * n1) (ho' : 2 * n1 ≤ n2 + 768) (hunits : s.unitsOut 1 = []) (hdrift : s.get Reg.TIL_ROTA_DRIFT tile = 0)
    (hown : s.ownCoefs tile = []) :
    Does (.firstCalibrationEnd tile n1 n2 [] []) s fun t => t.get Reg.TIL_STATUS_CAL_VALID tile = 1 ∧
      t.dtRef = max s.dtRef (e + 96) % 2 ^ 64 ∧
      (tile < s.til.t.length → (t.tile tile).coef = (n2 - n1, 2 * n1 - n2) ∧ (t.tile tile).firstCal = none ∧ (t.tile tile).rotaDue = 0) ∧
      Only (Reg.TIL_STATUS_CAL_VALID :: timeFields) s t
        { s with regs := t.regs, dtRef := t.dtRef, til := { s.til with t := t.til.t, sc := t.til.sc } } := by
  refine .of_need (execFirstCalibrationEnd_of_none hcal hlo hhi ho ho' hunits hdrift hown) (decide_eq_true ht) ?_
  have honly : OnlyFields timeFields s (s.advanceTo (e + 96)) := .advanceTo _ (fun _ hf => hf) (.refl _ s)
  obtain ⟨r, hadv⟩ := s.advanceTo_regs_dtRef (e + 96)
  rw [hadv] at honly ⊢
  generalize hu : ({ s with regs := r, dtRef := max s.dtRef (e + 96) % 2 ^ 64 } : State) = u at honly ⊢
  have hlen : u.til.t.length = s.til.t.length := by rw [← hu]
  refine ⟨?_, ?_, fun hlt => ?_, ?_, ?_⟩
  · rw [State.get_regate_put, State.get_put_self]
    rfl
  · rw [State.dtRef_regate_put]
    subst hu
    rfl
  · rw [← hlen] at hlt
    obtain ⟨_, _, e'⟩ := (u.firstCalDone tile (n2 - n1, 2 * n1 - n2)).tile_regate_put tile 1 Reg.TIL_STATUS_CAL_VALID
      ((u.length_firstCalDone tile _).symm ▸ hlt)
    rw [e']
    exact u.tile_firstCalDone tile _ hlt
  · obtain ⟨_, _, _, e'⟩ := u.regate_firstCalDone_eq tile 1 (n2 - n1, 2 * n1 - n2) Reg.TIL_STATUS_CAL_VALID
    rw [e']
    subst hu
    rfl
  · refine OnlyFields.regate_put _ _ _ _ _ (.head _) ?_
    exact (honly.mono fun _ hf => .tail _ hf).trans (.of_regs rfl)

theorem firstCalibrationEnd_of_again {c f m1 m2 : Nat} (ht : tile < 4) (hc : c < 4096) (hcal : (s.tile tile).firstCal = some e)
    (hlo : n1 + 3200 ≤ n2) (hhi : n2 ≤ n1 + 5120) (ho : n2 ≤ 2 * n1) (ho' : 2 * n1 ≤ n2 + 768) (hshort : m2 < m1 + 3200)
    (hunits : s.unitsOut 1 = []) (hdrift : s.get Reg.TIL_ROTA_DRIFT tile = 0) (hown : s.ownCoefs tile = [])
    (hst : ((s.sconce tile c).flame f).st ≠ .failed) :
    Does (.firstCalibrationEnd tile n1 n2 [(c, f, (m1, m2), (n1, n2))] []) s fun t => t.get Reg.TIL_STATUS_CAL_VALID tile = 1 ∧
      t.dtRef = max s.dtRef (e + 192) % 2 ^ 64 ∧ (tile < s.til.t.length → (t.tile tile).firstCal = none) ∧
      t.coefOf tile c f = (n2 - n1, 2 * n1 - n2) ∧ ((t.sconce tile c).flame f).st ≠ .failed := by
  refine .of_need (execFirstCalibrationEnd_of_again hcal hlo hhi ho ho' hshort hunits hdrift hown hst) (decide_eq_true ht) ?_
  have hlt : tile < (s.advanceTo (e + 192)).til.t.length := by
    rw [State.advanceTo_til]
    exact State.lt_of_firstCal hcal
  have hst' : (((s.advanceTo (e + 192)).sconce tile c).flame f).st ≠ .failed := by rwa [State.sconce_advanceTo]
  rw [← s.advanceTo_dtRef (e + 192)]
  generalize s.advanceTo (e + 192) = u at hlt hst' ⊢
  generalize (n2 - n1, 2 * n1 - n2) = k
  obtain ⟨hcoef, hlive⟩ := u.flame_firstCalDone tile c f k hc hst'
  obtain ⟨hk, hnone, -⟩ := u.tile_firstCalDone tile k hlt
  obtain ⟨hcoef', hst''⟩ := (u.firstCalDone tile k).flame_storeCoef tile c f k
  rw [← u.length_firstCalDone tile k, ← State.length_storeCoef _ tile c f k] at hlt
  obtain ⟨_, _, etile⟩ := State.tile_regate_put _ tile 1 Reg.TIL_STATUS_CAL_VALID hlt
  refine ⟨?_, ?_, fun _ => ?_, ?_, ?_⟩
  · rw [State.get_regate_put, State.get_put_self]
    rfl
  · rw [State.dtRef_regate_put, State.dtRef_storeCoef]
    rfl
  · rw [etile, State.tile_storeCoef, ← hnone]
  · rw [State.coefOf, State.sconce_regate_put, etile, State.tile_storeCoef]
    rcases hcoef' with h | h
    · rw [h]
      rfl
    · rw [h, hcoef]
      exact hk
  · rw [State.sconce_regate_put, hst'']
    exact hlive

end

/-- Settles O8: a rota that steps by its due edges, a flame's calibration from its leave of the position to its return, and a first
calibration with and without a flame that calibrates again. -/
theorem calibrationRota : Obligations.CalibrationRota :=
  ⟨fun _ _ _ => rotaStepDue_of_next,
    fun _ _ _ => rotaForce_of_force,
    fun _ _ _ => rotaIntervalWrite_of_not_force,
    fun _ _ _ _ => flameOffline_of_owed,
    fun _ _ _ _ _ _ _ => flameCalibrationEnd_of_pass,
    fun _ _ _ _ _ _ _ => flameCalibrationEnd_of_short,
    fun _ _ _ _ => flameReturn_of_empty,
    fun _ _ _ => firstCalibrationStart_of_due,
    fun _ _ _ _ _ => firstCalibrationEnd_of_none,
    fun _ _ _ _ _ _ _ _ _ ht hc _ => firstCalibrationEnd_of_again ht hc⟩

end Sys2Proof.Machine
end

/-! ## What the operations of chapter 3 read and leave -/

section
namespace Sys2Proof.Machine

/-! ### Buses and bundles after a write -/

section
variable (s : State) (t b : Nat)

@[simp] theorem State.get_setCols (x : Cols) (f : Fld) (i j : Nat) : (s.setCols t x).get f i j = s.get f i j := rfl
@[simp] theorem State.get_setBus (y : ColBus) (f : Fld) (i j : Nat) : (s.setBus t b y).get f i j = s.get f i j := rfl
@[simp] theorem State.get_setBnd (x : Bundle) (f : Fld) (i j : Nat) : (s.setBnd t x).get f i j = s.get f i j := rfl
@[simp] theorem State.flag_setBus (y : ColBus) (f : Fld) (i j : Nat) : (s.setBus t b y).flag f i j = s.flag f i j := rfl
@[simp] theorem State.cols_put (f : Fld) (v i j n : Nat) : (s.put f v i j).cols n = s.cols n := rfl
@[simp] theorem State.bus_put (f : Fld) (v i j n m : Nat) : (s.put f v i j).bus n m = s.bus n m := rfl
@[simp] theorem State.cols_setBnd (x : Bundle) (n : Nat) : (s.setBnd t x).cols n = s.cols n := rfl
@[simp] theorem State.bus_setBnd (x : Bundle) (n m : Nat) : (s.setBnd t x).bus n m = s.bus n m := rfl
@[simp] theorem State.bnd_setCols (x : Cols) (n : Nat) : (s.setCols t x).bnd n = s.bnd n := rfl
@[simp] theorem State.cols_setSconce (c n : Nat) (x : Sconce) : (s.setSconce t c x).cols n = s.cols n := rfl

theorem State.cols_setCols_self (x : Cols) (h : t < s.xp.cols.length) : (s.setCols t x).cols t = x := by
  simp [State.cols, State.setCols, h]

/-- A tile that is not one of the list takes no write of its columns. -/
theorem State.setCols_of_ge (x : Cols) (h : s.xp.cols.length ≤ t) : s.setCols t x = s := by
  simp [State.setCols, List.set_eq_of_length_le h]

theorem State.cols_of_ge (h : s.xp.cols.length ≤ t) : s.cols t = {} := by
  simp [State.cols, h]

theorem State.cols_setCols_of_ne (x : Cols) {n : Nat} (h : n ≠ t) : (s.setCols t x).cols n = s.cols n := by
  simp [State.cols, State.setCols, List.getElem?_set_ne h.symm]

theorem State.bnd_setBnd_self (x : Bundle) (h : t < s.xp.bnd.length) : (s.setBnd t x).bnd t = x := by
  simp [State.bnd, State.setBnd, h]

@[simp] theorem Cols.get_put_self (x : Cols) (y : ColBus) : (x.put b y).get b = y := by
  simp [Cols.get, Cols.put, NMap.get, NMap.set]

theorem Cols.get_put_of_ne (x : Cols) (y : ColBus) {n : Nat} (h : n ≠ b) : (x.put b y).get n = x.get n :=
  SMap.get_set_of_ne _ _ _ _ h

theorem State.bus_setBus_self (y : ColBus) (h : t < s.xp.cols.length) : (s.setBus t b y).bus t b = y := by
  rw [State.bus, State.setBus, State.cols_setCols_self _ _ _ h, Cols.get_put_self]

theorem State.bus_setBus_of_ne (y : ColBus) {n : Nat} (h : n ≠ b) : (s.setBus t b y).bus t n = s.bus t n := by
  rcases Nat.lt_or_ge t s.xp.cols.length with ht | ht
  · rw [State.bus, State.setBus, State.cols_setCols_self _ _ _ ht, Cols.get_put_of_ne _ _ _ h]
    rfl
  · rw [State.setBus, State.setCols_of_ge _ _ _ ht]

/-- A write of one bus leaves what its tile holds beside the buses. -/
theorem State.cols_setBus (y : ColBus) (n : Nat) : ∃ l, (s.setBus t b y).cols n = { s.cols n with bus := l } := by
  rcases Nat.lt_or_ge t s.xp.cols.length with ht | ht
  · by_cases hn : n = t
    · subst hn
      exact ⟨_, s.cols_setCols_self n _ ht⟩
    · exact ⟨_, s.cols_setCols_of_ne t _ hn⟩
  · exact ⟨_, by rw [State.setBus, State.setCols_of_ge _ _ _ ht]⟩

@[simp] theorem State.switching_setBus (y : ColBus) (n : Nat) : ((s.setBus t b y).cols n).switching = (s.cols n).switching := by
  obtain ⟨_, e⟩ := s.cols_setBus t b y n
  rw [e]

@[simp] theorem State.spareGone_setBus (y : ColBus) (n sp : Nat) : (s.setBus t b y).spareGone n sp = s.spareGone n sp := by
  obtain ⟨_, e⟩ := s.cols_setBus t b y n
  simp only [State.spareGone, e]
  rfl

@[simp] theorem State.spareGone_setReqs (l : List (Nat × Nat)) (n sp : Nat) :
    (s.setCols t { s.cols t with reqs := l }).spareGone n sp = s.spareGone n sp := by
  have hdead : ((s.setCols t { s.cols t with reqs := l }).cols n).spareDead = (s.cols n).spareDead := by
    rcases Nat.lt_or_ge t s.xp.cols.length with ht | ht
    · by_cases hn : n = t
      · subst hn
        rw [s.cols_setCols_self n _ ht]
      · rw [s.cols_setCols_of_ne t _ hn]
    · rw [s.setCols_of_ge t _ ht]
  rw [State.spareGone, hdead]
  rfl

/-- A tile with a pending request is one of the list. -/
theorem State.lt_of_reqs {s : State} {t : Nat} {r : Nat × Nat} {l : List (Nat × Nat)} (h : (s.cols t).reqs = r :: l) : t < s.xp.cols.length := by
  by_contra hge
  rw [s.cols_of_ge t (Nat.le_of_not_lt hge)] at h
  cases h

/-- A bundle whose tile wait runs is one of the list. -/
theorem State.lt_of_waitFrom {s : State} {t d : Nat} (h : (s.bnd t).waitFrom = some d) : t < s.xp.bnd.length := by
  by_contra hge
  simp [State.bnd, Nat.le_of_not_lt hge] at h

@[simp] theorem State.advanceTo_xp (d : Nat) : (s.advanceTo d).xp = s.xp := by rw [State.advanceTo_eq]
@[simp] theorem State.advanceTo_evt (d : Nat) : (s.advanceTo d).evt = s.evt := by rw [State.advanceTo_eq]
@[simp] theorem State.advanceTo_flt (d : Nat) : (s.advanceTo d).flt = s.flt := by rw [State.advanceTo_eq]
@[simp] theorem State.cols_advanceTo (d n : Nat) : (s.advanceTo d).cols n = s.cols n := by simp [State.cols]
@[simp] theorem State.bnd_advanceTo (d n : Nat) : (s.advanceTo d).bnd n = s.bnd n := by simp [State.bnd]

end

/-! ### Transport counters (R113) -/

section
variable (s : State) (f : Fld) (t j n : Nat)

theorem State.xcount_eq : s.xcount f t j n = { s with regs := (s.xcount f t j n).regs } := s.bump_eq ..

@[simp] theorem State.xcount_xp : (s.xcount f t j n).xp = s.xp := by rw [State.xcount_eq]
@[simp] theorem State.cols_xcount (i : Nat) : (s.xcount f t j n).cols i = s.cols i := by simp [State.cols]
@[simp] theorem State.bus_xcount (i b : Nat) : (s.xcount f t j n).bus i b = s.bus i b := by simp [State.bus]
@[simp] theorem State.sconce_xcount (i c : Nat) : (s.xcount f t j n).sconce i c = s.sconce i c := s.sconce_bump ..

theorem State.xcount_only : OnlyFields [f, Reg.TIL_XINT_CNT_SAT] s (s.xcount f t j n) :=
  .bump _ _ _ _ _ _ (by simp) (by simp) (.refl _ s)

theorem State.poisoned_eq : s.poisoned t n = { s with regs := (s.poisoned t n).regs } := by
  unfold State.poisoned State.cond
  split
  · dsimp only
    rw [State.xcount_eq]
    rfl
  · rfl

theorem State.poisoned_only : OnlyFields [Reg.TIL_XPOISON_COUNT, Reg.TIL_XINT_POISON, Reg.TIL_XINT_CNT_SAT] s (s.poisoned t n) :=
  .cond (.refl _ s) fun h => .put _ _ _ _ (by decide) (.bump _ _ _ _ _ _ (by decide) (by decide) h)

theorem State.poisoned_zero : s.poisoned t 0 = s := rfl

theorem State.get_poisoned (h : 0 < n) : (s.poisoned t n).get Reg.TIL_XINT_POISON t = 1 := by
  rw [State.poisoned, decide_eq_true h, State.cond_true, State.get_put_self]
  rfl

end

/-! ### Faults below severity 4 (R500, R502) -/

/-- The fields that show the handler. -/
def faultStatusFields : List Fld :=
  [Reg.GEN_FAULT_STATUS_CODE, Reg.GEN_FAULT_STATUS_SEV, Reg.GEN_FAULT_STATUS_QLEVEL, Reg.GEN_FAULT_STATUS_NEST]

/-- What a fault that is not fatal can change. -/
def faultFields : List Fld := faultStatusFields ++ [Reg.GEN_FAULT_BUSY_COUNT, Reg.GEN_INT_CNT_SAT, Reg.GEN_INT_BUSY]

section
variable (s : State) (code src : Nat)

theorem State.syncFault_only : OnlyFields faultStatusFields s s.syncFault :=
  .put _ _ _ _ (by decide) (.put _ _ _ _ (by decide) (.put _ _ _ _ (by decide) (.put _ _ _ _ (by decide) (.refl _ s))))

/-- The record of a fault found now. -/
def State.faultRec (s : State) (code src : Nat) : FaultRec := { dt := s.dtRef, code := code, sev := severity code, src := src }

/-- FAULT_N goes low at severity 3. -/
def State.lowers (s : State) (code : Nat) : State :=
  { s with sys := { s.sys with faultLow := s.sys.faultLow || decide (3 ≤ severity code) } }

/-- A fault found with the handler idle is under way at once. -/
theorem State.fault_of_idle (hsev : severity code ≠ 4) (h : s.flt.under = none) :
    s.fault code src = ({ s.lowers code with flt := { s.flt with under := some (s.faultRec code src) } } : State).syncFault := by
  simp only [State.fault, if_neg hsev, h]
  rfl

/-- A fault that is not fatal changes the handler, FAULT_N and register fields alone. -/
theorem State.fault_eq (hsev : severity code ≠ 4) : ∃ r x, s.fault code src = { s.lowers code with regs := r, flt := x } := by
  unfold State.fault
  extract_lets sev r _ u
  rw [if_neg hsev]
  split
  · exact ⟨_, _, rfl⟩
  · split
    · exact ⟨_, _, rfl⟩
    · split
      · exact ⟨_, _, rfl⟩
      · split
        · exact ⟨_, _, rfl⟩
        · rw [State.bump_eq]
          exact ⟨_, _, rfl⟩

theorem State.fault_only (hsev : severity code ≠ 4) : OnlyFields faultFields s (s.fault code src) := by
  have hsync (u : State) (h : u.regs = s.regs) : OnlyFields faultFields s u.syncFault :=
    (OnlyFields.of_regs h).trans (u.syncFault_only.mono fun _ hf => List.mem_append_left _ hf)
  unfold State.fault
  extract_lets sev r _ u
  rw [if_neg hsev]
  split
  · exact hsync _ rfl
  · refine .ite (hsync _ rfl) (.ite (.of_regs rfl) (.ite (hsync _ rfl) ?_))
    exact .put _ _ _ _ (by decide) (.bump _ _ _ _ _ _ (by decide) (by decide) (.of_regs rfl))

end

/-! ### Units out of service and spares (R512, R515) -/

section
variable (s : State) (kind unit left : Nat)

theorem State.unitOut_eq : ∃ r a, s.unitOut kind unit = ({ s with regs := r, aud := a } : State).recordUnit kind unit :=
  ⟨_, _, congrArg (·.recordUnit kind unit) (s.audit_eq 0x11 0 (poolTarget kind unit) 0 0 0)⟩

theorem State.unitOut_only : OnlyFields auditFields s (s.unitOut kind unit) :=
  (OnlyFields.audit _ _ _ _ _ _ (by decide) (by decide) (by decide) (.refl _ s)).trans (.of_regs rfl)

@[simp] theorem State.recorded_recordUnit : (s.recordUnit kind unit).recorded kind unit = true := by
  simp [State.recorded, State.recordUnit]

/-- What bringing in a spare can change. -/
def spareFields : List Fld := [Reg.GEN_SPARE_INFO_USED, Reg.GEN_SVC_INT_SPARE_LOW] ++ auditFields

theorem State.spareCheck_eq : ∃ r a, s.spareCheck kind left = { s with regs := r, aud := a } := by
  unfold State.spareCheck
  split
  · rw [State.audit_eq]
    exact ⟨_, _, rfl⟩
  · exact ⟨_, _, rfl⟩

theorem State.spareCheck_only : OnlyFields spareFields s (s.spareCheck kind left) :=
  .ite (.audit _ _ _ _ _ _ (by decide) (by decide) (by decide) (.put _ _ _ _ (by decide) (.refl _ s))) (.refl _ s)

theorem State.bringSpare_eq :
    ∃ r a l, s.bringSpare kind unit left = { s with regs := r, aud := a, store := { s.store with spareUsed := l } } := by
  unfold State.bringSpare
  rw [State.audit_eq]
  extract_lets u n _ v
  obtain ⟨r, a, e⟩ := (v.put Reg.GEN_SPARE_INFO_USED n 0 kind).spareCheck_eq kind left
  exact ⟨r, a, _, e⟩

theorem State.bringSpare_only : OnlyFields spareFields s (s.bringSpare kind unit left) := by
  unfold State.bringSpare
  extract_lets u n _ v
  have hu : OnlyFields spareFields s u := .audit _ _ _ _ _ _ (by decide) (by decide) (by decide) (.refl _ s)
  have hv : OnlyFields spareFields s v := hu.trans (.of_regs rfl)
  exact (hv.put Reg.GEN_SPARE_INFO_USED n 0 kind (by decide)).trans (State.spareCheck_only _ kind left)

end

end Sys2Proof.Machine
end

/-! ## Receiver ports and bundle faults -/

section
namespace Sys2Proof.Machine

/-! ### A bundle fault (R101) -/

/-- What a bundle fault leaves of the bundle. -/
def Bundle.faulted (b : Bundle) : Bundle :=
  { b with link := .halt, latched := [], tokens := [], due := false, test := false, owed := true, gap := true, waitFrom := none }

/-- A bundle fault up to its gap: the tile is to close, the bundle halts, and the fault shows. -/
def State.halts (s : State) (t : Nat) : State :=
  (((s.closeNext t).setBnd t (s.bnd t).faulted).put Reg.TIL_BND_STATUS_STATE 3 t).put Reg.TIL_XINT_BND_FAULT 1 t

section
variable (s : State) (t : Nat)

theorem State.bundleFault_eq (h : s.get Reg.TIL_BND_STATUS_STATE t ≠ 3) :
    s.bundleFault t = ((s.halts t).cond (!(s.bnd t).gap) (·.openGap t none 6 s.dtRef)).fault 7 t := by
  obtain ⟨till, e, -⟩ := s.closeNext_eq t
  unfold State.bundleFault State.halts
  rw [if_neg h, e]
  rfl

theorem State.halts_eq : ∃ till r, s.halts t =
    { s with
      regs := r, til := (s.setTile t { s.tile t with openTill := till }).til, xp := (s.setBnd t (s.bnd t).faulted).xp } := by
  obtain ⟨till, e, -⟩ := s.closeNext_eq t
  unfold State.halts
  rw [e]
  exact ⟨till, _, rfl⟩

theorem State.halts_state : (s.halts t).get Reg.TIL_BND_STATUS_STATE t = 3 := by
  rw [State.halts, State.get_put_of_id _ _ _ _ _ _ _ _ (by decide), State.get_put_self]
  rfl

theorem State.halts_int : (s.halts t).get Reg.TIL_XINT_BND_FAULT t = 1 := State.get_put_self ..

theorem State.halts_only : OnlyFields [Reg.TIL_BND_STATUS_STATE, Reg.TIL_XINT_BND_FAULT] s (s.halts t) := by
  obtain ⟨till, e, -⟩ := s.closeNext_eq t
  refine .put _ _ _ _ (by decide) (.put _ _ _ _ (by decide) ?_)
  rw [e]
  exact .of_regs rfl

theorem State.halts_tile : (s.halts t).tile t = (s.closeNext t).tile t := rfl

/-- The gate of a state at another time. -/
theorem State.gated_dtRef (n : Nat) : ({ s with dtRef := n } : State).gated t =
    (((!s.flag Reg.TIL_CTRL_EN t || s.get Reg.TIL_BND_STATUS_STATE t == 3) && decide ((s.tile t).openTill ≤ n)) ||
      !s.flag Reg.TIL_STATUS_FE_READY t || !s.flag Reg.TIL_STATUS_CAL_VALID t || s.sys.hot || (s.tile t).firstDue.isSome) := rfl

/-- Discriminators that were open and are to close do so by the next edge. -/
theorem State.openTill_closeNext (h : s.gated t = false) : ((s.closeNext t).tile t).openTill ≤ s.dtRef + 1 := by
  rw [State.closeNext, if_neg (by simp [h])]
  rcases Nat.lt_or_ge t s.til.t.length with hlt | hge
  · rw [State.tile_setTile_self _ _ _ hlt]
  · rw [State.setTile_of_ge _ _ _ hge]
    simp [State.tile, hge]

end

/-- A tile whose discriminators are to close is gated from the next edge on while its bundle is in fault (R101). -/
theorem State.gated_next {l : List Fld} {s u : State} {t : Nat} (hstate : u.get Reg.TIL_BND_STATUS_STATE t = 3)
    (htile : u.tile t = (s.closeNext t).tile t) (hdt : u.dtRef = s.dtRef) (hhot : u.sys.hot = s.sys.hot) (honly : OnlyFields l s u)
    (hfe : Reg.TIL_STATUS_FE_READY.id ∉ l.map (·.id)) (hcal : Reg.TIL_STATUS_CAL_VALID.id ∉ l.map (·.id)) :
    ({ u with dtRef := u.dtRef + 1 } : State).gated t = true := by
  rw [State.gated_dtRef, hstate, htile, hdt, hhot, State.flag, State.flag, State.flag, honly _ _ _ hfe, honly _ _ _ hcal]
  cases hg : s.gated t with
  | false => simp [s.openTill_closeNext t hg]
  | true =>
    have hkeep : s.closeNext t = s := if_pos hg
    have hlater : (s.tile t).openTill ≤ s.dtRef → (s.tile t).openTill ≤ s.dtRef + 1 := Nat.le_succ_of_le
    simp only [State.gated, State.flag, Bool.or_eq_true, Bool.and_eq_true, decide_eq_true_eq] at hg
    simp only [hkeep, beq_self_eq_true, Bool.or_true, Bool.true_and, Bool.or_eq_true, decide_eq_true_eq]
    tauto

/-- A bundle fault has taken place in tile `t`: the link halts, the tile is gated from the next edge, and fault 0x07 is found (R101). -/
structure State.BundleHalted (s u : State) (t : Nat) : Prop where
  state : u.get Reg.TIL_BND_STATUS_STATE t = 3
  int : u.get Reg.TIL_XINT_BND_FAULT t = 1
  gated : ({ u with dtRef := u.dtRef + 1 } : State).gated t = true
  bnd : t < s.xp.bnd.length → u.bnd t = (s.bnd t).faulted
  dtRef : u.dtRef = s.dtRef
  gaps : (s.bnd t).gap = false → u.evt.gaps = s.evt.gaps ++ [{ tile := t, col := none, kind := 6, start := s.dtRef - 2 ^ 21 }]
  under : s.flt.under = none → u.flt.under = some { dt := s.dtRef, code := 7, sev := 3, src := t }
  faultN : u.faultN = true
  frame : u = { s with regs := u.regs, til := { s.til with t := u.til.t }, xp := u.xp, evt := u.evt, flt := u.flt, sys := u.sys }
  only : OnlyFields ([Reg.TIL_BND_STATUS_STATE, Reg.TIL_XINT_BND_FAULT] ++ faultFields) s u
  onlyIdle : s.flt.under = none → OnlyFields ([Reg.TIL_BND_STATUS_STATE, Reg.TIL_XINT_BND_FAULT] ++ faultStatusFields) s u

theorem State.bundleFault_halted {s : State} {t : Nat} (h : s.get Reg.TIL_BND_STATUS_STATE t ≠ 3) : s.BundleHalted (s.bundleFault t) t := by
  rw [State.bundleFault_eq _ _ h]
  obtain ⟨till, r, e⟩ := s.halts_eq t
  have hstate := s.halts_state t
  have hint := s.halts_int t
  have honly := s.halts_only t
  have htile := s.halts_tile t
  generalize s.halts t = u at *
  have hgap : ∃ x : Evt, u.cond (!(s.bnd t).gap) (·.openGap t none 6 s.dtRef) = { u with evt := x } ∧
      ((s.bnd t).gap = false → x.gaps = s.evt.gaps ++ [{ tile := t, col := none, kind := 6, start := s.dtRef - 2 ^ 21 }]) := by
    cases (s.bnd t).gap with
    | true => exact ⟨u.evt, rfl, nofun⟩
    | false => exact ⟨_, rfl, fun _ => by rw [e]⟩
  obtain ⟨x, egap, hgaps⟩ := hgap
  rw [egap]
  have hsev : severity 7 ≠ 4 := by decide
  obtain ⟨r', y, ef⟩ := State.fault_eq { u with evt := x } 7 t hsev
  have hf := State.fault_only { u with evt := x } 7 t hsev
  have hidle := State.fault_of_idle { u with evt := x } 7 t hsev
  generalize State.fault { u with evt := x } 7 t = w at *
  have hget (f : Fld) (i j : Nat) (hid : f.id ∉ faultFields.map (·.id)) : w.get f i j = u.get f i j := hf f i j hid
  have hall : OnlyFields ([Reg.TIL_BND_STATUS_STATE, Reg.TIL_XINT_BND_FAULT] ++ faultFields) s w :=
    (honly.mono fun _ h => List.mem_append_left _ h).trans
      ((OnlyFields.of_regs (t := { u with evt := x }) rfl).trans (hf.mono fun _ h => List.mem_append_right _ h))
  have hwstate : w.get Reg.TIL_BND_STATUS_STATE t = 3 := (hget _ _ _ (by decide)).trans hstate
  have hwtile : w.tile t = (s.closeNext t).tile t := by
    rw [ef]
    exact htile
  refine ⟨hwstate, (hget _ _ _ (by decide)).trans hint, State.gated_next hwstate hwtile ?_ ?_ hall (by decide) (by decide), fun hlt => ?_,
    ?_, fun hg => ?_, fun hnone => ?_, ?_, ?_, hall, fun hnone => ?_⟩
  · rw [ef, State.lowers, e]
  · rw [ef, State.lowers, e]
  · rw [ef, State.lowers, e]
    exact s.bnd_setBnd_self t _ hlt
  · rw [ef, State.lowers, e]
  · rw [ef]
    exact hgaps hg
  · rw [hidle (by rwa [e])]
    simp only [State.syncFault, State.put_flt, State.faultRec, e]
    rfl
  · rw [ef]
    simp [State.faultN, State.lowers, severity]
  · rw [ef, State.lowers, e]
    rfl
  · rw [hidle (by rwa [e])]
    exact ((honly.trans (.of_regs rfl)).mono fun _ h => List.mem_append_left _ h).trans
      ((State.syncFault_only _).mono fun _ h => List.mem_append_right _ h)

/-! ### The tile wait and the words at a port (R102, R103, R504) -/

section
variable {tile : Nat} {s : State}

theorem crossbarTakeWord_of_accepts {w : TWord} {errs : List Nat} (ht : tile < 4) (hoffer : (s.bnd tile).offer = some w)
    (hacc : s.accepts tile w = true) (hdrain : (s.bnd tile).drain = false) :
    Does (.crossbarTakeWord tile false errs) s fun t =>
      t = ({ s.setBnd tile ((s.bnd tile).drop s.dtRef) with evt := { s.evt with refused := s.evt.refused.set tile 0 } } : State).route tile w errs := by
  refine .of_need rfl (decide_eq_true ht) ?_
  simp only [hoffer, hacc, hdrain, Bool.not_true, Bool.false_and, Bool.false_eq_true, if_false, State.cond_false]
  rfl

theorem crossbarTakeWord_of_waits {w : TWord} {errs : List Nat} (ht : tile < 4) (hoffer : (s.bnd tile).offer = some w)
    (hacc : s.accepts tile w = false) (hdrain : (s.bnd tile).drain = false) :
    Does (.crossbarTakeWord tile false errs) s fun t => t = s := by
  refine .of_need rfl (decide_eq_true ht) ?_
  simp only [hoffer, hacc, hdrain, Bool.not_false, if_true]

theorem receiverDrainStart_of_words (ht : tile < 4) (hwords : (s.bnd tile).words ≠ []) (hdrain : (s.bnd tile).drain = false) :
    Does (.receiverDrainStart tile) s fun t =>
      t = ((s.advanceTo ((s.bnd tile).since + 2 ^ 21)).setBnd tile { s.bnd tile with drain := true }).put Reg.TIL_XINT_STALE_DRAIN 1 tile := by
  refine .of_need rfl (decide_eq_true ht) ?_
  have hgo : ¬((s.bnd tile).words = [] ∨ (s.bnd tile).drain = true) := by simp [hwords, hdrain]
  exact if_neg hgo

theorem execTileWaitExpire_of_wait {d : Nat} (hstate : s.get Reg.TIL_BND_STATUS_STATE tile = 2) (hwait : (s.bnd tile).waitFrom = some d) :
    exec (.tileWaitExpire tile) s = need (decide (tile < 4)) ((s.advanceTo (d + s.tileWait)).bundleFault tile) := by
  show execTileWaitExpire tile s = _
  simp only [execTileWaitExpire, hwait, hstate]
  rfl

theorem tileWaitExpire_of_wait {d : Nat} (ht : tile < 4) (hstate : s.get Reg.TIL_BND_STATUS_STATE tile = 2)
    (hwait : (s.bnd tile).waitFrom = some d) (hidle : s.flt.under = none) (hgap : (s.bnd tile).gap = false) :
    Does (.tileWaitExpire tile) s fun t => let u := s.advanceTo (d + s.tileWait)
      t.get Reg.TIL_BND_STATUS_STATE tile = 3 ∧ ({ t with dtRef := t.dtRef + 1 } : State).gated tile = true ∧ t.get Reg.TIL_XINT_BND_FAULT tile = 1 ∧
      u.dtRef = max s.dtRef (d + s.tileWait) % 2 ^ 64 ∧ t.dtRef = u.dtRef ∧ (t.bnd tile).waitFrom = none ∧
      t.flt.under = some { dt := u.dtRef, code := 7, sev := 3, src := tile } ∧ t.faultN = true ∧
      t.evt.gaps = u.evt.gaps ++ [{ tile := tile, col := none, kind := 6, start := u.dtRef - 2 ^ 21 }] ∧
      Only [Reg.TIL_BND_STATUS_STATE, Reg.TIL_XINT_BND_FAULT, Reg.GEN_FAULT_STATUS_CODE, Reg.GEN_FAULT_STATUS_SEV, Reg.GEN_FAULT_STATUS_QLEVEL,
        Reg.GEN_FAULT_STATUS_NEST] u t { u with regs := t.regs, til := { u.til with t := t.til.t }, xp := t.xp, evt := t.evt, flt := t.flt, sys := t.sys } := by
  refine .of_need (execTileWaitExpire_of_wait hstate hwait) (decide_eq_true ht) ?_
  have hlt := State.lt_of_waitFrom hwait
  have hne : (s.advanceTo (d + s.tileWait)).get Reg.TIL_BND_STATUS_STATE tile ≠ 3 := by
    rw [State.get_advanceTo _ _ _ _ _ (by decide), hstate]
    decide
  have hdt := s.advanceTo_dtRef (d + s.tileWait)
  have hbnd := s.bnd_advanceTo (d + s.tileWait) tile
  have hflt := s.advanceTo_flt (d + s.tileWait)
  have hxp := s.advanceTo_xp (d + s.tileWait)
  generalize s.advanceTo (d + s.tileWait) = u at *
  rw [← hflt] at hidle
  have h := State.bundleFault_halted hne
  refine ⟨h.state, h.gated, h.int, hdt, h.dtRef, ?_, h.under hidle, h.faultN, h.gaps (by rw [hbnd, hgap]), h.frame, h.onlyIdle hidle⟩
  rw [h.bnd (by rwa [hxp])]
  rfl

end

/-! ### The transport counters of a tile (R113) -/

/-- What holds after every round of a loop holds at its end. -/
theorem State.each_keeps {α : Type} {P : State → Prop} {f : State → α → State} (hkeep : ∀ u a, P u → P (f u a)) (l : List α) {s : State}
    (h : P s) : P (s.each l f) := by
  induction l generalizing s with
  | nil => exact h
  | cons a l ih => exact ih (hkeep s a h)

/-- What one round of a loop brings about and every round keeps holds at its end. -/
theorem State.each_of_mem {α : Type} {P : State → Prop} {f : State → α → State} {a : α} {l : List α} (ha : a ∈ l)
    (hset : ∀ u, P (f u a)) (hkeep : ∀ u b, P u → P (f u b)) (s : State) : P (s.each l f) := by
  induction l generalizing s with
  | nil => cases ha
  | cons b l ih =>
    rcases List.mem_cons.1 ha with rfl | ha
    · exact State.each_keeps hkeep l (hset s)
    · exact ih ha _

/-- A loop changes the registers that its rounds change. -/
theorem RegsOnly.each {α : Type} {l : List Fld} {m : List α} {f : State → α → State} (hf : ∀ u, ∀ a ∈ m, RegsOnly l u (f u a)) (s : State) :
    RegsOnly l s (s.each m f) := by
  induction m generalizing s with
  | nil => exact .refl l s
  | cons a m ih => exact (hf s a (.head _)).trans (ih (fun u b hb => hf u b (.tail _ hb)) _)

/-- A field that reads 0, after reset too, reads 0 whatever field is cleared. -/
theorem State.get_put_zero {s : State} {g : Fld} {i j : Nat} (hg : g.reset i j = 0) (h : s.get g i j = 0) (f : Fld) (i' j' : Nat) :
    (s.put f 0 i' j').get g i j = 0 := by
  by_cases hk : (⟨g.id, i, j⟩ : RKey) = ⟨f.id, i', j'⟩
  · simp only [State.get, State.put, ← hk, hg, trunc, Nat.zero_mod, SMap.set]
    split
    · exact SMap.get_erase_self _ _ _
    · exact SMap.get_insert_self _ _ _ _ (SMap.erase_ne _ _)
  · rw [State.get_put_of_ne _ _ _ _ _ _ _ _ hk, h]

/-- The counters of a column bus. -/
def columnCounters : List Fld := [Reg.TIL_COL_WORDS_COUNT, Reg.TIL_COL_FULL_COUNT, Reg.TIL_COL_STALL_COUNT, Reg.TIL_COL_NAK_COUNT]

/-- The counters of a tile's transport beyond its columns. -/
def bundleCounters : List Fld :=
  [Reg.TIL_MRG_STALL_COUNT, Reg.TIL_BND_REPLAY_COUNT, Reg.TIL_XPOISON_COUNT, Reg.TIL_BND_DRAIN_COUNT, Reg.TIL_XDISCARD_COUNT]

theorem transportCounter_reset (i j : Nat) : ∀ f ∈ columnCounters ++ bundleCounters, f.reset i j = 0 := by
  intro f hf
  fin_cases hf <;> rfl

section
variable (s : State) (t : Nat)

/-- Every column's counters of a tile are cleared. -/
def State.clearColumnCounters : State := s.each (List.range 64) fun s c => s.each columnCounters fun s f => s.put f 0 t c

/-- All transport counters of a tile are cleared. -/
def State.clearTransportCounters : State := (s.clearColumnCounters t).each bundleCounters fun s f => s.put f 0 t

theorem State.get_clearTransportCounters_column {f : Fld} {c : Nat} (hf : f ∈ columnCounters) (hc : c ∈ List.range 64) :
    (s.clearTransportCounters t).get f t c = 0 := by
  have hreset := transportCounter_reset t c f (List.mem_append_left _ hf)
  have hkeep (u : State) (g : Fld) (c' : Nat) (h : u.get f t c = 0) : (u.put g 0 t c').get f t c = 0 := State.get_put_zero hreset h g t c'
  refine State.each_keeps (P := (·.get f t c = 0)) (fun u g h => hkeep u g 0 h) _ ?_
  refine State.each_of_mem (P := (·.get f t c = 0)) hc (fun u => ?_) (fun u c' h => State.each_keeps (fun v g hv => hkeep v g c' hv) _ h) s
  exact State.each_of_mem (P := (·.get f t c = 0)) hf (fun v => (v.get_put_self f 0 t c).trans (Nat.zero_mod _)) (fun v g hv => hkeep v g c hv) u

theorem State.get_clearTransportCounters_bundle {f : Fld} (hf : f ∈ bundleCounters) : (s.clearTransportCounters t).get f t = 0 :=
  State.each_of_mem (P := (·.get f t = 0)) hf (fun u => (u.get_put_self f 0 t 0).trans (Nat.zero_mod _))
    (fun _ g h => State.get_put_zero (transportCounter_reset t 0 f (List.mem_append_right _ hf)) h g t 0) _

theorem State.clearTransportCounters_regsOnly : RegsOnly (columnCounters ++ bundleCounters) s (s.clearTransportCounters t) := by
  have hcol : RegsOnly (columnCounters ++ bundleCounters) s (s.clearColumnCounters t) :=
    .each (fun u c _ => .each (fun v f hf => .put v f 0 t c (List.mem_append_left _ hf)) u) s
  exact hcol.trans (.each (fun v f hf => .put v f 0 t 0 (List.mem_append_right _ hf)) _)

end

theorem tilXcntClr_of_responds {s : State} {tile : Nat} (ht : tile < 4) (hr : s.responds (0x600C8 + 0x1000 * tile) = true) :
    Does (.tilXcntClr tile) s fun t =>
      (∀ f ∈ columnCounters, ∀ c ∈ List.range 64, t.get f tile c = 0) ∧ (∀ f ∈ bundleCounters, t.get f tile = 0) ∧
      RegsOnly (columnCounters ++ bundleCounters) s t :=
  .of_bar (f := (·.clearTransportCounters tile)) rfl (decide_eq_true ht) hr
    ⟨fun _ hf _ hc => s.get_clearTransportCounters_column tile hf hc, fun _ hf => s.get_clearTransportCounters_bundle tile hf,
      s.clearTransportCounters_regsOnly tile⟩

/-- Settles O13: the crossbar's take of a word and its wait, the drain, the tile wait as a bundle fault, and the counters' clear. -/
theorem receiverPort : Obligations.ReceiverPort :=
  ⟨fun _ _ _ _ => crossbarTakeWord_of_accepts,
    fun _ _ _ _ => crossbarTakeWord_of_waits,
    fun _ _ => receiverDrainStart_of_words,
    fun _ _ _ ht hstate hwait hidle _ hgap => tileWaitExpire_of_wait ht hstate hwait hidle hgap,
    fun _ _ => tilXcntClr_of_responds⟩

end Sys2Proof.Machine
end

/-! ## Column buses and their spares -/

section
namespace Sys2Proof.Machine

/-! ### The wires of a word (R87) -/

theorem oddOnes_succ (n v : Nat) : oddOnes (n + 1) v = (oddOnes n v != bit v n) := by
  simp [oddOnes, List.range_succ]

theorem oddOnes_congr {a b : Nat} : ∀ {n : Nat}, (∀ i < n, bit a i = bit b i) → oddOnes n a = oddOnes n b
  | 0, _ => rfl
  | n + 1, h => by rw [oddOnes_succ, oddOnes_succ, oddOnes_congr fun i hi => h i (by omega), h n (by omega)]

/-- The parity of bits inverted is the parity of the bits and of the inversions. -/
theorem oddOnes_xor (a b : Nat) : ∀ n, oddOnes n (Nat.xor a b) = (oddOnes n a != oddOnes n b)
  | 0 => rfl
  | n + 1 => by
    have hbit : bit (Nat.xor a b) n = (bit a n ^^ bit b n) := Nat.testBit_xor a b n
    rw [oddOnes_succ, oddOnes_succ, oddOnes_succ, oddOnes_xor a b n, hbit]
    cases oddOnes n a <;> cases oddOnes n b <;> cases bit a n <;> cases bit b n <;> rfl

theorem oddOnes_two_pow (i : Nat) : ∀ n, oddOnes n (2 ^ i) = decide (i < n)
  | 0 => rfl
  | n + 1 => by
    have hbit : bit (2 ^ i) n = decide (i = n) := Nat.testBit_two_pow
    rw [oddOnes_succ, oddOnes_two_pow i n, hbit]
    rcases Nat.lt_trichotomy i n with h | h | h
    · simp [h, Nat.ne_of_lt h, Nat.lt_succ_of_lt h]
    · simp [h]
    · simp [Nat.ne_of_gt h, Nat.not_lt_of_gt h, Nat.not_lt.2 h]

section
variable {w : TWord} (h : w.data < 2 ^ 64)
include h

/-- The bits that the parity is taken over, and the parity above them. -/
theorem TWord.wires_eq : ∃ v < 2 ^ 66, w.wires = 2 ^ 66 * boolNat (oddOnes 66 v) + v ∧
    v = w.data + boolNat w.loss * 2 ^ 64 + boolNat w.poison * 2 ^ 65 := by
  have hl := boolNat_lt w.loss
  have hp := boolNat_lt w.poison
  refine ⟨_, ?_, ?_, rfl⟩
  · omega
  · simp only [TWord.wires, Nat.mod_eq_of_lt h]
    ring

theorem TWord.wires_even : oddOnes 67 w.wires = false := by
  obtain ⟨v, hv, e, -⟩ := TWord.wires_eq h
  have hlow : oddOnes 66 w.wires = oddOnes 66 v := oddOnes_congr fun i hi => by
    rw [e, bit, Nat.testBit_two_pow_mul_add _ hv, if_pos hi]
    rfl
  have hpar : bit w.wires 66 = oddOnes 66 v := by
    rw [e, bit, Nat.testBit_two_pow_mul_add _ hv, if_neg (by decide)]
    cases oddOnes 66 v <;> rfl
  rw [oddOnes_succ, hlow, hpar]
  simp

theorem TWord.wordOn_wires : wordOn w.wires = w := by
  obtain ⟨v, -, e, ev⟩ := TWord.wires_eq h
  generalize oddOnes 66 v = par at e
  subst ev
  obtain ⟨data, loss, poison⟩ := w
  have hbits : (TWord.mk data loss poison).wires = 2 ^ 64 * (boolNat loss + 2 * boolNat poison + 4 * boolNat par) + data := by
    rw [e]
    ring
  simp only [wordOn, bit, hbits, Nat.testBit_two_pow_mul_add _ h, Nat.mul_add_mod, Nat.mod_eq_of_lt h]
  cases loss <;> cases poison <;> cases par <;> rfl

theorem TWord.readWith_zero : w.readWith 0 = (w, false) := by
  have hx : Nat.xor w.wires (0 % 2 ^ 67) = w.wires := Nat.xor_zero _
  simp only [TWord.readWith, hx, TWord.wires_even h, TWord.wordOn_wires h]
  rfl

/-- One bit inverted on the way is found (R87). -/
theorem TWord.readWith_flip {i : Nat} (hi : i < 67) :
    w.readWith (2 ^ i) = ({ wordOn (Nat.xor w.wires (2 ^ i)) with poison := true }, true) := by
  have hmod : 2 ^ i % 2 ^ 67 = 2 ^ i := Nat.mod_eq_of_lt (Nat.pow_lt_pow_right (by decide) hi)
  have hodd : oddOnes 67 (Nat.xor w.wires (2 ^ i)) = true := by
    rw [oddOnes_xor, TWord.wires_even h, oddOnes_two_pow, decide_eq_true hi]
    rfl
  simp only [TWord.readWith, hmod, hodd, if_true]

end

/-! ### A hop (R86 to R91) -/

/-- The receiver of a hop has a place for a word. -/
def State.hopRoom (s : State) (tile bus recv : Nat) : Bool :=
  if recv = 0 then decide ((s.bus tile bus).foot.length < 16) else (NMap.get none (s.bus tile bus).st (recv - 1)).isNone

/-- The word of a hop is answered NAK and runs again, or the bus fails (R91). -/
def State.hopNak (s : State) (tile bus recv col : Nat) (src : HopSrc) : State :=
  let y := s.bus tile bus
  let n := ((NMap.get none y.naks recv).map (·.2)).getD 0 + 1
  let u := (s.setBus tile bus { y with naks := NMap.set none y.naks recv (some (src, n)) }).xcount Reg.TIL_COL_NAK_COUNT tile col
  if atLeastOne (u.get Reg.TIL_XCTRL_NAK_LIMIT tile) ≤ n then u.busFails tile bus else u

/-- The receiver of a hop latches the word on the wires and answers ACK (R88, R90). -/
def State.hopAck (s : State) (tile bus recv col : Nat) (src : HopSrc) (v : Nat) : State :=
  let w := wordOn v
  let y := { s.bus tile bus with naks := NMap.set none (s.bus tile bus).naks recv none }
  if recv = 0 then
    (s.setBus tile bus { y with st := NMap.set none y.st 0 none, foot := y.foot ++ [w] }).xcount Reg.TIL_COL_WORDS_COUNT tile col
  else
    let j := recv - 1
    if src ≠ .up then
      (s.setBus tile bus { y with st := NMap.set none y.st j (some w), rows := NMap.set [] y.rows j [] }).scTaken tile (j * 64 + col) src
    else
      let old := NMap.get [] y.rows j
      s.setBus tile bus { y with
        st := NMap.set none (NMap.set none y.st (j + 1) none) j (some w)
        rows := NMap.set [] y.rows j (if old.contains (wordRow w) then old else old ++ [wordRow w]) }

section
variable {s : State} {tile bus recv flips col : Nat} {src : HopSrc} {w : TWord}

/-- A hop to a free receiver of a sound bus, with the word that its sender drives. -/
structure State.HopReady (s : State) (tile bus recv col : Nat) (src : HopSrc) (w : TWord) : Prop where
  tile_lt : tile < 4
  bus_lt : bus < 66
  recv_lt : recv < 65
  sound : (s.bus tile bus).failed = false
  room : s.hopRoom tile bus recv = true
  col_eq : s.busCol tile bus = some col
  src_eq : s.hopSrc tile bus recv = some src
  word_eq : s.srcWord tile bus recv col src = some w

theorem State.hopRoom_stage (h : 1 ≤ recv) (hfree : NMap.get none (s.bus tile bus).st (recv - 1) = none) : s.hopRoom tile bus recv = true := by
  rw [State.hopRoom, if_neg (by omega), hfree]
  rfl

theorem State.hopRoom_foot (hfoot : (s.bus tile bus).foot.length < 16) : s.hopRoom tile bus 0 = true := decide_eq_true hfoot

theorem State.hopRoom_of (hfoot : recv = 0 → (s.bus tile bus).foot.length < 16)
    (hfree : 1 ≤ recv → NMap.get none (s.bus tile bus).st (recv - 1) = none) : s.hopRoom tile bus recv = true := by
  rcases Nat.eq_zero_or_pos recv with rfl | h
  · exact State.hopRoom_foot (hfoot rfl)
  · exact State.hopRoom_stage h (hfree h)

/-- A hop is answered NAK where the wires found have bad parity, else ACK (R88, R91). -/
theorem exec_columnBusHop_of_ready (h : s.HopReady tile bus recv col src w) (flips : Nat) :
    exec (.columnBusHop tile bus recv flips) s =
      let v := Nat.xor w.wires (flips % 2 ^ 67)
      .next (if oddOnes 67 v then s.hopNak tile bus recv col src else s.hopAck tile bus recv col src v) := by
  obtain ⟨ht, hb, hr, hsound, hroom, hcol, hsrc, hw⟩ := h
  show execColumnBusHop tile bus recv flips s = _
  have hgo : (!s.hopRoom tile bus recv || (s.bus tile bus).failed) = false := by rw [hroom, hsound]; rfl
  unfold State.hopRoom at hgo
  simp only [execColumnBusHop, hcol, hsrc, hw, hgo, ht, hb, hr, decide_true, Bool.and_self, need_true, Bool.false_eq_true, if_false]
  rfl

theorem exec_columnBusHop_of_odd (h : s.HopReady tile bus recv col src w) (hodd : oddOnes 67 (Nat.xor w.wires (flips % 2 ^ 67)) = true) :
    exec (.columnBusHop tile bus recv flips) s = .next (s.hopNak tile bus recv col src) := by
  simp only [exec_columnBusHop_of_ready h, hodd, if_true]

theorem exec_columnBusHop_of_even (h : s.HopReady tile bus recv col src w) (heven : oddOnes 67 (Nat.xor w.wires (flips % 2 ^ 67)) = false) :
    exec (.columnBusHop tile bus recv flips) s = .next (s.hopAck tile bus recv col src (Nat.xor w.wires (flips % 2 ^ 67))) := by
  simp only [exec_columnBusHop_of_ready h, heven, Bool.false_eq_true, if_false]

/-- What a sender drives depends on these fields, on the transport and on the sconces alone. -/
def busFields : List Fld :=
  [Reg.TIL_XSPARE_SPA_USED, Reg.TIL_XSPARE_SPB_USED, Reg.TIL_XSPARE_SPA_COL, Reg.TIL_XSPARE_SPB_COL, Reg.TIL_COL_OFF0_OFF, Reg.TIL_COL_OFF1_OFF]

section
variable {u : State} (hxp : u.xp = s.xp) (hget : ∀ f ∈ busFields, u.get f tile = s.get f tile)
include hget

theorem State.spareUsed_congr (sp : Nat) : u.spareUsed tile sp = s.spareUsed tile sp := by
  simp only [State.spareUsed, State.flag, hget _ (by decide : Reg.TIL_XSPARE_SPA_USED ∈ busFields),
    hget _ (by decide : Reg.TIL_XSPARE_SPB_USED ∈ busFields)]

theorem State.spareCol_congr (sp : Nat) : u.spareCol tile sp = s.spareCol tile sp := by
  simp only [State.spareCol, hget _ (by decide : Reg.TIL_XSPARE_SPA_COL ∈ busFields), hget _ (by decide : Reg.TIL_XSPARE_SPB_COL ∈ busFields)]

theorem State.colOff_congr (c : Nat) : u.colOff tile c = s.colOff tile c := by
  simp only [State.colOff, hget _ (by decide : Reg.TIL_COL_OFF0_OFF ∈ busFields), hget _ (by decide : Reg.TIL_COL_OFF1_OFF ∈ busFields)]

theorem State.busCol_congr (b : Nat) : u.busCol tile b = s.busCol tile b := by
  simp only [State.busCol, State.spareUsed_congr hget, State.spareCol_congr hget]

include hxp

theorem State.colBus_congr (c : Nat) : u.colBus tile c = s.colBus tile c := by
  have hcols : u.cols tile = s.cols tile := by simp only [State.cols, hxp]
  rw [State.colBus, State.colBus, State.bus, State.bus, hcols, State.colOff_congr hget, State.spareUsed_congr hget, State.spareCol_congr hget]

theorem State.hopSrc_congr (htil : u.til = s.til) (b r : Nat) : u.hopSrc tile b r = s.hopSrc tile b r := by
  have hbus : u.bus tile b = s.bus tile b := by simp only [State.bus, State.cols, hxp]
  have hsc (c : Nat) : u.sconce tile c = s.sconce tile c := by simp only [State.sconce, htil]
  simp only [State.hopSrc, hbus, hsc, State.busCol_congr hget, State.colBus_congr hxp hget]

end

/-- A word that was answered NAK runs again (R88). -/
theorem State.hopSrc_of_nak {n : Nat} (h : NMap.get none (s.bus tile bus).naks recv = some (src, n)) : s.hopSrc tile bus recv = some src := by
  simp only [State.hopSrc, h]

theorem columnBusHop_of_granted (h : s.HopReady tile bus recv col src w) (hrecv : 1 ≤ recv) (hup : src ≠ .up)
    (heven : oddOnes 67 (Nat.xor w.wires (flips % 2 ^ 67)) = false) : Does (.columnBusHop tile bus recv flips) s fun t =>
      let y := s.bus tile bus
      t = (s.setBus tile bus { y with
        naks := NMap.set none y.naks recv none, st := NMap.set none y.st (recv - 1) (some (wordOn (Nat.xor w.wires (flips % 2 ^ 67))))
        rows := NMap.set [] y.rows (recv - 1) [] }).scTaken tile ((recv - 1) * 64 + col) src := by
  refine .of_next (exec_columnBusHop_of_even h heven) ?_
  rw [State.hopAck, if_neg (by omega), if_pos hup]

theorem columnBusHop_of_passed (h : s.HopReady tile bus recv col .up w) (hrecv : 1 ≤ recv)
    (heven : oddOnes 67 (Nat.xor w.wires (flips % 2 ^ 67)) = false) : Does (.columnBusHop tile bus recv flips) s fun t =>
      let y := s.bus tile bus; let v := wordOn (Nat.xor w.wires (flips % 2 ^ 67)); let old := NMap.get [] y.rows (recv - 1)
      t = s.setBus tile bus { y with
        naks := NMap.set none y.naks recv none, st := NMap.set none (NMap.set none y.st recv none) (recv - 1) (some v)
        rows := NMap.set [] y.rows (recv - 1) (if old.contains (wordRow v) then old else old ++ [wordRow v]) } := by
  refine .of_next (exec_columnBusHop_of_even h heven) ?_
  rw [State.hopAck, if_neg (by omega), if_neg (by simp), Nat.sub_add_cancel hrecv]

theorem columnBusHop_of_landed (h : s.HopReady tile bus 0 col .up w) (heven : oddOnes 67 (Nat.xor w.wires (flips % 2 ^ 67)) = false) :
    Does (.columnBusHop tile bus 0 flips) s fun t =>
      let y := s.bus tile bus
      t.xp = (s.setBus tile bus { y with
        naks := NMap.set none y.naks 0 none, st := NMap.set none y.st 0 none, foot := y.foot ++ [wordOn (Nat.xor w.wires (flips % 2 ^ 67))] }).xp ∧
      (s.get Reg.TIL_COL_WORDS_COUNT tile col + 1 < 2 ^ Reg.TIL_COL_WORDS_COUNT.width - 1 → col < 64 →
        t.get Reg.TIL_COL_WORDS_COUNT tile col = s.get Reg.TIL_COL_WORDS_COUNT tile col + 1) ∧
      Only [Reg.TIL_COL_WORDS_COUNT, Reg.TIL_XINT_CNT_SAT] s t { s with regs := t.regs, xp := t.xp } := by
  refine .of_next (exec_columnBusHop_of_even h heven) ?_
  rw [State.hopAck, if_pos rfl]
  refine ⟨State.xcount_xp .., fun hlt _ => ?_, ?_, (OnlyFields.of_regs rfl).trans (State.xcount_only _ _ _ _ _)⟩
  · rw [State.xcount, State.bump_get _ _ _ _ _ _ _ (by decide)]
    exact min_eq_left (Nat.le_of_lt hlt)
  · rw [State.xcount_eq]
    rfl

theorem columnBusHop_of_odd (h : s.HopReady tile bus recv col src w) (hodd : oddOnes 67 (Nat.xor w.wires (flips % 2 ^ 67)) = true) :
    Does (.columnBusHop tile bus recv flips) s fun t =>
      let y := s.bus tile bus; let n := ((NMap.get none y.naks recv).map (·.2)).getD 0 + 1
      let u := (s.setBus tile bus { y with naks := NMap.set none y.naks recv (some (src, n)) }).xcount Reg.TIL_COL_NAK_COUNT tile col
      u.hopSrc tile bus recv = some src ∧
      (n < max 1 (s.get Reg.TIL_XCTRL_NAK_LIMIT tile) → t = u) ∧ (max 1 (s.get Reg.TIL_XCTRL_NAK_LIMIT tile) ≤ n → t = u.busFails tile bus) := by
  refine .of_next (exec_columnBusHop_of_odd h hodd) ?_
  unfold State.hopNak
  extract_lets y n u
  have hlimit : atLeastOne (u.get Reg.TIL_XCTRL_NAK_LIMIT tile) = max 1 (s.get Reg.TIL_XCTRL_NAK_LIMIT tile) :=
    congrArg (max 1) (State.xcount_only _ _ _ _ _ _ _ _ (by decide))
  rw [hlimit]
  refine ⟨?_, fun hn => if_neg (Nat.not_le_of_lt hn), fun hn => if_pos hn⟩
  · have hget : ∀ f ∈ busFields, u.get f tile = s.get f tile := fun f hf =>
      State.xcount_only _ Reg.TIL_COL_NAK_COUNT tile col 1 f tile 0 (by revert f; decide)
    rcases Nat.lt_or_ge tile s.xp.cols.length with hlt | hge
    · refine State.hopSrc_of_nak (n := n) ?_
      rw [State.bus_xcount, State.bus_setBus_self _ _ _ _ hlt]
      exact SMap.get_set_self none y.naks recv (some (src, n))
    · have hkeep : s.setBus tile bus { y with naks := NMap.set none y.naks recv (some (src, n)) } = s := State.setCols_of_ge _ _ _ hge
      rw [State.hopSrc_congr (State.xcount_xp ..) hget (State.til_bump ..), hkeep]
      exact h.src_eq

end

end Sys2Proof.Machine
end

/-! ## A column bus fails -/

section
namespace Sys2Proof.Machine

/-! ### A column out of service (R110) -/

/-- Between the two states a tile has discarded words and counted them: nothing else has changed. -/
structure State.Drops (s u : State) : Prop where
  rest : ∃ r l x, u = { s with regs := r, til := l, xp := x }
  only : OnlyFields [Reg.TIL_XDISCARD_COUNT, Reg.TIL_XINT_CNT_SAT] s u
  switching : ∀ t, (u.cols t).switching = (s.cols t).switching

section
variable {s u : State}

theorem State.Drops.refl (s : State) : s.Drops s := ⟨⟨_, _, _, rfl⟩, .refl _ s, fun _ => rfl⟩

theorem State.Drops.setBus (h : s.Drops u) (t b : Nat) (y : ColBus) : s.Drops (u.setBus t b y) := by
  obtain ⟨⟨_, _, _, e⟩, honly, hsw⟩ := h
  exact ⟨⟨_, _, _, by rw [e]; rfl⟩, honly.trans (.of_regs rfl), fun n => (u.switching_setBus t b y n).trans (hsw n)⟩

theorem State.Drops.setSconce (h : s.Drops u) (t c : Nat) (x : Sconce) : s.Drops (u.setSconce t c x) := by
  obtain ⟨⟨_, _, _, e⟩, honly, hsw⟩ := h
  exact ⟨⟨_, _, _, by rw [e]; rfl⟩, honly.trans (.of_regs rfl), hsw⟩

theorem State.Drops.discard (h : s.Drops u) (t n : Nat) : s.Drops (u.xcount Reg.TIL_XDISCARD_COUNT t 0 n) := by
  obtain ⟨⟨_, _, _, e⟩, honly, hsw⟩ := h
  exact ⟨⟨_, _, _, by rw [State.xcount_eq, e]⟩, honly.trans (u.xcount_only _ t 0 n), fun i => by rw [State.cols_xcount, hsw]⟩

theorem State.Drops.each {α : Type} (l : List α) {f : State → α → State} (hf : ∀ u a, s.Drops u → s.Drops (f u a)) (h : s.Drops u) :
    s.Drops (u.each l f) := State.each_keeps (P := s.Drops) hf l h

theorem State.Drops.cond (h : s.Drops u) (c : Bool) {f : State → State} (hf : s.Drops u → s.Drops (f u)) : s.Drops (u.cond c f) := by
  cases c
  · exact h
  · exact hf h

theorem State.Drops.dropBus (h : s.Drops u) (t b : Nat) (foot : Bool) : s.Drops (u.dropBus t b foot) := (h.setBus _ _ _).discard _ _

theorem State.Drops.dropSconces (h : s.Drops u) (t : Nat) (c : Nat → Bool) : s.Drops (u.dropSconces t c) :=
  .each _ (fun _ _ h => (h.setSconce _ _ _).discard _ _) h

end

/-- The words that a column's buses and sconces hold are discarded. -/
def State.dropColumn (s : State) (t col : Nat) : State :=
  let s := s.dropBus t col false
  (s.cond (s.spareUsed t (spareOf col) && s.spareCol t (spareOf col) == col) (·.dropBus t (spareOf col) false)).dropSconces t (· == col)

/-- A column's bit and its event are set, and a switch under way ends. -/
def State.markOff (s : State) (t col : Nat) : State :=
  let s := s.setCols t { s.cols t with switching := (s.cols t).switching.filter (· != col) }
  (if col < 32 then s.put Reg.TIL_COL_OFF0_OFF (Nat.lor (s.get Reg.TIL_COL_OFF0_OFF t) (2 ^ col)) t
    else s.put Reg.TIL_COL_OFF1_OFF (Nat.lor (s.get Reg.TIL_COL_OFF1_OFF t) (2 ^ (col - 32))) t).put Reg.TIL_XINT_COL_OFF 1 t

theorem State.columnOut_eq (s : State) (t col since : Nat) : s.columnOut t col since =
    (((((s.markOff t col).dropColumn t col).openGap t (some col) 5 since).unitOut 2 (t * 64 + col)).fault 0x10 (t * 64 + col)) := rfl

section
variable (s : State) (t col since : Nat)

theorem State.dropColumn_drops : s.Drops (s.dropColumn t col) := by
  unfold State.dropColumn
  extract_lets u
  have hu : s.Drops u := (State.Drops.refl s).dropBus t col false
  exact State.Drops.dropSconces (hu.cond _ fun h => h.dropBus t _ false) t _

/-- A bit that is set reads set. -/
theorem bit_trunc_lor {w i : Nat} (v : Nat) (h : i < w) : bit (trunc w (Nat.lor v (2 ^ i))) i = true := by
  have hor : (Nat.lor v (2 ^ i)).testBit i = true := by
    show (v ||| 2 ^ i).testBit i = true
    simp
  rw [bit, trunc, Nat.testBit_mod_two_pow, hor]
  simp [h]

theorem State.markOff_eq : ∃ r l, s.markOff t col = { s with regs := r, xp := { s.xp with cols := l } } := by
  unfold State.markOff
  dsimp only
  split <;> exact ⟨_, _, rfl⟩

theorem State.markOff_colOff (h : col < 64) : (s.markOff t col).colOff t col = true := by
  unfold State.markOff State.colOff
  dsimp only
  split
  next hlow =>
    rw [State.get_put_of_id _ _ _ _ _ _ _ _ (by decide), State.get_put_self]
    exact bit_trunc_lor _ hlow
  next hhigh =>
    rw [State.get_put_of_id _ _ _ _ _ _ _ _ (by decide), State.get_put_self]
    exact bit_trunc_lor _ (by change col - 32 < 32; omega)

theorem State.markOff_int : (s.markOff t col).get Reg.TIL_XINT_COL_OFF t = 1 := State.get_put_self ..

theorem State.markOff_switching : col ∉ ((s.markOff t col).cols t).switching := by
  have hcols : (s.markOff t col).cols t = (s.setCols t { s.cols t with switching := (s.cols t).switching.filter (· != col) }).cols t := by
    unfold State.markOff
    dsimp only
    split <;> rfl
  rw [hcols]
  rcases Nat.lt_or_ge t s.xp.cols.length with h | h
  · rw [s.cols_setCols_self t _ h]
    simp
  · rw [s.setCols_of_ge t _ h, s.cols_of_ge t h]
    exact List.not_mem_nil

end

/-- Column `col` of tile `t` has gone out of service: its bit and event are set, it stands in the service record, its gap is open from
before `since`, and fault 0x10 is found (R110). -/
structure State.ColumnIsOut (s u : State) (t col since : Nat) : Prop where
  off : u.colOff t col = true
  switching : col ∉ (u.cols t).switching
  int : u.get Reg.TIL_XINT_COL_OFF t = 1
  recorded : u.recorded 2 (t * 64 + col) = true
  under : s.flt.under = none → u.flt.under = some { dt := s.dtRef, code := 0x10, sev := 1, src := t * 64 + col }
  gaps : u.evt.gaps = s.evt.gaps ++ [{ tile := t, col := some col, kind := 5, start := since - 2 ^ 21 }]
  dtRef : u.dtRef = s.dtRef
  mem : u.mem = s.mem

theorem State.columnOut_isOut (s : State) {t col : Nat} (since : Nat) (h : col < 64) : s.ColumnIsOut (s.columnOut t col since) t col since := by
  rw [State.columnOut_eq]
  obtain ⟨r, l, em⟩ := s.markOff_eq t col
  have hoff := s.markOff_colOff t col h
  have hint := s.markOff_int t col
  have hsw := s.markOff_switching t col
  generalize s.markOff t col = m at *
  obtain ⟨⟨_, _, _, ed⟩, hdonly, hdsw⟩ := m.dropColumn_drops t col
  generalize m.dropColumn t col = d at *
  obtain ⟨r', a, eu⟩ := (d.openGap t (some col) 5 since).unitOut_eq 2 (t * 64 + col)
  have huonly := (d.openGap t (some col) 5 since).unitOut_only 2 (t * 64 + col)
  generalize (d.openGap t (some col) 5 since).unitOut 2 (t * 64 + col) = u at *
  have hsev : severity 0x10 ≠ 4 := by decide
  obtain ⟨r'', x, ef⟩ := u.fault_eq 0x10 (t * 64 + col) hsev
  have hfonly := u.fault_only 0x10 (t * 64 + col) hsev
  have hidle := u.fault_of_idle 0x10 (t * 64 + col) hsev
  generalize u.fault 0x10 (t * 64 + col) = w at *
  have hget (f : Fld) (h1 : f.id ∉ faultFields.map (·.id)) (h2 : f.id ∉ auditFields.map (·.id))
      (h3 : f.id ∉ [Reg.TIL_XDISCARD_COUNT, Reg.TIL_XINT_CNT_SAT].map (·.id)) (i : Nat) : w.get f i = m.get f i :=
    (hfonly f i 0 h1).trans ((huonly f i 0 h2).trans (hdonly f i 0 h3))
  have hcols : (w.cols t).switching = (m.cols t).switching := by
    rw [ef, eu]
    exact hdsw t
  have hdevt : d.evt = s.evt := by rw [ed, em]
  have hdflt : d.flt = s.flt := by rw [ed, em]
  have hddt : d.dtRef = s.dtRef := by rw [ed, em]
  have hdmem : d.mem = s.mem := by rw [ed, em]
  refine ⟨?_, by rwa [hcols], ?_, ?_, fun hnone => ?_, ?_, ?_, ?_⟩
  · rw [← hoff]
    simp only [State.colOff, hget Reg.TIL_COL_OFF0_OFF (by decide) (by decide) (by decide),
      hget Reg.TIL_COL_OFF1_OFF (by decide) (by decide) (by decide)]
  · rw [hget _ (by decide) (by decide) (by decide), hint]
  · rw [ef, eu]
    exact State.recorded_recordUnit _ 2 (t * 64 + col)
  · have hu : u.flt.under = none := by
      rw [eu]
      exact (congrArg (·.under) hdflt).trans hnone
    have hudt : u.dtRef = s.dtRef := by
      rw [eu]
      exact hddt
    rw [hidle hu]
    simp only [State.syncFault, State.put_flt, State.faultRec, hudt]
    rfl
  · rw [ef, eu, ← hdevt]
    rfl
  · rw [ef, eu, ← hddt]
    rfl
  · rw [ef, eu, ← hdmem]
    rfl

/-- What is later stored to other fields leaves the column as it is. -/
theorem State.ColumnIsOut.put {s u : State} {t col since : Nat} (h : s.ColumnIsOut u t col since) (f : Fld) (v i j : Nat)
    (hf : f.id ∉ [Reg.TIL_COL_OFF0_OFF, Reg.TIL_COL_OFF1_OFF, Reg.TIL_XINT_COL_OFF].map (·.id)) : s.ColumnIsOut (u.put f v i j) t col since := by
  simp only [List.map_cons, List.map_nil, List.mem_cons, List.not_mem_nil, or_false, not_or] at hf
  obtain ⟨h0, h1, hint⟩ := hf
  refine ⟨?_, h.switching, ?_, h.recorded, h.under, h.gaps, h.dtRef, h.mem⟩
  · rw [← h.off]
    simp only [State.colOff, State.get_put_of_id _ _ _ _ _ _ _ _ (Ne.symm h0), State.get_put_of_id _ _ _ _ _ _ _ _ (Ne.symm h1)]
  · rw [State.get_put_of_id _ _ _ _ _ _ _ _ (Ne.symm hint), h.int]

theorem State.ColumnIsOut.showReq {s u : State} {t col since : Nat} (h : s.ColumnIsOut u t col since) (n : Nat) :
    s.ColumnIsOut (u.showReq n) t col since := by
  unfold State.showReq
  split
  · exact h.put _ _ _ _ (by decide)
  · exact ((h.put _ _ _ _ (by decide)).put _ _ _ _ (by decide)).put _ _ _ _ (by decide)

/-! ### The switch to a spare (R109) -/

section
variable (s : State) (t col : Nat)

theorem State.beginSwitch_low (h : col < 32) : s.beginSwitch t col =
    ((s.setCols t { s.cols t with switching := (s.cols t).switching ++ [col] }).put Reg.TIL_XSPARE_SPA_USED 1 t).put Reg.TIL_XSPARE_SPA_COL col t :=
  if_pos h

/-- The switch of column `col` of the lower half to spare A is under way. -/
structure State.SwitchBegun (s u : State) (t col : Nat) : Prop where
  used : u.get Reg.TIL_XSPARE_SPA_USED t = 1
  col_eq : u.get Reg.TIL_XSPARE_SPA_COL t = col
  cols : t < s.xp.cols.length → u.cols t = { s.cols t with switching := (s.cols t).switching ++ [col] }
  frame : u = { s with regs := u.regs, xp := { s.xp with cols := u.xp.cols } }
  only : OnlyFields [Reg.TIL_XSPARE_SPA_USED, Reg.TIL_XSPARE_SPA_COL] s u

theorem State.beginSwitch_begun (h : col < 32) : s.SwitchBegun (s.beginSwitch t col) t col := by
  rw [State.beginSwitch_low _ _ _ h]
  refine ⟨?_, ?_, fun hlt => s.cols_setCols_self t _ hlt, rfl, .put _ _ _ _ (by decide) (.put _ _ _ _ (by decide) (.of_regs rfl))⟩
  · rw [State.get_put_of_id _ _ _ _ _ _ _ _ (by decide), State.get_put_self]
    rfl
  · rw [State.get_put_self]
    exact trunc_of_lt (Nat.lt_trans h (by decide))

theorem State.showReq_eq : ∃ r, s.showReq t = { s with regs := r } := by
  unfold State.showReq
  split <;> exact ⟨_, rfl⟩

theorem State.showReq_only : OnlyFields [Reg.TIL_XSPARE_REQ_PENDING, Reg.TIL_XSPARE_REQ_COL, Reg.TIL_XINT_SPARE_REQ] s (s.showReq t) := by
  unfold State.showReq
  split
  · exact .put _ _ _ _ (by decide) (.refl _ s)
  · exact .put _ _ _ _ (by decide) (.put _ _ _ _ (by decide) (.put _ _ _ _ (by decide) (.refl _ s)))

theorem State.showReq_nil (h : (s.cols t).reqs = []) : s.showReq t = s.put Reg.TIL_XSPARE_REQ_PENDING 0 t := by
  simp only [State.showReq, h]

theorem State.showReq_cons {c d : Nat} {l : List (Nat × Nat)} (h : (s.cols t).reqs = (c, d) :: l) : s.showReq t =
    ((s.put Reg.TIL_XSPARE_REQ_PENDING 1 t).put Reg.TIL_XSPARE_REQ_COL c t).put Reg.TIL_XINT_SPARE_REQ 1 t := by
  simp only [State.showReq, h]

end

/-- A bus that fails is marked. -/
def State.failBus (s : State) (t b : Nat) : State := s.setBus t b { s.bus t b with failed := true }

section
variable {s : State} {tile bus col : Nat}

/-- A column's own bus fails: its column goes out, its switch begins, or it is requested (R109). -/
theorem State.busFails_own (hsound : (s.bus tile bus).failed = false) (hb : bus < 64) : s.busFails tile bus =
    if s.spareGone tile (spareOf bus) then (s.failBus tile bus).columnOut tile bus s.dtRef
    else if s.flag Reg.TIL_XCTRL_SPARE_AUTO tile then (s.failBus tile bus).beginSwitch tile bus
    else
      let x := (s.failBus tile bus).cols tile
      let v := (s.failBus tile bus).setCols tile { x with reqs := x.reqs ++ [(bus, s.dtRef)] }
      if x.reqs = [] then v.showReq tile else v := by
  rw [← State.spareGone_setBus s tile bus { s.bus tile bus with failed := true }]
  simp only [State.busFails, hsound, Bool.false_eq_true, if_false, if_neg (Nat.not_le_of_lt hb)]
  rfl

theorem State.busFails_gone (hsound : (s.bus tile bus).failed = false) (hb : bus < 64) (hspare : s.spareGone tile (spareOf bus) = true) :
    s.busFails tile bus = (s.failBus tile bus).columnOut tile bus s.dtRef := by
  rw [State.busFails_own hsound hb, if_pos hspare]

theorem State.busFails_auto (hsound : (s.bus tile bus).failed = false) (hb : bus < 64) (hspare : s.spareGone tile (spareOf bus) = false)
    (hauto : s.flag Reg.TIL_XCTRL_SPARE_AUTO tile = true) : s.busFails tile bus = (s.failBus tile bus).beginSwitch tile bus := by
  rw [State.busFails_own hsound hb, hspare, if_neg Bool.false_ne_true, if_pos hauto]

/-- A bus's failure leaves what its tile holds beside the buses. -/
theorem State.cols_failBus : ∃ l, (s.failBus tile bus).cols tile = { s.cols tile with bus := l } := s.cols_setBus ..

theorem State.length_failBus : (s.failBus tile bus).xp.cols.length = s.xp.cols.length := List.length_set

theorem State.busFails_request (hsound : (s.bus tile bus).failed = false) (hb : bus < 64) (hspare : s.spareGone tile (spareOf bus) = false)
    (hauto : s.flag Reg.TIL_XCTRL_SPARE_AUTO tile = false) (hreqs : (s.cols tile).reqs = []) : s.busFails tile bus =
      ((s.failBus tile bus).setCols tile { (s.failBus tile bus).cols tile with reqs := [(bus, s.dtRef)] }).showReq tile := by
  obtain ⟨_, e⟩ := State.cols_failBus (s := s) (tile := tile) (bus := bus)
  rw [State.busFails_own hsound hb, hspare, hauto, if_neg Bool.false_ne_true, if_neg Bool.false_ne_true, e]
  simp only [hreqs, List.nil_append, if_true]

/-- A spare bus that serves a column fails: its column goes out of service (R109). -/
theorem State.busFails_spare (hsound : (s.bus tile bus).failed = false) (hb : 64 ≤ bus) (hcol : s.busCol tile bus = some col) :
    s.busFails tile bus =
      let u := s.failBus tile bus
      (u.setCols tile { u.cols tile with spareDead := (u.cols tile).spareDead ++ [bus] }).columnOut tile col s.dtRef := by
  have hcol' (x : Cols) : ((s.failBus tile bus).setCols tile x).busCol tile bus = some col := hcol
  unfold State.failBus at hcol'
  simp only [State.busFails, hsound, Bool.false_eq_true, if_false, if_pos hb, hcol']
  rfl

theorem columnStallTimeout_of_auto (ht : tile < 4) (hb : bus < 32) (hsound : (s.bus tile bus).failed = false)
    (hspare : s.spareGone tile 64 = false) (hauto : s.flag Reg.TIL_XCTRL_SPARE_AUTO tile = true) :
    Does (.columnStallTimeout tile bus) s fun t =>
      t.get Reg.TIL_XSPARE_SPA_USED tile = 1 ∧ t.get Reg.TIL_XSPARE_SPA_COL tile = bus ∧
      (tile < s.xp.cols.length → bus ∈ (t.cols tile).switching ∧ (t.bus tile bus).failed = true) ∧
      Only [Reg.TIL_XSPARE_SPA_USED, Reg.TIL_XSPARE_SPA_COL] s t { s with regs := t.regs, xp := { s.xp with cols := t.xp.cols } } := by
  refine .of_need rfl (by simp [ht, Nat.lt_trans hb]) ?_
  have hgone : s.spareGone tile (spareOf bus) = false := by rwa [spareOf, if_pos hb]
  rw [State.busFails_auto hsound (Nat.lt_trans hb (by decide)) hgone hauto]
  have h := (s.failBus tile bus).beginSwitch_begun tile bus hb
  refine ⟨h.used, h.col_eq, fun hlt => ?_, h.frame, h.only⟩
  have hcols := h.cols (by rwa [State.length_failBus])
  refine ⟨by rw [hcols]; simp, ?_⟩
  rw [State.bus, hcols]
  exact congrArg ColBus.failed (s.bus_setBus_self tile bus { s.bus tile bus with failed := true } hlt)

theorem columnStallTimeout_of_request (ht : tile < 4) (hlo : 32 ≤ bus) (hhi : bus < 64) (hsound : (s.bus tile bus).failed = false)
    (hspare : s.spareGone tile 65 = false) (hauto : s.flag Reg.TIL_XCTRL_SPARE_AUTO tile = false) (hreqs : (s.cols tile).reqs = [])
    (hlt : tile < s.xp.cols.length) : Does (.columnStallTimeout tile bus) s fun t =>
      (t.cols tile).reqs = [(bus, s.dtRef)] ∧ t.get Reg.TIL_XSPARE_REQ_PENDING tile = 1 ∧ t.get Reg.TIL_XSPARE_REQ_COL tile = bus ∧
      t.get Reg.TIL_XINT_SPARE_REQ tile = 1 ∧
      Only [Reg.TIL_XSPARE_REQ_PENDING, Reg.TIL_XSPARE_REQ_COL, Reg.TIL_XINT_SPARE_REQ] s t
        { s with regs := t.regs, xp := { s.xp with cols := t.xp.cols } } := by
  refine .of_need rfl (by simp [ht]; omega) ?_
  have hgone : s.spareGone tile (spareOf bus) = false := by rwa [spareOf, if_neg (Nat.not_lt.2 hlo)]
  have hnew := State.cols_setCols_self (s.failBus tile bus) tile { (s.failBus tile bus).cols tile with reqs := [(bus, s.dtRef)] }
    (by rwa [State.length_failBus])
  rw [State.busFails_request hsound hhi hgone hauto hreqs]
  rw [State.showReq_cons (c := bus) (d := s.dtRef) (l := []) _ _ (by rw [hnew])]
  refine ⟨congrArg Cols.reqs hnew, ?_, ?_, ?_, rfl, .put _ _ _ _ (by decide) (.put _ _ _ _ (by decide) (.put _ _ _ _ (by decide) (.of_regs rfl)))⟩
  · rw [State.get_put_of_id _ _ _ _ _ _ _ _ (by decide), State.get_put_of_id _ _ _ _ _ _ _ _ (by decide), State.get_put_self]
    rfl
  · rw [State.get_put_of_id _ _ _ _ _ _ _ _ (by decide), State.get_put_self]
    exact trunc_of_lt hhi
  · rw [State.get_put_self]
    rfl

theorem columnStallTimeout_of_gone (ht : tile < 4) (hb : bus < 66) (hsound : (s.bus tile bus).failed = false)
    (hcol : s.busCol tile bus = some col) (hc : col < 64) (hspare : bus < 64 → s.spareGone tile (spareOf bus) = true)
    (hidle : s.flt.under = none) : Does (.columnStallTimeout tile bus) s fun t =>
      t.colOff tile col = true ∧ col ∉ (t.cols tile).switching ∧ t.get Reg.TIL_XINT_COL_OFF tile = 1 ∧ t.recorded 2 (tile * 64 + col) = true ∧
      t.flt.under = some { dt := s.dtRef, code := 0x10, sev := 1, src := tile * 64 + col } ∧
      t.evt.gaps = s.evt.gaps ++ [{ tile := tile, col := some col, kind := 5, start := s.dtRef - 2 ^ 21 }] ∧ t.dtRef = s.dtRef ∧ t.mem = s.mem := by
  refine .of_need rfl (by simp [ht, hb]) ?_
  have hout : ∃ l, s.busFails tile bus = ({ s with xp := { s.xp with cols := l } } : State).columnOut tile col s.dtRef := by
    rcases Nat.lt_or_ge bus 64 with hlow | hhigh
    · have hown : bus = col := by
        rw [State.busCol, if_pos hlow] at hcol
        exact Option.some.inj hcol
      subst hown
      rw [State.busFails_gone hsound hlow (hspare hlow)]
      exact ⟨_, rfl⟩
    · rw [State.busFails_spare hsound hhigh hcol]
      exact ⟨_, rfl⟩
  obtain ⟨l, e⟩ := hout
  have h := State.columnOut_isOut (t := tile) { s with xp := { s.xp with cols := l } } s.dtRef hc
  rw [e]
  exact ⟨h.off, h.switching, h.int, h.recorded, h.under hidle, h.gaps, h.dtRef, h.mem⟩

/-! ### Requests for a spare (R109) -/

theorem State.answerReq_approved {d : Nat} {l : List (Nat × Nat)} (h : (s.cols tile).reqs = (col, d) :: l)
    (hspare : s.spareGone tile (spareOf col) = false) :
    s.answerReq tile true = ((s.setCols tile { s.cols tile with reqs := l }).beginSwitch tile col).showReq tile := by
  rw [← State.spareGone_setReqs s tile l] at hspare
  simp only [State.answerReq, h, hspare, Bool.not_false, Bool.and_self, if_true]

theorem State.answerReq_declined {d : Nat} {l : List (Nat × Nat)} (h : (s.cols tile).reqs = (col, d) :: l) :
    s.answerReq tile false = ((s.setCols tile { s.cols tile with reqs := l }).columnOut tile col d).showReq tile := by
  simp only [State.answerReq, h, Bool.false_and, Bool.false_eq_true, if_false]

/-- A request that is declined takes its column out of service (R109). -/
theorem State.answerReq_isOut {d : Nat} {l : List (Nat × Nat)} (h : (s.cols tile).reqs = (col, d) :: l) (hc : col < 64) :
    s.ColumnIsOut (s.answerReq tile false) tile col d := by
  rw [State.answerReq_declined h]
  have hout := ((s.setCols tile { s.cols tile with reqs := l }).columnOut_isOut (t := tile) d hc).showReq tile
  generalize State.showReq _ _ = u at hout ⊢
  exact ⟨hout.off, hout.switching, hout.int, hout.recorded, hout.under, hout.gaps, hout.dtRef, hout.mem⟩

theorem spareApprove_of_request {d val : Nat} {l : List (Nat × Nat)} (ht : tile < 4) (happrove : val.testBit 0 = true)
    (hdecline : val.testBit 1 = false) (hr : s.responds (0x60088 + 0x1000 * tile) = true) (hc : col < 32)
    (hreqs : (s.cols tile).reqs = (col, d) :: l) (hspare : s.spareGone tile 64 = false) : Does (.spareApprove tile val) s fun t =>
      t.get Reg.TIL_XSPARE_SPA_USED tile = 1 ∧ t.get Reg.TIL_XSPARE_SPA_COL tile = col ∧ (t.cols tile).reqs = l ∧
      col ∈ (t.cols tile).switching ∧ (l = [] → t.get Reg.TIL_XSPARE_REQ_PENDING tile = 0) ∧
      Only [Reg.TIL_XSPARE_SPA_USED, Reg.TIL_XSPARE_SPA_COL, Reg.TIL_XSPARE_REQ_PENDING, Reg.TIL_XSPARE_REQ_COL, Reg.TIL_XINT_SPARE_REQ] s t
        { s with regs := t.regs, xp := { s.xp with cols := t.xp.cols } } := by
  refine .of_bar rfl (by simp [bit, ht, happrove, hdecline, -Nat.testBit_zero]) hr ?_
  have hlt := State.lt_of_reqs hreqs
  have hgone : s.spareGone tile (spareOf col) = false := by rwa [spareOf, if_pos hc]
  rw [State.answerReq_approved hreqs hgone]
  have h := (s.setCols tile { s.cols tile with reqs := l }).beginSwitch_begun tile col hc
  have hcols := h.cols (by rwa [State.setCols_xp, List.length_set])
  rw [State.cols_setCols_self _ _ _ hlt] at hcols
  have hframe := h.frame
  have honly := h.only
  have hused := h.used
  have hcol := h.col_eq
  generalize (s.setCols tile { s.cols tile with reqs := l }).beginSwitch tile col = u at *
  have hshow := u.showReq_only tile
  have hnil := u.showReq_nil tile
  obtain ⟨r, e⟩ := u.showReq_eq tile
  have hcols' : (u.showReq tile).cols tile = u.cols tile := by rw [e]; rfl
  refine ⟨(hshow _ _ _ (by decide)).trans hused, (hshow _ _ _ (by decide)).trans hcol, by rw [hcols', hcols], by rw [hcols', hcols]; simp,
    fun hl => ?_, ?_, ?_⟩
  · rw [hnil (by rw [hcols, hl]), State.get_put_self]
    rfl
  · rw [e, hframe]
    rfl
  · exact (((OnlyFields.of_regs rfl).trans honly).mono (by decide)).trans (hshow.mono (by decide))

theorem spareDecline_of_request {d val : Nat} {l : List (Nat × Nat)} (ht : tile < 4) (hdecline : val.testBit 1 = true)
    (hr : s.responds (0x60088 + 0x1000 * tile) = true) (hc : col < 64) (hreqs : (s.cols tile).reqs = (col, d) :: l) :
    Does (.spareDecline tile val) s fun t =>
      t.colOff tile col = true ∧ t.get Reg.TIL_XINT_COL_OFF tile = 1 ∧ t.recorded 2 (tile * 64 + col) = true ∧
      t.evt.gaps = s.evt.gaps ++ [{ tile := tile, col := some col, kind := 5, start := d - 2 ^ 21 }] ∧ t.dtRef = s.dtRef ∧
      (s.flt.under = none → s.sys.phase = .running → t.flt.under = some { dt := s.dtRef, code := 0x10, sev := 1, src := tile * 64 + col }) := by
  refine .of_bar rfl (by simp [bit, ht, hdecline]) hr ?_
  have h := State.answerReq_isOut hreqs hc
  exact ⟨h.off, h.int, h.recorded, h.gaps, h.dtRef, fun hidle _ => h.under hidle⟩

theorem spareRequestTimeout_of_request {d : Nat} {l : List (Nat × Nat)} (ht : tile < 4) (hc : col < 64)
    (hreqs : (s.cols tile).reqs = (col, d) :: l) : Does (.spareRequestTimeout tile) s fun t =>
      t.colOff tile col = true ∧ t.get Reg.TIL_XINT_COL_OFF tile = 1 ∧ t.recorded 2 (tile * 64 + col) = true ∧
      t.dtRef = max s.dtRef (d + 2 ^ 20) % 2 ^ 64 ∧ { tile := tile, col := some col, kind := 5, start := d - 2 ^ 21 } ∈ t.evt.gaps := by
  have e : exec (.spareRequestTimeout tile) s = need (decide (tile < 4)) ((s.advanceTo (d + 2 ^ 20)).answerReq tile false) := by
    show execSpareRequestTimeout tile s = _
    simp only [execSpareRequestTimeout, hreqs]
  refine .of_need e (decide_eq_true ht) ?_
  have hreqs' : ((s.advanceTo (d + 2 ^ 20)).cols tile).reqs = (col, d) :: l := by rwa [State.cols_advanceTo]
  have h := State.answerReq_isOut hreqs' hc
  exact ⟨h.off, h.int, h.recorded, h.dtRef, by rw [h.gaps]; simp⟩

/-! ### The end of a switch (R109) -/

/-- A tile's columns once the spare stages hold the words of a failed bus. -/
def Cols.switched (x : Cols) (col : Nat) (flips : List (Nat × Nat)) : Cols :=
  let y := x.get col
  let lat : NMap (Option TWord) := y.st.map fun (e : Nat × Option TWord) => (e.1, e.2.map fun w => (w.readWith (flipsAt flips e.1)).1)
  let x := (x.put col { y with st := [], naks := [], rows := [] }).put (spareOf col) { x.get (spareOf col) with st := lat, rows := y.rows }
  { x with switching := x.switching.filter (· != col) }

theorem spareOf_ne {col : Nat} (h : col < 64) : col ≠ spareOf col := by
  unfold spareOf
  split <;> omega

theorem exec_spareSwitchDone_of_switching {flips : List (Nat × Nat)} (h : col ∈ (s.cols tile).switching) :
    ∃ n left, exec (.spareSwitchDone tile col flips) s = need (decide (tile < 4) && decide (col < 64))
      (((((s.setCols tile ((s.cols tile).switched col flips)).poisoned tile n).put Reg.TIL_XINT_COL_SPARED 1 tile).unitOut 2
        (tile * 64 + col)).bringSpare 2 (tile * 64 + col) left) := by
  show ∃ n left, execSpareSwitchDone tile col flips s = _
  simp only [execSpareSwitchDone, List.contains_eq_mem, h, decide_true, Bool.not_true, Bool.false_eq_true, if_false]
  exact ⟨_, _, rfl⟩

theorem spareSwitchDone_of_switching {flips : List (Nat × Nat)} (ht : tile < 4) (hc : col < 64) (h : col ∈ (s.cols tile).switching)
    (hlt : tile < s.xp.cols.length) : Does (.spareSwitchDone tile col flips) s fun t =>
      col ∉ (t.cols tile).switching ∧ (t.bus tile col).st = [] ∧
      (t.bus tile (spareOf col)).st = (s.bus tile col).st.map (fun (e : Nat × Option TWord) => (e.1, e.2.map fun w => (w.readWith (flipsAt flips e.1)).1)) ∧
      t.get Reg.TIL_XINT_COL_SPARED tile = 1 ∧ t.recorded 2 (tile * 64 + col) = true ∧
      Only ([Reg.TIL_XINT_COL_SPARED, Reg.GEN_SPARE_INFO_USED, Reg.GEN_SVC_INT_SPARE_LOW, Reg.TIL_XPOISON_COUNT, Reg.TIL_XINT_POISON, Reg.TIL_XINT_CNT_SAT] ++ auditFields) s t
        { s with regs := t.regs, xp := { s.xp with cols := t.xp.cols }, aud := t.aud, store := t.store, sys := t.sys } := by
  obtain ⟨n, left, e⟩ := exec_spareSwitchDone_of_switching (flips := flips) h
  refine .of_need e (by simp [ht, hc]) ?_
  have hcols := s.cols_setCols_self tile ((s.cols tile).switched col flips) hlt
  have hp := State.poisoned_eq (s.setCols tile ((s.cols tile).switched col flips)) tile n
  have hponly := State.poisoned_only (s.setCols tile ((s.cols tile).switched col flips)) tile n
  generalize State.poisoned (s.setCols tile ((s.cols tile).switched col flips)) tile n = p at *
  have hint : (p.put Reg.TIL_XINT_COL_SPARED 1 tile).get Reg.TIL_XINT_COL_SPARED tile = 1 := State.get_put_self ..
  obtain ⟨r, a, eu⟩ := (p.put Reg.TIL_XINT_COL_SPARED 1 tile).unitOut_eq 2 (tile * 64 + col)
  have huonly := (p.put Reg.TIL_XINT_COL_SPARED 1 tile).unitOut_only 2 (tile * 64 + col)
  generalize (p.put Reg.TIL_XINT_COL_SPARED 1 tile).unitOut 2 (tile * 64 + col) = u at *
  obtain ⟨r', a', l, eb⟩ := u.bringSpare_eq 2 (tile * 64 + col) left
  have hbonly := u.bringSpare_only 2 (tile * 64 + col) left
  generalize u.bringSpare 2 (tile * 64 + col) left = w at *
  have hwcols : w.cols tile = (s.cols tile).switched col flips := by
    rw [← hcols, eb, eu, hp]
    rfl
  have hne := spareOf_ne hc
  refine ⟨?_, ?_, ?_, ?_, ?_, ?_, ?_⟩
  · rw [hwcols]
    simp [Cols.switched]
  · rw [State.bus, hwcols]
    exact congrArg ColBus.st ((Cols.get_put_of_ne _ _ _ hne).trans (Cols.get_put_self ..))
  · rw [State.bus, hwcols]
    exact congrArg ColBus.st (Cols.get_put_self ..)
  · rw [hbonly _ _ _ (by decide), huonly _ _ _ (by decide), hint]
  · rw [eb, eu]
    exact State.recorded_recordUnit _ 2 (tile * 64 + col)
  · rw [eb, eu, hp]
    rfl
  · have hput : OnlyFields [Reg.TIL_XINT_COL_SPARED] p (p.put Reg.TIL_XINT_COL_SPARED 1 tile) := .put _ _ _ _ (by decide) (.refl _ p)
    exact (((OnlyFields.of_regs rfl).trans (hponly.mono (by decide))).trans (hput.mono (by decide))).trans
      ((huonly.mono (by decide)).trans (hbonly.mono (by decide)))

end

/-- Settles O11: the wires of a word, a hop by its parity and its sender, and a bus that fails up to the answers to its request. -/
theorem columnBus : Obligations.ColumnBus :=
  ⟨fun _ h => ⟨TWord.wordOn_wires h, TWord.wires_even h, TWord.readWith_zero h, fun _ => TWord.readWith_flip h⟩,
    fun _ _ _ _ _ _ _ _ ht hb hlo hr hsound hfree hcol hsrc hup hw =>
      columnBusHop_of_granted ⟨ht, hb, hr, hsound, State.hopRoom_stage hlo hfree, hcol, hsrc, hw⟩ hlo hup,
    fun _ _ _ _ _ _ _ ht hb hlo hr hsound hfree hcol hsrc hw =>
      columnBusHop_of_passed ⟨ht, hb, hr, hsound, State.hopRoom_stage hlo hfree, hcol, hsrc, hw⟩ hlo,
    fun _ _ _ _ _ _ ht hb hsound hfoot hcol hsrc hw =>
      columnBusHop_of_landed ⟨ht, hb, by decide, hsound, State.hopRoom_foot hfoot, hcol, hsrc, hw⟩,
    fun _ _ _ _ _ _ _ _ ht hb hr hsound hfoot hfree hcol hsrc hw =>
      columnBusHop_of_odd ⟨ht, hb, hr, hsound, State.hopRoom_of hfoot hfree, hcol, hsrc, hw⟩,
    fun _ _ _ => columnStallTimeout_of_auto,
    fun _ _ _ => columnStallTimeout_of_request,
    fun _ _ _ _ ht hb hsound hcol hc hspare hidle _ => columnStallTimeout_of_gone ht hb hsound hcol hc hspare hidle,
    fun _ _ _ _ => spareSwitchDone_of_switching,
    fun _ _ _ _ _ _ ht ha hd hr hc hreqs hspare _ => spareApprove_of_request ht ha hd hr hc hreqs hspare,
    fun _ _ _ _ _ _ => spareDecline_of_request,
    fun _ _ _ _ _ => spareRequestTimeout_of_request⟩

end Sys2Proof.Machine
end

/-! ## Flits across the bundle -/

section
namespace Sys2Proof.Machine

/-! ### The code of the vias (R96) -/

/-- A sum over a loop's steps. -/
theorem foldl_range_add (g : Nat → Nat) : ∀ n, (List.range n).foldl (fun v i => v + g i) 0 = ∑ i ∈ Finset.range n, g i
  | 0 => rfl
  | n + 1 => by rw [List.range_succ, List.foldl_append, foldl_range_add g n, Finset.sum_range_succ]; rfl

/-- The digits of a number that is written with digits. -/
theorem digit_sum {b : Nat} (n : Nat) {e : Nat → Nat} (he : ∀ i, e i < b) {j : Nat} (hj : j < n) :
    (∑ i ∈ Finset.range n, e i * b ^ i) / b ^ j % b = e j := by
  induction n generalizing e j with
  | zero => omega
  | succ n ih =>
    have hb : 0 < b := Nat.zero_lt_of_lt (he 0)
    have hsplit : ∑ i ∈ Finset.range (n + 1), e i * b ^ i = e 0 + b * ∑ i ∈ Finset.range n, e (i + 1) * b ^ i := by
      rw [Finset.sum_range_succ', Finset.mul_sum, Nat.add_comm]
      congr 1
      · simp
      · exact Finset.sum_congr rfl fun i _ => by ring
    rw [hsplit]
    cases j with
    | zero => rw [Nat.pow_zero, Nat.div_one, Nat.add_mul_mod_self_left, Nat.mod_eq_of_lt (he 0)]
    | succ j =>
      rw [Nat.pow_succ', ← Nat.div_div_eq_div_mul, Nat.add_mul_div_left _ _ hb, Nat.div_eq_of_lt (he 0), Nat.zero_add]
      exact ih (fun i => he (i + 1)) (by omega)

/-- A number is the sum of its digits. -/
theorem sum_digits (b f : Nat) : ∀ n, ∑ i ∈ Finset.range n, f / b ^ i % b * b ^ i = f % b ^ n
  | 0 => by rw [Nat.pow_zero, Nat.mod_one]; rfl
  | n + 1 => by rw [Finset.sum_range_succ, sum_digits b f n, Nat.mod_pow_succ, Nat.mul_comm]

theorem viaDigit_two_pow {d : Nat} (h : d < 4) : viaDigit (2 ^ d) = d := by
  have hd : d = 0 ∨ d = 1 ∨ d = 2 ∨ d = 3 := by omega
  rcases hd with rfl | rfl | rfl | rfl <;> rfl

/-- One via of each group of four is high. -/
theorem flitVias_eq (f : Nat) : flitVias f = ∑ i ∈ Finset.range 148, 2 ^ bits f (2 * i) 2 * 16 ^ i := by
  rw [flitVias, foldl_range_add]
  refine Finset.sum_congr rfl fun i _ => ?_
  rw [Nat.pow_add, Nat.pow_mul, Nat.mul_comm]

theorem two_pow_bits_lt (f i : Nat) : 2 ^ bits f (2 * i) 2 < 16 :=
  calc 2 ^ bits f (2 * i) 2 < 2 ^ 4 := Nat.pow_lt_pow_right (by decide) (Nat.mod_lt _ (by decide))
    _ = 16 := rfl

theorem bits_flitVias (f : Nat) {j : Nat} (hj : j < 148) : bits (flitVias f) (4 * j) 4 = 2 ^ bits f (2 * j) 2 := by
  rw [bits, flitVias_eq, Nat.pow_mul]
  exact digit_sum (b := 16) 148 (fun i => two_pow_bits_lt f i) hj

theorem bits_digit (f i : Nat) : bits f (2 * i) 2 = f / 4 ^ i % 4 := by
  rw [bits, Nat.pow_mul]
  rfl

/-- Every flit crosses the vias as it is (R96). -/
theorem viasFlit_flitVias {f : Nat} (h : f < 2 ^ 296) : viasFlit (flitVias f) = f := by
  rw [viasFlit, foldl_range_add]
  have hdigit : ∀ i ∈ Finset.range 148, viaDigit (bits (flitVias f) (4 * i) 4) * 4 ^ i = f / 4 ^ i % 4 * 4 ^ i := fun i hi => by
    rw [bits_flitVias f (Finset.mem_range.1 hi), bits_digit, viaDigit_two_pow (Nat.mod_lt _ (by decide))]
  have hpow (n : Nat) : 4 ^ n = 2 ^ (2 * n) := by rw [Nat.pow_mul]
  rw [Finset.sum_congr rfl hdigit, sum_digits, hpow, show 2 * 148 = 296 from rfl, Nat.mod_eq_of_lt h]

/-! ### The flit that a transfer forms (R95) -/

theorem crc16_lt (n v : Nat) : crc16 n v < 2 ^ 16 := by
  unfold crc16
  refine List.foldlRecOn (motive := (· < 2 ^ 16)) _ _ (by decide) fun c _ i _ => ?_
  dsimp only
  split
  · exact Nat.xor_lt_two_pow (Nat.mod_lt _ (by decide)) (by decide)
  · exact Nat.mod_lt _ (by decide)

theorem flitSlot_lt (w : TWord) : flitSlot w < 2 ^ 68 := by
  have hl := boolNat_lt w.loss
  have hp := boolNat_lt w.poison
  unfold flitSlot
  omega

theorem flitOf_lt {l : List TWord} (seq : Nat) (h : l.length ≤ 4) : flitOf l seq < 2 ^ 296 := by
  have hslots : ∀ (l : List TWord) (n v : Nat), v < 2 ^ (68 * n) →
      (l.zipIdx n).foldl (fun v x => v + flitSlot x.1 * 2 ^ (68 * x.2)) v < 2 ^ (68 * (n + l.length)) := by
    intro l
    induction l with
    | nil => exact fun n v hv => hv
    | cons w l ih =>
      intro n v hv
      have hnext : v + flitSlot w * 2 ^ (68 * n) < 2 ^ (68 * (n + 1)) :=
        calc v + flitSlot w * 2 ^ (68 * n) < 2 ^ (68 * n) + flitSlot w * 2 ^ (68 * n) := by omega
          _ = (flitSlot w + 1) * 2 ^ (68 * n) := by ring
          _ ≤ 2 ^ 68 * 2 ^ (68 * n) := Nat.mul_le_mul_right _ (flitSlot_lt w)
          _ = 2 ^ (68 * (n + 1)) := by rw [← Nat.pow_add]; congr 1; omega
      have := ih (n + 1) _ hnext
      rwa [List.length_cons, Nat.add_comm l.length 1, ← Nat.add_assoc]
  have hwords := hslots l 0 0 (by decide)
  have hle := Nat.pow_le_pow_right (n := 2) (by decide) (show 68 * (0 + l.length) ≤ 272 by omega)
  have hbody : l.zipIdx.foldl (fun v x => v + flitSlot x.1 * 2 ^ (68 * x.2)) 0 + seq % 256 * 2 ^ 272 < 2 ^ 280 := by
    have := Nat.lt_of_lt_of_le hwords hle
    omega
  have hcrc := crc16_lt 280 (l.zipIdx.foldl (fun v x => v + flitSlot x.1 * 2 ^ (68 * x.2)) 0 + seq % 256 * 2 ^ 272)
  unfold flitOf
  dsimp only
  generalize l.zipIdx.foldl (fun v x => v + flitSlot x.1 * 2 ^ (68 * x.2)) 0 + seq % 256 * 2 ^ 272 = body at *
  generalize crc16 280 body = c at *
  omega

end Sys2Proof.Machine
end

/-! ## The merger and the flits of a bundle -/

section
namespace Sys2Proof.Machine

/-! ### Words leave their feet (R92, R93) -/

theorem State.nodup_feet (s : State) (t : Nat) : (s.feet t).Nodup := by
  refine List.Nodup.filter _ (List.Nodup.map_on (fun a ha b hb h => ?_) List.nodup_range)
  rw [List.mem_range] at ha hb
  omega

/-- The head word of each foot of a list leaves. -/
def State.takeFeet (s : State) (t : Nat) (fs : List Nat) : State :=
  s.each fs fun s f => s.setBus t f { s.bus t f with foot := (s.bus t f).foot.tail }

theorem State.takeFeet_eq (t : Nat) (fs : List Nat) (s : State) : ∃ l, s.takeFeet t fs = { s with xp := { s.xp with cols := l } } := by
  refine State.each_keeps (P := fun u => ∃ l, u = { s with xp := { s.xp with cols := l } }) ?_ fs ⟨_, rfl⟩
  rintro _ f ⟨l, rfl⟩
  exact ⟨_, rfl⟩

theorem State.foot_takeFeet {t : Nat} {fs : List Nat} (hnodup : fs.Nodup) (n : Nat) {s : State} (ht : t < s.xp.cols.length) :
    ((s.takeFeet t fs).bus t n).foot = if n ∈ fs then (s.bus t n).foot.tail else (s.bus t n).foot := by
  induction fs generalizing s with
  | nil => rfl
  | cons f fs ih =>
    obtain ⟨hf, hfs⟩ := List.nodup_cons.1 hnodup
    have hlen : t < (s.setBus t f { s.bus t f with foot := (s.bus t f).foot.tail }).xp.cols.length := by simpa [State.setBus] using ht
    refine (ih hfs hlen).trans ?_
    by_cases hn : n = f
    · subst hn
      rw [if_neg hf, if_pos (.head _), State.bus_setBus_self _ _ _ _ ht]
    · rw [State.bus_setBus_of_ne _ _ _ _ hn]
      simp only [List.mem_cons, hn, false_or]

section
variable {tile : Nat} {s : State}

/-- The words that the merger reads, and whether each has bad parity. -/
def State.readFeet (s : State) (tile : Nat) (flips : List (Nat × Nat)) : List (TWord × Bool) :=
  ((s.feet tile).take 4).filterMap fun f => (s.bus tile f).foot.head?.map fun (w : TWord) => w.readWith (flipsAt flips f)

theorem flitForm_of_words {flips : List (Nat × Nat)} (ht : tile < 4) (hfeet : s.feet tile ≠ []) (hformed : (s.bnd tile).formed = []) :
    Does (.flitForm tile flips) s fun t =>
      t = (((s.takeFeet tile ((s.feet tile).take 4)).poisoned tile ((s.readFeet tile flips).filter (·.2)).length)).setBnd tile
        { s.bnd tile with formed := (s.readFeet tile flips).map (·.1), lastFoot := ((s.feet tile).take 4).getLastD (s.bnd tile).lastFoot } := by
  refine .of_need rfl (decide_eq_true ht) ?_
  have hgo : ¬((s.feet tile).take 4 = [] ∨ (s.bnd tile).formed ≠ []) := by simp [hfeet, hformed]
  exact if_neg hgo

theorem flitForm_fills {flips : List (Nat × Nat)} {n : Nat} (ht : tile < 4) (hfeet : s.feet tile ≠ []) (hformed : (s.bnd tile).formed = [])
    (hlt : tile < s.xp.bnd.length) : Does (.flitForm tile flips) s fun t =>
      let ws := s.readFeet tile flips
      (t.bnd tile).formed = ws.map (·.1) ∧ (t.bnd tile).lastFoot = ((s.feet tile).take 4).getLastD (s.bnd tile).lastFoot ∧
      (tile < s.xp.cols.length → (t.bus tile n).foot = if n ∈ (s.feet tile).take 4 then (s.bus tile n).foot.tail else (s.bus tile n).foot) ∧
      (ws.any (·.2) = true → t.get Reg.TIL_XINT_POISON tile = 1) ∧
      (ws.any (·.2) = false → t = { s with xp := t.xp }) ∧
      Only [Reg.TIL_XPOISON_COUNT, Reg.TIL_XINT_POISON, Reg.TIL_XINT_CNT_SAT] s t { s with regs := t.regs, xp := t.xp } := by
  obtain ⟨t, e, rfl⟩ := flitForm_of_words (flips := flips) ht hfeet hformed
  refine ⟨_, e, ?_⟩
  have hfoot := State.foot_takeFeet (t := tile) ((s.nodup_feet tile).sublist (List.take_sublist 4 _)) n (s := s)
  obtain ⟨l, eu⟩ := State.takeFeet_eq tile ((s.feet tile).take 4) s
  generalize s.takeFeet tile ((s.feet tile).take 4) = u at *
  generalize s.readFeet tile flips = ws
  have hp := u.poisoned_eq tile (ws.filter (·.2)).length
  have hbus : (u.poisoned tile (ws.filter (·.2)).length).bus tile n = u.bus tile n := by rw [hp]; rfl
  have hlt' : tile < (u.poisoned tile (ws.filter (·.2)).length).xp.bnd.length := by rwa [hp, eu]
  refine ⟨?_, ?_, fun hc => ?_, fun hany => ?_, fun hnone => ?_, ?_, ?_⟩
  · rw [State.bnd_setBnd_self _ _ _ hlt']
  · rw [State.bnd_setBnd_self _ _ _ hlt']
  · rw [State.bus_setBnd, hbus, hfoot hc]
  · obtain ⟨x, hx, hbad⟩ := List.any_eq_true.1 hany
    exact u.get_poisoned tile _ (List.length_pos_of_mem (List.mem_filter.2 ⟨hx, hbad⟩))
  · have hnil : ws.filter (·.2) = [] := List.filter_eq_nil_iff.2 fun x hx => List.any_eq_false.1 hnone x hx
    rw [hnil, List.length_nil, State.poisoned_zero, eu]
    rfl
  · rw [hp, eu]
    rfl
  · have hu : OnlyFields [Reg.TIL_XPOISON_COUNT, Reg.TIL_XINT_POISON, Reg.TIL_XINT_CNT_SAT] s u := by
      rw [eu]
      exact .of_regs rfl
    exact hu.trans ((u.poisoned_only tile _).trans (.of_regs rfl))

/-! ### A flit crosses and is checked (R96 to R99) -/

/-- The bundle takes a flit: the receiver has room, and neither a fault nor a via test stands. -/
def State.crosses (s : State) (tile : Nat) : Prop :=
  (s.bnd tile).latched.length + (s.bnd tile).words.length < 32 ∧ s.get Reg.TIL_BND_STATUS_STATE tile ≠ 3 ∧ (s.bnd tile).test = false

theorem State.crosses.not_held (h : s.crosses tile) :
    ¬(32 ≤ (s.bnd tile).buffered ∨ s.get Reg.TIL_BND_STATUS_STATE tile = 3 ∨ (s.bnd tile).test = true) := by
  obtain ⟨hroom, hstate, htest⟩ := h
  simp [Bundle.buffered, hroom, hstate, htest]

theorem flitTransfer_of_held {f : Nat} (ht : tile < 4) (hheld : (s.bnd tile).held[(s.bnd tile).sent]? = some f) (hf : f < 2 ^ 296)
    (hgo : s.crosses tile) : Does (.flitTransfer tile) s fun t =>
      let b := s.bnd tile
      t = (s.xcount Reg.TIL_BND_REPLAY_COUNT tile).setBnd tile { b with latched := b.latched ++ [{ flit := f, gen := b.gen }], sent := b.sent + 1 } := by
  refine .of_need rfl (decide_eq_true ht) ?_
  simp only [if_neg hgo.not_held, hheld, viasFlit_flitVias hf]

theorem flitTransfer_of_formed (ht : tile < 4) (hheld : (s.bnd tile).held[(s.bnd tile).sent]? = none) (hroom : (s.bnd tile).held.length < 16)
    (hformed : (s.bnd tile).formed ≠ []) (hlen : (s.bnd tile).formed.length ≤ 4) (hgo : s.crosses tile) :
    Does (.flitTransfer tile) s fun t =>
      let b := s.bnd tile
      let f := flitOf b.formed b.seq
      t = s.setBnd tile { b with latched := b.latched ++ [{ flit := f, gen := b.gen }], held := b.held ++ [f], sent := b.sent + 1, seq := (b.seq + 1) % 256, formed := [] } := by
  refine .of_need rfl (decide_eq_true ht) ?_
  have hready : ¬((s.bnd tile).formed = [] ∨ 16 ≤ (s.bnd tile).held.length) := by simp [hformed, hroom]
  simp only [if_neg hgo.not_held, hheld, if_neg hready, viasFlit_flitVias (flitOf_lt _ hlen)]

section
variable {flips : Nat} {x : Latched} {rest : List Latched}

theorem flitCheck_of_skipped (ht : tile < 4) (hlatched : (s.bnd tile).latched = x :: rest) (hskip : (s.bnd tile).skip = some x.gen) :
    Does (.flitCheck tile flips) s fun t => t = s.setBnd tile { s.bnd tile with latched := rest } := by
  refine .of_need rfl (decide_eq_true ht) ?_
  simp only [hlatched, hskip, if_true]

/-- The check of a flit that is not discarded finds it right or wrong. -/
theorem exec_flitCheck_of_latched (ht : tile < 4) (hlatched : (s.bnd tile).latched = x :: rest) (hskip : (s.bnd tile).skip ≠ some x.gen)
    {f : Nat} (hf : Nat.xor x.flit (flips % 2 ^ 296) = f) :
    exec (.flitCheck tile flips) s = .next (
      let b := s.bnd tile
      if flitCrcOk f && flitSeq f == (s.get Reg.TIL_BND_STATUS_LAST_SEQ tile + 1) % 256 then
        (((s.setBnd tile { b with
            latched := rest, tokens := b.tokens ++ [true], fails := 0, skip := none, due := false, gap := false, waitFrom := none
            words := if flitWords f = [] then b.words else b.words ++ [flitWords f]
            since := if b.words = [] then s.dtRef else b.since }).put Reg.TIL_BND_STATUS_LAST_SEQ (flitSeq f) tile).put
          Reg.TIL_BND_STATUS_STATE 1 tile).cond b.gap (·.closeGap tile 6)
      else
        let u := (s.setBnd tile { b with
            latched := rest, tokens := b.tokens ++ [false], fails := b.fails + 1, skip := some x.gen
            due := (b.fails + 1) % 3 == 0, waitFrom := some s.dtRef }).put Reg.TIL_BND_STATUS_STATE 2 tile
        if 8 ≤ b.fails + 1 then u.bundleFault tile else u) := by
  subst hf
  show execFlitCheck tile flips s = _
  simp only [execFlitCheck, hlatched, if_neg hskip, ht, decide_true, need_true]

theorem flitCheck_of_right (ht : tile < 4) (hlatched : (s.bnd tile).latched = x :: rest) (hskip : (s.bnd tile).skip ≠ some x.gen)
    (hgap : (s.bnd tile).gap = false) {f : Nat} (hf : Nat.xor x.flit (flips % 2 ^ 296) = f) (hcrc : flitCrcOk f = true)
    (hseq : flitSeq f = (s.get Reg.TIL_BND_STATUS_LAST_SEQ tile + 1) % 256) : Does (.flitCheck tile flips) s fun t =>
      let b := s.bnd tile
      t.get Reg.TIL_BND_STATUS_LAST_SEQ tile = flitSeq f ∧ t.get Reg.TIL_BND_STATUS_STATE tile = 1 ∧
      t.xp = (s.setBnd tile { b with latched := rest, tokens := b.tokens ++ [true], fails := 0, skip := none, due := false, waitFrom := none
                                     words := if flitWords f = [] then b.words else b.words ++ [flitWords f]
                                     since := if b.words = [] then s.dtRef else b.since }).xp ∧
      Only [Reg.TIL_BND_STATUS_LAST_SEQ, Reg.TIL_BND_STATUS_STATE] s t { s with regs := t.regs, xp := t.xp } := by
  have hright : (flitCrcOk f && flitSeq f == (s.get Reg.TIL_BND_STATUS_LAST_SEQ tile + 1) % 256) = true := by rw [hcrc, ← hseq]; simp
  refine .of_next (exec_flitCheck_of_latched ht hlatched hskip hf) ?_
  dsimp only
  rw [if_pos hright, hgap, State.cond_false]
  refine ⟨?_, State.get_put_self .., ?_, rfl, ?_⟩
  · rw [State.get_put_of_id _ _ _ _ _ _ _ _ (by decide), State.get_put_self]
    exact Nat.mod_eq_of_lt (hseq.trans_lt (Nat.mod_lt _ (by decide)))
  · simp only [State.put_xp, ← hgap]
  · exact .put _ _ _ _ (by decide) (.put _ _ _ _ (by decide) (.of_regs rfl))

theorem flitCheck_of_wrong (ht : tile < 4) (hlatched : (s.bnd tile).latched = x :: rest) (hskip : (s.bnd tile).skip ≠ some x.gen)
    (hfails : (s.bnd tile).fails < 7) {f : Nat} (hf : Nat.xor x.flit (flips % 2 ^ 296) = f)
    (hbad : flitCrcOk f = false ∨ flitSeq f ≠ (s.get Reg.TIL_BND_STATUS_LAST_SEQ tile + 1) % 256) : Does (.flitCheck tile flips) s fun t =>
      let b := s.bnd tile
      t = (s.setBnd tile { b with latched := rest, tokens := b.tokens ++ [false], fails := b.fails + 1, skip := some x.gen
                                  due := (b.fails + 1) % 3 == 0, waitFrom := some s.dtRef }).put Reg.TIL_BND_STATUS_STATE 2 tile := by
  have hwrong : (flitCrcOk f && flitSeq f == (s.get Reg.TIL_BND_STATUS_LAST_SEQ tile + 1) % 256) = false := by
    rcases hbad with h | h <;> simp [h]
  refine .of_next (exec_flitCheck_of_latched ht hlatched hskip hf) ?_
  dsimp only
  rw [hwrong, if_neg Bool.false_ne_true, if_neg (by omega)]

end

/-! ### The answers (R98, R99) -/

theorem chkOk_of_token {l : List Bool} (ht : tile < 4) (htok : (s.bnd tile).tokens = true :: l) : Does (.chkOk tile) s fun t =>
    let b := s.bnd tile
    t = s.setBnd tile { b with tokens := l, held := b.held.tail, sent := b.sent - 1 } := by
  refine .of_need rfl (decide_eq_true ht) ?_
  simp only [htok, Bundle.chkOk, List.tail_cons]

theorem chkNak_of_token {l : List Bool} (ht : tile < 4) (htok : (s.bnd tile).tokens = false :: l) : Does (.chkNak tile) s fun t =>
    let b := s.bnd tile
    t = s.setBnd tile { b with tokens := l, sent := 0, gen := b.gen + 1 } := by
  refine .of_need rfl (decide_eq_true ht) ?_
  simp only [htok, Bundle.resend]

theorem viaTestStart_of_cause {stuck : Bool} (ht : tile < 4) (htest : (s.bnd tile).test = false)
    (hstate : s.get Reg.TIL_BND_STATUS_STATE tile ≠ 3) (hcause : (s.bnd tile).due = true ∨ stuck = true) (htok : (s.bnd tile).tokens = []) :
    Does (.viaTestStart tile stuck) s fun t =>
      t = (s.setBnd tile { s.bnd tile with link := .test, latched := [], due := false, test := true, waitFrom := some s.dtRef }).put
        Reg.TIL_BND_STATUS_STATE 2 tile := by
  refine .of_need rfl (decide_eq_true ht) ?_
  have hgo : ¬((s.bnd tile).test = true ∨ s.get Reg.TIL_BND_STATUS_STATE tile = 3 ∨ ((s.bnd tile).due = false ∧ stuck = false)) := by
    rcases hcause with h | h <;> simp [htest, hstate, h]
  simp only [if_neg hgo, htok, List.foldl_nil]

end

end Sys2Proof.Machine
end

/-! ## The via test -/

section
namespace Sys2Proof.Machine

/-! ### A failed via takes a spare (R99, R512) -/

section
variable (s : State) (kind t : Nat)

/-- The lowest number that no recorded via of a group has. -/
def State.freeVia (s : State) (kind t : Nat) : Nat := ((List.range 64).find? fun u => !s.recorded kind (t * 64 + u)).getD 63

/-- One via of a group fails and takes a spare. -/
def State.spareVia (s : State) (kind t : Nat) : State :=
  let u := t * 64 + s.freeVia kind t
  (s.unitOut kind u).bringSpare kind u (viaSpares kind - (s.viasUsed kind t + 1))

theorem State.viaSpare_succ (n : Nat) : s.viaSpare kind t (n + 1) = (s.viaSpare kind t n).spareVia kind t := by
  simp only [State.viaSpare, State.each, List.range_succ, List.foldl_append, List.foldl_cons, List.foldl_nil, State.spareVia, State.freeVia]

theorem State.recorded_iff (unit : Nat) : s.recorded kind unit = true ↔ unit ∈ s.unitsOut kind := by
  simp [State.recorded, State.unitsOut]

theorem State.freeVia_lt : s.freeVia kind t < 64 := by
  unfold State.freeVia
  cases h : (List.range 64).find? fun u => !s.recorded kind (t * 64 + u) with
  | none => decide
  | some u => exact List.mem_range.1 (List.mem_of_find?_eq_some h)

/-- A group with fewer than 64 recorded vias has one that is not recorded. -/
theorem State.recorded_freeVia (h : s.viasUsed kind t < 64) : s.recorded kind (t * 64 + s.freeVia kind t) = false := by
  unfold State.freeVia
  cases hfind : (List.range 64).find? fun u => !s.recorded kind (t * 64 + u) with
  | some u => simpa using List.find?_some hfind
  | none =>
    have hall : ∀ u < 64, s.recorded kind (t * 64 + u) = true := by simpa using hfind
    have hsub : (List.range 64).map (t * 64 + ·) ⊆ (s.unitsOut kind).filter fun u => u / 64 == t := by
      intro v hv
      obtain ⟨u, hu, rfl⟩ := List.mem_map.1 hv
      have hu' := List.mem_range.1 hu
      have hdiv : (t * 64 + u) / 64 = t := by omega
      exact List.mem_filter.2 ⟨(s.recorded_iff kind _).1 (hall u hu'), by simp [hdiv]⟩
    have hnodup : ((List.range 64).map (t * 64 + ·)).Nodup := List.nodup_range.map (add_right_injective _)
    have hle := (hnodup.subperm hsub).length_le
    rw [List.length_map, List.length_range] at hle
    exact absurd h (Nat.not_lt.2 hle)

theorem State.unitsOut_recordUnit {unit : Nat} (h : s.recorded kind unit = false) :
    (s.recordUnit kind unit).unitsOut kind = s.unitsOut kind ++ [unit] := by
  have hkeep : s.store.units.filter (fun u => u.1 != kind || u.2.1 != unit) = s.store.units := by
    refine List.filter_eq_self.2 fun u hu => ?_
    have := List.any_eq_false.1 h u hu
    simp only [Bool.and_eq_true, beq_iff_eq, not_and] at this
    by_cases hkind : u.1 = kind
    · simp [this hkind]
    · simp [hkind]
  simp [State.unitsOut, State.recordUnit, hkeep]

theorem State.viasUsed_recordUnit {unit : Nat} (h : s.recorded kind unit = false) (hunit : unit / 64 = t) :
    (s.recordUnit kind unit).viasUsed kind t = s.viasUsed kind t + 1 := by
  simp [State.viasUsed, s.unitsOut_recordUnit kind h, hunit]

end

/-- Between the two states `n` vias of a group have taken spares. -/
structure State.TakesVias (s u : State) (kind t n : Nat) : Prop where
  used : u.viasUsed kind t = s.viasUsed kind t + n
  frame : ∃ r a l x, u = { s with regs := r, aud := a, store := l, sys := { s.sys with retested := x } }
  only : OnlyFields spareFields s u

section
variable {s : State} {kind t : Nat}

theorem State.spareVia_takes (h : s.viasUsed kind t < 64) : s.TakesVias (s.spareVia kind t) kind t 1 := by
  have hfree := s.recorded_freeVia kind t h
  have hlt := s.freeVia_lt kind t
  unfold State.spareVia
  dsimp only
  generalize s.freeVia kind t = n at *
  obtain ⟨r, a, eu⟩ := s.unitOut_eq kind (t * 64 + n)
  have honly := s.unitOut_only kind (t * 64 + n)
  have hused : (s.unitOut kind (t * 64 + n)).viasUsed kind t = s.viasUsed kind t + 1 := by
    rw [eu]
    exact State.viasUsed_recordUnit { s with regs := r, aud := a } kind t hfree (by omega)
  generalize s.unitOut kind (t * 64 + n) = u at *
  have hbonly := u.bringSpare_only kind (t * 64 + n) (viaSpares kind - (s.viasUsed kind t + 1))
  obtain ⟨r', a', l, eb⟩ := u.bringSpare_eq kind (t * 64 + n) (viaSpares kind - (s.viasUsed kind t + 1))
  generalize u.bringSpare kind (t * 64 + n) (viaSpares kind - (s.viasUsed kind t + 1)) = w at *
  refine ⟨?_, ?_, (honly.mono fun _ hf => List.mem_append_right _ hf).trans hbonly⟩
  · rw [← hused, eb]
    rfl
  · rw [eb, eu]
    exact ⟨_, _, _, _, rfl⟩

theorem State.viaSpare_takes {n : Nat} (h : s.viasUsed kind t + n ≤ 64) : s.TakesVias (s.viaSpare kind t n) kind t n := by
  induction n with
  | zero => exact ⟨rfl, ⟨_, _, _, _, rfl⟩, .refl _ s⟩
  | succ n ih =>
    obtain ⟨hused, hframe, honly⟩ := ih (by omega)
    rw [State.viaSpare_succ]
    generalize s.viaSpare kind t n = u at *
    obtain ⟨hused', hframe', honly'⟩ := State.spareVia_takes (show u.viasUsed kind t < 64 by omega)
    refine ⟨by omega, ?_, honly.trans honly'⟩
    obtain ⟨_, _, _, _, rfl⟩ := hframe
    obtain ⟨_, _, _, _, e⟩ := hframe'
    exact ⟨_, _, _, _, e⟩

/-! ### The end of a test (R99, R101) -/

/-- A via test has found `n` vias that spares replace. -/
def State.viaTested (s : State) (tile n : Nat) : State :=
  ((s.viaSpare 3 tile n).showVias tile).cond (decide (0 < n)) (·.put Reg.TIL_XINT_VIA_SPARED 1 tile)

/-- What a via test's spares can change. -/
def viaFields : List Fld := [Reg.TIL_BND_STATUS_VIA_USED, Reg.TIL_BND_STATUS_VIA_LEFT, Reg.TIL_XINT_VIA_SPARED] ++ spareFields

/-- The spares that a via test has brought in, and the fields that show them. -/
structure State.ViasShown (s u : State) (tile n : Nat) : Prop where
  used : u.get Reg.TIL_BND_STATUS_VIA_USED tile = s.viasUsed 3 tile + n
  left : u.get Reg.TIL_BND_STATUS_VIA_LEFT tile = 48 - (s.viasUsed 3 tile + n)
  int : 1 ≤ n → u.get Reg.TIL_XINT_VIA_SPARED tile = 1
  frame : ∃ r a l x, u = { s with regs := r, aud := a, store := l, sys := { s.sys with retested := x } }
  only : OnlyFields viaFields s u

theorem State.showVias_shown {u : State} {tile n : Nat} (h : s.TakesVias u 3 tile n) (hn : s.viasUsed 3 tile + n ≤ 48) :
    (u.showVias tile).get Reg.TIL_BND_STATUS_VIA_USED tile = s.viasUsed 3 tile + n ∧
    (u.showVias tile).get Reg.TIL_BND_STATUS_VIA_LEFT tile = 48 - (s.viasUsed 3 tile + n) ∧
    OnlyFields viaFields s (u.showVias tile) ∧
    ∃ r a l x, u.showVias tile = { s with regs := r, aud := a, store := l, sys := { s.sys with retested := x } } := by
  obtain ⟨_, _, _, _, e⟩ := h.frame
  rw [State.showVias, h.used]
  refine ⟨?_, ?_, .put _ _ _ _ (by decide) (.put _ _ _ _ (by decide) (h.only.mono fun _ hf => List.mem_append_right _ hf)),
    ⟨_, _, _, _, by rw [e]; rfl⟩⟩
  · rw [State.get_put_of_id _ _ _ _ _ _ _ _ (by decide), State.get_put_self]
    exact Nat.mod_eq_of_lt (show _ < 64 by omega)
  · rw [State.get_put_self]
    exact Nat.mod_eq_of_lt (show 48 - _ < 64 by omega)

theorem State.viaTested_shown {tile n : Nat} (hn : s.viasUsed 3 tile + n ≤ 48) : s.ViasShown (s.viaTested tile n) tile n := by
  obtain ⟨hused, hleft, honly, r, a, l, x, e⟩ := State.showVias_shown (State.viaSpare_takes (by omega)) hn
  unfold State.viaTested
  generalize (s.viaSpare 3 tile n).showVias tile = u at *
  rcases Nat.eq_zero_or_pos n with rfl | hpos
  · exact ⟨hused, hleft, fun h => absurd h (by decide), ⟨_, _, _, _, e⟩, honly⟩
  · rw [decide_eq_true hpos, State.cond_true]
    refine ⟨?_, ?_, fun _ => State.get_put_self .., ⟨_, _, _, _, by rw [e]; rfl⟩, .put _ _ _ _ (by decide) honly⟩
    · rwa [State.get_put_of_id _ _ _ _ _ _ _ _ (by decide)]
    · rwa [State.get_put_of_id _ _ _ _ _ _ _ _ (by decide)]

/-- The transmitter resends, and the link runs. -/
def State.linkRuns (s : State) (tile : Nat) (b : Bundle) : State :=
  (s.setBnd tile { b.resend with link := .run, test := false, owed := false }).put Reg.TIL_BND_STATUS_STATE (if b.fails = 0 then 1 else 2) tile

theorem State.linkRuns_state (s : State) (tile : Nat) (b : Bundle) :
    (s.linkRuns tile b).get Reg.TIL_BND_STATUS_STATE tile = if b.fails = 0 then 1 else 2 := by
  rw [State.linkRuns, State.get_put_self]
  split <;> rfl

theorem State.get_linkRuns (s : State) (tile : Nat) (b : Bundle) {f : Fld} (h : f.id ≠ Reg.TIL_BND_STATUS_STATE.id) (i j : Nat) :
    (s.linkRuns tile b).get f i j = s.get f i j := State.get_put_of_id _ _ _ _ _ _ _ _ h

variable {tile failed : Nat}

theorem exec_viaTestEnd_of_test (ht : tile < 4) (htest : (s.bnd tile).test = true) :
    exec (.viaTestEnd tile failed) s = .next (
      let b := s.bnd tile
      let n := min failed (48 - s.viasUsed 3 tile)
      let u := s.viaTested tile n
      if n < failed then (u.setBnd tile { b with link := .halt, test := false, owed := true }).bundleFault tile
      else
        let v := u.linkRuns tile b
        v.cond (b.owed && v.flag Reg.TIL_CTRL_EN tile) fun s => s.setTile tile { s.tile tile with firstDue := some (s.dtRef + 1) }) := by
  show execViaTestEnd tile failed s = _
  simp only [execViaTestEnd, htest, Bool.not_true, Bool.false_eq_true, if_false, ht, decide_true, need_true]
  rfl

theorem viaTestEnd_of_spares (ht : tile < 4) (htest : (s.bnd tile).test = true) (hspares : s.viasUsed 3 tile + failed ≤ 48) :
    Does (.viaTestEnd tile failed) s fun t => t.get Reg.TIL_BND_STATUS_STATE tile = (if (s.bnd tile).fails = 0 then 1 else 2) ∧
      t.get Reg.TIL_BND_STATUS_VIA_USED tile = s.viasUsed 3 tile + failed ∧ t.get Reg.TIL_BND_STATUS_VIA_LEFT tile = 48 - (s.viasUsed 3 tile + failed) ∧
      (1 ≤ failed → t.get Reg.TIL_XINT_VIA_SPARED tile = 1) ∧
      t.xp = (s.setBnd tile { (s.bnd tile).resend with link := .run, test := false, owed := false }).xp ∧
      ((s.bnd tile).owed = false → t.til = s.til) ∧
      ((s.bnd tile).owed = true → s.flag Reg.TIL_CTRL_EN tile = true → tile < s.til.t.length → (t.tile tile).firstDue = some (s.dtRef + 1)) ∧
      t.dtRef = s.dtRef ∧ t.mem = s.mem := by
  refine .of_next (exec_viaTestEnd_of_test ht htest) ?_
  have hmin : min failed (48 - s.viasUsed 3 tile) = failed := by omega
  dsimp only
  rw [hmin, if_neg (Nat.lt_irrefl _)]
  obtain ⟨hused, hleft, hint, ⟨r, a, l, x, e⟩, honly⟩ := State.viaTested_shown hspares
  generalize s.viaTested tile failed = u at *
  have hen : u.flag Reg.TIL_CTRL_EN tile = s.flag Reg.TIL_CTRL_EN tile := congrArg (· != 0) (honly _ _ _ (by decide))
  have hstate := u.linkRuns_state tile (s.bnd tile)
  have hget (f : Fld) (hid : f.id ≠ Reg.TIL_BND_STATUS_STATE.id) := u.get_linkRuns tile (s.bnd tile) hid tile 0
  have hxp : (u.linkRuns tile (s.bnd tile)).xp = (s.setBnd tile { (s.bnd tile).resend with link := .run, test := false, owed := false }).xp := by
    rw [e]
    rfl
  have hrest : (u.linkRuns tile (s.bnd tile)).til = s.til ∧ (u.linkRuns tile (s.bnd tile)).dtRef = s.dtRef ∧
      (u.linkRuns tile (s.bnd tile)).mem = s.mem := by
    rw [e]
    exact ⟨rfl, rfl, rfl⟩
  obtain ⟨htil, hdt, hmem⟩ := hrest
  generalize u.linkRuns tile (s.bnd tile) = v at *
  rw [← hget _ (by decide)] at hused hleft hint
  have hven : v.flag Reg.TIL_CTRL_EN tile = s.flag Reg.TIL_CTRL_EN tile := (congrArg (· != 0) (hget _ (by decide))).trans hen
  rw [hven]
  cases howed : (s.bnd tile).owed with
  | false => exact ⟨hstate, hused, hleft, hint, hxp, fun _ => htil, nofun, hdt, hmem⟩
  | true =>
    cases hon : s.flag Reg.TIL_CTRL_EN tile with
    | false => exact ⟨hstate, hused, hleft, hint, hxp, nofun, fun _ => nofun, hdt, hmem⟩
    | true =>
      refine ⟨hstate, hused, hleft, hint, hxp, nofun, fun _ _ hlt => ?_, hdt, hmem⟩
      rw [Bool.and_true, State.cond_true, State.tile_setTile_self _ _ _ (by rwa [htil]), hdt]

theorem viaTestEnd_of_no_spare (ht : tile < 4) (htest : (s.bnd tile).test = true) (hused : s.viasUsed 3 tile ≤ 48)
    (hfailed : 48 < s.viasUsed 3 tile + failed) (hstate : s.get Reg.TIL_BND_STATUS_STATE tile ≠ 3) (hlt : tile < s.xp.bnd.length) :
    Does (.viaTestEnd tile failed) s fun t => t.get Reg.TIL_BND_STATUS_STATE tile = 3 ∧ (t.bnd tile).link = .halt ∧
      t.get Reg.TIL_BND_STATUS_VIA_USED tile = 48 ∧ t.get Reg.TIL_BND_STATUS_VIA_LEFT tile = 0 ∧ t.get Reg.TIL_XINT_BND_FAULT tile = 1 ∧
      ({ t with dtRef := t.dtRef + 1 } : State).gated tile = true ∧
      (s.flt.under = none → s.sys.phase = .running → t.flt.under = some { dt := s.dtRef, code := 7, sev := 3, src := tile }) := by
  refine .of_next (exec_viaTestEnd_of_test ht htest) ?_
  have hmin : min failed (48 - s.viasUsed 3 tile) = 48 - s.viasUsed 3 tile := by omega
  have hfew : 48 - s.viasUsed 3 tile < failed := by omega
  dsimp only
  rw [hmin, if_pos hfew]
  obtain ⟨hshow, hleft, -, ⟨r, a, l, x, e⟩, honly⟩ := State.viaTested_shown (show s.viasUsed 3 tile + (48 - s.viasUsed 3 tile) ≤ 48 by omega)
  rw [Nat.add_sub_cancel' hused] at hshow hleft
  generalize s.viaTested tile (48 - s.viasUsed 3 tile) = u at *
  have hstate' : (u.setBnd tile { s.bnd tile with link := .halt, test := false, owed := true }).get Reg.TIL_BND_STATUS_STATE tile ≠ 3 := by
    rw [State.get_setBnd, honly _ _ _ (by decide)]
    exact hstate
  have h := State.bundleFault_halted hstate'
  refine ⟨h.state, ?_, ?_, ?_, h.int, h.gated, fun hidle _ => ?_⟩
  · rw [h.bnd (by simpa [State.setBnd, e] using hlt)]
    rfl
  · rw [h.only _ _ _ (by decide), State.get_setBnd, hshow]
  · rw [h.only _ _ _ (by decide), State.get_setBnd, hleft]
  · have hnone : (u.setBnd tile { s.bnd tile with link := .halt, test := false, owed := true }).flt.under = none := by rw [e]; exact hidle
    rw [h.under hnone, e]
    rfl

end

/-- Settles O12: the merger's flit, its transfer and check, the answers, the via test from its start to either end, and the vias' code. -/
theorem bundleTransfer : Obligations.BundleTransfer :=
  ⟨fun _ => viasFlit_flitVias,
    fun _ _ _ _ ht _ => flitForm_fills ht,
    fun _ _ _ ht hheld hf hroom hstate htest => flitTransfer_of_held ht hheld hf ⟨hroom, hstate, htest⟩,
    fun _ _ ht hheld hheldRoom hroom hformed hlen hstate htest =>
      flitTransfer_of_formed ht hheld hheldRoom hformed hlen ⟨hroom, hstate, htest⟩,
    fun _ _ _ _ _ ht hlatched hskip hgap => flitCheck_of_right ht hlatched hskip hgap rfl,
    fun _ _ _ _ _ ht hlatched hskip hfails => flitCheck_of_wrong ht hlatched hskip hfails rfl,
    fun _ _ _ _ _ => flitCheck_of_skipped,
    fun _ _ _ => chkOk_of_token,
    fun _ _ _ => chkNak_of_token,
    fun _ _ _ => viaTestStart_of_cause,
    fun _ _ _ ht htest hspares _ => viaTestEnd_of_spares ht htest hspares,
    fun _ _ _ => viaTestEnd_of_no_spare⟩

end Sys2Proof.Machine
end

/-! ## What the operations of the time base leave -/

section
namespace Sys2Proof.Machine

/-! ### Changes of register fields and of the discipline -/

/-- Register fields of `l` and what the discipline holds beside them differ, and nothing else. -/
def TimOnly (l : List Fld) (s t : State) : Prop := Only l s t { s with regs := t.regs, tim := t.tim }

section
variable {l : List Fld} {s u w : State}

theorem TimOnly.refl (l : List Fld) (s : State) : TimOnly l s s := ⟨rfl, .refl l s⟩

theorem TimOnly.trans (h : TimOnly l s u) (h' : TimOnly l u w) : TimOnly l s w :=
  ⟨by rw [h'.1, h.1], h.2.trans h'.2⟩

theorem TimOnly.mono {l' : List Fld} (h : TimOnly l s u) (hl : ∀ f ∈ l, f ∈ l') : TimOnly l' s u := ⟨h.1, h.2.mono hl⟩

theorem TimOnly.tim (h : TimOnly l s u) (x : Tim) : TimOnly l s { u with tim := x } := h.trans ⟨rfl, .of_regs rfl⟩

theorem TimOnly.put (f : Fld) (v i j : Nat) (hf : f ∈ l) (h : TimOnly l s u) : TimOnly l s (u.put f v i j) :=
  h.trans ⟨rfl, .put f v i j hf (.refl l u)⟩

theorem TimOnly.of_regsOnly (h : RegsOnly l s u) : TimOnly l s u := ⟨by rw [h.1], h.2⟩

theorem TimOnly.cond {c : Bool} {f : State → State} (h : TimOnly l s u) (hf : TimOnly l s u → TimOnly l s (f u)) :
    TimOnly l s (u.cond c f) := by
  unfold State.cond
  split
  · exact hf h
  · exact h

theorem TimOnly.each {α : Type} {f : State → α → State} (hf : ∀ u a, TimOnly l s u → TimOnly l s (f u a)) :
    ∀ (m : List α) {u : State}, TimOnly l s u → TimOnly l s (u.each m f)
  | [], _, h => h
  | a :: m, u, h => TimOnly.each hf m (hf u a h)

theorem TimOnly.get (h : TimOnly l s u) {f : Fld} (hf : f.id ∉ l.map (·.id)) (i j : Nat) : u.get f i j = s.get f i j := h.2 f i j hf

theorem TimOnly.dtRef (h : TimOnly l s u) : u.dtRef = s.dtRef := by rw [h.1]

/-- The same after a time: DT has moved on, and the counters of reference periods may have. -/
theorem TimOnly.after_advanceTo {d : Nat} (h : TimOnly l (s.advanceTo d) u) (hl : ∀ f ∈ timeFields, f ∈ l) :
    Only l s u { s with regs := u.regs, dtRef := u.dtRef, tim := u.tim } := by
  refine ⟨?_, (OnlyFields.advanceTo d hl (.refl l s)).trans h.2⟩
  obtain ⟨r, e⟩ := s.advanceTo_regs_dtRef d
  rw [h.1, e]

end

/-! ### The state of a session, y, and the ports' offsets -/

section
variable {l : List Fld} {s u : State}

theorem TimOnly.timState (st : Nat) (hf : Reg.TIM_STATUS_STATE ∈ l) (h : TimOnly l s u) : TimOnly l s (u.timState st) :=
  (h.tim _).put _ _ _ _ hf

theorem TimOnly.putY (y : Int) (hf : Reg.TIM_FREQ_Y ∈ l) (h : TimOnly l s u) : TimOnly l s (u.putY y) := h.put _ _ _ _ hf

theorem State.timState_state (s : State) (st : Nat) : (s.timState st).get Reg.TIM_STATUS_STATE = st % 8 := State.get_put_self ..

theorem State.get_timState (s : State) (st : Nat) {f : Fld} (h : f.id ≠ Reg.TIM_STATUS_STATE.id) (i j : Nat) :
    (s.timState st).get f i j = s.get f i j :=
  (TimOnly.refl [Reg.TIM_STATUS_STATE] s).timState st (.head _) |>.get (by simpa using h) i j

/-- An offset of a port shows in its register and may set the bit that reports it (R119). -/
theorem TimOnly.ltPut (p : Nat) (o : Int) (hoff : Reg.TIM_LT_OFF_OFF ∈ l) (hint : Reg.TIM_INT_PORT_DISAGREE ∈ l) (h : TimOnly l s u) :
    TimOnly l s (u.ltPut p o) := by
  unfold State.ltPut
  extract_lets v _ w _ _ _
  have hw : TimOnly l s w := (h.put _ _ _ _ hoff).tim _
  split
  · exact hw
  · exact (hw.cond fun h => (h.put _ _ _ _ hint).tim _).cond fun h => h.tim _

theorem TimOnly.etMoved (d : Int) (hoff : Reg.TIM_LT_OFF_OFF ∈ l) (hint : Reg.TIM_INT_PORT_DISAGREE ∈ l) (h : TimOnly l s u) :
    TimOnly l s (u.etMoved d) :=
  .each (fun _ _ h => h.ltPut _ _ hoff hint) _ (h.tim _)

end

/-! ### The single step of a session (R122) -/

section
variable (s : State) (off st : Nat)

/-- ET_OFF after a step, with the flags that show it. -/
def State.stepShown (s : State) (off : Nat) : State :=
  ((((s.put Reg.TIM_ETOFF_SEC_SEC (off / 1000000000)).put Reg.TIM_ETOFF_NS_NS (off % 1000000000)).put Reg.TIM_STATUS_STEPPED 1).put
    Reg.TIM_STATUS_ET_VALID 1).put Reg.TIM_INT_STEPPED 1

/-- A step shows, moves what is kept in ET, and leaves the session in its new state; comparators it passes are noted. -/
theorem State.timeStep_eq : ∃ x d, s.timeStep off st = (({ s.stepShown off with trg := x } : State).etMoved d).timState st :=
  ⟨_, _, rfl⟩

/-- What a step changes. -/
def stepFields : List Fld :=
  [Reg.TIM_STATUS_STATE, Reg.TIM_STATUS_STEPPED, Reg.TIM_STATUS_ET_VALID, Reg.TIM_INT_STEPPED, Reg.TIM_ETOFF_SEC_SEC, Reg.TIM_ETOFF_NS_NS,
   Reg.TIM_LT_OFF_OFF, Reg.TIM_INT_PORT_DISAGREE]

theorem State.timeStep_only : Only stepFields s (s.timeStep off st)
    { s with regs := (s.timeStep off st).regs, tim := (s.timeStep off st).tim, trg := (s.timeStep off st).trg } := by
  obtain ⟨x, d, e⟩ := s.timeStep_eq off st
  have hshown : RegsOnly stepFields s (s.stepShown off) :=
    (RegsOnly.put s _ _ _ _ (by decide)).trans <| (RegsOnly.put _ _ _ _ _ (by decide)).trans <|
      (RegsOnly.put _ _ _ _ _ (by decide)).trans <| (RegsOnly.put _ _ _ _ _ (by decide)).trans (RegsOnly.put _ _ _ _ _ (by decide))
  have h : TimOnly stepFields { s.stepShown off with trg := x } (s.timeStep off st) :=
    e ▸ ((TimOnly.refl _ _).etMoved d (by decide) (by decide)).timState st (by decide)
  refine ⟨?_, hshown.2.trans ((OnlyFields.of_regs rfl).trans h.2)⟩
  rw [h.1, hshown.1]

/-- What the step itself shows stays through what it moves. -/
theorem State.get_timeStep {f : Fld} (h : f.id ∉ [Reg.TIM_STATUS_STATE, Reg.TIM_LT_OFF_OFF, Reg.TIM_INT_PORT_DISAGREE].map (·.id))
    (i j : Nat) : (s.timeStep off st).get f i j = (s.stepShown off).get f i j := by
  obtain ⟨x, d, e⟩ := s.timeStep_eq off st
  rw [e]
  exact (((TimOnly.refl _ _).etMoved d (by decide) (by decide)).timState st (by decide)).get h i j

theorem State.stepShown_flags : (s.stepShown off).get Reg.TIM_STATUS_STEPPED = 1 ∧ (s.stepShown off).get Reg.TIM_STATUS_ET_VALID = 1 ∧
    (s.stepShown off).get Reg.TIM_INT_STEPPED = 1 := by
  unfold State.stepShown
  refine ⟨?_, ?_, State.get_put_self ..⟩
  · rw [State.get_put_of_id _ _ _ _ _ _ _ _ (by decide), State.get_put_of_id _ _ _ _ _ _ _ _ (by decide), State.get_put_self]
    rfl
  · rw [State.get_put_of_id _ _ _ _ _ _ _ _ (by decide), State.get_put_self]
    rfl

theorem State.timeStep_state : (s.timeStep off st).get Reg.TIM_STATUS_STATE = st % 8 := State.timState_state ..

/-- An offset below 2^48 s is held whole in its two registers. -/
theorem State.etOff_stepShown (h : off < etMod) : (s.stepShown off).etOff = off := by
  have hsec : (s.stepShown off).get Reg.TIM_ETOFF_SEC_SEC = off / 1000000000 := by
    unfold State.stepShown
    rw [State.get_put_of_id _ _ _ _ _ _ _ _ (by decide), State.get_put_of_id _ _ _ _ _ _ _ _ (by decide),
      State.get_put_of_id _ _ _ _ _ _ _ _ (by decide), State.get_put_of_id _ _ _ _ _ _ _ _ (by decide), State.get_put_self]
    exact trunc_of_lt (Nat.div_lt_of_lt_mul (by rwa [Nat.mul_comm]))
  have hns : (s.stepShown off).get Reg.TIM_ETOFF_NS_NS = off % 1000000000 := by
    unfold State.stepShown
    rw [State.get_put_of_id _ _ _ _ _ _ _ _ (by decide), State.get_put_of_id _ _ _ _ _ _ _ _ (by decide),
      State.get_put_of_id _ _ _ _ _ _ _ _ (by decide), State.get_put_self]
    exact trunc_of_lt ((Nat.mod_lt _ (by decide)).trans (by decide))
  rw [State.etOff, hsec, hns, Nat.mul_comm, Nat.div_add_mod]

theorem State.etOff_timeStep (h : off < etMod) : (s.timeStep off st).etOff = off := by
  rw [State.etOff, State.get_timeStep _ _ _ (by decide), State.get_timeStep _ _ _ (by decide)]
  exact s.etOff_stepShown off h

end

/-! ### The time fault and the loss of a source (R129, R130) -/

section
variable (s : State)

/-- The time fault has been found with the fault handler idle: y is held, and fault 0x08 is under way (R129, R499). -/
structure State.TimeFaulted (s t : State) : Prop where
  state : t.get Reg.TIM_STATUS_STATE = 6
  fault : t.get Reg.TIM_STATUS_FAULT = 1
  int : t.get Reg.TIM_INT_FAULT = 1
  y : t.get Reg.TIM_FREQ_Y = s.get Reg.TIM_FREQ_Y
  dtRef : t.dtRef = s.dtRef
  under : t.flt.under = some { dt := s.dtRef, code := 8, sev := 3, src := 0 }

theorem State.timeFault_faulted (h : s.flt.under = none) : s.TimeFaulted s.timeFault := by
  let u := ((s.timState 6).put Reg.TIM_STATUS_FAULT 1).put Reg.TIM_INT_FAULT 1
  have e : s.timeFault = u.fault 8 0 := rfl
  have hget {f : Fld} (hf : f.id ∉ faultFields.map (·.id)) (i j : Nat) : s.timeFault.get f i j = u.get f i j :=
    e ▸ u.fault_only 8 0 (by decide) f i j hf
  have hidle := u.fault_of_idle 8 0 (by decide) h
  refine ⟨?_, ?_, ?_, ?_, ?_, ?_⟩
  · rw [hget (by decide), State.get_put_of_id _ _ _ _ _ _ _ _ (by decide), State.get_put_of_id _ _ _ _ _ _ _ _ (by decide),
      State.timState_state]
  · rw [hget (by decide), State.get_put_of_id _ _ _ _ _ _ _ _ (by decide), State.get_put_self]
    rfl
  · rw [hget (by decide), State.get_put_self]
    rfl
  · rw [hget (by decide), State.get_put_of_id _ _ _ _ _ _ _ _ (by decide), State.get_put_of_id _ _ _ _ _ _ _ _ (by decide),
      State.get_timState _ _ (by decide)]
  · rw [e, hidle]
    rfl
  · rw [e, hidle]
    rfl

/-- A source lost in SLEW or LOCKED puts the session into HOLDOVER. -/
theorem State.sourceLost_of_stepped (h : s.get Reg.TIM_STATUS_STATE = 3 ∨ s.get Reg.TIM_STATUS_STATE = 4) :
    s.sourceLost = (s.timState 5).put Reg.TIM_INT_HOLDOVER 1 := by
  rcases h with h | h <;> simp [State.sourceLost, h]

/-- The session holds over: STATE and the interrupt bit, and what the discipline counts. -/
theorem State.holdover_shown : ((s.timState 5).put Reg.TIM_INT_HOLDOVER 1).get Reg.TIM_STATUS_STATE = 5 ∧
    ((s.timState 5).put Reg.TIM_INT_HOLDOVER 1).get Reg.TIM_INT_HOLDOVER = 1 ∧
    TimOnly [Reg.TIM_STATUS_STATE, Reg.TIM_INT_HOLDOVER] s ((s.timState 5).put Reg.TIM_INT_HOLDOVER 1) := by
  refine ⟨?_, State.get_put_self .., ((TimOnly.refl _ s).timState 5 (by decide)).put _ _ _ _ (by decide)⟩
  rw [State.get_put_of_id _ _ _ _ _ _ _ _ (by decide), State.timState_state]

end

/-! ### Shadow copies that commit together -/

section
variable (s : State) (ids : List Nat)

/-- Stored keys leave every other key of the register file alone. -/
theorem State.get_putKeys_of_not (f : Fld) (i j : Nat) : ∀ (m : RegMap) (s : State), (∀ e ∈ m, e.1.f ≠ f.id) →
    (s.putKeys m).get f i j = s.get f i j
  | [], _, _ => rfl
  | e :: m, s, h => by
    have hne : (⟨f.id, i, j⟩ : RKey) ≠ e.1 := fun x => h e (.head _) (congrArg RKey.f x).symm
    have hrec := State.get_putKeys_of_not f i j m { s with regs := SMap.set RKey.lt (regReset e.1) s.regs e.1 e.2 }
      fun x hx => h x (.tail _ hx)
    exact hrec.trans (SMap.get_set_of_ne _ _ _ _ hne)

/-- A commit changes the listed fields and the shadow copies alone. -/
theorem State.get_commitAll_of_not {f : Fld} (h : f.id ∉ ids) (i j : Nat) : (s.commitAll ids).get f i j = s.get f i j :=
  State.get_putKeys_of_not f i j _ s fun e he x => by
    have hmem : ids.contains e.1.f = true := (List.mem_filter.1 he).2
    exact h (x ▸ by simpa using hmem)

theorem State.commitAll_eq : s.commitAll ids = { s with regs := (s.commitAll ids).regs, shadow := (s.commitAll ids).shadow } := rfl

/-- With nothing pending a commit does nothing. -/
theorem State.commitAll_of_shadow_nil (h : s.shadow = []) : s.commitAll ids = s := by
  obtain ⟨⟩ := s
  cases h
  rfl

end

end Sys2Proof.Machine
end

/-! ## Time sessions -/

section
namespace Sys2Proof.Machine

/-! ### A write of TIM_CTRL (R123, R552) -/

/-- A write of TIM_CTRL up to its three commands: SRC, PORT and PPS_OUT_EN. -/
def State.timCtrlFields (s : State) (v : Nat) : State :=
  ((s.writeLocked Reg.TIM_CTRL_SRC (s.flag Reg.TIM_STATUS_SESSION) (bits v 4 3) Reg.TIM_INT_REFUSED).writeLocked Reg.TIM_CTRL_PORT
    (s.flag Reg.TIM_STATUS_SESSION) (bits v 8 4) Reg.TIM_INT_REFUSED).put Reg.TIM_CTRL_PPS_OUT_EN (bits v 12 1)

section
variable (s : State) (v : Nat)

theorem State.timCtrl_eq : s.timCtrl v =
    (((s.timCtrlFields v).cond (v.testBit 1) State.timClose).cond (v.testBit 0) State.timOpen).cond (v.testBit 2) State.timSet := rfl

theorem State.timCtrlFields_only {l : List Fld} (hen : Reg.TIM_CTRL_PPS_OUT_EN ∈ l)
    (hoff : s.flag Reg.TIM_STATUS_SESSION = false → Reg.TIM_CTRL_SRC ∈ l ∧ Reg.TIM_CTRL_PORT ∈ l)
    (hon : s.flag Reg.TIM_STATUS_SESSION = true → Reg.TIM_INT_REFUSED ∈ l) : RegsOnly l s (s.timCtrlFields v) := by
  refine ⟨?_, .put _ _ _ _ hen (.writeLocked _ _ _ _ _ _ _ (fun h => (hoff h).2) hon
    (.writeLocked _ _ _ _ _ _ _ (fun h => (hoff h).1) hon (.refl l s)))⟩
  unfold State.timCtrlFields
  generalize hw : s.writeLocked Reg.TIM_CTRL_SRC (s.flag Reg.TIM_STATUS_SESSION) (bits v 4 3) Reg.TIM_INT_REFUSED = w
  have e := s.writeLocked_eq (bits v 4 3) Reg.TIM_CTRL_SRC (s.flag Reg.TIM_STATUS_SESSION) Reg.TIM_INT_REFUSED 0 0 0
  rw [hw] at e
  rw [State.writeLocked_eq w, e]
  rfl

/-- While a session is open the fields of its source keep their values. -/
theorem State.timCtrlFields_of_open (h : s.flag Reg.TIM_STATUS_SESSION = true) :
    RegsOnly [Reg.TIM_CTRL_PPS_OUT_EN, Reg.TIM_INT_REFUSED] s (s.timCtrlFields v) :=
  s.timCtrlFields_only v (by decide) (fun h' => absurd (h.symm.trans h') (by decide)) (fun _ => by decide)

/-- While none is open no field is refused. -/
theorem State.timCtrlFields_of_closed (h : s.flag Reg.TIM_STATUS_SESSION = false) :
    RegsOnly [Reg.TIM_CTRL_SRC, Reg.TIM_CTRL_PORT, Reg.TIM_CTRL_PPS_OUT_EN] s (s.timCtrlFields v) :=
  s.timCtrlFields_only v (by decide) (fun _ => by decide) (fun h' => absurd (h'.symm.trans h) (by decide))

theorem State.timCtrlFields_src (h : s.flag Reg.TIM_STATUS_SESSION = false) :
    (s.timCtrlFields v).get Reg.TIM_CTRL_SRC = bits v 4 3 := by
  unfold State.timCtrlFields
  rw [State.get_put_of_id _ _ _ _ _ _ _ _ (by decide), h]
  have hport := OnlyFields.writeLocked Reg.TIM_CTRL_PORT false (bits v 8 4) Reg.TIM_INT_REFUSED 0 0 0 (l := [Reg.TIM_CTRL_PORT])
    (fun _ => by decide) (fun h => nomatch h) (.refl _ (s.writeLocked Reg.TIM_CTRL_SRC false (bits v 4 3) Reg.TIM_INT_REFUSED))
  rw [hport _ _ _ (by decide)]
  exact s.get_writeLocked_of_open _ _ _ _ _ _ (Nat.mod_lt _ (by decide))

end

/-! ### OPEN (R122 to R124) -/

section
variable {s : State}

/-- The states a source starts in: FREE without a reference, else ACQUIRE (R124). -/
def sourceState (src : Nat) : Nat := if src = 0 || src = 4 then 1 else 2

theorem sourceState_eq (src : Nat) : sourceState src = if src = 0 ∨ src = 4 then 1 else 2 := by simp [sourceState]

/-- A session begins: SESSION with the next SESSION_ID, the step still owed, and the state of its source. -/
def State.sessionBegins (s : State) : State :=
  (((s.put Reg.TIM_STATUS_SESSION 1).put Reg.TIM_STATUS_SESSION_ID (s.get Reg.TIM_STATUS_SESSION_ID + 1)).put Reg.TIM_STATUS_STEPPED 0).timState
    (sourceState (s.get Reg.TIM_CTRL_SRC))

/-- What a source adds as it starts: y as the host set it, the second that PPS waits for, or the port to follow. -/
def State.sourceStarts (s : State) (src : Nat) : State :=
  if src = 0 || src = 4 then s.putY (toInt 32 (s.get Reg.TIM_FREQ_MAN_Y))
  else if src = 2 then s.put Reg.TIM_STATUS_SEC_WANTED 1
  else if src = 3 then s.choosePort
  else s

theorem State.timOpen_of_closed (hoff : s.flag Reg.TIM_STATUS_SESSION = false) (hsrc : s.get Reg.TIM_CTRL_SRC ≤ 4) :
    ∃ x, s.timOpen = ({ s.sessionBegins with tim := x } : State).sourceStarts (s.get Reg.TIM_CTRL_SRC) := by
  have hopens : ¬((s.flag Reg.TIM_STATUS_SESSION || decide (4 < s.get Reg.TIM_CTRL_SRC)) = true) := by simp [hoff, hsrc]
  exact ⟨_, if_neg hopens⟩

theorem State.timOpen_of_open (hon : s.flag Reg.TIM_STATUS_SESSION = true) : s.timOpen = s.put Reg.TIM_INT_REFUSED 1 := by
  simp [State.timOpen, hon]

theorem State.sourceStarts_only (s : State) (src : Nat) :
    TimOnly [Reg.TIM_STATUS_SEC_WANTED, Reg.TIM_FREQ_Y] s (s.sourceStarts src) := by
  unfold State.sourceStarts
  split
  · exact (TimOnly.refl _ s).putY _ (by decide)
  · split
    · exact (TimOnly.refl _ s).put _ _ _ _ (by decide)
    · split
      · exact (TimOnly.refl _ s).tim _
      · exact .refl _ s

theorem State.sourceStarts_pps (s : State) : (s.sourceStarts 2).get Reg.TIM_STATUS_SEC_WANTED = 1 := State.get_put_self ..

theorem State.sessionBegins_only (s : State) :
    TimOnly [Reg.TIM_STATUS_SESSION, Reg.TIM_STATUS_SESSION_ID, Reg.TIM_STATUS_STEPPED, Reg.TIM_STATUS_STATE] s s.sessionBegins :=
  (((((TimOnly.refl _ s).put _ _ _ _ (by decide)).put _ _ _ _ (by decide)).put _ _ _ _ (by decide)).timState _ (by decide))

/-- A session has begun. -/
theorem State.sessionBegins_shown (s : State) : s.sessionBegins.get Reg.TIM_STATUS_SESSION = 1 ∧
    s.sessionBegins.get Reg.TIM_STATUS_SESSION_ID = trunc 16 (s.get Reg.TIM_STATUS_SESSION_ID + 1) ∧
    s.sessionBegins.get Reg.TIM_STATUS_STEPPED = 0 ∧
    s.sessionBegins.get Reg.TIM_STATUS_STATE = sourceState (s.get Reg.TIM_CTRL_SRC) := by
  unfold State.sessionBegins
  refine ⟨?_, ?_, ?_, ?_⟩
  · rw [State.get_timState _ _ (by decide), State.get_put_of_id _ _ _ _ _ _ _ _ (by decide),
      State.get_put_of_id _ _ _ _ _ _ _ _ (by decide), State.get_put_self]
    rfl
  · rw [State.get_timState _ _ (by decide), State.get_put_of_id _ _ _ _ _ _ _ _ (by decide), State.get_put_self]
    rfl
  · rw [State.get_timState _ _ (by decide), State.get_put_self]
    rfl
  · rw [State.timState_state, sourceState]
    split <;> rfl

end

/-! ### CLOSE (R123) -/

section
variable (s : State)

/-- A session ends: y keeps its value. -/
def State.sessionEnds (s : State) : State :=
  (((s.timState 0).put Reg.TIM_STATUS_SESSION 0).put Reg.TIM_STATUS_FAULT 0).put Reg.TIM_STATUS_SEC_WANTED 0

/-- The fields staged servo values and the delay asymmetry commit to. -/
def servoFields : List Fld :=
  [Reg.TIM_SERVO_BW, Reg.TIM_SERVO_SLEW_PPM, Reg.TIM_SERVO_ACQ_N, Reg.TIM_SERVO_LOCK_N, Reg.TIM_SERVO_LOCK_THR, Reg.TIM_PTP_ASYM_ASYM]

theorem State.commitAll_servo_only : OnlyFields servoFields s (s.commitAll timServoIds) := fun _ i j hf => s.get_commitAll_of_not _ hf i j

theorem State.timClose_of_open (h : s.flag Reg.TIM_STATUS_SESSION = true) : s.timClose = (s.commitAll timServoIds).sessionEnds := if_pos h

theorem State.sessionEnds_only :
    TimOnly [Reg.TIM_STATUS_SESSION, Reg.TIM_STATUS_STATE, Reg.TIM_STATUS_FAULT, Reg.TIM_STATUS_SEC_WANTED] s s.sessionEnds :=
  ((((TimOnly.refl _ s).timState 0 (by decide)).put _ _ _ _ (by decide)).put _ _ _ _ (by decide)).put _ _ _ _ (by decide)

/-- A session has ended. -/
theorem State.sessionEnds_shown : s.sessionEnds.get Reg.TIM_STATUS_SESSION = 0 ∧ s.sessionEnds.get Reg.TIM_STATUS_STATE = 0 ∧
    s.sessionEnds.get Reg.TIM_STATUS_FAULT = 0 ∧ s.sessionEnds.get Reg.TIM_STATUS_SEC_WANTED = 0 := by
  unfold State.sessionEnds
  refine ⟨?_, ?_, ?_, State.get_put_self ..⟩
  · rw [State.get_put_of_id _ _ _ _ _ _ _ _ (by decide), State.get_put_of_id _ _ _ _ _ _ _ _ (by decide), State.get_put_self]
    rfl
  · rw [State.get_put_of_id _ _ _ _ _ _ _ _ (by decide), State.get_put_of_id _ _ _ _ _ _ _ _ (by decide),
      State.get_put_of_id _ _ _ _ _ _ _ _ (by decide), State.timState_state]
  · rw [State.get_put_of_id _ _ _ _ _ _ _ _ (by decide), State.get_put_self]
    rfl

end

/-! ### The commands -/

section
variable {s : State} {val : Nat}

theorem timOpen_of_closed (hopen : val.testBit 0 = true) (hclose : val.testBit 1 = false) (hset : val.testBit 2 = false)
    (hr : s.responds 0x40000 = true) (hoff : s.flag Reg.TIM_STATUS_SESSION = false) (hsrc : bits val 4 3 ≤ 4) :
    Does (.timOpen val) s fun t =>
      t.get Reg.TIM_STATUS_SESSION = 1 ∧ t.get Reg.TIM_STATUS_SESSION_ID = trunc 16 (s.get Reg.TIM_STATUS_SESSION_ID + 1) ∧
      t.get Reg.TIM_CTRL_SRC = bits val 4 3 ∧ t.get Reg.TIM_STATUS_STEPPED = 0 ∧
      t.get Reg.TIM_STATUS_STATE = (if bits val 4 3 = 0 ∨ bits val 4 3 = 4 then 1 else 2) ∧ (bits val 4 3 = 2 → t.get Reg.TIM_STATUS_SEC_WANTED = 1) ∧
      TimOnly [Reg.TIM_STATUS_SESSION, Reg.TIM_STATUS_SESSION_ID, Reg.TIM_CTRL_SRC, Reg.TIM_CTRL_PORT, Reg.TIM_CTRL_PPS_OUT_EN,
        Reg.TIM_STATUS_STEPPED, Reg.TIM_STATUS_STATE, Reg.TIM_STATUS_SEC_WANTED, Reg.TIM_FREQ_Y] s t := by
  refine .of_bar rfl hopen hr ?_
  rw [State.timCtrl_eq, hopen, hclose, hset, State.cond_false, State.cond_true, State.cond_false]
  have hfields := s.timCtrlFields_of_closed val hoff
  have hctrl := s.timCtrlFields_src val hoff
  generalize s.timCtrlFields val = u at hfields hctrl ⊢
  have hoff' : u.flag Reg.TIM_STATUS_SESSION = false := by rwa [State.flag, hfields.2 _ _ _ (by decide)]
  obtain ⟨x, e⟩ := State.timOpen_of_closed hoff' (by rwa [hctrl])
  obtain ⟨hsession, hid, hstepped, hstate⟩ := u.sessionBegins_shown
  have hbegins := u.sessionBegins_only
  rw [e, hctrl]
  rw [hctrl, sourceState_eq] at hstate
  rw [hfields.2 Reg.TIM_STATUS_SESSION_ID _ _ (by decide)] at hid
  have hstarts := State.sourceStarts_only { u.sessionBegins with tim := x } (bits val 4 3)
  refine ⟨(hstarts.get (by decide) _ _).trans hsession, (hstarts.get (by decide) _ _).trans hid,
    (hstarts.get (by decide) _ _).trans ((hbegins.get (by decide) _ _).trans hctrl), (hstarts.get (by decide) _ _).trans hstepped,
    (hstarts.get (by decide) _ _).trans hstate, fun h => ?_, ?_⟩
  · rw [h]
    exact State.sourceStarts_pps _
  · exact (((TimOnly.of_regsOnly hfields).mono (by decide)).trans ((hbegins.mono (by decide)).tim x)).trans (hstarts.mono (by decide))

theorem timOpen_of_open (hopen : val.testBit 0 = true) (hclose : val.testBit 1 = false) (hset : val.testBit 2 = false)
    (hr : s.responds 0x40000 = true) (hon : s.flag Reg.TIM_STATUS_SESSION = true) :
    Does (.timOpen val) s fun t => t.get Reg.TIM_INT_REFUSED = 1 ∧ RegsOnly [Reg.TIM_CTRL_PPS_OUT_EN, Reg.TIM_INT_REFUSED] s t := by
  refine .of_bar rfl hopen hr ?_
  rw [State.timCtrl_eq, hopen, hclose, hset, State.cond_false, State.cond_true, State.cond_false]
  have hfields := s.timCtrlFields_of_open val hon
  rw [State.timOpen_of_open (by rwa [State.flag, hfields.2 _ _ _ (by decide)])]
  exact ⟨State.get_put_self .., hfields.trans (.put _ _ _ _ _ (by decide))⟩

theorem timClose_of_open (hclose : val.testBit 1 = true) (hopen : val.testBit 0 = false) (hset : val.testBit 2 = false)
    (hr : s.responds 0x40000 = true) (hon : s.flag Reg.TIM_STATUS_SESSION = true) : Does (.timClose val) s fun t =>
      t.get Reg.TIM_STATUS_SESSION = 0 ∧ t.get Reg.TIM_STATUS_STATE = 0 ∧ t.get Reg.TIM_STATUS_FAULT = 0 ∧
      t.get Reg.TIM_STATUS_SEC_WANTED = 0 ∧ t.get Reg.TIM_FREQ_Y = s.get Reg.TIM_FREQ_Y ∧
      Only (servoFields ++ [Reg.TIM_STATUS_SESSION, Reg.TIM_STATUS_STATE, Reg.TIM_STATUS_FAULT, Reg.TIM_STATUS_SEC_WANTED, Reg.TIM_CTRL_PPS_OUT_EN,
          Reg.TIM_INT_REFUSED]) s t { s with regs := t.regs, shadow := t.shadow, tim := t.tim } := by
  refine .of_bar rfl (by simp [bit, hclose, hopen]) hr ?_
  rw [State.timCtrl_eq, hopen, hclose, hset, State.cond_true, State.cond_false, State.cond_false]
  have hfields := s.timCtrlFields_of_open val hon
  generalize s.timCtrlFields val = u at hfields ⊢
  have hon' : u.flag Reg.TIM_STATUS_SESSION = true := by rwa [State.flag, hfields.2 _ _ _ (by decide)]
  rw [State.timClose_of_open _ hon']
  have hcommit := u.commitAll_servo_only
  have hsame : u.commitAll timServoIds =
      { s with regs := (u.commitAll timServoIds).regs, shadow := (u.commitAll timServoIds).shadow } := by
    rw [u.commitAll_eq, hfields.1]
  generalize u.commitAll timServoIds = w at hcommit hsame ⊢
  have hends := w.sessionEnds_only
  obtain ⟨hsession, hstate, hfault, hwanted⟩ := w.sessionEnds_shown
  refine ⟨hsession, hstate, hfault, hwanted, ?_, ?_, ?_⟩
  · rw [hends.get (by decide), hcommit _ _ _ (by decide), hfields.2 _ _ _ (by decide)]
  · rw [hends.1, hsame]
  · exact ((hfields.2.mono (by decide)).trans (hcommit.mono (by decide))).trans (hends.2.mono (by decide))

/-- The ET_OFF that SET gives: TIM_SET less the time since DT 0, to the nearest multiple of 4 ns, modulo 2^48 s (R125). -/
def State.setOffset (s : State) : Int :=
  ((s.get Reg.TIM_SET_SEC_SEC * 1000000000 + s.get Reg.TIM_SET_NS_NS : Nat) - 4 * (s.dtRef : Int) + 2) / 4 * 4 % (etMod : Int)

theorem State.timSet_of_host (hstate : s.get Reg.TIM_STATUS_STATE = 1) (hsrc : s.get Reg.TIM_CTRL_SRC = 4)
    (hstepped : s.flag Reg.TIM_STATUS_STEPPED = false) : s.timSet = s.timeStep s.setOffset.toNat 7 := by
  unfold State.timSet
  exact if_pos (by simp [hstate, hsrc, hstepped])

theorem State.setOffset_toNat (s : State) : (s.setOffset.toNat : Int) = s.setOffset ∧ s.setOffset.toNat < etMod := by
  have hpos : (0 : Int) < etMod := by decide
  have hnonneg : 0 ≤ s.setOffset := Int.emod_nonneg _ hpos.ne'
  have hlt : s.setOffset < etMod := Int.emod_lt_of_pos _ hpos
  omega

theorem timSet_of_host (hset : val.testBit 2 = true) (hopen : val.testBit 0 = false) (hclose : val.testBit 1 = false)
    (hr : s.responds 0x40000 = true) (hstate : s.get Reg.TIM_STATUS_STATE = 1) (hsrc : s.get Reg.TIM_CTRL_SRC = 4)
    (hon : s.flag Reg.TIM_STATUS_SESSION = true) (hstepped : s.flag Reg.TIM_STATUS_STEPPED = false) : Does (.timSet val) s fun t =>
      t.get Reg.TIM_STATUS_STATE = 7 ∧ t.get Reg.TIM_STATUS_STEPPED = 1 ∧ t.get Reg.TIM_STATUS_ET_VALID = 1 ∧ t.get Reg.TIM_INT_STEPPED = 1 ∧
      (t.etOff : Int) = s.setOffset ∧
      Only [Reg.TIM_STATUS_STATE, Reg.TIM_STATUS_STEPPED, Reg.TIM_STATUS_ET_VALID, Reg.TIM_INT_STEPPED, Reg.TIM_ETOFF_SEC_SEC, Reg.TIM_ETOFF_NS_NS,
        Reg.TIM_CTRL_PPS_OUT_EN, Reg.TIM_INT_REFUSED, Reg.TIM_LT_OFF_OFF, Reg.TIM_INT_PORT_DISAGREE] s t
        { s with regs := t.regs, tim := t.tim, trg := t.trg } := by
  refine .of_bar rfl (by simp [bit, hclose, hopen, hset]) hr ?_
  rw [State.timCtrl_eq, hopen, hclose, hset, State.cond_true, State.cond_false, State.cond_false]
  have hfields := s.timCtrlFields_of_open val hon
  generalize s.timCtrlFields val = u at hfields ⊢
  have hget {f : Fld} (h : f.id ∉ [Reg.TIM_CTRL_PPS_OUT_EN, Reg.TIM_INT_REFUSED].map (·.id)) (i j : Nat) : u.get f i j = s.get f i j :=
    hfields.2 f i j h
  have hoffset : u.setOffset = s.setOffset := by
    rw [State.setOffset, hget (by decide), hget (by decide), show u.dtRef = s.dtRef by rw [hfields.1]]
    rfl
  rw [State.timSet_of_host (by rwa [hget (by decide)]) (by rwa [hget (by decide)]) (by rwa [State.flag, hget (by decide)]), hoffset]
  obtain ⟨hcast, hlt⟩ := s.setOffset_toNat
  obtain ⟨hstepped', hvalid, hint⟩ := u.stepShown_flags s.setOffset.toNat
  obtain ⟨hsame, honly⟩ := u.timeStep_only s.setOffset.toNat 7
  refine ⟨u.timeStep_state _ 7, (u.get_timeStep _ _ (by decide) _ _).trans hstepped', (u.get_timeStep _ _ (by decide) _ _).trans hvalid,
    (u.get_timeStep _ _ (by decide) _ _).trans hint, ?_, ?_, (hfields.2.mono (by decide)).trans (honly.mono (by decide))⟩
  · rw [u.etOff_timeStep _ _ hlt, hcast]
  · rw [hsame, hfields.1]

theorem timeFaultRate_of_tracking {d : Nat} (hstate : s.get Reg.TIM_STATUS_STATE = 3 ∨ s.get Reg.TIM_STATUS_STATE = 4)
    (hrate : s.tim.rateSince = some d) (hidle : s.flt.under = none) : Does .timeFaultRate s fun t =>
      (s.advanceTo (d + 250000000)).TimeFaulted t := by
  have e : exec .timeFaultRate s = .next (s.advanceTo (d + 250000000)).timeFault := by
    change execTimeFaultRate s = _
    simp only [execTimeFaultRate, hrate]
    rw [if_pos (by simpa using hstate)]
  exact .of_next e (State.timeFault_faulted _ (by rwa [State.advanceTo_flt]))

end

/-- Settles O14: OPEN in both cases, CLOSE, SET, and the fault of the servo's rate. -/
theorem timeSession : Obligations.TimeSession :=
  ⟨fun _ _ => timOpen_of_closed,
    fun _ _ => timOpen_of_open,
    fun _ _ => timClose_of_open,
    fun _ _ => timSet_of_host,
    fun d s hstate hrate hidle _ => by
      obtain ⟨t, e, h⟩ := timeFaultRate_of_tracking hstate hrate hidle
      have hdt := h.dtRef.trans (s.advanceTo_dtRef (d + 250000000))
      exact ⟨t, e, h.state, hdt, h.fault, h.int, h.y.trans (s.get_advanceTo _ _ _ _ (by decide)), h.dtRef ▸ h.under⟩⟩

end Sys2Proof.Machine
end

/-! ## The discipline -/

section
namespace Sys2Proof.Machine

/-! ### Signed fields and limits -/

theorem clampInt_bounds {lim : Int} (h : 0 ≤ lim) (x : Int) : -lim ≤ clampInt lim x ∧ clampInt lim x ≤ lim := by
  unfold clampInt
  omega

/-- A limit brings no two values further apart. -/
theorem clampInt_add_sub {lim : Int} (h : 0 ≤ lim) (x d : Int) : (clampInt lim (x + d) - clampInt lim x).natAbs ≤ d.natAbs := by
  unfold clampInt
  omega

theorem ofInt_lt (w : Nat) (x : Int) : ofInt w x < 2 ^ w := by
  have hpos : (0 : Int) < (2 ^ w : Nat) := by exact_mod_cast Nat.two_pow_pos w
  have hnonneg := Int.emod_nonneg x hpos.ne'
  have hlt := Int.emod_lt_of_pos x hpos
  unfold ofInt
  omega

/-- A value in the range of a signed field of 32 bits is read back from it. -/
theorem toInt_ofInt {x : Int} (hlo : -2 ^ 31 ≤ x) (hhi : x < 2 ^ 31) : toInt 32 (ofInt 32 x) = x := by
  unfold toInt ofInt
  split <;> omega

/-! ### The servo (R127) -/

section
variable (s : State) (err : Int)

/-- The part of y that the servo integrates, or the rate that syntonises in its place. -/
def State.servoRate (s : State) (err : Int) : Int :=
  s.synRate.getD (s.tim.integ + Config.servoKi (s.get Reg.TIM_SERVO_BW) * err / 2 ^ 32)

/-- The part of y that slews, within the slew limit. -/
def State.servoSlew (s : State) (err : Int) : Int :=
  clampInt (s.slewPpm * 65536) (Config.servoKp (s.get Reg.TIM_SERVO_BW) * err / 2 ^ 32)

theorem State.servo_eq : ∃ r, s.servo true err =
    ({ s with tim := { s.tim with integ := clampInt yMax (s.servoRate err), rateSince := r } } : State).putY
      (s.servoRate err + s.servoSlew err) := ⟨_, rfl⟩

theorem State.servoSlew_le : (s.servoSlew err).natAbs ≤ s.slewPpm * 65536 := by
  have h := clampInt_bounds (by positivity : (0 : Int) ≤ s.slewPpm * 65536) (Config.servoKp (s.get Reg.TIM_SERVO_BW) * err / 2 ^ 32)
  unfold State.servoSlew
  omega

/-- y in force is the value put, limited to 200 ppm. -/
theorem State.putY_y (y : Int) : toInt 32 ((s.putY y).get Reg.TIM_FREQ_Y) = clampInt yMax y := by
  have h := clampInt_bounds (by decide : 0 ≤ yMax) y
  have hmax : yMax = 200 * 65536 := rfl
  have hput : (s.putY y).get Reg.TIM_FREQ_Y = ofInt 32 (clampInt yMax y) := by
    rw [State.putY, State.get_put_self]
    exact trunc_of_lt (ofInt_lt 32 _)
  rw [hput]
  exact toInt_ofInt (by omega) (by omega)

/-- After a sample y and the servo's integral part are within 200 ppm, and no further apart than the slew limit. -/
structure State.ServoBound (s t : State) : Prop where
  y : (toInt 32 (t.get Reg.TIM_FREQ_Y)).natAbs ≤ 200 * 65536
  slew : (toInt 32 (t.get Reg.TIM_FREQ_Y) - t.tim.integ).natAbs ≤ s.slewPpm * 65536
  integ : t.tim.integ.natAbs ≤ 200 * 65536

theorem State.servo_bound : s.ServoBound (s.servo true err) := by
  obtain ⟨r, e⟩ := s.servo_eq err
  have hy := State.putY_y { s with tim := { s.tim with integ := clampInt yMax (s.servoRate err), rateSince := r } }
    (s.servoRate err + s.servoSlew err)
  have hinteg : (s.servo true err).tim.integ = clampInt yMax (s.servoRate err) := rfl
  have hsum := clampInt_bounds (by decide : 0 ≤ yMax) (s.servoRate err + s.servoSlew err)
  have hrate := clampInt_bounds (by decide : 0 ≤ yMax) (s.servoRate err)
  have hmax : yMax = 200 * 65536 := rfl
  rw [← e] at hy
  refine ⟨?_, ?_, ?_⟩
  · rw [hy]
    omega
  · rw [hy, hinteg]
    exact (clampInt_add_sub (by decide) _ _).trans (s.servoSlew_le err)
  · rw [hinteg]
    omega

theorem State.servo_only : TimOnly [Reg.TIM_FREQ_Y] s (s.servo true err) := ((TimOnly.refl _ s).tim _).putY _ (by decide)

end

/-! ### A qualified sample in LOCKED (R124, R128) -/

section
variable {s : State} {err : Int}

/-- A sample as it is taken: its edge, and the error it reports. -/
def State.sampled (s : State) (err : Int) : State :=
  ({ s with tim := { s.tim with sampleAt := s.dtRef } } : State).put Reg.TIM_PHASE_ERR_ERR (satInt 32 err)

theorem State.sampled_only : TimOnly [Reg.TIM_PHASE_ERR_ERR] s (s.sampled err) := ((TimOnly.refl _ s).tim _).put _ _ _ _ (by decide)

theorem State.sampled_err : (s.sampled err).get Reg.TIM_PHASE_ERR_ERR = satInt 32 err :=
  (State.get_put_self ..).trans (trunc_of_lt (ofInt_lt 32 _))

theorem State.sampled_slewPpm : (s.sampled err).slewPpm = s.slewPpm := by
  rw [State.slewPpm, State.slewPpm, State.sampled_only.get (by decide)]

theorem State.sampled_slewBudget : (s.sampled err).slewBudget = s.slewBudget := by
  rw [State.slewBudget, State.slewBudget, State.sampled_slewPpm, State.sampled_only.get (by decide)]

theorem State.timeSample_of_locked (hstate : s.get Reg.TIM_STATUS_STATE = 4) (hshadow : s.shadow = []) :
    s.timeSample err = (s.sampled err).track err := by
  unfold State.timeSample
  extract_lets _ u st v
  have hst : st = 4 := hstate
  rw [if_pos (by simp [hst]), if_neg (by simp [hst])]
  exact congrArg (fun w : State => (w.put Reg.TIM_PHASE_ERR_ERR (satInt 32 err)).track err) (u.commitAll_of_shadow_nil _ hshadow)

/-- Within the budget the servo follows the sample, and the session stays in LOCKED or goes back to SLEW. -/
theorem State.track_of_locked (hstate : s.get Reg.TIM_STATUS_STATE = 4) (hle : err.natAbs ≤ s.slewBudget) :
    s.track err = (s.servo true err).timState 3 ∨
      ∃ n, s.track err = { s.servo true err with tim := { (s.servo true err).tim with unlockRun := n } } := by
  have hservo : (s.servo true err).get Reg.TIM_STATUS_STATE = 4 := ((s.servo_only err).get (by decide) _ _).trans hstate
  have hcond : s.cond (s.get Reg.TIM_STATUS_STATE == 5) (·.timState 3) = s := by rw [hstate]; rfl
  unfold State.track
  extract_lets thr n u v r
  have hu : u = s := hcond
  have hv : v = s.servo true err := congrArg (·.servo true err) hu
  clear_value v
  subst hv
  rw [if_neg (by omega), if_neg (by rw [hservo]; decide)]
  split
  · exact .inl rfl
  · exact .inr ⟨_, rfl⟩

theorem timeSample_within (hstate : s.get Reg.TIM_STATUS_STATE = 4) (hshadow : s.shadow = []) (hle : err.natAbs ≤ s.slewBudget) :
    Does (.timeSample err) s fun t =>
      t.get Reg.TIM_PHASE_ERR_ERR = satInt 32 err ∧ s.ServoBound t ∧
      (t.get Reg.TIM_STATUS_STATE = 4 ∨ t.get Reg.TIM_STATUS_STATE = 3) ∧ t.tim.sampleAt = s.dtRef ∧
      TimOnly [Reg.TIM_PHASE_ERR_ERR, Reg.TIM_FREQ_Y, Reg.TIM_STATUS_STATE] s t := by
  refine .of_next (congrArg Host.Outcome.next (State.timeSample_of_locked hstate hshadow)) ?_
  have hsampled : TimOnly [Reg.TIM_PHASE_ERR_ERR] s (s.sampled err) := State.sampled_only
  have herr : (s.sampled err).get Reg.TIM_PHASE_ERR_ERR = satInt 32 err := State.sampled_err
  have hppm : (s.sampled err).slewPpm = s.slewPpm := State.sampled_slewPpm
  have hstate' : (s.sampled err).get Reg.TIM_STATUS_STATE = 4 := (hsampled.get (by decide) _ _).trans hstate
  have hat : (s.sampled err).tim.sampleAt = s.dtRef := rfl
  have htrack := State.track_of_locked hstate' (hle.trans_eq State.sampled_slewBudget.symm)
  have hservo := (s.sampled err).servo_only err
  obtain ⟨hy, hslew, hinteg⟩ := (s.sampled err).servo_bound err
  rw [hppm] at hslew
  have hat' : ((s.sampled err).servo true err).tim.sampleAt = s.dtRef := hat
  have hall : TimOnly [Reg.TIM_PHASE_ERR_ERR, Reg.TIM_FREQ_Y, Reg.TIM_STATUS_STATE] s ((s.sampled err).servo true err) :=
    (hsampled.mono (by decide)).trans (hservo.mono (by decide))
  generalize (s.sampled err).servo true err = v at htrack hservo hy hslew hinteg hat' hall
  rcases htrack with e | ⟨n, e⟩ <;> rw [e]
  · have hkeep {f : Fld} (hf : f.id ≠ Reg.TIM_STATUS_STATE.id) : (v.timState 3).get f = v.get f := v.get_timState 3 hf 0 0
    refine ⟨?_, ⟨?_, ?_, hinteg⟩, .inr (v.timState_state 3), hat', hall.timState 3 (by decide)⟩
    · rw [hkeep (by decide), hservo.get (by decide), herr]
    · rwa [hkeep (by decide)]
    · rwa [hkeep (by decide)]
  · exact ⟨(hservo.get (by decide) _ _).trans herr, ⟨hy, hslew, hinteg⟩, .inl ((hservo.get (by decide) _ _).trans hstate'), hat',
      hall.tim _⟩

theorem timeSample_beyond (hstate : s.get Reg.TIM_STATUS_STATE = 4) (hshadow : s.shadow = []) (hlt : s.slewBudget < err.natAbs)
    (hidle : s.flt.under = none) : Does (.timeSample err) s fun t => s.TimeFaulted t := by
  refine .of_next (congrArg Host.Outcome.next (State.timeSample_of_locked hstate hshadow)) ?_
  have hsampled : TimOnly [Reg.TIM_PHASE_ERR_ERR] s (s.sampled err) := State.sampled_only
  have e : (s.sampled err).track err = (s.sampled err).timeFault := if_pos (by rwa [State.sampled_slewBudget])
  have h := State.timeFault_faulted (s.sampled err) hidle
  rw [e]
  exact ⟨h.state, h.fault, h.int, h.y.trans (hsampled.get (by decide) _ _), h.dtRef, h.under⟩

end

end Sys2Proof.Machine
end

/-! ## PTP -/

section
namespace Sys2Proof.Machine

section
variable {s : State} {hdr : PtpHdr} {m : Master} {identity : Nat}

/-! ### Messages and masters (R132, R133) -/

theorem State.hears_iff : s.hears hdr = true ↔ s.flag Reg.TIM_STATUS_SESSION = true ∧ s.get Reg.TIM_CTRL_SRC = 1 ∧
    hdr.udp = s.flag Reg.TIM_PTP_CFG_TRANSPORT ∧ hdr.domain = s.get Reg.TIM_PTP_CFG_DOMAIN := by
  simp only [State.hears, State.following, Bool.and_eq_true, beq_iff_eq, and_assoc]

/-- The status of the master that is followed (R133). -/
def State.showMaster (s : State) (m : Master) : State :=
  let u := (s.put Reg.TIM_PTP_STATUS_UTC_OFFSET m.utcOffset).putB Reg.TIM_PTP_STATUS_UTC_VALID m.utcValid
  (((u.putB Reg.TIM_PTP_STATUS_L1SYNC_UP (m.l1sync && u.flag Reg.TIM_PTP_CFG_L1SYNC_EN)).putB Reg.TIM_PTP_STATUS_TAI_SCALE m.ptpScale).put
    Reg.TIM_PTP_STATUS_STEPS_REMOVED m.steps).put Reg.TIM_PTP_GM_ID m.identity

/-- The fields `showMaster` writes. -/
def masterFields : List Fld :=
  [Reg.TIM_PTP_STATUS_UTC_OFFSET, Reg.TIM_PTP_STATUS_UTC_VALID, Reg.TIM_PTP_STATUS_L1SYNC_UP, Reg.TIM_PTP_STATUS_TAI_SCALE,
   Reg.TIM_PTP_STATUS_STEPS_REMOVED, Reg.TIM_PTP_GM_ID]

theorem State.showMaster_only (s : State) (m : Master) : TimOnly masterFields s (s.showMaster m) :=
  .put _ _ _ _ (by decide) (.put _ _ _ _ (by decide) (.put _ _ _ _ (by decide) (.put _ _ _ _ (by decide) (.put _ _ _ _ (by decide)
    (.put _ _ _ _ (by decide) (.refl _ s))))))

theorem trunc_boolNat (b : Bool) : trunc 1 (boolNat b) = boolNat b := by cases b <;> rfl

theorem State.showMaster_shown (s : State) (m : Master) :
    (s.showMaster m).get Reg.TIM_PTP_GM_ID = m.identity % 2 ^ 64 ∧
    (s.showMaster m).get Reg.TIM_PTP_STATUS_TAI_SCALE = boolNat m.ptpScale ∧
    (s.showMaster m).get Reg.TIM_PTP_STATUS_STEPS_REMOVED = m.steps % 256 ∧
    (s.showMaster m).get Reg.TIM_PTP_STATUS_L1SYNC_UP = boolNat (m.l1sync && s.flag Reg.TIM_PTP_CFG_L1SYNC_EN) := by
  have hen : ((s.put Reg.TIM_PTP_STATUS_UTC_OFFSET m.utcOffset).putB Reg.TIM_PTP_STATUS_UTC_VALID m.utcValid).flag Reg.TIM_PTP_CFG_L1SYNC_EN =
      s.flag Reg.TIM_PTP_CFG_L1SYNC_EN :=
    congrArg (· != 0) ((State.get_put_of_id _ _ _ _ _ _ _ _ (by decide)).trans (State.get_put_of_id _ _ _ _ _ _ _ _ (by decide)))
  unfold State.showMaster
  dsimp only
  rw [hen]
  unfold State.putB
  refine ⟨State.get_put_self .., ?_, ?_, ?_⟩
  · rw [State.get_put_of_id _ _ _ _ _ _ _ _ (by decide), State.get_put_of_id _ _ _ _ _ _ _ _ (by decide), State.get_put_self]
    exact trunc_boolNat _
  · rw [State.get_put_of_id _ _ _ _ _ _ _ _ (by decide), State.get_put_self]
    rfl
  · rw [State.get_put_of_id _ _ _ _ _ _ _ _ (by decide), State.get_put_of_id _ _ _ _ _ _ _ _ (by decide),
      State.get_put_of_id _ _ _ _ _ _ _ _ (by decide), State.get_put_self]
    exact trunc_boolNat _

/-- The master selected last is another one. -/
def Tim.changes (x : Tim) (m : Master) : Bool := x.lastMaster.isSome && x.lastMaster != some m.identity

theorem Tim.changes_iff (x : Tim) (m : Master) : x.changes m = false ↔ x.lastMaster = none ∨ x.lastMaster = some m.identity := by
  cases h : x.lastMaster <;> simp [Tim.changes, h]

/-- The only master heard is selected (R132). -/
theorem State.selectMaster_of_only {d : Nat} (hmasters : s.tim.masters = [(m, d)]) (hnone : s.tim.selected = none) :
    s.selectMaster = ({ s.cond (s.tim.changes m) (·.put Reg.TIM_INT_SRC_CHANGE 1) with
      tim := { s.tim with syncRx := none, dreqTx := none, delayExch := none, selected := some m.identity,
                          lastMaster := some m.identity } } : State).showMaster m := by
  have hbest : bestMaster (s.tim.masters.map (·.1)) = some m := by rw [hmasters]; rfl
  have hcond : (s.cond (s.tim.changes m) (·.put Reg.TIM_INT_SRC_CHANGE 1)).tim = s.tim := by unfold State.cond; split <;> rfl
  unfold State.selectMaster
  rw [hbest]
  dsimp only
  rw [show (s.tim.lastMaster.isSome && s.tim.lastMaster != some m.identity) = s.tim.changes m from rfl]
  generalize s.cond (s.tim.changes m) (·.put Reg.TIM_INT_SRC_CHANGE 1) = u at hcond
  rw [show (u.tim.selected != some m.identity) = true by rw [hcond, hnone]; rfl, State.cond_true, ← hcond]
  rfl

/-- With no master left none is selected. -/
theorem State.selectMaster_of_none (hmasters : s.tim.masters = []) :
    s.selectMaster = { s with tim := { s.tim with selected := none } } := by
  simp only [State.selectMaster, hmasters, List.map_nil, bestMaster, List.foldl_nil]

theorem ptpAnnounceRx_of_first (hhears : s.hears hdr = true) (hmasters : s.tim.masters = []) (hnone : s.tim.selected = none) :
    Does (.ptpAnnounceRx hdr m) s fun t =>
      t.tim.masters = [(m, s.dtRef)] ∧ t.tim.selected = some m.identity ∧
      (t.get Reg.TIM_INT_SRC_CHANGE = if s.tim.lastMaster = none ∨ s.tim.lastMaster = some m.identity then s.get Reg.TIM_INT_SRC_CHANGE else 1) ∧
      t.get Reg.TIM_PTP_GM_ID = m.identity % 2 ^ 64 ∧ t.get Reg.TIM_PTP_STATUS_TAI_SCALE = boolNat m.ptpScale ∧
      t.get Reg.TIM_PTP_STATUS_STEPS_REMOVED = m.steps % 256 ∧
      t.get Reg.TIM_PTP_STATUS_L1SYNC_UP = boolNat (m.l1sync && s.flag Reg.TIM_PTP_CFG_L1SYNC_EN) ∧
      TimOnly [Reg.TIM_PTP_STATUS_UTC_OFFSET, Reg.TIM_PTP_STATUS_UTC_VALID, Reg.TIM_PTP_STATUS_L1SYNC_UP, Reg.TIM_PTP_STATUS_TAI_SCALE,
        Reg.TIM_PTP_STATUS_STEPS_REMOVED, Reg.TIM_PTP_GM_ID, Reg.TIM_INT_SRC_CHANGE] s t := by
  let u : State := { s with tim := { s.tim with masters := [(m, s.dtRef)] } }
  have hheard : exec (.ptpAnnounceRx hdr m) s = .next u.selectMaster := by
    change execPtpAnnounceRx hdr m s = _
    rw [execPtpAnnounceRx, if_pos hhears, hmasters]
    rfl
  refine .of_next hheard ?_
  rw [State.selectMaster_of_only (s := u) (m := m) (d := s.dtRef) rfl hnone]
  let w := u.cond (u.tim.changes m) (·.put Reg.TIM_INT_SRC_CHANGE 1)
  have hw : TimOnly [Reg.TIM_INT_SRC_CHANGE] s w := ((TimOnly.refl _ s).tim _).cond fun h => h.put _ _ _ _ (by decide)
  have hchange : w.get Reg.TIM_INT_SRC_CHANGE =
      if s.tim.lastMaster = none ∨ s.tim.lastMaster = some m.identity then s.get Reg.TIM_INT_SRC_CHANGE else 1 := by
    cases hc : u.tim.changes m
    · rw [if_pos ((u.tim.changes_iff m).1 hc), show w = u from congrArg (u.cond · _) hc]
      rfl
    · rw [if_neg fun h => absurd (hc.symm.trans ((u.tim.changes_iff m).2 h)) (by decide),
        show w = u.put Reg.TIM_INT_SRC_CHANGE 1 from congrArg (u.cond · _) hc, State.get_put_self]
      rfl
  let x : Tim := { u.tim with syncRx := none, dreqTx := none, delayExch := none, selected := some m.identity, lastMaster := some m.identity }
  have hshow := State.showMaster_only { w with tim := x } m
  obtain ⟨hid, hscale, hsteps, hl1⟩ := State.showMaster_shown { w with tim := x } m
  have hl1en : ({ w with tim := x } : State).flag Reg.TIM_PTP_CFG_L1SYNC_EN = s.flag Reg.TIM_PTP_CFG_L1SYNC_EN :=
    congrArg (· != 0) (hw.get (by decide) _ _)
  rw [hl1en] at hl1
  exact ⟨rfl, rfl, (hshow.get (by decide) _ _).trans hchange, hid, hscale, hsteps, hl1,
    ((hw.mono (by decide)).tim x).trans (hshow.mono (by decide))⟩

/-! ### Sync, Follow_Up and the delay exchange (R133) -/

/-- The phase error of a completed Sync: half of the exchange less the Sync's own transit, and the asymmetry in force (R133). -/
def State.ptpError (s : State) (ex transit : Int) : Int :=
  centred (etMod * 1000) ((ex - transit) / 2 + toInt 32 (s.get Reg.TIM_PTP_ASYM_ASYM))

/-- With a delay exchange and a master on the PTP timescale a completed Sync is a sample. -/
theorem State.ptpSample_of_exchange {ex : Int} (hex : s.tim.delayExch = some ex) (hm : s.master = some m) (hscale : m.ptpScale = true)
    (rx origin corr : Int) : s.ptpSample rx origin corr = s.timeSample (s.ptpError ex (rx - (origin + corr))) := by
  simp only [State.ptpSample, hex, hm, hscale, if_true]
  rfl

/-- The transport, domain and master test of a message. -/
theorem State.hears_selected (hhears : s.hears hdr = true) (hsel : s.tim.selected = some identity) :
    (s.hears hdr && s.tim.selected == some identity) = true := by
  simp [hhears, hsel]

variable (origin corr : Int)

theorem ptpSyncRx_of_twoStep (hhears : s.hears hdr = true) (hsel : s.tim.selected = some identity) (sub : Nat) (syncLog rate : Int) :
    Does (.ptpSyncRx hdr identity true origin corr sub syncLog rate) s fun t =>
      t = { s with tim := { s.tim with syncRx := some (s.etPs sub - corr), syncLog := some syncLog, synRate := some rate } } :=
  .of_next (if_pos (State.hears_selected hhears hsel)) rfl

theorem ptpSyncRx_of_oneStep {ex : Int} (hhears : s.hears hdr = true) (hsel : s.tim.selected = some identity)
    (hex : s.tim.delayExch = some ex) (hm : s.master = some m) (hscale : m.ptpScale = true) (sub : Nat) (syncLog rate : Int) :
    Does (.ptpSyncRx hdr identity false origin corr sub syncLog rate) s fun t =>
      t = ({ s with tim := { s.tim with syncLog := some syncLog, synRate := some rate } } : State).timeSample
        (s.ptpError ex (s.etPs sub - (origin + corr))) :=
  .of_next (if_pos (State.hears_selected hhears hsel)) (State.ptpSample_of_exchange
    (s := { s with tim := { s.tim with syncLog := some syncLog, synRate := some rate } }) hex hm hscale _ _ _)

theorem ptpFollowUpRx_of_waiting {rx ex : Int} (hhears : s.hears hdr = true) (hsel : s.tim.selected = some identity)
    (hrx : s.tim.syncRx = some rx) (hex : s.tim.delayExch = some ex) (hm : s.master = some m) (hscale : m.ptpScale = true) :
    Does (.ptpFollowUpRx hdr identity origin corr) s fun t =>
      t = ({ s with tim := { s.tim with syncRx := none } } : State).timeSample (s.ptpError ex (rx - (origin + corr))) := by
  have e : exec (.ptpFollowUpRx hdr identity origin corr) s =
      .next (({ s with tim := { s.tim with syncRx := none } } : State).ptpSample rx origin corr) := by
    change execPtpFollowUpRx hdr identity origin corr s = _
    simp only [execPtpFollowUpRx, hrx, State.hears_selected hhears hsel, if_true]
  exact .of_next e (State.ptpSample_of_exchange (s := { s with tim := { s.tim with syncRx := none } }) hex hm hscale _ _ _)

/-- A Delay_Req goes at its interval, and its send time is kept. -/
theorem ptpDelayReqSend_of_selected (hsrc : s.following 1 = true) (hsel : s.tim.selected = some identity) (sub : Nat) :
    Does (.ptpDelayReqSend sub) s fun t => let u := s.advanceTo ((s.tim.dreqAt.map (· + s.dreqRefs)).getD s.dtRef)
      (∀ d ∈ s.tim.dreqAt, u.dtRef = max s.dtRef (d + s.dreqRefs) % 2 ^ 64) ∧
      t = { u with tim := { u.tim with dreqTx := some (u.etPs sub), dreqAt := some u.dtRef, sentDelayReq := u.tim.sentDelayReq + 1 } } := by
  refine .of_next (if_pos (by simp [hsrc, hsel])) ⟨fun d hd => ?_, rfl⟩
  rw [State.advanceTo_dtRef, Option.mem_def.1 hd]
  rfl

theorem ptpDelayRespRx_of_request {t3 : Int} (hhears : s.hears hdr = true) (hsel : s.tim.selected = some identity)
    (hreq : s.tim.dreqTx = some t3) (rx : Int) : Does (.ptpDelayRespRx hdr identity rx corr) s fun t =>
      t = { s with tim := { s.tim with dreqTx := none, delayExch := some (rx - corr - t3) } } := by
  have e : exec (.ptpDelayRespRx hdr identity rx corr) s =
      .next { s with tim := { s.tim with dreqTx := none, delayExch := some (rx - corr - t3) } } := by
    change execPtpDelayRespRx hdr identity rx corr s = _
    simp only [execPtpDelayRespRx, hreq, State.hears_selected hhears hsel, if_true]
  exact .of_next e rfl

/-! ### Timeouts (R133) -/

/-- The source is lost after a time: the session holds over. -/
theorem State.sourceLost_after {d : Nat} (h : s.get Reg.TIM_STATUS_STATE = 3 ∨ s.get Reg.TIM_STATUS_STATE = 4) (x : Tim) :
    let t := State.sourceLost { s.advanceTo d with tim := x }
    t.get Reg.TIM_STATUS_STATE = 5 ∧ t.get Reg.TIM_INT_HOLDOVER = 1 ∧
      TimOnly [Reg.TIM_STATUS_STATE, Reg.TIM_INT_HOLDOVER] (s.advanceTo d) t ∧
      t.tim = { x with qualRun := 0, lockRun := 0, unlockRun := 0, rateSince := none } := by
  have hstate : (s.advanceTo d).get Reg.TIM_STATUS_STATE = s.get Reg.TIM_STATUS_STATE := s.get_advanceTo _ _ _ _ (by decide)
  have hlost := State.sourceLost_of_stepped { s.advanceTo d with tim := x } (by rwa [← hstate] at h)
  obtain ⟨hshown, hint, honly⟩ := State.holdover_shown { s.advanceTo d with tim := x }
  dsimp only
  rw [hlost]
  exact ⟨hshown, hint, ((TimOnly.refl _ _).tim x).trans honly, rfl⟩

theorem ptpAnnounceTimeout_of_only {d : Nat} (hsrc : s.following 1 = true) (hstate : s.get Reg.TIM_STATUS_STATE = 4)
    (hmasters : s.tim.masters = [(m, d)]) (hsel : s.tim.selected = some m.identity) : Does .ptpAnnounceTimeout s fun t =>
      t.get Reg.TIM_STATUS_STATE = 5 ∧ t.get Reg.TIM_INT_HOLDOVER = 1 ∧ t.tim.masters = [] ∧ t.tim.selected = none ∧
      t.dtRef = max s.dtRef (d + max 2 (s.get Reg.TIM_PTP_CFG_ANN_TIMEOUT) * logRefs m.annLog) % 2 ^ 64 ∧
      t.get Reg.TIM_FREQ_Y = s.get Reg.TIM_FREQ_Y ∧
      Only (Reg.TIM_STATUS_STATE :: Reg.TIM_INT_HOLDOVER :: timeFields) s t { s with regs := t.regs, dtRef := t.dtRef, tim := t.tim } := by
  let due := d + max 2 (s.get Reg.TIM_PTP_CFG_ANN_TIMEOUT) * logRefs m.annLog
  let x : Tim := { s.tim with masters := [], selected := some m.identity }
  have htim : (s.advanceTo due).tim = s.tim := by rw [s.advanceTo_eq]
  have e : exec .ptpAnnounceTimeout s = .next (State.sourceLost { s.advanceTo due with tim := x }).selectMaster := by
    change execPtpAnnounceTimeout s = _
    simp only [execPtpAnnounceTimeout, hsrc, if_true, hmasters, hsel, List.find?_cons_of_pos, beq_self_eq_true, Option.map_some,
      Option.getD_some]
    rw [htim, hmasters, hsel]
    simp only [bne_self_eq_false, List.filter_cons_of_neg, Bool.false_eq_true, not_false_eq_true, List.filter_nil]
    rfl
  refine .of_next e ?_
  obtain ⟨hshown, hint, honly, hlost⟩ := State.sourceLost_after (d := due) (.inr hstate) x
  generalize State.sourceLost { s.advanceTo due with tim := x } = u at hshown hint honly hlost ⊢
  rw [State.selectMaster_of_none (by rw [hlost])]
  have hall := honly.tim { u.tim with selected := none }
  refine ⟨hshown, hint, by rw [hlost], rfl, honly.dtRef.trans (s.advanceTo_dtRef due), ?_,
    (hall.mono fun f hf => List.mem_append_left timeFields hf).after_advanceTo fun f hf => List.mem_append_right _ hf⟩
  exact (honly.get (by decide) _ _).trans (s.get_advanceTo _ _ _ _ (by decide))

theorem ptpSyncTimeout_of_slewing {l : Int} (hsrc : s.following 1 = true) (hstate : s.get Reg.TIM_STATUS_STATE = 3)
    (hlog : s.tim.syncLog = some l) : Does .ptpSyncTimeout s fun t => t.get Reg.TIM_STATUS_STATE = 5 ∧
      t.get Reg.TIM_INT_HOLDOVER = 1 ∧ t.dtRef = max s.dtRef (s.tim.sampleAt + 4 * logRefs l) % 2 ^ 64 ∧
      Only (Reg.TIM_STATUS_STATE :: Reg.TIM_INT_HOLDOVER :: timeFields) s t { s with regs := t.regs, dtRef := t.dtRef, tim := t.tim } := by
  have e : exec .ptpSyncTimeout s = .next (s.advanceTo (s.tim.sampleAt + 4 * logRefs l)).sourceLost := by
    change execPtpSyncTimeout s = _
    simp only [execPtpSyncTimeout, hsrc, if_true, hlog, Option.map_some, Option.getD_some]
  obtain ⟨hshown, hint, honly, -⟩ := State.sourceLost_after (d := s.tim.sampleAt + 4 * logRefs l) (.inl hstate)
    (s.advanceTo (s.tim.sampleAt + 4 * logRefs l)).tim
  exact .of_next e ⟨hshown, hint, honly.dtRef.trans (s.advanceTo_dtRef _),
    (honly.mono fun f hf => List.mem_append_left timeFields hf).after_advanceTo fun f hf => List.mem_append_right _ hf⟩

theorem arpRequestRx_of_address {ip : Nat} (hphase : s.sys.phase = .running) (hip : ip = s.get Reg.TIM_PTP_IP_ADDR) :
    Does (.arpRequestRx ip) s fun t => t = { s with tim := { s.tim with sentArp := s.tim.sentArp + 1 } } :=
  .of_next (congrArg Host.Outcome.next (if_pos (by simp [hphase, hip]))) rfl

end

/-- Settles O15: a sample within and beyond the budget, the first Announce, Sync, Follow_Up, the delay exchange, the two timeouts, and ARP. -/
theorem timeDiscipline : Obligations.TimeDiscipline :=
  ⟨fun _ _ hstate hshadow hle => by
      obtain ⟨t, e, herr, ⟨hy, hslew, hinteg⟩, hstate', hat, honly⟩ := timeSample_within hstate hshadow hle
      exact ⟨t, e, herr, hy, hslew, hinteg, hstate', hat, honly⟩,
    fun _ _ hstate hshadow hlt hidle => by
      obtain ⟨t, e, h⟩ := timeSample_beyond hstate hshadow hlt hidle
      exact ⟨t, e, h.state, h.fault, h.y, h.under⟩,
    fun _ _ _ => ⟨State.hears_iff, fun h => .of_next (if_neg (by simp [h])) rfl, ptpAnnounceRx_of_first⟩,
    fun _ _ origin corr sub syncLog rate _ _ _ hhears hsel =>
      ⟨ptpSyncRx_of_twoStep origin corr hhears hsel sub syncLog rate,
        fun hex hm hscale => ptpSyncRx_of_oneStep origin corr hhears hsel hex hm hscale sub syncLog rate⟩,
    fun _ _ origin corr _ _ _ _ => ptpFollowUpRx_of_waiting origin corr,
    fun sub _ _ hsrc hsel => ptpDelayReqSend_of_selected hsrc hsel sub,
    fun _ _ rx corr _ _ hhears hsel hreq => ptpDelayRespRx_of_request corr hhears hsel hreq rx,
    fun _ _ _ => ptpAnnounceTimeout_of_only,
    fun _ _ => ptpSyncTimeout_of_slewing,
    fun _ _ => arpRequestRx_of_address⟩

end Sys2Proof.Machine
end

/-! ## A delay line at the end of its range -/

section
namespace Sys2Proof.Machine

/-- The delay line of tile T0 stands at the largest value of its 13-bit field, and SKEW_FORCE has measured one step more for it. -/
def skewTop : State := ok' (exec (.skewForce 0x110 [8192, 0, 0, 0]) (up.put Reg.TIM_TSKEW_DELAY 8191))

/-- The step toward the target leaves the field and wraps to 0. -/
theorem epochBoundary_skewTop : (ok' (exec .epochBoundary skewTop)).get Reg.TIM_TSKEW_DELAY = 0 := by decide +kernel

/-- Refutes O16: the epoch boundary's clause bounds the move of a delay line whatever its target. No rule of the model keeps a measured
delay within TIM_TSKEWn.DELAY, and in `skewTop` the line moves from 8191 to 0. -/
theorem not_timeOutputs : ¬ Obligations.TimeOutputs := by
  unfold Obligations.TimeOutputs
  rintro ⟨-, -, -, -, -, -, -, -, -, -, hboundary, -⟩
  have hdelay : skewTop.get Reg.TIM_TSKEW_DELAY = 8191 := by decide +kernel
  obtain ⟨t, e, -, hmove⟩ := hboundary 0 skewTop (by decide) (by decide +kernel)
  have hwrap := epochBoundary_skewTop
  rw [e, ok'] at hwrap
  rw [hwrap, hdelay] at hmove
  exact absurd hmove (by decide)

end Sys2Proof.Machine
end

/-! ## A launch time on the other side of ET's wrap -/

section
namespace Sys2Proof.Machine

/-- A frame whose launch time lies one reference period before the wrap of ET (R117). -/
def wrapFrame : HFrame :=
  { desc := { idx := 3, addr := 0x8000, len := 8, tag := 9, launch := some (2 ^ 48 - 1, 999999996) }, data := [1, 2, 3, 4, 5, 6, 7, 8] }

/-- It heads queue 2, and ET is valid and stands at 0. -/
def wrapLaunch : State := (h2dUp.put Reg.TIM_STATUS_ET_VALID 1).setHframe 2 (some wrapFrame)

/-- ET passed the launch time one reference period ago: the frame is released late (R142). -/
theorem frameLaunch_wrapLaunch :
    ((ok' (exec (.frameLaunch 2) wrapLaunch)).hframe 2).map (fun x => (x.status, x.released)) = some (none, some 0) := by decide +kernel

/-- Refutes O47: the clauses of a held frame compare its launch time with ET as whole numbers, but ET is held modulo 2^48 s. In `wrapLaunch`
the launch time is the larger number by far and has passed: the frame is released late, not refused as too far ahead. -/
theorem not_hostTransfers : ¬ Obligations.HostTransfers := by
  unfold Obligations.HostTransfers
  rintro ⟨-, -, -, -, hlaunch, -⟩
  have hframe : wrapLaunch.hframe 2 = some wrapFrame := by decide +kernel
  obtain ⟨-, -, hfar, -⟩ := hlaunch 2 (2 ^ 48 - 1) 999999996 wrapFrame wrapLaunch (by decide) (by decide +kernel) (by decide +kernel)
    (by decide +kernel) hframe rfl rfl rfl rfl (by decide +kernel) (by decide +kernel)
  obtain ⟨t, e, hrefused, -⟩ := hfar (by decide +kernel) (by decide +kernel) (by decide +kernel)
  have hlate := frameLaunch_wrapLaunch
  rw [e, ok', hrefused] at hlate
  exact absurd hlate (by decide)

end Sys2Proof.Machine
end

/-! ## The region map -/

section
namespace Sys2Proof.Machine

/-! ### Entries of a table (R150) -/

/-- A flag reads as before after a store to another field. -/
theorem State.flag_put_of_id {s : State} {f g : Fld} {v i j i' j' : Nat} (h : g.id ≠ f.id) :
    (s.put f v i j).flag g i' j' = s.flag g i' j' := by
  rw [State.flag, State.get_put_of_id _ _ _ _ _ _ _ _ h, State.flag]

/-- The value just written is read. -/
theorem NMap.get_set_self {β : Type} [DecidableEq β] (d : β) (m : NMap β) (k : Nat) (v : β) : (m.set d k v).get d k = v :=
  SMap.get_set_self ..

theorem rmapAt_set_self (m : NMap Nat) (i v : Nat) : rmapAt (m.set rmapReset i v) i = v := NMap.get_set_self ..

theorem rmapAt_set_of_ne (m : NMap Nat) {i k : Nat} (v : Nat) (h : k ≠ i) : rmapAt (m.set rmapReset i v) k = rmapAt m k :=
  SMap.get_set_of_ne _ _ _ _ h

/-- MODE lies within the 27 bits that an entry keeps. -/
theorem rMode_mod (v : Nat) : rMode (v % 2 ^ 27) = bits v 12 2 := by
  unfold rMode bits
  omega

/-! ### An entry takes a value (R151, R152) -/

/-- The low half held of an entry is dropped. -/
def State.dropHalf (s : State) : State := { s with evt := { s.evt with half := none } }

section
variable (s : State) {i v : Nat}

theorem State.rmapPut_of_mode3 (h : bits v 12 2 = 3) :
    s.rmapPut i v = (s.put Reg.EVT_INT_RMAP_ERR 1).put Reg.EVT_RMAP_ERRIDX_INDEX i := by
  unfold State.rmapPut
  exact if_pos ((rMode_mod v).trans h)

theorem State.rmapPut_of_on (h : bits v 12 2 ≠ 3) (hen : s.flag Reg.EVT_CTRL_EN = true) :
    s.rmapPut i v = { s with evt := { s.evt with shd := s.evt.shd.set rmapReset i (v % 2 ^ 27) } } := by
  unfold State.rmapPut
  exact (if_neg ((rMode_mod v).trans_ne h)).trans (if_pos hen)

theorem State.rmapPut_of_off (h : bits v 12 2 ≠ 3) (hen : s.flag Reg.EVT_CTRL_EN = false) :
    s.rmapPut i v = { s with evt :=
      { s.evt with shd := s.evt.shd.set rmapReset i (v % 2 ^ 27), act := s.evt.act.set rmapReset i (v % 2 ^ 27) } } := by
  unfold State.rmapPut
  exact (if_neg ((rMode_mod v).trans_ne h)).trans (if_neg (ne_true_of_eq_false hen))

/-- A write that would set MODE = 0b11 shows in EVT_INT.RMAP_ERR and EVT_RMAP_ERRIDX alone, beside the half that is dropped. -/
theorem State.rmapPut_refused (hi : i < 65536) (h : bits v 12 2 = 3) :
    (s.dropHalf.rmapPut i v).get Reg.EVT_INT_RMAP_ERR = 1 ∧ (s.dropHalf.rmapPut i v).get Reg.EVT_RMAP_ERRIDX_INDEX = i ∧
    Only [Reg.EVT_INT_RMAP_ERR, Reg.EVT_RMAP_ERRIDX_INDEX] s (s.dropHalf.rmapPut i v)
      { s with regs := (s.dropHalf.rmapPut i v).regs, evt := { s.evt with half := none } } := by
  rw [s.dropHalf.rmapPut_of_mode3 h]
  refine ⟨?_, ?_, rfl, .put _ _ _ _ (by decide) (.put _ _ _ _ (by decide) (.of_regs rfl))⟩
  · rw [State.get_put_of_id _ _ _ _ _ _ _ _ (by decide), State.get_put_self]
    rfl
  · rw [State.get_put_self]
    exact trunc_of_lt hi

end

/-! ### A write of an entry, of its low half and of its high half (R151) -/

section
variable {s : State} {entry v w : Nat} {P : State → Prop}

theorem rmapEntryWrite_whole (he : entry < 65536) (hr : s.responds (0x100000 + 8 * entry) = true) (h : P (s.dropHalf.rmapPut entry v)) :
    Does (.rmapEntryWrite entry 2 v) s P :=
  .of_bar rfl (by simp [he]) hr h

theorem rmapEntryWrite_low (he : entry < 65536) (hr : s.responds (0x100000 + 8 * entry) = true)
    (h : P { s with evt := { s.evt with half := some (entry, v % 2 ^ 32) } }) : Does (.rmapEntryWrite entry 0 v) s P :=
  .of_bar rfl (by simp [he]) hr h

/-- The high half completes the entry whose low half is held. -/
theorem rmapEntryWrite_high (he : entry < 65536) (hr : s.responds (0x100004 + 8 * entry) = true) (hhalf : s.evt.half = some (entry, w))
    (h : P (s.dropHalf.rmapPut entry w)) : Does (.rmapEntryWrite entry 1 v) s P := by
  refine .of_bar rfl (by simp [he]) (a := 0x100000 + 8 * entry + 4 * (1 % 2)) ?_ ?_
  · rwa [show 0x100000 + 8 * entry + 4 * (1 % 2) = 0x100004 + 8 * entry by omega]
  · have e : s.rmapWrite entry 1 v = s.dropHalf.rmapPut entry w := by
      simp only [State.rmapWrite, hhalf, if_true]
      rfl
    rwa [e]

end

/-- Settles O54: both ways to write an entry end in the same refusal, which leaves every table as it is. -/
theorem regionMapMode3 : Obligations.RegionMapMode3 := by
  unfold Obligations.RegionMapMode3
  refine ⟨fun entry v k s he hr hmode => rmapEntryWrite_whole he hr ?_, fun entry v w k s he hr hhalf hmode => rmapEntryWrite_high he hr hhalf ?_⟩
  · obtain ⟨herr, hidx, heq, honly⟩ := s.rmapPut_refused he hmode
    exact ⟨by rw [heq], by rw [heq], herr, hidx, heq, honly⟩
  · obtain ⟨herr, hidx, heq, honly⟩ := s.rmapPut_refused he hmode
    exact ⟨by rw [heq], by rw [heq], herr, hidx, heq, honly⟩

/-! ### The commit of the shadow table (R151) -/

section
variable {s : State} {val : Nat}

/-- A commit is taken while none is on its way, and waits for the next epoch boundary. -/
theorem rmapCommit_of_free (hval : val.testBit 0 = true) (hr : s.responds 0x80010 = true)
    (hp : s.flag Reg.EVT_RMAP_STATUS_PENDING = false) (hb : s.flag Reg.EVT_RMAP_STATUS_BUSY = false) :
    Does (.rmapCommit val) s fun t => t.get Reg.EVT_RMAP_STATUS_PENDING = 1 ∧ t.get Reg.EVT_RMAP_CTRL_READ_ACTIVE = bits val 1 1 ∧
      RegsOnly [Reg.EVT_RMAP_STATUS_PENDING, Reg.EVT_RMAP_CTRL_READ_ACTIVE] s t := by
  refine .of_bar rfl hval hr ?_
  have hfree : ((s.put Reg.EVT_RMAP_CTRL_READ_ACTIVE (bits val 1 1)).flag Reg.EVT_RMAP_STATUS_PENDING ||
      (s.put Reg.EVT_RMAP_CTRL_READ_ACTIVE (bits val 1 1)).flag Reg.EVT_RMAP_STATUS_BUSY) = false := by
    rw [State.flag_put_of_id (by decide), State.flag_put_of_id (by decide), hp, hb]
    rfl
  dsimp only
  rw [if_neg (ne_true_of_eq_false hfree)]
  refine ⟨State.get_put_self .., ?_, (RegsOnly.put s _ _ _ _ (by decide)).trans (.put _ _ _ _ _ (by decide))⟩
  rw [State.get_put_of_id _ _ _ _ _ _ _ _ (by decide), State.get_put_self]
  exact trunc_of_lt (Nat.mod_lt _ (by decide))

/-- A second commit is refused. -/
theorem rmapCommit_of_busy (hval : val.testBit 0 = true) (hr : s.responds 0x80010 = true)
    (hb : s.flag Reg.EVT_RMAP_STATUS_PENDING = true ∨ s.flag Reg.EVT_RMAP_STATUS_BUSY = true) :
    Does (.rmapCommit val) s fun t => t.get Reg.EVT_INT_REFUSED = 1 ∧ RegsOnly [Reg.EVT_INT_REFUSED, Reg.EVT_RMAP_CTRL_READ_ACTIVE] s t := by
  refine .of_bar rfl hval hr ?_
  have hbusy : ((s.put Reg.EVT_RMAP_CTRL_READ_ACTIVE (bits val 1 1)).flag Reg.EVT_RMAP_STATUS_PENDING ||
      (s.put Reg.EVT_RMAP_CTRL_READ_ACTIVE (bits val 1 1)).flag Reg.EVT_RMAP_STATUS_BUSY) = true := by
    rwa [State.flag_put_of_id (by decide), State.flag_put_of_id (by decide), Bool.or_eq_true]
  dsimp only
  rw [if_pos hbusy]
  exact ⟨State.get_put_self .., (RegsOnly.put s _ _ _ _ (by decide)).trans (.put _ _ _ _ _ (by decide))⟩

/-- The tables in force from an epoch on: the shadow table, with the old one kept for earlier epochs. -/
def State.tablesFrom (s : State) (epoch : Nat) : State :=
  { s.put Reg.EVT_RMAP_STATUS_BUSY 0 with evt := { s.evt with old := s.evt.act, act := s.evt.shd, since := epoch } }

theorem State.rmapEpoch_of_pending (epoch : Nat) (hp : s.flag Reg.EVT_RMAP_STATUS_PENDING = true) :
    s.rmapEpoch epoch = (((((s.tablesFrom epoch).put Reg.EVT_RMAP_STATUS_PENDING 0).put Reg.EVT_RMAP_STATUS_BUSY 1).put
      Reg.EVT_RMAP_STATUS_GEN (s.get Reg.EVT_RMAP_STATUS_GEN + 1)).put Reg.EVT_INT_RMAP_COMMITTED 1, true) := by
  have hgen : (((s.tablesFrom epoch).put Reg.EVT_RMAP_STATUS_PENDING 0).put Reg.EVT_RMAP_STATUS_BUSY 1).get Reg.EVT_RMAP_STATUS_GEN =
      s.get Reg.EVT_RMAP_STATUS_GEN := by
    rw [State.get_put_of_id _ _ _ _ _ _ _ _ (by decide), State.get_put_of_id _ _ _ _ _ _ _ _ (by decide)]
    exact s.get_put_of_id Reg.EVT_RMAP_STATUS_BUSY Reg.EVT_RMAP_STATUS_GEN 0 0 0 0 0 (by decide)
  rw [← hgen]
  have hp' : (s.put Reg.EVT_RMAP_STATUS_BUSY 0).flag Reg.EVT_RMAP_STATUS_PENDING = true := by rwa [State.flag_put_of_id (by decide)]
  exact if_pos hp'

/-- An epoch boundary with a commit pending swaps the tables and shows it. -/
theorem State.rmapEpoch_shown (epoch : Nat) (hp : s.flag Reg.EVT_RMAP_STATUS_PENDING = true) :
    (s.rmapEpoch epoch).2 = true ∧ (s.rmapEpoch epoch).1.evt = { s.evt with old := s.evt.act, act := s.evt.shd, since := epoch } ∧
    (s.rmapEpoch epoch).1.get Reg.EVT_RMAP_STATUS_PENDING = 0 ∧ (s.rmapEpoch epoch).1.get Reg.EVT_RMAP_STATUS_BUSY = 1 ∧
    (s.rmapEpoch epoch).1.get Reg.EVT_INT_RMAP_COMMITTED = 1 ∧
    (s.rmapEpoch epoch).1.get Reg.EVT_RMAP_STATUS_GEN = trunc Reg.EVT_RMAP_STATUS_GEN.width (s.get Reg.EVT_RMAP_STATUS_GEN + 1) := by
  rw [State.rmapEpoch_of_pending epoch hp]
  refine ⟨rfl, rfl, ?_, ?_, State.get_put_self .., ?_⟩
  · rw [State.get_put_of_id _ _ _ _ _ _ _ _ (by decide), State.get_put_of_id _ _ _ _ _ _ _ _ (by decide),
      State.get_put_of_id _ _ _ _ _ _ _ _ (by decide), State.get_put_self]
    rfl
  · rw [State.get_put_of_id _ _ _ _ _ _ _ _ (by decide), State.get_put_of_id _ _ _ _ _ _ _ _ (by decide), State.get_put_self]
    rfl
  · rw [State.get_put_of_id _ _ _ _ _ _ _ _ (by decide), State.get_put_self]

end

end Sys2Proof.Machine
end

/-! ## Counters of the event path that clear together -/

section
namespace Sys2Proof.Machine

/-- Cleared counters read as after reset, and nothing else differs. -/
theorem State.clearFields_regsOnly (s : State) (l : List Fld) : RegsOnly l s (s.clearFields (l.map (·.id))) :=
  ⟨rfl, .clearFields _ (fun _ h => h) (.refl l s)⟩

theorem State.get_clearFields_zero (s : State) {l : List Fld} {f : Fld} (hf : f ∈ l) {i j : Nat} (h : f.reset i j = 0) :
    (s.clearFields (l.map (·.id))).get f i j = 0 :=
  (s.get_clearFields_self _ f i j (List.mem_map_of_mem hf)).trans h

/-- The counters of the crossbar and the packers (R178). -/
def eventCounters : List Fld :=
  [Reg.EVT_MASKED_COUNT, Reg.EVT_GAP_MASKED_COUNT, Reg.EVT_UNROUTED_COUNT, Reg.EVT_STALE_COUNT, Reg.EVT_POISON_COUNT]

/-- The counters of a cluster engine, with PEAK (R181). -/
def clusterCounters : List Fld :=
  [Reg.CLU_HITS_COUNT, Reg.CLU_RECORDS_COUNT, Reg.CLU_LATE_COUNT, Reg.CLU_SPLIT_COUNT, Reg.CLU_SEAM_COUNT, Reg.CLU_RECOMP_COUNT,
   Reg.CLU_POISON_COUNT, Reg.CLU_FULL_COUNT, Reg.CLU_BYPASS_COUNT, Reg.CLU_OCC_PEAK]

theorem eventCounter_reset (i j : Nat) : ∀ f ∈ eventCounters ++ clusterCounters, f.reset i j = 0 := by
  intro f hf
  fin_cases hf <;> rfl

section
variable {s : State}

theorem evtCntClr_of_responds (hr : s.responds 0x80034 = true) :
    Does .evtCntClr s fun t => (∀ f ∈ eventCounters, t.get f = 0) ∧ RegsOnly eventCounters s t :=
  .of_next (congrArg Host.Outcome.next (State.bar_of_responds hr _))
    ⟨fun _ hf => s.get_clearFields_zero hf (eventCounter_reset _ _ _ (List.mem_append_left _ hf)), s.clearFields_regsOnly _⟩

theorem cluCntClr_of_responds (hr : s.responds 0x810B8 = true) :
    Does .cluCntClr s fun t => (∀ e ∈ List.range 8, ∀ f ∈ clusterCounters, t.get f 0 e = 0) ∧ RegsOnly clusterCounters s t :=
  .of_next (congrArg Host.Outcome.next (State.bar_of_responds hr _))
    ⟨fun _ _ _ hf => s.get_clearFields_zero hf (eventCounter_reset _ _ _ (List.mem_append_right _ hf)), s.clearFields_regsOnly _⟩

end

end Sys2Proof.Machine
end

/-! ## What the way of a packet to its sinks leaves -/

section
namespace Sys2Proof.Machine

/-! ### Registers, packers and the sinks behind them -/

/-- Register fields of `l`, the packers and FIFOs of streams and what their sinks hold differ, and nothing else. -/
def StreamOnly (l : List Fld) (s t : State) : Prop :=
  Only l s t { s with regs := t.regs, evt := { s.evt with strm := t.evt.strm }, lnk := t.lnk, hst := t.hst, cmp := t.cmp }

section
variable {l : List Fld} {s u w : State}

theorem StreamOnly.refl (l : List Fld) (s : State) : StreamOnly l s s := ⟨rfl, .refl l s⟩

theorem StreamOnly.trans (h : StreamOnly l s u) (h' : StreamOnly l u w) : StreamOnly l s w := ⟨by rw [h'.1, h.1], h.2.trans h'.2⟩

theorem StreamOnly.mono {l' : List Fld} (h : StreamOnly l s u) (hl : ∀ f ∈ l, f ∈ l') : StreamOnly l' s u := ⟨h.1, h.2.mono hl⟩

theorem StreamOnly.of_regsOnly (h : RegsOnly l s u) : StreamOnly l s u := ⟨by rw [h.1], h.2⟩

theorem StreamOnly.put (f : Fld) (v i j : Nat) (hf : f ∈ l) (h : StreamOnly l s u) : StreamOnly l s (u.put f v i j) :=
  h.trans (.of_regsOnly (.put u f v i j hf))

theorem StreamOnly.bump (f sat : Fld) (i j n k : Nat) (hf : f ∈ l) (hs : sat ∈ l) (h : StreamOnly l s u) :
    StreamOnly l s (u.bump f sat i j n k) :=
  h.trans (.of_regsOnly (.bump u f sat i j n k hf hs))

theorem StreamOnly.setStrm (n : Nat) (x : Strm) (h : StreamOnly l s u) : StreamOnly l s (u.setStrm n x) := h.trans ⟨rfl, .of_regs rfl⟩

theorem StreamOnly.cond {c : Bool} {f : State → State} (h : StreamOnly l s u) (hf : StreamOnly l s u → StreamOnly l s (f u)) :
    StreamOnly l s (u.cond c f) := by
  cases c
  · exact h
  · exact hf h

theorem StreamOnly.get (h : StreamOnly l s u) {f : Fld} (hf : f.id ∉ l.map (·.id)) (i j : Nat) : u.get f i j = s.get f i j := h.2 f i j hf

theorem StreamOnly.eng (h : StreamOnly l s u) : u.evt.eng = s.evt.eng := by rw [h.1]

end

/-- What a packet changes among the register fields on its way. -/
def packetFields : List Fld :=
  [Reg.EVT_STRM_STATn_NEXT_SEQ, Reg.EVT_STRM_STATn_OPEN, Reg.HST_STRM_LEVEL_LEVEL, Reg.HST_STRM_LEVEL_PEAK, Reg.HST_STRM_OVR_OVR,
   Reg.HST_STRM_DISC_COUNT, Reg.HST_STRM_DITEMS_COUNT, Reg.HST_INT_OVR, Reg.HST_INT_CNT_SAT, Reg.LNK_Pp_OUTST_BULK, Reg.LNK_Pp_OUTST_PEAK]

/-- From `s` to `t` packets move on from their packers and no packer opens one. Each named operation below leads from such a state to
such a state; the lemmas stand in the order of the definitions they speak of. -/
structure Feeds (s t : State) : Prop where
  only : StreamOnly packetFields s t
  opn : ∀ n, (s.strm n).opn = none → (t.strm n).opn = none

/-- The state the option holds, if any, satisfies `P`. -/
def OptHolds (P : State → Prop) (o : Option State) : Prop := ∀ t, o = some t → P t

section
variable {P : State → Prop} {o p : Option State} {t : State}

theorem OptHolds.some (h : P t) : OptHolds P (some t) := by
  rintro u ⟨⟩
  exact h

theorem OptHolds.none : OptHolds P none := by rintro u ⟨⟩

theorem OptHolds.ite {c : Prop} [Decidable c] (ho : OptHolds P o) (hp : OptHolds P p) : OptHolds P (if c then o else p) := by
  split <;> assumption

theorem OptHolds.orElse (ho : OptHolds P o) (hp : OptHolds P p) : OptHolds P (o.orElse fun _ => p) := by
  cases o with
  | none => exact hp
  | some _ => exact ho

theorem OptHolds.findSome? {α : Type} {l : List α} {f : α → Option State} (hf : ∀ a, OptHolds P (f a)) : OptHolds P (l.findSome? f) :=
  fun t e => by
    obtain ⟨a, -, ha⟩ := List.exists_of_findSome?_eq_some e
    exact hf a t ha

end

section
variable {r s : State}

theorem Feeds.refl : Feeds s s := ⟨.refl _ s, fun _ h => h⟩

theorem Feeds.put {f : Fld} {v i j : Nat} (h : Feeds r s) (hf : f ∈ packetFields) : Feeds r (s.put f v i j) :=
  ⟨h.only.put f v i j hf, h.opn⟩

theorem Feeds.ite {c : Prop} [Decidable c] {t : State} (hs : Feeds r s) (ht : Feeds r t) : Feeds r (if c then s else t) := by
  split <;> assumption

theorem Feeds.bump {f sat : Fld} {i j n k : Nat} (h : Feeds r s) (hf : f ∈ packetFields) (hs : sat ∈ packetFields) :
    Feeds r (s.bump f sat i j n k) :=
  .ite (h.put hf) ((h.put hf).put hs)

theorem Feeds.cond {c : Bool} {f : State → State} (h : Feeds r s) (hf : Feeds r s → Feeds r (f s)) : Feeds r (s.cond c f) := by
  cases c
  · exact h
  · exact hf h

theorem Feeds.each {α : Type} {m : List α} {f : State → α → State} (h : Feeds r s) (hf : ∀ {u a}, Feeds r u → Feeds r (f u a)) :
    Feeds r (s.each m f) :=
  State.each_keeps (fun _ _ => hf) m h

/-- What the sinks hold takes any value. -/
theorem Feeds.upd {lnk : Lnk} {hst : Hst} {cmp : Cmp} (h : Feeds r s) : Feeds r { s with lnk := lnk, hst := hst, cmp := cmp } :=
  ⟨h.only.trans ⟨rfl, .of_regs rfl⟩, h.opn⟩

end

/-! ### Streams after a write -/

section
variable (s : State) (n : Nat) (x y : Strm)

@[simp] theorem State.strm_setStrm_self : (s.setStrm n x).strm n = x := NMap.get_set_self ..

theorem State.strm_setStrm_of_ne {m : Nat} (h : m ≠ n) : (s.setStrm n x).strm m = s.strm m := SMap.get_set_of_ne _ _ _ _ h

@[simp] theorem State.strm_put (f : Fld) (v i j : Nat) : (s.put f v i j).strm n = s.strm n := rfl
@[simp] theorem State.get_setStrm (f : Fld) (i j : Nat) : (s.setStrm n x).get f i j = s.get f i j := rfl

end

section
variable {r s : State} {n : Nat}

/-- A stream changes, and gets no open packet. -/
theorem Feeds.setStrm {x : Strm} (h : Feeds r s) (hx : (s.strm n).opn = none → x.opn = none) : Feeds r (s.setStrm n x) := by
  refine ⟨h.only.setStrm n x, fun m hm => ?_⟩
  by_cases hmn : m = n
  · subst hmn
    rw [State.strm_setStrm_self]
    exact hx (h.opn m hm)
  · rw [State.strm_setStrm_of_ne _ _ _ hmn]
    exact h.opn m hm

/-- Packets that enter the FIFO leave the open one alone. -/
theorem Strm.pump_opn (dual : Bool) : ∀ (k : Nat) (x : Strm), (Strm.pump dual k x).opn = x.opn
  | 0, _ => rfl
  | k + 1, x => by
    unfold Strm.pump
    split
    · rfl
    · split
      · exact Strm.pump_opn dual k _
      · rfl

theorem Feeds.fill (h : Feeds r s) : Feeds r (s.fill n) :=
  ((h.setStrm fun hn => (Strm.pump_opn ..).trans hn).put (by decide)).put (by decide)

/-! ### A Lantern port as a sink (R387, R388, R399 to R401) -/

theorem Feeds.setLport {p : Nat} {x : LPort} (h : Feeds r s) : Feeds r (s.setLport p x) := h.upd

theorem Feeds.lsend {p : Nat} {f : LFrame} (h : Feeds r s) : Feeds r (s.lsend p f) :=
  Feeds.setLport (h.each fun h => h.upd)

theorem Feeds.sentNow {p : Nat} {old new : LClass} (h : Feeds r s) : Feeds r (s.sentNow p old new) := h.each fun h => h.lsend

theorem Feeds.lpump {p : Nat} (h : Feeds r s) : Feeds r (s.lpump p) :=
  .ite ((h.setLport.sentNow.sentNow.put (by decide)).put (by decide)) h

theorem Feeds.lbulk {p : Nat} {x : LTx} (h : Feeds r s) : Feeds r (s.lbulk p x) := (h.setLport.cond fun h => h.lsend.setLport).lpump

theorem Feeds.setFifoOf {k : LSrc} {f : Fifo} (h : Feeds r s) : Feeds r (s.setFifoOf k f) := by
  cases k with
  | stream n => exact Feeds.fill (h.setStrm fun hn => hn)
  | ctx c => exact h.upd
  | h2d q => exact h.upd

theorem Feeds.sendFrom {k : LSrc} {ports : List (Nat × Nat)} {first second : Bool} (h : Feeds r s) :
    OptHolds (Feeds r) (s.sendFrom k ports first second) := by
  unfold State.sendFrom
  extract_lets
  split
  · exact .none
  · exact .some (Feeds.each h.upd fun h => h.lbulk).setFifoOf

theorem Feeds.feedFrom {p : Nat} {k : LSrc} (h : Feeds r s) : OptHolds (Feeds r) (s.feedFrom p k) := by
  unfold State.feedFrom
  split
  exact .ite (.ite h.sendFrom .none) (.ite h.sendFrom (.ite h.sendFrom .none))

theorem Feeds.feedLocal {p : Nat} (h : Feeds r s) : OptHolds (Feeds r) (s.feedLocal p) := .findSome? fun _ => h.feedFrom

theorem Feeds.forwardOne {p : Nat} (h : Feeds r s) : OptHolds (Feeds r) (s.forwardOne p) := by
  refine .findSome? fun q => ?_
  extract_lets
  split
  · exact .ite (.some h.setLport.lbulk) .none
  · exact .none

theorem Feeds.feedLoop {k p : Nat} (h : Feeds r s) : Feeds r (s.feedLoop k p) := by
  induction k generalizing s with
  | zero => exact h
  | succ k ih =>
    unfold State.feedLoop
    refine .ite ?_ h
    extract_lets turn next
    have hnext : OptHolds (Feeds r) next := .ite (.orElse h.forwardOne h.feedLocal) (.orElse h.feedLocal h.forwardOne)
    clear_value next
    cases next with
    | none => exact h
    | some t => exact ih (hnext t rfl).setLport

theorem Feeds.feedPort {p : Nat} (h : Feeds r s) : Feeds r (s.feedPort p) := h.feedLoop

theorem Feeds.feedSink {k : LSrc} (h : Feeds r s) : Feeds r (s.feedSink k) :=
  (h.cond fun h => h.feedPort).cond fun h => h.feedPort

/-! ### A packet leaves its packer (R166, R168, R428 to R431) -/

theorem Feeds.form {ty : Nat} {items : List SItem} {keep : Bool} (h : Feeds r s) : Feeds r (s.form n ty items keep).1 :=
  Feeds.setStrm (h.put (by decide)) fun hn => hn

theorem Feeds.enqueue {p : SPkt} (h : Feeds r s) : Feeds r (s.enqueue n p) :=
  Feeds.feedSink (Feeds.fill (h.setStrm fun hn => hn))

theorem Feeds.discardPkt {p : SPkt} (h : Feeds r s) : Feeds r (s.discardPkt n p) :=
  Feeds.setStrm ((((h.put (by decide)).bump (by decide) (by decide)).bump (by decide) (by decide)).put (by decide)) fun hn => hn

theorem Feeds.overrunGap (h : Feeds r s) : Feeds r (s.overrunGap n) := by
  unfold State.overrunGap
  extract_lets
  split
  · exact h
  · exact Feeds.enqueue (Feeds.form (h.setStrm fun hn => hn))

theorem Feeds.emit {ty : Nat} {items : List SItem} {hold : Bool} (h : Feeds r s) : Feeds r (s.emit n ty items hold) :=
  .ite (.ite h.overrunGap.form.enqueue h.form.discardPkt) h.form.enqueue

theorem Feeds.closePkt (h : Feeds r s) : Feeds r (s.closePkt n) := by
  unfold State.closePkt
  extract_lets
  split
  · exact h
  · exact ((h.setStrm fun _ => rfl).put (by decide)).emit

end

section
variable (s : State) {n : Nat}

/-- With no packet open there is none to close. -/
theorem State.closePkt_of_none {s : State} (h : (s.strm n).opn = none) : s.closePkt n = s := by
  unfold State.closePkt
  simp only [h]

/-- After it closed its packet a stream has none open. -/
theorem State.opn_closePkt : ((s.closePkt n).strm n).opn = none := by
  cases h : (s.strm n).opn with
  | none => rwa [State.closePkt_of_none h]
  | some p =>
    have e : s.closePkt n = ((s.setStrm n { s.strm n with opn := none }).put Reg.EVT_STRM_STATn_OPEN 0 n).emit n p.ty p.items p.hold := by
      unfold State.closePkt
      simp only [h]
    rw [e]
    refine (Feeds.refl.emit).opn n ?_
    rw [State.strm_put, State.strm_setStrm_self]

end

end Sys2Proof.Machine
end

/-! ## Streams and packets -/

section
namespace Sys2Proof.Machine

/-! ### The header of a packet (R166, R168) -/

/-- Fields that keep to their widths do not reach into each other. -/
theorem bits_pktHeader {ty n k : Nat} (ht : ty < 16) (hn : n < 64) (hk : k < 1024) (seq : Nat) (restart : Bool) :
    bits (pktHeader ty n k seq restart) 56 8 = 0xA5 ∧ bits (pktHeader ty n k seq restart) 52 4 = ty ∧
    bits (pktHeader ty n k seq restart) 46 6 = n ∧ bits (pktHeader ty n k seq restart) 36 10 = k ∧
    bits (pktHeader ty n k seq restart) 20 16 = seq % 65536 ∧ bits (pktHeader ty n k seq restart) 19 1 = boolNat restart := by
  have hr := boolNat_lt restart
  simp only [pktHeader, bits]
  refine ⟨?_, ?_, ?_, ?_, ?_, ?_⟩ <;> omega

/-- A formed packet takes the next SEQ, and with it RESTART is spent. -/
theorem State.form_shown (s : State) (n ty : Nat) (items : List SItem) (keep : Bool) :
    (s.form n ty items keep).1.get Reg.EVT_STRM_STATn_NEXT_SEQ n = (s.get Reg.EVT_STRM_STATn_NEXT_SEQ n + 1) % 65536 ∧
    ((s.form n ty items keep).1.strm n).restart = false := by
  unfold State.form
  refine ⟨?_, ?_⟩
  · rw [State.get_setStrm, State.get_put_self]
    rfl
  · rw [State.strm_setStrm_self]

/-! ### A stream starts and stops (R168, R180, R240) -/

/-- Register fields of `l` and the packers of streams differ, and nothing else. -/
def PackersOnly (l : List Fld) (s t : State) : Prop := Only l s t { s with regs := t.regs, evt := { s.evt with strm := t.evt.strm } }

section
variable {l : List Fld} {s u w : State}

theorem PackersOnly.trans (h : PackersOnly l s u) (h' : PackersOnly l u w) : PackersOnly l s w := ⟨by rw [h'.1, h.1], h.2.trans h'.2⟩

theorem PackersOnly.of_regsOnly (h : RegsOnly l s u) : PackersOnly l s u := ⟨by rw [h.1], h.2⟩

theorem PackersOnly.startStream (n : Nat) (hf : Reg.EVT_STRM_STATn_NEXT_SEQ ∈ l) (h : PackersOnly l s u) :
    PackersOnly l s (u.startStream n) :=
  h.trans ⟨rfl, .put Reg.EVT_STRM_STATn_NEXT_SEQ 0 n 0 hf (.refl l u)⟩

end

section
variable (s : State) (n : Nat)

theorem State.get_startStream_of_ne {f : Fld} (h : f.id ≠ Reg.EVT_STRM_STATn_NEXT_SEQ.id) (i j : Nat) :
    (s.startStream n).get f i j = s.get f i j := s.get_put_of_id Reg.EVT_STRM_STATn_NEXT_SEQ f 0 n 0 i j h

theorem State.startStream_seq : (s.startStream n).get Reg.EVT_STRM_STATn_NEXT_SEQ n = 0 :=
  s.get_put_self Reg.EVT_STRM_STATn_NEXT_SEQ 0 n 0

theorem State.strm_startStream : (s.startStream n).strm n = { s.strm n with restart := true, marker := none, stale := none } :=
  State.strm_setStrm_self ..

/-- Another stream keeps its SEQ and its packer. -/
theorem State.startStream_of_ne {m : Nat} (h : m ≠ n) : (s.startStream n).get Reg.EVT_STRM_STATn_NEXT_SEQ m =
    s.get Reg.EVT_STRM_STATn_NEXT_SEQ m ∧ (s.startStream n).strm m = s.strm m :=
  ⟨s.get_put_of_inst Reg.EVT_STRM_STATn_NEXT_SEQ 0 n 0 m 0 (.inl h), State.strm_setStrm_of_ne _ _ _ h⟩

/-- The fields of EVT_STRM_CFGn beside EN. -/
def State.strmFields (s : State) (n v : Nat) : State :=
  (s.put Reg.EVT_STRM_CFGn_MAXITEM (bits v 1 9) n).put Reg.EVT_STRM_CFGn_FLUSH (bits v 16 16) n

theorem State.strmFields_shown (v : Nat) : (s.strmFields n v).get Reg.EVT_STRM_CFGn_MAXITEM n = bits v 1 9 ∧
    (s.strmFields n v).get Reg.EVT_STRM_CFGn_FLUSH n = bits v 16 16 := by
  unfold State.strmFields
  refine ⟨?_, ?_⟩
  · rw [State.get_put_of_id _ _ _ _ _ _ _ _ (by decide), State.get_put_self]
    exact trunc_of_lt (Nat.mod_lt _ (by decide))
  · rw [State.get_put_self]
    exact trunc_of_lt (Nat.mod_lt _ (by decide))

theorem State.strmFields_regsOnly (v : Nat) :
    RegsOnly [Reg.EVT_STRM_CFGn_MAXITEM, Reg.EVT_STRM_CFGn_FLUSH] s (s.strmFields n v) :=
  (RegsOnly.put s _ _ _ _ (by decide)).trans (.put _ _ _ _ _ (by decide))

end

section
variable {s : State} {n v : Nat}

/-- EN rises on a stream whose sink is no compression context. -/
theorem State.strmCfg_of_rise (hv : v.testBit 0 = true) (hen : s.flag Reg.EVT_STRM_CFGn_EN n = false) (h0 : (s.sink n).pkind ≠ 0)
    (h2 : (s.sink n).pkind ≠ 2) : s.strmCfg n v = ((s.strmFields n v).put Reg.EVT_STRM_CFGn_EN 1 n).startStream n := by
  have hcmp : ((s.sink n).pkind == 2) = false := beq_eq_false_iff_ne.2 h2
  simp only [State.strmCfg, bit, hv, hen, Bool.not_false, Bool.and_self, if_true, h0, h2, false_and, or_self, if_false, hcmp, State.cond_false]
  rfl

theorem State.strmCfg_of_noSink (hv : v.testBit 0 = true) (hen : s.flag Reg.EVT_STRM_CFGn_EN n = false) (h0 : (s.sink n).pkind = 0) :
    s.strmCfg n v = (s.strmFields n v).put Reg.EVT_INT_REFUSED 1 := by
  simp only [State.strmCfg, bit, hv, hen, Bool.not_false, Bool.and_self, if_true, h0, true_or]
  rfl

/-- EN falls on a stream whose sink is no compression context. -/
theorem State.strmCfg_of_fall (hv : v.testBit 0 = false) (hen : s.flag Reg.EVT_STRM_CFGn_EN n = true) (h2 : (s.sink n).pkind ≠ 2) :
    s.strmCfg n v = ((s.strmFields n v).closePkt n).put Reg.EVT_STRM_CFGn_EN 0 n := by
  have hcmp : ((s.sink n).pkind == 2) = false := beq_eq_false_iff_ne.2 h2
  simp only [State.strmCfg, bit, hv, hen, Bool.not_false, Bool.not_true, Bool.and_self, Bool.false_eq_true, if_true, if_false, hcmp,
    State.cond_false]
  rfl

theorem streamEnable_of_sink (hn : n < 64) (hv : v.testBit 0 = true) (hr : s.responds (0x80100 + 8 * n) = true)
    (hen : s.flag Reg.EVT_STRM_CFGn_EN n = false) (h0 : (s.sink n).pkind ≠ 0) (h2 : (s.sink n).pkind ≠ 2) :
    Does (.streamEnable n v) s fun t => t.get Reg.EVT_STRM_CFGn_EN n = 1 ∧ t.get Reg.EVT_STRM_CFGn_MAXITEM n = bits v 1 9 ∧
      t.get Reg.EVT_STRM_CFGn_FLUSH n = bits v 16 16 ∧ t.get Reg.EVT_STRM_STATn_NEXT_SEQ n = 0 ∧
      t.strm n = { s.strm n with restart := true, marker := none, stale := none } ∧
      PackersOnly [Reg.EVT_STRM_CFGn_EN, Reg.EVT_STRM_CFGn_MAXITEM, Reg.EVT_STRM_CFGn_FLUSH, Reg.EVT_STRM_STATn_NEXT_SEQ] s t := by
  refine .of_bar rfl (by simp [bit, hn, hv, -Nat.testBit_zero]) hr ?_
  obtain ⟨hmax, hflush⟩ := s.strmFields_shown n v
  rw [State.strmCfg_of_rise hv hen h0 h2]
  refine ⟨?_, ?_, ?_, State.startStream_seq .., State.strm_startStream .., ?_⟩
  · rw [State.get_startStream_of_ne _ _ (by decide), State.get_put_self]
    rfl
  · rw [State.get_startStream_of_ne _ _ (by decide), State.get_put_of_id _ _ _ _ _ _ _ _ (by decide), hmax]
  · rw [State.get_startStream_of_ne _ _ (by decide), State.get_put_of_id _ _ _ _ _ _ _ _ (by decide), hflush]
  · exact .startStream n (by decide) (.of_regsOnly (((s.strmFields_regsOnly n v).mono (by decide)).trans (.put _ _ _ _ _ (by decide))))

theorem streamEnable_of_noSink (hn : n < 64) (hv : v.testBit 0 = true) (hr : s.responds (0x80100 + 8 * n) = true)
    (hen : s.flag Reg.EVT_STRM_CFGn_EN n = false) (h0 : (s.sink n).pkind = 0) :
    Does (.streamEnable n v) s fun t => t.get Reg.EVT_STRM_CFGn_EN n = s.get Reg.EVT_STRM_CFGn_EN n ∧
      t.get Reg.EVT_INT_REFUSED = 1 ∧ RegsOnly [Reg.EVT_STRM_CFGn_MAXITEM, Reg.EVT_STRM_CFGn_FLUSH, Reg.EVT_INT_REFUSED] s t := by
  refine .of_bar rfl (by simp [bit, hn, hv, -Nat.testBit_zero]) hr ?_
  rw [State.strmCfg_of_noSink hv hen h0]
  have honly : RegsOnly [Reg.EVT_STRM_CFGn_MAXITEM, Reg.EVT_STRM_CFGn_FLUSH, Reg.EVT_INT_REFUSED] s
      ((s.strmFields n v).put Reg.EVT_INT_REFUSED 1) :=
    ((s.strmFields_regsOnly n v).mono (by decide)).trans (.put _ _ _ _ _ (by decide))
  exact ⟨honly.2 _ _ _ (by decide), State.get_put_self .., honly⟩

theorem streamDisable_of_noPacket (hn : n < 64) (hv : v.testBit 0 = false) (hr : s.responds (0x80100 + 8 * n) = true)
    (hen : s.flag Reg.EVT_STRM_CFGn_EN n = true) (hopn : (s.strm n).opn = none) (h2 : (s.sink n).pkind ≠ 2) :
    Does (.streamDisable n v) s fun t => t.get Reg.EVT_STRM_CFGn_EN n = 0 ∧
      RegsOnly [Reg.EVT_STRM_CFGn_EN, Reg.EVT_STRM_CFGn_MAXITEM, Reg.EVT_STRM_CFGn_FLUSH] s t := by
  refine .of_bar rfl (by simp [bit, hn, hv, -Nat.testBit_zero]) hr ?_
  have hnone : ((s.strmFields n v).strm n).opn = none := hopn
  rw [State.strmCfg_of_fall hv hen h2, State.closePkt_of_none hnone]
  exact ⟨State.get_put_self .., ((s.strmFields_regsOnly n v).mono (by decide)).trans (.put _ _ _ _ _ (by decide))⟩

/-- FLUSH ref after it opened an open packet closes. -/
theorem packetFlush_of_open {p : OpenPkt} (hn : n < 64) (hopn : (s.strm n).opn = some p) :
    Does (.packetFlush n) s fun t => t = (s.advanceTo (p.since + max 1 (s.get Reg.EVT_STRM_CFGn_FLUSH n))).closePkt n ∧
      (t.strm n).opn = none := by
  have e : exec (.packetFlush n) s = need (decide (n < 64)) ((s.advanceTo (p.since + max 1 (s.get Reg.EVT_STRM_CFGn_FLUSH n))).closePkt n) := by
    show execPacketFlush n s = _
    simp only [execPacketFlush, hopn]
  exact .of_need e (decide_eq_true hn) ⟨rfl, State.opn_closePkt _⟩

end

/-! ### The event path starts and stops (R168, R178) -/

section
variable (s : State)

/-- Every enabled stream is started. -/
def State.restartEnabled (s : State) : State :=
  s.each (List.range 64) fun s n => s.cond (s.flag Reg.EVT_STRM_CFGn_EN n) (·.startStream n)

theorem State.restartEnabled_only : PackersOnly [Reg.EVT_STRM_STATn_NEXT_SEQ] s s.restartEnabled := by
  refine State.each_keeps (P := PackersOnly _ s) (fun u n h => ?_) _ ⟨rfl, .refl _ s⟩
  cases u.flag Reg.EVT_STRM_CFGn_EN n
  · exact h
  · exact h.startStream n (by decide)

/-- An enabled stream has been started. -/
def State.restarted (s : State) (n : Nat) : Prop :=
  s.flag Reg.EVT_STRM_CFGn_EN n = true → s.get Reg.EVT_STRM_STATn_NEXT_SEQ n = 0 ∧ (s.strm n).restart = true

theorem State.restarted_startStream (n : Nat) : (s.startStream n).restarted n := fun _ =>
  ⟨s.startStream_seq n, by rw [State.strm_startStream]⟩

theorem State.restarted_restartEnabled {n : Nat} (hn : n ∈ List.range 64) : s.restartEnabled.restarted n := by
  have hself (u : State) : (u.cond (u.flag Reg.EVT_STRM_CFGn_EN n) (·.startStream n)).restarted n := by
    cases h : u.flag Reg.EVT_STRM_CFGn_EN n with
    | false => exact fun ht => absurd (ht.symm.trans h) (by decide)
    | true => exact u.restarted_startStream n
  refine State.each_of_mem (P := (·.restarted n)) hn hself (fun u m hu => ?_) s
  by_cases hm : n = m
  · subst hm
    exact hself u
  · cases u.flag Reg.EVT_STRM_CFGn_EN m with
    | false => exact hu
    | true =>
      obtain ⟨hseq, hstrm⟩ := u.startStream_of_ne m hm
      intro ht
      rw [State.cond_true, State.flag, State.get_startStream_of_ne _ _ (by decide)] at ht
      rw [State.cond_true, hseq, hstrm]
      exact hu ht

/-- The fields of EVT_CTRL, POISON_STREAM judged by the state before the write. -/
def State.evtFields (s : State) (v : Nat) : State :=
  (s.writeLocked Reg.EVT_CTRL_POISON_STREAM (s.flag Reg.EVT_CTRL_EN) (bits v 8 6) Reg.EVT_INT_REFUSED).put Reg.EVT_CTRL_EN (bits v 0 1)

end

section
variable {s : State} {v : Nat}

theorem State.evtFields_en : (s.evtFields v).get Reg.EVT_CTRL_EN = boolNat (v.testBit 0) := by
  rw [State.evtFields, State.get_put_self, bits_one]
  exact trunc_of_lt (boolNat_lt _)

theorem State.evtFields_of_off (hen : s.flag Reg.EVT_CTRL_EN = false) :
    (s.evtFields v).get Reg.EVT_CTRL_POISON_STREAM = bits v 8 6 ∧
    RegsOnly [Reg.EVT_CTRL_EN, Reg.EVT_CTRL_POISON_STREAM] s (s.evtFields v) := by
  rw [State.evtFields, hen]
  refine ⟨?_, ?_⟩
  · rw [State.get_put_of_id _ _ _ _ _ _ _ _ (by decide)]
    exact State.get_writeLocked_of_open _ _ _ _ _ _ _ (Nat.mod_lt _ (by decide))
  · refine RegsOnly.trans ⟨State.writeLocked_eq .., ?_⟩ (.put _ _ _ _ _ (by decide))
    exact .writeLocked _ _ _ _ _ _ _ (fun _ => by decide) (fun h => absurd h (by decide)) (.refl _ s)

theorem State.evtFields_of_on (hen : s.flag Reg.EVT_CTRL_EN = true) :
    (s.evtFields v).get Reg.EVT_CTRL_POISON_STREAM = s.get Reg.EVT_CTRL_POISON_STREAM ∧
    RegsOnly [Reg.EVT_CTRL_EN, Reg.EVT_INT_REFUSED] s (s.evtFields v) := by
  rw [State.evtFields, hen]
  refine ⟨?_, ?_⟩
  · rw [State.get_put_of_id _ _ _ _ _ _ _ _ (by decide)]
    exact State.get_writeLocked_of_locked _ _ _ _ _ _ _ (by decide)
  · refine RegsOnly.trans ⟨State.writeLocked_eq .., ?_⟩ (.put _ _ _ _ _ (by decide))
    exact .writeLocked _ _ _ _ _ _ _ (fun h => absurd h (by decide)) (fun _ => by decide) (.refl _ s)

theorem State.evtCtrl_of_rise (hv : v.testBit 0 = true) (hen : s.flag Reg.EVT_CTRL_EN = false) :
    s.evtCtrl v = (s.evtFields v).restartEnabled := by
  simp only [State.evtCtrl, bit, hv, hen, Bool.not_false, Bool.and_self, if_true, State.restartEnabled, State.evtFields]

/-- Every open packet is closed. -/
def State.closeAll (s : State) : State := s.each (List.range 64) fun s n => s.closePkt n

theorem State.evtCtrl_of_fall (hv : v.testBit 0 = false) (hen : s.flag Reg.EVT_CTRL_EN = true) :
    s.evtCtrl v = (s.evtFields v).closeAll := by
  simp only [State.evtCtrl, bit, hv, hen, Bool.not_false, Bool.not_true, Bool.and_self, Bool.false_eq_true, if_true, if_false,
    State.closeAll, State.evtFields]

theorem State.closeAll_feeds : Feeds s s.closeAll := Feeds.refl.each fun h => h.closePkt

theorem State.opn_closeAll {n : Nat} (hn : n < 64) : (s.closeAll.strm n).opn = none :=
  State.each_of_mem (P := fun u => (u.strm n).opn = none) (List.mem_range.2 hn) (fun u => u.opn_closePkt)
    (fun _ _ h => Feeds.refl.closePkt.opn n h) s

/-- A loop whose rounds change nothing changes nothing. -/
theorem State.each_of_id {α : Type} {l : List α} {f : State → α → State} (h : ∀ a ∈ l, f s a = s) : s.each l f = s := by
  induction l with
  | nil => rfl
  | cons a l ih => rw [State.each_cons, h a (.head _), ih fun b hb => h b (.tail _ hb)]

theorem State.closeAll_of_none (h : ∀ n ∈ List.range 64, (s.strm n).opn = none) : s.closeAll = s :=
  State.each_of_id fun n hn => State.closePkt_of_none (h n hn)

theorem evtEnable_of_off (hv : v.testBit 0 = true) (hr : s.responds 0x80000 = true) (hen : s.flag Reg.EVT_CTRL_EN = false) :
    Does (.evtEnable v) s fun t => t.get Reg.EVT_CTRL_EN = 1 ∧ t.get Reg.EVT_CTRL_POISON_STREAM = bits v 8 6 ∧
      (∀ n ∈ List.range 64, s.flag Reg.EVT_STRM_CFGn_EN n = true → t.get Reg.EVT_STRM_STATn_NEXT_SEQ n = 0 ∧ (t.strm n).restart = true) ∧
      PackersOnly [Reg.EVT_CTRL_EN, Reg.EVT_CTRL_POISON_STREAM, Reg.EVT_STRM_STATn_NEXT_SEQ] s t := by
  refine .of_bar rfl hv hr ?_
  rw [State.evtCtrl_of_rise hv hen]
  obtain ⟨hpoison, hfields⟩ := State.evtFields_of_off (v := v) hen
  have hctrl := State.evtFields_en (s := s) (v := v)
  have hloop := (s.evtFields v).restartEnabled_only
  refine ⟨?_, ?_, fun n hn hon => (State.restarted_restartEnabled _ hn) ?_, ?_⟩
  · rw [hloop.2 _ _ _ (by decide), hctrl, hv]
    rfl
  · rw [hloop.2 _ _ _ (by decide), hpoison]
  · rwa [State.flag, hloop.2 _ _ _ (by decide), hfields.2 _ _ _ (by decide)]
  · exact (PackersOnly.of_regsOnly (hfields.mono (by decide))).trans ⟨hloop.1, hloop.2.mono (by decide)⟩

theorem evtDisable_of_on {n : Nat} (hn : n < 64) (hv : v.testBit 0 = false) (hr : s.responds 0x80000 = true)
    (hen : s.flag Reg.EVT_CTRL_EN = true) :
    Does (.evtDisable v) s fun t => t.get Reg.EVT_CTRL_EN = 0 ∧ (t.strm n).opn = none ∧ t.mem = s.mem ∧ t.dtRef = s.dtRef := by
  refine .of_bar rfl (by rw [bit, hv]; rfl) hr ?_
  rw [State.evtCtrl_of_fall hv hen]
  obtain ⟨-, hfields⟩ := State.evtFields_of_on (v := v) hen
  have hctrl := State.evtFields_en (s := s) (v := v)
  have hclose := (State.closeAll_feeds (s := s.evtFields v)).only
  refine ⟨?_, State.opn_closeAll hn, ?_, ?_⟩
  · rw [hclose.get (by decide), hctrl, hv]
    rfl
  · rw [hclose.1, hfields.1]
  · rw [hclose.1, hfields.1]

theorem evtDisable_of_noPackets (hv : v.testBit 0 = false) (hr : s.responds 0x80000 = true) (hen : s.flag Reg.EVT_CTRL_EN = true)
    (hopn : ∀ n ∈ List.range 64, (s.strm n).opn = none) :
    Does (.evtDisable v) s fun t => t.get Reg.EVT_CTRL_EN = 0 ∧
      t.get Reg.EVT_CTRL_POISON_STREAM = s.get Reg.EVT_CTRL_POISON_STREAM ∧ RegsOnly [Reg.EVT_CTRL_EN, Reg.EVT_INT_REFUSED] s t := by
  refine .of_bar rfl (by rw [bit, hv]; rfl) hr ?_
  obtain ⟨hpoison, hfields⟩ := State.evtFields_of_on (v := v) hen
  have hctrl := State.evtFields_en (s := s) (v := v)
  have hopn' : ∀ n ∈ List.range 64, ((s.evtFields v).strm n).opn = none := by
    rw [hfields.1]
    exact hopn
  rw [State.evtCtrl_of_fall hv hen, State.closeAll_of_none hopn']
  exact ⟨by rw [hctrl, hv]; rfl, hpoison, hfields⟩

end

/-- Settles O18: the header's fields do not reach into each other, streams start and stop, and no packet is open once all are closed. -/
theorem streams : Obligations.Streams := by
  unfold Obligations.Streams
  refine ⟨fun n ty items keep s hn ht hk => ?_, fun _ _ _ => streamEnable_of_sink, fun _ _ _ => streamEnable_of_noSink,
    fun _ _ _ => streamDisable_of_noPacket, fun _ _ _ => packetFlush_of_open, fun _ _ => evtEnable_of_off, fun _ _ _ => evtDisable_of_on,
    fun _ _ => evtDisable_of_noPackets⟩
  obtain ⟨hseq, hrestart⟩ := s.form_shown n ty items keep
  obtain ⟨hmagic, htype, hstream, hitems, hnext, hbit⟩ :=
    bits_pktHeader ht hn hk (s.get Reg.EVT_STRM_STATn_NEXT_SEQ n) (s.strm n).restart
  exact ⟨hseq, hrestart, rfl, hmagic, htype, hstream, hitems, hnext, testBit_of_bits hbit⟩

end Sys2Proof.Machine
end

/-! ## Cluster engines -/

section
namespace Sys2Proof.Machine

/-! ### Items on their way to a stream (R148, R149, R168 to R170, R199) -/

/-- What an item changes among the register fields on its way to a stream, or as it is discarded. -/
def itemFields : List Fld :=
  [Reg.EVT_UNROUTED_COUNT, Reg.EVT_INT_UNROUTED, Reg.EVT_STALE_COUNT, Reg.EVT_INT_STALE, Reg.EVT_INT_CNT_SAT, Reg.TRG_CLASH_COUNT,
   Reg.TRG_INT_CLASH, Reg.TRG_INT_CNT_SAT] ++ packetFields

section
variable {s : State} {n ty : Nat} {i : SItem} {hold : Bool}

theorem StreamOnly.closePkt {u : State} (h : StreamOnly itemFields s u) : StreamOnly itemFields s (u.closePkt n) :=
  h.trans (Feeds.refl.closePkt.only.mono fun _ hf => List.mem_append_right _ hf)

theorem State.pack_only : StreamOnly itemFields s (s.pack n ty i hold) := by
  unfold State.pack
  exact ((((StreamOnly.refl _ s).cond fun h => h.closePkt).setStrm _ _).put _ _ _ _ (by decide)).cond fun h => h.closePkt

theorem State.toStream_only : StreamOnly itemFields s (s.toStream n ty i) := by
  have hcount {f sat : Fld} (hf : f ∈ itemFields) (hs : sat ∈ itemFields) : StreamOnly itemFields s ((s.ecount f).put sat 1) :=
    ((StreamOnly.refl _ s).bump f _ _ _ _ _ hf (by decide)).put _ _ _ _ hs
  unfold State.toStream
  extract_lets
  split
  · exact hcount (by decide) (by decide)
  · split
    · split
      · exact (hcount (by decide) (by decide)).setStrm _ _
      · exact State.pack_only
    · exact State.pack_only

theorem State.mapTo_only : StreamOnly itemFields s (s.mapTo n ty i) := by
  unfold State.mapTo
  split
  · exact ((StreamOnly.refl _ s).bump _ _ _ _ _ _ (by decide) (by decide)).put _ _ _ _ (by decide)
  · exact State.toStream_only

end

/-! ### An engine after a write -/

section
variable (s : State) (e : Nat) (x : Engine)

theorem State.setEngine_only : OnlyFields [Reg.CLU_OCC_OPEN, Reg.CLU_OCC_PEAK] s (s.setEngine e x) := by
  unfold State.setEngine
  exact .put _ _ _ _ (by decide) (.put _ _ _ _ (by decide) (.of_regs rfl))

theorem State.get_setEngine {f : Fld} (h : f.id ∉ [Reg.CLU_OCC_OPEN, Reg.CLU_OCC_PEAK].map (·.id)) (i j : Nat) :
    (s.setEngine e x).get f i j = s.get f i j := s.setEngine_only e x f i j h

theorem State.get_setEngine_open : (s.setEngine e x).get Reg.CLU_OCC_OPEN 0 e = trunc 13 x.opn.length := by
  unfold State.setEngine
  rw [State.get_put_of_id _ _ _ _ _ _ _ _ (by decide), State.get_put_self]
  rfl

@[simp] theorem State.dtRef_setEngine : (s.setEngine e x).dtRef = s.dtRef := rfl

theorem State.engine_setEngine_self (h : e < s.evt.eng.length) : (s.setEngine e x).engine e = x := by
  simp [State.engine, State.setEngine, State.put, h]

@[simp] theorem State.engine_advanceTo (d : Nat) : (s.advanceTo d).engine e = s.engine e := by simp [State.engine]

/-- An engine with an open cluster is one of the list. -/
theorem State.lt_of_opn {s : State} {e : Nat} {c : Cluster} {l : List Cluster} (h : (s.engine e).opn = c :: l) : e < s.evt.eng.length := by
  by_contra hge
  simp [State.engine, Nat.le_of_not_lt hge] at h

/-- Rules and geometry lie outside the registers of occupancy. -/
@[simp] theorem State.ruleVals_setEngine (k : Nat) : (s.setEngine e x).ruleVals k = s.ruleVals k := by
  simp (disch := decide) only [State.ruleVals, State.flag, State.get_setEngine]

@[simp] theorem State.territory_setEngine (k : Nat) : (s.setEngine e x).territory k = s.territory k := by
  simp (disch := decide) only [State.territory, State.get_setEngine]

@[simp] theorem State.visible_setEngine (k : Nat) : (s.setEngine e x).visible k = s.visible k := by
  simp (disch := decide) only [State.visible, State.territory_setEngine, State.get_setEngine]

/-- Below its wrap DT stands at the later of the two edges. -/
theorem State.dtRef_advanceTo_of_lt {s : State} {d : Nat} (hs : s.dtRef < 2 ^ 64) (hd : d < 2 ^ 64) :
    (s.advanceTo d).dtRef = max s.dtRef d := Nat.mod_eq_of_lt (max_lt hs hd)

theorem State.le_dtRef_advanceTo {s : State} {d : Nat} (hs : s.dtRef < 2 ^ 64) (hd : d < 2 ^ 64) : d ≤ (s.advanceTo d).dtRef :=
  (State.dtRef_advanceTo_of_lt hs hd).symm ▸ le_max_right ..

end

/-! ### A released hit seeds a cluster (R155, R156) -/

/-- The cluster that a hit seeds under the rules in force. -/
def State.seeded (s : State) (r : RHit) : Cluster :=
  { hits := [r.hit], rule := r.rule, vals := s.ruleVals r.rule, stream := r.stream, late := r.late }

section
variable {s : State} {e : Nat} {r : RHit}

/-- In an engine that holds nothing a hit has its place, and no cluster is near. -/
theorem State.releaseDue_of_empty (err : Nat) (hbuf : (s.engine e).buf = []) (hopn : (s.engine e).opn = []) :
    s.releaseDue e r err = s.setEngine e { buf := [], opn := [s.seeded r] } := by
  have hcand : (s.engine e).candidates r = [] := by simp [Engine.candidates, hopn]
  have hplace : (s.engine e).places r = true := by simp [Engine.places, Engine.members, hopn]
  simp only [State.releaseDue, hplace, hbuf, List.all_nil, Bool.and_self, if_true, State.releaseHit, hcand, List.foldl_nil, hopn,
    List.nil_append, State.seeded]

/-- The one hit that waits leaves the reorder buffer at its release edge. -/
theorem exec_clusterRelease_of_one (errs : List Nat) (hbuf : (s.engine e).buf = [r]) (hs : s.dtRef < 2 ^ 64) (hd : r.due < 2 ^ 64) :
    exec (.clusterRelease e errs) s = need (decide (e < 8))
      (((s.advanceTo r.due).setEngine e { s.engine e with buf := [] }).releaseDue e r (errs.getD 0 0)) := by
  have hdue : r.due ≤ (s.advanceTo r.due).dtRef := State.le_dtRef_advanceTo hs hd
  show execClusterRelease e errs s = _
  simp only [execClusterRelease, hbuf, List.foldl_nil, State.engine_advanceTo, List.filter_cons, List.filter_nil, decide_eq_true_eq, hdue,
    Nat.not_lt.2 hdue, if_true, if_false, List.mergeSort_singleton, List.zipIdx_cons, List.zipIdx_nil,
    State.each_cons, State.each_nil]

theorem clusterRelease_of_one (errs : List Nat) (he : e < 8) (hbuf : (s.engine e).buf = [r]) (hopn : (s.engine e).opn = [])
    (hs : s.dtRef < 2 ^ 64) (hd : r.due < 2 ^ 64) (hlt : e < s.evt.eng.length) :
    Does (.clusterRelease e errs) s fun t => t.dtRef = max s.dtRef r.due ∧ (t.engine e).buf = [] ∧
      (t.engine e).opn = [(s.advanceTo r.due).seeded r] ∧ t.get Reg.CLU_OCC_OPEN 0 e = 1 ∧
      Only ([Reg.CLU_OCC_OPEN, Reg.CLU_OCC_PEAK] ++ timeFields) s t
        { s with regs := t.regs, dtRef := t.dtRef, evt := { s.evt with eng := t.evt.eng } } := by
  refine .of_need (exec_clusterRelease_of_one errs hbuf hs hd) (decide_eq_true he) ?_
  have hlt' : e < (s.advanceTo r.due).evt.eng.length := by rwa [State.advanceTo_evt]
  generalize hu : s.advanceTo r.due = u at hlt' ⊢
  have hself := u.engine_setEngine_self e { s.engine e with buf := [] } hlt'
  rw [State.releaseDue_of_empty _ (by rw [hself]) (by rw [hself, hopn])]
  generalize hw : u.setEngine e { s.engine e with buf := [] } = w at hself ⊢
  have hlt'' : e < w.evt.eng.length := by
    rw [← hw]
    exact (List.length_set (as := u.evt.eng)).symm ▸ hlt'
  have hseed : w.seeded r = u.seeded r := by rw [← hw, State.seeded, State.ruleVals_setEngine, State.seeded]
  have hengine := w.engine_setEngine_self e { buf := [], opn := [w.seeded r] } hlt''
  refine ⟨?_, by rw [hengine], by rw [hengine, hseed], w.get_setEngine_open e _, ?_, ?_⟩
  · rw [State.dtRef_setEngine, ← hw, State.dtRef_setEngine, ← hu]
    exact State.dtRef_advanceTo_of_lt hs hd
  · obtain ⟨_, e'⟩ := s.advanceTo_regs_dtRef r.due
    rw [← hw, ← hu, e']
    rfl
  · have htime : OnlyFields ([Reg.CLU_OCC_OPEN, Reg.CLU_OCC_PEAK] ++ timeFields) s u :=
      hu ▸ OnlyFields.advanceTo _ (fun _ hf => List.mem_append_right _ hf) (.refl _ s)
    have hset (u : State) (x : Engine) : OnlyFields ([Reg.CLU_OCC_OPEN, Reg.CLU_OCC_PEAK] ++ timeFields) u (u.setEngine e x) :=
      (u.setEngine_only e x).mono fun _ hf => List.mem_append_left _ hf
    exact (htime.trans (hw ▸ hset u _)).trans (hset w _)

end

/-! ### A cluster's record goes out (R157, R158, R161, R163) -/

/-- What the engines count and report as a record goes out, and what its item changes on its way. -/
def clusterOutFields : List Fld :=
  [Reg.CLU_RECORDS_COUNT, Reg.CLU_LATE_COUNT, Reg.CLU_INT_LATE, Reg.CLU_SPLIT_COUNT, Reg.CLU_SEAM_COUNT, Reg.CLU_INT_CNT_SAT] ++ itemFields

/-- An error in the making of a record is counted and reported; one found again marks it poisoned. -/
def State.errorShown (s : State) (e err : Nat) : State :=
  (s.cond (decide (0 < err)) fun s => (s.ccount Reg.CLU_RECOMP_COUNT e).put Reg.CLU_INT_RECOMP 1).cond (err == 2) fun s =>
    (s.ccount Reg.CLU_POISON_COUNT e).put Reg.CLU_INT_POISON 1

section
variable {s : State} {e : Nat} {c : Cluster}

/-- An engine that is off, or whose territory the seed lies outside, sends no record. -/
theorem State.emitCluster_of_outside (split : Bool) (err : Nat)
    (h : bit (s.get Reg.CLU_CTRL_EN) e = false ∨ inRect (s.territory e) c.seed.row c.seed.col = false) :
    s.emitCluster e c split err = s := by
  refine if_pos ?_
  rcases h with h | h <;> simp [h]

section
variable (hen : bit (s.get Reg.CLU_CTRL_EN) e = true) (hin : inRect (s.territory e) c.seed.row c.seed.col = true)
include hen hin

/-- A record without error, of a cluster that was not split, is not late and not cut by a seam. -/
theorem State.emitCluster_of_good (hsingle : c.vals.single = false) (hlate : c.late = false) (hseam : seamOf (s.visible e) c = false) :
    s.emitCluster e c false 0 = (s.ccount Reg.CLU_RECORDS_COUNT e).mapTo c.stream 2
      { words := [(clusterRecord c false false / 2 ^ 32, false), (clusterRecord c false false % 2 ^ 32, false)], epoch := some c.seed.epoch
        lo := c.seed.ref, hi := c.seed.ref } := by
  simp [State.emitCluster, hen, hin, hsingle, hlate, hseam, State.cond]

/-- Beyond the report of an error a record changes its engine's counters and what its item does on its way. -/
theorem State.emitCluster_only (split : Bool) (err : Nat) : StreamOnly clusterOutFields (s.errorShown e err) (s.emitCluster e c split err) := by
  have hmap {u v : State} {n ty : Nat} {i : SItem} (h : StreamOnly clusterOutFields u v) : StreamOnly clusterOutFields u (v.mapTo n ty i) :=
    h.trans (State.mapTo_only.mono fun _ hf => List.mem_append_right _ hf)
  have hcount {u v : State} {f : Fld} (hf : f ∈ clusterOutFields) (h : StreamOnly clusterOutFields u v) :
      StreamOnly clusterOutFields u (v.ccount f e) := h.bump _ _ _ _ _ _ hf (by decide)
  have hrun : ¬ (!bit (s.get Reg.CLU_CTRL_EN) e || !inRect (s.territory e) c.seed.row c.seed.col) = true := by simp [hen, hin]
  unfold State.emitCluster
  rw [if_neg hrun]
  change StreamOnly clusterOutFields (s.errorShown e err) (if _ then (s.errorShown e err).mapTo _ _ _ else _)
  split
  · exact hmap (.refl _ _)
  · refine hmap (.cond (.cond (.cond (hcount (by decide) (.refl _ _)) fun h => ?_) (hcount (by decide))) (hcount (by decide)))
    exact (hcount (by decide) h).put _ _ _ _ (by decide)

end

section
variable (s : State) (e : Nat) {err : Nat}

theorem State.errorShown_recomp (h : 1 ≤ err) : (s.errorShown e err).get Reg.CLU_INT_RECOMP = 1 := by
  have hkeep (u : State) : ((u.ccount Reg.CLU_POISON_COUNT e).put Reg.CLU_INT_POISON 1).get Reg.CLU_INT_RECOMP = u.get Reg.CLU_INT_RECOMP := by
    have honly : OnlyFields [Reg.CLU_POISON_COUNT, Reg.CLU_INT_CNT_SAT, Reg.CLU_INT_POISON] u
        ((u.ccount Reg.CLU_POISON_COUNT e).put Reg.CLU_INT_POISON 1) :=
      .put _ _ _ _ (by decide) (.bump _ _ _ _ _ _ (by decide) (by decide) (.refl _ u))
    exact honly _ _ _ (by decide)
  have hshown : ((s.ccount Reg.CLU_RECOMP_COUNT e).put Reg.CLU_INT_RECOMP 1).get Reg.CLU_INT_RECOMP = 1 := State.get_put_self ..
  rw [State.errorShown, decide_eq_true (Nat.lt_of_succ_le h), State.cond_true]
  cases err == 2
  · exact hshown
  · exact (hkeep _).trans hshown

theorem State.errorShown_poison : (s.errorShown e 2).get Reg.CLU_INT_POISON = 1 := State.get_put_self ..

theorem State.errorShown_eng : (s.errorShown e err).evt.eng = s.evt.eng := by
  have hcount (u : State) (f g : Fld) : ((u.ccount f e).put g 1).evt = u.evt := by
    rw [State.ccount, State.bump_eq]
    rfl
  unfold State.errorShown State.cond
  split <;> split <;> simp only [hcount]

end

/-! ### A cluster closes (R157) -/

section
variable {errs : List Nat}

/-- The one open cluster closes at its close edge. -/
theorem exec_clusterClose_of_one (hopn : (s.engine e).opn = [c]) (hs : s.dtRef < 2 ^ 64) (hc : c.closeAt < 2 ^ 64) :
    exec (.clusterClose e errs) s = need (decide (e < 8))
      (((s.advanceTo c.closeAt).setEngine e { s.engine e with opn := [] }).emitCluster e c false (errs.headD 0)) := by
  have hdue : c.closeAt ≤ (s.advanceTo c.closeAt).dtRef := State.le_dtRef_advanceTo hs hc
  have herr : errs.getD 0 0 = errs.headD 0 := by cases errs <;> rfl
  show execClusterClose e errs s = _
  simp only [execClusterClose, hopn, List.foldl_nil, State.engine_advanceTo, List.filter_cons, List.filter_nil, decide_eq_true_eq, hdue,
    Nat.not_lt.2 hdue, if_true, if_false, List.zipIdx_cons, List.zipIdx_nil, State.each_cons,
    State.each_nil, herr]

theorem clusterClose_of_good (he : e < 8) (hopn : (s.engine e).opn = [c]) (hs : s.dtRef < 2 ^ 64) (hc : c.closeAt < 2 ^ 64)
    (herr : errs.headD 0 = 0) (hen : bit ((s.advanceTo c.closeAt).get Reg.CLU_CTRL_EN) e = true)
    (hin : inRect ((s.advanceTo c.closeAt).territory e) c.seed.row c.seed.col = true) (hsingle : c.vals.single = false) (hlate : c.late = false)
    (hseam : seamOf ((s.advanceTo c.closeAt).visible e) c = false) : Does (.clusterClose e errs) s fun t =>
      t = (((s.advanceTo c.closeAt).setEngine e { s.engine e with opn := [] }).ccount Reg.CLU_RECORDS_COUNT e).mapTo c.stream 2
        { words := [(clusterRecord c false false / 2 ^ 32, false), (clusterRecord c false false % 2 ^ 32, false)], epoch := some c.seed.epoch
          lo := c.seed.ref, hi := c.seed.ref } := by
  refine .of_need (exec_clusterClose_of_one hopn hs hc) (decide_eq_true he) ?_
  rw [herr]
  exact State.emitCluster_of_good (by rwa [State.get_setEngine _ _ _ (by decide)]) (by rwa [State.territory_setEngine]) hsingle hlate
    (by rwa [State.visible_setEngine])

theorem clusterClose_of_outside (he : e < 8) (hopn : (s.engine e).opn = [c]) (hs : s.dtRef < 2 ^ 64) (hc : c.closeAt < 2 ^ 64)
    (h : bit ((s.advanceTo c.closeAt).get Reg.CLU_CTRL_EN) e = false ∨ inRect ((s.advanceTo c.closeAt).territory e) c.seed.row c.seed.col = false) :
    Does (.clusterClose e errs) s fun t => t = (s.advanceTo c.closeAt).setEngine e { s.engine e with opn := [] } :=
  .of_need (exec_clusterClose_of_one hopn hs hc) (decide_eq_true he)
    (State.emitCluster_of_outside _ _ (by rwa [State.get_setEngine _ _ _ (by decide), State.territory_setEngine]))

theorem clusterClose_of_error (he : e < 8) (hopn : (s.engine e).opn = [c]) (hs : s.dtRef < 2 ^ 64) (hc : c.closeAt < 2 ^ 64)
    (herr : 1 ≤ errs.headD 0) (hen : bit ((s.advanceTo c.closeAt).get Reg.CLU_CTRL_EN) e = true)
    (hin : inRect ((s.advanceTo c.closeAt).territory e) c.seed.row c.seed.col = true) : Does (.clusterClose e errs) s fun t =>
      t.get Reg.CLU_INT_RECOMP = 1 ∧ (errs.headD 0 = 2 → t.get Reg.CLU_INT_POISON = 1) ∧ (t.engine e).opn = [] := by
  refine .of_need (exec_clusterClose_of_one hopn hs hc) (decide_eq_true he) ?_
  have hlt : e < (s.advanceTo c.closeAt).evt.eng.length := by
    rw [State.advanceTo_evt]
    exact State.lt_of_opn hopn
  have hself := (s.advanceTo c.closeAt).engine_setEngine_self e { s.engine e with opn := [] } hlt
  have honly : StreamOnly clusterOutFields _
      (((s.advanceTo c.closeAt).setEngine e { s.engine e with opn := [] }).emitCluster e c false (errs.headD 0)) :=
    State.emitCluster_only (by rwa [State.get_setEngine _ _ _ (by decide)]) (by rwa [State.territory_setEngine]) _ _
  refine ⟨?_, fun h2 => ?_, ?_⟩
  · rw [honly.get (by decide), State.errorShown_recomp _ _ herr]
  · rw [honly.get (by decide), h2, State.errorShown_poison]
  · rw [State.engine, honly.eng, State.errorShown_eng]
    exact congrArg Engine.opn hself

end

end

end Sys2Proof.Machine
end

/-! ## Rate monitors -/

section
namespace Sys2Proof.Machine

/-! ### The end of a window (R177) -/

/-- Where the first window of length `w` after `m` ends. -/
theorem window_end (m w : Nat) (hw : 0 < w) : m < (m / w + 1) * w ∧ (m / w + 1) * w ≤ m + w := by
  have hdiv := Nat.div_add_mod m w
  have hmod := Nat.mod_lt m hw
  rw [Nat.add_mul, Nat.one_mul, Nat.mul_comm]
  omega

/-- A window ends at a multiple of its length, after the one before it and within one length of now. -/
theorem State.rateDue_bounds (s : State) (g : Nat) (h : s.evt.rateAt.get 0 g ≤ s.dtRef) :
    s.rateDue g % 2 ^ max 8 (min 24 (s.get Reg.EVT_RATE_CFG_WLOG 0 g)) = 0 ∧ s.evt.rateAt.get 0 g < s.rateDue g ∧
    s.rateDue g ≤ s.dtRef + 2 ^ max 8 (min 24 (s.get Reg.EVT_RATE_CFG_WLOG 0 g)) := by
  unfold State.rateDue
  extract_lets w
  obtain ⟨hafter, hbefore⟩ := window_end (max (s.evt.rateAt.get 0 g) (s.dtRef - 1)) w (Nat.two_pow_pos _)
  have hmod : (max (s.evt.rateAt.get 0 g) (s.dtRef - 1) / w + 1) * w % w = 0 := Nat.mul_mod_left ..
  exact ⟨hmod, by omega, by omega⟩

/-- A group's next window begins at the edge at which the last one ended. -/
def State.nextWindow (s : State) (g : Nat) : State :=
  { s with evt := { s.evt with rate := s.evt.rate.set 0 g 0, rateAt := s.evt.rateAt.set 0 g s.dtRef } }

/-- HIGH rises, with its flag and EVT_INT.RATE. -/
def State.rateRises (s : State) (g : Nat) : State :=
  let s := s.putB Reg.EVT_RATE_STATE_HIGH true 0 g
  (s.put Reg.EVT_RATE_FLAG_FLAG (Nat.lor (s.get Reg.EVT_RATE_FLAG_FLAG (g / 32)) (2 ^ (g % 32))) (g / 32)).put Reg.EVT_INT_RATE 1

/-- What the end of a window shows when HIGH rises. -/
def rateRiseFields : List Fld := [Reg.EVT_RATE_LAST_COUNT, Reg.EVT_RATE_STATE_HIGH, Reg.EVT_RATE_FLAG_FLAG, Reg.EVT_INT_RATE]

section
variable (s : State) (g : Nat)

theorem State.rateRises_shown : (s.rateRises g).get Reg.EVT_RATE_STATE_HIGH 0 g = 1 ∧
    ((s.rateRises g).get Reg.EVT_RATE_FLAG_FLAG (g / 32)).testBit (g % 32) = true ∧ (s.rateRises g).get Reg.EVT_INT_RATE = 1 := by
  unfold State.rateRises
  refine ⟨?_, ?_, State.get_put_self ..⟩
  · rw [State.get_put_of_id _ _ _ _ _ _ _ _ (by decide), State.get_put_of_id _ _ _ _ _ _ _ _ (by decide), State.putB, State.get_put_self]
    rfl
  · have hlt : g % 32 < 32 := Nat.mod_lt _ (by decide)
    rw [State.get_put_of_id _ _ _ _ _ _ _ _ (by decide), State.get_put_self, trunc, Nat.testBit_mod_two_pow]
    simp [Reg.EVT_RATE_FLAG_FLAG, hlt]

theorem State.rateRises_regsOnly :
    RegsOnly [Reg.EVT_RATE_STATE_HIGH, Reg.EVT_RATE_FLAG_FLAG, Reg.EVT_INT_RATE] s (s.rateRises g) :=
  ((RegsOnly.put s Reg.EVT_RATE_STATE_HIGH 1 0 g (by decide)).trans (.put _ _ _ _ _ (by decide))).trans (.put _ _ _ _ _ (by decide))

/-- The count of the window that ends is shown, and the next window begins. -/
def State.lastShown (s : State) (g : Nat) : State :=
  ((s.advanceTo (s.rateDue g)).nextWindow g).put Reg.EVT_RATE_LAST_COUNT (min (s.evt.rate.get 0 g) (2 ^ 32 - 1)) 0 g

theorem State.lastShown_last : (s.lastShown g).get Reg.EVT_RATE_LAST_COUNT 0 g = min (s.evt.rate.get 0 g) (2 ^ 32 - 1) := by
  rw [State.lastShown, State.get_put_self]
  exact trunc_of_lt (Nat.lt_of_le_of_lt (Nat.min_le_right ..) (by decide))

theorem State.lastShown_rate : (s.lastShown g).evt.rate.get 0 g = 0 ∧ (s.lastShown g).evt.rateAt.get 0 g = (s.lastShown g).dtRef :=
  ⟨NMap.get_set_self 0 (s.advanceTo _).evt.rate g 0, NMap.get_set_self 0 (s.advanceTo _).evt.rateAt g (s.advanceTo _).dtRef⟩

theorem State.lastShown_eq : ∃ r, s.lastShown g = { s with
    regs := r, dtRef := max s.dtRef (s.rateDue g) % 2 ^ 64
    evt := { s.evt with rate := (s.lastShown g).evt.rate, rateAt := (s.lastShown g).evt.rateAt } } := by
  obtain ⟨_, e⟩ := s.advanceTo_regs_dtRef (s.rateDue g)
  unfold State.lastShown
  rw [e]
  exact ⟨_, rfl⟩

theorem State.lastShown_only : OnlyFields (Reg.EVT_RATE_LAST_COUNT :: timeFields) s (s.lastShown g) :=
  .put _ _ _ _ (.head _) ((OnlyFields.advanceTo _ (fun _ hf => .tail _ hf) (.refl _ s)).trans (.of_regs rfl))

theorem State.rateRises_lastShown_only : OnlyFields (rateRiseFields ++ timeFields) s ((s.lastShown g).rateRises g) :=
  ((s.lastShown_only g).mono (by decide)).trans (((s.lastShown g).rateRises_regsOnly g).2.mono (by decide))

/-- With nothing staged a commit does nothing. -/
theorem State.commit_of_shadow_nil {s : State} (h : s.shadow = []) (f : Fld) (i j : Nat) : s.commit f i j = s := by
  unfold State.commit State.shadowOf
  simp only [h]
  rfl

/-- A primitive that is disabled presents nothing. -/
theorem State.prim_of_off {s : State} {p : Nat} (h : s.flag Reg.TRG_PRIM_CFG_EN 0 p = false) (ev : PrimEv) : s.prim p ev = s := by
  unfold State.prim
  exact if_neg (by simp [h])

end

section
variable {s : State} {g : Nat}

/-- The window ends with its count at HI or above, and with no status word and no primitive event to send. -/
theorem State.rateEnd_of_rise (hen : s.flag Reg.EVT_RATE_CFG_EN 0 g = true) (hlow : s.flag Reg.EVT_RATE_STATE_HIGH 0 g = false)
    (hshadow : s.shadow = []) (hcount : s.get Reg.EVT_RATE_HI_HI 0 g ≤ s.evt.rate.get 0 g)
    (hstatus : s.flag Reg.EVT_RATE_CFG_STATUS_EN 0 g = false) (hprim : s.flag Reg.TRG_PRIM_CFG_EN 0 (40 + g) = false) :
    s.rateEnd g = (s.lastShown g).rateRises g := by
  unfold State.rateEnd
  extract_lets u n on _ v w hi lo high rises falls x y z word z' out
  have hn : n = s.evt.rate.get 0 g := by simp only [n, u, State.advanceTo_evt]
  have hw : w = s.lastShown g := by
    simp only [w, hn]
    rfl
  have hon : on = true := (congrArg (· != 0) (s.get_advanceTo (s.rateDue g) Reg.EVT_RATE_CFG_EN 0 g (by decide))).trans hen
  have hhigh : high = false := by
    simp only [high, hw, State.flag, s.lastShown_only g Reg.EVT_RATE_STATE_HIGH 0 g (by decide)]
    exact hlow
  have hhi : hi ≤ (n : Int) := by
    simp only [hi, hw, hn, s.lastShown_only g Reg.EVT_RATE_HI_HI 0 g (by decide)]
    exact_mod_cast hcount
  have hrises : rises = true := by simp [rises, hhigh, hhi]
  have hz : z = (s.lastShown g).rateRises g := by simp only [z, y, x, hrises, hw, State.rateRises]
  have hz' : z' = z := by
    have hoff : z.flag Reg.EVT_RATE_CFG_STATUS_EN 0 g = false := by
      rw [State.flag, hz, s.rateRises_lastShown_only g _ _ _ (by decide)]
      exact hstatus
    simp only [z', hoff, State.cond_false]
  have hout : out = z := by
    simp only [out, hon, hrises, Bool.true_or, if_true, State.cond_true, hz']
    refine State.prim_of_off ?_ _
    rw [State.flag, hz, s.rateRises_lastShown_only g _ _ _ (by decide)]
    exact hprim
  have hnone : z.shadow = [] := by
    obtain ⟨_, e⟩ := s.lastShown_eq g
    rw [hz, ((s.lastShown g).rateRises_regsOnly g).1, e]
    exact hshadow
  rw [hout, State.each_of_id fun f _ => State.commit_of_shadow_nil hnone f 0 g, hz]

theorem rateWindowEnd_of_rise (hg : g < 256) (hen : s.flag Reg.EVT_RATE_CFG_EN 0 g = true) (hlow : s.flag Reg.EVT_RATE_STATE_HIGH 0 g = false)
    (hshadow : s.shadow = []) (hcount : s.get Reg.EVT_RATE_HI_HI 0 g ≤ s.evt.rate.get 0 g)
    (hstatus : s.flag Reg.EVT_RATE_CFG_STATUS_EN 0 g = false) (hprim : s.flag Reg.TRG_PRIM_CFG_EN 0 (40 + g) = false) :
    Does (.rateWindowEnd g) s fun t =>
      t.get Reg.EVT_RATE_LAST_COUNT 0 g = min (s.evt.rate.get 0 g) (2 ^ 32 - 1) ∧ t.get Reg.EVT_RATE_STATE_HIGH 0 g = 1 ∧
      (t.get Reg.EVT_RATE_FLAG_FLAG (g / 32)).testBit (g % 32) = true ∧ t.get Reg.EVT_INT_RATE = 1 ∧ t.evt.rate.get 0 g = 0 ∧
      t.dtRef = max s.dtRef (s.rateDue g) % 2 ^ 64 ∧ t.evt.rateAt.get 0 g = t.dtRef ∧
      Only (rateRiseFields ++ timeFields) s t
        { s with regs := t.regs, dtRef := t.dtRef, evt := { s.evt with rate := t.evt.rate, rateAt := t.evt.rateAt } } := by
  refine .of_need rfl (decide_eq_true hg) ?_
  rw [State.rateEnd_of_rise hen hlow hshadow hcount hstatus hprim]
  obtain ⟨hhigh, hflag, hint⟩ := (s.lastShown g).rateRises_shown g
  obtain ⟨heq, honly⟩ := (s.lastShown g).rateRises_regsOnly g
  obtain ⟨hrate, hat⟩ := s.lastShown_rate g
  obtain ⟨_, e⟩ := s.lastShown_eq g
  refine ⟨(honly _ _ _ (by decide)).trans (s.lastShown_last g), hhigh, hflag, hint, by rw [heq, hrate], rfl, by rw [heq, hat], ?_,
    s.rateRises_lastShown_only g⟩
  rw [heq, e]

end

/-- Settles O17: the region map's rules, one engine's release and close, the window of a rate monitor, and the counters' clear. -/
theorem regionMapAndClusters : Obligations.RegionMapAndClusters := by
  unfold Obligations.RegionMapAndClusters
  refine ⟨fun entry v k s he hr hmode hen => rmapEntryWrite_whole he hr ?_, fun entry v s he hr hmode hen => rmapEntryWrite_whole he hr ?_,
    fun entry v s he hr hmode => rmapEntryWrite_whole he hr (s.rmapPut_refused he hmode), fun entry v s he hr => rmapEntryWrite_low he hr rfl,
    fun entry w v s he _ hr hmode hen hhalf => rmapEntryWrite_high he hr hhalf (s.dropHalf.rmapPut_of_on hmode hen),
    fun _ _ => rmapCommit_of_free, fun _ _ => rmapCommit_of_busy, fun epoch _ => State.rmapEpoch_shown epoch,
    fun _ errs _ _ he hbuf hopn hs hd hlt => clusterRelease_of_one errs he hbuf hopn hs hd hlt, fun _ _ _ _ => clusterClose_of_good,
    fun _ _ _ _ => clusterClose_of_outside, fun _ _ _ _ => clusterClose_of_error, fun _ _ => rateWindowEnd_of_rise,
    fun g s _ _ h => s.rateDue_bounds g h, fun _ => evtCntClr_of_responds, fun _ => cluCntClr_of_responds⟩
  · rw [s.dropHalf.rmapPut_of_on hmode hen]
    refine ⟨rfl, rmapAt_set_self .., ?_⟩
    rcases eq_or_ne k entry with h | h
    · exact .inl h
    · exact .inr (rmapAt_set_of_ne _ _ h)
  · rw [s.dropHalf.rmapPut_of_off hmode hen]
    exact ⟨rmapAt_set_self .., rmapAt_set_self .., rfl⟩

end Sys2Proof.Machine
end

/-! ## A comparator whose EN holds more than one bit -/

section
namespace Sys2Proof.Machine

/-- ET is valid, and comparator 5 has PERIOD 9; the register file holds 2 for its EN, a field of one bit. -/
def wideTod : State :=
  { State.reset with
    regs := [(⟨Reg.TIM_STATUS_ET_VALID.id, 0, 0⟩, 1), (⟨Reg.TRG_TOD_SEC_HI_EN.id, 0, 5⟩, 2), (⟨Reg.TRG_TOD_PERIOD_PERIOD.id, 0, 5⟩, 9)] }

/-- The comparator fires and moves its target on by PERIOD, which leaves EN as it was. -/
theorem todFire_wideTod : (ok' (exec (.todFire 5) wideTod)).get Reg.TRG_TOD_SEC_HI_EN 0 5 = 2 := by decide +kernel

/-- Refutes O19: a comparator with a PERIOD rearms by leaving its EN as it stands, and the statement asks that EN is not 0 before and is
1 after. Where the register file holds more than the field's width, which the statement does not exclude, EN stays at that number: in
`wideTod` at 2. -/
theorem not_triggerPrimitives : ¬ Obligations.TriggerPrimitives := by
  unfold Obligations.TriggerPrimitives
  rintro ⟨-, -, -, htod, -⟩
  obtain ⟨t, e, hen, -⟩ := (htod 5 wideTod (by decide) (by decide) (by decide) rfl).2 (by decide)
  have hkept := todFire_wideTod
  rw [e, ok', hen] at hkept
  exact absurd hkept (by decide)

end Sys2Proof.Machine
end

/-! ## A pulse that stands while TRG_CTRL.EN rises -/

section
namespace Sys2Proof.Machine

/-- Primitive 3 presents a pulse while TRG_CTRL.EN is 0. -/
def standingPulse : State := { up with trg := { up.trg with pulses := [{ prim := 3, ev := { t := 512 }, from_ := 1, stop := 9 }] } }

/-- The rise of EN marks the pulse as one from before it, so that its event gives no trigger time (R190). -/
theorem triggerEnable_standingPulse : (ok' (exec (.triggerEnable 1) standingPulse)).trg.pulses.map (·.old) = [true] := by decide +kernel

/-- Refutes O20: the clause of a rise of EN keeps everything of the trigger block but the condition outputs and the events seen, while
the rise also marks the pulses that stand; in `standingPulse` there is one. -/
theorem not_templatesAndFlares : ¬ Obligations.TemplatesAndFlares := by
  unfold Obligations.TemplatesAndFlares
  rintro ⟨-, -, -, -, -, -, -, henable, -⟩
  obtain ⟨t, e, -, -, -, ht, -⟩ := henable 1 standingPulse (by decide) (by decide) (by decide +kernel) (by decide +kernel)
  have hstands : standingPulse.trg.pulses.map (·.old) = [false] := rfl
  have hmarked := triggerEnable_standingPulse
  rw [e, ok', ht] at hmarked
  exact absurd (hstands.symm.trans hmarked) (by decide)

end Sys2Proof.Machine
end

/-! ## What a write of buffer memory leaves -/

section
namespace Sys2Proof.Machine

/-- What a write of buffer memory can change among the register fields: the repeat tracker frees an entry, and a row copy that the write
waits for completes (R473 to R475). -/
def memWriteFields : List Fld :=
  [Reg.MEM_UE_COUNT, Reg.MEM_INT_UE, Reg.MEM_INT_CNT_SAT, Reg.MEM_RPT_ADDR_WORD, Reg.MEM_RPT_ADDR_VALID, Reg.MEM_RPT_INFO_COUNT,
   Reg.MEM_RPT_INFO_BIT, Reg.MEM_RPT_INFO_REWRITTEN, Reg.MEM_REMAP_STATUS_USED, Reg.MEM_REMAP_ENTRY_CH, Reg.MEM_REMAP_ENTRY_ROW,
   Reg.MEM_REMAP_ENTRY_VALID, Reg.MEM_INT_REMAP] ++ faultFields ++ spareFields

/-- These fields, buffer memory, the fault handler, the audit queue and the service record differ, and nothing else. -/
def MemOnly (s t : State) : Prop :=
  Only memWriteFields s t { s with regs := t.regs, mem := t.mem, sys := t.sys, flt := t.flt, aud := t.aud, ram := t.ram, store := t.store }

section
variable {r s : State}

theorem MemOnly.refl : MemOnly s s := ⟨rfl, .refl _ s⟩

theorem MemOnly.trans {t : State} (h : MemOnly r s) (h' : MemOnly s t) : MemOnly r t := ⟨by rw [h'.1, h.1], h.2.trans h'.2⟩

theorem MemOnly.trg (h : MemOnly r s) : s.trg = r.trg := by rw [h.1]

theorem MemOnly.dtRef (h : MemOnly r s) : s.dtRef = r.dtRef := by rw [h.1]

theorem MemOnly.regsOnly {t : State} (h : MemOnly r s) (h' : RegsOnly memWriteFields s t) : MemOnly r t := h.trans ⟨by rw [h'.1], h'.2⟩

theorem MemOnly.put {f : Fld} {v i j : Nat} (h : MemOnly r s) (hf : f ∈ memWriteFields) : MemOnly r (s.put f v i j) :=
  h.regsOnly (.put s f v i j hf)

theorem MemOnly.upd {mem : List Host.Cell} {ram : Ram} {store : Store} (h : MemOnly r s) :
    MemOnly r { s with mem := mem, ram := ram, store := store } :=
  h.trans ⟨rfl, .of_regs rfl⟩

theorem MemOnly.ite {c : Prop} [Decidable c] {t : State} (hs : MemOnly r s) (ht : MemOnly r t) : MemOnly r (if c then s else t) := by
  split <;> assumption

theorem MemOnly.each {α : Type} {m : List α} {f : State → α → State} (h : MemOnly r s) (hf : ∀ {u a}, MemOnly r u → MemOnly r (f u a)) :
    MemOnly r (s.each m f) :=
  State.each_keeps (fun _ _ => hf) m h

theorem MemOnly.audit {a b c d e f : Nat} (h : MemOnly r s) : MemOnly r (s.audit a b c d e f) :=
  h.trans ⟨by rw [State.audit_eq], .audit _ _ _ _ _ _ (by decide) (by decide) (by decide) (.refl _ s)⟩

theorem MemOnly.bringSpare {kind unit left : Nat} (h : MemOnly r s) : MemOnly r (s.bringSpare kind unit left) := by
  obtain ⟨_, _, _, e⟩ := s.bringSpare_eq kind unit left
  exact h.trans ⟨by rw [e], (s.bringSpare_only kind unit left).mono fun _ hf => List.mem_append_right _ hf⟩

theorem MemOnly.fault {code src : Nat} (h : MemOnly r s) (hsev : severity code ≠ 4) : MemOnly r (s.fault code src) := by
  obtain ⟨_, _, e⟩ := s.fault_eq code src hsev
  exact h.trans ⟨by rw [e]; rfl, (s.fault_only code src hsev).mono fun _ hf => List.mem_append_left _ (List.mem_append_right _ hf)⟩

end

/-! ### The operations of a write, in the order of their definitions -/

section
variable {r s : State} {w : Nat}

theorem MemOnly.uncorrectable (h : MemOnly r s) : MemOnly r (s.uncorrectable w) :=
  MemOnly.fault ((h.regsOnly (.bump s Reg.MEM_UE_COUNT _ _ _ _ _ (by decide) (by decide))).put (by decide)).upd (by decide)

theorem MemOnly.setTrk {l : List (Option Trk)} (h : MemOnly r s) : MemOnly r (s.setTrk l) :=
  h.upd.each fun h => ((((h.put (by decide)).put (by decide)).put (by decide)).put (by decide)).put (by decide)

theorem MemOnly.freeTrk (h : MemOnly r s) : MemOnly r (s.freeTrk w) := .ite h.setTrk h

theorem MemOnly.showRemap (h : MemOnly r s) : MemOnly r s.showRemap :=
  (h.put (by decide)).each fun h => ((h.put (by decide)).put (by decide)).put (by decide)

theorem MemOnly.copyWord (h : MemOnly r s) : MemOnly r (s.copyWord w) := by
  unfold State.copyWord
  split
  · exact h
  · exact h.upd
  · exact h.upd
  · exact h.uncorrectable

theorem MemOnly.remapRow {row : Nat × Nat} (h : MemOnly r s) : MemOnly r (s.remapRow row) :=
  ((h.upd.each fun h => h.copyWord).showRemap.put (by decide)).audit.bringSpare

theorem MemOnly.awaitRow (h : MemOnly r s) : MemOnly r (s.awaitRow w) := .ite h (.ite h.remapRow h)

theorem MemOnly.fillBlock (h : MemOnly r s) : MemOnly r (s.fillBlock w) := .ite h h.upd

theorem State.writeWord64_only (v : Nat) (poison : Bool) : MemOnly s (s.writeWord64 w v poison) :=
  MemOnly.refl.awaitRow.fillBlock.freeTrk.upd

end

end Sys2Proof.Machine
end

/-! ## The history ring -/

section
namespace Sys2Proof.Machine

/-- No template has a context open. -/
def State.NoneOpen (s : State) : Prop := ∀ k ∈ List.range 16, (s.tmpl k).open_ = []

/-! ### Words enter the ring while no context is open (R182, R183) -/

/-- What a word that enters the ring can change among the register fields. -/
def ringFields : List Fld := [Reg.TRG_RING_HZN_H, Reg.TRG_RING_STATUS_WRAPPED, Reg.TRG_RING_STATUS_WSEG] ++ memWriteFields

/-- From `s` to `t` words enter the ring: no entry of the input buffer is taken and none of the ring is numbered, and the templates stay
as they are. -/
structure RingGrows (s t : State) : Prop where
  only : OnlyFields ringFields s t
  tmpl : t.trg.tmpl = s.trg.tmpl
  buf : t.trg.ring.buf = s.trg.ring.buf
  num : t.trg.ring.num = s.trg.ring.num
  dtRef : t.dtRef = s.dtRef

section
variable {r s t : State}

theorem RingGrows.refl : RingGrows s s := ⟨.refl _ s, rfl, rfl, rfl, rfl⟩

theorem RingGrows.trans (h : RingGrows r s) (h' : RingGrows s t) : RingGrows r t :=
  ⟨h.only.trans h'.only, h'.tmpl.trans h.tmpl, h'.buf.trans h.buf, h'.num.trans h.num, h'.dtRef.trans h.dtRef⟩

theorem State.NoneOpen.of_tmpl (h : s.NoneOpen) (e : t.trg.tmpl = s.trg.tmpl) : t.NoneOpen := by
  unfold State.NoneOpen State.tmpl
  rw [e]
  exact h

theorem RingGrows.noneOpen (h : RingGrows s t) (hs : s.NoneOpen) : t.NoneOpen := hs.of_tmpl h.tmpl

theorem RingGrows.put {f : Fld} {v i j : Nat} (h : RingGrows r s) (hf : f ∈ ringFields) : RingGrows r (s.put f v i j) :=
  h.trans ⟨.put _ _ _ _ hf (.refl _ s), rfl, rfl, rfl, rfl⟩

theorem RingGrows.setRing {x : Ring} (h : RingGrows r s) (hbuf : x.buf = s.trg.ring.buf) (hnum : x.num = s.trg.ring.num) :
    RingGrows r (s.setRing x) :=
  h.trans ⟨.of_regs rfl, rfl, hbuf, hnum, rfl⟩

theorem RingGrows.writeWord64 {w v : Nat} {poison : Bool} (h : RingGrows r s) : RingGrows r (s.writeWord64 w v poison) := by
  have hw := s.writeWord64_only (w := w) v poison
  exact h.trans ⟨hw.2.mono fun _ hf => List.mem_append_right _ hf, by rw [hw.trg], by rw [hw.trg], by rw [hw.trg], hw.dtRef⟩

/-- A segment that is overwritten cuts no context short. -/
theorem RingGrows.newSegment {k : Nat} (hs : s.NoneOpen) : RingGrows s (s.newSegment k) := by
  unfold State.newSegment
  extract_lets
  split
  · exact .refl
  · extract_lets lastNum u r v
    have hu : u = s := State.each_of_id fun t ht => by simp [hs t ht]
    clear_value u
    subst hu
    have hv : RingGrows u v := RingGrows.refl.setRing rfl rfl
    exact (hv.put (by decide)).put (by decide)

theorem RingGrows.beginSegment {k : Nat} (hs : s.NoneOpen) : RingGrows s (s.beginSegment k) :=
  (RingGrows.newSegment hs).setRing rfl rfl

theorem RingGrows.ringPut {w : Nat × Bool} (hs : s.NoneOpen) : RingGrows s (s.ringPut w) := by
  have hbegin : RingGrows s (s.cond (s.trg.ring.wptr % 8192 == 0) (·.beginSegment (s.trg.ring.wptr / 8192))) := by
    cases s.trg.ring.wptr % 8192 == 0
    · exact .refl
    · exact .beginSegment hs
  exact .put (f := Reg.TRG_RING_STATUS_WSEG) (hbegin.writeWord64.setRing rfl rfl) (by decide)

theorem RingGrows.each_ringPut : ∀ (l : List (Nat × Bool)) {s : State}, s.NoneOpen → RingGrows s (s.each l fun s w => s.ringPut w)
  | [], _, _ => .refl
  | _ :: l, _, hs => (RingGrows.ringPut hs).trans (each_ringPut l ((RingGrows.ringPut hs).noneOpen hs))

end

section
variable {s : State} {e : RingEnt}

/-- The item falls further behind than SETTLE when it is written (R186). -/
def State.lags (s : State) (e : RingEnt) : Bool :=
  e.ty != 3 && decide (e.item.lo + min 4194304 (s.get Reg.TRG_RING_CFG_SETTLE) < s.dtRef)

/-- It is counted (R186). -/
def State.countLagged (s : State) : State := (s.gcount Reg.TRG_LAGGED_COUNT).put Reg.TRG_INT_LAGGED 1

theorem State.countLagged_trg : s.countLagged.trg = s.trg := by
  rw [State.countLagged, State.put_trg, State.gcount, State.bump_eq]

/-- After its words an item is the last entry of the ring, with the next number and the edge at which it was written. -/
theorem State.ringItem_eq (hs : s.NoneOpen) : ∃ v r, RingGrows s v ∧ s.ringItem e = (v.setRing r).cond (v.lags e) State.countLagged ∧
    r.buf = s.trg.ring.buf ∧ r.num = s.trg.ring.num + 1 ∧
    r.ents.getLast?.map (fun x => (x.ty, x.item, x.num, x.at_)) = some (e.ty, e.item, s.trg.ring.num, s.dtRef) := by
  unfold State.ringItem
  extract_lets fresh r0 h0 u0 u r w r1 seg
  have hopen : RingGrows s (s.setRing { r0 with opn := some (e.ty, 0, h0), seq := (r0.seq + 1) % 65536 }) := RingGrows.refl.setRing rfl rfl
  have hu : RingGrows s u := by
    unfold u
    split
    · exact hopen.trans (.ringPut (hopen.noneOpen hs))
    · exact .refl
  have hw : RingGrows s w := hu.trans (.each_ringPut e.item.words (hu.noneOpen hs))
  clear_value w
  split
  next n h _ =>
  extract_lets hd v x r2 segs
  have hv : RingGrows s v := hw.writeWord64
  refine ⟨v, _, hv, rfl, hv.buf, congrArg (· + 1) hv.num, ?_⟩
  rw [List.getLast?_concat, Option.map_some, show x.num = s.trg.ring.num from hw.num, show x.at_ = s.dtRef from hv.dtRef]

end

/-! ### The ring writes (R182, R184, R186) -/

section
variable {s : State}

/-- A template without an open context extracts nothing. -/
theorem State.extract_of_none {k : Nat} (h : (s.tmpl k).open_ = []) : ∀ fuel, s.extract fuel k = s
  | 0 => rfl
  | _ + 1 => by simp [State.extract, h]

/-- A template whose stream has packets that wait extracts nothing (R199). -/
theorem State.extract_of_waits {k : Nat} (h : (s.strm (s.tmplStream k)).wait ≠ []) : ∀ fuel, s.extract fuel k = s
  | 0 => rfl
  | _ + 1 => by
    unfold State.extract
    extract_lets
    split
    · rfl
    · exact if_pos h

/-- Extractions of templates that have nothing open, or whose streams have packets that wait, do not move on. -/
theorem State.follow_of_idle (h : ∀ k ∈ List.range 16, (s.tmpl k).open_ = [] ∨ (s.strm (s.tmplStream k)).wait ≠ []) : s.follow = s :=
  State.each_of_id fun k hk => by
    have hk := (h k hk).elim (fun h => State.extract_of_none h (s.trg.ring.ents.length + 2)) fun h => State.extract_of_waits h _
    simp [hk]

theorem State.follow_of_noneOpen (h : s.NoneOpen) : s.follow = s := State.follow_of_idle fun k hk => .inl (h k hk)

theorem ringWrite_of_idle {n : Nat} (h : s.ringOn = false ∨ n = 0 ∧ s.NoneOpen) : Does (.ringWrite n) s fun t => t = s := by
  refine .of_next (s := s) rfl ?_
  split
  · next hon =>
    rcases h with hoff | ⟨rfl, hnone⟩
    · exact absurd (hoff.symm.trans hon) (by decide)
    · exact State.follow_of_noneOpen hnone
  · rfl

/-- The one item of the input buffer is written. -/
theorem ringWrite_of_one {e : RingEnt} (hon : s.ringOn = true) (hbuf : s.trg.ring.buf = [e]) (hnone : s.NoneOpen) :
    Does (.ringWrite 1) s fun t => t = (s.setRing { s.trg.ring with buf := [] }).ringItem e ∧ t.trg.ring.buf = [] ∧
      t.trg.ring.num = s.trg.ring.num + 1 ∧
      t.trg.ring.ents.getLast?.map (fun x => (x.ty, x.item, x.num, x.at_)) = some (e.ty, e.item, s.trg.ring.num, s.dtRef) ∧
      (e.ty ≠ 3 → e.item.lo + min 4194304 (s.get Reg.TRG_RING_CFG_SETTLE) < s.dtRef → t.get Reg.TRG_INT_LAGGED = 1) := by
  obtain ⟨v, r, hv, heq, hrbuf, hnum, hlast⟩ := State.ringItem_eq (s := s.setRing { s.trg.ring with buf := [] }) (e := e) hnone
  set t := (s.setRing { s.trg.ring with buf := [] }).ringItem e with ht
  have htrg : t.trg = (v.setRing r).trg := by
    rw [heq]
    cases v.lags e
    · rfl
    · exact State.countLagged_trg
  have hfollow : t.follow = t := by
    refine State.follow_of_noneOpen (hnone.of_tmpl ?_)
    rw [htrg]
    exact hv.tmpl
  have hexec : exec (.ringWrite 1) s = .next t := by
    show Host.Outcome.next (ite _ _ _) = _
    rw [if_pos hon, ← hfollow, ht]
    simp [hbuf]
  refine .of_next hexec ⟨rfl, ?_, ?_, ?_, fun hty hlate => ?_⟩
  · rw [htrg]; exact hrbuf
  · rw [htrg]; exact hnum
  · rw [htrg]; exact hlast
  · have hlag : v.lags e = true := by
      rw [State.lags, hv.only _ _ _ (by decide), hv.dtRef]
      exact (Bool.and_eq_true_iff).2 ⟨by simpa using hty, decide_eq_true hlate⟩
    rw [heq, hlag]
    exact State.get_put_self ..

/-- The gap record of the discarded items enters the buffer once it has room. -/
theorem ringOverrunGap_of_room {a b k : Nat} (hovr : s.trg.ring.ovr = some (a, b, k))
    (hroom : s.ringRoom { words := [(0, false), (0, false)] } = true) :
    Does .ringOverrunGap s fun t => t.trg.ring.ovr = none ∧ t = s.setRing { s.trg.ring with ovr := none, buf := t.trg.ring.buf } ∧
      t.trg.ring.buf = s.trg.ring.buf ++ (gapItems a (b + 1) 9 3 false k 0).map fun i => { ty := 4, item := i } := by
  have hexec : exec .ringOverrunGap s = .next (s.setRing { s.trg.ring with
      ovr := none, buf := s.trg.ring.buf ++ (gapItems a (b + 1) 9 3 false k 0).map fun i => { ty := 4, item := i } }) := by
    show Host.Outcome.next s.ringGap = _
    simp only [State.ringGap, hovr, hroom, if_true]
  exact .of_next hexec ⟨rfl, rfl, rfl⟩

end

end Sys2Proof.Machine
end

/-! ## Capture contexts -/

section
namespace Sys2Proof.Machine

/-! ### What an extraction leaves (R196, R198 to R200) -/

/-- From `s` to `t` packets of an extraction move on: the fields of items on their way, the packers, FIFOs and sinks behind them, and the
entries of contexts and templates differ, and nothing else. -/
def Extracts (s t : State) : Prop :=
  Only itemFields s t
    { s with regs := t.regs, evt := { s.evt with strm := t.evt.strm }, lnk := t.lnk, hst := t.hst, cmp := t.cmp
             trg := { s.trg with ctx := t.trg.ctx, tmpl := t.trg.tmpl } }

section
variable {r s : State} {n : Nat}

theorem StreamOnly.trg {l : List Fld} (h : StreamOnly l r s) : s.trg = r.trg := by rw [h.1]

theorem Extracts.refl : Extracts s s := ⟨rfl, .refl _ s⟩

theorem Extracts.trans {t : State} (h : Extracts r s) (h' : Extracts s t) : Extracts r t := ⟨by rw [h'.1, h.1], h.2.trans h'.2⟩

theorem Extracts.done (h : Extracts r s) : s.trg.done = r.trg.done := by rw [h.1]

theorem Extracts.streamOnly {t : State} (h : Extracts r s) (h' : StreamOnly itemFields s t) : Extracts r t :=
  h.trans ⟨by rw [h'.trg]; exact h'.1, h'.2⟩

theorem Extracts.feeds {t : State} (h : Extracts r s) (h' : Feeds s t) : Extracts r t :=
  h.streamOnly (h'.only.mono fun _ hf => List.mem_append_right _ hf)

theorem Extracts.setCtx {i : Nat} {c : Ctx} (h : Extracts r s) : Extracts r (s.setCtx i c) := h.trans ⟨rfl, .of_regs rfl⟩

theorem Extracts.setTmpl {k : Nat} {x : Tmpl} (h : Extracts r s) : Extracts r (s.setTmpl k x) := h.trans ⟨rfl, .of_regs rfl⟩

theorem Extracts.cond {c : Bool} {f : State → State} (h : Extracts r s) (hf : Extracts r s → Extracts r (f s)) :
    Extracts r (s.cond c f) := by
  cases c
  · exact h
  · exact hf h

theorem Extracts.pack_each {l : List SItem} {ty : Nat} (h : Extracts r s) : Extracts r (s.each l fun s g => s.pack n ty g true) :=
  State.each_keeps (fun _ _ h => h.streamOnly State.pack_only) l h

theorem Extracts.beginExtract {k : Nat} {o : OpenCtx} (h : Extracts r s) : Extracts r (s.beginExtract k o) :=
  Extracts.setTmpl (((h.feeds Feeds.refl.closePkt).setCtx.feeds Feeds.refl.emit).cond fun h => h.pack_each)

/-- Gap records of missed firings wait in their template or go to its stream; no context is concerned (R196). -/
theorem State.missedGaps_shown (k : Nat) (l : List SItem) : Extracts s (s.missedGaps k l) ∧ (s.missedGaps k l).trg.ctx = s.trg.ctx := by
  unfold State.missedGaps
  extract_lets m
  split
  · exact ⟨.refl, rfl⟩
  · split
    · exact ⟨Extracts.refl.setTmpl, rfl⟩
    · have hpack : StreamOnly itemFields s (s.each l fun s g => s.pack m 4 g true) :=
        State.each_keeps (fun _ _ h => h.trans State.pack_only) l (.refl _ s)
      exact ⟨Extracts.refl.streamOnly hpack, by rw [hpack.trg]⟩

end

/-! ### The end of a context (R198, R201 to R203) -/

/-- What the end of a context can change among the register fields. -/
def contextFields : List Fld := [Reg.TRG_STATUS_OPEN, Reg.TRG_INT_CTX_DONE, Reg.TRG_TRUNC_COUNT, Reg.TRG_INT_TRUNC] ++ itemFields

section
variable (s : State) (k i st : Nat)

theorem State.ctx_congr {s t : State} (h : t.trg.ctx = s.trg.ctx) (i : Nat) : t.ctx i = s.ctx i := by simp only [State.ctx, h]

@[simp] theorem State.ctx_setCtx_self (c : Ctx) : (s.setCtx i c).ctx i = c := NMap.get_set_self ..

@[simp] theorem State.ctx_put (f : Fld) (v i' j' : Nat) : (s.put f v i' j').ctx i = s.ctx i := rfl

/-- A context has left its template: its index is the last of TRG_DONE_FIFO, TRG_INT.CTX_DONE is set, and its entry takes LAST_SEQ and its
state, which is 0 with AUTOFREE. -/
structure State.CtxEnded (s t : State) (i st : Nat) : Prop where
  done : t.trg.done = s.trg.done ++ [i]
  int : t.get Reg.TRG_INT_CTX_DONE = 1
  entry : ∃ x y, t.ctx i = { s.ctx i with last := x, st := y } ∧ (y = 0 ∨ y = st)
  only : OnlyFields contextFields s t

theorem State.CtxEnded.extracts {s t u : State} {i st : Nat} (h : s.CtxEnded t i st) (h' : Extracts t u) (hctx : u.trg.ctx = t.trg.ctx) :
    s.CtxEnded u i st := by
  obtain ⟨hdone, hint, hentry, honly⟩ := h
  refine ⟨h'.done.trans hdone, (h'.2 _ _ _ (by decide)).trans hint, ?_, honly.trans (h'.2.mono fun _ hf => List.mem_append_right _ hf)⟩
  rwa [State.ctx_congr hctx]

theorem State.endCtx_ended : s.CtxEnded (s.endCtx k i st) i st := by
  unfold State.endCtx
  extract_lets n u c free v x w g z l y
  have hu : Extracts s u := (Extracts.refl.feeds Feeds.refl.closePkt).trans ⟨rfl, .of_regs rfl⟩
  have hctx : u.trg.ctx = s.trg.ctx := (Feeds.refl.closePkt (s := s) (n := n)).only.trg ▸ rfl
  have hz : s.CtxEnded z i st := by
    refine ⟨congrArg (· ++ [i]) hu.done, ?_, ⟨(u.get Reg.EVT_STRM_STATn_NEXT_SEQ n + 65535) % 65536, if free then 0 else st, ?_, ?_⟩, ?_⟩
    · show (State.put _ _ _ _ _).get _ _ _ = _
      rw [State.get_put_of_id _ _ _ _ _ _ _ _ (by decide), State.get_put_self]
      rfl
    · have hc : c = s.ctx i := State.ctx_congr hctx i
      rw [← hc]
      exact u.ctx_setCtx_self i _
    · cases free
      · exact .inr rfl
      · exact .inl rfl
    · refine .put _ _ _ _ (by decide) (.put _ _ _ _ (by decide) ?_)
      exact (hu.2.mono fun _ hf => List.mem_append_right _ hf).trans (.of_regs rfl)
  split
  · exact hz
  · obtain ⟨hgaps, hsame⟩ := State.missedGaps_shown (s := z.setTmpl k { y with gaps := [] }) k l
    exact hz.extracts (Extracts.refl.setTmpl.trans hgaps) hsame

/-- A context that its template has open is cut short: what is left of it to report goes to its stream, it is marked, counted, and it
ends (R201). -/
theorem State.cutCtx_of_open {o : OpenCtx} (h : ((s.tmpl k).open_.find? fun o => o.idx == i) = some o) :
    ∃ u, Extracts s u ∧ s.cutCtx k i st =
      (((u.setCtx i { u.ctx i with trunc := true }).gcount Reg.TRG_TRUNC_COUNT).put Reg.TRG_INT_TRUNC 1).endCtx k i st := by
  unfold State.cutCtx
  extract_lets t n head
  simp only [show t.open_.find? (fun o => o.idx == i) = some o from h]
  refine ⟨_, ?_, rfl⟩
  exact ((Extracts.refl.cond fun h => h.beginExtract).cond fun h => h.setTmpl).pack_each

/-- Its index enters TRG_DONE_FIFO, and its entry is marked as cut short. -/
theorem State.cutCtx_shown {o : OpenCtx} (h : ((s.tmpl k).open_.find? fun o => o.idx == i) = some o) :
    (s.cutCtx k i st).trg.done = s.trg.done ++ [i] ∧ ((s.cutCtx k i st).ctx i).trunc = true ∧
    (((s.cutCtx k i st).ctx i).st = 0 ∨ ((s.cutCtx k i st).ctx i).st = st) := by
  obtain ⟨u, hu, e⟩ := s.cutCtx_of_open k i st h
  have hcount : ((u.setCtx i { u.ctx i with trunc := true }).gcount Reg.TRG_TRUNC_COUNT).trg =
      (u.setCtx i { u.ctx i with trunc := true }).trg := by rw [State.gcount, State.bump_eq]
  rw [e]
  obtain ⟨hdone, -, ⟨x, y, hentry, hy⟩, -⟩ := State.endCtx_ended
    (((u.setCtx i { u.ctx i with trunc := true }).gcount Reg.TRG_TRUNC_COUNT).put Reg.TRG_INT_TRUNC 1) k i st
  rw [State.ctx_put, State.ctx_congr (congrArg Trg.ctx hcount), State.ctx_setCtx_self] at hentry
  rw [hdone, hentry, State.put_trg, hcount]
  exact ⟨congrArg (· ++ [i]) hu.done, rfl, hy⟩

theorem State.cutCtx_only : OnlyFields contextFields s (s.cutCtx k i st) := by
  cases h : (s.tmpl k).open_.find? fun o => o.idx == i with
  | none =>
    simp only [State.cutCtx, h]
    exact .refl _ s
  | some o =>
    obtain ⟨u, hu, e⟩ := s.cutCtx_of_open k i st h
    rw [e]
    refine OnlyFields.trans ?_ (State.endCtx_ended ..).only
    refine .put _ _ _ _ (by decide) (.bump _ _ _ _ _ _ (by decide) (by decide) ?_)
    exact (hu.2.mono fun _ hf => List.mem_append_right _ hf).trans (.of_regs rfl)

end

/-! ### TRG_CTX_CMD (R202, R203, R212) -/

section
variable {s : State} {v : Nat}

theorem State.ctxCmd_of_abort (ha : v.testBit 17 = true) (hr : v.testBit 16 = false) : s.ctxCmd v = s.abortCtx (bits v 0 12) := by
  simp only [State.ctxCmd, bit, ha, hr, Bool.false_and, State.cond_true, State.cond_false]

theorem contextAbort_of_closed (ha : v.testBit 17 = true) (hr : v.testBit 16 = false) (hresp : s.responds 0xA0100 = true)
    (hst : (s.ctx (bits v 0 12)).st ≠ 1) : Does (.contextAbort v) s fun t => t = s := by
  refine .of_bar rfl ha hresp ?_
  rw [State.ctxCmd_of_abort ha hr]
  exact if_neg hst

theorem contextAbort_of_open (ha : v.testBit 17 = true) (hr : v.testBit 16 = false) (hresp : s.responds 0xA0100 = true)
    (hst : (s.ctx (bits v 0 12)).st = 1) (hb : s.isBurst (s.ctx (bits v 0 12)).tmpl = false) :
    Does (.contextAbort v) s fun t => t = s.cutCtx (s.ctx (bits v 0 12)).tmpl (bits v 0 12) 3 := by
  refine .of_bar rfl ha hresp ?_
  rw [State.ctxCmd_of_abort ha hr]
  simp [State.abortCtx, hst, hb]

theorem contextAbort_of_burst (ha : v.testBit 17 = true) (hresp : s.responds 0xA0100 = true) (hst : (s.ctx (bits v 0 12)).st = 1)
    (hb : s.isBurst (s.ctx (bits v 0 12)).tmpl = true) (hctx : s.frm.burst.ctx = some (bits v 0 12)) (hr : v.testBit 16 = false) :
    Does (.contextAbort v) s fun t => t = s.burstCut := by
  refine .of_bar rfl ha hresp ?_
  rw [State.ctxCmd_of_abort ha hr]
  simp [State.abortCtx, hst, hb, hctx]

/-- RELEASE after ABORT frees the context whether or not AUTOFREE has. -/
theorem contextAbort_of_release {o : OpenCtx} (ha : v.testBit 17 = true) (hr : v.testBit 16 = true) (hresp : s.responds 0xA0100 = true)
    (hst : (s.ctx (bits v 0 12)).st = 1) (hb : s.isBurst (s.ctx (bits v 0 12)).tmpl = false)
    (hopen : (s.tmpl (s.ctx (bits v 0 12)).tmpl).open_ = [o]) (ho : o.idx = bits v 0 12) :
    Does (.contextAbort v) s fun t => (t.ctx o.idx).st = 0 ∧ (t.ctx o.idx).trunc = true ∧ t.trg.done = s.trg.done ++ [o.idx] := by
  refine .of_bar rfl ha hresp ?_
  rw [← ho] at hst hb hopen
  have habort : s.abortCtx o.idx = s.cutCtx (s.ctx o.idx).tmpl o.idx 3 := by simp [State.abortCtx, hst, hb]
  obtain ⟨hdone, htrunc, hended⟩ := s.cutCtx_shown (s.ctx o.idx).tmpl o.idx 3 (o := o) (by simp [hopen])
  rw [← habort] at hdone htrunc hended
  have e : s.ctxCmd v = (s.abortCtx o.idx).cond (((s.abortCtx o.idx).ctx o.idx).st == 2 || ((s.abortCtx o.idx).ctx o.idx).st == 3)
      (·.setCtx o.idx { (s.abortCtx o.idx).ctx o.idx with st := 0 }) := by
    simp only [State.ctxCmd, bit, ha, hr, Bool.true_and, State.cond_true, ho]
  rw [e]
  rcases hended with hfree | habrt
  · rw [hfree]
    exact ⟨hfree, htrunc, hdone⟩
  · rw [habrt]
    have hentry := (s.abortCtx o.idx).ctx_setCtx_self o.idx { (s.abortCtx o.idx).ctx o.idx with st := 0 }
    exact ⟨congrArg Ctx.st hentry, (congrArg Ctx.trunc hentry).trans htrunc, hdone⟩

/-- A context that is done or aborted becomes free; one in another state stays as it is. -/
theorem contextRelease_shown (hr : v.testBit 16 = true) (ha : v.testBit 17 = false) (hresp : s.responds 0xA0100 = true) :
    Does (.contextRelease v) s fun t =>
      ((s.ctx (bits v 0 12)).st = 2 ∨ (s.ctx (bits v 0 12)).st = 3 → t.ctx (bits v 0 12) = { s.ctx (bits v 0 12) with st := 0 } ∧
        t = { s with trg := { s.trg with ctx := t.trg.ctx } }) ∧
      ((s.ctx (bits v 0 12)).st ≠ 2 → (s.ctx (bits v 0 12)).st ≠ 3 → t = s) := by
  refine .of_bar rfl (by simp [bit, hr, ha]) hresp ?_
  have e : s.ctxCmd v = s.cond ((s.ctx (bits v 0 12)).st == 2 || (s.ctx (bits v 0 12)).st == 3)
      (·.setCtx (bits v 0 12) { s.ctx (bits v 0 12) with st := 0 }) := by
    simp only [State.ctxCmd, bit, ha, hr, Bool.true_and, State.cond_false]
  rw [e]
  refine ⟨fun h => ?_, fun h2 h3 => ?_⟩
  · have hb : ((s.ctx (bits v 0 12)).st == 2 || (s.ctx (bits v 0 12)).st == 3) = true := by simpa using h
    rw [hb]
    exact ⟨s.ctx_setCtx_self _ _, rfl⟩
  · have hb : ((s.ctx (bits v 0 12)).st == 2 || (s.ctx (bits v 0 12)).st == 3) = false := by simp [h2, h3]
    rw [hb]
    rfl

/-! ### TRG_DONE_FIFO (R212) -/

theorem doneFifoRead_of_cons {i : Nat} {l : List Nat} (hresp : s.responds 0xA0104 = true) (h : s.trg.done = i :: l) :
    Does .doneFifoRead s fun t => t = { s with rdata := [i + 2 ^ 31], trg := { s.trg with done := l } } := by
  refine .of_next (congrArg Host.Outcome.next (State.bar_of_responds hresp _)) ?_
  simp only [State.doneRead, State.doneWord, h, List.tail_cons]

theorem doneFifoRead_of_nil (hresp : s.responds 0xA0104 = true) (h : s.trg.done = []) :
    Does .doneFifoRead s fun t => t = { s with rdata := [0] } := by
  refine .of_next (congrArg Host.Outcome.next (State.bar_of_responds hresp _)) ?_
  simp only [State.doneRead, State.doneWord, h, List.tail_nil]
  rw [← h]

/-! ### The extraction ends (R198) -/

/-- An extraction that has begun reads nothing of a ring without entries. -/
theorem State.extract_of_noEntry {k p : Nat} (hread : (s.tmpl k).reading = some p) (hents : s.trg.ring.ents = []) :
    ∀ fuel, s.extract fuel k = s
  | 0 => rfl
  | _ + 1 => by
    simp only [State.extract, hread, hents, List.find?_nil, ite_self]
    split <;> rfl

@[simp] theorem State.advanceTo_trg (d : Nat) : (s.advanceTo d).trg = s.trg := by rw [State.advanceTo_eq]

@[simp] theorem State.tmpl_advanceTo (d k : Nat) : (s.advanceTo d).tmpl k = s.tmpl k := by simp [State.tmpl]

/-- Nothing is left to read before the edge TREF + POST + SETTLE + 1. -/
theorem contextExtractionEnd_of_read {k p : Nat} {o : OpenCtx} (hk : k < 16) (hopen : (s.tmpl k).open_.head? = some o)
    (hkind : s.flag Reg.TRG_TMPL_CFG_KIND 0 k = false) (hread : (s.tmpl k).reading = some p)
    (hents : s.trg.ring.ents = []) :
    Does (.contextExtractionEnd k) s fun t =>
      t = (s.advanceTo ((s.ctx o.idx).tref + (s.ctx o.idx).post + o.settle + 1)).endCtx k o.idx 2 ∧
      t.get Reg.TRG_INT_CTX_DONE = 1 ∧ t.trg.done.getLast? = some o.idx := by
  have hnothing : ∀ fuel, (s.advanceTo ((s.ctx o.idx).tref + (s.ctx o.idx).post + o.settle + 1)).extract fuel k = _ :=
    State.extract_of_noEntry (by simpa using hread) (by simpa using hents)
  have e : exec (.contextExtractionEnd k) s = need (decide (k < 16))
      ((s.advanceTo ((s.ctx o.idx).tref + (s.ctx o.idx).post + o.settle + 1)).endCtx k o.idx 2) := by
    show execContextExtractionEnd k s = _
    simp [execContextExtractionEnd, hopen, hkind, hnothing, hread, hents]
  obtain ⟨hdone, hint, -, -⟩ := State.endCtx_ended (s.advanceTo ((s.ctx o.idx).tref + (s.ctx o.idx).post + o.settle + 1)) k o.idx 2
  exact .of_need e (decide_eq_true hk) ⟨rfl, hint, by rw [hdone, List.getLast?_concat]⟩

end

end Sys2Proof.Machine
end

/-! ## The ring starts -/

section
namespace Sys2Proof.Machine

/-! ### RING_EN rises (R182, R201, R210, R463) -/

section
variable (s : State) (v : Nat)

/-- The fields of TRG_CTRL take the values written. -/
def State.trgCtrlFields : State := (s.putB Reg.TRG_CTRL_EN (bit v 0)).putB Reg.TRG_CTRL_RING_EN (bit v 1)

theorem State.trgCtrlFields_only : OnlyFields [Reg.TRG_CTRL_EN, Reg.TRG_CTRL_RING_EN] s (s.trgCtrlFields v) :=
  .putB _ _ _ _ (by decide) (.putB _ _ _ _ (by decide) (.refl _ s))

theorem State.trgCtrlFields_ringEn (hv : v.testBit 1 = true) : (s.trgCtrlFields v).get Reg.TRG_CTRL_RING_EN = 1 := by
  rw [State.trgCtrlFields, State.putB, State.get_put_self, bit, hv]
  rfl

/-- What shows the place of the ring's writer. -/
def ringPlaceFields : List Fld := [Reg.TRG_RING_HZN_H, Reg.TRG_RING_STATUS_WSEG, Reg.TRG_RING_STATUS_WRAPPED]

/-- The horizon and the ring's status return to 0. -/
def State.ringPlaceZero : State := ((s.put Reg.TRG_RING_HZN_H 0).put Reg.TRG_RING_STATUS_WSEG 0).put Reg.TRG_RING_STATUS_WRAPPED 0

theorem State.ringPlaceZero_only : OnlyFields ringPlaceFields s s.ringPlaceZero :=
  .put _ _ _ _ (by decide) (.put _ _ _ _ (by decide) (.put _ _ _ _ (by decide) (.refl _ s)))

theorem State.ringPlaceZero_shown : s.ringPlaceZero.get Reg.TRG_RING_HZN_H = 0 ∧ s.ringPlaceZero.get Reg.TRG_RING_STATUS_WSEG = 0 ∧
    s.ringPlaceZero.get Reg.TRG_RING_STATUS_WRAPPED = 0 := by
  unfold State.ringPlaceZero
  refine ⟨?_, ?_, State.get_put_self ..⟩
  · rw [State.get_put_of_id _ _ _ _ _ _ _ _ (by decide), State.get_put_of_id _ _ _ _ _ _ _ _ (by decide), State.get_put_self]
    rfl
  · rw [State.get_put_of_id _ _ _ _ _ _ _ _ (by decide), State.get_put_self]
    rfl

/-- Open contexts that still have to read the ring are cut short, and it is emptied; without a partition error 0x5 is shown. -/
theorem State.ringStart_eq : ∃ u, OnlyFields contextFields s u ∧ (s.NoneOpen → u = s) ∧
    s.ringStart = ((u.setRing {}).cond (u.get Reg.MEM_RING_SIZE == 0) (·.memRefuse 5)).ringPlaceZero := by
  refine ⟨_, ?_, fun hs => State.each_of_id fun k hk => ?_, rfl⟩
  · refine .each _ _ (fun u k hu => .ite hu (.each _ _ (fun w i hw => ?_) _ hu)) _ (.refl _ s)
    exact .ite (hw.trans (w.cutCtx_only _ _ _)) hw
  · simp [hs k hk]

end

section
variable {s : State} {v : Nat}

/-- A write that raises RING_EN and leaves EN as it was. -/
theorem ringEnable_of_rise {P : State → Prop} (hv : v.testBit 1 = true) (hen : v.testBit 0 = s.flag Reg.TRG_CTRL_EN)
    (hring : s.flag Reg.TRG_CTRL_RING_EN = false) (hresp : s.responds 0xA0000 = true) (h : P (s.trgCtrlFields v).ringStart) :
    Does (.ringEnable v) s P := by
  refine .of_bar rfl hv hresp ?_
  have e : s.trgCtrl v = (s.trgCtrlFields v).ringStart := by
    simp only [State.trgCtrl, State.trgCtrlFields, bit, hv, hen, hring, Bool.not_false, Bool.and_self, Bool.and_not_self, State.cond_true,
      State.cond_false]
  rwa [e]

theorem ringEnable_of_size (hv : v.testBit 1 = true) (hen : v.testBit 0 = s.flag Reg.TRG_CTRL_EN)
    (hring : s.flag Reg.TRG_CTRL_RING_EN = false) (hresp : s.responds 0xA0000 = true) (hsize : s.get Reg.MEM_RING_SIZE ≠ 0)
    (hnone : s.NoneOpen) :
    Does (.ringEnable v) s fun t => t.get Reg.TRG_CTRL_RING_EN = 1 ∧ t.get Reg.TRG_RING_HZN_H = 0 ∧ t.get Reg.TRG_RING_STATUS_WSEG = 0 ∧
      t.get Reg.TRG_RING_STATUS_WRAPPED = 0 ∧ t.trg.ring.ents = [] ∧ t.trg.ring.segs = [] ∧ t.trg.ring.wptr = 0 ∧
      Only [Reg.TRG_CTRL_EN, Reg.TRG_CTRL_RING_EN, Reg.TRG_RING_HZN_H, Reg.TRG_RING_STATUS_WSEG, Reg.TRG_RING_STATUS_WRAPPED] s t
        { s with regs := t.regs, trg := { s.trg with ring := {} } } := by
  refine ringEnable_of_rise hv hen hring hresp ?_
  obtain ⟨u, -, hu, e⟩ := (s.trgCtrlFields v).ringStart_eq
  obtain rfl := hu hnone
  have hsize' : ((s.trgCtrlFields v).get Reg.MEM_RING_SIZE == 0) = false := by
    rw [s.trgCtrlFields_only v _ _ _ (by decide)]
    simpa using hsize
  rw [e, hsize', State.cond_false]
  obtain ⟨hhzn, hwseg, hwrapped⟩ := ((s.trgCtrlFields v).setRing {}).ringPlaceZero_shown
  have hplace := ((s.trgCtrlFields v).setRing {}).ringPlaceZero_only
  refine ⟨?_, hhzn, hwseg, hwrapped, rfl, rfl, rfl, rfl, ?_⟩
  · rw [hplace _ _ _ (by decide)]
    exact s.trgCtrlFields_ringEn v hv
  · exact ((s.trgCtrlFields_only v).mono (by decide)).trans ((OnlyFields.of_regs rfl).trans (hplace.mono (by decide)))

theorem ringEnable_of_noPartition (hv : v.testBit 1 = true) (hring : s.flag Reg.TRG_CTRL_RING_EN = false)
    (hresp : s.responds 0xA0000 = true) (hsize : s.get Reg.MEM_RING_SIZE = 0) (hen : v.testBit 0 = s.flag Reg.TRG_CTRL_EN) :
    Does (.ringEnable v) s fun t => t.get Reg.TRG_CTRL_RING_EN = 1 ∧ t.get Reg.MEM_ERR_CODE = 5 ∧ t.get Reg.MEM_INT_REFUSED = 1 ∧
      t.ringOn = false := by
  refine ringEnable_of_rise hv hen hring hresp ?_
  obtain ⟨u, hu, -, e⟩ := (s.trgCtrlFields v).ringStart_eq
  have hsize' : u.get Reg.MEM_RING_SIZE = 0 := by
    rw [hu _ _ _ (by decide), s.trgCtrlFields_only v _ _ _ (by decide), hsize]
  have hplace := ((u.setRing {}).memRefuse 5).ringPlaceZero_only
  have hrefuse : OnlyFields [Reg.MEM_INT_REFUSED, Reg.MEM_ERR_CODE] u ((u.setRing {}).memRefuse 5) :=
    .put _ _ _ _ (by decide) (.put _ _ _ _ (by decide) (.of_regs rfl))
  rw [e, hsize', show ((0 : Nat) == 0) = true from rfl, State.cond_true]
  refine ⟨?_, ?_, ?_, ?_⟩
  · rw [hplace _ _ _ (by decide), hrefuse _ _ _ (by decide), hu _ _ _ (by decide)]
    exact s.trgCtrlFields_ringEn v hv
  · rw [hplace _ _ _ (by decide), State.memRefuse, State.get_put_self]
    rfl
  · rw [hplace _ _ _ (by decide), State.memRefuse, State.get_put_of_id _ _ _ _ _ _ _ _ (by decide), State.get_put_self]
    rfl
  · rw [State.ringOn, hplace Reg.MEM_RING_SIZE _ _ (by decide), hrefuse Reg.MEM_RING_SIZE _ _ (by decide), hsize']
    exact Bool.and_false _

end

end Sys2Proof.Machine
end

/-! ## A context opens -/

section
namespace Sys2Proof.Machine

/-! ### A context opens (R195, R197, R200) -/

section
variable (s : State) (k i : Nat) (p : Pending) (l : List Pending)

/-- The entry of a context that an event template opens for a pending flare (R197, R200). -/
def State.newCtx : Ctx :=
  { tref := binRef p.ev.t, cause := p.cause, pre := s.get Reg.TRG_TMPL_PRE_PRE 0 k, post := s.get Reg.TRG_TMPL_POST_POST 0 k, st := 1
    tmpl := k, fine := binFine p.ev.t, remote := p.ev.remote
    early := decide ((binRef p.ev.t : Int) - s.get Reg.TRG_TMPL_PRE_PRE 0 k < s.get Reg.TRG_RING_HZN_H), late := p.ev.late
    origin := if p.ev.remote then p.ev.origin else s.moduleId }

/-- What the template keeps of it: SETTLE, the horizon and AUTOFREE in force (R200, R203, R210). -/
def State.newOpen : OpenCtx :=
  { idx := i, settle := min 4194304 (s.get Reg.TRG_RING_CFG_SETTLE), hzn := s.get Reg.TRG_RING_HZN_H
    free := s.flag Reg.TRG_TMPL_CFG_AUTOFREE 0 k }

/-- The template with that context open. -/
def State.newTmpl : Tmpl :=
  { s.tmpl k with open_ := (s.tmpl k).open_ ++ [s.newOpen k i], lastIdx := some i, lastTref := some (binRef p.ev.t), since := 0
                  next := s.dtRef + 1 }

/-- An event template has opened context `i` for a flare that is no longer pending; its extraction has not begun. -/
def State.opened : State :=
  (((((s.setCtx i (s.newCtx k p)).setTmpl k (s.newTmpl k i p)).put Reg.TRG_TMPL_STATUS_LAST_CTX i 0 k).gcount
    Reg.TRG_TMPL_OPENED_COUNT 0 k)).showOpen

/-- What an opening can change among the register fields. -/
def openFields : List Fld :=
  [Reg.TRG_STATUS_PEND, Reg.TRG_STATUS_PEND_PEAK, Reg.TRG_STATUS_OPEN, Reg.TRG_TMPL_STATUS_LAST_CTX, Reg.TRG_TMPL_OPENED_COUNT,
   Reg.TRG_INT_CNT_SAT]

theorem State.setPend_only : OnlyFields openFields s (s.setPend l) := .put _ _ _ _ (by decide) (.put _ _ _ _ (by decide) (.of_regs rfl))

theorem State.get_setPend {f : Fld} (h : f.id ∉ openFields.map (·.id)) (i j : Nat) : (s.setPend l).get f i j = s.get f i j :=
  s.setPend_only l f i j h

/-- The fields of the template and of the ring that a context takes are none of those that show the pending store. -/
theorem State.newCtx_setPend : (s.setPend l).newCtx k p = s.newCtx k p := by
  simp (disch := decide) only [State.newCtx, State.get_setPend]
  rfl

theorem State.newTmpl_setPend : (s.setPend l).newTmpl k i p = s.newTmpl k i p := by
  simp (disch := decide) only [State.newTmpl, State.newOpen, State.flag, State.get_setPend]
  rfl

theorem State.opened_trg : (s.opened k i p).trg = ((s.setCtx i (s.newCtx k p)).setTmpl k (s.newTmpl k i p)).trg := by
  rw [State.opened, State.showOpen, State.gcount, State.bump_eq]
  rfl

theorem State.opened_regsOnly : RegsOnly openFields ((s.setCtx i (s.newCtx k p)).setTmpl k (s.newTmpl k i p)) (s.opened k i p) :=
  (RegsOnly.put _ _ _ _ _ (by decide)).trans <| (RegsOnly.bump _ _ _ _ _ _ _ (by decide) (by decide)).trans <|
    RegsOnly.put _ _ _ _ _ (by decide)

theorem State.opened_lastCtx : (s.opened k i p).get Reg.TRG_TMPL_STATUS_LAST_CTX 0 k = trunc Reg.TRG_TMPL_STATUS_LAST_CTX.width i := by
  have hcount (u : State) : OnlyFields [Reg.TRG_TMPL_OPENED_COUNT, Reg.TRG_INT_CNT_SAT] u (u.gcount Reg.TRG_TMPL_OPENED_COUNT 0 k) :=
    .bump _ _ _ _ _ _ (by decide) (by decide) (.refl _ u)
  rw [State.opened, State.showOpen, State.get_put_of_id _ _ _ _ _ _ _ _ (by decide), hcount _ _ _ _ (by decide), State.get_put_self]

end

section
variable {s : State} {k i : Nat} {p : Pending}

theorem State.tmpl_setTmpl_self (x : Tmpl) (h : k < s.trg.tmpl.length) : (s.setTmpl k x).tmpl k = x := by
  simp [State.tmpl, State.setTmpl, h]

theorem State.tmpl_setTmpl_of_ne (x : Tmpl) {j : Nat} (h : j ≠ k) : (s.setTmpl k x).tmpl j = s.tmpl j := by
  simp [State.tmpl, State.setTmpl, List.getElem?_set_ne h.symm]

/-- An edge that has come lets no time pass. -/
theorem State.advanceTo_of_le {d : Nat} (h : d ≤ s.dtRef) (hlt : s.dtRef < 2 ^ 64) : s.advanceTo d = s := by
  rw [State.advanceTo, Nat.sub_eq_zero_of_le h, State.elapse, if_pos rfl, max_eq_left h, Nat.mod_eq_of_lt hlt]

theorem contextOpen_of_none (hk : k < 16) (h : (s.trg.pend.find? fun p => p.tmpl == k) = none ∨ s.freeCtx k = none) :
    Does (.contextOpen k) s fun t => t = s := by
  have e : execContextOpen k s = need (decide (k < 16)) s := by
    unfold execContextOpen
    refine congrArg (need (decide (k < 16))) ?_
    split
    · next hp hi =>
      rcases h with h | h
      · exact absurd (h.symm.trans hp) (by simp)
      · exact absurd (h.symm.trans hi) (by simp)
    · rfl
  exact .of_need e (decide_eq_true hk) rfl

/-- A pending flare opens the context at an edge that may open it; with nothing staged the fields in force are those of before. -/
theorem execContextOpen_eq (hfind : (s.trg.pend.find? fun p => p.tmpl == k) = some p) (hfree : s.freeCtx k = some i)
    (hburst : s.isBurst k = false) (hone : s.flag Reg.TRG_TMPL_CFG_ONESHOT 0 k = false) (hshadow : s.shadow = [])
    (hat : p.at_ < s.dtRef) (hnext : (s.tmpl k).next ≤ s.dtRef) (hlt : s.dtRef < 2 ^ 64) :
    execContextOpen k s = need (decide (k < 16)) ((s.setPend (s.trg.pend.erase p)).opened k i p).follow := by
  unfold execContextOpen
  refine congrArg (need (decide (k < 16))) ?_
  split
  · next p' i' hp hi =>
    cases hfind.symm.trans hp
    cases hfree.symm.trans hi
    extract_lets now w w' u t pre post h burst uc x o ut v vb z
    have hnow : now = s := State.advanceTo_of_le (max_le hat hnext) hlt
    clear_value now
    subst hnow
    have hu : u = w := by
      have hw : w.shadow = [] := hshadow
      have hw' : w' = w := State.each_of_id fun f _ => State.commit_of_shadow_nil hw f 0 k
      unfold u
      rw [hw']
      exact State.commit_of_shadow_nil hw ..
    clear_value u
    subst hu
    have hburst' : burst = false := by
      rw [← hburst]
      exact congrArg (· != 0) (State.get_setPend _ _ (by decide) _ _)
    clear_value burst
    subst hburst'
    have hvb : vb = w.opened k i p := rfl
    have hone' : vb.flag Reg.TRG_TMPL_CFG_ONESHOT 0 k = false := by
      rw [← hone, hvb]
      exact congrArg (· != 0) (((State.opened_regsOnly ..).2 _ _ _ (by decide)).trans (State.get_setPend _ _ (by decide) _ _))
    have hz : z = w.opened k i p := by
      unfold z
      rw [hone']
      exact hvb
    rw [hz]
    rfl
  · next hno => exact absurd hfree (hno p i hfind)

/-- The template has the one context open, with the window of the flare; its stream has packets that wait, so its extraction does not
begin. -/
theorem contextOpen_of_pending (hk : k < 16) (hlen : k < s.trg.tmpl.length) (hpend : s.trg.pend = [p]) (htmpl : p.tmpl = k)
    (hfree : s.freeCtx k = some i) (hburst : s.isBurst k = false) (hone : s.flag Reg.TRG_TMPL_CFG_ONESHOT 0 k = false)
    (hshadow : s.shadow = []) (hwait : (s.strm (s.tmplStream k)).wait ≠ []) (hnone : s.NoneOpen) (hat : p.at_ < s.dtRef)
    (hnext : (s.tmpl k).next ≤ s.dtRef) (hlt : s.dtRef < 2 ^ 64) :
    Does (.contextOpen k) s fun t => t.ctx i = s.newCtx k p ∧ t.tmpl k = s.newTmpl k i p ∧
      t.get Reg.TRG_TMPL_STATUS_LAST_CTX 0 k = trunc Reg.TRG_TMPL_STATUS_LAST_CTX.width i ∧
      Only openFields s t { s with regs := t.regs, trg := { s.trg with pend := [], ctx := t.trg.ctx, tmpl := t.trg.tmpl } } := by
  have herase : s.trg.pend.erase p = [] := by rw [hpend, List.erase_cons_head]
  have e := execContextOpen_eq (p := p) (by simp [hpend, htmpl]) hfree hburst hone hshadow hat hnext hlt
  rw [herase] at e
  set u := s.setPend [] with hu
  set t := u.opened k i p with ht
  have htrg : t.trg = ((u.setCtx i (s.newCtx k p)).setTmpl k (s.newTmpl k i p)).trg := by
    rw [ht, State.opened_trg, hu, State.newCtx_setPend, State.newTmpl_setPend]
  have htmpls (j : Nat) : t.tmpl j = ((u.setCtx i (s.newCtx k p)).setTmpl k (s.newTmpl k i p)).tmpl j := by
    rw [State.tmpl, htrg, State.tmpl]
  obtain ⟨hrest, hfields⟩ : RegsOnly openFields _ t := u.opened_regsOnly k i p
  have honly : Only openFields s t { s with regs := t.regs, trg := { s.trg with pend := [], ctx := t.trg.ctx, tmpl := t.trg.tmpl } } :=
    ⟨by rw [hrest]; rfl, (s.setPend_only []).trans ((OnlyFields.of_regs rfl).trans hfields)⟩
  have hfollow : t.follow = t := by
    refine State.follow_of_idle fun j hj => ?_
    by_cases hjk : j = k
    · subst hjk
      right
      have hstrm : t.evt = s.evt := by rw [honly.1]
      rwa [State.tmplStream, honly.2 _ _ _ (by decide), State.strm, hstrm]
    · left
      rw [htmpls, State.tmpl_setTmpl_of_ne _ hjk]
      exact hnone j hj
  rw [hfollow] at e
  refine .of_need e (decide_eq_true hk) ⟨?_, ?_, u.opened_lastCtx k i p, honly⟩
  · rw [State.ctx_congr (congrArg Trg.ctx htrg)]
    exact u.ctx_setCtx_self i _
  · rw [htmpls]
    exact State.tmpl_setTmpl_self _ hlen

/-- A time at or after DT 0 is the whole number of its reference periods. -/
theorem binRef_cast {t : Int} (h : 0 ≤ t) : (binRef t : Int) = t / 512 := Int.toNat_of_nonneg (Int.ediv_nonneg h (by decide))

end

/-- Settles O21: the ring starts, takes an item and its gap record; a context opens, is read to its end, cut short or released; and the
done FIFO is read. -/
theorem ringAndContexts : Obligations.RingAndContexts := by
  unfold Obligations.RingAndContexts
  refine ⟨fun _ _ => ringEnable_of_size, fun _ _ => ringEnable_of_noPartition, fun _ _ => ringWrite_of_idle,
    fun _ _ => ringWrite_of_one, fun _ _ _ _ h _ _ _ _ => ringOverrunGap_of_room h, ?_, fun _ _ => contextOpen_of_none,
    fun _ _ _ _ hk hopen hkind _ => contextExtractionEnd_of_read hk hopen hkind, fun _ _ => contextAbort_of_closed,
    fun _ _ => contextAbort_of_open, ?_, fun _ _ ha hr => contextAbort_of_burst ha hr, fun _ _ => contextRelease_shown,
    fun _ _ _ => doneFifoRead_of_cons, fun _ => doneFifoRead_of_nil⟩
  · intro tmpl i p s hk hlen hpend htmpl hfree hburst hone hshadow _ hwait hnone hat hnext hlt hev
    obtain ⟨t, e, hctx, htmpl', hlast, honly⟩ :=
      contextOpen_of_pending hk hlen hpend htmpl hfree hburst hone hshadow hwait hnone hat hnext hlt
    refine ⟨t, e, ?_⟩
    beta_reduce
    rw [hctx, htmpl']
    have hpend' : t.trg.pend = [] := by rw [honly.1]
    refine ⟨hpend', rfl, rfl, rfl, rfl, rfl, rfl, rfl, rfl, rfl, rfl, rfl, ?_, ?_, rfl, hlast, honly⟩
    · rw [← binRef_cast hev]
      exact decide_eq_true_iff
    · rw [State.newTmpl, hnone tmpl (List.mem_range.2 hk)]
      rfl
  · rintro v k o s ha hr hresp hst rfl - - hb hopen ho
    exact contextAbort_of_release ha hr hresp hst hb hopen ho

end Sys2Proof.Machine
end

/-! ## A boundary before the frame's first counting edge -/

section
namespace Sys2Proof.Machine

section
variable {s : State}

@[simp] theorem State.advanceTo_frm (d : Nat) : (s.advanceTo d).frm = s.frm := by rw [State.advanceTo_eq]
@[simp] theorem State.advanceTo_shadow (d : Nat) : (s.advanceTo d).shadow = s.shadow := by rw [State.advanceTo_eq]

/-- With nothing pending the gate's fields stay, and with them the gate (R225). -/
theorem State.gateCommit_of_shadow_nil (h : s.shadow = []) : s.gateCommit = s := by
  have hcommit (l : List Fld) : s.each l (fun s f => s.commit f) = s := State.each_of_id fun f _ => State.commit_of_shadow_nil h f 0 0
  simp only [State.gateCommit, hcommit, bne_self_eq_false, State.cond_false]

/-- A burst without an open context delivers nothing (R234). -/
theorem State.burstGo_of_noContext (h : s.frm.burst.ctx = none) : ∀ fuel, s.burstGo fuel = s
  | 0 => rfl
  | _ + 1 => by simp only [State.burstGo, h]

/-- A boundary at or before the first counting edge neither ends the frame nor merges it (R219); the grid only goes on from it, and a
recorder that waited for it restarts (R234). -/
theorem State.frameBoundary_of_notBegun {c : FrameNow} {e : Nat} (hcur : s.frm.cur = some c) (he : e ≤ c.start)
    (hshadow : s.shadow = []) :
    s.frameBoundary e =
      (s.accrue e).setFrm { (s.accrue e).frm with at_ := e, burst := { s.frm.burst with restart := false } } := by
  unfold State.frameBoundary
  extract_lets _ u _ _ _ v
  have hcur' : u.frm.cur = some _ := congrArg (Option.map _) hcur
  have hv : v = u := by
    simp only [v, hcur']
    exact (if_pos he).trans (State.gateCommit_of_shadow_nil hshadow)
  clear_value v
  subst hv
  rfl

/-- The frame is not merged. -/
theorem frameBoundary_frame_of_notBegun {c : FrameNow} (hcur : s.frm.cur = some c) (he : s.nextBoundary s.frm.at_ ≤ c.start)
    (hshadow : s.shadow = []) (hctx : s.frm.burst.ctx = none) :
    Does .frameBoundary s fun t => t.frm.cur.map (fun x => (x.num, x.start, x.merged)) = some (c.num, c.start, c.merged) := by
  let d := s.nextBoundary s.frm.at_
  have hb : (s.advanceTo d).frameBoundary d = _ :=
    State.frameBoundary_of_notBegun ((congrArg Frm.cur (s.advanceTo_frm d)).trans hcur) he ((s.advanceTo_shadow d).trans hshadow)
  have hnone : ((s.advanceTo d).frameBoundary d).frm.burst.ctx = none := by
    rw [hb]
    exact (congrArg (fun f : Frm => f.burst.ctx) (s.advanceTo_frm d)).trans hctx
  have e : execFrameBoundary s = .next ((s.advanceTo d).frameBoundary d) := by
    simp only [execFrameBoundary, hcur, Option.isSome_some, Bool.true_or, if_true, State.burstPump]
    rw [State.burstGo_of_noContext hnone]
  refine .of_next e ?_
  rw [hb]
  simp [State.accrue, hcur]

end

/-- The readout of frame 4 of tile 2 is under way, the last boundary was at edge 1000, and frame 5 counts from edge 5000 on. -/
def laterFrame : State := frmRead.setFrm { frmRead.frm with cur := some { num := 5, start := 5000 } }

/-- Refutes O22: the merge's clause asks for a frame under way and a readout that has not ended, but not, as the clauses of a frame's
end do, that the frame starts before the boundary. In `laterFrame` it starts after the boundary at edge 1250, which does not merge it. -/
theorem not_frameGrid : ¬ Obligations.FrameGrid := by
  unfold Obligations.FrameGrid
  rintro ⟨-, -, -, -, -, -, -, -, -, hmerge, -⟩
  have hctx : laterFrame.frm.burst.ctx = none := by decide +kernel
  obtain ⟨t, e, hmerged, -⟩ := hmerge { num := 5, start := 5000 } laterFrame rfl (by decide +kernel) (by decide +kernel) rfl hctx
  obtain ⟨t', e', hkept⟩ := frameBoundary_frame_of_notBegun (s := laterFrame) rfl (by decide +kernel) rfl hctx
  cases e.symm.trans e'
  exact absurd (hmerged.symm.trans hkept) (by decide)

end Sys2Proof.Machine
end

/-! ## The recorder after a burst -/

section
namespace Sys2Proof.Machine

section
variable {s : State} {i k st : Nat}

theorem StreamOnly.frm {l : List Fld} {t : State} (h : StreamOnly l s t) : t.frm = s.frm := by rw [h.1]

theorem Extracts.frm {t : State} (h : Extracts s t) : t.frm = s.frm := by rw [h.1]

/-- The end of a context leaves the frame grid and the burst recorder. -/
theorem State.endCtx_frm : (s.endCtx k i st).frm = s.frm := by
  unfold State.endCtx
  extract_lets n u c free v x w g z l y
  have hu : u.frm = s.frm := Feeds.refl.closePkt.only.frm
  have hz : z.frm = s.frm := hu
  split
  · exact hz
  · rw [(State.missedGaps_shown k l).1.frm, State.setTmpl_frm, hz]

/-- A burst that ends leaves a recorder that starts anew at the next boundary: for its template, with the slots and POST that then hold,
while that is armed (R233 to R235). -/
theorem State.burstEnd_burst (hctx : s.frm.burst.ctx = some i) (htmpl : s.frm.burst.tmpl = some k) :
    (s.burstEnd st).frm.burst =
      if s.get Reg.TRG_TMPL_STATUS_STATE 0 k = 0 then { restart := true } else { s.burstFor k with restart := true } := by
  simp only [State.burstEnd, hctx, htmpl]
  rw [State.endCtx_frm]
  rfl

/-- With its last word taken, nothing is left of a burst to deliver (R234). -/
theorem State.burstGo_of_delivered {tf : Nat} (hctx : s.frm.burst.ctx = some i) (htmpl : s.frm.burst.tmpl = some k)
    (htrig : s.frm.burst.trigFrame = some tf) (hbegun : s.frm.burst.begun = true) (htodo : s.frm.burst.todo = []) :
    ∀ fuel, s.burstGo fuel = s
  | 0 => rfl
  | _ + 1 => by simp [State.burstGo, hctx, htmpl, htrig, hbegun, htodo]

/-- A burst context that has delivered its last word ends, and the recorder starts anew (R234). -/
theorem burstDeliveryEnd_of_delivered {tf : Nat} (hctx : s.frm.burst.ctx = some i) (htmpl : s.frm.burst.tmpl = some k)
    (htrig : s.frm.burst.trigFrame = some tf) (hbegun : s.frm.burst.begun = true) (htodo : s.frm.burst.todo = [])
    (hwait : (s.strm (s.tmplStream k)).wait = []) :
    Does .burstDeliveryEnd s fun t => t.frm.burst =
      if s.get Reg.TRG_TMPL_STATUS_STATE 0 k = 0 then { restart := true } else { s.burstFor k with restart := true } := by
  have e : execBurstDeliveryEnd s = .next (s.burstEnd 2) := by
    simp only [execBurstDeliveryEnd, State.burstPump, State.burstGo_of_delivered hctx htmpl htrig hbegun htodo, hctx, htmpl, hbegun,
      htodo, hwait, beq_self_eq_true, Bool.and_self, State.cond_true]
  exact .of_next e (State.burstEnd_burst hctx htmpl)

end

/-- Template 0 is armed with PRE 1 and POST 2, and its burst, whose trigger frame started at edge 750, is delivered to the last word. -/
def burstDelivered : State :=
  (((frmUp.put Reg.TRG_TMPL_PRE_PRE 1 0 0).put Reg.TRG_TMPL_POST_POST 2 0 0).put Reg.TRG_TMPL_STATUS_STATE 1 0 0).setBurst
    { tmpl := some 0, slots := 4, post := 2, ctx := some 4, trigFrame := some 750, begun := true, frozen := true }

/-- Refutes O23: the clause of a delivered burst gives the recorder that starts anew one slot and POST 0 whatever its template holds.
While the template is armed it records with PRE + POST + 1 slots and POST (R233): in `burstDelivered` with 4 and 2. -/
theorem not_gateAndBurst : ¬ Obligations.GateAndBurst := by
  unfold Obligations.GateAndBurst
  rintro ⟨-, -, -, -, -, -, hdelivered, -⟩
  have hwait : (burstDelivered.strm (burstDelivered.tmplStream 0)).wait = [] := by decide +kernel
  obtain ⟨t, e, -, -, -, hburst⟩ := hdelivered 4 0 750 burstDelivered rfl rfl rfl rfl rfl hwait
  obtain ⟨t', e', hanew⟩ := burstDeliveryEnd_of_delivered (s := burstDelivered) (i := 4) (k := 0) (tf := 750) rfl rfl rfl rfl rfl hwait
  cases e.symm.trans e'
  have harmed : burstDelivered.get Reg.TRG_TMPL_STATUS_STATE 0 0 ≠ 0 := by decide +kernel
  rw [hanew, if_neg harmed] at hburst
  have hpost : burstDelivered.get Reg.TRG_TMPL_POST_POST 0 0 = 0 := congrArg Burst.post hburst
  exact absurd hpost (by decide +kernel)

end Sys2Proof.Machine
end

/-! ## A fabric settles -/

section
namespace Sys2Proof.Machine

/-! ### What a listed key reads -/

section
variable {κ β : Type} [DecidableEq κ]

/-- Where each key is listed once, a listed key reads the value beside it. -/
theorem SMap.get_of_mem {d v : β} {m : List (κ × β)} {k : κ} (hm : (m.map (·.1)).Nodup) (h : (k, v) ∈ m) : SMap.get d m k = v := by
  induction m with
  | nil => cases h
  | cons e m ih =>
    rw [List.map_cons, List.nodup_cons] at hm
    rw [SMap.get_cons]
    rcases List.mem_cons.1 h with rfl | h
    · exact if_pos rfl
    · rw [if_neg, ih hm.2 h]
      rintro rfl
      exact hm.1 (List.mem_map.2 ⟨_, h, rfl⟩)

/-- A bound of the unlisted value and of every listed one bounds what every key reads. -/
theorem SMap.get_le {d b : Nat} {m : List (κ × Nat)} (hd : d ≤ b) (hm : ∀ x ∈ m, x.2 ≤ b) (k : κ) : SMap.get d m k ≤ b := by
  by_cases h : SMap.get d m k = d
  · rwa [h]
  · exact hm _ (SMap.mem_of_get_ne h)

end

/-- The largest of a list of values is at most a bound iff each of them is. -/
theorem foldl_max_le_iff {α : Type} {g : α → Nat} {b : Nat} {l : List α} {a : Nat} :
    l.foldl (fun m y => max m (g y)) a ≤ b ↔ a ≤ b ∧ ∀ y ∈ l, g y ≤ b := by
  induction l generalizing a with
  | nil => simp
  | cons y l ih => simp [ih, and_assoc]

/-! ### One evaluation (R244) -/

section
variable {f : Fab} {lvl : Nat → Bool} {on on' : List Nat} {w : Nat} {e : Wick}

/-- The output of a loaded wick at its evaluation from the outputs `on`. -/
def Fab.gives (f : Fab) (lvl : Nat → Bool) (on : List Nat) (w : Nat) (e : Wick) : Bool :=
  match e.mode with
  | 0 => f.lutVal lvl on w e
  | 1 => (f.lutVal lvl on w e || f.out.contains w) && !f.selVal lvl on (w / 64) (e.sel 5)
  | 2 => f.lutVal lvl on w e && !f.prevLut.contains w
  | _ => f.prevLut.contains w

theorem Fab.round_eq : f.round lvl on = (f.wicks.filter fun x => f.gives lvl on x.1 x.2).map (·.1) := rfl

theorem Fab.wick_of_mem (hnd : (f.wicks.map (·.1)).Nodup) (h : (w, e) ∈ f.wicks) : f.wick w = e := SMap.get_of_mem hnd h

theorem Fab.mem_round_iff (hnd : (f.wicks.map (·.1)).Nodup) (h : (w, e) ∈ f.wicks) :
    w ∈ f.round lvl on ↔ f.gives lvl on w e = true := by
  rw [Fab.round_eq, List.mem_map]
  constructor
  · rintro ⟨⟨w', e'⟩, hx, rfl⟩
    obtain ⟨hmem, hv⟩ := List.mem_filter.1 hx
    rwa [← Fab.wick_of_mem hnd h, Fab.wick_of_mem hnd hmem]
  · exact fun hv => ⟨(w, e), List.mem_filter.2 ⟨h, hv⟩, rfl⟩

/-- An unloaded wick gives 0. -/
theorem Fab.not_mem_round (h : w ∉ f.wicks.map (·.1)) : w ∉ f.round lvl on := by
  rw [Fab.round_eq, List.mem_map]
  rintro ⟨x, hx, rfl⟩
  exact h (List.mem_map_of_mem (List.mem_of_mem_filter hx))

/-- The wick that a selector of a wick names, directly or through a group input. -/
def Fab.selected (f : Fab) (w i : Nat) : Option Nat :=
  let sel := (f.wick w).sel i
  if sel < 0x40 then some (w / 64 * 64 + sel)
  else if sel < 0x80 then
    let c := f.input (w / 64 * 64 + sel - 0x40)
    if 0x400 ≤ c ∧ c < 0x4400 then some (c - 0x400) else none
  else none

theorem Fab.mem_selects_iff {y : Nat} : y ∈ f.selects w ↔ ∃ i < 6, f.selected w i = some y := by
  rw [show f.selects w = (List.range 6).filterMap (f.selected w) from rfl]
  simp only [List.mem_filterMap, List.mem_range]

/-- What a wick's selector reads depends on the outputs of the wicks it selects alone. -/
theorem Fab.selVal_congr (he : f.wick w = e) (hon : ∀ y ∈ f.selects w, (y ∈ on ↔ y ∈ on')) {i : Nat} (hi : i < 6) :
    f.selVal lvl on (w / 64) (e.sel i) = f.selVal lvl on' (w / 64) (e.sel i) := by
  subst he
  have hsel {y : Nat} (hy : f.selected w i = some y) : on.contains y = on'.contains y := by
    rw [Bool.eq_iff_iff, List.contains_iff_mem, List.contains_iff_mem]
    exact hon y (Fab.mem_selects_iff.2 ⟨i, hi, hy⟩)
  unfold Fab.selVal srcVal
  split
  next hwick => exact hsel (if_pos hwick)
  next hwick =>
    split
    next hinput =>
      split
      next => rfl
      next =>
        split
        next hcode => exact hsel ((if_neg hwick).trans ((if_pos hinput).trans (if_pos hcode)))
        next => rfl
    next => rfl

theorem Fab.lutVal_congr (he : f.wick w = e) (hon : ∀ y ∈ f.selects w, (y ∈ on ↔ y ∈ on')) :
    f.lutVal lvl on w e = f.lutVal lvl on' w e :=
  congrArg (bit e.lut) <| List.foldl_ext _ _ _ fun _ _ hi => by rw [Fab.selVal_congr he hon (List.mem_range.1 hi)]

/-- A wick of MODE 0b11 gives what its LUT gave in the latest completed wave. -/
theorem Fab.gives_of_mode3 (he : e.mode = 3) : f.gives lvl on w e = f.prevLut.contains w := by
  simp only [Fab.gives, he]

theorem Fab.gives_congr (he : f.wick w = e) (hon : ∀ y ∈ f.selects w, (y ∈ on ↔ y ∈ on')) :
    f.gives lvl on w e = f.gives lvl on' w e := by
  unfold Fab.gives
  rw [Fab.lutVal_congr he hon, Fab.selVal_congr he hon (i := 5) (by decide)]

end

/-! ### Depths bound the evaluations that a wick needs (R246, R247) -/

section
variable {f : Fab} {lvl : Nat → Bool}

theorem Fab.settle_eq : f.settle lvl = (f.round lvl)^[26] [] := List.foldl_const ..

theorem Fab.depths_eq : f.depths = f.depthRound^[27] [] := List.foldl_const ..

/-- A loaded wick that is not of MODE 0b11 lies deeper than every wick it selects. -/
theorem Fab.get_depthRound (hnd : (f.wicks.map (·.1)).Nodup) {w : Nat} {e : Wick} (h : (w, e) ∈ f.wicks) (hmode : e.mode ≠ 3) (d : NMap Nat) :
    NMap.get 1 (f.depthRound d) w = 1 + (f.selects w).foldl (fun m y => max m (NMap.get 1 d y)) 0 := by
  have hkeys : ((f.depthRound d).map (·.1)).Nodup := by
    rw [Fab.depthRound, List.map_map]
    exact hnd
  refine SMap.get_of_mem hkeys (List.mem_map.2 ⟨(w, e), h, ?_⟩)
  rw [if_neg hmode]

/-- A wick whose depth some rounds of the check, more than `m`, put at no more than `m` has its final output after `m + 1` evaluations:
a wick that is not of MODE 0b11 depends on wicks of lower depth alone. -/
theorem Fab.mem_iterate_round (hnd : (f.wicks.map (·.1)).Nodup) (m : Nat) {j w n : Nat} (hj : m < j)
    (hdepth : NMap.get 1 (f.depthRound^[j] []) w ≤ m) (hn : m < n) :
    w ∈ (f.round lvl)^[n] [] ↔ w ∈ (f.round lvl)^[m + 1] [] := by
  induction m using Nat.strong_induction_on generalizing j w n with
  | _ m ih =>
    obtain ⟨j, rfl⟩ := Nat.exists_eq_add_one_of_ne_zero (Nat.ne_zero_of_lt hj)
    obtain ⟨n, rfl⟩ := Nat.exists_eq_add_one_of_ne_zero (Nat.ne_zero_of_lt hn)
    rw [Function.iterate_succ_apply', Function.iterate_succ_apply']
    by_cases hw : w ∈ f.wicks.map (·.1)
    case neg => exact iff_of_false (Fab.not_mem_round hw) (Fab.not_mem_round hw)
    obtain ⟨⟨w, e⟩, hwe, rfl⟩ := List.mem_map.1 hw
    rw [Fab.mem_round_iff hnd hwe, Fab.mem_round_iff hnd hwe]
    by_cases hmode : e.mode = 3
    case pos => rw [Fab.gives_of_mode3 hmode, Fab.gives_of_mode3 hmode]
    rw [Function.iterate_succ_apply', Fab.get_depthRound hnd hwe hmode, Nat.add_comm] at hdepth
    obtain ⟨m, rfl⟩ := Nat.exists_eq_add_one_of_ne_zero (Nat.ne_zero_of_lt hdepth)
    obtain ⟨-, hlower⟩ := foldl_max_le_iff.1 (Nat.le_of_succ_le_succ hdepth)
    have hselected (y : Nat) (hy : y ∈ f.selects w) : y ∈ (f.round lvl)^[n] [] ↔ y ∈ (f.round lvl)^[m + 1] [] :=
      ih m (Nat.lt_succ_self m) (Nat.lt_of_succ_lt_succ hj) (hlower y hy) (Nat.lt_of_succ_lt_succ hn)
    rw [Fab.gives_congr (Fab.wick_of_mem hnd hwe) hselected]

/-- The check bounds every wick's depth by 24. -/
theorem Fab.depth_le_of_ok (hok : f.ok = true) (w : Nat) : NMap.get 1 f.depths w ≤ 24 := by
  simp only [Fab.ok, Bool.and_eq_true, List.all_eq_true, decide_eq_true_eq] at hok
  obtain ⟨⟨hdepths, -⟩, -⟩ := hok
  exact SMap.get_le (by decide) hdepths w

/-- A list of outputs enters an evaluation by its members alone. -/
theorem Fab.round_congr {on on' : List Nat} (hnd : (f.wicks.map (·.1)).Nodup) (h : ∀ w, w ∈ on ↔ w ∈ on') : f.round lvl on = f.round lvl on' := by
  rw [Fab.round_eq, Fab.round_eq]
  exact congrArg _ (List.filter_congr fun x hx => Fab.gives_congr (Fab.wick_of_mem hnd hx) fun y _ => h y)

/-- One more evaluation changes nothing. -/
theorem Fab.round_settle (hok : f.ok = true) (hnd : (f.wicks.map (·.1)).Nodup) : f.round lvl (f.settle lvl) = f.settle lvl := by
  have hfinal (w : Nat) : w ∈ (f.round lvl)^[26] [] ↔ w ∈ (f.round lvl)^[25] [] :=
    Fab.mem_iterate_round hnd 24 (by decide) (f.depths_eq ▸ Fab.depth_le_of_ok hok w) (by decide)
  calc f.round lvl (f.settle lvl) = f.round lvl ((f.round lvl)^[26] []) := by rw [Fab.settle_eq]
    _ = f.round lvl ((f.round lvl)^[25] []) := Fab.round_congr hnd hfinal
    _ = f.settle lvl := by rw [Fab.settle_eq, ← Function.iterate_succ_apply' (f.round lvl)]

end

/-- Settles O25: outputs are final once every wick has been evaluated as often as it is deep, and the check bounds depths by 24. -/
theorem fabricSettles : Obligations.FabricSettles := by
  unfold Obligations.FabricSettles
  intro f lvl hok hnd
  have hfinal := Fab.round_settle (lvl := lvl) hok hnd
  refine ⟨hfinal, fun w e hwe hmode => ?_⟩
  have hgives : f.gives lvl (f.settle lvl) w e = f.lutVal lvl (f.settle lvl) w e := by simp only [Fab.gives, hmode]
  rw [← hgives, ← Fab.mem_round_iff hnd hwe, hfinal]

end Sys2Proof.Machine
end

/-! ## What the operations of the fabric read and leave -/

section
namespace Sys2Proof.Machine

/-! ### A change of registers and of the fabric -/

/-- Register fields of `l` and the fabric differ, and nothing else. -/
def FabOnly (l : List Fld) (s t : State) : Prop := Only l s t { s with regs := t.regs, fab := t.fab }

section
variable {l : List Fld} {s u w : State}

theorem FabOnly.refl (l : List Fld) (s : State) : FabOnly l s s := ⟨rfl, .refl l s⟩

theorem FabOnly.trans (h : FabOnly l s u) (h' : FabOnly l u w) : FabOnly l s w := ⟨by rw [h'.1, h.1], h.2.trans h'.2⟩

theorem FabOnly.setFab (h : FabOnly l s u) (x : Fab) : FabOnly l s (u.setFab x) := h.trans ⟨rfl, .of_regs rfl⟩

theorem FabOnly.put (f : Fld) (v i j : Nat) (hf : f ∈ l) (h : FabOnly l s u) : FabOnly l s (u.put f v i j) :=
  h.trans ⟨rfl, .put f v i j hf (.refl l u)⟩

theorem FabOnly.regsOnly (h : FabOnly l s u) (h' : RegsOnly l u w) : FabOnly l s w := h.trans ⟨by rw [h'.1], h'.2⟩

/-- The same with the fabric named. -/
theorem FabOnly.only {x : Fab} (h : FabOnly l s u) (hx : u.fab = x) : Only l s u { s with regs := u.regs, fab := x } := hx ▸ h

@[simp] theorem State.get_setFab (s : State) (x : Fab) (f : Fld) (i j : Nat) : (s.setFab x).get f i j = s.get f i j := rfl

end

/-! ### Access to the block and its check (R260) -/

section
variable {s t : State} {a : Nat} {x : FabWrite}

/-- Whether an access reaches its register is a matter of the module's phase and of its link. -/
theorem State.responds_congr (hsys : t.sys = s.sys) (hhst : t.hst = s.hst) (hstage : t.get Reg.BOOT_STATUS_STAGE = s.get Reg.BOOT_STATUS_STAGE)
    (a : Nat) : t.responds a = s.responds a := by
  simp only [State.responds, State.pcieUp, hsys, hhst, hstage]

theorem State.checkDone_of_none (h : s.fab.check = none) : s.checkDone = s := by simp only [State.checkDone, h]

/-- The state in which the fabric check has ended and its write has not been applied yet. -/
def State.checkEnded (s : State) : State := (s.setFab { s.fab with check := none }).put Reg.FAB_STATUS_CHECKING 0

theorem State.checkDone_of_some (h : s.fab.check = some x) :
    s.checkDone = if (s.checkEnded.fab.apply x).ok then (s.checkEnded.setFab (s.checkEnded.fab.apply x)).showDepth
      else (s.checkEnded.put Reg.FAB_STATUS_ERR 6).put Reg.FAB_INT_REFUSED 1 := by
  simp only [State.checkDone, h]
  rfl

/-- Shown depths are registers of the block alone (R265). -/
theorem State.showDepth_regsOnly (s : State) : RegsOnly [Reg.FAB_STATUS_DEPTH, Reg.FAB_COND_MAP_DEPTH] s s.showDepth :=
  (RegsOnly.put s _ _ _ _ (.head _)).trans (.each (fun u _ _ => .put u _ _ _ _ (.tail _ (.head _))) _)

theorem State.showDepth_fab (s : State) : s.showDepth.fab = s.fab := by rw [s.showDepth_regsOnly.1]

theorem State.get_showDepth {f : Fld} (h : f.id ∉ [Reg.FAB_STATUS_DEPTH, Reg.FAB_COND_MAP_DEPTH].map (·.id)) (i j : Nat) :
    s.showDepth.get f i j = s.get f i j := s.showDepth_regsOnly.2 f i j h

@[simp] theorem Fab.apply_check (f : Fab) (x : FabWrite) : (f.apply x).check = f.check := by cases x <;> rfl

/-- What the end of a check changes. -/
def checkFields : List Fld :=
  [Reg.FAB_STATUS_CHECKING, Reg.FAB_STATUS_ERR, Reg.FAB_INT_REFUSED, Reg.FAB_STATUS_DEPTH, Reg.FAB_COND_MAP_DEPTH]

theorem State.checkEnded_only {l : List Fld} (h : Reg.FAB_STATUS_CHECKING ∈ l) : FabOnly l s s.checkEnded :=
  ((FabOnly.refl l s).setFab _).put _ _ _ _ h

theorem State.checkDone_only (s : State) : FabOnly checkFields s s.checkDone := by
  cases h : s.fab.check with
  | none => rw [State.checkDone_of_none h]; exact .refl _ s
  | some x =>
    rw [State.checkDone_of_some h]
    split
    · exact ((State.checkEnded_only (by decide)).setFab _).regsOnly ((State.showDepth_regsOnly _).mono (by decide))
    · exact ((State.checkEnded_only (by decide)).put _ _ _ _ (by decide)).put _ _ _ _ (by decide)

theorem State.checkDone_check (s : State) : s.checkDone.fab.check = none := by
  cases h : s.fab.check with
  | none => rwa [State.checkDone_of_none h]
  | some x =>
    rw [State.checkDone_of_some h]
    split
    · rw [State.showDepth_fab, State.setFab_fab, Fab.apply_check]; rfl
    · rfl

theorem State.responds_checkDone (s : State) (a : Nat) : s.checkDone.responds a = s.responds a :=
  have h := s.checkDone_only
  State.responds_congr (by rw [h.1]) (by rw [h.1]) (h.2 _ _ _ (by decide)) a

/-- An access that reaches the block while no check is under way has its effect. -/
theorem State.fabBar_of_responds (hr : s.responds a = true) (hc : s.fab.check = none) (f : State → State) : s.fabBar a f = f s := by
  rw [State.fabBar, State.bar_of_responds hr, State.checkDone_of_none hc]

/-- An access to the block is taken when the check under way has ended. -/
theorem State.fabBar_checkDone (hr : s.responds a = true) (f : State → State) : s.fabBar a f = s.checkDone.fabBar a f := by
  rw [State.fabBar_of_responds ((s.responds_checkDone a).trans hr) s.checkDone_check, State.fabBar, State.bar_of_responds hr]

/-- A check that ends with a fabric that passes applies its write; else the write is refused with ERR 0x6. -/
theorem fabricCheckDone_of_some (h : s.fab.check = some x) : Does .fabricCheckDone s fun t =>
    let f := ({ s.fab with check := none } : Fab).apply x
    t.get Reg.FAB_STATUS_CHECKING = 0 ∧
    (f.ok = true → t.fab = f ∧
      Only [Reg.FAB_STATUS_CHECKING, Reg.FAB_STATUS_DEPTH, Reg.FAB_COND_MAP_DEPTH] s t { s with regs := t.regs, fab := f }) ∧
    (f.ok = false → t.get Reg.FAB_STATUS_ERR = 6 ∧ t.get Reg.FAB_INT_REFUSED = 1 ∧
      Only [Reg.FAB_STATUS_CHECKING, Reg.FAB_STATUS_ERR, Reg.FAB_INT_REFUSED] s t
        { s with regs := t.regs, fab := { s.fab with check := none } }) := by
  have e : exec .fabricCheckDone s = .next s.checkDone := rfl
  rw [State.checkDone_of_some h] at e
  cases hok : (s.checkEnded.fab.apply x).ok with
  | true =>
    rw [if_pos hok] at e
    refine .of_next e ⟨?_, fun _ => ⟨State.showDepth_fab _, ?_⟩, fun hbad => absurd (hok.symm.trans hbad) (by decide)⟩
    · rw [State.get_showDepth (by decide), State.get_setFab]
      exact State.get_put_self ..
    · refine FabOnly.only ?_ (State.showDepth_fab _)
      exact ((State.checkEnded_only (.head _)).setFab _).regsOnly ((State.showDepth_regsOnly _).mono fun _ hf => .tail _ hf)
  | false =>
    rw [if_neg (ne_true_of_eq_false hok)] at e
    refine .of_next e ⟨?_, fun hgood => absurd (hok.symm.trans hgood) (by decide), fun _ => ⟨?_, State.get_put_self .., ?_⟩⟩
    · rw [State.get_put_of_id _ _ _ _ _ _ _ _ (by decide), State.get_put_of_id _ _ _ _ _ _ _ _ (by decide)]
      exact State.get_put_self ..
    · rw [State.get_put_of_id _ _ _ _ _ _ _ _ (by decide)]
      exact State.get_put_self ..
    · exact FabOnly.only (((State.checkEnded_only (by decide)).put _ _ _ _ (by decide)).put _ _ _ _ (by decide)) rfl

end

/-! ### Cones and idle groups (R248, R259) -/

section
variable {s t : State}

/-- The wicks a wick selects are a matter of the entries and the group inputs. -/
theorem Fab.selects_congr {f f' : Fab} (hw : f'.wicks = f.wicks) (hg : f'.gin = f.gin) (w : Nat) : f'.selects w = f.selects w := by
  obtain ⟨⟩ := f
  obtain ⟨⟩ := f'
  dsimp only at hw hg
  subst hw hg
  rfl

theorem Fab.reach_congr {f f' : Fab} (hw : f'.wicks = f.wicks) (hg : f'.gin = f.gin) (n : Nat) (l : List Nat) :
    f'.reach n l = f.reach n l := by
  induction n generalizing l with
  | zero => rfl
  | succ n ih => rw [Fab.reach, Fab.reach, ih, funext (Fab.selects_congr hw hg)]

/-- The fields that say which groups the enabled conditions hold. -/
def coneFields : List Fld := [Reg.TRG_COND_CFG_EN, Reg.FAB_COND_MAP_VALID, Reg.FAB_COND_MAP_WICK]

/-- Two states have the same entries and group inputs, and their conditions the same wicks and enables. -/
structure SameCones (s t : State) : Prop where
  wicks : t.fab.wicks = s.fab.wicks
  gin : t.fab.gin = s.fab.gin
  shadow : t.shadow = s.shadow
  get : ∀ f ∈ coneFields, ∀ i j, t.get f i j = s.get f i j

theorem SameCones.cone (h : SameCones s t) (c : Nat) : t.cone c = s.cone c := by
  unfold State.cone State.flag
  rw [h.wicks, Fab.reach_congr h.wicks h.gin, h.get _ (.tail _ (.head _)), h.get _ (.tail _ (.tail _ (.head _)))]

theorem SameCones.condEn (h : SameCones s t) (c : Nat) : t.condEn c = s.condEn c := by
  simp only [State.condEn, State.flag, State.shadowOf, h.shadow, h.get _ (.head _)]

/-- A group is idle in both or in neither, where a reload holds it in both or in neither. -/
theorem SameCones.groupIdle (h : SameCones s t) {g : Nat} (hr : t.reloadHolds g = s.reloadHolds g) : t.groupIdle g = s.groupIdle g := by
  simp only [State.groupIdle, hr, h.cone, h.condEn]

/-- The condition outputs are a matter of the latched outputs and the map. -/
theorem State.condOutputs_congr (hout : t.fab.out = s.fab.out) (hget : ∀ f ∈ coneFields, ∀ i j, t.get f i j = s.get f i j) :
    t.condOutputs = s.condOutputs :=
  List.foldl_ext _ _ _ fun _ _ _ => by
    rw [State.flag, State.flag, hout, hget _ (.tail _ (.head _)), hget _ (.tail _ (.tail _ (.head _)))]

end

end Sys2Proof.Machine
end

/-! ## Waves and writes of the fabric -/

section
namespace Sys2Proof.Machine

/-! ### Waves (R244, R246) -/

section
variable {s u : State} {w : Wave}

/-- What a slow wave changes. -/
def slowFields : List Fld := [Reg.FAB_SLOW_COUNT, Reg.FAB_INT_SLOW, Reg.FAB_INT_CNT_SAT]

theorem State.slowWave_regsOnly (s : State) : RegsOnly slowFields s s.slowWave :=
  (RegsOnly.bump s _ _ _ _ _ _ (by decide) (by decide)).trans (.put _ _ _ _ _ (by decide))

theorem State.slowWave_int (s : State) : s.slowWave.get Reg.FAB_INT_SLOW = 1 := State.get_put_self ..

theorem State.slowWave_count (s : State) : s.slowWave.get Reg.FAB_SLOW_COUNT = min (2 ^ 32 - 1) (s.get Reg.FAB_SLOW_COUNT + 1) := by
  rw [State.slowWave, State.get_put_of_id _ _ _ _ _ _ _ _ (by decide), State.bump_get _ _ _ _ _ _ _ (by decide), Nat.min_comm]
  rfl

/-- A reference edge while a wave is under way: it is slow, and counted the first time. -/
theorem fabricWaveLaunch_of_slow (h : s.fab.wave = some w) (hslow : w.slow = true) : Does .fabricWaveLaunch s fun t => t = s := by
  refine .of_next (t := s) ?_ rfl
  simp only [exec, execFabricWaveLaunch, h, hslow, if_true]

theorem fabricWaveLaunch_of_late (h : s.fab.wave = some w) (hslow : w.slow = false) : Does .fabricWaveLaunch s fun t =>
    t.fab.wave = some { w with slow := true } ∧
    t.get Reg.FAB_SLOW_COUNT = min (2 ^ 32 - 1) (s.get Reg.FAB_SLOW_COUNT + 1) ∧ t.get Reg.FAB_INT_SLOW = 1 ∧
    Only slowFields s t { s with regs := t.regs, fab := { s.fab with wave := t.fab.wave } } := by
  let u := s.setFab { s.fab with wave := some { w with slow := true } }
  have e : exec .fabricWaveLaunch s = .next u.slowWave := by
    simp only [exec, execFabricWaveLaunch, h, hslow, Bool.false_eq_true, if_false]
    rfl
  have hfab : u.slowWave.fab = { s.fab with wave := some { w with slow := true } } := by rw [u.slowWave_regsOnly.1]; rfl
  refine .of_next e ⟨by rw [hfab], u.slowWave_count, u.slowWave_int, ?_⟩
  rw [hfab]
  exact (((FabOnly.refl slowFields s).setFab _).regsOnly u.slowWave_regsOnly).only hfab

/-- The wave a reference edge launches. -/
theorem fabricWaveLaunch_of_none (h : s.fab.wave = none) : Does .fabricWaveLaunch s fun t =>
    (∃ w, t.fab.wave = some w ∧ w.at_ = s.dtRef ∧ w.slow = false ∧ w.out = s.fab.settle s.level ∧
      w.seen = (s.trg.pulses.filter fun x => s.level x.prim && !x.old).map fun x => (x.prim, x.ev)) ∧
    t.trg.pulses = s.trg.pulses.map (fun x => if s.level x.prim then { x with taken := true } else x) ∧ t.evt.tap = [false, false, false, false] ∧
    t = { s with fab := { s.fab with wave := t.fab.wave }, trg := { s.trg with pulses := t.trg.pulses }, evt := { s.evt with tap := t.evt.tap } } := by
  have e := show exec .fabricWaveLaunch s = execFabricWaveLaunch s from rfl
  simp only [execFabricWaveLaunch, h] at e
  exact .of_next e ⟨⟨_, rfl, rfl, rfl, rfl, rfl⟩, rfl, rfl, rfl⟩

/-- A wave shows: the wicks latch its outputs, and the condition outputs and the events it took follow. -/
def State.latch (s : State) (w : Wave) : State :=
  let s := s.setFab { s.fab with out := w.out, prevLut := w.lut, wave := none }
  { s with trg := { s.trg with out := s.condOutputs, seen := w.seen ++ s.trg.seen.filter fun e => !(w.seen.any fun x => x.1 == e.1) } }

theorem execWaveComplete_of_some (h : s.fab.wave = some w) :
    execWaveComplete s = .next ((s.cond (!w.slow && decide (w.at_ < s.dtRef)) State.slowWave).latch w) := by
  simp only [execWaveComplete, h]
  rfl

/-- A wave that completes by the edge after its launch. -/
theorem waveComplete_of_inTime (h : s.fab.wave = some w) (ht : s.dtRef ≤ w.at_) : Does .waveComplete s fun t =>
    t.fab = { s.fab with out := w.out, prevLut := w.lut, wave := none } ∧ t.trg.out = (s.setFab t.fab).condOutputs ∧
    (∀ e ∈ w.seen, e ∈ t.trg.seen) ∧ t = { s with fab := t.fab, trg := { s.trg with out := t.trg.out, seen := t.trg.seen } } := by
  have e := execWaveComplete_of_some h
  rw [decide_eq_false (Nat.not_lt.2 ht), Bool.and_false, State.cond_false] at e
  exact .of_next e ⟨rfl, State.condOutputs_congr rfl fun _ _ _ _ => rfl, fun _ => List.mem_append_left _, rfl⟩

/-- A wave that completes later, and has not been counted, is counted as slow. -/
theorem waveComplete_of_late (h : s.fab.wave = some w) (hslow : w.slow = false) (ht : w.at_ < s.dtRef) : Does .waveComplete s fun t =>
    t.get Reg.FAB_SLOW_COUNT = min (2 ^ 32 - 1) (s.get Reg.FAB_SLOW_COUNT + 1) ∧ t.get Reg.FAB_INT_SLOW = 1 ∧
    t.fab = { s.fab with out := w.out, prevLut := w.lut, wave := none } ∧ t.trg.out = (s.setFab t.fab).condOutputs ∧
    Only slowFields s t { s with regs := t.regs, fab := t.fab, trg := { s.trg with out := t.trg.out, seen := t.trg.seen } } := by
  have e := execWaveComplete_of_some h
  rw [decide_eq_true ht, hslow, Bool.not_false, Bool.and_self, State.cond_true] at e
  obtain ⟨heq, honly⟩ := s.slowWave_regsOnly
  have hfab : s.slowWave.fab = s.fab := by rw [heq]
  refine .of_next e ⟨s.slowWave_count, s.slowWave_int, ?_, ?_, ?_, honly⟩
  · exact congrArg (fun f : Fab => { f with out := w.out, prevLut := w.lut, wave := none }) hfab
  · exact State.condOutputs_congr rfl fun f hf i j => honly f i j (by revert f; decide)
  · generalize s.slowWave = u at *
    generalize u.regs = r at heq
    subst heq
    rfl

end

/-! ### Writes (R259, R260) -/

section
variable {s : State} {g val : Nat} {same : Bool} {x : FabWrite}

theorem State.fabWrite_of_same (s : State) : s.fabWrite g true x = s := rfl

theorem State.fabWrite_of_idle (h : s.groupIdle g = true) :
    s.fabWrite g false x = (s.setFab { s.fab with check := some x }).put Reg.FAB_STATUS_CHECKING 1 := if_pos h

theorem State.fabWrite_of_busy (h : s.groupIdle g = false) : s.fabWrite g false x = s.put Reg.FAB_INT_REFUSED 1 := by
  simp only [State.fabWrite, h, Bool.false_eq_true, if_false]

/-- The words held for a wick's entry have no part in what is idle. -/
theorem State.groupIdle_dropHeld (s : State) (g : Nat) : s.dropHeld.groupIdle g = s.groupIdle g :=
  have h : SameCones s s.dropHeld := ⟨rfl, rfl, rfl, fun _ _ _ _ => rfl⟩
  h.groupIdle rfl

/-- The entry that a write of FAB_WICK_CFG_HI submits: the words held, and for a word not written the one in force. -/
def State.submitted (s : State) (w val : Nat) : Wick :=
  { lut := s.fab.lutLo.getD ((s.fab.wick w).lut % 2 ^ 32) + s.fab.lutHi.getD ((s.fab.wick w).lut / 2 ^ 32) * 2 ^ 32
    cfg := s.fab.cfgLo.getD ((s.fab.wick w).cfg % 2 ^ 32) + val % 2 ^ 19 * 2 ^ 32 }

theorem exec_wickWrite (hr : s.responds 0x180018 = true) (hc : s.fab.check = none) : exec (.wickWrite val) s =
    .next (s.dropHeld.fabWrite (s.get Reg.FAB_WICK_SEL_WICK / 64)
      (decide (s.submitted (s.get Reg.FAB_WICK_SEL_WICK) val = s.fab.wick (s.get Reg.FAB_WICK_SEL_WICK)))
      (.wick (s.get Reg.FAB_WICK_SEL_WICK) (s.submitted (s.get Reg.FAB_WICK_SEL_WICK) val))) :=
  congrArg Host.Outcome.next (State.fabBar_of_responds hr hc _)

theorem wickWrite_of_idle {w : Nat} (hr : s.responds 0x180018 = true) (hc : s.fab.check = none) (hw : s.get Reg.FAB_WICK_SEL_WICK = w)
    (hg : s.groupIdle (w / 64) = true) (hne : s.submitted w val ≠ s.fab.wick w) : Does (.wickWrite val) s fun t =>
      t.fab = { s.fab with lutLo := none, lutHi := none, cfgLo := none, check := some (.wick w (s.submitted w val)) } ∧
      t.get Reg.FAB_STATUS_CHECKING = 1 ∧ Only [Reg.FAB_STATUS_CHECKING] s t { s with regs := t.regs, fab := t.fab } := by
  subst hw
  have e := exec_wickWrite (val := val) hr hc
  rw [decide_eq_false hne, State.fabWrite_of_idle ((s.groupIdle_dropHeld _).trans hg)] at e
  exact .of_next e ⟨rfl, State.get_put_self .., (((FabOnly.refl _ s).setFab _).setFab _).put _ _ _ _ (.head _)⟩

theorem wickWrite_of_same {w : Nat} (hr : s.responds 0x180018 = true) (hc : s.fab.check = none) (hw : s.get Reg.FAB_WICK_SEL_WICK = w)
    (heq : s.submitted w val = s.fab.wick w) :
    Does (.wickWrite val) s fun t => t = { s with fab := { s.fab with lutLo := none, lutHi := none, cfgLo := none } } := by
  subst hw
  have e := exec_wickWrite (val := val) hr hc
  rw [decide_eq_true heq, State.fabWrite_of_same] at e
  exact .of_next e rfl

/-- A low word of the LUT that differs from the one in force makes another entry, whatever stands in the high word. -/
theorem State.submitted_ne {w : Nat} (h : s.fab.lutLo = some ((s.fab.wick w).lut % 2 ^ 32 + 1)) : s.submitted w val ≠ s.fab.wick w := by
  intro e
  have hlut : (s.fab.wick w).lut % 2 ^ 32 + 1 + s.fab.lutHi.getD ((s.fab.wick w).lut / 2 ^ 32) * 2 ^ 32 = (s.fab.wick w).lut := by
    have := congrArg Wick.lut e
    simpa only [State.submitted, h, Option.getD_some] using this
  omega

theorem wickWrite_of_busy (hr : s.responds 0x180018 = true) (hc : s.fab.check = none)
    (hg : s.groupIdle (s.get Reg.FAB_WICK_SEL_WICK / 64) = false)
    (hne : s.submitted (s.get Reg.FAB_WICK_SEL_WICK) val ≠ s.fab.wick (s.get Reg.FAB_WICK_SEL_WICK)) : Does (.wickWrite val) s fun t =>
      t.fab = { s.fab with lutLo := none, lutHi := none, cfgLo := none } ∧ t.get Reg.FAB_INT_REFUSED = 1 ∧
      Only [Reg.FAB_INT_REFUSED] s t { s with regs := t.regs, fab := t.fab } := by
  have e := exec_wickWrite (val := val) hr hc
  rw [decide_eq_false hne, State.fabWrite_of_busy ((s.groupIdle_dropHeld _).trans hg)] at e
  exact .of_next e ⟨rfl, State.get_put_self .., ((FabOnly.refl _ s).setFab _).put _ _ _ _ (.head _)⟩

/-- A write of FAB_GIN_DATA goes to the input selected. -/
theorem Does.of_groupInputWrite {k : Nat} {P : State → Prop} (hr : s.responds 0x180020 = true) (hc : s.fab.check = none)
    (hg : s.get Reg.FAB_GIN_SEL_GROUP = g) (hk : g * 64 + s.get Reg.FAB_GIN_SEL_INPUT = k)
    (h : P (s.fabWrite g (s.fab.input k == val % 65536) (.gin k (val % 65536)))) : Does (.groupInputWrite val) s P := by
  subst hg hk
  exact .of_next (congrArg Host.Outcome.next (State.fabBar_of_responds hr hc _)) h

/-- The counters clear. -/
theorem fabCntClr_of_responds (hr : s.responds 0x180198 = true) (hc : s.fab.check = none) : Does .fabCntClr s fun t =>
    t.get Reg.FAB_SLOW_COUNT = 0 ∧ t.get Reg.FAB_SEU_CORR = 0 ∧ t.get Reg.FAB_SEU_UNCORR = 0 ∧
    RegsOnly [Reg.FAB_SLOW_COUNT, Reg.FAB_SEU_CORR, Reg.FAB_SEU_UNCORR] s t := by
  refine .of_next (congrArg Host.Outcome.next (State.fabBar_of_responds hr hc _)) ⟨?_, ?_, State.get_put_self .., ?_⟩
  · rw [State.get_put_of_id _ _ _ _ _ _ _ _ (by decide), State.get_put_of_id _ _ _ _ _ _ _ _ (by decide)]
    exact State.get_put_self ..
  · rw [State.get_put_of_id _ _ _ _ _ _ _ _ (by decide)]
    exact State.get_put_self ..
  · exact (RegsOnly.put s _ _ _ _ (by decide)).trans ((RegsOnly.put _ _ _ _ _ (by decide)).trans (.put _ _ _ _ _ (by decide)))

end

/-- Settles O24: a wave from its launch to its completion, writes of an entry and of a group input, the check's end, and the counters. -/
theorem fabricWaves : Obligations.FabricWaves := by
  unfold Obligations.FabricWaves
  refine ⟨fun _ => fabricWaveLaunch_of_none, fun _ _ => fabricWaveLaunch_of_slow, fun _ _ => waveComplete_of_late,
    fun _ _ => fabricWaveLaunch_of_late, fun _ _ => waveComplete_of_inTime, ?_, ?_, ?_, fun _ _ => fabricCheckDone_of_some, ?_,
    fun _ => fabCntClr_of_responds⟩
  · exact fun w val s hr hc hw hg => ⟨wickWrite_of_idle hr hc hw hg, wickWrite_of_same hr hc hw⟩
  · exact fun val s hr hc hg hlo => wickWrite_of_busy hr hc hg (State.submitted_ne hlo)
  · intro val g k s hr hc hg hk
    refine ⟨fun h => .of_groupInputWrite hr hc hg hk ?_, fun h hi => .of_groupInputWrite hr hc hg hk ?_,
      fun h hi => .of_groupInputWrite hr hc hg hk ?_⟩
    · rw [beq_iff_eq.2 h, State.fabWrite_of_same]
    · rw [beq_eq_false_iff_ne.2 h, State.fabWrite_of_idle hi]
      rfl
    · rw [beq_eq_false_iff_ne.2 h, State.fabWrite_of_busy hi]
  · intro val s hwick hgin hclr habort hctrl hprog
    have hbar {a : Nat} (hr : s.responds a = true) (b : Bool) (f : State → State) : need b (s.fabBar a f) = need b (s.checkDone.fabBar a f) :=
      congrArg (need b) (State.fabBar_checkDone hr f)
    simp only [List.mem_cons, List.not_mem_nil, or_false, forall_eq_or_imp, forall_eq]
    exact ⟨hbar hwick true _, hbar hgin true _, hbar hclr true _, hbar habort _ _, hbar hctrl _ _, hbar hctrl _ _, hbar hctrl _ _,
      hbar hprog _ _, hbar hprog _ _⟩

end Sys2Proof.Machine
end

/-! ## Guarded writes -/

section
namespace Sys2Proof.Machine

section
variable {s : State} {kind result a old v act cause arg : Nat} {roles : List Nat}

/-- A session whose idle time is not over stays as it is (R521). -/
theorem State.idleClose_of_live (h : s.sessionLive) : s.idleClose = s := by
  have hidle : (s.get Reg.GEN_SESS_STATUS_STATE = 2 &&
      decide (s.sess.lastWrite + 250000000 * max 1 (s.get Reg.GEN_SESS_CFG_IDLE) ≤ s.dtRef)) = false := by
    rw [decide_eq_false (Nat.not_le.2 h), Bool.and_false]
  exact if_neg (ne_true_of_eq_false hidle)

/-- An entry of the audit queue that finds room. -/
def State.queued (s : State) (e : AudEntry) (w : Option (Nat × Nat)) : State :=
  { s with aud := { s.aud with queue := s.aud.queue ++ [{ entry := e, write := w }] } }

theorem State.auditPush_of_room (h : s.aud.queue.length < 32) (e : AudEntry) (w : Option (Nat × Nat)) :
    s.auditPush e w = (s.queued e w).put Reg.GEN_AUD_STATUS_PEND (s.aud.queue.length + 1) := by
  have hlen : (s.queued e w).aud.queue.length = s.aud.queue.length + 1 := List.length_append
  rw [← hlen]
  exact if_pos h

/-- A write by one of its roles that finds no cause against it is entered in the audit queue and waits (R528). -/
theorem State.guarded_waits (hlive : s.sessionLive) (hrole : roles.contains s.role = true) (hq : s.aud.queue.length < 32) :
    Waits kind a old v act arg s (s.guarded kind a old v act roles 0 arg) := by
  let u : State := { s with sess := { s.sess with lastWrite := s.dtRef } }
  have e : s.guarded kind a old v act roles 0 arg =
      (u.queued (s.auditEntry kind 0 a old v arg) (some (a, act))).put Reg.GEN_AUD_STATUS_PEND (s.aud.queue.length + 1) := by
    simp only [State.guarded, State.idleClose_of_live hlive, hrole, if_true, ne_eq, not_true_eq_false, if_false]
    exact (if_neg (Nat.not_le.2 hq)).trans (State.auditPush_of_room (s := u) hq _ _)
  rw [e]
  refine ⟨rfl, ⟨rfl, .put _ _ _ _ (.head _) (.of_regs rfl)⟩, ?_⟩
  rw [State.get_put_self]
  exact trunc_of_lt (show s.aud.queue.length + 1 < 64 by omega)

/-- A write without effect shows in GEN_INT.REFUSED and in an entry, if the queue has room (R531). -/
theorem State.refuseGuarded_refused : RefusedWrite kind result a old v s (s.refuseGuarded kind result a old v) := by
  let u := s.put Reg.GEN_INT_REFUSED 1
  let e := s.auditEntry kind result a old v 0
  have he : s.refuseGuarded kind result a old v = u.auditPush e none := rfl
  have hpush {l : List Fld} (hl : ∀ f ∈ auditFields, f ∈ l) : OnlyFields l u (u.auditPush e none) :=
    .auditPush _ _ (hl _ (by decide)) (hl _ (by decide)) (hl _ (by decide)) (.refl l u)
  rw [he]
  refine ⟨?_, ⟨?_, ?_⟩, fun hq => ?_⟩
  · rw [hpush (fun _ h => h) _ _ _ (by decide)]
    exact State.get_put_self ..
  · rw [u.auditPush_eq e none]
    rfl
  · exact (OnlyFields.put Reg.GEN_INT_REFUSED 1 0 0 (.head _) (.refl _ s)).trans (hpush fun _ h => .tail _ h)
  · rw [State.auditPush_of_room (s := u) hq]
    rfl

/-- A write by no role of its field is refused with RESULT 0x1. -/
theorem State.guarded_refused (hlive : s.sessionLive) (hrole : roles.contains s.role = false) :
    RefusedWrite kind 1 a old v s (s.guarded kind a old v act roles cause arg) := by
  have e : s.guarded kind a old v act roles cause arg = s.refuseGuarded kind 1 a old v := by
    simp only [State.guarded, State.idleClose_of_live hlive, hrole, Bool.false_eq_true, if_false, ne_eq, one_ne_zero, not_false_eq_true,
      if_true]
  rw [e]
  exact State.refuseGuarded_refused

end

end Sys2Proof.Machine
end

/-! ## Image slots -/

section
namespace Sys2Proof.Machine

/-! ### FAB_IMG_CTRL and FAB_IMG_PROG (R256, R258, R531) -/

section
variable {s : State} {val : Nat}

/-- A guarded access to the block with no check under way has its effect. -/
theorem Does.of_fabBar {c : Instr} {P : State → Prop} {b : Bool} {a : Nat} {f : State → State} (e : exec c s = need b (s.fabBar a f))
    (hb : b = true) (hr : s.responds a = true) (hc : s.fab.check = none) (h : P (f s)) : Does c s P :=
  .of_need e hb (by rwa [State.fabBar_of_responds hr hc])

theorem contains_role_iff : [1].contains s.role = true ↔ s.role = 1 := by simp

/-- A write of FAB_IMG_CTRL by the Owner waits, unless it names an invalid slot and does nothing else. -/
theorem State.imgCtrlWrite_waits (hlive : s.sessionLive) (hrole : s.role = 1) (hq : s.aud.queue.length < 32)
    (h : (s.slot (bits val 0 1)).valid = true ∨ val.testBit 1 = true ∨ val.testBit 2 = true ∧ s.flag Reg.FAB_IMG_ACTIVE_TRIAL_RUN = true) :
    Waits 1 0x180230 s.imgCtrlWord val val (s.slot (bits val 0 1)).id s (s.imgCtrlWrite val) := by
  have hidle : (!(s.slot (bits val 0 1)).valid && !bit val 1 && !(bit val 2 && s.flag Reg.FAB_IMG_ACTIVE_TRIAL_RUN)) = false := by
    rcases h with h | h | ⟨h, h'⟩
    · rw [h]; rfl
    · rw [show bit val 1 = true from h, Bool.not_true, Bool.and_false, Bool.false_and]
    · rw [show bit val 2 = true from h, h', Bool.and_self, Bool.not_true, Bool.and_false]
  have e : s.imgCtrlWrite val = s.guarded 1 0x180230 s.imgCtrlWord val val [1] 0 (s.slot (bits val 0 1)).id := by
    rw [State.imgCtrlWrite, hidle]
    rfl
  rw [e]
  exact State.guarded_waits hlive (contains_role_iff.2 hrole) hq

theorem State.imgProgWrite_waits (hlive : s.sessionLive) (hrole : s.role = 1) (hq : s.aud.queue.length < 32) :
    Waits 1 0x180234 s.imgProgWord val val (s.slot (bits val 1 1)).id s (s.imgProgWrite val) :=
  State.guarded_waits hlive (contains_role_iff.2 hrole) hq

/-- A write of FAB_IMG_CTRL by another role, or outside a session, is refused. -/
theorem State.imgCtrlWrite_refused (hlive : s.sessionLive) (hrole : s.role ≠ 1) :
    RefusedWrite 1 1 0x180230 s.imgCtrlWord val s (s.imgCtrlWrite val) :=
  State.guarded_refused hlive (eq_false_of_ne_true (mt contains_role_iff.1 hrole))

end

/-! ### Programming (R258) -/

section
variable {s : State} {k err val : Nat}

/-- Programming under way is over, with its error shown. -/
def State.progOver (s : State) (err : Nat) : State :=
  ((s.setFab { s.fab with prog := none, progErr := 0 }).put Reg.FAB_IMG_PROG_START 0).put Reg.FAB_IMG_PROG_STATUS_ERR err

theorem State.progEnd_of_zero (s : State) :
    s.progEnd 0 = ((s.progOver 0).put Reg.FAB_IMG_PROG_STATUS_STATE 4).put Reg.FAB_INT_PROG_DONE 1 := rfl

theorem State.progEnd_of_ne (h : err ≠ 0) :
    s.progEnd err = ((s.progOver err).put Reg.FAB_IMG_PROG_STATUS_STATE 5).put Reg.FAB_INT_PROG_ERR 1 := if_neg h

theorem State.progEnd_fab (s : State) (err : Nat) : (s.progEnd err).fab = { s.fab with prog := none, progErr := 0 } := by
  unfold State.progEnd
  split <;> rfl

theorem State.progEnd_store (s : State) (err : Nat) : (s.progEnd err).store = s.store := by
  unfold State.progEnd
  split <;> rfl

/-- What the end of programming shows leaves its error and START as they are. -/
theorem State.get_progEnd {f : Fld} (h : f.id ∉ [Reg.FAB_IMG_PROG_STATUS_STATE, Reg.FAB_INT_PROG_DONE, Reg.FAB_INT_PROG_ERR].map (·.id))
    (err i j : Nat) : (s.progEnd err).get f i j = (s.progOver err).get f i j := by
  have hend : OnlyFields [Reg.FAB_IMG_PROG_STATUS_STATE, Reg.FAB_INT_PROG_DONE, Reg.FAB_INT_PROG_ERR] (s.progOver err) (s.progEnd err) :=
    .ite (.put _ _ _ _ (by decide) (.put _ _ _ _ (by decide) (.refl _ _))) (.put _ _ _ _ (by decide) (.put _ _ _ _ (by decide) (.refl _ _)))
  exact hend f i j h

theorem State.progEnd_err (h : err < 16) : (s.progEnd err).get Reg.FAB_IMG_PROG_STATUS_ERR = err := by
  rw [State.get_progEnd (by decide), State.progOver, State.get_put_self]
  exact trunc_of_lt h

theorem State.progEnd_start (s : State) (err : Nat) : (s.progEnd err).get Reg.FAB_IMG_PROG_START = 0 := by
  rw [State.get_progEnd (by decide), State.progOver, State.get_put_of_id _ _ _ _ _ _ _ _ (by decide), State.get_put_self]
  rfl

theorem State.progOver_only {l : List Fld} (hs : Reg.FAB_IMG_PROG_START ∈ l) (he : Reg.FAB_IMG_PROG_STATUS_ERR ∈ l) :
    FabOnly l s (s.progOver err) := (((FabOnly.refl l s).setFab _).put _ _ _ _ hs).put _ _ _ _ he

theorem State.activeSlot_put {f : Fld} (h : Reg.FAB_IMG_ACTIVE_SLOT.id ≠ f.id) (v i j : Nat) :
    (s.put f v i j).activeSlot k = s.activeSlot k := by
  rw [State.activeSlot, State.get_put_of_id _ _ _ _ _ _ _ _ h, State.activeSlot]
  rfl

@[simp] theorem State.slot_setSlot_self (s : State) (k : Nat) (x : Slot) : (s.setSlot k x).slot k = x := by
  unfold State.slot State.setSlot
  split <;> rfl

/-- START names the slot of the active image: nothing is erased, and the programming ends with ERR 0xC. -/
theorem State.imgProg_of_active (habort : val.testBit 2 = false) (hstart : val.testBit 0 = true) (hp : s.fab.prog = none)
    (ha : s.activeSlot (bits val 1 1) = true) : s.imgProg val = (s.put Reg.FAB_IMG_PROG_SLOT (bits val 1 1)).progEnd 0xC := by
  have ha' := (State.activeSlot_put (f := Reg.FAB_IMG_PROG_SLOT) (by decide) (bits val 1 1) 0 0).trans ha
  simp only [State.imgProg, bit, habort, hstart, hp, Option.isSome_none, Bool.not_true, Bool.or_self, Bool.false_eq_true, if_false, ha', if_true]

/-- START names another slot, which becomes invalid and is erased. -/
theorem State.imgProg_of_inactive (habort : val.testBit 2 = false) (hstart : val.testBit 0 = true) (hp : s.fab.prog = none)
    (ha : s.activeSlot (bits val 1 1) = false) :
    let u := s.imgProg val
    u.fab.prog = some (bits val 1 1) ∧ (u.slot (bits val 1 1)).valid = false ∧ u.get Reg.FAB_IMG_PROG_STATUS_STATE = 1 ∧
      u.get Reg.FAB_IMG_PROG_START = 1 := by
  have ha' := (State.activeSlot_put (f := Reg.FAB_IMG_PROG_SLOT) (by decide) (bits val 1 1) 0 0).trans ha
  let u := (((s.put Reg.FAB_IMG_PROG_SLOT (bits val 1 1)).setSlot (bits val 1 1) {}).setFab
    { s.fab with prog := some (bits val 1 1), progErr := 0 })
  have e : s.imgProg val = ((((u.put Reg.FAB_IMG_PROG_START 1).put Reg.FAB_IMG_PROG_STATUS_STATE 1).put Reg.FAB_IMG_PROG_STATUS_ERR 0).put
      Reg.FAB_IMG_PROG_STATUS_PROGRESS 0) := by
    simp only [State.imgProg, bit, habort, hstart, hp, Option.isSome_none, Bool.not_true, Bool.or_self, Bool.false_eq_true, if_false, ha']
    rfl
  dsimp only
  rw [e]
  refine ⟨rfl, ?_, ?_, ?_⟩
  · exact congrArg Slot.valid (State.slot_setSlot_self (s.put Reg.FAB_IMG_PROG_SLOT (bits val 1 1)) (bits val 1 1) {})
  · rw [State.get_put_of_id _ _ _ _ _ _ _ _ (by decide), State.get_put_of_id _ _ _ _ _ _ _ _ (by decide)]
    exact State.get_put_self ..
  · rw [State.get_put_of_id _ _ _ _ _ _ _ _ (by decide), State.get_put_of_id _ _ _ _ _ _ _ _ (by decide),
      State.get_put_of_id _ _ _ _ _ _ _ _ (by decide)]
    exact State.get_put_self ..

theorem imageProgEraseDone_of_erasing (h : s.get Reg.FAB_IMG_PROG_STATUS_STATE = 1) : Does .imageProgEraseDone s fun t =>
    t = s.put Reg.FAB_IMG_PROG_STATUS_STATE 2 ∧ t.get Reg.FAB_IMG_PROG_STATUS_STATE = 2 :=
  .of_next (congrArg Host.Outcome.next (if_pos h)) ⟨rfl, State.get_put_self ..⟩

/-- The registers that record a failed block of an image section (R454). -/
def decErrorFields : List Fld :=
  [Reg.CMP_DEC_RETRY_COUNT, Reg.CMP_DEC_ERR_COUNT, Reg.CMP_INT_CNT_SAT, Reg.CMP_DEC_STATUS_ERR, Reg.CMP_DEC_STATUS_SRC, Reg.CMP_INT_DEC_ERR]

theorem State.decImageError_regsOnly (s : State) (e : Nat) : RegsOnly decErrorFields s (s.decImageError e) := by
  unfold State.decImageError
  split
  · exact .refl _ s
  · exact (RegsOnly.bump s _ _ _ _ _ _ (by decide) (by decide)).trans <| (RegsOnly.bump _ _ _ _ _ _ _ (by decide) (by decide)).trans <|
      (RegsOnly.put _ _ _ _ _ (by decide)).trans <| (RegsOnly.put _ _ _ _ _ (by decide)).trans (.put _ _ _ _ _ (by decide))

/-- The error with which the programming of a slot ends: one found on the image's way, or the first check its bytes fail (R258). -/
def State.verifyError (s : State) (k : Nat) : Nat :=
  if s.fab.progErr ≠ 0 then s.fab.progErr else imgError false (s.slot k).bytes

/-- What the slot holds once its image has passed. -/
def Slot.verified (x : Slot) : Slot :=
  { valid := true, id := leAt x.bytes 0x10 8, gen := leAt x.bytes 0x18 4, bytes := x.bytes.take (imgSize x.bytes) }

theorem exec_imageProgVerifyDone (hp : s.fab.prog = some k) (hst : s.get Reg.FAB_IMG_PROG_STATUS_STATE = 3) :
    exec .imageProgVerifyDone s = .next (((s.cond (s.verifyError k == 3) (·.decImageError (imgDecError (s.slot k).bytes))).cond
      (s.verifyError k == 0) (·.setSlot k (s.slot k).verified)).progEnd (s.verifyError k)) := by
  simp only [exec, execImageProgVerifyDone, hp, hst, ne_eq, not_true_eq_false, if_false]
  rfl

/-- An image that passes makes its slot valid. -/
theorem imageProgVerifyDone_of_good (hk : k < 2) (hp : s.fab.prog = some k) (hst : s.get Reg.FAB_IMG_PROG_STATUS_STATE = 3)
    (he : s.verifyError k = 0) : Does .imageProgVerifyDone s fun t =>
      t.get Reg.FAB_IMG_PROG_STATUS_ERR = 0 ∧ t.get Reg.FAB_IMG_PROG_START = 0 ∧ t.fab = { s.fab with prog := none, progErr := 0 } ∧
      (t.slot k).valid = true ∧ (t.slot k).id = leAt (s.slot k).bytes 0x10 8 ∧ (t.slot k).gen = leAt (s.slot k).bytes 0x18 4 ∧
      t.slot (1 - k) = s.slot (1 - k) ∧ t.get Reg.FAB_IMG_PROG_STATUS_STATE = 4 ∧ t.get Reg.FAB_INT_PROG_DONE = 1 ∧
      Only [Reg.FAB_IMG_PROG_STATUS_STATE, Reg.FAB_IMG_PROG_STATUS_ERR, Reg.FAB_INT_PROG_DONE, Reg.FAB_IMG_PROG_START] s t
        { s.setSlot k (t.slot k) with regs := t.regs, fab := t.fab } := by
  let u := s.setSlot k (s.slot k).verified
  have e : exec .imageProgVerifyDone s = .next (u.progEnd 0) := by
    rw [exec_imageProgVerifyDone hp hst, he]
    rfl
  have hslot (i : Nat) : (u.progEnd 0).slot i = u.slot i := by rw [State.slot, State.progEnd_store, State.slot]
  have hself : (u.progEnd 0).slot k = (s.slot k).verified := (hslot k).trans (State.slot_setSlot_self ..)
  have hother : u.slot (1 - k) = s.slot (1 - k) := by
    obtain rfl | rfl : k = 0 ∨ k = 1 := by omega
    all_goals rfl
  refine .of_next e ⟨State.progEnd_err (by decide), u.progEnd_start 0, u.progEnd_fab 0, ?_⟩
  rw [hself, hslot, hother]
  refine ⟨rfl, rfl, rfl, rfl, ?_, State.get_put_self .., rfl, ?_⟩
  · rw [State.progEnd_of_zero, State.get_put_of_id _ _ _ _ _ _ _ _ (by decide)]
    exact State.get_put_self ..
  · rw [State.progEnd_of_zero]
    have hu : OnlyFields [Reg.FAB_IMG_PROG_STATUS_STATE, Reg.FAB_IMG_PROG_STATUS_ERR, Reg.FAB_INT_PROG_DONE, Reg.FAB_IMG_PROG_START] s u := .of_regs rfl
    exact hu.trans (((State.progOver_only (by decide) (by decide)).put _ _ _ _ (by decide)).put _ _ _ _ (by decide)).2

/-- An image that fails leaves the store as it is. -/
theorem imageProgVerifyDone_of_bad (hp : s.fab.prog = some k) (hst : s.get Reg.FAB_IMG_PROG_STATUS_STATE = 3)
    (he : s.verifyError k ≠ 0) (hlt : s.verifyError k < 16) : Does .imageProgVerifyDone s fun t =>
      t.get Reg.FAB_IMG_PROG_STATUS_ERR = s.verifyError k ∧ t.get Reg.FAB_IMG_PROG_START = 0 ∧
      t.fab = { s.fab with prog := none, progErr := 0 } ∧
      t.store = s.store ∧ t.get Reg.FAB_IMG_PROG_STATUS_STATE = 5 ∧ t.get Reg.FAB_INT_PROG_ERR = 1 ∧
      (s.verifyError k ≠ 3 → Only [Reg.FAB_IMG_PROG_STATUS_STATE, Reg.FAB_IMG_PROG_STATUS_ERR, Reg.FAB_INT_PROG_ERR, Reg.FAB_IMG_PROG_START] s t
        { s with regs := t.regs, fab := t.fab }) := by
  have e := exec_imageProgVerifyDone hp hst
  rw [beq_eq_false_iff_ne.2 he, State.cond_false] at e
  generalize hu : s.cond (s.verifyError k == 3) (·.decImageError (imgDecError (s.slot k).bytes)) = u at e
  have hregs : RegsOnly decErrorFields s u := by
    rw [← hu]
    cases s.verifyError k == 3
    · exact .refl _ s
    · exact s.decImageError_regsOnly _
  refine .of_next e ⟨State.progEnd_err hlt, u.progEnd_start _, ?_, ?_, ?_, ?_, fun h3 => ?_⟩
  · rw [State.progEnd_fab, hregs.1]
  · rw [State.progEnd_store, hregs.1]
  · rw [State.progEnd_of_ne he, State.get_put_of_id _ _ _ _ _ _ _ _ (by decide)]
    exact State.get_put_self ..
  · rw [State.progEnd_of_ne he]
    exact State.get_put_self ..
  · rw [beq_eq_false_iff_ne.2 h3, State.cond_false] at hu
    subst hu
    rw [State.progEnd_of_ne he]
    exact ((State.progOver_only (by decide) (by decide)).put _ _ _ _ (by decide)).put _ _ _ _ (by decide)

end

end Sys2Proof.Machine
end

/-! ## Partial reloads -/

section
namespace Sys2Proof.Machine

/-! ### Refused and aborted (R261) -/

section
variable {s : State} {err val : Nat} {r : Reload} {b : List Nat}

/-- What a refused reload changes. -/
def refuseFields : List Fld := [Reg.FAB_STATUS_RELOAD, Reg.FAB_STATUS_ERR, Reg.FAB_INT_RELOAD_ERR]

theorem State.reloadRefuse_fab (s : State) (err : Nat) :
    (s.reloadRefuse err).fab = { s.fab with reload := none, relBytes := [], relSkip := (s.reloadRefuse err).fab.relSkip } := rfl

theorem State.reloadRefuse_only (s : State) (err : Nat) : FabOnly refuseFields s (s.reloadRefuse err) :=
  ((((FabOnly.refl _ s).setFab _).put _ _ _ _ (by decide)).put _ _ _ _ (by decide)).put _ _ _ _ (by decide)

theorem State.reloadRefuse_status (s : State) (err : Nat) : (s.reloadRefuse err).get Reg.FAB_STATUS_RELOAD = 0 := by
  unfold State.reloadRefuse
  rw [State.get_put_of_id _ _ _ _ _ _ _ _ (by decide), State.get_put_of_id _ _ _ _ _ _ _ _ (by decide)]
  exact State.get_put_self ..

theorem State.reloadRefuse_err (h : err < 16) (s : State) : (s.reloadRefuse err).get Reg.FAB_STATUS_ERR = err := by
  unfold State.reloadRefuse
  rw [State.get_put_of_id _ _ _ _ _ _ _ _ (by decide), State.get_put_self]
  exact trunc_of_lt h

theorem State.reloadRefuse_int (s : State) (err : Nat) : (s.reloadRefuse err).get Reg.FAB_INT_RELOAD_ERR = 1 := State.get_put_self ..

/-- A write of ABORT with a reload on its way refuses it. -/
theorem reloadAbort_of_reload (hval : val.testBit 0 = true) (hr : s.responds 0x180180 = true) (hc : s.fab.check = none)
    (h : s.fab.reload.isSome = true ∨ s.fab.relBytes ≠ []) : Does (.reloadAbort val) s fun t =>
      t.fab.reload = none ∧ t.fab.relBytes = [] ∧ t.get Reg.FAB_STATUS_RELOAD = 0 ∧ t.get Reg.FAB_STATUS_ERR = 0xB ∧
      t.get Reg.FAB_INT_RELOAD_ERR = 1 ∧ Only refuseFields s t
        { s with regs := t.regs, fab := { s.fab with reload := none, relBytes := [], relSkip := t.fab.relSkip } } := by
  have e : s.reloadAbort = s.reloadRefuse 0xB := if_pos (by simpa using h)
  refine .of_fabBar rfl hval hr hc ?_
  rw [e]
  exact ⟨rfl, rfl, s.reloadRefuse_status _, State.reloadRefuse_err (by decide) s, s.reloadRefuse_int _,
    (s.reloadRefuse_only _).only (s.reloadRefuse_fab _)⟩

end

/-! ### Admission (R261) -/

section
variable {s : State} {b : List Nat} {P : State → Prop}

theorem reloadAdmit_of_short (h : s.fab.relBytes.length < 0x40 + 32 * imgNsect s.fab.relBytes) : Does .reloadAdmit s fun t => t = s :=
  .of_next (congrArg Host.Outcome.next (if_pos (by rw [decide_eq_true h, Bool.or_true]))) rfl

/-- A whole directory with no other image on its way is checked. -/
theorem reloadAdmit_cond (hr : s.fab.reload = none) (hp : s.fab.prog = none) (hlen : 0x40 + 32 * imgNsect b ≤ b.length) :
    (s.fab.reload.isSome || s.fab.prog.isSome || decide (b.length < 0x40 + 32 * imgNsect b)) = false := by
  rw [hr, hp, decide_eq_false (Nat.not_lt.2 hlen)]
  rfl

theorem reloadAdmit_of_header (hb : s.fab.relBytes = b) (hr : s.fab.reload = none) (hp : s.fab.prog = none)
    (hlen : 0x40 + 32 * imgNsect b ≤ b.length) (hhead : imgHeaderOk b = false) (h : P (s.reloadRefuse 1)) : Does .reloadAdmit s P := by
  refine .of_next ?_ h
  simp only [exec, execReloadAdmit, hb, reloadAdmit_cond hr hp hlen, hhead, Bool.not_false, if_true, Bool.false_eq_true, if_false]

/-- The state in which a reload whose directory has passed waits for its groups. -/
def State.reloadTaken (s : State) (b : List Nat) : State :=
  (s.setFab { s.fab with reload := some { bytes := b, groups := [], wicks := [], gin := [], conds := [] }, relBytes := [] }).put
    Reg.FAB_STATUS_RELOAD 1

theorem exec_reloadAdmit_of_directory (hb : s.fab.relBytes = b) (hr : s.fab.reload = none) (hp : s.fab.prog = none)
    (hlen : 0x40 + 32 * imgNsect b ≤ b.length) (hhead : imgHeaderOk b = true) (hsize : imgSize b ≤ imgMax) (hdir : imgDirOk true b = true) :
    exec .reloadAdmit s = .next (s.reloadTaken b).reloadFollow := by
  simp only [exec, execReloadAdmit, hb, reloadAdmit_cond hr hp hlen, hhead, hdir, decide_eq_false (Nat.not_lt.2 hsize), Bool.not_true,
    Bool.false_eq_true, if_false]
  rfl

/-- A reload that holds nothing yet has no part in what is idle. -/
theorem State.sameCones_reloadTaken (s : State) (b : List Nat) : SameCones s (s.reloadTaken b) :=
  ⟨rfl, rfl, rfl, fun f hf i j => State.get_put_of_id (s.setFab _) Reg.FAB_STATUS_RELOAD f 1 0 0 i j (by revert f; decide)⟩

theorem State.groupIdle_reloadTaken (hr : s.fab.reload = none) (b : List Nat) (g : Nat) : (s.reloadTaken b).groupIdle g = s.groupIdle g :=
  (s.sameCones_reloadTaken b).groupIdle (by rw [State.reloadHolds, State.reloadHolds, hr]; rfl)

/-- What a reload holds by as much of its fabric section as has arrived. -/
def Reload.listing (r : Reload) (whole : Bool) (f : List Nat) : Reload :=
  let shadow : Fab := if whole then fabOf f else {}
  { r with groups := (reloadLists f).1, conds := (reloadLists f).2, wicks := shadow.wicks, gin := shadow.gin }

/-- A reload holds what it lists, where its section passes and its groups and conditions are free. -/
theorem State.reloadFollow_of_free {r : Reload} {x : ISect} {whole : Bool} {f : List Nat} (hr : s.fab.reload = some r)
    (hz : reloadFab r.bytes = (x, whole, f))
    (hgood : whole = true → (x.content r.bytes).toOption.isSome = true ∧ reloadFabError f = 0)
    (hgroups : ∀ g ∈ (reloadLists f).1, s.groupIdle g = true) (hconds : ∀ c ∈ (reloadLists f).2, s.condEn c.1 = false) :
    s.reloadFollow = s.setFab { s.fab with reload := some (r.listing whole f) } := by
  have hfree : ((reloadLists f).1.any (fun g => !r.groups.contains g && !s.groupIdle g) ||
      (reloadLists f).2.any fun c => !r.conds.contains c && s.condEn c.1) = false := by
    rw [Bool.or_eq_false_iff, List.any_eq_false, List.any_eq_false]
    exact ⟨fun g hg => by simp [hgroups g hg], fun c hc => by simp [hconds c hc]⟩
  cases whole with
  | false =>
    simp only [State.reloadFollow, hr, hz, hfree, Bool.not_false, if_true, ne_eq, not_true_eq_false, Bool.false_eq_true, if_false]
    rfl
  | true =>
    obtain ⟨hcontent, herr⟩ := hgood rfl
    obtain ⟨l, hl⟩ : ∃ l, x.content r.bytes = .ok l := by
      cases h : x.content r.bytes with
      | error e => rw [h] at hcontent; cases hcontent
      | ok l => exact ⟨l, rfl⟩
    simp only [State.reloadFollow, hr, hz, hl, herr, hfree, Bool.not_true, Bool.false_eq_true, if_false, ne_eq, not_true_eq_false]
    rfl

/-- A group that a reload holds is not idle. -/
theorem State.groupIdle_of_held {r : Reload} {g : Nat} (hr : s.fab.reload = some r) (hg : g ∈ r.groups) : s.groupIdle g = false := by
  have hheld : s.reloadHolds g = true := by
    rw [State.reloadHolds, hr]
    exact List.contains_iff_mem.2 hg
  rw [State.groupIdle, hheld]
  rfl

/-- A reload whose groups and conditions are free is admitted, and holds its groups. -/
theorem reloadAdmit_of_free (hb : s.fab.relBytes = b) (hr : s.fab.reload = none) (hp : s.fab.prog = none) (hhead : imgHeaderOk b = true)
    (hsize : imgSize b ≤ imgMax) (hdir : imgDirOk true b = true) (hlen : 0x40 + 32 * imgNsect b ≤ b.length) :
    let z := reloadFab b
    let l := reloadLists z.2.2
    (z.2.1 = true → (z.1.content b).toOption.isSome = true ∧ reloadFabError z.2.2 = 0) →
    (l.1.all s.groupIdle && !l.2.any fun c => s.condEn c.1) = true →
    Does .reloadAdmit s fun t => t.get Reg.FAB_STATUS_RELOAD = 1 ∧ t.fab.relBytes = [] ∧
      t.fab.reload.map (fun r => (r.bytes, r.groups, r.conds)) = some (b, l.1, l.2) ∧ l.1.all (fun g => !t.groupIdle g) = true ∧
      Only [Reg.FAB_STATUS_RELOAD] s t { s with regs := t.regs, fab := { s.fab with reload := t.fab.reload, relBytes := [] } } := by
  intro z l hgood hfree
  rw [Bool.and_eq_true, List.all_eq_true, Bool.not_eq_true', List.any_eq_false] at hfree
  obtain ⟨hgroups, hconds⟩ := hfree
  have e := exec_reloadAdmit_of_directory hb hr hp hlen hhead hsize hdir
  rw [State.reloadFollow_of_free (s := s.reloadTaken b) (x := z.1) (whole := z.2.1) (f := z.2.2) rfl rfl hgood
    (fun g hg => (State.groupIdle_reloadTaken hr b g).trans (hgroups g hg))
    (fun c hc => ((s.sameCones_reloadTaken b).condEn c.1).trans (eq_false_of_ne_true (hconds c hc)))] at e
  refine .of_next e ⟨(State.get_setFab ..).trans (State.get_put_self ..), rfl, rfl, List.all_eq_true.2 fun g hg => ?_, ?_⟩
  · rw [State.groupIdle_of_held rfl hg]
    rfl
  · exact ((((FabOnly.refl _ s).setFab _).put _ _ _ _ (.head _)).setFab _).only rfl

end

/-! ### Application (R261) -/

section
variable {s : State} {r : Reload}

theorem reloadApply_of_none (h : s.fab.reload = none) : Does .reloadApply s fun t => t = s := by
  refine .of_next (t := s) ?_ rfl
  simp only [exec, execReloadApply, h]

theorem reloadApply_of_waits (h : s.fab.reload = some r) (hw : r.bytes.length < imgSize r.bytes ∨ s.fab.wave.isSome = true) :
    Does .reloadApply s fun t => t = s := by
  refine .of_next (t := s) ?_ rfl
  have hwait : (decide (r.bytes.length < imgSize r.bytes) || s.fab.wave.isSome) = true := by simpa using hw
  simp only [exec, execReloadApply, h, hwait, if_true]

/-- The maps of the conditions that a reload lists. -/
def State.mapConds (s : State) (l : List (Nat × Nat)) : State :=
  s.each l fun s c => (s.put Reg.FAB_COND_MAP_WICK (bits c.2 0 14) c.1).put Reg.FAB_COND_MAP_VALID (bits c.2 15 1) c.1

theorem State.mapConds_regsOnly (s : State) (l : List (Nat × Nat)) :
    RegsOnly [Reg.FAB_COND_MAP_WICK, Reg.FAB_COND_MAP_VALID] s (s.mapConds l) :=
  .each (fun u _ _ => (RegsOnly.put u _ _ _ _ (by decide)).trans (.put _ _ _ _ _ (by decide))) s

/-- What a reload makes the fabric; what arrived after it stays for the next one. -/
def Fab.applied (f : Fab) (r : Reload) : Fab := { f.reloaded r with reload := none, relBytes := r.bytes.drop (imgSize r.bytes) }

/-- The shadows of a reload become active at the next reference edge. -/
def State.reloadActive (s : State) (r : Reload) : State :=
  (((((s.advanceTo (s.dtRef + 1)).setFab (s.fab.applied r)).mapConds r.conds).put Reg.FAB_STATUS_RELOAD 0).put
    Reg.FAB_INT_RELOADED 1).showDepth

theorem exec_reloadApply (h : s.fab.reload = some r) (hsize : imgSize r.bytes ≤ r.bytes.length) (hwave : s.fab.wave = none) :
    exec .reloadApply s = .next (
      if imgError true r.bytes ≠ 0 then
        (s.cond (imgError true r.bytes == 3) (·.decImageError (imgDecError r.bytes))).reloadRefuse (imgError true r.bytes)
      else if (s.fab.reloaded r).ok = true then s.reloadActive r else s.reloadRefuse 6) := by
  have hready : (decide (r.bytes.length < imgSize r.bytes) || s.fab.wave.isSome) = false := by
    rw [decide_eq_false (Nat.not_lt.2 hsize), hwave]
    rfl
  simp only [exec, execReloadApply, h, hready, Bool.false_eq_true, if_false]
  cases (s.fab.reloaded r).ok <;> rfl

/-- The fields a reload that applies can change. -/
def reloadedFields : List Fld :=
  [Reg.FAB_STATUS_RELOAD, Reg.FAB_INT_RELOADED, Reg.FAB_COND_MAP_WICK, Reg.FAB_COND_MAP_VALID, Reg.FAB_STATUS_DEPTH, Reg.FAB_COND_MAP_DEPTH]

theorem State.reloadActive_only (s : State) (r : Reload) : FabOnly reloadedFields (s.advanceTo (s.dtRef + 1)) (s.reloadActive r) :=
  (((((FabOnly.refl _ _).setFab _).regsOnly ((State.mapConds_regsOnly _ _).mono (by decide))).put _ _ _ _ (by decide)).put _ _ _ _
    (by decide)).regsOnly ((State.showDepth_regsOnly _).mono (by decide))

theorem State.reloadActive_fab (s : State) (r : Reload) : (s.reloadActive r).fab = s.fab.applied r := by
  rw [State.reloadActive, State.showDepth_fab, State.put_fab, State.put_fab, (State.mapConds_regsOnly _ _).1]
  rfl

theorem State.reloadActive_int (s : State) (r : Reload) : (s.reloadActive r).get Reg.FAB_INT_RELOADED = 1 :=
  (State.get_showDepth (by decide) 0 0).trans (State.get_put_self ..)

theorem State.reloadActive_status (s : State) (r : Reload) : (s.reloadActive r).get Reg.FAB_STATUS_RELOAD = 0 := by
  rw [State.reloadActive, State.get_showDepth (by decide), State.get_put_of_id _ _ _ _ _ _ _ _ (by decide)]
  exact State.get_put_self ..

/-- A whole reload whose image and fabric pass applies. -/
theorem reloadApply_of_good (h : s.fab.reload = some r) (hsize : imgSize r.bytes ≤ r.bytes.length) (hwave : s.fab.wave = none)
    (he : imgError true r.bytes = 0) (hok : (s.fab.reloaded r).ok = true) : exec .reloadApply s = .next (s.reloadActive r) := by
  rw [exec_reloadApply h hsize hwave, if_neg (not_not.2 he), if_pos hok]

/-- One whose fabric does not pass is refused with ERR 0x6. -/
theorem reloadApply_of_fabric (h : s.fab.reload = some r) (hsize : imgSize r.bytes ≤ r.bytes.length) (hwave : s.fab.wave = none)
    (he : imgError true r.bytes = 0) (hok : (s.fab.reloaded r).ok = false) : exec .reloadApply s = .next (s.reloadRefuse 6) := by
  rw [exec_reloadApply h hsize hwave, if_neg (not_not.2 he), if_neg (ne_true_of_eq_false hok)]

/-- One whose image does not pass is refused with its error; a block that fails is recorded first (R454). -/
theorem reloadApply_of_bad (h : s.fab.reload = some r) (hsize : imgSize r.bytes ≤ r.bytes.length) (hwave : s.fab.wave = none)
    (he : imgError true r.bytes ≠ 0) : ∃ u, RegsOnly decErrorFields s u ∧ (imgError true r.bytes ≠ 3 → u = s) ∧
      exec .reloadApply s = .next (u.reloadRefuse (imgError true r.bytes)) := by
  refine ⟨s.cond (imgError true r.bytes == 3) (·.decImageError (imgDecError r.bytes)), ?_, fun h3 => ?_, ?_⟩
  · cases imgError true r.bytes == 3
    · exact .refl _ s
    · exact s.decImageError_regsOnly _
  · rw [beq_eq_false_iff_ne.2 h3, State.cond_false]
  · rw [exec_reloadApply h hsize hwave, if_pos he]

/-- A whole reload with no wave under way: it is over either way. -/
theorem reloadApply_shown (h : s.fab.reload = some r) (hsize : imgSize r.bytes ≤ r.bytes.length) (hwave : s.fab.wave = none) :
    Does .reloadApply s fun t => t.fab.reload = none ∧ t.get Reg.FAB_STATUS_RELOAD = 0 ∧
      (imgError true r.bytes = 0 → (s.fab.reloaded r).ok = true → let u := s.advanceTo (s.dtRef + 1)
        t.fab = s.fab.applied r ∧ t.get Reg.FAB_INT_RELOADED = 1 ∧
        Only (reloadedFields ++ timeFields) s t { u with regs := t.regs, fab := t.fab }) ∧
      (imgError true r.bytes = 0 → (s.fab.reloaded r).ok = false → t = s.reloadRefuse 6) ∧
      (imgError true r.bytes ≠ 0 → t.fab.wicks = s.fab.wicks ∧ t.fab.gin = s.fab.gin ∧ t.get Reg.FAB_INT_RELOAD_ERR = 1) ∧
      (imgError true r.bytes ≠ 0 → imgError true r.bytes ≠ 3 → t = s.reloadRefuse (imgError true r.bytes)) := by
  by_cases he : imgError true r.bytes = 0
  case neg =>
    obtain ⟨u, hu, hsame, e⟩ := reloadApply_of_bad h hsize hwave he
    have hfab : u.fab = s.fab := by rw [hu.1]
    refine .of_next e ⟨rfl, u.reloadRefuse_status _, fun h0 => absurd h0 he, fun h0 => absurd h0 he, fun _ => ⟨?_, ?_, u.reloadRefuse_int _⟩,
      fun _ h3 => congrArg (State.reloadRefuse · _) (hsame h3)⟩
    · rw [State.reloadRefuse_fab, hfab]
    · rw [State.reloadRefuse_fab, hfab]
  cases hok : (s.fab.reloaded r).ok with
  | false =>
    refine .of_next (reloadApply_of_fabric h hsize hwave he hok) ⟨rfl, s.reloadRefuse_status _, fun _ h' => ?_, fun _ _ => rfl,
      fun h0 => absurd he h0, fun h0 => absurd he h0⟩
    cases h'
  | true =>
    have hfab := s.reloadActive_fab r
    refine .of_next (reloadApply_of_good h hsize hwave he hok) ⟨by rw [hfab]; rfl, s.reloadActive_status r,
      fun _ _ => ⟨hfab, s.reloadActive_int r, (s.reloadActive_only r).1, ?_⟩, fun _ h' => ?_, fun h0 => absurd he h0, fun h0 => absurd he h0⟩
    · exact (OnlyFields.advanceTo _ (fun _ hf => List.mem_append_right _ hf) (.refl _ s)).trans
        ((s.reloadActive_only r).2.mono fun _ hf => List.mem_append_left _ hf)
    · cases h'

end

end Sys2Proof.Machine
end

/-! ## The scrubber of the configuration -/

section
namespace Sys2Proof.Machine

/-! ### Fatal faults (R503) -/

section
variable {s u : State} {code src : Nat}

/-- What a reset leaves of a state depends on its queue, its store and its wear totals alone. -/
theorem WasReset.of_same {saved : Bool} {t : State} (h : WasReset saved u t) (hpend : u.pending = s.pending) (hstore : u.store = s.store)
    (hsvc : u.svc = s.svc) : WasReset saved s t := by
  obtain ⟨hget, hmem, hdt, hpend', hstore'⟩ := h
  exact ⟨hget, hmem, hdt, hpend'.trans hpend, by rw [hstore', hstore, hsvc]⟩

/-- What a fatal fault records before it resets the module. -/
def State.fatalRecorded (s : State) (code : Nat) : State :=
  ((s.put Reg.BOOT_LAST_FCODE code).put Reg.BOOT_LAST_QDISC s.flt.queue.length).cond s.sys.since10.isSome fun s =>
    ((s.put Reg.BOOT_FAIL_STAGE 10).put Reg.BOOT_FAIL_CODE 9).put Reg.BOOT_STATUS_FAILCNT (min 3 (s.get Reg.BOOT_STATUS_FAILCNT + 1))

/-- The fields a fatal fault records beside its code. -/
def fatalFields : List Fld := [Reg.BOOT_LAST_QDISC, Reg.BOOT_FAIL_STAGE, Reg.BOOT_FAIL_CODE, Reg.BOOT_STATUS_FAILCNT]

theorem State.fatalRecorded_regsOnly (s : State) (code : Nat) : RegsOnly fatalFields (s.put Reg.BOOT_LAST_FCODE code) (s.fatalRecorded code) := by
  unfold State.fatalRecorded
  cases s.sys.since10.isSome
  · exact .put _ _ _ _ _ (by decide)
  · exact (RegsOnly.put _ _ _ _ _ (by decide)).trans <| (RegsOnly.put _ _ _ _ _ (by decide)).trans <|
      (RegsOnly.put _ _ _ _ _ (by decide)).trans (.put _ _ _ _ _ (by decide))

theorem State.fatal_eq (s : State) (code : Nat) : ∃ h, s.fatal code =
    { (s.fatalRecorded code).resetAll 5 with sys := { ((s.fatalRecorded code).resetAll 5).sys with holds := h } } := ⟨_, rfl⟩

/-- A fatal fault resets the module and shows its code. -/
theorem State.fatal_shown (s : State) (code : Nat) : (s.fatal code).get Reg.BOOT_LAST_FCODE = trunc Reg.BOOT_LAST_FCODE.width code ∧
    (s.fatal code).sys.phase = .reset ∧ WasReset true s (s.fatal code) := by
  obtain ⟨holds, e⟩ := s.fatal_eq code
  obtain ⟨hregs, honly⟩ := s.fatalRecorded_regsOnly code
  have hreset : WasReset true (s.fatalRecorded code) (s.fatal code) := by
    rw [e]
    exact (s.fatalRecorded code).resetAll_wasReset 5
  refine ⟨?_, ?_, hreset.of_same (by rw [hregs]; rfl) (by rw [hregs]; rfl) (by rw [hregs]; rfl)⟩
  · rw [e]
    exact ((s.fatalRecorded code).resetAll_keep 5 _ _ _ (by decide) (by decide)).trans ((honly _ _ _ (by decide)).trans (State.get_put_self ..))
  · rw [e]
    rfl

theorem State.fault_of_fatal (h : severity code = 4) : s.fault code src = (s.lowers code).fatal code := if_pos h

end

/-! ### A word that is lost (R263, R264) -/

section
variable {s : State} {kind : ScrubKind} {addr c g : Nat} {P : State → Prop}

/-- A word of which all three copies disagree is counted and recorded. -/
def State.seuLost (s : State) (addr : Nat) : State :=
  ((s.bump Reg.FAB_SEU_UNCORR Reg.FAB_INT_CNT_SAT).put Reg.FAB_SEU_LAST_ADDR addr).put Reg.FAB_INT_SEU_UNCORR 1

/-- What records a lost word. -/
def seuFields : List Fld := [Reg.FAB_SEU_UNCORR, Reg.FAB_SEU_LAST_ADDR, Reg.FAB_INT_SEU_UNCORR, Reg.FAB_INT_CNT_SAT]

theorem State.seuLost_regsOnly (s : State) (addr : Nat) : RegsOnly seuFields s (s.seuLost addr) :=
  (RegsOnly.bump s _ _ _ _ _ _ (by decide) (by decide)).trans <| (RegsOnly.put _ _ _ _ _ (by decide)).trans (.put _ _ _ _ _ (by decide))

/-- What a lost word shows, in a state that leaves the record as it is. -/
structure State.SeuShown (s t : State) (addr : Nat) : Prop where
  count : t.get Reg.FAB_SEU_UNCORR = min (2 ^ 16 - 1) (s.get Reg.FAB_SEU_UNCORR + 1)
  addr : t.get Reg.FAB_SEU_LAST_ADDR = addr
  int : t.get Reg.FAB_INT_SEU_UNCORR = 1

theorem State.seuLost_shown (s : State) (ha : addr < 2 ^ 32) : s.SeuShown (s.seuLost addr) addr := by
  unfold State.seuLost
  refine ⟨?_, ?_, State.get_put_self ..⟩
  · rw [State.get_put_of_id _ _ _ _ _ _ _ _ (by decide), State.get_put_of_id _ _ _ _ _ _ _ _ (by decide),
      State.bump_get _ _ _ _ _ _ _ (by decide), Nat.min_comm]
    rfl
  · rw [State.get_put_of_id _ _ _ _ _ _ _ _ (by decide), State.get_put_self]
    exact trunc_of_lt ha

theorem State.SeuShown.keep {t u : State} {l : List Fld} (h : s.SeuShown t addr) (hu : OnlyFields l t u)
    (hl : ∀ f ∈ seuFields, f.id ∉ l.map (·.id)) : s.SeuShown u addr :=
  ⟨(hu _ _ _ (hl _ (by decide))).trans h.count, (hu _ _ _ (hl _ (by decide))).trans h.addr, (hu _ _ _ (hl _ (by decide))).trans h.int⟩

theorem configScrubVisit_of_good (hk : scrubOk kind = true) : Does (.configScrubVisit kind 0 addr) s fun t => t = s :=
  .of_need rfl hk rfl

/-- One copy that disagrees is rewritten and counted. -/
theorem configScrubVisit_of_one (hk : scrubOk kind = true) : Does (.configScrubVisit kind 1 addr) s fun t =>
    t.get Reg.FAB_SEU_CORR = min (2 ^ 16 - 1) (s.get Reg.FAB_SEU_CORR + 1) ∧ RegsOnly [Reg.FAB_SEU_CORR, Reg.FAB_INT_CNT_SAT] s t := by
  refine .of_need rfl hk ⟨?_, .bump s _ _ _ _ _ _ (by decide) (by decide)⟩
  exact (State.bump_get _ _ _ _ _ _ _ (by decide)).trans (Nat.min_comm ..)

theorem Does.of_wordLost (hk : scrubOk kind = true) (h : P ((s.seuLost addr).wordLost kind)) : Does (.configScrubVisit kind 2 addr) s P :=
  .of_need rfl hk h

/-- Register fields of `l`, shadow copies and the fabric differ, and nothing else. -/
def ScrubOnly (l : List Fld) (s t : State) : Prop := Only l s t { s with regs := t.regs, shadow := t.shadow, fab := t.fab }

theorem ScrubOnly.refl (l : List Fld) (s : State) : ScrubOnly l s s := ⟨rfl, .refl l s⟩

theorem ScrubOnly.trans {l : List Fld} {t u : State} (h : ScrubOnly l s t) (h' : ScrubOnly l t u) : ScrubOnly l s u :=
  ⟨by rw [h'.1, h.1], h.2.trans h'.2⟩

theorem ScrubOnly.put {l : List Fld} {t : State} {f : Fld} {v i j : Nat} (h : ScrubOnly l s t) (hf : f ∈ l) : ScrubOnly l s (t.put f v i j) :=
  h.trans ⟨rfl, .put f v i j hf (.refl l t)⟩

theorem ScrubOnly.unstage {l : List Fld} {t : State} {f : Fld} {i j : Nat} (h : ScrubOnly l s t) : ScrubOnly l s (t.unstage f i j) :=
  h.trans ⟨rfl, .of_regs rfl⟩

theorem ScrubOnly.each {α : Type} {l : List Fld} {m : List α} {f : State → α → State} {t : State} (h : ScrubOnly l s t)
    (hf : ∀ {u a}, ScrubOnly l s u → ScrubOnly l s (f u a)) : ScrubOnly l s (t.each m f) := by
  induction m generalizing t with
  | nil => exact h
  | cons a m ih => exact ih (hf h)

theorem ScrubOnly.of_regsOnly {l : List Fld} {t : State} (h : RegsOnly l s t) : ScrubOnly l s t := ⟨by rw [h.1], h.2⟩

/-- What takes conditions out of use. -/
def condOffFields : List Fld := [Reg.FAB_INT_COND_OFF, Reg.TRG_COND_CFG_EN]

theorem State.condsOff_only {l : List Fld} (h : ∀ f ∈ condOffFields, f ∈ l) (s : State) (g : Nat) : ScrubOnly l s (s.condsOff g) :=
  ((ScrubOnly.refl l s).each fun h' => (h'.put (h _ (by decide))).unstage).put (h _ (by decide))

/-- The loop over conditions leaves the fabric. -/
theorem State.condsOff_fab (s : State) (g : Nat) : (s.condsOff g).fab = s.fab := by
  have hfab {m : List Nat} (u : State) : (u.each m fun s c => (s.put Reg.TRG_COND_CFG_EN 0 0 c).unstage Reg.TRG_COND_CFG_EN 0 c).fab = u.fab := by
    induction m generalizing u with
    | nil => rfl
    | cons c m ih => exact ih _
  exact hfab s

/-- A lost entry or group input takes its safe value: the conditions that depend on its group are off, and the depths show anew. -/
def State.fabLost (s : State) (g : Nat) (f : Fab) : State := ((s.condsOff g).setFab f).showDepth

theorem State.fabLost_int (s : State) (g : Nat) (f : Fab) : (s.fabLost g f).get Reg.FAB_INT_COND_OFF = 1 := by
  rw [State.fabLost, State.get_showDepth (by decide), State.get_setFab]
  exact State.get_put_self ..

/-- What it changes beside the record of the lost word. -/
def fabLostFields : List Fld := [Reg.FAB_INT_COND_OFF, Reg.TRG_COND_CFG_EN, Reg.FAB_STATUS_DEPTH, Reg.FAB_COND_MAP_DEPTH]

theorem State.fabLost_only {l : List Fld} (h : ∀ f ∈ fabLostFields, f ∈ l) (s : State) (g : Nat) (f : Fab) : ScrubOnly l s (s.fabLost g f) :=
  have hset : ScrubOnly l (s.condsOff g) ((s.condsOff g).setFab f) := ⟨rfl, .of_regs rfl⟩
  ((State.condsOff_only (fun f hf => h f (by revert f; decide)) s g).trans hset).trans
    (.of_regsOnly ((State.showDepth_regsOnly _).mono fun f hf => h f (by revert f; decide)))

theorem State.wordLost_wick (s : State) (w : Nat) : s.wordLost (.wick w) = s.fabLost (w / 64) (s.fab.setWick w wickReset) := by
  rw [← State.condsOff_fab s (w / 64)]
  rfl

theorem State.wordLost_gin (s : State) (k : Nat) :
    s.wordLost (.gin k) = s.fabLost (k / 64) { s.fab with gin := NMap.set ginReset s.fab.gin k ginReset } := by
  rw [← State.condsOff_fab s (k / 64)]
  rfl

/-- What a lost entry or group input shows. -/
theorem State.fabLost_seuShown (ha : addr < 2 ^ 32) (g : Nat) (f : Fab) : s.SeuShown ((s.seuLost addr).fabLost g f) addr :=
  (s.seuLost_shown ha).keep (State.fabLost_only (fun _ h => h) _ g f).2 (by decide)

theorem configScrubVisit_wick {w : Nat} (hw : w < 16384) (ha : addr < 2 ^ 32) : Does (.configScrubVisit (.wick w) 2 addr) s fun t =>
    t.fab.wick w = {} ∧ t.get Reg.FAB_INT_COND_OFF = 1 ∧
    t.get Reg.FAB_SEU_UNCORR = min (2 ^ 16 - 1) (s.get Reg.FAB_SEU_UNCORR + 1) ∧ t.get Reg.FAB_SEU_LAST_ADDR = addr ∧ t.get Reg.FAB_INT_SEU_UNCORR = 1 ∧
    Only [Reg.FAB_SEU_UNCORR, Reg.FAB_SEU_LAST_ADDR, Reg.FAB_INT_SEU_UNCORR, Reg.FAB_INT_CNT_SAT, Reg.FAB_INT_COND_OFF, Reg.TRG_COND_CFG_EN,
      Reg.FAB_STATUS_DEPTH, Reg.FAB_COND_MAP_DEPTH] s t { s with regs := t.regs, shadow := t.shadow, fab := t.fab } := by
  refine .of_wordLost (decide_eq_true hw) ?_
  rw [State.wordLost_wick]
  obtain ⟨hcount, haddr, hint⟩ := State.fabLost_seuShown (s := s) ha (w / 64) ((s.seuLost addr).fab.setWick w wickReset)
  refine ⟨?_, State.fabLost_int .., hcount, haddr, hint, ?_⟩
  · rw [State.fabLost, State.showDepth_fab]
    exact NMap.get_set_self wickReset (s.seuLost addr).fab.wicks w wickReset
  · exact (ScrubOnly.of_regsOnly ((s.seuLost_regsOnly addr).mono (by decide))).trans (State.fabLost_only (by decide) _ _ _)

theorem configScrubVisit_gin {k : Nat} (hk : k < 16384) (ha : addr < 2 ^ 32) : Does (.configScrubVisit (.gin k) 2 addr) s fun t =>
    t.fab.input k = ginReset ∧ t.get Reg.FAB_INT_COND_OFF = 1 ∧
    t.get Reg.FAB_SEU_UNCORR = min (2 ^ 16 - 1) (s.get Reg.FAB_SEU_UNCORR + 1) ∧ t.get Reg.FAB_SEU_LAST_ADDR = addr ∧
    t.get Reg.FAB_INT_SEU_UNCORR = 1 := by
  refine .of_wordLost (decide_eq_true hk) ?_
  rw [State.wordLost_gin]
  obtain ⟨hcount, haddr, hint⟩ := State.fabLost_seuShown (s := s) ha (k / 64)
    { (s.seuLost addr).fab with gin := NMap.set ginReset (s.seuLost addr).fab.gin k ginReset }
  refine ⟨?_, State.fabLost_int .., hcount, haddr, hint⟩
  rw [State.fabLost, State.showDepth_fab]
  exact NMap.get_set_self ginReset (s.seuLost addr).fab.gin k ginReset

/-- A shadow copy that is discarded is no longer pending. -/
theorem State.shadowOf_unstage_self (s : State) (f : Fld) (i j : Nat) : (s.unstage f i j).shadowOf f i j = none := by
  rw [State.shadowOf, State.unstage_shadow, SMap.get_map_some, Option.map_eq_none_iff, List.find?_eq_none]
  exact fun e he hk => SMap.erase_ne _ _ e he (of_decide_eq_true hk).symm

/-- A condition's map that is lost takes the condition out of use. -/
theorem configScrubVisit_cond (hc : c < 64) : Does (.configScrubVisit (.cond c) 2 addr) s fun t =>
    t.get Reg.FAB_COND_MAP_VALID c = 0 ∧ t.get Reg.TRG_COND_CFG_EN 0 c = 0 ∧ t.shadowOf Reg.TRG_COND_CFG_EN 0 c = none ∧
    t.get Reg.FAB_INT_COND_OFF = 1 := by
  refine .of_wordLost (decide_eq_true hc) ?_
  unfold State.wordLost
  dsimp only
  refine ⟨?_, ?_, ?_, State.get_put_self ..⟩
  · rw [State.get_put_of_id _ _ _ _ _ _ _ _ (by decide), State.get_unstage, State.get_put_of_id _ _ _ _ _ _ _ _ (by decide)]
    exact State.get_put_self ..
  · rw [State.get_put_of_id _ _ _ _ _ _ _ _ (by decide), State.get_unstage]
    exact State.get_put_self ..
  · exact State.shadowOf_unstage_self ..

/-- A bit that is set reads 1. -/
theorem testBit_setBits_one (v i : Nat) : (setBits v i 1 1).testBit i = true := by
  have e : setBits v i 1 1 = v % 2 ^ i + 2 ^ i * (1 + 2 * (v / 2 ^ (i + 1))) := by
    unfold setBits
    ring
  have hlow : v % 2 ^ i / 2 ^ i = 0 := Nat.div_eq_of_lt (Nat.mod_lt _ (Nat.two_pow_pos i))
  rw [Nat.testBit_eq_decide_div_mod_eq, e, Nat.add_mul_div_left _ _ (Nat.two_pow_pos i), hlow, decide_eq_true_eq]
  omega

/-- An entry of the region map that is lost sets its MASK bit. -/
theorem configScrubVisit_rmap {b : Nat} (hb : b < 65536) : Does (.configScrubVisit (.rmap b) 2 addr) s fun t =>
    (rmapAt t.evt.act b).testBit 14 = true ∧ (rmapAt t.evt.shd b).testBit 14 = true ∧
    Only seuFields s t { s with regs := t.regs, evt := { s.evt with act := t.evt.act, shd := t.evt.shd } } := by
  refine .of_wordLost (decide_eq_true hb) ?_
  unfold State.wordLost
  dsimp only
  rw [rmapAt_set_self, rmapAt_set_self, testBit_setBits_one, testBit_setBits_one]
  obtain ⟨heq, honly⟩ := s.seuLost_regsOnly addr
  refine ⟨rfl, rfl, ?_, honly⟩
  generalize s.seuLost addr = u at *
  generalize u.regs = r at heq
  subst heq
  rfl

/-- A reload shadow that is lost is only counted. -/
theorem configScrubVisit_shadow : Does (.configScrubVisit .shadow 2 addr) s fun t => RegsOnly seuFields s t :=
  .of_wordLost rfl (s.seuLost_regsOnly addr)

/-- A topology word that is lost is fault 0x05. -/
theorem configScrubVisit_topo : Does (.configScrubVisit .topo 2 addr) s fun t =>
    t.get Reg.BOOT_LAST_FCODE = 5 ∧ t.sys.phase = .reset ∧ WasReset true s t := by
  refine .of_wordLost rfl ?_
  have e : (s.seuLost addr).wordLost .topo = ((s.seuLost addr).lowers 5).fatal 5 := State.fault_of_fatal (s := s.seuLost addr) (code := 5) (src := 0) rfl
  obtain ⟨hcode, hphase, hreset⟩ := ((s.seuLost addr).lowers 5).fatal_shown 5
  have heq := (s.seuLost_regsOnly addr).1
  rw [e]
  refine ⟨hcode, hphase, hreset.of_same ?_ ?_ ?_⟩
  · exact (congrArg (fun x : State => x.pending) heq :)
  · exact (congrArg (fun x : State => x.store) heq :)
  · exact (congrArg (fun x : State => x.svc) heq :)

theorem find_rotaInterval : (regTable.find? fun f => f.id == Reg.TIL_ROTA_INTERVAL.id) = some Reg.TIL_ROTA_INTERVAL := by decide

/-- A register field that is lost returns to its reset value, and is fault 0x06. -/
theorem configScrubVisit_rotaInterval {i : Nat} (hi : i < 4) (hflt : s.flt.under = none) :
    Does (.configScrubVisit (.reg Reg.TIL_ROTA_INTERVAL.id i 0) 2 addr) s fun t =>
      t.get Reg.TIL_ROTA_INTERVAL i = Reg.TIL_ROTA_INTERVAL.reset i 0 ∧
      t.flt.under = some { dt := s.dtRef, code := 6, sev := 3, src := bits (0x60014 + 0x1000 * i) 12 12 } := by
  have hk : scrubOk (.reg Reg.TIL_ROTA_INTERVAL.id i 0) = true :=
    List.any_eq_true.2 ⟨Reg.TIL_ROTA_INTERVAL, List.mem_of_find?_eq_some find_rotaInterval, by simp [Reg.TIL_ROTA_INTERVAL, hi]⟩
  let u := ((s.seuLost addr).put Reg.TIL_ROTA_INTERVAL (Reg.TIL_ROTA_INTERVAL.reset i 0) i 0).unstage Reg.TIL_ROTA_INTERVAL i 0
  have e : (s.seuLost addr).wordLost (.reg Reg.TIL_ROTA_INTERVAL.id i 0) = u.fault 6 (bits (0x60014 + 0x1000 * i) 12 12) := by
    simp only [State.wordLost, find_rotaInterval]
    rfl
  have heq := (s.seuLost_regsOnly addr).1
  have hidle : u.flt.under = none := (congrArg (fun x : State => x.flt.under) heq).trans hflt
  have hdt : u.dtRef = s.dtRef := (congrArg (fun x : State => x.dtRef) heq :)
  refine .of_wordLost hk ?_
  rw [e]
  refine ⟨?_, ?_⟩
  · rw [u.fault_only 6 _ (by decide) _ _ _ (by decide)]
    exact (State.get_unstage ..).trans (State.get_put_self ..)
  · rw [u.fault_of_idle 6 _ (by decide) hidle, ← hdt]
    rfl

end

end Sys2Proof.Machine
end

/-! ## Images, reloads and the scrubber -/

section
namespace Sys2Proof.Machine

/-- Settles O26: the guarded writes of the image registers, programming, reloads, and a word by what it belongs to. -/
theorem imagesAndReload : Obligations.ImagesAndReload := by
  unfold Obligations.ImagesAndReload
  refine ⟨?_, ?_, ?_, fun _ => imageProgEraseDone_of_erasing, ?_, fun _ _ => reloadAdmit_of_short,
    fun _ _ hb hr hp hhead hsize hdir hlen => reloadAdmit_of_free hb hr hp hhead hsize hdir hlen, ?_, fun _ => reloadApply_of_none,
    fun _ _ => reloadApply_shown, fun _ _ => reloadApply_of_waits, fun _ _ => reloadAbort_of_reload, ?_, fun _ _ _ => configScrubVisit_wick,
    fun _ _ _ hb _ => configScrubVisit_rmap hb, fun _ _ _ => configScrubVisit_gin,
    fun _ _ _ => ⟨configScrubVisit_shadow, fun _ _ => configScrubVisit_topo⟩, ?_, fun _ _ _ hc _ => configScrubVisit_cond hc⟩
  · intro val s h1 h2 hr hlive hc
    have hval : (!bit val 1 && !bit val 2) = true := by simp only [bit, h1, h2, Bool.not_false, Bool.and_self]
    exact ⟨fun hrole hq hvalid => .of_fabBar rfl hval hr hc (State.imgCtrlWrite_waits hlive hrole hq (.inl hvalid)),
      fun hrole => .of_fabBar rfl hval hr hc (State.imgCtrlWrite_refused hlive hrole)⟩
  · intro val s hctrl hprog hrole hlive hc hq
    refine ⟨fun h1 h2 => .of_fabBar rfl ?_ hctrl hc (State.imgCtrlWrite_waits hlive hrole hq (.inr (.inl h1))),
      fun h2 hrun => .of_fabBar rfl h2 hctrl hc (State.imgCtrlWrite_waits hlive hrole hq (.inr (.inr ⟨h2, hrun⟩))),
      fun h0 h2 => .of_fabBar rfl ?_ hprog hc (State.imgProgWrite_waits hlive hrole hq),
      fun h2 => .of_fabBar rfl h2 hprog hc (State.imgProgWrite_waits hlive hrole hq)⟩
    · simp only [bit, h1, h2, Bool.not_false, Bool.and_self]
    · simp only [bit, h0, h2, Bool.not_false, Bool.and_self]
  · intro val s habort hstart hp
    refine ⟨fun ha => ?_, State.imgProg_of_inactive habort hstart hp⟩
    rw [State.imgProg_of_active habort hstart hp ha]
    exact ⟨State.progEnd_err (by decide), State.progEnd_store ..⟩
  · rintro k e s hk hp hst rfl hlt
    change s.verifyError k < 16 at hlt
    by_cases he : s.verifyError k = 0
    · obtain ⟨t, ht, herr, hstart, hfab, hgood⟩ := imageProgVerifyDone_of_good hk hp hst he
      exact ⟨t, ht, herr.trans he.symm, hstart, hfab, fun _ => hgood, fun h => absurd he h, fun h => absurd he h⟩
    · obtain ⟨t, ht, herr, hstart, hfab, hstore, hstate, hint, honly⟩ := imageProgVerifyDone_of_bad hp hst he hlt
      exact ⟨t, ht, herr, hstart, hfab, fun h => absurd h he, fun _ => ⟨hstore, hstate, hint⟩, fun _ => honly⟩
  · exact fun b s hb hr hp hlen hhead => reloadAdmit_of_header hb hr hp hlen hhead
      ⟨rfl, State.reloadRefuse_err (by decide) s, s.reloadRefuse_int 1, s.reloadRefuse_status 1⟩
  · rintro kind bad addr s hk
    exact ⟨fun h => h ▸ configScrubVisit_of_good hk, fun h => h ▸ configScrubVisit_of_one hk⟩
  · rintro i j addr s hi rfl - hflt -
    exact configScrubVisit_rotaInterval hi hflt

end Sys2Proof.Machine
end

/-! ## A channel due to go out of service while a calibration fails -/

section
namespace Sys2Proof.Machine

/-- Interpolator A of core 9 calibrates from edge 10 on, with no bad result before, and channel 3, whose core failed at edge 8 with no
spare free, is still to go out of service. -/
def calWithOffDue : State :=
  let s := tdcUp.setInterp 18 { st := .cal 10 }
  s.setTdc { s.tdc with offDue := [(3, 8)] }

/-- The end of the failed calibration takes channel 3 out of service, and nothing is due any more (R283). -/
theorem tdcCalEnd_calWithOffDue : (ok' (exec (.tdcCalEnd 18 2000 2100) calWithOffDue)).tdc.offDue = [] := by decide +kernel

/-- Refutes O27: the clause of an interpolator's first calibration out of range keeps everything of the edge block but the interpolators
and says nothing of the channels due to go out of service, which the same command takes out (R273, R283). In `calWithOffDue` there is
one. -/
theorem not_edgeMeasurement : ¬ Obligations.EdgeMeasurement := by
  unfold Obligations.EdgeMeasurement
  rintro ⟨-, -, -, -, hfirstBad, -⟩
  obtain ⟨t, e, -, hkept, -⟩ := hfirstBad 18 2000 2100 10 calWithOffDue (by decide) (by decide) rfl (by decide) rfl
  have hstillDue : t.tdc.offDue = calWithOffDue.tdc.offDue := by rw [hkept]
  have hdone := tdcCalEnd_calWithOffDue
  rw [e, ok', hstillDue] at hdone
  exact absurd hdone (List.cons_ne_nil _ _)

end Sys2Proof.Machine
end

/-! ## A channel whose MODE holds more than one bit -/

section
namespace Sys2Proof.Machine

/-- Channel 9 is enabled on its own pin, and the register file holds 2 for its MODE, a field of one bit. -/
def wideMode : State := tdcUp.putKeys [(⟨Reg.TDC_CH_CFG_MODE.id, 0, 9⟩, 2)]

/-- A write of MODE = 1 is not the number that stands there, and the locked field refuses it. -/
theorem tdcChannelEnable_wideMode : (ok' (exec (.tdcChannelEnable 0x903) wideMode)).get Reg.TDC_INT_REFUSED = 1 := by decide +kernel

/-- Refutes O28: the clause of a write to an enabled channel asks that MODE is 0 or not as the write has it, and that only THR and EN
differ after. The locked field compares the whole stored number, and where the register file holds more than the field's width, which the
statement does not exclude, the write is refused and TDC_INT.REFUSED rises (R286): in `wideMode` from 0 to 1. -/
theorem not_edgeChannels : ¬ Obligations.EdgeChannels := by
  unfold Obligations.EdgeChannels
  rintro ⟨-, -, -, -, -, hstaged, -⟩
  obtain ⟨t, e, -, -, -, -, -, -, honly⟩ := hstaged 0x903 9 wideMode (by decide) (by decide +kernel) (by decide +kernel) (by decide)
    (by decide +kernel) (by decide +kernel) (by decide +kernel) (by decide +kernel) (by decide) (by decide +kernel) (by decide)
  have hkept : t.get Reg.TDC_INT_REFUSED = wideMode.get Reg.TDC_INT_REFUSED := honly _ 0 0 (by decide)
  have hclear : wideMode.get Reg.TDC_INT_REFUSED = 0 := by decide +kernel
  have hrefused := tdcChannelEnable_wideMode
  rw [e, ok', hkept, hclear] at hrefused
  exact absurd hrefused (by decide)

end Sys2Proof.Machine
end

/-! ## A record leaves a queue without room -/

section
namespace Sys2Proof.Machine

/-- Where fewer than two entries were free, they are so from the edge after the removal on (R305). -/
theorem RecQ.remove_of_full {q : RecQ} (hin : q.snapIn = true) (hfull : q.hasRoom = false) (now : Nat) :
    q.remove now = { q with q := q.q.tail, snapIn := false, roomAt := now + 1 } := by
  simp [RecQ.remove, hin, hfull]

/-- The read of the port's last word removes the record held there from the queue (R279). -/
theorem auxQueueRemove_queue {s : State} (h : s.responds 0x1B020C = true) :
    Does .auxQueueRemove s fun t => t.aux.queue = s.aux.queue.remove s.dtRef :=
  .of_next (congrArg Host.Outcome.next (State.bar_of_responds h _)) rfl

/-- The result queue holds 1,023 of its 1,024 records, the first of them held at the port. -/
def fullRecords : State := auxUp.setAux { auxUp.aux with queue := { q := List.replicate 1023 (5, 6), snap := (5, 6), snapIn := true } }

/-- Refutes O30: the clause of a record's removal keeps everything of the queue but the record and the port's mark. A queue in which fewer
than two entries are free also takes the edge from which they are, by which a loss episode closes (R305): in `fullRecords` edge 1
for 0. -/
theorem not_auxRecords : ¬ Obligations.AuxRecords := by
  unfold Obligations.AuxRecords
  rintro ⟨-, hremove, -⟩
  have hresp : fullRecords.responds 0x1B020C = true := by decide
  have hlen : fullRecords.aux.queue.q.length = 1023 := List.length_replicate
  have hfull : fullRecords.aux.queue.hasRoom = false := by simp [RecQ.hasRoom, hlen]
  obtain ⟨t, e, -, hqueue, -⟩ := hremove fullRecords hresp rfl (by omega)
  obtain ⟨t', e', hqueue'⟩ := auxQueueRemove_queue hresp
  cases e.symm.trans e'
  rw [RecQ.remove_of_full rfl hfull] at hqueue'
  have hroomAt : fullRecords.aux.queue.roomAt = fullRecords.dtRef + 1 := congrArg RecQ.roomAt (hqueue.symm.trans hqueue')
  exact absurd hroomAt (by decide)

end Sys2Proof.Machine
end

/-! ## A record wider than its register -/

section
namespace Sys2Proof.Machine

/-- An injected conversion of entry 0 awaits delivery with the queue on; its RANGE, a field of three bits, is held as 4,096. -/
def wideRange : State :=
  (auxUp.put Reg.AUX_CTRL_QEN 1).setAux { auxUp.aux with due :=
    [{ kind := 1, entry := 0, word := 0x500000103, avg := 0, ofs := 0, gain := 0x400000, convs := [{ auxConv with range := 4096 }] }] }

/-- The record that enters the queue carries the RANGE into bit 64 of word 1, and AUX_LAST of the entry is cut to its 128 bits. -/
theorem auxResult_wideRange :
    let t := ok' (exec .auxResult wideRange)
    t.aux.queue.q.map (·.2 / 2 ^ 64) = [1] ∧ t.get Reg.AUX_LAST_RECORD 0 / 2 ^ 64 < 2 ^ 64 := by decide +kernel

/-- Refutes O29: the clause of a result that enters the queue asks that word 1 in the queue is the upper half of AUX_LAST, but, unlike the
clause of a result with the queue off, not that AVG and RANGE keep to the three bits they have in a record (R303). In `wideRange` the
word is longer than 64 bits and only AUX_LAST cuts it. -/
theorem not_auxSequence : ¬ Obligations.AuxSequence := by
  unfold Obligations.AuxSequence
  rintro ⟨-, -, -, -, -, -, -, -, -, -, -, -, -, hqueued, -⟩
  obtain ⟨t, e, hqueue, -⟩ := hqueued _ [] _ wideRange rfl rfl rfl (by decide) (by decide) (by decide +kernel) rfl (by decide)
  obtain ⟨hword, hlast⟩ := auxResult_wideRange
  rw [e, ok'] at hword hlast
  rw [hqueue] at hword
  have hone : t.get Reg.AUX_LAST_RECORD 0 / 2 ^ 64 / 2 ^ 64 = 1 := List.head_eq_of_cons_eq hword
  rw [Nat.div_eq_of_lt hlast] at hone
  exact absurd hone (by decide)

end Sys2Proof.Machine
end

/-! ## Reads of the analogue block -/

section
namespace Sys2Proof.Machine

section
variable (s : State)

@[simp] theorem State.get_setAux (a : Aux) (f : Fld) (i j : Nat) : (s.setAux a).get f i j = s.get f i j := rfl
@[simp] theorem State.advanceTo_aux (d : Nat) : (s.advanceTo d).aux = s.aux := by rw [State.advanceTo_eq]

end

section
variable {l : List Fld} {s u : State}

theorem OnlyFields.setAux (h : OnlyFields l s u) (a : Aux) : OnlyFields l s (u.setAux a) := h

theorem OnlyFields.flag (h : OnlyFields l s u) {f : Fld} (hf : f.id ∉ l.map (·.id)) (i j : Nat) : u.flag f i j = s.flag f i j :=
  congrArg (· != 0) (h f i j hf)

theorem State.get_eq_zero_of_flag {f : Fld} {i j : Nat} (h : s.flag f i j = false) : s.get f i j = 0 := by
  simpa [State.flag] using h

/-- The pending copy of any other key stays as it is. -/
theorem State.shadowOf_stage_of_ne (s : State) (f g : Fld) (v i j i' j' : Nat) (h : (⟨g.id, i', j'⟩ : RKey) ≠ ⟨f.id, i, j⟩) :
    (s.stage f v i j).shadowOf g i' j' = s.shadowOf g i' j' := by
  have herase : (SMap.erase s.shadow ⟨f.id, i, j⟩).map (fun e => (e.1, some e.2)) =
      SMap.erase (s.shadow.map fun e => (e.1, some e.2)) ⟨f.id, i, j⟩ := by
    simp only [SMap.erase, List.filter_map]
    rfl
  rw [State.shadowOf, State.stage_shadow, SMap.map_insert, SMap.get_insert_of_ne _ _ _ h, herase, SMap.get_erase_of_ne _ _ h, State.shadowOf]

end

end Sys2Proof.Machine
end

/-! ## System calibration -/

section
namespace Sys2Proof.Machine

/-! ### A calibration ends with an error (R312) -/

section
variable (s : State)

theorem State.calFail_state (err : Nat) : (s.calFail err).get Reg.AUX_CAL_STATUS_STATE = 6 := by
  unfold State.calFail
  rw [State.get_setAux, State.get_put_of_id _ _ _ _ _ _ _ _ (by decide), State.get_put_of_id _ _ _ _ _ _ _ _ (by decide), State.get_put_self]
  rfl

theorem State.calFail_err {err : Nat} (h : err < 16) : (s.calFail err).get Reg.AUX_CAL_STATUS_ERR = err := by
  unfold State.calFail
  rw [State.get_setAux, State.get_put_of_id _ _ _ _ _ _ _ _ (by decide), State.get_put_self]
  exact trunc_of_lt h

theorem State.calFail_int (err : Nat) : (s.calFail err).get Reg.AUX_INT_CAL_ERR = 1 := by
  unfold State.calFail
  rw [State.get_setAux, State.get_put_self]
  rfl

theorem State.calRuns_of_state {st : Nat} (h : s.get Reg.AUX_CAL_STATUS_STATE = st) : s.calRuns = (decide (1 ≤ st) && decide (st ≤ 4)) := by
  rw [State.calRuns, h]

end

/-! ### A step begins (R311 to R313) -/

section
variable {s : State} {c : AuxCal}

/-- A step is accepted with AUX_CAL_STATUS.STATE at `st`. -/
def State.calStepped (s : State) (c : AuxCal) (st : Nat) : State :=
  ((s.setAux { s.aux with cal := { c with begun := none, resumed := false } }).put Reg.AUX_CAL_STATUS_ERR 0).put Reg.AUX_CAL_STATUS_STATE st

theorem State.calStepped_state {st : Nat} (h : st < 8) : (s.calStepped c st).get Reg.AUX_CAL_STATUS_STATE = st :=
  (State.get_put_self ..).trans (trunc_of_lt h)

theorem State.calStepped_err (st : Nat) : (s.calStepped c st).get Reg.AUX_CAL_STATUS_ERR = 0 := by
  rw [State.calStepped, State.get_put_of_id _ _ _ _ _ _ _ _ (by decide), State.get_put_self]
  rfl

theorem State.calStepped_only (st : Nat) : OnlyFields [Reg.AUX_CAL_STATUS_STATE, Reg.AUX_CAL_STATUS_ERR] s (s.calStepped c st) :=
  .put _ _ _ _ (by decide) (.put _ _ _ _ (by decide) (.of_regs rfl))

theorem State.calStep_of_fault (h : s.entryFault (s.auxWord c.entry) ≠ 0) : s.calStep c = s.calFail 2 := if_pos h

theorem State.calStep_of_failed (h : s.entryFault (s.auxWord c.entry) = 0) (hmain : s.flag Reg.AUX_STATUS_MAIN_FAIL = true)
    (hspare : s.flag Reg.AUX_STATUS_SPARE_FAIL = true) : s.calStep c = s.calFail 7 := by
  simp only [State.calStep, h, ne_eq, not_true_eq_false, if_false, hmain, hspare, Bool.and_self, if_true]

/-- A step with its entry, the block and a converter in order is accepted, to wait for injections if there are any. -/
theorem State.calStep_of_ready (h : s.entryFault (s.auxWord c.entry) = 0) (hen : s.auxEn = true) (hmain : s.flag Reg.AUX_STATUS_MAIN_FAIL = false) :
    s.calStep c = s.calStepped c (if s.injRunning s.dtRef || s.aux.pend != [] then 1 else if c.full then 4 else 2) := by
  simp only [State.calStep, h, ne_eq, not_true_eq_false, if_false, hmain, Bool.false_and, Bool.false_eq_true, hen, Bool.not_true]
  rfl

theorem State.injRunning_of_none (h : s.aux.run = none) (e : Nat) : s.injRunning e = false := by
  rw [State.injRunning, h]

theorem State.calStep_of_idle (h : s.entryFault (s.auxWord c.entry) = 0) (hen : s.auxEn = true) (hmain : s.flag Reg.AUX_STATUS_MAIN_FAIL = false)
    (hpend : s.aux.pend = []) (hrun : s.aux.run = none) : s.calStep c = s.calStepped c (if c.full then 4 else 2) := by
  rw [State.calStep_of_ready h hen hmain, State.injRunning_of_none hrun, hpend]
  rfl

theorem State.calStep_of_pend (h : s.entryFault (s.auxWord c.entry) = 0) (hen : s.auxEn = true) (hmain : s.flag Reg.AUX_STATUS_MAIN_FAIL = false)
    (hpend : s.aux.pend ≠ []) : s.calStep c = s.calStepped c 1 := by
  rw [State.calStep_of_ready h hen hmain, bne_iff_ne.2 hpend, Bool.or_true, if_pos rfl]

end

/-! ### The commands of AUX_CAL_CMD (R311, R312) -/

section
variable {s : State} {val : Nat} {P : State → Prop}

/-- ZERO is refused while a calibration runs. -/
theorem auxCalZero_of_runs (hval : bits val 0 2 = 1) (hr : s.responds 0x1B0090 = true) (h : s.calRuns = true) (hP : P (s.calFail 1)) :
    Does (.auxCalZero val) s P :=
  .of_bar rfl (beq_iff_eq.2 hval) hr (by rwa [h, if_pos rfl])

/-- ZERO names the entry, the set and ZONLY of the calibration it begins. -/
def zeroStep (val : Nat) : AuxCal := { entry := bits val 16 6, set := bits val 8 4, zonly := val.testBit 2 }

theorem auxCalZero_of_idle (hval : bits val 0 2 = 1) (hr : s.responds 0x1B0090 = true) (h : s.calRuns = false)
    (hP : P (s.calStep (zeroStep val))) : Does (.auxCalZero val) s P :=
  .of_bar rfl (beq_iff_eq.2 hval) hr (by rw [h]; exact hP)

theorem auxCalFull_of_waits (hval : bits val 0 2 = 2) (hr : s.responds 0x1B0090 = true) (h : s.get Reg.AUX_CAL_STATUS_STATE = 3)
    (hP : P (s.calStep { s.aux.cal with full := true })) : Does (.auxCalFull val) s P :=
  .of_bar rfl (beq_iff_eq.2 hval) hr (by rwa [if_pos h])

/-- FULL without a calibration in WAIT_FULL ends in ERR 1 while one runs, and in ERR 8 otherwise. -/
theorem auxCalFull_of_not_waits (hval : bits val 0 2 = 2) (hr : s.responds 0x1B0090 = true) (h : s.get Reg.AUX_CAL_STATUS_STATE ≠ 3) :
    Does (.auxCalFull val) s fun t => t = s.calFail (if s.calRuns then 1 else 8) := by
  refine .of_bar rfl (beq_iff_eq.2 hval) hr ?_
  rw [if_neg h]
  exact (apply_ite s.calFail ..).symm

theorem auxCalAbort_eq (hval : bits val 0 2 = 3) (hr : s.responds 0x1B0090 = true) :
    Does (.auxCalAbort val) s fun t => t = if s.calRuns then s.calFail 6 else s :=
  .of_bar rfl (beq_iff_eq.2 hval) hr rfl

end

/-! ### A measurement ends (R311, R312) -/

section
variable (s : State) (e : Nat) (signals : List Int)

/-- OVR, CLAMP or WIRE in a conversion of the measurement. -/
def State.calFlagged : Bool :=
  (s.calSum e signals).2 || s.aux.cal.bad || inMask (s.get Reg.AUX_PIN_CLAMP_NOW) (s.clampPins (s.auxWord s.aux.cal.entry)) ||
    (entWchk (s.auxWord s.aux.cal.entry) && s.isBroken s.aux.cal.entry)

/-- Z or F as measured: the mean of the codes in 64ths. -/
def State.calMean : Int := 64 * (s.calSum e signals).1 / (2 ^ s.aux.cal.cavg : Nat)

/-- 5 ref after its last conversion the measurement is over; if no converter served injections meanwhile, they are served from now on. -/
def State.calEnded : State :=
  let u := s.advanceTo (e + 64 + 125 * 2 ^ s.aux.cal.cavg + 5)
  u.setAux { u.aux with
    cal := { s.aux.cal with begun := none }
    pend := if s.runner.isNone then u.aux.pend.map fun r => { r with edge := max r.edge u.dtRef } else u.aux.pend }

theorem State.calEnded_shadow : (s.calEnded e).shadow = s.shadow := s.advanceTo_shadow _

theorem State.calEnded_aux : (s.calEnded e).aux = { s.aux with
    cal := { s.aux.cal with begun := none }
    pend := if s.runner.isNone then
        s.aux.pend.map fun r => { r with edge := max r.edge (s.advanceTo (e + 64 + 125 * 2 ^ s.aux.cal.cavg + 5)).dtRef }
      else s.aux.pend } := by
  rw [State.calEnded, State.setAux_aux, State.advanceTo_aux]

theorem State.calEnded_only : OnlyFields timeFields s (s.calEnded e) :=
  (OnlyFields.advanceTo _ (fun _ h => h) (.refl _ s)).trans (.of_regs rfl)

/-- OFFSET, and GAIN where there is one, go to the shadow of a set. -/
def State.calStaged (s : State) (set : Nat) (z : Int) : Option Nat → State
  | none => s.auxStage Reg.AUX_COEF_OFS_OFFSET (ofInt 24 z) 0 set
  | some g => (s.auxStage Reg.AUX_COEF_OFS_OFFSET (ofInt 24 z) 0 set).auxStage Reg.AUX_COEF_GAIN_GAIN g 0 set

/-- A calibration that has given its coefficients is done. -/
def State.calDone (s : State) (set : Nat) (z : Int) (g : Option Nat) : State :=
  ((s.calStaged set z g).put Reg.AUX_CAL_STATUS_STATE 5).put Reg.AUX_INT_CAL_DONE 1

/-- Z is measured and FULL is waited for. -/
def State.calWaitsFull (s : State) (z : Int) : State :=
  let u := s.put Reg.AUX_CAL_Z_Z (ofInt 24 z)
  (u.setAux { u.aux with cal := { u.aux.cal with z := z, since := u.dtRef } }).put Reg.AUX_CAL_STATUS_STATE 3

/-- What a measurement without a flag leads to, by the step of calibration `c` it belongs to. -/
def State.calResult (s : State) (c : AuxCal) (m : Int) : State :=
  if c.full then
    let u := s.put Reg.AUX_CAL_F_F (ofInt 24 m)
    match calGain c.z m (toInt 18 (u.get Reg.AUX_CAL_FS_FS)) with
    | none => u.calFail 4
    | some g => u.calDone c.set c.z (some g)
  else if c.zonly then (s.put Reg.AUX_CAL_Z_Z (ofInt 24 m)).calDone c.set m none
  else s.calWaitsFull m

end

section
variable {s : State} {e : Nat} {signals : List Int} {P : State → Prop}

theorem State.calFlagged_eq_false (hbad : s.aux.cal.bad = false) (hovr : (s.calSum e signals).2 = false)
    (hclamp : inMask (s.get Reg.AUX_PIN_CLAMP_NOW) (s.clampPins (s.auxWord s.aux.cal.entry)) = false)
    (hwire : (entWchk (s.auxWord s.aux.cal.entry) && s.isBroken s.aux.cal.entry) = false) : s.calFlagged e signals = false := by
  rw [State.calFlagged, hovr, hbad, hclamp, hwire]
  rfl

theorem State.calFlagged_eq_true (h : s.aux.cal.bad = true ∨ (s.calSum e signals).2 = true ∨
      inMask (s.get Reg.AUX_PIN_CLAMP_NOW) (s.clampPins (s.auxWord s.aux.cal.entry)) = true ∨
      entWchk (s.auxWord s.aux.cal.entry) = true ∧ s.isBroken s.aux.cal.entry = true) : s.calFlagged e signals = true := by
  simp only [State.calFlagged, Bool.or_eq_true, Bool.and_eq_true]
  tauto

theorem exec_auxCalStepEnd (hbegun : s.aux.cal.begun = some e) (hm : s.calMeasures = true) : exec (.auxCalStepEnd signals) s =
    .next (if s.calFlagged e signals then (s.calEnded e).calFail 3 else (s.calEnded e).calResult s.aux.cal (s.calMean e signals)) := by
  simp only [exec, execAuxCalStepEnd, hbegun, hm, if_true]
  rfl

/-- A conversion with a flag ends the calibration with ERR 3. -/
theorem auxCalStepEnd_of_flagged (hbegun : s.aux.cal.begun = some e) (hm : s.calMeasures = true) (h : s.calFlagged e signals = true) :
    Does (.auxCalStepEnd signals) s fun t => t.get Reg.AUX_CAL_STATUS_STATE = 6 ∧ t.get Reg.AUX_CAL_STATUS_ERR = 3 ∧
      t.get Reg.AUX_INT_CAL_ERR = 1 ∧ t.shadow = s.shadow := by
  refine .of_next (exec_auxCalStepEnd hbegun hm) ?_
  rw [h, if_pos rfl]
  exact ⟨State.calFail_state .., State.calFail_err _ (by decide), State.calFail_int .., s.calEnded_shadow e⟩

theorem auxCalStepEnd_of_clean (hbegun : s.aux.cal.begun = some e) (hm : s.calMeasures = true) (h : s.calFlagged e signals = false)
    (hP : P ((s.calEnded e).calResult s.aux.cal (s.calMean e signals))) : Does (.auxCalStepEnd signals) s P :=
  .of_next (exec_auxCalStepEnd hbegun hm) (by rw [h]; exact hP)

/-- No measurement is under way. -/
theorem auxCalStepEnd_of_not_measures (h : s.calMeasures = false) : Does (.auxCalStepEnd signals) s fun t => t = s := by
  refine .of_next rfl ?_
  cases s.aux.cal.begun with
  | none => rfl
  | some e => simp only [h, Bool.false_eq_true, if_false]

theorem State.calMeasures_congr {u : State} (hcal : u.aux.cal = s.aux.cal)
    (hst : u.get Reg.AUX_CAL_STATUS_STATE = s.get Reg.AUX_CAL_STATUS_STATE) : u.calMeasures = s.calMeasures := by
  rw [State.calMeasures, hcal, hst, State.calMeasures]

theorem State.calMeasures_of_zero (hbegun : s.aux.cal.begun = some e) (h : s.get Reg.AUX_CAL_STATUS_STATE = 2) : s.calMeasures = true := by
  rw [State.calMeasures, h, hbegun]
  rfl

theorem State.calMeasures_of_full (hbegun : s.aux.cal.begun = some e) (h : s.get Reg.AUX_CAL_STATUS_STATE = 4) : s.calMeasures = true := by
  rw [State.calMeasures, h, hbegun]
  rfl

end

/-! ### Coefficients in the shadow of a set (R298, R312) -/

section
variable {s : State} {f : Fld} {v i j : Nat}

/-- While EN = 1 a staged field waits for the wrap. -/
theorem State.auxStage_of_en (h : s.auxEn = true) (f : Fld) (v i j : Nat) :
    s.auxStage f v i j = ((s.stage f v i j).put Reg.AUX_STATUS_PENDING 1).setAux { s.aux with told := false } := if_pos h

theorem State.auxStage_only (h : s.auxEn = true) (f : Fld) (v i j : Nat) : OnlyFields [Reg.AUX_STATUS_PENDING] s (s.auxStage f v i j) := by
  rw [State.auxStage_of_en h]
  exact .setAux (.put _ _ _ _ (by decide) (.of_regs rfl)) _

theorem State.auxEn_auxStage (h : s.auxEn = true) (f : Fld) (v i j : Nat) : (s.auxStage f v i j).auxEn = true :=
  ((State.auxStage_only h f v i j).flag (by decide) 0 0).trans h

theorem State.pending_auxStage (h : s.auxEn = true) (f : Fld) (v i j : Nat) : (s.auxStage f v i j).get Reg.AUX_STATUS_PENDING = 1 := by
  rw [State.auxStage_of_en h, State.get_setAux, State.get_put_self]
  rfl

theorem State.shadow_auxStage (h : s.auxEn = true) (f : Fld) (v i j : Nat) : (s.auxStage f v i j).shadow = (s.stage f v i j).shadow := by
  rw [State.auxStage_of_en h]
  rfl

theorem State.shadowOf_congr {t : State} (h : t.shadow = s.shadow) (f : Fld) (i j : Nat) : t.shadowOf f i j = s.shadowOf f i j := by
  rw [State.shadowOf, h, State.shadowOf]

theorem State.shadowOf_auxStage_self (h : s.auxEn = true) (f : Fld) (v i j : Nat) :
    (s.auxStage f v i j).shadowOf f i j = some (trunc f.width v) := by
  rw [State.shadowOf_congr (State.shadow_auxStage h ..), State.shadowOf_stage_self]

theorem State.shadowOf_auxStage_of_id (h : s.auxEn = true) (f g : Fld) (v i j i' j' : Nat) (hg : g.id ≠ f.id) :
    (s.auxStage f v i j).shadowOf g i' j' = s.shadowOf g i' j' := by
  rw [State.shadowOf_congr (State.shadow_auxStage h ..), State.shadowOf_stage_of_ne _ _ _ _ _ _ _ _ fun e => hg (congrArg RKey.f e)]

end

section
variable {s : State} {set : Nat} {z : Int}

theorem State.calDone_state (s : State) (set : Nat) (z : Int) (g : Option Nat) : (s.calDone set z g).get Reg.AUX_CAL_STATUS_STATE = 5 := by
  rw [State.calDone, State.get_put_of_id _ _ _ _ _ _ _ _ (by decide), State.get_put_self]
  rfl

theorem State.calDone_int (s : State) (set : Nat) (z : Int) (g : Option Nat) : (s.calDone set z g).get Reg.AUX_INT_CAL_DONE = 1 :=
  State.get_put_self ..

/-- Fields a calibration changes when it is done. -/
def calDoneFields : List Fld := [Reg.AUX_STATUS_PENDING, Reg.AUX_CAL_STATUS_STATE, Reg.AUX_INT_CAL_DONE]

theorem State.calDone_only (h : s.auxEn = true) (g : Option Nat) : OnlyFields calDoneFields s (s.calDone set z g) := by
  refine .put _ _ _ _ (by decide) (.put _ _ _ _ (by decide) (OnlyFields.mono (l := [Reg.AUX_STATUS_PENDING]) ?_ (by decide)))
  cases g with
  | none => exact State.auxStage_only h _ _ _ _
  | some g => exact (State.auxStage_only h _ _ _ _).trans (State.auxStage_only (State.auxEn_auxStage h _ _ _ _) _ _ _ _)

theorem State.calDone_pending (h : s.auxEn = true) (g : Option Nat) : (s.calDone set z g).get Reg.AUX_STATUS_PENDING = 1 := by
  rw [State.calDone, State.get_put_of_id _ _ _ _ _ _ _ _ (by decide), State.get_put_of_id _ _ _ _ _ _ _ _ (by decide)]
  cases g with
  | none => exact State.pending_auxStage h ..
  | some g => exact State.pending_auxStage (State.auxEn_auxStage h ..) ..

theorem State.calDone_offset (h : s.auxEn = true) (g : Option Nat) :
    (s.calDone set z g).shadowOf Reg.AUX_COEF_OFS_OFFSET 0 set = some (ofInt 24 z) := by
  have hself : (s.auxStage Reg.AUX_COEF_OFS_OFFSET (ofInt 24 z) 0 set).shadowOf Reg.AUX_COEF_OFS_OFFSET 0 set = some (ofInt 24 z) :=
    (State.shadowOf_auxStage_self h ..).trans (congrArg some (trunc_of_lt (ofInt_lt 24 z)))
  cases g with
  | none => exact hself
  | some g => exact (State.shadowOf_auxStage_of_id (State.auxEn_auxStage h ..) _ _ _ _ _ _ _ (by decide)).trans hself

theorem State.calDone_gain_of_none (h : s.auxEn = true) :
    (s.calDone set z none).shadowOf Reg.AUX_COEF_GAIN_GAIN 0 set = s.shadowOf Reg.AUX_COEF_GAIN_GAIN 0 set :=
  State.shadowOf_auxStage_of_id h _ _ _ _ _ _ _ (by decide)

theorem State.calDone_gain_of_some (h : s.auxEn = true) {g : Nat} (hg : g < 2 ^ 24) :
    (s.calDone set z (some g)).shadowOf Reg.AUX_COEF_GAIN_GAIN 0 set = some g :=
  (State.shadowOf_auxStage_self (State.auxEn_auxStage h ..) ..).trans (congrArg some (trunc_of_lt hg))

/-- GAIN, where it exists, fits its field (R312). -/
theorem calGain_lt {z f fs : Int} {g : Nat} (h : calGain z f fs = some g) : g < 2 ^ 24 := by
  unfold calGain at h
  extract_lets d n d' q at h
  split at h
  · cases h
  · split at h
    · cases h
    · obtain rfl := Option.some.inj h
      omega

end

/-! ### The steps' results -/

section
variable {s : State} {c : AuxCal} {m z : Int} {g : Nat}

theorem State.calResult_of_zero (hfull : c.full = false) (hz : c.zonly = false) : s.calResult c m = s.calWaitsFull m := by
  simp only [State.calResult, hfull, hz, Bool.false_eq_true, if_false]

theorem State.calResult_of_zonly (hfull : c.full = false) (hz : c.zonly = true) :
    s.calResult c m = (s.put Reg.AUX_CAL_Z_Z (ofInt 24 m)).calDone c.set m none := by
  simp only [State.calResult, hfull, hz, Bool.false_eq_true, if_false, if_true]

theorem State.calResult_of_gain (hfull : c.full = true) (hg : calGain c.z m (toInt 18 (s.get Reg.AUX_CAL_FS_FS)) = some g) :
    s.calResult c m = (s.put Reg.AUX_CAL_F_F (ofInt 24 m)).calDone c.set c.z (some g) := by
  simp only [State.calResult, hfull, if_true, State.get_put_of_id s Reg.AUX_CAL_F_F Reg.AUX_CAL_FS_FS _ _ _ _ _ (by decide), hg]

theorem State.calResult_of_no_gain (hfull : c.full = true) (hg : calGain c.z m (toInt 18 (s.get Reg.AUX_CAL_FS_FS)) = none) :
    s.calResult c m = (s.put Reg.AUX_CAL_F_F (ofInt 24 m)).calFail 4 := by
  simp only [State.calResult, hfull, if_true, State.get_put_of_id s Reg.AUX_CAL_F_F Reg.AUX_CAL_FS_FS _ _ _ _ _ (by decide), hg]

theorem State.calWaitsFull_state (s : State) (z : Int) : (s.calWaitsFull z).get Reg.AUX_CAL_STATUS_STATE = 3 := State.get_put_self ..

theorem State.get_put_calZ (s : State) (z : Int) : (s.put Reg.AUX_CAL_Z_Z (ofInt 24 z)).get Reg.AUX_CAL_Z_Z = ofInt 24 z :=
  (State.get_put_self ..).trans (trunc_of_lt (ofInt_lt 24 z))

theorem State.calWaitsFull_z (s : State) (z : Int) : (s.calWaitsFull z).get Reg.AUX_CAL_Z_Z = ofInt 24 z := by
  rw [State.calWaitsFull, State.get_put_of_id _ _ _ _ _ _ _ _ (by decide), State.get_setAux, State.get_put_calZ]

theorem State.calWaitsFull_aux (s : State) (z : Int) :
    (s.calWaitsFull z).aux = { s.aux with cal := { s.aux.cal with z := z, since := s.dtRef } } := rfl

theorem State.calWaitsFull_only (s : State) (z : Int) :
    OnlyFields [Reg.AUX_CAL_STATUS_STATE, Reg.AUX_CAL_Z_Z] s (s.calWaitsFull z) :=
  .put (u := (s.put Reg.AUX_CAL_Z_Z (ofInt 24 z)).setAux _) _ _ _ _ (by decide)
    ((OnlyFields.put _ _ _ _ (by decide) (.refl _ s)).trans (.of_regs rfl))

end

/-! ### The two steps end without a flag -/

section
variable {s : State} {e g : Nat} {signals : List Int}

theorem State.calEnded_auxEn (h : s.auxEn = true) : (s.calEnded e).auxEn = true := ((s.calEnded_only e).flag (by decide) 0 0).trans h

/-- The measurement leaves FS as it is. -/
theorem State.calEnded_gain (s : State) (e : Nat) (signals : List Int) :
    calGain s.aux.cal.z (s.calMean e signals) (toInt 18 ((s.calEnded e).get Reg.AUX_CAL_FS_FS)) =
      calGain s.aux.cal.z (s.calMean e signals) (toInt 18 (s.get Reg.AUX_CAL_FS_FS)) := by
  rw [s.calEnded_only e _ _ _ (by decide)]

theorem State.auxEn_put {f : Fld} (hf : Reg.AUX_CTRL_EN.id ≠ f.id) (h : s.auxEn = true) (v : Nat) : (s.put f v).auxEn = true :=
  (State.flag_put_of_id hf).trans h

/-- The zero step measures Z and waits for FULL. -/
theorem auxCalStepEnd_of_zero (hbegun : s.aux.cal.begun = some e) (hst : s.get Reg.AUX_CAL_STATUS_STATE = 2) (hfull : s.aux.cal.full = false)
    (hz : s.aux.cal.zonly = false) (hclean : s.calFlagged e signals = false) :
    Does (.auxCalStepEnd signals) s fun t =>
      let d := (s.advanceTo (e + 64 + 125 * 2 ^ s.aux.cal.cavg + 5)).dtRef
      t.get Reg.AUX_CAL_STATUS_STATE = 3 ∧ t.get Reg.AUX_CAL_Z_Z = ofInt 24 (s.calMean e signals) ∧
      t.aux = { s.aux with
        cal := { s.aux.cal with begun := none, z := s.calMean e signals, since := d }
        pend := if s.runner.isNone then s.aux.pend.map (fun r => { r with edge := max r.edge d }) else s.aux.pend } ∧
      Only ([Reg.AUX_CAL_STATUS_STATE, Reg.AUX_CAL_Z_Z] ++ timeFields) s t
        { s.advanceTo (e + 64 + 125 * 2 ^ s.aux.cal.cavg + 5) with regs := t.regs, aux := t.aux } := by
  refine auxCalStepEnd_of_clean hbegun (State.calMeasures_of_zero hbegun hst) hclean ?_
  rw [State.calResult_of_zero hfull hz]
  refine ⟨State.calWaitsFull_state .., State.calWaitsFull_z .., ?_, rfl, ?_⟩
  · rw [State.calWaitsFull_aux, State.calEnded_aux]
    rfl
  · exact ((s.calEnded_only e).mono fun _ h => List.mem_append_right _ h).trans
      ((State.calWaitsFull_only _ _).mono fun _ h => List.mem_append_left _ h)

/-- The zero step with ZONLY gives OFFSET. -/
theorem auxCalStepEnd_of_zonly (hbegun : s.aux.cal.begun = some e) (hst : s.get Reg.AUX_CAL_STATUS_STATE = 2) (hfull : s.aux.cal.full = false)
    (hz : s.aux.cal.zonly = true) (hen : s.auxEn = true) (hclean : s.calFlagged e signals = false) :
    Does (.auxCalStepEnd signals) s fun t => t.get Reg.AUX_CAL_STATUS_STATE = 5 ∧ t.get Reg.AUX_INT_CAL_DONE = 1 ∧
      t.get Reg.AUX_CAL_Z_Z = ofInt 24 (s.calMean e signals) ∧ t.get Reg.AUX_STATUS_PENDING = 1 ∧
      t.shadowOf Reg.AUX_COEF_OFS_OFFSET 0 s.aux.cal.set = some (ofInt 24 (s.calMean e signals)) ∧
      t.shadowOf Reg.AUX_COEF_GAIN_GAIN 0 s.aux.cal.set = s.shadowOf Reg.AUX_COEF_GAIN_GAIN 0 s.aux.cal.set := by
  refine auxCalStepEnd_of_clean hbegun (State.calMeasures_of_zero hbegun hst) hclean ?_
  rw [State.calResult_of_zonly hfull hz]
  have hu : ((s.calEnded e).put Reg.AUX_CAL_Z_Z (ofInt 24 (s.calMean e signals))).auxEn = true :=
    State.auxEn_put (by decide) (State.calEnded_auxEn hen) _
  refine ⟨State.calDone_state .., State.calDone_int .., ?_, State.calDone_pending hu _, State.calDone_offset hu _, ?_⟩
  · exact (State.calDone_only hu none _ _ _ (by decide)).trans (State.get_put_calZ ..)
  · exact (State.calDone_gain_of_none hu).trans (State.shadowOf_congr (s.calEnded_shadow e) ..)

/-- The full step gives OFFSET and GAIN. -/
theorem auxCalStepEnd_of_gain (hbegun : s.aux.cal.begun = some e) (hst : s.get Reg.AUX_CAL_STATUS_STATE = 4) (hfull : s.aux.cal.full = true)
    (hen : s.auxEn = true) (hclean : s.calFlagged e signals = false)
    (hg : calGain s.aux.cal.z (s.calMean e signals) (toInt 18 (s.get Reg.AUX_CAL_FS_FS)) = some g) :
    Does (.auxCalStepEnd signals) s fun t => t.get Reg.AUX_CAL_STATUS_STATE = 5 ∧ t.get Reg.AUX_INT_CAL_DONE = 1 ∧
      t.get Reg.AUX_STATUS_PENDING = 1 ∧ t.shadowOf Reg.AUX_COEF_OFS_OFFSET 0 s.aux.cal.set = some (ofInt 24 s.aux.cal.z) ∧
      t.shadowOf Reg.AUX_COEF_GAIN_GAIN 0 s.aux.cal.set = some g ∧
      t.get Reg.AUX_COEF_GAIN_GAIN 0 s.aux.cal.set = s.get Reg.AUX_COEF_GAIN_GAIN 0 s.aux.cal.set := by
  refine auxCalStepEnd_of_clean hbegun (State.calMeasures_of_full hbegun hst) hclean ?_
  rw [State.calResult_of_gain hfull ((s.calEnded_gain e signals).trans hg)]
  have hu : ((s.calEnded e).put Reg.AUX_CAL_F_F (ofInt 24 (s.calMean e signals))).auxEn = true :=
    State.auxEn_put (by decide) (State.calEnded_auxEn hen) _
  refine ⟨State.calDone_state .., State.calDone_int .., State.calDone_pending hu _, State.calDone_offset hu _,
    State.calDone_gain_of_some hu (calGain_lt hg), ?_⟩
  rw [State.calDone_only hu _ _ _ _ (by decide), State.get_put_of_id _ _ _ _ _ _ _ _ (by decide), s.calEnded_only e _ _ _ (by decide)]

/-- A full step for which no GAIN exists ends the calibration with ERR 4. -/
theorem auxCalStepEnd_of_no_gain (hbegun : s.aux.cal.begun = some e) (hst : s.get Reg.AUX_CAL_STATUS_STATE = 4) (hfull : s.aux.cal.full = true)
    (hclean : s.calFlagged e signals = false) (hg : calGain s.aux.cal.z (s.calMean e signals) (toInt 18 (s.get Reg.AUX_CAL_FS_FS)) = none) :
    Does (.auxCalStepEnd signals) s fun t => t.get Reg.AUX_CAL_STATUS_STATE = 6 ∧ t.get Reg.AUX_CAL_STATUS_ERR = 4 ∧
      t.get Reg.AUX_INT_CAL_ERR = 1 ∧ t.shadow = s.shadow := by
  refine auxCalStepEnd_of_clean hbegun (State.calMeasures_of_full hbegun hst) hclean ?_
  rw [State.calResult_of_no_gain hfull ((s.calEnded_gain e signals).trans hg)]
  exact ⟨State.calFail_state .., State.calFail_err _ (by decide), State.calFail_int .., s.calEnded_shadow e⟩

end

theorem auxCalTimeout_of_waits {s : State} (h : s.get Reg.AUX_CAL_STATUS_STATE = 3) : Does .auxCalTimeout s fun t =>
    t = (s.advanceTo (s.aux.cal.since + 250000000 * max 1 (s.get Reg.AUX_CAL_CFG_TMO))).calFail 5 :=
  .of_next rfl (if_pos h)

end Sys2Proof.Machine
end

/-! ## Converter checks -/

section
namespace Sys2Proof.Machine

/-! ### The grid -/

section
variable {l : List Fld} {s u : State}

theorem OnlyFields.etOff (h : OnlyFields l s u) (hsec : Reg.TIM_ETOFF_SEC_SEC.id ∉ l.map (·.id)) (hns : Reg.TIM_ETOFF_NS_NS.id ∉ l.map (·.id)) :
    u.etOff = s.etOff := by
  rw [State.etOff, h _ _ _ hsec, h _ _ _ hns, State.etOff]

/-- The grid is where ET_OFF has it. -/
theorem State.gridAfter_congr (h : u.etOff = s.etOff) (a p : Nat) : u.gridAfter a p = s.gridAfter a p := by
  simp only [State.gridAfter, State.etOf, h]

theorem OnlyFields.auxTickNs (h : OnlyFields l s u) (htick : Reg.AUX_SEQ_CFG_TICK.id ∉ l.map (·.id)) : u.auxTickNs = s.auxTickNs := by
  rw [State.auxTickNs, h _ _ _ htick, State.auxTickNs]

end

/-! ### The check and the read of the reference (R315) -/

section
variable (s : State)

/-- The edge at which the converters are compared next. -/
def State.checkEdge : Nat := s.gridAfter (s.aux.checkAt + 2 ^ 20 - 1) s.auxTickNs

/-- The converters have been compared at edge `e`. -/
def State.comparedAt (e : Nat) : State :=
  let u := s.advanceTo e
  u.setAux { u.aux with checkAt := e }

/-- The codes lay too far apart at edge `e`, and the converters read the reference at the tick that follows. -/
def State.mismatchedAt (e : Nat) : State :=
  let u := (s.comparedAt e).acount Reg.AUX_MISMATCH_COUNT
  u.advanceTo (u.gridAfter e u.auxTickNs)

/-- Converters are compared only while both are in service and none of them measures. -/
def State.comparable : Bool :=
  s.auxEn && !s.flag Reg.AUX_STATUS_MAIN_FAIL && !s.flag Reg.AUX_STATUS_SPARE_FAIL && !s.calMeasures

variable (e : Nat)

theorem State.comparedAt_eq : s.comparedAt e = { s.advanceTo e with regs := (s.comparedAt e).regs, aux := (s.comparedAt e).aux } := rfl

theorem State.comparedAt_aux : (s.comparedAt e).aux = { s.aux with checkAt := e } := by
  rw [State.comparedAt, State.setAux_aux, State.advanceTo_aux]

theorem State.comparedAt_only : OnlyFields timeFields s (s.comparedAt e) := .setAux (.advanceTo _ (fun _ h => h) (.refl _ s)) _

/-- What a mismatch changes until the reference is read. -/
def mismatchFields : List Fld := [Reg.AUX_MISMATCH_COUNT, Reg.AUX_INT_CNT_SAT] ++ timeFields

theorem State.acount_mismatch_only : OnlyFields mismatchFields s ((s.comparedAt e).acount Reg.AUX_MISMATCH_COUNT) :=
  .bump _ _ _ _ _ _ (by decide) (by decide) ((s.comparedAt_only e).mono fun _ h => List.mem_append_right _ h)

theorem State.mismatchedAt_only : OnlyFields mismatchFields s (s.mismatchedAt e) :=
  .advanceTo _ (fun _ h => List.mem_append_right _ h) (s.acount_mismatch_only e)

theorem State.mismatchedAt_aux : (s.mismatchedAt e).aux = { s.aux with checkAt := e } := by
  rw [State.mismatchedAt, State.advanceTo_aux, State.acount, State.bump_eq]
  exact s.comparedAt_aux e

theorem State.mismatchedAt_count :
    (s.mismatchedAt e).get Reg.AUX_MISMATCH_COUNT = min (2 ^ 32 - 1) (s.get Reg.AUX_MISMATCH_COUNT + 1) := by
  rw [State.mismatchedAt, State.get_advanceTo _ _ _ _ _ (by decide), State.acount, State.bump_get _ _ _ _ _ _ _ (by decide),
    s.comparedAt_only e _ _ _ (by decide), Nat.min_comm]
  rfl

theorem State.mismatchedAt_dtRef :
    (s.mismatchedAt e).dtRef = ((s.advanceTo e).advanceTo (s.gridAfter e s.auxTickNs)).dtRef := by
  rw [State.mismatchedAt, (s.acount_mismatch_only e).auxTickNs (by decide),
    State.gridAfter_congr ((s.acount_mismatch_only e).etOff (by decide) (by decide)), State.advanceTo_dtRef, State.acount, State.dtRef_bump]
  rfl

theorem State.mismatchedAt_calMeasures : (s.mismatchedAt e).calMeasures = s.calMeasures :=
  State.calMeasures_congr (by rw [State.mismatchedAt_aux]) (s.mismatchedAt_only e _ _ _ (by decide))

end

section
variable {s : State}

theorem State.comparable_iff : s.comparable = true ↔ s.auxEn = true ∧ s.flag Reg.AUX_STATUS_MAIN_FAIL = false ∧
    s.flag Reg.AUX_STATUS_SPARE_FAIL = false ∧ s.calMeasures = false := by
  simp only [State.comparable, Bool.and_eq_true, Bool.not_eq_true', and_assoc]

theorem State.comparable_eq_false (h : s.auxEn = false ∨ s.get Reg.AUX_STATUS_MAIN_FAIL ≠ 0 ∨ s.get Reg.AUX_STATUS_SPARE_FAIL ≠ 0 ∨
    s.calMeasures = true) : s.comparable = false := by
  refine eq_false_of_ne_true fun hc => ?_
  obtain ⟨hen, hmain, hspare, hcal⟩ := State.comparable_iff.1 hc
  rcases h with h | h | h | h
  · exact absurd hen (ne_true_of_eq_false h)
  · exact h (State.get_eq_zero_of_flag hmain)
  · exact h (State.get_eq_zero_of_flag hspare)
  · exact absurd h (ne_true_of_eq_false hcal)

theorem natAbs_sub_gt_iff (a b : Int) : 32 < a - b ∨ 32 < b - a ↔ 32 < (a - b).natAbs := by omega

theorem refBad_iff (uV : Int) : refBad uV = true ↔ 1024 < (uV - 2048000).natAbs := by
  rw [refBad, decide_eq_true_iff]

theorem refBad_eq_false {uV : Int} (h : (uV - 2048000).natAbs ≤ 1024) : refBad uV = false :=
  eq_false_of_ne_true (mt (refBad_iff uV).1 (Nat.not_lt.2 h))

variable {main spare mainRef spareRef : Int}

theorem auxConverterCheck_of_not_comparable (h : s.comparable = false) :
    Does (.auxConverterCheck main spare mainRef spareRef) s fun t => t = s :=
  .of_next rfl (if_neg (ne_true_of_eq_false h))

theorem auxConverterCheck_of_near (h : s.comparable = true) (hnear : (main - spare).natAbs ≤ 32) :
    Does (.auxConverterCheck main spare mainRef spareRef) s fun t => t = s.comparedAt s.checkEdge :=
  .of_next rfl ((if_pos h).trans (if_neg (mt (natAbs_sub_gt_iff main spare).1 (Nat.not_lt.2 hnear))))

/-- Each converter whose reading of the reference is out of bounds is marked. -/
theorem auxConverterCheck_of_far (h : s.comparable = true) (hfar : 32 < (main - spare).natAbs) :
    Does (.auxConverterCheck main spare mainRef spareRef) s fun t =>
      t = ((s.mismatchedAt s.checkEdge).cond (refBad mainRef) (·.convFails false)).cond (refBad spareRef) (·.convFails true) :=
  .of_next rfl ((if_pos h).trans (if_pos ((natAbs_sub_gt_iff main spare).2 hfar)))

end

/-! ### The main converter fails with the spare in service (R315, R499, R512) -/

section
variable {s : State}

/-- The main converter is marked failed. -/
def State.mainMarked (s : State) : State := (s.put Reg.AUX_STATUS_MAIN_FAIL 1).put Reg.AUX_INT_CONV_FAIL 1

/-- It is out of service, and the spare is brought in. -/
def State.mainReplaced (s : State) : State := (s.mainMarked.unitOut 0xA 0).bringSpare 0xA 0 0

theorem State.mainReplaced_only (s : State) : OnlyFields spareFields s.mainMarked s.mainReplaced :=
  (s.mainMarked.unitOut_only 0xA 0).mono (fun _ h => List.mem_append_right _ h) |>.trans
    (State.bringSpare_only (s.mainMarked.unitOut 0xA 0) 0xA 0 0)

theorem State.mainReplaced_fault_only (s : State) : OnlyFields (spareFields ++ faultFields) s.mainMarked (s.mainReplaced.fault 0x13 0) :=
  (s.mainReplaced_only.mono fun _ h => List.mem_append_left _ h).trans
    ((s.mainReplaced.fault_only 0x13 0 (by decide)).mono fun _ h => List.mem_append_right _ h)

theorem State.mainReplaced_fault_aux (s : State) : (s.mainReplaced.fault 0x13 0).aux = s.aux := by
  obtain ⟨_, _, hfault⟩ := s.mainReplaced.fault_eq 0x13 0 (by decide)
  obtain ⟨_, _, _, hbring⟩ := (s.mainMarked.unitOut 0xA 0).bringSpare_eq 0xA 0 0
  obtain ⟨_, _, hout⟩ := s.mainMarked.unitOut_eq 0xA 0
  rw [hfault, State.lowers, State.mainReplaced, hbring, hout]
  rfl

theorem State.mainMarked_spare (s : State) : s.mainMarked.flag Reg.AUX_STATUS_SPARE_FAIL = s.flag Reg.AUX_STATUS_SPARE_FAIL := by
  rw [State.mainMarked, State.flag_put_of_id (by decide), State.flag_put_of_id (by decide)]

theorem State.mainMarked_main (s : State) : s.mainMarked.get Reg.AUX_STATUS_MAIN_FAIL = 1 := by
  rw [State.mainMarked, State.get_put_of_id _ _ _ _ _ _ _ _ (by decide), State.get_put_self]
  rfl

theorem State.convFails_of_main (hmain : s.flag Reg.AUX_STATUS_MAIN_FAIL = false) (hspare : s.flag Reg.AUX_STATUS_SPARE_FAIL = false) :
    s.convFails false = s.mainReplaced.fault 0x13 0 := by
  have hout : (s.mainMarked.unitOut 0xA 0).flag Reg.AUX_STATUS_SPARE_FAIL = false :=
    ((s.mainMarked.unitOut_only 0xA 0).flag (by decide) 0 0).trans (s.mainMarked_spare.trans hspare)
  have hfault : (s.mainReplaced.fault 0x13 0).flag Reg.AUX_STATUS_SPARE_FAIL = false :=
    (s.mainReplaced_fault_only.flag (by decide) 0 0).trans (s.mainMarked_spare.trans hspare)
  have hbring : (s.mainMarked.unitOut 0xA 0).cond (!false && !(s.mainMarked.unitOut 0xA 0).flag Reg.AUX_STATUS_SPARE_FAIL)
      (·.bringSpare 0xA 0 0) = s.mainReplaced := by
    rw [hout]
    rfl
  refine (if_neg (ne_true_of_eq_false hmain)).trans ((if_neg fun hboth => ?_).trans (congrArg (·.fault 0x13 0) hbring))
  exact ne_true_of_eq_false ((congrArg (fun u => (u.fault 0x13 0).flag Reg.AUX_STATUS_SPARE_FAIL) hbring).trans hfault)
    (Bool.and_eq_true_iff.1 hboth).2

/-- The spare runs the sequence from then on. -/
theorem State.convFails_main_shows (hmain : s.flag Reg.AUX_STATUS_MAIN_FAIL = false) (hspare : s.flag Reg.AUX_STATUS_SPARE_FAIL = false)
    (hcal : s.calMeasures = false) :
    (s.convFails false).get Reg.AUX_STATUS_MAIN_FAIL = 1 ∧ (s.convFails false).get Reg.AUX_STATUS_SPARE_FAIL = 0 ∧
      (s.convFails false).get Reg.AUX_INT_CONV_FAIL = 1 ∧ (s.convFails false).runner = some true := by
  rw [State.convFails_of_main hmain hspare]
  have hget {f : Fld} (hf : f.id ∉ (spareFields ++ faultFields).map (·.id)) := s.mainReplaced_fault_only f 0 0 hf
  have hfail : (s.mainReplaced.fault 0x13 0).get Reg.AUX_STATUS_MAIN_FAIL = 1 := (hget (by decide)).trans s.mainMarked_main
  have hserves : (s.mainReplaced.fault 0x13 0).flag Reg.AUX_STATUS_SPARE_FAIL = false :=
    (s.mainReplaced_fault_only.flag (by decide) 0 0).trans (s.mainMarked_spare.trans hspare)
  have hstate : (s.mainReplaced.fault 0x13 0).get Reg.AUX_CAL_STATUS_STATE = s.get Reg.AUX_CAL_STATUS_STATE := by
    rw [hget (by decide), State.mainMarked, State.get_put_of_id _ _ _ _ _ _ _ _ (by decide), State.get_put_of_id _ _ _ _ _ _ _ _ (by decide)]
  have hidle : (s.mainReplaced.fault 0x13 0).calMeasures = false :=
    (State.calMeasures_congr (by rw [State.mainReplaced_fault_aux]) hstate).trans hcal
  refine ⟨hfail, State.get_eq_zero_of_flag hserves, (hget (by decide)).trans (State.get_put_self ..), ?_⟩
  simp only [State.runner, hidle, State.flag, hfail] at hserves ⊢
  simp [hserves]

end

/-! ### A mismatch whose cause the reference shows (R315) -/

section
variable {s : State} {main spare mainRef spareRef : Int}

/-- Both converters read the reference well: the mismatch is only counted. -/
theorem auxConverterCheck_of_refs_good (h : s.comparable = true) (hfar : 32 < (main - spare).natAbs)
    (hm : (mainRef - 2048000).natAbs ≤ 1024) (hp : (spareRef - 2048000).natAbs ≤ 1024) :
    Does (.auxConverterCheck main spare mainRef spareRef) s fun t => t = s.mismatchedAt s.checkEdge := by
  have hdoes := auxConverterCheck_of_far (mainRef := mainRef) (spareRef := spareRef) h hfar
  rwa [refBad_eq_false hm, refBad_eq_false hp, State.cond_false, State.cond_false] at hdoes

/-- Only the main converter misses the reference. -/
theorem auxConverterCheck_of_main_bad (h : s.comparable = true) (hfar : 32 < (main - spare).natAbs)
    (hm : 1024 < (mainRef - 2048000).natAbs) (hp : (spareRef - 2048000).natAbs ≤ 1024) :
    Does (.auxConverterCheck main spare mainRef spareRef) s fun t => t = (s.mismatchedAt s.checkEdge).convFails false := by
  have hdoes := auxConverterCheck_of_far (mainRef := mainRef) (spareRef := spareRef) h hfar
  rwa [(refBad_iff mainRef).2 hm, refBad_eq_false hp, State.cond_true, State.cond_false] at hdoes

end

/-- Settles O31: ZERO, FULL and ABORT as written, the two steps' ends by what their conversions carried, the timeout, and the check of the
converters by how far apart they are. -/
theorem auxCalibration : Obligations.AuxCalibration := by
  unfold Obligations.AuxCalibration
  refine ⟨?_, ?_, ?_, ?_, ?_, ?_, ?_, fun _ _ _ hbegun hm h => auxCalStepEnd_of_flagged hbegun hm (State.calFlagged_eq_true h),
    fun _ _ => auxCalStepEnd_of_not_measures, ?_, ?_, ?_, ?_,
    fun _ _ _ _ _ h => auxConverterCheck_of_not_comparable (State.comparable_eq_false h)⟩
  · intro val s hval hr
    refine ⟨fun h => ?_, fun hrun hok hen hmain hpend hidle => ?_, fun hrun hok hen hmain hpend => ?_, fun hrun hfault => ?_,
      fun hrun hok hmain hspare => ?_⟩
    · exact auxCalZero_of_runs hval hr h ⟨rfl, s.calFail_err (by decide), s.calFail_state 1⟩
    · refine auxCalZero_of_idle hval hr hrun ?_
      rw [State.calStep_of_idle (c := zeroStep val) hok hen hmain hpend hidle]
      exact ⟨State.calStepped_state (st := 2) (by decide), State.calStepped_err _, rfl, rfl, State.calStepped_only _⟩
    · refine auxCalZero_of_idle hval hr hrun ?_
      rw [State.calStep_of_pend (c := zeroStep val) hok hen hmain hpend]
      exact ⟨State.calStepped_state (by decide), rfl⟩
    · exact auxCalZero_of_idle hval hr hrun (State.calStep_of_fault (c := zeroStep val) hfault)
    · exact auxCalZero_of_idle hval hr hrun (State.calStep_of_failed (c := zeroStep val) hok hmain hspare)
  · intro val s hval hr
    refine ⟨fun hst hok hen hmain hpend hidle => auxCalFull_of_waits hval hr hst ?_, fun hst => ?_, fun hst => ?_⟩
    · rw [State.calStep_of_idle (c := { s.aux.cal with full := true }) hok hen hmain hpend hidle]
      exact ⟨State.calStepped_state (st := 4) (by decide), rfl⟩
    · have h := auxCalFull_of_not_waits hval hr (by omega)
      rwa [s.calRuns_of_state hst] at h
    · have h := auxCalFull_of_not_waits hval hr (by omega)
      rwa [s.calRuns_of_state hst] at h
  · intro val s hval hr
    have h := auxCalAbort_eq hval hr
    exact ⟨fun hrun => by rwa [hrun] at h, fun hrun => by rwa [hrun] at h⟩
  · intro signals e s hbegun hst hfull hz _ hbad hovr hclamp hwire
    exact auxCalStepEnd_of_zero hbegun hst hfull hz (State.calFlagged_eq_false hbad hovr hclamp hwire)
  · intro signals e s hbegun hst hfull hz _ hen _ hbad hovr hclamp hwire
    exact auxCalStepEnd_of_zonly hbegun hst hfull hz hen (State.calFlagged_eq_false hbad hovr hclamp hwire)
  · intro signals e g s hbegun hst hfull _ hen _ hbad hovr hclamp hwire hg
    exact auxCalStepEnd_of_gain hbegun hst hfull hen (State.calFlagged_eq_false hbad hovr hclamp hwire) hg
  · intro signals e s hbegun hst hfull _ hbad hovr hclamp hwire hg
    exact auxCalStepEnd_of_no_gain hbegun hst hfull (State.calFlagged_eq_false hbad hovr hclamp hwire) hg
  · intro s hst
    obtain ⟨t, ht, rfl⟩ := auxCalTimeout_of_waits hst
    exact ⟨_, ht, rfl, State.calFail_err _ (by decide)⟩
  · intro main spare mainRef spareRef s hen hmain hspare hcal hnear
    obtain ⟨t, ht, rfl⟩ := auxConverterCheck_of_near (State.comparable_iff.2 ⟨hen, hmain, hspare, hcal⟩) hnear
    exact ⟨_, ht, s.comparedAt_aux _, s.comparedAt_eq _, s.comparedAt_only _⟩
  · intro main spare mainRef spareRef s hen hmain hspare hcal hfar hm hp
    obtain ⟨t, ht, rfl⟩ := auxConverterCheck_of_refs_good (State.comparable_iff.2 ⟨hen, hmain, hspare, hcal⟩) hfar hm hp
    refine ⟨_, ht, s.mismatchedAt_aux _, s.mismatchedAt_count _, s.mismatchedAt_dtRef _, ?_, ?_⟩
    · exact (s.mismatchedAt_only _ _ _ _ (by decide)).trans (State.get_eq_zero_of_flag hmain)
    · exact (s.mismatchedAt_only _ _ _ _ (by decide)).trans (State.get_eq_zero_of_flag hspare)
  · intro main spare mainRef spareRef s hen hmain hspare hcal hfar hm hp
    obtain ⟨t, ht, rfl⟩ := auxConverterCheck_of_main_bad (State.comparable_iff.2 ⟨hen, hmain, hspare, hcal⟩) hfar hm hp
    exact ⟨_, ht, State.convFails_main_shows (((s.mismatchedAt_only _).flag (by decide) 0 0).trans hmain)
      (((s.mismatchedAt_only _).flag (by decide) 0 0).trans hspare) ((s.mismatchedAt_calMeasures _).trans hcal)⟩

end Sys2Proof.Machine
end

/-! ## Feedback inputs -/

section
namespace Sys2Proof.Machine

section
variable {s : State} {input n : Nat}

@[simp] theorem State.advanceTo_ctl (s : State) (d : Nat) : (s.advanceTo d).ctl = s.ctl := by rw [State.advanceTo_eq]
@[simp] theorem State.fbIn_advanceTo (s : State) (d i : Nat) : (s.advanceTo d).fbIn i = s.fbIn i := by simp [State.fbIn]

/-! ### A sample (R322) -/

theorem ctlFbSample_of_asleep (hi : input < 4) (h : s.awake = false) (nV : Int) : Does (.ctlFbSample input nV) s fun t => t = s :=
  .of_need rfl (decide_eq_true hi) (by rw [if_neg (by simp [h])])

theorem ctlFbSample_of_awake (hi : input < 4) (h : s.awake = true) (nV : Int) : Does (.ctlFbSample input nV) s fun t =>
    let x := s.fbIn input
    let e := s.gridNext x.last 1000 x.off
    t = (s.advanceTo e).setFb input { x with last := e, off := s.etOff, pend := x.pend ++ [(e, fbCode nV)] } :=
  .of_need rfl (decide_eq_true hi) (if_pos h)

/-! ### A result reaches every slot (R324) -/

/-- A result adds to what one slot has of an input: the sum, the count and the saturation. -/
def addResult (c : Int) (a : Int × Nat × Bool) : Int × Nat × Bool := (a.1 + c, a.2.1 + 1, a.2.2 || fbSat c)

/-- The results of each input in a slot, after one more of `input`. -/
def takeResult (input : Nat) (c : Int) (acc : List (Int × Nat × Bool)) : List (Int × Nat × Bool) :=
  acc.set input (addResult c (acc.getD input (0, 0, false)))

/-- A slot after one more result of `input`. -/
def Loop.take (input : Nat) (c : Int) (k : Loop) : Loop := { k with acc := takeResult input c k.acc }

theorem set_getD_eq_modify {α : Type} (l : List α) (n : Nat) (f : α → α) (d : α) : l.set n (f (l.getD n d)) = l.modify n f := by
  rcases Nat.lt_or_ge n l.length with h | h
  · rw [List.modify_eq_set_getElem?, List.getD_eq_getElem?_getD, List.getElem?_eq_getElem h]
    rfl
  · rw [List.set_eq_of_length_le h, List.modify_eq_self h]

/-- Members changed one after the other, from the first on, are changed together. -/
theorem foldl_modify_range {α : Type} (f : α → α) (l : List α) (m : Nat) :
    (List.range m).foldl (fun l n => l.modify n f) l = l.mapIdx fun n a => if n < m then f a else a := by
  induction m with
  | zero => exact (List.mapIdx_eq_iff.2 fun i => by simp).symm
  | succ m ih =>
    rw [List.range_succ, List.foldl_append, ih, List.foldl_cons, List.foldl_nil]
    refine List.ext_getElem (by simp) fun i _ _ => ?_
    simp only [List.getElem_modify, List.getElem_mapIdx, Nat.lt_succ_iff_lt_or_eq]
    by_cases hm : m = i
    · simp [hm]
    · simp [hm, Ne.symm hm]

/-- A change of slots in turn is a change of the list of slots. -/
theorem State.each_setLoop (f : Loop → Loop) (ns : List Nat) (s : State) : (s.each ns fun s n => s.setLoop n (f (s.loop n))) =
    s.setCtl { s.ctl with loop := ns.foldl (fun l n => l.modify n f) s.ctl.loop } := by
  induction ns generalizing s with
  | nil => rfl
  | cons n ns ih =>
    rw [State.each_cons, ih, List.foldl_cons, ← set_getD_eq_modify s.ctl.loop n f {}]
    rfl

/-- A result leaves its input and adds to every slot. -/
theorem State.fbGive_eq (s : State) (input : Nat) (c : Int) : s.fbGive input c = s.setCtl { s.ctl with
    fb := s.ctl.fb.set input { s.fbIn input with pend := (s.fbIn input).pend.tail, latest := c }
    loop := s.ctl.loop.mapIdx fun n k => if n < 4 then k.take input c else k } := by
  rw [← foldl_modify_range]
  exact State.each_setLoop (Loop.take input c) (List.range 4) _

theorem ctlFbResult_of_pending {e : Nat} {c : Int} (hi : input < 4) (h : (s.fbIn input).pend.head? = some (e, c)) :
    Does (.ctlFbResult input) s fun t => t = (s.advanceTo (e + 200)).fbGive input c := by
  obtain ⟨l, hl⟩ := List.head?_eq_some_iff.1 h
  refine .of_need rfl (decide_eq_true hi) ?_
  rw [hl]

end

end Sys2Proof.Machine
end

/-! ## Pulse counters -/

section
namespace Sys2Proof.Machine

/-! ### The order of the two phases (R323) -/

/-- How many places the two phases move on, in the order in which A leads B. -/
def quadratureTurn (p : Bool × Bool) (step dir : Bool) : Nat := (quadrature step dir + 4 - quadrature p.1 p.2) % 4

/-- From the phases `p` one phase changes so that A leads B. -/
abbrev Leads (p : Bool × Bool) (step dir : Bool) : Prop :=
  (p = (false, false) ∧ step = true ∧ dir = false) ∨ (p = (true, false) ∧ step = true ∧ dir = true) ∨
    (p = (true, true) ∧ step = false ∧ dir = true) ∨ (p = (false, true) ∧ step = false ∧ dir = false)

section
variable {p : Bool × Bool} {step dir : Bool}

theorem quadratureTurn_of_both (ha : p.1 ≠ step) (hb : p.2 ≠ dir) : quadratureTurn p step dir = 2 := by decide +revert

theorem quadratureTurn_of_none (h : p = (step, dir)) : quadratureTurn p step dir = 0 := by decide +revert

theorem quadratureTurn_of_one (h : p.1 = step ∨ p.2 = dir) (hne : p ≠ (step, dir)) :
    quadratureTurn p step dir = if Leads p step dir then 1 else 3 := by decide +revert

end

/-! ### What a counter does with a change of its pins (R323) -/

/-- A counter's pins take new levels. -/
def State.pinsTo (s : State) (k : Nat) (step dir : Bool) : State := s.setCtl { s.ctl with pins := s.ctl.pins.set k (step, dir) }

/-- A quadrature counter takes a move of its phases by `turn` places. -/
def State.turned (s : State) (k turn : Nat) : State :=
  match turn with
  | 1 => s.pcntAdd k true
  | 3 => s.pcntAdd k false
  | 2 => s.ctlCount Reg.CTL_PCNT_ERR_COUNT
  | _ => s

/-- A counter takes the new levels of its pins, which were at the phases `p`, as its MODE has it. -/
def State.counted (s : State) (k : Nat) (p : Bool × Bool) (step dir : Bool) : State :=
  match s.pcntMode k with
  | 1 => if step && !p.1 then s.pcntAdd k dir else s
  | 2 => s.turned k (quadratureTurn p step dir)
  | _ => s

section
variable {s : State} {k ns turn : Nat} {p : Bool × Bool} {step dir up : Bool}

theorem State.counted_of_off (h : s.pcntMode k = 0) : s.counted k p step dir = s := by simp only [State.counted, h]

theorem State.counted_of_steps (h : s.pcntMode k = 1) :
    s.counted k p step dir = if step && !p.1 then s.pcntAdd k dir else s := by simp only [State.counted, h]

theorem State.counted_of_phases (h : s.pcntMode k = 2) :
    s.counted k p step dir = s.turned k (quadratureTurn p step dir) := by simp only [State.counted, h]

theorem pulseCountEdge_of_short (hk : k < 4) (hns : ns < 8) : Does (.pulseCountEdge k step dir ns) s fun t => t = s :=
  .of_need rfl (decide_eq_true hk) (if_pos hns)

theorem exec_pulseCountEdge_of_long (hk : k < 4) (hns : 8 ≤ ns) : exec (.pulseCountEdge k step dir ns) s = .next
    (if !s.awake then s.pinsTo k step dir else (s.pinsTo k step dir).counted k (s.ctl.pins.getD k (false, false)) step dir) := by
  have hneed : exec (.pulseCountEdge k step dir ns) s = need (decide (k < 4)) (if ns < 8 then s else
      if !s.awake then s.pinsTo k step dir else (s.pinsTo k step dir).counted k (s.ctl.pins.getD k (false, false)) step dir) := rfl
  rw [hneed, decide_eq_true hk, need_true, if_neg hns.not_gt]

theorem pulseCountEdge_of_off (hk : k < 4) (hns : 8 ≤ ns) (h : s.awake = false ∨ s.pcntMode k = 0) :
    Does (.pulseCountEdge k step dir ns) s fun t => t = s.pinsTo k step dir := by
  refine .of_next (exec_pulseCountEdge_of_long hk hns) ?_
  rcases h with h | h
  · rw [h]
    rfl
  · rw [State.counted_of_off (s := s.pinsTo k step dir) h, ite_self]

theorem pulseCountEdge_of_steps (hk : k < 4) (hns : 8 ≤ ns) (hawake : s.awake = true) (hmode : s.pcntMode k = 1) :
    Does (.pulseCountEdge k step dir ns) s fun t =>
      t = if step && !(s.ctl.pins.getD k (false, false)).1 then (s.pinsTo k step dir).pcntAdd k dir else s.pinsTo k step dir := by
  refine .of_next (exec_pulseCountEdge_of_long hk hns) ?_
  rw [hawake, State.counted_of_steps (s := s.pinsTo k step dir) hmode]
  rfl

theorem pulseCountEdge_of_phases (hk : k < 4) (hns : 8 ≤ ns) (hawake : s.awake = true) (hmode : s.pcntMode k = 2) :
    Does (.pulseCountEdge k step dir ns) s fun t => t = (s.pinsTo k step dir).turned k (quadratureTurn (s.ctl.pins.getD k (false, false)) step dir) := by
  refine .of_next (exec_pulseCountEdge_of_long hk hns) ?_
  rw [hawake, State.counted_of_phases (s := s.pinsTo k step dir) hmode]
  rfl

/-! ### The counts (R323) -/

/-- A count goes up or down by one, modulo 2^32. -/
theorem State.pcntAdd_count (s : State) (k : Nat) (up : Bool) : (s.pcntAdd k up).get Reg.CTL_PCNT_COUNT k =
    if up then (s.get Reg.CTL_PCNT_COUNT k + 1) % 2 ^ 32 else (s.get Reg.CTL_PCNT_COUNT k + 2 ^ 32 - 1) % 2 ^ 32 := by
  have hwidth : Reg.CTL_PCNT_COUNT.width = 32 := rfl
  rw [State.pcntAdd, State.get_put_self, trunc, hwidth]
  cases up
  · rw [if_neg Bool.false_ne_true, if_neg Bool.false_ne_true, Nat.add_sub_assoc Nat.one_le_two_pow]
  · rw [if_pos rfl, if_pos rfl]

theorem State.pcntAdd_regsOnly {l : List Fld} (hl : Reg.CTL_PCNT_COUNT ∈ l) (s : State) (k : Nat) (up : Bool) :
    RegsOnly l s (s.pcntAdd k up) := .put s _ _ _ _ hl

/-- A move by two places is an error. -/
theorem State.turned_two_err (s : State) (k : Nat) :
    (s.turned k 2).get Reg.CTL_PCNT_ERR_COUNT = min (2 ^ 32 - 1) (s.get Reg.CTL_PCNT_ERR_COUNT + 1) :=
  (s.bump_get _ _ _ _ _ _ (by decide)).trans (min_comm _ _)

theorem State.turned_two_regsOnly (s : State) (k : Nat) : RegsOnly [Reg.CTL_PCNT_ERR_COUNT, Reg.CTL_INT_CNT_SAT] s (s.turned k 2) :=
  .bump s _ _ _ _ _ _ (by decide) (by decide)

theorem State.turned_one_or_three (s : State) (k : Nat) (c : Prop) [Decidable c] :
    s.turned k (if c then 1 else 3) = s.pcntAdd k (decide c) := by
  by_cases h : c
  · rw [if_pos h, decide_eq_true h]
    rfl
  · rw [if_neg h, decide_eq_false h]
    rfl

theorem State.turned_regsOnly (s : State) (k turn : Nat) :
    RegsOnly [Reg.CTL_PCNT_COUNT, Reg.CTL_PCNT_ERR_COUNT, Reg.CTL_INT_CNT_SAT] s (s.turned k turn) := by
  unfold State.turned
  split
  · exact s.pcntAdd_regsOnly (by decide) ..
  · exact s.pcntAdd_regsOnly (by decide) ..
  · exact (s.turned_two_regsOnly k).mono (by decide)
  · exact .refl _ s

/-- After a change of a counter's pins only the registers that it changes differ. -/
theorem Only.of_pinsTo {l : List Fld} {t : State} (h : RegsOnly l (s.pinsTo k step dir) t) :
    t.ctl = { s.ctl with pins := s.ctl.pins.set k (step, dir) } ∧ Only l s t { s with ctl := t.ctl, regs := t.regs } := by
  have hctl : t.ctl = (s.pinsTo k step dir).ctl := by rw [h.1]
  refine ⟨hctl, ?_, h.2⟩
  rw [hctl]
  exact h.1

end

end Sys2Proof.Machine
end

/-! ## The statement of the inputs -/

section
namespace Sys2Proof.Machine

/-- Settles O32, clause by clause; the slots that a result reaches are changed together, and the places of the two phases say which
transitions count. -/
theorem controlInputs : Obligations.ControlInputs := by
  unfold Obligations.ControlInputs
  refine ⟨fun input nV s hi => ⟨fun h => ctlFbSample_of_asleep hi h nV, fun h => ctlFbSample_of_awake hi h nV⟩, ?_, ?_, ?_,
    fun k ns step dir s hk hns h => pulseCountEdge_of_off hk hns h, fun k ns step dir s hk hns => pulseCountEdge_of_short hk hns⟩
  · intro input e c s hi h
    obtain ⟨t, ht, rfl⟩ := ctlFbResult_of_pending hi h
    refine ⟨_, ht, ?_⟩
    rw [State.fbGive_eq, State.fbIn_advanceTo]
    refine ⟨rfl, rfl, rfl, rfl, List.ext_getElem (by simp) fun i _ _ => ?_⟩
    simp only [State.setCtl_ctl, List.getElem_map, List.getElem_mapIdx, apply_ite Loop.acc]
    rfl
  · intro k m ns step dir s hk hns hawake hmode
    obtain ⟨t, ht, rfl⟩ := pulseCountEdge_of_steps hk hns hawake hmode
    refine ⟨_, ht, ?_⟩
    cases hup : step && !(s.ctl.pins.getD k (false, false)).1
    · obtain ⟨hctl, honly⟩ := Only.of_pinsTo (k := k) (step := step) (dir := dir) (.refl [Reg.CTL_PCNT_COUNT] (s.pinsTo k step dir))
      simp only [Bool.false_eq_true, if_false]
      exact ⟨hctl, rfl, fun _ => rfl, honly⟩
    · obtain ⟨hctl, honly⟩ := Only.of_pinsTo (State.pcntAdd_regsOnly (.head []) (s.pinsTo k step dir) k dir)
      simp only [if_true]
      exact ⟨hctl, State.pcntAdd_count _ k dir, fun hm => State.get_put_of_inst _ _ _ _ _ _ _ (.inl hm), honly⟩
  · intro k ns step dir s hk hns hawake hmode
    obtain ⟨t, ht, rfl⟩ := pulseCountEdge_of_phases (step := step) (dir := dir) hk hns hawake hmode
    obtain ⟨hctl, honly⟩ := Only.of_pinsTo (State.turned_regsOnly _ k (quadratureTurn (s.ctl.pins.getD k (false, false)) step dir))
    refine ⟨_, ht, hctl, fun ha hb => ?_, fun h => ?_, fun h hne => ?_, honly⟩
    · rw [quadratureTurn_of_both ha hb]
      exact ⟨(State.turned_two_regsOnly _ k).2 _ _ _ (by decide), State.turned_two_err _ k⟩
    · rw [quadratureTurn_of_none h]
      rfl
    · rw [quadratureTurn_of_one h hne, State.turned_one_or_three]
      refine ⟨?_, (State.pcntAdd_regsOnly (.head []) _ k _).2 _ _ _ (by decide)⟩
      rw [State.pcntAdd_count]
      simp only [decide_eq_true_eq]
      rfl

end Sys2Proof.Machine
end

/-! ## The profile generator -/

section
namespace Sys2Proof.Machine

/-! ### Limits (R331) -/

theorem abs_clampTo_le {m : Int} (h : 0 ≤ m) (x : Int) : |clampTo m x| ≤ m := abs_le.2 (clampInt_bounds h x)

theorem clampTo_of_le {m x : Int} (h : |x| ≤ m) : clampTo m x = x := by
  obtain ⟨hlo, hhi⟩ := abs_le.1 h
  rw [clampTo, min_eq_right hhi, max_eq_right hlo]

/-- From a value within the limits a limited step is no longer than the step. -/
theorem abs_clampTo_add_sub_le {m v : Int} (h : |v| ≤ m) (a : Int) : |clampTo m (v + a) - v| ≤ |a| := by
  have hstep : |clampTo m (v + a) - clampTo m v| ≤ |a| := by
    rw [Int.abs_eq_natAbs, Int.abs_eq_natAbs]
    exact Int.ofNat_le.2 (clampInt_add_sub ((abs_nonneg v).trans h) v a)
  rwa [clampTo_of_le h] at hstep

@[simp] theorem wrapDiff_zero (w : Bool) (k : Nat) : wrapDiff w k 0 = 0 := by
  have hlt : (2 : Int) ^ (31 + k) < 2 ^ (32 + k) := pow_lt_pow_right₀ (by decide) (by omega)
  rw [wrapDiff, zero_add, Int.emod_eq_of_lt (by positivity) hlt, sub_self, ite_self]

/-! ### The branches of a period (R331) -/

/-- The target velocity w of a period. -/
def targetVelocity (w : Bool) (vmax : Nat) (x xPrev : Int) : Int := clampTo (vmax * 256) (wrapDiff w 0 (x - xPrev) * 2 ^ 24)

/-- The acceleration asked for by the error `e` and the velocity difference `r`. -/
def rampAcceleration (am e r : Int) : Int :=
  let sg := e * am + r * |r|
  if 0 < sg then am else if sg < 0 then -am else if 0 < r then am else if r < 0 then -am else 0

section
variable {w : Bool} {vmax amax : Nat} {x xPrev p v e r : Int}

theorem abs_rampAcceleration_le {am : Int} (h : 0 ≤ am) : |rampAcceleration am e r| ≤ am := by
  rw [abs_le, rampAcceleration]
  split_ifs <;> omega

/-- A command short of neither position nor velocity by more than AMAX lands. -/
theorem profile_of_land (hv : 0 < vmax) (ha : 0 < amax) (he : |wrapDiff w 25 (x * 2 ^ 25 - p)| ≤ 2 * (amax : Int))
    (hr : |targetVelocity w vmax x xPrev - v| ≤ (amax : Int)) :
    profile w vmax amax x xPrev p v = (x * 2 ^ 25, targetVelocity w vmax x xPrev, targetVelocity w vmax x xPrev - v) :=
  (if_neg hv.ne').trans <| (if_neg ha.ne').trans (if_pos ⟨he, hr⟩)

/-- Any other command accelerates within VMAX and advances by the mean of its velocities. -/
theorem profile_of_ramp (hv : 0 < vmax) (ha : 0 < amax)
    (h : ¬ (|wrapDiff w 25 (x * 2 ^ 25 - p)| ≤ 2 * (amax : Int) ∧ |targetVelocity w vmax x xPrev - v| ≤ (amax : Int))) :
    let v1 := clampTo (vmax * 256) (v + rampAcceleration amax (wrapDiff w 25 (x * 2 ^ 25 - p)) (targetVelocity w vmax x xPrev - v))
    profile w vmax amax x xPrev p v = (wrapDiff w 25 (p + (v + v1)), v1, v1 - v) :=
  (if_neg hv.ne').trans <| (if_neg ha.ne').trans (if_neg h)

/-- A command that moves within VMAX keeps to VMAX and AMAX, and advances by the mean of its velocities unless it lands. -/
theorem profile_keeps_limits (hv : 0 < vmax) (ha : 0 < amax) (hle : |v| ≤ (vmax : Int) * 256) :
    let q := profile w vmax amax x xPrev p v
    |q.2.1| ≤ (vmax : Int) * 256 ∧ |q.2.2| ≤ (amax : Int) ∧ q.2.1 = v + q.2.2 ∧ (q.1 = wrapDiff w 25 (p + v + q.2.1) ∨ q.1 = x * 2 ^ 25) := by
  have hm : (0 : Int) ≤ (vmax : Int) * 256 := by positivity
  by_cases h : |wrapDiff w 25 (x * 2 ^ 25 - p)| ≤ 2 * (amax : Int) ∧ |targetVelocity w vmax x xPrev - v| ≤ (amax : Int)
  · rw [profile_of_land hv ha h.1 h.2]
    exact ⟨abs_clampTo_le hm _, h.2, (add_sub_cancel _ _).symm, .inr rfl⟩
  · rw [profile_of_ramp hv ha h]
    refine ⟨abs_clampTo_le hm _, (abs_clampTo_add_sub_le hle _).trans (abs_rampAcceleration_le (Int.natCast_nonneg amax)),
      (add_sub_cancel _ _).symm, .inl ?_⟩
    rw [add_assoc]

/-- A stationary target. -/
theorem targetVelocity_self : targetVelocity w vmax x x = 0 := by
  rw [targetVelocity, sub_self, wrapDiff_zero, zero_mul, clampTo_of_le (by rw [abs_zero]; positivity)]

theorem profile_of_rest (hv : 0 < vmax) (ha : 0 < amax) : profile w vmax amax x x (x * 2 ^ 25) 0 = (x * 2 ^ 25, 0, 0) := by
  have hland := profile_of_land (w := w) (x := x) (xPrev := x) (p := x * 2 ^ 25) (v := 0) hv ha
    (by rw [sub_self, wrapDiff_zero, abs_zero]; positivity) (by rw [targetVelocity_self, sub_self, abs_zero]; positivity)
  rwa [targetVelocity_self, sub_self] at hland

/-- Behind the target and faster than it, a command is braked. -/
theorem rampAcceleration_of_neg {am : Int} (ham : 0 < am) (he : e < 0) (hr : r < 0) : rampAcceleration am e r = -am := by
  have hsg : e * am + r * |r| < 0 := add_neg (mul_neg_of_neg_of_pos he ham) (mul_neg_of_neg_of_pos hr (abs_pos.2 hr.ne))
  exact (if_neg hsg.le.not_gt).trans (if_pos hsg)

/-- A command that moves away from a stationary target, too fast to land, brakes at AMAX. -/
theorem profile_of_away (hv : 0 < vmax) (ha : 0 < amax) (hvpos : 0 < v) (hpast : x * 2 ^ 25 < p) (hfast : (amax : Int) < v)
    (hle : v ≤ (vmax : Int) * 256) : profile false vmax amax x x p v = (p + (v + (v - amax)), v - amax, v - amax - v) := by
  have hr : targetVelocity false vmax x x - v = -v := by rw [targetVelocity_self, zero_sub]
  have hfar : ¬ |targetVelocity false vmax x x - v| ≤ (amax : Int) := by
    rw [hr, abs_neg, abs_of_pos hvpos]
    exact hfast.not_ge
  have hramp := profile_of_ramp (p := p) hv ha fun h => hfar h.2
  have hbrake : rampAcceleration amax (x * 2 ^ 25 - p) (targetVelocity false vmax x x - v) = -amax :=
    rampAcceleration_of_neg (by omega) (by omega) (by omega)
  have hslower : |v - (amax : Int)| ≤ (vmax : Int) * 256 := by
    rw [abs_of_pos (by omega)]
    omega
  simpa only [wrapDiff, Bool.false_eq_true, if_false, hbrake, ← sub_eq_add_neg, clampTo_of_le hslower] using hramp

end

/-- Settles O35, by the branches of the generator: it lands, or accelerates within its limits. -/
theorem profileLimits : Obligations.ProfileLimits := by
  unfold Obligations.ProfileLimits
  refine ⟨fun _ _ _ _ _ _ _ hv ha hle => profile_keeps_limits hv ha hle, fun _ _ _ _ hv ha => profile_of_rest hv ha, ?_⟩
  intro vmax amax x xp p v hv ha hvpos hpast hstill hfast
  subst hstill
  dsimp only
  intro hle
  rw [profile_of_away hv ha hvpos hpast hfast hle]
  exact ⟨rfl, (add_assoc _ _ _).symm⟩

end Sys2Proof.Machine
end

/-! ## A commit of a slot that is off -/

section
namespace Sys2Proof.Machine

@[simp] theorem State.get_setLoop (s : State) (n : Nat) (l : Loop) (f : Fld) (i j : Nat) : (s.setLoop n l).get f i j = s.get f i j := rfl

/-- A write of COMMIT marks the slot, whatever its EN (R344). -/
theorem loopCommit_of_responds {n : Nat} {s : State} (hn : n < 4) (hr : s.responds (0x1C0154 + 0x80 * n) = true) :
    Does (.loopCommit n) s fun t => t = s.setLoop n { s.loop n with commit := true } :=
  .of_bar rfl (decide_eq_true hn) hr rfl

/-- Slot 0 was disabled while a new KP of 5 waited in its shadow copy. -/
def stagedOff : State := ok' (exec (.loopDisable 0 0) (ctlUp.stage Reg.CTL_Sn_KP_K 5 0))

/-- Refutes O33: the clause of COMMIT asks that the staged KP of a slot with EN = 0 is in force at once. In the model the write only marks
the slot, and the commit is made at the next period start edge, which a slot that is off does not have (R344): in `stagedOff` KP stays
3.0. -/
theorem not_controlPeriods : ¬ Obligations.ControlPeriods := by
  unfold Obligations.ControlPeriods
  rintro ⟨-, -, -, -, -, -, -, -, hcommit⟩
  have hr : stagedOff.responds 0x1C0154 = true := by decide +kernel
  obtain ⟨t, e, hkp, -⟩ := (hcommit 0 5 stagedOff (by decide) hr).2 (by decide +kernel) (by decide +kernel)
  obtain ⟨t', e', rfl⟩ := loopCommit_of_responds (n := 0) (by decide) hr
  cases e.symm.trans e'
  have hkept : stagedOff.get Reg.CTL_Sn_KP_K 0 = 0x30000 := by decide +kernel
  rw [State.get_setLoop, hkept] at hkp
  exact absurd hkp (by decide)

end Sys2Proof.Machine
end

/-! ## A safe value wider than its register -/

section
namespace Sys2Proof.Machine

/-- The inhibit holds the period of slot 0, and the register file holds 65,541 for its SAFE_OUT, a field of 16 bits. -/
def wideSafe : State :=
  (ctlRun.setLoop 0 { ctlRun.loop 0 with src := { y := 100, hold := 2 } }).putKeys [(⟨Reg.CTL_Sn_SAFE_SAFE_OUT.id, 0, 0⟩, 65541)]

/-- The output code in force is cut to its 16 bits. -/
theorem loopDeadline_wideSafe : (ok' (exec (.loopDeadline 0) wideSafe)).get Reg.CTL_Sn_OUT_OUT 0 = 5 := by decide +kernel

/-- Refutes O34: the clause of a held period asks that CTL_Sn_OUT reads the number stored for SAFE_OUT. Where the register file holds more
than the field's width, which the statement does not exclude, CTL_Sn_OUT takes its low 16 bits: in `wideSafe` 5 for 65,541. -/
theorem not_controlLaw : ¬ Obligations.ControlLaw := by
  unfold Obligations.ControlLaw
  rintro ⟨-, hheld, -⟩
  obtain ⟨t, e, hout, -⟩ := hheld 0 wideSafe (by decide) (by decide +kernel) (by decide +kernel) (by decide +kernel) (by decide +kernel)
    (by decide +kernel) (by decide +kernel) (by decide +kernel)
  have hcut := loopDeadline_wideSafe
  have hwide : wideSafe.get Reg.CTL_Sn_SAFE_SAFE_OUT 0 = 65541 := by decide +kernel
  rw [e, ok', hout, hwide] at hcut
  exact absurd hcut (by decide)

end Sys2Proof.Machine
end

/-! ## A loop record leaves a queue without room -/

section
namespace Sys2Proof.Machine

theorem ctlQueueRemove_queue {s : State} (hr : s.responds 0x1C004C = true) :
    Does .ctlQueueRemove s fun t => t.ctl.queue = s.ctl.queue.remove s.dtRef :=
  .of_next (congrArg Host.Outcome.next (State.bar_of_responds hr _)) rfl

/-- The queue holds 1,023 of its 1,024 loop records, the first of them held at the port. -/
def fullLoopRecords : State := up.setCtl { up.ctl with queue := { q := List.replicate 1023 (5, 6), snap := (5, 6), snapIn := true } }

/-- Refutes O36: the clause of a record's removal keeps everything of the queue but the record and the port's mark. A queue in which fewer
than two entries are free also takes the edge from which they are, by which a loss episode closes (R305, R342): in `fullLoopRecords`
edge 1 for 0. -/
theorem not_controlEnable : ¬ Obligations.ControlEnable := by
  unfold Obligations.ControlEnable
  rintro ⟨-, -, -, -, -, -, -, hremove, -⟩
  have hr : fullLoopRecords.responds 0x1C004C = true := by decide
  have hlen : fullLoopRecords.ctl.queue.q.length = 1023 := List.length_replicate
  have hfull : fullLoopRecords.ctl.queue.hasRoom = false := by simp [RecQ.hasRoom, hlen]
  obtain ⟨t, e, hqueue, -⟩ := hremove fullLoopRecords hr
  obtain ⟨t', e', hqueue'⟩ := ctlQueueRemove_queue hr
  cases e.symm.trans e'
  rw [RecQ.remove_of_full rfl hfull] at hqueue'
  have hroomAt : fullLoopRecords.ctl.queue.roomAt = fullLoopRecords.dtRef + 1 := congrArg RecQ.roomAt (hqueue.symm.trans hqueue')
  exact absurd hroomAt (by decide)

end Sys2Proof.Machine
end

/-! # The statements of chapters 12 to 18 and of every command

The proofs of this part are elaborated one after another: in parallel they would hold more memory than the check grants. -/

section
set_option Elab.async false

/-! ## Statements about a state that the model computes -/

section
namespace Sys2Proof.Machine

/-- What a statement says of the next state holds of the state the model computes. -/
theorem Does.computed {c : Instr} {s : State} {P : State → Prop} (h : Does c s P) : P (ok' (exec c s)) := by
  obtain ⟨t, e, ht⟩ := h
  rwa [e]

end Sys2Proof.Machine
end

/-! ## A safe input whose discrepancy time is 0 -/

section
namespace Sys2Proof.Machine

/-- Input 0 permits with both channels accepted and a common demand behind it, and its DISC is 0. -/
def zeroDisc : State := (safUp.put Reg.SAF_CFG_IN_DISC 0 0).setSafIn 0 { safUp.safIn 0 with seen := true }

/-- Refutes O37: the clause of an input's states asks that `seen` follows the two channels alone, whatever else the strobe does. With
DISC = 0, which the statement admits, channels that agree are at the limit: fault 0x1 latches, and an input that leaves PERMIT for FAULT
owes a common demand again (R352), so `seen` is false in `zeroDisc` where the clause has true. -/
theorem not_safetyInputs : ¬ Obligations.SafetyInputs := by
  unfold Obligations.SafetyInputs
  rintro ⟨-, -, -, hstates, -⟩
  obtain ⟨hseen, -⟩ := (hstates 1 1 0 0 false zeroDisc (by decide) (by decide +kernel) (by decide +kernel) (by decide +kernel)
    (by decide +kernel) (by decide +kernel) (by decide +kernel) (by decide +kernel)).computed
  revert hseen
  decide +kernel

end Sys2Proof.Machine
end

/-! ## A consumer's identity wider than its register -/

section
namespace Sys2Proof.Machine

/-- Connection 2 is a consumer that has heard no frame, and the register file holds 2^32 + 1 for its CONN_ID, a field of 32 bits. -/
def wideConn : State := (snufUp.setSafConn 2 {}).putKeys [(⟨Reg.SAF_CFG_CONN_ID_ID.id, 2, 0⟩, 2 ^ 32 + 1)]

/-- Refutes O39: the clause of an accepted frame builds it from the number stored for CONN_ID. Where the register file holds more than the
field's width, which the statement does not exclude, the frame carries its low 32 bits, which are no consumer's: in `wideConn` it counts as
BAD and not as OK (R361). -/
theorem not_snufferFrames : ¬ Obligations.SnufferFrames := by
  unfold Obligations.SnufferFrames
  rintro ⟨-, -, -, haccept, -⟩
  obtain ⟨-, hok, -⟩ := (haccept 2 1 0 0 wideConn (by decide) (by decide) (by decide +kernel) (by decide +kernel) (by decide +kernel)
    (by decide +kernel) (by decide +kernel) (by decide +kernel) (by decide +kernel) (by decide) (by decide)).computed
  revert hok
  decide +kernel

end Sys2Proof.Machine
end

/-! ## A refused commit by a Safety session -/

section
namespace Sys2Proof.Machine

theorem State.sess_auditPush (s : State) (e : AudEntry) (w : Option (Nat × Nat)) : (s.auditPush e w).sess = s.sess := by
  rw [s.auditPush_eq e w]

section
variable {s : State} {roles : List Nat} (hlive : s.sessionLive) (hrole : roles.contains s.role = true)
include hlive hrole

/-- A guarded write by one of its roles restarts the idle time of the session, whatever comes of it (R521). -/
theorem State.lastWrite_guarded (kind a old v act cause arg : Nat) :
    (s.guarded kind a old v act roles cause arg).sess.lastWrite = s.dtRef := by
  simp only [State.guarded, State.idleClose_of_live hlive, hrole, if_true, State.refuseGuarded]
  split_ifs <;> simp [State.sess_auditPush]

theorem State.lastWrite_guardedIn (flag : Fld) (kind a old v act cause arg : Nat) :
    (s.guardedIn flag kind a old v act roles cause arg).sess.lastWrite = s.dtRef := by
  simp only [State.guardedIn, State.idleClose_of_live hlive, State.cond]
  split <;> simp [State.lastWrite_guarded hlive hrole]

end

/-- A commit by the Safety role restarts the idle time of its session, whatever the checks say (R365, R521). -/
theorem safCommit_lastWrite {s : State} (hr : s.responds 0x1D0168 = true) (hlive : s.sessionLive) (hrole : s.role = 3) (val : Nat)
    (agree : Bool) : Does (.safCommit val agree) s fun t => t.sess.lastWrite = s.dtRef := by
  have hput (v : Nat) : (s.put Reg.SAF_COMMIT_ERR_ERR v).sessionLive ∧ [3].contains (s.put Reg.SAF_COMMIT_ERR_ERR v).role = true := by
    simp (disch := decide) only [State.sessionLive, State.role, State.get_put_of_id]
    exact ⟨hlive, by simpa [State.role] using hrole⟩
  refine .of_next (congrArg Host.Outcome.next (State.bar_of_responds hr _)) ?_
  simp only [State.idleClose_of_live hlive]
  exact State.lastWrite_guardedIn (hput _).1 (hput _).2 ..

/-- A Safety session is open whose last guarded write was at edge 0, and DT is at edge 1. -/
def safSessionLater : State := { safSession with dtRef := 1 }

/-- Refutes O40: the clause of a refused SAF_COMMIT keeps the session as it was. A guarded write of the session's own role restarts its idle
time, whatever comes of the write: in `safSessionLater` a commit on which the channels disagree (ERR 0x3) moves the session's last write
from edge 0 to edge 1 (R521). -/
theorem not_safetyCommissioning : ¬ Obligations.SafetyCommissioning := by
  unfold Obligations.SafetyCommissioning
  rintro ⟨hrefused, -⟩
  have hr : safSessionLater.responds 0x1D0168 = true := by decide +kernel
  have hlive : safSessionLater.sessionLive := by decide +kernel
  have hrole : safSessionLater.role = 3 := by decide +kernel
  obtain ⟨-, -, -, hsame, -⟩ :=
    (hrefused safSessionLater.safCheckValue 3 false safSessionLater hr hlive (by simp [hrole]) (by decide)).computed
  have hlast := (safCommit_lastWrite hr hlive hrole safSessionLater.safCheckValue false).computed
  rw [hsame] at hlast
  exact absurd (hlast : (0 : Nat) = 1) (by decide)

end Sys2Proof.Machine
end

/-! ## A beacon of a wide TINT -/

section
namespace Sys2Proof.Machine

/-- Port 1 is in BEACON, and the register file holds 16 for TINT, a field of 4 bits. -/
def wideTint : State := lnkBeacon.putKeys [(⟨Reg.LNK_CTRL_TINT.id, 0, 0⟩, 16)]

/-- Refutes O41: the clause of a beacon bounds every field it carries but TINT. Where the register file holds 16, which the statement admits
and reads as 0 in the beacon's four bits, the bit above them is the lowest of LH_ID: in `wideTint` the beacon has LH_ID 1 for 0. -/
theorem not_portTraining : ¬ Obligations.PortTraining := by
  unfold Obligations.PortTraining
  rintro ⟨-, -, -, hbeacon, -⟩
  obtain ⟨-, -, -, -, -, -, -, -, -, -, -, -, hlhId, -⟩ := ((hbeacon 1 wideTint (by decide) (by decide +kernel)).2 (by decide +kernel)
    (by decide +kernel) (by decide +kernel) (by decide +kernel) (by decide +kernel) (by decide +kernel) (by decide +kernel)
    (by decide +kernel) (by decide +kernel)).computed
  revert hlhId
  decide +kernel

end Sys2Proof.Machine
end

/-! ## A retrain tells the partner what it asks for -/

section
namespace Sys2Proof.Machine

/-- A bulk frame awaits its acknowledgement at port 1, and its next frame asks the partner for a replay. -/
def lnkNak : State := lnkOut.setLport 1 { lnkOut.lport 1 with bulk := { (lnkOut.lport 1).bulk with nak := true } }

/-- Its spare does not stand by. -/
def lnkNakAlone : State := lnkNak.put Reg.LNK_LANE_STATUS_USE 0 0 2

/-- Refutes O42: the clause of a lane that fails without a spare keeps both classes of the port as they were. The retrain sends a CTRL frame,
and a frame that leaves carries the request for a replay and clears it (R386, R389): in `lnkNakAlone`
`nak` falls. -/
theorem not_laneHealth : ¬ Obligations.LaneHealth := by
  unfold Obligations.LaneHealth
  rintro ⟨-, -, hfails, -⟩
  obtain ⟨-, -, hretrain⟩ := hfails 0 1 lnkNakAlone (by decide) (by decide +kernel) (by decide +kernel) (by decide +kernel)
    (by decide +kernel) (by decide +kernel)
  obtain ⟨-, -, -, hbulk, -⟩ := (hretrain (by decide +kernel)).computed
  revert hbulk
  decide +kernel

/-- Refutes O43: the clause of a port without progress keeps both classes of the port as they were. The retrain sends a CTRL frame, and a
frame that leaves carries the request for a replay and clears it (R386, R389): in `lnkNak` `nak` falls. -/
theorem not_linkFrames : ¬ Obligations.LinkFrames := by
  unfold Obligations.LinkFrames
  rintro ⟨-, -, -, -, -, -, -, hprogress, -⟩
  obtain ⟨-, -, hbulk, -⟩ := ((hprogress 1 lnkNak (by decide) (by decide +kernel)).2.1 (by decide +kernel) (by decide +kernel)).computed
  revert hbulk
  decide +kernel

end Sys2Proof.Machine
end

/-! ## The parity of a read through BAR4 -/

section
namespace Sys2Proof.Machine

/-- The word read before was poisoned. -/
def poisonShown : State := { memUp with hst := { memUp.hst with ep := true } }

/-- Refutes O45: the clause of a BAR4 read changes the data read and the register file alone. The model also keeps whether the completion is
poisoned, with each read (R467): in `poisonShown` a read of no bytes clears it. -/
theorem not_hostFunction : ¬ Obligations.HostFunction := by
  unfold Obligations.HostFunction
  rintro ⟨-, -, -, -, hread, -⟩
  obtain ⟨-, -, -, hsame, -⟩ := ((hread 0 0 poisonShown (by decide)).2.2 (by decide +kernel) (by decide +kernel) (by decide +kernel)).computed
  have hep := congrArg (fun t => t.hst.ep) hsame
  revert hep
  decide +kernel

end Sys2Proof.Machine
end

/-! ## Progress counts from the post of a descriptor -/

section
namespace Sys2Proof.Machine

/-- A packet waits for queue 5, and a descriptor of it was posted at edge 10, after its last TLP. -/
def postedLate : State := hstDesc.setQRing false 5 { hstDesc.ring false 5 with post := 10 }

/-- Refutes O46: the clause of a lack of progress counts PROG from the queue's last TLP. The model counts from the post of a descriptor where
that is later (R427): in `postedLate` the queue fails 10 edges after the clause's. -/
theorem not_hostQueues : ¬ Obligations.HostQueues := by
  unfold Obligations.HostQueues
  rintro ⟨-, -, -, -, -, -, -, hprogress, -⟩
  obtain ⟨-, -, -, hdt⟩ := ((hprogress 5 postedLate (by decide) (by decide +kernel)).2 (by decide +kernel) (by decide +kernel)
    (by decide +kernel)).computed
  revert hdt
  decide +kernel

end Sys2Proof.Machine
end

/-! ## Words written to buffer memory -/

section
namespace Sys2Proof.Machine

section
variable {s : State}

/-- A change of the tracker shows in its registers and in nothing else. -/
theorem State.setTrk_eq (l : List (Option Trk)) : s.setTrk l = { s with ram := { s.ram with trk := l }, regs := (s.setTrk l).regs } := by
  let u : State := { s with ram := { s.ram with trk := l } }
  have hshow : SameButRegs u u.showTrk := by
    refine .each u _ _ (fun v i => ?_) u (.refl u)
    exact (((SameButRegs.put ..).trans (.put ..)).trans ((SameButRegs.put ..).trans (.put ..))).trans (.put ..)
  exact hshow

@[simp] theorem State.mem_freeTrk (w : Nat) : (s.freeTrk w).mem = s.mem := by
  unfold State.freeTrk
  split
  · rw [State.setTrk_eq]
  · rfl

@[simp] theorem State.copies_freeTrk (w : Nat) : (s.freeTrk w).ram.copies = s.ram.copies := by
  unfold State.freeTrk
  split
  · rw [State.setTrk_eq]
  · rfl

@[simp] theorem State.mem_fillBlock (b : Nat) : (s.fillBlock b).mem = s.mem := by
  unfold State.fillBlock
  split <;> rfl

@[simp] theorem State.copies_fillBlock (b : Nat) : (s.fillBlock b).ram.copies = s.ram.copies := by
  unfold State.fillBlock
  split <;> rfl

/-- An access waits for nothing where no row copy is under way. -/
theorem State.awaitRow_of_no_copy (h : s.ram.copies = []) (w : Nat) : s.awaitRow w = s := if_pos h

variable (h : s.ram.copies = [])
include h

/-- A full-word write with no row copy under way stores its word and nothing else in memory (R465). -/
theorem State.mem_writeWord64 (w v : Nat) (poison : Bool) : (s.writeWord64 w v poison).mem = memPutWord s.mem w v := by
  simp [State.writeWord64, State.awaitRow_of_no_copy h, State.storeWord, State.setWord]

theorem State.copies_writeWord64 (w v : Nat) (poison : Bool) : (s.writeWord64 w v poison).ram.copies = [] := by
  simp [State.writeWord64, State.awaitRow_of_no_copy h, State.storeWord, State.setWord, h]

end

theorem State.writeWords_cons (s : State) (w : Nat) (x : Nat × Bool) (l : List (Nat × Bool)) :
    s.writeWords w (x :: l) = (s.writeWord64 w x.1 x.2).writeWords (w + 1) l := rfl

/-- Words written in order leave the bytes outside them as they were. -/
theorem State.memGet_writeWords {a : Nat} : ∀ (l : List (Nat × Bool)) {s : State} {w : Nat}, s.ram.copies = [] →
    (a < 8 * w ∨ 8 * (w + l.length) ≤ a) → memGet (s.writeWords w l).mem a = memGet s.mem a
  | [], _, _, _, _ => rfl
  | x :: l, s, w, h, ha => by
    rw [State.writeWords_cons, State.memGet_writeWords l (State.copies_writeWord64 h w x.1 x.2)
      (by rw [List.length_cons] at ha; omega), State.mem_writeWord64 h]
    exact memGet_putWord_of_ne _ _ _ _ (by rw [List.length_cons] at ha; omega)

end Sys2Proof.Machine
end

/-! ## A save that waits for the copy of its row -/

section
namespace Sys2Proof.Machine

section
variable {s : State} {c : Nat}

@[simp] theorem State.cctx_setCctx (x : CmpCtx) : (s.setCctx c x).cctx c = x := NMap.get_set_self ..

@[simp] theorem State.mem_setCctx (x : CmpCtx) : (s.setCctx c x).mem = s.mem := rfl

@[simp] theorem State.cctx_put (f : Fld) (v i j : Nat) : (s.put f v i j).cctx c = s.cctx c := rfl

/-- The state of a context as a SAVE finds it: SAVED is 0 and the command is pending (R452). -/
def State.saving (s : State) (c : Nat) : State := (s.put Reg.CMP_CTX_STATUS_SAVED 0 0 c).setCctx c { s.cctx c with cmd := 1 }

/-- A pending SAVE writes the state of a context on die to the spill area, and nothing else to memory (R452). -/
theorem State.mem_ctxCommand_save (hcmd : (s.cctx c).cmd = 1) (hdie : (s.cctx c).spilled = false) :
    (s.ctxCommand c).mem = (s.saveCtx c).mem := by
  have hsave : bit 1 0 = true := by decide
  have hload : bit 1 1 = false := by decide
  have hreset : bit 1 2 = false := by decide
  simp only [State.ctxCommand, State.saveCmd, hcmd, hdie, hsave, hload, hreset, State.cond_true, State.cond_false]
  generalize s.saveCtx c = u
  rfl

/-- A SAVE with no block open acts at once (R452). -/
theorem mem_cmpSave (hr : s.responds 0x200048 = true) (hc : s.get Reg.CMP_CTX_SEL_CTX = c) (hopn : (s.cctx c).opn = [])
    (hdie : (s.cctx c).spilled = false) : Does (.cmpSave 1) s fun t => t.mem = ((s.saving c).saveCtx c).mem := by
  refine .of_bar (b := bit 1 0) (f := (·.cmpCmd 1)) rfl (by decide) hr ?_
  have hnow : s.cmpCmd 1 = (s.saving c).ctxCommand c := by simp [State.cmpCmd, State.saving, hopn, hc]
  rw [hnow]
  exact State.mem_ctxCommand_save (by simp [State.saving]) (by simp [State.saving, hdie])

end

/-- Context 7 is selected, its spill area begins in row 218 of channel 0, whose copy is under way, and a word of that row outside the area
holds two errors. -/
def copyBeneath : State :=
  let s := (cmpUp.put Reg.CMP_CTX_SEL_CTX 7).put Reg.MEM_STATUS_CHMASK 0xFFF
  { s with ram := { s.ram with copies := [(0, 218)], err := [(672000, 3)] } }

/-- The first word of the save completes the copy, which stores the word of two errors with the poison mark. -/
theorem firstWord_copyBeneath : ((copyBeneath.saving 7).writeWord64 669696 0x100 false).ram.copies = [] ∧
    memGet ((copyBeneath.saving 7).writeWord64 669696 0x100 false).mem 5376000 = 3 := by decide +kernel

/-- Word `i` of a context's state in the spill area (R451). -/
def CmpCtx.spillPair (x : CmpCtx) (i : Nat) : Nat × Bool :=
  let l := stateWords x.dict x.bseq x.rst
  (l.getD (2 * i) 0 + l.getD (2 * i + 1) 0 * 2 ^ 32, false)

theorem State.saveCtx_eq (s : State) (c : Nat) :
    s.saveCtx c = s.writeWords (s.spillWord c) ((List.range 2048).map (s.cctx c).spillPair) := rfl

/-- The state of context 7 is saved from word 669,696 on, and its first word is NEXT of an empty dictionary. -/
theorem saveCtx_copyBeneath : (copyBeneath.saving 7).saveCtx 7 = ((copyBeneath.saving 7).writeWord64 669696 0x100 false).writeWords (669696 + 1)
    (((List.range 2047).map Nat.succ).map ((copyBeneath.saving 7).cctx 7).spillPair) := by
  have hword : (copyBeneath.saving 7).spillWord 7 = 669696 := by decide +kernel
  have hfirst : ((copyBeneath.saving 7).cctx 7).spillPair 0 = (0x100, false) := by decide +kernel
  rw [State.saveCtx_eq, hword, List.range_succ_eq_map, List.map_cons, hfirst, State.writeWords_cons]

/-- Refutes O49: the clause of a save leaves every byte outside the context's spill area as it was. A save waits for the row copies under its
area, and a copy stores a word of two errors as it stands and marks it (R467, R474): in `copyBeneath` a byte of another block becomes 3. -/
theorem not_compressionBlocks : ¬ Obligations.CompressionBlocks := by
  unfold Obligations.CompressionBlocks
  rintro ⟨-, -, -, -, -, -, hsave, -⟩
  have hr : copyBeneath.responds 0x200048 = true := by decide +kernel
  have hc : copyBeneath.get Reg.CMP_CTX_SEL_CTX = 7 := by decide +kernel
  have hopn : (copyBeneath.cctx 7).opn = [] := by decide +kernel
  have hdie : (copyBeneath.cctx 7).spilled = false := by decide +kernel
  obtain ⟨-, hbyte, -⟩ := (hsave 1 0 5376000 copyBeneath hr (by decide) (by decide) (by rwa [hc]) (by rwa [hc]) (by decide +kernel)
    (by decide +kernel) (by decide +kernel) (by decide +kernel)).computed
  obtain ⟨hcopies, hthree⟩ := firstWord_copyBeneath
  rw [(mem_cmpSave hr hc hopn hdie).computed, saveCtx_copyBeneath, State.memGet_writeWords _ hcopies (by simp), hthree] at hbyte
  revert hbyte
  decide +kernel

end Sys2Proof.Machine
end

/-! ## A row copy meets a word of two errors -/

section
namespace Sys2Proof.Machine

/-- The first row is being copied to a spare; its word 0 holds one error and its word 1 two. -/
def twoErrors : State := { up with ram := { up.ram with copies := [(0, 0)], err := [(0, 1), (1, 3)] } }

/-- Refutes O50: the clause of a row copy that completes leaves memory as it was. A word of the row with two errors is stored as it stands and
marked (R467, R474): in `twoErrors` byte 8 becomes 3. -/
theorem not_bufferMemory : ¬ Obligations.BufferMemory := by
  unfold Obligations.BufferMemory
  rintro ⟨-, -, -, -, -, -, -, -, hcopy, -⟩
  obtain ⟨-, -, -, -, -, -, -, -, -, hmem, -⟩ := (hcopy 0 0 0 0 twoErrors (by decide +kernel) (by decide +kernel) (by decide +kernel)
    (by decide) (by decide) (by decide) (by decide +kernel) (by decide +kernel)).computed
  revert hmem
  decide +kernel

end Sys2Proof.Machine
end

/-! ## A count of skipped blocks wider than its register -/

section
namespace Sys2Proof.Machine

/-- A scrub of no more blocks is at its end, and the register file holds 2^32 for SKIP_COUNT, a field of 32 bits. -/
def wideSkip : State := (up.put Reg.MEM_SCRUB_STATUS_STATE 1).putKeys [(⟨Reg.MEM_SCRUB_SKIP_COUNT.id, 0, 0⟩, 2 ^ 32)]

/-- Refutes O51: the clause of a scrub that ends asks that SKIP_COUNT stops at its largest value. With no block left to visit nothing is
counted, and where the register file holds more than the field's width, which the statement does not exclude, the number stays: in
`wideSkip` 2^32. -/
theorem not_memoryControl : ¬ Obligations.MemoryControl := by
  unfold Obligations.MemoryControl
  rintro ⟨-, -, -, -, hdone, -⟩
  obtain ⟨-, -, -, hskip, -⟩ := ((hdone 0 wideSkip).2 (by decide +kernel) (by decide +kernel) (by decide +kernel) (by decide +kernel)).computed
  revert hskip
  decide +kernel

end Sys2Proof.Machine
end

/-! ## A safety record that names a register of another block -/

section
namespace Sys2Proof.Machine

/-- A start is in stage 3, and the safety record of the store names GEN_SVC_INT.AUD_ERR with the value 0. -/
def foreignRecord : State :=
  { (State.reset.put Reg.BOOT_STATUS_STAGE 3).setPhase .starting with
    store := { State.reset.store with safRecord := some [(⟨Reg.GEN_SVC_INT_AUD_ERR.id, 0, 0⟩, 0)] } }

/-- Refutes O2: the clause of stage 3 asks that AUD_ERR is set where the two copies of the service record differ. The safety records are
loaded afterwards, register by register, and the statement admits one that names AUD_ERR itself: in `foreignRecord` it reads 0 again. -/
theorem not_startStages : ¬ Obligations.StartStages := by
  unfold Obligations.StartStages
  rintro ⟨-, -, -, hstore, -⟩
  obtain ⟨-, -, hdiffer⟩ := ((hstore 0 0 true true foreignRecord (by decide) (by decide +kernel)).1 rfl).computed
  revert hdiffer
  decide +kernel

end Sys2Proof.Machine
end

/-! ## Fault 0x0A closes the discriminators -/

section
namespace Sys2Proof.Machine

/-- Tile 1 runs with its discriminators open, at edge 5. -/
def tileOpen : State := { tileUp with dtRef := 5 }

/-- Refutes O3: the clause of fault 0x0A changes registers, the regulator and the handler alone. The fault also gates every discriminator, and
each tile keeps the edge at which its own closed (R51, R499): in `tileOpen` edge 5 for tile 1. -/
theorem not_faultHandler : ¬ Obligations.FaultHandler := by
  unfold Obligations.FaultHandler
  rintro ⟨-, -, -, -, hhot, -⟩
  obtain ⟨-, -, -, -, -, -, hsame, -⟩ := (hhot 0 tileOpen (by decide) (by decide +kernel) (by decide +kernel)).computed
  have hclosed := congrArg (fun t => (t.tile 1).openTill) hsame
  revert hclosed
  decide +kernel

end Sys2Proof.Machine
end

/-! ## A phase that is out of service already -/

section
namespace Sys2Proof.Machine

/-- The regulator runs on 11 phases, and the service record names phase 0. -/
def phaseOut : State :=
  { (up.put Reg.GEN_VFE_STATUS_PHASES 11) with
    sys := { up.sys with vfe := some 100 }
    store := { up.store with units := [(8, 0, 0)] } }

/-- Refutes O4: the clause of a phase that fails with 11 left does not ask that the phase still works. One that the service record names is
switched off already, and its failure changes nothing (R514, R515): in `phaseOut` 11 phases stay for 10. -/
theorem not_supplyAndTemperature : ¬ Obligations.SupplyAndTemperature := by
  unfold Obligations.SupplyAndTemperature
  rintro ⟨-, -, -, hphase, -⟩
  obtain ⟨hphases, -⟩ := (hphase 0 100 phaseOut (by decide) rfl (by decide +kernel) rfl).computed
  revert hphases
  decide +kernel

end Sys2Proof.Machine
end

/-! ## Wear warnings while lost entries are reported -/

section
namespace Sys2Proof.Machine

/-- The audit queue is full and one entry was lost, the next SEQ is 31, and two wear monitors stand at a threshold of 0. -/
def auditFull : State :=
  { (up.put Reg.GEN_WEAR_THR_THR 0 0 0).put Reg.GEN_WEAR_THR_THR 0 0 1 with
    aud := { queue := List.replicate 32 { entry := {} }, lost := 1 }
    store := { up.store with log := [{ seq := 30 }] } }

/-- Refutes O53: the clause of lost entries asks that entry 0x30 gives the count as it was. Each time the log has half filled a sector the
erases are counted and the wear monitors checked (R516, R517), and of the warnings of `auditFull` one finds room and one is lost: the
entry gives 2 for 1. -/
theorem not_auditAndWear : ¬ Obligations.AuditAndWear := by
  unfold Obligations.AuditAndWear
  rintro ⟨-, -, hlost, -⟩
  obtain ⟨-, -, hentry, -⟩ := (hlost { entry := {} } (List.replicate 31 { entry := {} }) auditFull rfl (by decide) rfl
    (by decide)).computed
  revert hentry
  decide +kernel

end Sys2Proof.Machine
end

/-! ## A step, and commands that complete -/

section
namespace Sys2Proof.Machine

@[simp] theorem State.advanceTo_mem (s : State) (d : Nat) : (s.advanceTo d).mem = s.mem := by rw [State.advanceTo_eq]

/-- A reference period that passes changes no phase and no byte of memory. -/
theorem State.idleEdge_sys_mem (s : State) : s.idleEdge.sys = s.sys ∧ s.idleEdge.mem = s.mem := by
  unfold State.idleEdge
  split <;> simp

/-- In reset and without power no time is counted. -/
theorem State.idleEdge_of_still {s : State} (h : s.sys.phase = .reset ∨ s.sys.phase = .dead) : s.idleEdge = s := by
  rcases h with h | h <;> simp [State.idleEdge, h]

/-- Settles O57: both cases are the definition of `step`; with none waiting it is `State.idleEdge`. -/
theorem stepTakesFront : Obligations.StepTakesFront := by
  unfold Obligations.StepTakesFront
  constructor
  · intro c rest s h
    simp only [step, h]
  · intro s h
    have hidle : step s = .next s.idleEdge := by simp only [step, h]
    obtain ⟨hsys, hmem⟩ := s.idleEdge_sys_mem
    have hkept : Keeps s s.idleEdge := Keeps.refl.idleEdge
    exact ⟨_, hidle, hkept.pending.trans h, hsys, hmem, State.idleEdge_of_still⟩

/-- The command completes, or it is refused by name and its operands are out of range. -/
def Completes (wf : Bool) (o : Out) : Prop := (∃ t, o = .next t) ∨ (wf = false ∧ o = .refused .noSuchUnit)

section
variable {wf a b c d : Bool} {s : State} {o p : Out}

theorem Completes.next : Completes wf (.next s) := .inl ⟨s, rfl⟩

/-- Operands in range name a unit that exists. -/
theorem Completes.of_need (h : wf = true → b = true) : Completes wf (need b s) := by
  cases b
  · exact .inr ⟨by simpa using h, rfl⟩
  · exact .next

theorem Completes.ite {q : Prop} [Decidable q] (ho : Completes wf o) (hp : Completes wf p) : Completes wf (if q then o else p) := by
  split <;> assumption

theorem Completes.of_need_left : Completes (a && b) (need a s) := .of_need fun h => (Bool.and_eq_true_iff.1 h).1
theorem Completes.of_need_right : Completes (a && b) (need b s) := .of_need fun h => (Bool.and_eq_true_iff.1 h).2
theorem Completes.of_need_first_two : Completes (a && b && c && d) (need (a && b) s) :=
  .of_need fun h => (Bool.and_eq_true_iff.1 (Bool.and_eq_true_iff.1 h).1).1
theorem Completes.of_need_tail : Completes (a && b && c) (need (b && c) s) := Bool.and_assoc a b c ▸ .of_need_right
theorem Completes.of_need_tail₃ : Completes (a && b && c && d) (need (b && c && d) s) := by
  rw [Bool.and_assoc, Bool.and_assoc, ← Bool.and_assoc b]
  exact .of_need_right
theorem Completes.of_need_outer : Completes (a && b && c) (need (a && c) s) := .of_need (by cases a <;> simp)

end

/-- A command that names a sconce completes when its tile and its sconce exist. -/
theorem Completes.of_sconce {tile sconce flame : Nat} {s : State} :
    Completes (tileOk tile && sconceOk sconce && decide (flame < 5)) (onSconce tile sconce s) := .of_need_left

theorem execRailOutOfRange_completes {r : Rail} {s : State} : Completes true (execRailOutOfRange r s) := by
  unfold execRailOutOfRange
  split <;> exact .next

theorem execRefclkLoss_completes {s : State} : Completes true (execRefclkLoss s) := by
  simp only [execRefclkLoss]
  split <;> exact .next

theorem execFailcntClearTimeout_completes {s : State} : Completes true (execFailcntClearTimeout s) := by
  unfold execFailcntClearTimeout
  split <;> exact .next

theorem execFaultHandlingEnd_completes {s : State} : Completes true (execFaultHandlingEnd s) := by
  unfold execFaultHandlingEnd
  split <;> exact .next

theorem execVfeRampEnd_completes {s : State} : Completes true (execVfeRampEnd s) := by
  unfold execVfeRampEnd
  split
  · exact .next
  · exact .ite .next .next

theorem execPtpFollowUpRx_completes {hdr : PtpHdr} {identity : Nat} {origin corr : Int} {s : State} :
    Completes true (execPtpFollowUpRx hdr identity origin corr s) := by
  unfold execPtpFollowUpRx
  split
  · exact .ite .next .next
  · exact .next

theorem execPtpDelayRespRx_completes {hdr : PtpHdr} {identity : Nat} {rx corr : Int} {s : State} :
    Completes true (execPtpDelayRespRx hdr identity rx corr s) := by
  unfold execPtpDelayRespRx
  split
  · exact .ite .next .next
  · exact .next

theorem execPpsOutFall_completes {s : State} : Completes true (execPpsOutFall s) := by
  unfold execPpsOutFall
  split <;> exact .next

theorem execDiscriminatorRise_completes {tile sconce sub : Nat} {pix : List Charge} {s : State} :
    Completes (Instr.discriminatorRise tile sconce pix sub).wf (execDiscriminatorRise tile sconce pix sub s) := by
  unfold execDiscriminatorRise
  split
  · exact .of_need_first_two
  · next h => exact .inr ⟨by simp_all [Instr.wf, pixOk], rfl⟩

theorem execFlameStop_completes {tile sconce flame n : Nat} {s : State} :
    Completes (tileOk tile && sconceOk sconce && decide (flame < 5)) (execFlameStop tile sconce flame n s) := by
  simp only [execFlameStop]
  split
  · exact .ite .of_sconce .of_sconce
  · exact .of_sconce

theorem execFlameHandoff_completes {tile sconce flame : Nat} {s : State} :
    Completes (tileOk tile && sconceOk sconce && decide (flame < 5)) (execFlameHandoff tile sconce flame s) := by
  simp only [execFlameHandoff]
  split
  · exact .ite .of_sconce (.ite .of_sconce .of_sconce)
  · exact .of_sconce

theorem execTotSaturate_completes {tile sconce pix : Nat} {s : State} :
    Completes (tileOk tile && sconceOk sconce && pixOk [pix]) (execTotSaturate tile sconce pix s) := by
  simp only [execTotSaturate]
  split
  · split <;> exact .of_need_left
  · exact .of_need_left

/-- An opcode of the bypass register is one that `execJtagBypass` takes. -/
theorem execJtagBypass_completes {opcode : Nat} {tdi : List Bool} {s : State} :
    Completes (bypassOk opcode) (execJtagBypass opcode tdi s) :=
  .of_need fun h => Bool.and_comm .. ▸ h

/-- A plain write lies in BAR0 and carries no outcome of its own. -/
theorem execRegisterWrite_completes {addr val size : Nat} {s : State} :
    Completes (writeOk addr val size) (execRegisterWrite addr val size s) :=
  .of_need fun h => by
    have hown : ownCommand = ownOutcome := rfl
    simp_all [writeOk, barSize]

theorem execPcieLinkUp_completes {speed width : Nat} {s : State} : Completes (linkOk speed width) (execPcieLinkUp speed width s) :=
  .of_need fun h => by
    simp only [linkOk, Bool.and_eq_true, decide_eq_true_eq] at h
    obtain ⟨⟨hlow, hhigh⟩, hwidth⟩ := h
    exact Bool.and_eq_true_iff.2 ⟨by simp [linkOptions]; omega, hwidth⟩

/-- Every command completes or is refused by name: `exec` is total, and a unit it names exists when the operands are in range. -/
theorem exec_completes (c : Instr) (s : State) : Completes c.wf (exec c s) :=
  match c with
  | .vauxRise | .vauxFall | .railRise _ | .jtagExtest _ | .jtagClamp _ | .jtagHighz _ | .jtagIdcode _ | .jtagSamplePreload _
  | .jtagTestLogicReset | .startStageComplete _ _ | .startStageTimeout | .bootRestart | .bootPilot | .lamplighterWatchdog
  | .junctionTempRelease | .genFaultAck | .faultRecordSnapshot | .faultRecordRemove | .genCntClr | .i2cPointerWrite _ _
  | .i2cRegisterRead _ _ | .vfeSet _ | .epochBoundary | .pcsAbort | .pixelWordRead | .timeSample _ | .timeFaultRate
  | .ptpSyncTimeout | .arpRequestRx _ | .ppsEdgeMissing | .tenMhzLoss | .ppsSecondWrite _ | .timSnap | .timCntClr | .evtCntClr
  | .cluCntClr | .ringWrite _ | .ringOverrunGap | .triggerSample | .templateArm _ | .templateDisarm _ | .disarmFlareDue
  | .doneFifoRead | .maskRearm | .trgCntClr | .frameBoundary | .gateOpen | .gateClose | .gateLenExpire | .burstDeliveryEnd
  | .tilFrmCntClr | .fabricWaveLaunch | .waveComplete | .wickWrite _ | .groupInputWrite _ | .fabricCheckDone | .reloadAdmit
  | .reloadApply | .imageProgVerifyDone | .fabCntClr | .tdcSpareTimeout | .tdcCntClr | .auxTick _ _ | .auxResult | .auxInjectFire _
  | .auxInjectedSample _ | .auxQueueSnapshot | .auxQueueRemove | .auxGapRecord | .axClampConduct _ | .excitationLimit _
  | .auxCalStepEnd _ | .auxCalTimeout | .auxConverterCheck _ _ _ _ | .auxCntClr | .ctlQueueSnapshot | .ctlQueueRemove
  | .ctlGapRecord | .ctlCntClr | .safetyStrobe _ _ _ _ | .strobeLoss | .safReq _ | .safCommit _ _ | .snufferRxSubmit _ | .safCntClr
  | .lnkCntClr | .perstNAssert | .hotReset | .functionLevelReset | .pcieLinkDown | .d3Entry | .hstCntClr | .cmpCntClr
  | .rowRemapDone | .memWrite _ _ _ | .scrubDone | .memCntClr | .sessionRequest _ | .sessionResponse _ | .sessionClose
  | .keyProgram _ _ | .moduleIdProgram _ | .auditEntryStored _ _ | .refclkReturn | .imageProgEraseDone
  | .excitationLimitClear _ => .next
  | .coreDisagree _ _ | .junctionOvertemp _ | .tileWaitExpire _ | .portWaitExpire _ | .kvtEvaluation _ _ _ _ | .vfePhaseSwap _
  | .testPulseInject _ | .pcsWordArrive _ _ | .reconfigBlankEnd _ _ | .rotaStepDue _ | .firstCalibrationStart _
  | .firstCalibrationEnd _ _ _ _ _ | .feReady _ | .tilCntClr _ | .failFifoRead _ | .columnBusHop _ _ _ _ | .columnStallTimeout _ _
  | .spareSwitchDone _ _ _ | .spareRequestTimeout _ | .flitForm _ _ | .flitTransfer _ | .flitCheck _ _ | .chkOk _ | .chkNak _
  | .viaTestStart _ _ | .viaTestEnd _ _ | .crossbarTakeWord _ _ _ | .receiverDrainStart _ | .tilXcntClr _ | .skewRecalibrate _
  | .frameLaunch _ | .rmapEntryWrite _ _ _ | .clusterRelease _ _ | .clusterClose _ _ | .packetFlush _ | .rateWindowEnd _
  | .primitiveEvent _ _ | .primitivePulseEnd _ | .todFire _ | .hostFire _ | .contextOpen _ | .contextExtractionEnd _
  | .templateArmed _ | .frameReadoutEnd _ _ _ | .configScrubVisit _ _ _ | .tdcInputEdge _ _ | .tdcResult _ _ | .tdcCalEnd _ _ _
  | .tdcIdleRecal _ | .tdcTimeout _ | .tdcQueueSnapshot _ | .tdcQueueRemove _ | .tdcGapEntry _ | .wireBreakDetect _ _
  | .wireClear _ | .ctlFbSample _ _ | .ctlFbResult _ | .pulseCountEdge _ _ _ _ | .loopPeriodStart _ | .loopComputeDone _
  | .loopDeadline _ | .loopCommit _ | .testPulseStart _ | .testPulseEnd _ | .outputTestPulse _ _ | .snufferProduce _ _
  | .snufferReceive _ _ | .snufferTimeout _ | .beaconSend _ | .beaconReceive _ _ _ | .trainingTimeout _ | .partnerTrainTimeout _
  | .markerReceive _ _ _ _ | .laneLos _ | .laneLol _ | .laneSwitchRetry _ | .portLosDetach _ | .lnkDataRx _ _ _ _ _
  | .lnkFlareRx _ _ _ _ | .lnkTimeRx _ _ _ _ | .lnkSnufferRx _ _ _ _ | .lnkCtrlAck _ _ | .lnkCtrlSwitch _ _ _
  | .lnkCtrlSwitched _ _ _ | .lnkCtrlWake _ _ | .lnkCtrlSleep _ _ | .lnkCtrlRetrain _ _ | .lnkReplayTimeout _ _
  | .lnkProgressTimeout _ | .timeFrameSend _ _ | .timeFrameMiss _ | .dualHoldExpire _ | .dualPairExpire _ | .dualRestore _
  | .portSleep _ | .portWakeComplete _ | .bar4Read _ _ | .bar4Write _ _ | .queueStopped _ _ | .queuePacketWrite _ _ _
  | .bufferCloseTimeout _ | .h2dFrameStart _ _ _ _ | .h2dFrameDone _ | .queueProgressTimeout _ _ | .streamOverrunGap _
  | .irqMessage _ _ | .queueIrqTimer _ _ _ | .cmpInputWord _ _ | .cmpFlushTimeout _ _ | .decompBlock _ _ | .dosimeterRead _
  | .controlViaTest _ _ => .of_need id
  | .pixelScrubVisit _ _ _ _ | .lossEpisodeClose _ _ _ | .flameOffline _ _ _ | .flameCalibrationEnd _ _ _ _ _ | .flameReturn _ _ _
  | .fePowerWrite _ _ | .auxPinCfgWrite _ _ | .trainFrameReceive _ _ _ _ _ | .hostIrqRearm _ _ _ | .memPartitionWrite _ _
  | .doorbellTail _ _ _ | .doorbellCplHead _ _ _ _ => .of_need_left
  | .timOpen _ | .rmapCommit _ | .evtEnable _ | .evtDisable _ | .ringEnable _ | .contextAbort _ | .triggerEnable _
  | .triggerDisable _ | .flareSend _ | .frameRunStart _ | .frameRunStop _ | .reloadAbort _ | .imageProgAbort _ | .imageConfirm _
  | .tdcArm _ | .tdcDisarm _ | .tdcFlush _ | .tdcChannelEnable _ | .tdcSpareDecline _ | .auxEnable _ | .auxDisable _ | .safAck _
  | .cmpSave _ | .scrubStart _ | .sramFuseProg _ => .of_need_right
  | .timClose _ | .skewForce _ _ | .contextRelease _ | .imageProgStart _ | .imagePrefSlot _ | .imageTrial _ | .tdcSpareApprove _
  | .cmpRestore _ => .of_need_tail
  | .timSet _ | .cmpReset _ => .of_need_tail₃
  | .rotaForce _ _ | .rotaIntervalWrite _ _ | .tileEnable _ _ | .tileDisable _ _ | .spareDecline _ _ | .streamEnable _ _
  | .streamDisable _ _ | .loopEnable _ _ | .loopDisable _ _ | .portEnable _ _ | .portDisable _ _ | .lnkRetrainCmd _ _
  | .queueEnable _ _ _ | .queueDisable _ _ _ _ | .descriptorFetchDone _ _ _ _ => .of_need_outer
  | .discriminatorFall _ _ _ _ => .of_need_first_two
  | .tpTrainStart _ _ | .tpTrainStop _ _ | .spareApprove _ _ | .auxCalZero _ | .auxCalFull _ | .auxCalAbort _
  | .scrubAbort _ _ _ => .of_need (by simp +contextual [Instr.wf, tileOk, bit, bits])
  | .resetNAccept _ | .resetNBounce _ | .resetNRise _ _ _ | .startBegin | .failedStartHoldEnd | .ptpAnnounceRx _ _
  | .ptpDelayReqSend _ | .ptpAnnounceTimeout | .ppsOutRise | .memRead _ _ _ _ | .sessionIdleTimeout | .lockoutExpire
  | .wearMinuteUpdate _ _ _ | .serviceRecordSave => .ite .next .next
  | .ptpSyncRx _ _ _ _ _ _ _ _ => .ite (.ite .next .next) .next
  | .ppsEdge _ _ _ => .ite .next (.ite .next .next)
  | .railOutOfRange _ => execRailOutOfRange_completes
  | .refclkLoss => execRefclkLoss_completes
  | .failcntClearTimeout => execFailcntClearTimeout_completes
  | .faultHandlingEnd => execFaultHandlingEnd_completes
  | .vfeRampEnd => execVfeRampEnd_completes
  | .ptpFollowUpRx _ _ _ _ => execPtpFollowUpRx_completes
  | .ptpDelayRespRx _ _ _ _ => execPtpDelayRespRx_completes
  | .ppsOutFall => execPpsOutFall_completes
  | .discriminatorRise _ _ _ _ => execDiscriminatorRise_completes
  | .flameStop _ _ _ _ => execFlameStop_completes
  | .flameHandoff _ _ _ => execFlameHandoff_completes
  | .totSaturate _ _ _ => execTotSaturate_completes
  | .jtagBypass _ _ => execJtagBypass_completes
  | .registerWrite _ _ _ => execRegisterWrite_completes
  | .pcieLinkUp _ _ => execPcieLinkUp_completes

/-- Settles O59: what `exec_completes` says of the outcome, with the queue that `exec_keeps` leaves. -/
theorem commandsComplete : Obligations.CommandsComplete := by
  unfold Obligations.CommandsComplete
  have hnext {c : Instr} {s t : State} (e : exec c s = .next t) : Does c s fun t => t.pending = s.pending :=
    .of_next e (exec_keeps .refl c t e : Keeps s t).pending
  constructor
  · intro c s
    rcases exec_completes c s with ⟨t, e⟩ | h
    · exact .inl (hnext e)
    · exact .inr h
  · intro c s hwf
    rcases exec_completes c s with ⟨t, e⟩ | ⟨h, -⟩
    · exact hnext e
    · rw [hwf] at h
      cases h

end Sys2Proof.Machine
end

/-! ## The dictionary coder and its decoder -/

section
namespace Sys2Proof.Machine

/-! ### Dictionaries and the strings their codes stand for -/

section
variable {d e : Dict} {k w c i f : Nat}

/-- A dictionary that R452 admits: each entry extends a code below its own by a byte. -/
theorem dictLegal_iff : dictLegal d ↔ d.length ≤ 0xF00 ∧ ∀ i x, d[i]? = some x → x.1 < 0x100 + i ∧ x.2 < 256 := by
  refine and_congr_right' ⟨fun h i x hx => h (x, i) (List.mem_zipIdx_iff_getElem?.2 hx), fun h x hx => ?_⟩
  exact h x.2 x.1 (List.mem_zipIdx_iff_getElem?.1 hx)

theorem dictLegal_nil : dictLegal [] := ⟨Nat.zero_le _, by simp⟩

theorem Dict.next_le (hd : dictLegal d) : d.next ≤ 0x1000 := by
  have := hd.1
  unfold Dict.next
  omega

theorem Dict.next_add : (d.add w c).next = if d.next < 0x1000 then d.next + 1 else d.next := by
  unfold Dict.add
  split <;> simp [Dict.next, Nat.add_assoc]

theorem Dict.getElem?_add (hi : i < d.length) : (d.add w c)[i]? = d[i]? := by
  unfold Dict.add
  split
  · exact List.getElem?_append_left hi
  · rfl

/-- Adding an entry that extends a code of the dictionary by a byte keeps it legal. -/
theorem Dict.add_legal (hd : dictLegal d) (hw : w < d.next) (hc : c < 256) : dictLegal (d.add w c) := by
  unfold Dict.add
  split
  next hroom =>
    have hlen : d.length < 0xF00 := by unfold Dict.next at hroom; omega
    rw [dictLegal_iff] at hd ⊢
    refine ⟨by simpa using hlen, fun i x hx => ?_⟩
    rcases Nat.lt_trichotomy i d.length with h | h | h
    · exact hd.2 i x (by rwa [List.getElem?_append_left h] at hx)
    · subst h
      obtain rfl : (w, c) = x := by simpa using hx
      exact ⟨hw, hc⟩
    · simp [List.getElem?_append_right h.le, List.getElem?_singleton] at hx
      omega
  · exact hd

/-- Fuel beyond the code does not matter. -/
theorem Dict.string_of_lt (hd : dictLegal d) : ∀ k f g, k < f → k < g → d.string f k = d.string g k
  | k, f + 1, g + 1, hf, hg => by
    unfold Dict.string
    split
    · rfl
    · split
      · rfl
      · next p b hx =>
        have := ((dictLegal_iff.1 hd).2 _ _ hx).1
        rw [Dict.string_of_lt hd p f g (by dsimp only at this; omega) (by dsimp only at this; omega)]

theorem Dict.str_byte (hk : k < 0x100) : d.str k = [k] := by simp [Dict.str, Dict.string, hk]

/-- The code of an entry stands for the string it extends and its byte. -/
theorem Dict.str_entry (hd : dictLegal d) (hx : d[i]? = some (w, c)) : d.str (0x100 + i) = d.str w ++ [c] := by
  have hlen : i < 0xF00 := (List.getElem?_eq_some_iff.1 hx).1.trans_le hd.1
  have hw : w < 0x100 + i := ((dictLegal_iff.1 hd).2 _ _ hx).1
  have hbyte : ¬0x100 + i < 0x100 := by omega
  rw [Dict.str, Dict.string, if_neg hbyte, Nat.add_sub_cancel_left, hx]
  dsimp only
  rw [Dict.string_of_lt hd w 4096 4097 (by omega) (by omega), Dict.str]

theorem Dict.entry_of_code (hk : k < d.next) (hbyte : ¬k < 0x100) : ∃ i x, k = 0x100 + i ∧ d[i]? = some x :=
  ⟨k - 0x100, _, by omega, List.getElem?_eq_getElem (by unfold Dict.next at hk; omega)⟩

theorem Dict.str_ne_nil (hd : dictLegal d) (hk : k < d.next) : d.str k ≠ [] := by
  by_cases h : k < 0x100
  · simp [Dict.str_byte h]
  · obtain ⟨i, x, rfl, hx⟩ := Dict.entry_of_code hk h
    simp [Dict.str_entry hd hx]

/-- A new entry changes no string. -/
theorem Dict.str_add (hd : dictLegal d) (he : dictLegal (d.add w c)) (hk : k < d.next) : (d.add w c).str k = d.str k := by
  induction k using Nat.strong_induction_on with
  | _ k ih =>
    by_cases h : k < 0x100
    · rw [Dict.str_byte h, Dict.str_byte h]
    · obtain ⟨i, ⟨p, b⟩, rfl, hx⟩ := Dict.entry_of_code hk h
      have hp : p < 0x100 + i := ((dictLegal_iff.1 hd).2 _ _ hx).1
      have hi : i < d.length := (List.getElem?_eq_some_iff.1 hx).1
      rw [Dict.str_entry hd hx, Dict.str_entry he ((Dict.getElem?_add hi).trans hx), ih p hp (hp.trans hk)]

/-- A code found stands for the string and the byte asked for. -/
theorem Dict.find_entry (h : d.find w c = some k) : ∃ i, k = 0x100 + i ∧ d[i]? = some (w, c) := by
  obtain ⟨i, hi, rfl⟩ := Option.map_eq_some_iff.1 h
  exact ⟨i, rfl, by
    obtain ⟨hlt, heq, -⟩ := List.findIdx?_eq_some_iff_getElem.1 hi
    rw [List.getElem?_eq_getElem hlt, eq_of_beq heq]⟩

end

/-! ### Coding -/

section
variable {d D E : Dict} {w c k : Nat} {l : List Nat}

theorem Dict.find_lt_next (h : d.find w c = some k) : k < d.next := by
  obtain ⟨i, rfl, hx⟩ := Dict.find_entry h
  have := (List.getElem?_eq_some_iff.1 hx).1
  unfold Dict.next
  omega

theorem encodeFrom_of_find (h : d.find w c = some k) : encodeFrom (c :: l) w d = encodeFrom l k d := by
  rw [encodeFrom, h]

theorem encodeFrom_of_new (h : d.find w c = none) :
    encodeFrom (c :: l) w d = (w :: (encodeFrom l c (d.add w c)).1, (encodeFrom l c (d.add w c)).2) := by
  rw [encodeFrom, h]

/-- A byte is a code of every dictionary. -/
theorem Dict.byte_lt_next (h : c < 256) : c < d.next := by
  unfold Dict.next
  omega

/-- What the coder sends and holds: codes of 12 bits, no more than bytes, and a legal dictionary. -/
theorem encodeFrom_legal (hl : ∀ b ∈ l, b < 256) : ∀ w d, dictLegal d → w < d.next →
    dictLegal (encodeFrom l w d).2 ∧ (∀ k ∈ (encodeFrom l w d).1, k < 0x1000) ∧ (encodeFrom l w d).1.length ≤ l.length + 1 := by
  induction l with
  | nil =>
    intro w d hd hw
    exact ⟨hd, by simpa [encodeFrom] using hw.trans_le (Dict.next_le hd), Nat.le_refl _⟩
  | cons c l ih =>
    intro w d hd hw
    obtain ⟨hc, hl⟩ := List.forall_mem_cons.1 hl
    cases h : d.find w c with
    | some k =>
      rw [encodeFrom_of_find h]
      obtain ⟨hlegal, hcodes, hlen⟩ := ih hl k d hd (Dict.find_lt_next h)
      exact ⟨hlegal, hcodes, hlen.trans (by simp)⟩
    | none =>
      rw [encodeFrom_of_new h]
      obtain ⟨hlegal, hcodes, hlen⟩ := ih hl c _ (Dict.add_legal hd hw hc) (Dict.byte_lt_next hc)
      exact ⟨hlegal, List.forall_mem_cons.2 ⟨hw.trans_le (Dict.next_le hd), hcodes⟩, Nat.succ_le_succ hlen⟩

/-- What the decoder adds when the string after code `prev` begins with byte `c`. -/
def Dict.learn (d : Dict) (prev : Option Nat) (c : Nat) : Dict :=
  match prev with
  | some q => d.add q c
  | none => d

/-- The string the decoder makes of the code `k` that follows `prev` (R444). -/
def Dict.read (d : Dict) (prev : Option Nat) (k : Nat) : Option (List Nat) :=
  if k < d.next then some (d.str k)
  else match prev with
    | some q => if k = d.next then some (d.str q ++ (d.str q).take 1) else none
    | none => none

theorem decodeFrom_of_read {prev : Option Nat} {ks s : List Nat} (h : d.read prev k = some s) :
    decodeFrom (k :: ks) prev d = (decodeFrom ks (some k) (d.learn prev (s.headD 0))).map fun r => (s ++ r.1, r.2) := by
  unfold Dict.read at h
  cases prev <;> simp only [decodeFrom, h, Dict.learn]

/-- The decoder holds the coder's dictionary but for the last entry, which begins with the string the coder has under way. -/
structure Behind (D E : Dict) (prev : Option Nat) (w : Nat) : Prop where
  legal : dictLegal D
  coder : dictLegal E
  code : w < E.next
  prev_lt : ∀ q ∈ prev, q < D.next
  learned : E = D.learn prev ((E.str w).headD 0)

variable {prev : Option Nat} {ks : List Nat}

/-- The string the decoder makes of the code it reads is the coder's. -/
theorem Behind.read (h : Behind D E prev w) : D.read prev w = some (E.str w) := by
  obtain ⟨hD, hE, hw, hprev, hlearn⟩ := h
  cases prev with
  | none =>
    obtain rfl : E = D := hlearn
    exact if_pos hw
  | some q =>
    have hq : q < D.next := hprev q rfl
    generalize hc : (E.str w).headD 0 = c at hlearn
    obtain rfl : E = D.add q c := hlearn
    unfold Dict.read
    split
    next hknown => rw [Dict.str_add hD hE hknown]
    next hnew =>
      rw [Dict.next_add] at hw
      have hroom : D.next < 0x1000 := by
        by_contra hfull
        rw [if_neg hfull] at hw
        exact hnew hw
      rw [if_pos hroom] at hw
      obtain rfl : w = D.next := by omega
      have hx : (D.add q c)[D.length]? = some (q, c) := by simp [Dict.add, hroom]
      have hstr : (D.add q c).str D.next = D.str q ++ [c] := by
        rw [Dict.next, Dict.str_entry hE hx, Dict.str_add hD hE hq]
      obtain ⟨a, t, ht⟩ := List.exists_cons_of_ne_nil (Dict.str_ne_nil hD hq)
      obtain rfl : a = c := by simpa [hstr, ht] using hc
      simp [hstr, ht]

theorem Behind.decodeFrom_cons (h : Behind D E prev w) :
    decodeFrom (w :: ks) prev D = (decodeFrom ks (some w) E).map fun r => (E.str w ++ r.1, r.2) := by
  rw [decodeFrom_of_read h.read, ← h.learned]

/-- The string under way grows by a byte. -/
theorem Behind.extend (h : Behind D E prev w) (hk : E.find w c = some k) : Behind D E prev k ∧ E.str k = E.str w ++ [c] := by
  obtain ⟨i, rfl, hx⟩ := Dict.find_entry hk
  have hstr := Dict.str_entry h.coder hx
  obtain ⟨a, t, ht⟩ := List.exists_cons_of_ne_nil (Dict.str_ne_nil h.coder h.code)
  have hhead : (E.str (0x100 + i)).headD 0 = (E.str w).headD 0 := by simp [hstr, ht]
  exact ⟨⟨h.legal, h.coder, Dict.find_lt_next hk, h.prev_lt, hhead ▸ h.learned⟩, hstr⟩

/-- A code is sent: the string under way begins anew with the byte that did not fit. -/
theorem Behind.send (h : Behind D E prev w) (hc : c < 256) : Behind E (E.add w c) (some w) c where
  legal := h.coder
  coder := Dict.add_legal h.coder h.code hc
  code := Dict.byte_lt_next hc
  prev_lt := by rintro q ⟨⟩; exact h.code
  learned := by simp [Dict.learn, Dict.str_byte hc]

/-- The decoder makes of the codes the string under way and the bytes after it, and ends with the coder's dictionary (R444). -/
theorem Behind.decodeFrom_encodeFrom (hl : ∀ b ∈ l, b < 256) : ∀ {D E prev w}, Behind D E prev w →
    decodeFrom (encodeFrom l w E).1 prev D = some (E.str w ++ l, (encodeFrom l w E).2) := by
  induction l with
  | nil =>
    intro D E prev w h
    simp [encodeFrom, h.decodeFrom_cons, decodeFrom]
  | cons c l ih =>
    intro D E prev w h
    obtain ⟨hc, hl⟩ := List.forall_mem_cons.1 hl
    cases hk : E.find w c with
    | some k =>
      obtain ⟨hgrown, hstr⟩ := h.extend hk
      rw [encodeFrom_of_find hk, ih hl hgrown, hstr, List.append_assoc, List.singleton_append]
    | none =>
      rw [encodeFrom_of_new hk, h.decodeFrom_cons, ih hl (h.send hc), Dict.str_byte hc]
      rfl

theorem encodeBytes_legal (hd : dictLegal d) (hl : ∀ b ∈ l, b < 256) : dictLegal (encodeBytes d l).2 ∧
    (∀ k ∈ (encodeBytes d l).1, k < 0x1000) ∧ (encodeBytes d l).1.length ≤ l.length := by
  cases l with
  | nil => exact ⟨hd, by simp [encodeBytes], Nat.le_refl _⟩
  | cons c l =>
    obtain ⟨hc, hl⟩ := List.forall_mem_cons.1 hl
    exact encodeFrom_legal hl c d hd (Dict.byte_lt_next hc)

/-- With the dictionary the coder began with, the decoder gives back the bytes and the dictionary the coder ends with. -/
theorem decodeFrom_encodeBytes (hd : dictLegal d) (hl : ∀ b ∈ l, b < 256) :
    decodeFrom (encodeBytes d l).1 none d = some (l, (encodeBytes d l).2) := by
  cases l with
  | nil => rfl
  | cons c l =>
    obtain ⟨hc, hl⟩ := List.forall_mem_cons.1 hl
    have hstart : Behind d d none c := ⟨hd, hd, Dict.byte_lt_next hc, by simp, rfl⟩
    rw [encodeBytes, hstart.decodeFrom_encodeFrom hl, Dict.str_byte hc]
    rfl

end

/-! ### Digits: bytes of words, and codes in words -/

section
variable {k m n w : Nat} {l : List Nat}

/-- The digits of a number at base 2^k, put together again. -/
theorem ofDigits_map_bits (k m x : Nat) : Nat.ofDigits (2 ^ k) ((List.range m).map fun i => bits x (k * i) k) = x % 2 ^ (k * m) := by
  induction m generalizing x with
  | zero => simp [Nat.mod_one]
  | succ m ih =>
    have hrest : (List.range m).map (fun i => bits x (k * (i + 1)) k) = (List.range m).map fun i => bits (x / 2 ^ k) (k * i) k :=
      List.map_congr_left fun i _ => by rw [bits, bits, Nat.mul_succ, Nat.add_comm, pow_add, Nat.div_div_eq_div_mul]
    rw [List.range_succ_eq_map, List.map_cons, List.map_map, Nat.ofDigits_cons]
    simp only [Function.comp_def, Nat.succ_eq_add_one]
    rw [hrest, ih, Nat.mul_succ, Nat.add_comm (k * m), pow_add, Nat.mod_mul]
    simp [bits]

/-- Each member of a list of digits is read back from the number they spell. -/
theorem map_bits_ofDigits (hl : ∀ c ∈ l, c < 2 ^ k) :
    (List.range l.length).map (fun j => bits (Nat.ofDigits (2 ^ k) l) (k * j) k) = l := by
  induction l with
  | nil => rfl
  | cons c l ih =>
    obtain ⟨hc, hl⟩ := List.forall_mem_cons.1 hl
    have hdiv : Nat.ofDigits (2 ^ k) (c :: l) / 2 ^ k = Nat.ofDigits (2 ^ k) l := by
      rw [Nat.ofDigits_cons, Nat.add_mul_div_left _ _ (by positivity), Nat.div_eq_of_lt hc, Nat.zero_add]
    have hrest (j : Nat) : bits (Nat.ofDigits (2 ^ k) (c :: l)) (k * (j + 1)) k = bits (Nat.ofDigits (2 ^ k) l) (k * j) k := by
      rw [bits, bits, Nat.mul_succ, Nat.add_comm, pow_add, ← Nat.div_div_eq_div_mul, hdiv]
    rw [List.length_cons, List.range_succ_eq_map, List.map_cons, List.map_map]
    simp only [Function.comp_def, Nat.succ_eq_add_one, hrest]
    rw [ih hl, Nat.mul_zero, bits, pow_zero, Nat.div_one, Nat.ofDigits_cons, Nat.add_mul_mod_self_left, Nat.mod_eq_of_lt hc]

theorem packCodes_eq : packCodes l = (List.range (ceilDiv (12 * l.length) 64)).map fun i => bits (Nat.ofDigits (2 ^ 12) l) (64 * i) 64 := by
  rw [packCodes, Nat.ofDigits_eq_foldr]
  rfl

@[simp] theorem length_packCodes : (packCodes l).length = ceilDiv (12 * l.length) 64 := by simp [packCodes]

theorem unpackCodes_eq : unpackCodes n l = (List.range n).map fun j => bits (Nat.ofDigits (2 ^ 64) l) (12 * j) 12 := by
  rw [unpackCodes, Nat.ofDigits_eq_foldr]
  rfl

/-- Codes of 12 bits packed into words are read back from them (R441). -/
theorem unpackCodes_packCodes (hl : ∀ c ∈ l, c < 2 ^ 12) : unpackCodes l.length (packCodes l) = l := by
  have hlt : Nat.ofDigits (2 ^ 12) l < (2 ^ 12) ^ l.length := Nat.ofDigits_lt_base_pow_length (by decide) hl
  have hfits : Nat.ofDigits (2 ^ 12) l < 2 ^ (64 * ceilDiv (12 * l.length) 64) := by
    rw [← pow_mul] at hlt
    refine hlt.trans_le (Nat.pow_le_pow_right (by decide) ?_)
    unfold ceilDiv
    omega
  rw [unpackCodes_eq, packCodes_eq, ofDigits_map_bits, Nat.mod_eq_of_lt hfits, map_bits_ofDigits hl]

theorem lt_of_mem_leBytesN {n w b : Nat} (h : b ∈ leBytesN n w) : b < 256 := by
  obtain ⟨i, -, rfl⟩ := List.mem_map.1 h
  exact Nat.mod_lt _ (by decide)

@[simp] theorem length_leBytesN : (leBytesN n w).length = n := by simp [leBytesN]

theorem bytesNum_leBytesN (hw : w < 2 ^ 64) : bytesNum (leBytesN 8 w) = w := by
  have hdigits : bytesNum (leBytesN 8 w) = Nat.ofDigits (2 ^ 8) (leBytesN 8 w) := by
    rw [Nat.ofDigits_eq_foldr, bytesNum]
    refine List.foldr_ext _ _ _ fun b hb n => ?_
    rw [Nat.mod_eq_of_lt (lt_of_mem_leBytesN hb)]
    rfl
  rw [hdigits, leBytesN, ofDigits_map_bits, Nat.mod_eq_of_lt hw]

theorem lt_of_mem_wordBytes {b : Nat} (h : b ∈ wordBytes l) : b < 256 := by
  obtain ⟨w, -, hb⟩ := List.mem_flatMap.1 h
  exact lt_of_mem_leBytesN hb

@[simp] theorem wordBytes_cons : wordBytes (w :: l) = leBytesN 8 w ++ wordBytes l := rfl

@[simp] theorem length_wordBytes : (wordBytes l).length = 8 * l.length := by
  simp [wordBytes, Nat.mul_comm]

/-- The bytes of words spell the words again. -/
theorem bytesWords_wordBytes (hl : ∀ w ∈ l, w < 2 ^ 64) : bytesWords 8 l.length (wordBytes l) = l := by
  induction l with
  | nil => rfl
  | cons w l ih =>
    obtain ⟨hw, hl⟩ := List.forall_mem_cons.1 hl
    have hne : ¬leBytesN 8 w ++ wordBytes l = [] := by simp [leBytesN]
    have htake : (leBytesN 8 w ++ wordBytes l).take 8 = leBytesN 8 w := List.take_left' length_leBytesN
    have hdrop : (leBytesN 8 w ++ wordBytes l).drop 8 = wordBytes l := List.drop_left' length_leBytesN
    rw [List.length_cons, bytesWords, wordBytes_cons, if_neg hne, htake, hdrop, bytesNum_leBytesN hw, ih hl]

end

end Sys2Proof.Machine
end

/-! ## Blocks and the spill layout -/

section
namespace Sys2Proof.Machine

/-! ### Header and trailer of a block -/

section
variable {ctx b pw uw n : Nat} {unc rst psn : Bool}

/-- The fields of a block's header (R440). -/
structure HeaderFields (h ctx : Nat) (unc rst : Bool) (b : Nat) (psn : Bool) (pw uw : Nat) : Prop where
  mark : bits h 56 8 = 0xC3
  unc : bit h 49 = unc
  rst : bit h 48 = rst
  bseq : bits h 32 16 = b
  psn : bit h 31 = psn
  zero : bits h 28 3 = 0
  pwords : bits h 14 14 = pw
  uwords : bits h 0 14 = uw

theorem blockHeader_fields (hctx : ctx < 64) (hb : b < 65536) (hpw : pw < 16384) (huw : uw < 16384) :
    HeaderFields (blockHeader ctx unc rst b psn pw uw) ctx unc rst b psn pw uw := by
  have hunc := boolNat_lt unc
  have hrst := boolNat_lt rst
  have hpsn := boolNat_lt psn
  constructor
  case unc => refine testBit_of_bits ?_; unfold bits blockHeader; omega
  case rst => refine testBit_of_bits ?_; unfold bits blockHeader; omega
  case psn => refine testBit_of_bits ?_; unfold bits blockHeader; omega
  all_goals unfold bits blockHeader; omega

theorem blockTrailer_fields {c : List Nat} (hn : n < 2 ^ 17) : bits (blockTrailer c n) 0 17 = n ∧ bits (blockTrailer c n) 17 15 = 0 ∧
    blockTrailer c n / 2 ^ 32 = crc32c (wordBytes c) := by
  unfold bits blockTrailer
  omega

variable {bs : Option Nat} {d : Dict} {p l : List Nat} {h t : Nat}

/-- The block number does not fit: no RST after a lost block, or another than the one that is due (R454). -/
def bseqRefused (bs : Option Nat) (b : Nat) (rst : Bool) : Bool :=
  match bs with
  | none => !rst
  | some e => b != e % 65536

theorem bseqRefused_due (hb : b < 65536) : bseqRefused (some b) b rst = false := by simp [bseqRefused, Nat.mod_eq_of_lt hb]

/-- A block that passes the checks of its header and trailer is decoded by its kind. -/
theorem decodeBlock_of_fields (hf : HeaderFields h ctx unc rst b psn p.length uw) (hbs : bseqRefused bs b rst = false)
    (hpos : 0 < uw) (hmax : uw ≤ 8192) (hzero : bits t 17 15 = 0)
    (hlen : p.length = if unc then uw else ceilDiv (12 * bits t 0 17) 64) :
    decodeBlock bs d (h :: p ++ [t]) = (p.length + 2,
      if unc then if crc32c (wordBytes p) = t / 2 ^ 32 then .ok (p, if rst then [] else d) else .error 4
      else match decodeFrom (unpackCodes (bits t 0 17) p) none (if rst then [] else d) with
        | none => .error 2
        | some r => if r.1.length ≠ 8 * uw then .error 3
          else if crc32c r.1 = t / 2 ^ 32 then .ok (bytesWords 8 uw r.1, r.2) else .error 4) := by
  obtain ⟨hmark, hunc, hrst, hbseq, -, hz, hpw, huw⟩ := hf
  have hsizes : ¬(uw = 0 ∨ 8192 < uw ∨ p.length + 2 < p.length + 2) := by omega
  have htake : (((h :: p ++ [t]).drop 1).take p.length) = p := by simp
  have htrail : ((h :: p ++ [t]).drop (1 + p.length)).headD 0 = t := by simp [Nat.add_comm]
  have hwhole : (h :: p ++ [t]).length = p.length + 2 := by simp
  simp only [decodeBlock, List.cons_append, List.headD_cons] at htake htrail hwhole ⊢
  cases bs
  all_goals
    simp only [bseqRefused] at hbs
    simp only [hmark, hunc, hrst, hbseq, hz, hpw, huw, htake, htrail, hwhole, hzero, ← hlen, hbs, ne_eq, not_true, false_or, or_false,
      hsizes, if_false, Bool.false_eq_true]
    split
    · split <;> rfl
    · cases decodeFrom (unpackCodes (bits t 0 17) p) none (if rst then [] else d) with
      | none => rfl
      | some r => dsimp only; split_ifs <;> rfl

/-- A block sent expanded decodes to its words and, but for RST, leaves the dictionary (R446, R447). -/
theorem decodeBlock_expanded {l : List (Nat × Bool)} (hctx : ctx < 64) (hb : b < 65536) (hne : l ≠ []) (hmax : l.length ≤ 8192) :
    decodeBlock (some b) d ((expandedBlock ctx rst b l).map (·.1)) = (l.length + 2, .ok (l.map (·.1), if rst then [] else d)) := by
  have hpos := List.length_pos_iff.2 hne
  obtain ⟨hn, hzero, hcrc⟩ := blockTrailer_fields (c := l.map (·.1)) (n := 0) (by decide)
  have hf := blockHeader_fields (unc := true) (rst := rst) (psn := l.any (·.2)) hctx hb (pw := l.length) (uw := l.length) (by omega) (by omega)
  have hblock : (expandedBlock ctx rst b l).map (·.1) = blockHeader ctx true rst b (l.any (·.2)) l.length l.length :: l.map (·.1) ++
      [blockTrailer (l.map (·.1)) 0] := by simp [expandedBlock]
  rw [hblock, decodeBlock_of_fields (by simpa using hf) (bseqRefused_due hb) hpos hmax hzero (by simp), hcrc]
  simp

/-- What the header of an expanded block says of poison, and where its words stand. -/
theorem expandedBlock_words {l : List (Nat × Bool)} (hctx : ctx < 64) (hb : b < 65536) (hmax : l.length ≤ 8192) :
    ((expandedBlock ctx rst b l).drop 1).take l.length = l ∧ bit ((expandedBlock ctx rst b l).headD (0, false)).1 31 = l.any (·.2) :=
  ⟨by simp [expandedBlock], (blockHeader_fields hctx hb (by omega) (by omega)).psn⟩

/-- A block in codes, with the dictionary `D` its coding began with: fewer words than it stands for, and they decode to those words
and to the coder's dictionary. -/
theorem decodeBlock_coded {D d' : Dict} {ws : List Nat} (hctx : ctx < 64) (hb : b < 65536) (hD : dictLegal D) (hne : l ≠ [])
    (hmax : l.length ≤ 8192) (hl : ∀ w ∈ l, w < 2 ^ 64) (h : codedBlock ctx rst b D l = some (ws, d')) :
    ws.length < l.length + 2 ∧ dictLegal d' ∧ ∀ bs d, bseqRefused bs b rst = false → (if rst then [] else d) = D →
      decodeBlock bs d ws = (ws.length, .ok (l, d')) := by
  have hbytes : ∀ x ∈ wordBytes l, x < 256 := fun _ => lt_of_mem_wordBytes
  obtain ⟨hlegal, hcodes, hcount⟩ := encodeBytes_legal hD hbytes
  have hdec := decodeFrom_encodeBytes hD hbytes
  have hpos := List.length_pos_iff.2 hne
  unfold codedBlock at h
  generalize encodeBytes D (wordBytes l) = r at h hlegal hcodes hcount hdec
  rw [length_wordBytes] at hcount
  dsimp only at h
  split at h
  · cases h
  next hless =>
    cases h
    obtain ⟨hn, hzero, hcrc⟩ := blockTrailer_fields (c := l) (n := r.1.length) (by omega)
    have hf := blockHeader_fields (unc := false) (rst := rst) (psn := false) hctx hb (pw := (packCodes r.1).length) (uw := l.length)
      (by omega) (by omega)
    refine ⟨by simp at hless ⊢; omega, hlegal, fun bs d hbs hdict => ?_⟩
    rw [decodeBlock_of_fields hf hbs hpos hmax hzero (by simp [hn]), hn, unpackCodes_packCodes hcodes, hdict, hdec, hcrc]
    simp [bytesWords_wordBytes hl]

end

/-! ### The spill layout -/

section
variable {d : Dict} {bseq : Nat} {rst : Bool}

/-- An entry of the dictionary as a word of the spill layout (R451). -/
def entryWord (e : Nat × Nat) : Nat := 2 ^ 31 + e.2 * 2 ^ 12 + e.1

theorem length_stateWords (hd : dictLegal d) : (stateWords d bseq rst).length = 4096 := by
  have := hd.1
  simp only [stateWords, List.length_append, List.length_map, List.length_replicate, List.length_cons, List.length_nil]
  omega

/-- The three words at the front and the zeros after them. -/
theorem stateWords_eq : stateWords d bseq rst = ([d.next, bseq, boolNat rst] ++ List.replicate 253 0) ++
    (d.map entryWord ++ List.replicate (0xF00 - d.length) 0) := by
  rw [stateWords, List.append_assoc]
  rfl

/-- An entry that R452 admits is read back from its word. -/
theorem entryWord_fields {e : Nat × Nat} {i : Nat} (hi : i ≤ 0xF00) (hp : e.1 < 0x100 + i) (hb : e.2 < 256) :
    bit (entryWord e) 31 = true ∧ bits (entryWord e) 0 12 = e.1 ∧ bits (entryWord e) 20 11 = 0 ∧ bits (entryWord e) 12 8 = e.2 := by
  refine ⟨testBit_of_bits (b := true) ?_, ?_, ?_, ?_⟩
  all_goals unfold bits entryWord
  · show _ = 1
    omega
  all_goals omega

/-- A state in the spill layout is read back as the same state (R451, R452). -/
theorem stateOf_stateWords (hb : bseq < 65536) (hd : dictLegal d) : stateOf (stateWords d bseq rst) = some (d, bseq, rst) := by
  have hnext : (stateWords d bseq rst).getD 0 0 = d.next := rfl
  have hbseq : (stateWords d bseq rst).getD 1 0 = bseq := rfl
  have hrst : (stateWords d bseq rst).getD 2 0 = boolNat rst := rfl
  have hsize : ¬(d.next < 0x100 ∨ 0x1000 < d.next) := by
    have := hd.1
    unfold Dict.next
    omega
  have hlen : d.next - 0x100 = d.length := Nat.add_sub_cancel_left ..
  have hfront : ((stateWords d bseq rst).take 0x100).drop 3 = List.replicate 253 0 := by
    rw [stateWords_eq, List.take_left' (by rw [List.length_append, List.length_replicate]; rfl)]
    rfl
  have hback : (stateWords d bseq rst).drop 0x100 = d.map entryWord ++ List.replicate (0xF00 - d.length) 0 := by
    rw [stateWords_eq, List.drop_left' (by rw [List.length_append, List.length_replicate]; rfl)]
  have hentry {i : Nat} {e : Nat × Nat} (h : d[i]? = some e) : bit (entryWord e) 31 = true ∧ bits (entryWord e) 0 12 = e.1 ∧
      bits (entryWord e) 20 11 = 0 ∧ bits (entryWord e) 12 8 = e.2 ∧ e.1 < 0x100 + i := by
    obtain ⟨hp, hc⟩ := (dictLegal_iff.1 hd).2 i e h
    have hi : i < 0xF00 := (List.getElem?_eq_some_iff.1 h).1.trans_le hd.1
    obtain ⟨hvalid, hprefix, hrest, hbyte⟩ := entryWord_fields hi.le hp hc
    exact ⟨hvalid, hprefix, hrest, hbyte, hp⟩
  have hvalid : ((d.map entryWord).mapIdx fun i w =>
      bit w 31 && decide (bits w 0 12 < 0x100 + i) && decide (bits w 20 11 = 0)).all id = true := by
    rw [List.all_eq_true]
    intro x hx
    obtain ⟨i, hi, rfl⟩ := List.mem_mapIdx.1 hx
    rw [List.length_map] at hi
    obtain ⟨hvalid, hprefix, hrest, -, hp⟩ := hentry (List.getElem?_eq_getElem hi)
    simp only [List.getElem_map, hvalid, hprefix, hrest, hp, decide_true, Bool.and_self, id]
  have hdict : ((d.map entryWord).map fun w => (bits w 0 12, bits w 12 8)) = d := by
    rw [List.map_map]
    refine (List.map_congr_left fun e he => ?_).trans (List.map_id d)
    obtain ⟨i, h⟩ := List.mem_iff_getElem?.1 he
    obtain ⟨-, hprefix, -, hbyte, -⟩ := hentry h
    simp only [Function.comp_apply, hprefix, hbyte, id]
  have htake : (d.map entryWord ++ List.replicate (0xF00 - d.length) 0).take d.length = d.map entryWord :=
    List.take_left' (List.length_map ..)
  have hdrop : (d.map entryWord ++ List.replicate (0xF00 - d.length) 0).drop d.length = List.replicate (0xF00 - d.length) 0 :=
    List.drop_left' (List.length_map ..)
  have hzero (n : Nat) : (List.replicate n 0).all (· == 0) = true := by simp
  have hflag : bit (boolNat rst) 0 = rst := by cases rst <;> rfl
  simp only [stateOf, hnext, hbseq, hrst, hsize, if_false, hback, hlen, htake, hdrop, hfront, hvalid, hzero, hdict, hflag, hb,
    boolNat_lt, decide_true, Bool.and_self, if_true]

end

/-- Settles O48: `decodeBlock_coded`, `decodeBlock_expanded` and `stateOf_stateWords`. -/
theorem compressionRoundTrip : Obligations.CompressionRoundTrip := by
  unfold Obligations.CompressionRoundTrip
  refine ⟨?_, ?_, ?_⟩
  · intro ctx bseq rst d d' l ws hctx hb hd hne hmax hl h
    have hstart : dictLegal (if rst then [] else d) := by
      split
      · exact dictLegal_nil
      · exact hd
    obtain ⟨hshort, hlegal, hdec⟩ := decodeBlock_coded hctx hb hstart hne hmax hl h
    exact ⟨hshort, hdec _ d (bseqRefused_due hb) rfl, hlegal, fun hrst => hdec none d (by simp [bseqRefused, hrst]) rfl⟩
  · intro ctx bseq rst d l hctx hb hne hmax _
    exact ⟨decodeBlock_expanded hctx hb hne hmax, expandedBlock_words hctx hb hmax⟩
  · intro bseq rst d hb hd
    exact ⟨length_stateWords hd, stateOf_stateWords hb hd⟩

end Sys2Proof.Machine
end

/-! ## BAR4 and the partitions in use -/

section
namespace Sys2Proof.Machine

section
variable {s : State} {m : List Host.Cell} {a n w j : Nat}

/-- Digits added up by their weights are the number they spell. -/
theorem foldl_range_eq_ofDigits (k n : Nat) (f : Nat → Nat) :
    (List.range n).foldl (fun v i => v + f i * 2 ^ (k * i)) 0 = Nat.ofDigits (2 ^ k) ((List.range n).map f) := by
  induction n with
  | zero => rfl
  | succ n ih =>
    rw [List.range_succ, List.foldl_append, ih, List.map_append, Nat.ofDigits_append, List.length_map, List.length_range, ← pow_mul,
      List.map_singleton, Nat.ofDigits_singleton, Nat.mul_comm (2 ^ (k * n))]
    rfl

/-- A byte of a word of memory. -/
theorem bits_memWord (hj : j < 8) : bits (memWord m w) (8 * j) 8 = (memGet m (8 * w + j)).toNat := by
  let byte (i : Nat) : Nat := (memGet m (8 * w + i)).toNat
  have hbytes : ∀ c ∈ (List.range 8).map byte, c < 2 ^ 8 := by
    intro c hc
    obtain ⟨i, -, rfl⟩ := List.mem_map.1 hc
    exact (memGet m (8 * w + i)).isLt
  have hdigits := map_bits_ofDigits hbytes
  rw [← foldl_range_eq_ofDigits, List.length_map, List.length_range] at hdigits
  exact List.map_inj_left.1 hdigits j (List.mem_range.2 hj)

/-- A checked read of a word without an error: what is stored, and zeros where nothing has been written (R466, R469). -/
theorem State.readWord64_of_clean (h : s.ram.err = []) :
    s.readWord64 w = (s, if s.ram.valid.get false (w / 64) then memWord s.mem w else 0, false) := by
  have hclean : checkErr (s.ram.err.get 0 w) = .clean := by
    rw [h]
    exact (by decide +kernel : checkErr 0 = .clean)
  have hraw : s.rawWord w = memWord s.mem w := by
    rw [State.rawWord, h]
    exact Nat.xor_zero _
  unfold State.readWord64
  cases s.ram.valid.get false (w / 64)
  · rfl
  · simp [hclean, hraw]

/-- What a read of words does to a memory without errors or row copies: it counts the blocks never written. -/
def State.readCounted (s : State) (w n : Nat) : State :=
  let z := (((List.range n).map fun i => (w + i) / 64).dedup.filter fun b => !(s.ram.valid.get false b)).length
  if z = 0 then s else s.mcount Reg.MEM_ZREAD_COUNT z

theorem State.readCounted_only : RegsOnly [Reg.MEM_ZREAD_COUNT, Reg.MEM_INT_CNT_SAT] s (s.readCounted w n) := by
  simp only [State.readCounted]
  split
  · exact .refl ..
  · exact .bump _ _ _ _ _ _ _ (by simp) (by simp)

theorem State.awaitRows_of_no_copy (h : s.ram.copies = []) : s.awaitRows w n = s := by
  unfold State.awaitRows
  generalize (List.range n).map (w + ·) = l
  induction l with
  | nil => rfl
  | cons v l ih =>
    have hrow : s.cond (s.ram.valid.get false (v / 64)) (·.awaitRow v) = s := by
      cases s.ram.valid.get false (v / 64)
      · rfl
      · exact State.awaitRow_of_no_copy h v
    rw [State.each_cons, hrow, ih]

theorem State.readWords_of_clean (herr : s.ram.err = []) (hcopies : s.ram.copies = []) :
    s.readWords w n = (s.readCounted w n, (List.range n).map fun i =>
      (if s.ram.valid.get false ((w + i) / 64) then memWord s.mem (w + i) else 0, false)) := by
  obtain ⟨hsame, -⟩ := s.readCounted_only (w := w) (n := n)
  have hram : (s.readCounted w n).ram = s.ram := by rw [hsame]
  have hmem : (s.readCounted w n).mem = s.mem := by rw [hsame]
  show (List.range n).foldl (fun (a : State × List (Nat × Bool)) i =>
    ((a.1.readWord64 (w + i)).1, a.2 ++ [((a.1.readWord64 (w + i)).2.1, (a.1.readWord64 (w + i)).2.2)]))
      ((s.readCounted w n).awaitRows w n, []) = _
  rw [State.awaitRows_of_no_copy (by rw [hram, hcopies])]
  clear hsame
  generalize s.readCounted w n = u at hram hmem
  induction n with
  | zero => rfl
  | succ n ih =>
    rw [List.range_succ, List.foldl_append, ih, List.foldl_cons, List.foldl_nil, State.readWord64_of_clean (by rw [hram, herr]), hram, hmem,
      List.map_append]
    rfl

/-- A byte of the words read from `a / 8` on is the byte at its address. -/
theorem readByte_eq {i : Nat} (hi : i < n) :
    bits (((List.range ((a + n - 1) / 8 - a / 8 + 1)).map fun k =>
      (if s.ram.valid.get false ((a / 8 + k) / 64) then memWord s.mem (a / 8 + k) else 0, false)).getD ((a + i) / 8 - a / 8) (0, false)).1
        (8 * ((a + i) % 8)) 8 =
      if s.ram.valid.get false ((a + i) / 512) then (memGet s.mem (a + i)).toNat else 0 := by
  have hk : (a + i) / 8 - a / 8 < (a + n - 1) / 8 - a / 8 + 1 := by omega
  have hword : a / 8 + ((a + i) / 8 - a / 8) = (a + i) / 8 := by omega
  have hblock : (a + i) / 8 / 64 = (a + i) / 512 := by omega
  rw [List.getD_eq_getElem?_getD, List.getElem?_map, List.getElem?_range hk, Option.map_some, Option.getD_some, hword, hblock]
  split
  · dsimp only
    rw [bits_memWord (by omega), Nat.div_add_mod]
  · simp [bits]

/-- Bytes read from a memory without errors or row copies are what stands there (R412). -/
theorem State.readBytes_of_clean (herr : s.ram.err = []) (hcopies : s.ram.copies = []) : ∃ (u : State) (ep : Bool),
    s.readBytes a n = (u, (List.range n).map fun i => if s.ram.valid.get false ((a + i) / 512) then (memGet s.mem (a + i)).toNat else 0, ep) ∧
      RegsOnly [Reg.MEM_ZREAD_COUNT, Reg.MEM_INT_CNT_SAT] s u := by
  unfold State.readBytes
  split
  next h =>
    subst h
    exact ⟨s, false, rfl, .refl ..⟩
  next h =>
    let k := (a + n - 1) / 8 - a / 8 + 1
    have hwords := State.readWords_of_clean (w := a / 8) (n := k) herr hcopies
    have hstate : (s.readWords (a / 8) k).1 = s.readCounted (a / 8) k := by rw [hwords]
    have hbytes : (List.range n).map (fun i => bits ((s.readWords (a / 8) k).2.getD ((a + i) / 8 - a / 8) (0, false)).1 (8 * ((a + i) % 8)) 8) =
        (List.range n).map fun i => if s.ram.valid.get false ((a + i) / 512) then (memGet s.mem (a + i)).toNat else 0 := by
      rw [hwords]
      exact List.map_congr_left fun i hi => readByte_eq (List.mem_range.1 hi)
    exact ⟨_, _, Prod.ext hstate (Prod.ext hbytes rfl), State.readCounted_only⟩

end

/-- BAR4 offset 0 is byte `HST_BAR4_BASE` of memory. -/
theorem State.bar4Base_eq (s : State) : s.bar4Base = s.get Reg.HST_BAR4_BASE_BASE * 16777216 := by
  simp [State.bar4Base, mib, Nat.mul_assoc]

/-- A span of `len` bytes at `a` meets a partition of `size` MiB at `base`. -/
theorem meets_iff {a len base size : Nat} : (decide (0 < size * mib) && decide (a < base * mib + size * mib) && decide (base * mib < a + len)) = true ↔
    0 < size ∧ a < (base + size) * 1048576 ∧ base * 1048576 < a + len := by
  simp only [Bool.and_eq_true, decide_eq_true_eq]
  unfold mib
  omega

/-- A write that meets a partition in use is discarded (R464). -/
theorem execBar4Write_of_protected {off : Nat} {data : List Nat} {s : State} (hoff : off + data.length ≤ barSize 4) (hup : s.bar4Up = true)
    (hcap : s.bar4Base + off + data.length ≤ s.memCap)
    (huse : (s.flag Reg.TRG_CTRL_RING_EN = true ∧ (decide (0 < s.ringSize) && decide (s.bar4Base + off < s.ringBase + s.ringSize) &&
        decide (s.ringBase < s.bar4Base + off + data.length)) = true) ∨
      (s.frm.burst.tmpl.isSome = true ∧ (decide (0 < s.burstSize) && decide (s.bar4Base + off < s.burstBase + s.burstSize) &&
        decide (s.burstBase < s.bar4Base + off + data.length)) = true)) :
    execBar4Write off data s = .next ((s.mcount Reg.MEM_BAR4_PROT_COUNT).put Reg.MEM_INT_PROT 1) := by
  have hin : ¬s.memCap < s.bar4Base + off + data.length := Nat.not_lt.2 hcap
  have hmeets := huse.imp Bool.and_eq_true_iff.2 Bool.and_eq_true_iff.2
  rw [← Bool.or_eq_true] at hmeets
  simp only [execBar4Write, decide_eq_true hoff, need_true, hup, if_true, hin, if_false, hmeets]

/-- Settles O55: a write that meets a partition in use is `execBar4Write_of_protected`; a read is `State.readBytes_of_clean`. -/
theorem bar4Protection : Obligations.Bar4Protection := by
  unfold Obligations.Bar4Protection
  constructor
  · intro off data s a meets hoff hup hcap huse
    have ha : s.bar4Base + off = a := by rw [State.bar4Base_eq]
    have hdiscard : exec (.bar4Write off data) s = .next ((s.mcount Reg.MEM_BAR4_PROT_COUNT).put Reg.MEM_INT_PROT 1) := by
      refine execBar4Write_of_protected hoff hup (by rw [ha]; exact hcap) ?_
      rw [ha]
      exact huse.imp (fun h => ⟨by simp [State.flag, h.1], meets_iff.2 h.2⟩) fun h => ⟨h.1, meets_iff.2 h.2⟩
    have hcount : RegsOnly [Reg.MEM_BAR4_PROT_COUNT, Reg.MEM_INT_CNT_SAT, Reg.MEM_INT_PROT] s (s.mcount Reg.MEM_BAR4_PROT_COUNT) :=
      .bump _ _ _ _ _ _ _ (by simp) (by simp)
    refine .of_next hdiscard ⟨?_, ?_, ?_, State.get_put_self .., hcount.trans (.put _ _ _ _ _ (by simp))⟩
    · rw [State.mcount, State.bump_eq]
      rfl
    · rw [State.mcount, State.bump_eq]
      rfl
    · rw [State.get_put_of_id _ _ _ _ _ _ _ _ (by decide), State.mcount, State.bump_get _ _ _ _ _ _ _ (by decide), Nat.min_comm]
      rfl
  · intro off n s a hoff hup hcap herr hcopies
    have ha : s.bar4Base + off = a := by rw [State.bar4Base_eq]
    obtain ⟨u, ep, hread, hsame, hkept⟩ := State.readBytes_of_clean (a := a) (n := n) herr hcopies
    have hexec : exec (.bar4Read off n) s = .next { u with rdata := (s.readBytes a n).2.1, hst := { u.hst with ep := ep } } := by
      simp only [exec, execBar4Read, decide_eq_true hoff, need_true, hup, if_true, ha, hread]
      rw [if_pos hcap]
    refine .of_next hexec ⟨?_, hkept _ 0 0 (by decide), hkept _ 0 0 (by decide), ?_⟩
    · rw [hsame]
    · rw [hread]

end Sys2Proof.Machine
end

/-! ## Role sessions, keys and fuses -/

section
namespace Sys2Proof.Machine

/-! ### What an audit entry leaves -/

section
variable {s : State}

/-- An entry of the audit log shows in its queue's fields alone. -/
theorem State.get_audit (kind result target old new arg : Nat) (f : Fld) (i j : Nat) (h : f.id ∉ auditFields.map (·.id)) :
    (s.audit kind result target old new arg).get f i j = s.get f i j :=
  OnlyFields.audit (l := auditFields) _ _ _ _ _ _ (by decide) (by decide) (by decide) (.refl _ s) f i j h

@[simp] theorem State.store_audit (kind result target old new arg : Nat) : (s.audit kind result target old new arg).store = s.store := by
  rw [State.audit_eq]

@[simp] theorem State.sess_audit (kind result target old new arg : Nat) : (s.audit kind result target old new arg).sess = s.sess := by
  rw [State.audit_eq]

@[simp] theorem State.mem_audit (kind result target old new arg : Nat) : (s.audit kind result target old new arg).mem = s.mem := by
  rw [State.audit_eq]

@[simp] theorem State.dtRef_audit (kind result target old new arg : Nat) : (s.audit kind result target old new arg).dtRef = s.dtRef := by
  rw [State.audit_eq]

/-- An entry that finds room is the last of the queue. -/
theorem State.aud_audit (h : s.aud.queue.length < 32) (kind result target old new arg : Nat) :
    (s.audit kind result target old new arg).aud =
      { s.aud with queue := s.aud.queue ++ [{ entry := s.auditEntry kind result target old new arg, write := none }] } := by
  rw [State.audit, State.auditPush_of_room h]
  rfl

end

/-! ### Requests (R520 to R522) -/

section
variable {s : State} {role : Nat}

/-- A session that is closed, or whose idle time is not over, stays as it is. -/
theorem State.idleClose_of_idle (h : s.get Reg.GEN_SESS_STATUS_STATE ≠ 2 ∨ s.sessionLive) : s.idleClose = s := by
  rcases h with h | h
  · exact if_neg (by simp [h])
  · exact State.idleClose_of_live h

/-- A session whose idle time is over is closed. -/
theorem State.idleClose_of_over (h : s.get Reg.GEN_SESS_STATUS_STATE = 2) (hover : ¬s.sessionLive) : s.idleClose = s.closeSession 1 :=
  if_pos (by simp [h, Nat.not_lt.1 hover])

/-- A challenge is drawn for a role. -/
def State.challenged (s : State) (role : Nat) : State :=
  (({ (s.put Reg.GEN_SESS_CHAL_CHAL (Config.challenge s.drawn).toNat).draw with
      sess := { s.sess with chalRole := role, chalAt := s.dtRef } } : State).put Reg.GEN_SESS_STATUS_STATE 1).put Reg.GEN_SESS_STATUS_ERR 0

/-- What a request comes to once an idle session is closed. -/
theorem exec_sessionRequest (hr : s.responds 0x210 = true) : exec (.sessionRequest role) s = .next (
    if (s.idleClose.keyOf role).isNone then s.idleClose.put Reg.GEN_SESS_STATUS_ERR 1
    else if s.idleClose.get Reg.GEN_SESS_STATUS_STATE = 2 then s.idleClose.put Reg.GEN_SESS_STATUS_ERR 2
    else if s.idleClose.get Reg.GEN_SESS_STATUS_STATE = 3 then s.idleClose.put Reg.GEN_SESS_STATUS_ERR 5
    else s.idleClose.challenged role) :=
  congrArg Host.Outcome.next (State.bar_of_responds hr _)

theorem State.challenged_chal : (s.challenged role).get Reg.GEN_SESS_CHAL_CHAL = (Config.challenge s.drawn).toNat := by
  have hchal : (s.challenged role).get Reg.GEN_SESS_CHAL_CHAL = (s.put Reg.GEN_SESS_CHAL_CHAL (Config.challenge s.drawn).toNat).get
      Reg.GEN_SESS_CHAL_CHAL := by
    unfold State.challenged
    rw [State.get_put_of_id _ _ _ _ _ _ _ _ (by decide), State.get_put_of_id _ _ _ _ _ _ _ _ (by decide)]
    rfl
  rw [hchal, State.get_put_self]
  exact trunc_of_lt (Config.challenge s.drawn).isLt

theorem State.challenged_only : OnlyFields [Reg.GEN_SESS_STATUS_STATE, Reg.GEN_SESS_STATUS_ERR, Reg.GEN_SESS_CHAL_CHAL] s (s.challenged role) :=
  .put _ _ _ _ (by simp) (.put _ _ _ _ (by simp) ((OnlyFields.put _ _ _ _ (by simp) (.refl _ s)).trans (.of_regs rfl)))

theorem State.challenged_state : (s.challenged role).get Reg.GEN_SESS_STATUS_STATE = 1 := by
  unfold State.challenged
  rw [State.get_put_of_id _ _ _ _ _ _ _ _ (by decide), State.get_put_self]
  rfl

theorem State.challenged_err : (s.challenged role).get Reg.GEN_SESS_STATUS_ERR = 0 := State.get_put_self ..

/-- A request outside an open session whose idle time is over. -/
theorem sessionRequest_of_idle (hr : s.responds 0x210 = true) (h : s.get Reg.GEN_SESS_STATUS_STATE ≠ 2 ∨ s.sessionLive) :
    (s.keyOf role = none → Does (.sessionRequest role) s fun t => t = s.put Reg.GEN_SESS_STATUS_ERR 1) ∧
    (s.keyOf role ≠ none → s.get Reg.GEN_SESS_STATUS_STATE = 2 → Does (.sessionRequest role) s fun t => t = s.put Reg.GEN_SESS_STATUS_ERR 2) ∧
    (s.keyOf role ≠ none → s.get Reg.GEN_SESS_STATUS_STATE = 3 → Does (.sessionRequest role) s fun t => t = s.put Reg.GEN_SESS_STATUS_ERR 5) ∧
    (s.keyOf role ≠ none → s.get Reg.GEN_SESS_STATUS_STATE < 2 → Does (.sessionRequest role) s fun t => t = s.challenged role) := by
  have e := exec_sessionRequest (role := role) hr
  rw [State.idleClose_of_idle h] at e
  refine ⟨fun hk => .of_next e ?_, fun hk hst => .of_next e ?_, fun hk hst => .of_next e ?_, fun hk hst => .of_next e ?_⟩
  · simp [hk]
  · simp [hk, hst]
  · simp [hk, hst]
  · have h2 : s.get Reg.GEN_SESS_STATUS_STATE ≠ 2 := by omega
    have h3 : s.get Reg.GEN_SESS_STATUS_STATE ≠ 3 := by omega
    simp [hk, h2, h3]

/-- What the end of a session shows: its status and its staged key clear, and GEN_SVC_INT.SESSION rises (R521). -/
theorem State.closeSession_of_open (h : s.get Reg.GEN_SESS_STATUS_STATE = 2) (reason : Nat) :
    (s.closeSession reason).get Reg.GEN_SESS_STATUS_STATE = 0 ∧ (s.closeSession reason).get Reg.GEN_SESS_STATUS_ROLE = 0 ∧
    (s.closeSession reason).get Reg.GEN_KEY_STAGE_KEY 0 = 0 ∧ (s.closeSession reason).get Reg.GEN_KEY_STAGE_KEY 3 = 0 ∧
    (s.closeSession reason).get Reg.GEN_SVC_INT_SESSION = 1 ∧ (s.closeSession reason).aud = (s.audit 4 0 0x210 0 0 reason).aud := by
  have hdrop (u : State) (c : Bool) : (u.cond c (·.dropSafety)).aud = u.aud := by cases c <;> rfl
  simp only [State.closeSession, h, if_true, State.each_cons, State.each_nil]
  generalize hu : (s.audit 4 0 0x210 0 0 reason).cond ((s.audit 4 0 0x210 0 0 reason).role == 3) (·.dropSafety) = u
  have haud : u.aud = (s.audit 4 0 0x210 0 0 reason).aud := hu ▸ hdrop _ _
  simp (disch := decide) only [State.get_put_of_id, State.get_put_of_ne, State.get_put_self]
  exact ⟨rfl, rfl, rfl, rfl, rfl, haud⟩

/-- The entry of a session that ends. -/
theorem State.aud_closeSession (h : s.get Reg.GEN_SESS_STATUS_STATE = 2) (hq : s.aud.queue.length < 32) (reason : Nat) :
    (s.closeSession reason).aud =
      { s.aud with queue := s.aud.queue ++ [{ entry := s.auditEntry 4 0 0x210 0 0 reason, write := none }] } := by
  obtain ⟨-, -, -, -, -, haud⟩ := State.closeSession_of_open h reason
  rw [haud, State.aud_audit hq]

/-- A request in a session whose idle time is over ends that session first. -/
theorem sessionRequest_of_over (hr : s.responds 0x210 = true) (h : s.get Reg.GEN_SESS_STATUS_STATE = 2) (hover : ¬s.sessionLive)
    (hk : s.keyOf role ≠ none) (hq : s.aud.queue.length < 32) : Does (.sessionRequest role) s fun t =>
      t.get Reg.GEN_SESS_STATUS_STATE = 1 ∧ t.get Reg.GEN_SESS_STATUS_ROLE = 0 ∧ t.get Reg.GEN_SESS_STATUS_ERR = 0 ∧ t.sess.chalRole = role ∧
      (t.aud.queue.getLast?.map fun w => (w.entry.kind, w.entry.arg, w.write)) = some (4, 1, none) := by
  have e := exec_sessionRequest (role := role) hr
  rw [State.idleClose_of_over h hover] at e
  obtain ⟨hstate, hrole, -⟩ := State.closeSession_of_open h 1
  have haud := State.aud_closeSession h hq 1
  have hkey : (s.closeSession 1).keyOf role = s.keyOf role := by rw [State.closeSession_eq]; rfl
  generalize s.closeSession 1 = u at e hstate hrole haud hkey
  refine .of_next e ?_
  simp only [hkey, Option.isNone_iff_eq_none, hk, hstate, if_false, OfNat.zero_ne_ofNat]
  refine ⟨State.challenged_state, ?_, State.challenged_err, rfl, ?_⟩
  · rw [State.challenged_only _ _ _ (by decide), hrole]
  · show u.aud.queue.getLast?.map _ = _
    rw [haud, List.getLast?_concat]
    rfl

/-! ### Responses (R520, R522) -/

variable {hi : Nat}

/-- The response in the registers. -/
def State.respWord (s : State) (hi : Nat) : Nat := s.get Reg.GEN_SESS_RESP_RESP % 2 ^ 32 + hi % 2 ^ 32 * 2 ^ 32

/-- The role's key gives this response to the challenge. -/
def State.answers (s : State) (resp : Nat) : Bool :=
  match s.keyOf s.sess.chalRole with
  | none => false
  | some k => sessionResponse k (s.get Reg.GEN_SESS_CHAL_CHAL) s.sess.chalRole s.store.serial == resp

theorem State.answers_iff {resp : Nat} : s.answers resp = true ↔
    ((s.keyOf s.sess.chalRole).map fun k => sessionResponse k (s.get Reg.GEN_SESS_CHAL_CHAL) s.sess.chalRole s.store.serial) = some resp := by
  unfold State.answers
  cases s.keyOf s.sess.chalRole <;> simp

/-- A session opens (R522). -/
def State.sessionOpened (s : State) : State :=
  let s : State := { s with store := { s.store with sessFails := 0, lockNext := 60 }, sess := { s.sess with lastWrite := s.dtRef } }
  ((((s.put Reg.GEN_SESS_STATUS_STATE 2).put Reg.GEN_SESS_STATUS_ROLE s.sess.chalRole).put Reg.GEN_SESS_STATUS_ERR 0).put
    Reg.GEN_SESS_STATUS_FAILS 0).put Reg.GEN_SVC_INT_SESSION 1

/-- What a response comes to. -/
theorem exec_sessionResponse (hr : s.responds 0x224 = true) : exec (.sessionResponse hi) s = .next (
    if s.get Reg.GEN_SESS_STATUS_STATE = 3 then s.put Reg.GEN_SESS_STATUS_ERR 5
    else if s.get Reg.GEN_SESS_STATUS_STATE ≠ 1 then s.put Reg.GEN_SESS_STATUS_ERR 6
    else if s.sess.chalAt + 7500000000 < s.dtRef then
      ((s.put Reg.GEN_SESS_STATUS_STATE 0).put Reg.GEN_SESS_STATUS_ERR 4).audit 5 0 0x224 0 0 0
    else if s.answers (s.respWord hi) then s.sessionOpened.audit 3 0 0x224 0 0 0
    else s.wrongResponse) :=
  congrArg Host.Outcome.next (State.bar_of_responds hr _)

/-- A response that comes too late ends its challenge. -/
theorem sessionResponse_of_late (hr : s.responds 0x224 = true) (h : s.get Reg.GEN_SESS_STATUS_STATE = 1)
    (hlate : s.sess.chalAt + 30 * 250000000 < s.dtRef) : Does (.sessionResponse hi) s fun t =>
      t.get Reg.GEN_SESS_STATUS_STATE = 0 ∧ t.get Reg.GEN_SESS_STATUS_ERR = 4 ∧ t.store = s.store ∧
      Only (Reg.GEN_SESS_STATUS_STATE :: Reg.GEN_SESS_STATUS_ERR :: auditFields) s t { s with regs := t.regs, aud := t.aud } := by
  refine .of_next (exec_sessionResponse hr) ?_
  simp only [h, OfNat.one_ne_ofNat, if_false, ne_eq, not_true_eq_false, hlate, if_true]
  refine ⟨?_, ?_, State.store_audit .., ?_, ?_⟩
  · rw [State.get_audit _ _ _ _ _ _ _ _ _ (by decide), State.get_put_of_id _ _ _ _ _ _ _ _ (by decide), State.get_put_self]
    rfl
  · rw [State.get_audit _ _ _ _ _ _ _ _ _ (by decide), State.get_put_self]
    rfl
  · rw [State.audit_eq]
    rfl
  · exact .audit _ _ _ _ _ _ (by decide) (by decide) (by decide) (.put _ _ _ _ (by decide) (.put _ _ _ _ (by decide) (.refl _ s)))

/-- The right response in time opens the session. -/
theorem sessionResponse_of_right (hr : s.responds 0x224 = true) (h : s.get Reg.GEN_SESS_STATUS_STATE = 1)
    (htime : s.dtRef ≤ s.sess.chalAt + 30 * 250000000) (hright : s.answers (s.respWord hi) = true) (hrole : s.sess.chalRole < 8)
    (hq : s.aud.queue.length < 32) : Does (.sessionResponse hi) s fun t =>
      t.get Reg.GEN_SESS_STATUS_STATE = 2 ∧ t.get Reg.GEN_SESS_STATUS_ROLE = s.sess.chalRole ∧ t.get Reg.GEN_SESS_STATUS_ERR = 0 ∧
      t.get Reg.GEN_SESS_STATUS_FAILS = 0 ∧ t.get Reg.GEN_SVC_INT_SESSION = 1 ∧ t.store = { s.store with sessFails := 0, lockNext := 60 } ∧
      t.sess.lastWrite = s.dtRef ∧ (t.aud.queue.getLast?.map fun w => (w.entry.kind, w.entry.role, w.write)) = some (3, s.sess.chalRole, none) ∧
      t.mem = s.mem := by
  have hfields : s.sessionOpened.get Reg.GEN_SESS_STATUS_STATE = 2 ∧ s.sessionOpened.get Reg.GEN_SESS_STATUS_ROLE = s.sess.chalRole ∧
      s.sessionOpened.get Reg.GEN_SESS_STATUS_ERR = 0 ∧ s.sessionOpened.get Reg.GEN_SESS_STATUS_FAILS = 0 ∧ s.sessionOpened.get Reg.GEN_SVC_INT_SESSION = 1 := by
    simp (disch := decide) only [State.sessionOpened, State.get_put_of_id, State.get_put_self]
    exact ⟨rfl, trunc_of_lt hrole, rfl, rfl, rfl⟩
  obtain ⟨hstate, hopenRole, herr, hfails, hint⟩ := hfields
  refine .of_next (exec_sessionResponse hr) ?_
  simp only [h, OfNat.one_ne_ofNat, if_false, ne_eq, not_true_eq_false, Nat.not_lt.2 htime, hright, if_true]
  simp (disch := decide) only [State.get_audit, State.store_audit, State.sess_audit, State.mem_audit]
  refine ⟨hstate, hopenRole, herr, hfails, hint, rfl, rfl, ?_, rfl⟩
  rw [State.aud_audit (s := s.sessionOpened) hq, List.getLast?_concat]
  have hentry : s.sessionOpened.role = s.sess.chalRole := by simp [State.role, hstate, hopenRole]
  exact congrArg (fun r => some (3, r, none)) hentry

/-- The count of wrong responses after one more. -/
def State.nextFails (s : State) : Nat := min 15 (s.store.sessFails + 1)

/-- A wrong response that locks nobody out. -/
theorem State.wrongResponse_of_few (hn : s.nextFails < 3) : s.wrongResponse =
    ((((({ s with store := { s.store with sessFails := s.nextFails } } : State).put Reg.GEN_SESS_STATUS_FAILS s.nextFails).put
      Reg.GEN_SESS_STATUS_ERR 3).put Reg.GEN_SESS_STATUS_STATE 0).audit 5 0 0x224 0 0 0) := if_pos hn

/-- The third wrong response in a row, and each after it, locks out. -/
def State.lockedOut (s : State) : State :=
  (((((({ s with
    store := { s.store with sessFails := s.nextFails, lockLeft := s.store.lockNext, lockNext := min 3840 (2 * s.store.lockNext) }
    sess := { s.sess with lockAt := s.dtRef } } : State).put Reg.GEN_SESS_STATUS_FAILS s.nextFails).put Reg.GEN_SESS_STATUS_ERR 3).put
      Reg.GEN_SESS_STATUS_STATE 3).put Reg.GEN_SESS_STATUS_LOCK s.store.lockNext).put Reg.GEN_SVC_INT_LOCKOUT 1)

theorem State.wrongResponse_of_many (hn : ¬s.nextFails < 3) :
    s.wrongResponse = s.lockedOut.audit 5 0 0x224 0 0 s.store.lockNext := if_neg hn

/-- A wrong response counts and from the third on locks out (R522). -/
theorem State.wrongResponse_shows (hq : s.aud.queue.length < 32) : let n := s.nextFails; let t := s.wrongResponse
    t.get Reg.GEN_SESS_STATUS_FAILS = n ∧ t.store.sessFails = n ∧ t.get Reg.GEN_SESS_STATUS_ERR = 3 ∧
      (t.aud.queue.getLast?.map fun w => (w.entry.kind, w.write)) = some (5, none) ∧
      (n < 3 → t.get Reg.GEN_SESS_STATUS_STATE = 0 ∧ t.get Reg.GEN_SVC_INT_LOCKOUT = s.get Reg.GEN_SVC_INT_LOCKOUT) ∧
      (3 ≤ n → t.get Reg.GEN_SESS_STATUS_STATE = 3 ∧ t.get Reg.GEN_SESS_STATUS_LOCK = s.store.lockNext % 2 ^ 16 ∧
        t.store.lockLeft = s.store.lockNext ∧ t.store.lockNext = min 3840 (2 * s.store.lockNext) ∧ t.get Reg.GEN_SVC_INT_LOCKOUT = 1 ∧
        t.sess.lockAt = s.dtRef) := by
  have hfit : trunc 4 s.nextFails = s.nextFails := trunc_of_lt (by unfold State.nextFails; omega)
  dsimp only
  by_cases hn : s.nextFails < 3
  · rw [State.wrongResponse_of_few hn]
    simp (disch := decide) only [State.get_audit, State.store_audit, State.get_put_of_id, State.get_put_self]
    refine ⟨hfit, rfl, rfl, ?_, fun _ => ⟨rfl, rfl⟩, fun h => absurd hn (Nat.not_lt.2 h)⟩
    rw [State.aud_audit (by exact hq), List.getLast?_concat]
    rfl
  · rw [State.wrongResponse_of_many hn]
    simp (disch := decide) only [State.lockedOut, State.get_audit, State.store_audit, State.sess_audit, State.get_put_of_id,
      State.get_put_self]
    refine ⟨hfit, rfl, rfl, ?_, fun h => absurd h hn, fun _ => ⟨rfl, rfl, rfl, rfl, rfl, rfl⟩⟩
    rw [State.aud_audit (by exact hq), List.getLast?_concat]
    rfl

/-! ### The end of a session and of a lockout (R521, R522) -/

theorem exec_sessionClose (hr : s.responds 0x210 = true) : exec .sessionClose s = .next (s.idleClose.closeSession 0) :=
  congrArg Host.Outcome.next (State.bar_of_responds hr _)

/-- With no session open there is nothing to close. -/
theorem State.closeSession_of_closed (h : s.get Reg.GEN_SESS_STATUS_STATE ≠ 2) (reason : Nat) : s.closeSession reason = s := if_neg h

theorem sessionClose_of_closed (hr : s.responds 0x210 = true) (h : s.get Reg.GEN_SESS_STATUS_STATE ≠ 2) :
    Does .sessionClose s fun t => t = s := by
  refine .of_next (exec_sessionClose hr) ?_
  rw [State.idleClose_of_idle (.inl h), State.closeSession_of_closed h]

theorem sessionClose_of_live (hr : s.responds 0x210 = true) (hlive : s.sessionLive) :
    Does .sessionClose s fun t => t = s.closeSession 0 := by
  refine .of_next (exec_sessionClose hr) ?_
  rw [State.idleClose_of_live hlive]

theorem sessionIdleTimeout_of_closed (h : s.get Reg.GEN_SESS_STATUS_STATE ≠ 2) : Does .sessionIdleTimeout s fun t => t = s :=
  .of_next (if_neg h) rfl

/-- The idle time ends an open session. -/
theorem sessionIdleTimeout_of_open (h : s.get Reg.GEN_SESS_STATUS_STATE = 2) (hq : s.aud.queue.length < 32) :
    Does .sessionIdleTimeout s fun t => t.get Reg.GEN_SESS_STATUS_STATE = 0 ∧ t.get Reg.GEN_SVC_INT_SESSION = 1 ∧
      t.dtRef = (s.advanceTo (s.sess.lastWrite + 250000000 * max 1 (s.get Reg.GEN_SESS_CFG_IDLE))).dtRef ∧
      (t.aud.queue.getLast?.map fun w => (w.entry.kind, w.entry.arg, w.write)) = some (4, 1, none) := by
  generalize hd : s.sess.lastWrite + 250000000 * max 1 (s.get Reg.GEN_SESS_CFG_IDLE) = d
  have hopen : (s.advanceTo d).get Reg.GEN_SESS_STATUS_STATE = 2 := (s.get_advanceTo _ _ _ _ (by decide)).trans h
  have hroom : (s.advanceTo d).aud.queue.length < 32 := by rw [State.advanceTo_eq]; exact hq
  obtain ⟨hstate, -, -, -, hint, -⟩ := State.closeSession_of_open hopen 1
  refine .of_next (if_pos h) ?_
  simp only [hd]
  refine ⟨hstate, hint, ?_, ?_⟩
  · rw [State.closeSession_eq]
  · rw [State.aud_closeSession hopen hroom, List.getLast?_concat]
    rfl

theorem lockoutExpire_of_none (h : s.get Reg.GEN_SESS_STATUS_STATE ≠ 3) : Does .lockoutExpire s fun t => t = s :=
  .of_next (if_neg h) rfl

/-- A lockout ends with nothing left of it. -/
theorem lockoutExpire_of_locked (h : s.get Reg.GEN_SESS_STATUS_STATE = 3) : Does .lockoutExpire s fun t =>
    t.get Reg.GEN_SESS_STATUS_STATE = 0 ∧ t.get Reg.GEN_SESS_STATUS_LOCK = 0 ∧ t.store = { s.store with lockLeft := 0 } ∧
      t.dtRef = (s.advanceTo (s.sess.lockAt + 250000000 * s.store.lockLeft)).dtRef := by
  refine .of_next (if_pos h) ?_
  simp (disch := decide) only [State.get_put_of_id, State.get_put_self]
  refine ⟨rfl, rfl, ?_, rfl⟩
  show { (s.advanceTo _).store with lockLeft := 0 } = _
  rw [State.advanceTo_store]

/-! ### Guarded writes refused for a cause of their own (R531) -/

section
variable {kind a old v act cause arg : Nat} {roles : List Nat}

/-- A guarded write that finds a cause against it is refused with that cause as its result. -/
theorem State.guarded_of_cause (hlive : s.sessionLive) (hrole : roles.contains s.role = true) (hcause : cause ≠ 0) :
    s.guarded kind a old v act roles cause arg =
      ({ s with sess := { s.sess with lastWrite := s.dtRef } } : State).refuseGuarded kind cause a old v := by
  simp only [State.guarded, State.idleClose_of_live hlive, hrole, if_true, ne_eq, hcause, not_false_eq_true]

/-- One that finds the audit queue full is refused with RESULT 0x4. -/
theorem State.guarded_of_full (hlive : s.sessionLive) (hrole : roles.contains s.role = true) (hq : 32 ≤ s.aud.queue.length) :
    s.guarded kind a old v act roles 0 arg =
      ({ s with sess := { s.sess with lastWrite := s.dtRef } } : State).refuseGuarded kind 4 a old v := by
  simp only [State.guarded, State.idleClose_of_live hlive, hrole, if_true, ne_eq, not_true_eq_false, if_false, hq]

/-- What a refusal for a cause shows. -/
theorem State.guarded_shows_cause (hlive : s.sessionLive) (hrole : roles.contains s.role = true) (hcause : cause ≠ 0) :
    (s.guarded kind a old v act roles cause arg).get Reg.GEN_INT_REFUSED = 1 ∧ (s.guarded kind a old v act roles cause arg).store = s.store ∧
      (s.aud.queue.length < 32 → ((s.guarded kind a old v act roles cause arg).aud.queue.getLast?.map
        fun w => (w.entry.kind, w.entry.result, w.write)) = some (kind, cause, none)) := by
  rw [State.guarded_of_cause hlive hrole hcause]
  obtain ⟨hint, ⟨hsame, -⟩, haud⟩ := State.refuseGuarded_refused (kind := kind) (result := cause) (a := a) (old := old) (v := v)
    (s := { s with sess := { s.sess with lastWrite := s.dtRef } })
  refine ⟨hint, by rw [hsame], fun hq => ?_⟩
  rw [haud hq, List.getLast?_concat]
  rfl

/-- What a refusal for want of room shows: the entry is lost and counted. -/
theorem State.guarded_shows_full (hlive : s.sessionLive) (hrole : roles.contains s.role = true) (hq : 32 ≤ s.aud.queue.length) :
    let t := s.guarded kind a old v act roles 0 arg
    t.get Reg.GEN_INT_REFUSED = 1 ∧ t.aud.queue = s.aud.queue ∧ t.aud.lost = s.aud.lost + 1 ∧ t.store = s.store ∧
      t.get Reg.GEN_AUD_DROP_COUNT = min (2 ^ 32 - 1) (s.get Reg.GEN_AUD_DROP_COUNT + 1) := by
  let u : State := ({ s with sess := { s.sess with lastWrite := s.dtRef } } : State).put Reg.GEN_INT_REFUSED 1
  let w : State := { u with aud := { u.aud with lost := u.aud.lost + 1 } }
  have e : s.guarded kind a old v act roles 0 arg = w.bump Reg.GEN_AUD_DROP_COUNT Reg.GEN_SVC_INT_CNT_SAT :=
    (State.guarded_of_full hlive hrole hq).trans (if_neg (Nat.not_lt.2 hq))
  have hkept : RegsOnly [Reg.GEN_AUD_DROP_COUNT, Reg.GEN_SVC_INT_CNT_SAT] w (w.bump Reg.GEN_AUD_DROP_COUNT Reg.GEN_SVC_INT_CNT_SAT) :=
    .bump _ _ _ _ _ _ _ (by simp) (by simp)
  obtain ⟨hsame, honly⟩ := hkept
  have hrefused : u.get Reg.GEN_INT_REFUSED = 1 := State.get_put_self ..
  have hdrop : u.get Reg.GEN_AUD_DROP_COUNT = s.get Reg.GEN_AUD_DROP_COUNT := State.get_put_of_id _ _ _ _ _ _ _ _ (by decide)
  rw [e]
  refine ⟨(honly _ _ _ (by decide)).trans hrefused, by rw [hsame]; rfl, by rw [hsame]; rfl, by rw [hsame]; rfl, ?_⟩
  rw [State.bump_get _ _ _ _ _ _ _ (by decide), Nat.min_comm, show w.get Reg.GEN_AUD_DROP_COUNT = _ from hdrop]
  rfl

end

/-! ### Keys and the module ID (R523, R524) -/

section
variable {chk id : Nat}

/-- Why the programming of a key is refused. -/
def State.keyCause (s : State) (role chk : Nat) : Nat :=
  if role = 0 || 4 < role then 3
  else if s.store.keyLeft.getD (role - 1) 0 = 0 then 2
  else if leNat ((sha256 (leBytes 16 s.stagedKey)).take 2) == chk % 65536 then 0 else 3

theorem State.keyCause_of_role (hlow : 1 ≤ role) (hhigh : role ≤ 4) : s.keyCause role chk =
    if s.store.keyLeft.getD (role - 1) 0 = 0 then 2
    else if leNat ((sha256 (leBytes 16 s.stagedKey)).take 2) == chk % 65536 then 0 else 3 :=
  if_neg (by simp; omega)

theorem exec_keyProgram (hr : s.responds 0x240 = true) : exec (.keyProgram role chk) s = .next (let left := s.store.keyLeft.getD (role - 1) 0
    s.guarded 2 0x240 (role * 256 + left) (role * 256 + (left - 1)) (s.stagedKey * 8 + role) [1] (s.keyCause role chk)) :=
  congrArg Host.Outcome.next (State.bar_of_responds hr _)

theorem exec_moduleIdProgram (hr : s.responds 0x208 = true) : exec (.moduleIdProgram id) s =
    .next (s.guarded 2 0x208 s.store.moduleId (id % 4096) (id % 4096) [1] (if s.store.idLeft = 0 then 2 else 0)) :=
  congrArg Host.Outcome.next (State.bar_of_responds hr _)

theorem contains_owner (h : s.role = 1) : [1].contains s.role = true := by simp [h]

theorem not_contains_owner (h : s.role ≠ 1) : [1].contains s.role = false := by simpa using h

/-- A key is programmed by Owner alone, with a generation left and the right CHK (R524, R531). -/
theorem keyProgram_of_live (hr : s.responds 0x240 = true) (hlive : s.sessionLive) (hlow : 1 ≤ role) (hhigh : role ≤ 4) :
    let left := s.store.keyLeft.getD (role - 1) 0
    let good := leNat ((sha256 (leBytes 16 s.stagedKey)).take 2) = chk % 65536
    (s.role ≠ 1 → Does (.keyProgram role chk) s (RefusedWrite 2 1 0x240 (role * 256 + left) (role * 256 + (left - 1)) s)) ∧
    (s.role = 1 → (left = 0 ∨ ¬good) → Does (.keyProgram role chk) s fun t => t.get Reg.GEN_INT_REFUSED = 1 ∧ t.store = s.store ∧
      (s.aud.queue.length < 32 → (t.aud.queue.getLast?.map fun w => (w.entry.kind, w.entry.result, w.write)) = some (2, if left = 0 then 2 else 3, none))) ∧
    (s.role = 1 → left ≠ 0 → good → s.aud.queue.length < 32 →
      Does (.keyProgram role chk) s (Waits 2 0x240 (role * 256 + left) (role * 256 + (left - 1)) (s.stagedKey * 8 + role) 0 s)) := by
  intro left good
  have hcause := State.keyCause_of_role (s := s) (chk := chk) hlow hhigh
  refine ⟨fun hrole => .of_next (exec_keyProgram hr) (State.guarded_refused hlive (not_contains_owner hrole)), fun hrole hbad => ?_,
    fun hrole hleft hgood hq => ?_⟩
  · have hcode : s.keyCause role chk = if left = 0 then 2 else 3 := by
      rw [hcause]
      by_cases hleft : left = 0
      · rw [if_pos hleft, if_pos hleft]
      · have hwrong : ¬good := hbad.resolve_left hleft
        rw [if_neg hleft, if_neg hleft, if_neg (mt beq_iff_eq.1 hwrong)]
    have hne : s.keyCause role chk ≠ 0 := by rw [hcode]; split <;> decide
    refine .of_next (exec_keyProgram hr) ?_
    rw [← hcode]
    exact State.guarded_shows_cause hlive (contains_owner hrole) hne
  · have hzero : s.keyCause role chk = 0 := by rw [hcause, if_neg hleft, if_pos (beq_iff_eq.2 hgood)]
    refine .of_next (exec_keyProgram hr) ?_
    rw [hzero]
    exact State.guarded_waits hlive (contains_owner hrole) hq

/-- The module ID is programmed by Owner alone (R523). -/
theorem moduleIdProgram_of_live (hr : s.responds 0x208 = true) (hlive : s.sessionLive) :
    (s.role ≠ 1 → Does (.moduleIdProgram id) s (RefusedWrite 2 1 0x208 s.store.moduleId (id % 4096) s)) ∧
    (s.role = 1 → s.store.idLeft ≠ 0 → s.aud.queue.length < 32 →
      Does (.moduleIdProgram id) s (Waits 2 0x208 s.store.moduleId (id % 4096) (id % 4096) 0 s)) ∧
    (s.role = 1 → s.store.idLeft ≠ 0 → 32 ≤ s.aud.queue.length → Does (.moduleIdProgram id) s fun t =>
      t.get Reg.GEN_INT_REFUSED = 1 ∧ t.aud.queue = s.aud.queue ∧ t.aud.lost = s.aud.lost + 1 ∧ t.store = s.store ∧
        t.get Reg.GEN_AUD_DROP_COUNT = min (2 ^ 32 - 1) (s.get Reg.GEN_AUD_DROP_COUNT + 1)) := by
  have e := exec_moduleIdProgram (id := id) hr
  refine ⟨fun hrole => .of_next e (State.guarded_refused hlive (not_contains_owner hrole)), fun hrole hleft hq => .of_next e ?_,
    fun hrole hleft hq => .of_next e ?_⟩
  · rw [if_neg hleft]
    exact State.guarded_waits hlive (contains_owner hrole) hq
  · rw [if_neg hleft]
    exact State.guarded_shows_full hlive (contains_owner hrole) hq

variable {key : Nat}

/-- A generation is used whether or not the key reads back. -/
theorem State.keyFuse_eq (hleft : s.store.keyLeft.getD (role - 1) 0 ≠ 0) (ok : Bool) : s.keyFuse role key ok =
    { s with store := { s.store with
      keys := if ok then s.store.keys.set (role - 1) (some key) else s.store.keys
      keyLeft := s.store.keyLeft.set (role - 1) (s.store.keyLeft.getD (role - 1) 0 - 1) } } := if_neg hleft

@[simp] theorem State.store_put (f : Fld) (v i j : Nat) : (s.put f v i j).store = s.store := rfl
@[simp] theorem State.store_putB (f : Fld) (b : Bool) (i j : Nat) : (s.putB f b i j).store = s.store := rfl

theorem State.store_lighthouse : s.lighthouse.store = s.store := by
  have hcond (c : Bool) (f : Fld) : (s.cond c (·.put f 1)).store = s.store := by cases c <;> rfl
  simp only [State.lighthouse]
  split
  · exact hcond ..
  · split <;> exact hcond ..

theorem State.idFuse_good (hleft : s.store.idLeft ≠ 0) :
    (s.idFuse key true).store = { s.store with moduleId := key % 4096, idSet := true, idLeft := 0 } := by
  simp only [State.idFuse, if_neg hleft, if_true]
  cases s.flag Reg.LNK_CTRL_ROLE
  · rfl
  · exact State.store_lighthouse

theorem State.idFuse_bad (hleft : s.store.idLeft ≠ 0) : (s.idFuse key false).store = { s.store with idLeft := 0 } := by
  simp only [State.idFuse, if_neg hleft, Bool.false_eq_true, if_false]

/-- A fuse of a key or of the module ID uses a generation, and takes effect only when it reads back. -/
theorem fuses_of_left (hlow : 1 ≤ role) (hhigh : role ≤ 4) (hlen : s.store.keyLeft.length = 4) (hkeys : s.store.keys.length = 4)
    (hleft : s.store.keyLeft.getD (role - 1) 0 ≠ 0) : let n := s.store.keyLeft.getD (role - 1) 0
    (s.keyFuse role key true).keyOf role = some key ∧ (s.keyFuse role key true).store.keyLeft.getD (role - 1) 0 = n - 1 ∧
      (s.keyFuse role key false).keyOf role = s.keyOf role ∧ (s.keyFuse role key false).store.keyLeft.getD (role - 1) 0 = n - 1 := by
  intro n
  have hrole : role ≠ 0 := by omega
  rw [State.keyFuse_eq hleft, State.keyFuse_eq hleft]
  have hin : role - 1 < 4 := by omega
  simp [State.keyOf, hrole, hlen, hkeys, hin, n]

/-! ### GEN_KEY_STAGE (R524) -/

variable {i val : Nat}

/-- A word of GEN_KEY_STAGE as a word of BAR0 reaches it. -/
def keyRef (i : Nat) : RegRef := { f := Reg.GEN_KEY_STAGE_KEY, i := i, j := 0, k := 0 }

theorem State.refs_keyStage (hi : i < 4) : s.refs (0x230 + 4 * i) = [keyRef i] := by
  have h : ∀ i < 4, (regTable.filter fun f => f.covers (0x230 + 4 * i)) = [Reg.GEN_KEY_STAGE_KEY] := by decide +kernel
  have hinst : (0x230 + 4 * i - 0x230) / 4 = i := by omega
  have hword : (0x230 + 4 * i - 0x230) % 4 / 4 = 0 := by omega
  rw [State.refs, h i hi]
  exact congrArg₂ (fun i k => [({ f := Reg.GEN_KEY_STAGE_KEY, i := i, j := 0, k := k } : RegRef)]) hinst hword

/-- Outside Owner's session a write of the staged key does nothing (R524). -/
theorem State.special_keyStage (hi : i < 4) (v : Nat) :
    s.special (0x230 + 4 * i) v = if s.idleClose.role = 1 then none else some s.idleClose := by
  interval_cases i <;> simp [State.special]

theorem State.after_keyStage (hi : i < 4) (t : State) (v : Nat) : s.after t (0x230 + 4 * i) v = t := by
  interval_cases i <;> simp [State.after]

theorem exec_registerWrite_keyStage (hi : i < 4) (hr : s.responds (0x230 + 4 * i) = true) :
    exec (.registerWrite (0x230 + 4 * i) val 4) s = .next (s.write32 (0x230 + 4 * i) (val % 2 ^ 32)) := by
  rw [← State.bar_of_responds (f := fun s => s.write32 (0x230 + 4 * i) (val % 2 ^ 32)) hr]
  interval_cases i <;> rfl

/-- Fields hold no more than their width. -/
theorem State.put_trunc (f : Fld) (v j : Nat) : s.put f (trunc f.width v) i j = s.put f v i j := by
  unfold State.put trunc
  rw [Nat.mod_mod]

/-- A word of the staged key is Owner's. -/
theorem keyStage_of_live (hi : i < 4) (hr : s.responds (0x230 + 4 * i) = true) (hlive : s.sessionLive) :
    (s.role ≠ 1 → Does (.registerWrite (0x230 + 4 * i) val 4) s fun t => t = s) ∧
    (s.role = 1 → Does (.registerWrite (0x230 + 4 * i) val 4) s fun t => t = s.put Reg.GEN_KEY_STAGE_KEY (val % 2 ^ 32) i) := by
  have hfab : ¬(0x180000 ≤ 0x230 + 4 * i ∧ 0x230 + 4 * i < 0x190000) := by omega
  have hspecial := State.special_keyStage (s := s) hi (val % 2 ^ 32)
  rw [State.idleClose_of_live hlive] at hspecial
  refine ⟨fun hrole => .of_next (exec_registerWrite_keyStage hi hr) ?_, fun hrole => .of_next (exec_registerWrite_keyStage hi hr) ?_⟩
  · rw [if_neg hrole] at hspecial
    simp only [State.write32, if_neg hfab, hspecial]
  · rw [if_pos hrole] at hspecial
    have hguard : ((s.refs (0x230 + 4 * i)).any fun r => r.f.acc == .rwg || r.f.acc == .fuse) = false := by
      rw [State.refs_keyStage hi]
      rfl
    rw [State.write32_of_plain hfab hspecial hguard, State.after_keyStage hi, State.refs_keyStage hi, List.foldl_cons, List.foldl_nil]
    have hnew : trunc 32 (s.written (keyRef i) (val % 2 ^ 32)) = trunc 32 (val % 2 ^ 32) := by
      have hpart : (keyRef i).part = (0, 0, 32) := rfl
      simp only [State.written, hpart, setBits, bits, trunc]
      omega
    show s.put Reg.GEN_KEY_STAGE_KEY (s.written (keyRef i) (val % 2 ^ 32)) i 0 = _
    rw [← State.put_trunc]
    exact (congrArg (fun v => s.put Reg.GEN_KEY_STAGE_KEY v i 0) hnew).trans (State.put_trunc ..)

end

end

/-- Settles O52: requests, responses, the end of a session and of a lockout, keys, fuses, the module ID and the staged key. -/
theorem roleSessions : Obligations.RoleSessions := by
  unfold Obligations.RoleSessions
  refine ⟨fun role s hr hidle => ?_, fun role s hr hopen hover hk hq => sessionRequest_of_over hr hopen hover hk hq, fun hi s hr => ?_,
    fun hi s hr => ?_, fun s hr => ?_, fun s => ⟨sessionIdleTimeout_of_closed, sessionIdleTimeout_of_open⟩,
    fun s => ⟨lockoutExpire_of_none, lockoutExpire_of_locked⟩, fun role chk s hr hlive hlow hhigh => keyProgram_of_live hr hlive hlow hhigh,
    fun role key s hlow hhigh hlen hkeys hleft hid => ?_, fun id s hr hlive => moduleIdProgram_of_live hr hlive,
    fun i val s hi hr hlive => keyStage_of_live hi hr hlive⟩
  · obtain ⟨hnoKey, hopen, hlocked, hfree⟩ := sessionRequest_of_idle (role := role) hr hidle
    refine ⟨hnoKey, hopen, hlocked, fun hk hst => ?_⟩
    obtain ⟨t, e, rfl⟩ := hfree hk hst
    exact .of_next e ⟨State.challenged_state, State.challenged_err, rfl, rfl, State.challenged_chal, rfl, State.challenged_only⟩
  · intro resp r
    have e := exec_sessionResponse (hi := hi) hr
    refine ⟨fun h => .of_next e (if_pos h), fun h => .of_next e ?_, sessionResponse_of_late hr, fun h htime hright => ?_⟩
    · have h3 : s.get Reg.GEN_SESS_STATUS_STATE ≠ 3 := by omega
      have h1 : s.get Reg.GEN_SESS_STATUS_STATE ≠ 1 := by omega
      rw [if_neg h3, if_pos h1]
    · exact sessionResponse_of_right hr h htime (State.answers_iff.2 hright)
  · intro resp r n h htime hwrong hq
    have hno : s.answers (s.respWord hi) = false := eq_false_of_ne_true (mt State.answers_iff.1 hwrong)
    refine .of_next (exec_sessionResponse hr) ?_
    simp only [h, OfNat.one_ne_ofNat, if_false, ne_eq, not_true_eq_false, Nat.not_lt.2 htime, hno, Bool.false_eq_true]
    exact State.wrongResponse_shows hq
  · refine ⟨sessionClose_of_closed hr, fun h hlive => ?_⟩
    obtain ⟨t, e, rfl⟩ := sessionClose_of_live hr hlive
    obtain ⟨hstate, hrole, hkey, hkey3, hint, -⟩ := State.closeSession_of_open h 0
    exact .of_next e ⟨hstate, hrole, hkey, hkey3, hint, fun hq => State.aud_closeSession h hq 0, s.closeSession_eq 0, s.closeSession_only 0⟩
  · intro n
    obtain ⟨hkey, hused, hkeyBad, husedBad⟩ := fuses_of_left (key := key) hlow hhigh hlen hkeys hleft
    refine ⟨hkey, hused, hkeyBad, husedBad, ?_, ?_, ?_, ?_⟩
    · rw [State.idFuse_good hid]
    · rw [State.idFuse_good hid]
    · rw [State.idFuse_bad hid]
    · rw [State.idFuse_bad hid]

end Sys2Proof.Machine
end

/-! ## Power, pin reset and boundary scan -/

section
namespace Sys2Proof.Machine

/-! ### What a reset leaves (R482, R556) -/

section
variable {s : State}

theorem State.resetAll_sys (k : Nat) : (s.resetAll k).sys =
    { rails := s.sys.rails, rstN := s.sys.rstN, refclkOk := s.sys.refclkOk, holds := s.sys.holds, jtag := s.sys.jtag,
      cells := s.sys.cells, i2cStrap := s.sys.i2cStrap, pilotReq := s.sys.pilotReq, restartReq := s.sys.restartReq } := by
  simp only [State.resetAll, State.put]
  rw [s.closeSession_eq 2]

theorem State.resetAll_drawn (k : Nat) : (s.resetAll k).drawn = s.drawn := by
  simp only [State.resetAll, State.put]
  rw [s.closeSession_eq 2]

/-- What happens outside the registers, buffer memory, DT, the queue and the store after a reset leaves it a reset. -/
theorem WasReset.later {saved : Bool} {s t u : State} (h : WasReset saved s t) (hregs : u.regs = t.regs) (hmem : u.mem = t.mem)
    (hdt : u.dtRef = t.dtRef) (hpending : u.pending = t.pending) (hstore : u.store = t.store) : WasReset saved s u := by
  obtain ⟨hfields, hm, hd, hp, hs⟩ := h
  exact ⟨fun f i j hf => (State.get_congr hregs f i j).trans (hfields f i j hf), hmem.trans hm, hdt.trans hd, hpending.trans hp,
    hstore.trans hs⟩

end

/-! ### VAUX and the other rails (R28 to R31, R482, R483) -/

section
variable {s : State} {r q : Rail}

theorem mem_rails_filter {l : List Rail} : q ∈ l.filter (· != r) ↔ q ∈ l ∧ q ≠ r := by simp

theorem vauxRise_resets : Does .vauxRise s fun t => AtReset t ∧ t.shadow = [] ∧ t.mem = [] ∧ t.sys.phase = .reset ∧ t.dtRef = 0 ∧
    (∀ r, r ∈ t.sys.rails ↔ r ∈ s.sys.rails ∧ r ≠ .vaux) ∧
    t.pending = s.pending ∧ t.store = { s.store with wear := { s.store.wear with powerOns := s.store.wear.powerOns + 1 } } :=
  .of_next rfl ⟨fun f i j => State.get_of_regs_nil rfl f i j, rfl, rfl, rfl, rfl, fun _ => mem_rails_filter, rfl, rfl⟩

theorem vauxFall_loses : Does .vauxFall s fun t => AtReset t ∧ t.shadow = [] ∧ t.mem = [] ∧ t.sys.phase = .dead ∧ t.dtRef = 0 ∧
    (∀ r, r ∈ t.sys.rails ↔ r ∈ s.sys.rails ∧ r ≠ .vaux) ∧ t.pending = s.pending ∧ t.store = s.store :=
  .of_next rfl ⟨fun f i j => State.get_of_regs_nil rfl f i j, rfl, rfl, rfl, rfl, fun _ => mem_rails_filter, rfl, rfl⟩

/-- The rails of the groups before this one's that are not in range. -/
def State.lateRails (s : State) (r : Rail) : List Rail :=
  allRails.filter fun q => decide (railGroup q < railGroup r) && !s.sys.rails.contains q

theorem mem_lateRails : q ∈ s.lateRails r ↔ railGroup q < railGroup r ∧ q ∉ s.sys.rails := by
  have hall : q ∈ allRails := by cases q <;> decide
  simp [State.lateRails, hall]

/-- A rail is in range. -/
def State.withRail (s : State) (r : Rail) : State :=
  { s with sys := { s.sys with rails := if s.sys.rails.contains r then s.sys.rails else r :: s.sys.rails } }

theorem mem_withRail : q ∈ (s.withRail r).sys.rails ↔ q = r ∨ q ∈ s.sys.rails := by
  show q ∈ (if s.sys.rails.contains r then s.sys.rails else r :: s.sys.rails) ↔ _
  split
  next h =>
    constructor
    · exact .inr
    · rintro (rfl | hq)
      · exact List.contains_iff_mem.1 h
      · exact hq
  · exact List.mem_cons

/-- The rail rises before one of an earlier group, and its record has not been taken yet. -/
def State.recordsRise (s : State) (r : Rail) : Bool :=
  (decide (s.lateRails r ≠ []) && s.sys.phase != .dead) && !(s.lateRails r).contains .vaux &&
    (!s.flag Reg.BOOT_RAIL_VALID || s.flag Reg.BOOT_RAIL_RUN)

theorem exec_railRise : exec (.railRise r) s = .next (let t := (s.withRail r).cond (s.recordsRise r) (·.recordRail (railCode r) 0)
    t.setHolds { t.sys.holds with rail := (t.sys.holds.rail || (decide (s.lateRails r ≠ []) && s.sys.phase != .dead)) && !t.railsOk }) :=
  rfl

/-- BOOT_RAIL as a record leaves it. -/
theorem State.recordRail_fields (s : State) (code run : Nat) : (s.recordRail code run).get Reg.BOOT_RAIL_RAIL = trunc 4 code ∧
    (s.recordRail code run).get Reg.BOOT_RAIL_RUN = trunc 1 run ∧ (s.recordRail code run).get Reg.BOOT_RAIL_VALID = 1 := by
  simp (disch := decide) only [State.recordRail, State.get_put_of_id, State.get_put_self]
  exact ⟨rfl, rfl, rfl⟩

theorem State.recordRail_only (s : State) (code run : Nat) :
    RegsOnly [Reg.BOOT_RAIL_RAIL, Reg.BOOT_RAIL_RUN, Reg.BOOT_RAIL_VALID] s (s.recordRail code run) :=
  ((RegsOnly.put _ _ _ _ _ (by simp)).trans (.put _ _ _ _ _ (by simp))).trans (.put _ _ _ _ _ (by simp))

theorem railCode_lt : railCode r < 16 := by
  cases r
  case vaux => exact Nat.mod_lt _ (by decide)
  all_goals decide

/-- A rail that rises (R28, R30). -/
theorem railRise_shows : Does (.railRise r) s fun t => r ∈ t.sys.rails ∧ (∀ q, q ∈ t.sys.rails ↔ q = r ∨ q ∈ s.sys.rails) ∧
    Only [Reg.BOOT_RAIL_RAIL, Reg.BOOT_RAIL_RUN, Reg.BOOT_RAIL_VALID] s t { s with regs := t.regs, sys := t.sys } ∧
    (s.sys.phase ≠ .dead → (∃ q, railGroup q < railGroup r ∧ q ∉ s.sys.rails) → t.railsOk = false → t.sys.holds.rail = true) ∧
    (s.sys.phase ≠ .dead → (s.get Reg.BOOT_RAIL_VALID = 0 ∨ s.get Reg.BOOT_RAIL_RUN = 1) → Rail.vaux ∈ s.sys.rails →
      (∃ q, railGroup q < railGroup r ∧ q ∉ s.sys.rails) →
      t.get Reg.BOOT_RAIL_RAIL = railCode r ∧ t.get Reg.BOOT_RAIL_RUN = 0 ∧ t.get Reg.BOOT_RAIL_VALID = 1) ∧
    ((s.get Reg.BOOT_RAIL_VALID = 1 ∧ s.get Reg.BOOT_RAIL_RUN = 0) ∨ (∀ q, railGroup q < railGroup r → q ∈ s.sys.rails) → t.regs = s.regs) := by
  have hlate (h : ∃ q, railGroup q < railGroup r ∧ q ∉ s.sys.rails) : s.lateRails r ≠ [] := by
    obtain ⟨q, hq⟩ := h
    exact List.ne_nil_of_mem (mem_lateRails.2 hq)
  generalize hu : (s.withRail r).cond (s.recordsRise r) (·.recordRail (railCode r) 0) = u
  have hsys : u.sys = (s.withRail r).sys := by subst hu; cases s.recordsRise r <;> rfl
  have hkept : u = { s with regs := u.regs, sys := u.sys } := by subst hu; cases s.recordsRise r <;> rfl
  refine .of_next exec_railRise ?_
  simp only [hu]
  refine ⟨?_, fun q => ?_, ⟨?_, ?_⟩, fun hphase hex hok => ?_, fun hphase hfirst hvaux hex => ?_, fun h => ?_⟩
  · show r ∈ u.sys.rails
    rw [hsys, mem_withRail]
    exact .inl rfl
  · show q ∈ u.sys.rails ↔ _
    rw [hsys, mem_withRail]
  · rw [hkept]
    rfl
  · subst hu
    cases s.recordsRise r
    · exact .of_regs rfl
    · exact ((s.withRail r).recordRail_only _ _).2
  · have hnot : u.railsOk = false := hok
    simp [State.setHolds, hlate hex, hphase, hnot]
  · have hrec : s.recordsRise r = true := by
      have hv : Rail.vaux ∉ s.lateRails r := fun h => (mem_lateRails.1 h).2 hvaux
      rcases hfirst with h | h <;> simp [State.recordsRise, hlate hex, hphase, hv, State.flag, h]
    rw [hrec] at hu
    subst hu
    obtain ⟨hcode, hrun, hvalid⟩ := (s.withRail r).recordRail_fields (railCode r) 0
    exact ⟨hcode.trans (trunc_of_lt railCode_lt), hrun, hvalid⟩
  · have hrec : s.recordsRise r = false := by
      rcases h with ⟨hvalid, hrun⟩ | hall
      · simp [State.recordsRise, State.flag, hvalid, hrun]
      · have hnil : s.lateRails r = [] := List.eq_nil_iff_forall_not_mem.2 fun q hq => (mem_lateRails.1 hq).2 (hall q (mem_lateRails.1 hq).1)
        simp [State.recordsRise, hnil]
    rw [hrec] at hu
    subst hu
    rfl

/-- A rail is out of range. -/
def State.withoutRail (s : State) (r : Rail) : State := { s with sys := { s.sys with rails := s.sys.rails.filter (· != r) } }

theorem not_mem_withoutRail : r ∉ (s.withoutRail r).sys.rails := fun h => (mem_rails_filter.1 h).2 rfl

theorem State.railsOk_withoutRail : (s.withoutRail r).railsOk = false := by
  have hall : r ∈ allRails := by cases r <;> decide
  refine eq_false_of_ne_true fun h => ?_
  exact not_mem_withoutRail (List.contains_iff_mem.1 (List.all_eq_true.1 h r hall))

/-- BOOT_RAIL survives a reset (R556). -/
theorem State.resetAll_rail (s : State) (k : Nat) : (s.resetAll k).get Reg.BOOT_RAIL_RAIL = s.get Reg.BOOT_RAIL_RAIL ∧
    (s.resetAll k).get Reg.BOOT_RAIL_RUN = s.get Reg.BOOT_RAIL_RUN ∧ (s.resetAll k).get Reg.BOOT_RAIL_VALID = s.get Reg.BOOT_RAIL_VALID :=
  ⟨s.resetAll_keep k _ _ _ (by decide) (by decide), s.resetAll_keep k _ _ _ (by decide) (by decide),
    s.resetAll_keep k _ _ _ (by decide) (by decide)⟩

/-- What a fatal fault keeps in BOOT_LAST and BOOT_RAIL (R503, R556). -/
theorem State.fatal_boot (s : State) (code : Nat) : (s.fatal code).get Reg.BOOT_LAST_KIND = 5 ∧
    (s.fatal code).get Reg.BOOT_LAST_QDISC = s.flt.queue.length % 256 ∧
    (s.fatal code).get Reg.BOOT_RAIL_RAIL = s.get Reg.BOOT_RAIL_RAIL ∧ (s.fatal code).get Reg.BOOT_RAIL_RUN = s.get Reg.BOOT_RAIL_RUN ∧
    (s.fatal code).get Reg.BOOT_RAIL_VALID = s.get Reg.BOOT_RAIL_VALID := by
  obtain ⟨holds, e⟩ := s.fatal_eq code
  obtain ⟨-, honly⟩ := s.fatalRecorded_regsOnly code
  have hqdisc : (s.fatalRecorded code).get Reg.BOOT_LAST_QDISC = s.flt.queue.length % 256 := by
    unfold State.fatalRecorded
    cases s.sys.since10.isSome
    · exact State.get_put_self ..
    · simp (disch := decide) only [State.cond_true, State.get_put_of_id, State.get_put_self]
      rfl
  have hkeep (f : Fld) (hf : f.id ∈ bootKeep) (hk : f.id ≠ Reg.BOOT_LAST_KIND.id) : (s.fatal code).get f = (s.fatalRecorded code).get f := by
    rw [e]
    exact (s.fatalRecorded code).resetAll_keep 5 f 0 0 hf hk
  have hsame (f : Fld) (hf : f.id ∉ fatalFields.map (·.id)) (hc : f.id ≠ Reg.BOOT_LAST_FCODE.id) : (s.fatalRecorded code).get f = s.get f :=
    (honly f 0 0 hf).trans (State.get_put_of_id _ _ _ _ _ _ _ _ hc)
  refine ⟨?_, (hkeep _ (by decide) (by decide)).trans hqdisc, ?_, ?_, ?_⟩
  · rw [e]
    exact (s.fatalRecorded code).resetAll_kind 5
  · exact (hkeep _ (by decide) (by decide)).trans (hsame _ (by decide) (by decide))
  · exact (hkeep _ (by decide) (by decide)).trans (hsame _ (by decide) (by decide))
  · exact (hkeep _ (by decide) (by decide)).trans (hsame _ (by decide) (by decide))

/-- After fault 0x01 the module is held until the rails are back, and no rail has changed (R503). -/
theorem State.fatal_sys (s : State) : (s.fatal 1).sys.rails = s.sys.rails ∧
    (s.railsOk = false → (s.fatal 1).sys.holds.rail = true) := by
  have hsys : (s.fatalRecorded 1).sys = s.sys := by unfold State.fatalRecorded; cases s.sys.since10.isSome <;> rfl
  have hreset : ((s.fatalRecorded 1).resetAll 5).sys.rails = s.sys.rails := by rw [State.resetAll_sys, hsys]
  refine ⟨hreset, fun h => ?_⟩
  have hok : ((s.fatalRecorded 1).resetAll 5).railsOk = false := by rw [← h, State.railsOk, State.railsOk, hreset]
  show (_ || (1 == 1 && !((s.fatalRecorded 1).resetAll 5).railsOk)) = true
  simp [hok]

theorem exec_railOutOfRange : exec (.railOutOfRange r) s = match s.sys.phase with
    | .running | .pilot => .next (((s.withoutRail r).recordRail (railCode r) 1).fault 1 (railCode r))
    | .starting => .next (((s.withoutRail r).recordRail (railCode r) 1).startFails 0xA)
    | _ => .next (s.withoutRail r) := rfl

/-- A rail that leaves its range while the module runs (R31, R499). -/
theorem railOutOfRange_of_running (h : s.sys.phase = .running) : Does (.railOutOfRange r) s fun t => t.get Reg.BOOT_RAIL_RAIL = railCode r ∧
    t.get Reg.BOOT_RAIL_RUN = 1 ∧ t.get Reg.BOOT_RAIL_VALID = 1 ∧ t.get Reg.BOOT_LAST_FCODE = 1 ∧ t.get Reg.BOOT_LAST_KIND = 5 ∧
    t.get Reg.BOOT_LAST_QDISC = s.flt.queue.length % 256 ∧ t.sys.phase = .reset ∧ t.sys.holds.rail = true ∧ r ∉ t.sys.rails ∧
    WasReset true s t := by
  let u := ((s.withoutRail r).recordRail (railCode r) 1).lowers 1
  have hexec : exec (.railOutOfRange r) s = .next (u.fatal 1) := by
    rw [exec_railOutOfRange, h]
    rfl
  obtain ⟨hcode, hrun, hvalid⟩ := (s.withoutRail r).recordRail_fields (railCode r) 1
  obtain ⟨hkind, hqdisc, hrail, hrailRun, hrailValid⟩ := u.fatal_boot 1
  obtain ⟨hfcode, hphase, hreset⟩ := u.fatal_shown 1
  obtain ⟨hrails, hhold⟩ := u.fatal_sys
  refine .of_next hexec ⟨?_, hrailRun.trans hrun, hrailValid.trans hvalid, hfcode, hkind, hqdisc, hphase, hhold State.railsOk_withoutRail, ?_,
    hreset.of_same rfl rfl rfl⟩
  · exact hrail.trans (hcode.trans (trunc_of_lt railCode_lt))
  · rw [hrails]
    exact not_mem_withoutRail

/-- What a failed start records before the reset (R491). -/
def State.startRecorded (s : State) (code : Nat) : State :=
  let s := ((s.put Reg.BOOT_FAIL_STAGE (s.get Reg.BOOT_STATUS_STAGE)).put Reg.BOOT_FAIL_CODE code).put Reg.BOOT_TIME_MS (min 65535 (s.dtRef / 250000))
  s.put Reg.BOOT_STATUS_FAILCNT (min 3 (s.get Reg.BOOT_STATUS_FAILCNT + 1))

theorem State.startFails_eq (s : State) (code : Nat) : ∃ k, s.startFails code = ((s.startRecorded code).resetAll k).setPhase .failHold :=
  ⟨(s.startRecorded code).get Reg.BOOT_LAST_KIND, rfl⟩

/-- A rail that leaves its range during a start (R488). -/
theorem railOutOfRange_of_starting (h : s.sys.phase = .starting) : Does (.railOutOfRange r) s fun t => t.get Reg.BOOT_RAIL_RAIL = railCode r ∧
    t.get Reg.BOOT_RAIL_RUN = 1 ∧ t.get Reg.BOOT_RAIL_VALID = 1 ∧ t.get Reg.BOOT_FAIL_CODE = 0xA ∧
    t.get Reg.BOOT_FAIL_STAGE = s.get Reg.BOOT_STATUS_STAGE % 16 ∧ t.sys.phase = .failHold ∧ r ∉ t.sys.rails := by
  let u := (s.withoutRail r).recordRail (railCode r) 1
  have hexec : exec (.railOutOfRange r) s = .next (u.startFails 0xA) := by rw [exec_railOutOfRange, h]
  obtain ⟨k, e⟩ := u.startFails_eq 0xA
  have hkeep (f : Fld) (hf : f.id ∈ bootKeep) (hk : f.id ≠ Reg.BOOT_LAST_KIND.id) : (u.startFails 0xA).get f = (u.startRecorded 0xA).get f := by
    rw [e]
    exact (u.startRecorded 0xA).resetAll_keep k f 0 0 hf hk
  have hrails : (u.startFails 0xA).sys.rails = (s.withoutRail r).sys.rails := by
    rw [e]
    show ((u.startRecorded 0xA).resetAll k).sys.rails = _
    rw [State.resetAll_sys]
    rfl
  refine .of_next hexec ⟨?_, ?_, ?_, ?_, ?_, ?_, ?_⟩
  · rw [hkeep _ (by decide) (by decide)]
    simp (disch := decide) only [u, State.startRecorded, State.recordRail, State.get_put_of_id, State.get_put_self]
    exact trunc_of_lt railCode_lt
  · rw [hkeep _ (by decide) (by decide)]
    simp (disch := decide) only [u, State.startRecorded, State.recordRail, State.get_put_of_id, State.get_put_self]
    rfl
  · rw [hkeep _ (by decide) (by decide)]
    simp (disch := decide) only [u, State.startRecorded, State.recordRail, State.get_put_of_id, State.get_put_self]
    rfl
  · rw [hkeep _ (by decide) (by decide)]
    simp (disch := decide) only [u, State.startRecorded, State.recordRail, State.get_put_of_id, State.get_put_self]
    rfl
  · rw [hkeep _ (by decide) (by decide)]
    simp (disch := decide) only [u, State.startRecorded, State.recordRail, State.get_put_of_id, State.get_put_self]
    rfl
  · rw [e]
    rfl
  · rw [hrails]
    exact not_mem_withoutRail

theorem railOutOfRange_of_reset (h : s.sys.phase = .reset) : Does (.railOutOfRange r) s fun t =>
    t = { s with sys := { s.sys with rails := t.sys.rails } } ∧ ∀ q, q ∈ t.sys.rails ↔ q ∈ s.sys.rails ∧ q ≠ r := by
  have hexec : exec (.railOutOfRange r) s = .next (s.withoutRail r) := by rw [exec_railOutOfRange, h]
  exact .of_next hexec ⟨rfl, fun _ => mem_rails_filter⟩

/-! ### RESET_N and the start (R484 to R486, R493) -/

theorem resetNAccept_of_long {lowNs : Nat} (hphase : s.sys.phase ≠ .dead) (hhigh : s.sys.rstN = true) (h : 5000 ≤ lowNs) :
    Does (.resetNAccept lowNs) s fun t => t.get Reg.BOOT_LAST_KIND = (if s.sys.holds.testMode then 2 else 1) ∧
      t.sys.phase = .reset ∧ t.sys.rstN = false ∧ WasReset false s t ∧ KeepsBoot s t := by
  refine .of_next (if_neg (by simp [hphase, hhigh, Nat.not_lt.2 h])) ?_
  have hreset : ∀ k, ¬4 ≤ k → WasReset false s (s.resetAll k) := fun k hk => by
    have := s.resetAll_wasReset k
    rwa [decide_eq_false hk] at this
  cases s.sys.holds.testMode
  · exact ⟨s.resetAll_kind 1, rfl, rfl, (hreset 1 (by decide)).later rfl rfl rfl rfl rfl, fun f i j hf hk => s.resetAll_keep 1 f i j hf hk⟩
  · exact ⟨s.resetAll_kind 2, rfl, rfl, (hreset 2 (by decide)).later rfl rfl rfl rfl rfl, fun f i j hf hk => s.resetAll_keep 2 f i j hf hk⟩

theorem resetNAccept_of_short {lowNs : Nat} (h : lowNs < 5000) : Does (.resetNAccept lowNs) s fun t => t = s :=
  .of_next (if_pos (by simp [h])) rfl

theorem resetNBounce_of_reset {heldMs : Nat} (hphase : s.sys.phase = .reset) (hhigh : s.sys.rstN = true) : Does (.resetNBounce heldMs) s fun t =>
    t.get Reg.BOOT_LAST_BOUNCE = min 255 (s.get Reg.BOOT_LAST_BOUNCE + 1) ∧
    (s.get Reg.BOOT_LAST_KIND ≤ 2 → t.get Reg.BOOT_HELD_MS = min heldMs 0xFFFFFFFF) ∧
    (2 < s.get Reg.BOOT_LAST_KIND → t.get Reg.BOOT_HELD_MS = s.get Reg.BOOT_HELD_MS) ∧ RegsOnly [Reg.BOOT_LAST_BOUNCE, Reg.BOOT_HELD_MS] s t := by
  have hcount : trunc 8 (min 255 (s.get Reg.BOOT_LAST_BOUNCE + 1)) = min 255 (s.get Reg.BOOT_LAST_BOUNCE + 1) := trunc_of_lt (by omega)
  have hheld : trunc 32 (min heldMs 0xFFFFFFFF) = min heldMs 0xFFFFFFFF := trunc_of_lt (by omega)
  refine .of_next (if_pos (by simp [hphase, hhigh])) ?_
  by_cases hpin : s.get Reg.BOOT_LAST_KIND ≤ 2
  · simp only [hpin, decide_true, State.cond_true]
    refine ⟨?_, fun _ => ?_, fun h => absurd hpin (Nat.not_le.2 h), ?_⟩
    · simp (disch := decide) only [State.get_put_of_id, State.get_put_self]
      exact hcount
    · exact (State.get_put_self ..).trans hheld
    · exact (RegsOnly.put _ _ _ _ _ (by simp)).trans (.put _ _ _ _ _ (by simp))
  · simp only [decide_eq_false hpin, State.cond_false]
    exact ⟨(State.get_put_self ..).trans hcount, fun h => absurd h hpin, fun _ => State.get_put_of_id _ _ _ _ _ _ _ _ (by decide),
      .put _ _ _ _ _ (by simp)⟩

theorem resetNRise_of_low {bootSel heldMs : Nat} {testMode : Bool} (hphase : s.sys.phase ≠ .dead) (hlow : s.sys.rstN = false) :
    Does (.resetNRise bootSel testMode heldMs) s fun t => t.get Reg.BOOT_STATUS_STRAP = bootSel % 4 ∧
      t.get Reg.BOOT_HELD_MS = min heldMs 0xFFFFFFFF ∧ (testMode = true → t.get Reg.BOOT_LAST_KIND = 2) ∧
      (testMode = false → t.get Reg.BOOT_LAST_KIND = s.get Reg.BOOT_LAST_KIND) ∧ t.sys.rstN = true ∧
      t.sys.holds = { s.sys.holds with testMode := testMode } ∧
      Only [Reg.BOOT_STATUS_STRAP, Reg.BOOT_HELD_MS, Reg.BOOT_LAST_KIND] s t { s with regs := t.regs, sys := t.sys } := by
  have hheld : trunc 32 (min heldMs 0xFFFFFFFF) = min heldMs 0xFFFFFFFF := trunc_of_lt (by omega)
  refine .of_next (if_neg (by simp [hphase, hlow])) ?_
  let u := (s.put Reg.BOOT_STATUS_STRAP bootSel).put Reg.BOOT_HELD_MS (min heldMs 0xFFFFFFFF)
  have hstrap : u.get Reg.BOOT_STATUS_STRAP = bootSel % 4 := by
    simp (disch := decide) only [u, State.get_put_of_id, State.get_put_self]
    rfl
  have honly : OnlyFields [Reg.BOOT_STATUS_STRAP, Reg.BOOT_HELD_MS, Reg.BOOT_LAST_KIND] s u :=
    .put _ _ _ _ (by simp) (.put _ _ _ _ (by simp) (.refl _ s))
  cases testMode
  · exact ⟨hstrap, (State.get_put_self ..).trans hheld, nofun, fun _ => by
      show u.get Reg.BOOT_LAST_KIND = _
      simp (disch := decide) only [u, State.get_put_of_id], rfl, rfl, rfl, honly.trans (.of_regs rfl)⟩
  · refine ⟨?_, ?_, fun _ => u.get_put_self Reg.BOOT_LAST_KIND 2 0 0, nofun, rfl, rfl, rfl, (honly.put Reg.BOOT_LAST_KIND 2 0 0 (by simp)).trans (.of_regs rfl)⟩
    · exact (u.get_put_of_id Reg.BOOT_LAST_KIND _ 2 0 0 0 0 (by decide)).trans hstrap
    · exact (u.get_put_of_id Reg.BOOT_LAST_KIND _ 2 0 0 0 0 (by decide)).trans ((State.get_put_self ..).trans hheld)

/-- What reading the service record leaves: DT, memory, the queue and the count of starts. -/
structure Loaded (s t : State) : Prop where
  dtRef : t.dtRef = s.dtRef
  mem : t.mem = s.mem
  pending : t.pending = s.pending
  starts : t.store.starts = s.store.starts

section
variable {u : State}

theorem Loaded.refl : Loaded s s := ⟨rfl, rfl, rfl, rfl⟩

theorem Loaded.put (h : Loaded s u) {f : Fld} {v i j : Nat} : Loaded s (u.put f v i j) := ⟨h.1, h.2, h.3, h.4⟩

theorem Loaded.audit (h : Loaded s u) {a b c d e f : Nat} : Loaded s (u.audit a b c d e f) := by
  rw [State.audit_eq]
  exact ⟨h.1, h.2, h.3, h.4⟩

/-- A change outside DT, memory, the queue and the count of starts. -/
theorem Loaded.upd (h : Loaded s u) {regs shadow drawn rdata sys flt cores aud sess svc til xp tim evt topo trg frm fab tdc aux ctl saf
    lnk hst cmp ram store} (hstarts : store.starts = u.store.starts := by rfl) : Loaded s ⟨u.pending, regs, shadow, u.mem, u.dtRef, drawn,
      rdata, sys, flt, cores, aud, sess, svc, til, xp, tim, evt, topo, trg, frm, fab, tdc, aux, ctl, saf, lnk, hst, cmp, ram, store⟩ :=
  ⟨h.dtRef, h.mem, h.pending, hstarts.trans h.starts⟩

theorem Loaded.ite {c : Prop} [Decidable c] {v : State} (hu : Loaded s u) (hv : Loaded s v) : Loaded s (if c then u else v) := by
  split <;> assumption

theorem Loaded.each {α : Type} {l : List α} {f : State → α → State} (h : Loaded s u) (hf : ∀ {u a}, Loaded s u → Loaded s (f u a)) :
    Loaded s (u.each l f) := by
  induction l generalizing u with
  | nil => exact h
  | cons a l ih => exact ih (hf h)

theorem Loaded.wearCheck (h : Loaded s u) : Loaded s u.wearCheck := h.each fun h => .ite h.put.upd.put.audit h.put

theorem Loaded.loadRecord (h : Loaded s u) : Loaded s u.loadRecord :=
  ((Loaded.ite (h.each fun h => h.put).upd.put.put (h.each fun h => h.put).upd.put.put.upd.put.put).each fun h => h.audit).upd.wearCheck

theorem Loaded.enterPilot {cause : Nat} (h : Loaded s u) : Loaded s (u.enterPilot cause) := h.loadRecord.upd.put.put.put.audit

end

/-- Pilot-light mode as its registers show it, before its entry in the audit log (R493). -/
def State.inPilot (s : State) (cause : Nat) : State :=
  let t := s.loadRecord
  (((({ t with sys := { t.sys with phase := .pilot, pilotReq := false, restartReq := false } } : State).put Reg.BOOT_STATUS_PILOT 1).put
    Reg.HST_STATUS_PILOT 1).put Reg.BOOT_PILOT_CAUSE cause)

theorem State.enterPilot_eq (u : State) (cause : Nat) : u.enterPilot cause = (u.inPilot cause).audit 0x21 0 0 0 0 cause := rfl

/-- Pilot-light mode shows itself and its cause (R493). -/
theorem State.enterPilot_shows {u : State} {cause : Nat} (hcause : cause < 16) :
    (u.enterPilot cause).sys.phase = .pilot ∧ (u.enterPilot cause).get Reg.BOOT_STATUS_PILOT = 1 ∧
    (u.enterPilot cause).get Reg.HST_STATUS_PILOT = 1 ∧ (u.enterPilot cause).get Reg.BOOT_PILOT_CAUSE = cause := by
  rw [State.enterPilot_eq]
  simp (disch := decide) only [State.get_audit]
  have hphase : (u.inPilot cause).sys.phase = .pilot := rfl
  refine ⟨by rw [State.audit_eq]; exact hphase, ?_, ?_, (State.get_put_self ..).trans (trunc_of_lt hcause)⟩
  · simp (disch := decide) only [State.inPilot, State.get_put_of_id, State.get_put_self]
    rfl
  · simp (disch := decide) only [State.inPilot, State.get_put_of_id, State.get_put_self]
    rfl

/-- A start under way, before its first stage. -/
def State.started (s : State) : State :=
  (({ s with dtRef := 0, store := { s.store with starts := s.store.starts + 1 } } : State).setPhase .starting).put Reg.BOOT_STATUS_STAGE 0

theorem State.pilotCause_started : s.started.pilotCause = s.pilotCause := by
  have hread (f : Fld) (h : f.id ≠ Reg.BOOT_STATUS_STAGE.id) : s.started.get f = s.get f :=
    (State.get_put_of_id _ _ _ _ _ _ _ _ h).trans (State.get_congr rfl f 0 0)
  simp only [State.pilotCause, hread Reg.BOOT_STATUS_STRAP (by decide), hread Reg.BOOT_STATUS_FAILCNT (by decide)]
  rfl

theorem State.pilotCause_lt : s.pilotCause < 16 := by
  unfold State.pilotCause
  split_ifs <;> decide

theorem exec_startBegin (hphase : s.sys.phase = .reset) (hhigh : s.sys.rstN = true) (hholds : s.sys.holds = {}) :
    exec .startBegin s = .next (if s.started.pilotCause = 0 then { s.started with sys := { s.started.sys with restartReq := false } }
      else s.started.enterPilot s.started.pilotCause) :=
  if_pos (by simp [hphase, hhigh, hholds])

theorem startBegin_of_released (hphase : s.sys.phase = .reset) (hhigh : s.sys.rstN = true) (hholds : s.sys.holds = {}) :
    (s.pilotCause = 0 → Does .startBegin s fun t =>
      t.sys.phase = .starting ∧ t.dtRef = 0 ∧ t.get Reg.BOOT_STATUS_STAGE = 0 ∧ t.store = { s.store with starts := s.store.starts + 1 } ∧
      Only [Reg.BOOT_STATUS_STAGE] s t { s with regs := t.regs, dtRef := 0, sys := t.sys, store := t.store }) ∧
    (s.pilotCause ≠ 0 → Does .startBegin s fun t =>
      t.sys.phase = .pilot ∧ t.dtRef = 0 ∧ t.get Reg.BOOT_STATUS_PILOT = 1 ∧ t.get Reg.HST_STATUS_PILOT = 1 ∧
      t.get Reg.BOOT_PILOT_CAUSE = s.pilotCause ∧ t.store.starts = s.store.starts + 1 ∧ t.pending = s.pending ∧ t.mem = s.mem) := by
  have e := exec_startBegin hphase hhigh hholds
  rw [State.pilotCause_started] at e
  refine ⟨fun h => .of_next e ?_, fun h => .of_next e ?_⟩
  · rw [if_pos h]
    have honly : OnlyFields [Reg.BOOT_STATUS_STAGE] s s.started := .put _ _ _ _ (by simp) (.of_regs rfl)
    have hstage : s.started.get Reg.BOOT_STATUS_STAGE = 0 := State.get_put_self ..
    exact ⟨rfl, rfl, hstage, rfl, rfl, honly.trans (.of_regs rfl)⟩
  · rw [if_neg h]
    have hload : Loaded s.started (s.started.enterPilot s.pilotCause) := Loaded.refl.enterPilot
    obtain ⟨hpilot, hboot, hhst, hcause⟩ := State.enterPilot_shows (u := s.started) (cause := s.pilotCause) State.pilotCause_lt
    exact ⟨hpilot, hload.dtRef, hboot, hhst, hcause, hload.starts, hload.pending, hload.mem⟩

end

/-! ### Boundary scan (R35, R36) -/

section
variable {s : State} {tdi : List Bool} {j : JtagInstr}

/-- A data scan shows what the register captured, ahead of what goes in. -/
theorem State.dataScan_of_bits (hrails : s.railsOk = true) (hphase : s.sys.phase ≠ .dead) (h : tdi ≠ []) :
    (s.dataScan tdi).rdata = ((s.scanCapture ++ tdi).take tdi.length).map boolNat ∧
      (s.sys.jtag = .extest ∨ s.sys.jtag = .samplePreload → (s.dataScan tdi).sys.cells = (s.scanCapture ++ tdi).drop tdi.length) := by
  have hscan : ¬((decide (tdi = []) || !s.railsOk || decide (s.sys.phase = .dead)) = true) := by simp [h, hrails, hphase]
  simp only [State.dataScan, if_neg hscan]
  split
  · exact ⟨rfl, fun _ => rfl⟩
  next hother => exact ⟨rfl, fun h => absurd h hother⟩

theorem State.dataScan_nil : s.dataScan [] = s := if_pos rfl

/-- A data scan changes the boundary cells, the bits that come out, and the count of draws. -/
theorem State.dataScan_eq : s.dataScan tdi =
    { s with sys := { s.sys with cells := (s.dataScan tdi).sys.cells }, rdata := (s.dataScan tdi).rdata, drawn := (s.dataScan tdi).drawn } := by
  simp only [State.dataScan]
  split
  · rfl
  · split <;> rfl

/-- An instruction that stops the module becomes current under a reset. -/
def State.loaded (s : State) (j : JtagInstr) : State := { s with sys := { s.sys with jtag := j } }

/-- It resets the module and holds it. -/
def State.heldInScan (s : State) (j : JtagInstr) : State :=
  { s.resetAll 3 with sys := { (s.resetAll 3).sys with jtag := j, holds := { (s.resetAll 3).sys.holds with scan := true } } }

theorem State.scanLoad_of_free (hrails : s.railsOk = true) (hphase : s.sys.phase ≠ .dead) (hhigh : s.sys.rstN = true)
    (hscan : s.sys.holds.scan = false) : s.scanLoad j = s.heldInScan j := by
  have hoff : ¬((!s.railsOk || decide (s.sys.phase = .dead)) = true) := by simp [hrails, hphase]
  simp only [State.scanLoad, if_neg hoff, hhigh, hscan]
  rfl

theorem State.scanLoad_of_held (hrails : s.railsOk = true) (hphase : s.sys.phase ≠ .dead) (h : s.sys.rstN = false ∨ s.sys.holds.scan = true) :
    s.scanLoad j = s.loaded j := by
  have hoff : ¬((!s.railsOk || decide (s.sys.phase = .dead)) = true) := by simp [hrails, hphase]
  have hheld : ¬((s.sys.rstN && !s.sys.holds.scan) = true) := by rcases h with h | h <;> simp [h]
  simp only [State.scanLoad, if_neg hoff, if_neg hheld]
  rfl

/-- What the register of an instruction captures, where `n` draws have been made. -/
def scanBits (j : JtagInstr) (n : Nat) : List Bool :=
  match j with
  | .idcode => (List.range 32).map (bit idcode)
  | .extest | .samplePreload => (List.range cellCount).map (Config.cellLevel n)
  | .highz | .clamp | .bypass => [false]

theorem State.scanCapture_eq : s.scanCapture = scanBits s.sys.jtag s.drawn := rfl

/-- With nothing to shift a scan leaves the cells, the bits that came out and the draws. -/
theorem State.dataScan_of_nil (h : tdi = []) : (s.dataScan tdi).rdata = s.rdata ∧ (s.dataScan tdi).sys.cells = s.sys.cells ∧
    (s.dataScan tdi).drawn = s.drawn := by
  rw [h, State.dataScan_nil]
  exact ⟨rfl, rfl, rfl⟩

/-- An instruction that stops the module, loaded with RESET_N high (R36). -/
theorem State.scanLoad_shows_free (hrails : s.railsOk = true) (hphase : s.sys.phase ≠ .dead) (hhigh : s.sys.rstN = true)
    (hscan : s.sys.holds.scan = false) : let t := (s.scanLoad j).dataScan tdi
    t.sys.jtag = j ∧ t.sys.holds = { s.sys.holds with scan := true } ∧ t.sys.phase = .reset ∧ t.get Reg.BOOT_LAST_KIND = 3 ∧
      WasReset false s t ∧ KeepsBoot s t ∧
      (tdi ≠ [] → t.rdata = ((scanBits j s.drawn ++ tdi).take tdi.length).map boolNat ∧
        (j = .extest → t.sys.cells = (scanBits j s.drawn ++ tdi).drop tdi.length)) := by
  rw [State.scanLoad_of_free hrails hphase hhigh hscan]
  generalize hu : s.heldInScan j = u
  have hsys := s.resetAll_sys 3
  have hupdate : u.sys = { (s.resetAll 3).sys with jtag := j, holds := { (s.resetAll 3).sys.holds with scan := true } } := hu ▸ rfl
  rw [hsys] at hupdate
  have hreset : WasReset false s u := hu ▸ (s.resetAll_wasReset 3).later rfl rfl rfl rfl rfl
  have hboot : KeepsBoot s u := fun f i j hf hk => hu ▸ s.resetAll_keep 3 f i j hf hk
  have hkind : u.get Reg.BOOT_LAST_KIND = 3 := hu ▸ s.resetAll_kind 3
  have hdrawn : u.drawn = s.drawn := hu ▸ s.resetAll_drawn 3
  have hok : u.railsOk = true := by rw [← hrails, State.railsOk, State.railsOk, hupdate]
  have hcapture : u.scanCapture = scanBits j s.drawn := by rw [State.scanCapture_eq, hdrawn, hupdate]
  have hinReset : u.sys.phase = .reset := by rw [hupdate]
  have halive : u.sys.phase ≠ .dead := by rw [hinReset]; decide
  have hread (f : Fld) (i j : Nat) : (u.dataScan tdi).get f i j = u.get f i j := by rw [State.dataScan_eq]; rfl
  dsimp only
  refine ⟨?_, ?_, ?_, (hread ..).trans hkind, hreset.later ?_ ?_ ?_ ?_ ?_, fun f i j hf hk => (hread ..).trans (hboot f i j hf hk),
    fun h => ?_⟩
  case refine_9 =>
    obtain ⟨hout, hcells⟩ := State.dataScan_of_bits (s := u) hok halive h
    rw [hcapture] at hout hcells
    exact ⟨hout, fun hj => hcells (.inl (by rw [hupdate]; exact hj))⟩
  all_goals rw [State.dataScan_eq]
  · rw [hupdate]
  · rw [hupdate]
  · rw [hupdate]

/-- An instruction that stops the module, loaded under such a hold or with RESET_N low, only becomes current (R36). -/
theorem State.scanLoad_shows_held (hrails : s.railsOk = true) (hphase : s.sys.phase ≠ .dead)
    (h : s.sys.rstN = false ∨ s.sys.holds.scan = true) : let t := (s.scanLoad j).dataScan tdi
    t.sys.jtag = j ∧ t = { s with sys := { s.sys with jtag := j, cells := t.sys.cells }, rdata := t.rdata, drawn := t.drawn } ∧
      (tdi ≠ [] → t.rdata = ((scanBits j s.drawn ++ tdi).take tdi.length).map boolNat ∧
        (j = .extest → t.sys.cells = (scanBits j s.drawn ++ tdi).drop tdi.length)) ∧
      (tdi = [] → t.rdata = s.rdata ∧ t.sys.cells = s.sys.cells ∧ t.drawn = s.drawn) := by
  rw [State.scanLoad_of_held hrails hphase h]
  dsimp only
  have heq := State.dataScan_eq (s := s.loaded j) (tdi := tdi)
  refine ⟨?_, heq, fun hbits => ?_, fun hnil => State.dataScan_of_nil (s := s.loaded j) hnil⟩
  · rw [heq]
    rfl
  · obtain ⟨hout, hcells⟩ := State.dataScan_of_bits (s := s.loaded j) hrails hphase hbits
    exact ⟨hout, fun hj => hcells (.inl hj)⟩

/-- Another instruction is current, and the hold of boundary scan is over. -/
def State.released (s : State) (j : JtagInstr) : State :=
  { s with sys := { s.sys with jtag := j, holds := { s.sys.holds with scan := false } } }

theorem State.scanEnd_eq (hrails : s.railsOk = true) (hphase : s.sys.phase ≠ .dead) :
    s.scanEnd j = if s.scanning && s.saf.runs then ((s.released j).safReboot [7, 8, 9]).safShow else s.released j := by
  have hoff : ¬((!s.railsOk || decide (s.sys.phase = .dead)) = true) := by simp [hrails, hphase]
  simp only [State.scanEnd, if_neg hoff]
  rfl

theorem State.scanning_of_other (h : s.sys.jtag ≠ .extest ∧ s.sys.jtag ≠ .clamp ∧ s.sys.jtag ≠ .highz) : s.scanning = false := by
  obtain ⟨hext, hclamp, hhighz⟩ := h
  simp [State.scanning, hext, hclamp, hhighz]

/-- Another instruction, where the safety channels do not stop and start again for it (R36). -/
theorem State.scanEnd_shows (hrails : s.railsOk = true) (hphase : s.sys.phase ≠ .dead)
    (h : s.saf.runs = false ∨ (s.sys.jtag ≠ .extest ∧ s.sys.jtag ≠ .clamp ∧ s.sys.jtag ≠ .highz)) : s.scanEnd j = s.released j ∧
    let t := (s.scanEnd j).dataScan tdi
    t = { s with sys := { s.sys with jtag := j, holds := { s.sys.holds with scan := false }, cells := t.sys.cells }, rdata := t.rdata, drawn := t.drawn } ∧
      (tdi ≠ [] → t.rdata = ((scanBits j s.drawn ++ tdi).take tdi.length).map boolNat ∧
        (j = .samplePreload → t.sys.cells = (scanBits j s.drawn ++ tdi).drop tdi.length)) ∧
      (tdi = [] → t.rdata = s.rdata ∧ t.sys.cells = s.sys.cells ∧ t.drawn = s.drawn) := by
  have hstays : ¬((s.scanning && s.saf.runs) = true) := by
    rcases h with h | h
    · simp [h]
    · simp [State.scanning_of_other h]
  have hend : s.scanEnd j = s.released j := (State.scanEnd_eq hrails hphase).trans (if_neg hstays)
  rw [hend]
  refine ⟨rfl, State.dataScan_eq (s := s.released j) (tdi := tdi), fun hbits => ?_, fun hnil => State.dataScan_of_nil (s := s.released j) hnil⟩
  obtain ⟨hout, hcells⟩ := State.dataScan_of_bits (s := s.released j) hrails hphase hbits
  exact ⟨hout, fun hj => hcells (.inr hj)⟩

/-- The status registers of the safety block show in the register file alone. -/
theorem State.safShow_same (s : State) : SameButRegs s s.safShow := by
  unfold State.safShow
  extract_lets s1 s2 s3 s4 s5 s6 s7
  have h1 : SameButRegs s s1 := .each s _ _ (fun u n => by
    split
    · exact .refl u
    · exact .trans (.trans (.put ..) (.put ..)) (.put ..)) _ (.refl s)
  have h2 : SameButRegs s s2 := .each s _ _ (fun u k => by
    extract_lets
    split
    · exact .refl u
    · exact .trans (.trans (.trans (.put ..) (.put ..)) (.put ..)) (.put ..)) _ h1
  have h6 : SameButRegs s s6 := (((h2.trans (.put ..)).trans (.put ..)).trans (.put ..)).trans (.put ..)
  have h7 : SameButRegs s s7 := by
    show SameButRegs s (ite _ _ _)
    split
    · exact h6
    · exact ((h6.trans (.put ..)).trans (.put ..)).trans (.put ..)
  refine .each s _ _ (fun u c => ?_) _ h7
  dsimp only
  split
  · exact .refl u
  · exact .trans (.put ..) (.put ..)

/-- An opcode that names no other instruction is BYPASS (R35). -/
theorem exec_jtagBypass {opcode : Nat} (hother : opcode ∉ [0x00, 0x01, 0x02, 0x08, 0x09]) (hop : opcode < 256) :
    exec (.jtagBypass opcode tdi) s = .next ((s.scanEnd .bypass).dataScan tdi) := by
  have hok : (!([0x00, 0x01, 0x02, 0x08, 0x09].contains opcode) && decide (opcode < 256)) = true := by simp_all
  show need _ _ = _
  rw [hok, need_true]

/-- The safety channels start again when boundary scan no longer stops them (R367). -/
def State.Restarted (s : State) (j : JtagInstr) (t : State) : Prop :=
  t.sys.jtag = j ∧ t.sys.holds = { s.sys.holds with scan := false } ∧ t.saf.runs = true ∧ t.saf.lastStrobe = s.dtRef ∧ t.mem = s.mem ∧
    t.store = s.store ∧ t.dtRef = s.dtRef

theorem State.scanEnd_restarts (hrails : s.railsOk = true) (hphase : s.sys.phase ≠ .dead) (hruns : s.saf.runs = true)
    (h : s.sys.jtag = .extest ∨ s.sys.jtag = .clamp ∨ s.sys.jtag = .highz) :
    s.Restarted j (s.scanEnd j) ∧ s.Restarted j ((s.scanEnd j).dataScan tdi) := by
  have hscanning : s.scanning = true := by rcases h with h | h | h <;> simp [State.scanning, h]
  have hend : s.scanEnd j = ((s.released j).safReboot [7, 8, 9]).safShow :=
    (State.scanEnd_eq hrails hphase).trans (if_pos (by rw [hscanning, hruns]; rfl))
  have hshow : (s.scanEnd j) = { ((s.released j).safReboot [7, 8, 9]) with regs := (s.scanEnd j).regs } := by
    rw [hend]
    exact State.safShow_same _
  have hrestarted : s.Restarted j (s.scanEnd j) := by
    rw [hshow]
    exact ⟨rfl, rfl, rfl, rfl, rfl, rfl, rfl⟩
  refine ⟨hrestarted, ?_⟩
  rw [State.dataScan_eq]
  exact hrestarted

end

/-- Settles O1: VAUX, the rails, RESET_N, the begin of a start, and boundary scan. -/
theorem powerAndPinReset : Obligations.PowerAndPinReset := by
  unfold Obligations.PowerAndPinReset
  refine ⟨fun s => vauxRise_resets, fun s => vauxFall_loses, fun r s => railRise_shows, fun r s => railOutOfRange_of_running,
    fun r s => railOutOfRange_of_starting, fun r s => railOutOfRange_of_reset,
    fun lowNs s hphase hhigh => ⟨resetNAccept_of_long hphase hhigh, resetNAccept_of_short⟩,
    fun heldMs s hphase hhigh => resetNBounce_of_reset hphase hhigh, fun bootSel testMode heldMs s hphase hlow => resetNRise_of_low hphase hlow,
    fun s hphase hhigh hholds => startBegin_of_released hphase hhigh hholds, fun tdi s hrails hphase => ⟨fun hhigh hscan => ?_, fun hheld => ?_⟩,
    fun tdi s hrails hphase => ⟨fun hhigh hscan => ?_, fun hheld => ?_⟩, fun tdi s hrails hphase => ⟨fun hhigh hscan => ?_, fun hheld => ?_⟩,
    fun opcode tdi s hrails hphase hstop hother hop => ?_, fun opcode tdi s hrails hphase hruns hstop hother hop => ?_⟩
  · obtain ⟨hj, hholds, hreset, hkind, hwas, hboot, hout⟩ :=
      State.scanLoad_shows_free (tdi := tdi) (j := .extest) hrails hphase hhigh hscan
    exact .of_next rfl ⟨hj, hholds, hreset, hkind, hwas, hboot, fun h => ⟨(hout h).1, (hout h).2 rfl⟩⟩
  · obtain ⟨hj, heq, hout, hnil⟩ := State.scanLoad_shows_held (tdi := tdi) (j := .extest) hrails hphase hheld
    exact .of_next rfl ⟨hj, heq, fun h => ⟨(hout h).1, (hout h).2 rfl⟩, hnil⟩
  · obtain ⟨hj, hholds, hreset, hkind, hwas, hboot, hout⟩ :=
      State.scanLoad_shows_free (tdi := tdi) (j := .clamp) hrails hphase hhigh hscan
    exact .of_next rfl ⟨hj, hholds, hreset, hkind, hwas, hboot, fun h => (hout h).1⟩
  · obtain ⟨hj, heq, hout, hnil⟩ := State.scanLoad_shows_held (tdi := tdi) (j := .clamp) hrails hphase hheld
    exact .of_next rfl ⟨hj, heq, fun h => (hout h).1, hnil⟩
  · obtain ⟨hj, hholds, hreset, hkind, hwas, hboot, hout⟩ :=
      State.scanLoad_shows_free (tdi := tdi) (j := .highz) hrails hphase hhigh hscan
    exact .of_next rfl ⟨hj, hholds, hreset, hkind, hwas, hboot, fun h => (hout h).1⟩
  · obtain ⟨hj, heq, hout, hnil⟩ := State.scanLoad_shows_held (tdi := tdi) (j := .highz) hrails hphase hheld
    exact .of_next rfl ⟨hj, heq, fun h => (hout h).1, hnil⟩
  · obtain ⟨hreleased, heqId, houtId, hnilId⟩ := State.scanEnd_shows (tdi := tdi) (j := .idcode) hrails hphase hstop
    obtain ⟨-, heqSp, houtSp, hnilSp⟩ := State.scanEnd_shows (tdi := tdi) (j := .samplePreload) hrails hphase hstop
    obtain ⟨-, heqBy, houtBy, hnilBy⟩ := State.scanEnd_shows (tdi := tdi) (j := .bypass) hrails hphase hstop
    exact ⟨.of_next rfl ⟨heqId, fun h => (houtId h).1, hnilId⟩, .of_next rfl ⟨heqSp, fun h => ⟨(houtSp h).1, (houtSp h).2 rfl⟩, hnilSp⟩,
      .of_next (exec_jtagBypass hother hop) ⟨heqBy, fun h => (houtBy h).1, hnilBy⟩, .of_next rfl hreleased⟩
  · exact ⟨.of_next rfl (State.scanEnd_restarts hrails hphase hruns hstop).2, .of_next rfl (State.scanEnd_restarts hrails hphase hruns hstop).2,
      .of_next (exec_jtagBypass hother hop) (State.scanEnd_restarts hrails hphase hruns hstop).2,
      .of_next rfl (State.scanEnd_restarts (tdi := tdi) hrails hphase hruns hstop).1⟩

end Sys2Proof.Machine
end

/-! ## Safe outputs and their acknowledgement -/

section
namespace Sys2Proof.Machine

/-! ### Outputs in the list of outputs -/

section
variable {s : State} {k j : Nat} {x : SafOut}

theorem State.safOut_setSafOut_of_ne (h : j ≠ k) : (s.setSafOut k x).safOut j = s.safOut j := by
  simp [State.safOut, State.setSafOut, State.setSaf, List.getD_eq_getElem?_getD, List.getElem?_set_ne (Ne.symm h)]

theorem State.safOut_setSafOut_of_lt (h : k < s.saf.outs.length) : (s.setSafOut k x).safOut k = x := by
  simp [State.safOut, State.setSafOut, State.setSaf, List.getD_eq_getElem?_getD, h]

theorem State.safOut_of_le (h : s.saf.outs.length ≤ k) : s.safOut k = {} := by
  simp [State.safOut, List.getD_eq_getElem?_getD, h]

theorem State.setSafOut_of_le (h : s.saf.outs.length ≤ k) : s.setSafOut k x = s := by
  simp [State.setSafOut, State.setSaf, List.set_eq_of_length_le h]

theorem State.setSafOut_length : (s.setSafOut k x).saf.outs.length = s.saf.outs.length := List.length_set

end

/-! ### What the block shows (R370) -/

theorem maskOf_two (f : Nat → Bool) : maskOf 2 f = boolNat (f 0) + 2 * boolNat (f 1) := by
  show 0 + boolNat (f 0) + ite (f 1 = true) 2 0 = _
  cases f 1 <;> simp [boolNat]

theorem maskOf_two_lt (f : Nat → Bool) : maskOf 2 f < 2 ^ 2 := by
  rw [maskOf_two]
  cases f 0 <;> cases f 1 <;> decide

/-- A mask of the two outputs has the bit of each one for which `f` holds. -/
theorem maskOf_two_testBit (f : Nat → Bool) {k : Nat} (hk : k < 2) : (maskOf 2 f).testBit k = f k := by
  rw [maskOf_two]
  interval_cases k <;> cases f 0 <;> cases f 1 <;> rfl

/-- The fields that show the outputs. -/
def safOutFields : List Fld :=
  [Reg.SAF_OUT_STATE_A0, Reg.SAF_OUT_STATE_B0, Reg.SAF_OUT_STATE_PERMIT0, Reg.SAF_OUT_STATE_WAIT_ACK0, Reg.SAF_OUT_STATE_A1,
   Reg.SAF_OUT_STATE_B1, Reg.SAF_OUT_STATE_PERMIT1, Reg.SAF_OUT_STATE_WAIT_ACK1]

/-- The fields that show the inputs. -/
def safInFields : List Fld :=
  [Reg.SAF_IN_STATE_STATE0, Reg.SAF_IN_STATE_A0, Reg.SAF_IN_STATE_B0, Reg.SAF_IN_STATE_STATE1, Reg.SAF_IN_STATE_A1, Reg.SAF_IN_STATE_B1,
   Reg.SAF_IN_STATE_STATE2, Reg.SAF_IN_STATE_A2, Reg.SAF_IN_STATE_B2, Reg.SAF_IN_STATE_STATE3, Reg.SAF_IN_STATE_A3, Reg.SAF_IN_STATE_B3]

/-- The fields that show the faults. -/
def safFaultFields : List Fld :=
  [Reg.SAF_FAULT_IN, Reg.SAF_FAULT_OUT, Reg.SAF_FAULT_CONN, Reg.SAF_FAULT_INTERNAL]

/-- The fields that name the first fault. -/
def safInfoFields : List Fld := [Reg.SAF_FAULT_INFO_CODE, Reg.SAF_FAULT_INFO_IDX, Reg.SAF_FAULT_INFO_STROBE]

/-- The fields that show the connections. -/
def safConnFields : List Fld := [Reg.SAF_CONN_STATE_STATE, Reg.SAF_INT_CONN]

/-- What the safety block shows. -/
def safShowFields : List Fld := safInFields ++ safOutFields ++ safFaultFields ++ safInfoFields ++ safConnFields

/-- Both pins of the outputs, PERMIT and WAIT_ACK are shown. -/
def State.showOuts (s : State) : State :=
  s.each [0, 1] fun s k =>
    match safOutShow[k]? with
    | none => s
    | some (a, b, p, w) =>
      (((s.putB a (s.safPin k false)).putB b (s.safPin k true)).putB p (s.safPermits k)).putB w ((s.safOut k).wait && !(s.safOut k).on)

/-- The inputs are shown. -/
def State.showIns (s : State) : State :=
  s.each (List.range 4) fun s n =>
    match safInShow[n]? with
    | none => s
    | some (f, a, b) => ((s.put f (s.safIn n).st).putB a (s.safIn n).a.acc).putB b (s.safIn n).b.acc

/-- The latched faults are shown. -/
def State.showFaults (s : State) : State :=
  let s := s.put Reg.SAF_FAULT_IN (maskOf 4 fun n => (s.safIn n).faults != [])
  let s := s.put Reg.SAF_FAULT_OUT (maskOf 2 fun k => (s.safOut k).faults != [])
  let s := s.put Reg.SAF_FAULT_CONN (maskOf 8 fun c => (s.safConn c).fault)
  s.putB Reg.SAF_FAULT_INTERNAL (s.saf.internal != [])

/-- SAF_FAULT_INFO is clear while nothing is latched. -/
def State.showInfo (s : State) : State :=
  if s.safFaulted then s else ((s.put Reg.SAF_FAULT_INFO_CODE 0).put Reg.SAF_FAULT_INFO_IDX 0).put Reg.SAF_FAULT_INFO_STROBE 0

theorem State.safShow_eq (s : State) : s.safShow = s.showIns.showOuts.showFaults.showInfo.showConns := rfl

section
variable (s : State)

theorem State.showIns_only : RegsOnly safInFields s s.showIns := by
  refine .each (fun u n hn => ?_) s
  fin_cases hn <;> refine .trans (.trans (.put _ _ _ _ _ ?_) (.put _ _ _ _ _ ?_)) (.put _ _ _ _ _ ?_) <;> decide

theorem State.showOuts_only : RegsOnly safOutFields s s.showOuts := by
  refine .each (fun u n hn => ?_) s
  fin_cases hn <;>
    refine .trans (.trans (.trans (.put _ _ _ _ _ ?_) (.put _ _ _ _ _ ?_)) (.put _ _ _ _ _ ?_)) (.put _ _ _ _ _ ?_) <;> decide

theorem State.showFaults_only : RegsOnly safFaultFields s s.showFaults :=
  (((RegsOnly.put _ _ _ _ _ (by decide)).trans (.put _ _ _ _ _ (by decide))).trans (.put _ _ _ _ _ (by decide))).trans
    (.put _ _ _ _ _ (by decide))

theorem State.showInfo_only : RegsOnly safInfoFields s s.showInfo := by
  unfold State.showInfo
  split
  · exact .refl _ s
  · exact ((RegsOnly.put _ _ _ _ _ (by decide)).trans (.put _ _ _ _ _ (by decide))).trans (.put _ _ _ _ _ (by decide))

theorem State.showConns_only : RegsOnly safConnFields s s.showConns := by
  refine .each (fun u c _ => ?_) s
  dsimp only
  split
  · exact .refl _ u
  · exact (RegsOnly.put _ _ _ _ _ (by decide)).trans (.put _ _ _ _ _ (by decide))

/-- What the block shows stands in its own fields alone. -/
theorem State.safShow_only : RegsOnly safShowFields s s.safShow := by
  rw [State.safShow_eq]
  refine ((((s.showIns_only.mono ?_).trans (State.showOuts_only _ |>.mono ?_)).trans (State.showFaults_only _ |>.mono ?_)).trans
    (State.showInfo_only _ |>.mono ?_)).trans (State.showConns_only _ |>.mono ?_)
  all_goals
    intro f hf
    simp only [safShowFields, List.mem_append]
    tauto

theorem State.safShow_saf : s.safShow.saf = s.saf := by
  rw [s.safShow_only.1]

/-- The two fault words show what is latched. -/
theorem State.safShow_faults : s.safShow.get Reg.SAF_FAULT_OUT = maskOf 2 (fun k => (s.safOut k).faults != []) ∧
    s.safShow.get Reg.SAF_FAULT_INTERNAL = boolNat (s.saf.internal != []) := by
  have hsaf : s.showIns.showOuts.saf = s.saf := by rw [(State.showOuts_only _).1, s.showIns_only.1]
  have hlater (f : Fld) (hf : f.id ∉ (safInfoFields ++ safConnFields).map (·.id)) :
      s.safShow.get f = s.showIns.showOuts.showFaults.get f := by
    rw [State.safShow_eq]
    exact (((State.showInfo_only _).mono fun _ h => List.mem_append_left _ h).trans
      ((State.showConns_only _).mono fun _ h => List.mem_append_right _ h)).2 f 0 0 hf
  have hout : s.showIns.showOuts.showFaults.get Reg.SAF_FAULT_OUT =
      trunc 2 (maskOf 2 fun k => (s.showIns.showOuts.safOut k).faults != []) := by
    simp (disch := decide) only [State.showFaults, State.putB, State.get_put_of_id, State.get_put_self]
    rfl
  have hint : s.showIns.showOuts.showFaults.get Reg.SAF_FAULT_INTERNAL = trunc 1 (boolNat (s.showIns.showOuts.saf.internal != [])) :=
    State.get_put_self ..
  have hsafOut (k : Nat) : s.showIns.showOuts.safOut k = s.safOut k := congrArg (fun x => x.outs.getD k {}) hsaf
  rw [hlater _ (by decide), hlater _ (by decide), hout, hint, hsaf]
  simp only [hsafOut]
  refine ⟨?_, ?_⟩
  · exact trunc_of_lt (maskOf_two_lt _)
  · cases s.saf.internal <;> rfl

end

end Sys2Proof.Machine
end

/-! ## The function of a safe output, and what switches it -/

section
namespace Sys2Proof.Machine

/-! ### What the function of an output rests on (R354) -/

/-- The fields that the function of an output reads. -/
def permitFields : List Fld :=
  [Reg.SAF_STATUS_STATE, Reg.SAF_CFG_OUT_EN, Reg.SAF_REQ_ON, Reg.SAF_CFG_OUT_INMASK, Reg.SAF_CFG_OUT_CONNMASK, Reg.SAF_CFG_CONN_EN,
   Reg.SAF_CFG_OUT_RBIT]

/-- Nothing that the function of output `k` needs is lost from `s` to `t`. -/
structure Eases (k : Nat) (s t : State) : Prop where
  regs : ∀ f ∈ permitFields, ∀ i, t.get f i = s.get f i
  runs : t.safRuns = s.safRuns
  internal : t.saf.internal = s.saf.internal
  ins : ∀ n, (s.safIn n).st = 1 → (s.safIn n).faults = [] → (t.safIn n).st = 1 ∧ (t.safIn n).faults = []
  conn : ∀ c, (s.safConn c).valid = true → (s.safConn c).fault = false →
    (t.safConn c).valid = true ∧ (t.safConn c).fault = false ∧ (t.safConn c).data = (s.safConn c).data
  out : (s.safOut k).faults = [] → (t.safOut k).faults = []

section
variable {k : Nat} {s t u : State}

theorem Eases.refl (k : Nat) (s : State) : Eases k s s :=
  ⟨fun _ _ _ => rfl, rfl, rfl, fun _ h h' => ⟨h, h'⟩, fun _ h h' => ⟨h, h', rfl⟩, id⟩

theorem Eases.trans (h : Eases k s t) (h' : Eases k t u) : Eases k s u where
  regs f hf i := (h'.regs f hf i).trans (h.regs f hf i)
  runs := h'.runs.trans h.runs
  internal := h'.internal.trans h.internal
  ins n hst hf := (h'.ins n) (h.ins n hst hf).1 (h.ins n hst hf).2
  conn c hv hf := by
    obtain ⟨hv1, hf1, hd1⟩ := h.conn c hv hf
    obtain ⟨hv2, hf2, hd2⟩ := h'.conn c hv1 hf1
    exact ⟨hv2, hf2, hd2.trans hd1⟩
  out hf := h'.out (h.out hf)

theorem Eases.connBit (h : Eases k s t) {c b : Nat} (hb : s.connBit c b = true) : t.connBit c b = true := by
  simp only [State.connBit, State.flag, Bool.and_eq_true, Bool.not_eq_true'] at hb ⊢
  obtain ⟨⟨⟨hen, hv⟩, hf⟩, hd⟩ := hb
  obtain ⟨hv', hf', hd'⟩ := h.conn c hv hf
  exact ⟨⟨⟨by rw [h.regs _ (by decide)]; exact hen, hv'⟩, hf'⟩, by rw [hd']; exact hd⟩

/-- A function that loses nothing stays permissive. -/
theorem Eases.permits (h : Eases k s t) (hp : s.safPermits k = true) : t.safPermits k = true := by
  simp only [State.safPermits, State.flag, Bool.and_eq_true, beq_iff_eq, List.all_eq_true, Bool.or_eq_true] at hp ⊢
  obtain ⟨⟨⟨⟨⟨⟨⟨hst, hruns⟩, hint⟩, hen⟩, hreq⟩, hins⟩, hconn⟩, hf⟩ := hp
  have hreg (f : Fld) (hf : f ∈ permitFields) (i : Nat) := h.regs f hf i
  simp (disch := decide) only [hreg, h.runs, h.internal]
  exact ⟨⟨⟨⟨⟨⟨⟨hst, hruns⟩, hint⟩, hen⟩, hreq⟩, fun n hn => (hins n hn).imp_right fun hi => h.ins n hi.1 hi.2⟩,
    fun c hc => (hconn c hc).imp_right h.connBit⟩, h.out hf⟩

/-- What leaves the block, its faults and the fields read by its functions alone leaves each function as it is. -/
theorem State.safPermits_congr (hregs : ∀ f ∈ permitFields, ∀ i, t.get f i = s.get f i) (hruns : t.safRuns = s.safRuns)
    (hint : t.saf.internal = s.saf.internal) (hins : t.saf.ins = s.saf.ins) (hconn : t.saf.conn = s.saf.conn)
    (hout : (t.safOut k).faults = (s.safOut k).faults) : t.safPermits k = s.safPermits k := by
  have hin (n : Nat) : t.safIn n = s.safIn n := congrArg (·.getD n ({} : SafIn)) hins
  have hcn (c : Nat) : t.safConn c = s.safConn c := congrArg (·.getD c ({} : SafConn)) hconn
  have hst : Eases k s t := ⟨hregs, hruns, hint, fun n h h' => by rw [hin]; exact ⟨h, h'⟩, fun c h h' => by rw [hcn]; exact ⟨h, h', rfl⟩,
    fun h => hout.trans h⟩
  have hts : Eases k t s := ⟨fun f hf i => (hregs f hf i).symm, hruns.symm, hint.symm, fun n h h' => by rw [← hin]; exact ⟨h, h'⟩,
    fun c h h' => by rw [← hcn]; exact ⟨h, h', rfl⟩, fun h => hout.symm.trans h⟩
  exact Bool.eq_iff_iff.2 ⟨hts.permits, hst.permits⟩

theorem State.safPermits_of_faults (h : (s.safOut k).faults ≠ []) : s.safPermits k = false := by
  simp [State.safPermits, h]

theorem State.safPermits_of_internal (h : s.saf.internal ≠ []) : s.safPermits k = false := by
  simp [State.safPermits, h]

/-- What the block shows leaves its functions as they are. -/
theorem State.safShow_permits (s : State) : s.safShow.safPermits k = s.safPermits k := by
  obtain ⟨hshow, honly⟩ := s.safShow_only
  generalize s.safShow = t at hshow honly
  have hregs : ∀ f ∈ permitFields, f.id ∉ safShowFields.map (·.id) := by decide
  have hsaf : t.saf = s.saf := (congrArg State.saf hshow :)
  have hruns : t.safRuns = s.safRuns := (congrArg State.safRuns hshow :)
  have hout : t.safOut k = s.safOut k := (congrArg (fun u : State => u.safOut k) hshow :)
  exact State.safPermits_congr (fun f hf i => honly f i 0 (hregs f hf)) hruns (by rw [hsaf]) (by rw [hsaf]) (by rw [hsaf]) (by rw [hout])

end

/-! ### Switching an output -/

/-- The step from `s` to `t` replaces output `k`, without its faults, and nothing else. -/
def Switches (k : Nat) (s t : State) : Prop := ∃ x : SafOut, x.faults = (s.safOut k).faults ∧ t = s.setSafOut k x

section
variable {k j : Nat} {s t : State}

theorem Switches.regs (h : Switches k s t) : t.regs = s.regs := by
  obtain ⟨x, _, rfl⟩ := h
  rfl

theorem Switches.length (h : Switches k s t) : t.saf.outs.length = s.saf.outs.length := by
  obtain ⟨x, _, rfl⟩ := h
  exact State.setSafOut_length

theorem Switches.other (h : Switches k s t) (hj : j ≠ k) : t.safOut j = s.safOut j := by
  obtain ⟨x, _, rfl⟩ := h
  exact State.safOut_setSafOut_of_ne hj

theorem Switches.faults (h : Switches k s t) (j : Nat) : (t.safOut j).faults = (s.safOut j).faults := by
  by_cases hj : j = k
  · subst hj
    obtain ⟨x, hx, rfl⟩ := h
    by_cases hlt : j < s.saf.outs.length
    · rw [State.safOut_setSafOut_of_lt hlt, hx]
    · rw [State.setSafOut_of_le (Nat.le_of_not_lt hlt)]
  · rw [h.other hj]

theorem Switches.permits (h : Switches k s t) (j : Nat) : t.safPermits j = s.safPermits j := by
  refine State.safPermits_congr (fun f _ i => State.get_congr h.regs f i 0) ?_ ?_ ?_ ?_ (h.faults j)
  all_goals
    obtain ⟨x, _, rfl⟩ := h
    rfl

theorem State.setSafOut_self (s : State) (k : Nat) : s.setSafOut k (s.safOut k) = s := by
  by_cases hk : k < s.saf.outs.length
  · simp [State.setSafOut, State.setSaf, State.safOut, List.getD_eq_getElem?_getD, List.getElem?_eq_getElem hk]
  · exact State.setSafOut_of_le (Nat.le_of_not_lt hk)

theorem Switches.refl (k : Nat) (s : State) : Switches k s s := ⟨s.safOut k, rfl, (s.setSafOut_self k).symm⟩

theorem State.safOff_switches (s : State) (k : Nat) : Switches k s (s.safOff k) := by
  unfold State.safOff
  extract_lets x
  split
  · refine ⟨_, ?_, rfl⟩
    rfl
  · exact .refl k s

/-- The step from `s` to `t` replaces outputs, without their faults, and nothing else. -/
def SwitchesAll (s t : State) : Prop :=
  t = s.setSaf { s.saf with outs := t.saf.outs } ∧ t.saf.outs.length = s.saf.outs.length ∧
    (∀ j, (t.safOut j).faults = (s.safOut j).faults) ∧ ∀ j, t.safPermits j = s.safPermits j

/-- A loop over the two outputs does to each what its round does, in a state that differs in the other output alone. -/
theorem State.each_switches {f : State → Nat → State} (hf : ∀ u j, Switches j u (f u j)) (s : State) :
    SwitchesAll s (s.each [0, 1] f) ∧ ∀ k < 2, ∃ u, u.regs = s.regs ∧ u.safOut k = s.safOut k ∧ u.safPermits k = s.safPermits k ∧
      u.saf.outs.length = s.saf.outs.length ∧ (s.each [0, 1] f).safOut k = (f u k).safOut k := by
  have h0 := hf s 0
  have h1 := hf (f s 0) 1
  simp only [State.each_cons, State.each_nil]
  refine ⟨⟨?_, h1.length.trans h0.length, fun j => (h1.faults j).trans (h0.faults j), fun j => (h1.permits j).trans (h0.permits j)⟩,
    fun k hk => ?_⟩
  · obtain ⟨x, _, hx⟩ := h0
    obtain ⟨y, _, hy⟩ := h1
    rw [hy, hx]
    rfl
  · interval_cases k
    · exact ⟨s, rfl, rfl, rfl, rfl, h1.other (by decide)⟩
    · exact ⟨f s 0, h0.regs, h0.other (by decide), h0.permits 1, h0.length, rfl⟩

end

end Sys2Proof.Machine
end

/-! ## What a strobe does to a safe output -/

section
namespace Sys2Proof.Machine

/-! ### Operations that can switch outputs off and never on -/

/-- The fields that a strobe can change. -/
def strobeFields : List Fld :=
  timeFields ++ faultFields ++ safShowFields ++
    [Reg.SAF_STATUS_STATE, Reg.SAF_INT_FAULT, Reg.SAF_INT_ACK_HELD, Reg.SAF_DISC_SHORT_COUNT, Reg.SAF_INT_CNT_SAT, Reg.SAF_INT_DISC_SHORT]

/-- An output keeps its faults, and stays as it is or goes off and waits as `r` says. -/
structure OutTrips (r : Bool) (x y : SafOut) : Prop where
  faults : ∀ c ∈ x.faults, c ∈ y.faults
  switch : (y.on = x.on ∧ y.wait = x.wait) ∨ (x.on = true ∧ y.on = false ∧ y.wait = r)

/-- No output is switched on and no fault of an output or of the block is lost from `s` to `t`. -/
structure Trips (s t : State) : Prop where
  kept : t = { s with regs := t.regs, saf := t.saf, flt := t.flt, sys := { s.sys with faultLow := t.sys.faultLow } }
  only : OnlyFields strobeFields s t
  runs : t.saf.runs = s.saf.runs
  ack : t.saf.ack = s.saf.ack
  differ : t.saf.differ = s.saf.differ
  length : t.saf.outs.length = s.saf.outs.length
  internal : ∀ c ∈ s.saf.internal, c ∈ t.saf.internal
  out : ∀ k < 2, OutTrips (!s.flag Reg.SAF_CFG_OUT_RESTART k) (s.safOut k) (t.safOut k)

section
variable {r : Bool} {x y z : SafOut} {k : Nat} {s t u : State}

theorem OutTrips.refl (r : Bool) (x : SafOut) : OutTrips r x x := ⟨fun _ h => h, .inl ⟨rfl, rfl⟩⟩

theorem OutTrips.trans (h : OutTrips r x y) (h' : OutTrips r y z) : OutTrips r x z := by
  refine ⟨fun c hc => h'.faults c (h.faults c hc), ?_⟩
  rcases h.switch with ⟨hon, hwait⟩ | ⟨hx, hy, hwait⟩ <;> rcases h'.switch with ⟨hon', hwait'⟩ | ⟨hy', hz, hwait'⟩
  · exact .inl ⟨hon'.trans hon, hwait'.trans hwait⟩
  · exact .inr ⟨hon.symm.trans hy', hz, hwait'⟩
  · exact .inr ⟨hx, hon'.trans hy, hwait'.trans hwait⟩
  · exact absurd hy' (by simp [hy])

theorem Trips.refl (s : State) : Trips s s := ⟨rfl, .refl _ s, rfl, rfl, rfl, rfl, fun _ h => h, fun _ _ => .refl _ _⟩

theorem Trips.restart (h : Trips s t) (k : Nat) : t.flag Reg.SAF_CFG_OUT_RESTART k = s.flag Reg.SAF_CFG_OUT_RESTART k :=
  congrArg (· != 0) (h.only _ k 0 (by decide))

theorem Trips.trans (h : Trips s t) (h' : Trips t u) : Trips s u where
  kept := by rw [h'.kept, h.kept]
  only := h.only.trans h'.only
  runs := h'.runs.trans h.runs
  ack := h'.ack.trans h.ack
  differ := h'.differ.trans h.differ
  length := h'.length.trans h.length
  internal c hc := h'.internal c (h.internal c hc)
  out k hk := (h.out k hk).trans (h.restart k ▸ h'.out k hk)

theorem Trips.of_regs {l : List Fld} (h : RegsOnly l s t) (hl : ∀ f ∈ l, f ∈ strobeFields) : Trips s t := by
  have hsaf : t.saf = s.saf := (congrArg State.saf h.1 :)
  have hout (k : Nat) : t.safOut k = s.safOut k := congrArg (fun x : Saf => x.outs.getD k {}) hsaf
  refine ⟨?_, (h.mono hl).2, by rw [hsaf], by rw [hsaf], by rw [hsaf], by rw [hsaf], by rw [hsaf]; exact fun _ h => h,
    fun k _ => by rw [hout]; exact .refl _ _⟩
  rw [h.1]

theorem Trips.put (f : Fld) (v i j : Nat) (hf : f ∈ strobeFields) : Trips s (s.put f v i j) :=
  .of_regs (.put (l := [f]) s f v i j (by simp)) (by simpa using hf)

/-- Inputs, connections and test pulses are none of the outputs; internal faults may be added. -/
theorem Trips.setSaf (x : Saf) (hruns : x.runs = s.saf.runs) (hack : x.ack = s.saf.ack) (hdiffer : x.differ = s.saf.differ)
    (houts : x.outs = s.saf.outs) (hint : ∀ c ∈ s.saf.internal, c ∈ x.internal) : Trips s (s.setSaf x) := by
  have hout (k : Nat) : (s.setSaf x).safOut k = s.safOut k := congrArg (List.getD · k ({} : SafOut)) houts
  exact ⟨rfl, .of_regs rfl, hruns, hack, hdiffer, congrArg List.length houts, hint, fun k _ => by rw [hout]; exact .refl _ _⟩

theorem Trips.setSafOut (h : OutTrips (!s.flag Reg.SAF_CFG_OUT_RESTART k) (s.safOut k) x) : Trips s (s.setSafOut k x) := by
  refine ⟨rfl, .of_regs rfl, rfl, rfl, rfl, State.setSafOut_length, fun _ h => h, fun j _ => ?_⟩
  by_cases hj : j = k
  · subst hj
    by_cases hlt : j < s.saf.outs.length
    · rw [State.safOut_setSafOut_of_lt hlt]
      exact h
    · rw [State.setSafOut_of_le (Nat.le_of_not_lt hlt)]
      exact .refl _ _
  · rw [State.safOut_setSafOut_of_ne hj]
    exact .refl _ _

theorem Trips.setSafIn (n : Nat) (x : SafIn) : Trips s (s.setSafIn n x) := .setSaf _ rfl rfl rfl rfl fun _ h => h

theorem Trips.setSafConn (c : Nat) (x : SafConn) : Trips s (s.setSafConn c x) := .setSaf _ rfl rfl rfl rfl fun _ h => h

theorem Trips.fault (code src : Nat) (hsev : severity code ≠ 4) : Trips s (s.fault code src) := by
  obtain ⟨regs, flt, heq⟩ := s.fault_eq code src hsev
  have hmono : ∀ f ∈ faultFields, f ∈ strobeFields := by decide
  have honly := (s.fault_only code src hsev).mono hmono
  rw [heq] at honly ⊢
  exact ⟨rfl, honly, rfl, rfl, rfl, rfl, fun _ h => h, fun _ _ => .refl _ _⟩

theorem Trips.cond {c : Bool} {f : State → State} (hf : Trips s (f s)) : Trips s (s.cond c f) := by
  cases c
  · exact .refl s
  · exact hf

theorem Trips.ite {c : Prop} [Decidable c] (ht : Trips s t) (hu : Trips s u) : Trips s (if c then t else u) := by
  split
  · exact ht
  · exact hu

theorem Trips.each {α : Type} {f : State → α → State} (hf : ∀ u a, Trips u (f u a)) (l : List α) (s : State) : Trips s (s.each l f) := by
  induction l generalizing s with
  | nil => exact .refl s
  | cons a l ih => exact (hf s a).trans (ih _)

theorem Trips.foldl {α β : Type} {f : State × β → α → State × β} (hf : ∀ y a, Trips y.1 (f y a).1) (l : List α) (y : State × β) :
    Trips y.1 (l.foldl f y).1 := by
  induction l generalizing y with
  | nil => exact .refl y.1
  | cons a l ih => exact (hf y a).trans (ih _)

theorem Trips.safShow : Trips s s.safShow :=
  .of_regs s.safShow_only fun _ hf => List.mem_append_left _ (List.mem_append_right _ hf)

/-- Switching an output off (R354, R355). -/
theorem State.safOff_out (h : (s.safOut k).on = true) (hk : k < s.saf.outs.length) :
    ((s.safOff k).safOut k).on = false ∧ ((s.safOff k).safOut k).wait = !s.flag Reg.SAF_CFG_OUT_RESTART k := by
  rw [State.safOff, if_pos h, State.safOut_setSafOut_of_lt hk]
  exact ⟨rfl, rfl⟩

theorem Trips.safOff : Trips s (s.safOff k) := by
  unfold State.safOff
  extract_lets x
  split
  next h => exact .setSafOut ⟨fun _ h => h, .inr ⟨h, rfl, rfl⟩⟩
  next => exact .refl s

theorem Trips.safTrip : Trips s s.safTrip := .each (fun _ _ => .cond .safOff) _ s

theorem Trips.latchOne (code idx : Nat) : Trips s (s.latchOne code idx) := by
  have hcons (l : List Nat) : ∀ c ∈ l, c ∈ code :: l.filter (· != code) := fun c hc => by
    by_cases h : c = code <;> simp [h, hc]
  unfold State.latchOne
  refine .ite (.setSafIn _ _) (.ite (.setSafOut ⟨hcons _, .inl ⟨rfl, rfl⟩⟩) (.ite (.setSafConn _ _) ?_))
  refine .trans ?_ (.put Reg.SAF_STATUS_STATE _ _ _ (by decide))
  exact .setSaf _ rfl rfl rfl rfl (hcons _)

/-- The first fault of a list enters SAF_FAULT_INFO when none was latched. -/
def State.safInfo (s : State) (l : List (Nat × Nat)) : State :=
  match l with
  | [] => s
  | f :: _ =>
    if s.safFaulted then s
    else ((s.put Reg.SAF_FAULT_INFO_CODE f.1).put Reg.SAF_FAULT_INFO_IDX f.2).put Reg.SAF_FAULT_INFO_STROBE (s.at_ / 50000)

/-- The faults of a list that are not latched yet, the lowest code first. -/
def State.freshFaults (s : State) (l : List (Nat × Nat)) : List (Nat × Nat) :=
  (l.filter fun f => !s.latched f.1 f.2).mergeSort fun a b => a.1 ≤ b.1

/-- The fresh faults of a list enter their latches. -/
def State.safLatches (s : State) (l : List (Nat × Nat)) : State :=
  (s.safInfo (s.freshFaults l)).each (s.freshFaults l) fun s f => (s.latchOne f.1 f.2).put Reg.SAF_INT_FAULT 1

/-- The fresh faults of a list are faults of the module. -/
def State.safFaults (s : State) (l : List (Nat × Nat)) : State :=
  s.each l fun s f => if 7 ≤ f.1 then s.fault 9 f.1 else s.fault 0xC (f.1 * 256 + f.2)

theorem State.safLatch_eq (s : State) (l : List (Nat × Nat)) :
    s.safLatch l = (s.safLatches l).safTrip.safShow.safFaults (s.freshFaults l) := rfl

theorem Trips.safInfo (l : List (Nat × Nat)) : Trips s (s.safInfo l) := by
  unfold State.safInfo
  split
  · exact .refl s
  · exact .ite (.refl s) (((Trips.put _ _ _ _ (by decide)).trans (.put _ _ _ _ (by decide))).trans (.put _ _ _ _ (by decide)))

theorem Trips.latchRound (f : Nat × Nat) : Trips s ((s.latchOne f.1 f.2).put Reg.SAF_INT_FAULT 1) :=
  (Trips.latchOne _ _).trans (.put _ _ _ _ (by decide))

theorem Trips.safLatches (l : List (Nat × Nat)) : Trips s (s.safLatches l) := (Trips.safInfo _).trans (.each (fun _ f => .latchRound f) _ _)

theorem Trips.safFaults (l : List (Nat × Nat)) : Trips s (s.safFaults l) :=
  .each (fun _ _ => .ite (.fault _ _ (by decide)) (.fault _ _ (by decide))) l s

theorem Trips.safLatch (l : List (Nat × Nat)) : Trips s (s.safLatch l) := by
  rw [State.safLatch_eq]
  exact (((Trips.safLatches l).trans .safTrip).trans .safShow).trans (.safFaults _)

theorem Trips.safSample (n : Nat) (ra rb : Bool) : Trips s (s.safSample n ra rb).1 := by
  unfold State.safSample
  extract_lets
  split
  split
  split
  · extract_lets _ _ _ short _ _ _ _ s1 s2
    have h1 : Trips s s1 := .setSafIn _ _
    have h2 : Trips s1 s2 := .cond (.of_regs (.trans (.bump (l := strobeFields) _ _ _ _ _ _ _ (by decide) (by decide))
      (.put _ _ _ _ _ (by decide))) fun _ h => h)
    exact h1.trans h2
  · exact .setSafIn _ _

theorem Trips.safReadBack (k : Nat) (ha hb : Bool) : Trips s (s.safReadBack k ha hb).1 := by
  unfold State.safReadBack
  extract_lets
  split
  split
  exact .setSafOut ⟨fun _ h => h, .inl ⟨rfl, rfl⟩⟩

theorem State.tripRound_switches (u : State) (j : Nat) : Switches j u (u.cond (!u.safPermits j) (·.safOff j)) := by
  cases h : u.safPermits j <;> simp [Switches.refl, State.safOff_switches]

theorem State.safTrip_all (s : State) : SwitchesAll s s.safTrip := (State.each_switches State.tripRound_switches s).1

/-- After a trip an output that is on has a permissive function (R354). -/
theorem State.safTrip_permits (s : State) (hk : k < 2) (hon : (s.safTrip.safOut k).on = true) : s.safTrip.safPermits k = true := by
  obtain ⟨hall, hone⟩ := State.each_switches State.tripRound_switches s
  obtain ⟨u, -, hout, hpermits, hlen, heq⟩ := hone k hk
  refine (hall.2.2.2 k).trans (hpermits.symm.trans ?_)
  by_contra hnot
  have hoff : s.safTrip.safOut k = (u.safOff k).safOut k := by
    refine heq.trans ?_
    simp [eq_false_of_ne_true hnot]
  rw [hoff] at hon
  by_cases hu : (u.safOut k).on = true
  · by_cases hlt : k < u.saf.outs.length
    · rw [(State.safOff_out hu hlt).1] at hon
      cases hon
    · rw [State.safOut_of_le (Nat.le_of_not_lt hlt)] at hu
      cases hu
  · rw [State.safOff, if_neg hu] at hon
    exact hu hon

end

end Sys2Proof.Machine
end

/-! ## How a strobe ends -/

section
namespace Sys2Proof.Machine

/-! ### Faults that latch (R357) -/

section
variable {s : State} {l : List (Nat × Nat)} {c i k : Nat}

/-- What latching a fault brings about, and no trip undoes, holds once the list that names the fault has been latched. -/
theorem State.safLatches_latches {P : State → Prop} (hset : ∀ u : State, P (u.latchOne c i)) (hkeep : ∀ u v, Trips u v → P u → P v)
    (hnow : s.latched c i = true → P s) (hmem : (c, i) ∈ l) : P (s.safLatches l) := by
  by_cases hl : s.latched c i = true
  · exact hkeep s _ (.safLatches l) (hnow hl)
  · have hfresh : (c, i) ∈ s.freshFaults l := by
      simp [State.freshFaults, List.mem_mergeSort, hmem, hl]
    exact State.each_of_mem hfresh (fun u => hkeep _ _ (.put _ _ _ _ (by decide)) (hset u)) (fun u f => hkeep _ _ (.latchRound f)) _

/-- A fault of a read-back stands in the latches of its output. -/
theorem State.safLatch_out (hc : c = 4 ∨ c = 5) (hk : k < s.saf.outs.length) (hk2 : k < 2) (hmem : (c, k) ∈ l) :
    c ∈ ((s.safLatch l).safOut k).faults := by
  have hcode : ¬ c ≤ 3 ∧ c ≤ 5 := by omega
  have hlatched : k < (s.safLatches l).saf.outs.length → c ∈ ((s.safLatches l).safOut k).faults := by
    refine State.safLatches_latches (P := fun u => k < u.saf.outs.length → c ∈ (u.safOut k).faults) (fun u hu => ?_) (fun u v huv hP hv => ?_)
      (fun h _ => ?_) hmem
    · rw [State.latchOne, if_neg hcode.1, if_pos hcode.2] at hu ⊢
      rw [State.safOut_setSafOut_of_lt (State.setSafOut_length ▸ hu)]
      exact List.mem_cons_self
    · exact (huv.out k hk2).faults c (hP (huv.length ▸ hv))
    · rw [State.latched, if_neg hcode.1, if_pos hcode.2] at h
      exact List.contains_iff_mem.1 h
  rw [State.safLatch_eq]
  have hrest := ((Trips.safTrip (s := s.safLatches l)).trans .safShow).trans (.safFaults (s.freshFaults l))
  exact (hrest.out k hk2).faults c (hlatched (by rw [(Trips.safLatches l).length]; exact hk))

/-- An internal fault enters the latches of the block. -/
theorem State.safLatches_internal (hc : 7 ≤ c) (hmem : (c, i) ∈ l) : c ∈ (s.safLatches l).saf.internal := by
  have hcode : ¬ c ≤ 3 ∧ ¬ c ≤ 5 ∧ c ≠ 6 := by omega
  refine State.safLatches_latches (P := fun u => c ∈ u.saf.internal) (fun u => ?_) (fun u v huv => huv.internal c) (fun h => ?_) hmem
  · rw [State.latchOne, if_neg hcode.1, if_neg hcode.2.1, if_neg hcode.2.2]
    exact List.mem_cons_self
  · rw [State.latched, if_neg hcode.1, if_neg hcode.2.1, if_neg hcode.2.2] at h
    exact List.contains_iff_mem.1 h

theorem State.safLatch_internal (hc : 7 ≤ c) (hmem : (c, i) ∈ l) : c ∈ (s.safLatch l).saf.internal := by
  rw [State.safLatch_eq]
  exact (((Trips.safTrip (s := s.safLatches l)).trans .safShow).trans (.safFaults (s.freshFaults l))).internal c
    (State.safLatches_internal hc hmem)

end

/-! ### Switching outputs on (R355, R358) -/

section
variable {s t u : State} {k : Nat}

/-- Each output for which `c` holds of it and of its function becomes `g` of itself. -/
def State.eachOut (s : State) (c : SafOut → Bool → Bool) (g : SafOut → SafOut) : State :=
  s.each [0, 1] fun s k => if c (s.safOut k) (s.safPermits k) then s.setSafOut k (g (s.safOut k)) else s

theorem State.eachOut_switches {c : SafOut → Bool → Bool} {g : SafOut → SafOut} (hg : ∀ x, (g x).faults = x.faults) (s : State) :
    SwitchesAll s (s.eachOut c g) ∧ ∀ k < 2, (s.eachOut c g).safOut k =
      if c (s.safOut k) (s.safPermits k) = true ∧ k < s.saf.outs.length then g (s.safOut k) else s.safOut k := by
  obtain ⟨hall, hone⟩ := State.each_switches (f := fun s k => if c (s.safOut k) (s.safPermits k) then s.setSafOut k (g (s.safOut k)) else s)
    (fun u j => by
      split
      · exact ⟨_, hg _, rfl⟩
      · exact .refl j u) s
  refine ⟨hall, fun k hk => ?_⟩
  obtain ⟨u, -, hout, hpermits, hlen, heq⟩ := hone k hk
  refine heq.trans ?_
  rw [← hout, ← hpermits, ← hlen]
  by_cases hc : c (u.safOut k) (u.safPermits k) = true
  · rw [if_pos hc]
    by_cases hlt : k < u.saf.outs.length
    · rw [if_pos ⟨hc, hlt⟩, State.safOut_setSafOut_of_lt hlt]
    · rw [if_neg fun h => hlt h.2, State.setSafOut_of_le (Nat.le_of_not_lt hlt)]
  · rw [if_neg hc, if_neg fun h => hc h.1]

theorem State.safRestart_eq (s : State) :
    s.safRestart = s.eachOut (fun x p => p && !x.on && !x.wait) fun x => { x with on := true } := rfl

/-- Output `k` after the restart of outputs that owe no acknowledgement. -/
theorem State.safRestart_out (hk : k < 2) : s.safRestart.safOut k =
    if (s.safPermits k && !(s.safOut k).on && !(s.safOut k).wait) = true ∧ k < s.saf.outs.length then { s.safOut k with on := true }
    else s.safOut k := by
  exact (s.eachOut_switches (c := fun x p => p && !x.on && !x.wait) (g := fun x => { x with on := true }) fun _ => rfl).2 k hk

/-- An acknowledgement clears the faults of input `n` whose conditions allow it (R357, R358). -/
def State.ackIn (s : State) (n : Nat) : State :=
  let x := s.safIn n
  (s.setSafIn n { x with faults := x.faults.filter fun c => !s.inClears n c }).inCleared n

/-- The same of output `k`. -/
def State.ackOut (s : State) (k : Nat) : State :=
  let x := s.safOut k
  s.setSafOut k { x with faults := x.faults.filter fun c => c == 4 && !x.offSeen }

/-- The same of connection `c`. -/
def State.ackConn (s : State) (c : Nat) : State :=
  let x := s.safConn c
  s.setSafConn c { x with fault := x.fault && !x.valid }

/-- An acknowledgement clears every fault whose condition allows it; SAF_INT.ACK_HELD says that one is left. -/
def State.ackFaults (s : State) : State :=
  let s := ((s.each (List.range 4) State.ackIn).each [0, 1] State.ackOut).each (List.range 8) State.ackConn
  s.cond s.safFaulted (·.put Reg.SAF_INT_ACK_HELD 1)

/-- An acknowledgement turns on every output whose function is permissive. -/
def State.ackOuts (s : State) : State := s.eachOut (fun _ p => p) fun x => { x with on := true, wait := false }

/-- No acknowledgement waits any more. -/
def State.ackDone (s : State) : State := s.setSaf { s.saf with ack := false }

theorem State.ackApply_eq (s : State) : s.ackApply = s.ackFaults.ackOuts.ackDone := by
  unfold State.ackApply
  extract_lets s1 s2 s3 s4 s5
  have h4 : s4 = s.ackFaults := rfl
  have h5 : s5 = s4.ackOuts := rfl
  show s5.ackDone = _
  rw [h5, h4]

/-- Faults and inputs clear from `s` to `t`: no function loses anything and no output switches. -/
structure Clears (s t : State) : Prop where
  eases : ∀ k, Eases k s t
  on : ∀ k, (t.safOut k).on = (s.safOut k).on
  wait : ∀ k, (t.safOut k).wait = (s.safOut k).wait
  length : t.saf.outs.length = s.saf.outs.length

theorem Clears.refl (s : State) : Clears s s := ⟨fun k => .refl k s, fun _ => rfl, fun _ => rfl, rfl⟩

theorem Clears.trans (h : Clears s t) (h' : Clears t u) : Clears s u :=
  ⟨fun k => (h.eases k).trans (h'.eases k), fun k => (h'.on k).trans (h.on k), fun k => (h'.wait k).trans (h.wait k),
    h'.length.trans h.length⟩

theorem Clears.each {α : Type} {f : State → α → State} (hf : ∀ u a, Clears u (f u a)) (l : List α) (s : State) : Clears s (s.each l f) := by
  induction l generalizing s with
  | nil => exact .refl s
  | cons a l ih => exact (hf s a).trans (ih _)

theorem State.safIn_setSafIn (n m : Nat) (x : SafIn) : (s.setSafIn n x).safIn m = x ∧ m = n ∨ (s.setSafIn n x).safIn m = s.safIn m := by
  by_cases hm : m = n
  · subst hm
    by_cases hlt : m < s.saf.ins.length
    · exact .inl ⟨by simp [State.safIn, State.setSafIn, State.setSaf, List.getD_eq_getElem?_getD, hlt], rfl⟩
    · exact .inr (by simp [State.safIn, State.setSafIn, State.setSaf, List.getD_eq_getElem?_getD, hlt])
  · exact .inr (by simp [State.safIn, State.setSafIn, State.setSaf, List.getD_eq_getElem?_getD, List.getElem?_set_ne (Ne.symm hm)])

theorem State.safConn_setSafConn (n m : Nat) (x : SafConn) :
    (s.setSafConn n x).safConn m = x ∧ m = n ∨ (s.setSafConn n x).safConn m = s.safConn m := by
  by_cases hm : m = n
  · subst hm
    by_cases hlt : m < s.saf.conn.length
    · exact .inl ⟨by simp [State.safConn, State.setSafConn, State.setSaf, List.getD_eq_getElem?_getD, hlt], rfl⟩
    · exact .inr (by simp [State.safConn, State.setSafConn, State.setSaf, List.getD_eq_getElem?_getD, hlt])
  · exact .inr (by simp [State.safConn, State.setSafConn, State.setSaf, List.getD_eq_getElem?_getD, List.getElem?_set_ne (Ne.symm hm)])

/-- An input that permits goes on permitting. -/
theorem Clears.setSafIn {n : Nat} {x : SafIn} (h : (s.safIn n).st = 1 → (s.safIn n).faults = [] → x.st = 1 ∧ x.faults = []) :
    Clears s (s.setSafIn n x) := by
  refine ⟨fun k => ⟨fun _ _ _ => rfl, rfl, rfl, fun m hst hf => ?_, fun _ hv hf => ⟨hv, hf, rfl⟩, id⟩, fun _ => rfl, fun _ => rfl, rfl⟩
  rcases State.safIn_setSafIn (s := s) n m x with ⟨heq, rfl⟩ | heq <;> rw [heq]
  · exact h hst hf
  · exact ⟨hst, hf⟩

theorem Clears.setSafConn {n : Nat} {x : SafConn} (h : (s.safConn n).valid = true → (s.safConn n).fault = false →
    x.valid = true ∧ x.fault = false ∧ x.data = (s.safConn n).data) : Clears s (s.setSafConn n x) := by
  refine ⟨fun k => ⟨fun _ _ _ => rfl, rfl, rfl, fun _ hst hf => ⟨hst, hf⟩, fun m hv hf => ?_, id⟩, fun _ => rfl, fun _ => rfl, rfl⟩
  rcases State.safConn_setSafConn (s := s) n m x with ⟨heq, rfl⟩ | heq <;> rw [heq]
  · exact h hv hf
  · exact ⟨hv, hf, rfl⟩

theorem Clears.setSafOut {x : SafOut} (hf : (s.safOut k).faults = [] → x.faults = []) (hon : x.on = (s.safOut k).on)
    (hwait : x.wait = (s.safOut k).wait) : Clears s (s.setSafOut k x) := by
  by_cases hlt : k < s.saf.outs.length
  · have hout (j : Nat) : (s.setSafOut k x).safOut j = if j = k then x else s.safOut j := by
      split
      next h => rw [h, State.safOut_setSafOut_of_lt hlt]
      next h => exact State.safOut_setSafOut_of_ne h
    refine ⟨fun j => ⟨fun _ _ _ => rfl, rfl, rfl, fun _ hst hf => ⟨hst, hf⟩, fun _ hv hf => ⟨hv, hf, rfl⟩, fun h => ?_⟩, fun j => ?_,
      fun j => ?_, State.setSafOut_length⟩
    all_goals
      rw [hout]
      split
      next hj =>
        subst hj
        simp_all
      next => simp_all
  · rw [State.setSafOut_of_le (Nat.le_of_not_lt hlt)]
    exact .refl s

theorem Clears.put {f : Fld} {v i j : Nat} (h : ∀ g ∈ permitFields, g.id ≠ f.id) : Clears s (s.put f v i j) :=
  ⟨fun _ => ⟨fun g hg _ => State.get_put_of_id _ _ _ _ _ _ _ _ (h g hg), rfl, rfl, fun _ hst hf => ⟨hst, hf⟩,
    fun _ hv hf => ⟨hv, hf, rfl⟩, id⟩, fun _ => rfl, fun _ => rfl, rfl⟩

theorem Clears.cond {c : Bool} {f : State → State} (h : Clears s (f s)) : Clears s (s.cond c f) := by
  cases c
  · exact .refl s
  · exact h

theorem Clears.inCleared (n : Nat) : Clears s (s.inCleared n) := by
  unfold State.inCleared
  extract_lets x
  split
  next h => exact .setSafIn fun hst => absurd h.1 (by rw [hst]; decide)
  next => exact .refl s

theorem Clears.ackIn (n : Nat) : Clears s (s.ackIn n) := by
  unfold State.ackIn
  extract_lets x
  refine .trans ?_ (.inCleared n)
  refine .setSafIn fun hst hf => ⟨hst, ?_⟩
  show List.filter _ x.faults = []
  rw [show x.faults = [] from hf, List.filter_nil]

theorem Clears.ackOut (k : Nat) : Clears s (s.ackOut k) := by
  refine .setSafOut (fun hf => ?_) rfl rfl
  show List.filter _ (s.safOut k).faults = []
  rw [hf, List.filter_nil]

theorem Clears.ackConn (c : Nat) : Clears s (s.ackConn c) := by
  refine .setSafConn fun hv hf => ⟨hv, ?_, rfl⟩
  show ((s.safConn c).fault && _) = false
  rw [hf, Bool.false_and]

theorem Clears.ackFaults (s : State) : Clears s s.ackFaults := by
  unfold State.ackFaults
  extract_lets u
  have hu : Clears s u := ((Clears.each (fun _ => .ackIn) _ s).trans (.each (fun _ => .ackOut) _ _)).trans (.each (fun _ => .ackConn) _ _)
  exact hu.trans (.cond (.put (by decide)))

end

end Sys2Proof.Machine
end

/-! ## Safe outputs at a strobe -/

section
namespace Sys2Proof.Machine

/-! ### The end of a strobe -/

/-- An output whose acknowledgement is taken, its function permissive (`p`) or not. -/
def SafOut.acked (x : SafOut) (p : Bool) : SafOut := if p then { x with on := true, wait := false } else x

/-- An output that comes on when its function is permissive and it owes no acknowledgement. -/
def SafOut.restarted (x : SafOut) (p : Bool) : SafOut := if p && !x.on && !x.wait then { x with on := true } else x

section
variable {x : SafOut} {p : Bool}

theorem SafOut.acked_faults : (x.acked p).faults = x.faults := by
  unfold SafOut.acked
  split <;> rfl

theorem SafOut.restarted_faults : (x.restarted p).faults = x.faults := by
  unfold SafOut.restarted
  split <;> rfl

theorem SafOut.acked_on (h : (x.acked p).on = true) : x.on = true ∨ p = true := by
  cases p
  · exact .inl h
  · exact .inr rfl

theorem SafOut.restarted_on (h : (x.restarted p).on = true) : x.on = true ∨ p = true := by
  cases p
  · exact .inl (by simpa [SafOut.restarted] using h)
  · exact .inr rfl

theorem SafOut.restarted_of_wait (h : x.wait = true) : x.restarted p = x := by simp [SafOut.restarted, h]

theorem SafOut.restarted_of_on (h : x.on = true) : x.restarted p = x := by simp [SafOut.restarted, h]

theorem SafOut.restarted_of_off (h : x.on = false) (hw : x.wait = false) : (x.restarted true).on = true := by
  simp [SafOut.restarted, h, hw]

/-- An output that is on or waits as `r` says goes on doing so. -/
theorem SafOut.acked_owes {r : Bool} (h : x.on = true ∨ x.wait = r) : (x.acked p).on = true ∨ (x.acked p).wait = r := by
  cases p
  · exact h
  · exact .inl rfl

theorem SafOut.restarted_owes {r : Bool} (h : x.on = true ∨ x.wait = r) : (x.restarted p).on = true ∨ (x.restarted p).wait = r := by
  unfold SafOut.restarted
  split
  · exact .inl rfl
  · exact h

end

section
variable {s t u : State} {k : Nat}

theorem SwitchesAll.runs (h : SwitchesAll s t) : t.safRuns = s.safRuns := by
  rw [h.1]
  rfl

theorem SwitchesAll.ack (h : SwitchesAll s t) : t.saf.ack = s.saf.ack := by
  rw [h.1]
  rfl

theorem SwitchesAll.testPulses (h : SwitchesAll s t) : t.saf.tp = s.saf.tp := (congrArg (fun u : State => u.saf.tp) h.1 :)

theorem SwitchesAll.regs (h : SwitchesAll s t) : t.regs = s.regs := (congrArg State.regs h.1 :)

theorem SwitchesAll.internal (h : SwitchesAll s t) : t.saf.internal = s.saf.internal :=
  (congrArg (fun u : State => u.saf.internal) h.1 :)

theorem State.safShow_runs (s : State) : s.safShow.safRuns = s.safRuns := by
  have hshow := s.safShow_only.1
  generalize s.safShow = t at hshow
  exact (congrArg State.safRuns hshow :)

theorem State.ackDone_permits (s : State) (k : Nat) : s.ackDone.safPermits k = s.safPermits k := rfl

theorem State.ackDone_out (s : State) (k : Nat) : s.ackDone.safOut k = s.safOut k := rfl

theorem State.ackDone_length (s : State) : s.ackDone.saf.outs.length = s.saf.outs.length := rfl

theorem State.ackDone_runs (s : State) : s.ackDone.safRuns = s.safRuns := rfl

theorem State.ackDone_ack (s : State) : s.ackDone.saf.ack = false := rfl

theorem State.safShow_out (s : State) (k : Nat) : s.safShow.safOut k = s.safOut k := by
  rw [State.safOut, s.safShow_saf]
  rfl

/-- The function of output `k` is permissive and the output exists. -/
def State.canSwitch (s : State) (k : Nat) : Bool := s.safPermits k && decide (k < s.saf.outs.length)

theorem State.safRestart_all (s : State) : SwitchesAll s s.safRestart :=
  (s.eachOut_switches (c := fun x p => p && !x.on && !x.wait) (g := fun x => { x with on := true }) fun _ => rfl).1

theorem State.ackOuts_all (s : State) : SwitchesAll s s.ackOuts :=
  (s.eachOut_switches (c := fun _ p => p) (g := fun x => { x with on := true, wait := false }) fun _ => rfl).1

theorem State.safRestart_restarted (s : State) (hk : k < 2) : s.safRestart.safOut k = (s.safOut k).restarted (s.canSwitch k) := by
  rw [State.safRestart_out hk, State.canSwitch, SafOut.restarted]
  by_cases hlt : k < s.saf.outs.length <;> simp [hlt]

theorem State.ackOuts_acked (s : State) (hk : k < 2) : s.ackOuts.safOut k = (s.safOut k).acked (s.canSwitch k) := by
  refine ((s.eachOut_switches (c := fun _ p => p) (g := fun x => { x with on := true, wait := false }) fun _ => rfl).2 k hk).trans ?_
  rw [State.canSwitch, SafOut.acked]
  by_cases hlt : k < s.saf.outs.length <;> simp [hlt]

/-- The acknowledgement that waits is taken, outputs restart, and the registers show the block. -/
def State.strobeEnds (s : State) : State := (if s.saf.ack then s.ackApply else s).safRestart.safShow

/-- What a strobe without an acknowledgement ends with. -/
theorem State.strobeEnds_of_none (h : u.saf.ack = false) (hk : k < 2) : u.strobeEnds.safRuns = u.safRuns ∧ u.strobeEnds.saf.ack = false ∧
    u.strobeEnds.safPermits k = u.safPermits k ∧ u.strobeEnds.safOut k = (u.safOut k).restarted (u.canSwitch k) := by
  have hend : u.strobeEnds = u.safRestart.safShow := by rw [State.strobeEnds, h]; rfl
  have hall := u.safRestart_all
  rw [hend, State.safShow_runs, State.safShow_saf, State.safShow_permits, State.safShow_out]
  exact ⟨hall.runs, hall.ack.trans h, hall.2.2.2 k, u.safRestart_restarted hk⟩

/-- What a strobe with an acknowledgement ends with: faults clear, then outputs switch on. -/
theorem State.strobeEnds_of_ack (h : u.saf.ack = true) (hk : k < 2) : ∃ v, Clears u v ∧ u.strobeEnds.safRuns = u.safRuns ∧
    u.strobeEnds.saf.ack = false ∧ u.strobeEnds.safPermits k = v.safPermits k ∧
    u.strobeEnds.safOut k = ((v.safOut k).acked (v.canSwitch k)).restarted (v.canSwitch k) := by
  have hclears := Clears.ackFaults u
  have hend : u.strobeEnds = u.ackFaults.ackOuts.ackDone.safRestart.safShow := by
    rw [State.strobeEnds, h, if_pos rfl, State.ackApply_eq]
  generalize u.ackFaults = v at hclears hend
  have hack := v.ackOuts_all
  have hall := v.ackOuts.ackDone.safRestart_all
  have hcan : v.ackOuts.ackDone.canSwitch k = v.canSwitch k := by
    rw [State.canSwitch, State.ackDone_permits, State.ackDone_length, hack.2.2.2, hack.2.1, State.canSwitch]
  refine ⟨v, hclears, ?_⟩
  rw [hend, State.safShow_runs, State.safShow_saf, State.safShow_permits, State.safShow_out, State.safRestart_restarted _ hk, hcan,
    State.ackDone_out, v.ackOuts_acked hk, hall.runs, hall.ack, hall.2.2.2, State.ackDone_runs, State.ackDone_ack, State.ackDone_permits,
    hack.runs, hack.2.2.2, (hclears.eases k).runs]
  exact ⟨rfl, rfl, rfl, rfl⟩

/-- How output `k` stands at the end of a strobe, when it was on only with its function permissive. -/
theorem State.strobeEnds_out (hk : k < 2) (hon : (u.safOut k).on = true → u.safPermits k = true) :
    ((u.strobeEnds.safOut k).on = true → u.strobeEnds.safPermits k = true) ∧ u.strobeEnds.saf.ack = false ∧
    u.strobeEnds.safRuns = u.safRuns ∧
    (∀ r, (u.safOut k).on = true ∨ (u.safOut k).wait = r → (u.strobeEnds.safOut k).on = true ∨ (u.strobeEnds.safOut k).wait = r) ∧
    (u.saf.ack = true → k < u.saf.outs.length → u.strobeEnds.safPermits k = true →
      (u.strobeEnds.safOut k).on = true ∧ (u.strobeEnds.safOut k).wait = false) := by
  have hcan {v : State} (h : v.canSwitch k = true) : v.safPermits k = true := (Bool.and_eq_true _ _ ▸ h : _ ∧ _).1
  cases hack : u.saf.ack
  · obtain ⟨hruns, hdone, hpermits, hout⟩ := State.strobeEnds_of_none hack hk
    rw [hruns, hdone, hpermits, hout]
    exact ⟨fun h => (SafOut.restarted_on h).elim hon hcan, rfl, rfl, fun r => SafOut.restarted_owes, nofun⟩
  · obtain ⟨v, hclears, hruns, hdone, hpermits, hout⟩ := State.strobeEnds_of_ack hack hk
    rw [hruns, hdone, hpermits, hout]
    have hvon (h : (v.safOut k).on = true) : v.safPermits k = true := (hclears.eases k).permits (hon (hclears.on k ▸ h))
    refine ⟨fun h => (SafOut.restarted_on h).elim (fun h => (SafOut.acked_on h).elim hvon hcan) hcan, rfl, rfl, fun r h => ?_,
      fun _ hlt hp => ?_⟩
    · exact SafOut.restarted_owes (SafOut.acked_owes (by rw [hclears.on, hclears.wait]; exact h))
    · have hswitch : v.canSwitch k = true := by
        rw [State.canSwitch, hp, hclears.length]
        simp [hlt]
      rw [hswitch, SafOut.restarted_of_on rfl]
      exact ⟨rfl, rfl⟩

end

end Sys2Proof.Machine
end

/-! ## The strobe of the safety channels -/

section
namespace Sys2Proof.Machine

section
variable {s t u : State} {a b rb k c : Nat} {d : Bool}

/-- The strobe comes: DT, its number, the test pulses and the count of disagreements move on. -/
def State.strobeBegins (s : State) (differ : Bool) : State :=
  let e := s.gridNext s.saf.lastStrobe 50000 s.saf.off
  let s := s.advanceTo e
  let tp := s.saf.tp.map fun o => match o with
    | some (m, low) => if m + 1 ≤ s.tpw + 2 then some (m + 1, low) else none
    | none => none
  s.setSaf { s.saf with n := s.saf.n + 1, lastStrobe := e, off := s.etOff, tp := tp, differ := if differ then s.saf.differ + 1 else 0 }

/-- The strobe lies outside its window. -/
def State.strobeLate (s : State) : Bool :=
  let e := s.gridNext s.saf.lastStrobe 50000 s.saf.off
  decide (0 < s.saf.n) && (decide (e < s.saf.lastStrobe + 12250) || decide (s.saf.lastStrobe + 12750 < e))

/-- The four inputs are sampled; the faults they raise. -/
def State.samples (s : State) (a b : Nat) : State × List (Nat × Nat) :=
  (List.range 4).foldl (fun (x : State × List (Nat × Nat)) n =>
    let y := x.1.safSample n (bit a n) (bit b n)
    (y.1, x.2 ++ y.2)) (s, [])

/-- Both outputs are read back. -/
def readBacks (rb : Nat) (x : State × List (Nat × Nat)) : State × List (Nat × Nat) :=
  [0, 1].foldl (fun (x : State × List (Nat × Nat)) k =>
    let y := x.1.safReadBack k (bit rb (2 * k)) (bit rb (2 * k + 1))
    (y.1, x.2 ++ y.2)) x

/-- The state after the samples and read-backs of a strobe, and the faults found by them. -/
def State.strobeReads (s : State) (a b rb : Nat) (d : Bool) : State × List (Nat × Nat) := readBacks rb ((s.strobeBegins d).samples a b)

/-- The faults of a strobe. -/
def State.strobeFaults (s : State) (a b rb : Nat) (d : Bool) : List (Nat × Nat) :=
  (s.strobeReads a b rb d).2 ++ (if 2 ≤ (s.strobeReads a b rb d).1.saf.differ then [(7, 0)] else []) ++ (if s.strobeLate then [(8, 0)] else [])

/-- The state once the faults of a strobe have latched and what they stop is off. -/
def State.strobeTrips (s : State) (a b rb : Nat) (d : Bool) : State :=
  ((s.strobeReads a b rb d).1.safTrip.safLatch (s.strobeFaults a b rb d)).safTrip

theorem exec_safetyStrobe (h : s.safRuns = true) : exec (.safetyStrobe a b rb d) s = .next (s.strobeTrips a b rb d).strobeEnds := by
  show execSafetyStrobe a b rb d s = _
  unfold execSafetyStrobe
  rw [if_pos h]
  extract_lets e late s1 tp _ s2
  have h2 : s2 = s.strobeBegins d := rfl
  have hl : late = s.strobeLate := rfl
  clear_value late s2
  subst h2 hl
  unfold State.strobeTrips State.strobeFaults State.strobeReads State.samples
  generalize List.foldl _ (s.strobeBegins d, []) _ = y
  unfold readBacks
  obtain ⟨s3, f3⟩ := y
  dsimp only
  generalize List.foldl _ (s3, f3) _ = y
  obtain ⟨s4, f4⟩ := y
  rfl

theorem State.strobeBegins_saf (s : State) (d : Bool) : (s.strobeBegins d).saf.outs = s.saf.outs ∧ (s.strobeBegins d).saf.ack = s.saf.ack ∧
    (s.strobeBegins d).saf.differ = (if d then s.saf.differ + 1 else 0) ∧ (s.strobeBegins d).safRuns = s.safRuns ∧
    OnlyFields timeFields s (s.strobeBegins d) := by
  have honly := (OnlyFields.refl timeFields s).advanceTo (s.gridNext s.saf.lastStrobe 50000 s.saf.off) fun _ h => h
  have heq := s.advanceTo_eq (s.gridNext s.saf.lastStrobe 50000 s.saf.off)
  have hsaf : (s.advanceTo (s.gridNext s.saf.lastStrobe 50000 s.saf.off)).saf = s.saf := (congrArg State.saf heq :)
  have hscan : (s.advanceTo (s.gridNext s.saf.lastStrobe 50000 s.saf.off)).scanning = s.scanning := (congrArg State.scanning heq :)
  unfold State.strobeBegins
  extract_lets e v tp
  refine ⟨(congrArg Saf.outs hsaf :), (congrArg Saf.ack hsaf :), ?_, ?_, honly⟩
  · show (if d then v.saf.differ + 1 else 0) = _
    rw [hsaf]
  · show (v.saf.runs && !v.scanning) = _
    rw [hsaf, hscan]
    rfl

theorem Trips.samples (a b : Nat) : Trips s (s.samples a b).1 := by
  unfold State.samples
  exact Trips.foldl (fun y n => by exact .safSample n _ _) _ (s, [])

theorem Trips.readBacks (rb : Nat) (x : State × List (Nat × Nat)) : Trips x.1 (readBacks rb x).1 := by
  unfold Machine.readBacks
  exact Trips.foldl (fun y k => by exact .safReadBack k _ _) _ x

theorem Trips.strobeReads (a b rb : Nat) (d : Bool) : Trips (s.strobeBegins d) (s.strobeReads a b rb d).1 :=
  (Trips.samples a b).trans (.readBacks rb _)

theorem Trips.strobeTrips (a b rb : Nat) (d : Bool) : Trips (s.strobeBegins d) (s.strobeTrips a b rb d) :=
  (((Trips.strobeReads a b rb d).trans .safTrip).trans (.safLatch _)).trans .safTrip

theorem Trips.safRuns (h : Trips s t) : t.safRuns = s.safRuns := by
  have hscan : t.scanning = s.scanning := (congrArg State.scanning h.kept :)
  rw [State.safRuns, State.safRuns, hscan, h.runs]

theorem State.safeOn_of_runs (h : s.safRuns = true) : s.safeOn k = (s.safOut k).on := by
  rw [State.safRuns, Bool.and_eq_true, Bool.not_eq_true'] at h
  rw [State.safeOn, h.2, Bool.not_false, Bool.and_true]

theorem State.safOut_strobeBegins (s : State) (d : Bool) (k : Nat) : (s.strobeBegins d).safOut k = s.safOut k :=
  congrArg (List.getD · k ({} : SafOut)) (s.strobeBegins_saf d).1

/-- Output `k` from a strobe's beginning until its faults have latched. -/
theorem State.strobeTrips_out (hk : k < 2) :
    OutTrips (!s.flag Reg.SAF_CFG_OUT_RESTART k) (s.safOut k) ((s.strobeTrips a b rb d).safOut k) := by
  have hout := (Trips.strobeTrips (s := s) a b rb d).out k hk
  have hflag : (s.strobeBegins d).flag Reg.SAF_CFG_OUT_RESTART k = s.flag Reg.SAF_CFG_OUT_RESTART k :=
    congrArg (· != 0) ((s.strobeBegins_saf d).2.2.2.2 _ k 0 (by decide))
  rwa [hflag, State.safOut_strobeBegins] at hout

theorem State.strobeTrips_runs (h : s.safRuns = true) : (s.strobeTrips a b rb d).safRuns = true :=
  (Trips.strobeTrips a b rb d).safRuns.trans ((s.strobeBegins_saf d).2.2.2.1.trans h)

theorem State.strobeTrips_ack : (s.strobeTrips a b rb d).saf.ack = s.saf.ack :=
  (Trips.strobeTrips a b rb d).ack.trans (s.strobeBegins_saf d).2.1

theorem State.strobeTrips_length : (s.strobeTrips a b rb d).saf.outs.length = s.saf.outs.length :=
  (Trips.strobeTrips a b rb d).length.trans (congrArg List.length (s.strobeBegins_saf d).1)

theorem State.strobeTrips_permits (hk : k < 2) (hon : ((s.strobeTrips a b rb d).safOut k).on = true) :
    (s.strobeTrips a b rb d).safPermits k = true := State.safTrip_permits _ hk hon

/-- After a strobe an output is on only with its function permissive, and one that went off waits unless its restart is automatic
(R354, R355). -/
theorem safetyStrobe_switches (hk : k < 2) (hruns : s.safRuns = true) : Does (.safetyStrobe a b rb d) s fun t =>
    (t.safeOn k = true → t.safPermits k = true) ∧ t.saf.ack = false ∧
    (s.safeOn k = false → (s.safOut k).wait = true → s.saf.ack = false → t.safeOn k = false) ∧
    (s.safeOn k = true → t.safeOn k = false → (t.safOut k).wait = !s.flag Reg.SAF_CFG_OUT_RESTART k) := by
  refine .of_next (exec_safetyStrobe hruns) ?_
  have hout := State.strobeTrips_out (s := s) (a := a) (b := b) (rb := rb) (d := d) hk
  have hack := State.strobeTrips_ack (s := s) (a := a) (b := b) (rb := rb) (d := d)
  have hur := State.strobeTrips_runs (a := a) (b := b) (rb := rb) (d := d) hruns
  have hon := State.strobeTrips_permits (s := s) (a := a) (b := b) (rb := rb) (d := d) hk
  generalize s.strobeTrips a b rb d = u at *
  obtain ⟨hpermits, hdone, hruns', howes, -⟩ := State.strobeEnds_out hk hon
  rw [State.safeOn_of_runs hruns, State.safeOn_of_runs (hruns'.trans hur)]
  refine ⟨hpermits, hdone, fun hoff hwait hno => ?_, fun hwas hoff => ?_⟩
  · obtain ⟨-, -, -, heq⟩ := State.strobeEnds_of_none (hack.trans hno) hk
    rcases hout.switch with ⟨hon', hwait'⟩ | ⟨hon', -, -⟩
    · rw [heq, SafOut.restarted_of_wait (hwait'.trans hwait)]
      exact hon'.trans hoff
    · exact absurd (hoff.symm.trans hon') (by decide)
  · have howed : (u.safOut k).on = true ∨ (u.safOut k).wait = !s.flag Reg.SAF_CFG_OUT_RESTART k := by
      rcases hout.switch with ⟨hon', -⟩ | ⟨-, -, hwait⟩
      · exact .inl (hon'.trans hwas)
      · exact .inr hwait
    exact (howes _ howed).resolve_left (by rw [hoff]; decide)

/-- Outputs that come on at a strobe: by an acknowledgement, or by themselves when they owe none (R355, R358). -/
theorem safetyStrobe_restarts (hk : k < 2) (hruns : s.safRuns = true) (hlen : s.saf.outs.length = 2) :
    Does (.safetyStrobe a b rb d) s fun t =>
      (s.saf.ack = true → t.safPermits k = true → t.safeOn k = true ∧ (t.safOut k).wait = false) ∧
      ((s.safOut k).wait = false → s.safeOn k = false → t.safPermits k = true → t.safeOn k = true) := by
  refine .of_next (exec_safetyStrobe hruns) ?_
  have hout := State.strobeTrips_out (s := s) (a := a) (b := b) (rb := rb) (d := d) hk
  have hack := State.strobeTrips_ack (s := s) (a := a) (b := b) (rb := rb) (d := d)
  have hur := State.strobeTrips_runs (a := a) (b := b) (rb := rb) (d := d) hruns
  have hon := State.strobeTrips_permits (s := s) (a := a) (b := b) (rb := rb) (d := d) hk
  have hlt : k < (s.strobeTrips a b rb d).saf.outs.length := by rw [State.strobeTrips_length, hlen]; exact hk
  generalize s.strobeTrips a b rb d = u at *
  obtain ⟨-, -, hruns', -, hacked⟩ := State.strobeEnds_out hk hon
  rw [State.safeOn_of_runs hruns, State.safeOn_of_runs (hruns'.trans hur)]
  refine ⟨fun h hp => hacked (hack.trans h) hlt hp, fun hwait hoff hp => ?_⟩
  by_cases h : u.saf.ack = true
  · exact (hacked h hlt hp).1
  · obtain ⟨-, -, hpermits, heq⟩ := State.strobeEnds_of_none (eq_false_of_ne_true h) hk
    have hcan : u.canSwitch k = true := by
      rw [State.canSwitch, ← hpermits, hp]
      simp [hlt]
    rcases hout.switch with ⟨hon', hwait'⟩ | ⟨hon', -, -⟩
    · rw [heq, hcan]
      exact SafOut.restarted_of_off (hon'.trans hoff) (hwait'.trans hwait)
    · exact absurd (hoff.symm.trans hon') (by decide)

/-! ### Read-back and disagreement (R356, R357) -/

/-- Samples leave the outputs as they are. -/
theorem State.samples_outs (s : State) (a b : Nat) : (s.samples a b).1.saf.outs = s.saf.outs := by
  have hone (u : State) (n : Nat) (ra rb : Bool) : (u.safSample n ra rb).1.saf.outs = u.saf.outs := by
    unfold State.safSample
    extract_lets
    split
    split
    split
    · extract_lets _ _ _ short _ _ _ _ s1 s2
      have h2 : SameButRegs s1 s2 := by
        show SameButRegs s1 (s1.cond short _)
        cases short
        · exact .refl s1
        · exact .trans (.bump ..) (.put ..)
      exact (congrArg (fun v : State => v.saf.outs) h2 :)
    · rfl
  have hfold (l : List Nat) (x : State × List (Nat × Nat)) : (l.foldl (fun (x : State × List (Nat × Nat)) n =>
      let y := x.1.safSample n (bit a n) (bit b n)
      (y.1, x.2 ++ y.2)) x).1.saf.outs = x.1.saf.outs := by
    induction l generalizing x with
    | nil => rfl
    | cons n l ih => exact (ih _).trans (hone _ _ _ _)
  exact hfold _ _

/-- The faults that the read-back of output `k` finds. -/
def State.pinFaults (s : State) (k rb : Nat) : List Nat :=
  [((s.safOut k).a.readBack (bit rb (2 * k)) (s.safOut k).on (s.get Reg.SAF_CFG_OUT_OPW k)).2,
    ((s.safOut k).b.readBack (bit rb (2 * k + 1)) (s.safOut k).on (s.get Reg.SAF_CFG_OUT_OPW k)).2]

theorem State.safReadBack_faults (s : State) (k rb : Nat) : (s.safReadBack k (bit rb (2 * k)) (bit rb (2 * k + 1))).2 =
    ((s.pinFaults k rb).filter (· != 0)).map fun c => (c, k) := rfl

/-- A read-back fault of either output is among the faults of the strobe. -/
theorem mem_readBacks {x : State × List (Nat × Nat)} (hk : k < 2) (hc : c ≠ 0) (h : c ∈ x.1.pinFaults k rb) : (c, k) ∈ (readBacks rb x).2 := by
  have hmem {u : State} (h : c ∈ u.pinFaults k rb) : (c, k) ∈ (u.safReadBack k (bit rb (2 * k)) (bit rb (2 * k + 1))).2 := by
    rw [State.safReadBack_faults]
    simp [h, hc]
  simp only [readBacks, List.foldl_cons, List.foldl_nil, List.mem_append]
  interval_cases k
  · exact .inl (.inr (hmem h))
  · refine .inr (hmem ?_)
    have hother : (x.1.safReadBack 0 (bit rb (2 * 0)) (bit rb (2 * 0 + 1))).1.safOut 1 = x.1.safOut 1 :=
      State.safOut_setSafOut_of_ne (by decide)
    rw [State.pinFaults, hother]
    exact h

/-- The read-back at a strobe sees the outputs as they stood before it. -/
theorem State.pinFaults_samples (s : State) (d : Bool) (a b k rb : Nat) :
    ((s.strobeBegins d).samples a b).1.pinFaults k rb = s.pinFaults k rb := by
  have hout : ((s.strobeBegins d).samples a b).1.safOut k = s.safOut k :=
    (congrArg (List.getD · k ({} : SafOut)) (State.samples_outs _ a b)).trans (s.safOut_strobeBegins d k)
  have hopw : ((s.strobeBegins d).samples a b).1.get Reg.SAF_CFG_OUT_OPW k = s.get Reg.SAF_CFG_OUT_OPW k :=
    ((Trips.samples a b).only _ k 0 (by decide)).trans ((s.strobeBegins_saf d).2.2.2.2 _ k 0 (by decide))
  rw [State.pinFaults, hout, hopw]
  rfl

/-- A read-back fault found at a strobe latches (R357). -/
theorem State.strobeTrips_readBack (hk : k < 2) (hlen : s.saf.outs.length = 2) (hc : c = 4 ∨ c = 5) (hfault : c ∈ s.pinFaults k rb) :
    c ∈ ((s.strobeTrips a b rb d).safOut k).faults := by
  have hread : (c, k) ∈ (s.strobeReads a b rb d).2 := mem_readBacks hk (by omega) (by rw [State.pinFaults_samples]; exact hfault)
  have hmem : (c, k) ∈ s.strobeFaults a b rb d := List.mem_append_left _ (List.mem_append_left _ hread)
  have hlt : k < (s.strobeReads a b rb d).1.safTrip.saf.outs.length := by
    rw [((Trips.strobeReads a b rb d).trans .safTrip).length, (s.strobeBegins_saf d).1, hlen]
    exact hk
  exact (Trips.safTrip.out k hk).faults c (State.safLatch_out hc hlt hk hmem)

/-- An output whose function is not permissive after the strobe is off. -/
theorem State.strobeEnds_off (hk : k < 2) (hon : (u.safOut k).on = true → u.safPermits k = true) (hruns : u.safRuns = true)
    (hnot : u.strobeEnds.safPermits k = false) : u.strobeEnds.safeOn k = false := by
  obtain ⟨hpermits, -, hruns', -⟩ := State.strobeEnds_out hk hon
  rw [State.safeOn_of_runs (hruns'.trans hruns)]
  exact eq_false_of_ne_true fun h => absurd (hpermits h) (by rw [hnot]; decide)

/-- An output with a fault of its own is off after a strobe without an acknowledgement, and shown. -/
theorem State.strobeEnds_faulted (hk : k < 2) (hon : (u.safOut k).on = true → u.safPermits k = true) (hruns : u.safRuns = true)
    (hno : u.saf.ack = false) (hfault : c ∈ (u.safOut k).faults) : c ∈ (u.strobeEnds.safOut k).faults ∧ u.strobeEnds.safeOn k = false ∧
      (u.strobeEnds.get Reg.SAF_FAULT_OUT).testBit k = true := by
  obtain ⟨-, -, -, heq⟩ := State.strobeEnds_of_none hno hk
  have hfinal : c ∈ (u.strobeEnds.safOut k).faults := by
    rw [heq, SafOut.restarted_faults]
    exact hfault
  refine ⟨hfinal, State.strobeEnds_off hk hon hruns (State.safPermits_of_faults (List.ne_nil_of_mem hfinal)), ?_⟩
  have hend : u.strobeEnds = u.safRestart.safShow := by
    rw [State.strobeEnds, hno]
    rfl
  rw [hend, State.safShow_out] at hfinal
  rw [hend, (State.safShow_faults _).1, maskOf_two_testBit _ hk]
  simp [List.ne_nil_of_mem hfinal]

/-- A read-back fault found at a strobe stands in the latches, and the output is off after it. -/
theorem safetyStrobe_readBack (hk : k < 2) (hruns : s.safRuns = true) (hlen : s.saf.outs.length = 2) (hno : s.saf.ack = false)
    (hc : c = 4 ∨ c = 5) (hfault : c ∈ s.pinFaults k rb) : Does (.safetyStrobe a b rb d) s fun t =>
      c ∈ (t.safOut k).faults ∧ t.safeOn k = false ∧ (t.get Reg.SAF_FAULT_OUT).testBit k = true :=
  .of_next (exec_safetyStrobe hruns) (State.strobeEnds_faulted hk (State.strobeTrips_permits hk) (State.strobeTrips_runs hruns)
    (State.strobeTrips_ack.trans hno) (State.strobeTrips_readBack hk hlen hc hfault))

/-- A pin that reads low a second time while on (R356). -/
theorem SafPin.readBack_low {p : SafPin} {w : Nat} (hp : p.pulse = none) (hlo : 1 ≤ p.lo) : (p.readBack false true w).2 = 5 := by
  simp [SafPin.readBack, hp, hlo]

/-- A pin that reads high a second time while off. -/
theorem SafPin.readBack_high {p : SafPin} {w : Nat} (hhi : 1 ≤ p.hi) : (p.readBack true false w).2 = 4 := by
  simp [SafPin.readBack, hhi]

/-- A pin that reads high at the end of its off-pulse. -/
theorem SafPin.readBack_pulse {p : SafPin} {w : Nat} (hp : p.pulse = some w) : (p.readBack true true (w + 2)).2 = 4 := by
  simp [SafPin.readBack, hp]

theorem State.mem_pinFaults_low (hrb : rb.testBit (2 * k) = false) (hon : (s.safOut k).on = true) (hp : (s.safOut k).a.pulse = none)
    (hlo : 1 ≤ (s.safOut k).a.lo) : 5 ∈ s.pinFaults k rb := by
  rw [State.pinFaults, hon, show bit rb (2 * k) = false from hrb, SafPin.readBack_low hp hlo]
  exact List.mem_cons_self

theorem State.mem_pinFaults_high (hrb : rb.testBit (2 * k + 1) = true) (hoff : (s.safOut k).on = false) (hhi : 1 ≤ (s.safOut k).b.hi) :
    4 ∈ s.pinFaults k rb := by
  rw [State.pinFaults, hoff, show bit rb (2 * k + 1) = true from hrb, SafPin.readBack_high hhi]
  exact List.mem_cons_of_mem _ List.mem_cons_self

theorem State.mem_pinFaults_pulse {w : Nat} (hrb : rb.testBit (2 * k) = true) (hon : (s.safOut k).on = true)
    (hw : s.get Reg.SAF_CFG_OUT_OPW k = w + 2) (hp : (s.safOut k).a.pulse = some w) : 4 ∈ s.pinFaults k rb := by
  rw [State.pinFaults, hon, hw, show bit rb (2 * k) = true from hrb, SafPin.readBack_pulse hp]
  exact List.mem_cons_self

theorem State.ackApply_internal (u : State) : u.ackApply.saf.internal = u.saf.internal := by
  have hclears := ((Clears.ackFaults u).eases 0).internal
  rw [State.ackApply_eq]
  generalize u.ackFaults = v at hclears
  exact (v.ackOuts_all.internal :).trans hclears

/-- The end of a strobe keeps the internal faults and shows them. -/
theorem State.strobeEnds_internal (u : State) : u.strobeEnds.saf.internal = u.saf.internal ∧
    u.strobeEnds.get Reg.SAF_FAULT_INTERNAL = boolNat (u.saf.internal != []) := by
  have hack : (if u.saf.ack then u.ackApply else u).saf.internal = u.saf.internal := by
    split
    · exact u.ackApply_internal
    · rfl
  unfold State.strobeEnds
  generalize (if u.saf.ack then u.ackApply else u) = v at hack
  have hint := v.safRestart_all.internal.trans hack
  rw [State.safShow_saf, (State.safShow_faults _).2, hint]
  exact ⟨rfl, rfl⟩

/-- Channels that disagree at a second strobe are an internal fault (R357). -/
theorem State.strobeTrips_differ (hdiffer : 1 ≤ s.saf.differ) : 7 ∈ (s.strobeTrips a b rb true).saf.internal := by
  have hcount : 2 ≤ (s.strobeReads a b rb true).1.saf.differ := by
    rw [(Trips.strobeReads a b rb true).differ, (s.strobeBegins_saf true).2.2.1]
    simpa using hdiffer
  have hmem : (7, 0) ∈ s.strobeFaults a b rb true := by
    refine List.mem_append_left _ (List.mem_append_right _ ?_)
    rw [if_pos hcount]
    exact List.mem_singleton_self _
  exact Trips.safTrip.internal 7 (State.safLatch_internal (by decide) hmem)

/-- Channels that disagree twice switch everything off. -/
theorem safetyStrobe_differ (hk : k < 2) (hruns : s.safRuns = true) (hdiffer : 1 ≤ s.saf.differ) : Does (.safetyStrobe a b rb true) s fun t =>
    t.safeOn k = false ∧ 7 ∈ t.saf.internal ∧ t.get Reg.SAF_FAULT_INTERNAL = 1 := by
  refine .of_next (exec_safetyStrobe hruns) ?_
  have hlatched := State.strobeTrips_differ (a := a) (b := b) (rb := rb) hdiffer
  have hur := State.strobeTrips_runs (a := a) (b := b) (rb := rb) (d := true) hruns
  have hon := State.strobeTrips_permits (s := s) (a := a) (b := b) (rb := rb) (d := true) hk
  generalize s.strobeTrips a b rb true = u at *
  obtain ⟨hint, hshown⟩ := u.strobeEnds_internal
  rw [hint, hshown]
  refine ⟨State.strobeEnds_off hk hon hur (State.safPermits_of_internal ?_), hlatched, ?_⟩
  · rw [hint]
    exact List.ne_nil_of_mem hlatched
  · simp [List.ne_nil_of_mem hlatched, boolNat]

/-! ### A lost strobe (R347) -/

/-- An output that is off stays off while nothing switches outputs on. -/
theorem Trips.off (h : Trips s t) (hk : k < 2) (hoff : (s.safOut k).on = false) : (t.safOut k).on = false := by
  rcases (h.out k hk).switch with ⟨hon, -⟩ | ⟨hon, -, -⟩
  · exact hon.trans hoff
  · exact absurd (hoff.symm.trans hon) (by decide)

/-- Faults of the module leave what the block shows. -/
theorem State.safFaults_only (s : State) (l : List (Nat × Nat)) : OnlyFields faultFields s (s.safFaults l) :=
  .each l _ (fun u f h => .ite (h.trans (u.fault_only _ _ (by decide))) (h.trans (u.fault_only _ _ (by decide)))) s (.refl _ s)

/-- An internal fault switches every output off and is shown. -/
theorem State.safLatch_stops {l : List (Nat × Nat)} {i : Nat} (hk : k < 2) (hc : 7 ≤ c) (hmem : (c, i) ∈ l) :
    ((s.safLatch l).safOut k).on = false ∧ c ∈ (s.safLatch l).saf.internal ∧ (s.safLatch l).get Reg.SAF_FAULT_INTERNAL = 1 := by
  have hint := State.safLatch_internal (s := s) hc hmem
  have hlatched := Trips.safTrip.internal c (State.safLatches_internal (s := s) hc hmem)
  have hoff : ((s.safLatches l).safTrip.safOut k).on = false := eq_false_of_ne_true fun h =>
    absurd (State.safTrip_permits _ hk h) (by rw [State.safPermits_of_internal (List.ne_nil_of_mem hlatched)]; decide)
  have hshown : (s.safLatch l).get Reg.SAF_FAULT_INTERNAL = boolNat ((s.safLatches l).safTrip.saf.internal != []) := by
    rw [State.safLatch_eq]
    exact (State.safFaults_only _ _ _ 0 0 (by decide)).trans (State.safShow_faults _).2
  refine ⟨?_, hint, ?_⟩
  · rw [State.safLatch_eq]
    exact (Trips.safShow.trans (.safFaults (s.freshFaults l))).off hk hoff
  · rw [hshown]
    simp [List.ne_nil_of_mem hlatched, boolNat]

/-- The state as the loss of the strobe is found. -/
def State.strobeMissed (s : State) : State := s.advanceTo (s.saf.lastStrobe + 25000)

/-- The first internal fault, of a lost strobe, latches. -/
def State.lossLatched (s : State) : State := ((s.safInfo [(8, 0)]).latchOne 8 0).put Reg.SAF_INT_FAULT 1

theorem State.safFaults_loss (s : State) : s.safFaults [(8, 0)] = s.fault 9 8 := by
  rw [State.safFaults, State.each_cons, State.each_nil, if_pos (by decide)]

theorem State.safLatch_of_loss (h : 8 ∉ s.saf.internal) : s.safLatch [(8, 0)] = s.lossLatched.safTrip.safShow.fault 9 8 := by
  have hfresh : s.freshFaults [(8, 0)] = [(8, 0)] := by
    simp [State.freshFaults, State.latched, h]
  have hlatches : s.safLatches [(8, 0)] = s.lossLatched := by
    rw [State.safLatches, hfresh]
    rfl
  rw [State.safLatch_eq, hlatches, hfresh, State.safFaults_loss]

theorem State.lossLatched_state (s : State) : s.lossLatched.get Reg.SAF_STATUS_STATE = 2 :=
  (State.get_put_of_id _ _ _ _ _ _ _ _ (by decide)).trans (State.get_put_self ..)

theorem State.lossLatched_testPulses (s : State) : s.lossLatched.saf.tp = [none, none] := rfl

theorem State.fault_saf (s : State) (code src : Nat) (hsev : severity code ≠ 4) : (s.fault code src).saf = s.saf := by
  obtain ⟨regs, flt, heq⟩ := s.fault_eq code src hsev
  rw [heq]
  rfl

theorem State.fault_low (s : State) (code src : Nat) (hsev : severity code = 3) : (s.fault code src).sys.faultLow = true := by
  obtain ⟨regs, flt, heq⟩ := s.fault_eq code src (by omega)
  rw [heq]
  simp [State.lowers, hsev]

/-- A block stopped by the loss of its strobe (R347, R357). -/
theorem State.safLatch_loss (h : 8 ∉ s.saf.internal) : (s.safLatch [(8, 0)]).get Reg.SAF_STATUS_STATE = 2 ∧
    (s.safLatch [(8, 0)]).saf.tp = [none, none] ∧ (s.safLatch [(8, 0)]).sys.faultLow = true := by
  have hall := s.lossLatched.safTrip_all
  rw [State.safLatch_of_loss h, State.fault_saf _ _ _ (by decide), State.safShow_saf, hall.testPulses, State.fault_only _ _ _ (by decide) _ _ _ (by decide),
    (State.safShow_only _).2 _ _ _ (by decide), State.get_congr hall.regs]
  exact ⟨s.lossLatched_state, s.lossLatched_testPulses, State.fault_low _ _ _ (by decide)⟩

theorem exec_strobeLoss (h : s.safRuns = true) : exec .strobeLoss s = .next (s.strobeMissed.safLatch [(8, 0)]) :=
  congrArg Host.Outcome.next (if_pos h)

/-- The loss of the strobe switches everything off (R347). -/
theorem strobeLoss_stops (hk : k < 2) (hruns : s.safRuns = true) : Does .strobeLoss s fun t =>
    t.safeOn k = false ∧ 8 ∈ t.saf.internal ∧ t.get Reg.SAF_FAULT_INTERNAL = 1 ∧ t.dtRef = s.strobeMissed.dtRef ∧ t.mem = s.mem ∧
    (8 ∉ s.saf.internal → t.get Reg.SAF_STATUS_STATE = 2 ∧ t.tpLow 0 = true ∧ t.tpLow 1 = true ∧ t.sys.faultLow = true) := by
  have heq := s.advanceTo_eq (s.saf.lastStrobe + 25000)
  have hsaf : s.strobeMissed.saf = s.saf := (congrArg State.saf heq :)
  have hmem : s.strobeMissed.mem = s.mem := (congrArg State.mem heq :)
  refine .of_next (exec_strobeLoss hruns) ?_
  rw [← hsaf, ← hmem]
  generalize s.strobeMissed = v
  obtain ⟨hoff, hint, hshown⟩ := State.safLatch_stops (s := v) (l := [(8, 0)]) hk (by decide) (List.mem_singleton_self _)
  have htrips := Trips.safLatch (s := v) [(8, 0)]
  have hloss := State.safLatch_loss (s := v)
  generalize v.safLatch [(8, 0)] = t at *
  have hlow (i : Nat) (hi : t.saf.tp.getD i none = none) : t.tpLow i = true := by
    rw [State.tpLow, hi]
    simp [List.ne_nil_of_mem hint]
  refine ⟨?_, hint, hshown, (congrArg State.dtRef htrips.kept :), (congrArg State.mem htrips.kept :), fun h => ?_⟩
  · rw [State.safeOn, hoff, Bool.false_and]
  · obtain ⟨hstate, htp, hfault⟩ := hloss h
    exact ⟨hstate, hlow 0 (by rw [htp]; rfl), hlow 1 (by rw [htp]; rfl), hfault⟩

/-! ### Test pulses of the outputs (R356) -/

/-- The pins of the outputs as they are shown. -/
theorem State.safShow_pins (s : State) : s.safShow.get Reg.SAF_OUT_STATE_A0 = boolNat (s.safPin 0 false) ∧
    s.safShow.get Reg.SAF_OUT_STATE_B0 = boolNat (s.safPin 0 true) ∧ s.safShow.get Reg.SAF_OUT_STATE_A1 = boolNat (s.safPin 1 false) ∧
    s.safShow.get Reg.SAF_OUT_STATE_B1 = boolNat (s.safPin 1 true) := by
  have hlater (f : Fld) (hf : f.id ∉ (safFaultFields ++ safInfoFields ++ safConnFields).map (·.id)) :
      s.safShow.get f = s.showIns.showOuts.get f := by
    rw [State.safShow_eq]
    refine ((((State.showFaults_only _).mono ?_).trans ((State.showInfo_only _).mono ?_)).trans ((State.showConns_only _).mono ?_)).2 f 0 0 hf
    all_goals
      intro g hg
      simp only [List.mem_append]
      tauto
  have hpin (k : Nat) (b : Bool) : s.showIns.safPin k b = s.safPin k b := (congrArg (State.safPin · k b) s.showIns_only.1 :)
  have hbit (b : Bool) : trunc 1 (boolNat b) = boolNat b := by cases b <;> rfl
  rw [hlater _ (by decide), hlater _ (by decide), hlater _ (by decide), hlater _ (by decide)]
  rw [← hpin, ← hpin, ← hpin, ← hpin]
  generalize s.showIns = u
  rw [← hbit (u.safPin 0 false), ← hbit (u.safPin 0 true), ← hbit (u.safPin 1 false), ← hbit (u.safPin 1 true)]
  refine ⟨?_, ?_, ?_, ?_⟩
  all_goals
    show State.get (State.putB (State.putB (State.putB (State.putB (State.putB (State.putB (State.putB (State.putB u _ _) _ _) _ _) _ _) _ _) _ _) _ _) _ _) _ = _
    simp (disch := decide) only [State.putB, State.get_put_of_id, State.get_put_self]
    rfl

end

end Sys2Proof.Machine
end

/-! ## Commands of the safety block -/

section
namespace Sys2Proof.Machine

section
variable {s : State} {out chan per val : Nat}

/-- Pin A (`chan` 0) or B of output `out` begins its off-pulse. -/
def State.pinOff (s : State) (out chan : Nat) : State :=
  s.setSafOut out (if chan = 0 then { s.safOut out with a := { pulse := some 0 } } else { s.safOut out with b := { pulse := some 0 } })

theorem exec_outputTestPulse (hout : out < 2) (hchan : chan < 2) : exec (.outputTestPulse out chan) s = .next
    (if s.safeOn out && s.safRuns && decide (0 < s.saf.n) &&
        (s.saf.n - 1) % s.oppStrobes out == chan * (s.oppStrobes out / 2) + out * (s.oppStrobes out / 4) then (s.pinOff out chan).safShow
      else s) := by
  have hok : (decide (out < 2) && decide (chan < 2)) = true := by simp [hout, hchan]
  show need _ _ = _
  rw [hok, need_true]
  rfl

/-- The pin is off, whatever its output. -/
theorem State.pinOff_pin (hout : out < s.saf.outs.length) (hchan : chan < 2) : (s.pinOff out chan).safPin out (chan == 1) = false := by
  have hnew : (s.pinOff out chan).safOut out = _ := State.safOut_setSafOut_of_lt hout
  rw [State.safPin, hnew]
  interval_cases chan <;> exact Bool.and_false _

/-- The field that shows a pin. -/
def pinField (out chan : Nat) : Fld :=
  if out = 0 then if chan = 0 then Reg.SAF_OUT_STATE_A0 else Reg.SAF_OUT_STATE_B0
  else if chan = 0 then Reg.SAF_OUT_STATE_A1 else Reg.SAF_OUT_STATE_B1

theorem State.safShow_pin (s : State) (hout : out < 2) (hchan : chan < 2) :
    s.safShow.get (pinField out chan) = boolNat (s.safPin out (chan == 1)) := by
  obtain ⟨ha0, hb0, ha1, hb1⟩ := s.safShow_pins
  interval_cases out <;> interval_cases chan
  · exact ha0
  · exact hb0
  · exact ha1
  · exact hb1

/-- An output test pulse at its strobe switches one pin off (R356). -/
theorem outputTestPulse_pulses (hout : out < 2) (hchan : chan < 2) (hlen : s.saf.outs.length = 2) (hn : 0 < s.saf.n) (hruns : s.safRuns = true)
    (hon : s.safeOn out = true) (hat : (s.saf.n - 1) % s.oppStrobes out = chan * (s.oppStrobes out / 2) + out * (s.oppStrobes out / 4)) :
    Does (.outputTestPulse out chan) s fun t => t.saf = (s.pinOff out chan).saf ∧ t.safPin out (chan == 1) = false ∧
      t.get (pinField out chan) = 0 ∧ t = { s with regs := t.regs, saf := t.saf } := by
  have hpin : (s.pinOff out chan).safPin out (chan == 1) = false := State.pinOff_pin (hlen ▸ hout) hchan
  refine .of_next (exec_outputTestPulse hout hchan) ?_
  rw [if_pos (by simp [hon, hruns, hn, hat])]
  have hshown := (s.pinOff out chan).safShow_pin hout hchan
  have hsame := (s.pinOff out chan).safShow_only.1
  have hsaf := (s.pinOff out chan).safShow_saf
  generalize (s.pinOff out chan).safShow = t at *
  have hpin' : t.safPin out (chan == 1) = (s.pinOff out chan).safPin out (chan == 1) := (congrArg (State.safPin · out (chan == 1)) hsame :)
  refine ⟨hsaf, hpin'.trans hpin, by rw [hshown, hpin]; rfl, ?_⟩
  rw [hsaf]
  exact hsame

theorem outputTestPulse_of_other (hout : out < 2) (hchan : chan < 2)
    (hnot : s.safeOn out = false ∨ (s.saf.n - 1) % s.oppStrobes out ≠ chan * (s.oppStrobes out / 2) + out * (s.oppStrobes out / 4)) :
    Does (.outputTestPulse out chan) s fun t => t = s := by
  refine .of_next (exec_outputTestPulse hout hchan) (if_neg ?_)
  rcases hnot with h | h <;> simp [h]

/-- A write of SAF_REQ (R354). -/
theorem safReq_takes (hr : s.responds 0x1D001C = true) : Does (.safReq val) s fun t =>
    t.get Reg.SAF_REQ_ON = bits val 0 2 ∧ RegsOnly [Reg.SAF_REQ_ON] s t := by
  have hlt : bits val 0 2 < 2 ^ 2 := Nat.mod_lt _ (by decide)
  refine .of_next (congrArg Host.Outcome.next (State.bar_of_responds hr _)) ⟨?_, .put _ _ _ _ _ (by simp)⟩
  rw [State.get_put_self]
  exact trunc_of_lt hlt

/-- SAF_CNT_CLR clears the counters of the block. -/
theorem safCntClr_clears (hr : s.responds 0x1D01C8 = true) : Does .safCntClr s fun t =>
    t.get Reg.SAF_DISC_SHORT_COUNT 2 = 0 ∧ t.get Reg.SAF_CONN_OK_COUNT 0 3 = 0 ∧
    RegsOnly [Reg.SAF_DISC_SHORT_COUNT, Reg.SAF_CONN_OK_COUNT, Reg.SAF_CONN_DUP_COUNT, Reg.SAF_CONN_LOST_COUNT, Reg.SAF_CONN_BAD_COUNT] s t := by
  refine .of_next (congrArg Host.Outcome.next (State.bar_of_responds hr _)) ⟨?_, ?_, rfl, .clearFields _ (fun _ h => h) (.refl _ s)⟩
  · exact State.get_clearFields_self _ _ _ _ _ (by decide)
  · exact State.get_clearFields_self _ _ _ _ _ (by decide)

/-! ### SAF_ACK (R358, R519) -/

theorem exec_safAck (hbit : val.testBit 0 = true) (hr : s.responds 0x1D0018 = true) : exec (.safAck val) s = .next s.ackWrite := by
  show need (bit val 0) _ = _
  rw [bit, hbit, need_true, State.bar_of_responds hr]

/-- The guarded write of SAF_ACK. -/
def State.ackGuarded (s : State) : State := s.guarded 1 0x1D0018 0 1 1 [2, 3] 0

/-- A SAF_ACK by Operator or Safety waits for the next strobe, and its entry for the log. -/
theorem State.ackWrite_of_role (hrole : s.role = 2 ∨ s.role = 3) (hlive : s.sessionLive) (hq : s.aud.queue.length < 32) :
    s.ackWrite = s.ackGuarded.setSaf { s.ackGuarded.saf with ack := true } := by
  have hroles : [2, 3].contains s.role = true := by rcases hrole with h | h <;> simp [h]
  simp only [State.ackWrite, State.guardedIn, State.idleClose_of_live hlive, hroles, hq, decide_true, Bool.and_true, beq_self_eq_true,
    Bool.not_true, State.cond_true, State.cond_false]
  rfl

theorem safAck_waits (hbit : val.testBit 0 = true) (hr : s.responds 0x1D0018 = true) (hrole : s.role = 2 ∨ s.role = 3)
    (hlive : s.sessionLive) (hq : s.aud.queue.length < 32) : Does (.safAck val) s fun t =>
      t.saf = { s.saf with ack := true } ∧ t.aud.queue.length = s.aud.queue.length + 1 ∧
      Only [Reg.GEN_AUD_STATUS_PEND] s t { s with regs := t.regs, aud := t.aud, saf := t.saf, sess := { s.sess with lastWrite := s.dtRef } } := by
  have hroles : [2, 3].contains s.role = true := by rcases hrole with h | h <;> simp [h]
  refine .of_next ((exec_safAck hbit hr).trans (congrArg _ (State.ackWrite_of_role hrole hlive hq))) ?_
  obtain ⟨haud, ⟨hsame, honly⟩, -⟩ : Waits 1 0x1D0018 0 1 1 0 s s.ackGuarded := State.guarded_waits hlive hroles hq
  generalize s.ackGuarded = t at *
  have hsaf : t.saf = s.saf := (congrArg State.saf hsame :)
  refine ⟨?_, ?_, ?_, honly.trans (.of_regs rfl)⟩
  · rw [hsaf]
    rfl
  · show t.aud.queue.length = _
    rw [haud]
    exact List.length_append
  · rw [hsame]
    rfl

/-- A SAF_ACK by another role is refused. -/
theorem State.ackWrite_of_other (h2 : s.role ≠ 2) (h3 : s.role ≠ 3) (hlive : s.sessionLive) :
    s.ackWrite = s.ackGuarded.put Reg.SAF_INT_REFUSED 1 := by
  have hroles : [2, 3].contains s.role = false := by simp [h2, h3]
  simp only [State.ackWrite, State.guardedIn, State.idleClose_of_live hlive, hroles, Bool.false_and, Bool.not_false, State.cond_true,
    State.cond_false]
  rfl

theorem safAck_refused (hbit : val.testBit 0 = true) (hr : s.responds 0x1D0018 = true) (h2 : s.role ≠ 2) (h3 : s.role ≠ 3)
    (hlive : s.sessionLive) : Does (.safAck val) s fun t => t.saf = s.saf ∧ t.get Reg.SAF_INT_REFUSED = 1 ∧ t.get Reg.GEN_INT_REFUSED = 1 ∧
      Only ([Reg.SAF_INT_REFUSED, Reg.GEN_INT_REFUSED] ++ auditFields) s t { s with regs := t.regs, aud := t.aud } := by
  have hroles : [2, 3].contains s.role = false := by simp [h2, h3]
  refine .of_next ((exec_safAck hbit hr).trans (congrArg _ (State.ackWrite_of_other h2 h3 hlive))) ?_
  obtain ⟨hint, ⟨hsame, honly⟩, -⟩ : RefusedWrite 1 1 0x1D0018 0 1 s s.ackGuarded := State.guarded_refused hlive hroles
  generalize s.ackGuarded = t at *
  have hsaf : t.saf = s.saf := (congrArg State.saf hsame :)
  refine ⟨hsaf, State.get_put_self .., (State.get_put_of_id _ _ _ _ _ _ _ _ (by decide)).trans hint, ?_, ?_⟩
  · rw [hsame]
    rfl
  · exact .put _ _ _ _ (.head _) (honly.mono fun _ h => .tail _ h)

end

/-- Settles O38: safe outputs at a strobe, their read-back, acknowledgement and test pulses. -/
theorem safetyOutputs : Obligations.SafetyOutputs := by
  unfold Obligations.SafetyOutputs
  refine ⟨fun a b rb k d s hk hruns => safetyStrobe_switches hk hruns, fun a b rb k d s hk hruns hlen => safetyStrobe_restarts hk hruns hlen,
    fun a b rb k d s hk hruns hlen hno hrb hon hpulse hlo => ?_, fun a b rb k d s hk hruns hlen hno hrb hoff hhi => ?_,
    fun a b rb k w d s hk hruns hlen hno hrb hon hw hpulse => ?_, fun out chan per s hout hchan hlen hn hruns hper => ?_,
    fun k s hk hruns => strobeLoss_stops hk hruns, fun a b rb k s hk hruns hdiffer => safetyStrobe_differ hk hruns hdiffer,
    fun val s hr => safReq_takes hr, fun val s hbit hr => ⟨safAck_waits hbit hr, safAck_refused hbit hr⟩, fun s hr => safCntClr_clears hr⟩
  · rw [State.safeOn_of_runs hruns] at hon
    exact safetyStrobe_readBack hk hruns hlen hno (.inr rfl) (State.mem_pinFaults_low hrb hon hpulse hlo)
  · rw [State.safeOn_of_runs hruns] at hoff
    obtain ⟨t, ht, hfault, hout, -⟩ :=
      safetyStrobe_readBack (a := a) (b := b) (d := d) hk hruns hlen hno (.inl rfl) (State.mem_pinFaults_high hrb hoff hhi)
    exact ⟨t, ht, hfault, hout⟩
  · rw [State.safeOn_of_runs hruns] at hon
    obtain ⟨t, ht, hfault, hout, -⟩ :=
      safetyStrobe_readBack (a := a) (b := b) (d := d) hk hruns hlen hno (.inl rfl) (State.mem_pinFaults_pulse hrb hon hw hpulse)
    exact ⟨t, ht, hfault, hout⟩
  · subst hper
    exact ⟨outputTestPulse_pulses hout hchan hlen hn hruns, outputTestPulse_of_other hout hchan⟩

end Sys2Proof.Machine
end

/-! ## Ports of Lantern Link -/

section
namespace Sys2Proof.Machine

/-! ### A port in the list of ports -/

section
variable {s t u : State} {p q : Nat} {x y : LPort}

theorem State.lport_setLport_self (hp : p < s.lnk.port.length) : (s.setLport p x).lport p = x := by
  simp [State.lport, State.setLport, List.getD_eq_getElem?_getD, hp]

theorem State.lport_setLport_of_ne (h : q ≠ p) : (s.setLport p x).lport q = s.lport q := by
  simp [State.lport, State.setLport, List.getD_eq_getElem?_getD, List.getElem?_set_ne (Ne.symm h)]

theorem State.setLport_lport (hp : p < s.lnk.port.length) : s.setLport p (s.lport p) = s := by
  simp [State.setLport, State.lport, List.getD_eq_getElem?_getD, List.getElem?_eq_getElem hp]

@[simp] theorem State.setLport_setLport (s : State) (p : Nat) (x y : LPort) : (s.setLport p x).setLport p y = s.setLport p y := by
  simp [State.setLport]

theorem State.setLport_length (s : State) (p : Nat) (x : LPort) : (s.setLport p x).lnk.port.length = s.lnk.port.length := List.length_set

/-! ### What an operation on port `p` leaves -/

/-- The step from `s` to `t` makes port `p` into `x`, and changes register fields of `l` and lanes beside it. -/
structure PortOnly (l : List Fld) (p : Nat) (x : LPort) (s t : State) : Prop where
  kept : t = { s with regs := t.regs, lnk := { s.lnk with port := s.lnk.port.set p x, lane := t.lnk.lane } }
  only : OnlyFields l s t

variable {l : List Fld}

theorem PortOnly.port (h : PortOnly l p x s t) : t.lnk.port = s.lnk.port.set p x := (congrArg (fun v : State => v.lnk.port) h.kept :)

theorem PortOnly.length (h : PortOnly l p x s t) : t.lnk.port.length = s.lnk.port.length := by rw [h.port, List.length_set]

theorem PortOnly.lport_self (h : PortOnly l p x s t) (hp : p < s.lnk.port.length) : t.lport p = x := by
  simp [State.lport, h.port, List.getD_eq_getElem?_getD, hp]

theorem PortOnly.lport_of_ne (h : PortOnly l p x s t) (hq : q ≠ p) : t.lport q = s.lport q := by
  simp [State.lport, h.port, List.getD_eq_getElem?_getD, List.getElem?_set_ne (Ne.symm hq)]

theorem PortOnly.trans (h : PortOnly l p x s t) (h' : PortOnly l p y t u) : PortOnly l p y s u := by
  refine ⟨?_, h.only.trans h'.only⟩
  rw [h'.kept, h.kept]
  simp

theorem PortOnly.mono {l' : List Fld} (h : PortOnly l p x s t) (hl : ∀ f ∈ l, f ∈ l') : PortOnly l' p x s t := ⟨h.kept, h.only.mono hl⟩

theorem PortOnly.setLport (l : List Fld) (s : State) (p : Nat) (x : LPort) : PortOnly l p x s (s.setLport p x) := ⟨rfl, .of_regs rfl⟩

/-- Registers and lanes alone change; the port stays as it is. -/
theorem PortOnly.of_same (hp : p < s.lnk.port.length)
    (hkept : t = { s with regs := t.regs, lnk := { s.lnk with lane := t.lnk.lane } }) (honly : OnlyFields l s t) : PortOnly l p (s.lport p) s t := by
  refine ⟨?_, honly⟩
  have hset : s.lnk.port.set p (s.lport p) = s.lnk.port := (congrArg (fun v : State => v.lnk.port) (State.setLport_lport hp) :)
  rw [hset, hkept]

theorem PortOnly.dtRef (h : PortOnly l p x s t) : t.dtRef = s.dtRef := (congrArg State.dtRef h.kept :)

theorem PortOnly.lstate (h : PortOnly l p x s t) (hl : Reg.LNK_Pp_STATUS_STATE.id ∉ l.map (·.id)) (q : Nat) : t.lstate q = s.lstate q :=
  h.only _ q 0 hl

theorem PortOnly.lupLow (h : PortOnly l p x s t) (hl : Reg.LNK_Pp_STATUS_STATE.id ∉ l.map (·.id)) (q : Nat) : t.lupLow q = s.lupLow q := by
  rw [State.lupLow, h.lstate hl, State.lupLow]

theorem PortOnly.lup (h : PortOnly l p x s t) (hl : Reg.LNK_Pp_STATUS_STATE.id ∉ l.map (·.id)) (q : Nat) : t.lup q = s.lup q := by
  rw [State.lup, h.lstate hl, State.lup]

/-! ### Sending a frame -/

/-- A port once a frame with the words `w` is out. -/
def LPort.wrote (x : LPort) (w : List Nat) : LPort :=
  { x with sent := w, idleFirst := false, bulk := { x.bulk with nak := false }, pri := { x.pri with nak := false } }

theorem State.portSend_kept (s : State) (p : Nat) (w : List Nat) :
    s.portSend p w = { s with lnk := { s.lnk with lane := (s.portSend p w).lnk.lane } } := by
  refine State.each_keeps (P := fun u => u = { s with lnk := { s.lnk with lane := u.lnk.lane } }) (fun u a h => ?_) _ rfl
  rw [h]
  rfl

theorem State.lsend_only (s : State) (p : Nat) (f : LFrame) :
    PortOnly [] p ((s.lport p).wrote (f.wordsWith (s.trailerLow p))) s (s.lsend p f) := by
  unfold State.lsend
  extract_lets w
  have h := s.portSend_kept p (if (s.lport p).idleFirst then [0, 0] ++ w else w)
  generalize s.portSend p (if (s.lport p).idleFirst then [0, 0] ++ w else w) = v at h
  have hport : v.lport p = s.lport p := (congrArg (State.lport · p) h :)
  refine ⟨?_, .of_regs ?_⟩
  · rw [State.lsent, hport]
    rw [h]
    rfl
  · rw [h]
    rfl

theorem State.lsend_regs (s : State) (p : Nat) (f : LFrame) : (s.lsend p f).regs = s.regs := by
  unfold State.lsend
  extract_lets w
  have h := s.portSend_kept p (if (s.lport p).idleFirst then [0, 0] ++ w else w)
  generalize s.portSend p (if (s.lport p).idleFirst then [0, 0] ++ w else w) = v at h
  exact (congrArg State.regs h :)

/-! ### Nothing to send -/

/-- A port without credit takes no frame. -/
theorem State.feedPort_of_noCredit (h : (s.lport p).credit = 0) : s.feedPort p = s := by
  have hno : s.canTake p = false := by simp [State.canTake, h]
  show State.feedLoop (511 + 1) s p = s
  rw [State.feedLoop, if_neg (ne_true_of_eq_false hno)]

/-- A port that holds no frame restarts its timers with the next one. -/
def LPort.rested (x : LPort) (now : Nat) : LPort :=
  { x with bulk := { x.bulk with since := now }, pri := { x.pri with since := now }, progress := now, waitAt := now }

/-- The port's frames: none that waits or awaits an acknowledgement. -/
def LPort.idle (x : LPort) : Prop := x.bulk.kept = [] ∧ x.bulk.wait = [] ∧ x.pri.kept = [] ∧ x.pri.wait = []

/-- The fields that show a port's outstanding frames. -/
def outstFields : List Fld := [Reg.LNK_Pp_OUTST_BULK, Reg.LNK_Pp_OUTST_PEAK]

theorem State.showOutst_only (s : State) (p : Nat) : RegsOnly outstFields s (s.showOutst p) :=
  (RegsOnly.put _ _ _ _ _ (by decide)).trans (.put _ _ _ _ _ (by decide))

theorem PortOnly.showOutst (h : PortOnly l p x s t) (hl : ∀ f ∈ outstFields, f ∈ l) : PortOnly l p x s (t.showOutst p) := by
  obtain ⟨hkept, honly⟩ := t.showOutst_only p
  refine ⟨?_, h.only.trans (honly.mono hl)⟩
  rw [hkept, h.kept]

theorem State.lpump_idle (hup : s.lupLow p = true) (hidle : (s.lport p).idle) :
    s.lpump p = (s.setLport p ((s.lport p).rested s.dtRef)).showOutst p := by
  obtain ⟨hbk, hbw, hpk, hpw⟩ := hidle
  rw [State.lpump, if_pos hup]
  simp only [LPort.rested, hbk, hbw, hpk, hpw, List.length_nil, LClass.drain, List.isEmpty_nil, Bool.and_self, if_true]
  cases s.lup p
  all_goals
    simp only [State.sentNow, hbk, hpk, hbw, List.length_nil, List.drop_nil, State.each_nil, if_true, if_false, Bool.false_eq_true]

/-! ### Receiving a good frame on an idle port -/

/-- The port once the trailer of a good frame, which grants no credit, has been heeded. -/
def LPort.heeded (x : LPort) (now : Nat) : LPort := { x with deaf := false, credit := 0 }.rested now

/-- A trailer that acknowledges nothing, asks for nothing and grants no credit leaves an idle port idle (R385, R388). -/
theorem State.heedTrailer_idle {tr : Trailer} (hp : p < s.lnk.port.length) (hup : s.lupLow p = true) (hidle : (s.lport p).idle)
    (hb : tr.bnak = false) (hr : tr.pnak = false) (hc : tr.credit = 0) :
    PortOnly outstFields p ({ s.lport p with credit := 0 }.rested s.dtRef) s (s.heedTrailer p tr) := by
  obtain ⟨hbk, hbw, hpk, hpw⟩ := hidle
  have hack (c : LClass) (hk : c.kept = []) (seq now : Nat) : c.ack seq now = (c, false) := by
    rw [LClass.ack, hk]
    rfl
  unfold State.heedTrailer
  extract_lets x b r moved x1 s1 s2
  have hb1 : b = ((s.lport p).bulk, false) := hack _ hbk _ _
  have hr1 : r = ((s.lport p).pri, false) := hack _ hpk _ _
  have hx1 : { x1 with idleFirst := x1.idleFirst || tr.bnak || tr.pnak } = { s.lport p with credit := 0 } := by
    simp only [x1, moved, hb1, hr1, hb, hr, hc, hbk, Bool.or_false, Nat.zero_mul, Nat.zero_sub, Bool.false_eq_true, if_false]
    rfl
  have h1 : PortOnly outstFields p { s.lport p with credit := 0 } s s1 := by
    refine .showOutst ?_ fun _ h => h
    rw [hx1]
    exact .setLport _ _ _ _
  have h2 : s2 = s1 := by
    simp only [s2, hb, hr, State.cond_false]
  rw [h2]
  have hport := h1.lport_self hp
  have hpump : s1.lpump p = (s1.setLport p ((s1.lport p).rested s1.dtRef)).showOutst p :=
    State.lpump_idle ((h1.lupLow (by decide) p).trans hup) (by rw [hport]; exact ⟨hbk, hbw, hpk, hpw⟩)
  rw [hport, h1.dtRef] at hpump
  have h3 : PortOnly outstFields p ({ s.lport p with credit := 0 }.rested s.dtRef) s1 (s1.lpump p) := by
    rw [hpump]
    exact .showOutst (.setLport _ _ _ _) fun _ h => h
  have h4 := h1.trans h3
  rw [State.feedPort_of_noCredit (by rw [h4.lport_self hp]; rfl)]
  exact h4

/-- A good frame that arrives on an idle port meets the port with its trailer heeded. -/
theorem State.lrecv_idle {f : LFrame} {tr : Trailer} (act : State → State) (hp : p < s.lnk.port.length) (hup : s.lupLow p = true)
    (hdeaf : (s.lport p).deaf = false) (hidle : (s.lport p).idle) (hb : tr.bnak = false) (hr : tr.pnak = false) (hc : tr.credit = 0)
    (hgood : f.good tr = true) :
    ∃ u, PortOnly outstFields p ((s.lport p).heeded s.dtRef) s u ∧ s.lrecv p f tr act = act u := by
  have hset : s.setLport p { s.lport p with deaf := false } = s := by
    have hsame : { s.lport p with deaf := false } = s.lport p := by rw [← hdeaf]
    rw [hsame, State.setLport_lport hp]
  refine ⟨s.heedTrailer p tr, ?_, ?_⟩
  · have h := State.heedTrailer_idle hp hup hidle hb hr hc
    rwa [show (s.lport p).heeded s.dtRef = { s.lport p with credit := 0 }.rested s.dtRef by rw [LPort.heeded, ← hdeaf]]
  · simp only [State.lrecv, hup, hdeaf, Bool.false_and, hset, hgood, if_true, Bool.false_eq_true, if_false]

end

end Sys2Proof.Machine
end

/-! ## Sequenced frames, flares and low power of a port -/

section
namespace Sys2Proof.Machine

section
variable {s t u : State} {p q seq : Nat} {x y : LPort} {l : List Fld}

/-! ### A frame that is next in its class (R388) -/

/-- The port once the class `pri` has taken its next frame. -/
def LPort.accepted (x : LPort) (pri : Bool) : LPort :=
  if pri then { x with pri := { x.pri with rx := (x.pri.rx + 1) % 2 ^ 8, nak := false } }
  else { x with bulk := { x.bulk with rx := (x.bulk.rx + 1) % 2 ^ 16, nak := false } }

/-- The next SEQ of the class `pri`. -/
def LPort.nextRx (x : LPort) (pri : Bool) : Nat := if pri then x.pri.rx else x.bulk.rx

/-- The next frame of its class is accepted and acknowledged. -/
theorem State.lseq_next (pri : Bool) (f : State → State) (hp : p < s.lnk.port.length) (hseq : seq = (s.lport p).nextRx pri) :
    ∃ w v, PortOnly [] p (((s.lport p).accepted pri).wrote w) s v ∧ s.lseq p pri seq f = f v := by
  have hsend := (s.setLport p ((s.lport p).accepted pri)).lsend_only p (ctrlFrame 1 0)
  rw [State.lport_setLport_self hp] at hsend
  refine ⟨_, _, (PortOnly.setLport [] s p _).trans hsend, ?_⟩
  have haccept (c : LClass) (w : Nat) : c.accept c.rx w = ({ c with rx := (c.rx + 1) % 2 ^ w, nak := false }, true) := if_pos rfl
  cases pri
  · subst hseq
    simp only [State.lseq, LPort.nextRx, haccept, Bool.false_eq_true, if_false, if_true]
    rfl
  · subst hseq
    simp only [State.lseq, LPort.nextRx, haccept, if_true]
    rfl

/-! ### A frame handed to a port -/

theorem PortOnly.sentNow (h : PortOnly l p x s t) (hp : p < s.lnk.port.length) (old new : LClass) :
    ∃ w, PortOnly l p w s (t.sentNow p old new) ∧ w.pri.kept = x.pri.kept := by
  refine State.each_keeps (P := fun u => ∃ w, PortOnly l p w s u ∧ w.pri.kept = x.pri.kept) (fun u a hu => ?_) _ ⟨x, h, rfl⟩
  obtain ⟨w, hw, hkept⟩ := hu
  refine ⟨_, hw.trans ((u.lsend_only p a.frame).mono nofun), ?_⟩
  rw [hw.lport_self hp]
  exact hkept

/-- The priority frames a port keeps once it has sent what waits (R387, R388). -/
theorem State.lpump_sends (hp : p < s.lnk.port.length) (hup : s.lupLow p = true) : ∃ w, PortOnly outstFields p w s (s.lpump p) ∧
    w.pri.kept = ((s.lport p).pri.drain priMax 8 (s.lport p).pri.wait.length priMax).1.kept := by
  rw [State.lpump, if_pos hup]
  extract_lets x idle pri pri' r _ bulk y
  obtain ⟨w1, h1, hk1⟩ := (PortOnly.setLport outstFields s p y).sentNow hp x.pri pri'
  obtain ⟨w2, h2, hk2⟩ := h1.sentNow hp x.bulk bulk
  refine ⟨w2, h2.showOutst fun _ h => h, hk2.trans (hk1.trans ?_)⟩
  show (if x.pri.kept.isEmpty then { pri with since := s.dtRef } else pri).kept = pri.kept
  split <;> rfl

/-- What a port sends changes the port and what shows it. -/
theorem State.lpump_only (s : State) (hp : p < s.lnk.port.length) : ∃ w, PortOnly outstFields p w s (s.lpump p) := by
  by_cases hup : s.lupLow p = true
  · obtain ⟨w, hw, -⟩ := State.lpump_sends hp hup
    exact ⟨w, hw⟩
  · rw [State.lpump, if_neg hup]
    exact ⟨s.lport p, .of_same hp rfl (.refl _ s)⟩

/-- The frames that wait with one more: those of its kind and the ones of lower kinds go first. -/
def enqueued (l : List LTx) (f : LFrame) : List LTx :=
  let before (t : LTx) : Bool := t.frame.ty ≤ f.ty
  l.takeWhile before ++ { frame := f } :: l.dropWhile before

/-- A port with one more frame of the priority class. -/
def LPort.queued (x : LPort) (f : LFrame) : LPort := { x with pri := { x.pri with wait := enqueued x.pri.wait f } }

theorem State.lpri_eq (s : State) (p : Nat) (f : LFrame) : s.lpri p f = (s.setLport p ((s.lport p).queued f)).lpump p := rfl

theorem State.lpri_only (s : State) (f : LFrame) (hp : p < s.lnk.port.length) : ∃ w, PortOnly outstFields p w s (s.lpri p f) := by
  have h := PortOnly.setLport outstFields s p ((s.lport p).queued f)
  rw [State.lpri_eq]
  generalize s.setLport p ((s.lport p).queued f) = v at h
  obtain ⟨w, hw⟩ := v.lpump_only (h.length ▸ hp)
  exact ⟨w, h.trans hw⟩

/-- A frame of the priority class handed to an idle port goes out at once. -/
theorem State.lpri_idle (f : LFrame) (hp : p < s.lnk.port.length) (hup : s.lup p = true) (hidle : (s.lport p).idle) :
    ((s.lpri p f).lport p).pri.kept.map (·.frame.ty) = [f.ty] := by
  obtain ⟨-, -, hpk, hpw⟩ := hidle
  have hlow : s.lupLow p = true := by
    rw [State.lup, beq_iff_eq] at hup
    simp [State.lupLow, hup]
  have h := PortOnly.setLport outstFields s p ((s.lport p).queued f)
  rw [State.lpri_eq]
  generalize s.setLport p ((s.lport p).queued f) = v at h
  obtain ⟨w, hw, hkept⟩ := State.lpump_sends (h.length ▸ hp) ((h.lupLow (by decide) p).trans hlow)
  rw [hw.lport_self (h.length ▸ hp), hkept, h.lport_self hp]
  simp [LPort.queued, enqueued, hpw, hpk, LClass.drain, priMax]

/-! ### Flares go on (R395) -/

/-- Ports, lanes and register fields of `l` alone change from `s` to `t`. -/
structure PortsOnly (l : List Fld) (s t : State) : Prop where
  kept : t = { s with regs := t.regs, lnk := { s.lnk with port := t.lnk.port, lane := t.lnk.lane } }
  only : OnlyFields l s t
  length : t.lnk.port.length = s.lnk.port.length

theorem PortsOnly.refl (l : List Fld) (s : State) : PortsOnly l s s := ⟨rfl, .refl l s, rfl⟩

theorem PortsOnly.trans (h : PortsOnly l s t) (h' : PortsOnly l t u) : PortsOnly l s u := by
  refine ⟨?_, h.only.trans h'.only, h'.length.trans h.length⟩
  rw [h'.kept, h.kept]

theorem PortOnly.ports (h : PortOnly l p x s t) : PortsOnly l s t := by
  refine ⟨?_, h.only, h.length⟩
  rw [h.port]
  exact h.kept

/-- Frames handed to ports of a list change those ports alone. -/
theorem State.spread_only (f : LFrame) (l : List Nat) (s : State) (hl : ∀ p ∈ l, p < s.lnk.port.length) :
    PortsOnly outstFields s (s.each l fun s p => s.lpri p f) ∧ ∀ q ∉ l, (s.each l fun s p => s.lpri p f).lport q = s.lport q := by
  induction l generalizing s with
  | nil => exact ⟨.refl _ s, fun _ _ => rfl⟩
  | cons a l ih =>
    obtain ⟨w, hw⟩ := s.lpri_only f (hl a (.head _))
    obtain ⟨hports, hother⟩ := ih (s.lpri a f) fun p hp => by rw [hw.length]; exact hl p (.tail _ hp)
    refine ⟨hw.ports.trans hports, fun q hq => ?_⟩
    obtain ⟨hqa, hql⟩ := not_or.1 (mt List.mem_cons.2 hq)
    exact (hother q hql).trans (hw.lport_of_ne hqa)

/-- The frames of a list of different ports each leave on theirs. -/
theorem State.spread_kept (f : LFrame) (l : List Nat) (hnd : l.Nodup) (hl : ∀ p ∈ l, p < s.lnk.port.length) (hq : q ∈ l) (hup : s.lup q = true)
    (hidle : (s.lport q).idle) : ((s.each l fun s p => s.lpri p f).lport q).pri.kept.map (·.frame.ty) = [f.ty] := by
  induction l generalizing s with
  | nil => cases hq
  | cons a l ih =>
    obtain ⟨hna, hnd⟩ := List.nodup_cons.1 hnd
    obtain ⟨w, hw⟩ := s.lpri_only f (hl a (.head _))
    have hl' : ∀ p ∈ l, p < (s.lpri a f).lnk.port.length := fun p hp => by rw [hw.length]; exact hl p (.tail _ hp)
    rw [State.each_cons]
    rcases List.mem_cons.1 hq with rfl | hq
    · rw [(State.spread_only f l _ hl').2 q hna]
      exact State.lpri_idle f (hl q (.head _)) hup hidle
    · have hne : q ≠ a := fun h => hna (h ▸ hq)
      exact ih hnd hl' hq ((hw.lup (by decide) q).trans hup) (by rw [hw.lport_of_ne hne]; exact hidle)

/-- The ports a received flare goes on to. -/
def State.flarePorts (s : State) (except : Option Nat) : List Nat := (List.range 8).filter fun p => s.lup p && some p != except

theorem State.spreadFlare_only (s : State) (f : Flare) (except : Option Nat) (hlen : s.lnk.port.length = 8) :
    PortsOnly outstFields s (s.spreadFlare f except) :=
  (State.spread_only _ _ s fun p hp => by rw [hlen]; exact List.mem_range.1 (List.mem_filter.1 hp).1).1

theorem State.spreadFlare_kept (f : Flare) (hlen : s.lnk.port.length = 8) (hq : q < 8) (hne : q ≠ p) (hup : s.lup q = true)
    (hidle : (s.lport q).idle) : ((s.spreadFlare f (some p)).lport q).pri.kept.map (·.frame.ty) = [2] := by
  refine State.spread_kept { ty := 2, body := flareBody f } _ (List.nodup_range.filter _) (fun p hp => ?_) ?_ hup hidle
  · rw [hlen]
    exact List.mem_range.1 (List.mem_filter.1 hp).1
  · simp [hq, hup, hne]

end

end Sys2Proof.Machine
end

/-! ## Flares and low power -/

section
namespace Sys2Proof.Machine

/-- Port `p` is trained and holds no frame, and the trailer `tr` neither asks for anything nor grants credit. -/
structure Hears (p : Nat) (tr : Trailer) (s : State) : Prop where
  lt : p < 8
  length : s.lnk.port.length = 8
  up : s.lupLow p = true
  deaf : (s.lport p).deaf = false
  idle : (s.lport p).idle
  bnak : tr.bnak = false
  pnak : tr.pnak = false
  credit : tr.credit = 0

section
variable {s t u : State} {p q seq : Nat} {x y : LPort} {l : List Fld} {tr : Trailer}

theorem Hears.lt_length (h : Hears p tr s) : p < s.lnk.port.length := h.length ▸ h.lt

theorem Hears.lrecv (h : Hears p tr s) {f : LFrame} (hgood : f.good tr = true) (act : State → State) :
    ∃ v, PortOnly outstFields p ((s.lport p).heeded s.dtRef) s v ∧ s.lrecv p f tr act = act v :=
  State.lrecv_idle act h.lt_length h.up h.deaf h.idle h.bnak h.pnak h.credit hgood

/-- A good frame that is next in its class is accepted. -/
theorem Hears.lseq (h : Hears p tr s) (hv : PortOnly outstFields p ((s.lport p).heeded s.dtRef) s t) (pri : Bool) (f : State → State)
    (hseq : seq = (s.lport p).nextRx pri) :
    ∃ w v, PortOnly outstFields p ((((s.lport p).heeded s.dtRef).accepted pri).wrote w) s v ∧ t.lseq p pri seq f = f v := by
  have hport := hv.lport_self h.lt_length
  obtain ⟨w, v, hw, heq⟩ := State.lseq_next (s := t) (seq := seq) pri f (hv.length ▸ h.lt_length) (by
    rw [hport, hseq]
    cases pri <;> rfl)
  rw [hport] at hw
  exact ⟨w, v, hv.trans (hw.mono nofun), heq⟩

/-! ### Flares (R395, R204) -/

/-- A good FLARE frame that is next is taken. -/
theorem Hears.lnkFlareRx (h : Hears p tr s) {body : List Nat} (hgood : ({ ty := 2, seq := seq, body := body } : LFrame).good tr = true)
    (hseq : seq = (s.lport p).pri.rx) :
    ∃ w v, PortOnly outstFields p ((((s.lport p).heeded s.dtRef).accepted true).wrote w) s v ∧
      exec (.lnkFlareRx p seq body tr) s = .next (v.takeFlare p (flareOf body)) := by
  obtain ⟨v, hv, hrecv⟩ := h.lrecv hgood fun s => s.lseq p true seq fun s => s.takeFlare p (flareOf body)
  obtain ⟨w, u, hu, hlseq⟩ := h.lseq hv true (fun s => s.takeFlare p (flareOf body)) hseq
  refine ⟨w, u, hu, ?_⟩
  have hok : decide (p < 8) = true := decide_eq_true h.lt
  show need (decide (p < 8)) _ = _
  rw [hok, need_true, hrecv, hlseq]

variable {f : Flare}

theorem State.takeFlare_of_own (hown : f.ftype = 3 ∨ f.origin = s.moduleId) : s.takeFlare p f = s := if_pos hown

/-- The last FSEQ of the flare's origin is remembered. -/
def State.remember (s : State) (f : Flare) : State := { s with lnk := { s.lnk with seen := s.lnk.seen.set 0 f.origin (f.fseq + 1) } }

theorem State.seen_remember (s : State) (f : Flare) : (s.remember f).lnk.seen.get 0 f.origin = f.fseq + 1 :=
  NMap.get_set_self 0 s.lnk.seen f.origin (f.fseq + 1)

/-- An accepted flare is remembered, presented and sent on. -/
theorem State.takeFlare_of_new (hty : f.ftype ≠ 3) (hor : f.origin ≠ s.moduleId) (hnew : s.lnk.seen.get 0 f.origin = 0 ∨
      (1 ≤ (f.fseq + 65536 - (s.lnk.seen.get 0 f.origin - 1)) % 65536 ∧ (f.fseq + 65536 - (s.lnk.seen.get 0 f.origin - 1)) % 65536 ≤ 32768)) :
    s.takeFlare p f = ((s.remember f).present f).spreadFlare f (some p) := by
  rw [State.takeFlare, if_neg (by simp [hty, hor])]
  exact if_pos hnew

theorem State.takeFlare_of_old {n : Nat} (hty : f.ftype ≠ 3) (hor : f.origin ≠ s.moduleId) (hlast : s.lnk.seen.get 0 f.origin = n + 1)
    (hold : ¬ (1 ≤ (f.fseq + 65536 - n) % 65536 ∧ (f.fseq + 65536 - n) % 65536 ≤ 32768)) :
    s.takeFlare p f = s.lcount Reg.LNK_FLARE_DUP_COUNT := by
  rw [State.takeFlare, if_neg (by simp [hty, hor])]
  simp only [hlast, Nat.add_sub_cancel]
  exact if_neg (by rintro (h | h); exacts [absurd h (Nat.succ_ne_zero n), hold h])

theorem PortOnly.moduleId (h : PortOnly l p x s t) : t.moduleId = s.moduleId := (congrArg State.moduleId h.kept :)

theorem PortOnly.seen (h : PortOnly l p x s t) : t.lnk.seen = s.lnk.seen := (congrArg (fun v : State => v.lnk.seen) h.kept :)

theorem PortOnly.trg (h : PortOnly l p x s t) : t.trg = s.trg := (congrArg State.trg h.kept :)

/-- This module's own flares and those of the reserved type have no effect. -/
theorem lnkFlareRx_own {w0 w1 w2 : Nat} (h : Hears p tr s) (hgood : ({ ty := 2, seq := seq, body := [w0, w1, w2] } : LFrame).good tr = true)
    (hseq : seq = (s.lport p).pri.rx) (hown : bits w0 62 2 = 3 ∨ bits w0 46 12 = s.moduleId) : Does (.lnkFlareRx p seq [w0, w1, w2] tr) s fun t =>
      t.trg = s.trg ∧ t.lnk.seen = s.lnk.seen ∧ t.get Reg.LNK_FLARE_DUP_COUNT = s.get Reg.LNK_FLARE_DUP_COUNT ∧
        (t.lport p).pri.rx = (seq + 1) % 256 := by
  obtain ⟨w, v, hv, heq⟩ := h.lnkFlareRx hgood hseq
  rw [State.takeFlare_of_own (by rw [hv.moduleId]; exact hown)] at heq
  refine .of_next heq ⟨hv.trg, hv.seen, hv.only _ _ _ (by decide), ?_⟩
  rw [hv.lport_self h.lt_length, hseq]
  rfl

/-- A flare that is no newer than the last one of its origin counts as a duplicate. -/
theorem lnkFlareRx_duplicate {w0 w1 w2 n : Nat} (h : Hears p tr s)
    (hgood : ({ ty := 2, seq := seq, body := [w0, w1, w2] } : LFrame).good tr = true) (hseq : seq = (s.lport p).pri.rx)
    (hty : bits w0 62 2 ≠ 3) (hor : bits w0 46 12 ≠ s.moduleId) (hlast : s.lnk.seen.get 0 (bits w0 46 12) = n + 1)
    (hold : ¬ (1 ≤ (bits w0 30 16 + 65536 - n) % 65536 ∧ (bits w0 30 16 + 65536 - n) % 65536 ≤ 32768)) :
    Does (.lnkFlareRx p seq [w0, w1, w2] tr) s fun t => t.trg = s.trg ∧ t.lnk.seen = s.lnk.seen ∧
      t.get Reg.LNK_FLARE_DUP_COUNT = min (2 ^ 32 - 1) (s.get Reg.LNK_FLARE_DUP_COUNT + 1) := by
  obtain ⟨w, v, hv, heq⟩ := h.lnkFlareRx hgood hseq
  rw [State.takeFlare_of_old hty (by rw [hv.moduleId]; exact hor) (by rw [hv.seen]; exact hlast) hold] at heq
  refine .of_next heq ⟨?_, ?_, ?_⟩
  · rw [State.lcount, State.bump_eq]
    exact hv.trg
  · rw [State.lcount, State.bump_eq]
    exact hv.seen
  · rw [State.lcount, State.bump_get _ _ _ _ _ _ _ (by decide), hv.only _ _ _ (by decide)]
    exact Nat.min_comm ..

end

end Sys2Proof.Machine
end

/-! ## New flares -/

section
namespace Sys2Proof.Machine

section
variable {s t u : State} {p q seq : Nat} {x y : LPort} {l : List Fld} {tr : Trailer} {f : Flare}

/-- The fields that count a flare presented without ET. -/
def noTimeFields : List Fld := [Reg.TRG_FLARE_IN_COUNT, Reg.TRG_NOTIME_COUNT, Reg.TRG_INT_CNT_SAT, Reg.TRG_INT_NOTIME]

theorem State.present_of_noTime (h : s.etValid = false) :
    s.present f = ((s.gcount Reg.TRG_FLARE_IN_COUNT).gcount Reg.TRG_NOTIME_COUNT).put Reg.TRG_INT_NOTIME 1 := by
  have hvalid : (s.gcount Reg.TRG_FLARE_IN_COUNT).etValid = false := by
    have honly := (OnlyFields.refl [Reg.TRG_FLARE_IN_COUNT, Reg.TRG_INT_CNT_SAT] s).bump Reg.TRG_FLARE_IN_COUNT Reg.TRG_INT_CNT_SAT 0 0 1 0
      (by simp) (by simp)
    exact (congrArg (· != 0) (honly Reg.TIM_STATUS_ET_VALID 0 0 (by decide))).trans h
  exact if_neg (ne_true_of_eq_false hvalid)

/-- A flare presented without a valid ET is counted twice over and has no other effect. -/
theorem State.present_noTime (h : s.etValid = false) : RegsOnly noTimeFields s (s.present f) ∧
    (s.present f).get Reg.TRG_FLARE_IN_COUNT = min (2 ^ 32 - 1) (s.get Reg.TRG_FLARE_IN_COUNT + 1) ∧
    (s.present f).get Reg.TRG_NOTIME_COUNT = min (2 ^ 32 - 1) (s.get Reg.TRG_NOTIME_COUNT + 1) ∧
    (s.present f).get Reg.TRG_INT_NOTIME = 1 := by
  have h1 : RegsOnly [Reg.TRG_FLARE_IN_COUNT, Reg.TRG_INT_CNT_SAT] s (s.gcount Reg.TRG_FLARE_IN_COUNT) :=
    .bump _ _ _ _ _ _ _ (by simp) (by simp)
  have h2 : RegsOnly [Reg.TRG_NOTIME_COUNT, Reg.TRG_INT_CNT_SAT] (s.gcount Reg.TRG_FLARE_IN_COUNT)
      ((s.gcount Reg.TRG_FLARE_IN_COUNT).gcount Reg.TRG_NOTIME_COUNT) := .bump _ _ _ _ _ _ _ (by simp) (by simp)
  have hin : (s.gcount Reg.TRG_FLARE_IN_COUNT).get Reg.TRG_FLARE_IN_COUNT = min (s.get Reg.TRG_FLARE_IN_COUNT + 1) (2 ^ 32 - 1) :=
    State.bump_get _ _ _ _ _ _ _ (by decide)
  have hno : ((s.gcount Reg.TRG_FLARE_IN_COUNT).gcount Reg.TRG_NOTIME_COUNT).get Reg.TRG_NOTIME_COUNT =
      min ((s.gcount Reg.TRG_FLARE_IN_COUNT).get Reg.TRG_NOTIME_COUNT + 1) (2 ^ 32 - 1) := State.bump_get _ _ _ _ _ _ _ (by decide)
  rw [h1.2 _ _ _ (by decide)] at hno
  rw [State.present_of_noTime h, State.get_put_of_id _ _ _ _ _ _ _ _ (by decide), State.get_put_of_id _ _ _ _ _ _ _ _ (by decide),
    h2.2 _ _ _ (by decide), hin, hno]
  exact ⟨((h1.mono (by decide)).trans (h2.mono (by decide))).trans (.put _ _ _ _ _ (by decide)), Nat.min_comm .., Nat.min_comm ..,
    State.get_put_self ..⟩

/-- The fields that an arm can change. -/
def armFields : List Fld := [Reg.TRG_TMPL_STATUS_STATE, Reg.TRG_TMPL_STATUS_ERR, Reg.TRG_INT_ARM_ERR]

/-- Arming a template leaves Lantern Link and every counter. -/
theorem State.arm_only (s : State) (k at_ : Nat) : (s.arm k at_).lnk = s.lnk ∧ OnlyFields armFields s (s.arm k at_) := by
  unfold State.arm
  extract_lets e
  split
  · unfold State.armFails State.disarm
    extract_lets v
    have hv : OnlyFields armFields s v := .put _ _ _ _ (by decide) (.refl _ s)
    cases v.frm.burst.tmpl == some k && v.frm.burst.trig.isNone
    · exact ⟨rfl, .put _ _ _ _ (by decide) (.put _ _ _ _ (by decide) hv)⟩
    · exact ⟨rfl, .put _ _ _ _ (by decide) (.put _ _ _ _ (by decide) (hv.trans (.of_regs rfl)))⟩
  · exact ⟨rfl, .put _ _ _ _ (by decide) (.put _ _ _ _ (by decide) (.of_regs rfl))⟩

theorem State.arms_only (s : State) (ks : List Nat) (at_ : Nat) :
    (s.each ks fun s k => s.arm k at_).lnk = s.lnk ∧ OnlyFields armFields s (s.each ks fun s k => s.arm k at_) :=
  State.each_keeps (P := fun u => u.lnk = s.lnk ∧ OnlyFields armFields s u)
    (fun u k h => ⟨(u.arm_only k at_).1.trans h.1, h.2.trans (u.arm_only k at_).2⟩) ks ⟨rfl, .refl _ s⟩

/-- A flare that arms is counted as received. -/
theorem State.present_arms (h : s.etValid = true) (hty : f.ftype = 1) : (s.present f).lnk = s.lnk ∧
    (s.present f).get Reg.TRG_FLARE_IN_COUNT = min (2 ^ 32 - 1) (s.get Reg.TRG_FLARE_IN_COUNT + 1) ∧
    (s.present f).get Reg.TRG_NOTIME_COUNT = s.get Reg.TRG_NOTIME_COUNT := by
  have h1 : RegsOnly [Reg.TRG_FLARE_IN_COUNT, Reg.TRG_INT_CNT_SAT] s (s.gcount Reg.TRG_FLARE_IN_COUNT) :=
    .bump _ _ _ _ _ _ _ (by simp) (by simp)
  have hin : (s.gcount Reg.TRG_FLARE_IN_COUNT).get Reg.TRG_FLARE_IN_COUNT = min (s.get Reg.TRG_FLARE_IN_COUNT + 1) (2 ^ 32 - 1) :=
    State.bump_get _ _ _ _ _ _ _ (by decide)
  have hvalid : (s.gcount Reg.TRG_FLARE_IN_COUNT).etValid = true := (congrArg (· != 0) (h1.2 _ 0 0 (by decide))).trans h
  unfold State.present
  extract_lets v at_ ks
  rw [if_pos hvalid, hty]
  obtain ⟨hlnk, honly⟩ := v.arms_only ks at_
  refine ⟨hlnk.trans (congrArg State.lnk h1.1 :), ?_, ?_⟩
  · exact (honly _ _ _ (by decide)).trans (hin.trans (Nat.min_comm ..))
  · exact (honly _ _ _ (by decide)).trans (h1.2 _ _ _ (by decide))

theorem PortsOnly.seen (h : PortsOnly l s t) : t.lnk.seen = s.lnk.seen := (congrArg (fun v : State => v.lnk.seen) h.kept :)

theorem PortsOnly.trg (h : PortsOnly l s t) : t.trg = s.trg := (congrArg State.trg h.kept :)

/-- A new flare that finds no valid ET goes on to the other ports and is only counted here. -/
theorem lnkFlareRx_noTime {w0 w1 w2 : Nat} (h : Hears p tr s) (hgood : ({ ty := 2, seq := seq, body := [w0, w1, w2] } : LFrame).good tr = true)
    (hseq : seq = (s.lport p).pri.rx) (hty : bits w0 62 2 ≠ 3) (hor : bits w0 46 12 ≠ s.moduleId)
    (hlast : s.lnk.seen.get 0 (bits w0 46 12) = 0 ∨ s.lnk.seen.get 0 (bits w0 46 12) = bits w0 30 16) (het : s.etValid = false)
    (hq : q < 8) (hne : q ≠ p) (hup : s.lup q = true) (hidle : (s.lport q).idle) : Does (.lnkFlareRx p seq [w0, w1, w2] tr) s fun t =>
      t.trg = s.trg ∧ t.lnk.seen.get 0 (bits w0 46 12) = bits w0 30 16 + 1 ∧
      t.get Reg.TRG_FLARE_IN_COUNT = min (2 ^ 32 - 1) (s.get Reg.TRG_FLARE_IN_COUNT + 1) ∧
      t.get Reg.TRG_NOTIME_COUNT = min (2 ^ 32 - 1) (s.get Reg.TRG_NOTIME_COUNT + 1) ∧
      t.get Reg.TRG_INT_NOTIME = 1 ∧ (t.lport q).pri.kept.map (fun x => x.frame.ty) = [2] := by
  obtain ⟨w, v, hv, heq⟩ := h.lnkFlareRx hgood hseq
  have hfseq : bits w0 30 16 < 65536 := Nat.mod_lt _ (by decide)
  have hnew : v.lnk.seen.get 0 (bits w0 46 12) = 0 ∨ (1 ≤ (bits w0 30 16 + 65536 - (v.lnk.seen.get 0 (bits w0 46 12) - 1)) % 65536 ∧
      (bits w0 30 16 + 65536 - (v.lnk.seen.get 0 (bits w0 46 12) - 1)) % 65536 ≤ 32768) := by
    rw [hv.seen]
    omega
  rw [State.takeFlare_of_new hty (by rw [hv.moduleId]; exact hor) hnew] at heq
  have hvalid : (v.remember (flareOf [w0, w1, w2])).etValid = false := (congrArg (· != 0) (hv.only _ 0 0 (by decide))).trans het
  obtain ⟨hregs, hin, hno, hint⟩ := State.present_noTime (f := flareOf [w0, w1, w2]) hvalid
  have hlen : ((v.remember (flareOf [w0, w1, w2])).present (flareOf [w0, w1, w2])).lnk.port.length = 8 := by
    rw [hregs.1]
    exact hv.length.trans h.length
  have hspread := State.spreadFlare_only _ (flareOf [w0, w1, w2]) (some p) hlen
  have hupv : ((v.remember (flareOf [w0, w1, w2])).present (flareOf [w0, w1, w2])).lup q = true := by
    rw [State.lup, State.lstate, hregs.2 _ _ _ (by decide)]
    exact (hv.lup (by decide) q).trans hup
  have hidlev : (((v.remember (flareOf [w0, w1, w2])).present (flareOf [w0, w1, w2])).lport q).idle := by
    rw [hregs.1]
    show (v.lport q).idle
    rw [hv.lport_of_ne hne]
    exact hidle
  have hkept := State.spreadFlare_kept (p := p) (flareOf [w0, w1, w2]) hlen hq hne hupv hidlev
  have htrg : ((v.remember (flareOf [w0, w1, w2])).present (flareOf [w0, w1, w2])).trg = v.trg := (congrArg State.trg hregs.1 :)
  have hseen : ((v.remember (flareOf [w0, w1, w2])).present (flareOf [w0, w1, w2])).lnk.seen = (v.remember (flareOf [w0, w1, w2])).lnk.seen :=
    (congrArg (fun u : State => u.lnk.seen) hregs.1 :)
  have hcount (g : Fld) (hg : g.id ∉ outstFields.map (·.id)) : (v.remember (flareOf [w0, w1, w2])).get g = s.get g := hv.only g 0 0 hg
  rw [hcount _ (by decide)] at hin hno
  refine .of_next heq ⟨hspread.trg.trans (htrg.trans hv.trg), ?_, (hspread.only _ _ _ (by decide)).trans hin,
    (hspread.only _ _ _ (by decide)).trans hno, (hspread.only _ _ _ (by decide)).trans hint, hkept⟩
  rw [hspread.seen, hseen]
  exact v.seen_remember (flareOf [w0, w1, w2])

/-- A new flare that arms templates is remembered and counted as received. -/
theorem lnkFlareRx_arms {w0 w1 w2 : Nat} (h : Hears p tr s) (hgood : ({ ty := 2, seq := seq, body := [w0, w1, w2] } : LFrame).good tr = true)
    (hseq : seq = (s.lport p).pri.rx) (hty : bits w0 62 2 = 1) (hor : bits w0 46 12 ≠ s.moduleId)
    (hlast : s.lnk.seen.get 0 (bits w0 46 12) = 0) (het : s.etValid = true) : Does (.lnkFlareRx p seq [w0, w1, w2] tr) s fun t =>
      t.lnk.seen.get 0 (bits w0 46 12) = bits w0 30 16 + 1 ∧
      t.get Reg.TRG_FLARE_IN_COUNT = min (2 ^ 32 - 1) (s.get Reg.TRG_FLARE_IN_COUNT + 1) ∧
      t.get Reg.TRG_NOTIME_COUNT = s.get Reg.TRG_NOTIME_COUNT := by
  obtain ⟨w, v, hv, heq⟩ := h.lnkFlareRx hgood hseq
  have hnot3 : (flareOf [w0, w1, w2]).ftype ≠ 3 := fun h3 => absurd (hty.symm.trans h3) (by decide)
  rw [State.takeFlare_of_new hnot3 (by rw [hv.moduleId]; exact hor) (.inl (by rw [hv.seen]; exact hlast))] at heq
  have hvalid : (v.remember (flareOf [w0, w1, w2])).etValid = true := (congrArg (· != 0) (hv.only _ 0 0 (by decide))).trans het
  obtain ⟨hlnk, hin, hno⟩ := State.present_arms (f := flareOf [w0, w1, w2]) hvalid hty
  have hlen : ((v.remember (flareOf [w0, w1, w2])).present (flareOf [w0, w1, w2])).lnk.port.length = 8 := by
    rw [hlnk]
    exact hv.length.trans h.length
  have hspread := State.spreadFlare_only _ (flareOf [w0, w1, w2]) (some p) hlen
  have hcount (g : Fld) (hg : g.id ∉ outstFields.map (·.id)) : (v.remember (flareOf [w0, w1, w2])).get g = s.get g := hv.only g 0 0 hg
  rw [hcount _ (by decide)] at hin hno
  refine .of_next heq ⟨?_, (hspread.only _ _ _ (by decide)).trans hin, (hspread.only _ _ _ (by decide)).trans hno⟩
  rw [hspread.seen, hlnk]
  exact v.seen_remember (flareOf [w0, w1, w2])

end

end Sys2Proof.Machine
end

/-! ## Low power of a port -/

section
namespace Sys2Proof.Machine

section
variable {s t u v : State} {p q : Nat} {x y : LPort} {l : List Fld} {tr : Trailer}

/-! ### SLEEP (R404) -/

/-- The port enters LOW. -/
def State.slept (s : State) (p : Nat) : State :=
  (s.put Reg.LNK_Pp_STATUS_STATE 4 p).setLport p { s.lport p with since := s.dtRef, waking := false }

theorem State.slept_state (s : State) (p : Nat) : (s.slept p).lstate p = 4 :=
  State.get_put_self s Reg.LNK_Pp_STATUS_STATE 4 p 0

theorem State.slept_only (s : State) (p : Nat) :
    PortOnly [Reg.LNK_Pp_STATUS_STATE] p { s.lport p with since := s.dtRef, waking := false } s (s.slept p) :=
  ⟨rfl, (RegsOnly.put (l := [Reg.LNK_Pp_STATUS_STATE]) s Reg.LNK_Pp_STATUS_STATE 4 p 0 (by simp)).2⟩

/-- The state at the end of the quiet time that lets a port sleep. -/
def State.sleepTime (s : State) (p : Nat) : State := s.advanceTo ((s.lport p).dataAt + 65536)

theorem exec_portSleep (hp : p < 8) : exec (.portSleep p) s = .next
    (if s.lup p ∧ s.flag Reg.LNK_Pp_CFG_LP_EN p ∧ bit (s.get Reg.LNK_Pp_PARTNER_CAPS p) 3 then
      ((s.sleepTime p).lsend p (ctrlFrame 5 0)).slept p else s) := by
  have hok : decide (p < 8) = true := decide_eq_true hp
  show need (decide (p < 8)) _ = _
  rw [hok, need_true]
  rfl

/-- The words of a CTRL frame as it was sent. -/
theorem ctrlFrame_words (op arg low : Nat) : ((ctrlFrame op arg).wordsWith low).getD 1 0 = op * 2 ^ 56 + arg := rfl

theorem State.sleepTime_lnk (s : State) (p : Nat) : (s.sleepTime p).lnk = s.lnk := (congrArg State.lnk (s.advanceTo_eq _) :)

/-- With low power at both ends a quiet port sends SLEEP and enters LOW. -/
theorem portSleep_sleeps (hp : p < 8) (hlen : s.lnk.port.length = 8)
    (hboth : s.lup p = true ∧ s.flag Reg.LNK_Pp_CFG_LP_EN p = true ∧ (s.get Reg.LNK_Pp_PARTNER_CAPS p).testBit 3 = true) :
    Does (.portSleep p) s fun t => t.lstate p = 4 ∧ t.dtRef = (s.sleepTime p).dtRef ∧ (t.lport p).sent.getD 1 0 = 5 * 2 ^ 56 ∧
      (t.lport p).waking = false ∧ Only (Reg.LNK_Pp_STATUS_STATE :: timeFields) s t
        { s.sleepTime p with regs := t.regs, lnk := { s.lnk with port := s.lnk.port.set p (t.lport p), lane := t.lnk.lane } } := by
  have hlt : p < (s.sleepTime p).lnk.port.length := by rw [s.sleepTime_lnk, hlen]; exact hp
  have hsend := (s.sleepTime p).lsend_only p (ctrlFrame 5 0)
  have htime : OnlyFields timeFields s (s.sleepTime p) := (OnlyFields.refl _ s).advanceTo _ fun _ h => h
  have hlnk := s.sleepTime_lnk p
  refine .of_next ((exec_portSleep hp).trans (congrArg _ (if_pos hboth))) ?_
  generalize s.sleepTime p = u at *
  generalize u.lsend p (ctrlFrame 5 0) = v at hsend
  have hslept := (hsend.mono (l' := [Reg.LNK_Pp_STATUS_STATE]) nofun).trans (v.slept_only p)
  have hport := hslept.lport_self hlt
  refine ⟨v.slept_state p, hslept.dtRef, ?_, ?_, ?_, ?_⟩
  · rw [hport, hsend.lport_self hlt]
    exact (ctrlFrame_words 5 0 _).trans (Nat.add_zero _)
  · rw [hport]
  · rw [hport, ← hlnk]
    exact hslept.kept
  · exact (htime.mono fun _ h => .tail _ h).trans (hslept.only.mono (by simp))

/-- SLEEP from the partner puts an UP port with low power into LOW. -/
theorem lnkCtrlSleep_sleeps (h : Hears p tr s) (hgood : (ctrlFrame 5 0).good tr = true) :
    (s.lup p = true → s.flag Reg.LNK_Pp_CFG_LP_EN p = true →
      Does (.lnkCtrlSleep p tr) s fun t => t.lstate p = 4 ∧ (t.lport p).waking = false) ∧
    ((s.lup p = false ∨ s.flag Reg.LNK_Pp_CFG_LP_EN p = false) → Does (.lnkCtrlSleep p tr) s fun t => t.lstate p = s.lstate p) := by
  obtain ⟨v, hv, hrecv⟩ := h.lrecv hgood fun s => if s.lup p ∧ s.flag Reg.LNK_Pp_CFG_LP_EN p then s.slept p else s
  have hok : decide (p < 8) = true := decide_eq_true h.lt
  have hexec : exec (.lnkCtrlSleep p tr) s = .next (if v.lup p ∧ v.flag Reg.LNK_Pp_CFG_LP_EN p then v.slept p else v) := by
    show need (decide (p < 8)) _ = _
    rw [hok, need_true]
    exact congrArg _ hrecv
  have hup : v.lup p = s.lup p := hv.lup (by decide) p
  have hlp : v.flag Reg.LNK_Pp_CFG_LP_EN p = s.flag Reg.LNK_Pp_CFG_LP_EN p := congrArg (· != 0) (hv.only _ p 0 (by decide))
  rw [hup, hlp] at hexec
  refine ⟨fun h1 h2 => .of_next (hexec.trans (congrArg _ (if_pos ⟨h1, h2⟩))) ⟨v.slept_state p, ?_⟩, fun hnot => .of_next
    (hexec.trans (congrArg _ (if_neg ?_))) (hv.lstate (by decide) p)⟩
  · rw [(v.slept_only p).lport_self (hv.length ▸ h.lt_length)]
  · rcases hnot with h | h <;> simp [h]

/-- WAKE from the partner starts the wake of a LOW port; an UP port heeds none. -/
theorem lnkCtrlWake_wakes (h : Hears p tr s) (hgood : (ctrlFrame 4 0).good tr = true) :
    (s.lstate p = 4 → Does (.lnkCtrlWake p tr) s fun t => (t.lport p).waking = true ∧ t.lstate p = 4) ∧
    (s.lup p = true → Does (.lnkCtrlWake p tr) s fun t => (t.lport p).waking = (s.lport p).waking ∧ t.lstate p = 3) := by
  obtain ⟨v, hv, hrecv⟩ := h.lrecv hgood fun s =>
    if s.lstate p = 4 ∧ !(s.lport p).waking then s.setLport p { s.lport p with waking := true, since := s.dtRef } else s
  have hok : decide (p < 8) = true := decide_eq_true h.lt
  have hexec : exec (.lnkCtrlWake p tr) s = .next
      (if v.lstate p = 4 ∧ !(v.lport p).waking then v.setLport p { v.lport p with waking := true, since := v.dtRef } else v) := by
    show need (decide (p < 8)) _ = _
    rw [hok, need_true]
    exact congrArg _ hrecv
  have hstate : v.lstate p = s.lstate p := hv.lstate (by decide) p
  have hport := hv.lport_self h.lt_length
  refine ⟨fun h4 => ?_, fun hup => ?_⟩
  · by_cases hw : (v.lport p).waking = true
    · refine .of_next (hexec.trans (congrArg _ (if_neg ?_))) ⟨hw, hstate.trans h4⟩
      simp [hw]
    · refine .of_next (hexec.trans (congrArg _ (if_pos ?_))) ⟨?_, hstate.trans h4⟩
      · simp [hw, hstate, h4]
      · rw [State.lport_setLport_self (hv.length ▸ h.lt_length)]
  · have h3 : s.lstate p = 3 := by simpa [State.lup] using hup
    refine .of_next (hexec.trans (congrArg _ (if_neg ?_))) ⟨?_, hstate.trans h3⟩
    · simp [hstate, h3]
    · rw [hport]
      rfl

end

end Sys2Proof.Machine
end

/-! ## A port that wakes -/

section
namespace Sys2Proof.Machine

section
variable {s t u v : State} {p q : Nat} {x y : LPort} {l : List Fld}

/-- Port `p` is UP and no wake of it is under way. -/
structure Awake (p : Nat) (s : State) : Prop where
  lt : p < s.lnk.port.length
  state : s.lstate p = 3
  waking : (s.lport p).waking = false

theorem Awake.of_eq (h : Awake p s) (hport : t.lnk.port = s.lnk.port) (hstate : t.lstate p = s.lstate p) : Awake p t :=
  ⟨hport ▸ h.lt, hstate.trans h.state, by rw [State.lport, hport]; exact h.waking⟩

theorem Awake.put (h : Awake p s) {f : Fld} {n i j : Nat} (hf : Reg.LNK_Pp_STATUS_STATE.id ≠ f.id) : Awake p (s.put f n i j) :=
  h.of_eq rfl (State.get_put_of_id _ _ _ _ _ _ _ _ hf)

theorem Awake.putB (h : Awake p s) {f : Fld} {b : Bool} {i j : Nat} (hf : Reg.LNK_Pp_STATUS_STATE.id ≠ f.id) : Awake p (s.putB f b i j) :=
  h.put hf

theorem Awake.cond (h : Awake p s) {c : Bool} {f : State → State} (hf : Awake p (f s)) : Awake p (s.cond c f) := by
  cases c
  · exact h
  · exact hf

/-- A port that changes stays awake when no wake of it begins. -/
theorem Awake.setLport (h : Awake p s) (hx : q = p → x.waking = false) : Awake p (s.setLport q x) := by
  refine ⟨by rw [State.setLport_length]; exact h.lt, h.state, ?_⟩
  by_cases hq : q = p
  · subst hq
    rw [State.lport_setLport_self h.lt]
    exact hx rfl
  · rw [State.lport_setLport_of_ne (Ne.symm hq)]
    exact h.waking

theorem Awake.portOnly (h : Awake p s) (hv : PortOnly l q x s v) (hl : Reg.LNK_Pp_STATUS_STATE.id ∉ l.map (·.id))
    (hx : q = p → x.waking = false) : Awake p v := by
  refine ⟨by rw [hv.length]; exact h.lt, (hv.lstate hl p).trans h.state, ?_⟩
  by_cases hq : q = p
  · subst hq
    rw [hv.lport_self h.lt]
    exact hx rfl
  · rw [hv.lport_of_ne (Ne.symm hq)]
    exact h.waking

theorem Awake.lsend (h : Awake p s) {f : LFrame} : Awake p (s.lsend q f) :=
  h.portOnly (s.lsend_only q f) (by decide) fun hq => by subst hq; exact h.waking

theorem Awake.sentNow (h : Awake p s) {old new : LClass} : Awake p (s.sentNow q old new) :=
  State.each_keeps (fun _ _ hu => hu.lsend) _ h

theorem Awake.showOutst (h : Awake p s) : Awake p (s.showOutst q) := (h.put (by decide)).put (by decide)

theorem Awake.lpump (h : Awake p s) : Awake p (s.lpump q) := by
  unfold State.lpump
  split
  · extract_lets x idle pri pri' r _ bulk y
    exact ((h.setLport (x := y) fun hq => by subst hq; exact h.waking).sentNow.sentNow).showOutst
  · exact h

theorem Awake.lbulk (h : Awake p s) {m : LTx} : Awake p (s.lbulk q m) := by
  unfold State.lbulk
  extract_lets x _ s1 s2
  have h1 : Awake p s1 := h.setLport fun hq => (congrArg (fun q => (s.lport q).waking) hq).trans h.waking
  have h2 : Awake p s2 := by
    by_cases hq : q = p
    · have hno : (s1.lstate q == 4 && !x.waking) = false := by rw [hq, h1.state]; rfl
      show Awake p (s1.cond (s1.lstate q == 4 && !x.waking) _)
      rw [hno]
      exact h1
    · exact h1.cond (h1.lsend.setLport fun h => absurd h hq)
  exact h2.lpump

theorem Awake.showLevel (h : Awake p s) {n : Nat} : Awake p (s.showLevel n) := (h.put (by decide)).put (by decide)

theorem Awake.setFifoOf (h : Awake p s) {k : LSrc} {f : Fifo} : Awake p (s.setFifoOf k f) := by
  cases k with
  | stream n => exact (h.of_eq rfl rfl : Awake p (((s.setStrm n { s.strm n with fifo := f })).setStrm n _)).showLevel
  | ctx c => exact h.of_eq rfl rfl
  | h2d n => exact h.of_eq rfl rfl

theorem Awake.sendFrom (h : Awake p s) {k : LSrc} {ports : List (Nat × Nat)} {first second : Bool} (ht : s.sendFrom k ports first second = some t) :
    Awake p t := by
  unfold State.sendFrom at ht
  extract_lets f at ht
  split at ht
  · cases ht
  · injection ht with ht
    rw [← ht]
    refine Awake.setFifoOf ?_
    exact State.each_keeps (P := Awake p) (fun u a hu => by exact hu.lbulk) ports (h.of_eq rfl rfl)

theorem Awake.feedFrom (h : Awake p s) {k : LSrc} (ht : s.feedFrom q k = some t) : Awake p t := by
  unfold State.feedFrom at ht
  split at ht
  split at ht
  · split at ht
    · exact h.sendFrom ht
    · cases ht
  · split at ht
    · exact h.sendFrom ht
    · split at ht
      · exact h.sendFrom ht
      · cases ht

theorem Awake.feedLocal (h : Awake p s) (ht : s.feedLocal q = some t) : Awake p t := by
  obtain ⟨k, -, hk⟩ := List.exists_of_findSome?_eq_some ht
  exact h.feedFrom hk

theorem Awake.forwardOne (h : Awake p s) (ht : s.forwardOne q = some t) : Awake p t := by
  obtain ⟨o, -, ho⟩ := List.exists_of_findSome?_eq_some ht
  dsimp only at ho
  split at ho
  · split at ho
    · injection ho with ho
      rw [← ho]
      exact (h.setLport fun hq => by subst hq; exact h.waking).lbulk
    · cases ho
  · cases ho

theorem Awake.feedLoop (n : Nat) (h : Awake p s) : Awake p (State.feedLoop n s q) := by
  induction n generalizing s with
  | zero => exact h
  | succ n ih =>
    rw [State.feedLoop]
    split
    · extract_lets turn r
      have hr {t : State} (ht : r = some t) : Awake p t := by
        have hor {a b : Option State} (ha : ∀ t, a = some t → Awake p t) (hb : ∀ t, b = some t → Awake p t)
            (hab : (a.orElse fun _ => b) = some t) : Awake p t := by
          cases a with
          | none => exact hb t hab
          | some a => exact ha t hab
        simp only [r] at ht
        split at ht
        · exact hor (fun _ => h.forwardOne) (fun _ => h.feedLocal) ht
        · exact hor (fun _ => h.feedLocal) (fun _ => h.forwardOne) ht
      clear_value r
      cases r with
      | none => exact h
      | some t => exact ih ((hr rfl).setLport fun hq => by subst hq; exact (hr rfl).waking)
    · exact h

theorem Awake.feedPort (h : Awake p s) : Awake p (s.feedPort q) := h.feedLoop bulkMax

theorem Awake.lighthouse (h : Awake p s) : Awake p s.lighthouse := by
  unfold State.lighthouse
  extract_lets l1 l2 id own lower s1 s2
  have h1 : Awake p s1 := h.cond (h.put (by decide))
  have h2 : Awake p s2 := h1.putB (by decide)
  split
  · exact ((h2.put (by decide)).put (by decide)).put (by decide)
  · clear_value id
    split
    · exact ((h2.put (by decide)).put (by decide)).put (by decide)
    · exact ((h2.put (by decide)).put (by decide)).put (by decide)

/-- The port is UP again. -/
def State.woken (s : State) (p : Nat) : State :=
  (s.put Reg.LNK_Pp_STATUS_STATE 3 p).setLport p { s.lport p with waking := false, dataAt := s.dtRef }

theorem State.woken_awake (hp : p < s.lnk.port.length) : Awake p (s.woken p) := by
  refine ⟨by rw [State.woken, State.setLport_length]; exact hp, State.get_put_self s Reg.LNK_Pp_STATUS_STATE 3 p 0, ?_⟩
  have hport : (s.woken p).lport p = { s.lport p with waking := false, dataAt := s.dtRef } :=
    State.lport_setLport_self (s := s.put Reg.LNK_Pp_STATUS_STATE 3 p) hp
  rw [hport]

theorem exec_portWakeComplete (hp : p < 8) : exec (.portWakeComplete p) s = .next
    (if s.lstate p = 4 ∧ (s.lport p).waking then ((s.woken p).lighthouse.lpump p).feedPort p else s) := by
  have hok : decide (p < 8) = true := decide_eq_true hp
  show need (decide (p < 8)) _ = _
  rw [hok, need_true]
  rfl

/-- A wake that is complete brings a LOW port UP (R404). -/
theorem portWakeComplete_wakes (hp : p < 8) (hlen : s.lnk.port.length = 8) :
    ((s.lstate p ≠ 4 ∨ (s.lport p).waking = false) → Does (.portWakeComplete p) s fun t => t = s) ∧
    (s.lstate p = 4 → (s.lport p).waking = true → Does (.portWakeComplete p) s fun t => t.lstate p = 3 ∧ (t.lport p).waking = false) := by
  refine ⟨fun hnot => .of_next ((exec_portWakeComplete hp).trans (congrArg _ (if_neg ?_))) rfl, fun h4 hw =>
    .of_next ((exec_portWakeComplete hp).trans (congrArg _ (if_pos ⟨h4, hw⟩))) ?_⟩
  · rcases hnot with h | h <;> simp [h]
  · have hend := ((State.woken_awake (s := s) (hlen ▸ hp)).lighthouse.lpump (q := p)).feedPort (q := p)
    exact ⟨hend.state, hend.waking⟩

end

end Sys2Proof.Machine
end

/-! ## TIME frames sent and missed -/

section
namespace Sys2Proof.Machine

section
variable {s t u v : State} {p q sub : Nat} {x y : LPort} {l : List Fld}

/-! ### The words of a TIME frame (R396) -/

/-- The word of a TIME frame that carries whole seconds and TSEQ. -/
def State.timeWord0 (s : State) (p sub : Nat) : Nat :=
  (s.et16 sub).toNat / 65536 / 1000000000 % 2 ^ 48 * 2 ^ 16 + (s.lport p).tseq

/-- The word that carries nanoseconds, the fraction, LH_ID, ET_VALID and LH_VALID. -/
def State.timeWord1 (s : State) (sub : Nat) : Nat :=
  (s.et16 sub).toNat / 65536 % 1000000000 * 2 ^ 34 + (s.et16 sub).toNat % 65536 * 2 ^ 18 + s.get Reg.LNK_STATUS_LH_ID * 2 ^ 6 +
    boolNat s.etValid * 2 ^ 5 + s.get Reg.LNK_STATUS_LH_VALID * 2 ^ 4

/-- The word that echoes the partner's last TIME frame. -/
def State.timeWord2 (s : State) (p sub : Nat) : Nat :=
  let d := s.dt16 sub
  let e := (s.lport p).echo.getD (0, d)
  e.1 * 2 ^ 48 + ofInt 48 (d - e.2)

/-- The word that carries the hops and the session. -/
def State.timeWord3 (s : State) : Nat :=
  s.get Reg.LNK_STATUS_HOPS * 2 ^ 56 + s.get Reg.TIM_STATUS_SESSION_ID * 2 ^ 40 + s.get Reg.TIM_STATUS_FAULT * 2 ^ 39

/-- The TIME frame a port sends now. -/
def State.timeFrame (s : State) (p sub : Nat) : LFrame :=
  { ty := 3, body := [s.timeWord0 p sub, s.timeWord1 sub, s.timeWord2 p sub, s.timeWord3] }

/-- A port that has sent its TIME frame, whose stamp is `d`. -/
def LPort.timed (x : LPort) (now : Nat) (d : Int) : LPort :=
  { x with timeAt := now, tseq := (x.tseq + 1) % 65536, stamps := ((x.tseq, d) :: x.stamps).take 16 }

/-- The edge of a port's next TIME frame. -/
def State.timeDue (s : State) (p : Nat) : State := s.advanceTo ((s.lport p).timeAt + 2 ^ s.tint)

theorem exec_timeFrameSend (hp : p < 8) (hup : s.lupLow p = true) : exec (.timeFrameSend p sub) s =
    .next (let v := (s.timeDue p).lsend p ((s.timeDue p).timeFrame p sub)
      v.setLport p { v.lport p with
        timeAt := v.dtRef
        tseq := (((s.timeDue p).lport p).tseq + 1) % 65536
        stamps := ((((s.timeDue p).lport p).tseq, (s.timeDue p).dt16 sub) :: ((s.timeDue p).lport p).stamps).take 16 }) := by
  have hok : decide (p < 8) = true := decide_eq_true hp
  show need (decide (p < 8)) _ = _
  rw [hok, need_true, if_pos hup]
  rfl

/-- A TIME frame goes out: the port is stamped, and the words sent are those of the frame. -/
theorem timeFrameSend_sends (hp : p < 8) (hlen : s.lnk.port.length = 8) (hup : s.lupLow p = true) :
    ∃ low t, exec (.timeFrameSend p sub) s = .next t ∧
      PortOnly [] p ((((s.timeDue p).lport p).wrote (((s.timeDue p).timeFrame p sub).wordsWith low)).timed (s.timeDue p).dtRef
        ((s.timeDue p).dt16 sub)) (s.timeDue p) t ∧ t.regs = (s.timeDue p).regs := by
  have hlt : p < (s.timeDue p).lnk.port.length := by
    rw [State.timeDue, State.advanceTo_eq, hlen]
    exact hp
  have hexec := exec_timeFrameSend (sub := sub) hp hup
  generalize s.timeDue p = u at *
  have hsend := u.lsend_only p (u.timeFrame p sub)
  have hregs := u.lsend_regs p (u.timeFrame p sub)
  generalize u.lsend p (u.timeFrame p sub) = v at *
  have hport := hsend.lport_self hlt
  refine ⟨u.trailerLow p, v.setLport p (((u.lport p).wrote ((u.timeFrame p sub).wordsWith (u.trailerLow p))).timed u.dtRef (u.dt16 sub)), ?_,
    hsend.trans (.setLport [] v p _), hregs⟩
  rw [hexec]
  simp only [hport, hsend.dtRef]
  rfl

/-- A part of a word between its neighbours. -/
theorem bits_between {a b c lo w : Nat} (hb : b < 2 ^ w) (hc : c < 2 ^ lo) : bits (a * 2 ^ (lo + w) + b * 2 ^ lo + c) lo w = b := by
  have hsum : a * 2 ^ (lo + w) + b * 2 ^ lo + c = (a * 2 ^ w + b) * 2 ^ lo + c := by ring
  rw [bits, hsum, Nat.add_comm, Nat.add_mul_div_right _ _ (Nat.two_pow_pos lo), Nat.div_eq_of_lt hc, Nat.zero_add, Nat.add_comm,
    Nat.add_mul_mod_self_right, Nat.mod_eq_of_lt hb]

theorem hcrc_lt (h : Nat) : hcrc h < 2 ^ 8 := by
  unfold hcrc
  refine List.foldlRecOn (motive := fun c => c < 2 ^ 8) _ _ (by decide) fun c _ i _ => ?_
  dsimp only
  split
  · exact Nat.xor_lt_two_pow (Nat.mod_lt _ (by decide)) (by decide)
  · exact Nat.mod_lt _ (by decide)

/-- The header of a TIME frame carries TYPE 3. -/
theorem timeFrame_type (s : State) (p sub low : Nat) : bits (((s.timeFrame p sub).wordsWith low).headD 0) 60 4 = 3 := by
  have hhead : (s.timeFrame p sub).head = 3 * 2 ^ 60 + 0 * 2 ^ 44 + 4 * 2 ^ 38 + 0 * 2 ^ 8 := rfl
  have hlt := hcrc_lt (s.timeFrame p sub).head
  show bits ((s.timeFrame p sub).head + hcrc (s.timeFrame p sub).head) 60 4 = 3
  generalize hcrc (s.timeFrame p sub).head = c at *
  have h := bits_between (a := 0) (b := 3) (c := 4 * 2 ^ 38 + c) (lo := 60) (w := 4) (by decide) (by omega)
  have hsum : 3 * 2 ^ 60 + 0 * 2 ^ 44 + 4 * 2 ^ 38 + 0 * 2 ^ 8 + c = 0 * 2 ^ (60 + 4) + 3 * 2 ^ 60 + (4 * 2 ^ 38 + c) := by omega
  rw [hhead, hsum]
  exact h

section
variable (s : State) (p sub : Nat)

/-- ET in 2^-16 ns, as a number. -/
def State.et16n (s : State) (sub : Nat) : Nat := if s.etValid then s.et * 65536 + sub else 4 * s.dtRef * 65536 + sub

theorem State.et16_toNat : (s.et16 sub).toNat = s.et16n sub := by
  have hdt : s.dt16 sub = ((4 * s.dtRef * 65536 + sub : Nat) : Int) := by simp [State.dt16]
  rw [State.et16, State.et16n, hdt]
  split
  · exact Int.toNat_natCast (s.et * 65536 + sub)
  · exact Int.toNat_natCast _

/-- The first word: whole seconds and TSEQ. -/
theorem State.timeWord0_parts (hseq : (s.lport p).tseq < 2 ^ 16) :
    bits (s.timeWord0 p sub) 16 48 = s.et16n sub / 65536 / 10 ^ 9 % 2 ^ 48 ∧ bits (s.timeWord0 p sub) 0 16 = (s.lport p).tseq := by
  rw [State.timeWord0, State.et16_toNat]
  have h1 := bits_between (a := 0) (b := s.et16n sub / 65536 / 1000000000 % 2 ^ 48) (c := (s.lport p).tseq) (lo := 16) (w := 48)
    (Nat.mod_lt _ (by decide)) hseq
  have h2 := bits_between (a := s.et16n sub / 65536 / 1000000000 % 2 ^ 48) (b := (s.lport p).tseq) (c := 0) (lo := 0) (w := 16) hseq
    (by decide)
  simp only [Nat.zero_mul, Nat.zero_add, Nat.pow_zero, Nat.mul_one, Nat.add_zero] at h1 h2
  exact ⟨h1, h2⟩

/-- The parts of the word that carries nanoseconds, the fraction and what the port knows of the lighthouse. -/
theorem bits_timeWord1 {ns frac id et lh : Nat} (hns : ns < 2 ^ 30) (hfrac : frac < 2 ^ 16) (hid : id < 2 ^ 12) (het : et < 2) (hlh : lh < 2) :
    let w := ns * 2 ^ 34 + frac * 2 ^ 18 + id * 2 ^ 6 + et * 2 ^ 5 + lh * 2 ^ 4
    bits w 34 30 = ns ∧ bits w 18 16 = frac ∧ bits w 6 12 = id ∧ bits w 5 1 = et ∧ bits w 4 1 = lh := by
  simp only [bits]
  omega

theorem State.timeWord1_parts (hid : s.get Reg.LNK_STATUS_LH_ID < 2 ^ 12) (hlh : s.get Reg.LNK_STATUS_LH_VALID < 2) :
    let w := s.timeWord1 sub
    bits w 34 30 = s.et16n sub / 65536 % 10 ^ 9 ∧ bits w 18 16 = s.et16n sub % 65536 ∧ bits w 6 12 = s.get Reg.LNK_STATUS_LH_ID ∧
      bits w 5 1 = boolNat s.etValid ∧ bits w 4 1 = s.get Reg.LNK_STATUS_LH_VALID := by
  have h := bits_timeWord1 (ns := s.et16n sub / 65536 % 1000000000) (frac := s.et16n sub % 65536) (id := s.get Reg.LNK_STATUS_LH_ID)
    (lt_trans (Nat.mod_lt _ (by decide)) (by decide)) (Nat.mod_lt _ (by decide)) hid (boolNat_lt s.etValid) hlh
  rw [← State.et16_toNat] at h ⊢
  exact h

/-- The parts of the word that carries the hops and the session. -/
theorem bits_timeWord3 {hops session fault : Nat} (hh : hops < 2 ^ 8) (hs : session < 2 ^ 16) (hf : fault < 2) :
    let w := hops * 2 ^ 56 + session * 2 ^ 40 + fault * 2 ^ 39
    bits w 56 8 = hops ∧ bits w 40 16 = session ∧ bits w 39 1 = fault := by
  simp only [bits]
  omega

end

theorem LFrame.wordsWith_four {f : LFrame} {a b c d : Nat} (hbody : f.body = [a, b, c, d]) (low : Nat) :
    (f.wordsWith low).length = 6 ∧ (f.wordsWith low).getD 1 0 = a ∧ (f.wordsWith low).getD 2 0 = b ∧ (f.wordsWith low).getD 4 0 = d := by
  rw [LFrame.wordsWith, hbody]
  generalize f.header = x, f.crc low * 2 ^ 32 + low = y
  exact ⟨rfl, rfl, rfl, rfl⟩

/-- What a receiver reads in a TIME frame `w` of the state `u` whose TSEQ is `tseq`. -/
structure TimeFrameOf (u : State) (sub tseq : Nat) (w : List Nat) : Prop where
  length : w.length = 6
  type : bits (w.headD 0) 60 4 = 3
  seconds : bits (w.getD 1 0) 16 48 = u.et16n sub / 65536 / 10 ^ 9 % 2 ^ 48
  tseq : bits (w.getD 1 0) 0 16 = tseq
  nanoseconds : bits (w.getD 2 0) 34 30 = u.et16n sub / 65536 % 10 ^ 9
  fraction : bits (w.getD 2 0) 18 16 = u.et16n sub % 65536
  lighthouse : bits (w.getD 2 0) 6 12 = u.get Reg.LNK_STATUS_LH_ID
  etValid : bits (w.getD 2 0) 5 1 = boolNat u.etValid
  lhValid : bits (w.getD 2 0) 4 1 = u.get Reg.LNK_STATUS_LH_VALID
  hops : bits (w.getD 4 0) 56 8 = u.get Reg.LNK_STATUS_HOPS
  session : bits (w.getD 4 0) 40 16 = u.get Reg.TIM_STATUS_SESSION_ID
  fault : bits (w.getD 4 0) 39 1 = u.get Reg.TIM_STATUS_FAULT

theorem timeFrameOf_wordsWith (low : Nat) (hseq : (u.lport p).tseq < 2 ^ 16)
    (hid : u.get Reg.LNK_STATUS_LH_ID < 2 ^ 12) (hlh : u.get Reg.LNK_STATUS_LH_VALID < 2) (hhops : u.get Reg.LNK_STATUS_HOPS < 2 ^ 8)
    (hses : u.get Reg.TIM_STATUS_SESSION_ID < 2 ^ 16) (hfault : u.get Reg.TIM_STATUS_FAULT < 2) :
    TimeFrameOf u sub (u.lport p).tseq ((u.timeFrame p sub).wordsWith low) := by
  have htype := timeFrame_type u p sub low
  obtain ⟨hlen, hword0, hword1, hword3⟩ := LFrame.wordsWith_four (f := u.timeFrame p sub) rfl low
  generalize (u.timeFrame p sub).wordsWith low = w at *
  obtain ⟨hw0, hw1⟩ := u.timeWord0_parts p sub hseq
  obtain ⟨hw2, hw3, hw4, hw5, hw6⟩ := u.timeWord1_parts sub hid hlh
  obtain ⟨hw7, hw8, hw9⟩ := bits_timeWord3 hhops hses hfault
  rw [← hword0] at hw0 hw1
  rw [← hword1] at hw2 hw3 hw4 hw5 hw6
  rw [State.timeWord3] at hword3
  rw [← hword3] at hw7 hw8 hw9
  exact ⟨hlen, htype, hw0, hw1, hw2, hw3, hw4, hw5, hw6, hw7, hw8, hw9⟩

/-- What a TIME frame carries and what the port remembers of it. -/
theorem timeFrameSend_carries (hp : p < 8) (hlen : s.lnk.port.length = 8) (hup : s.lupLow p = true) (hseq : (s.lport p).tseq < 2 ^ 16)
    (hid : s.get Reg.LNK_STATUS_LH_ID < 2 ^ 12) (hlh : s.get Reg.LNK_STATUS_LH_VALID < 2) (hhops : s.get Reg.LNK_STATUS_HOPS < 2 ^ 8)
    (hses : s.get Reg.TIM_STATUS_SESSION_ID < 2 ^ 16) (hfault : s.get Reg.TIM_STATUS_FAULT < 2) : Does (.timeFrameSend p sub) s fun t =>
      let u := s.advanceTo ((s.lport p).timeAt + 2 ^ (min 20 (max 12 (s.get Reg.LNK_CTRL_TINT))))
      let w := (t.lport p).sent
      let dt := 4 * u.dtRef * 65536 + sub
      let at_ := if u.etValid then u.et * 65536 + sub else dt
      let ns := at_ / 65536
      t.dtRef = u.dtRef ∧ w.length = 6 ∧ bits (w.headD 0) 60 4 = 3 ∧ bits (w.getD 1 0) 16 48 = ns / 10 ^ 9 % 2 ^ 48 ∧
      bits (w.getD 1 0) 0 16 = (s.lport p).tseq ∧ bits (w.getD 2 0) 34 30 = ns % 10 ^ 9 ∧
      bits (w.getD 2 0) 18 16 = at_ % 65536 ∧ bits (w.getD 2 0) 6 12 = s.get Reg.LNK_STATUS_LH_ID ∧ bits (w.getD 2 0) 5 1 = boolNat s.etValid ∧
      bits (w.getD 2 0) 4 1 = s.get Reg.LNK_STATUS_LH_VALID ∧
      bits (w.getD 4 0) 56 8 = s.get Reg.LNK_STATUS_HOPS ∧ bits (w.getD 4 0) 40 16 = s.get Reg.TIM_STATUS_SESSION_ID ∧
      bits (w.getD 4 0) 39 1 = s.get Reg.TIM_STATUS_FAULT ∧
      (t.lport p).tseq = ((s.lport p).tseq + 1) % 65536 ∧ (t.lport p).timeAt = t.dtRef ∧
      (t.lport p).stamps.head? = some ((s.lport p).tseq, (dt : Int)) ∧
      t = { u with lnk := { u.lnk with port := u.lnk.port.set p (t.lport p), lane := t.lnk.lane } } := by
  obtain ⟨low, t, hexec, honly, hregs⟩ := timeFrameSend_sends (sub := sub) hp hlen hup
  refine .of_next hexec ?_
  have heq : s.timeDue p = s.advanceTo ((s.lport p).timeAt + 2 ^ (min 20 (max 12 (s.get Reg.LNK_CTRL_TINT)))) := by
    rw [State.timeDue, State.tint]
  have hlnk : (s.timeDue p).lnk = s.lnk := (congrArg State.lnk (s.advanceTo_eq _) :)
  have htime : OnlyFields timeFields s (s.timeDue p) := (OnlyFields.refl _ s).advanceTo _ fun _ h => h
  rw [← heq]
  generalize s.timeDue p = u at *
  have hux : u.lport p = s.lport p := congrArg (fun x : Lnk => x.port.getD p {}) hlnk
  have hget (f : Fld) (hf : f.id ∉ timeFields.map (·.id)) : u.get f = s.get f := htime f 0 0 hf
  have hvalid : u.etValid = s.etValid := congrArg (· != 0) (hget _ (by decide))
  have hport := honly.lport_self (by rw [hlnk, hlen]; exact hp)
  have hsent : (t.lport p).sent = (u.timeFrame p sub).wordsWith low := by rw [hport]; rfl
  have hdt : u.dt16 sub = ((4 * u.dtRef * 65536 + sub : Nat) : Int) := by simp [State.dt16]
  have hframe := timeFrameOf_wordsWith (u := u) (p := p) (sub := sub) low (by rw [hux]; exact hseq) (by rw [hget _ (by decide)]; exact hid)
    (by rw [hget _ (by decide)]; exact hlh) (by rw [hget _ (by decide)]; exact hhops) (by rw [hget _ (by decide)]; exact hses)
    (by rw [hget _ (by decide)]; exact hfault)
  rw [hux] at hport hframe
  rw [← hsent] at hframe
  rw [← hvalid, ← hget Reg.LNK_STATUS_LH_ID (by decide), ← hget Reg.LNK_STATUS_LH_VALID (by decide), ← hget Reg.LNK_STATUS_HOPS (by decide),
    ← hget Reg.TIM_STATUS_SESSION_ID (by decide), ← hget Reg.TIM_STATUS_FAULT (by decide)]
  refine ⟨honly.dtRef, hframe.length, hframe.type, hframe.seconds, hframe.tseq, hframe.nanoseconds, hframe.fraction, hframe.lighthouse,
    hframe.etValid, hframe.lhValid, hframe.hops, hframe.session, hframe.fault, ?_, ?_, ?_, ?_⟩
  · rw [hport]
    rfl
  · rw [hport, honly.dtRef]
    rfl
  · rw [hport, hdt]
    rfl
  · have hkept := honly.kept
    rw [hregs] at hkept
    rw [hport, ← hux]
    exact hkept

end

end Sys2Proof.Machine
end

/-! ## TIME frames received and missed -/

section
namespace Sys2Proof.Machine

section
variable {s t u v : State} {p q : Nat} {x y : LPort} {l : List Fld} {tr : Trailer}

/-! ### A TIME frame that is missed (R396) -/

/-- A port that has missed `n` TIME frames, the next of which it awaits from `at_` on. -/
def LPort.missed (x : LPort) (at_ n : Nat) : LPort := { x with heardAt := at_, misses := n }

/-- A missed TIME frame is counted and noted. -/
def State.timeMissed (s : State) (p at_ n : Nat) : State :=
  (s.lcount Reg.LNK_Pp_TMISS_COUNT p).setLport p (((s.lcount Reg.LNK_Pp_TMISS_COUNT p).lport p).missed at_ n)

theorem State.timeMissed_only (s : State) (p at_ n : Nat) :
    PortOnly [Reg.LNK_Pp_TMISS_COUNT, Reg.LNK_INT_CNT_SAT] p ((s.lport p).missed at_ n) s (s.timeMissed p at_ n) ∧
    (s.timeMissed p at_ n).lnk.lane = s.lnk.lane ∧
    (s.timeMissed p at_ n).get Reg.LNK_Pp_TMISS_COUNT p = min (2 ^ 32 - 1) (s.get Reg.LNK_Pp_TMISS_COUNT p + 1) := by
  have hcount : RegsOnly [Reg.LNK_Pp_TMISS_COUNT, Reg.LNK_INT_CNT_SAT] s (s.lcount Reg.LNK_Pp_TMISS_COUNT p) :=
    .bump _ _ _ _ _ _ _ (by simp) (by simp)
  have hmiss : (s.lcount Reg.LNK_Pp_TMISS_COUNT p).get Reg.LNK_Pp_TMISS_COUNT p = min (s.get Reg.LNK_Pp_TMISS_COUNT p + 1) (2 ^ 32 - 1) :=
    State.bump_get _ _ _ _ _ _ _ (by decide)
  unfold State.timeMissed
  generalize s.lcount Reg.LNK_Pp_TMISS_COUNT p = v at *
  obtain ⟨hv, honly⟩ := hcount
  have hlnk : v.lnk = s.lnk := (congrArg State.lnk hv :)
  refine ⟨⟨?_, honly.trans (.of_regs rfl)⟩, (congrArg Lnk.lane hlnk :), hmiss.trans (Nat.min_comm ..)⟩
  rw [show v.lport p = s.lport p from congrArg (fun x : Lnk => x.port.getD p {}) hlnk]
  rw [hv]
  rfl

/-- The state in which the next TIME frame of a port is missed. -/
def State.missTime (s : State) (p : Nat) : State := s.advanceTo ((s.lport p).heardAt + 2 ^ s.tint + 2 ^ s.tint / 2)

theorem exec_timeFrameMiss (hp : p < 8) : exec (.timeFrameMiss p) s = .next
    (if s.lupLow p || s.tim.ltValid.contains p then
      let v := (s.missTime p).timeMissed p ((s.lport p).heardAt + 2 ^ s.tint) ((s.lport p).misses + 1)
      if (s.lport p).misses + 1 = 4 ∧ v.follows p then v.sourceLost.reselect else v
    else s) := by
  have hok : decide (p < 8) = true := decide_eq_true hp
  show need (decide (p < 8)) _ = _
  rw [hok, need_true]
  rfl

/-- A port that is not trained sends no TIME frame, and misses none once its offset is no longer valid. -/
theorem timeFrame_down (sub : Nat) (hp : p < 8) (hup : s.lupLow p = false) : (Does (.timeFrameSend p sub) s fun t => t = s) ∧
    (p ∉ s.tim.ltValid → Does (.timeFrameMiss p) s fun t => t = s) := by
  refine ⟨?_, fun hnot => ?_⟩
  · have hok : decide (p < 8) = true := decide_eq_true hp
    have hexec : exec (.timeFrameSend p sub) s = .next s := by
      show need (decide (p < 8)) _ = _
      rw [hok, need_true, if_neg (ne_true_of_eq_false hup)]
    exact .of_next hexec rfl
  · refine .of_next ((exec_timeFrameMiss hp).trans (congrArg _ (if_neg ?_))) rfl
    simp [hup, hnot]

/-- A missed TIME frame counts; the next one is awaited an interval later. -/
theorem timeFrameMiss_counts (hp : p < 8) (hlen : s.lnk.port.length = 8) (hhere : s.lupLow p = true ∨ p ∈ s.tim.ltValid)
    (hses : s.get Reg.TIM_STATUS_SESSION = 0) : Does (.timeFrameMiss p) s fun t =>
      let i := 2 ^ (min 20 (max 12 (s.get Reg.LNK_CTRL_TINT)))
      t.get Reg.LNK_Pp_TMISS_COUNT p = min (2 ^ 32 - 1) (s.get Reg.LNK_Pp_TMISS_COUNT p + 1) ∧
      (t.lport p).misses = (s.lport p).misses + 1 ∧ (t.lport p).heardAt = (s.lport p).heardAt + i ∧
      t.dtRef = (s.advanceTo ((s.lport p).heardAt + i + i / 2)).dtRef ∧
      Only ([Reg.LNK_Pp_TMISS_COUNT, Reg.LNK_INT_CNT_SAT] ++ timeFields) s t
        { s.advanceTo ((s.lport p).heardAt + i + i / 2) with regs := t.regs, lnk := { s.lnk with port := t.lnk.port } } := by
  have hexec := (exec_timeFrameMiss (s := s) hp).trans (congrArg _ (if_pos (by simpa using hhere)))
  have hlnk : (s.missTime p).lnk = s.lnk := (congrArg State.lnk (s.advanceTo_eq _) :)
  have htime : OnlyFields timeFields s (s.missTime p) := (OnlyFields.refl _ s).advanceTo _ fun _ h => h
  have hstart : s.missTime p = s.advanceTo ((s.lport p).heardAt + 2 ^ s.tint + 2 ^ s.tint / 2) := rfl
  dsimp only
  rw [← State.tint, ← hstart]
  generalize s.missTime p = u at *
  obtain ⟨hport, hlane, hmiss⟩ := u.timeMissed_only p ((s.lport p).heardAt + 2 ^ s.tint) ((s.lport p).misses + 1)
  generalize u.timeMissed p ((s.lport p).heardAt + 2 ^ s.tint) ((s.lport p).misses + 1) = v at *
  have hnot : v.follows p = false := by
    have h0 : v.flag Reg.TIM_STATUS_SESSION = false := by
      rw [State.flag, hport.only _ _ _ (by decide), htime _ _ _ (by decide), hses]
      rfl
    rw [State.follows, h0]
    rfl
  have hself := hport.lport_self (by rw [hlnk, hlen]; exact hp)
  rw [htime _ _ _ (by decide)] at hmiss
  refine .of_next (hexec.trans (congrArg _ (if_neg fun h => ?_))) ⟨hmiss, ?_, ?_, hport.dtRef, ?_, ?_⟩
  · exact absurd h.2 (ne_true_of_eq_false hnot)
  · rw [hself]
    rfl
  · rw [hself]
    rfl
  · have hkept := hport.kept
    rw [hlane, ← hport.port, hlnk] at hkept
    exact hkept
  · exact (htime.mono fun _ h => List.mem_append_right _ h).trans (hport.only.mono fun _ h => List.mem_append_left _ h)

end

end Sys2Proof.Machine
end

/-! ## TIME frames received -/

section
namespace Sys2Proof.Machine

section
variable {s t u v : State} {p q : Nat} {x y : LPort} {l : List Fld} {tr : Trailer} {w0 w1 w2 w3 : Nat} {sub : Int}

/-- A port that has received a TIME frame at `now`, whose first bit came at `d`. -/
def LPort.heardTime (x : LPort) (w0 w1 w3 now : Nat) (d : Int) : LPort :=
  { x with echo := some (bits w0 0 16, d), heardAt := now, misses := 0, adv := some (bit w1 4, bits w3 56 8, bits w1 6 12) }

/-- What the frame says of the partner is noted. -/
def State.heardTime (s : State) (p w0 w1 w3 : Nat) (sub : Int) : State :=
  (s.setLport p ((s.lport p).heardTime w0 w1 w3 s.dtRef (s.dt16 sub))).put Reg.LNK_Pp_PARTNER_HOPS (bits w3 56 8) p

/-- The frame's stamp, in 2^-16 ns of ET. -/
def timeStamp (w0 w1 : Nat) : Int := ((bits w0 16 48 * 1000000000 + bits w1 34 30) * 65536 + bits w1 18 16 : Nat)

/-- A partner with ET gives the port its offset. -/
def State.timeOffset (s : State) (p w0 w1 : Nat) (at_ : Int) : State :=
  if bit w1 5 then s.ltSample p (roundDiv (centred (etMod * 65536) (timeStamp w0 w1 - at_) * 1000) 65536 + s.dIn p) else s

/-- The stamp of the sent frame that a TIME frame echoes. -/
def LPort.echoed (x : LPort) (w2 : Nat) : Option (Nat × Int) := x.stamps.find? fun e => e.1 == bits w2 48 16

/-- A measurement where the frame echoes a stamp. -/
def State.measureEcho (s : State) (p w2 : Nat) (e : Option (Nat × Int)) (d : Int) : State :=
  match e with
  | some e => s.measure p e.2 d (bits w2 0 48 : Nat)
  | none => s

/-- What a good TIME frame does on an idle port. -/
theorem Hears.lnkTimeRx (h : Hears p tr s) (hgood : ({ ty := 3, body := [w0, w1, w2, w3] } : LFrame).good tr = true) :
    ∃ v, PortOnly outstFields p ((s.lport p).heeded s.dtRef) s v ∧ exec (.lnkTimeRx p sub [w0, w1, w2, w3] tr) s =
      .next (((v.heardTime p w0 w1 w3 sub).measureEcho p w2 ((v.lport p).echoed w2)
        ((v.heardTime p w0 w1 w3 sub).dt16 sub)).lighthouse.reselect.timeOffset p w0 w1 (v.et16 sub)) := by
  obtain ⟨v, hv, hrecv⟩ := h.lrecv hgood fun v =>
    ((v.heardTime p w0 w1 w3 sub).measureEcho p w2 ((v.lport p).echoed w2)
      ((v.heardTime p w0 w1 w3 sub).dt16 sub)).lighthouse.reselect.timeOffset p w0 w1 (v.et16 sub)
  refine ⟨v, hv, ?_⟩
  have hok : decide (p < 8) = true := decide_eq_true h.lt
  show need (decide (p < 8)) _ = _
  rw [hok, need_true]
  exact congrArg _ hrecv

/-! ### What the frame leaves -/

theorem State.heardTime_only (s : State) (p : Nat) :
    PortOnly [Reg.LNK_Pp_PARTNER_HOPS] p ((s.lport p).heardTime w0 w1 w3 s.dtRef (s.dt16 sub)) s (s.heardTime p w0 w1 w3 sub) :=
  ⟨rfl, (RegsOnly.put (l := [Reg.LNK_Pp_PARTNER_HOPS]) _ _ _ _ _ (by simp)).2.trans (.refl _ _)⟩

theorem State.heardTime_hops (s : State) (p : Nat) : (s.heardTime p w0 w1 w3 sub).get Reg.LNK_Pp_PARTNER_HOPS p = bits w3 56 8 :=
  (State.get_put_self ..).trans (trunc_of_lt (Nat.mod_lt _ (by decide)))

/-- A commit leaves all but the register file and the shadow copies. -/
theorem State.commit_facts (s : State) (f : Fld) (i j : Nat) : (s.commit f i j).lnk = s.lnk ∧ OnlyFields [f] s (s.commit f i j) ∧
    (s.commit f i j).get f i j = (s.shadowOf f i j).elim (s.get f i j) (trunc f.width) := by
  rcases s.commit_cases f i j with ⟨hs, h⟩ | ⟨v, hs, h⟩
  · rw [h, hs]
    exact ⟨rfl, .refl _ s, rfl⟩
  · rw [h, hs]
    exact ⟨rfl, (RegsOnly.put (l := [f]) s f v i j (by simp)).2.trans (.of_regs rfl), (State.get_unstage ..).trans (State.get_put_self ..)⟩

/-- The fields a measurement of the delay changes. -/
def delayFields : List Fld := [Reg.LNK_Pp_ASYM_ASYM, Reg.LNK_Pp_DELAY_DELAY]

/-- A port with the measurements `ds` of its delay. -/
def LPort.measured (x : LPort) (ds : List Int) : LPort := { x with delays := ds }

/-- A measurement of the delay joins the port's; the first one is the mean (R397). -/
theorem State.measure_facts {t1 t4 res d : Int} (hp : p < s.lnk.port.length) (ht : t = s.measure p t1 t4 res)
    (hd : d = (t4 - t1 - res) * 1000 + toInt 24 (t.get Reg.LNK_Pp_ASYM_ASYM p) * 65536) :
    t.lport p = (s.lport p).measured ((d :: (s.lport p).delays).take 16) ∧ OnlyFields delayFields s t ∧
    t.get Reg.LNK_Pp_ASYM_ASYM p = (s.shadowOf Reg.LNK_Pp_ASYM_ASYM p).elim (s.get Reg.LNK_Pp_ASYM_ASYM p) (trunc 24) ∧
    ((s.lport p).delays = [] → t.get Reg.LNK_Pp_DELAY_DELAY p = trunc 32 ((2 * d + 131072) / 262144).toNat) := by
  obtain ⟨hlnk, honly, hasym⟩ := s.commit_facts Reg.LNK_Pp_ASYM_ASYM p 0
  unfold State.measure at ht
  generalize s.commit Reg.LNK_Pp_ASYM_ASYM p = u at *
  extract_lets _ x d' v at ht
  have hx : x = s.lport p := congrArg (fun l : Lnk => l.port.getD p {}) hlnk
  have hv : v = u.setLport p ((s.lport p).measured ((d' :: (s.lport p).delays).take 16)) := by
    simp only [v, hx]
    rfl
  have hport : v.lport p = (s.lport p).measured ((d' :: (s.lport p).delays).take 16) := by
    rw [hv, State.lport_setLport_self (by rw [hlnk]; exact hp)]
  have hasymv : v.get Reg.LNK_Pp_ASYM_ASYM p = u.get Reg.LNK_Pp_ASYM_ASYM p := by rw [hv]; rfl
  have hasymt : t.get Reg.LNK_Pp_ASYM_ASYM p = u.get Reg.LNK_Pp_ASYM_ASYM p := by
    rw [ht, State.get_put_of_id _ _ _ _ _ _ _ _ (by decide), hasymv]
  have hd' : d = d' := by rw [hd, hasymt]
  refine ⟨?_, ?_, hasymt.trans hasym, fun hnone => ?_⟩
  · rw [ht, hd']
    exact hport
  · rw [ht]
    refine .put _ _ _ _ (by simp [delayFields]) (.trans (honly.mono (by simp [delayFields])) (.of_regs ?_))
    rw [hv]
    rfl
  · have hdin : v.dIn p = (2 * d + 131072) / 262144 := by
      rw [State.dIn, hport, hnone, hd']
      simp [LPort.measured, roundDiv]
    rw [ht, State.get_put_self, hdin]
    rfl

/-- The fields that show the lighthouse and the source. -/
def lighthouseFields : List Fld :=
  [Reg.LNK_INT_LH_CONFLICT, Reg.LNK_STATUS_CONFLICT, Reg.LNK_STATUS_HOPS, Reg.LNK_STATUS_LH_ID, Reg.LNK_STATUS_LH_VALID, Reg.TIM_INT_SRC_CHANGE]

theorem State.lighthouse_only (s : State) : RegsOnly lighthouseFields s s.lighthouse := by
  have hshow (u : State) (hu : RegsOnly lighthouseFields s u) (a b c : Nat) : RegsOnly lighthouseFields s
      (((u.put Reg.LNK_STATUS_HOPS a).put Reg.LNK_STATUS_LH_ID b).put Reg.LNK_STATUS_LH_VALID c) :=
    ((hu.trans (.put _ _ _ _ _ (by decide))).trans (.put _ _ _ _ _ (by decide))).trans (.put _ _ _ _ _ (by decide))
  unfold State.lighthouse
  extract_lets l1 l2 id own lower s1 s2
  have h1 : RegsOnly lighthouseFields s s1 := by
    simp only [s1, State.cond]
    split
    · exact .put _ _ _ _ _ (by decide)
    · exact .refl _ s
  have h2 : RegsOnly lighthouseFields s s2 := h1.trans (.put _ _ _ _ _ (by decide))
  clear_value s2
  split
  · exact hshow s2 h2 _ _ _
  · clear_value id
    split
    · exact hshow s2 h2 _ _ _
    · exact hshow s2 h2 _ _ _

/-- The choice of the lighthouse and of the source leaves the ports. -/
theorem State.lighthouse_reselect (s : State) : s.lighthouse.reselect.lnk = s.lnk ∧ OnlyFields lighthouseFields s s.lighthouse.reselect := by
  obtain ⟨hkept, honly⟩ := s.lighthouse_only
  generalize s.lighthouse = u at *
  have hlnk : u.lnk = s.lnk := (congrArg State.lnk hkept :)
  unfold State.reselect
  split
  · have hchoose : OnlyFields lighthouseFields s u.choosePort := honly.trans (.of_regs rfl)
    refine ⟨?_, hchoose.cond fun h => h.put _ _ _ _ (by decide)⟩
    dsimp only
    cases u.choosePort.tim.port != u.tim.port
    · exact hlnk
    · exact hlnk
  · exact ⟨hlnk, honly⟩

/-! ### The two clauses -/

theorem LPort.heeded_time (x : LPort) (now : Nat) : (x.heeded now).stamps = x.stamps ∧ (x.heeded now).delays = x.delays := ⟨rfl, rfl⟩

theorem PortOnly.shadowOf (h : PortOnly l p x s t) (f : Fld) (i j : Nat) : t.shadowOf f i j = s.shadowOf f i j := by
  have hs : t.shadow = s.shadow := (congrArg State.shadow h.kept :)
  rw [State.shadowOf, hs, State.shadowOf]

/-- The port while it hears a TIME frame. -/
def State.timePort (s : State) (p w0 w1 w3 : Nat) (sub : Int) : LPort := ((s.lport p).heeded s.dtRef).heardTime w0 w1 w3 s.dtRef (s.dt16 sub)

/-- The state a good TIME frame finds once what it says of the partner is noted. -/
theorem Hears.timeNoted (h : Hears p tr s) (hgood : ({ ty := 3, body := [w0, w1, w2, w3] } : LFrame).good tr = true) :
    ∃ u, PortOnly (Reg.LNK_Pp_PARTNER_HOPS :: outstFields) p (s.timePort p w0 w1 w3 sub) s u ∧ u.get Reg.LNK_Pp_PARTNER_HOPS p = bits w3 56 8 ∧
      exec (.lnkTimeRx p sub [w0, w1, w2, w3] tr) s = .next
        ((u.measureEcho p w2 ((s.lport p).echoed w2) (s.dt16 sub)).lighthouse.reselect.timeOffset p w0 w1 (s.et16 sub)) := by
  obtain ⟨v, hv, hexec⟩ := h.lnkTimeRx (sub := sub) hgood
  have hhear := v.heardTime_only (w0 := w0) (w1 := w1) (w3 := w3) (sub := sub) p
  have hport := hv.lport_self h.lt_length
  have hdt : v.dt16 sub = s.dt16 sub := by rw [State.dt16, hv.dtRef, State.dt16]
  have hval : v.etValid = s.etValid := congrArg (· != 0) (hv.only _ 0 0 (by decide))
  have het : v.et = s.et := by
    rw [State.et, State.etOf, State.etOff, hv.only _ _ _ (by decide), hv.only _ _ _ (by decide), hv.dtRef, State.et, State.etOf, State.etOff]
  have hat : v.et16 sub = s.et16 sub := by rw [State.et16, hval, het, hdt, State.et16]
  have hdt' : (v.heardTime p w0 w1 w3 sub).dt16 sub = s.dt16 sub := by rw [State.dt16, hhear.dtRef, hv.dtRef, State.dt16]
  have hecho : (v.lport p).echoed w2 = (s.lport p).echoed w2 := by rw [hport]; rfl
  rw [hport, hv.dtRef, hdt] at hhear
  rw [hdt', hecho, hat] at hexec
  exact ⟨_, (hv.mono fun _ h => .tail _ h).trans (hhear.mono (by simp)), v.heardTime_hops p, hexec⟩

/-- A TIME frame from a partner without ET: what it says is noted, and a stamp it echoes measures the delay. -/
theorem lnkTimeRx_measures (h : Hears p tr s) (hgood : ({ ty := 3, body := [w0, w1, w2, w3] } : LFrame).good tr = true)
    (het : w1.testBit 5 = false) : Does (.lnkTimeRx p sub [w0, w1, w2, w3] tr) s fun t =>
    let t4 : Int := 4 * s.dtRef * 65536 + sub
    let m := (s.lport p).stamps.find? fun e => e.1 == bits w2 48 16
    (t.lport p).echo = some (bits w0 0 16, t4) ∧ (t.lport p).heardAt = s.dtRef ∧ (t.lport p).misses = 0 ∧
    (t.lport p).adv = some (w1.testBit 4, bits w3 56 8, bits w1 6 12) ∧ t.get Reg.LNK_Pp_PARTNER_HOPS p = bits w3 56 8 ∧
    (m = none → (t.lport p).delays = (s.lport p).delays ∧ t.get Reg.LNK_Pp_DELAY_DELAY p = s.get Reg.LNK_Pp_DELAY_DELAY p) ∧
    (m.isSome = true → (s.lport p).delays = [] →
      let d := (t4 - (m.getD (0, 0)).2 - (bits w2 0 48 : Nat)) * 1000 + toInt 24 (t.get Reg.LNK_Pp_ASYM_ASYM p) * 65536
      (t.lport p).delays = [d] ∧ t.get Reg.LNK_Pp_DELAY_DELAY p = trunc 32 ((2 * d + 131072) / 262144).toNat ∧
      t.get Reg.LNK_Pp_ASYM_ASYM p = (match s.shadowOf Reg.LNK_Pp_ASYM_ASYM p 0 with
        | some v => trunc 24 v
        | none => s.get Reg.LNK_Pp_ASYM_ASYM p)) := by
  obtain ⟨u, hu, hhops, hexec⟩ := h.timeNoted (sub := sub) hgood
  rw [State.timeOffset, if_neg (show ¬ bit w1 5 = true from ne_true_of_eq_false het)] at hexec
  have hlt : p < u.lnk.port.length := by rw [hu.length]; exact h.lt_length
  have hport := hu.lport_self h.lt_length
  have hnoted (t : State) (ds : List Int) (ht : t.lport p = (u.lport p).measured ds) :
      (t.lport p).echo = some (bits w0 0 16, s.dt16 sub) ∧ (t.lport p).heardAt = s.dtRef ∧ (t.lport p).misses = 0 ∧
        (t.lport p).adv = some (w1.testBit 4, bits w3 56 8, bits w1 6 12) := by
    rw [ht, hport]
    exact ⟨rfl, rfl, rfl, rfl⟩
  have hdelays : (u.lport p).delays = (s.lport p).delays := by rw [hport]; rfl
  refine .of_next hexec ?_
  dsimp only
  rw [← LPort.echoed]
  cases (s.lport p).echoed w2 with
  | none =>
    obtain ⟨hlnk, honly⟩ := u.lighthouse_reselect
    obtain ⟨hecho, hat, hmiss, hadv⟩ := hnoted u.lighthouse.reselect (u.lport p).delays (congrArg (fun x : Lnk => x.port.getD p {}) hlnk)
    refine ⟨hecho, hat, hmiss, hadv, (honly _ _ _ (by decide)).trans hhops, fun _ => ⟨?_, ?_⟩, nofun⟩
    · exact (congrArg (fun x : Lnk => (x.port.getD p {}).delays) hlnk :).trans hdelays
    · exact (honly _ _ _ (by decide)).trans (hu.only _ _ _ (by decide))
  | some e =>
    have hmeasure := State.measure_facts (t := u.measure p e.2 (s.dt16 sub) (bits w2 0 48 : Nat)) hlt rfl rfl
    have hshow : u.measureEcho p w2 (some e) (s.dt16 sub) = u.measure p e.2 (s.dt16 sub) (bits w2 0 48 : Nat) := rfl
    rw [hshow]
    generalize u.measure p e.2 (s.dt16 sub) (bits w2 0 48 : Nat) = v at *
    obtain ⟨hvport, hvonly, hasym, hdelay⟩ := hmeasure
    obtain ⟨hlnk, honly⟩ := v.lighthouse_reselect
    have htport : v.lighthouse.reselect.lport p = v.lport p := congrArg (fun x : Lnk => x.port.getD p {}) hlnk
    obtain ⟨hecho, hat, hmiss, hadv⟩ := hnoted v.lighthouse.reselect _ (htport.trans hvport)
    refine ⟨hecho, hat, hmiss, hadv, (honly _ _ _ (by decide)).trans ((hvonly _ _ _ (by decide)).trans hhops), nofun, fun _ hnone => ?_⟩
    have hasymt := honly Reg.LNK_Pp_ASYM_ASYM p 0 (by decide)
    rw [hasymt, honly _ _ _ (by decide), hdelay (hdelays.trans hnone), htport, hvport, hdelays, hnone, hasym, hu.shadowOf,
      hu.only _ _ _ (by decide)]
    refine ⟨rfl, rfl, ?_⟩
    cases s.shadowOf Reg.LNK_Pp_ASYM_ASYM p 0 <;> rfl

/-- The offset `o` of port `p` is shown and valid. -/
def State.Offset (s : State) (p : Nat) (o : Int) : Prop := s.get Reg.TIM_LT_OFF_OFF 0 p = satInt 32 o ∧ p ∈ s.tim.ltValid

theorem State.Offset.of_eq {o : Int} (h : s.Offset p o) (hget : t.get Reg.TIM_LT_OFF_OFF 0 p = s.get Reg.TIM_LT_OFF_OFF 0 p)
    (hvalid : t.tim.ltValid = s.tim.ltValid) : t.Offset p o := ⟨hget.trans h.1, hvalid ▸ h.2⟩

theorem State.Offset.cond {o : Int} {c : Bool} {f : State → State} (h : s.Offset p o) (hf : (f s).Offset p o) : (s.cond c f).Offset p o := by
  cases c
  · exact h
  · exact hf

theorem State.ltPut_offset (s : State) (p : Nat) (o : Int) : (s.ltPut p o).Offset p o := by
  unfold State.ltPut
  extract_lets v _ w beyond was a
  have hw : w.Offset p o := ⟨(State.get_put_self ..).trans (trunc_of_lt (ofInt_lt _ _)), List.mem_cons_self ..⟩
  clear_value w
  split
  · exact hw
  · have hnext : (w.put Reg.TIM_INT_PORT_DISAGREE 1).get Reg.TIM_LT_OFF_OFF 0 p = w.get Reg.TIM_LT_OFF_OFF 0 p :=
      State.get_put_of_id _ _ _ _ _ _ _ _ (by decide)
    have ha : a.Offset p o := hw.cond (hw.of_eq hnext rfl)
    exact ha.cond (ha.of_eq rfl rfl)

/-- A TIME frame from a partner with ET gives the port its offset. -/
theorem lnkTimeRx_offset (h : Hears p tr s) (hgood : ({ ty := 3, body := [w0, w1, w2, w3] } : LFrame).good tr = true)
    (het : w1.testBit 5 = true) (hecho : ((s.lport p).stamps.find? fun e => e.1 == bits w2 48 16) = none) (hses : s.get Reg.TIM_STATUS_SESSION = 0) :
    Does (.lnkTimeRx p sub [w0, w1, w2, w3] tr) s fun t =>
      let tx : Int := ((bits w0 16 48 * 1000000000 + bits w1 34 30) * 65536 + bits w1 18 16 : Nat)
      let o := roundDiv (centred (etMod * 65536) (tx - (if s.etValid then (s.et : Int) * 65536 + sub else 4 * s.dtRef * 65536 + sub)) * 1000)
        65536 + s.dIn p
      t.get Reg.TIM_LT_OFF_OFF 0 p = satInt 32 o ∧ p ∈ t.tim.ltValid := by
  obtain ⟨u, hu, -, hexec⟩ := h.timeNoted (sub := sub) hgood
  rw [State.timeOffset, if_pos (show bit w1 5 = true from het), show (s.lport p).echoed w2 = none from hecho] at hexec
  have hmeasure : u.measureEcho p w2 none (s.dt16 sub) = u := rfl
  rw [hmeasure] at hexec
  obtain ⟨hlnk, honly⟩ := u.lighthouse_reselect
  generalize u.lighthouse.reselect = v at *
  have hport : v.lport p = s.timePort p w0 w1 w3 sub :=
    (congrArg (fun x : Lnk => x.port.getD p {}) hlnk :).trans (hu.lport_self h.lt_length)
  have hdin : v.dIn p = s.dIn p := by
    rw [State.dIn, hport]
    rfl
  have hnot : v.follows p = false := by
    have h0 : v.flag Reg.TIM_STATUS_SESSION = false := by
      rw [State.flag, honly _ _ _ (by decide), hu.only _ _ _ (by decide), hses]
      rfl
    rw [State.follows, h0]
    rfl
  rw [State.ltSample, hnot, State.cond_false, hdin] at hexec
  exact .of_next hexec (v.ltPut_offset p _)

end

end Sys2Proof.Machine
end

/-! ## The pair table -/

section
namespace Sys2Proof.Machine

section
variable {s t u v : State} {i p : Nat} {e : LPair} {f : LFrame} {moved : Bool}

/-! ### An entry in the table and its registers (R405) -/

/-- The fields that show an entry of the pair table. -/
def pairFields : List Fld :=
  [Reg.LNK_DUAL_STATUS_ORIGIN, Reg.LNK_DUAL_STATUS_STREAM, Reg.LNK_DUAL_STATUS_H, Reg.LNK_DUAL_STATUS_VALID, Reg.LNK_DUAL_STATUS_ACTIVE,
   Reg.LNK_DUAL_DSEQ_DSEQ]

/-- An entry that changes shows itself and leaves everything else. -/
theorem State.setPair_facts (s : State) (i : Nat) (e : Option LPair) :
    s.setPair i e = { s with regs := (s.setPair i e).regs, lnk := { s.lnk with pairs := s.lnk.pairs.set i e } } ∧
    OnlyFields pairFields s (s.setPair i e) := by
  have hput (u v : State) (h : RegsOnly pairFields u v) (f : Fld) (n : Nat) (hf : f ∈ pairFields) : RegsOnly pairFields u (v.put f n 0 i) :=
    h.trans (.put v f n 0 i hf)
  have hplace : OnlyFields pairFields s { s with lnk := { s.lnk with pairs := s.lnk.pairs.set i e } } := .of_regs rfl
  have hregs : RegsOnly pairFields { s with lnk := { s.lnk with pairs := s.lnk.pairs.set i e } } (s.setPair i e) := by
    unfold State.setPair
    generalize ({ s with lnk := { s.lnk with pairs := s.lnk.pairs.set i e } } : State) = u
    cases e with
    | none => exact hput u u (.refl _ u) _ _ (by decide)
    | some e =>
      exact hput u _ (hput u _ (hput u _ (hput u _ (hput u _ (hput u u (.refl _ u) _ _ (by decide)) _ _ (by decide)) _ _ (by decide)) _ _
        (by decide)) _ _ (by decide)) _ _ (by decide)
  exact ⟨hregs.1, hplace.trans hregs.2⟩

theorem State.pair_setPair_self (hi : i < s.lnk.pairs.length) (e : Option LPair) : (s.setPair i e).pair i = e := by
  have h := (congrArg (fun u : State => u.lnk.pairs) (s.setPair_facts i e).1 :)
  rw [State.pair, h]
  simp [List.getD_eq_getElem?_getD, hi]

theorem State.setPair_port (s : State) (i : Nat) (e : Option LPair) : (s.setPair i e).lnk.port = s.lnk.port :=
  (congrArg (fun u : State => u.lnk.port) (s.setPair_facts i e).1 :)

theorem State.setPair_none (s : State) (i : Nat) : (s.setPair i none).get Reg.LNK_DUAL_STATUS_VALID 0 i = 0 := State.get_put_self ..

/-- What the registers of an entry in use show. -/
theorem State.setPair_shows (s : State) (i : Nat) (e : LPair) : let t := s.setPair i (some e)
    t.get Reg.LNK_DUAL_STATUS_VALID 0 i = 1 ∧ t.get Reg.LNK_DUAL_STATUS_ORIGIN 0 i = trunc 12 e.origin ∧
    t.get Reg.LNK_DUAL_STATUS_STREAM 0 i = trunc 6 e.stream ∧ t.get Reg.LNK_DUAL_STATUS_H 0 i = boolNat e.h ∧
    t.get Reg.LNK_DUAL_STATUS_ACTIVE 0 i = trunc 1 e.active ∧ t.get Reg.LNK_DUAL_DSEQ_DSEQ 0 i = (e.next + 65535) % 65536 := by
  have hother (u : State) (f g : Fld) (v w : Nat) (hu : u.get g 0 i = w) (hne : g.id ≠ f.id) : (u.put f v 0 i).get g 0 i = w :=
    (State.get_put_of_id _ _ _ _ _ _ _ _ hne).trans hu
  have hself (u : State) (f : Fld) (v : Nat) : (u.put f v 0 i).get f 0 i = trunc f.width v := State.get_put_self ..
  refine ⟨?_, ?_, ?_, ?_, ?_, ?_⟩
  · exact hother _ _ _ _ _ (hother _ _ _ _ _ (hself _ _ _) (by decide)) (by decide)
  · exact hother _ _ _ _ _ (hother _ _ _ _ _ (hother _ _ _ _ _ (hother _ _ _ _ _ (hother _ _ _ _ _ (hself _ _ _) (by decide)) (by decide))
      (by decide)) (by decide)) (by decide)
  · exact hother _ _ _ _ _ (hother _ _ _ _ _ (hother _ _ _ _ _ (hother _ _ _ _ _ (hself _ _ _) (by decide)) (by decide)) (by decide)) (by decide)
  · refine hother _ _ _ _ _ (hother _ _ _ _ _ (hother _ _ _ _ _ ((hself _ _ _).trans ?_) (by decide)) (by decide)) (by decide)
    exact trunc_of_lt (boolNat_lt e.h)
  · exact hother _ _ _ _ _ (hself _ _ _) (by decide)
  · exact (hself _ _ _).trans (trunc_of_lt (Nat.mod_lt _ (by decide)))

/-! ### Words that wait for the ingress queue (R400) -/

theorem State.toIngress_ports (s : State) (p : Nat) (f : LFrame) : PortsOnly [] s (s.toIngress p f) := by
  unfold State.toIngress
  extract_lets x k
  split
  · exact .refl [] s
  · exact (PortOnly.setLport [] s p _).ports

/-- A frame with words joins the packets that wait. -/
theorem State.toIngress_waits (hp : p < s.lnk.port.length) (hne : f.payload ≠ []) : ((s.toIngress p f).lport p).ingress.pkts =
    (s.lport p).ingress.pkts ++ [{ ty := 16, words := f.payload, stream := f.stream, since := s.dtRef }] := by
  unfold State.toIngress
  extract_lets x k
  rw [if_neg (show ¬ k.words = [] from hne), State.lport_setLport_self hp]

/-! ### What an entry holds goes (R402, R403) -/

/-- The entry once it has delivered all it held up to its next DSEQ. -/
def LPair.past (e : LPair) : LPair := { e with next := (e.next + 1) % 65536, held := [], waitFrom := none }

/-- The entry with nothing held. -/
def LPair.bare (e : LPair) : LPair := { e with held := [], waitFrom := none }

theorem LPair.ahead_next (e : LPair) : e.ahead e.next = 0 := by
  rw [LPair.ahead, Nat.add_sub_cancel_left]

theorem LPair.tidy_empty (e : LPair) (now : Nat) (moved : Bool) (hheld : e.held = []) : e.tidy now moved = e.bare := by
  simp [LPair.tidy, LPair.bare, hheld]

/-- An entry that holds nothing delivers nothing. -/
theorem State.pairRun_bare (k : Nat) (s : State) (hheld : e.held = []) : State.pairRun (k + 1) s e = (s, e) := by
  rw [State.pairRun]
  simp [hheld]

/-- The next frame of the active copy, alone held, is delivered. -/
theorem State.pairRun_one (k : Nat) (s : State) (hrestore : e.restore = false) (hheld : e.held = [(e.next, e.active, f)])
    (hseq : f.dseq = e.next) (hnext : e.next < 65536) : State.pairRun (k + 2) s e = (s.toIngress e.port f, e.past) := by
  obtain ⟨origin, h, stream, port, next, active, held, ports, last, wait, whole, restore⟩ := e
  dsimp only at hrestore hheld hseq hnext
  subst hrestore hheld
  have hback : ¬ (next + 65536 - (next + 1) % 65536) % 65536 < 32768 := by omega
  rw [State.pairRun]
  simp only [Bool.false_and, State.cond_false, List.find?_cons, beq_self_eq_true, Bool.and_self, if_false, Bool.false_eq_true, State.pairOut,
    LPair.tidy, LPair.ahead, LPair.past, hseq, List.filter_cons, List.filter_nil, hback, decide_false, if_true]
  exact State.pairRun_bare _ _ rfl

/-- The primary takes control back at the DSEQ held from it. -/
theorem State.pairRun_restored (k : Nat) (s : State) (hrestore : e.restore = true) (hheld : e.held = [(e.next, 0, f)]) :
    State.pairRun (k + 1) s e =
      State.pairRun (k + 1) (s.put Reg.LNK_INT_RESTORED 1) { e with restore := false, active := 0, whole := none } := by
  rw [State.pairRun, State.pairRun]
  simp [hrestore, hheld]

end

end Sys2Proof.Machine
end

/-! ## Dual paths -/

section
namespace Sys2Proof.Machine

section
variable {s t u v : State} {i p : Nat} {e : LPair} {f : LFrame} {moved : Bool}

/-! ### An entry that settles -/

/-- An entry that holds nothing stays as it is. -/
theorem State.pairSettle_bare (hheld : e.held = []) : s.pairSettle i e moved = s.setPair i (some e.bare) := by
  rw [State.pairSettle, LPair.tidy_empty e _ _ hheld, State.pairRun_bare 129 s (e := e.bare) rfl]

/-- A frame that is next, alone held, stays through the tidying. -/
theorem LPair.tidy_next {c : Nat} (now : Nat) (hheld : e.held = [(e.next, c, f)]) :
    ∃ w, e.tidy now moved = { e with waitFrom := w } := by
  obtain ⟨origin, h, stream, port, next, active, held, ports, last, wait, whole, restore⟩ := e
  dsimp only at hheld
  subst hheld
  exact ⟨_, by simp [LPair.tidy, LPair.ahead]; rfl⟩

/-- An entry that holds its next frame of the active copy delivers it. -/
theorem State.pairSettle_delivers (hrestore : e.restore = false) (hheld : e.held = [(e.next, e.active, f)]) (hseq : f.dseq = e.next)
    (hnext : e.next < 65536) : s.pairSettle i e moved = (s.toIngress e.port f).setPair i (some e.past) := by
  obtain ⟨w, hw⟩ := LPair.tidy_next (moved := moved) s.dtRef hheld
  rw [State.pairSettle, hw, State.pairRun_one (e := { e with waitFrom := w }) 128 s hrestore hheld hseq hnext]
  rfl

/-- An entry that waits for the primary takes it back at the next frame held from it, which it delivers. -/
theorem State.pairSettle_restores (hrestore : e.restore = true) (hheld : e.held = [(e.next, 0, f)]) (hseq : f.dseq = e.next)
    (hnext : e.next < 65536) : s.pairSettle i e moved = ((s.put Reg.LNK_INT_RESTORED 1).toIngress e.port f).setPair i
      (some ({ e with restore := false, active := 0, whole := none } : LPair).past) := by
  obtain ⟨w, hw⟩ := LPair.tidy_next (moved := moved) s.dtRef hheld
  rw [State.pairSettle, hw, State.pairRun_restored (e := { e with waitFrom := w }) 129 s hrestore hheld,
    State.pairRun_one (e := { e with waitFrom := w, restore := false, active := 0, whole := none }) 128 _ rfl hheld hseq hnext]
  rfl

/-- What a delivery shows. -/
theorem State.delivered_shows (hnext : e.next < 65536) (ht : t = (s.toIngress e.port f).setPair i (some e.past)) :
    t.get Reg.LNK_DUAL_STATUS_ACTIVE 0 i = trunc 1 e.active ∧ t.get Reg.LNK_DUAL_DSEQ_DSEQ 0 i = e.next ∧ OnlyFields pairFields s t ∧
    t.dtRef = s.dtRef ∧ (e.port < s.lnk.port.length → f.payload ≠ [] → (t.lport e.port).ingress.pkts =
      (s.lport e.port).ingress.pkts ++ [{ ty := 16, words := f.payload, stream := f.stream, since := s.dtRef }]) := by
  have hports := s.toIngress_ports e.port f
  have hwaits := State.toIngress_waits (s := s) (p := e.port) (f := f)
  generalize s.toIngress e.port f = u at *
  obtain ⟨-, -, -, -, hactive, hdseq⟩ := u.setPair_shows i e.past
  obtain ⟨hkept, honly⟩ := u.setPair_facts i (some e.past)
  have hport := u.setPair_port i (some e.past)
  rw [← ht] at hkept honly hport hactive hdseq
  refine ⟨hactive, hdseq.trans ?_, (hports.only.mono nofun).trans honly, ?_, fun hlt hne => ?_⟩
  · show ((e.next + 1) % 65536 + 65535) % 65536 = e.next
    omega
  · exact (congrArg State.dtRef hkept :).trans (congrArg State.dtRef hports.kept :)
  · rw [State.lport, hport]
    exact hwaits hlt hne

/-! ### HOLD runs out (R402) -/

/-- The state in which a hold that began at `w` runs out. -/
def State.holdTime (s : State) (w : Nat) : State := s.advanceTo (w + s.get Reg.LNK_DUAL_CFG_HOLD)

/-- What a hold that runs out does to the entry. -/
def State.holdEnds (s : State) (i : Nat) (e : LPair) : State :=
  if e.held.any fun x => x.1 == e.next then s.failover i e
  else
    let n := (e.held.map fun x => e.ahead x.1).foldl min 65535
    let e := { e with next := (e.next + n) % 65536 }
    let own := e.held.any fun x => x.1 == e.next && x.2.1 == e.active
    let s := (s.lcount Reg.LNK_DUAL_SKIP_COUNT 0 0 n).put Reg.LNK_INT_DUAL_SKIP 1
    if own then s.pairSettle i e true
    else
      match e.held.find? fun x => x.1 == e.next with
      | some x => let q := s.pairOut e x.2.2; q.1.pairSettle i q.2 true
      | none => s.setPair i (some e)

theorem exec_dualHoldExpire {w : Nat} (hi : i < 64) (hpair : s.pair i = some e) (hwait : e.waitFrom = some w) :
    exec (.dualHoldExpire i) s = .next ((s.holdTime w).holdEnds i e) := by
  have hok : decide (i < 64) = true := decide_eq_true hi
  show need (decide (i < 64)) _ = _
  rw [hok, need_true]
  simp only [hpair]
  split
  · next h => exact absurd (hwait.symm.trans h) nofun
  · next w' h =>
    obtain rfl : w = w' := Option.some.inj (hwait.symm.trans h)
    rfl

theorem State.holdTime_facts (s : State) (w : Nat) : (s.holdTime w).lnk = s.lnk ∧ OnlyFields timeFields s (s.holdTime w) :=
  ⟨(congrArg State.lnk (s.advanceTo_eq _) :), (OnlyFields.refl _ s).advanceTo _ fun _ h => h⟩

/-- The other copy takes over where it holds the next DSEQ. -/
theorem dualHoldExpire_failover {w : Nat} (hi : i < 64) (hlen : s.lnk.port.length = 8)
    (hpair : s.pair i = some e) (hwait : e.waitFrom = some w) (hheld : e.held = [(e.next, 1 - e.active, f)]) (hactive : e.active < 2)
    (hport : e.port < 8) (hnext : e.next < 2 ^ 16) (hseq : f.dseq = e.next) (hne : f.payload ≠ []) : Does (.dualHoldExpire i) s fun t =>
      t.dtRef = (s.advanceTo (w + s.get Reg.LNK_DUAL_CFG_HOLD)).dtRef ∧ t.get Reg.LNK_INT_FAILOVER = 1 ∧
      t.get Reg.LNK_DUAL_STATUS_ACTIVE 0 i = 1 - e.active ∧ t.get Reg.LNK_DUAL_DSEQ_DSEQ 0 i = e.next ∧
      (t.lport e.port).ingress.pkts =
        (s.lport e.port).ingress.pkts ++ [{ ty := 16, words := f.payload, stream := f.stream, since := t.dtRef }] ∧
      t.get Reg.LNK_DUAL_SKIP_COUNT = s.get Reg.LNK_DUAL_SKIP_COUNT := by
  obtain ⟨hlnk, htime⟩ := s.holdTime_facts w
  have hexec := exec_dualHoldExpire hi hpair hwait
  rw [← State.holdTime]
  generalize s.holdTime w = u at *
  have hends : u.holdEnds i e = (u.put Reg.LNK_INT_FAILOVER 1).pairSettle i
      { e with active := 1 - e.active, whole := none, restore := false, waitFrom := some u.dtRef } false := by
    rw [State.holdEnds, if_pos (by simp [hheld]), State.failover]
  rw [State.pairSettle_delivers (e := { e with active := 1 - e.active, whole := none, restore := false, waitFrom := some u.dtRef }) rfl hheld hseq
    hnext] at hends
  obtain ⟨hact, hdseq, honly, hdt, hwaits⟩ := State.delivered_shows
    (e := { e with active := 1 - e.active, whole := none, restore := false, waitFrom := some u.dtRef }) hnext hends
  have hother : 1 - e.active < 2 := by omega
  have hlt : e.port < (u.put Reg.LNK_INT_FAILOVER 1).lnk.port.length := by
    show e.port < u.lnk.port.length
    rw [hlnk, hlen]
    exact hport
  have hux : (u.put Reg.LNK_INT_FAILOVER 1).lport e.port = s.lport e.port := congrArg (fun x : Lnk => x.port.getD e.port {}) hlnk
  refine .of_next hexec ⟨hdt, ?_, hact.trans (trunc_of_lt hother), hdseq, ?_, ?_⟩
  · exact (honly _ _ _ (by decide)).trans (State.get_put_self ..)
  · rw [hdt, ← hux]
    exact hwaits hlt hne
  · exact (honly _ _ _ (by decide)).trans ((State.get_put_of_id _ _ _ _ _ _ _ _ (by decide)).trans (htime _ _ _ (by decide)))

/-- Where the active copy holds a later DSEQ, the missing ones are skipped. -/
theorem dualHoldExpire_skips {w d : Nat} (hi : i < 64) (hpair : s.pair i = some e) (hwait : e.waitFrom = some w)
    (hheld : e.held = [(d, e.active, f)]) (hactive : e.active < 2) (hrestore : e.restore = false) (hnext : e.next < 2 ^ 16) (hd : d < 2 ^ 16)
    (hseq : f.dseq = d) (hne : d ≠ e.next) (hahead : (d + 65536 - e.next) % 65536 < 32768) : Does (.dualHoldExpire i) s fun t =>
      t.get Reg.LNK_DUAL_SKIP_COUNT = min (2 ^ 32 - 1) (s.get Reg.LNK_DUAL_SKIP_COUNT + (d + 65536 - e.next) % 65536) ∧
      t.get Reg.LNK_INT_DUAL_SKIP = 1 ∧ t.get Reg.LNK_DUAL_STATUS_ACTIVE 0 i = e.active ∧ t.get Reg.LNK_DUAL_DSEQ_DSEQ 0 i = d := by
  obtain ⟨hlnk, htime⟩ := s.holdTime_facts w
  have hexec := exec_dualHoldExpire hi hpair hwait
  generalize s.holdTime w = u at *
  have hmin : min 65535 (e.ahead d) = e.ahead d := by
    rw [LPair.ahead]
    omega
  have hnew : (e.next + e.ahead d) % 65536 = d := by
    rw [LPair.ahead]
    omega
  have hends : u.holdEnds i e =
      ((u.lcount Reg.LNK_DUAL_SKIP_COUNT 0 0 (e.ahead d)).put Reg.LNK_INT_DUAL_SKIP 1).pairSettle i { e with next := d } true := by
    rw [State.holdEnds, if_neg (by simp [hheld, hne])]
    simp only [hheld, List.map_cons, List.map_nil, List.foldl_cons, List.foldl_nil, hmin, hnew, List.any_cons, List.any_nil, beq_self_eq_true,
      Bool.and_self, Bool.or_false, if_true]
  rw [State.pairSettle_delivers (e := { e with next := d }) hrestore hheld hseq hd] at hends
  have hcount : RegsOnly [Reg.LNK_DUAL_SKIP_COUNT, Reg.LNK_INT_CNT_SAT] u (u.lcount Reg.LNK_DUAL_SKIP_COUNT 0 0 (e.ahead d)) :=
    .bump _ _ _ _ _ _ _ (by simp) (by simp)
  have hskip : (u.lcount Reg.LNK_DUAL_SKIP_COUNT 0 0 (e.ahead d)).get Reg.LNK_DUAL_SKIP_COUNT =
      min (u.get Reg.LNK_DUAL_SKIP_COUNT + e.ahead d) (2 ^ 32 - 1) := State.bump_get _ _ _ _ _ _ _ (by decide)
  generalize u.lcount Reg.LNK_DUAL_SKIP_COUNT 0 0 (e.ahead d) = v at *
  have hvlnk : v.lnk = u.lnk := (congrArg State.lnk hcount.1 :)
  obtain ⟨hact, hdseq, honly, -, -⟩ := State.delivered_shows (e := { e with next := d }) (s := v.put Reg.LNK_INT_DUAL_SKIP 1) hd hends
  rw [htime _ _ _ (by decide)] at hskip
  refine .of_next hexec ⟨?_, (honly _ _ _ (by decide)).trans (State.get_put_self ..), hact.trans (trunc_of_lt hactive), hdseq⟩
  rw [honly _ _ _ (by decide), State.get_put_of_id _ _ _ _ _ _ _ _ (by decide), hskip]
  exact Nat.min_comm ..

/-! ### Entries that come free and the primary's return (R402, R403) -/

/-- A command on a free entry does nothing. -/
theorem dual_free (hi : i < 64) (hpair : s.pair i = none) : (Does (.dualHoldExpire i) s fun t => t = s) ∧
    (Does (.dualPairExpire i) s fun t => t = s) ∧ (Does (.dualRestore i) s fun t => t = s) := by
  have hok : decide (i < 64) = true := decide_eq_true hi
  have h1 : exec (.dualHoldExpire i) s = .next s := by
    show need (decide (i < 64)) _ = _
    rw [hok, need_true, hpair]
  have h2 : exec (.dualPairExpire i) s = .next s := by
    show need (decide (i < 64)) _ = _
    rw [hok, need_true, hpair]
  have h3 : exec (.dualRestore i) s = .next s := by
    show need (decide (i < 64)) _ = _
    rw [hok, need_true, hpair]
  exact ⟨.of_next h1 rfl, .of_next h2 rfl, .of_next h3 rfl⟩

theorem State.setPair_none_only (s : State) (i : Nat) : OnlyFields (Reg.LNK_DUAL_STATUS_VALID :: timeFields) s (s.setPair i none) := by
  have hplace : OnlyFields (Reg.LNK_DUAL_STATUS_VALID :: timeFields) s { s with lnk := { s.lnk with pairs := s.lnk.pairs.set i none } } :=
    .of_regs rfl
  exact hplace.put _ _ _ _ (.head _)

/-- An entry without a frame for 10 s comes free. -/
theorem dualPairExpire_frees (hi : i < 64) (hpairs : s.lnk.pairs.length = 64) (hpair : s.pair i = some e) : Does (.dualPairExpire i) s fun t =>
    t.pair i = none ∧ t.get Reg.LNK_DUAL_STATUS_VALID 0 i = 0 ∧ t.dtRef = (s.advanceTo (e.last + 2500000000)).dtRef ∧
    Only (Reg.LNK_DUAL_STATUS_VALID :: timeFields) s t
      { s.advanceTo (e.last + 2500000000) with regs := t.regs, lnk := { s.lnk with pairs := s.lnk.pairs.set i none } } := by
  have hexec : exec (.dualPairExpire i) s = .next ((s.advanceTo (e.last + 2500000000)).setPair i none) := by
    have hok : decide (i < 64) = true := decide_eq_true hi
    show need (decide (i < 64)) _ = _
    rw [hok, need_true, hpair]
  have hlnk : (s.advanceTo (e.last + 2500000000)).lnk = s.lnk := (congrArg State.lnk (s.advanceTo_eq _) :)
  have htime : OnlyFields timeFields s (s.advanceTo (e.last + 2500000000)) := (OnlyFields.refl _ s).advanceTo _ fun _ h => h
  generalize s.advanceTo (e.last + 2500000000) = u at *
  refine .of_next hexec ⟨State.pair_setPair_self (by rw [hlnk, hpairs]; exact hi) none, u.setPair_none i,
    (congrArg State.dtRef (u.setPair_facts i none).1 :), ?_, ?_⟩
  · rw [← hlnk]
    exact (u.setPair_facts i none).1
  · exact (htime.mono fun _ h => .tail _ h).trans (u.setPair_none_only i)

/-- The state in which the primary of an entry has been clean for 10 s. -/
def State.restoreTime (s : State) (p w : Nat) : State := s.advanceTo (max w (s.lport p).clean + 2500000000)

theorem exec_dualRestore {d w : Nat} (hi : i < 64) (hpair : s.pair i = some e) (hport : e.ports.getD 0 none = some p)
    (hwhole : e.whole = some (d, w)) (hactive : e.active = 1) (hup : s.lupLow p = true) :
    exec (.dualRestore i) s = .next ((s.restoreTime p w).pairSettle i { e with restore := true } false) := by
  have hok : decide (i < 64) = true := decide_eq_true hi
  show need (decide (i < 64)) _ = _
  rw [hok, need_true]
  simp only [hpair, hport, hwhole]
  rw [if_pos ⟨hactive, hup⟩]
  rfl

/-- A primary that is clean again takes control back at the first DSEQ held from it, and waits for one until then. -/
theorem dualRestore_restores {d w : Nat} (hi : i < 64) (hpairs : s.lnk.pairs.length = 64) (hpair : s.pair i = some e)
    (hport : e.ports.getD 0 none = some p) (hwhole : e.whole = some (d, w)) (hactive : e.active = 1) (hup : s.lupLow p = true)
    (hnext : e.next < 2 ^ 16) :
    (e.held = [] → Does (.dualRestore i) s fun t => t.dtRef = (s.advanceTo (max w (s.lport p).clean + 2500000000)).dtRef ∧
      (t.pair i).map (fun x => (x.restore, x.active, x.next)) = some (true, 1, e.next)) ∧
    (e.held = [(e.next, 0, f)] → f.dseq = e.next → Does (.dualRestore i) s fun t =>
      t.get Reg.LNK_INT_RESTORED = 1 ∧ t.get Reg.LNK_DUAL_STATUS_ACTIVE 0 i = 0 ∧ t.get Reg.LNK_DUAL_DSEQ_DSEQ 0 i = e.next) := by
  have hexec := exec_dualRestore hi hpair hport hwhole hactive hup
  have hlnk : (s.restoreTime p w).lnk = s.lnk := (congrArg State.lnk (s.advanceTo_eq _) :)
  rw [← State.restoreTime]
  generalize s.restoreTime p w = u at *
  have hiu : i < u.lnk.pairs.length := by
    rw [hlnk, hpairs]
    exact hi
  refine ⟨fun hheld => ?_, fun hheld hseq => ?_⟩
  · rw [State.pairSettle_bare (e := { e with restore := true }) hheld] at hexec
    refine .of_next hexec ⟨(congrArg State.dtRef (u.setPair_facts i _).1 :), ?_⟩
    rw [State.pair_setPair_self hiu, Option.map_some]
    exact congrArg (fun a => some (true, a, e.next)) hactive
  · rw [State.pairSettle_restores (e := { e with restore := true }) rfl hheld hseq hnext] at hexec
    obtain ⟨hact, hdseq, honly, -, -⟩ := State.delivered_shows (s := u.put Reg.LNK_INT_RESTORED 1)
      (e := { e with restore := false, active := 0, whole := none }) (f := f) hnext rfl
    exact .of_next hexec ⟨(honly _ _ _ (by decide)).trans (State.get_put_self ..), hact, hdseq⟩

end

end Sys2Proof.Machine
end

/-! ## DATA frames -/

section
namespace Sys2Proof.Machine

section
variable {s t u v : State} {i p q seq tspec : Nat} {e : LPair} {f : LFrame} {tr : Trailer} {body : List Nat} {l : List Fld} {x : LPort}

/-- A port that has carried a DATA frame at `now`. -/
def LPort.carried (x : LPort) (now : Nat) : LPort := { x with dataAt := now }

/-- The port once it has taken the DATA frame that is next. -/
def State.dataPort (s : State) (p : Nat) (w : List Nat) : LPort := ((((s.lport p).heeded s.dtRef).carried s.dtRef).accepted false).wrote w

theorem State.dataPort_facts (s : State) (p : Nat) (w : List Nat) : (s.dataPort p w).ingress = (s.lport p).ingress ∧
    (s.dataPort p w).rxBuf = (s.lport p).rxBuf ∧ (s.dataPort p w).credit = 0 := ⟨rfl, rfl, rfl⟩

/-- A good DATA frame that is next is routed. -/
theorem Hears.lnkDataRx (h : Hears p tr s) (hgood : ({ ty := 1, seq := seq, tspec := tspec, body := body } : LFrame).good tr = true)
    (hseq : seq = (s.lport p).bulk.rx) :
    ∃ w u, PortOnly outstFields p (s.dataPort p w) s u ∧
      exec (.lnkDataRx p seq tspec body tr) s = .next (u.routeData p { ty := 1, tspec := tspec, body := body }) := by
  obtain ⟨v, hv, hrecv⟩ := h.lrecv hgood fun v => (v.setLport p ((v.lport p).carried v.dtRef)).lseq p false seq
    fun s => s.routeData p { ty := 1, tspec := tspec, body := body }
  have hport := hv.lport_self h.lt_length
  have hcarry := hv.trans (PortOnly.setLport outstFields v p ((v.lport p).carried v.dtRef))
  rw [hport, hv.dtRef] at hcarry hrecv
  generalize v.setLport p (((s.lport p).heeded s.dtRef).carried s.dtRef) = v' at *
  have hport' := hcarry.lport_self h.lt_length
  obtain ⟨w, u, hu, hlseq⟩ := State.lseq_next (s := v') (p := p) (seq := seq) false
    (fun s => s.routeData p { ty := 1, tspec := tspec, body := body }) (by rw [hcarry.length]; exact h.lt_length) (by rw [hport', hseq]; rfl)
  rw [hport'] at hu
  refine ⟨w, u, hcarry.trans (hu.mono nofun), ?_⟩
  have hok : decide (p < 8) = true := decide_eq_true h.lt
  show need (decide (p < 8)) _ = _
  rw [hok, need_true]
  refine congrArg _ (Eq.trans ?_ (hrecv.trans ?_))
  · rfl
  · exact hlseq

/-! ### A frame for another module (R400) -/

/-- A frame for another module. -/
def LFrame.passing (f : LFrame) (s : State) : Prop := f.tspec.testBit 17 = false ∧ bits f.tspec 18 12 ≠ s.moduleId

/-- The port LNK_ROUTE names for the frame, as the register reads. -/
def State.routeOf (s : State) (f : LFrame) : Nat :=
  bits (s.get Reg.LNK_ROUTE_PORTS (bits f.tspec 18 12 / 8)) (4 * (bits f.tspec 18 12 % 8)) 4

theorem State.routeData_passing (hpass : f.passing s) : s.routeData p f =
    if s.routeOf f < 8 ∧ s.lupLow (s.routeOf f) = true then
      (s.setLport p { s.lport p with rxBuf := (s.lport p).rxBuf ++ [(s.routeOf f, f)] }).feedPort (s.routeOf f)
    else (s.lcount Reg.LNK_NOROUTE_COUNT).put Reg.LNK_INT_NOROUTE 1 := by
  obtain ⟨hall, hdest⟩ := hpass
  have hnot : (bit f.tspec 17 || bits f.tspec 18 12 == s.moduleId) = false := by
    rw [show bit f.tspec 17 = false from hall, beq_eq_false_iff_ne.2 hdest]
    rfl
  rw [State.routeData]
  simp only [hnot, Bool.false_eq_true, if_false]
  by_cases hr : s.routeOf f < 8
  · have hroute : s.lnkRoute (bits f.tspec 18 12) = some (s.routeOf f) := if_pos hr
    simp only [hroute, hr, true_and]
  · have hroute : s.lnkRoute (bits f.tspec 18 12) = none := if_neg hr
    simp only [hroute, hr, false_and, if_false]

theorem PortOnly.routeOf (h : PortOnly l p x s t) (hl : Reg.LNK_ROUTE_PORTS.id ∉ l.map (·.id)) (f : LFrame) : t.routeOf f = s.routeOf f := by
  rw [State.routeOf, h.only _ _ _ hl, State.routeOf]

/-- A frame for another module is counted without a route, and waits for the port its route names. -/
theorem lnkDataRx_passes (h : Hears p tr s) (hgood : ({ ty := 1, seq := seq, tspec := tspec, body := body } : LFrame).good tr = true)
    (hseq : seq = (s.lport p).bulk.rx) (hall : tspec.testBit 17 = false) (hdest : bits tspec 18 12 ≠ s.moduleId) :
    let r := bits (s.get Reg.LNK_ROUTE_PORTS (bits tspec 18 12 / 8)) (4 * (bits tspec 18 12 % 8)) 4
    ((7 < r ∨ s.lupLow r = false) → Does (.lnkDataRx p seq tspec body tr) s fun t =>
      t.get Reg.LNK_NOROUTE_COUNT = min (2 ^ 32 - 1) (s.get Reg.LNK_NOROUTE_COUNT + 1) ∧ t.get Reg.LNK_INT_NOROUTE = 1 ∧
      (t.lport p).rxBuf = (s.lport p).rxBuf) ∧
    (r = q → q < 8 → s.lupLow q = true → (s.lport q).credit = 0 → Does (.lnkDataRx p seq tspec body tr) s fun t =>
      (t.lport p).rxBuf = (s.lport p).rxBuf ++ [(q, { ty := 1, tspec := tspec, body := body })] ∧
      t.get Reg.LNK_NOROUTE_COUNT = s.get Reg.LNK_NOROUTE_COUNT) := by
  obtain ⟨w, u, hu, hexec⟩ := h.lnkDataRx hgood hseq
  obtain ⟨-, hrx, hcredit⟩ := s.dataPort_facts p w
  have hport := hu.lport_self h.lt_length
  have hpass : ({ ty := 1, tspec := tspec, body := body } : LFrame).passing u := ⟨hall, by rw [hu.moduleId]; exact hdest⟩
  have hroute := hu.routeOf (by decide) { ty := 1, tspec := tspec, body := body }
  have hr : s.routeOf { ty := 1, tspec := tspec, body := body } =
      bits (s.get Reg.LNK_ROUTE_PORTS (bits tspec 18 12 / 8)) (4 * (bits tspec 18 12 % 8)) 4 := rfl
  rw [State.routeData_passing hpass, hroute, hu.lupLow (by decide)] at hexec
  dsimp only
  rw [← hr]
  generalize s.routeOf { ty := 1, tspec := tspec, body := body } = r at *
  refine ⟨fun hno => ?_, fun hq hq8 hup hcr => ?_⟩
  · have hnot : ¬ (r < 8 ∧ s.lupLow r = true) := by
      rintro ⟨h8, hup⟩
      rcases hno with hbig | hdown
      · omega
      · exact absurd hup (ne_true_of_eq_false hdown)
    rw [if_neg hnot] at hexec
    have hcount : RegsOnly [Reg.LNK_NOROUTE_COUNT, Reg.LNK_INT_CNT_SAT] u (u.lcount Reg.LNK_NOROUTE_COUNT) :=
      .bump _ _ _ _ _ _ _ (by simp) (by simp)
    have hget : (u.lcount Reg.LNK_NOROUTE_COUNT).get Reg.LNK_NOROUTE_COUNT = min (u.get Reg.LNK_NOROUTE_COUNT + 1) (2 ^ 32 - 1) :=
      State.bump_get _ _ _ _ _ _ _ (by decide)
    generalize u.lcount Reg.LNK_NOROUTE_COUNT = v at *
    refine .of_next hexec ⟨?_, State.get_put_self .., ?_⟩
    · rw [State.get_put_of_id _ _ _ _ _ _ _ _ (by decide), hget, hu.only _ _ _ (by decide)]
      exact Nat.min_comm ..
    · have hv : v.lport p = u.lport p := (congrArg (State.lport · p) hcount.1 :)
      exact (congrArg LPort.rxBuf (hv.trans hport)).trans hrx
  · subst hq
    rw [if_pos ⟨hq8, hup⟩, hport] at hexec
    have hwait := PortOnly.setLport [] u p { s.dataPort p w with rxBuf := (s.dataPort p w).rxBuf ++ [(r, { ty := 1, tspec := tspec, body := body })] }
    generalize u.setLport p { s.dataPort p w with rxBuf := (s.dataPort p w).rxBuf ++ [(r, { ty := 1, tspec := tspec, body := body })] } = v at *
    have hvport := hwait.lport_self (by rw [hu.length]; exact h.lt_length)
    have hcr' : (v.lport r).credit = 0 := by
      by_cases hrp : r = p
      · rw [hrp, hvport]
        exact hcredit
      · rw [hwait.lport_of_ne hrp, hu.lport_of_ne hrp]
        exact hcr
    rw [State.feedPort_of_noCredit hcr'] at hexec
    refine .of_next hexec ⟨?_, (hwait.only _ _ _ (by decide)).trans (hu.only _ _ _ (by decide))⟩
    rw [hvport, hrx]

/-! ### A frame for this module (R400, R402) -/

/-- The entry a frame of the primary copy has opened. -/
def LFrame.opened (f : LFrame) (p now : Nat) : LPair :=
  { origin := f.origin, h := f.h, stream := f.stream, port := p, next := (f.dseq + 1) % 65536, ports := [some p, none], last := now }

/-- The entry a frame of the primary copy opens delivers it at once. -/
theorem State.pairIn_opens (hcopy : f.copy = 0) :
    s.pairIn i { origin := f.origin, h := f.h, stream := f.stream, port := p, next := f.dseq } p f =
      (s.toIngress p f).setPair i (some (f.opened p s.dtRef)) := by
  rw [State.pairIn]
  simp only [hcopy, LPair.ahead, Nat.add_sub_cancel_left, Nat.mod_self, Nat.zero_ne_one, and_false, if_false, List.any_nil, Bool.or_false,
    Nat.reduceLeDiff, decide_false, Bool.false_eq_true, and_self, if_true, State.pairOut]
  rw [State.pairSettle_bare rfl]
  rfl

/-- With an empty table a frame of the primary copy opens entry 0 and its words wait for the ingress queue. -/
theorem State.deliverData_opens (hin : (s.topo.ingress.getD p none).isSome = true)
    (hfree : ((List.range 64).all fun i => (s.pair i).isNone) = true) (hcopy : f.copy = 0) :
    s.deliverData p f = (s.toIngress p f).setPair 0 (some (f.opened p s.dtRef)) := by
  have hnone (i : Nat) (hi : i ∈ List.range 64) : s.pair i = none := Option.isNone_iff_eq_none.1 (List.all_eq_true.1 hfree i hi)
  have hsame : ((List.range 64).find? fun i =>
      ((s.pair i).map fun e => e.origin == f.origin && e.h == f.h && e.stream == f.stream).getD false) = none :=
    List.find?_eq_none.2 fun i hi => by simp [hnone i hi]
  have hfirst : ((List.range 64).find? fun i => (s.pair i).isNone) = some 0 := by
    rw [List.range_succ_eq_map]
    exact List.find?_cons_of_pos (by simp [hnone 0 (by simp)])
  have hon : (s.topo.ingress.getD p none).isNone = false := by simpa [Option.isNone_eq_false_iff] using hin
  rw [State.deliverData]
  simp only [hon, Bool.false_eq_true, if_false, hsame, hfirst]
  exact State.pairIn_opens hcopy

theorem State.routeData_here (hdest : f.tspec.testBit 17 = true ∨ bits f.tspec 18 12 = s.moduleId) : s.routeData p f = s.deliverData p f := by
  refine if_pos ?_
  rw [Bool.or_eq_true, beq_iff_eq]
  exact hdest

/-- The first frame of a stream for this module opens its pair, and its words wait. -/
theorem lnkDataRx_opens {w0 : Nat} {l : List Nat} (h : Hears p tr s)
    (hgood : ({ ty := 1, seq := seq, tspec := tspec, body := w0 :: l } : LFrame).good tr = true) (hseq : seq = (s.lport p).bulk.rx)
    (hdest : tspec.testBit 17 = true ∨ bits tspec 18 12 = s.moduleId) (hpm : tspec.testBit 9 = false) (hcopy : tspec.testBit 16 = false)
    (hin : (s.topo.ingress.getD p none).isSome = true) (hl : l ≠ []) (hfree : ((List.range 64).all fun i => (s.pair i).isNone) = true) :
    Does (.lnkDataRx p seq tspec (w0 :: l) tr) s fun t =>
      (t.lport p).ingress.pkts = (s.lport p).ingress.pkts ++
        [{ ty := 16, words := l.map fun w => (w, false), stream := bits tspec 10 6, since := s.dtRef }] ∧
      t.get Reg.LNK_DUAL_STATUS_VALID 0 0 = 1 ∧ t.get Reg.LNK_DUAL_STATUS_ORIGIN 0 0 = bits w0 52 12 ∧
      t.get Reg.LNK_DUAL_STATUS_STREAM 0 0 = bits tspec 10 6 ∧ t.get Reg.LNK_DUAL_STATUS_H 0 0 = bits tspec 8 1 ∧
      t.get Reg.LNK_DUAL_STATUS_ACTIVE 0 0 = 0 ∧ t.get Reg.LNK_DUAL_DSEQ_DSEQ 0 0 = bits w0 36 16 := by
  obtain ⟨w, u, hu, hexec⟩ := h.lnkDataRx hgood hseq
  obtain ⟨hing, -, -⟩ := s.dataPort_facts p w
  have hport := hu.lport_self h.lt_length
  have htopo : u.topo = s.topo := (congrArg State.topo hu.kept :)
  have hpairs (i : Nat) : u.pair i = s.pair i := (congrArg (State.pair · i) hu.kept :)
  have hpayload : ({ ty := 1, tspec := tspec, body := w0 :: l } : LFrame).payload = l.map fun w => (w, false) :=
    if_neg (ne_true_of_eq_false hpm)
  have hcopy0 : ({ ty := 1, tspec := tspec, body := w0 :: l } : LFrame).copy = 0 := by
    rw [LFrame.copy, bits_one, hcopy]
    rfl
  rw [State.routeData_here (by rw [hu.moduleId]; exact hdest),
    State.deliverData_opens (by rw [htopo]; exact hin) (by simpa only [hpairs] using hfree) hcopy0] at hexec
  have hwaits := State.toIngress_waits (s := u) (p := p) (f := { ty := 1, tspec := tspec, body := w0 :: l }) (by rw [hu.length]; exact h.lt_length)
    (by rw [hpayload]; exact mt List.map_eq_nil_iff.1 hl)
  generalize u.toIngress p { ty := 1, tspec := tspec, body := w0 :: l } = v at *
  have hset := v.setPair_port 0 (some (({ ty := 1, tspec := tspec, body := w0 :: l } : LFrame).opened p u.dtRef))
  obtain ⟨hvalid, horigin, hstream, hhalf, hactive, hdseq⟩ :=
    v.setPair_shows 0 (({ ty := 1, tspec := tspec, body := w0 :: l } : LFrame).opened p u.dtRef)
  refine .of_next hexec ⟨?_, hvalid, horigin.trans (trunc_of_lt (Nat.mod_lt _ (by decide))), hstream.trans (trunc_of_lt (Nat.mod_lt _ (by decide))),
    ?_, hactive, hdseq.trans ?_⟩
  · rw [State.lport, hset]
    refine hwaits.trans ?_
    rw [hport, hing, hu.dtRef, hpayload]
    rfl
  · exact hhalf.trans (bits_one tspec 8).symm
  · have hlt : bits w0 36 16 < 65536 := Nat.mod_lt _ (by decide)
    show ((bits w0 36 16 + 1) % 65536 + 65535) % 65536 = bits w0 36 16
    omega

end

end Sys2Proof.Machine
end

/-! ## Routing, dual paths, flares, time words and low power -/

section
namespace Sys2Proof.Machine

/-- Settles O44: each clause is a rule of its own about the state that the frame, the timer or the command meets. A good frame on a port
without frames finds the port with the trailer heeded (`Hears.lrecv`), and what it does then is followed there. -/
theorem linkRoutingAndTime : Obligations.LinkRoutingAndTime := by
  unfold Obligations.LinkRoutingAndTime
  refine ⟨?_, ?_, ?_, ?_, ?_, ?_, ?_, ?_, ?_, ?_, ?_, ?_, ?_, ?_, ?_, ?_, ?_, ?_, ?_⟩
  · intro p seq tspec w0 l tr s hp hlen hup hdeaf hidle hb hr hc hgood hseq hdest hpm hcopy hin hl hfree _
    exact lnkDataRx_opens ⟨hp, hlen, hup, hdeaf, hidle, hb, hr, hc⟩ hgood hseq hdest hpm hcopy hin hl hfree
  · intro p q seq tspec body tr s hp hlen hup hdeaf hidle hb hr hc hgood hseq hall hdest
    exact lnkDataRx_passes ⟨hp, hlen, hup, hdeaf, hidle, hb, hr, hc⟩ hgood hseq hall hdest
  · intro i w f e s hi _ hlen hpair hwait hheld hactive _ hport hnext hseq hne
    exact dualHoldExpire_failover hi hlen hpair hwait hheld hactive hport hnext hseq hne
  · intro i w d f e s hi _ _ hpair hwait hheld hactive hrestore _ hnext hd hseq hne hahead
    exact dualHoldExpire_skips hi hpair hwait hheld hactive hrestore hnext hd hseq hne hahead
  · intro i s hi hpair
    exact dual_free hi hpair
  · intro i e s hi hpairs hpair
    exact dualPairExpire_frees hi hpairs hpair
  · intro i p d w f e s hi hpairs _ hpair hport hwhole hactive hup hnext _
    exact dualRestore_restores hi hpairs hpair hport hwhole hactive hup hnext
  · intro p seq w0 w1 w2 tr s hp hlen hup hdeaf hidle hb hr hc hgood hseq hown
    exact lnkFlareRx_own ⟨hp, hlen, hup, hdeaf, hidle, hb, hr, hc⟩ hgood hseq hown
  · intro p seq w0 w1 w2 l tr s hp hlen hup hdeaf hidle hb hr hc hgood hseq hty hor hlast hold
    exact lnkFlareRx_duplicate ⟨hp, hlen, hup, hdeaf, hidle, hb, hr, hc⟩ hgood hseq hty hor hlast hold
  · intro p q seq w0 w1 w2 tr s hp hlen hup hdeaf hidle hb hr hc hgood hseq hty hor hlast het hq hne hupq hidleq
    exact lnkFlareRx_noTime ⟨hp, hlen, hup, hdeaf, hidle, hb, hr, hc⟩ hgood hseq hty hor hlast het hq hne hupq hidleq
  · intro p seq w0 w1 w2 tr s hp hlen hup hdeaf hidle hb hr hc hgood hseq hty hor hlast het
    exact lnkFlareRx_arms ⟨hp, hlen, hup, hdeaf, hidle, hb, hr, hc⟩ hgood hseq hty hor hlast het
  · intro p sub s hp hlen
    refine ⟨timeFrame_down sub hp, fun hup _ hseq hid hlh hhops hses hfault => ?_⟩
    exact timeFrameSend_carries hp hlen hup hseq hid hlh hhops hses hfault
  · intro p w0 w1 w2 w3 sub tr s hp hlen hup hdeaf hidle hb hr hc hgood het
    exact lnkTimeRx_measures ⟨hp, hlen, hup, hdeaf, hidle, hb, hr, hc⟩ hgood het
  · intro p w0 w1 w2 w3 sub tr s hp hlen hup hdeaf hidle hb hr hc hgood het hecho hses
    exact lnkTimeRx_offset ⟨hp, hlen, hup, hdeaf, hidle, hb, hr, hc⟩ hgood het hecho hses
  · intro p s hp hlen hhere hses
    exact timeFrameMiss_counts hp hlen hhere hses
  · intro p s hp hlen
    refine ⟨fun hnot => .of_next ((exec_portSleep hp).trans (congrArg _ (if_neg hnot))) rfl, fun hboth => ?_⟩
    exact portSleep_sleeps hp hlen hboth
  · intro p tr s hp hlen hup hdeaf hidle hb hr hc hgood
    exact lnkCtrlSleep_sleeps ⟨hp, hlen, hup, hdeaf, hidle, hb, hr, hc⟩ hgood
  · intro p tr s hp hlen hup hdeaf hidle hb hr hc hgood
    exact lnkCtrlWake_wakes ⟨hp, hlen, hup, hdeaf, hidle, hb, hr, hc⟩ hgood
  · intro p s hp hlen
    exact portWakeComplete_wakes hp hlen

end Sys2Proof.Machine
end

end
